-- ==== Sys2Proof/Word.lean ====
section
/-! DEFINITION. The word types of the module: bytes, 32-bit register words (R34) and 48-bit station addresses. -/

namespace Sys2Proof

/-- A byte. -/
abbrev Byte := BitVec 8

/-- A register word (R34): pages hold 32-bit words. -/
abbrev Word := BitVec 32

/-- An Ethernet station address; byte 0 of the address is the most significant byte. -/
abbrev Mac := BitVec 48

/-- A 256-bit key of the key store (R393). -/
abbrev Key := BitVec 256

/-- A sparse table by number: pairs in rising order of the number. -/
abbrev KMap (α : Type) := List (Nat × α)

end Sys2Proof
end

