-- ==== Sys2Proof/Operand.lean ====
section
/-! DEFINITION. The operands of the commands: who makes an access, packets, frames and messages as they
reach the module, already cut into the fields the spec names. -/

namespace Sys2Proof

/-- The source of a page access, coded as PAGE_ERR_INFO.source (R39). -/
inductive Src
  | manager | pcie | udp | debug | internal
  deriving DecidableEq, Repr

/-- The two transports of the command port (R51). -/
inductive Transport
  | pcie | udp
  deriving DecidableEq, Repr

/-- The width of a page access (R34). -/
inductive Width
  | byte | half | word | dword
  deriving DecidableEq, Repr

/-- The bytes of a page that an access covers: where it begins, and how wide it is (R34). -/
structure Span where
  off   : BitVec 12
  width : Width := .word
  deriving DecidableEq, Repr

/-- A Vrelti packet of the command port (R46), the opcode apart: each row names its own opcode.
`payload` is what follows the header, `trailer` what follows the payload (the 32-byte HMAC when the
auth flag is set). `length` is the header's length field, which need not be the payload's. -/
structure VPacket where
  flags   : Byte := 0
  tag     : Byte := 0
  page    : Byte := 0
  length  : BitVec 16 := 0
  status  : Byte := 0
  rsv     : Byte := 0
  offset  : Word := 0
  fresh   : Word := 0
  payload : List Byte := []
  trailer : List Byte := []
  deriving DecidableEq, Repr

/-- A packet as fetched or reassembled whole: its opcode and the rest. -/
structure VCommand where
  opcode : Byte
  pk     : VPacket
  deriving DecidableEq, Repr

/-- What the host has written when it rings the doorbell (R55): the commands in the ring entries it passes, and its other writes to BAR0
since the last one (log 32). -/
structure HostWrites where
  cmds : List VCommand
  bar  : List (BitVec 13 × Word) := []
  deriving DecidableEq, Repr

/-- One datagram of the UDP transport (R57): the address and port it is sent to, its source, its segment header and its bytes. -/
structure UdpSegment where
  dst    : Word
  dport  : BitVec 16
  ip     : Word
  port   : BitVec 16
  packet : BitVec 16
  index  : Byte
  last   : Byte
  data   : List Byte
  deriving DecidableEq, Repr

/-- A packet of a partition ring or of the manager ring (R261, R266), the opcode apart. -/
structure RingPacket where
  flags   : Byte := 0
  tag     : Byte := 0
  page    : Byte := 0
  length  : BitVec 16 := 0
  status  : Byte := 0
  rsv     : Byte := 0
  offset  : Word := 0
  payload : List Byte := []
  deriving DecidableEq, Repr

/-- How a frame's FCS reads at the receiver (R295 check 4). -/
inductive Fcs
  | good | bad | stomp
  deriving DecidableEq, Repr

/-- A frame's tagging, classified by its first tag (R297). -/
inductive Tag
  | untagged
  | priority (pcp : Fin 8)
  | ctag (vid : Fin 4096) (pcp : Fin 8)
  | stacked
  deriving DecidableEq, Repr

/-- The MACsec protection of a received frame (R295, R311): explicit SCI, packet number, ICV over `covered`. -/
structure SecTag where
  sci     : BitVec 64
  pn      : Nat
  icv     : BitVec 128
  covered : List Byte
  deriving DecidableEq, Repr

/-- The redundancy trailer or tag of a frame (R306, R309). `sizeOk`: its LSDU size equals the frame's. -/
inductive RedTag
  | plain
  | prp (seq : BitVec 16) (lanB : Bool) (sizeOk : Bool)
  | hsr (seq : BitVec 16)
  deriving DecidableEq, Repr

/-- One ASDU of a savPdu (R120). `seqBytes` is the length of its seqData; a channel is an INT32 and a
32-bit quality word. -/
structure Asdu where
  svid     : List Byte
  confRev  : Word
  smpCnt   : Nat
  smpRate  : Option Nat
  smpSynch : Byte
  seqBytes : Nat
  chans    : List (BitVec 32 × BitVec 32)
  deriving DecidableEq, Repr

/-- An IEC 62351-6 extension: the bytes it covers and the authentication value it carries. -/
structure AuthExt where
  covered : List Byte
  value   : List Byte
  deriving DecidableEq, Repr

/-- A sampled-value APDU (R117, R120). -/
structure SvApdu where
  appid    : BitVec 16
  lenOk    : Bool
  reserved : BitVec 15
  sim      : Bool
  ext      : Option AuthExt
  decodes  : Bool
  noAsdu   : Nat
  asdus    : List Asdu
  deriving DecidableEq, Repr

/-- One received GOOSE data-set member: its type (coded as in PUB object 1), value and 61850-7-3 quality. -/
structure GooseMember where
  kind  : Nat
  value : BitVec 32
  qual  : BitVec 13
  deriving DecidableEq, Repr

/-- A GOOSE APDU (R200, R223). `utc` and `quality` are its t: station time in ns and the TimeQuality octet. -/
structure GooseApdu where
  appid   : BitVec 16
  lenOk   : Bool
  sim     : Bool
  ext     : Option AuthExt
  gocbRef : List Byte
  datSet  : List Byte
  goId    : List Byte
  confRev : Word
  entries : Nat
  stNum   : Word
  sqNum   : Word
  utc     : Int
  quality : Byte
  tal     : Nat
  members : List GooseMember
  ndsCom  : Bool := false
  deriving DecidableEq, Repr

/-- The messageType of a PTP message (R108 check 4). -/
inductive PtpType
  | announce | sync | followUp | pdelayReq | pdelayResp | pdelayRespFollowUp | other
  deriving DecidableEq, Repr

/-- The data an Announce carries for BMCA. -/
structure PtpAnnounce where
  priority1    : Byte
  clockClass   : Byte
  accuracy     : Byte
  variance     : BitVec 16
  priority2    : Byte
  gmIdentity   : BitVec 64
  stepsRemoved : BitVec 16
  tlvs         : List Byte
  deriving DecidableEq, Repr

/-- A PTP message (R105, R108). `rxAt` is the timebase instant at which a received frame passed the MAC's capture point (R109); `stamp`
is the timestamp the message carries, in ns; `corr` its correctionField in ns. -/
structure PtpMsg where
  version   : Nat
  lenOk     : Bool
  domain    : Byte
  kind      : PtpType
  twoStep   : Bool
  corr      : Int
  clockId   : BitVec 64
  portNum   : BitVec 16
  seqId     : BitVec 16
  logInt    : Int
  stamp     : Int
  rxAt      : Nat
  ann       : PtpAnnounce
  deriving DecidableEq, Repr

/-- A twin witness frame's payload (R248) and the bytes its authentication covers. -/
structure WitnessPdu where
  state     : Fin 16
  unit      : Bool
  plaitUp   : Bool
  inStep    : Bool
  boot      : BitVec 16
  sent      : BitVec 48
  tick      : BitVec 64
  leadSince : BitVec 64
  config    : BitVec 64
  covered   : List Byte
  auth      : BitVec 128
  deriving DecidableEq, Repr

/-- What a frame carries after its address, tag and EtherType. -/
inductive Payload
  | sv (a : SvApdu)
  | goose (a : GooseApdu)
  | ptp (p : PtpMsg)
  | pause (opcode : BitVec 16) (quanta : BitVec 16)
  | lldp (partnerRxTw : Option (BitVec 16)) (ttl : BitVec 16)
  | witness (w : WitnessPdu)
  | supervision
  | data (bytes : List Byte)
  deriving DecidableEq, Repr

/-- An Ethernet frame at a port. `len` counts bytes from destination address to FCS; `codeErr` says that
the PCS saw a code-group or block error. -/
structure Frame where
  dst     : Mac
  src     : Mac
  tag     : Tag
  etype   : BitVec 16
  len     : Nat
  fcs     : Fcs
  codeErr : Bool
  sec     : Option SecTag
  red     : RedTag
  body    : Payload
  deriving DecidableEq, Repr

/-- The link header of a Plait frame (R230, R231): lane, lane sequence, acknowledgement, link sequence, and
the MACsec protection of the lane. -/
structure PlaitHdr where
  lane    : Fin 2
  laneSeq : BitVec 16
  ack     : BitVec 16
  linkSeq : BitVec 32
  sec     : SecTag
  deriving DecidableEq, Repr

/-- A channel value with its 16-bit sample quality (R136). -/
structure Chan where
  val  : Int
  qual : BitVec 16
  deriving DecidableEq, Repr

/-- The committed samples of one stream for one tick. -/
structure StreamSample where
  stream : Nat
  chans  : List Chan
  deriving DecidableEq, Repr

/-- A GOOSE subscription event exchanged in a DESC or COMB (R236). -/
structure SubEvent where
  sub     : Nat
  expired : Bool
  stNum   : Word
  sqNum   : Word
  members : List GooseMember
  deriving DecidableEq, Repr

/-- HELLO contents (R230). -/
structure HelloMsg where
  unit      : Bool
  pref      : Bool
  state     : Fin 16
  config    : BitVec 256
  leadSince : BitVec 64
  tick      : BitVec 64
  nominal   : Int
  deriving DecidableEq, Repr

/-- DESC contents (R140, R230): per present stream its CRC-32C. -/
structure DescMsg where
  group   : Fin 64
  tick    : BitVec 64
  nominal : Int
  present : List (Nat × Word)
  events  : List SubEvent
  deriving DecidableEq, Repr

/-- COMB contents (R235): the combined set, and the streams each module must send. -/
structure CombMsg where
  group    : Fin 64
  tick     : BitVec 64
  streams  : List Nat
  leadSend : List Nat
  follSend : List Nat
  leadWins : List Nat
  events   : List SubEvent
  deriving DecidableEq, Repr

/-- The state of a slot carried in a CUT (R242). -/
structure CutMsg where
  slot       : Fin 4096
  tick       : BitVec 64
  state      : Fin 4
  primed     : Bool
  consec     : Byte
  area       : List Byte
  latchTick  : Option (BitVec 64)
  deriving DecidableEq, Repr

/-- The energy latch of a copy (R243): per point, six accumulators and wrap counters. -/
structure EnergyLatch where
  point : Nat
  accs  : List Nat
  wraps : List Nat
  deriving DecidableEq, Repr

/-- CEND contents (R244). -/
structure CendMsg where
  count  : Nat
  latch  : List EnergyLatch
  digest : BitVec 64
  deriving DecidableEq, Repr

/-- FREC contents (R230, R242): a frame the lead built, with its block and numbers. -/
structure FrecMsg where
  block   : Fin 1024
  stNum   : Word
  sqNum   : Word
  pairSeq : BitVec 16
  changed : Bool
  tick    : BitVec 64
  fr      : Frame
  deriving DecidableEq, Repr

/-- An occurrence handed to the recorder (R374): its source page, code, severity, attribution, time tag and
snapshot words. -/
structure CoilEvent where
  page : Byte
  code : BitVec 12
  sev  : Fin 8
  attr : BitVec 16
  tag  : Word
  snap : List Word
  deriving DecidableEq, Repr

/-- The header of a Warp transaction (R63). `addr` is not present on the response channel, `status` not on the request channel. -/
structure WarpHdr where
  origin : Byte
  dest   : Byte
  op     : BitVec 4
  tag    : BitVec 10
  part   : BitVec 7
  addr   : BitVec 40
  length : BitVec 13
  status : BitVec 4
  time   : Word
  deriving DecidableEq, Repr

/-- The kinds of a crossing (R80). -/
inductive XKind
  | stream | value | count | event
  deriving DecidableEq, Repr

/-- A handshake the hang watchdog finds without acknowledge (R71): on a Warp channel or in the switch core, with the header of its
transaction and the instant at which the handshake began, or of one kind of a crossing (R73, R80). -/
inductive Stall
  | request (h : WarpHdr) (raised : Nat)
  | response (h : WarpHdr) (raised : Nat)
  | crossing (x : Fin 36) (k : XKind) (h : WarpHdr)
  | switchCore (h : WarpHdr) (raised : Nat)
  deriving DecidableEq, Repr

/-- The messages a PTP interval sends (R105). -/
inductive PtpTx
  | announce | sync | pdelayReq
  deriving DecidableEq, Repr

/-- How one transaction of a transfer ended (R271). -/
inductive PieceEnd
  | ok | ecc | watchdog
  deriving DecidableEq, Repr

/-- An IRIG-B frame as received (R113): its format B000–B007, the widths of its elements in ns, and the distance in ns of the leading
edge of the reference marker from the PPS edge. -/
structure IrigFrame where
  fmt      : Fin 8
  widths   : List Nat
  edgeDist : Nat
  deriving DecidableEq, Repr

/-- What the parts outside the register model bring to a start (R410): whether memory and the key store come
up, the security versions and validity of the two banks as the boot ROM finds them, and the lid contact. -/
structure BootInput where
  memoryOk : Bool
  valid0   : Bool
  valid1   : Bool
  lidOpen  : Bool
  deriving DecidableEq, Repr

/-- A message of the Plait link (R230). -/
inductive PlaitMsg
  | hello (m : HelloMsg)
  | keep
  | desc (m : DescMsg)
  | comb (m : CombMsg)
  | samp (group tick : Nat) (s : StreamSample)
  | tdig (group tick : Nat) (digest : BitVec 64)
  | rdig (slot tick : Nat) (digest : BitVec 64)
  | fdig (block stNum sqNum pairSeq : Nat) (digest : BitVec 64)
  | swap (tick : Nat)
  | frec (m : FrecMsg)
  | cut (m : CutMsg)
  | cend (m : CendMsg)
  | cack (ok : Bool)
  deriving DecidableEq, Repr

end Sys2Proof
end

