-- ==== Sys2Proof/Syntax.lean ====
section
/-! DEFINITION. The commands of the module: one constructor for each row of spec/opcode_table.json, in the
table's order. Every command carries `t`, the timebase instant in nanoseconds at which it happens (log 1). -/

namespace Sys2Proof

/-- The commands. Each docstring cites the rule the row names. -/
inductive Instr
  /-- R10: REGISTER_WRITE. -/
  | registerWrite (t : Nat) (src : Src) (page : BitVec 8) (off : BitVec 12) (w : Width) (v : BitVec 64)
  /-- R94: LOW_WORD_CAPTURE_READ. -/
  | lowWordCaptureRead (t : Nat) (src : Src) (page : BitVec 8) (r : Span)
  /-- R111: PTP_TXS3_READ. -/
  | ptpTxs3Read (t : Nat) (src : Src)
  /-- R41: PAGE_LOCK_COMMIT. -/
  | pageLockCommit (t : Nat) (src : Src) (page : BitVec 8)
  /-- R43: PAGE_LOCK_UNLOCK. -/
  | pageLockUnlock (t : Nat) (src : Src) (page : BitVec 8)
  /-- R37: SOFT_RESET. -/
  | softReset (t : Nat) (src : Src) (page : BitVec 8)
  /-- R37: SOFT_RESET_COMPLETE. -/
  | softResetComplete (t : Nat) (page : BitVec 8)
  /-- R55: PCIE_CMD_DOORBELL. -/
  | pcieCmdDoorbell (t : Nat) (prod : BitVec 5) (w : HostWrites)
  /-- R56: PCIE_RESPONSE_CONSUMED. -/
  | pcieResponseConsumed (t : Nat) (cons : BitVec 5)
  /-- R426: PCIE_PERST. -/
  | pciePerst (t : Nat)
  /-- R57: UDP_SEGMENT. -/
  | udpSegment (t : Nat) (seg : UdpSegment)
  /-- R47: PARTIAL_PACKET_TIMEOUT. -/
  | partialPacketTimeout (t : Nat) (tr : Transport) (opcode : Byte) (hdr : Option VPacket) (ip : Word) (port : BitVec 16) (packet : BitVec 16)
  /-- R52: REG_READ. -/
  | regRead (t : Nat) (tr : Transport) (pk : VPacket)
  /-- R52: REG_WRITE. -/
  | regWrite (t : Nat) (tr : Transport) (pk : VPacket)
  /-- R51: REG_RMW. -/
  | regRmw (t : Nat) (tr : Transport) (pk : VPacket)
  /-- R41: COMMIT. -/
  | vreltiCommit (t : Nat) (tr : Transport) (pk : VPacket)
  /-- R43: UNLOCK. -/
  | vreltiUnlock (t : Nat) (tr : Transport) (pk : VPacket)
  /-- R179: ADMIT. -/
  | vreltiAdmit (t : Nat) (tr : Transport) (pk : VPacket)
  /-- R54: BULK_READ. -/
  | bulkRead (t : Nat) (tr : Transport) (pk : VPacket)
  /-- R54: BULK_WRITE. -/
  | bulkWrite (t : Nat) (tr : Transport) (pk : VPacket)
  /-- R413: IMAGE_LOAD. -/
  | imageLoad (t : Nat) (tr : Transport) (pk : VPacket)
  /-- R413: IMAGE_VERIFY_DONE. -/
  | imageVerifyDone (t : Nat)
  /-- R405: FW_LOAD. -/
  | fwLoad (t : Nat) (tr : Transport) (pk : VPacket)
  /-- R405: FW_VERIFY_DONE. -/
  | fwVerifyDone (t : Nat)
  /-- R396: KEY_LOAD. -/
  | keyLoad (t : Nat) (tr : Transport) (pk : VPacket)
  /-- R395: KEY_LOAD_FLASH_DONE. -/
  | keyLoadFlashDone (t : Nat) (ok : Bool)
  /-- R51: NOP. -/
  | nop (t : Nat) (tr : Transport) (pk : VPacket)
  /-- R60: COMMAND_TIMEOUT. -/
  | commandTimeout (t : Nat) (tr : Transport) (tag : BitVec 5)
  /-- R59: STORED_RESPONSE_EXPIRY. -/
  | storedResponseExpiry (t : Nat) (tr : Transport) (tag : BitVec 5)
  /-- R179: ADM_CTRL_ADMIT. -/
  | admCtrlAdmit (t : Nat) (src : Src)
  /-- R179: ADM_CTRL_CHECK. -/
  | admCtrlCheck (t : Nat) (src : Src)
  /-- R187: ADMISSION_COMPLETE. -/
  | admissionComplete (t : Nat)
  /-- R176: SHARE_FRAME_BOUNDARY. -/
  | shareFrameBoundary (t : Nat)
  /-- R176: MANAGER_WINDOW_END. -/
  | managerWindowEnd (t : Nat)
  /-- R71: HANG_WATCHDOG_EXPIRY. -/
  | hangWatchdogExpiry (t : Nat) (st : Stall)
  /-- R82: CROSSING_TRANSFER_DONE. -/
  | crossingTransferDone (t : Nat) (x : Fin 36) (k : XKind)
  /-- R85: CROSSING_EVENT_ARRIVAL. -/
  | crossingEventArrival (t : Nat) (x : Fin 36) (code : Word) (tag : Word)
  /-- R75: PACE_WINDOW_END. -/
  | paceWindowEnd (t : Nat) (counts : List (Option (BitVec 16)))
  /-- R74: PACE_CLR_MINMAX. -/
  | paceClrMinmax (t : Nat) (src : Src)
  /-- R92: TIME_TAG_WRAP. -/
  | timeTagWrap (t : Nat)
  /-- R99: SOURCE_MEASUREMENT. -/
  | sourceMeasurement (t : Nat) (source : Fin 3) (offset : Int)
  /-- R99: SLEW_COMPLETE. -/
  | slewComplete (t : Nat)
  /-- R98: PRIMARY_RETURN_HOLD_EXPIRY. -/
  | primaryReturnHoldExpiry (t : Nat)
  /-- R101: BRIDGING_ENTRY_EXPIRY. -/
  | bridgingEntryExpiry (t : Nat)
  /-- R101: HOLDOVER_LIMIT_EXPIRY. -/
  | holdoverLimitExpiry (t : Nat)
  /-- R108: PTP_FRAME_RX. -/
  | ptpFrameRx (t : Nat) (port : Fin 16) (fr : Frame)
  /-- R97: ANNOUNCE_RECEIPT_TIMEOUT. -/
  | announceReceiptTimeout (t : Nat) (dom : Fin 2)
  /-- R97: SYNC_LOSS_BUDGET_EXPIRY. -/
  | syncLossBudgetExpiry (t : Nat) (dom : Fin 2)
  /-- R105: PTP_TX_INTERVAL_EXPIRY. -/
  | ptpTxIntervalExpiry (t : Nat) (dom : Fin 2) (k : PtpTx)
  /-- R112: PPS_IN_EDGE. -/
  | ppsInEdge (t : Nat) (highNs : Nat)
  /-- R112: PPS_IN_TIMEOUT. -/
  | ppsInTimeout (t : Nat)
  /-- R113: IRIGB_FRAME. -/
  | irigbFrame (t : Nat) (fr : IrigFrame)
  /-- R114: REF10M_GATE_END. -/
  | ref10mGateEnd (t : Nat) (off : Int)
  /-- R114: REF10M_EDGE_LOSS. -/
  | ref10mEdgeLoss (t : Nat)
  /-- R115: STATION_SECOND_BOUNDARY. -/
  | stationSecondBoundary (t : Nat)
  /-- R115: PPS_OUT_WIDTH_END. -/
  | ppsOutWidthEnd (t : Nat)
  /-- R123: TICK_NOMINAL_TIME. -/
  | tickNominalTime (t : Nat)
  /-- R120: SV_FRAME. -/
  | svFrame (t : Nat) (fr : Frame) (port : Fin 16) (arrival : Nat)
  /-- R125: TICK_WINDOW_EXPIRY. -/
  | tickWindowExpiry (t : Nat) (group : Fin 64)
  /-- R130: STREAM_TIMEOUT. -/
  | streamTimeout (t : Nat) (sub : Fin 2048)
  /-- R235: COMB_WAIT_EXPIRY. -/
  | combWaitExpiry (t : Nat) (group : Fin 64)
  /-- R235: EQ_COMB_TIMEOUT. -/
  | eqCombTimeout (t : Nat) (group : Fin 64)
  /-- R168: MSR_TICK_SET_TAKE. -/
  | msrTickSetTake (t : Nat)
  /-- R168: MSR_TICK_SET_DONE. -/
  | msrTickSetDone (t : Nat)
  /-- R190: RELEASE_DEFERRAL_EXPIRY. -/
  | releaseDeferralExpiry (t : Nat) (slot : Fin 4096)
  /-- R156: TRACKER_HOLD_EXPIRY. -/
  | trackerHoldExpiry (t : Nat) (trk : Fin 16)
  /-- R160: TEMP_SOURCE_HOLD_EXPIRY. -/
  | tempSourceHoldExpiry (t : Nat) (ts : Fin 64)
  /-- R170: MSR_CLR_EXTREMES. -/
  | msrClrExtremes (t : Nat) (src : Src)
  /-- R193: BUDGET_EXHAUSTED. -/
  | budgetExhausted (t : Nat) (slot : Fin 4096)
  /-- R264: PWIN_CMD_PROD_WRITE. -/
  | pwinCmdProdWrite (t : Nat) (part : Fin 64) (v : Word)
  /-- R263: PWIN_CPL_CONS_WRITE. -/
  | pwinCplConsWrite (t : Nat) (part : Fin 64) (v : Word)
  /-- R264: PWIN_MR_CONS_WRITE. -/
  | pwinMrConsWrite (t : Nat) (part : Fin 64) (v : Word)
  /-- R274: PWIN_IRQ_WRITE. -/
  | pwinIrqWrite (t : Nat) (part : Fin 64) (off : BitVec 16) (v : Word)
  /-- R260: PWIN_CONFIG_WRITE. -/
  | pwinConfigWrite (t : Nat) (part : Fin 64) (off : BitVec 16) (v : Word)
  /-- R194: RESULT. -/
  | result (t : Nat) (part : Fin 64) (slot : Fin 4096) (pk : RingPacket)
  /-- R194: YIELD. -/
  | yieldJob (t : Nat) (part : Fin 64) (slot : Fin 4096) (pk : RingPacket)
  /-- R268: XFER. -/
  | xfer (t : Nat) (part : Fin 64) (pk : RingPacket)
  /-- R271: TRANSFER_PIECE_DONE. -/
  | transferPieceDone (t : Nat) (part : Fin 64) (tag : Fin 8) (e : PieceEnd)
  /-- R262: VNIC_TX. -/
  | vnicTx (t : Nat) (part : Fin 64) (pk : RingPacket)
  /-- R261: PNOP. -/
  | pnop (t : Nat) (part : Fin 64) (pk : RingPacket)
  /-- R275: IRQ_TOKEN_REFILL. -/
  | irqTokenRefill (t : Nat) (part : Fin 64)
  /-- R259: PARTITION_START. -/
  | partitionStart (t : Nat) (src : Src) (part : Fin 64)
  /-- R277: PARTITION_RESET. -/
  | partitionReset (t : Nat) (src : Src) (part : Fin 64)
  /-- R277: PARTITION_RESET_COMPLETE. -/
  | partitionResetComplete (t : Nat) (part : Fin 64)
  /-- R280: SLOT_RESET. -/
  | slotReset (t : Nat) (src : Src) (slot : Fin 4096)
  /-- R286: FREEZE. -/
  | freeze (t : Nat) (src : Src)
  /-- R286: FROZEN_ENTRY. -/
  | frozenEntry (t : Nat) (part : Fin 64)
  /-- R287: THAW. -/
  | thaw (t : Nat) (src : Src)
  /-- R287: BLACKOUT_EXPIRY. -/
  | blackoutExpiry (t : Nat)
  /-- R266: MGR_RING_DOORBELL. -/
  | mgrRingDoorbell (t : Nat) (src : Src) (prod : BitVec 16) (pks : List RingPacket)
  /-- R283: DRT_REARM. -/
  | drtRearm (t : Nat) (src : Src)
  /-- R197: SLOT_RESUME. -/
  | slotResume (t : Nat) (src : Src)
  /-- R197: SLOT_CLR_MAX. -/
  | slotClrMax (t : Nat) (src : Src)
  /-- R220: PUB_FRAME_BUILD. -/
  | pubFrameBuild (t : Nat)
  /-- R205: GOOSE_RETRANSMISSION_DUE. -/
  | gooseRetransmissionDue (t : Nat) (block : Fin 1024)
  /-- R214: COMPARE_EXPIRY. -/
  | compareExpiry (t : Nat) (block : Fin 1024)
  /-- R223: GOOSE_FRAME_RX. -/
  | gooseFrameRx (t : Nat) (fr : Frame) (port : Fin 16) (arrival : Nat)
  /-- R224: GOOSE_SUB_TAL_EXPIRY. -/
  | gooseSubTalExpiry (t : Nat) (sub : Fin 4096)
  /-- R228: PLAIT_LANE_LOCK_CHANGE. -/
  | plaitLaneLockChange (t : Nat) (lane : Fin 2) (lock : Bool)
  /-- R228: PLAIT_LANE_LOCK_HOLD_EXPIRY. -/
  | plaitLaneLockHoldExpiry (t : Nat) (lane : Fin 2)
  /-- R231: PLAIT_REPLAY_EXPIRY. -/
  | plaitReplayExpiry (t : Nat) (lane : Fin 2)
  /-- R233: PLAIT_SUPERVISION_EXPIRY. -/
  | plaitSupervisionExpiry (t : Nat)
  /-- R230: HELLO_INTERVAL. -/
  | helloInterval (t : Nat)
  /-- R230: KEEP_IDLE_EXPIRY. -/
  | keepIdleExpiry (t : Nat) (lane : Fin 2)
  /-- R226: HELLO. -/
  | hello (t : Nat) (h : PlaitHdr) (msg : HelloMsg)
  /-- R233: KEEP. -/
  | keep (t : Nat) (h : PlaitHdr)
  /-- R235: DESC. -/
  | desc (t : Nat) (h : PlaitHdr) (msg : DescMsg)
  /-- R235: COMB. -/
  | comb (t : Nat) (h : PlaitHdr) (msg : CombMsg)
  /-- R140: SAMP. -/
  | samp (t : Nat) (h : PlaitHdr) (group : Fin 64) (tick : BitVec 64) (smp : StreamSample)
  /-- R237: TDIG. -/
  | tdig (t : Nat) (h : PlaitHdr) (group : Fin 64) (tick : BitVec 64) (digest : BitVec 64)
  /-- R237: RDIG. -/
  | rdig (t : Nat) (h : PlaitHdr) (slot : Fin 4096) (tick : BitVec 64) (digest : BitVec 64)
  /-- R214: FDIG. -/
  | fdig (t : Nat) (h : PlaitHdr) (block : Fin 1024) (stNum : Word) (sqNum : Word) (pairSeq : BitVec 16) (digest : BitVec 64)
  /-- R254: SWAP. -/
  | swap (t : Nat) (h : PlaitHdr) (tick : BitVec 64)
  /-- R254: SWAP_TICK. -/
  | swapTick (t : Nat)
  /-- R242: FREC. -/
  | frec (t : Nat) (h : PlaitHdr) (msg : FrecMsg)
  /-- R242: CUT. -/
  | cut (t : Nat) (h : PlaitHdr) (msg : CutMsg)
  /-- R244: CEND. -/
  | cend (t : Nat) (h : PlaitHdr) (msg : CendMsg)
  /-- R244: CACK. -/
  | cack (t : Nat) (h : PlaitHdr) (ok : Bool)
  /-- R245: COPY_SETTLE_TIMEOUT. -/
  | copySettleTimeout (t : Nat)
  /-- R245: COPY_RETRY_EXPIRY. -/
  | copyRetryExpiry (t : Nat)
  /-- R248: WITNESS_INTERVAL. -/
  | witnessInterval (t : Nat)
  /-- R249: WITNESS_FRAME_RX. -/
  | witnessFrameRx (t : Nat) (port : Fin 16) (fr : Frame)
  /-- R250: WITNESS_TIMEOUT. -/
  | witnessTimeout (t : Nat)
  /-- R226: SEARCH_EXPIRY. -/
  | searchExpiry (t : Nat)
  /-- R254: REVERT_HOLD_EXPIRY. -/
  | revertHoldExpiry (t : Nat)
  /-- R254: TWN_CMD_SWAP. -/
  | twnCmdSwap (t : Nat) (src : Src)
  /-- R246: TWN_CMD_LEAD. -/
  | twnCmdLead (t : Nat) (src : Src)
  /-- R255: TWN_CMD_REJOIN. -/
  | twnCmdRejoin (t : Nat) (src : Src)
  /-- R295: MAC_FRAME_RX. -/
  | macFrameRx (t : Nat) (port : Fin 16) (fr : Frame)
  /-- R293: LINK_LOCK_CHANGE. -/
  | linkLockChange (t : Nat) (port : Fin 16) (lock : Bool) (fault : Bool) (sgmiiOk : Bool)
  /-- R293: UP_DEBOUNCE_EXPIRY. -/
  | upDebounceExpiry (t : Nat) (port : Fin 16)
  /-- R293: DOWN_DEBOUNCE_EXPIRY. -/
  | downDebounceExpiry (t : Nat) (port : Fin 16)
  /-- R314: LINK_HOLD_EXPIRY. -/
  | linkHoldExpiry (t : Nat) (port : Fin 16)
  /-- R301: PAUSE_EXPIRY. -/
  | pauseExpiry (t : Nat) (port : Fin 16)
  /-- R303: EEE_IDLE_EXPIRY. -/
  | eeeIdleExpiry (t : Nat) (port : Fin 16)
  /-- R303: EEE_WAKE_COMPLETE. -/
  | eeeWakeComplete (t : Nat) (port : Fin 16)
  /-- R303: EEE_TLV_TTL_EXPIRY. -/
  | eeeTlvTtlExpiry (t : Nat) (port : Fin 16)
  /-- R304: LLDP_INTERVAL. -/
  | lldpInterval (t : Nat) (port : Fin 16)
  /-- R313: FRAME_LIFETIME_EXPIRY. -/
  | frameLifetimeExpiry (t : Nat) (port : Fin 16) (cls : Fin 8)
  /-- R337: TX_FRAME_COMPLETE. -/
  | txFrameComplete (t : Nat) (port : Fin 16)
  /-- R305: DUPLICATE_ENTRY_FORGET. -/
  | duplicateEntryForget (t : Nat) (pair : Fin 8) (mac : Mac) (seq : BitVec 16)
  /-- R310: RED_SUPERVISION_INTERVAL. -/
  | redSupervisionInterval (t : Nat) (pair : Fin 8)
  /-- R327: RESEQUENCING_TIMEOUT. -/
  | resequencingTimeout (t : Nat)
  /-- R330: CELL_ECC_ERROR. -/
  | cellEccError (t : Nat)
  /-- R336: CUT_THROUGH_UNDERRUN. -/
  | cutThroughUnderrun (t : Nat) (port : Fin 16)
  /-- R330: SWC_CMD_PAIRING. -/
  | swcCmdPairing (t : Nat) (src : Src)
  /-- R331: SWC_CMD_SELFTEST. -/
  | swcCmdSelftest (t : Nat) (src : Src)
  /-- R331: SWC_CMD_RANDING. -/
  | swcCmdRanding (t : Nat) (src : Src)
  /-- R331: SELF_TEST_COMPLETE. -/
  | selfTestComplete (t : Nat) (pass : Bool)
  /-- R331: QUIET_PERIOD_EXPIRY. -/
  | quietPeriodExpiry (t : Nat)
  /-- R332: MODE_CHANGE_COMPLETE. -/
  | modeChangeComplete (t : Nat)
  /-- R321: SWC_MEM_MAX_CLEAR. -/
  | swcMemMaxClear (t : Nat) (src : Src)
  /-- R325: FWD_ENTRY_AGE_OUT. -/
  | fwdEntryAgeOut (t : Nat) (entry : Fin 16384)
  /-- R347: ACQ_MANUAL_TRIGGER. -/
  | acqManualTrigger (t : Nat) (src : Src)
  /-- R346: ACQ_RELEASE. -/
  | acqRelease (t : Nat) (src : Src)
  /-- R353: ACQ_EXPORT_FRAME. -/
  | acqExportFrame (t : Nat) (unit : Fin 64)
  /-- R359: ENERGY_INTERVAL_END. -/
  | energyIntervalEnd (t : Nat)
  /-- R363: OVERCURRENT_TIMER_EXPIRY. -/
  | overcurrentTimerExpiry (t : Nat) (point : Fin 512)
  /-- R360: NRG_LATCH. -/
  | nrgLatch (t : Nat) (src : Src)
  /-- R362: NRG_CLR_PEAK. -/
  | nrgClrPeak (t : Nat) (src : Src)
  /-- R367: PULSE_INPUT_EDGE. -/
  | pulseInputEdge (t : Nat) (pin : Fin 32) (level : Bool)
  /-- R367: PULSE_DEBOUNCE_EXPIRY. -/
  | pulseDebounceExpiry (t : Nat) (pin : Fin 32)
  /-- R367: PULSE_MIN_WIDTH_EXPIRY. -/
  | pulseMinWidthExpiry (t : Nat) (pin : Fin 32)
  /-- R368: PULSE_STALL_EXPIRY. -/
  | pulseStallExpiry (t : Nat) (pin : Fin 32)
  /-- R368: PLS_LATCH. -/
  | plsLatch (t : Nat) (src : Src)
  /-- R375: COIL_EVENT_INTAKE. -/
  | coilEventIntake (t : Nat) (ev : CoilEvent)
  /-- R374: COIL_RECORD_WRITE. -/
  | coilRecordWrite (t : Nat)
  /-- R375: COIL_FOLD_REWRITE. -/
  | coilFoldRewrite (t : Nat)
  /-- R382: COIL_CMD_FLUSH. -/
  | coilCmdFlush (t : Nat) (src : Src)
  /-- R383: COIL_CMD_LG_CLEAR. -/
  | coilCmdLgClear (t : Nat) (src : Src)
  /-- R374: COIL_FIFO_CLEAR_MAX. -/
  | coilFifoClearMax (t : Nat) (src : Src)
  /-- R382: LAST_GASP_FLUSH_COMPLETE. -/
  | lastGaspFlushComplete (t : Nat) (ok : Bool)
  /-- R382: PG_IN_FALL. -/
  | pgInFall (t : Nat)
  /-- R407: PG_IN_RISE. -/
  | pgInRise (t : Nat)
  /-- R407: NRST_IN. -/
  | nrstIn (t : Nat)
  /-- R407: RST_CMD_MODULE_RESET. -/
  | rstCmdModuleReset (t : Nat) (src : Src)
  /-- R414: RST_CMD_APPLY_IMAGE. -/
  | rstCmdApplyImage (t : Nat) (src : Src)
  /-- R407: RST_KICK. -/
  | rstKick (t : Nat) (src : Src)
  /-- R407: MANAGER_WATCHDOG_EXPIRY. -/
  | managerWatchdogExpiry (t : Nat)
  /-- R410: POWER_ON. -/
  | powerOn (t : Nat) (boot : BootInput)
  /-- R431: VIN_UNDERVOLTAGE. -/
  | vinUndervoltage (t : Nat)
  /-- R431: VIN_OUT_OF_RANGE. -/
  | vinOutOfRange (t : Nat) (mv : BitVec 16)
  /-- R435: TJ_HIGH. -/
  | tjHigh (t : Nat) (tj : BitVec 16)
  /-- R435: THERMAL_TRIP. -/
  | thermalTrip (t : Nat) (tj : BitVec 16)
  /-- R435: THERMAL_RECOVERY. -/
  | thermalRecovery (t : Nat) (tj : BitVec 16)
  /-- R386: LID_SWITCH_CHANGE. -/
  | lidSwitchChange (t : Nat) (opened : Bool)
  /-- R392: KEY_STORE_ERASE_COMPLETE. -/
  | keyStoreEraseComplete (t : Nat)
  /-- R386: MESH_TEST. -/
  | meshTest (t : Nat) (openRead : Bool)
  /-- R386: VOLTAGE_GLITCH. -/
  | voltageGlitch (t : Nat) (begins : Bool)
  /-- R390: RIM_CLEAR. -/
  | rimClear (t : Nat) (tr : Transport) (pk : VPacket)
  /-- R405: SV_ADVANCE. -/
  | svAdvance (t : Nat) (src : Src)
  /-- R406: DEBUG_CHALLENGE_READ. -/
  | debugChallengeRead (t : Nat)
  /-- R406: DEBUG_UNLOCK_RESPONSE. -/
  | debugUnlockResponse (t : Nat) (level : Fin 4) (response : BitVec 128)
  /-- R245: COPY_CLASS_INTERRUPTION. -/
  | copyClassInterruption (t : Nat)
  /-- R426: MANAGEMENT_LINK_CHANGE. -/
  | managementLinkChange (t : Nat) (up : Bool) (at1000 : Bool)
  /-- R426: PCIE_PERST_RELEASE. -/
  | pciePerstRelease (t : Nat)
  deriving DecidableEq, Repr

end Sys2Proof
end

