-- ==== Sys2Proof/Machine/Operands.lean ====
section
/-! DEFINITION. Bit fields, byte order, saturation and the CRC-32C of the recorder: the arithmetic that
the operands and the records of the module share. -/

namespace Sys2Proof.Machine

/-- Bits [hi:lo] of a number. -/
def bits (v hi lo : Nat) : Nat := (v / 2 ^ lo) % 2 ^ (hi + 1 - lo)

/-- `v` with bits [hi:lo] replaced by `x`. -/
def setBits (v hi lo x : Nat) : Nat :=
  v - bits v hi lo * 2 ^ lo + (x % 2 ^ (hi + 1 - lo)) * 2 ^ lo

/-- Bit `n` of a number. -/
def bit (v n : Nat) : Bool := bits v n n == 1

/-- A field of `w` bits read as two's complement. -/
def asSigned (w x : Nat) : Int := if 2 * x ≥ 2 ^ w then (x : Int) - 2 ^ w else x

/-- An integer in `w` bits, two's complement. -/
def toWidth (w : Nat) (x : Int) : Nat := (x % (2 ^ w : Int)).toNat

/-- A word from a number. -/
def word (n : Nat) : Word := BitVec.ofNat 32 n

/-- Signed saturation to ±(2^31 − 1), as TIME_OFFSET states it. -/
def sat31 (x : Int) : Int := max (-(2147483647 : Int)) (min 2147483647 x)

/-- `n` bytes of a number, most significant first (R46). -/
def bytesBE (n v : Nat) : List Byte :=
  (List.range n).map fun i => BitVec.ofNat 8 (v / 256 ^ (n - 1 - i))

/-- `n` bytes of a number, least significant first (R34). -/
def bytesLE (n v : Nat) : List Byte :=
  (List.range n).map fun i => BitVec.ofNat 8 (v / 256 ^ i)

/-- A number from its bytes, most significant first. -/
def natBE (bs : List Byte) : Nat := bs.foldl (fun a b => a * 256 + b.toNat) 0

/-- A number from its bytes, least significant first. -/
def natLE (bs : List Byte) : Nat := bs.foldr (fun b a => a * 256 + b.toNat) 0

/-- A list cut into pieces of `n`, with fuel `k`. -/
def chunks {α : Type} (n : Nat) : Nat → List α → List (List α)
  | 0, _ => []
  | _, [] => []
  | k + 1, l => l.take n :: chunks n k (l.drop n)

/-- The 32-bit words of a payload in network byte order (R46). -/
def wordsBE (bs : List Byte) : List Word := (chunks 4 bs.length bs).map fun c => word (natBE c)

/-- One bit of a reflected CRC. -/
def crcBit (poly : BitVec 32) (c : BitVec 32) : BitVec 32 :=
  if c.getLsbD 0 then (c >>> 1) ^^^ poly else c >>> 1

/-- One byte of a reflected CRC. -/
def crcByte (poly : BitVec 32) (c : BitVec 32) (b : Byte) : BitVec 32 :=
  let c := c ^^^ (b.setWidth 32)
  crcBit poly (crcBit poly (crcBit poly (crcBit poly (crcBit poly (crcBit poly (crcBit poly (crcBit poly c)))))))

/-- CRC-32C (R371): polynomial 0x1EDC_6F41 reflected, initial value all ones, final complement. -/
def crc32c (bs : List Byte) : Word := ~~~ (bs.foldl (crcByte 0x82F63B78#32) 0xFFFFFFFF#32)

/-- The entry of a list at `n`, or a default. -/
def nthD {α : Type} (l : List α) (n : Nat) (d : α) : α := (l[n]?).getD d

/-- A list with the entry at `n` replaced. -/
def setNth {α : Type} (l : List α) (n : Nat) (a : α) : List α := l.set n a

/-- How many entries of a list satisfy a test. -/
def countIf {α : Type} (p : α → Bool) (l : List α) : Nat := (l.filter p).length

/-- The two parts of a list: the entries that satisfy a test, and the others. -/
def splitBy {α : Type} (p : α → Bool) (l : List α) : List α × List α :=
  (l.filter p, l.filter fun a => !p a)

/-- Quotient rounded up. -/
def ceilDiv (a b : Nat) : Nat := (a + b - 1) / b

end Sys2Proof.Machine
end

