-- ==== Sys2Proof/Layout.lean ====
section
/-! DEFINITION. How the manual describes a register page: fields, access types (R8), value ranges (R10),
selectors (R90) and multi-word registers (R11). The tables themselves are in Machine/RegMap.lean. -/

namespace Sys2Proof

/-- The access types of R8 that the register tables use. -/
inductive Acc
  | ro | rw | w1c | wo | rwl
  deriving DecidableEq, Repr

/-- The defined range of a field (R10). `signedBetween` reads the field as two's complement. -/
inductive Rng
  | any
  | between (lo hi : Nat)
  | zeroOr (lo hi : Nat)
  | oneOf (vs : List Nat)
  | signedBetween (lo hi : Int)
  deriving DecidableEq, Repr

/-- A field [hi:lo] of the word at `off` of `page`; `stride` is the distance to the next register of its array. -/
structure Fd where
  page   : Nat
  off    : Nat
  hi     : Nat
  lo     : Nat
  stride : Nat := 4
  deriving DecidableEq, Repr

/-- The same field in the n-th register of its array. -/
def Fd.nth (f : Fd) (n : Nat) : Fd := { f with off := (f.off + n * f.stride) % 4096 }

/-- The page of a MAC port: 0x20 + port, for the ports 0 to 15 (R32). -/
def macPage (port : Nat) : Nat := 0x20 + port % 16

/-- The same field on the page of a MAC port. -/
def Fd.onPort (f : Fd) (port : Nat) : Fd := { f with page := macPage port }

/-- The number of bits of a field. -/
def Fd.width (f : Fd) : Nat := f.hi + 1 - f.lo

/-- A field with its access type and range, as a row of a register table. -/
structure Fld where
  hi  : Nat
  lo  : Nat
  acc : Acc
  rng : Rng := .any
  deriving DecidableEq, Repr

/-- What selects the instance a register shows: nothing, one selector field, or two (R90). -/
inductive Sel
  | none
  | one (f : Fd)
  | two (major minor : Fd)
  deriving DecidableEq, Repr

/-- A register, or an array of `count` registers `stride` bytes apart. `hiOff` is the offset of the
highest-addressed word when this is a lower word of a multi-word register (R11). -/
structure RegDef where
  off    : Nat
  reset  : Word
  flds   : List Fld
  sel    : Sel := .none
  count  : Nat := 1
  stride : Nat := 4
  hiOff  : Option Nat := .none
  deriving DecidableEq, Repr

end Sys2Proof
end

