-- ==== Sys2Proof/Machine/RegMap.lean ====
section
/-! DEFINITION. The register map of every page, as the register tables of spec/02 to spec/16 give it: each
register's offset, reset value, fields, access types, ranges, selector and word order. Fields are named
REGISTER_field after the manual. -/

namespace Sys2Proof.Machine

/-! ### CMD: page 0x36 -/

def CMD_CTRL_udp_en : Fd := ⟨0x36, 0x040, 1, 1, 4⟩
def CMD_CTRL_pcie_en : Fd := ⟨0x36, 0x040, 0, 0, 4⟩
def CMD_AUTH_SLOT_udp_slot : Fd := ⟨0x36, 0x044, 25, 16, 4⟩
def CMD_AUTH_SLOT_pcie_slot : Fd := ⟨0x36, 0x044, 9, 0, 4⟩
def CMD_RETX_attempts : Fd := ⟨0x36, 0x048, 18, 16, 4⟩
def CMD_RETX_interval : Fd := ⟨0x36, 0x048, 9, 0, 4⟩
def CMD_TIMEOUT_timeout : Fd := ⟨0x36, 0x04C, 15, 0, 4⟩
def CMD_UDP_PORT_port : Fd := ⟨0x36, 0x050, 15, 0, 4⟩
def CMD_IP_ADDR_addr : Fd := ⟨0x36, 0x054, 31, 0, 4⟩
def CMD_IP_PEER_peer : Fd := ⟨0x36, 0x058, 31, 0, 4⟩
def CMD_IP_MASK_mask : Fd := ⟨0x36, 0x05C, 31, 0, 4⟩
def CMD_SESSION_session : Fd := ⟨0x36, 0x060, 31, 0, 4⟩
def CMD_OUTSTANDING_udp : Fd := ⟨0x36, 0x064, 21, 16, 4⟩
def CMD_OUTSTANDING_pcie : Fd := ⟨0x36, 0x064, 5, 0, 4⟩
def CMD_FRESH_PCIE_fresh : Fd := ⟨0x36, 0x068, 31, 0, 4⟩
def CMD_FRESH_UDP_fresh : Fd := ⟨0x36, 0x06C, 31, 0, 4⟩
def CMD_AUTH_FAIL_total : Fd := ⟨0x36, 0x070, 31, 16, 4⟩
def CMD_AUTH_FAIL_consecutive : Fd := ⟨0x36, 0x070, 2, 0, 4⟩
def CMD_DROP_PARTIAL_n : Fd := ⟨0x36, 0x074, 31, 0, 4⟩
def CMD_DROP_LEN_n : Fd := ⟨0x36, 0x078, 31, 0, 4⟩
def CMD_BUSY_n : Fd := ⟨0x36, 0x07C, 31, 0, 4⟩
def CMD_DUP_n : Fd := ⟨0x36, 0x080, 31, 0, 4⟩
def CMD_BAD_OP_n : Fd := ⟨0x36, 0x084, 31, 0, 4⟩

/-! ### PACE: page 0x02 -/

def PACE_NOW_sensor : Fd := ⟨0x02, 0x040, 20, 16, 4⟩
def PACE_NOW_pace : Fd := ⟨0x02, 0x040, 15, 0, 4⟩
def PACE_MINMAX_max : Fd := ⟨0x02, 0x044, 31, 16, 4⟩
def PACE_MINMAX_min : Fd := ⟨0x02, 0x044, 15, 0, 4⟩
def PACE_CLR_minmax : Fd := ⟨0x02, 0x048, 0, 0, 4⟩
def PACE_CFG_shed_hold : Fd := ⟨0x02, 0x04C, 25, 16, 4⟩
def PACE_CFG_policy : Fd := ⟨0x02, 0x04C, 8, 8, 4⟩
def PACE_CFG_window : Fd := ⟨0x02, 0x04C, 1, 0, 4⟩
def PACE_WARN_level : Fd := ⟨0x02, 0x050, 11, 0, 4⟩
def PACE_SHED_hys : Fd := ⟨0x02, 0x054, 22, 16, 4⟩
def PACE_SHED_level : Fd := ⟨0x02, 0x054, 11, 0, 4⟩
def PACE_GLITCH_step : Fd := ⟨0x02, 0x058, 24, 16, 4⟩
def PACE_GLITCH_level : Fd := ⟨0x02, 0x058, 11, 0, 4⟩
def PACE_STATE_shed_req : Fd := ⟨0x02, 0x05C, 4, 4, 4⟩
def PACE_STATE_state : Fd := ⟨0x02, 0x05C, 2, 0, 4⟩
def PACE_WARN_CNT_n : Fd := ⟨0x02, 0x060, 31, 0, 4⟩
def PACE_SHED_CNT_n : Fd := ⟨0x02, 0x064, 31, 0, 4⟩
def PACE_FLOOR_CNT_n : Fd := ⟨0x02, 0x068, 31, 0, 4⟩
def PACE_GLITCH_CNT_n : Fd := ⟨0x02, 0x06C, 31, 0, 4⟩
def PACE_FLOOR_TIME_us : Fd := ⟨0x02, 0x070, 31, 0, 4⟩
def PACE_SENSOR_stale : Fd := ⟨0x02, 0x080, 31, 31, 4⟩
def PACE_SENSOR_value : Fd := ⟨0x02, 0x080, 15, 0, 4⟩
def PACE_WDOG_limit : Fd := ⟨0x02, 0x0C0, 4, 0, 4⟩
def PACE_ARB_fair : Fd := ⟨0x02, 0x0C4, 0, 0, 4⟩
def PACE_WDOG_CNT_n : Fd := ⟨0x02, 0x0C8, 31, 0, 4⟩
def PACE_WDOG_LAST_response : Fd := ⟨0x02, 0x0CC, 31, 31, 4⟩
def PACE_WDOG_LAST_part : Fd := ⟨0x02, 0x0CC, 30, 24, 4⟩
def PACE_WDOG_LAST_origin : Fd := ⟨0x02, 0x0CC, 23, 16, 4⟩
def PACE_WDOG_LAST_tag : Fd := ⟨0x02, 0x0CC, 9, 0, 4⟩

/-! ### CDC: page 0x37 -/

def CDC_OVR_LO_f : Fd := ⟨0x37, 0x040, 31, 0, 4⟩
def CDC_OVR_HI_f : Fd := ⟨0x37, 0x044, 3, 0, 4⟩
def CDC_OVR_CNT_n : Fd := ⟨0x37, 0x048, 31, 0, 4⟩
def CDC_HANG_LO_f : Fd := ⟨0x37, 0x04C, 31, 0, 4⟩
def CDC_HANG_HI_f : Fd := ⟨0x37, 0x050, 3, 0, 4⟩
def CDC_SEL_index : Fd := ⟨0x37, 0x054, 5, 0, 4⟩
def CDC_DETAIL_kinds : Fd := ⟨0x37, 0x058, 31, 28, 4⟩
def CDC_DETAIL_pending : Fd := ⟨0x37, 0x058, 25, 24, 4⟩
def CDC_DETAIL_fifo : Fd := ⟨0x37, 0x058, 23, 16, 4⟩
def CDC_DETAIL_latency : Fd := ⟨0x37, 0x058, 15, 0, 4⟩
def CDC_CLK_khz : Fd := ⟨0x37, 0x05C, 31, 0, 4⟩
def CDC_XFER_CNT_n : Fd := ⟨0x37, 0x060, 31, 0, 4⟩

/-! ### TIME: page 0x05 -/

def TIME_NOW_LO_tag : Fd := ⟨0x05, 0x040, 31, 0, 4⟩
def TIME_NOW_HI_era : Fd := ⟨0x05, 0x044, 31, 16, 4⟩
def TIME_NOW_HI_wrap : Fd := ⟨0x05, 0x044, 15, 0, 4⟩
def TIME_WRAP_wrap : Fd := ⟨0x05, 0x048, 15, 0, 4⟩
def TIME_CTRL_pps_out_en : Fd := ⟨0x05, 0x04C, 16, 16, 4⟩
def TIME_CTRL_step_en : Fd := ⟨0x05, 0x04C, 12, 12, 4⟩
def TIME_CTRL_ext10m : Fd := ⟨0x05, 0x04C, 8, 8, 4⟩
def TIME_CTRL_src_sec : Fd := ⟨0x05, 0x04C, 6, 4, 4⟩
def TIME_CTRL_src_pri : Fd := ⟨0x05, 0x04C, 2, 0, 4⟩
def TIME_QUAL_in10m_qual : Fd := ⟨0x05, 0x050, 11, 11, 4⟩
def TIME_QUAL_irig_qual : Fd := ⟨0x05, 0x050, 10, 10, 4⟩
def TIME_QUAL_pps_qual : Fd := ⟨0x05, 0x050, 9, 9, 4⟩
def TIME_QUAL_ext10m_used : Fd := ⟨0x05, 0x050, 8, 8, 4⟩
def TIME_QUAL_source : Fd := ⟨0x05, 0x050, 6, 4, 4⟩
def TIME_QUAL_state : Fd := ⟨0x05, 0x050, 2, 0, 4⟩
def TIME_OFFSET_ns : Fd := ⟨0x05, 0x054, 31, 0, 4⟩
def TIME_RATE_rate : Fd := ⟨0x05, 0x058, 31, 0, 4⟩
def TIME_LOCK_slew : Fd := ⟨0x05, 0x05C, 23, 16, 4⟩
def TIME_LOCK_thr : Fd := ⟨0x05, 0x05C, 15, 0, 4⟩
def TIME_STEP_thr : Fd := ⟨0x05, 0x060, 15, 0, 4⟩
def TIME_HOLD_limit : Fd := ⟨0x05, 0x064, 27, 16, 4⟩
def TIME_HOLD_entry : Fd := ⟨0x05, 0x064, 15, 0, 4⟩
def TIME_HOLD_ELAPSED_ms : Fd := ⟨0x05, 0x068, 31, 0, 4⟩
def TIME_EPOCH_LO_lo : Fd := ⟨0x05, 0x06C, 31, 0, 4⟩
def TIME_EPOCH_HI_hi : Fd := ⟨0x05, 0x070, 31, 0, 4⟩
def TIME_PPS_out_width : Fd := ⟨0x05, 0x074, 23, 16, 4⟩
def TIME_PPS_in_window : Fd := ⟨0x05, 0x074, 9, 0, 4⟩
def TIME_PPS_OUT_DLY_dly : Fd := ⟨0x05, 0x078, 15, 0, 4⟩
def TIME_IRIG_tai_utc : Fd := ⟨0x05, 0x07C, 15, 8, 4⟩
def TIME_IRIG_ext1344 : Fd := ⟨0x05, 0x07C, 1, 1, 4⟩
def TIME_IRIG_en : Fd := ⟨0x05, 0x07C, 0, 0, 4⟩
def TIME_STEP_CNT_n : Fd := ⟨0x05, 0x080, 31, 0, 4⟩
def TIME_PPS_REJ_n : Fd := ⟨0x05, 0x084, 31, 0, 4⟩
def TIME_IRIG_REJ_n : Fd := ⟨0x05, 0x088, 31, 0, 4⟩
def TIME_10M_LOSS_n : Fd := ⟨0x05, 0x08C, 31, 0, 4⟩
def TIME_SRC_CHG_n : Fd := ⟨0x05, 0x090, 31, 0, 4⟩

/-! ### PTP: page 0x06 -/

def PTP_DOM_priority2 : Fd := ⟨0x06, 0x040, 31, 24, 4⟩
def PTP_DOM_priority1 : Fd := ⟨0x06, 0x040, 23, 16, 4⟩
def PTP_DOM_domain : Fd := ⟨0x06, 0x040, 15, 8, 4⟩
def PTP_DOM_slave_only : Fd := ⟨0x06, 0x040, 3, 3, 4⟩
def PTP_DOM_two_step : Fd := ⟨0x06, 0x040, 2, 2, 4⟩
def PTP_DOM_profile : Fd := ⟨0x06, 0x040, 1, 1, 4⟩
def PTP_DOM_en : Fd := ⟨0x06, 0x040, 0, 0, 4⟩
def PTP_DOM_TMO_rt : Fd := ⟨0x06, 0x048, 3, 0, 4⟩
def PTP_DOM_STS_gm_class : Fd := ⟨0x06, 0x050, 23, 16, 4⟩
def PTP_DOM_STS_source : Fd := ⟨0x06, 0x050, 9, 9, 4⟩
def PTP_DOM_STS_qualified : Fd := ⟨0x06, 0x050, 8, 8, 4⟩
def PTP_DOM_STS_slave_port : Fd := ⟨0x06, 0x050, 4, 0, 4⟩
def PTP_DOM_GM_w : Fd := ⟨0x06, 0x058, 31, 0, 4⟩
def PTP_DOM_OFS_ns : Fd := ⟨0x06, 0x068, 31, 0, 4⟩
def PTP_CLKID_LO_lo : Fd := ⟨0x06, 0x070, 31, 0, 4⟩
def PTP_CLKID_HI_hi : Fd := ⟨0x06, 0x074, 31, 0, 4⟩
def PTP_PSEL_speed : Fd := ⟨0x06, 0x080, 9, 8, 4⟩
def PTP_PSEL_port : Fd := ⟨0x06, 0x080, 3, 0, 4⟩
def PTP_PCFG_stamp_mode : Fd := ⟨0x06, 0x084, 4, 4, 4⟩
def PTP_PCFG_dom : Fd := ⟨0x06, 0x084, 1, 0, 4⟩
def PTP_PSTS_pdelay : Fd := ⟨0x06, 0x088, 31, 16, 4⟩
def PTP_PSTS_state1 : Fd := ⟨0x06, 0x088, 7, 4, 4⟩
def PTP_PSTS_state0 : Fd := ⟨0x06, 0x088, 3, 0, 4⟩
def PTP_PCOMP_IN_v : Fd := ⟨0x06, 0x08C, 15, 0, 4⟩
def PTP_PCOMP_EG_v : Fd := ⟨0x06, 0x090, 15, 0, 4⟩
def PTP_PCOMP_ASYM_v : Fd := ⟨0x06, 0x094, 15, 0, 4⟩
def PTP_TXS_w : Fd := ⟨0x06, 0x0A0, 31, 0, 4⟩
def PTP_TXS_LVL_lvl : Fd := ⟨0x06, 0x0B0, 6, 0, 4⟩
def PTP_TXS_LOST_n : Fd := ⟨0x06, 0x0B4, 31, 0, 4⟩
def PTP_ANN_TMO_n : Fd := ⟨0x06, 0x0B8, 31, 0, 4⟩
def PTP_RX_BAD_n : Fd := ⟨0x06, 0x0C0, 31, 0, 4⟩

/-! ### SVI: page 0x0A -/

def SVI_WINDOW_window : Fd := ⟨0x0A, 0x040, 11, 0, 4⟩
def SVI_TICK_early_tol : Fd := ⟨0x0A, 0x044, 15, 8, 4⟩
def SVI_TICK_rate : Fd := ⟨0x0A, 0x044, 2, 0, 4⟩
def SVI_TICK_NUM_LO_lo : Fd := ⟨0x0A, 0x048, 31, 0, 4⟩
def SVI_TICK_NUM_HI_hi : Fd := ⟨0x0A, 0x04C, 31, 0, 4⟩
def SVI_LOAD_load_c : Fd := ⟨0x0A, 0x050, 31, 16, 4⟩
def SVI_LOAD_load_a : Fd := ⟨0x0A, 0x050, 15, 0, 4⟩
def SVI_BURST_LO_w : Fd := ⟨0x0A, 0x054, 31, 0, 4⟩
def SVI_BURST_HI_w : Fd := ⟨0x0A, 0x058, 31, 0, 4⟩
def SVI_SUB_SEL_index : Fd := ⟨0x0A, 0x060, 10, 0, 4⟩
def SVI_SUB_CTRL_en : Fd := ⟨0x0A, 0x064, 31, 31, 4⟩
def SVI_SUB_CTRL_auth : Fd := ⟨0x0A, 0x064, 30, 30, 4⟩
def SVI_SUB_CTRL_test_ok : Fd := ⟨0x0A, 0x064, 29, 29, 4⟩
def SVI_SUB_CTRL_pair : Fd := ⟨0x0A, 0x064, 26, 24, 4⟩
def SVI_SUB_CTRL_group : Fd := ⟨0x0A, 0x064, 21, 16, 4⟩
def SVI_SUB_CTRL_rate : Fd := ⟨0x0A, 0x064, 14, 12, 4⟩
def SVI_SUB_CTRL_n_asdu : Fd := ⟨0x0A, 0x064, 10, 8, 4⟩
def SVI_SUB_CTRL_n_ch : Fd := ⟨0x0A, 0x064, 3, 0, 4⟩
def SVI_SUB_APPID_appid : Fd := ⟨0x0A, 0x068, 15, 0, 4⟩
def SVI_SUB_DMAC_LO_lo : Fd := ⟨0x0A, 0x06C, 31, 0, 4⟩
def SVI_SUB_DMAC_HI_hi : Fd := ⟨0x0A, 0x070, 15, 0, 4⟩
def SVI_SUB_CONFREV_confrev : Fd := ⟨0x0A, 0x074, 31, 0, 4⟩
def SVI_SUB_TMO_timeout : Fd := ⟨0x0A, 0x078, 15, 0, 4⟩
def SVI_SUB_LIMIT_v_lim : Fd := ⟨0x0A, 0x07C, 31, 16, 4⟩
def SVI_SUB_LIMIT_i_lim : Fd := ⟨0x0A, 0x07C, 15, 0, 4⟩
def SVI_SUB_CHTYPE_v : Fd := ⟨0x0A, 0x080, 15, 0, 4⟩
def SVI_SUB_KEY_mac_len : Fd := ⟨0x0A, 0x084, 16, 16, 4⟩
def SVI_SUB_KEY_slot : Fd := ⟨0x0A, 0x084, 9, 0, 4⟩
def SVI_SUB_STS_smp_synch : Fd := ⟨0x0A, 0x088, 31, 24, 4⟩
def SVI_SUB_STS_state : Fd := ⟨0x0A, 0x088, 2, 0, 4⟩
def SVI_SUB_ASDU_n : Fd := ⟨0x0A, 0x08C, 31, 0, 4⟩
def SVI_SUB_LATE_n : Fd := ⟨0x0A, 0x090, 31, 0, 4⟩
def SVI_SUB_GAP_n : Fd := ⟨0x0A, 0x094, 31, 0, 4⟩
def SVI_SUB_LOST_n : Fd := ⟨0x0A, 0x098, 31, 0, 4⟩
def SVI_GRP_SEL_index : Fd := ⟨0x0A, 0x0A0, 5, 0, 4⟩
def SVI_GRP_CFG_en : Fd := ⟨0x0A, 0x0A4, 31, 31, 4⟩
def SVI_GRP_CFG_class : Fd := ⟨0x0A, 0x0A4, 1, 0, 4⟩
def SVI_GRP_STS_present : Fd := ⟨0x0A, 0x0A8, 27, 16, 4⟩
def SVI_GRP_STS_active : Fd := ⟨0x0A, 0x0A8, 11, 0, 4⟩
def SVI_GRP_FULL_n : Fd := ⟨0x0A, 0x0AC, 31, 0, 4⟩
def SVI_GRP_EXP_n : Fd := ⟨0x0A, 0x0B0, 31, 0, 4⟩
def SVI_CNT_n : Fd := ⟨0x0A, 0x0C0, 31, 0, 4⟩

/-! ### MSR: page 0x0B -/

def MSR_CFG_rocof_win : Fd := ⟨0x0B, 0x040, 23, 16, 4⟩
def MSR_CFG_f_nom : Fd := ⟨0x0B, 0x040, 0, 0, 4⟩
def MSR_LOAD_k : Fd := ⟨0x0B, 0x044, 23, 16, 4⟩
def MSR_LOAD_t_set : Fd := ⟨0x0B, 0x044, 15, 0, 4⟩
def MSR_MAXTIME_t : Fd := ⟨0x0B, 0x048, 15, 0, 4⟩
def MSR_CLR_clr : Fd := ⟨0x0B, 0x04C, 0, 0, 4⟩
def MSR_BACKLOG_max : Fd := ⟨0x0B, 0x050, 24, 16, 4⟩
def MSR_BACKLOG_now : Fd := ⟨0x0B, 0x050, 8, 0, 4⟩
def MSR_TRK_SEL_index : Fd := ⟨0x0B, 0x060, 3, 0, 4⟩
def MSR_TRK_CFG_en : Fd := ⟨0x0B, 0x064, 31, 31, 4⟩
def MSR_TRK_CFG_backup_en : Fd := ⟨0x0B, 0x064, 28, 28, 4⟩
def MSR_TRK_CFG_backup : Fd := ⟨0x0B, 0x064, 27, 16, 4⟩
def MSR_TRK_CFG_primary : Fd := ⟨0x0B, 0x064, 11, 0, 4⟩
def MSR_TRK_PAR_hold : Fd := ⟨0x0B, 0x068, 31, 16, 4⟩
def MSR_TRK_PAR_vmin : Fd := ⟨0x0B, 0x068, 6, 0, 4⟩
def MSR_TRK_STS_state : Fd := ⟨0x0B, 0x06C, 2, 0, 4⟩
def MSR_TRK_FREQ_uhz : Fd := ⟨0x0B, 0x070, 31, 0, 4⟩
def MSR_TRK_ROCOF_v : Fd := ⟨0x0B, 0x074, 31, 0, 4⟩
def MSR_CH_SEL_index : Fd := ⟨0x0B, 0x080, 13, 0, 4⟩
def MSR_CH_CFG_en : Fd := ⟨0x0B, 0x084, 31, 31, 4⟩
def MSR_CH_CFG_kind : Fd := ⟨0x0B, 0x084, 30, 29, 4⟩
def MSR_CH_CFG_half : Fd := ⟨0x0B, 0x084, 28, 28, 4⟩
def MSR_CH_CFG_tracker : Fd := ⟨0x0B, 0x084, 27, 24, 4⟩
def MSR_CH_CFG_ch : Fd := ⟨0x0B, 0x084, 23, 20, 4⟩
def MSR_CH_CFG_sub : Fd := ⟨0x0B, 0x084, 10, 0, 4⟩
def MSR_CH_CORR_tc_en : Fd := ⟨0x0B, 0x088, 31, 31, 4⟩
def MSR_CH_CORR_ts : Fd := ⟨0x0B, 0x088, 21, 16, 4⟩
def MSR_CH_CORR_table : Fd := ⟨0x0B, 0x088, 9, 0, 4⟩
def MSR_CH_RATED_rated : Fd := ⟨0x0B, 0x08C, 19, 0, 4⟩
def MSR_CH_STS_full : Fd := ⟨0x0B, 0x090, 31, 31, 4⟩
def MSR_CH_STS_quality : Fd := ⟨0x0B, 0x090, 15, 0, 4⟩
def MSR_GRP_SEL_index : Fd := ⟨0x0B, 0x0A0, 11, 0, 4⟩
def MSR_GRP_CFG_en : Fd := ⟨0x0B, 0x0A4, 31, 31, 4⟩
def MSR_GRP_CFG_kind : Fd := ⟨0x0B, 0x0A4, 30, 30, 4⟩
def MSR_GRP_CFG_rot : Fd := ⟨0x0B, 0x0A4, 29, 29, 4⟩
def MSR_GRP_CFG_link_en : Fd := ⟨0x0B, 0x0A4, 28, 28, 4⟩
def MSR_GRP_CFG_link : Fd := ⟨0x0B, 0x0A4, 11, 0, 4⟩
def MSR_GRP_CH_AB_b : Fd := ⟨0x0B, 0x0A8, 29, 16, 4⟩
def MSR_GRP_CH_AB_a : Fd := ⟨0x0B, 0x0A8, 13, 0, 4⟩
def MSR_GRP_CH_C_c : Fd := ⟨0x0B, 0x0AC, 13, 0, 4⟩
def MSR_GRP_K0_mag : Fd := ⟨0x0B, 0x0B0, 31, 16, 4⟩
def MSR_GRP_K0_ang : Fd := ⟨0x0B, 0x0B0, 15, 0, 4⟩
def MSR_TS_SEL_index : Fd := ⟨0x0B, 0x0C0, 5, 0, 4⟩
def MSR_TS_CFG_en : Fd := ⟨0x0B, 0x0C4, 31, 31, 4⟩
def MSR_TS_CFG_live : Fd := ⟨0x0B, 0x0C4, 30, 30, 4⟩
def MSR_TS_CFG_hold : Fd := ⟨0x0B, 0x0C4, 27, 16, 4⟩
def MSR_TS_CFG_ch : Fd := ⟨0x0B, 0x0C4, 13, 0, 4⟩
def MSR_TS_FIXED_temp : Fd := ⟨0x0B, 0x0C8, 15, 0, 4⟩
def MSR_TS_STS_state : Fd := ⟨0x0B, 0x0CC, 31, 30, 4⟩
def MSR_TS_STS_temp : Fd := ⟨0x0B, 0x0CC, 15, 0, 4⟩
def MSR_CNT_n : Fd := ⟨0x0B, 0x0E0, 31, 0, 4⟩

/-! ### ADM: page 0x08 -/

def ADM_CTRL_check : Fd := ⟨0x08, 0x040, 1, 1, 4⟩
def ADM_CTRL_admit : Fd := ⟨0x08, 0x040, 0, 0, 4⟩
def ADM_POLICY_ubound : Fd := ⟨0x08, 0x044, 9, 0, 4⟩
def ADM_PRIME_FAST_ms : Fd := ⟨0x08, 0x048, 15, 0, 4⟩
def ADM_PRIME_STD_ms : Fd := ⟨0x08, 0x04C, 15, 0, 4⟩
def ADM_PRIME_SLOW_ms : Fd := ⟨0x08, 0x050, 15, 0, 4⟩
def ADM_STS_code : Fd := ⟨0x08, 0x060, 23, 16, 4⟩
def ADM_STS_div : Fd := ⟨0x08, 0x060, 15, 8, 4⟩
def ADM_STS_state : Fd := ⟨0x08, 0x060, 2, 0, 4⟩
def ADM_REF_WHERE_detail : Fd := ⟨0x08, 0x064, 31, 24, 4⟩
def ADM_REF_WHERE_slot_valid : Fd := ⟨0x08, 0x064, 23, 23, 4⟩
def ADM_REF_WHERE_slot : Fd := ⟨0x08, 0x064, 11, 0, 4⟩
def ADM_REF_VALUE_v : Fd := ⟨0x08, 0x068, 31, 0, 4⟩
def ADM_REF_LIMIT_v : Fd := ⟨0x08, 0x06C, 31, 0, 4⟩
def ADM_RUN_TIME_us : Fd := ⟨0x08, 0x070, 31, 0, 4⟩
def ADM_UMAX_core : Fd := ⟨0x08, 0x074, 29, 24, 4⟩
def ADM_UMAX_u : Fd := ⟨0x08, 0x074, 9, 0, 4⟩
def ADM_FAST_WORST_slot : Fd := ⟨0x08, 0x078, 31, 20, 4⟩
def ADM_FAST_WORST_resp : Fd := ⟨0x08, 0x078, 19, 0, 4⟩
def ADM_SLOTS_fast : Fd := ⟨0x08, 0x07C, 28, 16, 4⟩
def ADM_SLOTS_total : Fd := ⟨0x08, 0x07C, 12, 0, 4⟩
def ADM_RUNS_n : Fd := ⟨0x08, 0x080, 31, 0, 4⟩
def ADM_REFUSALS_n : Fd := ⟨0x08, 0x084, 31, 0, 4⟩

/-! ### DSP: page 0x09 -/

def DSP_SHARE_div : Fd := ⟨0x09, 0x040, 1, 0, 4⟩
def DSP_CFG_overrun_lim : Fd := ⟨0x09, 0x044, 23, 16, 4⟩
def DSP_CFG_mgr_win : Fd := ⟨0x09, 0x044, 15, 8, 4⟩
def DSP_CFG_sep_tol : Fd := ⟨0x09, 0x044, 7, 0, 4⟩
def DSP_SHED_std : Fd := ⟨0x09, 0x048, 1, 1, 4⟩
def DSP_SHED_slow : Fd := ⟨0x09, 0x048, 0, 0, 4⟩
def DSP_SLOT_SEL_index : Fd := ⟨0x09, 0x060, 11, 0, 4⟩
def DSP_SLOT_CFG_en : Fd := ⟨0x09, 0x064, 31, 31, 4⟩
def DSP_SLOT_CFG_class : Fd := ⟨0x09, 0x064, 30, 29, 4⟩
def DSP_SLOT_CFG_single : Fd := ⟨0x09, 0x064, 28, 28, 4⟩
def DSP_SLOT_CFG_core : Fd := ⟨0x09, 0x064, 27, 22, 4⟩
def DSP_SLOT_CFG_group : Fd := ⟨0x09, 0x064, 21, 16, 4⟩
def DSP_SLOT_CFG_period : Fd := ⟨0x09, 0x064, 15, 0, 4⟩
def DSP_SLOT_PHASE_phase : Fd := ⟨0x09, 0x068, 15, 0, 4⟩
def DSP_SLOT_C_c : Fd := ⟨0x09, 0x06C, 23, 0, 4⟩
def DSP_SLOT_D_d : Fd := ⟨0x09, 0x070, 23, 0, 4⟩
def DSP_SLOT_PRIME_prime : Fd := ⟨0x09, 0x074, 15, 0, 4⟩
def DSP_SLOT_AGE_age : Fd := ⟨0x09, 0x078, 23, 0, 4⟩
def DSP_SLOT_STS_consec : Fd := ⟨0x09, 0x07C, 31, 24, 4⟩
def DSP_SLOT_STS_pending : Fd := ⟨0x09, 0x07C, 18, 16, 4⟩
def DSP_SLOT_STS_primed : Fd := ⟨0x09, 0x07C, 3, 3, 4⟩
def DSP_SLOT_STS_state : Fd := ⟨0x09, 0x07C, 2, 0, 4⟩
def DSP_SLOT_REL_n : Fd := ⟨0x09, 0x080, 31, 0, 4⟩
def DSP_SLOT_OVR_n : Fd := ⟨0x09, 0x084, 31, 0, 4⟩
def DSP_SLOT_MISS_n : Fd := ⟨0x09, 0x088, 31, 0, 4⟩
def DSP_SLOT_RESP_MAX_v : Fd := ⟨0x09, 0x08C, 23, 0, 4⟩
def DSP_SLOT_CMD_clr_max : Fd := ⟨0x09, 0x090, 1, 1, 4⟩
def DSP_SLOT_CMD_resume : Fd := ⟨0x09, 0x090, 0, 0, 4⟩
def DSP_PART_SEL_index : Fd := ⟨0x09, 0x0A0, 5, 0, 4⟩
def DSP_PART_STS_over : Fd := ⟨0x09, 0x0A4, 31, 31, 4⟩
def DSP_PART_STS_used : Fd := ⟨0x09, 0x0A4, 24, 16, 4⟩
def DSP_PART_STS_depth : Fd := ⟨0x09, 0x0A4, 8, 0, 4⟩
def DSP_CNT_n : Fd := ⟨0x09, 0x0C0, 31, 0, 4⟩

/-! ### PUB: page 0x0C -/

def PUB_CFG_cmp : Fd := ⟨0x0C, 0x040, 0, 0, 4⟩
def PUB_TWIN_MAC_LO_lo : Fd := ⟨0x0C, 0x044, 31, 0, 4⟩
def PUB_TWIN_MAC_HI_hi : Fd := ⟨0x0C, 0x048, 15, 0, 4⟩
def PUB_STS_nokey : Fd := ⟨0x0C, 0x04C, 8, 8, 4⟩
def PUB_STS_role : Fd := ⟨0x0C, 0x04C, 2, 0, 4⟩
def PUB_BUILD_t : Fd := ⟨0x0C, 0x050, 15, 0, 4⟩
def PUB_GCB_SEL_index : Fd := ⟨0x0C, 0x060, 9, 0, 4⟩
def PUB_GCB_CTRL_en : Fd := ⟨0x0C, 0x064, 31, 31, 4⟩
def PUB_GCB_CTRL_type : Fd := ⟨0x0C, 0x064, 30, 30, 4⟩
def PUB_GCB_CTRL_sign : Fd := ⟨0x0C, 0x064, 29, 29, 4⟩
def PUB_GCB_CTRL_mac_len : Fd := ⟨0x0C, 0x064, 28, 28, 4⟩
def PUB_GCB_CTRL_deadline : Fd := ⟨0x0C, 0x064, 27, 27, 4⟩
def PUB_GCB_CTRL_pair : Fd := ⟨0x0C, 0x064, 26, 24, 4⟩
def PUB_GCB_CTRL_owner : Fd := ⟨0x0C, 0x064, 21, 16, 4⟩
def PUB_GCB_CTRL_source : Fd := ⟨0x0C, 0x064, 11, 0, 4⟩
def PUB_GCB_APPID_appid : Fd := ⟨0x0C, 0x068, 15, 0, 4⟩
def PUB_GCB_DMAC_LO_lo : Fd := ⟨0x0C, 0x06C, 31, 0, 4⟩
def PUB_GCB_DMAC_HI_hi : Fd := ⟨0x0C, 0x070, 15, 0, 4⟩
def PUB_GCB_CONFREV_confrev : Fd := ⟨0x0C, 0x074, 31, 0, 4⟩
def PUB_GCB_TAG_tag_en : Fd := ⟨0x0C, 0x078, 31, 31, 4⟩
def PUB_GCB_TAG_pcp : Fd := ⟨0x0C, 0x078, 30, 28, 4⟩
def PUB_GCB_TAG_vid : Fd := ⟨0x0C, 0x078, 11, 0, 4⟩
def PUB_GCB_KEY_slot : Fd := ⟨0x0C, 0x07C, 9, 0, 4⟩
def PUB_GCB_RETX_t_max : Fd := ⟨0x0C, 0x080, 31, 16, 4⟩
def PUB_GCB_RETX_t_min : Fd := ⟨0x0C, 0x080, 15, 0, 4⟩
def PUB_GCB_SIZE_size : Fd := ⟨0x0C, 0x084, 10, 0, 4⟩
def PUB_GCB_STNUM_n : Fd := ⟨0x0C, 0x088, 31, 0, 4⟩
def PUB_GCB_SQNUM_n : Fd := ⟨0x0C, 0x08C, 31, 0, 4⟩
def PUB_GCB_STS_gated : Fd := ⟨0x0C, 0x090, 2, 2, 4⟩
def PUB_GCB_STS_state : Fd := ⟨0x0C, 0x090, 1, 0, 4⟩
def PUB_SUB_SEL_index : Fd := ⟨0x0C, 0x0A0, 11, 0, 4⟩
def PUB_SUB_CTRL_en : Fd := ⟨0x0C, 0x0A4, 31, 31, 4⟩
def PUB_SUB_CTRL_auth : Fd := ⟨0x0C, 0x0A4, 30, 30, 4⟩
def PUB_SUB_CTRL_test_ok : Fd := ⟨0x0C, 0x0A4, 29, 29, 4⟩
def PUB_SUB_CTRL_mac_len : Fd := ⟨0x0C, 0x0A4, 28, 28, 4⟩
def PUB_SUB_CTRL_part : Fd := ⟨0x0C, 0x0A4, 21, 16, 4⟩
def PUB_SUB_CTRL_slot : Fd := ⟨0x0C, 0x0A4, 9, 0, 4⟩
def PUB_SUB_APPID_appid : Fd := ⟨0x0C, 0x0A8, 15, 0, 4⟩
def PUB_SUB_DMAC_LO_lo : Fd := ⟨0x0C, 0x0AC, 31, 0, 4⟩
def PUB_SUB_DMAC_HI_hi : Fd := ⟨0x0C, 0x0B0, 15, 0, 4⟩
def PUB_SUB_CONFREV_confrev : Fd := ⟨0x0C, 0x0B4, 31, 0, 4⟩
def PUB_SUB_STS_state : Fd := ⟨0x0C, 0x0B8, 1, 0, 4⟩
def PUB_CNT_n : Fd := ⟨0x0C, 0x0C0, 31, 0, 4⟩

/-! ### PLT: page 0x30 -/

def PLT_CTRL_lane_en : Fd := ⟨0x30, 0x040, 1, 0, 4⟩
def PLT_REPLAY_attempts : Fd := ⟨0x30, 0x044, 17, 16, 4⟩
def PLT_REPLAY_interval : Fd := ⟨0x30, 0x044, 5, 0, 4⟩
def PLT_SUP_timeout : Fd := ⟨0x30, 0x048, 13, 0, 4⟩
def PLT_SAK_rx_next : Fd := ⟨0x30, 0x04C, 29, 20, 4⟩
def PLT_SAK_rx : Fd := ⟨0x30, 0x04C, 19, 10, 4⟩
def PLT_SAK_tx : Fd := ⟨0x30, 0x04C, 9, 0, 4⟩
def PLT_STS_up : Fd := ⟨0x30, 0x050, 16, 16, 4⟩
def PLT_STS_lane1 : Fd := ⟨0x30, 0x050, 10, 8, 4⟩
def PLT_STS_lane0 : Fd := ⟨0x30, 0x050, 2, 0, 4⟩
def PLT_LAST_RX_tag : Fd := ⟨0x30, 0x054, 31, 0, 4⟩
def PLT_CNT_n : Fd := ⟨0x30, 0x060, 31, 0, 4⟩

/-! ### TWN: page 0x31 -/

def TWN_CFG_en : Fd := ⟨0x31, 0x040, 31, 31, 4⟩
def TWN_CFG_revert : Fd := ⟨0x31, 0x040, 30, 30, 4⟩
def TWN_CFG_pref : Fd := ⟨0x31, 0x040, 29, 29, 4⟩
def TWN_CFG_unit : Fd := ⟨0x31, 0x040, 28, 28, 4⟩
def TWN_CFG_policy : Fd := ⟨0x31, 0x040, 24, 24, 4⟩
def TWN_CFG_div_lim : Fd := ⟨0x31, 0x040, 20, 16, 4⟩
def TWN_CFG_div_span : Fd := ⟨0x31, 0x040, 13, 0, 4⟩
def TWN_WIT_timeout : Fd := ⟨0x31, 0x044, 31, 16, 4⟩
def TWN_WIT_delay : Fd := ⟨0x31, 0x044, 15, 0, 4⟩
def TWN_WIT_PORTS_ports : Fd := ⟨0x31, 0x048, 15, 0, 4⟩
def TWN_WIT_DMAC_LO_lo : Fd := ⟨0x31, 0x04C, 31, 0, 4⟩
def TWN_WIT_DMAC_HI_hi : Fd := ⟨0x31, 0x050, 15, 0, 4⟩
def TWN_WIT_SMAC_LO_lo : Fd := ⟨0x31, 0x054, 31, 0, 4⟩
def TWN_WIT_SMAC_HI_hi : Fd := ⟨0x31, 0x058, 15, 0, 4⟩
def TWN_WIT_TAG_tag_en : Fd := ⟨0x31, 0x05C, 31, 31, 4⟩
def TWN_WIT_TAG_pcp : Fd := ⟨0x31, 0x05C, 30, 28, 4⟩
def TWN_WIT_TAG_vid : Fd := ⟨0x31, 0x05C, 11, 0, 4⟩
def TWN_WIT_KEY_slot : Fd := ⟨0x31, 0x060, 9, 0, 4⟩
def TWN_JOIN_search : Fd := ⟨0x31, 0x064, 31, 16, 4⟩
def TWN_JOIN_settle : Fd := ⟨0x31, 0x064, 15, 0, 4⟩
def TWN_REVERT_hold : Fd := ⟨0x31, 0x068, 11, 0, 4⟩
def TWN_CMD_rejoin : Fd := ⟨0x31, 0x06C, 2, 2, 4⟩
def TWN_CMD_lead : Fd := ⟨0x31, 0x06C, 1, 1, 4⟩
def TWN_CMD_swap : Fd := ⟨0x31, 0x06C, 0, 0, 4⟩
def TWN_STS_copy_active : Fd := ⟨0x31, 0x080, 14, 14, 4⟩
def TWN_STS_grid_mismatch : Fd := ⟨0x31, 0x080, 13, 13, 4⟩
def TWN_STS_unit_clash : Fd := ⟨0x31, 0x080, 12, 12, 4⟩
def TWN_STS_cfg_mismatch : Fd := ⟨0x31, 0x080, 11, 11, 4⟩
def TWN_STS_in_step : Fd := ⟨0x31, 0x080, 10, 10, 4⟩
def TWN_STS_partner_seen : Fd := ⟨0x31, 0x080, 9, 9, 4⟩
def TWN_STS_plait_up : Fd := ⟨0x31, 0x080, 8, 8, 4⟩
def TWN_STS_partner : Fd := ⟨0x31, 0x080, 7, 4, 4⟩
def TWN_STS_state : Fd := ⟨0x31, 0x080, 3, 0, 4⟩
def TWN_TICK_OFS_LO_w : Fd := ⟨0x31, 0x084, 31, 0, 4⟩
def TWN_TICK_OFS_HI_w : Fd := ⟨0x31, 0x088, 31, 0, 4⟩
def TWN_LOSS_TICK_LO_w : Fd := ⟨0x31, 0x08C, 31, 0, 4⟩
def TWN_LOSS_TICK_HI_w : Fd := ⟨0x31, 0x090, 31, 0, 4⟩
def TWN_LEAD_SINCE_LO_w : Fd := ⟨0x31, 0x094, 31, 0, 4⟩
def TWN_LEAD_SINCE_HI_w : Fd := ⟨0x31, 0x098, 31, 0, 4⟩
def TWN_BOOT_n : Fd := ⟨0x31, 0x09C, 15, 0, 4⟩
def TWN_COPY_STS_phase : Fd := ⟨0x31, 0x0A0, 31, 29, 4⟩
def TWN_COPY_STS_cut : Fd := ⟨0x31, 0x0A0, 28, 16, 4⟩
def TWN_COPY_STS_total : Fd := ⟨0x31, 0x0A0, 12, 0, 4⟩
def TWN_SLOT_SEL_index : Fd := ⟨0x31, 0x0B0, 11, 0, 4⟩
def TWN_SLOT_AREA_page : Fd := ⟨0x31, 0x0B4, 31, 8, 4⟩
def TWN_SLOT_AREA_size : Fd := ⟨0x31, 0x0B4, 4, 0, 4⟩
def TWN_CNT_n : Fd := ⟨0x31, 0x0C0, 31, 0, 4⟩

/-! ### VRT: page 0x32 -/

def VRT_PART_SEL_index : Fd := ⟨0x32, 0x040, 5, 0, 4⟩
def VRT_PART_CFG_en : Fd := ⟨0x32, 0x044, 31, 31, 4⟩
def VRT_PART_CFG_vnic : Fd := ⟨0x32, 0x044, 30, 30, 4⟩
def VRT_PART_CFG_vid : Fd := ⟨0x32, 0x044, 27, 16, 4⟩
def VRT_PART_CFG_pos : Fd := ⟨0x32, 0x044, 5, 0, 4⟩
def VRT_PART_STS_inflight : Fd := ⟨0x32, 0x048, 24, 16, 4⟩
def VRT_PART_STS_tags : Fd := ⟨0x32, 0x048, 15, 8, 4⟩
def VRT_PART_STS_state : Fd := ⟨0x32, 0x048, 2, 0, 4⟩
def VRT_CMD_slot : Fd := ⟨0x32, 0x04C, 21, 16, 4⟩
def VRT_CMD_part : Fd := ⟨0x32, 0x04C, 13, 8, 4⟩
def VRT_CMD_slot_reset : Fd := ⟨0x32, 0x04C, 2, 2, 4⟩
def VRT_CMD_start : Fd := ⟨0x32, 0x04C, 1, 1, 4⟩
def VRT_CMD_reset : Fd := ⟨0x32, 0x04C, 0, 0, 4⟩
def VRT_MIG_en : Fd := ⟨0x32, 0x050, 31, 31, 4⟩
def VRT_MIG_part : Fd := ⟨0x32, 0x050, 21, 16, 4⟩
def VRT_MIG_blackout : Fd := ⟨0x32, 0x050, 15, 0, 4⟩
def VRT_MIG_CMD_thaw : Fd := ⟨0x32, 0x054, 1, 1, 4⟩
def VRT_MIG_CMD_freeze : Fd := ⟨0x32, 0x054, 0, 0, 4⟩
def VRT_MIG_LAST_auto : Fd := ⟨0x32, 0x058, 31, 31, 4⟩
def VRT_MIG_LAST_time : Fd := ⟨0x32, 0x058, 15, 0, 4⟩
def VRT_CNT_n : Fd := ⟨0x32, 0x060, 31, 0, 4⟩
def VRT_MGR_RING_LO_lo : Fd := ⟨0x32, 0x070, 31, 0, 4⟩
def VRT_MGR_RING_HI_hi : Fd := ⟨0x32, 0x074, 31, 0, 4⟩
def VRT_MGR_RING_en : Fd := ⟨0x32, 0x078, 31, 31, 4⟩
def VRT_MGR_RING_pcp : Fd := ⟨0x32, 0x078, 26, 24, 4⟩
def VRT_MGR_RING_log2 : Fd := ⟨0x32, 0x078, 3, 0, 4⟩
def VRT_MGR_IDX_cons : Fd := ⟨0x32, 0x07C, 31, 16, 4⟩
def VRT_MGR_IDX_prod : Fd := ⟨0x32, 0x07C, 15, 0, 4⟩

/-! ### XFR: page 0x33 -/

def XFR_SEL_region : Fd := ⟨0x33, 0x040, 9, 8, 4⟩
def XFR_SEL_part : Fd := ⟨0x33, 0x040, 5, 0, 4⟩
def XFR_RGN_GPA_en : Fd := ⟨0x33, 0x044, 31, 31, 4⟩
def XFR_RGN_GPA_gpa : Fd := ⟨0x33, 0x044, 19, 0, 4⟩
def XFR_RGN_HPA_hpa : Fd := ⟨0x33, 0x048, 13, 0, 4⟩
def XFR_RGN_SIZE_size : Fd := ⟨0x33, 0x04C, 14, 0, 4⟩
def XFR_PART_inflight : Fd := ⟨0x33, 0x050, 24, 16, 4⟩
def XFR_PART_tags : Fd := ⟨0x33, 0x050, 7, 0, 4⟩
def XFR_CNT_n : Fd := ⟨0x33, 0x060, 31, 0, 4⟩

/-! ### DRT: page 0x34 -/

def DRT_SEL_index : Fd := ⟨0x34, 0x040, 5, 0, 4⟩
def DRT_CTRL_en : Fd := ⟨0x34, 0x044, 31, 31, 4⟩
def DRT_CTRL_size : Fd := ⟨0x34, 0x044, 12, 0, 4⟩
def DRT_RING_LO_lo : Fd := ⟨0x34, 0x048, 31, 0, 4⟩
def DRT_RING_HI_hi : Fd := ⟨0x34, 0x04C, 31, 0, 4⟩
def DRT_BMP_LO_lo : Fd := ⟨0x34, 0x050, 31, 0, 4⟩
def DRT_BMP_HI_hi : Fd := ⟨0x34, 0x054, 31, 0, 4⟩
def DRT_PROD_prod : Fd := ⟨0x34, 0x058, 15, 0, 4⟩
def DRT_CONS_cons : Fd := ⟨0x34, 0x05C, 15, 0, 4⟩
def DRT_STS_fault : Fd := ⟨0x34, 0x060, 2, 2, 4⟩
def DRT_STS_bitmap : Fd := ⟨0x34, 0x060, 1, 1, 4⟩
def DRT_STS_active : Fd := ⟨0x34, 0x060, 0, 0, 4⟩
def DRT_CMD_rearm : Fd := ⟨0x34, 0x064, 0, 0, 4⟩
def DRT_CNT_n : Fd := ⟨0x34, 0x070, 31, 0, 4⟩

/-! ### IRQ: page 0x35 -/

def IRQ_SEL_src : Fd := ⟨0x35, 0x040, 22, 16, 4⟩
def IRQ_SEL_vec : Fd := ⟨0x35, 0x040, 13, 8, 4⟩
def IRQ_SEL_part : Fd := ⟨0x35, 0x040, 5, 0, 4⟩
def IRQ_SRC_en : Fd := ⟨0x35, 0x044, 31, 31, 4⟩
def IRQ_SRC_vector : Fd := ⟨0x35, 0x044, 5, 0, 4⟩
def IRQ_VEC_en : Fd := ⟨0x35, 0x048, 31, 31, 4⟩
def IRQ_VEC_core : Fd := ⟨0x35, 0x048, 21, 16, 4⟩
def IRQ_VEC_identity : Fd := ⟨0x35, 0x048, 10, 0, 4⟩
def IRQ_PART_geil : Fd := ⟨0x35, 0x04C, 31, 26, 4⟩
def IRQ_PART_rate : Fd := ⟨0x35, 0x04C, 25, 16, 4⟩
def IRQ_PART_burst : Fd := ⟨0x35, 0x04C, 6, 0, 4⟩
def IRQ_STS_limited : Fd := ⟨0x35, 0x050, 31, 31, 4⟩
def IRQ_CNT_n : Fd := ⟨0x35, 0x060, 31, 0, 4⟩

/-! ### MAC: page 0x20 -/

def MAC_CTRL_speed : Fd := ⟨0x20, 0x040, 9, 8, 4⟩
def MAC_CTRL_fec : Fd := ⟨0x20, 0x040, 5, 4, 4⟩
def MAC_CTRL_an : Fd := ⟨0x20, 0x040, 2, 2, 4⟩
def MAC_CTRL_if1g : Fd := ⟨0x20, 0x040, 0, 0, 4⟩
def MAC_LINK_up_db : Fd := ⟨0x20, 0x044, 25, 16, 4⟩
def MAC_LINK_down_db : Fd := ⟨0x20, 0x044, 9, 0, 4⟩
def MAC_HOLD_hold : Fd := ⟨0x20, 0x048, 7, 0, 4⟩
def MAC_PAUSE_honour : Fd := ⟨0x20, 0x04C, 0, 0, 4⟩
def MAC_EEE_en : Fd := ⟨0x20, 0x050, 31, 31, 4⟩
def MAC_EEE_idle : Fd := ⟨0x20, 0x050, 23, 16, 4⟩
def MAC_EEE_tw_def : Fd := ⟨0x20, 0x050, 15, 0, 4⟩
def MAC_EEE_STS_lpi : Fd := ⟨0x20, 0x054, 31, 31, 4⟩
def MAC_EEE_STS_tlv_rx : Fd := ⟨0x20, 0x054, 30, 30, 4⟩
def MAC_EEE_STS_tw_res : Fd := ⟨0x20, 0x054, 15, 0, 4⟩
def MAC_VLAN_accept : Fd := ⟨0x20, 0x058, 31, 30, 4⟩
def MAC_VLAN_untag_pvid : Fd := ⟨0x20, 0x058, 28, 28, 4⟩
def MAC_VLAN_pcp : Fd := ⟨0x20, 0x058, 26, 24, 4⟩
def MAC_VLAN_pvid : Fd := ⟨0x20, 0x058, 11, 0, 4⟩
def MAC_FILT_en : Fd := ⟨0x20, 0x05C, 0, 0, 4⟩
def MAC_RED_mode : Fd := ⟨0x20, 0x060, 31, 30, 4⟩
def MAC_RED_sup_int : Fd := ⟨0x20, 0x060, 27, 16, 4⟩
def MAC_RED_forget : Fd := ⟨0x20, 0x060, 13, 0, 4⟩
def MAC_MSEC_en : Fd := ⟨0x20, 0x064, 31, 31, 4⟩
def MAC_MSEC_xpn : Fd := ⟨0x20, 0x064, 30, 30, 4⟩
def MAC_MSEC_rx_next : Fd := ⟨0x20, 0x064, 29, 20, 4⟩
def MAC_MSEC_rx : Fd := ⟨0x20, 0x064, 19, 10, 4⟩
def MAC_MSEC_tx : Fd := ⟨0x20, 0x064, 9, 0, 4⟩
def MAC_ADDR_LO_lo : Fd := ⟨0x20, 0x068, 31, 0, 4⟩
def MAC_ADDR_HI_hi : Fd := ⟨0x20, 0x06C, 15, 0, 4⟩
def MAC_STS_lock : Fd := ⟨0x20, 0x070, 10, 10, 4⟩
def MAC_STS_deadline : Fd := ⟨0x20, 0x070, 9, 9, 4⟩
def MAC_STS_paused : Fd := ⟨0x20, 0x070, 8, 8, 4⟩
def MAC_STS_speed : Fd := ⟨0x20, 0x070, 5, 4, 4⟩
def MAC_STS_link : Fd := ⟨0x20, 0x070, 1, 0, 4⟩
def MAC_LIFE_life_hi : Fd := ⟨0x20, 0x074, 31, 16, 4⟩
def MAC_LIFE_life_lo : Fd := ⟨0x20, 0x074, 15, 0, 4⟩
def MAC_RX_OCT_LO_w : Fd := ⟨0x20, 0x090, 31, 0, 4⟩
def MAC_RX_OCT_HI_w : Fd := ⟨0x20, 0x094, 31, 0, 4⟩
def MAC_TX_OCT_LO_w : Fd := ⟨0x20, 0x098, 31, 0, 4⟩
def MAC_TX_OCT_HI_w : Fd := ⟨0x20, 0x09C, 31, 0, 4⟩
def MAC_CNT_n : Fd := ⟨0x20, 0x0A0, 31, 0, 4⟩

/-! ### SWC: page 0x10 -/

def SWC_CFG_quiet : Fd := ⟨0x10, 0x040, 15, 8, 4⟩
def SWC_CFG_auto : Fd := ⟨0x10, 0x040, 0, 0, 4⟩
def SWC_CMD_pairing : Fd := ⟨0x10, 0x044, 2, 2, 4⟩
def SWC_CMD_selftest : Fd := ⟨0x10, 0x044, 1, 1, 4⟩
def SWC_CMD_randing : Fd := ⟨0x10, 0x044, 0, 0, 4⟩
def SWC_STS_cause : Fd := ⟨0x10, 0x048, 15, 8, 4⟩
def SWC_STS_test : Fd := ⟨0x10, 0x048, 5, 4, 4⟩
def SWC_STS_mode : Fd := ⟨0x10, 0x048, 1, 0, 4⟩
def SWC_MEM_USE_now : Fd := ⟨0x10, 0x050, 18, 0, 4⟩
def SWC_MEM_MAX_clr : Fd := ⟨0x10, 0x054, 31, 31, 4⟩
def SWC_MEM_MAX_max : Fd := ⟨0x10, 0x054, 18, 0, 4⟩
def SWC_CNT_n : Fd := ⟨0x10, 0x060, 31, 0, 4⟩

/-! ### FWD: page 0x11 -/

def FWD_LEARN_ports : Fd := ⟨0x11, 0x040, 15, 0, 4⟩
def FWD_AGE_age : Fd := ⟨0x11, 0x044, 15, 0, 4⟩
def FWD_FLOOD_UC_mask : Fd := ⟨0x11, 0x048, 23, 0, 4⟩
def FWD_FLOOD_MC_mask : Fd := ⟨0x11, 0x04C, 23, 0, 4⟩
def FWD_USED_learnt : Fd := ⟨0x11, 0x050, 30, 16, 4⟩
def FWD_USED_static : Fd := ⟨0x11, 0x050, 14, 0, 4⟩
def FWD_CNT_n : Fd := ⟨0x11, 0x060, 31, 0, 4⟩

/-! ### QOS: page 0x12 -/

def QOS_PCP_class : Fd := ⟨0x12, 0x040, 23, 0, 4⟩
def QOS_CLASS_deadline : Fd := ⟨0x12, 0x044, 7, 0, 4⟩
def QOS_WRR_LO_w3 : Fd := ⟨0x12, 0x048, 31, 24, 4⟩
def QOS_WRR_LO_w2 : Fd := ⟨0x12, 0x048, 23, 16, 4⟩
def QOS_WRR_LO_w1 : Fd := ⟨0x12, 0x048, 15, 8, 4⟩
def QOS_WRR_LO_w0 : Fd := ⟨0x12, 0x048, 7, 0, 4⟩
def QOS_WRR_HI_w7 : Fd := ⟨0x12, 0x04C, 31, 24, 4⟩
def QOS_WRR_HI_w6 : Fd := ⟨0x12, 0x04C, 23, 16, 4⟩
def QOS_WRR_HI_w5 : Fd := ⟨0x12, 0x04C, 15, 8, 4⟩
def QOS_WRR_HI_w4 : Fd := ⟨0x12, 0x04C, 7, 0, 4⟩
def QOS_PORT_SEL_port : Fd := ⟨0x12, 0x050, 4, 0, 4⟩
def QOS_RSV_rsv_hi : Fd := ⟨0x12, 0x054, 31, 16, 4⟩
def QOS_RSV_rsv_lo : Fd := ⟨0x12, 0x054, 15, 0, 4⟩
def QOS_CAP_cap : Fd := ⟨0x12, 0x064, 18, 0, 4⟩
def QOS_BOUND_bound : Fd := ⟨0x12, 0x068, 15, 0, 4⟩
def QOS_DROP_n : Fd := ⟨0x12, 0x06C, 31, 0, 4⟩
def QOS_VNIC_cells : Fd := ⟨0x12, 0x070, 17, 0, 4⟩

/-! ### ACQ: page 0x0D -/

def ACQ_EXP_CFG_rate : Fd := ⟨0x0D, 0x040, 9, 0, 4⟩
def ACQ_EXP_DMAC_LO_lo : Fd := ⟨0x0D, 0x044, 31, 0, 4⟩
def ACQ_EXP_DMAC_HI_hi : Fd := ⟨0x0D, 0x048, 15, 0, 4⟩
def ACQ_EXP_SMAC_LO_lo : Fd := ⟨0x0D, 0x04C, 31, 0, 4⟩
def ACQ_EXP_SMAC_HI_hi : Fd := ⟨0x0D, 0x050, 15, 0, 4⟩
def ACQ_EXP_TAG_tag_en : Fd := ⟨0x0D, 0x054, 31, 31, 4⟩
def ACQ_EXP_TAG_pcp : Fd := ⟨0x0D, 0x054, 30, 28, 4⟩
def ACQ_EXP_TAG_vid : Fd := ⟨0x0D, 0x054, 11, 0, 4⟩
def ACQ_UNIT_SEL_unit : Fd := ⟨0x0D, 0x060, 5, 0, 4⟩
def ACQ_UNIT_CFG_en : Fd := ⟨0x0D, 0x064, 31, 31, 4⟩
def ACQ_UNIT_CFG_export : Fd := ⟨0x0D, 0x064, 30, 30, 4⟩
def ACQ_UNIT_CFG_auto : Fd := ⟨0x0D, 0x064, 29, 29, 4⟩
def ACQ_UNIT_CFG_retrig : Fd := ⟨0x0D, 0x064, 28, 28, 4⟩
def ACQ_UNIT_CFG_part_en : Fd := ⟨0x0D, 0x064, 27, 27, 4⟩
def ACQ_UNIT_CFG_part : Fd := ⟨0x0D, 0x064, 21, 16, 4⟩
def ACQ_UNIT_CFG_group : Fd := ⟨0x0D, 0x064, 13, 8, 4⟩
def ACQ_UNIT_CFG_n_ch : Fd := ⟨0x0D, 0x064, 4, 0, 4⟩
def ACQ_UNIT_BUF_size : Fd := ⟨0x0D, 0x068, 29, 24, 4⟩
def ACQ_UNIT_BUF_base : Fd := ⟨0x0D, 0x068, 14, 0, 4⟩
def ACQ_UNIT_PRE_pre : Fd := ⟨0x0D, 0x06C, 23, 0, 4⟩
def ACQ_UNIT_POST_post : Fd := ⟨0x0D, 0x070, 23, 0, 4⟩
def ACQ_UNIT_STS_written : Fd := ⟨0x0D, 0x074, 31, 8, 4⟩
def ACQ_UNIT_STS_state : Fd := ⟨0x0D, 0x074, 2, 0, 4⟩
def ACQ_UNIT_CMD_trigger : Fd := ⟨0x0D, 0x078, 1, 1, 4⟩
def ACQ_UNIT_CMD_release : Fd := ⟨0x0D, 0x078, 0, 0, 4⟩
def ACQ_UNIT_REC_rec : Fd := ⟨0x0D, 0x07C, 31, 0, 4⟩
def ACQ_UNIT_CH_ch_odd : Fd := ⟨0x0D, 0x080, 29, 16, 4⟩
def ACQ_UNIT_CH_ch_even : Fd := ⟨0x0D, 0x080, 13, 0, 4⟩
def ACQ_TRG_CFG_type : Fd := ⟨0x0D, 0x0C0, 31, 29, 8⟩
def ACQ_TRG_CFG_below : Fd := ⟨0x0D, 0x0C0, 28, 28, 8⟩
def ACQ_TRG_CFG_rms : Fd := ⟨0x0D, 0x0C0, 27, 27, 8⟩
def ACQ_TRG_CFG_idx : Fd := ⟨0x0D, 0x0C0, 21, 16, 8⟩
def ACQ_TRG_CFG_src : Fd := ⟨0x0D, 0x0C0, 11, 0, 8⟩
def ACQ_TRG_LVL_lvl : Fd := ⟨0x0D, 0x0C4, 31, 0, 8⟩
def ACQ_CNT_n : Fd := ⟨0x0D, 0x0E0, 31, 0, 4⟩

/-! ### NRG: page 0x0E -/

def NRG_CFG_demand : Fd := ⟨0x0E, 0x040, 23, 16, 4⟩
def NRG_CFG_interval : Fd := ⟨0x0E, 0x040, 7, 0, 4⟩
def NRG_PT_SEL_index : Fd := ⟨0x0E, 0x060, 8, 0, 4⟩
def NRG_PT_CFG_en : Fd := ⟨0x0E, 0x064, 31, 31, 4⟩
def NRG_PT_CFG_invert : Fd := ⟨0x0E, 0x064, 30, 30, 4⟩
def NRG_PT_CFG_quantum : Fd := ⟨0x0E, 0x064, 26, 24, 4⟩
def NRG_PT_CFG_group : Fd := ⟨0x0E, 0x064, 11, 0, 4⟩
def NRG_PT_HYS_hq : Fd := ⟨0x0E, 0x068, 31, 16, 4⟩
def NRG_PT_HYS_hp : Fd := ⟨0x0E, 0x068, 15, 0, 4⟩
def NRG_PT_OC_level : Fd := ⟨0x0E, 0x06C, 31, 16, 4⟩
def NRG_PT_OC_time : Fd := ⟨0x0E, 0x06C, 15, 0, 4⟩
def NRG_PT_STS_last : Fd := ⟨0x0E, 0x070, 11, 8, 4⟩
def NRG_PT_STS_dmd_valid : Fd := ⟨0x0E, 0x070, 4, 4, 4⟩
def NRG_PT_STS_oc : Fd := ⟨0x0E, 0x070, 3, 3, 4⟩
def NRG_PT_STS_q_dir : Fd := ⟨0x0E, 0x070, 1, 1, 4⟩
def NRG_PT_STS_p_dir : Fd := ⟨0x0E, 0x070, 0, 0, 4⟩
def NRG_PT_CMD_clr_peak : Fd := ⟨0x0E, 0x074, 1, 1, 4⟩
def NRG_PT_CMD_latch : Fd := ⟨0x0E, 0x074, 0, 0, 4⟩
def NRG_PT_PK_IMP_v : Fd := ⟨0x0E, 0x078, 31, 0, 4⟩
def NRG_PT_PK_EXP_v : Fd := ⟨0x0E, 0x07C, 31, 0, 4⟩
def NRG_PT_PK_IMP_T_v : Fd := ⟨0x0E, 0x080, 31, 0, 4⟩
def NRG_PT_PK_EXP_T_v : Fd := ⟨0x0E, 0x084, 31, 0, 4⟩
def NRG_L_TICK_LO_w : Fd := ⟨0x0E, 0x088, 31, 0, 4⟩
def NRG_L_TICK_HI_w : Fd := ⟨0x0E, 0x08C, 31, 0, 4⟩
def NRG_L_STS_boot : Fd := ⟨0x0E, 0x090, 31, 16, 4⟩
def NRG_L_STS_dwrap : Fd := ⟨0x0E, 0x090, 5, 0, 4⟩
def NRG_L_ACC_LO_w : Fd := ⟨0x0E, 0x0A0, 31, 0, 8⟩
def NRG_L_ACC_HI_wrap : Fd := ⟨0x0E, 0x0A4, 23, 16, 8⟩
def NRG_L_ACC_HI_count : Fd := ⟨0x0E, 0x0A4, 15, 0, 8⟩
def NRG_CNT_n : Fd := ⟨0x0E, 0x0E0, 31, 0, 4⟩

/-! ### PLS: page 0x0F -/

def PLS_SEL_index : Fd := ⟨0x0F, 0x040, 4, 0, 4⟩
def PLS_CFG_en : Fd := ⟨0x0F, 0x044, 31, 31, 4⟩
def PLS_CFG_pol : Fd := ⟨0x0F, 0x044, 30, 30, 4⟩
def PLS_CFG_deb : Fd := ⟨0x0F, 0x044, 22, 16, 4⟩
def PLS_CFG_min_w : Fd := ⟨0x0F, 0x044, 13, 0, 4⟩
def PLS_LIM_stall : Fd := ⟨0x0F, 0x048, 31, 16, 4⟩
def PLS_LIM_min_int : Fd := ⟨0x0F, 0x048, 15, 0, 4⟩
def PLS_STS_stalled : Fd := ⟨0x0F, 0x04C, 1, 1, 4⟩
def PLS_STS_level : Fd := ⟨0x0F, 0x04C, 0, 0, 4⟩
def PLS_CNT_n : Fd := ⟨0x0F, 0x050, 31, 0, 4⟩
def PLS_LAST_tag : Fd := ⟨0x0F, 0x054, 31, 0, 4⟩
def PLS_LATCH_latch : Fd := ⟨0x0F, 0x058, 0, 0, 4⟩
def PLS_L_TAG_tag : Fd := ⟨0x0F, 0x05C, 31, 0, 4⟩
def PLS_SHORT_n : Fd := ⟨0x0F, 0x060, 31, 0, 4⟩
def PLS_RATE_REJ_n : Fd := ⟨0x0F, 0x064, 31, 0, 4⟩
def PLS_STALLS_n : Fd := ⟨0x0F, 0x068, 31, 0, 4⟩
def PLS_L_CNT_n : Fd := ⟨0x0F, 0x080, 31, 0, 4⟩

/-! ### COIL: page 0x07 -/

def COIL_CFG_en : Fd := ⟨0x07, 0x040, 31, 31, 4⟩
def COIL_CFG_size : Fd := ⟨0x07, 0x040, 8, 0, 4⟩
def COIL_BASE_LO_lo : Fd := ⟨0x07, 0x044, 31, 0, 4⟩
def COIL_BASE_HI_hi : Fd := ⟨0x07, 0x048, 31, 0, 4⟩
def COIL_SEV_seg : Fd := ⟨0x07, 0x04C, 10, 8, 4⟩
def COIL_SEV_reject : Fd := ⟨0x07, 0x04C, 6, 4, 4⟩
def COIL_SEV_audit : Fd := ⟨0x07, 0x04C, 2, 0, 4⟩
def COIL_LG_lg_min : Fd := ⟨0x07, 0x050, 2, 0, 4⟩
def COIL_LG_STS_present : Fd := ⟨0x07, 0x054, 16, 16, 4⟩
def COIL_LG_STS_count : Fd := ⟨0x07, 0x054, 9, 0, 4⟩
def COIL_CMD_flush : Fd := ⟨0x07, 0x058, 1, 1, 4⟩
def COIL_CMD_lg_clear : Fd := ⟨0x07, 0x058, 0, 0, 4⟩
def COIL_SEQ_seq : Fd := ⟨0x07, 0x060, 31, 0, 4⟩
def COIL_OLDEST_seq : Fd := ⟨0x07, 0x064, 31, 0, 4⟩
def COIL_FILL_n : Fd := ⟨0x07, 0x068, 20, 0, 4⟩
def COIL_FIFO_clr : Fd := ⟨0x07, 0x06C, 31, 31, 4⟩
def COIL_FIFO_max : Fd := ⟨0x07, 0x06C, 21, 16, 4⟩
def COIL_FIFO_now : Fd := ⟨0x07, 0x06C, 5, 0, 4⟩
def COIL_CNT_n : Fd := ⟨0x07, 0x080, 31, 0, 4⟩

/-! ### RIM: page 0x03 -/

def RIM_STS_gen_out : Fd := ⟨0x03, 0x040, 20, 20, 4⟩
def RIM_STS_dbg : Fd := ⟨0x03, 0x040, 17, 16, 4⟩
def RIM_STS_bank : Fd := ⟨0x03, 0x040, 12, 12, 4⟩
def RIM_STS_cause : Fd := ⟨0x03, 0x040, 11, 8, 4⟩
def RIM_STS_state : Fd := ⟨0x03, 0x040, 1, 0, 4⟩
def RIM_POLICY_p6 : Fd := ⟨0x03, 0x044, 13, 12, 4⟩
def RIM_POLICY_p5 : Fd := ⟨0x03, 0x044, 11, 10, 4⟩
def RIM_POLICY_p4 : Fd := ⟨0x03, 0x044, 9, 8, 4⟩
def RIM_POLICY_p3 : Fd := ⟨0x03, 0x044, 7, 6, 4⟩
def RIM_POLICY_p2 : Fd := ⟨0x03, 0x044, 5, 4, 4⟩
def RIM_POLICY_p1 : Fd := ⟨0x03, 0x044, 3, 2, 4⟩
def RIM_POLICY_p0 : Fd := ⟨0x03, 0x044, 1, 0, 4⟩
def RIM_ACTIVE_src : Fd := ⟨0x03, 0x048, 6, 0, 4⟩
def RIM_LATCH_src : Fd := ⟨0x03, 0x04C, 6, 0, 4⟩
def RIM_CLEAR_key : Fd := ⟨0x03, 0x050, 31, 0, 4⟩
def RIM_BOOT_sv_min : Fd := ⟨0x03, 0x054, 31, 24, 4⟩
def RIM_BOOT_sv : Fd := ⟨0x03, 0x054, 23, 16, 4⟩
def RIM_BOOT_fallback : Fd := ⟨0x03, 0x054, 12, 12, 4⟩
def RIM_BOOT_valid : Fd := ⟨0x03, 0x054, 9, 8, 4⟩
def RIM_BOOT_sel : Fd := ⟨0x03, 0x054, 0, 0, 4⟩
def RIM_CMD_sv_advance : Fd := ⟨0x03, 0x058, 0, 0, 4⟩
def RIM_DBG_slot : Fd := ⟨0x03, 0x05C, 25, 16, 4⟩
def RIM_DBG_allow : Fd := ⟨0x03, 0x05C, 1, 0, 4⟩
def RIM_GEN_gen : Fd := ⟨0x03, 0x060, 10, 0, 4⟩
def RIM_VIOL_CNT_n : Fd := ⟨0x03, 0x070, 31, 0, 4⟩
def RIM_ZEROISE_CNT_n : Fd := ⟨0x03, 0x074, 31, 0, 4⟩

/-! ### KEY: page 0x04 -/

def KEY_SEL_index : Fd := ⟨0x04, 0x040, 9, 0, 4⟩
def KEY_SLOT_usage : Fd := ⟨0x04, 0x044, 2, 0, 4⟩
def KEY_SLOT_VER_ver : Fd := ⟨0x04, 0x048, 31, 0, 4⟩
def KEY_SLOT_TAG_tag : Fd := ⟨0x04, 0x04C, 31, 0, 4⟩
def KEY_USED_n : Fd := ⟨0x04, 0x050, 10, 0, 4⟩
def KEY_LAST_code : Fd := ⟨0x04, 0x054, 31, 24, 4⟩
def KEY_LAST_slot : Fd := ⟨0x04, 0x054, 9, 0, 4⟩
def KEY_LOADS_n : Fd := ⟨0x04, 0x060, 31, 0, 4⟩
def KEY_REFUSED_n : Fd := ⟨0x04, 0x064, 31, 0, 4⟩
def KEY_TAG_FAIL_n : Fd := ⟨0x04, 0x068, 31, 0, 4⟩

/-! ### RST: page 0x01 -/

def RST_CTRL_img_sel : Fd := ⟨0x01, 0x040, 1, 1, 4⟩
def RST_CTRL_autoload : Fd := ⟨0x01, 0x040, 0, 0, 4⟩
def RST_CMD_key : Fd := ⟨0x01, 0x044, 31, 0, 4⟩
def RST_STS_adm_code : Fd := ⟨0x01, 0x048, 31, 24, 4⟩
def RST_STS_img : Fd := ⟨0x01, 0x048, 17, 16, 4⟩
def RST_STS_phase : Fd := ⟨0x01, 0x048, 10, 8, 4⟩
def RST_STS_cause : Fd := ⟨0x01, 0x048, 2, 0, 4⟩
def RST_WDOG_act : Fd := ⟨0x01, 0x04C, 16, 16, 4⟩
def RST_WDOG_timeout : Fd := ⟨0x01, 0x04C, 15, 0, 4⟩
def RST_KICK_kick : Fd := ⟨0x01, 0x050, 0, 0, 4⟩
def RST_IMG_valid : Fd := ⟨0x01, 0x054, 1, 0, 4⟩
def RST_T_READY_ms : Fd := ⟨0x01, 0x058, 31, 0, 4⟩
def RST_WDOG_EXP_n : Fd := ⟨0x01, 0x060, 31, 0, 4⟩

/-! ### GLB: page 0x00 -/

def GLB_SERIAL_LO_serial : Fd := ⟨0x00, 0x040, 31, 0, 4⟩
def GLB_SERIAL_HI_serial : Fd := ⟨0x00, 0x044, 31, 0, 4⟩
def GLB_PRODUCT_product : Fd := ⟨0x00, 0x048, 31, 16, 4⟩
def GLB_PRODUCT_hw_rev : Fd := ⟨0x00, 0x048, 15, 8, 4⟩
def GLB_PRODUCT_variant : Fd := ⟨0x00, 0x048, 7, 0, 4⟩
def GLB_FW_version : Fd := ⟨0x00, 0x04C, 31, 8, 4⟩
def GLB_FW_bank : Fd := ⟨0x00, 0x04C, 0, 0, 4⟩
def GLB_CFG_DIG_digest : Fd := ⟨0x00, 0x050, 31, 0, 4⟩
def GLB_TJ_tj : Fd := ⟨0x00, 0x070, 15, 0, 4⟩
def GLB_VIN_vin : Fd := ⟨0x00, 0x074, 15, 0, 4⟩

/-- The registers of CMD at offsets 0x040 and above. -/
def regsCMD : List RegDef := [
  /- CMD_CTRL -/ ⟨0x040, 0x00000000, [⟨1, 1, .rwl, .any⟩, ⟨0, 0, .rwl, .any⟩], .none, 1, 4, .none⟩,
  /- CMD_AUTH_SLOT -/ ⟨0x044, 0x00000000, [⟨25, 16, .rwl, .any⟩, ⟨9, 0, .rwl, .any⟩], .none, 1, 4, .none⟩,
  /- CMD_RETX -/ ⟨0x048, 0x000300FA, [⟨18, 16, .rwl, .any⟩, ⟨9, 0, .rwl, .between 10 1000⟩], .none, 1, 4, .none⟩,
  /- CMD_TIMEOUT -/ ⟨0x04C, 0x00000FA0, [⟨15, 0, .rwl, .between 100 60000⟩], .none, 1, 4, .none⟩,
  /- CMD_UDP_PORT -/ ⟨0x050, 0x0000B7AC, [⟨15, 0, .rwl, .between 1024 65535⟩], .none, 1, 4, .none⟩,
  /- CMD_IP_ADDR -/ ⟨0x054, 0x00000000, [⟨31, 0, .rwl, .any⟩], .none, 1, 4, .none⟩,
  /- CMD_IP_PEER -/ ⟨0x058, 0x00000000, [⟨31, 0, .rwl, .any⟩], .none, 1, 4, .none⟩,
  /- CMD_IP_MASK -/ ⟨0x05C, 0x00000000, [⟨31, 0, .rwl, .any⟩], .none, 1, 4, .none⟩,
  /- CMD_SESSION -/ ⟨0x060, 0x00000000, [⟨31, 0, .ro, .any⟩], .none, 1, 4, .none⟩,
  /- CMD_OUTSTANDING -/ ⟨0x064, 0x00000000, [⟨21, 16, .ro, .any⟩, ⟨5, 0, .ro, .any⟩], .none, 1, 4, .none⟩,
  /- CMD_FRESH_PCIE -/ ⟨0x068, 0x00000000, [⟨31, 0, .ro, .any⟩], .none, 1, 4, .none⟩,
  /- CMD_FRESH_UDP -/ ⟨0x06C, 0x00000000, [⟨31, 0, .ro, .any⟩], .none, 1, 4, .none⟩,
  /- CMD_AUTH_FAIL -/ ⟨0x070, 0x00000000, [⟨31, 16, .ro, .any⟩, ⟨2, 0, .ro, .any⟩], .none, 1, 4, .none⟩,
  /- CMD_DROP_PARTIAL -/ ⟨0x074, 0x00000000, [⟨31, 0, .ro, .any⟩], .none, 1, 4, .none⟩,
  /- CMD_DROP_LEN -/ ⟨0x078, 0x00000000, [⟨31, 0, .ro, .any⟩], .none, 1, 4, .none⟩,
  /- CMD_BUSY -/ ⟨0x07C, 0x00000000, [⟨31, 0, .ro, .any⟩], .none, 1, 4, .none⟩,
  /- CMD_DUP -/ ⟨0x080, 0x00000000, [⟨31, 0, .ro, .any⟩], .none, 1, 4, .none⟩,
  /- CMD_BAD_OP -/ ⟨0x084, 0x00000000, [⟨31, 0, .ro, .any⟩], .none, 1, 4, .none⟩]

/-- The registers of PACE at offsets 0x040 and above. -/
def regsPACE : List RegDef := [
  /- PACE_NOW -/ ⟨0x040, 0x00000000, [⟨20, 16, .ro, .any⟩, ⟨15, 0, .ro, .any⟩], .none, 1, 4, .none⟩,
  /- PACE_MINMAX -/ ⟨0x044, 0x0000FFFF, [⟨31, 16, .ro, .any⟩, ⟨15, 0, .ro, .any⟩], .none, 1, 4, .none⟩,
  /- PACE_CLR -/ ⟨0x048, 0x00000000, [⟨0, 0, .wo, .any⟩], .none, 1, 4, .none⟩,
  /- PACE_CFG -/ ⟨0x04C, 0x00640100, [⟨25, 16, .rwl, .between 1 1000⟩, ⟨8, 8, .rwl, .any⟩, ⟨1, 0, .rwl, .any⟩], .none, 1, 4, .none⟩,
  /- PACE_WARN -/ ⟨0x050, 0x00000466, [⟨11, 0, .rwl, .between 1025 2048⟩], .none, 1, 4, .none⟩,
  /- PACE_SHED -/ ⟨0x054, 0x00140433, [⟨22, 16, .rwl, .between 0 102⟩, ⟨11, 0, .rwl, .between 1024 2047⟩], .none, 1, 4, .none⟩,
  /- PACE_GLITCH -/ ⟨0x058, 0x00CD039A, [⟨24, 16, .rwl, .between 64 512⟩, ⟨11, 0, .rwl, .between 512 1024⟩], .none, 1, 4, .none⟩,
  /- PACE_STATE -/ ⟨0x05C, 0x00000013, [⟨4, 4, .ro, .any⟩, ⟨2, 0, .ro, .any⟩], .none, 1, 4, .none⟩,
  /- PACE_WARN_CNT -/ ⟨0x060, 0x00000000, [⟨31, 0, .ro, .any⟩], .none, 1, 4, .none⟩,
  /- PACE_SHED_CNT -/ ⟨0x064, 0x00000000, [⟨31, 0, .ro, .any⟩], .none, 1, 4, .none⟩,
  /- PACE_FLOOR_CNT -/ ⟨0x068, 0x00000000, [⟨31, 0, .ro, .any⟩], .none, 1, 4, .none⟩,
  /- PACE_GLITCH_CNT -/ ⟨0x06C, 0x00000000, [⟨31, 0, .ro, .any⟩], .none, 1, 4, .none⟩,
  /- PACE_FLOOR_TIME -/ ⟨0x070, 0x00000000, [⟨31, 0, .ro, .any⟩], .none, 1, 4, .none⟩,
  /- PACE_SENSOR -/ ⟨0x080, 0x80000000, [⟨31, 31, .ro, .any⟩, ⟨15, 0, .ro, .any⟩], .none, 16, 4, .none⟩,
  /- PACE_WDOG -/ ⟨0x0C0, 0x0000000A, [⟨4, 0, .rwl, .between 1 20⟩], .none, 1, 4, .none⟩,
  /- PACE_ARB -/ ⟨0x0C4, 0x00000001, [⟨0, 0, .rwl, .any⟩], .none, 1, 4, .none⟩,
  /- PACE_WDOG_CNT -/ ⟨0x0C8, 0x00000000, [⟨31, 0, .ro, .any⟩], .none, 1, 4, .none⟩,
  /- PACE_WDOG_LAST -/ ⟨0x0CC, 0x00000000, [⟨31, 31, .ro, .any⟩, ⟨30, 24, .ro, .any⟩, ⟨23, 16, .ro, .any⟩, ⟨9, 0, .ro, .any⟩], .none, 1, 4, .none⟩]

/-- The registers of CDC at offsets 0x040 and above. -/
def regsCDC : List RegDef := [
  /- CDC_OVR_LO -/ ⟨0x040, 0x00000000, [⟨31, 0, .w1c, .any⟩], .none, 1, 4, .none⟩,
  /- CDC_OVR_HI -/ ⟨0x044, 0x00000000, [⟨3, 0, .w1c, .any⟩], .none, 1, 4, .none⟩,
  /- CDC_OVR_CNT -/ ⟨0x048, 0x00000000, [⟨31, 0, .ro, .any⟩], .none, 1, 4, .none⟩,
  /- CDC_HANG_LO -/ ⟨0x04C, 0x00000000, [⟨31, 0, .w1c, .any⟩], .none, 1, 4, .none⟩,
  /- CDC_HANG_HI -/ ⟨0x050, 0x00000000, [⟨3, 0, .w1c, .any⟩], .none, 1, 4, .none⟩,
  /- CDC_SEL -/ ⟨0x054, 0x00000000, [⟨5, 0, .rw, .between 0 35⟩], .none, 1, 4, .none⟩,
  /- CDC_DETAIL -/ ⟨0x058, 0x00000000, [⟨31, 28, .ro, .any⟩, ⟨25, 24, .ro, .any⟩, ⟨23, 16, .ro, .any⟩, ⟨15, 0, .ro, .any⟩], .one CDC_SEL_index, 1, 4, .none⟩,
  /- CDC_CLK -/ ⟨0x05C, 0x00000000, [⟨31, 0, .ro, .any⟩], .one CDC_SEL_index, 1, 4, .none⟩,
  /- CDC_XFER_CNT -/ ⟨0x060, 0x00000000, [⟨31, 0, .ro, .any⟩], .one CDC_SEL_index, 1, 4, .none⟩]

/-- The registers of TIME at offsets 0x040 and above. -/
def regsTIME : List RegDef := [
  /- TIME_NOW_LO -/ ⟨0x040, 0x00000000, [⟨31, 0, .ro, .any⟩], .none, 1, 4, .none⟩,
  /- TIME_NOW_HI -/ ⟨0x044, 0x00000000, [⟨31, 16, .ro, .any⟩, ⟨15, 0, .ro, .any⟩], .none, 1, 4, .none⟩,
  /- TIME_WRAP -/ ⟨0x048, 0x00000000, [⟨15, 0, .ro, .any⟩], .none, 1, 4, .none⟩,
  /- TIME_CTRL -/ ⟨0x04C, 0x00001001, [⟨16, 16, .rwl, .any⟩, ⟨12, 12, .rwl, .any⟩, ⟨8, 8, .rwl, .any⟩, ⟨6, 4, .rwl, .between 0 3⟩, ⟨2, 0, .rwl, .between 0 3⟩], .none, 1, 4, .none⟩,
  /- TIME_QUAL -/ ⟨0x050, 0x00000000, [⟨11, 11, .ro, .any⟩, ⟨10, 10, .ro, .any⟩, ⟨9, 9, .ro, .any⟩, ⟨8, 8, .ro, .any⟩, ⟨6, 4, .ro, .any⟩, ⟨2, 0, .ro, .any⟩], .none, 1, 4, .none⟩,
  /- TIME_OFFSET -/ ⟨0x054, 0x00000000, [⟨31, 0, .ro, .any⟩], .none, 1, 4, .none⟩,
  /- TIME_RATE -/ ⟨0x058, 0x00000000, [⟨31, 0, .ro, .any⟩], .none, 1, 4, .none⟩,
  /- TIME_LOCK -/ ⟨0x05C, 0x001400FA, [⟨23, 16, .rwl, .between 1 200⟩, ⟨15, 0, .rwl, .between 50 10000⟩], .none, 1, 4, .none⟩,
  /- TIME_STEP -/ ⟨0x060, 0x00000032, [⟨15, 0, .rwl, .between 1 1000⟩], .none, 1, 4, .none⟩,
  /- TIME_HOLD -/ ⟨0x064, 0x012C2EE0, [⟨27, 16, .rwl, .between 10 3600⟩, ⟨15, 0, .rwl, .between 1000 60000⟩], .none, 1, 4, .none⟩,
  /- TIME_HOLD_ELAPSED -/ ⟨0x068, 0x00000000, [⟨31, 0, .ro, .any⟩], .none, 1, 4, .none⟩,
  /- TIME_EPOCH_LO -/ ⟨0x06C, 0x00000000, [⟨31, 0, .ro, .any⟩], .none, 1, 4, .none⟩,
  /- TIME_EPOCH_HI -/ ⟨0x070, 0x00000000, [⟨31, 0, .ro, .any⟩], .none, 1, 4, .none⟩,
  /- TIME_PPS -/ ⟨0x074, 0x000A0064, [⟨23, 16, .rwl, .between 1 200⟩, ⟨9, 0, .rwl, .between 1 1000⟩], .none, 1, 4, .none⟩,
  /- TIME_PPS_OUT_DLY -/ ⟨0x078, 0x00000000, [⟨15, 0, .rwl, .any⟩], .none, 1, 4, .none⟩,
  /- TIME_IRIG -/ ⟨0x07C, 0x00002500, [⟨15, 8, .rwl, .any⟩, ⟨1, 1, .rwl, .any⟩, ⟨0, 0, .rwl, .any⟩], .none, 1, 4, .none⟩,
  /- TIME_STEP_CNT -/ ⟨0x080, 0x00000000, [⟨31, 0, .ro, .any⟩], .none, 1, 4, .none⟩,
  /- TIME_PPS_REJ -/ ⟨0x084, 0x00000000, [⟨31, 0, .ro, .any⟩], .none, 1, 4, .none⟩,
  /- TIME_IRIG_REJ -/ ⟨0x088, 0x00000000, [⟨31, 0, .ro, .any⟩], .none, 1, 4, .none⟩,
  /- TIME_10M_LOSS -/ ⟨0x08C, 0x00000000, [⟨31, 0, .ro, .any⟩], .none, 1, 4, .none⟩,
  /- TIME_SRC_CHG -/ ⟨0x090, 0x00000000, [⟨31, 0, .ro, .any⟩], .none, 1, 4, .none⟩]

/-- The registers of PTP at offsets 0x040 and above. -/
def regsPTP : List RegDef := [
  /- PTP_DOM -/ ⟨0x040, 0x80800004, [⟨31, 24, .rwl, .any⟩, ⟨23, 16, .rwl, .any⟩, ⟨15, 8, .rwl, .any⟩, ⟨3, 3, .rwl, .any⟩, ⟨2, 2, .rwl, .any⟩, ⟨1, 1, .rwl, .any⟩, ⟨0, 0, .rwl, .any⟩], .none, 2, 4, .none⟩,
  /- PTP_DOM_TMO -/ ⟨0x048, 0x00000003, [⟨3, 0, .rwl, .between 2 10⟩], .none, 2, 4, .none⟩,
  /- PTP_DOM_STS -/ ⟨0x050, 0x0000001F, [⟨23, 16, .ro, .any⟩, ⟨9, 9, .ro, .any⟩, ⟨8, 8, .ro, .any⟩, ⟨4, 0, .ro, .any⟩], .none, 2, 4, .none⟩,
  /- PTP_DOM_GM -/ ⟨0x058, 0x00000000, [⟨31, 0, .ro, .any⟩], .none, 4, 4, .none⟩,
  /- PTP_DOM_OFS -/ ⟨0x068, 0x00000000, [⟨31, 0, .ro, .any⟩], .none, 2, 4, .none⟩,
  /- PTP_CLKID_LO -/ ⟨0x070, 0x00000000, [⟨31, 0, .ro, .any⟩], .none, 1, 4, .none⟩,
  /- PTP_CLKID_HI -/ ⟨0x074, 0x00000000, [⟨31, 0, .ro, .any⟩], .none, 1, 4, .none⟩,
  /- PTP_PSEL -/ ⟨0x080, 0x00000000, [⟨9, 8, .rw, .between 0 2⟩, ⟨3, 0, .rw, .any⟩], .none, 1, 4, .none⟩,
  /- PTP_PCFG -/ ⟨0x084, 0x00000000, [⟨4, 4, .rwl, .any⟩, ⟨1, 0, .rwl, .any⟩], .one PTP_PSEL_port, 1, 4, .none⟩,
  /- PTP_PSTS -/ ⟨0x088, 0x00000033, [⟨31, 16, .ro, .any⟩, ⟨7, 4, .ro, .any⟩, ⟨3, 0, .ro, .any⟩], .one PTP_PSEL_port, 1, 4, .none⟩,
  /- PTP_PCOMP_IN -/ ⟨0x08C, 0x00000000, [⟨15, 0, .rwl, .any⟩], .two PTP_PSEL_speed PTP_PSEL_port, 1, 4, .none⟩,
  /- PTP_PCOMP_EG -/ ⟨0x090, 0x00000000, [⟨15, 0, .rwl, .any⟩], .two PTP_PSEL_speed PTP_PSEL_port, 1, 4, .none⟩,
  /- PTP_PCOMP_ASYM -/ ⟨0x094, 0x00000000, [⟨15, 0, .rwl, .any⟩], .two PTP_PSEL_speed PTP_PSEL_port, 1, 4, .none⟩,
  /- PTP_TXS -/ ⟨0x0A0, 0x00000000, [⟨31, 0, .ro, .any⟩], .one PTP_PSEL_port, 4, 4, .none⟩,
  /- PTP_TXS_LVL -/ ⟨0x0B0, 0x00000000, [⟨6, 0, .ro, .any⟩], .one PTP_PSEL_port, 1, 4, .none⟩,
  /- PTP_TXS_LOST -/ ⟨0x0B4, 0x00000000, [⟨31, 0, .ro, .any⟩], .one PTP_PSEL_port, 1, 4, .none⟩,
  /- PTP_ANN_TMO -/ ⟨0x0B8, 0x00000000, [⟨31, 0, .ro, .any⟩], .none, 2, 4, .none⟩,
  /- PTP_RX_BAD -/ ⟨0x0C0, 0x00000000, [⟨31, 0, .ro, .any⟩], .none, 1, 4, .none⟩]

/-- The registers of SVI at offsets 0x040 and above. -/
def regsSVI : List RegDef := [
  /- SVI_WINDOW -/ ⟨0x040, 0x000003E8, [⟨11, 0, .rwl, .between 100 4000⟩], .none, 1, 4, .none⟩,
  /- SVI_TICK -/ ⟨0x044, 0x00001401, [⟨15, 8, .rwl, .between 0 100⟩, ⟨2, 0, .rwl, .between 0 4⟩], .none, 1, 4, .none⟩,
  /- SVI_TICK_NUM_LO -/ ⟨0x048, 0x00000000, [⟨31, 0, .ro, .any⟩], .none, 1, 4, .none⟩,
  /- SVI_TICK_NUM_HI -/ ⟨0x04C, 0x00000000, [⟨31, 0, .ro, .any⟩], .none, 1, 4, .none⟩,
  /- SVI_LOAD -/ ⟨0x050, 0x00000000, [⟨31, 16, .ro, .any⟩, ⟨15, 0, .ro, .any⟩], .none, 1, 4, .none⟩,
  /- SVI_BURST_LO -/ ⟨0x054, 0x00000000, [⟨31, 0, .ro, .any⟩], .none, 1, 4, .none⟩,
  /- SVI_BURST_HI -/ ⟨0x058, 0x00000000, [⟨31, 0, .ro, .any⟩], .none, 1, 4, .none⟩,
  /- SVI_SUB_SEL -/ ⟨0x060, 0x00000000, [⟨10, 0, .rw, .any⟩], .none, 1, 4, .none⟩,
  /- SVI_SUB_CTRL -/ ⟨0x064, 0x00000000, [⟨31, 31, .rwl, .any⟩, ⟨30, 30, .rwl, .any⟩, ⟨29, 29, .rwl, .any⟩, ⟨26, 24, .rwl, .any⟩, ⟨21, 16, .rwl, .any⟩, ⟨14, 12, .rwl, .between 0 4⟩, ⟨10, 8, .rwl, .any⟩, ⟨3, 0, .rwl, .any⟩], .one SVI_SUB_SEL_index, 1, 4, .none⟩,
  /- SVI_SUB_APPID -/ ⟨0x068, 0x00004000, [⟨15, 0, .rwl, .between 16384 32767⟩], .one SVI_SUB_SEL_index, 1, 4, .none⟩,
  /- SVI_SUB_DMAC_LO -/ ⟨0x06C, 0x00000000, [⟨31, 0, .rwl, .any⟩], .one SVI_SUB_SEL_index, 1, 4, some 0x070⟩,
  /- SVI_SUB_DMAC_HI -/ ⟨0x070, 0x00000000, [⟨15, 0, .rwl, .any⟩], .one SVI_SUB_SEL_index, 1, 4, .none⟩,
  /- SVI_SUB_CONFREV -/ ⟨0x074, 0x00000000, [⟨31, 0, .rwl, .any⟩], .one SVI_SUB_SEL_index, 1, 4, .none⟩,
  /- SVI_SUB_TMO -/ ⟨0x078, 0x00000BB8, [⟨15, 0, .rwl, .between 250 65535⟩], .one SVI_SUB_SEL_index, 1, 4, .none⟩,
  /- SVI_SUB_LIMIT -/ ⟨0x07C, 0xFFFFFFFF, [⟨31, 16, .rwl, .between 1 65535⟩, ⟨15, 0, .rwl, .between 1 65535⟩], .one SVI_SUB_SEL_index, 1, 4, .none⟩,
  /- SVI_SUB_CHTYPE -/ ⟨0x080, 0x00000000, [⟨15, 0, .rwl, .any⟩], .one SVI_SUB_SEL_index, 1, 4, .none⟩,
  /- SVI_SUB_KEY -/ ⟨0x084, 0x00000000, [⟨16, 16, .rwl, .any⟩, ⟨9, 0, .rwl, .any⟩], .one SVI_SUB_SEL_index, 1, 4, .none⟩,
  /- SVI_SUB_STS -/ ⟨0x088, 0x00000000, [⟨31, 24, .ro, .any⟩, ⟨2, 0, .ro, .any⟩], .one SVI_SUB_SEL_index, 1, 4, .none⟩,
  /- SVI_SUB_ASDU -/ ⟨0x08C, 0x00000000, [⟨31, 0, .ro, .any⟩], .one SVI_SUB_SEL_index, 1, 4, .none⟩,
  /- SVI_SUB_LATE -/ ⟨0x090, 0x00000000, [⟨31, 0, .ro, .any⟩], .one SVI_SUB_SEL_index, 1, 4, .none⟩,
  /- SVI_SUB_GAP -/ ⟨0x094, 0x00000000, [⟨31, 0, .ro, .any⟩], .one SVI_SUB_SEL_index, 1, 4, .none⟩,
  /- SVI_SUB_LOST -/ ⟨0x098, 0x00000000, [⟨31, 0, .ro, .any⟩], .one SVI_SUB_SEL_index, 1, 4, .none⟩,
  /- SVI_GRP_SEL -/ ⟨0x0A0, 0x00000000, [⟨5, 0, .rw, .any⟩], .none, 1, 4, .none⟩,
  /- SVI_GRP_CFG -/ ⟨0x0A4, 0x00000000, [⟨31, 31, .rwl, .any⟩, ⟨1, 0, .rwl, .between 0 2⟩], .one SVI_GRP_SEL_index, 1, 4, .none⟩,
  /- SVI_GRP_STS -/ ⟨0x0A8, 0x00000000, [⟨27, 16, .ro, .any⟩, ⟨11, 0, .ro, .any⟩], .one SVI_GRP_SEL_index, 1, 4, .none⟩,
  /- SVI_GRP_FULL -/ ⟨0x0AC, 0x00000000, [⟨31, 0, .ro, .any⟩], .one SVI_GRP_SEL_index, 1, 4, .none⟩,
  /- SVI_GRP_EXP -/ ⟨0x0B0, 0x00000000, [⟨31, 0, .ro, .any⟩], .one SVI_GRP_SEL_index, 1, 4, .none⟩,
  /- SVI_CNT -/ ⟨0x0C0, 0x00000000, [⟨31, 0, .ro, .any⟩], .none, 20, 4, .none⟩]

/-- The registers of MSR at offsets 0x040 and above. -/
def regsMSR : List RegDef := [
  /- MSR_CFG -/ ⟨0x040, 0x00060000, [⟨23, 16, .rwl, .between 2 50⟩, ⟨0, 0, .rwl, .any⟩], .none, 1, 4, .none⟩,
  /- MSR_LOAD -/ ⟨0x044, 0x00000000, [⟨23, 16, .ro, .any⟩, ⟨15, 0, .ro, .any⟩], .none, 1, 4, .none⟩,
  /- MSR_MAXTIME -/ ⟨0x048, 0x00000000, [⟨15, 0, .ro, .any⟩], .none, 1, 4, .none⟩,
  /- MSR_CLR -/ ⟨0x04C, 0x00000000, [⟨0, 0, .wo, .any⟩], .none, 1, 4, .none⟩,
  /- MSR_BACKLOG -/ ⟨0x050, 0x00000000, [⟨24, 16, .ro, .any⟩, ⟨8, 0, .ro, .any⟩], .none, 1, 4, .none⟩,
  /- MSR_TRK_SEL -/ ⟨0x060, 0x00000000, [⟨3, 0, .rw, .any⟩], .none, 1, 4, .none⟩,
  /- MSR_TRK_CFG -/ ⟨0x064, 0x00000000, [⟨31, 31, .rwl, .any⟩, ⟨28, 28, .rwl, .any⟩, ⟨27, 16, .rwl, .any⟩, ⟨11, 0, .rwl, .any⟩], .one MSR_TRK_SEL_index, 1, 4, .none⟩,
  /- MSR_TRK_PAR -/ ⟨0x068, 0x01F40014, [⟨31, 16, .rwl, .between 0 10000⟩, ⟨6, 0, .rwl, .between 5 80⟩], .one MSR_TRK_SEL_index, 1, 4, .none⟩,
  /- MSR_TRK_STS -/ ⟨0x06C, 0x00000000, [⟨2, 0, .ro, .any⟩], .one MSR_TRK_SEL_index, 1, 4, .none⟩,
  /- MSR_TRK_FREQ -/ ⟨0x070, 0x00000000, [⟨31, 0, .ro, .any⟩], .one MSR_TRK_SEL_index, 1, 4, .none⟩,
  /- MSR_TRK_ROCOF -/ ⟨0x074, 0x00000000, [⟨31, 0, .ro, .any⟩], .one MSR_TRK_SEL_index, 1, 4, .none⟩,
  /- MSR_CH_SEL -/ ⟨0x080, 0x00000000, [⟨13, 0, .rw, .any⟩], .none, 1, 4, .none⟩,
  /- MSR_CH_CFG -/ ⟨0x084, 0x00000000, [⟨31, 31, .rwl, .any⟩, ⟨30, 29, .rwl, .between 0 2⟩, ⟨28, 28, .rwl, .any⟩, ⟨27, 24, .rwl, .any⟩, ⟨23, 20, .rwl, .any⟩, ⟨10, 0, .rwl, .any⟩], .one MSR_CH_SEL_index, 1, 4, .none⟩,
  /- MSR_CH_CORR -/ ⟨0x088, 0x00000000, [⟨31, 31, .rwl, .any⟩, ⟨21, 16, .rwl, .any⟩, ⟨9, 0, .rwl, .any⟩], .one MSR_CH_SEL_index, 1, 4, .none⟩,
  /- MSR_CH_RATED -/ ⟨0x08C, 0x00000001, [⟨19, 0, .rwl, .between 1 1000000⟩], .one MSR_CH_SEL_index, 1, 4, .none⟩,
  /- MSR_CH_STS -/ ⟨0x090, 0x00000000, [⟨31, 31, .ro, .any⟩, ⟨15, 0, .ro, .any⟩], .one MSR_CH_SEL_index, 1, 4, .none⟩,
  /- MSR_GRP_SEL -/ ⟨0x0A0, 0x00000000, [⟨11, 0, .rw, .any⟩], .none, 1, 4, .none⟩,
  /- MSR_GRP_CFG -/ ⟨0x0A4, 0x00000000, [⟨31, 31, .rwl, .any⟩, ⟨30, 30, .rwl, .any⟩, ⟨29, 29, .rwl, .any⟩, ⟨28, 28, .rwl, .any⟩, ⟨11, 0, .rwl, .any⟩], .one MSR_GRP_SEL_index, 1, 4, .none⟩,
  /- MSR_GRP_CH_AB -/ ⟨0x0A8, 0x00000000, [⟨29, 16, .rwl, .any⟩, ⟨13, 0, .rwl, .any⟩], .one MSR_GRP_SEL_index, 1, 4, .none⟩,
  /- MSR_GRP_CH_C -/ ⟨0x0AC, 0x00000000, [⟨13, 0, .rwl, .any⟩], .one MSR_GRP_SEL_index, 1, 4, .none⟩,
  /- MSR_GRP_K0 -/ ⟨0x0B0, 0x00000000, [⟨31, 16, .rwl, .between 0 10000⟩, ⟨15, 0, .rwl, .signedBetween (-18000) 18000⟩], .one MSR_GRP_SEL_index, 1, 4, .none⟩,
  /- MSR_TS_SEL -/ ⟨0x0C0, 0x00000000, [⟨5, 0, .rw, .any⟩], .none, 1, 4, .none⟩,
  /- MSR_TS_CFG -/ ⟨0x0C4, 0x003C0000, [⟨31, 31, .rwl, .any⟩, ⟨30, 30, .rwl, .any⟩, ⟨27, 16, .rwl, .between 1 3600⟩, ⟨13, 0, .rwl, .any⟩], .one MSR_TS_SEL_index, 1, 4, .none⟩,
  /- MSR_TS_FIXED -/ ⟨0x0C8, 0x000000FA, [⟨15, 0, .rwl, .signedBetween (-600) 1500⟩], .one MSR_TS_SEL_index, 1, 4, .none⟩,
  /- MSR_TS_STS -/ ⟨0x0CC, 0x00000000, [⟨31, 30, .ro, .any⟩, ⟨15, 0, .ro, .any⟩], .one MSR_TS_SEL_index, 1, 4, .none⟩,
  /- MSR_CNT -/ ⟨0x0E0, 0x00000000, [⟨31, 0, .ro, .any⟩], .none, 5, 4, .none⟩]

/-- The registers of ADM at offsets 0x040 and above. -/
def regsADM : List RegDef := [
  /- ADM_CTRL -/ ⟨0x040, 0x00000000, [⟨1, 1, .wo, .any⟩, ⟨0, 0, .wo, .any⟩], .none, 1, 4, .none⟩,
  /- ADM_POLICY -/ ⟨0x044, 0x00000384, [⟨9, 0, .rwl, .between 500 950⟩], .none, 1, 4, .none⟩,
  /- ADM_PRIME_FAST -/ ⟨0x048, 0x00000064, [⟨15, 0, .rwl, .between 1 65535⟩], .none, 1, 4, .none⟩,
  /- ADM_PRIME_STD -/ ⟨0x04C, 0x000003E8, [⟨15, 0, .rwl, .between 1 65535⟩], .none, 1, 4, .none⟩,
  /- ADM_PRIME_SLOW -/ ⟨0x050, 0x0000EA60, [⟨15, 0, .rwl, .between 1 65535⟩], .none, 1, 4, .none⟩,
  /- ADM_STS -/ ⟨0x060, 0x00000000, [⟨23, 16, .ro, .any⟩, ⟨15, 8, .ro, .any⟩, ⟨2, 0, .ro, .any⟩], .none, 1, 4, .none⟩,
  /- ADM_REF_WHERE -/ ⟨0x064, 0x00000000, [⟨31, 24, .ro, .any⟩, ⟨23, 23, .ro, .any⟩, ⟨11, 0, .ro, .any⟩], .none, 1, 4, .none⟩,
  /- ADM_REF_VALUE -/ ⟨0x068, 0x00000000, [⟨31, 0, .ro, .any⟩], .none, 1, 4, .none⟩,
  /- ADM_REF_LIMIT -/ ⟨0x06C, 0x00000000, [⟨31, 0, .ro, .any⟩], .none, 1, 4, .none⟩,
  /- ADM_RUN_TIME -/ ⟨0x070, 0x00000000, [⟨31, 0, .ro, .any⟩], .none, 1, 4, .none⟩,
  /- ADM_UMAX -/ ⟨0x074, 0x00000000, [⟨29, 24, .ro, .any⟩, ⟨9, 0, .ro, .any⟩], .none, 1, 4, .none⟩,
  /- ADM_FAST_WORST -/ ⟨0x078, 0x00000000, [⟨31, 20, .ro, .any⟩, ⟨19, 0, .ro, .any⟩], .none, 1, 4, .none⟩,
  /- ADM_SLOTS -/ ⟨0x07C, 0x00000000, [⟨28, 16, .ro, .any⟩, ⟨12, 0, .ro, .any⟩], .none, 1, 4, .none⟩,
  /- ADM_RUNS -/ ⟨0x080, 0x00000000, [⟨31, 0, .ro, .any⟩], .none, 1, 4, .none⟩,
  /- ADM_REFUSALS -/ ⟨0x084, 0x00000000, [⟨31, 0, .ro, .any⟩], .none, 1, 4, .none⟩]

/-- The registers of DSP at offsets 0x040 and above. -/
def regsDSP : List RegDef := [
  /- DSP_SHARE -/ ⟨0x040, 0x00000003, [⟨1, 0, .rwl, .any⟩], .none, 1, 4, .none⟩,
  /- DSP_CFG -/ ⟨0x044, 0x00083214, [⟨23, 16, .rwl, .between 1 255⟩, ⟨15, 8, .rwl, .between 20 100⟩, ⟨7, 0, .rwl, .between 0 100⟩], .none, 1, 4, .none⟩,
  /- DSP_SHED -/ ⟨0x048, 0x00000003, [⟨1, 1, .rwl, .any⟩, ⟨0, 0, .rwl, .any⟩], .none, 1, 4, .none⟩,
  /- DSP_SLOT_SEL -/ ⟨0x060, 0x00000000, [⟨11, 0, .rw, .any⟩], .none, 1, 4, .none⟩,
  /- DSP_SLOT_CFG -/ ⟨0x064, 0x00000001, [⟨31, 31, .rwl, .any⟩, ⟨30, 29, .rwl, .between 0 2⟩, ⟨28, 28, .rwl, .any⟩, ⟨27, 22, .rwl, .any⟩, ⟨21, 16, .rwl, .any⟩, ⟨15, 0, .rwl, .between 1 65535⟩], .one DSP_SLOT_SEL_index, 1, 4, .none⟩,
  /- DSP_SLOT_PHASE -/ ⟨0x068, 0x00000000, [⟨15, 0, .rwl, .between 0 65534⟩], .one DSP_SLOT_SEL_index, 1, 4, .none⟩,
  /- DSP_SLOT_C -/ ⟨0x06C, 0x00000000, [⟨23, 0, .rwl, .any⟩], .one DSP_SLOT_SEL_index, 1, 4, .none⟩,
  /- DSP_SLOT_D -/ ⟨0x070, 0x00000000, [⟨23, 0, .rwl, .any⟩], .one DSP_SLOT_SEL_index, 1, 4, .none⟩,
  /- DSP_SLOT_PRIME -/ ⟨0x074, 0x00000000, [⟨15, 0, .rwl, .any⟩], .one DSP_SLOT_SEL_index, 1, 4, .none⟩,
  /- DSP_SLOT_AGE -/ ⟨0x078, 0x00000000, [⟨23, 0, .rwl, .any⟩], .one DSP_SLOT_SEL_index, 1, 4, .none⟩,
  /- DSP_SLOT_STS -/ ⟨0x07C, 0x00000000, [⟨31, 24, .ro, .any⟩, ⟨18, 16, .ro, .any⟩, ⟨3, 3, .ro, .any⟩, ⟨2, 0, .ro, .any⟩], .one DSP_SLOT_SEL_index, 1, 4, .none⟩,
  /- DSP_SLOT_REL -/ ⟨0x080, 0x00000000, [⟨31, 0, .ro, .any⟩], .one DSP_SLOT_SEL_index, 1, 4, .none⟩,
  /- DSP_SLOT_OVR -/ ⟨0x084, 0x00000000, [⟨31, 0, .ro, .any⟩], .one DSP_SLOT_SEL_index, 1, 4, .none⟩,
  /- DSP_SLOT_MISS -/ ⟨0x088, 0x00000000, [⟨31, 0, .ro, .any⟩], .one DSP_SLOT_SEL_index, 1, 4, .none⟩,
  /- DSP_SLOT_RESP_MAX -/ ⟨0x08C, 0x00000000, [⟨23, 0, .ro, .any⟩], .one DSP_SLOT_SEL_index, 1, 4, .none⟩,
  /- DSP_SLOT_CMD -/ ⟨0x090, 0x00000000, [⟨1, 1, .wo, .any⟩, ⟨0, 0, .wo, .any⟩], .one DSP_SLOT_SEL_index, 1, 4, .none⟩,
  /- DSP_PART_SEL -/ ⟨0x0A0, 0x00000000, [⟨5, 0, .rw, .any⟩], .none, 1, 4, .none⟩,
  /- DSP_PART_STS -/ ⟨0x0A4, 0x00000020, [⟨31, 31, .ro, .any⟩, ⟨24, 16, .ro, .any⟩, ⟨8, 0, .ro, .any⟩], .one DSP_PART_SEL_index, 1, 4, .none⟩,
  /- DSP_CNT -/ ⟨0x0C0, 0x00000000, [⟨31, 0, .ro, .any⟩], .none, 9, 4, .none⟩]

/-- The registers of PUB at offsets 0x040 and above. -/
def regsPUB : List RegDef := [
  /- PUB_CFG -/ ⟨0x040, 0x00000000, [⟨0, 0, .rwl, .any⟩], .none, 1, 4, .none⟩,
  /- PUB_TWIN_MAC_LO -/ ⟨0x044, 0x00000000, [⟨31, 0, .rwl, .any⟩], .none, 1, 4, some 0x048⟩,
  /- PUB_TWIN_MAC_HI -/ ⟨0x048, 0x00000000, [⟨15, 0, .rwl, .any⟩], .none, 1, 4, .none⟩,
  /- PUB_STS -/ ⟨0x04C, 0x00000000, [⟨8, 8, .ro, .any⟩, ⟨2, 0, .ro, .any⟩], .none, 1, 4, .none⟩,
  /- PUB_BUILD -/ ⟨0x050, 0x00000000, [⟨15, 0, .ro, .any⟩], .none, 1, 4, .none⟩,
  /- PUB_GCB_SEL -/ ⟨0x060, 0x00000000, [⟨9, 0, .rw, .any⟩], .none, 1, 4, .none⟩,
  /- PUB_GCB_CTRL -/ ⟨0x064, 0x00000000, [⟨31, 31, .rwl, .any⟩, ⟨30, 30, .rwl, .any⟩, ⟨29, 29, .rwl, .any⟩, ⟨28, 28, .rwl, .any⟩, ⟨27, 27, .rwl, .any⟩, ⟨26, 24, .rwl, .any⟩, ⟨21, 16, .rwl, .any⟩, ⟨11, 0, .rwl, .any⟩], .one PUB_GCB_SEL_index, 1, 4, .none⟩,
  /- PUB_GCB_APPID -/ ⟨0x068, 0x00000000, [⟨15, 0, .rwl, .any⟩], .one PUB_GCB_SEL_index, 1, 4, .none⟩,
  /- PUB_GCB_DMAC_LO -/ ⟨0x06C, 0x00000000, [⟨31, 0, .rwl, .any⟩], .one PUB_GCB_SEL_index, 1, 4, some 0x070⟩,
  /- PUB_GCB_DMAC_HI -/ ⟨0x070, 0x00000000, [⟨15, 0, .rwl, .any⟩], .one PUB_GCB_SEL_index, 1, 4, .none⟩,
  /- PUB_GCB_CONFREV -/ ⟨0x074, 0x00000001, [⟨31, 0, .rwl, .any⟩], .one PUB_GCB_SEL_index, 1, 4, .none⟩,
  /- PUB_GCB_TAG -/ ⟨0x078, 0x40000000, [⟨31, 31, .rwl, .any⟩, ⟨30, 28, .rwl, .any⟩, ⟨11, 0, .rwl, .between 0 4094⟩], .one PUB_GCB_SEL_index, 1, 4, .none⟩,
  /- PUB_GCB_KEY -/ ⟨0x07C, 0x00000000, [⟨9, 0, .rwl, .any⟩], .one PUB_GCB_SEL_index, 1, 4, .none⟩,
  /- PUB_GCB_RETX -/ ⟨0x080, 0x03E80004, [⟨31, 16, .rwl, .between 1 60000⟩, ⟨15, 0, .rwl, .between 1 65535⟩], .one PUB_GCB_SEL_index, 1, 4, .none⟩,
  /- PUB_GCB_SIZE -/ ⟨0x084, 0x00000000, [⟨10, 0, .ro, .any⟩], .one PUB_GCB_SEL_index, 1, 4, .none⟩,
  /- PUB_GCB_STNUM -/ ⟨0x088, 0x00000000, [⟨31, 0, .ro, .any⟩], .one PUB_GCB_SEL_index, 1, 4, .none⟩,
  /- PUB_GCB_SQNUM -/ ⟨0x08C, 0x00000000, [⟨31, 0, .ro, .any⟩], .one PUB_GCB_SEL_index, 1, 4, .none⟩,
  /- PUB_GCB_STS -/ ⟨0x090, 0x00000000, [⟨2, 2, .ro, .any⟩, ⟨1, 0, .ro, .any⟩], .one PUB_GCB_SEL_index, 1, 4, .none⟩,
  /- PUB_SUB_SEL -/ ⟨0x0A0, 0x00000000, [⟨11, 0, .rw, .any⟩], .none, 1, 4, .none⟩,
  /- PUB_SUB_CTRL -/ ⟨0x0A4, 0x00000000, [⟨31, 31, .rwl, .any⟩, ⟨30, 30, .rwl, .any⟩, ⟨29, 29, .rwl, .any⟩, ⟨28, 28, .rwl, .any⟩, ⟨21, 16, .rwl, .any⟩, ⟨9, 0, .rwl, .any⟩], .one PUB_SUB_SEL_index, 1, 4, .none⟩,
  /- PUB_SUB_APPID -/ ⟨0x0A8, 0x00000000, [⟨15, 0, .rwl, .any⟩], .one PUB_SUB_SEL_index, 1, 4, .none⟩,
  /- PUB_SUB_DMAC_LO -/ ⟨0x0AC, 0x00000000, [⟨31, 0, .rwl, .any⟩], .one PUB_SUB_SEL_index, 1, 4, some 0x0B0⟩,
  /- PUB_SUB_DMAC_HI -/ ⟨0x0B0, 0x00000000, [⟨15, 0, .rwl, .any⟩], .one PUB_SUB_SEL_index, 1, 4, .none⟩,
  /- PUB_SUB_CONFREV -/ ⟨0x0B4, 0x00000001, [⟨31, 0, .rwl, .any⟩], .one PUB_SUB_SEL_index, 1, 4, .none⟩,
  /- PUB_SUB_STS -/ ⟨0x0B8, 0x00000000, [⟨1, 0, .ro, .any⟩], .one PUB_SUB_SEL_index, 1, 4, .none⟩,
  /- PUB_CNT -/ ⟨0x0C0, 0x00000000, [⟨31, 0, .ro, .any⟩], .none, 14, 4, .none⟩]

/-- The registers of PLT at offsets 0x040 and above. -/
def regsPLT : List RegDef := [
  /- PLT_CTRL -/ ⟨0x040, 0x00000003, [⟨1, 0, .rwl, .any⟩], .none, 1, 4, .none⟩,
  /- PLT_REPLAY -/ ⟨0x044, 0x00030014, [⟨17, 16, .rwl, .between 1 3⟩, ⟨5, 0, .rwl, .between 10 50⟩], .none, 1, 4, .none⟩,
  /- PLT_SUP -/ ⟨0x048, 0x000003E8, [⟨13, 0, .rwl, .between 250 10000⟩], .none, 1, 4, .none⟩,
  /- PLT_SAK -/ ⟨0x04C, 0x00000000, [⟨29, 20, .rwl, .any⟩, ⟨19, 10, .rwl, .any⟩, ⟨9, 0, .rwl, .any⟩], .none, 1, 4, .none⟩,
  /- PLT_STS -/ ⟨0x050, 0x00000000, [⟨16, 16, .ro, .any⟩, ⟨10, 8, .ro, .any⟩, ⟨2, 0, .ro, .any⟩], .none, 1, 4, .none⟩,
  /- PLT_LAST_RX -/ ⟨0x054, 0x00000000, [⟨31, 0, .ro, .any⟩], .none, 1, 4, .none⟩,
  /- PLT_CNT -/ ⟨0x060, 0x00000000, [⟨31, 0, .ro, .any⟩], .none, 6, 4, .none⟩]

/-- The registers of TWN at offsets 0x040 and above. -/
def regsTWN : List RegDef := [
  /- TWN_CFG -/ ⟨0x040, 0x000303E8, [⟨31, 31, .rwl, .any⟩, ⟨30, 30, .rwl, .any⟩, ⟨29, 29, .rwl, .any⟩, ⟨28, 28, .rwl, .any⟩, ⟨24, 24, .rwl, .any⟩, ⟨20, 16, .rwl, .between 1 31⟩, ⟨13, 0, .rwl, .between 10 10000⟩], .none, 1, 4, .none⟩,
  /- TWN_WIT -/ ⟨0x044, 0x0BB801F4, [⟨31, 16, .rwl, .between 1000 20000⟩, ⟨15, 0, .rwl, .between 100 2000⟩], .none, 1, 4, .none⟩,
  /- TWN_WIT_PORTS -/ ⟨0x048, 0x00000000, [⟨15, 0, .rwl, .any⟩], .none, 1, 4, .none⟩,
  /- TWN_WIT_DMAC_LO -/ ⟨0x04C, 0x00000000, [⟨31, 0, .rwl, .any⟩], .none, 1, 4, some 0x050⟩,
  /- TWN_WIT_DMAC_HI -/ ⟨0x050, 0x00000000, [⟨15, 0, .rwl, .any⟩], .none, 1, 4, .none⟩,
  /- TWN_WIT_SMAC_LO -/ ⟨0x054, 0x00000000, [⟨31, 0, .rwl, .any⟩], .none, 1, 4, some 0x058⟩,
  /- TWN_WIT_SMAC_HI -/ ⟨0x058, 0x00000000, [⟨15, 0, .rwl, .any⟩], .none, 1, 4, .none⟩,
  /- TWN_WIT_TAG -/ ⟨0x05C, 0x70000000, [⟨31, 31, .rwl, .any⟩, ⟨30, 28, .rwl, .any⟩, ⟨11, 0, .rwl, .between 0 4094⟩], .none, 1, 4, .none⟩,
  /- TWN_WIT_KEY -/ ⟨0x060, 0x00000000, [⟨9, 0, .rwl, .any⟩], .none, 1, 4, .none⟩,
  /- TWN_JOIN -/ ⟨0x064, 0x003200A0, [⟨31, 16, .rwl, .between 1 600⟩, ⟨15, 0, .rwl, .between 16 65535⟩], .none, 1, 4, .none⟩,
  /- TWN_REVERT -/ ⟨0x068, 0x0000003C, [⟨11, 0, .rwl, .between 1 3600⟩], .none, 1, 4, .none⟩,
  /- TWN_CMD -/ ⟨0x06C, 0x00000000, [⟨2, 2, .wo, .any⟩, ⟨1, 1, .wo, .any⟩, ⟨0, 0, .wo, .any⟩], .none, 1, 4, .none⟩,
  /- TWN_STS -/ ⟨0x080, 0x00000000, [⟨14, 14, .ro, .any⟩, ⟨13, 13, .ro, .any⟩, ⟨12, 12, .ro, .any⟩, ⟨11, 11, .ro, .any⟩, ⟨10, 10, .ro, .any⟩, ⟨9, 9, .ro, .any⟩, ⟨8, 8, .ro, .any⟩, ⟨7, 4, .ro, .any⟩, ⟨3, 0, .ro, .any⟩], .none, 1, 4, .none⟩,
  /- TWN_TICK_OFS_LO -/ ⟨0x084, 0x00000000, [⟨31, 0, .ro, .any⟩], .none, 1, 4, .none⟩,
  /- TWN_TICK_OFS_HI -/ ⟨0x088, 0x00000000, [⟨31, 0, .ro, .any⟩], .none, 1, 4, .none⟩,
  /- TWN_LOSS_TICK_LO -/ ⟨0x08C, 0x00000000, [⟨31, 0, .ro, .any⟩], .none, 1, 4, .none⟩,
  /- TWN_LOSS_TICK_HI -/ ⟨0x090, 0x00000000, [⟨31, 0, .ro, .any⟩], .none, 1, 4, .none⟩,
  /- TWN_LEAD_SINCE_LO -/ ⟨0x094, 0x00000000, [⟨31, 0, .ro, .any⟩], .none, 1, 4, .none⟩,
  /- TWN_LEAD_SINCE_HI -/ ⟨0x098, 0x00000000, [⟨31, 0, .ro, .any⟩], .none, 1, 4, .none⟩,
  /- TWN_BOOT -/ ⟨0x09C, 0x00000000, [⟨15, 0, .ro, .any⟩], .none, 1, 4, .none⟩,
  /- TWN_COPY_STS -/ ⟨0x0A0, 0x00000000, [⟨31, 29, .ro, .any⟩, ⟨28, 16, .ro, .any⟩, ⟨12, 0, .ro, .any⟩], .none, 1, 4, .none⟩,
  /- TWN_SLOT_SEL -/ ⟨0x0B0, 0x00000000, [⟨11, 0, .rw, .any⟩], .none, 1, 4, .none⟩,
  /- TWN_SLOT_AREA -/ ⟨0x0B4, 0x00000000, [⟨31, 8, .rwl, .any⟩, ⟨4, 0, .rwl, .between 0 16⟩], .one TWN_SLOT_SEL_index, 1, 4, .none⟩,
  /- TWN_CNT -/ ⟨0x0C0, 0x00000000, [⟨31, 0, .ro, .any⟩], .none, 10, 4, .none⟩]

/-- The registers of VRT at offsets 0x040 and above. -/
def regsVRT : List RegDef := [
  /- VRT_PART_SEL -/ ⟨0x040, 0x00000000, [⟨5, 0, .rw, .any⟩], .none, 1, 4, .none⟩,
  /- VRT_PART_CFG -/ ⟨0x044, 0x00000000, [⟨31, 31, .rwl, .any⟩, ⟨30, 30, .rwl, .any⟩, ⟨27, 16, .rwl, .any⟩, ⟨5, 0, .rwl, .any⟩], .one VRT_PART_SEL_index, 1, 4, .none⟩,
  /- VRT_PART_STS -/ ⟨0x048, 0x00000000, [⟨24, 16, .ro, .any⟩, ⟨15, 8, .ro, .any⟩, ⟨2, 0, .ro, .any⟩], .one VRT_PART_SEL_index, 1, 4, .none⟩,
  /- VRT_CMD -/ ⟨0x04C, 0x00000000, [⟨21, 16, .wo, .any⟩, ⟨13, 8, .wo, .any⟩, ⟨2, 2, .wo, .any⟩, ⟨1, 1, .wo, .any⟩, ⟨0, 0, .wo, .any⟩], .none, 1, 4, .none⟩,
  /- VRT_MIG -/ ⟨0x050, 0x000003E8, [⟨31, 31, .rwl, .any⟩, ⟨21, 16, .rwl, .any⟩, ⟨15, 0, .rwl, .between 100 20000⟩], .none, 1, 4, .none⟩,
  /- VRT_MIG_CMD -/ ⟨0x054, 0x00000000, [⟨1, 1, .wo, .any⟩, ⟨0, 0, .wo, .any⟩], .none, 1, 4, .none⟩,
  /- VRT_MIG_LAST -/ ⟨0x058, 0x00000000, [⟨31, 31, .ro, .any⟩, ⟨15, 0, .ro, .any⟩], .none, 1, 4, .none⟩,
  /- VRT_CNT -/ ⟨0x060, 0x00000000, [⟨31, 0, .ro, .any⟩], .none, 4, 4, .none⟩,
  /- VRT_MGR_RING_LO -/ ⟨0x070, 0x00000000, [⟨31, 0, .rwl, .any⟩], .none, 1, 4, some 0x074⟩,
  /- VRT_MGR_RING_HI -/ ⟨0x074, 0x00000000, [⟨31, 0, .rwl, .any⟩], .none, 1, 4, .none⟩,
  /- VRT_MGR_RING -/ ⟨0x078, 0x00000001, [⟨31, 31, .rwl, .any⟩, ⟨26, 24, .rwl, .any⟩, ⟨3, 0, .rwl, .between 1 8⟩], .none, 1, 4, .none⟩,
  /- VRT_MGR_IDX -/ ⟨0x07C, 0x00000000, [⟨31, 16, .ro, .any⟩, ⟨15, 0, .rw, .any⟩], .none, 1, 4, .none⟩]

/-- The registers of XFR at offsets 0x040 and above. -/
def regsXFR : List RegDef := [
  /- XFR_SEL -/ ⟨0x040, 0x00000000, [⟨9, 8, .rw, .any⟩, ⟨5, 0, .rw, .any⟩], .none, 1, 4, .none⟩,
  /- XFR_RGN_GPA -/ ⟨0x044, 0x00000000, [⟨31, 31, .rwl, .any⟩, ⟨19, 0, .rwl, .any⟩], .two XFR_SEL_region XFR_SEL_part, 1, 4, .none⟩,
  /- XFR_RGN_HPA -/ ⟨0x048, 0x00000000, [⟨13, 0, .rwl, .any⟩], .two XFR_SEL_region XFR_SEL_part, 1, 4, .none⟩,
  /- XFR_RGN_SIZE -/ ⟨0x04C, 0x00000000, [⟨14, 0, .rwl, .between 1 16384⟩], .two XFR_SEL_region XFR_SEL_part, 1, 4, .none⟩,
  /- XFR_PART -/ ⟨0x050, 0x00000000, [⟨24, 16, .ro, .any⟩, ⟨7, 0, .ro, .any⟩], .one XFR_SEL_part, 1, 4, .none⟩,
  /- XFR_CNT -/ ⟨0x060, 0x00000000, [⟨31, 0, .ro, .any⟩], .none, 5, 4, .none⟩]

/-- The registers of DRT at offsets 0x040 and above. -/
def regsDRT : List RegDef := [
  /- DRT_SEL -/ ⟨0x040, 0x00000000, [⟨5, 0, .rw, .any⟩], .none, 1, 4, .none⟩,
  /- DRT_CTRL -/ ⟨0x044, 0x00000000, [⟨31, 31, .rwl, .any⟩, ⟨12, 0, .rwl, .between 0 4096⟩], .one DRT_SEL_index, 1, 4, .none⟩,
  /- DRT_RING_LO -/ ⟨0x048, 0x00000000, [⟨31, 0, .rwl, .any⟩], .one DRT_SEL_index, 1, 4, some 0x04C⟩,
  /- DRT_RING_HI -/ ⟨0x04C, 0x00000000, [⟨31, 0, .rwl, .any⟩], .one DRT_SEL_index, 1, 4, .none⟩,
  /- DRT_BMP_LO -/ ⟨0x050, 0x00000000, [⟨31, 0, .rwl, .any⟩], .one DRT_SEL_index, 1, 4, some 0x054⟩,
  /- DRT_BMP_HI -/ ⟨0x054, 0x00000000, [⟨31, 0, .rwl, .any⟩], .one DRT_SEL_index, 1, 4, .none⟩,
  /- DRT_PROD -/ ⟨0x058, 0x00000000, [⟨15, 0, .ro, .any⟩], .one DRT_SEL_index, 1, 4, .none⟩,
  /- DRT_CONS -/ ⟨0x05C, 0x00000000, [⟨15, 0, .rw, .any⟩], .one DRT_SEL_index, 1, 4, .none⟩,
  /- DRT_STS -/ ⟨0x060, 0x00000000, [⟨2, 2, .ro, .any⟩, ⟨1, 1, .ro, .any⟩, ⟨0, 0, .ro, .any⟩], .one DRT_SEL_index, 1, 4, .none⟩,
  /- DRT_CMD -/ ⟨0x064, 0x00000000, [⟨0, 0, .wo, .any⟩], .one DRT_SEL_index, 1, 4, .none⟩,
  /- DRT_CNT -/ ⟨0x070, 0x00000000, [⟨31, 0, .ro, .any⟩], .none, 3, 4, .none⟩]

/-- The registers of IRQ at offsets 0x040 and above. -/
def regsIRQ : List RegDef := [
  /- IRQ_SEL -/ ⟨0x040, 0x00000000, [⟨22, 16, .rw, .between 0 65⟩, ⟨13, 8, .rw, .any⟩, ⟨5, 0, .rw, .any⟩], .none, 1, 4, .none⟩,
  /- IRQ_SRC -/ ⟨0x044, 0x00000000, [⟨31, 31, .rwl, .any⟩, ⟨5, 0, .rwl, .any⟩], .two IRQ_SEL_src IRQ_SEL_part, 1, 4, .none⟩,
  /- IRQ_VEC -/ ⟨0x048, 0x00000000, [⟨31, 31, .rwl, .any⟩, ⟨21, 16, .rwl, .any⟩, ⟨10, 0, .rwl, .any⟩], .two IRQ_SEL_vec IRQ_SEL_part, 1, 4, .none⟩,
  /- IRQ_PART -/ ⟨0x04C, 0x04640010, [⟨31, 26, .rwl, .between 1 63⟩, ⟨25, 16, .rwl, .between 1 1000⟩, ⟨6, 0, .rwl, .between 1 64⟩], .one IRQ_SEL_part, 1, 4, .none⟩,
  /- IRQ_STS -/ ⟨0x050, 0x00000000, [⟨31, 31, .ro, .any⟩], .one IRQ_SEL_part, 1, 4, .none⟩,
  /- IRQ_CNT -/ ⟨0x060, 0x00000000, [⟨31, 0, .ro, .any⟩], .none, 4, 4, .none⟩]

/-- The registers of MAC at offsets 0x040 and above. -/
def regsMAC : List RegDef := [
  /- MAC_CTRL -/ ⟨0x040, 0x00000200, [⟨9, 8, .rwl, .between 0 2⟩, ⟨5, 4, .rwl, .between 0 2⟩, ⟨2, 2, .rwl, .any⟩, ⟨0, 0, .rwl, .any⟩], .none, 1, 4, .none⟩,
  /- MAC_LINK -/ ⟨0x044, 0x00020064, [⟨25, 16, .rwl, .between 0 1000⟩, ⟨9, 0, .rwl, .between 0 1000⟩], .none, 1, 4, .none⟩,
  /- MAC_HOLD -/ ⟨0x048, 0x0000000A, [⟨7, 0, .rwl, .between 0 250⟩], .none, 1, 4, .none⟩,
  /- MAC_PAUSE -/ ⟨0x04C, 0x00000000, [⟨0, 0, .rwl, .any⟩], .none, 1, 4, .none⟩,
  /- MAC_EEE -/ ⟨0x050, 0x001400AA, [⟨31, 31, .rwl, .any⟩, ⟨23, 16, .rwl, .between 1 255⟩, ⟨15, 0, .rwl, .between 1 65535⟩], .none, 1, 4, .none⟩,
  /- MAC_EEE_STS -/ ⟨0x054, 0x00000000, [⟨31, 31, .ro, .any⟩, ⟨30, 30, .ro, .any⟩, ⟨15, 0, .ro, .any⟩], .none, 1, 4, .none⟩,
  /- MAC_VLAN -/ ⟨0x058, 0x10000001, [⟨31, 30, .rwl, .between 0 2⟩, ⟨28, 28, .rwl, .any⟩, ⟨26, 24, .rwl, .any⟩, ⟨11, 0, .rwl, .between 1 4094⟩], .none, 1, 4, .none⟩,
  /- MAC_FILT -/ ⟨0x05C, 0x00000000, [⟨0, 0, .rwl, .any⟩], .none, 1, 4, .none⟩,
  /- MAC_RED -/ ⟨0x060, 0x07D00190, [⟨31, 30, .rwl, .between 0 2⟩, ⟨27, 16, .rwl, .between 100 4000⟩, ⟨13, 0, .rwl, .between 10 10000⟩], .none, 1, 4, .none⟩,
  /- MAC_MSEC -/ ⟨0x064, 0x00000000, [⟨31, 31, .rwl, .any⟩, ⟨30, 30, .rwl, .any⟩, ⟨29, 20, .rwl, .any⟩, ⟨19, 10, .rwl, .any⟩, ⟨9, 0, .rwl, .any⟩], .none, 1, 4, .none⟩,
  /- MAC_ADDR_LO -/ ⟨0x068, 0x00000000, [⟨31, 0, .rwl, .any⟩], .none, 1, 4, some 0x06C⟩,
  /- MAC_ADDR_HI -/ ⟨0x06C, 0x00000000, [⟨15, 0, .rwl, .any⟩], .none, 1, 4, .none⟩,
  /- MAC_STS -/ ⟨0x070, 0x00000000, [⟨10, 10, .ro, .any⟩, ⟨9, 9, .ro, .any⟩, ⟨8, 8, .ro, .any⟩, ⟨5, 4, .ro, .any⟩, ⟨1, 0, .ro, .any⟩], .none, 1, 4, .none⟩,
  /- MAC_LIFE -/ ⟨0x074, 0x00C800C8, [⟨31, 16, .rwl, .any⟩, ⟨15, 0, .rwl, .any⟩], .none, 4, 4, .none⟩,
  /- MAC_RX_OCT_LO -/ ⟨0x090, 0x00000000, [⟨31, 0, .ro, .any⟩], .none, 1, 4, .none⟩,
  /- MAC_RX_OCT_HI -/ ⟨0x094, 0x00000000, [⟨31, 0, .ro, .any⟩], .none, 1, 4, .none⟩,
  /- MAC_TX_OCT_LO -/ ⟨0x098, 0x00000000, [⟨31, 0, .ro, .any⟩], .none, 1, 4, .none⟩,
  /- MAC_TX_OCT_HI -/ ⟨0x09C, 0x00000000, [⟨31, 0, .ro, .any⟩], .none, 1, 4, .none⟩,
  /- MAC_CNT -/ ⟨0x0A0, 0x00000000, [⟨31, 0, .ro, .any⟩], .none, 26, 4, .none⟩]

/-- The registers of SWC at offsets 0x040 and above. -/
def regsSWC : List RegDef := [
  /- SWC_CFG -/ ⟨0x040, 0x00000A01, [⟨15, 8, .rwl, .between 1 255⟩, ⟨0, 0, .rwl, .any⟩], .none, 1, 4, .none⟩,
  /- SWC_CMD -/ ⟨0x044, 0x00000000, [⟨2, 2, .wo, .any⟩, ⟨1, 1, .wo, .any⟩, ⟨0, 0, .wo, .any⟩], .none, 1, 4, .none⟩,
  /- SWC_STS -/ ⟨0x048, 0x00000000, [⟨15, 8, .ro, .any⟩, ⟨5, 4, .ro, .any⟩, ⟨1, 0, .ro, .any⟩], .none, 1, 4, .none⟩,
  /- SWC_MEM_USE -/ ⟨0x050, 0x00000000, [⟨18, 0, .ro, .any⟩], .none, 1, 4, .none⟩,
  /- SWC_MEM_MAX -/ ⟨0x054, 0x00000000, [⟨31, 31, .wo, .any⟩, ⟨18, 0, .ro, .any⟩], .none, 1, 4, .none⟩,
  /- SWC_CNT -/ ⟨0x060, 0x00000000, [⟨31, 0, .ro, .any⟩], .none, 8, 4, .none⟩]

/-- The registers of FWD at offsets 0x040 and above. -/
def regsFWD : List RegDef := [
  /- FWD_LEARN -/ ⟨0x040, 0x00000000, [⟨15, 0, .rwl, .any⟩], .none, 1, 4, .none⟩,
  /- FWD_AGE -/ ⟨0x044, 0x0000012C, [⟨15, 0, .rwl, .between 10 65535⟩], .none, 1, 4, .none⟩,
  /- FWD_FLOOD_UC -/ ⟨0x048, 0x00000000, [⟨23, 0, .rwl, .any⟩], .none, 1, 4, .none⟩,
  /- FWD_FLOOD_MC -/ ⟨0x04C, 0x00000000, [⟨23, 0, .rwl, .any⟩], .none, 1, 4, .none⟩,
  /- FWD_USED -/ ⟨0x050, 0x00000000, [⟨30, 16, .ro, .any⟩, ⟨14, 0, .ro, .any⟩], .none, 1, 4, .none⟩,
  /- FWD_CNT -/ ⟨0x060, 0x00000000, [⟨31, 0, .ro, .any⟩], .none, 3, 4, .none⟩]

/-- The registers of QOS at offsets 0x040 and above. -/
def regsQOS : List RegDef := [
  /- QOS_PCP -/ ⟨0x040, 0x00FAC688, [⟨23, 0, .rwl, .any⟩], .none, 1, 4, .none⟩,
  /- QOS_CLASS -/ ⟨0x044, 0x000000F0, [⟨7, 0, .rwl, .any⟩], .none, 1, 4, .none⟩,
  /- QOS_WRR_LO -/ ⟨0x048, 0x01010101, [⟨31, 24, .rwl, .between 1 255⟩, ⟨23, 16, .rwl, .between 1 255⟩, ⟨15, 8, .rwl, .between 1 255⟩, ⟨7, 0, .rwl, .between 1 255⟩], .none, 1, 4, .none⟩,
  /- QOS_WRR_HI -/ ⟨0x04C, 0x01010101, [⟨31, 24, .rwl, .between 1 255⟩, ⟨23, 16, .rwl, .between 1 255⟩, ⟨15, 8, .rwl, .between 1 255⟩, ⟨7, 0, .rwl, .between 1 255⟩], .none, 1, 4, .none⟩,
  /- QOS_PORT_SEL -/ ⟨0x050, 0x00000000, [⟨4, 0, .rw, .between 0 23⟩], .none, 1, 4, .none⟩,
  /- QOS_RSV -/ ⟨0x054, 0x00400040, [⟨31, 16, .rwl, .any⟩, ⟨15, 0, .rwl, .any⟩], .one QOS_PORT_SEL_port, 4, 4, .none⟩,
  /- QOS_CAP -/ ⟨0x064, 0x00010000, [⟨18, 0, .rwl, .any⟩], .one QOS_PORT_SEL_port, 1, 4, .none⟩,
  /- QOS_BOUND -/ ⟨0x068, 0x00000000, [⟨15, 0, .ro, .any⟩], .one QOS_PORT_SEL_port, 1, 4, .none⟩,
  /- QOS_DROP -/ ⟨0x06C, 0x00000000, [⟨31, 0, .ro, .any⟩], .one QOS_PORT_SEL_port, 1, 4, .none⟩,
  /- QOS_VNIC -/ ⟨0x070, 0x00002000, [⟨17, 0, .rwl, .any⟩], .none, 1, 4, .none⟩]

/-- The registers of ACQ at offsets 0x040 and above. -/
def regsACQ : List RegDef := [
  /- ACQ_EXP_CFG -/ ⟨0x040, 0x00000064, [⟨9, 0, .rwl, .between 1 1000⟩], .none, 1, 4, .none⟩,
  /- ACQ_EXP_DMAC_LO -/ ⟨0x044, 0x00000000, [⟨31, 0, .rwl, .any⟩], .none, 1, 4, some 0x048⟩,
  /- ACQ_EXP_DMAC_HI -/ ⟨0x048, 0x00000000, [⟨15, 0, .rwl, .any⟩], .none, 1, 4, .none⟩,
  /- ACQ_EXP_SMAC_LO -/ ⟨0x04C, 0x00000000, [⟨31, 0, .rwl, .any⟩], .none, 1, 4, some 0x050⟩,
  /- ACQ_EXP_SMAC_HI -/ ⟨0x050, 0x00000000, [⟨15, 0, .rwl, .any⟩], .none, 1, 4, .none⟩,
  /- ACQ_EXP_TAG -/ ⟨0x054, 0x10000000, [⟨31, 31, .rwl, .any⟩, ⟨30, 28, .rwl, .any⟩, ⟨11, 0, .rwl, .between 0 4094⟩], .none, 1, 4, .none⟩,
  /- ACQ_UNIT_SEL -/ ⟨0x060, 0x00000000, [⟨5, 0, .rw, .any⟩], .none, 1, 4, .none⟩,
  /- ACQ_UNIT_CFG -/ ⟨0x064, 0x00000000, [⟨31, 31, .rwl, .any⟩, ⟨30, 30, .rwl, .any⟩, ⟨29, 29, .rwl, .any⟩, ⟨28, 28, .rwl, .any⟩, ⟨27, 27, .rwl, .any⟩, ⟨21, 16, .rwl, .any⟩, ⟨13, 8, .rwl, .any⟩, ⟨4, 0, .rwl, .any⟩], .one ACQ_UNIT_SEL_unit, 1, 4, .none⟩,
  /- ACQ_UNIT_BUF -/ ⟨0x068, 0x00000000, [⟨29, 24, .rwl, .any⟩, ⟨14, 0, .rwl, .any⟩], .one ACQ_UNIT_SEL_unit, 1, 4, .none⟩,
  /- ACQ_UNIT_PRE -/ ⟨0x06C, 0x00000000, [⟨23, 0, .rwl, .any⟩], .one ACQ_UNIT_SEL_unit, 1, 4, .none⟩,
  /- ACQ_UNIT_POST -/ ⟨0x070, 0x00000000, [⟨23, 0, .rwl, .any⟩], .one ACQ_UNIT_SEL_unit, 1, 4, .none⟩,
  /- ACQ_UNIT_STS -/ ⟨0x074, 0x00000000, [⟨31, 8, .ro, .any⟩, ⟨2, 0, .ro, .any⟩], .one ACQ_UNIT_SEL_unit, 1, 4, .none⟩,
  /- ACQ_UNIT_CMD -/ ⟨0x078, 0x00000000, [⟨1, 1, .wo, .any⟩, ⟨0, 0, .wo, .any⟩], .one ACQ_UNIT_SEL_unit, 1, 4, .none⟩,
  /- ACQ_UNIT_REC -/ ⟨0x07C, 0x00000000, [⟨31, 0, .ro, .any⟩], .one ACQ_UNIT_SEL_unit, 1, 4, .none⟩,
  /- ACQ_UNIT_CH -/ ⟨0x080, 0x00000000, [⟨29, 16, .rwl, .any⟩, ⟨13, 0, .rwl, .any⟩], .one ACQ_UNIT_SEL_unit, 16, 4, .none⟩,
  /- ACQ_TRG_CFG -/ ⟨0x0C0, 0x00000000, [⟨31, 29, .rwl, .between 0 4⟩, ⟨28, 28, .rwl, .any⟩, ⟨27, 27, .rwl, .any⟩, ⟨21, 16, .rwl, .any⟩, ⟨11, 0, .rwl, .any⟩], .one ACQ_UNIT_SEL_unit, 4, 8, .none⟩,
  /- ACQ_TRG_LVL -/ ⟨0x0C4, 0x00000000, [⟨31, 0, .rwl, .any⟩], .one ACQ_UNIT_SEL_unit, 4, 8, .none⟩,
  /- ACQ_CNT -/ ⟨0x0E0, 0x00000000, [⟨31, 0, .ro, .any⟩], .none, 5, 4, .none⟩]

/-- The registers of NRG at offsets 0x040 and above. -/
def regsNRG : List RegDef := [
  /- NRG_CFG -/ ⟨0x040, 0x000F000F, [⟨23, 16, .rwl, .between 1 60⟩, ⟨7, 0, .rwl, .oneOf [1, 5, 10, 15, 30, 60]⟩], .none, 1, 4, .none⟩,
  /- NRG_PT_SEL -/ ⟨0x060, 0x00000000, [⟨8, 0, .rw, .any⟩], .none, 1, 4, .none⟩,
  /- NRG_PT_CFG -/ ⟨0x064, 0x03000000, [⟨31, 31, .rwl, .any⟩, ⟨30, 30, .rwl, .any⟩, ⟨26, 24, .rwl, .between 0 6⟩, ⟨11, 0, .rwl, .any⟩], .one NRG_PT_SEL_index, 1, 4, .none⟩,
  /- NRG_PT_HYS -/ ⟨0x068, 0x000A000A, [⟨31, 16, .rwl, .between 0 1000⟩, ⟨15, 0, .rwl, .between 0 1000⟩], .one NRG_PT_SEL_index, 1, 4, .none⟩,
  /- NRG_PT_OC -/ ⟨0x06C, 0x007803E8, [⟨31, 16, .rwl, .between 10 1000⟩, ⟨15, 0, .rwl, .between 0 60000⟩], .one NRG_PT_SEL_index, 1, 4, .none⟩,
  /- NRG_PT_STS -/ ⟨0x070, 0x00000000, [⟨11, 8, .ro, .any⟩, ⟨4, 4, .ro, .any⟩, ⟨3, 3, .ro, .any⟩, ⟨1, 1, .ro, .any⟩, ⟨0, 0, .ro, .any⟩], .one NRG_PT_SEL_index, 1, 4, .none⟩,
  /- NRG_PT_CMD -/ ⟨0x074, 0x00000000, [⟨1, 1, .wo, .any⟩, ⟨0, 0, .wo, .any⟩], .one NRG_PT_SEL_index, 1, 4, .none⟩,
  /- NRG_PT_PK_IMP -/ ⟨0x078, 0x00000000, [⟨31, 0, .ro, .any⟩], .one NRG_PT_SEL_index, 1, 4, .none⟩,
  /- NRG_PT_PK_EXP -/ ⟨0x07C, 0x00000000, [⟨31, 0, .ro, .any⟩], .one NRG_PT_SEL_index, 1, 4, .none⟩,
  /- NRG_PT_PK_IMP_T -/ ⟨0x080, 0x00000000, [⟨31, 0, .ro, .any⟩], .one NRG_PT_SEL_index, 1, 4, .none⟩,
  /- NRG_PT_PK_EXP_T -/ ⟨0x084, 0x00000000, [⟨31, 0, .ro, .any⟩], .one NRG_PT_SEL_index, 1, 4, .none⟩,
  /- NRG_L_TICK_LO -/ ⟨0x088, 0x00000000, [⟨31, 0, .ro, .any⟩], .one NRG_PT_SEL_index, 1, 4, .none⟩,
  /- NRG_L_TICK_HI -/ ⟨0x08C, 0x00000000, [⟨31, 0, .ro, .any⟩], .one NRG_PT_SEL_index, 1, 4, .none⟩,
  /- NRG_L_STS -/ ⟨0x090, 0x00000000, [⟨31, 16, .ro, .any⟩, ⟨5, 0, .ro, .any⟩], .one NRG_PT_SEL_index, 1, 4, .none⟩,
  /- NRG_L_ACC_LO -/ ⟨0x0A0, 0x00000000, [⟨31, 0, .ro, .any⟩], .one NRG_PT_SEL_index, 6, 8, .none⟩,
  /- NRG_L_ACC_HI -/ ⟨0x0A4, 0x00000000, [⟨23, 16, .ro, .any⟩, ⟨15, 0, .ro, .any⟩], .one NRG_PT_SEL_index, 6, 8, .none⟩,
  /- NRG_CNT -/ ⟨0x0E0, 0x00000000, [⟨31, 0, .ro, .any⟩], .none, 4, 4, .none⟩]

/-- The registers of PLS at offsets 0x040 and above. -/
def regsPLS : List RegDef := [
  /- PLS_SEL -/ ⟨0x040, 0x00000000, [⟨4, 0, .rw, .any⟩], .none, 1, 4, .none⟩,
  /- PLS_CFG -/ ⟨0x044, 0x001400C8, [⟨31, 31, .rwl, .any⟩, ⟨30, 30, .rwl, .any⟩, ⟨22, 16, .rwl, .between 0 100⟩, ⟨13, 0, .rwl, .between 1 10000⟩], .one PLS_SEL_index, 1, 4, .none⟩,
  /- PLS_LIM -/ ⟨0x048, 0x03840032, [⟨31, 16, .rwl, .any⟩, ⟨15, 0, .rwl, .between 1 65535⟩], .one PLS_SEL_index, 1, 4, .none⟩,
  /- PLS_STS -/ ⟨0x04C, 0x00000000, [⟨1, 1, .ro, .any⟩, ⟨0, 0, .ro, .any⟩], .one PLS_SEL_index, 1, 4, .none⟩,
  /- PLS_CNT -/ ⟨0x050, 0x00000000, [⟨31, 0, .ro, .any⟩], .one PLS_SEL_index, 1, 4, .none⟩,
  /- PLS_LAST -/ ⟨0x054, 0x00000000, [⟨31, 0, .ro, .any⟩], .one PLS_SEL_index, 1, 4, .none⟩,
  /- PLS_LATCH -/ ⟨0x058, 0x00000000, [⟨0, 0, .wo, .any⟩], .none, 1, 4, .none⟩,
  /- PLS_L_TAG -/ ⟨0x05C, 0x00000000, [⟨31, 0, .ro, .any⟩], .none, 1, 4, .none⟩,
  /- PLS_SHORT -/ ⟨0x060, 0x00000000, [⟨31, 0, .ro, .any⟩], .none, 1, 4, .none⟩,
  /- PLS_RATE_REJ -/ ⟨0x064, 0x00000000, [⟨31, 0, .ro, .any⟩], .none, 1, 4, .none⟩,
  /- PLS_STALLS -/ ⟨0x068, 0x00000000, [⟨31, 0, .ro, .any⟩], .none, 1, 4, .none⟩,
  /- PLS_L_CNT -/ ⟨0x080, 0x00000000, [⟨31, 0, .ro, .any⟩], .none, 32, 4, .none⟩]

/-- The registers of COIL at offsets 0x040 and above. -/
def regsCOIL : List RegDef := [
  /- COIL_CFG -/ ⟨0x040, 0x00000001, [⟨31, 31, .rwl, .any⟩, ⟨8, 0, .rwl, .between 1 256⟩], .none, 1, 4, .none⟩,
  /- COIL_BASE_LO -/ ⟨0x044, 0x00000000, [⟨31, 0, .rwl, .any⟩], .none, 1, 4, some 0x048⟩,
  /- COIL_BASE_HI -/ ⟨0x048, 0x00000000, [⟨31, 0, .rwl, .any⟩], .none, 1, 4, .none⟩,
  /- COIL_SEV -/ ⟨0x04C, 0x00000142, [⟨10, 8, .rwl, .any⟩, ⟨6, 4, .rwl, .any⟩, ⟨2, 0, .rwl, .any⟩], .none, 1, 4, .none⟩,
  /- COIL_LG -/ ⟨0x050, 0x00000003, [⟨2, 0, .rwl, .any⟩], .none, 1, 4, .none⟩,
  /- COIL_LG_STS -/ ⟨0x054, 0x00000000, [⟨16, 16, .ro, .any⟩, ⟨9, 0, .ro, .any⟩], .none, 1, 4, .none⟩,
  /- COIL_CMD -/ ⟨0x058, 0x00000000, [⟨1, 1, .wo, .any⟩, ⟨0, 0, .wo, .any⟩], .none, 1, 4, .none⟩,
  /- COIL_SEQ -/ ⟨0x060, 0x00000000, [⟨31, 0, .ro, .any⟩], .none, 1, 4, .none⟩,
  /- COIL_OLDEST -/ ⟨0x064, 0x00000000, [⟨31, 0, .ro, .any⟩], .none, 1, 4, .none⟩,
  /- COIL_FILL -/ ⟨0x068, 0x00000000, [⟨20, 0, .ro, .any⟩], .none, 1, 4, .none⟩,
  /- COIL_FIFO -/ ⟨0x06C, 0x00000000, [⟨31, 31, .wo, .any⟩, ⟨21, 16, .ro, .any⟩, ⟨5, 0, .ro, .any⟩], .none, 1, 4, .none⟩,
  /- COIL_CNT -/ ⟨0x080, 0x00000000, [⟨31, 0, .ro, .any⟩], .none, 6, 4, .none⟩]

/-- The registers of RIM at offsets 0x040 and above. -/
def regsRIM : List RegDef := [
  /- RIM_STS -/ ⟨0x040, 0x00000F00, [⟨20, 20, .ro, .any⟩, ⟨17, 16, .ro, .any⟩, ⟨12, 12, .ro, .any⟩, ⟨11, 8, .ro, .any⟩, ⟨1, 0, .ro, .any⟩], .none, 1, 4, .none⟩,
  /- RIM_POLICY -/ ⟨0x044, 0x0000051A, [⟨13, 12, .rwl, .between 0 2⟩, ⟨11, 10, .rwl, .between 0 2⟩, ⟨9, 8, .rwl, .between 0 2⟩, ⟨7, 6, .rwl, .between 0 2⟩, ⟨5, 4, .rwl, .between 0 2⟩, ⟨3, 2, .rwl, .between 0 2⟩, ⟨1, 0, .rwl, .between 0 2⟩], .none, 1, 4, .none⟩,
  /- RIM_ACTIVE -/ ⟨0x048, 0x00000000, [⟨6, 0, .ro, .any⟩], .none, 1, 4, .none⟩,
  /- RIM_LATCH -/ ⟨0x04C, 0x00000000, [⟨6, 0, .w1c, .any⟩], .none, 1, 4, .none⟩,
  /- RIM_CLEAR -/ ⟨0x050, 0x00000000, [⟨31, 0, .wo, .any⟩], .none, 1, 4, .none⟩,
  /- RIM_BOOT -/ ⟨0x054, 0x00000000, [⟨31, 24, .ro, .any⟩, ⟨23, 16, .ro, .any⟩, ⟨12, 12, .ro, .any⟩, ⟨9, 8, .ro, .any⟩, ⟨0, 0, .rwl, .any⟩], .none, 1, 4, .none⟩,
  /- RIM_CMD -/ ⟨0x058, 0x00000000, [⟨0, 0, .wo, .any⟩], .none, 1, 4, .none⟩,
  /- RIM_DBG -/ ⟨0x05C, 0x00000000, [⟨25, 16, .rwl, .any⟩, ⟨1, 0, .rwl, .between 0 2⟩], .none, 1, 4, .none⟩,
  /- RIM_GEN -/ ⟨0x060, 0x00000000, [⟨10, 0, .ro, .any⟩], .none, 1, 4, .none⟩,
  /- RIM_VIOL_CNT -/ ⟨0x070, 0x00000000, [⟨31, 0, .ro, .any⟩], .none, 1, 4, .none⟩,
  /- RIM_ZEROISE_CNT -/ ⟨0x074, 0x00000000, [⟨31, 0, .ro, .any⟩], .none, 1, 4, .none⟩]

/-- The registers of KEY at offsets 0x040 and above. -/
def regsKEY : List RegDef := [
  /- KEY_SEL -/ ⟨0x040, 0x00000000, [⟨9, 0, .rw, .any⟩], .none, 1, 4, .none⟩,
  /- KEY_SLOT -/ ⟨0x044, 0x00000000, [⟨2, 0, .ro, .any⟩], .one KEY_SEL_index, 1, 4, .none⟩,
  /- KEY_SLOT_VER -/ ⟨0x048, 0x00000000, [⟨31, 0, .ro, .any⟩], .one KEY_SEL_index, 1, 4, .none⟩,
  /- KEY_SLOT_TAG -/ ⟨0x04C, 0x00000000, [⟨31, 0, .ro, .any⟩], .one KEY_SEL_index, 1, 4, .none⟩,
  /- KEY_USED -/ ⟨0x050, 0x00000000, [⟨10, 0, .ro, .any⟩], .none, 1, 4, .none⟩,
  /- KEY_LAST -/ ⟨0x054, 0x00000000, [⟨31, 24, .ro, .any⟩, ⟨9, 0, .ro, .any⟩], .none, 1, 4, .none⟩,
  /- KEY_LOADS -/ ⟨0x060, 0x00000000, [⟨31, 0, .ro, .any⟩], .none, 1, 4, .none⟩,
  /- KEY_REFUSED -/ ⟨0x064, 0x00000000, [⟨31, 0, .ro, .any⟩], .none, 1, 4, .none⟩,
  /- KEY_TAG_FAIL -/ ⟨0x068, 0x00000000, [⟨31, 0, .ro, .any⟩], .none, 1, 4, .none⟩]

/-- The registers of RST at offsets 0x040 and above. -/
def regsRST : List RegDef := [
  /- RST_CTRL -/ ⟨0x040, 0x00000000, [⟨1, 1, .rwl, .any⟩, ⟨0, 0, .rwl, .any⟩], .none, 1, 4, .none⟩,
  /- RST_CMD -/ ⟨0x044, 0x00000000, [⟨31, 0, .wo, .any⟩], .none, 1, 4, .none⟩,
  /- RST_STS -/ ⟨0x048, 0x00000000, [⟨31, 24, .ro, .any⟩, ⟨17, 16, .ro, .any⟩, ⟨10, 8, .ro, .any⟩, ⟨2, 0, .ro, .any⟩], .none, 1, 4, .none⟩,
  /- RST_WDOG -/ ⟨0x04C, 0x00000000, [⟨16, 16, .rwl, .any⟩, ⟨15, 0, .rwl, .zeroOr 100 65535⟩], .none, 1, 4, .none⟩,
  /- RST_KICK -/ ⟨0x050, 0x00000000, [⟨0, 0, .wo, .any⟩], .none, 1, 4, .none⟩,
  /- RST_IMG -/ ⟨0x054, 0x00000000, [⟨1, 0, .ro, .any⟩], .none, 1, 4, .none⟩,
  /- RST_T_READY -/ ⟨0x058, 0x00000000, [⟨31, 0, .ro, .any⟩], .none, 1, 4, .none⟩,
  /- RST_WDOG_EXP -/ ⟨0x060, 0x00000000, [⟨31, 0, .ro, .any⟩], .none, 1, 4, .none⟩]

/-- The registers of GLB at offsets 0x040 and above. -/
def regsGLB : List RegDef := [
  /- GLB_SERIAL_LO -/ ⟨0x040, 0x00000000, [⟨31, 0, .ro, .any⟩], .none, 1, 4, .none⟩,
  /- GLB_SERIAL_HI -/ ⟨0x044, 0x00000000, [⟨31, 0, .ro, .any⟩], .none, 1, 4, .none⟩,
  /- GLB_PRODUCT -/ ⟨0x048, 0x00000000, [⟨31, 16, .ro, .any⟩, ⟨15, 8, .ro, .any⟩, ⟨7, 0, .ro, .any⟩], .none, 1, 4, .none⟩,
  /- GLB_FW -/ ⟨0x04C, 0x00000000, [⟨31, 8, .ro, .any⟩, ⟨0, 0, .ro, .any⟩], .none, 1, 4, .none⟩,
  /- GLB_CFG_DIG -/ ⟨0x050, 0x00000000, [⟨31, 0, .ro, .any⟩], .none, 8, 4, .none⟩,
  /- GLB_TJ -/ ⟨0x070, 0x00000000, [⟨15, 0, .ro, .any⟩], .none, 1, 4, .none⟩,
  /- GLB_VIN -/ ⟨0x074, 0x00000000, [⟨15, 0, .ro, .any⟩], .none, 1, 4, .none⟩]

/-- Is a page that of the second port of a pair? -/
def secondPort (page : Nat) : Bool := decide (0x20 ≤ page) && decide (page < 0x30) && page % 2 == 1

/-- The registers of a second port: MAC_RED is RO there (R305). -/
def regsMAC2 : List RegDef := regsMAC.map fun d =>
  if d.off = 0x060 then { d with flds := d.flds.map fun f => { f with acc := .ro } } else d

/-- The block registers of a page; MAC pages 0x20 to 0x2F share one layout (R32). -/
def regsOf (page : Nat) : List RegDef :=
  match page with
  | 0x36 => regsCMD
  | 0x02 => regsPACE
  | 0x37 => regsCDC
  | 0x05 => regsTIME
  | 0x06 => regsPTP
  | 0x0A => regsSVI
  | 0x0B => regsMSR
  | 0x08 => regsADM
  | 0x09 => regsDSP
  | 0x0C => regsPUB
  | 0x30 => regsPLT
  | 0x31 => regsTWN
  | 0x32 => regsVRT
  | 0x33 => regsXFR
  | 0x34 => regsDRT
  | 0x35 => regsIRQ
  | 0x10 => regsSWC
  | 0x11 => regsFWD
  | 0x12 => regsQOS
  | 0x0D => regsACQ
  | 0x0E => regsNRG
  | 0x0F => regsPLS
  | 0x07 => regsCOIL
  | 0x03 => regsRIM
  | 0x04 => regsKEY
  | 0x01 => regsRST
  | 0x00 => regsGLB
  | p => if 0x20 ≤ p ∧ p < 0x30 then (if secondPort p then regsMAC2 else regsMAC) else []

/-- PAGE_EVT_SEV at reset, page by page. -/
def sevReset (page : Nat) : Word :=
  match page with
  | 0x36 => 0x00000035
  | 0x02 => 0x00000076
  | 0x37 => 0x00000005
  | 0x05 => 0x00000445
  | 0x06 => 0x00000044
  | 0x0A => 0x00003465
  | 0x0B => 0x00000054
  | 0x08 => 0x00000005
  | 0x09 => 0x00000346
  | 0x0C => 0x00000064
  | 0x30 => 0x00000046
  | 0x31 => 0x00000766
  | 0x32 => 0x00000065
  | 0x33 => 0x00000035
  | 0x34 => 0x00000004
  | 0x35 => 0x00000003
  | 0x10 => 0x00000364
  | 0x11 => 0x00000003
  | 0x12 => 0x00000006
  | 0x0D => 0x00000043
  | 0x0E => 0x00000043
  | 0x0F => 0x00000004
  | 0x07 => 0x00000056
  | 0x03 => 0x00000657
  | 0x04 => 0x00000005
  | 0x01 => 0x00000006
  | 0x00 => 0x00000005
  | p => if 0x20 ≤ p ∧ p < 0x30 then 0x00002345 else 0

/-- PAGE_CAP.block_cap, page by page. -/
def blockCap (page : Nat) : Nat :=
  match page with
  | 0x36 => 0x0002
  | 0x02 => 0x0010
  | 0x37 => 0x0024
  | 0x05 => 0x0002
  | 0x06 => 0x0010
  | 0x0A => 0x0800
  | 0x0B => 0x4000
  | 0x08 => 0x1000
  | 0x09 => 0x1000
  | 0x0C => 0x0400
  | 0x30 => 0x0002
  | 0x31 => 0x1000
  | 0x32 => 0x0040
  | 0x33 => 0x0200
  | 0x34 => 0x1000
  | 0x35 => 0x0040
  | 0x10 => 0x0018
  | 0x11 => 0x4000
  | 0x12 => 0x0008
  | 0x0D => 0x0040
  | 0x0E => 0x0200
  | 0x0F => 0x0020
  | 0x07 => 0x0200
  | 0x03 => 0x0007
  | 0x04 => 0x0400
  | 0x01 => 0x0002
  | 0x00 => 0x002B
  | p => if 0x20 ≤ p ∧ p < 0x30 then (p - 0x20) + (if p % 2 = 0 then 16 else 0) else 0

end Sys2Proof.Machine
end

