-- ==== Sys2Proof/Config.lean ====
section
/-! DEFINITION. What the manual leaves to the part or to the moment, as constants without a body: fused values,
cryptography, and the free values. Nothing can be proved of the value of any of them. -/

namespace Sys2Proof.Config

/-- The n-th value the module draws at random or leaves open, as 32 bits (log 4). -/
opaque freeWord : Nat → Word
/-- The n-th value left open, as an integer without bound (log 4). -/
opaque freeInt : Nat → Int
/-- The fused 64-bit serial number GLB_SERIAL (R394). -/
opaque serial : BitVec 64
/-- The fused clockIdentity PTP_CLKID (R107). -/
opaque clockId : BitVec 64
/-- The fused hardware revision and assembly variant of GLB_PRODUCT. -/
opaque hwVariant : BitVec 16
/-- The characterised ingress latency of a port at a speed, in 1/16 ns (PTP_PCOMP_IN at reset). -/
opaque pathIn : Nat → Nat → BitVec 16
/-- The characterised egress latency of a port at a speed (PTP_PCOMP_EG at reset). -/
opaque pathEg : Nat → Nat → BitVec 16
/-- The fused wrapping key and recovery command key (R394, R399). -/
opaque keyKW : Key
opaque keyKR : Key
/-- HMAC-SHA-256 of a message (R46, R48). -/
opaque hmac : Key → List Byte → Vector Byte 32
/-- Its 32 bytes in order. -/
def hmacSha256 (k : Key) (msg : List Byte) : List Byte := (hmac k msg).toList
/-- SHA-256 (R241, R412). -/
opaque sha256 : List Byte → BitVec 256

/-- What binary32 arithmetic delivers for an exactly defined quantity, per item code (R151): the manual fixes binary32 but neither the
order of operations nor the rounding between them (log 9). -/
opaque binary32 : (code : Nat) → Rat → BitVec 32
/-- The square root, the cosine and sine of an angle in turns, and the angle in degrees of a point, as the engine evaluates them (log 9). -/
opaque sqrt : Rat → Rat
opaque cosTurn : Rat → Rat
opaque sinTurn : Rat → Rat
opaque atan2 : (im re : Rat) → Rat
/-- The interpolator's coefficients (R134), in units of 2⁻³⁰: stream rate, tick rate, phase 0–1,023 within the input period, and which of
the 8 inputs, oldest first. The manual gives the cut-off and the accuracy they meet, not the window they come from (log 9). -/
opaque tap : (rs rt : Nat) → (phase : Fin 1024) → (input : Fin 8) → Int

/-- The year of an IRIG-B signal that carries none: the manual does not say where the module takes it from (R113, log 94). -/
opaque irigYear : Nat

/-- What the receive buffer of a MAC port or Plait lane holds, in beats: the manual gives no size (R86, log 85). -/
opaque rxBuffer : Nat

/-! ### Frames, MACsec and firmware -/

/-- The bytes of a frame from destination address to the end of its data, where its payload is held by its fields: the
BER and protocol encodings of its body are not modelled (log 11). -/
opaque bodyBytes : Frame → List Byte
/-- The bytes of a Plait frame that its integrity value covers: its lane sequence number, acknowledgement, link sequence number and message,
whose encoding the manual does not give (R230, log 11). -/
opaque plaitBytes : (seq ack link : Nat) → PlaitMsg → List Byte
/-- The SCI that a receiver (ports 0–15, lanes 16–17) is configured with, and the one it sends: no register holds them (log
11). -/
opaque rxSci : Nat → BitVec 64
opaque txSci : Nat → BitVec 64
/-- The AES-GCM integrity value of a protected frame: key, SCI, packet number, and the bytes covered (R229, R311). -/
opaque gcmIcv : Bool → Key → BitVec 64 → Nat → List Byte → BitVec 128
/-- AES-256-GCM opening of a wrapped key (R394): key, nonce, additional data, ciphertext, tag; none when the tag fails. -/
opaque gcmOpen : Key → (nonce aad cipher tag : List Byte) → Option Key
/-- What a firmware image carries when its signature and hash verify (R403): its security version and its version. The
empty list stands for the image as delivered. -/
opaque firmware : List Byte → Option (BitVec 8 × BitVec 24)
/-- The bytes of the largest frame of a control block, from its type, sign and mac_len, its strings and its data set (R220;
log 14). -/
opaque gcbSize : (sv sign macLen : Bool) → (strings dataSet : List Byte) → Nat
/-- The ASDUs per frame of an SV block, minus 1: no field of the manual sets them (R200; log 14). -/
opaque svAsdus : Nat → Fin 8

end Sys2Proof.Config
end

