-- ==== Sys2Proof/Machine/State.lean ====
section
/-! DEFINITION. The state of the module as plain data: the register words of every page, the typed state behind
them block by block, the flash that survives a reset, what the module has driven outward, and the queue of waiting
commands. Also the reasons a step can stop, and the state right after a module reset. -/

namespace Sys2Proof.Machine

/-- Why a command stops the model. -/
inductive Fault
  deriving DecidableEq, Repr

/-- Why the model has no meaning for a command. -/
inductive Refusal
  /-- Raised by an arm of `exec` whose meaning is not written. Safe: the model stops. -/
  | notModelled (mnemonic : String)
  deriving DecidableEq, Repr

/-- Who an event is attributed to (R370 bytes 20–21). -/
inductive Attr
  | module
  | part (p : Nat)
  | slot (s : Nat)
  | item (n : Nat)
  deriving DecidableEq, Repr

/-- Everything the module times: the expiry named by each constructor is a command of its own. -/
inductive Timer
  | softReset (page : Nat)
  | stored (tr : Transport) (tag : Byte)
  | slewDone
  | primaryReturn
  | bridging
  | holdLimit
  | announce (dom : Nat)
  | syncLoss (dom : Nat)
  | ptpTx (dom : Nat) (k : PtpTx)
  | ppsIn
  | ppsWidth
  | stream (sub : Nat)
  | combWait (group : Nat)
  | eqComb (group : Nat)
  | tracker (trk : Nat)
  | tempSource (ts : Nat)
  | deferral (slot : Nat)
  | irqToken (part : Nat)
  | blackout
  | retrans (block : Nat)
  | compare (block : Nat)
  | tal (sub : Nat)
  | laneLock (lane : Nat)
  | replay (lane : Nat)
  | supervision
  | helloTx
  | keepIdle (lane : Nat)
  | copySettle
  | copyRetry
  | witnessTx
  | witnessRx
  | witnessDelay
  | search
  | revertHold
  | upDebounce (port : Nat)
  | downDebounce (port : Nat)
  | linkHold (port : Nat)
  | pause (port : Nat)
  | eeeIdle (port : Nat)
  | eeeWake (port : Nat)
  | eeeTlv (port : Nat)
  | lldp (port : Nat)
  | supRed (pair : Nat)
  | overCurrent (point : Nat)
  | debounce (pin : Nat)
  | minWidth (pin : Nat)
  | stall (pin : Nat)
  | watchdog
  deriving DecidableEq, Repr

/-! ### Command port (R46–R60) -/

/-- Where a response goes: the PCIe ring, or the peer and packet number of a UDP packet. -/
inductive Route
  | ring
  | udp (ip : Word) (port : BitVec 16) (packet : BitVec 16)
  deriving DecidableEq, Repr

/-- A response as sent: the header fields of R46 and its payload; the trailer is present when `auth`. `held`: its command
stays outstanding until the response is written (R56). `segs`: the datagrams it travels in, each with its segment header (R57). -/
structure Resp where
  tr      : Transport
  route   : Route
  opcode  : Byte
  auth    : Bool
  tag     : Byte
  page    : Byte
  status  : Nat
  offset  : Word
  time    : Word
  payload : List Byte
  trailer : List Byte
  held    : Bool
  segs    : List (List Byte) := []
  deriving DecidableEq, Repr

/-- A command that is outstanding: executing, or with its response waiting for the ring (R56); `since` is its receipt (R60). -/
structure OutCmd where
  tr      : Transport
  route   : Route
  vc      : VCommand
  auth    : Bool
  since   : Nat
  waiting : Bool
  deriving DecidableEq, Repr

/-- A stored response (R59). -/
structure Stored where
  tr    : Transport
  tag   : Byte
  fresh : Word
  resp  : Resp
  at_   : Nat
  deriving DecidableEq, Repr

/-- A packet received whole that waits for its row, with its receipt (R60). -/
structure Ready where
  tr    : Transport
  route : Route
  vc    : VCommand
  at_   : Nat
  deriving DecidableEq, Repr

/-- A UDP packet under reassembly (R57). -/
structure Partial where
  ip     : Word
  port   : BitVec 16
  packet : BitVec 16
  segs   : List UdpSegment
  since  : Nat
  deriving DecidableEq, Repr

/-- The load of an image or of firmware that is under way; the command that ends it waits while it is `verifying`. -/
structure Load where
  opcode  : Byte
  data    : List Byte
  tr      : Transport
  tag     : Byte
  verifying : Bool
  deriving DecidableEq, Repr

/-- The command port. `seenP` and `seenU` are the freshness values accepted inside each window (R49). -/
structure Cmd where
  session  : Word := Config.freeWord 0
  out      : List OutCmd := []
  stored   : List Stored := []
  seenP    : List Nat := []
  seenU    : List Nat := []
  consP    : Nat := 0
  prodP    : Nat := 0
  respProd : Nat := 0
  respCons : Nat := 0
  ringCmd  : BitVec 64 := 0
  ringResp : BitVec 64 := 0
  msix     : List (BitVec 128) := [0, 0, 0, 0]
  msixPend : BitVec 64 := 0
  waiting  : List Resp := []
  unfetched : List VCommand := []
  ready    : List Ready := []
  parts    : List Partial := []
  loads    : List Load := []
  linkUp   : Bool := false
  perst    : Bool := true
  deriving DecidableEq, Repr

/-! ### Crossings (R80–R88); the pace monitor's state stands in its registers -/

/-- A crossing (R80): for each kind the handshake in flight, with the instant it began and what it carries, and the pending register;
for the stream the beats in its FIFO. -/
structure Crossing where
  stream    : Option Nat := none
  fifo      : Nat := 0
  value     : Option (Nat × List Nat) := none
  valPend   : Option (List Nat) := none
  count     : Option (Nat × List Nat) := none
  cntPend   : Option (List Nat) := none
  event     : Option (Nat × Word × Word) := none
  evPend    : Option (Word × Word) := none
  deriving DecidableEq, Repr

/-- What Warp's merge points and watchdogs keep (R66, R72): whether the engine lanes are offered the next handshake, the rotation of
lanes and share positions, and per engine transaction when the last one that ended by expiry was raised. -/
structure Warp where
  engines : Bool := true
  lane    : Nat := 0
  pos     : Nat := 0
  ended   : KMap Nat := []
  deriving DecidableEq, Repr

/-- The pace monitor's memory beside its registers: sensors without a count in the last window, the run of
glitch windows, the time pace has been above the leave level of Shed, and the pace of the last window. Its page also owns the watchdogs
and the arbitration of Warp. -/
structure Pace where
  missed    : List Nat := []
  glitching : Bool := false
  aboveAt   : Option Nat := none
  last      : Option Nat := none
  floorNs   : Nat := 0
  windowAt  : Nat := 0
  warp      : Warp := {}
  deriving DecidableEq, Repr

/-! ### Time block and PTP (R91–R116) -/

/-- What the time block holds beside its registers; `qualAt` is when each source last became qualified (R98). `seen` and `wraps` are the
time state and the wrap count as they have reached Warp over crossing 32 (R84, R102); `evalAt` is the last evaluation of the states (R101);
`lockRates` the disciplined rates of the last 64 s in Locked, each with its length, newest first, and `lockedAt` the begin of the present
one (R100); `irigAt` the last accepted IRIG-B frame and `irigTime` its on-time instant with the source time there (R113); `pulsed` the
ranges of second numbers that PPS_OUT has pulsed (R115). -/
structure TimeBlk where
  epoch     : Int := 0
  goodRun   : Nat := 0
  badRun    : Nat := 0
  discard   : Bool := false
  slewLeft  : Int := 0
  rate      : Int := 0
  applied   : Option Nat := none
  pending   : Nat := 0
  ppsLast   : Option Nat := none
  ppsRun    : Nat := 0
  irigLast  : Option Int := none
  irigRun   : Nat := 0
  irigRej   : Nat := 0
  irigAt    : Nat := 0
  irigTime  : Option (Nat × Int) := none
  gates     : Nat := 0
  gateRate  : Int := 0
  ppsOut    : Bool := false
  pulsed    : List (Int × Int) := []
  ppsAt     : Option Nat := none
  qualAt    : KMap Nat := []
  seen      : Nat := 0
  wraps     : Nat := 0
  evalAt    : Nat := 0
  lockRates : List (Nat × Int) := []
  lockedAt  : Option Nat := none
  deriving DecidableEq, Repr

/-- A foreign master heard on a port of a domain (R105). -/
structure Foreign where
  port    : Nat
  clock   : BitVec 64
  portNum : BitVec 16
  heard   : List Nat
  ann     : PtpAnnounce
  logInt  : Int
  deriving DecidableEq, Repr

/-- An entry of a transmit stamp FIFO (R111). -/
structure TxStamp where
  gap     : Bool
  lostN   : Nat
  source  : Nat
  domain  : Nat
  mgr     : Bool
  msgType : Nat
  seqId   : Nat
  lostSeq : Nat
  stamp   : Int
  deriving DecidableEq, Repr

/-- An event message waiting for its follow-up (R108 check 7): kind, sequence, receive stamp, time heard. -/
structure PtpWait where
  port  : Nat
  kind  : PtpType
  seq   : Nat
  stamp : Int
  corr  : Int
  at_   : Nat
  req   : Int
  deriving DecidableEq, Repr

/-- One PTP domain. `master` is the port, clock identity and port number of the selected master; `toMaster` the instants at which ports
that listen or wait become masters; `egress` the capture registers (R110). -/
structure PtpDom where
  foreign : List Foreign := []
  master  : Option (Nat × BitVec 64 × BitVec 16) := none
  tlvs    : List Byte := []
  waits   : List PtpWait := []
  annSeq  : Nat := 0
  syncSeq : Nat := 0
  pdSeq   : Nat := 0
  reqAt   : List (Nat × Int) := []
  egress  : List (Nat × Int) := []
  toMaster : List (Nat × Nat) := []
  deriving DecidableEq, Repr

/-- The PTP block: its two domains, per port the transmit stamps and the run of dropped ones, and the stamps that reached a full FIFO at
an instant that may still see it read (R111). -/
structure Ptp where
  dom0  : PtpDom := {}
  dom1  : PtpDom := {}
  txs   : List (Nat × List TxStamp) := []
  lost  : List (Nat × Nat × Nat) := []
  late  : List (Nat × Nat × TxStamp) := []
  deriving DecidableEq, Repr

/-! ### Sampled-value ingest (R117–R149) -/

/-- A stretch of the tick grid: from tick number `first` on, tick number first + i has grid index `index + i` at
`rate` ticks per second of station time, with `epoch` in force (R93, R123, R139, R148). -/
structure Grid where
  first : Nat
  index : Int
  rate  : Nat
  epoch : Int
  deriving DecidableEq, Repr


/-- An input of a resampled stream: its index on the stream's own grid, the smpSynch it carried, its channels (R134, R135). -/
structure SvInput where
  idx   : Int
  synch : Nat
  chans : List Chan
  deriving DecidableEq, Repr

/-- What SVI keeps of one subscription beside its registers: its offset, its reference (arrival minus placed nominal time, in
ns times r_t), the last smpCnt, samples in sequence, the tick at which it became Active, and the inputs of a resampled
stream by index on its own grid. -/
structure Stream where
  ofs       : Option Int := none
  ref       : Option Int := none
  lastCnt   : Option Nat := none
  run       : Nat := 0
  since     : Nat := 0
  tstep     : Bool := false
  inputs    : List SvInput := []
  deriving DecidableEq, Repr

/-- A subscription that a set changed, as it stood under the settings before: its state, the smpSynch of its last valid ASDU, and what SVI
kept of it (R148). -/
structure OldSub where
  state  : Nat
  synch  : Nat
  stream : Stream
  deriving DecidableEq, Repr

/-- The settings in force for tick numbers from `first` on (R148, R171): RWL values and bulk objects; and, once other settings follow, the
subscriptions these change as they stood, and the group offsets. -/
structure Gen where
  first : Nat
  force : KMap Word
  bulk  : List Host.Cell
  subs  : KMap OldSub := []
  ofs   : KMap Int := []
  deriving DecidableEq, Repr

/-- Samples committed to an open tick, with the smpSynch they carried. -/
structure Sample where
  group : Nat
  tick  : Nat
  sub   : Nat
  synch : Nat
  chans : List Chan
  deriving DecidableEq, Repr

/-- Why a tick closed (R128). -/
inductive Cause
  | complete | expiry | epoch
  deriving DecidableEq, Repr

/-- A closed tick with its close record (R128) and the channels of every member stream; `present` names the streams
that had a committed sample. `pair` is the pair tick number (R234), `closedAt` is the full timebase at the close. -/
structure Tick where
  group    : Nat
  tick     : Nat
  pair     : Nat
  nominal  : Int
  closedAt : Nat
  cause    : Cause
  present  : List Nat
  chans    : List (Nat × List Chan)
  deriving DecidableEq, Repr

/-- A closed tick in twin equalisation (R140): the set it closed with, whether this module led, the instant from
which its time runs, what the twin said, the combined set, and the samples copied so far. -/
structure EqTick where
  tk       : Tick
  own      : List SubEvent
  led      : Bool
  since    : Nat
  desc     : Option DescMsg
  comb     : Option CombMsg
  copied   : List StreamSample
  done     : Bool
  deriving DecidableEq, Repr

/-- Ticks that left equalisation in one step (the tick set of R168). -/
structure TickSet where
  ticks   : List Tick
  events  : List SubEvent
  deriving DecidableEq, Repr

/-- SVI. `next` is per group the lowest tick number not yet closed. -/
structure Svi where
  grids   : List Grid := [{ first := 0, index := 0, rate := 4800, epoch := 0 }]
  gens    : List Gen := [{ first := 0, force := [], bulk := [] }]
  next    : KMap Nat := []
  streams : KMap Stream := []
  grpOfs  : KMap Int := []
  samples : List Sample := []
  eq      : List EqTick := []
  early   : List (Nat × DescMsg) := []
  held    : List (Frame × Nat × Nat) := []
  deriving DecidableEq, Repr

/-! ### Measurand engine (R150–R172) -/

/-- A channel's window: corrected values (binary32) with their sample quality, newest first, and the number of
ticks since the window started (R164). `phi` over `phiDen` is the phase correction in use, in 0.001 degree. -/
structure Window where
  vals  : List (BitVec 32 × BitVec 16) := []
  since : Nat := 0
  phi   : Int := 0
  phiDen : Nat := 1
  tcq   : Nat := 0
  deriving DecidableEq, Repr

/-- A frequency tracker: `fu` is what its last tick gave in µHz and `used` what the windows of the present tick follow (R168); for how many
ticks its primary has been usable; f_u and the quality of the measurement per tick, newest first; ticks spent in Primary or Backup. `tie`
and `oneCycle` belong to R157; `holdEnd` is the station time at which Holding ends, `holdOver` that it has passed (R156). -/
structure Tracker where
  fu      : Nat := 0
  used    : Nat := 0
  primRun : Nat := 0
  hist    : List Nat := []
  inLock  : Nat := 0
  clamped : Bool := false
  oneCycle : Bool := false
  tie     : Bool := false
  holdEnd : Int := 0
  holdOver : Bool := false
  qual    : BitVec 16 := 0
  quals   : List (BitVec 16) := []
  deriving DecidableEq, Repr

/-- A measurand block as built for one slot and tick. -/
structure Block where
  slot    : Nat
  tick    : Nat
  bytes   : List Byte
  summary : BitVec 16
  deriving DecidableEq, Repr

/-- The one-cycle power of a linked group at a tick, as NRG takes it (R153, R356). -/
structure PowerTap where
  tick  : Nat
  group : Nat
  p     : BitVec 32
  q     : BitVec 32
  qual  : BitVec 16
  deriving DecidableEq, Repr

/-- An MSR channel's instantaneous value and RMS at a tick, as ACQ and NRG take them. -/
structure ChanTap where
  tick  : Nat
  ch    : Nat
  inst  : BitVec 32
  rms   : BitVec 32
  qual  : BitVec 16
  rmsQ  : BitVec 16
  deriving DecidableEq, Repr

/-- What MSR hands over at step 5 of R168: the subscription events that go
before its blocks (R236), blocks to DSP, powers to NRG, taps to ACQ. -/
structure SetOut where
  ticks  : List Tick
  events : List SubEvent
  blocks : List Block
  power  : List PowerTap
  taps   : List ChanTap
  deriving DecidableEq, Repr

/-- MSR: windows, trackers, the last good temperatures, the station time at which each temperature source's Holding ends and whether it has
passed, the queue of tick sets and the set in progress, and per alignment group the first tick of the settings its last tick ran
under (R171). -/
structure Msr where
  windows  : KMap Window := []
  trackers : KMap Tracker := []
  tsLast   : KMap Int := []
  tsHold   : KMap (Int × Bool) := []
  queue    : List TickSet := []
  busy     : Option SetOut := none
  takenAt  : Nat := 0
  lastFirst : KMap Nat := []
  deriving DecidableEq, Repr

/-! ### Admission and dispatch (R173–R199) -/

/-- Who asked for an admission run. -/
inductive RunBy
  | register (src : Src)
  | vrelti (tr : Transport) (tag : Byte)
  | start
  deriving DecidableEq, Repr

/-- An admission run in progress (R179): what was asked, when, the staged pages it evaluates, and whether an image left the CMD page
to it because the page breaks the relation of R58. -/
structure AdmRun where
  check : Bool
  by_   : RunBy
  since : Nat
  pages : List Nat
  cmd   : Bool := false
  deriving DecidableEq, Repr

/-- An entry of the ADM report object for one slot: refusal code and the figures ADM computed. -/
structure AdmEntry where
  slot : Nat
  code : Nat
  resp : Nat
  ldec : Nat
  peff : Nat
  core : Nat
  util : Nat
  deriving DecidableEq, Repr

/-- ADM: the run in progress, the admitted set that waits for its share-frame boundary, the report, and the pages on which a set
has taken effect since the module reset (R37). -/
structure Adm where
  run    : Option AdmRun := none
  due    : Option (List Nat) := none
  report : List AdmEntry := []
  used   : List Nat := []
  deriving DecidableEq, Repr

/-- A released job that has not ended. `deadline` is absolute, `core` is where it runs, `primed` whether its slot was
primed at the release (R196). -/
structure Job where
  slot     : Nat
  tick     : Nat
  released : Nat
  deadline : Nat
  core     : Nat
  budget   : Nat
  primed   : Bool
  exec     : Nat := 0
  replaced : Bool := false
  deriving DecidableEq, Repr

/-- A deferred release (R190): due at a time, with the blocks not yet handed over. -/
structure Deferred where
  slot  : Nat
  at_   : Nat
  block : Option Block
  tick  : Nat
  deriving DecidableEq, Repr

/-- An output DSP passes to PUB (R195): slot, tick, nominal time, output quality, priming, values by index. -/
structure Output where
  slot    : Nat
  tick    : Nat
  nominal : Int
  quality : BitVec 16
  values  : List (Nat × BitVec 32)
  deriving DecidableEq, Repr

/-- DSP: pending jobs oldest first, releases since each slot's start, the last release, deferred releases, whether the
manager window is open, the nominal times of ticks, releases held during a freeze, slots that start at their next release
(R196, R257, R280), and outputs that wait for those of earlier releases of their slot (R202). -/
structure Dsp where
  jobs     : List Job := []
  relNo    : KMap Nat := []
  lastRel  : KMap Nat := []
  deferred : List Deferred := []
  mgrOpen  : Bool := false
  ranAt    : Nat := 0
  nominal  : KMap Int := []
  held     : List (Nat × Nat × Option Block) := []
  starting : List Nat := []
  outQ     : List Output := []
  deriving DecidableEq, Repr

/-! ### Publication (R200–R224) -/

/-- What a control block's frame is built from: an output, a retransmission due at a tick, an SV tick with the channels it
carries, or the final message of a partition reset. -/
inductive PubWork
  | output (o : Output)
  | retrans (tick : Nat)
  | sv (tick : Nat) (nominal : Int) (chans : List (BitVec 32 × BitVec 16)) (tstep : Bool)
  | final
  deriving DecidableEq, Repr

/-- One piece of work of PUB's build queue, for one block (R222). -/
structure PubJob where
  block : Nat
  work  : PubWork
  deriving DecidableEq, Repr

/-- What PUB keeps of one control block beside its registers: published member values, the tick of the last change, the
number of retransmissions since, t of the last change, the nominal time of the tick of the last frame, TimeQuality, and the
ASDUs of an SV frame being filled and of the last one built. `fresh` until the
first output after the block starts (R205, R219). -/
structure Gcb where
  members : List (BitVec 32) := []
  fresh   : Bool := true
  changed : Nat := 0
  k       : Nat := 0
  due     : Option Nat := none
  nominal : Int := 0
  published : Int := 0
  lastTick : Nat := 0
  asdus   : List Asdu := []
  last    : List Asdu := []
  quality : Nat := 0
  deriving DecidableEq, Repr

/-- A frame PUB has built, with its numbers, home pair and digest, when it is sent at the latest while held, and whether its authentication
value is zero for want of a key (R217). -/
structure Built where
  block   : Nat
  stNum   : Nat
  sqNum   : Nat
  pairSeq : Nat
  digest  : BitVec 64
  fr      : Frame
  due     : Nat := 0
  zeroed  : Bool := false
  deriving DecidableEq, Repr

/-- A GOOSE subscription: the numbers and members last accepted. -/
structure Sub where
  stNum   : Nat := 0
  sqNum   : Nat := 0
  seen    : Bool := false
  members : List GooseMember := []
  deriving DecidableEq, Repr

/-- PUB. `held` waits for the lead's digest, `sent` for digests that come after a frame left, `lead` for digests that
came before the frame was built (R214). -/
structure Pub where
  blocks  : KMap Gcb := []
  queue   : List PubJob := []
  behind  : List PubJob := []
  waiting : List PubJob := []
  pairSeq : KMap Nat := []
  held    : List Built := []
  sent    : List Built := []
  lead    : List (Nat × Nat × Nat × Nat × BitVec 64) := []
  subs    : KMap Sub := []
  events  : List SubEvent := []
  deriving DecidableEq, Repr

/-! ### Plait link and twin (R225–R255) -/

/-- A frame sent on a lane and not yet acknowledged (R231). -/
structure Unacked where
  seq     : Nat
  link    : Nat
  tries   : Nat
  sentAt  : Nat
  msg     : PlaitMsg
  deriving DecidableEq, Repr

/-- A Plait lane: block lock, sequence numbers of both directions, packet numbers, HELLOs exchanged, unacknowledged
frames. -/
structure Lane where
  lock    : Bool := false
  held    : Bool := false
  txHello : Bool := false
  rxHello : Bool := false
  txSeq   : Nat := 0
  rxSeq   : Nat := 0
  txPn    : Nat := 0
  rxPn    : Nat := 0
  unacked : List Unacked := []
  deriving DecidableEq, Repr

/-- A copy in progress (R242–R245), at the lead or at the joining follower. -/
structure Copy where
  latchTick : Option Nat := none
  cuts      : List CutMsg := []
  nextSlot  : Nat := 0
  cend      : Option CendMsg := none
  matched   : Nat := 0
  resDiff   : Bool := false
  queued    : List (Nat × Block) := []
  released  : List Nat := []
  deriving DecidableEq, Repr

/-- The twin block beside its registers. `own` and `theirs` hold tick digests, `ownR` and `theirR` result digests,
waiting for the other side's. `committed` until the tick at which a committed copy makes the module Follower. -/
structure Twn where
  lane0    : Lane := {}
  lane1    : Lane := {}
  sendQ    : List PlaitMsg := []
  resendQ  : List (Nat × PlaitMsg) := []
  linkTx   : Nat := 0
  linkRx   : Nat := 0
  reorder  : List (Nat × PlaitMsg) := []
  lastTick : Nat := 0
  partner  : Option HelloMsg := none
  own      : List (Nat × Nat × BitVec 64) := []
  theirs   : List (Nat × Nat × BitVec 64) := []
  ownR     : List (Nat × Nat × BitVec 64) := []
  theirR   : List (Nat × Nat × BitVec 64) := []
  skipR    : List (Nat × Nat) := []
  diffs    : List Nat := []
  copy     : Option Copy := none
  latch    : List EnergyLatch := []
  evidence : Bool := false
  witSeq   : Nat := 0
  witTx    : Nat := 0
  witRed   : List (Nat × Nat) := []
  swapAt   : Option Nat := none
  committed : Bool := false
  wantLead : Bool := false
  deriving DecidableEq, Repr

/-! ### Partitions: windows, rings, transfers, interrupts, dirty logging (R256–R290) -/

/-- A measurand ring of a function slot (R260). -/
structure MRing where
  base : Nat := 0
  log2 : Nat := 1
  prod : Nat := 0
  cons : Nat := 0
  deriving DecidableEq, Repr

/-- A transfer in execution under its tag (R271): `done` bytes are written; `since` is when its present transaction was raised. -/
structure Xfer where
  tag    : Nat
  cmdTag : Byte
  kind   : Nat
  length : Nat
  src    : Nat
  dst    : Nat
  done   : Nat
  first  : Word
  since  : Nat
  deriving DecidableEq, Repr

/-- A region map entry as in force (R259), in 2 MiB units. -/
structure Region where
  en   : Bool
  gpa  : Nat
  hpa  : Nat
  size : Nat
  deriving DecidableEq, Repr

/-- A partition: its window registers and ring indices, reserved completion entries, executing transfers, interrupt
vectors with those delivered already (`irqSent`), those signalled past the token bucket (`irqFast`) and those held for a
token, the latest delivery kept per subscription, the last pages logged, its freeze, and the low words of window registers that
wait for their high word (R11). -/
structure Part where
  cmdBase  : Nat := 0
  cmdLog   : Nat := 1
  cmdProd  : Nat := 0
  cmdCons  : Nat := 0
  cplBase  : Nat := 0
  cplLog   : Nat := 1
  cplProd  : Nat := 0
  cplCons  : Nat := 0
  rings    : KMap MRing := []
  xfers    : List Xfer := []
  irqPend  : Nat := 0
  irqMask  : Nat := 0xFFFFFFFFFFFFFFFF
  irqSent  : Nat := 0
  irqFast  : Nat := 0
  irqWait  : List Nat := []
  irqHeld  : Nat := 0
  tokens   : Nat := 16
  busyXfr  : Nat := 0
  busyDsp  : Nat := 0
  drop     : Nat := 0
  gmerge   : Nat := 0
  rej      : Nat := 0
  kept     : KMap (List Byte) := []
  recent   : List Nat := []
  freezeAt : Nat := 0
  oldMap   : List Region := []
  goOff    : Bool := false
  lows     : KMap Nat := []
  deriving DecidableEq, Repr

/-! ### Ports and the switch core (R291–R342) -/

/-- A frame in an egress queue: its class, when it entered the switch core, the fabric port it came from, the partition it
belongs to when it draws on the virtual-NIC pool, and who asked for a transmit stamp (partition, or 64 for the manager). -/
structure TxFrame where
  fr      : Frame
  cls     : Nat
  pcp     : Nat
  vid     : Nat
  entered : Nat
  src     : Nat
  vnic    : Option Nat
  stamp   : Option Nat
  deriving DecidableEq, Repr

/-- A port's transmitter and receiver: egress queue in arrival order, frame in transmission, the end of a pause and a
pause that counts from the end of the frame in transmission, deficits of the round robin, the class served last,
MACsec packet numbers, the partner's wake time, and the fault it reports. -/
structure Port where
  queue    : List TxFrame := []
  sending  : Option TxFrame := none
  pauseUntil : Option Nat := none
  pauseNext  : Option Nat := none
  deficit  : List Nat := []
  lastCls  : Nat := 0
  txPn     : Nat := 0
  rxPn     : Nat := 0
  fault    : Bool := false
  sgmiiOk  : Bool := true
  tw       : Option Nat := none
  waking   : Bool := false
  deriving DecidableEq, Repr

/-- An entry of a pair's duplicate table (R305): its key, the port that opened it, and whether it is an own entry. -/
structure DupEntry where
  mac   : Mac
  seq   : Nat
  port  : Nat
  own   : Bool
  since : Nat
  deriving DecidableEq, Repr

/-- A pair of ports: its duplicate table, newest first, and its general sequence counter (R305, R306). -/
structure Pair where
  dups : List DupEntry := []
  seq  : Nat := 0
  deriving DecidableEq, Repr

/-- A learnt entry of the forwarding table (R325). -/
structure Learnt where
  vid  : Nat
  mac  : Mac
  port : Nat
  hit  : Nat
  deriving DecidableEq, Repr

/-- A frame as the switch core takes it in: its fabric ingress port, VID, PCP, class before an entry's, whether partition
traffic caps it, who draws on the virtual-NIC pool, who asks for a stamp, and a sequence number already drawn. -/
structure Ingress where
  fr     : Frame
  port   : Nat
  vid    : Nat
  pcp    : Nat
  cls    : Nat
  capped : Bool := false
  vnic   : Option Nat := none
  stamp  : Option Nat := none
  seq    : Option (Nat × Nat) := none
  deriving DecidableEq, Repr

/-- A frame that crosses the fabric: what came in, the outputs it goes to and its class. -/
structure Passage where
  ing  : Ingress
  outs : List Nat
  cls  : Nat
  deriving DecidableEq, Repr

/-- A cell (R326, R333): its place in the order of injection, its input, the frame it belongs to, whether it ends the
frame, whether its class is a deadline class, the outputs of its mask, and the residue that has not received it. -/
structure Cell where
  no       : Nat
  input    : Nat
  frame    : Nat
  tail     : Bool
  deadline : Bool
  mask     : List Nat
  left     : List Nat
  deriving DecidableEq, Repr

/-- A cell's copy for one output with its number in the sequence of the input and that output (R327). -/
structure CellCopy where
  cell : Cell
  out  : Nat
  seq  : Nat
  deriving DecidableEq, Repr

/-- The fabric's cells (R326–R333): the cell time of the turn, the cells waiting at the inputs in order of arrival, the
intermediate cell buffers (each copy with its buffer), the copies each output holds for resequencing, the next sequence
number and the number awaited for each input and output (keyed 24 × input + output), the grant pointers of the outputs
and the accept pointers of the inputs, and the number of the next cell. -/
structure Fab where
  turn    : Nat := 0
  inputs  : List Cell := []
  buffers : List (Nat × CellCopy) := []
  held    : List CellCopy := []
  next    : KMap Nat := []
  want    : KMap Nat := []
  grant   : KMap Nat := []
  accept  : KMap Nat := []
  fresh   : Nat := 0
  deriving DecidableEq, Repr

/-- The switch core (R318–R342): learnt entries, when the last fabric fault came, whether the self-test passed since the
last entry into Pairing, whether Randing is permitted by command, the mode being entered, the fabric, and the frames that
wait at the inputs for a mode change to end (R332). -/
structure Swc where
  learnt   : KMap Learnt := []
  faultAt  : Option Nat := none
  passed   : Bool := false
  permit   : Bool := false
  changing : Option Nat := none
  fab      : Fab := {}
  waiting  : List Passage := []
  deriving DecidableEq, Repr

/-! ### Acquisition, energy and pulse inputs (R343–R369) -/

/-- A tap of a unit's channels at a tick: value, RMS and qualities of each (R344). -/
structure AcqSample where
  tick    : Nat
  nominal : Int
  gap     : Bool
  tstep   : Bool
  chans   : List ChanTap
  deriving DecidableEq, Repr

/-- A record (R348, R351): what its header holds, and its samples oldest first. -/
structure AcqRec where
  number    : Nat
  complete  : Bool
  preShort  : Bool
  truncated : Bool
  retrig    : Bool
  gap       : Bool
  tstep     : Bool
  cause     : Nat
  rate      : Nat
  trigTick  : Nat
  trigTime  : Int
  trigTag   : Word
  pre       : Nat
  planned   : Nat
  during    : Nat
  trigAt    : Nat
  samples   : List AcqSample
  deriving DecidableEq, Repr

/-- A trigger that a result or a GOOSE frame fired for a tick (R347). -/
structure AcqFire where
  entry : Nat
  tick  : Nat
  tag   : Word
  deriving DecidableEq, Repr

/-- An acquisition unit: pre-trigger area newest first, the record held or being captured, pending manual trigger,
release and fires, which entries are armed again, the RMS history of the rate entries' channels, slot values last
accepted, the export position, and when the line share of its last export frame ends. -/
structure AcqUnit where
  area     : List AcqSample := []
  record   : Option AcqRec := none
  count    : Nat := 0
  manual   : Bool := false
  release  : Bool := false
  fires    : List AcqFire := []
  blocked  : List Nat := []
  history  : List (List (BitVec 32)) := []
  last     : KMap (BitVec 32) := []
  exported : Option Nat := none
  heldMark : Bool := false
  sentTill : Nat := 0
  deriving DecidableEq, Repr

/-- One metering point (R357–R363). `accs` are whole quanta modulo 2^48, `wraps` the wrap counters, `fracs` the energy
below one quantum (in the exact unit of NRG); `base` the accumulators when the interval began, with their wraps since;
`second` the energies of A+ and A− per station second, newest first, from the second `sec` on. -/
structure Point where
  accs    : List Nat := [0, 0, 0, 0, 0, 0]
  wraps   : List Nat := [0, 0, 0, 0, 0, 0]
  fracs   : List Nat := [0, 0, 0, 0, 0, 0]
  gained  : List Nat := [0, 0, 0, 0, 0, 0]
  latched : List Nat := [0, 0, 0, 0, 0, 0]
  flags   : Nat := 1
  revs    : Nat := 0
  missed  : Nat := 0
  lastTick : Nat := 0
  curImp  : Nat := 0
  curExp  : Nat := 0
  second  : List (Nat × Nat) := []
  sec     : Option Int := none
  dmaxImp : BitVec 32 := 0
  dmaxExp : BitVec 32 := 0
  above   : Bool := false
  below   : Bool := false
  deriving DecidableEq, Repr

/-- The energy engine: its points, the tick sets waiting, the interval ring entries, the snapshot of object 1, and the
station time at which the interval began. -/
structure Nrg where
  points   : KMap Point := []
  queue    : List SetOut := []
  entries  : KMap (List Byte) := []
  snapshot : KMap (List Byte) := []
  began    : Int := 0
  deriving DecidableEq, Repr

/-- A pulse input: raw level and when it began, pulse in progress with its start, the start of the last counted pulse,
the count, and whether it must go inactive first (R367). -/
structure Pin where
  raw      : Bool := false
  rawAt    : Nat := 0
  started  : Option Nat := none
  lastAt   : Option Nat := none
  count    : Nat := 0
  blocked  : Bool := false
  deriving DecidableEq, Repr

/-- The pulse inputs, with the time tag of the counts as last crossed (R368). -/
structure Pls where
  pins   : KMap Pin := []
  capTag : Word := 0
  deriving DecidableEq, Repr

/-! ### Event recorder (R370–R385) -/

/-- One 64-byte record (R370) by its fields; crc and valid follow from them once phase 2 is written. -/
structure Rec where
  seq          : Nat
  tag          : Word
  last         : Word
  wrap         : Nat
  era          : Nat
  page         : Nat
  sev          : Nat
  continued    : Bool
  chained      : Bool
  continuation : Bool
  pw           : Bool
  cut          : Bool
  code         : Nat
  attr         : Nat
  rpt          : Nat
  snap         : List Word
  deriving DecidableEq, Repr

/-- An event waiting in the intake FIFO (R374), with its snapshot as taken in and its wrap of origin. -/
structure FifoEntry where
  page      : Nat
  code      : Nat
  sev       : Nat
  attr      : Nat
  tag       : Word
  last      : Word
  rpt       : Nat
  wrapNo    : Nat
  snap      : List Word
  cut       : Bool
  continued : Bool
  deriving DecidableEq, Repr

/-- An open record (R375): where it stands, what folds into it, and the tags of
the repeats pending, oldest first. -/
structure OpenRec where
  slot    : Nat
  seq     : Nat
  page    : Nat
  code    : Nat
  sev     : Nat
  attr    : Nat
  wrapNo  : Nat
  snap    : List Word
  pending : List Word
  deriving DecidableEq, Repr

/-- The loss tally of R377. -/
structure Tally where
  n     : Nat
  pages : Nat
  sev   : Nat
  first : Word
  last  : Word
  deriving DecidableEq, Repr

/-- A flash image of the last-gasp area (R383). -/
structure LgImage where
  flush  : Nat
  base   : Nat
  boot   : Nat
  epoch  : Int
  recs   : List Rec
  deriving DecidableEq, Repr

/-- The recorder. `slots` holds the records of the coil in use, `lg` the mirrored last-gasp area, newest first; `flushAt` is the
timebase when the flush in progress began. -/
structure Coil where
  seq      : Nat := 0
  slots    : List (Nat × Rec) := []
  index    : List (Nat × Nat) := []
  lg       : List Rec := []
  opened   : List OpenRec := []
  closedId : List OpenRec := []
  fifo     : List FifoEntry := []
  fifoMax  : Nat := 0
  tally    : Option Tally := none
  wrapNo   : Nat := 0
  intake   : Bool := true
  flushing : Bool := false
  flushAt  : Nat := 0
  shown    : Option LgImage := none
  deriving DecidableEq, Repr
/-! ### Rim, keys, firmware, configuration images and reset (R386–R417) -/

/-- A KEY_LOAD that is executing or waits behind one (R396, R398). -/
structure KeyLoad where
  tr      : Transport
  tag     : Byte
  payload : List Byte
  key     : Key
  deriving DecidableEq, Repr

/-- A firmware bank: the image loaded into it, empty for the image as delivered, and whether verification marked it
invalid (R403, R405). -/
structure Bank where
  loaded : List Byte := []
  bad    : Bool := false
  deriving DecidableEq, Repr

/-- The Rim and the key store. `keys` are the slots that hold a key; `queue` the KEY_LOADs, the first one waiting
for its flash copy; `openReads` the successive mesh tests that read open. -/
structure Rim where
  keys      : KMap Key := []
  erasing   : Bool := false
  queue     : List KeyLoad := []
  openReads : Nat := 0
  meshCut   : Bool := false
  lidOpen   : Bool := false
  fired     : List Nat := []
  challenge : Option (List Byte) := none
  deriving DecidableEq, Repr

/-- What flash keeps beside the registers marked Stored: firmware banks, configuration image areas, last-gasp images, and
whether the last flush failed. -/
structure Flash where
  bank0  : Bank := {}
  bank1  : Bank := {}
  image0 : List Byte := []
  image1 : List Byte := []
  gasp0  : Option LgImage := none
  gasp1  : Option LgImage := none
  gaspFailed : Bool := false
  deriving DecidableEq, Repr

/-- Reset and supply. `cause` is the module reset that follows the flush in progress; `pg` the level of PG_IN; `trip` that a
thermal trip holds the module off; `reset` that a module reset has taken place and the start has not begun; `starting` that
the start is between steps 2 and 7; `began` when it began;
`recovery` that the boot ROM found no valid bank (R404); `boot` what a start that the pace still holds will find (R79). -/
structure Rst where
  cause    : Option Nat := none
  pg       : Bool := true
  trip     : Bool := false
  reset    : Bool := false
  starting : Bool := false
  began    : Nat := 0
  recovery : Bool := false
  boot     : Option BootInput := none
  deriving DecidableEq, Repr

/-- What the module drives outward, newest first in `Mach.outs` (log 3). -/
inductive Out
  | response (r : Resp)
  | read (src : Src) (v : BitVec 64)
  | frame (port : Nat) (fr : Frame)
  | plait (h : PlaitHdr) (m : PlaitMsg)
  | msix (vector : Nat)
  | eventIrq (page : Nat)
  | coreIrq (core file ident : Nat)
  | jobStop (slot : Nat)
  | rdy (level : Bool)
  | pps (level : Bool)
  | warp (h : WarpHdr)
  deriving DecidableEq, Repr

/-- The module without its queue. Register words are keyed by page, instance and offset (`regKey`): `regs` holds the
held value of a configuration field, and the value of a status or counter field; `force` the values in force (R43).
A key that is not listed reads as the register's reset value. Bulk objects are bytes keyed by page, object and
position, in the canonical form of `Memory.wf`; `mem` is the host-physical memory. -/
structure Mach where
  now     : Nat := 0
  free    : Nat := 1
  powered : Bool := true
  regs    : KMap Word := []
  force   : KMap Word := []
  low     : KMap (Src × Word) := []
  capt    : KMap Word := []
  frozen  : List (Nat × KMap Word) := []
  timers  : List (Timer × Nat) := []
  bulk    : List Host.Cell := []
  bulkF   : List Host.Cell := []
  mem     : List Host.Cell := []
  outs    : List Out := []
  coil    : Coil := {}
  cmd     : Cmd := {}
  cdc     : KMap Crossing := []
  pace    : Pace := {}
  time    : TimeBlk := {}
  ptp     : Ptp := {}
  svi     : Svi := {}
  msr     : Msr := {}
  adm     : Adm := {}
  dsp     : Dsp := {}
  pub     : Pub := {}
  twn     : Twn := {}
  parts   : KMap Part := []
  ports   : KMap Port := []
  pairs   : KMap Pair := []
  swc     : Swc := {}
  acq     : KMap AcqUnit := []
  nrg     : Nrg := {}
  pls     : Pls := {}
  rim     : Rim := {}
  flash   : Flash := {}
  rst     : Rst := {}
  deriving DecidableEq, Repr

/-- The module with the commands that wait, first in, first out. -/
structure State where
  pending : List Instr
  m       : Mach
  deriving DecidableEq, Repr

/-- The module right after a module reset (R408): every register at its reset value, memory with nothing listed, the
timebase at 0 (R91), nothing waiting. -/
def State.reset : State := { pending := [], m := {} }

end Sys2Proof.Machine
end

