-- ==== Sys2Proof/Machine/Ops.lean ====
section
/-! DEFINITION. The operations every block shares: sparse tables, byte memory, register words and fields, values in
force, counters, timers, time, free values and what is driven outward. -/

namespace Sys2Proof.Machine

/-! ### Sparse tables -/

/-- The entry of a table at `k`. -/
def kget {α : Type} (k : Nat) : KMap α → Option α
  | [] => none
  | (k', v) :: r => if k' = k then some v else kget k r

/-- A table with the entry at `k` set, keys rising. -/
def kput {α : Type} (k : Nat) (v : α) : KMap α → KMap α
  | [] => [(k, v)]
  | (k', v') :: r => if k' < k then (k', v') :: kput k v r else if k' = k then (k, v) :: r else (k, v) :: (k', v') :: r

/-- A table without the entry at `k`. -/
def kdel {α : Type} (k : Nat) (l : KMap α) : KMap α := l.filter fun e => e.1 != k

/-! ### Byte memory in canonical form -/

/-- A byte of memory; a byte nothing has written reads 0 (log 6). -/
def memGet (a : Nat) : List Host.Cell → Byte
  | [] => 0
  | (a', b) :: r => if a' = a then b else memGet a r

/-- A byte written: addresses stay rising, and a byte that reads 0 is not listed. -/
def memPut (a : Nat) (b : Byte) : List Host.Cell → List Host.Cell
  | [] => if b = 0 then [] else [(a, b)]
  | (a', b') :: r =>
    if a' < a then (a', b') :: memPut a b r
    else if a' = a then (if b = 0 then r else (a, b) :: r)
    else if b = 0 then (a', b') :: r else (a, b) :: (a', b') :: r

/-- The canonical form: addresses strictly rising above `lo`, and no listed byte 0. -/
def memWfFrom (lo : Nat) : List Host.Cell → Bool
  | [] => true
  | (a, b) :: r => decide (lo ≤ a) && decide (b ≠ 0) && memWfFrom (a + 1) r

/-- The canonical form of a byte memory. -/
def Memory.wf (l : List Host.Cell) : Bool := memWfFrom 0 l

/-- `n` bytes from `a` on. -/
def memRead (a n : Nat) (l : List Host.Cell) : List Byte := (List.range n).map fun i => memGet (a + i) l

/-- Bytes written from `a` on. -/
def memWrite (a : Nat) : List Byte → List Host.Cell → List Host.Cell
  | [], l => l
  | b :: bs, l => memWrite (a + 1) bs (memPut a b l)

/-! ### Register words and fields -/

/-- The key of a register word: page, offset, and the instance a selector shows. -/
def regKey (page off idx : Nat) : Nat := (idx * 256 + page) * 4096 + off

/-- The page of a key. -/
def keyPage (k : Nat) : Nat := (k / 4096) % 256

/-- The mapped pages of R32. -/
def mapped (page : Nat) : Bool := page ≤ 0x12 || (0x20 ≤ page && page ≤ 0x37)

/-- The mapped page numbers. -/
def allPages : List Nat := (List.range 0x38).filter mapped

/-- The admitted pages of R32. -/
def admittedPage (page : Nat) : Bool :=
  [0x02, 0x05, 0x06, 0x09, 0x0A, 0x0B, 0x0C, 0x10, 0x11, 0x12, 0x30, 0x31, 0x32].contains page
    || (0x20 ≤ page && page ≤ 0x2F)

/-- Pages whose PAGE_CTRL.enable resets to 1. -/
def enabledAtReset (page : Nat) : Bool :=
  [0x00, 0x01, 0x02, 0x03, 0x04, 0x05, 0x07, 0x36, 0x37, 0x10, 0x11, 0x12].contains page

/-- The block's first page: 0x20 for the MAC pages, else the page itself (R32). -/
def blockOf (page : Nat) : Nat := if 0x20 ≤ page ∧ page ≤ 0x2F then 0x20 else page

/-- Does the register table row cover this offset? -/
def covers (d : RegDef) (off : Nat) : Bool :=
  d.off ≤ off && (off - d.off) % d.stride == 0 && (off - d.off) / d.stride < d.count

/-- The block register at an offset of a page. -/
def findReg (page off : Nat) : Option RegDef := (regsOf page).find? fun d => covers d off

/-- The reset value of the header word at an offset below 0x040, page by page. -/
def headerReset (page off : Nat) : Word :=
  match off with
  | 0x00C => if enabledAtReset page then 1 else 0
  | 0x01C => sevReset page
  | _ => 0

/-- The reset value of a word. Values that a part fuses or characterises come from Config. -/
def resetWord (page off idx : Nat) : Word :=
  if off < 0x040 then headerReset page off else
  match page, off with
  | 0x06, 0x070 => Config.clockId.setWidth 32
  | 0x06, 0x074 => (Config.clockId >>> 32).setWidth 32
  | 0x06, 0x08C => (Config.pathIn (idx % 64) (idx / 64)).setWidth 32
  | 0x06, 0x090 => (Config.pathEg (idx % 64) (idx / 64)).setWidth 32
  | 0x00, 0x040 => Config.serial.setWidth 32
  | 0x00, 0x044 => (Config.serial >>> 32).setWidth 32
  | 0x00, 0x048 => 0x96400000#32 ||| Config.hwVariant.setWidth 32
  | _, _ => match findReg page off with
    | some d => d.reset
    | none => 0

/-- The word held at a page, offset and instance. -/
def Mach.reg (m : Mach) (page off idx : Nat) : Word := (kget (regKey page off idx) m.regs).getD (resetWord page off idx)

/-- The word in force at a page, offset and instance (R43). -/
def Mach.inForce (m : Mach) (page off idx : Nat) : Word :=
  (kget (regKey page off idx) m.force).getD (resetWord page off idx)

/-- A held word set. -/
def Mach.setReg (m : Mach) (page off idx : Nat) (w : Word) : Mach :=
  { m with regs := kput (regKey page off idx) w m.regs }

/-- A field of the held word, as a number. -/
def Mach.fld (m : Mach) (f : Fd) (idx : Nat := 0) : Nat := bits (m.reg f.page f.off idx).toNat f.hi f.lo

/-- A one-bit field. -/
def Mach.flag (m : Mach) (f : Fd) (idx : Nat := 0) : Bool := m.fld f idx == 1

/-- A field of the word in force. -/
def Mach.cfg (m : Mach) (f : Fd) (idx : Nat := 0) : Nat := bits (m.inForce f.page f.off idx).toNat f.hi f.lo

/-- A one-bit field in force. -/
def Mach.on (m : Mach) (f : Fd) (idx : Nat := 0) : Bool := m.cfg f idx == 1

/-- A field of the held word set, the rest of the word as it was. -/
def Mach.setFld (m : Mach) (f : Fd) (idx : Nat) (v : Nat) : Mach :=
  m.setReg f.page f.off idx (word (setBits (m.reg f.page f.off idx).toNat f.hi f.lo v))

/-- A flag as a field value. -/
def Mach.setFlag (m : Mach) (f : Fd) (idx : Nat) (b : Bool) : Mach := m.setFld f idx b.toNat

/-- A counter field advanced by `n`; it wraps at its width (R8). -/
def Mach.count (m : Mach) (f : Fd) (idx : Nat := 0) (n : Nat := 1) : Mach := m.setFld f idx (m.fld f idx + n)

/-- A counter field raised to at least `v`. -/
def Mach.raise (m : Mach) (f : Fd) (idx v : Nat) : Mach := m.setFld f idx (max (m.fld f idx) v)

/-! ### Header fields, the same on every page -/

/-- PAGE_CTRL.enable of a page. -/
def hEnable (page : Nat) : Fd := ⟨page, 0x00C, 0, 0, 4⟩
/-- PAGE_CTRL.freeze. -/
def hFreeze (page : Nat) : Fd := ⟨page, 0x00C, 1, 1, 4⟩
/-- PAGE_STS.committed. -/
def hCommitted (page : Nat) : Fd := ⟨page, 0x010, 2, 2, 4⟩
/-- PAGE_STS.reset_busy. -/
def hBusy (page : Nat) : Fd := ⟨page, 0x010, 3, 3, 4⟩
/-- PAGE_STS.staged. -/
def hStaged (page : Nat) : Fd := ⟨page, 0x010, 4, 4, 4⟩
/-- PAGE_EVT. -/
def hEvt (page : Nat) : Fd := ⟨page, 0x014, 31, 0, 4⟩
/-- PAGE_EVT_EN. -/
def hEvtEn (page : Nat) : Fd := ⟨page, 0x018, 31, 0, 4⟩
/-- PAGE_EVT_SEV. -/
def hSev (page : Nat) : Fd := ⟨page, 0x01C, 31, 0, 4⟩
/-- PAGE_ERR_INFO. -/
def hErr (page : Nat) : Fd := ⟨page, 0x020, 31, 0, 4⟩
/-- PAGE_ERR_TIME. -/
def hErrTime (page : Nat) : Fd := ⟨page, 0x024, 31, 0, 4⟩
/-- PAGE_GEN. -/
def hGen (page : Nat) : Fd := ⟨page, 0x02C, 31, 0, 4⟩

/-! ### Bulk objects -/

/-- The key of a byte of a bulk object. -/
def bulkKey (page obj pos : Nat) : Nat := (page * 256 + obj) * 2 ^ 24 + pos

/-- Bytes of a bulk object as held. -/
def Mach.bulkBytes (m : Mach) (page obj pos n : Nat) : List Byte := memRead (bulkKey page obj pos) n m.bulk

/-- Bytes of a bulk object in force. -/
def Mach.bulkInForce (m : Mach) (page obj pos n : Nat) : List Byte := memRead (bulkKey page obj pos) n m.bulkF

/-- A big-endian word of a bulk object in force. -/
def Mach.bulkWord (m : Mach) (page obj pos : Nat) : Nat := natBE (m.bulkInForce page obj pos 4)

/-! ### Time -/

/-- The timebase as it stands at an instant: it advances in steps of 4 ns, and it never decreases (R91, log 87). -/
def Mach.advance (m : Mach) (t : Nat) : Mach := { m with now := max m.now (t / 4 * 4) }

/-- The time tag (R92). -/
def Mach.tag (m : Mach) : Word := word (m.now % 2 ^ 32)

/-- The time tag of an instant. -/
def tagOf (t : Nat) : Word := word (t % 2 ^ 32)

/-- Station time (R93). -/
def Mach.station (m : Mach) : Int := (m.now : Int) + m.time.epoch

/-! ### Timers -/

/-- A timer set to an instant. -/
def Mach.arm (m : Mach) (t : Timer) (at_ : Nat) : Mach :=
  { m with timers := (t, at_) :: m.timers.filter fun e => e.1 != t }

/-- A timer stopped. -/
def Mach.disarm (m : Mach) (t : Timer) : Mach := { m with timers := m.timers.filter fun e => e.1 != t }

/-- The instant a timer is set to. -/
def Mach.deadline (m : Mach) (t : Timer) : Option Nat := (m.timers.find? fun e => e.1 == t).map (·.2)

/-- Is a timer running? -/
def Mach.running (m : Mach) (t : Timer) : Bool := (m.deadline t).isSome

/-- Has a timer run out? -/
def Mach.due (m : Mach) (t : Timer) : Bool :=
  match m.deadline t with
  | some d => d ≤ m.now
  | none => false

/-- The effect of an expiry: if the timer has run out it stops and `f` follows; else nothing (log 2). -/
def Mach.onExpiry (m : Mach) (t : Timer) (f : Mach → Mach) : Mach := if m.due t then f (m.disarm t) else m

/-- Has the instant a timer is set to passed? -/
def Mach.past (m : Mach) (t : Timer) : Bool :=
  match m.deadline t with
  | some d => d < m.now
  | none => false

/-- The effect of an expiry that comes after whatever arrives at its instant (R24, R132, R215, R224): it acts once that instant has passed
(log 100). -/
def Mach.onPast (m : Mach) (t : Timer) (f : Mach → Mach) : Mach := if m.past t then f (m.disarm t) else m

/-! ### Free values and outputs -/

/-- The next free value (log 4), and the state that has used it up. -/
def Mach.drawWord (m : Mach) : Word × Mach := (Config.freeWord m.free, { m with free := m.free + 1 })

/-- The next free integer (log 4). -/
def Mach.drawInt (m : Mach) : Int × Mach := (Config.freeInt m.free, { m with free := m.free + 1 })

/-- Something driven outward. -/
def Mach.emit (m : Mach) (o : Out) : Mach := { m with outs := o :: m.outs }

/-! ### Running a command -/

/-- Apply `f` when `b` holds. -/
def Mach.when (m : Mach) (b : Bool) (f : Mach → Mach) : Mach := if b then f m else m

/-- Apply a change for each entry of a list, in order. -/
def Mach.each {α : Type} (m : Mach) (l : List α) (f : α → Mach → Mach) : Mach := l.foldl (fun m a => f a m) m

/-- The outcome of a command whose effect on the module at instant `t` is `f`. A module that a thermal trip holds off takes no
notice of it (R435, log 5). -/
def State.run (s : State) (t : Nat) (f : Mach → Mach) : Host.Outcome State Fault Refusal :=
  .next { s with m := if s.m.powered then f (s.m.advance t) else s.m }

/-- The outcome of a command that also acts on a module held off: the return of power or of a bearable temperature. -/
def State.runOff (s : State) (t : Nat) (f : Mach → Mach) : Host.Outcome State Fault Refusal :=
  .next { s with m := f (s.m.advance t) }

end Sys2Proof.Machine
end

