-- ==== Sys2Proof/Machine/Status.lean ====
section
/-! DEFINITION. What a page shows on a read: the common header (R32–R43), the words computed from the typed state of
their block, freeze (R36), and selectors (R90). Reads here have no side effect. -/

namespace Sys2Proof.Machine

/-! ### The common header -/

/-- PAGE_ID (R32): block code, instance, layout 1. -/
def pageId (page : Nat) : Word := word (blockOf page * 2 ^ 24 + (page - blockOf page) * 2 ^ 16 + 1)

/-- Does any field of the page have this access type? -/
def hasAcc (page : Nat) (a : Acc) : Bool := (regsOf page).any fun d => d.flds.any fun f => f.acc == a

/-- Pages that own bulk objects. -/
def hasBulk (page : Nat) : Bool := [0x07, 0x08, 0x0A, 0x0B, 0x0C, 0x0D, 0x0E, 0x11].contains page || blockOf page == 0x20

/-- PAGE_CAP. -/
def pageCap (page : Nat) : Word :=
  word ((admittedPage page).toNat * 2 ^ 31 + (hasAcc page .rwl).toNat * 2 ^ 30 + (hasBulk page).toNat * 2 ^ 29
    + blockCap page)

/-- A Rim LOCK policy is in force: the Rim is Locked or Zeroised (R389). -/
def rimLocked (m : Mach) : Bool := m.fld RIM_STS_state != 0

/-- Have the blocks started? Pages with enable at 1 start in step 3 of a start, which is phase 1 (R410). -/
def blocksStarted (m : Mach) : Bool := m.fld RST_STS_phase != 0

/-- PAGE_STS: committed, reset_busy and staged as held, the rest mirrored; enabled only once the block has started (R37). -/
def pageSts (m : Mach) (page : Nat) : Word :=
  word ((rimLocked m).toNat * 32 + m.fld (hStaged page) * 16 + m.fld (hBusy page) * 8 + m.fld (hCommitted page) * 4
    + m.fld (hFreeze page) * 2 + (m.flag (hEnable page) && blocksStarted m).toNat)

/-- A read of PAGE_LOCK returns three status bits. -/
def lockWord (m : Mach) (page : Nat) : Word :=
  word ((rimLocked m).toNat * 4 + m.fld (hStaged page) * 2 + m.fld (hCommitted page))

/-! ### Words computed from typed state -/

/-- The records in the coil. -/
def coilRecs (m : Mach) : List Rec := m.coil.slots.map (·.2)

/-- The seq of the earliest-opened record in the coil. -/
def coilOldest (m : Mach) : Nat :=
  match coilRecs m with
  | [] => 0
  | r :: rs => rs.foldl (fun a r => min a r.seq) r.seq

/-- TIME_HOLD_ELAPSED (R101): milliseconds since the last measurement applied; 0 in Acquiring and Locked. -/
def holdElapsed (m : Mach) : Nat :=
  let st := m.fld TIME_QUAL_state
  match m.time.applied with
  | some a => if st = 1 ∨ st = 2 then 0 else (m.now - a) / 1000000
  | none => 0

/-- The grid index of a tick number. -/
def Grid.at_ (g : Grid) (n : Nat) : Int := g.index + ((n : Int) - g.first)

/-- The stretch of the grid that holds a tick number: the newest that begins at or before it. -/
def gridOf (m : Mach) (n : Nat) : Option Grid := m.svi.grids.find? fun g => g.first ≤ n

/-- The nominal station time of a tick on its stretch, in ns, rounded down (R123, R166). -/
def Grid.nominal (g : Grid) (n : Nat) : Int := (g.index + ((n : Int) - g.first)) * 1000000000 / g.rate

/-- The first grid index whose nominal time is at or after a station time. -/
def indexFrom (rate : Nat) (t : Int) : Int := -((-(t * rate)) / 1000000000)

/-- The number of the latest tick whose nominal time has passed (SVI_TICK_NUM); 0 before the first. -/
def tickNow (m : Mach) : Nat :=
  match m.svi.grids with
  | [] => 0
  | g :: _ =>
    let k := ((m.now : Int) + g.epoch) * g.rate / 1000000000
    (g.first + (k - g.index)).toNat

/-- PTP_TXS0–3 of a port: the head of its transmit stamp FIFO (R111). -/
def txsWord (m : Mach) (port n : Nat) : Word :=
  match (kget port m.ptp.txs).getD [] with
  | [] => 0
  | e :: _ => match n with
    | 0 => word (2 ^ 31 + e.gap.toNat * 2 ^ 30 + e.lostN * 2 ^ 22 + e.source * 2 ^ 16 + e.domain * 2 ^ 8
        + e.mgr.toNat * 2 ^ 7 + e.msgType)
    | 1 => word (e.seqId * 2 ^ 16 + e.lostSeq)
    | 2 => word (toWidth 64 e.stamp % 2 ^ 32)
    | _ => word (toWidth 64 e.stamp / 2 ^ 32)

/-- The kinds of a crossing as CDC_DETAIL shows them: stream 1, value 2, count 4, event 8 (R87). -/
def xKinds (x : Nat) : Nat :=
  if x < 8 then 11 else if x < 12 then 1 else if x < 28 then 11 else if x < 32 then 9
  else if x = 32 then 14 else if x = 33 then 12 else if x = 34 then 1 else 9

/-- The round trip of a crossing in 10 ps (R87); a MAC crossing follows the port's speed (R88). -/
def xLatency (m : Mach) (x : Nat) : Nat :=
  if x < 8 then 500 else if x < 12 then 588
  else if x < 28 then
    (match m.fld (MAC_STS_speed.onPort (x - 12)) with | 0 => 2000 | 1 => 1680 | _ => 912)
  else if x < 30 then 896 else if x = 30 then 1200 else if x = 31 then 2000 else if x = 32 then 1200
  else if x < 35 then 2400 else 4400

/-- The clock of a crossing's clocked domain in kHz (R87); 0 for a MAC port whose link is down: Disabled or Down (log 86). -/
def xClock (m : Mach) (x : Nat) : Nat :=
  if x < 8 then 2000000 else if x < 12 then 1066670
  else if x < 28 then
    (if m.fld (MAC_STS_link.onPort (x - 12)) = 0 ∨ m.fld (MAC_STS_link.onPort (x - 12)) = 1 then 0
     else match m.fld (MAC_STS_speed.onPort (x - 12)) with | 0 => 125000 | 1 => 156250 | _ => 390625)
  else if x < 30 then 402830 else if x = 30 then 250000 else if x = 31 then 125000 else if x = 32 then 250000
  else if x < 35 then 100000 else 50000

/-- CDC_DETAIL of a crossing. -/
def xDetail (m : Mach) (x : Nat) : Word :=
  let c := (kget x m.cdc).getD {}
  word (xKinds x * 2 ^ 28 + (c.evPend.isSome.toNat * 2 + (c.valPend.isSome || c.cntPend.isSome).toNat) * 2 ^ 24
    + min 255 c.fifo * 2 ^ 16 + xLatency m x)

/-- Outstanding commands of a transport (R47, R56, R57): executing, waiting for the ring, or partly received. -/
def outstanding (m : Mach) (tr : Transport) : Nat :=
  countIf (fun c : OutCmd => c.tr == tr) m.cmd.out + (if tr == .udp then m.cmd.parts.length else 0)
    + countIf (fun c : Ready => c.tr == tr) m.cmd.ready

/-- The time below the floor that PACE_FLOOR_TIME has not taken in yet, in ns (R77). -/
def floorSince (m : Mach) : Nat := m.pace.floorNs + (if m.fld PACE_STATE_state = 3 then m.now - m.pace.windowAt else 0)

/-- The words of a page, at offsets 0x040 and above, that follow from other state, and that freeze holds (R36). MAC_RED of a second
port mirrors that of the first (R305). -/
def statusWords (m : Mach) (page idx : Nat) : List (Nat × Word) :=
  match page with
  | 0x02 => [(0x070, word (m.fld PACE_FLOOR_TIME_us + (floorSince m) / 1000))]
  | 0x05 => [(0x068, word (holdElapsed m)), (0x06C, word (toWidth 64 m.time.epoch % 2 ^ 32)),
      (0x070, word (toWidth 64 m.time.epoch / 2 ^ 32))]
  | 0x06 => [(0x0A0, txsWord m idx 0), (0x0A4, txsWord m idx 1), (0x0A8, txsWord m idx 2), (0x0AC, txsWord m idx 3),
      (0x0B0, word ((kget idx m.ptp.txs).getD []).length)]
  | 0x07 => [(0x060, word m.coil.seq), (0x064, word (coilOldest m)), (0x068, word m.coil.slots.length),
      (0x06C, word (m.coil.fifoMax * 2 ^ 16 + m.coil.fifo.length))]
  | 0x36 => [(0x060, m.cmd.session), (0x064, word (outstanding m .udp * 2 ^ 16 + outstanding m .pcie))]
  | 0x37 => [(0x058, xDetail m idx), (0x05C, word (xClock m idx))]
  | p => if secondPort p then [(0x060, m.reg (p - 1) 0x060 0)] else []

/-- The words that always read live (R36): the timebase, its wrap count and the tick number. -/
def liveWord (m : Mach) (page off : Nat) : Option Word :=
  match page, off with
  | 0x05, 0x040 => some m.tag
  | 0x05, 0x044 => some (word (m.now / 2 ^ 32))
  | 0x05, 0x048 => some (word (m.now / 2 ^ 32 % 2 ^ 16))
  | 0x0A, 0x048 => some (word (tickNow m % 2 ^ 32))
  | 0x0A, 0x04C => some (word (tickNow m / 2 ^ 32))
  | _, _ => none

/-! ### Reads -/

/-- The instance a register shows: what its selector holds (R90). -/
def selIndex (m : Mach) (d : RegDef) : Nat :=
  match d.sel with
  | .none => 0
  | .one f => m.fld f
  | .two f g => m.fld f * 64 + m.fld g

/-- The bits of the fields of a register with one of some access types. -/
def accMask (d : RegDef) (accs : List Acc) : Nat :=
  d.flds.foldl (fun a f => if accs.contains f.acc then setBits a f.hi f.lo (2 ^ 32 - 1) else a) 0

/-- The bits of a register that freeze holds: its counter and status fields, those that software may clear among them (R36). -/
def frozenMask (d : RegDef) : Word := word (accMask d [.ro, .w1c])

/-- The bits of a register that a read returns: WO fields read 0 (R8). -/
def readMask (d : RegDef) : Nat := d.flds.foldl (fun a f => if f.acc == .wo then a else setBits a f.hi f.lo (2 ^ 32 - 1)) 0

/-- A word of the header. -/
def headerWord (m : Mach) (page off : Nat) : Word :=
  match off with
  | 0x000 => pageId page
  | 0x004 => 0x00010100
  | 0x008 => pageCap page
  | 0x010 => pageSts m page
  | 0x028 => lockWord m page
  | _ => if off < 0x030 then m.reg page off 0 else 0

/-- A block word that is neither live nor frozen. -/
def blockWord (m : Mach) (page off idx : Nat) : Word :=
  (((statusWords m page idx).find? fun e => e.1 == off).map (·.2)).getD (m.reg page off idx)

/-- The word a read of a page returns (R33, R36, R90): 0 where nothing is mapped. -/
def readWord (m : Mach) (page off : Nat) : Word :=
  if !mapped page then 0
  else if off < 0x040 then headerWord m page off
  else match liveWord m page off with
  | some w => w
  | none => match findReg page off with
    | none => 0
    | some d =>
      let idx := selIndex m d
      let live := blockWord m page off idx
      let w := match m.frozen.find? fun e => e.1 == page with
        | some (_, snap) => ((kget (regKey page off idx) snap).getD (resetWord page off idx) &&& frozenMask d) ||| (live &&& ~~~ frozenMask d)
        | none => live
      w &&& word (readMask d)

/-- The words a page freezes (R36), of which a read uses the status bits: its held words, with the computed ones of each instance written over them. -/
def freezeWords (m : Mach) (page : Nat) : KMap Word :=
  let held := m.regs.filter fun e => keyPage e.1 == page
  (List.range 64).foldl (fun l idx => (statusWords m page idx).foldl (fun l e => kput (regKey page e.1 idx) e.2 l) l) held

/-- The number of words of the register at an offset that a snapshot reads whole (R373). -/
def spanOf (page off : Nat) : Nat :=
  match findReg page off with
  | none => 1
  | some d => if d.hiOff.isSome then 2 else
    if [(0x05, 0x040), (0x05, 0x06C), (0x0A, 0x048), (0x06, 0x058), (0x06, 0x060), (0x06, 0x070), (0x31, 0x084),
        (0x31, 0x08C), (0x31, 0x094), (0x00, 0x040), (0x20, 0x090), (0x20, 0x098), (0x0E, 0x088)].contains (blockOf page, off)
    then 2 else 1

end Sys2Proof.Machine
end

