-- ==== Sys2Proof/Machine/Coil.lean ====
section
/-! DEFINITION. The event recorder (R370–R385): intake, folding, placement, segments, the last-gasp area and its
flash images, and restart. Blocks hand events over through `Mach.intake`; Flags.lean says which events they are. -/

namespace Sys2Proof.Machine

/-! ### Records -/

/-- Attribution as bytes 20–21 of a record hold it (R370). -/
def Attr.word : Attr → Nat
  | .module => 0
  | .part p => 1 * 2 ^ 14 + p % 2 ^ 12
  | .slot s => 2 * 2 ^ 14 + s % 2 ^ 12
  | .item n => 3 * 2 ^ 14 + n % 2 ^ 12

/-- Bytes 0–55 of a record (R370). -/
def Rec.body (r : Rec) : List Byte :=
  bytesBE 4 (r.seq % 2 ^ 32) ++ bytesBE 4 r.tag.toNat ++ bytesBE 4 r.last.toNat ++ bytesBE 2 r.wrap ++ bytesBE 2 r.era
    ++ bytesBE 1 r.page
    ++ bytesBE 1 (r.sev * 32 + r.continued.toNat * 16 + r.chained.toNat * 8 + r.continuation.toNat * 4 + r.pw.toNat * 2
        + r.cut.toNat)
    ++ bytesBE 2 (r.snap.length * 2 ^ 12 + r.code) ++ bytesBE 2 r.attr ++ bytesBE 2 r.rpt
    ++ (List.range 8).flatMap (fun i => bytesBE 4 (nthD r.snap i 0).toNat)

/-- The 64 bytes of a record: body, CRC-32C, complement of seq (R370, R371). -/
def Rec.bytes (r : Rec) : List Byte :=
  r.body ++ bytesBE 4 (crc32c r.body).toNat ++ bytesBE 4 (2 ^ 32 - 1 - r.seq % 2 ^ 32)

/-- The code that marks an open continuation record: no event is identical to it (R375). -/
def noFold : Nat := 0x1000

/-- Is the coil in DDR in use? (COIL_CFG.en in force, R381) -/
def coilOn (m : Mach) : Bool := m.on COIL_CFG_en

/-- How many records the coil in use holds (R378, R381). -/
def coilSize (m : Mach) : Nat := if coilOn m then m.cfg COIL_CFG_size * 4096 else 512

/-- Counters of the recorder. -/
def COIL_RECORDS : Fd := COIL_CNT_n
/-- Occurrences folded. -/
def COIL_FOLDS : Fd := COIL_CNT_n.nth 1
/-- Events lost at intake. -/
def COIL_INTAKE_LOSS : Fd := COIL_CNT_n.nth 2
/-- Records overwritten. -/
def COIL_OVWR : Fd := COIL_CNT_n.nth 3
/-- Records dropped. -/
def COIL_DROP : Fd := COIL_CNT_n.nth 4
/-- Flushes completed. -/
def COIL_LG_FLUSH : Fd := COIL_CNT_n.nth 5

/-- An event of the recorder itself: PAGE_EVT and the interrupt, but no record (R385). -/
def Mach.coilEvent (m : Mach) (bit_ : Nat) : Mach :=
  let m := m.setFld (hEvt 0x07) 0 (setBits (m.fld (hEvt 0x07)) bit_ bit_ 1)
  if bit (m.fld (hEvtEn 0x07)) bit_ then
    let m := m.emit (.eventIrq 0x07)
    if m.on CMD_CTRL_pcie_en then m.emit (.msix 1) else m
  else m

/-- The coil changed. -/
def Mach.onCoil (m : Mach) (f : Coil → Coil) : Mach := { m with coil := f m.coil }

/-! ### Placement (R378) -/

/-- The lowest free slot below `size`, with fuel. -/
def freeSlot (slots : List (Nat × Rec)) : Nat → Nat → Option Nat
  | 0, _ => none
  | k + 1, i => if (kget i slots).isNone then some i else freeSlot slots k (i + 1)

/-- The slot with the earliest-opened record among some. -/
def oldestSlot : List (Nat × Rec) → Option Nat
  | [] => none
  | e :: es => some (es.foldl (fun a b => if b.2.seq < a.2.seq then b else a) e).1

/-- Where a new record of a severity goes: the slot, and whether a record there is overwritten, which COIL_OVWR counts.
None: it is dropped. -/
def placeFor (m : Mach) (sev : Nat) : Option (Nat × Bool) :=
  let slots := m.coil.slots
  if slots.length < coilSize m then (freeSlot slots (slots.length + 1) 0).map fun i => (i, false)
  else
    let isOpen := fun e : Nat × Rec => m.coil.opened.any fun o => o.slot == e.1
    let free := slots.filter fun e => !isOpen e
    match oldestSlot (free.filter fun e => e.2.sev < sev) with
    | some i => some (i, true)
    | none => (oldestSlot (free.filter fun e => e.2.sev = sev)).map fun i => (i, true)

/-- The last-gasp mirror after a record is opened (R381): the newest 512 of severity lg_min and above. -/
def mirror (m : Mach) (r : Rec) : List Rec :=
  if coilOn m && decide (m.cfg COIL_LG_lg_min ≤ r.sev) then (r :: m.coil.lg).take 512 else m.coil.lg

/-! ### Opening and folding -/

/-- A record rewritten in its slot and in the mirror. -/
def Coil.rewrite (c : Coil) (slot seq : Nat) (f : Rec → Rec) : Coil :=
  { c with
    slots := c.slots.map (fun e => if e.1 = slot ∧ e.2.seq = seq then (e.1, f e.2) else e)
    lg := c.lg.map fun r => if r.seq = seq then f r else r }

/-- One record opened at a place (R370, R374, R379). -/
def Mach.writeRec (m : Mach) (slot : Nat) (r : Rec) (o : OpenRec) : Mach :=
  let m := { m with coil := { m.coil with
    seq := m.coil.seq + 1
    slots := kput slot r m.coil.slots
    index := kput (r.seq % 4096) slot m.coil.index
    lg := mirror m r
    opened := o :: m.coil.opened } }
  m.count COIL_RECORDS

/-- The pending repeats of an open record folded into it (R375, R376). What does not fit within 65,535 is left: the tags
of the remaining occurrences, and whether the record is saturated. -/
def Mach.foldRec (m : Mach) (o : OpenRec) : Mach × List Word × Bool :=
  match o.pending.getLast?, (kget o.slot m.coil.slots) with
  | some lastTag, some r =>
    let room := 65535 - r.rpt
    let taken := o.pending.take room
    let rest := o.pending.drop room
    let m := m.onCoil fun c => c.rewrite o.slot o.seq fun r =>
      { r with rpt := r.rpt + taken.length, last := if rest.isEmpty then lastTag else (taken.getLast?).getD r.last }
    let m := m.onCoil fun c => { c with opened := c.opened.map fun x => if x.seq = o.seq then { x with pending := [] } else x }
    (m.count COIL_FOLDS 0 taken.length, rest, decide (r.rpt + taken.length ≥ 65535))
  | _, _ => (m, [], false)

/-- An open record folded and closed; its identity passes on when `keepId` (R375, R376, R380). -/
def Mach.closeRec (m : Mach) (o : OpenRec) (keepId : Bool) : Mach :=
  let (m, _, _) := m.foldRec o
  m.onCoil fun c => { c with
    opened := c.opened.filter fun x => x.seq != o.seq
    closedId := if keepId && decide (o.code < 0x0F00) then { o with pending := [] } :: c.closedId else c.closedId }

/-- Does an event fold into this open record? (R375) -/
def identical (page code sev attr wrapNo : Nat) (snap : List Word) (o : OpenRec) : Bool :=
  o.page == page && o.code == code && o.sev == sev && o.attr == attr && o.wrapNo == wrapNo
    && decide (code < 0x0F00) && (decide (code < 0x100) || o.snap == snap)

/-- The same identity but for the wrap of origin, as a closed record passes it on (R376). -/
def sameSource (page code sev attr : Nat) (snap : List Word) (o : OpenRec) : Bool :=
  o.page == page && o.code == code && o.sev == sev && o.attr == attr && (decide (code < 0x100) || o.snap == snap)

/-- A record of an event, or one record of its chain, placed and opened; a ninth open record closes the oldest. The
result says whether it was placed (R375, R378). -/
def Mach.openOne (m : Mach) (e : FifoEntry) (snap : List Word) (first more continued : Bool) : Mach × Bool :=
  match placeFor m e.sev with
  | none => ((m.count COIL_DROP).coilEvent 1, false)
  | some (slot, lost) =>
    let m := if lost then (m.count COIL_OVWR).coilEvent 2 else m
    let seg := m.coil.wrapNo
    let r : Rec := {
      seq := m.coil.seq, tag := e.tag, last := if first then e.last else e.tag, wrap := seg % 2 ^ 16,
      era := seg / 2 ^ 16, page := e.page, sev := e.sev, continued := first && continued, chained := more,
      continuation := !first, pw := decide (e.wrapNo < seg), cut := first && e.cut, code := e.code, attr := e.attr,
      rpt := if first then e.rpt else 0, snap := snap }
    let o : OpenRec := {
      slot := slot, seq := r.seq, page := e.page,
      code := if first then e.code else noFold, sev := e.sev, attr := e.attr, wrapNo := e.wrapNo, snap := e.snap,
      pending := [] }
    let m := m.writeRec slot r o
    match m.coil.opened[8]? with
    | some old => (m.closeRec old false, true)
    | none => (m, true)

/-- The later records of a chain, 8 words each; when one is dropped every later one is (R373, R378). -/
def Mach.openRest (m : Mach) (e : FifoEntry) : List (List Word) → Mach
  | [] => m
  | s :: rest =>
    match m.openOne e s false (!rest.isEmpty) false with
    | (m, true) => m.openRest e rest
    | (m, false) => m.count COIL_DROP 0 rest.length

/-- An event's record opened, with its continuation records (R373). A closed record of the same identity makes it
continued (R376). -/
def Mach.openRec (m : Mach) (e : FifoEntry) : Mach :=
  let prior := m.coil.closedId.any (sameSource e.page e.code e.sev e.attr e.snap)
  let m := m.onCoil fun c => { c with closedId := c.closedId.filter fun o => !sameSource e.page e.code e.sev e.attr e.snap o }
  match chunks 8 5 e.snap with
  | [] => (m.openOne e [] true false (prior || e.continued)).1
  | s :: rest =>
    match m.openOne e s true (!rest.isEmpty) (prior || e.continued) with
    | (m, true) => m.openRest e rest
    | (m, false) => m.count COIL_DROP 0 rest.length

/-- The rewrite of an open record with pending repeats (R375, R376): on saturation the record closes, event bit [3] is
set, and the remaining occurrences open a continued record. -/
def Mach.rewriteRec (m : Mach) (o : OpenRec) : Mach :=
  match m.foldRec o with
  | (m, rest, sat) =>
    if sat then
      let m := (m.closeRec { o with pending := [] } true).coilEvent 3
      match rest with
      | [] => m
      | t :: ts => m.openRec {
          page := o.page, code := o.code, sev := o.sev, attr := o.attr, tag := t,
          last := (ts.getLast?).getD t, rpt := ts.length, wrapNo := o.wrapNo, snap := o.snap, cut := false, continued := true }
    else m

/-! ### Segments (R380) -/

/-- A new segment: every open record is folded and closed, and a segment open record (0xF01) opens ahead of all that
waits. -/
def Mach.newSegment (m : Mach) (wrapNo : Nat) : Mach :=
  let m := (m.coil.opened.reverse).foldl (fun m o => (m.rewriteRec o)) m
  let m := (m.coil.opened.reverse).foldl (fun m o => m.closeRec o true) m
  let m := m.onCoil fun c => { c with wrapNo := wrapNo }
  let ep := toWidth 64 m.time.epoch
  m.openRec {
    page := 0xFF, code := 0xF01, sev := m.cfg COIL_SEV_seg, attr := 0, tag := m.tag, last := m.tag, rpt := 0,
    wrapNo := wrapNo, snap := [word (ep / 2 ^ 32), word (ep % 2 ^ 32), word (m.fld TIME_QUAL_state)], cut := false,
    continued := false }

/-- The wrap in which an event's tag originated (R380): the present one, or the one before when the tag is numerically
greater than the present time tag. -/
def wrapOfTag (m : Mach) (tag : Word) : Nat :=
  let w := m.now / 2 ^ 32
  if m.tag.toNat < tag.toNat then w - 1 else w

/-! ### Snapshots (R373) -/

/-- The snapshot list of a page's event bit: pages and offsets of the registers named. -/
def snapList (m : Mach) (page bit_ : Nat) : List (Nat × Nat) :=
  match (m.bulkInForce 0x07 3 (32 * page + bit_) 1) with
  | [b] =>
    if b = 0 then [] else
      let entries := (List.range 32).map fun i => m.bulkWord 0x07 3 (2048 + 128 * (b.toNat - 1) + 4 * i)
      (entries.takeWhile fun e => bit e 31).map fun e => (bits e 23 16, bits e 11 2 * 4)
  | _ => []

/-- The words of listed registers, each register whole, as far as 32 words hold them; and whether some were left out. -/
def snapWords (m : Mach) : List (Nat × Nat) → List Word → List Word × Bool
  | [], acc => (acc, false)
  | (p, off) :: rest, acc =>
    let ws := (List.range (spanOf p off)).map fun i => readWord m p (off + 4 * i)
    if acc.length + ws.length ≤ 32 then snapWords m rest (acc ++ ws) else (acc, true)

/-! ### Intake (R374, R375, R377) -/

/-- Bit n of the page masks of an events-lost record. -/
def tallyWords (t : Tally) : List Word :=
  [word (t.pages % 2 ^ 32), word (t.pages / 2 ^ 32), word t.n, t.first, t.last]

/-- An event added to a loss tally (R377). -/
def Tally.add (t : Tally) (page sev : Nat) (tag : Word) : Tally :=
  { t with n := t.n + 1, pages := if page < 64 then setBits t.pages page page 1 else t.pages, sev := max t.sev sev, last := tag }

/-- The FIFO entry of a loss tally: one events-lost record (0xF00). -/
def tallyEntry (m : Mach) (t : Tally) : FifoEntry :=
  {
    page := 0xFF, code := 0xF00, sev := t.sev, attr := 0, tag := m.tag, last := m.tag, rpt := 0, wrapNo := m.now / 2 ^ 32,
    snap := tallyWords t, cut := false, continued := false }

/-- An event that finds the FIFO full is lost (R377). -/
def Mach.loseEvent (m : Mach) (page sev : Nat) (tag : Word) : Mach :=
  let m := (m.count COIL_INTAKE_LOSS).coilEvent 0
  let t := match m.coil.tally with
    | some t => t.add page sev tag
    | none => ({ n := 0, pages := 0, sev := 0, first := tag, last := tag } : Tally).add page sev tag
  m.onCoil fun c => { c with tally := some t, fifo := c.fifo.map fun e =>
    if e.code = 0xF00 then { e with sev := t.sev, snap := tallyWords t } else e }

/-- An event handed to the recorder (R375): it folds into an open record, enters the FIFO with its snapshot, or is lost.
After power fail the intake has stopped and the event is only counted (R382). -/
def Mach.intake (m : Mach) (page code sev attr : Nat) (tag : Word) (snap : List Word) (cut : Bool) : Mach :=
  if !m.coil.intake then m.count COIL_INTAKE_LOSS else
  let w := wrapOfTag m tag
  let m := if m.coil.wrapNo < w then m.newSegment w else m
  match m.coil.opened.find? (identical page code sev attr w snap) with
  | some o => m.onCoil fun c => { c with opened := c.opened.map fun x =>
      if x.seq = o.seq then { x with pending := x.pending ++ [tag] } else x }
  | none =>
    if m.coil.fifo.length < 32 then
      m.onCoil fun c => { c with
        fifo := c.fifo ++ [{
          page := page, code := code, sev := sev, attr := attr, tag := tag, last := tag, rpt := 0,
          wrapNo := w, snap := snap, cut := cut, continued := false }]
        fifoMax := max c.fifoMax (c.fifo.length + 1) }
    else m.loseEvent page sev tag

/-- The FIFO head taken: it folds or opens its record; a freed entry takes the loss tally (R374, R377). -/
def Mach.takeHead (m : Mach) : Mach :=
  match m.coil.fifo with
  | [] => m
  | e :: rest =>
    let isTally := e.code == 0xF00
    let m := m.onCoil fun c => { c with fifo := rest, tally := if isTally then none else c.tally }
    let m := match m.coil.tally with
      | some t => if m.coil.fifo.any (fun x => x.code == 0xF00) then m else
          m.onCoil fun c => { c with fifo := c.fifo ++ [tallyEntry m t], fifoMax := max c.fifoMax (c.fifo.length + 1) }
      | none => m
    match m.coil.opened.find? (identical e.page e.code e.sev e.attr e.wrapNo e.snap) with
    | some o => m.onCoil fun c => { c with opened := c.opened.map fun x =>
        if x.seq = o.seq then { x with pending := x.pending ++ [e.tag] } else x }
    | none => m.openRec e

/-! ### Last-gasp area and flash (R381–R383) -/

/-- The records of the last-gasp area in seq order: the mirror, or the whole coil while COIL_CFG.en is 0 (R381). -/
def lgRecs (m : Mach) : List Rec :=
  let rs := if coilOn m then m.coil.lg else coilRecs m
  rs.mergeSort fun a b => a.seq ≤ b.seq

/-- Bytes 0–59 of an image header (R383). -/
def LgImage.header (g : LgImage) : List Byte :=
  bytesBE 4 g.flush ++ bytesBE 4 g.recs.length ++ bytesBE 8 g.base ++ bytesBE 2 g.boot ++ bytesBE 2 0
    ++ bytesBE 8 (toWidth 64 g.epoch) ++ List.replicate 32 0

/-- The image as object 2 presents it: header, its CRC-32C, and the records (R383). -/
def LgImage.bytes (g : LgImage) : List Byte :=
  let body := g.recs.flatMap Rec.bytes
  g.header ++ bytesBE 4 (crc32c (g.header ++ body)).toNat ++ body

/-! ### Restart (R384) -/

/-- The coil restarted in DDR: open records folded and closed, the last-gasp records copied, an 0xF04 record opened;
events in the FIFO follow. The last-gasp area mirrors from here on only severities of at least lg_min (R381). -/
def Mach.coilRestart (m : Mach) (keep : List Rec) : Mach :=
  let mirrored := keep.filter fun r => decide (m.cfg COIL_LG_lg_min ≤ r.sev)
  let m := m.onCoil fun c => { c with slots := [], index := [], lg := mirrored.reverse, opened := [], closedId := [] }
  let m := keep.foldl (fun m r => m.onCoil fun c => { c with
      slots := kput c.slots.length r c.slots, index := kput (r.seq % 4096) c.slots.length c.index }) m
  let m := m.openRec {
    page := 0xFF, code := 0xF04, sev := 5, attr := 0, tag := m.tag, last := m.tag, rpt := 0,
    wrapNo := m.coil.wrapNo, snap := [word keep.length], cut := false, continued := false }
  m.coilEvent 7

/-- The coil back in the last-gasp area alone (R384, en = 0): it keeps the records it mirrors. -/
def Mach.coilStop (m : Mach) (keep : List Rec) : Mach :=
  let m := m.onCoil fun c => { c with slots := [], index := [], lg := [], closedId := [] }
  let m := keep.foldl (fun m r => m.onCoil fun c => { c with
      slots := kput c.slots.length r c.slots, index := kput (r.seq % 4096) c.slots.length c.index }) m
  m.onCoil fun c => { c with opened := c.opened.filterMap fun o =>
    (c.slots.find? fun e => e.2.seq = o.seq).map fun e => { o with slot := e.1 } }

end Sys2Proof.Machine
end

