-- ==== Sys2Proof/Machine/Flags.lean ====
section
/-! DEFINITION. Event flags and the records they write (R38), rejections (R39) and audit records (R372): every flag
that the module raises is raised here. -/

namespace Sys2Proof.Machine

/-- The severity of an event bit of a page: its group in PAGE_EVT_SEV. -/
def sevOf (m : Mach) (page bit_ : Nat) : Nat := bits (m.fld (hSev page)) (4 * (bit_ / 4) + 2) (4 * (bit_ / 4))

/-- PAGE_EVT bit set. -/
def Mach.latch (m : Mach) (page bit_ : Nat) : Mach :=
  m.setFld (hEvt page) 0 (setBits (m.fld (hEvt page)) bit_ bit_ 1)

/-- The manager's event interrupt, when the bit is enabled; with PCIe in use also MSI-X vector 1 (log 8). -/
def Mach.signal (m : Mach) (page bit_ : Nat) : Mach :=
  if bit (m.fld (hEvtEn page)) bit_ then
    let m := m.emit (.eventIrq page)
    if m.on CMD_CTRL_pcie_en then m.emit (.msix 1) else m
  else m

/-- The record of a block event, with the page's snapshot of that bit (R373). -/
def Mach.eventRecord (m : Mach) (page bit_ : Nat) (attr : Attr) : Mach :=
  let (snap, cut) := snapWords m (snapList m page bit_) []
  m.intake page bit_ (sevOf m page bit_) attr.word m.tag snap cut

/-- A block event (R38): its bit is always set; record and interrupt only when the bit is enabled. The recorder's own
events write no record (R385). -/
def Mach.event (m : Mach) (page bit_ : Nat) (attr : Attr := .module) : Mach :=
  let m := m.latch page bit_
  let m := if bit (m.fld (hEvtEn page)) bit_ && page != 0x07 then m.eventRecord page bit_ attr else m
  m.signal page bit_

/-- A block event whose rule states that it writes a record: one record whatever PAGE_EVT_EN says (R38). -/
def Mach.eventAlways (m : Mach) (page bit_ : Nat) (attr : Attr := .module) : Mach :=
  let m := (m.latch page bit_)
  let m := m.eventRecord page bit_ attr
  m.signal page bit_

/-- A record with a code of its own (R372). -/
def Mach.record (m : Mach) (page code sev : Nat) (attr : Attr) (snap : List Word) : Mach :=
  m.intake page code sev attr.word m.tag snap false

/-- The code of a source as PAGE_ERR_INFO.source holds it. -/
def Src.code : Src → Nat
  | .manager => 0
  | .pcie => 1
  | .udp => 2
  | .debug => 3
  | .internal => 4

/-- The source a Vrelti transport acts as. -/
def srcOf : Transport → Src
  | .pcie => .pcie
  | .udp => .udp

/-- A rejection (R10, R39, R40): held in PAGE_ERR_INFO and PAGE_ERR_TIME when none is held, else `more` is set; either
way a 0x110 record is written. -/
def Mach.reject (m : Mach) (page : Nat) (src : Src) (off reason : Nat) (v : Word) : Mach :=
  let info := 2 ^ 31 + reason * 2 ^ 16 + (Src.code src) * 2 ^ 12 + off % 2 ^ 12
  let m := if bit (m.fld (hErr page)) 31 then m.setFld (hErr page) 0 (setBits (m.fld (hErr page)) 30 30 1)
    else (m.setFld (hErr page) 0 info).setReg page 0x024 0 m.tag
  m.intake page 0x110 (m.cfg COIL_SEV_reject) 0 m.tag [word info, v] false

/-- An audit record (R372). -/
def Mach.audit (m : Mach) (page code : Nat) (snap : List Word) : Mach :=
  m.intake page code (m.cfg COIL_SEV_audit) 0 m.tag snap false

/-- The audit record of an accepted register write: source and offset, value written, value after. -/
def Mach.auditWrite (m : Mach) (page : Nat) (src : Src) (off : Nat) (v : Word) : Mach :=
  m.audit page 0x100 [word ((Src.code src) * 2 ^ 28 + off), v, readWord m page off]

end Sys2Proof.Machine
end

