-- ==== Sys2Proof/Machine/Quality.lean ====
section
/-! DEFINITION. Sample, measurand and output quality (R136, R162, R195), and magnitudes of binary32 values. -/

namespace Sys2Proof.Machine

/-- The worse of two validities: invalid (1) before questionable (3) before good (0) (R137). -/
def worst (a b : Nat) : Nat := if a = 1 ∨ b = 1 then 1 else if a ≠ 0 ∨ b ≠ 0 then 3 else 0

/-- The validity of a quality. -/
def validity (q : BitVec 16) : Nat := bits q.toNat 1 0

/-- A quality made worse by a contribution, with a flag set. -/
def degrade (q : BitVec 16) (v : Nat) (flags : BitVec 16) : BitVec 16 :=
  BitVec.ofNat 16 (setBits (q ||| flags).toNat 1 0 (worst (validity q) v))

/-- Two qualities joined: worst validity, flags of both. -/
def joinQ (a b : BitVec 16) : BitVec 16 := degrade a (validity b) (b &&& 0xFFFC#16)

/-- The join of many qualities. -/
def joinAll (l : List (BitVec 16)) : BitVec 16 := l.foldl joinQ 0

/-- A finite binary32 value times 2^149, as an integer; infinity and not-a-number as a value above every finite one. -/
def f32Scaled (x : BitVec 32) : Int :=
  let e := bits x.toNat 30 23
  let f := bits x.toNat 22 0
  let a : Nat := if e = 255 then 2 ^ 280 else if e = 0 then f else (2 ^ 23 + f) * 2 ^ (e - 1)
  if bit x.toNat 31 then -(a : Int) else a

/-- Is a binary32 value at least num / den? -/
def f32Ge (x : BitVec 32) (num : Int) (den : Nat) : Bool := f32Scaled x * den ≥ num * 2 ^ 149

/-- The magnitude of a binary32 value. -/
def f32Abs (x : BitVec 32) : BitVec 32 := x &&& 0x7FFFFFFF#32

/-- A binary32 value in units of 1/`den`, rounded toward zero, as an integer. -/
def f32Trunc (x : BitVec 32) (den : Nat) : Int := (f32Scaled x * den).tdiv (2 ^ 149)

end Sys2Proof.Machine
end

