-- ==== Sys2Proof/Machine/Measure.lean ====
section
/-! DEFINITION. The quantities of the measurand engine as exact numbers (R152–R158): windows with their fractional end, Fourier
coefficients, sequence components, power, impedance, frequency and its rate of change. What binary32 arithmetic makes of an exact
quantity is open (R151, log 9). -/

namespace Sys2Proof.Machine

/-- The number that a finite binary32 value stands for. -/
def f32Rat (x : BitVec 32) : Rat := mkRat (f32Scaled x) (2 ^ 149)

/-! ### Complex numbers -/

/-- A complex number. -/
structure Phasor where
  re : Rat
  im : Rat
  deriving DecidableEq, Repr

/-- Zero. -/
def Phasor.zero : Phasor := ⟨0, 0⟩
/-- Sum. -/
def Phasor.add (a b : Phasor) : Phasor := ⟨a.re + b.re, a.im + b.im⟩
/-- Difference. -/
def Phasor.sub (a b : Phasor) : Phasor := ⟨a.re - b.re, a.im - b.im⟩
/-- Product. -/
def Phasor.mul (a b : Phasor) : Phasor := ⟨a.re * b.re - a.im * b.im, a.re * b.im + a.im * b.re⟩
/-- Product with a number. -/
def Phasor.scale (k : Rat) (a : Phasor) : Phasor := ⟨k * a.re, k * a.im⟩
/-- Conjugate. -/
def Phasor.conj (a : Phasor) : Phasor := ⟨a.re, -a.im⟩
/-- The square of the magnitude. -/
def Phasor.sq (a : Phasor) : Rat := a.re * a.re + a.im * a.im
/-- Quotient. -/
def Phasor.div (a b : Phasor) : Phasor := Phasor.scale (1 / b.sq) (a.mul b.conj)
/-- Magnitude. -/
def Phasor.mag (a : Phasor) : Rat := Config.sqrt a.sq
/-- Magnitude and angle in degrees as a complex number. -/
def polar (mag deg : Rat) : Phasor := ⟨mag * Config.cosTurn (deg / 360), mag * Config.sinTurn (deg / 360)⟩
/-- An angle in degrees brought into (−180, +180] (R153). -/
def wrapDeg (x : Rat) : Rat := x + 360 * ((180 - x) / 360).floor
/-- The angle in degrees. -/
def Phasor.angle (a : Phasor) : Rat := wrapDeg (Config.atan2 a.im a.re)

/-! ### Windows (R152, R164) -/

/-- The points of a window of `n` samples, newest first: how many samples back each stands, its weight, and its value. A position that
holds no sample counts as 0 (R164). The fractional end is a point of its own, interpolated between the two samples on either side of it
(log 9). -/
def winPoints (vals : List (BitVec 32)) (n : Rat) : List (Rat × Rat × Rat) :=
  let f := n.floor.toNat
  let x := fun (k : Nat) => f32Rat (nthD vals k 0)
  let frac := n - f
  let whole := (List.range f).map fun (k : Nat) => ((k : Rat), (1 : Rat), x k)
  if frac = 0 then whole else whole ++ [(n - 1, frac, x (f - 1) + frac * (x f - x (f - 1)))]

/-- The mean of a function of the values of a window. -/
def winMean (vals : List (BitVec 32)) (n : Rat) (f : Rat → Rat) : Rat := (((winPoints vals n).map fun p => p.2.1 * f p.2.2).sum) / n

/-- The mean product of two windows. -/
def winProduct (v i : List (BitVec 32)) (n : Rat) : Rat :=
  (((winPoints v n).zip (winPoints i n)).map fun p => p.1.2.1 * (p.1.2.2 * p.2.2.2)).sum / n

/-- The root mean square of a window. -/
def winRms (vals : List (BitVec 32)) (n : Rat) : Rat := Config.sqrt (winMean vals n fun x => x * x)

/-- The largest absolute value of a window, as binary32. -/
def winPeak (vals : List (BitVec 32)) (n : Nat) : BitVec 32 :=
  ((vals.take n).map f32Abs).foldl (fun a b => if f32Scaled a < f32Scaled b then b else a) 0

/-- The Fourier coefficient of a window at `h` times a frequency of `turns` cycles a sample, scaled to RMS, as of the newest sample. -/
def fourier (vals : List (BitVec 32)) (n turns : Rat) (h : Nat) : Phasor :=
  let term := fun (p : Rat × Rat × Rat) =>
    let a := h * turns * p.1
    Phasor.scale (p.2.1 * p.2.2) ⟨Config.cosTurn a, Config.sinTurn a⟩
  Phasor.scale (Config.sqrt 2 / n) (((winPoints vals n).map term).foldl Phasor.add Phasor.zero)

/-! ### Three phases (R152–R154) -/

/-- The operator a of a rotation: 1∠120° for ABC, 1∠−120° for ACB. -/
def rotor (acb : Bool) : Phasor := ⟨-1 / 2, (if acb then -1 else 1) * Config.sqrt 3 / 2⟩

/-- The sequence components of three phasors: positive, negative and zero. -/
def sequence (acb : Bool) (x : List Phasor) : Phasor × Phasor × Phasor :=
  let a := rotor acb
  let a2 := a.mul a
  let p := fun k => nthD x k Phasor.zero
  let third := fun (y z : Phasor) => Phasor.scale (1 / 3) ((p 0).add (y.add z))
  (third (a.mul (p 1)) (a2.mul (p 2)), third (a2.mul (p 1)) (a.mul (p 2)), third (p 1) (p 2))

/-- The apparent power of each phase. -/
def phasePower (v i : List Phasor) : List Phasor := (v.zip i).map fun e => e.1.mul e.2.conj

/-- The loops of an impedance item: voltage and current term of AG, BG, CG, AB, BC and CA. -/
def loopTerms (k0 : Phasor) (v i : List Phasor) : List (Phasor × Phasor) :=
  let at_ := fun (l : List Phasor) k => nthD l k Phasor.zero
  let i0 := (i.foldl Phasor.add Phasor.zero)
  let earth := [0, 1, 2].map fun k => (at_ v k, (at_ i k).add (k0.mul i0))
  earth ++ [(0, 1), (1, 2), (2, 0)].map fun e => ((at_ v e.1).sub (at_ v e.2), (at_ i e.1).sub (at_ i e.2))

/-! ### Frequency (R155, R158) -/

/-- The frequency in Hz of a positive-sequence phasor whose angle, against a cosine at the nominal frequency, moved by some degrees in some
seconds. -/
def frequencyOf (fNom now before span : Rat) : Rat := fNom + wrapDeg (now - before) / (360 * span)

/-- The mean of the newest `n` frequencies in µHz; those before the first are the nominal one. -/
def meanFreq (hist : List Nat) (n nom : Nat) : Rat := (((List.range n).map fun k => (nthD hist k nom : Rat)).sum) / n

/-- ROCOF in Hz/s from the frequencies per tick in µHz, newest first (R158): `n` ticks are a nominal cycle, `w` the window, and the result
saturates at ±50 Hz/s. -/
def rocofOf (hist : List Nat) (n w rate nom : Nat) : Rat :=
  let r := (meanFreq hist n nom - meanFreq (hist.drop w) n nom) / 1000000 * rate / w
  if r < -50 then -50 else if 50 < r then 50 else r

end Sys2Proof.Machine
end

