-- ==== Sys2Proof/Machine/Msr.lean ====
section
/-! DEFINITION. The measurand engine (R150–R172): windows, temperature correction, trackers, items and blocks. -/

namespace Sys2Proof.Machine

/-! ### Settings of a tick -/

/-- The settings in force for a tick number (R148, R171). -/
def genOf (m : Mach) (n : Nat) : Gen := (m.svi.gens.find? fun g => g.first ≤ n).getD { first := 0, force := [], bulk := [] }

/-- A field of a generation's settings. -/
def Gen.cfg (g : Gen) (f : Fd) (idx : Nat := 0) : Nat :=
  bits ((kget (regKey f.page f.off idx) g.force).getD (resetWord f.page f.off idx)).toNat f.hi f.lo

/-- A one-bit field of a generation's settings. -/
def Gen.on (g : Gen) (f : Fd) (idx : Nat := 0) : Bool := g.cfg f idx == 1

/-- A big-endian word of a generation's bulk object. -/
def Gen.bulkWord (g : Gen) (page obj pos : Nat) : Nat := natBE (memRead (bulkKey page obj pos) 4 g.bulk)

/-- The instances of a register, among listed keys, whose field is 1: what is enabled. -/
def enabledIn (force : KMap Word) (f : Fd) : List Nat :=
  force.filterMap fun e =>
    if e.1 % (256 * 4096) = f.page * 4096 + f.off ∧ bits e.2.toNat f.hi f.lo = 1 then some (e.1 / (256 * 4096)) else none

/-- Samples per second for a rate code (R117). -/
def rateHz (code : Nat) : Nat :=
  match code with | 0 => 4000 | 1 => 4800 | 2 => 12800 | 3 => 14400 | _ => 15360

/-- The tick rate of a generation. -/
def Gen.rate (g : Gen) : Nat := rateHz (g.cfg SVI_TICK_rate)

/-- The nominal frequency in Hz. -/
def Gen.fNom (g : Gen) : Nat := if g.on MSR_CFG_f_nom then 60 else 50

/-- Samples in a full cycle at a frequency in µHz, the fractional end counted as one more (R152). -/
def cycleLen (rate fu : Nat) : Nat := if fu = 0 then 0 else ceilDiv (rate * 1000000) fu

/-! ### State of channels and trackers -/

/-- The window of an MSR channel. -/
def msrWin (m : Mach) (ch : Nat) : Window := (kget ch m.msr.windows).getD {}

/-- A tracker. -/
def msrTrk (m : Mach) (t : Nat) : Tracker := (kget t m.msr.trackers).getD {}

/-- f_u of a tracker in µHz as the windows of this tick follow it: what the tick before gave, or the nominal frequency before it has
run. -/
def fuOf (m : Mach) (g : Gen) (t : Nat) : Nat := if (msrTrk m t).used = 0 then g.fNom * 1000000 else (msrTrk m t).used

/-- The MSR block changed. -/
def Mach.onMsr (m : Mach) (f : Msr → Msr) : Mach := { m with msr := f m.msr }

/-- A window stored. -/
def Mach.setWin (m : Mach) (ch : Nat) (w : Window) : Mach := m.onMsr fun b => { b with windows := kput ch w b.windows }

/-- A tracker stored. -/
def Mach.setTrk (m : Mach) (t : Nat) (k : Tracker) : Mach := m.onMsr fun b => { b with trackers := kput t k b.trackers }

/-- Counters of MSR. -/
def MSR_TICKS : Fd := MSR_CNT_n
/-- Tick sets over 55 µs. -/
def MSR_OVERRUN : Fd := MSR_CNT_n.nth 1
/-- Clamps under R155 and R159. -/
def MSR_CLAMP : Fd := MSR_CNT_n.nth 2
/-- Tracker state changes. -/
def MSR_TRK_CHG : Fd := MSR_CNT_n.nth 3
/-- Temperature source state changes. -/
def MSR_TS_CHG : Fd := MSR_CNT_n.nth 4

/-- The alignment group an MSR channel belongs to: that of its subscription. -/
def chGroup (g : Gen) (ch : Nat) : Nat := g.cfg SVI_SUB_CTRL_group (g.cfg MSR_CH_CFG_sub ch)

/-- The sample of an MSR channel in a tick: missing where the tick does not carry the stream (R128). -/
def chanOf (tk : Tick) (g : Gen) (ch : Nat) : Chan :=
  let missing : Chan := { val := 0, qual := 0x0081#16 }
  match kget (g.cfg MSR_CH_CFG_sub ch) tk.chans with
  | some cs => nthD cs (g.cfg MSR_CH_CFG_ch ch) missing
  | none => missing

/-! ### Temperature sources (R160) -/

/-- A temperature source enters a state: counted, with its event. -/
def Mach.tsEnter (m : Mach) (ts st : Nat) : Mach :=
  if m.fld MSR_TS_STS_state ts = st then m else
    let m := (m.setFld MSR_TS_STS_state ts st).count MSR_TS_CHG
    if st = 1 then m.event 0x0B 2 (.item ts) else if st = 2 then m.event 0x0B 3 (.item ts) else m

/-- The temperature in use shown, from 0.01 °C to 0.1 °C, rounded down (log 10). -/
def Mach.tsShow (m : Mach) (ts : Nat) (centi : Int) : Mach :=
  (m.setFld MSR_TS_STS_temp ts (toWidth 16 (centi / 10))).onMsr fun b => { b with tsLast := kput ts centi b.tsLast }

/-- The temperature in use of a source, in 0.01 °C. -/
def tsTemp (m : Mach) (ts : Nat) : Int := (kget ts m.msr.tsLast).getD (asSigned 16 (m.fld MSR_TS_STS_temp ts) * 10)

/-- The timebase instant of a station time. -/
def Mach.instantOf (m : Mach) (station : Int) : Nat := (station - m.time.epoch).toNat

/-- One live source at tick 0 of a station second: a good value inside −60 to +150 °C keeps or makes it Live; else a
Live source enters Holding, whose time counts from the tick (R151, R160). -/
def Mach.tsUpdate (m : Mach) (g : Gen) (tk : Tick) (ts : Nat) : Mach :=
  let ch := g.cfg MSR_TS_CFG_ch ts
  if g.on MSR_TS_CFG_en ts && g.on MSR_TS_CFG_live ts && chGroup g ch == tk.group then
    let c := chanOf tk g ch
    if validity c.qual == 0 && decide (-6000 ≤ c.val) && decide (c.val ≤ 15000) then
      ((m.tsEnter ts 0).disarm (.tempSource ts)).tsShow ts c.val
    else if m.fld MSR_TS_STS_state ts = 0 then
      let hold := tk.nominal + g.cfg MSR_TS_CFG_hold ts * 1000000000
      ((m.tsEnter ts 1).onMsr fun b => { b with tsHold := kput ts (hold, false) b.tsHold }).arm (.tempSource ts) (m.instantOf hold)
    else m
  else m

/-- A temperature source whose hold has passed by a tick of its channel's group enters Fixed, with MSR_TS_FIXED (R160). -/
def Mach.tsHoldEnd (m : Mach) (g : Gen) (tk : Tick) (ts : Nat) : Mach :=
  match kget ts m.msr.tsHold with
  | some (at_, true) =>
    if m.fld MSR_TS_STS_state ts = 1 ∧ chGroup g (g.cfg MSR_TS_CFG_ch ts) = tk.group ∧ at_ ≤ tk.nominal then
      (m.tsEnter ts 2).tsShow ts (asSigned 16 (g.cfg MSR_TS_FIXED_temp ts) * 10)
    else m
  | _ => m

/-! ### Channels (R152, R159, R164) -/

/-- A correction table at a temperature (R159): gain error and phase error as fractions of ΔT, and whether the index was
clamped. -/
def tableAt (g : Gen) (table : Nat) (temp : Int) : Int × Int × Nat × Bool :=
  let w0 := g.bulkWord 0x0B 0 (144 * table)
  let t0 := asSigned 16 (bits w0 31 16) * 10
  let dt := bits w0 15 0
  if dt = 0 then (0, 0, 1, false) else
    let d := temp - t0
    let top : Int := 32 * dt
    let x := max 0 (min top d)
    let i := (x / dt).toNat
    let r := x % dt
    let pt := fun k => g.bulkWord 0x0B 0 (144 * table + 12 + 4 * k)
    let gain := fun k => asSigned 16 (bits (pt k) 31 16)
    let phi := fun k => asSigned 16 (bits (pt k) 15 0)
    let j := min 32 (i + 1)
    (gain i * dt + r * (gain j - gain i), phi i * dt + r * (phi j - phi i), dt, decide (d < 0 ∨ top < d))

/-- The corrected instantaneous value of a count: its scaling times the gain, whose error is a fraction of 10⁻⁶ (R117, R159). -/
def correctedVal (kind : Nat) (count gain : Int) (den : Nat) : BitVec 32 :=
  let scaled : Rat := mkRat count (if kind = 0 then 1000 else 100)
  Config.binary32 0x00 (scaled * (1 + mkRat gain (den * 1000000)))

/-- The samples that windows keep: the longest window and a nominal cycle before it. -/
def keepLen (g : Gen) : Nat := cycleLen g.rate (g.fNom * 800000) + cycleLen g.rate (g.fNom * 1000000) + 2

/-- One channel at one tick: the corrected value enters its window. -/
def Mach.chanTick (m : Mach) (g : Gen) (tk : Tick) (ch : Nat) : Mach :=
  let c := chanOf tk g ch
  let kind := g.cfg MSR_CH_CFG_kind ch
  let w := msrWin m ch
  let ts := g.cfg MSR_CH_CORR_ts ch
  if g.on MSR_CH_CORR_tc_en ch && kind != 2 then
    let (gn, pn, dt, clamped) := tableAt g (g.cfg MSR_CH_CORR_table ch) (tsTemp m ts)
    let st := m.fld MSR_TS_STS_state ts
    let tcq := if st = 1 then 1 else if st = 2 ∧ g.on MSR_TS_CFG_live ts then 2 else 0
    let m := if clamped then (m.count MSR_CLAMP).event 0x0B 4 (.item ch) else m
    m.setWin ch {
      vals := ((correctedVal kind c.val gn dt, c.qual) :: w.vals).take (keepLen g), since := w.since + 1,
      phi := pn, phiDen := dt, tcq := tcq }
  else
    m.setWin ch {
      vals := ((correctedVal kind c.val 0 1, c.qual) :: w.vals).take (keepLen g), since := w.since + 1,
      phi := 0, phiDen := 1, tcq := 0 }

/-! ### Windows -/

/-- The length of a channel's window in samples: full cycle, or half when MSR_CH_CFG.half. -/
def winSpan (m : Mach) (g : Gen) (ch : Nat) (full : Bool) : Rat :=
  let n : Rat := mkRat (g.rate * 1000000 : Nat) (fuOf m g (g.cfg MSR_CH_CFG_tracker ch))
  if g.on MSR_CH_CFG_half ch && !full then n / 2 else n

/-- The samples that a channel's window touches. -/
def winLen (m : Mach) (g : Gen) (ch : Nat) (full : Bool) : Nat :=
  let n := cycleLen g.rate (fuOf m g (g.cfg MSR_CH_CFG_tracker ch))
  if g.on MSR_CH_CFG_half ch && !full then (n + 1) / 2 else n

/-- A channel's corrected values from `back` ticks ago on, newest first. -/
def winVals (m : Mach) (ch back : Nat) : List (BitVec 32) := ((msrWin m ch).vals.map (·.1)).drop back

/-- The part of a station second that has passed at a tick, `back` ticks before it. -/
def secondPart (m : Mach) (g : Gen) (tk : Tick) (back : Nat) : Rat :=
  match gridOf m tk.tick with
  | some gr => mkRat ((gr.at_ tk.tick - back) % gr.rate) gr.rate
  | none => mkRat (tk.nominal % 1000000000) 1000000000 - mkRat back g.rate

/-- The phasor of a channel over a window, as of `back` ticks ago: the Fourier coefficient at f_u, its phase corrected, referred to the
cosine at f_nom that peaks at the station second (R152, R153, R159). -/
def phasorOf (m : Mach) (g : Gen) (tk : Tick) (ch : Nat) (full : Bool) (back : Nat) : Phasor :=
  let fu := fuOf m g (g.cfg MSR_CH_CFG_tracker ch)
  let w := msrWin m ch
  let turn := polar 1 (mkRat w.phi (w.phiDen * 1000) - 360 * g.fNom * secondPart m g tk back)
  turn.mul (fourier (winVals m ch back) (winSpan m g ch full) (mkRat fu (g.rate * 1000000)) 1)

/-- The carried quality of a channel's newest `n` samples, and `more` before them, with mprime where the `n` have not filled and
tc_fallback (R162, R164). -/
def winQual (m : Mach) (ch n : Nat) (more : Nat := 0) : BitVec 16 :=
  let w := msrWin m ch
  let q := joinAll ((w.vals.map (·.2)).take (n + more))
  let q := if w.since < n then degrade q 3 0x1000#16 else q
  if w.tcq = 0 then q else degrade q (if w.tcq = 2 then 3 else 0) 0x4000#16

/-- Is a magnitude below 0.1 % of a channel's rated value? (R153, R154) -/
def belowRated (g : Gen) (x : Phasor) (ch : Nat) : Bool :=
  decide (x.sq * 1000000 < (g.cfg MSR_CH_RATED_rated ch * g.cfg MSR_CH_RATED_rated ch : Nat))

/-- The three channels of a phase group. -/
def grpChans (g : Gen) (grp : Nat) : List Nat :=
  [g.cfg MSR_GRP_CH_AB_a grp, g.cfg MSR_GRP_CH_AB_b grp, g.cfg MSR_GRP_CH_C_c grp]

/-- A group uses half-cycle windows only when all three channels do (R154). -/
def grpHalf (g : Gen) (grp : Nat) : Bool := (grpChans g grp).all fun ch => g.on MSR_CH_CFG_half ch

/-- The window length of a group's primitives. -/
def grpLen (m : Mach) (g : Gen) (grp : Nat) : Nat :=
  winLen m g (g.cfg MSR_GRP_CH_AB_a grp) (!grpHalf g grp)

/-- The phasors of a group, over the windows its own rule gives it. -/
def grpPhasors (m : Mach) (g : Gen) (tk : Tick) (grp back : Nat) : List Phasor :=
  (grpChans g grp).map fun ch => phasorOf m g tk ch (!grpHalf g grp) back

/-- The sequence components of a group. -/
def grpSequence (m : Mach) (g : Gen) (tk : Tick) (grp back : Nat) : Phasor × Phasor × Phasor :=
  sequence (g.on MSR_GRP_CFG_rot grp) (grpPhasors m g tk grp back)

/-- The carried quality of a group over `n` samples. -/
def grpQual (m : Mach) (g : Gen) (grp n : Nat) (more : Nat := 0) : BitVec 16 := joinAll ((grpChans g grp).map fun ch => winQual m ch n more)

/-- The tracker of a group: that of its channel A. -/
def grpTracker (g : Gen) (grp : Nat) : Nat := g.cfg MSR_CH_CFG_tracker (g.cfg MSR_GRP_CH_AB_a grp)

/-- Positive infinity. -/
def f32Inf : BitVec 32 := 0x7F800000#32

/-- A magnitude and angle, the angle 0.0 with angle_undef when the magnitude is below 0.1 % of rated (R153). -/
def angled (g : Gen) (code ch : Nat) (x : Phasor) (q : BitVec 16) : List (BitVec 32) × BitVec 16 :=
  let mag := Config.binary32 code x.mag
  if belowRated g x ch then ([mag, 0], q ||| 0x8000#16) else ([mag, Config.binary32 code x.angle], q)

/-- An item of a channel: values and measurand quality (R152, R163, R167). -/
def chanItem (m : Mach) (g : Gen) (tk : Tick) (code ch : Nat) : List (BitVec 32) × BitVec 16 :=
  let full := code == 3 || code == 5 || code == 6
  let n := winLen m g ch full
  let span := winSpan m g ch full
  let vals := winVals m ch 0
  let turns : Rat := mkRat (fuOf m g (g.cfg MSR_CH_CFG_tracker ch)) (g.rate * 1000000)
  match code with
  | 0x00 => ([nthD vals 0 0], winQual m ch 1)
  | 0x01 => ([Config.binary32 code (winRms vals span)], winQual m ch n)
  | 0x02 => angled g code ch (phasorOf m g tk ch false 0) (winQual m ch n)
  | 0x03 => ([Config.binary32 code (winMean vals span id)], winQual m ch n)
  | 0x04 => ([winPeak vals n], winQual m ch n)
  | 0x05 => ([Config.binary32 code (fourier vals span turns 2).mag], winQual m ch n)
  | _ => ([Config.binary32 code (fourier vals span turns 5).mag], winQual m ch n)

/-- The quality of a frequency item (R162, R163): mprime in Nominal, tracking when clamped, in Holding or Fallback. -/
def trackerQual (m : Mach) (t : Nat) : BitVec 16 :=
  let k := msrTrk m t
  let st := m.fld MSR_TRK_STS_state t
  let q := if st = 0 then degrade k.qual 3 0x1000#16 else k.qual
  if k.clamped || st == 3 || st == 4 then degrade q 3 0x2000#16 else q

/-- k0 of a group. -/
def grpK0 (g : Gen) (grp : Nat) : Phasor := polar (mkRat (g.cfg MSR_GRP_K0_mag grp) 1000) (mkRat (asSigned 16 (g.cfg MSR_GRP_K0_ang grp)) 100)

/-- The impedance loops: resistance and reactance; both +infinity with angle_undef where the loop's current term is below 0.1 % of rated
(R154). -/
def loops (g : Gen) (grp : Nat) (terms : List (Phasor × Phasor)) (q : BitVec 16) : List (BitVec 32) × BitVec 16 :=
  terms.foldl (fun acc e =>
    if belowRated g e.2 (g.cfg MSR_GRP_CH_AB_a grp) then (acc.1 ++ [f32Inf, f32Inf], acc.2 ||| 0x8000#16)
    else
      let z := e.1.div e.2
      (acc.1 ++ [Config.binary32 0x17 z.re, Config.binary32 0x17 z.im], acc.2)) ([], q)

/-- The quality of a ROCOF item: of the frequencies of its window and of the averages at both ends; mprime until the tracker has been in
Primary or Backup for the window (R163, R164). -/
def rocofQual (m : Mach) (g : Gen) (t : Nat) : BitVec 16 :=
  let cyc := cycleLen g.rate (g.fNom * 1000000)
  let win := g.cfg MSR_CFG_rocof_win * cyc
  let q := joinQ (trackerQual m t) (joinAll ((msrTrk m t).quals.take (win + cyc)))
  if (msrTrk m t).inLock < win then degrade q 3 0x1000#16 else q

/-- One-cycle power: the mean of the products of the samples over the last full cycle (R152). -/
def cyclePower (m : Mach) (g : Gen) (grp link : Nat) : Rat :=
  let span := winSpan m g (g.cfg MSR_GRP_CH_AB_a grp) true
  (((grpChans g link).zip (grpChans g grp)).map fun e => winProduct (winVals m e.1 0) (winVals m e.2 0) span).sum

/-- An item of a phase group; a linked group's voltages keep their own windows (R154). -/
def grpItem (m : Mach) (g : Gen) (tk : Tick) (code grp : Nat) : List (BitVec 32) × BitVec 16 :=
  let t := grpTracker g grp
  let n := grpLen m g grp
  let link := g.cfg MSR_GRP_CFG_link grp
  let q := grpQual m g grp n
  let qL := joinQ q (grpQual m g link (grpLen m g link))
  let v := grpPhasors m g tk link 0
  let i := grpPhasors m g tk grp 0
  let s := phasePower v i
  let sum := s.foldl Phasor.add Phasor.zero
  let out := fun (l : List Rat) => l.map (Config.binary32 code)
  match code with
  | 0x10 => angled g code (g.cfg MSR_GRP_CH_AB_a grp) (grpSequence m g tk grp 0).1 q
  | 0x11 => angled g code (g.cfg MSR_GRP_CH_AB_a grp) (grpSequence m g tk grp 0).2.1 q
  | 0x12 => angled g code (g.cfg MSR_GRP_CH_AB_a grp) (grpSequence m g tk grp 0).2.2 q
  | 0x13 => (out [mkRat (m.fld MSR_TRK_FREQ_uhz t) 1000000], trackerQual m t)
  | 0x14 =>
    let cyc := cycleLen g.rate (g.fNom * 1000000)
    (out [rocofOf (msrTrk m t).hist cyc (g.cfg MSR_CFG_rocof_win * cyc) g.rate (g.fNom * 1000000)], rocofQual m g t)
  | 0x15 => (out [sum.re, sum.im, sum.mag], qL)
  | 0x16 => (out (s.flatMap fun x => [x.re, x.im]), qL)
  | 0x17 => loops g grp (loopTerms (grpK0 g grp) v i) qL
  | _ =>
    let full := winLen m g (g.cfg MSR_GRP_CH_AB_a grp) true
    (out [cyclePower m g grp link, sum.im], joinQ qL (joinQ (grpQual m g grp full) (grpQual m g link full)))

/-! ### Trackers (R155–R158) -/

/-- Is a source group usable (R155)? Its positive sequence is large enough and not invalid, and its three windows are full. -/
def usable (m : Mach) (g : Gen) (tk : Tick) (trk grp : Nat) : Bool :=
  let x := (grpSequence m g tk grp 0).1
  let least : Nat := g.cfg MSR_TRK_PAR_vmin trk * g.cfg MSR_CH_RATED_rated (g.cfg MSR_GRP_CH_AB_a grp)
  decide ((least * least : Nat) ≤ x.sq * 10000) && validity (grpQual m g grp (grpLen m g grp)) != 1
    && (grpChans g grp).all fun ch => decide (winLen m g ch false ≤ (msrWin m ch).since)

/-- The state a tracker moves to at a tick (R156, R157), from its state, which sources are usable, for how many ticks the primary has been
usable by now, the cycle in ticks, whether the one-cycle rule of R157 holds, whether the tick before was the coincidence of R157, and
whether the hold has passed. -/
def trackerNext (st : Nat) (prim back : Bool) (primRun cycle : Nat) (oneCycle tie gone : Bool) : Nat :=
  match st with
  | 0 => if decide (2 * cycle < primRun) then 1 else 0
  | 1 => if prim then 1 else if back then 2 else 3
  | 2 => if tie then 3 else if prim && decide (cycle < primRun) then 1 else if back then 2 else if prim && primRun == 1 then 2 else 3
  | 3 => if prim && (!oneCycle || decide (cycle < primRun)) then 1 else if back then 2 else if gone then 4 else 3
  | _ => if prim || back then 0 else 4

/-- The frequency in µHz that a source group gives at a tick: from the angles of its positive sequence now and one nominal cycle earlier,
before the clamp; rounded down (R155, log 9). -/
def measuredFreq (m : Mach) (g : Gen) (tk : Tick) (grp : Nat) : Int :=
  let back := g.rate / g.fNom
  let f := frequencyOf g.fNom (grpSequence m g tk grp 0).1.angle (grpSequence m g tk grp back).1.angle (mkRat back g.rate)
  (f * 1000000).floor

/-- One tracker at one tick of its primary's alignment group: the transitions of R156 in order, then what it measures. Times count from
the nominal times of ticks (R151). -/
def Mach.trackerTick (m : Mach) (g : Gen) (tk : Tick) (trk : Nat) : Mach :=
  let k := msrTrk m trk
  let st := m.fld MSR_TRK_STS_state trk
  let primG := g.cfg MSR_TRK_CFG_primary trk
  let backG := g.cfg MSR_TRK_CFG_backup trk
  let prim := usable m g tk trk primG
  let back := g.on MSR_TRK_CFG_backup_en trk && usable m g tk trk backG
  let run := if prim then k.primRun + 1 else 0
  let cyc := cycleLen g.rate (fuOf m g trk)
  let st' := trackerNext st prim back run cyc k.oneCycle k.tie (k.holdOver && decide (k.holdEnd ≤ tk.nominal))
  let tie := decide (st = 2 ∧ st' = 2) && !back && prim
  let nom := g.fNom * 1000000
  let span := cycleLen g.rate nom
  let src := if st' = 2 then backG else primG
  let raw := measuredFreq m g tk src
  let meas : Nat := (max ((nom * 8 / 10 : Nat) : Int) (min ((nom * 12 / 10 : Nat) : Int) raw)).toNat
  let live := (st' = 1 ∨ st' = 2) ∧ tie = false
  let clamped := decide (live ∧ (meas : Int) ≠ raw)
  let fu := if live then meas else if st' = 4 ∨ st' = 0 then nom else if k.fu = 0 then nom else k.fu
  let q := grpQual m g src (grpLen m g src) span &&& 0x7FFF#16
  let holdEnd := if st' = 3 ∧ st ≠ 3 then tk.nominal + g.cfg MSR_TRK_PAR_hold trk * 1000000 else k.holdEnd
  let m := m.setTrk trk {
    fu := fu, used := k.used, primRun := run, hist := (fu :: k.hist).take (51 * span), quals := (q :: k.quals).take (51 * span)
    inLock := if live then k.inLock + 1 else 0, clamped := clamped, tie := tie
    oneCycle := if st' = 3 then (if st = 3 then k.oneCycle else k.tie) else false
    holdEnd := holdEnd, holdOver := decide (st' = 3 ∧ st = 3) && k.holdOver, qual := q }
  let m := m.setFld MSR_TRK_FREQ_uhz trk fu
  let roc := rocofOf (msrTrk m trk).hist span (g.cfg MSR_CFG_rocof_win * span) g.rate nom
  let m := m.setFld MSR_TRK_ROCOF_v trk (toWidth 32 (roc * 1000).floor)
  let m := if clamped then (m.count MSR_CLAMP).event 0x0B 1 (.item trk) else m
  if st' = st then m else
    let m := ((m.setFld MSR_TRK_STS_state trk st').count MSR_TRK_CHG).event 0x0B 0 (.item trk)
    if st' = 3 then m.arm (.tracker trk) (m.instantOf holdEnd) else m.disarm (.tracker trk)

/-- MSR_TRK_PAR.hold elapses in Holding: the tracker enters Fallback with the first tick at or after that time (R151, R156). -/
def Mach.trackerFallback (m : Mach) (trk : Nat) : Mach :=
  if m.fld MSR_TRK_STS_state trk = 3 then m.setTrk trk { msrTrk m trk with holdOver := true } else m

/-- MSR_TS_CFG.hold elapses in Holding: the source enters Fixed with the first tick at or after that time (R151, R160). -/
def Mach.tempFallback (m : Mach) (ts : Nat) : Mach :=
  if m.fld MSR_TS_STS_state ts = 1 then
    m.onMsr fun b => { b with tsHold := match kget ts b.tsHold with | some (at_, _) => kput ts (at_, true) b.tsHold | none => b.tsHold }
  else m

/-! ### Blocks (R165, R166) -/

/-- One item of a block: header word and values. -/
def itemBytes (code : Nat) (vs : List (BitVec 32)) (q : BitVec 16) : List Byte :=
  bytesBE 4 (code * 2 ^ 24 + vs.length * 2 ^ 16 + q.toNat) ++ vs.flatMap fun v => bytesBE 4 v.toNat

/-- The measurand block of a slot for a tick, when its selection has en = 1 and names the tick's group. -/
def blockFor (m : Mach) (g : Gen) (tk : Tick) (slot : Nat) : Option Block :=
  let w0 := g.bulkWord 0x0B 1 (256 * slot)
  if bit w0 31 && bits w0 21 16 == tk.group then
    let n := bits w0 5 0
    let items := (List.range n).map fun i =>
      let sel := g.bulkWord 0x0B 1 (256 * slot + 4 + 4 * i)
      let code := bits sel 7 0
      let r := if bit sel 31 then grpItem m g tk code (bits sel 29 16) else chanItem m g tk code (bits sel 29 16)
      (code, r.1, r.2)
    let summary := joinAll (items.map fun i => i.2.2)
    some {
      slot := slot, tick := tk.pair, summary := summary,
      bytes := bytesBE 8 tk.pair ++ bytesBE 8 (toWidth 64 tk.nominal) ++ bytesBE 4 (tagOf tk.closedAt).toNat
        ++ bytesBE 1 tk.group ++ bytesBE 1 n ++ bytesBE 2 summary.toNat
        ++ items.flatMap fun i => itemBytes i.1 i.2.1 i.2.2 }
  else none

/-- The slots whose selection has en = 1, among those the bulk object lists. -/
def selections (g : Gen) : List Nat :=
  let base := bulkKey 0x0B 1 0
  g.bulk.filterMap fun c =>
    if base ≤ c.1 ∧ c.1 < base + 2 ^ 20 ∧ (c.1 - base) % 256 = 0 ∧ c.2.getLsbD 7 = true then some ((c.1 - base) / 256) else none

/-! ### A tick, and the change of settings before it -/

/-- Does a register of page 0x0B differ between two settings? -/
def changed (old new : Gen) (off i : Nat) : Bool := (kget (regKey 0x0B off i) old.force) != (kget (regKey 0x0B off i) new.force)

/-- The group whose ticks a tracker measures: that of its primary. -/
def trackerGroup (g : Gen) (t : Nat) : Nat := chGroup g (g.cfg MSR_GRP_CH_AB_a (g.cfg MSR_TRK_CFG_primary t))

/-- What a change of settings brings at the first tick of an alignment group under it (R171): the group's channels and trackers whose
configuration changed restart, all of them when the tick rate changed; changed temperature sources enter Live, or Fixed with live = 0
(R160). A source without a channel changes with the first group that gets there (log 104). -/
def Mach.msrRestart (m : Mach) (old new : Gen) (grp : Nat) : Mach :=
  let rate := old.rate != new.rate
  let chs := (enabledIn new.force MSR_CH_CFG_en).filter fun c => chGroup new c == grp && (rate || changed old new 0x084 c)
  let trks := (List.range 16).filter fun t =>
    trackerGroup new t == grp && (rate || changed old new 0x064 t || changed old new 0x068 t)
  let srcs := (List.range 64).filter fun ts =>
    (changed old new 0x0C4 ts || changed old new 0x0C8 ts)
      && (!new.on MSR_TS_CFG_live ts || chGroup new (new.cfg MSR_TS_CFG_ch ts) == grp)
  let m := m.each chs fun c m => m.setWin c {}
  let m := m.each srcs fun ts m =>
    let m := m.disarm (.tempSource ts)
    if !new.on MSR_TS_CFG_en ts then m
    else if new.on MSR_TS_CFG_live ts then m.tsEnter ts 0
    else (m.tsEnter ts 2).tsShow ts (asSigned 16 (new.cfg MSR_TS_FIXED_temp ts) * 10)
  m.each trks fun t m =>
    let m := (m.setTrk t {}).disarm (.tracker t)
    if m.fld MSR_TRK_STS_state t = 0 then m
    else ((m.setFld MSR_TRK_STS_state t 0).count MSR_TRK_CHG).event 0x0B 0 (.item t)

/-- MSR_CH_STS after a tick. -/
def Mach.chanStatus (m : Mach) (g : Gen) (tk : Tick) (ch : Nat) : Mach :=
  let full := decide (winLen m g ch false ≤ (msrWin m ch).since)
  let q := if g.cfg MSR_CH_CFG_kind ch = 2 then winQual m ch 1 else (chanItem m g tk 2 ch).2
  (m.setFlag MSR_CH_STS_full ch full).setFld MSR_CH_STS_quality ch q.toNat

/-- The settings of a tick take effect for its group, and f_u of the tick before is in use from now on (R155, R171). -/
def Mach.beginTick (m : Mach) (tk : Tick) : Mach :=
  let g := genOf m tk.tick
  let old := genOf m ((kget tk.group m.msr.lastFirst).getD 0)
  let m := if g.first = old.first then m else m.msrRestart old g tk.group
  m.onMsr fun b => { b with
    lastFirst := kput tk.group g.first b.lastFirst
    trackers := b.trackers.map fun e => (e.1, { e.2 with used := e.2.fu }) }

/-- One tick of a set (steps 2–4 of R168): windows, trackers, then group quantities, blocks, powers and taps, added to what the set
hands over. The windows of the tick follow f_u as the tick before left it. -/
def Mach.msrTick (m : Mach) (tk : Tick) (out : SetOut) : Mach × SetOut :=
  let g := genOf m tk.tick
  let m := m.beginTick tk
  let m := if tk.nominal % 1000000000 = 0 then m.each (List.range 64) fun ts m => m.tsUpdate g tk ts else m
  let m := m.each (List.range 64) fun ts m => m.tsHoldEnd g tk ts
  let chs := (enabledIn g.force MSR_CH_CFG_en).filter fun c => chGroup g c == tk.group
  let m := m.each chs fun c m => m.chanTick g tk c
  let m := m.each chs fun c m => m.chanStatus g tk c
  let m := m.each (enabledIn g.force MSR_TRK_CFG_en) fun t m => if trackerGroup g t = tk.group then m.trackerTick g tk t else m
  let grps := (enabledIn g.force MSR_GRP_CFG_en).filter fun p =>
    g.on MSR_GRP_CFG_link_en p && chGroup g (g.cfg MSR_GRP_CH_AB_a p) == tk.group
  let out := { out with
    ticks := out.ticks ++ [tk]
    blocks := out.blocks ++ (selections g).filterMap (blockFor m g tk)
    power := out.power ++ grps.map (fun p =>
      let (vs, q) := grpItem m g tk 0x18 p
      { tick := tk.pair, group := p, p := nthD vs 0 0, q := nthD vs 1 0, qual := q })
    taps := out.taps ++ chs.map (fun c =>
      let (i, q) := chanItem m g tk 0 c
      let (r, rq) := chanItem m g tk 1 c
      { tick := tk.pair, ch := c, inst := nthD i 0 0, rms := nthD r 0 0, qual := q, rmsQ := rq }) }
  (m.count MSR_TICKS, out)

/-! ### Taking and finishing a set (R168, R170) -/

/-- Ticks that wait in MSR's queue. -/
def backlog (m : Mach) : Nat := (m.msr.queue.map fun s => s.ticks.length).sum

/-- MSR_BACKLOG shown. -/
def Mach.showBacklog (m : Mach) : Mach :=
  let n := min 256 (backlog m)
  (m.setFld MSR_BACKLOG_now 0 n).raise MSR_BACKLOG_max 0 n

/-- A tick set leaves equalisation and joins MSR's queue; one that waits behind another sets event bit [6] (R170). -/
def Mach.toMsr (m : Mach) (s : TickSet) : Mach :=
  if s.ticks.isEmpty then m else
    let wait := m.msr.busy.isSome || !m.msr.queue.isEmpty
    let m := (m.onMsr fun b => { b with queue := b.queue ++ [s] }).showBacklog
    if wait then m.event 0x0B 6 else m

/-- MSR takes the oldest waiting tick set, unless it is busy (R150, R168 step 1). -/
def Mach.msrTake (m : Mach) : Mach :=
  match m.msr.busy, m.msr.queue with
  | none, s :: rest =>
    let m := (m.onMsr fun b => { b with queue := rest }).showBacklog
    let (m, out) := s.ticks.foldl (fun acc tk => acc.1.msrTick tk acc.2) (m, { ticks := [], events := s.events, blocks := [], power := [], taps := [] })
    m.onMsr fun b => { b with busy := some out, takenAt := m.now }
  | _, _ => m

/-- MSR finishes its set: how long it took is kept, and a set over 55 µs is counted (R168, R170). The result is what
it hands over. -/
def Mach.msrFinish (m : Mach) : Mach × Option SetOut :=
  match m.msr.busy with
  | none => (m, none)
  | some out =>
    let dt := m.now - m.msr.takenAt
    let m := (m.onMsr fun b => { b with busy := none }).raise MSR_MAXTIME_t 0 (min 65535 (ceilDiv dt 10))
    let m := if dt > 55000 then (m.count MSR_OVERRUN).event 0x0B 5 else m
    (m, some out)

/-- MSR_CLR.clr: the extremes are cleared (R170). -/
def Mach.msrClear (m : Mach) : Mach := (m.setFld MSR_MAXTIME_t 0 0).setFld MSR_BACKLOG_max 0 0

end Sys2Proof.Machine
end

