-- ==== Sys2Proof/Machine/Cells.lean ====
section
/-! DEFINITION. The fabric of the switch core cell by cell (R326, R327, R329, R333): the two-stage cyclic pattern of
Randing with its intermediate buffers and resequencing, and the request–grant–accept scheduler of Pairing. -/

namespace Sys2Proof.Machine

/-- An output of a frame that has received the frame's last cell: the frame's place in its batch, and the output. -/
abbrev Landed := Nat × Nat

/-- The key of an input and an output in the fabric's tables. -/
def pairKey (i o : Nat) : Nat := 24 * i + o

/-- Has every cell reached its outputs? -/
def Fab.empty (f : Fab) : Bool := f.inputs.isEmpty && f.buffers.isEmpty && f.held.isEmpty

/-! ### Randing (R326, R327) -/

/-- The copy an intermediate buffer sends to an output: the head of its deadline FIFO, else the head of the other. -/
def headCopy (l : List (Nat × CellCopy)) (j o : Nat) : Option (Nat × CellCopy) :=
  let mine := l.filter fun e => e.1 = j && e.2.out = o
  (mine.find? fun e => e.2.cell.deadline).orElse fun _ => mine.head?

/-- Stage 2 connects intermediate j to output (j + t) mod 24. -/
def Fab.stage2 (f : Fab) (j : Nat) : Fab :=
  match headCopy f.buffers j ((j + f.turn) % 24) with
  | some e => { f with buffers := f.buffers.erase e, held := f.held ++ [e.2] }
  | none => f

/-- One output's copy of a cell put into an intermediate buffer, with the next number of its input and output. -/
def Fab.place (f : Fab) (j : Nat) (c : Cell) (o : Nat) : Fab :=
  let k := pairKey c.input o
  let n := (kget k f.next).getD 0
  { f with buffers := f.buffers ++ [(j, { cell := c, out := o, seq := n })], next := kput k ((n + 1) % 2 ^ 16) f.next }

/-- Stage 1 connects input i to intermediate (i + t) mod 24: the head cell of the input goes into the FIFO of every output
of its mask (R333). -/
def Fab.stage1 (f : Fab) (i : Nat) : Fab :=
  match f.inputs.find? fun c => c.input = i with
  | some c => c.mask.foldl (fun f o => f.place ((i + f.turn) % 24) c o) { f with inputs := f.inputs.erase c }
  | none => f

/-- The outputs write the copies they hold, strictly in sequence, with fuel. -/
def Fab.writeOut : Nat → Fab → List Landed → Fab × List Landed
  | 0, f, d => (f, d)
  | k + 1, f, d =>
    match f.held.find? fun e => e.seq = (kget (pairKey e.cell.input e.out) f.want).getD 0 with
    | some e =>
      Fab.writeOut k { f with
        held := f.held.erase e
        want := kput (pairKey e.cell.input e.out) ((e.seq + 1) % 2 ^ 16) f.want }
        (if e.cell.tail then d ++ [(e.cell.frame, e.out)] else d)
    | none => (f, d)

/-- A cell time of Randing. A cell spends at least one cell time in its intermediate buffer. -/
def Fab.randTime (f : Fab) : Fab × List Landed :=
  let f := (List.range 24).foldl Fab.stage2 f
  let f := (List.range 24).foldl Fab.stage1 f
  Fab.writeOut f.held.length { f with turn := (f.turn + 1) % 24 } []

/-! ### Pairing (R329, R333) -/

/-- The heads of the virtual queues: for each input and output, the first cell that still has the output to serve and
that no earlier cell with a residue blocks. -/
def voqHeads : List Cell → List (Nat × Nat) → List (Nat × Cell)
  | [], _ => []
  | c :: r, blocked =>
    ((c.left.filter fun o => !blocked.contains (c.input, o)).map fun o => (o, c))
      ++ voqHeads r (c.mask.map (fun o => (c.input, o)) ++ blocked)

/-- The element of a list that comes first in cyclic order from a pointer. -/
def firstFrom {α : Type} (ptr : Nat) (port : α → Nat) : List α → Option α
  | [] => none
  | a :: r =>
    match firstFrom ptr port r with
    | some b => if (port b + 24 - ptr) % 24 < (port a + 24 - ptr) % 24 then some b else some a
    | none => some a

/-- The grant of an output: a deadline request before any other, from its grant pointer. -/
def Fab.grantOf (f : Fab) (reqs : List (Nat × Cell)) (o : Nat) : Option (Nat × Cell) :=
  let mine := reqs.filter fun r => r.1 = o
  let first := mine.filter fun r => r.2.deadline
  firstFrom ((kget o f.grant).getD 0) (fun r => r.2.input) (if first.isEmpty then mine else first)

/-- What an input accepts: the first grant from its accept pointer, and with it every other output that granted the same
cell. -/
def Fab.acceptOf (f : Fab) (grants : List (Nat × Cell)) (i : Nat) : List (Nat × Cell) :=
  let mine := grants.filter fun g => g.2.input = i
  match firstFrom ((kget i f.accept).getD 0) (fun g => g.1) mine with
  | some g => g :: mine.filter fun h => h.2.no = g.2.no && h.1 != g.1
  | none => []

/-- The pointers after an accepted grant of the first iteration: one past the partner served. -/
def Fab.movePointers (f : Fab) (acc : List (Nat × Cell)) : Fab :=
  match acc with
  | [] => f
  | g :: _ =>
    { f with
      grant := acc.foldl (fun t h => kput h.1 ((h.2.input + 1) % 24) t) f.grant
      accept := kput g.2.input ((g.1 + 1) % 24) f.accept }

/-- One request–grant–accept iteration on the pairs matched so far. -/
def Fab.iteration (f : Fab) (first : Bool) (heads matched : List (Nat × Cell)) : Fab × List (Nat × Cell) :=
  let reqs := heads.filter fun r => matched.all fun k => k.1 != r.1 && (k.2.input != r.2.input || k.2.no == r.2.no)
  let grants := (List.range 24).filterMap (f.grantOf reqs)
  let accepted := (List.range 24).map (f.acceptOf grants)
  (if first then accepted.foldl Fab.movePointers f else f, matched ++ accepted.flatten)

/-- A cell received by the outputs matched with it: its residue. -/
def served (matched : List (Nat × Cell)) (c : Cell) : Cell :=
  { c with left := c.left.filter fun o => !matched.any fun k => k.1 = o && k.2.no = c.no }

/-- A cell time of Pairing: four iterations, then the matched cells cross. -/
def Fab.pairTime (f : Fab) : Fab × List Landed :=
  let heads := voqHeads f.inputs []
  let (f, m1) := f.iteration true heads []
  let (f, m2) := f.iteration false heads m1
  let (f, m3) := f.iteration false heads m2
  let (f, m4) := f.iteration false heads m3
  ({ f with
      inputs := (f.inputs.map (served m4)).filter fun c => !c.left.isEmpty
      turn := (f.turn + 1) % 24 },
    (List.range 24).flatMap fun o => (m4.filter fun k => k.1 = o && k.2.tail).map fun k => (k.2.frame, o))

/-! ### Frames across the fabric -/

/-- Cell times until the fabric is empty, with fuel. -/
def runCells (randing : Bool) : Nat → Fab → List Landed → Fab × List Landed
  | 0, f, d => (f, d)
  | k + 1, f, d =>
    if f.empty then (f, d) else
      let r := if randing then f.randTime else f.pairTime
      runCells randing k r.1 (d ++ r.2)

/-- The cells of a frame at its input; every frame has at least one. -/
def Fab.load (f : Fab) (frame input n : Nat) (deadline : Bool) (outs : List Nat) : Fab :=
  let cells := (List.range (max n 1)).map fun k =>
    { no := f.fresh + k, input := input, frame := frame, tail := k + 1 == max n 1, deadline := deadline, mask := outs,
      left := outs : Cell }
  { f with inputs := f.inputs ++ cells, fresh := f.fresh + max n 1 }

/-- A batch of frames taken across the fabric: their outputs in the order in which each receives its last cell. One cell
time serves at least one of the at most 24 copies of a cell in Pairing, and one turn at least one copy in each buffer in
Randing, so the fuel suffices. -/
def Fab.carry (f : Fab) (randing : Bool) : Fab × List Landed := runCells randing (25 * (f.inputs.length + 1)) f []

end Sys2Proof.Machine
end

