-- ==== Sys2Proof/Machine/Cdc.lean ====
section
/-! DEFINITION. Clock-domain crossings (R80–R88): starting a transfer of each kind, and what waits behind it. The end of a transfer
is in Arrive.lean. -/

namespace Sys2Proof.Machine

/-- A crossing. -/
def crossing (m : Mach) (x : Nat) : Crossing := (kget x m.cdc).getD {}

/-- A crossing changed. -/
def Mach.onCrossing (m : Mach) (x : Nat) (f : Crossing → Crossing) : Mach := { m with cdc := kput x (f (crossing m x)) m.cdc }

/-- Does a crossing have a kind? (R87) -/
def hasKind (x : Nat) (k : XKind) : Bool :=
  bit (xKinds x) (match k with | .stream => 0 | .value => 1 | .count => 2 | .event => 3)

/-- The bitwise OR of two lists of words, entry by entry, as long as the longer (R83). -/
def orLists : List Nat → List Nat → List Nat
  | [], b => b
  | a, [] => a
  | x :: a, y :: b => (x ||| y) :: orLists a b

/-- A value presented to a value crossing: sent, or left in the pending register, where crossings 0–7 accumulate (R82,
R83). -/
def Mach.sendValue (m : Mach) (x : Nat) (v : List Nat) : Mach :=
  m.onCrossing x fun c =>
    if c.value.isSome then { c with valPend := some (if x < 8 then orLists (c.valPend.getD []) v else v) }
    else { c with value := some (m.now, v) }

/-- The running counts of a crossing presented to it (R84). -/
def Mach.sendCount (m : Mach) (x : Nat) (v : List Nat) : Mach :=
  m.onCrossing x fun c => if c.count.isSome then { c with cntPend := some v } else { c with count := some (m.now, v) }

/-- The overrun or hang bit of a crossing: crossings 0–31 in the LO register, the rest in HI. -/
def Mach.markCrossing (m : Mach) (lo hi : Fd) (x : Nat) : Mach :=
  if x < 32 then m.setFld lo 0 (setBits (m.fld lo) x x 1) else m.setFld hi 0 (setBits (m.fld hi) (x - 32) (x - 32) 1)

/-- An event at a crossing (R85): sent, left pending, or dropped with the overrun flagged and recorded. -/
def Mach.sendEvent (m : Mach) (x : Nat) (code tag : Word) : Mach :=
  let c := crossing m x
  if c.event.isNone then m.onCrossing x fun c => { c with event := some (m.now, code, tag) }
  else if c.evPend.isNone then m.onCrossing x fun c => { c with evPend := some (code, tag) }
  else
    let m := (m.markCrossing CDC_OVR_LO_f CDC_OVR_HI_f x).count CDC_OVR_CNT_n
    (m.event 0x37 0 (.item x)).record 0x37 0x160 5 (.item x) [code, tag]

/-- The beats of a frame (R62). -/
def beatsOf (len : Nat) : Nat := ceilDiv len 32

/-- Can a receive crossing and the buffer before it take so many more beats (R86)? The FIFO holds 255; what the receive buffer holds
is a constant of the part (log 85). -/
def rxRoom (m : Mach) (x n : Nat) : Bool :=
  decide ((crossing m x).fifo + n ≤ 255) || decide ((crossing m x).fifo + n ≤ 255 + Config.rxBuffer)

/-- Beats enter a stream crossing (R86); the first starts a handshake. -/
def Mach.sendBeats (m : Mach) (x n : Nat) : Mach :=
  m.onCrossing x fun c => { c with stream := if n = 0 then c.stream else c.stream.or (some m.now), fifo := c.fifo + n }

/-- The instant at which the handshake of a kind in flight began. -/
def handshake (c : Crossing) (k : XKind) : Option Nat :=
  match k with
  | .stream => c.stream
  | .value => c.value.map (·.1)
  | .count => c.count.map (·.1)
  | .event => c.event.map (·.1)

/-- The handshake of a kind begins again with what it carries. -/
def Crossing.resend (c : Crossing) (k : XKind) (now : Nat) : Crossing :=
  match k with
  | .stream => { c with stream := some now }
  | .value => { c with value := c.value.map fun e => (now, e.2) }
  | .count => { c with count := c.count.map fun e => (now, e.2) }
  | .event => { c with event := c.event.map fun e => (now, e.2) }

/-- The hang watchdog ends a crossing's handshake: its bit is set, and what it held is sent again (R73). -/
def Mach.crossingHang (m : Mach) (x : Nat) (k : XKind) : Mach :=
  ((m.markCrossing CDC_HANG_LO_f CDC_HANG_HI_f x).event 0x37 1).onCrossing x fun c => c.resend k m.now

/-- R85: CROSSING_EVENT_ARRIVAL. A crossing without the event kind carries none. -/
def execCrossingEventArrival (t : Nat) (x : Fin 36) (code : Word) (tag : Word) (s : State) : Host.Outcome State Fault Refusal :=
  s.run t fun m => if hasKind x .event then m.sendEvent x code tag else m

end Sys2Proof.Machine
end

