-- ==== Sys2Proof/Machine/Ring.lean ====
section
/-! DEFINITION. What reaches a partition (R256–R265, R273–R276, R281–R284): its memory through the region map, the dirty
log, its rings, its interrupt vectors, and deliveries kept for it. -/

namespace Sys2Proof.Machine

/-! ### The partition and its share -/

/-- A partition's own state. -/
def Mach.part (m : Mach) (p : Nat) : Part := (kget p m.parts).getD {}

/-- A partition changed. -/
def Mach.onPart (m : Mach) (p : Nat) (f : Part → Part) : Mach := { m with parts := kput p (f (m.part p)) m.parts }

/-- Partition states (R256). -/
def Mach.partState (m : Mach) (p : Nat) : Nat := m.fld VRT_PART_STS_state p

/-- Stopped, Active, Resetting, Freezing, Frozen as R256 codes them. -/
def psStopped : Nat := 1
def psActive : Nat := 2
def psResetting : Nat := 3
def psFreezing : Nat := 4
def psFrozen : Nat := 5

/-- The share division in force (R175). -/
def division (m : Mach) : Nat := 8 * 2 ^ m.cfg DSP_SHARE_div

/-- The cores of one share. -/
def coresPerShare (m : Mach) : Nat := 64 / division m

/-- In-flight transactions and tags of a partition, as VRT, XFR and the window show them (R256). -/
def Mach.showInflight (m : Mach) (p : Nat) : Mach :=
  let xs := (m.part p).xfers
  let tags := xs.foldl (fun a x => a ||| 2 ^ x.tag) 0
  let m := (m.setFld VRT_PART_STS_inflight p xs.length).setFld VRT_PART_STS_tags p tags
  let m := (m.setFld XFR_PART_inflight p xs.length).setFld XFR_PART_tags p tags
  let m := m.setFld DSP_PART_STS_used p xs.length
  if xs.length < 2048 / division m then m.setFlag DSP_PART_STS_over p false else m

/-! ### Region map (R259) -/

/-- The four regions of a partition as in force. -/
def regionsOf (m : Mach) (p : Nat) : List Region :=
  (List.range 4).map fun r =>
    let i := r * 64 + p
    {
      en := m.on XFR_RGN_GPA_en i, gpa := m.cfg XFR_RGN_GPA_gpa i, hpa := m.cfg XFR_RGN_HPA_hpa i,
      size := m.cfg XFR_RGN_SIZE_size i }

/-- Does a region hold a guest-physical address? -/
def Region.holds (r : Region) (a : Nat) : Bool := r.en && r.gpa * 2 ^ 21 ≤ a && a < (r.gpa + r.size) * 2 ^ 21

/-- Every byte of a range lies in some enabled region; each of at most five rounds moves to the end of a region. -/
def coveredFrom (rs : List Region) : Nat → Nat → Nat → Bool
  | 0, a, e => decide (e ≤ a)
  | k + 1, a, e =>
    if e ≤ a then true else
      match rs.find? fun r => r.holds a with
      | some r => coveredFrom rs k ((r.gpa + r.size) * 2 ^ 21) e
      | none => false

/-- Every byte of `n` bytes from `a` lies in an enabled region of the partition. -/
def covered (m : Mach) (p a n : Nat) : Bool := coveredFrom (regionsOf m p) 5 a (a + n)

/-- The host-physical address of a guest-physical one. -/
def translate (m : Mach) (p a : Nat) : Nat :=
  match (regionsOf m p).find? fun r => r.holds a with
  | some r => r.hpa * 2 ^ 21 + (a - r.gpa * 2 ^ 21)
  | none => 0

/-- Bytes of partition memory. -/
def Mach.partRead (m : Mach) (p a n : Nat) : List Byte := (List.range n).map fun i => memGet (translate m p (a + i)) m.mem

/-! ### Dirty-page logging (R281–R284) -/

/-- A 64-bit value of a LO and HI field in force. -/
def cfg64 (m : Mach) (lo hi : Fd) (i : Nat) : Nat := m.cfg hi i * 2 ^ 32 + m.cfg lo i

/-- Does host-physical memory hold `n` bytes at an address? There are 32 GiB of it. -/
def inMemory (a n : Nat) : Bool := decide (a + n ≤ 2 ^ 35)

/-- A log or bitmap write that faults stops logging for the partition (R283). -/
def Mach.logFault (m : Mach) (p : Nat) : Mach :=
  ((m.setFlag DRT_STS_active p false).setFlag DRT_STS_fault p true).event 0x34 2 (.part p)

/-- The bitmap bit of a page set at the memory interface (R283); the bitmap covers 2^41 bytes. -/
def Mach.setBitmap (m : Mach) (p page : Nat) : Mach :=
  let b := page / 512
  let a := cfg64 m DRT_BMP_LO_lo DRT_BMP_HI_hi p + b / 8
  if 2 ^ 20 ≤ b then m else if !inMemory a 1 then m.logFault p else
  ({ m with mem := memPut a (memGet a m.mem ||| BitVec.ofNat 8 (2 ^ (b % 8))) m.mem }).count (DRT_CNT_n.nth 1)

/-- One page logged for a writer: a ring entry, a skip, or a bitmap bit. -/
def Mach.logPage (m : Mach) (p page writer : Nat) : Mach :=
  if !m.flag DRT_STS_active p then m
  else if m.flag DRT_STS_bitmap p then m.setBitmap p page
  else if (m.part p).recent.contains page then m.count (DRT_CNT_n.nth 2)
  else
    let size := m.cfg DRT_CTRL_size p
    let prod := m.fld DRT_PROD_prod p
    let used := (prod + 2 ^ 16 - m.fld DRT_CONS_cons p) % 2 ^ 16
    if size ≤ used then
      ((m.setFlag DRT_STS_bitmap p true).event 0x34 0 (.part p)).setBitmap p page
    else
      let a := cfg64 m DRT_RING_LO_lo DRT_RING_HI_hi p + prod % size * 8
      if !inMemory a 8 then m.logFault p else
      let m := { m with mem := memWrite a (bytesLE 8 (page * 2 ^ 12 + writer * 2 ^ 8)) m.mem }
      let m := (m.setFld DRT_PROD_prod p (prod + 1)).count DRT_CNT_n
      m.onPart p fun b => { b with recent := (page :: b.recent).take 32 }

/-- Bytes written to partition memory by a device (R259, R281): an access with a byte outside every enabled region is
not issued; each page written is logged. The result says whether it was issued. -/
def Mach.partWrite (m : Mach) (p a : Nat) (bs : List Byte) (writer : Nat) : Mach × Bool :=
  if !covered m p a bs.length || bs.isEmpty then (m, bs.isEmpty) else
  let mem := (bs.zipIdx).foldl (fun mem e => memPut (translate m p (a + e.2)) e.1 mem) m.mem
  let m := { m with mem := mem }
  let first := a / 4096
  let last := (a + bs.length - 1) / 4096
  ((List.range (last + 1 - first)).foldl (fun m i => m.logPage p (first + i) writer) m, true)

/-- DRT_CMD.rearm: back to ring logging with DRT_PROD = DRT_CONS (R283). -/
def Mach.rearm (m : Mach) (p : Nat) : Mach :=
  if m.flag DRT_STS_active p then
    let m := (m.setFlag DRT_STS_bitmap p (m.cfg DRT_CTRL_size p == 0)).setFld DRT_PROD_prod p (m.fld DRT_CONS_cons p)
    (m.onPart p fun b => { b with recent := [] }).event 0x34 1 (.part p)
  else m

/-! ### Interrupts (R273–R276) -/

/-- A vector delivered to its core's guest interrupt file: it crosses to the core's cluster with the vectors of its cores (R83). In a
partition that is Resetting the delivery is suppressed and counted (R276). -/
def Mach.deliverVec (m : Mach) (p v : Nat) : Mach :=
  if m.partState p = psResetting then (m.count (IRQ_CNT_n.nth 2)).event 0x35 1 (.part p) else
  let i := v * 64 + p
  let core := m.cfg VRT_PART_CFG_pos p * coresPerShare m + m.cfg IRQ_VEC_core i % coresPerShare m
  let m := m.onPart p fun b => { b with irqSent := b.irqSent ||| 2 ^ v }
  (m.count IRQ_CNT_n).sendValue (core / 8) (List.replicate (core % 8) 0 ++ [2 ^ v])

/-- The time between two tokens of a partition's bucket, in ns (R275). -/
def tokenGap (m : Mach) (p : Nat) : Nat := 1000000 / m.cfg IRQ_PART_rate p

/-- An unmasked pending vector delivered once; sources 64 and 65 take a token or wait for one (R274, R275). -/
def Mach.tryVec (m : Mach) (p v : Nat) : Mach :=
  let b := m.part p
  if !bit b.irqPend v || bit b.irqMask v || bit b.irqSent v || b.irqWait.contains v then m
  else if bit b.irqFast v then m.deliverVec p v
  else if 0 < b.tokens then
    let m := m.onPart p fun b => { b with tokens := b.tokens - 1 }
    let m := if m.running (.irqToken p) then m else m.arm (.irqToken p) (m.now + tokenGap m p)
    m.deliverVec p v
  else
    let m := m.onPart p fun b => { b with irqWait := b.irqWait ++ [v], irqHeld := (b.irqHeld + 1) % 2 ^ 16 }
    ((m.setFlag IRQ_STS_limited p true).count (IRQ_CNT_n.nth 1)).event 0x35 0 (.part p)

/-- An interrupt source of a partition signals (R273–R276): sources 0–63 slots, 64 completion ring, 65 rejections and
events. -/
def Mach.signalPart (m : Mach) (p src : Nat) : Mach :=
  if m.partState p = psResetting then (m.count (IRQ_CNT_n.nth 2)).event 0x35 1 (.part p)
  else
    let i := src * 64 + p
    if !m.on IRQ_SRC_en i then m else
      let v := m.cfg IRQ_SRC_vector i
      if !m.on IRQ_VEC_en (v * 64 + p) then (m.count (IRQ_CNT_n.nth 3)).event 0x35 2 (.part p)
      else
        let m := m.onPart p fun b => { b with
          irqPend := b.irqPend ||| 2 ^ v, irqFast := if src < 64 then b.irqFast ||| 2 ^ v else b.irqFast }
        m.tryVec p v

/-- A token comes: a held vector that is still pending is delivered with it, else it fills the bucket (R275). -/
def Mach.tokenCame (m : Mach) (p : Nat) : Mach :=
  let b := m.part p
  let live := b.irqWait.filter fun v => bit b.irqPend v && !bit b.irqMask v
  let m := match live with
    | v :: rest => (m.onPart p fun b => { b with irqWait := rest }).deliverVec p v
    | [] => m.onPart p fun b => { b with irqWait := [], tokens := min (m.cfg IRQ_PART_burst p) (b.tokens + 1) }
  let m := m.setFlag IRQ_STS_limited p (!(m.part p).irqWait.isEmpty)
  if (m.part p).tokens < m.cfg IRQ_PART_burst p then m.arm (.irqToken p) (m.now + tokenGap m p) else m

/-- A DSP or XFR event attributed to the partition: the event, and source 65 (R273). -/
def Mach.partEvent (m : Mach) (page bit_ p : Nat) : Mach := (m.event page bit_ (.part p)).signalPart p 65

/-- A rejection under R260: counted in the window and in VRT, recorded, and signalled. -/
def Mach.rejectWindow (m : Mach) (p : Nat) : Mach :=
  let m := m.onPart p fun b => { b with rej := (b.rej + 1) % 2 ^ 32 }
  (((m.count (VRT_CNT_n.nth 1)).eventAlways 0x32 6 (.part p))).signalPart p 65

/-! ### Ring entries (R260–R265) -/

/-- Entries written and not yet consumed of a ring whose indices run modulo 2^16. -/
def ringUsed (prod cons : Nat) : Nat := (prod + 2 ^ 16 - cons) % 2 ^ 16

/-- A packet the module writes into a ring entry (R46, R261). -/
def packetBytes (m : Mach) (opcode flags : Nat) (tag : Byte) (status offset : Nat) (payload : List Byte) : List Byte :=
  bytesBE 1 opcode ++ bytesBE 1 flags ++ [tag, 0] ++ bytesBE 2 payload.length ++ bytesBE 1 status ++ [0]
    ++ bytesBE 4 offset ++ bytesBE 4 m.tag.toNat ++ payload

/-- A completion entry that is neither reserved nor unconsumed (R262, R263). -/
def cplRoom (m : Mach) (p : Nat) : Bool :=
  let b := m.part p
  b.xfers.length + ringUsed b.cplProd b.cplCons < 2 ^ b.cplLog

/-- An entry written to the completion ring, which signals source 64 (R261, R273). `writer` is coded as R282. -/
def Mach.complete (m : Mach) (p opcode flags : Nat) (tag : Byte) (status offset : Nat) (payload : List Byte) (writer : Nat) :
    Mach :=
  let b := m.part p
  let at_ := b.cplBase + b.cplProd % 2 ^ b.cplLog * 4096
  let m := (m.partWrite p at_ (packetBytes m opcode flags tag status offset payload) writer).1
  let m := m.onPart p fun b => { b with cplProd := (b.cplProd + 1) % 2 ^ 16 }
  m.signalPart p 64

/-- The DONE of a command (R262). -/
def Mach.doneCmd (m : Mach) (p : Nat) (tag : Byte) (status offset : Nat) (payload : List Byte) : Mach :=
  m.complete p 0xC1 2 tag status offset payload 1

/-- May the module write asynchronous entries for the partition? Not while it is Off, Stopped, Resetting or Frozen (R286). -/
def takesEntries (m : Mach) (p : Nat) : Bool := m.partState p == psActive || m.partState p == psFreezing

/-- A GOOSE delivery: written when a completion entry is free, else the latest of its subscription is kept (R263, R286). -/
def Mach.deliver (m : Mach) (p sub : Nat) (payload : List Byte) : Mach :=
  let b := m.part p
  if takesEntries m p && cplRoom m p && (kget sub b.kept).isNone then m.complete p 0xC2 0 0 0 sub payload 2
  else if m.partState p = psActive ∨ m.partState p = psFreezing ∨ m.partState p = psFrozen then
    m.onPart p fun b => { b with
      kept := kput sub payload b.kept
      gmerge := if (kget sub b.kept).isSome then (b.gmerge + 1) % 2 ^ 32 else b.gmerge }
  else m

/-- Kept deliveries written as entries are free, in order of subscription, with fuel. -/
def Mach.deliverKept (m : Mach) (p : Nat) : Nat → Mach
  | 0 => m
  | k + 1 =>
    match (m.part p).kept with
    | [] => m
    | (sub, payload) :: rest =>
      if takesEntries m p && cplRoom m p then
        ((m.onPart p fun b => { b with kept := rest }).complete p 0xC2 0 0 0 sub payload 2).deliverKept p k
      else m

/-- A frame delivered to a partition's virtual NIC: an entry, or a drop counted in PWIN_DROP (R263, R286). -/
def Mach.vnicRx (m : Mach) (p : Nat) (bytes : List Byte) : Mach :=
  if takesEntries m p && cplRoom m p then m.complete p 0xC3 0 0 0 0 bytes 3
  else m.onPart p fun b => { b with drop := (b.drop + 1) % 2 ^ 32 }

/-- A measurand ring has a free entry (R191). -/
def mringRoom (m : Mach) (p f : Nat) : Bool :=
  let r := (kget f (m.part p).rings).getD {}
  ringUsed r.prod r.cons < 2 ^ r.log2

/-- A measurand ring changed. -/
def Mach.onRing (m : Mach) (p f : Nat) (g : MRing → MRing) : Mach :=
  m.onPart p fun b => { b with rings := kput f (g ((kget f b.rings).getD {})) b.rings }

/-- A block, or an empty packet, written to a slot's measurand ring (R188 step 2). -/
def Mach.writeBlock (m : Mach) (p f : Nat) (payload : List Byte) : Mach :=
  let r := (kget f (m.part p).rings).getD {}
  let m := (m.partWrite p (r.base + r.prod % 2 ^ r.log2 * 4096) (packetBytes m 0xC0 0 0 0 f payload) 1).1
  m.onRing p f fun r => { r with prod := (r.prod + 1) % 2 ^ 16 }

/-! ### The partition's window -/

/-- A doorbell within the ring credits sets an index, any other is rejected (R264). -/
def Mach.doorbell (m : Mach) (p : Nat) (ok : Bool) (f : Part → Part) : Mach :=
  if ok then m.onPart p f else m.rejectWindow p

/-- PWIN_CMD_PROD (R264): never more than the ring size ahead of the consumer. -/
def Mach.writeCmdProd (m : Mach) (p v : Nat) : Mach :=
  let b := m.part p
  m.doorbell p (decide (ringUsed v b.cmdCons ≤ 2 ^ b.cmdLog)) fun b => { b with cmdProd := v }

/-- PWIN_CPL_CONS (R263, R264): never past the producer; freed entries take kept deliveries. -/
def Mach.writeCplCons (m : Mach) (p v : Nat) : Mach :=
  let b := m.part p
  let ok := decide (ringUsed v b.cplCons ≤ ringUsed b.cplProd b.cplCons)
  let m := m.doorbell p ok fun b => { b with cplCons := v }
  m.deliverKept p (m.part p).kept.length

/-- PWIN_MR_CONS (R264): never past the producer of the slot's ring. -/
def Mach.writeMrCons (m : Mach) (p f v : Nat) : Mach :=
  let r := (kget f (m.part p).rings).getD {}
  if ringUsed v r.cons ≤ ringUsed r.prod r.cons then m.onRing p f fun r => { r with cons := v } else m.rejectWindow p

/-- A word of a 64-bit window value replaced. -/
def setHalf (v : Nat) (hi : Bool) (w : Nat) : Nat :=
  if hi then w % 2 ^ 32 * 2 ^ 32 + v % 2 ^ 32 else v / 2 ^ 32 * 2 ^ 32 + w % 2 ^ 32

/-- PWIN_IRQ (R260, R274): pending bits cleared by writing 1, masks set; a vector that becomes deliverable is delivered. Any
other offset of the region holds no writable field, and the write is rejected (R8, R260). -/
def Mach.writeIrq (m : Mach) (p off v : Nat) : Mach :=
  let clear := fun (hi : Bool) (m : Mach) => m.onPart p fun b =>
    let keep := setHalf 0 hi v
    let gone := fun x : Nat => x - (x &&& keep)
    { b with irqPend := gone b.irqPend, irqSent := gone b.irqSent, irqFast := gone b.irqFast
             irqWait := b.irqWait.filter fun n => !bit keep n }
  let mask := fun (hi : Bool) (m : Mach) =>
    let m := m.onPart p fun b => { b with irqMask := setHalf b.irqMask hi v }
    m.each (List.range 64) fun n m => m.tryVec p n
  match off with
  | 0x200 => clear false m
  | 0x204 => clear true m
  | 0x208 => mask false m
  | 0x20C => mask true m
  | _ => m.rejectWindow p

/-- The base of a ring of the window: the value whose low word is at an offset (R260). -/
def windowBase (b : Part) (off : Nat) : Option (Nat × (Nat → Part)) :=
  match off with
  | 0x100 => some (b.cmdBase, fun x => { b with cmdBase := x })
  | 0x110 => some (b.cplBase, fun x => { b with cplBase := x })
  | _ =>
    if 0x400 ≤ off ∧ off < 0x800 ∧ off % 16 = 0 then
      let r := (kget ((off - 0x400) / 16) b.rings).getD {}
      some (r.base, fun x => { b with rings := kput ((off - 0x400) / 16) { r with base := x } b.rings })
    else none

/-- The size of a ring of the window: its largest log2 and the partition with it set. -/
def windowSize (b : Part) (off v : Nat) : Option (Nat × Part) :=
  match off with
  | 0x108 => some (8, { b with cmdLog := v })
  | 0x118 => some (10, { b with cplLog := v })
  | _ =>
    if 0x400 ≤ off ∧ off < 0x800 ∧ off % 16 = 8 then
      let r := (kget ((off - 0x400) / 16) b.rings).getD {}
      some (6, { b with rings := kput ((off - 0x400) / 16) { r with log2 := v } b.rings })
    else none

/-- An RW* field of the window (R260): the new partition, or none when the offset or the value is not accepted. The low word of a
base is held until its high word is written (R11). -/
def windowConfig (b : Part) (off v : Nat) : Option Part :=
  match windowSize b off v with
  | some (top, b') => if 1 ≤ v ∧ v ≤ top then some b' else none
  | none =>
    match windowBase b off with
    | some _ => if v % 4096 = 0 then some { b with lows := kput off v b.lows } else none
    | none =>
      if off < 4 then none else
        (windowBase { b with lows := kdel (off - 4) b.lows } (off - 4)).map fun e =>
          e.2 (v % 2 ^ 32 * 2 ^ 32 + (kget (off - 4) b.lows).getD (e.1 % 2 ^ 32))

/-- A write to an RW* field: accepted only while Stopped (R260). A rejected high word discards the low word held (R11). -/
def Mach.writeWindow (m : Mach) (p off v : Nat) : Mach :=
  match (if m.partState p = psStopped then windowConfig (m.part p) off v else none) with
  | some b => m.onPart p fun _ => b
  | none => (m.onPart p fun b => { b with lows := kdel (off - 4) b.lows }).rejectWindow p

/-- The words of a 64-bit window register. -/
def halfWord (v : Nat) (hi : Bool) : Word := word (if hi then v / 2 ^ 32 else v)

/-- A word of the window as the partition reads it (R45, R260); a reserved offset reads 0. -/
def windowWord (m : Mach) (p off : Nat) : Word :=
  let b := m.part p
  match off with
  | 0x000 => word b.cmdProd
  | 0x004 => word b.cplCons
  | 0x100 => halfWord b.cmdBase false
  | 0x104 => halfWord b.cmdBase true
  | 0x108 => word b.cmdLog
  | 0x10C => word b.cmdCons
  | 0x110 => halfWord b.cplBase false
  | 0x114 => halfWord b.cplBase true
  | 0x118 => word b.cplLog
  | 0x11C => word b.cplProd
  | 0x200 => halfWord b.irqPend false
  | 0x204 => halfWord b.irqPend true
  | 0x208 => halfWord b.irqMask false
  | 0x20C => halfWord b.irqMask true
  | 0x210 => word ((m.flag IRQ_STS_limited p).toNat * 2 ^ 31 + b.irqHeld)
  | 0x300 => word (m.cfg VRT_PART_CFG_pos p * 2 ^ 16 + m.cfg DSP_SHARE_div * 2 ^ 8 + m.partState p)
  | 0x304 => word (b.xfers.length * 2 ^ 16 + m.fld VRT_PART_STS_tags p)
  | 0x308 => word b.busyXfr
  | 0x30C => word b.busyDsp
  | 0x310 => word b.drop
  | 0x314 => word b.gmerge
  | 0x318 => word b.rej
  | _ =>
    if 0x400 ≤ off ∧ off < 0x800 then
      let r := (kget ((off - 0x400) / 16) b.rings).getD {}
      match off % 16 with
      | 0 => halfWord r.base false
      | 4 => halfWord r.base true
      | 8 => word r.log2
      | _ => word (r.prod * 2 ^ 16 + r.cons)
    else 0

/-! ### The commands of a window -/

/-- R264: PWIN_CMD_PROD_WRITE. -/
def execPwinCmdProdWrite (t : Nat) (part : Fin 64) (v : Word) (s : State) : Host.Outcome State Fault Refusal :=
  s.run t fun m => m.writeCmdProd part (v.toNat % 2 ^ 16)

/-- R263: PWIN_CPL_CONS_WRITE. -/
def execPwinCplConsWrite (t : Nat) (part : Fin 64) (v : Word) (s : State) : Host.Outcome State Fault Refusal :=
  s.run t fun m => m.writeCplCons part (v.toNat % 2 ^ 16)

/-- R264: PWIN_MR_CONS_WRITE. -/
def execPwinMrConsWrite (t : Nat) (part : Fin 64) (v : Word) (s : State) : Host.Outcome State Fault Refusal :=
  s.run t fun m => m.writeMrCons part (bits v.toNat 21 16) (bits v.toNat 15 0)

/-- R274: PWIN_IRQ_WRITE. -/
def execPwinIrqWrite (t : Nat) (part : Fin 64) (off : BitVec 16) (v : Word) (s : State) : Host.Outcome State Fault Refusal :=
  s.run t fun m => m.writeIrq part off.toNat v.toNat

/-- R260: PWIN_CONFIG_WRITE. -/
def execPwinConfigWrite (t : Nat) (part : Fin 64) (off : BitVec 16) (v : Word) (s : State) : Host.Outcome State Fault Refusal :=
  s.run t fun m => m.writeWindow part off.toNat v.toNat

/-- R275: IRQ_TOKEN_REFILL. -/
def execIrqTokenRefill (t : Nat) (part : Fin 64) (s : State) : Host.Outcome State Fault Refusal :=
  s.run t fun m => m.onExpiry (.irqToken part) fun m => m.tokenCame part

end Sys2Proof.Machine
end

