-- ==== Sys2Proof/Machine/Stamp.lean ====
section
/-! DEFINITION. Ports and their own state, the PTP domains as the ports see them, and the stamping of event messages (R109–R111). -/

namespace Sys2Proof.Machine

/-! ### Ports -/

/-- A port's own state. -/
def Mach.port (m : Mach) (e : Nat) : Port := (kget e m.ports).getD {}

/-- A port changed. -/
def Mach.onPort (m : Mach) (e : Nat) (f : Port → Port) : Mach := { m with ports := kput e (f (m.port e)) m.ports }

/-- A pair of ports. -/
def Mach.pair (m : Mach) (k : Nat) : Pair := (kget k m.pairs).getD {}

/-- A pair changed. -/
def Mach.onPair (m : Mach) (k : Nat) (f : Pair → Pair) : Mach := { m with pairs := kput k (f (m.pair k)) m.pairs }

/-- A counter of a MAC page: the n-th of R317. -/
def macCnt (e n : Nat) : Fd := (MAC_CNT_n.nth n).onPort e

/-- Link states (R293): Disabled 0, Down 1, Up 2, Held 3. -/
def linkOf (m : Mach) (e : Nat) : Nat := m.fld (MAC_STS_link.onPort e)

/-- The redundancy mode of a pair: none 0, PRP 1, HSR 2 (R305). -/
def redMode (m : Mach) (k : Nat) : Nat := m.cfg (MAC_RED_mode.onPort (2 * k))

/-- The rate of a fabric port in Mb/s (R334). -/
def rateOf (m : Mach) (e : Nat) : Nat :=
  if 16 ≤ e then 50000 else match m.fld (MAC_STS_speed.onPort e) with | 0 => 1000 | 1 => 10000 | _ => 25000

/-- A group address: the first bit on the wire is 1. -/
def isGroup (a : Mac) : Bool := a.getLsbD 40

/-- An address held in a LO and HI register pair in force: HI holds bytes 0 and 1. -/
def macOf (m : Mach) (lo hi : Fd) (i : Nat) : Mac := BitVec.ofNat 48 (m.cfg hi i * 2 ^ 32 + m.cfg lo i)

/-- The port's own address. -/
def portAddr (m : Mach) (e : Nat) : Mac := macOf m (MAC_ADDR_LO_lo.onPort e) (MAC_ADDR_HI_hi.onPort e) 0

/-- A 64-bit counter in two words advanced. -/
def Mach.count64 (m : Mach) (lo hi : Fd) (i n : Nat) : Mach :=
  let v := m.fld hi i * 2 ^ 32 + m.fld lo i + n
  (m.setFld lo i (v % 2 ^ 32)).setFld hi i (v / 2 ^ 32)

/-- The key of a slot, when it holds one of a usage (R393). -/
def Mach.keyFor (m : Mach) (slot usage : Nat) : Option Key := if m.fld KEY_SLOT_usage slot = usage then kget slot m.rim.keys else none

/-! ### PTP domains (R105, R106) -/

/-- A domain. -/
def ptpDom (m : Mach) (d : Nat) : PtpDom := if d = 0 then m.ptp.dom0 else m.ptp.dom1

/-- A domain changed. -/
def Mach.onDom (m : Mach) (d : Nat) (f : PtpDom → PtpDom) : Mach :=
  { m with ptp := if d = 0 then { m.ptp with dom0 := f m.ptp.dom0 } else { m.ptp with dom1 := f m.ptp.dom1 } }

/-- The correction that makes station time the time of a domain that is tracked (R106). -/
def domainOffset (m : Mach) (d : Nat) : Int := asSigned 32 (m.fld (PTP_DOM_OFS_ns.nth d))

/-- The multicast addresses of R105: of peer-delay messages, and of the others. -/
def peerDelayAddr : Mac := 0x0180C200000E
def ptpAddr : Mac := 0x011B19000000

/-- Is a message one of the peer-delay messages? -/
def isPeerDelay (k : PtpType) : Bool := k == .pdelayReq || k == .pdelayResp || k == .pdelayRespFollowUp

/-- The bytes of a message behind its EtherType: header and body of IEEE 1588, and what an Announce carries after it (log 92). -/
def ptpBytes (p : PtpMsg) : Nat :=
  match p.kind with
  | .announce => 64 + p.ann.tlvs.length
  | .pdelayReq | .pdelayResp | .pdelayRespFollowUp => 54
  | _ => 44

/-- A message as the frame that a port sends: the destination and EtherType of R105, untagged until the port's tagging acts on it. -/
def ptpFrame (m : Mach) (e : Nat) (p : PtpMsg) : Frame := {
  dst := if isPeerDelay p.kind then peerDelayAddr else ptpAddr, src := portAddr m e, tag := .untagged, etype := 0x88F7
  len := max 64 (18 + ptpBytes p), fcs := .good, codeErr := false, sec := none, red := .plain, body := .ptp p }

/-! ### Stamps (R109–R111) -/

/-- The egress stamp of an event that leaves a port now, for who asked for it: a partition's frames, from guests on virtual ports, always
take an interrupt-time stamp (R109). The latency is rounded down to whole ns, and link asymmetry takes no part in it (log 90). -/
def egressStamp (m : Mach) (e who : Nat) : Int :=
  if m.on PTP_PCFG_stamp_mode e || decide (who < 64) then m.station
  else m.station + asSigned 16 (m.cfg PTP_PCOMP_EG_v (m.fld (MAC_STS_speed.onPort e) * 64 + e)) / 16

/-- A transmit stamp as a value that crosses to the PTP block (R80, R87). -/
def TxStamp.value (s : TxStamp) : List Nat :=
  [s.gap.toNat, s.lostN, s.source, s.domain, s.mgr.toNat, s.msgType, s.seqId, s.lostSeq, toWidth 64 s.stamp]

/-- The stamp that such a value carries. -/
def stampOf (v : List Nat) : Option TxStamp :=
  match v with
  | [gap, lostN, source, domain, mgr, msgType, seqId, lostSeq, stamp] => some {
    gap := gap == 1, lostN := lostN, source := source, domain := domain, mgr := mgr == 1, msgType := msgType, seqId := seqId, lostSeq := lostSeq
    stamp := asSigned 64 stamp }
  | _ => none

/-- The stamps in a port's FIFO. -/
def stampsOf (m : Mach) (e : Nat) : List TxStamp := (kget e m.ptp.txs).getD []

/-- A stamp that found the FIFO full is dropped: the gap is noted (R111). -/
def Mach.dropStamp (m : Mach) (e : Nat) (s : TxStamp) : Mach :=
  let l := match m.ptp.lost.find? fun l => l.1 == e with
    | some (_, n, q0) => (e, n + 1, q0)
    | none => (e, 1, s.seqId)
  let m := { m with ptp := { m.ptp with lost := l :: m.ptp.lost.filter fun l => l.1 != e } }
  (m.count PTP_TXS_LOST_n e).event 0x06 4

/-- A stamp enters a port's FIFO; the first one after a drop carries the gap. -/
def Mach.keepStamp (m : Mach) (e : Nat) (s : TxStamp) : Mach :=
  let s := match m.ptp.lost.find? fun l => l.1 == e with
    | some (_, n, q0) => { s with gap := true, lostN := min 255 n, lostSeq := q0 }
    | none => s
  { m with ptp := { m.ptp with
    txs := kput e (stampsOf m e ++ [s]) m.ptp.txs
    lost := m.ptp.lost.filter fun l => l.1 != e } }

/-- The stamps that reached a full FIFO before this moment are dropped (R111, log 93). -/
def Mach.settleStamps (m : Mach) (e : Nat) : Mach :=
  let (past, rest) := splitBy (fun l : Nat × Nat × TxStamp => l.1 == e && decide (l.2.1 < m.now)) m.ptp.late
  ({ m with ptp := { m.ptp with late := rest } }).each past fun l m => m.dropStamp e l.2.2

/-- A transmit stamp reaches a port's FIFO, which holds 64 (R111). When the FIFO is full, a read at the same moment still makes room for
it: the drop follows once that moment has passed (log 93). -/
def Mach.pushStamp (m : Mach) (e : Nat) (s : TxStamp) : Mach :=
  let m := m.settleStamps e
  if 64 ≤ (stampsOf m e).length then { m with ptp := { m.ptp with late := m.ptp.late ++ [(e, m.now, s)] } } else m.keepStamp e s

/-- A read of PTP_TXS3 removes the head entry; the removal comes before a stamp of the same moment (R111). -/
def Mach.popStamp (m : Mach) (e : Nat) : Mach :=
  let m := m.settleStamps e
  let m := { m with ptp := { m.ptp with txs := kput e ((stampsOf m e).drop 1) m.ptp.txs } }
  match m.ptp.late.find? fun l => l.1 == e with
  | some l => ({ m with ptp := { m.ptp with late := m.ptp.late.erase l } }).keepStamp e l.2.2
  | none => m

/-- The stamp of a frame sent with a request crosses to the PTP block (R82): only a PTP message is stamped (R262). -/
def Mach.stampGuest (m : Mach) (e who : Nat) (fr : Frame) : Mach :=
  match fr.body with
  | .data b =>
    if fr.etype = 0x88F7 then
      let s : TxStamp := {
        gap := false, lostN := 0, source := if who = 64 then 0 else who, domain := (nthD b 4 0).toNat, mgr := who == 64,
        msgType := (nthD b 0 0).toNat % 16, seqId := natBE ((b.drop 30).take 2), lostSeq := 0, stamp := egressStamp m e who }
      m.sendValue (12 + e) s.value
    else m
  | _ => m

/-- The egress stamp of the clock's own event message goes to the capture register of the port and domain (R110). -/
def Mach.capture (m : Mach) (d port : Nat) (stamp : Int) : Mach :=
  m.onDom d fun b => { b with egress := (port, stamp) :: b.egress.filter fun e => e.1 != port }

/-- A frame that follows the one in transmission in the port's queue, with its class and tag. -/
def Mach.queueBehind (m : Mach) (e : Nat) (f : TxFrame) (p : PtpMsg) : Mach :=
  m.onPort e fun b => { b with queue := b.queue ++ [{ f with fr := ptpFrame m e p, stamp := none, entered := m.now }] }

/-- An event message of a domain starts on a port (R105, R109, R110): its stamp is captured; a two-step Sync or response is followed by
the message that carries the stamp, a one-step message carries it, and the instant of a request is kept. -/
def Mach.stampOwn (m : Mach) (e d : Nat) (f : TxFrame) : Mach :=
  match f.fr.body with
  | .ptp p =>
    let stamp := egressStamp m e 64
    let m := m.capture d e stamp
    let sent := fun (q : PtpMsg) => m.onPort e fun b => { b with sending := some { f with fr := ptpFrame m e q } }
    match p.kind, p.twoStep with
    | .sync, true => m.queueBehind e f { p with kind := .followUp, twoStep := false, stamp := stamp + domainOffset m d }
    | .sync, false => sent { p with stamp := stamp + domainOffset m d }
    | .pdelayReq, _ => m.onDom d fun b => { b with reqAt := (e, stamp) :: b.reqAt.filter fun r => r.1 != e }
    | .pdelayResp, true => m.queueBehind e f { p with kind := .pdelayRespFollowUp, twoStep := false, corr := 0, stamp := stamp }
    | .pdelayResp, false => sent { p with corr := p.corr + stamp - p.stamp, stamp := 0 }
    | _, _ => m
  | _ => m

/-- A frame that asked for a stamp starts on a port. Partitions are 0–63, the manager 64, PTP domain d 65 + d. -/
def Mach.stampFrame (m : Mach) (e : Nat) (f : TxFrame) : Mach :=
  match f.stamp with
  | some who => if 65 ≤ who then m.stampOwn e (who - 65) f else m.stampGuest e who f.fr
  | none => m

end Sys2Proof.Machine
end

