-- ==== Sys2Proof/Machine/Fabric.lean ====
section
/-! DEFINITION. From the switch core to the wire (R297–R337): traffic classes, output memory, the forwarding table, the
egress queues and their scheduler, and what a frame looks like when it leaves. -/

namespace Sys2Proof.Machine

/-! ### Classes (R320) -/

/-- The class of a PCP. -/
def classOf (m : Mach) (pcp : Nat) : Nat := bits (m.cfg QOS_PCP_class) (3 * pcp + 2) (3 * pcp)

/-- Is a class a deadline class? -/
def isDeadline (m : Mach) (c : Nat) : Bool := bit (m.cfg QOS_CLASS_deadline) c

/-- The highest class that is not a deadline class. -/
def topPlain (m : Mach) : Nat := (((List.range 8).filter fun c => !isDeadline m c).getLast?).getD 0

/-! ### Output memory (R321, R322) -/

/-- The cells of a frame. -/
def cellsOf (len : Nat) : Nat := ceilDiv len 64

/-- The frames an egress port stores: waiting and in transmission. -/
def stored (m : Mach) (e : Nat) : List TxFrame := (m.port e).queue ++ (m.port e).sending.toList

/-- Cells of some frames. -/
def cellSum (l : List TxFrame) : Nat := (l.map fun f => cellsOf f.fr.len).sum

/-- The reserve of a queue. -/
def reserve (m : Mach) (e c : Nat) : Nat :=
  if c % 2 = 0 then m.cfg (QOS_RSV_rsv_lo.nth (c / 2)) e else m.cfg (QOS_RSV_rsv_hi.nth (c / 2)) e

/-- The cells of a queue's frames that do not draw on the virtual-NIC pool. -/
def queueCells (m : Mach) (e c : Nat) : Nat := cellSum ((stored m e).filter fun f => f.cls = c && f.vnic.isNone)

/-- The shared cells a port holds. -/
def sharedCells (m : Mach) (e : Nat) : Nat := ((List.range 8).map fun c => queueCells m e c - reserve m e c).sum

/-- The size of the shared memory: what the reserves and the virtual-NIC pool leave. -/
def sharedPool (m : Mach) : Nat :=
  262144 - m.cfg QOS_VNIC_cells - ((List.range 24).map fun e => ((List.range 8).map fun c => reserve m e c).sum).sum

/-- Cells in use. -/
def memUse (m : Mach) : Nat := ((List.range 24).map fun e => cellSum (stored m e)).sum

/-- Cells of the virtual-NIC pool that a partition holds. -/
def vnicCells (m : Mach) (p : Nat) : Nat :=
  ((List.range 16).map fun e => cellSum ((stored m e).filter fun f => f.vnic == some p)).sum

/-- SWC_MEM_USE and SWC_MEM_MAX shown. -/
def Mach.showMem (m : Mach) : Mach := (m.setFld SWC_MEM_USE_now 0 (memUse m)).raise SWC_MEM_MAX_max 0 (memUse m)

/-- Shared cells that 25 more cells of a queue would take beyond those it holds. -/
def sharedNeed (m : Mach) (e c : Nat) : Nat :=
  let u := queueCells m e c
  (u + 25 - reserve m e c) - (u - reserve m e c)

/-- May a frame enter queue (e, c)? The second result says that the port's cap is what refuses it. -/
def admits (m : Mach) (e c : Nat) : Bool × Bool :=
  let n := sharedNeed m e c
  let capped := decide (0 < n) && decide (m.cfg QOS_CAP_cap e < sharedCells m e + n)
  let total := ((List.range 24).map fun e => sharedCells m e).sum
  (n == 0 || (!capped && decide (total + n ≤ sharedPool m)), capped)

/-! ### The egress scheduler (R313, R337) -/

/-- The lifetime of a class on a port in ns; 0 is none (R313). -/
def lifeOf (m : Mach) (e c : Nat) : Nat :=
  10000 * (if c % 2 = 0 then m.cfg ((MAC_LIFE_life_lo.nth (c / 2)).onPort e) else m.cfg ((MAC_LIFE_life_hi.nth (c / 2)).onPort e))

/-- Has a waiting frame reached its class lifetime? -/
def expired (m : Mach) (e : Nat) (f : TxFrame) : Bool := lifeOf m e f.cls != 0 && decide (lifeOf m e f.cls ≤ m.now - f.entered)

/-- The oldest waiting frame of a class. -/
def headOf (q : List TxFrame) (c : Nat) : Option TxFrame := q.find? fun f => f.cls = c

/-- The quantum of a class in bytes. -/
def quantum (m : Mach) (c : Nat) : Nat :=
  64 * (if c < 4 then bits (m.inForce 0x12 0x048 0).toNat (8 * c + 7) (8 * c)
        else bits (m.inForce 0x12 0x04C 0).toNat (8 * (c - 4) + 7) (8 * (c - 4)))

/-- Deficit round robin among the classes below the deadline classes, from the class served last, with fuel: the frame
chosen, the deficits and the class now served. -/
def drr (m : Mach) (q : List TxFrame) : Nat → List Nat → Nat → Option (TxFrame × List Nat × Nat)
  | 0, _, _ => none
  | k + 1, d, c =>
    match headOf q c with
    | some f =>
      if !isDeadline m c && decide (f.fr.len ≤ nthD d c 0) then some (f, d.set c (nthD d c 0 - f.fr.len), c)
      else
        let c' := (c + 1) % 8
        drr m q k (d.set c' (nthD d c' 0 + quantum m c')) c'
    | none =>
      let c' := (c + 1) % 8
      drr m q k ((d.set c 0).set c' (nthD d c' 0 + quantum m c')) c'

/-- The next frame of a port: deadline classes by strict priority, then the round robin. -/
def pickNext (m : Mach) (e : Nat) : Option (TxFrame × List Nat × Nat) :=
  let b := m.port e
  let d := if b.deficit.isEmpty then List.replicate 8 0 else b.deficit
  let strict := (((List.range 8).reverse).filter (isDeadline m)).filterMap (headOf b.queue)
  match strict with
  | f :: _ => some (f, d, b.lastCls)
  | [] => if b.queue.isEmpty then none else drr m b.queue 400 d b.lastCls

/-- Waiting frames that have reached their lifetime are discarded (R313). -/
def Mach.ageOut (m : Mach) (e : Nat) : Mach :=
  let (dead, live) := splitBy (expired m e) (m.port e).queue
  if dead.isEmpty then m else
    (((m.onPort e fun b => { b with queue := live }).showMem).count (macCnt e 15) 0 dead.length).event (macPage e) 3

/-- May a port start a frame? It is Up, idle and not paused. -/
def canStart (m : Mach) (e : Nat) : Bool :=
  let b := m.port e
  linkOf m e == 2 && b.sending.isNone && b.pauseUntil.isNone

/-- An idle port starts its next frame; in low-power idle it wakes first (R303, R313, R337). -/
def Mach.kick (m : Mach) (e : Nat) : Mach :=
  if !canStart m e then m else
    let m := m.ageOut e
    match pickNext m e with
    | none =>
      if m.on (MAC_EEE_en.onPort e) && !m.flag (MAC_EEE_STS_lpi.onPort e) && !m.running (.eeeIdle e) then
        m.arm (.eeeIdle e) (m.now + m.cfg (MAC_EEE_idle.onPort e) * 1000)
      else m
    | some (f, d, c) =>
      let m := m.disarm (.eeeIdle e)
      if m.flag (MAC_EEE_STS_lpi.onPort e) then
        if (m.port e).waking then m else
          (m.onPort e fun b => { b with waking := true }).arm (.eeeWake e) (m.now + m.fld (MAC_EEE_STS_tw_res.onPort e) * 100)
      else
        let m := m.onPort e fun b => { b with queue := b.queue.erase f, sending := some f, deficit := d, lastCls := c }
        m.stampFrame e f

/-- A frame offered to an egress port (R312, R314): dropped while the port is Down or MACsec has no key, frozen with the
queue while it is Held. -/
def Mach.offer (m : Mach) (e : Nat) (f : TxFrame) : Mach :=
  let noKey := m.on (MAC_MSEC_en.onPort e) && (m.keyFor (m.cfg (MAC_MSEC_tx.onPort e)) 3).isNone
  if linkOf m e < 2 || noKey then m.count (macCnt e 17)
  else
    let m := (m.onPort e fun b => { b with queue := b.queue ++ [f] }).showMem
    m.kick e

/-! ### Leaving the port (R299, R306, R309, R311) -/

/-- The tag a frame leaves with (R299). -/
def egressTag (m : Mach) (e : Nat) (f : TxFrame) : Tag :=
  match f.fr.tag with
  | .stacked => .stacked
  | .priority _ => if f.vid = m.cfg (MAC_VLAN_pvid.onPort e) ∧ m.on (MAC_VLAN_untag_pvid.onPort e) then .untagged
      else .priority ⟨f.pcp % 8, Nat.mod_lt _ (by decide)⟩
  | _ => if f.vid = m.cfg (MAC_VLAN_pvid.onPort e) ∧ m.on (MAC_VLAN_untag_pvid.onPort e) then .untagged
      else .ctag ⟨f.vid % 4096, Nat.mod_lt _ (by decide)⟩ ⟨f.pcp % 8, Nat.mod_lt _ (by decide)⟩

/-- Bytes of a frame from destination address to the end of its data. -/
def frameBytes (fr : Frame) : List Byte :=
  match fr.body with
  | .data b => bytesBE 6 fr.dst.toNat ++ bytesBE 6 fr.src.toNat ++ bytesBE 2 fr.etype.toNat ++ b
  | _ => Config.bodyBytes fr

/-- A destination in 01-80-C2-00-00-00 to 01-80-C2-00-00-0F. -/
def linkLocal (a : Mac) : Bool := a.toNat / 16 == 0x0180C200000

/-- Frames without MACsec on a port that has it: MAC control, link-local and PTP frames (R311). -/
def unsecured (fr : Frame) : Bool := fr.etype == 0x8808 || linkLocal fr.dst || fr.etype == 0x88F7

/-- Does a port protect a frame it sends? -/
def secures (m : Mach) (e : Nat) (fr : Frame) : Bool := m.on (MAC_MSEC_en.onPort e) && !unsecured fr

/-- Bytes of a C-tag that a frame carries; a stacked frame's tags are payload. -/
def tagBytes : Tag → Nat
  | .priority _ => 4
  | .ctag _ _ => 4
  | _ => 0

/-- Bytes of a redundancy trailer or tag. -/
def redBytes : RedTag → Nat
  | .prp _ _ true => 6
  | .hsr _ => 6
  | _ => 0

/-- The length of a frame on the wire, from destination address to FCS: its tag, padding, trailer or HSR tag, and MACsec as it leaves
(R292, R299). -/
def wireLen (m : Mach) (e : Nat) (f : TxFrame) : Nat :=
  max 64 (f.fr.len - tagBytes f.fr.tag + tagBytes (egressTag m e f)) + redBytes f.fr.red + (if secures m e f.fr then 32 else 0)

/-- The frame as it leaves: its tag, its length, and MACsec when the port protects it (R299, R311). -/
def Mach.emitFrame (m : Mach) (e : Nat) (f : TxFrame) : Mach :=
  let fr := { f.fr with tag := egressTag m e f, len := wireLen m e f }
  let n := (m.port e).txPn + 1
  match (if secures m e fr then m.keyFor (m.cfg (MAC_MSEC_tx.onPort e)) 3 else none) with
  | some k =>
    let covered := frameBytes fr
    let sec : SecTag := { sci := Config.txSci e, pn := n, covered := covered, icv := Config.gcmIcv (m.on (MAC_MSEC_xpn.onPort e)) k (Config.txSci e) n covered }
    (m.onPort e fun b => { b with txPn := n }).emit (.frame e { fr with sec := some sec })
  | none => m.emit (.frame e fr)

/-- A pause begins: nothing starts until its time has passed (R301). -/
def Mach.beginPause (m : Mach) (e dur : Nat) : Mach :=
  let m := m.onPort e fun b => { b with pauseUntil := some (m.now + dur), pauseNext := none }
  (m.setFlag (MAC_STS_paused.onPort e) 0 true).arm (.pause e) (m.now + dur)

/-- A pause ends. -/
def Mach.endPause (m : Mach) (e : Nat) : Mach :=
  let m := m.onPort e fun b => { b with pauseUntil := none, pauseNext := none }
  (m.setFlag (MAC_STS_paused.onPort e) 0 false).disarm (.pause e)

/-- A port finishes its frame: it is counted and driven out, a pause that waited for its end begins, and the next frame
starts (R301, R337). -/
def Mach.txDone (m : Mach) (e : Nat) : Mach :=
  match (m.port e).sending with
  | none => m
  | some f =>
    let n := wireLen m e f
    let m := m.emitFrame e f
    let m := (m.count (macCnt e 1)).count64 (MAC_TX_OCT_LO_w.onPort e) (MAC_TX_OCT_HI_w.onPort e) 0 n
    let m := (m.onPort e fun b => { b with sending := none }).showMem
    let m := match (m.port e).pauseNext with
      | some d => m.beginPause e d
      | none => m
    m.kick e

/-! ### The forwarding table (R323–R325) -/

/-- The bucket of a way for a key. -/
def bucketOf (way vid : Nat) (a : Mac) : Nat :=
  (crc32c (bytesBE 1 way ++ bytesBE 2 vid ++ bytesBE 6 a.toNat)).toNat % 4096

/-- The four entry indices of a key. -/
def entriesOf (vid : Nat) (a : Mac) : List Nat := (List.range 4).map fun w => w * 4096 + bucketOf w vid a

/-- An entry of the table as its words say. -/
structure FwdEntry where
  vid    : Nat
  mac    : Mac
  mask   : Nat
  cls    : Option Nat
  burst  : Nat
  deriving DecidableEq, Repr

/-- The static entry at an index, from the words of object 0. -/
def staticAt (bulk : List Host.Cell) (i : Nat) : Option FwdEntry :=
  let w := fun k => natBE (memRead (bulkKey 0x11 0 (16 * i + 4 * k)) 4 bulk)
  if bit (w 0) 31 && bit (w 0) 30 then
    some {
      vid := bits (w 0) 27 16, mac := BitVec.ofNat 48 (bits (w 0) 15 0 * 2 ^ 32 + w 1), mask := bits (w 2) 23 0,
      cls := if bit (w 2) 31 then some (bits (w 2) 26 24) else none, burst := bits (w 3) 31 16 }
  else none

/-- A lookup: the mask and class of the entry whose key matches. -/
def lookup (m : Mach) (vid : Nat) (a : Mac) : Option (Nat × Option Nat) :=
  (entriesOf vid a).findSome? fun i =>
    match staticAt m.bulkF i with
    | some s => if s.vid = vid ∧ s.mac = a then some (s.mask, s.cls) else none
    | none => match kget i m.swc.learnt with
      | some l => if l.vid = vid ∧ l.mac = a then some (2 ^ l.port, none) else none
      | none => none

/-- The ports of a mask, less those R318 excludes for an ingress port. -/
def allowed (m : Mach) (ingress mask : Nat) : List Nat :=
  (List.range 24).filter fun e => bit mask e && e != ingress && e != 16 && e != 17
    && !(ingress < 16 && e < 16 && e / 2 = ingress / 2 && redMode m (e / 2) = 1)

/-- FWD_USED.learnt shown. -/
def Mach.showLearnt (m : Mach) : Mach := m.setFld FWD_USED_learnt 0 m.swc.learnt.length

/-- Learning from a frame that arrives on an external port (R325). -/
def Mach.learn (m : Mach) (ingress vid : Nat) (src : Mac) : Mach :=
  if 16 ≤ ingress || !bit (m.cfg FWD_LEARN_ports) ingress || isGroup src then m else
    let es := entriesOf vid src
    let mine := es.find? fun i => match kget i m.swc.learnt with
      | some l => l.vid = vid && l.mac = src
      | none => false
    match mine with
    | some i => { m with swc := { m.swc with learnt := m.swc.learnt.map fun e => if e.1 = i then (i, { e.2 with hit := m.now }) else e } }
    | none =>
      if (lookup m vid src).isSome then m else
        match es.find? fun i => (staticAt m.bulkF i).isNone && (kget i m.swc.learnt).isNone with
        | some i =>
          let l : Learnt := { vid := vid, mac := src, port := ingress, hit := m.now }
          ({ m with swc := { m.swc with learnt := kput i l m.swc.learnt } }.count FWD_CNT_n).showLearnt
        | none => (m.count (FWD_CNT_n.nth 1)).event 0x11 0

/-! ### Sequence numbers of redundant pairs (R306, R309, R310) -/

/-- The next number of a pair's PUB counter (R210). -/
def Mach.drawPubSeq (m : Mach) (k : Nat) : Nat × Mach :=
  let n := (kget k m.pub.pairSeq).getD 0
  (n, { m with pub := { m.pub with pairSeq := kput k ((n + 1) % 2 ^ 16) m.pub.pairSeq } })

/-- The next number of a pair's witness counter (R248). -/
def Mach.drawWitSeq (m : Mach) (k : Nat) : Nat × Mach :=
  let n := ((m.twn.witRed.find? fun e => e.1 == k).map (·.2)).getD 0
  (n, { m with twn := { m.twn with witRed := (k, (n + 1) % 2 ^ 16) :: m.twn.witRed.filter fun e => e.1 != k } })

/-- The next number of a pair's general counter. -/
def Mach.drawGenSeq (m : Mach) (k : Nat) : Nat × Mach :=
  let n := (m.pair k).seq
  (n, m.onPair k fun b => { b with seq := (n + 1) % 2 ^ 16 })

/-- The counter that fits a frame's source address (R306). -/
def Mach.drawSeq (m : Mach) (k : Nat) (src : Mac) : Nat × Mach :=
  if src = macOf m PUB_TWIN_MAC_LO_lo PUB_TWIN_MAC_HI_hi 0 then m.drawPubSeq k
  else if src = macOf m TWN_WIT_SMAC_LO_lo TWN_WIT_SMAC_HI_hi 0 then m.drawWitSeq k
  else m.drawGenSeq k

/-- An entry opened in a pair's duplicate table; a full table loses its oldest entry (R305, R308). -/
def Mach.openDup (m : Mach) (k : Nat) (d : DupEntry) : Mach :=
  let full := 8192 ≤ (m.pair k).dups.length
  let m := m.onPair k fun b => { b with dups := d :: b.dups.take 8191 }
  if full then (m.count (macCnt (2 * k) 22)).event (macPage (2 * k)) 10 else m

/-! ### Into the switch core (R318–R324, R334, R335) -/

/-- A frame that output memory does not admit is dropped (R321). -/
def Mach.memDrop (m : Mach) (e c : Nat) (capped : Bool) : Mach :=
  let m := ((m.count QOS_DROP_n e).count (SWC_CNT_n.nth 1)).event 0x10 3
  let m := if isDeadline m c then m.event 0x12 0 else m
  if capped then m.event 0x12 1 else m

/-- A frame put into one egress queue, if output memory admits it (R321). A virtual-NIC frame draws on its pool only. -/
def Mach.enqueue (m : Mach) (e : Nat) (f : TxFrame) : Mach :=
  if f.vnic.isSome then m.offer e f else
    match admits m e f.cls with
    | (true, _) => m.offer e f
    | (false, capped) => m.memDrop e f.cls capped

/-- A frame sent onto an external port. A port of a PRP or HSR pair stands for the pair: both copies carry one number,
and an HSR frame opens an own entry (R306, R309). PTP messages go per port, without either (R310). `seq` is a number
drawn already for a pair. -/
def Mach.toPort (m : Mach) (e : Nat) (f : TxFrame) (seq : Option (Nat × Nat)) : Mach :=
  let k := e / 2
  let mode := redMode m k
  if mode = 0 ∨ f.fr.etype = 0x88F7 then m.enqueue e f else
    let (n, m) := match seq with
      | some (k', n) => if k' = k then (n, m) else m.drawSeq k f.fr.src
      | none => m.drawSeq k f.fr.src
    let copy := fun (b : Bool) => { f with fr := { f.fr with
      red := if mode = 1 then .prp (BitVec.ofNat 16 n) b true else .hsr (BitVec.ofNat 16 n) } }
    let m := if mode = 2 then m.openDup k { mac := f.fr.src, seq := n, port := 2 * k, own := true, since := m.now } else m
    (m.enqueue (2 * k) (copy false)).enqueue (2 * k + 1) (copy true)

/-- A frame delivered to a virtual-NIC port: to every enabled partition on it with the frame's VID (R322). -/
def Mach.toVnic (m : Mach) (v : Nat) (fr : Frame) (vid : Nat) : Mach :=
  m.each (List.range 64) fun p m =>
    if m.on VRT_PART_CFG_en p && m.cfg VRT_PART_CFG_vnic p = v && m.cfg VRT_PART_CFG_vid p = vid then
      m.vnicRx p (frameBytes { fr with tag := .untagged })
    else m

/-- Where a frame goes: the ports, the class, whether the table hit, and whether it is flooded. -/
def destinations (m : Mach) (i : Ingress) : List Nat × Nat × Bool :=
  let cap := fun c => if i.capped then min c (topPlain m) else c
  match lookup m i.vid i.fr.dst with
  | some (mask, cls) => (allowed m i.port mask, cap (cls.getD i.cls), true)
  | none =>
    let mask := if isGroup i.fr.dst then m.cfg FWD_FLOOD_MC_mask else m.cfg FWD_FLOOD_UC_mask
    (allowed m i.port mask, cap i.cls, false)

/-- One external port of each redundant pair among the ports, and every other port. -/
def onePerPair (m : Mach) (es : List Nat) (ptp : Bool) : List Nat :=
  es.filter fun e => ptp || 16 ≤ e || redMode m (e / 2) = 0 || e % 2 = 0 || !es.contains (e - 1)

/-- The switch core's own state changed. -/
def Mach.onSwc (m : Mach) (f : Swc → Swc) : Mach := { m with swc := f m.swc }

/-- The modes as SWC_STS shows them: Pairing 0, Randing 1, changing 2. -/
def swcMode (m : Mach) : Nat := m.fld SWC_STS_mode

/-- A frame whole in the output memory of one fabric port. -/
def Mach.land (m : Mach) (p : Passage) (e : Nat) : Mach :=
  let i := p.ing
  if e < 16 then
    m.toPort e {
      fr := i.fr, cls := p.cls, pcp := i.pcp, vid := i.vid, entered := m.now, src := i.port, vnic := i.vnic,
      stamp := i.stamp } i.seq
  else if e = 20 ∨ e = 21 then m.toVnic (e - 20) i.fr i.vid
  else m.emit (.frame e i.fr)

/-- The cells of a batch of frames at their inputs. -/
def loaded (m : Mach) (ps : List Passage) : Fab :=
  ps.zipIdx.foldl (fun f p => f.load p.2 p.1.ing.port (cellsOf p.1.ing.fr.len) (isDeadline m p.1.cls) p.1.outs) m.swc.fab

/-- Every output of a batch in the order of the cells that end its frames; an output the fabric did not reach, of which
there is none, would come last. -/
def landings (ps : List Passage) (d : List Landed) : List (Passage × Nat) :=
  let all := ps.zipIdx.flatMap fun p => p.1.outs.map fun o => (p.2, o)
  ((d.filter fun l => all.contains l) ++ all.filter fun l => !d.contains l).filterMap fun l => ps[l.1]?.map fun p => (p, l.2)

/-- A batch of frames taken across the fabric in the mode in force (R326, R329, R333). -/
def Mach.cross (m : Mach) (ps : List Passage) : Mach :=
  let (f, d) := (loaded m ps).carry (swcMode m == 1)
  (m.onSwc fun c => { c with fab := f }).each (landings ps d) fun l m => m.land l.1 l.2

/-- A frame handed to its destinations; while the mode changes it waits at its input (R332). -/
def Mach.forward (m : Mach) (i : Ingress) (es : List Nat) (cls : Nat) : Mach :=
  let p : Passage := { ing := i, outs := onePerPair m es (i.fr.etype == 0x88F7), cls := cls }
  if swcMode m = 2 then m.onSwc fun c => { c with waiting := c.waiting ++ [p] } else m.cross [p]

/-- A mode starts at a turn boundary, and the frames that waited at the inputs go on (R332). -/
def Mach.startMode (m : Mach) (mode : Nat) : Mach :=
  let ps := m.swc.waiting
  ((m.setFld SWC_STS_mode 0 mode).onSwc fun c =>
    { c with changing := none, waiting := [], fab := { c.fab with turn := 0 } }).cross ps

/-- A frame whose tail is good is forwarded; a flooded one is counted (R324, R325). -/
def Mach.inject (m : Mach) (i : Ingress) : Mach :=
  let (es, cls, hit) := destinations m i
  let m := m.learn i.port i.vid i.fr.src
  let m := if hit && es.isEmpty then m.count (SWC_CNT_n.nth 3)
    else if !hit && !es.isEmpty then m.count (SWC_CNT_n.nth 4) else m
  m.forward i es cls

/-- Would a copy leave before the frame's tail? Its class is a deadline class, the table hit, its ingress rate is at least
the egress rate, and the port is free to start (R334). An internal port takes every cell as it comes. -/
def cutsThrough (m : Mach) (i : Ingress) (cls : Nat) (hit : Bool) (e : Nat) : Bool :=
  hit && isDeadline m cls && (16 ≤ e || (decide (rateOf m e ≤ rateOf m i.port) && canStart m e && (m.port e).queue.isEmpty))

/-- A frame whose tail is bad: stomped on every copy when its head has left, else dropped (R334, R335). -/
def Mach.injectBad (m : Mach) (i : Ingress) : Mach :=
  let (es, cls, hit) := destinations m i
  if es.any (cutsThrough m i cls hit) then
    ((m.forward { i with fr := { i.fr with fcs := .stomp } } es cls).count SWC_CNT_n).event 0x10 2
  else (m.count (SWC_CNT_n.nth 2)).event 0x10 8

end Sys2Proof.Machine
end

