-- ==== Sys2Proof/Machine/Mac.lean ====
section
/-! DEFINITION. The MACs (R291–R317): link states, receiving, tagging, pause, EEE and LLDP, PRP and HSR, and the commands of
a port. -/

namespace Sys2Proof.Machine

/-! ### Energy-efficient Ethernet and LLDP (R303, R304) -/

/-- The address LLDP is sent to, 01-80-C2-00-00-0E. -/
def lldpAddr : Mac := 0x0180C200000E

/-- The EEE LLDPDU sent: Receive Tw is tw_def, TTL 120 s; the interval starts again. It carries no tag and waits in class 0 (log
12). -/
def Mach.sendLldp (m : Mach) (e : Nat) : Mach :=
  let fr : Frame := {
    dst := lldpAddr, src := portAddr m e, tag := .untagged, etype := 0x88CC, len := 64, fcs := .good, codeErr := false,
    sec := none, red := .plain, body := .lldp (some (BitVec.ofNat 16 (m.cfg (MAC_EEE_tw_def.onPort e)))) 120 }
  let m := m.offer e {
    fr := fr, cls := 0, pcp := 0, vid := m.cfg (MAC_VLAN_pvid.onPort e), entered := m.now, src := e, vnic := none, stamp := none }
  m.arm (.lldp e) (m.now + 30000000000)

/-- The wake time resolved again: a change sets event bit [12] and is sent at once (R303, R304). -/
def Mach.resolveTw (m : Mach) (e : Nat) : Mach :=
  let tw := max (m.cfg (MAC_EEE_tw_def.onPort e)) ((m.port e).tw.getD 0)
  if m.fld (MAC_EEE_STS_tw_res.onPort e) = tw then m else
    ((m.setFld (MAC_EEE_STS_tw_res.onPort e) 0 tw).event (macPage e) 12).sendLldp e

/-- A partner's LLDPDU: its EEE TLV is in force until its TTL ends (R303). -/
def Mach.lldpRx (m : Mach) (e : Nat) (tw : Option (BitVec 16)) (ttl : Nat) : Mach :=
  match tw with
  | none => m
  | some w =>
    let m := m.onPort e fun b => { b with tw := some w.toNat }
    ((m.setFlag (MAC_EEE_STS_tlv_rx.onPort e) 0 true).arm (.eeeTlv e) (m.now + ttl * 1000000000)).resolveTw e

/-! ### Link states (R293, R294, R314) -/

/-- The queue of a port flushed: every frame counted, event bit [2] set (R294, R314). -/
def Mach.flushPort (m : Mach) (e : Nat) : Mach :=
  let n := (m.port e).queue.length
  (((m.onPort e fun b => { b with queue := [], waking := false }).count (macCnt e 16) 0 n).showMem).event (macPage e) 2

/-- The port stops sending: the frame in transmission is aborted, a pause ends, low-power idle is left (R301, R314). -/
def Mach.stopPort (m : Mach) (e : Nat) : Mach :=
  let m := if (m.port e).sending.isSome then (m.onPort e fun b => { b with sending := none }).count (macCnt e 14) else m
  let m := ((m.endPause e).disarm (.eeeIdle e)).disarm (.eeeWake e)
  (m.setFlag (MAC_EEE_STS_lpi.onPort e) 0 false).onPort e fun b => { b with waking := false }

/-- Up is left: to Held, or with a hold time of 0 to Down with the flush (R293, R314). -/
def Mach.leaveUp (m : Mach) (e : Nat) : Mach :=
  let m := ((m.stopPort e).count (macCnt e 13)).event (macPage e) 0
  let hold := m.cfg (MAC_HOLD_hold.onPort e)
  if hold = 0 then (m.setFld (MAC_STS_link.onPort e) 0 1).flushPort e
  else (m.setFld (MAC_STS_link.onPort e) 0 3).arm (.linkHold e) (m.now + hold * 1000000)

/-- Up is entered: the speed in force is the one configured, surviving frames leave (R88, R293, R314). -/
def Mach.enterUp (m : Mach) (e : Nat) : Mach :=
  let m := (m.setFld (MAC_STS_link.onPort e) 0 2).setFld (MAC_STS_speed.onPort e) 0 (m.cfg (MAC_CTRL_speed.onPort e))
  let m := (m.disarm (.linkHold e)).event (macPage e) 1
  let m := if m.on (MAC_EEE_en.onPort e) then m.sendLldp e else m
  m.kick e

/-- Lock without a fault; SGMII also needs 1000 Mb/s (R292, R293). -/
def linkGood (m : Mach) (e : Nat) : Bool :=
  let b := m.port e
  m.flag (MAC_STS_lock.onPort e) && !b.fault && (b.sgmiiOk || !m.on (MAC_CTRL_if1g.onPort e))

/-- The debounce that the link's condition calls for in its state. -/
def Mach.debounceLink (m : Mach) (e : Nat) : Mach :=
  let good := linkGood m e
  match linkOf m e with
  | 0 => m
  | 2 =>
    if good then m.disarm (.downDebounce e)
    else if m.running (.downDebounce e) then m else m.arm (.downDebounce e) (m.now + m.cfg (MAC_LINK_down_db.onPort e) * 1000)
  | _ =>
    if !good then m.disarm (.upDebounce e)
    else if m.running (.upDebounce e) then m else m.arm (.upDebounce e) (m.now + m.cfg (MAC_LINK_up_db.onPort e) * 1000000)

/-- Lock, fault and SGMII speed as the PCS reports them. -/
def Mach.lockChange (m : Mach) (e : Nat) (lock fault sgmiiOk : Bool) : Mach :=
  let m := (m.setFlag (MAC_STS_lock.onPort e) 0 lock).onPort e fun b => { b with fault := fault, sgmiiOk := sgmiiOk }
  m.debounceLink e

/-- PAGE_CTRL.enable of a MAC page: 1 leaves Disabled for Down, 0 enters Disabled (R293). -/
def Mach.macEnable (m : Mach) (e : Nat) (on : Bool) : Mach :=
  if on then
    if linkOf m e = 0 then (m.setFld (MAC_STS_link.onPort e) 0 1).debounceLink e else m
  else
    let m := ((m.stopPort e).disarm (.upDebounce e)).disarm (.downDebounce e)
    let m := if linkOf m e = 0 then m else m.flushPort e
    (m.disarm (.linkHold e)).setFld (MAC_STS_link.onPort e) 0 0

/-- An admitted change of speed or FEC: Down, with the flush (R294). -/
def Mach.speedChange (m : Mach) (e : Nat) : Mach :=
  if linkOf m e = 0 then m else
    let m := if linkOf m e = 2 then ((m.stopPort e).count (macCnt e 13)).event (macPage e) 0 else m
    let m := ((m.disarm (.linkHold e)).disarm (.downDebounce e)).disarm (.upDebounce e)
    ((m.setFld (MAC_STS_link.onPort e) 0 1).flushPort e).debounceLink e

/-- What an admitted change of EEE settings brings: the agent starts or stops (R303, R304). -/
def Mach.eeeChange (m : Mach) (e : Nat) : Mach :=
  if m.on (MAC_EEE_en.onPort e) then
    let m := m.resolveTw e
    (if m.running (.lldp e) then m else m.sendLldp e).kick e
  else
    let m := (((m.disarm (.lldp e)).disarm (.eeeIdle e)).disarm (.eeeTlv e)).disarm (.eeeWake e)
    let m := (m.setFlag (MAC_EEE_STS_lpi.onPort e) 0 false).setFlag (MAC_EEE_STS_tlv_rx.onPort e) 0 false
    (m.onPort e fun b => { b with tw := none, waking := false }).kick e

/-! ### Receiving (R295–R301) -/

/-- The length of a pause in ns: quanta of 512 bit times at the port's speed (R301). -/
def pauseNs (m : Mach) (e q : Nat) : Nat :=
  match m.fld (MAC_STS_speed.onPort e) with
  | 0 => q * 512
  | 1 => q * 512 / 10
  | _ => q * 512 / 25

/-- A MAC control frame (R301). -/
def Mach.controlRx (m : Mach) (e : Nat) (fr : Frame) : Mach :=
  match fr.body with
  | .pause op q =>
    let lenOk := match fr.tag with
      | .untagged => fr.len == 64
      | _ => fr.len == 68
    if (fr.dst = 0x0180C2000001 ∨ fr.dst = portAddr m e) ∧ op = 1 ∧ lenOk = true then
      if !m.on (MAC_PAUSE_honour.onPort e) then (m.count (macCnt e 9)).event (macPage e) 8
      else
        let m := (m.count (macCnt e 8)).event (macPage e) 7
        if q = 0 then (m.endPause e).kick e
        else if linkOf m e ≠ 2 then m
        else if (m.port e).sending.isSome then m.onPort e fun b => { b with pauseNext := some (pauseNs m e q.toNat) }
        else m.beginPause e (pauseNs m e q.toNat)
    else m.count (macCnt e 10)
  | _ => m.count (macCnt e 10)

/-- CRC-32 of IEEE 802.3 over some bytes. -/
def crc32 (bs : List Byte) : Word := ~~~ (bs.foldl (crcByte 0xEDB88320#32) 0xFFFFFFFF#32)

/-- The index of an address in the group filter: the first 12 FCS bits sent, the first of them as bit 11 (R300). The
reflected register holds the coefficient of x^31 in bit 0. -/
def filterIndex (a : Mac) : Nat :=
  let c := crc32 (bytesBE 6 a.toNat)
  (List.range 12).foldl (fun n i => n * 2 + (c.getLsbD i).toNat) 0

/-- Does a group address pass the filter? Broadcast and link-local addresses are never filtered (R300). -/
def filterPasses (m : Mach) (e : Nat) (a : Mac) : Bool :=
  let i := filterIndex a
  !m.on (MAC_FILT_en.onPort e) || !isGroup a || a = 0xFFFFFFFFFFFF || linkLocal a
    || bit (memGet (bulkKey (0x20 + e) 0 (i / 8)) m.bulkF).toNat (i % 8)

/-- The VID and PCP of a frame by its first tag (R297); none for VID 4,095. -/
def classify (m : Mach) (e : Nat) (tag : Tag) : Option (Nat × Nat) :=
  let pvid := m.cfg (MAC_VLAN_pvid.onPort e)
  let pcp := m.cfg (MAC_VLAN_pcp.onPort e)
  match tag with
  | .untagged => some (pvid, pcp)
  | .priority p => some (pvid, p)
  | .ctag v p => if v.val = 4095 then none else some (if v.val = 0 then pvid else v, p)
  | .stacked => some (pvid, pcp)

/-- Tag acceptance (R298): stacked frames count as untagged. -/
def accepts (m : Mach) (e : Nat) (tag : Tag) : Bool :=
  match m.cfg (MAC_VLAN_accept.onPort e), tag with
  | 0, _ => true
  | 1, .ctag v _ => v.val != 0
  | 1, _ => false
  | _, .ctag v _ => v.val == 0
  | _, _ => true

/-- Check 2: a SecTAG with the configured SCI and a packet number above the last accepted. -/
def secHeadOk (m : Mach) (e : Nat) (fr : Frame) : Bool :=
  match fr.sec with
  | some s => s.sci == Config.rxSci e && decide ((m.port e).rxPn < s.pn)
  | none => false

/-- Check 3: the integrity value under the key of rx or of rx_next. -/
def secIcvOk (m : Mach) (e : Nat) (fr : Frame) : Bool :=
  match fr.sec with
  | some s =>
    let ok := fun (slot : Nat) => match m.keyFor slot 3 with
      | some k => Config.gcmIcv (m.on (MAC_MSEC_xpn.onPort e)) k s.sci s.pn s.covered == s.icv
      | none => false
    ok (m.cfg (MAC_MSEC_rx.onPort e)) || ok (m.cfg (MAC_MSEC_rx_next.onPort e))
  | none => false

/-! ### PRP and HSR (R307–R309) -/

/-- A key's entry in a pair's table. -/
def findDup (m : Mach) (k : Nat) (a : Mac) (seq : Nat) : Option DupEntry := (m.pair k).dups.find? fun d => d.mac = a ∧ d.seq = seq

/-- A key's entry closed. -/
def Mach.closeDup (m : Mach) (k : Nat) (a : Mac) (seq : Nat) : Mach :=
  m.onPair k fun b => { b with dups := b.dups.filter fun d => !(d.mac = a && d.seq = seq) }

/-- The length of a received frame without redundancy and MACsec. -/
def bareLen (m : Mach) (e : Nat) (fr : Frame) : Nat :=
  fr.len - redBytes fr.red - (if m.on (MAC_MSEC_en.onPort e) && fr.sec.isSome then 32 else 0)

/-- A classified frame as the switch core takes it in. -/
def ingressOf (m : Mach) (e : Nat) (fr : Frame) (vid pcp : Nat) : Ingress :=
  { fr := { fr with red := .plain, sec := none, len := bareLen m e fr }, port := e, vid := vid, pcp := pcp, cls := classOf m pcp }

/-- A frame handed to the switch core, or stomped or dropped there when its tail is bad. -/
def Mach.handOver (m : Mach) (e : Nat) (fr : Frame) (vid pcp : Nat) (bad : Bool) : Mach :=
  let i := ingressOf m e fr vid pcp
  if bad then m.injectBad i else (m.count (macCnt e 0)).inject i

/-- Redundancy handling of a PRP pair (R307, R310). Supervision frames are consumed. -/
def Mach.prpRx (m : Mach) (e : Nat) (fr : Frame) (vid pcp : Nat) (bad : Bool) : Mach :=
  let k := e / 2
  if fr.body = .supervision then (if bad then m else m.count (macCnt e 25)) else
  match fr.red with
  | .prp seq lanB true =>
    let m := if lanB != (e % 2 == 1) then (m.count (macCnt e 20)).event (macPage e) 9 else m
    if (findDup m k fr.src seq.toNat).isSome then (m.closeDup k fr.src seq.toNat).count (macCnt e 19)
    else
      let m := if bad then m else m.openDup k { mac := fr.src, seq := seq.toNat, port := e, own := false, since := m.now }
      m.handOver e fr vid pcp bad
  | _ => (m.count (macCnt e 21)).handOver e fr vid pcp bad

/-- Redundancy handling of an HSR pair (R309, R310): own frames leave the ring, repeats of the other ring port are not forwarded, any
other frame opens an entry and goes on to the other ring port and, for a group address or the port's own, to the switch core. -/
def Mach.hsrRx (m : Mach) (e : Nat) (fr : Frame) (vid pcp : Nat) (bad : Bool) : Mach :=
  let k := e / 2
  let other := if e % 2 = 0 then e + 1 else e - 1
  match fr.red with
  | .hsr seq =>
    let m := if !bad && fr.body == .supervision then m.count (macCnt e 25) else m
    let prior := (findDup m k fr.src seq.toNat).filter fun d => d.own || d.port != e
    match prior with
    | some d => m.count (macCnt e (if d.own then 23 else 19))
    | none =>
      let ring : TxFrame := {
        fr := { fr with sec := none, len := bareLen m e fr, fcs := if bad then .stomp else fr.fcs }, cls := classOf m pcp, pcp := pcp, vid := vid, entered := m.now,
        src := e, vnic := none, stamp := none }
      let m := if bad then m else
        (m.closeDup k fr.src seq.toNat).openDup k { mac := fr.src, seq := seq.toNat, port := e, own := false, since := m.now }
      let m := if !bad || cutsThrough m (ingressOf m e fr vid pcp) (classOf m pcp) true other then m.enqueue other ring else m
      if isGroup fr.dst || fr.dst = portAddr m e then m.handOver e fr vid pcp bad else m
  | _ => (m.count (macCnt e 24)).event (macPage e) 11

/-- A frame at a port (R295), in the order of its checks; PTP frames take no redundancy handling (R310). Frames reach the MAC only while the port is Up (log 12). -/
def Mach.frameRx (m : Mach) (e : Nat) (fr : Frame) : Mach :=
  if linkOf m e ≠ 2 then m else
  let m := m.count64 (MAC_RX_OCT_LO_w.onPort e) (MAC_RX_OCT_HI_w.onPort e) 0 fr.len
  if !rxRoom m (12 + e) (beatsOf fr.len) then ((m.count (macCnt e 7)).event (macPage e) 5).event 0x37 2 else
  let m := m.sendBeats (12 + e) (beatsOf fr.len)
  let lenBad := !(decide (64 ≤ fr.len ∧ fr.len ≤ 1560)) || fr.codeErr
  let control := fr.etype == 0x8808
  let local_ := linkLocal fr.dst
  let secOn := secures m e fr
  let m := if lenBad then m.count (macCnt e 4) else m
  if !lenBad && secOn && !secHeadOk m e fr then (m.count (macCnt e 18)).event (macPage e) 6
  else
    let icvBad := !lenBad && secOn && !secIcvOk m e fr
    let m := if icvBad then (m.count (macCnt e 18)).event (macPage e) 6 else m
    let fcsBad := !lenBad && !icvBad && fr.fcs != .good
    let m := if fcsBad then (m.count (macCnt e (if fr.fcs = .stomp then 3 else 2))).event (macPage e) 4 else m
    let bad := lenBad || icvBad || fcsBad
    let m := if secOn && !bad then m.onPort e fun b => { b with rxPn := (fr.sec.map (·.pn)).getD b.rxPn } else m
    if control then (if bad then m else m.controlRx e fr)
    else if local_ then
      (if bad then m
       else match fr.body, fr.etype == 0x88F7 with
         | _, true => m.emit (.frame e fr)
         | .lldp tw ttl, _ =>
           if m.on (MAC_EEE_en.onPort e) then m.lldpRx e tw ttl.toNat else m.count (macCnt e 11)
         | _, _ => m.count (macCnt e 11))
    else if !filterPasses m e fr.dst then (if bad then m else m.count (macCnt e 5))
    else match classify m e fr.tag with
      | none => if bad then m else m.count (macCnt e 6)
      | some (vid, pcp) =>
        if !accepts m e fr.tag then (if bad then m else m.count (macCnt e 6))
        else match (if fr.etype = 0x88F7 then 0 else redMode m (e / 2)) with
          | 0 => m.handOver e fr vid pcp bad
          | 1 => m.prpRx e fr vid pcp bad
          | _ => m.hsrRx e fr vid pcp bad

/-! ### Supervision (R310) -/

/-- The supervision frames of a pair, for PUB_TWIN_MAC and, with the twin enabled, for TWN_WIT_SMAC. -/
def Mach.sendSupervision (m : Mach) (k : Nat) : Mach :=
  let one := fun (src : Mac) (m : Mach) =>
    let fr : Frame := {
      dst := 0x01154E000100, src := src, tag := .untagged, etype := 0x88FB, len := 64, fcs := .good, codeErr := false, sec := none,
      red := .plain, body := .supervision }
    m.toPort (2 * k) {
      fr := fr, cls := 0, pcp := 0, vid := m.cfg (MAC_VLAN_pvid.onPort (2 * k)), entered := m.now, src := 2 * k, vnic := none,
      stamp := none } none
  let m := one (macOf m PUB_TWIN_MAC_LO_lo PUB_TWIN_MAC_HI_hi 0) m
  let m := if m.on TWN_CFG_en then one (macOf m TWN_WIT_SMAC_LO_lo TWN_WIT_SMAC_HI_hi 0) m else m
  m.arm (.supRed k) (m.now + m.cfg (MAC_RED_sup_int.onPort (2 * k)) * 1000000)

/-! ### The commands of a port -/

/-- R295: MAC_FRAME_RX. -/
def execMacFrameRx (t : Nat) (port : Fin 16) (fr : Frame) (s : State) : Host.Outcome State Fault Refusal :=
  s.run t fun m => m.frameRx port fr

/-- R293: LINK_LOCK_CHANGE. -/
def execLinkLockChange (t : Nat) (port : Fin 16) (lock fault sgmiiOk : Bool) (s : State) : Host.Outcome State Fault Refusal :=
  s.run t fun m => m.lockChange port lock fault sgmiiOk

/-- R293: UP_DEBOUNCE_EXPIRY. Up wins over a hold that expires with it (R315). -/
def execUpDebounceExpiry (t : Nat) (port : Fin 16) (s : State) : Host.Outcome State Fault Refusal :=
  s.run t fun m => m.onExpiry (.upDebounce port) fun m => m.enterUp port

/-- R293: DOWN_DEBOUNCE_EXPIRY. -/
def execDownDebounceExpiry (t : Nat) (port : Fin 16) (s : State) : Host.Outcome State Fault Refusal :=
  s.run t fun m => m.onExpiry (.downDebounce port) fun m => m.leaveUp port

/-- R314: LINK_HOLD_EXPIRY. -/
def execLinkHoldExpiry (t : Nat) (port : Fin 16) (s : State) : Host.Outcome State Fault Refusal :=
  s.run t fun m => m.onExpiry (.linkHold port) fun m =>
    if m.due (.upDebounce port) then (m.disarm (.upDebounce port)).enterUp port
    else (m.setFld (MAC_STS_link.onPort port) 0 1).flushPort port

/-- R301: PAUSE_EXPIRY. -/
def execPauseExpiry (t : Nat) (port : Fin 16) (s : State) : Host.Outcome State Fault Refusal :=
  s.run t fun m => m.onExpiry (.pause port) fun m => (m.endPause port).kick port

/-- R303: EEE_IDLE_EXPIRY. -/
def execEeeIdleExpiry (t : Nat) (port : Fin 16) (s : State) : Host.Outcome State Fault Refusal :=
  s.run t fun m => m.onExpiry (.eeeIdle port) fun m =>
    (m.setFlag (MAC_EEE_STS_lpi.onPort port) 0 true).count (macCnt port 12)

/-- R303: EEE_WAKE_COMPLETE. -/
def execEeeWakeComplete (t : Nat) (port : Fin 16) (s : State) : Host.Outcome State Fault Refusal :=
  s.run t fun m => m.onExpiry (.eeeWake port) fun m =>
    ((m.setFlag (MAC_EEE_STS_lpi.onPort port) 0 false).onPort port fun b => { b with waking := false }).kick port

/-- R303: EEE_TLV_TTL_EXPIRY. -/
def execEeeTlvTtlExpiry (t : Nat) (port : Fin 16) (s : State) : Host.Outcome State Fault Refusal :=
  s.run t fun m => m.onExpiry (.eeeTlv port) fun m =>
    ((m.onPort port fun b => { b with tw := none }).setFlag (MAC_EEE_STS_tlv_rx.onPort port) 0 false).resolveTw port

/-- R304: LLDP_INTERVAL. -/
def execLldpInterval (t : Nat) (port : Fin 16) (s : State) : Host.Outcome State Fault Refusal :=
  s.run t fun m => m.onExpiry (.lldp port) fun m => m.sendLldp port

/-- R313: FRAME_LIFETIME_EXPIRY. -/
def execFrameLifetimeExpiry (t : Nat) (port : Fin 16) (cls : Fin 8) (s : State) : Host.Outcome State Fault Refusal :=
  s.run t fun m =>
    let (dead, live) := splitBy (fun f => f.cls = cls.val && expired m port f) (m.port port).queue
    if dead.isEmpty then m else
      ((((m.onPort port fun b => { b with queue := live }).showMem).count (macCnt port 15) 0 dead.length).event (macPage port) 3).kick
        port

/-- R337: TX_FRAME_COMPLETE. -/
def execTxFrameComplete (t : Nat) (port : Fin 16) (s : State) : Host.Outcome State Fault Refusal :=
  s.run t fun m => m.txDone port

/-- R305: DUPLICATE_ENTRY_FORGET. -/
def execDuplicateEntryForget (t : Nat) (pair : Fin 8) (mac : Mac) (seq : BitVec 16) (s : State) :
    Host.Outcome State Fault Refusal :=
  s.run t fun m =>
    let forget := m.cfg (MAC_RED_forget.onPort (2 * pair)) * 1000000
    m.onPair pair fun b => { b with
      dups := b.dups.filter fun d => !(d.mac = mac && d.seq = seq.toNat && decide (forget ≤ m.now - d.since)) }

/-- R310: RED_SUPERVISION_INTERVAL. -/
def execRedSupervisionInterval (t : Nat) (pair : Fin 8) (s : State) : Host.Outcome State Fault Refusal :=
  s.run t fun m => m.onExpiry (.supRed pair) fun m => if redMode m pair = 0 then m else m.sendSupervision pair

end Sys2Proof.Machine
end

