-- ==== Sys2Proof/Machine/Switch.lean ====
section
/-! DEFINITION. The switch core's modes (R326–R332, R336, R340), the age of learnt entries (R325), and what a new
forwarding table does to them. -/

namespace Sys2Proof.Machine

/-- The change to Pairing for a reason (R330, R332). A change to Randing in progress ends in Pairing at once; in Pairing
nothing changes. -/
def Mach.toPairing (m : Mach) (cause : Nat) : Mach :=
  match swcMode m, m.swc.changing with
  | 0, _ => m
  | 2, some 1 => (m.startMode 0).onSwc fun c => { c with permit := false }
  | 2, _ => m
  | _, _ =>
    ((m.setFld SWC_STS_cause 0 cause).setFld SWC_STS_mode 0 2).onSwc fun c =>
      { c with changing := some 0, passed := false, permit := false }

/-- A fabric fault (R330): the quiet time begins again. -/
def Mach.swcFault (m : Mach) (cause : Nat) : Mach := (m.onSwc fun c => { c with faultAt := some m.now }).toPairing cause

/-- The conditions of R331 for leaving Pairing. -/
def mayRand (m : Mach) : Bool :=
  swcMode m == 0 && m.swc.passed && (m.on SWC_CFG_auto || m.swc.permit)
    && (match m.swc.faultAt with
        | some f => decide (f + m.cfg SWC_CFG_quiet * 1000000 ≤ m.now)
        | none => true)

/-- Pairing is left for Randing when R331 allows it. -/
def Mach.tryRanding (m : Mach) : Mach :=
  if mayRand m then (m.setFld SWC_STS_mode 0 2).onSwc fun c => { c with changing := some 1 } else m

/-- The self-test starts (R331). -/
def Mach.startSelfTest (m : Mach) : Mach := (m.setFld SWC_STS_test 0 1).onSwc fun c => { c with passed := false }

/-- SWC_CMD (R330, R331). -/
def Mach.swcCommand (m : Mach) (w : Nat) : Mach :=
  let m := if bit w 2 then m.toPairing 5 else m
  let m := if bit w 1 then (m.toPairing 1).startSelfTest else m
  if bit w 0 then (m.onSwc fun c => { c with permit := true }).tryRanding else m

/-- A mode change completes (R332). -/
def Mach.modeDone (m : Mach) : Mach :=
  match m.swc.changing with
  | some 1 => ((m.startMode 1).count (SWC_CNT_n.nth 7)).event 0x10 1
  | some _ => ((m.startMode 0).count (SWC_CNT_n.nth 7)).event 0x10 0
  | none => m

/-- A static entry that lands where a learnt one stands replaces it (R325); FWD_USED follows. -/
def Mach.fwdApply (m : Mach) : Mach :=
  let base := bulkKey 0x11 0 0
  let statics := (m.bulkF.filter fun c => base ≤ c.1 && c.1 < base + 16 * 16384 && (c.1 - base) % 16 = 0 && 0xC0 ≤ c.2.toNat).map
    fun c => (c.1 - base) / 16
  let (lost, kept) := splitBy (fun e : Nat × Learnt => statics.contains e.1) m.swc.learnt
  let m := (m.onSwc fun c => { c with learnt := kept }).setFld FWD_USED_static 0 statics.length
  let m := m.showLearnt
  if lost.isEmpty then m else m.event 0x11 2

/-- R327: RESEQUENCING_TIMEOUT: cells are resequenced only outside Pairing. -/
def execResequencingTimeout (t : Nat) (s : State) : Host.Outcome State Fault Refusal :=
  s.run t fun m => if swcMode m = 0 then m else ((m.count (SWC_CNT_n.nth 5)).event 0x10 4).swcFault 4

/-- R330: CELL_ECC_ERROR. -/
def execCellEccError (t : Nat) (s : State) : Host.Outcome State Fault Refusal :=
  s.run t fun m => ((m.count (SWC_CNT_n.nth 6)).event 0x10 5).swcFault 3

/-- R336: CUT_THROUGH_UNDERRUN: the frame in transmission ends with the stomp code. -/
def execCutThroughUnderrun (t : Nat) (port : Fin 16) (s : State) : Host.Outcome State Fault Refusal :=
  s.run t fun m =>
    match (m.port port).sending with
    | some f =>
      let m := m.emitFrame port { f with fr := { f.fr with fcs := .stomp } }
      let m := (((m.onPort port fun b => { b with sending := none }).showMem).count SWC_CNT_n).event 0x10 2
      m.kick port
    | none => m

/-- R331: SELF_TEST_COMPLETE. -/
def execSelfTestComplete (t : Nat) (pass : Bool) (s : State) : Host.Outcome State Fault Refusal :=
  s.run t fun m =>
    if m.fld SWC_STS_test = 1 then
      if pass then ((m.setFld SWC_STS_test 0 2).onSwc fun c => { c with passed := true }).tryRanding
      else (m.setFld SWC_STS_test 0 3).event 0x10 6
    else m

/-- R331: QUIET_PERIOD_EXPIRY. -/
def execQuietPeriodExpiry (t : Nat) (s : State) : Host.Outcome State Fault Refusal := s.run t fun m => m.tryRanding

/-- R332: MODE_CHANGE_COMPLETE. -/
def execModeChangeComplete (t : Nat) (s : State) : Host.Outcome State Fault Refusal := s.run t fun m => m.modeDone

/-- R325: FWD_ENTRY_AGE_OUT. -/
def execFwdEntryAgeOut (t : Nat) (entry : Fin 16384) (s : State) : Host.Outcome State Fault Refusal :=
  s.run t fun m =>
    match kget entry m.swc.learnt with
    | some l =>
      if l.hit + m.cfg FWD_AGE_age * 1000000000 ≤ m.now then
        (((m.onSwc fun c => { c with learnt := kdel entry c.learnt }).showLearnt).count (FWD_CNT_n.nth 2)).event 0x11 1
      else m
    | none => m

end Sys2Proof.Machine
end

