-- ==== Sys2Proof/Machine/Plait.lean ====
section
/-! DEFINITION. The Plait link (R228–R233): lanes, protection, lane sequencing, acknowledgement and replay, ordered delivery,
and supervision. What the messages mean is in Twin.lean. -/

namespace Sys2Proof.Machine

/-! ### Lanes -/

/-- The twin's own state changed. -/
def Mach.onTwn (m : Mach) (f : Twn → Twn) : Mach := { m with twn := f m.twn }

/-- A lane. -/
def laneOf (m : Mach) (l : Nat) : Lane := if l = 0 then m.twn.lane0 else m.twn.lane1

/-- A lane changed. -/
def Mach.onLane (m : Mach) (l : Nat) (f : Lane → Lane) : Mach :=
  m.onTwn fun t => if l = 0 then { t with lane0 := f t.lane0 } else { t with lane1 := f t.lane1 }

/-- A lane's state as PLT_STS shows it: Down 0, Training 1, Up 2, out of service 3. -/
def laneState (m : Mach) (l : Nat) : Nat := if l = 0 then m.fld PLT_STS_lane0 else m.fld PLT_STS_lane1

/-- A lane's state shown. -/
def Mach.setLane (m : Mach) (l v : Nat) : Mach := if l = 0 then m.setFld PLT_STS_lane0 0 v else m.setFld PLT_STS_lane1 0 v

/-- Plait is not declared lost (PLT_STS.up). -/
def plaitUp (m : Mach) : Bool := m.flag PLT_STS_up

/-- PLT_STS.up and its mirror in TWN_STS. -/
def Mach.setPlaitUp (m : Mach) (b : Bool) : Mach := (m.setFlag PLT_STS_up 0 b).setFlag TWN_STS_plait_up 0 b

/-- A 64-bit value shown in a LO and HI register. -/
def Mach.show64 (m : Mach) (lo hi : Fd) (v : Nat) : Mach := (m.setFld lo 0 (v % 2 ^ 32)).setFld hi 0 (v / 2 ^ 32 % 2 ^ 32)

/-- A 64-bit value held in a LO and HI register. -/
def fld64 (m : Mach) (lo hi : Fd) : Nat := m.fld hi * 2 ^ 32 + m.fld lo

/-- TWN_TICK_OFS (R234). -/
def tickOfs (m : Mach) : Int := asSigned 64 (fld64 m TWN_TICK_OFS_LO_w TWN_TICK_OFS_HI_w)

/-- The pair tick number of an SVI tick number (R234). -/
def pairTick (m : Mach) (n : Nat) : Nat := ((n : Int) + tickOfs m).toNat

/-- Is a message in the copy class? (R230) -/
def copyClass : PlaitMsg → Bool
  | .frec _ | .cut _ | .cend _ | .cack _ => true
  | _ => false

/-! ### Sending (R229, R231) -/

/-- The header of a frame sent on a lane: its sequence numbers, the cumulative acknowledgement of the other direction, and its protection
with the transmit key under a packet number (R229, R231). -/
def plaitHdr (m : Mach) (l seq link pn : Nat) (msg : PlaitMsg) : PlaitHdr :=
  let ack := ((laneOf m l).rxSeq + 2 ^ 16 - 1) % 2 ^ 16
  let sci := Config.txSci (16 + l)
  let covered := Config.plaitBytes seq ack link msg
  let icv := match m.keyFor (m.cfg PLT_SAK_tx) 3 with
    | some k => Config.gcmIcv true k sci pn covered
    | none => 0
  {
    lane := ⟨l % 2, Nat.mod_lt _ (by decide)⟩, laneSeq := BitVec.ofNat 16 seq, ack := BitVec.ofNat 16 ack, linkSeq := BitVec.ofNat 32 link
    sec := { sci := sci, pn := pn, icv := icv, covered := covered } }

/-- A frame leaves on a lane and waits for its acknowledgement; the idle and replay timers follow. -/
def Mach.sendOn (m : Mach) (l link tries : Nat) (msg : PlaitMsg) : Mach :=
  let b := laneOf m l
  let m := m.onLane l fun b => { b with
    txSeq := (b.txSeq + 1) % 2 ^ 16, txPn := b.txPn + 1
    unacked := b.unacked ++ [{ seq := b.txSeq, link := link, tries := tries, sentAt := m.now, msg := msg }] }
  let m := m.arm (.keepIdle l) (m.now + 50000)
  let m := if m.running (.replay l) then m else m.arm (.replay l) (m.now + m.cfg PLT_REPLAY_interval * 1000)
  m.emit (.plait (plaitHdr m l b.txSeq link (b.txPn + 1) msg) msg)

/-- Does the module hold the key it sends with? Without it nothing leaves (R255 step 4). -/
def mayPlait (m : Mach) : Bool := m.on TWN_CFG_en && (m.keyFor (m.cfg PLT_SAK_tx) 3).isSome

/-- The lane the next message takes: of those Up with room for an unacknowledged frame, the one with fewest, lane 0 first
(log 13). -/
def pickLane (m : Mach) : Option Nat :=
  let room := fun l => laneState m l == 2 && decide ((laneOf m l).unacked.length < 256)
  match room 0, room 1 with
  | true, true => some (if (laneOf m 1).unacked.length < (laneOf m 0).unacked.length then 1 else 0)
  | true, false => some 0
  | false, true => some 1
  | false, false => none

/-- The next message to leave: those of a lane that failed, in link order (R232); then the in-step class before the copy class (R230). A
message of a class takes the next link sequence number. -/
def Mach.nextPlait (m : Mach) : Option (Nat × PlaitMsg) × Mach :=
  match m.twn.resendQ with
  | e :: rest => (some e, m.onTwn fun t => { t with resendQ := rest })
  | [] => match (m.twn.sendQ.find? fun x => !copyClass x).or m.twn.sendQ.head? with
    | some msg => (some (m.twn.linkTx, msg), m.onTwn fun t => { t with linkTx := (t.linkTx + 1) % 2 ^ 32, sendQ := t.sendQ.erase msg })
    | none => (none, m)

/-- Messages that wait leave while a lane has room, with fuel. -/
def Mach.drainPlait (m : Mach) : Nat → Mach
  | 0 => m
  | k + 1 =>
    match pickLane m, m.nextPlait with
    | some l, (some (link, msg), m') => (m'.sendOn l link 1 msg).drainPlait k
    | _, _ => m

/-- Every message that waits and finds room leaves. -/
def Mach.drainAll (m : Mach) : Mach := m.drainPlait (m.twn.resendQ.length + m.twn.sendQ.length)

/-- A message handed to Plait. While no lane is Up it is not kept. -/
def Mach.plaitSend (m : Mach) (msg : PlaitMsg) : Mach :=
  if !mayPlait m || (laneState m 0 != 2 && laneState m 1 != 2) then m
  else
    (m.onTwn fun t => { t with sendQ := t.sendQ ++ [msg] }).drainAll

/-- A message sent on one lane, Training or Up: HELLO and KEEP. A lane that holds 256 unacknowledged frames takes none (R231). -/
def Mach.plaitSendLane (m : Mach) (l : Nat) (msg : PlaitMsg) : Mach :=
  if !mayPlait m || (laneState m l != 1 && laneState m l != 2) || decide (256 ≤ (laneOf m l).unacked.length) then m
  else
    let link := m.twn.linkTx
    (m.onTwn fun t => { t with linkTx := (t.linkTx + 1) % 2 ^ 32 }).sendOn l link 1 msg

/-! ### Lanes in and out of service (R228, R232) -/

/-- Does a link sequence number come before another, in 32-bit order? -/
def linkBefore (a b : Nat × PlaitMsg) : Bool := decide ((b.1 + 2 ^ 32 - a.1) % 2 ^ 32 < 2 ^ 31)

/-- A lane stops: its frames are sent again on the other lane, in link order, as it has room for them (R232). -/
def Mach.dropLane (m : Mach) (l state : Nat) : Mach :=
  let left := (laneOf m l).unacked
  let m := ((m.setLane l state).disarm (.replay l)).disarm (.keepIdle l)
  let m := m.onLane l fun b => { b with
    held := false, txHello := false, rxHello := false, txSeq := 0, rxSeq := 0, unacked := [] }
  (m.onTwn fun t => { t with resendQ := (t.resendQ ++ left.map fun u => (u.link, u.msg)).mergeSort linkBefore }).drainAll

/-- A lane that has held lock for 10 ms and exchanged HELLOs is Up (R228). -/
def Mach.laneUp (m : Mach) (l : Nat) : Mach :=
  let b := laneOf m l
  if laneState m l = 1 && b.held && b.txHello && b.rxHello then (m.setLane l 2).event 0x30 3 else m

/-- A replay interval has run out (R231, R232). -/
def Mach.replay (m : Mach) (l : Nat) : Mach :=
  match (laneOf m l).unacked with
  | [] => m
  | u :: _ =>
    if m.cfg PLT_REPLAY_attempts ≤ u.tries then
      ((m.count (PLT_CNT_n.nth 3)).event 0x30 2).dropLane l 3
    else
      let again := (laneOf m l).unacked.map fun u => { u with tries := u.tries + 1, sentAt := m.now }
      let pn := (laneOf m l).txPn
      let m := m.onLane l fun b => { b with unacked := again, txPn := b.txPn + again.length }
      let m := m.each again.zipIdx fun e m => m.emit (.plait (plaitHdr m l e.1.seq e.1.link (pn + e.2 + 1) e.1.msg) e.1.msg)
      let m := (m.arm (.keepIdle l) (m.now + 50000)).arm (.replay l) (m.now + m.cfg PLT_REPLAY_interval * 1000)
      (m.count (PLT_CNT_n.nth 2)).event 0x30 5

/-! ### Receiving (R229, R231, R233) -/

/-- Is `a` behind or at `b` in 16-bit sequence order? -/
def seqLe (a b : Nat) : Bool := decide ((b + 2 ^ 16 - a) % 2 ^ 16 < 2 ^ 15)

/-- The frames of a lane up to a cumulative acknowledgement leave its list; the replay timer follows the oldest left. -/
def Mach.acknowledge (m : Mach) (l ack : Nat) : Mach :=
  let (gone, left) := splitBy (fun u : Unacked => seqLe u.seq ack) (laneOf m l).unacked
  if gone.isEmpty then m else
    let m := m.onLane l fun b => { b with unacked := left, txHello := true }
    match left with
    | [] => m.disarm (.replay l)
    | u :: _ => m.arm (.replay l) (u.sentAt + m.cfg PLT_REPLAY_interval * 1000)

/-- Does a Plait frame verify? (R229) -/
def plaitSecOk (m : Mach) (h : PlaitHdr) : Bool :=
  let l := h.lane.val
  let ok := fun (slot : Nat) => match m.keyFor slot 3 with
    | some k => Config.gcmIcv true k h.sec.sci h.sec.pn h.sec.covered == h.sec.icv
    | none => false
  h.sec.sci == Config.rxSci (16 + l) && decide ((laneOf m l).rxPn < h.sec.pn)
    && (ok (m.cfg PLT_SAK_rx) || ok (m.cfg PLT_SAK_rx_next))

/-- Supervision restarts with a valid frame; the first one after a loss restores Plait (R233). -/
def Mach.supervise (m : Mach) : Mach :=
  let m := (m.setFld PLT_LAST_RX_tag 0 m.tag.toNat).count PLT_CNT_n
  let m := m.onTwn fun t => { t with lastTick := pairTick m (tickNow m) }
  let m := m.arm .supervision (m.now + m.cfg PLT_SUP_timeout * 1000)
  if plaitUp m then m else (m.setPlaitUp true).event 0x30 1

/-- Messages that can be delivered now, in link order: those that wait behind the number expected, with fuel. -/
def deliverable : Nat → Nat → List (Nat × PlaitMsg) → List PlaitMsg × Nat × List (Nat × PlaitMsg)
  | 0, n, r => ([], n, r)
  | k + 1, n, r =>
    match r.find? fun e => e.1 == n with
    | some (_, msg) =>
      let (ms, n', r') := deliverable k ((n + 1) % 2 ^ 32) (r.filter fun e => e.1 != n)
      (msg :: ms, n', r')
    | none => ([], n, r)

/-- Is a link sequence number at or ahead of the one expected, in 32-bit order? -/
def linkAhead (m : Mach) (n : Nat) : Bool := decide ((n + 2 ^ 32 - m.twn.linkRx) % 2 ^ 32 < 2 ^ 31)

/-- A Plait frame that has crossed (R229, R231, R233): verified, in lane sequence, acknowledged, and put in link order. The messages it
lets through are the second result. -/
def Mach.plaitTake (m : Mach) (h : PlaitHdr) (msg : PlaitMsg) : Mach × List PlaitMsg :=
  let l := h.lane.val
  if !plaitSecOk m h then ((m.count (PLT_CNT_n.nth 1)).event 0x30 4, [])
  else
    let m := m.onLane l fun b => { b with rxPn := h.sec.pn }
    if h.laneSeq.toNat ≠ (laneOf m l).rxSeq then (m, [])
    else
      let hello := match msg with | .hello _ => true | _ => false
      let m := m.onLane l fun b => { b with rxSeq := (b.rxSeq + 1) % 2 ^ 16, rxHello := b.rxHello || hello }
      let m := ((m.acknowledge l h.ack.toNat).supervise).laneUp l
      let m := m.drainAll
      let n := h.linkSeq.toNat
      if linkAhead m n then
        let (ms, n', r') := deliverable (m.twn.reorder.length + 1) m.twn.linkRx ((n, msg) :: m.twn.reorder)
        (m.onTwn fun t => { t with linkRx := n', reorder := r' }, ms)
      else (m, [])

/-- A Plait frame received on a lane (R86): it is dropped where its crossing has no room for it. -/
def Mach.plaitRx (m : Mach) (h : PlaitHdr) (msg : PlaitMsg) : Mach × List PlaitMsg :=
  let l := h.lane.val
  if laneState m l ≠ 1 ∧ laneState m l ≠ 2 then (m, [])
  else if !rxRoom m (28 + l) (beatsOf h.sec.covered.length) then (((m.count (PLT_CNT_n.nth 5)).event 0x30 6).event 0x37 2, [])
  else (m.sendBeats (28 + l) (beatsOf h.sec.covered.length)).plaitTake h msg

/-- Plait is declared lost (R233): the loss tick is latched, and both ends begin the link sequence again (log 13). -/
def Mach.plaitLost (m : Mach) : Mach :=
  let m := ((m.setPlaitUp false).count (PLT_CNT_n.nth 4)).event 0x30 0
  let m := m.show64 TWN_LOSS_TICK_LO_w TWN_LOSS_TICK_HI_w m.twn.lastTick
  let m := m.onTwn fun t => { t with linkTx := 0, linkRx := 0, reorder := [], sendQ := [], resendQ := [] }
  (m.onLane 0 fun b => { b with unacked := [], txSeq := 0, rxSeq := 0 }).onLane 1 fun b =>
    { b with unacked := [], txSeq := 0, rxSeq := 0 }

end Sys2Proof.Machine
end

