-- ==== Sys2Proof/Machine/Acq.lean ====
section
/-! DEFINITION. The acquisition units (R343–R355): taps, triggers, records, the record object and its export. -/

namespace Sys2Proof.Machine

/-! ### Units -/

/-- The shed request of the pace monitor (R76). -/
def shedding (m : Mach) : Bool := m.flag PACE_STATE_shed_req

/-- Pace is below the floor (R77). -/
def belowFloor (m : Mach) : Bool := m.fld PACE_STATE_state == 3

/-- A unit. -/
def acqUnit (m : Mach) (u : Nat) : AcqUnit := (kget u m.acq).getD {}

/-- A unit changed. -/
def Mach.onAcq (m : Mach) (u : Nat) (f : AcqUnit → AcqUnit) : Mach := { m with acq := kput u (f (acqUnit m u)) m.acq }

/-- Unit states (R346): Disabled 0, Filling 1, Armed 2, Capturing 3, Held 4. -/
def acqState (m : Mach) (u : Nat) : Nat := m.fld ACQ_UNIT_STS_state u

/-- The number of channels of a unit. -/
def acqN (m : Mach) (u : Nat) : Nat := m.cfg ACQ_UNIT_CFG_n_ch u + 1

/-- The MSR channels of a unit, in order. -/
def acqChans (m : Mach) (u : Nat) : List Nat :=
  (List.range (acqN m u)).map fun k =>
    if k % 2 = 0 then m.cfg (ACQ_UNIT_CH_ch_even.nth (k / 2)) u else m.cfg (ACQ_UNIT_CH_ch_odd.nth (k / 2)) u

/-- The sample size S in bytes (R345). -/
def acqSize (n : Nat) : Nat := 8 + 4 * n + 2 * ceilDiv n 16

/-- The samples a unit's buffer holds. -/
def acqCapacity (m : Mach) (u : Nat) : Nat := ((m.cfg ACQ_UNIT_BUF_size u + 1) * 2 ^ 20 - 4096) / acqSize (acqN m u)

/-- ACQ_UNIT_STS.written shown. -/
def Mach.showAcq (m : Mach) (u : Nat) : Mach :=
  m.setFld ACQ_UNIT_STS_written u (match (acqUnit m u).record with | some r => r.samples.length | none => 0)

/-- A unit starts anew: its record is discarded and it fills, or is disabled (R355). -/
def Mach.acqRestart (m : Mach) (u : Nat) : Mach :=
  let st := if m.on ACQ_UNIT_CFG_en u then 1 else 0
  ((m.onAcq u fun a => { count := a.count, blocked := [0, 1, 2, 3] }).setFld ACQ_UNIT_STS_state u st).showAcq u

/-! ### Export (R353) -/

/-- Is export held because its priority is a deadline class? -/
def exportHeld (m : Mach) : Bool := isDeadline m (classOf m (m.cfg ACQ_EXP_TAG_pcp))

/-- A record that has to wait for its export sets event bit [6] once. -/
def Mach.markHeld (m : Mach) (u : Nat) : Mach :=
  if exportHeld m && (acqUnit m u).exported.isSome && !(acqUnit m u).heldMark then
    (m.onAcq u fun a => { a with heldMark := true }).event 0x0D 6 (.item u)
  else m

/-! ### Records (R346–R349) -/

/-- A unit enters Held. -/
def Mach.acqHeld (m : Mach) (u : Nat) : Mach :=
  let m := m.onAcq u fun a => { a with
    record := a.record.map fun r => { r with complete := true }, heldMark := false
    exported := if m.on ACQ_UNIT_CFG_export u then some 0 else none }
  let m := ((m.setFld ACQ_UNIT_STS_state u 4).count ACQ_UNIT_REC_rec u).event 0x0D 1 (.item u)
  m.markHeld u

/-- Has the record its last sample? The last tick is the trigger's tick plus what was planned after it. -/
def AcqRec.done (r : AcqRec) (tick : Nat) : Bool := decide (r.trigTick + (r.planned - r.pre - 1) ≤ tick)

/-- Is a quality one that no trigger takes: invalid, or with priming or mprime (R347)? -/
def noTrigger (q : BitVec 16) : Bool := validity q == 1 || q.getLsbD 2 || q.getLsbD 12

/-- A record begins from the samples held, the newest last (R348). -/
def Mach.acqStart (m : Mach) (u cause trigTick : Nat) (held : List AcqSample) : Mach :=
  let before := held.filter fun s => s.tick < trigTick
  let after := held.filter fun s => trigTick ≤ s.tick
  let want := m.cfg ACQ_UNIT_PRE_pre u
  let has := held.any fun s => s.tick = trigTick
  let pre := if has then before.drop (before.length - want) else []
  let samples := if has then pre ++ after else held
  let count := (acqUnit m u).count + 1
  let time := match held.find? fun s => s.tick = trigTick with
    | some s => s.nominal
    | none => match gridOf m ((trigTick : Int) - tickOfs m).toNat with
      | some g => g.nominal ((trigTick : Int) - tickOfs m).toNat
      | none => 0
  let r : AcqRec := {
    number := count, complete := false, preShort := !has || decide (pre.length < want), truncated := false, retrig := false,
    gap := samples.any (·.gap), tstep := samples.any (·.tstep), cause := cause, rate := m.cfg SVI_TICK_rate,
    trigTick := trigTick, trigTime := time, trigTag := m.tag, pre := pre.length,
    planned := pre.length + 1 + m.cfg ACQ_UNIT_POST_post u, during := 0, trigAt := pre.length, samples := samples }
  let m := m.onAcq u fun a => { a with record := some r, count := count, area := [] }
  (((m.setFld ACQ_UNIT_STS_state u 3).count ACQ_CNT_n).event 0x0D 0 (.item u)).showAcq u

/-- A trigger while capturing (R349): counted, or the post count starts again as far as the buffer goes. -/
def Mach.acqAgain (m : Mach) (u trigTick : Nat) : Mach :=
  match (acqUnit m u).record with
  | none => m
  | some r =>
    if m.on ACQ_UNIT_CFG_retrig u && !shedding m then
      let want := r.pre + 1 + (trigTick - r.trigTick) + m.cfg ACQ_UNIT_POST_post u
      let cap := acqCapacity m u
      let cut := decide (cap < want)
      let m := m.onAcq u fun a => { a with
        record := some { r with planned := max r.planned (min want cap), retrig := true, truncated := r.truncated || cut } }
      if cut then m.event 0x0D 5 (.item u) else m
    else m.onAcq u fun a => { a with record := some { r with during := min 65535 (r.during + 1) } }

/-- A trigger at a tick, with the entries and the manual bit that make its cause (R346, R349, R354). -/
def Mach.acqTrigger (m : Mach) (u cause trigTick : Nat) (held : List AcqSample) : Mach :=
  match acqState m u with
  | 1 | 2 =>
    if shedding m then (m.count (ACQ_CNT_n.nth 2)).event 0x0D 3 (.item u) else m.acqStart u cause trigTick held
  | 3 => m.acqAgain u trigTick
  | 4 => (m.count (ACQ_CNT_n.nth 1)).event 0x0D 2 (.item u)
  | _ => m

/-! ### Trigger entries (R347) -/

/-- A quiet NaN (R354). -/
def f32Nan : BitVec 32 := 0x7FC00000#32

/-- One level or rate entry on a sample: does it fire, and is it blocked until its value has been on the other side? -/
def entryStep (m : Mach) (u n : Nat) (blocked : Bool) (s : AcqSample) (hist : List (List (BitVec 32))) : Bool × Bool :=
  let k := m.cfg (ACQ_TRG_CFG_idx.nth n) u
  let lvl := BitVec.ofNat 32 (m.cfg (ACQ_TRG_LVL_lvl.nth n) u)
  match m.cfg (ACQ_TRG_CFG_type.nth n) u, s.chans[k]? with
  | 1, some c =>
    let useRms := m.on (ACQ_TRG_CFG_rms.nth n) u
    let v := f32Scaled (if useRms then c.rms else f32Abs c.inst)
    let q := if useRms then c.rmsQ else c.qual
    let l := f32Scaled lvl
    let margin := (f32Scaled (f32Abs lvl))
    if noTrigger q || s.gap then (false, blocked)
    else if m.on (ACQ_TRG_CFG_below.nth n) u then
      (!blocked && decide (v < l), if decide (v < l) then true else blocked && decide (50 * (v - l) < margin))
    else (!blocked && decide (l < v), if decide (l < v) then true else blocked && decide (50 * (l - v) < margin))
  | 2, some c =>
    let cyc := rateHz (m.cfg SVI_TICK_rate) / (if m.on MSR_CFG_f_nom then 60 else 50)
    match hist[cyc - 1]?.bind fun row => row[k]? with
    | some old =>
      if noTrigger c.rmsQ || s.gap || old == f32Nan then (false, blocked) else
        let d := (f32Scaled c.rms - f32Scaled old).natAbs
        let big := decide (f32Scaled lvl ≤ (d : Int))
        (!blocked && big, big)
    | none => (false, blocked)
  | _, _ => (false, blocked)

/-- The level and rate entries of a unit on a sample: those that fire, and those blocked afterwards. -/
def entriesStep (m : Mach) (u : Nat) (a : AcqUnit) (s : AcqSample) : List Nat × List Nat :=
  let rs := (List.range 4).map fun n => (n, entryStep m u n (a.blocked.contains n) s a.history)
  ((rs.filter fun r => r.2.1).map (·.1), (rs.filter fun r => r.2.2).map (·.1))

/-- A slot's accepted RESULT offered to the units (R347, type Slot). -/
def Mach.acqResult (m : Mach) (slot tick : Nat) (values : List (Nat × BitVec 32)) (q : BitVec 16) : Mach :=
  m.each (List.range 64) fun u m => m.each (List.range 4) fun n m =>
    if m.on ACQ_UNIT_CFG_en u && m.cfg (ACQ_TRG_CFG_type.nth n) u = 3 && m.cfg (ACQ_TRG_CFG_src.nth n) u = slot then
      match values.find? fun v => v.1 = m.cfg (ACQ_TRG_CFG_idx.nth n) u with
      | some (_, v) =>
        let old := (kget n (acqUnit m u).last).getD 0
        let m := m.onAcq u fun a => { a with last := kput n v a.last }
        if v != 0 && old == 0 && !noTrigger (q &&& 0x7#16) then
          m.onAcq u fun a => { a with fires := a.fires ++ [{ entry := n, tick := tick, tag := m.tag }] }
        else m
      | none => m
    else m

/-- The number of the latest tick whose nominal time is not after a timebase instant. -/
def tickAt (m : Mach) (t : Nat) : Nat :=
  match m.svi.grids with
  | [] => 0
  | g :: _ => (g.first + (((t : Int) + g.epoch) * g.rate / 1000000000 - g.index)).toNat

/-- An accepted GOOSE frame's members offered to the units (R347, type GOOSE). -/
def Mach.acqGoose (m : Mach) (sub arrival : Nat) (old new : List GooseMember) : Mach :=
  m.each (List.range 64) fun u m => m.each (List.range 4) fun n m =>
    if m.on ACQ_UNIT_CFG_en u && m.cfg (ACQ_TRG_CFG_type.nth n) u = 4 && m.cfg (ACQ_TRG_CFG_src.nth n) u = sub then
      match old[m.cfg (ACQ_TRG_CFG_idx.nth n) u]?, new[m.cfg (ACQ_TRG_CFG_idx.nth n) u]? with
      | some a, some b =>
        if a.value == 0 && b.value != 0 && bits b.qual.toNat 1 0 != 1 then
          m.onAcq u fun x => { x with fires := x.fires ++ [{ entry := n, tick := pairTick m (tickAt m arrival), tag := m.tag }] }
        else m
      | _, _ => m
    else m

/-! ### A tick (R344, R346, R354) -/

/-- The sample a unit takes from a tick's taps. -/
def acqSample (m : Mach) (u : Nat) (tk : Tick) (taps : List ChanTap) (gap : Bool) : AcqSample :=
  let chans := (acqChans m u).map fun ch =>
    match (if gap then none else taps.find? fun t => t.ch = ch && t.tick = tk.pair) with
    | some t => t
    | none => { tick := tk.pair, ch := ch, inst := f32Nan, rms := f32Nan, qual := 0x0001#16, rmsQ := 0x0001#16 }
  { tick := tk.pair, nominal := tk.nominal, gap := gap, tstep := chans.any fun c => c.qual.getLsbD 8, chans := chans }

/-- The triggers of a tick in order of the tick they name, each with its cause. -/
def causesOf (fires : List AcqFire) (now : List Nat) (manual : Bool) (tick : Nat) : List (Nat × Nat) :=
  let all := (fires.map fun f => (f.tick, 2 ^ f.entry)) ++ (now.map fun n => (tick, 2 ^ n)) ++ (if manual then [(tick, 16)] else [])
  let ticks := ((all.map (·.1)).eraseDups).mergeSort
  ticks.map fun t => (t, (all.filter fun e => e.1 = t).foldl (fun a e => a ||| e.2) 0)

/-- One unit at one tick of its group: release first, then the sample, then triggers, then the end of a record. Below the
floor a free value says whether the unit has stored its tap in time (R354). -/
def Mach.acqTick (m : Mach) (u : Nat) (tk : Tick) (taps : List ChanTap) : Mach :=
  if acqState m u = 0 then m else
    let (late, m) := if belowFloor m then (let (w, m) := m.drawWord; (w.getLsbD 0, m)) else (false, m)
    let m := if late then ((m.count (ACQ_CNT_n.nth 3)).event 0x0D 4 (.item u)) else m
    let m := if acqState m u = 4 && (acqUnit m u).release then
        ((m.onAcq u fun a => { a with record := none, area := [], exported := none, heldMark := false }).setFld
          ACQ_UNIT_STS_state u 1).showAcq u
      else m
    let s := acqSample m u tk taps late
    let a := acqUnit m u
    let (fired, blocked) := entriesStep m u a s
    let (ready, rest) := splitBy (fun f : AcqFire => f.tick ≤ tk.pair) a.fires
    let causes := causesOf ready fired a.manual tk.pair
    let rms := s.chans.map fun c => if noTrigger c.rmsQ then f32Nan else c.rms
    let m := m.onAcq u fun a => { a with
      release := false, manual := false, fires := rest, blocked := blocked, history := (rms :: a.history).take 308
      record := a.record.map fun r => if acqState m u = 3 then
          { r with samples := r.samples ++ [s], gap := r.gap || s.gap, tstep := r.tstep || s.tstep }
        else r }
    let m := m.each causes fun c m => m.acqTrigger u c.2 c.1 ((acqUnit m u).area.reverse ++ [s])
    let m := if acqState m u = 1 ∨ acqState m u = 2 then
        let m := m.onAcq u fun a => { a with area := (s :: a.area).take (m.cfg ACQ_UNIT_PRE_pre u) }
        if m.cfg ACQ_UNIT_PRE_pre u ≤ (acqUnit m u).area.length then m.setFld ACQ_UNIT_STS_state u 2 else m
      else m
    let m := m.showAcq u
    match acqState m u, (acqUnit m u).record with
    | 3, some r => if r.done tk.pair then m.acqHeld u else m
    | _, _ => m

/-- A tick set handed over to the units (R168 step 5, R344). -/
def Mach.acqTake (m : Mach) (out : SetOut) : Mach :=
  m.each out.ticks fun tk m => m.each (List.range 64) fun u m =>
    if m.on ACQ_UNIT_CFG_en u && m.cfg ACQ_UNIT_CFG_group u = tk.group then m.acqTick u tk out.taps else m

/-! ### The record object (R345, R350, R351) -/

/-- Positive-going zero crossings between successive values, each in samples from the start of the list, located by linear interpolation;
one next to an unusable sample is not counted (R350). -/
def crossings (k : Nat) : List (Option (BitVec 32)) → List Rat
  | some a :: some b :: r =>
    let (x, y) := (f32Rat a, f32Rat b)
    (if x < 0 ∧ 0 ≤ y then [k + -x / (y - x)] else []) ++ crossings (k + 1) (some b :: r)
  | _ :: r => crossings (k + 1) r
  | [] => []

/-- The mean of numbers. -/
def meanOf (l : List Rat) : Rat := l.sum / l.length

/-- The mean interval between successive crossings in seconds; 0 with fewer than two (R350). -/
def meanPeriod (rate : Nat) (x : List Rat) : Rat :=
  match x.head?, x.getLast? with
  | some a, some b => if x.length < 2 then 0 else (b - a) / ((x.length - 1 : Nat) * rate)
  | _, _ => 0

/-- The six measurements of a channel (R350, R351): period, RMS, peak-to-peak, DC offset, minimum and maximum, from the usable values and
the crossings. What binary32 arithmetic makes of each is open (log 9). -/
def acqMeasure (rate : Nat) (vals : List (BitVec 32)) (x : List Rat) : List (BitVec 32) :=
  match vals with
  | [] => List.replicate 6 0
  | v :: _ =>
    let low := vals.foldl (fun a b => if f32Scaled b < f32Scaled a then b else a) v
    let high := vals.foldl (fun a b => if f32Scaled a < f32Scaled b then b else a) v
    let nums := vals.map f32Rat
    [Config.binary32 0x20 (meanPeriod rate x), Config.binary32 0x21 (Config.sqrt (meanOf (nums.map fun y => y * y))),
      Config.binary32 0x22 (f32Rat high - f32Rat low), Config.binary32 0x23 (meanOf nums), low, high]

/-- The 32 bytes of channel `k` of a record. -/
def chanHeader (m : Mach) (ch k : Nat) (r : AcqRec) : List Byte :=
  let mine := r.samples.filterMap fun s => s.chans[k]?
  let q := joinAll (mine.map (·.qual))
  let run := (r.samples.drop r.trigAt).filterMap fun s => s.chans[k]?
  let use := run.map fun c => if validity c.qual = 1 then none else some c.inst
  let x := crossings 0 use
  let vals := acqMeasure (rateHz r.rate) (use.filterMap id) x
  bytesBE 2 ch ++ bytesBE 1 (m.cfg MSR_CH_CFG_kind ch) ++ bytesBE 1 0 ++ bytesBE 2 q.toNat ++ bytesBE 2 (min 65535 x.length)
    ++ vals.flatMap fun v => bytesBE 4 v.toNat

/-- The 4,096-byte header of a unit's record object. -/
def acqHeader (m : Mach) (u : Nat) : List Byte :=
  match (acqUnit m u).record with
  | none => List.replicate 4096 0
  | some r =>
    let n := acqN m u
    let b := fun (x : Bool) (k : Nat) => x.toNat * 2 ^ k
    let flags := b r.complete 0 + b r.preShort 1 + b r.truncated 2 + b r.retrig 3 + b r.gap 4 + b r.tstep 5
    let first := match r.samples with | s :: _ => s.nominal | [] => 0
    let head := bytesBE 4 r.number ++ bytesBE 1 flags ++ bytesBE 1 r.cause ++ bytesBE 1 n ++ bytesBE 1 r.rate
      ++ bytesBE 8 r.trigTick ++ bytesBE 8 (toWidth 64 first) ++ bytesBE 8 (toWidth 64 r.trigTime) ++ bytesBE 4 r.trigTag.toNat
      ++ bytesBE 4 r.pre ++ bytesBE 4 r.samples.length ++ bytesBE 4 r.planned ++ bytesBE 2 (acqSize n) ++ bytesBE 2 r.during
      ++ List.replicate 12 0
    let body := head ++ (acqChans m u).zipIdx.flatMap fun e => chanHeader m e.1 e.2 r
    body ++ List.replicate (4096 - body.length) 0

/-- One sample's bytes, little-endian: number, microseconds from the first sample, values, status words. -/
def sampleBytes (first : Int) (n : Nat) (s : AcqSample) : List Byte :=
  let us := ((s.nominal - first + 500) / 1000).toNat
  let status := (chunks 16 s.chans.length s.chans).flatMap fun c =>
    bytesLE 2 (c.zipIdx.foldl (fun a e => a + (decide (validity e.1.qual ≠ 0)).toNat * 2 ^ e.2) 0)
  bytesLE 4 n ++ bytesLE 4 us ++ (s.chans.flatMap fun c => bytesLE 4 c.inst.toNat) ++ status

/-- The record object of a unit (R351, R352). -/
def acqObject (m : Mach) (u : Nat) : List Byte :=
  match (acqUnit m u).record with
  | none => acqHeader m u
  | some r =>
    let first := match r.samples with | s :: _ => s.nominal | [] => 0
    acqHeader m u ++ r.samples.zipIdx.flatMap fun e => sampleBytes first (e.2 + 1) e.1

/-- The time a frame takes at the rate of all export frames together, in ns. -/
def exportTime (m : Mach) (len : Nat) : Nat := ceilDiv (len * 8000) (m.cfg ACQ_EXP_CFG_rate)

/-- Does the rate of all units together let a frame leave? -/
def exportReady (m : Mach) : Bool := m.acq.all fun e => decide (e.2.sentTill ≤ m.now)

/-- The next export frame of a unit (R353). -/
def Mach.exportFrame (m : Mach) (u : Nat) : Mach :=
  match (acqUnit m u).exported with
  | none => m
  | some ofs =>
    if exportHeld m then m.markHeld u
    else if !exportReady m then m
    else
      let obj := acqObject m u
      let data := (obj.drop ofs).take 1440
      let last := decide (obj.length ≤ ofs + 1440)
      let number := match (acqUnit m u).record with | some r => r.number | none => 0
      let payload := bytesBE 1 1 ++ bytesBE 1 u ++ bytesBE 2 0 ++ bytesBE 4 number ++ bytesBE 4 ofs
        ++ bytesBE 2 (last.toNat * 2 ^ 15 + data.length) ++ data
      let vid := m.cfg ACQ_EXP_TAG_vid
      let pcp := m.cfg ACQ_EXP_TAG_pcp
      let tagged := m.on ACQ_EXP_TAG_tag_en
      let fr : Frame := {
        dst := macOf m ACQ_EXP_DMAC_LO_lo ACQ_EXP_DMAC_HI_hi 0, src := macOf m ACQ_EXP_SMAC_LO_lo ACQ_EXP_SMAC_HI_hi 0
        tag := if tagged then .ctag ⟨vid % 4096, Nat.mod_lt _ (by decide)⟩ ⟨pcp % 8, Nat.mod_lt _ (by decide)⟩ else .untagged
        etype := 0x88B5, len := max 64 (payload.length + 18 + tagged.toNat * 4), fcs := .good, codeErr := false, sec := none
        red := .plain, body := .data payload }
      let m := m.inject { fr := fr, port := 23, vid := vid, pcp := pcp, cls := classOf m pcp }
      let m := m.count (ACQ_CNT_n.nth 4)
      m.onAcq u fun a => { a with
        sentTill := m.now + exportTime m fr.len
        exported := if last then none else some (ofs + 1440), release := a.release || (last && m.on ACQ_UNIT_CFG_auto u) }

/-- R353: ACQ_EXPORT_FRAME. -/
def execAcqExportFrame (t : Nat) (unit : Fin 64) (s : State) : Host.Outcome State Fault Refusal :=
  s.run t fun m => m.exportFrame unit

/-! ### Commands of a unit and its configuration -/

/-- ACQ_UNIT_CMD (R346, R347). -/
def Mach.acqCommand (m : Mach) (u w : Nat) : Mach :=
  let m := if bit w 0 && acqState m u == 4 then m.onAcq u fun a => { a with release := true } else m
  if bit w 1 then m.onAcq u fun a => { a with manual := true } else m

/-- The words of a unit's configuration. -/
def acqWords (force : KMap Word) (u : Nat) : List (Option Word) :=
  ([0x064, 0x068, 0x06C, 0x070] ++ (List.range 16).map (fun k => 0x080 + 4 * k) ++ (List.range 8).map fun k => 0x0C0 + 4 * k).map
    fun o => kget (regKey 0x0D o u) force

/-- A commit of the ACQ page: a unit whose configuration changed starts anew (R355). -/
def Mach.acqApply (m : Mach) (old : KMap Word) : Mach :=
  m.each (List.range 64) fun u m => if acqWords old u != acqWords m.force u then m.acqRestart u else m

end Sys2Proof.Machine
end

