-- ==== Sys2Proof/Machine/Nrg.lean ====
section
/-! DEFINITION. The energy engine (R356–R366): accumulators, directions, intervals, demand, over-current and latches. -/

namespace Sys2Proof.Machine

/-! ### Points -/

/-- A metering point. -/
def nrgPt (m : Mach) (p : Nat) : Point := (kget p m.nrg.points).getD {}

/-- The energy engine changed. -/
def Mach.onNrg (m : Mach) (f : Nrg → Nrg) : Mach := { m with nrg := f m.nrg }

/-- A metering point changed. -/
def Mach.onPt (m : Mach) (p : Nat) (f : Point → Point) : Mach := m.onNrg fun b => { b with points := kput p (f (nrgPt m p)) b.points }

/-- The enabled points. -/
def nrgPoints (m : Mach) : List Nat := (enabledIn m.force NRG_PT_CFG_en).filter (· < 512)

/-- A point starts (R365). -/
def Mach.ptStart (m : Mach) (p : Nat) : Mach :=
  let m := (m.onPt p fun _ => {}).disarm (.overCurrent p)
  let m := ((m.setFld NRG_PT_PK_IMP_v p 0).setFld NRG_PT_PK_EXP_v p 0).setFld NRG_PT_PK_IMP_T_v p 0
  let m := (m.setFld NRG_PT_PK_EXP_T_v p 0).setFlag NRG_PT_STS_dmd_valid p false
  ((m.setFlag NRG_PT_STS_oc p false).setFld NRG_PT_STS_p_dir p 0).setFld NRG_PT_STS_q_dir p 0

/-- Channel A of a phase group and the rated value of it. -/
def ratedOf (m : Mach) (grp : Nat) : Nat := m.cfg MSR_CH_RATED_rated (m.cfg MSR_GRP_CH_AB_a grp)

/-- S_rated of a point (R356). -/
def sRated (m : Mach) (p : Nat) : Nat :=
  let g := m.cfg NRG_PT_CFG_group p
  3 * ratedOf m (m.cfg MSR_GRP_CFG_link g) * ratedOf m g

/-- One quantum in the unit in which fractions are kept: the energy of 2^−149 W over one part of an hour common to all tick
rates, in thousandths of a watt-hour (R357). -/
def quantumUnits (code : Nat) : Nat := 2 ^ 149 * 3600 * 1152000 * 10 ^ code

/-- The energy of a power over one tick, in those units. -/
def tickUnits (p : Int) (rate : Nat) : Nat := p.natAbs * 1000 * (1152000 / rate)

/-- Energy added to accumulator `a` of a point: whole quanta modulo 2^48 with the wrap counter, the rest carried (R357). -/
def Point.addEnergy (b : Point) (a units code : Nat) : Point :=
  let total := nthD b.fracs a 0 + units
  let q := total / quantumUnits code
  let acc := nthD b.accs a 0 + q
  { b with
    fracs := b.fracs.set a (total % quantumUnits code), accs := b.accs.set a (acc % 2 ^ 48)
    wraps := b.wraps.set a ((nthD b.wraps a 0 + acc / 2 ^ 48) % 256), gained := b.gained.set a ((nthD b.gained a 0 + q) % 2 ^ 48) }

/-- Flags of the interval in progress set. -/
def Point.flag (b : Point) (n : Nat) : Point := { b with flags := b.flags ||| 2 ^ n }

/-! ### binary32 results (R362) -/

/-- The binary32 value nearest a fraction, ties to even; the manual names no rounding (log 9). -/
def f32Of (num den : Nat) : BitVec 32 :=
  if num = 0 ∨ den = 0 then 0 else
    let scaled := num * 2 ^ 149 / den
    let e := max 23 (Nat.log2 scaled)
    let drop := e - 23
    let unit := den * 2 ^ drop
    let q := num * 2 ^ 149 / unit
    let r := num * 2 ^ 149 % unit
    let q := if unit < 2 * r ∨ (unit = 2 * r ∧ q % 2 = 1) then q + 1 else q
    BitVec.ofNat 32 (q + drop * 2 ^ 23)

/-! ### One tick (R357, R358, R363) -/

/-- A change of active direction: recorded with the direction and P_cyc (R358). -/
def Mach.reverse (m : Mach) (p dir : Nat) (pw : BitVec 32) (tag : Word) : Mach :=
  let m := (m.setFld NRG_PT_STS_p_dir p dir).onPt p fun b => { b.flag 6 with revs := min 255 (b.revs + 1) }
  let m := (m.count NRG_CNT_n).event 0x0E 0 (.item p)
  m.intake 0x0E 0x150 3 (Attr.item p).word tag [word dir, pw] false

/-- The directions of a point after a tick (R358). -/
def Mach.directions (m : Mach) (p : Nat) (tap : PowerTap) (pw qw : Int) (tag : Word) : Mach :=
  let s : Int := sRated m p * 2 ^ 149
  let hp := m.cfg NRG_PT_HYS_hp p * s
  let hq := m.cfg NRG_PT_HYS_hq p * s
  let m := if pw * 10000 < -hp ∧ m.fld NRG_PT_STS_p_dir p = 0 then m.reverse p 1 tap.p tag
    else if hp < pw * 10000 ∧ m.fld NRG_PT_STS_p_dir p = 1 then m.reverse p 0 tap.p tag else m
  if qw * 10000 < -hq then m.setFld NRG_PT_STS_q_dir p 1 else if hq < qw * 10000 then m.setFld NRG_PT_STS_q_dir p 0 else m

/-- Over-current asserted or cleared once its condition has held (R363). -/
def Mach.overCurrent (m : Mach) (p : Nat) : Mach :=
  let b := nrgPt m p
  let m := m.onPt p fun b => { b with above := false, below := false }
  if !m.flag NRG_PT_STS_oc p && b.above then
    (((m.setFlag NRG_PT_STS_oc p true).onPt p fun b => b.flag 7).count (NRG_CNT_n.nth 1)).eventAlways 0x0E 1 (.item p)
  else if m.flag NRG_PT_STS_oc p && b.below then (m.setFlag NRG_PT_STS_oc p false).event 0x0E 2 (.item p)
  else m

/-- The phase currents of a point against its level (R363). -/
def Mach.overCurrentTick (m : Mach) (p : Nat) (rms : List (BitVec 32 × BitVec 16)) : Mach :=
  let top := m.cfg NRG_PT_OC_level p * ratedOf m (m.cfg NRG_PT_CFG_group p)
  let isOc := m.flag NRG_PT_STS_oc p
  let above := rms.any fun r => validity r.2 != 1 && f32Ge r.1 top 100
  let below := rms.all fun r => validity r.2 != 1 && !f32Ge r.1 (top * 95) 10000
  let holds := if isOc then below else above
  let b := nrgPt m p
  let already := if isOc then b.below else b.above
  if !holds then (m.onPt p fun b => { b with above := false, below := false }).disarm (.overCurrent p)
  else if already then m
  else
    let m := m.onPt p fun b => { b with above := !isOc, below := isOc }
    if m.cfg NRG_PT_OC_time p = 0 then m.overCurrent p else m.arm (.overCurrent p) (m.now + m.cfg NRG_PT_OC_time p * 1000000)

/-- A peak raised, with its station second (R362). -/
def Mach.peak (m : Mach) (v t : Fd) (p : Nat) (d : BitVec 32) (sec : Int) : Mach :=
  if m.fld v p < d.toNat then (m.setFld v p d.toNat).setFld t p (toWidth 32 sec) else m

/-- Demand of a point at the end of a station second (R362). -/
def Mach.demand (m : Mach) (p : Nat) (sec : Int) : Mach :=
  let b := nrgPt m p
  let n := m.cfg NRG_CFG_demand * 60
  if b.second.length < n ∨ shedding m then m else
    let win := b.second.take n
    let den := 2 ^ 149 * 1152000 * 1000 * n
    let imp := f32Of ((win.map (·.1)).sum) den
    let exp_ := f32Of ((win.map (·.2)).sum) den
    let m := m.onPt p fun b => { b with
      dmaxImp := if b.dmaxImp.toNat < imp.toNat then imp else b.dmaxImp
      dmaxExp := if b.dmaxExp.toNat < exp_.toNat then exp_ else b.dmaxExp }
    let m := m.setFlag NRG_PT_STS_dmd_valid p true
    (m.peak NRG_PT_PK_IMP_v NRG_PT_PK_IMP_T_v p imp sec).peak NRG_PT_PK_EXP_v NRG_PT_PK_EXP_T_v p exp_ sec

/-- A station second begins: the energy since the one before joins a point's window, and demand is evaluated (R362). The first
boundary after a point starts begins its window. -/
def Mach.secondEnd (m : Mach) (p : Nat) (sec : Int) : Mach :=
  match (nrgPt m p).sec with
  | none => m.onPt p fun b => { b with sec := some sec, curImp := 0, curExp := 0 }
  | some s =>
    if s = sec then m else
      (m.onPt p fun b => { b with
        sec := some sec, second := ((b.curImp, b.curExp) :: b.second).take 3600, curImp := 0, curExp := 0 }).demand p sec

/-- One tick of a point's group (R356–R358, R363, R364). -/
def Mach.ptTick (m : Mach) (p : Nat) (tk : Tick) (out : SetOut) : Mach :=
  let g := m.cfg NRG_PT_CFG_group p
  match out.power.find? fun x => x.group = g && x.tick = tk.pair with
  | none => m
  | some tap =>
    let sign : Int := if m.on NRG_PT_CFG_invert p then -1 else 1
    let pw := sign * f32Scaled tap.p
    let qw := sign * f32Scaled tap.q
    let code := m.cfg NRG_PT_CFG_quantum p
    let bad := validity tap.qual == 1 || tap.qual.getLsbD 12
    let m := m.onPt p fun b =>
      let b := { b with lastTick := tk.pair }
      let b := if shedding m then b.flag 1 else b
      let b := if m.flag NRG_PT_STS_oc p then b.flag 7 else b
      if bad then { b.flag 2 with missed := b.missed + 1 }
      else
        let b := if validity tap.qual = 3 then b.flag 3 else b
        let rate := rateHz (m.cfg SVI_TICK_rate)
        let e := tickUnits pw rate
        let react := if 0 ≤ qw then (if 0 ≤ pw then 2 else 3) else (if pw < 0 then 4 else 5)
        let b := if b.sec.isNone then b else
          { b with curImp := if 0 ≤ pw then b.curImp + e else b.curImp, curExp := if 0 ≤ pw then b.curExp else b.curExp + e }
        (b.addEnergy (if 0 ≤ pw then 0 else 1) e code).addEnergy react (tickUnits qw rate) code
    let m := if bad then m else m.directions p tap pw qw (tagOf tk.closedAt)
    if shedding m then (m.onPt p fun b => { b with above := false, below := false }).disarm (.overCurrent p)
    else
      let rms := (grpChans { first := 0, force := m.force, bulk := [] } g).filterMap fun ch =>
        (out.taps.find? fun c => c.ch = ch && c.tick = tk.pair).map fun c => (c.rms, c.rmsQ)
      m.overCurrentTick p rms

/-- The energy latch of a copy, taken at its tick (R243). -/
def Mach.copyLatch (m : Mach) (pair : Nat) : Mach :=
  match m.twn.copy with
  | some c =>
    if c.latchTick = some pair && m.twn.latch.isEmpty then
      m.onTwn fun t => { t with latch := (nrgPoints m).map fun p =>
        { point := p, accs := (nrgPt m p).accs, wraps := (nrgPt m p).wraps } }
    else m
  | none => m

/-- A tick set applied by the energy engine. -/
def Mach.nrgSet (m : Mach) (out : SetOut) : Mach :=
  m.each out.ticks fun tk m =>
    let m := m.each (nrgPoints m) fun p m => m.ptTick p tk out
    m.copyLatch tk.pair

/-- The engine works off its queue, oldest first, with fuel. -/
def Mach.nrgDrain (m : Mach) : Nat → Mach
  | 0 => m
  | k + 1 =>
    match m.nrg.queue with
    | [] => m
    | s :: rest => ((m.onNrg fun b => { b with queue := rest }).nrgSet s).nrgDrain k

/-- A set that the full queue loses (R364). -/
def Mach.nrgLose (m : Mach) (out : SetOut) : Mach :=
  let m := (m.count (NRG_CNT_n.nth 2) 0 out.ticks.length).event 0x0E 3
  m.each out.ticks fun tk m => m.each (nrgPoints m) fun p m =>
    if (out.power.any fun x => x.group = m.cfg NRG_PT_CFG_group p && x.tick = tk.pair) then
      m.onPt p fun b => { (b.flag 5).flag 2 with missed := b.missed + 1 }
    else m

/-- A tick set handed over to NRG (R168 step 5, R364): taken at once; below the floor a free value says whether the engine
keeps up. -/
def Mach.nrgTake (m : Mach) (out : SetOut) : Mach :=
  let (late, m) := if belowFloor m then (let (w, m) := m.drawWord; (w.getLsbD 0, m)) else (false, m)
  let m := match m.nrg.queue with
    | old :: rest => if 64 ≤ m.nrg.queue.length then (m.onNrg fun b => { b with queue := rest }).nrgLose old else m
    | [] => m
  let m := m.onNrg fun b => { b with queue := b.queue ++ [out] }
  if late then m else m.nrgDrain m.nrg.queue.length

/-! ### Intervals (R359) -/

/-- The station time at which the interval in progress ends. -/
def intervalEnd (m : Mach) : Int :=
  let len : Int := m.cfg NRG_CFG_interval * 60000000000
  if len = 0 then m.nrg.began else m.nrg.began / len * len + len

/-- The 64 bytes of an interval entry. -/
def entryBytes (end_ : Int) (b : Point) : List Byte :=
  bytesBE 8 (toWidth 64 end_) ++ bytesBE 1 b.flags ++ bytesBE 1 b.revs ++ bytesBE 2 0 ++ bytesBE 4 b.missed
    ++ (b.gained.flatMap fun g => bytesBE 6 g) ++ bytesBE 4 b.dmaxImp.toNat ++ bytesBE 4 b.dmaxExp.toNat ++ bytesBE 4 0

/-- The interval of one point ends: its entry is written, and the next interval opens. -/
def Mach.endPoint (m : Mach) (p : Nat) (end_ : Int) (extra next : Nat) : Mach :=
  let b := nrgPt m p
  let b := { b with flags := b.flags ||| extra }
  let slot := (m.fld NRG_PT_STS_last p + 1) % 16
  let m := m.onNrg fun n => { n with entries := kput (p * 16 + slot) (entryBytes end_ b) n.entries }
  let m := (m.setFld NRG_PT_STS_last p slot).count (NRG_CNT_n.nth 3)
  let m := m.onPt p fun x => { x with
    gained := [0, 0, 0, 0, 0, 0], flags := next, revs := 0, missed := 0, dmaxImp := 0, dmaxExp := 0 }
  if bit b.flags 0 then m.event 0x0E 5 (.item p) else m

/-- Every interval in progress ends (R359). -/
def Mach.endIntervals (m : Mach) (end_ : Int) (extra next : Nat) : Mach :=
  let m := m.each (nrgPoints m) fun p m => m.endPoint p end_ (extra ||| (if shedding m then 2 else 0)) next
  m.onNrg fun b => { b with began := end_ }

/-- The epoch changed within the interval: it ends at the first boundary under the new epoch (R359). -/
def Mach.nrgEpoch (m : Mach) : Mach :=
  let m := m.each (nrgPoints m) fun p m => m.onPt p fun b => (b.flag 0).flag 4
  m.onNrg fun b => { b with began := m.station }

/-! ### Latches (R360) -/

/-- Wrap counters that have advanced by 2 or more since a point's last latch. -/
def dwrapOf (b : Point) : Nat :=
  (List.range 6).foldl (fun a k => a + (decide (2 ≤ (nthD b.wraps k 0 + 256 - nthD b.latched k 0) % 256)).toNat * 2 ^ k) 0

/-- A point latched: what the next latch compares with, and the event of a double wrap. -/
def Mach.markLatch (m : Mach) (p : Nat) : Mach :=
  let d := dwrapOf (nrgPt m p)
  let m := m.onPt p fun b => { b with latched := b.wraps }
  if d = 0 then m else m.event 0x0E 4 (.item p)

/-- NRG_PT_CMD.latch: NRG_L_* take the point's accumulators. -/
def Mach.latchPoint (m : Mach) (p : Nat) : Mach :=
  let b := nrgPt m p
  let m := (m.setFld NRG_L_TICK_LO_w p (b.lastTick % 2 ^ 32)).setFld NRG_L_TICK_HI_w p (b.lastTick / 2 ^ 32)
  let m := (m.setFld NRG_L_STS_boot p (m.fld TWN_BOOT_n)).setFld NRG_L_STS_dwrap p (dwrapOf b)
  let m := m.each (List.range 6) fun a m =>
    let m := m.setFld (NRG_L_ACC_LO_w.nth a) p (nthD b.accs a 0 % 2 ^ 32)
    (m.setFld (NRG_L_ACC_HI_wrap.nth a) p (nthD b.wraps a 0)).setFld (NRG_L_ACC_HI_count.nth a) p (nthD b.accs a 0 / 2 ^ 32)
  m.markLatch p

/-- An entry of object 1. -/
def snapshotBytes (m : Mach) (p : Nat) : List Byte :=
  let b := nrgPt m p
  bytesBE 8 b.lastTick ++ bytesBE 2 (m.fld TWN_BOOT_n) ++ bytesBE 1 (dwrapOf b)
    ++ bytesBE 1 (m.fld NRG_PT_STS_q_dir p * 2 + m.fld NRG_PT_STS_p_dir p)
    ++ ((List.range 6).flatMap fun a => bytesBE 8 (nthD b.wraps a 0 * 2 ^ 56 + nthD b.accs a 0)) ++ bytesBE 4 0

/-- A BULK_READ at position 0 of object 1 latches all 512 points. -/
def Mach.latchAll (m : Mach) : Mach :=
  let snap := (List.range 512).map fun p => (p, snapshotBytes m p)
  (m.onNrg fun b => { b with snapshot := snap }).each (List.range 512) fun p m => m.markLatch p

/-- NRG_PT_CMD: latch and clr_peak. -/
def Mach.nrgCommand (m : Mach) (p w : Nat) : Mach :=
  let m := if bit w 0 then m.latchPoint p else m
  if bit w 1 then
    let m := (m.setFld NRG_PT_PK_IMP_v p 0).setFld NRG_PT_PK_EXP_v p 0
    (m.setFld NRG_PT_PK_IMP_T_v p 0).setFld NRG_PT_PK_EXP_T_v p 0
  else m

/-! ### Configuration (R365) -/

/-- The part of a point's configuration whose change makes it start: enable, invert, quantum and group. -/
def ptKey (force : KMap Word) (p : Nat) : Nat := ((kget (regKey 0x0E 0x064 p) force).getD (resetWord 0x0E 0x064 p)).toNat

/-- A commit of the NRG page (R359, R365). -/
def Mach.nrgApply (m : Mach) (old : KMap Word) : Mach :=
  let len := fun (f : KMap Word) => bits ((kget (regKey 0x0E 0x040 0) f).getD (resetWord 0x0E 0x040 0)).toNat 7 0
  let m := if len old != len m.force then m.endIntervals m.station 1 1 else m
  m.each (nrgPoints m) fun p m => if ptKey old p = ptKey m.force p then m else m.ptStart p

/-! ### Time-driven commands -/

/-- R359: ENERGY_INTERVAL_END, when the boundary has been reached. -/
def execEnergyIntervalEnd (t : Nat) (s : State) : Host.Outcome State Fault Refusal :=
  s.run t fun m => if intervalEnd m ≤ m.station then m.endIntervals (intervalEnd m) 0 0 else m

/-- R363: OVERCURRENT_TIMER_EXPIRY. -/
def execOvercurrentTimerExpiry (t : Nat) (point : Fin 512) (s : State) : Host.Outcome State Fault Refusal :=
  s.run t fun m => m.onExpiry (.overCurrent point) fun m => m.overCurrent point

end Sys2Proof.Machine
end

