-- ==== Sys2Proof/Machine/Pls.lean ====
section
/-! DEFINITION. The pulse inputs (R367–R369): debounce, minimum width, rate limit, counting, stalls and latches. -/

namespace Sys2Proof.Machine

/-- An input. -/
def plsPin (m : Mach) (p : Nat) : Pin := (kget p m.pls.pins).getD {}

/-- An input changed. -/
def Mach.onPin (m : Mach) (p : Nat) (f : Pin → Pin) : Mach := { m with pls := { m.pls with pins := kput p (f (plsPin m p)) m.pls.pins } }

/-- Is a raw level the active one? -/
def plsActive (m : Mach) (p : Nat) (raw : Bool) : Bool := raw != m.on PLS_CFG_pol p

/-- The time a raw level must be stable, in ns. -/
def plsDebounce (m : Mach) (p : Nat) : Nat := if m.cfg PLS_CFG_deb p = 0 then 20 else m.cfg PLS_CFG_deb p * 100000

/-- The time the active level must be held, in ns. -/
def plsWidth (m : Mach) (p : Nat) : Nat := m.cfg PLS_CFG_min_w p * 100000

/-- The stall time counted anew; 0 disables it (R368). -/
def Mach.armStall (m : Mach) (p : Nat) : Mach :=
  if m.cfg PLS_LIM_stall p = 0 then m.disarm (.stall p) else m.arm (.stall p) (m.now + m.cfg PLS_LIM_stall p * 1000000000)

/-- A pulse qualifies: counted, unless it starts too soon after the last counted one (R367 steps 3, 4). -/
def Mach.plsQualify (m : Mach) (p : Nat) : Mach :=
  let b := plsPin m p
  match b.started with
  | none => m
  | some s =>
    let m := (m.onPin p fun b => { b with started := none }).disarm (.minWidth p)
    let soon := match b.lastAt with
      | some l => decide (s < l + m.cfg PLS_LIM_min_int p * 1000000)
      | none => false
    if soon then (m.count PLS_RATE_REJ_n).event 0x0F 2 (.item p)
    else
      let m := m.onPin p fun b => { b with count := (b.count + 1) % 2 ^ 32, lastAt := some s }
      let m := m.setFld PLS_LAST_tag p (tagOf s).toNat
      let m := if m.flag PLS_STS_stalled p then (m.setFlag PLS_STS_stalled p false).event 0x0F 1 (.item p) else m
      let m := m.armStall p
      m.sendCount 33 ((List.range 32).map (fun i => (plsPin m i).count) ++ [m.tag.toNat])

/-- The raw level of an input changes (R367 step 1). A level that falls back before it is accepted leaves a pulse in progress
running: one whose width has passed meanwhile qualifies. -/
def Mach.plsEdge (m : Mach) (p : Nat) (level : Bool) : Mach :=
  if (plsPin m p).raw = level then m else
    let m := m.onPin p fun b => { b with raw := level, rawAt := m.now }
    if !m.on PLS_CFG_en p then m
    else if plsActive m p level = m.flag PLS_STS_level p then
      let m := m.disarm (.debounce p)
      match (plsPin m p).started with
      | some s => if plsActive m p level && !m.running (.minWidth p) && decide (s + plsWidth m p ≤ m.now) then m.plsQualify p else m
      | none => m
    else m.arm (.debounce p) (m.now + plsDebounce m p)

/-- A raw level has been stable long enough: accepted, dated from its first sample (R367 steps 1, 2). -/
def Mach.plsAccept (m : Mach) (p : Nat) : Mach :=
  let b := plsPin m p
  let act := plsActive m p b.raw
  let m := m.setFlag PLS_STS_level p act
  if act then
    if b.blocked then m else
      (m.onPin p fun b => { b with started := some b.rawAt }).arm (.minWidth p) (max (m.now) (b.rawAt + plsWidth m p))
  else
    let m := m.onPin p fun b => { b with blocked := false }
    match b.started with
    | none => m
    | some s =>
      if s + plsWidth m p ≤ b.rawAt then m.plsQualify p
      else (((m.onPin p fun b => { b with started := none }).disarm (.minWidth p)).count PLS_SHORT_n).event 0x0F 3 (.item p)

/-- The minimum width has passed: the pulse qualifies if its raw level still holds (R367 step 2). -/
def Mach.plsWide (m : Mach) (p : Nat) : Mach := if plsActive m p (plsPin m p).raw then m.plsQualify p else m

/-- An input is stalled (R368). -/
def Mach.plsStall (m : Mach) (p : Nat) : Mach := ((m.setFlag PLS_STS_stalled p true).count PLS_STALLS_n).event 0x0F 0 (.item p)

/-- PLS_LATCH (R368): the 32 counts of one transfer, with their capture tag. -/
def Mach.plsLatchAll (m : Mach) : Mach :=
  let m := m.setFld PLS_L_TAG_tag 0 m.pls.capTag.toNat
  m.each (List.range 32) fun p m => m.setFld (PLS_L_CNT_n.nth p) 0 (m.fld PLS_CNT_n p)

/-- An input whose configuration changed restarts its timing and keeps its count (R369). -/
def Mach.plsRestart (m : Mach) (p : Nat) : Mach :=
  let m := ((m.disarm (.debounce p)).disarm (.minWidth p)).disarm (.stall p)
  let act := m.on PLS_CFG_en p && plsActive m p (plsPin m p).raw
  let m := m.onPin p fun b => { b with started := none, blocked := act }
  let m := (m.setFlag PLS_STS_level p act).setFlag PLS_STS_stalled p false
  if m.on PLS_CFG_en p then m.armStall p else m

/-- A commit of the PLS page (R369). -/
def Mach.plsApply (m : Mach) (old : KMap Word) : Mach :=
  m.each (List.range 32) fun p m =>
    if [0x044, 0x048].any fun o => kget (regKey 0x0F o p) old != kget (regKey 0x0F o p) m.force then m.plsRestart p else m

/-- R367: PULSE_INPUT_EDGE. -/
def execPulseInputEdge (t : Nat) (pin : Fin 32) (level : Bool) (s : State) : Host.Outcome State Fault Refusal :=
  s.run t fun m => m.plsEdge pin level

/-- R367: PULSE_DEBOUNCE_EXPIRY. -/
def execPulseDebounceExpiry (t : Nat) (pin : Fin 32) (s : State) : Host.Outcome State Fault Refusal :=
  s.run t fun m => m.onExpiry (.debounce pin) fun m => m.plsAccept pin

/-- R367: PULSE_MIN_WIDTH_EXPIRY. -/
def execPulseMinWidthExpiry (t : Nat) (pin : Fin 32) (s : State) : Host.Outcome State Fault Refusal :=
  s.run t fun m => m.onExpiry (.minWidth pin) fun m => m.plsWide pin

/-- R368: PULSE_STALL_EXPIRY. -/
def execPulseStallExpiry (t : Nat) (pin : Fin 32) (s : State) : Host.Outcome State Fault Refusal :=
  s.run t fun m => m.onExpiry (.stall pin) fun m => m.plsStall pin

end Sys2Proof.Machine
end

