-- ==== Sys2Proof/Machine/Pub.lean ====
section
/-! DEFINITION. The publication engine (R200–R224): state of control blocks, frames, retransmission, compare and roles,
final messages, and GOOSE subscriptions. -/

namespace Sys2Proof.Machine

/-! ### Blocks and their data sets -/

/-- PUB's own state changed. -/
def Mach.onPub (m : Mach) (f : Pub → Pub) : Mach := { m with pub := f m.pub }

/-- A control block. -/
def gcbOf (m : Mach) (b : Nat) : Gcb := (kget b m.pub.blocks).getD {}

/-- A control block changed. -/
def Mach.onGcb (m : Mach) (b : Nat) (f : Gcb → Gcb) : Mach := m.onPub fun p => { p with blocks := kput b (f (gcbOf m b)) p.blocks }

/-- The twin role (R213): Alone 0, Lead 1, Follower 2, Isolated follower 3, Witness 4, Joining 5. -/
def pubRole (m : Mach) : Nat := m.fld PUB_STS_role

/-- The enabled control blocks. -/
def gcbList (m : Mach) : List Nat := (enabledIn m.force PUB_GCB_CTRL_en).filter (· < 1024)

/-- A member of a data set (object 1): kind 0 value, 1 quality, 2 constant. -/
structure Member where
  kind  : Nat
  trip  : Bool
  type_ : Nat
  index : Nat
  const : BitVec 32
  deriving DecidableEq, Repr

/-- A word of a block's data set. -/
def dataWord (bulk : List Host.Cell) (b k : Nat) : Nat := natBE (memRead (bulkKey 0x0C 1 (256 * b + 4 * k)) 4 bulk)

/-- The next `n` members from word `k` on; a constant takes a second word. -/
def membersFrom (bulk : List Host.Cell) (b : Nat) : Nat → Nat → List Member
  | 0, _ => []
  | n + 1, k =>
    let w := dataWord bulk b k
    let c := bits w 31 30 == 2
    let e : Member := {
      kind := bits w 31 30, trip := bit w 29, type_ := bits w 28 26, index := bits w 13 0
      const := if c then word (dataWord bulk b (k + 1)) else 0 }
    e :: membersFrom bulk b n (if c then k + 2 else k + 1)

/-- The members of a block. -/
def membersOf (bulk : List Host.Cell) (b : Nat) : List Member := membersFrom bulk b (bits (dataWord bulk b 0) 5 0) 1

/-- A 64-byte string field with its length in byte 0. -/
def stringAt (bulk : List Host.Cell) (obj pos : Nat) : List Byte :=
  memRead (bulkKey 0x0C obj (pos + 1)) (min 63 (memGet (bulkKey 0x0C obj pos) bulk).toNat) bulk

/-- The length byte of a string field. -/
def stringLen (bulk : List Host.Cell) (obj pos : Nat) : Nat := (memGet (bulkKey 0x0C obj pos) bulk).toNat

/-! ### Published quality (R203, R204) -/

/-- Bits of an IEC 61850-7-3 quality set in one whose validity is the worse of two. -/
def worse13 (q : Nat) (v flags : Nat) : Nat := setBits (q ||| flags) 1 0 (worst (bits q 1 0) v)

/-- Output quality as published (R204): outOfRange bit 3, failure 6, oldData 7, inaccurate 9, test 11. -/
def publishedQ (q : BitVec 16) : Nat :=
  let p := bits q.toNat 1 0
  let p := if q.getLsbD 2 then worse13 p 3 (2 ^ 9) else p
  let p := if q.getLsbD 3 then p ||| 2 ^ 11 else p
  let p := if q.getLsbD 12 then worse13 p 1 (2 ^ 6) else p
  let p := if q.getLsbD 13 || q.getLsbD 14 then worse13 p 3 (2 ^ 7) else p
  if q.getLsbD 15 then worse13 p 1 (2 ^ 7) else p

/-- The quality of an SV channel as published (R204), from a measurand quality. -/
def channelQ (q : BitVec 16) : Nat :=
  let p := bits q.toNat 1 0
  let p := if q.getLsbD 2 || q.getLsbD 12 then worse13 p 3 (2 ^ 9) else p
  let p := if q.getLsbD 3 then p ||| 2 ^ 11 else p
  let p := if q.getLsbD 7 then worse13 p 1 (2 ^ 6) else p
  if q.getLsbD 9 then worse13 p 1 (2 ^ 3) else p

/-- Is an output gated open (R203)? -/
def gatedOpen (q : BitVec 16) : Bool := !q.getLsbD 2 && validity q != 1

/-- The new value of a member from an output and its last published value (R203, R204). -/
def memberValue (e : Member) (o : Output) (old : BitVec 32) : BitVec 32 :=
  match e.kind with
  | 0 =>
    if e.trip && !gatedOpen o.quality then 0
    else if o.quality.getLsbD 14 || o.quality.getLsbD 15 then old
    else match o.values.find? fun v => v.1 = e.index with
      | some (_, v) => v
      | none => old
  | 1 => BitVec.ofNat 32 (publishedQ o.quality)
  | _ => e.const

/-- Is a trip value that the slot set withheld (R203)? -/
def withheld (es : List Member) (o : Output) : Bool :=
  !gatedOpen o.quality && es.any fun e => e.kind = 0 && e.trip && (o.values.any fun v => v.1 = e.index && v.2 != 0)

/-! ### Frames (R200, R205–R211, R216, R217) -/

/-- smpSynch of a state (R208). -/
def smpSynchOf (st : Nat) : Nat := if st = 2 ∨ st = 3 then 2 else if st = 1 ∨ st = 4 then 1 else 0

/-- The TimeQuality octet of a state (R208). -/
def timeQuality (st : Nat) : Nat :=
  128 + (if st = 0 ∨ st = 5 then 64 else 0) + (if st = 2 ∨ st = 3 then 0 else 32) + (if st = 2 ∨ st = 3 then 7 else if st = 4 then 4 else 0)

/-- t_max′ in ticks (R205). -/
def tMaxTicks (m : Mach) (b : Nat) : Nat := ceilDiv (m.cfg PUB_GCB_RETX_t_max b * rateHz (m.cfg SVI_TICK_rate)) 1000

/-- The k-th retransmission interval (R205). -/
def retxInterval (m : Mach) (b k : Nat) : Nat := min (m.cfg PUB_GCB_RETX_t_min b * 2 ^ min k 32) (tMaxTicks m b)

/-- timeAllowedtoLive for an interval of `i` ticks (R206). -/
def talOf (m : Mach) (i : Nat) : Nat := max 1 (ceilDiv (2 * i * 1000) (rateHz (m.cfg SVI_TICK_rate)))

/-- The frame digest: the first 8 bytes of SHA-256 over the frame with its extension (R213). -/
def frameDigest (fr : Frame) : BitVec 64 := (Config.sha256 (frameBytes fr) >>> 192).setWidth 64

/-- The tag a block's frames carry. -/
def gcbTag (m : Mach) (b : Nat) : Tag :=
  if m.on PUB_GCB_TAG_tag_en b then
    .ctag ⟨m.cfg PUB_GCB_TAG_vid b % 4096, Nat.mod_lt _ (by decide)⟩ ⟨m.cfg PUB_GCB_TAG_pcp b % 8, Nat.mod_lt _ (by decide)⟩
  else .untagged

/-- The header of a block's frame around a body. -/
def gcbFrame (m : Mach) (b : Nat) (body : Payload) : Frame :=
  let fr : Frame := {
    dst := macOf m PUB_GCB_DMAC_LO_lo PUB_GCB_DMAC_HI_hi b, src := macOf m PUB_TWIN_MAC_LO_lo PUB_TWIN_MAC_HI_hi 0
    tag := gcbTag m b, etype := if m.on PUB_GCB_CTRL_type b then 0x88BA else 0x88B8, len := 0, fcs := .good, codeErr := false
    sec := none, red := .plain, body := body }
  { fr with len := (Config.bodyBytes fr).length + 4 }

/-- A body with its IEC 62351-6 extension. -/
def withExt (body : Payload) (e : AuthExt) : Payload :=
  match body with
  | .goose a => .goose { a with ext := some e }
  | .sv a => .sv { a with ext := some e }
  | b => b

/-- Is a block signed with no key held for it (R217)? -/
def keyless (m : Mach) (b : Nat) : Bool := m.on PUB_GCB_CTRL_sign b && (m.keyFor (m.cfg PUB_GCB_KEY_slot b) 2).isNone

/-- A block's frame, signed when the block is (R216): with the key held, or with zeros when there is none (R217). -/
def signedFrame (m : Mach) (b : Nat) (body : Payload) : Frame :=
  let fr := gcbFrame m b body
  if !m.on PUB_GCB_CTRL_sign b then fr else
    let n := if m.on PUB_GCB_CTRL_mac_len b then 32 else 16
    let covered := frameBytes fr
    match m.keyFor (m.cfg PUB_GCB_KEY_slot b) 2 with
    | some k => gcbFrame m b (withExt body { covered := covered, value := (Config.hmacSha256 k covered).take n })
    | none => gcbFrame m b (withExt body { covered := covered, value := List.replicate n 0 })

/-- The GOOSE APDU of a block. -/
def gooseApdu (m : Mach) (b stNum sqNum tal : Nat) (utc : Int) (quality : Nat) (values : List (BitVec 32)) : GooseApdu :=
  let es := membersOf m.bulkF b
  {
    appid := BitVec.ofNat 16 (m.cfg PUB_GCB_APPID_appid b), lenOk := true, sim := false, ext := none
    gocbRef := stringAt m.bulkF 0 (192 * b), datSet := stringAt m.bulkF 0 (192 * b + 64), goId := stringAt m.bulkF 0 (192 * b + 128)
    confRev := word (m.cfg PUB_GCB_CONFREV_confrev b), entries := es.length, stNum := word stNum, sqNum := word sqNum
    utc := utc, quality := BitVec.ofNat 8 quality, tal := tal
    members := (es.zip values).map fun e =>
      if e.1.type_ = 4 then { kind := 4, value := e.2, qual := BitVec.ofNat 13 e.2.toNat }
      else { kind := e.1.type_, value := e.2, qual := 0 } }

/-! ### Sending (R210–R215) -/

/-- PUB_NOKEY counts a frame sent with a zero value, and PUB_STS.nokey shows whether a signed block sends such values (R217). -/
def Mach.noteKey (m : Mach) (zeroed : Bool) : Mach :=
  let m := m.setFlag PUB_STS_nokey 0 (zeroed || (gcbList m).any fun i => keyless m i && m.fld PUB_GCB_STS_state i == 1)
  if zeroed then (m.count (PUB_CNT_n.nth 5)).event 0x0C 4 else m

/-- A frame handed to the switch core on the block's home pair. -/
def Mach.pubSend (m : Mach) (f : Built) : Mach :=
  let b := f.block
  let m := (m.count PUB_CNT_n).noteKey f.zeroed
  let pcp := m.cfg PUB_GCB_TAG_pcp b
  m.inject {
    fr := f.fr, port := 19, vid := m.cfg PUB_GCB_TAG_vid b, pcp := pcp, cls := classOf m pcp,
    seq := some (m.cfg PUB_GCB_CTRL_pair b, f.pairSeq) }

/-- Does a digest belong to a frame? -/
def Built.fits (f : Built) (block st sq pairSeq : Nat) : Bool := f.block = block && f.stNum = st && f.sqNum = sq && f.pairSeq = pairSeq

/-- A digest difference (R214). -/
def Mach.cmpDiff (m : Mach) : Mach :=
  let m := ((m.count (PUB_CNT_n.nth 2)).event 0x0C 2)
  m.onTwn fun t => { t with diffs := m.now :: t.diffs }

/-- A frame whose digest has come is sent or discarded (R214, gated). -/
def Mach.decide_ (m : Mach) (f : Built) (digest : BitVec 64) : Mach := if f.digest = digest then m.pubSend f else m.cmpDiff

/-- A built frame goes the way of the module's role (R213, R214). -/
def Mach.dispose (m : Mach) (f : Built) (changed : Bool) (tick : Nat) : Mach :=
  match pubRole m with
  | 0 => m.pubSend f
  | 1 =>
    let m := m.pubSend f
    let m := m.plaitSend (.fdig f.block f.stNum f.sqNum f.pairSeq f.digest)
    if m.fld TWN_STS_partner = 3 then
      m.plaitSend (.frec {
        block := ⟨f.block % 1024, Nat.mod_lt _ (by decide)⟩, stNum := word f.stNum, sqNum := word f.sqNum
        pairSeq := BitVec.ofNat 16 f.pairSeq, changed := changed, tick := BitVec.ofNat 64 tick, fr := f.fr })
    else m
  | 2 =>
    let got := m.pub.lead.find? fun d => f.fits d.1 d.2.1 d.2.2.1 d.2.2.2.1
    let m := m.onPub fun p => { p with lead := p.lead.filter fun d => !f.fits d.1 d.2.1 d.2.2.1 d.2.2.2.1 }
    if m.on PUB_CFG_cmp then
      let m := m.pubSend f
      match got with
      | some d => if d.2.2.2.2 = f.digest then m else m.cmpDiff
      | none => m.onPub fun p => { p with sent := (f :: p.sent).take 1024 }
    else
      match got with
      | some d => m.decide_ f d.2.2.2.2
      | none =>
        let m := m.onPub fun p => { p with held := p.held ++ [{ f with due := m.now + 12000 }] }
        if m.running (.compare f.block) then m else m.arm (.compare f.block) (m.now + 12000)
  | _ => m.count (PUB_CNT_n.nth 4)

/-- The compare timer of a block set for the oldest frame it still holds. -/
def Mach.armCompare (m : Mach) (block : Nat) : Mach :=
  match m.pub.held.find? fun f => f.block = block with
  | some f => m.arm (.compare block) f.due
  | none => m.disarm (.compare block)

/-- A digest of the lead arrives (R214, R215): a held frame is decided, a sent one compared, any other kept for its frame. -/
def Mach.digestCame (m : Mach) (block st sq pairSeq : Nat) (digest : BitVec 64) : Mach :=
  match m.pub.held.find? fun f => f.fits block st sq pairSeq with
  | some f =>
    let m := (m.onPub fun p => { p with held := p.held.erase f }).armCompare block
    m.decide_ f digest
  | none =>
    match m.pub.sent.find? fun f => f.fits block st sq pairSeq with
    | some f =>
      let m := m.onPub fun p => { p with sent := p.sent.erase f }
      if f.digest = digest then m else m.cmpDiff
    | none => m.onPub fun p => { p with lead := ((block, st, sq, pairSeq, digest) :: p.lead).take 1024 }

/-- The compare time of a block's oldest held frame has passed: it is sent (R214). -/
def Mach.compareOut (m : Mach) (block : Nat) : Mach :=
  let (mine, rest) := splitBy (fun f : Built => f.block = block && decide (f.due < m.now)) m.pub.held
  let m := (m.onPub fun p => { p with held := rest }).armCompare block
  m.each mine fun f m => ((m.count (PUB_CNT_n.nth 3)).event 0x0C 3).pubSend f

/-- PUB takes a role (R213, R215): held frames are released, or discarded and counted. -/
def Mach.setRole (m : Mach) (role : Nat) : Mach :=
  if pubRole m = role then m else
    let held := m.pub.held
    let m := (m.setFld PUB_STS_role 0 role).event 0x0C 7
    let m := m.each held fun f m => m.disarm (.compare f.block)
    let m := m.onPub fun p => { p with held := if role = 2 then p.held else [], lead := [], sent := [] }
    if role = 2 then m
    else if role ≤ 1 then m.each held fun f m => m.pubSend f
    else m.count (PUB_CNT_n.nth 4) 0 held.length

/-! ### GOOSE subscriptions (R223, R224, R236, R265) -/

/-- A subscription. -/
def subOf (m : Mach) (i : Nat) : Sub := (kget i m.pub.subs).getD {}

/-- A subscription changed. -/
def Mach.onSub (m : Mach) (i : Nat) (f : Sub → Sub) : Mach := m.onPub fun p => { p with subs := kput i (f (subOf m i)) p.subs }

/-- The pair tick number of the next tick whose blocks are to be made: the lowest one not yet closed. -/
def nextTick (m : Mach) : Nat :=
  match (m.svi.next.filter fun e => m.on SVI_GRP_CFG_en e.1).map (·.2) with
  | [] => pairTick m (tickNow m + 1)
  | n :: ns => pairTick m (ns.foldl min n)

/-- The payload of a GDELIV (R265). Members of an expired subscription are invalid with oldData. -/
def gdeliv (e : SubEvent) (tick : Nat) : List Byte :=
  let q := fun (x : GooseMember) => if e.expired then worse13 x.qual.toNat 1 (2 ^ 7) else x.qual.toNat
  bytesBE 2 e.sub ++ bytesBE 1 (if e.expired then 3 else 2) ++ bytesBE 1 e.members.length ++ bytesBE 4 e.stNum.toNat
    ++ bytesBE 4 e.sqNum.toNat ++ bytesBE 8 tick
    ++ e.members.flatMap fun x => bytesBE 8 (x.kind * 2 ^ 56 + q x * 2 ^ 32 + x.value.toNat)

/-- A subscription event delivered to its partition before the blocks of a tick. -/
def Mach.deliverEvent (m : Mach) (tick : Nat) (e : SubEvent) : Mach := m.deliver (m.cfg PUB_SUB_CTRL_part e.sub) e.sub (gdeliv e tick)

/-- A subscription event of this module: delivered at once, or through the equalisation of a pair (R236). -/
def Mach.offerEvent (m : Mach) (e : SubEvent) : Mach :=
  if [1, 2, 5].contains (pubRole m) then m.onPub fun p => { p with events := p.events ++ [e] }
  else m.deliverEvent (nextTick m) e

/-- The members of a frame with test set when it was simulated. -/
def testMembers (sim : Bool) (ms : List GooseMember) : List GooseMember :=
  if sim then ms.map fun x => { x with qual := x.qual ||| 0x800#13 } else ms

/-- Check 7 of R223: strings, confRev, entries and member types as configured. -/
def subMatches (m : Mach) (i : Nat) (a : GooseApdu) : Bool :=
  let base := 256 * i
  let n := (memGet (bulkKey 0x0C 2 (base + 192)) m.bulkF).toNat
  let types := (memRead (bulkKey 0x0C 2 (base + 193)) n m.bulkF).map (·.toNat)
  a.gocbRef == stringAt m.bulkF 2 base && a.datSet == stringAt m.bulkF 2 (base + 64) && a.goId == stringAt m.bulkF 2 (base + 128)
    && a.confRev.toNat == m.cfg PUB_SUB_CONFREV_confrev i && a.entries == n && a.members.map (·.kind) == types

/-- Check 6 of R223. -/
def subAuthOk (m : Mach) (i : Nat) (ext : Option AuthExt) : Bool :=
  let n := if m.on PUB_SUB_CTRL_mac_len i then 32 else 16
  match ext, m.keyFor (m.cfg PUB_SUB_CTRL_slot i) 2 with
  | some e, some k => e.value == (Config.hmacSha256 k e.covered).take n
  | _, _ => false

/-- A frame accepted for a subscription (R224): its state, its TAL from the arrival, a delivery when stNum changed, and the
ACQ triggers. -/
def Mach.subAccept (m : Mach) (i : Nat) (a : GooseApdu) (arrival : Nat) : Mach :=
  let old := subOf m i
  let ms := testMembers a.sim a.members
  let changed := !old.seen || old.stNum != a.stNum.toNat
  let m := m.onSub i fun _ => { stNum := a.stNum.toNat, sqNum := a.sqNum.toNat, seen := true, members := ms }
  let m := (m.setFld PUB_SUB_STS_state i 2).arm (.tal i) (arrival + a.tal * 1000000)
  let m := m.acqGoose i arrival old.members ms
  if changed then m.offerEvent { sub := i, expired := false, stNum := a.stNum, sqNum := a.sqNum, members := ms } else m

/-- Checks 5 to 8 of R223 for one subscription. -/
def Mach.subCheck (m : Mach) (i : Nat) (a : GooseApdu) (arrival : Nat) : Mach :=
  if a.sim && !m.on PUB_SUB_CTRL_test_ok i then m.count (PUB_CNT_n.nth 10)
  else if m.on PUB_SUB_CTRL_auth i && !subAuthOk m i a.ext then (m.count (PUB_CNT_n.nth 11)).event 0x0C 6 (.item i)
  else if !subMatches m i a then m.count (PUB_CNT_n.nth 7)
  else
    let old := subOf m i
    if old.seen && old.stNum = a.stNum.toNat && a.sqNum.toNat ≤ old.sqNum then m.count (PUB_CNT_n.nth 12)
    else m.subAccept i a arrival

/-- The enabled subscriptions to an address and APPID (R223 check 4). -/
def subsTo (m : Mach) (dst : Mac) (appid : Nat) : List Nat :=
  (enabledIn m.force PUB_SUB_CTRL_en).filter fun i => macOf m PUB_SUB_DMAC_LO_lo PUB_SUB_DMAC_HI_hi i == dst && m.cfg PUB_SUB_APPID_appid i == appid

/-- Checks 4 to 8 of R223. Each subscription that matches makes its own checks and counts for itself (log 107). -/
def Mach.gooseCheck (m : Mach) (dst : Mac) (a : GooseApdu) (arrival : Nat) : Mach :=
  match subsTo m dst a.appid.toNat with
  | [] => m.count (PUB_CNT_n.nth 9)
  | l => m.each l fun i m => m.subCheck i a arrival

/-- A GOOSE frame received (R223). -/
def Mach.gooseRx (m : Mach) (fr : Frame) (arrival : Nat) : Mach :=
  if fr.fcs != .good then m.count (PUB_CNT_n.nth 7)
  else match fr.body with
    | .goose a =>
      if fr.etype != 0x88B8 || fr.tag == .stacked || !a.lenOk || a.ndsCom || decide (0x4000 ≤ a.appid.toNat) then m.count (PUB_CNT_n.nth 7)
      else if fr.src = macOf m PUB_TWIN_MAC_LO_lo PUB_TWIN_MAC_HI_hi 0 then m.count (PUB_CNT_n.nth 8)
      else m.gooseCheck fr.dst a arrival
    | _ => m.count (PUB_CNT_n.nth 7)

/-- A subscription enters Expired (R224). -/
def Mach.enterExpired (m : Mach) (i : Nat) : Mach := ((m.setFld PUB_SUB_STS_state i 3).count (PUB_CNT_n.nth 13)).event 0x0C 5 (.item i)

/-- An event of the combined set delivered before the blocks of a tick. At a follower the lead's expiry is the subscription's own
(R236). -/
def Mach.mergedEvent (m : Mach) (tick : Nat) (e : SubEvent) : Mach :=
  let theirs := e.expired && m.fld PUB_SUB_STS_state e.sub == 2 && (subOf m e.sub).stNum == e.stNum.toNat
  let m := if theirs && pubRole m != 1 then (m.enterExpired e.sub).disarm (.tal e.sub) else m
  m.deliverEvent tick e

/-- A subscription expires by the module's own decision (R224, R236). -/
def Mach.subExpire (m : Mach) (i : Nat) : Mach :=
  let b := subOf m i
  let m := m.enterExpired i
  m.offerEvent { sub := i, expired := true, stNum := word b.stNum, sqNum := word b.sqNum, members := b.members }

/-! ### Building (R202–R209, R218–R220) -/

/-- The station time of a pair tick. -/
def nominalOf (m : Mach) (pair : Nat) : Int :=
  let n := ((pair : Int) - tickOfs m).toNat
  match gridOf m n with
  | some g => g.nominal n
  | none => 0

/-- The timebase instant of a pair tick's nominal time. -/
def instantOf (m : Mach) (pair : Nat) : Nat := (nominalOf m pair - m.time.epoch).toNat

/-- A retransmission scheduled for a tick, or none. -/
def Mach.schedule (m : Mach) (b : Nat) (due : Option Nat) : Mach :=
  let m := m.onGcb b fun g => { g with due := due }
  match due with
  | some k => m.arm (.retrans b) (instantOf m k)
  | none => m.disarm (.retrans b)

/-- The next stNum (R206): 1 at first, and 1 again after the largest. -/
def nextNum (n : Nat) : Nat := if n = 2 ^ 32 - 1 then 1 else n + 1

/-- A frame built with its numbers: number of its pair, signature, digest; own subscriptions take it; then its role's way. -/
def Mach.buildGoose (m : Mach) (b st sq tal : Nat) (utc : Int) (changed : Bool) (tick : Nat) : Mach :=
  let values := (gcbOf m b).members
  let body := gooseApdu m b st sq tal utc (gcbOf m b).quality values
  let (n, m) := m.drawPubSeq (m.cfg PUB_GCB_CTRL_pair b)
  let fr := signedFrame m b (.goose body)
  let m := (m.setFld PUB_GCB_STNUM_n b st).setFld PUB_GCB_SQNUM_n b sq
  let f : Built := { block := b, stNum := st, sqNum := sq, pairSeq := n, digest := frameDigest fr, fr := fr, zeroed := keyless m b }
  let m := match fr.body with
    | .goose a => m.each (subsTo m fr.dst a.appid.toNat) fun i m => m.subCheck i a m.now
    | _ => m
  m.dispose f changed tick

/-- A block's output (R203–R207). The result says whether a frame was built. -/
def Mach.buildOutput (m : Mach) (b : Nat) (o : Output) : Mach × Bool :=
  let es := membersOf m.bulkF b
  let g := gcbOf m b
  let values := es.zipIdx.map fun e => memberValue e.1 o (nthD g.members e.2 0)
  let m := m.setFlag PUB_GCB_STS_gated b (!gatedOpen o.quality && es.any fun e => e.kind = 0 && e.trip)
  let m := if withheld es o then m.event 0x0C 1 (.item b) else m
  let m := m.onGcb b fun g => { g with lastTick := max g.lastTick o.tick }
  if !g.fresh && values == g.members then (m, false)
  else
    let i0 := retxInterval m b 0
    let m := m.onGcb b fun g => { g with
      members := values, fresh := false, changed := o.tick, k := 0, nominal := o.nominal, published := o.nominal,
      quality := timeQuality (m.time.seen) }
    let m := m.schedule b (some (o.tick + i0))
    (m.buildGoose b (nextNum (m.fld PUB_GCB_STNUM_n b)) 0 (talOf m i0) o.nominal true o.tick, true)

/-- A retransmission, unless a change at its tick or later took its place (R205, R207). -/
def Mach.buildRetrans (m : Mach) (b k : Nat) : Mach × Bool :=
  let g := gcbOf m b
  if g.due ≠ some k then (m, false)
  else
    let i := retxInterval m b (g.k + 1)
    let m := m.onGcb b fun g => { g with k := g.k + 1, published := nominalOf m k }
    let m := (m.schedule b (some (k + i))).count (PUB_CNT_n.nth 1)
    (m.buildGoose b (m.fld PUB_GCB_STNUM_n b) (nextNum (m.fld PUB_GCB_SQNUM_n b)) (talOf m i) g.nominal false k, true)

/-- The counts of an SV channel (R117, R209): 1 mA or 10 mV per count, to the nearest, halves away from zero. -/
def countsOf (kind : Nat) (v : BitVec 32) : BitVec 32 :=
  let den : Int := if kind = 0 then 1000 else 100
  let x := f32Scaled v * den
  let half : Int := 2 ^ 148
  BitVec.ofInt 32 (if 0 ≤ x then (x + half) / 2 ^ 149 else -((-x + half) / 2 ^ 149))

/-- An SV frame from the ASDUs of a block (R209). -/
def Mach.buildSv (m : Mach) (b : Nat) (asdus : List Asdu) : Mach :=
  let body : SvApdu := {
    appid := BitVec.ofNat 16 (m.cfg PUB_GCB_APPID_appid b), lenOk := true, reserved := 0, sim := false, ext := none, decodes := true
    noAsdu := asdus.length, asdus := asdus }
  let (n, m) := m.drawPubSeq (m.cfg PUB_GCB_CTRL_pair b)
  let fr := signedFrame m b (.sv body)
  let cnt := match asdus.getLast? with | some a => a.smpCnt | none => 0
  let m := m.setFld PUB_GCB_SQNUM_n b cnt
  m.dispose { block := b, stNum := 0, sqNum := cnt, pairSeq := n, digest := frameDigest fr, fr := fr, zeroed := keyless m b } true 0

/-- One tick of an SV block (R209). -/
def Mach.svAsdu (m : Mach) (b tick : Nat) (chans : List (BitVec 32 × BitVec 16)) : Mach × Bool :=
  let n := ((tick : Int) - tickOfs m).toNat
  let cnt := match gridOf m n with
    | some g => ((g.index + ((n : Int) - g.first)) % g.rate).toNat
    | none => 0
  let es := membersOf m.bulkF b
  let a : Asdu := {
    svid := stringAt m.bulkF 0 (192 * b), confRev := word (m.cfg PUB_GCB_CONFREV_confrev b), smpCnt := cnt, smpRate := none
    smpSynch := BitVec.ofNat 8 (smpSynchOf (m.time.seen)), seqBytes := 8 * es.length
    chans := (es.zip chans).map fun e => (countsOf (m.cfg MSR_CH_CFG_kind e.1.index) e.2.1, BitVec.ofNat 32 (channelQ e.2.2)) }
  let asdus := (gcbOf m b).asdus ++ [a]
  if (Config.svAsdus b).val + 1 ≤ asdus.length then ((m.onGcb b fun g => { g with asdus := [], last := asdus }).buildSv b asdus, true)
  else (m.onGcb b fun g => { g with asdus := asdus }, false)

/-- One piece of work done. The result says whether a frame was built. -/
def Mach.pubWork (m : Mach) (j : PubJob) : Mach × Bool :=
  if m.fld PUB_GCB_STS_state j.block ≠ 1 then (m, false) else
    match j.work with
    | .output o => m.buildOutput j.block o
    | .retrans k => m.buildRetrans j.block k
    | .sv tick _ chans _ => m.svAsdu j.block tick chans
    | .final => (m, false)

/-! ### The build queue (R222) -/

/-- The entries of a partition in the build queue. -/
def buildUse (m : Mach) (q : List PubJob) (p : Nat) : Nat := countIf (fun j => m.cfg PUB_GCB_CTRL_owner j.block == p) q

/-- Work that found its partition's 2,048/D_s entries taken moves up, in order, as they free (R222, log 108). -/
def Mach.fillBuild (m : Mach) : Mach :=
  let step := fun (a : List PubJob × List PubJob) (j : PubJob) =>
    let p := m.cfg PUB_GCB_CTRL_owner j.block
    if buildUse m a.1 p < 2048 / division m && buildUse m a.2 p == 0 then (a.1 ++ [j], a.2) else (a.1, a.2 ++ [j])
  m.onPub fun b =>
    let r := b.behind.foldl step (b.queue, [])
    { b with queue := r.1, behind := r.2 }

/-- Work for PUB: it takes an entry of its partition's share, or waits for one. -/
def Mach.pubQueue (m : Mach) (js : List PubJob) : Mach := (m.onPub fun b => { b with behind := b.behind ++ js }).fillBuild

/-- A block's work discarded. -/
def Mach.dropWork (m : Mach) (b : Nat) : Mach :=
  (m.onPub fun p => { p with
    queue := p.queue.filter (fun j => j.block != b), behind := p.behind.filter (fun j => j.block != b)
    waiting := p.waiting.filter fun j => j.block != b }).fillBuild

/-- The next piece of work (R220): blocks with deadline = 1 first, then by block index, each block's work in its order. -/
def nextJob (m : Mach) : Option PubJob :=
  let rank := fun (j : PubJob) => (if m.on PUB_GCB_CTRL_deadline j.block then 0 else 1024) + j.block
  match m.pub.queue with
  | [] => none
  | j :: js => some (js.foldl (fun a x => if rank x < rank a then x else a) j)

/-- The next frame is built: work that gives no frame is passed on the way, with fuel. -/
def Mach.pubBuild (m : Mach) : Nat → Mach
  | 0 => m
  | k + 1 =>
    match nextJob m with
    | none => m
    | some j =>
      let (m, built) := ((m.onPub fun p => { p with queue := p.queue.erase j }).fillBuild).pubWork j
      if built then m else m.pubBuild k

/-! ### Work arriving (R201, R202, R219) -/

/-- Is a slot due on a tick above `lo` and up to `hi`? -/
def dueBetween (m : Mach) (slot lo hi : Nat) : Bool :=
  let t := m.cfg DSP_SLOT_CFG_period slot
  let ph := m.cfg DSP_SLOT_PHASE_phase slot
  let n := fun (x : Nat) => if x < ph then 0 else (x - ph) / t + 1
  m.on DSP_SLOT_CFG_en slot && t != 0 && decide (n lo < n hi)

/-- The GOOSE blocks fed by a slot. -/
def blocksOf (m : Mach) (slot : Nat) : List Nat :=
  (gcbList m).filter fun b => !m.on PUB_GCB_CTRL_type b && m.cfg PUB_GCB_CTRL_source b = slot

/-- Has what feeds a block started again since its partition was reset (R196, R219)? For a GOOSE block its source slot, for an SV block
any of the partition's enabled slots, or the partition itself where it has none. -/
def feedStarted (m : Mach) (b : Nat) : Bool :=
  let p := m.cfg PUB_GCB_CTRL_owner b
  let on := (List.range 64).filter fun f => m.on DSP_SLOT_CFG_en (p * 64 + f)
  m.partState p == psActive &&
    if m.on PUB_GCB_CTRL_type b then on.isEmpty || on.any fun f => !m.dsp.starting.contains (p * 64 + f)
    else !m.dsp.starting.contains (m.cfg PUB_GCB_CTRL_source b)

/-- A block that is silent after a final message starts again when its slots do (R219). -/
def Mach.gcbWake (m : Mach) (b : Nat) : Mach :=
  if m.fld PUB_GCB_STS_state b = 2 ∧ feedStarted m b = true then
    (m.setFld PUB_GCB_STS_state b 1).onGcb b fun g => { g with fresh := true, asdus := [] }
  else m

/-- A retransmission is due (R202): it waits for the outputs of releases up to its tick. -/
def Mach.retransDue (m : Mach) (b : Nat) : Mach :=
  match (gcbOf m b).due with
  | none => m
  | some k =>
    let j : PubJob := { block := b, work := .retrans k }
    if dueBetween m (m.cfg PUB_GCB_CTRL_source b) (gcbOf m b).lastTick k then m.onPub fun p => { p with waiting := p.waiting ++ [j] }
    else m.pubQueue [j]

/-- The tick of a waiting retransmission. -/
def PubWork.tick : PubWork → Nat
  | .retrans k => k
  | _ => 0

/-- An output of a slot reaches PUB (R201, R202). A joining follower builds none (R213). -/
def Mach.pubOutput (m : Mach) (o : Output) : Mach :=
  if pubRole m = 5 then m else
    m.each (blocksOf m o.slot) fun b m =>
      let m := m.gcbWake b
      if m.fld PUB_GCB_STS_state b ≠ 1 then m else
        let (mine, rest) := splitBy (fun j : PubJob => j.block = b) m.pub.waiting
        let early := mine.filter fun j => j.work.tick < o.tick
        let late := mine.filter fun j => o.tick ≤ j.work.tick
        let (stay, go) := splitBy (fun j : PubJob => dueBetween m o.slot o.tick j.work.tick) late
        let m := (m.onPub fun p => { p with waiting := rest ++ stay }).pubQueue (early ++ [{ block := b, work := .output o }] ++ go)
        m.onGcb b fun g => { g with lastTick := max g.lastTick o.tick }

/-- A tick set at the MSR hand-over: the SV blocks of its groups (R209). -/
def Mach.pubSv (m : Mach) (out : SetOut) : Mach :=
  if pubRole m = 5 then m else
    m.each out.ticks fun tk m =>
      m.each ((gcbList m).filter fun b => m.on PUB_GCB_CTRL_type b && m.cfg PUB_GCB_CTRL_source b % 64 = tk.group) fun b m =>
        let m := m.gcbWake b
        if m.fld PUB_GCB_STS_state b ≠ 1 then m else
          let chans := (membersOf m.bulkF b).map fun e =>
            match out.taps.find? fun t => t.ch = e.index && t.tick = tk.pair with
            | some t => (t.inst, t.qual)
            | none => (0, 0x0081#16)
          m.pubQueue [{ block := b, work := .sv tk.pair tk.nominal chans (tk.cause == .epoch) }]

/-! ### Final messages (R218) -/

/-- A member of a final message: trip FALSE, quality invalid with failure, others as they were. -/
def finalValue (e : Member) (old : BitVec 32) : BitVec 32 :=
  if e.kind = 0 ∧ e.trip = true then 0 else if e.kind = 1 then BitVec.ofNat 32 (1 + 2 ^ 6) else old

/-- The final message of a block, which is silent from then on. -/
def Mach.finalBlock (m : Mach) (b : Nat) : Mach :=
  let m := (m.dropWork b).schedule b none
  let g := gcbOf m b
  let m := (m.count (PUB_CNT_n.nth 6)).event 0x0C 0 (.item b)
  let m := if m.on PUB_GCB_CTRL_type b then
      let es := membersOf m.bulkF b
      let bad := fun (a : Asdu) => { a with chans := a.chans.map fun c => (c.1, 0x41#32) }
      let n := (Config.svAsdus b).val + 1
      let blank : Asdu := {
        svid := stringAt m.bulkF 0 (192 * b), confRev := word (m.cfg PUB_GCB_CONFREV_confrev b), smpCnt := m.fld PUB_GCB_SQNUM_n b
        smpRate := none, smpSynch := BitVec.ofNat 8 (smpSynchOf (m.time.seen)), seqBytes := 8 * es.length
        chans := es.map fun _ => (0, 0) }
      m.buildSv b ((if g.last.isEmpty then List.replicate n blank else g.last).map bad)
    else
      let es := membersOf m.bulkF b
      let m := m.onGcb b fun g => { g with
        members := es.zipIdx.map fun e => finalValue e.1 (nthD g.members e.2 (e.1.const)),
        quality := timeQuality (m.time.seen) }
      m.buildGoose b (nextNum (m.fld PUB_GCB_STNUM_n b)) 0 (2 * m.cfg PUB_GCB_RETX_t_max b) g.published true g.lastTick
  (m.setFld PUB_GCB_STS_state b 2).onGcb b fun g => { g with fresh := true, asdus := [], due := none }

/-- The final messages of a partition whose reset begins (R19, R218). -/
def Mach.pubFinal (m : Mach) (p : Nat) : Mach :=
  if pubRole m = 5 then m else
    let mine := (gcbList m).filter fun b => m.cfg PUB_GCB_CTRL_owner b = p && m.fld PUB_GCB_STS_state b != 0
    let (first, rest) := splitBy (fun b => m.on PUB_GCB_CTRL_deadline b) mine
    m.each (first ++ rest) fun b m => m.finalBlock b

/-! ### Joining and taking the lead (R242, R247) -/

/-- A FREC applied: block state, numbers, schedule and pair counter follow the lead's (R242), as its frame carries them. -/
def Mach.applyFrec (m : Mach) (r : FrecMsg) : Mach :=
  let b := r.block.val
  let pair := m.cfg PUB_GCB_CTRL_pair b
  let m := m.onPub fun p => { p with pairSeq := kput pair ((r.pairSeq.toNat + 1) % 2 ^ 16) p.pairSeq }
  let m := (m.setFld PUB_GCB_STNUM_n b r.stNum.toNat).setFld PUB_GCB_SQNUM_n b r.sqNum.toNat
  match r.fr.body with
  | .sv a => m.onGcb b fun g => { g with asdus := [], last := a.asdus }
  | .goose a =>
    let k := if r.changed then 0 else (gcbOf m b).k + 1
    let m := m.onGcb b fun g => { g with
      members := a.members.map (·.value), fresh := false, k := k, lastTick := max g.lastTick r.tick.toNat
      changed := if r.changed then r.tick.toNat else g.changed
      nominal := a.utc, published := nominalOf m r.tick.toNat, quality := a.quality.toNat }
    m.schedule b (some (r.tick.toNat + retxInterval m b k))
  | _ => m

/-- The numbers advanced on an entry into Lead from Joining, Holding or Isolated follower (R247). -/
def Mach.advanceNumbers (m : Mach) : Mach :=
  let m := m.onPub fun p => { p with
    pairSeq := (List.range 8).map fun k => (k, ((kget k p.pairSeq).getD 0 + 4096) % 2 ^ 16) }
  m.each (gcbList m) fun b m =>
    if m.on PUB_GCB_CTRL_type b then m else
      let n := m.fld PUB_GCB_STNUM_n b + 16
      (m.setFld PUB_GCB_STNUM_n b (if n < 2 ^ 32 then n else n - (2 ^ 32 - 1))).onGcb b fun g => { g with fresh := true }

/-! ### A new configuration (R200–R224) -/

/-- t_pub of R220 in units of 10 ns, rounded up: 2.0 µs and 0.2 µs + 0.5 ns a byte for each enabled deadline block. -/
def tPub (m : Mach) : Nat :=
  ceilDiv (4000 + (((gcbList m).filter fun b => m.on PUB_GCB_CTRL_deadline b).map fun b => 400 + m.fld PUB_GCB_SIZE_size b).sum) 20

/-- The words and bulk bytes of a block or a subscription. -/
def pubItem (regs : KMap Word) (bulk : List Host.Cell) (offs : List Nat) (objs : List (Nat × Nat)) (i : Nat) :
    List (Option Word) × List Host.Cell :=
  (offs.map fun o => kget (regKey 0x0C o i) regs,
    objs.flatMap fun (o, n) => (bulk.filter fun c => bulkKey 0x0C o (n * i) ≤ c.1 && c.1 < bulkKey 0x0C o (n * i + n)))

/-- The item of a control block. -/
def gcbItem (regs : KMap Word) (bulk : List Host.Cell) (i : Nat) : List (Option Word) × List Host.Cell :=
  pubItem regs bulk [0x064, 0x068, 0x06C, 0x070, 0x074, 0x078, 0x07C, 0x080] [(0, 192), (1, 256)] i

/-- The item of a subscription. -/
def subItem (regs : KMap Word) (bulk : List Host.Cell) (i : Nat) : List (Option Word) × List Host.Cell :=
  pubItem regs bulk [0x0A4, 0x0A8, 0x0AC, 0x0B0, 0x0B4] [(2, 256)] i

/-- A new set of the PUB page takes effect: blocks and subscriptions that changed start; numbers are kept (R206, R224). -/
def Mach.pubApply (m : Mach) (old : KMap Word) (oldBulk : List Host.Cell) : Mach :=
  let blocks := ((enabledIn old PUB_GCB_CTRL_en) ++ gcbList m).eraseDups
  let m := m.each blocks fun b m =>
    let m := m.setFld PUB_GCB_SIZE_size b (if m.on PUB_GCB_CTRL_en b then
        Config.gcbSize (m.on PUB_GCB_CTRL_type b) (m.on PUB_GCB_CTRL_sign b) (m.on PUB_GCB_CTRL_mac_len b)
          (memRead (bulkKey 0x0C 0 (192 * b)) 192 m.bulkF) (memRead (bulkKey 0x0C 1 (256 * b)) 256 m.bulkF)
      else 0)
    if gcbItem old oldBulk b == gcbItem m.force m.bulkF b then m else
      let m := m.dropWork b
      let m := (m.schedule b none).onGcb b fun _ => {}
      (m.setFlag PUB_GCB_STS_gated b false).setFld PUB_GCB_STS_state b (if m.on PUB_GCB_CTRL_en b then 1 else 0)
  let subs := ((enabledIn old PUB_SUB_CTRL_en) ++ enabledIn m.force PUB_SUB_CTRL_en).eraseDups
  let m := m.each subs fun i m =>
    if subItem old oldBulk i == subItem m.force m.bulkF i then m else
      let m := (m.onSub i fun _ => {}).disarm (.tal i)
      m.setFld PUB_SUB_STS_state i (if m.on PUB_SUB_CTRL_en i then 1 else 0)
  m.setFld PUB_BUILD_t 0 (min 65535 (tPub m))

/-! ### Commands -/

/-- R220: PUB_FRAME_BUILD. -/
def execPubFrameBuild (t : Nat) (s : State) : Host.Outcome State Fault Refusal :=
  s.run t fun m => m.pubBuild (m.pub.queue.length + m.pub.behind.length)

/-- R205: GOOSE_RETRANSMISSION_DUE. A joining follower builds none (R213). -/
def execGooseRetransmissionDue (t : Nat) (block : Fin 1024) (s : State) : Host.Outcome State Fault Refusal :=
  s.run t fun m => if pubRole m = 5 then m else m.onExpiry (.retrans block) fun m => m.retransDue block

/-- R214: COMPARE_EXPIRY. -/
def execCompareExpiry (t : Nat) (block : Fin 1024) (s : State) : Host.Outcome State Fault Refusal :=
  s.run t fun m => m.onPast (.compare block) fun m => m.compareOut block

/-- R223: GOOSE_FRAME_RX. -/
def execGooseFrameRx (t : Nat) (fr : Frame) (_port : Fin 16) (arrival : Nat) (s : State) : Host.Outcome State Fault Refusal :=
  s.run t fun m => m.gooseRx fr (min arrival m.now)

/-- R224: GOOSE_SUB_TAL_EXPIRY. While the module follows or joins, the expiry waits until it decides for itself (R236). -/
def execGooseSubTalExpiry (t : Nat) (sub : Fin 4096) (s : State) : Host.Outcome State Fault Refusal :=
  s.run t fun m => if pubRole m = 2 ∨ pubRole m = 5 then m else m.onPast (.tal sub) fun m => m.subExpire sub

end Sys2Proof.Machine
end

