-- ==== Sys2Proof/Machine/Copy.lean ====
section
/-! DEFINITION. Digests between the twins (R237, R238) and the lead's side of a copy (R240–R244): cutting slots and closing the
copy. -/

namespace Sys2Proof.Machine

/-! ### Digests -/

/-- The first 8 bytes of a SHA-256. -/
def digest64 (bs : List Byte) : BitVec 64 := (Config.sha256 bs >>> 192).setWidth 64

/-- A difference of the pair, counted, with its time for R238. -/
def Mach.twinDiff (m : Mach) (n : Nat) : Mach :=
  let m := m.count (TWN_CNT_n.nth n)
  m.onTwn fun t => { t with diffs := m.now :: t.diffs }

/-- Does the module take part in the comparison of digests? -/
def comparing (m : Mach) : Bool := m.on TWN_CFG_en && plaitUp m && [1, 2, 5].contains (pubRole m)

/-- Slots already cut in the copy in progress. -/
def isCut (m : Mach) (slot : Nat) : Bool :=
  match m.twn.copy with
  | some c => c.cuts.any fun x => x.slot = slot
  | none => false

/-- A result digest difference (R237); one of a cut slot spoils the copy in progress (R244). -/
def Mach.resultDiff (m : Mach) (slot : Nat) : Mach :=
  let m := m.twinDiff 3
  if isCut m slot then m.onTwn fun t => { t with copy := t.copy.map fun c => { c with resDiff := true } } else m

/-- The module's own result digest, compared with the twin's when that has come. -/
def Mach.ownResult (m : Mach) (slot tick : Nat) (d : BitVec 64) : Mach :=
  match m.twn.theirR.find? fun e => e.1 = slot && e.2.1 = tick with
  | some e =>
    let m := m.onTwn fun t => { t with theirR := t.theirR.erase e }
    if e.2.2 = d then m else m.resultDiff slot
  | none => m.onTwn fun t => { t with ownR := ((slot, tick, d) :: t.ownR).take 8192 }

/-- A budget overrun of the module counts as a result digest difference (R239); a digest the twin has or sends for that job says no
more. -/
def Mach.ownOverrun (m : Mach) (slot tick : Nat) : Mach :=
  match m.twn.theirR.find? fun e => e.1 = slot && e.2.1 = tick with
  | some e => (m.onTwn fun t => { t with theirR := t.theirR.erase e }).resultDiff slot
  | none => (m.onTwn fun t => { t with skipR := ((slot, tick) :: t.skipR).take 8192 }).resultDiff slot

/-- Results of the module's own that the twin passes over, in the order of a slot's jobs: the twin had none, as after an overrun, and each
is a difference (R239). Only a module that follows counts them: the lead's own results reach back before the twin's slot began. -/
def Mach.passedOver (m : Mach) (slot tick : Nat) : Mach :=
  let (old, rest) := splitBy (fun e : Nat × Nat × BitVec 64 => e.1 == slot && decide (e.2.1 < tick)) m.twn.ownR
  let m := m.onTwn fun t => { t with ownR := rest, skipR := t.skipR.filter fun e => !(e.1 == slot && decide (e.2 < tick)) }
  if m.fld TWN_STS_state = 3 ∨ m.fld TWN_STS_state = 4 then m.each old fun _ m => m.resultDiff slot else m

/-- The twin's result digest, compared with the module's own when that is there. -/
def Mach.theirResult (m : Mach) (slot tick : Nat) (d : BitVec 64) : Mach :=
  let m := m.passedOver slot tick
  if m.twn.skipR.contains (slot, tick) then m.onTwn fun t => { t with skipR := t.skipR.erase (slot, tick) } else
  match m.twn.ownR.find? fun e => e.1 = slot && e.2.1 = tick with
  | some e =>
    let m := m.onTwn fun t => { t with ownR := t.ownR.erase e }
    if e.2.2 = d then m else m.resultDiff slot
  | none => m.onTwn fun t => { t with theirR := ((slot, tick, d) :: t.theirR).take 8192 }

/-- Two tick digests: a difference is counted, an equality counts toward settling (R237, R244). -/
def Mach.tickCompared (m : Mach) (same : Bool) : Mach :=
  let m := m.onTwn fun t => { t with copy := t.copy.map fun c => { c with matched := if same then c.matched + 1 else 0 } }
  if same then m else m.twinDiff 2

/-- The module's own tick digest. -/
def Mach.ownTick (m : Mach) (group tick : Nat) (d : BitVec 64) : Mach :=
  match m.twn.theirs.find? fun e => e.1 = group && e.2.1 = tick with
  | some e => (m.onTwn fun t => { t with theirs := t.theirs.erase e }).tickCompared (e.2.2 == d)
  | none => m.onTwn fun t => { t with own := ((group, tick, d) :: t.own).take 8192 }

/-- The twin's tick digest. -/
def Mach.theirTick (m : Mach) (group tick : Nat) (d : BitVec 64) : Mach :=
  match m.twn.own.find? fun e => e.1 = group && e.2.1 = tick with
  | some e => (m.onTwn fun t => { t with own := t.own.erase e }).tickCompared (e.2.2 == d)
  | none => m.onTwn fun t => { t with theirs := ((group, tick, d) :: t.theirs).take 8192 }

/-! ### Contents of a copy (R242–R244) -/

/-- The bytes of a CUT, as its digest takes them (log 15). -/
def cutBytes (c : CutMsg) : List Byte :=
  bytesBE 2 c.slot.val ++ bytesBE 8 c.tick.toNat ++ bytesBE 1 c.state.val ++ bytesBE 1 c.primed.toNat ++ [c.consec] ++ c.area
    ++ (match c.latchTick with | some t => bytesBE 8 t.toNat | none => [])

/-- The bytes of an energy latch (log 15). -/
def latchBytes (l : List EnergyLatch) : List Byte :=
  l.flatMap fun e => bytesBE 2 e.point ++ (e.accs.flatMap fun a => bytesBE 6 a) ++ e.wraps.flatMap fun w => bytesBE 1 w

/-- The final digest of a copy. -/
def copyDigest (cuts : List CutMsg) (l : List EnergyLatch) : BitVec 64 := digest64 (cuts.flatMap cutBytes ++ latchBytes l)

/-- TWN_COPY_STS and TWN_STS.copy_active shown. -/
def Mach.showCopy (m : Mach) (phase cut total : Nat) : Mach :=
  let m := ((m.setFld TWN_COPY_STS_phase 0 phase).setFld TWN_COPY_STS_cut 0 cut).setFld TWN_COPY_STS_total 0 total
  m.setFlag TWN_STS_copy_active 0 (phase != 0)

/-- The enabled slots, in ascending order. -/
def slotList (m : Mach) : List Nat := ((enabledIn m.force DSP_SLOT_CFG_en).filter (· < 4096)).mergeSort

/-- The bytes of a slot's state area (R240). -/
def areaOf (m : Mach) (slot : Nat) : List Byte :=
  m.partRead (slot / 64) (m.cfg TWN_SLOT_AREA_page slot * 4096) (m.cfg TWN_SLOT_AREA_size slot * 4096)

/-- The lead's CEND, once every slot is cut and the energy latch taken (R243, R244). -/
def Mach.tryCend (m : Mach) : Mach :=
  match m.twn.copy with
  | some c =>
    let named := c.latchTick.isNone || !m.twn.latch.isEmpty || (nrgPoints m).isEmpty
    if m.fld TWN_STS_state = 2 ∧ m.fld TWN_COPY_STS_phase = 2 ∧ named = true then
      let n := c.cuts.length
      let msg : CendMsg := { count := n, latch := m.twn.latch, digest := copyDigest c.cuts m.twn.latch }
      (m.showCopy 3 n n).plaitSend (.cend msg)
    else m
  | none => m

/-- The lead starts a copy for a joining partner (R242). -/
def Mach.startCopy (m : Mach) : Mach :=
  let slots := slotList m
  let m := m.onTwn fun t => { t with copy := some { nextSlot := slots.headD 0 }, latch := [] }
  if slots.isEmpty then (m.showCopy 2 0 0).tryCend else m.showCopy 1 0 slots.length

/-- The end of a job at the lead: its slot is cut when it is the slot's turn (R242). The first CUT names the energy latch
tick, a tick that neither module has applied (R243; log 15). -/
def Mach.cutAt (m : Mach) (slot tick : Nat) : Mach :=
  match m.twn.copy with
  | some c =>
    if m.fld TWN_STS_state = 2 ∧ m.fld TWN_COPY_STS_phase = 1 ∧ c.nextSlot = slot then
      let first := c.cuts.isEmpty
      let latch := nextTick m + 64
      let msg : CutMsg := {
        slot := ⟨slot % 4096, Nat.mod_lt _ (by decide)⟩, tick := BitVec.ofNat 64 tick
        state := ⟨m.fld DSP_SLOT_STS_state slot % 4, Nat.mod_lt _ (by decide)⟩, primed := m.flag DSP_SLOT_STS_primed slot
        consec := BitVec.ofNat 8 (m.fld DSP_SLOT_STS_consec slot), area := areaOf m slot
        latchTick := if first then some (BitVec.ofNat 64 latch) else none }
      let left := (slotList m).filter (slot < ·)
      let n := c.cuts.length + 1
      let m := m.onTwn fun t => { t with copy := some { c with
        cuts := c.cuts ++ [msg], nextSlot := left.headD 0, latchTick := if first then some latch else c.latchTick } }
      let m := m.plaitSend (.cut msg)
      if left.isEmpty then (m.showCopy 2 n n).tryCend else m.showCopy 1 n (n + left.length)
    else m
  | none => m

/-- A copy ends: its traces go, and its phase reads idle. -/
def Mach.endCopy (m : Mach) : Mach :=
  let m := m.onTwn fun t => { t with copy := none, latch := [] }
  ((m.disarm .copySettle).disarm .copyRetry).showCopy 0 0 0

/-- A copy fails (R245): a follower refuses it, stops releasing and awaits another; a lead starts a new one 100 ms later. -/
def Mach.failCopy (m : Mach) : Mach :=
  if m.twn.copy.isNone then m
  else if m.fld TWN_STS_state = 3 then
    let m := (m.endCopy.onTwn fun t => { t with copy := some {} }).plaitSend (.cack false)
    (m.count (TWN_CNT_n.nth 6)).event 0x31 6
  else m.endCopy.arm .copyRetry (m.now + 100000000)

end Sys2Proof.Machine
end

