-- ==== Sys2Proof/Machine/Dsp.lean ====
section
/-! DEFINITION. Dispatch of function slots (R173–R199): releases, deferral, jobs, results, budgets, priming, slot states and
shedding. -/

namespace Sys2Proof.Machine

/-! ### Slots and jobs -/

/-- The dispatcher changed. -/
def Mach.onDsp (m : Mach) (f : Dsp → Dsp) : Mach := { m with dsp := f m.dsp }

/-- Slot states (R197): Disabled 0, Priming 1, Running 2, Suspended 3. -/
def slotState (m : Mach) (s : Nat) : Nat := m.fld DSP_SLOT_STS_state s

/-- The pending jobs of a slot, oldest first. -/
def jobsOf (m : Mach) (s : Nat) : List Job := m.dsp.jobs.filter fun j => j.slot = s

/-! ### The cores (R176, R192, R193) -/

/-- Is a job ready: the oldest of its slot, in a partition that is Active (log 106)? -/
def jobReady (m : Mach) (j : Job) : Bool := m.partState (j.slot / 64) == psActive && (jobsOf m j.slot).head? == some j

/-- Does a job go before another on a core: the earlier absolute deadline, then the lower slot index (R192)? -/
def jobAhead (a b : Job) : Bool := decide (a.deadline < b.deadline) || (a.deadline == b.deadline && decide (a.slot < b.slot))

/-- Does a job run? In the manager window none does (R176); else the first of the ready jobs of each core. -/
def jobRuns (m : Mach) (j : Job) : Bool :=
  !m.dsp.mgrOpen && jobReady m j && m.dsp.jobs.all fun x => !(x.core == j.core && jobReady m x && jobAhead x j)

/-- The job that a core runs. -/
def runningOn (m : Mach) (core : Nat) : Option Job := m.dsp.jobs.find? fun j => j.core == core && jobRuns m j

/-- The time since the cores were last looked at counts for the jobs that have run (R193). It is taken before anything changes which jobs
run: a release, the end of a job, a manager window, a division, a partition's state. -/
def Mach.runJobs (m : Mach) : Mach :=
  m.onDsp fun d => { d with
    jobs := d.jobs.map fun j => if jobRuns m j then { j with exec := j.exec + (m.now - d.ranAt) } else j
    ranAt := m.now }

/-- DSP_SLOT_STS.pending shown. -/
def Mach.showJobs (m : Mach) (s : Nat) : Mach := m.setFld DSP_SLOT_STS_pending s (jobsOf m s).length

/-- A DSP event about a slot: the event, attributed to the slot, and source 65 of its partition (R273). -/
def Mach.slotEvent (m : Mach) (bit_ s : Nat) (always : Bool := false) : Mach :=
  let m := if always then m.eventAlways 0x09 bit_ (.slot s) else m.event 0x09 bit_ (.slot s)
  m.signalPart (s / 64) 65

/-- The core a slot runs on (R175). -/
def coreOf (m : Mach) (s : Nat) : Nat := m.cfg VRT_PART_CFG_pos (s / 64) * coresPerShare m + m.cfg DSP_SLOT_CFG_core s

/-- Is a slot due on a tick (R173)? -/
def dueOn (m : Mach) (s tick : Nat) : Bool :=
  m.cfg DSP_SLOT_CFG_period s != 0 && tick % m.cfg DSP_SLOT_CFG_period s == m.cfg DSP_SLOT_PHASE_phase s

/-- The least whole number of ns that is not less than T_µs − J: two releases of a slot in fewer come too soon (R190). -/
def separation (m : Mach) (s : Nat) : Nat :=
  ceilDiv (m.cfg DSP_SLOT_CFG_period s * 1000000000) (rateHz (m.cfg SVI_TICK_rate)) - m.cfg DSP_CFG_sep_tol * 1000

/-! ### Effective priming (R186) -/

/-- The ticks of a number of half nominal cycles, a fraction of a tick counted as one (R186, log 28). -/
def halfCycles (g : Gen) (k : Nat) : Nat := ceilDiv (k * g.rate) (2 * g.fNom)

/-- The priming an item needs. -/
def itemPrime (g : Gen) (sel : Nat) : Nat :=
  match bit sel 31, bits sel 7 0 with
  | false, 0x00 => 1
  | false, code => halfCycles g (if g.on MSR_CH_CFG_half (bits sel 29 16) && !([0x03, 0x05, 0x06].contains code) then 1 else 2)
  | true, 0x13 => halfCycles g 6
  | true, 0x14 => halfCycles g (2 * (3 + g.cfg MSR_CFG_rocof_win))
  | true, _ => halfCycles g 2

/-- P_min of a slot: the largest over its selection's items, 1 without a selection. -/
def pMin (g : Gen) (s : Nat) : Nat :=
  let w0 := g.bulkWord 0x0B 1 (256 * s)
  if bit w0 31 then
    ((List.range (bits w0 5 0)).map fun i => itemPrime g (g.bulkWord 0x0B 1 (256 * s + 4 + 4 * i))).foldl max 1
  else 1

/-- P_eff of a slot in a set of settings. -/
def pEff (g : Gen) (s : Nat) : Nat := max (g.cfg DSP_SLOT_PRIME_prime s) (pMin g s)

/-- The settings in force now. -/
def genNow (m : Mach) : Gen := { first := 0, force := m.force, bulk := m.bulkF }

/-- Has a slot a selection in force? -/
def hasSelection (m : Mach) (s : Nat) : Bool := bit (m.bulkWord 0x0B 1 (256 * s)) 31

/-- Is a slot primed by a release with this block, after `n` releases since its start (R196)? -/
def primes (m : Mach) (s n : Nat) (block : Option Block) : Bool :=
  let enough := decide (pEff (genNow m) s ≤ n)
  if !hasSelection m s then enough else
    let clear := match block with
      | some b => !b.summary.getLsbD 12
      | none => false
    clear && (m.on DSP_SLOT_CFG_single s || enough)

/-- A slot starts (R196): from Running to Priming, and priming counts from here. Disabled and Suspended slots stay so (R197). -/
def Mach.slotStart (m : Mach) (s : Nat) : Mach :=
  let m := m.onDsp fun d => { d with relNo := kput s 0 d.relNo }
  let m := m.setFlag DSP_SLOT_STS_primed s false
  if slotState m s = 2 then m.setFld DSP_SLOT_STS_state s 1 else m

/-- A slot that starts at its next release (R257, R280). -/
def Mach.startLater (m : Mach) (s : Nat) : Mach :=
  m.onDsp fun d => { d with starting := s :: d.starting.filter (· != s) }

/-- The start of a slot that was to start at its next release. -/
def Mach.startNow (m : Mach) (s : Nat) : Mach :=
  if m.dsp.starting.contains s then (m.slotStart s).onDsp fun d => { d with starting := d.starting.filter (· != s) } else m

/-- A slot's counters return to their reset values (R409). -/
def Mach.slotCounters (m : Mach) (s : Nat) : Mach :=
  let m := ((m.setFld DSP_SLOT_REL_n s 0).setFld DSP_SLOT_OVR_n s 0).setFld DSP_SLOT_MISS_n s 0
  (m.setFld DSP_SLOT_RESP_MAX_v s 0).setFld DSP_SLOT_STS_consec s 0

/-! ### Outputs (R195) -/

/-- Is an earlier release of a slot, pending or deferred, still without its output? -/
def outputWaits (m : Mach) (s tick : Nat) : Bool :=
  (m.dsp.jobs.any fun j => j.slot == s && decide (j.tick < tick))
    || m.dsp.deferred.any fun x => x.slot == s && decide (x.tick < tick)

/-- The waiting outputs of a slot that can go now go to PUB, in order. -/
def Mach.flushOutputs (m : Mach) (s : Nat) : Mach :=
  let (stay, go) := splitBy (fun o : Output => o.slot != s || outputWaits m s o.tick) m.dsp.outQ
  (m.onDsp fun d => { d with outQ := stay }).each go fun o m => m.pubOutput o

/-- An output passed to PUB, after those of earlier releases of its slot (R202). -/
def Mach.slotOutput (m : Mach) (s tick : Nat) (q : BitVec 16) (values : List (Nat × BitVec 32)) : Mach :=
  let o : Output := { slot := s, tick := tick, nominal := nominalOf m tick, quality := q, values := values }
  if outputWaits m s tick then m.onDsp fun d => { d with outQ := d.outQ ++ [o] }
  else (m.pubOutput o).flushOutputs s

/-- An output without a value: no_release or shed, with the priming of its slot. -/
def Mach.emptyOutput (m : Mach) (s tick v : Nat) (flag : BitVec 16) : Mach :=
  let q := degrade 0 v flag
  m.slotOutput s tick (if m.flag DSP_SLOT_STS_primed s then q else degrade q 3 0x4#16) []

/-- no_release. -/
def Mach.noRelease (m : Mach) (s tick : Nat) : Mach := m.emptyOutput s tick 1 0x8000#16

/-! ### Releases (R188–R191, R196, R198) -/

/-- A slot released with its block (R188 steps 2 and 3), or dropped when its ring or its pending jobs are full (R191). -/
def Mach.releaseSlot (m : Mach) (s tick : Nat) (block : Option Block) : Mach :=
  let p := s / 64
  let f := s % 64
  if !mringRoom m p f || 7 ≤ (jobsOf m s).length then ((m.count (DSP_CNT_n.nth 6)).slotEvent 6 s true).noRelease s tick
  else
    let m := m.startNow s
    let n := (kget s m.dsp.relNo).getD 0
    let primed := m.flag DSP_SLOT_STS_primed s || primes m s n block
    let m := m.setFlag DSP_SLOT_STS_primed s primed
    let m := if primed && slotState m s == 1 then m.setFld DSP_SLOT_STS_state s 2 else m
    let m := (m.runJobs).writeBlock p f (match block with | some b => b.bytes | none => [])
    let j : Job := {
      slot := s, tick := tick, released := m.now, deadline := m.now + m.cfg DSP_SLOT_D_d s * 1000, core := coreOf m s,
      budget := m.cfg DSP_SLOT_C_c s * 100, primed := primed }
    let m := m.onDsp fun d => { d with
      jobs := d.jobs ++ [j], relNo := kput s (n + 1) d.relNo, lastRel := kput s m.now d.lastRel }
    let m := ((m.count DSP_CNT_n).count DSP_SLOT_REL_n s).showJobs s
    m.signalPart p f

/-- Does shedding skip a slot (R198)? -/
def sheds (m : Mach) (s : Nat) : Bool :=
  shedding m && (match m.cfg DSP_SLOT_CFG_class s with
    | 2 => m.on DSP_SHED_slow
    | 1 => m.on DSP_SHED_std && belowFloor m
    | _ => false)

/-- Is a slot not released at all: Suspended, or its partition Stopped or Resetting (R197, R257)? -/
def notReleased (m : Mach) (s : Nat) : Bool :=
  let st := m.partState (s / 64)
  st == psStopped || st == psResetting || slotState m s == 3

/-- A due release of a slot: held while its partition is frozen, deferred when it comes too soon, else made. -/
def Mach.dueSlot (m : Mach) (s tick : Nat) (block : Option Block) : Mach :=
  let st := m.partState (s / 64)
  if slotState m s = 0 ∨ st = 0 then m
  else if notReleased m s then m.noRelease s tick
  else if st = psFreezing ∨ st = psFrozen then
    let again := m.dsp.held.any fun h => h.1 = s
    let m := if again then m.count (DSP_CNT_n.nth 1) else m
    m.onDsp fun d => { d with held := (d.held.filter fun h => h.1 != s) ++ [(s, tick, block)] }
  else if sheds m s then ((m.count (DSP_CNT_n.nth 5)).slotEvent 5 s).emptyOutput s tick 3 0x4000#16
  else
    let soon := match kget s m.dsp.lastRel with
      | some l => if m.now < l + separation m s then some (l + separation m s) else none
      | none => none
    match soon with
    | some at_ =>
      if m.running (.deferral s) then
        (m.count (DSP_CNT_n.nth 1)).onDsp fun d => { d with deferred := d.deferred.map fun x =>
          if x.slot = s then { x with block := block, tick := tick } else x }
      else
        let m := m.onDsp fun d => { d with deferred := d.deferred ++ [{ slot := s, at_ := at_, block := block, tick := tick }] }
        ((m.count (DSP_CNT_n.nth 2)).slotEvent 4 s).arm (.deferral s) at_
    | none => m.releaseSlot s tick block

/-- The block of a slot for a tick, among those of a set. -/
def blockIn (out : SetOut) (s tick : Nat) : Option Block := out.blocks.find? fun b => b.slot = s && b.tick = tick

/-- The slots due in a tick set, each with its latest due tick and the earlier ones (R189), in order of deadline. -/
def dueIn (m : Mach) (out : SetOut) : List (Nat × Nat × List Nat) :=
  let one := fun (s : Nat) =>
    let ticks := (out.ticks.filter fun t => t.group = m.cfg DSP_SLOT_CFG_group s && dueOn m s t.pair).map (·.pair)
    match ticks.getLast? with
    | some t => some (s, t, ticks.dropLast)
    | none => none
  ((slotList m).filterMap one).mergeSort fun a b => m.cfg DSP_SLOT_D_d a.1 ≤ m.cfg DSP_SLOT_D_d b.1

/-- The earlier due ticks of a slot in a set: coalesced (R189), or each an output with no_release where the slot is not
released (R197, R257). -/
def Mach.dueEarlier (m : Mach) (s : Nat) (ticks : List Nat) : Mach :=
  if m.dsp.deferred.all (fun x => x.slot != s) && notReleased m s then m.each ticks fun t m => m.noRelease s t
  else m.count (DSP_CNT_n.nth 1) 0 ticks.length

/-- A due tick of a joining follower's slot waits for its CUT (R242). -/
def Mach.queueTick (m : Mach) (s tick : Nat) (block : Option Block) : Mach :=
  let b := block.getD { slot := s, tick := tick, bytes := [], summary := 0 }
  m.onTwn fun t => { t with copy := t.copy.map fun c =>
    let mine := (c.queued.filter fun q => q.1 = s) ++ [(s, b)]
    { c with queued := (c.queued.filter fun q => q.1 != s) ++ mine.drop (mine.length - 64) } }

/-- Has a joining follower installed the CUT of a slot? -/
def installed (m : Mach) (s : Nat) : Bool :=
  match m.twn.copy with
  | some c => c.released.contains s
  | none => false

/-- Deferred releases take the newest block of a set (R190). -/
def Mach.newestBlocks (m : Mach) (out : SetOut) : Mach :=
  m.onDsp fun d => { d with deferred := d.deferred.map fun x =>
    match (out.blocks.filter fun b => b.slot = x.slot).getLast? with
    | some b => { x with block := some b, tick := b.tick }
    | none => x }

/-- A tick set handed over to DSP (R188): subscription events go first (R236), then the due slots are released in order of
deadline, and the deferred releases hold the newest block. -/
def Mach.dspTake (m : Mach) (out : SetOut) : Mach :=
  let first := (out.ticks.map (·.pair)).headD 0
  let m := m.each out.events fun e m => m.mergedEvent first e
  let m := m.each (dueIn m out) fun (s, tick, early) m =>
    if pubRole m = 5 && !installed m s then (m.count (DSP_CNT_n.nth 1) 0 early.length).queueTick s tick (blockIn out s tick)
    else (m.dueEarlier s early).dueSlot s tick (blockIn out s tick)
  m.newestBlocks out

/-- A deferred release becomes possible (R190). -/
def Mach.releaseDeferred (m : Mach) (s : Nat) : Mach :=
  match m.dsp.deferred.find? fun x => x.slot = s with
  | some x => (m.onDsp fun d => { d with deferred := d.deferred.filter fun x => x.slot != s }).dueSlot s x.tick x.block
  | none => m

/-- The releases held during a freeze, made at its end (R287). -/
def Mach.releaseHeld (m : Mach) (p : Nat) : Mach :=
  let (mine, rest) := splitBy (fun h : Nat × Nat × Option Block => h.1 / 64 = p) m.dsp.held
  (m.onDsp fun d => { d with held := rest }).each ((mine.mergeSort fun a b => a.1 ≤ b.1).mergeSort fun a b => m.cfg DSP_SLOT_D_d a.1 ≤ m.cfg DSP_SLOT_D_d b.1)
    fun (s, tick, block) m => m.dueSlot s tick block

/-! ### The end of a job (R193–R195) -/

/-- A job leaves the pending jobs. -/
def Mach.endJob (m : Mach) (j : Job) : Mach :=
  ((m.runJobs).onDsp fun d => { d with jobs := d.jobs.eraseP fun x => x.slot == j.slot && x.tick == j.tick }).showJobs j.slot

/-- An accepted RESULT: output quality, counts, PUB, the twin's comparison, ACQ triggers, and the copy (R194, R195, R237,
R242). -/
def Mach.acceptResult (m : Mach) (j : Job) (q : BitVec 16) (values : List (Nat × BitVec 32)) (payload : List Byte) : Mach :=
  let s := j.slot
  let q := q &&& 0x0FFB#16
  let q := if j.primed then q else degrade q 3 0x4#16
  let late := decide (j.deadline < m.now)
  let q := if late then degrade q 3 0x2000#16 else q
  let m := m.endJob j
  let m := if late then ((m.count (DSP_CNT_n.nth 4)).count DSP_SLOT_MISS_n s).slotEvent 1 s else m
  let m := m.setFld DSP_SLOT_STS_consec s 0
  let m := m.raise DSP_SLOT_RESP_MAX_v s (min (2 ^ 24 - 1) (ceilDiv (m.now - j.released) 100))
  let m := m.slotOutput s j.tick q values
  let m := m.acqResult s j.tick values q
  let m := if comparing m then
      let d := digest64 (payload ++ bytesBE 2 q.toNat)
      (m.plaitSend (.rdig s j.tick d)).ownResult s j.tick d
    else m
  m.cutAt s j.tick

/-- A slot reaches its overrun limit: Suspended from Priming or Running. Of a job whose declaration a new set replaced, entry into
Priming follows (R197). -/
def Mach.suspend (m : Mach) (s : Nat) (replaced : Bool) : Mach :=
  if slotState m s = 1 ∨ slotState m s = 2 then
    let m := (m.setFld DSP_SLOT_STS_state s 3).slotEvent 2 s
    if replaced then (m.setFld DSP_SLOT_STS_state s 1).slotStart s else m
  else m

/-- The budget of a job is used up: it is stopped (R193). The pair sees an overrun as a difference of results (R239). -/
def Mach.overrun (m : Mach) (j : Job) : Mach :=
  let s := j.slot
  let m := (m.endJob j).emit (.jobStop s)
  let m := ((m.count (DSP_CNT_n.nth 3)).count DSP_SLOT_OVR_n s).slotEvent 0 s true
  let n := min 255 (m.fld DSP_SLOT_STS_consec s + 1)
  let m := m.setFld DSP_SLOT_STS_consec s n
  let q := degrade (if j.primed then 0 else 0x7#16) 1 0x1000#16
  let m := m.slotOutput s j.tick q []
  let m := if comparing m then m.ownOverrun s j.tick else m
  let m := if m.cfg DSP_CFG_overrun_lim ≤ n then m.suspend s j.replaced else m
  m.cutAt s j.tick

/-- The oldest pending job of a slot. -/
def oldestJob (m : Mach) (s : Nat) : Option Job := (jobsOf m s).head?

/-! ### The partition's command ring (R262) -/

/-- Can DSP take a command of a partition: is it Active, is a command in its ring, and can a completion entry be reserved? -/
def canTake (m : Mach) (p : Nat) : Bool :=
  m.partState p == psActive && decide (0 < ringUsed (m.part p).cmdProd (m.part p).cmdCons) && cplRoom m p

/-- Checks 1 and 2 of R262. -/
def ringPacketOk (pk : RingPacket) : Bool :=
  decide (pk.payload.length = pk.length.toNat) && decide (pk.payload.length ≤ 4080) && pk.flags == 0 && pk.page == 0
    && pk.status == 0 && pk.rsv == 0

/-- A command taken from a partition's ring (R262): checks 1, 2 and 4, then `f`; `form` is what check 1 asks of the opcode beside
that. One that cannot be taken stays in its ring. -/
def Mach.takeCommand (m : Mach) (p : Nat) (pk : RingPacket) (form : Bool) (f : Mach → Mach) : Mach :=
  if !canTake m p then m else
    let m := m.onPart p fun b => { b with cmdCons := (b.cmdCons + 1) % 2 ^ 16 }
    if !ringPacketOk pk || !form then m.doneCmd p pk.tag 0x03 0 []
    else if 2048 / division m ≤ (m.part p).xfers.length then
      let m := m.onPart p fun b => { b with busyDsp := (b.busyDsp + 1) % 2 ^ 32 }
      let m := ((m.setFlag DSP_PART_STS_over p true).count (DSP_CNT_n.nth 8)).partEvent 0x09 8 p
      m.doneCmd p pk.tag 0x01 0 []
    else f m

/-- A RESULT or YIELD that DSP refuses (R194): the job keeps running. The manual gives its DONE no status: a free value
(log 16). -/
def Mach.refuseResult (m : Mach) (p s : Nat) (pk : RingPacket) : Mach :=
  let m := (m.count (DSP_CNT_n.nth 7)).slotEvent 3 s
  let (w, m) := m.drawWord
  m.doneCmd p pk.tag (w.toNat % 256) 0 []

/-- The outputs of a RESULT payload. -/
def resultValues (payload : List Byte) : List (Nat × BitVec 32) :=
  (chunks 8 payload.length (payload.drop 12)).map fun c => (natBE (c.take 1), word (natBE (c.drop 4)))

/-- A RESULT (R194). -/
def Mach.resultCmd (m : Mach) (p s : Nat) (pk : RingPacket) : Mach :=
  let n := natBE ((pk.payload.drop 10).take 2)
  let ok := s / 64 = p ∧ pk.payload.length = 12 + 8 * n ∧ n ≤ 64
  match oldestJob m s with
  | some j =>
    if ok ∧ natBE (pk.payload.take 8) = j.tick then
      m.acceptResult j (BitVec.ofNat 16 (natBE ((pk.payload.drop 8).take 2))) (resultValues pk.payload) pk.payload
    else m.refuseResult p s pk
  | none => m.refuseResult p s pk

/-- A YIELD (R194, R261): the job ends without a result. -/
def Mach.yieldCmd (m : Mach) (p s : Nat) (pk : RingPacket) : Mach :=
  match oldestJob m s with
  | some j =>
    if s / 64 = p ∧ pk.payload.length = 8 ∧ natBE pk.payload = j.tick then
      ((m.endJob j).noRelease s j.tick).cutAt s j.tick
    else m.refuseResult p s pk
  | none => m.refuseResult p s pk

/-! ### Slot commands and slot reset (R197, R280) -/

/-- DSP_SLOT_CMD. -/
def Mach.slotCommand (m : Mach) (s w : Nat) : Mach :=
  let m := if bit w 1 then m.setFld DSP_SLOT_RESP_MAX_v s 0 else m
  if bit w 0 && slotState m s == 3 then (m.setFld DSP_SLOT_STS_state s 1).slotStart s else m

/-- A deferred release that will not be made gives no_release. -/
def Mach.dropDeferred (m : Mach) (s : Nat) : Mach :=
  match m.dsp.deferred.find? fun x => x.slot = s with
  | some x =>
    ((m.disarm (.deferral s)).onDsp fun d => { d with deferred := d.deferred.filter fun x => x.slot != s }).noRelease s x.tick
  | none => m

/-- A slot of an Active partition reset (R280). -/
def Mach.slotReset (m : Mach) (s : Nat) : Mach :=
  let p := s / 64
  if m.partState p = psActive then
    let m := m.each (jobsOf m s) fun j m => (m.endJob j).noRelease s j.tick
    let m := m.dropDeferred s
    let m := m.onRing p (s % 64) fun r => { r with prod := r.cons }
    ((m.slotCounters s).startLater s).event 0x32 2 (.slot s)
  else m

/-! ### A new set (R177, R178, R197) -/

/-- The declaration of a slot in a set of settings. -/
def slotWords (force : KMap Word) (s : Nat) : List (Option Word) :=
  [0x064, 0x068, 0x06C, 0x070, 0x074, 0x078].map fun o => kget (regKey 0x09 o s) force

/-- A share division takes effect: queue depths change, pending jobs move with their slots (R177, R178). -/
def Mach.divide (m : Mach) : Mach :=
  let depth := 2048 / division m
  let m := m.runJobs
  let m := m.each (List.range 64) fun p m =>
    (m.setFld DSP_PART_STS_depth p depth).setFlag DSP_PART_STS_over p (decide (depth ≤ (m.part p).xfers.length))
  m.onDsp fun d => { d with jobs := d.jobs.map fun j => { j with core := coreOf m j.slot } }

/-- A set of the DSP page takes effect at a share-frame boundary. -/
def Mach.dspApply (m : Mach) (old : KMap Word) : Mach :=
  let changed := kget (regKey 0x09 0x040 0) old != kget (regKey 0x09 0x040 0) m.force
  let m := m.divide
  let m := if changed then m.event 0x09 7 else m
  let slots := ((enabledIn old DSP_SLOT_CFG_en) ++ slotList m).eraseDups
  m.each slots fun s m =>
    if slotWords old s = slotWords m.force s then m else
    let m := m.onDsp fun d => { d with jobs := d.jobs.map fun j => if j.slot = s then { j with replaced := true } else j }
    if m.on DSP_SLOT_CFG_en s then (m.setFld DSP_SLOT_STS_state s 1).slotStart s
    else
      ((m.setFld DSP_SLOT_STS_state s 0).setFlag DSP_SLOT_STS_primed s false).dropDeferred s

/-! ### Commands -/

/-- R194: RESULT. -/
def execResult (t : Nat) (part : Fin 64) (slot : Fin 4096) (pk : RingPacket) (s : State) : Host.Outcome State Fault Refusal :=
  s.run t fun m => m.takeCommand part pk true fun m => m.resultCmd part slot pk

/-- R194: YIELD. -/
def execYieldJob (t : Nat) (part : Fin 64) (slot : Fin 4096) (pk : RingPacket) (s : State) : Host.Outcome State Fault Refusal :=
  s.run t fun m => m.takeCommand part pk true fun m => m.yieldCmd part slot pk

/-- The budget of a slot's oldest job ends, when its core has executed it for C (R193). -/
def Mach.budgetEnd (m : Mach) (s : Nat) : Mach :=
  let m := m.runJobs
  match oldestJob m s with
  | some j => if j.budget ≤ j.exec then m.overrun j else m
  | none => m

/-- R193: BUDGET_EXHAUSTED. -/
def execBudgetExhausted (t : Nat) (slot : Fin 4096) (s : State) : Host.Outcome State Fault Refusal :=
  s.run t fun m => m.budgetEnd slot

/-- R190: RELEASE_DEFERRAL_EXPIRY. -/
def execReleaseDeferralExpiry (t : Nat) (slot : Fin 4096) (s : State) : Host.Outcome State Fault Refusal :=
  s.run t fun m => m.onExpiry (.deferral slot) fun m => m.releaseDeferred slot

/-- R176: MANAGER_WINDOW_END: B µs after the share frame began the window closes, and slots run again. -/
def execManagerWindowEnd (t : Nat) (s : State) : Host.Outcome State Fault Refusal :=
  s.run t fun m =>
    if m.cfg DSP_CFG_mgr_win * 1000 ≤ m.now % 1000000 then (m.runJobs).onDsp fun d => { d with mgrOpen := false } else m

end Sys2Proof.Machine
end

