-- ==== Sys2Proof/Machine/Warp.lean ====
section
/-! DEFINITION. The Warp fabric (R61–R72): transaction headers, their time tags, the arbitration of a merge point, and which
handshakes are still in flight. -/

namespace Sys2Proof.Machine

/-! ### Time tags (R68, R69) -/

/-- A response to a request raised at the instant `raised`: origin and target change places, tag and part are the request's, and the
stamp is the greater of the responder's own time and the request's tag + 4 ns (R63, R69). -/
def answerTo (m : Mach) (h : WarpHdr) (raised status : Nat) : WarpHdr := {
  origin := h.dest, dest := h.origin, op := 11, tag := h.tag, part := h.part, addr := 0, length := 0, status := BitVec.ofNat 4 status
  time := tagOf (max m.now (raised / 4 * 4 + 4)) }

/-! ### Arbitration (R66, R67) -/

/-- What a merge point serves: an engine lane, or a partition. -/
inductive Grant
  | lane (n : Nat)
  | part (p : Nat)
  deriving DecidableEq, Repr

/-- The first of `n` places, from `start` on in rotation, that is wanted. -/
def nextInTurn (start n : Nat) (want : Nat → Bool) : Option Nat := ((List.range n).map fun i => (start + i) % n).find? want

/-- The share position of a partition. -/
def sharePos (m : Mach) (p : Nat) : Nat := m.cfg VRT_PART_CFG_pos p

/-- The partition served next among those with a request: by rotation over the share positions, or in fixed order when fair is 0. -/
def partTurn (m : Mach) (parts : List Nat) : Option Nat :=
  if m.on PACE_ARB_fair then
    (nextInTurn m.pace.warp.pos (division m) fun q => parts.any fun p => sharePos m p == q).bind fun q => parts.find? fun p => sharePos m p == q
  else (List.range 64).find? parts.contains

/-- One handshake of a merge point, with the engine lanes and the partitions that have a request pending: lanes and partitions are
offered every second one, a handshake that its side does not use passes to the other, and each side is served in rotation. -/
def Mach.merge (m : Mach) (lanes parts : List Nat) : Option Grant × Mach :=
  let w := m.pace.warp
  let lane := (nextInTurn w.lane 8 lanes.contains).map Grant.lane
  let part := (partTurn m parts).map Grant.part
  let pick := if w.engines then lane.or part else part.or lane
  match pick with
  | none => (none, m)
  | some g =>
    let w := { w with engines := !w.engines }
    let w := match g with
      | .lane n => { w with lane := (n + 1) % 8 }
      | .part p => { w with pos := (sharePos m p + 1) % division m }
    (some g, { m with pace := { m.pace with warp := w } })

/-- A partition's transfer raises a request: it takes its turn at the merge point. -/
def Mach.raiseRequest (m : Mach) (p : Nat) : Mach := (m.merge [] [p]).2

/-! ### Handshakes in flight (R71, R72) -/

/-- Has a handshake that began at an instant lasted the watchdog's limit? -/
def overdue (m : Mach) (since : Nat) : Bool := decide (since + m.cfg PACE_WDOG_limit * 1000 ≤ m.now)

/-- The partition and transfer tag of a partition-attributed transaction (R65). -/
def partTag (h : WarpHdr) : Option (Nat × Nat) := if h.tag.getLsbD 9 then none else some (h.tag.toNat % 512 / 8, h.tag.toNat % 8)

/-- The transfer that a partition-attributed transaction belongs to, while it is in flight. -/
def xferOf (m : Mach) (h : WarpHdr) : Option Xfer :=
  (partTag h).bind fun e => (m.part e.1).xfers.find? fun x => x.tag = e.2

/-- The key of an engine lane's transaction on a channel. -/
def laneKey (response : Bool) (h : WarpHdr) : Nat := response.toNat * 2 ^ 18 + h.origin.toNat * 2 ^ 10 + h.tag.toNat

/-- Is a Warp handshake still in flight, and overdue (R71, R72)? A transfer's transaction is in flight while its tag is held; an engine
lane's is as the watchdog reports it, and ends once. -/
def stalled (m : Mach) (response : Bool) (h : WarpHdr) (raised : Nat) : Bool :=
  match partTag h with
  | some _ => ((xferOf m h).map fun x => overdue m x.since).getD false
  | none => overdue m raised && match kget (laneKey response h) m.pace.warp.ended with
    | some t => decide (t < raised)
    | none => true

/-- A handshake of an engine lane that ended by expiry: it does not end again. -/
def Mach.endLane (m : Mach) (response : Bool) (h : WarpHdr) (raised : Nat) : Mach :=
  if (partTag h).isSome then m
  else { m with pace := { m.pace with warp := { m.pace.warp with ended := kput (laneKey response h) raised m.pace.warp.ended } } }

end Sys2Proof.Machine
end

