-- ==== Sys2Proof/Machine/Parts.lean ====
section
/-! DEFINITION. Partitions at work (R256–R259, R266–R272, R276–R280, R285–R287): start, reset, transfers, virtual NIC, the manager
ring, freeze and thaw. -/

namespace Sys2Proof.Machine

/-! ### Start (R256, R259) -/

/-- The start check of a partition: its rings, the measurand rings of its enabled slots and its state areas lie in enabled
regions. -/
def startCheck (m : Mach) (p : Nat) : Bool :=
  let b := m.part p
  let slots := (List.range 64).map fun f => p * 64 + f
  covered m p b.cmdBase (4096 * 2 ^ b.cmdLog) && covered m p b.cplBase (4096 * 2 ^ b.cplLog)
    && (slots.all fun s => !m.on DSP_SLOT_CFG_en s ||
      (let r := (kget (s % 64) b.rings).getD {}
       covered m p r.base (4096 * 2 ^ r.log2)))
    && slots.all fun s => covered m p (m.cfg TWN_SLOT_AREA_page s * 4096) (m.cfg TWN_SLOT_AREA_size s * 4096)

/-- A partition enters Active. -/
def Mach.enterActive (m : Mach) (p : Nat) : Mach :=
  ((m.runJobs).setFld VRT_PART_STS_state p psActive).setFld RIM_STS_dbg 0 (min 1 (m.fld RIM_STS_dbg))

/-- VRT_CMD.start: ignored outside Stopped; a failed start check is recorded (R259). -/
def Mach.partStart (m : Mach) (p : Nat) : Mach :=
  if m.partState p ≠ psStopped then m
  else if startCheck m p then
    (m.enterActive p).each ((List.range 64).map fun f => p * 64 + f) fun s m => m.startLater s
  else m.eventAlways 0x32 6 (.part p)

/-! ### Freeze and thaw (R286, R287) -/

/-- The words of a region as held and in force set. -/
def Mach.setRegion (m : Mach) (p n : Nat) (r : Region) : Mach :=
  let i := n * 64 + p
  let put := fun (off v : Nat) (m : Mach) => { m with
    regs := kput (regKey 0x33 off i) (word v) m.regs, force := kput (regKey 0x33 off i) (word v) m.force }
  put 0x04C r.size (put 0x048 r.hpa (put 0x044 (r.en.toNat * 2 ^ 31 + r.gpa) m))

/-- The region map in force at freeze entry restored. -/
def Mach.restoreMap (m : Mach) (p : Nat) : Mach :=
  let rs := (m.part p).oldMap.zipIdx
  m.each rs fun e m => m.setRegion p e.2 e.1

/-- The partition that is Freezing or Frozen. -/
def frozenPart (m : Mach) : Option Nat := (List.range 64).find? fun p => m.partState p == psFreezing || m.partState p == psFrozen

/-- VRT_MIG_CMD.freeze (R286). -/
def Mach.freezeCmd (m : Mach) : Mach :=
  let p := m.cfg VRT_MIG_part
  if !m.on VRT_MIG_en || m.partState p != psActive || (m.fld TWN_STS_state == 2 && m.fld TWN_STS_partner == 4) then
    m.event 0x32 7 (.part p)
  else
    let map := regionsOf m p
    let m := ((m.runJobs).setFld VRT_PART_STS_state p psFreezing).count (VRT_CNT_n.nth 2)
    let m := m.onPart p fun b => { b with freezeAt := m.now, oldMap := map }
    m.arm .blackout (m.now + m.cfg VRT_MIG_blackout * 1000)

/-- Freezing ends in Frozen once nothing is in flight. -/
def Mach.enterFrozen (m : Mach) (p : Nat) : Mach :=
  if m.partState p = psFreezing ∧ (m.part p).xfers.isEmpty = true then
    (m.setFld VRT_PART_STS_state p psFrozen).event 0x32 3 (.part p)
  else m

/-- The end of a freeze (R287): Active again, held releases made, held deliveries written. -/
def Mach.endFreeze (m : Mach) (auto : Bool) : Mach :=
  match frozenPart m with
  | none => m
  | some p =>
    let m := m.disarm .blackout
    let us := min 65535 ((m.now - (m.part p).freezeAt) / 1000)
    let m := (m.setFlag VRT_MIG_LAST_auto 0 auto).setFld VRT_MIG_LAST_time 0 us
    let m := if auto then ((m.restoreMap p).count (VRT_CNT_n.nth 3)).event 0x32 5 (.part p) else m.event 0x32 4 (.part p)
    let m := m.enterActive p
    let m := m.releaseHeld p
    m.deliverKept p (m.part p).kept.length

/-! ### Partition reset (R276–R279) -/

/-- A partition reset begins (R277 steps 1–4): fence, discards, final messages, no delivery. A partition that is Off or already
Resetting is not touched (R256, R278). -/
def Mach.partReset (m : Mach) (p : Nat) : Mach :=
  let st := m.partState p
  if st = 0 ∨ st = psResetting then m else
    let frozen := st == psFreezing || st == psFrozen
    let m := if frozen then (m.restoreMap p).disarm .blackout else m
    let m := (((m.runJobs).setFld VRT_PART_STS_state p psResetting).count VRT_CNT_n).event 0x32 0 (.part p)
    let mine := fun (s : Nat) => s / 64 == p
    let slots := ((m.dsp.jobs.map (·.slot)).filter mine).eraseDups
    let late := (m.dsp.deferred.map (·.slot)).filter mine
    let m := m.onDsp fun d => { d with
      jobs := d.jobs.filter (fun j => !mine j.slot), deferred := d.deferred.filter (fun x => !mine x.slot)
      held := d.held.filter (fun h => !mine h.1), outQ := d.outQ.filter (fun o => !mine o.slot), lastRel := d.lastRel.filter fun e => !mine e.1 }
    let m := m.each late fun s m => m.disarm (.deferral s)
    let m := m.each slots fun s m => m.showJobs s
    let m := m.onPart p fun b => { b with kept := [] }
    let m := m.pubFinal p
    m.failCopy

/-- The reset ends once nothing is in flight (R277 step 6): indices 0, pending bits cleared, the counters of its window and
slots at their reset values (R409), Stopped, or Off when the set that caused it disables the partition. -/
def Mach.partResetDone (m : Mach) (p : Nat) : Mach :=
  if m.partState p = psResetting ∧ (m.part p).xfers.isEmpty = true then
    let off := (m.part p).goOff
    let m := (m.onPart p fun b => { b with
      cmdProd := 0, cmdCons := 0, cplProd := 0, cplCons := 0, irqPend := 0, irqSent := 0, irqFast := 0, irqWait := [], irqHeld := 0
      busyXfr := 0, busyDsp := 0, drop := 0, gmerge := 0, rej := 0, goOff := false, rings := b.rings.map fun r => (r.1, { r.2 with prod := 0, cons := 0 }) }).disarm (.irqToken p)
    let m := m.onPart p fun b => { b with tokens := m.cfg IRQ_PART_burst p }
    let m := m.setFlag IRQ_STS_limited p false
    let m := (m.setFld VRT_PART_STS_state p (if off then 0 else psStopped)).showInflight p
    let m := m.each ((List.range 64).map fun f => p * 64 + f) fun s m => (m.slotCounters s).startLater s
    m.eventAlways 0x32 1 (.part p)
  else m

/-- A set of the VRT page takes effect (R256): partitions newly enabled are Stopped; a disabled one goes Off, through a reset
unless it is Stopped. -/
def Mach.vrtApply (m : Mach) : Mach :=
  m.each (List.range 64) fun p m =>
    match m.on VRT_PART_CFG_en p, m.partState p with
    | true, 0 => m.setFld VRT_PART_STS_state p psStopped
    | false, 0 => m
    | false, 1 => m.setFld VRT_PART_STS_state p 0
    | false, _ => (m.partReset p).onPart p fun b => { b with goOff := true }
    | true, _ => m

/-! ### Transfers (R267–R271) -/

/-- Do two ranges of equal length overlap? -/
def overlaps (a b n : Nat) : Bool := decide (a < b + n) && decide (b < a + n)

/-- The DONE payload of a transfer. -/
def xferDone (m : Mach) (tag kind written : Nat) (first : Word) : List Byte :=
  bytesBE 1 tag ++ bytesBE 1 kind ++ bytesBE 2 0 ++ bytesBE 4 written ++ bytesBE 4 first.toNat ++ bytesBE 4 m.tag.toNat

/-- A transfer that ends with a fault status: counted, with its event. -/
def Mach.xferFault (m : Mach) (p : Nat) (bit_ : Option Nat) : Mach :=
  let m := m.count (XFR_CNT_n.nth 3)
  match bit_ with
  | some b => m.partEvent 0x33 b p
  | none => m

/-- Is an object of OBJ_READ assigned to the partition, and the range inside it (R268 check 5)? -/
def objectOk (m : Mach) (p src n : Nat) : Bool :=
  let u := bits src 55 48
  bits src 63 56 == 0x0D && decide (u < 64) && m.on ACQ_UNIT_CFG_part_en u && m.cfg ACQ_UNIT_CFG_part u == p
    && decide (bits src 47 0 + n ≤ (acqObject m u).length)

/-- An XFER taken (R268). -/
def Mach.xferCmd (m : Mach) (p : Nat) (pk : RingPacket) : Mach :=
  let b := pk.payload
  let kind := natBE (b.take 1)
  let n := natBE ((b.drop 4).take 4)
  let src := natBE ((b.drop 8).take 8)
  let dst := natBE ((b.drop 16).take 8)
  let srcAt := if kind = 2 then bits src 47 0 else src
  let form := b.length == 24 && decide (kind ≤ 2) && natBE ((b.drop 1).take 3) == 0 && n % 8 == 0 && dst % 8 == 0
    && (kind == 1 || srcAt % 8 == 0) && decide (n ≤ 16777216) && !(kind == 0 && overlaps src dst n)
    && decide (dst + n ≤ 2 ^ 48) && (kind != 0 || decide (src + n ≤ 2 ^ 48))
  let now := m.tag
  if !form then m.doneCmd p pk.tag 0x03 0 []
  else if n = 0 then (m.count (XFR_CNT_n.nth 2)).doneCmd p pk.tag 0x00 0 (xferDone m 0 kind 0 now)
  else
    let xs := (m.part p).xfers
    match (List.range 8).find? fun t => !xs.any fun x => x.tag = t with
    | none =>
      let m := m.onPart p fun b => { b with busyXfr := (b.busyXfr + 1) % 2 ^ 32 }
      ((m.count (XFR_CNT_n.nth 1)).partEvent 0x33 3 p).doneCmd p pk.tag 0x01 0 []
    | some t =>
      if !covered m p dst n || (kind == 0 && !covered m p src n) then
        (m.xferFault p (some 0)).doneCmd p pk.tag 0x10 t (xferDone m t kind 0 now)
      else if kind = 2 && !objectOk m p src n then
        (m.xferFault p none).doneCmd p pk.tag 0x13 t (xferDone m t kind 0 now)
      else
        ((m.raiseRequest p).onPart p fun b => { b with xfers := b.xfers ++ [{
          tag := t, cmdTag := pk.tag, kind := kind, length := n, src := src, dst := dst, done := 0, first := now, since := m.now }] }).showInflight p

/-- The bytes of the next piece of a transfer: at most 4,096, crossing no 4 KiB boundary of source or destination (R271). -/
def pieceLen (x : Xfer) : Nat :=
  let room := fun (a : Nat) => 4096 - a % 4096
  let a := min (x.length - x.done) (room (x.dst + x.done))
  if x.kind = 1 then a else min a (room (bits x.src 47 0 + x.done))

/-- What a piece reads: partition memory, the pattern in payload order (log 17), or the engine object. -/
def pieceBytes (m : Mach) (p : Nat) (x : Xfer) : List Byte :=
  let n := pieceLen x
  match x.kind with
  | 0 => m.partRead p (x.src + x.done) n
  | 1 => (List.range n).map fun i => nthD (bytesBE 8 x.src) ((x.done + i) % 8) 0
  | _ => ((acqObject m (bits x.src 55 48)).drop (bits x.src 47 0 + x.done)).take n

/-- A transfer leaves its tag. -/
def Mach.dropXfer (m : Mach) (p : Nat) (x : Xfer) : Mach :=
  (m.onPart p fun b => { b with xfers := b.xfers.filter fun y => y.tag != x.tag }).showInflight p

/-- One piece of a transfer ends (R271). In a partition that is Resetting its write is discarded and its completion suppressed
(R277 step 5). -/
def Mach.pieceDone (m : Mach) (p tag : Nat) (e : PieceEnd) : Mach :=
  match (m.part p).xfers.find? fun x => x.tag = tag with
  | none => m
  | some x =>
    let stop := fun (status : Nat) (bit_ : Nat) (m : Mach) =>
      ((m.dropXfer p x).xferFault p (some bit_)).doneCmd p (x.cmdTag) status tag (xferDone m tag x.kind x.done x.first)
    if m.partState p = psResetting then
      match e with
      | .ok => ((m.dropXfer p x).count (XFR_CNT_n.nth 4)).partEvent 0x33 4 p
      | _ => m.dropXfer p x
    else
      match e with
      | .ecc => stop 0x11 1 m
      | .watchdog => stop 0x12 2 m
      | .ok =>
        let bs := pieceBytes m p x
        let m := (m.partWrite p (x.dst + x.done) bs 0).1
        let x' := { x with done := x.done + pieceLen x, since := m.now }
        if x'.length ≤ x'.done then
          ((m.dropXfer p x).count XFR_CNT_n).doneCmd p (x.cmdTag) 0x00 tag (xferDone m tag x.kind x'.done x.first)
        else (m.raiseRequest p).onPart p fun b => { b with xfers := b.xfers.map fun y => if y.tag = tag then x' else y }

/-! ### Virtual NIC and manager ring (R262, R266, R322) -/

/-- Is a VNIC_TX frame one that passes check 1: untagged, 60–1,514 bytes? -/
def vnicOk (bs : List Byte) : Bool :=
  let e := natBE ((bs.drop 12).take 2)
  decide (60 ≤ bs.length) && decide (bs.length ≤ 1514) && e != 0x8100 && e != 0x88A8

/-- A frame from its bytes. -/
def frameOf (bs : List Byte) (tag : Tag) (len : Nat) : Frame :=
  {
    dst := BitVec.ofNat 48 (natBE (bs.take 6)), src := BitVec.ofNat 48 (natBE ((bs.drop 6).take 6)), tag := tag
    etype := BitVec.ofNat 16 (natBE ((bs.drop 12).take 2)), len := len, fcs := .good, codeErr := false, sec := none, red := .plain
    body := .data (bs.drop 14) }

/-- A VNIC_TX taken (R262, R322): class 0, capped; it draws on the partition's part of the pool. -/
def Mach.vnicCmd (m : Mach) (p : Nat) (pk : RingPacket) : Mach :=
  let vid := m.cfg VRT_PART_CFG_vid p
  let fr := frameOf pk.payload (.ctag ⟨vid % 4096, Nat.mod_lt _ (by decide)⟩ 0) (pk.payload.length + 8)
  let i : Ingress := {
    fr := fr, port := 20 + m.cfg VRT_PART_CFG_vnic p, vid := vid, pcp := 0, cls := 0, capped := true, vnic := some p,
    stamp := if pk.offset = 1 then some p else none }
  let ports := (onePerPair m (destinations m i).1 (fr.etype == 0x88F7)).filter (· < 16)
  let copies := max 1 (ports.map fun e => if redMode m (e / 2) = 0 ∨ fr.etype = 0x88F7 then 1 else 2).sum
  if m.cfg QOS_VNIC_cells / division m < vnicCells m p + 25 * copies then (m.event 0x12 2 (.part p)).doneCmd p pk.tag 0x01 0 []
  else (m.inject i).doneCmd p pk.tag 0x00 0 []

/-- One entry of the manager ring (R266): checked, sent at fabric port 22, its status and response flag written, consumed. -/
def Mach.mgrEntry (m : Mach) (pk : RingPacket) : Mach :=
  let cons := m.fld VRT_MGR_IDX_cons
  if !m.on VRT_MGR_RING_en || m.fld VRT_MGR_IDX_prod = cons then m else
    let ok := ringPacketOk pk && vnicOk pk.payload && decide (pk.offset.toNat < 2)
    let pcp := m.cfg VRT_MGR_RING_pcp
    let m := if ok then m.inject {
        fr := frameOf pk.payload .untagged (pk.payload.length + 4), port := 22, vid := 0, pcp := pcp, cls := classOf m pcp,
        capped := true, stamp := if pk.offset = 1 then some 64 else none }
      else m
    let at_ := cfg64 m VRT_MGR_RING_LO_lo VRT_MGR_RING_HI_hi 0 + cons % 2 ^ m.cfg VRT_MGR_RING_log2 * 4096
    let flags := memGet (at_ + 1) m.mem ||| 2#8
    let m := { m with mem := memPut (at_ + 6) (if ok then 0 else 3) (memPut (at_ + 1) flags m.mem) }
    m.setFld VRT_MGR_IDX_cons 0 (cons + 1)

/-- The manager ring worked off from its doorbell on: the entries' packets in order. -/
def Mach.mgrRing (m : Mach) (pks : List RingPacket) : Mach := m.each pks fun pk m => m.mgrEntry pk

/-! ### Commands -/

/-- R268: XFER. -/
def execXfer (t : Nat) (part : Fin 64) (pk : RingPacket) (s : State) : Host.Outcome State Fault Refusal :=
  s.run t fun m => m.takeCommand part pk true fun m => m.xferCmd part pk

/-- R271: TRANSFER_PIECE_DONE. -/
def execTransferPieceDone (t : Nat) (part : Fin 64) (tag : Fin 8) (e : PieceEnd) (s : State) : Host.Outcome State Fault Refusal :=
  s.run t fun m => m.pieceDone part tag e

/-- R262: VNIC_TX. -/
def execVnicTx (t : Nat) (part : Fin 64) (pk : RingPacket) (s : State) : Host.Outcome State Fault Refusal :=
  s.run t fun m => m.takeCommand part pk (vnicOk pk.payload && decide (pk.offset.toNat < 2)) fun m => m.vnicCmd part pk

/-- R261: PNOP: a DONE and nothing else. -/
def execPnop (t : Nat) (part : Fin 64) (pk : RingPacket) (s : State) : Host.Outcome State Fault Refusal :=
  s.run t fun m => m.takeCommand part pk true fun m => m.doneCmd part pk.tag 0x00 0 []

/-- R277: PARTITION_RESET_COMPLETE. -/
def execPartitionResetComplete (t : Nat) (part : Fin 64) (s : State) : Host.Outcome State Fault Refusal :=
  s.run t fun m => m.partResetDone part

/-- R286: FROZEN_ENTRY. -/
def execFrozenEntry (t : Nat) (part : Fin 64) (s : State) : Host.Outcome State Fault Refusal :=
  s.run t fun m => m.enterFrozen part

/-- R287: BLACKOUT_EXPIRY. -/
def execBlackoutExpiry (t : Nat) (s : State) : Host.Outcome State Fault Refusal :=
  s.run t fun m => m.onExpiry .blackout fun m => m.endFreeze true

end Sys2Proof.Machine
end

