-- ==== Sys2Proof/Machine/Svi.lean ====
section
/-! DEFINITION. Sampled-value ingest (R117–R149): checks of a frame, placement on the tick grid, stream states, resampling, closing
of ticks, the epoch change, and equalisation with the twin (R140–R142, R235, R236). -/

namespace Sys2Proof.Machine

/-! ### State and settings -/

/-- SVI changed. -/
def Mach.onSvi (m : Mach) (f : Svi → Svi) : Mach := { m with svi := f m.svi }

/-- What SVI keeps of a subscription. -/
def streamOf (m : Mach) (i : Nat) : Stream := (kget i m.svi.streams).getD {}

/-- A subscription's state changed. -/
def Mach.onStream (m : Mach) (i : Nat) (f : Stream → Stream) : Mach :=
  m.onSvi fun b => { b with streams := kput i (f (streamOf m i)) b.streams }

/-- Stream states (R130): Disabled 0, Waiting 1, Priming 2, Active 3, Lost 4. -/
def subState (m : Mach) (i : Nat) : Nat := m.fld SVI_SUB_STS_state i

/-- A counter of SVI. -/
def sviCnt (n : Nat) : Fd := SVI_CNT_n.nth n

/-- The enabled subscriptions of a group. -/
def membersIn (g : Gen) (grp : Nat) : List Nat :=
  (enabledIn g.force SVI_SUB_CTRL_en).filter fun i => g.cfg SVI_SUB_CTRL_group i == grp

/-- Synchronisation class of a group: G 0, L 1, F 2 (R119). -/
def groupClass (g : Gen) (grp : Nat) : Nat := g.cfg SVI_GRP_CFG_class grp

/-- The committed fields of a subscription: its registers and its svID entry (R148). -/
def subItem148 (force : KMap Word) (bulk : List Host.Cell) (i : Nat) : List (Option Word) × List Byte :=
  ([0x064, 0x068, 0x06C, 0x070, 0x074, 0x078, 0x07C, 0x080, 0x084].map fun o => kget (regKey 0x0A o i) force,
    memRead (bulkKey 0x0A 0 (64 * i)) 64 bulk)

/-- Is a subscription resampled under some settings (R134)? -/
def resampled (g : Gen) (i : Nat) : Bool := g.cfg SVI_SUB_CTRL_rate i != g.cfg SVI_TICK_rate

/-! ### The tick grid (R123) -/

/-- The tick number whose grid index is `k` on a stretch that runs at `rate`: the newest stretch that holds it. -/
def tickOnGrid : List Grid → (rate : Nat) → Int → Option Nat → Option Nat
  | [], _, _, _ => none
  | g :: gs, rate, k, upper =>
    let n := g.first + (k - g.index)
    if g.rate = rate ∧ g.index ≤ k then
      (match upper with
        | some u => if n < u then some n.toNat else none
        | none => some n.toNat)
    else tickOnGrid gs rate k (some g.first)

/-- The instant of the timebase at which the window of a tick expires (R125), in units of 1/rate ns, with the rate. -/
def expiryAt (m : Mach) (n : Nat) : Int × Nat :=
  match gridOf m n with
  | some g => (g.at_ n * 1000000000 + ((genOf m n).cfg SVI_WINDOW_window * 1000 - g.epoch) * g.rate, g.rate)
  | none => (0, 1)

/-- Has the window of a tick expired at an instant of the timebase? -/
def expiredAt (m : Mach) (n at_ : Nat) : Bool :=
  let (e, r) := expiryAt m n
  decide (e ≤ (at_ : Int) * r)

/-- The index on the grid of rate `r`, among those congruent to `c` modulo `r`, whose time is nearest to station time `x`, with
`x` minus that time in ns times `r`: within [−0.5 s, 0.5 s) (R123). -/
def nearest (r : Nat) (x : Int) (c : Int) : Int × Int :=
  let y := x * r - c * 1000000000
  let s := (y + r * 500000000) / ((r : Int) * 1000000000)
  (s * r + c, y - s * r * 1000000000)

/-! ### Resampling (R134, R135) -/

/-- The index of the latest input at or before the nominal time of grid index `ti`. -/
def inputBefore (rs rt : Nat) (ti : Int) : Int := ti * rs / rt

/-- The latest tick that an input of a resampled stream serves on a grid of rate `rt`: check 13 of R120 judges the input by it
(log 102). -/
def lastServed (m : Mach) (rs rt : Nat) (k : Int) : Option Nat := tickOnGrid m.svi.grids rt (((k + 4) * rt - 1) / rs) none

/-! ### Sample quality (R137, R138) -/

/-- A subscription as it stands for the ticks of some settings (R148): as it stood before a set that changed it, else as it is. -/
def oldSub (m : Mach) (g : Gen) (i : Nat) : OldSub :=
  (kget i g.subs).getD { state := subState m i, synch := m.fld SVI_SUB_STS_smp_synch i, stream := streamOf m i }

/-- Its state. -/
def stateIn (m : Mach) (g : Gen) (i : Nat) : Nat := (oldSub m g i).state

/-- What SVI keeps of it. -/
def streamIn (m : Mach) (g : Gen) (i : Nat) : Stream := (oldSub m g i).stream

/-- The first Active member of a class-L group: Active longest, then lowest index. -/
def firstActive (m : Mach) (g : Gen) (grp : Nat) : Option Nat :=
  match (membersIn g grp).filter fun i => stateIn m g i == 3 with
  | [] => none
  | i :: is => some (is.foldl (fun a b => if (streamIn m g b).since < (streamIn m g a).since then b else a) i)

/-- The contribution of synchronisation (R138). The time state and the first Active member count as they stand when the tick closes
(log 103). -/
def syncQuality (m : Mach) (g : Gen) (grp synch : Nat) : Nat × BitVec 16 :=
  match groupClass g grp with
  | 0 =>
    let st := m.time.seen
    if synch ≤ 1 ∨ st = 0 ∨ st = 5 then (1, 0x10) else if st = 2 ∨ st = 3 then (0, 0) else (3, 0x10)
  | 1 =>
    match firstActive m g grp with
    | some i => if synch != 0 && synch == (oldSub m g i).synch then (0, 0) else (1, 0x10)
    | none => (1, 0x10)
  | _ => (0, 0)

/-- The 8 inputs a tick needs, each with its place, as far as they are committed. -/
def inputsFor (b : Stream) (j : Int) : List (Option SvInput) :=
  (List.range 8).map fun (i : Nat) => b.inputs.find? fun e => e.idx == j - 3 + (i : Int)

/-- The phase of a nominal time within the input period: 1,024 of them, rounded down (R134, log 101). -/
def phaseOf (rs rt : Nat) (ti : Int) : Fin 1024 := ⟨((ti * rs % rt) * 1024 / rt).toNat % 1024, Nat.mod_lt _ (by decide)⟩

/-- The interpolated value: the 8 inputs weighted by the coefficients of the phase, rounded down (R134, log 101). -/
def interpolate (rs rt : Nat) (phase : Fin 1024) (vals : List Int) : Int :=
  (((List.finRange 8).map fun k => Config.tap rs rt phase k * nthD vals k.val 0).sum) / 2 ^ 30

/-- What a resampled stream gives for a tick: whether the fourth input after its nominal time is there, whether all eight are,
and the channels: each with the worst validity of its inputs, the synchronisation of each counted (R134, R135, R138). -/
def resampleTick (m : Mach) (g : Gen) (grp n i : Nat) : Bool × Bool × List Chan :=
  match gridOf m n with
  | none => (false, false, [])
  | some gr =>
    let rs := rateHz (g.cfg SVI_SUB_CTRL_rate i)
    let ti := gr.at_ n
    let found := inputsFor (streamIn m g i) (inputBefore rs gr.rate ti)
    let full := found.all (·.isSome)
    let chans := (List.range (g.cfg SVI_SUB_CTRL_n_ch i + 1)).map fun c =>
      let one := fun (e : SvInput) =>
        let (v, f) := syncQuality m g grp e.synch
        let x := nthD e.chans c { val := 0, qual := 1 }
        (x.val, degrade x.qual v f)
      let vals := found.map fun e => match e with | some e => (one e).1 | none => 0
      let q := degrade (joinAll ((found.filterMap id).map fun e => (one e).2)) (if full then 0 else 1) 0x20#16
      { val := interpolate rs gr.rate (phaseOf rs gr.rate ti) vals, qual := q }
    ((nthD found 7 none).isSome, full, chans)

/-- The received quality word of a channel, with the simulation bit of its frame (R137; the places of its bits are those of
IEC 61850-9-2, log 18). -/
def receivedQuality (q : Nat) (sim : Bool) : BitVec 16 :=
  let v := match bits q 1 0 with | 0 => 0 | 3 => 3 | _ => 1
  let a := degrade 0 (if bit q 12 then 1 else v) (if bit q 10 then 0x400#16 else 0)
  if bit q 11 || sim then degrade a 1 0x8#16 else a

/-- The channels of a member stream in a closing tick, and whether it had a sample (R128, R130, R137–R139). -/
def closeChans (m : Mach) (g : Gen) (grp n i : Nat) (epoch : Bool) : List Chan × Bool :=
  let st := stateIn m g i
  let base := if st = 3 then 0 else degrade 0 3 0x4#16
  let base := if epoch || (st == 3 && (streamIn m g i).tstep) then degrade base 1 0x100#16 else base
  let base := if groupClass g grp = 1 ∧ firstActive m g grp = none then degrade base 1 0x10#16 else base
  let count := g.cfg SVI_SUB_CTRL_n_ch i + 1
  let missing : List Chan := List.replicate count { val := 0, qual := degrade base 1 0x80#16 }
  let join := fun (synch : Nat) (cs : List Chan) =>
    let (v, f) := syncQuality m g grp synch
    cs.map fun (c : Chan) => { c with qual := joinQ (degrade c.qual v f) base }
  if resampled g i then
    let (present, _, cs) := resampleTick m g grp n i
    if present then (cs.map fun c => { c with qual := joinQ c.qual base }, true) else (missing, false)
  else match m.svi.samples.find? fun s => s.group == grp && s.tick == n && s.sub == i with
    | some s => (join s.synch s.chans, true)
    | none => (missing, false)

/-! ### Equalisation (R140–R142, R235, R236) -/

/-- Does the module equalise its input with a twin? A lone lead, an isolated follower and a follower in Deciding do not. -/
def equalising (m : Mach) : Bool :=
  m.on TWN_CFG_en && plaitUp m &&
    (match m.fld TWN_STS_state with
      | 2 => m.fld TWN_STS_partner == 3 || m.fld TWN_STS_partner == 4
      | 3 => true
      | 4 => true
      | _ => false)

/-- Is the module the lead of the pair? -/
def leads (m : Mach) : Bool := m.fld TWN_STS_state == 2

/-- CRC-32C over the committed samples of a stream: values, then qualities, most significant byte first (log 19). -/
def samplesCrc (cs : List Chan) : Word := crc32c (cs.flatMap fun c => bytesBE 4 (toWidth 32 c.val) ++ bytesBE 2 c.qual.toNat)

/-- The streams that had a sample in a tick, with their CRCs. -/
def presentCrcs (tk : Tick) : List (Nat × Word) :=
  tk.present.map fun i => (i, samplesCrc ((kget i tk.chans).getD []))

/-- Waiting messages of the Plait link that carry a stream of a tick and are not yet acknowledged. -/
def samplePending (m : Mach) (grp tick stream : Nat) : Bool :=
  let mine := fun (x : PlaitMsg) => match x with
    | .samp g t s => g == grp && t == tick && s.stream == stream
    | _ => false
  m.twn.sendQ.any mine || m.twn.lane0.unacked.any (fun u => mine u.msg) || m.twn.lane1.unacked.any fun u => mine u.msg

/-- The streams a module must receive under a combined set, and those it must send. -/
def shares (e : EqTick) (c : CombMsg) : List Nat × List Nat := if e.led then (c.follSend, c.leadSend) else (c.leadSend, c.follSend)

/-- Is everything there that the combined set of a tick asks for? -/
def eqReady (m : Mach) (e : EqTick) : Bool :=
  match e.comb with
  | none => false
  | some c =>
    let (want, send) := shares e c
    (want.all fun i => e.copied.any fun s => s.stream == i) && send.all fun i => !samplePending m e.tk.group e.tk.pair i

/-- The combined set of a tick applied (R140, R141): a stream it does not hold is missing; copied streams carry eq_copied, streams that did not come in time, or whose
copy is not acknowledged, carry invalid and eq_drop. -/
def Mach.eqApply (m : Mach) (e : EqTick) : Mach × EqTick :=
  match e.comb with
  | none => (m, { e with done := true })
  | some c =>
    let (want, send) := shares e c
    let drop := fun (cs : List Chan) => cs.map fun (x : Chan) => { x with qual := degrade x.qual 1 0x800#16 }
    let lost := fun i => (want.contains i && !(e.copied.any fun s => s.stream == i))
      || (send.contains i && samplePending m e.tk.group e.tk.pair i)
    let one := fun (x : Nat × List Chan) =>
      if !c.streams.contains x.1 then
        (x.1, if e.tk.present.contains x.1 then x.2.map fun (y : Chan) => { val := 0, qual := degrade y.qual 1 0x80#16 } else x.2)
      else if lost x.1 then (x.1, drop x.2)
      else if want.contains x.1 then
        match e.copied.find? fun s => s.stream == x.1 with
        | some s => (x.1, s.chans.map fun (y : Chan) => { y with qual := y.qual ||| 0x40#16 })
        | none => x
      else x
    let gone := countIf (fun x : Nat × List Chan => c.streams.contains x.1 && lost x.1) e.tk.chans
    let came := countIf (fun i => !lost i && !c.leadWins.contains i) want
    let m := m.count (sviCnt 16) 0 came
    let m := if c.leadWins.isEmpty then m else (m.count (sviCnt 18) 0 c.leadWins.length).event 0x0A 7
    let m := if gone = 0 then m else (m.count (sviCnt 17) 0 gone).event 0x0A 6
    (m, { e with tk := { e.tk with present := c.streams, chans := e.tk.chans.map one }, done := true })

/-- The instant at which a tick's wait for a COMB or for copies ends: 40 µs after the follower's own close while it has no COMB (R235), else
after the later of the two closes, the twin's being known by its descriptor (R141). -/
def eqEnd (e : EqTick) : Nat := (if e.comb.isNone then e.tk.closedAt else e.since) + 40000

/-- The timers of a group's equalisation: the lead waits 20 µs for a descriptor, and 40 µs end the wait for a COMB or for
copies. -/
def Mach.eqTimers (m : Mach) (grp : Nat) : Mach :=
  let mine := m.svi.eq.filter fun e => e.tk.group == grp && !e.done
  let m := match (mine.filter fun e => e.comb.isNone).head? with
    | some e => if e.led then m.arm (.combWait grp) (e.tk.closedAt + 20000) else m.disarm (.combWait grp)
    | none => m.disarm (.combWait grp)
  match (mine.filter fun e => e.comb.isSome || !e.led).head? with
  | some e => m.arm (.eqComb grp) (eqEnd e)
  | none => m.disarm (.eqComb grp)

/-- The leading ticks of a group that are done leave equalisation together, as one tick set (R168). -/
def Mach.eqLeave (m : Mach) (grp : Nat) : Mach :=
  let (mine, rest) := splitBy (fun e : EqTick => e.tk.group == grp) m.svi.eq
  let out := mine.takeWhile (·.done)
  let m := m.onSvi fun b => { b with eq := rest ++ mine.drop out.length }
  let m := m.eqTimers grp
  m.toMsr { ticks := out.map (·.tk), events := out.flatMap fun e => match e.comb with | some c => c.events | none => [] }

/-- Ticks of a group whose combined set is complete are applied, and leave. -/
def Mach.eqAdvance (m : Mach) (grp : Nat) : Mach :=
  let m := m.each m.svi.eq fun e m =>
    if e.tk.group = grp ∧ e.done = false ∧ eqReady m e = true then
      let (m, e') := m.eqApply e
      m.onSvi fun b => { b with eq := b.eq.map fun x => if x = e then e' else x }
    else m
  m.eqLeave grp

/-- Merging of subscription events by subscription and stNum (R236). -/
def mergeEvents (a b : List SubEvent) : List SubEvent :=
  a ++ b.filter fun e => !(a.any fun x => x.sub == e.sub && x.stNum == e.stNum && x.expired == e.expired)

/-- The combined set the lead forms (R140, R235). Without a descriptor the follower counts as holding no stream. -/
def formComb (e : EqTick) : CombMsg :=
  let own := presentCrcs e.tk
  let theirs := match e.desc with | some d => d.present | none => []
  let has := fun (l : List (Nat × Word)) (i : Nat) => l.any fun x => x.1 == i
  let wins := (own.filter fun x => theirs.any fun y => y.1 == x.1 && y.2 != x.2).map (·.1)
  let only := (own.filter fun x => !has theirs x.1).map (·.1)
  let copy := (theirs.filter fun x => !has own x.1).map (·.1)
  {
    group := ⟨e.tk.group % 64, Nat.mod_lt _ (by decide)⟩, tick := BitVec.ofNat 64 e.tk.pair
    streams := (own.map (·.1) ++ copy).mergeSort, leadSend := only ++ wins, follSend := copy, leadWins := wins
    events := mergeEvents e.own (match e.desc with | some d => d.events | none => []) }

/-- The committed samples of some streams of a tick, sent to the twin. -/
def Mach.sendSamples (m : Mach) (tk : Tick) (streams : List Nat) : Mach :=
  m.each streams fun i m => match kget i tk.chans with
    | some cs => m.plaitSend (.samp tk.group tk.pair { stream := i, chans := cs })
    | none => m

/-- The lead sends the COMB of a tick, and the samples the follower lacks. -/
def Mach.sendComb (m : Mach) (e : EqTick) : Mach :=
  let c := formComb e
  let m := m.onSvi fun b => { b with eq := b.eq.map fun x => if x = e then { e with comb := some c } else x }
  (m.plaitSend (.comb c)).sendSamples e.tk c.leadSend

/-- The lead's ticks of a group that hold a descriptor, or have waited 20 µs, get their COMB; `late` says that the wait counts. -/
def Mach.combDue (m : Mach) (grp : Nat) (late : Bool) : Mach :=
  let m := m.each m.svi.eq fun e m =>
    if e.led = true ∧ e.tk.group = grp ∧ e.done = false ∧ e.comb = none ∧
        (e.desc.isSome = true ∨ (late = true ∧ e.tk.closedAt + 20000 ≤ m.now)) then m.sendComb e else m
  m.eqAdvance grp

/-- A closed tick's descriptor. -/
def descOf (tk : Tick) (events : List SubEvent) : DescMsg :=
  {
    group := ⟨tk.group % 64, Nat.mod_lt _ (by decide)⟩, tick := BitVec.ofNat 64 tk.pair, nominal := tk.nominal
    present := presentCrcs tk, events := events }

/-- A closed tick handed to equalisation: its descriptor goes to the twin with the events accepted since the last close. -/
def Mach.equalise (m : Mach) (tk : Tick) : Mach :=
  let events := m.pub.events
  let m := { m with pub := { m.pub with events := [] } }
  let early := m.svi.early.find? fun e => e.2.group.val == tk.group && e.2.tick.toNat == tk.pair
  let m := m.onSvi fun b => { b with
    early := b.early.filter fun e => !(e.2.group.val == tk.group && e.2.tick.toNat ≤ tk.pair)
    eq := b.eq ++ [{
      tk := tk, own := events, led := leads m, since := m.now, desc := early.map (·.2), comb := none, copied := [], done := false }] }
  m.plaitSend (.desc (descOf tk events))

/-- Ticks closed in one step handed on: through equalisation, or to MSR at once (R128, R141). Either way the twin gets their descriptors
(R230, R235). -/
def Mach.handTicks (m : Mach) (grp : Nat) (ticks : List Tick) : Mach :=
  if ticks.isEmpty then m
  else if equalising m then ((m.each ticks fun tk m => m.equalise tk).eqTimers grp).combDue grp false
  else
    let own := if pubRole m = 1 then m.pub.events else []
    let m := if pubRole m = 1 then { m with pub := { m.pub with events := [] } } else m
    let m := m.each ticks fun tk m => m.plaitSend (.desc (descOf tk own))
    m.toMsr { ticks := ticks, events := own }

/-- Ticks still in equalisation leave with the module's own set and no flag: the twin no longer takes part. -/
def Mach.eqFlush (m : Mach) : Mach :=
  let all := m.svi.eq
  let m := m.onSvi fun b => { b with eq := [], early := [] }
  let back := all.flatMap fun e => if e.comb.isNone && !e.done then e.own else []
  let m := { m with pub := { m.pub with events := back ++ m.pub.events } }
  m.each (List.range 64) fun grp m =>
    let mine := all.filter fun e => e.tk.group == grp
    let m := (m.disarm (.combWait grp)).disarm (.eqComb grp)
    m.toMsr {
      ticks := mine.map (·.tk), events := mine.flatMap fun e => match e.comb with | some c => c.events | none => [] }

/-! ### Closing (R125–R128, R131) -/

/-- The lowest tick number of a group that is not closed and whose settings enable the group. -/
def nextOpen (m : Mach) (grp : Nat) : Option Nat :=
  let n := (kget grp m.svi.next).getD 0
  if (genOf m n).on SVI_GRP_CFG_en grp then some n
  else ((m.svi.gens.filter fun g => n < g.first && g.on SVI_GRP_CFG_en grp).map (·.first)).foldl
    (fun a b => match a with | some a => some (min a b) | none => some b) none

/-- Is a tick complete: every Active stream of its group has what it needs, and there is one (R125)? -/
def tickComplete (m : Mach) (grp n : Nat) : Bool :=
  let g := genOf m n
  let act := (membersIn g grp).filter fun i => stateIn m g i == 3
  !act.isEmpty && act.all fun i =>
    if resampled g i then (resampleTick m g grp n i).2.1
    else m.svi.samples.any fun s => s.group == grp && s.tick == n && s.sub == i

/-- One tick closed (R128). -/
def Mach.closeTick (m : Mach) (grp n : Nat) (cause : Cause) : Mach × Tick :=
  let g := genOf m n
  let all := (membersIn g grp).map fun i => (i, closeChans m g grp n i (cause == .epoch))
  let present := (all.filter fun e => e.2.2).map (·.1)
  let tk : Tick := {
    group := grp, tick := n, pair := pairTick m n, nominal := (match gridOf m n with | some gr => gr.nominal n | none => 0)
    closedAt := m.now, cause := cause, present := present, chans := all.map fun e => (e.1, e.2.1) }
  let m := m.onSvi fun b => { b with
    next := kput grp (n + 1) b.next, samples := b.samples.filter fun s => !(s.group == grp && s.tick == n) }
  let m := m.each ((membersIn g grp).filter (resampled g)) fun i m => match gridOf m n with
    | some gr => m.onStream i fun s =>
      let low := inputBefore (rateHz (g.cfg SVI_SUB_CTRL_rate i)) gr.rate (gr.at_ n) - 3
      { s with inputs := s.inputs.filter fun e => low ≤ e.idx }
    | none => m
  let m := m.setFld SVI_GRP_STS_present grp present.length
  let m := match cause with
    | .complete => m.count SVI_GRP_FULL_n grp
    | .expiry => (m.count SVI_GRP_EXP_n grp).event 0x0A 2 (.item grp)
    | .epoch => m
  (m, tk)

/-- Ticks of a group closed in order (R126) while the next one is at or before `upTo`, is complete, or, with `expiry`, has expired, with
fuel. Only the row of the expiry closes by it: frames that arrived before it are taken first (R125). -/
def Mach.closeLoop (m : Mach) (grp : Nat) (upTo : Option Nat) (expiry : Bool) : Nat → Mach × List Tick
  | 0 => (m, [])
  | k + 1 =>
    match nextOpen m grp with
    | none => (m, [])
    | some n =>
      let forced := match upTo with | some u => decide (n ≤ u) | none => false
      if forced || (expiry && expiredAt m n m.now) then
        let (m, tk) := m.closeTick grp n .expiry
        let (m, tks) := m.closeLoop grp upTo expiry k
        (m, tk :: tks)
      else if tickComplete m grp n then
        let (m, tk) := m.closeTick grp n .complete
        let (m, tks) := m.closeLoop grp upTo expiry k
        (m, tk :: tks)
      else (m, [])

/-- Every tick of a group that can close now closes, in one step. -/
def Mach.closeDue (m : Mach) (grp : Nat) (upTo : Option Nat := none) (expiry : Bool := false) : Mach :=
  let n := (nextOpen m grp).getD 0
  let fuel := (tickNow m + 2 - n) + m.svi.samples.length + 64 + (upTo.getD 0 - n)
  let (m, tks) := m.closeLoop grp upTo expiry fuel
  m.handTicks grp tks

/-! ### Stream states (R130–R132) -/

/-- Members in Active shown. -/
def Mach.showActive (m : Mach) (grp : Nat) : Mach :=
  m.setFld SVI_GRP_STS_active grp (countIf (fun i => subState m i == 3) (membersIn (genNow m) grp))

/-- A subscription enters a state. -/
def Mach.setSub (m : Mach) (i st : Nat) : Mach :=
  let m := m.setFld SVI_SUB_STS_state i st
  let m := if st = 3 then (m.onStream i fun s => { s with since := tickNow m }).event 0x0A 1 (.item i) else m
  m.showActive (m.cfg SVI_SUB_CTRL_group i)

/-- The prime count P of a subscription (R130). -/
def primeCount (m : Mach) (i : Nat) : Nat :=
  max (ceilDiv (m.cfg SVI_WINDOW_window * rateHz (m.cfg SVI_SUB_CTRL_rate i)) 1000000) (2 * (m.cfg SVI_SUB_CTRL_n_asdu i + 1))

/-- A valid ASDU: counted, and the stream moves on (R130). -/
def Mach.validAsdu (m : Mach) (i cnt synch arrival : Nat) : Mach :=
  let b := streamOf m i
  let rate := rateHz (m.cfg SVI_SUB_CTRL_rate i)
  let gap := match b.lastCnt with | some l => cnt != (l + 1) % rate | none => false
  let m := (m.count SVI_SUB_ASDU_n i).setFld SVI_SUB_STS_smp_synch i synch
  let m := if gap then m.count SVI_SUB_GAP_n i else m
  let m := m.onStream i fun s => { s with lastCnt := some cnt }
  let m := m.arm (.stream i) (arrival + m.cfg SVI_SUB_TMO_timeout i * 1000)
  let st := subState m i
  let enters := st == 1 || st == 4
  let m := if enters then m.setSub i 2 else m
  if subState m i = 2 then
    let run := if enters || gap then 1 else b.run + 1
    let m := m.onStream i fun s => { s with run := run }
    if primeCount m i ≤ run then m.setSub i 3 else m
  else m

/-- T without a valid ASDU (R130, R131). -/
def Mach.streamLost (m : Mach) (i : Nat) : Mach :=
  match subState m i with
  | 2 => m.setSub i 1
  | 3 => (((m.setSub i 4).count SVI_SUB_LOST_n i).event 0x0A 0 (.item i)).closeDue (m.cfg SVI_SUB_CTRL_group i)
  | _ => m

/-! ### Placement of a sample (R123, R124) -/

/-- The offset of a class L or F stream: the group's, or its own. -/
def offsetOf (m : Mach) (cls grp i : Nat) : Option Int := if cls = 1 then kget grp m.svi.grpOfs else (streamOf m i).ofs

/-- An offset learnt. -/
def Mach.learnOffset (m : Mach) (cls grp i : Nat) (o : Int) : Mach :=
  if cls = 1 then m.onSvi fun b => { b with grpOfs := kput grp o b.grpOfs } else m.onStream i fun s => { s with ofs := some o }

/-- The offset that places count `c` in the latest tick not after station time `x`. -/
def newOffset (r : Nat) (x : Int) (c : Nat) : Int := (x * r / 1000000000 - c) % r

/-- The placement of a class L or F sample: slips are dealt with at once; the result is the grid index, arrival minus its time in
ns times r_t, and what an accepted sample still has to learn (offset, reference). -/
def Mach.placeLocal (m : Mach) (cls grp i r : Nat) (x : Int) (c : Nat) : Mach × Int × Int × Option Int :=
  match offsetOf m cls grp i with
  | none =>
    let o := newOffset r x c
    let (k, lag) := nearest r x ((c + o) % r)
    (m, k, lag, some o)
  | some o =>
    let (k, lag) := nearest r x ((c + o) % r)
    match (streamOf m i).ref with
    | some ref =>
      if 1000000000 < 2 * (lag - ref).natAbs then
        let o := newOffset r x c
        let (k, lag) := nearest r x ((c + o) % r)
        let m := (m.learnOffset cls grp i o).count (sviCnt 15)
        let others := if cls = 1 then membersIn (genNow m) grp else []
        let m := m.each others fun j m => m.onStream j fun s => { s with ref := none }
        ((m.onStream i fun s => { s with ref := some lag }).event 0x0A 9 (.item i), k, lag, none)
      else (m, k, lag, none)
    | none => (m, k, lag, none)

/-! ### Checks 8 to 15 (R120) -/

/-- An ASDU that fails checks 8 to 11. -/
def Mach.asduDrop (m : Mach) (n i : Nat) : Mach := (m.count (sviCnt n)).event 0x0A 12 (.item i)

/-- Checks 14 and 15: the channels of an accepted ASDU, with the counts and events of what they find. -/
def Mach.checkChans (m : Mach) (i : Nat) (sim : Bool) (chans : List (BitVec 32 × BitVec 32)) : Mach × List Chan :=
  let one := fun (acc : Mach × List Chan) (e : (BitVec 32 × BitVec 32) × Nat) =>
    let (m, cs) := acc
    let v := e.1.1.toInt
    let q := e.1.2.toNat
    let volt := bit (m.cfg SVI_SUB_CHTYPE_v i) e.2
    let lim := (if volt then m.cfg SVI_SUB_LIMIT_v_lim i else m.cfg SVI_SUB_LIMIT_i_lim i) * 10000
    let m := if bits q 1 0 = 1 ∨ bits q 1 0 = 2 then m.count (sviCnt 14) else m
    let a := receivedQuality q sim
    if lim < v.natAbs then ((m.count (sviCnt 13)).event 0x0A 11 (.item i), cs ++ [{ val := v, qual := degrade a 1 0x200#16 }])
    else (m, cs ++ [{ val := v, qual := a }])
  chans.zipIdx.foldl one (m, [])

/-- A sample for a tick that has closed, or whose window has expired, is late (R24, R122, R127). -/
def Mach.lateSample (m : Mach) (i : Nat) : Mach := ((m.count (sviCnt 11)).count SVI_SUB_LATE_n i).event 0x0A 3 (.item i)

/-- Is a tick of a group still open for an arrival? -/
def openFor (m : Mach) (grp n arrival : Nat) : Bool := decide ((nextOpen m grp).getD 0 ≤ n) && !expiredAt m n arrival

/-- Does a tick run under the settings that the subscription has now? Only then is its sample placed (R148). -/
def placedIn (m : Mach) (n i : Nat) : Bool :=
  let g := genOf m n
  subItem148 g.force g.bulk i == subItem148 m.force m.bulkF i

/-- Checks 12 to 15 for a resampled stream: the ASDU is an input of its interpolator. -/
def Mach.inputAsdu (m : Mach) (grp i : Nat) (sim : Bool) (a : Asdu) (arrival : Nat) (x : Int) : Mach :=
  let rs := rateHz (m.cfg SVI_SUB_CTRL_rate i)
  let (k, lag) := nearest rs x a.smpCnt
  let tol : Int := m.cfg SVI_TICK_early_tol * 1000 * rs
  if lag < -tol then m.count (sviCnt 10)
  else match lastServed m rs (rateHz (m.cfg SVI_TICK_rate)) k with
    | none => m.lateSample i
    | some n =>
      if !openFor m grp n arrival then m.lateSample i
      else if (streamOf m i).inputs.any fun e => e.idx == k then m.count (sviCnt 12)
      else
        let m := m.validAsdu i a.smpCnt a.smpSynch.toNat arrival
        let (m, cs) := m.checkChans i sim a.chans
        m.onStream i fun s => { s with inputs := { idx := k, synch := a.smpSynch.toNat, chans := cs } :: s.inputs, tstep := false }

/-- Checks 12 to 15 for a stream at the tick rate. -/
def Mach.sampleAsdu (m : Mach) (grp i : Nat) (sim : Bool) (a : Asdu) (arrival : Nat) (x : Int) : Mach :=
  let r := rateHz (m.cfg SVI_SUB_CTRL_rate i)
  let cls := groupClass (genNow m) grp
  let placed :=
    if cls = 0 then
      let (k, lag) := nearest r x a.smpCnt
      (m, k, lag, none)
    else m.placeLocal cls grp i r x a.smpCnt
  let (m, k, lag, learn) := placed
  let tol : Int := m.cfg SVI_TICK_early_tol * 1000 * r
  if lag < -tol then m.count (sviCnt 10)
  else match tickOnGrid m.svi.grids r k none with
    | none => m.lateSample i
    | some n =>
      if !openFor m grp n arrival then m.lateSample i
      else if m.svi.samples.any fun s => s.group == grp && s.tick == n && s.sub == i then m.count (sviCnt 12)
      else
        let m := match learn with | some o => m.learnOffset cls grp i o | none => m
        let m := if cls != 0 && (streamOf m i).ref.isNone then m.onStream i fun s => { s with ref := some lag } else m
        let m := m.validAsdu i a.smpCnt a.smpSynch.toNat arrival
        if placedIn m n i then
          let (m, cs) := m.checkChans i sim a.chans
          let m := m.onSvi fun b => { b with
            samples := b.samples ++ [{ group := grp, tick := n, sub := i, synch := a.smpSynch.toNat, chans := cs }] }
          m.onStream i fun s => { s with tstep := false }
        else m

/-- The svID of a subscription. -/
def svidOf (m : Mach) (i : Nat) : List Byte :=
  memRead (bulkKey 0x0A 0 (64 * i + 1)) (min 63 (memGet (bulkKey 0x0A 0 (64 * i)) m.bulkF).toNat) m.bulkF

/-- The first of checks 8 to 11 that an ASDU fails, by its counter. -/
def asduFault (m : Mach) (i : Nat) (a : Asdu) : Option Nat :=
  let rate := rateHz (m.cfg SVI_SUB_CTRL_rate i)
  let nch := m.cfg SVI_SUB_CTRL_n_ch i + 1
  let rateOk := match a.smpRate with | some r => r == rate | none => true
  let synch := a.smpSynch.toNat
  if a.svid != svidOf m i then some 7
  else if a.confRev.toNat != m.cfg SVI_SUB_CONFREV_confrev i then some 8
  else if !(decide (a.smpCnt < rate) && rateOk && a.seqBytes == 8 * nch && a.chans.length == nch) then some 9
  else if synch = 3 ∨ synch = 4 ∨ synch = 255 then some 9
  else none

/-- One ASDU (checks 8 to 13). -/
def Mach.sviAsdu (m : Mach) (i : Nat) (sim : Bool) (arrival : Nat) (a : Asdu) : Mach :=
  match asduFault m i a with
  | some n => m.asduDrop n i
  | none =>
    let x : Int := arrival + m.time.epoch
    let grp := m.cfg SVI_SUB_CTRL_group i
    if resampled (genNow m) i then m.inputAsdu grp i sim a arrival x else m.sampleAsdu grp i sim a arrival x

/-! ### Checks 1 to 7 -/

/-- A frame that fails check 2 or checks 4 to 7. -/
def Mach.frameDrop (m : Mach) (n : Nat) : Mach := (m.count (sviCnt n)).event 0x0A 12

/-- The outcome of check 6: none when it passes, else the event. -/
def authFault (m : Mach) (i : Nat) (ext : Option AuthExt) : Option Nat :=
  if !m.on SVI_SUB_CTRL_auth i then none
  else match ext with
    | none => some 4
    | some e => match m.keyFor (m.cfg SVI_SUB_KEY_slot i) 2 with
      | none => some 5
      | some k => if e.value = (Config.hmacSha256 k e.covered).take (if m.on SVI_SUB_KEY_mac_len i then 32 else 16) then none else some 4

/-- The subscription a frame matches (R118). -/
def subFor (m : Mach) (dst : Mac) (appid : Nat) : Option Nat :=
  (enabledIn m.force SVI_SUB_CTRL_en).find? fun i =>
    macOf m SVI_SUB_DMAC_LO_lo SVI_SUB_DMAC_HI_hi i == dst && m.cfg SVI_SUB_APPID_appid i == appid

/-- The first of checks 4 to 7 that a frame fails: its counter and the event. -/
def frameFault (m : Mach) (i : Nat) (a : SvApdu) : Option (Nat × Option Nat) :=
  let n := m.cfg SVI_SUB_CTRL_n_asdu i + 1
  if !a.lenOk || a.reserved != 0 then some (3, none)
  else if a.sim && !m.on SVI_SUB_CTRL_test_ok i then some (4, none)
  else match authFault m i a.ext with
    | some e => some (5, some e)
    | none => if !a.decodes || a.noAsdu != n || a.asdus.length != n then some (6, none) else none

/-- A frame that fails one of checks 4 to 7. -/
def Mach.frameFails (m : Mach) (i n : Nat) (e : Option Nat) : Mach :=
  let m := m.frameDrop n
  match e with
  | some e => m.event 0x0A e (.item i)
  | none => m

/-! ### Ticks before a change of settings (R148) -/

/-- The module as it reads under older SVI settings. -/
def seenUnder (m : Mach) (g : Gen) : Mach :=
  let page := fun (l : KMap Word) => l.filter fun e => keyPage e.1 == 0x0A
  let rest := fun (l : KMap Word) => l.filter fun e => keyPage e.1 != 0x0A
  { m with force := page g.force ++ rest m.force, bulkF := g.bulk }

/-- An operation of SVI carried out under older settings. -/
def Mach.under (m : Mach) (g : Gen) (f : Mach → Mach) : Mach := { f (seenUnder m g) with force := m.force, bulkF := m.bulkF }

/-- Where a sample stands under older settings: its index, arrival minus its time in ns times the rate, and the tick it belongs to or
serves last. -/
def oldPlace (m : Mach) (g : Gen) (i : Nat) (x : Int) (a : Asdu) : Int × Int × Option Nat :=
  let r := rateHz (g.cfg SVI_SUB_CTRL_rate i)
  let grp := g.cfg SVI_SUB_CTRL_group i
  let o := match groupClass g grp with
    | 0 => 0
    | 1 => (kget grp g.ofs).getD 0
    | _ => ((streamIn m g i).ofs).getD 0
  let (k, lag) := nearest r x ((a.smpCnt + o) % r)
  (k, lag, if resampled g i then lastServed m r (rateHz (g.cfg SVI_TICK_rate)) k else tickOnGrid m.svi.grids r k none)

/-- Does a sample belong to a tick of some settings? -/
def inTicksOf (m : Mach) (g : Gen) (i : Nat) (x : Int) (a : Asdu) : Bool :=
  match (oldPlace m g i x a).2.2 with
  | some n => (genOf m n).first == g.first
  | none => false

/-- The older settings, and the subscription under them that a later set changed, to whose ticks a frame brings a sample. -/
def oldFor (m : Mach) (dst : Mac) (a : SvApdu) (x : Int) : Option (Gen × Nat) :=
  (m.svi.gens.drop 1).findSome? fun g =>
    match subFor (seenUnder m g) dst a.appid.toNat with
    | some i => if (kget i g.subs).isSome && a.asdus.any (inTicksOf m g i x) then some (g, i) else none
    | none => none

/-- What is kept of a changed subscription under older settings, changed. -/
def Mach.onOld (m : Mach) (g : Gen) (i : Nat) (f : OldSub → OldSub) : Mach :=
  m.onSvi fun b => { b with gens := b.gens.map fun x => if x.first = g.first then { x with subs := kput i (f (oldSub m x i)) x.subs } else x }

/-- Checks 8 to 15 of an ASDU for a tick of older settings: it is counted and committed; the stream's state is that of the new
settings already. -/
def Mach.oldAsdu (m : Mach) (g : Gen) (i : Nat) (sim : Bool) (arrival : Nat) (a : Asdu) : Mach :=
  let grp := g.cfg SVI_SUB_CTRL_group i
  let (k, lag, tick) := oldPlace m g i (arrival + m.time.epoch) a
  let n := tick.getD 0
  let tol : Int := m.cfg SVI_TICK_early_tol * 1000 * rateHz (g.cfg SVI_SUB_CTRL_rate i)
  match asduFault m i a with
  | some c => m.asduDrop c i
  | none =>
    if lag < -tol then m.count (sviCnt 10)
    else if !openFor m grp n arrival then m.lateSample i
    else if (if resampled g i then (streamIn m g i).inputs.any fun e => e.idx == k
             else m.svi.samples.any fun s => s.group == grp && s.tick == n && s.sub == i) then m.count (sviCnt 12)
    else
      let (m, cs) := (m.count SVI_SUB_ASDU_n i).checkChans i sim a.chans
      if resampled g i then
        m.onOld g i fun o => { o with stream := { o.stream with
          inputs := { idx := k, synch := a.smpSynch.toNat, chans := cs } :: o.stream.inputs } }
      else m.onSvi fun b => { b with
        samples := b.samples ++ [{ group := grp, tick := n, sub := i, synch := a.smpSynch.toNat, chans := cs }] }

/-- A frame that brings samples to ticks of older settings is judged by them; its ASDUs for later ticks by the present ones. -/
def Mach.oldFrame (m : Mach) (g : Gen) (i : Nat) (dst : Mac) (a : SvApdu) (arrival : Nat) : Mach :=
  match frameFault (seenUnder m g) i a with
  | some (n, e) => m.frameFails i n e
  | none =>
    let x : Int := arrival + m.time.epoch
    let m := m.each a.asdus fun u m =>
      if inTicksOf m g i x u then m.under g fun m => m.oldAsdu g i a.sim arrival u
      else match subFor m dst a.appid.toNat with
        | some j => m.sviAsdu j a.sim arrival u
        | none => m
    m.closeDue (g.cfg SVI_SUB_CTRL_group i)

/-! ### Frames -/

/-- A sampled-value frame (R120, R121): checked as a whole, then ASDU by ASDU; what it completes closes. -/
def Mach.sviFrame (m : Mach) (fr : Frame) (arrival : Nat) : Mach :=
  if fr.fcs != .good then m.count (sviCnt 0)
  else
    let top := if fr.tag == .untagged then 1518 else 1522
    match fr.body with
    | .sv a =>
      if fr.etype != 0x88BA || fr.tag == .stacked || decide (fr.len < 64) || decide (top < fr.len) then m.frameDrop 1
      else match oldFor m fr.dst a (arrival + m.time.epoch), subFor m fr.dst a.appid.toNat with
        | some (g, i), _ => m.oldFrame g i fr.dst a arrival
        | none, none => m.count (sviCnt 2)
        | none, some i =>
          match frameFault m i a with
          | some (n, e) => m.frameFails i n e
          | none => (m.each a.asdus fun x m => m.sviAsdu i a.sim arrival x).closeDue (m.cfg SVI_SUB_CTRL_group i)
    | _ => m.frameDrop 1

/-- The class in which a frame waits for SVI, from its priority or that of its port (R320). -/
def sviClass (m : Mach) (fr : Frame) (port : Nat) : Nat :=
  classOf m (match fr.tag with
    | .priority p => p.val
    | .ctag _ p => p.val
    | _ => m.cfg (MAC_VLAN_pcp.onPort port))

/-- The frames of a port that SVI holds in cut-through. -/
def heldOf (m : Mach) (port : Nat) : Nat := countIf (fun h : Frame × Nat × Nat => h.2.1 == port) m.svi.held

/-- A frame that waits for SVI in the switch core's output memory, as far as that admits it (R146, R147); `entered` keeps its arrival. -/
def Mach.waitForSvi (m : Mach) (fr : Frame) (port arrival : Nat) : Mach :=
  let c := sviClass m fr port
  match admits m 18 c with
  | (true, _) =>
    (m.onPort 18 fun b => { b with queue := b.queue ++ [{
      fr := fr, cls := c, pcp := 0, vid := 0, entered := arrival, src := port, vnic := none, stamp := none }] }).showMem
  | (false, capped) => m.memDrop 18 c capped

/-- A frame at SVI's internal port. While MSR's queue is full SVI takes no further frames (R170): at most 64 of each port wait in
cut-through, and the others in the switch core's output memory (R146, R147). -/
def Mach.sviRx (m : Mach) (fr : Frame) (port arrival : Nat) : Mach :=
  if 256 ≤ backlog m then
    if heldOf m port < 64 then m.onSvi fun b => { b with held := b.held ++ [(fr, port, arrival)] }
    else ((m.count (sviCnt 19)).event 0x0A 10).waitForSvi fr port arrival
  else m.sviFrame fr arrival

/-- The first frame that waits in output memory and whose port has room in cut-through moves on to SVI. -/
def Mach.sviRefill (m : Mach) : Mach :=
  match (m.port 18).queue.find? fun f => decide (heldOf m f.src < 64) with
  | some f =>
    ((m.onPort 18 fun b => { b with queue := b.queue.erase f }).showMem).onSvi fun b => { b with held := b.held ++ [(f.fr, f.src, f.entered)] }
  | none => m

/-- Frames that waited are taken in order while MSR's queue has room, with fuel. -/
def Mach.sviDrain (m : Mach) : Nat → Mach
  | 0 => m
  | k + 1 =>
    match m.svi.held with
    | [] => m
    | (fr, _, arrival) :: rest =>
      if 256 ≤ backlog m then m
      else ((m.onSvi fun b => { b with held := rest }).sviRefill.sviFrame fr arrival).sviDrain k

/-- Every frame that waits is taken, as far as MSR's queue has room. -/
def Mach.sviTake (m : Mach) : Mach := m.sviDrain (m.svi.held.length + (m.port 18).queue.length)

/-! ### Epoch change (R139) -/

/-- The ticks of a class-G group closed with cause epoch, through `last`, with fuel. -/
def Mach.closeEpoch (m : Mach) (grp last : Nat) : Nat → Mach × List Tick
  | 0 => (m, [])
  | k + 1 =>
    match nextOpen m grp with
    | none => (m, [])
    | some n =>
      if n ≤ last then
        let (m, tk) := m.closeTick grp n .epoch
        let (m, tks) := m.closeEpoch grp last k
        (m, tk :: tks)
      else (m, [])

/-- What an epoch change does to SVI, the new epoch being in force already: open class-G ticks close, the grid continues from the
first nominal time after the change, offsets are learnt again. A tick is open from its nominal time, or from its first sample
(log 20). -/
def Mach.sviEpoch (m : Mach) : Mach :=
  let g := genNow m
  let grps := enabledIn g.force SVI_GRP_CFG_en
  let glob := grps.filter fun x => groupClass g x == 0
  let last := (m.svi.samples.filter fun s => glob.contains s.group).foldl (fun a s => max a s.tick) (tickNow m)
  let rate := rateHz (m.cfg SVI_TICK_rate)
  let m := m.each glob fun x m =>
    let (m, tks) := m.closeEpoch x last (last + 1)
    let m := m.each ((membersIn g x)) fun i m => m.onStream i fun s => { s with tstep := subState m i == 3, inputs := [] }
    m.handTicks x tks
  let m := m.onSvi fun b => { b with
    grids := { first := last + 1, index := m.station * rate / 1000000000 + 1, rate := rate, epoch := m.time.epoch } :: b.grids
    grpOfs := [] }
  let m := m.each ((grps.filter fun x => groupClass g x != 0).flatMap (membersIn g)) fun i m =>
    m.onStream i fun s => { s with ofs := none, ref := none }
  m.event 0x0A 8

/-! ### A set takes effect (R148) -/

/-- SVI's load: ASDUs and channel-samples per second (R144). -/
def sviLoad (g : Gen) : Nat × Nat :=
  let rt := rateHz (g.cfg SVI_TICK_rate)
  (enabledIn g.force SVI_SUB_CTRL_en).foldl (fun acc i =>
    let rs := rateHz (g.cfg SVI_SUB_CTRL_rate i)
    (acc.1 + rs, acc.2 + (g.cfg SVI_SUB_CTRL_n_ch i + 1) * (rs + if resampled g i then 4 * rt else 0))) (0, 0)

/-- The tick burst of a pair (R145). -/
def tickBurst (g : Gen) (pair : Nat) : Nat :=
  ((enabledIn g.force SVI_SUB_CTRL_en).filter fun i => g.cfg SVI_SUB_CTRL_pair i == pair).foldl
    (fun a i => a + g.cfg SVI_SUB_CTRL_n_asdu i + 1) 0

/-- The load and the bursts in force shown. -/
def Mach.showLoad (m : Mach) : Mach :=
  let g := genNow m
  let (a, c) := sviLoad g
  let m := (m.setFld SVI_LOAD_load_a 0 (ceilDiv a 1000)).setFld SVI_LOAD_load_c 0 (ceilDiv c 10000)
  let four := fun (p : Nat) => (List.range 4).foldl (fun w k => w + min 255 (tickBurst g (p + k)) * 2 ^ (8 * k)) 0
  (m.setFld SVI_BURST_LO_w 0 (four 0)).setFld SVI_BURST_HI_w 0 (four 4)

/-- A set takes effect at a share-frame boundary: settings for the ticks from the first one not before it, a new grid when the
rate changed, and changed subscriptions restarted. -/
def Mach.sviApply (m : Mach) (old : KMap Word) (oldBulk : List Host.Cell) : Mach :=
  let rate := rateHz (m.cfg SVI_TICK_rate)
  match m.svi.grids with
  | [] => m
  | gr :: _ =>
    let first := (gr.first + (indexFrom gr.rate m.station - gr.index)).toNat
    let subs := (enabledIn old SVI_SUB_CTRL_en ++ enabledIn m.force SVI_SUB_CTRL_en).eraseDups.filter fun i =>
      subItem148 old oldBulk i != subItem148 m.force m.bulkF i
    let was := subs.foldl (fun l i => kput i { state := subState m i, synch := m.fld SVI_SUB_STS_smp_synch i, stream := streamOf m i } l) []
    let m := m.onSvi fun b => { b with
      gens := { first := first, force := m.force, bulk := m.bulkF } :: match b.gens with
        | g :: gs => { g with subs := was, ofs := b.grpOfs } :: gs
        | [] => [] }
    let m := if rate = gr.rate then m else
      m.onSvi fun b => { b with
        grids := { first := first, index := indexFrom rate m.station, rate := rate, epoch := m.time.epoch } :: b.grids
        grpOfs := [] }
    let m := m.each subs fun i m =>
      let m := (m.onStream i fun _ => {}).disarm (.stream i)
      m.setFld SVI_SUB_STS_state i (if m.on SVI_SUB_CTRL_en i then 1 else 0)
    (m.each (List.range 64) fun grp m => m.showActive grp).showLoad

/-! ### Commands -/

/-- R120: SV_FRAME. -/
def execSvFrame (t : Nat) (fr : Frame) (port : Fin 16) (arrival : Nat) (s : State) : Host.Outcome State Fault Refusal :=
  s.run t fun m => m.sviRx fr port arrival

/-- R125: TICK_WINDOW_EXPIRY: frames that wait are taken first; then the lowest open tick of the group closes, once its window has
expired. -/
def execTickWindowExpiry (t : Nat) (group : Fin 64) (s : State) : Host.Outcome State Fault Refusal :=
  s.run t fun m =>
    let m := m.sviTake
    match nextOpen m group with
    | some n => if expiredAt m n m.now then m.closeDue group none true else m
    | none => m

/-- R130: STREAM_TIMEOUT: frames that wait are taken first, and an ASDU at the very instant of the timeout still counts (R132). -/
def execStreamTimeout (t : Nat) (sub : Fin 2048) (s : State) : Host.Outcome State Fault Refusal :=
  s.run t fun m => (m.sviTake).onPast (.stream sub) fun m => m.streamLost sub

/-- R235: COMB_WAIT_EXPIRY. -/
def execCombWaitExpiry (t : Nat) (group : Fin 64) (s : State) : Host.Outcome State Fault Refusal :=
  s.run t fun m => m.onExpiry (.combWait group) fun m => (m.combDue group true).eqTimers group

/-- Ticks of a group whose 40 µs have run out: a follower without a COMB applies its own set, and what has not been copied is
dropped (R141, R235). -/
def Mach.eqTimeout (m : Mach) (grp : Nat) : Mach :=
  let m := m.each m.svi.eq fun e m =>
    if e.tk.group = grp ∧ e.done = false ∧ eqEnd e ≤ m.now ∧ (e.comb.isSome = true ∨ e.led = false) then
      let m := if e.comb.isNone then (m.count (TWN_CNT_n.nth 1)).event 0x31 10 else m
      let (m, e') := m.eqApply e
      m.onSvi fun b => { b with eq := b.eq.map fun x => if x = e then e' else x }
    else m
  m.eqLeave grp

/-- R235: EQ_COMB_TIMEOUT. -/
def execEqCombTimeout (t : Nat) (group : Fin 64) (s : State) : Host.Outcome State Fault Refusal :=
  s.run t fun m => m.onExpiry (.eqComb group) fun m => m.eqTimeout group

end Sys2Proof.Machine
end

