-- ==== Sys2Proof/Machine/Sets.lean ====
section
/-! DEFINITION. Tick sets in the measurand engine (R150, R168–R171): taking one, and the hand-over of a finished one to DSP, PUB,
NRG, ACQ and the twin; and the two holds of MSR. -/

namespace Sys2Proof.Machine

/-- The tick digest (R237): close record, CRCs of the combined set, and the blocks of the tick in selection order. -/
def tickDigest (tk : Tick) (blocks : List Block) : BitVec 64 :=
  let cause := match tk.cause with | .complete => 0 | .expiry => 1 | .epoch => 2
  let held := tk.chans.filter fun e => !(e.2.any fun c => c.qual.getLsbD 7)
  digest64 (bytesBE 1 tk.group ++ bytesBE 8 tk.pair ++ bytesBE 8 (toWidth 64 tk.nominal) ++ bytesBE 4 (tagOf tk.closedAt).toNat
    ++ bytesBE 1 cause ++ (tk.present.flatMap fun i => bytesBE 2 i)
    ++ (held.flatMap fun e => bytesBE 2 e.1 ++ bytesBE 4 (samplesCrc e.2).toNat)
    ++ (blocks.filter fun b => b.tick == tk.pair).flatMap fun b => b.bytes)

/-- The digests of a set's ticks, sent to the twin and compared (R237). -/
def Mach.sendDigests (m : Mach) (out : SetOut) : Mach :=
  if comparing m then
    m.each out.ticks fun tk m =>
      let d := tickDigest tk (out.blocks.filter fun b => m.cfg DSP_SLOT_CFG_group b.slot == tk.group)
      (m.plaitSend (.tdig tk.group tk.pair d)).ownTick tk.group tk.pair d
  else m

/-- A finished set handed over (R168 step 5): to DSP, to PUB for its SV blocks, to NRG and to ACQ, then its digests go to the
twin. -/
def Mach.handOut (m : Mach) (out : SetOut) : Mach :=
  let m := (m.dspTake out).pubSv out
  let m := (m.nrgTake out).acqTake out
  (m.sendDigests out).tryCend

/-- R168: MSR_TICK_SET_TAKE. Frames that waited for room in MSR's queue follow (R170). -/
def execMsrTickSetTake (t : Nat) (s : State) : Host.Outcome State Fault Refusal :=
  s.run t fun m =>
    let m := m.msrTake
    m.sviTake

/-- R168: MSR_TICK_SET_DONE. -/
def execMsrTickSetDone (t : Nat) (s : State) : Host.Outcome State Fault Refusal :=
  s.run t fun m => match m.msrFinish with
    | (m, some out) => m.handOut out
    | (m, none) => m

/-- R156: TRACKER_HOLD_EXPIRY. -/
def execTrackerHoldExpiry (t : Nat) (trk : Fin 16) (s : State) : Host.Outcome State Fault Refusal :=
  s.run t fun m => m.onExpiry (.tracker trk) fun m => m.trackerFallback trk

/-- R160: TEMP_SOURCE_HOLD_EXPIRY. -/
def execTempSourceHoldExpiry (t : Nat) (ts : Fin 64) (s : State) : Host.Outcome State Fault Refusal :=
  s.run t fun m => m.onExpiry (.tempSource ts) fun m => m.tempFallback ts

end Sys2Proof.Machine
end

