-- ==== Sys2Proof/Machine/Time.lean ====
section
/-! DEFINITION. The time block (R91–R104, R112–R116): the choice of a source, measurements, the time-quality states, epoch
changes, and the PPS, IRIG-B and 10 MHz inputs and the PPS output. -/

namespace Sys2Proof.Machine

/-- The time block changed. -/
def Mach.onTime (m : Mach) (f : TimeBlk → TimeBlk) : Mach := { m with time := f m.time }

/-! ### Sources (R97, R98) -/

/-- Is a source qualified? Codes as TIME_CTRL.src_pri. -/
def srcQualified (m : Mach) (c : Nat) : Bool :=
  match c with
  | 1 => m.flag PTP_DOM_STS_qualified
  | 2 => m.flag (PTP_DOM_STS_qualified.nth 1)
  | 3 => m.flag TIME_QUAL_irig_qual
  | _ => false

/-- Is a selected source qualified? -/
def anyQualified (m : Mach) : Bool := srcQualified m (m.cfg TIME_CTRL_src_pri) || srcQualified m (m.cfg TIME_CTRL_src_sec)

/-- TIME_RATE shown: a correction in parts per 10¹². -/
def Mach.showRate (m : Mach) (r : Int) : Mach := m.setFld TIME_RATE_rate 0 (toWidth 32 r)

/-- Free-running on the 10 MHz input, at the rate by which the last gate found it off the OCXO, or at the last disciplined rate
(R100, R114, log 96). -/
def Mach.freeRate (m : Mach) : Mach :=
  let ext := m.fld TIME_QUAL_source == 0 && m.on TIME_CTRL_ext10m && m.flag TIME_QUAL_in10m_qual
  let was := m.flag TIME_QUAL_ext10m_used
  let m := m.setFlag TIME_QUAL_ext10m_used 0 ext
  if m.fld TIME_QUAL_source ≠ 0 then m
  else if ext then m.showRate m.time.gateRate
  else if was then m.showRate m.time.rate
  else m

/-- The newest stretches of some lengths and rates that fill a time. -/
def fillTime (n : Nat) : List (Nat × Int) → List (Nat × Int)
  | [] => []
  | (d, r) :: l => if n ≤ d then (if n = 0 then [] else [(n, r)]) else (d, r) :: fillTime (n - d) l

/-- The stretch of Locked in progress ends, and with `on` the next one begins: the rates of the last 64 s in Locked are kept (R100). -/
def Mach.lockStretch (m : Mach) (on : Bool) : Mach :=
  m.onTime fun b =>
    let rates := match b.lockedAt with
      | some a => fillTime 64000000000 ((m.now - a, b.rate) :: b.lockRates)
      | none => b.lockRates
    { b with lockRates := rates, lockedAt := if on then some m.now else none }

/-- The last disciplined rate: the mean of the rates of the last 64 s in Locked, without the slew, rounded down (R100, log 96); none
before any time in Locked. -/
def lastRate (b : TimeBlk) : Option Int :=
  let n := (b.lockRates.map (·.1)).sum
  if n = 0 then none else some ((b.lockRates.map fun e => (e.1 : Int) * e.2).sum / n)

/-- The source in use changes (R98). Into free-running, the slew ends and the rate is the last disciplined one (R100); the manual gives
none to a module that was never Locked (log 4). -/
def Mach.follow (m : Mach) (c : Nat) : Mach :=
  if m.fld TIME_QUAL_source = c then m else
    let m := (m.setFld TIME_QUAL_source 0 c).count TIME_SRC_CHG_n
    let m := m.each [0, 1] fun d m =>
      let m := m.setFlag (PTP_DOM_STS_source.nth d) 0 (c == d + 1)
      if c = d + 1 then m.setFld (PTP_DOM_OFS_ns.nth d) 0 0 else m
    let m := if c = 0 then
        let m := m.lockStretch (m.fld TIME_QUAL_state == 2)
        let (r, m) := match lastRate m.time with
          | some r => (r, m)
          | none => m.drawInt
        ((m.onTime fun b => { b with rate := r, slewLeft := 0 }).disarm .slewDone).showRate r
      else m
    (m.freeRate).event 0x05 5

/-- The choice of a source after a change of qualification or of TIME_CTRL (R98). The secondary is followed from its next
measurement; until then the source shown stays (log 23). -/
def Mach.selectSource (m : Mach) : Mach :=
  let pri := m.cfg TIME_CTRL_src_pri
  let sec := m.cfg TIME_CTRL_src_sec
  let cur := m.fld TIME_QUAL_source
  let qs := srcQualified m sec
  let back := (kget pri m.time.qualAt).getD 0 + 10000000000
  let m := m.disarm .primaryReturn
  if srcQualified m pri then
    if cur ≠ sec ∨ qs = false ∨ back ≤ m.now then m.follow pri else m.arm .primaryReturn back
  else if qs && (cur == sec || cur == pri) then m
  else m.follow 0

/-! ### The PPS output (R115) -/

/-- May PPS_OUT pulse? -/
def ppsAllowed (m : Mach) : Bool :=
  m.on TIME_CTRL_pps_out_en && decide (2 ≤ m.fld TIME_QUAL_state) && decide (m.fld TIME_QUAL_state ≤ 4)

/-- PPS_OUT goes low. -/
def Mach.ppsLow (m : Mach) : Mach :=
  if m.time.ppsOut then ((m.onTime fun b => { b with ppsOut := false }).disarm .ppsWidth).emit (.pps false) else m

/-- Has a second number had its pulse? -/
def wasPulsed (l : List (Int × Int)) (k : Int) : Bool := l.any fun r => decide (r.1 ≤ k ∧ k ≤ r.2)

/-- The ranges of second numbers pulsed, with one more. -/
def addPulse (l : List (Int × Int)) (k : Int) : List (Int × Int) :=
  match l with
  | (a, b) :: l => if b + 1 = k then (a, k) :: l else (k, k) :: (a, b) :: l
  | [] => [(k, k)]

/-- PPS_OUT rises TIME_PPS_OUT_DLY early at a station-second boundary: at most once per second number, and never within 0.5 s of
the pulse before. -/
def Mach.ppsRise (m : Mach) : Mach :=
  let at_ := m.station + asSigned 16 (m.cfg TIME_PPS_OUT_DLY_dly)
  let soon := match m.time.ppsAt with
    | some a => decide (m.now < a + 500000000)
    | none => false
  if ppsAllowed m && decide (at_ % 1000000000 < 4) && !wasPulsed m.time.pulsed (at_ / 1000000000) && !soon then
    let m := m.onTime fun b => { b with ppsOut := true, pulsed := addPulse b.pulsed (at_ / 1000000000), ppsAt := some m.now }
    (m.arm .ppsWidth (m.now + m.cfg TIME_PPS_out_width * 1000000)).emit (.pps true)
  else m

/-! ### Time-quality states (R101, R102) -/

/-- A state entered: the runs of measurements begin again, its timer is set, its event is raised, and SVI and PUB receive it over
crossing 32. -/
def Mach.enterTime (m : Mach) (st : Nat) : Mach :=
  let m := (((m.lockStretch (st == 2)).setFld TIME_QUAL_state 0 st).disarm .bridging).disarm .holdLimit
  let m := m.onTime fun b => { b with goodRun := 0, badRun := 0 }
  let m := match st, m.time.applied with
    | 3, _ => m.arm .bridging (m.now + m.cfg TIME_HOLD_entry * 1000000)
    | 4, some a => m.arm .holdLimit (a + m.cfg TIME_HOLD_limit * 1000000000)
    | _, _ => m
  let m := if ppsAllowed m then m else m.ppsLow
  let m := if 2 ≤ st then m.event 0x05 (st - 2) else m
  m.sendValue 32 [st]

/-- The first transition of R101 that applies, at a measurement applied (its offset) or at a multiple of 1 ms. -/
def Mach.evalTime (m : Mach) (meas : Option Int) : Mach :=
  let q := anyQualified m
  match m.fld TIME_QUAL_state with
  | 0 => if q then m.enterTime 1 else m
  | 1 => if 4 ≤ m.time.goodRun then m.enterTime 2 else if q then m else m.enterTime 0
  | 2 => if 4 ≤ m.time.badRun then m.enterTime 1 else if q then m else m.enterTime 3
  | 3 => match meas with
    | some off => m.enterTime (if off.natAbs ≤ m.cfg TIME_LOCK_thr then 2 else 1)
    | none => m
  | _ => if q then m.enterTime 1 else m

/-- A source becomes qualified or unqualified (R97). The states follow at the next evaluation (R101). -/
def Mach.setQualified (m : Mach) (c : Nat) (q : Bool) : Mach :=
  if srcQualified m c = q then m else
    let m := match c with
      | 1 => m.setFlag PTP_DOM_STS_qualified 0 q
      | 2 => m.setFlag (PTP_DOM_STS_qualified.nth 1) 0 q
      | _ => m.setFlag TIME_QUAL_irig_qual 0 q
    let m := if q then m.onTime fun b => { b with qualAt := kput c m.now b.qualAt } else m
    m.selectSource

/-- What the time block does between commands: IRIG-B that has gone 1.5 s without an accepted frame is unqualified (R97), and the states
are evaluated when a multiple of 1 ms has passed (R101, log 97). -/
def Mach.timeDue (m : Mach) : Mach :=
  let m := if m.flag TIME_QUAL_irig_qual && decide (m.time.irigAt + 1500000000 < m.now) then m.setQualified 3 false else m
  if m.time.evalAt / 1000000 < m.now / 1000000 then (m.onTime fun b => { b with evalAt := m.now }).evalTime none else m

/-! ### Measurements (R96, R99) -/

/-- The epoch changes (R96, R99): the timebase does not; the record, the event, and what SVI and NRG do. -/
def Mach.stepEpoch (m : Mach) (off : Int) : Mach :=
  let old := toWidth 64 m.time.epoch
  let m := (m.onTime fun b => { b with epoch := b.epoch - off, discard := true, slewLeft := 0 }).disarm .slewDone
  let new := toWidth 64 m.time.epoch
  let m := m.count TIME_STEP_CNT_n
  let m := m.record 0x05 0x120 5 .module
    [word (old / 2 ^ 32), word (old % 2 ^ 32), word (new / 2 ^ 32), word (new % 2 ^ 32)]
  ((m.event 0x05 4).sviEpoch).nrgEpoch

/-- The part of the offset still to be removed at TIME_LOCK.slew ppm, replacing what was left before. -/
def Mach.slew (m : Mach) (off : Int) : Mach :=
  let ppm := m.cfg TIME_LOCK_slew
  let m := m.onTime fun b => { b with slewLeft := off }
  if off = 0 then (m.disarm .slewDone).showRate m.time.rate
  else (m.arm .slewDone (m.now + off.natAbs * 1000000 / ppm)).showRate
    (if 0 < off then m.time.rate - ppm * 1000000 else m.time.rate + ppm * 1000000)

/-- A measurement of the source in use, applied (R99); the first one after an epoch change is discarded. The disciplined rate it
leads to is not stated (log 4). -/
def Mach.applyOffset (m : Mach) (off : Int) : Mach :=
  if m.time.discard then m.onTime fun b => { b with discard := false } else
    let (r, m) := m.drawInt
    let good := decide (off.natAbs ≤ m.cfg TIME_LOCK_thr)
    let m := if m.fld TIME_QUAL_state = 2 then m.lockStretch true else m
    let m := m.onTime fun b => { b with
      rate := r
      applied := some m.now
      goodRun := if good then b.goodRun + 1 else 0
      badRun := if good then 0 else b.badRun + 1 }
    let m := if m.cfg TIME_STEP_thr * 1000 < off.natAbs ∧ m.on TIME_CTRL_step_en = true then
        (m.stepEpoch off).showRate r
      else m.slew off
    m.evalTime (some off)

/-- The offset that a measurement of a source yields, station time minus source time: of IRIG-B, at the on-time point of the frame last
accepted (R113); of a PTP domain, what its messages gave. -/
def measuredOffset (m : Mach) (c : Nat) (off : Int) : Int :=
  match c, m.time.irigTime with
  | 3, some (at_, src) => (at_ : Int) + m.time.epoch - src
  | _, _ => off

/-- A measurement of a source: station time minus source time (R98, R99, R106). Of a tracked domain it is shown only, saturating as
TIME_OFFSET does (log 98). -/
def Mach.measure (m : Mach) (c : Nat) (off : Int) : Mach :=
  let off := measuredOffset m c off
  let m := m.setFld TIME_OFFSET_ns 0 (toWidth 32 (sat31 off))
  let pri := m.cfg TIME_CTRL_src_pri
  let sec := m.cfg TIME_CTRL_src_sec
  let m := if c = sec ∧ srcQualified m pri = false ∧ srcQualified m sec = true then m.follow c else m
  if m.fld TIME_QUAL_source = c then
    if srcQualified m c then m.applyOffset off else m
  else if c = 1 ∨ c = 2 then m.setFld (PTP_DOM_OFS_ns.nth (c - 1)) 0 (toWidth 32 (sat31 (-off)))
  else m

/-! ### PPS_IN, IRIGB_IN and REF10M_IN (R112–R114) -/

/-- Is a rising edge of PPS_IN plausible? The first edge has none to follow and is the reference (log 22). -/
def ppsPlausible (m : Mach) (highNs : Nat) : Bool :=
  decide (1000 ≤ highNs) && decide (highNs ≤ 500000000) &&
    match m.time.ppsLast with
    | some l => decide (((m.now : Int) - l - 1000000000).natAbs ≤ m.cfg TIME_PPS_in_window * 1000)
    | none => true

/-- A rising edge of PPS_IN (R112). The glitch filter passes no level that lasts less than 100 ns. -/
def Mach.ppsEdge (m : Mach) (highNs : Nat) : Mach :=
  if highNs < 100 then m else
  if ppsPlausible m highNs then
    let run := if m.time.ppsLast.isSome then m.time.ppsRun + 1 else 0
    let m := (m.onTime fun b => { b with ppsLast := some m.now, ppsRun := run }).arm .ppsIn (m.now + 1500000000)
    if 3 ≤ run then m.setFlag TIME_QUAL_pps_qual 0 true else m
  else ((m.onTime fun b => { b with ppsRun := 0 }).count TIME_PPS_REJ_n).event 0x05 6

/-- 1.5 s without a plausible edge: PPS_IN and with it IRIG-B are unqualified. -/
def Mach.ppsLost (m : Mach) : Mach :=
  let m := m.onTime fun b => { b with ppsLast := none, ppsRun := 0, irigRun := 0, irigLast := none }
  (m.setFlag TIME_QUAL_pps_qual 0 false).setQualified 3 false

/-- What an element of an IRIG-B frame says by its width: 0, 1, or a position marker as 2 (R113, log 94). -/
def irigSymbol (w : Nat) : Option Nat :=
  if 1500000 ≤ w ∧ w ≤ 2500000 then some 0
  else if 4500000 ≤ w ∧ w ≤ 5500000 then some 1
  else if 7500000 ≤ w ∧ w ≤ 8500000 then some 2
  else none

/-- The symbols of a frame, when every element measures as one. -/
def irigSymbols (l : List Nat) : Option (List Nat) := l.mapM irigSymbol

/-- Do the position markers stand at their places, and nowhere else? -/
def irigMarks (l : List Nat) : Bool :=
  l.length == 100 && (l.zipIdx.all fun e => (e.1 == 2) == (e.2 == 0 || e.2 % 10 == 9))

/-- A BCD digit: `n` elements from `a` on, the least significant first. -/
def irigDigit (l : List Nat) (a n : Nat) : Nat := ((List.range n).map fun i => nthD l (a + i) 0 * 2 ^ i).sum

/-- The digits of a frame with the largest value of each: seconds, minutes, hours, days, and the year where it stands. -/
def irigDigits (l : List Nat) (year : Bool) : List (Nat × Nat) :=
  [(irigDigit l 1 4, 9), (irigDigit l 6 3, 5), (irigDigit l 10 4, 9), (irigDigit l 15 3, 5), (irigDigit l 20 4, 9), (irigDigit l 25 2, 2),
    (irigDigit l 30 4, 9), (irigDigit l 35 4, 9), (irigDigit l 40 2, 3)]
    ++ if year then [(irigDigit l 50 4, 9), (irigDigit l 55 4, 9)] else []

/-- Does a frame carry its year: B004–B007, or with the IEEE 1344 control bits? -/
def irigHasYear (m : Mach) (fr : IrigFrame) : Bool := decide (4 ≤ fr.fmt.val) || m.on TIME_IRIG_ext1344

/-- The IEEE 1344 parity: odd over the data elements up to its own. -/
def irigParity (l : List Nat) : Bool := ((l.take 76).filter fun x => x == 1).length % 2 == 1

/-- The days from the first of 1970 to the first of a year. -/
def daysTo (y : Nat) : Int :=
  365 * ((y : Int) - 1970) + ((y : Int) - 1969) / 4 - ((y : Int) - 1901) / 100 + ((y : Int) - 1601) / 400

/-- The UTC second that the digits of a frame spell, counted as the PTP epoch counts. -/
def irigUtc (l : List Nat) (year : Bool) : Int :=
  let y := if year then 2000 + irigDigit l 50 4 + 10 * irigDigit l 55 4 else Config.irigYear
  let day := irigDigit l 30 4 + 10 * irigDigit l 35 4 + 100 * irigDigit l 40 2
  let hour := irigDigit l 20 4 + 10 * irigDigit l 25 2
  let minute := irigDigit l 10 4 + 10 * irigDigit l 15 3
  let second := irigDigit l 1 4 + 10 * irigDigit l 6 3
  (daysTo y + day - 1) * 86400 + hour * 3600 + minute * 60 + second

/-- The UTC second of a frame whose elements, markers, digits and parity are right (R113). -/
def irigDecode (m : Mach) (fr : IrigFrame) : Option Int :=
  match irigSymbols fr.widths with
  | some l =>
    let year := irigHasYear m fr
    if irigMarks l && (irigDigits l year).all (fun d => decide (d.1 ≤ d.2)) && (irigParity l || !m.on TIME_IRIG_ext1344) then
      some (irigUtc l year)
    else none
  | none => none

/-- The UTC second of a frame that passes every check (R113): it decodes, its on-time point is a qualified PPS edge, and it is the second
after the frame accepted before, where one is kept (logs 22, 99). -/
def irigAccepted (m : Mach) (fr : IrigFrame) : Option Int :=
  match irigDecode m fr with
  | some u =>
    let next := match m.time.irigLast with
      | some l => u == l + 1
      | none => true
    if m.flag TIME_QUAL_pps_qual && decide (fr.edgeDist ≤ m.cfg TIME_PPS_in_window * 1000) && next then some u else none
  | none => none

/-- An IRIG-B frame (R97, R113): two consecutive accepted ones qualify the source, three consecutive rejected ones unqualify it. The
source time is the decoded UTC plus TIME_IRIG.tai_utc. -/
def Mach.irigFrame (m : Mach) (fr : IrigFrame) : Mach :=
  if !m.on TIME_IRIG_en then m else
  match irigAccepted m fr with
  | some u =>
    let src := (u + m.cfg TIME_IRIG_tai_utc) * 1000000000
    let m := m.onTime fun b => { b with
      irigLast := some u
      irigRun := b.irigRun + 1
      irigRej := 0
      irigAt := m.now
      irigTime := b.ppsLast.map fun e => (e, src) }
    if 2 ≤ m.time.irigRun then m.setQualified 3 true else m
  | none =>
    let m := m.onTime fun b => { b with irigRun := 0, irigRej := b.irigRej + 1 }
    let m := (m.count TIME_IRIG_REJ_n).event 0x05 7
    if 3 ≤ m.time.irigRej then (m.onTime fun b => { b with irigLast := none }).setQualified 3 false else m

/-- The 10 MHz input is lost, if it was qualified (R114). -/
def Mach.lose10m (m : Mach) : Mach :=
  let m := m.onTime fun b => { b with gates := 0 }
  if m.flag TIME_QUAL_in10m_qual then
    (((m.setFlag TIME_QUAL_in10m_qual 0 false).count TIME_10M_LOSS_n).event 0x05 8).freeRate
  else m

/-- A gate of 100 ms ends that found the input off the OCXO by some parts in 10¹² (R114). -/
def Mach.gate10m (m : Mach) (off : Int) : Mach :=
  if 10000000 < off.natAbs then m.lose10m else
    let m := m.onTime fun b => { b with gates := b.gates + 1, gateRate := off }
    if 10 ≤ m.time.gates then (m.setFlag TIME_QUAL_in10m_qual 0 true).freeRate else m

/-! ### The TIME page takes effect -/

/-- A set of the TIME page: sources, the limits of Bridging and Holdover, slew, outputs and inputs follow it. -/
def Mach.timeApply (m : Mach) (old : KMap Word) : Mach :=
  let was := fun f : Fd => bits ((kget (regKey f.page f.off 0) old).getD (resetWord f.page f.off 0)).toNat f.hi f.lo
  let m := match m.deadline .bridging with
    | some d => m.arm .bridging (d - was TIME_HOLD_entry * 1000000 + m.cfg TIME_HOLD_entry * 1000000)
    | none => m
  let m := match m.deadline .holdLimit, m.time.applied with
    | some _, some a => m.arm .holdLimit (a + m.cfg TIME_HOLD_limit * 1000000000)
    | _, _ => m
  let m := match m.deadline .slewDone with
    | some d => if was TIME_LOCK_slew = m.cfg TIME_LOCK_slew then m else
        let left := (d - m.now) * was TIME_LOCK_slew / 1000000
        m.slew (if 0 < m.time.slewLeft then left else -(left : Int))
    | none => m
  let m := if m.on TIME_IRIG_en then m else
    (m.onTime fun b => { b with irigRun := 0, irigLast := none }).setQualified 3 false
  let m := if ppsAllowed m then m else m.ppsLow
  (m.selectSource).freeRate

/-! ### The commands -/

/-- R92: TIME_TAG_WRAP. -/
def execTimeTagWrap (t : Nat) (s : State) : Host.Outcome State Fault Refusal :=
  s.run t fun m =>
    let w := m.now / 2 ^ 32
    let m := if m.coil.wrapNo < w then m.newSegment w else m
    m.sendCount 32 [w % 2 ^ 16]

/-- R99: SOURCE_MEASUREMENT. -/
def execSourceMeasurement (t : Nat) (source : Fin 3) (offset : Int) (s : State) : Host.Outcome State Fault Refusal :=
  s.run t fun m => (m.timeDue).measure (source.val + 1) offset

/-- R99: SLEW_COMPLETE. -/
def execSlewComplete (t : Nat) (s : State) : Host.Outcome State Fault Refusal :=
  s.run t fun m => (m.timeDue).onExpiry .slewDone fun m =>
    (m.onTime fun b => { b with slewLeft := 0 }).showRate m.time.rate

/-- R98: PRIMARY_RETURN_HOLD_EXPIRY. -/
def execPrimaryReturnHoldExpiry (t : Nat) (s : State) : Host.Outcome State Fault Refusal :=
  s.run t fun m => (m.timeDue).onExpiry .primaryReturn fun m => m.follow (m.cfg TIME_CTRL_src_pri)

/-- R101: BRIDGING_ENTRY_EXPIRY. -/
def execBridgingEntryExpiry (t : Nat) (s : State) : Host.Outcome State Fault Refusal :=
  s.run t fun m => (m.timeDue).onExpiry .bridging fun m => m.enterTime 4

/-- R101: HOLDOVER_LIMIT_EXPIRY. -/
def execHoldoverLimitExpiry (t : Nat) (s : State) : Host.Outcome State Fault Refusal :=
  s.run t fun m => (m.timeDue).onExpiry .holdLimit fun m => m.enterTime 5

/-- R112: PPS_IN_EDGE. -/
def execPpsInEdge (t : Nat) (highNs : Nat) (s : State) : Host.Outcome State Fault Refusal :=
  s.run t fun m => (m.timeDue).ppsEdge highNs

/-- R112: PPS_IN_TIMEOUT. -/
def execPpsInTimeout (t : Nat) (s : State) : Host.Outcome State Fault Refusal :=
  s.run t fun m => (m.timeDue).onExpiry .ppsIn fun m => m.ppsLost

/-- R113: IRIGB_FRAME. -/
def execIrigbFrame (t : Nat) (fr : IrigFrame) (s : State) : Host.Outcome State Fault Refusal :=
  s.run t fun m => (m.timeDue).irigFrame fr

/-- R114: REF10M_GATE_END. -/
def execRef10mGateEnd (t : Nat) (off : Int) (s : State) : Host.Outcome State Fault Refusal :=
  s.run t fun m => (m.timeDue).gate10m off

/-- R114: REF10M_EDGE_LOSS. -/
def execRef10mEdgeLoss (t : Nat) (s : State) : Host.Outcome State Fault Refusal :=
  s.run t fun m => (m.timeDue).lose10m

/-- R115: STATION_SECOND_BOUNDARY. NRG evaluates demand (R362); a temperature source takes its value with tick 0 of the second,
when MSR has it (log 24). -/
def execStationSecondBoundary (t : Nat) (s : State) : Host.Outcome State Fault Refusal :=
  s.run t fun m =>
    let m := (m.timeDue).ppsRise
    m.each (nrgPoints m) fun p m => m.secondEnd p (m.station / 1000000000)

/-- R115: PPS_OUT_WIDTH_END. -/
def execPpsOutWidthEnd (t : Nat) (s : State) : Host.Outcome State Fault Refusal :=
  s.run t fun m => m.onExpiry .ppsWidth fun m => m.ppsLow

end Sys2Proof.Machine
end

