-- ==== Sys2Proof/Machine/Twin.lean ====
section
/-! DEFINITION. The twin (R225–R255): states and their changes, the messages of the Plait link, joining and the copy at the follower,
witness frames, swap, and the timers of Plait. -/

namespace Sys2Proof.Machine

/-! ### Identity and views -/

/-- TWN state (R226): Disabled 0, Searching 1, Lead 2, Joining 3, Follower 4, Deciding 5, Isolated 6, Holding 7, Witness 8. -/
def twnState (m : Mach) : Nat := m.fld TWN_STS_state

/-- The PUB role a state selects (R226). -/
def roleOf (st : Nat) (plait : Bool) : Nat :=
  match st with
  | 0 => 0
  | 2 => if plait then 1 else 0
  | 3 => 5
  | 4 => 2
  | 5 => 2
  | 8 => 4
  | _ => 3

/-- Words that hold per-module or per-carrier values, and the bits of them that count (R241). -/
def digestMask (page off : Nat) : Word :=
  if page = 0x31 ∧ off = 0x040 then 0xEFFFFFFF
  else if (page = 0x31 ∧ (off = 0x054 ∨ off = 0x058)) ∨ (page = 0x30 ∧ off = 0x04C)
      ∨ (page = 0x06 ∧ (off = 0x08C ∨ off = 0x090 ∨ off = 0x094)) ∨ (page = 0x05 ∧ off = 0x078)
      ∨ (blockOf page = 0x20 ∧ (off = MAC_ADDR_LO_lo.off ∨ off = MAC_ADDR_HI_hi.off)) then 0
  else 0xFFFFFFFF

/-- The configuration digest (R241): SHA-256 of the committed words and bulk bytes of the admitted pages. What is at its reset
value is left out, each word and byte is given with its key (log 21). -/
def configDigest (m : Mach) : BitVec 256 :=
  let words := m.force.filterMap fun e =>
    let page := keyPage e.1
    let off := e.1 % 4096
    let idx := e.1 / (256 * 4096)
    let mask := digestMask page off
    if admittedPage page && (e.2 &&& mask) != (resetWord page off idx &&& mask) then some (e.1, e.2 &&& mask) else none
  let objs := m.bulkF.filter fun e => admittedPage (e.1 / 2 ^ 32)
  Config.sha256 ((words.flatMap fun e => bytesBE 8 e.1 ++ bytesBE 4 e.2.toNat) ++ objs.flatMap fun e => bytesBE 8 e.1 ++ [e.2])

/-- The pair tick number of the latest tick whose nominal time has passed. -/
def latestPair (m : Mach) : Nat := pairTick m (tickNow m)

/-- The HELLO the module sends. -/
def helloMsg (m : Mach) : PlaitMsg :=
  .hello {
    unit := m.on TWN_CFG_unit, pref := m.on TWN_CFG_pref, state := ⟨twnState m % 16, Nat.mod_lt _ (by decide)⟩
    config := configDigest m, leadSince := BitVec.ofNat 64 (fld64 m TWN_LEAD_SINCE_LO_w TWN_LEAD_SINCE_HI_w)
    tick := BitVec.ofNat 64 (latestPair m), nominal := nominalOf m (latestPair m) }

/-- Does the module hold the keys of the pair (R255): both Plait keys and the witness key? -/
def twinKeys (m : Mach) : Bool :=
  (m.keyFor (m.cfg PLT_SAK_tx) 3).isSome && (m.keyFor (m.cfg PLT_SAK_rx) 3).isSome && (m.keyFor (m.cfg TWN_WIT_KEY_slot) 4).isSome

/-! ### Witness frames (R248) -/

/-- Bytes 0–35 of a witness payload. -/
def witnessBytes (w : WitnessPdu) : List Byte :=
  bytesBE 1 1 ++ bytesBE 1 (w.state.val * 16 + w.unit.toNat * 8 + w.plaitUp.toNat * 4 + w.inStep.toNat * 2) ++ bytesBE 2 0
    ++ bytesBE 8 (w.boot.toNat * 2 ^ 48 + w.sent.toNat) ++ bytesBE 8 w.tick.toNat ++ bytesBE 8 w.leadSince.toNat
    ++ bytesBE 8 w.config.toNat

/-- The authentication value of a witness frame. -/
def witnessAuth (k : Key) (covered : List Byte) : BitVec 128 := BitVec.ofNat 128 (natBE ((Config.hmacSha256 k covered).take 16))

/-- A witness frame through each witness port; on a redundant pair with the pair's trailer or tag and one number. Without a key
none is sent (R255). -/
def Mach.sendWitness (m : Mach) : Mach :=
  match m.keyFor (m.cfg TWN_WIT_KEY_slot) 4 with
  | none => m
  | some k =>
    let dst := macOf m TWN_WIT_DMAC_LO_lo TWN_WIT_DMAC_HI_hi 0
    let src := macOf m TWN_WIT_SMAC_LO_lo TWN_WIT_SMAC_HI_hi 0
    let w : WitnessPdu := {
      state := ⟨twnState m % 16, Nat.mod_lt _ (by decide)⟩, unit := m.on TWN_CFG_unit, plaitUp := plaitUp m
      inStep := m.flag TWN_STS_in_step, boot := BitVec.ofNat 16 (m.fld TWN_BOOT_n), sent := BitVec.ofNat 48 m.twn.witTx
      tick := BitVec.ofNat 64 (latestPair m), leadSince := BitVec.ofNat 64 (fld64 m TWN_LEAD_SINCE_LO_w TWN_LEAD_SINCE_HI_w)
      config := (configDigest m >>> 192).setWidth 64, covered := [], auth := 0 }
    let covered := bytesBE 6 dst.toNat ++ bytesBE 6 src.toNat ++ bytesBE 2 0x88B6 ++ witnessBytes w
    let vid := m.cfg TWN_WIT_TAG_vid
    let pcp := m.cfg TWN_WIT_TAG_pcp
    let tagged := m.on TWN_WIT_TAG_tag_en
    let tag : Tag := if tagged then .ctag ⟨vid % 4096, Nat.mod_lt _ (by decide)⟩ ⟨pcp % 8, Nat.mod_lt _ (by decide)⟩ else .untagged
    let fr : Frame := {
      dst := dst, src := src, tag := tag, etype := 0x88B6, len := if tagged then 74 else 70, fcs := .good, codeErr := false
      sec := none, red := .plain, body := .witness { w with covered := covered, auth := witnessAuth k covered } }
    let f : TxFrame := {
      fr := fr, cls := classOf m pcp, pcp := pcp, vid := vid, entered := m.now, src := 19, vnic := none, stamp := none }
    let ports := (List.range 16).filter fun e => bit (m.cfg TWN_WIT_PORTS_ports) e
    let m := (m.onTwn fun t => { t with witTx := t.witTx + 1 }).count (TWN_CNT_n.nth 7)
    m.each (List.range 8) fun k m =>
      let mine := ports.filter fun e => e / 2 = k
      let mode := redMode m k
      if mine.isEmpty then m
      else if mode = 0 then m.each mine fun e m => m.enqueue e f
      else
        let (n, m) := m.drawWitSeq k
        let m := if mode = 2 then m.openDup k { mac := src, seq := n, port := 2 * k, own := true, since := m.now } else m
        m.each mine fun e m =>
          let red : RedTag := if mode = 1 then .prp (BitVec.ofNat 16 n) (e % 2 == 1) true else .hsr (BitVec.ofNat 16 n)
          m.enqueue e { f with fr := { fr with red := red } }

/-! ### Changes of state (R226, R227, R246, R247) -/

/-- Every enabled slot starts (R196). -/
def Mach.startSlots (m : Mach) : Mach := m.each (slotList m) fun s m => m.slotStart s

/-- in_step: Follower with a committed copy, or Lead with such a partner. -/
def Mach.showStep (m : Mach) : Mach :=
  m.setFlag TWN_STS_in_step 0 (twnState m == 4 || (twnState m == 2 && m.fld TWN_STS_partner == 4 && plaitUp m))

/-- A change of state: event 0, and record 0x140 with the two states and the pair tick number (R226, R372). -/
def Mach.stateRecord (m : Mach) (old new : Nat) : Mach :=
  let tick := latestPair m
  (m.event 0x31 0).record 0x31 0x140 5 .module [word (old * 16 + new), word (tick / 2 ^ 32), word tick]

/-- The module decides for itself from now on: its own subscription events that wait are delivered, and subscriptions whose TAL has run
out meanwhile expire (R236). -/
def Mach.deliverOwn (m : Mach) : Mach :=
  let events := m.pub.events
  let m := m.onPub fun p => { p with events := [] }
  let m := m.each events fun e m => m.deliverEvent (nextTick m) e
  m.each (enabledIn m.force PUB_SUB_CTRL_en) fun i m => m.onPast (.tal i) fun m => m.subExpire i

/-- The twin enters a state: shown, counted and recorded; PUB takes its role; numbers advance on an entry into Lead from Joining,
Isolated follower or Holding (R247); timers of the old state stop. -/
def Mach.enterTwn (m : Mach) (st : Nat) : Mach :=
  let old := twnState m
  if old = st then m else
    let m := ((m.setFld TWN_STS_state 0 st).count TWN_CNT_n).stateRecord old st
    let m := m.show64 TWN_LEAD_SINCE_LO_w TWN_LEAD_SINCE_HI_w (if st = 2 then latestPair m else 0)
    let m := ((m.disarm .search).disarm .witnessDelay).disarm .revertHold
    let m := if st = 3 then m else m.onTwn fun t => { t with committed := false }
    let m := (m.onTwn fun t => { t with wantLead := false }).showStep
    let m := if equalising m then m else m.eqFlush
    let m := if st = 2 ∧ (old = 3 ∨ old = 6 ∨ old = 7) then m.advanceNumbers else m
    let m := m.setRole (roleOf st (plaitUp m))
    let m := if st = 2 ∨ st = 6 ∨ st = 7 then m.deliverOwn else m
    match st with
    | 1 => m.arm .search (m.now + m.cfg TWN_JOIN_search * 100000000)
    | 2 => if old = 3 ∨ old = 5 ∨ old = 6 ∨ old = 7 then m.event 0x31 2 else m
    | 5 => (m.event 0x31 1).arm .witnessDelay (m.now + m.cfg TWN_WIT_timeout * 1000)
    | 6 =>
      let m := if m.running .witnessRx then m else m.arm .witnessRx (m.now + m.cfg TWN_WIT_timeout * 1000)
      m.event 0x31 3
    | 8 => m.event 0x31 9
    | _ => m

/-- Into Lead. While the units clash the transition waits (R225, R227); from Joining it is a take-over cold (R246). -/
def Mach.toLead (m : Mach) : Mach :=
  if m.flag TWN_STS_unit_clash then m.onTwn fun t => { t with wantLead := true }
  else if twnState m = 3 then (m.enterTwn 2).startSlots
  else m.enterTwn 2

/-- A transition into Lead that waited applies no more: the partner shows itself. -/
def Mach.partnerThere (m : Mach) : Mach := m.onTwn fun t => { t with wantLead := false }

/-- A Joining module that loses the lead discards the copy and acts on its policy (R246). -/
def Mach.leadLost (m : Mach) : Mach :=
  let m := m.endCopy
  if m.on TWN_CFG_policy then (m.enterTwn 7).startSlots else m.toLead

/-- A Joining module that finds the partner alive without Plait: its slots start, and it is Isolated (R246). -/
def Mach.isolate (m : Mach) : Mach :=
  if twnState m = 3 then (m.endCopy.startSlots).enterTwn 6 else m.enterTwn 6

/-- A mismatch that keeps the module from joining: flagged, with event bit [8]. -/
def Mach.twinMismatch (m : Mach) (f : Fd) : Mach := if m.flag f then m else (m.setFlag f 0 true).event 0x31 8

/-- The own tick that carries the nominal time a HELLO names: the one nearest to it, not before the grid and not past the next
tick; none when the two times differ by more than half a tick (R234). -/
def gridMatch (m : Mach) (nominal : Int) : Option Nat :=
  match m.svi.grids with
  | [] => none
  | g :: _ =>
    let k := (nominal * g.rate * 2 + 1000000000) / 2000000000
    let top := g.at_ (tickNow m + 1)
    let k := max g.index (min top k)
    let n := (g.first + (k - g.index)).toNat
    if 2 * (nominal * g.rate - k * 1000000000).natAbs ≤ 1000000000 then some n else none

/-- Joining begins: releases stop (R242), and those deferred or held by a freeze are dropped. -/
def Mach.enterJoining (m : Mach) : Mach :=
  let m := (m.eqFlush).enterTwn 3
  let late := m.dsp.deferred.map (·.slot)
  let m := m.each late fun s m => m.disarm (.deferral s)
  m.onDsp fun d => { d with deferred := [], held := [] }

/-- Joining without a grid or a HELLO that would give an offset: no copy is awaited, and the next HELLO tries again (R234, log 109). -/
def Mach.joinWaiting (m : Mach) : Mach := m.enterJoining.endCopy

/-- The module joins with the partner's latest HELLO (R234, R241, R242): the offset is set, releases stop, and it awaits a copy. With
another configuration it is Isolated. Where the grids differ it does not join; one that has to leave its state (`must`) waits in Joining
for a HELLO that fits (log 109). -/
def Mach.tryJoin (m : Mach) (must : Bool := false) : Mach :=
  match m.twn.partner with
  | none => if must then m.joinWaiting else m
  | some h =>
    if h.config != configDigest m then ((m.twinMismatch TWN_STS_cfg_mismatch)).enterTwn 6
    else match gridMatch m h.nominal with
      | none =>
        let m := m.twinMismatch TWN_STS_grid_mismatch
        if must then m.joinWaiting else m
      | some n =>
        let m := (m.setFlag TWN_STS_cfg_mismatch 0 false).setFlag TWN_STS_grid_mismatch 0 false
        let m := m.enterJoining
        let m := m.show64 TWN_TICK_OFS_LO_w TWN_TICK_OFS_HI_w (toWidth 64 ((h.tick.toNat : Int) - n))
        (m.onTwn fun t => { t with
          copy := some {}, latch := [], own := [], theirs := [], ownR := [], theirR := [], skipR := [], wantLead := false }).showCopy 1 0
          (slotList m).length

/-- The follower diverges (R238). -/
def Mach.diverge (m : Mach) : Mach :=
  let m := (m.count (TWN_CNT_n.nth 4)).event 0x31 4
  (m.onTwn fun t => { t with diffs := [], swapAt := none }).tryJoin true

/-- Evaluation at a Plait message, a witness frame, an expiry and a tick (R227): a transition into Lead that a clash of units held up, and
div_lim differences within div_span. -/
def Mach.twinEval (m : Mach) : Mach :=
  let m := if m.twn.wantLead && !m.flag TWN_STS_unit_clash then m.toLead else m
  if twnState m = 4 then
    let span := m.cfg TWN_CFG_div_span * 1000000
    let recent := m.twn.diffs.filter fun d => m.now ≤ d + span
    let m := m.onTwn fun t => { t with diffs := recent }
    if m.cfg TWN_CFG_div_lim ≤ recent.length then m.diverge else m
  else m

/-! ### Copy at the follower (R242–R245) -/

/-- Energy taken from the lead at the commit (R243): each accumulator and wrap counter is the lead's latched value with the
module's own change since the latch. -/
def Mach.copyEnergy (m : Mach) (lead : List EnergyLatch) : Mach :=
  m.each (nrgPoints m) fun p m =>
    match lead.find? (fun e => e.point == p), m.twn.latch.find? (fun e => e.point == p) with
    | some l, some o =>
      let b := nrgPt m p
      let accs := (List.range 6).map fun i => (nthD l.accs i 0 + nthD b.accs i 0 + 2 ^ 48 - nthD o.accs i 0) % 2 ^ 48
      let wraps := (List.range 6).map fun i => (nthD l.wraps i 0 + nthD b.wraps i 0 + 2 ^ 8 - nthD o.wraps i 0) % 2 ^ 8
      m.onPt p fun b => { b with accs := accs, wraps := wraps }
    | _, _ => m

/-- The follower commits the copy when all that R244 asks holds; it is Follower from the next tick. -/
def Mach.tryCommit (m : Mach) : Mach :=
  match m.twn.copy with
  | none => m
  | some c =>
    match c.cend with
    | none => m
    | some e =>
      let latched := (nrgPoints m).isEmpty || c.latchTick.isNone || !m.twn.latch.isEmpty
      if twnState m = 3 ∧ m.twn.committed = false ∧ m.cfg TWN_JOIN_settle ≤ c.matched ∧ c.resDiff = false ∧ latched = true then
        let m := (m.plaitSend (.cack true)).copyEnergy e.latch
        (m.onTwn fun t => { t with committed := true }).disarm .copySettle
      else m

/-- A committed copy makes the module Follower at the next tick (R244). -/
def Mach.commitTick (m : Mach) : Mach :=
  if m.twn.committed ∧ twnState m = 3 ∧ m.flag TWN_STS_unit_clash = false then
    let m := m.endCopy
    ((m.enterTwn 4).count (TWN_CNT_n.nth 5)).event 0x31 5
  else m

/-- A slot's state as its CUT gives it. -/
def Mach.installSlot (m : Mach) (c : CutMsg) : Mach :=
  let s := c.slot.val
  let m := (m.partWrite (s / 64) (m.cfg TWN_SLOT_AREA_page s * 4096) (c.area.take (m.cfg TWN_SLOT_AREA_size s * 4096)) 4).1
  let m := (m.setFld DSP_SLOT_STS_state s c.state.val).setFlag DSP_SLOT_STS_primed s c.primed
  m.setFld DSP_SLOT_STS_consec s c.consec.toNat

/-- A CUT arrives (R242): its area and DSP state are installed and the slot's ticks queued after the cut tick are released; more
than 7 of them fail the copy. -/
def Mach.cutRx (m : Mach) (c : CutMsg) : Mach :=
  match m.twn.copy with
  | none => m
  | some b =>
    if twnState m ≠ 3 then m else
      let s := c.slot.val
      let (mine, rest) := splitBy (fun q : Nat × Block => q.1 == s) b.queued
      let late := mine.filter fun q => decide (c.tick.toNat < q.2.tick)
      let n := b.cuts.length + 1
      let total := (slotList m).length
      let m := m.onTwn fun t => { t with copy := some { b with
        cuts := b.cuts ++ [c], released := s :: b.released, queued := rest
        latchTick := match c.latchTick with | some x => some x.toNat | none => b.latchTick } }
      let m := m.showCopy (if total ≤ n then 2 else 1) n total
      if 7 < late.length then m.failCopy
      else (m.installSlot c).each late fun q m => m.dueSlot s q.2.tick (if q.2.bytes.isEmpty then none else some q.2)

/-- A CEND arrives (R244): count and digest must match, else the copy fails; then it settles. A module that awaits no copy says so. -/
def Mach.cendRx (m : Mach) (e : CendMsg) : Mach :=
  match m.twn.copy with
  | none => if twnState m = 3 then m.plaitSend (.cack false) else m
  | some c =>
    if twnState m ≠ 3 then m
    else if e.count != c.cuts.length || copyDigest c.cuts e.latch != e.digest then m.failCopy
    else
      let m := m.onTwn fun t => { t with copy := some { c with cend := some e } }
      let m := m.showCopy 3 c.cuts.length (slotList m).length
      (m.arm .copySettle (m.now + 10000000000)).tryCommit

/-- The follower's result of the check at the lead (R244, R245). -/
def Mach.cackRx (m : Mach) (ok : Bool) : Mach :=
  if twnState m = 2 ∧ m.twn.copy.isSome = true then (if ok then m.endCopy else m.failCopy) else m

/-- The lead starts a copy for a partner that joins, unless one runs or is due again. -/
def Mach.offerCopy (m : Mach) : Mach :=
  if twnState m = 2 ∧ plaitUp m = true ∧ m.fld TWN_STS_partner = 3 ∧ m.twn.copy.isNone = true ∧ m.running .copyRetry = false then
    m.startCopy
  else m

/-! ### The partner seen (R225, R226, R253) -/

/-- The partner's unit, against the module's own. -/
def Mach.checkUnit (m : Mach) (unit : Bool) : Mach :=
  if unit = m.on TWN_CFG_unit then m.twinMismatch TWN_STS_unit_clash else m.setFlag TWN_STS_unit_clash 0 false

/-- The partner's state shown, and what follows for a lead: in_step, equalisation, and the revert hold (R254). -/
def Mach.showPartner (m : Mach) (st : Nat) : Mach :=
  let old := m.fld TWN_STS_partner
  let m := (m.setFld TWN_STS_partner 0 st).showStep
  let m := if equalising m || m.svi.eq.isEmpty then m else m.eqFlush
  if twnState m = 2 ∧ st = 4 then
    (if old ≠ 4 ∧ m.on TWN_CFG_revert = true ∧ m.on TWN_CFG_unit ≠ m.on TWN_CFG_pref then
      m.arm .revertHold (m.now + m.cfg TWN_REVERT_hold * 1000000000) else m)
  else m.disarm .revertHold

/-- Two leads (R253): the later one leaves, or when both began at the same tick the one that is not preferred. -/
def Mach.dualLead (m : Mach) (since : Nat) : Mach :=
  let own := fld64 m TWN_LEAD_SINCE_LO_w TWN_LEAD_SINCE_HI_w
  let m := m.event 0x31 7
  if since < own ∨ (since = own ∧ m.on TWN_CFG_unit ≠ m.on TWN_CFG_pref) then
    (if plaitUp m then m.tryJoin true else m.enterTwn 6)
  else m

/-- A HELLO delivered (R225, R226). -/
def Mach.helloRx (m : Mach) (h : HelloMsg) : Mach :=
  let m := (m.onTwn fun t => { t with partner := some h }).checkUnit h.unit
  let m := m.showPartner h.state.val
  match twnState m with
  | 1 =>
    let m := (m.partnerThere).arm .search (m.now + m.cfg TWN_JOIN_search * 100000000)
    if h.state.val = 2 then m.tryJoin
    else if h.state.val = 1 then (if m.on TWN_CFG_unit = m.on TWN_CFG_pref then m.toLead else m.tryJoin)
    else m
  | 2 => if h.state.val = 2 then m.dualLead h.leadSince.toNat else m.offerCopy
  | 3 =>
    let m := (m.partnerThere).disarm .witnessDelay
    if m.twn.copy.isNone && !m.twn.committed then m.tryJoin true else m
  | 6 => (m.partnerThere).tryJoin
  | 7 => if h.state.val = 2 then m.tryJoin else m
  | _ => m

/-- A valid witness frame is evidence when it shows Lead with a tick after the last valid Plait frame (R249). -/
def isEvidence (m : Mach) (w : WitnessPdu) : Bool := w.state.val == 2 && decide (m.twn.lastTick < w.tick.toNat)

/-- What a valid witness frame does to the state (R226, R250, R253). -/
def Mach.witnessAct (m : Mach) (w : WitnessPdu) : Mach :=
  let lead := w.state.val == 2
  let ev := isEvidence m w
  match twnState m with
  | 1 =>
    let m := (m.partnerThere).arm .search (m.now + m.cfg TWN_JOIN_search * 100000000)
    if !plaitUp m && lead then m.enterTwn 6 else m
  | 2 => if lead then m.dualLead w.leadSince.toNat else m
  | 3 => if plaitUp m then m else if ev then m.isolate else if lead then m else m.leadLost
  | 5 => if ev then m.enterTwn 6 else if lead then m else m.toLead
  | 6 => if lead then m.partnerThere else m.toLead
  | _ => m

/-- A witness frame received (R249). -/
def Mach.witnessRx (m : Mach) (fr : Frame) : Mach :=
  let bad := fun (m : Mach) => m.count (TWN_CNT_n.nth 9)
  match fr.body with
  | .witness w =>
    let seq := w.boot.toNat * 2 ^ 48 + w.sent.toNat
    let ok := m.on TWN_CFG_en && fr.fcs == .good && fr.etype == 0x88B6
      && fr.dst == macOf m TWN_WIT_DMAC_LO_lo TWN_WIT_DMAC_HI_hi 0 && fr.src != macOf m TWN_WIT_SMAC_LO_lo TWN_WIT_SMAC_HI_hi 0
      && (match m.keyFor (m.cfg TWN_WIT_KEY_slot) 4 with
        | some k => witnessAuth k w.covered == w.auth
        | none => false)
    if !ok then bad m
    else if w.unit = m.on TWN_CFG_unit then bad (m.checkUnit w.unit)
    else if seq ≤ m.twn.witSeq then bad m
    else
      let m := (m.onTwn fun t => { t with witSeq := seq, evidence := t.evidence || isEvidence m w }).count (TWN_CNT_n.nth 8)
      let m := (m.checkUnit w.unit).setFlag TWN_STS_partner_seen 0 true
      let m := m.arm .witnessRx (m.now + m.cfg TWN_WIT_timeout * 1000)
      ((m.showPartner w.state.val).witnessAct w).twinEval
  | _ => bad m

/-! ### Plait lost (R233, R250) -/

/-- Plait is declared lost, and the module acts by its state. -/
def Mach.plaitGone (m : Mach) : Mach :=
  let m := (m.plaitLost.onTwn fun t => { t with swapAt := none }).showStep
  let m := if twnState m = 2 ∧ m.twn.copy.isSome = true then m.endCopy else m
  let m := if equalising m || m.svi.eq.isEmpty then m else m.eqFlush
  let m := if m.on TWN_CFG_en ∧ twnState m ≠ 8 then m.sendWitness else m
  match twnState m with
  | 2 => m.setRole 0
  | 3 => if m.twn.evidence then m.isolate else m.arm .witnessDelay (m.now + m.cfg TWN_WIT_timeout * 1000)
  | 4 =>
    let m := m.enterTwn 5
    if m.twn.evidence then m.enterTwn 6 else m
  | _ => m

/-! ### Messages of the link (R230) -/

/-- A descriptor of the twin (R140, R234, R235). -/
def Mach.descRx (m : Mach) (d : DescMsg) : Mach :=
  let grp := d.group.val
  let tick := d.tick.toNat
  let m := m.onSvi fun b => { b with eq := b.eq.map fun e =>
    if e.tk.group = grp ∧ e.tk.pair = tick ∧ e.desc.isNone = true then { e with since := m.now } else e }
  if twnState m = 4 then
    let m := m.eqTimers grp
    let rate := rateHz (m.cfg SVI_TICK_rate)
    if 1000000000 < 2 * rate * (nominalOf m tick - d.nominal).natAbs then m.diverge else m
  else if leads m && equalising m then
    if m.svi.eq.any fun e => e.tk.group == grp && e.tk.pair == tick then
      let m := m.onSvi fun b => { b with eq := b.eq.map fun e =>
        if e.tk.group = grp ∧ e.tk.pair = tick ∧ e.comb.isNone = true then { e with desc := some d } else e }
      (m.combDue grp false).eqTimers grp
    else if (nextOpen m grp).any fun n => pairTick m n ≤ tick then m.onSvi fun b => { b with early := b.early ++ [(m.now, d)] }
    else m
  else m

/-- The lead's combined set (R235): a follower that has not closed the tick closes it at once. -/
def Mach.combRx (m : Mach) (c : CombMsg) : Mach :=
  let grp := c.group.val
  let tick := c.tick.toNat
  if twnState m ≠ 3 ∧ twnState m ≠ 4 then m else
    let n := ((tick : Int) - tickOfs m).toNat
    let m := if (nextOpen m grp).any fun k => k ≤ n then m.closeDue grp (some n) else m
    match m.svi.eq.find? fun e => e.tk.group == grp && e.tk.pair == tick && !e.done && !e.led with
    | some e =>
      let m := m.onSvi fun b => { b with eq := b.eq.map fun x => if x = e then { e with comb := some c } else x }
      ((m.sendSamples e.tk c.follSend).eqAdvance grp).eqTimers grp
    | none => m.each c.events fun e m => m.mergedEvent tick e

/-- Samples of one stream for one tick (R140). -/
def Mach.sampRx (m : Mach) (grp tick : Nat) (smp : StreamSample) : Mach :=
  let m := m.onSvi fun b => { b with eq := b.eq.map fun e =>
    if e.tk.group = grp ∧ e.tk.pair = tick ∧ e.done = false then { e with copied := e.copied ++ [smp] } else e }
  m.eqAdvance grp

/-- The lead names the swap tick (R254). -/
def Mach.swapRx (m : Mach) (tick : Nat) : Mach := if twnState m = 4 then m.onTwn fun t => { t with swapAt := some tick } else m

/-- A message delivered in link order. -/
def Mach.plaitMsg (m : Mach) (msg : PlaitMsg) : Mach :=
  match msg with
  | .hello h => m.helloRx h
  | .keep => m
  | .desc d => m.descRx d
  | .comb c => m.combRx c
  | .samp g t s => m.sampRx g t s
  | .tdig g t d => if comparing m then (m.theirTick g t d).tryCommit else m
  | .rdig s t d => if comparing m then m.theirResult s t d else m
  | .fdig b st sq ps d => if twnState m = 4 ∨ twnState m = 5 then m.digestCame b st sq ps d else m
  | .swap t => m.swapRx t
  | .frec r => if twnState m = 3 then m.applyFrec r else m
  | .cut c => m.cutRx c
  | .cend e => m.cendRx e
  | .cack ok => m.cackRx ok

/-- A HELLO on a lane that has just come Up (R230). -/
def Mach.helloUp (m : Mach) (l before : Nat) : Mach :=
  if laneState m l = 2 ∧ before ≠ 2 then m.plaitSendLane l (helloMsg m) else m

/-- A Plait frame received, and every message it lets through. -/
def Mach.plaitFrame (m : Mach) (h : PlaitHdr) (msg : PlaitMsg) : Mach :=
  let l := h.lane.val
  let before := laneState m l
  let oks := m.fld PLT_CNT_n
  let (m, ms) := m.plaitRx h msg
  if m.fld PLT_CNT_n = oks then m else
    let m := m.onTwn fun t => { t with evidence := false }
    let m := if twnState m = 2 then (m.setRole (roleOf 2 (plaitUp m))).showStep else m
    let m := m.helloUp l before
    let m := m.each ms fun x m => m.plaitMsg x
    let m := m.each ((m.svi.eq.map fun e => e.tk.group).eraseDups) fun g m => m.eqAdvance g
    m.twinEval

/-! ### Swap (R254) -/

/-- The lead starts a swap. -/
def Mach.startSwap (m : Mach) : Mach :=
  if twnState m = 2 ∧ m.fld TWN_STS_partner = 4 ∧ plaitUp m = true ∧ m.twn.swapAt.isNone = true then
    let ahead := ceilDiv ((m.cfg PLT_SUP_timeout + 500) * rateHz (m.cfg SVI_TICK_rate)) 1000000 + 1
    let tick := latestPair m + ahead
    (m.onTwn fun t => { t with swapAt := some tick }).plaitSend (.swap tick)
  else m

/-- The swap tick is reached: both modules change roles; while the units clash it waits (R225). -/
def Mach.swapNow (m : Mach) : Mach :=
  match m.twn.swapAt with
  | some tick =>
    if m.flag TWN_STS_unit_clash then m
    else if tick ≤ latestPair m then
      let m := m.onTwn fun t => { t with swapAt := none }
      if twnState m = 2 then (m.setFld TWN_STS_partner 0 2).enterTwn 4
      else if twnState m = 4 then (m.setFld TWN_STS_partner 0 4).toLead
      else m
    else m
  | none => m

/-! ### A set takes effect, zeroisation -/

/-- A set of the TWN page takes effect (R226). -/
def Mach.twnApply (m : Mach) : Mach :=
  match m.on TWN_CFG_en, twnState m with
  | true, 0 =>
    let m := m.enterTwn 1
    (m.arm .helloTx (m.now + 10000000)).arm .witnessTx (m.now + 1000000)
  | false, 0 => m
  | false, _ =>
    let m := (m.endCopy.setPlaitUp false).onTwn fun t => { t with swapAt := none, partner := none }
    let m := ((((m.disarm .helloTx).disarm .witnessTx).disarm .supervision).disarm .witnessRx).enterTwn 0
    (m.setFld TWN_STS_partner 0 0).setFlag TWN_STS_partner_seen 0 false
  | true, _ => m

/-- A set of the PLT page takes effect: lanes taken out of use go Down, lanes with block lock taken into use train. -/
def Mach.pltApply (m : Mach) : Mach :=
  m.each [0, 1] fun l m =>
    if bit (m.cfg PLT_CTRL_lane_en) l then
      (if laneState m l = 0 ∧ (laneOf m l).lock = true then (m.setLane l 1).arm (.laneLock l) (m.now + 10000000) else m)
    else if laneState m l = 0 then m else (m.dropLane l 0).disarm (.laneLock l)

/-- Zeroisation puts an enabled twin into Witness (R226, R255). -/
def Mach.twnWitness (m : Mach) : Mach :=
  if twnState m = 0 then m
  else ((m.endCopy.onTwn fun t => { t with swapAt := none, sendQ := [], resendQ := [] })).enterTwn 8

/-- TWN_CMD (R246, R254, R255). -/
def Mach.twnCommand (m : Mach) (w : Nat) : Mach :=
  let m := if bit w 0 then m.startSwap else m
  let m := if bit w 1 && twnState m == 7 then m.toLead else m
  if bit w 2 && twnState m == 8 && twinKeys m then
    ((m.enterTwn 1).arm .helloTx (m.now + 10000000)).arm .witnessTx (m.now + 1000000)
  else m

/-! ### Commands -/

/-- R228: PLAIT_LANE_LOCK_CHANGE. -/
def execPlaitLaneLockChange (t : Nat) (lane : Fin 2) (lock : Bool) (s : State) : Host.Outcome State Fault Refusal :=
  s.run t fun m =>
    let l := lane.val
    let m := m.onLane l fun b => { b with lock := lock }
    if lock then
      if bit (m.cfg PLT_CTRL_lane_en) l && laneState m l != 1 && laneState m l != 2 then
        let m := (m.setLane l 1).arm (.laneLock l) (m.now + 10000000)
        m.plaitSendLane l (helloMsg m)
      else m
    else (m.dropLane l 0).disarm (.laneLock l)

/-- R228: PLAIT_LANE_LOCK_HOLD_EXPIRY. -/
def execPlaitLaneLockHoldExpiry (t : Nat) (lane : Fin 2) (s : State) : Host.Outcome State Fault Refusal :=
  s.run t fun m => m.onExpiry (.laneLock lane) fun m =>
    let before := laneState m lane
    ((m.onLane lane fun b => { b with held := true }).laneUp lane).helloUp lane before

/-- R231: PLAIT_REPLAY_EXPIRY. -/
def execPlaitReplayExpiry (t : Nat) (lane : Fin 2) (s : State) : Host.Outcome State Fault Refusal :=
  s.run t fun m => m.onExpiry (.replay lane) fun m => m.replay lane

/-- R233: PLAIT_SUPERVISION_EXPIRY. -/
def execPlaitSupervisionExpiry (t : Nat) (s : State) : Host.Outcome State Fault Refusal :=
  s.run t fun m => m.onExpiry .supervision fun m => m.plaitGone.twinEval

/-- R230: HELLO_INTERVAL: a HELLO on the link, and one on each lane that trains. -/
def execHelloInterval (t : Nat) (s : State) : Host.Outcome State Fault Refusal :=
  s.run t fun m => m.onExpiry .helloTx fun m =>
    let m := m.arm .helloTx (m.now + 10000000)
    let m := m.plaitSend (helloMsg m)
    m.each [0, 1] fun l m => if laneState m l = 1 then m.plaitSendLane l (helloMsg m) else m

/-- R230: KEEP_IDLE_EXPIRY. -/
def execKeepIdleExpiry (t : Nat) (lane : Fin 2) (s : State) : Host.Outcome State Fault Refusal :=
  s.run t fun m => m.onExpiry (.keepIdle lane) fun m => m.plaitSendLane lane .keep

/-- R226: HELLO. -/
def execHello (t : Nat) (h : PlaitHdr) (msg : HelloMsg) (s : State) : Host.Outcome State Fault Refusal :=
  s.run t fun m => m.plaitFrame h (.hello msg)

/-- R233: KEEP. -/
def execKeep (t : Nat) (h : PlaitHdr) (s : State) : Host.Outcome State Fault Refusal := s.run t fun m => m.plaitFrame h .keep

/-- R235: DESC. -/
def execDesc (t : Nat) (h : PlaitHdr) (msg : DescMsg) (s : State) : Host.Outcome State Fault Refusal :=
  s.run t fun m => m.plaitFrame h (.desc msg)

/-- R235: COMB. -/
def execComb (t : Nat) (h : PlaitHdr) (msg : CombMsg) (s : State) : Host.Outcome State Fault Refusal :=
  s.run t fun m => m.plaitFrame h (.comb msg)

/-- R140: SAMP. -/
def execSamp (t : Nat) (h : PlaitHdr) (group : Fin 64) (tick : BitVec 64) (smp : StreamSample) (s : State) :
    Host.Outcome State Fault Refusal :=
  s.run t fun m => m.plaitFrame h (.samp group tick.toNat smp)

/-- R237: TDIG. -/
def execTdig (t : Nat) (h : PlaitHdr) (group : Fin 64) (tick : BitVec 64) (digest : BitVec 64) (s : State) :
    Host.Outcome State Fault Refusal :=
  s.run t fun m => m.plaitFrame h (.tdig group tick.toNat digest)

/-- R237: RDIG. -/
def execRdig (t : Nat) (h : PlaitHdr) (slot : Fin 4096) (tick : BitVec 64) (digest : BitVec 64) (s : State) :
    Host.Outcome State Fault Refusal :=
  s.run t fun m => m.plaitFrame h (.rdig slot tick.toNat digest)

/-- R214: FDIG. -/
def execFdig (t : Nat) (h : PlaitHdr) (block : Fin 1024) (stNum sqNum : Word) (pairSeq : BitVec 16) (digest : BitVec 64)
    (s : State) : Host.Outcome State Fault Refusal :=
  s.run t fun m => m.plaitFrame h (.fdig block stNum.toNat sqNum.toNat pairSeq.toNat digest)

/-- R254: SWAP. -/
def execSwap (t : Nat) (h : PlaitHdr) (tick : BitVec 64) (s : State) : Host.Outcome State Fault Refusal :=
  s.run t fun m => m.plaitFrame h (.swap tick.toNat)

/-- R254: SWAP_TICK. -/
def execSwapTick (t : Nat) (s : State) : Host.Outcome State Fault Refusal := s.run t fun m => m.swapNow

/-- R242: FREC. -/
def execFrec (t : Nat) (h : PlaitHdr) (msg : FrecMsg) (s : State) : Host.Outcome State Fault Refusal :=
  s.run t fun m => m.plaitFrame h (.frec msg)

/-- R242: CUT. -/
def execCut (t : Nat) (h : PlaitHdr) (msg : CutMsg) (s : State) : Host.Outcome State Fault Refusal :=
  s.run t fun m => m.plaitFrame h (.cut msg)

/-- R244: CEND. -/
def execCend (t : Nat) (h : PlaitHdr) (msg : CendMsg) (s : State) : Host.Outcome State Fault Refusal :=
  s.run t fun m => m.plaitFrame h (.cend msg)

/-- R244: CACK. -/
def execCack (t : Nat) (h : PlaitHdr) (ok : Bool) (s : State) : Host.Outcome State Fault Refusal :=
  s.run t fun m => m.plaitFrame h (.cack ok)

/-- R245: COPY_SETTLE_TIMEOUT. -/
def execCopySettleTimeout (t : Nat) (s : State) : Host.Outcome State Fault Refusal :=
  s.run t fun m => m.onExpiry .copySettle fun m => m.failCopy

/-- R245: COPY_RETRY_EXPIRY. -/
def execCopyRetryExpiry (t : Nat) (s : State) : Host.Outcome State Fault Refusal :=
  s.run t fun m => m.onExpiry .copyRetry fun m => m.offerCopy

/-- R245: COPY_CLASS_INTERRUPTION. -/
def execCopyClassInterruption (t : Nat) (s : State) : Host.Outcome State Fault Refusal :=
  s.run t fun m => if plaitUp m then m.failCopy else m

/-- R248: WITNESS_INTERVAL. -/
def execWitnessInterval (t : Nat) (s : State) : Host.Outcome State Fault Refusal :=
  s.run t fun m => m.onExpiry .witnessTx fun m =>
    if m.on TWN_CFG_en ∧ twnState m ≠ 8 then (m.arm .witnessTx (m.now + 1000000)).sendWitness else m

/-- R249: WITNESS_FRAME_RX. -/
def execWitnessFrameRx (t : Nat) (_port : Fin 16) (fr : Frame) (s : State) : Host.Outcome State Fault Refusal :=
  s.run t fun m => m.witnessRx fr

/-- The end of TWN_WIT.timeout since the loss was declared, without evidence (R250). -/
def Mach.decideOut (m : Mach) : Mach :=
  match twnState m with
  | 3 => if plaitUp m then m else m.leadLost
  | 5 => m.toLead
  | _ => m

/-- The end of TWN_WIT.timeout since the last valid witness frame (R226). -/
def Mach.witnessQuiet (m : Mach) : Mach :=
  let m := m.setFlag TWN_STS_partner_seen 0 false
  if twnState m = 6 then m.toLead else m

/-- R250: WITNESS_TIMEOUT: of the time since the loss, and of the time since the last valid frame. -/
def execWitnessTimeout (t : Nat) (s : State) : Host.Outcome State Fault Refusal :=
  s.run t fun m => ((m.onExpiry .witnessDelay fun m => m.decideOut).onExpiry .witnessRx fun m => m.witnessQuiet).twinEval

/-- R226: SEARCH_EXPIRY. -/
def execSearchExpiry (t : Nat) (s : State) : Host.Outcome State Fault Refusal :=
  s.run t fun m => m.onExpiry .search fun m => if twnState m = 1 then m.toLead else m

/-- R254: REVERT_HOLD_EXPIRY. -/
def execRevertHoldExpiry (t : Nat) (s : State) : Host.Outcome State Fault Refusal :=
  s.run t fun m => m.onExpiry .revertHold fun m => m.startSwap

/-- R123: TICK_NOMINAL_TIME: the tick number follows the grid (R123); the twin is evaluated (R227), and a committed copy makes it
Follower (R244). -/
def execTickNominalTime (t : Nat) (s : State) : Host.Outcome State Fault Refusal :=
  s.run t fun m => ((m.timeDue).each (List.range 16) fun e m => m.settleStamps e).commitTick.twinEval.swapNow

end Sys2Proof.Machine
end

