-- ==== Sys2Proof/Machine/Stage.lean ====
section
/-! DEFINITION. Held values and values in force (R43): a page's held values taken into force, or returned to those in force,
and the settings a staged set would bring. -/

namespace Sys2Proof.Machine

/-- The bits of a register word that are RWL fields. -/
def rwlMask (page off : Nat) : Nat :=
  match findReg page off with
  | some d => d.flds.foldl (fun a f => if f.acc == .rwl then setBits a f.hi f.lo (2 ^ 32 - 1) else a) 0
  | none => 0

/-- The offset of a key within its page. -/
def keyOff (k : Nat) : Nat := k % 4096

/-- The instance of a key. -/
def keyIdx (k : Nat) : Nat := k / (256 * 4096)

/-- What a held word brings into force: its RWL bits; none when they are at their reset values. -/
def forceEntry (e : Nat × Word) : Option (Nat × Word) :=
  let page := keyPage e.1
  let mask := word (rwlMask page (keyOff e.1))
  if (e.2 &&& mask) = (resetWord page (keyOff e.1) (keyIdx e.1) &&& mask) then none else some (e.1, e.2 &&& mask)

/-- The RWL words of a page as held, as they would stand in force. -/
def heldPage (regs : KMap Word) (page : Nat) : KMap Word := (regs.filter fun e => keyPage e.1 == page).filterMap forceEntry

/-- Values in force with those of a page replaced by the held ones. -/
def takeForce (regs force : KMap Word) (page : Nat) : KMap Word :=
  (heldPage regs page).foldl (fun l e => kput e.1 e.2 l) (force.filter fun e => keyPage e.1 != page)

/-- A byte memory with the cells from `lo` to below `hi` taken from another. -/
def splice (lo hi : Nat) (src dst : List Host.Cell) : List Host.Cell :=
  dst.filter (fun c => decide (c.1 < lo)) ++ src.filter (fun c => decide (lo ≤ c.1 ∧ c.1 < hi))
    ++ dst.filter (fun c => decide (hi ≤ c.1))

/-- Bulk contents with those of a page's objects taken from others. -/
def takeBulk (src dst : List Host.Cell) (page : Nat) : List Host.Cell :=
  splice (bulkKey page 0 0) (bulkKey (page + 1) 0 0) src dst

/-- A page's held values come into force. -/
def Mach.takePage (m : Mach) (page : Nat) : Mach :=
  { m with force := takeForce m.regs m.force page, bulkF := takeBulk m.bulk m.bulkF page }

/-- The held value of a word with its RWL bits as in force. -/
def revertWord (force : KMap Word) (k : Nat) (w : Word) : Word :=
  let mask := word (rwlMask (keyPage k) (keyOff k))
  let f := (kget k force).getD (resetWord (keyPage k) (keyOff k) (keyIdx k))
  (w &&& ~~~ mask) ||| (f &&& mask)

/-- A page's held values return to those in force (R42). -/
def Mach.revertPage (m : Mach) (page : Nat) : Mach :=
  let keys := ((m.regs ++ m.force).filter fun e => keyPage e.1 == page).map (·.1)
  let m := m.each keys fun k m =>
    { m with regs := kput k (revertWord m.force k (m.reg (keyPage k) (keyOff k) (keyIdx k))) m.regs }
  { m with bulk := takeBulk m.bulkF m.bulk page }

/-- The pages with a staged set. -/
def stagedPages (m : Mach) : List Nat := allPages.filter fun p => m.flag (hStaged p)

/-- The held settings of every page. -/
def heldGen (m : Mach) : Gen := { first := 0, force := m.regs, bulk := m.bulk }

/-- The settings that would be in force with some pages' held values taken. -/
def candidate (m : Mach) (pages : List Nat) : Gen :=
  pages.foldl (fun g p => { g with force := takeForce m.regs g.force p, bulk := takeBulk m.bulk g.bulk p }) (genNow m)

/-- An address in a LO and HI register pair of some settings. -/
def Gen.mac (g : Gen) (lo hi : Fd) (i : Nat) : Mac := BitVec.ofNat 48 (g.cfg hi i * 2 ^ 32 + g.cfg lo i)

/-- A 64-bit value in a LO and HI register pair of some settings. -/
def Gen.pair64 (g : Gen) (lo hi : Fd) (i : Nat) : Nat := g.cfg hi i * 2 ^ 32 + g.cfg lo i

end Sys2Proof.Machine
end

