-- ==== Sys2Proof/Machine/Check.lean ====
section
/-! DEFINITION. The consistency check of each page at its commit (R41): what the page's chapter asks of its held values. Where a
check looks at another page, it takes the held values of an admitted page for an admitted one, and the values in force for
one that takes effect at once (log 27). -/

namespace Sys2Proof.Machine

/-! ### Time and pace -/

/-- PACE (R89). -/
def checkPace (g : Gen) : Bool :=
  let shed := g.cfg PACE_SHED_level
  let warn := g.cfg PACE_WARN_level
  decide (1024 ≤ shed) && decide (shed < warn) && decide (shed + g.cfg PACE_SHED_hys ≤ warn) && decide (g.cfg PACE_GLITCH_level ≤ 1024)

/-- TIME (R116). -/
def checkTime (g : Gen) : Bool :=
  let pri := g.cfg TIME_CTRL_src_pri
  let sec := g.cfg TIME_CTRL_src_sec
  (sec == 0 || sec != pri) && (!(pri == 3 || sec == 3) || g.on TIME_IRIG_en)
    && decide (g.cfg TIME_LOCK_thr < g.cfg TIME_STEP_thr * 1000) && decide (g.cfg TIME_HOLD_entry < g.cfg TIME_HOLD_limit * 1000)

/-- PTP: two enabled domains differ in their domainNumber. -/
def checkPtpPage (g : Gen) : Bool :=
  !(g.on PTP_DOM_en && g.on (PTP_DOM_en.nth 1) && g.cfg PTP_DOM_domain == g.cfg (PTP_DOM_domain.nth 1))

/-! ### SVI and MSR -/

/-- The ASDUs of a frame of a subscription. -/
def asdusOf (g : Gen) (i : Nat) : Nat := g.cfg SVI_SUB_CTRL_n_asdu i + 1

/-- One subscription of SVI (R118, R133, R135, R149). -/
def checkSub (g : Gen) (subs : List Nat) (i : Nat) : Bool :=
  let rs := rateHz (g.cfg SVI_SUB_CTRL_rate i)
  let w := g.cfg SVI_WINDOW_window
  let key := fun j => (g.mac SVI_SUB_DMAC_LO_lo SVI_SUB_DMAC_HI_hi j, g.cfg SVI_SUB_APPID_appid j)
  let len := (memGet (bulkKey 0x0A 0 (64 * i)) g.bulk).toNat
  subs.all (fun j => j == i || key j != key i)
    && g.on SVI_GRP_CFG_en (g.cfg SVI_SUB_CTRL_group i)
    && decide (w * rs + asdusOf g i * 1000000 < g.cfg SVI_SUB_TMO_timeout i * rs)
    && (!resampled g i || (groupClass g (g.cfg SVI_SUB_CTRL_group i) == 0 && decide ((4 + asdusOf g i) * 1000000 < w * rs)))
    && isGroup (g.mac SVI_SUB_DMAC_LO_lo SVI_SUB_DMAC_HI_hi i)
    && decide (1 ≤ len) && decide (len ≤ 63)

/-- SVI (R149). -/
def checkSvi (g : Gen) : Bool :=
  let subs := enabledIn g.force SVI_SUB_CTRL_en
  subs.all (checkSub g subs)

/-- Is an MSR channel enabled? -/
def chOn (g : Gen) (ch : Nat) : Bool := g.on MSR_CH_CFG_en ch

/-- One channel of MSR (R172). -/
def checkChannel (g : Gen) (ch : Nat) : Bool :=
  let sub := g.cfg MSR_CH_CFG_sub ch
  let n := g.cfg MSR_CH_CFG_ch ch
  g.on SVI_SUB_CTRL_en sub && decide (n ≤ g.cfg SVI_SUB_CTRL_n_ch sub)
    && (bit (g.cfg SVI_SUB_CHTYPE_v sub) n == (g.cfg MSR_CH_CFG_kind ch == 1))
    && (!g.on MSR_CH_CORR_tc_en ch || bits (g.bulkWord 0x0B 0 (144 * g.cfg MSR_CH_CORR_table ch)) 15 0 != 0)

/-- Is a group an enabled voltage group? -/
def voltageGroup (g : Gen) (grp : Nat) : Bool := g.on MSR_GRP_CFG_en grp && g.cfg MSR_GRP_CFG_kind grp == 1

/-- The alignment group of a measurand group. -/
def grpAlign (g : Gen) (grp : Nat) : Nat := chGroup g (g.cfg MSR_GRP_CH_AB_a grp)

/-- One group of MSR (R172). -/
def checkGroup (g : Gen) (grp : Nat) : Bool :=
  let chs := grpChans g grp
  chs.all (fun ch => chOn g ch && g.cfg MSR_CH_CFG_kind ch == g.cfg MSR_GRP_CFG_kind grp && chGroup g ch == grpAlign g grp
    && g.cfg MSR_CH_CFG_tracker ch == grpTracker g grp)
    && (!g.on MSR_GRP_CFG_link_en grp
      || (voltageGroup g (g.cfg MSR_GRP_CFG_link grp) && grpAlign g (g.cfg MSR_GRP_CFG_link grp) == grpAlign g grp))

/-- Is a group an enabled linked current group? -/
def linkedCurrent (g : Gen) (grp : Nat) : Bool :=
  g.on MSR_GRP_CFG_en grp && g.cfg MSR_GRP_CFG_kind grp == 0 && g.on MSR_GRP_CFG_link_en grp

/-- One item of a selection (R165, R167). -/
def checkItem (g : Gen) (align sel : Nat) : Bool :=
  let code := bits sel 7 0
  let i := bits sel 29 16
  if bit sel 31 then
    g.on MSR_GRP_CFG_en i && grpAlign g i == align
      && ([0x10, 0x11, 0x12, 0x13, 0x14].contains code || ([0x15, 0x16, 0x17, 0x18].contains code && linkedCurrent g i))
  else
    chOn g i && chGroup g i == align && (code == 0 || (decide (code ≤ 6) && g.cfg MSR_CH_CFG_kind i != 2))

/-- The items of a slot's selection. -/
def selItems (g : Gen) (s : Nat) : List Nat :=
  (List.range (bits (g.bulkWord 0x0B 1 (256 * s)) 5 0)).map fun i => g.bulkWord 0x0B 1 (256 * s + 4 + 4 * i)

/-- MSR (R172). -/
def checkMsr (g : Gen) : Bool :=
  (enabledIn g.force MSR_CH_CFG_en).all (checkChannel g)
    && (enabledIn g.force MSR_GRP_CFG_en).all (checkGroup g)
    && ((enabledIn g.force MSR_TRK_CFG_en).all fun t => voltageGroup g (g.cfg MSR_TRK_CFG_primary t)
      && (!g.on MSR_TRK_CFG_backup_en t || voltageGroup g (g.cfg MSR_TRK_CFG_backup t)))
    && ((enabledIn g.force MSR_TS_CFG_en).all fun t => !g.on MSR_TS_CFG_live t
      || (chOn g (g.cfg MSR_TS_CFG_ch t) && g.cfg MSR_CH_CFG_kind (g.cfg MSR_TS_CFG_ch t) == 2))
    && ((selections g).all fun s => (selItems g s).all (checkItem g (bits (g.bulkWord 0x0B 1 (256 * s)) 21 16)))

/-! ### DSP and PUB -/

/-- The alignment group a slot's selection names, when it has en = 1. -/
def selGroup (g : Gen) (s : Nat) : Option Nat :=
  let w := g.bulkWord 0x0B 1 (256 * s)
  if bit w 31 then some (bits w 21 16) else none

/-- DSP (R199). -/
def checkDsp (g : Gen) : Bool :=
  (enabledIn g.force DSP_SLOT_CFG_en).all fun s =>
    decide (g.cfg DSP_SLOT_PHASE_phase s < g.cfg DSP_SLOT_CFG_period s) && g.on SVI_GRP_CFG_en (g.cfg DSP_SLOT_CFG_group s)
      && match selGroup g s with
        | some a => a == g.cfg DSP_SLOT_CFG_group s
        | none => true

/-- Is a string field 1–63 bytes long? -/
def stringOk (g : Gen) (obj pos : Nat) : Bool := decide (1 ≤ stringLen g.bulk obj pos) && decide (stringLen g.bulk obj pos ≤ 63)

/-- One control block (R200, R201, R220). An SV block has its svID only. -/
def checkGcb (g : Gen) (b : Nat) : Bool :=
  let sv := g.on PUB_GCB_CTRL_type b
  let appid := g.cfg PUB_GCB_APPID_appid b
  let src := g.cfg PUB_GCB_CTRL_source b
  let es := membersOf g.bulk b
  let chs := es.map fun e => e.index
  isGroup (g.mac PUB_GCB_DMAC_LO_lo PUB_GCB_DMAC_HI_hi b)
    && (if sv then
        decide (0x4000 ≤ appid) && decide (appid ≤ 0x7FFF) && stringOk g 0 (192 * b)
          && decide (1 ≤ es.length) && decide (es.length ≤ 16)
          && chs.all (fun c => chOn g c && chGroup g c == src % 64)
      else
        decide (appid ≤ 0x3FFF) && stringOk g 0 (192 * b) && stringOk g 0 (192 * b + 64) && stringOk g 0 (192 * b + 128)
          && decide (1 ≤ es.length) && es.all (fun e => decide (e.kind ≤ 2) && decide (e.type_ ≤ 4))
          && g.cfg PUB_GCB_CTRL_owner b == src / 64
          && (!(es.any (fun e => e.trip) && g.on DSP_SLOT_CFG_en src && g.cfg DSP_SLOT_CFG_class src == 0)
            || g.on PUB_GCB_CTRL_deadline b))

/-- PUB. A subscription's member types are 1–63 bytes as its strings are (R200). -/
def checkPub (g : Gen) : Bool :=
  (enabledIn g.force PUB_GCB_CTRL_en).all (checkGcb g)
    && (enabledIn g.force PUB_SUB_CTRL_en).all fun i =>
      isGroup (g.mac PUB_SUB_DMAC_LO_lo PUB_SUB_DMAC_HI_hi i) && decide (g.cfg PUB_SUB_APPID_appid i ≤ 0x3FFF)
        && stringOk g 2 (256 * i) && stringOk g 2 (256 * i + 64) && stringOk g 2 (256 * i + 128) && stringOk g 2 (256 * i + 192)

/-! ### Twin and Plait -/

/-- The relation of R233: the supervision timeout is at least 4 × the replay budget. -/
def plaitRelation (g : Gen) : Bool := decide (4 * (g.cfg PLT_REPLAY_interval * g.cfg PLT_REPLAY_attempts) ≤ g.cfg PLT_SUP_timeout)

/-- TWN, with en = 1. -/
def checkTwn (m : Mach) (g : Gen) : Bool :=
  let smac := g.mac TWN_WIT_SMAC_LO_lo TWN_WIT_SMAC_HI_hi 0
  !g.on TWN_CFG_en
    || (g.cfg TWN_WIT_PORTS_ports != 0 && isGroup (g.mac TWN_WIT_DMAC_LO_lo TWN_WIT_DMAC_HI_hi 0) && !isGroup smac
      && smac != g.mac PUB_TWIN_MAC_LO_lo PUB_TWIN_MAC_HI_hi 0
      && (List.range 4096).all fun s => g.cfg TWN_SLOT_AREA_size s == 0
        || covered m (s / 64) (g.cfg TWN_SLOT_AREA_page s * 4096) (g.cfg TWN_SLOT_AREA_size s * 4096))

/-! ### Partitions -/

/-- VRT (R266, R289). -/
def checkVrt (g : Gen) : Bool :=
  let ps := enabledIn g.force VRT_PART_CFG_en
  ps.all (fun p => decide (g.cfg VRT_PART_CFG_vid p ≤ 4094)
      && ps.all fun q => q == p || g.cfg VRT_PART_CFG_pos q != g.cfg VRT_PART_CFG_pos p)
    && (!g.on VRT_MIG_en || g.on VRT_PART_CFG_en (g.cfg VRT_MIG_part))
    && (!g.on VRT_MGR_RING_en || g.cfg VRT_MGR_RING_LO_lo % 4096 == 0)

/-- Do two ranges overlap? -/
def rangesMeet (a an b bn : Nat) : Bool := decide (a < b + bn) && decide (b < a + an)

/-- The regions of some settings: partition, guest-physical and host-physical base and size in 2 MiB units. -/
def regionList (g : Gen) : List (Nat × Nat × Nat × Nat) :=
  (enabledIn g.force XFR_RGN_GPA_en).map fun i =>
    (i % 64, g.cfg XFR_RGN_GPA_gpa i, g.cfg XFR_RGN_HPA_hpa i, g.cfg XFR_RGN_SIZE_size i)

/-- Every pair of different entries of a list satisfies a relation. -/
def allPairs {α : Type} (r : α → α → Bool) : List α → Bool
  | [] => true
  | a :: l => l.all (r a) && allPairs r l

/-- XFR (R290). -/
def checkXfr (m : Mach) (g : Gen) : Bool :=
  let rs := regionList g
  allPairs (fun a b => !(a.1 == b.1 && rangesMeet a.2.1 a.2.2.2 b.2.1 b.2.2.2)) rs
    && allPairs (fun a b => !rangesMeet a.2.2.1 a.2.2.2 b.2.2.1 b.2.2.2) rs
    && rs.all (fun r => decide (r.2.2.1 + r.2.2.2 ≤ 16384))
    && (List.range 256).all fun i =>
      let same := g.on XFR_RGN_GPA_en i == m.on XFR_RGN_GPA_en i && g.cfg XFR_RGN_GPA_gpa i == m.cfg XFR_RGN_GPA_gpa i
        && g.cfg XFR_RGN_SIZE_size i == m.cfg XFR_RGN_SIZE_size i
      let st := m.partState (i % 64)
      (same && g.cfg XFR_RGN_HPA_hpa i == m.cfg XFR_RGN_HPA_hpa i) || st == 0 || st == psStopped || (st == psFrozen && same)

/-- DRT: alignment of ring and bitmap, and the ring size. -/
def checkDrt (g : Gen) : Bool :=
  (enabledIn g.force DRT_CTRL_en).all fun p =>
    g.cfg DRT_RING_LO_lo p % 4096 == 0 && g.cfg DRT_BMP_LO_lo p % 4096 == 0 && g.cfg DRT_CTRL_size p % 16 == 0

/-- IRQ: no enabled vector has identity 0, and every enabled source names an enabled vector. -/
def checkIrq (g : Gen) : Bool :=
  (enabledIn g.force IRQ_VEC_en).all (fun i => g.cfg IRQ_VEC_identity i != 0)
    && (enabledIn g.force IRQ_SRC_en).all fun i => g.on IRQ_VEC_en (g.cfg IRQ_SRC_vector i * 64 + i % 64)

/-! ### Ports and the switch core -/

/-- MAC (R316). -/
def checkMac (g : Gen) (e : Nat) : Bool :=
  let speed := g.cfg (MAC_CTRL_speed.onPort e)
  let fec := g.cfg (MAC_CTRL_fec.onPort e)
  !(speed == 0 && fec != 0) && !(speed == 1 && fec == 2)
    && (!g.on (MAC_CTRL_an.onPort e) || (speed == 0 && !g.on (MAC_CTRL_if1g.onPort e)))
    && !(g.on (MAC_MSEC_en.onPort e) && g.cfg (MAC_RED_mode.onPort (2 * (e / 2))) == 2)
    && !(e % 2 == 0 && g.cfg (MAC_RED_mode.onPort e) == 2 && g.on (MAC_MSEC_en.onPort (e + 1)))
    && !isGroup (g.mac (MAC_ADDR_LO_lo.onPort e) (MAC_ADDR_HI_hi.onPort e) 0)

/-- The indices of the static entries of the forwarding table. -/
def staticEntries (bulk : List Host.Cell) : List Nat :=
  let base := bulkKey 0x11 0 0
  (bulk.filter fun c => decide (base ≤ c.1 ∧ c.1 < base + 16 * 16384 ∧ (c.1 - base) % 16 = 0 ∧ 0xC0 ≤ c.2.toNat)).map
    fun c => (c.1 - base) / 16

/-- FWD (R341). An entry of a deadline class that is not static cannot be written, so the last condition always holds. -/
def checkFwd (g : Gen) : Bool :=
  let es := (staticEntries g.bulk).filterMap fun i => (staticAt g.bulk i).map fun s => (i, s)
  es.all (fun e => bucketOf (e.1 / 4096) e.2.vid e.2.mac == e.1 % 4096 && !bit e.2.mask 16 && !bit e.2.mask 17)
    && allPairs (fun a b => !(a.2.vid == b.2.vid && a.2.mac == b.2.mac)) es
    && !bit (g.cfg FWD_FLOOD_UC_mask) 16 && !bit (g.cfg FWD_FLOOD_UC_mask) 17
    && !bit (g.cfg FWD_FLOOD_MC_mask) 16 && !bit (g.cfg FWD_FLOOD_MC_mask) 17

/-- The reserve of a queue under some settings. -/
def Gen.reserve (g : Gen) (e c : Nat) : Nat :=
  if c % 2 = 0 then g.cfg (QOS_RSV_rsv_lo.nth (c / 2)) e else g.cfg (QOS_RSV_rsv_hi.nth (c / 2)) e

/-- QOS (R320, R342). -/
def checkQos (g : Gen) : Bool :=
  ((List.range 9).any fun n => g.cfg QOS_CLASS_deadline == 256 - 2 ^ n)
    && decide (g.cfg QOS_VNIC_cells
      + ((List.range 24).map fun e => ((List.range 8).map fun c => g.reserve e c).sum).sum ≤ 262144)

/-! ### Pages that take effect at once -/

/-- The enabled ACQ buffers: base and length in bytes. -/
def acqBuffers (g : Gen) : List (Nat × Nat) :=
  (enabledIn g.force ACQ_UNIT_CFG_en).map fun u => (g.cfg ACQ_UNIT_BUF_base u * 2 ^ 20, (g.cfg ACQ_UNIT_BUF_size u + 1) * 2 ^ 20)

/-- The host-physical ranges of the enabled regions. -/
def regionRanges (g : Gen) : List (Nat × Nat) := (regionList g).map fun r => (r.2.2.1 * 2 ^ 21, r.2.2.2 * 2 ^ 21)

/-- One unit of ACQ (R345, R355): `g` holds the page, `f` the settings in force. -/
def checkUnit355 (g f : Gen) (u : Nat) : Bool :=
  let n := g.cfg ACQ_UNIT_CFG_n_ch u + 1
  let chs := (List.range n).map fun k =>
    if k % 2 = 0 then g.cfg (ACQ_UNIT_CH_ch_even.nth (k / 2)) u else g.cfg (ACQ_UNIT_CH_ch_odd.nth (k / 2)) u
  let len := (g.cfg ACQ_UNIT_BUF_size u + 1) * 2 ^ 20
  chs.all (fun c => chOn f c && chGroup f c == g.cfg ACQ_UNIT_CFG_group u)
    && decide (4096 + (g.cfg ACQ_UNIT_PRE_pre u + 1 + g.cfg ACQ_UNIT_POST_post u) * acqSize n ≤ len)
    && (regionRanges f).all (fun r => !rangesMeet (g.cfg ACQ_UNIT_BUF_base u * 2 ^ 20) len r.1 r.2)
    && (List.range 4).all (fun k =>
      let ty := g.cfg (ACQ_TRG_CFG_type.nth k) u
      let idx := g.cfg (ACQ_TRG_CFG_idx.nth k) u
      !(ty == 1 || ty == 2)
        || (decide (idx < n) && !((ty == 2 || g.on (ACQ_TRG_CFG_rms.nth k) u) && f.cfg MSR_CH_CFG_kind (nthD chs idx 0) == 2)))
    && (!g.on ACQ_UNIT_CFG_auto u || g.on ACQ_UNIT_CFG_export u)

/-- ACQ (R355). -/
def checkAcq (g f : Gen) : Bool :=
  (enabledIn g.force ACQ_UNIT_CFG_en).all (checkUnit355 g f)
    && allPairs (fun a b => !rangesMeet a.1 a.2 b.1 b.2) (acqBuffers g)

/-- NRG (R366). -/
def checkNrg (g f : Gen) : Bool := (enabledIn g.force NRG_PT_CFG_en).all fun p => linkedCurrent f (g.cfg NRG_PT_CFG_group p)

/-- COIL: with en at 1, the coil is aligned, within 32 GiB, and clear of regions and buffers. -/
def checkCoil (g f : Gen) : Bool :=
  let base := g.pair64 COIL_BASE_LO_lo COIL_BASE_HI_hi 0
  let len := g.cfg COIL_CFG_size * 4096 * 64
  !g.on COIL_CFG_en
    || (base % 4096 == 0 && decide (base + len ≤ 2 ^ 35)
      && (regionRanges f ++ acqBuffers f).all fun r => !rangesMeet base len r.1 r.2)

/-- The relation of R58. -/
def retryRelation (g : Gen) : Bool := decide (4 * (g.cfg CMD_RETX_interval * g.cfg CMD_RETX_attempts) ≤ g.cfg CMD_TIMEOUT_timeout)

/-! ### The check of a commit -/

/-- The reason a commit of a page is refused with, if any: 0x0C before 0x09 (R440). -/
def commitRefusal (m : Mach) (page : Nat) : Option Nat :=
  let g := heldGen m
  let f := genNow m
  let ok := fun b : Bool => if b then none else some 0x09
  match page with
  | 0x02 => ok (checkPace g)
  | 0x05 => ok (checkTime g)
  | 0x06 => ok (checkPtpPage g)
  | 0x07 => ok (checkCoil g f)
  | 0x09 => ok (checkDsp g)
  | 0x0A => ok (checkSvi g)
  | 0x0B => ok (checkMsr g)
  | 0x0C => ok (checkPub g)
  | 0x0D => ok (checkAcq g f)
  | 0x0E => ok (checkNrg g f)
  | 0x11 => ok (checkFwd g)
  | 0x12 => ok (checkQos g)
  | 0x30 => if plaitRelation g then ok (g.cfg PLT_CTRL_lane_en != 0) else some 0x0C
  | 0x31 => ok (checkTwn m g)
  | 0x32 => ok (checkVrt g)
  | 0x33 => ok (checkXfr m g)
  | 0x34 => ok (checkDrt g)
  | 0x35 => ok (checkIrq g)
  | 0x36 => if retryRelation g then none else some 0x0C
  | p => if 0x20 ≤ p ∧ p ≤ 0x2F then ok (checkMac g (p - 0x20)) else none

end Sys2Proof.Machine
end

