-- ==== Sys2Proof/Machine/Admission.lean ====
section
/-! DEFINITION. Admission (R173–R187): the fifteen checks of R180 over a candidate set, and the figures ADM reports. Times are
exact: a time in units of 0.1 µs times r_t is a whole number, and shares and utilisations are fractions. -/

namespace Sys2Proof.Machine

/-! ### Results -/

/-- Why a set is refused: code, the value that failed, the limit, ADM_REF_WHERE.detail and the failing slot (R180, R187). -/
structure AdmFail where
  code   : Nat
  value  : Nat := 0
  limit  : Nat := 0
  detail : Nat := 0
  slot   : Option Nat := none
  deriving DecidableEq, Repr

/-- A refusal when a condition does not hold. -/
def need (ok : Bool) (f : AdmFail) : Option AdmFail := if ok then none else some f

/-! ### Fractions -/

/-- The sum of two fractions, reduced. -/
def addFrac (a b : Nat × Nat) : Nat × Nat :=
  let n := a.1 * b.2 + b.1 * a.2
  let d := a.2 * b.2
  (n / Nat.gcd n d, d / Nat.gcd n d)

/-- The sum of a list of fractions. -/
def sumFrac (l : List (Nat × Nat)) : Nat × Nat := l.foldl addFrac (0, 1)

/-- A fraction in ‰, rounded up. -/
def perMille (f : Nat × Nat) : Nat := ceilDiv (1000 * f.1) f.2

/-- Is a fraction above a number of ‰? -/
def aboveMille (f : Nat × Nat) (u : Nat) : Bool := decide (u * f.2 < 1000 * f.1)

/-! ### The declared set -/

/-- The enabled slots of a set, ascending. -/
def Gen.slots (g : Gen) : List Nat := ((enabledIn g.force DSP_SLOT_CFG_en).filter (· < 4096)).mergeSort

/-- The share division of a set (R175). -/
def Gen.division (g : Gen) : Nat := 8 * 2 ^ g.cfg DSP_SHARE_div

/-- B in µs. -/
def Gen.window (g : Gen) : Nat := g.cfg DSP_CFG_mgr_win

/-- T of a slot in 0.1 µs times r_t. -/
def Gen.period (g : Gen) (s : Nat) : Nat := g.cfg DSP_SLOT_CFG_period s * 10000000

/-- T of a slot in 0.1 µs, rounded down, as a refusal shows it (log 28). -/
def Gen.periodShown (g : Gen) (s : Nat) : Nat := g.period s / g.rate

/-- C′ of a slot in 0.1 µs: C + 1.5 µs (R181). -/
def Gen.cost (g : Gen) (s : Nat) : Nat := g.cfg DSP_SLOT_C_c s + 15

/-- D of a slot in µs. -/
def Gen.due (g : Gen) (s : Nat) : Nat := g.cfg DSP_SLOT_D_d s

/-- Is a slot of fast class? -/
def Gen.fast (g : Gen) (s : Nat) : Bool := g.cfg DSP_SLOT_CFG_class s == 0

/-- The core of a slot (R175). -/
def Gen.core (g : Gen) (s : Nat) : Nat :=
  g.cfg VRT_PART_CFG_pos (s / 64) * (64 / g.division) + g.cfg DSP_SLOT_CFG_core s

/-- C′ / T_µs of a slot. -/
def Gen.demand (g : Gen) (s : Nat) : Nat × Nat := (g.cost s * g.rate, max 1 (g.period s))

/-- The utilisation of a core with its slots (R182). -/
def coreUse (g : Gen) (on : List Nat) : Nat × Nat := addFrac (g.window, 1000) (sumFrac (on.map g.demand))

/-- The owned cores of a set: those of its active partitions (R175). -/
def ownedCores (g : Gen) : List Nat :=
  (List.range 64).filter fun k => (enabledIn g.force VRT_PART_CFG_en).any fun p => g.cfg VRT_PART_CFG_pos p == k / (64 / g.division)

/-! ### Checks 1 to 3: the declarations and the shares -/

/-- Check 1: period and deadline (R174). -/
def checkPeriod (g : Gen) (s : Nat) : Option AdmFail :=
  let t := g.cfg DSP_SLOT_CFG_period s
  let d := g.due s
  let fail := fun v l => ({ code := 0x0B, value := v, limit := l, slot := some s } : AdmFail)
  (need (!g.fast s || decide (t ≤ 16)) (fail (g.periodShown s) (160000000 / g.rate))).or <|
  (need (decide (50 ≤ d)) (fail (10 * d) 500)).or <|
  (need (decide (10 * d * g.rate ≤ 4 * g.period s)) (fail (10 * d) (4 * g.period s / g.rate))).or
    (need (decide (d ≤ 16000000)) (fail (10 * d) 160000000))

/-- Check 2: execution time (R174). -/
def checkCost (g : Gen) (s : Nat) : Option AdmFail :=
  let c := g.cfg DSP_SLOT_C_c s
  need (decide (0 < c) && decide (c ≤ 10 * g.due s)) { code := 0x0A, value := c, limit := 10 * g.due s, slot := some s }

/-- The slots of a partition. -/
def slotsIn (g : Gen) (p : Nat) : List Nat := g.slots.filter fun s => s / 64 == p

/-- What a partition may use of its cores, in ‰ of a core (R181). -/
def shareLimit (m : Mach) (g : Gen) : Nat := 64 / g.division * (m.cfg ADM_POLICY_ubound - g.window)

/-- Check 3 (R181): positions, core indices, demand, control blocks and subscriptions. A partition that is not enabled has no
position. -/
def checkShares (m : Mach) (g : Gen) : Option AdmFail :=
  let ds := g.division
  let active := fun p => g.on VRT_PART_CFG_en p
  let parts := (List.range 64).filter fun p => active p || !(slotsIn g p).isEmpty
  let pos := fun p => if active p then g.cfg VRT_PART_CFG_pos p else 64
  let blocks := fun p => countIf (fun b => g.cfg PUB_GCB_CTRL_owner b == p) (enabledIn g.force PUB_GCB_CTRL_en)
  let subs := fun p => countIf (fun i => g.cfg PUB_SUB_CTRL_part i == p) (enabledIn g.force PUB_SUB_CTRL_en)
  let all := List.range 64
  (parts.findSome? fun p => need (decide (pos p < ds)) { code := 0x08, value := pos p, limit := ds, detail := p }).or <|
  (g.slots.findSome? fun s =>
    let k := g.cfg DSP_SLOT_CFG_core s
    need (decide (k < 64 / ds)) { code := 0x08, value := k, limit := 64 / ds, detail := s / 64, slot := some s }).or <|
  (all.findSome? fun p =>
    let d := sumFrac ((slotsIn g p).map g.demand)
    need (!aboveMille d (shareLimit m g)) { code := 0x08, value := perMille d, limit := shareLimit m g, detail := p }).or <|
  (all.findSome? fun p => need (decide (blocks p ≤ 1024 / ds)) { code := 0x08, value := blocks p, limit := 1024 / ds, detail := p }).or
    (all.findSome? fun p => need (decide (subs p ≤ 4096 / ds)) { code := 0x08, value := subs p, limit := 4096 / ds, detail := p })

/-! ### Checks 4 and 5: relations of retries, timeouts and the twin -/

/-- The loss budget ADM computes for a selected source, in ms (R104). -/
def admLoss (g : Gen) (src : Nat) : Nat :=
  match src with
  | 1 => g.cfg PTP_DOM_TMO_rt * 1000
  | 2 => g.cfg (PTP_DOM_TMO_rt.nth 1) * 1000
  | 3 => 1500
  | _ => 0

/-- The settings of CMD that a run judges: those in force, or the held ones when an image breaks R58. -/
def cmdGen (m : Mach) : Gen := if (m.adm.run.map (·.cmd)).getD false then heldGen m else genNow m

/-- Check 4: R58, R104 and R233. The values are the two sides in 0.1 µs. -/
def checkRelations (m : Mach) (g : Gen) : Option AdmFail :=
  let rel := fun v l => need (decide (l ≤ v)) ({ code := 0x09, value := v, limit := l } : AdmFail)
  let entry := g.cfg TIME_HOLD_entry * 10000
  (rel ((cmdGen m).cfg CMD_TIMEOUT_timeout * 10000)
    (4 * ((cmdGen m).cfg CMD_RETX_interval * (cmdGen m).cfg CMD_RETX_attempts) * 10000)).or <|
  (rel entry (4 * admLoss g (g.cfg TIME_CTRL_src_pri) * 10000)).or <|
  (rel entry (4 * admLoss g (g.cfg TIME_CTRL_src_sec) * 10000)).or
    (rel (g.cfg PLT_SUP_timeout * 10) (4 * (g.cfg PLT_REPLAY_interval * g.cfg PLT_REPLAY_attempts) * 10))

/-- Check 5: R252, with an enabled twin. -/
def checkTwin (g : Gen) : Option AdmFail :=
  let d := g.cfg TWN_WIT_delay
  let w := g.cfg TWN_WIT_timeout
  let sum := g.cfg PLT_SUP_timeout + d + 1270
  let search := g.cfg TWN_JOIN_search * 100000
  if g.on TWN_CFG_en then
    (need (decide (sum ≤ 5000)) { code := 0x0D, value := 10 * sum, limit := 50000 }).or <|
    (need (decide (1250 + d ≤ w)) { code := 0x0D, value := 10 * w, limit := 10 * (1250 + d) }).or
      (need (decide (2 * w ≤ search)) { code := 0x0D, value := 10 * search, limit := 20 * w })
  else none

/-! ### Checks 6 to 8: ports with deadline traffic, and keys -/

/-- The static entry of a set for a key. -/
def Gen.entry (g : Gen) (vid : Nat) (a : Mac) : Option FwdEntry :=
  (entriesOf vid a).findSome? fun i => (staticAt g.bulk i).filter fun e => e.vid == vid && e.mac == a

/-- The entry of a control block's destination. -/
def gcbEntry (g : Gen) (b : Nat) : Option FwdEntry :=
  g.entry (g.cfg PUB_GCB_TAG_vid b) (g.mac PUB_GCB_DMAC_LO_lo PUB_GCB_DMAC_HI_hi b)

/-- The enabled deadline blocks of a set. -/
def deadlineBlocks (g : Gen) : List Nat :=
  (enabledIn g.force PUB_GCB_CTRL_en).filter fun b => b < 1024 && g.on PUB_GCB_CTRL_deadline b

/-- Does an entry name a port? -/
def namesPort (e : Option FwdEntry) (port : Nat) : Bool :=
  match e with
  | some e => bit e.mask port
  | none => false

/-- Is a class a deadline class in a set? -/
def Gen.deadlineClass (g : Gen) (c : Nat) : Bool := bit (g.cfg QOS_CLASS_deadline) c

/-- The static entries of a deadline class. -/
def deadlineEntries (g : Gen) : List FwdEntry :=
  ((staticEntries g.bulk).filterMap fun i => staticAt g.bulk i).filter fun e =>
    match e.cls with
    | some c => g.deadlineClass c
    | none => false

/-- Does a port carry admitted deadline traffic (R302)? -/
def carries (g : Gen) (e : Nat) : Bool :=
  ((enabledIn g.force SVI_SUB_CTRL_en).any fun i => g.cfg SVI_SUB_CTRL_pair i == e / 2)
    || (deadlineBlocks g).any (fun b => namesPort (gcbEntry g b) e)
    || (g.on TWN_CFG_en && bit (g.cfg TWN_WIT_PORTS_ports) e)
    || (deadlineEntries g).any fun f => bit f.mask e

/-- Checks 6 and 7: no EEE, and no honoured pause, on such a port (R15). -/
def checkPorts (g : Gen) (f : Fd) (code : Nat) : Option AdmFail :=
  (List.range 16).findSome? fun e => need (!(g.on (f.onPort e) && carries g e)) { code := code, detail := e }

/-- Check 8 (R216, R312, and the witness key): keys of the right usage. -/
def checkKeys (m : Mach) (g : Gen) : Option AdmFail :=
  let has := fun slot usage => (m.keyFor slot usage).isSome
  let fail : AdmFail := { code := 0x0F }
  ((enabledIn g.force PUB_GCB_CTRL_en).findSome? fun b => need (!g.on PUB_GCB_CTRL_sign b || has (g.cfg PUB_GCB_KEY_slot b) 2) fail).or <|
  ((enabledIn g.force PUB_SUB_CTRL_en).findSome? fun i => need (!g.on PUB_SUB_CTRL_auth i || has (g.cfg PUB_SUB_CTRL_slot i) 2) fail).or <|
  (need (!g.on TWN_CFG_en || has (g.cfg TWN_WIT_KEY_slot) 4) fail).or
    ((List.range 16).findSome? fun e => need (!g.on (MAC_MSEC_en.onPort e)
      || (has (g.cfg (MAC_MSEC_tx.onPort e)) 3 && has (g.cfg (MAC_MSEC_rx.onPort e)) 3)) fail)

/-! ### Checks 9 to 11: capacities and the egress bound -/

/-- Check 9: SVI capacity and tick burst (R144, R145). -/
def checkIngest (g : Gen) : Option AdmFail :=
  let (a, c) := sviLoad g
  (need (decide (a ≤ 20000000)) { code := 0x03, value := ceilDiv a 1000, limit := 20000 }).or <|
  (need (decide (c ≤ 200000000)) { code := 0x03, value := ceilDiv c 10000, limit := 20000 }).or
    ((List.range 8).findSome? fun k =>
      need (decide (tickBurst g k ≤ 160)) { code := 0x03, value := tickBurst g k, limit := 160, detail := k })

/-- K of R169. -/
def closeTicks (g : Gen) : Nat := ceilDiv ((g.cfg SVI_WINDOW_window + g.cfg SVI_TICK_early_tol) * g.rate) 1000000 + 1

/-- t_set in 0.1 ns (R168, R169). -/
def tSet (g : Gen) : Nat :=
  let groups := enabledIn g.force MSR_GRP_CFG_en
  let sels := selections g
  40000 + closeTicks g * (30 * (enabledIn g.force MSR_CH_CFG_en).length + 300 * (enabledIn g.force MSR_TRK_CFG_en).length
    + 60 * groups.length + 150 * countIf (linkedCurrent g) groups + 40 * sels.length
    + 5 * (sels.map fun s => (selItems g s).length).sum)

/-- Check 10: MSR capacity, in 10 ns. -/
def checkMeasure (g : Gen) : Option AdmFail :=
  need (decide (tSet g ≤ 550000)) { code := 0x04, value := ceilDiv (tSet g) 100, limit := 5500 }

/-- The bytes of the largest frame of a block of a set (PUB_GCB_SIZE, log 14). -/
def gcbBytes (g : Gen) (b : Nat) : Nat :=
  Config.gcbSize (g.on PUB_GCB_CTRL_type b) (g.on PUB_GCB_CTRL_sign b) (g.on PUB_GCB_CTRL_mac_len b)
    (memRead (bulkKey 0x0C 0 (192 * b)) 192 g.bulk) (memRead (bulkKey 0x0C 1 (256 * b)) 256 g.bulk)

/-- The overhead of a frame on a port (R338). -/
def portOverhead (g : Gen) (e : Nat) : Nat :=
  20 + (if g.cfg (MAC_RED_mode.onPort (2 * (e / 2))) = 0 then 0 else 6) + (if g.on (MAC_MSEC_en.onPort e) then 32 else 0)

/-- The class of a block's frames: its entry's when that has one, else that of its PCP. -/
def gcbClass (g : Gen) (b : Nat) : Nat :=
  let pcp := g.cfg PUB_GCB_TAG_pcp b
  match (gcbEntry g b).bind (·.cls) with
  | some c => c
  | none => bits (g.cfg QOS_PCP_class) (3 * pcp + 2) (3 * pcp)

/-- The frames of a class on a port in one tick burst: sizes in bytes (R338). The forwarded bytes of an entry count as frames of
its class; those of an entry without a class count in every deadline class (log 28). -/
def burstSizes (g : Gen) (e c : Nat) : List Nat :=
  ((deadlineBlocks g).filter fun b => namesPort (gcbEntry g b) e && gcbClass g b == c).map (gcbBytes g)
    ++ (((staticEntries g.bulk).filterMap fun i => staticAt g.bulk i).filter fun f =>
      bit f.mask e && decide (0 < f.burst) && (f.cls.getD c) == c).map (·.burst)

/-- The rate of a port of a set in Gb/s. -/
def Gen.gbps (g : Gen) (e : Nat) : Nat := match g.cfg (MAC_CTRL_speed.onPort e) with | 0 => 1 | 1 => 10 | _ => 25

/-- B(e, c) in ns (R338), rounded up. -/
def egressBound (g : Gen) (e c : Nat) : Nat :=
  let oh := portOverhead g e
  let ahead := (((List.range 8).filter fun k => c ≤ k && g.deadlineClass k).map fun k =>
    ((burstSizes g e k).map fun n => n + oh).sum).sum
  let block := if c = 0 then 0 else 1580
  1000 + ceilDiv ((ahead + block) * 8) (g.gbps e) + (if g.on (MAC_MSEC_en.onPort e) then 100 else 0)

/-- The deadline classes of a set. -/
def deadlineClasses (g : Gen) : List Nat := (List.range 8).filter g.deadlineClass

/-- t_pub in 0.1 ns (R220). -/
def buildTime (g : Gen) : Nat := 20000 + ((deadlineBlocks g).map fun b => 2000 + 5 * gcbBytes g b).sum

/-- One port of check 11: bounds and reserves of its deadline classes (R338, R339). -/
def checkEgress (g : Gen) (e : Nat) : Option AdmFail :=
  if !carries g e then none else
    (deadlineClasses g).findSome? fun c =>
      let cells := ((burstSizes g e c).map cellsOf).sum
      (need (decide (egressBound g e c ≤ 23000)) { code := 0x05, value := ceilDiv (egressBound g e c) 100, limit := 230, detail := e }).or
        (need (decide (cells ≤ g.reserve e c)) { code := 0x05, value := cells, limit := g.reserve e c, detail := e })

/-- Does a port belong to a redundancy pair other than a block's home pair? -/
def offHome (g : Gen) (b e : Nat) : Bool :=
  e / 2 != g.cfg PUB_GCB_CTRL_pair b && g.cfg (MAC_RED_mode.onPort (2 * (e / 2))) != 0

/-- Check 11 (R338, R339, R212). -/
def checkBound (g : Gen) : Option AdmFail :=
  ((List.range 16).findSome? (checkEgress g)).or <|
  ((List.range 16).findSome? fun e => need (!(enabledIn g.force PUB_GCB_CTRL_en).any fun b =>
    namesPort (gcbEntry g b) e && offHome g b e) { code := 0x05, detail := e }).or
    (need (decide (buildTime g ≤ 350000)) { code := 0x05, value := ceilDiv (buildTime g) 1000, limit := 350 })

/-- The largest bound of a port, in 10 ns (QOS_BOUND). -/
def largestBound (g : Gen) (e : Nat) : Nat :=
  if carries g e then ceilDiv (((deadlineClasses g).map (egressBound g e)).foldl max 0) 10 else 0

/-! ### Checks 12 and 13: utilisation and priming -/

/-- The slots on a core. -/
def slotsOn (g : Gen) (k : Nat) : List Nat := g.slots.filter fun s => g.core s == k

/-- Check 12 (R182). -/
def checkUse (m : Mach) (g : Gen) : Option AdmFail :=
  (ownedCores g).findSome? fun k =>
    let u := coreUse g (slotsOn g k)
    need (!aboveMille u (m.cfg ADM_POLICY_ubound)) { code := 0x01, value := perMille u, limit := m.cfg ADM_POLICY_ubound, detail := k }

/-- The priming limit of a slot's class, in ms. -/
def primeLimit (m : Mach) (g : Gen) (s : Nat) : Nat :=
  match g.cfg DSP_SLOT_CFG_class s with
  | 0 => m.cfg ADM_PRIME_FAST_ms
  | 1 => m.cfg ADM_PRIME_STD_ms
  | _ => m.cfg ADM_PRIME_SLOW_ms

/-- Check 13 (R186). -/
def checkPrime (m : Mach) (g : Gen) (s : Nat) : Option AdmFail :=
  need (decide (pEff g s * 1000 ≤ primeLimit m g s * g.rate))
    { code := 0x0C, value := ceilDiv (pEff g s * 1000) g.rate, limit := primeLimit m g s, slot := some s }

/-! ### Check 14: the proven response (R183–R185) -/

/-- A slot of the demand test: least separation, deadline and C′, in 0.1 µs times r_t. -/
structure Load3 where
  sep  : Nat
  due  : Nat
  cost : Nat
  deriving DecidableEq, Repr

/-- A slot as the demand test takes it. -/
def loadOf (g : Gen) (s : Nat) : Load3 :=
  { sep := g.period s - g.cfg DSP_CFG_sep_tol * 10 * g.rate, due := g.due s * 10 * g.rate, cost := g.cost s * g.rate }

/-- dbf(t): the demand of slots with deadlines up to `t`. -/
def demandAt (ls : List Load3) (t : Nat) : Nat :=
  (ls.map fun l => if t < l.due then 0 else ((t - l.due) / l.sep + 1) * l.cost).sum

/-- The work asked for up to `t`, manager windows included: the right side of the equation for L_k. -/
def workAt (ls : List Load3) (b ms t : Nat) : Nat := (ls.map fun l => ceilDiv t l.sep * l.cost).sum + b * ceilDiv t ms

/-- The least fixed point of `workAt` from a start below it. -/
def busyFrom (ls : List Load3) (b ms : Nat) : Nat → Nat → Option Nat
  | 0, _ => none
  | k + 1, t => let w := workAt ls b ms t; if w ≤ t then some t else busyFrom ls b ms k w

/-- L_k; none when the work never ends. With a utilisation of exactly 1 the work is done where every separation and the share frame end
together. -/
def busyPeriod (ls : List Load3) (b ms : Nat) : Option Nat :=
  if ls.any fun l => l.sep == 0 then none else
    let u := addFrac (b, ms) (sumFrac (ls.map fun l => (l.cost, l.sep)))
    let first := b + (ls.map (·.cost)).sum
    let last := if u.1 < u.2 then first * u.2 / (u.2 - u.1) else (ls.map (·.sep)).foldl Nat.lcm ms
    if u.2 < u.1 then none
    else busyFrom ls b ms (last / max 1 ((ls.map (·.cost)).foldl min b) + 2) first

/-- The test points of a slot: its deadline and what follows each separation, up to `lim`. -/
def testPoints (lim : Nat) (l : Load3) : List Nat :=
  if lim < l.due then [] else (List.range ((lim - l.due) / l.sep + 1)).map fun n => l.due + n * l.sep

/-- The demand test of R183. -/
def passes (ls : List Load3) (b ms lim : Nat) : Bool :=
  ls.all fun l => (testPoints lim l).all fun t => decide (demandAt ls t + b * ceilDiv t ms ≤ t)

/-- The least deadline from `d` on, in steps, with which a slot passes beside the others. -/
def leastFrom (l : Load3) (others : List Load3) (b ms lim step : Nat) : Nat → Nat → Option Nat
  | 0, _ => none
  | k + 1, d =>
    if passes ({ l with due := d * step } :: others) b ms lim then some d else leastFrom l others b ms lim step k (d + 1)

/-- R_i in 0.1 µs; none when no deadline passes (log 28). -/
def response (g : Gen) (s : Nat) : Option Nat :=
  let b := g.window * 10 * g.rate
  let ms := 10000 * g.rate
  let l := loadOf g s
  let others := ((slotsOn g (g.core s)).filter (· != s)).map (loadOf g)
  match busyPeriod (l :: others) b ms with
  | none => none
  | some lim =>
    let start := g.cost s + 10 * g.window
    leastFrom l others b ms lim g.rate (lim / g.rate + 2 - start) start

/-- R_i as reported: all ones when there is none. -/
def responseShown (g : Gen) (s : Nat) : Nat := (response g s).getD (2 ^ 32 - 1)

/-- L_dec from R_i, in 0.1 µs (R184). -/
def latencyOf (r : Nat) : Nat := 1400 + r + 700

/-- The values of an item (R167). -/
def itemValues (code : Nat) : Nat :=
  match code with
  | 0x02 | 0x10 | 0x11 | 0x12 | 0x18 => 2
  | 0x15 => 3
  | 0x16 => 6
  | 0x17 => 12
  | _ => 1

/-- The bytes of a slot's block at its configured size (R166). -/
def blockSize (g : Gen) (s : Nat) : Nat :=
  match selGroup g s with
  | some _ => 24 + ((selItems g s).map fun i => 4 + 4 * itemValues (bits i 7 0)).sum
  | none => 0

/-- t_rel in 0.1 ns, with every slot released at once (R185, R188). -/
def releaseTime (g : Gen) : Nat := 30000 + 80 * g.slots.length + (g.slots.map (blockSize g)).sum

/-- One slot of check 14 (R184). -/
def checkResponse (g : Gen) (s : Nat) : Option AdmFail :=
  let r := responseShown g s
  let l := latencyOf r
  let d := if g.fast s then min (10 * g.due s) 5400 else 10 * g.due s
  let age := 10 * g.cfg DSP_SLOT_AGE_age s
  let w := 10 * g.cfg SVI_WINDOW_window
  let fail := fun v lim => ({ code := 0x02, value := v, limit := lim, detail := g.core s % 64, slot := some s } : AdmFail)
  (need (decide (r ≤ d)) (fail r d)).or <|
  (need (!g.fast s || decide (l ≤ 7500)) (fail l 7500)).or
    (need (age == 0 || decide (w + l ≤ age)) (fail (w + l) age))

/-- The release cost of check 14 (R185). -/
def checkRelease (g : Gen) : Option AdmFail :=
  need (decide (releaseTime g ≤ 250000)) { code := 0x02, value := ceilDiv (releaseTime g) 1000, limit := 250 }

/-- One slot of check 15 (R285). -/
def checkMove (g : Gen) (s : Nat) : Option AdmFail :=
  let b := 10 * g.cfg VRT_MIG_blackout
  let r := responseShown g s
  let l := latencyOf r
  let age := 10 * g.cfg DSP_SLOT_AGE_age s
  let w := 10 * g.cfg SVI_WINDOW_window
  let fail := fun v lim => ({ code := 0x0E, value := v, limit := lim, slot := some s } : AdmFail)
  (need (decide (r + b ≤ 10 * g.due s)) (fail (r + b) (10 * g.due s))).or <|
  (need (!g.fast s || decide (l + b ≤ 7500)) (fail (l + b) 7500)).or
    (need (age == 0 || decide (w + l + b ≤ age)) (fail (w + l + b) age))

/-- Does a run admit a migration: VRT is in the staged set with an armed migration (R285)? -/
def migrates (g : Gen) (pages : List Nat) : Bool := pages.contains 0x32 && g.on VRT_MIG_en

/-! ### A run -/

/-- Checks 1 to 13 (R180), which a slot passes or fails before its response is looked at. -/
def checksBefore (m : Mach) (g : Gen) : Option AdmFail :=
  (g.slots.findSome? (checkPeriod g)).or <|
  (g.slots.findSome? (checkCost g)).or <|
  (checkShares m g).or <|
  (checkRelations m g).or <|
  (checkTwin g).or <|
  (checkPorts g MAC_EEE_en 0x06).or <|
  (checkPorts g MAC_PAUSE_honour 0x07).or <|
  (checkKeys m g).or <|
  (checkIngest g).or <|
  (checkMeasure g).or <|
  (checkBound g).or <|
  (checkUse m g).or
    (g.slots.findSome? (checkPrime m g))

/-- Checks 14 and 15. -/
def checksAfter (g : Gen) (pages : List Nat) : Option AdmFail :=
  (g.slots.findSome? (checkResponse g)).or <|
  (checkRelease g).or
    (if migrates g pages then (slotsIn g (g.cfg VRT_MIG_part)).findSome? (checkMove g) else none)

/-- The verdict on the staged pages; an empty slot set passes every check (R180). -/
def verdict (m : Mach) (pages : List Nat) : Option AdmFail :=
  let g := candidate m pages
  if g.slots.isEmpty then none else (checksBefore m g).or (checksAfter g pages)

/-- The entry of a slot in the report: its code, and its response once check 14 has come to it. A run that stops at the release cost or
at check 15 has evaluated every slot (R185, R187). -/
def entryFor (m : Mach) (g : Gen) (f : Option AdmFail) (s : Nat) : AdmEntry :=
  let late := (checksBefore m g).isNone
  let seen := late && match f with
    | some { slot := some k, code := c, .. } => decide (s ≤ k) || c == 0x0E
    | _ => true
  let code := match f with
    | none => 0x00
    | some x => if x.slot = some s then x.code else if seen then 0x00 else 0xFF
  let r := if seen then responseShown g s else 0
  {
    slot := s, code := code, resp := r, ldec := if seen then min (latencyOf r) (2 ^ 32 - 1) else 0, peff := pEff g s
    core := g.core s % 64, util := min 1023 (perMille (coreUse g (slotsOn g (g.core s)))) }

/-- The report of a run (R187). -/
def reportOf (m : Mach) (pages : List Nat) : List AdmEntry :=
  let g := candidate m pages
  let f := verdict m pages
  g.slots.map (entryFor m g f)

/-- The highest core utilisation of a set and its core, the lower core first. -/
def highestUse (g : Gen) : Nat × Nat :=
  (ownedCores g).foldl (fun (a : Nat × Nat) k =>
    let u := perMille (coreUse g (slotsOn g k))
    if a.1 < u then (u, k) else a) (0, 0)

/-- The largest proven response of a fast slot and its slot. -/
def worstFast (g : Gen) : Nat × Nat :=
  (g.slots.filter g.fast).foldl (fun (a : Nat × Nat) s =>
    let r := responseShown g s
    if a.1 < r then (r, s) else a) (0, 0)

end Sys2Proof.Machine
end

