-- ==== Sys2Proof/Machine/Port.lean ====
section
/-! DEFINITION. Responses of the command port (R46, R48, R56, R59): how a command is answered, and what happens to the answer. -/

namespace Sys2Proof.Machine

/-- The command port changed. -/
def Mach.onCmd (m : Mach) (f : Cmd → Cmd) : Mach := { m with cmd := f m.cmd }

/-- The slot CMD_AUTH_SLOT names for a transport. -/
def authSlot (m : Mach) (tr : Transport) : Nat :=
  match tr with
  | .pcie => m.cfg CMD_AUTH_SLOT_pcie_slot
  | .udp => m.cfg CMD_AUTH_SLOT_udp_slot

/-- Does a transport authenticate with KR: in recovery mode (R404), and while the Rim is Zeroised with no command key in its slot
(R402)? -/
def usesKR (m : Mach) (tr : Transport) : Bool :=
  m.rst.recovery || ((m.keyFor (authSlot m tr) 1).isNone && m.fld RIM_STS_state == 2)

/-- The key of a transport: KR where R400 accepts it, else that of its slot when it is a command key (R48, R393). -/
def authKey (m : Mach) (tr : Transport) : Option Key := if usesKR m tr then some Config.keyKR else m.keyFor (authSlot m tr) 1

/-- The 16 header bytes of a packet (R46). -/
def headerBytes (opcode flags tag page length status rsv offset word3 : Nat) : List Byte :=
  bytesBE 1 opcode ++ bytesBE 1 flags ++ bytesBE 1 tag ++ bytesBE 1 page ++ bytesBE 2 length ++ bytesBE 1 status
    ++ bytesBE 1 rsv ++ bytesBE 4 offset ++ bytesBE 4 word3

/-- The flags byte of a response: auth and response (R46). -/
def respFlags (auth : Bool) : Nat := 2 + auth.toNat

/-- The header of a response. -/
def Resp.header (r : Resp) : List Byte :=
  headerBytes r.opcode.toNat (respFlags r.auth) r.tag.toNat r.page.toNat r.payload.length r.status 0 r.offset.toNat r.time.toNat

/-- The HMAC over a header, a payload and the session (R48). -/
def packetMac (k : Key) (header payload : List Byte) (session : Word) : List Byte :=
  Config.hmacSha256 k (header ++ payload ++ bytesBE 4 session.toNat)

/-- A response to a command; it carries a trailer when its command passed check 9 of R47 (`signed`, log 29). -/
def makeResp (m : Mach) (tr : Transport) (route : Route) (vc : VCommand) (signed : Bool) (status : Nat) (payload : List Byte)
    (held : Bool) : Resp :=
  let key := if signed then authKey m tr else none
  let r : Resp := {
    tr := tr, route := route, opcode := vc.opcode, auth := key.isSome, tag := vc.pk.tag, page := vc.pk.page, status := status
    offset := vc.pk.offset, time := m.tag, payload := payload, trailer := [], held := held }
  match key with
  | some k => { r with trailer := packetMac k r.header r.payload m.cmd.session }
  | none => r

/-- Responses in the ring that the host has not consumed. -/
def unconsumed (m : Mach) : Nat := (m.cmd.respProd + 32 - m.cmd.respCons) % 32

/-- A command that is no longer outstanding: the one whose response waited longest, else the one that executes. -/
def Mach.release (m : Mach) (tr : Transport) (tag : Byte) : Mach :=
  m.onCmd fun c =>
    let mine := fun (o : OutCmd) => o.tr == tr && o.vc.pk.tag == tag
    { c with out := if c.out.any (fun o => mine o && o.waiting) then c.out.eraseP (fun o => mine o && o.waiting) else c.out.eraseP mine }

/-- The datagrams of a response (R57): up to 1,456 bytes each, under the packet number of the command it answers; none on PCIe. -/
def Resp.datagrams (r : Resp) : List (List Byte) :=
  match r.route with
  | .ring => []
  | .udp _ _ packet =>
    let cs := chunks 1456 12 (r.header ++ r.payload ++ r.trailer)
    cs.zipIdx.map fun e => bytesBE 2 packet.toNat ++ bytesBE 1 e.2 ++ bytesBE 1 (if e.2 + 1 = cs.length then 128 else 0) ++ e.1

/-- A response written: into the ring, with MSI-X vector 0, or sent in datagrams (R56, R57). Its command ends. -/
def Mach.writeResp (m : Mach) (r : Resp) : Mach :=
  let m := m.emit (.response { r with segs := r.datagrams })
  let m := match r.tr with
    | .pcie => (m.onCmd fun c => { c with respProd := (c.respProd + 1) % 32 }).emit (.msix 0)
    | .udp => m
  if r.held then m.release r.tr r.tag else m

/-- Must a response wait: is the ring at its limit, or does another wait (R56)? -/
def mustWait (m : Mach) (tr : Transport) : Bool := tr == .pcie && (!m.cmd.waiting.isEmpty || decide (31 ≤ unconsumed m))

/-- A response ready: it waits while the ring is at its limit or another waits (R56). -/
def Mach.sendResp (m : Mach) (r : Resp) : Mach :=
  if mustWait m r.tr then m.onCmd fun c => { c with waiting := c.waiting ++ [r] } else m.writeResp r

/-- The waiting responses written, as many as the ring takes, with fuel. -/
def Mach.drainResp (m : Mach) : Nat → Mach
  | 0 => m
  | n + 1 =>
    match m.cmd.waiting with
    | [] => m
    | r :: rest => if 31 ≤ unconsumed m then m else ((m.onCmd fun c => { c with waiting := rest }).writeResp r).drainResp n

/-- A response to a packet that is not executed. While it waits for the ring it keeps its command outstanding (R56). -/
def Mach.reply (m : Mach) (route : Route) (vc : VCommand) (r : Resp) : Mach :=
  if mustWait m r.tr then
    (m.onCmd fun c => { c with
      out := c.out ++ [{ tr := r.tr, route := route, vc := vc, auth := false, since := m.now, waiting := true }] }).sendResp { r with held := true }
  else m.sendResp r

/-- A response that ends no command: a check before acceptance failed (R47). -/
def Mach.refuse (m : Mach) (tr : Transport) (route : Route) (vc : VCommand) (signed : Bool) (status : Nat) : Mach :=
  m.reply route vc (makeResp m tr route vc signed status [] false)

/-- The response of an authenticated command is stored until its tag is reused or CMD_TIMEOUT has elapsed (R59). -/
def Mach.storeResp (m : Mach) (fresh : Word) (r : Resp) : Mach :=
  let m := m.onCmd fun c => { c with
    stored := { tr := r.tr, tag := r.tag, fresh := fresh, resp := { r with held := false }, at_ := m.now }
      :: c.stored.filter fun s => !(s.tr == r.tr && s.tag == r.tag) }
  m.arm (.stored r.tr r.tag) (m.now + m.cfg CMD_TIMEOUT_timeout * 1000000)

/-- An outstanding command completes with a status and a payload; while its response waits for the ring it stays outstanding. -/
def Mach.finish (m : Mach) (o : OutCmd) (status : Nat) (payload : List Byte) : Mach :=
  let r := makeResp m o.tr o.route o.vc o.auth status payload true
  let m := if o.auth then m.storeResp o.vc.pk.fresh r else m
  let m := m.when (mustWait m o.tr) fun m => m.onCmd fun c => { c with out := c.out.erase o ++ [{ o with waiting := true }] }
  m.sendResp r

/-- The outstanding command of a transport under a tag, while it executes. -/
def executing (m : Mach) (tr : Transport) (tag : Byte) : Option OutCmd :=
  m.cmd.out.find? fun o => o.tr == tr && o.vc.pk.tag == tag && !o.waiting

/-- An outstanding command named by transport and tag completes. -/
def Mach.finishTag (m : Mach) (tr : Transport) (tag : Byte) (status : Nat) (payload : List Byte) : Mach :=
  match executing m tr tag with
  | some o => m.finish o status payload
  | none => m

/-- A new session (R48): a new value at random, and freshness begins again. -/
def Mach.newSession (m : Mach) : Mach :=
  let (w, m) := m.drawWord
  let m := m.onCmd fun c => { c with session := w, seenP := [], seenU := [] }
  (m.setFld CMD_FRESH_PCIE_fresh 0 0).setFld CMD_FRESH_UDP_fresh 0 0

/-- The audit record of a load that completed (R372, 0x104). -/
def Mach.auditLoad (m : Mach) (page : Nat) (tr : Transport) (opcode length status : Nat) : Mach :=
  m.audit page 0x104 [word (Src.code (srcOf tr) * 2 ^ 28 + opcode), word length, word status]

end Sys2Proof.Machine
end

