-- ==== Sys2Proof/Machine/Rim.lean ====
section
/-! DEFINITION. The Rim (R386–R402, R406): violations and their policies, zeroisation, the key store and KEY_LOAD, and the debug
port. -/

namespace Sys2Proof.Machine

/-- The Rim changed. -/
def Mach.onRim (m : Mach) (f : Rim → Rim) : Mach := { m with rim := f m.rim }

/-! ### Violations (R386, R387) -/

/-- The policy of a source: LOG 0, LOCK 1, ZEROISE 2. -/
def policyOf (m : Mach) (src : Nat) : Nat := bits (m.inForce 0x03 0x044 0).toNat (2 * src + 1) (2 * src)

/-- A source becomes active, or is no longer. -/
def Mach.setActive (m : Mach) (src : Nat) (b : Bool) : Mach :=
  m.setFld RIM_ACTIVE_src 0 (setBits (m.fld RIM_ACTIVE_src) src src b.toNat)

/-- A source that fires: latched, counted and recorded (R387). -/
def Mach.logSource (m : Mach) (src : Nat) : Mach :=
  let m := m.setFld RIM_LATCH_src 0 (setBits (m.fld RIM_LATCH_src) src src 1)
  (m.count RIM_VIOL_CNT_n).eventAlways 0x03 0 (.item src)

/-- The debug port locked (R406). -/
def Mach.debugLock (m : Mach) : Mach := (m.setFld RIM_STS_dbg 0 0).onRim fun r => { r with challenge := none }

/-- A KEY_LOAD ended with a status and, for a refusal, its code; the record 0x104 follows. -/
def Mach.endLoad (m : Mach) (k : KeyLoad) (status : Nat) (payload : List Byte) : Mach :=
  (m.finishTag k.tr k.tag status payload).auditLoad 0x04 k.tr 0x38 k.payload.length status

/-- The KEY_LOADs that wait, or all of them, end with status 0x06 (R398). -/
def Mach.dropLoads (m : Mach) (keepFirst : Bool) : Mach :=
  let gone := if keepFirst then m.rim.queue.drop 1 else m.rim.queue
  (m.onRim fun r => { r with queue := if keepFirst then r.queue.take 1 else [] }).each gone fun k m => m.endLoad k 0x06 []

/-- Locked entered (R388): a load past check 5 completes, the others are refused (R398). -/
def Mach.lock (m : Mach) (cause : Nat) : Mach :=
  let m := (m.setFld RIM_STS_state 0 1).setFld RIM_STS_cause 0 cause
  ((m.eventAlways 0x03 1).debugLock).dropLoads true

/-! ### Zeroisation (R391, R392) -/

/-- The store generation advanced by one step (R395). -/
def Mach.advanceGen (m : Mach) : Mach :=
  let g := min 1024 (m.fld RIM_GEN_gen + 1)
  (m.setFld RIM_GEN_gen 0 g).setFlag RIM_STS_gen_out 0 (g == 1024)

/-- A key slot emptied; its version stays. -/
def Mach.emptySlot (m : Mach) (slot : Nat) : Mach :=
  let m := (m.setFld KEY_SLOT_usage slot 0).onRim fun r => { r with keys := kdel slot r.keys }
  m.setFld KEY_USED_n 0 m.rim.keys.length

/-- The zeroisation sequence: keys erased, KEY_LOADs in execution refused, a new session, the debug port locked, the twin in
Witness. The advance of the generation and the erasure in flash follow (KEY_STORE_ERASE_COMPLETE). -/
def Mach.zeroise (m : Mach) (cause : Nat) : Mach :=
  let m := (m.setFld RIM_STS_state 0 2).setFld RIM_STS_cause 0 cause
  let m := m.each (m.rim.keys.map (·.1)) fun slot m => m.emptySlot slot
  let m := m.event 0x04 3
  let m := (m.count RIM_ZEROISE_CNT_n).eventAlways 0x03 2
  let m := if m.rim.erasing then m.advanceGen else m
  let m := m.onRim fun r => { r with erasing := true }
  ((m.debugLock.newSession).dropLoads false).twnWitness

/-- Sources that fire in one instant (R387): each is logged, and the strongest policy takes effect. -/
def Mach.violate (m : Mach) (srcs : List Nat) : Mach :=
  let m := m.each srcs fun s m => m.logSource s
  match srcs.find? fun s => policyOf m s = 2 with
  | some c => m.zeroise c
  | none =>
    match srcs.find? fun s => policyOf m s = 1 with
    | some c => if m.fld RIM_STS_state = 0 then m.lock c else m
    | none => m

/-- A source becomes active and fires. -/
def Mach.fire (m : Mach) (src : Nat) : Mach := (m.setActive src true).violate [src]

/-! ### Authentication failures (R50) -/

/-- An authentication failure; the fifth in a row fires source 5. -/
def Mach.authFailed (m : Mach) : Mach :=
  let n := m.fld CMD_AUTH_FAIL_consecutive
  let m := ((m.count CMD_AUTH_FAIL_total).setFld CMD_AUTH_FAIL_consecutive 0 (min 5 (n + 1))).event 0x36 0
  if n = 4 then m.fire 5 else m

/-- A command passed check 9: the run of failures ends, and with it the source. -/
def Mach.authPassed (m : Mach) : Mach := (m.setFld CMD_AUTH_FAIL_consecutive 0 0).setActive 5 false

/-! ### KEY_LOAD (R394–R398) -/

/-- The fields of a KEY_LOAD payload. -/
def keySlot (p : List Byte) : Nat := natBE (p.take 2)
/-- The usage. -/
def keyUsage (p : List Byte) : Nat := natBE ((p.drop 2).take 1)
/-- The wrap field. -/
def keyWrap (p : List Byte) : Nat := natBE ((p.drop 3).take 1)
/-- The slot of the key-wrapping key. -/
def kekSlot (p : List Byte) : Nat := natBE ((p.drop 4).take 2)
/-- The version. -/
def keyVersion (p : List Byte) : Nat := natBE ((p.drop 8).take 4)

/-- Check 1 of R396: length and reserved bytes; kek_slot is zero unless wrap is 1. -/
def keyFormOk (p : List Byte) : Bool :=
  p.length == 72 && natBE ((p.drop 6).take 2) == 0 && (keyWrap p == 1 || kekSlot p == 0)

/-- The key that unwraps a load, when check 4 of R396 passes. -/
def wrapKey (m : Mach) (p : List Byte) : Option Key :=
  if keyWrap p = 0 then some Config.keyKW
  else if keyWrap p = 1 ∧ m.fld RIM_STS_state ≠ 2 ∧ kekSlot p ≠ keySlot p then m.keyFor (kekSlot p) 5
  else none

/-- The key a load carries, when the tag is correct (R394): with usage 0 its clear form is zero. -/
def unwrap (k : Key) (p : List Byte) : Option Key :=
  match Config.gcmOpen k ((p.drop 12).take 12) (p.take 12 ++ bytesBE 8 Config.serial.toNat) ((p.drop 24).take 32) (p.drop 56) with
  | some v => if keyUsage p = 0 ∧ v ≠ 0 then none else some v
  | none => none

/-- Checks 2 to 6 of R396: the key, or the code of the first that fails. -/
def keyChecks (m : Mach) (p : List Byte) : Except Nat Key :=
  if 1023 < keySlot p then .error 0x20
  else if 6 < keyUsage p then .error 0x21
  else match wrapKey m p with
    | none => .error 0x22
    | some k => match unwrap k p with
      | none => .error 0x23
      | some v => if keyVersion p ≤ m.fld KEY_SLOT_VER_ver (keySlot p) then .error 0x24 else .ok v

/-- A load refused by a check of R396. -/
def Mach.refuseLoad (m : Mach) (k : KeyLoad) (code : Nat) : Mach :=
  let m := if code = 0x23 then m.count KEY_TAG_FAIL_n else m
  let m := ((m.count KEY_REFUSED_n).setFld KEY_LAST_code 0 code).setFld KEY_LAST_slot 0 (keySlot k.payload % 1024)
  (m.event 0x04 2).endLoad k 0x05 (bytesBE 1 code)

/-- A load comes to its turn: checked, and then waiting for its flash copy at the head of the queue. -/
def Mach.startLoad (m : Mach) (k : KeyLoad) : Mach :=
  if !keyFormOk k.payload then m.endLoad k 0x03 []
  else match keyChecks m k.payload with
    | .error c => m.refuseLoad k c
    | .ok v => m.onRim fun r => { r with queue := { k with key := v } :: r.queue }

/-- The loads behind the one that ended come to their turn, one at a time, with fuel. -/
def Mach.nextLoad (m : Mach) : Nat → Mach
  | 0 => m
  | n + 1 =>
    match m.rim.queue with
    | [] => m
    | k :: rest =>
      let m := (m.onRim fun r => { r with queue := [] }).startLoad k
      let m := { m with rim := { m.rim with queue := m.rim.queue ++ rest } }
      if m.rim.queue.length = rest.length then m.nextLoad n else m

/-- A KEY_LOAD accepted for execution: at once, or behind one in execution (R398). -/
def Mach.queueLoad (m : Mach) (k : KeyLoad) : Mach :=
  if m.rim.queue.isEmpty then m.startLoad k else m.onRim fun r => { r with queue := r.queue ++ [k] }

/-- An accepted load replaces key, usage and version together (R397); a slot that authenticates a transport starts a new session
(R48). -/
def Mach.installKey (m : Mach) (k : KeyLoad) : Mach :=
  let slot := keySlot k.payload
  let m := if keyUsage k.payload = 0 then (m.emptySlot slot).event 0x04 1
    else
      let m := (m.setFld KEY_SLOT_usage slot (keyUsage k.payload)).onRim fun r => { r with keys := kput slot k.key r.keys }
      (m.setFld KEY_USED_n 0 m.rim.keys.length).event 0x04 0
  let m := (m.setFld KEY_SLOT_VER_ver slot (keyVersion k.payload)).setFld KEY_SLOT_TAG_tag slot m.tag.toNat
  let m := m.count KEY_LOADS_n
  if slot = authSlot m .pcie ∨ slot = authSlot m .udp then m.newSession else m

/-- The flash copy of the load at the head is written, or could not be (R395, R396 check 7). -/
def Mach.loadDone (m : Mach) (ok : Bool) : Mach :=
  match m.rim.queue with
  | [] => m
  | k :: rest =>
    let m := m.onRim fun r => { r with queue := rest }
    let m := if ok then (m.endLoad k 0x00 []).installKey k else m.refuseLoad k 0x25
    m.nextLoad (rest.length + 1)

/-! ### The debug port (R406, R429) -/

/-- Is any partition Active? -/
def anyActive (m : Mach) : Bool := (List.range 64).any fun p => m.partState p == psActive

/-- The right response to a challenge (R406); the requested level enters as one byte (log 30). -/
def debugAnswer (k : Key) (challenge : List Byte) (level : Nat) : BitVec 128 :=
  BitVec.ofNat 128 (natBE ((Config.hmacSha256 k (challenge ++ bytesBE 8 Config.serial.toNat ++ bytesBE 1 level)).take 16))

/-- An unlock attempt. -/
def Mach.debugTry (m : Mach) (level : Nat) (answer : BitVec 128) : Mach :=
  let ok := m.fld RIM_STS_state = 0 ∧ level ≤ m.cfg RIM_DBG_allow
  let right := match m.keyFor (m.cfg RIM_DBG_slot) 6, m.rim.challenge with
    | some k, some c => debugAnswer k c level == answer
    | _, _ => false
  let m := m.onRim fun r => { r with challenge := none }
  if ok ∧ right = true then
    if level = 2 ∧ anyActive m = true then m.event 0x03 9
    else (m.setFld RIM_STS_dbg 0 level).event 0x03 8
  else (m.event 0x03 9).violate [4]

/-- A fresh challenge of 16 bytes, drawn at random and read through J5. -/
def Mach.debugChallenge (m : Mach) : Mach :=
  let (a, m) := m.drawWord
  let (b, m) := m.drawWord
  let (c, m) := m.drawWord
  let (d, m) := m.drawWord
  let m := m.onRim fun r => { r with challenge := some ([a, b, c, d].flatMap fun w => bytesBE 4 w.toNat) }
  (m.emit (.read .debug (a ++ b))).emit (.read .debug (c ++ d))

/-! ### Commands -/

/-- R386: LID_SWITCH_CHANGE. -/
def execLidSwitchChange (t : Nat) (opened : Bool) (s : State) : Host.Outcome State Fault Refusal :=
  s.run t fun m =>
    let was := m.rim.lidOpen
    let m := m.onRim fun r => { r with lidOpen := opened }
    if opened then (if was then m else m.fire 0) else m.setActive 0 false

/-- R386: MESH_TEST: three open readings in a row are a break, and a break is permanent. -/
def execMeshTest (t : Nat) (openRead : Bool) (s : State) : Host.Outcome State Fault Refusal :=
  s.run t fun m =>
    if m.rim.meshCut then m
    else if !openRead then m.onRim fun r => { r with openReads := 0 }
    else if m.rim.openReads < 2 then m.onRim fun r => { r with openReads := r.openReads + 1 }
    else (m.onRim fun r => { r with openReads := 3, meshCut := true }).fire 1

/-- R386: VOLTAGE_GLITCH: the filtered excursion begins or ends. -/
def execVoltageGlitch (t : Nat) (begins : Bool) (s : State) : Host.Outcome State Fault Refusal :=
  s.run t fun m => if begins then (if bit (m.fld RIM_ACTIVE_src) 2 then m else m.fire 2) else m.setActive 2 false

/-- R392: KEY_STORE_ERASE_COMPLETE: the generation has advanced and the flash copy is erased. -/
def execKeyStoreEraseComplete (t : Nat) (s : State) : Host.Outcome State Fault Refusal :=
  s.run t fun m => if m.rim.erasing then (m.onRim fun r => { r with erasing := false }).advanceGen else m

/-- R395: KEY_LOAD_FLASH_DONE. -/
def execKeyLoadFlashDone (t : Nat) (ok : Bool) (s : State) : Host.Outcome State Fault Refusal := s.run t fun m => m.loadDone ok

/-- R406: DEBUG_CHALLENGE_READ. -/
def execDebugChallengeRead (t : Nat) (s : State) : Host.Outcome State Fault Refusal := s.run t fun m => m.debugChallenge

/-- R406: DEBUG_UNLOCK_RESPONSE. -/
def execDebugUnlockResponse (t : Nat) (level : Fin 4) (response : BitVec 128) (s : State) : Host.Outcome State Fault Refusal :=
  s.run t fun m => m.debugTry level response

end Sys2Proof.Machine
end

