-- ==== Sys2Proof/Machine/CoilCmd.lean ====
section
/-! DEFINITION. The commands of the recorder (R374, R375, R382–R384): intake, the writing of records, flushes to flash, the image
at a start, and a commit of the COIL page. -/

namespace Sys2Proof.Machine

/-! ### Flash images (R382, R383) -/

/-- The area a flush writes: the older of the two, area 0 when neither holds an image. True for area 1. -/
def olderArea (m : Mach) : Bool :=
  match m.flash.gasp0, m.flash.gasp1 with
  | some a, some b => decide (b.flush < a.flush)
  | some _, none => true
  | none, _ => false

/-- The flush number of the next image: one more than the other area's. -/
def nextFlush (m : Mach) : Nat :=
  let other := if olderArea m then m.flash.gasp0 else m.flash.gasp1
  match other with
  | some g => (g.flush + 1) % 2 ^ 32
  | none => 1

/-- The image a flush writes (R383): the last-gasp records in seq order. -/
def flushImage (m : Mach) : LgImage :=
  { flush := nextFlush m, base := m.coil.flushAt, boot := m.fld TWN_BOOT_n, epoch := m.time.epoch, recs := lgRecs m }

/-- A flush begins (R382 step 4): one at a time. -/
def Mach.startFlush (m : Mach) : Mach :=
  if m.coil.flushing then m else m.onCoil fun c => { c with flushing := true, flushAt := m.now }

/-- A flush ends: its image stands in flash, or a failure is kept for the next start. -/
def Mach.flushDone (m : Mach) (ok : Bool) : Mach :=
  if !m.coil.flushing then m else
    let g := flushImage m
    let one := olderArea m
    let m := m.onCoil fun c => { c with flushing := false }
    if ok then
      let m := { m with flash := if one then { m.flash with gasp1 := some g, gaspFailed := false }
        else { m.flash with gasp0 := some g, gaspFailed := false } }
      (m.count COIL_LG_FLUSH).coilEvent 4
    else { m with flash := { m.flash with gaspFailed := true } }

/-- The image of the higher flush number, presented at a start with its event and record 0xF03 (R383). A failed flush sets event
5. -/
def Mach.presentImage (m : Mach) : Mach :=
  let m := if m.flash.gaspFailed then
      ({ m with flash := { m.flash with gaspFailed := false } }).coilEvent 5
    else m
  let best := match m.flash.gasp0, m.flash.gasp1 with
    | some a, some b => some (if a.flush < b.flush then b else a)
    | some a, none => some a
    | none, b => b
  match best with
  | none => m
  | some g =>
    let m := m.onCoil fun c => { c with shown := some g }
    let m := ((m.setFlag COIL_LG_STS_present 0 true).setFld COIL_LG_STS_count 0 g.recs.length).coilEvent 6
    m.openRec {
      page := 0xFF, code := 0xF03, sev := 6, attr := 0, tag := m.tag, last := m.tag, rpt := 0, wrapNo := m.coil.wrapNo
      snap := [word g.flush, word g.recs.length], cut := false, continued := false }

/-- Both images erased (COIL_CMD.lg_clear). -/
def Mach.clearImages (m : Mach) : Mach :=
  let m := { m with flash := { m.flash with gasp0 := none, gasp1 := none } }
  let m := m.onCoil fun c => { c with shown := none }
  (m.setFlag COIL_LG_STS_present 0 false).setFld COIL_LG_STS_count 0 0

/-- COIL_CMD. -/
def Mach.coilCommand (m : Mach) (w : Nat) : Mach :=
  let m := if bit w 0 then m.clearImages else m
  if bit w 1 then m.startFlush else m

/-- The most entries in use counted anew from those in use now (COIL_FIFO.clr). -/
def Mach.clearFifoMax (m : Mach) : Mach := m.onCoil fun c => { c with fifoMax := c.fifo.length }

/-! ### A commit of the COIL page (R384) -/

/-- What a commit of the COIL page does once its values are in force, from those in force before and the records of the
last-gasp area then. -/
def Mach.coilApply (m : Mach) (old : KMap Word) (keep : List Rec) : Mach :=
  let was := bit ((kget (regKey 0x07 0x040 0) old).getD 0).toNat 31
  let words := fun l : KMap Word => [0x040, 0x044, 0x048].map fun o => kget (regKey 0x07 o 0) l
  if coilOn m then
    if was && words old == words m.force then m
    else
      let m := (m.coil.opened.reverse).foldl (fun m o => m.closeRec o false) m
      m.coilRestart (keep.map fun r => ((coilRecs m ++ m.coil.lg).find? fun x => x.seq = r.seq).getD r)
  else if was then m.coilStop keep else m

/-! ### Commands -/

/-- An occurrence handed over by its source: the recorder's own events write no record (R385), and a snapshot holds at most 32
words (R373). -/
def Mach.coilTake (m : Mach) (e : CoilEvent) : Mach :=
  if e.page = 0x07 ∧ e.code.toNat < 0x20 then m.coilEvent e.code.toNat
  else m.intake e.page.toNat e.code.toNat e.sev e.attr.toNat e.tag (e.snap.take 32) (decide (32 < e.snap.length))

/-- The oldest open record with repeats pending. -/
def pendingRec (m : Mach) : Option OpenRec := (m.coil.opened.filter fun o => !o.pending.isEmpty).getLast?

/-- R375: COIL_EVENT_INTAKE. -/
def execCoilEventIntake (t : Nat) (ev : CoilEvent) (s : State) : Host.Outcome State Fault Refusal := s.run t fun m => m.coilTake ev

/-- R374: COIL_RECORD_WRITE. -/
def execCoilRecordWrite (t : Nat) (s : State) : Host.Outcome State Fault Refusal := s.run t fun m => m.takeHead

/-- R375: COIL_FOLD_REWRITE. -/
def execCoilFoldRewrite (t : Nat) (s : State) : Host.Outcome State Fault Refusal :=
  s.run t fun m =>
    match pendingRec m with
    | some o => m.rewriteRec o
    | none => m

end Sys2Proof.Machine
end

