-- ==== Sys2Proof/Machine/Arrive.lean ====
section
/-! DEFINITION. What a crossing delivers at its destination (R82–R84): interrupt vectors at the cores, time state and wrap count from
the timebase, pulse counts, and transmit stamps; and the end of a transfer. -/

namespace Sys2Proof.Machine

/-! ### Arrivals -/

/-- The partition whose share holds a core (R175). -/
def partOfCore (m : Mach) (core : Nat) : Option Nat :=
  (List.range 64).find? fun p => m.on VRT_PART_CFG_en p && m.cfg VRT_PART_CFG_pos p == core / coresPerShare m

/-- The vectors that reach a core of a cluster (R83, R273): each raises its identity in the guest interrupt file of its partition. -/
def Mach.vectorsArrive (m : Mach) (core bits_ : Nat) : Mach :=
  match partOfCore m core with
  | none => m
  | some p => m.each ((List.range 64).filter (bit bits_)) fun v m =>
    m.emit (.coreIrq core (m.cfg IRQ_PART_geil p) (m.cfg IRQ_VEC_identity (v * 64 + p)))

/-- A value arrives: interrupts at a cluster, a stamp at the PTP block, the time state at SVI and PUB (R83, R102, R111). -/
def Mach.valueArrives (m : Mach) (x : Nat) (v : List Nat) : Mach :=
  if x < 8 then m.each v.zipIdx fun e m => m.vectorsArrive (8 * x + e.2) e.1
  else if x = 32 then { m with time := { m.time with seen := v.headD 0 } }
  else match stampOf v with
    | some s => m.pushStamp (x - 12) s
    | none => m

/-- The 32 pulse counts and their capture tag arrive on the Warp side (R84, R368). -/
def Mach.countsArrive (m : Mach) (v : List Nat) : Mach :=
  let m := m.each (List.range 32) fun i m => m.setFld PLS_CNT_n i (nthD v i 0)
  { m with pls := { m.pls with capTag := word (nthD v 32 0) } }

/-- Counts arrive: pulses from crossing 33, the wrap count from crossing 32 (R84). -/
def Mach.countArrives (m : Mach) (x : Nat) (v : List Nat) : Mach :=
  if x = 33 then m.countsArrive v else { m with time := { m.time with wraps := v.headD 0 } }

/-! ### The end of a transfer -/

/-- A transfer is acknowledged: it is counted, what it carried is at its destination, and a full pending register starts the next one
(R82, R84, R85). -/
def Mach.crossingDone (m : Mach) (x : Nat) (k : XKind) : Mach :=
  let c := crossing m x
  match k with
  | .stream =>
    if c.stream.isSome then
      (m.onCrossing x fun c => { c with fifo := c.fifo - 1, stream := if 1 < c.fifo then some m.now else none }).count CDC_XFER_CNT_n x
    else m
  | .value =>
    match c.value with
    | some (_, v) =>
      ((m.onCrossing x fun c => { c with value := c.valPend.map fun w => (m.now, w), valPend := none }).count CDC_XFER_CNT_n x).valueArrives x v
    | none => m
  | .count =>
    match c.count with
    | some (_, v) =>
      ((m.onCrossing x fun c => { c with count := c.cntPend.map fun w => (m.now, w), cntPend := none }).count CDC_XFER_CNT_n x).countArrives x v
    | none => m
  | .event =>
    if c.event.isSome then
      (m.onCrossing x fun c => { c with event := c.evPend.map fun w => (m.now, w.1, w.2), evPend := none }).count CDC_XFER_CNT_n x
    else m

/-- R82: CROSSING_TRANSFER_DONE. -/
def execCrossingTransferDone (t : Nat) (x : Fin 36) (k : XKind) (s : State) : Host.Outcome State Fault Refusal :=
  s.run t fun m => m.crossingDone x k

end Sys2Proof.Machine
end

