-- ==== Sys2Proof/Machine/Pace.lean ====
section
/-! DEFINITION. The pace monitor (R74–R78) and the hang watchdogs (R71–R73). -/

namespace Sys2Proof.Machine

/-- The pace monitor's memory changed. -/
def Mach.onPace (m : Mach) (f : Pace → Pace) : Mach := { m with pace := f m.pace }

/-! ### Sensors (R74) -/

/-- One sensor at the end of a window: its value, or none when it produced no count. -/
def Mach.sensor (m : Mach) (i : Nat) (v : Option (BitVec 16)) : Mach :=
  match v with
  | some v =>
    let m := m.onPace fun p => { p with missed := p.missed.filter (· != i) }
    (m.setFlag (PACE_SENSOR_stale.nth i) 0 false).setFld (PACE_SENSOR_value.nth i) 0 v.toNat
  | none =>
    if m.pace.missed.contains i then
      let fresh := !m.flag (PACE_SENSOR_stale.nth i)
      let m := (m.setFlag (PACE_SENSOR_stale.nth i) 0 true).setFld (PACE_SENSOR_value.nth i) 0 0
      if fresh then m.event 0x02 7 (.item i) else m
    else m.onPace fun p => { p with missed := i :: p.missed }

/-- The value of a sensor. -/
def sensorValue (m : Mach) (i : Nat) : Nat := m.fld (PACE_SENSOR_value.nth i)

/-- The lowest value and the lowest index that has it. -/
def lowestPace (m : Mach) : Nat × Nat :=
  (List.range 16).foldl (fun (a : Nat × Nat) i => if sensorValue m i < a.1 then (sensorValue m i, i) else a) (2 ^ 16, 0)

/-! ### States (R75–R77) -/

/-- The next state from the present one, for a pace; `held`: it has been at the leave level of Shed for shed_hold. -/
def nextPace (m : Mach) (st now : Nat) (held : Bool) : Nat :=
  let h := m.cfg PACE_SHED_hys
  let shed := m.cfg PACE_SHED_level
  let warn := m.cfg PACE_WARN_level
  if now < 1024 then 3
  else match st with
    | 3 => if 1024 + h ≤ now then 2 else 3
    | 2 => if shed + h ≤ now ∧ held = true then 1 else 2
    | 1 => if now < shed then 2 else if warn + h ≤ now then 0 else 1
    | _ => if now < shed then 2 else if now < warn then 1 else 0

/-- The monitor enters a state: counts and events (R75), and the shed request (R76). -/
def Mach.enterPace (m : Mach) (st : Nat) : Mach :=
  let old := m.fld PACE_STATE_state
  let m := if old = st then m else
    let m := if old = 2 then m.event 0x02 2 else m
    let m := m.setFld PACE_STATE_state 0 st
    match st with
    | 1 => (m.count PACE_WARN_CNT_n).event 0x02 0
    | 2 => (m.count PACE_SHED_CNT_n).event 0x02 1
    | 3 => (m.count PACE_FLOOR_CNT_n).event 0x02 3
    | _ => m
  m.setFlag PACE_STATE_shed_req 0 (m.on PACE_CFG_policy && decide (2 ≤ st))

/-- Time below the floor accumulates in whole microseconds (R77). -/
def Mach.floorTime (m : Mach) : Mach :=
  let ns := floorSince m
  let m := m.count PACE_FLOOR_TIME_us 0 (ns / 1000)
  m.onPace fun p => { p with floorNs := ns % 1000, windowAt := m.now }

/-- The glitch detector (R78): either condition counts the window; the first of a run fires source 3. -/
def Mach.glitch (m : Mach) (now : Nat) : Mach :=
  let low := (List.range 16).any fun i => decide (sensorValue m i < m.cfg PACE_GLITCH_level)
  let fell := match m.pace.last with
    | some l => decide (now + m.cfg PACE_GLITCH_step < l)
    | none => false
  let was := m.pace.glitching
  let m := m.onPace fun p => { p with glitching := low || fell, last := some now }
  if low || fell then
    let m := m.count PACE_GLITCH_CNT_n
    if was then m else (m.event 0x02 4).fire 3
  else m.setActive 3 false

/-- The length of a window in ns (PACE_CFG.window). -/
def paceLength (m : Mach) : Nat := 1000 * 2 ^ m.cfg PACE_CFG_window

/-- The end of a window (R74–R78). -/
def Mach.paceWindow (m : Mach) (counts : List (Option (BitVec 16))) : Mach :=
  if m.now < m.pace.windowAt + paceLength m then m else
  let m := m.floorTime
  let m := m.each (List.range 16) fun i m => m.sensor i (nthD counts i none)
  let (now, who) := lowestPace m
  let m := (m.setFld PACE_NOW_pace 0 now).setFld PACE_NOW_sensor 0 who
  let m := (m.raise PACE_MINMAX_max 0 now).setFld PACE_MINMAX_min 0 (min (m.fld PACE_MINMAX_min) now)
  let above := decide (m.cfg PACE_SHED_level + m.cfg PACE_SHED_hys ≤ now)
  let m := m.onPace fun p => { p with aboveAt := if above then some (p.aboveAt.getD m.now) else none }
  let held := match m.pace.aboveAt with
    | some a => decide (m.cfg PACE_CFG_shed_hold * 1000000 ≤ m.now - a)
    | none => false
  (m.enterPace (nextPace m (m.fld PACE_STATE_state) now held)).glitch now

/-- The extremes cleared (PACE_CLR). -/
def Mach.clearPace (m : Mach) : Mach := (m.setFld PACE_MINMAX_min 0 0xFFFF).setFld PACE_MINMAX_max 0 0

/-- PACE_ARB.fair in force goes from 1 to 0: event 6 and its record at severity 7 (R67). -/
def Mach.unfair (m : Mach) : Mach :=
  let (snap, cut) := snapWords m (snapList m 0x02 6) []
  let m := (m.latch 0x02 6).intake 0x02 6 7 0 m.tag snap cut
  m.signal 0x02 6

/-! ### Hang watchdogs (R71–R73) -/

/-- What every expiry does (R71): counted, identified, event 5 and a record attributed to the partition when there is one. -/
def Mach.expiryOf (m : Mach) (response : Bool) (origin part tag : Nat) : Mach :=
  let m := m.count PACE_WDOG_CNT_n
  let m := m.setReg 0x02 0x0CC 0 (word (response.toNat * 2 ^ 31 + part * 2 ^ 24 + origin * 2 ^ 16 + tag))
  m.eventAlways 0x02 5 (if bit part 6 then .part (part % 64) else .module)

/-- What every expiry on a Warp handshake does. -/
def Mach.warpExpiry (m : Mach) (response : Bool) (h : WarpHdr) (raised : Nat) : Mach :=
  (m.endLane response h raised).expiryOf response h.origin.toNat h.part.toNat h.tag.toNat

/-- A transfer whose transaction the watchdog ended ends at that piece (R271). -/
def Mach.endTransfer (m : Mach) (h : WarpHdr) : Mach :=
  match partTag h with
  | some (p, t) => m.pieceDone p t .watchdog
  | none => m

/-- A watchdog expiry, if the handshake is still in flight and has lasted the limit (R71, R72). The requester of a request gets a
response with status 1; a transfer ends at its piece; a crossing is reset and resends (R73); one in the switch core is a fault of it
(R330). -/
def Mach.hang (m : Mach) (st : Stall) : Mach :=
  match st with
  | .request h r => if stalled m false h r then ((m.warpExpiry false h r).emit (.warp (answerTo m h r 1))).endTransfer h else m
  | .response h r => if stalled m true h r then (m.warpExpiry true h r).endTransfer h else m
  | .crossing x k h =>
    match handshake (crossing m x) k with
    | some since => if overdue m since then (m.expiryOf false h.origin.toNat h.part.toNat h.tag.toNat).crossingHang x k else m
    | none => m
  | .switchCore h r => if stalled m false h r then (m.warpExpiry false h r).swcFault 2 else m

/-! ### Commands -/

/-- R71: HANG_WATCHDOG_EXPIRY. -/
def execHangWatchdogExpiry (t : Nat) (st : Stall) (s : State) : Host.Outcome State Fault Refusal := s.run t fun m => m.hang st

end Sys2Proof.Machine
end

