-- ==== Sys2Proof/Machine/Ptp.lean ====
section
/-! DEFINITION. The PTP boundary clock (R105–R111): checks of a received frame, foreign masters and the choice of a master,
what qualifies a domain, peer delay, and what the clock sends. -/

namespace Sys2Proof.Machine

/-! ### Domains and ports -/

/-- PTP_PSTS.state0 or state1 of a port: Disabled 3, Listening 4, Master 6, Passive 7, Slave 9. -/
def portStateFd (d : Nat) : Fd := if d = 0 then PTP_PSTS_state0 else PTP_PSTS_state1

/-- The ports of a domain. -/
def domPorts (m : Mach) (d : Nat) : List Nat :=
  if m.on (PTP_DOM_en.nth d) then (List.range 16).filter fun p => bit (m.cfg PTP_PCFG_dom p) d else []

/-- 2^l seconds in ns. -/
def intervalNs (l : Int) : Nat := if 0 ≤ l then 1000000000 * 2 ^ l.toNat else 1000000000 / 2 ^ (-l).toNat

/-! ### The checks of R108 -/

/-- The domain a message belongs to on a port. -/
def domainFor (m : Mach) (port : Nat) (p : PtpMsg) : Option Nat :=
  [0, 1].find? fun d => (domPorts m d).contains port && m.cfg (PTP_DOM_domain.nth d) == p.domain.toNat

/-- The event message a follow-up belongs to, one-step or two-step, among all those received (R108 check 7). -/
def matching (m : Mach) (d port : Nat) (p : PtpMsg) (k : PtpType) : Option PtpWait :=
  (ptpDom m d).waits.find? fun w =>
    w.port == port && w.kind == k && w.seq == p.seqId.toNat && decide (m.now ≤ w.at_ + intervalNs p.logInt)

/-- The first check of R108 that a frame fails, or its message and domain. A frame with more than one tag is unsupported (R13, R105):
it fails before them. -/
def checkPtp (m : Mach) (port : Nat) (fr : Frame) : Except Nat (PtpMsg × Nat) :=
  match fr.body with
  | .ptp p =>
    if fr.tag = .stacked then .error 0
    else if fr.etype ≠ 0x88F7 ∨ fr.dst ≠ (if isPeerDelay p.kind then peerDelayAddr else ptpAddr) then .error 1
    else if p.version ≠ 2 ∨ p.lenOk = false then .error 2
    else match domainFor m port p with
    | none => .error 3
    | some d =>
      if p.kind = .other then .error 4
      else if 1000000 < p.corr.natAbs then .error 5
      else match p.kind with
      | .announce => if 255 ≤ p.ann.stepsRemoved.toNat ∨ p.clockId = Config.clockId then .error 6 else .ok (p, d)
      | .followUp => if (matching m d port p .sync).isNone then .error 7 else .ok (p, d)
      | .pdelayRespFollowUp => if (matching m d port p .pdelayResp).isNone then .error 7 else .ok (p, d)
      | _ => .ok (p, d)
  | _ => .error (if fr.etype ≠ 0x88F7 then 1 else 2)

/-! ### Best master (R105) -/

/-- The data of an Announce in the order the default comparison ranks them, smaller first. -/
def rank (a : PtpAnnounce) (tail : List Nat) : List Nat :=
  [a.priority1.toNat, a.clockClass.toNat, a.accuracy.toNat, a.variance.toNat, a.priority2.toNat, a.gmIdentity.toNat,
    a.stepsRemoved.toNat] ++ tail

/-- A foreign master's rank: then the sender and the port it was heard on. -/
def Foreign.rank (f : Foreign) : List Nat := Machine.rank f.ann [f.clock.toNat, f.portNum.toNat, f.port]

/-- Lexicographic order. -/
def lexLt : List Nat → List Nat → Bool
  | a :: as, b :: bs => decide (a < b) || (a == b && lexLt as bs)
  | [], _ :: _ => true
  | _, [] => false

/-- The clock's own data set: clockClass 248, accuracy and variance unknown (log 25). -/
def ownAnnounce (m : Mach) (d : Nat) : PtpAnnounce := {
  priority1 := BitVec.ofNat 8 (m.cfg (PTP_DOM_priority1.nth d)), clockClass := 248, accuracy := 0xFE, variance := 0xFFFF,
  priority2 := BitVec.ofNat 8 (m.cfg (PTP_DOM_priority2.nth d)), gmIdentity := Config.clockId, stepsRemoved := 0, tlvs := [] }

/-- The best of some foreign masters. -/
def bestOf (l : List Foreign) : Option Foreign :=
  l.foldl (fun a f => match a with
    | some b => if lexLt f.rank b.rank then some f else some b
    | none => some f) none

/-- Is a foreign master the selected one? -/
def isMaster (dom : PtpDom) (f : Foreign) : Bool := dom.master == some (f.port, f.clock, f.portNum)

/-- A foreign master qualifies with 2 Announces within 4 announce intervals; the selected one stays until its timeout. -/
def foreignQualified (m : Mach) (dom : PtpDom) (f : Foreign) : Bool :=
  isMaster dom f || decide (2 ≤ countIf (fun a => decide (m.now ≤ a + 4 * intervalNs f.logInt)) f.heard)

/-- The foreign master a domain's best-master algorithm selects: the best one, unless the clock's own data set is better. -/
def selected (m : Mach) (d : Nat) : Option Foreign :=
  let dom := ptpDom m d
  match bestOf (dom.foreign.filter (foreignQualified m dom)) with
  | some b => if !m.on (PTP_DOM_slave_only.nth d) && lexLt (rank (ownAnnounce m d) []) b.rank then none else some b
  | none => none

/-- The state of a port under a selection: a port that listens and hears no qualified master goes on listening until its announce receipt
timeout; one that is to be master beside a slave port waits first (log 95). -/
def portStateFor (m : Mach) (d : Nat) (sel : Option Foreign) (p : Nat) : Nat :=
  let dom := ptpDom m d
  let now := m.fld (portStateFd d) p
  let mine := bestOf ((dom.foreign.filter (foreignQualified m dom)).filter fun f => f.port == p)
  if now = 4 ∧ mine.isNone then 4 else
    match sel with
    | some b =>
      if b.port = p then 9
      else if (mine.map fun f => f.ann.gmIdentity) = some b.ann.gmIdentity then 7
      else if m.on (PTP_DOM_slave_only.nth d) then 4
      else if now = 6 then 6 else 5
    | none => if m.on (PTP_DOM_slave_only.nth d) then 4 else 6

/-- The loss budget of a domain: the announce receipt timeout at the interval its master announces (R97). -/
def lossBudget (m : Mach) (d : Nat) (logInt : Int) : Nat := m.cfg (PTP_DOM_TMO_rt.nth d) * intervalNs logInt

/-- PTP_DOMx_STS and PTP_DOMx_GM shown. -/
def Mach.showMaster (m : Mach) (d : Nat) (sel : Option Foreign) : Mach :=
  let port := match sel with | some f => f.port | none => 31
  let cls := match sel with | some f => f.ann.clockClass.toNat | none => 0
  let gm := match sel with | some f => f.ann.gmIdentity.toNat | none => 0
  let m := (m.setFld (PTP_DOM_STS_slave_port.nth d) 0 port).setFld (PTP_DOM_STS_gm_class.nth d) 0 cls
  (m.setFld (PTP_DOM_GM_w.nth (2 * d)) 0 (gm % 2 ^ 32)).setFld (PTP_DOM_GM_w.nth (2 * d + 1)) 0 (gm / 2 ^ 32)

/-- A port takes the state it is given; where it begins to listen or to wait, the instant at which it becomes a master is set (log 95). -/
def Mach.portState (m : Mach) (d : Nat) (steps : Nat) (p st : Nat) : Mach :=
  if m.fld (portStateFd d) p = st then m else
    let m := m.setFld (portStateFd d) p st
    let rest := (ptpDom m d).toMaster.filter fun e => e.1 != p
    let wait := match st with
      | 4 => [(p, m.now + lossBudget m d 0)]
      | 5 => [(p, m.now + (steps + 1) * 1000000000)]
      | _ => []
    m.onDom d fun b => { b with toMaster := wait ++ rest }

/-- The ports whose time to listen or to wait is over become masters, unless the domain is slave-only. -/
def Mach.becomeMasters (m : Mach) (d : Nat) : Mach :=
  let (due, rest) := splitBy (fun e : Nat × Nat => decide (e.2 ≤ m.now)) (ptpDom m d).toMaster
  if m.on (PTP_DOM_slave_only.nth d) then m else
    (m.onDom d fun b => { b with toMaster := rest }).each due fun e m => m.portState d 0 e.1 6

/-- The best-master algorithm of a domain: port states, the master, and the loss of qualification with the last master (R97,
R105). -/
def Mach.bmca (m : Mach) (d : Nat) : Mach :=
  let sel := selected m d
  let states := (domPorts m d).map fun p => (p, portStateFor m d sel p)
  let steps := match sel with | some f => f.ann.stepsRemoved.toNat | none => 0
  let m := m.each states fun e m => m.portState d steps e.1 e.2
  let m := m.showMaster d sel
  let who := sel.map fun f => (f.port, f.clock, f.portNum)
  if (ptpDom m d).master = who then m else
    let m := (m.onDom d fun b => { b with master := who }).event 0x06 d
    match sel with
    | some f => m.arm (.announce d) (m.now + lossBudget m d f.logInt)
    | none => ((m.disarm (.announce d)).disarm (.syncLoss d)).setQualified (d + 1) false

/-! ### Receive stamps (R109) -/

/-- The receive stamp of a message (R109): station time as the MAC captured it at the frame's capture point, corrected to the connector by
the ingress latency and the asymmetry of the port at its speed (their sign and rounding: log 90); or taken when the frame event
reaches Warp (log 26). -/
def ingressStamp (m : Mach) (port : Nat) (p : PtpMsg) : Int :=
  if m.on PTP_PCFG_stamp_mode port then m.station else
    let i := m.fld (MAC_STS_speed.onPort port) * 64 + port
    (p.rxAt : Int) + m.time.epoch - (asSigned 16 (m.cfg PTP_PCOMP_IN_v i) + asSigned 16 (m.cfg PTP_PCOMP_ASYM_v i)) / 16

/-! ### What the clock sends (R105–R107) -/

/-- A message of the clock on a port. -/
def ptpOut (m : Mach) (d port : Nat) (k : PtpType) (seq : Nat) (twoStep : Bool) (corr stamp : Int) (ann : PtpAnnounce) : PtpMsg := {
  version := 2, lenOk := true, domain := BitVec.ofNat 8 (m.cfg (PTP_DOM_domain.nth d)), kind := k, twoStep := twoStep,
  corr := corr, clockId := Config.clockId, portNum := BitVec.ofNat 16 (port + 1), seqId := BitVec.ofNat 16 seq, logInt := 0,
  stamp := stamp, rxAt := 0, ann := ann }

/-- The Announce data sent: the master's with one step more and its TLVs, or the clock's own. -/
def announceData (m : Mach) (d : Nat) : PtpAnnounce :=
  let dom := ptpDom m d
  match dom.foreign.find? (isMaster dom) with
  | some f => { f.ann with stepsRemoved := f.ann.stepsRemoved + 1, tlvs := dom.tlvs }
  | none => { ownAnnounce m d with tlvs := dom.tlvs }

/-- The ports of a domain on which something can be sent, in a state or in any. -/
def sendingPorts (m : Mach) (d : Nat) (st : Option Nat) : List Nat :=
  (domPorts m d).filter fun p => linkOf m p == 2 && (match st with | some x => m.fld (portStateFd d) p == x | none => true)

/-- A message goes to a port's egress queue in the class of the port's own priority; `who` asks for the stamp of an event message (R26,
R105, log 91). -/
def Mach.sendPtp (m : Mach) (port : Nat) (p : PtpMsg) (who : Option Nat) : Mach :=
  let pcp := m.cfg (MAC_VLAN_pcp.onPort port)
  m.enqueue port {
    fr := ptpFrame m port p, cls := classOf m pcp, pcp := pcp, vid := m.cfg (MAC_VLAN_pvid.onPort port), entered := m.now, src := port
    vnic := none, stamp := who }

/-- A PTP message interval elapses: the domain's messages of the kind go out, and the next interval of 1 s begins (R105). A Sync and a
request are stamped as they leave. -/
def Mach.ptpInterval (m : Mach) (d : Nat) (k : PtpTx) : Mach :=
  let m := m.arm (.ptpTx d k) (m.now + 1000000000)
  match k with
  | .announce =>
    let m := m.becomeMasters d
    let seq := (ptpDom m d).annSeq
    let m := m.onDom d fun b => { b with annSeq := (seq + 1) % 2 ^ 16 }
    m.each (sendingPorts m d (some 6)) fun p m =>
      m.sendPtp p (ptpOut m d p .announce seq false 0 (m.station + domainOffset m d) (announceData m d)) none
  | .sync =>
    let seq := (ptpDom m d).syncSeq
    let m := m.onDom d fun b => { b with syncSeq := (seq + 1) % 2 ^ 16 }
    m.each (sendingPorts m d (some 6)) fun p m =>
      m.sendPtp p (ptpOut m d p .sync seq (m.on (PTP_DOM_two_step.nth d)) 0 0 (announceData m d)) (some (65 + d))
  | .pdelayReq =>
    let seq := (ptpDom m d).pdSeq
    let m := m.onDom d fun b => { b with pdSeq := (seq + 1) % 2 ^ 16, reqAt := [] }
    m.each (sendingPorts m d none) fun p m =>
      m.sendPtp p (ptpOut m d p .pdelayReq seq false 0 0 (announceData m d)) (some (65 + d))

/-- The answer to a Pdelay_Req: two-step with the receipt stamp and then the egress stamp, or one-step with the turnaround in its
correction; until it leaves, a one-step answer holds the receipt stamp. -/
def Mach.answerPdelay (m : Mach) (d port : Nat) (p : PtpMsg) : Mach :=
  m.sendPtp port
    (ptpOut m d port .pdelayResp p.seqId.toNat (m.on (PTP_DOM_two_step.nth d)) p.corr (ingressStamp m port p) (announceData m d))
    (some (65 + d))

/-! ### What a received message does -/

/-- An Announce: its sender is heard, and the best-master algorithm runs (R105). -/
def Mach.announceRx (m : Mach) (d port : Nat) (p : PtpMsg) : Mach :=
  let same := fun f : Foreign => f.port == port && f.clock == p.clockId && f.portNum == p.portNum
  let heard := match (ptpDom m d).foreign.find? same with | some f => f.heard | none => []
  let f : Foreign := {
    port := port, clock := p.clockId, portNum := p.portNum, heard := m.now :: heard.take 3, ann := p.ann, logInt := p.logInt }
  let m := m.onDom d fun b => { b with foreign := f :: b.foreign.filter fun x => !same x }
  let m := m.bmca d
  if isMaster (ptpDom m d) f then
    (m.onDom d fun b => { b with tlvs := p.ann.tlvs }).arm (.announce d) (m.now + lossBudget m d p.logInt)
  else m

/-- A valid Sync of the selected master: the loss budget begins again, and the domain is qualified (R97). -/
def Mach.validSync (m : Mach) (d port : Nat) (p : PtpMsg) : Mach :=
  let dom := ptpDom m d
  match dom.foreign.find? (isMaster dom) with
  | some f =>
    if f.port = port ∧ f.clock = p.clockId ∧ f.portNum = p.portNum then
      let m := m.arm (.syncLoss d) (m.now + lossBudget m d f.logInt)
      m.setQualified (d + 1) true
    else m
  | none => m

/-- An event message kept for a follow-up; it takes the place of an older one with its port, type and number. -/
def Mach.await (m : Mach) (d port : Nat) (p : PtpMsg) : Mach :=
  let w : PtpWait := {
    port := port, kind := p.kind, seq := p.seqId.toNat, stamp := ingressStamp m port p, corr := p.corr, at_ := m.now, req := p.stamp }
  m.onDom d fun b => { b with waits := w :: b.waits.filter fun x => !(x.port == w.port && x.kind == w.kind && x.seq == w.seq) }

/-- The mean link delay of a port from the four stamps of a peer-delay exchange and the corrections. -/
def Mach.linkDelay (m : Mach) (d port : Nat) (t4 turn corr : Int) : Mach :=
  match ((ptpDom m d).reqAt.find? fun e => e.1 == port) with
  | some (_, t1) => m.setFld PTP_PSTS_pdelay port (min 65535 ((t4 - t1 - turn - corr) / 2).toNat)
  | none => m

/-- Does a response answer the last request of the domain? -/
def answersUs (m : Mach) (d : Nat) (p : PtpMsg) : Bool := (ptpDom m d).pdSeq == (p.seqId.toNat + 1) % 2 ^ 16

/-- A received PTP frame (R108): discarded and counted at the first check it fails, else used. -/
def Mach.ptpRx (m : Mach) (port : Nat) (fr : Frame) : Mach :=
  match checkPtp m port fr with
  | .error n =>
    let m := m.count PTP_RX_BAD_n
    let m := if n = 5 then m.event 0x06 5 else m
    m.event 0x06 7
  | .ok (p, d) =>
    match p.kind with
    | .announce => m.announceRx d port p
    | .sync => let m := m.await d port p; if p.twoStep then m else m.validSync d port p
    | .followUp => m.validSync d port p
    | .pdelayReq => m.answerPdelay d port p
    | .pdelayResp =>
      let m := m.await d port p
      if p.twoStep then m
      else if answersUs m d p then m.linkDelay d port (ingressStamp m port p) 0 p.corr else m
    | .pdelayRespFollowUp =>
      match matching m d port p .pdelayResp with
      | some w => if answersUs m d p then m.linkDelay d port w.stamp (p.stamp - w.req) (w.corr + p.corr) else m
      | none => m
    | .other => m

/-- The announce receipt timeout of a domain (R97): the master that went silent is forgotten; listening ports become masters. -/
def Mach.announceTimeout (m : Mach) (d : Nat) : Mach :=
  let dom := ptpDom m d
  if dom.master.isSome then
    let m := (m.count (PTP_ANN_TMO_n.nth d)).event 0x06 (2 + d)
    (m.onDom d fun b => { b with foreign := b.foreign.filter fun f => !isMaster dom f }).bmca d
  else m.becomeMasters d

/-! ### The PTP page takes effect -/

/-- A domain begins: its ports listen, and its intervals and its announce receipt timeout run. -/
def Mach.domStart (m : Mach) (d : Nat) : Mach :=
  let m := m.arm (.announce d) (m.now + lossBudget m d 0)
  let m := m.each [PtpTx.announce, .sync, .pdelayReq] fun k m => m.arm (.ptpTx d k) (m.now + 1000000000)
  m.each (domPorts m d) fun p m => m.portState d 0 p 4

/-- A domain ends: nothing of it is kept, and it is not qualified. -/
def Mach.domStop (m : Mach) (d : Nat) : Mach :=
  let m := m.onDom d fun _ => {}
  let m := m.each [Timer.announce d, .syncLoss d, .ptpTx d .announce, .ptpTx d .sync, .ptpTx d .pdelayReq] fun t m => m.disarm t
  let m := m.each (List.range 16) fun p m => m.setFld (portStateFd d) p 3
  ((m.showMaster d none).setFld (PTP_DOM_OFS_ns.nth d) 0 0).setQualified (d + 1) false

/-- A set of the PTP page: a domain that is enabled or takes another number begins anew; ports join and leave; the best-master
algorithm runs under the new settings. -/
def Mach.ptpApply (m : Mach) (old : KMap Word) : Mach :=
  m.each [0, 1] fun d m =>
    let off := 0x040 + 4 * d
    let w := ((kget (regKey 0x06 off 0) old).getD (resetWord 0x06 off 0)).toNat
    let on := m.on (PTP_DOM_en.nth d)
    if on && bit w 0 && bits w 15 8 == m.cfg (PTP_DOM_domain.nth d) then
      let ports := domPorts m d
      let m := m.each (List.range 16) fun p m =>
        if !ports.contains p then m.setFld (portStateFd d) p 3
        else if m.fld (portStateFd d) p = 3 then m.portState d 0 p 4 else m
      (m.onDom d fun b => { b with foreign := b.foreign.filter fun f => ports.contains f.port }).bmca d
    else
      let m := if bit w 0 then m.domStop d else m
      if on then m.domStart d else m

/-! ### The commands -/

/-- R108: PTP_FRAME_RX. -/
def execPtpFrameRx (t : Nat) (port : Fin 16) (fr : Frame) (s : State) : Host.Outcome State Fault Refusal :=
  s.run t fun m => (m.timeDue).ptpRx port fr

/-- R97: ANNOUNCE_RECEIPT_TIMEOUT. -/
def execAnnounceReceiptTimeout (t : Nat) (dom : Fin 2) (s : State) : Host.Outcome State Fault Refusal :=
  s.run t fun m => (m.timeDue).onExpiry (.announce dom) fun m => m.announceTimeout dom

/-- R97: SYNC_LOSS_BUDGET_EXPIRY. -/
def execSyncLossBudgetExpiry (t : Nat) (dom : Fin 2) (s : State) : Host.Outcome State Fault Refusal :=
  s.run t fun m => (m.timeDue).onExpiry (.syncLoss dom) fun m => m.setQualified (dom.val + 1) false

/-- R105: PTP_TX_INTERVAL_EXPIRY. -/
def execPtpTxIntervalExpiry (t : Nat) (dom : Fin 2) (k : PtpTx) (s : State) : Host.Outcome State Fault Refusal :=
  s.run t fun m => m.onExpiry (.ptpTx dom k) fun m => m.ptpInterval dom k

end Sys2Proof.Machine
end

