-- ==== Sys2Proof/Machine/AdmRun.lean ====
section
/-! DEFINITION. How settings come into force: what each page does when its set takes effect (R41, R42), the run of admission
(R179, R187), the share-frame boundary (R176), and the last step of a start (R410). -/

namespace Sys2Proof.Machine

/-! ### What a page does when its values take effect -/

/-- A field of a word in force in an earlier table. -/
def oldCfg (old : KMap Word) (f : Fd) (idx : Nat := 0) : Nat :=
  bits ((kget (regKey f.page f.off idx) old).getD (resetWord f.page f.off idx)).toNat f.hi f.lo

/-- Did any of these fields change? -/
def changedIn (m : Mach) (old : KMap Word) (fs : List Fd) (idx : Nat := 0) : Bool := fs.any fun f => oldCfg old f idx != m.cfg f idx

/-- A set of a MAC page: speed and FEC (R294), EEE (R303), the supervision frames of its pair (R310). -/
def Mach.macApply (m : Mach) (e : Nat) (old : KMap Word) : Mach :=
  let m := if changedIn m old [MAC_CTRL_speed.onPort e, MAC_CTRL_fec.onPort e, MAC_CTRL_if1g.onPort e, MAC_CTRL_an.onPort e]
    then m.speedChange e else m
  let m := if changedIn m old [MAC_EEE_en.onPort e, MAC_EEE_idle.onPort e, MAC_EEE_tw_def.onPort e] then m.eeeChange e else m
  let k := e / 2
  if redMode m k = 0 then m.disarm (.supRed k)
  else if m.running (.supRed k) then m else m.arm (.supRed k) (m.now + m.cfg (MAC_RED_sup_int.onPort (2 * k)) * 1000000)

/-- A commit of the DRT page: logging starts, restarts after a change or a fault, or ends (R281, R283, R284). -/
def Mach.drtApply (m : Mach) (old : KMap Word) : Mach :=
  m.each (List.range 64) fun p m =>
    if !m.on DRT_CTRL_en p then m.setFlag DRT_STS_active p false
    else if m.flag DRT_STS_active p && !changedIn m old [DRT_CTRL_en, DRT_CTRL_size, DRT_RING_LO_lo, DRT_RING_HI_hi] p then m
    else
      let none_ := m.cfg DRT_CTRL_size p == 0
      let m := ((m.setFlag DRT_STS_active p true).setFlag DRT_STS_fault p false).setFlag DRT_STS_bitmap p none_
      let m := ((m.setFld DRT_PROD_prod p 0).setFld DRT_CONS_cons p 0).onPart p fun b => { b with recent := [] }
      if none_ then m.event 0x34 0 (.part p) else m

/-- The manager watchdog armed anew, or stopped with timeout 0 (R407). -/
def Mach.armWatchdog (m : Mach) : Mach :=
  let t := m.cfg RST_WDOG_timeout
  if t = 0 then m.disarm .watchdog else m.arm .watchdog (m.now + t * 1000000)

/-- What a page does once its values are in force. `old` and `oldBulk` are the values in force before, `keep` the records of the
last-gasp area then. -/
def Mach.pageHook (m : Mach) (page : Nat) (old : KMap Word) (oldBulk : List Host.Cell) (keep : List Rec) : Mach :=
  match page with
  | 0x01 => if changedIn m old [RST_WDOG_act, RST_WDOG_timeout] then m.armWatchdog else m
  | 0x02 => if oldCfg old PACE_ARB_fair == 1 && !m.on PACE_ARB_fair then m.unfair else m
  | 0x03 => if m.cfg RIM_DBG_allow < m.fld RIM_STS_dbg then m.debugLock else m
  | 0x05 => m.timeApply old
  | 0x06 => m.ptpApply old
  | 0x07 => m.coilApply old keep
  | 0x09 => m.dspApply old
  | 0x0C => m.pubApply old oldBulk
  | 0x0D => m.acqApply old
  | 0x0E => m.nrgApply old
  | 0x0F => m.plsApply old
  | 0x10 => m.tryRanding
  | 0x11 => m.fwdApply
  | 0x30 => m.pltApply
  | 0x31 => m.twnApply
  | 0x32 => m.vrtApply
  | 0x34 => m.drtApply old
  | p => if 0x20 ≤ p ∧ p ≤ 0x2F then m.macApply (p - 0x20) old else m

/-- Pages whose held values take effect together: the values of all, their PAGE_GEN, then what each page does. -/
def Mach.takeEffect (m : Mach) (pages : List Nat) : Mach :=
  let old := m.force
  let oldBulk := m.bulkF
  let keep := lgRecs m
  let m := { m with adm := { m.adm with used := pages ++ m.adm.used.filter fun p => !pages.contains p } }
  let m := m.each pages fun p m => (m.takePage p).count (hGen p)
  let m := if pages.any admittedPage then m.sviApply old oldBulk else m
  m.each pages fun p m => m.pageHook p old oldBulk keep

/-! ### Figures of the set in force -/

/-- The frame sizes of the control blocks under some settings (PUB_GCB_SIZE). -/
def Mach.showSizes (m : Mach) (g : Gen) : Mach :=
  let blocks := (enabledIn g.force PUB_GCB_CTRL_en ++ enabledIn m.force PUB_GCB_CTRL_en).eraseDups
  m.each blocks fun b m => m.setFld PUB_GCB_SIZE_size b (if g.on PUB_GCB_CTRL_en b then gcbBytes g b else 0)

/-- What ADM and the blocks report of the set in force (R185, R187, R302, R340). -/
def Mach.showSet (m : Mach) : Mach :=
  let g := genNow m
  let (u, core) := highestUse g
  let (r, slot) := worstFast g
  let m := m.setFld ADM_STS_div 0 g.division
  let m := (m.setFld ADM_UMAX_u 0 (min 1023 u)).setFld ADM_UMAX_core 0 core
  let m := (m.setFld ADM_FAST_WORST_resp 0 (min (2 ^ 20 - 1) r)).setFld ADM_FAST_WORST_slot 0 slot
  let m := (m.setFld ADM_SLOTS_total 0 g.slots.length).setFld ADM_SLOTS_fast 0 (countIf g.fast g.slots)
  let m := (m.setFld MSR_LOAD_k 0 (closeTicks g)).setFld MSR_LOAD_t_set 0 (min (2 ^ 16 - 1) (ceilDiv (tSet g) 100))
  let m := m.setFld PUB_BUILD_t 0 (min (2 ^ 16 - 1) (ceilDiv (buildTime g) 10))
  let m := m.each (List.range 16) fun e m =>
    (m.setFlag (MAC_STS_deadline.onPort e) 0 (carries g e)).setFld QOS_BOUND_bound e (min (2 ^ 16 - 1) (largestBound g e))
  m.each (List.range 8) fun k m => m.setFld (GLB_CFG_DIG_digest.nth k) 0 ((configDigest m).toNat / 2 ^ (32 * (7 - k)))

/-! ### The end of a start (R410, R411) -/

/-- The sources that a start found active at step 2 fire (R386, R411). -/
def Mach.fireStart (m : Mach) : Mach :=
  let srcs := m.rim.fired
  let m := m.onRim fun r => { r with fired := [] }
  let m := m.each srcs fun s m => m.setActive s (if s = 0 then m.rim.lidOpen else m.rim.meshCut)
  m.violate srcs

/-- Step 7: phase 4, RDY_OUT high, RST event bit 0. -/
def Mach.stepSeven (m : Mach) : Mach :=
  let m := (m.setFld RST_STS_phase 0 4).emit (.rdy true)
  let m := m.setFld RST_T_READY_ms 0 ((m.now - m.rst.began) / 1000000)
  let m := ({ m with rst := { m.rst with starting := false } }).event 0x01 0
  m.fireStart

/-- The start stops unconfigured: phase 5. -/
def Mach.stopStart (m : Mach) : Mach :=
  let m := { m with rst := { m.rst with starting := false } }
  (m.setFld RST_STS_phase 0 5).fireStart

/-! ### The run (R179, R180, R187) -/

/-- Is a page's staged set under admission: in the run, or admitted and waiting for its boundary? -/
def underAdmission (m : Mach) (page : Nat) : Bool :=
  (match m.adm.run with
   | some r => r.pages.contains page
   | none => false) || (m.adm.due.getD []).contains page

/-- The pages a run is asked for: those with a staged set that does not wait for its boundary already (log 81). -/
def runPages (m : Mach) : List Nat := (stagedPages m).filter fun p => !(m.adm.due.getD []).contains p

/-- A run starts on the set that is staged; while one is in progress none does. The result says whether it did. -/
def Mach.startRun (m : Mach) (check : Bool) (by_ : RunBy) : Mach × Bool :=
  match m.adm.run with
  | some _ => (m, false)
  | none =>
    let run : AdmRun := { check := check, by_ := by_, since := m.now, pages := runPages m }
    (({ m with adm := { m.adm with run := some run } }).setFld ADM_STS_state 0 (if check then 2 else 1), true)

/-- The result of a run in the registers of ADM (R187). -/
def Mach.showResult (m : Mach) (r : AdmRun) (f : Option AdmFail) : Mach :=
  let x : AdmFail := f.getD { code := 0 }
  let m := (m.setFld ADM_STS_code 0 x.code).setFld ADM_STS_state 0 0
  let m := (m.setFld ADM_REF_WHERE_detail 0 x.detail).setFlag ADM_REF_WHERE_slot_valid 0 x.slot.isSome
  let m := m.setFld ADM_REF_WHERE_slot 0 (x.slot.getD 0)
  let m := (m.setFld ADM_REF_VALUE_v 0 (min (2 ^ 32 - 1) x.value)).setFld ADM_REF_LIMIT_v 0 (min (2 ^ 32 - 1) x.limit)
  (m.setFld ADM_RUN_TIME_us 0 (min (2 ^ 32 - 1) ((m.now - r.since) / 1000))).count ADM_RUNS_n

/-- The staged set discarded (R42): held values return to those in force, and each page records reason 0x0A. -/
def Mach.discardSet (m : Mach) (pages : List Nat) : Mach :=
  let m := m.each pages fun p m => ((m.revertPage p).setFlag (hStaged p) 0 false).reject p .internal 0x028 0x0A 0
  m.showSizes (genNow m)

/-- The outcome of an admit run (R42, R177, R179). -/
def Mach.settleSet (m : Mach) (pages : List Nat) (f : Option AdmFail) : Mach :=
  match f with
  | none => ({ m with adm := { m.adm with due := some (m.adm.due.getD [] ++ pages) } }).event 0x08 0
  | some _ =>
    let share := pages.contains 0x09 && (heldGen m).division != (genNow m).division
    let m := ((m.count ADM_REFUSALS_n).discardSet pages).event 0x08 1
    if share then m.event 0x08 3 else m

/-- The payload of an ADMIT response (R187). -/
def admitPayload (code : Nat) (g : Gen) : List Byte := bytesBE 1 code ++ bytesBE 1 g.division ++ bytesBE 2 g.slots.length ++ bytesBE 4 0

/-- The answer to whoever asked for the run: the response of ADMIT, or the start and the application of an image (R414). -/
def Mach.answerRun (m : Mach) (r : AdmRun) (g : Gen) (f : Option AdmFail) : Mach :=
  let code := match f with
    | some x => x.code
    | none => 0
  match r.by_ with
  | .register _ => m
  | .vrelti tr tag => m.finishTag tr tag (if f.isSome then 0x0A else 0x00) (admitPayload code g)
  | .start =>
    let m := m.setFld RST_STS_adm_code 0 code
    if f.isNone then m
    else
      let m := if r.cmd then m.revertPage 0x36 else m
      let m := m.event 0x01 3
      if m.rst.starting then m.stopStart else m

/-- A run completes. -/
def Mach.admDone (m : Mach) : Mach :=
  match m.adm.run with
  | none => m
  | some r =>
    let whole := m.adm.due.getD [] ++ r.pages
    let f := verdict m whole
    let g := candidate m whole
    let m := { m with adm := { m.adm with run := none, report := reportOf m whole } }
    let m := m.showResult r f
    let m := if r.check then m.event 0x08 2 else m.settleSet r.pages f
    m.answerRun r g f

/-! ### The share-frame boundary (R42, R176, R410) -/

/-- An admitted set takes effect. A copy to the twin in progress fails (R245). -/
def Mach.applySet (m : Mach) (pages : List Nat) : Mach :=
  let m := { m with adm := { m.adm with due := none } }
  let m := m.each pages fun p m => m.setFlag (hStaged p) 0 false
  let m := ((m.failCopy).takeEffect pages).showSet
  if m.fld RST_STS_phase = 4 then m else m.stepSeven

/-- A share frame begins: the manager window opens, and an admitted set takes effect. It begins only at a multiple of 1 ms. -/
def Mach.shareFrame (m : Mach) : Mach :=
  if m.now % 1000000 ≠ 0 then m else
    let m := (m.runJobs).onDsp fun d => { d with mgrOpen := true }
    match m.adm.due with
    | some pages => m.applySet pages
    | none => m

/-! ### Commands -/

/-- R187: ADMISSION_COMPLETE. -/
def execAdmissionComplete (t : Nat) (s : State) : Host.Outcome State Fault Refusal := s.run t fun m => m.admDone

/-- R176: SHARE_FRAME_BOUNDARY. -/
def execShareFrameBoundary (t : Nat) (s : State) : Host.Outcome State Fault Refusal := s.run t fun m => m.shareFrame

end Sys2Proof.Machine
end

