-- ==== Sys2Proof/Machine/Access.lean ====
section
/-! DEFINITION. Accesses to pages (R8–R11, R33–R44, R90, R94, R440): reads and what they take with them, the rejection of a write
and the order of its reasons, what an accepted write does, commit, unlock and soft reset. -/

namespace Sys2Proof.Machine

/-! ### Reads -/

/-- Registers whose low word captures the whole value for the reader (R94, R317): page of the block and offset. -/
def capturing (page off : Nat) : Bool :=
  [(0x05, 0x040), (0x0A, 0x048), (0x31, 0x084), (0x31, 0x08C), (0x31, 0x094), (0x20, 0x090), (0x20, 0x098)].contains (blockOf page, off)

/-- The other status registers of two words that change while the module runs: a read of the first word holds the second for the
reader's next read of it, so that the two make one value (R11, log 79). -/
def pairing (page off : Nat) : Bool := [(0x05, 0x06C), (0x06, 0x058), (0x06, 0x060), (0x0E, 0x088)].contains (blockOf page, off)

/-- The key of a captured word. -/
def captKey (src : Src) (page off : Nat) : Nat := (Src.code src) * 2 ^ 40 + regKey page off 0

/-- A read of a word by a source (R90, R94, R111): the word, and what the read itself changes. The high word of a captured register
reads live to a source that has not read the low word since the module reset (log 80). -/
def Mach.readAccess (m : Mach) (src : Src) (page off : Nat) : Word × Mach :=
  let m := if page = 0x06 then m.settleStamps (m.fld PTP_PSEL_port) else m
  let w := readWord m page off
  if capturing page off then (w, { m with capt := kput (captKey src page (off + 4)) (readWord m page (off + 4)) m.capt })
  else if page = 0x06 ∧ off = 0x0AC then (w, m.popStamp (m.fld PTP_PSEL_port))
  else if capturing page (off - 4) then ((kget (captKey src page off) m.capt).getD w, m)
  else if pairing page off then (w, { m with capt := kput (captKey src page (off + 4)) (readWord m page (off + 4)) m.capt })
  else if pairing page (off - 4) then ((kget (captKey src page off) m.capt).getD w, { m with capt := kdel (captKey src page off) m.capt })
  else (w, m)

/-! ### The rejection of a write -/

/-- Is an RW register a selector to which R90 applies? -/
def isSelector (page : Nat) (d : RegDef) : Bool :=
  (regsOf page).any fun r => match r.sel with
    | .none => false
    | .one f => f.off == d.off
    | .two f g => f.off == d.off || g.off == d.off

/-- Has a register an RWL field? -/
def hasRwl (d : RegDef) : Bool := d.flds.any fun f => f.acc == .rwl

/-- Has a register a field that a write reaches (R8)? -/
def writable (d : RegDef) : Bool := d.flds.any fun f => f.acc != .ro

/-- Is a value within the defined range of a field (R10)? -/
def inRange (f : Fld) (v : Nat) : Bool :=
  let x := bits v f.hi f.lo
  match f.rng with
  | .any => true
  | .between lo hi => decide (lo ≤ x) && decide (x ≤ hi)
  | .zeroOr lo hi => x == 0 || (decide (lo ≤ x) && decide (x ≤ hi))
  | .oneOf vs => vs.contains x
  | .signedBetween lo hi => decide (lo ≤ asSigned (f.hi + 1 - f.lo) x) && decide (asSigned (f.hi + 1 - f.lo) x ≤ hi)

/-- The two indices that R44 lists as no configuration. -/
def indexReg (page off : Nat) : Bool := (page == 0x32 && off == 0x07C) || (page == 0x34 && off == 0x05C)

/-- Is a write a configuration write (R44): would it change an RWL field, PAGE_CTRL.enable, or an RW field that R44 does not
except? -/
def configWrite (m : Mach) (page off v : Nat) : Bool :=
  if off < 0x040 then
    match off with
    | 0x00C => bit v 0 != m.flag (hEnable page)
    | 0x018 => v != m.fld (hEvtEn page)
    | 0x01C => v != m.fld (hSev page)
    | _ => false
  else match findReg page off with
    | none => false
    | some d =>
      let old := (m.reg page off (selIndex m d)).toNat
      d.flds.any fun f => (f.acc == .rwl || (f.acc == .rw && !isSelector page d && !indexReg page off))
        && bits v f.hi f.lo != bits old f.hi f.lo

/-- Does an admitted configuration use a page (R37): has a set taken effect on it since the module reset, or is one staged? -/
def inUse (m : Mach) (page : Nat) : Bool := admittedPage page && (m.adm.used.contains page || m.flag (hStaged page))

/-- Reasons 1 to 10 of R440 that concern a header word other than PAGE_LOCK, after 0x05 and 0x0B. -/
def headerRefusal (m : Mach) (page off v : Nat) : Option Nat :=
  match off with
  | 0x000 | 0x004 | 0x008 | 0x010 | 0x024 | 0x02C => some 0x01
  | 0x00C => if v / 8 ≠ 0 then some 0x03 else if bit v 2 && inUse m page then some 0x08 else none
  | 0x014 | 0x018 => none
  | 0x01C => if v.land 0x88888888 ≠ 0 then some 0x03 else none
  | 0x020 => if bits v 29 24 ≠ 0 then some 0x03 else none
  | _ => if v ≠ 0 then some 0x03 else none

/-- RIM_CLEAR (R390): 0x01 unless it comes through Vrelti; 0x02 unless key, sources and command key are as R390 asks. -/
def rimClearRefusal (m : Mach) (src : Src) (v : Nat) : Option Nat :=
  let calm := (List.range 7).all fun s => !bit (m.fld RIM_ACTIVE_src) s || policyOf m s == 0
  let keyed := fun tr => (m.keyFor (authSlot m tr) 1).isSome
  match src with
  | .pcie => if v = 0x5EA10003 ∧ calm = true ∧ keyed .pcie = true then none else some 0x02
  | .udp => if v = 0x5EA10003 ∧ calm = true ∧ keyed .udp = true then none else some 0x02
  | _ => some 0x01

/-- Ranges that a chapter states beside the field tables: the keys of RST_CMD, the indices that must not pass others (R264, R266,
R282), and the twin's unicast address. -/
def specialRefusal (m : Mach) (page off v idx : Nat) : Option Nat :=
  match page, off with
  | 0x01, 0x044 => if v = 0x5EA10004 ∨ v = 0x5EA10005 then none else some 0x02
  | 0x0C, 0x048 => if bit v 8 then some 0x02 else none
  | 0x32, 0x07C =>
    if 2 ^ m.cfg VRT_MGR_RING_log2 < (v % 2 ^ 16 + 2 ^ 16 - m.fld VRT_MGR_IDX_cons) % 2 ^ 16 then some 0x02 else none
  | 0x34, 0x05C =>
    let prod := m.fld DRT_PROD_prod idx
    if (prod + 2 ^ 16 - m.fld DRT_CONS_cons idx) % 2 ^ 16 < (prod + 2 ^ 16 - v % 2 ^ 16) % 2 ^ 16 then some 0x02 else none
  | _, _ => none

/-- Reasons 6 to 10 of R440 that concern a block register. -/
def blockRefusal (m : Mach) (src : Src) (page off v : Nat) : Option Nat :=
  match findReg page off with
  | none => if v ≠ 0 then some 0x03 else none
  | some d =>
    if m.flag (hCommitted page) && hasRwl d then some 0x04
    else if !writable d then some 0x01
    else if page = 0x03 ∧ off = 0x050 then rimClearRefusal m src v
    else if v.land (2 ^ 32 - 1 - accMask d [.ro, .rw, .w1c, .wo, .rwl]) ≠ 0 then some 0x03
    else if !(d.flds.all fun f => f.acc == .ro || inRange f v) then some 0x02
    else specialRefusal m page off v (selIndex m d)

/-- Does a write ask for an admission run while one is in progress (R179)? -/
def secondRun (m : Mach) (page off v : Nat) : Bool := page == 0x08 && off == 0x040 && bits v 1 0 != 0 && m.adm.run.isSome

/-- The reason an aligned word write to a mapped page is rejected with, if any, PAGE_LOCK apart (R440). On a page under admission 0x0B
refuses configuration writes only (log 84). -/
def wordRefusal (m : Mach) (src : Src) (page off v : Nat) : Option Nat :=
  let config := configWrite m page off v
  if rimLocked m && config then some 0x05
  else if (underAdmission m page && config) || secondRun m page off v then some 0x0B
  else if off < 0x040 then headerRefusal m page off v
  else blockRefusal m src page off v

/-- The reason a write to PAGE_LOCK is rejected with, if any (R41, R43, R44, R440). -/
def lockRefusal (m : Mach) (src : Src) (page v : Nat) : Option Nat :=
  if v ≠ 0x5EA10001 ∧ v ≠ 0x5EA10002 then some 0x02
  else if src = .debug then some 0x01
  else if rimLocked m then some 0x05
  else if v = 0x5EA10002 then (if underAdmission m page then some 0x0B else none)
  else if m.flag (hCommitted page) then none
  else commitRefusal m page

/-! ### Soft reset (R37, R409) -/

/-- Words a block soft reset leaves: those marked Stored, Fused, Booted or Per start, counters kept in flash, measured values, and
what R409 keeps. -/
def keptWord (page off : Nat) : Bool :=
  match page with
  | 0x00 => true
  | 0x01 => off != 0x060
  | 0x03 => off != 0x04C
  | 0x04 => [0x044, 0x048, 0x050].contains off
  | 0x05 => [0x040, 0x044, 0x048, 0x06C, 0x070].contains off
  | 0x07 => off == COIL_LG_STS_present.off
  | 0x0F => [0x04C, 0x050].contains off
  | 0x32 => [0x048, 0x07C].contains off
  | _ => false

/-- A word after a soft reset: its RW and RWL fields stay, the rest is at reset. -/
def resetEntry (e : Nat × Word) : Nat × Word :=
  let page := keyPage e.1
  let off := keyOff e.1
  let mask := word ((findReg page off).map (accMask · [.rw, .rwl]) |>.getD 0)
  (e.1, (e.2 &&& mask) ||| (resetWord page off (keyIdx e.1) &&& ~~~ mask))

/-- Is a held word one that a soft reset of a page returns to its reset value? -/
def resetsWord (page k : Nat) : Bool := keyPage k == page && decide (0x040 ≤ keyOff k) && !keptWord page (keyOff k)

/-- The timers of a block that a soft reset stops. -/
def blockTimer (page : Nat) (t : Timer) : Bool :=
  match t with
  | .slewDone | .primaryReturn | .bridging | .holdLimit | .ppsIn | .ppsWidth => page == 0x05
  | .announce _ | .syncLoss _ | .ptpTx _ _ => page == 0x06
  | .overCurrent _ => page == 0x0E
  | .stored _ _ => page == 0x36
  | _ => false

/-- The typed state of a block begins again (R409). -/
def Mach.resetBlock (m : Mach) (page : Nat) : Mach :=
  match page with
  | 0x02 => { m with pace := { windowAt := m.now, warp := m.pace.warp } }
  | 0x03 => m.debugLock
  | 0x05 => let m := m.ppsLow
    { m with time := { epoch := m.time.epoch } }
  | 0x06 => { m with ptp := {} }
  | 0x08 => { m with adm := { due := m.adm.due, used := m.adm.used } }
  | 0x0A => { m with svi := { grids := m.svi.grids, gens := m.svi.gens } }
  | 0x0B => { m with msr := {} }
  | 0x0D => m.each (List.range 64) fun u m => m.acqRestart u
  | 0x0E => m.each (nrgPoints m) fun p m => m.ptStart p
  | 0x10 => ({ m with swc := { learnt := m.swc.learnt } }).when (m.flag (hEnable 0x10)) (·.startSelfTest) |>.showMem
  | 0x11 => ({ m with swc := { m.swc with learnt := [] } }).showLearnt
  | 0x30 => { m with twn := { m.twn with lane0 := { lock := m.twn.lane0.lock }, lane1 := { lock := m.twn.lane1.lock } } }
  | 0x34 => (m.each (List.range 64) fun p m => (m.setFld DRT_CONS_cons p 0).onPart p fun b => { b with recent := [] })
  | 0x36 =>
    ({ m with cmd := { m.cmd with out := [], stored := [], waiting := [], unfetched := [], ready := [], parts := [], loads := [] } })
      |>.newSession
  | 0x37 => { m with cdc := [] }
  | p =>
    if 0x20 ≤ p ∧ p ≤ 0x2F then
      let e := p - 0x20
      let m := (m.macEnable e false).onPort e fun b => { fault := b.fault, sgmiiOk := b.sgmiiOk }
      m.when (m.flag (hEnable p)) (·.macEnable e true)
    else m

/-- A soft reset begins: the block's state, counters and PAGE_EVT go to their reset values, and reset_busy reads 1 for at most
10 µs. -/
def Mach.softReset (m : Mach) (page : Nat) : Mach :=
  let mac := decide (0x20 ≤ page ∧ page ≤ 0x2F)
  let locked := mac && m.flag (MAC_STS_lock.onPort (page - 0x20))
  let m := { m with
    regs := m.regs.map fun (e : Nat × Word) => if resetsWord page e.1 then resetEntry e else e
    timers := m.timers.filter fun (e : Timer × Nat) => !blockTimer page e.1 }
  let m := m.when locked fun m => m.setFlag (MAC_STS_lock.onPort (page - 0x20)) 0 true
  let m := (m.resetBlock page).setFld (hEvt page) 0 0
  (m.setFlag (hBusy page) 0 true).arm (.softReset page) (m.now + 10000)

/-- A soft reset completes. -/
def Mach.softResetDone (m : Mach) (page : Nat) : Mach := m.onExpiry (.softReset page) fun m => m.setFlag (hBusy page) 0 false

/-! ### Accepted writes -/

/-- PAGE_CTRL.enable changes: a MAC leaves or enters Disabled (R293), an enabled switch core starts its self-test (R331). -/
def Mach.enableHook (m : Mach) (page : Nat) (on : Bool) : Mach :=
  if 0x20 ≤ page ∧ page ≤ 0x2F then m.macEnable (page - 0x20) on
  else if page = 0x10 ∧ on = true then m.startSelfTest
  else m

/-- PAGE_CTRL (R36, R37). -/
def Mach.writeCtrl (m : Mach) (src : Src) (page : Nat) (v : Word) : Mach :=
  let en := bit v.toNat 0
  let fz := bit v.toNat 1
  let was := m.flag (hEnable page)
  let froze := m.flag (hFreeze page)
  let m := (m.setFlag (hEnable page) 0 en).setFlag (hFreeze page) 0 fz
  let m := if en == was then m else m.enableHook page en
  let others := m.frozen.filter fun e => e.1 != page
  let m := if fz then (if froze then m else { m with frozen := (page, freezeWords m page) :: others }) else { m with frozen := others }
  let m := m.when (bit v.toNat 2) (·.softReset page)
  m.auditWrite page src 0x00C v

/-- A header word other than PAGE_LOCK. -/
def Mach.writeHeader (m : Mach) (src : Src) (page off : Nat) (v : Word) : Mach :=
  match off with
  | 0x00C => m.writeCtrl src page v
  | 0x014 => (m.setReg page off 0 (m.reg page off 0 &&& ~~~ v)).auditWrite page src off v
  | 0x018 | 0x01C => (m.setReg page off 0 v).auditWrite page src off v
  | 0x020 => (m.when (bit v.toNat 31) fun m => (m.setReg page 0x020 0 0).setReg page 0x024 0 0).auditWrite page src off v
  | _ => m.auditWrite page src off v

/-- The fields of a register word written: RW and RWL set, W1C cleared by ones. -/
def Mach.storeWord (m : Mach) (page off idx : Nat) (v : Word) : Mach :=
  match findReg page off with
  | none => m
  | some d =>
    let set := word (accMask d [.rw, .rwl])
    let clr := word (accMask d [.w1c])
    let old := m.reg page off idx
    m.setReg page off idx (((old &&& ~~~ set) ||| (v &&& set)) &&& ~~~ (v &&& clr))

/-- The packet of a manager ring entry as it stands in memory. -/
def mgrPacket (m : Mach) (n : Nat) : RingPacket :=
  let at_ := cfg64 m VRT_MGR_RING_LO_lo VRT_MGR_RING_HI_hi 0 + n % 2 ^ m.cfg VRT_MGR_RING_log2 * 4096
  let b := memRead at_ 16 m.mem
  let len := natBE ((b.drop 4).take 2)
  {
    flags := nthD b 1 0, tag := nthD b 2 0, page := nthD b 3 0, length := BitVec.ofNat 16 len, status := nthD b 6 0
    rsv := nthD b 7 0, offset := word (natBE ((b.drop 8).take 4)), payload := memRead (at_ + 16) len m.mem }

/-- The entries between the consumer and the producer of the manager ring. -/
def mgrWaiting (m : Mach) : List RingPacket :=
  let cons := m.fld VRT_MGR_IDX_cons
  (List.range ((m.fld VRT_MGR_IDX_prod + 2 ^ 16 - cons) % 2 ^ 16)).map fun i => mgrPacket m (cons + i)

/-- VRT_CMD (R259, R277, R280): reset wins over start. -/
def Mach.vrtCommand (m : Mach) (v : Nat) : Mach :=
  let p := bits v 13 8
  let m := if bit v 0 then m.partReset p else if bit v 1 then m.partStart p else m
  if bit v 2 then m.slotReset (p * 64 + bits v 21 16) else m

/-- VRT_MIG_CMD (R286, R287): freeze, then thaw. -/
def Mach.migCommand (m : Mach) (v : Nat) : Mach :=
  let m := if bit v 0 then m.freezeCmd else m
  if bit v 1 then m.endFreeze false else m

/-- ADM_CTRL (R179): admit, which does all that check does; else check. -/
def Mach.admCtrl (m : Mach) (src : Src) (v : Nat) : Mach :=
  if bit v 0 then (m.startRun false (.register src)).1
  else if bit v 1 then (m.startRun true (.register src)).1
  else m

/-- The Rim returns to Open (R388, R390). -/
def Mach.rimOpen (m : Mach) : Mach :=
  if m.fld RIM_STS_state = 0 then m else ((m.setFld RIM_STS_state 0 0).setFld RIM_STS_cause 0 15).eventAlways 0x03 3

/-- RIM_CMD.sv_advance (R405). -/
def Mach.svAdvance (m : Mach) : Mach := m.raise RIM_BOOT_sv_min 0 (m.fld RIM_BOOT_sv)

/-- What an accepted write triggers beyond its fields. RST_CMD is apart (`Rst.lean`). -/
def Mach.act (m : Mach) (src : Src) (page off idx v : Nat) : Mach :=
  match page, off with
  | 0x01, 0x050 => if bit v 0 then m.armWatchdog else m
  | 0x02, 0x048 => if bit v 0 then m.clearPace else m
  | 0x03, 0x050 => m.rimOpen
  | 0x03, 0x058 => if bit v 0 then m.svAdvance else m
  | 0x07, 0x058 => m.coilCommand v
  | 0x07, 0x06C => if bit v 31 then m.clearFifoMax else m
  | 0x08, 0x040 => m.admCtrl src v
  | 0x09, 0x090 => m.slotCommand idx v
  | 0x0B, 0x04C => if bit v 0 then m.msrClear else m
  | 0x0D, 0x078 => m.acqCommand idx v
  | 0x0E, 0x074 => m.nrgCommand idx v
  | 0x0F, 0x058 => if bit v 0 then m.plsLatchAll else m
  | 0x10, 0x044 => m.swcCommand v
  | 0x10, 0x054 => if bit v 31 then m.setFld SWC_MEM_MAX_max 0 0 else m
  | 0x31, 0x06C => m.twnCommand v
  | 0x32, 0x04C => m.vrtCommand v
  | 0x32, 0x054 => m.migCommand v
  | 0x32, 0x07C => m.mgrRing (mgrWaiting m)
  | 0x34, 0x064 => if bit v 0 then m.rearm idx else m
  | _, _ => m

/-! ### Commit and unlock (R41–R44) -/

/-- An accepted commit. -/
def Mach.commit (m : Mach) (src : Src) (page : Nat) : Mach :=
  let m :=
    if m.flag (hCommitted page) then m
    else
      let m := m.setFlag (hCommitted page) 0 true
      if admittedPage page then
        let m := m.setFlag (hStaged page) 0 true
        if page = 0x0C then m.showSizes (heldGen m) else m
      else m.takeEffect [page]
  m.audit page 0x101 [word (Src.code src), m.reg page 0x02C 0, word (m.fld (hStaged page))]

/-- An accepted unlock: RWL fields writable, a staged page withdrawn (R43). -/
def Mach.unlock (m : Mach) (src : Src) (page : Nat) : Mach :=
  ((m.setFlag (hCommitted page) 0 false).setFlag (hStaged page) 0 false).audit page 0x102 [word (Src.code src)]

/-- A write to PAGE_LOCK of a mapped page, and the reason of its rejection. -/
def Mach.writeLock (m : Mach) (src : Src) (page : Nat) (v : Word) : Mach × Option Nat :=
  match lockRefusal m src page v.toNat with
  | some r => (m.reject page src 0x028 r v, some r)
  | none => (if v = 0x5EA10001 then m.commit src page else m.unlock src page, none)

/-! ### A word written -/

/-- The lower words of the register whose highest word stands at an offset. -/
def lowOffsets (page off : Nat) : List Nat := (regsOf page).filterMap fun d => if d.hiOff = some off then some d.off else none

/-- Held lower words forgotten. -/
def Mach.dropLows (m : Mach) (page idx : Nat) (offs : List Nat) : Mach := { m with low := offs.foldl (fun l o => kdel (regKey page o idx) l) m.low }

/-- An accepted write to a block register (R8, R11). -/
def Mach.writeBlockReg (m : Mach) (src : Src) (page off : Nat) (v : Word) (d : RegDef) : Mach :=
  let idx := selIndex m d
  if d.hiOff.isSome then { m with low := kput (regKey page off idx) (src, v) m.low }
  else
    let offs := lowOffsets page off
    let lows := offs.filterMap fun o => (kget (regKey page o idx) m.low).map fun e => (o, e)
    let m := m.each lows fun e m => m.storeWord page e.1 idx e.2.2
    let m := ((m.storeWord page off idx v).dropLows page idx offs).act src page off idx v.toNat
    if isSelector page d then m
    else (m.each lows fun e m => m.auditWrite page e.2.1 e.1 e.2.2).auditWrite page src off v

/-- A rejected word: the rejection, and the held lower words of its register discarded (R11). -/
def Mach.rejectWord (m : Mach) (src : Src) (page off : Nat) (v : Word) (reason : Nat) : Mach :=
  let idx := match findReg page off with
    | some d => selIndex m d
    | none => 0
  (m.dropLows page idx (lowOffsets page off)).reject page src off reason v

/-- Below level 2 the debug port writes nothing (R406); its attempts at PAGE_LOCK and RIM_CLEAR are rejected (R44, R390). -/
def debugIgnored (m : Mach) (src : Src) (page off : Nat) : Bool :=
  src == .debug && decide (m.fld RIM_STS_dbg < 2) && off != 0x028 && !(page == 0x03 && off == 0x050)

/-- An aligned word write, and the reason of its rejection (R33, R440). -/
def Mach.writeWord (m : Mach) (src : Src) (page off : Nat) (v : Word) : Mach × Option Nat :=
  if !mapped page then ((m.reject 0x00 src off 0x07 v).event 0x00 0, some 0x07)
  else if debugIgnored m src page off then (m, none)
  else if off = 0x028 then m.writeLock src page v
  else match wordRefusal m src page off v.toNat with
  | some r => (m.rejectWord src page off v r, some r)
  | none =>
    if off < 0x040 then (m.writeHeader src page off v, none)
    else match findReg page off with
    | none => (m.auditWrite page src off v, none)
    | some d => (m.writeBlockReg src page off v d, none)

/-- A rejection for width or alignment (R34): at the page, or at GLB for an unmapped one. -/
def Mach.rejectShape (m : Mach) (src : Src) (page off : Nat) (v : Word) : Mach :=
  m.reject (if mapped page then page else 0x00) src off 0x06 v

/-- A write of any width (R34): a 64-bit one as two words, the lower address first. -/
def Mach.writeAccess (m : Mach) (src : Src) (page off : Nat) (w : Width) (v : BitVec 64) : Mach :=
  let lo : Word := v.setWidth 32
  match w with
  | .byte | .half => m.rejectShape src page off lo
  | .word => if off % 4 = 0 then (m.writeWord src page off lo).1 else m.rejectShape src page off lo
  | .dword =>
    if off % 8 = 0 then ((m.writeWord src page off lo).1.writeWord src page (off + 4) ((v >>> 32).setWidth 32)).1
    else m.rejectShape src page off lo

/-- The bytes of its width that a read addresses in the word it lies in (R34). -/
def lane (w : Width) (off : Nat) (v : Word) : BitVec 64 :=
  match w with
  | .byte => BitVec.ofNat 64 (v.toNat / 2 ^ (8 * (off % 4)) % 2 ^ 8)
  | .half => BitVec.ofNat 64 (v.toNat / 2 ^ (8 * (off % 4)) % 2 ^ 16)
  | _ => v.setWidth 64

/-- The bytes of an access width. -/
def Width.bytes : Width → Nat
  | .byte => 1
  | .half => 2
  | .word => 4
  | .dword => 8

/-- A read by a source, driven back to it (R33, R34, R94): one that is not aligned is rejected and returns zero; a byte or halfword
is read out of its word, with what a read of that word does; 64 bits are two words, the lower address first. The debug port reads
from level 1 on (R406). -/
def Mach.readOut (m : Mach) (src : Src) (page off : Nat) (w : Width) : Mach :=
  if src = .debug ∧ m.fld RIM_STS_dbg = 0 then m
  else if off % Width.bytes w ≠ 0 then (m.rejectShape src page off 0).emit (.read src 0)
  else
    let (v, m) := m.readAccess src page (off / 4 * 4)
    if w = .dword then
      let (u, m) := m.readAccess src page (off + 4)
      m.emit (.read src (u ++ v))
    else m.emit (.read src (lane w off v))

end Sys2Proof.Machine
end

