-- ==== Sys2Proof/Machine/WriteRows.lean ====
section
/-! DEFINITION. The commands that are one access to a page: reads with a side effect, commit, unlock and soft reset, and writes of
command registers. Each is the write of its word, under the rules of every write. -/

namespace Sys2Proof.Machine

/-- A word written by a source. -/
def Mach.put (m : Mach) (src : Src) (page off v : Nat) : Mach := (m.writeWord src page off (word v)).1

/-- The manager ring's doorbell with the packets of the entries it passes (R266). -/
def Mach.mgrDoorbell (m : Mach) (src : Src) (prod : Nat) (pks : List RingPacket) : Mach :=
  if debugIgnored m src 0x32 0x07C then m
  else match wordRefusal m src 0x32 0x07C prod with
  | some r => m.rejectWord src 0x32 0x07C (word prod) r
  | none => ((m.storeWord 0x32 0x07C 0 (word prod)).auditWrite 0x32 src 0x07C (word prod)).mgrRing pks

/-- The word of PAGE_CTRL that asks for a soft reset and leaves the rest. -/
def softWord (m : Mach) (page : Nat) : Nat := m.fld (hEnable page) + 2 * m.fld (hFreeze page) + 4

/-- R94: LOW_WORD_CAPTURE_READ. -/
def execLowWordCaptureRead (t : Nat) (src : Src) (page : BitVec 8) (r : Span) (s : State) :
    Host.Outcome State Fault Refusal := s.run t fun m => m.readOut src page.toNat r.off.toNat r.width

/-- R111: PTP_TXS3_READ. -/
def execPtpTxs3Read (t : Nat) (src : Src) (s : State) : Host.Outcome State Fault Refusal := s.run t fun m => m.readOut src 0x06 0x0AC .word

/-- R41: PAGE_LOCK_COMMIT. -/
def execPageLockCommit (t : Nat) (src : Src) (page : BitVec 8) (s : State) : Host.Outcome State Fault Refusal :=
  s.run t fun m => m.put src page.toNat 0x028 0x5EA10001

/-- R43: PAGE_LOCK_UNLOCK. -/
def execPageLockUnlock (t : Nat) (src : Src) (page : BitVec 8) (s : State) : Host.Outcome State Fault Refusal :=
  s.run t fun m => m.put src page.toNat 0x028 0x5EA10002

/-- R37: SOFT_RESET. -/
def execSoftReset (t : Nat) (src : Src) (page : BitVec 8) (s : State) : Host.Outcome State Fault Refusal :=
  s.run t fun m => m.put src page.toNat 0x00C (softWord m page.toNat)

/-- R37: SOFT_RESET_COMPLETE. -/
def execSoftResetComplete (t : Nat) (page : BitVec 8) (s : State) : Host.Outcome State Fault Refusal :=
  s.run t fun m => m.softResetDone page.toNat

/-- R179: ADM_CTRL_ADMIT. -/
def execAdmCtrlAdmit (t : Nat) (src : Src) (s : State) : Host.Outcome State Fault Refusal := s.run t fun m => m.put src 0x08 0x040 1

/-- R179: ADM_CTRL_CHECK. -/
def execAdmCtrlCheck (t : Nat) (src : Src) (s : State) : Host.Outcome State Fault Refusal := s.run t fun m => m.put src 0x08 0x040 2

/-- R74: PACE_CLR_MINMAX. -/
def execPaceClrMinmax (t : Nat) (src : Src) (s : State) : Host.Outcome State Fault Refusal := s.run t fun m => m.put src 0x02 0x048 1

/-- R170: MSR_CLR_EXTREMES. -/
def execMsrClrExtremes (t : Nat) (src : Src) (s : State) : Host.Outcome State Fault Refusal := s.run t fun m => m.put src 0x0B 0x04C 1

/-- R259: PARTITION_START. -/
def execPartitionStart (t : Nat) (src : Src) (part : Fin 64) (s : State) : Host.Outcome State Fault Refusal :=
  s.run t fun m => m.put src 0x32 0x04C (part.val * 256 + 2)

/-- R277: PARTITION_RESET. -/
def execPartitionReset (t : Nat) (src : Src) (part : Fin 64) (s : State) : Host.Outcome State Fault Refusal :=
  s.run t fun m => m.put src 0x32 0x04C (part.val * 256 + 1)

/-- R280: SLOT_RESET. -/
def execSlotReset (t : Nat) (src : Src) (slot : Fin 4096) (s : State) : Host.Outcome State Fault Refusal :=
  s.run t fun m => m.put src 0x32 0x04C (slot.val % 64 * 65536 + slot.val / 64 * 256 + 4)

/-- R286: FREEZE. -/
def execFreeze (t : Nat) (src : Src) (s : State) : Host.Outcome State Fault Refusal := s.run t fun m => m.put src 0x32 0x054 1

/-- R287: THAW. -/
def execThaw (t : Nat) (src : Src) (s : State) : Host.Outcome State Fault Refusal := s.run t fun m => m.put src 0x32 0x054 2

/-- R266: MGR_RING_DOORBELL. -/
def execMgrRingDoorbell (t : Nat) (src : Src) (prod : BitVec 16) (pks : List RingPacket) (s : State) :
    Host.Outcome State Fault Refusal := s.run t fun m => m.mgrDoorbell src prod.toNat pks

/-- R283: DRT_REARM. -/
def execDrtRearm (t : Nat) (src : Src) (s : State) : Host.Outcome State Fault Refusal := s.run t fun m => m.put src 0x34 0x064 1

/-- R197: SLOT_RESUME. -/
def execSlotResume (t : Nat) (src : Src) (s : State) : Host.Outcome State Fault Refusal := s.run t fun m => m.put src 0x09 0x090 1

/-- R197: SLOT_CLR_MAX. -/
def execSlotClrMax (t : Nat) (src : Src) (s : State) : Host.Outcome State Fault Refusal := s.run t fun m => m.put src 0x09 0x090 2

/-- R254: TWN_CMD_SWAP. -/
def execTwnCmdSwap (t : Nat) (src : Src) (s : State) : Host.Outcome State Fault Refusal := s.run t fun m => m.put src 0x31 0x06C 1

/-- R246: TWN_CMD_LEAD. -/
def execTwnCmdLead (t : Nat) (src : Src) (s : State) : Host.Outcome State Fault Refusal := s.run t fun m => m.put src 0x31 0x06C 2

/-- R255: TWN_CMD_REJOIN. -/
def execTwnCmdRejoin (t : Nat) (src : Src) (s : State) : Host.Outcome State Fault Refusal := s.run t fun m => m.put src 0x31 0x06C 4

/-- R330: SWC_CMD_PAIRING. -/
def execSwcCmdPairing (t : Nat) (src : Src) (s : State) : Host.Outcome State Fault Refusal := s.run t fun m => m.put src 0x10 0x044 4

/-- R331: SWC_CMD_SELFTEST. -/
def execSwcCmdSelftest (t : Nat) (src : Src) (s : State) : Host.Outcome State Fault Refusal := s.run t fun m => m.put src 0x10 0x044 2

/-- R331: SWC_CMD_RANDING. -/
def execSwcCmdRanding (t : Nat) (src : Src) (s : State) : Host.Outcome State Fault Refusal := s.run t fun m => m.put src 0x10 0x044 1

/-- R321: SWC_MEM_MAX_CLEAR. -/
def execSwcMemMaxClear (t : Nat) (src : Src) (s : State) : Host.Outcome State Fault Refusal :=
  s.run t fun m => m.put src 0x10 0x054 0x80000000

/-- R347: ACQ_MANUAL_TRIGGER. -/
def execAcqManualTrigger (t : Nat) (src : Src) (s : State) : Host.Outcome State Fault Refusal := s.run t fun m => m.put src 0x0D 0x078 2

/-- R346: ACQ_RELEASE. -/
def execAcqRelease (t : Nat) (src : Src) (s : State) : Host.Outcome State Fault Refusal := s.run t fun m => m.put src 0x0D 0x078 1

/-- R360: NRG_LATCH. -/
def execNrgLatch (t : Nat) (src : Src) (s : State) : Host.Outcome State Fault Refusal := s.run t fun m => m.put src 0x0E 0x074 1

/-- R362: NRG_CLR_PEAK. -/
def execNrgClrPeak (t : Nat) (src : Src) (s : State) : Host.Outcome State Fault Refusal := s.run t fun m => m.put src 0x0E 0x074 2

/-- R368: PLS_LATCH. -/
def execPlsLatch (t : Nat) (src : Src) (s : State) : Host.Outcome State Fault Refusal := s.run t fun m => m.put src 0x0F 0x058 1

/-- R382: COIL_CMD_FLUSH. -/
def execCoilCmdFlush (t : Nat) (src : Src) (s : State) : Host.Outcome State Fault Refusal := s.run t fun m => m.put src 0x07 0x058 2

/-- R383: COIL_CMD_LG_CLEAR. -/
def execCoilCmdLgClear (t : Nat) (src : Src) (s : State) : Host.Outcome State Fault Refusal := s.run t fun m => m.put src 0x07 0x058 1

/-- R374: COIL_FIFO_CLEAR_MAX. -/
def execCoilFifoClearMax (t : Nat) (src : Src) (s : State) : Host.Outcome State Fault Refusal :=
  s.run t fun m => m.put src 0x07 0x06C 0x80000000

/-- R407: RST_KICK. -/
def execRstKick (t : Nat) (src : Src) (s : State) : Host.Outcome State Fault Refusal := s.run t fun m => m.put src 0x01 0x050 1

/-- R405: SV_ADVANCE. -/
def execSvAdvance (t : Nat) (src : Src) (s : State) : Host.Outcome State Fault Refusal := s.run t fun m => m.put src 0x03 0x058 1

end Sys2Proof.Machine
end

