-- ==== Sys2Proof/Machine/Image.lean ====
section
/-! DEFINITION. Bulk writes (R54), and configuration images (R412–R414): their form, their verification, and their application. -/

namespace Sys2Proof.Machine

/-! ### Bulk objects that software writes -/

/-- The size in bytes of a writable bulk object. -/
def bulkSize (page obj : Nat) : Option Nat :=
  match page, obj with
  | 0x07, 3 => some 34688
  | 0x0A, 0 => some 131072
  | 0x0B, 0 => some 147456
  | 0x0B, 1 => some 1048576
  | 0x0C, 0 => some 196608
  | 0x0C, 1 => some 262144
  | 0x0C, 2 => some 1048576
  | 0x11, 0 => some 262144
  | p, 0 => if 0x20 ≤ p ∧ p ≤ 0x2F then some 512 else none
  | _, _ => none

/-- Would bytes written to the forwarding table leave an entry valid and not static? Only static entries are written. -/
def writesLearnt (m : Mach) (pos : Nat) (data : List Byte) : Bool :=
  let bulk := memWrite (bulkKey 0x11 0 pos) data m.bulk
  (List.range (data.length / 16 + 2)).any fun i =>
    let b := (memGet (bulkKey 0x11 0 ((pos / 16 + i) * 16)) bulk).toNat
    bit b 7 && !bit b 6

/-- How a bulk write ends: written; beyond the end (status 0x03); no such object (0x07); under a LOCK policy (0x06); or refused with a
reason (0x05). -/
inductive BulkEnd
  | done
  | status (n : Nat)
  | reason (n : Nat)
  deriving DecidableEq, Repr

/-- A bulk write by a source (R54, R389). A refusal with a reason is held and recorded at the page; a bulk access has no offset
there, so the one it shows is a free value (log 61). -/
def Mach.writeBulk (m : Mach) (src : Src) (page obj pos : Nat) (data : List Byte) : Mach × BulkEnd :=
  let refuse := fun (m : Mach) (reason : Nat) =>
    let (w, m) := m.drawWord
    (m.reject page src (w.toNat % 4096) reason 0, BulkEnd.reason reason)
  match bulkSize page obj with
  | none => (m, .status 0x07)
  | some size =>
    if rimLocked m then (m, .status 0x06)
    else if data.isEmpty then (m, .done)
    else if size < 16 * pos + data.length then (m, .status 0x03)
    else if underAdmission m page then refuse m 0x0B
    else if m.flag (hCommitted page) then refuse m 0x04
    else if page == 0x11 && writesLearnt m (16 * pos) data then refuse m 0x04
    else
      let m := { m with bulk := memWrite (bulkKey page obj (16 * pos)) data m.bulk }
      (m.audit page 0x103 [word ((Src.code src) * 2 ^ 28 + obj * 2 ^ 16), word pos, word data.length], .done)

/-! ### The form of an image (R412) -/

/-- A record of an image. -/
structure ImageRec where
  kind : Nat
  page : Nat
  obj  : Nat
  rsv  : Nat
  off  : Nat
  data : List Byte
  deriving DecidableEq, Repr

/-- The records of a body, with fuel; none when it does not end with a record. -/
def imageRecs : Nat → List Byte → Option (List ImageRec)
  | 0, _ => none
  | n + 1, bs =>
    if bs.isEmpty then some [] else
      let len := natBE ((bs.drop 8).take 4)
      let whole := 12 + (len + 3) / 4 * 4
      if bs.length < whole then none else
        let r : ImageRec := {
          kind := natBE (bs.take 1), page := natBE ((bs.drop 1).take 1), obj := natBE ((bs.drop 2).take 1)
          rsv := natBE ((bs.drop 3).take 1), off := natBE ((bs.drop 4).take 4), data := (bs.drop 12).take len }
        (imageRecs n (bs.drop whole)).map (r :: ·)

/-- The body of an image. -/
def imageBody (data : List Byte) : List Byte := (data.drop 64).take (natBE (data.take 4))

/-- The verification of an image: none when it is valid, 0x31 for header or hash, 0x32 for the serial number (R412, R413). -/
def imageFault (data : List Byte) : Option Nat :=
  let len := natBE (data.take 4)
  let body := imageBody data
  let serial := natBE ((data.drop 16).take 8)
  let form := decide (len ≤ 16777152) && decide (64 + len ≤ data.length) && natBE ((data.drop 8).take 2) == 1
    && natBE ((data.drop 10).take 2) == 0 && natBE ((data.drop 24).take 8) == 0
    && natBE ((data.drop 32).take 32) == (Config.sha256 body).toNat
    && (imageRecs (body.length + 1) body).map (·.length) == some (natBE ((data.drop 12).take 4))
  if !form then some 0x31
  else if serial ≠ 0 ∧ serial ≠ Config.serial.toNat then some 0x32
  else none

/-- The image in an area. -/
def imageArea (m : Mach) (area : Nat) : List Byte := if area = 0 then m.flash.image0 else m.flash.image1

/-- Does an area hold a valid image? -/
def imageValid (m : Mach) (area : Nat) : Bool := !(imageArea m area).isEmpty && (imageFault (imageArea m area)).isNone

/-! ### Application (R414) -/

/-- An image under application: the module, the pages touched, and whether a record or a commit was rejected. -/
structure Applying where
  m       : Mach
  touched : List Nat
  failed  : Bool
  deriving DecidableEq, Repr

/-- The words of a record written in order, as far as they are accepted. -/
def Mach.writeWords (m : Mach) (page off : Nat) : List Word → Mach × Bool
  | [] => (m, true)
  | w :: ws =>
    match m.writeWord .internal page off w with
    | (m, none) => m.writeWords page (off + 4) ws
    | (m, some _) => (m, false)

/-- A record written as an internal write. One of no defined type, or with words cut short, is rejected. -/
def Mach.writeRecord (m : Mach) (r : ImageRec) : Mach × Bool :=
  if r.kind = 0 ∧ r.data.length % 4 = 0 ∧ r.off % 4 = 0 ∧ r.off + r.data.length ≤ 4096 then m.writeWords r.page r.off (wordsBE r.data)
  else if r.kind = 1 then
    match m.writeBulk .internal r.page r.obj r.off r.data with
    | (m, .done) => (m, true)
    | (m, _) => (m, false)
  else (m.rejectShape .internal r.page (r.off % 4096) 0, false)

/-- One record: its page unlocked first when it is committed and not yet touched. -/
def applyRecord (a : Applying) (r : ImageRec) : Applying :=
  if a.failed then a else
    let fresh := !a.touched.contains r.page
    let touched := if fresh then r.page :: a.touched else a.touched
    let (m, no) := if fresh && mapped r.page && a.m.flag (hCommitted r.page) then a.m.writeLock .internal r.page 0x5EA10002
      else (a.m, none)
    if no.isSome then { m := m, touched := touched, failed := true }
    else
      let (m, ok) := m.writeRecord r
      { m := m, touched := touched, failed := !ok }

/-- Does the image's CMD page break the relation of R58? Then its commit is left to ADM, which refuses the image. -/
def breaksRetry (a : Applying) : Bool := a.touched.contains 0x36 && !a.m.flag (hCommitted 0x36) && !retryRelation (heldGen a.m)

/-- One touched page committed. -/
def applyCommit (a : Applying) (page : Nat) : Applying :=
  if a.failed || (page == 0x36 && breaksRetry a) then a else
    let (m, no) := a.m.writeLock .internal page 0x5EA10001
    { a with m := m, failed := no.isSome }

/-- The held configuration of a word as it was, the rest as it is. -/
def backWord (was now : Mach) (page off idx : Nat) : Word :=
  let mask := if off < 0x040 then (if off = 0x00C then word 1 else if off = 0x018 ∨ off = 0x01C then word (2 ^ 32 - 1) else 0)
    else word ((findReg page off).map (accMask · [.rw, .rwl]) |>.getD 0)
  (was.reg page off idx &&& mask) ||| (now.reg page off idx &&& ~~~ mask)

/-- A page returned to the values and the committed state it held before an application that failed. -/
def Mach.backPage (m was : Mach) (page : Nat) : Mach :=
  let keys := ((was.regs ++ m.regs).filter fun e => keyPage e.1 == page).map (·.1)
  let on := was.flag (hEnable page)
  let turned := on != m.flag (hEnable page)
  let old := m.force
  let oldBulk := m.bulkF
  let keep := lgRecs m
  let m := m.each keys fun k m =>
    { m with regs := kput k (backWord was m page (keyOff k) (keyIdx k)) m.regs }
  let m := (m.setFlag (hCommitted page) 0 (was.flag (hCommitted page))).setFlag (hStaged page) 0 (was.flag (hStaged page))
  let force := (was.force.filter fun e => keyPage e.1 == page).foldl (fun l e => kput e.1 e.2 l)
    (m.force.filter fun e => keyPage e.1 != page)
  let m := { m with force := force, bulk := takeBulk was.bulk m.bulk page, bulkF := takeBulk was.bulkF m.bulkF page }
  let m := if turned then m.enableHook page on else m
  if admittedPage page || force == old then m else m.pageHook page old oldBulk keep

/-- An image applied: its records, the commits in ascending order, and the set submitted to ADM. The result says whether all was
accepted. A second run in progress refuses the submission (R179). -/
def Mach.applyImage (m : Mach) (data : List Byte) : Mach × Bool :=
  let recs := (imageRecs ((imageBody data).length + 1) (imageBody data)).getD []
  let a := recs.foldl applyRecord { m := m, touched := [], failed := false }
  let a := (a.touched.mergeSort).foldl applyCommit a
  let (m', started) := if a.failed then (a.m, false) else a.m.startRun false .start
  if started then
    ({ m' with adm := { m'.adm with run := m'.adm.run.map fun r => { r with cmd := breaksRetry a } } }, true)
  else (m'.each (a.touched.filter mapped) fun p x => x.backPage m p, false)

/-- The image in the selected area applied, with RST_STS.img and the events of RST; false when it could not be. Under a LOCK policy
it is refused as a whole (R389). -/
def Mach.loadImage (m : Mach) : Mach × Bool :=
  let area := m.cfg RST_CTRL_img_sel
  if !imageValid m area then ((m.setFld RST_STS_img 0 3).event 0x01 2, false)
  else if rimLocked m then ((m.setFld RST_STS_img 0 2).event 0x01 2, false)
  else
    match m.applyImage (imageArea m area) with
    | (m, true) => ((m.setFld RST_STS_img 0 1).event 0x01 1, true)
    | (m, false) => ((m.setFld RST_STS_img 0 2).event 0x01 2, false)

end Sys2Proof.Machine
end

