-- ==== Sys2Proof/Machine/Rst.lean ====
section
/-! DEFINITION. Module reset and start (R407–R414, R417), power, temperature and supply (R382, R431, R435), and the writes of
RST_CMD; and the end of a pace window, on which a start may wait (R79). -/

namespace Sys2Proof.Machine

/-- The reset state changed. -/
def Mach.onRst (m : Mach) (f : Rst → Rst) : Mach := { m with rst := f m.rst }

/-! ### What survives (R408) -/

/-- RWL fields that are Stored: RIM_POLICY, RIM_BOOT.sel and RST_CTRL. -/
def storedForce (k : Nat) : Bool := [regKey 0x03 0x044 0, regKey 0x03 0x054 0, regKey 0x01 0x040 0].contains k

/-- Words kept in flash: the key slots' usage and version, the number of keys, the generation and the two counts of the Rim. -/
def storedWord (k : Nat) : Bool :=
  (keyPage k == 0x04 && [0x044, 0x048, 0x050].contains (keyOff k)) || (keyPage k == 0x03 && [0x060, 0x070, 0x074].contains (keyOff k))

/-- The key store is not kept once the generation is exhausted (R395). -/
def Mach.dropStore (m : Mach) : Mach :=
  if m.fld RIM_GEN_gen = 1024 then m.each (m.rim.keys.map (·.1)) fun slot m => m.emptySlot slot else m

/-- A module reset with a cause (R407, R408): everything at its reset value but what flash keeps. RDY_OUT falls, CMD_SESSION is new
(R48), TWN_BOOT counts. -/
def Mach.moduleReset (m : Mach) (cause : Nat) : Mach :=
  let was := m.dropStore
  let (session, was) := was.drawWord
  let force := was.force.filter fun e => storedForce e.1
  let pins : KMap Pin := was.pls.pins.map fun e => (e.1, { raw := e.2.raw })
  let fresh : Mach := {
    free := was.free, force := force, regs := was.regs.filter fun e => storedWord e.1
    outs := was.outs, flash := was.flash
    cmd := { session := session, linkUp := was.cmd.linkUp, perst := was.cmd.perst }
    rim := { keys := was.rim.keys, erasing := was.rim.erasing, meshCut := was.rim.meshCut, lidOpen := was.rim.lidOpen }
    pls := { pins := pins }
    rst := { pg := was.rst.pg, reset := true } }
  let m := fresh.each force fun e m => { m with regs := kput e.1 e.2 m.regs }
  let m := (m.setFld RIM_STS_state 0 (was.fld RIM_STS_state)).setFlag RIM_STS_gen_out 0 (was.fld RIM_GEN_gen == 1024)
  let m := (m.setFld RIM_BOOT_sv_min 0 (was.fld RIM_BOOT_sv_min)).setFld TWN_BOOT_n 0 (was.fld TWN_BOOT_n + 1)
  (m.setFld RST_STS_cause 0 cause).emit (.rdy false)

/-! ### Power fail and flush (R382, R417) -/

/-- A reset recorded to follow the flush; cause 1 stands before any other (R417). -/
def Mach.setCause (m : Mach) (c : Nat) : Mach :=
  m.onRst fun r => { r with cause := some (if c = 1 then 1 else r.cause.getD c) }

/-- Steps 1 to 6 of R382 begin: MSI-X vector 2, the power-fail record, intake stopped, loads interrupted. Once only. -/
def Mach.powerFail (m : Mach) : Mach :=
  if !m.coil.intake then m else
    let m := m.emit (.msix 2)
    let m := m.openRec {
      page := 0xFF, code := 0xF02, sev := 7, attr := 0, tag := m.tag, last := m.tag, rpt := 0, wrapNo := m.coil.wrapNo
      snap := [word (lgRecs m).length], cut := false, continued := false }
    let m := (m.onRim fun r => { r with queue := [] }).onCmd fun c => { c with loads := [] }
    m.onCoil fun c => { c with intake := false, flushing := true, flushAt := m.now }

/-- A module held off by a thermal trip starts anew once Tj is at or below 95 °C with PG_IN high (R435). -/
def Mach.tryRecover (m : Mach) : Mach :=
  if !m.powered && m.rst.pg && decide (asSigned 16 (m.fld GLB_TJ_tj) ≤ 950) then m.moduleReset 0 else m

/-- A flush ends. One on demand ends there; else the module resets, stays off after a trip, or waits for power. -/
def Mach.flushEnd (m : Mach) (ok : Bool) : Mach :=
  if !m.coil.flushing then m else
    let m := m.flushDone ok
    if m.coil.intake then m
    else if m.rst.trip then (({ m with powered := false }).emit (.rdy false)).tryRecover
    else match m.rst.cause with
      | some c => m.moduleReset c
      | none => m

/-- A module reset of causes 1 to 3: the flush first (R407). -/
def Mach.resetAfterFlush (m : Mach) (c : Nat) : Mach := (m.setCause c).powerFail

/-- PG_IN rises (R382, R407, R435). -/
def Mach.pgRise (m : Mach) : Mach :=
  let m := m.onRst fun r => { r with pg := true }
  if !m.powered then m.tryRecover
  else if m.coil.intake then m
  else if m.coil.flushing then m.setCause 4
  else m.moduleReset 0

/-! ### RST_CMD -/

/-- An accepted write of RST_CMD: a module reset, or the application of the selected image (R407, R414). -/
def Mach.rstCommand (m : Mach) (v : Nat) : Mach :=
  if v = 0x5EA10004 then m.resetAfterFlush 2 else m.loadImage.1

/-- A word written by a source, RST_CMD with its effect. -/
def Mach.fullWrite (m : Mach) (src : Src) (page off : Nat) (v : Word) : Mach × Option Nat :=
  match m.writeWord src page off v with
  | (m', none) =>
    if page = 0x01 ∧ off = 0x044 ∧ debugIgnored m src page off = false then (m'.rstCommand v.toNat, none) else (m', none)
  | r => r

/-- A write of any width (R34). -/
def Mach.fullAccess (m : Mach) (src : Src) (page off : Nat) (w : Width) (v : BitVec 64) : Mach :=
  let lo : Word := v.setWidth 32
  match w with
  | .byte | .half => m.rejectShape src page off lo
  | .word => if off % 4 = 0 then (m.fullWrite src page off lo).1 else m.rejectShape src page off lo
  | .dword =>
    if off % 8 = 0 then ((m.fullWrite src page off lo).1.fullWrite src page (off + 4) ((v >>> 32).setWidth 32)).1
    else m.rejectShape src page off lo

/-! ### Start (R404, R410, R411) -/

/-- What a bank holds, when it verifies: security version and version. -/
def bankImage (b : Bank) : Option (BitVec 8 × BitVec 24) := Config.firmware b.loaded

/-- The security version of a bank's image. -/
def bankSv (b : Bank) : Nat := ((bankImage b).map (·.1.toNat)).getD 0

/-- Is a bank valid at a start (R403): the boot ROM finds it so, it is not marked invalid, and its security version is not too low? -/
def bankValid (m : Mach) (b : Bank) (found : Bool) : Bool := found && !b.bad && decide (m.fld RIM_BOOT_sv_min ≤ bankSv b)

/-- A bank booted. -/
def Mach.bootBank (m : Mach) (bank : Nat) : Mach :=
  let b := if bank = 0 then m.flash.bank0 else m.flash.bank1
  let m := (m.setFld RIM_STS_bank 0 bank).setFld RIM_BOOT_sv 0 (bankSv b)
  (m.setFld GLB_FW_bank 0 bank).setFld GLB_FW_version 0 (((bankImage b).map (·.2.toNat)).getD 0)

/-- Step 2: the lid and the mesh are looked at, an unfinished erasure completes (R392), the banks are verified and one booted
(R404). The result says whether one was. -/
def Mach.bootStep (m : Mach) (b : BootInput) : Mach × Bool :=
  let m := m.onRim fun r => { r with
    lidOpen := b.lidOpen, fired := (if b.lidOpen then [0] else []) ++ (if r.meshCut then [1] else []) }
  let m := if m.rim.erasing then (m.onRim fun r => { r with erasing := false }).advanceGen else m
  let v0 := bankValid m m.flash.bank0 b.valid0
  let v1 := bankValid m m.flash.bank1 b.valid1
  let m := m.setFld RIM_BOOT_valid 0 (v1.toNat * 2 + v0.toNat)
  let m := if v0 then m else m.violate [6]
  let m := if v1 then m else m.violate [6]
  let sel := m.fld RIM_BOOT_sel
  let good := fun n => if n = 0 then v0 else v1
  if good sel then (m.bootBank sel, true)
  else if good (1 - sel) then (((m.setFlag RIM_BOOT_fallback 0 true).event 0x03 6).bootBank (1 - sel), true)
  else (m.onRst fun r => { r with recovery := true, starting := false }, false)

/-- Steps 5 and 6: the image, and its set submitted (R410, R411). -/
def Mach.imageStep (m : Mach) : Mach :=
  let m := m.setFld RST_IMG_valid 0 ((imageValid m 1).toNat * 2 + (imageValid m 0).toNat)
  if !m.on RST_CTRL_autoload then m.stopStart
  else
    match (m.setFld RST_STS_phase 0 2).loadImage with
    | (m, true) => m.setFld RST_STS_phase 0 3
    | (m, false) => m.stopStart

/-- Steps 2 to 6 of a start (R410). -/
def Mach.startUp (m : Mach) (b : BootInput) : Mach :=
  match m.bootStep b with
  | (m, false) => m
  | (m, true) =>
    let m := m.setFld RST_STS_phase 0 1
    if !b.memoryOk then m.onRst fun r => { r with starting := false }
    else (m.presentImage.startSelfTest).imageStep

/-- A start held at step 1 goes on once the pace state is Normal or Warning and intake has not been stopped since (R79). -/
def Mach.resumeStart (m : Mach) : Mach :=
  match m.rst.boot with
  | some b =>
    if m.fld PACE_STATE_state ≤ 1 && m.coil.intake then (m.onRst fun r => { r with boot := none }).startUp b else m
  | none => m

/-- A start, from the return of power or after a module reset (R410). The engines are held until the pace allows them (R79). -/
def Mach.start (m : Mach) (b : BootInput) : Mach :=
  (m.onRst fun r => { r with reset := false, starting := true, began := m.now, boot := some b }).resumeStart

/-! ### Commands -/

/-- R10: REGISTER_WRITE. -/
def execRegisterWrite (t : Nat) (src : Src) (page : BitVec 8) (off : BitVec 12) (w : Width) (v : BitVec 64) (s : State) :
    Host.Outcome State Fault Refusal := s.run t fun m => m.fullAccess src page.toNat off.toNat w v

/-- R407: RST_CMD_MODULE_RESET. -/
def execRstCmdModuleReset (t : Nat) (src : Src) (s : State) : Host.Outcome State Fault Refusal :=
  s.run t fun m => (m.fullWrite src 0x01 0x044 0x5EA10004).1

/-- R414: RST_CMD_APPLY_IMAGE. -/
def execRstCmdApplyImage (t : Nat) (src : Src) (s : State) : Host.Outcome State Fault Refusal :=
  s.run t fun m => (m.fullWrite src 0x01 0x044 0x5EA10005).1

/-- R407: MANAGER_WATCHDOG_EXPIRY. -/
def execManagerWatchdogExpiry (t : Nat) (s : State) : Host.Outcome State Fault Refusal :=
  s.run t fun m => m.onExpiry .watchdog fun m =>
    let m := (m.count RST_WDOG_EXP_n).event 0x01 4
    if m.on RST_WDOG_act then m.resetAfterFlush 3 else m

/-- R382: LAST_GASP_FLUSH_COMPLETE. -/
def execLastGaspFlushComplete (t : Nat) (ok : Bool) (s : State) : Host.Outcome State Fault Refusal := s.run t fun m => m.flushEnd ok

/-- R382: PG_IN_FALL. -/
def execPgInFall (t : Nat) (s : State) : Host.Outcome State Fault Refusal :=
  s.runOff t fun m =>
    let m := m.onRst fun r => { r with pg := false }
    if m.powered then m.powerFail else m

/-- R407: PG_IN_RISE. -/
def execPgInRise (t : Nat) (s : State) : Host.Outcome State Fault Refusal := s.runOff t fun m => m.pgRise

/-- R407: NRST_IN, held low for at least 10 µs. -/
def execNrstIn (t : Nat) (s : State) : Host.Outcome State Fault Refusal := s.run t fun m => m.resetAfterFlush 1

/-- R75: PACE_WINDOW_END. -/
def execPaceWindowEnd (t : Nat) (counts : List (Option (BitVec 16))) (s : State) : Host.Outcome State Fault Refusal :=
  s.run t fun m => (m.paceWindow counts).resumeStart

/-- R410: POWER_ON: a start; a module that has not been reset is reset first, with cause 0. -/
def execPowerOn (t : Nat) (boot : BootInput) (s : State) : Host.Outcome State Fault Refusal :=
  s.runOff t fun m => ((if m.rst.reset then m else m.moduleReset 0).onRst fun r => { r with pg := true }).start boot

/-- R431: VIN_UNDERVOLTAGE acts as PG_IN falling. -/
def execVinUndervoltage (t : Nat) (s : State) : Host.Outcome State Fault Refusal :=
  s.runOff t fun m =>
    let m := m.onRst fun r => { r with pg := false }
    if m.powered then m.powerFail else m

/-- R431: VIN_OUT_OF_RANGE. -/
def execVinOutOfRange (t : Nat) (mv : BitVec 16) (s : State) : Host.Outcome State Fault Refusal :=
  s.run t fun m =>
    let m := m.setFld GLB_VIN_vin 0 mv.toNat
    if m.rst.pg && (decide (mv.toNat < 10800) || decide (13200 < mv.toNat)) then m.event 0x00 2 else m

/-- R435: TJ_HIGH. -/
def execTjHigh (t : Nat) (tj : BitVec 16) (s : State) : Host.Outcome State Fault Refusal :=
  s.run t fun m =>
    let m := m.setFld GLB_TJ_tj 0 tj.toNat
    if 1000 < tj.toInt then m.event 0x00 1 else m

/-- R435: THERMAL_TRIP. -/
def execThermalTrip (t : Nat) (tj : BitVec 16) (s : State) : Host.Outcome State Fault Refusal :=
  s.run t fun m =>
    let m := m.setFld GLB_TJ_tj 0 tj.toNat
    if 1150 ≤ tj.toInt then (m.onRst fun r => { r with trip := true }).powerFail else m

/-- R435: THERMAL_RECOVERY. -/
def execThermalRecovery (t : Nat) (tj : BitVec 16) (s : State) : Host.Outcome State Fault Refusal :=
  s.runOff t fun m => (m.setFld GLB_TJ_tj 0 tj.toNat).tryRecover

end Sys2Proof.Machine
end

