-- ==== Sys2Proof/Machine/Bulk.lean ====
section
/-! DEFINITION. Bulk reads (R54): the contents of every bulk object, those that software writes and those the blocks compute. -/

namespace Sys2Proof.Machine

/-- Bytes `start` to below `start + n` of a sequence of entries of `size` bytes each. -/
def cutEntries (size start n : Nat) (entry : Nat → List Byte) : List Byte :=
  (((List.range (n / size + 2)).flatMap fun i => entry (start / size + i)).drop (start % size)).take n

/-- An entry of the coil: the record in a slot, zeros where none is (R370). -/
def coilEntry (m : Mach) (i : Nat) : List Byte :=
  match kget i m.coil.slots with
  | some r => r.bytes
  | none => List.replicate 64 0

/-- An entry of the commit index: the slot of the record of that seq (R379). -/
def indexEntry (m : Mach) (i : Nat) : List Byte := bytesBE 4 ((kget i m.coil.index).getD 0)

/-- An entry of the ADM report (R187); zeros for a slot that was not in the set. -/
def reportEntry (m : Mach) (i : Nat) : List Byte :=
  match m.adm.report.find? fun e => e.slot == i with
  | some e => bytesBE 4 (e.code * 2 ^ 24 + min 65535 e.peff) ++ bytesBE 4 e.resp ++ bytesBE 4 e.ldec ++ bytesBE 4 (e.core * 2 ^ 16 + e.util)
  | none => List.replicate 16 0

/-- An entry of an interval ring (R359): point and ring slot. -/
def intervalEntry (m : Mach) (i : Nat) : List Byte := (kget i m.nrg.entries).getD (List.replicate 64 0)

/-- An entry of the latched snapshot (R360). -/
def snapshotEntry (m : Mach) (i : Nat) : List Byte := (kget i m.nrg.snapshot).getD (List.replicate 64 0)

/-- An entry of the forwarding table: the words held, or the learnt entry where no static one stands (R323, R325). -/
def fwdEntryBytes (m : Mach) (i : Nat) : List Byte :=
  match staticAt m.bulk i, kget i m.swc.learnt with
  | none, some l =>
    bytesBE 4 (2 ^ 31 + l.vid * 2 ^ 16 + l.mac.toNat / 2 ^ 32) ++ bytesBE 4 (l.mac.toNat % 2 ^ 32) ++ bytesBE 4 (2 ^ l.port)
      ++ bytesBE 4 (min 65535 ((m.now - l.hit) / 1000000000))
  | _, _ => m.bulkBytes 0x11 0 (16 * i) 16

/-- The length of an object in bytes; none where the page owns no such object. -/
def bulkLength (m : Mach) (page obj : Nat) : Option Nat :=
  match page, obj with
  | 0x07, 0 => some (64 * coilSize m)
  | 0x07, 1 => some 16384
  | 0x07, 2 => some ((m.coil.shown.map fun g => 64 + 64 * g.recs.length).getD 0)
  | 0x08, 0 => some 65536
  | 0x0D, u => if u < 64 then some (acqObject m u).length else none
  | 0x0E, 0 => some 524288
  | 0x0E, 1 => some 32768
  | p, o => bulkSize p o

/-- Bytes of an object, within its length. -/
def bulkData (m : Mach) (page obj start n : Nat) : List Byte :=
  match page, obj with
  | 0x07, 0 => cutEntries 64 start n (coilEntry m)
  | 0x07, 1 => cutEntries 4 start n (indexEntry m)
  | 0x07, 2 => (((m.coil.shown.map LgImage.bytes).getD []).drop start).take n
  | 0x08, 0 => cutEntries 16 start n (reportEntry m)
  | 0x0D, u => ((acqObject m u).drop start).take n
  | 0x0E, 0 => cutEntries 64 start n (intervalEntry m)
  | 0x0E, _ => cutEntries 64 start n (snapshotEntry m)
  | 0x11, _ => cutEntries 16 start n (fwdEntryBytes m)
  | p, o => m.bulkBytes p o start n

/-- A bulk read (R54): the bytes as far as the object reaches; none where there is no such object. A read of the energy snapshot at
position 0 latches it first (R360). -/
def Mach.readBulk (m : Mach) (page obj pos count : Nat) : Mach × Option (List Byte) :=
  let m := if page = 0x0E ∧ obj = 1 ∧ pos = 0 ∧ count ≠ 0 then m.latchAll else m
  match bulkLength m page obj with
  | none => (m, none)
  | some len => (m, some (bulkData m page obj (16 * pos) (min count (len - 16 * pos))))

end Sys2Proof.Machine
end

