-- ==== Sys2Proof/Machine/Vrelti.lean ====
section
/-! DEFINITION. The command port (R46–R60): the checks of a received command in order, the execution of each opcode, loads of
firmware and images (R405, R413), the two transports and their timeouts. -/

namespace Sys2Proof.Machine

/-! ### Opcodes and transports -/

/-- Opcodes defined on the two transports (R51). -/
def opcodes : List Nat := [0x01, 0x02, 0x03, 0x10, 0x11, 0x12, 0x20, 0x21, 0x30, 0x31, 0x38, 0x7F]

/-- Does an opcode need auth (R51)? -/
def privileged (op page : Nat) : Bool :=
  [0x02, 0x03, 0x10, 0x11, 0x12, 0x21, 0x30, 0x31, 0x38].contains op || ([0x01, 0x20].contains op && (page == 0x03 || page == 0x04))

/-- Is a transport in service (R55, R57, R404, R426)? PCIe from phase 1 on, and alone in recovery mode. -/
def transportUp (m : Mach) (tr : Transport) : Bool :=
  match tr with
  | .pcie => !m.cmd.perst && (m.rst.recovery || (m.on CMD_CTRL_pcie_en && m.fld RST_STS_phase != 0))
  | .udp => m.cmd.linkUp && !m.rst.recovery && m.on CMD_CTRL_udp_en

/-- The register of the highest freshness accepted. -/
def freshFd : Transport → Fd
  | .pcie => CMD_FRESH_PCIE_fresh
  | .udp => CMD_FRESH_UDP_fresh

/-- The freshness values accepted inside the window of a transport. -/
def seenBy (m : Mach) : Transport → List Nat
  | .pcie => m.cmd.seenP
  | .udp => m.cmd.seenU

/-! ### The checks (R47) -/

/-- Does a command carry auth? -/
def hasAuth (vc : VCommand) : Bool := vc.pk.flags.getLsbD 0

/-- Check 2: the length, and the packet's size. -/
def sizeOk (vc : VCommand) : Bool :=
  decide (vc.pk.length.toNat ≤ 16384) && vc.pk.payload.length == vc.pk.length.toNat
    && vc.pk.trailer.length == (if hasAuth vc then 32 else 0)

/-- Check 3: reserved header bits, status, tag range, and the upper offset bits of register opcodes (R46). -/
def headerOk (vc : VCommand) : Bool :=
  vc.pk.flags.toNat / 8 == 0 && !vc.pk.flags.getLsbD 1 && decide (vc.pk.tag.toNat < 32) && vc.pk.status == 0 && vc.pk.rsv == 0
    && !([0x01, 0x02, 0x03].contains vc.opcode.toNat && decide (4096 ≤ vc.pk.offset.toNat))

/-- Is an opcode defined on the transport at present? In recovery mode few are (R404). -/
def opcodeOk (m : Mach) (op : Nat) : Bool := opcodes.contains op && (!m.rst.recovery || [0x01, 0x31, 0x7F].contains op)

/-- The header as received. -/
def commandHeader (vc : VCommand) : List Byte :=
  headerBytes vc.opcode.toNat vc.pk.flags.toNat vc.pk.tag.toNat vc.pk.page.toNat vc.pk.length.toNat vc.pk.status.toNat vc.pk.rsv.toNat
    vc.pk.offset.toNat vc.pk.fresh.toNat

/-- Is one command a retransmission of another: flag set, and the same but for it (R59)? -/
def resends (vc old : VCommand) : Bool :=
  vc.pk.flags.getLsbD 2 && vc.opcode == old.opcode && vc.pk.page == old.pk.page && vc.pk.offset == old.pk.offset
    && vc.pk.payload == old.pk.payload && hasAuth vc == hasAuth old && (!hasAuth vc || vc.pk.fresh == old.pk.fresh)

/-- The outstanding command under a tag. -/
def heldCmd (m : Mach) (tr : Transport) (tag : Byte) : Option OutCmd := m.cmd.out.find? fun o => o.tr == tr && o.vc.pk.tag == tag

/-- Is a tag held by an outstanding command that the packet does not send again (check 6)? -/
def tagTaken (m : Mach) (tr : Transport) (vc : VCommand) : Bool :=
  m.cmd.out.any fun o => o.tr == tr && o.vc.pk.tag == vc.pk.tag && !resends vc o.vc

/-- The stored response under a tag. -/
def storedFor (m : Mach) (tr : Transport) (tag : Byte) : Option Stored := m.cmd.stored.find? fun s => s.tr == tr && s.tag == tag

/-- Is a freshness above the window, or inside it and not yet seen (R49)? -/
def freshOk (m : Mach) (tr : Transport) (v : Nat) : Bool :=
  let hi := m.fld (freshFd tr)
  decide (hi < v) || (decide (hi < v + 64) && !(seenBy m tr).contains v)

/-- A freshness accepted: it is seen, and above the window it moves the window up. -/
def Mach.acceptFresh (m : Mach) (tr : Transport) (v : Nat) : Mach :=
  let hi := max v (m.fld (freshFd tr))
  let seen := v :: (seenBy m tr).filter fun x => decide (hi < x + 64)
  (m.setFld (freshFd tr) 0 hi).onCmd fun c => match tr with
    | .pcie => { c with seenP := seen }
    | .udp => { c with seenU := seen }

/-- Commands of a transport that count against the limit of check 5. -/
def busyCount (m : Mach) (tr : Transport) : Nat :=
  countIf (fun o : OutCmd => o.tr == tr) m.cmd.out + (if tr == .udp then m.cmd.parts.length else 0)

/-- A stored response released. -/
def Mach.releaseStored (m : Mach) (tr : Transport) (tag : Byte) : Mach :=
  (m.disarm (.stored tr tag)).onCmd fun c => { c with stored := c.stored.filter fun s => !(s.tr == tr && s.tag == tag) }

/-- Is the page of a command mapped and the operation permitted on it (check 11)? Opcodes that name no page pass; bulk opcodes need a
page that owns bulk objects. -/
def pageOk (m : Mach) (op page : Nat) : Bool :=
  !([0x01, 0x02, 0x03, 0x10, 0x11, 0x20, 0x21].contains op)
    || (mapped page && (!m.rst.recovery || page == 0x03) && (!([0x20, 0x21].contains op) || hasBulk page))

/-! ### Register opcodes (R51, R52) -/

/-- The payload that carries a reason. -/
def reasonPayload (reason : Nat) : List Byte := bytesBE 1 reason

/-- A rejection as a completion: status 0x05 with its reason, and 0x06 where a LOCK policy is the reason (R389). -/
def reasonEnd (reason : Nat) : Nat × List Byte := if reason = 0x05 then (0x06, []) else (0x05, reasonPayload reason)

/-- Words read in order. -/
def Mach.readWords (m : Mach) (src : Src) (page off : Nat) : Nat → List Byte × Mach
  | 0 => ([], m)
  | n + 1 =>
    let (w, m) := m.readAccess src page off
    let (rest, m) := m.readWords src page (off + 4) n
    (bytesBE 4 w.toNat ++ rest, m)

/-- Unaligned words rejected one by one (R34). -/
def Mach.rejectWords (m : Mach) (src : Src) (page off : Nat) (ws : List Word) : Mach :=
  m.each ws.zipIdx fun e m => m.rejectShape src page (off + 4 * e.2) e.1

/-- The words of REG_WRITE in ascending order, each on its own; the reason of the first that is rejected. -/
def Mach.putWords (m : Mach) (src : Src) (page off : Nat) : List Word → Mach × Option Nat
  | [] => (m, none)
  | w :: ws =>
    let (m, r) := m.fullWrite src page off w
    let (m, r') := m.putWords src page (off + 4) ws
    (m, r.or r')

/-- How an execution ends: a status and a payload, or later. -/
abbrev ExecEnd := Option (Nat × List Byte)

/-- REG_READ. -/
def Mach.doRead (m : Mach) (tr : Transport) (pk : VPacket) : Mach × ExecEnd :=
  let n := if pk.payload.isEmpty then 1 else natBE pk.payload
  let off := pk.offset.toNat
  if (pk.payload.length ≠ 0 ∧ pk.payload.length ≠ 4) ∨ n = 0 ∨ 1024 < n ∨ 4096 < off + 4 * n then (m, some (0x03, []))
  else if off % 4 ≠ 0 then (m.rejectWords (srcOf tr) pk.page.toNat off (List.replicate n 0), some (reasonEnd 0x06))
  else
    let (bytes, m) := m.readWords (srcOf tr) pk.page.toNat off n
    (m, some (0x00, bytes))

/-- REG_WRITE. -/
def Mach.doWrite (m : Mach) (tr : Transport) (pk : VPacket) : Mach × ExecEnd :=
  let off := pk.offset.toNat
  let ws := wordsBE pk.payload
  if pk.payload.length % 4 ≠ 0 ∨ 4096 < off + pk.payload.length then (m, some (0x03, []))
  else if ws.isEmpty then (m, some (0x00, []))
  else if off % 4 ≠ 0 then (m.rejectWords (srcOf tr) pk.page.toNat off ws, some (reasonEnd 0x06))
  else
    match m.putWords (srcOf tr) pk.page.toNat off ws with
    | (m, none) => (m, some (0x00, []))
    | (m, some r) => (m, some (reasonEnd r))

/-- REG_RMW: the bits of the mask take those of the value. -/
def Mach.doRmw (m : Mach) (tr : Transport) (pk : VPacket) : Mach × ExecEnd :=
  let off := pk.offset.toNat
  let mask := word (natBE (pk.payload.take 4))
  let v := word (natBE (pk.payload.drop 4))
  if pk.payload.length ≠ 8 ∨ 4096 < off + 4 then (m, some (0x03, []))
  else if off % 4 ≠ 0 then (m.rejectWords (srcOf tr) pk.page.toNat off [v], some (reasonEnd 0x06))
  else
    let (old, m) := m.readAccess (srcOf tr) pk.page.toNat off
    match m.fullWrite (srcOf tr) pk.page.toNat off ((old &&& ~~~ mask) ||| (v &&& mask)) with
    | (m, none) => (m, some (0x00, bytesBE 4 (readWord m pk.page.toNat off).toNat))
    | (m, some r) => (m, some (reasonEnd r))

/-- COMMIT and UNLOCK: the write of a key to PAGE_LOCK. -/
def Mach.doLock (m : Mach) (tr : Transport) (pk : VPacket) (key : Word) : Mach × ExecEnd :=
  if !pk.payload.isEmpty then (m, some (0x03, []))
  else
    match m.writeLock (srcOf tr) pk.page.toNat key with
    | (m, none) => (m, some (0x00, []))
    | (m, some r) => (m, some (reasonEnd r))

/-- ADMIT (R179): it completes with its run. -/
def Mach.doAdmit (m : Mach) (tr : Transport) (pk : VPacket) : Mach × ExecEnd :=
  if !pk.payload.isEmpty then (m, some (0x03, []))
  else if rimLocked m then (m, some (0x06, []))
  else
    match m.startRun false (.vrelti tr pk.tag) with
    | (m, true) => (m, none)
    | (m, false) => (m, some (reasonEnd 0x0B))

/-! ### Bulk opcodes (R53, R54) -/

/-- The object number of a bulk offset. -/
def bulkObj (pk : VPacket) : Nat := pk.offset.toNat / 2 ^ 24

/-- The position of a bulk offset, in 16-byte units. -/
def bulkPos (pk : VPacket) : Nat := pk.offset.toNat % 2 ^ 24

/-- BULK_READ. -/
def Mach.doBulkRead (m : Mach) (pk : VPacket) : Mach × ExecEnd :=
  let n := natBE pk.payload
  if pk.payload.length ≠ 4 ∨ 16384 < n then (m, some (0x03, []))
  else
    match m.readBulk pk.page.toNat (bulkObj pk) (bulkPos pk) n with
    | (m, some bytes) => (m, some (0x00, bytes))
    | (m, none) => (m, some (0x07, []))

/-- BULK_WRITE. -/
def Mach.doBulkWrite (m : Mach) (tr : Transport) (pk : VPacket) : Mach × ExecEnd :=
  match m.writeBulk (srcOf tr) pk.page.toNat (bulkObj pk) (bulkPos pk) pk.payload with
  | (m, .done) => (m, some (0x00, []))
  | (m, .status n) => (m, some (n, []))
  | (m, .reason r) => (m, some (0x05, reasonPayload r))

/-! ### Loads (R405, R413) -/

/-- The load that chunks of an opcode extend. -/
def openLoad (m : Mach) (op : Byte) : Option Load := m.cmd.loads.find? fun l => l.opcode == op && !l.verifying

/-- The load that chunks of an opcode extend, forgotten. -/
def Mach.dropLoad (m : Mach) (op : Byte) : Mach :=
  m.onCmd fun c => { c with loads := c.loads.filter fun l => !(l.opcode == op && !l.verifying) }

/-- The page a load is recorded at: RIM for firmware, RST for images. -/
def loadPage (op : Byte) : Nat := if op = 0x31 then 0x03 else 0x01

/-- A chunk: in order it extends the load; out of order the load is abandoned, with a code. Length 0 starts the verification. -/
def Mach.doChunk (m : Mach) (tr : Transport) (op : Byte) (pk : VPacket) (code : Nat) : Mach × ExecEnd :=
  let data := ((openLoad m op).map (·.data)).getD []
  if !m.rst.recovery && rimLocked m then (m, some (0x06, []))
  else if pk.payload.isEmpty then
    ((m.dropLoad op).onCmd fun c => { c with
      loads := c.loads ++ [{ opcode := op, data := data, tr := tr, tag := pk.tag, verifying := true }] }, none)
  else if pk.offset.toNat * 16 ≠ data.length then
    ((m.dropLoad op).auditLoad (loadPage op) tr op.toNat pk.payload.length 0x05, some (0x05, reasonPayload code))
  else
    ((m.dropLoad op).onCmd fun c => { c with
      loads := c.loads ++ [{ opcode := op, data := data ++ pk.payload, tr := tr, tag := pk.tag, verifying := false }] }, some (0x00, []))

/-- The oldest load of an opcode under verification. -/
def verifyingLoad (m : Mach) (op : Byte) : Option Load := m.cmd.loads.find? fun l => l.opcode == op && l.verifying

/-- A load that ended, with its record and the response of its last command. -/
def Mach.endVerify (m : Mach) (l : Load) (code : Option Nat) : Mach :=
  let m := m.onCmd fun c => { c with loads := c.loads.filter fun x => !(x.verifying && x.tr == l.tr && x.tag == l.tag) }
  let status := if code.isSome then 0x05 else 0x00
  let payload := match code with
    | some n => reasonPayload n
    | none => []
  (m.finishTag l.tr l.tag status payload).auditLoad (loadPage l.opcode) l.tr l.opcode.toNat l.data.length status

/-- The verification of an image ends (R413): the area that img_sel does not name takes it. -/
def Mach.imageVerified (m : Mach) : Mach :=
  match verifyingLoad m 0x30 with
  | none => m
  | some l =>
    let area := 1 - m.cfg RST_CTRL_img_sel
    let m := { m with flash := if area = 0 then { m.flash with image0 := l.data } else { m.flash with image1 := l.data } }
    let m := m.setFld RST_IMG_valid 0 (setBits (m.fld RST_IMG_valid) area area (imageValid m area).toNat)
    m.endVerify l (imageFault l.data)

/-- The bank a FW_LOAD writes: the one that is not running, and bank 0 in recovery mode (R404, R405). -/
def loadBank (m : Mach) : Nat := if m.rst.recovery then 0 else 1 - m.fld RIM_STS_bank

/-- The verification of firmware ends (R403, R405). In recovery mode a valid image resets the module; the manual names no cause for
that reset, so it is a free value (log 63). -/
def Mach.firmwareVerified (m : Mach) : Mach :=
  match verifyingLoad m 0x31 with
  | none => m
  | some l =>
    let bank := loadBank m
    let ok := match Config.firmware l.data with
      | some (sv, _) => decide (m.fld RIM_BOOT_sv_min ≤ sv.toNat) && !l.data.isEmpty
      | none => false
    let b : Bank := { loaded := l.data, bad := !ok }
    let m := { m with flash := if bank = 0 then { m.flash with bank0 := b } else { m.flash with bank1 := b } }
    let m := m.setFld RIM_BOOT_valid 0 (setBits (m.fld RIM_BOOT_valid) bank bank ok.toNat)
    let m := if ok then m.event 0x03 4 else (m.event 0x03 5).violate [6]
    let m := m.endVerify l (if ok then none else some 0x29)
    if ok && m.rst.recovery then
      let (w, m) := m.drawWord
      m.moduleReset (w.toNat % 8)
    else m

/-- KEY_LOAD: R389 first, then the Rim's queue (R396, R398). -/
def Mach.doKeyLoad (m : Mach) (tr : Transport) (pk : VPacket) : Mach × ExecEnd :=
  let refused := rimLocked m && !(m.fld RIM_STS_state == 2 && keyWrap pk.payload == 0)
  if refused then (m.auditLoad 0x04 tr 0x38 pk.payload.length 0x06, some (0x06, []))
  else (m.queueLoad { tr := tr, tag := pk.tag, payload := pk.payload, key := 0 }, none)

/-! ### Execution -/

/-- What a transport that authenticates with KR accepts (R402, R404). -/
def krAccepts (m : Mach) (op : Nat) (pk : VPacket) : Bool :=
  if m.rst.recovery then true else op == 0x01 || op == 0x7F || (op == 0x38 && keyWrap pk.payload == 0)

/-- Check 12: the execution of an opcode. -/
def Mach.runOpcode (m : Mach) (tr : Transport) (vc : VCommand) : Mach × ExecEnd :=
  let pk := vc.pk
  if usesKR m tr && !krAccepts m vc.opcode.toNat pk then (m, some (0x06, []))
  else match vc.opcode.toNat with
  | 0x01 => m.doRead tr pk
  | 0x02 => m.doWrite tr pk
  | 0x03 => m.doRmw tr pk
  | 0x10 => m.doLock tr pk 0x5EA10001
  | 0x11 => m.doLock tr pk 0x5EA10002
  | 0x12 => m.doAdmit tr pk
  | 0x20 => m.doBulkRead pk
  | 0x21 => m.doBulkWrite tr pk
  | 0x30 => m.doChunk tr 0x30 pk 0x30
  | 0x31 => m.doChunk tr 0x31 pk 0x28
  | 0x38 => m.doKeyLoad tr pk
  | _ => (m, some (0x00, pk.payload))

/-- A command accepted for execution: outstanding until it completes; its timeout runs from its receipt `at_` (R60). -/
def Mach.accept (m : Mach) (tr : Transport) (route : Route) (vc : VCommand) (at_ : Nat) : Mach :=
  let o : OutCmd := { tr := tr, route := route, vc := vc, auth := hasAuth vc, since := at_, waiting := false }
  let m := (if hasAuth vc then m.releaseStored tr vc.pk.tag else m).onCmd fun c => { c with out := c.out ++ [o] }
  match m.runOpcode tr vc with
  | (m, some (status, payload)) => m.finishTag tr vc.pk.tag status payload
  | (m, none) => m

/-- A retransmission that passed the checks (R59): the original still executes, or its stored response is sent again; else it is a
new command. -/
def Mach.takeAgain (m : Mach) (tr : Transport) (route : Route) (vc : VCommand) (at_ : Nat) : Mach :=
  match executing m tr vc.pk.tag, storedFor m tr vc.pk.tag with
  | some _, _ => m.count CMD_DUP_n
  | none, some s => if hasAuth vc then m.reply route vc { s.resp with route := route } else m.accept tr route vc at_
  | none, none => m.accept tr route vc at_

/-- Is a packet the retransmission of a command that the module holds, still executing or with its response stored (R59)? -/
def isHeld (m : Mach) (tr : Transport) (vc : VCommand) : Bool :=
  (match executing m tr vc.pk.tag with
   | some o => resends vc o.vc
   | none => false)
  || match storedFor m tr vc.pk.tag with
    | some s => vc.pk.flags.getLsbD 2 && hasAuth vc && s.fresh == vc.pk.fresh
    | none => false

/-- Checks 11 and 12 of R47. A response that refuses at check 11 is not stored, so its retransmission meets check 10 (log 82). -/
def Mach.checkPage (m : Mach) (tr : Transport) (route : Route) (vc : VCommand) (held : Bool) (at_ : Nat) : Mach :=
  if !pageOk m vc.opcode.toNat vc.pk.page.toNat then m.refuse tr route vc (hasAuth vc) 0x07
  else if held then m.takeAgain tr route vc at_
  else m.accept tr route vc at_

/-- Checks 8 to 10 of R47, for a command that carries auth. -/
def Mach.checkAuth (m : Mach) (tr : Transport) (route : Route) (vc : VCommand) (held : Bool) (at_ : Nat) : Mach :=
  match authKey m tr with
  | none => (m.event 0x36 7).refuse tr route vc false 0x0C
  | some k =>
    if packetMac k (commandHeader vc) vc.pk.payload m.cmd.session != vc.pk.trailer then m.authFailed.refuse tr route vc false 0x04
    else
      let m := m.authPassed
      if held then m.checkPage tr route vc true at_
      else if !freshOk m tr vc.pk.fresh.toNat then (m.event 0x36 4).refuse tr route vc true 0x08
      else (m.acceptFresh tr vc.pk.fresh.toNat).checkPage tr route vc false at_

/-- Checks 2 to 7 of R47, in order, of a packet received at `at_`; one that passes them goes on. -/
def Mach.receive (m : Mach) (tr : Transport) (route : Route) (vc : VCommand) (at_ : Nat) : Mach :=
  let op := vc.opcode.toNat
  let held := isHeld m tr vc
  if !sizeOk vc then ((m.count CMD_DROP_LEN_n).event 0x36 2).refuse tr route vc false 0x03
  else if !headerOk vc then (m.event 0x36 2).refuse tr route vc false 0x03
  else if !opcodeOk m op then ((m.count CMD_BAD_OP_n).event 0x36 5).refuse tr route vc false 0x02
  else if !held && decide (32 ≤ busyCount m tr) then ((m.count CMD_BUSY_n).event 0x36 3).refuse tr route vc false 0x01
  else if !held && tagTaken m tr vc then m.refuse tr route vc false 0x09
  else if !hasAuth vc && privileged op vc.pk.page.toNat then m.authFailed.refuse tr route vc false 0x04
  else if hasAuth vc then m.checkAuth tr route vc held at_
  else m.checkPage tr route vc held at_

/-! ### Arrival -/

/-- The route of a command that arrives without a ring slot or datagram of its own (log 60). -/
def plainRoute (m : Mach) : Transport → Route
  | .pcie => .ring
  | .udp => .udp (m.inForce 0x36 0x058 0) (BitVec.ofNat 16 (m.cfg CMD_UDP_PORT_port)) 0

/-- The command of a row: the first waiting packet equal to it, or else one that arrives now if its transport is in service. While a
response waits for the ring the module fetches none, so a PCIe packet stays in the command ring (R56). -/
def Mach.command (m : Mach) (tr : Transport) (vc : VCommand) : Mach :=
  match m.cmd.ready.find? fun r => r.tr == tr && r.vc == vc with
  | some r => (m.onCmd fun c => { c with ready := c.ready.erase r }).receive tr r.route vc r.at_
  | none =>
    if !transportUp m tr then m
    else if tr == .pcie && !m.cmd.waiting.isEmpty then m.onCmd fun c => { c with unfetched := c.unfetched ++ [vc], prodP := (c.prodP + 1) % 32 }
    else m.receive tr (plainRoute m tr) vc m.now

/-- A packet received whole: one whose opcode is defined waits for its row; any other has no row and is answered at once. -/
def Mach.arrive (m : Mach) (tr : Transport) (route : Route) (vc : VCommand) : Mach :=
  if opcodes.contains vc.opcode.toNat then m.onCmd fun c => { c with ready := c.ready ++ [{ tr := tr, route := route, vc := vc, at_ := m.now }] }
  else m.receive tr route vc m.now

/-- Commands fetched from the ring; while a response waits none is (R56). -/
def Mach.fetch (m : Mach) : Nat → Mach
  | 0 => m
  | n + 1 =>
    match m.cmd.unfetched with
    | [] => m
    | vc :: rest =>
      if !m.cmd.waiting.isEmpty then m else
        ((m.onCmd fun c => { c with unfetched := rest, consP := (c.consP + 1) % 32 }).arrive .pcie .ring vc).fetch n

/-- A word of a 64-bit ring base replaced, aligned to 4 KiB. -/
def baseWord (old : BitVec 64) (high : Bool) (v : Word) : BitVec 64 :=
  if high then v ++ old.setWidth 32 else (old >>> 32).setWidth 32 ++ (v &&& 0xFFFFF000#32)

/-- A host write to BAR0 outside the indices (R55): discarded and rejected in the mirror of the CMD page (log 32), a ring base while
pcie_en is 0, or a word of the MSI-X table. -/
def Mach.barWrite (m : Mach) (off : Nat) (v : Word) : Mach :=
  if off < 0x1000 then m.reject 0x36 .pcie off 0x01 v
  else if 0x1800 ≤ off ∧ off < 0x1840 then
    let n := (off - 0x1800) / 16
    let k := (off - 0x1800) / 4 % 4
    m.onCmd fun c => { c with msix := setNth c.msix n (BitVec.ofNat 128 (setBits (nthD c.msix n 0).toNat (32 * k + 31) (32 * k) v.toNat)) }
  else if m.on CMD_CTRL_pcie_en then m
  else match off with
  | 0x1000 => m.onCmd fun c => { c with ringCmd := baseWord c.ringCmd false v }
  | 0x1004 => m.onCmd fun c => { c with ringCmd := baseWord c.ringCmd true v }
  | 0x1008 => m.onCmd fun c => { c with ringResp := baseWord c.ringResp false v }
  | 0x100C => m.onCmd fun c => { c with ringResp := baseWord c.ringResp true v }
  | _ => m

/-- The word that BAR0 shows the host at an offset (R55). -/
def barWord (m : Mach) (off : Nat) : Word :=
  if off < 0x1000 then readWord m 0x36 off
  else if 0x1800 ≤ off ∧ off < 0x1840 then word ((nthD m.cmd.msix ((off - 0x1800) / 16) 0).toNat / 2 ^ (32 * ((off - 0x1800) / 4 % 4)) % 2 ^ 32)
  else match off with
  | 0x1000 => m.cmd.ringCmd.setWidth 32
  | 0x1004 => (m.cmd.ringCmd >>> 32).setWidth 32
  | 0x1008 => m.cmd.ringResp.setWidth 32
  | 0x100C => (m.cmd.ringResp >>> 32).setWidth 32
  | 0x1010 => word m.cmd.prodP
  | 0x1014 => word m.cmd.respCons
  | 0x1018 => word (m.cmd.respProd * 2 ^ 16 + m.cmd.consP)
  | 0x1C00 => m.cmd.msixPend.setWidth 32
  | _ => 0

/-- The command producer doorbell, after the host's other writes to BAR0 (R55). -/
def Mach.cmdDoorbell (m : Mach) (prod : Nat) (cmds : List VCommand) (bar : List (BitVec 13 × Word)) : Mach :=
  let m := if m.cmd.perst then m else m.each bar fun e m => m.barWrite (e.1.toNat / 4 * 4) e.2
  if !transportUp m .pcie then m else
    let m := m.onCmd fun c => { c with prodP := prod, unfetched := c.unfetched ++ cmds }
    m.fetch m.cmd.unfetched.length

/-- The host has consumed responses (R56). -/
def Mach.consumed (m : Mach) (cons : Nat) : Mach :=
  if !transportUp m .pcie then m else
    let m := m.onCmd fun c => { c with respCons := cons }
    let m := m.drainResp m.cmd.waiting.length
    m.fetch m.cmd.unfetched.length

/-- A packet from its bytes; none with fewer than the 16 of a header. -/
def parsePacket (bs : List Byte) : Option VCommand :=
  if bs.length < 16 then none else
    let flags := nthD bs 1 0
    let body := bs.drop 16
    let tail := if flags.getLsbD 0 then 32 else 0
    some {
      opcode := nthD bs 0 0
      pk := {
        flags := flags, tag := nthD bs 2 0, page := nthD bs 3 0, length := BitVec.ofNat 16 (natBE ((bs.drop 4).take 2))
        status := nthD bs 6 0, rsv := nthD bs 7 0, offset := word (natBE ((bs.drop 8).take 4))
        fresh := word (natBE ((bs.drop 12).take 4)), payload := body.take (body.length - tail), trailer := body.drop (body.length - tail) } }

/-- Do two partial packets share their key: source address, port and packet number (R57)? -/
def samePart (ip : Word) (port packet : BitVec 16) (p : Partial) : Bool := p.ip == ip && p.port == port && p.packet == packet

/-- A partial packet forgotten. -/
def Mach.dropPart (m : Mach) (ip : Word) (port packet : BitVec 16) : Mach :=
  m.onCmd fun c => { c with parts := c.parts.filter fun p => !samePart ip port packet p }

/-- The segment of an index. -/
def segAt (p : Partial) (i : Nat) : Option UdpSegment := p.segs.find? fun s => s.index.toNat == i

/-- The bytes of a partial packet, when its last segment and every one before it are there. -/
def wholeBytes (p : Partial) : Option (List Byte) :=
  match p.segs.find? fun s => s.last == 0x80#8 with
  | none => none
  | some l =>
    let segs := (List.range (l.index.toNat + 1)).filterMap (segAt p)
    if segs.length = l.index.toNat + 1 then some (segs.flatMap (·.data)) else none

/-- Check 1 of R47: a partial packet times out 10 ms after its first segment; with its header received it is answered. -/
def Mach.partTimeout (m : Mach) (tr : Transport) (route : Route) (hdr : Option VCommand) : Mach :=
  let m := (m.count CMD_DROP_PARTIAL_n).event 0x36 1
  match hdr with
  | some vc => m.refuse tr route vc false 0x0B
  | none => m

/-- A UDP packet that is late (R47 check 1). -/
def Mach.dropLate (m : Mach) (p : Partial) : Mach :=
  (m.dropPart p.ip p.port p.packet).partTimeout .udp (.udp p.ip p.port p.packet) ((segAt p 0).bind fun s => parsePacket s.data)

/-- A packet reassembled: too short for a header it is only counted (check 2). -/
def Mach.assembled (m : Mach) (p : Partial) (bs : List Byte) : Mach :=
  let m := m.dropPart p.ip p.port p.packet
  match parsePacket bs with
  | some vc => m.arrive .udp (.udp p.ip p.port p.packet) vc
  | none => (m.count CMD_DROP_LEN_n).event 0x36 2

/-- A segment of a packet, new or partly received. -/
def Mach.addSegment (m : Mach) (seg : UdpSegment) : Mach :=
  let old := m.cmd.parts.find? (samePart seg.ip seg.port seg.packet)
  let p : Partial := old.getD { ip := seg.ip, port := seg.port, packet := seg.packet, segs := [], since := m.now }
  match segAt p seg.index.toNat with
  | some s => if s == seg then m else m.dropPart seg.ip seg.port seg.packet
  | none =>
    let p := { p with segs := p.segs ++ [seg] }
    match wholeBytes p with
    | some bs => m.assembled p bs
    | none => (m.dropPart seg.ip seg.port seg.packet).onCmd fun c => { c with parts := c.parts ++ [p] }

/-- Is a datagram one that the module listens to (R57): sent to its address and port, and from a permitted peer? -/
def listens (m : Mach) (seg : UdpSegment) : Bool :=
  let mask := m.inForce 0x36 0x05C 0
  seg.dst == m.inForce 0x36 0x054 0 && seg.dport.toNat == m.cfg CMD_UDP_PORT_port && (seg.ip &&& mask) == (m.inForce 0x36 0x058 0 &&& mask)

/-- A datagram on the command port (R57). One with a segment header or a size that R57 does not give is ignored (log 83). -/
def Mach.segment (m : Mach) (seg : UdpSegment) : Mach :=
  let ok := listens m seg && decide (seg.index.toNat < 12) && seg.last.toNat % 128 == 0 && decide (seg.data.length ≤ 1456)
  if !transportUp m .udp || !ok then m else
    let m := match m.cmd.parts.find? (samePart seg.ip seg.port seg.packet) with
      | some p => if p.since + 10000000 < m.now then m.dropLate p else m
      | none => m
    m.addSegment seg

/-- PARTIAL_PACKET_TIMEOUT: of a UDP packet that is held and late; of a PCIe fetch that has not completed. -/
def Mach.partialTimeout (m : Mach) (tr : Transport) (opcode : Byte) (hdr : Option VPacket) (ip : Word) (port packet : BitVec 16) : Mach :=
  match tr with
  | .pcie => if transportUp m .pcie then m.partTimeout .pcie .ring (hdr.map fun pk => { opcode := opcode, pk := pk }) else m
  | .udp =>
    match m.cmd.parts.find? (samePart ip port packet) with
    | some p => if p.since + 10000000 ≤ m.now then m.dropLate p else m
    | none => m

/-! ### Timeouts and the endpoint (R59, R60, R426) -/

/-- What an interrupted command leaves: a run abandoned, a load dropped, a key not loaded (R60). -/
def Mach.interrupt (m : Mach) (o : OutCmd) : Mach :=
  let mine := fun (l : Load) => l.verifying && l.tr == o.tr && l.tag == o.vc.pk.tag
  let m := m.onCmd fun c => { c with loads := c.loads.filter fun l => !mine l }
  let m := match m.adm.run with
    | some r => if r.by_ = RunBy.vrelti o.tr o.vc.pk.tag then ({ m with adm := { m.adm with run := none } }).setFld ADM_STS_state 0 0 else m
    | none => m
  let isMine := fun (k : KeyLoad) => k.tr == o.tr && k.tag == o.vc.pk.tag
  match m.rim.queue with
  | [] => m
  | k :: rest =>
    let rest' := rest.filter fun k => !isMine k
    if isMine k then (m.onRim fun r => { r with queue := rest' }).nextLoad (rest'.length + 1)
    else m.onRim fun r => { r with queue := k :: rest' }

/-- A command that still executes when CMD_TIMEOUT has elapsed since its receipt (R60). -/
def Mach.cmdTimeout (m : Mach) (tr : Transport) (tag : Byte) : Mach :=
  match executing m tr tag with
  | some o =>
    if o.since + m.cfg CMD_TIMEOUT_timeout * 1000000 ≤ m.now then ((m.interrupt o).event 0x36 6).finishTag tr tag 0x0D [] else m
  | none => m

/-- PCIE_PERST_N asserted (R426). -/
def Mach.perst (m : Mach) : Mach :=
  let gone := m.cmd.out.filter fun o => o.tr == .pcie
  let m := m.each gone fun o m => m.interrupt o
  m.onCmd fun c => { c with
    perst := true, consP := 0, prodP := 0, respProd := 0, respCons := 0, waiting := [], unfetched := []
    out := c.out.filter fun o => o.tr != .pcie
    ready := c.ready.filter fun r => r.tr != .pcie }

/-! ### Commands -/

/-- R55: PCIE_CMD_DOORBELL. -/
def execPcieCmdDoorbell (t : Nat) (prod : BitVec 5) (w : HostWrites) (s : State) : Host.Outcome State Fault Refusal :=
  s.run t fun m => m.cmdDoorbell prod.toNat w.cmds w.bar

/-- R56: PCIE_RESPONSE_CONSUMED. -/
def execPcieResponseConsumed (t : Nat) (cons : BitVec 5) (s : State) : Host.Outcome State Fault Refusal :=
  s.run t fun m => m.consumed cons.toNat

/-- R426: PCIE_PERST. -/
def execPciePerst (t : Nat) (s : State) : Host.Outcome State Fault Refusal := s.run t fun m => m.perst

/-- R426: PCIE_PERST_RELEASE. -/
def execPciePerstRelease (t : Nat) (s : State) : Host.Outcome State Fault Refusal :=
  s.run t fun m => m.onCmd fun c => { c with perst := false }

/-- R426: MANAGEMENT_LINK_CHANGE: any speed but 1,000 Mb/s keeps the link down. -/
def execManagementLinkChange (t : Nat) (up : Bool) (at1000 : Bool) (s : State) : Host.Outcome State Fault Refusal :=
  s.run t fun m => m.onCmd fun c => { c with linkUp := up && at1000 }

/-- R57: UDP_SEGMENT. -/
def execUdpSegment (t : Nat) (seg : UdpSegment) (s : State) : Host.Outcome State Fault Refusal := s.run t fun m => m.segment seg

/-- R47: PARTIAL_PACKET_TIMEOUT. -/
def execPartialPacketTimeout (t : Nat) (tr : Transport) (opcode : Byte) (hdr : Option VPacket) (ip : Word) (port : BitVec 16)
    (packet : BitVec 16) (s : State) : Host.Outcome State Fault Refusal :=
  s.run t fun m => m.partialTimeout tr opcode hdr ip port packet

/-- R52: REG_READ. -/
def execRegRead (t : Nat) (tr : Transport) (pk : VPacket) (s : State) : Host.Outcome State Fault Refusal :=
  s.run t fun m => m.command tr { opcode := 0x01, pk := pk }

/-- R52: REG_WRITE. -/
def execRegWrite (t : Nat) (tr : Transport) (pk : VPacket) (s : State) : Host.Outcome State Fault Refusal :=
  s.run t fun m => m.command tr { opcode := 0x02, pk := pk }

/-- R51: REG_RMW. -/
def execRegRmw (t : Nat) (tr : Transport) (pk : VPacket) (s : State) : Host.Outcome State Fault Refusal :=
  s.run t fun m => m.command tr { opcode := 0x03, pk := pk }

/-- R41: COMMIT. -/
def execVreltiCommit (t : Nat) (tr : Transport) (pk : VPacket) (s : State) : Host.Outcome State Fault Refusal :=
  s.run t fun m => m.command tr { opcode := 0x10, pk := pk }

/-- R43: UNLOCK. -/
def execVreltiUnlock (t : Nat) (tr : Transport) (pk : VPacket) (s : State) : Host.Outcome State Fault Refusal :=
  s.run t fun m => m.command tr { opcode := 0x11, pk := pk }

/-- R179: ADMIT. -/
def execVreltiAdmit (t : Nat) (tr : Transport) (pk : VPacket) (s : State) : Host.Outcome State Fault Refusal :=
  s.run t fun m => m.command tr { opcode := 0x12, pk := pk }

/-- R54: BULK_READ. -/
def execBulkRead (t : Nat) (tr : Transport) (pk : VPacket) (s : State) : Host.Outcome State Fault Refusal :=
  s.run t fun m => m.command tr { opcode := 0x20, pk := pk }

/-- R54: BULK_WRITE. -/
def execBulkWrite (t : Nat) (tr : Transport) (pk : VPacket) (s : State) : Host.Outcome State Fault Refusal :=
  s.run t fun m => m.command tr { opcode := 0x21, pk := pk }

/-- R413: IMAGE_LOAD. -/
def execImageLoad (t : Nat) (tr : Transport) (pk : VPacket) (s : State) : Host.Outcome State Fault Refusal :=
  s.run t fun m => m.command tr { opcode := 0x30, pk := pk }

/-- R413: IMAGE_VERIFY_DONE. -/
def execImageVerifyDone (t : Nat) (s : State) : Host.Outcome State Fault Refusal := s.run t fun m => m.imageVerified

/-- R405: FW_LOAD. -/
def execFwLoad (t : Nat) (tr : Transport) (pk : VPacket) (s : State) : Host.Outcome State Fault Refusal :=
  s.run t fun m => m.command tr { opcode := 0x31, pk := pk }

/-- R405: FW_VERIFY_DONE. -/
def execFwVerifyDone (t : Nat) (s : State) : Host.Outcome State Fault Refusal := s.run t fun m => m.firmwareVerified

/-- R396: KEY_LOAD. -/
def execKeyLoad (t : Nat) (tr : Transport) (pk : VPacket) (s : State) : Host.Outcome State Fault Refusal :=
  s.run t fun m => m.command tr { opcode := 0x38, pk := pk }

/-- R51: NOP. -/
def execNop (t : Nat) (tr : Transport) (pk : VPacket) (s : State) : Host.Outcome State Fault Refusal :=
  s.run t fun m => m.command tr { opcode := 0x7F, pk := pk }

/-- R60: COMMAND_TIMEOUT. -/
def execCommandTimeout (t : Nat) (tr : Transport) (tag : BitVec 5) (s : State) : Host.Outcome State Fault Refusal :=
  s.run t fun m => m.cmdTimeout tr (tag.setWidth 8)

/-- R59: STORED_RESPONSE_EXPIRY. -/
def execStoredResponseExpiry (t : Nat) (tr : Transport) (tag : BitVec 5) (s : State) : Host.Outcome State Fault Refusal :=
  s.run t fun m => m.onExpiry (.stored tr (tag.setWidth 8)) fun m => m.releaseStored tr (tag.setWidth 8)

/-- R390: RIM_CLEAR, a REG_WRITE of its key. -/
def execRimClear (t : Nat) (tr : Transport) (pk : VPacket) (s : State) : Host.Outcome State Fault Refusal :=
  s.run t fun m => m.command tr { opcode := 0x02, pk := pk }

end Sys2Proof.Machine
end

