-- ==== Sys2Proof/Machine/Dispatch.lean ====
section
/-! DEFINITION. The dispatch: one arm per command, each a direct call of its meaning. -/

namespace Sys2Proof.Machine

/-- The effect of a command on everything but the queue. -/
def exec (i : Instr) (s : State) : Host.Outcome State Fault Refusal :=
  match i with
  | .registerWrite t src page off w v => Sys2Proof.Machine.execRegisterWrite t src page off w v s
  | .lowWordCaptureRead t src page r => Sys2Proof.Machine.execLowWordCaptureRead t src page r s
  | .ptpTxs3Read t src => Sys2Proof.Machine.execPtpTxs3Read t src s
  | .pageLockCommit t src page => Sys2Proof.Machine.execPageLockCommit t src page s
  | .pageLockUnlock t src page => Sys2Proof.Machine.execPageLockUnlock t src page s
  | .softReset t src page => Sys2Proof.Machine.execSoftReset t src page s
  | .softResetComplete t page => Sys2Proof.Machine.execSoftResetComplete t page s
  | .pcieCmdDoorbell t prod w => Sys2Proof.Machine.execPcieCmdDoorbell t prod w s
  | .pcieResponseConsumed t cons => Sys2Proof.Machine.execPcieResponseConsumed t cons s
  | .pciePerst t => Sys2Proof.Machine.execPciePerst t s
  | .udpSegment t seg => Sys2Proof.Machine.execUdpSegment t seg s
  | .partialPacketTimeout t tr opcode hdr ip port packet => Sys2Proof.Machine.execPartialPacketTimeout t tr opcode hdr ip port packet s
  | .regRead t tr pk => Sys2Proof.Machine.execRegRead t tr pk s
  | .regWrite t tr pk => Sys2Proof.Machine.execRegWrite t tr pk s
  | .regRmw t tr pk => Sys2Proof.Machine.execRegRmw t tr pk s
  | .vreltiCommit t tr pk => Sys2Proof.Machine.execVreltiCommit t tr pk s
  | .vreltiUnlock t tr pk => Sys2Proof.Machine.execVreltiUnlock t tr pk s
  | .vreltiAdmit t tr pk => Sys2Proof.Machine.execVreltiAdmit t tr pk s
  | .bulkRead t tr pk => Sys2Proof.Machine.execBulkRead t tr pk s
  | .bulkWrite t tr pk => Sys2Proof.Machine.execBulkWrite t tr pk s
  | .imageLoad t tr pk => Sys2Proof.Machine.execImageLoad t tr pk s
  | .imageVerifyDone t => Sys2Proof.Machine.execImageVerifyDone t s
  | .fwLoad t tr pk => Sys2Proof.Machine.execFwLoad t tr pk s
  | .fwVerifyDone t => Sys2Proof.Machine.execFwVerifyDone t s
  | .keyLoad t tr pk => Sys2Proof.Machine.execKeyLoad t tr pk s
  | .keyLoadFlashDone t ok => Sys2Proof.Machine.execKeyLoadFlashDone t ok s
  | .nop t tr pk => Sys2Proof.Machine.execNop t tr pk s
  | .commandTimeout t tr tag => Sys2Proof.Machine.execCommandTimeout t tr tag s
  | .storedResponseExpiry t tr tag => Sys2Proof.Machine.execStoredResponseExpiry t tr tag s
  | .admCtrlAdmit t src => Sys2Proof.Machine.execAdmCtrlAdmit t src s
  | .admCtrlCheck t src => Sys2Proof.Machine.execAdmCtrlCheck t src s
  | .admissionComplete t => Sys2Proof.Machine.execAdmissionComplete t s
  | .shareFrameBoundary t => Sys2Proof.Machine.execShareFrameBoundary t s
  | .managerWindowEnd t => Sys2Proof.Machine.execManagerWindowEnd t s
  | .hangWatchdogExpiry t st => Sys2Proof.Machine.execHangWatchdogExpiry t st s
  | .crossingTransferDone t x k => Sys2Proof.Machine.execCrossingTransferDone t x k s
  | .crossingEventArrival t x code tag => Sys2Proof.Machine.execCrossingEventArrival t x code tag s
  | .paceWindowEnd t counts => Sys2Proof.Machine.execPaceWindowEnd t counts s
  | .paceClrMinmax t src => Sys2Proof.Machine.execPaceClrMinmax t src s
  | .timeTagWrap t => Sys2Proof.Machine.execTimeTagWrap t s
  | .sourceMeasurement t source offset => Sys2Proof.Machine.execSourceMeasurement t source offset s
  | .slewComplete t => Sys2Proof.Machine.execSlewComplete t s
  | .primaryReturnHoldExpiry t => Sys2Proof.Machine.execPrimaryReturnHoldExpiry t s
  | .bridgingEntryExpiry t => Sys2Proof.Machine.execBridgingEntryExpiry t s
  | .holdoverLimitExpiry t => Sys2Proof.Machine.execHoldoverLimitExpiry t s
  | .ptpFrameRx t port fr => Sys2Proof.Machine.execPtpFrameRx t port fr s
  | .announceReceiptTimeout t dom => Sys2Proof.Machine.execAnnounceReceiptTimeout t dom s
  | .syncLossBudgetExpiry t dom => Sys2Proof.Machine.execSyncLossBudgetExpiry t dom s
  | .ptpTxIntervalExpiry t dom k => Sys2Proof.Machine.execPtpTxIntervalExpiry t dom k s
  | .ppsInEdge t highNs => Sys2Proof.Machine.execPpsInEdge t highNs s
  | .ppsInTimeout t => Sys2Proof.Machine.execPpsInTimeout t s
  | .irigbFrame t fr => Sys2Proof.Machine.execIrigbFrame t fr s
  | .ref10mGateEnd t ppm => Sys2Proof.Machine.execRef10mGateEnd t ppm s
  | .ref10mEdgeLoss t => Sys2Proof.Machine.execRef10mEdgeLoss t s
  | .stationSecondBoundary t => Sys2Proof.Machine.execStationSecondBoundary t s
  | .ppsOutWidthEnd t => Sys2Proof.Machine.execPpsOutWidthEnd t s
  | .tickNominalTime t => Sys2Proof.Machine.execTickNominalTime t s
  | .svFrame t fr port arrival => Sys2Proof.Machine.execSvFrame t fr port arrival s
  | .tickWindowExpiry t group => Sys2Proof.Machine.execTickWindowExpiry t group s
  | .streamTimeout t sub => Sys2Proof.Machine.execStreamTimeout t sub s
  | .combWaitExpiry t group => Sys2Proof.Machine.execCombWaitExpiry t group s
  | .eqCombTimeout t group => Sys2Proof.Machine.execEqCombTimeout t group s
  | .msrTickSetTake t => Sys2Proof.Machine.execMsrTickSetTake t s
  | .msrTickSetDone t => Sys2Proof.Machine.execMsrTickSetDone t s
  | .releaseDeferralExpiry t slot => Sys2Proof.Machine.execReleaseDeferralExpiry t slot s
  | .trackerHoldExpiry t trk => Sys2Proof.Machine.execTrackerHoldExpiry t trk s
  | .tempSourceHoldExpiry t ts => Sys2Proof.Machine.execTempSourceHoldExpiry t ts s
  | .msrClrExtremes t src => Sys2Proof.Machine.execMsrClrExtremes t src s
  | .budgetExhausted t slot => Sys2Proof.Machine.execBudgetExhausted t slot s
  | .pwinCmdProdWrite t part v => Sys2Proof.Machine.execPwinCmdProdWrite t part v s
  | .pwinCplConsWrite t part v => Sys2Proof.Machine.execPwinCplConsWrite t part v s
  | .pwinMrConsWrite t part v => Sys2Proof.Machine.execPwinMrConsWrite t part v s
  | .pwinIrqWrite t part off v => Sys2Proof.Machine.execPwinIrqWrite t part off v s
  | .pwinConfigWrite t part off v => Sys2Proof.Machine.execPwinConfigWrite t part off v s
  | .result t part slot pk => Sys2Proof.Machine.execResult t part slot pk s
  | .yieldJob t part slot pk => Sys2Proof.Machine.execYieldJob t part slot pk s
  | .xfer t part pk => Sys2Proof.Machine.execXfer t part pk s
  | .transferPieceDone t part tag e => Sys2Proof.Machine.execTransferPieceDone t part tag e s
  | .vnicTx t part pk => Sys2Proof.Machine.execVnicTx t part pk s
  | .pnop t part pk => Sys2Proof.Machine.execPnop t part pk s
  | .irqTokenRefill t part => Sys2Proof.Machine.execIrqTokenRefill t part s
  | .partitionStart t src part => Sys2Proof.Machine.execPartitionStart t src part s
  | .partitionReset t src part => Sys2Proof.Machine.execPartitionReset t src part s
  | .partitionResetComplete t part => Sys2Proof.Machine.execPartitionResetComplete t part s
  | .slotReset t src slot => Sys2Proof.Machine.execSlotReset t src slot s
  | .freeze t src => Sys2Proof.Machine.execFreeze t src s
  | .frozenEntry t part => Sys2Proof.Machine.execFrozenEntry t part s
  | .thaw t src => Sys2Proof.Machine.execThaw t src s
  | .blackoutExpiry t => Sys2Proof.Machine.execBlackoutExpiry t s
  | .mgrRingDoorbell t src prod pks => Sys2Proof.Machine.execMgrRingDoorbell t src prod pks s
  | .drtRearm t src => Sys2Proof.Machine.execDrtRearm t src s
  | .slotResume t src => Sys2Proof.Machine.execSlotResume t src s
  | .slotClrMax t src => Sys2Proof.Machine.execSlotClrMax t src s
  | .pubFrameBuild t => Sys2Proof.Machine.execPubFrameBuild t s
  | .gooseRetransmissionDue t block => Sys2Proof.Machine.execGooseRetransmissionDue t block s
  | .compareExpiry t block => Sys2Proof.Machine.execCompareExpiry t block s
  | .gooseFrameRx t fr port arrival => Sys2Proof.Machine.execGooseFrameRx t fr port arrival s
  | .gooseSubTalExpiry t sub => Sys2Proof.Machine.execGooseSubTalExpiry t sub s
  | .plaitLaneLockChange t lane lock => Sys2Proof.Machine.execPlaitLaneLockChange t lane lock s
  | .plaitLaneLockHoldExpiry t lane => Sys2Proof.Machine.execPlaitLaneLockHoldExpiry t lane s
  | .plaitReplayExpiry t lane => Sys2Proof.Machine.execPlaitReplayExpiry t lane s
  | .plaitSupervisionExpiry t => Sys2Proof.Machine.execPlaitSupervisionExpiry t s
  | .helloInterval t => Sys2Proof.Machine.execHelloInterval t s
  | .keepIdleExpiry t lane => Sys2Proof.Machine.execKeepIdleExpiry t lane s
  | .hello t h msg => Sys2Proof.Machine.execHello t h msg s
  | .keep t h => Sys2Proof.Machine.execKeep t h s
  | .desc t h msg => Sys2Proof.Machine.execDesc t h msg s
  | .comb t h msg => Sys2Proof.Machine.execComb t h msg s
  | .samp t h group tick smp => Sys2Proof.Machine.execSamp t h group tick smp s
  | .tdig t h group tick digest => Sys2Proof.Machine.execTdig t h group tick digest s
  | .rdig t h slot tick digest => Sys2Proof.Machine.execRdig t h slot tick digest s
  | .fdig t h block stNum sqNum pairSeq digest => Sys2Proof.Machine.execFdig t h block stNum sqNum pairSeq digest s
  | .swap t h tick => Sys2Proof.Machine.execSwap t h tick s
  | .swapTick t => Sys2Proof.Machine.execSwapTick t s
  | .frec t h msg => Sys2Proof.Machine.execFrec t h msg s
  | .cut t h msg => Sys2Proof.Machine.execCut t h msg s
  | .cend t h msg => Sys2Proof.Machine.execCend t h msg s
  | .cack t h ok => Sys2Proof.Machine.execCack t h ok s
  | .copySettleTimeout t => Sys2Proof.Machine.execCopySettleTimeout t s
  | .copyRetryExpiry t => Sys2Proof.Machine.execCopyRetryExpiry t s
  | .witnessInterval t => Sys2Proof.Machine.execWitnessInterval t s
  | .witnessFrameRx t port fr => Sys2Proof.Machine.execWitnessFrameRx t port fr s
  | .witnessTimeout t => Sys2Proof.Machine.execWitnessTimeout t s
  | .searchExpiry t => Sys2Proof.Machine.execSearchExpiry t s
  | .revertHoldExpiry t => Sys2Proof.Machine.execRevertHoldExpiry t s
  | .twnCmdSwap t src => Sys2Proof.Machine.execTwnCmdSwap t src s
  | .twnCmdLead t src => Sys2Proof.Machine.execTwnCmdLead t src s
  | .twnCmdRejoin t src => Sys2Proof.Machine.execTwnCmdRejoin t src s
  | .macFrameRx t port fr => Sys2Proof.Machine.execMacFrameRx t port fr s
  | .linkLockChange t port lock fault sgmiiOk => Sys2Proof.Machine.execLinkLockChange t port lock fault sgmiiOk s
  | .upDebounceExpiry t port => Sys2Proof.Machine.execUpDebounceExpiry t port s
  | .downDebounceExpiry t port => Sys2Proof.Machine.execDownDebounceExpiry t port s
  | .linkHoldExpiry t port => Sys2Proof.Machine.execLinkHoldExpiry t port s
  | .pauseExpiry t port => Sys2Proof.Machine.execPauseExpiry t port s
  | .eeeIdleExpiry t port => Sys2Proof.Machine.execEeeIdleExpiry t port s
  | .eeeWakeComplete t port => Sys2Proof.Machine.execEeeWakeComplete t port s
  | .eeeTlvTtlExpiry t port => Sys2Proof.Machine.execEeeTlvTtlExpiry t port s
  | .lldpInterval t port => Sys2Proof.Machine.execLldpInterval t port s
  | .frameLifetimeExpiry t port cls => Sys2Proof.Machine.execFrameLifetimeExpiry t port cls s
  | .txFrameComplete t port => Sys2Proof.Machine.execTxFrameComplete t port s
  | .duplicateEntryForget t pair mac seq => Sys2Proof.Machine.execDuplicateEntryForget t pair mac seq s
  | .redSupervisionInterval t pair => Sys2Proof.Machine.execRedSupervisionInterval t pair s
  | .resequencingTimeout t => Sys2Proof.Machine.execResequencingTimeout t s
  | .cellEccError t => Sys2Proof.Machine.execCellEccError t s
  | .cutThroughUnderrun t port => Sys2Proof.Machine.execCutThroughUnderrun t port s
  | .swcCmdPairing t src => Sys2Proof.Machine.execSwcCmdPairing t src s
  | .swcCmdSelftest t src => Sys2Proof.Machine.execSwcCmdSelftest t src s
  | .swcCmdRanding t src => Sys2Proof.Machine.execSwcCmdRanding t src s
  | .selfTestComplete t pass => Sys2Proof.Machine.execSelfTestComplete t pass s
  | .quietPeriodExpiry t => Sys2Proof.Machine.execQuietPeriodExpiry t s
  | .modeChangeComplete t => Sys2Proof.Machine.execModeChangeComplete t s
  | .swcMemMaxClear t src => Sys2Proof.Machine.execSwcMemMaxClear t src s
  | .fwdEntryAgeOut t entry => Sys2Proof.Machine.execFwdEntryAgeOut t entry s
  | .acqManualTrigger t src => Sys2Proof.Machine.execAcqManualTrigger t src s
  | .acqRelease t src => Sys2Proof.Machine.execAcqRelease t src s
  | .acqExportFrame t unit => Sys2Proof.Machine.execAcqExportFrame t unit s
  | .energyIntervalEnd t => Sys2Proof.Machine.execEnergyIntervalEnd t s
  | .overcurrentTimerExpiry t point => Sys2Proof.Machine.execOvercurrentTimerExpiry t point s
  | .nrgLatch t src => Sys2Proof.Machine.execNrgLatch t src s
  | .nrgClrPeak t src => Sys2Proof.Machine.execNrgClrPeak t src s
  | .pulseInputEdge t pin level => Sys2Proof.Machine.execPulseInputEdge t pin level s
  | .pulseDebounceExpiry t pin => Sys2Proof.Machine.execPulseDebounceExpiry t pin s
  | .pulseMinWidthExpiry t pin => Sys2Proof.Machine.execPulseMinWidthExpiry t pin s
  | .pulseStallExpiry t pin => Sys2Proof.Machine.execPulseStallExpiry t pin s
  | .plsLatch t src => Sys2Proof.Machine.execPlsLatch t src s
  | .coilEventIntake t ev => Sys2Proof.Machine.execCoilEventIntake t ev s
  | .coilRecordWrite t => Sys2Proof.Machine.execCoilRecordWrite t s
  | .coilFoldRewrite t => Sys2Proof.Machine.execCoilFoldRewrite t s
  | .coilCmdFlush t src => Sys2Proof.Machine.execCoilCmdFlush t src s
  | .coilCmdLgClear t src => Sys2Proof.Machine.execCoilCmdLgClear t src s
  | .coilFifoClearMax t src => Sys2Proof.Machine.execCoilFifoClearMax t src s
  | .lastGaspFlushComplete t ok => Sys2Proof.Machine.execLastGaspFlushComplete t ok s
  | .pgInFall t => Sys2Proof.Machine.execPgInFall t s
  | .pgInRise t => Sys2Proof.Machine.execPgInRise t s
  | .nrstIn t => Sys2Proof.Machine.execNrstIn t s
  | .rstCmdModuleReset t src => Sys2Proof.Machine.execRstCmdModuleReset t src s
  | .rstCmdApplyImage t src => Sys2Proof.Machine.execRstCmdApplyImage t src s
  | .rstKick t src => Sys2Proof.Machine.execRstKick t src s
  | .managerWatchdogExpiry t => Sys2Proof.Machine.execManagerWatchdogExpiry t s
  | .powerOn t boot => Sys2Proof.Machine.execPowerOn t boot s
  | .vinUndervoltage t => Sys2Proof.Machine.execVinUndervoltage t s
  | .vinOutOfRange t mv => Sys2Proof.Machine.execVinOutOfRange t mv s
  | .tjHigh t tj => Sys2Proof.Machine.execTjHigh t tj s
  | .thermalTrip t tj => Sys2Proof.Machine.execThermalTrip t tj s
  | .thermalRecovery t tj => Sys2Proof.Machine.execThermalRecovery t tj s
  | .lidSwitchChange t opened => Sys2Proof.Machine.execLidSwitchChange t opened s
  | .keyStoreEraseComplete t => Sys2Proof.Machine.execKeyStoreEraseComplete t s
  | .meshTest t openRead => Sys2Proof.Machine.execMeshTest t openRead s
  | .voltageGlitch t begins => Sys2Proof.Machine.execVoltageGlitch t begins s
  | .rimClear t tr pk => Sys2Proof.Machine.execRimClear t tr pk s
  | .svAdvance t src => Sys2Proof.Machine.execSvAdvance t src s
  | .debugChallengeRead t => Sys2Proof.Machine.execDebugChallengeRead t s
  | .debugUnlockResponse t level response => Sys2Proof.Machine.execDebugUnlockResponse t level response s
  | .copyClassInterruption t => Sys2Proof.Machine.execCopyClassInterruption t s
  | .managementLinkChange t up at1000 => Sys2Proof.Machine.execManagementLinkChange t up at1000 s
  | .pciePerstRelease t => Sys2Proof.Machine.execPciePerstRelease t s

end Sys2Proof.Machine
end

