-- ==== Sys2Proof/Safety.lean ====
section
/-! DEFINITION. The terms claims use: a command that completes, canonical memory, a module that is held off, and the reach of
each command: the parts of the module and the pages of registers it can change. -/

namespace Sys2Proof.Machine

/-- The byte memories of the module are in their canonical form: bulk objects as held and in force, and the
host-physical memory. -/
def Mach.memOk (m : Mach) : Prop :=
  Memory.wf m.bulk = true ∧ Memory.wf m.bulkF = true ∧ Memory.wf m.mem = true

/-- A command completes: `exec` answers a next state in which the queue is as it was and the module is as `P` says. -/
def Completes (c : Instr) (s : State) (P : Mach → Prop) : Prop := ∃ m', exec c s = .next { s with m := m' } ∧ P m'

/-- The timer has run out at the instant `t` of the command, in a module that is not held off. -/
def Mach.fires (m : Mach) (tm : Timer) (t : Nat) : Prop := m.powered = true ∧ (m.advance t).due tm = true

/-- Bit `b` of PAGE_EVT of a page. -/
def Mach.evt (m : Mach) (page b : Nat) : Bool := bit (m.fld (hEvt page)) b

/-! ### A module held off (R435) -/

/-- The commands that a module held off still notices: the return of power and of a bearable temperature, and the
supply events before them (R410, R431, R435). -/
def wakes (i : Instr) : Bool :=
  match i with
  | .pgInFall _ | .pgInRise _ | .powerOn _ _ | .vinUndervoltage _ | .thermalRecovery _ _ => true
  | _ => false

/-- The module is held off, and no waiting command can bring it back (R435). -/
def State.HeldOff (s : State) : Prop := s.m.powered = false ∧ s.pending.all (fun i => !wakes i) = true

/-! ### The reach of a command -/

/-- The parts of the module: the fields of `Mach`. -/
inductive Piece where
  | now | free | powered | regs | force | low | capt | frozen | timers | bulk | bulkF | mem | outs | coil
  | cmd | cdc | pace | time | ptp | svi | msr | adm | dsp | pub | twn | parts | ports | pairs | swc | acq
  | nrg | pls | rim | flash | rst
  deriving DecidableEq, Repr

/-- Every part. -/
def allPieces : List Piece :=
  [.now, .free, .powered, .regs, .force, .low, .capt, .frozen, .timers, .bulk, .bulkF, .mem, .outs, .coil,
   .cmd, .cdc, .pace, .time, .ptp, .svi, .msr, .adm, .dsp, .pub, .twn, .parts, .ports, .pairs, .swc, .acq,
   .nrg, .pls, .rim, .flash, .rst]

/-- Every part but some. -/
def allBut (l : List Piece) : List Piece := allPieces.filter fun p => !l.contains p

/-- A part is the same in both. -/
def Mach.keeps (m m' : Mach) : Piece → Prop
  | .now => m'.now = m.now
  | .free => m'.free = m.free
  | .powered => m'.powered = m.powered
  | .regs => m'.regs = m.regs
  | .force => m'.force = m.force
  | .low => m'.low = m.low
  | .capt => m'.capt = m.capt
  | .frozen => m'.frozen = m.frozen
  | .timers => m'.timers = m.timers
  | .bulk => m'.bulk = m.bulk
  | .bulkF => m'.bulkF = m.bulkF
  | .mem => m'.mem = m.mem
  | .outs => m'.outs = m.outs
  | .coil => m'.coil = m.coil
  | .cmd => m'.cmd = m.cmd
  | .cdc => m'.cdc = m.cdc
  | .pace => m'.pace = m.pace
  | .time => m'.time = m.time
  | .ptp => m'.ptp = m.ptp
  | .svi => m'.svi = m.svi
  | .msr => m'.msr = m.msr
  | .adm => m'.adm = m.adm
  | .dsp => m'.dsp = m.dsp
  | .pub => m'.pub = m.pub
  | .twn => m'.twn = m.twn
  | .parts => m'.parts = m.parts
  | .ports => m'.ports = m.ports
  | .pairs => m'.pairs = m.pairs
  | .swc => m'.swc = m.swc
  | .acq => m'.acq = m.acq
  | .nrg => m'.nrg = m.nrg
  | .pls => m'.pls = m.pls
  | .rim => m'.rim = m.rim
  | .flash => m'.flash = m.flash
  | .rst => m'.rst = m.rst

/-- Where a command can write: parts of the module, and pages of the register map. -/
structure Reach where
  pieces : List Piece
  pages  : List Nat
  deriving DecidableEq, Repr

/-- The pages of the sixteen MACs. -/
def macPages : List Nat := (List.range 16).map (0x20 + ·)

/-- Every page number. -/
@[irreducible] def everyPage : List Nat := List.range 256

/-- What the recorder writes of its own page, whatever command is at work: PAGE_EVT and the counters COIL_CNT (R370, R385). -/
def recPage (page off : Nat) : Prop := page = 7 ∧ (off = 0x014 ∨ (COIL_CNT_n.off ≤ off ∧ off < COIL_CNT_n.off + 32))

/-- From `m` to `m'` nothing changed outside the reach: every part not named is the same, and so is every register word of every
page not named, the recorder's own words apart. -/
def Mach.inReach (r : Reach) (m m' : Mach) : Prop :=
  (∀ p, p ∉ r.pieces → m.keeps m' p)
    ∧ ∀ page off idx, page < 256 → off < 4096 → page ∉ r.pages → ¬ recPage page off → m'.reg page off idx = m.reg page off idx

/-- The reach of each command. Byte memory is in it only as `.bulk`, `.bulkF` (bulk objects as held and in force) and `.mem`. A
command that can violate the Rim, or end a run of the twin, reaches what that reaches. -/
def reach (i : Instr) : Reach :=
  match i with
  | .registerWrite _ _ _ _ _ _ | .regWrite _ _ _ | .rstCmdModuleReset _ _ | .rstCmdApplyImage _ _ | .rimClear _ _ _ |
    .paceWindowEnd _ _ =>
    ⟨allBut [.powered, .capt], everyPage⟩
  | .lowWordCaptureRead _ _ _ _ =>
    ⟨[.now, .regs, .capt, .outs, .coil, .ptp], everyPage⟩
  | .ptpTxs3Read _ _ =>
    ⟨[.now, .regs, .capt, .outs, .coil, .ptp], [0x06]⟩
  | .pageLockCommit _ _ _ | .pageLockUnlock _ _ _ =>
    ⟨allBut [.powered, .low, .capt, .frozen, .bulk, .cmd, .pace, .flash, .rst], everyPage⟩
  | .softReset _ _ _ =>
    ⟨allBut [.powered, .capt, .bulk, .rst], everyPage⟩
  | .softResetComplete _ _ =>
    ⟨[.now, .regs, .timers], everyPage⟩
  | .pcieCmdDoorbell _ _ _ | .pcieResponseConsumed _ _ | .udpSegment _ _ | .partialPacketTimeout _ _ _ _ _ _ _ =>
    ⟨[.now, .regs, .outs, .coil, .cmd], [0x36]⟩
  | .pciePerst _ =>
    ⟨[.now, .regs, .timers, .outs, .coil, .cmd, .adm, .rim], [0x04, 0x08]⟩
  | .regRead _ _ _ =>
    ⟨allBut [.powered, .force, .low, .frozen, .bulk, .bulkF, .pace, .time, .adm, .dsp, .acq, .nrg, .pls, .flash, .rst],
     everyPage⟩
  | .regRmw _ _ _ =>
    ⟨allBut [.powered], everyPage⟩
  | .vreltiCommit _ _ _ | .vreltiUnlock _ _ _ =>
    ⟨allBut [.powered, .low, .capt, .frozen, .bulk, .pace, .flash, .rst], everyPage⟩
  | .vreltiAdmit _ _ _ =>
    ⟨allBut [.powered, .force, .low, .capt, .frozen, .bulk, .bulkF, .pace, .time, .dsp, .acq, .nrg, .pls, .flash, .rst],
     [0x03, 0x04, 0x08, 0x0B, 0x0C, 0x10, 0x11, 0x12, 0x31, 0x34, 0x35, 0x36] ++ macPages⟩
  | .bulkRead _ _ _ =>
    ⟨allBut [.powered, .force, .low, .capt, .frozen, .bulk, .bulkF, .pace, .time, .adm, .dsp, .acq, .pls, .flash, .rst],
     [0x03, 0x04, 0x0B, 0x0C, 0x0E, 0x10, 0x11, 0x12, 0x31, 0x34, 0x35, 0x36] ++ macPages⟩
  | .bulkWrite _ _ _ =>
    ⟨allBut [.powered, .force, .low, .capt, .frozen, .bulkF, .pace, .time, .adm, .dsp, .acq, .nrg, .pls, .flash, .rst],
     everyPage⟩
  | .imageLoad _ _ _ | .fwLoad _ _ _ | .keyLoad _ _ _ | .nop _ _ _ | .lidSwitchChange _ _ | .meshTest _ _ |
    .voltageGlitch _ _ | .debugUnlockResponse _ _ _ =>
    ⟨allBut [.powered, .force, .low, .capt, .frozen, .bulk, .bulkF, .pace, .time, .adm, .dsp, .acq, .nrg, .pls, .flash,
     .rst], [0x03, 0x04, 0x0B, 0x0C, 0x10, 0x11, 0x12, 0x31, 0x34, 0x35, 0x36] ++ macPages⟩
  | .imageVerifyDone _ =>
    ⟨[.now, .regs, .timers, .outs, .coil, .cmd, .flash], [0x01]⟩
  | .fwVerifyDone _ | .lastGaspFlushComplete _ _ | .powerOn _ _ =>
    ⟨allPieces, everyPage⟩
  | .keyLoadFlashDone _ _ =>
    ⟨[.now, .free, .regs, .timers, .outs, .coil, .cmd, .rim], [0x04, 0x36]⟩
  | .commandTimeout _ _ _ =>
    ⟨[.now, .regs, .timers, .outs, .coil, .cmd, .adm, .rim], [0x04, 0x08, 0x36]⟩
  | .storedResponseExpiry _ _ _ =>
    ⟨[.now, .timers, .cmd], []⟩
  | .admCtrlAdmit _ _ | .admCtrlCheck _ _ =>
    ⟨[.now, .regs, .low, .outs, .coil, .adm], [0x08]⟩
  | .admissionComplete _ =>
    ⟨allBut [.powered, .force, .low, .capt, .frozen, .bulkF, .pace, .time, .dsp, .acq, .nrg, .pls, .flash], everyPage⟩
  | .shareFrameBoundary _ =>
    ⟨allBut [.powered, .low, .capt, .frozen, .bulk, .pace, .flash], everyPage⟩
  | .managerWindowEnd _ =>
    ⟨[.now, .dsp], []⟩
  | .hangWatchdogExpiry _ _ =>
    ⟨[.now, .regs, .timers, .mem, .outs, .coil, .cdc, .pace, .ptp, .pub, .twn, .parts, .ports, .pairs, .swc], [0x02, 0x09,
     0x10, 0x12, 0x32, 0x33, 0x34, 0x35, 0x37] ++ macPages⟩
  | .crossingTransferDone _ _ _ =>
    ⟨[.now, .regs, .outs, .coil, .cdc, .time, .ptp, .pls], [0x06, 0x0F, 0x37]⟩
  | .crossingEventArrival _ _ _ _ =>
    ⟨[.now, .regs, .outs, .coil, .cdc], [0x37]⟩
  | .paceClrMinmax _ _ =>
    ⟨[.now, .regs, .low, .outs, .coil], [0x02]⟩
  | .timeTagWrap _ =>
    ⟨[.now, .regs, .outs, .coil, .cdc], []⟩
  | .sourceMeasurement _ _ _ =>
    ⟨[.now, .free, .regs, .timers, .outs, .coil, .cdc, .time, .svi, .msr, .pub, .twn, .nrg], [0x05, 0x06, 0x0A, 0x0B]⟩
  | .slewComplete _ | .primaryReturnHoldExpiry _ | .bridgingEntryExpiry _ | .holdoverLimitExpiry _ |
    .syncLossBudgetExpiry _ _ | .ppsInTimeout _ | .irigbFrame _ _ | .ppsInEdge _ _ | .ref10mGateEnd _ _ |
    .ref10mEdgeLoss _ =>
    ⟨[.now, .free, .regs, .timers, .outs, .coil, .cdc, .time], [0x05, 0x06]⟩
  | .ptpFrameRx _ _ _ =>
    ⟨[.now, .free, .regs, .timers, .outs, .coil, .cdc, .time, .ptp, .ports], [0x05, 0x06, 0x10, 0x12] ++ macPages⟩
  | .announceReceiptTimeout _ _ =>
    ⟨[.now, .free, .regs, .timers, .outs, .coil, .cdc, .time, .ptp], [0x05, 0x06]⟩
  | .ptpTxIntervalExpiry _ _ _ =>
    ⟨[.now, .regs, .timers, .outs, .coil, .cdc, .ptp, .ports], [0x06, 0x10, 0x12] ++ macPages⟩
  | .stationSecondBoundary _ =>
    ⟨[.now, .free, .regs, .timers, .outs, .coil, .cdc, .time, .nrg], [0x05, 0x06, 0x0E]⟩
  | .ppsOutWidthEnd _ =>
    ⟨[.now, .timers, .outs, .time], []⟩
  | .tickNominalTime _ =>
    ⟨allBut [.powered, .force, .low, .capt, .frozen, .bulk, .bulkF, .cmd, .pace, .adm, .acq, .nrg, .pls, .rim, .flash, .rst],
     [0x05, 0x06, 0x09, 0x0B, 0x0C, 0x10, 0x11, 0x12, 0x31, 0x34, 0x35] ++ macPages⟩
  | .svFrame _ _ _ _ =>
    ⟨[.now, .regs, .timers, .outs, .coil, .svi, .msr, .pub, .twn, .ports], [0x0A, 0x0B, 0x10, 0x12]⟩
  | .tickWindowExpiry _ _ | .streamTimeout _ _ | .msrTickSetTake _ =>
    ⟨[.now, .regs, .timers, .outs, .coil, .svi, .msr, .pub, .twn, .ports], [0x0A, 0x0B, 0x10]⟩
  | .combWaitExpiry _ _ =>
    ⟨[.now, .regs, .timers, .outs, .coil, .svi, .msr, .twn], [0x0A, 0x0B]⟩
  | .eqCombTimeout _ _ =>
    ⟨[.now, .regs, .timers, .outs, .coil, .svi, .msr], [0x0A, 0x0B, 0x31]⟩
  | .msrTickSetDone _ =>
    ⟨[.now, .free, .regs, .timers, .mem, .outs, .coil, .cdc, .msr, .dsp, .pub, .twn, .parts, .acq, .nrg], [0x09, 0x0B, 0x0C,
     0x0D, 0x0E, 0x31, 0x34, 0x35]⟩
  | .releaseDeferralExpiry _ _ =>
    ⟨[.now, .regs, .timers, .mem, .outs, .coil, .cdc, .dsp, .pub, .parts], [0x09, 0x0C, 0x34, 0x35]⟩
  | .trackerHoldExpiry _ _ | .tempSourceHoldExpiry _ _ =>
    ⟨[.now, .timers, .msr], []⟩
  | .msrClrExtremes _ _ =>
    ⟨[.now, .regs, .low, .outs, .coil], [0x0B]⟩
  | .budgetExhausted _ _ =>
    ⟨[.now, .regs, .timers, .outs, .coil, .cdc, .dsp, .pub, .twn, .parts], [0x09, 0x0C, 0x31, 0x35]⟩
  | .pwinCmdProdWrite _ _ _ | .pwinMrConsWrite _ _ _ | .pwinConfigWrite _ _ _ _ | .pwinIrqWrite _ _ _ _ =>
    ⟨[.now, .regs, .timers, .outs, .coil, .cdc, .parts], [0x32, 0x35]⟩
  | .pwinCplConsWrite _ _ _ =>
    ⟨[.now, .regs, .timers, .mem, .outs, .coil, .cdc, .parts], [0x32, 0x34, 0x35]⟩
  | .result _ _ _ _ =>
    ⟨[.now, .free, .regs, .timers, .mem, .outs, .coil, .cdc, .dsp, .pub, .twn, .parts, .acq], [0x09, 0x0C, 0x31, 0x34, 0x35]⟩
  | .yieldJob _ _ _ _ =>
    ⟨[.now, .free, .regs, .timers, .mem, .outs, .coil, .cdc, .dsp, .pub, .twn, .parts], [0x09, 0x0C, 0x31, 0x34, 0x35]⟩
  | .xfer _ _ _ | .transferPieceDone _ _ _ _ =>
    ⟨[.now, .regs, .timers, .mem, .outs, .coil, .cdc, .pace, .parts], [0x09, 0x32, 0x33, 0x34, 0x35]⟩
  | .vnicTx _ _ _ =>
    ⟨[.now, .regs, .timers, .mem, .outs, .coil, .cdc, .ptp, .pub, .twn, .parts, .ports, .pairs, .swc], [0x09, 0x10, 0x11,
     0x12, 0x34, 0x35] ++ macPages⟩
  | .pnop _ _ _ =>
    ⟨[.now, .regs, .timers, .mem, .outs, .coil, .cdc, .parts], [0x09, 0x34, 0x35]⟩
  | .irqTokenRefill _ _ =>
    ⟨[.now, .regs, .timers, .outs, .coil, .cdc, .parts], [0x35]⟩
  | .partitionStart _ _ _ | .partitionReset _ _ _ | .slotReset _ _ _ =>
    ⟨allBut [.free, .powered, .capt, .frozen, .bulk, .bulkF, .cmd, .pace, .time, .svi, .msr, .adm, .nrg, .pls, .rim, .flash,
     .rst], [0x03, 0x09, 0x0C, 0x10, 0x11, 0x12, 0x31, 0x32, 0x33, 0x34, 0x35] ++ macPages⟩
  | .partitionResetComplete _ _ =>
    ⟨[.now, .regs, .timers, .outs, .coil, .dsp, .parts], [0x09, 0x32, 0x33, 0x35]⟩
  | .freeze _ _ | .thaw _ _ =>
    ⟨[.now, .regs, .force, .low, .timers, .mem, .outs, .coil, .cdc, .dsp, .pub, .parts], [0x03, 0x09, 0x0C, 0x32, 0x33, 0x34,
     0x35]⟩
  | .frozenEntry _ _ =>
    ⟨[.now, .regs, .outs, .coil], [0x32]⟩
  | .blackoutExpiry _ =>
    ⟨[.now, .regs, .force, .timers, .mem, .outs, .coil, .cdc, .dsp, .pub, .parts], [0x03, 0x09, 0x0C, 0x32, 0x33, 0x34,
     0x35]⟩
  | .mgrRingDoorbell _ _ _ _ =>
    ⟨[.now, .regs, .low, .timers, .mem, .outs, .coil, .cdc, .ptp, .pub, .twn, .parts, .ports, .pairs, .swc], [0x10, 0x11,
     0x12, 0x32, 0x34, 0x35] ++ macPages⟩
  | .drtRearm _ _ =>
    ⟨[.now, .regs, .low, .outs, .coil, .parts], [0x34]⟩
  | .slotResume _ _ | .slotClrMax _ _ =>
    ⟨[.now, .regs, .low, .outs, .coil, .dsp], [0x09]⟩
  | .pubFrameBuild _ =>
    ⟨[.now, .regs, .timers, .mem, .outs, .coil, .cdc, .ptp, .pub, .twn, .parts, .ports, .pairs, .swc, .acq], [0x0C, 0x10,
     0x11, 0x12, 0x34, 0x35] ++ macPages⟩
  | .gooseRetransmissionDue _ _ =>
    ⟨[.now, .timers, .pub], []⟩
  | .compareExpiry _ _ =>
    ⟨[.now, .regs, .timers, .mem, .outs, .coil, .cdc, .ptp, .pub, .twn, .parts, .ports, .pairs, .swc], [0x0C, 0x10, 0x11,
     0x12, 0x34, 0x35] ++ macPages⟩
  | .gooseFrameRx _ _ _ _ =>
    ⟨[.now, .regs, .timers, .mem, .outs, .coil, .cdc, .pub, .parts, .acq], [0x0C, 0x34, 0x35]⟩
  | .gooseSubTalExpiry _ _ =>
    ⟨[.now, .regs, .timers, .mem, .outs, .coil, .cdc, .pub, .parts], [0x0C, 0x34, 0x35]⟩
  | .plaitLaneLockChange _ _ _ =>
    ⟨[.now, .regs, .timers, .outs, .twn], [0x30]⟩
  | .plaitLaneLockHoldExpiry _ _ | .plaitReplayExpiry _ _ =>
    ⟨[.now, .regs, .timers, .outs, .coil, .twn], [0x30]⟩
  | .plaitSupervisionExpiry _ =>
    ⟨[.now, .regs, .timers, .mem, .outs, .coil, .cdc, .ptp, .svi, .msr, .dsp, .pub, .twn, .parts, .ports, .pairs, .swc],
     [0x09, 0x0B, 0x0C, 0x10, 0x11, 0x12, 0x30, 0x31, 0x34, 0x35] ++ macPages⟩
  | .helloInterval _ | .keepIdleExpiry _ _ | .revertHoldExpiry _ =>
    ⟨[.now, .timers, .outs, .twn], []⟩
  | .hello _ _ _ | .keep _ _ | .desc _ _ _ | .comb _ _ _ | .samp _ _ _ _ _ | .tdig _ _ _ _ _ | .rdig _ _ _ _ _ |
    .fdig _ _ _ _ _ _ _ | .swap _ _ _ | .frec _ _ _ | .cut _ _ _ | .cend _ _ _ | .cack _ _ _ =>
    ⟨allBut [.free, .powered, .force, .low, .capt, .frozen, .bulk, .bulkF, .cmd, .pace, .time, .adm, .acq, .pls, .rim,
     .flash, .rst], [0x09, 0x0A, 0x0B, 0x0C, 0x10, 0x11, 0x12, 0x30, 0x31, 0x34, 0x35, 0x37] ++ macPages⟩
  | .swapTick _ | .searchExpiry _ | .witnessFrameRx _ _ _ | .witnessTimeout _ =>
    ⟨[.now, .regs, .timers, .mem, .outs, .coil, .cdc, .ptp, .svi, .msr, .dsp, .pub, .twn, .parts, .ports, .pairs, .swc],
     [0x09, 0x0B, 0x0C, 0x10, 0x11, 0x12, 0x31, 0x34, 0x35] ++ macPages⟩
  | .copySettleTimeout _ | .copyClassInterruption _ =>
    ⟨[.now, .regs, .timers, .outs, .coil, .twn], [0x31]⟩
  | .copyRetryExpiry _ =>
    ⟨[.now, .regs, .timers, .outs, .twn], [0x31]⟩
  | .witnessInterval _ =>
    ⟨[.now, .regs, .timers, .outs, .coil, .cdc, .ptp, .twn, .ports, .pairs], [0x10, 0x12, 0x31] ++ macPages⟩
  | .twnCmdSwap _ _ | .twnCmdLead _ _ | .twnCmdRejoin _ _ =>
    ⟨allBut [.free, .powered, .force, .capt, .frozen, .bulk, .bulkF, .cmd, .pace, .time, .adm, .acq, .nrg, .pls, .rim,
     .flash, .rst], [0x09, 0x0B, 0x0C, 0x10, 0x11, 0x12, 0x31, 0x34, 0x35] ++ macPages⟩
  | .macFrameRx _ _ _ =>
    ⟨[.now, .regs, .timers, .mem, .outs, .coil, .cdc, .ptp, .pub, .twn, .parts, .ports, .pairs, .swc], [0x10, 0x11, 0x12,
     0x34, 0x35, 0x37] ++ macPages⟩
  | .linkLockChange _ _ _ _ _ =>
    ⟨[.now, .regs, .timers, .ports], macPages⟩
  | .upDebounceExpiry _ _ | .linkHoldExpiry _ _ | .eeeTlvTtlExpiry _ _ | .lldpInterval _ _ | .frameLifetimeExpiry _ _ _ |
    .txFrameComplete _ _ | .cutThroughUnderrun _ _ | .pauseExpiry _ _ | .eeeWakeComplete _ _ =>
    ⟨[.now, .regs, .timers, .outs, .coil, .cdc, .ptp, .ports], [0x10] ++ macPages⟩
  | .downDebounceExpiry _ _ =>
    ⟨[.now, .regs, .timers, .outs, .coil, .ports], [0x10] ++ macPages⟩
  | .eeeIdleExpiry _ _ =>
    ⟨[.now, .regs, .timers], macPages⟩
  | .duplicateEntryForget _ _ _ _ =>
    ⟨[.now, .pairs], []⟩
  | .redSupervisionInterval _ _ =>
    ⟨[.now, .regs, .timers, .outs, .coil, .cdc, .ptp, .pub, .twn, .ports, .pairs], [0x10, 0x12] ++ macPages⟩
  | .resequencingTimeout _ | .cellEccError _ | .modeChangeComplete _ =>
    ⟨[.now, .regs, .timers, .mem, .outs, .coil, .cdc, .ptp, .pub, .twn, .parts, .ports, .pairs, .swc], [0x10, 0x12, 0x34,
     0x35] ++ macPages⟩
  | .selfTestComplete _ _ =>
    ⟨[.now, .regs, .outs, .coil, .swc], [0x10]⟩
  | .swcCmdPairing _ _ | .swcCmdSelftest _ _ | .swcCmdRanding _ _ =>
    ⟨[.now, .regs, .low, .timers, .mem, .outs, .coil, .cdc, .ptp, .pub, .twn, .parts, .ports, .pairs, .swc], [0x10, 0x12,
     0x34, 0x35] ++ macPages⟩
  | .quietPeriodExpiry _ =>
    ⟨[.now, .regs, .swc], [0x10]⟩
  | .swcMemMaxClear _ _ =>
    ⟨[.now, .regs, .low, .outs, .coil], [0x10]⟩
  | .fwdEntryAgeOut _ _ =>
    ⟨[.now, .regs, .outs, .coil, .swc], [0x11]⟩
  | .acqManualTrigger _ _ | .acqRelease _ _ =>
    ⟨[.now, .regs, .low, .outs, .coil, .acq], [0x0D]⟩
  | .acqExportFrame _ _ =>
    ⟨[.now, .regs, .timers, .mem, .outs, .coil, .cdc, .ptp, .pub, .twn, .parts, .ports, .pairs, .swc, .acq], [0x0D, 0x10,
     0x11, 0x12, 0x34, 0x35] ++ macPages⟩
  | .energyIntervalEnd _ =>
    ⟨[.now, .regs, .outs, .coil, .nrg], [0x0E]⟩
  | .overcurrentTimerExpiry _ _ =>
    ⟨[.now, .regs, .timers, .outs, .coil, .nrg], [0x0E]⟩
  | .nrgLatch _ _ | .nrgClrPeak _ _ =>
    ⟨[.now, .regs, .low, .outs, .coil, .nrg], [0x0E]⟩
  | .pulseInputEdge _ _ _ | .pulseDebounceExpiry _ _ | .pulseMinWidthExpiry _ _ =>
    ⟨[.now, .regs, .timers, .outs, .coil, .cdc, .pls], [0x0F]⟩
  | .pulseStallExpiry _ _ =>
    ⟨[.now, .regs, .timers, .outs, .coil], [0x0F]⟩
  | .plsLatch _ _ =>
    ⟨[.now, .regs, .low, .outs, .coil], [0x0F]⟩
  | .coilEventIntake _ _ | .coilRecordWrite _ | .coilFoldRewrite _ =>
    ⟨[.now, .regs, .outs, .coil], []⟩
  | .coilCmdFlush _ _ | .coilCmdLgClear _ _ =>
    ⟨[.now, .regs, .low, .outs, .coil, .flash], [0x07]⟩
  | .coilFifoClearMax _ _ =>
    ⟨[.now, .regs, .low, .outs, .coil], [0x07]⟩
  | .pgInFall _ | .nrstIn _ | .vinUndervoltage _ =>
    ⟨[.now, .regs, .outs, .coil, .cmd, .rim, .rst], []⟩
  | .pgInRise _ | .thermalRecovery _ _ =>
    ⟨allBut [.flash], everyPage⟩
  | .rstKick _ _ =>
    ⟨[.now, .regs, .low, .timers, .outs, .coil], [0x01]⟩
  | .managerWatchdogExpiry _ =>
    ⟨[.now, .regs, .timers, .outs, .coil, .cmd, .rim, .rst], [0x01]⟩
  | .vinOutOfRange _ _ | .tjHigh _ _ =>
    ⟨[.now, .regs, .outs, .coil], [0x00]⟩
  | .thermalTrip _ _ =>
    ⟨[.now, .regs, .outs, .coil, .cmd, .rim, .rst], [0x00]⟩
  | .keyStoreEraseComplete _ =>
    ⟨[.now, .regs, .rim], [0x03]⟩
  | .svAdvance _ _ =>
    ⟨[.now, .regs, .low, .outs, .coil], [0x03]⟩
  | .debugChallengeRead _ =>
    ⟨[.now, .free, .outs, .rim], []⟩
  | .managementLinkChange _ _ _ | .pciePerstRelease _ =>
    ⟨[.now, .cmd], []⟩

end Sys2Proof.Machine
end

