-- ==== Sys2Proof/Terms.lean ====
section
/-! DEFINITION. The terms of the claims about single commands. -/

namespace Sys2Proof.Machine

/-- May the source write registers now? The debug port from level 2 on (R406). -/
abbrev Mach.mayWrite (m : Mach) (src : Src) : Prop := src = .debug → 2 ≤ m.fld RIM_STS_dbg

/-- A timer's instant has passed when the command reaches the module, which has power. -/
def Mach.lapsed (m : Mach) (tm : Timer) (t : Nat) : Prop := m.powered = true ∧ (m.advance t).past tm = true

/-! ### Commands of the command port -/

/-- A packet that reaches the module now passes every check of R47: its transport is in service and holds no equal packet that
waits for its row, over PCIe no response waits for the ring (R56), its size, header, opcode and page are in order, its tag is free and the transport is below its limit; with auth its HMAC
is that of the transport's key and session and its freshness is new, without auth its opcode needs none; and KR, where it is the
transport's key, accepts the opcode. -/
def Mach.passes (m : Mach) (tr : Transport) (vc : VCommand) : Prop :=
  (m.cmd.ready.find? fun r => r.tr == tr && r.vc == vc) = none ∧ transportUp m tr = true ∧ (tr = .pcie → m.cmd.waiting = [])
    ∧ sizeOk vc = true ∧ headerOk vc = true ∧ opcodeOk m vc.opcode.toNat = true
    ∧ isHeld m tr vc = false ∧ busyCount m tr < 32 ∧ heldCmd m tr vc.pk.tag = none
    ∧ (hasAuth vc = false → privileged vc.opcode.toNat vc.pk.page.toNat = false)
    ∧ (hasAuth vc = true → freshOk m tr vc.pk.fresh.toNat = true
        ∧ ∃ k, authKey m tr = some k ∧ packetMac k (commandHeader vc) vc.pk.payload m.cmd.session = vc.pk.trailer)
    ∧ pageOk m vc.opcode.toNat vc.pk.page.toNat = true
    ∧ (usesKR m tr = true → krAccepts m vc.opcode.toNat vc.pk = true)

/-- The response ring has room for one more response, and none waits (R56). -/
def Mach.ringRoom (m : Mach) (tr : Transport) : Prop := tr = .pcie → m.cmd.waiting = [] ∧ unconsumed m < 31

/-- The last thing the module sent is the response under this tag, with this status and payload; over PCIe with MSI-X vector 0. -/
def Mach.answers (m : Mach) (tr : Transport) (tag : Byte) (status : Nat) (payload : List Byte) : Prop :=
  ∃ r rest, m.outs = (match tr with | .pcie => [.msix 0] | .udp => []) ++ .response r :: rest
    ∧ r.tr = tr ∧ r.tag = tag ∧ r.status = status ∧ r.payload = payload

/-- The module once a command has passed the checks: with auth the run of failures ends and the freshness is taken. -/
def Mach.checked (m : Mach) (tr : Transport) (vc : VCommand) : Mach :=
  if hasAuth vc then m.authPassed.acceptFresh tr vc.pk.fresh.toNat else m

/-- The module as the execution of a command that passed the checks finds it: the command is outstanding, and with auth the response
stored under its tag is released. -/
def Mach.entered (m : Mach) (tr : Transport) (route : Route) (vc : VCommand) : Mach :=
  (if hasAuth vc then (m.checked tr vc).releaseStored tr vc.pk.tag else m.checked tr vc).onCmd fun c => { c with
    out := c.out ++ [{ tr := tr, route := route, vc := vc, auth := hasAuth vc, since := m.now, waiting := false }] }

/-! ### The time block -/

/-- The module as a command of the time block finds it at an instant: what the block does of itself up to then has happened (R97, R101). -/
def Mach.timeReached (m : Mach) (t : Nat) : Mach := (m.advance t).timeDue

/-- The module as a tick's nominal time finds it: beside that, no transmit stamp of an earlier instant waits at a full FIFO (R111). -/
def Mach.tickReached (m : Mach) (t : Nat) : Mach := (m.timeReached t).each (List.range 16) fun e m => m.settleStamps e

/-! ### Sampled values -/

/-- A sampled-value frame passes checks 1 to 7 of R120 for subscription `i`, its body is `a`, and it brings nothing to ticks before a
change of its subscription (R148). -/
def Mach.svPasses (m : Mach) (fr : Frame) (a : SvApdu) (i arrival : Nat) : Prop :=
  fr.fcs = .good ∧ fr.body = .sv a ∧ fr.etype = 0x88BA ∧ fr.tag ≠ .stacked ∧ 64 ≤ fr.len ∧ fr.len ≤ (if fr.tag = .untagged then 1518 else 1522)
    ∧ subFor m fr.dst a.appid.toNat = some i ∧ a.lenOk = true ∧ a.reserved = 0 ∧ (a.sim = true → m.on SVI_SUB_CTRL_test_ok i = true)
    ∧ authFault m i a.ext = none ∧ a.decodes = true ∧ a.noAsdu = m.cfg SVI_SUB_CTRL_n_asdu i + 1 ∧ a.asdus.length = m.cfg SVI_SUB_CTRL_n_asdu i + 1
    ∧ oldFor m fr.dst a (arrival + m.time.epoch) = none

/-- An ASDU passes checks 8 to 11 of R120 for subscription `i`. -/
def Mach.asduPasses (m : Mach) (i : Nat) (x : Asdu) : Prop :=
  x.svid = svidOf m i ∧ x.confRev.toNat = m.cfg SVI_SUB_CONFREV_confrev i ∧ x.smpCnt < rateHz (m.cfg SVI_SUB_CTRL_rate i)
    ∧ (∀ r, x.smpRate = some r → r = rateHz (m.cfg SVI_SUB_CTRL_rate i)) ∧ x.seqBytes = 8 * (m.cfg SVI_SUB_CTRL_n_ch i + 1)
    ∧ x.chans.length = m.cfg SVI_SUB_CTRL_n_ch i + 1 ∧ x.smpSynch.toNat ≠ 3 ∧ x.smpSynch.toNat ≠ 4 ∧ x.smpSynch.toNat ≠ 255

/-! ### A partition's ring -/

/-- DSP takes a packet of a partition for execution (R262): the partition is Active with a command in its ring and a completion
entry free, the packet is well formed, and the partition's transfers are below the depth its share gives. -/
def Mach.takes (m : Mach) (p : Nat) (pk : RingPacket) : Prop :=
  canTake m p = true ∧ ringPacketOk pk = true ∧ (m.part p).xfers.length < 2048 / division m

/-- What a partition's VNIC_TX packet sends into the switch core (R262, R322): its frame in the partition's VLAN, class 0, capped. -/
def vnicIngress (m : Mach) (p : Nat) (pk : RingPacket) : Ingress :=
  let vid := m.cfg VRT_PART_CFG_vid p
  {
    fr := frameOf pk.payload (.ctag ⟨vid % 4096, Nat.mod_lt _ (by decide)⟩ 0) (pk.payload.length + 8)
    port := 20 + m.cfg VRT_PART_CFG_vnic p, vid := vid, pcp := 0, cls := 0, capped := true, vnic := some p
    stamp := if pk.offset = 1 then some p else none }

/-- The partition's part of the virtual-NIC pool has room for every copy of that frame (R322). -/
def Mach.vnicRoom (m : Mach) (p : Nat) (pk : RingPacket) : Prop :=
  let i := vnicIngress m p pk
  let ports := (onePerPair m (destinations m i).1 (i.fr.etype == 0x88F7)).filter (· < 16)
  vnicCells m p + 25 * max 1 (ports.map fun e => if redMode m (e / 2) = 0 ∨ i.fr.etype = 0x88F7 then 1 else 2).sum
    ≤ m.cfg QOS_VNIC_cells / division m

/-! ### The link between the twins -/

/-- A Plait frame passes (R86, R229, R231): its crossing has room for it, its lane is Up on a link that is up, it verifies, it is the next one in its lane's sequence and
in link order, and nothing waits behind it. The publication role of a Lead is then role 1 (R226). -/
def Mach.plaitPasses (m : Mach) (h : PlaitHdr) : Prop :=
  rxRoom m (28 + h.lane) (beatsOf h.sec.covered.length) = true ∧ laneState m h.lane = 2 ∧ plaitUp m = true ∧ plaitSecOk m h = true ∧ h.laneSeq.toNat = (laneOf m h.lane).rxSeq ∧ h.linkSeq.toNat = m.twn.linkRx
    ∧ m.twn.reorder = [] ∧ (twnState m = 2 → pubRole m = 1)

/-- The module has taken a frame that passes (R229, R231, R233): the frame is counted, its number and its packet number are behind it,
supervision starts again, and the twin's state is as before. -/
def Mach.took (m : Mach) (h : PlaitHdr) (y : Mach) : Prop :=
  y.twn.linkRx = (m.twn.linkRx + 1) % 2 ^ 32 ∧ (laneOf y h.lane).rxSeq = ((laneOf m h.lane).rxSeq + 1) % 2 ^ 16 ∧ (laneOf y h.lane).rxPn = h.sec.pn
    ∧ y.twn.evidence = false ∧ y.fld PLT_CNT_n = (m.fld PLT_CNT_n + 1) % 2 ^ 32 ∧ y.deadline .supervision = some (m.now + m.cfg PLT_SUP_timeout * 1000)
    ∧ twnState y = twnState m ∧ y.force = m.force ∧ y.svi = m.svi

/-- What follows a message of the link: equalisation goes on, and the twin is evaluated (R227, R235). -/
def Mach.handled (m : Mach) : Mach := (m.each ((m.svi.eq.map fun e => e.tk.group).eraseDups) fun g m => m.eqAdvance g).twinEval

/-- A witness frame is a whole one of the pair, and its authentication value is right (R249). -/
def Mach.witnessFits (m : Mach) (fr : Frame) (w : WitnessPdu) : Prop :=
  m.on TWN_CFG_en = true ∧ fr.fcs = .good ∧ fr.etype = 0x88B6 ∧ fr.dst = macOf m TWN_WIT_DMAC_LO_lo TWN_WIT_DMAC_HI_hi 0
    ∧ fr.src ≠ macOf m TWN_WIT_SMAC_LO_lo TWN_WIT_SMAC_HI_hi 0 ∧ ∃ k, m.keyFor (m.cfg TWN_WIT_KEY_slot) 4 = some k ∧ witnessAuth k w.covered = w.auth

/-! ### Commits, power and reset -/

/-- What a commit of an uncommitted page leaves, with `ok` what its consistency check asks (R41, R42). Passed: the page is committed;
an admitted page is staged and nothing takes effect yet; on any other page the committed values take effect. Failed: the page stays
uncommitted, nothing takes effect, and reason 0x09 stands in PAGE_ERR beside the source and the offset of PAGE_LOCK, unless an
earlier rejection stands there (R40). -/
def Mach.commitEnds (m m' : Mach) (src : Src) (page : Nat) (ok : Prop) : Prop :=
  (ok → m'.flag (hCommitted page) = true ∧ (admittedPage page = true → m'.flag (hStaged page) = true ∧ m'.force = m.force)
      ∧ (admittedPage page = false → m'.force = takeForce (m.setFlag (hCommitted page) 0 true).regs m.force page))
  ∧ (¬ ok → m'.flag (hCommitted page) = false ∧ m'.fld (hStaged page) = m.fld (hStaged page) ∧ m'.force = m.force
      ∧ (bit (m.fld (hErr page)) 31 = false → m'.fld (hErr page) = 2 ^ 31 + 0x09 * 2 ^ 16 + Src.code src * 2 ^ 12 + 0x028))

/-- A commit of the page passes exactly if `ok` holds of the module it reaches, from each source a commit can come from: a write of
PAGE_LOCK by the command port or the manager ring, and the Vrelti COMMIT command, whose response then carries status 0x00, or 0x05
with reason 0x09. -/
def CommitChecked (page : BitVec 8) (ok : Mach → Prop) : Prop :=
  (∀ (s : State) (t : Nat) (src : Src), s.m.powered = true → src ≠ .debug → rimLocked s.m = false →
    s.m.flag (hCommitted page.toNat) = false →
    Completes (.pageLockCommit t src page) s fun m' => s.m.commitEnds m' src page.toNat (ok s.m))
  ∧ (∀ (s : State) (t : Nat) (tr : Transport) (pk : VPacket), s.m.powered = true →
    (s.m.advance t).passes tr { opcode := 0x10, pk := pk } → s.m.ringRoom tr → rimLocked s.m = false → pk.page = page → pk.payload = [] →
    s.m.flag (hCommitted page.toNat) = false →
    Completes (.vreltiCommit t tr pk) s fun m' =>
      ((s.m.advance t).entered tr (plainRoute s.m tr) { opcode := 0x10, pk := pk }).commitEnds m' (srcOf tr) page.toNat (ok s.m)
        ∧ (ok s.m → m'.answers tr pk.tag 0x00 []) ∧ (¬ ok s.m → m'.answers tr pk.tag 0x05 (reasonPayload 0x09)))

/-- The flush of R382 has begun at the instant of the command: intake is closed, what waits in the queues of the Rim and of the
loads is dropped, and the PFAIL vector is driven. -/
def Mach.flushBegun (m m' : Mach) (t : Nat) : Prop :=
  m'.coil.intake = false ∧ m'.coil.flushing = true ∧ m'.coil.flushAt = (m.advance t).now ∧ m'.rim.queue = [] ∧ m'.cmd.loads = [] ∧ .msix 2 ∈ m'.outs

/-- A module reset with that cause has taken place (R407, R408): the cause is shown, the boot count of R239 goes on, the Rim's state
stays, intake is open, no timer runs, and RDY falls. -/
def Mach.resetWith (m m' : Mach) (cause : Nat) : Prop :=
  m'.powered = true ∧ m'.fld RST_STS_cause = cause ∧ m'.fld TWN_BOOT_n = (m.fld TWN_BOOT_n + 1) % 2 ^ 16 ∧ m'.rst = { pg := m'.rst.pg, reset := true }
    ∧ m'.fld RIM_STS_state = m.fld RIM_STS_state ∧ m'.coil.intake = true ∧ m'.timers = [] ∧ .rdy false ∈ m'.outs

/-- A pulse that began at `s` is counted (R367 steps 3 and 4, R368): the count goes on by one, the tag of its start is shown, the
input is not stalled, and its stall time runs anew. -/
def Mach.pulseCounted (m m' : Mach) (p s : Nat) : Prop :=
  (plsPin m' p).count = ((plsPin m p).count + 1) % 2 ^ 32 ∧ (plsPin m' p).lastAt = some s ∧ (plsPin m' p).started = none
    ∧ m'.fld PLS_LAST_tag p = (tagOf s).toNat ∧ m'.flag PLS_STS_stalled p = false
    ∧ m'.deadline (.stall p) = (if m.cfg PLS_LIM_stall p = 0 then none else some (m'.now + m.cfg PLS_LIM_stall p * 1000000000))

/-- A pulse that began at `s` is turned away as too soon after the one counted last (R367 step 3). -/
def Mach.pulseRejected (m m' : Mach) (p : Nat) : Prop :=
  (plsPin m' p).count = (plsPin m p).count ∧ (plsPin m' p).lastAt = (plsPin m p).lastAt ∧ (plsPin m' p).started = none
    ∧ m'.fld PLS_RATE_REJ_n = (m.fld PLS_RATE_REJ_n + 1) % 2 ^ 32 ∧ m'.evt 0x0F 2 = true

/-- A pulse that began at `s` qualifies: it is counted, or turned away if it comes sooner after the last counted one than the rate
limit allows (R367 steps 3 and 4). -/
def Mach.pulseQualifies (m m' : Mach) (p s : Nat) : Prop :=
  ((∃ l, (plsPin m p).lastAt = some l ∧ s < l + m.cfg PLS_LIM_min_int p * 1000000) → m.pulseRejected m' p)
    ∧ ((∀ l, (plsPin m p).lastAt = some l → l + m.cfg PLS_LIM_min_int p * 1000000 ≤ s) → m.pulseCounted m' p s)

/-! ### Changes of the twin -/

/-- The twin has entered a state, counted, with TWN event bit [0] (R226). -/
def Mach.entersTwn (m m' : Mach) (st : Nat) : Prop := twnState m' = st ∧ m'.fld TWN_CNT_n = (m.fld TWN_CNT_n + 1) % 2 ^ 32 ∧ m'.evt 0x31 0 = true

/-- The swap tick that a lead names: the supervision timeout and 500 µs, in ticks, rounded up, and one more past the latest tick (R254). -/
def swapTickOf (m : Mach) : Nat := latestPair m + ceilDiv ((m.cfg PLT_SUP_timeout + 500) * rateHz (m.cfg SVI_TICK_rate)) 1000000 + 1

/-- A frame that passes brought a message: the module has taken the frame, the message has had its effect, which satisfies `P`, and
what follows a message has happened (R229, R230). -/
def Mach.delivers (m : Mach) (h : PlaitHdr) (x : PlaitMsg) (P : Mach → Prop) (m' : Mach) : Prop :=
  ∃ y, m.took h y ∧ m' = (y.plaitMsg x).handled ∧ P (y.plaitMsg x)

/-- SVI with a tick's equalisation counted from now on where a descriptor of it comes for the first time (R140, R141). -/
def eqSeen (m : Mach) (d : DescMsg) : Svi := { m.svi with eq := m.svi.eq.map fun e =>
  if e.tk.group = d.group.val ∧ e.tk.pair = d.tick.toNat ∧ e.desc.isNone = true then { e with since := m.now } else e }

/-- The module has taken a frame that passes, and its message is without effect. -/
def Mach.discards (m : Mach) (h : PlaitHdr) (m' : Mach) : Prop := ∃ y, m.took h y ∧ m' = y.handled

end Sys2Proof.Machine
end

