-- ==== Sys2Proof/Certificates/Slice0/Obligations.lean ====
section
/-! DEFINITION. The statements for the provers. Each says for which states and operands its commands complete, and with what
effect, by the rules of the manual its docstring names. -/

open Sys2Proof Sys2Proof.Machine

/-- Commands are taken first in, first out; with none waiting nothing happens. The queue is the model's choice (log 1). -/
def Obligations.StepRunsFrontCommand : Prop :=
  (∀ (c : Instr) (s : State), step { s with pending := c :: s.pending } = exec c s)
  ∧ (∀ s : State, s.pending = [] → step s = .next s)

/-- R408, R91: the module right after a module reset; what the tables do not give is entry 62's choice. -/
def Obligations.ResetHoldsResetValues : Prop :=
  (∀ page off i, State.reset.m.reg page off i = resetWord page off i ∧ State.reset.m.inForce page off i = resetWord page off i)
  ∧ State.reset.m.reg 0x36 0x048 0 = 0x000300FA ∧ State.reset.m.reg 0x36 0x04C 0 = 0x00000FA0 ∧ State.reset.m.reg 0x02 0x04C 0 = 0x00640100
  ∧ State.reset.m.fld PTP_DOM_two_step = 1 ∧ State.reset.m.fld TWN_WIT_timeout = 3000 ∧ State.reset.m.fld PACE_NOW_pace = 0
  ∧ State.reset.m.now = 0 ∧ State.reset.m.timers = [] ∧ State.reset.m.bulk = [] ∧ State.reset.m.bulkF = [] ∧ State.reset.m.mem = []
  ∧ State.reset.m.frozen = [] ∧ State.reset.m.outs = [] ∧ State.reset.m.powered = true ∧ State.reset.pending = []

/-- The canonical form of every memory (log 6) at reset. -/
def Obligations.ResetMemoryCanonical : Prop := State.reset.m.memOk

/-- Every step keeps every memory in its canonical form (log 6). -/
def Obligations.StepKeepsMemoryCanonical : Prop := ∀ s s' : State, s.m.memOk → step s = .next s' → s'.m.memOk

/-- R435, log 5: a module held off stays as it is until a command that can bring it back. -/
def Obligations.HeldOffModuleStays : Prop :=
  ∀ s : State, s.HeldOff → ∃ s', step s = .next s' ∧ s'.m = s.m ∧ s'.HeldOff ∧ s'.pending = s.pending.tail

/-- The frame of every command: nothing outside its reach changes (R6, R370). -/
def Obligations.EveryCommandKeepsToItsReach : Prop :=
  ∀ (c : Instr) (s : State), ∃ m', exec c s = .next { s with m := m' } ∧ s.m.inReach (reach c) m'

/-- No state stops the module, and a step takes one command. -/
def Obligations.EveryStepAnswersNext : Prop := ∀ s : State, ∃ s', step s = .next s' ∧ s'.pending = s.pending.tail

/-- R8, R34, R43, R44: what an accepted write of one word leaves in the register: PAGE_EVT loses the bits written 1, PAGE_EVT_EN
takes the value, and a block register with no command behind it (`act` leaves the module as it is) takes its RW and RWL fields and
loses the W1C bits written 1, while the values in force stay. -/
def Obligations.RegisterWriteStores : Prop :=
  (∀ (s : State) (t : Nat) (src : Src) (page : BitVec 8) (v : BitVec 64), s.m.powered = true → s.m.mayWrite src →
    mapped page.toNat = true → (page = 0x07 → s.m.coil.fifo.length < 32 ∧ (s.m.advance t).now / 2 ^ 32 ≤ s.m.coil.wrapNo) →
    Completes (.registerWrite t src page 0x014 .word v) s fun m' =>
      ∀ b < 32, m'.evt page.toNat b = (s.m.evt page.toNat b && !v.getLsbD b))
  ∧ (∀ (s : State) (t : Nat) (src : Src) (page : BitVec 8) (v : BitVec 64), s.m.powered = true → s.m.mayWrite src →
    mapped page.toNat = true → rimLocked s.m = false → underAdmission s.m page.toNat = false →
    Completes (.registerWrite t src page 0x018 .word v) s fun m' => m'.fld (hEvtEn page.toNat) = v.toNat % 2 ^ 32)
  ∧ (∀ (s : State) (t : Nat) (src : Src) (page : BitVec 8) (off : BitVec 12) (v : BitVec 64) (d : RegDef),
    s.m.powered = true → s.m.mayWrite src → mapped page.toNat = true → 0x040 ≤ off.toNat → off.toNat % 4 = 0 →
    findReg page.toNat off.toNat = some d → d.hiOff = none → lowOffsets page.toNat off.toNat = [] →
    ¬ (page = 0x01 ∧ off = 0x044) → ¬ recPage page.toNat off.toNat →
    wordRefusal (s.m.advance t) src page.toNat off.toNat (v.toNat % 2 ^ 32) = none →
    (∀ (k : Mach) (i : Nat), k.act src page.toNat off.toNat i (v.toNat % 2 ^ 32) = k) →
    Completes (.registerWrite t src page off .word v) s fun m' =>
      m'.reg page.toNat off.toNat (selIndex s.m d)
          = (((s.m.reg page.toNat off.toNat (selIndex s.m d) &&& ~~~ word (accMask d [.rw, .rwl]))
              ||| (v.setWidth 32 &&& word (accMask d [.rw, .rwl]))) &&& ~~~ (v.setWidth 32 &&& word (accMask d [.w1c])))
        ∧ m'.force = s.m.force)

/-- R33, R34: a page outside the map reads zero at every width, and a write to it is rejected, which GLB's header reports with reason 0x07. The reading
source is one that may read: the debug port reads from level 1 on (R406). -/
def Obligations.UnmappedPageReadsZeroAndRejectsWrites : Prop :=
  (∀ (s : State) (t : Nat) (src : Src) (page : BitVec 8) (off : BitVec 12) (w : Width), s.m.powered = true →
    (src = .debug → s.m.fld RIM_STS_dbg ≠ 0) → mapped page.toNat = false → off.toNat % Width.bytes w = 0 →
    Completes (.lowWordCaptureRead t src page ⟨off, w⟩) s fun m' => m'.outs = .read src 0 :: s.m.outs)
  ∧ (∀ (s : State) (t : Nat) (src : Src) (page : BitVec 8) (off : BitVec 12) (v : BitVec 64), s.m.powered = true →
    mapped page.toNat = false → off.toNat % 4 = 0 →
    Completes (.registerWrite t src page off .word v) s fun m' =>
      m'.evt 0x00 0 = true
        ∧ (bit (s.m.fld (hErr 0x00)) 31 = false →
            m'.fld (hErr 0x00) = 2 ^ 31 + 0x07 * 2 ^ 16 + Src.code src * 2 ^ 12 + off.toNat)
        ∧ ∀ p o i, p < 256 → o < 4096 → p ≠ 0x00 → ¬ recPage p o → m'.reg p o i = s.m.reg p o i)

/-- R41–R44: the commands PAGE_LOCK takes, where no reason of R440 rejects them (`lockRefusal`). On a page that is not admitted the
held values, taken from the held words once committed is set, are those in force at once; on an admitted page they are staged. -/
def Obligations.PageLockCommitsAndUnlocks : Prop :=
  (∀ (s : State) (t : Nat) (src : Src) (page : BitVec 8), s.m.powered = true → mapped page.toNat = true →
    s.m.flag (hCommitted page.toNat) = true → src ≠ .debug → rimLocked s.m = false →
    Completes (.pageLockCommit t src page) s fun m' =>
      m'.flag (hCommitted page.toNat) = true ∧ m'.fld (hStaged page.toNat) = s.m.fld (hStaged page.toNat)
        ∧ m'.fld (hGen page.toNat) = s.m.fld (hGen page.toNat) ∧ m'.force = s.m.force)
  ∧ (∀ (s : State) (t : Nat) (src : Src) (page : BitVec 8), s.m.powered = true → mapped page.toNat = true →
    admittedPage page.toNat = true → s.m.flag (hCommitted page.toNat) = false →
    lockRefusal (s.m.advance t) src page.toNat 0x5EA10001 = none →
    Completes (.pageLockCommit t src page) s fun m' =>
      m'.flag (hCommitted page.toNat) = true ∧ m'.flag (hStaged page.toNat) = true ∧ m'.force = s.m.force)
  ∧ (∀ (s : State) (t : Nat) (src : Src) (page : BitVec 8), s.m.powered = true → mapped page.toNat = true →
    admittedPage page.toNat = false → s.m.flag (hCommitted page.toNat) = false →
    lockRefusal (s.m.advance t) src page.toNat 0x5EA10001 = none →
    Completes (.pageLockCommit t src page) s fun m' =>
      m'.force = takeForce (s.m.setFlag (hCommitted page.toNat) 0 true).regs s.m.force page.toNat)
  ∧ (∀ (s : State) (t : Nat) (src : Src) (page : BitVec 8), s.m.powered = true → mapped page.toNat = true →
    src ≠ .debug → rimLocked s.m = false → underAdmission s.m page.toNat = false →
    Completes (.pageLockUnlock t src page) s fun m' =>
      m'.flag (hCommitted page.toNat) = false ∧ m'.flag (hStaged page.toNat) = false ∧ m'.force = s.m.force)

/-- R34, R94, R111: reads. The captured high word is that of the instant of the low read, however late the high one comes; a transmit
stamp goes only from the FIFO of the port that PTP_PSEL names, where no stamp waits that found the FIFO full. A read of at most a word
shows its bytes of the word, where the word is none that a read captures; a misaligned one returns zero and is rejected with 0x06. -/
def Obligations.ReadsCaptureAndConsume : Prop :=
  (∀ (s : State) (t t2 : Nat) (src : Src), s.m.powered = true → (src = .debug → s.m.fld RIM_STS_dbg ≠ 0) →
    Completes (.lowWordCaptureRead t src 0x05 ⟨0x040, .word⟩) s fun m' =>
      m'.outs = .read src ((word ((s.m.advance t).now % 2 ^ 32)).setWidth 64) :: s.m.outs
        ∧ Completes (.lowWordCaptureRead t2 src 0x05 ⟨0x044, .word⟩) { s with m := m' } fun m2 =>
            m2.outs = .read src ((word ((s.m.advance t).now / 2 ^ 32)).setWidth 64) :: m'.outs)
  ∧ (∀ (s : State) (t : Nat) (src : Src) (page : BitVec 8) (off : BitVec 12) (w : Width), s.m.powered = true →
    (src = .debug → s.m.fld RIM_STS_dbg ≠ 0) → w ≠ .dword → off.toNat % Width.bytes w = 0 → page ≠ 0x06 →
    (∀ o ∈ [off.toNat / 4 * 4, off.toNat / 4 * 4 - 4], capturing page.toNat o = false ∧ pairing page.toNat o = false) →
    Completes (.lowWordCaptureRead t src page ⟨off, w⟩) s fun m' =>
      m'.outs = .read src (lane w off.toNat (readWord (s.m.advance t) page.toNat (off.toNat / 4 * 4))) :: s.m.outs
        ∧ m'.regs = s.m.regs)
  ∧ (∀ (s : State) (t : Nat) (src : Src) (page : BitVec 8) (off : BitVec 12) (w : Width), s.m.powered = true →
    (src = .debug → s.m.fld RIM_STS_dbg ≠ 0) → mapped page.toNat = true → off.toNat % Width.bytes w ≠ 0 →
    Completes (.lowWordCaptureRead t src page ⟨off, w⟩) s fun m' =>
      m'.outs.head? = some (.read src 0)
        ∧ (bit (s.m.fld (hErr page.toNat)) 31 = false →
            m'.fld (hErr page.toNat) = 2 ^ 31 + 0x06 * 2 ^ 16 + Src.code src * 2 ^ 12 + off.toNat))
  ∧ (∀ (s : State) (t : Nat) (src : Src), s.m.powered = true → (src = .debug → s.m.fld RIM_STS_dbg ≠ 0) →
    (s.m.ptp.late.find? fun l => l.1 == s.m.fld PTP_PSEL_port) = none →
    Completes (.ptpTxs3Read t src) s fun m' =>
      m'.outs = .read src ((readWord (s.m.advance t) 0x06 0x0AC).setWidth 64) :: s.m.outs
        ∧ (kget (s.m.fld PTP_PSEL_port) m'.ptp.txs).getD [] = ((kget (s.m.fld PTP_PSEL_port) s.m.ptp.txs).getD []).drop 1
        ∧ ∀ port, port ≠ s.m.fld PTP_PSEL_port → kget port m'.ptp.txs = kget port s.m.ptp.txs)

/-- R37, R409: PAGE_CTRL.reset, and the end of the soft reset it begins. -/
def Obligations.SoftResetRunsOrIsRefused : Prop :=
  (∀ (s : State) (t : Nat) (src : Src) (page : BitVec 8), s.m.powered = true → s.m.mayWrite src → mapped page.toNat = true →
    inUse s.m page.toNat = false →
    Completes (.softReset t src page) s fun m' =>
      m'.flag (hBusy page.toNat) = true ∧ (page ≠ 0x07 → m'.fld (hEvt page.toNat) = 0)
        ∧ m'.deadline (.softReset page.toNat) = some ((s.m.advance t).now + 10000))
  ∧ (∀ (s : State) (t : Nat) (src : Src) (page : BitVec 8), s.m.powered = true → s.m.mayWrite src → mapped page.toNat = true →
    inUse s.m page.toNat = true →
    Completes (.softReset t src page) s fun m' =>
      bit (s.m.fld (hErr page.toNat)) 31 = false → m'.fld (hErr page.toNat) = 2 ^ 31 + 0x08 * 2 ^ 16 + Src.code src * 2 ^ 12 + 0x00C)
  ∧ (∀ (s : State) (t : Nat) (page : BitVec 8), s.m.fires (.softReset page.toNat) t →
    Completes (.softResetComplete t page) s fun m' => m'.flag (hBusy page.toNat) = false)

/-- R55, R56, R426: the rings of the PCIe transport, PERST_N, and the management link, up at 1,000 Mb/s alone. -/
def Obligations.PcieTransportMoves : Prop :=
  (∀ (s : State) (t : Nat) (prod : BitVec 5) (cmds : List VCommand), s.m.powered = true → transportUp s.m .pcie = true →
    s.m.cmd.unfetched = [] → s.m.cmd.waiting = [] → (∀ vc ∈ cmds, opcodes.contains vc.opcode.toNat = true) →
    Completes (.pcieCmdDoorbell t prod { cmds := cmds }) s fun m' =>
      m'.cmd.ready = s.m.cmd.ready ++ cmds.map (fun vc => { tr := .pcie, route := .ring, vc := vc, at_ := (s.m.advance t).now })
        ∧ m'.cmd.unfetched = [] ∧ m'.cmd.prodP = prod.toNat ∧ m'.cmd.consP % 32 = (s.m.cmd.consP + cmds.length) % 32)
  ∧ (∀ (s : State) (t : Nat) (prod : BitVec 5) (cmds : List VCommand), s.m.powered = true → transportUp s.m .pcie = true →
    s.m.cmd.waiting ≠ [] →
    Completes (.pcieCmdDoorbell t prod { cmds := cmds }) s fun m' =>
      m'.cmd.ready = s.m.cmd.ready ∧ m'.cmd.unfetched = s.m.cmd.unfetched ++ cmds ∧ m'.cmd.consP = s.m.cmd.consP)
  ∧ (∀ (s : State) (t : Nat) (prod : BitVec 5) (cmds : List VCommand) (off : BitVec 13) (v : Word), s.m.powered = true →
    s.m.cmd.perst = false → s.m.on CMD_CTRL_pcie_en = true → off.toNat < 0x1000 →
    Completes (.pcieCmdDoorbell t prod ⟨cmds, [(off, v)]⟩) s fun m' =>
      (bit (s.m.fld (hErr 0x36)) 31 = false →
        m'.fld (hErr 0x36) = 2 ^ 31 + 0x01 * 2 ^ 16 + Src.code .pcie * 2 ^ 12 + off.toNat / 4 * 4)
        ∧ m'.cmd.ringCmd = s.m.cmd.ringCmd ∧ m'.cmd.ringResp = s.m.cmd.ringResp)
  ∧ (∀ (s : State) (t : Nat) (cons : BitVec 5) (r : Resp), s.m.powered = true → transportUp s.m .pcie = true →
    s.m.cmd.unfetched = [] → s.m.cmd.waiting = [r] → r.tr = .pcie → (s.m.cmd.respProd + 32 - cons.toNat) % 32 < 31 →
    Completes (.pcieResponseConsumed t cons) s fun m' =>
      m'.outs = .msix 0 :: .response { r with segs := r.datagrams } :: s.m.outs ∧ m'.cmd.waiting = [] ∧ m'.cmd.respCons = cons.toNat
        ∧ m'.cmd.respProd = (s.m.cmd.respProd + 1) % 32)
  ∧ (∀ (s : State) (t : Nat), s.m.powered = true →
    Completes (.pciePerst t) s fun m' =>
      m'.cmd.perst = true ∧ m'.cmd.consP = 0 ∧ m'.cmd.prodP = 0 ∧ m'.cmd.respProd = 0 ∧ m'.cmd.respCons = 0
        ∧ m'.cmd.waiting = [] ∧ m'.cmd.unfetched = [] ∧ (∀ o ∈ m'.cmd.out, o.tr ≠ .pcie) ∧ (∀ r ∈ m'.cmd.ready, r.tr ≠ .pcie))
  ∧ (∀ (s : State) (t : Nat), s.m.powered = true →
    Completes (.pciePerstRelease t) s fun m' => m' = { s.m.advance t with cmd := { s.m.cmd with perst := false } })
  ∧ (∀ (s : State) (t : Nat) (up at1000 : Bool), s.m.powered = true →
    Completes (.managementLinkChange t up at1000) s fun m' =>
      m' = { s.m.advance t with cmd := { s.m.cmd with linkUp := up && at1000 } })

/-- R47 (check 1), R57, R59, R60: what reaches the module in datagrams, and what ends by time. The queue of key loads, in the
time-out of a command, holds at most loads of that command. -/
def Obligations.UdpTransportAndTimeouts : Prop :=
  (∀ (s : State) (t : Nat) (seg : UdpSegment) (vc : VCommand), s.m.powered = true → transportUp s.m .udp = true →
    listens s.m seg = true →
    seg.index = 0 → seg.last = 0x80 → seg.data.length ≤ 1456 → s.m.cmd.parts = [] → parsePacket seg.data = some vc →
    opcodes.contains vc.opcode.toNat = true →
    Completes (.udpSegment t seg) s fun m' =>
      m'.cmd.ready = s.m.cmd.ready
          ++ [{ tr := .udp, route := .udp seg.ip seg.port seg.packet, vc := vc, at_ := (s.m.advance t).now }]
        ∧ m'.cmd.parts = [])
  ∧ (∀ (s : State) (t : Nat) (seg : UdpSegment), s.m.powered = true → transportUp s.m .udp = true →
    listens s.m seg = true →
    seg.index.toNat < 12 → seg.last = 0 → seg.data.length ≤ 1456 → s.m.cmd.parts = [] →
    Completes (.udpSegment t seg) s fun m' =>
      m'.cmd.parts = [{ ip := seg.ip, port := seg.port, packet := seg.packet, segs := [seg], since := (s.m.advance t).now }]
        ∧ m'.cmd.ready = s.m.cmd.ready)
  ∧ (∀ (s : State) (t : Nat) (op : Byte) (hdr : Option VPacket) (ip : Word) (port packet : BitVec 16) (p : Partial),
    s.m.powered = true → s.m.cmd.parts.find? (samePart ip port packet) = some p → p.since + 10000000 ≤ (s.m.advance t).now →
    Completes (.partialPacketTimeout t .udp op hdr ip port packet) s fun m' =>
      m'.evt 0x36 1 = true ∧ m'.fld CMD_DROP_PARTIAL_n = (s.m.fld CMD_DROP_PARTIAL_n + 1) % 2 ^ 32
        ∧ m'.cmd.parts.find? (samePart ip port packet) = none)
  ∧ (∀ (s : State) (t : Nat) (op : Byte) (hdr : Option VPacket) (ip : Word) (port packet : BitVec 16),
    s.m.powered = true → transportUp s.m .pcie = true →
    Completes (.partialPacketTimeout t .pcie op hdr ip port packet) s fun m' =>
      m'.evt 0x36 1 = true ∧ m'.fld CMD_DROP_PARTIAL_n = (s.m.fld CMD_DROP_PARTIAL_n + 1) % 2 ^ 32)
  ∧ (∀ (s : State) (t : Nat) (tr : Transport) (tag : BitVec 5) (o : OutCmd), s.m.powered = true → s.m.ringRoom tr →
    executing s.m tr (tag.setWidth 8) = some o → o.since + s.m.cfg CMD_TIMEOUT_timeout * 1000000 ≤ (s.m.advance t).now →
    (∀ k ∈ s.m.rim.queue, k.tr = tr ∧ k.tag = tag.setWidth 8) →
    Completes (.commandTimeout t tr tag) s fun m' =>
      m'.answers tr (tag.setWidth 8) 0x0D [] ∧ m'.evt 0x36 6 = true ∧ m'.rim.queue = []
        ∧ ∀ r, m'.adm.run = some r → r.by_ ≠ .vrelti tr (tag.setWidth 8))
  ∧ (∀ (s : State) (t : Nat) (tr : Transport) (tag : BitVec 5), s.m.fires (.stored tr (tag.setWidth 8)) t →
    Completes (.storedResponseExpiry t tr tag) s fun m' =>
      storedFor m' tr (tag.setWidth 8) = none ∧ m'.running (.stored tr (tag.setWidth 8)) = false ∧ m'.regs = s.m.regs)

/-- R51, R52: the two commands that need no auth off the security pages. A command that passes the checks of R47 while the response
ring has room is answered with status 0x00: NOP with its payload, REG_READ with the words read in ascending order, most significant
byte first, as its execution finds them. -/
def Obligations.VreltiNopAndRegReadAnswer : Prop :=
  (∀ (s : State) (t : Nat) (tr : Transport) (pk : VPacket), s.m.powered = true →
    (s.m.advance t).passes tr { opcode := 0x7F, pk := pk } → s.m.ringRoom tr →
    Completes (.nop t tr pk) s fun m' =>
      m'.answers tr pk.tag 0x00 pk.payload
        ∧ ∀ p o i, p < 256 → o < 4096 → p ≠ 0x03 → p ≠ 0x36 → m'.reg p o i = s.m.reg p o i)
  ∧ (∀ (s : State) (t : Nat) (tr : Transport) (pk : VPacket), s.m.powered = true →
    (s.m.advance t).passes tr { opcode := 0x01, pk := pk } → s.m.ringRoom tr →
    pk.payload.length = 4 → 1 ≤ natBE pk.payload → natBE pk.payload ≤ 1024 → pk.offset.toNat % 4 = 0 →
    pk.offset.toNat + 4 * natBE pk.payload ≤ 4096 →
    Completes (.regRead t tr pk) s fun m' =>
      m'.answers tr pk.tag 0x00
          ((((s.m.advance t).entered tr (plainRoute s.m tr) { opcode := 0x01, pk := pk }).readWords (srcOf tr) pk.page.toNat
            pk.offset.toNat (natBE pk.payload)).1)
        ∧ ∀ p o i, p < 256 → o < 4096 → p ≠ 0x03 → p ≠ 0x36 → m'.reg p o i = s.m.reg p o i)

/-- R41, R43, R51, R52: the commands of the command port that write a page's header. The pages of the Rim and of the command port
itself, whose words the checks of a command also write, are left out here. -/
def Obligations.VreltiWritesTakeEffect : Prop :=
  (∀ (s : State) (t : Nat) (tr : Transport) (pk : VPacket), s.m.powered = true →
    (s.m.advance t).passes tr { opcode := 0x02, pk := pk } → s.m.ringRoom tr → mapped pk.page.toNat = true →
    pk.page ≠ 0x03 → pk.page ≠ 0x36 → rimLocked s.m = false → underAdmission s.m pk.page.toNat = false →
    pk.offset = 0x018 → pk.payload.length = 4 →
    Completes (.regWrite t tr pk) s fun m' =>
      m'.answers tr pk.tag 0x00 [] ∧ m'.fld (hEvtEn pk.page.toNat) = natBE pk.payload)
  ∧ (∀ (s : State) (t : Nat) (tr : Transport) (pk : VPacket), s.m.powered = true →
    (s.m.advance t).passes tr { opcode := 0x03, pk := pk } → s.m.ringRoom tr → mapped pk.page.toNat = true →
    pk.page ≠ 0x03 → pk.page ≠ 0x36 → rimLocked s.m = false → underAdmission s.m pk.page.toNat = false →
    pk.offset = 0x018 → pk.payload.length = 8 →
    ∀ w, w = (s.m.reg pk.page.toNat 0x018 0 &&& ~~~ word (natBE (pk.payload.take 4)))
        ||| (word (natBE (pk.payload.drop 4)) &&& word (natBE (pk.payload.take 4))) →
    Completes (.regRmw t tr pk) s fun m' =>
      m'.answers tr pk.tag 0x00 (bytesBE 4 w.toNat) ∧ m'.fld (hEvtEn pk.page.toNat) = w.toNat)
  ∧ (∀ (s : State) (t : Nat) (tr : Transport) (pk : VPacket), s.m.powered = true →
    (s.m.advance t).passes tr { opcode := 0x10, pk := pk } → s.m.ringRoom tr → mapped pk.page.toNat = true →
    pk.page ≠ 0x03 → pk.page ≠ 0x36 → rimLocked s.m = false → pk.payload = [] →
    (s.m.flag (hCommitted pk.page.toNat) = true ∨ pk.page = 0x10) →
    Completes (.vreltiCommit t tr pk) s fun m' =>
      m'.answers tr pk.tag 0x00 [] ∧ m'.flag (hCommitted pk.page.toNat) = true
        ∧ m'.flag (hStaged pk.page.toNat)
            = (if s.m.flag (hCommitted pk.page.toNat) then s.m.flag (hStaged pk.page.toNat) else true))
  ∧ (∀ (s : State) (t : Nat) (tr : Transport) (pk : VPacket), s.m.powered = true →
    (s.m.advance t).passes tr { opcode := 0x11, pk := pk } → s.m.ringRoom tr → mapped pk.page.toNat = true →
    pk.page ≠ 0x03 → pk.page ≠ 0x36 → rimLocked s.m = false → underAdmission s.m pk.page.toNat = false → pk.payload = [] →
    Completes (.vreltiUnlock t tr pk) s fun m' =>
      m'.answers tr pk.tag 0x00 [] ∧ m'.flag (hCommitted pk.page.toNat) = false
        ∧ m'.flag (hStaged pk.page.toNat) = false)

/-- R51, R54, R179, R396, R398, R405, R413: the opcodes that start a run, move bulk bytes or load. -/
def Obligations.VreltiRunsBulkAndLoads : Prop :=
  (∀ (s : State) (t : Nat) (tr : Transport) (pk : VPacket), s.m.powered = true →
    (s.m.advance t).passes tr { opcode := 0x12, pk := pk } → rimLocked s.m = false → pk.payload = [] → s.m.adm.run = none →
    Completes (.vreltiAdmit t tr pk) s fun m' =>
      m'.adm.run = some { check := false, by_ := .vrelti tr pk.tag, since := (s.m.advance t).now, pages := runPages s.m }
        ∧ m'.fld ADM_STS_state = 1 ∧ (executing m' tr pk.tag).isSome = true)
  ∧ (∀ (s : State) (t : Nat) (tr : Transport) (pk : VPacket) (bytes : List Byte), s.m.powered = true →
    (s.m.advance t).passes tr { opcode := 0x20, pk := pk } → s.m.ringRoom tr → pk.payload.length = 4 →
    natBE pk.payload ≤ 16384 →
    (((s.m.advance t).entered tr (plainRoute s.m tr) { opcode := 0x20, pk := pk }).readBulk pk.page.toNat (bulkObj pk) (bulkPos pk)
      (natBE pk.payload)).2 = some bytes →
    Completes (.bulkRead t tr pk) s fun m' => m'.answers tr pk.tag 0x00 bytes)
  ∧ (∀ (s : State) (t : Nat) (tr : Transport) (pk : VPacket) (size : Nat), s.m.powered = true →
    (s.m.advance t).passes tr { opcode := 0x21, pk := pk } → s.m.ringRoom tr → rimLocked s.m = false →
    bulkSize pk.page.toNat (bulkObj pk) = some size → pk.payload ≠ [] → 16 * bulkPos pk + pk.payload.length ≤ size →
    underAdmission s.m pk.page.toNat = false → s.m.flag (hCommitted pk.page.toNat) = false →
    (pk.page = 0x11 → writesLearnt s.m (16 * bulkPos pk) pk.payload = false) →
    Completes (.bulkWrite t tr pk) s fun m' =>
      m'.answers tr pk.tag 0x00 []
        ∧ m'.bulk = memWrite (bulkKey pk.page.toNat (bulkObj pk) (16 * bulkPos pk)) pk.payload s.m.bulk)
  ∧ (∀ (s : State) (t : Nat) (tr : Transport) (pk : VPacket) (op : Byte), s.m.powered = true → (op = 0x30 ∨ op = 0x31) →
    (s.m.advance t).passes tr { opcode := op, pk := pk } → s.m.ringRoom tr → (s.m.rst.recovery = true ∨ rimLocked s.m = false) →
    pk.payload ≠ [] → pk.offset.toNat * 16 = (((openLoad s.m op).map (·.data)).getD []).length →
    Completes (if op = 0x30 then .imageLoad t tr pk else .fwLoad t tr pk) s fun m' =>
      m'.answers tr pk.tag 0x00 []
        ∧ openLoad m' op = some {
            opcode := op, data := ((openLoad s.m op).map (·.data)).getD [] ++ pk.payload, tr := tr, tag := pk.tag, verifying := false })
  ∧ (∀ (s : State) (t : Nat) (tr : Transport) (pk : VPacket) (op : Byte), s.m.powered = true → (op = 0x30 ∨ op = 0x31) →
    (s.m.advance t).passes tr { opcode := op, pk := pk } → (s.m.rst.recovery = true ∨ rimLocked s.m = false) → pk.payload = [] →
    Completes (if op = 0x30 then .imageLoad t tr pk else .fwLoad t tr pk) s fun m' =>
      { opcode := op, data := ((openLoad s.m op).map (·.data)).getD [], tr := tr, tag := pk.tag, verifying := true } ∈ m'.cmd.loads
        ∧ openLoad m' op = none ∧ (executing m' tr pk.tag).isSome = true)
  ∧ (∀ (s : State) (t : Nat) (tr : Transport) (pk : VPacket) (k : Key), s.m.powered = true →
    (s.m.advance t).passes tr { opcode := 0x38, pk := pk } →
    (rimLocked s.m = false ∨ (s.m.fld RIM_STS_state = 2 ∧ keyWrap pk.payload = 0)) → s.m.rim.queue = [] →
    keyFormOk pk.payload = true → keyChecks s.m pk.payload = .ok k →
    Completes (.keyLoad t tr pk) s fun m' =>
      m'.rim.queue = [{ tr := tr, tag := pk.tag, payload := pk.payload, key := k }]
        ∧ (executing m' tr pk.tag).isSome = true)

/-- R392, R395–R397, R405, R413: what stands once a load or an erasure has ended. The firmware clause is that of a module that is not
in recovery mode, where a good image also resets the module. -/
def Obligations.LoadsEndInFlash : Prop :=
  (∀ (s : State) (t : Nat) (l : Load), s.m.powered = true → verifyingLoad s.m 0x30 = some l →
    Completes (.imageVerifyDone t) s fun m' =>
      (if s.m.cfg RST_CTRL_img_sel = 1 then m'.flash.image0 else m'.flash.image1) = l.data
        ∧ bit (m'.fld RST_IMG_valid) (1 - s.m.cfg RST_CTRL_img_sel) = imageValid m' (1 - s.m.cfg RST_CTRL_img_sel))
  ∧ (∀ (s : State) (t : Nat) (l : Load), s.m.powered = true → s.m.rst.recovery = false → verifyingLoad s.m 0x31 = some l →
    Completes (.fwVerifyDone t) s fun m' =>
      (if s.m.fld RIM_STS_bank = 1 then m'.flash.bank0 else m'.flash.bank1)
        = { loaded := l.data, bad := !(match Config.firmware l.data with
            | some (sv, _) => decide (s.m.fld RIM_BOOT_sv_min ≤ sv.toNat) && !l.data.isEmpty
            | none => false) })
  ∧ (∀ (s : State) (t : Nat) (k : KeyLoad), s.m.powered = true → s.m.rim.queue = [k] →
    keyUsage k.payload ≠ 0 → keyUsage k.payload < 8 →
    Completes (.keyLoadFlashDone t true) s fun m' =>
      kget (keySlot k.payload) m'.rim.keys = some k.key ∧ m'.fld KEY_SLOT_usage (keySlot k.payload) = keyUsage k.payload
        ∧ m'.fld KEY_SLOT_VER_ver (keySlot k.payload) = keyVersion k.payload % 2 ^ 32 ∧ m'.rim.queue = [])
  ∧ (∀ (s : State) (t : Nat) (k : KeyLoad), s.m.powered = true → s.m.rim.queue = [k] →
    Completes (.keyLoadFlashDone t false) s fun m' =>
      m'.fld KEY_LAST_code = 0x25 ∧ m'.evt 0x04 2 = true ∧ m'.rim.keys = s.m.rim.keys ∧ m'.rim.queue = [])
  ∧ (∀ (s : State) (t : Nat), s.m.powered = true → s.m.rim.erasing = true →
    Completes (.keyStoreEraseComplete t) s fun m' =>
      m'.rim.erasing = false ∧ m'.fld RIM_GEN_gen = min 1024 (s.m.fld RIM_GEN_gen + 1)
        ∧ m'.flag RIM_STS_gen_out = (m'.fld RIM_GEN_gen == 1024))

/-- R390, R405, R406. The sources that hold RIM_CLEAR off are those whose policy is not LOG; source 5 ends with the check of the command
itself. -/
def Obligations.RimClearsAndDebugPortUnlocks : Prop :=
  (∀ (s : State) (t : Nat) (tr : Transport) (pk : VPacket), s.m.powered = true →
    (s.m.advance t).passes tr { opcode := 0x02, pk := pk } → s.m.ringRoom tr → s.m.fld RIM_STS_state ≠ 0 →
    pk.page = 0x03 → pk.offset = 0x050 → pk.payload = bytesBE 4 0x5EA10003 → (s.m.keyFor (authSlot s.m tr) 1).isSome = true →
    (∀ src < 7, bit (s.m.fld RIM_ACTIVE_src) src = false ∨ policyOf s.m src = 0 ∨ (src = 5 ∧ hasAuth { opcode := 0x02, pk := pk } = true)) →
    Completes (.rimClear t tr pk) s fun m' =>
      m'.answers tr pk.tag 0x00 [] ∧ m'.fld RIM_STS_state = 0 ∧ m'.fld RIM_STS_cause = 15 ∧ m'.evt 0x03 3 = true)
  ∧ (∀ (s : State) (t : Nat) (src : Src), s.m.powered = true → s.m.mayWrite src →
    Completes (.svAdvance t src) s fun m' => m'.fld RIM_BOOT_sv_min = max (s.m.fld RIM_BOOT_sv_min) (s.m.fld RIM_BOOT_sv))
  ∧ (∀ (s : State) (t : Nat), s.m.powered = true →
    Completes (.debugChallengeRead t) s fun m' => ∃ a b c d : Word,
      m'.rim.challenge = some ([a, b, c, d].flatMap fun w => bytesBE 4 w.toNat)
        ∧ m'.outs = .read .debug (c ++ d) :: .read .debug (a ++ b) :: s.m.outs ∧ m'.free = s.m.free + 4)
  ∧ (∀ (s : State) (t : Nat) (level : Fin 4) (r : BitVec 128) (k : Key) (c : List Byte), s.m.powered = true →
    s.m.fld RIM_STS_state = 0 → level ≤ s.m.cfg RIM_DBG_allow → level < 3 → (level = 2 → anyActive s.m = false) →
    s.m.keyFor (s.m.cfg RIM_DBG_slot) 6 = some k → s.m.rim.challenge = some c → debugAnswer k c level = r →
    Completes (.debugUnlockResponse t level r) s fun m' =>
      m'.fld RIM_STS_dbg = level ∧ m'.evt 0x03 8 = true ∧ m'.rim.challenge = none)
  ∧ (∀ (s : State) (t : Nat) (level : Fin 4) (r : BitVec 128), s.m.powered = true → policyOf s.m 4 = 0 →
    (∀ k c, s.m.keyFor (s.m.cfg RIM_DBG_slot) 6 = some k → s.m.rim.challenge = some c → debugAnswer k c level ≠ r) →
    Completes (.debugUnlockResponse t level r) s fun m' =>
      m'.evt 0x03 9 = true ∧ bit (m'.fld RIM_LATCH_src) 4 = true ∧ m'.rim.challenge = none)

/-- R386–R388, R391, R392: a source that fires is latched; its policy alone says what follows. -/
def Obligations.TamperSourcesFire : Prop :=
  let fired (s : State) (src : Nat) (m' : Mach) : Prop :=
    bit (m'.fld RIM_LATCH_src) src = true
      ∧ (policyOf s.m src = 0 → m'.fld RIM_STS_state = s.m.fld RIM_STS_state ∧ m'.rim.keys = s.m.rim.keys)
      ∧ (policyOf s.m src = 1 → s.m.fld RIM_STS_state = 0 → m'.fld RIM_STS_state = 1 ∧ m'.fld RIM_STS_cause = src ∧ m'.rim.keys = s.m.rim.keys)
      ∧ (policyOf s.m src = 2 → m'.fld RIM_STS_state = 2 ∧ m'.fld RIM_STS_cause = src ∧ m'.rim.keys = [] ∧ m'.rim.erasing = true)
  (∀ (s : State) (t : Nat), s.m.powered = true → s.m.rim.lidOpen = false →
    Completes (.lidSwitchChange t true) s fun m' => m'.rim.lidOpen = true ∧ fired s 0 m')
  ∧ (∀ (s : State) (t : Nat), s.m.powered = true →
    Completes (.lidSwitchChange t false) s fun m' =>
      m'.rim = { s.m.rim with lidOpen := false } ∧ bit (m'.fld RIM_ACTIVE_src) 0 = false ∧ m'.fld RIM_LATCH_src = s.m.fld RIM_LATCH_src)
  ∧ (∀ (s : State) (t : Nat), s.m.powered = true → s.m.rim.meshCut = false → s.m.rim.openReads = 2 →
    Completes (.meshTest t true) s fun m' => m'.rim.meshCut = true ∧ fired s 1 m')
  ∧ (∀ (s : State) (t : Nat), s.m.powered = true → s.m.rim.meshCut = false → s.m.rim.openReads < 2 →
    Completes (.meshTest t true) s fun m' =>
      m' = { s.m.advance t with rim := { s.m.rim with openReads := s.m.rim.openReads + 1 } })
  ∧ (∀ (s : State) (t : Nat), s.m.powered = true → s.m.rim.meshCut = false →
    Completes (.meshTest t false) s fun m' => m' = { s.m.advance t with rim := { s.m.rim with openReads := 0 } })
  ∧ (∀ (s : State) (t : Nat), s.m.powered = true → bit (s.m.fld RIM_ACTIVE_src) 2 = false →
    Completes (.voltageGlitch t true) s fun m' => fired s 2 m')
  ∧ (∀ (s : State) (t : Nat), s.m.powered = true →
    Completes (.voltageGlitch t false) s fun m' =>
      bit (m'.fld RIM_ACTIVE_src) 2 = false ∧ m'.fld RIM_LATCH_src = s.m.fld RIM_LATCH_src ∧ m'.rim = s.m.rim)

/-- R42, R179, R187, R245: an admission run from its start to its completion, and the copy that an interruption of its class fails. A run is
for the pages whose staged set does not wait for its boundary already, and it is judged with those that do (log 81). -/
def Obligations.AdmissionRunsStartAndComplete : Prop :=
  (∀ (s : State) (t : Nat) (src : Src), s.m.powered = true → s.m.mayWrite src → s.m.adm.run = none →
    Completes (.admCtrlAdmit t src) s fun m' =>
      m'.adm.run = some { check := false, by_ := .register src, since := (s.m.advance t).now, pages := runPages s.m } ∧ m'.fld ADM_STS_state = 1)
  ∧ (∀ (s : State) (t : Nat) (src : Src), s.m.powered = true → s.m.mayWrite src → s.m.adm.run = none →
    Completes (.admCtrlCheck t src) s fun m' =>
      m'.adm.run = some { check := true, by_ := .register src, since := (s.m.advance t).now, pages := runPages s.m } ∧ m'.fld ADM_STS_state = 2)
  ∧ (∀ (s : State) (t : Nat) (src : Src) (r : AdmRun), s.m.adm.run = some r →
    Completes (.admCtrlAdmit t src) s (fun m' => m'.adm = s.m.adm) ∧ Completes (.admCtrlCheck t src) s (fun m' => m'.adm = s.m.adm))
  ∧ (∀ (s : State) (t : Nat) (src : Src) (r : AdmRun) (whole : List Nat), s.m.powered = true → s.m.adm.run = some r → r.by_ = .register src →
    r.check = false → whole = s.m.adm.due.getD [] ++ r.pages →
    Completes (.admissionComplete t) s fun m' =>
      m'.adm.run = none ∧ m'.adm.report = reportOf (s.m.advance t) whole
        ∧ (verdict (s.m.advance t) whole = none →
            m'.adm.due = some whole ∧ m'.evt 0x08 0 = true ∧ m'.fld ADM_STS_state = 0 ∧ m'.fld ADM_STS_code = 0)
        ∧ (verdict (s.m.advance t) whole ≠ none → m'.adm.due = s.m.adm.due ∧ m'.evt 0x08 1 = true))
  ∧ (∀ (s : State) (t : Nat) (src : Src) (r : AdmRun) (whole : List Nat), s.m.powered = true → s.m.adm.run = some r → r.by_ = .register src →
    r.check = true → whole = s.m.adm.due.getD [] ++ r.pages →
    Completes (.admissionComplete t) s fun m' =>
      m'.adm.run = none ∧ m'.adm.report = reportOf (s.m.advance t) whole ∧ m'.adm.due = s.m.adm.due ∧ m'.evt 0x08 2 = true
        ∧ m'.fld ADM_STS_state = 0 ∧ m'.fld ADM_STS_code = (((verdict (s.m.advance t) whole).map (·.code)).getD 0) % 256)
  ∧ (∀ (s : State) (t : Nat), s.m.powered = true → plaitUp s.m = true → s.m.twn.copy.isSome = true →
    Completes (.copyClassInterruption t) s fun m' =>
      (s.m.fld TWN_STS_state ≠ 3 → m'.twn.copy = none ∧ m'.deadline .copyRetry = some ((s.m.advance t).now + 100000000))
        ∧ (s.m.fld TWN_STS_state = 3 → m'.twn.copy = some {} ∧ m'.evt 0x31 6 = true
            ∧ m'.fld (TWN_CNT_n.nth 6) = (s.m.fld (TWN_CNT_n.nth 6) + 1) % 2 ^ 32))

/-- R42, R69, R71–R76, R79, R176: share frames, pace windows and hang watchdogs. A watchdog acts on a handshake that is still in flight and
has lasted its limit. -/
def Obligations.SharesPaceAndHangs : Prop :=
  (∀ (s : State) (t : Nat), s.m.powered = true → (s.m.advance t).now % 1000000 = 0 → s.m.adm.due = none →
    Completes (.shareFrameBoundary t) s fun m' => m' = ((s.m.advance t).runJobs).onDsp fun d => { d with mgrOpen := true })
  ∧ (∀ (s : State) (t : Nat) (pages : List Nat), s.m.powered = true → (s.m.advance t).now % 1000000 = 0 → s.m.adm.due = some pages →
    Completes (.shareFrameBoundary t) s fun m' =>
      m'.adm = { s.m.adm with due := none, used := pages ++ s.m.adm.used.filter fun p => !pages.contains p } ∧ m'.fld RST_STS_phase = 4)
  ∧ (∀ (s : State) (t : Nat), s.m.powered = true → (s.m.advance t).now % 1000000 ≠ 0 →
    Completes (.shareFrameBoundary t) s fun m' => m' = s.m.advance t)
  ∧ (∀ (s : State) (t : Nat), s.m.powered = true → s.m.cfg DSP_CFG_mgr_win * 1000 ≤ (s.m.advance t).now % 1000000 →
    Completes (.managerWindowEnd t) s fun m' => m' = ((s.m.advance t).runJobs).onDsp fun d => { d with mgrOpen := false })
  ∧ (∀ (s : State) (t : Nat) (counts : List (Option (BitVec 16))) (v : Nat → BitVec 16), s.m.powered = true →
    s.m.pace.windowAt + paceLength s.m ≤ (s.m.advance t).now → s.m.rst.boot = none → (∀ i < 16, nthD counts i none = some (v i)) →
    Completes (.paceWindowEnd t counts) s fun m' => ∃ i < 16,
      (∀ j < 16, m'.fld (PACE_SENSOR_value.nth j) = (v j).toNat ∧ m'.flag (PACE_SENSOR_stale.nth j) = false)
        ∧ (∀ j < 16, (v i).toNat ≤ (v j).toNat ∧ (v j = v i → i ≤ j))
        ∧ m'.fld PACE_NOW_pace = (v i).toNat ∧ m'.fld PACE_NOW_sensor = i
        ∧ ((v i).toNat < 1024 → m'.fld PACE_STATE_state = 3)
        ∧ (s.m.fld PACE_STATE_state = 0 → 1024 ≤ (v i).toNat →
            m'.fld PACE_STATE_state = if (v i).toNat < s.m.cfg PACE_SHED_level then 2 else if (v i).toNat < s.m.cfg PACE_WARN_level then 1 else 0))
  ∧ (∀ (s : State) (t : Nat) (counts : List (Option (BitVec 16))), s.m.powered = true → (s.m.advance t).now < s.m.pace.windowAt + paceLength s.m →
    s.m.rst.boot = none →
    Completes (.paceWindowEnd t counts) s fun m' => m' = s.m.advance t)
  ∧ (∀ (s : State) (t : Nat) (counts : List (Option (BitVec 16))) (b : BootInput) (k : Mach), s.m.powered = true →
    k = (s.m.advance t).paceWindow counts → k.rst.boot = some b →
    Completes (.paceWindowEnd t counts) s fun m' =>
      (k.fld PACE_STATE_state ≤ 1 → k.coil.intake = true → m' = (k.onRst fun r => { r with boot := none }).startUp b)
        ∧ (1 < k.fld PACE_STATE_state → m' = k))
  ∧ (∀ (s : State) (t : Nat) (src : Src), s.m.powered = true → s.m.mayWrite src →
    Completes (.paceClrMinmax t src) s fun m' => m'.fld PACE_MINMAX_min = 0xFFFF ∧ m'.fld PACE_MINMAX_max = 0)
  ∧ (∀ (s : State) (t : Nat) (h : WarpHdr) (r : Nat), s.m.powered = true → partTag h = none → stalled (s.m.advance t) false h r = true →
    Completes (.hangWatchdogExpiry t (.request h r)) s fun m' =>
      m'.fld PACE_WDOG_CNT_n = (s.m.fld PACE_WDOG_CNT_n + 1) % 2 ^ 32 ∧ m'.evt 0x02 5 = true
        ∧ m'.reg 0x02 0x0CC 0 = word (h.part.toNat * 2 ^ 24 + h.origin.toNat * 2 ^ 16 + h.tag.toNat)
        ∧ m'.outs.head? = some (.warp (answerTo (s.m.advance t) h r 1)))
  ∧ (∀ (s : State) (t : Nat) (h : WarpHdr) (r p tag : Nat), s.m.powered = true → partTag h = some (p, tag) →
    stalled (s.m.advance t) false h r = true →
    Completes (.hangWatchdogExpiry t (.request h r)) s fun m' => ∃ y : Mach, m' = y.pieceDone p tag .watchdog ∧ y.parts = s.m.parts
      ∧ y.fld PACE_WDOG_CNT_n = (s.m.fld PACE_WDOG_CNT_n + 1) % 2 ^ 32 ∧ y.evt 0x02 5 = true
      ∧ y.outs.head? = some (.warp (answerTo (s.m.advance t) h r 1)))
  ∧ (∀ (s : State) (t : Nat) (h : WarpHdr) (r : Nat), s.m.powered = true → stalled (s.m.advance t) false h r = false →
    Completes (.hangWatchdogExpiry t (.request h r)) s fun m' => m' = s.m.advance t)
  ∧ (∀ (s : State) (t : Nat) (x : Fin 36) (k : XKind) (h : WarpHdr) (since : Nat), s.m.powered = true →
    handshake (crossing s.m x) k = some since → since + s.m.cfg PACE_WDOG_limit * 1000 ≤ (s.m.advance t).now →
    Completes (.hangWatchdogExpiry t (.crossing x k h)) s fun m' =>
      m'.fld PACE_WDOG_CNT_n = (s.m.fld PACE_WDOG_CNT_n + 1) % 2 ^ 32 ∧ m'.evt 0x02 5 = true ∧ m'.evt 0x37 1 = true
        ∧ crossing m' x = (crossing s.m x).resend k (s.m.advance t).now)
  ∧ (∀ (s : State) (t : Nat) (x : Fin 36) (k : XKind) (h : WarpHdr), s.m.powered = true → handshake (crossing s.m x) k = none →
    Completes (.hangWatchdogExpiry t (.crossing x k h)) s fun m' => m' = s.m.advance t)

/-- R82–R86, R92, R102: what each kind of crossing holds after a transfer, an arrival and a wrap, and what the time state and the wrap count
leave at their destination. -/
def Obligations.CrossingsTransfer : Prop :=
  (∀ (s : State) (t : Nat) (x : Fin 36), s.m.powered = true → (crossing s.m x).stream.isSome = true →
    Completes (.crossingTransferDone t x .stream) s fun m' =>
      crossing m' x = { crossing s.m x with
          fifo := (crossing s.m x).fifo - 1, stream := if 1 < (crossing s.m x).fifo then some (s.m.advance t).now else none }
        ∧ m'.fld CDC_XFER_CNT_n x = (s.m.fld CDC_XFER_CNT_n x + 1) % 2 ^ 32)
  ∧ (∀ (s : State) (t : Nat) (x : Fin 36) (a : Nat) (v : List Nat), s.m.powered = true → (crossing s.m x).value = some (a, v) →
    Completes (.crossingTransferDone t x .value) s fun m' =>
      crossing m' x = { crossing s.m x with value := (crossing s.m x).valPend.map fun w => ((s.m.advance t).now, w), valPend := none }
        ∧ m'.fld CDC_XFER_CNT_n x = (s.m.fld CDC_XFER_CNT_n x + 1) % 2 ^ 32
        ∧ (x.val = 32 → m'.time.seen = v.headD 0))
  ∧ (∀ (s : State) (t : Nat) (x : Fin 36) (a : Nat) (v : List Nat), s.m.powered = true → (crossing s.m x).count = some (a, v) →
    Completes (.crossingTransferDone t x .count) s fun m' =>
      crossing m' x = { crossing s.m x with count := (crossing s.m x).cntPend.map fun w => ((s.m.advance t).now, w), cntPend := none }
        ∧ m'.fld CDC_XFER_CNT_n x = (s.m.fld CDC_XFER_CNT_n x + 1) % 2 ^ 32
        ∧ (x.val = 32 → m'.time.wraps = v.headD 0)
        ∧ (x.val = 33 → ∀ i < 32, m'.fld PLS_CNT_n i = nthD v i 0 % 2 ^ 32))
  ∧ (∀ (s : State) (t : Nat) (x : Fin 36), s.m.powered = true → (crossing s.m x).event.isSome = true →
    Completes (.crossingTransferDone t x .event) s fun m' =>
      crossing m' x = { crossing s.m x with event := (crossing s.m x).evPend.map fun w => ((s.m.advance t).now, w.1, w.2), evPend := none }
        ∧ m'.fld CDC_XFER_CNT_n x = (s.m.fld CDC_XFER_CNT_n x + 1) % 2 ^ 32)
  ∧ (∀ (s : State) (t : Nat) (x : Fin 36) (code tag : Word), s.m.powered = true → hasKind x .event = true →
    Completes (.crossingEventArrival t x code tag) s fun m' =>
      if (crossing s.m x).event.isNone then crossing m' x = { crossing s.m x with event := some ((s.m.advance t).now, code, tag) }
      else if (crossing s.m x).evPend.isNone then crossing m' x = { crossing s.m x with evPend := some (code, tag) }
      else crossing m' x = crossing s.m x ∧ m'.fld CDC_OVR_CNT_n = (s.m.fld CDC_OVR_CNT_n + 1) % 2 ^ 32 ∧ m'.evt 0x37 0 = true)
  ∧ (∀ (s : State) (t : Nat) (x : Fin 36) (code tag : Word), s.m.powered = true → hasKind x .event = false →
    Completes (.crossingEventArrival t x code tag) s fun m' => m' = s.m.advance t)
  ∧ (∀ (s : State) (t : Nat), s.m.powered = true →
    Completes (.timeTagWrap t) s fun m' =>
      crossing m' 32 = (if (crossing s.m 32).count.isSome then { crossing s.m 32 with cntPend := some [(s.m.advance t).now / 2 ^ 32 % 2 ^ 16] }
            else { crossing s.m 32 with count := some ((s.m.advance t).now, [(s.m.advance t).now / 2 ^ 32 % 2 ^ 16]) }))

/-- R96–R101, R113: the timers and the measurements of the time block, from the state `k` in which the instant of the command finds it
(`timeReached`: what fell due before has happened). -/
def Obligations.TimeSourcesSteer : Prop :=
  (∀ (s : State) (t : Nat) (k : Mach) (c : Fin 3) (off d : Int), s.m.powered = true → k = s.m.timeReached t → k.fld TIME_QUAL_source = c + 1 →
    srcQualified k (c + 1) = true → k.time.discard = false → d = measuredOffset k (c + 1) off → d ≠ 0 →
    ¬ (k.cfg TIME_STEP_thr * 1000 < d.natAbs ∧ k.on TIME_CTRL_step_en = true) →
    Completes (.sourceMeasurement t c off) s fun m' =>
      m'.fld TIME_OFFSET_ns = toWidth 32 (sat31 d) ∧ m'.time.applied = some k.now ∧ m'.time.slewLeft = d ∧ m'.time.epoch = k.time.epoch
        ∧ m'.deadline .slewDone = some (k.now + d.natAbs * 1000000 / k.cfg TIME_LOCK_slew))
  ∧ (∀ (s : State) (t : Nat) (k : Mach) (c : Fin 3) (off d : Int), s.m.powered = true → k = s.m.timeReached t → k.fld TIME_QUAL_source = c + 1 →
    srcQualified k (c + 1) = true → k.time.discard = false → d = measuredOffset k (c + 1) off →
    k.cfg TIME_STEP_thr * 1000 < d.natAbs → k.on TIME_CTRL_step_en = true →
    Completes (.sourceMeasurement t c off) s fun m' =>
      m'.fld TIME_OFFSET_ns = toWidth 32 (sat31 d) ∧ m'.time.applied = some k.now ∧ m'.time.epoch = k.time.epoch - d
        ∧ m'.time.discard = true ∧ m'.evt 0x05 4 = true ∧ m'.fld TIME_STEP_CNT_n = (k.fld TIME_STEP_CNT_n + 1) % 2 ^ 32)
  ∧ (∀ (s : State) (t : Nat) (k : Mach) (c : Fin 3) (off : Int), s.m.powered = true → k = s.m.timeReached t → k.fld TIME_QUAL_source = c + 1 →
    srcQualified k (c + 1) = true → k.time.discard = true →
    Completes (.sourceMeasurement t c off) s fun m' =>
      m'.fld TIME_OFFSET_ns = toWidth 32 (sat31 (measuredOffset k (c + 1) off)) ∧ m'.time = { k.time with discard := false })
  ∧ (∀ (s : State) (t : Nat) (k : Mach), s.m.powered = true → k = s.m.timeReached t → k.due .slewDone = true →
    Completes (.slewComplete t) s fun m' =>
      m'.time = { k.time with slewLeft := 0 } ∧ m'.fld TIME_RATE_rate = toWidth 32 k.time.rate ∧ m'.deadline .slewDone = none)
  ∧ (∀ (s : State) (t : Nat) (k : Mach), s.m.powered = true → k = s.m.timeReached t → k.due .primaryReturn = true →
    Completes (.primaryReturnHoldExpiry t) s fun m' =>
      m'.fld TIME_QUAL_source = k.cfg TIME_CTRL_src_pri ∧ m'.deadline .primaryReturn = none
        ∧ (k.fld TIME_QUAL_source ≠ k.cfg TIME_CTRL_src_pri →
            m'.evt 0x05 5 = true ∧ m'.fld TIME_SRC_CHG_n = (k.fld TIME_SRC_CHG_n + 1) % 2 ^ 32))
  ∧ (∀ (s : State) (t : Nat) (k : Mach), s.m.powered = true → k = s.m.timeReached t → k.due .bridging = true →
    Completes (.bridgingEntryExpiry t) s fun m' =>
      m'.fld TIME_QUAL_state = 4 ∧ m'.evt 0x05 2 = true
        ∧ ∀ a, k.time.applied = some a → m'.deadline .holdLimit = some (a + k.cfg TIME_HOLD_limit * 1000000000))
  ∧ (∀ (s : State) (t : Nat) (k : Mach), s.m.powered = true → k = s.m.timeReached t → k.due .holdLimit = true →
    Completes (.holdoverLimitExpiry t) s fun m' =>
      m'.fld TIME_QUAL_state = 5 ∧ m'.evt 0x05 3 = true ∧ m'.deadline .holdLimit = none)

/-- R97, R112–R115: the time block's inputs and its output, from the state `k` in which the instant of the command finds the time block. -/
def Obligations.TimePinsQualifyAndPulse : Prop :=
  (∀ (s : State) (t highNs : Nat) (k : Mach), s.m.powered = true → k = s.m.timeReached t → ppsPlausible k highNs = true →
    Completes (.ppsInEdge t highNs) s fun m' =>
      m'.time.ppsLast = some k.now ∧ m'.time.ppsRun = (if k.time.ppsLast.isSome then k.time.ppsRun + 1 else 0)
        ∧ m'.deadline .ppsIn = some (k.now + 1500000000)
        ∧ m'.flag TIME_QUAL_pps_qual = (decide (3 ≤ m'.time.ppsRun) || k.flag TIME_QUAL_pps_qual))
  ∧ (∀ (s : State) (t highNs : Nat) (k : Mach), s.m.powered = true → k = s.m.timeReached t → 100 ≤ highNs → ppsPlausible k highNs = false →
    Completes (.ppsInEdge t highNs) s fun m' =>
      m'.time = { k.time with ppsRun := 0 } ∧ m'.fld TIME_PPS_REJ_n = (k.fld TIME_PPS_REJ_n + 1) % 2 ^ 32 ∧ m'.evt 0x05 6 = true)
  ∧ (∀ (s : State) (t highNs : Nat), s.m.powered = true → highNs < 100 →
    Completes (.ppsInEdge t highNs) s fun m' => m' = s.m.timeReached t)
  ∧ (∀ (s : State) (t : Nat) (k : Mach), s.m.powered = true → k = s.m.timeReached t → k.due .ppsIn = true →
    Completes (.ppsInTimeout t) s fun m' =>
      m'.flag TIME_QUAL_pps_qual = false ∧ m'.flag TIME_QUAL_irig_qual = false ∧ m'.time.ppsLast = none ∧ m'.deadline .ppsIn = none)
  ∧ (∀ (s : State) (t : Nat) (k : Mach) (fr : IrigFrame) (u : Int), s.m.powered = true → k = s.m.timeReached t → k.on TIME_IRIG_en = true →
    irigAccepted k fr = some u →
    Completes (.irigbFrame t fr) s fun m' =>
      m'.time.irigLast = some u ∧ m'.time.irigRun = k.time.irigRun + 1 ∧ m'.time.irigRej = 0 ∧ m'.time.irigAt = k.now
        ∧ m'.time.irigTime = k.time.ppsLast.map (fun e => (e, (u + k.cfg TIME_IRIG_tai_utc) * 1000000000))
        ∧ m'.flag TIME_QUAL_irig_qual = (decide (1 ≤ k.time.irigRun) || k.flag TIME_QUAL_irig_qual))
  ∧ (∀ (s : State) (t : Nat) (k : Mach) (fr : IrigFrame), s.m.powered = true → k = s.m.timeReached t → k.on TIME_IRIG_en = true →
    irigAccepted k fr = none →
    Completes (.irigbFrame t fr) s fun m' =>
      m'.time.irigRun = 0 ∧ m'.time.irigRej = k.time.irigRej + 1 ∧ m'.evt 0x05 7 = true
        ∧ m'.fld TIME_IRIG_REJ_n = (k.fld TIME_IRIG_REJ_n + 1) % 2 ^ 32
        ∧ m'.flag TIME_QUAL_irig_qual = (decide (k.time.irigRej < 2) && k.flag TIME_QUAL_irig_qual))
  ∧ (∀ (s : State) (t : Nat) (fr : IrigFrame), s.m.powered = true → (s.m.timeReached t).on TIME_IRIG_en = false →
    Completes (.irigbFrame t fr) s fun m' => m' = s.m.timeReached t)
  ∧ (∀ (s : State) (t : Nat) (k : Mach) (off : Int), s.m.powered = true → k = s.m.timeReached t → off.natAbs ≤ 10000000 →
    Completes (.ref10mGateEnd t off) s fun m' =>
      m'.time.gates = k.time.gates + 1 ∧ m'.time.gateRate = off
        ∧ m'.flag TIME_QUAL_in10m_qual = (decide (9 ≤ k.time.gates) || k.flag TIME_QUAL_in10m_qual))
  ∧ (∀ (s : State) (t : Nat) (k : Mach) (c : Instr), s.m.powered = true → k = s.m.timeReached t → k.flag TIME_QUAL_in10m_qual = true →
    (c = .ref10mEdgeLoss t ∨ ∃ off : Int, 10000000 < off.natAbs ∧ c = .ref10mGateEnd t off) →
    Completes c s fun m' =>
      m'.flag TIME_QUAL_in10m_qual = false ∧ m'.time.gates = 0 ∧ m'.evt 0x05 8 = true
        ∧ m'.fld TIME_10M_LOSS_n = (k.fld TIME_10M_LOSS_n + 1) % 2 ^ 32)
  ∧ (∀ (s : State) (t : Nat) (k : Mach) (a : Int), s.m.powered = true → k = s.m.timeReached t → ppsAllowed k = true →
    a = k.station + asSigned 16 (k.cfg TIME_PPS_OUT_DLY_dly) → a % 1000000000 < 4 → wasPulsed k.time.pulsed (a / 1000000000) = false →
    (∀ b, k.time.ppsAt = some b → b + 500000000 ≤ k.now) →
    Completes (.stationSecondBoundary t) s fun m' => ∃ y : Mach,
      m' = y.each (nrgPoints y) (fun p z => z.secondEnd p (z.station / 1000000000)) ∧ y.outs = .pps true :: k.outs
        ∧ y.time = { k.time with ppsOut := true, pulsed := addPulse k.time.pulsed (a / 1000000000), ppsAt := some k.now }
        ∧ y.deadline .ppsWidth = some (k.now + k.cfg TIME_PPS_out_width * 1000000))
  ∧ (∀ (s : State) (t : Nat), s.m.fires .ppsWidth t → s.m.time.ppsOut = true →
    Completes (.ppsOutWidthEnd t) s fun m' =>
      m'.time = { s.m.time with ppsOut := false } ∧ m'.outs = .pps false :: s.m.outs ∧ m'.deadline .ppsWidth = none)

/-- R97, R105, R108: the boundary clock's frames and timers, from the state `k` in which the instant of the command finds the time block. What
the clock sends goes to the egress queues of its ports (`sendPtp`). -/
def Obligations.PtpClockRuns : Prop :=
  (∀ (s : State) (t : Nat) (k : Mach) (port : Fin 16) (fr : Frame) (n : Nat), s.m.powered = true → k = s.m.timeReached t →
    checkPtp k port fr = .error n →
    Completes (.ptpFrameRx t port fr) s fun m' =>
      m'.fld PTP_RX_BAD_n = (k.fld PTP_RX_BAD_n + 1) % 2 ^ 32 ∧ m'.evt 0x06 7 = true ∧ (n = 5 → m'.evt 0x06 5 = true) ∧ m'.ptp = k.ptp)
  ∧ (∀ (s : State) (t : Nat) (k : Mach) (port : Fin 16) (fr : Frame) (p : PtpMsg) (d : Nat), s.m.powered = true → k = s.m.timeReached t → d < 2 →
    checkPtp k port fr = .ok (p, d) → p.kind = .sync → p.twoStep = true →
    Completes (.ptpFrameRx t port fr) s fun m' => ∃ w, w ∈ (ptpDom m' d).waits
      ∧ w.port = port ∧ w.kind = .sync ∧ w.seq = p.seqId.toNat ∧ w.at_ = k.now ∧ w.stamp = ingressStamp k port p
      ∧ ∀ x ∈ (ptpDom k d).waits, ¬ (x.port = port ∧ x.kind = .sync ∧ x.seq = p.seqId.toNat) → x ∈ (ptpDom m' d).waits)
  ∧ (∀ (s : State) (t : Nat) (k : Mach) (port : Fin 16) (fr : Frame) (p : PtpMsg) (d : Nat), s.m.powered = true → k = s.m.timeReached t → d < 2 →
    checkPtp k port fr = .ok (p, d) → p.kind = .announce →
    Completes (.ptpFrameRx t port fr) s fun m' => ∃ f ∈ (ptpDom m' d).foreign,
      f.port = port ∧ f.clock = p.clockId ∧ f.portNum = p.portNum ∧ f.ann = p.ann ∧ f.heard.head? = some k.now)
  ∧ (∀ (s : State) (t : Nat) (k : Mach) (port : Fin 16) (fr : Frame) (p : PtpMsg) (d : Nat), s.m.powered = true → k = s.m.timeReached t → d < 2 →
    checkPtp k port fr = .ok (p, d) → p.kind = .pdelayReq →
    Completes (.ptpFrameRx t port fr) s fun m' => ∃ x, x.kind = .pdelayResp ∧ x.seqId = p.seqId
      ∧ x.twoStep = k.on (PTP_DOM_two_step.nth d) ∧ x.stamp = ingressStamp k port p ∧ m' = k.sendPtp port x (some (65 + d)))
  ∧ (∀ (s : State) (t : Nat) (k : Mach) (d : Fin 2), s.m.powered = true → k = s.m.timeReached t → k.due (.announce d) = true →
    (ptpDom k d).master.isSome = true →
    Completes (.announceReceiptTimeout t d) s fun m' =>
      (ptpDom m' d).foreign = (ptpDom k d).foreign.filter (fun f => !isMaster (ptpDom k d) f) ∧ m'.evt 0x06 (2 + d) = true
        ∧ m'.fld (PTP_ANN_TMO_n.nth d) = (k.fld (PTP_ANN_TMO_n.nth d) + 1) % 2 ^ 32)
  ∧ (∀ (s : State) (t : Nat) (k : Mach) (d : Fin 2), s.m.powered = true → k = s.m.timeReached t → k.due (.announce d) = true →
    (ptpDom k d).master = none → k.on (PTP_DOM_slave_only.nth d) = false →
    Completes (.announceReceiptTimeout t d) s fun m' =>
      (∀ e ∈ (ptpDom k d).toMaster, e.2 ≤ k.now → m'.fld (portStateFd d) e.1 = 6)
        ∧ ∀ p, (∀ e ∈ (ptpDom k d).toMaster, e.1 = p → k.now < e.2) → m'.fld (portStateFd d) p = k.fld (portStateFd d) p)
  ∧ (∀ (s : State) (t : Nat) (k : Mach) (d : Fin 2), s.m.powered = true → k = s.m.timeReached t → k.due (.syncLoss d) = true →
    Completes (.syncLossBudgetExpiry t d) s fun m' =>
      m'.flag (if d = 0 then PTP_DOM_STS_qualified else PTP_DOM_STS_qualified.nth 1) = false ∧ m'.deadline (.syncLoss d) = none)
  ∧ (∀ (s : State) (t : Nat) (d : Fin 2) (k : PtpTx), s.m.fires (.ptpTx d k) t →
    Completes (.ptpTxIntervalExpiry t d k) s fun m' => ∃ y : Mach, y.deadline (.ptpTx d k) = some ((s.m.advance t).now + 1000000000)
        ∧ match k with
          | .announce => (ptpDom y d).annSeq = ((ptpDom s.m d).annSeq + 1) % 2 ^ 16
              ∧ m' = y.each (sendingPorts y d (some 6)) fun p z => z.sendPtp p
                  (ptpOut z d p .announce (ptpDom s.m d).annSeq false 0 (z.station + domainOffset z d) (announceData z d)) none
          | .sync => (ptpDom y d).syncSeq = ((ptpDom s.m d).syncSeq + 1) % 2 ^ 16
              ∧ m' = y.each (sendingPorts y d (some 6)) fun p z => z.sendPtp p
                  (ptpOut z d p .sync (ptpDom s.m d).syncSeq (z.on (PTP_DOM_two_step.nth d)) 0 0 (announceData z d)) (some (65 + d))
          | .pdelayReq => (ptpDom y d).pdSeq = ((ptpDom s.m d).pdSeq + 1) % 2 ^ 16 ∧ (ptpDom y d).reqAt = []
              ∧ m' = y.each (sendingPorts y d none) fun p z => z.sendPtp p
                  (ptpOut z d p .pdelayReq (ptpDom s.m d).pdSeq false 0 0 (announceData z d)) (some (65 + d)))

/-- R111, R123, R125, R126, R225, R227, R238, R244: the nominal time of a tick, from the state `k` in which it finds the module
(`tickReached`), and the end of a tick's window, before which the frames that wait are taken. -/
def Obligations.TicksComeAndClose : Prop :=
  (∀ (s : State) (t : Nat) (k : Mach), s.m.powered = true → k = s.m.tickReached t → s.m.twn.committed = true → twnState s.m = 3 →
    s.m.flag TWN_STS_unit_clash = false →
    Completes (.tickNominalTime t) s fun m' => ∃ y : Mach, m' = (y.twinEval).swapNow ∧ y.now = (s.m.advance t).now ∧ twnState y = 4
      ∧ y.fld (TWN_CNT_n.nth 5) = (s.m.fld (TWN_CNT_n.nth 5) + 1) % 2 ^ 32 ∧ y.evt 0x31 5 = true ∧ y.evt 0x31 0 = true)
  ∧ (∀ (s : State) (t : Nat), s.m.powered = true → s.m.twn.committed = false → twnState s.m ≠ 4 →
    (s.m.twn.wantLead = true → s.m.flag TWN_STS_unit_clash = true) → s.m.twn.swapAt = none →
    Completes (.tickNominalTime t) s fun m' => m' = s.m.tickReached t)
  ∧ (∀ (s : State) (t : Nat), s.m.powered = true → s.m.twn.committed = false → s.m.twn.wantLead = true → s.m.flag TWN_STS_unit_clash = false →
    Completes (.tickNominalTime t) s fun m' => ∃ y : Mach, y = (s.m.tickReached t).toLead
      ∧ (twnState y ≠ 4 → m' = y.swapNow))
  ∧ (∀ (s : State) (t : Nat) (k : Mach) (recent : List Nat), s.m.powered = true → k = s.m.tickReached t → twnState s.m = 4 →
    (s.m.twn.wantLead = true → s.m.flag TWN_STS_unit_clash = true) → s.m.twn.swapAt = none →
    recent = s.m.twn.diffs.filter (fun d => decide ((s.m.advance t).now ≤ d + s.m.cfg TWN_CFG_div_span * 1000000)) →
    Completes (.tickNominalTime t) s fun m' =>
      (recent.length < s.m.cfg TWN_CFG_div_lim → twnState m' = 4 ∧ m'.regs = k.regs ∧ m'.twn.diffs = recent)
        ∧ (s.m.cfg TWN_CFG_div_lim ≤ recent.length → ∃ y : Mach, m' = (y.tryJoin true).swapNow ∧ y.twn.diffs = []
            ∧ y.fld (TWN_CNT_n.nth 4) = (s.m.fld (TWN_CNT_n.nth 4) + 1) % 2 ^ 32 ∧ y.evt 0x31 4 = true))
  ∧ (∀ (s : State) (t : Nat) (g : Fin 64) (k : Mach) (n : Nat), s.m.powered = true → k = (s.m.advance t).sviTake → nextOpen k g = some n →
    expiredAt k n k.now = true →
    Completes (.tickWindowExpiry t g) s fun m' => ∃ (y : Mach) (tk : Tick) (rest : List Tick), m' = y.handTicks g (tk :: rest)
      ∧ tk.group = g ∧ tk.tick = n ∧ tk.cause = .expiry ∧ tk.closedAt = k.now)
  ∧ (∀ (s : State) (t : Nat) (g : Fin 64) (k : Mach), s.m.powered = true → k = (s.m.advance t).sviTake →
    (∀ n, nextOpen k g = some n → expiredAt k n k.now = false) →
    Completes (.tickWindowExpiry t g) s fun m' => m' = k)

/-- R120, R122, R123, R130, R131, R132, R146–R148, R170: sampled-value frames, and stream timeouts, before which the frames that wait are taken. -/
def Obligations.SvFramesAreTaken : Prop :=
  (∀ (s : State) (t : Nat) (fr : Frame) (port : Fin 16) (arrival : Nat), s.m.powered = true → backlog s.m < 256 → fr.fcs ≠ .good →
    Completes (.svFrame t fr port arrival) s fun m' => m'.fld (sviCnt 0) = (s.m.fld (sviCnt 0) + 1) % 2 ^ 32 ∧ m'.svi = s.m.svi)
  ∧ (∀ (s : State) (t : Nat) (fr : Frame) (port : Fin 16) (arrival : Nat), s.m.powered = true → backlog s.m < 256 → fr.fcs = .good → (∀ a, fr.body ≠ .sv a) →
    Completes (.svFrame t fr port arrival) s fun m' => m'.fld (sviCnt 1) = (s.m.fld (sviCnt 1) + 1) % 2 ^ 32 ∧ m'.evt 0x0A 12 = true ∧ m'.svi = s.m.svi)
  ∧ (∀ (s : State) (t : Nat) (fr : Frame) (port : Fin 16) (arrival : Nat) (a : SvApdu), s.m.powered = true → backlog s.m < 256 → fr.fcs = .good → fr.body = .sv a →
    fr.etype = 0x88BA → fr.tag = .untagged → 64 ≤ fr.len → fr.len ≤ 1518 → subFor s.m fr.dst a.appid.toNat = none →
    oldFor s.m fr.dst a (arrival + s.m.time.epoch) = none →
    Completes (.svFrame t fr port arrival) s fun m' => m'.fld (sviCnt 2) = (s.m.fld (sviCnt 2) + 1) % 2 ^ 32 ∧ m'.svi = s.m.svi)
  ∧ (∀ (s : State) (t : Nat) (fr : Frame) (port : Fin 16) (arrival : Nat), s.m.powered = true → 256 ≤ backlog s.m → heldOf s.m port < 64 →
    Completes (.svFrame t fr port arrival) s fun m' =>
      m' = (s.m.advance t).onSvi fun b => { b with held := b.held ++ [(fr, port.val, arrival)] })
  ∧ (∀ (s : State) (t : Nat) (fr : Frame) (port : Fin 16) (arrival : Nat), s.m.powered = true → 256 ≤ backlog s.m → 64 ≤ heldOf s.m port →
    Completes (.svFrame t fr port arrival) s fun m' => ∃ y : Mach, m' = y.waitForSvi fr port arrival ∧ y.svi = s.m.svi
      ∧ y.fld (sviCnt 19) = (s.m.fld (sviCnt 19) + 1) % 2 ^ 32 ∧ y.evt 0x0A 10 = true)
  ∧ (∀ (s : State) (t : Nat) (fr : Frame) (port : Fin 16) (arrival i n : Nat) (a : SvApdu) (x : Asdu), s.m.powered = true → backlog s.m < 256 → s.m.svPasses fr a i arrival →
    a.asdus = [x] → s.m.asduPasses i x → resampled (genNow s.m) i = false → groupClass (genNow s.m) (s.m.cfg SVI_SUB_CTRL_group i) = 0 →
    -(s.m.cfg SVI_TICK_early_tol * 1000 * rateHz (s.m.cfg SVI_SUB_CTRL_rate i) : Int) ≤ (nearest (rateHz (s.m.cfg SVI_SUB_CTRL_rate i)) (arrival + s.m.time.epoch) x.smpCnt).2 →
    tickOnGrid s.m.svi.grids (rateHz (s.m.cfg SVI_SUB_CTRL_rate i)) (nearest (rateHz (s.m.cfg SVI_SUB_CTRL_rate i)) (arrival + s.m.time.epoch) x.smpCnt).1 none = some n →
    openFor (s.m.advance t) (s.m.cfg SVI_SUB_CTRL_group i) n arrival = true → placedIn s.m n i = true →
    (s.m.svi.samples.any fun e => e.group == s.m.cfg SVI_SUB_CTRL_group i && e.tick == n && e.sub == i) = false →
    Completes (.svFrame t fr port arrival) s fun m' => ∃ y : Mach, m' = y.closeDue (s.m.cfg SVI_SUB_CTRL_group i)
      ∧ y.fld SVI_SUB_ASDU_n i = (s.m.fld SVI_SUB_ASDU_n i + 1) % 2 ^ 32 ∧ y.fld SVI_SUB_STS_smp_synch i = x.smpSynch.toNat
      ∧ ∃ e, y.svi.samples = s.m.svi.samples ++ [e] ∧ e.group = s.m.cfg SVI_SUB_CTRL_group i ∧ e.tick = n ∧ e.sub = i ∧ e.synch = x.smpSynch.toNat)
  ∧ (∀ (s : State) (t : Nat) (fr : Frame) (port : Fin 16) (arrival i n : Nat) (a : SvApdu) (x : Asdu), s.m.powered = true → backlog s.m < 256 → s.m.svPasses fr a i arrival →
    a.asdus = [x] → s.m.asduPasses i x → resampled (genNow s.m) i = false → groupClass (genNow s.m) (s.m.cfg SVI_SUB_CTRL_group i) = 0 →
    -(s.m.cfg SVI_TICK_early_tol * 1000 * rateHz (s.m.cfg SVI_SUB_CTRL_rate i) : Int) ≤ (nearest (rateHz (s.m.cfg SVI_SUB_CTRL_rate i)) (arrival + s.m.time.epoch) x.smpCnt).2 →
    tickOnGrid s.m.svi.grids (rateHz (s.m.cfg SVI_SUB_CTRL_rate i)) (nearest (rateHz (s.m.cfg SVI_SUB_CTRL_rate i)) (arrival + s.m.time.epoch) x.smpCnt).1 none = some n →
    openFor (s.m.advance t) (s.m.cfg SVI_SUB_CTRL_group i) n arrival = false →
    Completes (.svFrame t fr port arrival) s fun m' => ∃ y : Mach, m' = y.closeDue (s.m.cfg SVI_SUB_CTRL_group i)
      ∧ y.fld SVI_SUB_LATE_n i = (s.m.fld SVI_SUB_LATE_n i + 1) % 2 ^ 32 ∧ y.evt 0x0A 3 = true ∧ y.svi = s.m.svi)
  ∧ (∀ (s : State) (t : Nat) (i : Fin 2048) (k : Mach), s.m.powered = true → k = (s.m.advance t).sviTake → k.past (.stream i) = true →
    subState k i = 3 →
    Completes (.streamTimeout t i) s fun m' => ∃ y : Mach, m' = y.closeDue (k.cfg SVI_SUB_CTRL_group i) ∧ subState y i = 4
      ∧ y.fld SVI_SUB_LOST_n i = (k.fld SVI_SUB_LOST_n i + 1) % 2 ^ 32 ∧ y.evt 0x0A 0 = true)
  ∧ (∀ (s : State) (t : Nat) (i : Fin 2048) (k : Mach), s.m.powered = true → k = (s.m.advance t).sviTake → k.past (.stream i) = true →
    subState k i = 2 →
    Completes (.streamTimeout t i) s fun m' => subState m' i = 1 ∧ m'.svi = k.svi)
  ∧ (∀ (s : State) (t : Nat) (i : Fin 2048) (k : Mach), s.m.powered = true → k = (s.m.advance t).sviTake → k.past (.stream i) = false →
    Completes (.streamTimeout t i) s fun m' => m' = k)

/-- R141, R235: the two waits of equalisation. The lead waits 20 µs from its close for a descriptor; a follower without a COMB waits 40 µs
from its own close, and copies 40 µs from the later of the two closes. -/
def Obligations.EqualisationWaitsEnd : Prop :=
  (∀ (s : State) (t : Nat) (g : Fin 64), s.m.fires (.combWait g) t →
    Completes (.combWaitExpiry t g) s fun m' => ∃ y : Mach, m' = (y.eqAdvance g).eqTimers g ∧
      ∀ e ∈ s.m.svi.eq, e.led = true → e.tk.group = g → e.done = false → e.comb = none → e.tk.closedAt + 20000 ≤ (s.m.advance t).now →
        ∃ e' ∈ y.svi.eq, e'.tk = e.tk ∧ e'.comb = some (formComb e) ∧ e'.since = e.since)
  ∧ (∀ (s : State) (t : Nat) (g : Fin 64) (e : EqTick), s.m.fires (.eqComb g) t → s.m.svi.eq = [e] → e.tk.group = g → e.done = false →
      e.tk.closedAt + 40000 ≤ (s.m.advance t).now → e.led = false → e.comb = none →
    Completes (.eqCombTimeout t g) s fun m' => ∃ y : Mach, m' = y.eqLeave g ∧ y.svi.eq = [{ e with done := true }]
      ∧ y.fld (TWN_CNT_n.nth 1) = (s.m.fld (TWN_CNT_n.nth 1) + 1) % 2 ^ 32 ∧ y.evt 0x31 10 = true)
  ∧ (∀ (s : State) (t : Nat) (g : Fin 64) (e : EqTick) (c : CombMsg), s.m.fires (.eqComb g) t → s.m.svi.eq = [e] → e.tk.group = g → e.done = false →
      e.since + 40000 ≤ (s.m.advance t).now → e.comb = some c →
    Completes (.eqCombTimeout t g) s fun m' => ∃ (y : Mach) (e' : EqTick), m' = y.eqLeave g ∧ y.svi.eq = [e'] ∧ e'.done = true
      ∧ e'.tk.tick = e.tk.tick ∧ e'.comb = some c ∧ e'.tk.present = c.streams)

/-- R150, R151, R156, R160, R168, R170: tick sets in the measurand engine, and its two holds. A hold that has elapsed takes effect at the first
tick of its group at or after that time. -/
def Obligations.MeasurandEngineRuns : Prop :=
  (∀ (s : State) (t : Nat) (x : TickSet) (rest : List TickSet), s.m.powered = true → s.m.msr.busy = none → s.m.msr.queue = x :: rest →
    Completes (.msrTickSetTake t) s fun m' => ∃ (y : Mach) (out : SetOut), m' = y.sviTake ∧ y.msr.busy = some out ∧ out.ticks = x.ticks
      ∧ out.events = x.events ∧ y.msr.takenAt = (s.m.advance t).now)
  ∧ (∀ (s : State) (t : Nat), s.m.powered = true → s.m.msr.busy.isSome = true →
    Completes (.msrTickSetTake t) s fun m' => m' = (s.m.advance t).sviTake)
  ∧ (∀ (s : State) (t : Nat) (out : SetOut), s.m.powered = true → s.m.msr.busy = some out →
    Completes (.msrTickSetDone t) s fun m' => ∃ y : Mach, m' = y.handOut out ∧ y.msr.busy = none
      ∧ y.fld MSR_MAXTIME_t = max (s.m.fld MSR_MAXTIME_t) (min 65535 (ceilDiv ((s.m.advance t).now - s.m.msr.takenAt) 10)) % 2 ^ 16
      ∧ (55000 < (s.m.advance t).now - s.m.msr.takenAt → y.fld MSR_OVERRUN = (s.m.fld MSR_OVERRUN + 1) % 2 ^ 32 ∧ y.evt 0x0B 5 = true))
  ∧ (∀ (s : State) (t : Nat), s.m.powered = true → s.m.msr.busy = none → Completes (.msrTickSetDone t) s fun m' => m' = s.m.advance t)
  ∧ (∀ (s : State) (t : Nat) (k : Fin 16), s.m.fires (.tracker k) t → s.m.fld MSR_TRK_STS_state k = 3 →
    Completes (.trackerHoldExpiry t k) s fun m' => msrTrk m' k = { msrTrk s.m k with holdOver := true } ∧ m'.regs = s.m.regs
      ∧ m'.deadline (.tracker k) = none)
  ∧ (∀ (m : Mach) (g : Gen) (tk : Tick) (k : Fin 16), m.fld MSR_TRK_STS_state k = 3 → (msrTrk m k).holdOver = true →
    (msrTrk m k).holdEnd ≤ tk.nominal → usable m g tk k (g.cfg MSR_TRK_CFG_primary k) = false →
    (g.on MSR_TRK_CFG_backup_en k = true → usable m g tk k (g.cfg MSR_TRK_CFG_backup k) = false) →
    (m.trackerTick g tk k).fld MSR_TRK_STS_state k = 4 ∧ (m.trackerTick g tk k).fld MSR_TRK_FREQ_uhz k = g.fNom * 1000000
      ∧ (m.trackerTick g tk k).evt 0x0B 0 = true)
  ∧ (∀ (s : State) (t : Nat) (k : Fin 64) (a : Int) (b : Bool), s.m.fires (.tempSource k) t → s.m.fld MSR_TS_STS_state k = 1 →
    kget k.val s.m.msr.tsHold = some (a, b) →
    Completes (.tempSourceHoldExpiry t k) s fun m' => kget k.val m'.msr.tsHold = some (a, true) ∧ m'.regs = s.m.regs
      ∧ m'.deadline (.tempSource k) = none)
  ∧ (∀ (m : Mach) (g : Gen) (tk : Tick) (k : Fin 64) (a : Int), m.fld MSR_TS_STS_state k = 1 → kget k.val m.msr.tsHold = some (a, true) →
    a ≤ tk.nominal → chGroup g (g.cfg MSR_TS_CFG_ch k) = tk.group →
    (m.tsHoldEnd g tk k).fld MSR_TS_STS_state k = 2 ∧ (m.tsHoldEnd g tk k).evt 0x0B 3 = true
      ∧ kget k.val (m.tsHoldEnd g tk k).msr.tsLast = some (asSigned 16 (g.cfg MSR_TS_FIXED_temp k) * 10))
  ∧ (∀ (s : State) (t : Nat) (src : Src), s.m.powered = true → s.m.mayWrite src →
    Completes (.msrClrExtremes t src) s fun m' => m'.fld MSR_MAXTIME_t = 0 ∧ m'.fld MSR_BACKLOG_max = 0)

/-- R188, R190, R191, R193, R197: releases that were deferred, budgets, and the commands of a slot. The jobs are those whose time on their
cores has been counted up to the instant (`runJobs`). -/
def Obligations.SlotsAreDispatched : Prop :=
  (∀ (s : State) (t : Nat) (slot : Fin 4096) (x : Deferred), s.m.fires (.deferral slot) t → s.m.dsp.deferred.find? (fun y => decide (y.slot = slot.val)) = some x →
    s.m.partState (slot / 64) = psActive → (slotState s.m slot = 1 ∨ slotState s.m slot = 2) → sheds s.m slot = false →
    (∀ l, kget slot s.m.dsp.lastRel = some l → l + separation s.m slot ≤ (s.m.advance t).now) → mringRoom s.m (slot / 64) (slot % 64) = true → (jobsOf s.m slot).length < 7 →
    Completes (.releaseDeferralExpiry t slot) s fun m' => (∃ primed, m'.dsp.jobs = ((s.m.advance t).runJobs).dsp.jobs ++ [{
        slot := slot, tick := x.tick, released := (s.m.advance t).now, deadline := (s.m.advance t).now + s.m.cfg DSP_SLOT_D_d slot * 1000,
        core := coreOf s.m slot, budget := s.m.cfg DSP_SLOT_C_c slot * 100, primed := primed }])
      ∧ m'.dsp.deferred = s.m.dsp.deferred.filter (fun y => y.slot != slot.val) ∧ m'.fld DSP_SLOT_REL_n slot = (s.m.fld DSP_SLOT_REL_n slot + 1) % 2 ^ 32)
  ∧ (∀ (s : State) (t : Nat) (slot : Fin 4096) (x : Deferred), s.m.fires (.deferral slot) t → s.m.dsp.deferred.find? (fun y => decide (y.slot = slot.val)) = some x →
    s.m.partState (slot / 64) = psActive → (slotState s.m slot = 1 ∨ slotState s.m slot = 2) → sheds s.m slot = false →
    (∀ l, kget slot s.m.dsp.lastRel = some l → l + separation s.m slot ≤ (s.m.advance t).now) → 7 ≤ (jobsOf s.m slot).length →
    Completes (.releaseDeferralExpiry t slot) s fun m' => m'.dsp.jobs = s.m.dsp.jobs
      ∧ m'.fld (DSP_CNT_n.nth 6) = (s.m.fld (DSP_CNT_n.nth 6) + 1) % 2 ^ 32 ∧ m'.evt 0x09 6 = true)
  ∧ (∀ (s : State) (t : Nat) (slot : Fin 4096) (k : Mach) (j : Job), s.m.powered = true → k = (s.m.advance t).runJobs → oldestJob k slot = some j →
    j.budget ≤ j.exec →
    Completes (.budgetExhausted t slot) s fun m' => m'.dsp.jobs = k.dsp.jobs.eraseP (fun x => x.slot == j.slot && x.tick == j.tick)
      ∧ m'.fld (DSP_CNT_n.nth 3) = (s.m.fld (DSP_CNT_n.nth 3) + 1) % 2 ^ 32
      ∧ m'.fld DSP_SLOT_OVR_n slot = (s.m.fld DSP_SLOT_OVR_n slot + 1) % 2 ^ 32 ∧ m'.fld DSP_SLOT_STS_consec slot = min 255 (s.m.fld DSP_SLOT_STS_consec slot + 1)
      ∧ m'.evt 0x09 0 = true ∧ .jobStop slot ∈ m'.outs
      ∧ (s.m.cfg DSP_CFG_overrun_lim ≤ min 255 (s.m.fld DSP_SLOT_STS_consec slot + 1) → (slotState s.m slot = 1 ∨ slotState s.m slot = 2) →
          slotState m' slot = (if j.replaced then 1 else 3) ∧ m'.evt 0x09 2 = true))
  ∧ (∀ (s : State) (t : Nat) (slot : Fin 4096) (k : Mach) (j : Job), s.m.powered = true → k = (s.m.advance t).runJobs → oldestJob k slot = some j →
    j.exec < j.budget →
    Completes (.budgetExhausted t slot) s fun m' => m' = k)
  ∧ (∀ (s : State) (t : Nat) (src : Src), s.m.powered = true → s.m.mayWrite src → slotState s.m (s.m.fld DSP_SLOT_SEL_index) = 3 →
    Completes (.slotResume t src) s fun m' => slotState m' (s.m.fld DSP_SLOT_SEL_index) = 1 ∧ m'.flag DSP_SLOT_STS_primed (s.m.fld DSP_SLOT_SEL_index) = false)
  ∧ (∀ (s : State) (t : Nat) (src : Src), s.m.powered = true → s.m.mayWrite src →
    Completes (.slotClrMax t src) s fun m' => m'.fld DSP_SLOT_RESP_MAX_v (s.m.fld DSP_SLOT_SEL_index) = 0)

/-- R194, R261, R262, R267, R268, R270, R271, R322: the commands of a partition's ring. -/
def Obligations.PartitionCommandsRun : Prop :=
  (∀ (s : State) (t : Nat) (p : Fin 64) (pk : RingPacket), s.m.powered = true → s.m.takes p pk →
    Completes (.pnop t p pk) s fun m' => (m'.part p).cmdCons = ((s.m.part p).cmdCons + 1) % 2 ^ 16 ∧ (m'.part p).cplProd = ((s.m.part p).cplProd + 1) % 2 ^ 16
      ∧ (m'.part p).xfers = (s.m.part p).xfers ∧ ∃ y : Mach, m' = y.doneCmd p pk.tag 0x00 0 [])
  ∧ (∀ (s : State) (t : Nat) (p : Fin 64) (pk : RingPacket), s.m.powered = true → canTake s.m p = true → ringPacketOk pk = false →
    Completes (.pnop t p pk) s fun m' => (m'.part p).cmdCons = ((s.m.part p).cmdCons + 1) % 2 ^ 16 ∧ ∃ y : Mach, m' = y.doneCmd p pk.tag 0x03 0 [])
  ∧ (∀ (s : State) (t : Nat) (p : Fin 64) (pk : RingPacket), s.m.powered = true → s.m.takes p pk → pk.payload.length = 24 → natBE (pk.payload.take 1) ≤ 2 →
    natBE ((pk.payload.drop 1).take 3) = 0 → natBE ((pk.payload.drop 4).take 4) = 0 → natBE ((pk.payload.drop 16).take 8) % 8 = 0 →
    natBE ((pk.payload.drop 16).take 8) ≤ 2 ^ 48 → natBE ((pk.payload.drop 8).take 8) % 8 = 0 → natBE ((pk.payload.drop 8).take 8) ≤ 2 ^ 47 →
    Completes (.xfer t p pk) s fun m' => (m'.part p).xfers = (s.m.part p).xfers ∧ m'.fld (XFR_CNT_n.nth 2) = (s.m.fld (XFR_CNT_n.nth 2) + 1) % 2 ^ 32
      ∧ ∃ (y : Mach) (payload : List Byte), m' = y.doneCmd p pk.tag 0x00 0 payload)
  ∧ (∀ (s : State) (t : Nat) (p : Fin 64) (pk : RingPacket) (n src dst tag : Nat), s.m.powered = true → s.m.takes p pk → pk.payload.length = 24 →
    natBE (pk.payload.take 1) = 1 → natBE ((pk.payload.drop 1).take 3) = 0 → n = natBE ((pk.payload.drop 4).take 4) → src = natBE ((pk.payload.drop 8).take 8) →
    dst = natBE ((pk.payload.drop 16).take 8) → 0 < n → n ≤ 16777216 → n % 8 = 0 → dst % 8 = 0 → dst + n ≤ 2 ^ 48 → covered s.m p dst n = true →
    (List.range 8).find? (fun t => !(s.m.part p).xfers.any fun x => x.tag = t) = some tag →
    Completes (.xfer t p pk) s fun m' => (m'.part p).xfers = (s.m.part p).xfers ++ [{ tag := tag, cmdTag := pk.tag, kind := 1, length := n, src := src, dst := dst, done := 0, first := tagOf ((s.m.advance t).now), since := (s.m.advance t).now }])
  ∧ (∀ (s : State) (t : Nat) (p : Fin 64) (pk : RingPacket), s.m.powered = true → s.m.takes p pk → vnicOk pk.payload = true → pk.offset.toNat < 2 → s.m.vnicRoom p pk →
    Completes (.vnicTx t p pk) s fun m' => ∃ y : Mach, m' = (y.inject (vnicIngress s.m p pk)).doneCmd p pk.tag 0x00 0 [] ∧ y.dsp = s.m.dsp ∧ y.ports = s.m.ports)
  ∧ (∀ (s : State) (t : Nat) (p : Fin 64) (tag : Fin 8) (x : Xfer), s.m.powered = true → s.m.partState p ≠ psResetting →
    (s.m.part p).xfers.find? (fun y => decide (y.tag = tag.val)) = some x → x.length ≤ x.done + pieceLen x →
    Completes (.transferPieceDone t p tag .ok) s fun m' => (m'.part p).xfers = (s.m.part p).xfers.filter (fun y => y.tag != x.tag)
      ∧ ∃ (y : Mach) (payload : List Byte), m' = y.doneCmd p x.cmdTag 0x00 tag payload)
  ∧ (∀ (s : State) (t : Nat) (p : Fin 64) (pk : RingPacket), s.m.powered = true → s.m.takes p pk → (vnicOk pk.payload = false ∨ 2 ≤ pk.offset.toNat) →
    Completes (.vnicTx t p pk) s fun m' => ∃ y : Mach, m' = y.doneCmd p pk.tag 0x03 0 [])
  ∧ (∀ (s : State) (t : Nat) (p : Fin 64) (tag : Fin 8) (e : PieceEnd) (x : Xfer), s.m.powered = true → s.m.partState p ≠ psResetting →
    (s.m.part p).xfers.find? (fun y => decide (y.tag = tag.val)) = some x → e ≠ .ok →
    Completes (.transferPieceDone t p tag e) s fun m' => (m'.part p).xfers = (s.m.part p).xfers.filter (fun y => y.tag != x.tag)
      ∧ m'.fld (XFR_CNT_n.nth 3) = (s.m.fld (XFR_CNT_n.nth 3) + 1) % 2 ^ 32
      ∧ ∃ (y : Mach) (payload : List Byte), m' = y.doneCmd p x.cmdTag (if e = .ecc then 0x11 else 0x12) tag payload)
  ∧ (∀ (s : State) (t : Nat) (p : Fin 64) (slot : Fin 4096) (pk : RingPacket) (j : Job), s.m.powered = true → s.m.takes p pk → oldestJob s.m slot = some j →
    slot.val / 64 = p → pk.payload.length = 8 → natBE pk.payload = j.tick →
    Completes (.yieldJob t p slot pk) s fun m' => m'.dsp.jobs = ((s.m.advance t).runJobs).dsp.jobs.eraseP (fun x => x.slot == j.slot && x.tick == j.tick))
  ∧ (∀ (s : State) (t : Nat) (p : Fin 64) (slot : Fin 4096) (pk : RingPacket) (j : Job) (n : Nat), s.m.powered = true → s.m.takes p pk → oldestJob s.m slot = some j →
    slot.val / 64 = p → n = natBE ((pk.payload.drop 10).take 2) → n ≤ 64 → pk.payload.length = 12 + 8 * n → natBE (pk.payload.take 8) = j.tick →
    Completes (.result t p slot pk) s fun m' => m'.dsp.jobs = ((s.m.advance t).runJobs).dsp.jobs.eraseP (fun x => x.slot == j.slot && x.tick == j.tick) ∧ m'.fld DSP_SLOT_STS_consec j.slot = 0)
  ∧ (∀ (s : State) (t : Nat) (p : Fin 64) (slot : Fin 4096) (pk : RingPacket), s.m.powered = true → s.m.takes p pk → (oldestJob s.m slot = none ∨ slot.val / 64 ≠ p) →
    Completes (.result t p slot pk) s fun m' => m'.dsp.jobs = s.m.dsp.jobs ∧ m'.fld (DSP_CNT_n.nth 7) = (s.m.fld (DSP_CNT_n.nth 7) + 1) % 2 ^ 32 ∧ m'.evt 0x09 3 = true)

/-- R260, R263, R264, R274, R275: the writes to a partition's window and the refill of its token bucket. -/
def Obligations.WindowWritesAct : Prop :=
  (∀ (s : State) (t : Nat) (p : Fin 64) (v : Word), s.m.powered = true → ringUsed (v.toNat % 2 ^ 16) (s.m.part p).cmdCons ≤ 2 ^ (s.m.part p).cmdLog →
    Completes (.pwinCmdProdWrite t p v) s fun m' => m' = (s.m.advance t).onPart p fun b => { b with cmdProd := v.toNat % 2 ^ 16 })
  ∧ (∀ (s : State) (t : Nat) (p : Fin 64) (v : Word), s.m.powered = true → 2 ^ (s.m.part p).cmdLog < ringUsed (v.toNat % 2 ^ 16) (s.m.part p).cmdCons →
    Completes (.pwinCmdProdWrite t p v) s fun m' => (m'.part p).cmdProd = (s.m.part p).cmdProd ∧ (m'.part p).rej = ((s.m.part p).rej + 1) % 2 ^ 32
      ∧ m'.fld (VRT_CNT_n.nth 1) = (s.m.fld (VRT_CNT_n.nth 1) + 1) % 2 ^ 32 ∧ m'.evt 0x32 6 = true)
  ∧ (∀ (s : State) (t : Nat) (p : Fin 64) (v : Word), s.m.powered = true → ringUsed (v.toNat % 2 ^ 16) (s.m.part p).cplCons ≤ ringUsed (s.m.part p).cplProd (s.m.part p).cplCons →
    (s.m.part p).kept = [] →
    Completes (.pwinCplConsWrite t p v) s fun m' => m' = (s.m.advance t).onPart p fun b => { b with cplCons := v.toNat % 2 ^ 16 })
  ∧ (∀ (s : State) (t : Nat) (p : Fin 64) (v : Word) (r : MRing), s.m.powered = true → kget (bits v.toNat 21 16) (s.m.part p).rings = some r →
    ringUsed (bits v.toNat 15 0) r.cons ≤ ringUsed r.prod r.cons →
    Completes (.pwinMrConsWrite t p v) s fun m' => kget (bits v.toNat 21 16) (m'.part p).rings = some { r with cons := bits v.toNat 15 0 }
      ∧ ∀ f, f ≠ bits v.toNat 21 16 → kget f (m'.part p).rings = kget f (s.m.part p).rings)
  ∧ (∀ (s : State) (t : Nat) (p : Fin 64) (v : Word) (r : MRing), s.m.powered = true → kget (bits v.toNat 21 16) (s.m.part p).rings = some r →
    ringUsed r.prod r.cons < ringUsed (bits v.toNat 15 0) r.cons →
    Completes (.pwinMrConsWrite t p v) s fun m' => (m'.part p).rings = (s.m.part p).rings ∧ (m'.part p).rej = ((s.m.part p).rej + 1) % 2 ^ 32 ∧ m'.evt 0x32 6 = true)
  ∧ (∀ (s : State) (t : Nat) (p : Fin 64) (v : Word), s.m.powered = true →
    Completes (.pwinIrqWrite t p 0x200 v) s fun m' => (m'.part p).irqPend = (s.m.part p).irqPend - ((s.m.part p).irqPend &&& v.toNat) ∧ (m'.part p).irqMask = (s.m.part p).irqMask)
  ∧ (∀ (s : State) (t : Nat) (p : Fin 64) (v : Word), s.m.powered = true →
    Completes (.pwinIrqWrite t p 0x204 v) s fun m' => (m'.part p).irqPend = (s.m.part p).irqPend - ((s.m.part p).irqPend &&& (v.toNat * 2 ^ 32)) ∧ (m'.part p).irqMask = (s.m.part p).irqMask)
  ∧ (∀ (s : State) (t : Nat) (p : Fin 64) (v : Word), s.m.powered = true →
    Completes (.pwinIrqWrite t p 0x208 v) s fun m' => (m'.part p).irqMask = (s.m.part p).irqMask / 2 ^ 32 * 2 ^ 32 + v.toNat ∧ (m'.part p).irqPend = (s.m.part p).irqPend)
  ∧ (∀ (s : State) (t : Nat) (p : Fin 64) (v : Word), s.m.powered = true →
    Completes (.pwinIrqWrite t p 0x20C v) s fun m' => (m'.part p).irqMask = v.toNat * 2 ^ 32 + (s.m.part p).irqMask % 2 ^ 32 ∧ (m'.part p).irqPend = (s.m.part p).irqPend)
  ∧ (∀ (s : State) (t : Nat) (p : Fin 64) (v : Word), s.m.powered = true → s.m.partState p = psStopped → v.toNat % 4096 = 0 →
    Completes (.pwinConfigWrite t p 0x100 v) s fun m' => m'.part p = { s.m.part p with lows := kput 0x100 v.toNat (s.m.part p).lows })
  ∧ (∀ (s : State) (t : Nat) (p : Fin 64) (v : Word) (low : Nat), s.m.powered = true → s.m.partState p = psStopped →
    kget 0x100 (s.m.part p).lows = some low → low < 2 ^ 32 →
    Completes (.pwinConfigWrite t p 0x104 v) s fun m' => (m'.part p).cmdBase = v.toNat * 2 ^ 32 + low
      ∧ windowWord m' p 0x100 = word low ∧ windowWord m' p 0x104 = v)
  ∧ (∀ (s : State) (t : Nat) (p : Fin 64) (v : Word), s.m.powered = true → s.m.partState p = psStopped → 1 ≤ v.toNat → v.toNat ≤ 8 →
    Completes (.pwinConfigWrite t p 0x108 v) s fun m' => m'.part p = { s.m.part p with cmdLog := v.toNat })
  ∧ (∀ (s : State) (t : Nat) (p : Fin 64) (v : Word), s.m.powered = true → s.m.partState p = psStopped → 1 ≤ v.toNat → v.toNat ≤ 10 →
    Completes (.pwinConfigWrite t p 0x118 v) s fun m' => m'.part p = { s.m.part p with cplLog := v.toNat })
  ∧ (∀ (s : State) (t : Nat) (p : Fin 64) (off : BitVec 16) (v : Word), s.m.powered = true → s.m.partState p ≠ psStopped →
    Completes (.pwinConfigWrite t p off v) s fun m' => ((m'.part p).cmdBase, (m'.part p).cmdLog, (m'.part p).cplBase, (m'.part p).cplLog, (m'.part p).rings)
        = ((s.m.part p).cmdBase, (s.m.part p).cmdLog, (s.m.part p).cplBase, (s.m.part p).cplLog, (s.m.part p).rings)
      ∧ (m'.part p).rej = ((s.m.part p).rej + 1) % 2 ^ 32 ∧ m'.fld (VRT_CNT_n.nth 1) = (s.m.fld (VRT_CNT_n.nth 1) + 1) % 2 ^ 32 ∧ m'.evt 0x32 6 = true)
  ∧ (∀ (s : State) (t : Nat) (p : Fin 64) (v : Nat) (rest : List Nat), s.m.fires (.irqToken p) t → s.m.partState p ≠ psResetting →
    ((s.m.part p).irqWait.filter fun v => bit (s.m.part p).irqPend v && !bit (s.m.part p).irqMask v) = v :: rest →
    Completes (.irqTokenRefill t p) s fun m' => (m'.part p).irqWait = rest ∧ (m'.part p).irqSent = (s.m.part p).irqSent ||| 2 ^ v ∧ (m'.part p).tokens = (s.m.part p).tokens
      ∧ m'.fld IRQ_CNT_n = (s.m.fld IRQ_CNT_n + 1) % 2 ^ 32)
  ∧ (∀ (s : State) (t : Nat) (p : Fin 64), s.m.fires (.irqToken p) t →
    ((s.m.part p).irqWait.filter fun v => bit (s.m.part p).irqPend v && !bit (s.m.part p).irqMask v) = [] →
    Completes (.irqTokenRefill t p) s fun m' => (m'.part p).irqWait = [] ∧ (m'.part p).tokens = min (s.m.cfg IRQ_PART_burst p) ((s.m.part p).tokens + 1))

/-- R218, R256, R259, R276–R278, R280: what starts, resets and completes the reset of a partition, and what resets a slot. -/
def Obligations.PartitionsStartAndReset : Prop :=
  (∀ (s : State) (t : Nat) (src : Src) (p : Fin 64), s.m.powered = true → s.m.mayWrite src → s.m.partState p = psStopped → startCheck s.m p = true →
    Completes (.partitionStart t src p) s fun m' => m'.partState p = psActive ∧ m'.fld RIM_STS_dbg = min 1 (s.m.fld RIM_STS_dbg) ∧ m'.parts = s.m.parts)
  ∧ (∀ (s : State) (t : Nat) (src : Src) (p : Fin 64), s.m.powered = true → s.m.mayWrite src → s.m.partState p = psStopped → startCheck s.m p = false →
    Completes (.partitionStart t src p) s fun m' => m'.partState p = psStopped ∧ m'.evt 0x32 6 = true ∧ m'.parts = s.m.parts)
  ∧ (∀ (s : State) (t : Nat) (src : Src) (p : Fin 64), s.m.powered = true → s.m.mayWrite src → s.m.partState p ≠ psStopped →
    Completes (.partitionStart t src p) s fun m' => m'.partState p = s.m.partState p ∧ m'.parts = s.m.parts)
  ∧ (∀ (s : State) (t : Nat) (src : Src) (p : Fin 64), s.m.powered = true → s.m.mayWrite src → s.m.partState p ≠ 0 → s.m.partState p ≠ psResetting →
    Completes (.partitionReset t src p) s fun m' => m'.partState p = psResetting ∧ m'.fld VRT_CNT_n = (s.m.fld VRT_CNT_n + 1) % 2 ^ 32 ∧ m'.evt 0x32 0 = true
      ∧ m'.dsp.jobs = ((s.m.advance t).runJobs).dsp.jobs.filter (fun j => !(j.slot / 64 == p.val)) ∧ m'.dsp.deferred = s.m.dsp.deferred.filter (fun x => !(x.slot / 64 == p.val))
      ∧ m'.dsp.held = s.m.dsp.held.filter (fun h => !(h.1 / 64 == p.val)))
  ∧ (∀ (s : State) (t : Nat) (src : Src) (p : Fin 64), s.m.powered = true → s.m.mayWrite src → (s.m.partState p = 0 ∨ s.m.partState p = psResetting) →
    Completes (.partitionReset t src p) s fun m' => m'.partState p = s.m.partState p ∧ m'.dsp = s.m.dsp ∧ m'.parts = s.m.parts)
  ∧ (∀ (s : State) (t : Nat) (p : Fin 64), s.m.powered = true → s.m.partState p = psResetting → (s.m.part p).xfers = [] →
    Completes (.partitionResetComplete t p) s fun m' => m'.partState p = (if (s.m.part p).goOff then 0 else psStopped) ∧ m'.evt 0x32 1 = true
      ∧ ((m'.part p).cmdProd, (m'.part p).cmdCons, (m'.part p).cplProd, (m'.part p).cplCons, (m'.part p).irqPend) = (0, 0, 0, 0, 0)
      ∧ (m'.part p).irqWait = [] ∧ (m'.part p).irqMask = (s.m.part p).irqMask ∧ (m'.part p).tokens = s.m.cfg IRQ_PART_burst p
      ∧ (m'.part p).rings = (s.m.part p).rings.map fun r => (r.1, { r.2 with prod := 0, cons := 0 }))
  ∧ (∀ (s : State) (t : Nat) (p : Fin 64), s.m.powered = true → (s.m.partState p ≠ psResetting ∨ (s.m.part p).xfers ≠ []) →
    Completes (.partitionResetComplete t p) s fun m' => m' = s.m.advance t)
  ∧ (∀ (s : State) (t : Nat) (src : Src) (slot : Fin 4096), s.m.powered = true → s.m.mayWrite src → s.m.partState (slot / 64) = psActive →
    Completes (.slotReset t src slot) s fun m' => jobsOf m' slot = [] ∧ m'.fld DSP_SLOT_STS_consec slot = 0 ∧ m'.evt 0x32 2 = true ∧ m'.partState (slot / 64) = psActive)
  ∧ (∀ (s : State) (t : Nat) (src : Src) (slot : Fin 4096), s.m.powered = true → s.m.mayWrite src → s.m.partState (slot / 64) ≠ psActive →
    Completes (.slotReset t src slot) s fun m' => m'.dsp = s.m.dsp ∧ m'.parts = s.m.parts)

/-- R262, R266, R283, R286, R287: freezing a partition and its end, the manager ring, and dirty logging re-armed. -/
def Obligations.FreezesRingAndLogging : Prop :=
  (∀ (s : State) (t : Nat) (src : Src) (p : Nat), s.m.powered = true → s.m.mayWrite src → p = s.m.cfg VRT_MIG_part → s.m.on VRT_MIG_en = true → s.m.partState p = psActive →
    ¬ (s.m.fld TWN_STS_state = 2 ∧ s.m.fld TWN_STS_partner = 4) →
    Completes (.freeze t src) s fun m' => m'.partState p = psFreezing ∧ m'.fld (VRT_CNT_n.nth 2) = (s.m.fld (VRT_CNT_n.nth 2) + 1) % 2 ^ 32
      ∧ (m'.part p).freezeAt = (s.m.advance t).now ∧ (m'.part p).oldMap = regionsOf s.m p ∧ m'.deadline .blackout = some ((s.m.advance t).now + s.m.cfg VRT_MIG_blackout * 1000))
  ∧ (∀ (s : State) (t : Nat) (src : Src), s.m.powered = true → s.m.mayWrite src → (s.m.on VRT_MIG_en = false ∨ s.m.partState (s.m.cfg VRT_MIG_part) ≠ psActive
      ∨ (s.m.fld TWN_STS_state = 2 ∧ s.m.fld TWN_STS_partner = 4)) →
    Completes (.freeze t src) s fun m' => (∀ p, m'.partState p = s.m.partState p) ∧ m'.evt 0x32 7 = true)
  ∧ (∀ (s : State) (t : Nat) (p : Fin 64), s.m.powered = true → s.m.partState p = psFreezing → (s.m.part p).xfers = [] →
    Completes (.frozenEntry t p) s fun m' => m'.partState p = psFrozen ∧ m'.evt 0x32 3 = true ∧ m'.parts = s.m.parts)
  ∧ (∀ (s : State) (t : Nat) (p : Fin 64), s.m.powered = true → (s.m.partState p ≠ psFreezing ∨ (s.m.part p).xfers ≠ []) →
    Completes (.frozenEntry t p) s fun m' => m' = s.m.advance t)
  ∧ (∀ (s : State) (t : Nat) (src : Src) (p : Nat), s.m.powered = true → s.m.mayWrite src → frozenPart s.m = some p →
    Completes (.thaw t src) s fun m' => m'.partState p = psActive ∧ m'.fld VRT_MIG_LAST_auto = 0 ∧ m'.evt 0x32 4 = true)
  ∧ (∀ (s : State) (t : Nat) (src : Src), s.m.powered = true → s.m.mayWrite src → frozenPart s.m = none →
    Completes (.thaw t src) s fun m' => (∀ p, m'.partState p = s.m.partState p) ∧ m'.parts = s.m.parts)
  ∧ (∀ (s : State) (t : Nat) (p : Nat), s.m.fires .blackout t → frozenPart s.m = some p →
    Completes (.blackoutExpiry t) s fun m' => m'.partState p = psActive ∧ m'.fld VRT_MIG_LAST_auto = 1 ∧ m'.evt 0x32 5 = true
      ∧ m'.fld (VRT_CNT_n.nth 3) = (s.m.fld (VRT_CNT_n.nth 3) + 1) % 2 ^ 32)
  ∧ (∀ (s : State) (t : Nat) (src : Src) (prod : BitVec 16) (pk : RingPacket), s.m.powered = true → s.m.mayWrite src → s.m.on VRT_MGR_RING_en = true →
    prod.toNat ≠ s.m.fld VRT_MGR_IDX_cons → (prod.toNat + 2 ^ 16 - s.m.fld VRT_MGR_IDX_cons) % 2 ^ 16 ≤ 2 ^ s.m.cfg VRT_MGR_RING_log2 →
    ringPacketOk pk = true → vnicOk pk.payload = true → pk.offset.toNat < 2 →
    Completes (.mgrRingDoorbell t src prod [pk]) s fun m' => m'.fld VRT_MGR_IDX_prod = prod.toNat ∧ m'.fld VRT_MGR_IDX_cons = (s.m.fld VRT_MGR_IDX_cons + 1) % 2 ^ 16
      ∧ ∃ y : Mach, y.ports = s.m.ports ∧ y.swc = s.m.swc ∧ y.force = s.m.force ∧ m'.ports = (y.inject {
        fr := frameOf pk.payload .untagged (pk.payload.length + 4), port := 22, vid := 0, pcp := s.m.cfg VRT_MGR_RING_pcp, cls := classOf s.m (s.m.cfg VRT_MGR_RING_pcp)
        capped := true, stamp := if pk.offset = 1 then some 64 else none }).ports)
  ∧ (∀ (s : State) (t : Nat) (src : Src) (prod : BitVec 16) (pk : RingPacket), s.m.powered = true → s.m.mayWrite src → s.m.on VRT_MGR_RING_en = true → Memory.wf s.m.mem = true →
    prod.toNat ≠ s.m.fld VRT_MGR_IDX_cons → (prod.toNat + 2 ^ 16 - s.m.fld VRT_MGR_IDX_cons) % 2 ^ 16 ≤ 2 ^ s.m.cfg VRT_MGR_RING_log2 →
    (ringPacketOk pk = false ∨ vnicOk pk.payload = false ∨ 2 ≤ pk.offset.toNat) →
    Completes (.mgrRingDoorbell t src prod [pk]) s fun m' => m'.fld VRT_MGR_IDX_cons = (s.m.fld VRT_MGR_IDX_cons + 1) % 2 ^ 16 ∧ m'.ports = s.m.ports
      ∧ memGet (cfg64 s.m VRT_MGR_RING_LO_lo VRT_MGR_RING_HI_hi 0 + s.m.fld VRT_MGR_IDX_cons % 2 ^ s.m.cfg VRT_MGR_RING_log2 * 4096 + 6) m'.mem = 3)
  ∧ (∀ (s : State) (t : Nat) (src : Src) (prod : BitVec 16) (pks : List RingPacket), s.m.powered = true → s.m.mayWrite src → s.m.on VRT_MGR_RING_en = false →
    (prod.toNat + 2 ^ 16 - s.m.fld VRT_MGR_IDX_cons) % 2 ^ 16 ≤ 2 ^ s.m.cfg VRT_MGR_RING_log2 →
    Completes (.mgrRingDoorbell t src prod pks) s fun m' => m'.fld VRT_MGR_IDX_prod = prod.toNat ∧ m'.fld VRT_MGR_IDX_cons = s.m.fld VRT_MGR_IDX_cons ∧ m'.ports = s.m.ports ∧ m'.mem = s.m.mem)
  ∧ (∀ (s : State) (t : Nat) (src : Src) (p : Nat), s.m.powered = true → s.m.mayWrite src → p = s.m.fld DRT_SEL_index → s.m.flag DRT_STS_active p = true →
    Completes (.drtRearm t src) s fun m' => m'.flag DRT_STS_bitmap p = (s.m.cfg DRT_CTRL_size p == 0) ∧ m'.fld DRT_PROD_prod p = s.m.fld DRT_CONS_cons p
      ∧ m'.evt 0x34 1 = true ∧ (m'.part p).recent = [])
  ∧ (∀ (s : State) (t : Nat) (src : Src) (p : Nat), s.m.powered = true → s.m.mayWrite src → p = s.m.fld DRT_SEL_index → s.m.flag DRT_STS_active p = false →
    Completes (.drtRearm t src) s fun m' => m'.flag DRT_STS_bitmap p = s.m.flag DRT_STS_bitmap p ∧ m'.fld DRT_PROD_prod p = s.m.fld DRT_PROD_prod p ∧ m'.parts = s.m.parts)

/-- R202, R205–R207, R213, R214, R220, R223, R224, R236: frames built, repeated, compared, received and timed out. -/
def Obligations.PublicationRuns : Prop :=
  (∀ (s : State) (t : Nat), s.m.powered = true → s.m.pub.queue = [] → s.m.pub.behind = [] → Completes (.pubFrameBuild t) s fun m' => m' = s.m.advance t)
  ∧ (∀ (s : State) (t : Nat) (j : PubJob) (o : Output), s.m.powered = true → s.m.pub.queue = [j] → s.m.pub.behind = [] → j.work = .output o → s.m.fld PUB_GCB_STS_state j.block = 1 →
    (gcbOf s.m j.block).fresh = true →
    Completes (.pubFrameBuild t) s fun m' => m'.fld PUB_GCB_STNUM_n j.block = nextNum (s.m.fld PUB_GCB_STNUM_n j.block) ∧ m'.fld PUB_GCB_SQNUM_n j.block = 0)
  ∧ (∀ (s : State) (t : Nat) (j : PubJob) (k : Nat), s.m.powered = true → s.m.pub.queue = [j] → s.m.pub.behind = [] → j.work = .retrans k → s.m.fld PUB_GCB_STS_state j.block = 1 →
    (gcbOf s.m j.block).due = some k →
    Completes (.pubFrameBuild t) s fun m' => m'.fld PUB_GCB_STNUM_n j.block = s.m.fld PUB_GCB_STNUM_n j.block ∧ m'.fld PUB_GCB_SQNUM_n j.block = nextNum (s.m.fld PUB_GCB_SQNUM_n j.block))
  ∧ (∀ (s : State) (t : Nat) (b : Fin 1024), s.m.powered = true → pubRole s.m = 5 → Completes (.gooseRetransmissionDue t b) s fun m' => m' = s.m.advance t)
  ∧ (∀ (s : State) (t : Nat) (b : Fin 1024) (k : Nat), s.m.fires (.retrans b) t → pubRole s.m ≠ 5 → (gcbOf s.m b).due = some k →
    Completes (.gooseRetransmissionDue t b) s fun m' => m'.deadline (.retrans b) = none ∧ m'.regs = s.m.regs
      ∧ if dueBetween s.m (s.m.cfg PUB_GCB_CTRL_source b) (gcbOf s.m b).lastTick k = true
        then m'.pub.waiting = s.m.pub.waiting ++ [{ block := b, work := .retrans k }] ∧ m'.pub.queue = s.m.pub.queue
        else m'.pub.waiting = s.m.pub.waiting ∧ (s.m.pub.behind = [] →
          (buildUse s.m s.m.pub.queue (s.m.cfg PUB_GCB_CTRL_owner b) < 2048 / division s.m →
              m'.pub.queue = s.m.pub.queue ++ [{ block := b, work := .retrans k }] ∧ m'.pub.behind = [])
            ∧ (2048 / division s.m ≤ buildUse s.m s.m.pub.queue (s.m.cfg PUB_GCB_CTRL_owner b) →
              m'.pub.queue = s.m.pub.queue ∧ m'.pub.behind = [{ block := b, work := .retrans k }])))
  ∧ (∀ (s : State) (t : Nat) (b : Fin 1024) (f : Built), s.m.lapsed (.compare b) t → s.m.pub.held = [f] → f.block = b → f.due < (s.m.advance t).now →
    Completes (.compareExpiry t b) s fun m' => ∃ y : Mach, m' = y.pubSend f ∧ y.pub.held = [] ∧ y.fld (PUB_CNT_n.nth 3) = (s.m.fld (PUB_CNT_n.nth 3) + 1) % 2 ^ 32 ∧ y.evt 0x0C 3 = true
      ∧ y.deadline (.compare b) = none)
  ∧ (∀ (s : State) (t : Nat) (fr : Frame) (p : Fin 16) (ar : Nat), s.m.powered = true → fr.fcs ≠ .good →
    Completes (.gooseFrameRx t fr p ar) s fun m' => m' = (s.m.advance t).count (PUB_CNT_n.nth 7))
  ∧ (∀ (s : State) (t : Nat) (fr : Frame) (p : Fin 16) (ar : Nat) (a : GooseApdu), s.m.powered = true → fr.fcs = .good → fr.body = .goose a →
    (fr.etype ≠ 0x88B8 ∨ fr.tag = .stacked ∨ a.lenOk = false ∨ a.ndsCom = true ∨ 0x4000 ≤ a.appid.toNat) →
    Completes (.gooseFrameRx t fr p ar) s fun m' => m' = (s.m.advance t).count (PUB_CNT_n.nth 7))
  ∧ (∀ (s : State) (t : Nat) (fr : Frame) (p : Fin 16) (ar : Nat) (a : GooseApdu), s.m.powered = true → fr.fcs = .good → fr.body = .goose a → fr.etype = 0x88B8 → fr.tag ≠ .stacked →
    a.lenOk = true → a.ndsCom = false → a.appid.toNat < 0x4000 → fr.src = macOf s.m PUB_TWIN_MAC_LO_lo PUB_TWIN_MAC_HI_hi 0 →
    Completes (.gooseFrameRx t fr p ar) s fun m' => m' = (s.m.advance t).count (PUB_CNT_n.nth 8))
  ∧ (∀ (s : State) (t : Nat) (fr : Frame) (p : Fin 16) (ar : Nat) (a : GooseApdu), s.m.powered = true → fr.fcs = .good → fr.body = .goose a → fr.etype = 0x88B8 → fr.tag ≠ .stacked →
    a.lenOk = true → a.ndsCom = false → a.appid.toNat < 0x4000 → fr.src ≠ macOf s.m PUB_TWIN_MAC_LO_lo PUB_TWIN_MAC_HI_hi 0 →
    subsTo s.m fr.dst a.appid.toNat = [] →
    Completes (.gooseFrameRx t fr p ar) s fun m' => m' = (s.m.advance t).count (PUB_CNT_n.nth 9))
  ∧ (∀ (s : State) (t : Nat) (fr : Frame) (p : Fin 16) (ar i : Nat) (a : GooseApdu), s.m.powered = true → fr.fcs = .good → fr.body = .goose a → fr.etype = 0x88B8 → fr.tag ≠ .stacked →
    a.lenOk = true → a.ndsCom = false → a.appid.toNat < 0x4000 → fr.src ≠ macOf s.m PUB_TWIN_MAC_LO_lo PUB_TWIN_MAC_HI_hi 0 →
    subsTo s.m fr.dst a.appid.toNat = [i] →
    a.sim = false → s.m.on PUB_SUB_CTRL_auth i = false → subMatches s.m i a = true → ((subOf s.m i).seen = false ∨ (subOf s.m i).stNum ≠ a.stNum.toNat ∨ (subOf s.m i).sqNum < a.sqNum.toNat) →
    Completes (.gooseFrameRx t fr p ar) s fun m' => m'.fld PUB_SUB_STS_state i = 2 ∧ kget i m'.pub.subs = some { stNum := a.stNum.toNat, sqNum := a.sqNum.toNat, seen := true, members := a.members })
  ∧ (∀ (s : State) (t : Nat) (i : Fin 4096), s.m.lapsed (.tal i) t → pubRole s.m ≠ 2 → pubRole s.m ≠ 5 →
    Completes (.gooseSubTalExpiry t i) s fun m' => m'.fld PUB_SUB_STS_state i = 3 ∧ m'.fld (PUB_CNT_n.nth 13) = (s.m.fld (PUB_CNT_n.nth 13) + 1) % 2 ^ 32 ∧ m'.evt 0x0C 5 = true)
  ∧ (∀ (s : State) (t : Nat) (i : Fin 4096), s.m.powered = true → (pubRole s.m = 2 ∨ pubRole s.m = 5 ∨ (s.m.advance t).past (.tal i) = false) →
    Completes (.gooseSubTalExpiry t i) s fun m' => m' = s.m.advance t)

/-- R89 and R116: what a commit of PACE and of TIME asks of the held values, from every source, and what it leaves. -/
def Obligations.PaceAndTimeCommitsAreChecked : Prop :=
  (CommitChecked 0x02 fun m =>
      1024 ≤ m.fld PACE_SHED_level ∧ m.fld PACE_SHED_level < m.fld PACE_WARN_level
        ∧ m.fld PACE_SHED_level + m.fld PACE_SHED_hys ≤ m.fld PACE_WARN_level ∧ m.fld PACE_GLITCH_level ≤ 1024)
  ∧ (CommitChecked 0x05 fun m =>
      (m.fld TIME_CTRL_src_sec = 0 ∨ m.fld TIME_CTRL_src_sec ≠ m.fld TIME_CTRL_src_pri)
        ∧ (m.fld TIME_CTRL_src_pri = 3 ∨ m.fld TIME_CTRL_src_sec = 3 → m.fld TIME_IRIG_en = 1)
        ∧ m.fld TIME_LOCK_thr < m.fld TIME_STEP_thr * 1000 ∧ m.fld TIME_HOLD_entry < m.fld TIME_HOLD_limit * 1000)

/-- R342 with the form of R320: what a commit of QOS asks of the held values, from every source, and what it leaves. -/
def Obligations.QosCommitIsChecked : Prop :=
  CommitChecked 0x12 fun m =>
    (∀ c < 7, bit (m.fld QOS_CLASS_deadline) c = true → bit (m.fld QOS_CLASS_deadline) (c + 1) = true)
      ∧ ((List.range 24).map fun e => ((List.range 8).map fun c =>
          m.fld ((if c % 2 = 0 then QOS_RSV_rsv_lo else QOS_RSV_rsv_hi).nth (c / 2)) e).sum).sum + m.fld QOS_VNIC_cells ≤ 262144

/-- R316 and R366: what a commit of a MAC page and of NRG asks, from every source, and what it leaves. Whether the values of another
page are those held or those in force is the model's reading (log 27). -/
def Obligations.MacAndNrgCommitsAreChecked : Prop :=
  (∀ e : Fin 16, CommitChecked (BitVec.ofNat 8 (0x20 + e)) fun m =>
      (m.fld (MAC_CTRL_speed.onPort e) = 0 → m.fld (MAC_CTRL_fec.onPort e) = 0) ∧ (m.fld (MAC_CTRL_speed.onPort e) = 1 → m.fld (MAC_CTRL_fec.onPort e) ≠ 2)
        ∧ (m.fld (MAC_CTRL_an.onPort e) = 1 → m.fld (MAC_CTRL_speed.onPort e) = 0 ∧ m.fld (MAC_CTRL_if1g.onPort e) ≠ 1)
        ∧ (m.fld (MAC_RED_mode.onPort (2 * (e / 2))) = 2 → m.fld (MAC_MSEC_en.onPort e) ≠ 1 ∧ (e.val % 2 = 0 → m.fld (MAC_MSEC_en.onPort (e + 1)) ≠ 1))
        ∧ bit (m.fld (MAC_ADDR_HI_hi.onPort e)) 8 = false)
  ∧ (CommitChecked 0x0E fun m => ∀ p ∈ enabledIn m.regs NRG_PT_CFG_en,
      m.on MSR_GRP_CFG_en (m.fld NRG_PT_CFG_group p) = true ∧ m.cfg MSR_GRP_CFG_kind (m.fld NRG_PT_CFG_group p) = 0 ∧ m.on MSR_GRP_CFG_link_en (m.fld NRG_PT_CFG_group p) = true)

/-- R53: the four commands with nothing to do. -/
def Obligations.ZeroLengthCommandsSucceed : Prop :=
  (∀ (s : State) (t : Nat) (tr : Transport) (pk : VPacket), s.m.powered = true →
    (s.m.advance t).passes tr { opcode := 0x02, pk := pk } → s.m.ringRoom tr → pk.payload = [] →
    Completes (.regWrite t tr pk) s fun m' => m'.answers tr pk.tag 0x00 [] ∧ m'.force = s.m.force ∧ m'.bulk = s.m.bulk
      ∧ ∀ p o i, p < 256 → o < 4096 → p ≠ 0x03 → p ≠ 0x36 → m'.reg p o i = s.m.reg p o i)
  ∧ (∀ (s : State) (t : Nat) (tr : Transport) (pk : VPacket), s.m.powered = true →
    (s.m.advance t).passes tr { opcode := 0x21, pk := pk } → s.m.ringRoom tr → rimLocked s.m = false →
    (bulkSize pk.page.toNat (bulkObj pk)).isSome = true → pk.payload = [] →
    Completes (.bulkWrite t tr pk) s fun m' => m'.answers tr pk.tag 0x00 [] ∧ m'.bulk = s.m.bulk ∧ m'.bulkF = s.m.bulkF)
  ∧ (∀ (s : State) (t : Nat) (tr : Transport) (pk : VPacket), s.m.powered = true →
    (s.m.advance t).passes tr { opcode := 0x20, pk := pk } → s.m.ringRoom tr → (bulkLength s.m pk.page.toNat (bulkObj pk)).isSome = true →
    pk.payload.length = 4 → natBE pk.payload = 0 →
    Completes (.bulkRead t tr pk) s fun m' => m'.answers tr pk.tag 0x00 [])
  ∧ (∀ (s : State) (t : Nat) (tr : Transport) (pk : VPacket), s.m.powered = true →
    (s.m.advance t).passes tr { opcode := 0x7F, pk := pk } → s.m.ringRoom tr → pk.payload = [] →
    Completes (.nop t tr pk) s fun m' => m'.answers tr pk.tag 0x00 [])

/-- R431: VIN_OUT_OF_RANGE and VIN_UNDERVOLTAGE. -/
def Obligations.SupplyIsMonitored : Prop :=
  (∀ (s : State) (t : Nat) (mv : BitVec 16), s.m.powered = true → s.m.rst.pg = true → (mv.toNat < 10800 ∨ 13200 < mv.toNat) →
    Completes (.vinOutOfRange t mv) s fun m' => m'.evt 0x00 2 = true ∧ m'.fld GLB_VIN_vin = mv.toNat ∧ m'.powered = true
      ∧ m'.rst = s.m.rst ∧ m'.coil.intake = s.m.coil.intake ∧ m'.coil.flushing = s.m.coil.flushing)
  ∧ (∀ (s : State) (t : Nat) (mv : BitVec 16), s.m.powered = true → (s.m.rst.pg = false ∨ (10800 ≤ mv.toNat ∧ mv.toNat ≤ 13200)) →
    Completes (.vinOutOfRange t mv) s fun m' => m' = (s.m.advance t).setFld GLB_VIN_vin 0 mv.toNat)
  ∧ (∀ (s : State) (t : Nat), exec (.vinUndervoltage t) s = exec (.pgInFall t) s)
  ∧ (∀ (s : State) (t : Nat), s.m.powered = true → s.m.coil.intake = true →
    Completes (.vinUndervoltage t) s fun m' => s.m.flushBegun m' t ∧ m'.rst = { s.m.rst with pg := false } ∧ m'.powered = true)

/-- R435: TJ_HIGH, THERMAL_TRIP, THERMAL_RECOVERY, and the flush that ends after a trip. R77, of the pace, is no part of it. -/
def Obligations.ThermalLimitsAct : Prop :=
  (∀ (s : State) (t : Nat) (tj : BitVec 16), s.m.powered = true →
    Completes (.tjHigh t tj) s fun m' => m'.fld GLB_TJ_tj = tj.toNat ∧ m'.evt 0x00 1 = (s.m.evt 0x00 1 || decide (1000 < tj.toInt)) ∧ m'.coil.intake = s.m.coil.intake ∧ m'.rst = s.m.rst)
  ∧ (∀ (s : State) (t : Nat) (tj : BitVec 16), s.m.powered = true → 1150 ≤ tj.toInt → s.m.coil.intake = true →
    Completes (.thermalTrip t tj) s fun m' => s.m.flushBegun m' t ∧ m'.rst = { s.m.rst with trip := true } ∧ m'.fld GLB_TJ_tj = tj.toNat)
  ∧ (∀ (s : State) (t : Nat) (tj : BitVec 16), s.m.powered = true → tj.toInt < 1150 →
    Completes (.thermalTrip t tj) s fun m' => m' = (s.m.advance t).setFld GLB_TJ_tj 0 tj.toNat)
  ∧ (∀ (s : State) (t : Nat) (ok : Bool), s.m.powered = true → s.m.coil.flushing = true → s.m.coil.intake = false → s.m.rst.trip = true →
    (s.m.rst.pg = false ∨ 950 < asSigned 16 (s.m.fld GLB_TJ_tj)) →
    Completes (.lastGaspFlushComplete t ok) s fun m' => m'.powered = false ∧ m'.coil.flushing = false ∧ .rdy false ∈ m'.outs)
  ∧ (∀ (s : State) (t : Nat) (tj : BitVec 16), s.m.powered = false → s.m.rst.pg = true → tj.toInt ≤ 950 →
    Completes (.thermalRecovery t tj) s fun m' => s.m.resetWith m' 0)
  ∧ (∀ (s : State) (t : Nat) (tj : BitVec 16), (s.m.powered = true ∨ s.m.rst.pg = false ∨ 950 < tj.toInt) →
    Completes (.thermalRecovery t tj) s fun m' => m' = (s.m.advance t).setFld GLB_TJ_tj 0 tj.toNat)

/-- R79, R382, R407, R408, R410, R411, R414, R417: power and reset pins, the writes of RST_CMD, the watchdog, the end of a flush, and a
start up to its choice of a bank, or held until the pace allows it. -/
def Obligations.PowerAndResetFollowTheFlush : Prop :=
  (∀ (s : State) (t : Nat), s.m.powered = true → s.m.coil.intake = true →
    Completes (.pgInFall t) s fun m' => s.m.flushBegun m' t ∧ m'.rst = { s.m.rst with pg := false })
  ∧ (∀ (s : State) (t : Nat), (s.m.powered = false ∨ s.m.coil.intake = false) →
    Completes (.pgInFall t) s fun m' => m' = { s.m.advance t with rst := { s.m.rst with pg := false } })
  ∧ (∀ (s : State) (t : Nat), s.m.powered = true → s.m.coil.intake = true →
    Completes (.pgInRise t) s fun m' => m' = { s.m.advance t with rst := { s.m.rst with pg := true } })
  ∧ (∀ (s : State) (t : Nat), s.m.powered = true → s.m.coil.intake = false → s.m.coil.flushing = true →
    Completes (.pgInRise t) s fun m' => m' = { s.m.advance t with rst := { s.m.rst with pg := true, cause := some (s.m.rst.cause.getD 4) } })
  ∧ (∀ (s : State) (t : Nat), s.m.powered = true → s.m.coil.intake = false → s.m.coil.flushing = false →
    Completes (.pgInRise t) s fun m' => s.m.resetWith m' 0)
  ∧ (∀ (s : State) (t : Nat), s.m.powered = false → asSigned 16 (s.m.fld GLB_TJ_tj) ≤ 950 →
    Completes (.pgInRise t) s fun m' => s.m.resetWith m' 0)
  ∧ (∀ (s : State) (t : Nat), s.m.powered = true → s.m.coil.intake = true →
    Completes (.nrstIn t) s fun m' => s.m.flushBegun m' t ∧ m'.rst = { s.m.rst with cause := some 1 })
  ∧ (∀ (s : State) (t : Nat) (src : Src), s.m.powered = true → s.m.mayWrite src → s.m.coil.intake = true →
    Completes (.rstCmdModuleReset t src) s fun m' => s.m.flushBegun m' t ∧ m'.rst = { s.m.rst with cause := some (s.m.rst.cause.getD 2) })
  ∧ (∀ (s : State) (t : Nat) (src : Src), s.m.powered = true → s.m.mayWrite src → imageValid s.m (s.m.cfg RST_CTRL_img_sel) = false →
    Completes (.rstCmdApplyImage t src) s fun m' => m'.fld RST_STS_img = 3 ∧ m'.evt 0x01 2 = true ∧ m'.force = s.m.force ∧ m'.adm = s.m.adm)
  ∧ (∀ (s : State) (t : Nat) (src : Src), s.m.powered = true → s.m.mayWrite src → imageValid s.m (s.m.cfg RST_CTRL_img_sel) = true → rimLocked s.m = true →
    Completes (.rstCmdApplyImage t src) s fun m' => m'.fld RST_STS_img = 2 ∧ m'.evt 0x01 2 = true ∧ m'.force = s.m.force ∧ m'.adm = s.m.adm)
  ∧ (∀ (s : State) (t : Nat) (src : Src), s.m.powered = true → s.m.mayWrite src → imageValid s.m (s.m.cfg RST_CTRL_img_sel) = true → rimLocked s.m = false →
    Completes (.rstCmdApplyImage t src) s fun m' => ∃ y : Mach, y.force = s.m.force ∧ y.adm = s.m.adm ∧ y.bulk = s.m.bulk
      ∧ ((y.applyImage (imageArea s.m (s.m.cfg RST_CTRL_img_sel))).2 = true → m'.fld RST_STS_img = 1 ∧ m'.evt 0x01 1 = true)
      ∧ ((y.applyImage (imageArea s.m (s.m.cfg RST_CTRL_img_sel))).2 = false → m'.fld RST_STS_img = 2 ∧ m'.evt 0x01 2 = true)
      ∧ m'.force = (y.applyImage (imageArea s.m (s.m.cfg RST_CTRL_img_sel))).1.force ∧ m'.adm = (y.applyImage (imageArea s.m (s.m.cfg RST_CTRL_img_sel))).1.adm)
  ∧ (∀ (s : State) (t : Nat) (src : Src), s.m.powered = true → s.m.mayWrite src →
    Completes (.rstKick t src) s fun m' => m'.deadline .watchdog = (if s.m.cfg RST_WDOG_timeout = 0 then none else some ((s.m.advance t).now + s.m.cfg RST_WDOG_timeout * 1000000)) ∧ m'.rst = s.m.rst)
  ∧ (∀ (s : State) (t : Nat), s.m.fires .watchdog t → (s.m.on RST_WDOG_act = true → s.m.coil.intake = true) →
    Completes (.managerWatchdogExpiry t) s fun m' => m'.fld RST_WDOG_EXP_n = (s.m.fld RST_WDOG_EXP_n + 1) % 2 ^ 32 ∧ m'.evt 0x01 4 = true
      ∧ (s.m.on RST_WDOG_act = true → s.m.flushBegun m' t ∧ m'.rst = { s.m.rst with cause := some (s.m.rst.cause.getD 3) })
      ∧ (s.m.on RST_WDOG_act = false → m'.rst = s.m.rst ∧ m'.coil.intake = s.m.coil.intake))
  ∧ (∀ (s : State) (t : Nat) (ok : Bool), s.m.powered = true → s.m.coil.flushing = false →
    Completes (.lastGaspFlushComplete t ok) s fun m' => m' = s.m.advance t)
  ∧ (∀ (s : State) (t : Nat) (ok : Bool), s.m.powered = true → s.m.coil.flushing = true → (s.m.coil.intake = true ∨ (s.m.rst.trip = false ∧ s.m.rst.cause = none)) →
    Completes (.lastGaspFlushComplete t ok) s fun m' => m'.coil.flushing = false ∧ m'.coil.intake = s.m.coil.intake ∧ m'.rst = s.m.rst
      ∧ (ok = false → m'.flash = { s.m.flash with gaspFailed := true })
      ∧ (ok = true → m'.flash = (if olderArea s.m then { s.m.flash with gasp1 := some (flushImage s.m), gaspFailed := false } else { s.m.flash with gasp0 := some (flushImage s.m), gaspFailed := false })
          ∧ m'.fld (COIL_CNT_n.nth 5) = (s.m.fld (COIL_CNT_n.nth 5) + 1) % 2 ^ 32 ∧ m'.evt 0x07 4 = true))
  ∧ (∀ (s : State) (t : Nat) (ok : Bool) (c : Nat), s.m.powered = true → s.m.coil.flushing = true → s.m.coil.intake = false → s.m.rst.trip = false → s.m.rst.cause = some c → c < 8 →
    Completes (.lastGaspFlushComplete t ok) s fun m' => s.m.resetWith m' c)
  ∧ (∀ (s : State) (t : Nat) (b : BootInput), s.m.rst.reset = true → s.m.fld PACE_STATE_state ≤ 1 → s.m.coil.intake = true → bankValid s.m s.m.flash.bank0 b.valid0 = false → bankValid s.m s.m.flash.bank1 b.valid1 = false →
    Completes (.powerOn t b) s fun m' => m'.rst.recovery = true ∧ m'.rst.starting = false ∧ m'.rst.pg = true ∧ m'.fld RIM_BOOT_valid = 0)
  ∧ (∀ (s : State) (t : Nat) (b : BootInput), s.m.rst.reset = true → s.m.fld PACE_STATE_state ≤ 1 → s.m.coil.intake = true → b.memoryOk = false →
    (if s.m.fld RIM_BOOT_sel = 0 then bankValid s.m s.m.flash.bank0 b.valid0 else bankValid s.m s.m.flash.bank1 b.valid1) = true →
    Completes (.powerOn t b) s fun m' => m'.fld RIM_STS_bank = s.m.fld RIM_BOOT_sel ∧ m'.fld GLB_FW_bank = s.m.fld RIM_BOOT_sel ∧ m'.fld RST_STS_phase = 1 ∧ m'.rst.starting = false)
  ∧ (∀ (s : State) (t : Nat) (b : BootInput), s.m.rst.reset = true → s.m.fld PACE_STATE_state ≤ 1 → s.m.coil.intake = true → b.memoryOk = true → s.m.on RST_CTRL_autoload = false →
    (if s.m.fld RIM_BOOT_sel = 0 then bankValid s.m s.m.flash.bank0 b.valid0 else bankValid s.m s.m.flash.bank1 b.valid1) = true →
    Completes (.powerOn t b) s fun m' => m'.fld RST_STS_phase = 5 ∧ m'.rst.starting = false)
  ∧ (∀ (s : State) (t : Nat) (b : BootInput), s.m.rst.reset = true → 1 < s.m.fld PACE_STATE_state →
    Completes (.powerOn t b) s fun m' => m' = { s.m.advance t with rst := { s.m.rst with
      pg := true, reset := false, starting := true, began := (s.m.advance t).now, boot := some b } })

/-- R374, R375, R377, R378, R379, R382, R383, R385: an event at the intake of COIL, the write of a record, the fold rewrite, and the
commands of COIL. -/
def Obligations.RecorderRuns : Prop :=
  (∀ (s : State) (t : Nat) (e : CoilEvent), s.m.powered = true → e.page = 0x07 → e.code.toNat < 0x20 →
    Completes (.coilEventIntake t e) s fun m' => m'.evt 0x07 e.code.toNat = true ∧ m'.coil = s.m.coil)
  ∧ (∀ (s : State) (t : Nat) (e : CoilEvent), s.m.powered = true → ¬ (e.page = 0x07 ∧ e.code.toNat < 0x20) → s.m.coil.intake = false →
    Completes (.coilEventIntake t e) s fun m' => m' = (s.m.advance t).count (COIL_CNT_n.nth 2))
  ∧ (∀ (s : State) (t : Nat) (e : CoilEvent) (o : OpenRec), s.m.powered = true → ¬ (e.page = 0x07 ∧ e.code.toNat < 0x20) → s.m.coil.intake = true →
    wrapOfTag (s.m.advance t) e.tag ≤ s.m.coil.wrapNo →
    s.m.coil.opened.find? (identical e.page.toNat e.code.toNat e.sev e.attr.toNat (wrapOfTag (s.m.advance t) e.tag) (e.snap.take 32)) = some o →
    Completes (.coilEventIntake t e) s fun m' => m'.coil = { s.m.coil with
        opened := s.m.coil.opened.map fun x => if x.seq = o.seq then { x with pending := x.pending ++ [e.tag] } else x } ∧ m'.regs = s.m.regs)
  ∧ (∀ (s : State) (t : Nat) (e : CoilEvent), s.m.powered = true → ¬ (e.page = 0x07 ∧ e.code.toNat < 0x20) → s.m.coil.intake = true →
    wrapOfTag (s.m.advance t) e.tag ≤ s.m.coil.wrapNo →
    s.m.coil.opened.find? (identical e.page.toNat e.code.toNat e.sev e.attr.toNat (wrapOfTag (s.m.advance t) e.tag) (e.snap.take 32)) = none →
    s.m.coil.fifo.length < 32 →
    Completes (.coilEventIntake t e) s fun m' => m'.coil = { s.m.coil with
        fifo := s.m.coil.fifo ++ [{
          page := e.page.toNat, code := e.code.toNat, sev := e.sev, attr := e.attr.toNat, tag := e.tag, last := e.tag, rpt := 0
          wrapNo := wrapOfTag (s.m.advance t) e.tag, snap := e.snap.take 32, cut := decide (32 < e.snap.length), continued := false }]
        fifoMax := max s.m.coil.fifoMax (s.m.coil.fifo.length + 1) } ∧ m'.regs = s.m.regs)
  ∧ (∀ (s : State) (t : Nat) (e : CoilEvent), s.m.powered = true → ¬ (e.page = 0x07 ∧ e.code.toNat < 0x20) → s.m.coil.intake = true →
    wrapOfTag (s.m.advance t) e.tag ≤ s.m.coil.wrapNo →
    s.m.coil.opened.find? (identical e.page.toNat e.code.toNat e.sev e.attr.toNat (wrapOfTag (s.m.advance t) e.tag) (e.snap.take 32)) = none →
    32 ≤ s.m.coil.fifo.length →
    Completes (.coilEventIntake t e) s fun m' => m'.fld (COIL_CNT_n.nth 2) = (s.m.fld (COIL_CNT_n.nth 2) + 1) % 2 ^ 32 ∧ m'.evt 0x07 0 = true
      ∧ m'.coil.fifo.length = s.m.coil.fifo.length ∧ m'.coil.slots = s.m.coil.slots ∧ m'.coil.opened = s.m.coil.opened
      ∧ ∃ y, m'.coil.tally = some y ∧ y.last = e.tag ∧ y.n = (s.m.coil.tally.map Tally.n).getD 0 + 1 ∧ y.first = (s.m.coil.tally.map Tally.first).getD e.tag
        ∧ y.sev = max ((s.m.coil.tally.map Tally.sev).getD 0) e.sev)
  ∧ (∀ (s : State) (t : Nat), s.m.powered = true → s.m.coil.fifo = [] → Completes (.coilRecordWrite t) s fun m' => m' = s.m.advance t)
  ∧ (∀ (s : State) (t : Nat) (e : FifoEntry) (l : List FifoEntry) (o : OpenRec), s.m.powered = true → s.m.coil.fifo = e :: l → s.m.coil.tally = none →
    s.m.coil.opened.find? (identical e.page e.code e.sev e.attr e.wrapNo e.snap) = some o →
    Completes (.coilRecordWrite t) s fun m' => m'.coil = { s.m.coil with
        fifo := l, opened := s.m.coil.opened.map fun x => if x.seq = o.seq then { x with pending := x.pending ++ [e.tag] } else x } ∧ m'.regs = s.m.regs)
  ∧ (∀ (s : State) (t : Nat) (e : FifoEntry) (l : List FifoEntry) (i : Nat) (lost : Bool), s.m.powered = true → s.m.coil.fifo = e :: l → s.m.coil.tally = none →
    s.m.coil.opened.find? (identical e.page e.code e.sev e.attr e.wrapNo e.snap) = none → e.snap.length ≤ 8 → placeFor s.m e.sev = some (i, lost) →
    Completes (.coilRecordWrite t) s fun m' => m'.coil.fifo = l ∧ m'.coil.seq = s.m.coil.seq + 1 ∧ kget (s.m.coil.seq % 4096) m'.coil.index = some i
      ∧ m'.fld COIL_CNT_n = (s.m.fld COIL_CNT_n + 1) % 2 ^ 32 ∧ (lost = true → m'.fld (COIL_CNT_n.nth 3) = (s.m.fld (COIL_CNT_n.nth 3) + 1) % 2 ^ 32 ∧ m'.evt 0x07 2 = true)
      ∧ ∃ r, kget i m'.coil.slots = some r ∧ r.seq = s.m.coil.seq ∧ r.tag = e.tag ∧ r.page = e.page ∧ r.sev = e.sev ∧ r.code = e.code ∧ r.attr = e.attr ∧ r.snap = e.snap
        ∧ r.wrap = s.m.coil.wrapNo % 2 ^ 16 ∧ r.era = s.m.coil.wrapNo / 2 ^ 16 ∧ r.pw = decide (e.wrapNo < s.m.coil.wrapNo) ∧ r.cut = e.cut ∧ r.chained = false ∧ r.continuation = false)
  ∧ (∀ (s : State) (t : Nat) (e : FifoEntry) (l : List FifoEntry), s.m.powered = true → s.m.coil.fifo = e :: l → s.m.coil.tally = none →
    s.m.coil.opened.find? (identical e.page e.code e.sev e.attr e.wrapNo e.snap) = none → e.snap.length ≤ 8 → placeFor s.m e.sev = none →
    Completes (.coilRecordWrite t) s fun m' => m'.coil.fifo = l ∧ m'.coil.seq = s.m.coil.seq ∧ m'.coil.slots = s.m.coil.slots
      ∧ m'.fld (COIL_CNT_n.nth 4) = (s.m.fld (COIL_CNT_n.nth 4) + 1) % 2 ^ 32 ∧ m'.evt 0x07 1 = true)
  ∧ (∀ (s : State) (t : Nat), s.m.powered = true → (∀ o ∈ s.m.coil.opened, o.pending = []) → Completes (.coilFoldRewrite t) s fun m' => m' = s.m.advance t)
  ∧ (∀ (s : State) (t : Nat) (o : OpenRec) (r : Rec), s.m.powered = true → pendingRec s.m = some o → kget o.slot s.m.coil.slots = some r → r.seq = o.seq →
    r.rpt + o.pending.length < 65535 →
    Completes (.coilFoldRewrite t) s fun m' => m'.fld (COIL_CNT_n.nth 1) = (s.m.fld (COIL_CNT_n.nth 1) + o.pending.length) % 2 ^ 32
      ∧ kget o.slot m'.coil.slots = some { r with rpt := r.rpt + o.pending.length, last := o.pending.getLast?.getD r.last }
      ∧ m'.coil.opened = (s.m.coil.opened.map fun x => if x.seq = o.seq then { x with pending := [] } else x) ∧ m'.coil.seq = s.m.coil.seq ∧ m'.coil.fifo = s.m.coil.fifo)
  ∧ (∀ (s : State) (t : Nat) (src : Src), s.m.powered = true → s.m.mayWrite src →
    Completes (.coilCmdFlush t src) s fun m' => m'.coil.flushing = true ∧ m'.coil.intake = s.m.coil.intake
      ∧ m'.coil.flushAt = (if s.m.coil.flushing then s.m.coil.flushAt else (s.m.advance t).now) ∧ m'.flash = s.m.flash)
  ∧ (∀ (s : State) (t : Nat) (src : Src), s.m.powered = true → s.m.mayWrite src →
    Completes (.coilCmdLgClear t src) s fun m' => m'.flash = { s.m.flash with gasp0 := none, gasp1 := none } ∧ m'.coil.shown = none
      ∧ m'.fld COIL_LG_STS_present = 0 ∧ m'.fld COIL_LG_STS_count = 0)
  ∧ (∀ (s : State) (t : Nat) (src : Src), s.m.powered = true → s.m.mayWrite src →
    Completes (.coilFifoClearMax t src) s fun m' => ∃ y : Mach, y.coil = { s.m.coil with fifoMax := s.m.coil.fifo.length } ∧ m' = y.auditWrite 0x07 src 0x06C 0x80000000)

/-- R84, R367, R368: an edge of a pulse input, the ends of its debounce, minimum width and stall times, and PLS_LATCH. -/
def Obligations.PulseInputsCount : Prop :=
  (∀ (s : State) (t : Nat) (p : Fin 32) (level : Bool), s.m.powered = true → (plsPin s.m p).raw = level →
    Completes (.pulseInputEdge t p level) s fun m' => m' = s.m.advance t)
  ∧ (∀ (s : State) (t : Nat) (p : Fin 32) (level : Bool), s.m.powered = true → (plsPin s.m p).raw ≠ level → s.m.on PLS_CFG_en p = false →
    Completes (.pulseInputEdge t p level) s fun m' => plsPin m' p = { plsPin s.m p with raw := level, rawAt := (s.m.advance t).now } ∧ m'.regs = s.m.regs ∧ m'.timers = s.m.timers)
  ∧ (∀ (s : State) (t : Nat) (p : Fin 32) (level : Bool), s.m.powered = true → (plsPin s.m p).raw ≠ level → s.m.on PLS_CFG_en p = true →
    (level != s.m.on PLS_CFG_pol p) ≠ s.m.flag PLS_STS_level p →
    Completes (.pulseInputEdge t p level) s fun m' => plsPin m' p = { plsPin s.m p with raw := level, rawAt := (s.m.advance t).now } ∧ m'.regs = s.m.regs
      ∧ m'.deadline (.debounce p) = some ((s.m.advance t).now + (if s.m.cfg PLS_CFG_deb p = 0 then 20 else s.m.cfg PLS_CFG_deb p * 100000)))
  ∧ (∀ (s : State) (t : Nat) (p : Fin 32) (level : Bool), s.m.powered = true → (plsPin s.m p).raw ≠ level → s.m.on PLS_CFG_en p = true →
    (level != s.m.on PLS_CFG_pol p) = s.m.flag PLS_STS_level p → (plsPin s.m p).started = none →
    Completes (.pulseInputEdge t p level) s fun m' => plsPin m' p = { plsPin s.m p with raw := level, rawAt := (s.m.advance t).now } ∧ m'.regs = s.m.regs
      ∧ m'.deadline (.debounce p) = none)
  ∧ (∀ (s : State) (t : Nat) (p : Fin 32), s.m.fires (.debounce p) t → ((plsPin s.m p).raw != s.m.on PLS_CFG_pol p) = true → (plsPin s.m p).blocked = false →
    Completes (.pulseDebounceExpiry t p) s fun m' => m'.flag PLS_STS_level p = true ∧ plsPin m' p = { plsPin s.m p with started := some (plsPin s.m p).rawAt }
      ∧ m'.deadline (.minWidth p) = some (max ((s.m.advance t).now) ((plsPin s.m p).rawAt + s.m.cfg PLS_CFG_min_w p * 100000)))
  ∧ (∀ (s : State) (t : Nat) (p : Fin 32), s.m.fires (.debounce p) t → ((plsPin s.m p).raw != s.m.on PLS_CFG_pol p) = true → (plsPin s.m p).blocked = true →
    Completes (.pulseDebounceExpiry t p) s fun m' => m'.flag PLS_STS_level p = true ∧ m'.pls = s.m.pls)
  ∧ (∀ (s : State) (t : Nat) (p : Fin 32), s.m.fires (.debounce p) t → ((plsPin s.m p).raw != s.m.on PLS_CFG_pol p) = false → (plsPin s.m p).started = none →
    Completes (.pulseDebounceExpiry t p) s fun m' => m'.flag PLS_STS_level p = false ∧ plsPin m' p = { plsPin s.m p with blocked := false })
  ∧ (∀ (s : State) (t : Nat) (p : Fin 32) (a : Nat), s.m.fires (.debounce p) t → ((plsPin s.m p).raw != s.m.on PLS_CFG_pol p) = false → (plsPin s.m p).started = some a →
    (plsPin s.m p).rawAt < a + s.m.cfg PLS_CFG_min_w p * 100000 →
    Completes (.pulseDebounceExpiry t p) s fun m' => m'.flag PLS_STS_level p = false ∧ plsPin m' p = { plsPin s.m p with blocked := false, started := none }
      ∧ m'.fld PLS_SHORT_n = (s.m.fld PLS_SHORT_n + 1) % 2 ^ 32 ∧ m'.evt 0x0F 3 = true ∧ m'.deadline (.minWidth p) = none)
  ∧ (∀ (s : State) (t : Nat) (p : Fin 32) (a : Nat), s.m.fires (.debounce p) t → ((plsPin s.m p).raw != s.m.on PLS_CFG_pol p) = false → (plsPin s.m p).started = some a →
    a + s.m.cfg PLS_CFG_min_w p * 100000 ≤ (plsPin s.m p).rawAt →
    Completes (.pulseDebounceExpiry t p) s fun m' => m'.flag PLS_STS_level p = false ∧ s.m.pulseQualifies m' p a)
  ∧ (∀ (s : State) (t : Nat) (p : Fin 32) (a : Nat), s.m.fires (.minWidth p) t → ((plsPin s.m p).raw != s.m.on PLS_CFG_pol p) = true → (plsPin s.m p).started = some a →
    Completes (.pulseMinWidthExpiry t p) s fun m' => s.m.pulseQualifies m' p a)
  ∧ (∀ (s : State) (t : Nat) (p : Fin 32), s.m.fires (.minWidth p) t → ((plsPin s.m p).raw != s.m.on PLS_CFG_pol p) = false →
    Completes (.pulseMinWidthExpiry t p) s fun m' => m'.pls = s.m.pls ∧ m'.regs = s.m.regs)
  ∧ (∀ (s : State) (t : Nat) (p : Fin 32), s.m.fires (.stall p) t →
    Completes (.pulseStallExpiry t p) s fun m' => m'.flag PLS_STS_stalled p = true ∧ m'.fld PLS_STALLS_n = (s.m.fld PLS_STALLS_n + 1) % 2 ^ 32 ∧ m'.evt 0x0F 0 = true ∧ m'.pls = s.m.pls)
  ∧ (∀ (s : State) (t : Nat) (src : Src), s.m.powered = true → s.m.mayWrite src →
    Completes (.plsLatch t src) s fun m' => m'.fld PLS_L_TAG_tag = s.m.pls.capTag.toNat ∧ m'.pls = s.m.pls
      ∧ ∀ p < 32, m'.fld (PLS_L_CNT_n.nth p) = s.m.fld PLS_CNT_n p ∧ m'.fld PLS_CNT_n p = s.m.fld PLS_CNT_n p)

/-- R346, R347, R353, R359, R360, R362, R363: the end of a load-profile interval, the over-current time, the latch and peak clear of NRG, and the
trigger, release and export of ACQ. -/
def Obligations.EnergyAndAcquisitionRun : Prop :=
  (∀ (s : State) (t : Nat), s.m.powered = true → (s.m.advance t).station < intervalEnd s.m → Completes (.energyIntervalEnd t) s fun m' => m' = s.m.advance t)
  ∧ (∀ (s : State) (t : Nat), s.m.powered = true → intervalEnd s.m ≤ (s.m.advance t).station → (nrgPoints s.m).Nodup →
    Completes (.energyIntervalEnd t) s fun m' => m'.nrg.began = intervalEnd s.m
      ∧ m'.fld (NRG_CNT_n.nth 3) = (s.m.fld (NRG_CNT_n.nth 3) + (nrgPoints s.m).length) % 2 ^ 32
      ∧ ∀ p ∈ nrgPoints s.m, m'.fld NRG_PT_STS_last p = (s.m.fld NRG_PT_STS_last p + 1) % 16
        ∧ kget (p * 16 + (s.m.fld NRG_PT_STS_last p + 1) % 16) m'.nrg.entries
            = some (entryBytes (intervalEnd s.m) { nrgPt s.m p with flags := (nrgPt s.m p).flags ||| (if shedding s.m then 2 else 0) })
        ∧ nrgPt m' p = { nrgPt s.m p with gained := [0, 0, 0, 0, 0, 0], flags := 0, revs := 0, missed := 0, dmaxImp := 0, dmaxExp := 0 })
  ∧ (∀ (s : State) (t : Nat) (p : Fin 512), s.m.fires (.overCurrent p) t → s.m.flag NRG_PT_STS_oc p = false → (nrgPt s.m p).above = true →
    Completes (.overcurrentTimerExpiry t p) s fun m' => m'.flag NRG_PT_STS_oc p = true ∧ m'.fld (NRG_CNT_n.nth 1) = (s.m.fld (NRG_CNT_n.nth 1) + 1) % 2 ^ 32 ∧ m'.evt 0x0E 1 = true
      ∧ nrgPt m' p = { nrgPt s.m p with above := false, below := false, flags := (nrgPt s.m p).flags ||| 2 ^ 7 })
  ∧ (∀ (s : State) (t : Nat) (p : Fin 512), s.m.fires (.overCurrent p) t → s.m.flag NRG_PT_STS_oc p = true → (nrgPt s.m p).below = true →
    Completes (.overcurrentTimerExpiry t p) s fun m' => m'.flag NRG_PT_STS_oc p = false ∧ m'.evt 0x0E 2 = true ∧ nrgPt m' p = { nrgPt s.m p with above := false, below := false })
  ∧ (∀ (s : State) (t : Nat) (p : Fin 512), s.m.fires (.overCurrent p) t →
    (if s.m.flag NRG_PT_STS_oc p then (nrgPt s.m p).below else (nrgPt s.m p).above) = false →
    Completes (.overcurrentTimerExpiry t p) s fun m' => m'.regs = s.m.regs ∧ nrgPt m' p = { nrgPt s.m p with above := false, below := false })
  ∧ (∀ (s : State) (t : Nat) (src : Src) (p : Nat), s.m.powered = true → s.m.mayWrite src → p = s.m.fld NRG_PT_SEL_index →
    Completes (.nrgLatch t src) s fun m' =>
      m'.fld NRG_L_TICK_LO_w p = (nrgPt s.m p).lastTick % 2 ^ 32 ∧ m'.fld NRG_L_TICK_HI_w p = (nrgPt s.m p).lastTick / 2 ^ 32 % 2 ^ 32
      ∧ m'.fld NRG_L_STS_boot p = s.m.fld TWN_BOOT_n ∧ m'.fld NRG_L_STS_dwrap p = dwrapOf (nrgPt s.m p) % 2 ^ 6
      ∧ (∀ a < 6, m'.fld (NRG_L_ACC_LO_w.nth a) p = nthD (nrgPt s.m p).accs a 0 % 2 ^ 32 ∧ m'.fld (NRG_L_ACC_HI_count.nth a) p = nthD (nrgPt s.m p).accs a 0 / 2 ^ 32 % 2 ^ 16
          ∧ m'.fld (NRG_L_ACC_HI_wrap.nth a) p = nthD (nrgPt s.m p).wraps a 0 % 2 ^ 8)
      ∧ nrgPt m' p = { nrgPt s.m p with latched := (nrgPt s.m p).wraps } ∧ (dwrapOf (nrgPt s.m p) ≠ 0 → m'.evt 0x0E 4 = true))
  ∧ (∀ (s : State) (t : Nat) (src : Src) (p : Nat), s.m.powered = true → s.m.mayWrite src → p = s.m.fld NRG_PT_SEL_index →
    Completes (.nrgClrPeak t src) s fun m' => m'.fld NRG_PT_PK_IMP_v p = 0 ∧ m'.fld NRG_PT_PK_EXP_v p = 0 ∧ m'.fld NRG_PT_PK_IMP_T_v p = 0 ∧ m'.fld NRG_PT_PK_EXP_T_v p = 0
      ∧ m'.nrg = s.m.nrg)
  ∧ (∀ (s : State) (t : Nat) (src : Src) (u : Nat), s.m.powered = true → s.m.mayWrite src → u = s.m.fld ACQ_UNIT_SEL_unit →
    Completes (.acqManualTrigger t src) s fun m' => acqUnit m' u = { acqUnit s.m u with manual := true })
  ∧ (∀ (s : State) (t : Nat) (src : Src) (u : Nat), s.m.powered = true → s.m.mayWrite src → u = s.m.fld ACQ_UNIT_SEL_unit →
    Completes (.acqRelease t src) s fun m' => acqUnit m' u = { acqUnit s.m u with release := (acqUnit s.m u).release || decide (s.m.fld ACQ_UNIT_STS_state u = 4) }
      ∧ m'.fld ACQ_UNIT_STS_state u = s.m.fld ACQ_UNIT_STS_state u)
  ∧ (∀ (s : State) (t : Nat) (u : Fin 64), s.m.powered = true → (acqUnit s.m u).exported = none → Completes (.acqExportFrame t u) s fun m' => m' = s.m.advance t)
  ∧ (∀ (s : State) (t : Nat) (u : Fin 64) (ofs : Nat), s.m.powered = true → (acqUnit s.m u).exported = some ofs → exportHeld s.m = true →
    Completes (.acqExportFrame t u) s fun m' => acqUnit m' u = { acqUnit s.m u with heldMark := true } ∧ m'.ports = s.m.ports ∧ ((acqUnit s.m u).heldMark = false → m'.evt 0x0D 6 = true))
  ∧ (∀ (s : State) (t : Nat) (u : Fin 64) (ofs : Nat), s.m.powered = true → (acqUnit s.m u).exported = some ofs → exportHeld s.m = false →
    exportReady (s.m.advance t) = true →
    Completes (.acqExportFrame t u) s fun m' => m'.fld (ACQ_CNT_n.nth 4) = (s.m.fld (ACQ_CNT_n.nth 4) + 1) % 2 ^ 32
      ∧ ∃ fr : Frame, fr.etype = 0x88B5 ∧ fr.dst = macOf s.m ACQ_EXP_DMAC_LO_lo ACQ_EXP_DMAC_HI_hi 0 ∧ fr.src = macOf s.m ACQ_EXP_SMAC_LO_lo ACQ_EXP_SMAC_HI_hi 0
        ∧ acqUnit m' u = { acqUnit s.m u with
            sentTill := (s.m.advance t).now + exportTime s.m fr.len, exported := if (acqObject s.m u).length ≤ ofs + 1440 then none else some (ofs + 1440)
            release := (acqUnit s.m u).release || (decide ((acqObject s.m u).length ≤ ofs + 1440) && s.m.on ACQ_UNIT_CFG_auto u) }
        ∧ fr.body = .data (bytesBE 1 1 ++ bytesBE 1 u ++ bytesBE 2 0 ++ bytesBE 4 ((acqUnit s.m u).record.map (·.number) |>.getD 0) ++ bytesBE 4 ofs
            ++ bytesBE 2 ((decide ((acqObject s.m u).length ≤ ofs + 1440)).toNat * 2 ^ 15 + (((acqObject s.m u).drop ofs).take 1440).length)
            ++ ((acqObject s.m u).drop ofs).take 1440)
        ∧ m'.ports = ((s.m.advance t).inject { fr := fr, port := 23, vid := s.m.cfg ACQ_EXP_TAG_vid, pcp := s.m.cfg ACQ_EXP_TAG_pcp, cls := classOf s.m (s.m.cfg ACQ_EXP_TAG_pcp) }).ports)
  ∧ (∀ (s : State) (t : Nat) (u : Fin 64) (ofs : Nat), s.m.powered = true → (acqUnit s.m u).exported = some ofs → exportHeld s.m = false →
    exportReady (s.m.advance t) = false →
    Completes (.acqExportFrame t u) s fun m' => m' = s.m.advance t)

/-- R321, R325, R327, R330, R331, R332, R336: the modes of the switch core, its commands, its faults, its self test and the ageing of what it learned. -/
def Obligations.SwitchCoreChangesMode : Prop :=
  (∀ (s : State) (t : Nat) (src : Src), s.m.powered = true → s.m.mayWrite src → s.m.fld SWC_STS_mode = 1 →
    Completes (.swcCmdPairing t src) s fun m' => m'.fld SWC_STS_mode = 2 ∧ m'.fld SWC_STS_cause = 5
      ∧ m'.swc = { s.m.swc with changing := some 0, passed := false, permit := false })
  ∧ (∀ (s : State) (t : Nat) (src : Src), s.m.powered = true → s.m.mayWrite src → s.m.fld SWC_STS_mode = 0 →
    Completes (.swcCmdPairing t src) s fun m' => m'.fld SWC_STS_mode = 0 ∧ m'.fld SWC_STS_cause = s.m.fld SWC_STS_cause ∧ m'.swc = s.m.swc)
  ∧ (∀ (s : State) (t : Nat) (src : Src), s.m.powered = true → s.m.mayWrite src → s.m.fld SWC_STS_mode = 1 →
    Completes (.swcCmdSelftest t src) s fun m' => m'.fld SWC_STS_mode = 2 ∧ m'.fld SWC_STS_cause = 1 ∧ m'.fld SWC_STS_test = 1
      ∧ m'.swc = { s.m.swc with changing := some 0, passed := false, permit := false })
  ∧ (∀ (s : State) (t : Nat) (src : Src), s.m.powered = true → s.m.mayWrite src → s.m.fld SWC_STS_mode = 0 →
    Completes (.swcCmdSelftest t src) s fun m' => m'.fld SWC_STS_mode = 0 ∧ m'.fld SWC_STS_test = 1 ∧ m'.swc = { s.m.swc with passed := false })
  ∧ (∀ (s : State) (t : Nat) (src : Src), s.m.powered = true → s.m.mayWrite src → s.m.fld SWC_STS_mode = 0 → s.m.swc.passed = true →
    (∀ f, s.m.swc.faultAt = some f → f + s.m.cfg SWC_CFG_quiet * 1000000 ≤ (s.m.advance t).now) →
    Completes (.swcCmdRanding t src) s fun m' => m'.fld SWC_STS_mode = 2 ∧ m'.swc = { s.m.swc with changing := some 1, permit := true })
  ∧ (∀ (s : State) (t : Nat) (src : Src), s.m.powered = true → s.m.mayWrite src →
    (s.m.fld SWC_STS_mode ≠ 0 ∨ s.m.swc.passed = false ∨ ∃ f, s.m.swc.faultAt = some f ∧ (s.m.advance t).now < f + s.m.cfg SWC_CFG_quiet * 1000000) →
    Completes (.swcCmdRanding t src) s fun m' => m'.fld SWC_STS_mode = s.m.fld SWC_STS_mode ∧ m'.swc = { s.m.swc with permit := true })
  ∧ (∀ (s : State) (t : Nat), s.m.powered = true → s.m.fld SWC_STS_mode = 1 →
    Completes (.resequencingTimeout t) s fun m' => m'.fld (SWC_CNT_n.nth 5) = (s.m.fld (SWC_CNT_n.nth 5) + 1) % 2 ^ 32 ∧ m'.evt 0x10 4 = true
      ∧ m'.fld SWC_STS_mode = 2 ∧ m'.fld SWC_STS_cause = 4
      ∧ m'.swc = { s.m.swc with faultAt := some ((s.m.advance t).now), changing := some 0, passed := false, permit := false })
  ∧ (∀ (s : State) (t : Nat), s.m.powered = true → s.m.fld SWC_STS_mode = 0 →
    Completes (.resequencingTimeout t) s fun m' => m' = s.m.advance t)
  ∧ (∀ (s : State) (t : Nat), s.m.powered = true → s.m.fld SWC_STS_mode = 1 →
    Completes (.cellEccError t) s fun m' => m'.fld (SWC_CNT_n.nth 6) = (s.m.fld (SWC_CNT_n.nth 6) + 1) % 2 ^ 32 ∧ m'.evt 0x10 5 = true
      ∧ m'.fld SWC_STS_mode = 2 ∧ m'.fld SWC_STS_cause = 3
      ∧ m'.swc = { s.m.swc with faultAt := some ((s.m.advance t).now), changing := some 0, passed := false, permit := false })
  ∧ (∀ (s : State) (t : Nat), s.m.powered = true → s.m.fld SWC_STS_mode = 2 → s.m.swc.changing = some 1 →
    s.m.swc.waiting = [] → s.m.swc.fab.empty = true →
    Completes (.cellEccError t) s fun m' => m'.fld (SWC_CNT_n.nth 6) = (s.m.fld (SWC_CNT_n.nth 6) + 1) % 2 ^ 32 ∧ m'.evt 0x10 5 = true
      ∧ m'.fld SWC_STS_mode = 0 ∧ m'.swc = { s.m.swc with
          faultAt := some ((s.m.advance t).now), changing := none, permit := false, waiting := [], fab := { s.m.swc.fab with turn := 0 } })
  ∧ (∀ (s : State) (t : Nat), s.m.powered = true → s.m.fld SWC_STS_mode = 2 → s.m.swc.changing = some 1 →
    Completes (.cellEccError t) s fun m' => ∃ y : Mach, m' = (y.cross s.m.swc.waiting).onSwc (fun c => { c with permit := false })
      ∧ y.fld SWC_STS_mode = 0 ∧ y.ports = s.m.ports ∧ y.evt 0x10 5 = true ∧ y.fld (SWC_CNT_n.nth 6) = (s.m.fld (SWC_CNT_n.nth 6) + 1) % 2 ^ 32
      ∧ y.swc = { s.m.swc with
          faultAt := some ((s.m.advance t).now), changing := none, waiting := [], fab := { s.m.swc.fab with turn := 0 } })
  ∧ (∀ (s : State) (t : Nat), s.m.powered = true → s.m.fld SWC_STS_mode = 0 →
    Completes (.cellEccError t) s fun m' => m'.fld (SWC_CNT_n.nth 6) = (s.m.fld (SWC_CNT_n.nth 6) + 1) % 2 ^ 32 ∧ m'.evt 0x10 5 = true
      ∧ m'.fld SWC_STS_mode = 0 ∧ m'.swc = { s.m.swc with faultAt := some ((s.m.advance t).now) })
  ∧ (∀ (s : State) (t : Nat) (port : Fin 16) (f : TxFrame), s.m.powered = true → (s.m.port port).sending = some f →
    Completes (.cutThroughUnderrun t port) s fun m' => ∃ y : Mach, m' = y.kick port ∧ (y.port port).sending = none
      ∧ y.fld SWC_CNT_n = (s.m.fld SWC_CNT_n + 1) % 2 ^ 32 ∧ y.evt 0x10 2 = true ∧ ∃ fr : Frame, fr.fcs = .stomp ∧ fr.body = f.fr.body ∧ .frame port fr ∈ y.outs)
  ∧ (∀ (s : State) (t : Nat) (port : Fin 16), s.m.powered = true → (s.m.port port).sending = none →
    Completes (.cutThroughUnderrun t port) s fun m' => m' = s.m.advance t)
  ∧ (∀ (s : State) (t : Nat), s.m.powered = true → s.m.fld SWC_STS_test = 1 →
    Completes (.selfTestComplete t false) s fun m' => m'.fld SWC_STS_test = 3 ∧ m'.evt 0x10 6 = true ∧ m'.fld SWC_STS_mode = s.m.fld SWC_STS_mode ∧ m'.swc = s.m.swc)
  ∧ (∀ (s : State) (t : Nat), s.m.powered = true → s.m.fld SWC_STS_test = 1 → s.m.fld SWC_STS_mode = 0 → (s.m.on SWC_CFG_auto = true ∨ s.m.swc.permit = true) →
    s.m.swc.faultAt = none →
    Completes (.selfTestComplete t true) s fun m' => m'.fld SWC_STS_test = 2 ∧ m'.fld SWC_STS_mode = 2 ∧ m'.swc = { s.m.swc with passed := true, changing := some 1 })
  ∧ (∀ (s : State) (t : Nat), s.m.powered = true → s.m.fld SWC_STS_test = 1 → s.m.on SWC_CFG_auto = false → s.m.swc.permit = false →
    Completes (.selfTestComplete t true) s fun m' => m'.fld SWC_STS_test = 2 ∧ m'.fld SWC_STS_mode = s.m.fld SWC_STS_mode ∧ m'.swc = { s.m.swc with passed := true })
  ∧ (∀ (s : State) (t : Nat) (pass : Bool), s.m.powered = true → s.m.fld SWC_STS_test ≠ 1 →
    Completes (.selfTestComplete t pass) s fun m' => m' = s.m.advance t)
  ∧ (∀ (s : State) (t f : Nat), s.m.powered = true → s.m.fld SWC_STS_mode = 0 → s.m.swc.passed = true → (s.m.on SWC_CFG_auto = true ∨ s.m.swc.permit = true) →
    s.m.swc.faultAt = some f → f + s.m.cfg SWC_CFG_quiet * 1000000 ≤ (s.m.advance t).now →
    Completes (.quietPeriodExpiry t) s fun m' => m'.fld SWC_STS_mode = 2 ∧ m'.swc = { s.m.swc with changing := some 1 })
  ∧ (∀ (s : State) (t : Nat), s.m.powered = true → (s.m.fld SWC_STS_mode ≠ 0 ∨ s.m.swc.passed = false ∨ (s.m.on SWC_CFG_auto = false ∧ s.m.swc.permit = false)) →
    Completes (.quietPeriodExpiry t) s fun m' => m' = s.m.advance t)
  ∧ (∀ (s : State) (t : Nat), s.m.powered = true → s.m.swc.changing = some 1 →
    Completes (.modeChangeComplete t) s fun m' =>
      (∃ y : Mach, m' = ((y.cross s.m.swc.waiting).count (SWC_CNT_n.nth 7)).event 0x10 1 ∧ y.fld SWC_STS_mode = 1 ∧ y.ports = s.m.ports
          ∧ y.swc = { s.m.swc with changing := none, waiting := [], fab := { s.m.swc.fab with turn := 0 } })
        ∧ (s.m.swc.waiting = [] → s.m.swc.fab.empty = true →
            m'.fld SWC_STS_mode = 1 ∧ m'.swc = { s.m.swc with changing := none, waiting := [], fab := { s.m.swc.fab with turn := 0 } }
              ∧ m'.fld (SWC_CNT_n.nth 7) = (s.m.fld (SWC_CNT_n.nth 7) + 1) % 2 ^ 32 ∧ m'.evt 0x10 1 = true))
  ∧ (∀ (s : State) (t : Nat), s.m.powered = true → s.m.swc.changing = some 0 →
    Completes (.modeChangeComplete t) s fun m' =>
      (∃ y : Mach, m' = ((y.cross s.m.swc.waiting).count (SWC_CNT_n.nth 7)).event 0x10 0 ∧ y.fld SWC_STS_mode = 0 ∧ y.ports = s.m.ports
          ∧ y.swc = { s.m.swc with changing := none, waiting := [], fab := { s.m.swc.fab with turn := 0 } })
        ∧ (s.m.swc.waiting = [] → s.m.swc.fab.empty = true →
            m'.fld SWC_STS_mode = 0 ∧ m'.swc = { s.m.swc with changing := none, waiting := [], fab := { s.m.swc.fab with turn := 0 } }
              ∧ m'.fld (SWC_CNT_n.nth 7) = (s.m.fld (SWC_CNT_n.nth 7) + 1) % 2 ^ 32 ∧ m'.evt 0x10 0 = true))
  ∧ (∀ (s : State) (t : Nat), s.m.powered = true → s.m.swc.changing = none → Completes (.modeChangeComplete t) s fun m' => m' = s.m.advance t)
  ∧ (∀ (s : State) (t : Nat) (src : Src), s.m.powered = true → s.m.mayWrite src → Completes (.swcMemMaxClear t src) s fun m' => m'.fld SWC_MEM_MAX_max = 0 ∧ m'.swc = s.m.swc)
  ∧ (∀ (s : State) (t : Nat) (e : Fin 16384) (l : Learnt), s.m.powered = true → kget e s.m.swc.learnt = some l → l.hit + s.m.cfg FWD_AGE_age * 1000000000 ≤ (s.m.advance t).now →
    Completes (.fwdEntryAgeOut t e) s fun m' => m'.swc = { s.m.swc with learnt := kdel e s.m.swc.learnt }
      ∧ m'.fld (FWD_CNT_n.nth 2) = (s.m.fld (FWD_CNT_n.nth 2) + 1) % 2 ^ 32 ∧ m'.evt 0x11 1 = true)
  ∧ (∀ (s : State) (t : Nat) (e : Fin 16384), s.m.powered = true → (∀ l, kget e s.m.swc.learnt = some l → (s.m.advance t).now < l.hit + s.m.cfg FWD_AGE_age * 1000000000) →
    Completes (.fwdEntryAgeOut t e) s fun m' => m' = s.m.advance t)

/-- R293, R301, R303, R304, R314: the lock, debounce, hold, pause, EEE and LLDP timers of a port. -/
def Obligations.PortLinksFollowLockAndTimers : Prop :=
  (∀ (s : State) (t : Nat) (p : Fin 16) (lock fault sg : Bool), s.m.powered = true → linkOf s.m p = 0 →
    Completes (.linkLockChange t p lock fault sg) s fun m' => m'.flag (MAC_STS_lock.onPort p) = lock ∧ linkOf m' p = 0 ∧ m'.timers = s.m.timers
      ∧ m'.port p = { s.m.port p with fault := fault, sgmiiOk := sg })
  ∧ (∀ (s : State) (t : Nat) (p : Fin 16), s.m.powered = true → (linkOf s.m p = 1 ∨ linkOf s.m p = 3) → s.m.running (.upDebounce p) = false →
    Completes (.linkLockChange t p true false true) s fun m' => m'.flag (MAC_STS_lock.onPort p) = true ∧ linkOf m' p = linkOf s.m p
      ∧ m'.deadline (.upDebounce p) = some ((s.m.advance t).now + s.m.cfg (MAC_LINK_up_db.onPort p) * 1000000))
  ∧ (∀ (s : State) (t : Nat) (p : Fin 16) (lock fault sg : Bool), s.m.powered = true → (linkOf s.m p = 1 ∨ linkOf s.m p = 3) → (lock = false ∨ fault = true) →
    Completes (.linkLockChange t p lock fault sg) s fun m' => m'.flag (MAC_STS_lock.onPort p) = lock ∧ linkOf m' p = linkOf s.m p ∧ m'.deadline (.upDebounce p) = none)
  ∧ (∀ (s : State) (t : Nat) (p : Fin 16) (lock fault sg : Bool), s.m.powered = true → linkOf s.m p = 2 → (lock = false ∨ fault = true) → s.m.running (.downDebounce p) = false →
    Completes (.linkLockChange t p lock fault sg) s fun m' => m'.flag (MAC_STS_lock.onPort p) = lock ∧ linkOf m' p = 2
      ∧ m'.deadline (.downDebounce p) = some ((s.m.advance t).now + s.m.cfg (MAC_LINK_down_db.onPort p) * 1000))
  ∧ (∀ (s : State) (t : Nat) (p : Fin 16), s.m.powered = true → linkOf s.m p = 2 →
    Completes (.linkLockChange t p true false true) s fun m' => m'.flag (MAC_STS_lock.onPort p) = true ∧ linkOf m' p = 2 ∧ m'.deadline (.downDebounce p) = none)
  ∧ (∀ (s : State) (t : Nat) (p : Fin 16), s.m.fires (.upDebounce p) t →
    Completes (.upDebounceExpiry t p) s fun m' => ∃ y : Mach, m' = (if s.m.on (MAC_EEE_en.onPort p) then y.sendLldp p else y).kick p ∧ linkOf y p = 2
      ∧ y.fld (MAC_STS_speed.onPort p) = s.m.cfg (MAC_CTRL_speed.onPort p) ∧ y.evt (macPage p) 1 = true ∧ y.deadline (.linkHold p) = none ∧ y.ports = s.m.ports)
  ∧ (∀ (s : State) (t : Nat) (p : Fin 16), s.m.fires (.downDebounce p) t → s.m.cfg (MAC_HOLD_hold.onPort p) ≠ 0 →
    Completes (.downDebounceExpiry t p) s fun m' => linkOf m' p = 3 ∧ m'.deadline (.linkHold p) = some ((s.m.advance t).now + s.m.cfg (MAC_HOLD_hold.onPort p) * 1000000)
      ∧ m'.fld (macCnt p 13) = (s.m.fld (macCnt p 13) + 1) % 2 ^ 32 ∧ m'.evt (macPage p) 0 = true ∧ (m'.port p).sending = none ∧ (m'.port p).queue = (s.m.port p).queue
      ∧ ((s.m.port p).sending.isSome = true → m'.fld (macCnt p 14) = (s.m.fld (macCnt p 14) + 1) % 2 ^ 32))
  ∧ (∀ (s : State) (t : Nat) (p : Fin 16), s.m.fires (.downDebounce p) t → s.m.cfg (MAC_HOLD_hold.onPort p) = 0 →
    Completes (.downDebounceExpiry t p) s fun m' => linkOf m' p = 1 ∧ m'.fld (macCnt p 13) = (s.m.fld (macCnt p 13) + 1) % 2 ^ 32
      ∧ m'.fld (macCnt p 16) = (s.m.fld (macCnt p 16) + (s.m.port p).queue.length) % 2 ^ 32 ∧ m'.evt (macPage p) 0 = true ∧ m'.evt (macPage p) 2 = true
      ∧ (m'.port p).sending = none ∧ (m'.port p).queue = [])
  ∧ (∀ (s : State) (t : Nat) (p : Fin 16), s.m.fires (.linkHold p) t → (s.m.advance t).due (.upDebounce p) = false →
    Completes (.linkHoldExpiry t p) s fun m' => linkOf m' p = 1 ∧ (m'.port p).queue = [] ∧ m'.evt (macPage p) 2 = true
      ∧ m'.fld (macCnt p 16) = (s.m.fld (macCnt p 16) + (s.m.port p).queue.length) % 2 ^ 32)
  ∧ (∀ (s : State) (t : Nat) (p : Fin 16), s.m.fires (.linkHold p) t → (s.m.advance t).due (.upDebounce p) = true →
    Completes (.linkHoldExpiry t p) s fun m' => ∃ y : Mach, m' = (if s.m.on (MAC_EEE_en.onPort p) then y.sendLldp p else y).kick p ∧ linkOf y p = 2
      ∧ y.fld (MAC_STS_speed.onPort p) = s.m.cfg (MAC_CTRL_speed.onPort p) ∧ y.evt (macPage p) 1 = true ∧ y.ports = s.m.ports)
  ∧ (∀ (s : State) (t : Nat) (p : Fin 16), s.m.fires (.pause p) t →
    Completes (.pauseExpiry t p) s fun m' => ∃ y : Mach, m' = y.kick p ∧ y.flag (MAC_STS_paused.onPort p) = false ∧ y.port p = { s.m.port p with pauseUntil := none, pauseNext := none })
  ∧ (∀ (s : State) (t : Nat) (p : Fin 16), s.m.fires (.eeeIdle p) t →
    Completes (.eeeIdleExpiry t p) s fun m' => m'.flag (MAC_EEE_STS_lpi.onPort p) = true ∧ m'.fld (macCnt p 12) = (s.m.fld (macCnt p 12) + 1) % 2 ^ 32 ∧ m'.ports = s.m.ports)
  ∧ (∀ (s : State) (t : Nat) (p : Fin 16), s.m.fires (.eeeWake p) t →
    Completes (.eeeWakeComplete t p) s fun m' => ∃ y : Mach, m' = y.kick p ∧ y.flag (MAC_EEE_STS_lpi.onPort p) = false ∧ y.port p = { s.m.port p with waking := false })
  ∧ (∀ (s : State) (t : Nat) (p : Fin 16), s.m.fires (.eeeTlv p) t → s.m.fld (MAC_EEE_STS_tw_res.onPort p) = s.m.cfg (MAC_EEE_tw_def.onPort p) →
    Completes (.eeeTlvTtlExpiry t p) s fun m' => m'.flag (MAC_EEE_STS_tlv_rx.onPort p) = false ∧ m'.fld (MAC_EEE_STS_tw_res.onPort p) = s.m.cfg (MAC_EEE_tw_def.onPort p)
      ∧ m'.port p = { s.m.port p with tw := none } ∧ m'.outs = s.m.outs)
  ∧ (∀ (s : State) (t : Nat) (p : Fin 16), s.m.fires (.eeeTlv p) t → s.m.fld (MAC_EEE_STS_tw_res.onPort p) ≠ s.m.cfg (MAC_EEE_tw_def.onPort p) →
    Completes (.eeeTlvTtlExpiry t p) s fun m' => ∃ y : Mach, m' = y.sendLldp p ∧ y.flag (MAC_EEE_STS_tlv_rx.onPort p) = false
      ∧ y.fld (MAC_EEE_STS_tw_res.onPort p) = s.m.cfg (MAC_EEE_tw_def.onPort p) ∧ y.evt (macPage p) 12 = true ∧ y.port p = { s.m.port p with tw := none })
  ∧ (∀ (s : State) (t : Nat) (p : Fin 16), s.m.fires (.lldp p) t → linkOf s.m p < 2 →
    Completes (.lldpInterval t p) s fun m' => m'.fld (macCnt p 17) = (s.m.fld (macCnt p 17) + 1) % 2 ^ 32 ∧ m'.ports = s.m.ports
      ∧ m'.deadline (.lldp p) = some ((s.m.advance t).now + 30000000000))
  ∧ (∀ (s : State) (t : Nat) (p : Fin 16), s.m.fires (.lldp p) t → 2 ≤ linkOf s.m p → s.m.on (MAC_MSEC_en.onPort p) = false →
    Completes (.lldpInterval t p) s fun m' => m'.deadline (.lldp p) = some ((s.m.advance t).now + 30000000000)
      ∧ ∃ (y : Mach) (f : TxFrame), m' = (y.kick p).arm (.lldp p) ((s.m.advance t).now + 30000000000) ∧ y.port p = { s.m.port p with queue := (s.m.port p).queue ++ [f] }
        ∧ f.fr.dst = 0x0180C200000E ∧ f.fr.src = portAddr s.m p ∧ f.fr.tag = .untagged ∧ f.fr.etype = 0x88CC
        ∧ f.fr.body = .lldp (some (BitVec.ofNat 16 (s.m.cfg (MAC_EEE_tw_def.onPort p)))) 120)

/-- R295, R297, R298, R300, R301, R305, R310, R313, R337: frames that a port receives, holds, sends and forgets, and the supervision frames of a redundant pair. -/
def Obligations.PortFramesAreHandled : Prop :=
  (∀ (s : State) (t : Nat) (p : Fin 16) (fr : Frame), s.m.powered = true → linkOf s.m p ≠ 2 → Completes (.macFrameRx t p fr) s fun m' => m' = s.m.advance t)
  ∧ (∀ (s : State) (t : Nat) (p : Fin 16) (fr : Frame), s.m.powered = true → linkOf s.m p = 2 → rxRoom s.m (12 + p) (beatsOf fr.len) = true → (fr.len < 64 ∨ 1560 < fr.len ∨ fr.codeErr = true) → fr.etype = 0x8808 →
    Completes (.macFrameRx t p fr) s fun m' => m'.fld (macCnt p 4) = (s.m.fld (macCnt p 4) + 1) % 2 ^ 32 ∧ m'.ports = s.m.ports ∧ m'.outs = s.m.outs)
  ∧ (∀ (s : State) (t : Nat) (p : Fin 16) (fr : Frame), s.m.powered = true → linkOf s.m p = 2 → rxRoom s.m (12 + p) (beatsOf fr.len) = true → 64 ≤ fr.len → fr.len ≤ 1560 → fr.codeErr = false → fr.etype = 0x8808 → fr.fcs ≠ .good →
    Completes (.macFrameRx t p fr) s fun m' => m'.evt (macPage p) 4 = true ∧ m'.ports = s.m.ports
      ∧ (fr.fcs = .bad → m'.fld (macCnt p 2) = (s.m.fld (macCnt p 2) + 1) % 2 ^ 32) ∧ (fr.fcs = .stomp → m'.fld (macCnt p 3) = (s.m.fld (macCnt p 3) + 1) % 2 ^ 32))
  ∧ (∀ (s : State) (t : Nat) (p : Fin 16) (fr : Frame) (q : BitVec 16), s.m.powered = true → linkOf s.m p = 2 → rxRoom s.m (12 + p) (beatsOf fr.len) = true → fr.len = 64 → fr.codeErr = false → fr.fcs = .good → fr.etype = 0x8808 →
    fr.tag = .untagged → (fr.dst = 0x0180C2000001 ∨ fr.dst = portAddr s.m p) → fr.body = .pause 1 q → s.m.on (MAC_PAUSE_honour.onPort p) = false →
    Completes (.macFrameRx t p fr) s fun m' => m'.fld (macCnt p 9) = (s.m.fld (macCnt p 9) + 1) % 2 ^ 32 ∧ m'.evt (macPage p) 8 = true ∧ m'.ports = s.m.ports)
  ∧ (∀ (s : State) (t : Nat) (p : Fin 16) (fr : Frame) (q : BitVec 16), s.m.powered = true → linkOf s.m p = 2 → rxRoom s.m (12 + p) (beatsOf fr.len) = true → fr.len = 64 → fr.codeErr = false → fr.fcs = .good → fr.etype = 0x8808 →
    fr.tag = .untagged → (fr.dst = 0x0180C2000001 ∨ fr.dst = portAddr s.m p) → fr.body = .pause 1 q → s.m.on (MAC_PAUSE_honour.onPort p) = true → q ≠ 0 →
    Completes (.macFrameRx t p fr) s fun m' => m'.fld (macCnt p 8) = (s.m.fld (macCnt p 8) + 1) % 2 ^ 32 ∧ m'.evt (macPage p) 7 = true
      ∧ ((s.m.port p).sending = none → m'.flag (MAC_STS_paused.onPort p) = true ∧ m'.port p = { s.m.port p with pauseUntil := some ((s.m.advance t).now + pauseNs s.m p q.toNat), pauseNext := none })
      ∧ ((s.m.port p).sending.isSome = true → m'.port p = { s.m.port p with pauseNext := some (pauseNs s.m p q.toNat) }))
  ∧ (∀ (s : State) (t : Nat) (p : Fin 16) (fr : Frame) (b : List Byte), s.m.powered = true → linkOf s.m p = 2 → rxRoom s.m (12 + p) (beatsOf fr.len) = true → 64 ≤ fr.len → fr.len ≤ 1560 → fr.codeErr = false → fr.fcs = .good →
    fr.etype ≠ 0x8808 → fr.etype ≠ 0x88F7 → linkLocal fr.dst = true → fr.body = .data b →
    Completes (.macFrameRx t p fr) s fun m' => m'.fld (macCnt p 11) = (s.m.fld (macCnt p 11) + 1) % 2 ^ 32 ∧ m'.ports = s.m.ports ∧ m'.outs = s.m.outs)
  ∧ (∀ (s : State) (t : Nat) (p : Fin 16) (fr : Frame), s.m.powered = true → linkOf s.m p = 2 → rxRoom s.m (12 + p) (beatsOf fr.len) = true → 64 ≤ fr.len → fr.len ≤ 1560 → fr.codeErr = false → fr.fcs = .good →
    fr.etype ≠ 0x8808 → linkLocal fr.dst = false → s.m.on (MAC_MSEC_en.onPort p) = false → filterPasses s.m p fr.dst = false →
    Completes (.macFrameRx t p fr) s fun m' => m'.fld (macCnt p 5) = (s.m.fld (macCnt p 5) + 1) % 2 ^ 32 ∧ m'.ports = s.m.ports ∧ m'.outs = s.m.outs)
  ∧ (∀ (s : State) (t : Nat) (p : Fin 16) (fr : Frame), s.m.powered = true → linkOf s.m p = 2 → rxRoom s.m (12 + p) (beatsOf fr.len) = true → 64 ≤ fr.len → fr.len ≤ 1560 → fr.codeErr = false → fr.fcs = .good →
    fr.etype ≠ 0x8808 → linkLocal fr.dst = false → s.m.on (MAC_MSEC_en.onPort p) = false → filterPasses s.m p fr.dst = true →
    (classify s.m p fr.tag = none ∨ accepts s.m p fr.tag = false) →
    Completes (.macFrameRx t p fr) s fun m' => m'.fld (macCnt p 6) = (s.m.fld (macCnt p 6) + 1) % 2 ^ 32 ∧ m'.ports = s.m.ports ∧ m'.outs = s.m.outs)
  ∧ (∀ (s : State) (t : Nat) (p : Fin 16) (fr : Frame) (vid pcp : Nat), s.m.powered = true → linkOf s.m p = 2 → rxRoom s.m (12 + p) (beatsOf fr.len) = true → 64 ≤ fr.len → fr.len ≤ 1560 → fr.codeErr = false → fr.fcs = .good →
    fr.etype ≠ 0x8808 → linkLocal fr.dst = false → s.m.on (MAC_MSEC_en.onPort p) = false → filterPasses s.m p fr.dst = true →
    classify s.m p fr.tag = some (vid, pcp) → accepts s.m p fr.tag = true → redMode s.m (p / 2) = 0 →
    Completes (.macFrameRx t p fr) s fun m' => ∃ y : Mach, m' = y.inject (ingressOf s.m p fr vid pcp)
      ∧ y.fld (macCnt p 0) = (s.m.fld (macCnt p 0) + 1) % 2 ^ 32 ∧ y.ports = s.m.ports ∧ y.swc = s.m.swc ∧ y.force = s.m.force ∧ y.outs = s.m.outs)
  ∧ (∀ (s : State) (t : Nat) (p : Fin 16) (fr : Frame), s.m.powered = true → linkOf s.m p = 2 → rxRoom s.m (12 + p) (beatsOf fr.len) = false →
    Completes (.macFrameRx t p fr) s fun m' => m'.fld (macCnt p 7) = (s.m.fld (macCnt p 7) + 1) % 2 ^ 32 ∧ m'.evt (macPage p) 5 = true ∧ m'.evt 0x37 2 = true
      ∧ m'.ports = s.m.ports ∧ m'.cdc = s.m.cdc ∧ m'.swc = s.m.swc)
  ∧ (∀ (s : State) (t : Nat) (p : Fin 16) (c : Fin 8), s.m.powered = true → (∀ f ∈ (s.m.port p).queue, f.cls = c → expired (s.m.advance t) p f = false) →
    Completes (.frameLifetimeExpiry t p c) s fun m' => m' = s.m.advance t)
  ∧ (∀ (s : State) (t : Nat) (p : Fin 16) (c : Fin 8) (f : TxFrame), s.m.powered = true → f ∈ (s.m.port p).queue → f.cls = c → expired (s.m.advance t) p f = true →
    Completes (.frameLifetimeExpiry t p c) s fun m' => ∃ y : Mach, m' = y.kick p ∧ y.evt (macPage p) 3 = true
      ∧ (y.port p).queue = (s.m.port p).queue.filter (fun f => !(f.cls == c.val && expired (s.m.advance t) p f))
      ∧ y.fld (macCnt p 15) = (s.m.fld (macCnt p 15) + ((s.m.port p).queue.filter fun f => f.cls == c.val && expired (s.m.advance t) p f).length) % 2 ^ 32)
  ∧ (∀ (s : State) (t : Nat) (p : Fin 16), s.m.powered = true → (s.m.port p).sending = none → Completes (.txFrameComplete t p) s fun m' => m' = s.m.advance t)
  ∧ (∀ (s : State) (t : Nat) (p : Fin 16) (f : TxFrame), s.m.powered = true → (s.m.port p).sending = some f →
    Completes (.txFrameComplete t p) s fun m' => ∃ (y : Mach) (fr : Frame), m' = y.kick p ∧ (y.port p).sending = none ∧ (y.port p).queue = (s.m.port p).queue
      ∧ y.outs = .frame p fr :: s.m.outs ∧ fr.body = f.fr.body ∧ fr.dst = f.fr.dst ∧ fr.fcs = f.fr.fcs ∧ fr.tag = egressTag s.m p f
      ∧ y.fld (macCnt p 1) = (s.m.fld (macCnt p 1) + 1) % 2 ^ 32 ∧ (∀ d, (s.m.port p).pauseNext = some d → (y.port p).pauseUntil = some ((s.m.advance t).now + d)))
  ∧ (∀ (s : State) (t : Nat) (k : Fin 8) (a : Mac) (q : BitVec 16), s.m.powered = true →
    Completes (.duplicateEntryForget t k a q) s fun m' => ∀ d, d ∈ (m'.pair k).dups ↔ d ∈ (s.m.pair k).dups
      ∧ ¬ (d.mac = a ∧ d.seq = q.toNat ∧ s.m.cfg (MAC_RED_forget.onPort (2 * k)) * 1000000 ≤ (s.m.advance t).now - d.since))
  ∧ (∀ (s : State) (t : Nat) (k : Fin 8), s.m.fires (.supRed k) t → redMode s.m k ≠ 0 → s.m.on TWN_CFG_en = false →
    Completes (.redSupervisionInterval t k) s fun m' => m'.deadline (.supRed k) = some ((s.m.advance t).now + s.m.cfg (MAC_RED_sup_int.onPort (2 * k)) * 1000000)
      ∧ ∃ (y : Mach) (f : TxFrame), f.fr.dst = 0x01154E000100 ∧ f.fr.src = macOf s.m PUB_TWIN_MAC_LO_lo PUB_TWIN_MAC_HI_hi 0 ∧ f.fr.body = .supervision
        ∧ y.ports = s.m.ports ∧ m'.ports = (y.toPort (2 * k) f none).ports)
  ∧ (∀ (s : State) (t : Nat) (k : Fin 8), s.m.fires (.supRed k) t → redMode s.m k = 0 →
    Completes (.redSupervisionInterval t k) s fun m' => m'.ports = s.m.ports ∧ m'.regs = s.m.regs)

/-- R226, R228, R230, R231, R232, R233, R250: the lanes of Plait: lock, replay, supervision, HELLO and KEEP. -/
def Obligations.PlaitLanesRun : Prop :=
  (∀ (s : State) (t : Nat) (l : Fin 2), s.m.powered = true → bit (s.m.cfg PLT_CTRL_lane_en) l = true → laneState s.m l ≠ 1 → laneState s.m l ≠ 2 →
    (laneOf s.m l).unacked.length < 256 →
    Completes (.plaitLaneLockChange t l true) s fun m' => laneState m' l = 1 ∧ (laneOf m' l).lock = true ∧ m'.deadline (.laneLock l) = some ((s.m.advance t).now + 10000000)
      ∧ (mayPlait s.m = true → ∃ h, m'.outs
          = .plait (plaitHdr s.m l (laneOf s.m l).txSeq s.m.twn.linkTx ((laneOf s.m l).txPn + 1) (.hello h)) (.hello h) :: s.m.outs))
  ∧ (∀ (s : State) (t : Nat) (l : Fin 2), s.m.powered = true → (bit (s.m.cfg PLT_CTRL_lane_en) l = false ∨ laneState s.m l = 1 ∨ laneState s.m l = 2) →
    Completes (.plaitLaneLockChange t l true) s fun m' => m' = (s.m.advance t).onLane l fun b => { b with lock := true })
  ∧ (∀ (s : State) (t : Nat) (l : Fin 2), s.m.powered = true →
    Completes (.plaitLaneLockChange t l false) s fun m' => laneState m' l = 0 ∧ m'.deadline (.laneLock l) = none
      ∧ laneOf m' l = { laneOf s.m l with lock := false, held := false, txHello := false, rxHello := false, txSeq := 0, rxSeq := 0, unacked := [] })
  ∧ (∀ (s : State) (t : Nat) (l : Fin 2), s.m.fires (.laneLock l) t → laneState s.m l = 1 → (laneOf s.m l).txHello = true → (laneOf s.m l).rxHello = true →
    (laneOf s.m l).unacked.length < 256 →
    Completes (.plaitLaneLockHoldExpiry t l) s fun m' => laneState m' l = 2 ∧ m'.evt 0x30 3 = true ∧ (laneOf m' l).held = true
      ∧ (mayPlait s.m = true → ∃ h,
          .plait (plaitHdr s.m l (laneOf s.m l).txSeq s.m.twn.linkTx ((laneOf s.m l).txPn + 1) (.hello h)) (.hello h) ∈ m'.outs))
  ∧ (∀ (s : State) (t : Nat) (l : Fin 2), s.m.fires (.laneLock l) t → (laneState s.m l ≠ 1 ∨ (laneOf s.m l).txHello = false ∨ (laneOf s.m l).rxHello = false) →
    Completes (.plaitLaneLockHoldExpiry t l) s fun m' => m'.regs = s.m.regs ∧ m'.outs = s.m.outs ∧ laneOf m' l = { laneOf s.m l with held := true })
  ∧ (∀ (s : State) (t : Nat) (l : Fin 2), s.m.fires (.replay l) t → (laneOf s.m l).unacked = [] →
    Completes (.plaitReplayExpiry t l) s fun m' => m'.regs = s.m.regs ∧ m'.twn = s.m.twn ∧ m'.outs = s.m.outs)
  ∧ (∀ (s : State) (t : Nat) (l : Fin 2) (u : Unacked) (r : List Unacked), s.m.fires (.replay l) t → (laneOf s.m l).unacked = u :: r → s.m.cfg PLT_REPLAY_attempts ≤ u.tries →
    Completes (.plaitReplayExpiry t l) s fun m' => laneState m' l = 3 ∧ m'.fld (PLT_CNT_n.nth 3) = (s.m.fld (PLT_CNT_n.nth 3) + 1) % 2 ^ 32 ∧ m'.evt 0x30 2 = true
      ∧ laneOf m' l = { laneOf s.m l with held := false, txHello := false, rxHello := false, txSeq := 0, rxSeq := 0, unacked := [] })
  ∧ (∀ (s : State) (t : Nat) (l : Fin 2) (u : Unacked) (r : List Unacked), s.m.fires (.replay l) t → (laneOf s.m l).unacked = u :: r → u.tries < s.m.cfg PLT_REPLAY_attempts →
    Completes (.plaitReplayExpiry t l) s fun m' => laneState m' l = laneState s.m l ∧ m'.fld (PLT_CNT_n.nth 2) = (s.m.fld (PLT_CNT_n.nth 2) + 1) % 2 ^ 32 ∧ m'.evt 0x30 5 = true
      ∧ laneOf m' l = { laneOf s.m l with
          unacked := (u :: r).map (fun u => { u with tries := u.tries + 1, sentAt := (s.m.advance t).now }), txPn := (laneOf s.m l).txPn + (u :: r).length }
      ∧ (∀ x ∈ (u :: r).zipIdx, .plait (plaitHdr s.m l x.1.seq x.1.link ((laneOf s.m l).txPn + x.2 + 1) x.1.msg) x.1.msg ∈ m'.outs)
      ∧ m'.deadline (.replay l) = some ((s.m.advance t).now + s.m.cfg PLT_REPLAY_interval * 1000) ∧ m'.deadline (.keepIdle l) = some ((s.m.advance t).now + 50000))
  ∧ (∀ (s : State) (t : Nat), s.m.fires .supervision t →
    Completes (.plaitSupervisionExpiry t) s fun m' => plaitUp m' = false ∧ m'.fld (PLT_CNT_n.nth 4) = (s.m.fld (PLT_CNT_n.nth 4) + 1) % 2 ^ 32 ∧ m'.evt 0x30 0 = true
      ∧ (twnState s.m = 2 → twnState m' = 2 ∧ m'.fld TWN_LOSS_TICK_LO_w = s.m.twn.lastTick % 2 ^ 32 ∧ m'.fld TWN_LOSS_TICK_HI_w = s.m.twn.lastTick / 2 ^ 32 % 2 ^ 32)
      ∧ (twnState s.m = 4 → s.m.twn.evidence = false → s.m.entersTwn m' 5
          ∧ m'.fld TWN_LOSS_TICK_LO_w = s.m.twn.lastTick % 2 ^ 32 ∧ m'.fld TWN_LOSS_TICK_HI_w = s.m.twn.lastTick / 2 ^ 32 % 2 ^ 32)
      ∧ (twnState s.m = 3 → s.m.twn.evidence = false → (s.m.twn.wantLead = true → s.m.flag TWN_STS_unit_clash = true) → twnState m' = 3 ∧ m'.deadline .witnessDelay = some ((s.m.advance t).now + s.m.cfg TWN_WIT_timeout * 1000))
      ∧ (twnState s.m = 3 → s.m.twn.evidence = true → s.m.entersTwn m' 6))
  ∧ (∀ (s : State) (t : Nat), s.m.fires .helloTx t → mayPlait s.m = false →
    Completes (.helloInterval t) s fun m' => m'.deadline .helloTx = some ((s.m.advance t).now + 10000000) ∧ m'.twn = s.m.twn ∧ m'.outs = s.m.outs)
  ∧ (∀ (s : State) (t : Nat), s.m.fires .helloTx t → mayPlait s.m = true →
    Completes (.helloInterval t) s fun m' => m'.deadline .helloTx = some ((s.m.advance t).now + 10000000)
      ∧ (∀ l : Fin 2, laneState s.m l = 1 → (laneOf s.m l).unacked.length < 256 →
          ∃ k h, k.lane = l ∧ k.laneSeq = BitVec.ofNat 16 (laneOf s.m l).txSeq ∧ .plait k (.hello h) ∈ m'.outs)
      ∧ (s.m.twn.sendQ = [] → s.m.twn.resendQ = [] → ∀ l, pickLane s.m = some l →
          ∃ h, .plait (plaitHdr s.m l (laneOf s.m l).txSeq s.m.twn.linkTx ((laneOf s.m l).txPn + 1) (.hello h)) (.hello h) ∈ m'.outs))
  ∧ (∀ (s : State) (t : Nat) (l : Fin 2), s.m.fires (.keepIdle l) t → mayPlait s.m = true → (laneState s.m l = 1 ∨ laneState s.m l = 2) →
    (laneOf s.m l).unacked.length < 256 →
    Completes (.keepIdleExpiry t l) s fun m' =>
      m'.outs = .plait (plaitHdr s.m l (laneOf s.m l).txSeq s.m.twn.linkTx ((laneOf s.m l).txPn + 1) .keep) .keep :: s.m.outs
      ∧ m'.deadline (.keepIdle l) = some ((s.m.advance t).now + 50000)
      ∧ laneOf m' l = { laneOf s.m l with
          txSeq := ((laneOf s.m l).txSeq + 1) % 2 ^ 16, txPn := (laneOf s.m l).txPn + 1
          unacked := (laneOf s.m l).unacked ++ [{ seq := (laneOf s.m l).txSeq, link := s.m.twn.linkTx, tries := 1, sentAt := (s.m.advance t).now, msg := .keep }] }
      ∧ m'.twn.linkTx = (s.m.twn.linkTx + 1) % 2 ^ 32)
  ∧ (∀ (s : State) (t : Nat) (l : Fin 2), s.m.fires (.keepIdle l) t →
    (mayPlait s.m = false ∨ (laneState s.m l ≠ 1 ∧ laneState s.m l ≠ 2) ∨ 256 ≤ (laneOf s.m l).unacked.length) →
    Completes (.keepIdleExpiry t l) s fun m' => m'.twn = s.m.twn ∧ m'.outs = s.m.outs ∧ m'.deadline (.keepIdle l) = none)

/-- R226, R242, R245, R246, R248, R249, R250, R253, R254, R255: the timers of the twin, witness frames, its commands and the swap tick. -/
def Obligations.TwinFollowsTimersAndCommands : Prop :=
  (∀ (s : State) (t : Nat), s.m.fires .copySettle t → s.m.twn.copy = none → Completes (.copySettleTimeout t) s fun m' => m'.twn = s.m.twn ∧ m'.regs = s.m.regs)
  ∧ (∀ (s : State) (t : Nat), s.m.fires .copySettle t → s.m.twn.copy.isSome = true →
    Completes (.copySettleTimeout t) s fun m' => m'.fld TWN_COPY_STS_phase = 0
      ∧ (twnState s.m ≠ 3 → m'.twn.copy = none ∧ m'.deadline .copyRetry = some ((s.m.advance t).now + 100000000))
      ∧ (twnState s.m = 3 → m'.twn.copy = some {} ∧ m'.evt 0x31 6 = true ∧ m'.fld (TWN_CNT_n.nth 6) = (s.m.fld (TWN_CNT_n.nth 6) + 1) % 2 ^ 32))
  ∧ (∀ (s : State) (t : Nat), s.m.fires .copyRetry t → twnState s.m = 2 → plaitUp s.m = true → s.m.fld TWN_STS_partner = 3 → s.m.twn.copy = none → slotList s.m ≠ [] →
    Completes (.copyRetryExpiry t) s fun m' => m'.twn.copy = some { nextSlot := (slotList s.m).headD 0 } ∧ m'.fld TWN_COPY_STS_phase = 1
      ∧ m'.fld TWN_COPY_STS_cut = 0 ∧ m'.flag TWN_STS_copy_active = true)
  ∧ (∀ (s : State) (t : Nat), s.m.fires .copyRetry t → (twnState s.m ≠ 2 ∨ plaitUp s.m = false ∨ s.m.fld TWN_STS_partner ≠ 3 ∨ s.m.twn.copy ≠ none) →
    Completes (.copyRetryExpiry t) s fun m' => m'.twn = s.m.twn ∧ m'.regs = s.m.regs)
  ∧ (∀ (s : State) (t : Nat), s.m.fires .witnessTx t → s.m.on TWN_CFG_en = true → twnState s.m ≠ 8 →
    Completes (.witnessInterval t) s fun m' => (∃ y : Mach, m' = y.sendWitness ∧ y.deadline .witnessTx = some ((s.m.advance t).now + 1000000))
      ∧ (s.m.keyFor (s.m.cfg TWN_WIT_KEY_slot) 4 = none → m'.regs = s.m.regs ∧ m'.ports = s.m.ports)
      ∧ ((s.m.keyFor (s.m.cfg TWN_WIT_KEY_slot) 4).isSome = true → m'.fld (TWN_CNT_n.nth 7) = (s.m.fld (TWN_CNT_n.nth 7) + 1) % 2 ^ 32 ∧ m'.twn.witTx = s.m.twn.witTx + 1))
  ∧ (∀ (s : State) (t : Nat), s.m.fires .witnessTx t → (s.m.on TWN_CFG_en = false ∨ twnState s.m = 8) →
    Completes (.witnessInterval t) s fun m' => m'.regs = s.m.regs ∧ m'.ports = s.m.ports ∧ m'.deadline .witnessTx = none)
  ∧ (∀ (s : State) (t : Nat) (p : Fin 16) (fr : Frame) (w : WitnessPdu), s.m.powered = true → fr.body = .witness w → ¬ s.m.witnessFits fr w →
    Completes (.witnessFrameRx t p fr) s fun m' => m'.fld (TWN_CNT_n.nth 9) = (s.m.fld (TWN_CNT_n.nth 9) + 1) % 2 ^ 32 ∧ m'.twn = s.m.twn ∧ twnState m' = twnState s.m)
  ∧ (∀ (s : State) (t : Nat) (p : Fin 16) (fr : Frame) (w : WitnessPdu), s.m.powered = true → fr.body = .witness w → s.m.witnessFits fr w → w.unit = s.m.on TWN_CFG_unit →
    Completes (.witnessFrameRx t p fr) s fun m' => m'.fld (TWN_CNT_n.nth 9) = (s.m.fld (TWN_CNT_n.nth 9) + 1) % 2 ^ 32 ∧ m'.flag TWN_STS_unit_clash = true
      ∧ m'.twn = s.m.twn ∧ twnState m' = twnState s.m)
  ∧ (∀ (s : State) (t : Nat) (p : Fin 16) (fr : Frame) (w : WitnessPdu), s.m.powered = true → fr.body = .witness w → s.m.witnessFits fr w → w.unit ≠ s.m.on TWN_CFG_unit →
    w.boot.toNat * 2 ^ 48 + w.sent.toNat ≤ s.m.twn.witSeq →
    Completes (.witnessFrameRx t p fr) s fun m' => m'.fld (TWN_CNT_n.nth 9) = (s.m.fld (TWN_CNT_n.nth 9) + 1) % 2 ^ 32 ∧ m'.twn = s.m.twn ∧ twnState m' = twnState s.m)
  ∧ (∀ (s : State) (t : Nat) (p : Fin 16) (fr : Frame) (w : WitnessPdu), s.m.powered = true → fr.body = .witness w → s.m.witnessFits fr w → w.unit ≠ s.m.on TWN_CFG_unit →
    s.m.twn.witSeq < w.boot.toNat * 2 ^ 48 + w.sent.toNat → twnState s.m ≠ 2 → twnState s.m ≠ 3 → twnState s.m ≠ 4 →
    Completes (.witnessFrameRx t p fr) s fun m' => m'.fld (TWN_CNT_n.nth 8) = (s.m.fld (TWN_CNT_n.nth 8) + 1) % 2 ^ 32 ∧ m'.flag TWN_STS_partner_seen = true
      ∧ m'.flag TWN_STS_unit_clash = false ∧ m'.fld TWN_STS_partner = w.state
      ∧ (twnState s.m = 5 → s.m.twn.lastTick < w.tick.toNat → w.state.val = 2 → s.m.entersTwn m' 6)
      ∧ (twnState s.m = 5 → w.tick.toNat ≤ s.m.twn.lastTick → w.state.val = 2 → s.m.twn.wantLead = false → twnState m' = 5)
      ∧ ((twnState s.m = 5 ∨ twnState s.m = 6) → w.state.val ≠ 2 → s.m.entersTwn m' 2)
      ∧ (twnState s.m = 6 → w.state.val = 2 → twnState m' = 6)
      ∧ (twnState s.m = 1 → plaitUp s.m = false → w.state.val = 2 → s.m.entersTwn m' 6)
      ∧ (twnState s.m = 1 → (plaitUp s.m = true ∨ w.state.val ≠ 2) → twnState m' = 1 ∧ m'.deadline .search = some ((s.m.advance t).now + s.m.cfg TWN_JOIN_search * 100000000))
      ∧ (twnState s.m ≠ 1 → twnState s.m ≠ 5 → twnState s.m ≠ 6 → s.m.twn.wantLead = false → twnState m' = twnState s.m ∧ m'.twn.witSeq = w.boot.toNat * 2 ^ 48 + w.sent.toNat
          ∧ (s.m.svi.eq = [] → m'.deadline .witnessRx = some ((s.m.advance t).now + s.m.cfg TWN_WIT_timeout * 1000))))
  ∧ (∀ (s : State) (t : Nat), s.m.fires .witnessDelay t → s.m.flag TWN_STS_unit_clash = false → (twnState s.m = 5 ∨ (twnState s.m = 3 ∧ plaitUp s.m = false ∧ s.m.on TWN_CFG_policy = false)) →
    Completes (.witnessTimeout t) s fun m' => s.m.entersTwn m' 2)
  ∧ (∀ (s : State) (t : Nat), s.m.fires .witnessDelay t → twnState s.m = 3 → plaitUp s.m = false → s.m.on TWN_CFG_policy = true →
    Completes (.witnessTimeout t) s fun m' => s.m.entersTwn m' 7 ∧ m'.fld TWN_COPY_STS_phase = 0)
  ∧ (∀ (s : State) (t : Nat), s.m.fires .witnessDelay t → twnState s.m = 3 → plaitUp s.m = true →
    (s.m.twn.wantLead = true → s.m.flag TWN_STS_unit_clash = true) →
    Completes (.witnessTimeout t) s fun m' => twnState m' = 3)
  ∧ (∀ (s : State) (t : Nat), s.m.fires .witnessRx t → (s.m.advance t).due .witnessDelay = false → twnState s.m ≠ 4 → twnState s.m ≠ 6 →
    (s.m.twn.wantLead = true → s.m.flag TWN_STS_unit_clash = true) →
    Completes (.witnessTimeout t) s fun m' => m'.flag TWN_STS_partner_seen = false ∧ twnState m' = twnState s.m ∧ m'.twn = s.m.twn)
  ∧ (∀ (s : State) (t : Nat), s.m.fires .witnessRx t → (s.m.advance t).due .witnessDelay = false → twnState s.m = 6 → s.m.flag TWN_STS_unit_clash = false →
    Completes (.witnessTimeout t) s fun m' => m'.flag TWN_STS_partner_seen = false ∧ s.m.entersTwn m' 2)
  ∧ (∀ (s : State) (t : Nat), s.m.fires .search t → twnState s.m = 1 → s.m.flag TWN_STS_unit_clash = false → Completes (.searchExpiry t) s fun m' => s.m.entersTwn m' 2)
  ∧ (∀ (s : State) (t : Nat), s.m.fires .search t → twnState s.m ≠ 1 →
    Completes (.searchExpiry t) s fun m' => m'.regs = s.m.regs ∧ m'.twn = s.m.twn)
  ∧ (∀ (s : State) (t : Nat), s.m.fires .search t → twnState s.m = 1 → s.m.flag TWN_STS_unit_clash = true →
    Completes (.searchExpiry t) s fun m' => m'.regs = s.m.regs ∧ m'.twn = { s.m.twn with wantLead := true })
  ∧ (∀ (s : State) (t : Nat), s.m.fires .revertHold t → twnState s.m = 2 → s.m.fld TWN_STS_partner = 4 → plaitUp s.m = true → s.m.twn.swapAt = none →
    Completes (.revertHoldExpiry t) s fun m' => m'.twn.swapAt = some (swapTickOf (s.m.advance t)) ∧ m'.regs = s.m.regs)
  ∧ (∀ (s : State) (t : Nat), s.m.fires .revertHold t → (twnState s.m ≠ 2 ∨ s.m.fld TWN_STS_partner ≠ 4 ∨ plaitUp s.m = false ∨ s.m.twn.swapAt ≠ none) →
    Completes (.revertHoldExpiry t) s fun m' => m'.twn = s.m.twn ∧ m'.regs = s.m.regs)
  ∧ (∀ (s : State) (t : Nat) (src : Src), s.m.powered = true → s.m.mayWrite src → twnState s.m = 2 → s.m.fld TWN_STS_partner = 4 → plaitUp s.m = true → s.m.twn.swapAt = none →
    Completes (.twnCmdSwap t src) s fun m' => m'.twn.swapAt = some (swapTickOf (s.m.advance t)) ∧ twnState m' = 2)
  ∧ (∀ (s : State) (t : Nat) (src : Src), s.m.powered = true → s.m.mayWrite src → (twnState s.m ≠ 2 ∨ s.m.fld TWN_STS_partner ≠ 4 ∨ plaitUp s.m = false ∨ s.m.twn.swapAt ≠ none) →
    Completes (.twnCmdSwap t src) s fun m' => m'.twn = s.m.twn ∧ twnState m' = twnState s.m)
  ∧ (∀ (s : State) (t : Nat) (src : Src), s.m.powered = true → s.m.mayWrite src → twnState s.m = 7 → s.m.flag TWN_STS_unit_clash = false →
    Completes (.twnCmdLead t src) s fun m' => s.m.entersTwn m' 2)
  ∧ (∀ (s : State) (t : Nat) (src : Src), s.m.powered = true → s.m.mayWrite src → twnState s.m ≠ 7 →
    Completes (.twnCmdLead t src) s fun m' => m'.twn = s.m.twn ∧ twnState m' = twnState s.m)
  ∧ (∀ (s : State) (t : Nat) (src : Src), s.m.powered = true → s.m.mayWrite src → twnState s.m = 7 → s.m.flag TWN_STS_unit_clash = true →
    Completes (.twnCmdLead t src) s fun m' => m'.twn = { s.m.twn with wantLead := true } ∧ twnState m' = 7)
  ∧ (∀ (s : State) (t : Nat) (src : Src), s.m.powered = true → s.m.mayWrite src → twnState s.m = 8 → twinKeys s.m = true →
    Completes (.twnCmdRejoin t src) s fun m' => s.m.entersTwn m' 1 ∧ m'.deadline .helloTx = some ((s.m.advance t).now + 10000000) ∧ m'.deadline .witnessTx = some ((s.m.advance t).now + 1000000))
  ∧ (∀ (s : State) (t : Nat) (src : Src), s.m.powered = true → s.m.mayWrite src → (twnState s.m ≠ 8 ∨ twinKeys s.m = false) →
    Completes (.twnCmdRejoin t src) s fun m' => m'.twn = s.m.twn ∧ twnState m' = twnState s.m)
  ∧ (∀ (s : State) (t : Nat), s.m.powered = true → (∀ n, s.m.twn.swapAt = some n → latestPair (s.m.advance t) < n) → Completes (.swapTick t) s fun m' => m' = s.m.advance t)
  ∧ (∀ (s : State) (t n : Nat), s.m.powered = true → s.m.twn.swapAt = some n → n ≤ latestPair (s.m.advance t) → twnState s.m = 2 →
    s.m.flag TWN_STS_unit_clash = false →
    Completes (.swapTick t) s fun m' => s.m.entersTwn m' 4 ∧ m'.fld TWN_STS_partner = 2)
  ∧ (∀ (s : State) (t : Nat), s.m.powered = true → s.m.flag TWN_STS_unit_clash = true → Completes (.swapTick t) s fun m' => m' = s.m.advance t)
  ∧ (∀ (s : State) (t n : Nat), s.m.powered = true → s.m.twn.swapAt = some n → n ≤ latestPair (s.m.advance t) → twnState s.m = 4 → s.m.flag TWN_STS_unit_clash = false →
    Completes (.swapTick t) s fun m' => s.m.entersTwn m' 2 ∧ m'.fld TWN_STS_partner = 4)

/-- R225, R226, R230, R234, R241, R253: what a HELLO does, by the state of the twin. -/
def Obligations.HelloMovesTheTwin : Prop :=
  (∀ (s : State) (t : Nat) (h : PlaitHdr) (g : HelloMsg), s.m.powered = true → s.m.plaitPasses h →
    Completes (.hello t h g) s ((s.m.advance t).delivers h (.hello g) fun z => ∃ w : Mach, w.twn.partner = some g ∧ w.fld TWN_STS_partner = g.state
      ∧ w.flag TWN_STS_unit_clash = decide (g.unit = s.m.on TWN_CFG_unit) ∧ twnState w = twnState s.m
      ∧ ((twnState s.m = 0 ∨ twnState s.m = 4 ∨ twnState s.m = 5 ∨ twnState s.m = 8) → z = w)
      ∧ (twnState s.m = 1 → g.state.val ≠ 1 → g.state.val ≠ 2 → z = w.arm .search ((s.m.advance t).now + s.m.cfg TWN_JOIN_search * 100000000))
      ∧ (twnState s.m = 2 → g.state.val ≠ 2 → z = w.offerCopy)
      ∧ (twnState s.m = 3 → (s.m.twn.copy.isSome = true ∨ s.m.twn.committed = true) → z = w.disarm .witnessDelay)
      ∧ (twnState s.m = 3 → s.m.twn.copy = none → s.m.twn.committed = false → z = (w.disarm .witnessDelay).tryJoin true)
      ∧ (twnState s.m = 7 → g.state.val ≠ 2 → z = w)))
  ∧ (∀ (s : State) (t : Nat) (h : PlaitHdr) (g : HelloMsg), s.m.powered = true → s.m.plaitPasses h → twnState s.m = 1 → g.state.val = 1 → g.unit ≠ s.m.on TWN_CFG_unit →
    s.m.on TWN_CFG_unit = s.m.on TWN_CFG_pref →
    Completes (.hello t h g) s ((s.m.advance t).delivers h (.hello g) fun z => s.m.entersTwn z 2))
  ∧ (∀ (s : State) (t : Nat) (h : PlaitHdr) (g : HelloMsg), s.m.powered = true → s.m.plaitPasses h → (twnState s.m = 1 ∨ twnState s.m = 7) → g.state.val = 2 → g.config ≠ configDigest s.m →
    Completes (.hello t h g) s ((s.m.advance t).delivers h (.hello g) fun z => s.m.entersTwn z 6 ∧ z.flag TWN_STS_cfg_mismatch = true))
  ∧ (∀ (s : State) (t : Nat) (h : PlaitHdr) (g : HelloMsg) (n : Nat), s.m.powered = true → s.m.plaitPasses h → (twnState s.m = 1 ∨ twnState s.m = 6 ∨ twnState s.m = 7) → g.state.val = 2 →
    g.config = configDigest s.m → s.m.svi.eq = [] → gridMatch (s.m.advance t) g.nominal = some n →
    Completes (.hello t h g) s ((s.m.advance t).delivers h (.hello g) fun z => s.m.entersTwn z 3 ∧ z.twn.copy = some {} ∧ z.fld TWN_COPY_STS_phase = 1
      ∧ z.fld TWN_TICK_OFS_LO_w = toWidth 64 ((g.tick.toNat : Int) - n) % 2 ^ 32 ∧ z.fld TWN_TICK_OFS_HI_w = toWidth 64 ((g.tick.toNat : Int) - n) / 2 ^ 32 % 2 ^ 32
      ∧ z.dsp.deferred = []))
  ∧ (∀ (s : State) (t : Nat) (h : PlaitHdr) (g : HelloMsg), s.m.powered = true → s.m.plaitPasses h → twnState s.m = 2 → g.state.val = 2 →
    (fld64 s.m TWN_LEAD_SINCE_LO_w TWN_LEAD_SINCE_HI_w < g.leadSince.toNat
      ∨ (g.leadSince.toNat = fld64 s.m TWN_LEAD_SINCE_LO_w TWN_LEAD_SINCE_HI_w ∧ s.m.on TWN_CFG_unit = s.m.on TWN_CFG_pref)) →
    Completes (.hello t h g) s ((s.m.advance t).delivers h (.hello g) fun z => twnState z = 2 ∧ z.evt 0x31 7 = true ∧ z.fld TWN_STS_partner = 2))
  ∧ (∀ (s : State) (t : Nat) (h : PlaitHdr) (g : HelloMsg), s.m.powered = true → s.m.plaitPasses h → twnState s.m = 2 → g.state.val = 2 → g.config ≠ configDigest s.m →
    (g.leadSince.toNat < fld64 s.m TWN_LEAD_SINCE_LO_w TWN_LEAD_SINCE_HI_w
      ∨ (g.leadSince.toNat = fld64 s.m TWN_LEAD_SINCE_LO_w TWN_LEAD_SINCE_HI_w ∧ s.m.on TWN_CFG_unit ≠ s.m.on TWN_CFG_pref)) →
    Completes (.hello t h g) s ((s.m.advance t).delivers h (.hello g) fun z => s.m.entersTwn z 6 ∧ z.flag TWN_STS_cfg_mismatch = true ∧ z.evt 0x31 7 = true))

/-- R140, R214, R229, R230, R234, R235, R237, R238, R242, R244, R245, R254: what the other messages of the link do. -/
def Obligations.PlaitMessagesAct : Prop :=
  (∀ (s : State) (t : Nat) (h : PlaitHdr), s.m.powered = true → s.m.plaitPasses h →
    Completes (.keep t h) s ((s.m.advance t).discards h))
  ∧ (∀ (s : State) (t : Nat) (h : PlaitHdr) (d : DescMsg), s.m.powered = true → s.m.plaitPasses h → twnState s.m = 4 →
    2 * rateHz (s.m.cfg SVI_TICK_rate) * (nominalOf s.m d.tick.toNat - d.nominal).natAbs ≤ 1000000000 →
    Completes (.desc t h d) s ((s.m.advance t).delivers h (.desc d) fun z => z.svi = eqSeen (s.m.advance t) d ∧ twnState z = 4))
  ∧ (∀ (s : State) (t : Nat) (h : PlaitHdr) (d : DescMsg), s.m.powered = true → s.m.plaitPasses h → twnState s.m = 4 →
    1000000000 < 2 * rateHz (s.m.cfg SVI_TICK_rate) * (nominalOf s.m d.tick.toNat - d.nominal).natAbs →
    Completes (.desc t h d) s ((s.m.advance t).delivers h (.desc d) fun z => ∃ w : Mach, z = w.tryJoin true ∧ twnState w = 4 ∧ w.fld (TWN_CNT_n.nth 4) = (s.m.fld (TWN_CNT_n.nth 4) + 1) % 2 ^ 32 ∧ w.evt 0x31 4 = true
      ∧ w.twn.diffs = [] ∧ w.twn.swapAt = none))
  ∧ (∀ (s : State) (t : Nat) (h : PlaitHdr) (d : DescMsg), s.m.powered = true → s.m.plaitPasses h → twnState s.m ≠ 4 → (twnState s.m ≠ 2 ∨ equalising s.m = false) →
    Completes (.desc t h d) s ((s.m.advance t).delivers h (.desc d) fun z => z.svi = eqSeen (s.m.advance t) d ∧ twnState z = twnState s.m))
  ∧ (∀ (s : State) (t : Nat) (h : PlaitHdr) (d : DescMsg), s.m.powered = true → s.m.plaitPasses h → twnState s.m = 2 → equalising s.m = true →
    (∃ e ∈ s.m.svi.eq, e.tk.group = d.group.val ∧ e.tk.pair = d.tick.toNat) →
    Completes (.desc t h d) s ((s.m.advance t).delivers h (.desc d) fun z => ∃ w : Mach, z = (w.combDue d.group false).eqTimers d.group
      ∧ w.svi = { s.m.svi with eq := (eqSeen (s.m.advance t) d).eq.map fun e =>
            if e.tk.group = d.group.val ∧ e.tk.pair = d.tick.toNat ∧ e.comb.isNone = true then { e with desc := some d } else e }))
  ∧ (∀ (s : State) (t : Nat) (h : PlaitHdr) (d : DescMsg) (n : Nat), s.m.powered = true → s.m.plaitPasses h → twnState s.m = 2 → equalising s.m = true →
    ¬ (∃ e ∈ s.m.svi.eq, e.tk.group = d.group.val ∧ e.tk.pair = d.tick.toNat) → nextOpen s.m d.group = some n → pairTick s.m n ≤ d.tick.toNat →
    Completes (.desc t h d) s ((s.m.advance t).delivers h (.desc d) fun z => z.svi = { s.m.svi with early := s.m.svi.early ++ [((s.m.advance t).now, d)] }))
  ∧ (∀ (s : State) (t : Nat) (h : PlaitHdr) (c : CombMsg), s.m.powered = true → s.m.plaitPasses h → twnState s.m ≠ 3 → twnState s.m ≠ 4 →
    Completes (.comb t h c) s ((s.m.advance t).discards h))
  ∧ (∀ (s : State) (t : Nat) (h : PlaitHdr) (c : CombMsg), s.m.powered = true → s.m.plaitPasses h → (twnState s.m = 3 ∨ twnState s.m = 4) →
    (∀ k, nextOpen s.m c.group = some k → ((c.tick.toNat : Int) - tickOfs s.m).toNat < k) → (s.m.svi.eq.find? fun e => e.tk.group == c.group.val && e.tk.pair == c.tick.toNat && !e.done && !e.led) = none →
    Completes (.comb t h c) s ((s.m.advance t).delivers h (.comb c) fun z => ∃ w : Mach, w.svi = s.m.svi ∧ z = w.each c.events fun e m => m.mergedEvent c.tick.toNat e))
  ∧ (∀ (s : State) (t : Nat) (h : PlaitHdr) (c : CombMsg) (e : EqTick), s.m.powered = true → s.m.plaitPasses h → (twnState s.m = 3 ∨ twnState s.m = 4) →
    (∀ k, nextOpen s.m c.group = some k → ((c.tick.toNat : Int) - tickOfs s.m).toNat < k) → (s.m.svi.eq.find? fun e => e.tk.group == c.group.val && e.tk.pair == c.tick.toNat && !e.done && !e.led) = some e →
    Completes (.comb t h c) s ((s.m.advance t).delivers h (.comb c) fun z => ∃ w : Mach, z = ((w.sendSamples e.tk c.follSend).eqAdvance c.group).eqTimers c.group
      ∧ w.svi = { s.m.svi with eq := s.m.svi.eq.map fun x => if x = e then { e with comb := some c } else x }))
  ∧ (∀ (s : State) (t : Nat) (h : PlaitHdr) (g : Fin 64) (tick : BitVec 64) (x : StreamSample), s.m.powered = true → s.m.plaitPasses h →
    Completes (.samp t h g tick x) s ((s.m.advance t).delivers h (.samp g tick.toNat x) fun z => ∃ w : Mach, z = w.eqAdvance g
      ∧ w.svi = { s.m.svi with eq := s.m.svi.eq.map fun e => if e.tk.group = g.val ∧ e.tk.pair = tick.toNat ∧ e.done = false then { e with copied := e.copied ++ [x] } else e }))
  ∧ (∀ (s : State) (t : Nat) (h : PlaitHdr) (g : Fin 64) (tick d : BitVec 64), s.m.powered = true → s.m.plaitPasses h → comparing s.m = false →
    Completes (.tdig t h g tick d) s ((s.m.advance t).discards h))
  ∧ (∀ (s : State) (t : Nat) (h : PlaitHdr) (g : Fin 64) (tick d : BitVec 64), s.m.powered = true → s.m.plaitPasses h → comparing s.m = true →
    (s.m.twn.own.find? fun e => decide (e.1 = g.val) && decide (e.2.1 = tick.toNat)) = none →
    Completes (.tdig t h g tick d) s ((s.m.advance t).delivers h (.tdig g tick.toNat d) fun z => ∃ w : Mach, z = w.tryCommit ∧ w.twn.own = s.m.twn.own ∧ w.twn.theirs = ((g.val, tick.toNat, d) :: s.m.twn.theirs).take 8192))
  ∧ (∀ (s : State) (t : Nat) (h : PlaitHdr) (g : Fin 64) (tick d : BitVec 64) (e : Nat × Nat × BitVec 64), s.m.powered = true → s.m.plaitPasses h → comparing s.m = true →
    (s.m.twn.own.find? fun e => decide (e.1 = g.val) && decide (e.2.1 = tick.toNat)) = some e →
    Completes (.tdig t h g tick d) s ((s.m.advance t).delivers h (.tdig g tick.toNat d) fun z => ∃ w : Mach, z = w.tryCommit ∧ w.twn.own = s.m.twn.own.erase e
      ∧ (e.2.2 = d → w.fld (TWN_CNT_n.nth 2) = s.m.fld (TWN_CNT_n.nth 2) ∧ w.twn.diffs = s.m.twn.diffs ∧ w.twn.copy = s.m.twn.copy.map fun c => { c with matched := c.matched + 1 })
      ∧ (e.2.2 ≠ d → w.fld (TWN_CNT_n.nth 2) = (s.m.fld (TWN_CNT_n.nth 2) + 1) % 2 ^ 32 ∧ w.twn.diffs = (s.m.advance t).now :: s.m.twn.diffs
        ∧ w.twn.copy = s.m.twn.copy.map fun c => { c with matched := 0 })))
  ∧ (∀ (s : State) (t : Nat) (h : PlaitHdr) (k : Fin 4096) (tick d : BitVec 64), s.m.powered = true → s.m.plaitPasses h → comparing s.m = false →
    Completes (.rdig t h k tick d) s ((s.m.advance t).discards h))
  ∧ (∀ (s : State) (t : Nat) (h : PlaitHdr) (k : Fin 4096) (tick d : BitVec 64), s.m.powered = true → s.m.plaitPasses h → comparing s.m = true →
    (∀ x ∈ s.m.twn.ownR, x.1 = k.val → tick.toNat ≤ x.2.1) → s.m.twn.skipR.contains (k.val, tick.toNat) = false →
    (s.m.twn.ownR.find? fun e => decide (e.1 = k.val) && decide (e.2.1 = tick.toNat)) = none →
    Completes (.rdig t h k tick d) s ((s.m.advance t).delivers h (.rdig k tick.toNat d) fun z => z.twn.ownR = s.m.twn.ownR ∧ z.twn.theirR = ((k.val, tick.toNat, d) :: s.m.twn.theirR).take 8192))
  ∧ (∀ (s : State) (t : Nat) (h : PlaitHdr) (k : Fin 4096) (tick d : BitVec 64) (e : Nat × Nat × BitVec 64), s.m.powered = true → s.m.plaitPasses h → comparing s.m = true →
    (∀ x ∈ s.m.twn.ownR, x.1 = k.val → tick.toNat ≤ x.2.1) → s.m.twn.skipR.contains (k.val, tick.toNat) = false →
    (s.m.twn.ownR.find? fun e => decide (e.1 = k.val) && decide (e.2.1 = tick.toNat)) = some e →
    Completes (.rdig t h k tick d) s ((s.m.advance t).delivers h (.rdig k tick.toNat d) fun z => z.twn.ownR = s.m.twn.ownR.erase e
      ∧ (e.2.2 = d → z.fld (TWN_CNT_n.nth 3) = s.m.fld (TWN_CNT_n.nth 3) ∧ z.twn.diffs = s.m.twn.diffs ∧ z.twn.copy = s.m.twn.copy)
      ∧ (e.2.2 ≠ d → z.fld (TWN_CNT_n.nth 3) = (s.m.fld (TWN_CNT_n.nth 3) + 1) % 2 ^ 32 ∧ z.twn.diffs = (s.m.advance t).now :: s.m.twn.diffs
        ∧ z.twn.copy = if isCut s.m k then s.m.twn.copy.map fun c => { c with resDiff := true } else s.m.twn.copy)))
  ∧ (∀ (s : State) (t : Nat) (h : PlaitHdr) (k : Fin 4096) (tick d : BitVec 64), s.m.powered = true → s.m.plaitPasses h → comparing s.m = true →
    (∀ x ∈ s.m.twn.ownR, x.1 = k.val → tick.toNat ≤ x.2.1) → s.m.twn.skipR.contains (k.val, tick.toNat) = true →
    Completes (.rdig t h k tick d) s ((s.m.advance t).delivers h (.rdig k tick.toNat d) fun z => z.twn.ownR = s.m.twn.ownR
      ∧ z.twn.theirR = s.m.twn.theirR ∧ z.twn.diffs = s.m.twn.diffs ∧ z.fld (TWN_CNT_n.nth 3) = s.m.fld (TWN_CNT_n.nth 3)))
  ∧ (∀ (s : State) (t : Nat) (h : PlaitHdr) (k : Fin 4096) (tick d : BitVec 64) (e : Nat × Nat × BitVec 64), s.m.powered = true → s.m.plaitPasses h → comparing s.m = true →
    (twnState s.m = 3 ∨ twnState s.m = 4) → (s.m.twn.ownR.filter fun x => x.1 == k.val) = [e] → e.2.1 < tick.toNat →
    s.m.twn.skipR.contains (k.val, tick.toNat) = false →
    Completes (.rdig t h k tick d) s ((s.m.advance t).delivers h (.rdig k tick.toNat d) fun z =>
      z.fld (TWN_CNT_n.nth 3) = (s.m.fld (TWN_CNT_n.nth 3) + 1) % 2 ^ 32 ∧ z.twn.diffs = (s.m.advance t).now :: s.m.twn.diffs
        ∧ z.twn.ownR = s.m.twn.ownR.filter (fun x => x.1 != k.val)
        ∧ z.twn.theirR = ((k.val, tick.toNat, d) :: s.m.twn.theirR).take 8192))
  ∧ (∀ (s : State) (t : Nat) (h : PlaitHdr) (b : Fin 1024) (n q : Word) (p : BitVec 16) (d : BitVec 64), s.m.powered = true → s.m.plaitPasses h → twnState s.m ≠ 4 → twnState s.m ≠ 5 →
    Completes (.fdig t h b n q p d) s ((s.m.advance t).discards h))
  ∧ (∀ (s : State) (t : Nat) (h : PlaitHdr) (b : Fin 1024) (n q : Word) (p : BitVec 16) (d : BitVec 64) (f : Built), s.m.powered = true → s.m.plaitPasses h → (twnState s.m = 4 ∨ twnState s.m = 5) →
    (s.m.pub.held.find? fun f => f.fits b n.toNat q.toNat p.toNat) = some f →
    Completes (.fdig t h b n q p d) s ((s.m.advance t).delivers h (.fdig b n.toNat q.toNat p.toNat d) fun z => ∃ w : Mach, w.pub = { s.m.pub with held := s.m.pub.held.erase f } ∧ z = if f.digest = d then w.pubSend f else w.cmpDiff))
  ∧ (∀ (s : State) (t : Nat) (h : PlaitHdr) (b : Fin 1024) (n q : Word) (p : BitVec 16) (d : BitVec 64) (f : Built), s.m.powered = true → s.m.plaitPasses h → (twnState s.m = 4 ∨ twnState s.m = 5) →
    (s.m.pub.held.find? fun f => f.fits b n.toNat q.toNat p.toNat) = none → (s.m.pub.sent.find? fun f => f.fits b n.toNat q.toNat p.toNat) = some f →
    Completes (.fdig t h b n q p d) s ((s.m.advance t).delivers h (.fdig b n.toNat q.toNat p.toNat d) fun z => ∃ w : Mach, w.pub = { s.m.pub with sent := s.m.pub.sent.erase f } ∧ z = if f.digest = d then w else w.cmpDiff))
  ∧ (∀ (s : State) (t : Nat) (h : PlaitHdr) (b : Fin 1024) (n q : Word) (p : BitVec 16) (d : BitVec 64), s.m.powered = true → s.m.plaitPasses h → (twnState s.m = 4 ∨ twnState s.m = 5) →
    (s.m.pub.held.find? fun f => f.fits b n.toNat q.toNat p.toNat) = none → (s.m.pub.sent.find? fun f => f.fits b n.toNat q.toNat p.toNat) = none →
    Completes (.fdig t h b n q p d) s ((s.m.advance t).delivers h (.fdig b n.toNat q.toNat p.toNat d) fun z => z.pub = { s.m.pub with lead := ((b.val, n.toNat, q.toNat, p.toNat, d) :: s.m.pub.lead).take 1024 }))
  ∧ (∀ (s : State) (t : Nat) (h : PlaitHdr) (tick : BitVec 64), s.m.powered = true → s.m.plaitPasses h →
    Completes (.swap t h tick) s ((s.m.advance t).delivers h (.swap tick.toNat) fun z => z.twn.swapAt = if twnState s.m = 4 then some tick.toNat else s.m.twn.swapAt))
  ∧ (∀ (s : State) (t : Nat) (h : PlaitHdr) (r : FrecMsg), s.m.powered = true → s.m.plaitPasses h → twnState s.m ≠ 3 →
    Completes (.frec t h r) s ((s.m.advance t).discards h))
  ∧ (∀ (s : State) (t : Nat) (h : PlaitHdr) (r : FrecMsg), s.m.powered = true → s.m.plaitPasses h → twnState s.m = 3 →
    Completes (.frec t h r) s ((s.m.advance t).delivers h (.frec r) fun z => z.fld PUB_GCB_STNUM_n r.block = r.stNum.toNat ∧ z.fld PUB_GCB_SQNUM_n r.block = r.sqNum.toNat
      ∧ z.pub.pairSeq = kput (s.m.cfg PUB_GCB_CTRL_pair r.block) ((r.pairSeq.toNat + 1) % 2 ^ 16) s.m.pub.pairSeq
      ∧ (∀ a : SvApdu, r.fr.body = .sv a → gcbOf z r.block = { gcbOf s.m r.block with asdus := [], last := a.asdus })
      ∧ (∀ a : GooseApdu, r.fr.body = .goose a → (gcbOf z r.block).members = a.members.map (·.value) ∧ (gcbOf z r.block).fresh = false
          ∧ (gcbOf z r.block).nominal = a.utc ∧ (gcbOf z r.block).quality = a.quality.toNat)))
  ∧ (∀ (s : State) (t : Nat) (h : PlaitHdr) (c : CutMsg), s.m.powered = true → s.m.plaitPasses h → (twnState s.m ≠ 3 ∨ s.m.twn.copy = none) →
    Completes (.cut t h c) s ((s.m.advance t).discards h))
  ∧ (∀ (s : State) (t : Nat) (h : PlaitHdr) (c : CutMsg) (b : Copy), s.m.powered = true → s.m.plaitPasses h → twnState s.m = 3 → s.m.twn.copy = some b →
    ((splitBy (fun q : Nat × Block => q.1 == c.slot.val) b.queued).1.filter fun q => decide (c.tick.toNat < q.2.tick)).length ≤ 7 →
    Completes (.cut t h c) s ((s.m.advance t).delivers h (.cut c) fun z => z.twn.copy = some { b with
        cuts := b.cuts ++ [c], released := c.slot.val :: b.released, queued := (splitBy (fun q : Nat × Block => q.1 == c.slot.val) b.queued).2
        latchTick := match c.latchTick with | some x => some x.toNat | none => b.latchTick }
      ∧ z.fld TWN_COPY_STS_phase = (if (slotList s.m).length ≤ b.cuts.length + 1 then 2 else 1) ∧ z.fld TWN_COPY_STS_cut = (b.cuts.length + 1) % 2 ^ 13
      ∧ ∃ w : Mach, w.fld DSP_SLOT_STS_state c.slot = c.state ∧ w.flag DSP_SLOT_STS_primed c.slot = c.primed ∧ w.fld DSP_SLOT_STS_consec c.slot = c.consec.toNat
        ∧ z = w.each ((splitBy (fun q : Nat × Block => q.1 == c.slot.val) b.queued).1.filter fun q => decide (c.tick.toNat < q.2.tick)) fun q m => m.dueSlot c.slot q.2.tick (if q.2.bytes.isEmpty then none else some q.2)))
  ∧ (∀ (s : State) (t : Nat) (h : PlaitHdr) (c : CutMsg) (b : Copy), s.m.powered = true → s.m.plaitPasses h → twnState s.m = 3 → s.m.twn.copy = some b →
    7 < ((splitBy (fun q : Nat × Block => q.1 == c.slot.val) b.queued).1.filter fun q => decide (c.tick.toNat < q.2.tick)).length →
    Completes (.cut t h c) s ((s.m.advance t).delivers h (.cut c) fun z => z.twn.copy = some {} ∧ z.fld TWN_COPY_STS_phase = 0 ∧ z.evt 0x31 6 = true ∧ z.fld (TWN_CNT_n.nth 6) = (s.m.fld (TWN_CNT_n.nth 6) + 1) % 2 ^ 32))
  ∧ (∀ (s : State) (t : Nat) (h : PlaitHdr) (e : CendMsg), s.m.powered = true → s.m.plaitPasses h → twnState s.m ≠ 3 →
    Completes (.cend t h e) s ((s.m.advance t).discards h))
  ∧ (∀ (s : State) (t : Nat) (h : PlaitHdr) (e : CendMsg), s.m.powered = true → s.m.plaitPasses h → twnState s.m = 3 → s.m.twn.copy = none →
    Completes (.cend t h e) s ((s.m.advance t).delivers h (.cend e) fun z => ∃ w : Mach, z = w.plaitSend (.cack false) ∧ w.twn.copy = none ∧ twnState w = 3))
  ∧ (∀ (s : State) (t : Nat) (h : PlaitHdr) (e : CendMsg) (c : Copy), s.m.powered = true → s.m.plaitPasses h → twnState s.m = 3 → s.m.twn.copy = some c →
    (e.count ≠ c.cuts.length ∨ copyDigest c.cuts e.latch ≠ e.digest) →
    Completes (.cend t h e) s ((s.m.advance t).delivers h (.cend e) fun z => z.twn.copy = some {} ∧ z.fld TWN_COPY_STS_phase = 0 ∧ z.evt 0x31 6 = true ∧ z.fld (TWN_CNT_n.nth 6) = (s.m.fld (TWN_CNT_n.nth 6) + 1) % 2 ^ 32))
  ∧ (∀ (s : State) (t : Nat) (h : PlaitHdr) (e : CendMsg) (c : Copy), s.m.powered = true → s.m.plaitPasses h → twnState s.m = 3 → s.m.twn.copy = some c →
    e.count = c.cuts.length → copyDigest c.cuts e.latch = e.digest →
    Completes (.cend t h e) s ((s.m.advance t).delivers h (.cend e) fun z => ∃ w : Mach, z = w.tryCommit ∧ w.twn.copy = some { c with cend := some e } ∧ w.fld TWN_COPY_STS_phase = 3
      ∧ w.deadline .copySettle = some ((s.m.advance t).now + 10000000000)))
  ∧ (∀ (s : State) (t : Nat) (h : PlaitHdr) (ok : Bool), s.m.powered = true → s.m.plaitPasses h → (twnState s.m ≠ 2 ∨ s.m.twn.copy = none) →
    Completes (.cack t h ok) s ((s.m.advance t).discards h))
  ∧ (∀ (s : State) (t : Nat) (h : PlaitHdr) (ok : Bool), s.m.powered = true → s.m.plaitPasses h → twnState s.m = 2 → s.m.twn.copy.isSome = true →
    Completes (.cack t h ok) s ((s.m.advance t).delivers h (.cack ok) fun z => z.twn.copy = none ∧ z.fld TWN_COPY_STS_phase = 0 ∧ (ok = false → z.deadline .copyRetry = some ((s.m.advance t).now + 100000000))))

/-- R41, R179, R187, R245: PAGE_LOCK.unlock, both requests for an admission run, the run's completion and an interruption of the copy class complete. -/
def Obligations.AdmissionCommandsComplete : Prop :=
  (∀ (s : State) (t : Nat) (src : Src) (page : BitVec 8),
    s.m.powered = true → mapped page.toNat = true → src ≠ .debug → rimLocked s.m = false → underAdmission s.m page.toNat = false →
    ∃ m', Sys2Proof.Machine.exec (.pageLockUnlock t src page) s = .next { s with m := m' }
      ∧ m'.flag (hCommitted page.toNat) = false ∧ m'.flag (hStaged page.toNat) = false ∧ m'.force = s.m.force)
  ∧ (∀ (s : State) (t : Nat) (src : Src),
    s.m.powered = true → s.m.mayWrite src → s.m.adm.run = none →
    ∃ m', Sys2Proof.Machine.exec (.admCtrlAdmit t src) s = .next { s with m := m' }
      ∧ m'.fld ADM_STS_state = 1 ∧ ∃ r, m'.adm.run = some r ∧ r.check = false ∧ r.since = (s.m.advance t).now)
  ∧ (∀ (s : State) (t : Nat) (src : Src),
    s.m.powered = true → s.m.mayWrite src → s.m.adm.run = none →
    ∃ m', Sys2Proof.Machine.exec (.admCtrlCheck t src) s = .next { s with m := m' }
      ∧ m'.fld ADM_STS_state = 2 ∧ ∃ r, m'.adm.run = some r ∧ r.check = true ∧ r.since = (s.m.advance t).now)
  ∧ (∀ (s : State) (t : Nat) (src : Src) (r : AdmRun),
    s.m.powered = true → s.m.adm.run = some r → r.by_ = .register src →
    ∃ m', Sys2Proof.Machine.exec (.admissionComplete t) s = .next { s with m := m' }
      ∧ m'.adm.run = none ∧ m'.adm.report = reportOf (s.m.advance t) (s.m.adm.due.getD [] ++ r.pages))
  ∧ (∀ (s : State) (t : Nat),
    s.m.powered = true → plaitUp s.m = true → s.m.twn.copy.isSome = true → twnState s.m = 2 →
    ∃ m', Sys2Proof.Machine.exec (.copyClassInterruption t) s = .next { s with m := m' }
      ∧ m'.twn.copy = none ∧ m'.deadline .copyRetry = some ((s.m.advance t).now + 100000000))

/-- R42, R71, R75, R76, R82, R85, R86, R92, R176: share frames, the manager window, hang watchdogs, pace windows and the commands of crossings complete. -/
def Obligations.PaceAndCrossingCommandsComplete : Prop :=
  (∀ (s : State) (t : Nat) (pages : List Nat),
    s.m.powered = true → (s.m.advance t).now % 1000000 = 0 → s.m.adm.due = some pages →
    ∃ m', Sys2Proof.Machine.exec (.shareFrameBoundary t) s = .next { s with m := m' }
      ∧ m'.adm.due = none ∧ m'.fld RST_STS_phase = 4)
  ∧ (∀ (s : State) (t : Nat),
    s.m.powered = true → s.m.cfg DSP_CFG_mgr_win * 1000 ≤ (s.m.advance t).now % 1000000 →
    ∃ m', Sys2Proof.Machine.exec (.managerWindowEnd t) s = .next { s with m := m' }
      ∧ m'.dsp.mgrOpen = false)
  ∧ (∀ (s : State) (t : Nat) (h : WarpHdr) (r : Nat),
    s.m.powered = true → partTag h = none → stalled (s.m.advance t) false h r = true →
    ∃ m', Sys2Proof.Machine.exec (.hangWatchdogExpiry t (.request h r)) s = .next { s with m := m' }
      ∧ m'.fld PACE_WDOG_CNT_n = (s.m.fld PACE_WDOG_CNT_n + 1) % 2 ^ 32 ∧ m'.evt 0x02 5 = true)
  ∧ (∀ (s : State) (t : Nat) (v : Nat → BitVec 16) (counts : List (Option (BitVec 16))),
    s.m.powered = true → s.m.pace.windowAt + paceLength s.m ≤ (s.m.advance t).now → s.m.rst.boot = none →
    (∀ i < 16, nthD counts i none = some (v i)) →
    ∃ m', Sys2Proof.Machine.exec (.paceWindowEnd t counts) s = .next { s with m := m' }
      ∧ ∀ j < 16, m'.fld (PACE_SENSOR_value.nth j) = (v j).toNat ∧ m'.fld PACE_NOW_pace ≤ (v j).toNat)
  ∧ (∀ (s : State) (t : Nat) (src : Src),
    s.m.powered = true → s.m.mayWrite src →
    ∃ m', Sys2Proof.Machine.exec (.paceClrMinmax t src) s = .next { s with m := m' }
      ∧ m'.fld PACE_MINMAX_min = 0xFFFF ∧ m'.fld PACE_MINMAX_max = 0)
  ∧ (∀ (s : State) (t : Nat) (x : Fin 36),
    s.m.powered = true → (crossing s.m x).event.isSome = true →
    ∃ m', Sys2Proof.Machine.exec (.crossingTransferDone t x .event) s = .next { s with m := m' }
      ∧ (crossing m' x).event = (crossing s.m x).evPend.map (fun w => ((s.m.advance t).now, w.1, w.2)) ∧ m'.fld CDC_XFER_CNT_n x = (s.m.fld CDC_XFER_CNT_n x + 1) % 2 ^ 32)
  ∧ (∀ (s : State) (t : Nat) (x : Fin 36) (code tag : Word),
    s.m.powered = true → hasKind x .event = true → (crossing s.m x).event = none →
    ∃ m', Sys2Proof.Machine.exec (.crossingEventArrival t x code tag) s = .next { s with m := m' }
      ∧ (crossing m' x).event = some ((s.m.advance t).now, code, tag))
  ∧ (∀ (s : State) (t : Nat),
    s.m.powered = true → (crossing s.m 32).count = none →
    ∃ m', Sys2Proof.Machine.exec (.timeTagWrap t) s = .next { s with m := m' }
      ∧ (crossing m' 32).count = some ((s.m.advance t).now, [(s.m.advance t).now / 2 ^ 32 % 2 ^ 16]))

/-- R97, R99, R100, R101, R112–R115: the commands of the time block complete, from the state in which the instant finds the time block (`timeReached`). -/
def Obligations.TimeCommandsComplete : Prop :=
  (∀ (s : State) (t : Nat) (c : Fin 3) (off : Int),
    s.m.powered = true → (s.m.timeReached t).fld TIME_QUAL_source = c + 1 → srcQualified (s.m.timeReached t) (c + 1) = true →
    (s.m.timeReached t).time.discard = true →
    ∃ m', Sys2Proof.Machine.exec (.sourceMeasurement t c off) s = .next { s with m := m' }
      ∧ m'.fld TIME_OFFSET_ns = toWidth 32 (sat31 (measuredOffset (s.m.timeReached t) (c + 1) off)) ∧ m'.time.discard = false)
  ∧ (∀ (s : State) (t : Nat),
    s.m.powered = true → (s.m.timeReached t).due .slewDone = true →
    ∃ m', Sys2Proof.Machine.exec (.slewComplete t) s = .next { s with m := m' }
      ∧ m'.time.slewLeft = 0 ∧ m'.fld TIME_RATE_rate = toWidth 32 (s.m.timeReached t).time.rate)
  ∧ (∀ (s : State) (t : Nat),
    s.m.powered = true → (s.m.timeReached t).due .primaryReturn = true →
    ∃ m', Sys2Proof.Machine.exec (.primaryReturnHoldExpiry t) s = .next { s with m := m' }
      ∧ m'.fld TIME_QUAL_source = (s.m.timeReached t).cfg TIME_CTRL_src_pri)
  ∧ (∀ (s : State) (t : Nat),
    s.m.powered = true → (s.m.timeReached t).due .bridging = true →
    ∃ m', Sys2Proof.Machine.exec (.bridgingEntryExpiry t) s = .next { s with m := m' }
      ∧ m'.fld TIME_QUAL_state = 4 ∧ m'.evt 0x05 2 = true)
  ∧ (∀ (s : State) (t : Nat),
    s.m.powered = true → (s.m.timeReached t).due .holdLimit = true →
    ∃ m', Sys2Proof.Machine.exec (.holdoverLimitExpiry t) s = .next { s with m := m' }
      ∧ m'.fld TIME_QUAL_state = 5 ∧ m'.evt 0x05 3 = true)
  ∧ (∀ (s : State) (t : Nat) (highNs : Nat),
    s.m.powered = true → ppsPlausible (s.m.timeReached t) highNs = true →
    ∃ m', Sys2Proof.Machine.exec (.ppsInEdge t highNs) s = .next { s with m := m' }
      ∧ m'.time.ppsLast = some (s.m.timeReached t).now ∧ m'.deadline .ppsIn = some ((s.m.timeReached t).now + 1500000000))
  ∧ (∀ (s : State) (t : Nat),
    s.m.powered = true → (s.m.timeReached t).due .ppsIn = true →
    ∃ m', Sys2Proof.Machine.exec (.ppsInTimeout t) s = .next { s with m := m' }
      ∧ m'.flag TIME_QUAL_pps_qual = false ∧ m'.flag TIME_QUAL_irig_qual = false)
  ∧ (∀ (s : State) (t : Nat) (fr : IrigFrame) (u : Int),
    s.m.powered = true → (s.m.timeReached t).on TIME_IRIG_en = true → irigAccepted (s.m.timeReached t) fr = some u →
    ∃ m', Sys2Proof.Machine.exec (.irigbFrame t fr) s = .next { s with m := m' }
      ∧ m'.time.irigLast = some u ∧ m'.time.irigRun = (s.m.timeReached t).time.irigRun + 1)
  ∧ (∀ (s : State) (t : Nat) (off : Int),
    s.m.powered = true → off.natAbs ≤ 10000000 →
    ∃ m', Sys2Proof.Machine.exec (.ref10mGateEnd t off) s = .next { s with m := m' }
      ∧ m'.time.gates = (s.m.timeReached t).time.gates + 1 ∧ m'.time.gateRate = off)
  ∧ (∀ (s : State) (t : Nat),
    s.m.powered = true → (s.m.timeReached t).flag TIME_QUAL_in10m_qual = true →
    ∃ m', Sys2Proof.Machine.exec (.ref10mEdgeLoss t) s = .next { s with m := m' }
      ∧ m'.flag TIME_QUAL_in10m_qual = false ∧ m'.evt 0x05 8 = true)
  ∧ (∀ (s : State) (t : Nat) (a : Int),
    s.m.powered = true → ppsAllowed (s.m.timeReached t) = true →
    a = (s.m.timeReached t).station + asSigned 16 ((s.m.timeReached t).cfg TIME_PPS_OUT_DLY_dly) → a % 1000000000 < 4 →
    wasPulsed (s.m.timeReached t).time.pulsed (a / 1000000000) = false →
    (∀ b, (s.m.timeReached t).time.ppsAt = some b → b + 500000000 ≤ (s.m.timeReached t).now) →
    ∃ m', Sys2Proof.Machine.exec (.stationSecondBoundary t) s = .next { s with m := m' }
      ∧ m'.time.ppsOut = true)
  ∧ (∀ (s : State) (t : Nat),
    s.m.fires .ppsWidth t → s.m.time.ppsOut = true →
    ∃ m', Sys2Proof.Machine.exec (.ppsOutWidthEnd t) s = .next { s with m := m' }
      ∧ m'.time.ppsOut = false ∧ m'.outs = .pps false :: s.m.outs)

/-- R97, R105, R108, R123, R125, R126, R244: the frames and timers of the boundary clock, the nominal time of a tick and the end of its window complete. -/
def Obligations.PtpAndTickCommandsComplete : Prop :=
  (∀ (s : State) (t : Nat) (port : Fin 16) (fr : Frame) (p : PtpMsg) (d : Nat),
    s.m.powered = true → d < 2 → checkPtp (s.m.timeReached t) port fr = .ok (p, d) → p.kind = .announce →
    ∃ m', Sys2Proof.Machine.exec (.ptpFrameRx t port fr) s = .next { s with m := m' }
      ∧ ∃ f ∈ (ptpDom m' d).foreign, f.port = port ∧ f.clock = p.clockId ∧ f.ann = p.ann)
  ∧ (∀ (s : State) (t : Nat) (d : Fin 2),
    s.m.powered = true → (s.m.timeReached t).due (.announce d) = true → (ptpDom (s.m.timeReached t) d).master.isSome = true →
    ∃ m', Sys2Proof.Machine.exec (.announceReceiptTimeout t d) s = .next { s with m := m' }
      ∧ m'.evt 0x06 (2 + d) = true)
  ∧ (∀ (s : State) (t : Nat) (d : Fin 2),
    s.m.powered = true → (s.m.timeReached t).due (.syncLoss d) = true →
    ∃ m', Sys2Proof.Machine.exec (.syncLossBudgetExpiry t d) s = .next { s with m := m' }
      ∧ m'.flag (if d = 0 then PTP_DOM_STS_qualified else PTP_DOM_STS_qualified.nth 1) = false)
  ∧ (∀ (s : State) (t : Nat) (d : Fin 2),
    s.m.fires (.ptpTx d .announce) t →
    ∃ m', Sys2Proof.Machine.exec (.ptpTxIntervalExpiry t d .announce) s = .next { s with m := m' }
      ∧ ∃ y : Mach, (ptpDom y d).annSeq = ((ptpDom s.m d).annSeq + 1) % 2 ^ 16
      ∧ m' = y.each (sendingPorts y d (some 6)) fun p z => z.sendPtp p
            (ptpOut z d p .announce (ptpDom s.m d).annSeq false 0 (z.station + domainOffset z d) (announceData z d)) none)
  ∧ (∀ (s : State) (t : Nat),
    s.m.powered = true → s.m.twn.committed = true → twnState s.m = 3 → s.m.flag TWN_STS_unit_clash = false →
    ∃ m', Sys2Proof.Machine.exec (.tickNominalTime t) s = .next { s with m := m' }
      ∧ ∃ y : Mach, m' = y.twinEval.swapNow ∧ twnState y = 4 ∧ y.fld (TWN_CNT_n.nth 5) = (s.m.fld (TWN_CNT_n.nth 5) + 1) % 2 ^ 32 ∧ y.evt 0x31 5 = true)
  ∧ (∀ (s : State) (t : Nat) (g : Fin 64) (n : Nat),
    s.m.powered = true → nextOpen (s.m.advance t).sviTake g = some n → expiredAt (s.m.advance t).sviTake n (s.m.advance t).sviTake.now = true →
    ∃ m', Sys2Proof.Machine.exec (.tickWindowExpiry t g) s = .next { s with m := m' }
      ∧ ∃ (y : Mach) (tk : Tick) (rest : List Tick), m' = y.handTicks g (tk :: rest) ∧ tk.group = g ∧ tk.tick = n ∧ tk.cause = .expiry)

/-- R130, R132, R141, R150, R156, R160, R168, R235: sampled-value frames, stream timeouts, the waits of equalisation, tick sets in the measurand engine, its holds and its extremes complete. -/
def Obligations.SampleAndMeasurandCommandsComplete : Prop :=
  (∀ (s : State) (t : Nat) (fr : Frame) (port : Fin 16) (arrival : Nat),
    s.m.powered = true → 256 ≤ backlog s.m → heldOf s.m port < 64 →
    ∃ m', Sys2Proof.Machine.exec (.svFrame t fr port arrival) s = .next { s with m := m' }
      ∧ m'.svi.held = s.m.svi.held ++ [(fr, port.val, arrival)])
  ∧ (∀ (s : State) (t : Nat) (fr : Frame) (port : Fin 16) (arrival i n : Nat) (a : SvApdu) (x : Asdu),
    s.m.powered = true → backlog s.m < 256 → s.m.svPasses fr a i arrival → a.asdus = [x] → s.m.asduPasses i x →
    resampled (genNow s.m) i = false → groupClass (genNow s.m) (s.m.cfg SVI_SUB_CTRL_group i) = 0 →
    -(s.m.cfg SVI_TICK_early_tol * 1000 * rateHz (s.m.cfg SVI_SUB_CTRL_rate i) : Int) ≤ (nearest (rateHz (s.m.cfg SVI_SUB_CTRL_rate i)) (arrival + s.m.time.epoch) x.smpCnt).2 →
    tickOnGrid s.m.svi.grids (rateHz (s.m.cfg SVI_SUB_CTRL_rate i)) (nearest (rateHz (s.m.cfg SVI_SUB_CTRL_rate i)) (arrival + s.m.time.epoch) x.smpCnt).1 none = some n →
    openFor (s.m.advance t) (s.m.cfg SVI_SUB_CTRL_group i) n arrival = true → placedIn s.m n i = true →
    (s.m.svi.samples.any fun e => e.group == s.m.cfg SVI_SUB_CTRL_group i && e.tick == n && e.sub == i) = false →
    ∃ m', Sys2Proof.Machine.exec (.svFrame t fr port arrival) s = .next { s with m := m' }
      ∧ ∃ (y : Mach) (e : Sample), m' = y.closeDue (s.m.cfg SVI_SUB_CTRL_group i) ∧ y.svi.samples = s.m.svi.samples ++ [e] ∧ e.tick = n ∧ e.sub = i)
  ∧ (∀ (s : State) (t : Nat) (i : Fin 2048),
    s.m.powered = true → ((s.m.advance t).sviTake).past (.stream i) = true → subState (s.m.advance t).sviTake i = 3 →
    ∃ m', Sys2Proof.Machine.exec (.streamTimeout t i) s = .next { s with m := m' }
      ∧ ∃ y : Mach, m' = y.closeDue ((s.m.advance t).sviTake.cfg SVI_SUB_CTRL_group i) ∧ subState y i = 4 ∧ y.evt 0x0A 0 = true)
  ∧ (∀ (s : State) (t : Nat) (g : Fin 64) (e : EqTick),
    s.m.fires (.combWait g) t → e ∈ s.m.svi.eq → e.led = true → e.tk.group = g → e.done = false → e.comb = none →
    e.tk.closedAt + 20000 ≤ (s.m.advance t).now →
    ∃ m', Sys2Proof.Machine.exec (.combWaitExpiry t g) s = .next { s with m := m' }
      ∧ ∃ y : Mach, m' = (y.eqAdvance g).eqTimers g ∧ ∃ e' ∈ y.svi.eq, e'.tk = e.tk ∧ e'.comb = some (formComb e))
  ∧ (∀ (s : State) (t : Nat) (g : Fin 64) (e : EqTick),
    s.m.fires (.eqComb g) t → s.m.svi.eq = [e] → e.tk.group = g → e.done = false → e.tk.closedAt + 40000 ≤ (s.m.advance t).now →
    e.led = false → e.comb = none →
    ∃ m', Sys2Proof.Machine.exec (.eqCombTimeout t g) s = .next { s with m := m' }
      ∧ ∃ y : Mach, m' = y.eqLeave g ∧ y.svi.eq = [{ e with done := true }] ∧ y.evt 0x31 10 = true)
  ∧ (∀ (s : State) (t : Nat) (x : TickSet) (rest : List TickSet),
    s.m.powered = true → s.m.msr.busy = none → s.m.msr.queue = x :: rest →
    ∃ m', Sys2Proof.Machine.exec (.msrTickSetTake t) s = .next { s with m := m' }
      ∧ ∃ (y : Mach) (out : SetOut), m' = y.sviTake ∧ y.msr.busy = some out ∧ out.ticks = x.ticks)
  ∧ (∀ (s : State) (t : Nat) (out : SetOut),
    s.m.powered = true → s.m.msr.busy = some out →
    ∃ m', Sys2Proof.Machine.exec (.msrTickSetDone t) s = .next { s with m := m' }
      ∧ ∃ y : Mach, m' = y.handOut out ∧ y.msr.busy = none)
  ∧ (∀ (s : State) (t : Nat) (k : Fin 16),
    s.m.fires (.tracker k) t → s.m.fld MSR_TRK_STS_state k = 3 →
    ∃ m', Sys2Proof.Machine.exec (.trackerHoldExpiry t k) s = .next { s with m := m' }
      ∧ msrTrk m' k = { msrTrk s.m k with holdOver := true })
  ∧ (∀ (s : State) (t : Nat) (k : Fin 64) (a : Int) (b : Bool),
    s.m.fires (.tempSource k) t → s.m.fld MSR_TS_STS_state k = 1 → kget k.val s.m.msr.tsHold = some (a, b) →
    ∃ m', Sys2Proof.Machine.exec (.tempSourceHoldExpiry t k) s = .next { s with m := m' }
      ∧ kget k.val m'.msr.tsHold = some (a, true))
  ∧ (∀ (s : State) (t : Nat) (src : Src),
    s.m.powered = true → s.m.mayWrite src →
    ∃ m', Sys2Proof.Machine.exec (.msrClrExtremes t src) s = .next { s with m := m' }
      ∧ m'.fld MSR_MAXTIME_t = 0 ∧ m'.fld MSR_BACKLOG_max = 0)

/-- R190, R191, R193, R194, R197: deferred releases, budgets, the commands of a slot, and a job's RESULT and YIELD complete. -/
def Obligations.DispatchCommandsComplete : Prop :=
  (∀ (s : State) (t : Nat) (slot : Fin 4096) (x : Deferred),
    s.m.fires (.deferral slot) t → s.m.dsp.deferred.find? (fun y => decide (y.slot = slot.val)) = some x →
    s.m.partState (slot / 64) = psActive → (slotState s.m slot = 1 ∨ slotState s.m slot = 2) → sheds s.m slot = false →
    (∀ l, kget slot s.m.dsp.lastRel = some l → l + separation s.m slot ≤ (s.m.advance t).now) →
    mringRoom s.m (slot / 64) (slot % 64) = true → (jobsOf s.m slot).length < 7 →
    ∃ m', Sys2Proof.Machine.exec (.releaseDeferralExpiry t slot) s = .next { s with m := m' }
      ∧ m'.dsp.deferred = s.m.dsp.deferred.filter (fun y => y.slot != slot.val) ∧ m'.fld DSP_SLOT_REL_n slot = (s.m.fld DSP_SLOT_REL_n slot + 1) % 2 ^ 32)
  ∧ (∀ (s : State) (t : Nat) (slot : Fin 4096) (j : Job),
    s.m.powered = true → oldestJob ((s.m.advance t).runJobs) slot = some j → j.budget ≤ j.exec →
    ∃ m', Sys2Proof.Machine.exec (.budgetExhausted t slot) s = .next { s with m := m' }
      ∧ m'.fld DSP_SLOT_OVR_n slot = (s.m.fld DSP_SLOT_OVR_n slot + 1) % 2 ^ 32 ∧ m'.evt 0x09 0 = true ∧ .jobStop slot ∈ m'.outs)
  ∧ (∀ (s : State) (t : Nat) (src : Src),
    s.m.powered = true → s.m.mayWrite src → slotState s.m (s.m.fld DSP_SLOT_SEL_index) = 3 →
    ∃ m', Sys2Proof.Machine.exec (.slotResume t src) s = .next { s with m := m' }
      ∧ slotState m' (s.m.fld DSP_SLOT_SEL_index) = 1)
  ∧ (∀ (s : State) (t : Nat) (src : Src),
    s.m.powered = true → s.m.mayWrite src →
    ∃ m', Sys2Proof.Machine.exec (.slotClrMax t src) s = .next { s with m := m' }
      ∧ m'.fld DSP_SLOT_RESP_MAX_v (s.m.fld DSP_SLOT_SEL_index) = 0)
  ∧ (∀ (s : State) (t : Nat) (p : Fin 64) (slot : Fin 4096) (pk : RingPacket) (j : Job) (n : Nat),
    s.m.powered = true → s.m.takes p pk → oldestJob s.m slot = some j → slot.val / 64 = p → n = natBE ((pk.payload.drop 10).take 2) →
    n ≤ 64 → pk.payload.length = 12 + 8 * n → natBE (pk.payload.take 8) = j.tick →
    ∃ m', Sys2Proof.Machine.exec (.result t p slot pk) s = .next { s with m := m' }
      ∧ m'.dsp.jobs = ((s.m.advance t).runJobs).dsp.jobs.eraseP (fun x => x.slot == j.slot && x.tick == j.tick))
  ∧ (∀ (s : State) (t : Nat) (p : Fin 64) (slot : Fin 4096) (pk : RingPacket) (j : Job),
    s.m.powered = true → s.m.takes p pk → oldestJob s.m slot = some j → slot.val / 64 = p → pk.payload.length = 8 →
    natBE pk.payload = j.tick →
    ∃ m', Sys2Proof.Machine.exec (.yieldJob t p slot pk) s = .next { s with m := m' }
      ∧ m'.dsp.jobs = ((s.m.advance t).runJobs).dsp.jobs.eraseP (fun x => x.slot == j.slot && x.tick == j.tick))

/-- R261, R262, R267, R268, R270, R322: PNOP, XFER, the pieces of a transfer and VNIC_TX complete. -/
def Obligations.RingCommandsComplete : Prop :=
  (∀ (s : State) (t : Nat) (p : Fin 64) (pk : RingPacket),
    s.m.powered = true → s.m.takes p pk →
    ∃ m', Sys2Proof.Machine.exec (.pnop t p pk) s = .next { s with m := m' }
      ∧ ∃ y : Mach, m' = y.doneCmd p pk.tag 0x00 0 [] ∧ (m'.part p).cmdCons = ((s.m.part p).cmdCons + 1) % 2 ^ 16)
  ∧ (∀ (s : State) (t : Nat) (p : Fin 64) (pk : RingPacket) (n dst tag : Nat),
    s.m.powered = true → s.m.takes p pk → pk.payload.length = 24 → natBE (pk.payload.take 1) = 1 →
    natBE ((pk.payload.drop 1).take 3) = 0 → n = natBE ((pk.payload.drop 4).take 4) → dst = natBE ((pk.payload.drop 16).take 8) → 0 < n →
    n ≤ 16777216 → n % 8 = 0 → dst % 8 = 0 → dst + n ≤ 2 ^ 48 → covered s.m p dst n = true →
    (List.range 8).find? (fun t => !(s.m.part p).xfers.any fun x => x.tag = t) = some tag →
    ∃ m', Sys2Proof.Machine.exec (.xfer t p pk) s = .next { s with m := m' }
      ∧ ∃ x : Xfer, (m'.part p).xfers = (s.m.part p).xfers ++ [x] ∧ x.tag = tag ∧ x.cmdTag = pk.tag ∧ x.length = n ∧ x.dst = dst ∧ x.done = 0)
  ∧ (∀ (s : State) (t : Nat) (p : Fin 64) (tag : Fin 8) (x : Xfer),
    s.m.powered = true → s.m.partState p ≠ psResetting → (s.m.part p).xfers.find? (fun y => decide (y.tag = tag.val)) = some x →
    x.length ≤ x.done + pieceLen x →
    ∃ m', Sys2Proof.Machine.exec (.transferPieceDone t p tag .ok) s = .next { s with m := m' }
      ∧ (m'.part p).xfers = (s.m.part p).xfers.filter (fun y => y.tag != x.tag) ∧ ∃ (y : Mach) (payload : List Byte), m' = y.doneCmd p x.cmdTag 0x00 tag payload)
  ∧ (∀ (s : State) (t : Nat) (p : Fin 64) (pk : RingPacket),
    s.m.powered = true → s.m.takes p pk → vnicOk pk.payload = true → pk.offset.toNat < 2 → s.m.vnicRoom p pk →
    ∃ m', Sys2Proof.Machine.exec (.vnicTx t p pk) s = .next { s with m := m' }
      ∧ ∃ y : Mach, m' = (y.inject (vnicIngress s.m p pk)).doneCmd p pk.tag 0x00 0 [] ∧ y.ports = s.m.ports)
end

