-- ==== Sys2Proof/Laws/Memory.lean ====
section
/-! SUPPORT. The byte memories: a read after a write, and that every operation on a memory keeps its canonical form. -/

namespace Sys2Proof.Machine

/-! ### Canonical form -/

theorem memWfFrom_mono {lo lo' : Nat} {l : List Host.Cell} (h : lo' ≤ lo) (hw : memWfFrom lo l = true) :
    memWfFrom lo' l = true := by
  cases l with
  | nil => rfl
  | cons e r =>
    simp only [memWfFrom, Bool.and_eq_true, decide_eq_true_eq] at *
    exact ⟨⟨by omega, hw.1.2⟩, hw.2⟩

theorem memPut_wfFrom (a : Nat) (b : Byte) (l : List Host.Cell) (lo : Nat) (ha : lo ≤ a) (h : memWfFrom lo l = true) :
    memWfFrom lo (memPut a b l) = true := by
  induction l generalizing lo with
  | nil => by_cases hb : b = 0#8 <;> simp_all [memPut, memWfFrom]
  | cons e r ih =>
    obtain ⟨a', b'⟩ := e
    simp only [memWfFrom, Bool.and_eq_true, decide_eq_true_eq] at h
    obtain ⟨⟨h1, h2⟩, h3⟩ := h
    by_cases c1 : a' < a
    · simp only [memPut, c1, if_true, memWfFrom, Bool.and_eq_true, decide_eq_true_eq]
      exact ⟨⟨h1, h2⟩, ih (a' + 1) (by omega) h3⟩
    · by_cases c2 : a' = a
      · subst c2
        by_cases hb : b = 0
        · simp only [memPut, c1, if_false, if_true, hb]
          exact memWfFrom_mono (by omega) h3
        · simp only [memPut, c1, if_false, if_true, hb, memWfFrom, Bool.and_eq_true, decide_eq_true_eq]
          exact ⟨⟨h1, hb⟩, h3⟩
      · by_cases hb : b = 0
        · simp only [memPut, c1, c2, if_false, if_true, hb, memWfFrom, Bool.and_eq_true, decide_eq_true_eq]
          exact ⟨⟨h1, h2⟩, h3⟩
        · simp only [memPut, c1, c2, if_false, hb, memWfFrom, Bool.and_eq_true, decide_eq_true_eq]
          exact ⟨⟨ha, hb⟩, ⟨by omega, h2⟩, h3⟩

/-- A byte written keeps the form. -/
theorem memPut_wf (a : Nat) (b : Byte) (l : List Host.Cell) (h : Memory.wf l = true) : Memory.wf (memPut a b l) = true :=
  memPut_wfFrom a b l 0 (Nat.zero_le _) h

/-- Bytes written keep the form. -/
theorem memWrite_wf (a : Nat) (bs : List Byte) (l : List Host.Cell) (h : Memory.wf l = true) :
    Memory.wf (memWrite a bs l) = true := by
  induction bs generalizing a l with
  | nil => exact h
  | cons b bs ih => exact ih _ _ (memPut_wf a b l h)

theorem foldl_memPut_wf {α : Type} (f : α → Nat) (g : α → Byte) (es : List α) (l : List Host.Cell) (h : Memory.wf l = true) :
    Memory.wf (es.foldl (fun mem e => memPut (f e) (g e) mem) l) = true := by
  induction es generalizing l with
  | nil => exact h
  | cons e es ih => exact ih _ (memPut_wf _ _ _ h)

theorem memWfFrom_append {l r : List Host.Cell} {lo mid : Nat} (hl : memWfFrom lo l = true) (hr : memWfFrom mid r = true)
    (hb : ∀ c ∈ l, c.1 < mid) (hm : lo ≤ mid) : memWfFrom lo (l ++ r) = true := by
  induction l generalizing lo with
  | nil => exact memWfFrom_mono hm hr
  | cons e t ih =>
    simp only [List.cons_append, memWfFrom, Bool.and_eq_true, decide_eq_true_eq] at *
    refine ⟨hl.1, ih hl.2 (fun c hc => hb c (List.mem_cons_of_mem _ hc)) ?_⟩
    have := hb e List.mem_cons_self
    omega

theorem memWfFrom_filter (p : Host.Cell → Bool) {l : List Host.Cell} {lo lo' : Nat} (h : memWfFrom lo l = true)
    (hp : ∀ c, p c = true → lo' ≤ c.1) : memWfFrom lo' (l.filter p) = true := by
  induction l generalizing lo lo' with
  | nil => rfl
  | cons e t ih =>
    simp only [memWfFrom, Bool.and_eq_true, decide_eq_true_eq] at h
    by_cases c : p e = true
    · rw [List.filter_cons_of_pos c]
      simp only [memWfFrom, Bool.and_eq_true, decide_eq_true_eq]
      refine ⟨⟨hp e c, h.1.2⟩, ?_⟩
      have key : ∀ (t : List Host.Cell) (k : Nat), memWfFrom k t = true → memWfFrom k (t.filter p) = true := by
        intro t
        induction t with
        | nil => intro k _; rfl
        | cons x xs ihx =>
          intro k hk
          simp only [memWfFrom, Bool.and_eq_true, decide_eq_true_eq] at hk
          by_cases cx : p x = true
          · rw [List.filter_cons_of_pos cx]
            simp only [memWfFrom, Bool.and_eq_true, decide_eq_true_eq]
            exact ⟨hk.1, ihx _ hk.2⟩
          · rw [List.filter_cons_of_neg cx]
            exact memWfFrom_mono (by omega) (ihx _ hk.2)
      exact key t _ h.2
    · rw [List.filter_cons_of_neg c]
      exact ih h.2 hp

theorem splice_wf (lo hi : Nat) (src dst : List Host.Cell) (hlh : lo ≤ hi) (hs : Memory.wf src = true)
    (hd : Memory.wf dst = true) : Memory.wf (splice lo hi src dst) = true := by
  unfold splice Memory.wf
  have h3 : memWfFrom hi (dst.filter fun c => decide (hi ≤ c.1)) = true :=
    memWfFrom_filter _ hd (fun c hc => by simpa using hc)
  have h2 : memWfFrom lo (src.filter fun c => decide (lo ≤ c.1 ∧ c.1 < hi)) = true :=
    memWfFrom_filter _ hs (fun c hc => by simp at hc; exact hc.1)
  have h1 : memWfFrom 0 (dst.filter fun c => decide (c.1 < lo)) = true :=
    memWfFrom_filter _ hd (fun c _ => Nat.zero_le _)
  have h12 : memWfFrom 0 (dst.filter (fun c => decide (c.1 < lo)) ++ src.filter fun c => decide (lo ≤ c.1 ∧ c.1 < hi)) = true :=
    memWfFrom_append h1 h2 (fun c hc => by simp at hc; exact hc.2) (Nat.zero_le _)
  refine memWfFrom_append h12 h3 (fun c hc => ?_) (Nat.zero_le _)
  simp only [List.mem_append, List.mem_filter, decide_eq_true_eq] at hc
  rcases hc with h | h <;> omega

/-- A page's objects taken from other contents keep the form. -/
theorem takeBulk_wf (src dst : List Host.Cell) (page : Nat) (hs : Memory.wf src = true) (hd : Memory.wf dst = true) :
    Memory.wf (takeBulk src dst page) = true :=
  splice_wf _ _ _ _ (by unfold bulkKey; omega) hs hd

/-! ### A read after a write -/

theorem memGet_memPut_same (a : Nat) (b : Byte) (l : List Host.Cell) (lo : Nat) (h : memWfFrom lo l = true) :
    memGet a (memPut a b l) = b := by
  induction l generalizing lo with
  | nil => by_cases hb : b = 0#8 <;> simp [memPut, memGet, hb]
  | cons e r ih =>
    obtain ⟨a', b'⟩ := e
    simp only [memWfFrom, Bool.and_eq_true, decide_eq_true_eq] at h
    have above : ∀ (t : List Host.Cell) (k : Nat), a < k → memWfFrom k t = true → memGet a t = 0 := by
      intro t
      induction t with
      | nil => intro k _ _; rfl
      | cons x xs ihx =>
        intro k hk hw
        simp only [memWfFrom, Bool.and_eq_true, decide_eq_true_eq] at hw
        have : x.1 ≠ a := by omega
        simp only [memGet, this, if_false]
        exact ihx _ (by omega) hw.2
    by_cases c1 : a' < a
    · have : a' ≠ a := by omega
      simp only [memPut, c1, if_true, memGet, this, if_false]
      exact ih _ h.2
    · by_cases c2 : a' = a
      · subst c2
        by_cases hb : b = 0
        · simp only [memPut, c1, if_false, if_true, hb]
          exact above r _ (by omega) h.2
        · have hb' : ¬ b = 0#8 := hb
          simp [memPut, memGet, hb']
      · by_cases hb : b = 0
        · simp only [memPut, c1, c2, if_false, if_true, hb, memGet]
          exact above r _ (by omega) h.2
        · have hb' : ¬ b = 0#8 := hb
          simp [memPut, memGet, c1, c2, hb']

/-- A byte written leaves every other byte as it reads. -/
theorem memGet_memPut_other {a a' : Nat} (b : Byte) (l : List Host.Cell) (h : a' ≠ a) : memGet a' (memPut a b l) = memGet a' l := by
  induction l with
  | nil => by_cases hb : b = 0#8 <;> simp [memPut, memGet, hb, Ne.symm h]
  | cons e r ih =>
    obtain ⟨x, y⟩ := e
    by_cases c1 : x < a
    · simp only [memPut, c1, if_true, memGet, ih]
    · by_cases c2 : x = a
      · subst c2
        by_cases hb : b = 0#8 <;> simp [memPut, memGet, hb, Ne.symm h]
      · by_cases hb : b = 0#8 <;> simp [memPut, memGet, c1, c2, hb, Ne.symm h]

/-- Bytes written leave every byte below them, and every byte past them, as it reads. -/
theorem memGet_memWrite_other {x : Nat} (a : Nat) (bs : List Byte) (l : List Host.Cell) (h : x < a ∨ a + bs.length ≤ x) :
    memGet x (memWrite a bs l) = memGet x l := by
  induction bs generalizing a l with
  | nil => rfl
  | cons b bs ih =>
    simp only [List.length_cons] at h
    rw [memWrite, ih _ _ (by omega), memGet_memPut_other _ _ (by omega)]

/-- Bytes written are read. -/
theorem memGet_memWrite_same (a i : Nat) (bs : List Byte) (l : List Host.Cell) (hw : Memory.wf l = true) (h : i < bs.length) :
    memGet (a + i) (memWrite a bs l) = bs[i] := by
  induction bs generalizing a i l with
  | nil => simp at h
  | cons b bs ih =>
    cases i with
    | zero =>
      rw [memWrite, Nat.add_zero, memGet_memWrite_other _ _ _ (by omega), memGet_memPut_same a b l 0 hw]
      rfl
    | succ i =>
      have := ih (a + 1) i (memPut a b l) (memPut_wf _ _ _ hw) (by simpa using h)
      rw [memWrite, show a + (i + 1) = a + 1 + i by omega, this]
      rfl

end Sys2Proof.Machine
end

