-- ==== Sys2Proof/Laws/State.lean ====
section
/-! SUPPORT. What each update of State leaves as it was: one lemma for each update and each field it does not write. -/

namespace Sys2Proof.Machine

/-! ### `Mach.setReg` -/

@[simp] theorem Mach.setReg_now (m : Mach) (p o i : Nat) (w : Word) : (m.setReg p o i w).now = m.now := rfl
@[simp] theorem Mach.setReg_free (m : Mach) (p o i : Nat) (w : Word) : (m.setReg p o i w).free = m.free := rfl
@[simp] theorem Mach.setReg_powered (m : Mach) (p o i : Nat) (w : Word) : (m.setReg p o i w).powered = m.powered := rfl
@[simp] theorem Mach.setReg_force (m : Mach) (p o i : Nat) (w : Word) : (m.setReg p o i w).force = m.force := rfl
@[simp] theorem Mach.setReg_low (m : Mach) (p o i : Nat) (w : Word) : (m.setReg p o i w).low = m.low := rfl
@[simp] theorem Mach.setReg_capt (m : Mach) (p o i : Nat) (w : Word) : (m.setReg p o i w).capt = m.capt := rfl
@[simp] theorem Mach.setReg_frozen (m : Mach) (p o i : Nat) (w : Word) : (m.setReg p o i w).frozen = m.frozen := rfl
@[simp] theorem Mach.setReg_timers (m : Mach) (p o i : Nat) (w : Word) : (m.setReg p o i w).timers = m.timers := rfl
@[simp] theorem Mach.setReg_bulk (m : Mach) (p o i : Nat) (w : Word) : (m.setReg p o i w).bulk = m.bulk := rfl
@[simp] theorem Mach.setReg_bulkF (m : Mach) (p o i : Nat) (w : Word) : (m.setReg p o i w).bulkF = m.bulkF := rfl
@[simp] theorem Mach.setReg_mem (m : Mach) (p o i : Nat) (w : Word) : (m.setReg p o i w).mem = m.mem := rfl
@[simp] theorem Mach.setReg_outs (m : Mach) (p o i : Nat) (w : Word) : (m.setReg p o i w).outs = m.outs := rfl
@[simp] theorem Mach.setReg_coil (m : Mach) (p o i : Nat) (w : Word) : (m.setReg p o i w).coil = m.coil := rfl
@[simp] theorem Mach.setReg_cmd (m : Mach) (p o i : Nat) (w : Word) : (m.setReg p o i w).cmd = m.cmd := rfl
@[simp] theorem Mach.setReg_cdc (m : Mach) (p o i : Nat) (w : Word) : (m.setReg p o i w).cdc = m.cdc := rfl
@[simp] theorem Mach.setReg_pace (m : Mach) (p o i : Nat) (w : Word) : (m.setReg p o i w).pace = m.pace := rfl
@[simp] theorem Mach.setReg_time (m : Mach) (p o i : Nat) (w : Word) : (m.setReg p o i w).time = m.time := rfl
@[simp] theorem Mach.setReg_ptp (m : Mach) (p o i : Nat) (w : Word) : (m.setReg p o i w).ptp = m.ptp := rfl
@[simp] theorem Mach.setReg_svi (m : Mach) (p o i : Nat) (w : Word) : (m.setReg p o i w).svi = m.svi := rfl
@[simp] theorem Mach.setReg_msr (m : Mach) (p o i : Nat) (w : Word) : (m.setReg p o i w).msr = m.msr := rfl
@[simp] theorem Mach.setReg_adm (m : Mach) (p o i : Nat) (w : Word) : (m.setReg p o i w).adm = m.adm := rfl
@[simp] theorem Mach.setReg_dsp (m : Mach) (p o i : Nat) (w : Word) : (m.setReg p o i w).dsp = m.dsp := rfl
@[simp] theorem Mach.setReg_pub (m : Mach) (p o i : Nat) (w : Word) : (m.setReg p o i w).pub = m.pub := rfl
@[simp] theorem Mach.setReg_twn (m : Mach) (p o i : Nat) (w : Word) : (m.setReg p o i w).twn = m.twn := rfl
@[simp] theorem Mach.setReg_parts (m : Mach) (p o i : Nat) (w : Word) : (m.setReg p o i w).parts = m.parts := rfl
@[simp] theorem Mach.setReg_ports (m : Mach) (p o i : Nat) (w : Word) : (m.setReg p o i w).ports = m.ports := rfl
@[simp] theorem Mach.setReg_pairs (m : Mach) (p o i : Nat) (w : Word) : (m.setReg p o i w).pairs = m.pairs := rfl
@[simp] theorem Mach.setReg_swc (m : Mach) (p o i : Nat) (w : Word) : (m.setReg p o i w).swc = m.swc := rfl
@[simp] theorem Mach.setReg_acq (m : Mach) (p o i : Nat) (w : Word) : (m.setReg p o i w).acq = m.acq := rfl
@[simp] theorem Mach.setReg_nrg (m : Mach) (p o i : Nat) (w : Word) : (m.setReg p o i w).nrg = m.nrg := rfl
@[simp] theorem Mach.setReg_pls (m : Mach) (p o i : Nat) (w : Word) : (m.setReg p o i w).pls = m.pls := rfl
@[simp] theorem Mach.setReg_rim (m : Mach) (p o i : Nat) (w : Word) : (m.setReg p o i w).rim = m.rim := rfl
@[simp] theorem Mach.setReg_flash (m : Mach) (p o i : Nat) (w : Word) : (m.setReg p o i w).flash = m.flash := rfl
@[simp] theorem Mach.setReg_rst (m : Mach) (p o i : Nat) (w : Word) : (m.setReg p o i w).rst = m.rst := rfl

/-! ### `Mach.setFld` -/

@[simp] theorem Mach.setFld_now (m : Mach) (f : Fd) (i v : Nat) : (m.setFld f i v).now = m.now := rfl
@[simp] theorem Mach.setFld_free (m : Mach) (f : Fd) (i v : Nat) : (m.setFld f i v).free = m.free := rfl
@[simp] theorem Mach.setFld_powered (m : Mach) (f : Fd) (i v : Nat) : (m.setFld f i v).powered = m.powered := rfl
@[simp] theorem Mach.setFld_force (m : Mach) (f : Fd) (i v : Nat) : (m.setFld f i v).force = m.force := rfl
@[simp] theorem Mach.setFld_low (m : Mach) (f : Fd) (i v : Nat) : (m.setFld f i v).low = m.low := rfl
@[simp] theorem Mach.setFld_capt (m : Mach) (f : Fd) (i v : Nat) : (m.setFld f i v).capt = m.capt := rfl
@[simp] theorem Mach.setFld_frozen (m : Mach) (f : Fd) (i v : Nat) : (m.setFld f i v).frozen = m.frozen := rfl
@[simp] theorem Mach.setFld_timers (m : Mach) (f : Fd) (i v : Nat) : (m.setFld f i v).timers = m.timers := rfl
@[simp] theorem Mach.setFld_bulk (m : Mach) (f : Fd) (i v : Nat) : (m.setFld f i v).bulk = m.bulk := rfl
@[simp] theorem Mach.setFld_bulkF (m : Mach) (f : Fd) (i v : Nat) : (m.setFld f i v).bulkF = m.bulkF := rfl
@[simp] theorem Mach.setFld_mem (m : Mach) (f : Fd) (i v : Nat) : (m.setFld f i v).mem = m.mem := rfl
@[simp] theorem Mach.setFld_outs (m : Mach) (f : Fd) (i v : Nat) : (m.setFld f i v).outs = m.outs := rfl
@[simp] theorem Mach.setFld_coil (m : Mach) (f : Fd) (i v : Nat) : (m.setFld f i v).coil = m.coil := rfl
@[simp] theorem Mach.setFld_cmd (m : Mach) (f : Fd) (i v : Nat) : (m.setFld f i v).cmd = m.cmd := rfl
@[simp] theorem Mach.setFld_cdc (m : Mach) (f : Fd) (i v : Nat) : (m.setFld f i v).cdc = m.cdc := rfl
@[simp] theorem Mach.setFld_pace (m : Mach) (f : Fd) (i v : Nat) : (m.setFld f i v).pace = m.pace := rfl
@[simp] theorem Mach.setFld_time (m : Mach) (f : Fd) (i v : Nat) : (m.setFld f i v).time = m.time := rfl
@[simp] theorem Mach.setFld_ptp (m : Mach) (f : Fd) (i v : Nat) : (m.setFld f i v).ptp = m.ptp := rfl
@[simp] theorem Mach.setFld_svi (m : Mach) (f : Fd) (i v : Nat) : (m.setFld f i v).svi = m.svi := rfl
@[simp] theorem Mach.setFld_msr (m : Mach) (f : Fd) (i v : Nat) : (m.setFld f i v).msr = m.msr := rfl
@[simp] theorem Mach.setFld_adm (m : Mach) (f : Fd) (i v : Nat) : (m.setFld f i v).adm = m.adm := rfl
@[simp] theorem Mach.setFld_dsp (m : Mach) (f : Fd) (i v : Nat) : (m.setFld f i v).dsp = m.dsp := rfl
@[simp] theorem Mach.setFld_pub (m : Mach) (f : Fd) (i v : Nat) : (m.setFld f i v).pub = m.pub := rfl
@[simp] theorem Mach.setFld_twn (m : Mach) (f : Fd) (i v : Nat) : (m.setFld f i v).twn = m.twn := rfl
@[simp] theorem Mach.setFld_parts (m : Mach) (f : Fd) (i v : Nat) : (m.setFld f i v).parts = m.parts := rfl
@[simp] theorem Mach.setFld_ports (m : Mach) (f : Fd) (i v : Nat) : (m.setFld f i v).ports = m.ports := rfl
@[simp] theorem Mach.setFld_pairs (m : Mach) (f : Fd) (i v : Nat) : (m.setFld f i v).pairs = m.pairs := rfl
@[simp] theorem Mach.setFld_swc (m : Mach) (f : Fd) (i v : Nat) : (m.setFld f i v).swc = m.swc := rfl
@[simp] theorem Mach.setFld_acq (m : Mach) (f : Fd) (i v : Nat) : (m.setFld f i v).acq = m.acq := rfl
@[simp] theorem Mach.setFld_nrg (m : Mach) (f : Fd) (i v : Nat) : (m.setFld f i v).nrg = m.nrg := rfl
@[simp] theorem Mach.setFld_pls (m : Mach) (f : Fd) (i v : Nat) : (m.setFld f i v).pls = m.pls := rfl
@[simp] theorem Mach.setFld_rim (m : Mach) (f : Fd) (i v : Nat) : (m.setFld f i v).rim = m.rim := rfl
@[simp] theorem Mach.setFld_flash (m : Mach) (f : Fd) (i v : Nat) : (m.setFld f i v).flash = m.flash := rfl
@[simp] theorem Mach.setFld_rst (m : Mach) (f : Fd) (i v : Nat) : (m.setFld f i v).rst = m.rst := rfl

/-! ### `Mach.setFlag` -/

@[simp] theorem Mach.setFlag_now (m : Mach) (f : Fd) (i : Nat) (b : Bool) : (m.setFlag f i b).now = m.now := rfl
@[simp] theorem Mach.setFlag_free (m : Mach) (f : Fd) (i : Nat) (b : Bool) : (m.setFlag f i b).free = m.free := rfl
@[simp] theorem Mach.setFlag_powered (m : Mach) (f : Fd) (i : Nat) (b : Bool) : (m.setFlag f i b).powered = m.powered := rfl
@[simp] theorem Mach.setFlag_force (m : Mach) (f : Fd) (i : Nat) (b : Bool) : (m.setFlag f i b).force = m.force := rfl
@[simp] theorem Mach.setFlag_low (m : Mach) (f : Fd) (i : Nat) (b : Bool) : (m.setFlag f i b).low = m.low := rfl
@[simp] theorem Mach.setFlag_capt (m : Mach) (f : Fd) (i : Nat) (b : Bool) : (m.setFlag f i b).capt = m.capt := rfl
@[simp] theorem Mach.setFlag_frozen (m : Mach) (f : Fd) (i : Nat) (b : Bool) : (m.setFlag f i b).frozen = m.frozen := rfl
@[simp] theorem Mach.setFlag_timers (m : Mach) (f : Fd) (i : Nat) (b : Bool) : (m.setFlag f i b).timers = m.timers := rfl
@[simp] theorem Mach.setFlag_bulk (m : Mach) (f : Fd) (i : Nat) (b : Bool) : (m.setFlag f i b).bulk = m.bulk := rfl
@[simp] theorem Mach.setFlag_bulkF (m : Mach) (f : Fd) (i : Nat) (b : Bool) : (m.setFlag f i b).bulkF = m.bulkF := rfl
@[simp] theorem Mach.setFlag_mem (m : Mach) (f : Fd) (i : Nat) (b : Bool) : (m.setFlag f i b).mem = m.mem := rfl
@[simp] theorem Mach.setFlag_outs (m : Mach) (f : Fd) (i : Nat) (b : Bool) : (m.setFlag f i b).outs = m.outs := rfl
@[simp] theorem Mach.setFlag_coil (m : Mach) (f : Fd) (i : Nat) (b : Bool) : (m.setFlag f i b).coil = m.coil := rfl
@[simp] theorem Mach.setFlag_cmd (m : Mach) (f : Fd) (i : Nat) (b : Bool) : (m.setFlag f i b).cmd = m.cmd := rfl
@[simp] theorem Mach.setFlag_cdc (m : Mach) (f : Fd) (i : Nat) (b : Bool) : (m.setFlag f i b).cdc = m.cdc := rfl
@[simp] theorem Mach.setFlag_pace (m : Mach) (f : Fd) (i : Nat) (b : Bool) : (m.setFlag f i b).pace = m.pace := rfl
@[simp] theorem Mach.setFlag_time (m : Mach) (f : Fd) (i : Nat) (b : Bool) : (m.setFlag f i b).time = m.time := rfl
@[simp] theorem Mach.setFlag_ptp (m : Mach) (f : Fd) (i : Nat) (b : Bool) : (m.setFlag f i b).ptp = m.ptp := rfl
@[simp] theorem Mach.setFlag_svi (m : Mach) (f : Fd) (i : Nat) (b : Bool) : (m.setFlag f i b).svi = m.svi := rfl
@[simp] theorem Mach.setFlag_msr (m : Mach) (f : Fd) (i : Nat) (b : Bool) : (m.setFlag f i b).msr = m.msr := rfl
@[simp] theorem Mach.setFlag_adm (m : Mach) (f : Fd) (i : Nat) (b : Bool) : (m.setFlag f i b).adm = m.adm := rfl
@[simp] theorem Mach.setFlag_dsp (m : Mach) (f : Fd) (i : Nat) (b : Bool) : (m.setFlag f i b).dsp = m.dsp := rfl
@[simp] theorem Mach.setFlag_pub (m : Mach) (f : Fd) (i : Nat) (b : Bool) : (m.setFlag f i b).pub = m.pub := rfl
@[simp] theorem Mach.setFlag_twn (m : Mach) (f : Fd) (i : Nat) (b : Bool) : (m.setFlag f i b).twn = m.twn := rfl
@[simp] theorem Mach.setFlag_parts (m : Mach) (f : Fd) (i : Nat) (b : Bool) : (m.setFlag f i b).parts = m.parts := rfl
@[simp] theorem Mach.setFlag_ports (m : Mach) (f : Fd) (i : Nat) (b : Bool) : (m.setFlag f i b).ports = m.ports := rfl
@[simp] theorem Mach.setFlag_pairs (m : Mach) (f : Fd) (i : Nat) (b : Bool) : (m.setFlag f i b).pairs = m.pairs := rfl
@[simp] theorem Mach.setFlag_swc (m : Mach) (f : Fd) (i : Nat) (b : Bool) : (m.setFlag f i b).swc = m.swc := rfl
@[simp] theorem Mach.setFlag_acq (m : Mach) (f : Fd) (i : Nat) (b : Bool) : (m.setFlag f i b).acq = m.acq := rfl
@[simp] theorem Mach.setFlag_nrg (m : Mach) (f : Fd) (i : Nat) (b : Bool) : (m.setFlag f i b).nrg = m.nrg := rfl
@[simp] theorem Mach.setFlag_pls (m : Mach) (f : Fd) (i : Nat) (b : Bool) : (m.setFlag f i b).pls = m.pls := rfl
@[simp] theorem Mach.setFlag_rim (m : Mach) (f : Fd) (i : Nat) (b : Bool) : (m.setFlag f i b).rim = m.rim := rfl
@[simp] theorem Mach.setFlag_flash (m : Mach) (f : Fd) (i : Nat) (b : Bool) : (m.setFlag f i b).flash = m.flash := rfl
@[simp] theorem Mach.setFlag_rst (m : Mach) (f : Fd) (i : Nat) (b : Bool) : (m.setFlag f i b).rst = m.rst := rfl

/-! ### `Mach.count` -/

@[simp] theorem Mach.count_now (m : Mach) (f : Fd) (i n : Nat) : (m.count f i n).now = m.now := rfl
@[simp] theorem Mach.count_free (m : Mach) (f : Fd) (i n : Nat) : (m.count f i n).free = m.free := rfl
@[simp] theorem Mach.count_powered (m : Mach) (f : Fd) (i n : Nat) : (m.count f i n).powered = m.powered := rfl
@[simp] theorem Mach.count_force (m : Mach) (f : Fd) (i n : Nat) : (m.count f i n).force = m.force := rfl
@[simp] theorem Mach.count_low (m : Mach) (f : Fd) (i n : Nat) : (m.count f i n).low = m.low := rfl
@[simp] theorem Mach.count_capt (m : Mach) (f : Fd) (i n : Nat) : (m.count f i n).capt = m.capt := rfl
@[simp] theorem Mach.count_frozen (m : Mach) (f : Fd) (i n : Nat) : (m.count f i n).frozen = m.frozen := rfl
@[simp] theorem Mach.count_timers (m : Mach) (f : Fd) (i n : Nat) : (m.count f i n).timers = m.timers := rfl
@[simp] theorem Mach.count_bulk (m : Mach) (f : Fd) (i n : Nat) : (m.count f i n).bulk = m.bulk := rfl
@[simp] theorem Mach.count_bulkF (m : Mach) (f : Fd) (i n : Nat) : (m.count f i n).bulkF = m.bulkF := rfl
@[simp] theorem Mach.count_mem (m : Mach) (f : Fd) (i n : Nat) : (m.count f i n).mem = m.mem := rfl
@[simp] theorem Mach.count_outs (m : Mach) (f : Fd) (i n : Nat) : (m.count f i n).outs = m.outs := rfl
@[simp] theorem Mach.count_coil (m : Mach) (f : Fd) (i n : Nat) : (m.count f i n).coil = m.coil := rfl
@[simp] theorem Mach.count_cmd (m : Mach) (f : Fd) (i n : Nat) : (m.count f i n).cmd = m.cmd := rfl
@[simp] theorem Mach.count_cdc (m : Mach) (f : Fd) (i n : Nat) : (m.count f i n).cdc = m.cdc := rfl
@[simp] theorem Mach.count_pace (m : Mach) (f : Fd) (i n : Nat) : (m.count f i n).pace = m.pace := rfl
@[simp] theorem Mach.count_time (m : Mach) (f : Fd) (i n : Nat) : (m.count f i n).time = m.time := rfl
@[simp] theorem Mach.count_ptp (m : Mach) (f : Fd) (i n : Nat) : (m.count f i n).ptp = m.ptp := rfl
@[simp] theorem Mach.count_svi (m : Mach) (f : Fd) (i n : Nat) : (m.count f i n).svi = m.svi := rfl
@[simp] theorem Mach.count_msr (m : Mach) (f : Fd) (i n : Nat) : (m.count f i n).msr = m.msr := rfl
@[simp] theorem Mach.count_adm (m : Mach) (f : Fd) (i n : Nat) : (m.count f i n).adm = m.adm := rfl
@[simp] theorem Mach.count_dsp (m : Mach) (f : Fd) (i n : Nat) : (m.count f i n).dsp = m.dsp := rfl
@[simp] theorem Mach.count_pub (m : Mach) (f : Fd) (i n : Nat) : (m.count f i n).pub = m.pub := rfl
@[simp] theorem Mach.count_twn (m : Mach) (f : Fd) (i n : Nat) : (m.count f i n).twn = m.twn := rfl
@[simp] theorem Mach.count_parts (m : Mach) (f : Fd) (i n : Nat) : (m.count f i n).parts = m.parts := rfl
@[simp] theorem Mach.count_ports (m : Mach) (f : Fd) (i n : Nat) : (m.count f i n).ports = m.ports := rfl
@[simp] theorem Mach.count_pairs (m : Mach) (f : Fd) (i n : Nat) : (m.count f i n).pairs = m.pairs := rfl
@[simp] theorem Mach.count_swc (m : Mach) (f : Fd) (i n : Nat) : (m.count f i n).swc = m.swc := rfl
@[simp] theorem Mach.count_acq (m : Mach) (f : Fd) (i n : Nat) : (m.count f i n).acq = m.acq := rfl
@[simp] theorem Mach.count_nrg (m : Mach) (f : Fd) (i n : Nat) : (m.count f i n).nrg = m.nrg := rfl
@[simp] theorem Mach.count_pls (m : Mach) (f : Fd) (i n : Nat) : (m.count f i n).pls = m.pls := rfl
@[simp] theorem Mach.count_rim (m : Mach) (f : Fd) (i n : Nat) : (m.count f i n).rim = m.rim := rfl
@[simp] theorem Mach.count_flash (m : Mach) (f : Fd) (i n : Nat) : (m.count f i n).flash = m.flash := rfl
@[simp] theorem Mach.count_rst (m : Mach) (f : Fd) (i n : Nat) : (m.count f i n).rst = m.rst := rfl

/-! ### `Mach.raise` -/

@[simp] theorem Mach.raise_now (m : Mach) (f : Fd) (i v : Nat) : (m.raise f i v).now = m.now := rfl
@[simp] theorem Mach.raise_free (m : Mach) (f : Fd) (i v : Nat) : (m.raise f i v).free = m.free := rfl
@[simp] theorem Mach.raise_powered (m : Mach) (f : Fd) (i v : Nat) : (m.raise f i v).powered = m.powered := rfl
@[simp] theorem Mach.raise_force (m : Mach) (f : Fd) (i v : Nat) : (m.raise f i v).force = m.force := rfl
@[simp] theorem Mach.raise_low (m : Mach) (f : Fd) (i v : Nat) : (m.raise f i v).low = m.low := rfl
@[simp] theorem Mach.raise_capt (m : Mach) (f : Fd) (i v : Nat) : (m.raise f i v).capt = m.capt := rfl
@[simp] theorem Mach.raise_frozen (m : Mach) (f : Fd) (i v : Nat) : (m.raise f i v).frozen = m.frozen := rfl
@[simp] theorem Mach.raise_timers (m : Mach) (f : Fd) (i v : Nat) : (m.raise f i v).timers = m.timers := rfl
@[simp] theorem Mach.raise_bulk (m : Mach) (f : Fd) (i v : Nat) : (m.raise f i v).bulk = m.bulk := rfl
@[simp] theorem Mach.raise_bulkF (m : Mach) (f : Fd) (i v : Nat) : (m.raise f i v).bulkF = m.bulkF := rfl
@[simp] theorem Mach.raise_mem (m : Mach) (f : Fd) (i v : Nat) : (m.raise f i v).mem = m.mem := rfl
@[simp] theorem Mach.raise_outs (m : Mach) (f : Fd) (i v : Nat) : (m.raise f i v).outs = m.outs := rfl
@[simp] theorem Mach.raise_coil (m : Mach) (f : Fd) (i v : Nat) : (m.raise f i v).coil = m.coil := rfl
@[simp] theorem Mach.raise_cmd (m : Mach) (f : Fd) (i v : Nat) : (m.raise f i v).cmd = m.cmd := rfl
@[simp] theorem Mach.raise_cdc (m : Mach) (f : Fd) (i v : Nat) : (m.raise f i v).cdc = m.cdc := rfl
@[simp] theorem Mach.raise_pace (m : Mach) (f : Fd) (i v : Nat) : (m.raise f i v).pace = m.pace := rfl
@[simp] theorem Mach.raise_time (m : Mach) (f : Fd) (i v : Nat) : (m.raise f i v).time = m.time := rfl
@[simp] theorem Mach.raise_ptp (m : Mach) (f : Fd) (i v : Nat) : (m.raise f i v).ptp = m.ptp := rfl
@[simp] theorem Mach.raise_svi (m : Mach) (f : Fd) (i v : Nat) : (m.raise f i v).svi = m.svi := rfl
@[simp] theorem Mach.raise_msr (m : Mach) (f : Fd) (i v : Nat) : (m.raise f i v).msr = m.msr := rfl
@[simp] theorem Mach.raise_adm (m : Mach) (f : Fd) (i v : Nat) : (m.raise f i v).adm = m.adm := rfl
@[simp] theorem Mach.raise_dsp (m : Mach) (f : Fd) (i v : Nat) : (m.raise f i v).dsp = m.dsp := rfl
@[simp] theorem Mach.raise_pub (m : Mach) (f : Fd) (i v : Nat) : (m.raise f i v).pub = m.pub := rfl
@[simp] theorem Mach.raise_twn (m : Mach) (f : Fd) (i v : Nat) : (m.raise f i v).twn = m.twn := rfl
@[simp] theorem Mach.raise_parts (m : Mach) (f : Fd) (i v : Nat) : (m.raise f i v).parts = m.parts := rfl
@[simp] theorem Mach.raise_ports (m : Mach) (f : Fd) (i v : Nat) : (m.raise f i v).ports = m.ports := rfl
@[simp] theorem Mach.raise_pairs (m : Mach) (f : Fd) (i v : Nat) : (m.raise f i v).pairs = m.pairs := rfl
@[simp] theorem Mach.raise_swc (m : Mach) (f : Fd) (i v : Nat) : (m.raise f i v).swc = m.swc := rfl
@[simp] theorem Mach.raise_acq (m : Mach) (f : Fd) (i v : Nat) : (m.raise f i v).acq = m.acq := rfl
@[simp] theorem Mach.raise_nrg (m : Mach) (f : Fd) (i v : Nat) : (m.raise f i v).nrg = m.nrg := rfl
@[simp] theorem Mach.raise_pls (m : Mach) (f : Fd) (i v : Nat) : (m.raise f i v).pls = m.pls := rfl
@[simp] theorem Mach.raise_rim (m : Mach) (f : Fd) (i v : Nat) : (m.raise f i v).rim = m.rim := rfl
@[simp] theorem Mach.raise_flash (m : Mach) (f : Fd) (i v : Nat) : (m.raise f i v).flash = m.flash := rfl
@[simp] theorem Mach.raise_rst (m : Mach) (f : Fd) (i v : Nat) : (m.raise f i v).rst = m.rst := rfl

/-! ### `Mach.advance` -/

@[simp] theorem Mach.advance_free (m : Mach) (t : Nat) : (m.advance t).free = m.free := rfl
@[simp] theorem Mach.advance_powered (m : Mach) (t : Nat) : (m.advance t).powered = m.powered := rfl
@[simp] theorem Mach.advance_regs (m : Mach) (t : Nat) : (m.advance t).regs = m.regs := rfl
@[simp] theorem Mach.advance_force (m : Mach) (t : Nat) : (m.advance t).force = m.force := rfl
@[simp] theorem Mach.advance_low (m : Mach) (t : Nat) : (m.advance t).low = m.low := rfl
@[simp] theorem Mach.advance_capt (m : Mach) (t : Nat) : (m.advance t).capt = m.capt := rfl
@[simp] theorem Mach.advance_frozen (m : Mach) (t : Nat) : (m.advance t).frozen = m.frozen := rfl
@[simp] theorem Mach.advance_timers (m : Mach) (t : Nat) : (m.advance t).timers = m.timers := rfl
@[simp] theorem Mach.advance_bulk (m : Mach) (t : Nat) : (m.advance t).bulk = m.bulk := rfl
@[simp] theorem Mach.advance_bulkF (m : Mach) (t : Nat) : (m.advance t).bulkF = m.bulkF := rfl
@[simp] theorem Mach.advance_mem (m : Mach) (t : Nat) : (m.advance t).mem = m.mem := rfl
@[simp] theorem Mach.advance_outs (m : Mach) (t : Nat) : (m.advance t).outs = m.outs := rfl
@[simp] theorem Mach.advance_coil (m : Mach) (t : Nat) : (m.advance t).coil = m.coil := rfl
@[simp] theorem Mach.advance_cmd (m : Mach) (t : Nat) : (m.advance t).cmd = m.cmd := rfl
@[simp] theorem Mach.advance_cdc (m : Mach) (t : Nat) : (m.advance t).cdc = m.cdc := rfl
@[simp] theorem Mach.advance_pace (m : Mach) (t : Nat) : (m.advance t).pace = m.pace := rfl
@[simp] theorem Mach.advance_time (m : Mach) (t : Nat) : (m.advance t).time = m.time := rfl
@[simp] theorem Mach.advance_ptp (m : Mach) (t : Nat) : (m.advance t).ptp = m.ptp := rfl
@[simp] theorem Mach.advance_svi (m : Mach) (t : Nat) : (m.advance t).svi = m.svi := rfl
@[simp] theorem Mach.advance_msr (m : Mach) (t : Nat) : (m.advance t).msr = m.msr := rfl
@[simp] theorem Mach.advance_adm (m : Mach) (t : Nat) : (m.advance t).adm = m.adm := rfl
@[simp] theorem Mach.advance_dsp (m : Mach) (t : Nat) : (m.advance t).dsp = m.dsp := rfl
@[simp] theorem Mach.advance_pub (m : Mach) (t : Nat) : (m.advance t).pub = m.pub := rfl
@[simp] theorem Mach.advance_twn (m : Mach) (t : Nat) : (m.advance t).twn = m.twn := rfl
@[simp] theorem Mach.advance_parts (m : Mach) (t : Nat) : (m.advance t).parts = m.parts := rfl
@[simp] theorem Mach.advance_ports (m : Mach) (t : Nat) : (m.advance t).ports = m.ports := rfl
@[simp] theorem Mach.advance_pairs (m : Mach) (t : Nat) : (m.advance t).pairs = m.pairs := rfl
@[simp] theorem Mach.advance_swc (m : Mach) (t : Nat) : (m.advance t).swc = m.swc := rfl
@[simp] theorem Mach.advance_acq (m : Mach) (t : Nat) : (m.advance t).acq = m.acq := rfl
@[simp] theorem Mach.advance_nrg (m : Mach) (t : Nat) : (m.advance t).nrg = m.nrg := rfl
@[simp] theorem Mach.advance_pls (m : Mach) (t : Nat) : (m.advance t).pls = m.pls := rfl
@[simp] theorem Mach.advance_rim (m : Mach) (t : Nat) : (m.advance t).rim = m.rim := rfl
@[simp] theorem Mach.advance_flash (m : Mach) (t : Nat) : (m.advance t).flash = m.flash := rfl
@[simp] theorem Mach.advance_rst (m : Mach) (t : Nat) : (m.advance t).rst = m.rst := rfl

/-! ### `Mach.arm` -/

@[simp] theorem Mach.arm_now (m : Mach) (t : Timer) (a : Nat) : (m.arm t a).now = m.now := rfl
@[simp] theorem Mach.arm_free (m : Mach) (t : Timer) (a : Nat) : (m.arm t a).free = m.free := rfl
@[simp] theorem Mach.arm_powered (m : Mach) (t : Timer) (a : Nat) : (m.arm t a).powered = m.powered := rfl
@[simp] theorem Mach.arm_regs (m : Mach) (t : Timer) (a : Nat) : (m.arm t a).regs = m.regs := rfl
@[simp] theorem Mach.arm_force (m : Mach) (t : Timer) (a : Nat) : (m.arm t a).force = m.force := rfl
@[simp] theorem Mach.arm_low (m : Mach) (t : Timer) (a : Nat) : (m.arm t a).low = m.low := rfl
@[simp] theorem Mach.arm_capt (m : Mach) (t : Timer) (a : Nat) : (m.arm t a).capt = m.capt := rfl
@[simp] theorem Mach.arm_frozen (m : Mach) (t : Timer) (a : Nat) : (m.arm t a).frozen = m.frozen := rfl
@[simp] theorem Mach.arm_bulk (m : Mach) (t : Timer) (a : Nat) : (m.arm t a).bulk = m.bulk := rfl
@[simp] theorem Mach.arm_bulkF (m : Mach) (t : Timer) (a : Nat) : (m.arm t a).bulkF = m.bulkF := rfl
@[simp] theorem Mach.arm_mem (m : Mach) (t : Timer) (a : Nat) : (m.arm t a).mem = m.mem := rfl
@[simp] theorem Mach.arm_outs (m : Mach) (t : Timer) (a : Nat) : (m.arm t a).outs = m.outs := rfl
@[simp] theorem Mach.arm_coil (m : Mach) (t : Timer) (a : Nat) : (m.arm t a).coil = m.coil := rfl
@[simp] theorem Mach.arm_cmd (m : Mach) (t : Timer) (a : Nat) : (m.arm t a).cmd = m.cmd := rfl
@[simp] theorem Mach.arm_cdc (m : Mach) (t : Timer) (a : Nat) : (m.arm t a).cdc = m.cdc := rfl
@[simp] theorem Mach.arm_pace (m : Mach) (t : Timer) (a : Nat) : (m.arm t a).pace = m.pace := rfl
@[simp] theorem Mach.arm_time (m : Mach) (t : Timer) (a : Nat) : (m.arm t a).time = m.time := rfl
@[simp] theorem Mach.arm_ptp (m : Mach) (t : Timer) (a : Nat) : (m.arm t a).ptp = m.ptp := rfl
@[simp] theorem Mach.arm_svi (m : Mach) (t : Timer) (a : Nat) : (m.arm t a).svi = m.svi := rfl
@[simp] theorem Mach.arm_msr (m : Mach) (t : Timer) (a : Nat) : (m.arm t a).msr = m.msr := rfl
@[simp] theorem Mach.arm_adm (m : Mach) (t : Timer) (a : Nat) : (m.arm t a).adm = m.adm := rfl
@[simp] theorem Mach.arm_dsp (m : Mach) (t : Timer) (a : Nat) : (m.arm t a).dsp = m.dsp := rfl
@[simp] theorem Mach.arm_pub (m : Mach) (t : Timer) (a : Nat) : (m.arm t a).pub = m.pub := rfl
@[simp] theorem Mach.arm_twn (m : Mach) (t : Timer) (a : Nat) : (m.arm t a).twn = m.twn := rfl
@[simp] theorem Mach.arm_parts (m : Mach) (t : Timer) (a : Nat) : (m.arm t a).parts = m.parts := rfl
@[simp] theorem Mach.arm_ports (m : Mach) (t : Timer) (a : Nat) : (m.arm t a).ports = m.ports := rfl
@[simp] theorem Mach.arm_pairs (m : Mach) (t : Timer) (a : Nat) : (m.arm t a).pairs = m.pairs := rfl
@[simp] theorem Mach.arm_swc (m : Mach) (t : Timer) (a : Nat) : (m.arm t a).swc = m.swc := rfl
@[simp] theorem Mach.arm_acq (m : Mach) (t : Timer) (a : Nat) : (m.arm t a).acq = m.acq := rfl
@[simp] theorem Mach.arm_nrg (m : Mach) (t : Timer) (a : Nat) : (m.arm t a).nrg = m.nrg := rfl
@[simp] theorem Mach.arm_pls (m : Mach) (t : Timer) (a : Nat) : (m.arm t a).pls = m.pls := rfl
@[simp] theorem Mach.arm_rim (m : Mach) (t : Timer) (a : Nat) : (m.arm t a).rim = m.rim := rfl
@[simp] theorem Mach.arm_flash (m : Mach) (t : Timer) (a : Nat) : (m.arm t a).flash = m.flash := rfl
@[simp] theorem Mach.arm_rst (m : Mach) (t : Timer) (a : Nat) : (m.arm t a).rst = m.rst := rfl

/-! ### `Mach.disarm` -/

@[simp] theorem Mach.disarm_now (m : Mach) (t : Timer) : (m.disarm t).now = m.now := rfl
@[simp] theorem Mach.disarm_free (m : Mach) (t : Timer) : (m.disarm t).free = m.free := rfl
@[simp] theorem Mach.disarm_powered (m : Mach) (t : Timer) : (m.disarm t).powered = m.powered := rfl
@[simp] theorem Mach.disarm_regs (m : Mach) (t : Timer) : (m.disarm t).regs = m.regs := rfl
@[simp] theorem Mach.disarm_force (m : Mach) (t : Timer) : (m.disarm t).force = m.force := rfl
@[simp] theorem Mach.disarm_low (m : Mach) (t : Timer) : (m.disarm t).low = m.low := rfl
@[simp] theorem Mach.disarm_capt (m : Mach) (t : Timer) : (m.disarm t).capt = m.capt := rfl
@[simp] theorem Mach.disarm_frozen (m : Mach) (t : Timer) : (m.disarm t).frozen = m.frozen := rfl
@[simp] theorem Mach.disarm_bulk (m : Mach) (t : Timer) : (m.disarm t).bulk = m.bulk := rfl
@[simp] theorem Mach.disarm_bulkF (m : Mach) (t : Timer) : (m.disarm t).bulkF = m.bulkF := rfl
@[simp] theorem Mach.disarm_mem (m : Mach) (t : Timer) : (m.disarm t).mem = m.mem := rfl
@[simp] theorem Mach.disarm_outs (m : Mach) (t : Timer) : (m.disarm t).outs = m.outs := rfl
@[simp] theorem Mach.disarm_coil (m : Mach) (t : Timer) : (m.disarm t).coil = m.coil := rfl
@[simp] theorem Mach.disarm_cmd (m : Mach) (t : Timer) : (m.disarm t).cmd = m.cmd := rfl
@[simp] theorem Mach.disarm_cdc (m : Mach) (t : Timer) : (m.disarm t).cdc = m.cdc := rfl
@[simp] theorem Mach.disarm_pace (m : Mach) (t : Timer) : (m.disarm t).pace = m.pace := rfl
@[simp] theorem Mach.disarm_time (m : Mach) (t : Timer) : (m.disarm t).time = m.time := rfl
@[simp] theorem Mach.disarm_ptp (m : Mach) (t : Timer) : (m.disarm t).ptp = m.ptp := rfl
@[simp] theorem Mach.disarm_svi (m : Mach) (t : Timer) : (m.disarm t).svi = m.svi := rfl
@[simp] theorem Mach.disarm_msr (m : Mach) (t : Timer) : (m.disarm t).msr = m.msr := rfl
@[simp] theorem Mach.disarm_adm (m : Mach) (t : Timer) : (m.disarm t).adm = m.adm := rfl
@[simp] theorem Mach.disarm_dsp (m : Mach) (t : Timer) : (m.disarm t).dsp = m.dsp := rfl
@[simp] theorem Mach.disarm_pub (m : Mach) (t : Timer) : (m.disarm t).pub = m.pub := rfl
@[simp] theorem Mach.disarm_twn (m : Mach) (t : Timer) : (m.disarm t).twn = m.twn := rfl
@[simp] theorem Mach.disarm_parts (m : Mach) (t : Timer) : (m.disarm t).parts = m.parts := rfl
@[simp] theorem Mach.disarm_ports (m : Mach) (t : Timer) : (m.disarm t).ports = m.ports := rfl
@[simp] theorem Mach.disarm_pairs (m : Mach) (t : Timer) : (m.disarm t).pairs = m.pairs := rfl
@[simp] theorem Mach.disarm_swc (m : Mach) (t : Timer) : (m.disarm t).swc = m.swc := rfl
@[simp] theorem Mach.disarm_acq (m : Mach) (t : Timer) : (m.disarm t).acq = m.acq := rfl
@[simp] theorem Mach.disarm_nrg (m : Mach) (t : Timer) : (m.disarm t).nrg = m.nrg := rfl
@[simp] theorem Mach.disarm_pls (m : Mach) (t : Timer) : (m.disarm t).pls = m.pls := rfl
@[simp] theorem Mach.disarm_rim (m : Mach) (t : Timer) : (m.disarm t).rim = m.rim := rfl
@[simp] theorem Mach.disarm_flash (m : Mach) (t : Timer) : (m.disarm t).flash = m.flash := rfl
@[simp] theorem Mach.disarm_rst (m : Mach) (t : Timer) : (m.disarm t).rst = m.rst := rfl

/-! ### `Mach.emit` -/

@[simp] theorem Mach.emit_now (m : Mach) (o : Out) : (m.emit o).now = m.now := rfl
@[simp] theorem Mach.emit_free (m : Mach) (o : Out) : (m.emit o).free = m.free := rfl
@[simp] theorem Mach.emit_powered (m : Mach) (o : Out) : (m.emit o).powered = m.powered := rfl
@[simp] theorem Mach.emit_regs (m : Mach) (o : Out) : (m.emit o).regs = m.regs := rfl
@[simp] theorem Mach.emit_force (m : Mach) (o : Out) : (m.emit o).force = m.force := rfl
@[simp] theorem Mach.emit_low (m : Mach) (o : Out) : (m.emit o).low = m.low := rfl
@[simp] theorem Mach.emit_capt (m : Mach) (o : Out) : (m.emit o).capt = m.capt := rfl
@[simp] theorem Mach.emit_frozen (m : Mach) (o : Out) : (m.emit o).frozen = m.frozen := rfl
@[simp] theorem Mach.emit_timers (m : Mach) (o : Out) : (m.emit o).timers = m.timers := rfl
@[simp] theorem Mach.emit_bulk (m : Mach) (o : Out) : (m.emit o).bulk = m.bulk := rfl
@[simp] theorem Mach.emit_bulkF (m : Mach) (o : Out) : (m.emit o).bulkF = m.bulkF := rfl
@[simp] theorem Mach.emit_mem (m : Mach) (o : Out) : (m.emit o).mem = m.mem := rfl
@[simp] theorem Mach.emit_coil (m : Mach) (o : Out) : (m.emit o).coil = m.coil := rfl
@[simp] theorem Mach.emit_cmd (m : Mach) (o : Out) : (m.emit o).cmd = m.cmd := rfl
@[simp] theorem Mach.emit_cdc (m : Mach) (o : Out) : (m.emit o).cdc = m.cdc := rfl
@[simp] theorem Mach.emit_pace (m : Mach) (o : Out) : (m.emit o).pace = m.pace := rfl
@[simp] theorem Mach.emit_time (m : Mach) (o : Out) : (m.emit o).time = m.time := rfl
@[simp] theorem Mach.emit_ptp (m : Mach) (o : Out) : (m.emit o).ptp = m.ptp := rfl
@[simp] theorem Mach.emit_svi (m : Mach) (o : Out) : (m.emit o).svi = m.svi := rfl
@[simp] theorem Mach.emit_msr (m : Mach) (o : Out) : (m.emit o).msr = m.msr := rfl
@[simp] theorem Mach.emit_adm (m : Mach) (o : Out) : (m.emit o).adm = m.adm := rfl
@[simp] theorem Mach.emit_dsp (m : Mach) (o : Out) : (m.emit o).dsp = m.dsp := rfl
@[simp] theorem Mach.emit_pub (m : Mach) (o : Out) : (m.emit o).pub = m.pub := rfl
@[simp] theorem Mach.emit_twn (m : Mach) (o : Out) : (m.emit o).twn = m.twn := rfl
@[simp] theorem Mach.emit_parts (m : Mach) (o : Out) : (m.emit o).parts = m.parts := rfl
@[simp] theorem Mach.emit_ports (m : Mach) (o : Out) : (m.emit o).ports = m.ports := rfl
@[simp] theorem Mach.emit_pairs (m : Mach) (o : Out) : (m.emit o).pairs = m.pairs := rfl
@[simp] theorem Mach.emit_swc (m : Mach) (o : Out) : (m.emit o).swc = m.swc := rfl
@[simp] theorem Mach.emit_acq (m : Mach) (o : Out) : (m.emit o).acq = m.acq := rfl
@[simp] theorem Mach.emit_nrg (m : Mach) (o : Out) : (m.emit o).nrg = m.nrg := rfl
@[simp] theorem Mach.emit_pls (m : Mach) (o : Out) : (m.emit o).pls = m.pls := rfl
@[simp] theorem Mach.emit_rim (m : Mach) (o : Out) : (m.emit o).rim = m.rim := rfl
@[simp] theorem Mach.emit_flash (m : Mach) (o : Out) : (m.emit o).flash = m.flash := rfl
@[simp] theorem Mach.emit_rst (m : Mach) (o : Out) : (m.emit o).rst = m.rst := rfl

/-! ### `Mach.onCoil` -/

@[simp] theorem Mach.onCoil_now (m : Mach) (f : Coil → Coil) : (m.onCoil f).now = m.now := rfl
@[simp] theorem Mach.onCoil_free (m : Mach) (f : Coil → Coil) : (m.onCoil f).free = m.free := rfl
@[simp] theorem Mach.onCoil_powered (m : Mach) (f : Coil → Coil) : (m.onCoil f).powered = m.powered := rfl
@[simp] theorem Mach.onCoil_regs (m : Mach) (f : Coil → Coil) : (m.onCoil f).regs = m.regs := rfl
@[simp] theorem Mach.onCoil_force (m : Mach) (f : Coil → Coil) : (m.onCoil f).force = m.force := rfl
@[simp] theorem Mach.onCoil_low (m : Mach) (f : Coil → Coil) : (m.onCoil f).low = m.low := rfl
@[simp] theorem Mach.onCoil_capt (m : Mach) (f : Coil → Coil) : (m.onCoil f).capt = m.capt := rfl
@[simp] theorem Mach.onCoil_frozen (m : Mach) (f : Coil → Coil) : (m.onCoil f).frozen = m.frozen := rfl
@[simp] theorem Mach.onCoil_timers (m : Mach) (f : Coil → Coil) : (m.onCoil f).timers = m.timers := rfl
@[simp] theorem Mach.onCoil_bulk (m : Mach) (f : Coil → Coil) : (m.onCoil f).bulk = m.bulk := rfl
@[simp] theorem Mach.onCoil_bulkF (m : Mach) (f : Coil → Coil) : (m.onCoil f).bulkF = m.bulkF := rfl
@[simp] theorem Mach.onCoil_mem (m : Mach) (f : Coil → Coil) : (m.onCoil f).mem = m.mem := rfl
@[simp] theorem Mach.onCoil_outs (m : Mach) (f : Coil → Coil) : (m.onCoil f).outs = m.outs := rfl
@[simp] theorem Mach.onCoil_cmd (m : Mach) (f : Coil → Coil) : (m.onCoil f).cmd = m.cmd := rfl
@[simp] theorem Mach.onCoil_cdc (m : Mach) (f : Coil → Coil) : (m.onCoil f).cdc = m.cdc := rfl
@[simp] theorem Mach.onCoil_pace (m : Mach) (f : Coil → Coil) : (m.onCoil f).pace = m.pace := rfl
@[simp] theorem Mach.onCoil_time (m : Mach) (f : Coil → Coil) : (m.onCoil f).time = m.time := rfl
@[simp] theorem Mach.onCoil_ptp (m : Mach) (f : Coil → Coil) : (m.onCoil f).ptp = m.ptp := rfl
@[simp] theorem Mach.onCoil_svi (m : Mach) (f : Coil → Coil) : (m.onCoil f).svi = m.svi := rfl
@[simp] theorem Mach.onCoil_msr (m : Mach) (f : Coil → Coil) : (m.onCoil f).msr = m.msr := rfl
@[simp] theorem Mach.onCoil_adm (m : Mach) (f : Coil → Coil) : (m.onCoil f).adm = m.adm := rfl
@[simp] theorem Mach.onCoil_dsp (m : Mach) (f : Coil → Coil) : (m.onCoil f).dsp = m.dsp := rfl
@[simp] theorem Mach.onCoil_pub (m : Mach) (f : Coil → Coil) : (m.onCoil f).pub = m.pub := rfl
@[simp] theorem Mach.onCoil_twn (m : Mach) (f : Coil → Coil) : (m.onCoil f).twn = m.twn := rfl
@[simp] theorem Mach.onCoil_parts (m : Mach) (f : Coil → Coil) : (m.onCoil f).parts = m.parts := rfl
@[simp] theorem Mach.onCoil_ports (m : Mach) (f : Coil → Coil) : (m.onCoil f).ports = m.ports := rfl
@[simp] theorem Mach.onCoil_pairs (m : Mach) (f : Coil → Coil) : (m.onCoil f).pairs = m.pairs := rfl
@[simp] theorem Mach.onCoil_swc (m : Mach) (f : Coil → Coil) : (m.onCoil f).swc = m.swc := rfl
@[simp] theorem Mach.onCoil_acq (m : Mach) (f : Coil → Coil) : (m.onCoil f).acq = m.acq := rfl
@[simp] theorem Mach.onCoil_nrg (m : Mach) (f : Coil → Coil) : (m.onCoil f).nrg = m.nrg := rfl
@[simp] theorem Mach.onCoil_pls (m : Mach) (f : Coil → Coil) : (m.onCoil f).pls = m.pls := rfl
@[simp] theorem Mach.onCoil_rim (m : Mach) (f : Coil → Coil) : (m.onCoil f).rim = m.rim := rfl
@[simp] theorem Mach.onCoil_flash (m : Mach) (f : Coil → Coil) : (m.onCoil f).flash = m.flash := rfl
@[simp] theorem Mach.onCoil_rst (m : Mach) (f : Coil → Coil) : (m.onCoil f).rst = m.rst := rfl

/-! ### `Mach.onCmd` -/

@[simp] theorem Mach.onCmd_now (m : Mach) (f : Cmd → Cmd) : (m.onCmd f).now = m.now := rfl
@[simp] theorem Mach.onCmd_free (m : Mach) (f : Cmd → Cmd) : (m.onCmd f).free = m.free := rfl
@[simp] theorem Mach.onCmd_powered (m : Mach) (f : Cmd → Cmd) : (m.onCmd f).powered = m.powered := rfl
@[simp] theorem Mach.onCmd_regs (m : Mach) (f : Cmd → Cmd) : (m.onCmd f).regs = m.regs := rfl
@[simp] theorem Mach.onCmd_force (m : Mach) (f : Cmd → Cmd) : (m.onCmd f).force = m.force := rfl
@[simp] theorem Mach.onCmd_low (m : Mach) (f : Cmd → Cmd) : (m.onCmd f).low = m.low := rfl
@[simp] theorem Mach.onCmd_capt (m : Mach) (f : Cmd → Cmd) : (m.onCmd f).capt = m.capt := rfl
@[simp] theorem Mach.onCmd_frozen (m : Mach) (f : Cmd → Cmd) : (m.onCmd f).frozen = m.frozen := rfl
@[simp] theorem Mach.onCmd_timers (m : Mach) (f : Cmd → Cmd) : (m.onCmd f).timers = m.timers := rfl
@[simp] theorem Mach.onCmd_bulk (m : Mach) (f : Cmd → Cmd) : (m.onCmd f).bulk = m.bulk := rfl
@[simp] theorem Mach.onCmd_bulkF (m : Mach) (f : Cmd → Cmd) : (m.onCmd f).bulkF = m.bulkF := rfl
@[simp] theorem Mach.onCmd_mem (m : Mach) (f : Cmd → Cmd) : (m.onCmd f).mem = m.mem := rfl
@[simp] theorem Mach.onCmd_outs (m : Mach) (f : Cmd → Cmd) : (m.onCmd f).outs = m.outs := rfl
@[simp] theorem Mach.onCmd_coil (m : Mach) (f : Cmd → Cmd) : (m.onCmd f).coil = m.coil := rfl
@[simp] theorem Mach.onCmd_cdc (m : Mach) (f : Cmd → Cmd) : (m.onCmd f).cdc = m.cdc := rfl
@[simp] theorem Mach.onCmd_pace (m : Mach) (f : Cmd → Cmd) : (m.onCmd f).pace = m.pace := rfl
@[simp] theorem Mach.onCmd_time (m : Mach) (f : Cmd → Cmd) : (m.onCmd f).time = m.time := rfl
@[simp] theorem Mach.onCmd_ptp (m : Mach) (f : Cmd → Cmd) : (m.onCmd f).ptp = m.ptp := rfl
@[simp] theorem Mach.onCmd_svi (m : Mach) (f : Cmd → Cmd) : (m.onCmd f).svi = m.svi := rfl
@[simp] theorem Mach.onCmd_msr (m : Mach) (f : Cmd → Cmd) : (m.onCmd f).msr = m.msr := rfl
@[simp] theorem Mach.onCmd_adm (m : Mach) (f : Cmd → Cmd) : (m.onCmd f).adm = m.adm := rfl
@[simp] theorem Mach.onCmd_dsp (m : Mach) (f : Cmd → Cmd) : (m.onCmd f).dsp = m.dsp := rfl
@[simp] theorem Mach.onCmd_pub (m : Mach) (f : Cmd → Cmd) : (m.onCmd f).pub = m.pub := rfl
@[simp] theorem Mach.onCmd_twn (m : Mach) (f : Cmd → Cmd) : (m.onCmd f).twn = m.twn := rfl
@[simp] theorem Mach.onCmd_parts (m : Mach) (f : Cmd → Cmd) : (m.onCmd f).parts = m.parts := rfl
@[simp] theorem Mach.onCmd_ports (m : Mach) (f : Cmd → Cmd) : (m.onCmd f).ports = m.ports := rfl
@[simp] theorem Mach.onCmd_pairs (m : Mach) (f : Cmd → Cmd) : (m.onCmd f).pairs = m.pairs := rfl
@[simp] theorem Mach.onCmd_swc (m : Mach) (f : Cmd → Cmd) : (m.onCmd f).swc = m.swc := rfl
@[simp] theorem Mach.onCmd_acq (m : Mach) (f : Cmd → Cmd) : (m.onCmd f).acq = m.acq := rfl
@[simp] theorem Mach.onCmd_nrg (m : Mach) (f : Cmd → Cmd) : (m.onCmd f).nrg = m.nrg := rfl
@[simp] theorem Mach.onCmd_pls (m : Mach) (f : Cmd → Cmd) : (m.onCmd f).pls = m.pls := rfl
@[simp] theorem Mach.onCmd_rim (m : Mach) (f : Cmd → Cmd) : (m.onCmd f).rim = m.rim := rfl
@[simp] theorem Mach.onCmd_flash (m : Mach) (f : Cmd → Cmd) : (m.onCmd f).flash = m.flash := rfl
@[simp] theorem Mach.onCmd_rst (m : Mach) (f : Cmd → Cmd) : (m.onCmd f).rst = m.rst := rfl

/-! ### `Mach.onCrossing` -/

@[simp] theorem Mach.onCrossing_now (m : Mach) (x : Nat) (f : Crossing → Crossing) : (m.onCrossing x f).now = m.now := rfl
@[simp] theorem Mach.onCrossing_free (m : Mach) (x : Nat) (f : Crossing → Crossing) : (m.onCrossing x f).free = m.free := rfl
@[simp] theorem Mach.onCrossing_powered (m : Mach) (x : Nat) (f : Crossing → Crossing) : (m.onCrossing x f).powered = m.powered := rfl
@[simp] theorem Mach.onCrossing_regs (m : Mach) (x : Nat) (f : Crossing → Crossing) : (m.onCrossing x f).regs = m.regs := rfl
@[simp] theorem Mach.onCrossing_force (m : Mach) (x : Nat) (f : Crossing → Crossing) : (m.onCrossing x f).force = m.force := rfl
@[simp] theorem Mach.onCrossing_low (m : Mach) (x : Nat) (f : Crossing → Crossing) : (m.onCrossing x f).low = m.low := rfl
@[simp] theorem Mach.onCrossing_capt (m : Mach) (x : Nat) (f : Crossing → Crossing) : (m.onCrossing x f).capt = m.capt := rfl
@[simp] theorem Mach.onCrossing_frozen (m : Mach) (x : Nat) (f : Crossing → Crossing) : (m.onCrossing x f).frozen = m.frozen := rfl
@[simp] theorem Mach.onCrossing_timers (m : Mach) (x : Nat) (f : Crossing → Crossing) : (m.onCrossing x f).timers = m.timers := rfl
@[simp] theorem Mach.onCrossing_bulk (m : Mach) (x : Nat) (f : Crossing → Crossing) : (m.onCrossing x f).bulk = m.bulk := rfl
@[simp] theorem Mach.onCrossing_bulkF (m : Mach) (x : Nat) (f : Crossing → Crossing) : (m.onCrossing x f).bulkF = m.bulkF := rfl
@[simp] theorem Mach.onCrossing_mem (m : Mach) (x : Nat) (f : Crossing → Crossing) : (m.onCrossing x f).mem = m.mem := rfl
@[simp] theorem Mach.onCrossing_outs (m : Mach) (x : Nat) (f : Crossing → Crossing) : (m.onCrossing x f).outs = m.outs := rfl
@[simp] theorem Mach.onCrossing_coil (m : Mach) (x : Nat) (f : Crossing → Crossing) : (m.onCrossing x f).coil = m.coil := rfl
@[simp] theorem Mach.onCrossing_cmd (m : Mach) (x : Nat) (f : Crossing → Crossing) : (m.onCrossing x f).cmd = m.cmd := rfl
@[simp] theorem Mach.onCrossing_pace (m : Mach) (x : Nat) (f : Crossing → Crossing) : (m.onCrossing x f).pace = m.pace := rfl
@[simp] theorem Mach.onCrossing_time (m : Mach) (x : Nat) (f : Crossing → Crossing) : (m.onCrossing x f).time = m.time := rfl
@[simp] theorem Mach.onCrossing_ptp (m : Mach) (x : Nat) (f : Crossing → Crossing) : (m.onCrossing x f).ptp = m.ptp := rfl
@[simp] theorem Mach.onCrossing_svi (m : Mach) (x : Nat) (f : Crossing → Crossing) : (m.onCrossing x f).svi = m.svi := rfl
@[simp] theorem Mach.onCrossing_msr (m : Mach) (x : Nat) (f : Crossing → Crossing) : (m.onCrossing x f).msr = m.msr := rfl
@[simp] theorem Mach.onCrossing_adm (m : Mach) (x : Nat) (f : Crossing → Crossing) : (m.onCrossing x f).adm = m.adm := rfl
@[simp] theorem Mach.onCrossing_dsp (m : Mach) (x : Nat) (f : Crossing → Crossing) : (m.onCrossing x f).dsp = m.dsp := rfl
@[simp] theorem Mach.onCrossing_pub (m : Mach) (x : Nat) (f : Crossing → Crossing) : (m.onCrossing x f).pub = m.pub := rfl
@[simp] theorem Mach.onCrossing_twn (m : Mach) (x : Nat) (f : Crossing → Crossing) : (m.onCrossing x f).twn = m.twn := rfl
@[simp] theorem Mach.onCrossing_parts (m : Mach) (x : Nat) (f : Crossing → Crossing) : (m.onCrossing x f).parts = m.parts := rfl
@[simp] theorem Mach.onCrossing_ports (m : Mach) (x : Nat) (f : Crossing → Crossing) : (m.onCrossing x f).ports = m.ports := rfl
@[simp] theorem Mach.onCrossing_pairs (m : Mach) (x : Nat) (f : Crossing → Crossing) : (m.onCrossing x f).pairs = m.pairs := rfl
@[simp] theorem Mach.onCrossing_swc (m : Mach) (x : Nat) (f : Crossing → Crossing) : (m.onCrossing x f).swc = m.swc := rfl
@[simp] theorem Mach.onCrossing_acq (m : Mach) (x : Nat) (f : Crossing → Crossing) : (m.onCrossing x f).acq = m.acq := rfl
@[simp] theorem Mach.onCrossing_nrg (m : Mach) (x : Nat) (f : Crossing → Crossing) : (m.onCrossing x f).nrg = m.nrg := rfl
@[simp] theorem Mach.onCrossing_pls (m : Mach) (x : Nat) (f : Crossing → Crossing) : (m.onCrossing x f).pls = m.pls := rfl
@[simp] theorem Mach.onCrossing_rim (m : Mach) (x : Nat) (f : Crossing → Crossing) : (m.onCrossing x f).rim = m.rim := rfl
@[simp] theorem Mach.onCrossing_flash (m : Mach) (x : Nat) (f : Crossing → Crossing) : (m.onCrossing x f).flash = m.flash := rfl
@[simp] theorem Mach.onCrossing_rst (m : Mach) (x : Nat) (f : Crossing → Crossing) : (m.onCrossing x f).rst = m.rst := rfl

/-! ### `Mach.onPace` -/

@[simp] theorem Mach.onPace_now (m : Mach) (f : Pace → Pace) : (m.onPace f).now = m.now := rfl
@[simp] theorem Mach.onPace_free (m : Mach) (f : Pace → Pace) : (m.onPace f).free = m.free := rfl
@[simp] theorem Mach.onPace_powered (m : Mach) (f : Pace → Pace) : (m.onPace f).powered = m.powered := rfl
@[simp] theorem Mach.onPace_regs (m : Mach) (f : Pace → Pace) : (m.onPace f).regs = m.regs := rfl
@[simp] theorem Mach.onPace_force (m : Mach) (f : Pace → Pace) : (m.onPace f).force = m.force := rfl
@[simp] theorem Mach.onPace_low (m : Mach) (f : Pace → Pace) : (m.onPace f).low = m.low := rfl
@[simp] theorem Mach.onPace_capt (m : Mach) (f : Pace → Pace) : (m.onPace f).capt = m.capt := rfl
@[simp] theorem Mach.onPace_frozen (m : Mach) (f : Pace → Pace) : (m.onPace f).frozen = m.frozen := rfl
@[simp] theorem Mach.onPace_timers (m : Mach) (f : Pace → Pace) : (m.onPace f).timers = m.timers := rfl
@[simp] theorem Mach.onPace_bulk (m : Mach) (f : Pace → Pace) : (m.onPace f).bulk = m.bulk := rfl
@[simp] theorem Mach.onPace_bulkF (m : Mach) (f : Pace → Pace) : (m.onPace f).bulkF = m.bulkF := rfl
@[simp] theorem Mach.onPace_mem (m : Mach) (f : Pace → Pace) : (m.onPace f).mem = m.mem := rfl
@[simp] theorem Mach.onPace_outs (m : Mach) (f : Pace → Pace) : (m.onPace f).outs = m.outs := rfl
@[simp] theorem Mach.onPace_coil (m : Mach) (f : Pace → Pace) : (m.onPace f).coil = m.coil := rfl
@[simp] theorem Mach.onPace_cmd (m : Mach) (f : Pace → Pace) : (m.onPace f).cmd = m.cmd := rfl
@[simp] theorem Mach.onPace_cdc (m : Mach) (f : Pace → Pace) : (m.onPace f).cdc = m.cdc := rfl
@[simp] theorem Mach.onPace_time (m : Mach) (f : Pace → Pace) : (m.onPace f).time = m.time := rfl
@[simp] theorem Mach.onPace_ptp (m : Mach) (f : Pace → Pace) : (m.onPace f).ptp = m.ptp := rfl
@[simp] theorem Mach.onPace_svi (m : Mach) (f : Pace → Pace) : (m.onPace f).svi = m.svi := rfl
@[simp] theorem Mach.onPace_msr (m : Mach) (f : Pace → Pace) : (m.onPace f).msr = m.msr := rfl
@[simp] theorem Mach.onPace_adm (m : Mach) (f : Pace → Pace) : (m.onPace f).adm = m.adm := rfl
@[simp] theorem Mach.onPace_dsp (m : Mach) (f : Pace → Pace) : (m.onPace f).dsp = m.dsp := rfl
@[simp] theorem Mach.onPace_pub (m : Mach) (f : Pace → Pace) : (m.onPace f).pub = m.pub := rfl
@[simp] theorem Mach.onPace_twn (m : Mach) (f : Pace → Pace) : (m.onPace f).twn = m.twn := rfl
@[simp] theorem Mach.onPace_parts (m : Mach) (f : Pace → Pace) : (m.onPace f).parts = m.parts := rfl
@[simp] theorem Mach.onPace_ports (m : Mach) (f : Pace → Pace) : (m.onPace f).ports = m.ports := rfl
@[simp] theorem Mach.onPace_pairs (m : Mach) (f : Pace → Pace) : (m.onPace f).pairs = m.pairs := rfl
@[simp] theorem Mach.onPace_swc (m : Mach) (f : Pace → Pace) : (m.onPace f).swc = m.swc := rfl
@[simp] theorem Mach.onPace_acq (m : Mach) (f : Pace → Pace) : (m.onPace f).acq = m.acq := rfl
@[simp] theorem Mach.onPace_nrg (m : Mach) (f : Pace → Pace) : (m.onPace f).nrg = m.nrg := rfl
@[simp] theorem Mach.onPace_pls (m : Mach) (f : Pace → Pace) : (m.onPace f).pls = m.pls := rfl
@[simp] theorem Mach.onPace_rim (m : Mach) (f : Pace → Pace) : (m.onPace f).rim = m.rim := rfl
@[simp] theorem Mach.onPace_flash (m : Mach) (f : Pace → Pace) : (m.onPace f).flash = m.flash := rfl
@[simp] theorem Mach.onPace_rst (m : Mach) (f : Pace → Pace) : (m.onPace f).rst = m.rst := rfl

/-! ### `Mach.onTime` -/

@[simp] theorem Mach.onTime_now (m : Mach) (f : TimeBlk → TimeBlk) : (m.onTime f).now = m.now := rfl
@[simp] theorem Mach.onTime_free (m : Mach) (f : TimeBlk → TimeBlk) : (m.onTime f).free = m.free := rfl
@[simp] theorem Mach.onTime_powered (m : Mach) (f : TimeBlk → TimeBlk) : (m.onTime f).powered = m.powered := rfl
@[simp] theorem Mach.onTime_regs (m : Mach) (f : TimeBlk → TimeBlk) : (m.onTime f).regs = m.regs := rfl
@[simp] theorem Mach.onTime_force (m : Mach) (f : TimeBlk → TimeBlk) : (m.onTime f).force = m.force := rfl
@[simp] theorem Mach.onTime_low (m : Mach) (f : TimeBlk → TimeBlk) : (m.onTime f).low = m.low := rfl
@[simp] theorem Mach.onTime_capt (m : Mach) (f : TimeBlk → TimeBlk) : (m.onTime f).capt = m.capt := rfl
@[simp] theorem Mach.onTime_frozen (m : Mach) (f : TimeBlk → TimeBlk) : (m.onTime f).frozen = m.frozen := rfl
@[simp] theorem Mach.onTime_timers (m : Mach) (f : TimeBlk → TimeBlk) : (m.onTime f).timers = m.timers := rfl
@[simp] theorem Mach.onTime_bulk (m : Mach) (f : TimeBlk → TimeBlk) : (m.onTime f).bulk = m.bulk := rfl
@[simp] theorem Mach.onTime_bulkF (m : Mach) (f : TimeBlk → TimeBlk) : (m.onTime f).bulkF = m.bulkF := rfl
@[simp] theorem Mach.onTime_mem (m : Mach) (f : TimeBlk → TimeBlk) : (m.onTime f).mem = m.mem := rfl
@[simp] theorem Mach.onTime_outs (m : Mach) (f : TimeBlk → TimeBlk) : (m.onTime f).outs = m.outs := rfl
@[simp] theorem Mach.onTime_coil (m : Mach) (f : TimeBlk → TimeBlk) : (m.onTime f).coil = m.coil := rfl
@[simp] theorem Mach.onTime_cmd (m : Mach) (f : TimeBlk → TimeBlk) : (m.onTime f).cmd = m.cmd := rfl
@[simp] theorem Mach.onTime_cdc (m : Mach) (f : TimeBlk → TimeBlk) : (m.onTime f).cdc = m.cdc := rfl
@[simp] theorem Mach.onTime_pace (m : Mach) (f : TimeBlk → TimeBlk) : (m.onTime f).pace = m.pace := rfl
@[simp] theorem Mach.onTime_ptp (m : Mach) (f : TimeBlk → TimeBlk) : (m.onTime f).ptp = m.ptp := rfl
@[simp] theorem Mach.onTime_svi (m : Mach) (f : TimeBlk → TimeBlk) : (m.onTime f).svi = m.svi := rfl
@[simp] theorem Mach.onTime_msr (m : Mach) (f : TimeBlk → TimeBlk) : (m.onTime f).msr = m.msr := rfl
@[simp] theorem Mach.onTime_adm (m : Mach) (f : TimeBlk → TimeBlk) : (m.onTime f).adm = m.adm := rfl
@[simp] theorem Mach.onTime_dsp (m : Mach) (f : TimeBlk → TimeBlk) : (m.onTime f).dsp = m.dsp := rfl
@[simp] theorem Mach.onTime_pub (m : Mach) (f : TimeBlk → TimeBlk) : (m.onTime f).pub = m.pub := rfl
@[simp] theorem Mach.onTime_twn (m : Mach) (f : TimeBlk → TimeBlk) : (m.onTime f).twn = m.twn := rfl
@[simp] theorem Mach.onTime_parts (m : Mach) (f : TimeBlk → TimeBlk) : (m.onTime f).parts = m.parts := rfl
@[simp] theorem Mach.onTime_ports (m : Mach) (f : TimeBlk → TimeBlk) : (m.onTime f).ports = m.ports := rfl
@[simp] theorem Mach.onTime_pairs (m : Mach) (f : TimeBlk → TimeBlk) : (m.onTime f).pairs = m.pairs := rfl
@[simp] theorem Mach.onTime_swc (m : Mach) (f : TimeBlk → TimeBlk) : (m.onTime f).swc = m.swc := rfl
@[simp] theorem Mach.onTime_acq (m : Mach) (f : TimeBlk → TimeBlk) : (m.onTime f).acq = m.acq := rfl
@[simp] theorem Mach.onTime_nrg (m : Mach) (f : TimeBlk → TimeBlk) : (m.onTime f).nrg = m.nrg := rfl
@[simp] theorem Mach.onTime_pls (m : Mach) (f : TimeBlk → TimeBlk) : (m.onTime f).pls = m.pls := rfl
@[simp] theorem Mach.onTime_rim (m : Mach) (f : TimeBlk → TimeBlk) : (m.onTime f).rim = m.rim := rfl
@[simp] theorem Mach.onTime_flash (m : Mach) (f : TimeBlk → TimeBlk) : (m.onTime f).flash = m.flash := rfl
@[simp] theorem Mach.onTime_rst (m : Mach) (f : TimeBlk → TimeBlk) : (m.onTime f).rst = m.rst := rfl

/-! ### `Mach.onDom` -/

@[simp] theorem Mach.onDom_now (m : Mach) (d : Nat) (f : PtpDom → PtpDom) : (m.onDom d f).now = m.now := rfl
@[simp] theorem Mach.onDom_free (m : Mach) (d : Nat) (f : PtpDom → PtpDom) : (m.onDom d f).free = m.free := rfl
@[simp] theorem Mach.onDom_powered (m : Mach) (d : Nat) (f : PtpDom → PtpDom) : (m.onDom d f).powered = m.powered := rfl
@[simp] theorem Mach.onDom_regs (m : Mach) (d : Nat) (f : PtpDom → PtpDom) : (m.onDom d f).regs = m.regs := rfl
@[simp] theorem Mach.onDom_force (m : Mach) (d : Nat) (f : PtpDom → PtpDom) : (m.onDom d f).force = m.force := rfl
@[simp] theorem Mach.onDom_low (m : Mach) (d : Nat) (f : PtpDom → PtpDom) : (m.onDom d f).low = m.low := rfl
@[simp] theorem Mach.onDom_capt (m : Mach) (d : Nat) (f : PtpDom → PtpDom) : (m.onDom d f).capt = m.capt := rfl
@[simp] theorem Mach.onDom_frozen (m : Mach) (d : Nat) (f : PtpDom → PtpDom) : (m.onDom d f).frozen = m.frozen := rfl
@[simp] theorem Mach.onDom_timers (m : Mach) (d : Nat) (f : PtpDom → PtpDom) : (m.onDom d f).timers = m.timers := rfl
@[simp] theorem Mach.onDom_bulk (m : Mach) (d : Nat) (f : PtpDom → PtpDom) : (m.onDom d f).bulk = m.bulk := rfl
@[simp] theorem Mach.onDom_bulkF (m : Mach) (d : Nat) (f : PtpDom → PtpDom) : (m.onDom d f).bulkF = m.bulkF := rfl
@[simp] theorem Mach.onDom_mem (m : Mach) (d : Nat) (f : PtpDom → PtpDom) : (m.onDom d f).mem = m.mem := rfl
@[simp] theorem Mach.onDom_outs (m : Mach) (d : Nat) (f : PtpDom → PtpDom) : (m.onDom d f).outs = m.outs := rfl
@[simp] theorem Mach.onDom_coil (m : Mach) (d : Nat) (f : PtpDom → PtpDom) : (m.onDom d f).coil = m.coil := rfl
@[simp] theorem Mach.onDom_cmd (m : Mach) (d : Nat) (f : PtpDom → PtpDom) : (m.onDom d f).cmd = m.cmd := rfl
@[simp] theorem Mach.onDom_cdc (m : Mach) (d : Nat) (f : PtpDom → PtpDom) : (m.onDom d f).cdc = m.cdc := rfl
@[simp] theorem Mach.onDom_pace (m : Mach) (d : Nat) (f : PtpDom → PtpDom) : (m.onDom d f).pace = m.pace := rfl
@[simp] theorem Mach.onDom_time (m : Mach) (d : Nat) (f : PtpDom → PtpDom) : (m.onDom d f).time = m.time := rfl
@[simp] theorem Mach.onDom_svi (m : Mach) (d : Nat) (f : PtpDom → PtpDom) : (m.onDom d f).svi = m.svi := rfl
@[simp] theorem Mach.onDom_msr (m : Mach) (d : Nat) (f : PtpDom → PtpDom) : (m.onDom d f).msr = m.msr := rfl
@[simp] theorem Mach.onDom_adm (m : Mach) (d : Nat) (f : PtpDom → PtpDom) : (m.onDom d f).adm = m.adm := rfl
@[simp] theorem Mach.onDom_dsp (m : Mach) (d : Nat) (f : PtpDom → PtpDom) : (m.onDom d f).dsp = m.dsp := rfl
@[simp] theorem Mach.onDom_pub (m : Mach) (d : Nat) (f : PtpDom → PtpDom) : (m.onDom d f).pub = m.pub := rfl
@[simp] theorem Mach.onDom_twn (m : Mach) (d : Nat) (f : PtpDom → PtpDom) : (m.onDom d f).twn = m.twn := rfl
@[simp] theorem Mach.onDom_parts (m : Mach) (d : Nat) (f : PtpDom → PtpDom) : (m.onDom d f).parts = m.parts := rfl
@[simp] theorem Mach.onDom_ports (m : Mach) (d : Nat) (f : PtpDom → PtpDom) : (m.onDom d f).ports = m.ports := rfl
@[simp] theorem Mach.onDom_pairs (m : Mach) (d : Nat) (f : PtpDom → PtpDom) : (m.onDom d f).pairs = m.pairs := rfl
@[simp] theorem Mach.onDom_swc (m : Mach) (d : Nat) (f : PtpDom → PtpDom) : (m.onDom d f).swc = m.swc := rfl
@[simp] theorem Mach.onDom_acq (m : Mach) (d : Nat) (f : PtpDom → PtpDom) : (m.onDom d f).acq = m.acq := rfl
@[simp] theorem Mach.onDom_nrg (m : Mach) (d : Nat) (f : PtpDom → PtpDom) : (m.onDom d f).nrg = m.nrg := rfl
@[simp] theorem Mach.onDom_pls (m : Mach) (d : Nat) (f : PtpDom → PtpDom) : (m.onDom d f).pls = m.pls := rfl
@[simp] theorem Mach.onDom_rim (m : Mach) (d : Nat) (f : PtpDom → PtpDom) : (m.onDom d f).rim = m.rim := rfl
@[simp] theorem Mach.onDom_flash (m : Mach) (d : Nat) (f : PtpDom → PtpDom) : (m.onDom d f).flash = m.flash := rfl
@[simp] theorem Mach.onDom_rst (m : Mach) (d : Nat) (f : PtpDom → PtpDom) : (m.onDom d f).rst = m.rst := rfl

/-! ### `Mach.onSvi` -/

@[simp] theorem Mach.onSvi_now (m : Mach) (f : Svi → Svi) : (m.onSvi f).now = m.now := rfl
@[simp] theorem Mach.onSvi_free (m : Mach) (f : Svi → Svi) : (m.onSvi f).free = m.free := rfl
@[simp] theorem Mach.onSvi_powered (m : Mach) (f : Svi → Svi) : (m.onSvi f).powered = m.powered := rfl
@[simp] theorem Mach.onSvi_regs (m : Mach) (f : Svi → Svi) : (m.onSvi f).regs = m.regs := rfl
@[simp] theorem Mach.onSvi_force (m : Mach) (f : Svi → Svi) : (m.onSvi f).force = m.force := rfl
@[simp] theorem Mach.onSvi_low (m : Mach) (f : Svi → Svi) : (m.onSvi f).low = m.low := rfl
@[simp] theorem Mach.onSvi_capt (m : Mach) (f : Svi → Svi) : (m.onSvi f).capt = m.capt := rfl
@[simp] theorem Mach.onSvi_frozen (m : Mach) (f : Svi → Svi) : (m.onSvi f).frozen = m.frozen := rfl
@[simp] theorem Mach.onSvi_timers (m : Mach) (f : Svi → Svi) : (m.onSvi f).timers = m.timers := rfl
@[simp] theorem Mach.onSvi_bulk (m : Mach) (f : Svi → Svi) : (m.onSvi f).bulk = m.bulk := rfl
@[simp] theorem Mach.onSvi_bulkF (m : Mach) (f : Svi → Svi) : (m.onSvi f).bulkF = m.bulkF := rfl
@[simp] theorem Mach.onSvi_mem (m : Mach) (f : Svi → Svi) : (m.onSvi f).mem = m.mem := rfl
@[simp] theorem Mach.onSvi_outs (m : Mach) (f : Svi → Svi) : (m.onSvi f).outs = m.outs := rfl
@[simp] theorem Mach.onSvi_coil (m : Mach) (f : Svi → Svi) : (m.onSvi f).coil = m.coil := rfl
@[simp] theorem Mach.onSvi_cmd (m : Mach) (f : Svi → Svi) : (m.onSvi f).cmd = m.cmd := rfl
@[simp] theorem Mach.onSvi_cdc (m : Mach) (f : Svi → Svi) : (m.onSvi f).cdc = m.cdc := rfl
@[simp] theorem Mach.onSvi_pace (m : Mach) (f : Svi → Svi) : (m.onSvi f).pace = m.pace := rfl
@[simp] theorem Mach.onSvi_time (m : Mach) (f : Svi → Svi) : (m.onSvi f).time = m.time := rfl
@[simp] theorem Mach.onSvi_ptp (m : Mach) (f : Svi → Svi) : (m.onSvi f).ptp = m.ptp := rfl
@[simp] theorem Mach.onSvi_msr (m : Mach) (f : Svi → Svi) : (m.onSvi f).msr = m.msr := rfl
@[simp] theorem Mach.onSvi_adm (m : Mach) (f : Svi → Svi) : (m.onSvi f).adm = m.adm := rfl
@[simp] theorem Mach.onSvi_dsp (m : Mach) (f : Svi → Svi) : (m.onSvi f).dsp = m.dsp := rfl
@[simp] theorem Mach.onSvi_pub (m : Mach) (f : Svi → Svi) : (m.onSvi f).pub = m.pub := rfl
@[simp] theorem Mach.onSvi_twn (m : Mach) (f : Svi → Svi) : (m.onSvi f).twn = m.twn := rfl
@[simp] theorem Mach.onSvi_parts (m : Mach) (f : Svi → Svi) : (m.onSvi f).parts = m.parts := rfl
@[simp] theorem Mach.onSvi_ports (m : Mach) (f : Svi → Svi) : (m.onSvi f).ports = m.ports := rfl
@[simp] theorem Mach.onSvi_pairs (m : Mach) (f : Svi → Svi) : (m.onSvi f).pairs = m.pairs := rfl
@[simp] theorem Mach.onSvi_swc (m : Mach) (f : Svi → Svi) : (m.onSvi f).swc = m.swc := rfl
@[simp] theorem Mach.onSvi_acq (m : Mach) (f : Svi → Svi) : (m.onSvi f).acq = m.acq := rfl
@[simp] theorem Mach.onSvi_nrg (m : Mach) (f : Svi → Svi) : (m.onSvi f).nrg = m.nrg := rfl
@[simp] theorem Mach.onSvi_pls (m : Mach) (f : Svi → Svi) : (m.onSvi f).pls = m.pls := rfl
@[simp] theorem Mach.onSvi_rim (m : Mach) (f : Svi → Svi) : (m.onSvi f).rim = m.rim := rfl
@[simp] theorem Mach.onSvi_flash (m : Mach) (f : Svi → Svi) : (m.onSvi f).flash = m.flash := rfl
@[simp] theorem Mach.onSvi_rst (m : Mach) (f : Svi → Svi) : (m.onSvi f).rst = m.rst := rfl

/-! ### `Mach.onMsr` -/

@[simp] theorem Mach.onMsr_now (m : Mach) (f : Msr → Msr) : (m.onMsr f).now = m.now := rfl
@[simp] theorem Mach.onMsr_free (m : Mach) (f : Msr → Msr) : (m.onMsr f).free = m.free := rfl
@[simp] theorem Mach.onMsr_powered (m : Mach) (f : Msr → Msr) : (m.onMsr f).powered = m.powered := rfl
@[simp] theorem Mach.onMsr_regs (m : Mach) (f : Msr → Msr) : (m.onMsr f).regs = m.regs := rfl
@[simp] theorem Mach.onMsr_force (m : Mach) (f : Msr → Msr) : (m.onMsr f).force = m.force := rfl
@[simp] theorem Mach.onMsr_low (m : Mach) (f : Msr → Msr) : (m.onMsr f).low = m.low := rfl
@[simp] theorem Mach.onMsr_capt (m : Mach) (f : Msr → Msr) : (m.onMsr f).capt = m.capt := rfl
@[simp] theorem Mach.onMsr_frozen (m : Mach) (f : Msr → Msr) : (m.onMsr f).frozen = m.frozen := rfl
@[simp] theorem Mach.onMsr_timers (m : Mach) (f : Msr → Msr) : (m.onMsr f).timers = m.timers := rfl
@[simp] theorem Mach.onMsr_bulk (m : Mach) (f : Msr → Msr) : (m.onMsr f).bulk = m.bulk := rfl
@[simp] theorem Mach.onMsr_bulkF (m : Mach) (f : Msr → Msr) : (m.onMsr f).bulkF = m.bulkF := rfl
@[simp] theorem Mach.onMsr_mem (m : Mach) (f : Msr → Msr) : (m.onMsr f).mem = m.mem := rfl
@[simp] theorem Mach.onMsr_outs (m : Mach) (f : Msr → Msr) : (m.onMsr f).outs = m.outs := rfl
@[simp] theorem Mach.onMsr_coil (m : Mach) (f : Msr → Msr) : (m.onMsr f).coil = m.coil := rfl
@[simp] theorem Mach.onMsr_cmd (m : Mach) (f : Msr → Msr) : (m.onMsr f).cmd = m.cmd := rfl
@[simp] theorem Mach.onMsr_cdc (m : Mach) (f : Msr → Msr) : (m.onMsr f).cdc = m.cdc := rfl
@[simp] theorem Mach.onMsr_pace (m : Mach) (f : Msr → Msr) : (m.onMsr f).pace = m.pace := rfl
@[simp] theorem Mach.onMsr_time (m : Mach) (f : Msr → Msr) : (m.onMsr f).time = m.time := rfl
@[simp] theorem Mach.onMsr_ptp (m : Mach) (f : Msr → Msr) : (m.onMsr f).ptp = m.ptp := rfl
@[simp] theorem Mach.onMsr_svi (m : Mach) (f : Msr → Msr) : (m.onMsr f).svi = m.svi := rfl
@[simp] theorem Mach.onMsr_adm (m : Mach) (f : Msr → Msr) : (m.onMsr f).adm = m.adm := rfl
@[simp] theorem Mach.onMsr_dsp (m : Mach) (f : Msr → Msr) : (m.onMsr f).dsp = m.dsp := rfl
@[simp] theorem Mach.onMsr_pub (m : Mach) (f : Msr → Msr) : (m.onMsr f).pub = m.pub := rfl
@[simp] theorem Mach.onMsr_twn (m : Mach) (f : Msr → Msr) : (m.onMsr f).twn = m.twn := rfl
@[simp] theorem Mach.onMsr_parts (m : Mach) (f : Msr → Msr) : (m.onMsr f).parts = m.parts := rfl
@[simp] theorem Mach.onMsr_ports (m : Mach) (f : Msr → Msr) : (m.onMsr f).ports = m.ports := rfl
@[simp] theorem Mach.onMsr_pairs (m : Mach) (f : Msr → Msr) : (m.onMsr f).pairs = m.pairs := rfl
@[simp] theorem Mach.onMsr_swc (m : Mach) (f : Msr → Msr) : (m.onMsr f).swc = m.swc := rfl
@[simp] theorem Mach.onMsr_acq (m : Mach) (f : Msr → Msr) : (m.onMsr f).acq = m.acq := rfl
@[simp] theorem Mach.onMsr_nrg (m : Mach) (f : Msr → Msr) : (m.onMsr f).nrg = m.nrg := rfl
@[simp] theorem Mach.onMsr_pls (m : Mach) (f : Msr → Msr) : (m.onMsr f).pls = m.pls := rfl
@[simp] theorem Mach.onMsr_rim (m : Mach) (f : Msr → Msr) : (m.onMsr f).rim = m.rim := rfl
@[simp] theorem Mach.onMsr_flash (m : Mach) (f : Msr → Msr) : (m.onMsr f).flash = m.flash := rfl
@[simp] theorem Mach.onMsr_rst (m : Mach) (f : Msr → Msr) : (m.onMsr f).rst = m.rst := rfl

/-! ### `Mach.onDsp` -/

@[simp] theorem Mach.onDsp_now (m : Mach) (f : Dsp → Dsp) : (m.onDsp f).now = m.now := rfl
@[simp] theorem Mach.onDsp_free (m : Mach) (f : Dsp → Dsp) : (m.onDsp f).free = m.free := rfl
@[simp] theorem Mach.onDsp_powered (m : Mach) (f : Dsp → Dsp) : (m.onDsp f).powered = m.powered := rfl
@[simp] theorem Mach.onDsp_regs (m : Mach) (f : Dsp → Dsp) : (m.onDsp f).regs = m.regs := rfl
@[simp] theorem Mach.onDsp_force (m : Mach) (f : Dsp → Dsp) : (m.onDsp f).force = m.force := rfl
@[simp] theorem Mach.onDsp_low (m : Mach) (f : Dsp → Dsp) : (m.onDsp f).low = m.low := rfl
@[simp] theorem Mach.onDsp_capt (m : Mach) (f : Dsp → Dsp) : (m.onDsp f).capt = m.capt := rfl
@[simp] theorem Mach.onDsp_frozen (m : Mach) (f : Dsp → Dsp) : (m.onDsp f).frozen = m.frozen := rfl
@[simp] theorem Mach.onDsp_timers (m : Mach) (f : Dsp → Dsp) : (m.onDsp f).timers = m.timers := rfl
@[simp] theorem Mach.onDsp_bulk (m : Mach) (f : Dsp → Dsp) : (m.onDsp f).bulk = m.bulk := rfl
@[simp] theorem Mach.onDsp_bulkF (m : Mach) (f : Dsp → Dsp) : (m.onDsp f).bulkF = m.bulkF := rfl
@[simp] theorem Mach.onDsp_mem (m : Mach) (f : Dsp → Dsp) : (m.onDsp f).mem = m.mem := rfl
@[simp] theorem Mach.onDsp_outs (m : Mach) (f : Dsp → Dsp) : (m.onDsp f).outs = m.outs := rfl
@[simp] theorem Mach.onDsp_coil (m : Mach) (f : Dsp → Dsp) : (m.onDsp f).coil = m.coil := rfl
@[simp] theorem Mach.onDsp_cmd (m : Mach) (f : Dsp → Dsp) : (m.onDsp f).cmd = m.cmd := rfl
@[simp] theorem Mach.onDsp_cdc (m : Mach) (f : Dsp → Dsp) : (m.onDsp f).cdc = m.cdc := rfl
@[simp] theorem Mach.onDsp_pace (m : Mach) (f : Dsp → Dsp) : (m.onDsp f).pace = m.pace := rfl
@[simp] theorem Mach.onDsp_time (m : Mach) (f : Dsp → Dsp) : (m.onDsp f).time = m.time := rfl
@[simp] theorem Mach.onDsp_ptp (m : Mach) (f : Dsp → Dsp) : (m.onDsp f).ptp = m.ptp := rfl
@[simp] theorem Mach.onDsp_svi (m : Mach) (f : Dsp → Dsp) : (m.onDsp f).svi = m.svi := rfl
@[simp] theorem Mach.onDsp_msr (m : Mach) (f : Dsp → Dsp) : (m.onDsp f).msr = m.msr := rfl
@[simp] theorem Mach.onDsp_adm (m : Mach) (f : Dsp → Dsp) : (m.onDsp f).adm = m.adm := rfl
@[simp] theorem Mach.onDsp_pub (m : Mach) (f : Dsp → Dsp) : (m.onDsp f).pub = m.pub := rfl
@[simp] theorem Mach.onDsp_twn (m : Mach) (f : Dsp → Dsp) : (m.onDsp f).twn = m.twn := rfl
@[simp] theorem Mach.onDsp_parts (m : Mach) (f : Dsp → Dsp) : (m.onDsp f).parts = m.parts := rfl
@[simp] theorem Mach.onDsp_ports (m : Mach) (f : Dsp → Dsp) : (m.onDsp f).ports = m.ports := rfl
@[simp] theorem Mach.onDsp_pairs (m : Mach) (f : Dsp → Dsp) : (m.onDsp f).pairs = m.pairs := rfl
@[simp] theorem Mach.onDsp_swc (m : Mach) (f : Dsp → Dsp) : (m.onDsp f).swc = m.swc := rfl
@[simp] theorem Mach.onDsp_acq (m : Mach) (f : Dsp → Dsp) : (m.onDsp f).acq = m.acq := rfl
@[simp] theorem Mach.onDsp_nrg (m : Mach) (f : Dsp → Dsp) : (m.onDsp f).nrg = m.nrg := rfl
@[simp] theorem Mach.onDsp_pls (m : Mach) (f : Dsp → Dsp) : (m.onDsp f).pls = m.pls := rfl
@[simp] theorem Mach.onDsp_rim (m : Mach) (f : Dsp → Dsp) : (m.onDsp f).rim = m.rim := rfl
@[simp] theorem Mach.onDsp_flash (m : Mach) (f : Dsp → Dsp) : (m.onDsp f).flash = m.flash := rfl
@[simp] theorem Mach.onDsp_rst (m : Mach) (f : Dsp → Dsp) : (m.onDsp f).rst = m.rst := rfl

/-! ### `Mach.onPub` -/

@[simp] theorem Mach.onPub_now (m : Mach) (f : Pub → Pub) : (m.onPub f).now = m.now := rfl
@[simp] theorem Mach.onPub_free (m : Mach) (f : Pub → Pub) : (m.onPub f).free = m.free := rfl
@[simp] theorem Mach.onPub_powered (m : Mach) (f : Pub → Pub) : (m.onPub f).powered = m.powered := rfl
@[simp] theorem Mach.onPub_regs (m : Mach) (f : Pub → Pub) : (m.onPub f).regs = m.regs := rfl
@[simp] theorem Mach.onPub_force (m : Mach) (f : Pub → Pub) : (m.onPub f).force = m.force := rfl
@[simp] theorem Mach.onPub_low (m : Mach) (f : Pub → Pub) : (m.onPub f).low = m.low := rfl
@[simp] theorem Mach.onPub_capt (m : Mach) (f : Pub → Pub) : (m.onPub f).capt = m.capt := rfl
@[simp] theorem Mach.onPub_frozen (m : Mach) (f : Pub → Pub) : (m.onPub f).frozen = m.frozen := rfl
@[simp] theorem Mach.onPub_timers (m : Mach) (f : Pub → Pub) : (m.onPub f).timers = m.timers := rfl
@[simp] theorem Mach.onPub_bulk (m : Mach) (f : Pub → Pub) : (m.onPub f).bulk = m.bulk := rfl
@[simp] theorem Mach.onPub_bulkF (m : Mach) (f : Pub → Pub) : (m.onPub f).bulkF = m.bulkF := rfl
@[simp] theorem Mach.onPub_mem (m : Mach) (f : Pub → Pub) : (m.onPub f).mem = m.mem := rfl
@[simp] theorem Mach.onPub_outs (m : Mach) (f : Pub → Pub) : (m.onPub f).outs = m.outs := rfl
@[simp] theorem Mach.onPub_coil (m : Mach) (f : Pub → Pub) : (m.onPub f).coil = m.coil := rfl
@[simp] theorem Mach.onPub_cmd (m : Mach) (f : Pub → Pub) : (m.onPub f).cmd = m.cmd := rfl
@[simp] theorem Mach.onPub_cdc (m : Mach) (f : Pub → Pub) : (m.onPub f).cdc = m.cdc := rfl
@[simp] theorem Mach.onPub_pace (m : Mach) (f : Pub → Pub) : (m.onPub f).pace = m.pace := rfl
@[simp] theorem Mach.onPub_time (m : Mach) (f : Pub → Pub) : (m.onPub f).time = m.time := rfl
@[simp] theorem Mach.onPub_ptp (m : Mach) (f : Pub → Pub) : (m.onPub f).ptp = m.ptp := rfl
@[simp] theorem Mach.onPub_svi (m : Mach) (f : Pub → Pub) : (m.onPub f).svi = m.svi := rfl
@[simp] theorem Mach.onPub_msr (m : Mach) (f : Pub → Pub) : (m.onPub f).msr = m.msr := rfl
@[simp] theorem Mach.onPub_adm (m : Mach) (f : Pub → Pub) : (m.onPub f).adm = m.adm := rfl
@[simp] theorem Mach.onPub_dsp (m : Mach) (f : Pub → Pub) : (m.onPub f).dsp = m.dsp := rfl
@[simp] theorem Mach.onPub_twn (m : Mach) (f : Pub → Pub) : (m.onPub f).twn = m.twn := rfl
@[simp] theorem Mach.onPub_parts (m : Mach) (f : Pub → Pub) : (m.onPub f).parts = m.parts := rfl
@[simp] theorem Mach.onPub_ports (m : Mach) (f : Pub → Pub) : (m.onPub f).ports = m.ports := rfl
@[simp] theorem Mach.onPub_pairs (m : Mach) (f : Pub → Pub) : (m.onPub f).pairs = m.pairs := rfl
@[simp] theorem Mach.onPub_swc (m : Mach) (f : Pub → Pub) : (m.onPub f).swc = m.swc := rfl
@[simp] theorem Mach.onPub_acq (m : Mach) (f : Pub → Pub) : (m.onPub f).acq = m.acq := rfl
@[simp] theorem Mach.onPub_nrg (m : Mach) (f : Pub → Pub) : (m.onPub f).nrg = m.nrg := rfl
@[simp] theorem Mach.onPub_pls (m : Mach) (f : Pub → Pub) : (m.onPub f).pls = m.pls := rfl
@[simp] theorem Mach.onPub_rim (m : Mach) (f : Pub → Pub) : (m.onPub f).rim = m.rim := rfl
@[simp] theorem Mach.onPub_flash (m : Mach) (f : Pub → Pub) : (m.onPub f).flash = m.flash := rfl
@[simp] theorem Mach.onPub_rst (m : Mach) (f : Pub → Pub) : (m.onPub f).rst = m.rst := rfl

/-! ### `Mach.onTwn` -/

@[simp] theorem Mach.onTwn_now (m : Mach) (f : Twn → Twn) : (m.onTwn f).now = m.now := rfl
@[simp] theorem Mach.onTwn_free (m : Mach) (f : Twn → Twn) : (m.onTwn f).free = m.free := rfl
@[simp] theorem Mach.onTwn_powered (m : Mach) (f : Twn → Twn) : (m.onTwn f).powered = m.powered := rfl
@[simp] theorem Mach.onTwn_regs (m : Mach) (f : Twn → Twn) : (m.onTwn f).regs = m.regs := rfl
@[simp] theorem Mach.onTwn_force (m : Mach) (f : Twn → Twn) : (m.onTwn f).force = m.force := rfl
@[simp] theorem Mach.onTwn_low (m : Mach) (f : Twn → Twn) : (m.onTwn f).low = m.low := rfl
@[simp] theorem Mach.onTwn_capt (m : Mach) (f : Twn → Twn) : (m.onTwn f).capt = m.capt := rfl
@[simp] theorem Mach.onTwn_frozen (m : Mach) (f : Twn → Twn) : (m.onTwn f).frozen = m.frozen := rfl
@[simp] theorem Mach.onTwn_timers (m : Mach) (f : Twn → Twn) : (m.onTwn f).timers = m.timers := rfl
@[simp] theorem Mach.onTwn_bulk (m : Mach) (f : Twn → Twn) : (m.onTwn f).bulk = m.bulk := rfl
@[simp] theorem Mach.onTwn_bulkF (m : Mach) (f : Twn → Twn) : (m.onTwn f).bulkF = m.bulkF := rfl
@[simp] theorem Mach.onTwn_mem (m : Mach) (f : Twn → Twn) : (m.onTwn f).mem = m.mem := rfl
@[simp] theorem Mach.onTwn_outs (m : Mach) (f : Twn → Twn) : (m.onTwn f).outs = m.outs := rfl
@[simp] theorem Mach.onTwn_coil (m : Mach) (f : Twn → Twn) : (m.onTwn f).coil = m.coil := rfl
@[simp] theorem Mach.onTwn_cmd (m : Mach) (f : Twn → Twn) : (m.onTwn f).cmd = m.cmd := rfl
@[simp] theorem Mach.onTwn_cdc (m : Mach) (f : Twn → Twn) : (m.onTwn f).cdc = m.cdc := rfl
@[simp] theorem Mach.onTwn_pace (m : Mach) (f : Twn → Twn) : (m.onTwn f).pace = m.pace := rfl
@[simp] theorem Mach.onTwn_time (m : Mach) (f : Twn → Twn) : (m.onTwn f).time = m.time := rfl
@[simp] theorem Mach.onTwn_ptp (m : Mach) (f : Twn → Twn) : (m.onTwn f).ptp = m.ptp := rfl
@[simp] theorem Mach.onTwn_svi (m : Mach) (f : Twn → Twn) : (m.onTwn f).svi = m.svi := rfl
@[simp] theorem Mach.onTwn_msr (m : Mach) (f : Twn → Twn) : (m.onTwn f).msr = m.msr := rfl
@[simp] theorem Mach.onTwn_adm (m : Mach) (f : Twn → Twn) : (m.onTwn f).adm = m.adm := rfl
@[simp] theorem Mach.onTwn_dsp (m : Mach) (f : Twn → Twn) : (m.onTwn f).dsp = m.dsp := rfl
@[simp] theorem Mach.onTwn_pub (m : Mach) (f : Twn → Twn) : (m.onTwn f).pub = m.pub := rfl
@[simp] theorem Mach.onTwn_parts (m : Mach) (f : Twn → Twn) : (m.onTwn f).parts = m.parts := rfl
@[simp] theorem Mach.onTwn_ports (m : Mach) (f : Twn → Twn) : (m.onTwn f).ports = m.ports := rfl
@[simp] theorem Mach.onTwn_pairs (m : Mach) (f : Twn → Twn) : (m.onTwn f).pairs = m.pairs := rfl
@[simp] theorem Mach.onTwn_swc (m : Mach) (f : Twn → Twn) : (m.onTwn f).swc = m.swc := rfl
@[simp] theorem Mach.onTwn_acq (m : Mach) (f : Twn → Twn) : (m.onTwn f).acq = m.acq := rfl
@[simp] theorem Mach.onTwn_nrg (m : Mach) (f : Twn → Twn) : (m.onTwn f).nrg = m.nrg := rfl
@[simp] theorem Mach.onTwn_pls (m : Mach) (f : Twn → Twn) : (m.onTwn f).pls = m.pls := rfl
@[simp] theorem Mach.onTwn_rim (m : Mach) (f : Twn → Twn) : (m.onTwn f).rim = m.rim := rfl
@[simp] theorem Mach.onTwn_flash (m : Mach) (f : Twn → Twn) : (m.onTwn f).flash = m.flash := rfl
@[simp] theorem Mach.onTwn_rst (m : Mach) (f : Twn → Twn) : (m.onTwn f).rst = m.rst := rfl

/-! ### `Mach.onPart` -/

@[simp] theorem Mach.onPart_now (m : Mach) (p : Nat) (f : Part → Part) : (m.onPart p f).now = m.now := rfl
@[simp] theorem Mach.onPart_free (m : Mach) (p : Nat) (f : Part → Part) : (m.onPart p f).free = m.free := rfl
@[simp] theorem Mach.onPart_powered (m : Mach) (p : Nat) (f : Part → Part) : (m.onPart p f).powered = m.powered := rfl
@[simp] theorem Mach.onPart_regs (m : Mach) (p : Nat) (f : Part → Part) : (m.onPart p f).regs = m.regs := rfl
@[simp] theorem Mach.onPart_force (m : Mach) (p : Nat) (f : Part → Part) : (m.onPart p f).force = m.force := rfl
@[simp] theorem Mach.onPart_low (m : Mach) (p : Nat) (f : Part → Part) : (m.onPart p f).low = m.low := rfl
@[simp] theorem Mach.onPart_capt (m : Mach) (p : Nat) (f : Part → Part) : (m.onPart p f).capt = m.capt := rfl
@[simp] theorem Mach.onPart_frozen (m : Mach) (p : Nat) (f : Part → Part) : (m.onPart p f).frozen = m.frozen := rfl
@[simp] theorem Mach.onPart_timers (m : Mach) (p : Nat) (f : Part → Part) : (m.onPart p f).timers = m.timers := rfl
@[simp] theorem Mach.onPart_bulk (m : Mach) (p : Nat) (f : Part → Part) : (m.onPart p f).bulk = m.bulk := rfl
@[simp] theorem Mach.onPart_bulkF (m : Mach) (p : Nat) (f : Part → Part) : (m.onPart p f).bulkF = m.bulkF := rfl
@[simp] theorem Mach.onPart_mem (m : Mach) (p : Nat) (f : Part → Part) : (m.onPart p f).mem = m.mem := rfl
@[simp] theorem Mach.onPart_outs (m : Mach) (p : Nat) (f : Part → Part) : (m.onPart p f).outs = m.outs := rfl
@[simp] theorem Mach.onPart_coil (m : Mach) (p : Nat) (f : Part → Part) : (m.onPart p f).coil = m.coil := rfl
@[simp] theorem Mach.onPart_cmd (m : Mach) (p : Nat) (f : Part → Part) : (m.onPart p f).cmd = m.cmd := rfl
@[simp] theorem Mach.onPart_cdc (m : Mach) (p : Nat) (f : Part → Part) : (m.onPart p f).cdc = m.cdc := rfl
@[simp] theorem Mach.onPart_pace (m : Mach) (p : Nat) (f : Part → Part) : (m.onPart p f).pace = m.pace := rfl
@[simp] theorem Mach.onPart_time (m : Mach) (p : Nat) (f : Part → Part) : (m.onPart p f).time = m.time := rfl
@[simp] theorem Mach.onPart_ptp (m : Mach) (p : Nat) (f : Part → Part) : (m.onPart p f).ptp = m.ptp := rfl
@[simp] theorem Mach.onPart_svi (m : Mach) (p : Nat) (f : Part → Part) : (m.onPart p f).svi = m.svi := rfl
@[simp] theorem Mach.onPart_msr (m : Mach) (p : Nat) (f : Part → Part) : (m.onPart p f).msr = m.msr := rfl
@[simp] theorem Mach.onPart_adm (m : Mach) (p : Nat) (f : Part → Part) : (m.onPart p f).adm = m.adm := rfl
@[simp] theorem Mach.onPart_dsp (m : Mach) (p : Nat) (f : Part → Part) : (m.onPart p f).dsp = m.dsp := rfl
@[simp] theorem Mach.onPart_pub (m : Mach) (p : Nat) (f : Part → Part) : (m.onPart p f).pub = m.pub := rfl
@[simp] theorem Mach.onPart_twn (m : Mach) (p : Nat) (f : Part → Part) : (m.onPart p f).twn = m.twn := rfl
@[simp] theorem Mach.onPart_ports (m : Mach) (p : Nat) (f : Part → Part) : (m.onPart p f).ports = m.ports := rfl
@[simp] theorem Mach.onPart_pairs (m : Mach) (p : Nat) (f : Part → Part) : (m.onPart p f).pairs = m.pairs := rfl
@[simp] theorem Mach.onPart_swc (m : Mach) (p : Nat) (f : Part → Part) : (m.onPart p f).swc = m.swc := rfl
@[simp] theorem Mach.onPart_acq (m : Mach) (p : Nat) (f : Part → Part) : (m.onPart p f).acq = m.acq := rfl
@[simp] theorem Mach.onPart_nrg (m : Mach) (p : Nat) (f : Part → Part) : (m.onPart p f).nrg = m.nrg := rfl
@[simp] theorem Mach.onPart_pls (m : Mach) (p : Nat) (f : Part → Part) : (m.onPart p f).pls = m.pls := rfl
@[simp] theorem Mach.onPart_rim (m : Mach) (p : Nat) (f : Part → Part) : (m.onPart p f).rim = m.rim := rfl
@[simp] theorem Mach.onPart_flash (m : Mach) (p : Nat) (f : Part → Part) : (m.onPart p f).flash = m.flash := rfl
@[simp] theorem Mach.onPart_rst (m : Mach) (p : Nat) (f : Part → Part) : (m.onPart p f).rst = m.rst := rfl

/-! ### `Mach.onPort` -/

@[simp] theorem Mach.onPort_now (m : Mach) (p : Nat) (f : Port → Port) : (m.onPort p f).now = m.now := rfl
@[simp] theorem Mach.onPort_free (m : Mach) (p : Nat) (f : Port → Port) : (m.onPort p f).free = m.free := rfl
@[simp] theorem Mach.onPort_powered (m : Mach) (p : Nat) (f : Port → Port) : (m.onPort p f).powered = m.powered := rfl
@[simp] theorem Mach.onPort_regs (m : Mach) (p : Nat) (f : Port → Port) : (m.onPort p f).regs = m.regs := rfl
@[simp] theorem Mach.onPort_force (m : Mach) (p : Nat) (f : Port → Port) : (m.onPort p f).force = m.force := rfl
@[simp] theorem Mach.onPort_low (m : Mach) (p : Nat) (f : Port → Port) : (m.onPort p f).low = m.low := rfl
@[simp] theorem Mach.onPort_capt (m : Mach) (p : Nat) (f : Port → Port) : (m.onPort p f).capt = m.capt := rfl
@[simp] theorem Mach.onPort_frozen (m : Mach) (p : Nat) (f : Port → Port) : (m.onPort p f).frozen = m.frozen := rfl
@[simp] theorem Mach.onPort_timers (m : Mach) (p : Nat) (f : Port → Port) : (m.onPort p f).timers = m.timers := rfl
@[simp] theorem Mach.onPort_bulk (m : Mach) (p : Nat) (f : Port → Port) : (m.onPort p f).bulk = m.bulk := rfl
@[simp] theorem Mach.onPort_bulkF (m : Mach) (p : Nat) (f : Port → Port) : (m.onPort p f).bulkF = m.bulkF := rfl
@[simp] theorem Mach.onPort_mem (m : Mach) (p : Nat) (f : Port → Port) : (m.onPort p f).mem = m.mem := rfl
@[simp] theorem Mach.onPort_outs (m : Mach) (p : Nat) (f : Port → Port) : (m.onPort p f).outs = m.outs := rfl
@[simp] theorem Mach.onPort_coil (m : Mach) (p : Nat) (f : Port → Port) : (m.onPort p f).coil = m.coil := rfl
@[simp] theorem Mach.onPort_cmd (m : Mach) (p : Nat) (f : Port → Port) : (m.onPort p f).cmd = m.cmd := rfl
@[simp] theorem Mach.onPort_cdc (m : Mach) (p : Nat) (f : Port → Port) : (m.onPort p f).cdc = m.cdc := rfl
@[simp] theorem Mach.onPort_pace (m : Mach) (p : Nat) (f : Port → Port) : (m.onPort p f).pace = m.pace := rfl
@[simp] theorem Mach.onPort_time (m : Mach) (p : Nat) (f : Port → Port) : (m.onPort p f).time = m.time := rfl
@[simp] theorem Mach.onPort_ptp (m : Mach) (p : Nat) (f : Port → Port) : (m.onPort p f).ptp = m.ptp := rfl
@[simp] theorem Mach.onPort_svi (m : Mach) (p : Nat) (f : Port → Port) : (m.onPort p f).svi = m.svi := rfl
@[simp] theorem Mach.onPort_msr (m : Mach) (p : Nat) (f : Port → Port) : (m.onPort p f).msr = m.msr := rfl
@[simp] theorem Mach.onPort_adm (m : Mach) (p : Nat) (f : Port → Port) : (m.onPort p f).adm = m.adm := rfl
@[simp] theorem Mach.onPort_dsp (m : Mach) (p : Nat) (f : Port → Port) : (m.onPort p f).dsp = m.dsp := rfl
@[simp] theorem Mach.onPort_pub (m : Mach) (p : Nat) (f : Port → Port) : (m.onPort p f).pub = m.pub := rfl
@[simp] theorem Mach.onPort_twn (m : Mach) (p : Nat) (f : Port → Port) : (m.onPort p f).twn = m.twn := rfl
@[simp] theorem Mach.onPort_parts (m : Mach) (p : Nat) (f : Port → Port) : (m.onPort p f).parts = m.parts := rfl
@[simp] theorem Mach.onPort_pairs (m : Mach) (p : Nat) (f : Port → Port) : (m.onPort p f).pairs = m.pairs := rfl
@[simp] theorem Mach.onPort_swc (m : Mach) (p : Nat) (f : Port → Port) : (m.onPort p f).swc = m.swc := rfl
@[simp] theorem Mach.onPort_acq (m : Mach) (p : Nat) (f : Port → Port) : (m.onPort p f).acq = m.acq := rfl
@[simp] theorem Mach.onPort_nrg (m : Mach) (p : Nat) (f : Port → Port) : (m.onPort p f).nrg = m.nrg := rfl
@[simp] theorem Mach.onPort_pls (m : Mach) (p : Nat) (f : Port → Port) : (m.onPort p f).pls = m.pls := rfl
@[simp] theorem Mach.onPort_rim (m : Mach) (p : Nat) (f : Port → Port) : (m.onPort p f).rim = m.rim := rfl
@[simp] theorem Mach.onPort_flash (m : Mach) (p : Nat) (f : Port → Port) : (m.onPort p f).flash = m.flash := rfl
@[simp] theorem Mach.onPort_rst (m : Mach) (p : Nat) (f : Port → Port) : (m.onPort p f).rst = m.rst := rfl

/-! ### `Mach.onPair` -/

@[simp] theorem Mach.onPair_now (m : Mach) (p : Nat) (f : Pair → Pair) : (m.onPair p f).now = m.now := rfl
@[simp] theorem Mach.onPair_free (m : Mach) (p : Nat) (f : Pair → Pair) : (m.onPair p f).free = m.free := rfl
@[simp] theorem Mach.onPair_powered (m : Mach) (p : Nat) (f : Pair → Pair) : (m.onPair p f).powered = m.powered := rfl
@[simp] theorem Mach.onPair_regs (m : Mach) (p : Nat) (f : Pair → Pair) : (m.onPair p f).regs = m.regs := rfl
@[simp] theorem Mach.onPair_force (m : Mach) (p : Nat) (f : Pair → Pair) : (m.onPair p f).force = m.force := rfl
@[simp] theorem Mach.onPair_low (m : Mach) (p : Nat) (f : Pair → Pair) : (m.onPair p f).low = m.low := rfl
@[simp] theorem Mach.onPair_capt (m : Mach) (p : Nat) (f : Pair → Pair) : (m.onPair p f).capt = m.capt := rfl
@[simp] theorem Mach.onPair_frozen (m : Mach) (p : Nat) (f : Pair → Pair) : (m.onPair p f).frozen = m.frozen := rfl
@[simp] theorem Mach.onPair_timers (m : Mach) (p : Nat) (f : Pair → Pair) : (m.onPair p f).timers = m.timers := rfl
@[simp] theorem Mach.onPair_bulk (m : Mach) (p : Nat) (f : Pair → Pair) : (m.onPair p f).bulk = m.bulk := rfl
@[simp] theorem Mach.onPair_bulkF (m : Mach) (p : Nat) (f : Pair → Pair) : (m.onPair p f).bulkF = m.bulkF := rfl
@[simp] theorem Mach.onPair_mem (m : Mach) (p : Nat) (f : Pair → Pair) : (m.onPair p f).mem = m.mem := rfl
@[simp] theorem Mach.onPair_outs (m : Mach) (p : Nat) (f : Pair → Pair) : (m.onPair p f).outs = m.outs := rfl
@[simp] theorem Mach.onPair_coil (m : Mach) (p : Nat) (f : Pair → Pair) : (m.onPair p f).coil = m.coil := rfl
@[simp] theorem Mach.onPair_cmd (m : Mach) (p : Nat) (f : Pair → Pair) : (m.onPair p f).cmd = m.cmd := rfl
@[simp] theorem Mach.onPair_cdc (m : Mach) (p : Nat) (f : Pair → Pair) : (m.onPair p f).cdc = m.cdc := rfl
@[simp] theorem Mach.onPair_pace (m : Mach) (p : Nat) (f : Pair → Pair) : (m.onPair p f).pace = m.pace := rfl
@[simp] theorem Mach.onPair_time (m : Mach) (p : Nat) (f : Pair → Pair) : (m.onPair p f).time = m.time := rfl
@[simp] theorem Mach.onPair_ptp (m : Mach) (p : Nat) (f : Pair → Pair) : (m.onPair p f).ptp = m.ptp := rfl
@[simp] theorem Mach.onPair_svi (m : Mach) (p : Nat) (f : Pair → Pair) : (m.onPair p f).svi = m.svi := rfl
@[simp] theorem Mach.onPair_msr (m : Mach) (p : Nat) (f : Pair → Pair) : (m.onPair p f).msr = m.msr := rfl
@[simp] theorem Mach.onPair_adm (m : Mach) (p : Nat) (f : Pair → Pair) : (m.onPair p f).adm = m.adm := rfl
@[simp] theorem Mach.onPair_dsp (m : Mach) (p : Nat) (f : Pair → Pair) : (m.onPair p f).dsp = m.dsp := rfl
@[simp] theorem Mach.onPair_pub (m : Mach) (p : Nat) (f : Pair → Pair) : (m.onPair p f).pub = m.pub := rfl
@[simp] theorem Mach.onPair_twn (m : Mach) (p : Nat) (f : Pair → Pair) : (m.onPair p f).twn = m.twn := rfl
@[simp] theorem Mach.onPair_parts (m : Mach) (p : Nat) (f : Pair → Pair) : (m.onPair p f).parts = m.parts := rfl
@[simp] theorem Mach.onPair_ports (m : Mach) (p : Nat) (f : Pair → Pair) : (m.onPair p f).ports = m.ports := rfl
@[simp] theorem Mach.onPair_swc (m : Mach) (p : Nat) (f : Pair → Pair) : (m.onPair p f).swc = m.swc := rfl
@[simp] theorem Mach.onPair_acq (m : Mach) (p : Nat) (f : Pair → Pair) : (m.onPair p f).acq = m.acq := rfl
@[simp] theorem Mach.onPair_nrg (m : Mach) (p : Nat) (f : Pair → Pair) : (m.onPair p f).nrg = m.nrg := rfl
@[simp] theorem Mach.onPair_pls (m : Mach) (p : Nat) (f : Pair → Pair) : (m.onPair p f).pls = m.pls := rfl
@[simp] theorem Mach.onPair_rim (m : Mach) (p : Nat) (f : Pair → Pair) : (m.onPair p f).rim = m.rim := rfl
@[simp] theorem Mach.onPair_flash (m : Mach) (p : Nat) (f : Pair → Pair) : (m.onPair p f).flash = m.flash := rfl
@[simp] theorem Mach.onPair_rst (m : Mach) (p : Nat) (f : Pair → Pair) : (m.onPair p f).rst = m.rst := rfl

/-! ### `Mach.onSwc` -/

@[simp] theorem Mach.onSwc_now (m : Mach) (f : Swc → Swc) : (m.onSwc f).now = m.now := rfl
@[simp] theorem Mach.onSwc_free (m : Mach) (f : Swc → Swc) : (m.onSwc f).free = m.free := rfl
@[simp] theorem Mach.onSwc_powered (m : Mach) (f : Swc → Swc) : (m.onSwc f).powered = m.powered := rfl
@[simp] theorem Mach.onSwc_regs (m : Mach) (f : Swc → Swc) : (m.onSwc f).regs = m.regs := rfl
@[simp] theorem Mach.onSwc_force (m : Mach) (f : Swc → Swc) : (m.onSwc f).force = m.force := rfl
@[simp] theorem Mach.onSwc_low (m : Mach) (f : Swc → Swc) : (m.onSwc f).low = m.low := rfl
@[simp] theorem Mach.onSwc_capt (m : Mach) (f : Swc → Swc) : (m.onSwc f).capt = m.capt := rfl
@[simp] theorem Mach.onSwc_frozen (m : Mach) (f : Swc → Swc) : (m.onSwc f).frozen = m.frozen := rfl
@[simp] theorem Mach.onSwc_timers (m : Mach) (f : Swc → Swc) : (m.onSwc f).timers = m.timers := rfl
@[simp] theorem Mach.onSwc_bulk (m : Mach) (f : Swc → Swc) : (m.onSwc f).bulk = m.bulk := rfl
@[simp] theorem Mach.onSwc_bulkF (m : Mach) (f : Swc → Swc) : (m.onSwc f).bulkF = m.bulkF := rfl
@[simp] theorem Mach.onSwc_mem (m : Mach) (f : Swc → Swc) : (m.onSwc f).mem = m.mem := rfl
@[simp] theorem Mach.onSwc_outs (m : Mach) (f : Swc → Swc) : (m.onSwc f).outs = m.outs := rfl
@[simp] theorem Mach.onSwc_coil (m : Mach) (f : Swc → Swc) : (m.onSwc f).coil = m.coil := rfl
@[simp] theorem Mach.onSwc_cmd (m : Mach) (f : Swc → Swc) : (m.onSwc f).cmd = m.cmd := rfl
@[simp] theorem Mach.onSwc_cdc (m : Mach) (f : Swc → Swc) : (m.onSwc f).cdc = m.cdc := rfl
@[simp] theorem Mach.onSwc_pace (m : Mach) (f : Swc → Swc) : (m.onSwc f).pace = m.pace := rfl
@[simp] theorem Mach.onSwc_time (m : Mach) (f : Swc → Swc) : (m.onSwc f).time = m.time := rfl
@[simp] theorem Mach.onSwc_ptp (m : Mach) (f : Swc → Swc) : (m.onSwc f).ptp = m.ptp := rfl
@[simp] theorem Mach.onSwc_svi (m : Mach) (f : Swc → Swc) : (m.onSwc f).svi = m.svi := rfl
@[simp] theorem Mach.onSwc_msr (m : Mach) (f : Swc → Swc) : (m.onSwc f).msr = m.msr := rfl
@[simp] theorem Mach.onSwc_adm (m : Mach) (f : Swc → Swc) : (m.onSwc f).adm = m.adm := rfl
@[simp] theorem Mach.onSwc_dsp (m : Mach) (f : Swc → Swc) : (m.onSwc f).dsp = m.dsp := rfl
@[simp] theorem Mach.onSwc_pub (m : Mach) (f : Swc → Swc) : (m.onSwc f).pub = m.pub := rfl
@[simp] theorem Mach.onSwc_twn (m : Mach) (f : Swc → Swc) : (m.onSwc f).twn = m.twn := rfl
@[simp] theorem Mach.onSwc_parts (m : Mach) (f : Swc → Swc) : (m.onSwc f).parts = m.parts := rfl
@[simp] theorem Mach.onSwc_ports (m : Mach) (f : Swc → Swc) : (m.onSwc f).ports = m.ports := rfl
@[simp] theorem Mach.onSwc_pairs (m : Mach) (f : Swc → Swc) : (m.onSwc f).pairs = m.pairs := rfl
@[simp] theorem Mach.onSwc_acq (m : Mach) (f : Swc → Swc) : (m.onSwc f).acq = m.acq := rfl
@[simp] theorem Mach.onSwc_nrg (m : Mach) (f : Swc → Swc) : (m.onSwc f).nrg = m.nrg := rfl
@[simp] theorem Mach.onSwc_pls (m : Mach) (f : Swc → Swc) : (m.onSwc f).pls = m.pls := rfl
@[simp] theorem Mach.onSwc_rim (m : Mach) (f : Swc → Swc) : (m.onSwc f).rim = m.rim := rfl
@[simp] theorem Mach.onSwc_flash (m : Mach) (f : Swc → Swc) : (m.onSwc f).flash = m.flash := rfl
@[simp] theorem Mach.onSwc_rst (m : Mach) (f : Swc → Swc) : (m.onSwc f).rst = m.rst := rfl

/-! ### `Mach.onAcq` -/

@[simp] theorem Mach.onAcq_now (m : Mach) (u : Nat) (f : AcqUnit → AcqUnit) : (m.onAcq u f).now = m.now := rfl
@[simp] theorem Mach.onAcq_free (m : Mach) (u : Nat) (f : AcqUnit → AcqUnit) : (m.onAcq u f).free = m.free := rfl
@[simp] theorem Mach.onAcq_powered (m : Mach) (u : Nat) (f : AcqUnit → AcqUnit) : (m.onAcq u f).powered = m.powered := rfl
@[simp] theorem Mach.onAcq_regs (m : Mach) (u : Nat) (f : AcqUnit → AcqUnit) : (m.onAcq u f).regs = m.regs := rfl
@[simp] theorem Mach.onAcq_force (m : Mach) (u : Nat) (f : AcqUnit → AcqUnit) : (m.onAcq u f).force = m.force := rfl
@[simp] theorem Mach.onAcq_low (m : Mach) (u : Nat) (f : AcqUnit → AcqUnit) : (m.onAcq u f).low = m.low := rfl
@[simp] theorem Mach.onAcq_capt (m : Mach) (u : Nat) (f : AcqUnit → AcqUnit) : (m.onAcq u f).capt = m.capt := rfl
@[simp] theorem Mach.onAcq_frozen (m : Mach) (u : Nat) (f : AcqUnit → AcqUnit) : (m.onAcq u f).frozen = m.frozen := rfl
@[simp] theorem Mach.onAcq_timers (m : Mach) (u : Nat) (f : AcqUnit → AcqUnit) : (m.onAcq u f).timers = m.timers := rfl
@[simp] theorem Mach.onAcq_bulk (m : Mach) (u : Nat) (f : AcqUnit → AcqUnit) : (m.onAcq u f).bulk = m.bulk := rfl
@[simp] theorem Mach.onAcq_bulkF (m : Mach) (u : Nat) (f : AcqUnit → AcqUnit) : (m.onAcq u f).bulkF = m.bulkF := rfl
@[simp] theorem Mach.onAcq_mem (m : Mach) (u : Nat) (f : AcqUnit → AcqUnit) : (m.onAcq u f).mem = m.mem := rfl
@[simp] theorem Mach.onAcq_outs (m : Mach) (u : Nat) (f : AcqUnit → AcqUnit) : (m.onAcq u f).outs = m.outs := rfl
@[simp] theorem Mach.onAcq_coil (m : Mach) (u : Nat) (f : AcqUnit → AcqUnit) : (m.onAcq u f).coil = m.coil := rfl
@[simp] theorem Mach.onAcq_cmd (m : Mach) (u : Nat) (f : AcqUnit → AcqUnit) : (m.onAcq u f).cmd = m.cmd := rfl
@[simp] theorem Mach.onAcq_cdc (m : Mach) (u : Nat) (f : AcqUnit → AcqUnit) : (m.onAcq u f).cdc = m.cdc := rfl
@[simp] theorem Mach.onAcq_pace (m : Mach) (u : Nat) (f : AcqUnit → AcqUnit) : (m.onAcq u f).pace = m.pace := rfl
@[simp] theorem Mach.onAcq_time (m : Mach) (u : Nat) (f : AcqUnit → AcqUnit) : (m.onAcq u f).time = m.time := rfl
@[simp] theorem Mach.onAcq_ptp (m : Mach) (u : Nat) (f : AcqUnit → AcqUnit) : (m.onAcq u f).ptp = m.ptp := rfl
@[simp] theorem Mach.onAcq_svi (m : Mach) (u : Nat) (f : AcqUnit → AcqUnit) : (m.onAcq u f).svi = m.svi := rfl
@[simp] theorem Mach.onAcq_msr (m : Mach) (u : Nat) (f : AcqUnit → AcqUnit) : (m.onAcq u f).msr = m.msr := rfl
@[simp] theorem Mach.onAcq_adm (m : Mach) (u : Nat) (f : AcqUnit → AcqUnit) : (m.onAcq u f).adm = m.adm := rfl
@[simp] theorem Mach.onAcq_dsp (m : Mach) (u : Nat) (f : AcqUnit → AcqUnit) : (m.onAcq u f).dsp = m.dsp := rfl
@[simp] theorem Mach.onAcq_pub (m : Mach) (u : Nat) (f : AcqUnit → AcqUnit) : (m.onAcq u f).pub = m.pub := rfl
@[simp] theorem Mach.onAcq_twn (m : Mach) (u : Nat) (f : AcqUnit → AcqUnit) : (m.onAcq u f).twn = m.twn := rfl
@[simp] theorem Mach.onAcq_parts (m : Mach) (u : Nat) (f : AcqUnit → AcqUnit) : (m.onAcq u f).parts = m.parts := rfl
@[simp] theorem Mach.onAcq_ports (m : Mach) (u : Nat) (f : AcqUnit → AcqUnit) : (m.onAcq u f).ports = m.ports := rfl
@[simp] theorem Mach.onAcq_pairs (m : Mach) (u : Nat) (f : AcqUnit → AcqUnit) : (m.onAcq u f).pairs = m.pairs := rfl
@[simp] theorem Mach.onAcq_swc (m : Mach) (u : Nat) (f : AcqUnit → AcqUnit) : (m.onAcq u f).swc = m.swc := rfl
@[simp] theorem Mach.onAcq_nrg (m : Mach) (u : Nat) (f : AcqUnit → AcqUnit) : (m.onAcq u f).nrg = m.nrg := rfl
@[simp] theorem Mach.onAcq_pls (m : Mach) (u : Nat) (f : AcqUnit → AcqUnit) : (m.onAcq u f).pls = m.pls := rfl
@[simp] theorem Mach.onAcq_rim (m : Mach) (u : Nat) (f : AcqUnit → AcqUnit) : (m.onAcq u f).rim = m.rim := rfl
@[simp] theorem Mach.onAcq_flash (m : Mach) (u : Nat) (f : AcqUnit → AcqUnit) : (m.onAcq u f).flash = m.flash := rfl
@[simp] theorem Mach.onAcq_rst (m : Mach) (u : Nat) (f : AcqUnit → AcqUnit) : (m.onAcq u f).rst = m.rst := rfl

/-! ### `Mach.onNrg` -/

@[simp] theorem Mach.onNrg_now (m : Mach) (f : Nrg → Nrg) : (m.onNrg f).now = m.now := rfl
@[simp] theorem Mach.onNrg_free (m : Mach) (f : Nrg → Nrg) : (m.onNrg f).free = m.free := rfl
@[simp] theorem Mach.onNrg_powered (m : Mach) (f : Nrg → Nrg) : (m.onNrg f).powered = m.powered := rfl
@[simp] theorem Mach.onNrg_regs (m : Mach) (f : Nrg → Nrg) : (m.onNrg f).regs = m.regs := rfl
@[simp] theorem Mach.onNrg_force (m : Mach) (f : Nrg → Nrg) : (m.onNrg f).force = m.force := rfl
@[simp] theorem Mach.onNrg_low (m : Mach) (f : Nrg → Nrg) : (m.onNrg f).low = m.low := rfl
@[simp] theorem Mach.onNrg_capt (m : Mach) (f : Nrg → Nrg) : (m.onNrg f).capt = m.capt := rfl
@[simp] theorem Mach.onNrg_frozen (m : Mach) (f : Nrg → Nrg) : (m.onNrg f).frozen = m.frozen := rfl
@[simp] theorem Mach.onNrg_timers (m : Mach) (f : Nrg → Nrg) : (m.onNrg f).timers = m.timers := rfl
@[simp] theorem Mach.onNrg_bulk (m : Mach) (f : Nrg → Nrg) : (m.onNrg f).bulk = m.bulk := rfl
@[simp] theorem Mach.onNrg_bulkF (m : Mach) (f : Nrg → Nrg) : (m.onNrg f).bulkF = m.bulkF := rfl
@[simp] theorem Mach.onNrg_mem (m : Mach) (f : Nrg → Nrg) : (m.onNrg f).mem = m.mem := rfl
@[simp] theorem Mach.onNrg_outs (m : Mach) (f : Nrg → Nrg) : (m.onNrg f).outs = m.outs := rfl
@[simp] theorem Mach.onNrg_coil (m : Mach) (f : Nrg → Nrg) : (m.onNrg f).coil = m.coil := rfl
@[simp] theorem Mach.onNrg_cmd (m : Mach) (f : Nrg → Nrg) : (m.onNrg f).cmd = m.cmd := rfl
@[simp] theorem Mach.onNrg_cdc (m : Mach) (f : Nrg → Nrg) : (m.onNrg f).cdc = m.cdc := rfl
@[simp] theorem Mach.onNrg_pace (m : Mach) (f : Nrg → Nrg) : (m.onNrg f).pace = m.pace := rfl
@[simp] theorem Mach.onNrg_time (m : Mach) (f : Nrg → Nrg) : (m.onNrg f).time = m.time := rfl
@[simp] theorem Mach.onNrg_ptp (m : Mach) (f : Nrg → Nrg) : (m.onNrg f).ptp = m.ptp := rfl
@[simp] theorem Mach.onNrg_svi (m : Mach) (f : Nrg → Nrg) : (m.onNrg f).svi = m.svi := rfl
@[simp] theorem Mach.onNrg_msr (m : Mach) (f : Nrg → Nrg) : (m.onNrg f).msr = m.msr := rfl
@[simp] theorem Mach.onNrg_adm (m : Mach) (f : Nrg → Nrg) : (m.onNrg f).adm = m.adm := rfl
@[simp] theorem Mach.onNrg_dsp (m : Mach) (f : Nrg → Nrg) : (m.onNrg f).dsp = m.dsp := rfl
@[simp] theorem Mach.onNrg_pub (m : Mach) (f : Nrg → Nrg) : (m.onNrg f).pub = m.pub := rfl
@[simp] theorem Mach.onNrg_twn (m : Mach) (f : Nrg → Nrg) : (m.onNrg f).twn = m.twn := rfl
@[simp] theorem Mach.onNrg_parts (m : Mach) (f : Nrg → Nrg) : (m.onNrg f).parts = m.parts := rfl
@[simp] theorem Mach.onNrg_ports (m : Mach) (f : Nrg → Nrg) : (m.onNrg f).ports = m.ports := rfl
@[simp] theorem Mach.onNrg_pairs (m : Mach) (f : Nrg → Nrg) : (m.onNrg f).pairs = m.pairs := rfl
@[simp] theorem Mach.onNrg_swc (m : Mach) (f : Nrg → Nrg) : (m.onNrg f).swc = m.swc := rfl
@[simp] theorem Mach.onNrg_acq (m : Mach) (f : Nrg → Nrg) : (m.onNrg f).acq = m.acq := rfl
@[simp] theorem Mach.onNrg_pls (m : Mach) (f : Nrg → Nrg) : (m.onNrg f).pls = m.pls := rfl
@[simp] theorem Mach.onNrg_rim (m : Mach) (f : Nrg → Nrg) : (m.onNrg f).rim = m.rim := rfl
@[simp] theorem Mach.onNrg_flash (m : Mach) (f : Nrg → Nrg) : (m.onNrg f).flash = m.flash := rfl
@[simp] theorem Mach.onNrg_rst (m : Mach) (f : Nrg → Nrg) : (m.onNrg f).rst = m.rst := rfl

/-! ### `Mach.onPin` -/

@[simp] theorem Mach.onPin_now (m : Mach) (p : Nat) (f : Pin → Pin) : (m.onPin p f).now = m.now := rfl
@[simp] theorem Mach.onPin_free (m : Mach) (p : Nat) (f : Pin → Pin) : (m.onPin p f).free = m.free := rfl
@[simp] theorem Mach.onPin_powered (m : Mach) (p : Nat) (f : Pin → Pin) : (m.onPin p f).powered = m.powered := rfl
@[simp] theorem Mach.onPin_regs (m : Mach) (p : Nat) (f : Pin → Pin) : (m.onPin p f).regs = m.regs := rfl
@[simp] theorem Mach.onPin_force (m : Mach) (p : Nat) (f : Pin → Pin) : (m.onPin p f).force = m.force := rfl
@[simp] theorem Mach.onPin_low (m : Mach) (p : Nat) (f : Pin → Pin) : (m.onPin p f).low = m.low := rfl
@[simp] theorem Mach.onPin_capt (m : Mach) (p : Nat) (f : Pin → Pin) : (m.onPin p f).capt = m.capt := rfl
@[simp] theorem Mach.onPin_frozen (m : Mach) (p : Nat) (f : Pin → Pin) : (m.onPin p f).frozen = m.frozen := rfl
@[simp] theorem Mach.onPin_timers (m : Mach) (p : Nat) (f : Pin → Pin) : (m.onPin p f).timers = m.timers := rfl
@[simp] theorem Mach.onPin_bulk (m : Mach) (p : Nat) (f : Pin → Pin) : (m.onPin p f).bulk = m.bulk := rfl
@[simp] theorem Mach.onPin_bulkF (m : Mach) (p : Nat) (f : Pin → Pin) : (m.onPin p f).bulkF = m.bulkF := rfl
@[simp] theorem Mach.onPin_mem (m : Mach) (p : Nat) (f : Pin → Pin) : (m.onPin p f).mem = m.mem := rfl
@[simp] theorem Mach.onPin_outs (m : Mach) (p : Nat) (f : Pin → Pin) : (m.onPin p f).outs = m.outs := rfl
@[simp] theorem Mach.onPin_coil (m : Mach) (p : Nat) (f : Pin → Pin) : (m.onPin p f).coil = m.coil := rfl
@[simp] theorem Mach.onPin_cmd (m : Mach) (p : Nat) (f : Pin → Pin) : (m.onPin p f).cmd = m.cmd := rfl
@[simp] theorem Mach.onPin_cdc (m : Mach) (p : Nat) (f : Pin → Pin) : (m.onPin p f).cdc = m.cdc := rfl
@[simp] theorem Mach.onPin_pace (m : Mach) (p : Nat) (f : Pin → Pin) : (m.onPin p f).pace = m.pace := rfl
@[simp] theorem Mach.onPin_time (m : Mach) (p : Nat) (f : Pin → Pin) : (m.onPin p f).time = m.time := rfl
@[simp] theorem Mach.onPin_ptp (m : Mach) (p : Nat) (f : Pin → Pin) : (m.onPin p f).ptp = m.ptp := rfl
@[simp] theorem Mach.onPin_svi (m : Mach) (p : Nat) (f : Pin → Pin) : (m.onPin p f).svi = m.svi := rfl
@[simp] theorem Mach.onPin_msr (m : Mach) (p : Nat) (f : Pin → Pin) : (m.onPin p f).msr = m.msr := rfl
@[simp] theorem Mach.onPin_adm (m : Mach) (p : Nat) (f : Pin → Pin) : (m.onPin p f).adm = m.adm := rfl
@[simp] theorem Mach.onPin_dsp (m : Mach) (p : Nat) (f : Pin → Pin) : (m.onPin p f).dsp = m.dsp := rfl
@[simp] theorem Mach.onPin_pub (m : Mach) (p : Nat) (f : Pin → Pin) : (m.onPin p f).pub = m.pub := rfl
@[simp] theorem Mach.onPin_twn (m : Mach) (p : Nat) (f : Pin → Pin) : (m.onPin p f).twn = m.twn := rfl
@[simp] theorem Mach.onPin_parts (m : Mach) (p : Nat) (f : Pin → Pin) : (m.onPin p f).parts = m.parts := rfl
@[simp] theorem Mach.onPin_ports (m : Mach) (p : Nat) (f : Pin → Pin) : (m.onPin p f).ports = m.ports := rfl
@[simp] theorem Mach.onPin_pairs (m : Mach) (p : Nat) (f : Pin → Pin) : (m.onPin p f).pairs = m.pairs := rfl
@[simp] theorem Mach.onPin_swc (m : Mach) (p : Nat) (f : Pin → Pin) : (m.onPin p f).swc = m.swc := rfl
@[simp] theorem Mach.onPin_acq (m : Mach) (p : Nat) (f : Pin → Pin) : (m.onPin p f).acq = m.acq := rfl
@[simp] theorem Mach.onPin_nrg (m : Mach) (p : Nat) (f : Pin → Pin) : (m.onPin p f).nrg = m.nrg := rfl
@[simp] theorem Mach.onPin_rim (m : Mach) (p : Nat) (f : Pin → Pin) : (m.onPin p f).rim = m.rim := rfl
@[simp] theorem Mach.onPin_flash (m : Mach) (p : Nat) (f : Pin → Pin) : (m.onPin p f).flash = m.flash := rfl
@[simp] theorem Mach.onPin_rst (m : Mach) (p : Nat) (f : Pin → Pin) : (m.onPin p f).rst = m.rst := rfl

/-! ### `Mach.onRim` -/

@[simp] theorem Mach.onRim_now (m : Mach) (f : Rim → Rim) : (m.onRim f).now = m.now := rfl
@[simp] theorem Mach.onRim_free (m : Mach) (f : Rim → Rim) : (m.onRim f).free = m.free := rfl
@[simp] theorem Mach.onRim_powered (m : Mach) (f : Rim → Rim) : (m.onRim f).powered = m.powered := rfl
@[simp] theorem Mach.onRim_regs (m : Mach) (f : Rim → Rim) : (m.onRim f).regs = m.regs := rfl
@[simp] theorem Mach.onRim_force (m : Mach) (f : Rim → Rim) : (m.onRim f).force = m.force := rfl
@[simp] theorem Mach.onRim_low (m : Mach) (f : Rim → Rim) : (m.onRim f).low = m.low := rfl
@[simp] theorem Mach.onRim_capt (m : Mach) (f : Rim → Rim) : (m.onRim f).capt = m.capt := rfl
@[simp] theorem Mach.onRim_frozen (m : Mach) (f : Rim → Rim) : (m.onRim f).frozen = m.frozen := rfl
@[simp] theorem Mach.onRim_timers (m : Mach) (f : Rim → Rim) : (m.onRim f).timers = m.timers := rfl
@[simp] theorem Mach.onRim_bulk (m : Mach) (f : Rim → Rim) : (m.onRim f).bulk = m.bulk := rfl
@[simp] theorem Mach.onRim_bulkF (m : Mach) (f : Rim → Rim) : (m.onRim f).bulkF = m.bulkF := rfl
@[simp] theorem Mach.onRim_mem (m : Mach) (f : Rim → Rim) : (m.onRim f).mem = m.mem := rfl
@[simp] theorem Mach.onRim_outs (m : Mach) (f : Rim → Rim) : (m.onRim f).outs = m.outs := rfl
@[simp] theorem Mach.onRim_coil (m : Mach) (f : Rim → Rim) : (m.onRim f).coil = m.coil := rfl
@[simp] theorem Mach.onRim_cmd (m : Mach) (f : Rim → Rim) : (m.onRim f).cmd = m.cmd := rfl
@[simp] theorem Mach.onRim_cdc (m : Mach) (f : Rim → Rim) : (m.onRim f).cdc = m.cdc := rfl
@[simp] theorem Mach.onRim_pace (m : Mach) (f : Rim → Rim) : (m.onRim f).pace = m.pace := rfl
@[simp] theorem Mach.onRim_time (m : Mach) (f : Rim → Rim) : (m.onRim f).time = m.time := rfl
@[simp] theorem Mach.onRim_ptp (m : Mach) (f : Rim → Rim) : (m.onRim f).ptp = m.ptp := rfl
@[simp] theorem Mach.onRim_svi (m : Mach) (f : Rim → Rim) : (m.onRim f).svi = m.svi := rfl
@[simp] theorem Mach.onRim_msr (m : Mach) (f : Rim → Rim) : (m.onRim f).msr = m.msr := rfl
@[simp] theorem Mach.onRim_adm (m : Mach) (f : Rim → Rim) : (m.onRim f).adm = m.adm := rfl
@[simp] theorem Mach.onRim_dsp (m : Mach) (f : Rim → Rim) : (m.onRim f).dsp = m.dsp := rfl
@[simp] theorem Mach.onRim_pub (m : Mach) (f : Rim → Rim) : (m.onRim f).pub = m.pub := rfl
@[simp] theorem Mach.onRim_twn (m : Mach) (f : Rim → Rim) : (m.onRim f).twn = m.twn := rfl
@[simp] theorem Mach.onRim_parts (m : Mach) (f : Rim → Rim) : (m.onRim f).parts = m.parts := rfl
@[simp] theorem Mach.onRim_ports (m : Mach) (f : Rim → Rim) : (m.onRim f).ports = m.ports := rfl
@[simp] theorem Mach.onRim_pairs (m : Mach) (f : Rim → Rim) : (m.onRim f).pairs = m.pairs := rfl
@[simp] theorem Mach.onRim_swc (m : Mach) (f : Rim → Rim) : (m.onRim f).swc = m.swc := rfl
@[simp] theorem Mach.onRim_acq (m : Mach) (f : Rim → Rim) : (m.onRim f).acq = m.acq := rfl
@[simp] theorem Mach.onRim_nrg (m : Mach) (f : Rim → Rim) : (m.onRim f).nrg = m.nrg := rfl
@[simp] theorem Mach.onRim_pls (m : Mach) (f : Rim → Rim) : (m.onRim f).pls = m.pls := rfl
@[simp] theorem Mach.onRim_flash (m : Mach) (f : Rim → Rim) : (m.onRim f).flash = m.flash := rfl
@[simp] theorem Mach.onRim_rst (m : Mach) (f : Rim → Rim) : (m.onRim f).rst = m.rst := rfl

/-! ### `Mach.onRst` -/

@[simp] theorem Mach.onRst_now (m : Mach) (f : Rst → Rst) : (m.onRst f).now = m.now := rfl
@[simp] theorem Mach.onRst_free (m : Mach) (f : Rst → Rst) : (m.onRst f).free = m.free := rfl
@[simp] theorem Mach.onRst_powered (m : Mach) (f : Rst → Rst) : (m.onRst f).powered = m.powered := rfl
@[simp] theorem Mach.onRst_regs (m : Mach) (f : Rst → Rst) : (m.onRst f).regs = m.regs := rfl
@[simp] theorem Mach.onRst_force (m : Mach) (f : Rst → Rst) : (m.onRst f).force = m.force := rfl
@[simp] theorem Mach.onRst_low (m : Mach) (f : Rst → Rst) : (m.onRst f).low = m.low := rfl
@[simp] theorem Mach.onRst_capt (m : Mach) (f : Rst → Rst) : (m.onRst f).capt = m.capt := rfl
@[simp] theorem Mach.onRst_frozen (m : Mach) (f : Rst → Rst) : (m.onRst f).frozen = m.frozen := rfl
@[simp] theorem Mach.onRst_timers (m : Mach) (f : Rst → Rst) : (m.onRst f).timers = m.timers := rfl
@[simp] theorem Mach.onRst_bulk (m : Mach) (f : Rst → Rst) : (m.onRst f).bulk = m.bulk := rfl
@[simp] theorem Mach.onRst_bulkF (m : Mach) (f : Rst → Rst) : (m.onRst f).bulkF = m.bulkF := rfl
@[simp] theorem Mach.onRst_mem (m : Mach) (f : Rst → Rst) : (m.onRst f).mem = m.mem := rfl
@[simp] theorem Mach.onRst_outs (m : Mach) (f : Rst → Rst) : (m.onRst f).outs = m.outs := rfl
@[simp] theorem Mach.onRst_coil (m : Mach) (f : Rst → Rst) : (m.onRst f).coil = m.coil := rfl
@[simp] theorem Mach.onRst_cmd (m : Mach) (f : Rst → Rst) : (m.onRst f).cmd = m.cmd := rfl
@[simp] theorem Mach.onRst_cdc (m : Mach) (f : Rst → Rst) : (m.onRst f).cdc = m.cdc := rfl
@[simp] theorem Mach.onRst_pace (m : Mach) (f : Rst → Rst) : (m.onRst f).pace = m.pace := rfl
@[simp] theorem Mach.onRst_time (m : Mach) (f : Rst → Rst) : (m.onRst f).time = m.time := rfl
@[simp] theorem Mach.onRst_ptp (m : Mach) (f : Rst → Rst) : (m.onRst f).ptp = m.ptp := rfl
@[simp] theorem Mach.onRst_svi (m : Mach) (f : Rst → Rst) : (m.onRst f).svi = m.svi := rfl
@[simp] theorem Mach.onRst_msr (m : Mach) (f : Rst → Rst) : (m.onRst f).msr = m.msr := rfl
@[simp] theorem Mach.onRst_adm (m : Mach) (f : Rst → Rst) : (m.onRst f).adm = m.adm := rfl
@[simp] theorem Mach.onRst_dsp (m : Mach) (f : Rst → Rst) : (m.onRst f).dsp = m.dsp := rfl
@[simp] theorem Mach.onRst_pub (m : Mach) (f : Rst → Rst) : (m.onRst f).pub = m.pub := rfl
@[simp] theorem Mach.onRst_twn (m : Mach) (f : Rst → Rst) : (m.onRst f).twn = m.twn := rfl
@[simp] theorem Mach.onRst_parts (m : Mach) (f : Rst → Rst) : (m.onRst f).parts = m.parts := rfl
@[simp] theorem Mach.onRst_ports (m : Mach) (f : Rst → Rst) : (m.onRst f).ports = m.ports := rfl
@[simp] theorem Mach.onRst_pairs (m : Mach) (f : Rst → Rst) : (m.onRst f).pairs = m.pairs := rfl
@[simp] theorem Mach.onRst_swc (m : Mach) (f : Rst → Rst) : (m.onRst f).swc = m.swc := rfl
@[simp] theorem Mach.onRst_acq (m : Mach) (f : Rst → Rst) : (m.onRst f).acq = m.acq := rfl
@[simp] theorem Mach.onRst_nrg (m : Mach) (f : Rst → Rst) : (m.onRst f).nrg = m.nrg := rfl
@[simp] theorem Mach.onRst_pls (m : Mach) (f : Rst → Rst) : (m.onRst f).pls = m.pls := rfl
@[simp] theorem Mach.onRst_rim (m : Mach) (f : Rst → Rst) : (m.onRst f).rim = m.rim := rfl
@[simp] theorem Mach.onRst_flash (m : Mach) (f : Rst → Rst) : (m.onRst f).flash = m.flash := rfl

end Sys2Proof.Machine
end

