-- ==== Sys2Proof/Laws/Regs.lean ====
section
/-! SUPPORT. The algebra of sparse tables, bit fields and register words: what a read gives after a write. -/

namespace Sys2Proof.Machine

/-! ### Sparse tables -/

@[simp] theorem kget_kput_same {α : Type} (k : Nat) (v : α) (l : KMap α) : kget k (kput k v l) = some v := by
  induction l with
  | nil => simp [kput, kget]
  | cons e r ih =>
    obtain ⟨k', v'⟩ := e
    by_cases h1 : k' < k
    · have : k' ≠ k := by omega
      simp [kput, kget, h1, this, ih]
    · by_cases h2 : k' = k <;> simp [kput, kget, h1, h2]

theorem kget_kput_ne {α : Type} {k j : Nat} (v : α) (l : KMap α) (h : j ≠ k) : kget j (kput k v l) = kget j l := by
  induction l with
  | nil => simp [kput, kget, Ne.symm h]
  | cons e r ih =>
    obtain ⟨k', v'⟩ := e
    by_cases h1 : k' < k
    · simp [kput, kget, h1, ih]
    · by_cases h2 : k' = k
      · subst h2; simp [kput, kget, Ne.symm h]
      · simp [kput, kget, h1, h2, Ne.symm h]

/-! ### Bit fields -/

theorem bits_testBit (v hi lo n : Nat) : (bits v hi lo).testBit n = (decide (n < hi + 1 - lo) && v.testBit (n + lo)) := by
  simp [bits, Nat.testBit_mod_two_pow, Nat.testBit_div_two_pow]

theorem setBits_eq (v hi lo x : Nat) (h : lo ≤ hi) :
    setBits v hi lo x
      = 2 ^ (hi + 1) * (v / 2 ^ (hi + 1)) + (2 ^ lo * (x % 2 ^ (hi + 1 - lo)) + v % 2 ^ lo) := by
  have hw : 2 ^ (hi + 1) = 2 ^ lo * 2 ^ (hi + 1 - lo) := by rw [← pow_add]; congr 1; omega
  have h1 : v = 2 ^ lo * (v / 2 ^ lo) + v % 2 ^ lo := (Nat.div_add_mod v (2 ^ lo)).symm
  have h2 : v / 2 ^ lo = 2 ^ (hi + 1 - lo) * (v / 2 ^ (hi + 1)) + bits v hi lo := by
    rw [hw, ← Nat.div_div_eq_div_mul, bits]; exact (Nat.div_add_mod _ _).symm
  have h3 : v = 2 ^ (hi + 1) * (v / 2 ^ (hi + 1)) + (2 ^ lo * bits v hi lo + v % 2 ^ lo) := by
    conv_lhs => rw [h1, h2]
    rw [hw]; ring
  have h4 : bits v hi lo * 2 ^ lo = 2 ^ lo * bits v hi lo := Nat.mul_comm _ _
  unfold setBits
  rw [h4, Nat.mul_comm (x % _)]
  omega

theorem setBits_testBit (v hi lo x n : Nat) (h : lo ≤ hi) :
    (setBits v hi lo x).testBit n = if lo ≤ n ∧ n ≤ hi then x.testBit (n - lo) else v.testBit n := by
  have hw : 2 ^ (hi + 1) = 2 ^ lo * 2 ^ (hi + 1 - lo) := by rw [← pow_add]; congr 1; omega
  have hc : v % 2 ^ lo < 2 ^ lo := Nat.mod_lt _ (by positivity)
  have hx : x % 2 ^ (hi + 1 - lo) < 2 ^ (hi + 1 - lo) := Nat.mod_lt _ (by positivity)
  have hb : 2 ^ lo * (x % 2 ^ (hi + 1 - lo)) + v % 2 ^ lo < 2 ^ (hi + 1) := by
    rw [hw]
    calc _ < 2 ^ lo * (x % 2 ^ (hi + 1 - lo)) + 2 ^ lo := by omega
      _ = 2 ^ lo * (x % 2 ^ (hi + 1 - lo) + 1) := by ring
      _ ≤ _ := Nat.mul_le_mul_left _ hx
  rw [setBits_eq v hi lo x h, Nat.testBit_two_pow_mul_add _ hb, Nat.testBit_two_pow_mul_add _ hc]
  by_cases h1 : n < hi + 1
  · by_cases h2 : n < lo
    · have : ¬ (lo ≤ n ∧ n ≤ hi) := by omega
      simp [h1, h2, this, Nat.testBit_mod_two_pow]
    · have h3 : lo ≤ n ∧ n ≤ hi := by omega
      have h4 : n - lo < hi + 1 - lo := by omega
      simp [h1, h2, h3, h4, Nat.testBit_mod_two_pow]
  · have h2 : ¬ (lo ≤ n ∧ n ≤ hi) := by omega
    simp [h1, h2, Nat.testBit_div_two_pow]
    congr 1; omega

theorem bits_setBits_same (v hi lo x : Nat) (h : lo ≤ hi) : bits (setBits v hi lo x) hi lo = x % 2 ^ (hi + 1 - lo) := by
  apply Nat.eq_of_testBit_eq; intro n
  rw [bits_testBit, setBits_testBit _ _ _ _ _ h, Nat.testBit_mod_two_pow]
  by_cases h1 : n < hi + 1 - lo
  · have : lo ≤ n + lo ∧ n + lo ≤ hi := by omega
    simp [h1, this]
  · simp [h1]

theorem bits_setBits_apart (v hi lo x hi' lo' : Nat) (h : lo ≤ hi) (ha : hi < lo' ∨ hi' < lo) :
    bits (setBits v hi lo x) hi' lo' = bits v hi' lo' := by
  apply Nat.eq_of_testBit_eq; intro n
  rw [bits_testBit, bits_testBit, setBits_testBit _ _ _ _ _ h]
  by_cases h1 : n < hi' + 1 - lo'
  · have : ¬ (lo ≤ n + lo' ∧ n + lo' ≤ hi) := by omega
    simp [this]
  · simp [h1]

theorem bits_mod (v hi lo n : Nat) (h : hi < n) : bits (v % 2 ^ n) hi lo = bits v hi lo := by
  apply Nat.eq_of_testBit_eq; intro k
  rw [bits_testBit, bits_testBit, Nat.testBit_mod_two_pow]
  by_cases h1 : k < hi + 1 - lo
  · have : k + lo < n := by omega
    simp [this]
  · simp [h1]

@[simp] theorem word_toNat (n : Nat) : (word n).toNat = n % 2 ^ 32 := by simp [word]

/-! ### Register words -/

theorem regKey_inj {p o i p' o' i' : Nat} (hp : p < 256) (ho : o < 4096) (hp' : p' < 256) (ho' : o' < 4096)
    (h : regKey p o i = regKey p' o' i') : p = p' ∧ o = o' ∧ i = i' := by
  unfold regKey at h; omega

@[simp] theorem reg_setReg_same (m : Mach) (p o i : Nat) (w : Word) : (m.setReg p o i w).reg p o i = w := by
  simp [Mach.setReg, Mach.reg]

theorem reg_setReg_ne (m : Mach) {p o i p' o' i' : Nat} (w : Word) (h : regKey p' o' i' ≠ regKey p o i) :
    (m.setReg p o i w).reg p' o' i' = m.reg p' o' i' := by
  simp [Mach.setReg, Mach.reg, kget_kput_ne _ _ h]

theorem reg_of_regs {m m' : Mach} (h : m'.regs = m.regs) (p o i : Nat) : m'.reg p o i = m.reg p o i := by
  simp [Mach.reg, h]

theorem fld_of_regs {m m' : Mach} (h : m'.regs = m.regs) (f : Fd) (i : Nat) : m'.fld f i = m.fld f i := by
  simp [Mach.fld, Mach.reg, h]

theorem cfg_of_force {m m' : Mach} (h : m'.force = m.force) (f : Fd) (i : Nat) : m'.cfg f i = m.cfg f i := by
  simp [Mach.cfg, Mach.inForce, h]

theorem on_of_force {m m' : Mach} (h : m'.force = m.force) (f : Fd) (i : Nat) : m'.on f i = m.on f i := by
  simp [Mach.on, cfg_of_force h]

/-- A field that lies within a word of a page. -/
def Fd.fits (f : Fd) : Prop := f.lo ≤ f.hi ∧ f.hi < 32 ∧ f.page < 256 ∧ f.off < 4096

/-- Two fields of different words, of different instances, or of different bits. -/
def Fd.apart (f : Fd) (i : Nat) (g : Fd) (j : Nat) : Prop :=
  f.page ≠ g.page ∨ f.off ≠ g.off ∨ i ≠ j ∨ f.hi < g.lo ∨ g.hi < f.lo

theorem fld_setFld_same (m : Mach) (f : Fd) (i v : Nat) (hf : Fd.fits f) :
    (m.setFld f i v).fld f i = v % 2 ^ (f.hi + 1 - f.lo) := by
  obtain ⟨h1, h2, -, -⟩ := hf
  simp only [Mach.fld, Mach.setFld, reg_setReg_same, word_toNat]
  rw [bits_mod _ _ _ _ h2, bits_setBits_same _ _ _ _ h1]

theorem fld_setFld_apart (m : Mach) (f g : Fd) (i j v : Nat) (hf : Fd.fits f) (hg : Fd.fits g) (h : Fd.apart f i g j) :
    (m.setFld f i v).fld g j = m.fld g j := by
  obtain ⟨h1, h2, h3, h4⟩ := hf
  obtain ⟨g1, g2, g3, g4⟩ := hg
  by_cases hk : regKey g.page g.off j = regKey f.page f.off i
  · obtain ⟨e1, e2, e3⟩ := regKey_inj g3 g4 h3 h4 hk
    have hb : f.hi < g.lo ∨ g.hi < f.lo := by
      rcases h with h | h | h | h
      · exact absurd e1.symm h
      · exact absurd e2.symm h
      · exact absurd e3.symm h
      · exact h
    simp only [Mach.fld, Mach.setFld, e1, e2, e3, reg_setReg_same, word_toNat]
    rw [bits_mod _ _ _ _ g2, bits_setBits_apart _ _ _ _ _ _ h1 hb]
  · simp only [Mach.fld, Mach.setFld, reg_setReg_ne m _ hk]

theorem flag_setFlag_same (m : Mach) (f : Fd) (i : Nat) (b : Bool) (hf : Fd.fits f) : (m.setFlag f i b).flag f i = b := by
  have h : 2 ≤ 2 ^ (f.hi + 1 - f.lo) := by
    have := hf.1
    calc 2 = 2 ^ 1 := rfl
      _ ≤ _ := Nat.pow_le_pow_right (by decide) (by omega)
  simp only [Mach.flag, Mach.setFlag, fld_setFld_same _ _ _ _ hf]
  rw [Nat.mod_eq_of_lt (by cases b <;> simp only [Bool.toNat_true, Bool.toNat_false] <;> omega)]
  cases b <;> simp

theorem count_eq (m : Mach) (f : Fd) (i n : Nat) : m.count f i n = m.setFld f i (m.fld f i + n) := rfl

theorem reg_setFld_ne (m : Mach) (f : Fd) (i v : Nat) {p o j : Nat} (h : regKey p o j ≠ regKey f.page f.off i) :
    (m.setFld f i v).reg p o j = m.reg p o j := reg_setReg_ne m _ h

/-! ### Updates that write no register -/

@[simp] theorem advance_reg (m : Mach) (t p o i : Nat) : (m.advance t).reg p o i = m.reg p o i := rfl
@[simp] theorem advance_fld (m : Mach) (t : Nat) (f : Fd) (i : Nat) : (m.advance t).fld f i = m.fld f i := rfl
@[simp] theorem advance_cfg (m : Mach) (t : Nat) (f : Fd) (i : Nat) : (m.advance t).cfg f i = m.cfg f i := rfl
@[simp] theorem advance_on (m : Mach) (t : Nat) (f : Fd) (i : Nat) : (m.advance t).on f i = m.on f i := rfl
@[simp] theorem advance_now (m : Mach) (t : Nat) : (m.advance t).now = max m.now (t / 4 * 4) := rfl
@[simp] theorem emit_outs (m : Mach) (o : Out) : (m.emit o).outs = o :: m.outs := rfl
@[simp] theorem emit_reg (m : Mach) (o : Out) (p k i : Nat) : (m.emit o).reg p k i = m.reg p k i := rfl
@[simp] theorem emit_fld (m : Mach) (o : Out) (f : Fd) (i : Nat) : (m.emit o).fld f i = m.fld f i := rfl
@[simp] theorem disarm_fld (m : Mach) (t : Timer) (f : Fd) (i : Nat) : (m.disarm t).fld f i = m.fld f i := rfl
@[simp] theorem disarm_cfg (m : Mach) (t : Timer) (f : Fd) (i : Nat) : (m.disarm t).cfg f i = m.cfg f i := rfl
@[simp] theorem arm_fld (m : Mach) (t : Timer) (a : Nat) (f : Fd) (i : Nat) : (m.arm t a).fld f i = m.fld f i := rfl
@[simp] theorem arm_cfg (m : Mach) (t : Timer) (a : Nat) (f : Fd) (i : Nat) : (m.arm t a).cfg f i = m.cfg f i := rfl
@[simp] theorem setFld_cfg (m : Mach) (f g : Fd) (i j v : Nat) : (m.setFld f i v).cfg g j = m.cfg g j := rfl

/-! ### Running a command -/

theorem run_powered (s : State) (t : Nat) (f : Mach → Mach) (h : s.m.powered = true) :
    s.run t f = .next { s with m := f (s.m.advance t) } := by simp [State.run, h]

theorem run_off (s : State) (t : Nat) (f : Mach → Mach) (h : s.m.powered = false) : s.run t f = .next s := by
  simp [State.run, h]

theorem onExpiry_due (m : Mach) (t : Timer) (f : Mach → Mach) (h : m.due t = true) : m.onExpiry t f = f (m.disarm t) := by
  simp [Mach.onExpiry, h]

theorem onExpiry_not_due (m : Mach) (t : Timer) (f : Mach → Mach) (h : m.due t = false) : m.onExpiry t f = m := by
  simp [Mach.onExpiry, h]

/-! ### Timers -/

theorem deadline_arm_same (m : Mach) (t : Timer) (a : Nat) : (m.arm t a).deadline t = some a := by
  simp [Mach.arm, Mach.deadline]

theorem find_filter_other {t u : Timer} (h : u ≠ t) (l : List (Timer × Nat)) :
    (l.filter fun e => e.1 != t).find? (fun e => e.1 == u) = l.find? fun e => e.1 == u := by
  induction l with
  | nil => rfl
  | cons e r ih =>
    by_cases h1 : e.1 = t
    · have h2 : (e.1 == u) = false := by simp [h1, Ne.symm h]
      have h3 : (e.1 != t) = false := by simp [h1]
      rw [List.filter_cons_of_neg (by simp [h3]), ih, List.find?_cons_of_neg (by simp [h2])]
    · have h3 : (e.1 != t) = true := by simp [h1]
      rw [List.filter_cons_of_pos (p := fun e : Timer × Nat => e.1 != t) h3]
      by_cases h4 : e.1 = u
      · rw [List.find?_cons_of_pos (by simp [h4]), List.find?_cons_of_pos (by simp [h4])]
      · rw [List.find?_cons_of_neg (by simp [h4]), List.find?_cons_of_neg (by simp [h4]), ih]

theorem deadline_arm_other (m : Mach) {t u : Timer} (a : Nat) (h : u ≠ t) : (m.arm t a).deadline u = m.deadline u := by
  have h2 : (t == u) = false := by simp [Ne.symm h]
  simp [Mach.arm, Mach.deadline, h2, find_filter_other h]

theorem deadline_disarm_same (m : Mach) (t : Timer) : (m.disarm t).deadline t = none := by
  simp [Mach.disarm, Mach.deadline]

theorem deadline_disarm_other (m : Mach) {t u : Timer} (h : u ≠ t) : (m.disarm t).deadline u = m.deadline u := by
  simp [Mach.disarm, Mach.deadline, find_filter_other h]

end Sys2Proof.Machine
end

