-- ==== Sys2Proof/Laws/Recorder.lean ====
section
/-! SUPPORT. Everything the recorder and the event flags can do to the module: they write the recorder's own state and
registers, PAGE_EVT, PAGE_ERR_INFO and PAGE_ERR_TIME of a page, and what is driven outward; nothing else. -/

namespace Sys2Proof.Machine

/-- From `m` to `m'` only registers that `S` names, the recorder and the outputs changed. -/
def Mach.within (S : Nat → Nat → Prop) (m m' : Mach) : Prop :=
  m' = { m with regs := m'.regs, coil := m'.coil, outs := m'.outs }
    ∧ ∀ p o i, p < 256 → o < 4096 → ¬ S p o → m'.reg p o i = m.reg p o i

theorem within_refl (S : Nat → Nat → Prop) (m : Mach) : m.within S m := ⟨rfl, fun _ _ _ _ _ _ => rfl⟩

theorem within_trans {S : Nat → Nat → Prop} {a b c : Mach} (h : a.within S b) (k : b.within S c) : a.within S c := by
  refine ⟨?_, fun p o i hp ho hs => (k.2 p o i hp ho hs).trans (h.2 p o i hp ho hs)⟩
  have h1 := h.1
  have k1 := k.1
  rw [h1] at k1
  exact k1

theorem within_mono {S T : Nat → Nat → Prop} {a b : Mach} (hst : ∀ p o, S p o → T p o) (h : a.within S b) : a.within T b :=
  ⟨h.1, fun p o i hp ho ht => h.2 p o i hp ho fun hs => ht (hst p o hs)⟩

theorem within_setReg {S : Nat → Nat → Prop} (m : Mach) (p o i : Nat) (w : Word) (hp : p < 256) (ho : o < 4096)
    (h : S p o) : m.within S (m.setReg p o i w) := by
  refine ⟨rfl, fun p' o' i' hp' ho' hs => reg_setReg_ne m w fun hk => hs ?_⟩
  obtain ⟨rfl, rfl, -⟩ := regKey_inj hp' ho' hp ho hk
  exact h

theorem within_setFld {S : Nat → Nat → Prop} (m : Mach) (f : Fd) (i v : Nat) (hp : f.page < 256) (ho : f.off < 4096)
    (h : S f.page f.off) : m.within S (m.setFld f i v) := within_setReg m _ _ _ _ hp ho h

theorem within_count {S : Nat → Nat → Prop} (m : Mach) (f : Fd) (i n : Nat) (hp : f.page < 256) (ho : f.off < 4096)
    (h : S f.page f.off) : m.within S (m.count f i n) := within_setReg m _ _ _ _ hp ho h

theorem within_emit (S : Nat → Nat → Prop) (m : Mach) (o : Out) : m.within S (m.emit o) :=
  ⟨rfl, fun _ _ _ _ _ _ => rfl⟩

theorem within_onCoil (S : Nat → Nat → Prop) (m : Mach) (f : Coil → Coil) : m.within S (m.onCoil f) :=
  ⟨rfl, fun _ _ _ _ _ _ => rfl⟩

theorem within_coil (S : Nat → Nat → Prop) (m : Mach) (c : Coil) : m.within S { m with coil := c } :=
  ⟨rfl, fun _ _ _ _ _ _ => rfl⟩

theorem within_foldl {S : Nat → Nat → Prop} {α : Type} (f : Mach → α → Mach) (h : ∀ (m : Mach) (a : α), m.within S (f m a)) (l : List α)
    (m : Mach) : m.within S (l.foldl f m) := by
  induction l generalizing m with
  | nil => exact within_refl S m
  | cons a r ih => exact within_trans (h m a) (ih (f m a))

/-! ### The recorder -/

theorem within_recCount (m : Mach) (k n : Nat) (hk : k < 8) :
    m.within recPage (m.count (COIL_CNT_n.nth k) 0 n) :=
  within_count m _ 0 n (by simp [Fd.nth, COIL_CNT_n]) (by simp [Fd.nth, COIL_CNT_n]; omega)
    ⟨rfl, Or.inr (by simp [Fd.nth, COIL_CNT_n]; omega)⟩

theorem coilEvent_within (m : Mach) (b : Nat) : m.within recPage (m.coilEvent b) := by
  unfold Mach.coilEvent
  have h := within_setFld (S := recPage) m (hEvt 0x07) 0 (setBits (m.fld (hEvt 0x07)) b b 1) (by simp [hEvt])
    (by simp [hEvt]) ⟨rfl, Or.inl rfl⟩
  dsimp only
  split
  · refine within_trans (within_trans h (within_emit _ _ (.eventIrq 0x07))) ?_
    split
    · exact within_emit _ _ _
    · exact within_refl _ _
  · exact h

theorem writeRec_within (m : Mach) (slot : Nat) (r : Rec) (o : OpenRec) : m.within recPage (m.writeRec slot r o) :=
  within_trans (within_coil _ m _) (within_recCount _ 0 1 (by decide))

theorem foldRec_within (m : Mach) (o : OpenRec) : m.within recPage (m.foldRec o).1 := by
  unfold Mach.foldRec
  split
  · exact within_trans (within_trans (within_onCoil _ m _) (within_onCoil _ _ _)) (within_recCount _ 1 _ (by decide))
  · exact within_refl _ m

theorem closeRec_within (m : Mach) (o : OpenRec) (k : Bool) : m.within recPage (m.closeRec o k) := by
  unfold Mach.closeRec
  have h := foldRec_within m o
  split
  rename_i m' _ _ heq
  rw [heq] at h
  exact within_trans h (within_onCoil _ _ _)

theorem openOne_within (m : Mach) (e : FifoEntry) (sn : List Word) (a b c : Bool) :
    m.within recPage (m.openOne e sn a b c).1 := by
  unfold Mach.openOne
  split
  · exact within_trans (within_recCount m 4 1 (by decide)) (coilEvent_within _ _)
  · rename_i slot lost _
    dsimp only
    have h0 : m.within recPage (if lost = true then (m.count COIL_OVWR).coilEvent 2 else m) := by
      split
      · exact within_trans (within_recCount m 3 1 (by decide)) (coilEvent_within _ _)
      · exact within_refl _ m
    split
    · exact within_trans (within_trans h0 (writeRec_within _ _ _ _)) (closeRec_within _ _ _)
    · exact within_trans h0 (writeRec_within _ _ _ _)

theorem openRest_within (e : FifoEntry) (l : List (List Word)) (m : Mach) : m.within recPage (m.openRest e l) := by
  induction l generalizing m with
  | nil => exact within_refl _ m
  | cons s r ih =>
    unfold Mach.openRest
    have h := openOne_within m e s false (!r.isEmpty) false
    split
    · rename_i m' heq; rw [heq] at h; exact within_trans h (ih m')
    · rename_i m' heq; rw [heq] at h; exact within_trans h (within_recCount _ 4 _ (by decide))

theorem openRec_within (m : Mach) (e : FifoEntry) : m.within recPage (m.openRec e) := by
  unfold Mach.openRec
  dsimp only
  split
  · exact within_trans (within_onCoil _ m _) (openOne_within _ _ _ _ _ _)
  · rename_i s r _
    refine within_trans (within_onCoil _ m fun c =>
      { c with closedId := c.closedId.filter fun o => !sameSource e.page e.code e.sev e.attr e.snap o }) ?_
    generalize m.onCoil _ = m1
    generalize (m.coil.closedId.any _ || _) = b
    have h := openOne_within m1 e s true (!r.isEmpty) b
    split
    · rename_i m' heq; rw [heq] at h; exact within_trans h (openRest_within e r m')
    · rename_i m' heq; rw [heq] at h; exact within_trans h (within_recCount _ 4 _ (by decide))

theorem rewriteRec_within (m : Mach) (o : OpenRec) : m.within recPage (m.rewriteRec o) := by
  unfold Mach.rewriteRec
  have h := foldRec_within m o
  split
  rename_i m' rest sat heq
  rw [heq] at h
  split
  · dsimp only
    have h2 := within_trans h (within_trans (closeRec_within m' { o with pending := [] } true) (coilEvent_within _ 3))
    split
    · exact h2
    · exact within_trans h2 (openRec_within _ _)
  · exact h

theorem newSegment_within (m : Mach) (w : Nat) : m.within recPage (m.newSegment w) := by
  unfold Mach.newSegment
  extract_lets m1 m2 m3 ep
  have h1 : m.within recPage m1 := within_foldl _ (fun m o => rewriteRec_within m o) _ m
  have h2 : m1.within recPage m2 := within_foldl _ (fun m o => closeRec_within m o true) _ _
  exact within_trans (within_trans h1 h2) (within_trans (within_onCoil _ _ _) (openRec_within m3 _))

theorem loseEvent_within (m : Mach) (p s : Nat) (t : Word) : m.within recPage (m.loseEvent p s t) := by
  unfold Mach.loseEvent
  extract_lets m1
  have h1 : m.within recPage m1 := within_trans (within_recCount m 2 1 (by decide)) (coilEvent_within _ 0)
  exact within_trans h1 (within_onCoil _ _ _)

theorem intake_within (m : Mach) (p c s a : Nat) (t : Word) (sn : List Word) (cut : Bool) :
    m.within recPage (m.intake p c s a t sn cut) := by
  unfold Mach.intake
  split
  · exact within_recCount m 2 1 (by decide)
  · dsimp only
    have h0 : m.within recPage (if m.coil.wrapNo < wrapOfTag m t then m.newSegment (wrapOfTag m t) else m) := by
      split
      · exact newSegment_within _ _
      · exact within_refl _ m
    refine within_trans h0 ?_
    generalize (if m.coil.wrapNo < wrapOfTag m t then m.newSegment (wrapOfTag m t) else m) = m1
    split
    · exact within_onCoil _ _ _
    · split
      · exact within_onCoil _ _ _
      · exact loseEvent_within _ _ _ _

theorem takeHead_within (m : Mach) : m.within recPage m.takeHead := by
  unfold Mach.takeHead
  split
  · exact within_refl _ m
  · rename_i e rest _
    extract_lets isTally m0 m1
    have h0 : m.within recPage m0 := within_onCoil _ _ _
    have h1 : m0.within recPage m1 := by
      change m0.within recPage (match m0.coil.tally with
        | some t => if (m0.coil.fifo.any fun x => x.code == 0xF00) = true then m0 else
            m0.onCoil fun c => { c with fifo := c.fifo ++ [tallyEntry m0 t], fifoMax := max c.fifoMax (c.fifo.length + 1) }
        | none => m0)
      clear_value m0
      split
      · split
        · exact within_refl _ _
        · exact within_onCoil _ _ _
      · exact within_refl _ _
    refine within_trans (within_trans h0 h1) ?_
    clear_value m1
    split
    · exact within_onCoil _ _ _
    · exact openRec_within _ _

/-! ### Event flags, rejections and audit records -/

/-- What the recorder writes, and PAGE_EVT of page `q`. -/
def evtOf (q p o : Nat) : Prop := recPage p o ∨ (p = q ∧ o = 0x014)

/-- What the recorder writes, and PAGE_EVT, PAGE_ERR_INFO and PAGE_ERR_TIME of page `q`. -/
def errOf (q p o : Nat) : Prop := recPage p o ∨ (p = q ∧ (o = 0x014 ∨ o = 0x020 ∨ o = 0x024))

theorem latch_within (m : Mach) (q b : Nat) (hq : q < 256) : m.within (evtOf q) (m.latch q b) :=
  within_setFld m (hEvt q) 0 _ hq (by simp [hEvt]) (Or.inr ⟨rfl, rfl⟩)

theorem signal_within (S : Nat → Nat → Prop) (m : Mach) (q b : Nat) : m.within S (m.signal q b) := by
  unfold Mach.signal
  split
  · dsimp only
    split
    · exact within_trans (within_emit _ m _) (within_emit _ _ _)
    · exact within_emit _ m _
  · exact within_refl _ m

theorem eventRecord_within (m : Mach) (q b : Nat) (a : Attr) : m.within recPage (m.eventRecord q b a) := by
  unfold Mach.eventRecord
  exact intake_within _ _ _ _ _ _ _ _

theorem recPage_evtOf (q : Nat) : ∀ p o, recPage p o → evtOf q p o := fun _ _ h => Or.inl h

theorem event_within (m : Mach) (q b : Nat) (a : Attr) (hq : q < 256) : m.within (evtOf q) (m.event q b a) := by
  unfold Mach.event
  refine within_trans (latch_within m q b hq) ?_
  refine within_trans ?_ (signal_within _ _ _ _)
  split
  · exact within_mono (recPage_evtOf q) (eventRecord_within _ _ _ _)
  · exact within_refl _ _

theorem eventAlways_within (m : Mach) (q b : Nat) (a : Attr) (hq : q < 256) :
    m.within (evtOf q) (m.eventAlways q b a) :=
  within_trans (within_trans (latch_within m q b hq) (within_mono (recPage_evtOf q) (eventRecord_within _ _ _ _)))
    (signal_within _ _ _ _)

theorem record_within (m : Mach) (p c s : Nat) (a : Attr) (sn : List Word) : m.within recPage (m.record p c s a sn) :=
  intake_within _ _ _ _ _ _ _ _

theorem audit_within (m : Mach) (p c : Nat) (sn : List Word) : m.within recPage (m.audit p c sn) :=
  intake_within _ _ _ _ _ _ _ _

theorem reject_within (m : Mach) (q : Nat) (src : Src) (off reason : Nat) (v : Word) (hq : q < 256) :
    m.within (errOf q) (m.reject q src off reason v) := by
  unfold Mach.reject
  refine within_trans ?_ (within_mono (fun _ _ h => Or.inl h) (intake_within _ _ _ _ _ _ _ _))
  split
  · exact within_setFld m (hErr q) 0 _ hq (by simp [hErr]) (Or.inr ⟨rfl, Or.inr (Or.inl rfl)⟩)
  · exact within_trans (within_setFld m (hErr q) 0 _ hq (by simp [hErr]) (Or.inr ⟨rfl, Or.inr (Or.inl rfl)⟩))
      (within_setReg _ q 0x024 0 _ hq (by omega) (Or.inr ⟨rfl, Or.inr (Or.inr rfl)⟩))

/-! ### The fields none of these write -/

theorem within_now {S : Nat → Nat → Prop} {a b : Mach} (h : a.within S b) : b.now = a.now := by rw [h.1]
theorem within_free {S : Nat → Nat → Prop} {a b : Mach} (h : a.within S b) : b.free = a.free := by rw [h.1]
theorem within_powered {S : Nat → Nat → Prop} {a b : Mach} (h : a.within S b) : b.powered = a.powered := by rw [h.1]
theorem within_force {S : Nat → Nat → Prop} {a b : Mach} (h : a.within S b) : b.force = a.force := by rw [h.1]
theorem within_low {S : Nat → Nat → Prop} {a b : Mach} (h : a.within S b) : b.low = a.low := by rw [h.1]
theorem within_capt {S : Nat → Nat → Prop} {a b : Mach} (h : a.within S b) : b.capt = a.capt := by rw [h.1]
theorem within_frozen {S : Nat → Nat → Prop} {a b : Mach} (h : a.within S b) : b.frozen = a.frozen := by rw [h.1]
theorem within_timers {S : Nat → Nat → Prop} {a b : Mach} (h : a.within S b) : b.timers = a.timers := by rw [h.1]
theorem within_bulk {S : Nat → Nat → Prop} {a b : Mach} (h : a.within S b) : b.bulk = a.bulk := by rw [h.1]
theorem within_bulkF {S : Nat → Nat → Prop} {a b : Mach} (h : a.within S b) : b.bulkF = a.bulkF := by rw [h.1]
theorem within_mem {S : Nat → Nat → Prop} {a b : Mach} (h : a.within S b) : b.mem = a.mem := by rw [h.1]
theorem within_cmd {S : Nat → Nat → Prop} {a b : Mach} (h : a.within S b) : b.cmd = a.cmd := by rw [h.1]
theorem within_cdc {S : Nat → Nat → Prop} {a b : Mach} (h : a.within S b) : b.cdc = a.cdc := by rw [h.1]
theorem within_pace {S : Nat → Nat → Prop} {a b : Mach} (h : a.within S b) : b.pace = a.pace := by rw [h.1]
theorem within_time {S : Nat → Nat → Prop} {a b : Mach} (h : a.within S b) : b.time = a.time := by rw [h.1]
theorem within_ptp {S : Nat → Nat → Prop} {a b : Mach} (h : a.within S b) : b.ptp = a.ptp := by rw [h.1]
theorem within_svi {S : Nat → Nat → Prop} {a b : Mach} (h : a.within S b) : b.svi = a.svi := by rw [h.1]
theorem within_msr {S : Nat → Nat → Prop} {a b : Mach} (h : a.within S b) : b.msr = a.msr := by rw [h.1]
theorem within_adm {S : Nat → Nat → Prop} {a b : Mach} (h : a.within S b) : b.adm = a.adm := by rw [h.1]
theorem within_dsp {S : Nat → Nat → Prop} {a b : Mach} (h : a.within S b) : b.dsp = a.dsp := by rw [h.1]
theorem within_pub {S : Nat → Nat → Prop} {a b : Mach} (h : a.within S b) : b.pub = a.pub := by rw [h.1]
theorem within_twn {S : Nat → Nat → Prop} {a b : Mach} (h : a.within S b) : b.twn = a.twn := by rw [h.1]
theorem within_parts {S : Nat → Nat → Prop} {a b : Mach} (h : a.within S b) : b.parts = a.parts := by rw [h.1]
theorem within_ports {S : Nat → Nat → Prop} {a b : Mach} (h : a.within S b) : b.ports = a.ports := by rw [h.1]
theorem within_pairs {S : Nat → Nat → Prop} {a b : Mach} (h : a.within S b) : b.pairs = a.pairs := by rw [h.1]
theorem within_swc {S : Nat → Nat → Prop} {a b : Mach} (h : a.within S b) : b.swc = a.swc := by rw [h.1]
theorem within_acq {S : Nat → Nat → Prop} {a b : Mach} (h : a.within S b) : b.acq = a.acq := by rw [h.1]
theorem within_nrg {S : Nat → Nat → Prop} {a b : Mach} (h : a.within S b) : b.nrg = a.nrg := by rw [h.1]
theorem within_pls {S : Nat → Nat → Prop} {a b : Mach} (h : a.within S b) : b.pls = a.pls := by rw [h.1]
theorem within_rim {S : Nat → Nat → Prop} {a b : Mach} (h : a.within S b) : b.rim = a.rim := by rw [h.1]
theorem within_flash {S : Nat → Nat → Prop} {a b : Mach} (h : a.within S b) : b.flash = a.flash := by rw [h.1]
theorem within_rst {S : Nat → Nat → Prop} {a b : Mach} (h : a.within S b) : b.rst = a.rst := by rw [h.1]

/-! A register field outside what `S` names is unchanged. -/

theorem within_fld {S : Nat → Nat → Prop} {a b : Mach} (h : a.within S b) (f : Fd) (i : Nat) (hp : f.page < 256)
    (ho : f.off < 4096) (hs : ¬ S f.page f.off) : b.fld f i = a.fld f i := by
  simp only [Mach.fld, h.2 f.page f.off i hp ho hs]

theorem within_cfg {S : Nat → Nat → Prop} {a b : Mach} (h : a.within S b) (f : Fd) (i : Nat) : b.cfg f i = a.cfg f i :=
  cfg_of_force (within_force h) f i

@[simp] theorem Mach.event_now (m : Mach) (q b : Nat) (a : Attr) (hq : q < 256) : (m.event q b a).now = m.now := within_now (event_within m q b a hq)
@[simp] theorem Mach.event_free (m : Mach) (q b : Nat) (a : Attr) (hq : q < 256) : (m.event q b a).free = m.free := within_free (event_within m q b a hq)
@[simp] theorem Mach.event_powered (m : Mach) (q b : Nat) (a : Attr) (hq : q < 256) : (m.event q b a).powered = m.powered := within_powered (event_within m q b a hq)
@[simp] theorem Mach.event_force (m : Mach) (q b : Nat) (a : Attr) (hq : q < 256) : (m.event q b a).force = m.force := within_force (event_within m q b a hq)
@[simp] theorem Mach.event_low (m : Mach) (q b : Nat) (a : Attr) (hq : q < 256) : (m.event q b a).low = m.low := within_low (event_within m q b a hq)
@[simp] theorem Mach.event_capt (m : Mach) (q b : Nat) (a : Attr) (hq : q < 256) : (m.event q b a).capt = m.capt := within_capt (event_within m q b a hq)
@[simp] theorem Mach.event_frozen (m : Mach) (q b : Nat) (a : Attr) (hq : q < 256) : (m.event q b a).frozen = m.frozen := within_frozen (event_within m q b a hq)
@[simp] theorem Mach.event_timers (m : Mach) (q b : Nat) (a : Attr) (hq : q < 256) : (m.event q b a).timers = m.timers := within_timers (event_within m q b a hq)
@[simp] theorem Mach.event_bulk (m : Mach) (q b : Nat) (a : Attr) (hq : q < 256) : (m.event q b a).bulk = m.bulk := within_bulk (event_within m q b a hq)
@[simp] theorem Mach.event_bulkF (m : Mach) (q b : Nat) (a : Attr) (hq : q < 256) : (m.event q b a).bulkF = m.bulkF := within_bulkF (event_within m q b a hq)
@[simp] theorem Mach.event_mem (m : Mach) (q b : Nat) (a : Attr) (hq : q < 256) : (m.event q b a).mem = m.mem := within_mem (event_within m q b a hq)
@[simp] theorem Mach.event_cmd (m : Mach) (q b : Nat) (a : Attr) (hq : q < 256) : (m.event q b a).cmd = m.cmd := within_cmd (event_within m q b a hq)
@[simp] theorem Mach.event_cdc (m : Mach) (q b : Nat) (a : Attr) (hq : q < 256) : (m.event q b a).cdc = m.cdc := within_cdc (event_within m q b a hq)
@[simp] theorem Mach.event_pace (m : Mach) (q b : Nat) (a : Attr) (hq : q < 256) : (m.event q b a).pace = m.pace := within_pace (event_within m q b a hq)
@[simp] theorem Mach.event_time (m : Mach) (q b : Nat) (a : Attr) (hq : q < 256) : (m.event q b a).time = m.time := within_time (event_within m q b a hq)
@[simp] theorem Mach.event_ptp (m : Mach) (q b : Nat) (a : Attr) (hq : q < 256) : (m.event q b a).ptp = m.ptp := within_ptp (event_within m q b a hq)
@[simp] theorem Mach.event_svi (m : Mach) (q b : Nat) (a : Attr) (hq : q < 256) : (m.event q b a).svi = m.svi := within_svi (event_within m q b a hq)
@[simp] theorem Mach.event_msr (m : Mach) (q b : Nat) (a : Attr) (hq : q < 256) : (m.event q b a).msr = m.msr := within_msr (event_within m q b a hq)
@[simp] theorem Mach.event_adm (m : Mach) (q b : Nat) (a : Attr) (hq : q < 256) : (m.event q b a).adm = m.adm := within_adm (event_within m q b a hq)
@[simp] theorem Mach.event_dsp (m : Mach) (q b : Nat) (a : Attr) (hq : q < 256) : (m.event q b a).dsp = m.dsp := within_dsp (event_within m q b a hq)
@[simp] theorem Mach.event_pub (m : Mach) (q b : Nat) (a : Attr) (hq : q < 256) : (m.event q b a).pub = m.pub := within_pub (event_within m q b a hq)
@[simp] theorem Mach.event_twn (m : Mach) (q b : Nat) (a : Attr) (hq : q < 256) : (m.event q b a).twn = m.twn := within_twn (event_within m q b a hq)
@[simp] theorem Mach.event_parts (m : Mach) (q b : Nat) (a : Attr) (hq : q < 256) : (m.event q b a).parts = m.parts := within_parts (event_within m q b a hq)
@[simp] theorem Mach.event_ports (m : Mach) (q b : Nat) (a : Attr) (hq : q < 256) : (m.event q b a).ports = m.ports := within_ports (event_within m q b a hq)
@[simp] theorem Mach.event_pairs (m : Mach) (q b : Nat) (a : Attr) (hq : q < 256) : (m.event q b a).pairs = m.pairs := within_pairs (event_within m q b a hq)
@[simp] theorem Mach.event_swc (m : Mach) (q b : Nat) (a : Attr) (hq : q < 256) : (m.event q b a).swc = m.swc := within_swc (event_within m q b a hq)
@[simp] theorem Mach.event_acq (m : Mach) (q b : Nat) (a : Attr) (hq : q < 256) : (m.event q b a).acq = m.acq := within_acq (event_within m q b a hq)
@[simp] theorem Mach.event_nrg (m : Mach) (q b : Nat) (a : Attr) (hq : q < 256) : (m.event q b a).nrg = m.nrg := within_nrg (event_within m q b a hq)
@[simp] theorem Mach.event_pls (m : Mach) (q b : Nat) (a : Attr) (hq : q < 256) : (m.event q b a).pls = m.pls := within_pls (event_within m q b a hq)
@[simp] theorem Mach.event_rim (m : Mach) (q b : Nat) (a : Attr) (hq : q < 256) : (m.event q b a).rim = m.rim := within_rim (event_within m q b a hq)
@[simp] theorem Mach.event_flash (m : Mach) (q b : Nat) (a : Attr) (hq : q < 256) : (m.event q b a).flash = m.flash := within_flash (event_within m q b a hq)
@[simp] theorem Mach.event_rst (m : Mach) (q b : Nat) (a : Attr) (hq : q < 256) : (m.event q b a).rst = m.rst := within_rst (event_within m q b a hq)

@[simp] theorem Mach.audit_now (m : Mach) (p c : Nat) (sn : List Word) : (m.audit p c sn).now = m.now := within_now (audit_within m p c sn)
@[simp] theorem Mach.audit_free (m : Mach) (p c : Nat) (sn : List Word) : (m.audit p c sn).free = m.free := within_free (audit_within m p c sn)
@[simp] theorem Mach.audit_powered (m : Mach) (p c : Nat) (sn : List Word) : (m.audit p c sn).powered = m.powered := within_powered (audit_within m p c sn)
@[simp] theorem Mach.audit_force (m : Mach) (p c : Nat) (sn : List Word) : (m.audit p c sn).force = m.force := within_force (audit_within m p c sn)
@[simp] theorem Mach.audit_low (m : Mach) (p c : Nat) (sn : List Word) : (m.audit p c sn).low = m.low := within_low (audit_within m p c sn)
@[simp] theorem Mach.audit_capt (m : Mach) (p c : Nat) (sn : List Word) : (m.audit p c sn).capt = m.capt := within_capt (audit_within m p c sn)
@[simp] theorem Mach.audit_frozen (m : Mach) (p c : Nat) (sn : List Word) : (m.audit p c sn).frozen = m.frozen := within_frozen (audit_within m p c sn)
@[simp] theorem Mach.audit_timers (m : Mach) (p c : Nat) (sn : List Word) : (m.audit p c sn).timers = m.timers := within_timers (audit_within m p c sn)
@[simp] theorem Mach.audit_bulk (m : Mach) (p c : Nat) (sn : List Word) : (m.audit p c sn).bulk = m.bulk := within_bulk (audit_within m p c sn)
@[simp] theorem Mach.audit_bulkF (m : Mach) (p c : Nat) (sn : List Word) : (m.audit p c sn).bulkF = m.bulkF := within_bulkF (audit_within m p c sn)
@[simp] theorem Mach.audit_mem (m : Mach) (p c : Nat) (sn : List Word) : (m.audit p c sn).mem = m.mem := within_mem (audit_within m p c sn)
@[simp] theorem Mach.audit_cmd (m : Mach) (p c : Nat) (sn : List Word) : (m.audit p c sn).cmd = m.cmd := within_cmd (audit_within m p c sn)
@[simp] theorem Mach.audit_cdc (m : Mach) (p c : Nat) (sn : List Word) : (m.audit p c sn).cdc = m.cdc := within_cdc (audit_within m p c sn)
@[simp] theorem Mach.audit_pace (m : Mach) (p c : Nat) (sn : List Word) : (m.audit p c sn).pace = m.pace := within_pace (audit_within m p c sn)
@[simp] theorem Mach.audit_time (m : Mach) (p c : Nat) (sn : List Word) : (m.audit p c sn).time = m.time := within_time (audit_within m p c sn)
@[simp] theorem Mach.audit_ptp (m : Mach) (p c : Nat) (sn : List Word) : (m.audit p c sn).ptp = m.ptp := within_ptp (audit_within m p c sn)
@[simp] theorem Mach.audit_svi (m : Mach) (p c : Nat) (sn : List Word) : (m.audit p c sn).svi = m.svi := within_svi (audit_within m p c sn)
@[simp] theorem Mach.audit_msr (m : Mach) (p c : Nat) (sn : List Word) : (m.audit p c sn).msr = m.msr := within_msr (audit_within m p c sn)
@[simp] theorem Mach.audit_adm (m : Mach) (p c : Nat) (sn : List Word) : (m.audit p c sn).adm = m.adm := within_adm (audit_within m p c sn)
@[simp] theorem Mach.audit_dsp (m : Mach) (p c : Nat) (sn : List Word) : (m.audit p c sn).dsp = m.dsp := within_dsp (audit_within m p c sn)
@[simp] theorem Mach.audit_pub (m : Mach) (p c : Nat) (sn : List Word) : (m.audit p c sn).pub = m.pub := within_pub (audit_within m p c sn)
@[simp] theorem Mach.audit_twn (m : Mach) (p c : Nat) (sn : List Word) : (m.audit p c sn).twn = m.twn := within_twn (audit_within m p c sn)
@[simp] theorem Mach.audit_parts (m : Mach) (p c : Nat) (sn : List Word) : (m.audit p c sn).parts = m.parts := within_parts (audit_within m p c sn)
@[simp] theorem Mach.audit_ports (m : Mach) (p c : Nat) (sn : List Word) : (m.audit p c sn).ports = m.ports := within_ports (audit_within m p c sn)
@[simp] theorem Mach.audit_pairs (m : Mach) (p c : Nat) (sn : List Word) : (m.audit p c sn).pairs = m.pairs := within_pairs (audit_within m p c sn)
@[simp] theorem Mach.audit_swc (m : Mach) (p c : Nat) (sn : List Word) : (m.audit p c sn).swc = m.swc := within_swc (audit_within m p c sn)
@[simp] theorem Mach.audit_acq (m : Mach) (p c : Nat) (sn : List Word) : (m.audit p c sn).acq = m.acq := within_acq (audit_within m p c sn)
@[simp] theorem Mach.audit_nrg (m : Mach) (p c : Nat) (sn : List Word) : (m.audit p c sn).nrg = m.nrg := within_nrg (audit_within m p c sn)
@[simp] theorem Mach.audit_pls (m : Mach) (p c : Nat) (sn : List Word) : (m.audit p c sn).pls = m.pls := within_pls (audit_within m p c sn)
@[simp] theorem Mach.audit_rim (m : Mach) (p c : Nat) (sn : List Word) : (m.audit p c sn).rim = m.rim := within_rim (audit_within m p c sn)
@[simp] theorem Mach.audit_flash (m : Mach) (p c : Nat) (sn : List Word) : (m.audit p c sn).flash = m.flash := within_flash (audit_within m p c sn)
@[simp] theorem Mach.audit_rst (m : Mach) (p c : Nat) (sn : List Word) : (m.audit p c sn).rst = m.rst := within_rst (audit_within m p c sn)

@[simp] theorem Mach.reject_now (m : Mach) (q : Nat) (src : Src) (off reason : Nat) (v : Word) (hq : q < 256) : (m.reject q src off reason v).now = m.now := within_now (reject_within m q src off reason v hq)
@[simp] theorem Mach.reject_free (m : Mach) (q : Nat) (src : Src) (off reason : Nat) (v : Word) (hq : q < 256) : (m.reject q src off reason v).free = m.free := within_free (reject_within m q src off reason v hq)
@[simp] theorem Mach.reject_powered (m : Mach) (q : Nat) (src : Src) (off reason : Nat) (v : Word) (hq : q < 256) : (m.reject q src off reason v).powered = m.powered := within_powered (reject_within m q src off reason v hq)
@[simp] theorem Mach.reject_force (m : Mach) (q : Nat) (src : Src) (off reason : Nat) (v : Word) (hq : q < 256) : (m.reject q src off reason v).force = m.force := within_force (reject_within m q src off reason v hq)
@[simp] theorem Mach.reject_low (m : Mach) (q : Nat) (src : Src) (off reason : Nat) (v : Word) (hq : q < 256) : (m.reject q src off reason v).low = m.low := within_low (reject_within m q src off reason v hq)
@[simp] theorem Mach.reject_capt (m : Mach) (q : Nat) (src : Src) (off reason : Nat) (v : Word) (hq : q < 256) : (m.reject q src off reason v).capt = m.capt := within_capt (reject_within m q src off reason v hq)
@[simp] theorem Mach.reject_frozen (m : Mach) (q : Nat) (src : Src) (off reason : Nat) (v : Word) (hq : q < 256) : (m.reject q src off reason v).frozen = m.frozen := within_frozen (reject_within m q src off reason v hq)
@[simp] theorem Mach.reject_timers (m : Mach) (q : Nat) (src : Src) (off reason : Nat) (v : Word) (hq : q < 256) : (m.reject q src off reason v).timers = m.timers := within_timers (reject_within m q src off reason v hq)
@[simp] theorem Mach.reject_bulk (m : Mach) (q : Nat) (src : Src) (off reason : Nat) (v : Word) (hq : q < 256) : (m.reject q src off reason v).bulk = m.bulk := within_bulk (reject_within m q src off reason v hq)
@[simp] theorem Mach.reject_bulkF (m : Mach) (q : Nat) (src : Src) (off reason : Nat) (v : Word) (hq : q < 256) : (m.reject q src off reason v).bulkF = m.bulkF := within_bulkF (reject_within m q src off reason v hq)
@[simp] theorem Mach.reject_mem (m : Mach) (q : Nat) (src : Src) (off reason : Nat) (v : Word) (hq : q < 256) : (m.reject q src off reason v).mem = m.mem := within_mem (reject_within m q src off reason v hq)
@[simp] theorem Mach.reject_cmd (m : Mach) (q : Nat) (src : Src) (off reason : Nat) (v : Word) (hq : q < 256) : (m.reject q src off reason v).cmd = m.cmd := within_cmd (reject_within m q src off reason v hq)
@[simp] theorem Mach.reject_cdc (m : Mach) (q : Nat) (src : Src) (off reason : Nat) (v : Word) (hq : q < 256) : (m.reject q src off reason v).cdc = m.cdc := within_cdc (reject_within m q src off reason v hq)
@[simp] theorem Mach.reject_pace (m : Mach) (q : Nat) (src : Src) (off reason : Nat) (v : Word) (hq : q < 256) : (m.reject q src off reason v).pace = m.pace := within_pace (reject_within m q src off reason v hq)
@[simp] theorem Mach.reject_time (m : Mach) (q : Nat) (src : Src) (off reason : Nat) (v : Word) (hq : q < 256) : (m.reject q src off reason v).time = m.time := within_time (reject_within m q src off reason v hq)
@[simp] theorem Mach.reject_ptp (m : Mach) (q : Nat) (src : Src) (off reason : Nat) (v : Word) (hq : q < 256) : (m.reject q src off reason v).ptp = m.ptp := within_ptp (reject_within m q src off reason v hq)
@[simp] theorem Mach.reject_svi (m : Mach) (q : Nat) (src : Src) (off reason : Nat) (v : Word) (hq : q < 256) : (m.reject q src off reason v).svi = m.svi := within_svi (reject_within m q src off reason v hq)
@[simp] theorem Mach.reject_msr (m : Mach) (q : Nat) (src : Src) (off reason : Nat) (v : Word) (hq : q < 256) : (m.reject q src off reason v).msr = m.msr := within_msr (reject_within m q src off reason v hq)
@[simp] theorem Mach.reject_adm (m : Mach) (q : Nat) (src : Src) (off reason : Nat) (v : Word) (hq : q < 256) : (m.reject q src off reason v).adm = m.adm := within_adm (reject_within m q src off reason v hq)
@[simp] theorem Mach.reject_dsp (m : Mach) (q : Nat) (src : Src) (off reason : Nat) (v : Word) (hq : q < 256) : (m.reject q src off reason v).dsp = m.dsp := within_dsp (reject_within m q src off reason v hq)
@[simp] theorem Mach.reject_pub (m : Mach) (q : Nat) (src : Src) (off reason : Nat) (v : Word) (hq : q < 256) : (m.reject q src off reason v).pub = m.pub := within_pub (reject_within m q src off reason v hq)
@[simp] theorem Mach.reject_twn (m : Mach) (q : Nat) (src : Src) (off reason : Nat) (v : Word) (hq : q < 256) : (m.reject q src off reason v).twn = m.twn := within_twn (reject_within m q src off reason v hq)
@[simp] theorem Mach.reject_parts (m : Mach) (q : Nat) (src : Src) (off reason : Nat) (v : Word) (hq : q < 256) : (m.reject q src off reason v).parts = m.parts := within_parts (reject_within m q src off reason v hq)
@[simp] theorem Mach.reject_ports (m : Mach) (q : Nat) (src : Src) (off reason : Nat) (v : Word) (hq : q < 256) : (m.reject q src off reason v).ports = m.ports := within_ports (reject_within m q src off reason v hq)
@[simp] theorem Mach.reject_pairs (m : Mach) (q : Nat) (src : Src) (off reason : Nat) (v : Word) (hq : q < 256) : (m.reject q src off reason v).pairs = m.pairs := within_pairs (reject_within m q src off reason v hq)
@[simp] theorem Mach.reject_swc (m : Mach) (q : Nat) (src : Src) (off reason : Nat) (v : Word) (hq : q < 256) : (m.reject q src off reason v).swc = m.swc := within_swc (reject_within m q src off reason v hq)
@[simp] theorem Mach.reject_acq (m : Mach) (q : Nat) (src : Src) (off reason : Nat) (v : Word) (hq : q < 256) : (m.reject q src off reason v).acq = m.acq := within_acq (reject_within m q src off reason v hq)
@[simp] theorem Mach.reject_nrg (m : Mach) (q : Nat) (src : Src) (off reason : Nat) (v : Word) (hq : q < 256) : (m.reject q src off reason v).nrg = m.nrg := within_nrg (reject_within m q src off reason v hq)
@[simp] theorem Mach.reject_pls (m : Mach) (q : Nat) (src : Src) (off reason : Nat) (v : Word) (hq : q < 256) : (m.reject q src off reason v).pls = m.pls := within_pls (reject_within m q src off reason v hq)
@[simp] theorem Mach.reject_rim (m : Mach) (q : Nat) (src : Src) (off reason : Nat) (v : Word) (hq : q < 256) : (m.reject q src off reason v).rim = m.rim := within_rim (reject_within m q src off reason v hq)
@[simp] theorem Mach.reject_flash (m : Mach) (q : Nat) (src : Src) (off reason : Nat) (v : Word) (hq : q < 256) : (m.reject q src off reason v).flash = m.flash := within_flash (reject_within m q src off reason v hq)
@[simp] theorem Mach.reject_rst (m : Mach) (q : Nat) (src : Src) (off reason : Nat) (v : Word) (hq : q < 256) : (m.reject q src off reason v).rst = m.rst := within_rst (reject_within m q src off reason v hq)

/-! ### The bit of an event -/

theorem bit_setBits (v b c : Nat) : bit (setBits v b b 1) c = if b = c then true else bit v c := by
  unfold bit
  by_cases h : b = c
  · subst h
    rw [bits_setBits_same _ _ _ _ (Nat.le_refl b)]
    simp
  · rw [if_neg h, bits_setBits_apart _ _ _ _ _ _ (Nat.le_refl b) (by omega)]

theorem latch_evt (m : Mach) (q b : Nat) (hq : q < 256) (c : Nat) (hc : c < 32) :
    bit ((m.latch q b).fld (hEvt q)) c = if b = c then true else bit (m.fld (hEvt q)) c := by
  unfold Mach.latch
  rw [fld_setFld_same _ _ _ _ ⟨by simp [hEvt], by simp [hEvt], hq, by simp [hEvt]⟩]
  have h : bit (setBits (m.fld (hEvt q)) b b 1 % 2 ^ ((hEvt q).hi + 1 - (hEvt q).lo)) c = bit (setBits (m.fld (hEvt q)) b b 1) c := by
    unfold bit
    rw [bits_mod _ _ _ _ (by simpa [hEvt] using hc)]
  rw [h, bit_setBits]

theorem event_evt (m : Mach) (q b : Nat) (a : Attr) (hq : q < 256) (c : Nat) (hc : c < 32) :
    bit ((m.event q b a).fld (hEvt q)) c = if b = c then true else bit (m.fld (hEvt q)) c := by
  rw [← latch_evt m q b hq c hc]
  unfold Mach.event
  extract_lets m1 m2
  have hs : (m2.signal q b).fld (hEvt q) = m2.fld (hEvt q) :=
    within_fld (signal_within (fun _ _ => False) m2 q b) (hEvt q) 0 hq (by simp [hEvt]) (by simp)
  rw [hs]
  have h2 : m2.fld (hEvt q) = m1.fld (hEvt q) := by
    change (if _ then _ else _ : Mach).fld _ = _
    split
    · rename_i h
      refine within_fld (eventRecord_within m1 q b a) (hEvt q) 0 hq (by simp [hEvt]) ?_
      have : q ≠ 7 := by simp at h; exact h.2
      simpa [recPage, hEvt] using this
    · rfl
  rw [h2]

/-- An event sets its bit. -/
theorem event_sets (m : Mach) (q b : Nat) (a : Attr) (hq : q < 256) (hb : b < 32) :
    bit ((m.event q b a).fld (hEvt q)) b = true := by
  rw [event_evt m q b a hq b hb]; simp

end Sys2Proof.Machine
end

