-- ==== Sys2Proof/Laws/Frame/Base.lean ====
section
/-! SUPPORT. The frame relation: from `m` to `m'` only the parts of the module that the mask `A` names, and the registers of
the pages that the mask `P` names, may have changed, and canonical memory stays canonical. Bit k of `A` is the k-th field of
`Mach`; bit p of `P` is page p. What the recorder writes of its own page is always allowed. -/

namespace Sys2Proof.Machine

/-- The k-th field of `Mach` is the same in both. -/
def Mach.same (k : Nat) (m m' : Mach) : Prop :=
  match k with
  | 0 => m'.now = m.now
  | 1 => m'.free = m.free
  | 2 => m'.powered = m.powered
  | 3 => m'.regs = m.regs
  | 4 => m'.force = m.force
  | 5 => m'.low = m.low
  | 6 => m'.capt = m.capt
  | 7 => m'.frozen = m.frozen
  | 8 => m'.timers = m.timers
  | 9 => m'.bulk = m.bulk
  | 10 => m'.bulkF = m.bulkF
  | 11 => m'.mem = m.mem
  | 12 => m'.outs = m.outs
  | 13 => m'.coil = m.coil
  | 14 => m'.cmd = m.cmd
  | 15 => m'.cdc = m.cdc
  | 16 => m'.pace = m.pace
  | 17 => m'.time = m.time
  | 18 => m'.ptp = m.ptp
  | 19 => m'.svi = m.svi
  | 20 => m'.msr = m.msr
  | 21 => m'.adm = m.adm
  | 22 => m'.dsp = m.dsp
  | 23 => m'.pub = m.pub
  | 24 => m'.twn = m.twn
  | 25 => m'.parts = m.parts
  | 26 => m'.ports = m.ports
  | 27 => m'.pairs = m.pairs
  | 28 => m'.swc = m.swc
  | 29 => m'.acq = m.acq
  | 30 => m'.nrg = m.nrg
  | 31 => m'.pls = m.pls
  | 32 => m'.rim = m.rim
  | 33 => m'.flash = m.flash
  | 34 => m'.rst = m.rst
  | _ => True

/-- The frame relation. -/
def Mach.touch (A P : Nat) (m m' : Mach) : Prop :=
  (∀ k, A.testBit k = false → m.same k m')
    ∧ (∀ p o i, p < 256 → o < 4096 → P.testBit p = false → ¬ recPage p o → m'.reg p o i = m.reg p o i)
    ∧ (m.memOk → m'.memOk)

theorem same_refl (k : Nat) (m : Mach) : m.same k m := by unfold Mach.same; split <;> trivial

theorem same_trans {k : Nat} {a b c : Mach} (h : a.same k b) (g : b.same k c) : a.same k c := by
  unfold Mach.same at *
  split <;> first | exact g.trans h | trivial

theorem touch_refl (A P : Nat) (m : Mach) : m.touch A P m := ⟨fun k _ => same_refl k m, fun _ _ _ _ _ _ _ => rfl, id⟩

theorem touch_trans {A P : Nat} {a b c : Mach} (h : a.touch A P b) (g : b.touch A P c) : a.touch A P c :=
  ⟨fun k hk => same_trans (h.1 k hk) (g.1 k hk),
    fun p o i hp ho h1 h2 => (g.2.1 p o i hp ho h1 h2).trans (h.2.1 p o i hp ho h1 h2), fun hm => g.2.2 (h.2.2 hm)⟩

theorem testBit_sub {A B k : Nat} (h : A &&& B = A) (hk : B.testBit k = false) : A.testBit k = false := by
  rw [← h, Nat.testBit_and, hk, Bool.and_false]

theorem touch_mono {A P A' P' : Nat} {a b : Mach} (h : a.touch A P b) (hA : A &&& A' = A) (hP : P &&& P' = P) :
    a.touch A' P' b :=
  ⟨fun k hk => h.1 k (testBit_sub hA hk), fun p o i hp ho h1 h2 => h.2.1 p o i hp ho (testBit_sub hP h1) h2, h.2.2⟩

/-- A change of smaller reach, applied last. -/
theorem touch_app {A P A' P' : Nat} {a b c : Mach} (h : a.touch A P b) (g : b.touch A' P' c) (hA : A' &&& A = A')
    (hP : P' &&& P = P') : a.touch A P c := touch_trans h (touch_mono g hA hP)

theorem touch_of_within {m m' : Mach} (h : m.within recPage m') : m.touch 0x3008 0 m' := by
  refine ⟨fun k hk => ?_, fun p o i hp ho _ hr => h.2 p o i hp ho hr, fun hm => ?_⟩
  · unfold Mach.same
    split <;> first | (exact absurd hk (by decide)) | (rw [h.1]) | trivial
  · simpa only [Mach.memOk, within_bulk h, within_bulkF h, within_mem h] using hm

/-! ### Updates of one field -/

theorem touch_one {k : Nat} {m m' : Mach} (hs : ∀ j, j ≠ k → m.same j m') (hr : m'.regs = m.regs) (hb : m'.bulk = m.bulk)
    (hf : m'.bulkF = m.bulkF) (hm : m'.mem = m.mem) : m.touch (2 ^ k) 0 m' := by
  refine ⟨fun j hj => hs j fun h => ?_, fun p o i _ _ _ _ => reg_of_regs hr p o i, fun h => ?_⟩
  · subst h; simp at hj
  · simpa only [Mach.memOk, hb, hf, hm] using h


theorem touch_sets (m : Mach) :
    (∀ v, m.touch 0x1 0 { m with now := v }) ∧
    (∀ v, m.touch 0x2 0 { m with free := v }) ∧
    (∀ v, m.touch 0x4 0 { m with powered := v }) ∧
    (∀ v, m.touch 0x10 0 { m with force := v }) ∧
    (∀ v, m.touch 0x20 0 { m with low := v }) ∧
    (∀ v, m.touch 0x40 0 { m with capt := v }) ∧
    (∀ v, m.touch 0x80 0 { m with frozen := v }) ∧
    (∀ v, m.touch 0x100 0 { m with timers := v }) ∧
    (∀ v, m.touch 0x1000 0 { m with outs := v }) ∧
    (∀ v, m.touch 0x2000 0 { m with coil := v }) ∧
    (∀ v, m.touch 0x4000 0 { m with cmd := v }) ∧
    (∀ v, m.touch 0x8000 0 { m with cdc := v }) ∧
    (∀ v, m.touch 0x10000 0 { m with pace := v }) ∧
    (∀ v, m.touch 0x20000 0 { m with time := v }) ∧
    (∀ v, m.touch 0x40000 0 { m with ptp := v }) ∧
    (∀ v, m.touch 0x80000 0 { m with svi := v }) ∧
    (∀ v, m.touch 0x100000 0 { m with msr := v }) ∧
    (∀ v, m.touch 0x200000 0 { m with adm := v }) ∧
    (∀ v, m.touch 0x400000 0 { m with dsp := v }) ∧
    (∀ v, m.touch 0x800000 0 { m with pub := v }) ∧
    (∀ v, m.touch 0x1000000 0 { m with twn := v }) ∧
    (∀ v, m.touch 0x2000000 0 { m with parts := v }) ∧
    (∀ v, m.touch 0x4000000 0 { m with ports := v }) ∧
    (∀ v, m.touch 0x8000000 0 { m with pairs := v }) ∧
    (∀ v, m.touch 0x10000000 0 { m with swc := v }) ∧
    (∀ v, m.touch 0x20000000 0 { m with acq := v }) ∧
    (∀ v, m.touch 0x40000000 0 { m with nrg := v }) ∧
    (∀ v, m.touch 0x80000000 0 { m with pls := v }) ∧
    (∀ v, m.touch 0x100000000 0 { m with rim := v }) ∧
    (∀ v, m.touch 0x200000000 0 { m with flash := v }) ∧
    (∀ v, m.touch 0x400000000 0 { m with rst := v }) := by
  refine ⟨fun v => touch_one (k := 0) (fun j hj => ?_) rfl rfl rfl rfl, fun v => touch_one (k := 1) (fun j hj => ?_) rfl rfl rfl rfl, fun v => touch_one (k := 2) (fun j hj => ?_) rfl rfl rfl rfl, fun v => touch_one (k := 4) (fun j hj => ?_) rfl rfl rfl rfl, fun v => touch_one (k := 5) (fun j hj => ?_) rfl rfl rfl rfl, fun v => touch_one (k := 6) (fun j hj => ?_) rfl rfl rfl rfl, fun v => touch_one (k := 7) (fun j hj => ?_) rfl rfl rfl rfl, fun v => touch_one (k := 8) (fun j hj => ?_) rfl rfl rfl rfl, fun v => touch_one (k := 12) (fun j hj => ?_) rfl rfl rfl rfl, fun v => touch_one (k := 13) (fun j hj => ?_) rfl rfl rfl rfl, fun v => touch_one (k := 14) (fun j hj => ?_) rfl rfl rfl rfl, fun v => touch_one (k := 15) (fun j hj => ?_) rfl rfl rfl rfl, fun v => touch_one (k := 16) (fun j hj => ?_) rfl rfl rfl rfl, fun v => touch_one (k := 17) (fun j hj => ?_) rfl rfl rfl rfl, fun v => touch_one (k := 18) (fun j hj => ?_) rfl rfl rfl rfl, fun v => touch_one (k := 19) (fun j hj => ?_) rfl rfl rfl rfl, fun v => touch_one (k := 20) (fun j hj => ?_) rfl rfl rfl rfl, fun v => touch_one (k := 21) (fun j hj => ?_) rfl rfl rfl rfl, fun v => touch_one (k := 22) (fun j hj => ?_) rfl rfl rfl rfl, fun v => touch_one (k := 23) (fun j hj => ?_) rfl rfl rfl rfl, fun v => touch_one (k := 24) (fun j hj => ?_) rfl rfl rfl rfl, fun v => touch_one (k := 25) (fun j hj => ?_) rfl rfl rfl rfl, fun v => touch_one (k := 26) (fun j hj => ?_) rfl rfl rfl rfl, fun v => touch_one (k := 27) (fun j hj => ?_) rfl rfl rfl rfl, fun v => touch_one (k := 28) (fun j hj => ?_) rfl rfl rfl rfl, fun v => touch_one (k := 29) (fun j hj => ?_) rfl rfl rfl rfl, fun v => touch_one (k := 30) (fun j hj => ?_) rfl rfl rfl rfl, fun v => touch_one (k := 31) (fun j hj => ?_) rfl rfl rfl rfl, fun v => touch_one (k := 32) (fun j hj => ?_) rfl rfl rfl rfl, fun v => touch_one (k := 33) (fun j hj => ?_) rfl rfl rfl rfl, fun v => touch_one (k := 34) (fun j hj => ?_) rfl rfl rfl rfl⟩ <;>
    (unfold Mach.same; split <;> first | rfl | exact absurd rfl hj | trivial)

theorem touch_set_now (m : Mach) (v) : m.touch 0x1 0 { m with now := v } := (touch_sets m).1 v
theorem touch_set_free (m : Mach) (v) : m.touch 0x2 0 { m with free := v } := (touch_sets m).2.1 v
theorem touch_set_powered (m : Mach) (v) : m.touch 0x4 0 { m with powered := v } := (touch_sets m).2.2.1 v
theorem touch_set_force (m : Mach) (v) : m.touch 0x10 0 { m with force := v } := (touch_sets m).2.2.2.1 v
theorem touch_set_low (m : Mach) (v) : m.touch 0x20 0 { m with low := v } := (touch_sets m).2.2.2.2.1 v
theorem touch_set_capt (m : Mach) (v) : m.touch 0x40 0 { m with capt := v } := (touch_sets m).2.2.2.2.2.1 v
theorem touch_set_frozen (m : Mach) (v) : m.touch 0x80 0 { m with frozen := v } := (touch_sets m).2.2.2.2.2.2.1 v
theorem touch_set_timers (m : Mach) (v) : m.touch 0x100 0 { m with timers := v } := (touch_sets m).2.2.2.2.2.2.2.1 v
theorem touch_set_outs (m : Mach) (v) : m.touch 0x1000 0 { m with outs := v } := (touch_sets m).2.2.2.2.2.2.2.2.1 v
theorem touch_set_coil (m : Mach) (v) : m.touch 0x2000 0 { m with coil := v } := (touch_sets m).2.2.2.2.2.2.2.2.2.1 v
theorem touch_set_cmd (m : Mach) (v) : m.touch 0x4000 0 { m with cmd := v } := (touch_sets m).2.2.2.2.2.2.2.2.2.2.1 v
theorem touch_set_cdc (m : Mach) (v) : m.touch 0x8000 0 { m with cdc := v } := (touch_sets m).2.2.2.2.2.2.2.2.2.2.2.1 v
theorem touch_set_pace (m : Mach) (v) : m.touch 0x10000 0 { m with pace := v } := (touch_sets m).2.2.2.2.2.2.2.2.2.2.2.2.1 v
theorem touch_set_time (m : Mach) (v) : m.touch 0x20000 0 { m with time := v } := (touch_sets m).2.2.2.2.2.2.2.2.2.2.2.2.2.1 v
theorem touch_set_ptp (m : Mach) (v) : m.touch 0x40000 0 { m with ptp := v } := (touch_sets m).2.2.2.2.2.2.2.2.2.2.2.2.2.2.1 v
theorem touch_set_svi (m : Mach) (v) : m.touch 0x80000 0 { m with svi := v } := (touch_sets m).2.2.2.2.2.2.2.2.2.2.2.2.2.2.2.1 v
theorem touch_set_msr (m : Mach) (v) : m.touch 0x100000 0 { m with msr := v } := (touch_sets m).2.2.2.2.2.2.2.2.2.2.2.2.2.2.2.2.1 v
theorem touch_set_adm (m : Mach) (v) : m.touch 0x200000 0 { m with adm := v } := (touch_sets m).2.2.2.2.2.2.2.2.2.2.2.2.2.2.2.2.2.1 v
theorem touch_set_dsp (m : Mach) (v) : m.touch 0x400000 0 { m with dsp := v } := (touch_sets m).2.2.2.2.2.2.2.2.2.2.2.2.2.2.2.2.2.2.1 v
theorem touch_set_pub (m : Mach) (v) : m.touch 0x800000 0 { m with pub := v } := (touch_sets m).2.2.2.2.2.2.2.2.2.2.2.2.2.2.2.2.2.2.2.1 v
theorem touch_set_twn (m : Mach) (v) : m.touch 0x1000000 0 { m with twn := v } := (touch_sets m).2.2.2.2.2.2.2.2.2.2.2.2.2.2.2.2.2.2.2.2.1 v
theorem touch_set_parts (m : Mach) (v) : m.touch 0x2000000 0 { m with parts := v } := (touch_sets m).2.2.2.2.2.2.2.2.2.2.2.2.2.2.2.2.2.2.2.2.2.1 v
theorem touch_set_ports (m : Mach) (v) : m.touch 0x4000000 0 { m with ports := v } := (touch_sets m).2.2.2.2.2.2.2.2.2.2.2.2.2.2.2.2.2.2.2.2.2.2.1 v
theorem touch_set_pairs (m : Mach) (v) : m.touch 0x8000000 0 { m with pairs := v } := (touch_sets m).2.2.2.2.2.2.2.2.2.2.2.2.2.2.2.2.2.2.2.2.2.2.2.1 v
theorem touch_set_swc (m : Mach) (v) : m.touch 0x10000000 0 { m with swc := v } := (touch_sets m).2.2.2.2.2.2.2.2.2.2.2.2.2.2.2.2.2.2.2.2.2.2.2.2.1 v
theorem touch_set_acq (m : Mach) (v) : m.touch 0x20000000 0 { m with acq := v } := (touch_sets m).2.2.2.2.2.2.2.2.2.2.2.2.2.2.2.2.2.2.2.2.2.2.2.2.2.1 v
theorem touch_set_nrg (m : Mach) (v) : m.touch 0x40000000 0 { m with nrg := v } := (touch_sets m).2.2.2.2.2.2.2.2.2.2.2.2.2.2.2.2.2.2.2.2.2.2.2.2.2.2.1 v
theorem touch_set_pls (m : Mach) (v) : m.touch 0x80000000 0 { m with pls := v } := (touch_sets m).2.2.2.2.2.2.2.2.2.2.2.2.2.2.2.2.2.2.2.2.2.2.2.2.2.2.2.1 v
theorem touch_set_rim (m : Mach) (v) : m.touch 0x100000000 0 { m with rim := v } := (touch_sets m).2.2.2.2.2.2.2.2.2.2.2.2.2.2.2.2.2.2.2.2.2.2.2.2.2.2.2.2.1 v
theorem touch_set_flash (m : Mach) (v) : m.touch 0x200000000 0 { m with flash := v } := (touch_sets m).2.2.2.2.2.2.2.2.2.2.2.2.2.2.2.2.2.2.2.2.2.2.2.2.2.2.2.2.2.1 v
theorem touch_set_rst (m : Mach) (v) : m.touch 0x400000000 0 { m with rst := v } := (touch_sets m).2.2.2.2.2.2.2.2.2.2.2.2.2.2.2.2.2.2.2.2.2.2.2.2.2.2.2.2.2.2 v

theorem Mach.onCoil_touch (m : Mach) (f : Coil → Coil) : m.touch 0x2000 0 (m.onCoil f) := touch_set_coil m _
theorem Mach.onCmd_touch (m : Mach) (f : Cmd → Cmd) : m.touch 0x4000 0 (m.onCmd f) := touch_set_cmd m _
theorem Mach.onCrossing_touch (m : Mach) (x : Nat) (f : Crossing → Crossing) : m.touch 0x8000 0 (m.onCrossing x f) := touch_set_cdc m _
theorem Mach.onPace_touch (m : Mach) (f : Pace → Pace) : m.touch 0x10000 0 (m.onPace f) := touch_set_pace m _
theorem Mach.onTime_touch (m : Mach) (f : TimeBlk → TimeBlk) : m.touch 0x20000 0 (m.onTime f) := touch_set_time m _
theorem Mach.onDom_touch (m : Mach) (d : Nat) (f : PtpDom → PtpDom) : m.touch 0x40000 0 (m.onDom d f) := touch_set_ptp m _
theorem Mach.onSvi_touch (m : Mach) (f : Svi → Svi) : m.touch 0x80000 0 (m.onSvi f) := touch_set_svi m _
theorem Mach.onMsr_touch (m : Mach) (f : Msr → Msr) : m.touch 0x100000 0 (m.onMsr f) := touch_set_msr m _
theorem Mach.onDsp_touch (m : Mach) (f : Dsp → Dsp) : m.touch 0x400000 0 (m.onDsp f) := touch_set_dsp m _
theorem Mach.onPub_touch (m : Mach) (f : Pub → Pub) : m.touch 0x800000 0 (m.onPub f) := touch_set_pub m _
theorem Mach.onTwn_touch (m : Mach) (f : Twn → Twn) : m.touch 0x1000000 0 (m.onTwn f) := touch_set_twn m _
theorem Mach.onPart_touch (m : Mach) (p : Nat) (f : Part → Part) : m.touch 0x2000000 0 (m.onPart p f) := touch_set_parts m _
theorem Mach.onPort_touch (m : Mach) (p : Nat) (f : Port → Port) : m.touch 0x4000000 0 (m.onPort p f) := touch_set_ports m _
theorem Mach.onPair_touch (m : Mach) (p : Nat) (f : Pair → Pair) : m.touch 0x8000000 0 (m.onPair p f) := touch_set_pairs m _
theorem Mach.onSwc_touch (m : Mach) (f : Swc → Swc) : m.touch 0x10000000 0 (m.onSwc f) := touch_set_swc m _
theorem Mach.onAcq_touch (m : Mach) (u : Nat) (f : AcqUnit → AcqUnit) : m.touch 0x20000000 0 (m.onAcq u f) := touch_set_acq m _
theorem Mach.onNrg_touch (m : Mach) (f : Nrg → Nrg) : m.touch 0x40000000 0 (m.onNrg f) := touch_set_nrg m _
theorem Mach.onPin_touch (m : Mach) (p : Nat) (f : Pin → Pin) : m.touch 0x80000000 0 (m.onPin p f) := touch_set_pls m _
theorem Mach.onRim_touch (m : Mach) (f : Rim → Rim) : m.touch 0x100000000 0 (m.onRim f) := touch_set_rim m _
theorem Mach.onRst_touch (m : Mach) (f : Rst → Rst) : m.touch 0x400000000 0 (m.onRst f) := touch_set_rst m _
theorem Mach.arm_touch (m : Mach) (t : Timer) (a : Nat) : m.touch 0x100 0 (m.arm t a) := touch_set_timers m _
theorem Mach.disarm_touch (m : Mach) (t : Timer) : m.touch 0x100 0 (m.disarm t) := touch_set_timers m _
theorem Mach.emit_touch (m : Mach) (x : Out) : m.touch 0x1000 0 (m.emit x) := touch_set_outs m _
theorem Mach.advance_touch (m : Mach) (t : Nat) : m.touch 0x1 0 (m.advance t) := touch_set_now m _

/-! ### Registers -/

/-- A field of a page that `P` names. -/
def Fd.within (P : Nat) (f : Fd) : Bool := P.testBit f.page && decide (f.page < 256) && decide (f.off < 4096)

theorem Mach.setReg_touch (m : Mach) (p o i : Nat) (w : Word) {P : Nat} (hP : P.testBit p = true) (hp : p < 256) (ho : o < 4096) :
    m.touch 8 P (m.setReg p o i w) := by
  refine ⟨fun k hk => ?_, fun p' o' i' hp' ho' h1 _ => reg_setReg_ne m w fun hk => ?_, fun h => h⟩
  · unfold Mach.same
    split <;> first | rfl | (exact absurd hk (by decide)) | trivial
  · obtain ⟨rfl, -, -⟩ := regKey_inj hp' ho' hp ho hk
    rw [hP] at h1; exact absurd h1 (by decide)

theorem Mach.setFld_touch (m : Mach) (f : Fd) (i v : Nat) {P : Nat} (h : Fd.within P f = true) : m.touch 8 P (m.setFld f i v) := by
  simp only [Fd.within, Bool.and_eq_true, decide_eq_true_eq] at h
  exact Mach.setReg_touch m _ _ _ _ h.1.1 h.1.2 h.2

theorem Mach.setFlag_touch (m : Mach) (f : Fd) (i : Nat) (b : Bool) {P : Nat} (h : Fd.within P f = true) :
    m.touch 8 P (m.setFlag f i b) := Mach.setFld_touch m f i _ h

theorem Mach.count_touch (m : Mach) (f : Fd) (i n : Nat) {P : Nat} (h : Fd.within P f = true) : m.touch 8 P (m.count f i n) :=
  Mach.setFld_touch m f i _ h

theorem Mach.raise_touch (m : Mach) (f : Fd) (i n : Nat) {P : Nat} (h : Fd.within P f = true) : m.touch 8 P (m.raise f i n) :=
  Mach.setFld_touch m f i _ h

theorem macPage_lt (e : Nat) : macPage e < 256 := by unfold macPage; omega

theorem testBit_macPage {P : Nat} (h : 0xFFFF00000000 &&& P = 0xFFFF00000000) (e : Nat) : P.testBit (macPage e) = true := by
  have h1 : Nat.testBit 0xFFFF00000000 (macPage e) = true := by
    have : e % 16 < 16 := Nat.mod_lt _ (by decide)
    unfold macPage
    generalize e % 16 = k at *
    interval_cases k <;> decide
  rw [← h, Nat.testBit_and] at h1
  simp at h1
  exact h1.2

/-- A field of a MAC page. -/
theorem within_onPort {P : Nat} (f : Fd) (e : Nat) (h : 0xFFFF00000000 &&& P = 0xFFFF00000000) (ho : f.off < 4096) :
    Fd.within P (f.onPort e) = true := by
  have h1 : (f.onPort e).page = macPage e := rfl
  have h2 : (f.onPort e).off = f.off := rfl
  simp [Fd.within, h1, h2, testBit_macPage h e, macPage_lt e, ho]

/-- A field of the n-th register of a run, which stays in its page. -/
theorem within_nth {P : Nat} (f : Fd) (n : Nat) (h : Fd.within P f = true) : Fd.within P (f.nth n) = true := by
  simp only [Fd.within, Bool.and_eq_true] at h ⊢
  exact ⟨h.1, decide_eq_true (Nat.mod_lt _ (by decide))⟩

/-! ### Events, rejections and audit records -/

theorem Mach.latch_touch (m : Mach) (q b : Nat) {P : Nat} (hP : P.testBit q = true) (hq : q < 256) : m.touch 8 P (m.latch q b) :=
  Mach.setFld_touch m _ _ _ (by simp [Fd.within, hEvt, hP, hq])

theorem Mach.signal_touch (m : Mach) (q b : Nat) : m.touch 0x3008 0 (m.signal q b) :=
  touch_of_within (signal_within _ _ _ _)

theorem Mach.event_touch (m : Mach) (q b : Nat) (a : Attr) {P : Nat} (hP : P.testBit q = true) (hq : q < 256) :
    m.touch 0x3008 P (m.event q b a) := by
  unfold Mach.event
  extract_lets m1 m2
  have h1 : m.touch 0x3008 P m1 := touch_mono (Mach.latch_touch m q b hP hq) rfl (by simp)
  have h2 : m1.touch 0x3008 P m2 := by
    change m1.touch _ _ (if _ then _ else _)
    split
    · exact touch_mono (touch_of_within (eventRecord_within _ _ _ _)) rfl (by simp)
    · exact touch_refl _ _ _
  exact touch_app (touch_trans h1 h2) (Mach.signal_touch m2 q b) rfl (by simp)

theorem Mach.eventAlways_touch (m : Mach) (q b : Nat) (a : Attr) {P : Nat} (hP : P.testBit q = true) (hq : q < 256) :
    m.touch 0x3008 P (m.eventAlways q b a) := by
  unfold Mach.eventAlways
  extract_lets m1 m2
  have h1 : m.touch 0x3008 P m1 := touch_mono (Mach.latch_touch m q b hP hq) rfl (by simp)
  have h2 : m1.touch 0x3008 P m2 := touch_mono (touch_of_within (eventRecord_within _ _ _ _)) rfl (by simp)
  exact touch_app (touch_trans h1 h2) (Mach.signal_touch m2 q b) rfl (by simp)

theorem Mach.reject_touch (m : Mach) (q : Nat) (src : Src) (off r : Nat) (v : Word) {P : Nat} (hP : P.testBit q = true) (hq : q < 256) :
    m.touch 0x3008 P (m.reject q src off r v) := by
  have h := reject_within m q src off r v hq
  refine ⟨fun k hk => ?_, fun p o i hp ho h1 h2 => h.2 p o i hp ho ?_, fun hm => ?_⟩
  · unfold Mach.same
    split <;> first | (exact absurd hk (by decide)) | (rw [h.1]) | trivial
  · rintro (h3 | ⟨h3, -⟩)
    · exact h2 h3
    · subst h3; rw [hP] at h1; exact absurd h1 (by decide)
  · simpa only [Mach.memOk, within_bulk h, within_bulkF h, within_mem h] using hm

theorem Mach.audit_touch (m : Mach) (p c : Nat) (sn : List Word) : m.touch 0x3008 0 (m.audit p c sn) :=
  touch_of_within (audit_within _ _ _ _)

theorem Mach.auditWrite_touch (m : Mach) (p : Nat) (src : Src) (off : Nat) (v : Word) : m.touch 0x3008 0 (m.auditWrite p src off v) :=
  Mach.audit_touch _ _ _ _

theorem Mach.record_touch (m : Mach) (p c s : Nat) (a : Attr) (sn : List Word) : m.touch 0x3008 0 (m.record p c s a sn) :=
  touch_of_within (record_within _ _ _ _ _ _)

theorem Mach.intake_touch (m : Mach) (p c s a : Nat) (t : Word) (sn : List Word) (cut : Bool) :
    m.touch 0x3008 0 (m.intake p c s a t sn cut) := touch_of_within (intake_within _ _ _ _ _ _ _ _)

theorem Mach.coilEvent_touch (m : Mach) (b : Nat) : m.touch 0x3008 0 (m.coilEvent b) := touch_of_within (coilEvent_within _ _)

theorem Mach.takeHead_touch (m : Mach) : m.touch 0x3008 0 m.takeHead := touch_of_within (takeHead_within _)

theorem Mach.newSegment_touch (m : Mach) (w : Nat) : m.touch 0x3008 0 (m.newSegment w) := touch_of_within (newSegment_within _ _)

theorem Mach.rewriteRec_touch (m : Mach) (o : OpenRec) : m.touch 0x3008 0 (m.rewriteRec o) := touch_of_within (rewriteRec_within _ _)

theorem Mach.openRec_touch (m : Mach) (e : FifoEntry) : m.touch 0x3008 0 (m.openRec e) := touch_of_within (openRec_within _ _)

theorem Mach.closeRec_touch (m : Mach) (o : OpenRec) (k : Bool) : m.touch 0x3008 0 (m.closeRec o k) :=
  touch_of_within (closeRec_within _ _ _)

/-! ### Updates of a register of any page -/

/-- A change of registers alone, of any page. -/
theorem touch_regs_any (m : Mach) (r : KMap Word) : m.touch 8 0xFFFFFFFFFFFFFFFFFFFFFFFFFFFFFFFFFFFFFFFFFFFFFFFFFFFFFFFFFFFFFFFF { m with regs := r } := by
  refine ⟨fun k hk => ?_, fun p o i hp _ h1 _ => ?_, fun h => h⟩
  · unfold Mach.same
    split <;> first | (exact absurd hk (by decide)) | rfl | trivial
  · have h : Nat.testBit (2 ^ 256 - 1) p = true := by rw [Nat.testBit_two_pow_sub_one]; simp [hp]
    rw [show (2 ^ 256 - 1 : Nat) = 0xFFFFFFFFFFFFFFFFFFFFFFFFFFFFFFFFFFFFFFFFFFFFFFFFFFFFFFFFFFFFFFFF by norm_num] at h
    rw [h] at h1; exact absurd h1 (by decide)

theorem Mach.setReg_any (m : Mach) (p o i : Nat) (w : Word) : m.touch 8 0xFFFFFFFFFFFFFFFFFFFFFFFFFFFFFFFFFFFFFFFFFFFFFFFFFFFFFFFFFFFFFFFF (m.setReg p o i w) := touch_regs_any m _

theorem Mach.setFld_any (m : Mach) (f : Fd) (i v : Nat) : m.touch 8 0xFFFFFFFFFFFFFFFFFFFFFFFFFFFFFFFFFFFFFFFFFFFFFFFFFFFFFFFFFFFFFFFF (m.setFld f i v) := touch_regs_any m _

theorem Mach.setFlag_any (m : Mach) (f : Fd) (i : Nat) (b : Bool) : m.touch 8 0xFFFFFFFFFFFFFFFFFFFFFFFFFFFFFFFFFFFFFFFFFFFFFFFFFFFFFFFFFFFFFFFF (m.setFlag f i b) := touch_regs_any m _

theorem Mach.count_any (m : Mach) (f : Fd) (i n : Nat) : m.touch 8 0xFFFFFFFFFFFFFFFFFFFFFFFFFFFFFFFFFFFFFFFFFFFFFFFFFFFFFFFFFFFFFFFF (m.count f i n) := touch_regs_any m _

theorem Mach.raise_any (m : Mach) (f : Fd) (i n : Nat) : m.touch 8 0xFFFFFFFFFFFFFFFFFFFFFFFFFFFFFFFFFFFFFFFFFFFFFFFFFFFFFFFFFFFFFFFF (m.raise f i n) := touch_regs_any m _

theorem Mach.latch_any (m : Mach) (q b : Nat) : m.touch 8 0xFFFFFFFFFFFFFFFFFFFFFFFFFFFFFFFFFFFFFFFFFFFFFFFFFFFFFFFFFFFFFFFF (m.latch q b) := touch_regs_any m _

theorem Mach.event_any (m : Mach) (q b : Nat) (a : Attr) : m.touch 0x3008 0xFFFFFFFFFFFFFFFFFFFFFFFFFFFFFFFFFFFFFFFFFFFFFFFFFFFFFFFFFFFFFFFF (m.event q b a) := by
  unfold Mach.event
  extract_lets m1 m2
  have h1 : m.touch 0x3008 0xFFFFFFFFFFFFFFFFFFFFFFFFFFFFFFFFFFFFFFFFFFFFFFFFFFFFFFFFFFFFFFFF m1 := touch_mono (Mach.latch_any m q b) rfl rfl
  have h2 : m1.touch 0x3008 0xFFFFFFFFFFFFFFFFFFFFFFFFFFFFFFFFFFFFFFFFFFFFFFFFFFFFFFFFFFFFFFFF m2 := by
    change m1.touch _ _ (if _ then _ else _)
    split
    · exact touch_mono (touch_of_within (eventRecord_within _ _ _ _)) rfl (by simp)
    · exact touch_refl _ _ _
  exact touch_app (touch_trans h1 h2) (Mach.signal_touch m2 q b) rfl (by simp)

theorem Mach.eventAlways_any (m : Mach) (q b : Nat) (a : Attr) : m.touch 0x3008 0xFFFFFFFFFFFFFFFFFFFFFFFFFFFFFFFFFFFFFFFFFFFFFFFFFFFFFFFFFFFFFFFF (m.eventAlways q b a) := by
  unfold Mach.eventAlways
  extract_lets m1 m2
  have h1 : m.touch 0x3008 0xFFFFFFFFFFFFFFFFFFFFFFFFFFFFFFFFFFFFFFFFFFFFFFFFFFFFFFFFFFFFFFFF m1 := touch_mono (Mach.latch_any m q b) rfl rfl
  have h2 : m1.touch 0x3008 0xFFFFFFFFFFFFFFFFFFFFFFFFFFFFFFFFFFFFFFFFFFFFFFFFFFFFFFFFFFFFFFFF m2 := touch_mono (touch_of_within (eventRecord_within _ _ _ _)) rfl (by simp)
  exact touch_app (touch_trans h1 h2) (Mach.signal_touch m2 q b) rfl (by simp)

theorem Mach.reject_any (m : Mach) (q : Nat) (src : Src) (off r : Nat) (v : Word) : m.touch 0x3008 0xFFFFFFFFFFFFFFFFFFFFFFFFFFFFFFFFFFFFFFFFFFFFFFFFFFFFFFFFFFFFFFFF (m.reject q src off r v) := by
  unfold Mach.reject
  extract_lets info m1
  have h1 : m.touch 0x3008 0xFFFFFFFFFFFFFFFFFFFFFFFFFFFFFFFFFFFFFFFFFFFFFFFFFFFFFFFFFFFFFFFF m1 := by
    change m.touch _ _ (if _ then _ else _)
    split
    · exact touch_mono (Mach.setFld_any _ _ _ _) rfl rfl
    · exact touch_app (touch_mono (Mach.setFld_any _ _ _ _) rfl rfl) (Mach.setReg_any _ _ _ _ _) rfl rfl
  exact touch_app h1 (Mach.intake_touch _ _ _ _ _ _ _ _) rfl (by simp)

/-! ### Control -/

theorem touch_ite {A P : Nat} {m a b : Mach} {c : Prop} [Decidable c] (h : c → m.touch A P a) (g : ¬ c → m.touch A P b) :
    m.touch A P (if c then a else b) := by split <;> simp_all

theorem touch_onExpiry {A P : Nat} {a b : Mach} {t : Timer} {f : Mach → Mach} (h : a.touch A P b) (hA : 0x100 &&& A = 0x100)
    (hf : ∀ x, a.touch A P x → a.touch A P (f x)) : a.touch A P (b.onExpiry t f) := by
  unfold Mach.onExpiry
  split
  · exact hf _ (touch_app h (Mach.disarm_touch b t) hA (by simp))
  · exact h

theorem touch_onPast {A P : Nat} {a b : Mach} {t : Timer} {f : Mach → Mach} (h : a.touch A P b) (hA : 0x100 &&& A = 0x100)
    (hf : ∀ x, a.touch A P x → a.touch A P (f x)) : a.touch A P (b.onPast t f) := by
  unfold Mach.onPast
  split
  · exact hf _ (touch_app h (Mach.disarm_touch b t) hA (by simp))
  · exact h

theorem touch_when {A P : Nat} {a b : Mach} {c : Bool} {f : Mach → Mach} (h : a.touch A P b)
    (hf : ∀ x, a.touch A P x → a.touch A P (f x)) : a.touch A P (b.when c f) := by
  unfold Mach.when
  split
  · exact hf _ h
  · exact h

theorem touch_foldl {A P : Nat} {α : Type} {a : Mach} {f : Mach → α → Mach} (l : List α) :
    ∀ {b : Mach}, a.touch A P b → (∀ x y, a.touch A P x → a.touch A P (f x y)) → a.touch A P (l.foldl f b) := by
  induction l with
  | nil => intro b h _; exact h
  | cons y r ih => intro b h hf; exact ih (hf b y h) hf

theorem touch_foldl_fst {A P : Nat} {α β : Type} {a : Mach} {f : Mach × β → α → Mach × β} (l : List α) :
    ∀ {b : Mach × β}, a.touch A P b.1 → (∀ x y, a.touch A P x.1 → a.touch A P (f x y).1) → a.touch A P (l.foldl f b).1 := by
  induction l with
  | nil => intro b h _; exact h
  | cons y r ih => intro b h hf; exact ih (hf b y h) hf

theorem touch_each {A P : Nat} {α : Type} {a b : Mach} {l : List α} {f : α → Mach → Mach} (h : a.touch A P b)
    (hf : ∀ y x, a.touch A P x → a.touch A P (f y x)) : a.touch A P (b.each l f) :=
  touch_foldl l h fun x y hx => hf y x hx

/-- The frame of the first result. -/
def Mach.touch1 {α : Type} (A P : Nat) (m : Mach) (e : Mach × α) : Prop := m.touch A P e.1

/-- The frame of the second result. -/
def Mach.touch2 {α : Type} (A P : Nat) (m : Mach) (e : α × Mach) : Prop := m.touch A P e.2

theorem touch_fst {A P : Nat} {α : Type} {a b : Mach} {y : α} {e : Mach × α} (he : e = (b, y)) (h : a.touch A P e.1) :
    a.touch A P b := by rw [he] at h; exact h

theorem touch_snd {A P : Nat} {α : Type} {a b : Mach} {y : α} {e : α × Mach} (he : e = (y, b)) (h : a.touch A P e.2) :
    a.touch A P b := by rw [he] at h; exact h

theorem Mach.drawWord_touch (m : Mach) : m.touch 2 0 m.drawWord.2 := touch_set_free m _

/-- A change of the host-physical memory that keeps its form. -/
theorem touch_mem (m : Mach) (v : List Host.Cell) (h : Memory.wf m.mem = true → Memory.wf v = true) :
    m.touch 0x800 0 { m with mem := v } := by
  refine ⟨fun k hk => ?_, fun _ _ _ _ _ _ _ => rfl, fun hm => ⟨hm.1, hm.2.1, h hm.2.2⟩⟩
  unfold Mach.same
  split <;> first | (exact absurd hk (by decide)) | rfl | trivial

/-- A change of the bulk objects as held that keeps their form. -/
theorem touch_bulk (m : Mach) (v : List Host.Cell) (h : m.memOk → Memory.wf v = true) :
    m.touch 0x200 0 { m with bulk := v } := by
  refine ⟨fun k hk => ?_, fun _ _ _ _ _ _ _ => rfl, fun hm => ⟨h hm, hm.2⟩⟩
  unfold Mach.same
  split <;> first | (exact absurd hk (by decide)) | rfl | trivial

/-- A change of the bulk objects in force that keeps their form. -/
theorem touch_bulkF (m : Mach) (v : List Host.Cell) (h : m.memOk → Memory.wf v = true) :
    m.touch 0x400 0 { m with bulkF := v } := by
  refine ⟨fun k hk => ?_, fun _ _ _ _ _ _ _ => rfl, fun hm => ⟨hm.1, h hm, hm.2.2⟩⟩
  unfold Mach.same
  split <;> first | (exact absurd hk (by decide)) | rfl | trivial

theorem Mach.drawInt_touch (m : Mach) : m.touch 2 0 m.drawInt.2 := touch_set_free m _

end Sys2Proof.Machine
end

