-- ==== Sys2Proof/Laws/Frame/Coil.lean ====
section
/-! SUPPORT. The frame of each operation of Coil.lean: the parts of the module it can change. -/

namespace Sys2Proof.Machine

theorem Mach.writeRec_touch (m0 : Mach) (a1 : ℕ) (a2 : Rec) (a3 : OpenRec) : m0.touch 0x2008 0x80 (Mach.writeRec m0 a1 a2 a3) := by
  unfold Mach.writeRec
  extract_lets -underBinder -merge -useContext +onlyGivenNames t0
  try clear_value t0
  extract_lets -underBinder -merge -useContext +onlyGivenNames t1
  have ht1 : m0.touch 0x2008 0x80 t1 := by
    unfold t1
    refine touch_app ?_ (touch_set_coil _ _) rfl rfl
    exact touch_refl _ _ _
  try clear_value t1
  refine touch_app ?_ (Mach.count_touch (P := 0x80) _ _ _ _ rfl) rfl rfl
  exact ht1

theorem Mach.foldRec_touch (m0 : Mach) (a1 : OpenRec) : m0.touch 0x2008 0x80 (Mach.foldRec m0 a1).1 := by
  unfold Mach.foldRec
  change Mach.touch1 _ _ m0 _
  split
  · extract_lets -underBinder -merge -useContext +onlyGivenNames l0
    try clear_value l0
    extract_lets -underBinder -merge -useContext +onlyGivenNames l1
    try clear_value l1
    extract_lets -underBinder -merge -useContext +onlyGivenNames l2
    try clear_value l2
    extract_lets -underBinder -merge -useContext +onlyGivenNames t0
    have ht0 : m0.touch 0x2008 0x80 t0 := by
      unfold t0
      refine touch_app ?_ (Mach.onCoil_touch ..) rfl rfl
      exact touch_refl _ _ _
    try clear_value t0
    extract_lets -underBinder -merge -useContext +onlyGivenNames t1
    have ht1 : m0.touch 0x2008 0x80 t1 := by
      unfold t1
      refine touch_app ?_ (Mach.onCoil_touch ..) rfl rfl
      exact ht0
    try clear_value t1
    refine touch_app ?_ (Mach.count_touch (P := 0x80) _ _ _ _ rfl) rfl rfl
    exact ht1
  · exact touch_refl _ _ _

theorem Mach.openOne_touch (m0 : Mach) (a1 : FifoEntry) (a2 : List Word) (a3 : Bool) (a4 : Bool) (a5 : Bool) : m0.touch 0x3008 0x80 (Mach.openOne m0 a1 a2 a3 a4 a5).1 := by
  unfold Mach.openOne
  change Mach.touch1 _ _ m0 _
  split
  · refine touch_app ?_ (Mach.coilEvent_touch ..) rfl rfl
    refine touch_app ?_ (Mach.count_touch (P := 0x80) _ _ _ _ rfl) rfl rfl
    exact touch_refl _ _ _
  · extract_lets -underBinder -merge -useContext +onlyGivenNames t0
    have ht0 : m0.touch 0x3008 0x80 t0 := by
      unfold t0
      refine touch_ite (fun _ => ?_) (fun _ => ?_)
      · refine touch_app ?_ (Mach.coilEvent_touch ..) rfl rfl
        refine touch_app ?_ (Mach.count_touch (P := 0x80) _ _ _ _ rfl) rfl rfl
        exact touch_refl _ _ _
      · exact touch_refl _ _ _
    try clear_value t0
    extract_lets -underBinder -merge -useContext +onlyGivenNames l0
    try clear_value l0
    extract_lets -underBinder -merge -useContext +onlyGivenNames l1
    try clear_value l1
    extract_lets -underBinder -merge -useContext +onlyGivenNames l2
    try clear_value l2
    extract_lets -underBinder -merge -useContext +onlyGivenNames t1
    have ht1 : m0.touch 0x3008 0x80 t1 := by
      unfold t1
      refine touch_app ?_ (Mach.writeRec_touch ..) rfl rfl
      exact ht0
    try clear_value t1
    split
    · refine touch_app ?_ (Mach.closeRec_touch ..) rfl rfl
      exact ht1
    · exact ht1

theorem Mach.openRest_touch (m0 : Mach) (a1 : FifoEntry) (a2 : List (List Word)) : m0.touch 0x3008 0x80 (Mach.openRest m0 a1 a2) := by
  induction a2 generalizing m0 a1
  · unfold Mach.openRest
    exact touch_refl _ _ _
  · rename_i y r ih
    unfold Mach.openRest
    split
    · rename_i p0_0 p0_1 he2
      have hp0_1 : m0.touch 0x3008 0x80 p0_1 := by
        refine touch_fst he2 ?_
        refine touch_app ?_ (Mach.openOne_touch ..) rfl rfl
        exact touch_refl _ _ _
      refine touch_app ?_ (ih ..) rfl rfl
      exact hp0_1
    · rename_i p0_0 p0_1 he2
      have hp0_1 : m0.touch 0x3008 0x80 p0_1 := by
        refine touch_fst he2 ?_
        refine touch_app ?_ (Mach.openOne_touch ..) rfl rfl
        exact touch_refl _ _ _
      refine touch_app ?_ (Mach.count_touch (P := 0x80) _ _ _ _ rfl) rfl rfl
      exact hp0_1

theorem Mach.loseEvent_touch (m0 : Mach) (a1 : ℕ) (a2 : ℕ) (a3 : Word) : m0.touch 0x3008 0x80 (Mach.loseEvent m0 a1 a2 a3) := by
  unfold Mach.loseEvent
  extract_lets -underBinder -merge -useContext +onlyGivenNames t0
  have ht0 : m0.touch 0x3008 0x80 t0 := by
    unfold t0
    refine touch_app ?_ (Mach.coilEvent_touch ..) rfl rfl
    refine touch_app ?_ (Mach.count_touch (P := 0x80) _ _ _ _ rfl) rfl rfl
    exact touch_refl _ _ _
  try clear_value t0
  extract_lets -underBinder -merge -useContext +onlyGivenNames l0
  try clear_value l0
  refine touch_app ?_ (Mach.onCoil_touch ..) rfl rfl
  exact ht0

theorem Mach.coilRestart_touch (m0 : Mach) (a1 : List Rec) : m0.touch 0x3008 0x0 (Mach.coilRestart m0 a1) := by
  unfold Mach.coilRestart
  extract_lets -underBinder -merge -useContext +onlyGivenNames l0
  try clear_value l0
  extract_lets -underBinder -merge -useContext +onlyGivenNames t0
  have ht0 : m0.touch 0x3008 0x0 t0 := by
    unfold t0
    refine touch_app ?_ (Mach.onCoil_touch ..) rfl rfl
    exact touch_refl _ _ _
  try clear_value t0
  extract_lets -underBinder -merge -useContext +onlyGivenNames t1
  have ht1 : m0.touch 0x3008 0x0 t1 := by
    unfold t1
    refine touch_foldl _ ?_ (fun x y hx => ?_)
    · exact ht0
    · refine touch_app ?_ (Mach.onCoil_touch ..) rfl rfl
      exact hx
  try clear_value t1
  extract_lets -underBinder -merge -useContext +onlyGivenNames t2
  have ht2 : m0.touch 0x3008 0x0 t2 := by
    unfold t2
    refine touch_app ?_ (Mach.openRec_touch ..) rfl rfl
    exact ht1
  try clear_value t2
  refine touch_app ?_ (Mach.coilEvent_touch ..) rfl rfl
  exact ht2

theorem Mach.coilStop_touch (m0 : Mach) (a1 : List Rec) : m0.touch 0x2000 0x0 (Mach.coilStop m0 a1) := by
  unfold Mach.coilStop
  extract_lets -underBinder -merge -useContext +onlyGivenNames t0
  have ht0 : m0.touch 0x2000 0x0 t0 := by
    unfold t0
    refine touch_app ?_ (Mach.onCoil_touch ..) rfl rfl
    exact touch_refl _ _ _
  try clear_value t0
  extract_lets -underBinder -merge -useContext +onlyGivenNames t1
  have ht1 : m0.touch 0x2000 0x0 t1 := by
    unfold t1
    refine touch_foldl _ ?_ (fun x y hx => ?_)
    · exact ht0
    · refine touch_app ?_ (Mach.onCoil_touch ..) rfl rfl
      exact hx
  try clear_value t1
  refine touch_app ?_ (Mach.onCoil_touch ..) rfl rfl
  exact ht1

end Sys2Proof.Machine
end

