-- ==== Sys2Proof/Laws/Frame/Msr.lean ====
section
/-! SUPPORT. The frame of each operation of Msr.lean: the parts of the module it can change. -/

namespace Sys2Proof.Machine

theorem Mach.setWin_touch (m0 : Mach) (a1 : ℕ) (a2 : Window) : m0.touch 0x100000 0x0 (Mach.setWin m0 a1 a2) := by
  unfold Mach.setWin
  refine touch_app ?_ (Mach.onMsr_touch ..) rfl rfl
  exact touch_refl _ _ _

theorem Mach.setTrk_touch (m0 : Mach) (a1 : ℕ) (a2 : Tracker) : m0.touch 0x100000 0x0 (Mach.setTrk m0 a1 a2) := by
  unfold Mach.setTrk
  refine touch_app ?_ (Mach.onMsr_touch ..) rfl rfl
  exact touch_refl _ _ _

theorem Mach.tsEnter_touch (m0 : Mach) (a1 : ℕ) (a2 : ℕ) : m0.touch 0x3008 0x800 (Mach.tsEnter m0 a1 a2) := by
  unfold Mach.tsEnter
  refine touch_ite (fun _ => ?_) (fun _ => ?_)
  · exact touch_refl _ _ _
  · extract_lets -underBinder -merge -useContext +onlyGivenNames t0
    have ht0 : m0.touch 0x3008 0x800 t0 := by
      unfold t0
      refine touch_app ?_ (Mach.count_touch (P := 0x800) _ _ _ _ rfl) rfl rfl
      refine touch_app ?_ (Mach.setFld_touch (P := 0x800) _ _ _ _ rfl) rfl rfl
      exact touch_refl _ _ _
    try clear_value t0
    refine touch_ite (fun _ => ?_) (fun _ => ?_)
    · refine touch_app ?_ (Mach.event_touch (P := 0x800) _ _ _ _ rfl (by decide)) rfl rfl
      exact ht0
    · refine touch_ite (fun _ => ?_) (fun _ => ?_)
      · refine touch_app ?_ (Mach.event_touch (P := 0x800) _ _ _ _ rfl (by decide)) rfl rfl
        exact ht0
      · exact ht0

theorem Mach.tsShow_touch (m0 : Mach) (a1 : ℕ) (a2 : ℤ) : m0.touch 0x100008 0x800 (Mach.tsShow m0 a1 a2) := by
  unfold Mach.tsShow
  refine touch_app ?_ (Mach.onMsr_touch ..) rfl rfl
  refine touch_app ?_ (Mach.setFld_touch (P := 0x800) _ _ _ _ rfl) rfl rfl
  exact touch_refl _ _ _

theorem Mach.tsUpdate_touch (m0 : Mach) (a1 : Gen) (a2 : Tick) (a3 : ℕ) : m0.touch 0x103108 0x800 (Mach.tsUpdate m0 a1 a2 a3) := by
  unfold Mach.tsUpdate
  extract_lets -underBinder -merge -useContext +onlyGivenNames l0
  try clear_value l0
  refine touch_ite (fun _ => ?_) (fun _ => ?_)
  · extract_lets -underBinder -merge -useContext +onlyGivenNames l1
    try clear_value l1
    refine touch_ite (fun _ => ?_) (fun _ => ?_)
    · refine touch_app ?_ (Mach.tsShow_touch ..) rfl rfl
      refine touch_app ?_ (Mach.disarm_touch ..) rfl rfl
      refine touch_app ?_ (Mach.tsEnter_touch ..) rfl rfl
      exact touch_refl _ _ _
    · refine touch_ite (fun _ => ?_) (fun _ => ?_)
      · extract_lets -underBinder -merge -useContext +onlyGivenNames l2
        try clear_value l2
        refine touch_app ?_ (Mach.arm_touch ..) rfl rfl
        refine touch_app ?_ (Mach.onMsr_touch ..) rfl rfl
        refine touch_app ?_ (Mach.tsEnter_touch ..) rfl rfl
        exact touch_refl _ _ _
      · exact touch_refl _ _ _
  · exact touch_refl _ _ _

theorem Mach.tsHoldEnd_touch (m0 : Mach) (a1 : Gen) (a2 : Tick) (a3 : ℕ) : m0.touch 0x103008 0x800 (Mach.tsHoldEnd m0 a1 a2 a3) := by
  unfold Mach.tsHoldEnd
  split
  · refine touch_ite (fun _ => ?_) (fun _ => ?_)
    · refine touch_app ?_ (Mach.tsShow_touch ..) rfl rfl
      refine touch_app ?_ (Mach.tsEnter_touch ..) rfl rfl
      exact touch_refl _ _ _
    · exact touch_refl _ _ _
  · exact touch_refl _ _ _

theorem Mach.chanTick_touch (m0 : Mach) (a1 : Gen) (a2 : Tick) (a3 : ℕ) : m0.touch 0x103008 0x800 (Mach.chanTick m0 a1 a2 a3) := by
  unfold Mach.chanTick
  extract_lets -underBinder -merge -useContext +onlyGivenNames l0
  try clear_value l0
  extract_lets -underBinder -merge -useContext +onlyGivenNames l1
  try clear_value l1
  extract_lets -underBinder -merge -useContext +onlyGivenNames l2
  try clear_value l2
  extract_lets -underBinder -merge -useContext +onlyGivenNames l3
  try clear_value l3
  refine touch_ite (fun _ => ?_) (fun _ => ?_)
  · split
    extract_lets -underBinder -merge -useContext +onlyGivenNames l4
    try clear_value l4
    extract_lets -underBinder -merge -useContext +onlyGivenNames l5
    try clear_value l5
    extract_lets -underBinder -merge -useContext +onlyGivenNames t0
    have ht0 : m0.touch 0x103008 0x800 t0 := by
      unfold t0
      refine touch_ite (fun _ => ?_) (fun _ => ?_)
      · refine touch_app ?_ (Mach.event_touch (P := 0x800) _ _ _ _ rfl (by decide)) rfl rfl
        refine touch_app ?_ (Mach.count_touch (P := 0x800) _ _ _ _ rfl) rfl rfl
        exact touch_refl _ _ _
      · exact touch_refl _ _ _
    try clear_value t0
    refine touch_app ?_ (Mach.setWin_touch ..) rfl rfl
    exact ht0
  · refine touch_app ?_ (Mach.setWin_touch ..) rfl rfl
    exact touch_refl _ _ _

theorem Mach.trackerTick_touch (m0 : Mach) (a1 : Gen) (a2 : Tick) (a3 : ℕ) : m0.touch 0x103108 0x800 (Mach.trackerTick m0 a1 a2 a3) := by
  unfold Mach.trackerTick
  extract_lets -underBinder -merge -useContext +onlyGivenNames l0
  try clear_value l0
  extract_lets -underBinder -merge -useContext +onlyGivenNames l1
  try clear_value l1
  extract_lets -underBinder -merge -useContext +onlyGivenNames l2
  try clear_value l2
  extract_lets -underBinder -merge -useContext +onlyGivenNames l3
  try clear_value l3
  extract_lets -underBinder -merge -useContext +onlyGivenNames l4
  try clear_value l4
  extract_lets -underBinder -merge -useContext +onlyGivenNames l5
  try clear_value l5
  extract_lets -underBinder -merge -useContext +onlyGivenNames l6
  try clear_value l6
  extract_lets -underBinder -merge -useContext +onlyGivenNames l7
  try clear_value l7
  extract_lets -underBinder -merge -useContext +onlyGivenNames l8
  try clear_value l8
  extract_lets -underBinder -merge -useContext +onlyGivenNames l9
  try clear_value l9
  extract_lets -underBinder -merge -useContext +onlyGivenNames l10
  try clear_value l10
  extract_lets -underBinder -merge -useContext +onlyGivenNames l11
  try clear_value l11
  extract_lets -underBinder -merge -useContext +onlyGivenNames l12
  try clear_value l12
  extract_lets -underBinder -merge -useContext +onlyGivenNames l13
  try clear_value l13
  extract_lets -underBinder -merge -useContext +onlyGivenNames l14
  try clear_value l14
  extract_lets -underBinder -merge -useContext +onlyGivenNames l15
  try clear_value l15
  extract_lets -underBinder -merge -useContext +onlyGivenNames l16
  try clear_value l16
  extract_lets -underBinder -merge -useContext +onlyGivenNames l17
  try clear_value l17
  extract_lets -underBinder -merge -useContext +onlyGivenNames l18
  try clear_value l18
  extract_lets -underBinder -merge -useContext +onlyGivenNames l19
  try clear_value l19
  extract_lets -underBinder -merge -useContext +onlyGivenNames t0
  have ht0 : m0.touch 0x103108 0x800 t0 := by
    unfold t0
    refine touch_app ?_ (Mach.setTrk_touch ..) rfl rfl
    exact touch_refl _ _ _
  try clear_value t0
  extract_lets -underBinder -merge -useContext +onlyGivenNames t1
  have ht1 : m0.touch 0x103108 0x800 t1 := by
    unfold t1
    refine touch_app ?_ (Mach.setFld_touch (P := 0x800) _ _ _ _ rfl) rfl rfl
    exact ht0
  try clear_value t1
  extract_lets -underBinder -merge -useContext +onlyGivenNames l20
  try clear_value l20
  extract_lets -underBinder -merge -useContext +onlyGivenNames t2
  have ht2 : m0.touch 0x103108 0x800 t2 := by
    unfold t2
    refine touch_app ?_ (Mach.setFld_touch (P := 0x800) _ _ _ _ rfl) rfl rfl
    exact ht1
  try clear_value t2
  extract_lets -underBinder -merge -useContext +onlyGivenNames t3
  have ht3 : m0.touch 0x103108 0x800 t3 := by
    unfold t3
    refine touch_ite (fun _ => ?_) (fun _ => ?_)
    · refine touch_app ?_ (Mach.event_touch (P := 0x800) _ _ _ _ rfl (by decide)) rfl rfl
      refine touch_app ?_ (Mach.count_touch (P := 0x800) _ _ _ _ rfl) rfl rfl
      exact ht2
    · exact ht2
  try clear_value t3
  refine touch_ite (fun _ => ?_) (fun _ => ?_)
  · exact ht3
  · extract_lets -underBinder -merge -useContext +onlyGivenNames t4
    have ht4 : m0.touch 0x103108 0x800 t4 := by
      unfold t4
      refine touch_app ?_ (Mach.event_touch (P := 0x800) _ _ _ _ rfl (by decide)) rfl rfl
      refine touch_app ?_ (Mach.count_touch (P := 0x800) _ _ _ _ rfl) rfl rfl
      refine touch_app ?_ (Mach.setFld_touch (P := 0x800) _ _ _ _ rfl) rfl rfl
      exact ht3
    try clear_value t4
    refine touch_ite (fun _ => ?_) (fun _ => ?_)
    · refine touch_app ?_ (Mach.arm_touch ..) rfl rfl
      exact ht4
    · refine touch_app ?_ (Mach.disarm_touch ..) rfl rfl
      exact ht4

theorem Mach.trackerFallback_touch (m0 : Mach) (a1 : ℕ) : m0.touch 0x100000 0x0 (Mach.trackerFallback m0 a1) := by
  unfold Mach.trackerFallback
  refine touch_ite (fun _ => ?_) (fun _ => ?_)
  · refine touch_app ?_ (Mach.setTrk_touch ..) rfl rfl
    exact touch_refl _ _ _
  · exact touch_refl _ _ _

theorem Mach.tempFallback_touch (m0 : Mach) (a1 : ℕ) : m0.touch 0x100000 0x0 (Mach.tempFallback m0 a1) := by
  unfold Mach.tempFallback
  refine touch_ite (fun _ => ?_) (fun _ => ?_)
  · refine touch_app ?_ (Mach.onMsr_touch ..) rfl rfl
    exact touch_refl _ _ _
  · exact touch_refl _ _ _

theorem Mach.msrRestart_touch (m0 : Mach) (a1 : Gen) (a2 : Gen) (a3 : ℕ) : m0.touch 0x103108 0x800 (Mach.msrRestart m0 a1 a2 a3) := by
  unfold Mach.msrRestart
  extract_lets -underBinder -merge -useContext +onlyGivenNames l0
  try clear_value l0
  extract_lets -underBinder -merge -useContext +onlyGivenNames l1
  try clear_value l1
  extract_lets -underBinder -merge -useContext +onlyGivenNames l2
  try clear_value l2
  extract_lets -underBinder -merge -useContext +onlyGivenNames l3
  try clear_value l3
  extract_lets -underBinder -merge -useContext +onlyGivenNames t0
  have ht0 : m0.touch 0x103108 0x800 t0 := by
    unfold t0
    refine touch_each ?_ (fun y x hx => ?_)
    · exact touch_refl _ _ _
    · refine touch_app ?_ (Mach.setWin_touch ..) rfl rfl
      exact hx
  try clear_value t0
  extract_lets -underBinder -merge -useContext +onlyGivenNames t1
  have ht1 : m0.touch 0x103108 0x800 t1 := by
    unfold t1
    refine touch_each ?_ (fun y x hx => ?_)
    · exact ht0
    · extract_lets -underBinder -merge -useContext +onlyGivenNames t2
      have ht2 : m0.touch 0x103108 0x800 t2 := by
        unfold t2
        refine touch_app ?_ (Mach.disarm_touch ..) rfl rfl
        exact hx
      try clear_value t2
      refine touch_ite (fun _ => ?_) (fun _ => ?_)
      · exact ht2
      · refine touch_ite (fun _ => ?_) (fun _ => ?_)
        · refine touch_app ?_ (Mach.tsEnter_touch ..) rfl rfl
          exact ht2
        · refine touch_app ?_ (Mach.tsShow_touch ..) rfl rfl
          refine touch_app ?_ (Mach.tsEnter_touch ..) rfl rfl
          exact ht2
  try clear_value t1
  refine touch_each ?_ (fun y x hx => ?_)
  · exact ht1
  · extract_lets -underBinder -merge -useContext +onlyGivenNames t2
    have ht2 : m0.touch 0x103108 0x800 t2 := by
      unfold t2
      refine touch_app ?_ (Mach.disarm_touch ..) rfl rfl
      refine touch_app ?_ (Mach.setTrk_touch ..) rfl rfl
      exact hx
    try clear_value t2
    refine touch_ite (fun _ => ?_) (fun _ => ?_)
    · exact ht2
    · refine touch_app ?_ (Mach.event_touch (P := 0x800) _ _ _ _ rfl (by decide)) rfl rfl
      refine touch_app ?_ (Mach.count_touch (P := 0x800) _ _ _ _ rfl) rfl rfl
      refine touch_app ?_ (Mach.setFld_touch (P := 0x800) _ _ _ _ rfl) rfl rfl
      exact ht2

theorem Mach.chanStatus_touch (m0 : Mach) (a1 : Gen) (a2 : Tick) (a3 : ℕ) : m0.touch 0x8 0x800 (Mach.chanStatus m0 a1 a2 a3) := by
  unfold Mach.chanStatus
  extract_lets -underBinder -merge -useContext +onlyGivenNames l0
  try clear_value l0
  extract_lets -underBinder -merge -useContext +onlyGivenNames l1
  try clear_value l1
  refine touch_app ?_ (Mach.setFld_touch (P := 0x800) _ _ _ _ rfl) rfl rfl
  refine touch_app ?_ (Mach.setFlag_touch (P := 0x800) _ _ _ _ rfl) rfl rfl
  exact touch_refl _ _ _

theorem Mach.beginTick_touch (m0 : Mach) (a1 : Tick) : m0.touch 0x103108 0x800 (Mach.beginTick m0 a1) := by
  unfold Mach.beginTick
  extract_lets -underBinder -merge -useContext +onlyGivenNames l0
  try clear_value l0
  extract_lets -underBinder -merge -useContext +onlyGivenNames l1
  try clear_value l1
  extract_lets -underBinder -merge -useContext +onlyGivenNames t0
  have ht0 : m0.touch 0x103108 0x800 t0 := by
    unfold t0
    refine touch_ite (fun _ => ?_) (fun _ => ?_)
    · exact touch_refl _ _ _
    · refine touch_app ?_ (Mach.msrRestart_touch ..) rfl rfl
      exact touch_refl _ _ _
  try clear_value t0
  refine touch_app ?_ (Mach.onMsr_touch ..) rfl rfl
  exact ht0

theorem Mach.msrTick_touch (m0 : Mach) (a1 : Tick) (a2 : SetOut) : m0.touch 0x103108 0x800 (Mach.msrTick m0 a1 a2).1 := by
  unfold Mach.msrTick
  change Mach.touch1 _ _ m0 _
  extract_lets -underBinder -merge -useContext +onlyGivenNames l0
  try clear_value l0
  extract_lets -underBinder -merge -useContext +onlyGivenNames t0
  have ht0 : m0.touch 0x103108 0x800 t0 := by
    unfold t0
    refine touch_app ?_ (Mach.beginTick_touch ..) rfl rfl
    exact touch_refl _ _ _
  try clear_value t0
  extract_lets -underBinder -merge -useContext +onlyGivenNames t1
  have ht1 : m0.touch 0x103108 0x800 t1 := by
    unfold t1
    refine touch_ite (fun _ => ?_) (fun _ => ?_)
    · refine touch_each ?_ (fun y x hx => ?_)
      · exact ht0
      · refine touch_app ?_ (Mach.tsUpdate_touch ..) rfl rfl
        exact hx
    · exact ht0
  try clear_value t1
  extract_lets -underBinder -merge -useContext +onlyGivenNames t2
  have ht2 : m0.touch 0x103108 0x800 t2 := by
    unfold t2
    refine touch_each ?_ (fun y x hx => ?_)
    · exact ht1
    · refine touch_app ?_ (Mach.tsHoldEnd_touch ..) rfl rfl
      exact hx
  try clear_value t2
  extract_lets -underBinder -merge -useContext +onlyGivenNames l1
  try clear_value l1
  extract_lets -underBinder -merge -useContext +onlyGivenNames t3
  have ht3 : m0.touch 0x103108 0x800 t3 := by
    unfold t3
    refine touch_each ?_ (fun y x hx => ?_)
    · exact ht2
    · refine touch_app ?_ (Mach.chanTick_touch ..) rfl rfl
      exact hx
  try clear_value t3
  extract_lets -underBinder -merge -useContext +onlyGivenNames t4
  have ht4 : m0.touch 0x103108 0x800 t4 := by
    unfold t4
    refine touch_each ?_ (fun y x hx => ?_)
    · exact ht3
    · refine touch_app ?_ (Mach.chanStatus_touch ..) rfl rfl
      exact hx
  try clear_value t4
  extract_lets -underBinder -merge -useContext +onlyGivenNames t5
  have ht5 : m0.touch 0x103108 0x800 t5 := by
    unfold t5
    refine touch_each ?_ (fun y x hx => ?_)
    · exact ht4
    · refine touch_ite (fun _ => ?_) (fun _ => ?_)
      · refine touch_app ?_ (Mach.trackerTick_touch ..) rfl rfl
        exact hx
      · exact hx
  try clear_value t5
  extract_lets -underBinder -merge -useContext +onlyGivenNames l2
  try clear_value l2
  extract_lets -underBinder -merge -useContext +onlyGivenNames l3
  try clear_value l3
  refine touch_app ?_ (Mach.count_touch (P := 0x800) _ _ _ _ rfl) rfl rfl
  exact ht5

theorem Mach.showBacklog_touch (m0 : Mach) : m0.touch 0x8 0x800 (Mach.showBacklog m0) := by
  unfold Mach.showBacklog
  extract_lets -underBinder -merge -useContext +onlyGivenNames l0
  try clear_value l0
  refine touch_app ?_ (Mach.raise_touch (P := 0x800) _ _ _ _ rfl) rfl rfl
  refine touch_app ?_ (Mach.setFld_touch (P := 0x800) _ _ _ _ rfl) rfl rfl
  exact touch_refl _ _ _

theorem Mach.toMsr_touch (m0 : Mach) (a1 : TickSet) : m0.touch 0x103008 0x800 (Mach.toMsr m0 a1) := by
  unfold Mach.toMsr
  refine touch_ite (fun _ => ?_) (fun _ => ?_)
  · exact touch_refl _ _ _
  · extract_lets -underBinder -merge -useContext +onlyGivenNames l0
    try clear_value l0
    extract_lets -underBinder -merge -useContext +onlyGivenNames t0
    have ht0 : m0.touch 0x103008 0x800 t0 := by
      unfold t0
      refine touch_app ?_ (Mach.showBacklog_touch ..) rfl rfl
      refine touch_app ?_ (Mach.onMsr_touch ..) rfl rfl
      exact touch_refl _ _ _
    try clear_value t0
    refine touch_ite (fun _ => ?_) (fun _ => ?_)
    · refine touch_app ?_ (Mach.event_touch (P := 0x800) _ _ _ _ rfl (by decide)) rfl rfl
      exact ht0
    · exact ht0

theorem Mach.msrTake_touch (m0 : Mach) : m0.touch 0x103108 0x800 (Mach.msrTake m0) := by
  unfold Mach.msrTake
  split
  · extract_lets -underBinder -merge -useContext +onlyGivenNames t0
    have ht0 : m0.touch 0x103108 0x800 t0 := by
      unfold t0
      refine touch_app ?_ (Mach.showBacklog_touch ..) rfl rfl
      refine touch_app ?_ (Mach.onMsr_touch ..) rfl rfl
      exact touch_refl _ _ _
    try clear_value t0
    split
    rename_i p0_0 p0_1 p0_2 p0_3 he4 he5 p0_6 p0_7 p0_8 he9
    have hp0_7 : m0.touch 0x103108 0x800 p0_7 := by
      refine touch_fst he9 ?_
      change Mach.touch1 _ _ m0 _
      refine touch_foldl_fst _ ?_ (fun x y hx => ?_)
      · exact ht0
      · refine touch_app ?_ (Mach.msrTick_touch ..) rfl rfl
        exact hx
    refine touch_app ?_ (Mach.onMsr_touch ..) rfl rfl
    exact hp0_7
  · exact touch_refl _ _ _

theorem Mach.msrFinish_touch (m0 : Mach) : m0.touch 0x103008 0x800 (Mach.msrFinish m0).1 := by
  unfold Mach.msrFinish
  change Mach.touch1 _ _ m0 _
  split
  · exact touch_refl _ _ _
  · extract_lets -underBinder -merge -useContext +onlyGivenNames l0
    try clear_value l0
    extract_lets -underBinder -merge -useContext +onlyGivenNames t0
    have ht0 : m0.touch 0x103008 0x800 t0 := by
      unfold t0
      refine touch_app ?_ (Mach.raise_touch (P := 0x800) _ _ _ _ rfl) rfl rfl
      refine touch_app ?_ (Mach.onMsr_touch ..) rfl rfl
      exact touch_refl _ _ _
    try clear_value t0
    extract_lets -underBinder -merge -useContext +onlyGivenNames t1
    have ht1 : m0.touch 0x103008 0x800 t1 := by
      unfold t1
      refine touch_ite (fun _ => ?_) (fun _ => ?_)
      · refine touch_app ?_ (Mach.event_touch (P := 0x800) _ _ _ _ rfl (by decide)) rfl rfl
        refine touch_app ?_ (Mach.count_touch (P := 0x800) _ _ _ _ rfl) rfl rfl
        exact ht0
      · exact ht0
    try clear_value t1
    exact ht1

theorem Mach.msrClear_touch (m0 : Mach) : m0.touch 0x8 0x800 (Mach.msrClear m0) := by
  unfold Mach.msrClear
  refine touch_app ?_ (Mach.setFld_touch (P := 0x800) _ _ _ _ rfl) rfl rfl
  refine touch_app ?_ (Mach.setFld_touch (P := 0x800) _ _ _ _ rfl) rfl rfl
  exact touch_refl _ _ _

end Sys2Proof.Machine
end

