-- ==== Sys2Proof/Laws/Frame/Cdc.lean ====
section
/-! SUPPORT. The frame of each operation of Cdc.lean: the parts of the module it can change. -/

namespace Sys2Proof.Machine

theorem Mach.sendValue_touch (m0 : Mach) (a1 : ℕ) (a2 : List ℕ) : m0.touch 0x8000 0x0 (Mach.sendValue m0 a1 a2) := by
  unfold Mach.sendValue
  refine touch_app ?_ (Mach.onCrossing_touch ..) rfl rfl
  exact touch_refl _ _ _

theorem Mach.sendCount_touch (m0 : Mach) (a1 : ℕ) (a2 : List ℕ) : m0.touch 0x8000 0x0 (Mach.sendCount m0 a1 a2) := by
  unfold Mach.sendCount
  refine touch_app ?_ (Mach.onCrossing_touch ..) rfl rfl
  exact touch_refl _ _ _

theorem Mach.markCrossing_touch (m : Mach) (lo hi : Fd) (x : Nat) {P : Nat} (h : Fd.within P lo = true)
    (g : Fd.within P hi = true) : m.touch 8 P (m.markCrossing lo hi x) := by
  unfold Mach.markCrossing
  split
  · exact Mach.setFld_touch _ _ _ _ h
  · exact Mach.setFld_touch _ _ _ _ g

theorem Mach.sendEvent_touch (m0 : Mach) (a1 : ℕ) (a2 : Word) (a3 : Word) : m0.touch 0xb008 0x80000000000000 (Mach.sendEvent m0 a1 a2 a3) := by
  unfold Mach.sendEvent
  extract_lets -underBinder -merge -useContext +onlyGivenNames l0
  try clear_value l0
  refine touch_ite (fun _ => ?_) (fun _ => ?_)
  · refine touch_app ?_ (Mach.onCrossing_touch ..) rfl rfl
    exact touch_refl _ _ _
  · refine touch_ite (fun _ => ?_) (fun _ => ?_)
    · refine touch_app ?_ (Mach.onCrossing_touch ..) rfl rfl
      exact touch_refl _ _ _
    · extract_lets -underBinder -merge -useContext +onlyGivenNames t0
      have ht0 : m0.touch 0xb008 0x80000000000000 t0 := by
        unfold t0
        refine touch_app ?_ (Mach.count_touch (P := 0x80000000000000) _ _ _ _ rfl) rfl rfl
        refine touch_app ?_ (Mach.markCrossing_touch (P := 0x80000000000000) _ _ _ _ rfl rfl) rfl rfl
        exact touch_refl _ _ _
      try clear_value t0
      refine touch_app ?_ (Mach.record_touch ..) rfl rfl
      refine touch_app ?_ (Mach.event_touch (P := 0x80000000000000) _ _ _ _ rfl (by decide)) rfl rfl
      exact ht0

theorem Mach.sendBeats_touch (m0 : Mach) (a1 : ℕ) (a2 : ℕ) : m0.touch 0x8000 0x0 (Mach.sendBeats m0 a1 a2) := by
  unfold Mach.sendBeats
  refine touch_app ?_ (Mach.onCrossing_touch ..) rfl rfl
  exact touch_refl _ _ _

theorem Mach.crossingHang_touch (m0 : Mach) (a1 : ℕ) (a2 : XKind) : m0.touch 0xb008 0x80000000000000 (Mach.crossingHang m0 a1 a2) := by
  unfold Mach.crossingHang
  refine touch_app ?_ (Mach.onCrossing_touch ..) rfl rfl
  refine touch_app ?_ (Mach.event_touch (P := 0x80000000000000) _ _ _ _ rfl (by decide)) rfl rfl
  refine touch_app ?_ (Mach.markCrossing_touch (P := 0x80000000000000) _ _ _ _ rfl rfl) rfl rfl
  exact touch_refl _ _ _

end Sys2Proof.Machine
end

