-- ==== Sys2Proof/Laws/Frame/Ring.lean ====
section
/-! SUPPORT. The frame of each operation of Ring.lean: the parts of the module it can change. -/

namespace Sys2Proof.Machine

theorem Mach.showInflight_touch (m0 : Mach) (a1 : ℕ) : m0.touch 0x8 0xc000000000200 (Mach.showInflight m0 a1) := by
  unfold Mach.showInflight
  extract_lets -underBinder -merge -useContext +onlyGivenNames l0
  try clear_value l0
  extract_lets -underBinder -merge -useContext +onlyGivenNames l1
  try clear_value l1
  extract_lets -underBinder -merge -useContext +onlyGivenNames t0
  have ht0 : m0.touch 0x8 0xc000000000200 t0 := by
    unfold t0
    refine touch_app ?_ (Mach.setFld_touch (P := 0xc000000000200) _ _ _ _ rfl) rfl rfl
    refine touch_app ?_ (Mach.setFld_touch (P := 0xc000000000200) _ _ _ _ rfl) rfl rfl
    exact touch_refl _ _ _
  try clear_value t0
  extract_lets -underBinder -merge -useContext +onlyGivenNames t1
  have ht1 : m0.touch 0x8 0xc000000000200 t1 := by
    unfold t1
    refine touch_app ?_ (Mach.setFld_touch (P := 0xc000000000200) _ _ _ _ rfl) rfl rfl
    refine touch_app ?_ (Mach.setFld_touch (P := 0xc000000000200) _ _ _ _ rfl) rfl rfl
    exact ht0
  try clear_value t1
  extract_lets -underBinder -merge -useContext +onlyGivenNames t2
  have ht2 : m0.touch 0x8 0xc000000000200 t2 := by
    unfold t2
    refine touch_app ?_ (Mach.setFld_touch (P := 0xc000000000200) _ _ _ _ rfl) rfl rfl
    exact ht1
  try clear_value t2
  refine touch_ite (fun _ => ?_) (fun _ => ?_)
  · refine touch_app ?_ (Mach.setFlag_touch (P := 0xc000000000200) _ _ _ _ rfl) rfl rfl
    exact ht2
  · exact ht2

theorem Mach.logFault_touch (m0 : Mach) (a1 : ℕ) : m0.touch 0x3008 0x10000000000000 (Mach.logFault m0 a1) := by
  unfold Mach.logFault
  refine touch_app ?_ (Mach.event_touch (P := 0x10000000000000) _ _ _ _ rfl (by decide)) rfl rfl
  refine touch_app ?_ (Mach.setFlag_touch (P := 0x10000000000000) _ _ _ _ rfl) rfl rfl
  refine touch_app ?_ (Mach.setFlag_touch (P := 0x10000000000000) _ _ _ _ rfl) rfl rfl
  exact touch_refl _ _ _

theorem Mach.setBitmap_touch (m0 : Mach) (a1 : ℕ) (a2 : ℕ) : m0.touch 0x3808 0x10000000000000 (Mach.setBitmap m0 a1 a2) := by
  unfold Mach.setBitmap
  extract_lets -underBinder -merge -useContext +onlyGivenNames l0
  try clear_value l0
  extract_lets -underBinder -merge -useContext +onlyGivenNames l1
  try clear_value l1
  refine touch_ite (fun _ => ?_) (fun _ => ?_)
  · exact touch_refl _ _ _
  · refine touch_ite (fun _ => ?_) (fun _ => ?_)
    · refine touch_app ?_ (Mach.logFault_touch ..) rfl rfl
      exact touch_refl _ _ _
    · refine touch_app ?_ (Mach.count_touch (P := 0x10000000000000) _ _ _ _ (within_nth _ _ rfl)) rfl rfl
      refine touch_app ?_ (touch_mem _ _ (fun h => memPut_wf _ _ _ h)) rfl rfl
      exact touch_refl _ _ _

theorem Mach.logPage_touch (m0 : Mach) (a1 : ℕ) (a2 : ℕ) (a3 : ℕ) : m0.touch 0x2003808 0x10000000000000 (Mach.logPage m0 a1 a2 a3) := by
  unfold Mach.logPage
  refine touch_ite (fun _ => ?_) (fun _ => ?_)
  · exact touch_refl _ _ _
  · refine touch_ite (fun _ => ?_) (fun _ => ?_)
    · refine touch_app ?_ (Mach.setBitmap_touch ..) rfl rfl
      exact touch_refl _ _ _
    · refine touch_ite (fun _ => ?_) (fun _ => ?_)
      · refine touch_app ?_ (Mach.count_touch (P := 0x10000000000000) _ _ _ _ (within_nth _ _ rfl)) rfl rfl
        exact touch_refl _ _ _
      · extract_lets -underBinder -merge -useContext +onlyGivenNames l0
        try clear_value l0
        extract_lets -underBinder -merge -useContext +onlyGivenNames l1
        try clear_value l1
        extract_lets -underBinder -merge -useContext +onlyGivenNames l2
        try clear_value l2
        refine touch_ite (fun _ => ?_) (fun _ => ?_)
        · refine touch_app ?_ (Mach.setBitmap_touch ..) rfl rfl
          refine touch_app ?_ (Mach.event_touch (P := 0x10000000000000) _ _ _ _ rfl (by decide)) rfl rfl
          refine touch_app ?_ (Mach.setFlag_touch (P := 0x10000000000000) _ _ _ _ rfl) rfl rfl
          exact touch_refl _ _ _
        · extract_lets -underBinder -merge -useContext +onlyGivenNames l3
          try clear_value l3
          refine touch_ite (fun _ => ?_) (fun _ => ?_)
          · refine touch_app ?_ (Mach.logFault_touch ..) rfl rfl
            exact touch_refl _ _ _
          · extract_lets -underBinder -merge -useContext +onlyGivenNames t0
            have ht0 : m0.touch 0x2003808 0x10000000000000 t0 := by
              unfold t0
              refine touch_app ?_ (touch_mem _ _ (fun h => memWrite_wf _ _ _ h)) rfl rfl
              exact touch_refl _ _ _
            try clear_value t0
            extract_lets -underBinder -merge -useContext +onlyGivenNames t1
            have ht1 : m0.touch 0x2003808 0x10000000000000 t1 := by
              unfold t1
              refine touch_app ?_ (Mach.count_touch (P := 0x10000000000000) _ _ _ _ rfl) rfl rfl
              refine touch_app ?_ (Mach.setFld_touch (P := 0x10000000000000) _ _ _ _ rfl) rfl rfl
              exact ht0
            try clear_value t1
            refine touch_app ?_ (Mach.onPart_touch ..) rfl rfl
            exact ht1

theorem Mach.partWrite_touch (m0 : Mach) (a1 a2 : ℕ) (a3 : List Byte) (a4 : ℕ) :
    m0.touch 0x2003808 0x10000000000000 (Mach.partWrite m0 a1 a2 a3 a4).1 := by
  unfold Mach.partWrite
  split
  · exact touch_refl _ _ _
  · extract_lets mem m1 first last
    have h1 : m0.touch 0x2003808 0x10000000000000 m1 :=
      touch_mono (touch_mem _ _ (foldl_memPut_wf (fun e : Byte × Nat => translate m0 a1 (a2 + e.2)) (fun e => e.1) _ _)) rfl rfl
    exact touch_foldl _ h1 fun x y hx => touch_app hx (Mach.logPage_touch ..) rfl rfl

theorem Mach.rearm_touch (m0 : Mach) (a1 : ℕ) : m0.touch 0x2003008 0x10000000000000 (Mach.rearm m0 a1) := by
  unfold Mach.rearm
  refine touch_ite (fun _ => ?_) (fun _ => ?_)
  · extract_lets -underBinder -merge -useContext +onlyGivenNames t0
    have ht0 : m0.touch 0x2003008 0x10000000000000 t0 := by
      unfold t0
      refine touch_app ?_ (Mach.setFld_touch (P := 0x10000000000000) _ _ _ _ rfl) rfl rfl
      refine touch_app ?_ (Mach.setFlag_touch (P := 0x10000000000000) _ _ _ _ rfl) rfl rfl
      exact touch_refl _ _ _
    try clear_value t0
    refine touch_app ?_ (Mach.event_touch (P := 0x10000000000000) _ _ _ _ rfl (by decide)) rfl rfl
    refine touch_app ?_ (Mach.onPart_touch ..) rfl rfl
    exact ht0
  · exact touch_refl _ _ _

theorem Mach.deliverVec_touch (m0 : Mach) (a1 : ℕ) (a2 : ℕ) : m0.touch 0x200b008 0x20000000000000 (Mach.deliverVec m0 a1 a2) := by
  unfold Mach.deliverVec
  refine touch_ite (fun _ => ?_) (fun _ => ?_)
  · refine touch_app ?_ (Mach.event_touch (P := 0x20000000000000) _ _ _ _ rfl (by decide)) rfl rfl
    refine touch_app ?_ (Mach.count_touch (P := 0x20000000000000) _ _ _ _ (within_nth _ _ rfl)) rfl rfl
    exact touch_refl _ _ _
  · extract_lets -underBinder -merge -useContext +onlyGivenNames l0
    try clear_value l0
    extract_lets -underBinder -merge -useContext +onlyGivenNames l1
    try clear_value l1
    extract_lets -underBinder -merge -useContext +onlyGivenNames t0
    have ht0 : m0.touch 0x200b008 0x20000000000000 t0 := by
      unfold t0
      refine touch_app ?_ (Mach.onPart_touch ..) rfl rfl
      exact touch_refl _ _ _
    try clear_value t0
    refine touch_app ?_ (Mach.sendValue_touch ..) rfl rfl
    refine touch_app ?_ (Mach.count_touch (P := 0x20000000000000) _ _ _ _ rfl) rfl rfl
    exact ht0

theorem Mach.tryVec_touch (m0 : Mach) (a1 : ℕ) (a2 : ℕ) : m0.touch 0x200b108 0x20000000000000 (Mach.tryVec m0 a1 a2) := by
  unfold Mach.tryVec
  extract_lets -underBinder -merge -useContext +onlyGivenNames l0
  try clear_value l0
  refine touch_ite (fun _ => ?_) (fun _ => ?_)
  · exact touch_refl _ _ _
  · refine touch_ite (fun _ => ?_) (fun _ => ?_)
    · refine touch_app ?_ (Mach.deliverVec_touch ..) rfl rfl
      exact touch_refl _ _ _
    · refine touch_ite (fun _ => ?_) (fun _ => ?_)
      · extract_lets -underBinder -merge -useContext +onlyGivenNames t0
        have ht0 : m0.touch 0x200b108 0x20000000000000 t0 := by
          unfold t0
          refine touch_app ?_ (Mach.onPart_touch ..) rfl rfl
          exact touch_refl _ _ _
        try clear_value t0
        extract_lets -underBinder -merge -useContext +onlyGivenNames t1
        have ht1 : m0.touch 0x200b108 0x20000000000000 t1 := by
          unfold t1
          refine touch_ite (fun _ => ?_) (fun _ => ?_)
          · exact ht0
          · refine touch_app ?_ (Mach.arm_touch ..) rfl rfl
            exact ht0
        try clear_value t1
        refine touch_app ?_ (Mach.deliverVec_touch ..) rfl rfl
        exact ht1
      · extract_lets -underBinder -merge -useContext +onlyGivenNames t0
        have ht0 : m0.touch 0x200b108 0x20000000000000 t0 := by
          unfold t0
          refine touch_app ?_ (Mach.onPart_touch ..) rfl rfl
          exact touch_refl _ _ _
        try clear_value t0
        refine touch_app ?_ (Mach.event_touch (P := 0x20000000000000) _ _ _ _ rfl (by decide)) rfl rfl
        refine touch_app ?_ (Mach.count_touch (P := 0x20000000000000) _ _ _ _ (within_nth _ _ rfl)) rfl rfl
        refine touch_app ?_ (Mach.setFlag_touch (P := 0x20000000000000) _ _ _ _ rfl) rfl rfl
        exact ht0

theorem Mach.signalPart_touch (m0 : Mach) (a1 : ℕ) (a2 : ℕ) : m0.touch 0x200b108 0x20000000000000 (Mach.signalPart m0 a1 a2) := by
  unfold Mach.signalPart
  refine touch_ite (fun _ => ?_) (fun _ => ?_)
  · refine touch_app ?_ (Mach.event_touch (P := 0x20000000000000) _ _ _ _ rfl (by decide)) rfl rfl
    refine touch_app ?_ (Mach.count_touch (P := 0x20000000000000) _ _ _ _ (within_nth _ _ rfl)) rfl rfl
    exact touch_refl _ _ _
  · extract_lets -underBinder -merge -useContext +onlyGivenNames l0
    try clear_value l0
    refine touch_ite (fun _ => ?_) (fun _ => ?_)
    · exact touch_refl _ _ _
    · extract_lets -underBinder -merge -useContext +onlyGivenNames l1
      try clear_value l1
      refine touch_ite (fun _ => ?_) (fun _ => ?_)
      · refine touch_app ?_ (Mach.event_touch (P := 0x20000000000000) _ _ _ _ rfl (by decide)) rfl rfl
        refine touch_app ?_ (Mach.count_touch (P := 0x20000000000000) _ _ _ _ (within_nth _ _ rfl)) rfl rfl
        exact touch_refl _ _ _
      · extract_lets -underBinder -merge -useContext +onlyGivenNames t0
        have ht0 : m0.touch 0x200b108 0x20000000000000 t0 := by
          unfold t0
          refine touch_app ?_ (Mach.onPart_touch ..) rfl rfl
          exact touch_refl _ _ _
        try clear_value t0
        refine touch_app ?_ (Mach.tryVec_touch ..) rfl rfl
        exact ht0

theorem Mach.tokenCame_touch (m0 : Mach) (a1 : ℕ) : m0.touch 0x200b108 0x20000000000000 (Mach.tokenCame m0 a1) := by
  unfold Mach.tokenCame
  extract_lets -underBinder -merge -useContext +onlyGivenNames l0
  try clear_value l0
  extract_lets -underBinder -merge -useContext +onlyGivenNames l1
  try clear_value l1
  extract_lets -underBinder -merge -useContext +onlyGivenNames t0
  have ht0 : m0.touch 0x200b108 0x20000000000000 t0 := by
    unfold t0
    (unfold l1; split)
    · refine touch_app ?_ (Mach.deliverVec_touch ..) rfl rfl
      refine touch_app ?_ (Mach.onPart_touch ..) rfl rfl
      exact touch_refl _ _ _
    · refine touch_app ?_ (Mach.onPart_touch ..) rfl rfl
      exact touch_refl _ _ _
  try clear_value t0
  extract_lets -underBinder -merge -useContext +onlyGivenNames t1
  have ht1 : m0.touch 0x200b108 0x20000000000000 t1 := by
    unfold t1
    refine touch_app ?_ (Mach.setFlag_touch (P := 0x20000000000000) _ _ _ _ rfl) rfl rfl
    exact ht0
  try clear_value t1
  refine touch_ite (fun _ => ?_) (fun _ => ?_)
  · refine touch_app ?_ (Mach.arm_touch ..) rfl rfl
    exact ht1
  · exact ht1

theorem Mach.partEvent_touch (m : Mach) (q b p : Nat) {P : Nat}
    (hP : (P.testBit q && (0x20000000000000 &&& P == 0x20000000000000)) = true) (hq : q < 256) :
    m.touch 0x200b108 P (m.partEvent q b p) := by
  rw [Bool.and_eq_true, beq_iff_eq] at hP
  exact touch_trans (touch_mono (Mach.event_touch _ _ _ _ hP.1 hq) rfl (Nat.and_self P))
    (touch_mono (Mach.signalPart_touch ..) rfl hP.2)

theorem Mach.partEvent_any (m : Mach) (q b p : Nat) :
    m.touch 0x200b108 0xFFFFFFFFFFFFFFFFFFFFFFFFFFFFFFFFFFFFFFFFFFFFFFFFFFFFFFFFFFFFFFFF (m.partEvent q b p) :=
  touch_app (touch_mono (Mach.event_any ..) rfl rfl) (Mach.signalPart_touch ..) rfl rfl

theorem Mach.rejectWindow_touch (m0 : Mach) (a1 : ℕ) : m0.touch 0x200b108 0x24000000000000 (Mach.rejectWindow m0 a1) := by
  unfold Mach.rejectWindow
  extract_lets -underBinder -merge -useContext +onlyGivenNames t0
  have ht0 : m0.touch 0x200b108 0x24000000000000 t0 := by
    unfold t0
    refine touch_app ?_ (Mach.onPart_touch ..) rfl rfl
    exact touch_refl _ _ _
  try clear_value t0
  refine touch_app ?_ (Mach.signalPart_touch ..) rfl rfl
  refine touch_app ?_ (Mach.eventAlways_touch (P := 0x24000000000000) _ _ _ _ rfl (by decide)) rfl rfl
  refine touch_app ?_ (Mach.count_touch (P := 0x24000000000000) _ _ _ _ (within_nth _ _ rfl)) rfl rfl
  exact ht0

theorem Mach.complete_touch (m0 : Mach) (a1 : ℕ) (a2 : ℕ) (a3 : ℕ) (a4 : Byte) (a5 : ℕ) (a6 : ℕ) (a7 : List Byte) (a8 : ℕ) : m0.touch 0x200b908 0x30000000000000 (Mach.complete m0 a1 a2 a3 a4 a5 a6 a7 a8) := by
  unfold Mach.complete
  extract_lets -underBinder -merge -useContext +onlyGivenNames l0
  try clear_value l0
  extract_lets -underBinder -merge -useContext +onlyGivenNames l1
  try clear_value l1
  extract_lets -underBinder -merge -useContext +onlyGivenNames t0
  have ht0 : m0.touch 0x200b908 0x30000000000000 t0 := by
    unfold t0
    refine touch_app ?_ (Mach.partWrite_touch ..) rfl rfl
    exact touch_refl _ _ _
  try clear_value t0
  extract_lets -underBinder -merge -useContext +onlyGivenNames t1
  have ht1 : m0.touch 0x200b908 0x30000000000000 t1 := by
    unfold t1
    refine touch_app ?_ (Mach.onPart_touch ..) rfl rfl
    exact ht0
  try clear_value t1
  refine touch_app ?_ (Mach.signalPart_touch ..) rfl rfl
  exact ht1

theorem Mach.doneCmd_touch (m0 : Mach) (a1 : ℕ) (a2 : Byte) (a3 : ℕ) (a4 : ℕ) (a5 : List Byte) : m0.touch 0x200b908 0x30000000000000 (Mach.doneCmd m0 a1 a2 a3 a4 a5) := by
  unfold Mach.doneCmd
  refine touch_app ?_ (Mach.complete_touch ..) rfl rfl
  exact touch_refl _ _ _

theorem Mach.deliver_touch (m0 : Mach) (a1 : ℕ) (a2 : ℕ) (a3 : List Byte) : m0.touch 0x200b908 0x30000000000000 (Mach.deliver m0 a1 a2 a3) := by
  unfold Mach.deliver
  extract_lets -underBinder -merge -useContext +onlyGivenNames l0
  try clear_value l0
  refine touch_ite (fun _ => ?_) (fun _ => ?_)
  · refine touch_app ?_ (Mach.complete_touch ..) rfl rfl
    exact touch_refl _ _ _
  · refine touch_ite (fun _ => ?_) (fun _ => ?_)
    · refine touch_app ?_ (Mach.onPart_touch ..) rfl rfl
      exact touch_refl _ _ _
    · exact touch_refl _ _ _

theorem Mach.deliverKept_touch (m0 : Mach) (a1 : ℕ) (a2 : ℕ) : m0.touch 0x200b908 0x30000000000000 (Mach.deliverKept m0 a1 a2) := by
  induction a2 generalizing m0 a1
  · unfold Mach.deliverKept
    exact touch_refl _ _ _
  · rename_i n ih
    unfold Mach.deliverKept
    split
    · exact touch_refl _ _ _
    · refine touch_ite (fun _ => ?_) (fun _ => ?_)
      · refine touch_app ?_ (ih ..) rfl rfl
        refine touch_app ?_ (Mach.complete_touch ..) rfl rfl
        refine touch_app ?_ (Mach.onPart_touch ..) rfl rfl
        exact touch_refl _ _ _
      · exact touch_refl _ _ _

theorem Mach.vnicRx_touch (m0 : Mach) (a1 : ℕ) (a2 : List Byte) : m0.touch 0x200b908 0x30000000000000 (Mach.vnicRx m0 a1 a2) := by
  unfold Mach.vnicRx
  refine touch_ite (fun _ => ?_) (fun _ => ?_)
  · refine touch_app ?_ (Mach.complete_touch ..) rfl rfl
    exact touch_refl _ _ _
  · refine touch_app ?_ (Mach.onPart_touch ..) rfl rfl
    exact touch_refl _ _ _

theorem Mach.onRing_touch (m0 : Mach) (a1 : ℕ) (a2 : ℕ) (a3 : MRing → MRing) : m0.touch 0x2000000 0x0 (Mach.onRing m0 a1 a2 a3) := by
  unfold Mach.onRing
  refine touch_app ?_ (Mach.onPart_touch ..) rfl rfl
  exact touch_refl _ _ _

theorem Mach.writeBlock_touch (m0 : Mach) (a1 : ℕ) (a2 : ℕ) (a3 : List Byte) : m0.touch 0x2003808 0x10000000000000 (Mach.writeBlock m0 a1 a2 a3) := by
  unfold Mach.writeBlock
  extract_lets -underBinder -merge -useContext +onlyGivenNames l0
  try clear_value l0
  extract_lets -underBinder -merge -useContext +onlyGivenNames t0
  have ht0 : m0.touch 0x2003808 0x10000000000000 t0 := by
    unfold t0
    refine touch_app ?_ (Mach.partWrite_touch ..) rfl rfl
    exact touch_refl _ _ _
  try clear_value t0
  refine touch_app ?_ (Mach.onRing_touch ..) rfl rfl
  exact ht0

theorem Mach.doorbell_touch (m0 : Mach) (a1 : ℕ) (a2 : Bool) (a3 : Part → Part) : m0.touch 0x200b108 0x24000000000000 (Mach.doorbell m0 a1 a2 a3) := by
  unfold Mach.doorbell
  refine touch_ite (fun _ => ?_) (fun _ => ?_)
  · refine touch_app ?_ (Mach.onPart_touch ..) rfl rfl
    exact touch_refl _ _ _
  · refine touch_app ?_ (Mach.rejectWindow_touch ..) rfl rfl
    exact touch_refl _ _ _

theorem Mach.writeCmdProd_touch (m0 : Mach) (a1 : ℕ) (a2 : ℕ) : m0.touch 0x200b108 0x24000000000000 (Mach.writeCmdProd m0 a1 a2) := by
  unfold Mach.writeCmdProd
  extract_lets -underBinder -merge -useContext +onlyGivenNames l0
  try clear_value l0
  refine touch_app ?_ (Mach.doorbell_touch ..) rfl rfl
  exact touch_refl _ _ _

theorem Mach.writeCplCons_touch (m0 : Mach) (a1 : ℕ) (a2 : ℕ) : m0.touch 0x200b908 0x34000000000000 (Mach.writeCplCons m0 a1 a2) := by
  unfold Mach.writeCplCons
  extract_lets -underBinder -merge -useContext +onlyGivenNames l0
  try clear_value l0
  extract_lets -underBinder -merge -useContext +onlyGivenNames l1
  try clear_value l1
  extract_lets -underBinder -merge -useContext +onlyGivenNames t0
  have ht0 : m0.touch 0x200b908 0x34000000000000 t0 := by
    unfold t0
    refine touch_app ?_ (Mach.doorbell_touch ..) rfl rfl
    exact touch_refl _ _ _
  try clear_value t0
  refine touch_app ?_ (Mach.deliverKept_touch ..) rfl rfl
  exact ht0

theorem Mach.writeMrCons_touch (m0 : Mach) (a1 : ℕ) (a2 : ℕ) (a3 : ℕ) : m0.touch 0x200b108 0x24000000000000 (Mach.writeMrCons m0 a1 a2 a3) := by
  unfold Mach.writeMrCons
  extract_lets -underBinder -merge -useContext +onlyGivenNames l0
  try clear_value l0
  refine touch_ite (fun _ => ?_) (fun _ => ?_)
  · refine touch_app ?_ (Mach.onRing_touch ..) rfl rfl
    exact touch_refl _ _ _
  · refine touch_app ?_ (Mach.rejectWindow_touch ..) rfl rfl
    exact touch_refl _ _ _

theorem Mach.writeIrq_touch (m0 : Mach) (a1 : ℕ) (a2 : ℕ) (a3 : ℕ) : m0.touch 0x200b108 0x24000000000000 (Mach.writeIrq m0 a1 a2 a3) := by
  unfold Mach.writeIrq
  extract_lets -underBinder -merge -useContext +onlyGivenNames l0
  extract_lets -underBinder -merge -useContext +onlyGivenNames l1
  split
  · unfold l0
    refine touch_app ?_ (Mach.onPart_touch ..) rfl rfl
    exact touch_refl _ _ _
  · unfold l0
    refine touch_app ?_ (Mach.onPart_touch ..) rfl rfl
    exact touch_refl _ _ _
  · unfold l1
    extract_lets -underBinder -merge -useContext +onlyGivenNames t0
    have ht0 : m0.touch 0x200b108 0x24000000000000 t0 := by
      unfold t0
      refine touch_app ?_ (Mach.onPart_touch ..) rfl rfl
      exact touch_refl _ _ _
    try clear_value t0
    refine touch_each ?_ (fun y x hx => ?_)
    · exact ht0
    · refine touch_app ?_ (Mach.tryVec_touch ..) rfl rfl
      exact hx
  · unfold l1
    extract_lets -underBinder -merge -useContext +onlyGivenNames t0
    have ht0 : m0.touch 0x200b108 0x24000000000000 t0 := by
      unfold t0
      refine touch_app ?_ (Mach.onPart_touch ..) rfl rfl
      exact touch_refl _ _ _
    try clear_value t0
    refine touch_each ?_ (fun y x hx => ?_)
    · exact ht0
    · refine touch_app ?_ (Mach.tryVec_touch ..) rfl rfl
      exact hx
  · refine touch_app ?_ (Mach.rejectWindow_touch ..) rfl rfl
    exact touch_refl _ _ _

theorem Mach.writeWindow_touch (m0 : Mach) (a1 : ℕ) (a2 : ℕ) (a3 : ℕ) : m0.touch 0x200b108 0x24000000000000 (Mach.writeWindow m0 a1 a2 a3) := by
  unfold Mach.writeWindow
  split
  · refine touch_app ?_ (Mach.onPart_touch ..) rfl rfl
    exact touch_refl _ _ _
  · refine touch_app ?_ (Mach.rejectWindow_touch ..) rfl rfl
    refine touch_app ?_ (Mach.onPart_touch ..) rfl rfl
    exact touch_refl _ _ _

end Sys2Proof.Machine
end

