-- ==== Sys2Proof/Laws/Frame/Warp.lean ====
section
/-! SUPPORT. The frame of each operation of Warp.lean: the parts of the module it can change. -/

namespace Sys2Proof.Machine

theorem Mach.merge_touch (m0 : Mach) (a1 : List ℕ) (a2 : List ℕ) : m0.touch 0x10000 0x0 (Mach.merge m0 a1 a2).2 := by
  unfold Mach.merge
  change Mach.touch2 _ _ m0 _
  extract_lets -underBinder -merge -useContext +onlyGivenNames l0
  try clear_value l0
  extract_lets -underBinder -merge -useContext +onlyGivenNames l1
  try clear_value l1
  extract_lets -underBinder -merge -useContext +onlyGivenNames l2
  try clear_value l2
  extract_lets -underBinder -merge -useContext +onlyGivenNames l3
  try clear_value l3
  split
  · exact touch_refl _ _ _
  · extract_lets -underBinder -merge -useContext +onlyGivenNames l3
    try clear_value l3
    extract_lets -underBinder -merge -useContext +onlyGivenNames l4
    try clear_value l4
    refine touch_app ?_ (touch_set_pace _ _) rfl rfl
    exact touch_refl _ _ _

theorem Mach.raiseRequest_touch (m0 : Mach) (a1 : ℕ) : m0.touch 0x10000 0x0 (Mach.raiseRequest m0 a1) := by
  unfold Mach.raiseRequest
  refine touch_app ?_ (Mach.merge_touch ..) rfl rfl
  exact touch_refl _ _ _

theorem Mach.endLane_touch (m0 : Mach) (a1 : Bool) (a2 : WarpHdr) (a3 : ℕ) : m0.touch 0x10000 0x0 (Mach.endLane m0 a1 a2 a3) := by
  unfold Mach.endLane
  refine touch_ite (fun _ => ?_) (fun _ => ?_)
  · exact touch_refl _ _ _
  · refine touch_app ?_ (touch_set_pace _ _) rfl rfl
    exact touch_refl _ _ _

end Sys2Proof.Machine
end

