-- ==== Sys2Proof/Laws/Frame/Stamp.lean ====
section
/-! SUPPORT. The frame of each operation of Stamp.lean: the parts of the module it can change. -/

namespace Sys2Proof.Machine

theorem Mach.count64_touch (m : Mach) (lo hi : Fd) (i n : Nat) {P : Nat} (h : Fd.within P lo = true)
    (g : Fd.within P hi = true) : m.touch 8 P (m.count64 lo hi i n) :=
  touch_trans (Mach.setFld_touch _ _ _ _ h) (Mach.setFld_touch _ _ _ _ g)

theorem Mach.dropStamp_touch (m0 : Mach) (a1 : ℕ) (a2 : TxStamp) : m0.touch 0x43008 0x40 (Mach.dropStamp m0 a1 a2) := by
  unfold Mach.dropStamp
  extract_lets -underBinder -merge -useContext +onlyGivenNames l0
  try clear_value l0
  extract_lets -underBinder -merge -useContext +onlyGivenNames t0
  try clear_value t0
  extract_lets -underBinder -merge -useContext +onlyGivenNames t1
  have ht1 : m0.touch 0x43008 0x40 t1 := by
    unfold t1
    refine touch_app ?_ (touch_set_ptp _ _) rfl rfl
    exact touch_refl _ _ _
  try clear_value t1
  refine touch_app ?_ (Mach.event_touch (P := 0x40) _ _ _ _ rfl (by decide)) rfl rfl
  refine touch_app ?_ (Mach.count_touch (P := 0x40) _ _ _ _ rfl) rfl rfl
  exact ht1

theorem Mach.keepStamp_touch (m0 : Mach) (a1 : ℕ) (a2 : TxStamp) : m0.touch 0x40000 0x0 (Mach.keepStamp m0 a1 a2) := by
  unfold Mach.keepStamp
  extract_lets -underBinder -merge -useContext +onlyGivenNames l0
  try clear_value l0
  refine touch_app ?_ (touch_set_ptp _ _) rfl rfl
  exact touch_refl _ _ _

theorem Mach.settleStamps_touch (m0 : Mach) (a1 : ℕ) : m0.touch 0x43008 0x40 (Mach.settleStamps m0 a1) := by
  unfold Mach.settleStamps
  refine touch_each ?_ (fun y x hx => ?_)
  · refine touch_app ?_ (touch_set_ptp _ _) rfl rfl
    exact touch_refl _ _ _
  · refine touch_app ?_ (Mach.dropStamp_touch ..) rfl rfl
    exact hx

theorem Mach.pushStamp_touch (m0 : Mach) (a1 : ℕ) (a2 : TxStamp) : m0.touch 0x43008 0x40 (Mach.pushStamp m0 a1 a2) := by
  unfold Mach.pushStamp
  extract_lets -underBinder -merge -useContext +onlyGivenNames t0
  have ht0 : m0.touch 0x43008 0x40 t0 := by
    unfold t0
    refine touch_app ?_ (Mach.settleStamps_touch ..) rfl rfl
    exact touch_refl _ _ _
  try clear_value t0
  refine touch_ite (fun _ => ?_) (fun _ => ?_)
  · refine touch_app ?_ (touch_set_ptp _ _) rfl rfl
    exact ht0
  · refine touch_app ?_ (Mach.keepStamp_touch ..) rfl rfl
    exact ht0

theorem Mach.popStamp_touch (m0 : Mach) (a1 : ℕ) : m0.touch 0x43008 0x40 (Mach.popStamp m0 a1) := by
  unfold Mach.popStamp
  extract_lets -underBinder -merge -useContext +onlyGivenNames t0
  have ht0 : m0.touch 0x43008 0x40 t0 := by
    unfold t0
    refine touch_app ?_ (Mach.settleStamps_touch ..) rfl rfl
    exact touch_refl _ _ _
  try clear_value t0
  extract_lets -underBinder -merge -useContext +onlyGivenNames t1
  try clear_value t1
  extract_lets -underBinder -merge -useContext +onlyGivenNames t2
  have ht2 : m0.touch 0x43008 0x40 t2 := by
    unfold t2
    refine touch_app ?_ (touch_set_ptp _ _) rfl rfl
    exact ht0
  try clear_value t2
  split
  · refine touch_app ?_ (Mach.keepStamp_touch ..) rfl rfl
    refine touch_app ?_ (touch_set_ptp _ _) rfl rfl
    exact ht2
  · exact ht2

theorem Mach.stampGuest_touch (m0 : Mach) (a1 : ℕ) (a2 : ℕ) (a3 : Frame) : m0.touch 0x8000 0x0 (Mach.stampGuest m0 a1 a2 a3) := by
  unfold Mach.stampGuest
  split
  · refine touch_ite (fun _ => ?_) (fun _ => ?_)
    · extract_lets -underBinder -merge -useContext +onlyGivenNames l0
      try clear_value l0
      refine touch_app ?_ (Mach.sendValue_touch ..) rfl rfl
      exact touch_refl _ _ _
    · exact touch_refl _ _ _
  · exact touch_refl _ _ _

theorem Mach.capture_touch (m0 : Mach) (a1 : ℕ) (a2 : ℕ) (a3 : ℤ) : m0.touch 0x40000 0x0 (Mach.capture m0 a1 a2 a3) := by
  unfold Mach.capture
  refine touch_app ?_ (Mach.onDom_touch ..) rfl rfl
  exact touch_refl _ _ _

theorem Mach.queueBehind_touch (m0 : Mach) (a1 : ℕ) (a2 : TxFrame) (a3 : PtpMsg) : m0.touch 0x4000000 0x0 (Mach.queueBehind m0 a1 a2 a3) := by
  unfold Mach.queueBehind
  refine touch_app ?_ (Mach.onPort_touch ..) rfl rfl
  exact touch_refl _ _ _

theorem Mach.stampOwn_touch (m0 : Mach) (a1 : ℕ) (a2 : ℕ) (a3 : TxFrame) : m0.touch 0x4040000 0x0 (Mach.stampOwn m0 a1 a2 a3) := by
  unfold Mach.stampOwn
  split
  · extract_lets -underBinder -merge -useContext +onlyGivenNames l0
    try clear_value l0
    extract_lets -underBinder -merge -useContext +onlyGivenNames t0
    have ht0 : m0.touch 0x4040000 0x0 t0 := by
      unfold t0
      refine touch_app ?_ (Mach.capture_touch ..) rfl rfl
      exact touch_refl _ _ _
    try clear_value t0
    extract_lets -underBinder -merge -useContext +onlyGivenNames l1
    split
    · refine touch_app ?_ (Mach.queueBehind_touch ..) rfl rfl
      exact ht0
    · unfold l1
      refine touch_app ?_ (Mach.onPort_touch ..) rfl rfl
      exact ht0
    · refine touch_app ?_ (Mach.onDom_touch ..) rfl rfl
      exact ht0
    · refine touch_app ?_ (Mach.queueBehind_touch ..) rfl rfl
      exact ht0
    · unfold l1
      refine touch_app ?_ (Mach.onPort_touch ..) rfl rfl
      exact ht0
    · exact ht0
  · exact touch_refl _ _ _

theorem Mach.stampFrame_touch (m0 : Mach) (a1 : ℕ) (a2 : TxFrame) : m0.touch 0x4048000 0x0 (Mach.stampFrame m0 a1 a2) := by
  unfold Mach.stampFrame
  split
  · refine touch_ite (fun _ => ?_) (fun _ => ?_)
    · refine touch_app ?_ (Mach.stampOwn_touch ..) rfl rfl
      exact touch_refl _ _ _
    · refine touch_app ?_ (Mach.stampGuest_touch ..) rfl rfl
      exact touch_refl _ _ _
  · exact touch_refl _ _ _

end Sys2Proof.Machine
end

