-- ==== Sys2Proof/Laws/Frame/Fabric.lean ====
section
/-! SUPPORT. The frame of each operation of Fabric.lean: the parts of the module it can change. -/

namespace Sys2Proof.Machine

theorem Mach.showMem_touch (m0 : Mach) : m0.touch 0x8 0x10000 (Mach.showMem m0) := by
  unfold Mach.showMem
  refine touch_app ?_ (Mach.raise_touch (P := 0x10000) _ _ _ _ rfl) rfl rfl
  refine touch_app ?_ (Mach.setFld_touch (P := 0x10000) _ _ _ _ rfl) rfl rfl
  exact touch_refl _ _ _

theorem Mach.ageOut_touch (m0 : Mach) (a1 : ℕ) : m0.touch 0x4003008 0xffff00010000 (Mach.ageOut m0 a1) := by
  unfold Mach.ageOut
  split
  refine touch_ite (fun _ => ?_) (fun _ => ?_)
  · exact touch_refl _ _ _
  · refine touch_app ?_ (Mach.event_touch (P := 0xffff00010000) _ _ _ _ (testBit_macPage rfl _) (macPage_lt _)) rfl rfl
    refine touch_app ?_ (Mach.count_touch (P := 0xffff00010000) _ _ _ _ (within_onPort _ _ rfl (by decide))) rfl rfl
    refine touch_app ?_ (Mach.showMem_touch ..) rfl rfl
    refine touch_app ?_ (Mach.onPort_touch ..) rfl rfl
    exact touch_refl _ _ _

theorem Mach.kick_touch (m0 : Mach) (a1 : ℕ) : m0.touch 0x404b108 0xffff00010000 (Mach.kick m0 a1) := by
  unfold Mach.kick
  refine touch_ite (fun _ => ?_) (fun _ => ?_)
  · exact touch_refl _ _ _
  · extract_lets -underBinder -merge -useContext +onlyGivenNames t0
    have ht0 : m0.touch 0x404b108 0xffff00010000 t0 := by
      unfold t0
      refine touch_app ?_ (Mach.ageOut_touch ..) rfl rfl
      exact touch_refl _ _ _
    try clear_value t0
    split
    · refine touch_ite (fun _ => ?_) (fun _ => ?_)
      · refine touch_app ?_ (Mach.arm_touch ..) rfl rfl
        exact ht0
      · exact ht0
    · extract_lets -underBinder -merge -useContext +onlyGivenNames t1
      have ht1 : m0.touch 0x404b108 0xffff00010000 t1 := by
        unfold t1
        refine touch_app ?_ (Mach.disarm_touch ..) rfl rfl
        exact ht0
      try clear_value t1
      refine touch_ite (fun _ => ?_) (fun _ => ?_)
      · refine touch_ite (fun _ => ?_) (fun _ => ?_)
        · exact ht1
        · refine touch_app ?_ (Mach.arm_touch ..) rfl rfl
          refine touch_app ?_ (Mach.onPort_touch ..) rfl rfl
          exact ht1
      · extract_lets -underBinder -merge -useContext +onlyGivenNames t2
        have ht2 : m0.touch 0x404b108 0xffff00010000 t2 := by
          unfold t2
          refine touch_app ?_ (Mach.onPort_touch ..) rfl rfl
          exact ht1
        try clear_value t2
        refine touch_app ?_ (Mach.stampFrame_touch ..) rfl rfl
        exact ht2

theorem Mach.offer_touch (m0 : Mach) (a1 : ℕ) (a2 : TxFrame) : m0.touch 0x404b108 0xffff00010000 (Mach.offer m0 a1 a2) := by
  unfold Mach.offer
  extract_lets -underBinder -merge -useContext +onlyGivenNames l0
  try clear_value l0
  refine touch_ite (fun _ => ?_) (fun _ => ?_)
  · refine touch_app ?_ (Mach.count_touch (P := 0xffff00010000) _ _ _ _ (within_onPort _ _ rfl (by decide))) rfl rfl
    exact touch_refl _ _ _
  · extract_lets -underBinder -merge -useContext +onlyGivenNames t0
    have ht0 : m0.touch 0x404b108 0xffff00010000 t0 := by
      unfold t0
      refine touch_app ?_ (Mach.showMem_touch ..) rfl rfl
      refine touch_app ?_ (Mach.onPort_touch ..) rfl rfl
      exact touch_refl _ _ _
    try clear_value t0
    refine touch_app ?_ (Mach.kick_touch ..) rfl rfl
    exact ht0

theorem Mach.emitFrame_touch (m0 : Mach) (a1 : ℕ) (a2 : TxFrame) : m0.touch 0x4001000 0x0 (Mach.emitFrame m0 a1 a2) := by
  unfold Mach.emitFrame
  extract_lets -underBinder -merge -useContext +onlyGivenNames l0
  try clear_value l0
  extract_lets -underBinder -merge -useContext +onlyGivenNames l1
  try clear_value l1
  extract_lets -underBinder -merge -useContext +onlyGivenNames l2
  try clear_value l2
  split
  · extract_lets -underBinder -merge -useContext +onlyGivenNames l3
    try clear_value l3
    extract_lets -underBinder -merge -useContext +onlyGivenNames l4
    try clear_value l4
    refine touch_app ?_ (Mach.emit_touch ..) rfl rfl
    refine touch_app ?_ (Mach.onPort_touch ..) rfl rfl
    exact touch_refl _ _ _
  · refine touch_app ?_ (Mach.emit_touch ..) rfl rfl
    exact touch_refl _ _ _

theorem Mach.beginPause_touch (m0 : Mach) (a1 : ℕ) (a2 : ℕ) : m0.touch 0x4000108 0xffff00000000 (Mach.beginPause m0 a1 a2) := by
  unfold Mach.beginPause
  extract_lets -underBinder -merge -useContext +onlyGivenNames t0
  have ht0 : m0.touch 0x4000108 0xffff00000000 t0 := by
    unfold t0
    refine touch_app ?_ (Mach.onPort_touch ..) rfl rfl
    exact touch_refl _ _ _
  try clear_value t0
  refine touch_app ?_ (Mach.arm_touch ..) rfl rfl
  refine touch_app ?_ (Mach.setFlag_touch (P := 0xffff00000000) _ _ _ _ (within_onPort _ _ rfl (by decide))) rfl rfl
  exact ht0

theorem Mach.endPause_touch (m0 : Mach) (a1 : ℕ) : m0.touch 0x4000108 0xffff00000000 (Mach.endPause m0 a1) := by
  unfold Mach.endPause
  extract_lets -underBinder -merge -useContext +onlyGivenNames t0
  have ht0 : m0.touch 0x4000108 0xffff00000000 t0 := by
    unfold t0
    refine touch_app ?_ (Mach.onPort_touch ..) rfl rfl
    exact touch_refl _ _ _
  try clear_value t0
  refine touch_app ?_ (Mach.disarm_touch ..) rfl rfl
  refine touch_app ?_ (Mach.setFlag_touch (P := 0xffff00000000) _ _ _ _ (within_onPort _ _ rfl (by decide))) rfl rfl
  exact ht0

theorem Mach.txDone_touch (m0 : Mach) (a1 : ℕ) : m0.touch 0x404b108 0xffff00010000 (Mach.txDone m0 a1) := by
  unfold Mach.txDone
  split
  · exact touch_refl _ _ _
  · extract_lets -underBinder -merge -useContext +onlyGivenNames l0
    try clear_value l0
    extract_lets -underBinder -merge -useContext +onlyGivenNames t0
    have ht0 : m0.touch 0x404b108 0xffff00010000 t0 := by
      unfold t0
      refine touch_app ?_ (Mach.emitFrame_touch ..) rfl rfl
      exact touch_refl _ _ _
    try clear_value t0
    extract_lets -underBinder -merge -useContext +onlyGivenNames t1
    have ht1 : m0.touch 0x404b108 0xffff00010000 t1 := by
      unfold t1
      refine touch_app ?_ (Mach.count64_touch (P := 0xffff00010000) _ _ _ _ _ (within_onPort _ _ rfl (by decide)) (within_onPort _ _ rfl (by decide))) rfl rfl
      refine touch_app ?_ (Mach.count_touch (P := 0xffff00010000) _ _ _ _ (within_onPort _ _ rfl (by decide))) rfl rfl
      exact ht0
    try clear_value t1
    extract_lets -underBinder -merge -useContext +onlyGivenNames t2
    have ht2 : m0.touch 0x404b108 0xffff00010000 t2 := by
      unfold t2
      refine touch_app ?_ (Mach.showMem_touch ..) rfl rfl
      refine touch_app ?_ (Mach.onPort_touch ..) rfl rfl
      exact ht1
    try clear_value t2
    extract_lets -underBinder -merge -useContext +onlyGivenNames t3
    have ht3 : m0.touch 0x404b108 0xffff00010000 t3 := by
      unfold t3
      split
      · refine touch_app ?_ (Mach.beginPause_touch ..) rfl rfl
        exact ht2
      · exact ht2
    try clear_value t3
    refine touch_app ?_ (Mach.kick_touch ..) rfl rfl
    exact ht3

theorem Mach.showLearnt_touch (m0 : Mach) : m0.touch 0x8 0x20000 (Mach.showLearnt m0) := by
  unfold Mach.showLearnt
  refine touch_app ?_ (Mach.setFld_touch (P := 0x20000) _ _ _ _ rfl) rfl rfl
  exact touch_refl _ _ _

theorem Mach.learn_touch (m0 : Mach) (a1 : ℕ) (a2 : ℕ) (a3 : Mac) : m0.touch 0x10003008 0x20000 (Mach.learn m0 a1 a2 a3) := by
  unfold Mach.learn
  refine touch_ite (fun _ => ?_) (fun _ => ?_)
  · exact touch_refl _ _ _
  · extract_lets -underBinder -merge -useContext +onlyGivenNames l0
    try clear_value l0
    extract_lets -underBinder -merge -useContext +onlyGivenNames l1
    try clear_value l1
    split
    · refine touch_app ?_ (touch_set_swc _ _) rfl rfl
      exact touch_refl _ _ _
    · refine touch_ite (fun _ => ?_) (fun _ => ?_)
      · exact touch_refl _ _ _
      · split
        · extract_lets -underBinder -merge -useContext +onlyGivenNames l1
          try clear_value l1
          refine touch_app ?_ (Mach.showLearnt_touch ..) rfl rfl
          refine touch_app ?_ (Mach.count_touch (P := 0x20000) _ _ _ _ rfl) rfl rfl
          refine touch_app ?_ (touch_set_swc _ _) rfl rfl
          exact touch_refl _ _ _
        · refine touch_app ?_ (Mach.event_touch (P := 0x20000) _ _ _ _ rfl (by decide)) rfl rfl
          refine touch_app ?_ (Mach.count_touch (P := 0x20000) _ _ _ _ (within_nth _ _ rfl)) rfl rfl
          exact touch_refl _ _ _

theorem Mach.drawPubSeq_touch (m0 : Mach) (a1 : ℕ) : m0.touch 0x800000 0x0 (Mach.drawPubSeq m0 a1).2 := by
  unfold Mach.drawPubSeq
  change Mach.touch2 _ _ m0 _
  extract_lets -underBinder -merge -useContext +onlyGivenNames l0
  try clear_value l0
  refine touch_app ?_ (touch_set_pub _ _) rfl rfl
  exact touch_refl _ _ _

theorem Mach.drawWitSeq_touch (m0 : Mach) (a1 : ℕ) : m0.touch 0x1000000 0x0 (Mach.drawWitSeq m0 a1).2 := by
  unfold Mach.drawWitSeq
  change Mach.touch2 _ _ m0 _
  extract_lets -underBinder -merge -useContext +onlyGivenNames l0
  try clear_value l0
  refine touch_app ?_ (touch_set_twn _ _) rfl rfl
  exact touch_refl _ _ _

theorem Mach.drawGenSeq_touch (m0 : Mach) (a1 : ℕ) : m0.touch 0x8000000 0x0 (Mach.drawGenSeq m0 a1).2 := by
  unfold Mach.drawGenSeq
  change Mach.touch2 _ _ m0 _
  extract_lets -underBinder -merge -useContext +onlyGivenNames l0
  try clear_value l0
  refine touch_app ?_ (Mach.onPair_touch ..) rfl rfl
  exact touch_refl _ _ _

theorem Mach.drawSeq_touch (m0 : Mach) (a1 : ℕ) (a2 : Mac) : m0.touch 0x9800000 0x0 (Mach.drawSeq m0 a1 a2).2 := by
  unfold Mach.drawSeq
  change Mach.touch2 _ _ m0 _
  split
  · refine touch_app ?_ (Mach.drawPubSeq_touch ..) rfl rfl
    exact touch_refl _ _ _
  · split
    · refine touch_app ?_ (Mach.drawWitSeq_touch ..) rfl rfl
      exact touch_refl _ _ _
    · refine touch_app ?_ (Mach.drawGenSeq_touch ..) rfl rfl
      exact touch_refl _ _ _

theorem Mach.openDup_touch (m0 : Mach) (a1 : ℕ) (a2 : DupEntry) : m0.touch 0x8003008 0xffff00000000 (Mach.openDup m0 a1 a2) := by
  unfold Mach.openDup
  extract_lets -underBinder -merge -useContext +onlyGivenNames l0
  try clear_value l0
  extract_lets -underBinder -merge -useContext +onlyGivenNames t0
  have ht0 : m0.touch 0x8003008 0xffff00000000 t0 := by
    unfold t0
    refine touch_app ?_ (Mach.onPair_touch ..) rfl rfl
    exact touch_refl _ _ _
  try clear_value t0
  refine touch_ite (fun _ => ?_) (fun _ => ?_)
  · refine touch_app ?_ (Mach.event_touch (P := 0xffff00000000) _ _ _ _ (testBit_macPage rfl _) (macPage_lt _)) rfl rfl
    refine touch_app ?_ (Mach.count_touch (P := 0xffff00000000) _ _ _ _ (within_onPort _ _ rfl (by decide))) rfl rfl
    exact ht0
  · exact ht0

theorem Mach.memDrop_touch (m0 : Mach) (a1 : ℕ) (a2 : ℕ) (a3 : Bool) : m0.touch 0x3008 0x50000 (Mach.memDrop m0 a1 a2 a3) := by
  unfold Mach.memDrop
  extract_lets -underBinder -merge -useContext +onlyGivenNames t0
  have ht0 : m0.touch 0x3008 0x50000 t0 := by
    unfold t0
    refine touch_app ?_ (Mach.event_touch (P := 0x50000) _ _ _ _ rfl (by decide)) rfl rfl
    refine touch_app ?_ (Mach.count_touch (P := 0x50000) _ _ _ _ (within_nth _ _ rfl)) rfl rfl
    refine touch_app ?_ (Mach.count_touch (P := 0x50000) _ _ _ _ rfl) rfl rfl
    exact touch_refl _ _ _
  try clear_value t0
  extract_lets -underBinder -merge -useContext +onlyGivenNames t1
  have ht1 : m0.touch 0x3008 0x50000 t1 := by
    unfold t1
    refine touch_ite (fun _ => ?_) (fun _ => ?_)
    · refine touch_app ?_ (Mach.event_touch (P := 0x50000) _ _ _ _ rfl (by decide)) rfl rfl
      exact ht0
    · exact ht0
  try clear_value t1
  refine touch_ite (fun _ => ?_) (fun _ => ?_)
  · refine touch_app ?_ (Mach.event_touch (P := 0x50000) _ _ _ _ rfl (by decide)) rfl rfl
    exact ht1
  · exact ht1

theorem Mach.enqueue_touch (m0 : Mach) (a1 : ℕ) (a2 : TxFrame) : m0.touch 0x404b108 0xffff00050000 (Mach.enqueue m0 a1 a2) := by
  unfold Mach.enqueue
  refine touch_ite (fun _ => ?_) (fun _ => ?_)
  · refine touch_app ?_ (Mach.offer_touch ..) rfl rfl
    exact touch_refl _ _ _
  · split
    · refine touch_app ?_ (Mach.offer_touch ..) rfl rfl
      exact touch_refl _ _ _
    · refine touch_app ?_ (Mach.memDrop_touch ..) rfl rfl
      exact touch_refl _ _ _

theorem Mach.toPort_touch (m0 : Mach) (a1 : ℕ) (a2 : TxFrame) (a3 : Option (ℕ × ℕ)) : m0.touch 0xd84b108 0xffff00050000 (Mach.toPort m0 a1 a2 a3) := by
  unfold Mach.toPort
  extract_lets -underBinder -merge -useContext +onlyGivenNames l0
  try clear_value l0
  extract_lets -underBinder -merge -useContext +onlyGivenNames l1
  try clear_value l1
  refine touch_ite (fun _ => ?_) (fun _ => ?_)
  · refine touch_app ?_ (Mach.enqueue_touch ..) rfl rfl
    exact touch_refl _ _ _
  · split
    rename_i p0_0 p0_1 p0_2 he3
    have hp0_2 : m0.touch 0xd84b108 0xffff00050000 p0_2 := by
      refine touch_snd he3 ?_
      change Mach.touch2 _ _ m0 _
      split
      · split
        · exact touch_refl _ _ _
        · refine touch_app ?_ (Mach.drawSeq_touch ..) rfl rfl
          exact touch_refl _ _ _
      · refine touch_app ?_ (Mach.drawSeq_touch ..) rfl rfl
        exact touch_refl _ _ _
    extract_lets -underBinder -merge -useContext +onlyGivenNames l2
    extract_lets -underBinder -merge -useContext +onlyGivenNames t0
    have ht0 : m0.touch 0xd84b108 0xffff00050000 t0 := by
      unfold t0
      refine touch_ite (fun _ => ?_) (fun _ => ?_)
      · refine touch_app ?_ (Mach.openDup_touch ..) rfl rfl
        exact hp0_2
      · exact hp0_2
    try clear_value t0
    refine touch_app ?_ (Mach.enqueue_touch ..) rfl rfl
    refine touch_app ?_ (Mach.enqueue_touch ..) rfl rfl
    exact ht0

theorem Mach.toVnic_touch (m0 : Mach) (a1 : ℕ) (a2 : Frame) (a3 : ℕ) : m0.touch 0x200b908 0x30000000000000 (Mach.toVnic m0 a1 a2 a3) := by
  unfold Mach.toVnic
  refine touch_each ?_ (fun y x hx => ?_)
  · exact touch_refl _ _ _
  · refine touch_ite (fun _ => ?_) (fun _ => ?_)
    · refine touch_app ?_ (Mach.vnicRx_touch ..) rfl rfl
      exact hx
    · exact hx

theorem Mach.land_touch (m0 : Mach) (a1 : Passage) (a2 : ℕ) : m0.touch 0xf84b908 0x30ffff00050000 (Mach.land m0 a1 a2) := by
  unfold Mach.land
  extract_lets -underBinder -merge -useContext +onlyGivenNames l0
  try clear_value l0
  refine touch_ite (fun _ => ?_) (fun _ => ?_)
  · refine touch_app ?_ (Mach.toPort_touch ..) rfl rfl
    exact touch_refl _ _ _
  · refine touch_ite (fun _ => ?_) (fun _ => ?_)
    · refine touch_app ?_ (Mach.toVnic_touch ..) rfl rfl
      exact touch_refl _ _ _
    · refine touch_app ?_ (Mach.emit_touch ..) rfl rfl
      exact touch_refl _ _ _

theorem Mach.cross_touch (m0 : Mach) (a1 : List Passage) : m0.touch 0x1f84b908 0x30ffff00050000 (Mach.cross m0 a1) := by
  unfold Mach.cross
  split
  refine touch_each ?_ (fun y x hx => ?_)
  · refine touch_app ?_ (Mach.onSwc_touch ..) rfl rfl
    exact touch_refl _ _ _
  · refine touch_app ?_ (Mach.land_touch ..) rfl rfl
    exact hx

theorem Mach.forward_touch (m0 : Mach) (a1 : Ingress) (a2 : List ℕ) (a3 : ℕ) : m0.touch 0x1f84b908 0x30ffff00050000 (Mach.forward m0 a1 a2 a3) := by
  unfold Mach.forward
  extract_lets -underBinder -merge -useContext +onlyGivenNames l0
  try clear_value l0
  refine touch_ite (fun _ => ?_) (fun _ => ?_)
  · refine touch_app ?_ (Mach.onSwc_touch ..) rfl rfl
    exact touch_refl _ _ _
  · refine touch_app ?_ (Mach.cross_touch ..) rfl rfl
    exact touch_refl _ _ _

theorem Mach.startMode_touch (m0 : Mach) (a1 : ℕ) : m0.touch 0x1f84b908 0x30ffff00050000 (Mach.startMode m0 a1) := by
  unfold Mach.startMode
  extract_lets -underBinder -merge -useContext +onlyGivenNames l0
  try clear_value l0
  refine touch_app ?_ (Mach.cross_touch ..) rfl rfl
  refine touch_app ?_ (Mach.onSwc_touch ..) rfl rfl
  refine touch_app ?_ (Mach.setFld_touch (P := 0x30ffff00050000) _ _ _ _ rfl) rfl rfl
  exact touch_refl _ _ _

theorem Mach.inject_touch (m0 : Mach) (a1 : Ingress) : m0.touch 0x1f84b908 0x30ffff00070000 (Mach.inject m0 a1) := by
  unfold Mach.inject
  split
  extract_lets -underBinder -merge -useContext +onlyGivenNames t0
  have ht0 : m0.touch 0x1f84b908 0x30ffff00070000 t0 := by
    unfold t0
    refine touch_app ?_ (Mach.learn_touch ..) rfl rfl
    exact touch_refl _ _ _
  try clear_value t0
  extract_lets -underBinder -merge -useContext +onlyGivenNames t1
  have ht1 : m0.touch 0x1f84b908 0x30ffff00070000 t1 := by
    unfold t1
    refine touch_ite (fun _ => ?_) (fun _ => ?_)
    · refine touch_app ?_ (Mach.count_touch (P := 0x30ffff00070000) _ _ _ _ (within_nth _ _ rfl)) rfl rfl
      exact ht0
    · refine touch_ite (fun _ => ?_) (fun _ => ?_)
      · refine touch_app ?_ (Mach.count_touch (P := 0x30ffff00070000) _ _ _ _ (within_nth _ _ rfl)) rfl rfl
        exact ht0
      · exact ht0
  try clear_value t1
  refine touch_app ?_ (Mach.forward_touch ..) rfl rfl
  exact ht1

theorem Mach.injectBad_touch (m0 : Mach) (a1 : Ingress) : m0.touch 0x1f84b908 0x30ffff00050000 (Mach.injectBad m0 a1) := by
  unfold Mach.injectBad
  split
  refine touch_ite (fun _ => ?_) (fun _ => ?_)
  · refine touch_app ?_ (Mach.event_touch (P := 0x30ffff00050000) _ _ _ _ rfl (by decide)) rfl rfl
    refine touch_app ?_ (Mach.count_touch (P := 0x30ffff00050000) _ _ _ _ rfl) rfl rfl
    refine touch_app ?_ (Mach.forward_touch ..) rfl rfl
    exact touch_refl _ _ _
  · refine touch_app ?_ (Mach.event_touch (P := 0x30ffff00050000) _ _ _ _ rfl (by decide)) rfl rfl
    refine touch_app ?_ (Mach.count_touch (P := 0x30ffff00050000) _ _ _ _ (within_nth _ _ rfl)) rfl rfl
    exact touch_refl _ _ _

end Sys2Proof.Machine
end

