-- ==== Sys2Proof/Laws/Frame/Mac.lean ====
section
/-! SUPPORT. The frame of each operation of Mac.lean: the parts of the module it can change. -/

namespace Sys2Proof.Machine

theorem Mach.sendLldp_touch (m0 : Mach) (a1 : ℕ) : m0.touch 0x404b108 0xffff00010000 (Mach.sendLldp m0 a1) := by
  unfold Mach.sendLldp
  extract_lets -underBinder -merge -useContext +onlyGivenNames l0
  try clear_value l0
  extract_lets -underBinder -merge -useContext +onlyGivenNames t0
  have ht0 : m0.touch 0x404b108 0xffff00010000 t0 := by
    unfold t0
    refine touch_app ?_ (Mach.offer_touch ..) rfl rfl
    exact touch_refl _ _ _
  try clear_value t0
  refine touch_app ?_ (Mach.arm_touch ..) rfl rfl
  exact ht0

theorem Mach.resolveTw_touch (m0 : Mach) (a1 : ℕ) : m0.touch 0x404b108 0xffff00010000 (Mach.resolveTw m0 a1) := by
  unfold Mach.resolveTw
  extract_lets -underBinder -merge -useContext +onlyGivenNames l0
  try clear_value l0
  refine touch_ite (fun _ => ?_) (fun _ => ?_)
  · exact touch_refl _ _ _
  · refine touch_app ?_ (Mach.sendLldp_touch ..) rfl rfl
    refine touch_app ?_ (Mach.event_touch (P := 0xffff00010000) _ _ _ _ (testBit_macPage rfl _) (macPage_lt _)) rfl rfl
    refine touch_app ?_ (Mach.setFld_touch (P := 0xffff00010000) _ _ _ _ (within_onPort _ _ rfl (by decide))) rfl rfl
    exact touch_refl _ _ _

theorem Mach.lldpRx_touch (m0 : Mach) (a1 : ℕ) (a2 : Option (BitVec 16)) (a3 : ℕ) : m0.touch 0x404b108 0xffff00010000 (Mach.lldpRx m0 a1 a2 a3) := by
  unfold Mach.lldpRx
  split
  · exact touch_refl _ _ _
  · extract_lets -underBinder -merge -useContext +onlyGivenNames t0
    have ht0 : m0.touch 0x404b108 0xffff00010000 t0 := by
      unfold t0
      refine touch_app ?_ (Mach.onPort_touch ..) rfl rfl
      exact touch_refl _ _ _
    try clear_value t0
    refine touch_app ?_ (Mach.resolveTw_touch ..) rfl rfl
    refine touch_app ?_ (Mach.arm_touch ..) rfl rfl
    refine touch_app ?_ (Mach.setFlag_touch (P := 0xffff00010000) _ _ _ _ (within_onPort _ _ rfl (by decide))) rfl rfl
    exact ht0

theorem Mach.flushPort_touch (m0 : Mach) (a1 : ℕ) : m0.touch 0x4003008 0xffff00010000 (Mach.flushPort m0 a1) := by
  unfold Mach.flushPort
  extract_lets -underBinder -merge -useContext +onlyGivenNames l0
  try clear_value l0
  refine touch_app ?_ (Mach.event_touch (P := 0xffff00010000) _ _ _ _ (testBit_macPage rfl _) (macPage_lt _)) rfl rfl
  refine touch_app ?_ (Mach.showMem_touch ..) rfl rfl
  refine touch_app ?_ (Mach.count_touch (P := 0xffff00010000) _ _ _ _ (within_onPort _ _ rfl (by decide))) rfl rfl
  refine touch_app ?_ (Mach.onPort_touch ..) rfl rfl
  exact touch_refl _ _ _

theorem Mach.stopPort_touch (m0 : Mach) (a1 : ℕ) : m0.touch 0x4000108 0xffff00000000 (Mach.stopPort m0 a1) := by
  unfold Mach.stopPort
  extract_lets -underBinder -merge -useContext +onlyGivenNames t0
  have ht0 : m0.touch 0x4000108 0xffff00000000 t0 := by
    unfold t0
    refine touch_ite (fun _ => ?_) (fun _ => ?_)
    · refine touch_app ?_ (Mach.count_touch (P := 0xffff00000000) _ _ _ _ (within_onPort _ _ rfl (by decide))) rfl rfl
      refine touch_app ?_ (Mach.onPort_touch ..) rfl rfl
      exact touch_refl _ _ _
    · exact touch_refl _ _ _
  try clear_value t0
  extract_lets -underBinder -merge -useContext +onlyGivenNames t1
  have ht1 : m0.touch 0x4000108 0xffff00000000 t1 := by
    unfold t1
    refine touch_app ?_ (Mach.disarm_touch ..) rfl rfl
    refine touch_app ?_ (Mach.disarm_touch ..) rfl rfl
    refine touch_app ?_ (Mach.endPause_touch ..) rfl rfl
    exact ht0
  try clear_value t1
  refine touch_app ?_ (Mach.onPort_touch ..) rfl rfl
  refine touch_app ?_ (Mach.setFlag_touch (P := 0xffff00000000) _ _ _ _ (within_onPort _ _ rfl (by decide))) rfl rfl
  exact ht1

theorem Mach.leaveUp_touch (m0 : Mach) (a1 : ℕ) : m0.touch 0x4003108 0xffff00010000 (Mach.leaveUp m0 a1) := by
  unfold Mach.leaveUp
  extract_lets -underBinder -merge -useContext +onlyGivenNames t0
  have ht0 : m0.touch 0x4003108 0xffff00010000 t0 := by
    unfold t0
    refine touch_app ?_ (Mach.event_touch (P := 0xffff00010000) _ _ _ _ (testBit_macPage rfl _) (macPage_lt _)) rfl rfl
    refine touch_app ?_ (Mach.count_touch (P := 0xffff00010000) _ _ _ _ (within_onPort _ _ rfl (by decide))) rfl rfl
    refine touch_app ?_ (Mach.stopPort_touch ..) rfl rfl
    exact touch_refl _ _ _
  try clear_value t0
  extract_lets -underBinder -merge -useContext +onlyGivenNames l0
  try clear_value l0
  refine touch_ite (fun _ => ?_) (fun _ => ?_)
  · refine touch_app ?_ (Mach.flushPort_touch ..) rfl rfl
    refine touch_app ?_ (Mach.setFld_touch (P := 0xffff00010000) _ _ _ _ (within_onPort _ _ rfl (by decide))) rfl rfl
    exact ht0
  · refine touch_app ?_ (Mach.arm_touch ..) rfl rfl
    refine touch_app ?_ (Mach.setFld_touch (P := 0xffff00010000) _ _ _ _ (within_onPort _ _ rfl (by decide))) rfl rfl
    exact ht0

theorem Mach.enterUp_touch (m0 : Mach) (a1 : ℕ) : m0.touch 0x404b108 0xffff00010000 (Mach.enterUp m0 a1) := by
  unfold Mach.enterUp
  extract_lets -underBinder -merge -useContext +onlyGivenNames t0
  have ht0 : m0.touch 0x404b108 0xffff00010000 t0 := by
    unfold t0
    refine touch_app ?_ (Mach.setFld_touch (P := 0xffff00010000) _ _ _ _ (within_onPort _ _ rfl (by decide))) rfl rfl
    refine touch_app ?_ (Mach.setFld_touch (P := 0xffff00010000) _ _ _ _ (within_onPort _ _ rfl (by decide))) rfl rfl
    exact touch_refl _ _ _
  try clear_value t0
  extract_lets -underBinder -merge -useContext +onlyGivenNames t1
  have ht1 : m0.touch 0x404b108 0xffff00010000 t1 := by
    unfold t1
    refine touch_app ?_ (Mach.event_touch (P := 0xffff00010000) _ _ _ _ (testBit_macPage rfl _) (macPage_lt _)) rfl rfl
    refine touch_app ?_ (Mach.disarm_touch ..) rfl rfl
    exact ht0
  try clear_value t1
  extract_lets -underBinder -merge -useContext +onlyGivenNames t2
  have ht2 : m0.touch 0x404b108 0xffff00010000 t2 := by
    unfold t2
    refine touch_ite (fun _ => ?_) (fun _ => ?_)
    · refine touch_app ?_ (Mach.sendLldp_touch ..) rfl rfl
      exact ht1
    · exact ht1
  try clear_value t2
  refine touch_app ?_ (Mach.kick_touch ..) rfl rfl
  exact ht2

theorem Mach.debounceLink_touch (m0 : Mach) (a1 : ℕ) : m0.touch 0x100 0x0 (Mach.debounceLink m0 a1) := by
  unfold Mach.debounceLink
  extract_lets -underBinder -merge -useContext +onlyGivenNames l0
  try clear_value l0
  split
  · exact touch_refl _ _ _
  · refine touch_ite (fun _ => ?_) (fun _ => ?_)
    · refine touch_app ?_ (Mach.disarm_touch ..) rfl rfl
      exact touch_refl _ _ _
    · refine touch_ite (fun _ => ?_) (fun _ => ?_)
      · exact touch_refl _ _ _
      · refine touch_app ?_ (Mach.arm_touch ..) rfl rfl
        exact touch_refl _ _ _
  · refine touch_ite (fun _ => ?_) (fun _ => ?_)
    · refine touch_app ?_ (Mach.disarm_touch ..) rfl rfl
      exact touch_refl _ _ _
    · refine touch_ite (fun _ => ?_) (fun _ => ?_)
      · exact touch_refl _ _ _
      · refine touch_app ?_ (Mach.arm_touch ..) rfl rfl
        exact touch_refl _ _ _

theorem Mach.lockChange_touch (m0 : Mach) (a1 : ℕ) (a2 : Bool) (a3 : Bool) (a4 : Bool) : m0.touch 0x4000108 0xffff00000000 (Mach.lockChange m0 a1 a2 a3 a4) := by
  unfold Mach.lockChange
  extract_lets -underBinder -merge -useContext +onlyGivenNames t0
  have ht0 : m0.touch 0x4000108 0xffff00000000 t0 := by
    unfold t0
    refine touch_app ?_ (Mach.onPort_touch ..) rfl rfl
    refine touch_app ?_ (Mach.setFlag_touch (P := 0xffff00000000) _ _ _ _ (within_onPort _ _ rfl (by decide))) rfl rfl
    exact touch_refl _ _ _
  try clear_value t0
  refine touch_app ?_ (Mach.debounceLink_touch ..) rfl rfl
  exact ht0

theorem Mach.macEnable_touch (m0 : Mach) (a1 : ℕ) (a2 : Bool) : m0.touch 0x4003108 0xffff00010000 (Mach.macEnable m0 a1 a2) := by
  unfold Mach.macEnable
  refine touch_ite (fun _ => ?_) (fun _ => ?_)
  · refine touch_ite (fun _ => ?_) (fun _ => ?_)
    · refine touch_app ?_ (Mach.debounceLink_touch ..) rfl rfl
      refine touch_app ?_ (Mach.setFld_touch (P := 0xffff00010000) _ _ _ _ (within_onPort _ _ rfl (by decide))) rfl rfl
      exact touch_refl _ _ _
    · exact touch_refl _ _ _
  · extract_lets -underBinder -merge -useContext +onlyGivenNames t0
    have ht0 : m0.touch 0x4003108 0xffff00010000 t0 := by
      unfold t0
      refine touch_app ?_ (Mach.disarm_touch ..) rfl rfl
      refine touch_app ?_ (Mach.disarm_touch ..) rfl rfl
      refine touch_app ?_ (Mach.stopPort_touch ..) rfl rfl
      exact touch_refl _ _ _
    try clear_value t0
    extract_lets -underBinder -merge -useContext +onlyGivenNames t1
    have ht1 : m0.touch 0x4003108 0xffff00010000 t1 := by
      unfold t1
      refine touch_ite (fun _ => ?_) (fun _ => ?_)
      · exact ht0
      · refine touch_app ?_ (Mach.flushPort_touch ..) rfl rfl
        exact ht0
    try clear_value t1
    refine touch_app ?_ (Mach.setFld_touch (P := 0xffff00010000) _ _ _ _ (within_onPort _ _ rfl (by decide))) rfl rfl
    refine touch_app ?_ (Mach.disarm_touch ..) rfl rfl
    exact ht1

theorem Mach.speedChange_touch (m0 : Mach) (a1 : ℕ) : m0.touch 0x4003108 0xffff00010000 (Mach.speedChange m0 a1) := by
  unfold Mach.speedChange
  refine touch_ite (fun _ => ?_) (fun _ => ?_)
  · exact touch_refl _ _ _
  · extract_lets -underBinder -merge -useContext +onlyGivenNames t0
    have ht0 : m0.touch 0x4003108 0xffff00010000 t0 := by
      unfold t0
      refine touch_ite (fun _ => ?_) (fun _ => ?_)
      · refine touch_app ?_ (Mach.event_touch (P := 0xffff00010000) _ _ _ _ (testBit_macPage rfl _) (macPage_lt _)) rfl rfl
        refine touch_app ?_ (Mach.count_touch (P := 0xffff00010000) _ _ _ _ (within_onPort _ _ rfl (by decide))) rfl rfl
        refine touch_app ?_ (Mach.stopPort_touch ..) rfl rfl
        exact touch_refl _ _ _
      · exact touch_refl _ _ _
    try clear_value t0
    extract_lets -underBinder -merge -useContext +onlyGivenNames t1
    have ht1 : m0.touch 0x4003108 0xffff00010000 t1 := by
      unfold t1
      refine touch_app ?_ (Mach.disarm_touch ..) rfl rfl
      refine touch_app ?_ (Mach.disarm_touch ..) rfl rfl
      refine touch_app ?_ (Mach.disarm_touch ..) rfl rfl
      exact ht0
    try clear_value t1
    refine touch_app ?_ (Mach.debounceLink_touch ..) rfl rfl
    refine touch_app ?_ (Mach.flushPort_touch ..) rfl rfl
    refine touch_app ?_ (Mach.setFld_touch (P := 0xffff00010000) _ _ _ _ (within_onPort _ _ rfl (by decide))) rfl rfl
    exact ht1

theorem Mach.eeeChange_touch (m0 : Mach) (a1 : ℕ) : m0.touch 0x404b108 0xffff00010000 (Mach.eeeChange m0 a1) := by
  unfold Mach.eeeChange
  refine touch_ite (fun _ => ?_) (fun _ => ?_)
  · extract_lets -underBinder -merge -useContext +onlyGivenNames t0
    have ht0 : m0.touch 0x404b108 0xffff00010000 t0 := by
      unfold t0
      refine touch_app ?_ (Mach.resolveTw_touch ..) rfl rfl
      exact touch_refl _ _ _
    try clear_value t0
    refine touch_app ?_ (Mach.kick_touch ..) rfl rfl
    refine touch_ite (fun _ => ?_) (fun _ => ?_)
    · exact ht0
    · refine touch_app ?_ (Mach.sendLldp_touch ..) rfl rfl
      exact ht0
  · extract_lets -underBinder -merge -useContext +onlyGivenNames t0
    have ht0 : m0.touch 0x404b108 0xffff00010000 t0 := by
      unfold t0
      refine touch_app ?_ (Mach.disarm_touch ..) rfl rfl
      refine touch_app ?_ (Mach.disarm_touch ..) rfl rfl
      refine touch_app ?_ (Mach.disarm_touch ..) rfl rfl
      refine touch_app ?_ (Mach.disarm_touch ..) rfl rfl
      exact touch_refl _ _ _
    try clear_value t0
    extract_lets -underBinder -merge -useContext +onlyGivenNames t1
    have ht1 : m0.touch 0x404b108 0xffff00010000 t1 := by
      unfold t1
      refine touch_app ?_ (Mach.setFlag_touch (P := 0xffff00010000) _ _ _ _ (within_onPort _ _ rfl (by decide))) rfl rfl
      refine touch_app ?_ (Mach.setFlag_touch (P := 0xffff00010000) _ _ _ _ (within_onPort _ _ rfl (by decide))) rfl rfl
      exact ht0
    try clear_value t1
    refine touch_app ?_ (Mach.kick_touch ..) rfl rfl
    refine touch_app ?_ (Mach.onPort_touch ..) rfl rfl
    exact ht1

theorem Mach.controlRx_touch (m0 : Mach) (a1 : ℕ) (a2 : Frame) : m0.touch 0x404b108 0xffff00010000 (Mach.controlRx m0 a1 a2) := by
  unfold Mach.controlRx
  split
  · extract_lets -underBinder -merge -useContext +onlyGivenNames l0
    try clear_value l0
    refine touch_ite (fun _ => ?_) (fun _ => ?_)
    · refine touch_ite (fun _ => ?_) (fun _ => ?_)
      · refine touch_app ?_ (Mach.event_touch (P := 0xffff00010000) _ _ _ _ (testBit_macPage rfl _) (macPage_lt _)) rfl rfl
        refine touch_app ?_ (Mach.count_touch (P := 0xffff00010000) _ _ _ _ (within_onPort _ _ rfl (by decide))) rfl rfl
        exact touch_refl _ _ _
      · extract_lets -underBinder -merge -useContext +onlyGivenNames t0
        have ht0 : m0.touch 0x404b108 0xffff00010000 t0 := by
          unfold t0
          refine touch_app ?_ (Mach.event_touch (P := 0xffff00010000) _ _ _ _ (testBit_macPage rfl _) (macPage_lt _)) rfl rfl
          refine touch_app ?_ (Mach.count_touch (P := 0xffff00010000) _ _ _ _ (within_onPort _ _ rfl (by decide))) rfl rfl
          exact touch_refl _ _ _
        try clear_value t0
        refine touch_ite (fun _ => ?_) (fun _ => ?_)
        · refine touch_app ?_ (Mach.kick_touch ..) rfl rfl
          refine touch_app ?_ (Mach.endPause_touch ..) rfl rfl
          exact ht0
        · refine touch_ite (fun _ => ?_) (fun _ => ?_)
          · exact ht0
          · refine touch_ite (fun _ => ?_) (fun _ => ?_)
            · refine touch_app ?_ (Mach.onPort_touch ..) rfl rfl
              exact ht0
            · refine touch_app ?_ (Mach.beginPause_touch ..) rfl rfl
              exact ht0
    · refine touch_app ?_ (Mach.count_touch (P := 0xffff00010000) _ _ _ _ (within_onPort _ _ rfl (by decide))) rfl rfl
      exact touch_refl _ _ _
  · refine touch_app ?_ (Mach.count_touch (P := 0xffff00010000) _ _ _ _ (within_onPort _ _ rfl (by decide))) rfl rfl
    exact touch_refl _ _ _

theorem Mach.closeDup_touch (m0 : Mach) (a1 : ℕ) (a2 : Mac) (a3 : ℕ) : m0.touch 0x8000000 0x0 (Mach.closeDup m0 a1 a2 a3) := by
  unfold Mach.closeDup
  refine touch_app ?_ (Mach.onPair_touch ..) rfl rfl
  exact touch_refl _ _ _

theorem Mach.handOver_touch (m0 : Mach) (a1 : ℕ) (a2 : Frame) (a3 : ℕ) (a4 : ℕ) (a5 : Bool) : m0.touch 0x1f84b908 0x30ffff00070000 (Mach.handOver m0 a1 a2 a3 a4 a5) := by
  unfold Mach.handOver
  extract_lets -underBinder -merge -useContext +onlyGivenNames l0
  try clear_value l0
  refine touch_ite (fun _ => ?_) (fun _ => ?_)
  · refine touch_app ?_ (Mach.injectBad_touch ..) rfl rfl
    exact touch_refl _ _ _
  · refine touch_app ?_ (Mach.inject_touch ..) rfl rfl
    refine touch_app ?_ (Mach.count_touch (P := 0x30ffff00070000) _ _ _ _ (within_onPort _ _ rfl (by decide))) rfl rfl
    exact touch_refl _ _ _

theorem Mach.prpRx_touch (m0 : Mach) (a1 : ℕ) (a2 : Frame) (a3 : ℕ) (a4 : ℕ) (a5 : Bool) : m0.touch 0x1f84b908 0x30ffff00070000 (Mach.prpRx m0 a1 a2 a3 a4 a5) := by
  unfold Mach.prpRx
  extract_lets -underBinder -merge -useContext +onlyGivenNames l0
  try clear_value l0
  refine touch_ite (fun _ => ?_) (fun _ => ?_)
  · refine touch_ite (fun _ => ?_) (fun _ => ?_)
    · exact touch_refl _ _ _
    · refine touch_app ?_ (Mach.count_touch (P := 0x30ffff00070000) _ _ _ _ (within_onPort _ _ rfl (by decide))) rfl rfl
      exact touch_refl _ _ _
  · split
    · extract_lets -underBinder -merge -useContext +onlyGivenNames t0
      have ht0 : m0.touch 0x1f84b908 0x30ffff00070000 t0 := by
        unfold t0
        refine touch_ite (fun _ => ?_) (fun _ => ?_)
        · refine touch_app ?_ (Mach.event_touch (P := 0x30ffff00070000) _ _ _ _ (testBit_macPage rfl _) (macPage_lt _)) rfl rfl
          refine touch_app ?_ (Mach.count_touch (P := 0x30ffff00070000) _ _ _ _ (within_onPort _ _ rfl (by decide))) rfl rfl
          exact touch_refl _ _ _
        · exact touch_refl _ _ _
      try clear_value t0
      refine touch_ite (fun _ => ?_) (fun _ => ?_)
      · refine touch_app ?_ (Mach.count_touch (P := 0x30ffff00070000) _ _ _ _ (within_onPort _ _ rfl (by decide))) rfl rfl
        refine touch_app ?_ (Mach.closeDup_touch ..) rfl rfl
        exact ht0
      · extract_lets -underBinder -merge -useContext +onlyGivenNames t1
        have ht1 : m0.touch 0x1f84b908 0x30ffff00070000 t1 := by
          unfold t1
          refine touch_ite (fun _ => ?_) (fun _ => ?_)
          · exact ht0
          · refine touch_app ?_ (Mach.openDup_touch ..) rfl rfl
            exact ht0
        try clear_value t1
        refine touch_app ?_ (Mach.handOver_touch ..) rfl rfl
        exact ht1
    · refine touch_app ?_ (Mach.handOver_touch ..) rfl rfl
      refine touch_app ?_ (Mach.count_touch (P := 0x30ffff00070000) _ _ _ _ (within_onPort _ _ rfl (by decide))) rfl rfl
      exact touch_refl _ _ _

theorem Mach.hsrRx_touch (m0 : Mach) (a1 : ℕ) (a2 : Frame) (a3 : ℕ) (a4 : ℕ) (a5 : Bool) : m0.touch 0x1f84b908 0x30ffff00070000 (Mach.hsrRx m0 a1 a2 a3 a4 a5) := by
  unfold Mach.hsrRx
  extract_lets -underBinder -merge -useContext +onlyGivenNames l0
  try clear_value l0
  extract_lets -underBinder -merge -useContext +onlyGivenNames l1
  try clear_value l1
  split
  · extract_lets -underBinder -merge -useContext +onlyGivenNames t0
    have ht0 : m0.touch 0x1f84b908 0x30ffff00070000 t0 := by
      unfold t0
      refine touch_ite (fun _ => ?_) (fun _ => ?_)
      · refine touch_app ?_ (Mach.count_touch (P := 0x30ffff00070000) _ _ _ _ (within_onPort _ _ rfl (by decide))) rfl rfl
        exact touch_refl _ _ _
      · exact touch_refl _ _ _
    try clear_value t0
    extract_lets -underBinder -merge -useContext +onlyGivenNames l2
    try clear_value l2
    split
    · refine touch_app ?_ (Mach.count_touch (P := 0x30ffff00070000) _ _ _ _ (within_onPort _ _ rfl (by split <;> decide))) rfl rfl
      exact ht0
    · extract_lets -underBinder -merge -useContext +onlyGivenNames l2
      try clear_value l2
      extract_lets -underBinder -merge -useContext +onlyGivenNames t1
      have ht1 : m0.touch 0x1f84b908 0x30ffff00070000 t1 := by
        unfold t1
        refine touch_ite (fun _ => ?_) (fun _ => ?_)
        · exact ht0
        · refine touch_app ?_ (Mach.openDup_touch ..) rfl rfl
          refine touch_app ?_ (Mach.closeDup_touch ..) rfl rfl
          exact ht0
      try clear_value t1
      extract_lets -underBinder -merge -useContext +onlyGivenNames t2
      have ht2 : m0.touch 0x1f84b908 0x30ffff00070000 t2 := by
        unfold t2
        refine touch_ite (fun _ => ?_) (fun _ => ?_)
        · refine touch_app ?_ (Mach.enqueue_touch ..) rfl rfl
          exact ht1
        · exact ht1
      try clear_value t2
      refine touch_ite (fun _ => ?_) (fun _ => ?_)
      · refine touch_app ?_ (Mach.handOver_touch ..) rfl rfl
        exact ht2
      · exact ht2
  · refine touch_app ?_ (Mach.event_touch (P := 0x30ffff00070000) _ _ _ _ (testBit_macPage rfl _) (macPage_lt _)) rfl rfl
    refine touch_app ?_ (Mach.count_touch (P := 0x30ffff00070000) _ _ _ _ (within_onPort _ _ rfl (by decide))) rfl rfl
    exact touch_refl _ _ _

theorem Mach.frameRx_touch (m0 : Mach) (a1 : ℕ) (a2 : Frame) : m0.touch 0x1f84b908 0xb0ffff00070000 (Mach.frameRx m0 a1 a2) := by
  unfold Mach.frameRx
  refine touch_ite (fun _ => ?_) (fun _ => ?_)
  · exact touch_refl _ _ _
  · extract_lets -underBinder -merge -useContext +onlyGivenNames t0
    have ht0 : m0.touch 0x1f84b908 0xb0ffff00070000 t0 := by
      unfold t0
      refine touch_app ?_ (Mach.count64_touch (P := 0xb0ffff00070000) _ _ _ _ _ (within_onPort _ _ rfl (by decide)) (within_onPort _ _ rfl (by decide))) rfl rfl
      exact touch_refl _ _ _
    try clear_value t0
    refine touch_ite (fun _ => ?_) (fun _ => ?_)
    · refine touch_app ?_ (Mach.event_touch (P := 0xb0ffff00070000) _ _ _ _ rfl (by decide)) rfl rfl
      refine touch_app ?_ (Mach.event_touch (P := 0xb0ffff00070000) _ _ _ _ (testBit_macPage rfl _) (macPage_lt _)) rfl rfl
      refine touch_app ?_ (Mach.count_touch (P := 0xb0ffff00070000) _ _ _ _ (within_onPort _ _ rfl (by decide))) rfl rfl
      exact ht0
    · extract_lets -underBinder -merge -useContext +onlyGivenNames t1
      have ht1 : m0.touch 0x1f84b908 0xb0ffff00070000 t1 := by
        unfold t1
        refine touch_app ?_ (Mach.sendBeats_touch ..) rfl rfl
        exact ht0
      try clear_value t1
      extract_lets -underBinder -merge -useContext +onlyGivenNames l0
      try clear_value l0
      extract_lets -underBinder -merge -useContext +onlyGivenNames l1
      try clear_value l1
      extract_lets -underBinder -merge -useContext +onlyGivenNames l2
      try clear_value l2
      extract_lets -underBinder -merge -useContext +onlyGivenNames l3
      try clear_value l3
      extract_lets -underBinder -merge -useContext +onlyGivenNames t2
      have ht2 : m0.touch 0x1f84b908 0xb0ffff00070000 t2 := by
        unfold t2
        refine touch_ite (fun _ => ?_) (fun _ => ?_)
        · refine touch_app ?_ (Mach.count_touch (P := 0xb0ffff00070000) _ _ _ _ (within_onPort _ _ rfl (by decide))) rfl rfl
          exact ht1
        · exact ht1
      try clear_value t2
      refine touch_ite (fun _ => ?_) (fun _ => ?_)
      · refine touch_app ?_ (Mach.event_touch (P := 0xb0ffff00070000) _ _ _ _ (testBit_macPage rfl _) (macPage_lt _)) rfl rfl
        refine touch_app ?_ (Mach.count_touch (P := 0xb0ffff00070000) _ _ _ _ (within_onPort _ _ rfl (by decide))) rfl rfl
        exact ht2
      · extract_lets -underBinder -merge -useContext +onlyGivenNames l4
        try clear_value l4
        extract_lets -underBinder -merge -useContext +onlyGivenNames t3
        have ht3 : m0.touch 0x1f84b908 0xb0ffff00070000 t3 := by
          unfold t3
          refine touch_ite (fun _ => ?_) (fun _ => ?_)
          · refine touch_app ?_ (Mach.event_touch (P := 0xb0ffff00070000) _ _ _ _ (testBit_macPage rfl _) (macPage_lt _)) rfl rfl
            refine touch_app ?_ (Mach.count_touch (P := 0xb0ffff00070000) _ _ _ _ (within_onPort _ _ rfl (by decide))) rfl rfl
            exact ht2
          · exact ht2
        try clear_value t3
        extract_lets -underBinder -merge -useContext +onlyGivenNames l5
        try clear_value l5
        extract_lets -underBinder -merge -useContext +onlyGivenNames t4
        have ht4 : m0.touch 0x1f84b908 0xb0ffff00070000 t4 := by
          unfold t4
          refine touch_ite (fun _ => ?_) (fun _ => ?_)
          · refine touch_app ?_ (Mach.event_touch (P := 0xb0ffff00070000) _ _ _ _ (testBit_macPage rfl _) (macPage_lt _)) rfl rfl
            refine touch_app ?_ (Mach.count_touch (P := 0xb0ffff00070000) _ _ _ _ (within_onPort _ _ rfl (by split <;> decide))) rfl rfl
            exact ht3
          · exact ht3
        try clear_value t4
        extract_lets -underBinder -merge -useContext +onlyGivenNames l6
        try clear_value l6
        extract_lets -underBinder -merge -useContext +onlyGivenNames t5
        have ht5 : m0.touch 0x1f84b908 0xb0ffff00070000 t5 := by
          unfold t5
          refine touch_ite (fun _ => ?_) (fun _ => ?_)
          · refine touch_app ?_ (Mach.onPort_touch ..) rfl rfl
            exact ht4
          · exact ht4
        try clear_value t5
        refine touch_ite (fun _ => ?_) (fun _ => ?_)
        · refine touch_ite (fun _ => ?_) (fun _ => ?_)
          · exact ht5
          · refine touch_app ?_ (Mach.controlRx_touch ..) rfl rfl
            exact ht5
        · refine touch_ite (fun _ => ?_) (fun _ => ?_)
          · refine touch_ite (fun _ => ?_) (fun _ => ?_)
            · exact ht5
            · split
              · refine touch_app ?_ (Mach.emit_touch ..) rfl rfl
                exact ht5
              · refine touch_ite (fun _ => ?_) (fun _ => ?_)
                · refine touch_app ?_ (Mach.lldpRx_touch ..) rfl rfl
                  exact ht5
                · refine touch_app ?_ (Mach.count_touch (P := 0xb0ffff00070000) _ _ _ _ (within_onPort _ _ rfl (by decide))) rfl rfl
                  exact ht5
              · refine touch_app ?_ (Mach.count_touch (P := 0xb0ffff00070000) _ _ _ _ (within_onPort _ _ rfl (by decide))) rfl rfl
                exact ht5
          · refine touch_ite (fun _ => ?_) (fun _ => ?_)
            · refine touch_ite (fun _ => ?_) (fun _ => ?_)
              · exact ht5
              · refine touch_app ?_ (Mach.count_touch (P := 0xb0ffff00070000) _ _ _ _ (within_onPort _ _ rfl (by decide))) rfl rfl
                exact ht5
            · split
              · refine touch_ite (fun _ => ?_) (fun _ => ?_)
                · exact ht5
                · refine touch_app ?_ (Mach.count_touch (P := 0xb0ffff00070000) _ _ _ _ (within_onPort _ _ rfl (by decide))) rfl rfl
                  exact ht5
              · refine touch_ite (fun _ => ?_) (fun _ => ?_)
                · refine touch_ite (fun _ => ?_) (fun _ => ?_)
                  · exact ht5
                  · refine touch_app ?_ (Mach.count_touch (P := 0xb0ffff00070000) _ _ _ _ (within_onPort _ _ rfl (by decide))) rfl rfl
                    exact ht5
                · split
                  · refine touch_app ?_ (Mach.handOver_touch ..) rfl rfl
                    exact ht5
                  · refine touch_app ?_ (Mach.prpRx_touch ..) rfl rfl
                    exact ht5
                  · refine touch_app ?_ (Mach.hsrRx_touch ..) rfl rfl
                    exact ht5

theorem Mach.sendSupervision_touch (m0 : Mach) (a1 : ℕ) : m0.touch 0xd84b108 0xffff00050000 (Mach.sendSupervision m0 a1) := by
  unfold Mach.sendSupervision
  extract_lets -underBinder -merge -useContext +onlyGivenNames l0
  extract_lets -underBinder -merge -useContext +onlyGivenNames t0
  have ht0 : m0.touch 0xd84b108 0xffff00050000 t0 := by
    unfold t0
    unfold l0
    extract_lets -underBinder -merge -useContext +onlyGivenNames l1
    try clear_value l1
    refine touch_app ?_ (Mach.toPort_touch ..) rfl rfl
    exact touch_refl _ _ _
  try clear_value t0
  extract_lets -underBinder -merge -useContext +onlyGivenNames t1
  have ht1 : m0.touch 0xd84b108 0xffff00050000 t1 := by
    unfold t1
    refine touch_ite (fun _ => ?_) (fun _ => ?_)
    · unfold l0
      extract_lets -underBinder -merge -useContext +onlyGivenNames l1
      try clear_value l1
      refine touch_app ?_ (Mach.toPort_touch ..) rfl rfl
      exact ht0
    · exact ht0
  try clear_value t1
  refine touch_app ?_ (Mach.arm_touch ..) rfl rfl
  exact ht1

end Sys2Proof.Machine
end

