-- ==== Sys2Proof/Laws/Frame/Switch.lean ====
section
/-! SUPPORT. The frame of each operation of Switch.lean: the parts of the module it can change. -/

namespace Sys2Proof.Machine

theorem Mach.toPairing_touch (m0 : Mach) (a1 : ℕ) : m0.touch 0x1f84b908 0x30ffff00050000 (Mach.toPairing m0 a1) := by
  unfold Mach.toPairing
  split
  · exact touch_refl _ _ _
  · refine touch_app ?_ (Mach.onSwc_touch ..) rfl rfl
    refine touch_app ?_ (Mach.startMode_touch ..) rfl rfl
    exact touch_refl _ _ _
  · exact touch_refl _ _ _
  · refine touch_app ?_ (Mach.onSwc_touch ..) rfl rfl
    refine touch_app ?_ (Mach.setFld_touch (P := 0x30ffff00050000) _ _ _ _ rfl) rfl rfl
    refine touch_app ?_ (Mach.setFld_touch (P := 0x30ffff00050000) _ _ _ _ rfl) rfl rfl
    exact touch_refl _ _ _

theorem Mach.swcFault_touch (m0 : Mach) (a1 : ℕ) : m0.touch 0x1f84b908 0x30ffff00050000 (Mach.swcFault m0 a1) := by
  unfold Mach.swcFault
  refine touch_app ?_ (Mach.toPairing_touch ..) rfl rfl
  refine touch_app ?_ (Mach.onSwc_touch ..) rfl rfl
  exact touch_refl _ _ _

theorem Mach.tryRanding_touch (m0 : Mach) : m0.touch 0x10000008 0x10000 (Mach.tryRanding m0) := by
  unfold Mach.tryRanding
  refine touch_ite (fun _ => ?_) (fun _ => ?_)
  · refine touch_app ?_ (Mach.onSwc_touch ..) rfl rfl
    refine touch_app ?_ (Mach.setFld_touch (P := 0x10000) _ _ _ _ rfl) rfl rfl
    exact touch_refl _ _ _
  · exact touch_refl _ _ _

theorem Mach.startSelfTest_touch (m0 : Mach) : m0.touch 0x10000008 0x10000 (Mach.startSelfTest m0) := by
  unfold Mach.startSelfTest
  refine touch_app ?_ (Mach.onSwc_touch ..) rfl rfl
  refine touch_app ?_ (Mach.setFld_touch (P := 0x10000) _ _ _ _ rfl) rfl rfl
  exact touch_refl _ _ _

theorem Mach.swcCommand_touch (m0 : Mach) (a1 : ℕ) : m0.touch 0x1f84b908 0x30ffff00050000 (Mach.swcCommand m0 a1) := by
  unfold Mach.swcCommand
  extract_lets -underBinder -merge -useContext +onlyGivenNames t0
  have ht0 : m0.touch 0x1f84b908 0x30ffff00050000 t0 := by
    unfold t0
    refine touch_ite (fun _ => ?_) (fun _ => ?_)
    · refine touch_app ?_ (Mach.toPairing_touch ..) rfl rfl
      exact touch_refl _ _ _
    · exact touch_refl _ _ _
  try clear_value t0
  extract_lets -underBinder -merge -useContext +onlyGivenNames t1
  have ht1 : m0.touch 0x1f84b908 0x30ffff00050000 t1 := by
    unfold t1
    refine touch_ite (fun _ => ?_) (fun _ => ?_)
    · refine touch_app ?_ (Mach.startSelfTest_touch ..) rfl rfl
      refine touch_app ?_ (Mach.toPairing_touch ..) rfl rfl
      exact ht0
    · exact ht0
  try clear_value t1
  refine touch_ite (fun _ => ?_) (fun _ => ?_)
  · refine touch_app ?_ (Mach.tryRanding_touch ..) rfl rfl
    refine touch_app ?_ (Mach.onSwc_touch ..) rfl rfl
    exact ht1
  · exact ht1

theorem Mach.modeDone_touch (m0 : Mach) : m0.touch 0x1f84b908 0x30ffff00050000 (Mach.modeDone m0) := by
  unfold Mach.modeDone
  split
  · refine touch_app ?_ (Mach.event_touch (P := 0x30ffff00050000) _ _ _ _ rfl (by decide)) rfl rfl
    refine touch_app ?_ (Mach.count_touch (P := 0x30ffff00050000) _ _ _ _ (within_nth _ _ rfl)) rfl rfl
    refine touch_app ?_ (Mach.startMode_touch ..) rfl rfl
    exact touch_refl _ _ _
  · refine touch_app ?_ (Mach.event_touch (P := 0x30ffff00050000) _ _ _ _ rfl (by decide)) rfl rfl
    refine touch_app ?_ (Mach.count_touch (P := 0x30ffff00050000) _ _ _ _ (within_nth _ _ rfl)) rfl rfl
    refine touch_app ?_ (Mach.startMode_touch ..) rfl rfl
    exact touch_refl _ _ _
  · exact touch_refl _ _ _

theorem Mach.fwdApply_touch (m0 : Mach) : m0.touch 0x10003008 0x20000 (Mach.fwdApply m0) := by
  unfold Mach.fwdApply
  extract_lets -underBinder -merge -useContext +onlyGivenNames l0
  try clear_value l0
  extract_lets -underBinder -merge -useContext +onlyGivenNames l1
  try clear_value l1
  split
  extract_lets -underBinder -merge -useContext +onlyGivenNames t0
  have ht0 : m0.touch 0x10003008 0x20000 t0 := by
    unfold t0
    refine touch_app ?_ (Mach.setFld_touch (P := 0x20000) _ _ _ _ rfl) rfl rfl
    refine touch_app ?_ (Mach.onSwc_touch ..) rfl rfl
    exact touch_refl _ _ _
  try clear_value t0
  extract_lets -underBinder -merge -useContext +onlyGivenNames t1
  have ht1 : m0.touch 0x10003008 0x20000 t1 := by
    unfold t1
    refine touch_app ?_ (Mach.showLearnt_touch ..) rfl rfl
    exact ht0
  try clear_value t1
  refine touch_ite (fun _ => ?_) (fun _ => ?_)
  · exact ht1
  · refine touch_app ?_ (Mach.event_touch (P := 0x20000) _ _ _ _ rfl (by decide)) rfl rfl
    exact ht1

end Sys2Proof.Machine
end

