-- ==== Sys2Proof/Laws/Frame/Plait.lean ====
section
/-! SUPPORT. The frame of each operation of Plait.lean: the parts of the module it can change. -/

namespace Sys2Proof.Machine

theorem Mach.onLane_touch (m0 : Mach) (a1 : ℕ) (a2 : Lane → Lane) : m0.touch 0x1000000 0x0 (Mach.onLane m0 a1 a2) := by
  unfold Mach.onLane
  refine touch_app ?_ (Mach.onTwn_touch ..) rfl rfl
  exact touch_refl _ _ _

theorem Mach.setLane_touch (m0 : Mach) (a1 : ℕ) (a2 : ℕ) : m0.touch 0x8 0x1000000000000 (Mach.setLane m0 a1 a2) := by
  unfold Mach.setLane
  refine touch_ite (fun _ => ?_) (fun _ => ?_)
  · refine touch_app ?_ (Mach.setFld_touch (P := 0x1000000000000) _ _ _ _ rfl) rfl rfl
    exact touch_refl _ _ _
  · refine touch_app ?_ (Mach.setFld_touch (P := 0x1000000000000) _ _ _ _ rfl) rfl rfl
    exact touch_refl _ _ _

theorem Mach.setPlaitUp_touch (m0 : Mach) (a1 : Bool) : m0.touch 0x8 0x3000000000000 (Mach.setPlaitUp m0 a1) := by
  unfold Mach.setPlaitUp
  refine touch_app ?_ (Mach.setFlag_touch (P := 0x3000000000000) _ _ _ _ rfl) rfl rfl
  refine touch_app ?_ (Mach.setFlag_touch (P := 0x3000000000000) _ _ _ _ rfl) rfl rfl
  exact touch_refl _ _ _

theorem Mach.show64_touch (m : Mach) (lo hi : Fd) (v : Nat) {P : Nat} (h : Fd.within P lo = true) (g : Fd.within P hi = true) :
    m.touch 8 P (m.show64 lo hi v) :=
  touch_trans (Mach.setFld_touch _ _ _ _ h) (Mach.setFld_touch _ _ _ _ g)

theorem Mach.sendOn_touch (m0 : Mach) (a1 : ℕ) (a2 : ℕ) (a3 : ℕ) (a4 : PlaitMsg) : m0.touch 0x1001100 0x0 (Mach.sendOn m0 a1 a2 a3 a4) := by
  unfold Mach.sendOn
  extract_lets -underBinder -merge -useContext +onlyGivenNames l0
  try clear_value l0
  extract_lets -underBinder -merge -useContext +onlyGivenNames t0
  have ht0 : m0.touch 0x1001100 0x0 t0 := by
    unfold t0
    refine touch_app ?_ (Mach.onLane_touch ..) rfl rfl
    exact touch_refl _ _ _
  try clear_value t0
  extract_lets -underBinder -merge -useContext +onlyGivenNames t1
  have ht1 : m0.touch 0x1001100 0x0 t1 := by
    unfold t1
    refine touch_app ?_ (Mach.arm_touch ..) rfl rfl
    exact ht0
  try clear_value t1
  extract_lets -underBinder -merge -useContext +onlyGivenNames t2
  have ht2 : m0.touch 0x1001100 0x0 t2 := by
    unfold t2
    refine touch_ite (fun _ => ?_) (fun _ => ?_)
    · exact ht1
    · refine touch_app ?_ (Mach.arm_touch ..) rfl rfl
      exact ht1
  try clear_value t2
  refine touch_app ?_ (Mach.emit_touch ..) rfl rfl
  exact ht2

theorem Mach.nextPlait_touch (m0 : Mach) : m0.touch 0x1000000 0x0 (Mach.nextPlait m0).2 := by
  unfold Mach.nextPlait
  change Mach.touch2 _ _ m0 _
  split
  · refine touch_app ?_ (Mach.onTwn_touch ..) rfl rfl
    exact touch_refl _ _ _
  · split
    · refine touch_app ?_ (Mach.onTwn_touch ..) rfl rfl
      exact touch_refl _ _ _
    · exact touch_refl _ _ _

theorem Mach.drainPlait_touch (m0 : Mach) (a1 : ℕ) : m0.touch 0x1001100 0x0 (Mach.drainPlait m0 a1) := by
  induction a1 generalizing m0
  · unfold Mach.drainPlait
    exact touch_refl _ _ _
  · rename_i n ih
    unfold Mach.drainPlait
    split
    · rename_i p0_0 p0_1 p0_2 p0_3 p0_4 p0_5 he6 he7
      have hp0_5 : m0.touch 0x1001100 0x0 p0_5 := by
        refine touch_snd he7 ?_
        refine touch_app ?_ (Mach.nextPlait_touch ..) rfl rfl
        exact touch_refl _ _ _
      refine touch_app ?_ (ih ..) rfl rfl
      refine touch_app ?_ (Mach.sendOn_touch ..) rfl rfl
      exact hp0_5
    · rename_i p0_0 p0_1 p0_2
      exact touch_refl _ _ _

theorem Mach.drainAll_touch (m0 : Mach) : m0.touch 0x1001100 0x0 (Mach.drainAll m0) := by
  unfold Mach.drainAll
  refine touch_app ?_ (Mach.drainPlait_touch ..) rfl rfl
  exact touch_refl _ _ _

theorem Mach.plaitSend_touch (m0 : Mach) (a1 : PlaitMsg) : m0.touch 0x1001100 0x0 (Mach.plaitSend m0 a1) := by
  unfold Mach.plaitSend
  refine touch_ite (fun _ => ?_) (fun _ => ?_)
  · exact touch_refl _ _ _
  · refine touch_app ?_ (Mach.drainAll_touch ..) rfl rfl
    refine touch_app ?_ (Mach.onTwn_touch ..) rfl rfl
    exact touch_refl _ _ _

theorem Mach.plaitSendLane_touch (m0 : Mach) (a1 : ℕ) (a2 : PlaitMsg) : m0.touch 0x1001100 0x0 (Mach.plaitSendLane m0 a1 a2) := by
  unfold Mach.plaitSendLane
  refine touch_ite (fun _ => ?_) (fun _ => ?_)
  · exact touch_refl _ _ _
  · extract_lets -underBinder -merge -useContext +onlyGivenNames l0
    try clear_value l0
    refine touch_app ?_ (Mach.sendOn_touch ..) rfl rfl
    refine touch_app ?_ (Mach.onTwn_touch ..) rfl rfl
    exact touch_refl _ _ _

theorem Mach.dropLane_touch (m0 : Mach) (a1 : ℕ) (a2 : ℕ) : m0.touch 0x1001108 0x1000000000000 (Mach.dropLane m0 a1 a2) := by
  unfold Mach.dropLane
  extract_lets -underBinder -merge -useContext +onlyGivenNames l0
  try clear_value l0
  extract_lets -underBinder -merge -useContext +onlyGivenNames t0
  have ht0 : m0.touch 0x1001108 0x1000000000000 t0 := by
    unfold t0
    refine touch_app ?_ (Mach.disarm_touch ..) rfl rfl
    refine touch_app ?_ (Mach.disarm_touch ..) rfl rfl
    refine touch_app ?_ (Mach.setLane_touch ..) rfl rfl
    exact touch_refl _ _ _
  try clear_value t0
  extract_lets -underBinder -merge -useContext +onlyGivenNames t1
  have ht1 : m0.touch 0x1001108 0x1000000000000 t1 := by
    unfold t1
    refine touch_app ?_ (Mach.onLane_touch ..) rfl rfl
    exact ht0
  try clear_value t1
  refine touch_app ?_ (Mach.drainAll_touch ..) rfl rfl
  refine touch_app ?_ (Mach.onTwn_touch ..) rfl rfl
  exact ht1

theorem Mach.laneUp_touch (m0 : Mach) (a1 : ℕ) : m0.touch 0x3008 0x1000000000000 (Mach.laneUp m0 a1) := by
  unfold Mach.laneUp
  extract_lets -underBinder -merge -useContext +onlyGivenNames l0
  try clear_value l0
  refine touch_ite (fun _ => ?_) (fun _ => ?_)
  · refine touch_app ?_ (Mach.event_touch (P := 0x1000000000000) _ _ _ _ rfl (by decide)) rfl rfl
    refine touch_app ?_ (Mach.setLane_touch ..) rfl rfl
    exact touch_refl _ _ _
  · exact touch_refl _ _ _

theorem Mach.replay_touch (m0 : Mach) (a1 : ℕ) : m0.touch 0x1003108 0x1000000000000 (Mach.replay m0 a1) := by
  unfold Mach.replay
  split
  · exact touch_refl _ _ _
  · refine touch_ite (fun _ => ?_) (fun _ => ?_)
    · refine touch_app ?_ (Mach.dropLane_touch ..) rfl rfl
      refine touch_app ?_ (Mach.event_touch (P := 0x1000000000000) _ _ _ _ rfl (by decide)) rfl rfl
      refine touch_app ?_ (Mach.count_touch (P := 0x1000000000000) _ _ _ _ (within_nth _ _ rfl)) rfl rfl
      exact touch_refl _ _ _
    · extract_lets -underBinder -merge -useContext +onlyGivenNames l0
      try clear_value l0
      extract_lets -underBinder -merge -useContext +onlyGivenNames l1
      try clear_value l1
      extract_lets -underBinder -merge -useContext +onlyGivenNames t0
      have ht0 : m0.touch 0x1003108 0x1000000000000 t0 := by
        unfold t0
        refine touch_app ?_ (Mach.onLane_touch ..) rfl rfl
        exact touch_refl _ _ _
      try clear_value t0
      extract_lets -underBinder -merge -useContext +onlyGivenNames t1
      have ht1 : m0.touch 0x1003108 0x1000000000000 t1 := by
        unfold t1
        refine touch_each ?_ (fun y x hx => ?_)
        · exact ht0
        · refine touch_app ?_ (Mach.emit_touch ..) rfl rfl
          exact hx
      try clear_value t1
      extract_lets -underBinder -merge -useContext +onlyGivenNames t2
      have ht2 : m0.touch 0x1003108 0x1000000000000 t2 := by
        unfold t2
        refine touch_app ?_ (Mach.arm_touch ..) rfl rfl
        refine touch_app ?_ (Mach.arm_touch ..) rfl rfl
        exact ht1
      try clear_value t2
      refine touch_app ?_ (Mach.event_touch (P := 0x1000000000000) _ _ _ _ rfl (by decide)) rfl rfl
      refine touch_app ?_ (Mach.count_touch (P := 0x1000000000000) _ _ _ _ (within_nth _ _ rfl)) rfl rfl
      exact ht2

theorem Mach.acknowledge_touch (m0 : Mach) (a1 : ℕ) (a2 : ℕ) : m0.touch 0x1000100 0x0 (Mach.acknowledge m0 a1 a2) := by
  unfold Mach.acknowledge
  split
  refine touch_ite (fun _ => ?_) (fun _ => ?_)
  · exact touch_refl _ _ _
  · extract_lets -underBinder -merge -useContext +onlyGivenNames t0
    have ht0 : m0.touch 0x1000100 0x0 t0 := by
      unfold t0
      refine touch_app ?_ (Mach.onLane_touch ..) rfl rfl
      exact touch_refl _ _ _
    try clear_value t0
    split
    · refine touch_app ?_ (Mach.disarm_touch ..) rfl rfl
      exact ht0
    · refine touch_app ?_ (Mach.arm_touch ..) rfl rfl
      exact ht0

theorem Mach.supervise_touch (m0 : Mach) : m0.touch 0x1003108 0x3000000000000 (Mach.supervise m0) := by
  unfold Mach.supervise
  extract_lets -underBinder -merge -useContext +onlyGivenNames t0
  have ht0 : m0.touch 0x1003108 0x3000000000000 t0 := by
    unfold t0
    refine touch_app ?_ (Mach.count_touch (P := 0x3000000000000) _ _ _ _ rfl) rfl rfl
    refine touch_app ?_ (Mach.setFld_touch (P := 0x3000000000000) _ _ _ _ rfl) rfl rfl
    exact touch_refl _ _ _
  try clear_value t0
  extract_lets -underBinder -merge -useContext +onlyGivenNames t1
  have ht1 : m0.touch 0x1003108 0x3000000000000 t1 := by
    unfold t1
    refine touch_app ?_ (Mach.onTwn_touch ..) rfl rfl
    exact ht0
  try clear_value t1
  extract_lets -underBinder -merge -useContext +onlyGivenNames t2
  have ht2 : m0.touch 0x1003108 0x3000000000000 t2 := by
    unfold t2
    refine touch_app ?_ (Mach.arm_touch ..) rfl rfl
    exact ht1
  try clear_value t2
  refine touch_ite (fun _ => ?_) (fun _ => ?_)
  · exact ht2
  · refine touch_app ?_ (Mach.event_touch (P := 0x3000000000000) _ _ _ _ rfl (by decide)) rfl rfl
    refine touch_app ?_ (Mach.setPlaitUp_touch ..) rfl rfl
    exact ht2

theorem Mach.plaitTake_touch (m0 : Mach) (a1 : PlaitHdr) (a2 : PlaitMsg) : m0.touch 0x1003108 0x3000000000000 (Mach.plaitTake m0 a1 a2).1 := by
  unfold Mach.plaitTake
  change Mach.touch1 _ _ m0 _
  extract_lets -underBinder -merge -useContext +onlyGivenNames l0
  try clear_value l0
  split
  · refine touch_app ?_ (Mach.event_touch (P := 0x3000000000000) _ _ _ _ rfl (by decide)) rfl rfl
    refine touch_app ?_ (Mach.count_touch (P := 0x3000000000000) _ _ _ _ (within_nth _ _ rfl)) rfl rfl
    exact touch_refl _ _ _
  · extract_lets -underBinder -merge -useContext +onlyGivenNames t0
    have ht0 : m0.touch 0x1003108 0x3000000000000 t0 := by
      unfold t0
      refine touch_app ?_ (Mach.onLane_touch ..) rfl rfl
      exact touch_refl _ _ _
    try clear_value t0
    split
    · exact ht0
    · extract_lets -underBinder -merge -useContext +onlyGivenNames l1
      try clear_value l1
      extract_lets -underBinder -merge -useContext +onlyGivenNames t1
      have ht1 : m0.touch 0x1003108 0x3000000000000 t1 := by
        unfold t1
        refine touch_app ?_ (Mach.onLane_touch ..) rfl rfl
        exact ht0
      try clear_value t1
      extract_lets -underBinder -merge -useContext +onlyGivenNames t2
      have ht2 : m0.touch 0x1003108 0x3000000000000 t2 := by
        unfold t2
        refine touch_app ?_ (Mach.laneUp_touch ..) rfl rfl
        refine touch_app ?_ (Mach.supervise_touch ..) rfl rfl
        refine touch_app ?_ (Mach.acknowledge_touch ..) rfl rfl
        exact ht1
      try clear_value t2
      extract_lets -underBinder -merge -useContext +onlyGivenNames t3
      have ht3 : m0.touch 0x1003108 0x3000000000000 t3 := by
        unfold t3
        refine touch_app ?_ (Mach.drainAll_touch ..) rfl rfl
        exact ht2
      try clear_value t3
      extract_lets -underBinder -merge -useContext +onlyGivenNames l2
      try clear_value l2
      split
      · split
        refine touch_app ?_ (Mach.onTwn_touch ..) rfl rfl
        exact ht3
      · exact ht3

theorem Mach.plaitRx_touch (m0 : Mach) (a1 : PlaitHdr) (a2 : PlaitMsg) : m0.touch 0x100b108 0x83000000000000 (Mach.plaitRx m0 a1 a2).1 := by
  unfold Mach.plaitRx
  change Mach.touch1 _ _ m0 _
  extract_lets -underBinder -merge -useContext +onlyGivenNames l0
  try clear_value l0
  split
  · exact touch_refl _ _ _
  · split
    · refine touch_app ?_ (Mach.event_touch (P := 0x83000000000000) _ _ _ _ rfl (by decide)) rfl rfl
      refine touch_app ?_ (Mach.event_touch (P := 0x83000000000000) _ _ _ _ rfl (by decide)) rfl rfl
      refine touch_app ?_ (Mach.count_touch (P := 0x83000000000000) _ _ _ _ (within_nth _ _ rfl)) rfl rfl
      exact touch_refl _ _ _
    · refine touch_app ?_ (Mach.plaitTake_touch ..) rfl rfl
      refine touch_app ?_ (Mach.sendBeats_touch ..) rfl rfl
      exact touch_refl _ _ _

theorem Mach.plaitLost_touch (m0 : Mach) : m0.touch 0x1003008 0x3000000000000 (Mach.plaitLost m0) := by
  unfold Mach.plaitLost
  extract_lets -underBinder -merge -useContext +onlyGivenNames t0
  have ht0 : m0.touch 0x1003008 0x3000000000000 t0 := by
    unfold t0
    refine touch_app ?_ (Mach.event_touch (P := 0x3000000000000) _ _ _ _ rfl (by decide)) rfl rfl
    refine touch_app ?_ (Mach.count_touch (P := 0x3000000000000) _ _ _ _ (within_nth _ _ rfl)) rfl rfl
    refine touch_app ?_ (Mach.setPlaitUp_touch ..) rfl rfl
    exact touch_refl _ _ _
  try clear_value t0
  extract_lets -underBinder -merge -useContext +onlyGivenNames t1
  have ht1 : m0.touch 0x1003008 0x3000000000000 t1 := by
    unfold t1
    refine touch_app ?_ (Mach.show64_touch (P := 0x3000000000000) _ _ _ _ rfl rfl) rfl rfl
    exact ht0
  try clear_value t1
  extract_lets -underBinder -merge -useContext +onlyGivenNames t2
  have ht2 : m0.touch 0x1003008 0x3000000000000 t2 := by
    unfold t2
    refine touch_app ?_ (Mach.onTwn_touch ..) rfl rfl
    exact ht1
  try clear_value t2
  refine touch_app ?_ (Mach.onLane_touch ..) rfl rfl
  refine touch_app ?_ (Mach.onLane_touch ..) rfl rfl
  exact ht2

end Sys2Proof.Machine
end

