-- ==== Sys2Proof/Laws/Frame/Acq.lean ====
section
/-! SUPPORT. The frame of each operation of Acq.lean: the parts of the module it can change. -/

namespace Sys2Proof.Machine

theorem Mach.showAcq_touch (m0 : Mach) (a1 : ℕ) : m0.touch 0x8 0x2000 (Mach.showAcq m0 a1) := by
  unfold Mach.showAcq
  refine touch_app ?_ (Mach.setFld_touch (P := 0x2000) _ _ _ _ rfl) rfl rfl
  exact touch_refl _ _ _

theorem Mach.acqRestart_touch (m0 : Mach) (a1 : ℕ) : m0.touch 0x20000008 0x2000 (Mach.acqRestart m0 a1) := by
  unfold Mach.acqRestart
  extract_lets -underBinder -merge -useContext +onlyGivenNames l0
  try clear_value l0
  refine touch_app ?_ (Mach.showAcq_touch ..) rfl rfl
  refine touch_app ?_ (Mach.setFld_touch (P := 0x2000) _ _ _ _ rfl) rfl rfl
  refine touch_app ?_ (Mach.onAcq_touch ..) rfl rfl
  exact touch_refl _ _ _

theorem Mach.markHeld_touch (m0 : Mach) (a1 : ℕ) : m0.touch 0x20003008 0x2000 (Mach.markHeld m0 a1) := by
  unfold Mach.markHeld
  refine touch_ite (fun _ => ?_) (fun _ => ?_)
  · refine touch_app ?_ (Mach.event_touch (P := 0x2000) _ _ _ _ rfl (by decide)) rfl rfl
    refine touch_app ?_ (Mach.onAcq_touch ..) rfl rfl
    exact touch_refl _ _ _
  · exact touch_refl _ _ _

theorem Mach.acqHeld_touch (m0 : Mach) (a1 : ℕ) : m0.touch 0x20003008 0x2000 (Mach.acqHeld m0 a1) := by
  unfold Mach.acqHeld
  extract_lets -underBinder -merge -useContext +onlyGivenNames t0
  have ht0 : m0.touch 0x20003008 0x2000 t0 := by
    unfold t0
    refine touch_app ?_ (Mach.onAcq_touch ..) rfl rfl
    exact touch_refl _ _ _
  try clear_value t0
  extract_lets -underBinder -merge -useContext +onlyGivenNames t1
  have ht1 : m0.touch 0x20003008 0x2000 t1 := by
    unfold t1
    refine touch_app ?_ (Mach.event_touch (P := 0x2000) _ _ _ _ rfl (by decide)) rfl rfl
    refine touch_app ?_ (Mach.count_touch (P := 0x2000) _ _ _ _ rfl) rfl rfl
    refine touch_app ?_ (Mach.setFld_touch (P := 0x2000) _ _ _ _ rfl) rfl rfl
    exact ht0
  try clear_value t1
  refine touch_app ?_ (Mach.markHeld_touch ..) rfl rfl
  exact ht1

theorem Mach.acqStart_touch (m0 : Mach) (a1 : ℕ) (a2 : ℕ) (a3 : ℕ) (a4 : List AcqSample) : m0.touch 0x20003008 0x2000 (Mach.acqStart m0 a1 a2 a3 a4) := by
  unfold Mach.acqStart
  extract_lets -underBinder -merge -useContext +onlyGivenNames l0
  try clear_value l0
  extract_lets -underBinder -merge -useContext +onlyGivenNames l1
  try clear_value l1
  extract_lets -underBinder -merge -useContext +onlyGivenNames l2
  try clear_value l2
  extract_lets -underBinder -merge -useContext +onlyGivenNames l3
  try clear_value l3
  extract_lets -underBinder -merge -useContext +onlyGivenNames l4
  try clear_value l4
  extract_lets -underBinder -merge -useContext +onlyGivenNames l5
  try clear_value l5
  extract_lets -underBinder -merge -useContext +onlyGivenNames l6
  try clear_value l6
  extract_lets -underBinder -merge -useContext +onlyGivenNames l7
  try clear_value l7
  extract_lets -underBinder -merge -useContext +onlyGivenNames l8
  try clear_value l8
  extract_lets -underBinder -merge -useContext +onlyGivenNames t0
  have ht0 : m0.touch 0x20003008 0x2000 t0 := by
    unfold t0
    refine touch_app ?_ (Mach.onAcq_touch ..) rfl rfl
    exact touch_refl _ _ _
  try clear_value t0
  refine touch_app ?_ (Mach.showAcq_touch ..) rfl rfl
  refine touch_app ?_ (Mach.event_touch (P := 0x2000) _ _ _ _ rfl (by decide)) rfl rfl
  refine touch_app ?_ (Mach.count_touch (P := 0x2000) _ _ _ _ rfl) rfl rfl
  refine touch_app ?_ (Mach.setFld_touch (P := 0x2000) _ _ _ _ rfl) rfl rfl
  exact ht0

theorem Mach.acqAgain_touch (m0 : Mach) (a1 : ℕ) (a2 : ℕ) : m0.touch 0x20003008 0x2000 (Mach.acqAgain m0 a1 a2) := by
  unfold Mach.acqAgain
  split
  · exact touch_refl _ _ _
  · refine touch_ite (fun _ => ?_) (fun _ => ?_)
    · extract_lets -underBinder -merge -useContext +onlyGivenNames l0
      try clear_value l0
      extract_lets -underBinder -merge -useContext +onlyGivenNames l1
      try clear_value l1
      extract_lets -underBinder -merge -useContext +onlyGivenNames l2
      try clear_value l2
      extract_lets -underBinder -merge -useContext +onlyGivenNames t0
      have ht0 : m0.touch 0x20003008 0x2000 t0 := by
        unfold t0
        refine touch_app ?_ (Mach.onAcq_touch ..) rfl rfl
        exact touch_refl _ _ _
      try clear_value t0
      refine touch_ite (fun _ => ?_) (fun _ => ?_)
      · refine touch_app ?_ (Mach.event_touch (P := 0x2000) _ _ _ _ rfl (by decide)) rfl rfl
        exact ht0
      · exact ht0
    · refine touch_app ?_ (Mach.onAcq_touch ..) rfl rfl
      exact touch_refl _ _ _

theorem Mach.acqTrigger_touch (m0 : Mach) (a1 : ℕ) (a2 : ℕ) (a3 : ℕ) (a4 : List AcqSample) : m0.touch 0x20003008 0x2000 (Mach.acqTrigger m0 a1 a2 a3 a4) := by
  unfold Mach.acqTrigger
  split
  · refine touch_ite (fun _ => ?_) (fun _ => ?_)
    · refine touch_app ?_ (Mach.event_touch (P := 0x2000) _ _ _ _ rfl (by decide)) rfl rfl
      refine touch_app ?_ (Mach.count_touch (P := 0x2000) _ _ _ _ (within_nth _ _ rfl)) rfl rfl
      exact touch_refl _ _ _
    · refine touch_app ?_ (Mach.acqStart_touch ..) rfl rfl
      exact touch_refl _ _ _
  · refine touch_ite (fun _ => ?_) (fun _ => ?_)
    · refine touch_app ?_ (Mach.event_touch (P := 0x2000) _ _ _ _ rfl (by decide)) rfl rfl
      refine touch_app ?_ (Mach.count_touch (P := 0x2000) _ _ _ _ (within_nth _ _ rfl)) rfl rfl
      exact touch_refl _ _ _
    · refine touch_app ?_ (Mach.acqStart_touch ..) rfl rfl
      exact touch_refl _ _ _
  · refine touch_app ?_ (Mach.acqAgain_touch ..) rfl rfl
    exact touch_refl _ _ _
  · refine touch_app ?_ (Mach.event_touch (P := 0x2000) _ _ _ _ rfl (by decide)) rfl rfl
    refine touch_app ?_ (Mach.count_touch (P := 0x2000) _ _ _ _ (within_nth _ _ rfl)) rfl rfl
    exact touch_refl _ _ _
  · exact touch_refl _ _ _

theorem Mach.acqResult_touch (m0 : Mach) (a1 : ℕ) (a2 : ℕ) (a3 : List (ℕ × BitVec 32)) (a4 : BitVec 16) : m0.touch 0x20000000 0x0 (Mach.acqResult m0 a1 a2 a3 a4) := by
  unfold Mach.acqResult
  refine touch_each ?_ (fun y x hx => ?_)
  · exact touch_refl _ _ _
  · refine touch_each ?_ (fun y x hx => ?_)
    · exact hx
    · refine touch_ite (fun _ => ?_) (fun _ => ?_)
      · split
        · extract_lets -underBinder -merge -useContext +onlyGivenNames l0
          try clear_value l0
          extract_lets -underBinder -merge -useContext +onlyGivenNames t0
          have ht0 : m0.touch 0x20000000 0x0 t0 := by
            unfold t0
            refine touch_app ?_ (Mach.onAcq_touch ..) rfl rfl
            exact hx
          try clear_value t0
          refine touch_ite (fun _ => ?_) (fun _ => ?_)
          · refine touch_app ?_ (Mach.onAcq_touch ..) rfl rfl
            exact ht0
          · exact ht0
        · exact hx
      · exact hx

theorem Mach.acqGoose_touch (m0 : Mach) (a1 : ℕ) (a2 : ℕ) (a3 : List GooseMember) (a4 : List GooseMember) : m0.touch 0x20000000 0x0 (Mach.acqGoose m0 a1 a2 a3 a4) := by
  unfold Mach.acqGoose
  refine touch_each ?_ (fun y x hx => ?_)
  · exact touch_refl _ _ _
  · refine touch_each ?_ (fun y x hx => ?_)
    · exact hx
    · refine touch_ite (fun _ => ?_) (fun _ => ?_)
      · split
        · refine touch_ite (fun _ => ?_) (fun _ => ?_)
          · refine touch_app ?_ (Mach.onAcq_touch ..) rfl rfl
            exact hx
          · exact hx
        · exact hx
      · exact hx

theorem Mach.acqTick_touch (m0 : Mach) (a1 : ℕ) (a2 : Tick) (a3 : List ChanTap) : m0.touch 0x2000300a 0x2000 (Mach.acqTick m0 a1 a2 a3) := by
  unfold Mach.acqTick
  refine touch_ite (fun _ => ?_) (fun _ => ?_)
  · exact touch_refl _ _ _
  · split
    rename_i p0_0 p0_1 p0_2 he3
    have hp0_2 : m0.touch 0x2000300a 0x2000 p0_2 := by
      refine touch_snd he3 ?_
      change Mach.touch2 _ _ m0 _
      split
      · split
        rename_i p0_0 p0_1 p0_2 he3
        have hp0_2 : m0.touch 0x2000300a 0x2000 p0_2 := by
          refine touch_snd he3 ?_
          refine touch_app ?_ (Mach.drawWord_touch ..) rfl rfl
          exact touch_refl _ _ _
        exact hp0_2
      · exact touch_refl _ _ _
    extract_lets -underBinder -merge -useContext +onlyGivenNames t0
    have ht0 : m0.touch 0x2000300a 0x2000 t0 := by
      unfold t0
      refine touch_ite (fun _ => ?_) (fun _ => ?_)
      · refine touch_app ?_ (Mach.event_touch (P := 0x2000) _ _ _ _ rfl (by decide)) rfl rfl
        refine touch_app ?_ (Mach.count_touch (P := 0x2000) _ _ _ _ (within_nth _ _ rfl)) rfl rfl
        exact hp0_2
      · exact hp0_2
    try clear_value t0
    extract_lets -underBinder -merge -useContext +onlyGivenNames t1
    have ht1 : m0.touch 0x2000300a 0x2000 t1 := by
      unfold t1
      refine touch_ite (fun _ => ?_) (fun _ => ?_)
      · refine touch_app ?_ (Mach.showAcq_touch ..) rfl rfl
        refine touch_app ?_ (Mach.setFld_touch (P := 0x2000) _ _ _ _ rfl) rfl rfl
        refine touch_app ?_ (Mach.onAcq_touch ..) rfl rfl
        exact ht0
      · exact ht0
    try clear_value t1
    extract_lets -underBinder -merge -useContext +onlyGivenNames l0
    try clear_value l0
    extract_lets -underBinder -merge -useContext +onlyGivenNames l1
    try clear_value l1
    split
    split
    extract_lets -underBinder -merge -useContext +onlyGivenNames l2
    try clear_value l2
    extract_lets -underBinder -merge -useContext +onlyGivenNames l3
    try clear_value l3
    extract_lets -underBinder -merge -useContext +onlyGivenNames t2
    have ht2 : m0.touch 0x2000300a 0x2000 t2 := by
      unfold t2
      refine touch_app ?_ (Mach.onAcq_touch ..) rfl rfl
      exact ht1
    try clear_value t2
    extract_lets -underBinder -merge -useContext +onlyGivenNames t3
    have ht3 : m0.touch 0x2000300a 0x2000 t3 := by
      unfold t3
      refine touch_each ?_ (fun y x hx => ?_)
      · exact ht2
      · refine touch_app ?_ (Mach.acqTrigger_touch ..) rfl rfl
        exact hx
    try clear_value t3
    extract_lets -underBinder -merge -useContext +onlyGivenNames t4
    have ht4 : m0.touch 0x2000300a 0x2000 t4 := by
      unfold t4
      refine touch_app ?_ (Mach.onAcq_touch ..) rfl rfl
      exact ht3
    try clear_value t4
    extract_lets -underBinder -merge -useContext +onlyGivenNames t5
    have ht5 : m0.touch 0x2000300a 0x2000 t5 := by
      unfold t5
      refine touch_ite (fun _ => ?_) (fun _ => ?_)
      · refine touch_ite (fun _ => ?_) (fun _ => ?_)
        · refine touch_app ?_ (Mach.setFld_touch (P := 0x2000) _ _ _ _ rfl) rfl rfl
          exact ht4
        · exact ht4
      · exact ht3
    try clear_value t5
    extract_lets -underBinder -merge -useContext +onlyGivenNames t6
    have ht6 : m0.touch 0x2000300a 0x2000 t6 := by
      unfold t6
      refine touch_app ?_ (Mach.showAcq_touch ..) rfl rfl
      exact ht5
    try clear_value t6
    split
    · refine touch_ite (fun _ => ?_) (fun _ => ?_)
      · refine touch_app ?_ (Mach.acqHeld_touch ..) rfl rfl
        exact ht6
      · exact ht6
    · exact ht6

theorem Mach.acqTake_touch (m0 : Mach) (a1 : SetOut) : m0.touch 0x2000300a 0x2000 (Mach.acqTake m0 a1) := by
  unfold Mach.acqTake
  refine touch_each ?_ (fun y x hx => ?_)
  · exact touch_refl _ _ _
  · refine touch_each ?_ (fun y x hx => ?_)
    · exact hx
    · refine touch_ite (fun _ => ?_) (fun _ => ?_)
      · refine touch_app ?_ (Mach.acqTick_touch ..) rfl rfl
        exact hx
      · exact hx

theorem Mach.exportFrame_touch (m0 : Mach) (a1 : ℕ) : m0.touch 0x3f84b908 0x30ffff00072000 (Mach.exportFrame m0 a1) := by
  unfold Mach.exportFrame
  split
  · exact touch_refl _ _ _
  · refine touch_ite (fun _ => ?_) (fun _ => ?_)
    · refine touch_app ?_ (Mach.markHeld_touch ..) rfl rfl
      exact touch_refl _ _ _
    · refine touch_ite (fun _ => ?_) (fun _ => ?_)
      · exact touch_refl _ _ _
      · extract_lets -underBinder -merge -useContext +onlyGivenNames l0
        try clear_value l0
        extract_lets -underBinder -merge -useContext +onlyGivenNames l1
        try clear_value l1
        extract_lets -underBinder -merge -useContext +onlyGivenNames l2
        try clear_value l2
        extract_lets -underBinder -merge -useContext +onlyGivenNames l3
        try clear_value l3
        extract_lets -underBinder -merge -useContext +onlyGivenNames l4
        try clear_value l4
        extract_lets -underBinder -merge -useContext +onlyGivenNames l5
        try clear_value l5
        extract_lets -underBinder -merge -useContext +onlyGivenNames l6
        try clear_value l6
        extract_lets -underBinder -merge -useContext +onlyGivenNames l7
        try clear_value l7
        extract_lets -underBinder -merge -useContext +onlyGivenNames l8
        try clear_value l8
        extract_lets -underBinder -merge -useContext +onlyGivenNames t0
        have ht0 : m0.touch 0x3f84b908 0x30ffff00072000 t0 := by
          unfold t0
          refine touch_app ?_ (Mach.inject_touch ..) rfl rfl
          exact touch_refl _ _ _
        try clear_value t0
        extract_lets -underBinder -merge -useContext +onlyGivenNames t1
        have ht1 : m0.touch 0x3f84b908 0x30ffff00072000 t1 := by
          unfold t1
          refine touch_app ?_ (Mach.count_touch (P := 0x30ffff00072000) _ _ _ _ (within_nth _ _ rfl)) rfl rfl
          exact ht0
        try clear_value t1
        refine touch_app ?_ (Mach.onAcq_touch ..) rfl rfl
        exact ht1

theorem Mach.acqCommand_touch (m0 : Mach) (a1 : ℕ) (a2 : ℕ) : m0.touch 0x20000000 0x0 (Mach.acqCommand m0 a1 a2) := by
  unfold Mach.acqCommand
  extract_lets -underBinder -merge -useContext +onlyGivenNames t0
  have ht0 : m0.touch 0x20000000 0x0 t0 := by
    unfold t0
    refine touch_ite (fun _ => ?_) (fun _ => ?_)
    · refine touch_app ?_ (Mach.onAcq_touch ..) rfl rfl
      exact touch_refl _ _ _
    · exact touch_refl _ _ _
  try clear_value t0
  refine touch_ite (fun _ => ?_) (fun _ => ?_)
  · refine touch_app ?_ (Mach.onAcq_touch ..) rfl rfl
    exact ht0
  · exact ht0

theorem Mach.acqApply_touch (m0 : Mach) (a1 : KMap Word) : m0.touch 0x20000008 0x2000 (Mach.acqApply m0 a1) := by
  unfold Mach.acqApply
  refine touch_each ?_ (fun y x hx => ?_)
  · exact touch_refl _ _ _
  · refine touch_ite (fun _ => ?_) (fun _ => ?_)
    · refine touch_app ?_ (Mach.acqRestart_touch ..) rfl rfl
      exact hx
    · exact hx

end Sys2Proof.Machine
end

