-- ==== Sys2Proof/Laws/Frame/Nrg.lean ====
section
/-! SUPPORT. The frame of each operation of Nrg.lean: the parts of the module it can change. -/

namespace Sys2Proof.Machine

theorem Mach.onPt_touch (m0 : Mach) (a1 : ℕ) (a2 : Point → Point) : m0.touch 0x40000000 0x0 (Mach.onPt m0 a1 a2) := by
  unfold Mach.onPt
  refine touch_app ?_ (Mach.onNrg_touch ..) rfl rfl
  exact touch_refl _ _ _

theorem Mach.ptStart_touch (m0 : Mach) (a1 : ℕ) : m0.touch 0x40000108 0x4000 (Mach.ptStart m0 a1) := by
  unfold Mach.ptStart
  extract_lets -underBinder -merge -useContext +onlyGivenNames t0
  have ht0 : m0.touch 0x40000108 0x4000 t0 := by
    unfold t0
    refine touch_app ?_ (Mach.disarm_touch ..) rfl rfl
    refine touch_app ?_ (Mach.onPt_touch ..) rfl rfl
    exact touch_refl _ _ _
  try clear_value t0
  extract_lets -underBinder -merge -useContext +onlyGivenNames t1
  have ht1 : m0.touch 0x40000108 0x4000 t1 := by
    unfold t1
    refine touch_app ?_ (Mach.setFld_touch (P := 0x4000) _ _ _ _ rfl) rfl rfl
    refine touch_app ?_ (Mach.setFld_touch (P := 0x4000) _ _ _ _ rfl) rfl rfl
    refine touch_app ?_ (Mach.setFld_touch (P := 0x4000) _ _ _ _ rfl) rfl rfl
    exact ht0
  try clear_value t1
  extract_lets -underBinder -merge -useContext +onlyGivenNames t2
  have ht2 : m0.touch 0x40000108 0x4000 t2 := by
    unfold t2
    refine touch_app ?_ (Mach.setFlag_touch (P := 0x4000) _ _ _ _ rfl) rfl rfl
    refine touch_app ?_ (Mach.setFld_touch (P := 0x4000) _ _ _ _ rfl) rfl rfl
    exact ht1
  try clear_value t2
  refine touch_app ?_ (Mach.setFld_touch (P := 0x4000) _ _ _ _ rfl) rfl rfl
  refine touch_app ?_ (Mach.setFld_touch (P := 0x4000) _ _ _ _ rfl) rfl rfl
  refine touch_app ?_ (Mach.setFlag_touch (P := 0x4000) _ _ _ _ rfl) rfl rfl
  exact ht2

theorem Mach.reverse_touch (m0 : Mach) (a1 : ℕ) (a2 : ℕ) (a3 : BitVec 32) (a4 : Word) : m0.touch 0x40003008 0x4000 (Mach.reverse m0 a1 a2 a3 a4) := by
  unfold Mach.reverse
  extract_lets -underBinder -merge -useContext +onlyGivenNames t0
  have ht0 : m0.touch 0x40003008 0x4000 t0 := by
    unfold t0
    refine touch_app ?_ (Mach.onPt_touch ..) rfl rfl
    refine touch_app ?_ (Mach.setFld_touch (P := 0x4000) _ _ _ _ rfl) rfl rfl
    exact touch_refl _ _ _
  try clear_value t0
  extract_lets -underBinder -merge -useContext +onlyGivenNames t1
  have ht1 : m0.touch 0x40003008 0x4000 t1 := by
    unfold t1
    refine touch_app ?_ (Mach.event_touch (P := 0x4000) _ _ _ _ rfl (by decide)) rfl rfl
    refine touch_app ?_ (Mach.count_touch (P := 0x4000) _ _ _ _ rfl) rfl rfl
    exact ht0
  try clear_value t1
  refine touch_app ?_ (Mach.intake_touch ..) rfl rfl
  exact ht1

theorem Mach.directions_touch (m0 : Mach) (a1 : ℕ) (a2 : PowerTap) (a3 : ℤ) (a4 : ℤ) (a5 : Word) : m0.touch 0x40003008 0x4000 (Mach.directions m0 a1 a2 a3 a4 a5) := by
  unfold Mach.directions
  extract_lets -underBinder -merge -useContext +onlyGivenNames l0
  try clear_value l0
  extract_lets -underBinder -merge -useContext +onlyGivenNames l1
  try clear_value l1
  extract_lets -underBinder -merge -useContext +onlyGivenNames l2
  try clear_value l2
  extract_lets -underBinder -merge -useContext +onlyGivenNames t0
  have ht0 : m0.touch 0x40003008 0x4000 t0 := by
    unfold t0
    refine touch_ite (fun _ => ?_) (fun _ => ?_)
    · refine touch_app ?_ (Mach.reverse_touch ..) rfl rfl
      exact touch_refl _ _ _
    · refine touch_ite (fun _ => ?_) (fun _ => ?_)
      · refine touch_app ?_ (Mach.reverse_touch ..) rfl rfl
        exact touch_refl _ _ _
      · exact touch_refl _ _ _
  try clear_value t0
  refine touch_ite (fun _ => ?_) (fun _ => ?_)
  · refine touch_app ?_ (Mach.setFld_touch (P := 0x4000) _ _ _ _ rfl) rfl rfl
    exact ht0
  · refine touch_ite (fun _ => ?_) (fun _ => ?_)
    · refine touch_app ?_ (Mach.setFld_touch (P := 0x4000) _ _ _ _ rfl) rfl rfl
      exact ht0
    · exact ht0

theorem Mach.overCurrent_touch (m0 : Mach) (a1 : ℕ) : m0.touch 0x40003008 0x4000 (Mach.overCurrent m0 a1) := by
  unfold Mach.overCurrent
  extract_lets -underBinder -merge -useContext +onlyGivenNames l0
  try clear_value l0
  extract_lets -underBinder -merge -useContext +onlyGivenNames t0
  have ht0 : m0.touch 0x40003008 0x4000 t0 := by
    unfold t0
    refine touch_app ?_ (Mach.onPt_touch ..) rfl rfl
    exact touch_refl _ _ _
  try clear_value t0
  refine touch_ite (fun _ => ?_) (fun _ => ?_)
  · refine touch_app ?_ (Mach.eventAlways_touch (P := 0x4000) _ _ _ _ rfl (by decide)) rfl rfl
    refine touch_app ?_ (Mach.count_touch (P := 0x4000) _ _ _ _ (within_nth _ _ rfl)) rfl rfl
    refine touch_app ?_ (Mach.onPt_touch ..) rfl rfl
    refine touch_app ?_ (Mach.setFlag_touch (P := 0x4000) _ _ _ _ rfl) rfl rfl
    exact ht0
  · refine touch_ite (fun _ => ?_) (fun _ => ?_)
    · refine touch_app ?_ (Mach.event_touch (P := 0x4000) _ _ _ _ rfl (by decide)) rfl rfl
      refine touch_app ?_ (Mach.setFlag_touch (P := 0x4000) _ _ _ _ rfl) rfl rfl
      exact ht0
    · exact ht0

theorem Mach.overCurrentTick_touch (m0 : Mach) (a1 : ℕ) (a2 : List (BitVec 32 × BitVec 16)) : m0.touch 0x40003108 0x4000 (Mach.overCurrentTick m0 a1 a2) := by
  unfold Mach.overCurrentTick
  extract_lets -underBinder -merge -useContext +onlyGivenNames l0
  try clear_value l0
  extract_lets -underBinder -merge -useContext +onlyGivenNames l1
  try clear_value l1
  extract_lets -underBinder -merge -useContext +onlyGivenNames l2
  try clear_value l2
  extract_lets -underBinder -merge -useContext +onlyGivenNames l3
  try clear_value l3
  extract_lets -underBinder -merge -useContext +onlyGivenNames l4
  try clear_value l4
  extract_lets -underBinder -merge -useContext +onlyGivenNames l5
  try clear_value l5
  extract_lets -underBinder -merge -useContext +onlyGivenNames l6
  try clear_value l6
  refine touch_ite (fun _ => ?_) (fun _ => ?_)
  · refine touch_app ?_ (Mach.disarm_touch ..) rfl rfl
    refine touch_app ?_ (Mach.onPt_touch ..) rfl rfl
    exact touch_refl _ _ _
  · refine touch_ite (fun _ => ?_) (fun _ => ?_)
    · exact touch_refl _ _ _
    · extract_lets -underBinder -merge -useContext +onlyGivenNames t0
      have ht0 : m0.touch 0x40003108 0x4000 t0 := by
        unfold t0
        refine touch_app ?_ (Mach.onPt_touch ..) rfl rfl
        exact touch_refl _ _ _
      try clear_value t0
      refine touch_ite (fun _ => ?_) (fun _ => ?_)
      · refine touch_app ?_ (Mach.overCurrent_touch ..) rfl rfl
        exact ht0
      · refine touch_app ?_ (Mach.arm_touch ..) rfl rfl
        exact ht0

theorem Mach.peak_touch (m : Mach) (v t : Fd) (p : Nat) (d : BitVec 32) (sec : Int) {P : Nat} (h : Fd.within P v = true)
    (g : Fd.within P t = true) : m.touch 8 P (m.peak v t p d sec) := by
  unfold Mach.peak
  split
  · exact touch_trans (Mach.setFld_touch _ _ _ _ h) (Mach.setFld_touch _ _ _ _ g)
  · exact touch_refl _ _ _


theorem Mach.demand_touch (m0 : Mach) (a1 : ℕ) (a2 : ℤ) : m0.touch 0x40000008 0x4000 (Mach.demand m0 a1 a2) := by
  unfold Mach.demand
  extract_lets -underBinder -merge -useContext +onlyGivenNames l0
  try clear_value l0
  extract_lets -underBinder -merge -useContext +onlyGivenNames l1
  try clear_value l1
  refine touch_ite (fun _ => ?_) (fun _ => ?_)
  · exact touch_refl _ _ _
  · extract_lets -underBinder -merge -useContext +onlyGivenNames l2
    try clear_value l2
    extract_lets -underBinder -merge -useContext +onlyGivenNames l3
    try clear_value l3
    extract_lets -underBinder -merge -useContext +onlyGivenNames l4
    try clear_value l4
    extract_lets -underBinder -merge -useContext +onlyGivenNames l5
    try clear_value l5
    extract_lets -underBinder -merge -useContext +onlyGivenNames t0
    have ht0 : m0.touch 0x40000008 0x4000 t0 := by
      unfold t0
      refine touch_app ?_ (Mach.onPt_touch ..) rfl rfl
      exact touch_refl _ _ _
    try clear_value t0
    extract_lets -underBinder -merge -useContext +onlyGivenNames t1
    have ht1 : m0.touch 0x40000008 0x4000 t1 := by
      unfold t1
      refine touch_app ?_ (Mach.setFlag_touch (P := 0x4000) _ _ _ _ rfl) rfl rfl
      exact ht0
    try clear_value t1
    refine touch_app ?_ (Mach.peak_touch (P := 0x4000) _ _ _ _ _ _ rfl rfl) rfl rfl
    refine touch_app ?_ (Mach.peak_touch (P := 0x4000) _ _ _ _ _ _ rfl rfl) rfl rfl
    exact ht1

theorem Mach.secondEnd_touch (m0 : Mach) (a1 : ℕ) (a2 : ℤ) : m0.touch 0x40000008 0x4000 (Mach.secondEnd m0 a1 a2) := by
  unfold Mach.secondEnd
  split
  · refine touch_app ?_ (Mach.onPt_touch ..) rfl rfl
    exact touch_refl _ _ _
  · refine touch_ite (fun _ => ?_) (fun _ => ?_)
    · exact touch_refl _ _ _
    · refine touch_app ?_ (Mach.demand_touch ..) rfl rfl
      refine touch_app ?_ (Mach.onPt_touch ..) rfl rfl
      exact touch_refl _ _ _

theorem Mach.ptTick_touch (m0 : Mach) (a1 : ℕ) (a2 : Tick) (a3 : SetOut) : m0.touch 0x40003108 0x4000 (Mach.ptTick m0 a1 a2 a3) := by
  unfold Mach.ptTick
  extract_lets -underBinder -merge -useContext +onlyGivenNames l0
  try clear_value l0
  split
  · exact touch_refl _ _ _
  · extract_lets -underBinder -merge -useContext +onlyGivenNames l1
    try clear_value l1
    extract_lets -underBinder -merge -useContext +onlyGivenNames l2
    try clear_value l2
    extract_lets -underBinder -merge -useContext +onlyGivenNames l3
    try clear_value l3
    extract_lets -underBinder -merge -useContext +onlyGivenNames l4
    try clear_value l4
    extract_lets -underBinder -merge -useContext +onlyGivenNames l5
    try clear_value l5
    extract_lets -underBinder -merge -useContext +onlyGivenNames t0
    have ht0 : m0.touch 0x40003108 0x4000 t0 := by
      unfold t0
      refine touch_app ?_ (Mach.onPt_touch ..) rfl rfl
      exact touch_refl _ _ _
    try clear_value t0
    extract_lets -underBinder -merge -useContext +onlyGivenNames t1
    have ht1 : m0.touch 0x40003108 0x4000 t1 := by
      unfold t1
      refine touch_ite (fun _ => ?_) (fun _ => ?_)
      · exact ht0
      · refine touch_app ?_ (Mach.directions_touch ..) rfl rfl
        exact ht0
    try clear_value t1
    refine touch_ite (fun _ => ?_) (fun _ => ?_)
    · refine touch_app ?_ (Mach.disarm_touch ..) rfl rfl
      refine touch_app ?_ (Mach.onPt_touch ..) rfl rfl
      exact ht1
    · extract_lets -underBinder -merge -useContext +onlyGivenNames l6
      try clear_value l6
      refine touch_app ?_ (Mach.overCurrentTick_touch ..) rfl rfl
      exact ht1

theorem Mach.copyLatch_touch (m0 : Mach) (a1 : ℕ) : m0.touch 0x1000000 0x0 (Mach.copyLatch m0 a1) := by
  unfold Mach.copyLatch
  split
  · refine touch_ite (fun _ => ?_) (fun _ => ?_)
    · refine touch_app ?_ (Mach.onTwn_touch ..) rfl rfl
      exact touch_refl _ _ _
    · exact touch_refl _ _ _
  · exact touch_refl _ _ _

theorem Mach.nrgSet_touch (m0 : Mach) (a1 : SetOut) : m0.touch 0x41003108 0x4000 (Mach.nrgSet m0 a1) := by
  unfold Mach.nrgSet
  refine touch_each ?_ (fun y x hx => ?_)
  · exact touch_refl _ _ _
  · extract_lets -underBinder -merge -useContext +onlyGivenNames t0
    have ht0 : m0.touch 0x41003108 0x4000 t0 := by
      unfold t0
      refine touch_each ?_ (fun y x hx => ?_)
      · exact hx
      · refine touch_app ?_ (Mach.ptTick_touch ..) rfl rfl
        exact hx
    try clear_value t0
    refine touch_app ?_ (Mach.copyLatch_touch ..) rfl rfl
    exact ht0

theorem Mach.nrgDrain_touch (m0 : Mach) (a1 : ℕ) : m0.touch 0x41003108 0x4000 (Mach.nrgDrain m0 a1) := by
  induction a1 generalizing m0
  · unfold Mach.nrgDrain
    exact touch_refl _ _ _
  · rename_i n ih
    unfold Mach.nrgDrain
    split
    · exact touch_refl _ _ _
    · refine touch_app ?_ (ih ..) rfl rfl
      refine touch_app ?_ (Mach.nrgSet_touch ..) rfl rfl
      refine touch_app ?_ (Mach.onNrg_touch ..) rfl rfl
      exact touch_refl _ _ _

theorem Mach.nrgLose_touch (m0 : Mach) (a1 : SetOut) : m0.touch 0x40003008 0x4000 (Mach.nrgLose m0 a1) := by
  unfold Mach.nrgLose
  extract_lets -underBinder -merge -useContext +onlyGivenNames t0
  have ht0 : m0.touch 0x40003008 0x4000 t0 := by
    unfold t0
    refine touch_app ?_ (Mach.event_touch (P := 0x4000) _ _ _ _ rfl (by decide)) rfl rfl
    refine touch_app ?_ (Mach.count_touch (P := 0x4000) _ _ _ _ (within_nth _ _ rfl)) rfl rfl
    exact touch_refl _ _ _
  try clear_value t0
  refine touch_each ?_ (fun y x hx => ?_)
  · exact ht0
  · refine touch_each ?_ (fun y x hx => ?_)
    · exact hx
    · refine touch_ite (fun _ => ?_) (fun _ => ?_)
      · refine touch_app ?_ (Mach.onPt_touch ..) rfl rfl
        exact hx
      · exact hx

theorem Mach.nrgTake_touch (m0 : Mach) (a1 : SetOut) : m0.touch 0x4100310a 0x4000 (Mach.nrgTake m0 a1) := by
  unfold Mach.nrgTake
  split
  rename_i p0_0 p0_1 p0_2 he3
  have hp0_2 : m0.touch 0x4100310a 0x4000 p0_2 := by
    refine touch_snd he3 ?_
    change Mach.touch2 _ _ m0 _
    split
    · split
      rename_i p0_0 p0_1 p0_2 he3
      have hp0_2 : m0.touch 0x4100310a 0x4000 p0_2 := by
        refine touch_snd he3 ?_
        refine touch_app ?_ (Mach.drawWord_touch ..) rfl rfl
        exact touch_refl _ _ _
      exact hp0_2
    · exact touch_refl _ _ _
  extract_lets -underBinder -merge -useContext +onlyGivenNames t0
  have ht0 : m0.touch 0x4100310a 0x4000 t0 := by
    unfold t0
    split
    · refine touch_ite (fun _ => ?_) (fun _ => ?_)
      · refine touch_app ?_ (Mach.nrgLose_touch ..) rfl rfl
        refine touch_app ?_ (Mach.onNrg_touch ..) rfl rfl
        exact hp0_2
      · exact hp0_2
    · exact hp0_2
  try clear_value t0
  extract_lets -underBinder -merge -useContext +onlyGivenNames t1
  have ht1 : m0.touch 0x4100310a 0x4000 t1 := by
    unfold t1
    refine touch_app ?_ (Mach.onNrg_touch ..) rfl rfl
    exact ht0
  try clear_value t1
  refine touch_ite (fun _ => ?_) (fun _ => ?_)
  · exact ht1
  · refine touch_app ?_ (Mach.nrgDrain_touch ..) rfl rfl
    exact ht1

theorem Mach.endPoint_touch (m0 : Mach) (a1 : ℕ) (a2 : ℤ) (a3 : ℕ) (a4 : ℕ) : m0.touch 0x40003008 0x4000 (Mach.endPoint m0 a1 a2 a3 a4) := by
  unfold Mach.endPoint
  extract_lets -underBinder -merge -useContext +onlyGivenNames l0
  try clear_value l0
  extract_lets -underBinder -merge -useContext +onlyGivenNames l1
  try clear_value l1
  extract_lets -underBinder -merge -useContext +onlyGivenNames l2
  try clear_value l2
  extract_lets -underBinder -merge -useContext +onlyGivenNames t0
  have ht0 : m0.touch 0x40003008 0x4000 t0 := by
    unfold t0
    refine touch_app ?_ (Mach.onNrg_touch ..) rfl rfl
    exact touch_refl _ _ _
  try clear_value t0
  extract_lets -underBinder -merge -useContext +onlyGivenNames t1
  have ht1 : m0.touch 0x40003008 0x4000 t1 := by
    unfold t1
    refine touch_app ?_ (Mach.count_touch (P := 0x4000) _ _ _ _ (within_nth _ _ rfl)) rfl rfl
    refine touch_app ?_ (Mach.setFld_touch (P := 0x4000) _ _ _ _ rfl) rfl rfl
    exact ht0
  try clear_value t1
  extract_lets -underBinder -merge -useContext +onlyGivenNames t2
  have ht2 : m0.touch 0x40003008 0x4000 t2 := by
    unfold t2
    refine touch_app ?_ (Mach.onPt_touch ..) rfl rfl
    exact ht1
  try clear_value t2
  refine touch_ite (fun _ => ?_) (fun _ => ?_)
  · refine touch_app ?_ (Mach.event_touch (P := 0x4000) _ _ _ _ rfl (by decide)) rfl rfl
    exact ht2
  · exact ht2

theorem Mach.endIntervals_touch (m0 : Mach) (a1 : ℤ) (a2 : ℕ) (a3 : ℕ) : m0.touch 0x40003008 0x4000 (Mach.endIntervals m0 a1 a2 a3) := by
  unfold Mach.endIntervals
  extract_lets -underBinder -merge -useContext +onlyGivenNames t0
  have ht0 : m0.touch 0x40003008 0x4000 t0 := by
    unfold t0
    refine touch_each ?_ (fun y x hx => ?_)
    · exact touch_refl _ _ _
    · refine touch_app ?_ (Mach.endPoint_touch ..) rfl rfl
      exact hx
  try clear_value t0
  refine touch_app ?_ (Mach.onNrg_touch ..) rfl rfl
  exact ht0

theorem Mach.nrgEpoch_touch (m0 : Mach) : m0.touch 0x40000000 0x0 (Mach.nrgEpoch m0) := by
  unfold Mach.nrgEpoch
  extract_lets -underBinder -merge -useContext +onlyGivenNames t0
  have ht0 : m0.touch 0x40000000 0x0 t0 := by
    unfold t0
    refine touch_each ?_ (fun y x hx => ?_)
    · exact touch_refl _ _ _
    · refine touch_app ?_ (Mach.onPt_touch ..) rfl rfl
      exact hx
  try clear_value t0
  refine touch_app ?_ (Mach.onNrg_touch ..) rfl rfl
  exact ht0

theorem Mach.markLatch_touch (m0 : Mach) (a1 : ℕ) : m0.touch 0x40003008 0x4000 (Mach.markLatch m0 a1) := by
  unfold Mach.markLatch
  extract_lets -underBinder -merge -useContext +onlyGivenNames l0
  try clear_value l0
  extract_lets -underBinder -merge -useContext +onlyGivenNames t0
  have ht0 : m0.touch 0x40003008 0x4000 t0 := by
    unfold t0
    refine touch_app ?_ (Mach.onPt_touch ..) rfl rfl
    exact touch_refl _ _ _
  try clear_value t0
  refine touch_ite (fun _ => ?_) (fun _ => ?_)
  · exact ht0
  · refine touch_app ?_ (Mach.event_touch (P := 0x4000) _ _ _ _ rfl (by decide)) rfl rfl
    exact ht0

theorem Mach.latchPoint_touch (m0 : Mach) (a1 : ℕ) : m0.touch 0x40003008 0x4000 (Mach.latchPoint m0 a1) := by
  unfold Mach.latchPoint
  extract_lets -underBinder -merge -useContext +onlyGivenNames l0
  try clear_value l0
  extract_lets -underBinder -merge -useContext +onlyGivenNames t0
  have ht0 : m0.touch 0x40003008 0x4000 t0 := by
    unfold t0
    refine touch_app ?_ (Mach.setFld_touch (P := 0x4000) _ _ _ _ rfl) rfl rfl
    refine touch_app ?_ (Mach.setFld_touch (P := 0x4000) _ _ _ _ rfl) rfl rfl
    exact touch_refl _ _ _
  try clear_value t0
  extract_lets -underBinder -merge -useContext +onlyGivenNames t1
  have ht1 : m0.touch 0x40003008 0x4000 t1 := by
    unfold t1
    refine touch_app ?_ (Mach.setFld_touch (P := 0x4000) _ _ _ _ rfl) rfl rfl
    refine touch_app ?_ (Mach.setFld_touch (P := 0x4000) _ _ _ _ rfl) rfl rfl
    exact ht0
  try clear_value t1
  extract_lets -underBinder -merge -useContext +onlyGivenNames t2
  have ht2 : m0.touch 0x40003008 0x4000 t2 := by
    unfold t2
    refine touch_each ?_ (fun y x hx => ?_)
    · exact ht1
    · extract_lets -underBinder -merge -useContext +onlyGivenNames t3
      have ht3 : m0.touch 0x40003008 0x4000 t3 := by
        unfold t3
        refine touch_app ?_ (Mach.setFld_touch (P := 0x4000) _ _ _ _ (within_nth _ _ rfl)) rfl rfl
        exact hx
      try clear_value t3
      refine touch_app ?_ (Mach.setFld_touch (P := 0x4000) _ _ _ _ (within_nth _ _ rfl)) rfl rfl
      refine touch_app ?_ (Mach.setFld_touch (P := 0x4000) _ _ _ _ (within_nth _ _ rfl)) rfl rfl
      exact ht3
  try clear_value t2
  refine touch_app ?_ (Mach.markLatch_touch ..) rfl rfl
  exact ht2

theorem Mach.latchAll_touch (m0 : Mach) : m0.touch 0x40003008 0x4000 (Mach.latchAll m0) := by
  unfold Mach.latchAll
  extract_lets -underBinder -merge -useContext +onlyGivenNames l0
  try clear_value l0
  refine touch_each ?_ (fun y x hx => ?_)
  · refine touch_app ?_ (Mach.onNrg_touch ..) rfl rfl
    exact touch_refl _ _ _
  · refine touch_app ?_ (Mach.markLatch_touch ..) rfl rfl
    exact hx

theorem Mach.nrgCommand_touch (m0 : Mach) (a1 : ℕ) (a2 : ℕ) : m0.touch 0x40003008 0x4000 (Mach.nrgCommand m0 a1 a2) := by
  unfold Mach.nrgCommand
  extract_lets -underBinder -merge -useContext +onlyGivenNames t0
  have ht0 : m0.touch 0x40003008 0x4000 t0 := by
    unfold t0
    refine touch_ite (fun _ => ?_) (fun _ => ?_)
    · refine touch_app ?_ (Mach.latchPoint_touch ..) rfl rfl
      exact touch_refl _ _ _
    · exact touch_refl _ _ _
  try clear_value t0
  refine touch_ite (fun _ => ?_) (fun _ => ?_)
  · extract_lets -underBinder -merge -useContext +onlyGivenNames t1
    have ht1 : m0.touch 0x40003008 0x4000 t1 := by
      unfold t1
      refine touch_app ?_ (Mach.setFld_touch (P := 0x4000) _ _ _ _ rfl) rfl rfl
      refine touch_app ?_ (Mach.setFld_touch (P := 0x4000) _ _ _ _ rfl) rfl rfl
      exact ht0
    try clear_value t1
    refine touch_app ?_ (Mach.setFld_touch (P := 0x4000) _ _ _ _ rfl) rfl rfl
    refine touch_app ?_ (Mach.setFld_touch (P := 0x4000) _ _ _ _ rfl) rfl rfl
    exact ht1
  · exact ht0

theorem Mach.nrgApply_touch (m0 : Mach) (a1 : KMap Word) : m0.touch 0x40003108 0x4000 (Mach.nrgApply m0 a1) := by
  unfold Mach.nrgApply
  extract_lets -underBinder -merge -useContext +onlyGivenNames l0
  extract_lets -underBinder -merge -useContext +onlyGivenNames t0
  have ht0 : m0.touch 0x40003108 0x4000 t0 := by
    unfold t0
    refine touch_ite (fun _ => ?_) (fun _ => ?_)
    · refine touch_app ?_ (Mach.endIntervals_touch ..) rfl rfl
      exact touch_refl _ _ _
    · exact touch_refl _ _ _
  try clear_value t0
  refine touch_each ?_ (fun y x hx => ?_)
  · exact ht0
  · refine touch_ite (fun _ => ?_) (fun _ => ?_)
    · exact hx
    · refine touch_app ?_ (Mach.ptStart_touch ..) rfl rfl
      exact hx

end Sys2Proof.Machine
end

