-- ==== Sys2Proof/Laws/Frame/Pls.lean ====
section
/-! SUPPORT. The frame of each operation of Pls.lean: the parts of the module it can change. -/

namespace Sys2Proof.Machine

theorem Mach.armStall_touch (m0 : Mach) (a1 : ℕ) : m0.touch 0x100 0x0 (Mach.armStall m0 a1) := by
  unfold Mach.armStall
  refine touch_ite (fun _ => ?_) (fun _ => ?_)
  · refine touch_app ?_ (Mach.disarm_touch ..) rfl rfl
    exact touch_refl _ _ _
  · refine touch_app ?_ (Mach.arm_touch ..) rfl rfl
    exact touch_refl _ _ _

theorem Mach.plsQualify_touch (m0 : Mach) (a1 : ℕ) : m0.touch 0x8000b108 0x8000 (Mach.plsQualify m0 a1) := by
  unfold Mach.plsQualify
  extract_lets -underBinder -merge -useContext +onlyGivenNames l0
  try clear_value l0
  split
  · exact touch_refl _ _ _
  · extract_lets -underBinder -merge -useContext +onlyGivenNames t0
    have ht0 : m0.touch 0x8000b108 0x8000 t0 := by
      unfold t0
      refine touch_app ?_ (Mach.disarm_touch ..) rfl rfl
      refine touch_app ?_ (Mach.onPin_touch ..) rfl rfl
      exact touch_refl _ _ _
    try clear_value t0
    extract_lets -underBinder -merge -useContext +onlyGivenNames l1
    try clear_value l1
    refine touch_ite (fun _ => ?_) (fun _ => ?_)
    · refine touch_app ?_ (Mach.event_touch (P := 0x8000) _ _ _ _ rfl (by decide)) rfl rfl
      refine touch_app ?_ (Mach.count_touch (P := 0x8000) _ _ _ _ rfl) rfl rfl
      exact ht0
    · extract_lets -underBinder -merge -useContext +onlyGivenNames t1
      have ht1 : m0.touch 0x8000b108 0x8000 t1 := by
        unfold t1
        refine touch_app ?_ (Mach.onPin_touch ..) rfl rfl
        exact ht0
      try clear_value t1
      extract_lets -underBinder -merge -useContext +onlyGivenNames t2
      have ht2 : m0.touch 0x8000b108 0x8000 t2 := by
        unfold t2
        refine touch_app ?_ (Mach.setFld_touch (P := 0x8000) _ _ _ _ rfl) rfl rfl
        exact ht1
      try clear_value t2
      extract_lets -underBinder -merge -useContext +onlyGivenNames t3
      have ht3 : m0.touch 0x8000b108 0x8000 t3 := by
        unfold t3
        refine touch_ite (fun _ => ?_) (fun _ => ?_)
        · refine touch_app ?_ (Mach.event_touch (P := 0x8000) _ _ _ _ rfl (by decide)) rfl rfl
          refine touch_app ?_ (Mach.setFlag_touch (P := 0x8000) _ _ _ _ rfl) rfl rfl
          exact ht2
        · exact ht2
      try clear_value t3
      extract_lets -underBinder -merge -useContext +onlyGivenNames t4
      have ht4 : m0.touch 0x8000b108 0x8000 t4 := by
        unfold t4
        refine touch_app ?_ (Mach.armStall_touch ..) rfl rfl
        exact ht3
      try clear_value t4
      refine touch_app ?_ (Mach.sendCount_touch ..) rfl rfl
      exact ht4

theorem Mach.plsEdge_touch (m0 : Mach) (a1 : ℕ) (a2 : Bool) : m0.touch 0x8000b108 0x8000 (Mach.plsEdge m0 a1 a2) := by
  unfold Mach.plsEdge
  refine touch_ite (fun _ => ?_) (fun _ => ?_)
  · exact touch_refl _ _ _
  · extract_lets -underBinder -merge -useContext +onlyGivenNames t0
    have ht0 : m0.touch 0x8000b108 0x8000 t0 := by
      unfold t0
      refine touch_app ?_ (Mach.onPin_touch ..) rfl rfl
      exact touch_refl _ _ _
    try clear_value t0
    refine touch_ite (fun _ => ?_) (fun _ => ?_)
    · exact ht0
    · refine touch_ite (fun _ => ?_) (fun _ => ?_)
      · extract_lets -underBinder -merge -useContext +onlyGivenNames t1
        have ht1 : m0.touch 0x8000b108 0x8000 t1 := by
          unfold t1
          refine touch_app ?_ (Mach.disarm_touch ..) rfl rfl
          exact ht0
        try clear_value t1
        split
        · refine touch_ite (fun _ => ?_) (fun _ => ?_)
          · refine touch_app ?_ (Mach.plsQualify_touch ..) rfl rfl
            exact ht1
          · exact ht1
        · exact ht1
      · refine touch_app ?_ (Mach.arm_touch ..) rfl rfl
        exact ht0

theorem Mach.plsAccept_touch (m0 : Mach) (a1 : ℕ) : m0.touch 0x8000b108 0x8000 (Mach.plsAccept m0 a1) := by
  unfold Mach.plsAccept
  extract_lets -underBinder -merge -useContext +onlyGivenNames l0
  try clear_value l0
  extract_lets -underBinder -merge -useContext +onlyGivenNames l1
  try clear_value l1
  extract_lets -underBinder -merge -useContext +onlyGivenNames t0
  have ht0 : m0.touch 0x8000b108 0x8000 t0 := by
    unfold t0
    refine touch_app ?_ (Mach.setFlag_touch (P := 0x8000) _ _ _ _ rfl) rfl rfl
    exact touch_refl _ _ _
  try clear_value t0
  refine touch_ite (fun _ => ?_) (fun _ => ?_)
  · refine touch_ite (fun _ => ?_) (fun _ => ?_)
    · exact ht0
    · refine touch_app ?_ (Mach.arm_touch ..) rfl rfl
      refine touch_app ?_ (Mach.onPin_touch ..) rfl rfl
      exact ht0
  · extract_lets -underBinder -merge -useContext +onlyGivenNames t1
    have ht1 : m0.touch 0x8000b108 0x8000 t1 := by
      unfold t1
      refine touch_app ?_ (Mach.onPin_touch ..) rfl rfl
      exact ht0
    try clear_value t1
    split
    · exact ht1
    · refine touch_ite (fun _ => ?_) (fun _ => ?_)
      · refine touch_app ?_ (Mach.plsQualify_touch ..) rfl rfl
        exact ht1
      · refine touch_app ?_ (Mach.event_touch (P := 0x8000) _ _ _ _ rfl (by decide)) rfl rfl
        refine touch_app ?_ (Mach.count_touch (P := 0x8000) _ _ _ _ rfl) rfl rfl
        refine touch_app ?_ (Mach.disarm_touch ..) rfl rfl
        refine touch_app ?_ (Mach.onPin_touch ..) rfl rfl
        exact ht1

theorem Mach.plsWide_touch (m0 : Mach) (a1 : ℕ) : m0.touch 0x8000b108 0x8000 (Mach.plsWide m0 a1) := by
  unfold Mach.plsWide
  refine touch_ite (fun _ => ?_) (fun _ => ?_)
  · refine touch_app ?_ (Mach.plsQualify_touch ..) rfl rfl
    exact touch_refl _ _ _
  · exact touch_refl _ _ _

theorem Mach.plsStall_touch (m0 : Mach) (a1 : ℕ) : m0.touch 0x3008 0x8000 (Mach.plsStall m0 a1) := by
  unfold Mach.plsStall
  refine touch_app ?_ (Mach.event_touch (P := 0x8000) _ _ _ _ rfl (by decide)) rfl rfl
  refine touch_app ?_ (Mach.count_touch (P := 0x8000) _ _ _ _ rfl) rfl rfl
  refine touch_app ?_ (Mach.setFlag_touch (P := 0x8000) _ _ _ _ rfl) rfl rfl
  exact touch_refl _ _ _

theorem Mach.plsLatchAll_touch (m0 : Mach) : m0.touch 0x8 0x8000 (Mach.plsLatchAll m0) := by
  unfold Mach.plsLatchAll
  extract_lets -underBinder -merge -useContext +onlyGivenNames t0
  have ht0 : m0.touch 0x8 0x8000 t0 := by
    unfold t0
    refine touch_app ?_ (Mach.setFld_touch (P := 0x8000) _ _ _ _ rfl) rfl rfl
    exact touch_refl _ _ _
  try clear_value t0
  refine touch_each ?_ (fun y x hx => ?_)
  · exact ht0
  · refine touch_app ?_ (Mach.setFld_touch (P := 0x8000) _ _ _ _ (within_nth _ _ rfl)) rfl rfl
    exact hx

theorem Mach.plsRestart_touch (m0 : Mach) (a1 : ℕ) : m0.touch 0x80000108 0x8000 (Mach.plsRestart m0 a1) := by
  unfold Mach.plsRestart
  extract_lets -underBinder -merge -useContext +onlyGivenNames t0
  have ht0 : m0.touch 0x80000108 0x8000 t0 := by
    unfold t0
    refine touch_app ?_ (Mach.disarm_touch ..) rfl rfl
    refine touch_app ?_ (Mach.disarm_touch ..) rfl rfl
    refine touch_app ?_ (Mach.disarm_touch ..) rfl rfl
    exact touch_refl _ _ _
  try clear_value t0
  extract_lets -underBinder -merge -useContext +onlyGivenNames l0
  try clear_value l0
  extract_lets -underBinder -merge -useContext +onlyGivenNames t1
  have ht1 : m0.touch 0x80000108 0x8000 t1 := by
    unfold t1
    refine touch_app ?_ (Mach.onPin_touch ..) rfl rfl
    exact ht0
  try clear_value t1
  extract_lets -underBinder -merge -useContext +onlyGivenNames t2
  have ht2 : m0.touch 0x80000108 0x8000 t2 := by
    unfold t2
    refine touch_app ?_ (Mach.setFlag_touch (P := 0x8000) _ _ _ _ rfl) rfl rfl
    refine touch_app ?_ (Mach.setFlag_touch (P := 0x8000) _ _ _ _ rfl) rfl rfl
    exact ht1
  try clear_value t2
  refine touch_ite (fun _ => ?_) (fun _ => ?_)
  · refine touch_app ?_ (Mach.armStall_touch ..) rfl rfl
    exact ht2
  · exact ht2

theorem Mach.plsApply_touch (m0 : Mach) (a1 : KMap Word) : m0.touch 0x80000108 0x8000 (Mach.plsApply m0 a1) := by
  unfold Mach.plsApply
  refine touch_each ?_ (fun y x hx => ?_)
  · exact touch_refl _ _ _
  · refine touch_ite (fun _ => ?_) (fun _ => ?_)
    · refine touch_app ?_ (Mach.plsRestart_touch ..) rfl rfl
      exact hx
    · exact hx

end Sys2Proof.Machine
end

