-- ==== Sys2Proof/Laws/Frame/Pub.lean ====
section
/-! SUPPORT. The frame of each operation of Pub.lean: the parts of the module it can change. -/

namespace Sys2Proof.Machine

theorem Mach.onGcb_touch (m0 : Mach) (a1 : ℕ) (a2 : Gcb → Gcb) : m0.touch 0x800000 0x0 (Mach.onGcb m0 a1 a2) := by
  unfold Mach.onGcb
  refine touch_app ?_ (Mach.onPub_touch ..) rfl rfl
  exact touch_refl _ _ _

theorem Mach.noteKey_touch (m0 : Mach) (a1 : Bool) : m0.touch 0x3008 0x1000 (Mach.noteKey m0 a1) := by
  unfold Mach.noteKey
  extract_lets -underBinder -merge -useContext +onlyGivenNames t0
  have ht0 : m0.touch 0x3008 0x1000 t0 := by
    unfold t0
    refine touch_app ?_ (Mach.setFlag_touch (P := 0x1000) _ _ _ _ rfl) rfl rfl
    exact touch_refl _ _ _
  try clear_value t0
  refine touch_ite (fun _ => ?_) (fun _ => ?_)
  · refine touch_app ?_ (Mach.event_touch (P := 0x1000) _ _ _ _ rfl (by decide)) rfl rfl
    refine touch_app ?_ (Mach.count_touch (P := 0x1000) _ _ _ _ (within_nth _ _ rfl)) rfl rfl
    exact ht0
  · exact ht0

theorem Mach.pubSend_touch (m0 : Mach) (a1 : Built) : m0.touch 0x1f84b908 0x30ffff00071000 (Mach.pubSend m0 a1) := by
  unfold Mach.pubSend
  extract_lets -underBinder -merge -useContext +onlyGivenNames l0
  try clear_value l0
  extract_lets -underBinder -merge -useContext +onlyGivenNames t0
  have ht0 : m0.touch 0x1f84b908 0x30ffff00071000 t0 := by
    unfold t0
    refine touch_app ?_ (Mach.noteKey_touch ..) rfl rfl
    refine touch_app ?_ (Mach.count_touch (P := 0x30ffff00071000) _ _ _ _ rfl) rfl rfl
    exact touch_refl _ _ _
  try clear_value t0
  extract_lets -underBinder -merge -useContext +onlyGivenNames l1
  try clear_value l1
  refine touch_app ?_ (Mach.inject_touch ..) rfl rfl
  exact ht0

theorem Mach.cmpDiff_touch (m0 : Mach) : m0.touch 0x1003008 0x1000 (Mach.cmpDiff m0) := by
  unfold Mach.cmpDiff
  extract_lets -underBinder -merge -useContext +onlyGivenNames t0
  have ht0 : m0.touch 0x1003008 0x1000 t0 := by
    unfold t0
    refine touch_app ?_ (Mach.event_touch (P := 0x1000) _ _ _ _ rfl (by decide)) rfl rfl
    refine touch_app ?_ (Mach.count_touch (P := 0x1000) _ _ _ _ (within_nth _ _ rfl)) rfl rfl
    exact touch_refl _ _ _
  try clear_value t0
  refine touch_app ?_ (Mach.onTwn_touch ..) rfl rfl
  exact ht0

theorem Mach.decide__touch (m0 : Mach) (a1 : Built) (a2 : BitVec 64) : m0.touch 0x1f84b908 0x30ffff00071000 (Mach.decide_ m0 a1 a2) := by
  unfold Mach.decide_
  refine touch_ite (fun _ => ?_) (fun _ => ?_)
  · refine touch_app ?_ (Mach.pubSend_touch ..) rfl rfl
    exact touch_refl _ _ _
  · refine touch_app ?_ (Mach.cmpDiff_touch ..) rfl rfl
    exact touch_refl _ _ _

theorem Mach.dispose_touch (m0 : Mach) (a1 : Built) (a2 : Bool) (a3 : ℕ) : m0.touch 0x1f84b908 0x30ffff00071000 (Mach.dispose m0 a1 a2 a3) := by
  unfold Mach.dispose
  split
  · refine touch_app ?_ (Mach.pubSend_touch ..) rfl rfl
    exact touch_refl _ _ _
  · extract_lets -underBinder -merge -useContext +onlyGivenNames t0
    have ht0 : m0.touch 0x1f84b908 0x30ffff00071000 t0 := by
      unfold t0
      refine touch_app ?_ (Mach.pubSend_touch ..) rfl rfl
      exact touch_refl _ _ _
    try clear_value t0
    extract_lets -underBinder -merge -useContext +onlyGivenNames t1
    have ht1 : m0.touch 0x1f84b908 0x30ffff00071000 t1 := by
      unfold t1
      refine touch_app ?_ (Mach.plaitSend_touch ..) rfl rfl
      exact ht0
    try clear_value t1
    refine touch_ite (fun _ => ?_) (fun _ => ?_)
    · refine touch_app ?_ (Mach.plaitSend_touch ..) rfl rfl
      exact ht1
    · exact ht1
  · extract_lets -underBinder -merge -useContext +onlyGivenNames l0
    try clear_value l0
    extract_lets -underBinder -merge -useContext +onlyGivenNames t0
    have ht0 : m0.touch 0x1f84b908 0x30ffff00071000 t0 := by
      unfold t0
      refine touch_app ?_ (Mach.onPub_touch ..) rfl rfl
      exact touch_refl _ _ _
    try clear_value t0
    refine touch_ite (fun _ => ?_) (fun _ => ?_)
    · extract_lets -underBinder -merge -useContext +onlyGivenNames t1
      have ht1 : m0.touch 0x1f84b908 0x30ffff00071000 t1 := by
        unfold t1
        refine touch_app ?_ (Mach.pubSend_touch ..) rfl rfl
        exact ht0
      try clear_value t1
      split
      · refine touch_ite (fun _ => ?_) (fun _ => ?_)
        · exact ht1
        · refine touch_app ?_ (Mach.cmpDiff_touch ..) rfl rfl
          exact ht1
      · refine touch_app ?_ (Mach.onPub_touch ..) rfl rfl
        exact ht1
    · split
      · refine touch_app ?_ (Mach.decide__touch ..) rfl rfl
        exact ht0
      · extract_lets -underBinder -merge -useContext +onlyGivenNames t1
        have ht1 : m0.touch 0x1f84b908 0x30ffff00071000 t1 := by
          unfold t1
          refine touch_app ?_ (Mach.onPub_touch ..) rfl rfl
          exact ht0
        try clear_value t1
        refine touch_ite (fun _ => ?_) (fun _ => ?_)
        · exact ht1
        · refine touch_app ?_ (Mach.arm_touch ..) rfl rfl
          exact ht1
  · refine touch_app ?_ (Mach.count_touch (P := 0x30ffff00071000) _ _ _ _ (within_nth _ _ rfl)) rfl rfl
    exact touch_refl _ _ _

theorem Mach.armCompare_touch (m0 : Mach) (a1 : ℕ) : m0.touch 0x100 0x0 (Mach.armCompare m0 a1) := by
  unfold Mach.armCompare
  split
  · refine touch_app ?_ (Mach.arm_touch ..) rfl rfl
    exact touch_refl _ _ _
  · refine touch_app ?_ (Mach.disarm_touch ..) rfl rfl
    exact touch_refl _ _ _

theorem Mach.digestCame_touch (m0 : Mach) (a1 : ℕ) (a2 : ℕ) (a3 : ℕ) (a4 : ℕ) (a5 : BitVec 64) : m0.touch 0x1f84b908 0x30ffff00071000 (Mach.digestCame m0 a1 a2 a3 a4 a5) := by
  unfold Mach.digestCame
  split
  · extract_lets -underBinder -merge -useContext +onlyGivenNames t0
    have ht0 : m0.touch 0x1f84b908 0x30ffff00071000 t0 := by
      unfold t0
      refine touch_app ?_ (Mach.armCompare_touch ..) rfl rfl
      refine touch_app ?_ (Mach.onPub_touch ..) rfl rfl
      exact touch_refl _ _ _
    try clear_value t0
    refine touch_app ?_ (Mach.decide__touch ..) rfl rfl
    exact ht0
  · split
    · extract_lets -underBinder -merge -useContext +onlyGivenNames t0
      have ht0 : m0.touch 0x1f84b908 0x30ffff00071000 t0 := by
        unfold t0
        refine touch_app ?_ (Mach.onPub_touch ..) rfl rfl
        exact touch_refl _ _ _
      try clear_value t0
      refine touch_ite (fun _ => ?_) (fun _ => ?_)
      · exact ht0
      · refine touch_app ?_ (Mach.cmpDiff_touch ..) rfl rfl
        exact ht0
    · refine touch_app ?_ (Mach.onPub_touch ..) rfl rfl
      exact touch_refl _ _ _

theorem Mach.compareOut_touch (m0 : Mach) (a1 : ℕ) : m0.touch 0x1f84b908 0x30ffff00071000 (Mach.compareOut m0 a1) := by
  unfold Mach.compareOut
  split
  extract_lets -underBinder -merge -useContext +onlyGivenNames t0
  have ht0 : m0.touch 0x1f84b908 0x30ffff00071000 t0 := by
    unfold t0
    refine touch_app ?_ (Mach.armCompare_touch ..) rfl rfl
    refine touch_app ?_ (Mach.onPub_touch ..) rfl rfl
    exact touch_refl _ _ _
  try clear_value t0
  refine touch_each ?_ (fun y x hx => ?_)
  · exact ht0
  · refine touch_app ?_ (Mach.pubSend_touch ..) rfl rfl
    refine touch_app ?_ (Mach.event_touch (P := 0x30ffff00071000) _ _ _ _ rfl (by decide)) rfl rfl
    refine touch_app ?_ (Mach.count_touch (P := 0x30ffff00071000) _ _ _ _ (within_nth _ _ rfl)) rfl rfl
    exact hx

theorem Mach.setRole_touch (m0 : Mach) (a1 : ℕ) : m0.touch 0x1f84b908 0x30ffff00071000 (Mach.setRole m0 a1) := by
  unfold Mach.setRole
  refine touch_ite (fun _ => ?_) (fun _ => ?_)
  · exact touch_refl _ _ _
  · extract_lets -underBinder -merge -useContext +onlyGivenNames l0
    try clear_value l0
    extract_lets -underBinder -merge -useContext +onlyGivenNames t0
    have ht0 : m0.touch 0x1f84b908 0x30ffff00071000 t0 := by
      unfold t0
      refine touch_app ?_ (Mach.event_touch (P := 0x30ffff00071000) _ _ _ _ rfl (by decide)) rfl rfl
      refine touch_app ?_ (Mach.setFld_touch (P := 0x30ffff00071000) _ _ _ _ rfl) rfl rfl
      exact touch_refl _ _ _
    try clear_value t0
    extract_lets -underBinder -merge -useContext +onlyGivenNames t1
    have ht1 : m0.touch 0x1f84b908 0x30ffff00071000 t1 := by
      unfold t1
      refine touch_each ?_ (fun y x hx => ?_)
      · exact ht0
      · refine touch_app ?_ (Mach.disarm_touch ..) rfl rfl
        exact hx
    try clear_value t1
    extract_lets -underBinder -merge -useContext +onlyGivenNames t2
    have ht2 : m0.touch 0x1f84b908 0x30ffff00071000 t2 := by
      unfold t2
      refine touch_app ?_ (Mach.onPub_touch ..) rfl rfl
      exact ht1
    try clear_value t2
    refine touch_ite (fun _ => ?_) (fun _ => ?_)
    · exact ht2
    · refine touch_ite (fun _ => ?_) (fun _ => ?_)
      · refine touch_each ?_ (fun y x hx => ?_)
        · exact ht2
        · refine touch_app ?_ (Mach.pubSend_touch ..) rfl rfl
          exact hx
      · refine touch_app ?_ (Mach.count_touch (P := 0x30ffff00071000) _ _ _ _ (within_nth _ _ rfl)) rfl rfl
        exact ht2

theorem Mach.onSub_touch (m0 : Mach) (a1 : ℕ) (a2 : Sub → Sub) : m0.touch 0x800000 0x0 (Mach.onSub m0 a1 a2) := by
  unfold Mach.onSub
  refine touch_app ?_ (Mach.onPub_touch ..) rfl rfl
  exact touch_refl _ _ _

theorem Mach.deliverEvent_touch (m0 : Mach) (a1 : ℕ) (a2 : SubEvent) : m0.touch 0x200b908 0x30000000000000 (Mach.deliverEvent m0 a1 a2) := by
  unfold Mach.deliverEvent
  refine touch_app ?_ (Mach.deliver_touch ..) rfl rfl
  exact touch_refl _ _ _

theorem Mach.offerEvent_touch (m0 : Mach) (a1 : SubEvent) : m0.touch 0x280b908 0x30000000000000 (Mach.offerEvent m0 a1) := by
  unfold Mach.offerEvent
  refine touch_ite (fun _ => ?_) (fun _ => ?_)
  · refine touch_app ?_ (Mach.onPub_touch ..) rfl rfl
    exact touch_refl _ _ _
  · refine touch_app ?_ (Mach.deliverEvent_touch ..) rfl rfl
    exact touch_refl _ _ _

theorem Mach.subAccept_touch (m0 : Mach) (a1 : ℕ) (a2 : GooseApdu) (a3 : ℕ) : m0.touch 0x2280b908 0x30000000001000 (Mach.subAccept m0 a1 a2 a3) := by
  unfold Mach.subAccept
  extract_lets -underBinder -merge -useContext +onlyGivenNames l0
  try clear_value l0
  extract_lets -underBinder -merge -useContext +onlyGivenNames l1
  try clear_value l1
  extract_lets -underBinder -merge -useContext +onlyGivenNames l2
  try clear_value l2
  extract_lets -underBinder -merge -useContext +onlyGivenNames t0
  have ht0 : m0.touch 0x2280b908 0x30000000001000 t0 := by
    unfold t0
    refine touch_app ?_ (Mach.onSub_touch ..) rfl rfl
    exact touch_refl _ _ _
  try clear_value t0
  extract_lets -underBinder -merge -useContext +onlyGivenNames t1
  have ht1 : m0.touch 0x2280b908 0x30000000001000 t1 := by
    unfold t1
    refine touch_app ?_ (Mach.arm_touch ..) rfl rfl
    refine touch_app ?_ (Mach.setFld_touch (P := 0x30000000001000) _ _ _ _ rfl) rfl rfl
    exact ht0
  try clear_value t1
  extract_lets -underBinder -merge -useContext +onlyGivenNames t2
  have ht2 : m0.touch 0x2280b908 0x30000000001000 t2 := by
    unfold t2
    refine touch_app ?_ (Mach.acqGoose_touch ..) rfl rfl
    exact ht1
  try clear_value t2
  refine touch_ite (fun _ => ?_) (fun _ => ?_)
  · refine touch_app ?_ (Mach.offerEvent_touch ..) rfl rfl
    exact ht2
  · exact ht2

theorem Mach.subCheck_touch (m0 : Mach) (a1 : ℕ) (a2 : GooseApdu) (a3 : ℕ) : m0.touch 0x2280b908 0x30000000001000 (Mach.subCheck m0 a1 a2 a3) := by
  unfold Mach.subCheck
  refine touch_ite (fun _ => ?_) (fun _ => ?_)
  · refine touch_app ?_ (Mach.count_touch (P := 0x30000000001000) _ _ _ _ (within_nth _ _ rfl)) rfl rfl
    exact touch_refl _ _ _
  · refine touch_ite (fun _ => ?_) (fun _ => ?_)
    · refine touch_app ?_ (Mach.event_touch (P := 0x30000000001000) _ _ _ _ rfl (by decide)) rfl rfl
      refine touch_app ?_ (Mach.count_touch (P := 0x30000000001000) _ _ _ _ (within_nth _ _ rfl)) rfl rfl
      exact touch_refl _ _ _
    · refine touch_ite (fun _ => ?_) (fun _ => ?_)
      · refine touch_app ?_ (Mach.count_touch (P := 0x30000000001000) _ _ _ _ (within_nth _ _ rfl)) rfl rfl
        exact touch_refl _ _ _
      · extract_lets -underBinder -merge -useContext +onlyGivenNames l0
        try clear_value l0
        refine touch_ite (fun _ => ?_) (fun _ => ?_)
        · refine touch_app ?_ (Mach.count_touch (P := 0x30000000001000) _ _ _ _ (within_nth _ _ rfl)) rfl rfl
          exact touch_refl _ _ _
        · refine touch_app ?_ (Mach.subAccept_touch ..) rfl rfl
          exact touch_refl _ _ _

theorem Mach.gooseCheck_touch (m0 : Mach) (a1 : Mac) (a2 : GooseApdu) (a3 : ℕ) : m0.touch 0x2280b908 0x30000000001000 (Mach.gooseCheck m0 a1 a2 a3) := by
  unfold Mach.gooseCheck
  split
  · refine touch_app ?_ (Mach.count_touch (P := 0x30000000001000) _ _ _ _ (within_nth _ _ rfl)) rfl rfl
    exact touch_refl _ _ _
  · refine touch_each ?_ (fun y x hx => ?_)
    · exact touch_refl _ _ _
    · refine touch_app ?_ (Mach.subCheck_touch ..) rfl rfl
      exact hx

theorem Mach.gooseRx_touch (m0 : Mach) (a1 : Frame) (a2 : ℕ) : m0.touch 0x2280b908 0x30000000001000 (Mach.gooseRx m0 a1 a2) := by
  unfold Mach.gooseRx
  refine touch_ite (fun _ => ?_) (fun _ => ?_)
  · refine touch_app ?_ (Mach.count_touch (P := 0x30000000001000) _ _ _ _ (within_nth _ _ rfl)) rfl rfl
    exact touch_refl _ _ _
  · split
    · refine touch_ite (fun _ => ?_) (fun _ => ?_)
      · refine touch_app ?_ (Mach.count_touch (P := 0x30000000001000) _ _ _ _ (within_nth _ _ rfl)) rfl rfl
        exact touch_refl _ _ _
      · refine touch_ite (fun _ => ?_) (fun _ => ?_)
        · refine touch_app ?_ (Mach.count_touch (P := 0x30000000001000) _ _ _ _ (within_nth _ _ rfl)) rfl rfl
          exact touch_refl _ _ _
        · refine touch_app ?_ (Mach.gooseCheck_touch ..) rfl rfl
          exact touch_refl _ _ _
    · refine touch_app ?_ (Mach.count_touch (P := 0x30000000001000) _ _ _ _ (within_nth _ _ rfl)) rfl rfl
      exact touch_refl _ _ _

theorem Mach.enterExpired_touch (m0 : Mach) (a1 : ℕ) : m0.touch 0x3008 0x1000 (Mach.enterExpired m0 a1) := by
  unfold Mach.enterExpired
  refine touch_app ?_ (Mach.event_touch (P := 0x1000) _ _ _ _ rfl (by decide)) rfl rfl
  refine touch_app ?_ (Mach.count_touch (P := 0x1000) _ _ _ _ (within_nth _ _ rfl)) rfl rfl
  refine touch_app ?_ (Mach.setFld_touch (P := 0x1000) _ _ _ _ rfl) rfl rfl
  exact touch_refl _ _ _

theorem Mach.mergedEvent_touch (m0 : Mach) (a1 : ℕ) (a2 : SubEvent) : m0.touch 0x200b908 0x30000000001000 (Mach.mergedEvent m0 a1 a2) := by
  unfold Mach.mergedEvent
  extract_lets -underBinder -merge -useContext +onlyGivenNames l0
  try clear_value l0
  extract_lets -underBinder -merge -useContext +onlyGivenNames t0
  have ht0 : m0.touch 0x200b908 0x30000000001000 t0 := by
    unfold t0
    refine touch_ite (fun _ => ?_) (fun _ => ?_)
    · refine touch_app ?_ (Mach.disarm_touch ..) rfl rfl
      refine touch_app ?_ (Mach.enterExpired_touch ..) rfl rfl
      exact touch_refl _ _ _
    · exact touch_refl _ _ _
  try clear_value t0
  refine touch_app ?_ (Mach.deliverEvent_touch ..) rfl rfl
  exact ht0

theorem Mach.subExpire_touch (m0 : Mach) (a1 : ℕ) : m0.touch 0x280b908 0x30000000001000 (Mach.subExpire m0 a1) := by
  unfold Mach.subExpire
  extract_lets -underBinder -merge -useContext +onlyGivenNames l0
  try clear_value l0
  extract_lets -underBinder -merge -useContext +onlyGivenNames t0
  have ht0 : m0.touch 0x280b908 0x30000000001000 t0 := by
    unfold t0
    refine touch_app ?_ (Mach.enterExpired_touch ..) rfl rfl
    exact touch_refl _ _ _
  try clear_value t0
  refine touch_app ?_ (Mach.offerEvent_touch ..) rfl rfl
  exact ht0

theorem Mach.schedule_touch (m0 : Mach) (a1 : ℕ) (a2 : Option ℕ) : m0.touch 0x800100 0x0 (Mach.schedule m0 a1 a2) := by
  unfold Mach.schedule
  extract_lets -underBinder -merge -useContext +onlyGivenNames t0
  have ht0 : m0.touch 0x800100 0x0 t0 := by
    unfold t0
    refine touch_app ?_ (Mach.onGcb_touch ..) rfl rfl
    exact touch_refl _ _ _
  try clear_value t0
  split
  · refine touch_app ?_ (Mach.arm_touch ..) rfl rfl
    exact ht0
  · refine touch_app ?_ (Mach.disarm_touch ..) rfl rfl
    exact ht0

theorem Mach.buildGoose_touch (m0 : Mach) (a1 : ℕ) (a2 : ℕ) (a3 : ℕ) (a4 : ℕ) (a5 : ℤ) (a6 : Bool) (a7 : ℕ) : m0.touch 0x3f84b908 0x30ffff00071000 (Mach.buildGoose m0 a1 a2 a3 a4 a5 a6 a7) := by
  unfold Mach.buildGoose
  extract_lets -underBinder -merge -useContext +onlyGivenNames l0
  try clear_value l0
  extract_lets -underBinder -merge -useContext +onlyGivenNames l1
  try clear_value l1
  split
  rename_i p0_0 p0_1 p0_2 he3
  have hp0_2 : m0.touch 0x3f84b908 0x30ffff00071000 p0_2 := by
    refine touch_snd he3 ?_
    refine touch_app ?_ (Mach.drawPubSeq_touch ..) rfl rfl
    exact touch_refl _ _ _
  extract_lets -underBinder -merge -useContext +onlyGivenNames l2
  try clear_value l2
  extract_lets -underBinder -merge -useContext +onlyGivenNames t0
  have ht0 : m0.touch 0x3f84b908 0x30ffff00071000 t0 := by
    unfold t0
    refine touch_app ?_ (Mach.setFld_touch (P := 0x30ffff00071000) _ _ _ _ rfl) rfl rfl
    refine touch_app ?_ (Mach.setFld_touch (P := 0x30ffff00071000) _ _ _ _ rfl) rfl rfl
    exact hp0_2
  try clear_value t0
  extract_lets -underBinder -merge -useContext +onlyGivenNames l3
  try clear_value l3
  extract_lets -underBinder -merge -useContext +onlyGivenNames t1
  have ht1 : m0.touch 0x3f84b908 0x30ffff00071000 t1 := by
    unfold t1
    split
    · refine touch_each ?_ (fun y x hx => ?_)
      · exact ht0
      · refine touch_app ?_ (Mach.subCheck_touch ..) rfl rfl
        exact hx
    · exact ht0
  try clear_value t1
  refine touch_app ?_ (Mach.dispose_touch ..) rfl rfl
  exact ht1

theorem Mach.buildOutput_touch (m0 : Mach) (a1 : ℕ) (a2 : Output) : m0.touch 0x3f84b908 0x30ffff00071000 (Mach.buildOutput m0 a1 a2).1 := by
  unfold Mach.buildOutput
  change Mach.touch1 _ _ m0 _
  extract_lets -underBinder -merge -useContext +onlyGivenNames l0
  try clear_value l0
  extract_lets -underBinder -merge -useContext +onlyGivenNames l1
  try clear_value l1
  extract_lets -underBinder -merge -useContext +onlyGivenNames l2
  try clear_value l2
  extract_lets -underBinder -merge -useContext +onlyGivenNames t0
  have ht0 : m0.touch 0x3f84b908 0x30ffff00071000 t0 := by
    unfold t0
    refine touch_app ?_ (Mach.setFlag_touch (P := 0x30ffff00071000) _ _ _ _ rfl) rfl rfl
    exact touch_refl _ _ _
  try clear_value t0
  extract_lets -underBinder -merge -useContext +onlyGivenNames t1
  have ht1 : m0.touch 0x3f84b908 0x30ffff00071000 t1 := by
    unfold t1
    refine touch_ite (fun _ => ?_) (fun _ => ?_)
    · refine touch_app ?_ (Mach.event_touch (P := 0x30ffff00071000) _ _ _ _ rfl (by decide)) rfl rfl
      exact ht0
    · exact ht0
  try clear_value t1
  extract_lets -underBinder -merge -useContext +onlyGivenNames t2
  have ht2 : m0.touch 0x3f84b908 0x30ffff00071000 t2 := by
    unfold t2
    refine touch_app ?_ (Mach.onGcb_touch ..) rfl rfl
    exact ht1
  try clear_value t2
  split
  · exact ht2
  · extract_lets -underBinder -merge -useContext +onlyGivenNames l3
    try clear_value l3
    extract_lets -underBinder -merge -useContext +onlyGivenNames t3
    have ht3 : m0.touch 0x3f84b908 0x30ffff00071000 t3 := by
      unfold t3
      refine touch_app ?_ (Mach.onGcb_touch ..) rfl rfl
      exact ht2
    try clear_value t3
    extract_lets -underBinder -merge -useContext +onlyGivenNames t4
    have ht4 : m0.touch 0x3f84b908 0x30ffff00071000 t4 := by
      unfold t4
      refine touch_app ?_ (Mach.schedule_touch ..) rfl rfl
      exact ht3
    try clear_value t4
    refine touch_app ?_ (Mach.buildGoose_touch ..) rfl rfl
    exact ht4

theorem Mach.buildRetrans_touch (m0 : Mach) (a1 : ℕ) (a2 : ℕ) : m0.touch 0x3f84b908 0x30ffff00071000 (Mach.buildRetrans m0 a1 a2).1 := by
  unfold Mach.buildRetrans
  change Mach.touch1 _ _ m0 _
  extract_lets -underBinder -merge -useContext +onlyGivenNames l0
  try clear_value l0
  split
  · exact touch_refl _ _ _
  · extract_lets -underBinder -merge -useContext +onlyGivenNames l1
    try clear_value l1
    extract_lets -underBinder -merge -useContext +onlyGivenNames t0
    have ht0 : m0.touch 0x3f84b908 0x30ffff00071000 t0 := by
      unfold t0
      refine touch_app ?_ (Mach.onGcb_touch ..) rfl rfl
      exact touch_refl _ _ _
    try clear_value t0
    extract_lets -underBinder -merge -useContext +onlyGivenNames t1
    have ht1 : m0.touch 0x3f84b908 0x30ffff00071000 t1 := by
      unfold t1
      refine touch_app ?_ (Mach.count_touch (P := 0x30ffff00071000) _ _ _ _ (within_nth _ _ rfl)) rfl rfl
      refine touch_app ?_ (Mach.schedule_touch ..) rfl rfl
      exact ht0
    try clear_value t1
    refine touch_app ?_ (Mach.buildGoose_touch ..) rfl rfl
    exact ht1

theorem Mach.buildSv_touch (m0 : Mach) (a1 : ℕ) (a2 : List Asdu) : m0.touch 0x1f84b908 0x30ffff00071000 (Mach.buildSv m0 a1 a2) := by
  unfold Mach.buildSv
  extract_lets -underBinder -merge -useContext +onlyGivenNames l0
  try clear_value l0
  split
  rename_i p0_0 p0_1 p0_2 he3
  have hp0_2 : m0.touch 0x1f84b908 0x30ffff00071000 p0_2 := by
    refine touch_snd he3 ?_
    refine touch_app ?_ (Mach.drawPubSeq_touch ..) rfl rfl
    exact touch_refl _ _ _
  extract_lets -underBinder -merge -useContext +onlyGivenNames l1
  try clear_value l1
  extract_lets -underBinder -merge -useContext +onlyGivenNames l2
  try clear_value l2
  extract_lets -underBinder -merge -useContext +onlyGivenNames t0
  have ht0 : m0.touch 0x1f84b908 0x30ffff00071000 t0 := by
    unfold t0
    refine touch_app ?_ (Mach.setFld_touch (P := 0x30ffff00071000) _ _ _ _ rfl) rfl rfl
    exact hp0_2
  try clear_value t0
  refine touch_app ?_ (Mach.dispose_touch ..) rfl rfl
  exact ht0

theorem Mach.svAsdu_touch (m0 : Mach) (a1 : ℕ) (a2 : ℕ) (a3 : List (BitVec 32 × BitVec 16)) : m0.touch 0x1f84b908 0x30ffff00071000 (Mach.svAsdu m0 a1 a2 a3).1 := by
  unfold Mach.svAsdu
  change Mach.touch1 _ _ m0 _
  extract_lets -underBinder -merge -useContext +onlyGivenNames l0
  try clear_value l0
  extract_lets -underBinder -merge -useContext +onlyGivenNames l1
  try clear_value l1
  extract_lets -underBinder -merge -useContext +onlyGivenNames l2
  try clear_value l2
  extract_lets -underBinder -merge -useContext +onlyGivenNames l3
  try clear_value l3
  extract_lets -underBinder -merge -useContext +onlyGivenNames l4
  try clear_value l4
  split
  · refine touch_app ?_ (Mach.buildSv_touch ..) rfl rfl
    refine touch_app ?_ (Mach.onGcb_touch ..) rfl rfl
    exact touch_refl _ _ _
  · refine touch_app ?_ (Mach.onGcb_touch ..) rfl rfl
    exact touch_refl _ _ _

theorem Mach.pubWork_touch (m0 : Mach) (a1 : PubJob) : m0.touch 0x3f84b908 0x30ffff00071000 (Mach.pubWork m0 a1).1 := by
  unfold Mach.pubWork
  change Mach.touch1 _ _ m0 _
  split
  · exact touch_refl _ _ _
  · split
    · refine touch_app ?_ (Mach.buildOutput_touch ..) rfl rfl
      exact touch_refl _ _ _
    · refine touch_app ?_ (Mach.buildRetrans_touch ..) rfl rfl
      exact touch_refl _ _ _
    · refine touch_app ?_ (Mach.svAsdu_touch ..) rfl rfl
      exact touch_refl _ _ _
    · exact touch_refl _ _ _

theorem Mach.fillBuild_touch (m0 : Mach) : m0.touch 0x800000 0x0 (Mach.fillBuild m0) := by
  unfold Mach.fillBuild
  extract_lets -underBinder -merge -useContext +onlyGivenNames l0
  refine touch_app ?_ (Mach.onPub_touch ..) rfl rfl
  exact touch_refl _ _ _

theorem Mach.pubQueue_touch (m0 : Mach) (a1 : List PubJob) : m0.touch 0x800000 0x0 (Mach.pubQueue m0 a1) := by
  unfold Mach.pubQueue
  refine touch_app ?_ (Mach.fillBuild_touch ..) rfl rfl
  refine touch_app ?_ (Mach.onPub_touch ..) rfl rfl
  exact touch_refl _ _ _

theorem Mach.dropWork_touch (m0 : Mach) (a1 : ℕ) : m0.touch 0x800000 0x0 (Mach.dropWork m0 a1) := by
  unfold Mach.dropWork
  refine touch_app ?_ (Mach.fillBuild_touch ..) rfl rfl
  refine touch_app ?_ (Mach.onPub_touch ..) rfl rfl
  exact touch_refl _ _ _

theorem Mach.pubBuild_touch (m0 : Mach) (a1 : ℕ) : m0.touch 0x3f84b908 0x30ffff00071000 (Mach.pubBuild m0 a1) := by
  induction a1 generalizing m0
  · unfold Mach.pubBuild
    exact touch_refl _ _ _
  · rename_i n ih
    unfold Mach.pubBuild
    split
    · exact touch_refl _ _ _
    · split
      rename_i p0_0 p0_1 p0_2 he3
      have hp0_1 : m0.touch 0x3f84b908 0x30ffff00071000 p0_1 := by
        refine touch_fst he3 ?_
        refine touch_app ?_ (Mach.pubWork_touch ..) rfl rfl
        refine touch_app ?_ (Mach.fillBuild_touch ..) rfl rfl
        refine touch_app ?_ (Mach.onPub_touch ..) rfl rfl
        exact touch_refl _ _ _
      refine touch_ite (fun _ => ?_) (fun _ => ?_)
      · exact hp0_1
      · refine touch_app ?_ (ih ..) rfl rfl
        exact hp0_1

theorem Mach.gcbWake_touch (m0 : Mach) (a1 : ℕ) : m0.touch 0x800008 0x1000 (Mach.gcbWake m0 a1) := by
  unfold Mach.gcbWake
  refine touch_ite (fun _ => ?_) (fun _ => ?_)
  · refine touch_app ?_ (Mach.onGcb_touch ..) rfl rfl
    refine touch_app ?_ (Mach.setFld_touch (P := 0x1000) _ _ _ _ rfl) rfl rfl
    exact touch_refl _ _ _
  · exact touch_refl _ _ _

theorem Mach.retransDue_touch (m0 : Mach) (a1 : ℕ) : m0.touch 0x800000 0x0 (Mach.retransDue m0 a1) := by
  unfold Mach.retransDue
  split
  · exact touch_refl _ _ _
  · extract_lets -underBinder -merge -useContext +onlyGivenNames l0
    try clear_value l0
    refine touch_ite (fun _ => ?_) (fun _ => ?_)
    · refine touch_app ?_ (Mach.onPub_touch ..) rfl rfl
      exact touch_refl _ _ _
    · refine touch_app ?_ (Mach.pubQueue_touch ..) rfl rfl
      exact touch_refl _ _ _

theorem Mach.pubOutput_touch (m0 : Mach) (a1 : Output) : m0.touch 0x800008 0x1000 (Mach.pubOutput m0 a1) := by
  unfold Mach.pubOutput
  refine touch_ite (fun _ => ?_) (fun _ => ?_)
  · exact touch_refl _ _ _
  · refine touch_each ?_ (fun y x hx => ?_)
    · exact touch_refl _ _ _
    · extract_lets -underBinder -merge -useContext +onlyGivenNames t0
      have ht0 : m0.touch 0x800008 0x1000 t0 := by
        unfold t0
        refine touch_app ?_ (Mach.gcbWake_touch ..) rfl rfl
        exact hx
      try clear_value t0
      refine touch_ite (fun _ => ?_) (fun _ => ?_)
      · exact ht0
      · split
        extract_lets -underBinder -merge -useContext +onlyGivenNames l0
        try clear_value l0
        extract_lets -underBinder -merge -useContext +onlyGivenNames l1
        try clear_value l1
        split
        extract_lets -underBinder -merge -useContext +onlyGivenNames t1
        have ht1 : m0.touch 0x800008 0x1000 t1 := by
          unfold t1
          refine touch_app ?_ (Mach.pubQueue_touch ..) rfl rfl
          refine touch_app ?_ (Mach.onPub_touch ..) rfl rfl
          exact ht0
        try clear_value t1
        refine touch_app ?_ (Mach.onGcb_touch ..) rfl rfl
        exact ht1

theorem Mach.pubSv_touch (m0 : Mach) (a1 : SetOut) : m0.touch 0x800008 0x1000 (Mach.pubSv m0 a1) := by
  unfold Mach.pubSv
  refine touch_ite (fun _ => ?_) (fun _ => ?_)
  · exact touch_refl _ _ _
  · refine touch_each ?_ (fun y x hx => ?_)
    · exact touch_refl _ _ _
    · refine touch_each ?_ (fun y x hx => ?_)
      · exact hx
      · extract_lets -underBinder -merge -useContext +onlyGivenNames t0
        have ht0 : m0.touch 0x800008 0x1000 t0 := by
          unfold t0
          refine touch_app ?_ (Mach.gcbWake_touch ..) rfl rfl
          exact hx
        try clear_value t0
        refine touch_ite (fun _ => ?_) (fun _ => ?_)
        · exact ht0
        · extract_lets -underBinder -merge -useContext +onlyGivenNames l0
          try clear_value l0
          refine touch_app ?_ (Mach.pubQueue_touch ..) rfl rfl
          exact ht0

theorem Mach.finalBlock_touch (m0 : Mach) (a1 : ℕ) : m0.touch 0x3f84b908 0x30ffff00071000 (Mach.finalBlock m0 a1) := by
  unfold Mach.finalBlock
  extract_lets -underBinder -merge -useContext +onlyGivenNames t0
  have ht0 : m0.touch 0x3f84b908 0x30ffff00071000 t0 := by
    unfold t0
    refine touch_app ?_ (Mach.schedule_touch ..) rfl rfl
    refine touch_app ?_ (Mach.dropWork_touch ..) rfl rfl
    exact touch_refl _ _ _
  try clear_value t0
  extract_lets -underBinder -merge -useContext +onlyGivenNames l0
  try clear_value l0
  extract_lets -underBinder -merge -useContext +onlyGivenNames t1
  have ht1 : m0.touch 0x3f84b908 0x30ffff00071000 t1 := by
    unfold t1
    refine touch_app ?_ (Mach.event_touch (P := 0x30ffff00071000) _ _ _ _ rfl (by decide)) rfl rfl
    refine touch_app ?_ (Mach.count_touch (P := 0x30ffff00071000) _ _ _ _ (within_nth _ _ rfl)) rfl rfl
    exact ht0
  try clear_value t1
  extract_lets -underBinder -merge -useContext +onlyGivenNames t2
  try clear_value t2
  extract_lets -underBinder -merge -useContext +onlyGivenNames t3
  try clear_value t3
  extract_lets -underBinder -merge -useContext +onlyGivenNames t4
  try clear_value t4
  extract_lets -underBinder -merge -useContext +onlyGivenNames t5
  try clear_value t5
  extract_lets -underBinder -merge -useContext +onlyGivenNames t6
  try clear_value t6
  extract_lets -underBinder -merge -useContext +onlyGivenNames t7
  have ht7 : m0.touch 0x3f84b908 0x30ffff00071000 t7 := by
    unfold t7
    refine touch_app ?_ (Mach.onGcb_touch ..) rfl rfl
    exact ht1
  try clear_value t7
  extract_lets -underBinder -merge -useContext +onlyGivenNames t8
  have ht8 : m0.touch 0x3f84b908 0x30ffff00071000 t8 := by
    unfold t8
    refine touch_ite (fun _ => ?_) (fun _ => ?_)
    · refine touch_app ?_ (Mach.buildSv_touch ..) rfl rfl
      exact ht1
    · refine touch_app ?_ (Mach.buildGoose_touch ..) rfl rfl
      exact ht7
  try clear_value t8
  refine touch_app ?_ (Mach.onGcb_touch ..) rfl rfl
  refine touch_app ?_ (Mach.setFld_touch (P := 0x30ffff00071000) _ _ _ _ rfl) rfl rfl
  exact ht8

theorem Mach.pubFinal_touch (m0 : Mach) (a1 : ℕ) : m0.touch 0x3f84b908 0x30ffff00071000 (Mach.pubFinal m0 a1) := by
  unfold Mach.pubFinal
  refine touch_ite (fun _ => ?_) (fun _ => ?_)
  · exact touch_refl _ _ _
  · extract_lets -underBinder -merge -useContext +onlyGivenNames l0
    try clear_value l0
    split
    refine touch_each ?_ (fun y x hx => ?_)
    · exact touch_refl _ _ _
    · refine touch_app ?_ (Mach.finalBlock_touch ..) rfl rfl
      exact hx

theorem Mach.applyFrec_touch (m0 : Mach) (a1 : FrecMsg) : m0.touch 0x800108 0x1000 (Mach.applyFrec m0 a1) := by
  unfold Mach.applyFrec
  extract_lets -underBinder -merge -useContext +onlyGivenNames l0
  try clear_value l0
  extract_lets -underBinder -merge -useContext +onlyGivenNames l1
  try clear_value l1
  extract_lets -underBinder -merge -useContext +onlyGivenNames t0
  have ht0 : m0.touch 0x800108 0x1000 t0 := by
    unfold t0
    refine touch_app ?_ (Mach.onPub_touch ..) rfl rfl
    exact touch_refl _ _ _
  try clear_value t0
  extract_lets -underBinder -merge -useContext +onlyGivenNames t1
  have ht1 : m0.touch 0x800108 0x1000 t1 := by
    unfold t1
    refine touch_app ?_ (Mach.setFld_touch (P := 0x1000) _ _ _ _ rfl) rfl rfl
    refine touch_app ?_ (Mach.setFld_touch (P := 0x1000) _ _ _ _ rfl) rfl rfl
    exact ht0
  try clear_value t1
  split
  · refine touch_app ?_ (Mach.onGcb_touch ..) rfl rfl
    exact ht1
  · extract_lets -underBinder -merge -useContext +onlyGivenNames l2
    try clear_value l2
    extract_lets -underBinder -merge -useContext +onlyGivenNames t2
    have ht2 : m0.touch 0x800108 0x1000 t2 := by
      unfold t2
      refine touch_app ?_ (Mach.onGcb_touch ..) rfl rfl
      exact ht1
    try clear_value t2
    refine touch_app ?_ (Mach.schedule_touch ..) rfl rfl
    exact ht2
  · exact ht1

theorem Mach.advanceNumbers_touch (m0 : Mach) : m0.touch 0x800008 0x1000 (Mach.advanceNumbers m0) := by
  unfold Mach.advanceNumbers
  extract_lets -underBinder -merge -useContext +onlyGivenNames t0
  have ht0 : m0.touch 0x800008 0x1000 t0 := by
    unfold t0
    refine touch_app ?_ (Mach.onPub_touch ..) rfl rfl
    exact touch_refl _ _ _
  try clear_value t0
  refine touch_each ?_ (fun y x hx => ?_)
  · exact ht0
  · refine touch_ite (fun _ => ?_) (fun _ => ?_)
    · exact hx
    · extract_lets -underBinder -merge -useContext +onlyGivenNames l0
      try clear_value l0
      refine touch_app ?_ (Mach.onGcb_touch ..) rfl rfl
      refine touch_app ?_ (Mach.setFld_touch (P := 0x1000) _ _ _ _ rfl) rfl rfl
      exact hx

theorem Mach.pubApply_touch (m0 : Mach) (a1 : KMap Word) (a2 : List Host.Cell) : m0.touch 0x800108 0x1000 (Mach.pubApply m0 a1 a2) := by
  unfold Mach.pubApply
  extract_lets -underBinder -merge -useContext +onlyGivenNames l0
  try clear_value l0
  extract_lets -underBinder -merge -useContext +onlyGivenNames t0
  have ht0 : m0.touch 0x800108 0x1000 t0 := by
    unfold t0
    refine touch_each ?_ (fun y x hx => ?_)
    · exact touch_refl _ _ _
    · extract_lets -underBinder -merge -useContext +onlyGivenNames t1
      have ht1 : m0.touch 0x800108 0x1000 t1 := by
        unfold t1
        refine touch_app ?_ (Mach.setFld_touch (P := 0x1000) _ _ _ _ rfl) rfl rfl
        exact hx
      try clear_value t1
      refine touch_ite (fun _ => ?_) (fun _ => ?_)
      · exact ht1
      · extract_lets -underBinder -merge -useContext +onlyGivenNames t2
        have ht2 : m0.touch 0x800108 0x1000 t2 := by
          unfold t2
          refine touch_app ?_ (Mach.dropWork_touch ..) rfl rfl
          exact ht1
        try clear_value t2
        extract_lets -underBinder -merge -useContext +onlyGivenNames t3
        have ht3 : m0.touch 0x800108 0x1000 t3 := by
          unfold t3
          refine touch_app ?_ (Mach.onGcb_touch ..) rfl rfl
          refine touch_app ?_ (Mach.schedule_touch ..) rfl rfl
          exact ht2
        try clear_value t3
        refine touch_app ?_ (Mach.setFld_touch (P := 0x1000) _ _ _ _ rfl) rfl rfl
        refine touch_app ?_ (Mach.setFlag_touch (P := 0x1000) _ _ _ _ rfl) rfl rfl
        exact ht3
  try clear_value t0
  extract_lets -underBinder -merge -useContext +onlyGivenNames l1
  try clear_value l1
  extract_lets -underBinder -merge -useContext +onlyGivenNames t1
  have ht1 : m0.touch 0x800108 0x1000 t1 := by
    unfold t1
    refine touch_each ?_ (fun y x hx => ?_)
    · exact ht0
    · refine touch_ite (fun _ => ?_) (fun _ => ?_)
      · exact hx
      · extract_lets -underBinder -merge -useContext +onlyGivenNames t2
        have ht2 : m0.touch 0x800108 0x1000 t2 := by
          unfold t2
          refine touch_app ?_ (Mach.disarm_touch ..) rfl rfl
          refine touch_app ?_ (Mach.onSub_touch ..) rfl rfl
          exact hx
        try clear_value t2
        refine touch_app ?_ (Mach.setFld_touch (P := 0x1000) _ _ _ _ rfl) rfl rfl
        exact ht2
  try clear_value t1
  refine touch_app ?_ (Mach.setFld_touch (P := 0x1000) _ _ _ _ rfl) rfl rfl
  exact ht1

end Sys2Proof.Machine
end

