-- ==== Sys2Proof/Laws/Frame/Copy.lean ====
section
/-! SUPPORT. The frame of each operation of Copy.lean: the parts of the module it can change. -/

namespace Sys2Proof.Machine

theorem Mach.twinDiff_touch (m0 : Mach) (a1 : ℕ) : m0.touch 0x1000008 0x2000000000000 (Mach.twinDiff m0 a1) := by
  unfold Mach.twinDiff
  extract_lets -underBinder -merge -useContext +onlyGivenNames t0
  have ht0 : m0.touch 0x1000008 0x2000000000000 t0 := by
    unfold t0
    refine touch_app ?_ (Mach.count_touch (P := 0x2000000000000) _ _ _ _ (within_nth _ _ rfl)) rfl rfl
    exact touch_refl _ _ _
  try clear_value t0
  refine touch_app ?_ (Mach.onTwn_touch ..) rfl rfl
  exact ht0

theorem Mach.resultDiff_touch (m0 : Mach) (a1 : ℕ) : m0.touch 0x1000008 0x2000000000000 (Mach.resultDiff m0 a1) := by
  unfold Mach.resultDiff
  extract_lets -underBinder -merge -useContext +onlyGivenNames t0
  have ht0 : m0.touch 0x1000008 0x2000000000000 t0 := by
    unfold t0
    refine touch_app ?_ (Mach.twinDiff_touch ..) rfl rfl
    exact touch_refl _ _ _
  try clear_value t0
  refine touch_ite (fun _ => ?_) (fun _ => ?_)
  · refine touch_app ?_ (Mach.onTwn_touch ..) rfl rfl
    exact ht0
  · exact ht0

theorem Mach.ownResult_touch (m0 : Mach) (a1 : ℕ) (a2 : ℕ) (a3 : BitVec 64) : m0.touch 0x1000008 0x2000000000000 (Mach.ownResult m0 a1 a2 a3) := by
  unfold Mach.ownResult
  split
  · extract_lets -underBinder -merge -useContext +onlyGivenNames t0
    have ht0 : m0.touch 0x1000008 0x2000000000000 t0 := by
      unfold t0
      refine touch_app ?_ (Mach.onTwn_touch ..) rfl rfl
      exact touch_refl _ _ _
    try clear_value t0
    refine touch_ite (fun _ => ?_) (fun _ => ?_)
    · exact ht0
    · refine touch_app ?_ (Mach.resultDiff_touch ..) rfl rfl
      exact ht0
  · refine touch_app ?_ (Mach.onTwn_touch ..) rfl rfl
    exact touch_refl _ _ _

theorem Mach.ownOverrun_touch (m0 : Mach) (a1 : ℕ) (a2 : ℕ) : m0.touch 0x1000008 0x2000000000000 (Mach.ownOverrun m0 a1 a2) := by
  unfold Mach.ownOverrun
  split
  · refine touch_app ?_ (Mach.resultDiff_touch ..) rfl rfl
    refine touch_app ?_ (Mach.onTwn_touch ..) rfl rfl
    exact touch_refl _ _ _
  · refine touch_app ?_ (Mach.resultDiff_touch ..) rfl rfl
    refine touch_app ?_ (Mach.onTwn_touch ..) rfl rfl
    exact touch_refl _ _ _

theorem Mach.passedOver_touch (m0 : Mach) (a1 : ℕ) (a2 : ℕ) : m0.touch 0x1000008 0x2000000000000 (Mach.passedOver m0 a1 a2) := by
  unfold Mach.passedOver
  split
  extract_lets -underBinder -merge -useContext +onlyGivenNames t0
  have ht0 : m0.touch 0x1000008 0x2000000000000 t0 := by
    unfold t0
    refine touch_app ?_ (Mach.onTwn_touch ..) rfl rfl
    exact touch_refl _ _ _
  try clear_value t0
  refine touch_ite (fun _ => ?_) (fun _ => ?_)
  · refine touch_each ?_ (fun y x hx => ?_)
    · exact ht0
    · refine touch_app ?_ (Mach.resultDiff_touch ..) rfl rfl
      exact hx
  · exact ht0

theorem Mach.theirResult_touch (m0 : Mach) (a1 : ℕ) (a2 : ℕ) (a3 : BitVec 64) : m0.touch 0x1000008 0x2000000000000 (Mach.theirResult m0 a1 a2 a3) := by
  unfold Mach.theirResult
  extract_lets -underBinder -merge -useContext +onlyGivenNames t0
  have ht0 : m0.touch 0x1000008 0x2000000000000 t0 := by
    unfold t0
    refine touch_app ?_ (Mach.passedOver_touch ..) rfl rfl
    exact touch_refl _ _ _
  try clear_value t0
  refine touch_ite (fun _ => ?_) (fun _ => ?_)
  · refine touch_app ?_ (Mach.onTwn_touch ..) rfl rfl
    exact ht0
  · split
    · extract_lets -underBinder -merge -useContext +onlyGivenNames t1
      have ht1 : m0.touch 0x1000008 0x2000000000000 t1 := by
        unfold t1
        refine touch_app ?_ (Mach.onTwn_touch ..) rfl rfl
        exact ht0
      try clear_value t1
      refine touch_ite (fun _ => ?_) (fun _ => ?_)
      · exact ht1
      · refine touch_app ?_ (Mach.resultDiff_touch ..) rfl rfl
        exact ht1
    · refine touch_app ?_ (Mach.onTwn_touch ..) rfl rfl
      exact ht0

theorem Mach.tickCompared_touch (m0 : Mach) (a1 : Bool) : m0.touch 0x1000008 0x2000000000000 (Mach.tickCompared m0 a1) := by
  unfold Mach.tickCompared
  extract_lets -underBinder -merge -useContext +onlyGivenNames t0
  have ht0 : m0.touch 0x1000008 0x2000000000000 t0 := by
    unfold t0
    refine touch_app ?_ (Mach.onTwn_touch ..) rfl rfl
    exact touch_refl _ _ _
  try clear_value t0
  refine touch_ite (fun _ => ?_) (fun _ => ?_)
  · exact ht0
  · refine touch_app ?_ (Mach.twinDiff_touch ..) rfl rfl
    exact ht0

theorem Mach.ownTick_touch (m0 : Mach) (a1 : ℕ) (a2 : ℕ) (a3 : BitVec 64) : m0.touch 0x1000008 0x2000000000000 (Mach.ownTick m0 a1 a2 a3) := by
  unfold Mach.ownTick
  split
  · refine touch_app ?_ (Mach.tickCompared_touch ..) rfl rfl
    refine touch_app ?_ (Mach.onTwn_touch ..) rfl rfl
    exact touch_refl _ _ _
  · refine touch_app ?_ (Mach.onTwn_touch ..) rfl rfl
    exact touch_refl _ _ _

theorem Mach.theirTick_touch (m0 : Mach) (a1 : ℕ) (a2 : ℕ) (a3 : BitVec 64) : m0.touch 0x1000008 0x2000000000000 (Mach.theirTick m0 a1 a2 a3) := by
  unfold Mach.theirTick
  split
  · refine touch_app ?_ (Mach.tickCompared_touch ..) rfl rfl
    refine touch_app ?_ (Mach.onTwn_touch ..) rfl rfl
    exact touch_refl _ _ _
  · refine touch_app ?_ (Mach.onTwn_touch ..) rfl rfl
    exact touch_refl _ _ _

theorem Mach.showCopy_touch (m0 : Mach) (a1 : ℕ) (a2 : ℕ) (a3 : ℕ) : m0.touch 0x8 0x2000000000000 (Mach.showCopy m0 a1 a2 a3) := by
  unfold Mach.showCopy
  extract_lets -underBinder -merge -useContext +onlyGivenNames t0
  have ht0 : m0.touch 0x8 0x2000000000000 t0 := by
    unfold t0
    refine touch_app ?_ (Mach.setFld_touch (P := 0x2000000000000) _ _ _ _ rfl) rfl rfl
    refine touch_app ?_ (Mach.setFld_touch (P := 0x2000000000000) _ _ _ _ rfl) rfl rfl
    refine touch_app ?_ (Mach.setFld_touch (P := 0x2000000000000) _ _ _ _ rfl) rfl rfl
    exact touch_refl _ _ _
  try clear_value t0
  refine touch_app ?_ (Mach.setFlag_touch (P := 0x2000000000000) _ _ _ _ rfl) rfl rfl
  exact ht0

theorem Mach.tryCend_touch (m0 : Mach) : m0.touch 0x1001108 0x2000000000000 (Mach.tryCend m0) := by
  unfold Mach.tryCend
  split
  · extract_lets -underBinder -merge -useContext +onlyGivenNames l0
    try clear_value l0
    refine touch_ite (fun _ => ?_) (fun _ => ?_)
    · extract_lets -underBinder -merge -useContext +onlyGivenNames l1
      try clear_value l1
      extract_lets -underBinder -merge -useContext +onlyGivenNames l2
      try clear_value l2
      refine touch_app ?_ (Mach.plaitSend_touch ..) rfl rfl
      refine touch_app ?_ (Mach.showCopy_touch ..) rfl rfl
      exact touch_refl _ _ _
    · exact touch_refl _ _ _
  · exact touch_refl _ _ _

theorem Mach.startCopy_touch (m0 : Mach) : m0.touch 0x1001108 0x2000000000000 (Mach.startCopy m0) := by
  unfold Mach.startCopy
  extract_lets -underBinder -merge -useContext +onlyGivenNames l0
  try clear_value l0
  extract_lets -underBinder -merge -useContext +onlyGivenNames t0
  have ht0 : m0.touch 0x1001108 0x2000000000000 t0 := by
    unfold t0
    refine touch_app ?_ (Mach.onTwn_touch ..) rfl rfl
    exact touch_refl _ _ _
  try clear_value t0
  refine touch_ite (fun _ => ?_) (fun _ => ?_)
  · refine touch_app ?_ (Mach.tryCend_touch ..) rfl rfl
    refine touch_app ?_ (Mach.showCopy_touch ..) rfl rfl
    exact ht0
  · refine touch_app ?_ (Mach.showCopy_touch ..) rfl rfl
    exact ht0

theorem Mach.cutAt_touch (m0 : Mach) (a1 : ℕ) (a2 : ℕ) : m0.touch 0x1001108 0x2000000000000 (Mach.cutAt m0 a1 a2) := by
  unfold Mach.cutAt
  split
  · refine touch_ite (fun _ => ?_) (fun _ => ?_)
    · extract_lets -underBinder -merge -useContext +onlyGivenNames l0
      try clear_value l0
      extract_lets -underBinder -merge -useContext +onlyGivenNames l1
      try clear_value l1
      extract_lets -underBinder -merge -useContext +onlyGivenNames l2
      try clear_value l2
      extract_lets -underBinder -merge -useContext +onlyGivenNames l3
      try clear_value l3
      extract_lets -underBinder -merge -useContext +onlyGivenNames l4
      try clear_value l4
      extract_lets -underBinder -merge -useContext +onlyGivenNames t0
      have ht0 : m0.touch 0x1001108 0x2000000000000 t0 := by
        unfold t0
        refine touch_app ?_ (Mach.onTwn_touch ..) rfl rfl
        exact touch_refl _ _ _
      try clear_value t0
      extract_lets -underBinder -merge -useContext +onlyGivenNames t1
      have ht1 : m0.touch 0x1001108 0x2000000000000 t1 := by
        unfold t1
        refine touch_app ?_ (Mach.plaitSend_touch ..) rfl rfl
        exact ht0
      try clear_value t1
      refine touch_ite (fun _ => ?_) (fun _ => ?_)
      · refine touch_app ?_ (Mach.tryCend_touch ..) rfl rfl
        refine touch_app ?_ (Mach.showCopy_touch ..) rfl rfl
        exact ht1
      · refine touch_app ?_ (Mach.showCopy_touch ..) rfl rfl
        exact ht1
    · exact touch_refl _ _ _
  · exact touch_refl _ _ _

theorem Mach.endCopy_touch (m0 : Mach) : m0.touch 0x1000108 0x2000000000000 (Mach.endCopy m0) := by
  unfold Mach.endCopy
  extract_lets -underBinder -merge -useContext +onlyGivenNames t0
  have ht0 : m0.touch 0x1000108 0x2000000000000 t0 := by
    unfold t0
    refine touch_app ?_ (Mach.onTwn_touch ..) rfl rfl
    exact touch_refl _ _ _
  try clear_value t0
  refine touch_app ?_ (Mach.showCopy_touch ..) rfl rfl
  refine touch_app ?_ (Mach.disarm_touch ..) rfl rfl
  refine touch_app ?_ (Mach.disarm_touch ..) rfl rfl
  exact ht0

theorem Mach.failCopy_touch (m0 : Mach) : m0.touch 0x1003108 0x2000000000000 (Mach.failCopy m0) := by
  unfold Mach.failCopy
  refine touch_ite (fun _ => ?_) (fun _ => ?_)
  · exact touch_refl _ _ _
  · refine touch_ite (fun _ => ?_) (fun _ => ?_)
    · extract_lets -underBinder -merge -useContext +onlyGivenNames t0
      have ht0 : m0.touch 0x1003108 0x2000000000000 t0 := by
        unfold t0
        refine touch_app ?_ (Mach.plaitSend_touch ..) rfl rfl
        refine touch_app ?_ (Mach.onTwn_touch ..) rfl rfl
        refine touch_app ?_ (Mach.endCopy_touch ..) rfl rfl
        exact touch_refl _ _ _
      try clear_value t0
      refine touch_app ?_ (Mach.event_touch (P := 0x2000000000000) _ _ _ _ rfl (by decide)) rfl rfl
      refine touch_app ?_ (Mach.count_touch (P := 0x2000000000000) _ _ _ _ (within_nth _ _ rfl)) rfl rfl
      exact ht0
    · refine touch_app ?_ (Mach.arm_touch ..) rfl rfl
      refine touch_app ?_ (Mach.endCopy_touch ..) rfl rfl
      exact touch_refl _ _ _

end Sys2Proof.Machine
end

