-- ==== Sys2Proof/Laws/Frame/Dsp.lean ====
section
/-! SUPPORT. The frame of each operation of Dsp.lean: the parts of the module it can change. -/

namespace Sys2Proof.Machine

theorem Mach.runJobs_touch (m0 : Mach) : m0.touch 0x400000 0x0 (Mach.runJobs m0) := by
  unfold Mach.runJobs
  refine touch_app ?_ (Mach.onDsp_touch ..) rfl rfl
  exact touch_refl _ _ _

theorem Mach.showJobs_touch (m0 : Mach) (a1 : ℕ) : m0.touch 0x8 0x200 (Mach.showJobs m0 a1) := by
  unfold Mach.showJobs
  refine touch_app ?_ (Mach.setFld_touch (P := 0x200) _ _ _ _ rfl) rfl rfl
  exact touch_refl _ _ _

theorem Mach.slotEvent_touch (m0 : Mach) (a1 : ℕ) (a2 : ℕ) (a3 : Bool) : m0.touch 0x200b108 0x20000000000200 (Mach.slotEvent m0 a1 a2 a3) := by
  unfold Mach.slotEvent
  extract_lets -underBinder -merge -useContext +onlyGivenNames t0
  have ht0 : m0.touch 0x200b108 0x20000000000200 t0 := by
    unfold t0
    refine touch_ite (fun _ => ?_) (fun _ => ?_)
    · refine touch_app ?_ (Mach.eventAlways_touch (P := 0x20000000000200) _ _ _ _ rfl (by decide)) rfl rfl
      exact touch_refl _ _ _
    · refine touch_app ?_ (Mach.event_touch (P := 0x20000000000200) _ _ _ _ rfl (by decide)) rfl rfl
      exact touch_refl _ _ _
  try clear_value t0
  refine touch_app ?_ (Mach.signalPart_touch ..) rfl rfl
  exact ht0

theorem Mach.slotStart_touch (m0 : Mach) (a1 : ℕ) : m0.touch 0x400008 0x200 (Mach.slotStart m0 a1) := by
  unfold Mach.slotStart
  extract_lets -underBinder -merge -useContext +onlyGivenNames t0
  have ht0 : m0.touch 0x400008 0x200 t0 := by
    unfold t0
    refine touch_app ?_ (Mach.onDsp_touch ..) rfl rfl
    exact touch_refl _ _ _
  try clear_value t0
  extract_lets -underBinder -merge -useContext +onlyGivenNames t1
  have ht1 : m0.touch 0x400008 0x200 t1 := by
    unfold t1
    refine touch_app ?_ (Mach.setFlag_touch (P := 0x200) _ _ _ _ rfl) rfl rfl
    exact ht0
  try clear_value t1
  refine touch_ite (fun _ => ?_) (fun _ => ?_)
  · refine touch_app ?_ (Mach.setFld_touch (P := 0x200) _ _ _ _ rfl) rfl rfl
    exact ht1
  · exact ht1

theorem Mach.startLater_touch (m0 : Mach) (a1 : ℕ) : m0.touch 0x400000 0x0 (Mach.startLater m0 a1) := by
  unfold Mach.startLater
  refine touch_app ?_ (Mach.onDsp_touch ..) rfl rfl
  exact touch_refl _ _ _

theorem Mach.startNow_touch (m0 : Mach) (a1 : ℕ) : m0.touch 0x400008 0x200 (Mach.startNow m0 a1) := by
  unfold Mach.startNow
  refine touch_ite (fun _ => ?_) (fun _ => ?_)
  · refine touch_app ?_ (Mach.onDsp_touch ..) rfl rfl
    refine touch_app ?_ (Mach.slotStart_touch ..) rfl rfl
    exact touch_refl _ _ _
  · exact touch_refl _ _ _

theorem Mach.slotCounters_touch (m0 : Mach) (a1 : ℕ) : m0.touch 0x8 0x200 (Mach.slotCounters m0 a1) := by
  unfold Mach.slotCounters
  extract_lets -underBinder -merge -useContext +onlyGivenNames t0
  have ht0 : m0.touch 0x8 0x200 t0 := by
    unfold t0
    refine touch_app ?_ (Mach.setFld_touch (P := 0x200) _ _ _ _ rfl) rfl rfl
    refine touch_app ?_ (Mach.setFld_touch (P := 0x200) _ _ _ _ rfl) rfl rfl
    refine touch_app ?_ (Mach.setFld_touch (P := 0x200) _ _ _ _ rfl) rfl rfl
    exact touch_refl _ _ _
  try clear_value t0
  refine touch_app ?_ (Mach.setFld_touch (P := 0x200) _ _ _ _ rfl) rfl rfl
  refine touch_app ?_ (Mach.setFld_touch (P := 0x200) _ _ _ _ rfl) rfl rfl
  exact ht0

theorem Mach.flushOutputs_touch (m0 : Mach) (a1 : ℕ) : m0.touch 0xc00008 0x1000 (Mach.flushOutputs m0 a1) := by
  unfold Mach.flushOutputs
  split
  refine touch_each ?_ (fun y x hx => ?_)
  · refine touch_app ?_ (Mach.onDsp_touch ..) rfl rfl
    exact touch_refl _ _ _
  · refine touch_app ?_ (Mach.pubOutput_touch ..) rfl rfl
    exact hx

theorem Mach.slotOutput_touch (m0 : Mach) (a1 : ℕ) (a2 : ℕ) (a3 : BitVec 16) (a4 : List (ℕ × BitVec 32)) : m0.touch 0xc00008 0x1000 (Mach.slotOutput m0 a1 a2 a3 a4) := by
  unfold Mach.slotOutput
  extract_lets -underBinder -merge -useContext +onlyGivenNames l0
  try clear_value l0
  refine touch_ite (fun _ => ?_) (fun _ => ?_)
  · refine touch_app ?_ (Mach.onDsp_touch ..) rfl rfl
    exact touch_refl _ _ _
  · refine touch_app ?_ (Mach.flushOutputs_touch ..) rfl rfl
    refine touch_app ?_ (Mach.pubOutput_touch ..) rfl rfl
    exact touch_refl _ _ _

theorem Mach.emptyOutput_touch (m0 : Mach) (a1 : ℕ) (a2 : ℕ) (a3 : ℕ) (a4 : BitVec 16) : m0.touch 0xc00008 0x1000 (Mach.emptyOutput m0 a1 a2 a3 a4) := by
  unfold Mach.emptyOutput
  extract_lets -underBinder -merge -useContext +onlyGivenNames l0
  try clear_value l0
  refine touch_app ?_ (Mach.slotOutput_touch ..) rfl rfl
  exact touch_refl _ _ _

theorem Mach.noRelease_touch (m0 : Mach) (a1 : ℕ) (a2 : ℕ) : m0.touch 0xc00008 0x1000 (Mach.noRelease m0 a1 a2) := by
  unfold Mach.noRelease
  refine touch_app ?_ (Mach.emptyOutput_touch ..) rfl rfl
  exact touch_refl _ _ _

theorem Mach.releaseSlot_touch (m0 : Mach) (a1 : ℕ) (a2 : ℕ) (a3 : Option Block) : m0.touch 0x2c0b908 0x30000000001200 (Mach.releaseSlot m0 a1 a2 a3) := by
  unfold Mach.releaseSlot
  extract_lets -underBinder -merge -useContext +onlyGivenNames l0
  try clear_value l0
  extract_lets -underBinder -merge -useContext +onlyGivenNames l1
  try clear_value l1
  refine touch_ite (fun _ => ?_) (fun _ => ?_)
  · refine touch_app ?_ (Mach.noRelease_touch ..) rfl rfl
    refine touch_app ?_ (Mach.slotEvent_touch ..) rfl rfl
    refine touch_app ?_ (Mach.count_touch (P := 0x30000000001200) _ _ _ _ (within_nth _ _ rfl)) rfl rfl
    exact touch_refl _ _ _
  · extract_lets -underBinder -merge -useContext +onlyGivenNames t0
    have ht0 : m0.touch 0x2c0b908 0x30000000001200 t0 := by
      unfold t0
      refine touch_app ?_ (Mach.startNow_touch ..) rfl rfl
      exact touch_refl _ _ _
    try clear_value t0
    extract_lets -underBinder -merge -useContext +onlyGivenNames l2
    try clear_value l2
    extract_lets -underBinder -merge -useContext +onlyGivenNames l3
    try clear_value l3
    extract_lets -underBinder -merge -useContext +onlyGivenNames t1
    have ht1 : m0.touch 0x2c0b908 0x30000000001200 t1 := by
      unfold t1
      refine touch_app ?_ (Mach.setFlag_touch (P := 0x30000000001200) _ _ _ _ rfl) rfl rfl
      exact ht0
    try clear_value t1
    extract_lets -underBinder -merge -useContext +onlyGivenNames t2
    have ht2 : m0.touch 0x2c0b908 0x30000000001200 t2 := by
      unfold t2
      refine touch_ite (fun _ => ?_) (fun _ => ?_)
      · refine touch_app ?_ (Mach.setFld_touch (P := 0x30000000001200) _ _ _ _ rfl) rfl rfl
        exact ht1
      · exact ht1
    try clear_value t2
    extract_lets -underBinder -merge -useContext +onlyGivenNames t3
    have ht3 : m0.touch 0x2c0b908 0x30000000001200 t3 := by
      unfold t3
      refine touch_app ?_ (Mach.writeBlock_touch ..) rfl rfl
      refine touch_app ?_ (Mach.runJobs_touch ..) rfl rfl
      exact ht2
    try clear_value t3
    extract_lets -underBinder -merge -useContext +onlyGivenNames l4
    try clear_value l4
    extract_lets -underBinder -merge -useContext +onlyGivenNames t4
    have ht4 : m0.touch 0x2c0b908 0x30000000001200 t4 := by
      unfold t4
      refine touch_app ?_ (Mach.onDsp_touch ..) rfl rfl
      exact ht3
    try clear_value t4
    extract_lets -underBinder -merge -useContext +onlyGivenNames t5
    have ht5 : m0.touch 0x2c0b908 0x30000000001200 t5 := by
      unfold t5
      refine touch_app ?_ (Mach.showJobs_touch ..) rfl rfl
      refine touch_app ?_ (Mach.count_touch (P := 0x30000000001200) _ _ _ _ rfl) rfl rfl
      refine touch_app ?_ (Mach.count_touch (P := 0x30000000001200) _ _ _ _ rfl) rfl rfl
      exact ht4
    try clear_value t5
    refine touch_app ?_ (Mach.signalPart_touch ..) rfl rfl
    exact ht5

theorem Mach.dueSlot_touch (m0 : Mach) (a1 : ℕ) (a2 : ℕ) (a3 : Option Block) : m0.touch 0x2c0b908 0x30000000001200 (Mach.dueSlot m0 a1 a2 a3) := by
  unfold Mach.dueSlot
  extract_lets -underBinder -merge -useContext +onlyGivenNames l0
  try clear_value l0
  refine touch_ite (fun _ => ?_) (fun _ => ?_)
  · exact touch_refl _ _ _
  · refine touch_ite (fun _ => ?_) (fun _ => ?_)
    · refine touch_app ?_ (Mach.noRelease_touch ..) rfl rfl
      exact touch_refl _ _ _
    · refine touch_ite (fun _ => ?_) (fun _ => ?_)
      · extract_lets -underBinder -merge -useContext +onlyGivenNames l1
        try clear_value l1
        extract_lets -underBinder -merge -useContext +onlyGivenNames t0
        have ht0 : m0.touch 0x2c0b908 0x30000000001200 t0 := by
          unfold t0
          refine touch_ite (fun _ => ?_) (fun _ => ?_)
          · refine touch_app ?_ (Mach.count_touch (P := 0x30000000001200) _ _ _ _ (within_nth _ _ rfl)) rfl rfl
            exact touch_refl _ _ _
          · exact touch_refl _ _ _
        try clear_value t0
        refine touch_app ?_ (Mach.onDsp_touch ..) rfl rfl
        exact ht0
      · refine touch_ite (fun _ => ?_) (fun _ => ?_)
        · refine touch_app ?_ (Mach.emptyOutput_touch ..) rfl rfl
          refine touch_app ?_ (Mach.slotEvent_touch ..) rfl rfl
          refine touch_app ?_ (Mach.count_touch (P := 0x30000000001200) _ _ _ _ (within_nth _ _ rfl)) rfl rfl
          exact touch_refl _ _ _
        · extract_lets -underBinder -merge -useContext +onlyGivenNames l1
          try clear_value l1
          split
          · refine touch_ite (fun _ => ?_) (fun _ => ?_)
            · refine touch_app ?_ (Mach.onDsp_touch ..) rfl rfl
              refine touch_app ?_ (Mach.count_touch (P := 0x30000000001200) _ _ _ _ (within_nth _ _ rfl)) rfl rfl
              exact touch_refl _ _ _
            · extract_lets -underBinder -merge -useContext +onlyGivenNames t0
              have ht0 : m0.touch 0x2c0b908 0x30000000001200 t0 := by
                unfold t0
                refine touch_app ?_ (Mach.onDsp_touch ..) rfl rfl
                exact touch_refl _ _ _
              try clear_value t0
              refine touch_app ?_ (Mach.arm_touch ..) rfl rfl
              refine touch_app ?_ (Mach.slotEvent_touch ..) rfl rfl
              refine touch_app ?_ (Mach.count_touch (P := 0x30000000001200) _ _ _ _ (within_nth _ _ rfl)) rfl rfl
              exact ht0
          · refine touch_app ?_ (Mach.releaseSlot_touch ..) rfl rfl
            exact touch_refl _ _ _

theorem Mach.dueEarlier_touch (m0 : Mach) (a1 : ℕ) (a2 : List ℕ) : m0.touch 0xc00008 0x1200 (Mach.dueEarlier m0 a1 a2) := by
  unfold Mach.dueEarlier
  refine touch_ite (fun _ => ?_) (fun _ => ?_)
  · refine touch_each ?_ (fun y x hx => ?_)
    · exact touch_refl _ _ _
    · refine touch_app ?_ (Mach.noRelease_touch ..) rfl rfl
      exact hx
  · refine touch_app ?_ (Mach.count_touch (P := 0x1200) _ _ _ _ (within_nth _ _ rfl)) rfl rfl
    exact touch_refl _ _ _

theorem Mach.queueTick_touch (m0 : Mach) (a1 : ℕ) (a2 : ℕ) (a3 : Option Block) : m0.touch 0x1000000 0x0 (Mach.queueTick m0 a1 a2 a3) := by
  unfold Mach.queueTick
  extract_lets -underBinder -merge -useContext +onlyGivenNames l0
  try clear_value l0
  refine touch_app ?_ (Mach.onTwn_touch ..) rfl rfl
  exact touch_refl _ _ _

theorem Mach.newestBlocks_touch (m0 : Mach) (a1 : SetOut) : m0.touch 0x400000 0x0 (Mach.newestBlocks m0 a1) := by
  unfold Mach.newestBlocks
  refine touch_app ?_ (Mach.onDsp_touch ..) rfl rfl
  exact touch_refl _ _ _

theorem Mach.dspTake_touch (m0 : Mach) (a1 : SetOut) : m0.touch 0x3c0b908 0x30000000001200 (Mach.dspTake m0 a1) := by
  unfold Mach.dspTake
  extract_lets -underBinder -merge -useContext +onlyGivenNames l0
  try clear_value l0
  extract_lets -underBinder -merge -useContext +onlyGivenNames t0
  have ht0 : m0.touch 0x3c0b908 0x30000000001200 t0 := by
    unfold t0
    refine touch_each ?_ (fun y x hx => ?_)
    · exact touch_refl _ _ _
    · refine touch_app ?_ (Mach.mergedEvent_touch ..) rfl rfl
      exact hx
  try clear_value t0
  extract_lets -underBinder -merge -useContext +onlyGivenNames t1
  have ht1 : m0.touch 0x3c0b908 0x30000000001200 t1 := by
    unfold t1
    refine touch_each ?_ (fun y x hx => ?_)
    · exact ht0
    · split
      refine touch_ite (fun _ => ?_) (fun _ => ?_)
      · refine touch_app ?_ (Mach.queueTick_touch ..) rfl rfl
        refine touch_app ?_ (Mach.count_touch (P := 0x30000000001200) _ _ _ _ (within_nth _ _ rfl)) rfl rfl
        exact hx
      · refine touch_app ?_ (Mach.dueSlot_touch ..) rfl rfl
        refine touch_app ?_ (Mach.dueEarlier_touch ..) rfl rfl
        exact hx
  try clear_value t1
  refine touch_app ?_ (Mach.newestBlocks_touch ..) rfl rfl
  exact ht1

theorem Mach.releaseDeferred_touch (m0 : Mach) (a1 : ℕ) : m0.touch 0x2c0b908 0x30000000001200 (Mach.releaseDeferred m0 a1) := by
  unfold Mach.releaseDeferred
  split
  · refine touch_app ?_ (Mach.dueSlot_touch ..) rfl rfl
    refine touch_app ?_ (Mach.onDsp_touch ..) rfl rfl
    exact touch_refl _ _ _
  · exact touch_refl _ _ _

theorem Mach.releaseHeld_touch (m0 : Mach) (a1 : ℕ) : m0.touch 0x2c0b908 0x30000000001200 (Mach.releaseHeld m0 a1) := by
  unfold Mach.releaseHeld
  split
  refine touch_each ?_ (fun y x hx => ?_)
  · refine touch_app ?_ (Mach.onDsp_touch ..) rfl rfl
    exact touch_refl _ _ _
  · split
    refine touch_app ?_ (Mach.dueSlot_touch ..) rfl rfl
    exact hx

theorem Mach.endJob_touch (m0 : Mach) (a1 : Job) : m0.touch 0x400008 0x200 (Mach.endJob m0 a1) := by
  unfold Mach.endJob
  refine touch_app ?_ (Mach.showJobs_touch ..) rfl rfl
  refine touch_app ?_ (Mach.onDsp_touch ..) rfl rfl
  refine touch_app ?_ (Mach.runJobs_touch ..) rfl rfl
  exact touch_refl _ _ _

theorem Mach.acceptResult_touch (m0 : Mach) (a1 : Job) (a2 : BitVec 16) (a3 : List (ℕ × BitVec 32)) (a4 : List Byte) : m0.touch 0x23c0b108 0x22000000001200 (Mach.acceptResult m0 a1 a2 a3 a4) := by
  unfold Mach.acceptResult
  extract_lets -underBinder -merge -useContext +onlyGivenNames l0
  try clear_value l0
  extract_lets -underBinder -merge -useContext +onlyGivenNames l1
  try clear_value l1
  extract_lets -underBinder -merge -useContext +onlyGivenNames l2
  try clear_value l2
  extract_lets -underBinder -merge -useContext +onlyGivenNames l3
  try clear_value l3
  extract_lets -underBinder -merge -useContext +onlyGivenNames l4
  try clear_value l4
  extract_lets -underBinder -merge -useContext +onlyGivenNames t0
  have ht0 : m0.touch 0x23c0b108 0x22000000001200 t0 := by
    unfold t0
    refine touch_app ?_ (Mach.endJob_touch ..) rfl rfl
    exact touch_refl _ _ _
  try clear_value t0
  extract_lets -underBinder -merge -useContext +onlyGivenNames t1
  have ht1 : m0.touch 0x23c0b108 0x22000000001200 t1 := by
    unfold t1
    refine touch_ite (fun _ => ?_) (fun _ => ?_)
    · refine touch_app ?_ (Mach.slotEvent_touch ..) rfl rfl
      refine touch_app ?_ (Mach.count_touch (P := 0x22000000001200) _ _ _ _ rfl) rfl rfl
      refine touch_app ?_ (Mach.count_touch (P := 0x22000000001200) _ _ _ _ (within_nth _ _ rfl)) rfl rfl
      exact ht0
    · exact ht0
  try clear_value t1
  extract_lets -underBinder -merge -useContext +onlyGivenNames t2
  have ht2 : m0.touch 0x23c0b108 0x22000000001200 t2 := by
    unfold t2
    refine touch_app ?_ (Mach.setFld_touch (P := 0x22000000001200) _ _ _ _ rfl) rfl rfl
    exact ht1
  try clear_value t2
  extract_lets -underBinder -merge -useContext +onlyGivenNames t3
  have ht3 : m0.touch 0x23c0b108 0x22000000001200 t3 := by
    unfold t3
    refine touch_app ?_ (Mach.raise_touch (P := 0x22000000001200) _ _ _ _ rfl) rfl rfl
    exact ht2
  try clear_value t3
  extract_lets -underBinder -merge -useContext +onlyGivenNames t4
  have ht4 : m0.touch 0x23c0b108 0x22000000001200 t4 := by
    unfold t4
    refine touch_app ?_ (Mach.slotOutput_touch ..) rfl rfl
    exact ht3
  try clear_value t4
  extract_lets -underBinder -merge -useContext +onlyGivenNames t5
  have ht5 : m0.touch 0x23c0b108 0x22000000001200 t5 := by
    unfold t5
    refine touch_app ?_ (Mach.acqResult_touch ..) rfl rfl
    exact ht4
  try clear_value t5
  extract_lets -underBinder -merge -useContext +onlyGivenNames t6
  try clear_value t6
  extract_lets -underBinder -merge -useContext +onlyGivenNames t7
  have ht7 : m0.touch 0x23c0b108 0x22000000001200 t7 := by
    unfold t7
    refine touch_ite (fun _ => ?_) (fun _ => ?_)
    · refine touch_app ?_ (Mach.ownResult_touch ..) rfl rfl
      refine touch_app ?_ (Mach.plaitSend_touch ..) rfl rfl
      exact ht5
    · exact ht5
  try clear_value t7
  refine touch_app ?_ (Mach.cutAt_touch ..) rfl rfl
  exact ht7

theorem Mach.suspend_touch (m0 : Mach) (a1 : ℕ) (a2 : Bool) : m0.touch 0x240b108 0x20000000000200 (Mach.suspend m0 a1 a2) := by
  unfold Mach.suspend
  refine touch_ite (fun _ => ?_) (fun _ => ?_)
  · extract_lets -underBinder -merge -useContext +onlyGivenNames t0
    have ht0 : m0.touch 0x240b108 0x20000000000200 t0 := by
      unfold t0
      refine touch_app ?_ (Mach.slotEvent_touch ..) rfl rfl
      refine touch_app ?_ (Mach.setFld_touch (P := 0x20000000000200) _ _ _ _ rfl) rfl rfl
      exact touch_refl _ _ _
    try clear_value t0
    refine touch_ite (fun _ => ?_) (fun _ => ?_)
    · refine touch_app ?_ (Mach.slotStart_touch ..) rfl rfl
      refine touch_app ?_ (Mach.setFld_touch (P := 0x20000000000200) _ _ _ _ rfl) rfl rfl
      exact ht0
    · exact ht0
  · exact touch_refl _ _ _

theorem Mach.overrun_touch (m0 : Mach) (a1 : Job) : m0.touch 0x3c0b108 0x22000000001200 (Mach.overrun m0 a1) := by
  unfold Mach.overrun
  extract_lets -underBinder -merge -useContext +onlyGivenNames l0
  try clear_value l0
  extract_lets -underBinder -merge -useContext +onlyGivenNames t0
  have ht0 : m0.touch 0x3c0b108 0x22000000001200 t0 := by
    unfold t0
    refine touch_app ?_ (Mach.emit_touch ..) rfl rfl
    refine touch_app ?_ (Mach.endJob_touch ..) rfl rfl
    exact touch_refl _ _ _
  try clear_value t0
  extract_lets -underBinder -merge -useContext +onlyGivenNames t1
  have ht1 : m0.touch 0x3c0b108 0x22000000001200 t1 := by
    unfold t1
    refine touch_app ?_ (Mach.slotEvent_touch ..) rfl rfl
    refine touch_app ?_ (Mach.count_touch (P := 0x22000000001200) _ _ _ _ rfl) rfl rfl
    refine touch_app ?_ (Mach.count_touch (P := 0x22000000001200) _ _ _ _ (within_nth _ _ rfl)) rfl rfl
    exact ht0
  try clear_value t1
  extract_lets -underBinder -merge -useContext +onlyGivenNames l1
  try clear_value l1
  extract_lets -underBinder -merge -useContext +onlyGivenNames t2
  have ht2 : m0.touch 0x3c0b108 0x22000000001200 t2 := by
    unfold t2
    refine touch_app ?_ (Mach.setFld_touch (P := 0x22000000001200) _ _ _ _ rfl) rfl rfl
    exact ht1
  try clear_value t2
  extract_lets -underBinder -merge -useContext +onlyGivenNames l2
  try clear_value l2
  extract_lets -underBinder -merge -useContext +onlyGivenNames t3
  have ht3 : m0.touch 0x3c0b108 0x22000000001200 t3 := by
    unfold t3
    refine touch_app ?_ (Mach.slotOutput_touch ..) rfl rfl
    exact ht2
  try clear_value t3
  extract_lets -underBinder -merge -useContext +onlyGivenNames t4
  have ht4 : m0.touch 0x3c0b108 0x22000000001200 t4 := by
    unfold t4
    refine touch_ite (fun _ => ?_) (fun _ => ?_)
    · refine touch_app ?_ (Mach.ownOverrun_touch ..) rfl rfl
      exact ht3
    · exact ht3
  try clear_value t4
  extract_lets -underBinder -merge -useContext +onlyGivenNames t5
  have ht5 : m0.touch 0x3c0b108 0x22000000001200 t5 := by
    unfold t5
    refine touch_ite (fun _ => ?_) (fun _ => ?_)
    · refine touch_app ?_ (Mach.suspend_touch ..) rfl rfl
      exact ht4
    · exact ht4
  try clear_value t5
  refine touch_app ?_ (Mach.cutAt_touch ..) rfl rfl
  exact ht5

theorem sub_trans {A B C : Nat} (h : A &&& B = A) (g : B &&& C = B) : A &&& C = A := by
  rw [← h, Nat.and_assoc, g]

theorem touch_takeCommand {A P : Nat} {a b : Mach} {p : Nat} {pk : RingPacket} {form : Bool} {f : Mach → Mach}
    (h : a.touch A P b) (hA : 0x200b908 &&& A = 0x200b908) (hP : 0x30000000000200 &&& P = 0x30000000000200)
    (hf : ∀ x, a.touch A P x → a.touch A P (f x)) : a.touch A P (b.takeCommand p pk form f) := by
  unfold Mach.takeCommand
  split
  · exact h
  · extract_lets -underBinder -merge -useContext +onlyGivenNames t0
    have h0 : b.touch 0x200b908 0x30000000000200 t0 := touch_mono (Mach.onPart_touch b p _) rfl rfl
    clear_value t0
    split
    · exact touch_trans h (touch_mono (touch_app h0 (Mach.doneCmd_touch ..) rfl rfl) hA hP)
    · refine touch_ite (fun _ => ?_) (fun _ => ?_)
      · refine touch_trans h (touch_mono ?_ hA hP)
        refine touch_app ?_ (Mach.doneCmd_touch ..) rfl rfl
        refine touch_app ?_ (Mach.partEvent_touch (P := 0x30000000000200) _ _ _ _ rfl (by decide)) rfl rfl
        refine touch_app ?_ (Mach.count_touch (P := 0x30000000000200) _ _ _ _ rfl) rfl rfl
        refine touch_app ?_ (Mach.setFlag_touch (P := 0x30000000000200) _ _ _ _ rfl) rfl rfl
        exact touch_app h0 (Mach.onPart_touch ..) rfl rfl
      · exact hf _ (touch_trans h (touch_mono h0 hA hP))

/-- A command that is taken and does nothing more. -/
theorem Mach.takeCommand_touch (m0 : Mach) (p : Nat) (pk : RingPacket) (form : Bool) :
    m0.touch 0x200b908 0x30000000000200 (m0.takeCommand p pk form id) :=
  touch_takeCommand (touch_refl _ _ _) rfl rfl (fun _ h => h)

theorem Mach.refuseResult_touch (m0 : Mach) (a1 : ℕ) (a2 : ℕ) (a3 : RingPacket) : m0.touch 0x200b90a 0x30000000000200 (Mach.refuseResult m0 a1 a2 a3) := by
  unfold Mach.refuseResult
  extract_lets -underBinder -merge -useContext +onlyGivenNames t0
  have ht0 : m0.touch 0x200b90a 0x30000000000200 t0 := by
    unfold t0
    refine touch_app ?_ (Mach.slotEvent_touch ..) rfl rfl
    refine touch_app ?_ (Mach.count_touch (P := 0x30000000000200) _ _ _ _ (within_nth _ _ rfl)) rfl rfl
    exact touch_refl _ _ _
  try clear_value t0
  split
  rename_i p0_0 p0_1 p0_2 he3
  have hp0_2 : m0.touch 0x200b90a 0x30000000000200 p0_2 := by
    refine touch_snd he3 ?_
    refine touch_app ?_ (Mach.drawWord_touch ..) rfl rfl
    exact ht0
  refine touch_app ?_ (Mach.doneCmd_touch ..) rfl rfl
  exact hp0_2

theorem Mach.resultCmd_touch (m0 : Mach) (a1 : ℕ) (a2 : ℕ) (a3 : RingPacket) : m0.touch 0x23c0b90a 0x32000000001200 (Mach.resultCmd m0 a1 a2 a3) := by
  unfold Mach.resultCmd
  extract_lets -underBinder -merge -useContext +onlyGivenNames l0
  try clear_value l0
  extract_lets -underBinder -merge -useContext +onlyGivenNames l1
  try clear_value l1
  split
  · refine touch_ite (fun _ => ?_) (fun _ => ?_)
    · refine touch_app ?_ (Mach.acceptResult_touch ..) rfl rfl
      exact touch_refl _ _ _
    · refine touch_app ?_ (Mach.refuseResult_touch ..) rfl rfl
      exact touch_refl _ _ _
  · refine touch_app ?_ (Mach.refuseResult_touch ..) rfl rfl
    exact touch_refl _ _ _

theorem Mach.yieldCmd_touch (m0 : Mach) (a1 : ℕ) (a2 : ℕ) (a3 : RingPacket) : m0.touch 0x3c0b90a 0x32000000001200 (Mach.yieldCmd m0 a1 a2 a3) := by
  unfold Mach.yieldCmd
  split
  · refine touch_ite (fun _ => ?_) (fun _ => ?_)
    · refine touch_app ?_ (Mach.cutAt_touch ..) rfl rfl
      refine touch_app ?_ (Mach.noRelease_touch ..) rfl rfl
      refine touch_app ?_ (Mach.endJob_touch ..) rfl rfl
      exact touch_refl _ _ _
    · refine touch_app ?_ (Mach.refuseResult_touch ..) rfl rfl
      exact touch_refl _ _ _
  · refine touch_app ?_ (Mach.refuseResult_touch ..) rfl rfl
    exact touch_refl _ _ _

theorem Mach.slotCommand_touch (m0 : Mach) (a1 : ℕ) (a2 : ℕ) : m0.touch 0x400008 0x200 (Mach.slotCommand m0 a1 a2) := by
  unfold Mach.slotCommand
  extract_lets -underBinder -merge -useContext +onlyGivenNames t0
  have ht0 : m0.touch 0x400008 0x200 t0 := by
    unfold t0
    refine touch_ite (fun _ => ?_) (fun _ => ?_)
    · refine touch_app ?_ (Mach.setFld_touch (P := 0x200) _ _ _ _ rfl) rfl rfl
      exact touch_refl _ _ _
    · exact touch_refl _ _ _
  try clear_value t0
  refine touch_ite (fun _ => ?_) (fun _ => ?_)
  · refine touch_app ?_ (Mach.slotStart_touch ..) rfl rfl
    refine touch_app ?_ (Mach.setFld_touch (P := 0x200) _ _ _ _ rfl) rfl rfl
    exact ht0
  · exact ht0

theorem Mach.dropDeferred_touch (m0 : Mach) (a1 : ℕ) : m0.touch 0xc00108 0x1000 (Mach.dropDeferred m0 a1) := by
  unfold Mach.dropDeferred
  split
  · refine touch_app ?_ (Mach.noRelease_touch ..) rfl rfl
    refine touch_app ?_ (Mach.onDsp_touch ..) rfl rfl
    refine touch_app ?_ (Mach.disarm_touch ..) rfl rfl
    exact touch_refl _ _ _
  · exact touch_refl _ _ _

theorem Mach.slotReset_touch (m0 : Mach) (a1 : ℕ) : m0.touch 0x2c03108 0x4000000001200 (Mach.slotReset m0 a1) := by
  unfold Mach.slotReset
  extract_lets -underBinder -merge -useContext +onlyGivenNames l0
  try clear_value l0
  refine touch_ite (fun _ => ?_) (fun _ => ?_)
  · extract_lets -underBinder -merge -useContext +onlyGivenNames t0
    have ht0 : m0.touch 0x2c03108 0x4000000001200 t0 := by
      unfold t0
      refine touch_each ?_ (fun y x hx => ?_)
      · exact touch_refl _ _ _
      · refine touch_app ?_ (Mach.noRelease_touch ..) rfl rfl
        refine touch_app ?_ (Mach.endJob_touch ..) rfl rfl
        exact hx
    try clear_value t0
    extract_lets -underBinder -merge -useContext +onlyGivenNames t1
    have ht1 : m0.touch 0x2c03108 0x4000000001200 t1 := by
      unfold t1
      refine touch_app ?_ (Mach.dropDeferred_touch ..) rfl rfl
      exact ht0
    try clear_value t1
    extract_lets -underBinder -merge -useContext +onlyGivenNames t2
    have ht2 : m0.touch 0x2c03108 0x4000000001200 t2 := by
      unfold t2
      refine touch_app ?_ (Mach.onRing_touch ..) rfl rfl
      exact ht1
    try clear_value t2
    refine touch_app ?_ (Mach.event_touch (P := 0x4000000001200) _ _ _ _ rfl (by decide)) rfl rfl
    refine touch_app ?_ (Mach.startLater_touch ..) rfl rfl
    refine touch_app ?_ (Mach.slotCounters_touch ..) rfl rfl
    exact ht2
  · exact touch_refl _ _ _

theorem Mach.divide_touch (m0 : Mach) : m0.touch 0x400008 0x200 (Mach.divide m0) := by
  unfold Mach.divide
  extract_lets -underBinder -merge -useContext +onlyGivenNames l0
  try clear_value l0
  extract_lets -underBinder -merge -useContext +onlyGivenNames t0
  have ht0 : m0.touch 0x400008 0x200 t0 := by
    unfold t0
    refine touch_app ?_ (Mach.runJobs_touch ..) rfl rfl
    exact touch_refl _ _ _
  try clear_value t0
  extract_lets -underBinder -merge -useContext +onlyGivenNames t1
  have ht1 : m0.touch 0x400008 0x200 t1 := by
    unfold t1
    refine touch_each ?_ (fun y x hx => ?_)
    · exact ht0
    · refine touch_app ?_ (Mach.setFlag_touch (P := 0x200) _ _ _ _ rfl) rfl rfl
      refine touch_app ?_ (Mach.setFld_touch (P := 0x200) _ _ _ _ rfl) rfl rfl
      exact hx
  try clear_value t1
  refine touch_app ?_ (Mach.onDsp_touch ..) rfl rfl
  exact ht1

theorem Mach.dspApply_touch (m0 : Mach) (a1 : KMap Word) : m0.touch 0xc03108 0x1200 (Mach.dspApply m0 a1) := by
  unfold Mach.dspApply
  extract_lets -underBinder -merge -useContext +onlyGivenNames l0
  try clear_value l0
  extract_lets -underBinder -merge -useContext +onlyGivenNames t0
  have ht0 : m0.touch 0xc03108 0x1200 t0 := by
    unfold t0
    refine touch_app ?_ (Mach.divide_touch ..) rfl rfl
    exact touch_refl _ _ _
  try clear_value t0
  extract_lets -underBinder -merge -useContext +onlyGivenNames t1
  have ht1 : m0.touch 0xc03108 0x1200 t1 := by
    unfold t1
    refine touch_ite (fun _ => ?_) (fun _ => ?_)
    · refine touch_app ?_ (Mach.event_touch (P := 0x1200) _ _ _ _ rfl (by decide)) rfl rfl
      exact ht0
    · exact ht0
  try clear_value t1
  extract_lets -underBinder -merge -useContext +onlyGivenNames l1
  try clear_value l1
  refine touch_each ?_ (fun y x hx => ?_)
  · exact ht1
  · refine touch_ite (fun _ => ?_) (fun _ => ?_)
    · exact hx
    · extract_lets -underBinder -merge -useContext +onlyGivenNames t2
      have ht2 : m0.touch 0xc03108 0x1200 t2 := by
        unfold t2
        refine touch_app ?_ (Mach.onDsp_touch ..) rfl rfl
        exact hx
      try clear_value t2
      refine touch_ite (fun _ => ?_) (fun _ => ?_)
      · refine touch_app ?_ (Mach.slotStart_touch ..) rfl rfl
        refine touch_app ?_ (Mach.setFld_touch (P := 0x1200) _ _ _ _ rfl) rfl rfl
        exact ht2
      · refine touch_app ?_ (Mach.dropDeferred_touch ..) rfl rfl
        refine touch_app ?_ (Mach.setFlag_touch (P := 0x1200) _ _ _ _ rfl) rfl rfl
        refine touch_app ?_ (Mach.setFld_touch (P := 0x1200) _ _ _ _ rfl) rfl rfl
        exact ht2

theorem Mach.budgetEnd_touch (m0 : Mach) (a1 : ℕ) : m0.touch 0x3c0b108 0x22000000001200 (Mach.budgetEnd m0 a1) := by
  unfold Mach.budgetEnd
  extract_lets -underBinder -merge -useContext +onlyGivenNames t0
  have ht0 : m0.touch 0x3c0b108 0x22000000001200 t0 := by
    unfold t0
    refine touch_app ?_ (Mach.runJobs_touch ..) rfl rfl
    exact touch_refl _ _ _
  try clear_value t0
  split
  · refine touch_ite (fun _ => ?_) (fun _ => ?_)
    · refine touch_app ?_ (Mach.overrun_touch ..) rfl rfl
      exact ht0
    · exact ht0
  · exact ht0

end Sys2Proof.Machine
end

