-- ==== Sys2Proof/Laws/Frame/Parts.lean ====
section
/-! SUPPORT. The frame of each operation of Parts.lean: the parts of the module it can change. -/

namespace Sys2Proof.Machine

theorem Mach.enterActive_touch (m0 : Mach) (a1 : ℕ) : m0.touch 0x400008 0x4000000000008 (Mach.enterActive m0 a1) := by
  unfold Mach.enterActive
  refine touch_app ?_ (Mach.setFld_touch (P := 0x4000000000008) _ _ _ _ rfl) rfl rfl
  refine touch_app ?_ (Mach.setFld_touch (P := 0x4000000000008) _ _ _ _ rfl) rfl rfl
  refine touch_app ?_ (Mach.runJobs_touch ..) rfl rfl
  exact touch_refl _ _ _

theorem Mach.partStart_touch (m0 : Mach) (a1 : ℕ) : m0.touch 0x403008 0x4000000000008 (Mach.partStart m0 a1) := by
  unfold Mach.partStart
  refine touch_ite (fun _ => ?_) (fun _ => ?_)
  · exact touch_refl _ _ _
  · refine touch_ite (fun _ => ?_) (fun _ => ?_)
    · refine touch_each ?_ (fun y x hx => ?_)
      · refine touch_app ?_ (Mach.enterActive_touch ..) rfl rfl
        exact touch_refl _ _ _
      · refine touch_app ?_ (Mach.startLater_touch ..) rfl rfl
        exact hx
    · refine touch_app ?_ (Mach.eventAlways_touch (P := 0x4000000000008) _ _ _ _ rfl (by decide)) rfl rfl
      exact touch_refl _ _ _

theorem setRegion_put (m : Mach) (off v i : Nat) (ho : off < 4096) : m.touch 0x18 0x8000000000000
    { m with regs := kput (regKey 0x33 off i) (word v) m.regs, force := kput (regKey 0x33 off i) (word v) m.force } :=
  touch_app (touch_mono (Mach.setReg_touch m 0x33 off i (word v) (P := 0x8000000000000) rfl (by decide) ho) rfl rfl)
    (touch_set_force (m.setReg 0x33 off i (word v)) _) rfl rfl

theorem Mach.setRegion_touch (m0 : Mach) (a1 a2 : ℕ) (a3 : Region) :
    m0.touch 0x18 0x8000000000000 (Mach.setRegion m0 a1 a2 a3) :=
  touch_trans (touch_trans (setRegion_put m0 _ _ _ (by decide)) (setRegion_put _ _ _ _ (by decide))) (setRegion_put _ _ _ _ (by decide))

theorem Mach.restoreMap_touch (m0 : Mach) (a1 : ℕ) : m0.touch 0x18 0x8000000000000 (Mach.restoreMap m0 a1) := by
  unfold Mach.restoreMap
  extract_lets -underBinder -merge -useContext +onlyGivenNames l0
  try clear_value l0
  refine touch_each ?_ (fun y x hx => ?_)
  · exact touch_refl _ _ _
  · refine touch_app ?_ (Mach.setRegion_touch ..) rfl rfl
    exact hx

theorem Mach.freezeCmd_touch (m0 : Mach) : m0.touch 0x2403108 0x4000000000000 (Mach.freezeCmd m0) := by
  unfold Mach.freezeCmd
  extract_lets -underBinder -merge -useContext +onlyGivenNames l0
  try clear_value l0
  refine touch_ite (fun _ => ?_) (fun _ => ?_)
  · refine touch_app ?_ (Mach.event_touch (P := 0x4000000000000) _ _ _ _ rfl (by decide)) rfl rfl
    exact touch_refl _ _ _
  · extract_lets -underBinder -merge -useContext +onlyGivenNames l1
    try clear_value l1
    extract_lets -underBinder -merge -useContext +onlyGivenNames t0
    have ht0 : m0.touch 0x2403108 0x4000000000000 t0 := by
      unfold t0
      refine touch_app ?_ (Mach.count_touch (P := 0x4000000000000) _ _ _ _ (within_nth _ _ rfl)) rfl rfl
      refine touch_app ?_ (Mach.setFld_touch (P := 0x4000000000000) _ _ _ _ rfl) rfl rfl
      refine touch_app ?_ (Mach.runJobs_touch ..) rfl rfl
      exact touch_refl _ _ _
    try clear_value t0
    extract_lets -underBinder -merge -useContext +onlyGivenNames t1
    have ht1 : m0.touch 0x2403108 0x4000000000000 t1 := by
      unfold t1
      refine touch_app ?_ (Mach.onPart_touch ..) rfl rfl
      exact ht0
    try clear_value t1
    refine touch_app ?_ (Mach.arm_touch ..) rfl rfl
    exact ht1

theorem Mach.enterFrozen_touch (m0 : Mach) (a1 : ℕ) : m0.touch 0x3008 0x4000000000000 (Mach.enterFrozen m0 a1) := by
  unfold Mach.enterFrozen
  refine touch_ite (fun _ => ?_) (fun _ => ?_)
  · refine touch_app ?_ (Mach.event_touch (P := 0x4000000000000) _ _ _ _ rfl (by decide)) rfl rfl
    refine touch_app ?_ (Mach.setFld_touch (P := 0x4000000000000) _ _ _ _ rfl) rfl rfl
    exact touch_refl _ _ _
  · exact touch_refl _ _ _

theorem Mach.endFreeze_touch (m0 : Mach) (a1 : Bool) : m0.touch 0x2c0b918 0x3c000000001208 (Mach.endFreeze m0 a1) := by
  unfold Mach.endFreeze
  split
  · exact touch_refl _ _ _
  · extract_lets -underBinder -merge -useContext +onlyGivenNames t0
    have ht0 : m0.touch 0x2c0b918 0x3c000000001208 t0 := by
      unfold t0
      refine touch_app ?_ (Mach.disarm_touch ..) rfl rfl
      exact touch_refl _ _ _
    try clear_value t0
    extract_lets -underBinder -merge -useContext +onlyGivenNames l0
    try clear_value l0
    extract_lets -underBinder -merge -useContext +onlyGivenNames t1
    have ht1 : m0.touch 0x2c0b918 0x3c000000001208 t1 := by
      unfold t1
      refine touch_app ?_ (Mach.setFld_touch (P := 0x3c000000001208) _ _ _ _ rfl) rfl rfl
      refine touch_app ?_ (Mach.setFlag_touch (P := 0x3c000000001208) _ _ _ _ rfl) rfl rfl
      exact ht0
    try clear_value t1
    extract_lets -underBinder -merge -useContext +onlyGivenNames t2
    have ht2 : m0.touch 0x2c0b918 0x3c000000001208 t2 := by
      unfold t2
      refine touch_ite (fun _ => ?_) (fun _ => ?_)
      · refine touch_app ?_ (Mach.event_touch (P := 0x3c000000001208) _ _ _ _ rfl (by decide)) rfl rfl
        refine touch_app ?_ (Mach.count_touch (P := 0x3c000000001208) _ _ _ _ (within_nth _ _ rfl)) rfl rfl
        refine touch_app ?_ (Mach.restoreMap_touch ..) rfl rfl
        exact ht1
      · refine touch_app ?_ (Mach.event_touch (P := 0x3c000000001208) _ _ _ _ rfl (by decide)) rfl rfl
        exact ht1
    try clear_value t2
    extract_lets -underBinder -merge -useContext +onlyGivenNames t3
    have ht3 : m0.touch 0x2c0b918 0x3c000000001208 t3 := by
      unfold t3
      refine touch_app ?_ (Mach.enterActive_touch ..) rfl rfl
      exact ht2
    try clear_value t3
    extract_lets -underBinder -merge -useContext +onlyGivenNames t4
    have ht4 : m0.touch 0x2c0b918 0x3c000000001208 t4 := by
      unfold t4
      refine touch_app ?_ (Mach.releaseHeld_touch ..) rfl rfl
      exact ht3
    try clear_value t4
    refine touch_app ?_ (Mach.deliverKept_touch ..) rfl rfl
    exact ht4

theorem Mach.partReset_touch (m0 : Mach) (a1 : ℕ) : m0.touch 0x3fc4b918 0x3effff00071200 (Mach.partReset m0 a1) := by
  unfold Mach.partReset
  extract_lets -underBinder -merge -useContext +onlyGivenNames l0
  try clear_value l0
  refine touch_ite (fun _ => ?_) (fun _ => ?_)
  · exact touch_refl _ _ _
  · extract_lets -underBinder -merge -useContext +onlyGivenNames l1
    try clear_value l1
    extract_lets -underBinder -merge -useContext +onlyGivenNames t0
    have ht0 : m0.touch 0x3fc4b918 0x3effff00071200 t0 := by
      unfold t0
      refine touch_ite (fun _ => ?_) (fun _ => ?_)
      · refine touch_app ?_ (Mach.disarm_touch ..) rfl rfl
        refine touch_app ?_ (Mach.restoreMap_touch ..) rfl rfl
        exact touch_refl _ _ _
      · exact touch_refl _ _ _
    try clear_value t0
    extract_lets -underBinder -merge -useContext +onlyGivenNames t1
    have ht1 : m0.touch 0x3fc4b918 0x3effff00071200 t1 := by
      unfold t1
      refine touch_app ?_ (Mach.event_touch (P := 0x3effff00071200) _ _ _ _ rfl (by decide)) rfl rfl
      refine touch_app ?_ (Mach.count_touch (P := 0x3effff00071200) _ _ _ _ rfl) rfl rfl
      refine touch_app ?_ (Mach.setFld_touch (P := 0x3effff00071200) _ _ _ _ rfl) rfl rfl
      refine touch_app ?_ (Mach.runJobs_touch ..) rfl rfl
      exact ht0
    try clear_value t1
    extract_lets -underBinder -merge -useContext +onlyGivenNames l2
    extract_lets -underBinder -merge -useContext +onlyGivenNames l3
    try clear_value l3
    extract_lets -underBinder -merge -useContext +onlyGivenNames l4
    try clear_value l4
    extract_lets -underBinder -merge -useContext +onlyGivenNames t2
    have ht2 : m0.touch 0x3fc4b918 0x3effff00071200 t2 := by
      unfold t2
      refine touch_app ?_ (Mach.onDsp_touch ..) rfl rfl
      exact ht1
    try clear_value t2
    extract_lets -underBinder -merge -useContext +onlyGivenNames t3
    have ht3 : m0.touch 0x3fc4b918 0x3effff00071200 t3 := by
      unfold t3
      refine touch_each ?_ (fun y x hx => ?_)
      · exact ht2
      · refine touch_app ?_ (Mach.disarm_touch ..) rfl rfl
        exact hx
    try clear_value t3
    extract_lets -underBinder -merge -useContext +onlyGivenNames t4
    have ht4 : m0.touch 0x3fc4b918 0x3effff00071200 t4 := by
      unfold t4
      refine touch_each ?_ (fun y x hx => ?_)
      · exact ht3
      · refine touch_app ?_ (Mach.showJobs_touch ..) rfl rfl
        exact hx
    try clear_value t4
    extract_lets -underBinder -merge -useContext +onlyGivenNames t5
    have ht5 : m0.touch 0x3fc4b918 0x3effff00071200 t5 := by
      unfold t5
      refine touch_app ?_ (Mach.onPart_touch ..) rfl rfl
      exact ht4
    try clear_value t5
    extract_lets -underBinder -merge -useContext +onlyGivenNames t6
    have ht6 : m0.touch 0x3fc4b918 0x3effff00071200 t6 := by
      unfold t6
      refine touch_app ?_ (Mach.pubFinal_touch ..) rfl rfl
      exact ht5
    try clear_value t6
    refine touch_app ?_ (Mach.failCopy_touch ..) rfl rfl
    exact ht6

theorem Mach.partResetDone_touch (m0 : Mach) (a1 : ℕ) : m0.touch 0x2403108 0x2c000000000200 (Mach.partResetDone m0 a1) := by
  unfold Mach.partResetDone
  refine touch_ite (fun _ => ?_) (fun _ => ?_)
  · extract_lets -underBinder -merge -useContext +onlyGivenNames l0
    try clear_value l0
    extract_lets -underBinder -merge -useContext +onlyGivenNames t0
    have ht0 : m0.touch 0x2403108 0x2c000000000200 t0 := by
      unfold t0
      refine touch_app ?_ (Mach.disarm_touch ..) rfl rfl
      refine touch_app ?_ (Mach.onPart_touch ..) rfl rfl
      exact touch_refl _ _ _
    try clear_value t0
    extract_lets -underBinder -merge -useContext +onlyGivenNames t1
    have ht1 : m0.touch 0x2403108 0x2c000000000200 t1 := by
      unfold t1
      refine touch_app ?_ (Mach.onPart_touch ..) rfl rfl
      exact ht0
    try clear_value t1
    extract_lets -underBinder -merge -useContext +onlyGivenNames t2
    have ht2 : m0.touch 0x2403108 0x2c000000000200 t2 := by
      unfold t2
      refine touch_app ?_ (Mach.setFlag_touch (P := 0x2c000000000200) _ _ _ _ rfl) rfl rfl
      exact ht1
    try clear_value t2
    extract_lets -underBinder -merge -useContext +onlyGivenNames t3
    have ht3 : m0.touch 0x2403108 0x2c000000000200 t3 := by
      unfold t3
      refine touch_app ?_ (Mach.showInflight_touch ..) rfl rfl
      refine touch_app ?_ (Mach.setFld_touch (P := 0x2c000000000200) _ _ _ _ rfl) rfl rfl
      exact ht2
    try clear_value t3
    extract_lets -underBinder -merge -useContext +onlyGivenNames t4
    have ht4 : m0.touch 0x2403108 0x2c000000000200 t4 := by
      unfold t4
      refine touch_each ?_ (fun y x hx => ?_)
      · exact ht3
      · refine touch_app ?_ (Mach.startLater_touch ..) rfl rfl
        refine touch_app ?_ (Mach.slotCounters_touch ..) rfl rfl
        exact hx
    try clear_value t4
    refine touch_app ?_ (Mach.eventAlways_touch (P := 0x2c000000000200) _ _ _ _ rfl (by decide)) rfl rfl
    exact ht4
  · exact touch_refl _ _ _

theorem Mach.vrtApply_touch (m0 : Mach) : m0.touch 0x3fc4b918 0x3effff00071200 (Mach.vrtApply m0) := by
  unfold Mach.vrtApply
  refine touch_each ?_ (fun y x hx => ?_)
  · exact touch_refl _ _ _
  · split
    · refine touch_app ?_ (Mach.setFld_touch (P := 0x3effff00071200) _ _ _ _ rfl) rfl rfl
      exact hx
    · exact hx
    · refine touch_app ?_ (Mach.setFld_touch (P := 0x3effff00071200) _ _ _ _ rfl) rfl rfl
      exact hx
    · refine touch_app ?_ (Mach.onPart_touch ..) rfl rfl
      refine touch_app ?_ (Mach.partReset_touch ..) rfl rfl
      exact hx
    · exact hx

theorem Mach.xferFault_touch (m0 : Mach) (a1 : ℕ) (a2 : Option ℕ) : m0.touch 0x200b108 0x28000000000000 (Mach.xferFault m0 a1 a2) := by
  unfold Mach.xferFault
  extract_lets -underBinder -merge -useContext +onlyGivenNames t0
  have ht0 : m0.touch 0x200b108 0x28000000000000 t0 := by
    unfold t0
    refine touch_app ?_ (Mach.count_touch (P := 0x28000000000000) _ _ _ _ (within_nth _ _ rfl)) rfl rfl
    exact touch_refl _ _ _
  try clear_value t0
  split
  · refine touch_app ?_ (Mach.partEvent_touch (P := 0x28000000000000) _ _ _ _ rfl (by decide)) rfl rfl
    exact ht0
  · exact ht0

theorem Mach.xferCmd_touch (m0 : Mach) (a1 : ℕ) (a2 : RingPacket) : m0.touch 0x201b908 0x3c000000000200 (Mach.xferCmd m0 a1 a2) := by
  unfold Mach.xferCmd
  extract_lets -underBinder -merge -useContext +onlyGivenNames l0
  try clear_value l0
  extract_lets -underBinder -merge -useContext +onlyGivenNames l1
  try clear_value l1
  extract_lets -underBinder -merge -useContext +onlyGivenNames l2
  try clear_value l2
  extract_lets -underBinder -merge -useContext +onlyGivenNames l3
  try clear_value l3
  extract_lets -underBinder -merge -useContext +onlyGivenNames l4
  try clear_value l4
  extract_lets -underBinder -merge -useContext +onlyGivenNames l5
  try clear_value l5
  extract_lets -underBinder -merge -useContext +onlyGivenNames l6
  try clear_value l6
  extract_lets -underBinder -merge -useContext +onlyGivenNames l7
  try clear_value l7
  refine touch_ite (fun _ => ?_) (fun _ => ?_)
  · refine touch_app ?_ (Mach.doneCmd_touch ..) rfl rfl
    exact touch_refl _ _ _
  · refine touch_ite (fun _ => ?_) (fun _ => ?_)
    · refine touch_app ?_ (Mach.doneCmd_touch ..) rfl rfl
      refine touch_app ?_ (Mach.count_touch (P := 0x3c000000000200) _ _ _ _ (within_nth _ _ rfl)) rfl rfl
      exact touch_refl _ _ _
    · extract_lets -underBinder -merge -useContext +onlyGivenNames l8
      try clear_value l8
      split
      · extract_lets -underBinder -merge -useContext +onlyGivenNames t0
        have ht0 : m0.touch 0x201b908 0x3c000000000200 t0 := by
          unfold t0
          refine touch_app ?_ (Mach.onPart_touch ..) rfl rfl
          exact touch_refl _ _ _
        try clear_value t0
        refine touch_app ?_ (Mach.doneCmd_touch ..) rfl rfl
        refine touch_app ?_ (Mach.partEvent_touch (P := 0x3c000000000200) _ _ _ _ rfl (by decide)) rfl rfl
        refine touch_app ?_ (Mach.count_touch (P := 0x3c000000000200) _ _ _ _ (within_nth _ _ rfl)) rfl rfl
        exact ht0
      · refine touch_ite (fun _ => ?_) (fun _ => ?_)
        · refine touch_app ?_ (Mach.doneCmd_touch ..) rfl rfl
          refine touch_app ?_ (Mach.xferFault_touch ..) rfl rfl
          exact touch_refl _ _ _
        · refine touch_ite (fun _ => ?_) (fun _ => ?_)
          · refine touch_app ?_ (Mach.doneCmd_touch ..) rfl rfl
            refine touch_app ?_ (Mach.xferFault_touch ..) rfl rfl
            exact touch_refl _ _ _
          · refine touch_app ?_ (Mach.showInflight_touch ..) rfl rfl
            refine touch_app ?_ (Mach.onPart_touch ..) rfl rfl
            refine touch_app ?_ (Mach.raiseRequest_touch ..) rfl rfl
            exact touch_refl _ _ _

theorem Mach.dropXfer_touch (m0 : Mach) (a1 : ℕ) (a2 : Xfer) : m0.touch 0x2000008 0xc000000000200 (Mach.dropXfer m0 a1 a2) := by
  unfold Mach.dropXfer
  refine touch_app ?_ (Mach.showInflight_touch ..) rfl rfl
  refine touch_app ?_ (Mach.onPart_touch ..) rfl rfl
  exact touch_refl _ _ _

theorem Mach.pieceDone_touch (m0 : Mach) (a1 : ℕ) (a2 : ℕ) (a3 : PieceEnd) : m0.touch 0x201b908 0x3c000000000200 (Mach.pieceDone m0 a1 a2 a3) := by
  unfold Mach.pieceDone
  split
  · exact touch_refl _ _ _
  · extract_lets -underBinder -merge -useContext +onlyGivenNames l0
    refine touch_ite (fun _ => ?_) (fun _ => ?_)
    · split
      · refine touch_app ?_ (Mach.partEvent_touch (P := 0x3c000000000200) _ _ _ _ rfl (by decide)) rfl rfl
        refine touch_app ?_ (Mach.count_touch (P := 0x3c000000000200) _ _ _ _ (within_nth _ _ rfl)) rfl rfl
        refine touch_app ?_ (Mach.dropXfer_touch ..) rfl rfl
        exact touch_refl _ _ _
      · refine touch_app ?_ (Mach.dropXfer_touch ..) rfl rfl
        exact touch_refl _ _ _
    · split
      · unfold l0
        refine touch_app ?_ (Mach.doneCmd_touch ..) rfl rfl
        refine touch_app ?_ (Mach.xferFault_touch ..) rfl rfl
        refine touch_app ?_ (Mach.dropXfer_touch ..) rfl rfl
        exact touch_refl _ _ _
      · unfold l0
        refine touch_app ?_ (Mach.doneCmd_touch ..) rfl rfl
        refine touch_app ?_ (Mach.xferFault_touch ..) rfl rfl
        refine touch_app ?_ (Mach.dropXfer_touch ..) rfl rfl
        exact touch_refl _ _ _
      · extract_lets -underBinder -merge -useContext +onlyGivenNames l1
        try clear_value l1
        extract_lets -underBinder -merge -useContext +onlyGivenNames t0
        have ht0 : m0.touch 0x201b908 0x3c000000000200 t0 := by
          unfold t0
          refine touch_app ?_ (Mach.partWrite_touch ..) rfl rfl
          exact touch_refl _ _ _
        try clear_value t0
        extract_lets -underBinder -merge -useContext +onlyGivenNames l2
        try clear_value l2
        refine touch_ite (fun _ => ?_) (fun _ => ?_)
        · refine touch_app ?_ (Mach.doneCmd_touch ..) rfl rfl
          refine touch_app ?_ (Mach.count_touch (P := 0x3c000000000200) _ _ _ _ rfl) rfl rfl
          refine touch_app ?_ (Mach.dropXfer_touch ..) rfl rfl
          exact ht0
        · refine touch_app ?_ (Mach.onPart_touch ..) rfl rfl
          refine touch_app ?_ (Mach.raiseRequest_touch ..) rfl rfl
          exact ht0

theorem Mach.vnicCmd_touch (m0 : Mach) (a1 : ℕ) (a2 : RingPacket) : m0.touch 0x1f84b908 0x30ffff00070000 (Mach.vnicCmd m0 a1 a2) := by
  unfold Mach.vnicCmd
  extract_lets -underBinder -merge -useContext +onlyGivenNames l0
  try clear_value l0
  extract_lets -underBinder -merge -useContext +onlyGivenNames l1
  try clear_value l1
  extract_lets -underBinder -merge -useContext +onlyGivenNames l2
  try clear_value l2
  extract_lets -underBinder -merge -useContext +onlyGivenNames l3
  try clear_value l3
  extract_lets -underBinder -merge -useContext +onlyGivenNames l4
  try clear_value l4
  refine touch_ite (fun _ => ?_) (fun _ => ?_)
  · refine touch_app ?_ (Mach.doneCmd_touch ..) rfl rfl
    refine touch_app ?_ (Mach.event_touch (P := 0x30ffff00070000) _ _ _ _ rfl (by decide)) rfl rfl
    exact touch_refl _ _ _
  · refine touch_app ?_ (Mach.doneCmd_touch ..) rfl rfl
    refine touch_app ?_ (Mach.inject_touch ..) rfl rfl
    exact touch_refl _ _ _

theorem Mach.mgrEntry_touch (m0 : Mach) (a1 : RingPacket) : m0.touch 0x1f84b908 0x34ffff00070000 (Mach.mgrEntry m0 a1) := by
  unfold Mach.mgrEntry
  extract_lets -underBinder -merge -useContext +onlyGivenNames l0
  try clear_value l0
  refine touch_ite (fun _ => ?_) (fun _ => ?_)
  · exact touch_refl _ _ _
  · extract_lets -underBinder -merge -useContext +onlyGivenNames l1
    try clear_value l1
    extract_lets -underBinder -merge -useContext +onlyGivenNames l2
    try clear_value l2
    extract_lets -underBinder -merge -useContext +onlyGivenNames t3
    have ht3 : m0.touch 0x1f84b908 0x34ffff00070000 t3 := by
      unfold t3
      refine touch_ite (fun _ => ?_) (fun _ => ?_)
      · refine touch_app ?_ (Mach.inject_touch ..) rfl rfl
        exact touch_refl _ _ _
      · exact touch_refl _ _ _
    try clear_value t3
    extract_lets -underBinder -merge -useContext +onlyGivenNames l4
    try clear_value l4
    extract_lets -underBinder -merge -useContext +onlyGivenNames l5
    try clear_value l5
    extract_lets -underBinder -merge -useContext +onlyGivenNames t6
    have ht6 : m0.touch 0x1f84b908 0x34ffff00070000 t6 := by
      unfold t6
      refine touch_app ?_ (touch_mem _ _ (by intro h; repeat' first | exact h | apply memPut_wf | apply memWrite_wf)) rfl rfl
      exact ht3
    try clear_value t6
    refine touch_app ?_ (Mach.setFld_touch (P := 0x34ffff00070000) _ _ _ _ rfl) rfl rfl
    exact ht6

theorem Mach.mgrRing_touch (m0 : Mach) (a1 : List RingPacket) : m0.touch 0x1f84b908 0x34ffff00070000 (Mach.mgrRing m0 a1) := by
  unfold Mach.mgrRing
  refine touch_each ?_ (fun y x hx => ?_)
  · exact touch_refl _ _ _
  · refine touch_app ?_ (Mach.mgrEntry_touch ..) rfl rfl
    exact hx

end Sys2Proof.Machine
end

