-- ==== Sys2Proof/Laws/Frame/Arrive.lean ====
section
/-! SUPPORT. The frame of each operation of Arrive.lean: the parts of the module it can change. -/

namespace Sys2Proof.Machine

theorem Mach.vectorsArrive_touch (m0 : Mach) (a1 : ℕ) (a2 : ℕ) : m0.touch 0x1000 0x0 (Mach.vectorsArrive m0 a1 a2) := by
  unfold Mach.vectorsArrive
  split
  · exact touch_refl _ _ _
  · refine touch_each ?_ (fun y x hx => ?_)
    · exact touch_refl _ _ _
    · refine touch_app ?_ (Mach.emit_touch ..) rfl rfl
      exact hx

theorem Mach.valueArrives_touch (m0 : Mach) (a1 : ℕ) (a2 : List ℕ) : m0.touch 0x63008 0x40 (Mach.valueArrives m0 a1 a2) := by
  unfold Mach.valueArrives
  refine touch_ite (fun _ => ?_) (fun _ => ?_)
  · refine touch_each ?_ (fun y x hx => ?_)
    · exact touch_refl _ _ _
    · refine touch_app ?_ (Mach.vectorsArrive_touch ..) rfl rfl
      exact hx
  · refine touch_ite (fun _ => ?_) (fun _ => ?_)
    · refine touch_app ?_ (touch_set_time _ _) rfl rfl
      exact touch_refl _ _ _
    · split
      · refine touch_app ?_ (Mach.pushStamp_touch ..) rfl rfl
        exact touch_refl _ _ _
      · exact touch_refl _ _ _

theorem Mach.countsArrive_touch (m0 : Mach) (a1 : List ℕ) : m0.touch 0x80000008 0x8000 (Mach.countsArrive m0 a1) := by
  unfold Mach.countsArrive
  extract_lets -underBinder -merge -useContext +onlyGivenNames t0
  have ht0 : m0.touch 0x80000008 0x8000 t0 := by
    unfold t0
    refine touch_each ?_ (fun y x hx => ?_)
    · exact touch_refl _ _ _
    · refine touch_app ?_ (Mach.setFld_touch (P := 0x8000) _ _ _ _ rfl) rfl rfl
      exact hx
  try clear_value t0
  refine touch_app ?_ (touch_set_pls _ _) rfl rfl
  exact ht0

theorem Mach.countArrives_touch (m0 : Mach) (a1 : ℕ) (a2 : List ℕ) : m0.touch 0x80020008 0x8000 (Mach.countArrives m0 a1 a2) := by
  unfold Mach.countArrives
  refine touch_ite (fun _ => ?_) (fun _ => ?_)
  · refine touch_app ?_ (Mach.countsArrive_touch ..) rfl rfl
    exact touch_refl _ _ _
  · refine touch_app ?_ (touch_set_time _ _) rfl rfl
    exact touch_refl _ _ _

theorem Mach.crossingDone_touch (m0 : Mach) (a1 : ℕ) (a2 : XKind) : m0.touch 0x8006b008 0x80000000008040 (Mach.crossingDone m0 a1 a2) := by
  unfold Mach.crossingDone
  extract_lets -underBinder -merge -useContext +onlyGivenNames l0
  try clear_value l0
  split
  · refine touch_ite (fun _ => ?_) (fun _ => ?_)
    · refine touch_app ?_ (Mach.count_touch (P := 0x80000000008040) _ _ _ _ rfl) rfl rfl
      refine touch_app ?_ (Mach.onCrossing_touch ..) rfl rfl
      exact touch_refl _ _ _
    · exact touch_refl _ _ _
  · split
    · refine touch_app ?_ (Mach.valueArrives_touch ..) rfl rfl
      refine touch_app ?_ (Mach.count_touch (P := 0x80000000008040) _ _ _ _ rfl) rfl rfl
      refine touch_app ?_ (Mach.onCrossing_touch ..) rfl rfl
      exact touch_refl _ _ _
    · exact touch_refl _ _ _
  · split
    · refine touch_app ?_ (Mach.countArrives_touch ..) rfl rfl
      refine touch_app ?_ (Mach.count_touch (P := 0x80000000008040) _ _ _ _ rfl) rfl rfl
      refine touch_app ?_ (Mach.onCrossing_touch ..) rfl rfl
      exact touch_refl _ _ _
    · exact touch_refl _ _ _
  · refine touch_ite (fun _ => ?_) (fun _ => ?_)
    · refine touch_app ?_ (Mach.count_touch (P := 0x80000000008040) _ _ _ _ rfl) rfl rfl
      refine touch_app ?_ (Mach.onCrossing_touch ..) rfl rfl
      exact touch_refl _ _ _
    · exact touch_refl _ _ _

end Sys2Proof.Machine
end

