-- ==== Sys2Proof/Laws/Frame/Svi.lean ====
section
/-! SUPPORT. The frame of each operation of Svi.lean: the parts of the module it can change. -/

namespace Sys2Proof.Machine

theorem Mach.onStream_touch (m0 : Mach) (a1 : ℕ) (a2 : Stream → Stream) : m0.touch 0x80000 0x0 (Mach.onStream m0 a1 a2) := by
  unfold Mach.onStream
  refine touch_app ?_ (Mach.onSvi_touch ..) rfl rfl
  exact touch_refl _ _ _

theorem Mach.eqApply_touch (m0 : Mach) (a1 : EqTick) : m0.touch 0x3008 0x400 (Mach.eqApply m0 a1).1 := by
  unfold Mach.eqApply
  change Mach.touch1 _ _ m0 _
  split
  · exact touch_refl _ _ _
  · split
    extract_lets -underBinder -merge -useContext +onlyGivenNames l0
    extract_lets -underBinder -merge -useContext +onlyGivenNames l1
    extract_lets -underBinder -merge -useContext +onlyGivenNames l2
    extract_lets -underBinder -merge -useContext +onlyGivenNames l3
    try clear_value l3
    extract_lets -underBinder -merge -useContext +onlyGivenNames l4
    try clear_value l4
    extract_lets -underBinder -merge -useContext +onlyGivenNames t0
    have ht0 : m0.touch 0x3008 0x400 t0 := by
      unfold t0
      refine touch_app ?_ (Mach.count_touch (P := 0x400) _ _ _ _ rfl) rfl rfl
      exact touch_refl _ _ _
    try clear_value t0
    extract_lets -underBinder -merge -useContext +onlyGivenNames t1
    have ht1 : m0.touch 0x3008 0x400 t1 := by
      unfold t1
      refine touch_ite (fun _ => ?_) (fun _ => ?_)
      · exact ht0
      · refine touch_app ?_ (Mach.event_touch (P := 0x400) _ _ _ _ rfl (by decide)) rfl rfl
        refine touch_app ?_ (Mach.count_touch (P := 0x400) _ _ _ _ rfl) rfl rfl
        exact ht0
    try clear_value t1
    extract_lets -underBinder -merge -useContext +onlyGivenNames t2
    have ht2 : m0.touch 0x3008 0x400 t2 := by
      unfold t2
      refine touch_ite (fun _ => ?_) (fun _ => ?_)
      · exact ht1
      · refine touch_app ?_ (Mach.event_touch (P := 0x400) _ _ _ _ rfl (by decide)) rfl rfl
        refine touch_app ?_ (Mach.count_touch (P := 0x400) _ _ _ _ rfl) rfl rfl
        exact ht1
    try clear_value t2
    exact ht2

theorem Mach.eqTimers_touch (m0 : Mach) (a1 : ℕ) : m0.touch 0x100 0x0 (Mach.eqTimers m0 a1) := by
  unfold Mach.eqTimers
  extract_lets -underBinder -merge -useContext +onlyGivenNames l0
  try clear_value l0
  extract_lets -underBinder -merge -useContext +onlyGivenNames t0
  have ht0 : m0.touch 0x100 0x0 t0 := by
    unfold t0
    split
    · refine touch_ite (fun _ => ?_) (fun _ => ?_)
      · refine touch_app ?_ (Mach.arm_touch ..) rfl rfl
        exact touch_refl _ _ _
      · refine touch_app ?_ (Mach.disarm_touch ..) rfl rfl
        exact touch_refl _ _ _
    · refine touch_app ?_ (Mach.disarm_touch ..) rfl rfl
      exact touch_refl _ _ _
  try clear_value t0
  split
  · refine touch_app ?_ (Mach.arm_touch ..) rfl rfl
    exact ht0
  · refine touch_app ?_ (Mach.disarm_touch ..) rfl rfl
    exact ht0

theorem Mach.eqLeave_touch (m0 : Mach) (a1 : ℕ) : m0.touch 0x183108 0x800 (Mach.eqLeave m0 a1) := by
  unfold Mach.eqLeave
  split
  extract_lets -underBinder -merge -useContext +onlyGivenNames l0
  try clear_value l0
  extract_lets -underBinder -merge -useContext +onlyGivenNames t0
  have ht0 : m0.touch 0x183108 0x800 t0 := by
    unfold t0
    refine touch_app ?_ (Mach.onSvi_touch ..) rfl rfl
    exact touch_refl _ _ _
  try clear_value t0
  extract_lets -underBinder -merge -useContext +onlyGivenNames t1
  have ht1 : m0.touch 0x183108 0x800 t1 := by
    unfold t1
    refine touch_app ?_ (Mach.eqTimers_touch ..) rfl rfl
    exact ht0
  try clear_value t1
  refine touch_app ?_ (Mach.toMsr_touch ..) rfl rfl
  exact ht1

theorem Mach.eqAdvance_touch (m0 : Mach) (a1 : ℕ) : m0.touch 0x183108 0xc00 (Mach.eqAdvance m0 a1) := by
  unfold Mach.eqAdvance
  extract_lets -underBinder -merge -useContext +onlyGivenNames t0
  have ht0 : m0.touch 0x183108 0xc00 t0 := by
    unfold t0
    refine touch_each ?_ (fun y x hx => ?_)
    · exact touch_refl _ _ _
    · refine touch_ite (fun _ => ?_) (fun _ => ?_)
      · split
        rename_i p0_0 p0_1 p0_2 he3
        have hp0_1 : m0.touch 0x183108 0xc00 p0_1 := by
          refine touch_fst he3 ?_
          refine touch_app ?_ (Mach.eqApply_touch ..) rfl rfl
          exact hx
        refine touch_app ?_ (Mach.onSvi_touch ..) rfl rfl
        exact hp0_1
      · exact hx
  try clear_value t0
  refine touch_app ?_ (Mach.eqLeave_touch ..) rfl rfl
  exact ht0

theorem Mach.sendSamples_touch (m0 : Mach) (a1 : Tick) (a2 : List ℕ) : m0.touch 0x1001100 0x0 (Mach.sendSamples m0 a1 a2) := by
  unfold Mach.sendSamples
  refine touch_each ?_ (fun y x hx => ?_)
  · exact touch_refl _ _ _
  · split
    · refine touch_app ?_ (Mach.plaitSend_touch ..) rfl rfl
      exact hx
    · exact hx

theorem Mach.sendComb_touch (m0 : Mach) (a1 : EqTick) : m0.touch 0x1081100 0x0 (Mach.sendComb m0 a1) := by
  unfold Mach.sendComb
  extract_lets -underBinder -merge -useContext +onlyGivenNames l0
  try clear_value l0
  extract_lets -underBinder -merge -useContext +onlyGivenNames t0
  have ht0 : m0.touch 0x1081100 0x0 t0 := by
    unfold t0
    refine touch_app ?_ (Mach.onSvi_touch ..) rfl rfl
    exact touch_refl _ _ _
  try clear_value t0
  refine touch_app ?_ (Mach.sendSamples_touch ..) rfl rfl
  refine touch_app ?_ (Mach.plaitSend_touch ..) rfl rfl
  exact ht0

theorem Mach.combDue_touch (m0 : Mach) (a1 : ℕ) (a2 : Bool) : m0.touch 0x1183108 0xc00 (Mach.combDue m0 a1 a2) := by
  unfold Mach.combDue
  extract_lets -underBinder -merge -useContext +onlyGivenNames t0
  have ht0 : m0.touch 0x1183108 0xc00 t0 := by
    unfold t0
    refine touch_each ?_ (fun y x hx => ?_)
    · exact touch_refl _ _ _
    · refine touch_ite (fun _ => ?_) (fun _ => ?_)
      · refine touch_app ?_ (Mach.sendComb_touch ..) rfl rfl
        exact hx
      · exact hx
  try clear_value t0
  refine touch_app ?_ (Mach.eqAdvance_touch ..) rfl rfl
  exact ht0

theorem Mach.equalise_touch (m0 : Mach) (a1 : Tick) : m0.touch 0x1881100 0x0 (Mach.equalise m0 a1) := by
  unfold Mach.equalise
  extract_lets -underBinder -merge -useContext +onlyGivenNames l0
  try clear_value l0
  extract_lets -underBinder -merge -useContext +onlyGivenNames t0
  try clear_value t0
  extract_lets -underBinder -merge -useContext +onlyGivenNames t1
  have ht1 : m0.touch 0x1881100 0x0 t1 := by
    unfold t1
    refine touch_app ?_ (touch_set_pub _ _) rfl rfl
    exact touch_refl _ _ _
  try clear_value t1
  extract_lets -underBinder -merge -useContext +onlyGivenNames l1
  try clear_value l1
  extract_lets -underBinder -merge -useContext +onlyGivenNames t2
  have ht2 : m0.touch 0x1881100 0x0 t2 := by
    unfold t2
    refine touch_app ?_ (Mach.onSvi_touch ..) rfl rfl
    exact ht1
  try clear_value t2
  refine touch_app ?_ (Mach.plaitSend_touch ..) rfl rfl
  exact ht2

theorem Mach.handTicks_touch (m0 : Mach) (a1 : ℕ) (a2 : List Tick) : m0.touch 0x1983108 0xc00 (Mach.handTicks m0 a1 a2) := by
  unfold Mach.handTicks
  refine touch_ite (fun _ => ?_) (fun _ => ?_)
  · exact touch_refl _ _ _
  · refine touch_ite (fun _ => ?_) (fun _ => ?_)
    · refine touch_app ?_ (Mach.combDue_touch ..) rfl rfl
      refine touch_app ?_ (Mach.eqTimers_touch ..) rfl rfl
      refine touch_each ?_ (fun y x hx => ?_)
      · exact touch_refl _ _ _
      · refine touch_app ?_ (Mach.equalise_touch ..) rfl rfl
        exact hx
    · extract_lets -underBinder -merge -useContext +onlyGivenNames l0
      try clear_value l0
      extract_lets -underBinder -merge -useContext +onlyGivenNames t0
      try clear_value t0
      extract_lets -underBinder -merge -useContext +onlyGivenNames t1
      have ht1 : m0.touch 0x1983108 0xc00 t1 := by
        unfold t1
        refine touch_ite (fun _ => ?_) (fun _ => ?_)
        · refine touch_app ?_ (touch_set_pub _ _) rfl rfl
          exact touch_refl _ _ _
        · exact touch_refl _ _ _
      try clear_value t1
      extract_lets -underBinder -merge -useContext +onlyGivenNames t2
      have ht2 : m0.touch 0x1983108 0xc00 t2 := by
        unfold t2
        refine touch_each ?_ (fun y x hx => ?_)
        · exact ht1
        · refine touch_app ?_ (Mach.plaitSend_touch ..) rfl rfl
          exact hx
      try clear_value t2
      refine touch_app ?_ (Mach.toMsr_touch ..) rfl rfl
      exact ht2

theorem Mach.eqFlush_touch (m0 : Mach) : m0.touch 0x983108 0x800 (Mach.eqFlush m0) := by
  unfold Mach.eqFlush
  extract_lets -underBinder -merge -useContext +onlyGivenNames l0
  try clear_value l0
  extract_lets -underBinder -merge -useContext +onlyGivenNames t0
  have ht0 : m0.touch 0x983108 0x800 t0 := by
    unfold t0
    refine touch_app ?_ (Mach.onSvi_touch ..) rfl rfl
    exact touch_refl _ _ _
  try clear_value t0
  extract_lets -underBinder -merge -useContext +onlyGivenNames l1
  try clear_value l1
  extract_lets -underBinder -merge -useContext +onlyGivenNames t1
  try clear_value t1
  extract_lets -underBinder -merge -useContext +onlyGivenNames t2
  have ht2 : m0.touch 0x983108 0x800 t2 := by
    unfold t2
    refine touch_app ?_ (touch_set_pub _ _) rfl rfl
    exact ht0
  try clear_value t2
  refine touch_each ?_ (fun y x hx => ?_)
  · exact ht2
  · extract_lets -underBinder -merge -useContext +onlyGivenNames l2
    try clear_value l2
    extract_lets -underBinder -merge -useContext +onlyGivenNames t3
    have ht3 : m0.touch 0x983108 0x800 t3 := by
      unfold t3
      refine touch_app ?_ (Mach.disarm_touch ..) rfl rfl
      refine touch_app ?_ (Mach.disarm_touch ..) rfl rfl
      exact hx
    try clear_value t3
    refine touch_app ?_ (Mach.toMsr_touch ..) rfl rfl
    exact ht3

theorem Mach.closeTick_touch (m0 : Mach) (a1 : ℕ) (a2 : ℕ) (a3 : Cause) : m0.touch 0x83008 0x400 (Mach.closeTick m0 a1 a2 a3).1 := by
  unfold Mach.closeTick
  change Mach.touch1 _ _ m0 _
  extract_lets -underBinder -merge -useContext +onlyGivenNames l0
  try clear_value l0
  extract_lets -underBinder -merge -useContext +onlyGivenNames l1
  try clear_value l1
  extract_lets -underBinder -merge -useContext +onlyGivenNames l2
  try clear_value l2
  extract_lets -underBinder -merge -useContext +onlyGivenNames l3
  try clear_value l3
  extract_lets -underBinder -merge -useContext +onlyGivenNames t0
  have ht0 : m0.touch 0x83008 0x400 t0 := by
    unfold t0
    refine touch_app ?_ (Mach.onSvi_touch ..) rfl rfl
    exact touch_refl _ _ _
  try clear_value t0
  extract_lets -underBinder -merge -useContext +onlyGivenNames t1
  have ht1 : m0.touch 0x83008 0x400 t1 := by
    unfold t1
    refine touch_each ?_ (fun y x hx => ?_)
    · exact ht0
    · split
      · refine touch_app ?_ (Mach.onStream_touch ..) rfl rfl
        exact hx
      · exact hx
  try clear_value t1
  extract_lets -underBinder -merge -useContext +onlyGivenNames t2
  have ht2 : m0.touch 0x83008 0x400 t2 := by
    unfold t2
    refine touch_app ?_ (Mach.setFld_touch (P := 0x400) _ _ _ _ rfl) rfl rfl
    exact ht1
  try clear_value t2
  extract_lets -underBinder -merge -useContext +onlyGivenNames t3
  have ht3 : m0.touch 0x83008 0x400 t3 := by
    unfold t3
    split
    · refine touch_app ?_ (Mach.count_touch (P := 0x400) _ _ _ _ rfl) rfl rfl
      exact ht2
    · refine touch_app ?_ (Mach.event_touch (P := 0x400) _ _ _ _ rfl (by decide)) rfl rfl
      refine touch_app ?_ (Mach.count_touch (P := 0x400) _ _ _ _ rfl) rfl rfl
      exact ht2
    · exact ht2
  try clear_value t3
  exact ht3

theorem Mach.closeLoop_touch (m0 : Mach) (a1 : ℕ) (a2 : Option ℕ) (a3 : Bool) (a4 : ℕ) : m0.touch 0x83008 0x400 (Mach.closeLoop m0 a1 a2 a3 a4).1 := by
  induction a4 generalizing m0 a1 a2 a3
  · unfold Mach.closeLoop
    change Mach.touch1 _ _ m0 _
    exact touch_refl _ _ _
  · rename_i n ih
    unfold Mach.closeLoop
    change Mach.touch1 _ _ m0 _
    split
    · exact touch_refl _ _ _
    · extract_lets -underBinder -merge -useContext +onlyGivenNames l0
      try clear_value l0
      split
      · split
        rename_i p0_0 p0_1 p0_2 he3
        have hp0_1 : m0.touch 0x83008 0x400 p0_1 := by
          refine touch_fst he3 ?_
          refine touch_app ?_ (Mach.closeTick_touch ..) rfl rfl
          exact touch_refl _ _ _
        split
        rename_i p0_0 p0_1 p0_2 he3
        have hp0_1 : m0.touch 0x83008 0x400 p0_1 := by
          refine touch_fst he3 ?_
          refine touch_app ?_ (ih ..) rfl rfl
          exact hp0_1
        exact hp0_1
      · split
        · split
          rename_i p0_0 p0_1 p0_2 he3
          have hp0_1 : m0.touch 0x83008 0x400 p0_1 := by
            refine touch_fst he3 ?_
            refine touch_app ?_ (Mach.closeTick_touch ..) rfl rfl
            exact touch_refl _ _ _
          split
          rename_i p0_0 p0_1 p0_2 he3
          have hp0_1 : m0.touch 0x83008 0x400 p0_1 := by
            refine touch_fst he3 ?_
            refine touch_app ?_ (ih ..) rfl rfl
            exact hp0_1
          exact hp0_1
        · exact touch_refl _ _ _

theorem Mach.closeDue_touch (m0 : Mach) (a1 : ℕ) (a2 : Option ℕ) (a3 : Bool) : m0.touch 0x1983108 0xc00 (Mach.closeDue m0 a1 a2 a3) := by
  unfold Mach.closeDue
  extract_lets -underBinder -merge -useContext +onlyGivenNames l0
  try clear_value l0
  extract_lets -underBinder -merge -useContext +onlyGivenNames l1
  try clear_value l1
  split
  rename_i p0_0 p0_1 p0_2 he3
  have hp0_1 : m0.touch 0x1983108 0xc00 p0_1 := by
    refine touch_fst he3 ?_
    refine touch_app ?_ (Mach.closeLoop_touch ..) rfl rfl
    exact touch_refl _ _ _
  refine touch_app ?_ (Mach.handTicks_touch ..) rfl rfl
  exact hp0_1

theorem Mach.showActive_touch (m0 : Mach) (a1 : ℕ) : m0.touch 0x8 0x400 (Mach.showActive m0 a1) := by
  unfold Mach.showActive
  refine touch_app ?_ (Mach.setFld_touch (P := 0x400) _ _ _ _ rfl) rfl rfl
  exact touch_refl _ _ _

theorem Mach.setSub_touch (m0 : Mach) (a1 : ℕ) (a2 : ℕ) : m0.touch 0x83008 0x400 (Mach.setSub m0 a1 a2) := by
  unfold Mach.setSub
  extract_lets -underBinder -merge -useContext +onlyGivenNames t0
  have ht0 : m0.touch 0x83008 0x400 t0 := by
    unfold t0
    refine touch_app ?_ (Mach.setFld_touch (P := 0x400) _ _ _ _ rfl) rfl rfl
    exact touch_refl _ _ _
  try clear_value t0
  extract_lets -underBinder -merge -useContext +onlyGivenNames t1
  have ht1 : m0.touch 0x83008 0x400 t1 := by
    unfold t1
    refine touch_ite (fun _ => ?_) (fun _ => ?_)
    · refine touch_app ?_ (Mach.event_touch (P := 0x400) _ _ _ _ rfl (by decide)) rfl rfl
      refine touch_app ?_ (Mach.onStream_touch ..) rfl rfl
      exact ht0
    · exact ht0
  try clear_value t1
  refine touch_app ?_ (Mach.showActive_touch ..) rfl rfl
  exact ht1

theorem Mach.validAsdu_touch (m0 : Mach) (a1 : ℕ) (a2 : ℕ) (a3 : ℕ) (a4 : ℕ) : m0.touch 0x83108 0x400 (Mach.validAsdu m0 a1 a2 a3 a4) := by
  unfold Mach.validAsdu
  extract_lets -underBinder -merge -useContext +onlyGivenNames l0
  try clear_value l0
  extract_lets -underBinder -merge -useContext +onlyGivenNames l1
  try clear_value l1
  extract_lets -underBinder -merge -useContext +onlyGivenNames l2
  try clear_value l2
  extract_lets -underBinder -merge -useContext +onlyGivenNames t0
  have ht0 : m0.touch 0x83108 0x400 t0 := by
    unfold t0
    refine touch_app ?_ (Mach.setFld_touch (P := 0x400) _ _ _ _ rfl) rfl rfl
    refine touch_app ?_ (Mach.count_touch (P := 0x400) _ _ _ _ rfl) rfl rfl
    exact touch_refl _ _ _
  try clear_value t0
  extract_lets -underBinder -merge -useContext +onlyGivenNames t1
  have ht1 : m0.touch 0x83108 0x400 t1 := by
    unfold t1
    refine touch_ite (fun _ => ?_) (fun _ => ?_)
    · refine touch_app ?_ (Mach.count_touch (P := 0x400) _ _ _ _ rfl) rfl rfl
      exact ht0
    · exact ht0
  try clear_value t1
  extract_lets -underBinder -merge -useContext +onlyGivenNames t2
  have ht2 : m0.touch 0x83108 0x400 t2 := by
    unfold t2
    refine touch_app ?_ (Mach.onStream_touch ..) rfl rfl
    exact ht1
  try clear_value t2
  extract_lets -underBinder -merge -useContext +onlyGivenNames t3
  have ht3 : m0.touch 0x83108 0x400 t3 := by
    unfold t3
    refine touch_app ?_ (Mach.arm_touch ..) rfl rfl
    exact ht2
  try clear_value t3
  extract_lets -underBinder -merge -useContext +onlyGivenNames l3
  try clear_value l3
  extract_lets -underBinder -merge -useContext +onlyGivenNames l4
  try clear_value l4
  extract_lets -underBinder -merge -useContext +onlyGivenNames t4
  have ht4 : m0.touch 0x83108 0x400 t4 := by
    unfold t4
    refine touch_ite (fun _ => ?_) (fun _ => ?_)
    · refine touch_app ?_ (Mach.setSub_touch ..) rfl rfl
      exact ht3
    · exact ht3
  try clear_value t4
  refine touch_ite (fun _ => ?_) (fun _ => ?_)
  · extract_lets -underBinder -merge -useContext +onlyGivenNames l5
    try clear_value l5
    extract_lets -underBinder -merge -useContext +onlyGivenNames t5
    have ht5 : m0.touch 0x83108 0x400 t5 := by
      unfold t5
      refine touch_app ?_ (Mach.onStream_touch ..) rfl rfl
      exact ht4
    try clear_value t5
    refine touch_ite (fun _ => ?_) (fun _ => ?_)
    · refine touch_app ?_ (Mach.setSub_touch ..) rfl rfl
      exact ht5
    · exact ht5
  · exact ht4

theorem Mach.streamLost_touch (m0 : Mach) (a1 : ℕ) : m0.touch 0x1983108 0xc00 (Mach.streamLost m0 a1) := by
  unfold Mach.streamLost
  split
  · refine touch_app ?_ (Mach.setSub_touch ..) rfl rfl
    exact touch_refl _ _ _
  · refine touch_app ?_ (Mach.closeDue_touch ..) rfl rfl
    refine touch_app ?_ (Mach.event_touch (P := 0xc00) _ _ _ _ rfl (by decide)) rfl rfl
    refine touch_app ?_ (Mach.count_touch (P := 0xc00) _ _ _ _ rfl) rfl rfl
    refine touch_app ?_ (Mach.setSub_touch ..) rfl rfl
    exact touch_refl _ _ _
  · exact touch_refl _ _ _

theorem Mach.learnOffset_touch (m0 : Mach) (a1 : ℕ) (a2 : ℕ) (a3 : ℕ) (a4 : ℤ) : m0.touch 0x80000 0x0 (Mach.learnOffset m0 a1 a2 a3 a4) := by
  unfold Mach.learnOffset
  refine touch_ite (fun _ => ?_) (fun _ => ?_)
  · refine touch_app ?_ (Mach.onSvi_touch ..) rfl rfl
    exact touch_refl _ _ _
  · refine touch_app ?_ (Mach.onStream_touch ..) rfl rfl
    exact touch_refl _ _ _

theorem Mach.placeLocal_touch (m0 : Mach) (a1 : ℕ) (a2 : ℕ) (a3 : ℕ) (a4 : ℕ) (a5 : ℤ) (a6 : ℕ) : m0.touch 0x83008 0x400 (Mach.placeLocal m0 a1 a2 a3 a4 a5 a6).1 := by
  unfold Mach.placeLocal
  change Mach.touch1 _ _ m0 _
  split
  · extract_lets -underBinder -merge -useContext +onlyGivenNames l0
    try clear_value l0
    split
    exact touch_refl _ _ _
  · split
    split
    · split
      · extract_lets -underBinder -merge -useContext +onlyGivenNames l0
        try clear_value l0
        split
        extract_lets -underBinder -merge -useContext +onlyGivenNames t0
        have ht0 : m0.touch 0x83008 0x400 t0 := by
          unfold t0
          refine touch_app ?_ (Mach.count_touch (P := 0x400) _ _ _ _ rfl) rfl rfl
          refine touch_app ?_ (Mach.learnOffset_touch ..) rfl rfl
          exact touch_refl _ _ _
        try clear_value t0
        extract_lets -underBinder -merge -useContext +onlyGivenNames l1
        try clear_value l1
        extract_lets -underBinder -merge -useContext +onlyGivenNames t1
        have ht1 : m0.touch 0x83008 0x400 t1 := by
          unfold t1
          refine touch_each ?_ (fun y x hx => ?_)
          · exact ht0
          · refine touch_app ?_ (Mach.onStream_touch ..) rfl rfl
            exact hx
        try clear_value t1
        refine touch_app ?_ (Mach.event_touch (P := 0x400) _ _ _ _ rfl (by decide)) rfl rfl
        refine touch_app ?_ (Mach.onStream_touch ..) rfl rfl
        exact ht1
      · exact touch_refl _ _ _
    · exact touch_refl _ _ _

theorem Mach.asduDrop_touch (m0 : Mach) (a1 : ℕ) (a2 : ℕ) : m0.touch 0x3008 0x400 (Mach.asduDrop m0 a1 a2) := by
  unfold Mach.asduDrop
  refine touch_app ?_ (Mach.event_touch (P := 0x400) _ _ _ _ rfl (by decide)) rfl rfl
  refine touch_app ?_ (Mach.count_touch (P := 0x400) _ _ _ _ (by unfold sviCnt; first | rfl | exact within_nth _ _ rfl | (split <;> first | rfl | exact within_nth _ _ rfl))) rfl rfl
  exact touch_refl _ _ _

theorem Mach.checkChans_touch (m0 : Mach) (a1 : ℕ) (a2 : Bool) (a3 : List (BitVec 32 × BitVec 32)) : m0.touch 0x3008 0x400 (Mach.checkChans m0 a1 a2 a3).1 := by
  unfold Mach.checkChans
  change Mach.touch1 _ _ m0 _
  extract_lets -underBinder -merge -useContext +onlyGivenNames l0
  refine touch_foldl_fst _ ?_ (fun x y hx => ?_)
  · exact touch_refl _ _ _
  · change Mach.touch1 _ _ m0 _
    unfold l0
    split
    rename_i p0_0 p0_1 p0_2
    extract_lets -underBinder -merge -useContext +onlyGivenNames l1
    try clear_value l1
    extract_lets -underBinder -merge -useContext +onlyGivenNames l2
    try clear_value l2
    extract_lets -underBinder -merge -useContext +onlyGivenNames l3
    try clear_value l3
    extract_lets -underBinder -merge -useContext +onlyGivenNames l4
    try clear_value l4
    extract_lets -underBinder -merge -useContext +onlyGivenNames t0
    have ht0 : m0.touch 0x3008 0x400 t0 := by
      unfold t0
      refine touch_ite (fun _ => ?_) (fun _ => ?_)
      · refine touch_app ?_ (Mach.count_touch (P := 0x400) _ _ _ _ rfl) rfl rfl
        exact hx
      · exact hx
    try clear_value t0
    extract_lets -underBinder -merge -useContext +onlyGivenNames l5
    try clear_value l5
    split
    · refine touch_app ?_ (Mach.event_touch (P := 0x400) _ _ _ _ rfl (by decide)) rfl rfl
      refine touch_app ?_ (Mach.count_touch (P := 0x400) _ _ _ _ rfl) rfl rfl
      exact ht0
    · exact ht0

theorem Mach.lateSample_touch (m0 : Mach) (a1 : ℕ) : m0.touch 0x3008 0x400 (Mach.lateSample m0 a1) := by
  unfold Mach.lateSample
  refine touch_app ?_ (Mach.event_touch (P := 0x400) _ _ _ _ rfl (by decide)) rfl rfl
  refine touch_app ?_ (Mach.count_touch (P := 0x400) _ _ _ _ rfl) rfl rfl
  refine touch_app ?_ (Mach.count_touch (P := 0x400) _ _ _ _ rfl) rfl rfl
  exact touch_refl _ _ _

theorem Mach.inputAsdu_touch (m0 : Mach) (a1 : ℕ) (a2 : ℕ) (a3 : Bool) (a4 : Asdu) (a5 : ℕ) (a6 : ℤ) : m0.touch 0x83108 0x400 (Mach.inputAsdu m0 a1 a2 a3 a4 a5 a6) := by
  unfold Mach.inputAsdu
  extract_lets -underBinder -merge -useContext +onlyGivenNames l0
  try clear_value l0
  split
  extract_lets -underBinder -merge -useContext +onlyGivenNames l1
  try clear_value l1
  refine touch_ite (fun _ => ?_) (fun _ => ?_)
  · refine touch_app ?_ (Mach.count_touch (P := 0x400) _ _ _ _ rfl) rfl rfl
    exact touch_refl _ _ _
  · split
    · refine touch_app ?_ (Mach.lateSample_touch ..) rfl rfl
      exact touch_refl _ _ _
    · refine touch_ite (fun _ => ?_) (fun _ => ?_)
      · refine touch_app ?_ (Mach.lateSample_touch ..) rfl rfl
        exact touch_refl _ _ _
      · refine touch_ite (fun _ => ?_) (fun _ => ?_)
        · refine touch_app ?_ (Mach.count_touch (P := 0x400) _ _ _ _ rfl) rfl rfl
          exact touch_refl _ _ _
        · extract_lets -underBinder -merge -useContext +onlyGivenNames t0
          have ht0 : m0.touch 0x83108 0x400 t0 := by
            unfold t0
            refine touch_app ?_ (Mach.validAsdu_touch ..) rfl rfl
            exact touch_refl _ _ _
          try clear_value t0
          split
          rename_i p0_0 p0_1 p0_2 he3
          have hp0_1 : m0.touch 0x83108 0x400 p0_1 := by
            refine touch_fst he3 ?_
            refine touch_app ?_ (Mach.checkChans_touch ..) rfl rfl
            exact ht0
          refine touch_app ?_ (Mach.onStream_touch ..) rfl rfl
          exact hp0_1

theorem Mach.sampleAsdu_touch (m0 : Mach) (a1 : ℕ) (a2 : ℕ) (a3 : Bool) (a4 : Asdu) (a5 : ℕ) (a6 : ℤ) : m0.touch 0x83108 0x400 (Mach.sampleAsdu m0 a1 a2 a3 a4 a5 a6) := by
  unfold Mach.sampleAsdu
  extract_lets -underBinder -merge -useContext +onlyGivenNames l0
  try clear_value l0
  extract_lets -underBinder -merge -useContext +onlyGivenNames l1
  try clear_value l1
  extract_lets -underBinder -merge -useContext +onlyGivenNames t0
  have ht0 : m0.touch 0x83108 0x400 t0.1 := by
    unfold t0
    change Mach.touch1 _ _ m0 _
    split
    · split
      exact touch_refl _ _ _
    · refine touch_app ?_ (Mach.placeLocal_touch ..) rfl rfl
      exact touch_refl _ _ _
  try clear_value t0
  split
  rename_i p0_0 p0_1 p0_2 p0_3 p0_4
  extract_lets -underBinder -merge -useContext +onlyGivenNames l2
  try clear_value l2
  refine touch_ite (fun _ => ?_) (fun _ => ?_)
  · refine touch_app ?_ (Mach.count_touch (P := 0x400) _ _ _ _ rfl) rfl rfl
    exact ht0
  · split
    · refine touch_app ?_ (Mach.lateSample_touch ..) rfl rfl
      exact ht0
    · refine touch_ite (fun _ => ?_) (fun _ => ?_)
      · refine touch_app ?_ (Mach.lateSample_touch ..) rfl rfl
        exact ht0
      · refine touch_ite (fun _ => ?_) (fun _ => ?_)
        · refine touch_app ?_ (Mach.count_touch (P := 0x400) _ _ _ _ rfl) rfl rfl
          exact ht0
        · extract_lets -underBinder -merge -useContext +onlyGivenNames t0
          have ht0 : m0.touch 0x83108 0x400 t0 := by
            unfold t0
            split
            · refine touch_app ?_ (Mach.learnOffset_touch ..) rfl rfl
              exact ht0
            · exact ht0
          try clear_value t0
          extract_lets -underBinder -merge -useContext +onlyGivenNames t1
          have ht1 : m0.touch 0x83108 0x400 t1 := by
            unfold t1
            refine touch_ite (fun _ => ?_) (fun _ => ?_)
            · refine touch_app ?_ (Mach.onStream_touch ..) rfl rfl
              exact ht0
            · exact ht0
          try clear_value t1
          extract_lets -underBinder -merge -useContext +onlyGivenNames t2
          have ht2 : m0.touch 0x83108 0x400 t2 := by
            unfold t2
            refine touch_app ?_ (Mach.validAsdu_touch ..) rfl rfl
            exact ht1
          try clear_value t2
          refine touch_ite (fun _ => ?_) (fun _ => ?_)
          · split
            rename_i p0_0 p0_1 p0_2 he3
            have hp0_1 : m0.touch 0x83108 0x400 p0_1 := by
              refine touch_fst he3 ?_
              refine touch_app ?_ (Mach.checkChans_touch ..) rfl rfl
              exact ht2
            extract_lets -underBinder -merge -useContext +onlyGivenNames t3
            have ht3 : m0.touch 0x83108 0x400 t3 := by
              unfold t3
              refine touch_app ?_ (Mach.onSvi_touch ..) rfl rfl
              exact hp0_1
            try clear_value t3
            refine touch_app ?_ (Mach.onStream_touch ..) rfl rfl
            exact ht3
          · exact ht2

theorem Mach.sviAsdu_touch (m0 : Mach) (a1 : ℕ) (a2 : Bool) (a3 : ℕ) (a4 : Asdu) : m0.touch 0x83108 0x400 (Mach.sviAsdu m0 a1 a2 a3 a4) := by
  unfold Mach.sviAsdu
  split
  · refine touch_app ?_ (Mach.asduDrop_touch ..) rfl rfl
    exact touch_refl _ _ _
  · extract_lets -underBinder -merge -useContext +onlyGivenNames l0
    try clear_value l0
    extract_lets -underBinder -merge -useContext +onlyGivenNames l1
    try clear_value l1
    refine touch_ite (fun _ => ?_) (fun _ => ?_)
    · refine touch_app ?_ (Mach.inputAsdu_touch ..) rfl rfl
      exact touch_refl _ _ _
    · refine touch_app ?_ (Mach.sampleAsdu_touch ..) rfl rfl
      exact touch_refl _ _ _

theorem Mach.frameDrop_touch (m0 : Mach) (a1 : ℕ) : m0.touch 0x3008 0x400 (Mach.frameDrop m0 a1) := by
  unfold Mach.frameDrop
  refine touch_app ?_ (Mach.event_touch (P := 0x400) _ _ _ _ rfl (by decide)) rfl rfl
  refine touch_app ?_ (Mach.count_touch (P := 0x400) _ _ _ _ (by unfold sviCnt; first | rfl | exact within_nth _ _ rfl | (split <;> first | rfl | exact within_nth _ _ rfl))) rfl rfl
  exact touch_refl _ _ _

theorem Mach.frameFails_touch (m0 : Mach) (a1 : ℕ) (a2 : ℕ) (a3 : Option ℕ) : m0.touch 0x3008 0x400 (Mach.frameFails m0 a1 a2 a3) := by
  unfold Mach.frameFails
  extract_lets -underBinder -merge -useContext +onlyGivenNames t0
  have ht0 : m0.touch 0x3008 0x400 t0 := by
    unfold t0
    refine touch_app ?_ (Mach.frameDrop_touch ..) rfl rfl
    exact touch_refl _ _ _
  try clear_value t0
  split
  · refine touch_app ?_ (Mach.event_touch (P := 0x400) _ _ _ _ rfl (by decide)) rfl rfl
    exact ht0
  · exact ht0

theorem touch_under {A P A' P' : Nat} {a b : Mach} {g : Gen} {f : Mach → Mach} (h : a.touch A P b)
    (hf : ∀ x : Mach, x.touch A' P' (f x)) (h9 : A'.testBit 9 = false) (h11 : A'.testBit 11 = false)
    (hA : A' &&& A = A') (hP : P' &&& P = P') : a.touch A P (b.under g f) := by
  refine touch_app h ⟨fun k hk => ?_, fun p o i hp ho hb hr => (hf (seenUnder b g)).2.1 p o i hp ho hb hr, fun hm => ⟨?_, hm.2.1, ?_⟩⟩ hA hP
  · have := (hf (seenUnder b g)).1 k hk
    revert this
    unfold Mach.same
    split <;> first | exact fun e => e | (intro _; rfl) | exact fun e => trivial
  · have : (f (seenUnder b g)).bulk = b.bulk := (hf (seenUnder b g)).1 9 h9
    change Memory.wf (f (seenUnder b g)).bulk = true
    rw [this]; exact hm.1
  · have : (f (seenUnder b g)).mem = b.mem := (hf (seenUnder b g)).1 11 h11
    change Memory.wf (f (seenUnder b g)).mem = true
    rw [this]; exact hm.2.2

theorem Mach.onOld_touch (m0 : Mach) (a1 : Gen) (a2 : ℕ) (a3 : OldSub → OldSub) : m0.touch 0x80000 0x0 (Mach.onOld m0 a1 a2 a3) := by
  unfold Mach.onOld
  refine touch_app ?_ (Mach.onSvi_touch ..) rfl rfl
  exact touch_refl _ _ _

theorem Mach.oldAsdu_touch (m0 : Mach) (a1 : Gen) (a2 : ℕ) (a3 : Bool) (a4 : ℕ) (a5 : Asdu) : m0.touch 0x83008 0x400 (Mach.oldAsdu m0 a1 a2 a3 a4 a5) := by
  unfold Mach.oldAsdu
  extract_lets -underBinder -merge -useContext +onlyGivenNames l0
  try clear_value l0
  split
  extract_lets -underBinder -merge -useContext +onlyGivenNames l1
  try clear_value l1
  extract_lets -underBinder -merge -useContext +onlyGivenNames l2
  try clear_value l2
  split
  · refine touch_app ?_ (Mach.asduDrop_touch ..) rfl rfl
    exact touch_refl _ _ _
  · refine touch_ite (fun _ => ?_) (fun _ => ?_)
    · refine touch_app ?_ (Mach.count_touch (P := 0x400) _ _ _ _ rfl) rfl rfl
      exact touch_refl _ _ _
    · refine touch_ite (fun _ => ?_) (fun _ => ?_)
      · refine touch_app ?_ (Mach.lateSample_touch ..) rfl rfl
        exact touch_refl _ _ _
      · refine touch_ite (fun _ => ?_) (fun _ => ?_)
        · refine touch_app ?_ (Mach.count_touch (P := 0x400) _ _ _ _ rfl) rfl rfl
          exact touch_refl _ _ _
        · split
          rename_i p0_0 p0_1 p0_2 he3
          have hp0_1 : m0.touch 0x83008 0x400 p0_1 := by
            refine touch_fst he3 ?_
            refine touch_app ?_ (Mach.checkChans_touch ..) rfl rfl
            refine touch_app ?_ (Mach.count_touch (P := 0x400) _ _ _ _ rfl) rfl rfl
            exact touch_refl _ _ _
          refine touch_ite (fun _ => ?_) (fun _ => ?_)
          · refine touch_app ?_ (Mach.onOld_touch ..) rfl rfl
            exact hp0_1
          · refine touch_app ?_ (Mach.onSvi_touch ..) rfl rfl
            exact hp0_1

theorem Mach.oldFrame_touch (m0 : Mach) (a1 : Gen) (a2 : ℕ) (a3 : Mac) (a4 : SvApdu) (a5 : ℕ) : m0.touch 0x1983108 0xc00 (Mach.oldFrame m0 a1 a2 a3 a4 a5) := by
  unfold Mach.oldFrame
  split
  · refine touch_app ?_ (Mach.frameFails_touch ..) rfl rfl
    exact touch_refl _ _ _
  · extract_lets -underBinder -merge -useContext +onlyGivenNames l0
    try clear_value l0
    extract_lets -underBinder -merge -useContext +onlyGivenNames t0
    have ht0 : m0.touch 0x1983108 0xc00 t0 := by
      unfold t0
      refine touch_each ?_ (fun y x hx => ?_)
      · exact touch_refl _ _ _
      · refine touch_ite (fun _ => ?_) (fun _ => ?_)
        · refine touch_under ?_ (fun x => Mach.oldAsdu_touch ..) rfl rfl rfl rfl
          exact hx
        · split
          · refine touch_app ?_ (Mach.sviAsdu_touch ..) rfl rfl
            exact hx
          · exact hx
    try clear_value t0
    refine touch_app ?_ (Mach.closeDue_touch ..) rfl rfl
    exact ht0

theorem Mach.sviFrame_touch (m0 : Mach) (a1 : Frame) (a2 : ℕ) : m0.touch 0x1983108 0xc00 (Mach.sviFrame m0 a1 a2) := by
  unfold Mach.sviFrame
  refine touch_ite (fun _ => ?_) (fun _ => ?_)
  · refine touch_app ?_ (Mach.count_touch (P := 0xc00) _ _ _ _ rfl) rfl rfl
    exact touch_refl _ _ _
  · extract_lets -underBinder -merge -useContext +onlyGivenNames l0
    try clear_value l0
    split
    · refine touch_ite (fun _ => ?_) (fun _ => ?_)
      · refine touch_app ?_ (Mach.frameDrop_touch ..) rfl rfl
        exact touch_refl _ _ _
      · split
        · refine touch_app ?_ (Mach.oldFrame_touch ..) rfl rfl
          exact touch_refl _ _ _
        · refine touch_app ?_ (Mach.count_touch (P := 0xc00) _ _ _ _ rfl) rfl rfl
          exact touch_refl _ _ _
        · split
          · refine touch_app ?_ (Mach.frameFails_touch ..) rfl rfl
            exact touch_refl _ _ _
          · refine touch_app ?_ (Mach.closeDue_touch ..) rfl rfl
            refine touch_each ?_ (fun y x hx => ?_)
            · exact touch_refl _ _ _
            · refine touch_app ?_ (Mach.sviAsdu_touch ..) rfl rfl
              exact hx
    · refine touch_app ?_ (Mach.frameDrop_touch ..) rfl rfl
      exact touch_refl _ _ _

theorem Mach.waitForSvi_touch (m0 : Mach) (a1 : Frame) (a2 : ℕ) (a3 : ℕ) : m0.touch 0x4003008 0x50000 (Mach.waitForSvi m0 a1 a2 a3) := by
  unfold Mach.waitForSvi
  extract_lets -underBinder -merge -useContext +onlyGivenNames l0
  try clear_value l0
  split
  · refine touch_app ?_ (Mach.showMem_touch ..) rfl rfl
    refine touch_app ?_ (Mach.onPort_touch ..) rfl rfl
    exact touch_refl _ _ _
  · refine touch_app ?_ (Mach.memDrop_touch ..) rfl rfl
    exact touch_refl _ _ _

theorem Mach.sviRx_touch (m0 : Mach) (a1 : Frame) (a2 : ℕ) (a3 : ℕ) : m0.touch 0x5983108 0x50c00 (Mach.sviRx m0 a1 a2 a3) := by
  unfold Mach.sviRx
  refine touch_ite (fun _ => ?_) (fun _ => ?_)
  · refine touch_ite (fun _ => ?_) (fun _ => ?_)
    · refine touch_app ?_ (Mach.onSvi_touch ..) rfl rfl
      exact touch_refl _ _ _
    · refine touch_app ?_ (Mach.waitForSvi_touch ..) rfl rfl
      refine touch_app ?_ (Mach.event_touch (P := 0x50c00) _ _ _ _ rfl (by decide)) rfl rfl
      refine touch_app ?_ (Mach.count_touch (P := 0x50c00) _ _ _ _ rfl) rfl rfl
      exact touch_refl _ _ _
  · refine touch_app ?_ (Mach.sviFrame_touch ..) rfl rfl
    exact touch_refl _ _ _

theorem Mach.sviRefill_touch (m0 : Mach) : m0.touch 0x4080008 0x10000 (Mach.sviRefill m0) := by
  unfold Mach.sviRefill
  split
  · refine touch_app ?_ (Mach.onSvi_touch ..) rfl rfl
    refine touch_app ?_ (Mach.showMem_touch ..) rfl rfl
    refine touch_app ?_ (Mach.onPort_touch ..) rfl rfl
    exact touch_refl _ _ _
  · exact touch_refl _ _ _

theorem Mach.sviDrain_touch (m0 : Mach) (a1 : ℕ) : m0.touch 0x5983108 0x10c00 (Mach.sviDrain m0 a1) := by
  induction a1 generalizing m0
  · unfold Mach.sviDrain
    exact touch_refl _ _ _
  · rename_i n ih
    unfold Mach.sviDrain
    split
    · exact touch_refl _ _ _
    · refine touch_ite (fun _ => ?_) (fun _ => ?_)
      · exact touch_refl _ _ _
      · refine touch_app ?_ (ih ..) rfl rfl
        refine touch_app ?_ (Mach.sviFrame_touch ..) rfl rfl
        refine touch_app ?_ (Mach.sviRefill_touch ..) rfl rfl
        refine touch_app ?_ (Mach.onSvi_touch ..) rfl rfl
        exact touch_refl _ _ _

theorem Mach.sviTake_touch (m0 : Mach) : m0.touch 0x5983108 0x10c00 (Mach.sviTake m0) := by
  unfold Mach.sviTake
  refine touch_app ?_ (Mach.sviDrain_touch ..) rfl rfl
  exact touch_refl _ _ _

theorem Mach.closeEpoch_touch (m0 : Mach) (a1 : ℕ) (a2 : ℕ) (a3 : ℕ) : m0.touch 0x83008 0x400 (Mach.closeEpoch m0 a1 a2 a3).1 := by
  induction a3 generalizing m0 a1 a2
  · unfold Mach.closeEpoch
    change Mach.touch1 _ _ m0 _
    exact touch_refl _ _ _
  · rename_i n ih
    unfold Mach.closeEpoch
    change Mach.touch1 _ _ m0 _
    split
    · exact touch_refl _ _ _
    · split
      · split
        rename_i p0_0 p0_1 p0_2 he3
        have hp0_1 : m0.touch 0x83008 0x400 p0_1 := by
          refine touch_fst he3 ?_
          refine touch_app ?_ (Mach.closeTick_touch ..) rfl rfl
          exact touch_refl _ _ _
        split
        rename_i p0_0 p0_1 p0_2 he3
        have hp0_1 : m0.touch 0x83008 0x400 p0_1 := by
          refine touch_fst he3 ?_
          refine touch_app ?_ (ih ..) rfl rfl
          exact hp0_1
        exact hp0_1
      · exact touch_refl _ _ _

theorem Mach.sviEpoch_touch (m0 : Mach) : m0.touch 0x1983108 0xc00 (Mach.sviEpoch m0) := by
  unfold Mach.sviEpoch
  extract_lets -underBinder -merge -useContext +onlyGivenNames l0
  try clear_value l0
  extract_lets -underBinder -merge -useContext +onlyGivenNames l1
  try clear_value l1
  extract_lets -underBinder -merge -useContext +onlyGivenNames l2
  try clear_value l2
  extract_lets -underBinder -merge -useContext +onlyGivenNames l3
  try clear_value l3
  extract_lets -underBinder -merge -useContext +onlyGivenNames l4
  try clear_value l4
  extract_lets -underBinder -merge -useContext +onlyGivenNames t0
  have ht0 : m0.touch 0x1983108 0xc00 t0 := by
    unfold t0
    refine touch_each ?_ (fun y x hx => ?_)
    · exact touch_refl _ _ _
    · split
      rename_i p0_0 p0_1 p0_2 he3
      have hp0_1 : m0.touch 0x1983108 0xc00 p0_1 := by
        refine touch_fst he3 ?_
        refine touch_app ?_ (Mach.closeEpoch_touch ..) rfl rfl
        exact hx
      extract_lets -underBinder -merge -useContext +onlyGivenNames t1
      have ht1 : m0.touch 0x1983108 0xc00 t1 := by
        unfold t1
        refine touch_each ?_ (fun y x hx => ?_)
        · exact hp0_1
        · refine touch_app ?_ (Mach.onStream_touch ..) rfl rfl
          exact hx
      try clear_value t1
      refine touch_app ?_ (Mach.handTicks_touch ..) rfl rfl
      exact ht1
  try clear_value t0
  extract_lets -underBinder -merge -useContext +onlyGivenNames t1
  have ht1 : m0.touch 0x1983108 0xc00 t1 := by
    unfold t1
    refine touch_app ?_ (Mach.onSvi_touch ..) rfl rfl
    exact ht0
  try clear_value t1
  extract_lets -underBinder -merge -useContext +onlyGivenNames t2
  have ht2 : m0.touch 0x1983108 0xc00 t2 := by
    unfold t2
    refine touch_each ?_ (fun y x hx => ?_)
    · exact ht1
    · refine touch_app ?_ (Mach.onStream_touch ..) rfl rfl
      exact hx
  try clear_value t2
  refine touch_app ?_ (Mach.event_touch (P := 0xc00) _ _ _ _ rfl (by decide)) rfl rfl
  exact ht2

theorem Mach.showLoad_touch (m0 : Mach) : m0.touch 0x8 0x400 (Mach.showLoad m0) := by
  unfold Mach.showLoad
  extract_lets -underBinder -merge -useContext +onlyGivenNames l0
  try clear_value l0
  split
  extract_lets -underBinder -merge -useContext +onlyGivenNames t0
  have ht0 : m0.touch 0x8 0x400 t0 := by
    unfold t0
    refine touch_app ?_ (Mach.setFld_touch (P := 0x400) _ _ _ _ rfl) rfl rfl
    refine touch_app ?_ (Mach.setFld_touch (P := 0x400) _ _ _ _ rfl) rfl rfl
    exact touch_refl _ _ _
  try clear_value t0
  extract_lets -underBinder -merge -useContext +onlyGivenNames l1
  refine touch_app ?_ (Mach.setFld_touch (P := 0x400) _ _ _ _ rfl) rfl rfl
  refine touch_app ?_ (Mach.setFld_touch (P := 0x400) _ _ _ _ rfl) rfl rfl
  exact ht0

theorem Mach.sviApply_touch (m0 : Mach) (a1 : KMap Word) (a2 : List Host.Cell) : m0.touch 0x80108 0x400 (Mach.sviApply m0 a1 a2) := by
  unfold Mach.sviApply
  extract_lets -underBinder -merge -useContext +onlyGivenNames l0
  try clear_value l0
  split
  · exact touch_refl _ _ _
  · extract_lets -underBinder -merge -useContext +onlyGivenNames l1
    try clear_value l1
    extract_lets -underBinder -merge -useContext +onlyGivenNames l2
    try clear_value l2
    extract_lets -underBinder -merge -useContext +onlyGivenNames l3
    try clear_value l3
    extract_lets -underBinder -merge -useContext +onlyGivenNames t0
    have ht0 : m0.touch 0x80108 0x400 t0 := by
      unfold t0
      refine touch_app ?_ (Mach.onSvi_touch ..) rfl rfl
      exact touch_refl _ _ _
    try clear_value t0
    extract_lets -underBinder -merge -useContext +onlyGivenNames t1
    have ht1 : m0.touch 0x80108 0x400 t1 := by
      unfold t1
      refine touch_ite (fun _ => ?_) (fun _ => ?_)
      · exact ht0
      · refine touch_app ?_ (Mach.onSvi_touch ..) rfl rfl
        exact ht0
    try clear_value t1
    extract_lets -underBinder -merge -useContext +onlyGivenNames t2
    have ht2 : m0.touch 0x80108 0x400 t2 := by
      unfold t2
      refine touch_each ?_ (fun y x hx => ?_)
      · exact ht1
      · extract_lets -underBinder -merge -useContext +onlyGivenNames t3
        have ht3 : m0.touch 0x80108 0x400 t3 := by
          unfold t3
          refine touch_app ?_ (Mach.disarm_touch ..) rfl rfl
          refine touch_app ?_ (Mach.onStream_touch ..) rfl rfl
          exact hx
        try clear_value t3
        refine touch_app ?_ (Mach.setFld_touch (P := 0x400) _ _ _ _ rfl) rfl rfl
        exact ht3
    try clear_value t2
    refine touch_app ?_ (Mach.showLoad_touch ..) rfl rfl
    refine touch_each ?_ (fun y x hx => ?_)
    · exact ht2
    · refine touch_app ?_ (Mach.showActive_touch ..) rfl rfl
      exact hx

theorem Mach.eqTimeout_touch (m0 : Mach) (a1 : ℕ) : m0.touch 0x183108 0x2000000000c00 (Mach.eqTimeout m0 a1) := by
  unfold Mach.eqTimeout
  extract_lets -underBinder -merge -useContext +onlyGivenNames t0
  have ht0 : m0.touch 0x183108 0x2000000000c00 t0 := by
    unfold t0
    refine touch_each ?_ (fun y x hx => ?_)
    · exact touch_refl _ _ _
    · refine touch_ite (fun _ => ?_) (fun _ => ?_)
      · extract_lets -underBinder -merge -useContext +onlyGivenNames t1
        have ht1 : m0.touch 0x183108 0x2000000000c00 t1 := by
          unfold t1
          refine touch_ite (fun _ => ?_) (fun _ => ?_)
          · refine touch_app ?_ (Mach.event_touch (P := 0x2000000000c00) _ _ _ _ rfl (by decide)) rfl rfl
            refine touch_app ?_ (Mach.count_touch (P := 0x2000000000c00) _ _ _ _ (within_nth _ _ rfl)) rfl rfl
            exact hx
          · exact hx
        try clear_value t1
        split
        rename_i p0_0 p0_1 p0_2 he3
        have hp0_1 : m0.touch 0x183108 0x2000000000c00 p0_1 := by
          refine touch_fst he3 ?_
          refine touch_app ?_ (Mach.eqApply_touch ..) rfl rfl
          exact ht1
        refine touch_app ?_ (Mach.onSvi_touch ..) rfl rfl
        exact hp0_1
      · exact hx
  try clear_value t0
  refine touch_app ?_ (Mach.eqLeave_touch ..) rfl rfl
  exact ht0

end Sys2Proof.Machine
end

