-- ==== Sys2Proof/Laws/Frame/Sets.lean ====
section
/-! SUPPORT. The frame of each operation of Sets.lean: the parts of the module it can change. -/

namespace Sys2Proof.Machine

theorem Mach.sendDigests_touch (m0 : Mach) (a1 : SetOut) : m0.touch 0x1001108 0x2000000000000 (Mach.sendDigests m0 a1) := by
  unfold Mach.sendDigests
  refine touch_ite (fun _ => ?_) (fun _ => ?_)
  · refine touch_each ?_ (fun y x hx => ?_)
    · exact touch_refl _ _ _
    · extract_lets -underBinder -merge -useContext +onlyGivenNames l0
      try clear_value l0
      refine touch_app ?_ (Mach.ownTick_touch ..) rfl rfl
      refine touch_app ?_ (Mach.plaitSend_touch ..) rfl rfl
      exact hx
  · exact touch_refl _ _ _

theorem Mach.handOut_touch (m0 : Mach) (a1 : SetOut) : m0.touch 0x63c0b90a 0x32000000007200 (Mach.handOut m0 a1) := by
  unfold Mach.handOut
  extract_lets -underBinder -merge -useContext +onlyGivenNames t0
  have ht0 : m0.touch 0x63c0b90a 0x32000000007200 t0 := by
    unfold t0
    refine touch_app ?_ (Mach.pubSv_touch ..) rfl rfl
    refine touch_app ?_ (Mach.dspTake_touch ..) rfl rfl
    exact touch_refl _ _ _
  try clear_value t0
  extract_lets -underBinder -merge -useContext +onlyGivenNames t1
  have ht1 : m0.touch 0x63c0b90a 0x32000000007200 t1 := by
    unfold t1
    refine touch_app ?_ (Mach.acqTake_touch ..) rfl rfl
    refine touch_app ?_ (Mach.nrgTake_touch ..) rfl rfl
    exact ht0
  try clear_value t1
  refine touch_app ?_ (Mach.tryCend_touch ..) rfl rfl
  refine touch_app ?_ (Mach.sendDigests_touch ..) rfl rfl
  exact ht1

end Sys2Proof.Machine
end

