-- ==== Sys2Proof/Laws/Frame/Time.lean ====
section
/-! SUPPORT. The frame of each operation of Time.lean: the parts of the module it can change. -/

namespace Sys2Proof.Machine

theorem Mach.showRate_touch (m0 : Mach) (a1 : ℤ) : m0.touch 0x8 0x20 (Mach.showRate m0 a1) := by
  unfold Mach.showRate
  refine touch_app ?_ (Mach.setFld_touch (P := 0x20) _ _ _ _ rfl) rfl rfl
  exact touch_refl _ _ _

theorem Mach.freeRate_touch (m0 : Mach) : m0.touch 0x8 0x20 (Mach.freeRate m0) := by
  unfold Mach.freeRate
  extract_lets -underBinder -merge -useContext +onlyGivenNames l0
  try clear_value l0
  extract_lets -underBinder -merge -useContext +onlyGivenNames l1
  try clear_value l1
  extract_lets -underBinder -merge -useContext +onlyGivenNames t0
  have ht0 : m0.touch 0x8 0x20 t0 := by
    unfold t0
    refine touch_app ?_ (Mach.setFlag_touch (P := 0x20) _ _ _ _ rfl) rfl rfl
    exact touch_refl _ _ _
  try clear_value t0
  refine touch_ite (fun _ => ?_) (fun _ => ?_)
  · exact ht0
  · refine touch_ite (fun _ => ?_) (fun _ => ?_)
    · refine touch_app ?_ (Mach.showRate_touch ..) rfl rfl
      exact ht0
    · refine touch_ite (fun _ => ?_) (fun _ => ?_)
      · refine touch_app ?_ (Mach.showRate_touch ..) rfl rfl
        exact ht0
      · exact ht0

theorem Mach.lockStretch_touch (m0 : Mach) (a1 : Bool) : m0.touch 0x20000 0x0 (Mach.lockStretch m0 a1) := by
  unfold Mach.lockStretch
  refine touch_app ?_ (Mach.onTime_touch ..) rfl rfl
  exact touch_refl _ _ _

theorem Mach.follow_touch (m0 : Mach) (a1 : ℕ) : m0.touch 0x2310a 0x60 (Mach.follow m0 a1) := by
  unfold Mach.follow
  refine touch_ite (fun _ => ?_) (fun _ => ?_)
  · exact touch_refl _ _ _
  · extract_lets -underBinder -merge -useContext +onlyGivenNames t0
    have ht0 : m0.touch 0x2310a 0x60 t0 := by
      unfold t0
      refine touch_app ?_ (Mach.count_touch (P := 0x60) _ _ _ _ rfl) rfl rfl
      refine touch_app ?_ (Mach.setFld_touch (P := 0x60) _ _ _ _ rfl) rfl rfl
      exact touch_refl _ _ _
    try clear_value t0
    extract_lets -underBinder -merge -useContext +onlyGivenNames t1
    have ht1 : m0.touch 0x2310a 0x60 t1 := by
      unfold t1
      refine touch_each ?_ (fun y x hx => ?_)
      · exact ht0
      · extract_lets -underBinder -merge -useContext +onlyGivenNames t2
        have ht2 : m0.touch 0x2310a 0x60 t2 := by
          unfold t2
          refine touch_app ?_ (Mach.setFlag_touch (P := 0x60) _ _ _ _ (within_nth _ _ rfl)) rfl rfl
          exact hx
        try clear_value t2
        refine touch_ite (fun _ => ?_) (fun _ => ?_)
        · refine touch_app ?_ (Mach.setFld_touch (P := 0x60) _ _ _ _ (within_nth _ _ rfl)) rfl rfl
          exact ht2
        · exact ht2
    try clear_value t1
    extract_lets -underBinder -merge -useContext +onlyGivenNames t2
    have ht2 : m0.touch 0x2310a 0x60 t2 := by
      unfold t2
      refine touch_app ?_ (Mach.lockStretch_touch ..) rfl rfl
      exact ht1
    try clear_value t2
    extract_lets -underBinder -merge -useContext +onlyGivenNames t3
    have ht3 : m0.touch 0x2310a 0x60 t3 := by
      unfold t3
      refine touch_ite (fun _ => ?_) (fun _ => ?_)
      · split
        rename_i p0_0 p0_1 p0_2 he3
        have hp0_2 : m0.touch 0x2310a 0x60 p0_2 := by
          refine touch_snd he3 ?_
          change Mach.touch2 _ _ m0 _
          split
          · exact ht2
          · refine touch_app ?_ (Mach.drawInt_touch ..) rfl rfl
            exact ht2
        refine touch_app ?_ (Mach.showRate_touch ..) rfl rfl
        refine touch_app ?_ (Mach.disarm_touch ..) rfl rfl
        refine touch_app ?_ (Mach.onTime_touch ..) rfl rfl
        exact hp0_2
      · exact ht1
    try clear_value t3
    refine touch_app ?_ (Mach.event_touch (P := 0x60) _ _ _ _ rfl (by decide)) rfl rfl
    refine touch_app ?_ (Mach.freeRate_touch ..) rfl rfl
    exact ht3

theorem Mach.selectSource_touch (m0 : Mach) : m0.touch 0x2310a 0x60 (Mach.selectSource m0) := by
  unfold Mach.selectSource
  extract_lets -underBinder -merge -useContext +onlyGivenNames l0
  try clear_value l0
  extract_lets -underBinder -merge -useContext +onlyGivenNames l1
  try clear_value l1
  extract_lets -underBinder -merge -useContext +onlyGivenNames l2
  try clear_value l2
  extract_lets -underBinder -merge -useContext +onlyGivenNames l3
  try clear_value l3
  extract_lets -underBinder -merge -useContext +onlyGivenNames l4
  try clear_value l4
  extract_lets -underBinder -merge -useContext +onlyGivenNames t0
  have ht0 : m0.touch 0x2310a 0x60 t0 := by
    unfold t0
    refine touch_app ?_ (Mach.disarm_touch ..) rfl rfl
    exact touch_refl _ _ _
  try clear_value t0
  refine touch_ite (fun _ => ?_) (fun _ => ?_)
  · refine touch_ite (fun _ => ?_) (fun _ => ?_)
    · refine touch_app ?_ (Mach.follow_touch ..) rfl rfl
      exact ht0
    · refine touch_app ?_ (Mach.arm_touch ..) rfl rfl
      exact ht0
  · refine touch_ite (fun _ => ?_) (fun _ => ?_)
    · exact ht0
    · refine touch_app ?_ (Mach.follow_touch ..) rfl rfl
      exact ht0

theorem Mach.ppsLow_touch (m0 : Mach) : m0.touch 0x21100 0x0 (Mach.ppsLow m0) := by
  unfold Mach.ppsLow
  refine touch_ite (fun _ => ?_) (fun _ => ?_)
  · refine touch_app ?_ (Mach.emit_touch ..) rfl rfl
    refine touch_app ?_ (Mach.disarm_touch ..) rfl rfl
    refine touch_app ?_ (Mach.onTime_touch ..) rfl rfl
    exact touch_refl _ _ _
  · exact touch_refl _ _ _

theorem Mach.ppsRise_touch (m0 : Mach) : m0.touch 0x21100 0x0 (Mach.ppsRise m0) := by
  unfold Mach.ppsRise
  extract_lets -underBinder -merge -useContext +onlyGivenNames l0
  try clear_value l0
  extract_lets -underBinder -merge -useContext +onlyGivenNames l1
  try clear_value l1
  refine touch_ite (fun _ => ?_) (fun _ => ?_)
  · extract_lets -underBinder -merge -useContext +onlyGivenNames t0
    have ht0 : m0.touch 0x21100 0x0 t0 := by
      unfold t0
      refine touch_app ?_ (Mach.onTime_touch ..) rfl rfl
      exact touch_refl _ _ _
    try clear_value t0
    refine touch_app ?_ (Mach.emit_touch ..) rfl rfl
    refine touch_app ?_ (Mach.arm_touch ..) rfl rfl
    exact ht0
  · exact touch_refl _ _ _

theorem Mach.enterTime_touch (m0 : Mach) (a1 : ℕ) : m0.touch 0x2b108 0x20 (Mach.enterTime m0 a1) := by
  unfold Mach.enterTime
  extract_lets -underBinder -merge -useContext +onlyGivenNames t0
  have ht0 : m0.touch 0x2b108 0x20 t0 := by
    unfold t0
    refine touch_app ?_ (Mach.disarm_touch ..) rfl rfl
    refine touch_app ?_ (Mach.disarm_touch ..) rfl rfl
    refine touch_app ?_ (Mach.setFld_touch (P := 0x20) _ _ _ _ rfl) rfl rfl
    refine touch_app ?_ (Mach.lockStretch_touch ..) rfl rfl
    exact touch_refl _ _ _
  try clear_value t0
  extract_lets -underBinder -merge -useContext +onlyGivenNames t1
  have ht1 : m0.touch 0x2b108 0x20 t1 := by
    unfold t1
    refine touch_app ?_ (Mach.onTime_touch ..) rfl rfl
    exact ht0
  try clear_value t1
  extract_lets -underBinder -merge -useContext +onlyGivenNames t2
  have ht2 : m0.touch 0x2b108 0x20 t2 := by
    unfold t2
    split
    · refine touch_app ?_ (Mach.arm_touch ..) rfl rfl
      exact ht1
    · refine touch_app ?_ (Mach.arm_touch ..) rfl rfl
      exact ht1
    · exact ht1
  try clear_value t2
  extract_lets -underBinder -merge -useContext +onlyGivenNames t3
  have ht3 : m0.touch 0x2b108 0x20 t3 := by
    unfold t3
    refine touch_ite (fun _ => ?_) (fun _ => ?_)
    · exact ht2
    · refine touch_app ?_ (Mach.ppsLow_touch ..) rfl rfl
      exact ht2
  try clear_value t3
  extract_lets -underBinder -merge -useContext +onlyGivenNames t4
  have ht4 : m0.touch 0x2b108 0x20 t4 := by
    unfold t4
    refine touch_ite (fun _ => ?_) (fun _ => ?_)
    · refine touch_app ?_ (Mach.event_touch (P := 0x20) _ _ _ _ rfl (by decide)) rfl rfl
      exact ht3
    · exact ht3
  try clear_value t4
  refine touch_app ?_ (Mach.sendValue_touch ..) rfl rfl
  exact ht4

theorem Mach.evalTime_touch (m0 : Mach) (a1 : Option ℤ) : m0.touch 0x2b108 0x20 (Mach.evalTime m0 a1) := by
  unfold Mach.evalTime
  extract_lets -underBinder -merge -useContext +onlyGivenNames l0
  try clear_value l0
  split
  · refine touch_ite (fun _ => ?_) (fun _ => ?_)
    · refine touch_app ?_ (Mach.enterTime_touch ..) rfl rfl
      exact touch_refl _ _ _
    · exact touch_refl _ _ _
  · refine touch_ite (fun _ => ?_) (fun _ => ?_)
    · refine touch_app ?_ (Mach.enterTime_touch ..) rfl rfl
      exact touch_refl _ _ _
    · refine touch_ite (fun _ => ?_) (fun _ => ?_)
      · exact touch_refl _ _ _
      · refine touch_app ?_ (Mach.enterTime_touch ..) rfl rfl
        exact touch_refl _ _ _
  · refine touch_ite (fun _ => ?_) (fun _ => ?_)
    · refine touch_app ?_ (Mach.enterTime_touch ..) rfl rfl
      exact touch_refl _ _ _
    · refine touch_ite (fun _ => ?_) (fun _ => ?_)
      · exact touch_refl _ _ _
      · refine touch_app ?_ (Mach.enterTime_touch ..) rfl rfl
        exact touch_refl _ _ _
  · split
    · refine touch_app ?_ (Mach.enterTime_touch ..) rfl rfl
      exact touch_refl _ _ _
    · exact touch_refl _ _ _
  · refine touch_ite (fun _ => ?_) (fun _ => ?_)
    · refine touch_app ?_ (Mach.enterTime_touch ..) rfl rfl
      exact touch_refl _ _ _
    · exact touch_refl _ _ _

theorem Mach.setQualified_touch (m0 : Mach) (a1 : ℕ) (a2 : Bool) : m0.touch 0x2310a 0x60 (Mach.setQualified m0 a1 a2) := by
  unfold Mach.setQualified
  refine touch_ite (fun _ => ?_) (fun _ => ?_)
  · exact touch_refl _ _ _
  · extract_lets -underBinder -merge -useContext +onlyGivenNames t0
    have ht0 : m0.touch 0x2310a 0x60 t0 := by
      unfold t0
      split
      · refine touch_app ?_ (Mach.setFlag_touch (P := 0x60) _ _ _ _ rfl) rfl rfl
        exact touch_refl _ _ _
      · refine touch_app ?_ (Mach.setFlag_touch (P := 0x60) _ _ _ _ (within_nth _ _ rfl)) rfl rfl
        exact touch_refl _ _ _
      · refine touch_app ?_ (Mach.setFlag_touch (P := 0x60) _ _ _ _ rfl) rfl rfl
        exact touch_refl _ _ _
    try clear_value t0
    extract_lets -underBinder -merge -useContext +onlyGivenNames t1
    have ht1 : m0.touch 0x2310a 0x60 t1 := by
      unfold t1
      refine touch_ite (fun _ => ?_) (fun _ => ?_)
      · refine touch_app ?_ (Mach.onTime_touch ..) rfl rfl
        exact ht0
      · exact ht0
    try clear_value t1
    refine touch_app ?_ (Mach.selectSource_touch ..) rfl rfl
    exact ht1

theorem Mach.timeDue_touch (m0 : Mach) : m0.touch 0x2b10a 0x60 (Mach.timeDue m0) := by
  unfold Mach.timeDue
  extract_lets -underBinder -merge -useContext +onlyGivenNames t0
  have ht0 : m0.touch 0x2b10a 0x60 t0 := by
    unfold t0
    refine touch_ite (fun _ => ?_) (fun _ => ?_)
    · refine touch_app ?_ (Mach.setQualified_touch ..) rfl rfl
      exact touch_refl _ _ _
    · exact touch_refl _ _ _
  try clear_value t0
  refine touch_ite (fun _ => ?_) (fun _ => ?_)
  · refine touch_app ?_ (Mach.evalTime_touch ..) rfl rfl
    refine touch_app ?_ (Mach.onTime_touch ..) rfl rfl
    exact ht0
  · exact ht0

theorem Mach.stepEpoch_touch (m0 : Mach) (a1 : ℤ) : m0.touch 0x419a3108 0xc20 (Mach.stepEpoch m0 a1) := by
  unfold Mach.stepEpoch
  extract_lets -underBinder -merge -useContext +onlyGivenNames l0
  try clear_value l0
  extract_lets -underBinder -merge -useContext +onlyGivenNames t0
  have ht0 : m0.touch 0x419a3108 0xc20 t0 := by
    unfold t0
    refine touch_app ?_ (Mach.disarm_touch ..) rfl rfl
    refine touch_app ?_ (Mach.onTime_touch ..) rfl rfl
    exact touch_refl _ _ _
  try clear_value t0
  extract_lets -underBinder -merge -useContext +onlyGivenNames l1
  try clear_value l1
  extract_lets -underBinder -merge -useContext +onlyGivenNames t1
  have ht1 : m0.touch 0x419a3108 0xc20 t1 := by
    unfold t1
    refine touch_app ?_ (Mach.count_touch (P := 0xc20) _ _ _ _ rfl) rfl rfl
    exact ht0
  try clear_value t1
  extract_lets -underBinder -merge -useContext +onlyGivenNames t2
  have ht2 : m0.touch 0x419a3108 0xc20 t2 := by
    unfold t2
    refine touch_app ?_ (Mach.record_touch ..) rfl rfl
    exact ht1
  try clear_value t2
  refine touch_app ?_ (Mach.nrgEpoch_touch ..) rfl rfl
  refine touch_app ?_ (Mach.sviEpoch_touch ..) rfl rfl
  refine touch_app ?_ (Mach.event_touch (P := 0xc20) _ _ _ _ rfl (by decide)) rfl rfl
  exact ht2

theorem Mach.slew_touch (m0 : Mach) (a1 : ℤ) : m0.touch 0x20108 0x20 (Mach.slew m0 a1) := by
  unfold Mach.slew
  extract_lets -underBinder -merge -useContext +onlyGivenNames l0
  try clear_value l0
  extract_lets -underBinder -merge -useContext +onlyGivenNames t0
  have ht0 : m0.touch 0x20108 0x20 t0 := by
    unfold t0
    refine touch_app ?_ (Mach.onTime_touch ..) rfl rfl
    exact touch_refl _ _ _
  try clear_value t0
  refine touch_ite (fun _ => ?_) (fun _ => ?_)
  · refine touch_app ?_ (Mach.showRate_touch ..) rfl rfl
    refine touch_app ?_ (Mach.disarm_touch ..) rfl rfl
    exact ht0
  · refine touch_app ?_ (Mach.showRate_touch ..) rfl rfl
    refine touch_app ?_ (Mach.arm_touch ..) rfl rfl
    exact ht0

theorem Mach.applyOffset_touch (m0 : Mach) (a1 : ℤ) : m0.touch 0x419ab10a 0xc20 (Mach.applyOffset m0 a1) := by
  unfold Mach.applyOffset
  refine touch_ite (fun _ => ?_) (fun _ => ?_)
  · refine touch_app ?_ (Mach.onTime_touch ..) rfl rfl
    exact touch_refl _ _ _
  · split
    rename_i p0_0 p0_1 p0_2 he3
    have hp0_2 : m0.touch 0x419ab10a 0xc20 p0_2 := by
      refine touch_snd he3 ?_
      refine touch_app ?_ (Mach.drawInt_touch ..) rfl rfl
      exact touch_refl _ _ _
    extract_lets -underBinder -merge -useContext +onlyGivenNames l0
    try clear_value l0
    extract_lets -underBinder -merge -useContext +onlyGivenNames t0
    have ht0 : m0.touch 0x419ab10a 0xc20 t0 := by
      unfold t0
      refine touch_ite (fun _ => ?_) (fun _ => ?_)
      · refine touch_app ?_ (Mach.lockStretch_touch ..) rfl rfl
        exact hp0_2
      · exact hp0_2
    try clear_value t0
    extract_lets -underBinder -merge -useContext +onlyGivenNames t1
    have ht1 : m0.touch 0x419ab10a 0xc20 t1 := by
      unfold t1
      refine touch_app ?_ (Mach.onTime_touch ..) rfl rfl
      exact ht0
    try clear_value t1
    extract_lets -underBinder -merge -useContext +onlyGivenNames t2
    have ht2 : m0.touch 0x419ab10a 0xc20 t2 := by
      unfold t2
      refine touch_ite (fun _ => ?_) (fun _ => ?_)
      · refine touch_app ?_ (Mach.showRate_touch ..) rfl rfl
        refine touch_app ?_ (Mach.stepEpoch_touch ..) rfl rfl
        exact ht1
      · refine touch_app ?_ (Mach.slew_touch ..) rfl rfl
        exact ht1
    try clear_value t2
    refine touch_app ?_ (Mach.evalTime_touch ..) rfl rfl
    exact ht2

theorem Mach.measure_touch (m0 : Mach) (a1 : ℕ) (a2 : ℤ) : m0.touch 0x419ab10a 0xc60 (Mach.measure m0 a1 a2) := by
  unfold Mach.measure
  extract_lets -underBinder -merge -useContext +onlyGivenNames l0
  try clear_value l0
  extract_lets -underBinder -merge -useContext +onlyGivenNames t0
  have ht0 : m0.touch 0x419ab10a 0xc60 t0 := by
    unfold t0
    refine touch_app ?_ (Mach.setFld_touch (P := 0xc60) _ _ _ _ rfl) rfl rfl
    exact touch_refl _ _ _
  try clear_value t0
  extract_lets -underBinder -merge -useContext +onlyGivenNames l1
  try clear_value l1
  extract_lets -underBinder -merge -useContext +onlyGivenNames l2
  try clear_value l2
  extract_lets -underBinder -merge -useContext +onlyGivenNames t1
  have ht1 : m0.touch 0x419ab10a 0xc60 t1 := by
    unfold t1
    refine touch_ite (fun _ => ?_) (fun _ => ?_)
    · refine touch_app ?_ (Mach.follow_touch ..) rfl rfl
      exact ht0
    · exact ht0
  try clear_value t1
  refine touch_ite (fun _ => ?_) (fun _ => ?_)
  · refine touch_ite (fun _ => ?_) (fun _ => ?_)
    · refine touch_app ?_ (Mach.applyOffset_touch ..) rfl rfl
      exact ht1
    · exact ht1
  · refine touch_ite (fun _ => ?_) (fun _ => ?_)
    · refine touch_app ?_ (Mach.setFld_touch (P := 0xc60) _ _ _ _ (within_nth _ _ rfl)) rfl rfl
      exact ht1
    · exact ht1

theorem Mach.ppsEdge_touch (m0 : Mach) (a1 : ℕ) : m0.touch 0x23108 0x20 (Mach.ppsEdge m0 a1) := by
  unfold Mach.ppsEdge
  refine touch_ite (fun _ => ?_) (fun _ => ?_)
  · exact touch_refl _ _ _
  · refine touch_ite (fun _ => ?_) (fun _ => ?_)
    · extract_lets -underBinder -merge -useContext +onlyGivenNames l0
      try clear_value l0
      extract_lets -underBinder -merge -useContext +onlyGivenNames t0
      have ht0 : m0.touch 0x23108 0x20 t0 := by
        unfold t0
        refine touch_app ?_ (Mach.arm_touch ..) rfl rfl
        refine touch_app ?_ (Mach.onTime_touch ..) rfl rfl
        exact touch_refl _ _ _
      try clear_value t0
      refine touch_ite (fun _ => ?_) (fun _ => ?_)
      · refine touch_app ?_ (Mach.setFlag_touch (P := 0x20) _ _ _ _ rfl) rfl rfl
        exact ht0
      · exact ht0
    · refine touch_app ?_ (Mach.event_touch (P := 0x20) _ _ _ _ rfl (by decide)) rfl rfl
      refine touch_app ?_ (Mach.count_touch (P := 0x20) _ _ _ _ rfl) rfl rfl
      refine touch_app ?_ (Mach.onTime_touch ..) rfl rfl
      exact touch_refl _ _ _

theorem Mach.ppsLost_touch (m0 : Mach) : m0.touch 0x2310a 0x60 (Mach.ppsLost m0) := by
  unfold Mach.ppsLost
  extract_lets -underBinder -merge -useContext +onlyGivenNames t0
  have ht0 : m0.touch 0x2310a 0x60 t0 := by
    unfold t0
    refine touch_app ?_ (Mach.onTime_touch ..) rfl rfl
    exact touch_refl _ _ _
  try clear_value t0
  refine touch_app ?_ (Mach.setQualified_touch ..) rfl rfl
  refine touch_app ?_ (Mach.setFlag_touch (P := 0x60) _ _ _ _ rfl) rfl rfl
  exact ht0

theorem Mach.irigFrame_touch (m0 : Mach) (a1 : IrigFrame) : m0.touch 0x2310a 0x60 (Mach.irigFrame m0 a1) := by
  unfold Mach.irigFrame
  refine touch_ite (fun _ => ?_) (fun _ => ?_)
  · exact touch_refl _ _ _
  · split
    · extract_lets -underBinder -merge -useContext +onlyGivenNames l0
      try clear_value l0
      extract_lets -underBinder -merge -useContext +onlyGivenNames t0
      have ht0 : m0.touch 0x2310a 0x60 t0 := by
        unfold t0
        refine touch_app ?_ (Mach.onTime_touch ..) rfl rfl
        exact touch_refl _ _ _
      try clear_value t0
      refine touch_ite (fun _ => ?_) (fun _ => ?_)
      · refine touch_app ?_ (Mach.setQualified_touch ..) rfl rfl
        exact ht0
      · exact ht0
    · extract_lets -underBinder -merge -useContext +onlyGivenNames t0
      have ht0 : m0.touch 0x2310a 0x60 t0 := by
        unfold t0
        refine touch_app ?_ (Mach.onTime_touch ..) rfl rfl
        exact touch_refl _ _ _
      try clear_value t0
      extract_lets -underBinder -merge -useContext +onlyGivenNames t1
      have ht1 : m0.touch 0x2310a 0x60 t1 := by
        unfold t1
        refine touch_app ?_ (Mach.event_touch (P := 0x60) _ _ _ _ rfl (by decide)) rfl rfl
        refine touch_app ?_ (Mach.count_touch (P := 0x60) _ _ _ _ rfl) rfl rfl
        exact ht0
      try clear_value t1
      refine touch_ite (fun _ => ?_) (fun _ => ?_)
      · refine touch_app ?_ (Mach.setQualified_touch ..) rfl rfl
        refine touch_app ?_ (Mach.onTime_touch ..) rfl rfl
        exact ht1
      · exact ht1

theorem Mach.lose10m_touch (m0 : Mach) : m0.touch 0x23008 0x20 (Mach.lose10m m0) := by
  unfold Mach.lose10m
  extract_lets -underBinder -merge -useContext +onlyGivenNames t0
  have ht0 : m0.touch 0x23008 0x20 t0 := by
    unfold t0
    refine touch_app ?_ (Mach.onTime_touch ..) rfl rfl
    exact touch_refl _ _ _
  try clear_value t0
  refine touch_ite (fun _ => ?_) (fun _ => ?_)
  · refine touch_app ?_ (Mach.freeRate_touch ..) rfl rfl
    refine touch_app ?_ (Mach.event_touch (P := 0x20) _ _ _ _ rfl (by decide)) rfl rfl
    refine touch_app ?_ (Mach.count_touch (P := 0x20) _ _ _ _ rfl) rfl rfl
    refine touch_app ?_ (Mach.setFlag_touch (P := 0x20) _ _ _ _ rfl) rfl rfl
    exact ht0
  · exact ht0

theorem Mach.gate10m_touch (m0 : Mach) (a1 : ℤ) : m0.touch 0x23008 0x20 (Mach.gate10m m0 a1) := by
  unfold Mach.gate10m
  refine touch_ite (fun _ => ?_) (fun _ => ?_)
  · refine touch_app ?_ (Mach.lose10m_touch ..) rfl rfl
    exact touch_refl _ _ _
  · extract_lets -underBinder -merge -useContext +onlyGivenNames t0
    have ht0 : m0.touch 0x23008 0x20 t0 := by
      unfold t0
      refine touch_app ?_ (Mach.onTime_touch ..) rfl rfl
      exact touch_refl _ _ _
    try clear_value t0
    refine touch_ite (fun _ => ?_) (fun _ => ?_)
    · refine touch_app ?_ (Mach.freeRate_touch ..) rfl rfl
      refine touch_app ?_ (Mach.setFlag_touch (P := 0x20) _ _ _ _ rfl) rfl rfl
      exact ht0
    · exact ht0

theorem Mach.timeApply_touch (m0 : Mach) (a1 : KMap Word) : m0.touch 0x2310a 0x60 (Mach.timeApply m0 a1) := by
  unfold Mach.timeApply
  extract_lets -underBinder -merge -useContext +onlyGivenNames l0
  extract_lets -underBinder -merge -useContext +onlyGivenNames t0
  have ht0 : m0.touch 0x2310a 0x60 t0 := by
    unfold t0
    split
    · refine touch_app ?_ (Mach.arm_touch ..) rfl rfl
      exact touch_refl _ _ _
    · exact touch_refl _ _ _
  try clear_value t0
  extract_lets -underBinder -merge -useContext +onlyGivenNames t1
  have ht1 : m0.touch 0x2310a 0x60 t1 := by
    unfold t1
    split
    · refine touch_app ?_ (Mach.arm_touch ..) rfl rfl
      exact ht0
    · exact ht0
  try clear_value t1
  extract_lets -underBinder -merge -useContext +onlyGivenNames t2
  have ht2 : m0.touch 0x2310a 0x60 t2 := by
    unfold t2
    split
    · refine touch_ite (fun _ => ?_) (fun _ => ?_)
      · exact ht1
      · extract_lets -underBinder -merge -useContext +onlyGivenNames l1
        try clear_value l1
        refine touch_app ?_ (Mach.slew_touch ..) rfl rfl
        exact ht1
    · exact ht1
  try clear_value t2
  extract_lets -underBinder -merge -useContext +onlyGivenNames t3
  have ht3 : m0.touch 0x2310a 0x60 t3 := by
    unfold t3
    refine touch_ite (fun _ => ?_) (fun _ => ?_)
    · exact ht2
    · refine touch_app ?_ (Mach.setQualified_touch ..) rfl rfl
      refine touch_app ?_ (Mach.onTime_touch ..) rfl rfl
      exact ht2
  try clear_value t3
  extract_lets -underBinder -merge -useContext +onlyGivenNames t4
  have ht4 : m0.touch 0x2310a 0x60 t4 := by
    unfold t4
    refine touch_ite (fun _ => ?_) (fun _ => ?_)
    · exact ht3
    · refine touch_app ?_ (Mach.ppsLow_touch ..) rfl rfl
      exact ht3
  try clear_value t4
  refine touch_app ?_ (Mach.freeRate_touch ..) rfl rfl
  refine touch_app ?_ (Mach.selectSource_touch ..) rfl rfl
  exact ht4

end Sys2Proof.Machine
end

