-- ==== Sys2Proof/Laws/Frame/Twin.lean ====
section
/-! SUPPORT. The frame of each operation of Twin.lean: the parts of the module it can change. -/

namespace Sys2Proof.Machine

theorem Mach.sendWitness_touch (m0 : Mach) : m0.touch 0xd04b108 0x2ffff00050000 (Mach.sendWitness m0) := by
  unfold Mach.sendWitness
  split
  · exact touch_refl _ _ _
  · extract_lets -underBinder -merge -useContext +onlyGivenNames l0
    try clear_value l0
    extract_lets -underBinder -merge -useContext +onlyGivenNames l1
    try clear_value l1
    extract_lets -underBinder -merge -useContext +onlyGivenNames l2
    try clear_value l2
    extract_lets -underBinder -merge -useContext +onlyGivenNames l3
    try clear_value l3
    extract_lets -underBinder -merge -useContext +onlyGivenNames l4
    try clear_value l4
    extract_lets -underBinder -merge -useContext +onlyGivenNames l5
    try clear_value l5
    extract_lets -underBinder -merge -useContext +onlyGivenNames l6
    try clear_value l6
    extract_lets -underBinder -merge -useContext +onlyGivenNames l7
    try clear_value l7
    extract_lets -underBinder -merge -useContext +onlyGivenNames l8
    try clear_value l8
    extract_lets -underBinder -merge -useContext +onlyGivenNames l9
    try clear_value l9
    extract_lets -underBinder -merge -useContext +onlyGivenNames l10
    try clear_value l10
    extract_lets -underBinder -merge -useContext +onlyGivenNames t0
    have ht0 : m0.touch 0xd04b108 0x2ffff00050000 t0 := by
      unfold t0
      refine touch_app ?_ (Mach.count_touch (P := 0x2ffff00050000) _ _ _ _ (within_nth _ _ rfl)) rfl rfl
      refine touch_app ?_ (Mach.onTwn_touch ..) rfl rfl
      exact touch_refl _ _ _
    try clear_value t0
    refine touch_each ?_ (fun y x hx => ?_)
    · exact ht0
    · extract_lets -underBinder -merge -useContext +onlyGivenNames l11
      try clear_value l11
      extract_lets -underBinder -merge -useContext +onlyGivenNames l12
      try clear_value l12
      refine touch_ite (fun _ => ?_) (fun _ => ?_)
      · exact hx
      · refine touch_ite (fun _ => ?_) (fun _ => ?_)
        · refine touch_each ?_ (fun y x hx => ?_)
          · exact hx
          · refine touch_app ?_ (Mach.enqueue_touch ..) rfl rfl
            exact hx
        · split
          rename_i p0_0 p0_1 p0_2 he3
          have hp0_2 : m0.touch 0xd04b108 0x2ffff00050000 p0_2 := by
            refine touch_snd he3 ?_
            refine touch_app ?_ (Mach.drawWitSeq_touch ..) rfl rfl
            exact hx
          extract_lets -underBinder -merge -useContext +onlyGivenNames t1
          have ht1 : m0.touch 0xd04b108 0x2ffff00050000 t1 := by
            unfold t1
            refine touch_ite (fun _ => ?_) (fun _ => ?_)
            · refine touch_app ?_ (Mach.openDup_touch ..) rfl rfl
              exact hp0_2
            · exact hp0_2
          try clear_value t1
          refine touch_each ?_ (fun y x hx => ?_)
          · exact ht1
          · extract_lets -underBinder -merge -useContext +onlyGivenNames l13
            try clear_value l13
            refine touch_app ?_ (Mach.enqueue_touch ..) rfl rfl
            exact hx

theorem Mach.startSlots_touch (m0 : Mach) : m0.touch 0x400008 0x200 (Mach.startSlots m0) := by
  unfold Mach.startSlots
  refine touch_each ?_ (fun y x hx => ?_)
  · exact touch_refl _ _ _
  · refine touch_app ?_ (Mach.slotStart_touch ..) rfl rfl
    exact hx

theorem Mach.showStep_touch (m0 : Mach) : m0.touch 0x8 0x2000000000000 (Mach.showStep m0) := by
  unfold Mach.showStep
  refine touch_app ?_ (Mach.setFlag_touch (P := 0x2000000000000) _ _ _ _ rfl) rfl rfl
  exact touch_refl _ _ _

theorem Mach.stateRecord_touch (m0 : Mach) (a1 : ℕ) (a2 : ℕ) : m0.touch 0x3008 0x2000000000000 (Mach.stateRecord m0 a1 a2) := by
  unfold Mach.stateRecord
  extract_lets -underBinder -merge -useContext +onlyGivenNames l0
  try clear_value l0
  refine touch_app ?_ (Mach.record_touch ..) rfl rfl
  refine touch_app ?_ (Mach.event_touch (P := 0x2000000000000) _ _ _ _ rfl (by decide)) rfl rfl
  exact touch_refl _ _ _

theorem Mach.deliverOwn_touch (m0 : Mach) : m0.touch 0x280b908 0x30000000001000 (Mach.deliverOwn m0) := by
  unfold Mach.deliverOwn
  extract_lets -underBinder -merge -useContext +onlyGivenNames l0
  try clear_value l0
  extract_lets -underBinder -merge -useContext +onlyGivenNames t0
  have ht0 : m0.touch 0x280b908 0x30000000001000 t0 := by
    unfold t0
    refine touch_app ?_ (Mach.onPub_touch ..) rfl rfl
    exact touch_refl _ _ _
  try clear_value t0
  extract_lets -underBinder -merge -useContext +onlyGivenNames t1
  have ht1 : m0.touch 0x280b908 0x30000000001000 t1 := by
    unfold t1
    refine touch_each ?_ (fun y x hx => ?_)
    · exact ht0
    · refine touch_app ?_ (Mach.deliverEvent_touch ..) rfl rfl
      exact hx
  try clear_value t1
  refine touch_each ?_ (fun y x hx => ?_)
  · exact ht1
  · refine touch_onPast ?_ rfl (fun x hx => ?_)
    · exact hx
    · refine touch_app ?_ (Mach.subExpire_touch ..) rfl rfl
      exact hx

theorem Mach.enterTwn_touch (m0 : Mach) (a1 : ℕ) : m0.touch 0x1f9cb908 0x32ffff00071800 (Mach.enterTwn m0 a1) := by
  unfold Mach.enterTwn
  extract_lets -underBinder -merge -useContext +onlyGivenNames l0
  try clear_value l0
  refine touch_ite (fun _ => ?_) (fun _ => ?_)
  · exact touch_refl _ _ _
  · extract_lets -underBinder -merge -useContext +onlyGivenNames t0
    have ht0 : m0.touch 0x1f9cb908 0x32ffff00071800 t0 := by
      unfold t0
      refine touch_app ?_ (Mach.stateRecord_touch ..) rfl rfl
      refine touch_app ?_ (Mach.count_touch (P := 0x32ffff00071800) _ _ _ _ rfl) rfl rfl
      refine touch_app ?_ (Mach.setFld_touch (P := 0x32ffff00071800) _ _ _ _ rfl) rfl rfl
      exact touch_refl _ _ _
    try clear_value t0
    extract_lets -underBinder -merge -useContext +onlyGivenNames t1
    have ht1 : m0.touch 0x1f9cb908 0x32ffff00071800 t1 := by
      unfold t1
      refine touch_app ?_ (Mach.show64_touch (P := 0x32ffff00071800) _ _ _ _ rfl rfl) rfl rfl
      exact ht0
    try clear_value t1
    extract_lets -underBinder -merge -useContext +onlyGivenNames t2
    have ht2 : m0.touch 0x1f9cb908 0x32ffff00071800 t2 := by
      unfold t2
      refine touch_app ?_ (Mach.disarm_touch ..) rfl rfl
      refine touch_app ?_ (Mach.disarm_touch ..) rfl rfl
      refine touch_app ?_ (Mach.disarm_touch ..) rfl rfl
      exact ht1
    try clear_value t2
    extract_lets -underBinder -merge -useContext +onlyGivenNames t3
    have ht3 : m0.touch 0x1f9cb908 0x32ffff00071800 t3 := by
      unfold t3
      refine touch_ite (fun _ => ?_) (fun _ => ?_)
      · exact ht2
      · refine touch_app ?_ (Mach.onTwn_touch ..) rfl rfl
        exact ht2
    try clear_value t3
    extract_lets -underBinder -merge -useContext +onlyGivenNames t4
    have ht4 : m0.touch 0x1f9cb908 0x32ffff00071800 t4 := by
      unfold t4
      refine touch_app ?_ (Mach.showStep_touch ..) rfl rfl
      refine touch_app ?_ (Mach.onTwn_touch ..) rfl rfl
      exact ht3
    try clear_value t4
    extract_lets -underBinder -merge -useContext +onlyGivenNames t5
    have ht5 : m0.touch 0x1f9cb908 0x32ffff00071800 t5 := by
      unfold t5
      refine touch_ite (fun _ => ?_) (fun _ => ?_)
      · exact ht4
      · refine touch_app ?_ (Mach.eqFlush_touch ..) rfl rfl
        exact ht4
    try clear_value t5
    extract_lets -underBinder -merge -useContext +onlyGivenNames t6
    have ht6 : m0.touch 0x1f9cb908 0x32ffff00071800 t6 := by
      unfold t6
      refine touch_ite (fun _ => ?_) (fun _ => ?_)
      · refine touch_app ?_ (Mach.advanceNumbers_touch ..) rfl rfl
        exact ht5
      · exact ht5
    try clear_value t6
    extract_lets -underBinder -merge -useContext +onlyGivenNames t7
    have ht7 : m0.touch 0x1f9cb908 0x32ffff00071800 t7 := by
      unfold t7
      refine touch_app ?_ (Mach.setRole_touch ..) rfl rfl
      exact ht6
    try clear_value t7
    extract_lets -underBinder -merge -useContext +onlyGivenNames t8
    have ht8 : m0.touch 0x1f9cb908 0x32ffff00071800 t8 := by
      unfold t8
      refine touch_ite (fun _ => ?_) (fun _ => ?_)
      · refine touch_app ?_ (Mach.deliverOwn_touch ..) rfl rfl
        exact ht7
      · exact ht7
    try clear_value t8
    split
    · refine touch_app ?_ (Mach.arm_touch ..) rfl rfl
      exact ht8
    · refine touch_ite (fun _ => ?_) (fun _ => ?_)
      · refine touch_app ?_ (Mach.event_touch (P := 0x32ffff00071800) _ _ _ _ rfl (by decide)) rfl rfl
        exact ht8
      · exact ht8
    · refine touch_app ?_ (Mach.arm_touch ..) rfl rfl
      refine touch_app ?_ (Mach.event_touch (P := 0x32ffff00071800) _ _ _ _ rfl (by decide)) rfl rfl
      exact ht8
    · extract_lets -underBinder -merge -useContext +onlyGivenNames t9
      have ht9 : m0.touch 0x1f9cb908 0x32ffff00071800 t9 := by
        unfold t9
        refine touch_ite (fun _ => ?_) (fun _ => ?_)
        · exact ht8
        · refine touch_app ?_ (Mach.arm_touch ..) rfl rfl
          exact ht8
      try clear_value t9
      refine touch_app ?_ (Mach.event_touch (P := 0x32ffff00071800) _ _ _ _ rfl (by decide)) rfl rfl
      exact ht9
    · refine touch_app ?_ (Mach.event_touch (P := 0x32ffff00071800) _ _ _ _ rfl (by decide)) rfl rfl
      exact ht8
    · exact ht8

theorem Mach.toLead_touch (m0 : Mach) : m0.touch 0x1fdcb908 0x32ffff00071a00 (Mach.toLead m0) := by
  unfold Mach.toLead
  refine touch_ite (fun _ => ?_) (fun _ => ?_)
  · refine touch_app ?_ (Mach.onTwn_touch ..) rfl rfl
    exact touch_refl _ _ _
  · refine touch_ite (fun _ => ?_) (fun _ => ?_)
    · refine touch_app ?_ (Mach.startSlots_touch ..) rfl rfl
      refine touch_app ?_ (Mach.enterTwn_touch ..) rfl rfl
      exact touch_refl _ _ _
    · refine touch_app ?_ (Mach.enterTwn_touch ..) rfl rfl
      exact touch_refl _ _ _

theorem Mach.partnerThere_touch (m0 : Mach) : m0.touch 0x1000000 0x0 (Mach.partnerThere m0) := by
  unfold Mach.partnerThere
  refine touch_app ?_ (Mach.onTwn_touch ..) rfl rfl
  exact touch_refl _ _ _

theorem Mach.leadLost_touch (m0 : Mach) : m0.touch 0x1fdcb908 0x32ffff00071a00 (Mach.leadLost m0) := by
  unfold Mach.leadLost
  extract_lets -underBinder -merge -useContext +onlyGivenNames t0
  have ht0 : m0.touch 0x1fdcb908 0x32ffff00071a00 t0 := by
    unfold t0
    refine touch_app ?_ (Mach.endCopy_touch ..) rfl rfl
    exact touch_refl _ _ _
  try clear_value t0
  refine touch_ite (fun _ => ?_) (fun _ => ?_)
  · refine touch_app ?_ (Mach.startSlots_touch ..) rfl rfl
    refine touch_app ?_ (Mach.enterTwn_touch ..) rfl rfl
    exact ht0
  · refine touch_app ?_ (Mach.toLead_touch ..) rfl rfl
    exact ht0

theorem Mach.isolate_touch (m0 : Mach) : m0.touch 0x1fdcb908 0x32ffff00071a00 (Mach.isolate m0) := by
  unfold Mach.isolate
  refine touch_ite (fun _ => ?_) (fun _ => ?_)
  · refine touch_app ?_ (Mach.enterTwn_touch ..) rfl rfl
    refine touch_app ?_ (Mach.startSlots_touch ..) rfl rfl
    refine touch_app ?_ (Mach.endCopy_touch ..) rfl rfl
    exact touch_refl _ _ _
  · refine touch_app ?_ (Mach.enterTwn_touch ..) rfl rfl
    exact touch_refl _ _ _

theorem Mach.twinMismatch_touch (m : Mach) (f : Fd) {P : Nat} (h : Fd.within P f = true)
    (hP : P.testBit 0x31 = true) : m.touch 0x3008 P (m.twinMismatch f) := by
  unfold Mach.twinMismatch
  split
  · exact touch_refl _ _ _
  · exact touch_trans (touch_mono (Mach.setFlag_touch _ _ _ _ h) rfl (Nat.and_self P)) (Mach.event_touch _ _ _ _ hP (by decide))

theorem Mach.enterJoining_touch (m0 : Mach) : m0.touch 0x1fdcb908 0x32ffff00071800 (Mach.enterJoining m0) := by
  unfold Mach.enterJoining
  extract_lets -underBinder -merge -useContext +onlyGivenNames t0
  have ht0 : m0.touch 0x1fdcb908 0x32ffff00071800 t0 := by
    unfold t0
    refine touch_app ?_ (Mach.enterTwn_touch ..) rfl rfl
    refine touch_app ?_ (Mach.eqFlush_touch ..) rfl rfl
    exact touch_refl _ _ _
  try clear_value t0
  extract_lets -underBinder -merge -useContext +onlyGivenNames l0
  try clear_value l0
  extract_lets -underBinder -merge -useContext +onlyGivenNames t1
  have ht1 : m0.touch 0x1fdcb908 0x32ffff00071800 t1 := by
    unfold t1
    refine touch_each ?_ (fun y x hx => ?_)
    · exact ht0
    · refine touch_app ?_ (Mach.disarm_touch ..) rfl rfl
      exact hx
  try clear_value t1
  refine touch_app ?_ (Mach.onDsp_touch ..) rfl rfl
  exact ht1

theorem Mach.joinWaiting_touch (m0 : Mach) : m0.touch 0x1fdcb908 0x32ffff00071800 (Mach.joinWaiting m0) := by
  unfold Mach.joinWaiting
  refine touch_app ?_ (Mach.endCopy_touch ..) rfl rfl
  refine touch_app ?_ (Mach.enterJoining_touch ..) rfl rfl
  exact touch_refl _ _ _

theorem Mach.tryJoin_touch (m0 : Mach) (a1 : Bool) : m0.touch 0x1fdcb908 0x32ffff00071800 (Mach.tryJoin m0 a1) := by
  unfold Mach.tryJoin
  split
  · refine touch_ite (fun _ => ?_) (fun _ => ?_)
    · refine touch_app ?_ (Mach.joinWaiting_touch ..) rfl rfl
      exact touch_refl _ _ _
    · exact touch_refl _ _ _
  · refine touch_ite (fun _ => ?_) (fun _ => ?_)
    · refine touch_app ?_ (Mach.enterTwn_touch ..) rfl rfl
      refine touch_app ?_ (Mach.twinMismatch_touch (P := 0x32ffff00071800) _ _ rfl rfl) rfl rfl
      exact touch_refl _ _ _
    · split
      · extract_lets -underBinder -merge -useContext +onlyGivenNames t0
        have ht0 : m0.touch 0x1fdcb908 0x32ffff00071800 t0 := by
          unfold t0
          refine touch_app ?_ (Mach.twinMismatch_touch (P := 0x32ffff00071800) _ _ rfl rfl) rfl rfl
          exact touch_refl _ _ _
        try clear_value t0
        refine touch_ite (fun _ => ?_) (fun _ => ?_)
        · refine touch_app ?_ (Mach.joinWaiting_touch ..) rfl rfl
          exact ht0
        · exact ht0
      · extract_lets -underBinder -merge -useContext +onlyGivenNames t0
        have ht0 : m0.touch 0x1fdcb908 0x32ffff00071800 t0 := by
          unfold t0
          refine touch_app ?_ (Mach.setFlag_touch (P := 0x32ffff00071800) _ _ _ _ rfl) rfl rfl
          refine touch_app ?_ (Mach.setFlag_touch (P := 0x32ffff00071800) _ _ _ _ rfl) rfl rfl
          exact touch_refl _ _ _
        try clear_value t0
        extract_lets -underBinder -merge -useContext +onlyGivenNames t1
        have ht1 : m0.touch 0x1fdcb908 0x32ffff00071800 t1 := by
          unfold t1
          refine touch_app ?_ (Mach.enterJoining_touch ..) rfl rfl
          exact ht0
        try clear_value t1
        extract_lets -underBinder -merge -useContext +onlyGivenNames t2
        have ht2 : m0.touch 0x1fdcb908 0x32ffff00071800 t2 := by
          unfold t2
          refine touch_app ?_ (Mach.show64_touch (P := 0x32ffff00071800) _ _ _ _ rfl rfl) rfl rfl
          exact ht1
        try clear_value t2
        refine touch_app ?_ (Mach.showCopy_touch ..) rfl rfl
        refine touch_app ?_ (Mach.onTwn_touch ..) rfl rfl
        exact ht2

theorem Mach.diverge_touch (m0 : Mach) : m0.touch 0x1fdcb908 0x32ffff00071800 (Mach.diverge m0) := by
  unfold Mach.diverge
  extract_lets -underBinder -merge -useContext +onlyGivenNames t0
  have ht0 : m0.touch 0x1fdcb908 0x32ffff00071800 t0 := by
    unfold t0
    refine touch_app ?_ (Mach.event_touch (P := 0x32ffff00071800) _ _ _ _ rfl (by decide)) rfl rfl
    refine touch_app ?_ (Mach.count_touch (P := 0x32ffff00071800) _ _ _ _ (within_nth _ _ rfl)) rfl rfl
    exact touch_refl _ _ _
  try clear_value t0
  refine touch_app ?_ (Mach.tryJoin_touch ..) rfl rfl
  refine touch_app ?_ (Mach.onTwn_touch ..) rfl rfl
  exact ht0

theorem Mach.twinEval_touch (m0 : Mach) : m0.touch 0x1fdcb908 0x32ffff00071a00 (Mach.twinEval m0) := by
  unfold Mach.twinEval
  extract_lets -underBinder -merge -useContext +onlyGivenNames t0
  have ht0 : m0.touch 0x1fdcb908 0x32ffff00071a00 t0 := by
    unfold t0
    refine touch_ite (fun _ => ?_) (fun _ => ?_)
    · refine touch_app ?_ (Mach.toLead_touch ..) rfl rfl
      exact touch_refl _ _ _
    · exact touch_refl _ _ _
  try clear_value t0
  refine touch_ite (fun _ => ?_) (fun _ => ?_)
  · extract_lets -underBinder -merge -useContext +onlyGivenNames l0
    try clear_value l0
    extract_lets -underBinder -merge -useContext +onlyGivenNames l1
    try clear_value l1
    extract_lets -underBinder -merge -useContext +onlyGivenNames t1
    have ht1 : m0.touch 0x1fdcb908 0x32ffff00071a00 t1 := by
      unfold t1
      refine touch_app ?_ (Mach.onTwn_touch ..) rfl rfl
      exact ht0
    try clear_value t1
    refine touch_ite (fun _ => ?_) (fun _ => ?_)
    · refine touch_app ?_ (Mach.diverge_touch ..) rfl rfl
      exact ht1
    · exact ht1
  · exact ht0

theorem Mach.copyEnergy_touch (m0 : Mach) (a1 : List EnergyLatch) : m0.touch 0x40000000 0x0 (Mach.copyEnergy m0 a1) := by
  unfold Mach.copyEnergy
  refine touch_each ?_ (fun y x hx => ?_)
  · exact touch_refl _ _ _
  · split
    · extract_lets -underBinder -merge -useContext +onlyGivenNames l0
      try clear_value l0
      extract_lets -underBinder -merge -useContext +onlyGivenNames l1
      try clear_value l1
      extract_lets -underBinder -merge -useContext +onlyGivenNames l2
      try clear_value l2
      refine touch_app ?_ (Mach.onPt_touch ..) rfl rfl
      exact hx
    · exact hx

theorem Mach.tryCommit_touch (m0 : Mach) : m0.touch 0x41001100 0x0 (Mach.tryCommit m0) := by
  unfold Mach.tryCommit
  split
  · exact touch_refl _ _ _
  · split
    · exact touch_refl _ _ _
    · extract_lets -underBinder -merge -useContext +onlyGivenNames l0
      try clear_value l0
      refine touch_ite (fun _ => ?_) (fun _ => ?_)
      · extract_lets -underBinder -merge -useContext +onlyGivenNames t0
        have ht0 : m0.touch 0x41001100 0x0 t0 := by
          unfold t0
          refine touch_app ?_ (Mach.copyEnergy_touch ..) rfl rfl
          refine touch_app ?_ (Mach.plaitSend_touch ..) rfl rfl
          exact touch_refl _ _ _
        try clear_value t0
        refine touch_app ?_ (Mach.disarm_touch ..) rfl rfl
        refine touch_app ?_ (Mach.onTwn_touch ..) rfl rfl
        exact ht0
      · exact touch_refl _ _ _

theorem Mach.commitTick_touch (m0 : Mach) : m0.touch 0x1f9cb908 0x32ffff00071800 (Mach.commitTick m0) := by
  unfold Mach.commitTick
  refine touch_ite (fun _ => ?_) (fun _ => ?_)
  · extract_lets -underBinder -merge -useContext +onlyGivenNames t0
    have ht0 : m0.touch 0x1f9cb908 0x32ffff00071800 t0 := by
      unfold t0
      refine touch_app ?_ (Mach.endCopy_touch ..) rfl rfl
      exact touch_refl _ _ _
    try clear_value t0
    refine touch_app ?_ (Mach.event_touch (P := 0x32ffff00071800) _ _ _ _ rfl (by decide)) rfl rfl
    refine touch_app ?_ (Mach.count_touch (P := 0x32ffff00071800) _ _ _ _ (within_nth _ _ rfl)) rfl rfl
    refine touch_app ?_ (Mach.enterTwn_touch ..) rfl rfl
    exact ht0
  · exact touch_refl _ _ _

theorem Mach.installSlot_touch (m0 : Mach) (a1 : CutMsg) : m0.touch 0x2003808 0x10000000000200 (Mach.installSlot m0 a1) := by
  unfold Mach.installSlot
  extract_lets -underBinder -merge -useContext +onlyGivenNames l0
  try clear_value l0
  extract_lets -underBinder -merge -useContext +onlyGivenNames t0
  have ht0 : m0.touch 0x2003808 0x10000000000200 t0 := by
    unfold t0
    refine touch_app ?_ (Mach.partWrite_touch ..) rfl rfl
    exact touch_refl _ _ _
  try clear_value t0
  extract_lets -underBinder -merge -useContext +onlyGivenNames t1
  have ht1 : m0.touch 0x2003808 0x10000000000200 t1 := by
    unfold t1
    refine touch_app ?_ (Mach.setFlag_touch (P := 0x10000000000200) _ _ _ _ rfl) rfl rfl
    refine touch_app ?_ (Mach.setFld_touch (P := 0x10000000000200) _ _ _ _ rfl) rfl rfl
    exact ht0
  try clear_value t1
  refine touch_app ?_ (Mach.setFld_touch (P := 0x10000000000200) _ _ _ _ rfl) rfl rfl
  exact ht1

theorem Mach.cutRx_touch (m0 : Mach) (a1 : CutMsg) : m0.touch 0x3c0b908 0x32000000001200 (Mach.cutRx m0 a1) := by
  unfold Mach.cutRx
  split
  · exact touch_refl _ _ _
  · refine touch_ite (fun _ => ?_) (fun _ => ?_)
    · exact touch_refl _ _ _
    · extract_lets -underBinder -merge -useContext +onlyGivenNames l0
      try clear_value l0
      split
      extract_lets -underBinder -merge -useContext +onlyGivenNames l1
      try clear_value l1
      extract_lets -underBinder -merge -useContext +onlyGivenNames l2
      try clear_value l2
      extract_lets -underBinder -merge -useContext +onlyGivenNames l3
      try clear_value l3
      extract_lets -underBinder -merge -useContext +onlyGivenNames t0
      have ht0 : m0.touch 0x3c0b908 0x32000000001200 t0 := by
        unfold t0
        refine touch_app ?_ (Mach.onTwn_touch ..) rfl rfl
        exact touch_refl _ _ _
      try clear_value t0
      extract_lets -underBinder -merge -useContext +onlyGivenNames t1
      have ht1 : m0.touch 0x3c0b908 0x32000000001200 t1 := by
        unfold t1
        refine touch_app ?_ (Mach.showCopy_touch ..) rfl rfl
        exact ht0
      try clear_value t1
      refine touch_ite (fun _ => ?_) (fun _ => ?_)
      · refine touch_app ?_ (Mach.failCopy_touch ..) rfl rfl
        exact ht1
      · refine touch_each ?_ (fun y x hx => ?_)
        · refine touch_app ?_ (Mach.installSlot_touch ..) rfl rfl
          exact ht1
        · refine touch_app ?_ (Mach.dueSlot_touch ..) rfl rfl
          exact hx

theorem Mach.cendRx_touch (m0 : Mach) (a1 : CendMsg) : m0.touch 0x41003108 0x2000000000000 (Mach.cendRx m0 a1) := by
  unfold Mach.cendRx
  split
  · refine touch_ite (fun _ => ?_) (fun _ => ?_)
    · refine touch_app ?_ (Mach.plaitSend_touch ..) rfl rfl
      exact touch_refl _ _ _
    · exact touch_refl _ _ _
  · refine touch_ite (fun _ => ?_) (fun _ => ?_)
    · exact touch_refl _ _ _
    · refine touch_ite (fun _ => ?_) (fun _ => ?_)
      · refine touch_app ?_ (Mach.failCopy_touch ..) rfl rfl
        exact touch_refl _ _ _
      · extract_lets -underBinder -merge -useContext +onlyGivenNames t0
        have ht0 : m0.touch 0x41003108 0x2000000000000 t0 := by
          unfold t0
          refine touch_app ?_ (Mach.onTwn_touch ..) rfl rfl
          exact touch_refl _ _ _
        try clear_value t0
        extract_lets -underBinder -merge -useContext +onlyGivenNames t1
        have ht1 : m0.touch 0x41003108 0x2000000000000 t1 := by
          unfold t1
          refine touch_app ?_ (Mach.showCopy_touch ..) rfl rfl
          exact ht0
        try clear_value t1
        refine touch_app ?_ (Mach.tryCommit_touch ..) rfl rfl
        refine touch_app ?_ (Mach.arm_touch ..) rfl rfl
        exact ht1

theorem Mach.cackRx_touch (m0 : Mach) (a1 : Bool) : m0.touch 0x1003108 0x2000000000000 (Mach.cackRx m0 a1) := by
  unfold Mach.cackRx
  refine touch_ite (fun _ => ?_) (fun _ => ?_)
  · refine touch_ite (fun _ => ?_) (fun _ => ?_)
    · refine touch_app ?_ (Mach.endCopy_touch ..) rfl rfl
      exact touch_refl _ _ _
    · refine touch_app ?_ (Mach.failCopy_touch ..) rfl rfl
      exact touch_refl _ _ _
  · exact touch_refl _ _ _

theorem Mach.offerCopy_touch (m0 : Mach) : m0.touch 0x1001108 0x2000000000000 (Mach.offerCopy m0) := by
  unfold Mach.offerCopy
  refine touch_ite (fun _ => ?_) (fun _ => ?_)
  · refine touch_app ?_ (Mach.startCopy_touch ..) rfl rfl
    exact touch_refl _ _ _
  · exact touch_refl _ _ _

theorem Mach.checkUnit_touch (m0 : Mach) (a1 : Bool) : m0.touch 0x3008 0x2000000000000 (Mach.checkUnit m0 a1) := by
  unfold Mach.checkUnit
  refine touch_ite (fun _ => ?_) (fun _ => ?_)
  · refine touch_app ?_ (Mach.twinMismatch_touch (P := 0x2000000000000) _ _ rfl rfl) rfl rfl
    exact touch_refl _ _ _
  · refine touch_app ?_ (Mach.setFlag_touch (P := 0x2000000000000) _ _ _ _ rfl) rfl rfl
    exact touch_refl _ _ _

theorem Mach.showPartner_touch (m0 : Mach) (a1 : ℕ) : m0.touch 0x983108 0x2000000000800 (Mach.showPartner m0 a1) := by
  unfold Mach.showPartner
  extract_lets -underBinder -merge -useContext +onlyGivenNames l0
  try clear_value l0
  extract_lets -underBinder -merge -useContext +onlyGivenNames t0
  have ht0 : m0.touch 0x983108 0x2000000000800 t0 := by
    unfold t0
    refine touch_app ?_ (Mach.showStep_touch ..) rfl rfl
    refine touch_app ?_ (Mach.setFld_touch (P := 0x2000000000800) _ _ _ _ rfl) rfl rfl
    exact touch_refl _ _ _
  try clear_value t0
  extract_lets -underBinder -merge -useContext +onlyGivenNames t1
  have ht1 : m0.touch 0x983108 0x2000000000800 t1 := by
    unfold t1
    refine touch_ite (fun _ => ?_) (fun _ => ?_)
    · exact ht0
    · refine touch_app ?_ (Mach.eqFlush_touch ..) rfl rfl
      exact ht0
  try clear_value t1
  refine touch_ite (fun _ => ?_) (fun _ => ?_)
  · refine touch_ite (fun _ => ?_) (fun _ => ?_)
    · refine touch_app ?_ (Mach.arm_touch ..) rfl rfl
      exact ht1
    · exact ht1
  · refine touch_app ?_ (Mach.disarm_touch ..) rfl rfl
    exact ht1

theorem Mach.dualLead_touch (m0 : Mach) (a1 : ℕ) : m0.touch 0x1fdcb908 0x32ffff00071800 (Mach.dualLead m0 a1) := by
  unfold Mach.dualLead
  extract_lets -underBinder -merge -useContext +onlyGivenNames l0
  try clear_value l0
  extract_lets -underBinder -merge -useContext +onlyGivenNames t0
  have ht0 : m0.touch 0x1fdcb908 0x32ffff00071800 t0 := by
    unfold t0
    refine touch_app ?_ (Mach.event_touch (P := 0x32ffff00071800) _ _ _ _ rfl (by decide)) rfl rfl
    exact touch_refl _ _ _
  try clear_value t0
  refine touch_ite (fun _ => ?_) (fun _ => ?_)
  · refine touch_ite (fun _ => ?_) (fun _ => ?_)
    · refine touch_app ?_ (Mach.tryJoin_touch ..) rfl rfl
      exact ht0
    · refine touch_app ?_ (Mach.enterTwn_touch ..) rfl rfl
      exact ht0
  · exact ht0

theorem Mach.helloRx_touch (m0 : Mach) (a1 : HelloMsg) : m0.touch 0x1fdcb908 0x32ffff00071a00 (Mach.helloRx m0 a1) := by
  unfold Mach.helloRx
  extract_lets -underBinder -merge -useContext +onlyGivenNames t0
  have ht0 : m0.touch 0x1fdcb908 0x32ffff00071a00 t0 := by
    unfold t0
    refine touch_app ?_ (Mach.checkUnit_touch ..) rfl rfl
    refine touch_app ?_ (Mach.onTwn_touch ..) rfl rfl
    exact touch_refl _ _ _
  try clear_value t0
  extract_lets -underBinder -merge -useContext +onlyGivenNames t1
  have ht1 : m0.touch 0x1fdcb908 0x32ffff00071a00 t1 := by
    unfold t1
    refine touch_app ?_ (Mach.showPartner_touch ..) rfl rfl
    exact ht0
  try clear_value t1
  split
  · extract_lets -underBinder -merge -useContext +onlyGivenNames t2
    have ht2 : m0.touch 0x1fdcb908 0x32ffff00071a00 t2 := by
      unfold t2
      refine touch_app ?_ (Mach.arm_touch ..) rfl rfl
      refine touch_app ?_ (Mach.partnerThere_touch ..) rfl rfl
      exact ht1
    try clear_value t2
    refine touch_ite (fun _ => ?_) (fun _ => ?_)
    · refine touch_app ?_ (Mach.tryJoin_touch ..) rfl rfl
      exact ht2
    · refine touch_ite (fun _ => ?_) (fun _ => ?_)
      · refine touch_ite (fun _ => ?_) (fun _ => ?_)
        · refine touch_app ?_ (Mach.toLead_touch ..) rfl rfl
          exact ht2
        · refine touch_app ?_ (Mach.tryJoin_touch ..) rfl rfl
          exact ht2
      · exact ht2
  · refine touch_ite (fun _ => ?_) (fun _ => ?_)
    · refine touch_app ?_ (Mach.dualLead_touch ..) rfl rfl
      exact ht1
    · refine touch_app ?_ (Mach.offerCopy_touch ..) rfl rfl
      exact ht1
  · extract_lets -underBinder -merge -useContext +onlyGivenNames t2
    have ht2 : m0.touch 0x1fdcb908 0x32ffff00071a00 t2 := by
      unfold t2
      refine touch_app ?_ (Mach.disarm_touch ..) rfl rfl
      refine touch_app ?_ (Mach.partnerThere_touch ..) rfl rfl
      exact ht1
    try clear_value t2
    refine touch_ite (fun _ => ?_) (fun _ => ?_)
    · refine touch_app ?_ (Mach.tryJoin_touch ..) rfl rfl
      exact ht2
    · exact ht2
  · refine touch_app ?_ (Mach.tryJoin_touch ..) rfl rfl
    refine touch_app ?_ (Mach.partnerThere_touch ..) rfl rfl
    exact ht1
  · refine touch_ite (fun _ => ?_) (fun _ => ?_)
    · refine touch_app ?_ (Mach.tryJoin_touch ..) rfl rfl
      exact ht1
    · exact ht1
  · exact ht1

theorem Mach.witnessAct_touch (m0 : Mach) (a1 : WitnessPdu) : m0.touch 0x1fdcb908 0x32ffff00071a00 (Mach.witnessAct m0 a1) := by
  unfold Mach.witnessAct
  extract_lets -underBinder -merge -useContext +onlyGivenNames l0
  try clear_value l0
  extract_lets -underBinder -merge -useContext +onlyGivenNames l1
  try clear_value l1
  split
  · extract_lets -underBinder -merge -useContext +onlyGivenNames t0
    have ht0 : m0.touch 0x1fdcb908 0x32ffff00071a00 t0 := by
      unfold t0
      refine touch_app ?_ (Mach.arm_touch ..) rfl rfl
      refine touch_app ?_ (Mach.partnerThere_touch ..) rfl rfl
      exact touch_refl _ _ _
    try clear_value t0
    refine touch_ite (fun _ => ?_) (fun _ => ?_)
    · refine touch_app ?_ (Mach.enterTwn_touch ..) rfl rfl
      exact ht0
    · exact ht0
  · refine touch_ite (fun _ => ?_) (fun _ => ?_)
    · refine touch_app ?_ (Mach.dualLead_touch ..) rfl rfl
      exact touch_refl _ _ _
    · exact touch_refl _ _ _
  · refine touch_ite (fun _ => ?_) (fun _ => ?_)
    · exact touch_refl _ _ _
    · refine touch_ite (fun _ => ?_) (fun _ => ?_)
      · refine touch_app ?_ (Mach.isolate_touch ..) rfl rfl
        exact touch_refl _ _ _
      · refine touch_ite (fun _ => ?_) (fun _ => ?_)
        · exact touch_refl _ _ _
        · refine touch_app ?_ (Mach.leadLost_touch ..) rfl rfl
          exact touch_refl _ _ _
  · refine touch_ite (fun _ => ?_) (fun _ => ?_)
    · refine touch_app ?_ (Mach.enterTwn_touch ..) rfl rfl
      exact touch_refl _ _ _
    · refine touch_ite (fun _ => ?_) (fun _ => ?_)
      · exact touch_refl _ _ _
      · refine touch_app ?_ (Mach.toLead_touch ..) rfl rfl
        exact touch_refl _ _ _
  · refine touch_ite (fun _ => ?_) (fun _ => ?_)
    · refine touch_app ?_ (Mach.partnerThere_touch ..) rfl rfl
      exact touch_refl _ _ _
    · refine touch_app ?_ (Mach.toLead_touch ..) rfl rfl
      exact touch_refl _ _ _
  · exact touch_refl _ _ _

theorem Mach.witnessRx_touch (m0 : Mach) (a1 : Frame) : m0.touch 0x1fdcb908 0x32ffff00071a00 (Mach.witnessRx m0 a1) := by
  unfold Mach.witnessRx
  extract_lets -underBinder -merge -useContext +onlyGivenNames l0
  split
  · extract_lets -underBinder -merge -useContext +onlyGivenNames l1
    try clear_value l1
    extract_lets -underBinder -merge -useContext +onlyGivenNames l2
    try clear_value l2
    refine touch_ite (fun _ => ?_) (fun _ => ?_)
    · unfold l0
      refine touch_app ?_ (Mach.count_touch (P := 0x32ffff00071a00) _ _ _ _ (within_nth _ _ rfl)) rfl rfl
      exact touch_refl _ _ _
    · refine touch_ite (fun _ => ?_) (fun _ => ?_)
      · unfold l0
        refine touch_app ?_ (Mach.count_touch (P := 0x32ffff00071a00) _ _ _ _ (within_nth _ _ rfl)) rfl rfl
        refine touch_app ?_ (Mach.checkUnit_touch ..) rfl rfl
        exact touch_refl _ _ _
      · refine touch_ite (fun _ => ?_) (fun _ => ?_)
        · unfold l0
          refine touch_app ?_ (Mach.count_touch (P := 0x32ffff00071a00) _ _ _ _ (within_nth _ _ rfl)) rfl rfl
          exact touch_refl _ _ _
        · extract_lets -underBinder -merge -useContext +onlyGivenNames t0
          have ht0 : m0.touch 0x1fdcb908 0x32ffff00071a00 t0 := by
            unfold t0
            refine touch_app ?_ (Mach.count_touch (P := 0x32ffff00071a00) _ _ _ _ (within_nth _ _ rfl)) rfl rfl
            refine touch_app ?_ (Mach.onTwn_touch ..) rfl rfl
            exact touch_refl _ _ _
          try clear_value t0
          extract_lets -underBinder -merge -useContext +onlyGivenNames t1
          have ht1 : m0.touch 0x1fdcb908 0x32ffff00071a00 t1 := by
            unfold t1
            refine touch_app ?_ (Mach.setFlag_touch (P := 0x32ffff00071a00) _ _ _ _ rfl) rfl rfl
            refine touch_app ?_ (Mach.checkUnit_touch ..) rfl rfl
            exact ht0
          try clear_value t1
          extract_lets -underBinder -merge -useContext +onlyGivenNames t2
          have ht2 : m0.touch 0x1fdcb908 0x32ffff00071a00 t2 := by
            unfold t2
            refine touch_app ?_ (Mach.arm_touch ..) rfl rfl
            exact ht1
          try clear_value t2
          refine touch_app ?_ (Mach.twinEval_touch ..) rfl rfl
          refine touch_app ?_ (Mach.witnessAct_touch ..) rfl rfl
          refine touch_app ?_ (Mach.showPartner_touch ..) rfl rfl
          exact ht2
  · unfold l0
    refine touch_app ?_ (Mach.count_touch (P := 0x32ffff00071a00) _ _ _ _ (within_nth _ _ rfl)) rfl rfl
    exact touch_refl _ _ _

theorem Mach.plaitGone_touch (m0 : Mach) : m0.touch 0x1fdcb908 0x33ffff00071a00 (Mach.plaitGone m0) := by
  unfold Mach.plaitGone
  extract_lets -underBinder -merge -useContext +onlyGivenNames t0
  have ht0 : m0.touch 0x1fdcb908 0x33ffff00071a00 t0 := by
    unfold t0
    refine touch_app ?_ (Mach.showStep_touch ..) rfl rfl
    refine touch_app ?_ (Mach.onTwn_touch ..) rfl rfl
    refine touch_app ?_ (Mach.plaitLost_touch ..) rfl rfl
    exact touch_refl _ _ _
  try clear_value t0
  extract_lets -underBinder -merge -useContext +onlyGivenNames t1
  have ht1 : m0.touch 0x1fdcb908 0x33ffff00071a00 t1 := by
    unfold t1
    refine touch_ite (fun _ => ?_) (fun _ => ?_)
    · refine touch_app ?_ (Mach.endCopy_touch ..) rfl rfl
      exact ht0
    · exact ht0
  try clear_value t1
  extract_lets -underBinder -merge -useContext +onlyGivenNames t2
  have ht2 : m0.touch 0x1fdcb908 0x33ffff00071a00 t2 := by
    unfold t2
    refine touch_ite (fun _ => ?_) (fun _ => ?_)
    · exact ht1
    · refine touch_app ?_ (Mach.eqFlush_touch ..) rfl rfl
      exact ht1
  try clear_value t2
  extract_lets -underBinder -merge -useContext +onlyGivenNames t3
  have ht3 : m0.touch 0x1fdcb908 0x33ffff00071a00 t3 := by
    unfold t3
    refine touch_ite (fun _ => ?_) (fun _ => ?_)
    · refine touch_app ?_ (Mach.sendWitness_touch ..) rfl rfl
      exact ht2
    · exact ht2
  try clear_value t3
  split
  · refine touch_app ?_ (Mach.setRole_touch ..) rfl rfl
    exact ht3
  · refine touch_ite (fun _ => ?_) (fun _ => ?_)
    · refine touch_app ?_ (Mach.isolate_touch ..) rfl rfl
      exact ht3
    · refine touch_app ?_ (Mach.arm_touch ..) rfl rfl
      exact ht3
  · extract_lets -underBinder -merge -useContext +onlyGivenNames t4
    have ht4 : m0.touch 0x1fdcb908 0x33ffff00071a00 t4 := by
      unfold t4
      refine touch_app ?_ (Mach.enterTwn_touch ..) rfl rfl
      exact ht3
    try clear_value t4
    refine touch_ite (fun _ => ?_) (fun _ => ?_)
    · refine touch_app ?_ (Mach.enterTwn_touch ..) rfl rfl
      exact ht4
    · exact ht4
  · exact ht3

theorem Mach.descRx_touch (m0 : Mach) (a1 : DescMsg) : m0.touch 0x1fdcb908 0x32ffff00071c00 (Mach.descRx m0 a1) := by
  unfold Mach.descRx
  extract_lets -underBinder -merge -useContext +onlyGivenNames l0
  try clear_value l0
  extract_lets -underBinder -merge -useContext +onlyGivenNames l1
  try clear_value l1
  extract_lets -underBinder -merge -useContext +onlyGivenNames t0
  have ht0 : m0.touch 0x1fdcb908 0x32ffff00071c00 t0 := by
    unfold t0
    refine touch_app ?_ (Mach.onSvi_touch ..) rfl rfl
    exact touch_refl _ _ _
  try clear_value t0
  refine touch_ite (fun _ => ?_) (fun _ => ?_)
  · extract_lets -underBinder -merge -useContext +onlyGivenNames t1
    have ht1 : m0.touch 0x1fdcb908 0x32ffff00071c00 t1 := by
      unfold t1
      refine touch_app ?_ (Mach.eqTimers_touch ..) rfl rfl
      exact ht0
    try clear_value t1
    extract_lets -underBinder -merge -useContext +onlyGivenNames l2
    try clear_value l2
    refine touch_ite (fun _ => ?_) (fun _ => ?_)
    · refine touch_app ?_ (Mach.diverge_touch ..) rfl rfl
      exact ht1
    · exact ht1
  · refine touch_ite (fun _ => ?_) (fun _ => ?_)
    · refine touch_ite (fun _ => ?_) (fun _ => ?_)
      · extract_lets -underBinder -merge -useContext +onlyGivenNames t1
        have ht1 : m0.touch 0x1fdcb908 0x32ffff00071c00 t1 := by
          unfold t1
          refine touch_app ?_ (Mach.onSvi_touch ..) rfl rfl
          exact ht0
        try clear_value t1
        refine touch_app ?_ (Mach.eqTimers_touch ..) rfl rfl
        refine touch_app ?_ (Mach.combDue_touch ..) rfl rfl
        exact ht1
      · refine touch_ite (fun _ => ?_) (fun _ => ?_)
        · refine touch_app ?_ (Mach.onSvi_touch ..) rfl rfl
          exact ht0
        · exact ht0
    · exact ht0

theorem Mach.combRx_touch (m0 : Mach) (a1 : CombMsg) : m0.touch 0x398b908 0x30000000001c00 (Mach.combRx m0 a1) := by
  unfold Mach.combRx
  extract_lets -underBinder -merge -useContext +onlyGivenNames l0
  try clear_value l0
  extract_lets -underBinder -merge -useContext +onlyGivenNames l1
  try clear_value l1
  refine touch_ite (fun _ => ?_) (fun _ => ?_)
  · exact touch_refl _ _ _
  · extract_lets -underBinder -merge -useContext +onlyGivenNames l2
    try clear_value l2
    extract_lets -underBinder -merge -useContext +onlyGivenNames t0
    have ht0 : m0.touch 0x398b908 0x30000000001c00 t0 := by
      unfold t0
      refine touch_ite (fun _ => ?_) (fun _ => ?_)
      · refine touch_app ?_ (Mach.closeDue_touch ..) rfl rfl
        exact touch_refl _ _ _
      · exact touch_refl _ _ _
    try clear_value t0
    split
    · extract_lets -underBinder -merge -useContext +onlyGivenNames t1
      have ht1 : m0.touch 0x398b908 0x30000000001c00 t1 := by
        unfold t1
        refine touch_app ?_ (Mach.onSvi_touch ..) rfl rfl
        exact ht0
      try clear_value t1
      refine touch_app ?_ (Mach.eqTimers_touch ..) rfl rfl
      refine touch_app ?_ (Mach.eqAdvance_touch ..) rfl rfl
      refine touch_app ?_ (Mach.sendSamples_touch ..) rfl rfl
      exact ht1
    · refine touch_each ?_ (fun y x hx => ?_)
      · exact ht0
      · refine touch_app ?_ (Mach.mergedEvent_touch ..) rfl rfl
        exact hx

theorem Mach.sampRx_touch (m0 : Mach) (a1 : ℕ) (a2 : ℕ) (a3 : StreamSample) : m0.touch 0x183108 0xc00 (Mach.sampRx m0 a1 a2 a3) := by
  unfold Mach.sampRx
  extract_lets -underBinder -merge -useContext +onlyGivenNames t0
  have ht0 : m0.touch 0x183108 0xc00 t0 := by
    unfold t0
    refine touch_app ?_ (Mach.onSvi_touch ..) rfl rfl
    exact touch_refl _ _ _
  try clear_value t0
  refine touch_app ?_ (Mach.eqAdvance_touch ..) rfl rfl
  exact ht0

theorem Mach.swapRx_touch (m0 : Mach) (a1 : ℕ) : m0.touch 0x1000000 0x0 (Mach.swapRx m0 a1) := by
  unfold Mach.swapRx
  refine touch_ite (fun _ => ?_) (fun _ => ?_)
  · refine touch_app ?_ (Mach.onTwn_touch ..) rfl rfl
    exact touch_refl _ _ _
  · exact touch_refl _ _ _

theorem Mach.plaitMsg_touch (m0 : Mach) (a1 : PlaitMsg) : m0.touch 0x5fdcb908 0x32ffff00071e00 (Mach.plaitMsg m0 a1) := by
  unfold Mach.plaitMsg
  split
  · refine touch_app ?_ (Mach.helloRx_touch ..) rfl rfl
    exact touch_refl _ _ _
  · exact touch_refl _ _ _
  · refine touch_app ?_ (Mach.descRx_touch ..) rfl rfl
    exact touch_refl _ _ _
  · refine touch_app ?_ (Mach.combRx_touch ..) rfl rfl
    exact touch_refl _ _ _
  · refine touch_app ?_ (Mach.sampRx_touch ..) rfl rfl
    exact touch_refl _ _ _
  · refine touch_ite (fun _ => ?_) (fun _ => ?_)
    · refine touch_app ?_ (Mach.tryCommit_touch ..) rfl rfl
      refine touch_app ?_ (Mach.theirTick_touch ..) rfl rfl
      exact touch_refl _ _ _
    · exact touch_refl _ _ _
  · refine touch_ite (fun _ => ?_) (fun _ => ?_)
    · refine touch_app ?_ (Mach.theirResult_touch ..) rfl rfl
      exact touch_refl _ _ _
    · exact touch_refl _ _ _
  · refine touch_ite (fun _ => ?_) (fun _ => ?_)
    · refine touch_app ?_ (Mach.digestCame_touch ..) rfl rfl
      exact touch_refl _ _ _
    · exact touch_refl _ _ _
  · refine touch_app ?_ (Mach.swapRx_touch ..) rfl rfl
    exact touch_refl _ _ _
  · refine touch_ite (fun _ => ?_) (fun _ => ?_)
    · refine touch_app ?_ (Mach.applyFrec_touch ..) rfl rfl
      exact touch_refl _ _ _
    · exact touch_refl _ _ _
  · refine touch_app ?_ (Mach.cutRx_touch ..) rfl rfl
    exact touch_refl _ _ _
  · refine touch_app ?_ (Mach.cendRx_touch ..) rfl rfl
    exact touch_refl _ _ _
  · refine touch_app ?_ (Mach.cackRx_touch ..) rfl rfl
    exact touch_refl _ _ _

theorem Mach.helloUp_touch (m0 : Mach) (a1 : ℕ) (a2 : ℕ) : m0.touch 0x1001100 0x0 (Mach.helloUp m0 a1 a2) := by
  unfold Mach.helloUp
  refine touch_ite (fun _ => ?_) (fun _ => ?_)
  · refine touch_app ?_ (Mach.plaitSendLane_touch ..) rfl rfl
    exact touch_refl _ _ _
  · exact touch_refl _ _ _

theorem Mach.plaitFrame_touch (m0 : Mach) (a1 : PlaitHdr) (a2 : PlaitMsg) : m0.touch 0x5fdcb908 0xb3ffff00071e00 (Mach.plaitFrame m0 a1 a2) := by
  unfold Mach.plaitFrame
  extract_lets -underBinder -merge -useContext +onlyGivenNames l0
  try clear_value l0
  extract_lets -underBinder -merge -useContext +onlyGivenNames l1
  try clear_value l1
  extract_lets -underBinder -merge -useContext +onlyGivenNames l2
  try clear_value l2
  split
  rename_i p0_0 p0_1 p0_2 he3
  have hp0_1 : m0.touch 0x5fdcb908 0xb3ffff00071e00 p0_1 := by
    refine touch_fst he3 ?_
    refine touch_app ?_ (Mach.plaitRx_touch ..) rfl rfl
    exact touch_refl _ _ _
  refine touch_ite (fun _ => ?_) (fun _ => ?_)
  · exact hp0_1
  · extract_lets -underBinder -merge -useContext +onlyGivenNames t0
    have ht0 : m0.touch 0x5fdcb908 0xb3ffff00071e00 t0 := by
      unfold t0
      refine touch_app ?_ (Mach.onTwn_touch ..) rfl rfl
      exact hp0_1
    try clear_value t0
    extract_lets -underBinder -merge -useContext +onlyGivenNames t1
    have ht1 : m0.touch 0x5fdcb908 0xb3ffff00071e00 t1 := by
      unfold t1
      refine touch_ite (fun _ => ?_) (fun _ => ?_)
      · refine touch_app ?_ (Mach.showStep_touch ..) rfl rfl
        refine touch_app ?_ (Mach.setRole_touch ..) rfl rfl
        exact ht0
      · exact ht0
    try clear_value t1
    extract_lets -underBinder -merge -useContext +onlyGivenNames t2
    have ht2 : m0.touch 0x5fdcb908 0xb3ffff00071e00 t2 := by
      unfold t2
      refine touch_app ?_ (Mach.helloUp_touch ..) rfl rfl
      exact ht1
    try clear_value t2
    extract_lets -underBinder -merge -useContext +onlyGivenNames t3
    have ht3 : m0.touch 0x5fdcb908 0xb3ffff00071e00 t3 := by
      unfold t3
      refine touch_each ?_ (fun y x hx => ?_)
      · exact ht2
      · refine touch_app ?_ (Mach.plaitMsg_touch ..) rfl rfl
        exact hx
    try clear_value t3
    extract_lets -underBinder -merge -useContext +onlyGivenNames t4
    have ht4 : m0.touch 0x5fdcb908 0xb3ffff00071e00 t4 := by
      unfold t4
      refine touch_each ?_ (fun y x hx => ?_)
      · exact ht3
      · refine touch_app ?_ (Mach.eqAdvance_touch ..) rfl rfl
        exact hx
    try clear_value t4
    refine touch_app ?_ (Mach.twinEval_touch ..) rfl rfl
    exact ht4

theorem Mach.startSwap_touch (m0 : Mach) : m0.touch 0x1001100 0x0 (Mach.startSwap m0) := by
  unfold Mach.startSwap
  refine touch_ite (fun _ => ?_) (fun _ => ?_)
  · extract_lets -underBinder -merge -useContext +onlyGivenNames l0
    try clear_value l0
    extract_lets -underBinder -merge -useContext +onlyGivenNames l1
    try clear_value l1
    refine touch_app ?_ (Mach.plaitSend_touch ..) rfl rfl
    refine touch_app ?_ (Mach.onTwn_touch ..) rfl rfl
    exact touch_refl _ _ _
  · exact touch_refl _ _ _

theorem Mach.swapNow_touch (m0 : Mach) : m0.touch 0x1fdcb908 0x32ffff00071a00 (Mach.swapNow m0) := by
  unfold Mach.swapNow
  split
  · refine touch_ite (fun _ => ?_) (fun _ => ?_)
    · exact touch_refl _ _ _
    · refine touch_ite (fun _ => ?_) (fun _ => ?_)
      · extract_lets -underBinder -merge -useContext +onlyGivenNames t0
        have ht0 : m0.touch 0x1fdcb908 0x32ffff00071a00 t0 := by
          unfold t0
          refine touch_app ?_ (Mach.onTwn_touch ..) rfl rfl
          exact touch_refl _ _ _
        try clear_value t0
        refine touch_ite (fun _ => ?_) (fun _ => ?_)
        · refine touch_app ?_ (Mach.enterTwn_touch ..) rfl rfl
          refine touch_app ?_ (Mach.setFld_touch (P := 0x32ffff00071a00) _ _ _ _ rfl) rfl rfl
          exact ht0
        · refine touch_ite (fun _ => ?_) (fun _ => ?_)
          · refine touch_app ?_ (Mach.toLead_touch ..) rfl rfl
            refine touch_app ?_ (Mach.setFld_touch (P := 0x32ffff00071a00) _ _ _ _ rfl) rfl rfl
            exact ht0
          · exact ht0
      · exact touch_refl _ _ _
  · exact touch_refl _ _ _

theorem Mach.twnApply_touch (m0 : Mach) : m0.touch 0x1f9cb908 0x33ffff00071800 (Mach.twnApply m0) := by
  unfold Mach.twnApply
  split
  · extract_lets -underBinder -merge -useContext +onlyGivenNames t0
    have ht0 : m0.touch 0x1f9cb908 0x33ffff00071800 t0 := by
      unfold t0
      refine touch_app ?_ (Mach.enterTwn_touch ..) rfl rfl
      exact touch_refl _ _ _
    try clear_value t0
    refine touch_app ?_ (Mach.arm_touch ..) rfl rfl
    refine touch_app ?_ (Mach.arm_touch ..) rfl rfl
    exact ht0
  · exact touch_refl _ _ _
  · extract_lets -underBinder -merge -useContext +onlyGivenNames t0
    have ht0 : m0.touch 0x1f9cb908 0x33ffff00071800 t0 := by
      unfold t0
      refine touch_app ?_ (Mach.onTwn_touch ..) rfl rfl
      refine touch_app ?_ (Mach.setPlaitUp_touch ..) rfl rfl
      refine touch_app ?_ (Mach.endCopy_touch ..) rfl rfl
      exact touch_refl _ _ _
    try clear_value t0
    extract_lets -underBinder -merge -useContext +onlyGivenNames t1
    have ht1 : m0.touch 0x1f9cb908 0x33ffff00071800 t1 := by
      unfold t1
      refine touch_app ?_ (Mach.enterTwn_touch ..) rfl rfl
      refine touch_app ?_ (Mach.disarm_touch ..) rfl rfl
      refine touch_app ?_ (Mach.disarm_touch ..) rfl rfl
      refine touch_app ?_ (Mach.disarm_touch ..) rfl rfl
      refine touch_app ?_ (Mach.disarm_touch ..) rfl rfl
      exact ht0
    try clear_value t1
    refine touch_app ?_ (Mach.setFlag_touch (P := 0x33ffff00071800) _ _ _ _ rfl) rfl rfl
    refine touch_app ?_ (Mach.setFld_touch (P := 0x33ffff00071800) _ _ _ _ rfl) rfl rfl
    exact ht1
  · exact touch_refl _ _ _

theorem Mach.pltApply_touch (m0 : Mach) : m0.touch 0x1001108 0x1000000000000 (Mach.pltApply m0) := by
  unfold Mach.pltApply
  refine touch_each ?_ (fun y x hx => ?_)
  · exact touch_refl _ _ _
  · refine touch_ite (fun _ => ?_) (fun _ => ?_)
    · refine touch_ite (fun _ => ?_) (fun _ => ?_)
      · refine touch_app ?_ (Mach.arm_touch ..) rfl rfl
        refine touch_app ?_ (Mach.setLane_touch ..) rfl rfl
        exact hx
      · exact hx
    · refine touch_ite (fun _ => ?_) (fun _ => ?_)
      · exact hx
      · refine touch_app ?_ (Mach.disarm_touch ..) rfl rfl
        refine touch_app ?_ (Mach.dropLane_touch ..) rfl rfl
        exact hx

theorem Mach.twnWitness_touch (m0 : Mach) : m0.touch 0x1f9cb908 0x32ffff00071800 (Mach.twnWitness m0) := by
  unfold Mach.twnWitness
  refine touch_ite (fun _ => ?_) (fun _ => ?_)
  · exact touch_refl _ _ _
  · refine touch_app ?_ (Mach.enterTwn_touch ..) rfl rfl
    refine touch_app ?_ (Mach.onTwn_touch ..) rfl rfl
    refine touch_app ?_ (Mach.endCopy_touch ..) rfl rfl
    exact touch_refl _ _ _

theorem Mach.twnCommand_touch (m0 : Mach) (a1 : ℕ) : m0.touch 0x1fdcb908 0x32ffff00071a00 (Mach.twnCommand m0 a1) := by
  unfold Mach.twnCommand
  extract_lets -underBinder -merge -useContext +onlyGivenNames t0
  have ht0 : m0.touch 0x1fdcb908 0x32ffff00071a00 t0 := by
    unfold t0
    refine touch_ite (fun _ => ?_) (fun _ => ?_)
    · refine touch_app ?_ (Mach.startSwap_touch ..) rfl rfl
      exact touch_refl _ _ _
    · exact touch_refl _ _ _
  try clear_value t0
  extract_lets -underBinder -merge -useContext +onlyGivenNames t1
  have ht1 : m0.touch 0x1fdcb908 0x32ffff00071a00 t1 := by
    unfold t1
    refine touch_ite (fun _ => ?_) (fun _ => ?_)
    · refine touch_app ?_ (Mach.toLead_touch ..) rfl rfl
      exact ht0
    · exact ht0
  try clear_value t1
  refine touch_ite (fun _ => ?_) (fun _ => ?_)
  · refine touch_app ?_ (Mach.arm_touch ..) rfl rfl
    refine touch_app ?_ (Mach.arm_touch ..) rfl rfl
    refine touch_app ?_ (Mach.enterTwn_touch ..) rfl rfl
    exact ht1
  · exact ht1

theorem Mach.decideOut_touch (m0 : Mach) : m0.touch 0x1fdcb908 0x32ffff00071a00 (Mach.decideOut m0) := by
  unfold Mach.decideOut
  split
  · refine touch_ite (fun _ => ?_) (fun _ => ?_)
    · exact touch_refl _ _ _
    · refine touch_app ?_ (Mach.leadLost_touch ..) rfl rfl
      exact touch_refl _ _ _
  · refine touch_app ?_ (Mach.toLead_touch ..) rfl rfl
    exact touch_refl _ _ _
  · exact touch_refl _ _ _

theorem Mach.witnessQuiet_touch (m0 : Mach) : m0.touch 0x1fdcb908 0x32ffff00071a00 (Mach.witnessQuiet m0) := by
  unfold Mach.witnessQuiet
  extract_lets -underBinder -merge -useContext +onlyGivenNames t0
  have ht0 : m0.touch 0x1fdcb908 0x32ffff00071a00 t0 := by
    unfold t0
    refine touch_app ?_ (Mach.setFlag_touch (P := 0x32ffff00071a00) _ _ _ _ rfl) rfl rfl
    exact touch_refl _ _ _
  try clear_value t0
  refine touch_ite (fun _ => ?_) (fun _ => ?_)
  · refine touch_app ?_ (Mach.toLead_touch ..) rfl rfl
    exact ht0
  · exact ht0

end Sys2Proof.Machine
end

