-- ==== Sys2Proof/Laws/Frame/Ptp.lean ====
section
/-! SUPPORT. The frame of each operation of Ptp.lean: the parts of the module it can change. -/

namespace Sys2Proof.Machine

theorem Mach.showMaster_touch (m0 : Mach) (a1 : ℕ) (a2 : Option Foreign) : m0.touch 0x8 0x40 (Mach.showMaster m0 a1 a2) := by
  unfold Mach.showMaster
  extract_lets -underBinder -merge -useContext +onlyGivenNames l0
  try clear_value l0
  extract_lets -underBinder -merge -useContext +onlyGivenNames l1
  try clear_value l1
  extract_lets -underBinder -merge -useContext +onlyGivenNames l2
  try clear_value l2
  extract_lets -underBinder -merge -useContext +onlyGivenNames t0
  have ht0 : m0.touch 0x8 0x40 t0 := by
    unfold t0
    refine touch_app ?_ (Mach.setFld_touch (P := 0x40) _ _ _ _ (within_nth _ _ rfl)) rfl rfl
    refine touch_app ?_ (Mach.setFld_touch (P := 0x40) _ _ _ _ (within_nth _ _ rfl)) rfl rfl
    exact touch_refl _ _ _
  try clear_value t0
  refine touch_app ?_ (Mach.setFld_touch (P := 0x40) _ _ _ _ (within_nth _ _ rfl)) rfl rfl
  refine touch_app ?_ (Mach.setFld_touch (P := 0x40) _ _ _ _ (within_nth _ _ rfl)) rfl rfl
  exact ht0

theorem Mach.portState_touch (m0 : Mach) (a1 : ℕ) (a2 : ℕ) (a3 : ℕ) (a4 : ℕ) : m0.touch 0x40008 0x40 (Mach.portState m0 a1 a2 a3 a4) := by
  unfold Mach.portState
  refine touch_ite (fun _ => ?_) (fun _ => ?_)
  · exact touch_refl _ _ _
  · extract_lets -underBinder -merge -useContext +onlyGivenNames t0
    have ht0 : m0.touch 0x40008 0x40 t0 := by
      unfold t0
      refine touch_app ?_ (Mach.setFld_touch (P := 0x40) _ _ _ _ (by unfold portStateFd; first | rfl | exact within_nth _ _ rfl | (split <;> first | rfl | exact within_nth _ _ rfl))) rfl rfl
      exact touch_refl _ _ _
    try clear_value t0
    extract_lets -underBinder -merge -useContext +onlyGivenNames l0
    try clear_value l0
    extract_lets -underBinder -merge -useContext +onlyGivenNames l1
    try clear_value l1
    refine touch_app ?_ (Mach.onDom_touch ..) rfl rfl
    exact ht0

theorem Mach.becomeMasters_touch (m0 : Mach) (a1 : ℕ) : m0.touch 0x40008 0x40 (Mach.becomeMasters m0 a1) := by
  unfold Mach.becomeMasters
  split
  refine touch_ite (fun _ => ?_) (fun _ => ?_)
  · exact touch_refl _ _ _
  · refine touch_each ?_ (fun y x hx => ?_)
    · refine touch_app ?_ (Mach.onDom_touch ..) rfl rfl
      exact touch_refl _ _ _
    · refine touch_app ?_ (Mach.portState_touch ..) rfl rfl
      exact hx

theorem Mach.bmca_touch (m0 : Mach) (a1 : ℕ) : m0.touch 0x6310a 0x60 (Mach.bmca m0 a1) := by
  unfold Mach.bmca
  extract_lets -underBinder -merge -useContext +onlyGivenNames l0
  try clear_value l0
  extract_lets -underBinder -merge -useContext +onlyGivenNames l1
  try clear_value l1
  extract_lets -underBinder -merge -useContext +onlyGivenNames l2
  try clear_value l2
  extract_lets -underBinder -merge -useContext +onlyGivenNames t0
  have ht0 : m0.touch 0x6310a 0x60 t0 := by
    unfold t0
    refine touch_each ?_ (fun y x hx => ?_)
    · exact touch_refl _ _ _
    · refine touch_app ?_ (Mach.portState_touch ..) rfl rfl
      exact hx
  try clear_value t0
  extract_lets -underBinder -merge -useContext +onlyGivenNames t1
  have ht1 : m0.touch 0x6310a 0x60 t1 := by
    unfold t1
    refine touch_app ?_ (Mach.showMaster_touch ..) rfl rfl
    exact ht0
  try clear_value t1
  extract_lets -underBinder -merge -useContext +onlyGivenNames l3
  try clear_value l3
  refine touch_ite (fun _ => ?_) (fun _ => ?_)
  · exact ht1
  · extract_lets -underBinder -merge -useContext +onlyGivenNames t2
    have ht2 : m0.touch 0x6310a 0x60 t2 := by
      unfold t2
      refine touch_app ?_ (Mach.event_touch (P := 0x60) _ _ _ _ rfl (by decide)) rfl rfl
      refine touch_app ?_ (Mach.onDom_touch ..) rfl rfl
      exact ht1
    try clear_value t2
    split
    · refine touch_app ?_ (Mach.arm_touch ..) rfl rfl
      exact ht2
    · refine touch_app ?_ (Mach.setQualified_touch ..) rfl rfl
      refine touch_app ?_ (Mach.disarm_touch ..) rfl rfl
      refine touch_app ?_ (Mach.disarm_touch ..) rfl rfl
      exact ht2

theorem Mach.sendPtp_touch (m0 : Mach) (a1 : ℕ) (a2 : PtpMsg) (a3 : Option ℕ) : m0.touch 0x404b108 0xffff00050000 (Mach.sendPtp m0 a1 a2 a3) := by
  unfold Mach.sendPtp
  extract_lets -underBinder -merge -useContext +onlyGivenNames l0
  try clear_value l0
  refine touch_app ?_ (Mach.enqueue_touch ..) rfl rfl
  exact touch_refl _ _ _

theorem Mach.ptpInterval_touch (m0 : Mach) (a1 : ℕ) (a2 : PtpTx) : m0.touch 0x404b108 0xffff00050040 (Mach.ptpInterval m0 a1 a2) := by
  unfold Mach.ptpInterval
  extract_lets -underBinder -merge -useContext +onlyGivenNames t0
  have ht0 : m0.touch 0x404b108 0xffff00050040 t0 := by
    unfold t0
    refine touch_app ?_ (Mach.arm_touch ..) rfl rfl
    exact touch_refl _ _ _
  try clear_value t0
  split
  · extract_lets -underBinder -merge -useContext +onlyGivenNames t1
    have ht1 : m0.touch 0x404b108 0xffff00050040 t1 := by
      unfold t1
      refine touch_app ?_ (Mach.becomeMasters_touch ..) rfl rfl
      exact ht0
    try clear_value t1
    extract_lets -underBinder -merge -useContext +onlyGivenNames l0
    try clear_value l0
    extract_lets -underBinder -merge -useContext +onlyGivenNames t2
    have ht2 : m0.touch 0x404b108 0xffff00050040 t2 := by
      unfold t2
      refine touch_app ?_ (Mach.onDom_touch ..) rfl rfl
      exact ht1
    try clear_value t2
    refine touch_each ?_ (fun y x hx => ?_)
    · exact ht2
    · refine touch_app ?_ (Mach.sendPtp_touch ..) rfl rfl
      exact hx
  · extract_lets -underBinder -merge -useContext +onlyGivenNames l0
    try clear_value l0
    extract_lets -underBinder -merge -useContext +onlyGivenNames t1
    have ht1 : m0.touch 0x404b108 0xffff00050040 t1 := by
      unfold t1
      refine touch_app ?_ (Mach.onDom_touch ..) rfl rfl
      exact ht0
    try clear_value t1
    refine touch_each ?_ (fun y x hx => ?_)
    · exact ht1
    · refine touch_app ?_ (Mach.sendPtp_touch ..) rfl rfl
      exact hx
  · extract_lets -underBinder -merge -useContext +onlyGivenNames l0
    try clear_value l0
    extract_lets -underBinder -merge -useContext +onlyGivenNames t1
    have ht1 : m0.touch 0x404b108 0xffff00050040 t1 := by
      unfold t1
      refine touch_app ?_ (Mach.onDom_touch ..) rfl rfl
      exact ht0
    try clear_value t1
    refine touch_each ?_ (fun y x hx => ?_)
    · exact ht1
    · refine touch_app ?_ (Mach.sendPtp_touch ..) rfl rfl
      exact hx

theorem Mach.answerPdelay_touch (m0 : Mach) (a1 : ℕ) (a2 : ℕ) (a3 : PtpMsg) : m0.touch 0x404b108 0xffff00050000 (Mach.answerPdelay m0 a1 a2 a3) := by
  unfold Mach.answerPdelay
  refine touch_app ?_ (Mach.sendPtp_touch ..) rfl rfl
  exact touch_refl _ _ _

theorem Mach.announceRx_touch (m0 : Mach) (a1 : ℕ) (a2 : ℕ) (a3 : PtpMsg) : m0.touch 0x6310a 0x60 (Mach.announceRx m0 a1 a2 a3) := by
  unfold Mach.announceRx
  extract_lets -underBinder -merge -useContext +onlyGivenNames l0
  extract_lets -underBinder -merge -useContext +onlyGivenNames l1
  try clear_value l1
  extract_lets -underBinder -merge -useContext +onlyGivenNames l2
  try clear_value l2
  extract_lets -underBinder -merge -useContext +onlyGivenNames t0
  have ht0 : m0.touch 0x6310a 0x60 t0 := by
    unfold t0
    refine touch_app ?_ (Mach.onDom_touch ..) rfl rfl
    exact touch_refl _ _ _
  try clear_value t0
  extract_lets -underBinder -merge -useContext +onlyGivenNames t1
  have ht1 : m0.touch 0x6310a 0x60 t1 := by
    unfold t1
    refine touch_app ?_ (Mach.bmca_touch ..) rfl rfl
    exact ht0
  try clear_value t1
  refine touch_ite (fun _ => ?_) (fun _ => ?_)
  · refine touch_app ?_ (Mach.arm_touch ..) rfl rfl
    refine touch_app ?_ (Mach.onDom_touch ..) rfl rfl
    exact ht1
  · exact ht1

theorem Mach.validSync_touch (m0 : Mach) (a1 : ℕ) (a2 : ℕ) (a3 : PtpMsg) : m0.touch 0x2310a 0x60 (Mach.validSync m0 a1 a2 a3) := by
  unfold Mach.validSync
  extract_lets -underBinder -merge -useContext +onlyGivenNames l0
  try clear_value l0
  split
  · refine touch_ite (fun _ => ?_) (fun _ => ?_)
    · extract_lets -underBinder -merge -useContext +onlyGivenNames t0
      have ht0 : m0.touch 0x2310a 0x60 t0 := by
        unfold t0
        refine touch_app ?_ (Mach.arm_touch ..) rfl rfl
        exact touch_refl _ _ _
      try clear_value t0
      refine touch_app ?_ (Mach.setQualified_touch ..) rfl rfl
      exact ht0
    · exact touch_refl _ _ _
  · exact touch_refl _ _ _

theorem Mach.await_touch (m0 : Mach) (a1 : ℕ) (a2 : ℕ) (a3 : PtpMsg) : m0.touch 0x40000 0x0 (Mach.await m0 a1 a2 a3) := by
  unfold Mach.await
  extract_lets -underBinder -merge -useContext +onlyGivenNames l0
  try clear_value l0
  refine touch_app ?_ (Mach.onDom_touch ..) rfl rfl
  exact touch_refl _ _ _

theorem Mach.linkDelay_touch (m0 : Mach) (a1 : ℕ) (a2 : ℕ) (a3 : ℤ) (a4 : ℤ) (a5 : ℤ) : m0.touch 0x8 0x40 (Mach.linkDelay m0 a1 a2 a3 a4 a5) := by
  unfold Mach.linkDelay
  split
  · refine touch_app ?_ (Mach.setFld_touch (P := 0x40) _ _ _ _ rfl) rfl rfl
    exact touch_refl _ _ _
  · exact touch_refl _ _ _

theorem Mach.ptpRx_touch (m0 : Mach) (a1 : ℕ) (a2 : Frame) : m0.touch 0x406b10a 0xffff00050060 (Mach.ptpRx m0 a1 a2) := by
  unfold Mach.ptpRx
  split
  · extract_lets -underBinder -merge -useContext +onlyGivenNames t0
    have ht0 : m0.touch 0x406b10a 0xffff00050060 t0 := by
      unfold t0
      refine touch_app ?_ (Mach.count_touch (P := 0xffff00050060) _ _ _ _ rfl) rfl rfl
      exact touch_refl _ _ _
    try clear_value t0
    extract_lets -underBinder -merge -useContext +onlyGivenNames t1
    have ht1 : m0.touch 0x406b10a 0xffff00050060 t1 := by
      unfold t1
      refine touch_ite (fun _ => ?_) (fun _ => ?_)
      · refine touch_app ?_ (Mach.event_touch (P := 0xffff00050060) _ _ _ _ rfl (by decide)) rfl rfl
        exact ht0
      · exact ht0
    try clear_value t1
    refine touch_app ?_ (Mach.event_touch (P := 0xffff00050060) _ _ _ _ rfl (by decide)) rfl rfl
    exact ht1
  · split
    · refine touch_app ?_ (Mach.announceRx_touch ..) rfl rfl
      exact touch_refl _ _ _
    · extract_lets -underBinder -merge -useContext +onlyGivenNames t0
      have ht0 : m0.touch 0x406b10a 0xffff00050060 t0 := by
        unfold t0
        refine touch_app ?_ (Mach.await_touch ..) rfl rfl
        exact touch_refl _ _ _
      try clear_value t0
      refine touch_ite (fun _ => ?_) (fun _ => ?_)
      · exact ht0
      · refine touch_app ?_ (Mach.validSync_touch ..) rfl rfl
        exact ht0
    · refine touch_app ?_ (Mach.validSync_touch ..) rfl rfl
      exact touch_refl _ _ _
    · refine touch_app ?_ (Mach.answerPdelay_touch ..) rfl rfl
      exact touch_refl _ _ _
    · extract_lets -underBinder -merge -useContext +onlyGivenNames t0
      have ht0 : m0.touch 0x406b10a 0xffff00050060 t0 := by
        unfold t0
        refine touch_app ?_ (Mach.await_touch ..) rfl rfl
        exact touch_refl _ _ _
      try clear_value t0
      refine touch_ite (fun _ => ?_) (fun _ => ?_)
      · exact ht0
      · refine touch_ite (fun _ => ?_) (fun _ => ?_)
        · refine touch_app ?_ (Mach.linkDelay_touch ..) rfl rfl
          exact ht0
        · exact ht0
    · split
      · refine touch_ite (fun _ => ?_) (fun _ => ?_)
        · refine touch_app ?_ (Mach.linkDelay_touch ..) rfl rfl
          exact touch_refl _ _ _
        · exact touch_refl _ _ _
      · exact touch_refl _ _ _
    · exact touch_refl _ _ _

theorem Mach.announceTimeout_touch (m0 : Mach) (a1 : ℕ) : m0.touch 0x6310a 0x60 (Mach.announceTimeout m0 a1) := by
  unfold Mach.announceTimeout
  extract_lets -underBinder -merge -useContext +onlyGivenNames l0
  try clear_value l0
  refine touch_ite (fun _ => ?_) (fun _ => ?_)
  · extract_lets -underBinder -merge -useContext +onlyGivenNames t0
    have ht0 : m0.touch 0x6310a 0x60 t0 := by
      unfold t0
      refine touch_app ?_ (Mach.event_touch (P := 0x60) _ _ _ _ rfl (by decide)) rfl rfl
      refine touch_app ?_ (Mach.count_touch (P := 0x60) _ _ _ _ (within_nth _ _ rfl)) rfl rfl
      exact touch_refl _ _ _
    try clear_value t0
    refine touch_app ?_ (Mach.bmca_touch ..) rfl rfl
    refine touch_app ?_ (Mach.onDom_touch ..) rfl rfl
    exact ht0
  · refine touch_app ?_ (Mach.becomeMasters_touch ..) rfl rfl
    exact touch_refl _ _ _

theorem Mach.domStart_touch (m0 : Mach) (a1 : ℕ) : m0.touch 0x40108 0x40 (Mach.domStart m0 a1) := by
  unfold Mach.domStart
  extract_lets -underBinder -merge -useContext +onlyGivenNames t0
  have ht0 : m0.touch 0x40108 0x40 t0 := by
    unfold t0
    refine touch_app ?_ (Mach.arm_touch ..) rfl rfl
    exact touch_refl _ _ _
  try clear_value t0
  extract_lets -underBinder -merge -useContext +onlyGivenNames t1
  have ht1 : m0.touch 0x40108 0x40 t1 := by
    unfold t1
    refine touch_each ?_ (fun y x hx => ?_)
    · exact ht0
    · refine touch_app ?_ (Mach.arm_touch ..) rfl rfl
      exact hx
  try clear_value t1
  refine touch_each ?_ (fun y x hx => ?_)
  · exact ht1
  · refine touch_app ?_ (Mach.portState_touch ..) rfl rfl
    exact hx

theorem Mach.domStop_touch (m0 : Mach) (a1 : ℕ) : m0.touch 0x6310a 0x60 (Mach.domStop m0 a1) := by
  unfold Mach.domStop
  extract_lets -underBinder -merge -useContext +onlyGivenNames t0
  have ht0 : m0.touch 0x6310a 0x60 t0 := by
    unfold t0
    refine touch_app ?_ (Mach.onDom_touch ..) rfl rfl
    exact touch_refl _ _ _
  try clear_value t0
  extract_lets -underBinder -merge -useContext +onlyGivenNames t1
  have ht1 : m0.touch 0x6310a 0x60 t1 := by
    unfold t1
    refine touch_each ?_ (fun y x hx => ?_)
    · exact ht0
    · refine touch_app ?_ (Mach.disarm_touch ..) rfl rfl
      exact hx
  try clear_value t1
  extract_lets -underBinder -merge -useContext +onlyGivenNames t2
  have ht2 : m0.touch 0x6310a 0x60 t2 := by
    unfold t2
    refine touch_each ?_ (fun y x hx => ?_)
    · exact ht1
    · refine touch_app ?_ (Mach.setFld_touch (P := 0x60) _ _ _ _ (by unfold portStateFd; first | rfl | exact within_nth _ _ rfl | (split <;> first | rfl | exact within_nth _ _ rfl))) rfl rfl
      exact hx
  try clear_value t2
  refine touch_app ?_ (Mach.setQualified_touch ..) rfl rfl
  refine touch_app ?_ (Mach.setFld_touch (P := 0x60) _ _ _ _ (within_nth _ _ rfl)) rfl rfl
  refine touch_app ?_ (Mach.showMaster_touch ..) rfl rfl
  exact ht2

theorem Mach.ptpApply_touch (m0 : Mach) (a1 : KMap Word) : m0.touch 0x6310a 0x60 (Mach.ptpApply m0 a1) := by
  unfold Mach.ptpApply
  refine touch_each ?_ (fun y x hx => ?_)
  · exact touch_refl _ _ _
  · extract_lets -underBinder -merge -useContext +onlyGivenNames l0
    try clear_value l0
    extract_lets -underBinder -merge -useContext +onlyGivenNames l1
    try clear_value l1
    extract_lets -underBinder -merge -useContext +onlyGivenNames l2
    try clear_value l2
    refine touch_ite (fun _ => ?_) (fun _ => ?_)
    · extract_lets -underBinder -merge -useContext +onlyGivenNames l3
      try clear_value l3
      extract_lets -underBinder -merge -useContext +onlyGivenNames t0
      have ht0 : m0.touch 0x6310a 0x60 t0 := by
        unfold t0
        refine touch_each ?_ (fun y x hx => ?_)
        · exact hx
        · refine touch_ite (fun _ => ?_) (fun _ => ?_)
          · refine touch_app ?_ (Mach.setFld_touch (P := 0x60) _ _ _ _ (by unfold portStateFd; first | rfl | exact within_nth _ _ rfl | (split <;> first | rfl | exact within_nth _ _ rfl))) rfl rfl
            exact hx
          · refine touch_ite (fun _ => ?_) (fun _ => ?_)
            · refine touch_app ?_ (Mach.portState_touch ..) rfl rfl
              exact hx
            · exact hx
      try clear_value t0
      refine touch_app ?_ (Mach.bmca_touch ..) rfl rfl
      refine touch_app ?_ (Mach.onDom_touch ..) rfl rfl
      exact ht0
    · extract_lets -underBinder -merge -useContext +onlyGivenNames t0
      have ht0 : m0.touch 0x6310a 0x60 t0 := by
        unfold t0
        refine touch_ite (fun _ => ?_) (fun _ => ?_)
        · refine touch_app ?_ (Mach.domStop_touch ..) rfl rfl
          exact hx
        · exact hx
      try clear_value t0
      refine touch_ite (fun _ => ?_) (fun _ => ?_)
      · refine touch_app ?_ (Mach.domStart_touch ..) rfl rfl
        exact ht0
      · exact ht0

end Sys2Proof.Machine
end

