-- ==== Sys2Proof/Laws/Frame/Stage.lean ====
section
/-! SUPPORT. The frame of each operation of Stage.lean: the parts of the module it can change. -/

namespace Sys2Proof.Machine

theorem Mach.takePage_touch (m0 : Mach) (a1 : ℕ) : m0.touch 0x410 0x0 (Mach.takePage m0 a1) :=
  touch_app (touch_mono (touch_set_force m0 (takeForce m0.regs m0.force a1)) rfl rfl)
    (touch_bulkF { m0 with force := takeForce m0.regs m0.force a1 } (takeBulk m0.bulk m0.bulkF a1)
      fun h => takeBulk_wf _ _ _ h.1 h.2.1) rfl rfl

theorem Mach.revertPage_touch (m0 : Mach) (a1 : ℕ) :
    m0.touch 0x208 0xffffffffffffffffffffffffffffffffffffffffffffffffffffffffffffffff (Mach.revertPage m0 a1) := by
  unfold Mach.revertPage
  refine touch_app ?_ (touch_bulk _ _ fun h => takeBulk_wf _ _ _ h.2.1 h.1) rfl rfl
  exact touch_each (touch_refl _ _ _) fun y x hx => touch_app hx (touch_regs_any _ _) rfl rfl

end Sys2Proof.Machine
end

