-- ==== Sys2Proof/Laws/Frame/Port.lean ====
section
/-! SUPPORT. The frame of each operation of Port.lean: the parts of the module it can change. -/

namespace Sys2Proof.Machine

theorem Mach.release_touch (m0 : Mach) (a1 : Transport) (a2 : Byte) : m0.touch 0x4000 0x0 (Mach.release m0 a1 a2) := by
  unfold Mach.release
  refine touch_app ?_ (Mach.onCmd_touch ..) rfl rfl
  exact touch_refl _ _ _

theorem Mach.writeResp_touch (m0 : Mach) (a1 : Resp) : m0.touch 0x5000 0x0 (Mach.writeResp m0 a1) := by
  unfold Mach.writeResp
  extract_lets -underBinder -merge -useContext +onlyGivenNames t0
  have ht0 : m0.touch 0x5000 0x0 t0 := by
    unfold t0
    refine touch_app ?_ (Mach.emit_touch ..) rfl rfl
    exact touch_refl _ _ _
  try clear_value t0
  extract_lets -underBinder -merge -useContext +onlyGivenNames t1
  have ht1 : m0.touch 0x5000 0x0 t1 := by
    unfold t1
    split
    · refine touch_app ?_ (Mach.emit_touch ..) rfl rfl
      refine touch_app ?_ (Mach.onCmd_touch ..) rfl rfl
      exact ht0
    · exact ht0
  try clear_value t1
  refine touch_ite (fun _ => ?_) (fun _ => ?_)
  · refine touch_app ?_ (Mach.release_touch ..) rfl rfl
    exact ht1
  · exact ht1

theorem Mach.sendResp_touch (m0 : Mach) (a1 : Resp) : m0.touch 0x5000 0x0 (Mach.sendResp m0 a1) := by
  unfold Mach.sendResp
  refine touch_ite (fun _ => ?_) (fun _ => ?_)
  · refine touch_app ?_ (Mach.onCmd_touch ..) rfl rfl
    exact touch_refl _ _ _
  · refine touch_app ?_ (Mach.writeResp_touch ..) rfl rfl
    exact touch_refl _ _ _

theorem Mach.drainResp_touch (m0 : Mach) (a1 : ℕ) : m0.touch 0x5000 0x0 (Mach.drainResp m0 a1) := by
  induction a1 generalizing m0
  · unfold Mach.drainResp
    exact touch_refl _ _ _
  · rename_i n ih
    unfold Mach.drainResp
    split
    · exact touch_refl _ _ _
    · refine touch_ite (fun _ => ?_) (fun _ => ?_)
      · exact touch_refl _ _ _
      · refine touch_app ?_ (ih ..) rfl rfl
        refine touch_app ?_ (Mach.writeResp_touch ..) rfl rfl
        refine touch_app ?_ (Mach.onCmd_touch ..) rfl rfl
        exact touch_refl _ _ _

theorem Mach.reply_touch (m0 : Mach) (a1 : Route) (a2 : VCommand) (a3 : Resp) : m0.touch 0x5000 0x0 (Mach.reply m0 a1 a2 a3) := by
  unfold Mach.reply
  refine touch_ite (fun _ => ?_) (fun _ => ?_)
  · refine touch_app ?_ (Mach.sendResp_touch ..) rfl rfl
    refine touch_app ?_ (Mach.onCmd_touch ..) rfl rfl
    exact touch_refl _ _ _
  · refine touch_app ?_ (Mach.sendResp_touch ..) rfl rfl
    exact touch_refl _ _ _

theorem Mach.refuse_touch (m0 : Mach) (a1 : Transport) (a2 : Route) (a3 : VCommand) (a4 : Bool) (a5 : ℕ) : m0.touch 0x5000 0x0 (Mach.refuse m0 a1 a2 a3 a4 a5) := by
  unfold Mach.refuse
  refine touch_app ?_ (Mach.reply_touch ..) rfl rfl
  exact touch_refl _ _ _

theorem Mach.storeResp_touch (m0 : Mach) (a1 : Word) (a2 : Resp) : m0.touch 0x4100 0x0 (Mach.storeResp m0 a1 a2) := by
  unfold Mach.storeResp
  extract_lets -underBinder -merge -useContext +onlyGivenNames t0
  have ht0 : m0.touch 0x4100 0x0 t0 := by
    unfold t0
    refine touch_app ?_ (Mach.onCmd_touch ..) rfl rfl
    exact touch_refl _ _ _
  try clear_value t0
  refine touch_app ?_ (Mach.arm_touch ..) rfl rfl
  exact ht0

theorem Mach.finish_touch (m0 : Mach) (a1 : OutCmd) (a2 : ℕ) (a3 : List Byte) : m0.touch 0x5100 0x0 (Mach.finish m0 a1 a2 a3) := by
  unfold Mach.finish
  extract_lets -underBinder -merge -useContext +onlyGivenNames l0
  try clear_value l0
  extract_lets -underBinder -merge -useContext +onlyGivenNames t0
  have ht0 : m0.touch 0x5100 0x0 t0 := by
    unfold t0
    refine touch_ite (fun _ => ?_) (fun _ => ?_)
    · refine touch_app ?_ (Mach.storeResp_touch ..) rfl rfl
      exact touch_refl _ _ _
    · exact touch_refl _ _ _
  try clear_value t0
  extract_lets -underBinder -merge -useContext +onlyGivenNames t1
  have ht1 : m0.touch 0x5100 0x0 t1 := by
    unfold t1
    refine touch_when ?_ (fun x hx => ?_)
    · exact ht0
    · refine touch_app ?_ (Mach.onCmd_touch ..) rfl rfl
      exact hx
  try clear_value t1
  refine touch_app ?_ (Mach.sendResp_touch ..) rfl rfl
  exact ht1

theorem Mach.finishTag_touch (m0 : Mach) (a1 : Transport) (a2 : Byte) (a3 : ℕ) (a4 : List Byte) : m0.touch 0x5100 0x0 (Mach.finishTag m0 a1 a2 a3 a4) := by
  unfold Mach.finishTag
  split
  · refine touch_app ?_ (Mach.finish_touch ..) rfl rfl
    exact touch_refl _ _ _
  · exact touch_refl _ _ _

theorem Mach.newSession_touch (m0 : Mach) : m0.touch 0x400a 0x40000000000000 (Mach.newSession m0) := by
  unfold Mach.newSession
  split
  rename_i p0_0 p0_1 p0_2 he3
  have hp0_2 : m0.touch 0x400a 0x40000000000000 p0_2 := by
    refine touch_snd he3 ?_
    refine touch_app ?_ (Mach.drawWord_touch ..) rfl rfl
    exact touch_refl _ _ _
  extract_lets -underBinder -merge -useContext +onlyGivenNames t0
  have ht0 : m0.touch 0x400a 0x40000000000000 t0 := by
    unfold t0
    refine touch_app ?_ (Mach.onCmd_touch ..) rfl rfl
    exact hp0_2
  try clear_value t0
  refine touch_app ?_ (Mach.setFld_touch (P := 0x40000000000000) _ _ _ _ rfl) rfl rfl
  refine touch_app ?_ (Mach.setFld_touch (P := 0x40000000000000) _ _ _ _ rfl) rfl rfl
  exact ht0

theorem Mach.auditLoad_touch (m0 : Mach) (a1 : ℕ) (a2 : Transport) (a3 : ℕ) (a4 : ℕ) (a5 : ℕ) : m0.touch 0x3008 0x0 (Mach.auditLoad m0 a1 a2 a3 a4 a5) := by
  unfold Mach.auditLoad
  refine touch_app ?_ (Mach.audit_touch ..) rfl rfl
  exact touch_refl _ _ _

end Sys2Proof.Machine
end

