-- ==== Sys2Proof/Laws/Frame/Rim.lean ====
section
/-! SUPPORT. The frame of each operation of Rim.lean: the parts of the module it can change. -/

namespace Sys2Proof.Machine

theorem Mach.setActive_touch (m0 : Mach) (a1 : ℕ) (a2 : Bool) : m0.touch 0x8 0x8 (Mach.setActive m0 a1 a2) := by
  unfold Mach.setActive
  refine touch_app ?_ (Mach.setFld_touch (P := 0x8) _ _ _ _ rfl) rfl rfl
  exact touch_refl _ _ _

theorem Mach.logSource_touch (m0 : Mach) (a1 : ℕ) : m0.touch 0x3008 0x8 (Mach.logSource m0 a1) := by
  unfold Mach.logSource
  extract_lets -underBinder -merge -useContext +onlyGivenNames t0
  have ht0 : m0.touch 0x3008 0x8 t0 := by
    unfold t0
    refine touch_app ?_ (Mach.setFld_touch (P := 0x8) _ _ _ _ rfl) rfl rfl
    exact touch_refl _ _ _
  try clear_value t0
  refine touch_app ?_ (Mach.eventAlways_touch (P := 0x8) _ _ _ _ rfl (by decide)) rfl rfl
  refine touch_app ?_ (Mach.count_touch (P := 0x8) _ _ _ _ rfl) rfl rfl
  exact ht0

theorem Mach.debugLock_touch (m0 : Mach) : m0.touch 0x100000008 0x8 (Mach.debugLock m0) := by
  unfold Mach.debugLock
  refine touch_app ?_ (Mach.onRim_touch ..) rfl rfl
  refine touch_app ?_ (Mach.setFld_touch (P := 0x8) _ _ _ _ rfl) rfl rfl
  exact touch_refl _ _ _

theorem Mach.endLoad_touch (m0 : Mach) (a1 : KeyLoad) (a2 : ℕ) (a3 : List Byte) : m0.touch 0x7108 0x0 (Mach.endLoad m0 a1 a2 a3) := by
  unfold Mach.endLoad
  refine touch_app ?_ (Mach.auditLoad_touch ..) rfl rfl
  refine touch_app ?_ (Mach.finishTag_touch ..) rfl rfl
  exact touch_refl _ _ _

theorem Mach.dropLoads_touch (m0 : Mach) (a1 : Bool) : m0.touch 0x100007108 0x0 (Mach.dropLoads m0 a1) := by
  unfold Mach.dropLoads
  extract_lets -underBinder -merge -useContext +onlyGivenNames l0
  try clear_value l0
  refine touch_each ?_ (fun y x hx => ?_)
  · refine touch_app ?_ (Mach.onRim_touch ..) rfl rfl
    exact touch_refl _ _ _
  · refine touch_app ?_ (Mach.endLoad_touch ..) rfl rfl
    exact hx

theorem Mach.lock_touch (m0 : Mach) (a1 : ℕ) : m0.touch 0x100007108 0x8 (Mach.lock m0 a1) := by
  unfold Mach.lock
  extract_lets -underBinder -merge -useContext +onlyGivenNames t0
  have ht0 : m0.touch 0x100007108 0x8 t0 := by
    unfold t0
    refine touch_app ?_ (Mach.setFld_touch (P := 0x8) _ _ _ _ rfl) rfl rfl
    refine touch_app ?_ (Mach.setFld_touch (P := 0x8) _ _ _ _ rfl) rfl rfl
    exact touch_refl _ _ _
  try clear_value t0
  refine touch_app ?_ (Mach.dropLoads_touch ..) rfl rfl
  refine touch_app ?_ (Mach.debugLock_touch ..) rfl rfl
  refine touch_app ?_ (Mach.eventAlways_touch (P := 0x8) _ _ _ _ rfl (by decide)) rfl rfl
  exact ht0

theorem Mach.advanceGen_touch (m0 : Mach) : m0.touch 0x8 0x8 (Mach.advanceGen m0) := by
  unfold Mach.advanceGen
  extract_lets -underBinder -merge -useContext +onlyGivenNames l0
  try clear_value l0
  refine touch_app ?_ (Mach.setFlag_touch (P := 0x8) _ _ _ _ rfl) rfl rfl
  refine touch_app ?_ (Mach.setFld_touch (P := 0x8) _ _ _ _ rfl) rfl rfl
  exact touch_refl _ _ _

theorem Mach.emptySlot_touch (m0 : Mach) (a1 : ℕ) : m0.touch 0x100000008 0x10 (Mach.emptySlot m0 a1) := by
  unfold Mach.emptySlot
  extract_lets -underBinder -merge -useContext +onlyGivenNames t0
  have ht0 : m0.touch 0x100000008 0x10 t0 := by
    unfold t0
    refine touch_app ?_ (Mach.onRim_touch ..) rfl rfl
    refine touch_app ?_ (Mach.setFld_touch (P := 0x10) _ _ _ _ rfl) rfl rfl
    exact touch_refl _ _ _
  try clear_value t0
  refine touch_app ?_ (Mach.setFld_touch (P := 0x10) _ _ _ _ rfl) rfl rfl
  exact ht0

theorem Mach.zeroise_touch (m0 : Mach) (a1 : ℕ) : m0.touch 0x11f9cf90a 0x72ffff00071818 (Mach.zeroise m0 a1) := by
  unfold Mach.zeroise
  extract_lets -underBinder -merge -useContext +onlyGivenNames t0
  have ht0 : m0.touch 0x11f9cf90a 0x72ffff00071818 t0 := by
    unfold t0
    refine touch_app ?_ (Mach.setFld_touch (P := 0x72ffff00071818) _ _ _ _ rfl) rfl rfl
    refine touch_app ?_ (Mach.setFld_touch (P := 0x72ffff00071818) _ _ _ _ rfl) rfl rfl
    exact touch_refl _ _ _
  try clear_value t0
  extract_lets -underBinder -merge -useContext +onlyGivenNames t1
  have ht1 : m0.touch 0x11f9cf90a 0x72ffff00071818 t1 := by
    unfold t1
    refine touch_each ?_ (fun y x hx => ?_)
    · exact ht0
    · refine touch_app ?_ (Mach.emptySlot_touch ..) rfl rfl
      exact hx
  try clear_value t1
  extract_lets -underBinder -merge -useContext +onlyGivenNames t2
  have ht2 : m0.touch 0x11f9cf90a 0x72ffff00071818 t2 := by
    unfold t2
    refine touch_app ?_ (Mach.event_touch (P := 0x72ffff00071818) _ _ _ _ rfl (by decide)) rfl rfl
    exact ht1
  try clear_value t2
  extract_lets -underBinder -merge -useContext +onlyGivenNames t3
  have ht3 : m0.touch 0x11f9cf90a 0x72ffff00071818 t3 := by
    unfold t3
    refine touch_app ?_ (Mach.eventAlways_touch (P := 0x72ffff00071818) _ _ _ _ rfl (by decide)) rfl rfl
    refine touch_app ?_ (Mach.count_touch (P := 0x72ffff00071818) _ _ _ _ rfl) rfl rfl
    exact ht2
  try clear_value t3
  extract_lets -underBinder -merge -useContext +onlyGivenNames t4
  have ht4 : m0.touch 0x11f9cf90a 0x72ffff00071818 t4 := by
    unfold t4
    refine touch_ite (fun _ => ?_) (fun _ => ?_)
    · refine touch_app ?_ (Mach.advanceGen_touch ..) rfl rfl
      exact ht3
    · exact ht3
  try clear_value t4
  extract_lets -underBinder -merge -useContext +onlyGivenNames t5
  have ht5 : m0.touch 0x11f9cf90a 0x72ffff00071818 t5 := by
    unfold t5
    refine touch_app ?_ (Mach.onRim_touch ..) rfl rfl
    exact ht4
  try clear_value t5
  refine touch_app ?_ (Mach.twnWitness_touch ..) rfl rfl
  refine touch_app ?_ (Mach.dropLoads_touch ..) rfl rfl
  refine touch_app ?_ (Mach.newSession_touch ..) rfl rfl
  refine touch_app ?_ (Mach.debugLock_touch ..) rfl rfl
  exact ht5

theorem Mach.violate_touch (m0 : Mach) (a1 : List ℕ) : m0.touch 0x11f9cf90a 0x72ffff00071818 (Mach.violate m0 a1) := by
  unfold Mach.violate
  extract_lets -underBinder -merge -useContext +onlyGivenNames t0
  have ht0 : m0.touch 0x11f9cf90a 0x72ffff00071818 t0 := by
    unfold t0
    refine touch_each ?_ (fun y x hx => ?_)
    · exact touch_refl _ _ _
    · refine touch_app ?_ (Mach.logSource_touch ..) rfl rfl
      exact hx
  try clear_value t0
  split
  · refine touch_app ?_ (Mach.zeroise_touch ..) rfl rfl
    exact ht0
  · split
    · refine touch_ite (fun _ => ?_) (fun _ => ?_)
      · refine touch_app ?_ (Mach.lock_touch ..) rfl rfl
        exact ht0
      · exact ht0
    · exact ht0

theorem Mach.fire_touch (m0 : Mach) (a1 : ℕ) : m0.touch 0x11f9cf90a 0x72ffff00071818 (Mach.fire m0 a1) := by
  unfold Mach.fire
  refine touch_app ?_ (Mach.violate_touch ..) rfl rfl
  refine touch_app ?_ (Mach.setActive_touch ..) rfl rfl
  exact touch_refl _ _ _

theorem Mach.authFailed_touch (m0 : Mach) : m0.touch 0x11f9cf90a 0x72ffff00071818 (Mach.authFailed m0) := by
  unfold Mach.authFailed
  extract_lets -underBinder -merge -useContext +onlyGivenNames l0
  try clear_value l0
  extract_lets -underBinder -merge -useContext +onlyGivenNames t0
  have ht0 : m0.touch 0x11f9cf90a 0x72ffff00071818 t0 := by
    unfold t0
    refine touch_app ?_ (Mach.event_touch (P := 0x72ffff00071818) _ _ _ _ rfl (by decide)) rfl rfl
    refine touch_app ?_ (Mach.setFld_touch (P := 0x72ffff00071818) _ _ _ _ rfl) rfl rfl
    refine touch_app ?_ (Mach.count_touch (P := 0x72ffff00071818) _ _ _ _ rfl) rfl rfl
    exact touch_refl _ _ _
  try clear_value t0
  refine touch_ite (fun _ => ?_) (fun _ => ?_)
  · refine touch_app ?_ (Mach.fire_touch ..) rfl rfl
    exact ht0
  · exact ht0

theorem Mach.authPassed_touch (m0 : Mach) : m0.touch 0x8 0x40000000000008 (Mach.authPassed m0) := by
  unfold Mach.authPassed
  refine touch_app ?_ (Mach.setActive_touch ..) rfl rfl
  refine touch_app ?_ (Mach.setFld_touch (P := 0x40000000000008) _ _ _ _ rfl) rfl rfl
  exact touch_refl _ _ _

theorem Mach.refuseLoad_touch (m0 : Mach) (a1 : KeyLoad) (a2 : ℕ) : m0.touch 0x7108 0x10 (Mach.refuseLoad m0 a1 a2) := by
  unfold Mach.refuseLoad
  extract_lets -underBinder -merge -useContext +onlyGivenNames t0
  have ht0 : m0.touch 0x7108 0x10 t0 := by
    unfold t0
    refine touch_ite (fun _ => ?_) (fun _ => ?_)
    · refine touch_app ?_ (Mach.count_touch (P := 0x10) _ _ _ _ rfl) rfl rfl
      exact touch_refl _ _ _
    · exact touch_refl _ _ _
  try clear_value t0
  extract_lets -underBinder -merge -useContext +onlyGivenNames t1
  have ht1 : m0.touch 0x7108 0x10 t1 := by
    unfold t1
    refine touch_app ?_ (Mach.setFld_touch (P := 0x10) _ _ _ _ rfl) rfl rfl
    refine touch_app ?_ (Mach.setFld_touch (P := 0x10) _ _ _ _ rfl) rfl rfl
    refine touch_app ?_ (Mach.count_touch (P := 0x10) _ _ _ _ rfl) rfl rfl
    exact ht0
  try clear_value t1
  refine touch_app ?_ (Mach.endLoad_touch ..) rfl rfl
  refine touch_app ?_ (Mach.event_touch (P := 0x10) _ _ _ _ rfl (by decide)) rfl rfl
  exact ht1

theorem Mach.startLoad_touch (m0 : Mach) (a1 : KeyLoad) : m0.touch 0x100007108 0x10 (Mach.startLoad m0 a1) := by
  unfold Mach.startLoad
  refine touch_ite (fun _ => ?_) (fun _ => ?_)
  · refine touch_app ?_ (Mach.endLoad_touch ..) rfl rfl
    exact touch_refl _ _ _
  · split
    · refine touch_app ?_ (Mach.refuseLoad_touch ..) rfl rfl
      exact touch_refl _ _ _
    · refine touch_app ?_ (Mach.onRim_touch ..) rfl rfl
      exact touch_refl _ _ _

theorem Mach.nextLoad_touch (m0 : Mach) (a1 : ℕ) : m0.touch 0x100007108 0x10 (Mach.nextLoad m0 a1) := by
  induction a1 generalizing m0
  · unfold Mach.nextLoad
    exact touch_refl _ _ _
  · rename_i n ih
    unfold Mach.nextLoad
    split
    · exact touch_refl _ _ _
    · extract_lets -underBinder -merge -useContext +onlyGivenNames t0
      have ht0 : m0.touch 0x100007108 0x10 t0 := by
        unfold t0
        refine touch_app ?_ (Mach.startLoad_touch ..) rfl rfl
        refine touch_app ?_ (Mach.onRim_touch ..) rfl rfl
        exact touch_refl _ _ _
      try clear_value t0
      extract_lets -underBinder -merge -useContext +onlyGivenNames t1
      try clear_value t1
      extract_lets -underBinder -merge -useContext +onlyGivenNames t2
      have ht2 : m0.touch 0x100007108 0x10 t2 := by
        unfold t2
        refine touch_app ?_ (touch_set_rim _ _) rfl rfl
        exact ht0
      try clear_value t2
      refine touch_ite (fun _ => ?_) (fun _ => ?_)
      · refine touch_app ?_ (ih ..) rfl rfl
        exact ht2
      · exact ht2

theorem Mach.queueLoad_touch (m0 : Mach) (a1 : KeyLoad) : m0.touch 0x100007108 0x10 (Mach.queueLoad m0 a1) := by
  unfold Mach.queueLoad
  refine touch_ite (fun _ => ?_) (fun _ => ?_)
  · refine touch_app ?_ (Mach.startLoad_touch ..) rfl rfl
    exact touch_refl _ _ _
  · refine touch_app ?_ (Mach.onRim_touch ..) rfl rfl
    exact touch_refl _ _ _

theorem Mach.installKey_touch (m0 : Mach) (a1 : KeyLoad) : m0.touch 0x10000700a 0x40000000000010 (Mach.installKey m0 a1) := by
  unfold Mach.installKey
  extract_lets -underBinder -merge -useContext +onlyGivenNames l0
  try clear_value l0
  extract_lets -underBinder -merge -useContext +onlyGivenNames t0
  have ht0 : m0.touch 0x10000700a 0x40000000000010 t0 := by
    unfold t0
    refine touch_app ?_ (Mach.onRim_touch ..) rfl rfl
    refine touch_app ?_ (Mach.setFld_touch (P := 0x40000000000010) _ _ _ _ rfl) rfl rfl
    exact touch_refl _ _ _
  try clear_value t0
  extract_lets -underBinder -merge -useContext +onlyGivenNames t1
  have ht1 : m0.touch 0x10000700a 0x40000000000010 t1 := by
    unfold t1
    refine touch_ite (fun _ => ?_) (fun _ => ?_)
    · refine touch_app ?_ (Mach.event_touch (P := 0x40000000000010) _ _ _ _ rfl (by decide)) rfl rfl
      refine touch_app ?_ (Mach.emptySlot_touch ..) rfl rfl
      exact touch_refl _ _ _
    · refine touch_app ?_ (Mach.event_touch (P := 0x40000000000010) _ _ _ _ rfl (by decide)) rfl rfl
      refine touch_app ?_ (Mach.setFld_touch (P := 0x40000000000010) _ _ _ _ rfl) rfl rfl
      exact ht0
  try clear_value t1
  extract_lets -underBinder -merge -useContext +onlyGivenNames t2
  have ht2 : m0.touch 0x10000700a 0x40000000000010 t2 := by
    unfold t2
    refine touch_app ?_ (Mach.setFld_touch (P := 0x40000000000010) _ _ _ _ rfl) rfl rfl
    refine touch_app ?_ (Mach.setFld_touch (P := 0x40000000000010) _ _ _ _ rfl) rfl rfl
    exact ht1
  try clear_value t2
  extract_lets -underBinder -merge -useContext +onlyGivenNames t3
  have ht3 : m0.touch 0x10000700a 0x40000000000010 t3 := by
    unfold t3
    refine touch_app ?_ (Mach.count_touch (P := 0x40000000000010) _ _ _ _ rfl) rfl rfl
    exact ht2
  try clear_value t3
  refine touch_ite (fun _ => ?_) (fun _ => ?_)
  · refine touch_app ?_ (Mach.newSession_touch ..) rfl rfl
    exact ht3
  · exact ht3

theorem Mach.loadDone_touch (m0 : Mach) (a1 : Bool) : m0.touch 0x10000710a 0x40000000000010 (Mach.loadDone m0 a1) := by
  unfold Mach.loadDone
  split
  · exact touch_refl _ _ _
  · extract_lets -underBinder -merge -useContext +onlyGivenNames t0
    have ht0 : m0.touch 0x10000710a 0x40000000000010 t0 := by
      unfold t0
      refine touch_app ?_ (Mach.onRim_touch ..) rfl rfl
      exact touch_refl _ _ _
    try clear_value t0
    extract_lets -underBinder -merge -useContext +onlyGivenNames t1
    have ht1 : m0.touch 0x10000710a 0x40000000000010 t1 := by
      unfold t1
      refine touch_ite (fun _ => ?_) (fun _ => ?_)
      · refine touch_app ?_ (Mach.installKey_touch ..) rfl rfl
        refine touch_app ?_ (Mach.endLoad_touch ..) rfl rfl
        exact ht0
      · refine touch_app ?_ (Mach.refuseLoad_touch ..) rfl rfl
        exact ht0
    try clear_value t1
    refine touch_app ?_ (Mach.nextLoad_touch ..) rfl rfl
    exact ht1

theorem Mach.debugTry_touch (m0 : Mach) (a1 : ℕ) (a2 : BitVec 128) : m0.touch 0x11f9cf90a 0x72ffff00071818 (Mach.debugTry m0 a1 a2) := by
  unfold Mach.debugTry
  extract_lets -underBinder -merge -useContext +onlyGivenNames l0
  try clear_value l0
  extract_lets -underBinder -merge -useContext +onlyGivenNames l1
  try clear_value l1
  extract_lets -underBinder -merge -useContext +onlyGivenNames t0
  have ht0 : m0.touch 0x11f9cf90a 0x72ffff00071818 t0 := by
    unfold t0
    refine touch_app ?_ (Mach.onRim_touch ..) rfl rfl
    exact touch_refl _ _ _
  try clear_value t0
  refine touch_ite (fun _ => ?_) (fun _ => ?_)
  · refine touch_ite (fun _ => ?_) (fun _ => ?_)
    · refine touch_app ?_ (Mach.event_touch (P := 0x72ffff00071818) _ _ _ _ rfl (by decide)) rfl rfl
      exact ht0
    · refine touch_app ?_ (Mach.event_touch (P := 0x72ffff00071818) _ _ _ _ rfl (by decide)) rfl rfl
      refine touch_app ?_ (Mach.setFld_touch (P := 0x72ffff00071818) _ _ _ _ rfl) rfl rfl
      exact ht0
  · refine touch_app ?_ (Mach.violate_touch ..) rfl rfl
    refine touch_app ?_ (Mach.event_touch (P := 0x72ffff00071818) _ _ _ _ rfl (by decide)) rfl rfl
    exact ht0

theorem Mach.debugChallenge_touch (m0 : Mach) : m0.touch 0x100001002 0x0 (Mach.debugChallenge m0) := by
  unfold Mach.debugChallenge
  split
  rename_i p0_0 p0_1 p0_2 he3
  have hp0_2 : m0.touch 0x100001002 0x0 p0_2 := by
    refine touch_snd he3 ?_
    refine touch_app ?_ (Mach.drawWord_touch ..) rfl rfl
    exact touch_refl _ _ _
  split
  rename_i p0_0 p0_1 p0_2 he3
  have hp0_2 : m0.touch 0x100001002 0x0 p0_2 := by
    refine touch_snd he3 ?_
    refine touch_app ?_ (Mach.drawWord_touch ..) rfl rfl
    exact hp0_2
  split
  rename_i p0_0 p0_1 p0_2 he3
  have hp0_2 : m0.touch 0x100001002 0x0 p0_2 := by
    refine touch_snd he3 ?_
    refine touch_app ?_ (Mach.drawWord_touch ..) rfl rfl
    exact hp0_2
  split
  rename_i p0_0 p0_1 p0_2 he3
  have hp0_2 : m0.touch 0x100001002 0x0 p0_2 := by
    refine touch_snd he3 ?_
    refine touch_app ?_ (Mach.drawWord_touch ..) rfl rfl
    exact hp0_2
  extract_lets -underBinder -merge -useContext +onlyGivenNames t0
  have ht0 : m0.touch 0x100001002 0x0 t0 := by
    unfold t0
    refine touch_app ?_ (Mach.onRim_touch ..) rfl rfl
    exact hp0_2
  try clear_value t0
  refine touch_app ?_ (Mach.emit_touch ..) rfl rfl
  refine touch_app ?_ (Mach.emit_touch ..) rfl rfl
  exact ht0

end Sys2Proof.Machine
end

