-- ==== Sys2Proof/Laws/Frame/Pace.lean ====
section
/-! SUPPORT. The frame of each operation of Pace.lean: the parts of the module it can change. -/

namespace Sys2Proof.Machine

theorem Mach.sensor_touch (m0 : Mach) (a1 : ℕ) (a2 : Option (BitVec 16)) : m0.touch 0x13008 0x4 (Mach.sensor m0 a1 a2) := by
  unfold Mach.sensor
  split
  · extract_lets -underBinder -merge -useContext +onlyGivenNames t0
    have ht0 : m0.touch 0x13008 0x4 t0 := by
      unfold t0
      refine touch_app ?_ (Mach.onPace_touch ..) rfl rfl
      exact touch_refl _ _ _
    try clear_value t0
    refine touch_app ?_ (Mach.setFld_touch (P := 0x4) _ _ _ _ (within_nth _ _ rfl)) rfl rfl
    refine touch_app ?_ (Mach.setFlag_touch (P := 0x4) _ _ _ _ (within_nth _ _ rfl)) rfl rfl
    exact ht0
  · refine touch_ite (fun _ => ?_) (fun _ => ?_)
    · extract_lets -underBinder -merge -useContext +onlyGivenNames l0
      try clear_value l0
      extract_lets -underBinder -merge -useContext +onlyGivenNames t0
      have ht0 : m0.touch 0x13008 0x4 t0 := by
        unfold t0
        refine touch_app ?_ (Mach.setFld_touch (P := 0x4) _ _ _ _ (within_nth _ _ rfl)) rfl rfl
        refine touch_app ?_ (Mach.setFlag_touch (P := 0x4) _ _ _ _ (within_nth _ _ rfl)) rfl rfl
        exact touch_refl _ _ _
      try clear_value t0
      refine touch_ite (fun _ => ?_) (fun _ => ?_)
      · refine touch_app ?_ (Mach.event_touch (P := 0x4) _ _ _ _ rfl (by decide)) rfl rfl
        exact ht0
      · exact ht0
    · refine touch_app ?_ (Mach.onPace_touch ..) rfl rfl
      exact touch_refl _ _ _

theorem Mach.enterPace_touch (m0 : Mach) (a1 : ℕ) : m0.touch 0x3008 0x4 (Mach.enterPace m0 a1) := by
  unfold Mach.enterPace
  extract_lets -underBinder -merge -useContext +onlyGivenNames l0
  try clear_value l0
  extract_lets -underBinder -merge -useContext +onlyGivenNames t0
  have ht0 : m0.touch 0x3008 0x4 t0 := by
    unfold t0
    refine touch_ite (fun _ => ?_) (fun _ => ?_)
    · refine touch_app ?_ (Mach.event_touch (P := 0x4) _ _ _ _ rfl (by decide)) rfl rfl
      exact touch_refl _ _ _
    · exact touch_refl _ _ _
  try clear_value t0
  extract_lets -underBinder -merge -useContext +onlyGivenNames t1
  have ht1 : m0.touch 0x3008 0x4 t1 := by
    unfold t1
    refine touch_app ?_ (Mach.setFld_touch (P := 0x4) _ _ _ _ rfl) rfl rfl
    exact ht0
  try clear_value t1
  extract_lets -underBinder -merge -useContext +onlyGivenNames t2
  have ht2 : m0.touch 0x3008 0x4 t2 := by
    unfold t2
    refine touch_ite (fun _ => ?_) (fun _ => ?_)
    · exact touch_refl _ _ _
    · split
      · refine touch_app ?_ (Mach.event_touch (P := 0x4) _ _ _ _ rfl (by decide)) rfl rfl
        refine touch_app ?_ (Mach.count_touch (P := 0x4) _ _ _ _ rfl) rfl rfl
        exact ht1
      · refine touch_app ?_ (Mach.event_touch (P := 0x4) _ _ _ _ rfl (by decide)) rfl rfl
        refine touch_app ?_ (Mach.count_touch (P := 0x4) _ _ _ _ rfl) rfl rfl
        exact ht1
      · refine touch_app ?_ (Mach.event_touch (P := 0x4) _ _ _ _ rfl (by decide)) rfl rfl
        refine touch_app ?_ (Mach.count_touch (P := 0x4) _ _ _ _ rfl) rfl rfl
        exact ht1
      · exact ht1
  try clear_value t2
  refine touch_app ?_ (Mach.setFlag_touch (P := 0x4) _ _ _ _ rfl) rfl rfl
  exact ht2

theorem Mach.floorTime_touch (m0 : Mach) : m0.touch 0x10008 0x4 (Mach.floorTime m0) := by
  unfold Mach.floorTime
  extract_lets -underBinder -merge -useContext +onlyGivenNames l0
  try clear_value l0
  extract_lets -underBinder -merge -useContext +onlyGivenNames t0
  have ht0 : m0.touch 0x10008 0x4 t0 := by
    unfold t0
    refine touch_app ?_ (Mach.count_touch (P := 0x4) _ _ _ _ rfl) rfl rfl
    exact touch_refl _ _ _
  try clear_value t0
  refine touch_app ?_ (Mach.onPace_touch ..) rfl rfl
  exact ht0

theorem Mach.glitch_touch (m0 : Mach) (a1 : ℕ) : m0.touch 0x11f9df90a 0x72ffff0007181c (Mach.glitch m0 a1) := by
  unfold Mach.glitch
  extract_lets -underBinder -merge -useContext +onlyGivenNames l0
  try clear_value l0
  extract_lets -underBinder -merge -useContext +onlyGivenNames l1
  try clear_value l1
  extract_lets -underBinder -merge -useContext +onlyGivenNames l2
  try clear_value l2
  extract_lets -underBinder -merge -useContext +onlyGivenNames t0
  have ht0 : m0.touch 0x11f9df90a 0x72ffff0007181c t0 := by
    unfold t0
    refine touch_app ?_ (Mach.onPace_touch ..) rfl rfl
    exact touch_refl _ _ _
  try clear_value t0
  refine touch_ite (fun _ => ?_) (fun _ => ?_)
  · extract_lets -underBinder -merge -useContext +onlyGivenNames t1
    have ht1 : m0.touch 0x11f9df90a 0x72ffff0007181c t1 := by
      unfold t1
      refine touch_app ?_ (Mach.count_touch (P := 0x72ffff0007181c) _ _ _ _ rfl) rfl rfl
      exact ht0
    try clear_value t1
    refine touch_ite (fun _ => ?_) (fun _ => ?_)
    · exact ht1
    · refine touch_app ?_ (Mach.fire_touch ..) rfl rfl
      refine touch_app ?_ (Mach.event_touch (P := 0x72ffff0007181c) _ _ _ _ rfl (by decide)) rfl rfl
      exact ht1
  · refine touch_app ?_ (Mach.setActive_touch ..) rfl rfl
    exact ht0

theorem Mach.paceWindow_touch (m0 : Mach) (a1 : List (Option (BitVec 16))) : m0.touch 0x11f9df90a 0x72ffff0007181c (Mach.paceWindow m0 a1) := by
  unfold Mach.paceWindow
  refine touch_ite (fun _ => ?_) (fun _ => ?_)
  · exact touch_refl _ _ _
  · extract_lets -underBinder -merge -useContext +onlyGivenNames t0
    have ht0 : m0.touch 0x11f9df90a 0x72ffff0007181c t0 := by
      unfold t0
      refine touch_app ?_ (Mach.floorTime_touch ..) rfl rfl
      exact touch_refl _ _ _
    try clear_value t0
    extract_lets -underBinder -merge -useContext +onlyGivenNames t1
    have ht1 : m0.touch 0x11f9df90a 0x72ffff0007181c t1 := by
      unfold t1
      refine touch_each ?_ (fun y x hx => ?_)
      · exact ht0
      · refine touch_app ?_ (Mach.sensor_touch ..) rfl rfl
        exact hx
    try clear_value t1
    split
    extract_lets -underBinder -merge -useContext +onlyGivenNames t2
    have ht2 : m0.touch 0x11f9df90a 0x72ffff0007181c t2 := by
      unfold t2
      refine touch_app ?_ (Mach.setFld_touch (P := 0x72ffff0007181c) _ _ _ _ rfl) rfl rfl
      refine touch_app ?_ (Mach.setFld_touch (P := 0x72ffff0007181c) _ _ _ _ rfl) rfl rfl
      exact ht1
    try clear_value t2
    extract_lets -underBinder -merge -useContext +onlyGivenNames t3
    have ht3 : m0.touch 0x11f9df90a 0x72ffff0007181c t3 := by
      unfold t3
      refine touch_app ?_ (Mach.setFld_touch (P := 0x72ffff0007181c) _ _ _ _ rfl) rfl rfl
      refine touch_app ?_ (Mach.raise_touch (P := 0x72ffff0007181c) _ _ _ _ rfl) rfl rfl
      exact ht2
    try clear_value t3
    extract_lets -underBinder -merge -useContext +onlyGivenNames l0
    try clear_value l0
    extract_lets -underBinder -merge -useContext +onlyGivenNames t4
    have ht4 : m0.touch 0x11f9df90a 0x72ffff0007181c t4 := by
      unfold t4
      refine touch_app ?_ (Mach.onPace_touch ..) rfl rfl
      exact ht3
    try clear_value t4
    extract_lets -underBinder -merge -useContext +onlyGivenNames l1
    try clear_value l1
    refine touch_app ?_ (Mach.glitch_touch ..) rfl rfl
    refine touch_app ?_ (Mach.enterPace_touch ..) rfl rfl
    exact ht4

theorem Mach.clearPace_touch (m0 : Mach) : m0.touch 0x8 0x4 (Mach.clearPace m0) := by
  unfold Mach.clearPace
  refine touch_app ?_ (Mach.setFld_touch (P := 0x4) _ _ _ _ rfl) rfl rfl
  refine touch_app ?_ (Mach.setFld_touch (P := 0x4) _ _ _ _ rfl) rfl rfl
  exact touch_refl _ _ _

theorem Mach.unfair_touch (m0 : Mach) : m0.touch 0x3008 0x4 (Mach.unfair m0) := by
  unfold Mach.unfair
  split
  extract_lets -underBinder -merge -useContext +onlyGivenNames t0
  have ht0 : m0.touch 0x3008 0x4 t0 := by
    unfold t0
    refine touch_app ?_ (Mach.intake_touch ..) rfl rfl
    refine touch_app ?_ (Mach.latch_touch (P := 0x4) _ _ _ rfl (by decide)) rfl rfl
    exact touch_refl _ _ _
  try clear_value t0
  refine touch_app ?_ (Mach.signal_touch ..) rfl rfl
  exact ht0

theorem Mach.expiryOf_touch (m0 : Mach) (a1 : Bool) (a2 : ℕ) (a3 : ℕ) (a4 : ℕ) : m0.touch 0x3008 0x4 (Mach.expiryOf m0 a1 a2 a3 a4) := by
  unfold Mach.expiryOf
  extract_lets -underBinder -merge -useContext +onlyGivenNames t0
  have ht0 : m0.touch 0x3008 0x4 t0 := by
    unfold t0
    refine touch_app ?_ (Mach.count_touch (P := 0x4) _ _ _ _ rfl) rfl rfl
    exact touch_refl _ _ _
  try clear_value t0
  extract_lets -underBinder -merge -useContext +onlyGivenNames t1
  have ht1 : m0.touch 0x3008 0x4 t1 := by
    unfold t1
    refine touch_app ?_ (Mach.setReg_touch (P := 0x4) _ _ _ _ _ rfl (by decide) (by decide)) rfl rfl
    exact ht0
  try clear_value t1
  refine touch_app ?_ (Mach.eventAlways_touch (P := 0x4) _ _ _ _ rfl (by decide)) rfl rfl
  exact ht1

theorem Mach.warpExpiry_touch (m0 : Mach) (a1 : Bool) (a2 : WarpHdr) (a3 : ℕ) : m0.touch 0x13008 0x4 (Mach.warpExpiry m0 a1 a2 a3) := by
  unfold Mach.warpExpiry
  refine touch_app ?_ (Mach.expiryOf_touch ..) rfl rfl
  refine touch_app ?_ (Mach.endLane_touch ..) rfl rfl
  exact touch_refl _ _ _

theorem Mach.endTransfer_touch (m0 : Mach) (a1 : WarpHdr) : m0.touch 0x201b908 0x3c000000000200 (Mach.endTransfer m0 a1) := by
  unfold Mach.endTransfer
  split
  · refine touch_app ?_ (Mach.pieceDone_touch ..) rfl rfl
    exact touch_refl _ _ _
  · exact touch_refl _ _ _

theorem Mach.hang_touch (m0 : Mach) (a1 : Stall) : m0.touch 0x1f85b908 0xbcffff00050204 (Mach.hang m0 a1) := by
  unfold Mach.hang
  split
  · refine touch_ite (fun _ => ?_) (fun _ => ?_)
    · refine touch_app ?_ (Mach.endTransfer_touch ..) rfl rfl
      refine touch_app ?_ (Mach.emit_touch ..) rfl rfl
      refine touch_app ?_ (Mach.warpExpiry_touch ..) rfl rfl
      exact touch_refl _ _ _
    · exact touch_refl _ _ _
  · refine touch_ite (fun _ => ?_) (fun _ => ?_)
    · refine touch_app ?_ (Mach.endTransfer_touch ..) rfl rfl
      refine touch_app ?_ (Mach.warpExpiry_touch ..) rfl rfl
      exact touch_refl _ _ _
    · exact touch_refl _ _ _
  · split
    · refine touch_ite (fun _ => ?_) (fun _ => ?_)
      · refine touch_app ?_ (Mach.crossingHang_touch ..) rfl rfl
        refine touch_app ?_ (Mach.expiryOf_touch ..) rfl rfl
        exact touch_refl _ _ _
      · exact touch_refl _ _ _
    · exact touch_refl _ _ _
  · refine touch_ite (fun _ => ?_) (fun _ => ?_)
    · refine touch_app ?_ (Mach.swcFault_touch ..) rfl rfl
      refine touch_app ?_ (Mach.warpExpiry_touch ..) rfl rfl
      exact touch_refl _ _ _
    · exact touch_refl _ _ _

end Sys2Proof.Machine
end

