-- ==== Sys2Proof/Laws/Frame/CoilCmd.lean ====
section
/-! SUPPORT. The frame of each operation of CoilCmd.lean: the parts of the module it can change. -/

namespace Sys2Proof.Machine

theorem Mach.startFlush_touch (m0 : Mach) : m0.touch 0x2000 0x0 (Mach.startFlush m0) := by
  unfold Mach.startFlush
  refine touch_ite (fun _ => ?_) (fun _ => ?_)
  · exact touch_refl _ _ _
  · refine touch_app ?_ (Mach.onCoil_touch ..) rfl rfl
    exact touch_refl _ _ _

theorem Mach.flushDone_touch (m0 : Mach) (a1 : Bool) : m0.touch 0x200003008 0x80 (Mach.flushDone m0 a1) := by
  unfold Mach.flushDone
  refine touch_ite (fun _ => ?_) (fun _ => ?_)
  · exact touch_refl _ _ _
  · extract_lets -underBinder -merge -useContext +onlyGivenNames l0
    try clear_value l0
    extract_lets -underBinder -merge -useContext +onlyGivenNames l1
    try clear_value l1
    extract_lets -underBinder -merge -useContext +onlyGivenNames t0
    have ht0 : m0.touch 0x200003008 0x80 t0 := by
      unfold t0
      refine touch_app ?_ (Mach.onCoil_touch ..) rfl rfl
      exact touch_refl _ _ _
    try clear_value t0
    refine touch_ite (fun _ => ?_) (fun _ => ?_)
    · extract_lets -underBinder -merge -useContext +onlyGivenNames t1
      try clear_value t1
      extract_lets -underBinder -merge -useContext +onlyGivenNames t2
      try clear_value t2
      extract_lets -underBinder -merge -useContext +onlyGivenNames t3
      have ht3 : m0.touch 0x200003008 0x80 t3 := by
        unfold t3
        refine touch_app ?_ (touch_set_flash _ _) rfl rfl
        exact ht0
      try clear_value t3
      refine touch_app ?_ (Mach.coilEvent_touch ..) rfl rfl
      refine touch_app ?_ (Mach.count_touch (P := 0x80) _ _ _ _ rfl) rfl rfl
      exact ht3
    · refine touch_app ?_ (touch_set_flash _ _) rfl rfl
      exact ht0

theorem Mach.presentImage_touch (m0 : Mach) : m0.touch 0x200003008 0x80 (Mach.presentImage m0) := by
  unfold Mach.presentImage
  extract_lets -underBinder -merge -useContext +onlyGivenNames t0
  try clear_value t0
  extract_lets -underBinder -merge -useContext +onlyGivenNames t1
  have ht1 : m0.touch 0x200003008 0x80 t1 := by
    unfold t1
    refine touch_ite (fun _ => ?_) (fun _ => ?_)
    · refine touch_app ?_ (Mach.coilEvent_touch ..) rfl rfl
      refine touch_app ?_ (touch_set_flash _ _) rfl rfl
      exact touch_refl _ _ _
    · exact touch_refl _ _ _
  try clear_value t1
  extract_lets -underBinder -merge -useContext +onlyGivenNames l0
  try clear_value l0
  split
  · exact ht1
  · extract_lets -underBinder -merge -useContext +onlyGivenNames t2
    have ht2 : m0.touch 0x200003008 0x80 t2 := by
      unfold t2
      refine touch_app ?_ (Mach.onCoil_touch ..) rfl rfl
      exact ht1
    try clear_value t2
    extract_lets -underBinder -merge -useContext +onlyGivenNames t3
    have ht3 : m0.touch 0x200003008 0x80 t3 := by
      unfold t3
      refine touch_app ?_ (Mach.coilEvent_touch ..) rfl rfl
      refine touch_app ?_ (Mach.setFld_touch (P := 0x80) _ _ _ _ rfl) rfl rfl
      refine touch_app ?_ (Mach.setFlag_touch (P := 0x80) _ _ _ _ rfl) rfl rfl
      exact ht2
    try clear_value t3
    refine touch_app ?_ (Mach.openRec_touch ..) rfl rfl
    exact ht3

theorem Mach.clearImages_touch (m0 : Mach) : m0.touch 0x200002008 0x80 (Mach.clearImages m0) := by
  unfold Mach.clearImages
  extract_lets -underBinder -merge -useContext +onlyGivenNames t0
  try clear_value t0
  extract_lets -underBinder -merge -useContext +onlyGivenNames t1
  have ht1 : m0.touch 0x200002008 0x80 t1 := by
    unfold t1
    refine touch_app ?_ (touch_set_flash _ _) rfl rfl
    exact touch_refl _ _ _
  try clear_value t1
  extract_lets -underBinder -merge -useContext +onlyGivenNames t2
  have ht2 : m0.touch 0x200002008 0x80 t2 := by
    unfold t2
    refine touch_app ?_ (Mach.onCoil_touch ..) rfl rfl
    exact ht1
  try clear_value t2
  refine touch_app ?_ (Mach.setFld_touch (P := 0x80) _ _ _ _ rfl) rfl rfl
  refine touch_app ?_ (Mach.setFlag_touch (P := 0x80) _ _ _ _ rfl) rfl rfl
  exact ht2

theorem Mach.coilCommand_touch (m0 : Mach) (a1 : ℕ) : m0.touch 0x200002008 0x80 (Mach.coilCommand m0 a1) := by
  unfold Mach.coilCommand
  extract_lets -underBinder -merge -useContext +onlyGivenNames t0
  have ht0 : m0.touch 0x200002008 0x80 t0 := by
    unfold t0
    refine touch_ite (fun _ => ?_) (fun _ => ?_)
    · refine touch_app ?_ (Mach.clearImages_touch ..) rfl rfl
      exact touch_refl _ _ _
    · exact touch_refl _ _ _
  try clear_value t0
  refine touch_ite (fun _ => ?_) (fun _ => ?_)
  · refine touch_app ?_ (Mach.startFlush_touch ..) rfl rfl
    exact ht0
  · exact ht0

theorem Mach.clearFifoMax_touch (m0 : Mach) : m0.touch 0x2000 0x0 (Mach.clearFifoMax m0) := by
  unfold Mach.clearFifoMax
  refine touch_app ?_ (Mach.onCoil_touch ..) rfl rfl
  exact touch_refl _ _ _

theorem Mach.coilApply_touch (m0 : Mach) (a1 : KMap Word) (a2 : List Rec) : m0.touch 0x3008 0x0 (Mach.coilApply m0 a1 a2) := by
  unfold Mach.coilApply
  extract_lets -underBinder -merge -useContext +onlyGivenNames l0
  try clear_value l0
  extract_lets -underBinder -merge -useContext +onlyGivenNames l1
  refine touch_ite (fun _ => ?_) (fun _ => ?_)
  · refine touch_ite (fun _ => ?_) (fun _ => ?_)
    · exact touch_refl _ _ _
    · extract_lets -underBinder -merge -useContext +onlyGivenNames t0
      have ht0 : m0.touch 0x3008 0x0 t0 := by
        unfold t0
        refine touch_foldl _ ?_ (fun x y hx => ?_)
        · exact touch_refl _ _ _
        · refine touch_app ?_ (Mach.closeRec_touch ..) rfl rfl
          exact hx
      try clear_value t0
      refine touch_app ?_ (Mach.coilRestart_touch ..) rfl rfl
      exact ht0
  · refine touch_ite (fun _ => ?_) (fun _ => ?_)
    · refine touch_app ?_ (Mach.coilStop_touch ..) rfl rfl
      exact touch_refl _ _ _
    · exact touch_refl _ _ _

theorem Mach.coilTake_touch (m0 : Mach) (a1 : CoilEvent) : m0.touch 0x3008 0x0 (Mach.coilTake m0 a1) := by
  unfold Mach.coilTake
  refine touch_ite (fun _ => ?_) (fun _ => ?_)
  · refine touch_app ?_ (Mach.coilEvent_touch ..) rfl rfl
    exact touch_refl _ _ _
  · refine touch_app ?_ (Mach.intake_touch ..) rfl rfl
    exact touch_refl _ _ _

end Sys2Proof.Machine
end

