-- ==== Sys2Proof/Laws/Frame/AdmRun.lean ====
section
/-! SUPPORT. The frame of each operation of AdmRun.lean: the parts of the module it can change. -/

namespace Sys2Proof.Machine

theorem Mach.macApply_touch (m0 : Mach) (a1 : ℕ) (a2 : KMap Word) : m0.touch 0x404b108 0xffff00010000 (Mach.macApply m0 a1 a2) := by
  unfold Mach.macApply
  extract_lets -underBinder -merge -useContext +onlyGivenNames t0
  have ht0 : m0.touch 0x404b108 0xffff00010000 t0 := by
    unfold t0
    refine touch_ite (fun _ => ?_) (fun _ => ?_)
    · refine touch_app ?_ (Mach.speedChange_touch ..) rfl rfl
      exact touch_refl _ _ _
    · exact touch_refl _ _ _
  try clear_value t0
  extract_lets -underBinder -merge -useContext +onlyGivenNames t1
  have ht1 : m0.touch 0x404b108 0xffff00010000 t1 := by
    unfold t1
    refine touch_ite (fun _ => ?_) (fun _ => ?_)
    · refine touch_app ?_ (Mach.eeeChange_touch ..) rfl rfl
      exact ht0
    · exact ht0
  try clear_value t1
  extract_lets -underBinder -merge -useContext +onlyGivenNames l0
  try clear_value l0
  refine touch_ite (fun _ => ?_) (fun _ => ?_)
  · refine touch_app ?_ (Mach.disarm_touch ..) rfl rfl
    exact ht1
  · refine touch_ite (fun _ => ?_) (fun _ => ?_)
    · exact ht1
    · refine touch_app ?_ (Mach.arm_touch ..) rfl rfl
      exact ht1

theorem Mach.drtApply_touch (m0 : Mach) (a1 : KMap Word) : m0.touch 0x2003008 0x10000000000000 (Mach.drtApply m0 a1) := by
  unfold Mach.drtApply
  refine touch_each ?_ (fun y x hx => ?_)
  · exact touch_refl _ _ _
  · refine touch_ite (fun _ => ?_) (fun _ => ?_)
    · refine touch_app ?_ (Mach.setFlag_touch (P := 0x10000000000000) _ _ _ _ rfl) rfl rfl
      exact hx
    · refine touch_ite (fun _ => ?_) (fun _ => ?_)
      · exact hx
      · extract_lets -underBinder -merge -useContext +onlyGivenNames l0
        try clear_value l0
        extract_lets -underBinder -merge -useContext +onlyGivenNames t0
        have ht0 : m0.touch 0x2003008 0x10000000000000 t0 := by
          unfold t0
          refine touch_app ?_ (Mach.setFlag_touch (P := 0x10000000000000) _ _ _ _ rfl) rfl rfl
          refine touch_app ?_ (Mach.setFlag_touch (P := 0x10000000000000) _ _ _ _ rfl) rfl rfl
          refine touch_app ?_ (Mach.setFlag_touch (P := 0x10000000000000) _ _ _ _ rfl) rfl rfl
          exact hx
        try clear_value t0
        extract_lets -underBinder -merge -useContext +onlyGivenNames t1
        have ht1 : m0.touch 0x2003008 0x10000000000000 t1 := by
          unfold t1
          refine touch_app ?_ (Mach.onPart_touch ..) rfl rfl
          refine touch_app ?_ (Mach.setFld_touch (P := 0x10000000000000) _ _ _ _ rfl) rfl rfl
          refine touch_app ?_ (Mach.setFld_touch (P := 0x10000000000000) _ _ _ _ rfl) rfl rfl
          exact ht0
        try clear_value t1
        refine touch_ite (fun _ => ?_) (fun _ => ?_)
        · refine touch_app ?_ (Mach.event_touch (P := 0x10000000000000) _ _ _ _ rfl (by decide)) rfl rfl
          exact ht1
        · exact ht1

theorem Mach.armWatchdog_touch (m0 : Mach) : m0.touch 0x100 0x0 (Mach.armWatchdog m0) := by
  unfold Mach.armWatchdog
  extract_lets -underBinder -merge -useContext +onlyGivenNames l0
  try clear_value l0
  refine touch_ite (fun _ => ?_) (fun _ => ?_)
  · refine touch_app ?_ (Mach.disarm_touch ..) rfl rfl
    exact touch_refl _ _ _
  · refine touch_app ?_ (Mach.arm_touch ..) rfl rfl
    exact touch_refl _ _ _

theorem Mach.pageHook_touch (m0 : Mach) (a1 : ℕ) (a2 : KMap Word) (a3 : List Host.Cell) (a4 : List Rec) : m0.touch 0x1ffdeb91a 0x3fffff0007fa6c (Mach.pageHook m0 a1 a2 a3 a4) := by
  unfold Mach.pageHook
  split
  · refine touch_ite (fun _ => ?_) (fun _ => ?_)
    · refine touch_app ?_ (Mach.armWatchdog_touch ..) rfl rfl
      exact touch_refl _ _ _
    · exact touch_refl _ _ _
  · refine touch_ite (fun _ => ?_) (fun _ => ?_)
    · refine touch_app ?_ (Mach.unfair_touch ..) rfl rfl
      exact touch_refl _ _ _
    · exact touch_refl _ _ _
  · refine touch_ite (fun _ => ?_) (fun _ => ?_)
    · refine touch_app ?_ (Mach.debugLock_touch ..) rfl rfl
      exact touch_refl _ _ _
    · exact touch_refl _ _ _
  · refine touch_app ?_ (Mach.timeApply_touch ..) rfl rfl
    exact touch_refl _ _ _
  · refine touch_app ?_ (Mach.ptpApply_touch ..) rfl rfl
    exact touch_refl _ _ _
  · refine touch_app ?_ (Mach.coilApply_touch ..) rfl rfl
    exact touch_refl _ _ _
  · refine touch_app ?_ (Mach.dspApply_touch ..) rfl rfl
    exact touch_refl _ _ _
  · refine touch_app ?_ (Mach.pubApply_touch ..) rfl rfl
    exact touch_refl _ _ _
  · refine touch_app ?_ (Mach.acqApply_touch ..) rfl rfl
    exact touch_refl _ _ _
  · refine touch_app ?_ (Mach.nrgApply_touch ..) rfl rfl
    exact touch_refl _ _ _
  · refine touch_app ?_ (Mach.plsApply_touch ..) rfl rfl
    exact touch_refl _ _ _
  · refine touch_app ?_ (Mach.tryRanding_touch ..) rfl rfl
    exact touch_refl _ _ _
  · refine touch_app ?_ (Mach.fwdApply_touch ..) rfl rfl
    exact touch_refl _ _ _
  · refine touch_app ?_ (Mach.pltApply_touch ..) rfl rfl
    exact touch_refl _ _ _
  · refine touch_app ?_ (Mach.twnApply_touch ..) rfl rfl
    exact touch_refl _ _ _
  · refine touch_app ?_ (Mach.vrtApply_touch ..) rfl rfl
    exact touch_refl _ _ _
  · refine touch_app ?_ (Mach.drtApply_touch ..) rfl rfl
    exact touch_refl _ _ _
  · refine touch_ite (fun _ => ?_) (fun _ => ?_)
    · refine touch_app ?_ (Mach.macApply_touch ..) rfl rfl
      exact touch_refl _ _ _
    · exact touch_refl _ _ _

theorem Mach.takeEffect_touch (m0 : Mach) (a1 : List ℕ) : m0.touch 0x1fffebd1a 0xffffffffffffffffffffffffffffffffffffffffffffffffffffffffffffffff (Mach.takeEffect m0 a1) := by
  unfold Mach.takeEffect
  extract_lets -underBinder -merge -useContext +onlyGivenNames l0
  try clear_value l0
  extract_lets -underBinder -merge -useContext +onlyGivenNames l1
  try clear_value l1
  extract_lets -underBinder -merge -useContext +onlyGivenNames l2
  try clear_value l2
  extract_lets -underBinder -merge -useContext +onlyGivenNames t0
  try clear_value t0
  extract_lets -underBinder -merge -useContext +onlyGivenNames t1
  have ht1 : m0.touch 0x1fffebd1a 0xffffffffffffffffffffffffffffffffffffffffffffffffffffffffffffffff t1 := by
    unfold t1
    refine touch_app ?_ (touch_set_adm _ _) rfl rfl
    exact touch_refl _ _ _
  try clear_value t1
  extract_lets -underBinder -merge -useContext +onlyGivenNames t2
  have ht2 : m0.touch 0x1fffebd1a 0xffffffffffffffffffffffffffffffffffffffffffffffffffffffffffffffff t2 := by
    unfold t2
    refine touch_each ?_ (fun y x hx => ?_)
    · exact ht1
    · refine touch_app ?_ (Mach.count_any ..) rfl rfl
      refine touch_app ?_ (Mach.takePage_touch ..) rfl rfl
      exact hx
  try clear_value t2
  extract_lets -underBinder -merge -useContext +onlyGivenNames t3
  have ht3 : m0.touch 0x1fffebd1a 0xffffffffffffffffffffffffffffffffffffffffffffffffffffffffffffffff t3 := by
    unfold t3
    refine touch_ite (fun _ => ?_) (fun _ => ?_)
    · refine touch_app ?_ (Mach.sviApply_touch ..) rfl rfl
      exact ht2
    · exact ht2
  try clear_value t3
  refine touch_each ?_ (fun y x hx => ?_)
  · exact ht3
  · refine touch_app ?_ (Mach.pageHook_touch ..) rfl rfl
    exact hx

theorem Mach.showSizes_touch (m0 : Mach) (a1 : Gen) : m0.touch 0x8 0x1000 (Mach.showSizes m0 a1) := by
  unfold Mach.showSizes
  extract_lets -underBinder -merge -useContext +onlyGivenNames l0
  try clear_value l0
  refine touch_each ?_ (fun y x hx => ?_)
  · exact touch_refl _ _ _
  · refine touch_app ?_ (Mach.setFld_touch (P := 0x1000) _ _ _ _ rfl) rfl rfl
    exact hx

theorem Mach.showSet_touch (m0 : Mach) : m0.touch 0x8 0xffff00041901 (Mach.showSet m0) := by
  unfold Mach.showSet
  extract_lets -underBinder -merge -useContext +onlyGivenNames l0
  try clear_value l0
  split
  split
  extract_lets -underBinder -merge -useContext +onlyGivenNames t0
  have ht0 : m0.touch 0x8 0xffff00041901 t0 := by
    unfold t0
    refine touch_app ?_ (Mach.setFld_touch (P := 0xffff00041901) _ _ _ _ rfl) rfl rfl
    exact touch_refl _ _ _
  try clear_value t0
  extract_lets -underBinder -merge -useContext +onlyGivenNames t1
  have ht1 : m0.touch 0x8 0xffff00041901 t1 := by
    unfold t1
    refine touch_app ?_ (Mach.setFld_touch (P := 0xffff00041901) _ _ _ _ rfl) rfl rfl
    refine touch_app ?_ (Mach.setFld_touch (P := 0xffff00041901) _ _ _ _ rfl) rfl rfl
    exact ht0
  try clear_value t1
  extract_lets -underBinder -merge -useContext +onlyGivenNames t2
  have ht2 : m0.touch 0x8 0xffff00041901 t2 := by
    unfold t2
    refine touch_app ?_ (Mach.setFld_touch (P := 0xffff00041901) _ _ _ _ rfl) rfl rfl
    refine touch_app ?_ (Mach.setFld_touch (P := 0xffff00041901) _ _ _ _ rfl) rfl rfl
    exact ht1
  try clear_value t2
  extract_lets -underBinder -merge -useContext +onlyGivenNames t3
  have ht3 : m0.touch 0x8 0xffff00041901 t3 := by
    unfold t3
    refine touch_app ?_ (Mach.setFld_touch (P := 0xffff00041901) _ _ _ _ rfl) rfl rfl
    refine touch_app ?_ (Mach.setFld_touch (P := 0xffff00041901) _ _ _ _ rfl) rfl rfl
    exact ht2
  try clear_value t3
  extract_lets -underBinder -merge -useContext +onlyGivenNames t4
  have ht4 : m0.touch 0x8 0xffff00041901 t4 := by
    unfold t4
    refine touch_app ?_ (Mach.setFld_touch (P := 0xffff00041901) _ _ _ _ rfl) rfl rfl
    refine touch_app ?_ (Mach.setFld_touch (P := 0xffff00041901) _ _ _ _ rfl) rfl rfl
    exact ht3
  try clear_value t4
  extract_lets -underBinder -merge -useContext +onlyGivenNames t5
  have ht5 : m0.touch 0x8 0xffff00041901 t5 := by
    unfold t5
    refine touch_app ?_ (Mach.setFld_touch (P := 0xffff00041901) _ _ _ _ rfl) rfl rfl
    exact ht4
  try clear_value t5
  extract_lets -underBinder -merge -useContext +onlyGivenNames t6
  have ht6 : m0.touch 0x8 0xffff00041901 t6 := by
    unfold t6
    refine touch_each ?_ (fun y x hx => ?_)
    · exact ht5
    · refine touch_app ?_ (Mach.setFld_touch (P := 0xffff00041901) _ _ _ _ rfl) rfl rfl
      refine touch_app ?_ (Mach.setFlag_touch (P := 0xffff00041901) _ _ _ _ (within_onPort _ _ rfl (by decide))) rfl rfl
      exact hx
  try clear_value t6
  refine touch_each ?_ (fun y x hx => ?_)
  · exact ht6
  · refine touch_app ?_ (Mach.setFld_touch (P := 0xffff00041901) _ _ _ _ (within_nth _ _ rfl)) rfl rfl
    exact hx

theorem Mach.fireStart_touch (m0 : Mach) : m0.touch 0x11f9cf90a 0x72ffff00071818 (Mach.fireStart m0) := by
  unfold Mach.fireStart
  extract_lets -underBinder -merge -useContext +onlyGivenNames l0
  try clear_value l0
  extract_lets -underBinder -merge -useContext +onlyGivenNames t0
  have ht0 : m0.touch 0x11f9cf90a 0x72ffff00071818 t0 := by
    unfold t0
    refine touch_app ?_ (Mach.onRim_touch ..) rfl rfl
    exact touch_refl _ _ _
  try clear_value t0
  extract_lets -underBinder -merge -useContext +onlyGivenNames t1
  have ht1 : m0.touch 0x11f9cf90a 0x72ffff00071818 t1 := by
    unfold t1
    refine touch_each ?_ (fun y x hx => ?_)
    · exact ht0
    · refine touch_app ?_ (Mach.setActive_touch ..) rfl rfl
      exact hx
  try clear_value t1
  refine touch_app ?_ (Mach.violate_touch ..) rfl rfl
  exact ht1

theorem Mach.stepSeven_touch (m0 : Mach) : m0.touch 0x51f9cf90a 0x72ffff0007181a (Mach.stepSeven m0) := by
  unfold Mach.stepSeven
  extract_lets -underBinder -merge -useContext +onlyGivenNames t0
  have ht0 : m0.touch 0x51f9cf90a 0x72ffff0007181a t0 := by
    unfold t0
    refine touch_app ?_ (Mach.emit_touch ..) rfl rfl
    refine touch_app ?_ (Mach.setFld_touch (P := 0x72ffff0007181a) _ _ _ _ rfl) rfl rfl
    exact touch_refl _ _ _
  try clear_value t0
  extract_lets -underBinder -merge -useContext +onlyGivenNames t1
  have ht1 : m0.touch 0x51f9cf90a 0x72ffff0007181a t1 := by
    unfold t1
    refine touch_app ?_ (Mach.setFld_touch (P := 0x72ffff0007181a) _ _ _ _ rfl) rfl rfl
    exact ht0
  try clear_value t1
  extract_lets -underBinder -merge -useContext +onlyGivenNames t2
  try clear_value t2
  extract_lets -underBinder -merge -useContext +onlyGivenNames t3
  have ht3 : m0.touch 0x51f9cf90a 0x72ffff0007181a t3 := by
    unfold t3
    refine touch_app ?_ (Mach.event_touch (P := 0x72ffff0007181a) _ _ _ _ rfl (by decide)) rfl rfl
    refine touch_app ?_ (touch_set_rst _ _) rfl rfl
    exact ht1
  try clear_value t3
  refine touch_app ?_ (Mach.fireStart_touch ..) rfl rfl
  exact ht3

theorem Mach.stopStart_touch (m0 : Mach) : m0.touch 0x51f9cf90a 0x72ffff0007181a (Mach.stopStart m0) := by
  unfold Mach.stopStart
  extract_lets -underBinder -merge -useContext +onlyGivenNames t0
  try clear_value t0
  extract_lets -underBinder -merge -useContext +onlyGivenNames t1
  have ht1 : m0.touch 0x51f9cf90a 0x72ffff0007181a t1 := by
    unfold t1
    refine touch_app ?_ (touch_set_rst _ _) rfl rfl
    exact touch_refl _ _ _
  try clear_value t1
  refine touch_app ?_ (Mach.fireStart_touch ..) rfl rfl
  refine touch_app ?_ (Mach.setFld_touch (P := 0x72ffff0007181a) _ _ _ _ rfl) rfl rfl
  exact ht1

theorem Mach.startRun_touch (m0 : Mach) (a1 : Bool) (a2 : RunBy) : m0.touch 0x200008 0x100 (Mach.startRun m0 a1 a2).1 := by
  unfold Mach.startRun
  change Mach.touch1 _ _ m0 _
  split
  · exact touch_refl _ _ _
  · extract_lets -underBinder -merge -useContext +onlyGivenNames l0
    try clear_value l0
    refine touch_app ?_ (Mach.setFld_touch (P := 0x100) _ _ _ _ rfl) rfl rfl
    refine touch_app ?_ (touch_set_adm _ _) rfl rfl
    exact touch_refl _ _ _

theorem Mach.showResult_touch (m0 : Mach) (a1 : AdmRun) (a2 : Option AdmFail) : m0.touch 0x8 0x100 (Mach.showResult m0 a1 a2) := by
  unfold Mach.showResult
  extract_lets -underBinder -merge -useContext +onlyGivenNames l0
  try clear_value l0
  extract_lets -underBinder -merge -useContext +onlyGivenNames t0
  have ht0 : m0.touch 0x8 0x100 t0 := by
    unfold t0
    refine touch_app ?_ (Mach.setFld_touch (P := 0x100) _ _ _ _ rfl) rfl rfl
    refine touch_app ?_ (Mach.setFld_touch (P := 0x100) _ _ _ _ rfl) rfl rfl
    exact touch_refl _ _ _
  try clear_value t0
  extract_lets -underBinder -merge -useContext +onlyGivenNames t1
  have ht1 : m0.touch 0x8 0x100 t1 := by
    unfold t1
    refine touch_app ?_ (Mach.setFlag_touch (P := 0x100) _ _ _ _ rfl) rfl rfl
    refine touch_app ?_ (Mach.setFld_touch (P := 0x100) _ _ _ _ rfl) rfl rfl
    exact ht0
  try clear_value t1
  extract_lets -underBinder -merge -useContext +onlyGivenNames t2
  have ht2 : m0.touch 0x8 0x100 t2 := by
    unfold t2
    refine touch_app ?_ (Mach.setFld_touch (P := 0x100) _ _ _ _ rfl) rfl rfl
    exact ht1
  try clear_value t2
  extract_lets -underBinder -merge -useContext +onlyGivenNames t3
  have ht3 : m0.touch 0x8 0x100 t3 := by
    unfold t3
    refine touch_app ?_ (Mach.setFld_touch (P := 0x100) _ _ _ _ rfl) rfl rfl
    refine touch_app ?_ (Mach.setFld_touch (P := 0x100) _ _ _ _ rfl) rfl rfl
    exact ht2
  try clear_value t3
  refine touch_app ?_ (Mach.count_touch (P := 0x100) _ _ _ _ rfl) rfl rfl
  refine touch_app ?_ (Mach.setFld_touch (P := 0x100) _ _ _ _ rfl) rfl rfl
  exact ht3

theorem Mach.discardSet_touch (m0 : Mach) (a1 : List ℕ) : m0.touch 0x3208 0xffffffffffffffffffffffffffffffffffffffffffffffffffffffffffffffff (Mach.discardSet m0 a1) := by
  unfold Mach.discardSet
  extract_lets -underBinder -merge -useContext +onlyGivenNames t0
  have ht0 : m0.touch 0x3208 0xffffffffffffffffffffffffffffffffffffffffffffffffffffffffffffffff t0 := by
    unfold t0
    refine touch_each ?_ (fun y x hx => ?_)
    · exact touch_refl _ _ _
    · refine touch_app ?_ (Mach.reject_any ..) rfl rfl
      refine touch_app ?_ (Mach.setFlag_any ..) rfl rfl
      refine touch_app ?_ (Mach.revertPage_touch ..) rfl rfl
      exact hx
  try clear_value t0
  refine touch_app ?_ (Mach.showSizes_touch ..) rfl rfl
  exact ht0

theorem Mach.settleSet_touch (m0 : Mach) (a1 : List ℕ) (a2 : Option AdmFail) : m0.touch 0x203208 0xffffffffffffffffffffffffffffffffffffffffffffffffffffffffffffffff (Mach.settleSet m0 a1 a2) := by
  unfold Mach.settleSet
  split
  · refine touch_app ?_ (Mach.event_touch (P := 0xffffffffffffffffffffffffffffffffffffffffffffffffffffffffffffffff) _ _ _ _ rfl (by decide)) rfl rfl
    refine touch_app ?_ (touch_set_adm _ _) rfl rfl
    exact touch_refl _ _ _
  · extract_lets -underBinder -merge -useContext +onlyGivenNames l0
    try clear_value l0
    extract_lets -underBinder -merge -useContext +onlyGivenNames t0
    have ht0 : m0.touch 0x203208 0xffffffffffffffffffffffffffffffffffffffffffffffffffffffffffffffff t0 := by
      unfold t0
      refine touch_app ?_ (Mach.event_touch (P := 0xffffffffffffffffffffffffffffffffffffffffffffffffffffffffffffffff) _ _ _ _ rfl (by decide)) rfl rfl
      refine touch_app ?_ (Mach.discardSet_touch ..) rfl rfl
      refine touch_app ?_ (Mach.count_touch (P := 0xffffffffffffffffffffffffffffffffffffffffffffffffffffffffffffffff) _ _ _ _ rfl) rfl rfl
      exact touch_refl _ _ _
    try clear_value t0
    refine touch_ite (fun _ => ?_) (fun _ => ?_)
    · refine touch_app ?_ (Mach.event_touch (P := 0xffffffffffffffffffffffffffffffffffffffffffffffffffffffffffffffff) _ _ _ _ rfl (by decide)) rfl rfl
      exact ht0
    · exact ht0

theorem Mach.answerRun_touch (m0 : Mach) (a1 : AdmRun) (a2 : Gen) (a3 : Option AdmFail) : m0.touch 0x51f9cfb0a 0xffffffffffffffffffffffffffffffffffffffffffffffffffffffffffffffff (Mach.answerRun m0 a1 a2 a3) := by
  unfold Mach.answerRun
  extract_lets -underBinder -merge -useContext +onlyGivenNames l0
  try clear_value l0
  split
  · exact touch_refl _ _ _
  · refine touch_app ?_ (Mach.finishTag_touch ..) rfl rfl
    exact touch_refl _ _ _
  · extract_lets -underBinder -merge -useContext +onlyGivenNames t0
    have ht0 : m0.touch 0x51f9cfb0a 0xffffffffffffffffffffffffffffffffffffffffffffffffffffffffffffffff t0 := by
      unfold t0
      refine touch_app ?_ (Mach.setFld_touch (P := 0xffffffffffffffffffffffffffffffffffffffffffffffffffffffffffffffff) _ _ _ _ rfl) rfl rfl
      exact touch_refl _ _ _
    try clear_value t0
    refine touch_ite (fun _ => ?_) (fun _ => ?_)
    · exact ht0
    · extract_lets -underBinder -merge -useContext +onlyGivenNames t1
      have ht1 : m0.touch 0x51f9cfb0a 0xffffffffffffffffffffffffffffffffffffffffffffffffffffffffffffffff t1 := by
        unfold t1
        refine touch_ite (fun _ => ?_) (fun _ => ?_)
        · refine touch_app ?_ (Mach.revertPage_touch ..) rfl rfl
          exact ht0
        · exact ht0
      try clear_value t1
      extract_lets -underBinder -merge -useContext +onlyGivenNames t2
      have ht2 : m0.touch 0x51f9cfb0a 0xffffffffffffffffffffffffffffffffffffffffffffffffffffffffffffffff t2 := by
        unfold t2
        refine touch_app ?_ (Mach.event_touch (P := 0xffffffffffffffffffffffffffffffffffffffffffffffffffffffffffffffff) _ _ _ _ rfl (by decide)) rfl rfl
        exact ht1
      try clear_value t2
      refine touch_ite (fun _ => ?_) (fun _ => ?_)
      · refine touch_app ?_ (Mach.stopStart_touch ..) rfl rfl
        exact ht2
      · exact ht2

theorem Mach.admDone_touch (m0 : Mach) : m0.touch 0x51fbcfb0a 0xffffffffffffffffffffffffffffffffffffffffffffffffffffffffffffffff (Mach.admDone m0) := by
  unfold Mach.admDone
  split
  · exact touch_refl _ _ _
  · extract_lets -underBinder -merge -useContext +onlyGivenNames l0
    try clear_value l0
    extract_lets -underBinder -merge -useContext +onlyGivenNames l1
    try clear_value l1
    extract_lets -underBinder -merge -useContext +onlyGivenNames l2
    try clear_value l2
    extract_lets -underBinder -merge -useContext +onlyGivenNames t0
    try clear_value t0
    extract_lets -underBinder -merge -useContext +onlyGivenNames t1
    have ht1 : m0.touch 0x51fbcfb0a 0xffffffffffffffffffffffffffffffffffffffffffffffffffffffffffffffff t1 := by
      unfold t1
      refine touch_app ?_ (touch_set_adm _ _) rfl rfl
      exact touch_refl _ _ _
    try clear_value t1
    extract_lets -underBinder -merge -useContext +onlyGivenNames t2
    have ht2 : m0.touch 0x51fbcfb0a 0xffffffffffffffffffffffffffffffffffffffffffffffffffffffffffffffff t2 := by
      unfold t2
      refine touch_app ?_ (Mach.showResult_touch ..) rfl rfl
      exact ht1
    try clear_value t2
    extract_lets -underBinder -merge -useContext +onlyGivenNames t3
    have ht3 : m0.touch 0x51fbcfb0a 0xffffffffffffffffffffffffffffffffffffffffffffffffffffffffffffffff t3 := by
      unfold t3
      refine touch_ite (fun _ => ?_) (fun _ => ?_)
      · refine touch_app ?_ (Mach.event_touch (P := 0xffffffffffffffffffffffffffffffffffffffffffffffffffffffffffffffff) _ _ _ _ rfl (by decide)) rfl rfl
        exact ht2
      · refine touch_app ?_ (Mach.settleSet_touch ..) rfl rfl
        exact ht2
    try clear_value t3
    refine touch_app ?_ (Mach.answerRun_touch ..) rfl rfl
    exact ht3

theorem Mach.applySet_touch (m0 : Mach) (a1 : List ℕ) : m0.touch 0x5fffefd1a 0xffffffffffffffffffffffffffffffffffffffffffffffffffffffffffffffff (Mach.applySet m0 a1) := by
  have key : ∀ x, m0.touch 0x5fffefd1a 0xffffffffffffffffffffffffffffffffffffffffffffffffffffffffffffffff x →
      m0.touch 0x5fffefd1a 0xffffffffffffffffffffffffffffffffffffffffffffffffffffffffffffffff
        (if x.fld RST_STS_phase = 4 then x else x.stepSeven) := fun x hx => by
    split
    · exact hx
    · exact touch_app hx (Mach.stepSeven_touch ..) rfl rfl
  unfold Mach.applySet
  refine key _ ?_
  refine touch_app ?_ (Mach.showSet_touch ..) rfl rfl
  refine touch_app ?_ (Mach.takeEffect_touch ..) rfl rfl
  refine touch_app ?_ (Mach.failCopy_touch ..) rfl rfl
  refine touch_each ?_ (fun y x hx => ?_)
  · exact touch_mono (touch_set_adm _ _) rfl rfl
  · exact touch_app hx (Mach.setFlag_any ..) rfl rfl

theorem Mach.shareFrame_touch (m0 : Mach) : m0.touch 0x5fffefd1a 0xffffffffffffffffffffffffffffffffffffffffffffffffffffffffffffffff (Mach.shareFrame m0) := by
  unfold Mach.shareFrame
  refine touch_ite (fun _ => ?_) (fun _ => ?_)
  · exact touch_refl _ _ _
  · extract_lets -underBinder -merge -useContext +onlyGivenNames t0
    have ht0 : m0.touch 0x5fffefd1a 0xffffffffffffffffffffffffffffffffffffffffffffffffffffffffffffffff t0 := by
      unfold t0
      refine touch_app ?_ (Mach.onDsp_touch ..) rfl rfl
      refine touch_app ?_ (Mach.runJobs_touch ..) rfl rfl
      exact touch_refl _ _ _
    try clear_value t0
    split
    · refine touch_app ?_ (Mach.applySet_touch ..) rfl rfl
      exact ht0
    · exact ht0

end Sys2Proof.Machine
end

