-- ==== Sys2Proof/Laws/Frame/Access.lean ====
section
/-! SUPPORT. The frame of each operation of Access.lean: the parts of the module it can change. -/

namespace Sys2Proof.Machine

theorem Mach.readAccess_touch (m0 : Mach) (a1 : Src) (a2 : ℕ) (a3 : ℕ) : m0.touch 0x43048 0x40 (Mach.readAccess m0 a1 a2 a3).2 := by
  unfold Mach.readAccess
  change Mach.touch2 _ _ m0 _
  extract_lets -underBinder -merge -useContext +onlyGivenNames t0
  have ht0 : m0.touch 0x43048 0x40 t0 := by
    unfold t0
    refine touch_ite (fun _ => ?_) (fun _ => ?_)
    · refine touch_app ?_ (Mach.settleStamps_touch ..) rfl rfl
      exact touch_refl _ _ _
    · exact touch_refl _ _ _
  try clear_value t0
  extract_lets -underBinder -merge -useContext +onlyGivenNames l0
  try clear_value l0
  split
  · refine touch_app ?_ (touch_set_capt _ _) rfl rfl
    exact ht0
  · split
    · refine touch_app ?_ (Mach.popStamp_touch ..) rfl rfl
      exact ht0
    · split
      · exact ht0
      · split
        · refine touch_app ?_ (touch_set_capt _ _) rfl rfl
          exact ht0
        · split
          · refine touch_app ?_ (touch_set_capt _ _) rfl rfl
            exact ht0
          · exact ht0

theorem Mach.resetBlock_touch (m0 : Mach) (a1 : ℕ) : m0.touch 0x1773ff10a 0x50ffff00036008 (Mach.resetBlock m0 a1) := by
  unfold Mach.resetBlock
  split
  · refine touch_app ?_ (touch_set_pace _ _) rfl rfl
    exact touch_refl _ _ _
  · refine touch_app ?_ (Mach.debugLock_touch ..) rfl rfl
    exact touch_refl _ _ _
  · extract_lets -underBinder -merge -useContext +onlyGivenNames t0
    have ht0 : m0.touch 0x1773ff10a 0x50ffff00036008 t0 := by
      unfold t0
      refine touch_app ?_ (Mach.ppsLow_touch ..) rfl rfl
      exact touch_refl _ _ _
    try clear_value t0
    refine touch_app ?_ (touch_set_time _ _) rfl rfl
    exact ht0
  · refine touch_app ?_ (touch_set_ptp _ _) rfl rfl
    exact touch_refl _ _ _
  · refine touch_app ?_ (touch_set_adm _ _) rfl rfl
    exact touch_refl _ _ _
  · refine touch_app ?_ (touch_set_svi _ _) rfl rfl
    exact touch_refl _ _ _
  · refine touch_app ?_ (touch_set_msr _ _) rfl rfl
    exact touch_refl _ _ _
  · refine touch_each ?_ (fun y x hx => ?_)
    · exact touch_refl _ _ _
    · refine touch_app ?_ (Mach.acqRestart_touch ..) rfl rfl
      exact hx
  · refine touch_each ?_ (fun y x hx => ?_)
    · exact touch_refl _ _ _
    · refine touch_app ?_ (Mach.ptStart_touch ..) rfl rfl
      exact hx
  · refine touch_app ?_ (Mach.showMem_touch ..) rfl rfl
    refine touch_when ?_ (fun x hx => ?_)
    · refine touch_app ?_ (touch_set_swc _ _) rfl rfl
      exact touch_refl _ _ _
    · refine touch_app ?_ (Mach.startSelfTest_touch ..) rfl rfl
      exact hx
  · refine touch_app ?_ (Mach.showLearnt_touch ..) rfl rfl
    refine touch_app ?_ (touch_set_swc _ _) rfl rfl
    exact touch_refl _ _ _
  · refine touch_app ?_ (touch_set_twn _ _) rfl rfl
    exact touch_refl _ _ _
  · refine touch_each ?_ (fun y x hx => ?_)
    · exact touch_refl _ _ _
    · refine touch_app ?_ (Mach.onPart_touch ..) rfl rfl
      refine touch_app ?_ (Mach.setFld_touch (P := 0x50ffff00036008) _ _ _ _ rfl) rfl rfl
      exact hx
  · refine touch_app ?_ (Mach.newSession_touch ..) rfl rfl
    refine touch_app ?_ (touch_set_cmd _ _) rfl rfl
    exact touch_refl _ _ _
  · refine touch_app ?_ (touch_set_cdc _ _) rfl rfl
    exact touch_refl _ _ _
  · refine touch_ite (fun _ => ?_) (fun _ => ?_)
    · extract_lets -underBinder -merge -useContext +onlyGivenNames l0
      try clear_value l0
      extract_lets -underBinder -merge -useContext +onlyGivenNames t0
      have ht0 : m0.touch 0x1773ff10a 0x50ffff00036008 t0 := by
        unfold t0
        refine touch_app ?_ (Mach.onPort_touch ..) rfl rfl
        refine touch_app ?_ (Mach.macEnable_touch ..) rfl rfl
        exact touch_refl _ _ _
      try clear_value t0
      refine touch_when ?_ (fun x hx => ?_)
      · exact ht0
      · refine touch_app ?_ (Mach.macEnable_touch ..) rfl rfl
        exact hx
    · exact touch_refl _ _ _

theorem Mach.softReset_touch (m0 : Mach) (a1 : ℕ) :
    m0.touch 0x1773ff10a 0xffffffffffffffffffffffffffffffffffffffffffffffffffffffffffffffff (Mach.softReset m0 a1) := by
  have h0 : ∀ (r : KMap Word) (ts : List (Timer × Nat)),
      m0.touch 0x1773ff10a 0xffffffffffffffffffffffffffffffffffffffffffffffffffffffffffffffff { m0 with regs := r, timers := ts } :=
    fun r ts => touch_app (touch_mono (touch_regs_any m0 r) rfl rfl) (touch_set_timers { m0 with regs := r } ts) rfl rfl
  unfold Mach.softReset
  refine touch_app ?_ (Mach.arm_touch ..) rfl rfl
  refine touch_app ?_ (Mach.setFlag_any ..) rfl rfl
  refine touch_app ?_ (Mach.setFld_any ..) rfl rfl
  refine touch_app ?_ (Mach.resetBlock_touch ..) rfl rfl
  refine touch_when ?_ (fun x hx => ?_)
  · exact h0 _ _
  · exact touch_app hx (Mach.setFlag_any ..) rfl rfl

theorem Mach.softResetDone_touch (m0 : Mach) (a1 : ℕ) : m0.touch 0x108 0xffffffffffffffffffffffffffffffffffffffffffffffffffffffffffffffff (Mach.softResetDone m0 a1) := by
  unfold Mach.softResetDone
  refine touch_onExpiry ?_ rfl (fun x hx => ?_)
  · exact touch_refl _ _ _
  · refine touch_app ?_ (Mach.setFlag_any ..) rfl rfl
    exact hx

theorem Mach.enableHook_touch (m0 : Mach) (a1 : ℕ) (a2 : Bool) : m0.touch 0x14003108 0xffff00010000 (Mach.enableHook m0 a1 a2) := by
  unfold Mach.enableHook
  refine touch_ite (fun _ => ?_) (fun _ => ?_)
  · refine touch_app ?_ (Mach.macEnable_touch ..) rfl rfl
    exact touch_refl _ _ _
  · refine touch_ite (fun _ => ?_) (fun _ => ?_)
    · refine touch_app ?_ (Mach.startSelfTest_touch ..) rfl rfl
      exact touch_refl _ _ _
    · exact touch_refl _ _ _

theorem Mach.writeCtrl_touch (m0 : Mach) (a1 : Src) (a2 : ℕ) (a3 : Word) : m0.touch 0x1773ff18a 0xffffffffffffffffffffffffffffffffffffffffffffffffffffffffffffffff (Mach.writeCtrl m0 a1 a2 a3) := by
  unfold Mach.writeCtrl
  extract_lets -underBinder -merge -useContext +onlyGivenNames l0
  try clear_value l0
  extract_lets -underBinder -merge -useContext +onlyGivenNames l1
  try clear_value l1
  extract_lets -underBinder -merge -useContext +onlyGivenNames l2
  try clear_value l2
  extract_lets -underBinder -merge -useContext +onlyGivenNames l3
  try clear_value l3
  extract_lets -underBinder -merge -useContext +onlyGivenNames t0
  have ht0 : m0.touch 0x1773ff18a 0xffffffffffffffffffffffffffffffffffffffffffffffffffffffffffffffff t0 := by
    unfold t0
    refine touch_app ?_ (Mach.setFlag_any ..) rfl rfl
    refine touch_app ?_ (Mach.setFlag_any ..) rfl rfl
    exact touch_refl _ _ _
  try clear_value t0
  extract_lets -underBinder -merge -useContext +onlyGivenNames t1
  have ht1 : m0.touch 0x1773ff18a 0xffffffffffffffffffffffffffffffffffffffffffffffffffffffffffffffff t1 := by
    unfold t1
    refine touch_ite (fun _ => ?_) (fun _ => ?_)
    · exact ht0
    · refine touch_app ?_ (Mach.enableHook_touch ..) rfl rfl
      exact ht0
  try clear_value t1
  extract_lets -underBinder -merge -useContext +onlyGivenNames l4
  try clear_value l4
  extract_lets -underBinder -merge -useContext +onlyGivenNames t2
  have ht2 : m0.touch 0x1773ff18a 0xffffffffffffffffffffffffffffffffffffffffffffffffffffffffffffffff t2 := by
    unfold t2
    refine touch_ite (fun _ => ?_) (fun _ => ?_)
    · refine touch_ite (fun _ => ?_) (fun _ => ?_)
      · exact ht1
      · refine touch_app ?_ (touch_set_frozen _ _) rfl rfl
        exact ht1
    · refine touch_app ?_ (touch_set_frozen _ _) rfl rfl
      exact ht1
  try clear_value t2
  extract_lets -underBinder -merge -useContext +onlyGivenNames t3
  have ht3 : m0.touch 0x1773ff18a 0xffffffffffffffffffffffffffffffffffffffffffffffffffffffffffffffff t3 := by
    unfold t3
    refine touch_when ?_ (fun x hx => ?_)
    · exact ht2
    · refine touch_app ?_ (Mach.softReset_touch ..) rfl rfl
      exact hx
  try clear_value t3
  refine touch_app ?_ (Mach.auditWrite_touch ..) rfl rfl
  exact ht3

theorem Mach.writeHeader_touch (m0 : Mach) (a1 : Src) (a2 : ℕ) (a3 : ℕ) (a4 : Word) : m0.touch 0x1773ff18a 0xffffffffffffffffffffffffffffffffffffffffffffffffffffffffffffffff (Mach.writeHeader m0 a1 a2 a3 a4) := by
  unfold Mach.writeHeader
  split
  · refine touch_app ?_ (Mach.writeCtrl_touch ..) rfl rfl
    exact touch_refl _ _ _
  · refine touch_app ?_ (Mach.auditWrite_touch ..) rfl rfl
    refine touch_app ?_ (Mach.setReg_any ..) rfl rfl
    exact touch_refl _ _ _
  · refine touch_app ?_ (Mach.auditWrite_touch ..) rfl rfl
    refine touch_app ?_ (Mach.setReg_any ..) rfl rfl
    exact touch_refl _ _ _
  · refine touch_app ?_ (Mach.auditWrite_touch ..) rfl rfl
    refine touch_app ?_ (Mach.setReg_any ..) rfl rfl
    exact touch_refl _ _ _
  · refine touch_app ?_ (Mach.auditWrite_touch ..) rfl rfl
    refine touch_when ?_ (fun x hx => ?_)
    · exact touch_refl _ _ _
    · refine touch_app ?_ (Mach.setReg_any ..) rfl rfl
      refine touch_app ?_ (Mach.setReg_any ..) rfl rfl
      exact hx
  · refine touch_app ?_ (Mach.auditWrite_touch ..) rfl rfl
    exact touch_refl _ _ _

theorem Mach.storeWord_touch (m0 : Mach) (a1 : ℕ) (a2 : ℕ) (a3 : ℕ) (a4 : Word) : m0.touch 0x8 0xffffffffffffffffffffffffffffffffffffffffffffffffffffffffffffffff (Mach.storeWord m0 a1 a2 a3 a4) := by
  unfold Mach.storeWord
  split
  · exact touch_refl _ _ _
  · extract_lets -underBinder -merge -useContext +onlyGivenNames l0
    try clear_value l0
    extract_lets -underBinder -merge -useContext +onlyGivenNames l1
    try clear_value l1
    extract_lets -underBinder -merge -useContext +onlyGivenNames l2
    try clear_value l2
    refine touch_app ?_ (Mach.setReg_any ..) rfl rfl
    exact touch_refl _ _ _

theorem Mach.vrtCommand_touch (m0 : Mach) (a1 : ℕ) : m0.touch 0x3fc4b918 0x3effff00071208 (Mach.vrtCommand m0 a1) := by
  unfold Mach.vrtCommand
  extract_lets -underBinder -merge -useContext +onlyGivenNames l0
  try clear_value l0
  extract_lets -underBinder -merge -useContext +onlyGivenNames t0
  have ht0 : m0.touch 0x3fc4b918 0x3effff00071208 t0 := by
    unfold t0
    refine touch_ite (fun _ => ?_) (fun _ => ?_)
    · refine touch_app ?_ (Mach.partReset_touch ..) rfl rfl
      exact touch_refl _ _ _
    · refine touch_ite (fun _ => ?_) (fun _ => ?_)
      · refine touch_app ?_ (Mach.partStart_touch ..) rfl rfl
        exact touch_refl _ _ _
      · exact touch_refl _ _ _
  try clear_value t0
  refine touch_ite (fun _ => ?_) (fun _ => ?_)
  · refine touch_app ?_ (Mach.slotReset_touch ..) rfl rfl
    exact ht0
  · exact ht0

theorem Mach.migCommand_touch (m0 : Mach) (a1 : ℕ) : m0.touch 0x2c0b918 0x3c000000001208 (Mach.migCommand m0 a1) := by
  unfold Mach.migCommand
  extract_lets -underBinder -merge -useContext +onlyGivenNames t0
  have ht0 : m0.touch 0x2c0b918 0x3c000000001208 t0 := by
    unfold t0
    refine touch_ite (fun _ => ?_) (fun _ => ?_)
    · refine touch_app ?_ (Mach.freezeCmd_touch ..) rfl rfl
      exact touch_refl _ _ _
    · exact touch_refl _ _ _
  try clear_value t0
  refine touch_ite (fun _ => ?_) (fun _ => ?_)
  · refine touch_app ?_ (Mach.endFreeze_touch ..) rfl rfl
    exact ht0
  · exact ht0

theorem Mach.admCtrl_touch (m0 : Mach) (a1 : Src) (a2 : ℕ) : m0.touch 0x200008 0x100 (Mach.admCtrl m0 a1 a2) := by
  unfold Mach.admCtrl
  refine touch_ite (fun _ => ?_) (fun _ => ?_)
  · refine touch_app ?_ (Mach.startRun_touch ..) rfl rfl
    exact touch_refl _ _ _
  · refine touch_ite (fun _ => ?_) (fun _ => ?_)
    · refine touch_app ?_ (Mach.startRun_touch ..) rfl rfl
      exact touch_refl _ _ _
    · exact touch_refl _ _ _

theorem Mach.rimOpen_touch (m0 : Mach) : m0.touch 0x3008 0x8 (Mach.rimOpen m0) := by
  unfold Mach.rimOpen
  refine touch_ite (fun _ => ?_) (fun _ => ?_)
  · exact touch_refl _ _ _
  · refine touch_app ?_ (Mach.eventAlways_touch (P := 0x8) _ _ _ _ rfl (by decide)) rfl rfl
    refine touch_app ?_ (Mach.setFld_touch (P := 0x8) _ _ _ _ rfl) rfl rfl
    refine touch_app ?_ (Mach.setFld_touch (P := 0x8) _ _ _ _ rfl) rfl rfl
    exact touch_refl _ _ _

theorem Mach.svAdvance_touch (m0 : Mach) : m0.touch 0x8 0x8 (Mach.svAdvance m0) := by
  unfold Mach.svAdvance
  refine touch_app ?_ (Mach.raise_touch (P := 0x8) _ _ _ _ rfl) rfl rfl
  exact touch_refl _ _ _

theorem Mach.act_touch (m0 : Mach) (a1 : Src) (a2 : ℕ) (a3 : ℕ) (a4 : ℕ) (a5 : ℕ) : m0.touch 0x27ffcb918 0x3effff0007db8c (Mach.act m0 a1 a2 a3 a4 a5) := by
  unfold Mach.act
  split
  · refine touch_ite (fun _ => ?_) (fun _ => ?_)
    · refine touch_app ?_ (Mach.armWatchdog_touch ..) rfl rfl
      exact touch_refl _ _ _
    · exact touch_refl _ _ _
  · refine touch_ite (fun _ => ?_) (fun _ => ?_)
    · refine touch_app ?_ (Mach.clearPace_touch ..) rfl rfl
      exact touch_refl _ _ _
    · exact touch_refl _ _ _
  · refine touch_app ?_ (Mach.rimOpen_touch ..) rfl rfl
    exact touch_refl _ _ _
  · refine touch_ite (fun _ => ?_) (fun _ => ?_)
    · refine touch_app ?_ (Mach.svAdvance_touch ..) rfl rfl
      exact touch_refl _ _ _
    · exact touch_refl _ _ _
  · refine touch_app ?_ (Mach.coilCommand_touch ..) rfl rfl
    exact touch_refl _ _ _
  · refine touch_ite (fun _ => ?_) (fun _ => ?_)
    · refine touch_app ?_ (Mach.clearFifoMax_touch ..) rfl rfl
      exact touch_refl _ _ _
    · exact touch_refl _ _ _
  · refine touch_app ?_ (Mach.admCtrl_touch ..) rfl rfl
    exact touch_refl _ _ _
  · refine touch_app ?_ (Mach.slotCommand_touch ..) rfl rfl
    exact touch_refl _ _ _
  · refine touch_ite (fun _ => ?_) (fun _ => ?_)
    · refine touch_app ?_ (Mach.msrClear_touch ..) rfl rfl
      exact touch_refl _ _ _
    · exact touch_refl _ _ _
  · refine touch_app ?_ (Mach.acqCommand_touch ..) rfl rfl
    exact touch_refl _ _ _
  · refine touch_app ?_ (Mach.nrgCommand_touch ..) rfl rfl
    exact touch_refl _ _ _
  · refine touch_ite (fun _ => ?_) (fun _ => ?_)
    · refine touch_app ?_ (Mach.plsLatchAll_touch ..) rfl rfl
      exact touch_refl _ _ _
    · exact touch_refl _ _ _
  · refine touch_app ?_ (Mach.swcCommand_touch ..) rfl rfl
    exact touch_refl _ _ _
  · refine touch_ite (fun _ => ?_) (fun _ => ?_)
    · refine touch_app ?_ (Mach.setFld_touch (P := 0x3effff0007db8c) _ _ _ _ rfl) rfl rfl
      exact touch_refl _ _ _
    · exact touch_refl _ _ _
  · refine touch_app ?_ (Mach.twnCommand_touch ..) rfl rfl
    exact touch_refl _ _ _
  · refine touch_app ?_ (Mach.vrtCommand_touch ..) rfl rfl
    exact touch_refl _ _ _
  · refine touch_app ?_ (Mach.migCommand_touch ..) rfl rfl
    exact touch_refl _ _ _
  · refine touch_app ?_ (Mach.mgrRing_touch ..) rfl rfl
    exact touch_refl _ _ _
  · refine touch_ite (fun _ => ?_) (fun _ => ?_)
    · refine touch_app ?_ (Mach.rearm_touch ..) rfl rfl
      exact touch_refl _ _ _
    · exact touch_refl _ _ _
  · exact touch_refl _ _ _

theorem Mach.commit_touch (m0 : Mach) (a1 : Src) (a2 : ℕ) : m0.touch 0x1fffebd1a 0xffffffffffffffffffffffffffffffffffffffffffffffffffffffffffffffff (Mach.commit m0 a1 a2) := by
  unfold Mach.commit
  extract_lets -underBinder -merge -useContext +onlyGivenNames t0
  have ht0 : m0.touch 0x1fffebd1a 0xffffffffffffffffffffffffffffffffffffffffffffffffffffffffffffffff t0 := by
    unfold t0
    refine touch_app ?_ (Mach.setFlag_any ..) rfl rfl
    exact touch_refl _ _ _
  try clear_value t0
  extract_lets -underBinder -merge -useContext +onlyGivenNames t1
  have ht1 : m0.touch 0x1fffebd1a 0xffffffffffffffffffffffffffffffffffffffffffffffffffffffffffffffff t1 := by
    unfold t1
    refine touch_app ?_ (Mach.setFlag_any ..) rfl rfl
    exact ht0
  try clear_value t1
  extract_lets -underBinder -merge -useContext +onlyGivenNames t2
  have ht2 : m0.touch 0x1fffebd1a 0xffffffffffffffffffffffffffffffffffffffffffffffffffffffffffffffff t2 := by
    unfold t2
    refine touch_ite (fun _ => ?_) (fun _ => ?_)
    · exact touch_refl _ _ _
    · refine touch_ite (fun _ => ?_) (fun _ => ?_)
      · refine touch_ite (fun _ => ?_) (fun _ => ?_)
        · refine touch_app ?_ (Mach.showSizes_touch ..) rfl rfl
          exact ht1
        · exact ht1
      · refine touch_app ?_ (Mach.takeEffect_touch ..) rfl rfl
        exact ht0
  try clear_value t2
  refine touch_app ?_ (Mach.audit_touch ..) rfl rfl
  exact ht2

theorem Mach.unlock_touch (m0 : Mach) (a1 : Src) (a2 : ℕ) : m0.touch 0x3008 0xffffffffffffffffffffffffffffffffffffffffffffffffffffffffffffffff (Mach.unlock m0 a1 a2) := by
  unfold Mach.unlock
  refine touch_app ?_ (Mach.audit_touch ..) rfl rfl
  refine touch_app ?_ (Mach.setFlag_any ..) rfl rfl
  refine touch_app ?_ (Mach.setFlag_any ..) rfl rfl
  exact touch_refl _ _ _

theorem Mach.writeLock_touch (m0 : Mach) (a1 : Src) (a2 : ℕ) (a3 : Word) : m0.touch 0x1fffebd1a 0xffffffffffffffffffffffffffffffffffffffffffffffffffffffffffffffff (Mach.writeLock m0 a1 a2 a3).1 := by
  unfold Mach.writeLock
  change Mach.touch1 _ _ m0 _
  split
  · refine touch_app ?_ (Mach.reject_any ..) rfl rfl
    exact touch_refl _ _ _
  · refine touch_ite (fun _ => ?_) (fun _ => ?_)
    · refine touch_app ?_ (Mach.commit_touch ..) rfl rfl
      exact touch_refl _ _ _
    · refine touch_app ?_ (Mach.unlock_touch ..) rfl rfl
      exact touch_refl _ _ _

theorem Mach.dropLows_touch (m0 : Mach) (a1 : ℕ) (a2 : ℕ) (a3 : List ℕ) : m0.touch 0x20 0x0 (Mach.dropLows m0 a1 a2 a3) := by
  unfold Mach.dropLows
  refine touch_app ?_ (touch_set_low _ _) rfl rfl
  exact touch_refl _ _ _

theorem Mach.writeBlockReg_touch (m0 : Mach) (a1 : Src) (a2 : ℕ) (a3 : ℕ) (a4 : Word) (a5 : RegDef) : m0.touch 0x27ffcb938 0xffffffffffffffffffffffffffffffffffffffffffffffffffffffffffffffff (Mach.writeBlockReg m0 a1 a2 a3 a4 a5) := by
  unfold Mach.writeBlockReg
  extract_lets -underBinder -merge -useContext +onlyGivenNames l0
  try clear_value l0
  refine touch_ite (fun _ => ?_) (fun _ => ?_)
  · refine touch_app ?_ (touch_set_low _ _) rfl rfl
    exact touch_refl _ _ _
  · extract_lets -underBinder -merge -useContext +onlyGivenNames l1
    try clear_value l1
    extract_lets -underBinder -merge -useContext +onlyGivenNames l2
    try clear_value l2
    extract_lets -underBinder -merge -useContext +onlyGivenNames t0
    have ht0 : m0.touch 0x27ffcb938 0xffffffffffffffffffffffffffffffffffffffffffffffffffffffffffffffff t0 := by
      unfold t0
      refine touch_each ?_ (fun y x hx => ?_)
      · exact touch_refl _ _ _
      · refine touch_app ?_ (Mach.storeWord_touch ..) rfl rfl
        exact hx
    try clear_value t0
    extract_lets -underBinder -merge -useContext +onlyGivenNames t1
    have ht1 : m0.touch 0x27ffcb938 0xffffffffffffffffffffffffffffffffffffffffffffffffffffffffffffffff t1 := by
      unfold t1
      refine touch_app ?_ (Mach.act_touch ..) rfl rfl
      refine touch_app ?_ (Mach.dropLows_touch ..) rfl rfl
      refine touch_app ?_ (Mach.storeWord_touch ..) rfl rfl
      exact ht0
    try clear_value t1
    refine touch_ite (fun _ => ?_) (fun _ => ?_)
    · exact ht1
    · refine touch_app ?_ (Mach.auditWrite_touch ..) rfl rfl
      refine touch_each ?_ (fun y x hx => ?_)
      · exact ht1
      · refine touch_app ?_ (Mach.auditWrite_touch ..) rfl rfl
        exact hx

theorem Mach.rejectWord_touch (m0 : Mach) (a1 : Src) (a2 : ℕ) (a3 : ℕ) (a4 : Word) (a5 : ℕ) : m0.touch 0x3028 0xffffffffffffffffffffffffffffffffffffffffffffffffffffffffffffffff (Mach.rejectWord m0 a1 a2 a3 a4 a5) := by
  unfold Mach.rejectWord
  extract_lets -underBinder -merge -useContext +onlyGivenNames l0
  try clear_value l0
  refine touch_app ?_ (Mach.reject_any ..) rfl rfl
  refine touch_app ?_ (Mach.dropLows_touch ..) rfl rfl
  exact touch_refl _ _ _

theorem Mach.writeWord_touch (m0 : Mach) (a1 : Src) (a2 : ℕ) (a3 : ℕ) (a4 : Word) : m0.touch 0x3fffffdba 0xffffffffffffffffffffffffffffffffffffffffffffffffffffffffffffffff (Mach.writeWord m0 a1 a2 a3 a4).1 := by
  unfold Mach.writeWord
  change Mach.touch1 _ _ m0 _
  split
  · refine touch_app ?_ (Mach.event_touch (P := 0xffffffffffffffffffffffffffffffffffffffffffffffffffffffffffffffff) _ _ _ _ rfl (by decide)) rfl rfl
    refine touch_app ?_ (Mach.reject_touch (P := 0xffffffffffffffffffffffffffffffffffffffffffffffffffffffffffffffff) _ _ _ _ _ _ rfl (by decide)) rfl rfl
    exact touch_refl _ _ _
  · split
    · exact touch_refl _ _ _
    · split
      · refine touch_app ?_ (Mach.writeLock_touch ..) rfl rfl
        exact touch_refl _ _ _
      · split
        · refine touch_app ?_ (Mach.rejectWord_touch ..) rfl rfl
          exact touch_refl _ _ _
        · split
          · refine touch_app ?_ (Mach.writeHeader_touch ..) rfl rfl
            exact touch_refl _ _ _
          · split
            · refine touch_app ?_ (Mach.auditWrite_touch ..) rfl rfl
              exact touch_refl _ _ _
            · refine touch_app ?_ (Mach.writeBlockReg_touch ..) rfl rfl
              exact touch_refl _ _ _

theorem Mach.rejectShape_touch (m0 : Mach) (a1 : Src) (a2 : ℕ) (a3 : ℕ) (a4 : Word) : m0.touch 0x3008 0xffffffffffffffffffffffffffffffffffffffffffffffffffffffffffffffff (Mach.rejectShape m0 a1 a2 a3 a4) := by
  unfold Mach.rejectShape
  refine touch_app ?_ (Mach.reject_any ..) rfl rfl
  exact touch_refl _ _ _

theorem Mach.writeAccess_touch (m0 : Mach) (a1 : Src) (a2 : ℕ) (a3 : ℕ) (a4 : Width) (a5 : BitVec 64) : m0.touch 0x3fffffdba 0xffffffffffffffffffffffffffffffffffffffffffffffffffffffffffffffff (Mach.writeAccess m0 a1 a2 a3 a4 a5) := by
  unfold Mach.writeAccess
  extract_lets -underBinder -merge -useContext +onlyGivenNames l0
  try clear_value l0
  split
  · refine touch_app ?_ (Mach.rejectShape_touch ..) rfl rfl
    exact touch_refl _ _ _
  · refine touch_app ?_ (Mach.rejectShape_touch ..) rfl rfl
    exact touch_refl _ _ _
  · refine touch_ite (fun _ => ?_) (fun _ => ?_)
    · refine touch_app ?_ (Mach.writeWord_touch ..) rfl rfl
      exact touch_refl _ _ _
    · refine touch_app ?_ (Mach.rejectShape_touch ..) rfl rfl
      exact touch_refl _ _ _
  · refine touch_ite (fun _ => ?_) (fun _ => ?_)
    · refine touch_app ?_ (Mach.writeWord_touch ..) rfl rfl
      refine touch_app ?_ (Mach.writeWord_touch ..) rfl rfl
      exact touch_refl _ _ _
    · refine touch_app ?_ (Mach.rejectShape_touch ..) rfl rfl
      exact touch_refl _ _ _

theorem Mach.readOut_touch (m0 : Mach) (a1 : Src) (a2 : ℕ) (a3 : ℕ) (a4 : Width) : m0.touch 0x43048 0xffffffffffffffffffffffffffffffffffffffffffffffffffffffffffffffff (Mach.readOut m0 a1 a2 a3 a4) := by
  unfold Mach.readOut
  refine touch_ite (fun _ => ?_) (fun _ => ?_)
  · exact touch_refl _ _ _
  · refine touch_ite (fun _ => ?_) (fun _ => ?_)
    · refine touch_app ?_ (Mach.emit_touch ..) rfl rfl
      refine touch_app ?_ (Mach.rejectShape_touch ..) rfl rfl
      exact touch_refl _ _ _
    · split
      rename_i p0_0 p0_1 p0_2 he3
      have hp0_2 : m0.touch 0x43048 0xffffffffffffffffffffffffffffffffffffffffffffffffffffffffffffffff p0_2 := by
        refine touch_snd he3 ?_
        refine touch_app ?_ (Mach.readAccess_touch ..) rfl rfl
        exact touch_refl _ _ _
      refine touch_ite (fun _ => ?_) (fun _ => ?_)
      · split
        rename_i p0_0 p0_1 p0_2 he3
        have hp0_2 : m0.touch 0x43048 0xffffffffffffffffffffffffffffffffffffffffffffffffffffffffffffffff p0_2 := by
          refine touch_snd he3 ?_
          refine touch_app ?_ (Mach.readAccess_touch ..) rfl rfl
          exact hp0_2
        refine touch_app ?_ (Mach.emit_touch ..) rfl rfl
        exact hp0_2
      · refine touch_app ?_ (Mach.emit_touch ..) rfl rfl
        exact hp0_2

end Sys2Proof.Machine
end

