-- ==== Sys2Proof/Laws/Frame/WriteRows.lean ====
section
/-! SUPPORT. The frame of each operation of WriteRows.lean: the parts of the module it can change. -/

namespace Sys2Proof.Machine

theorem Mach.put_touch (m0 : Mach) (a1 : Src) (a2 : ℕ) (a3 : ℕ) (a4 : ℕ) : m0.touch 0x3fffffdba 0xffffffffffffffffffffffffffffffffffffffffffffffffffffffffffffffff (Mach.put m0 a1 a2 a3 a4) := by
  unfold Mach.put
  refine touch_app ?_ (Mach.writeWord_touch ..) rfl rfl
  exact touch_refl _ _ _

theorem Mach.mgrDoorbell_touch (m0 : Mach) (a1 : Src) (a2 : ℕ) (a3 : List RingPacket) : m0.touch 0x1f84b928 0xffffffffffffffffffffffffffffffffffffffffffffffffffffffffffffffff (Mach.mgrDoorbell m0 a1 a2 a3) := by
  unfold Mach.mgrDoorbell
  refine touch_ite (fun _ => ?_) (fun _ => ?_)
  · exact touch_refl _ _ _
  · split
    · refine touch_app ?_ (Mach.rejectWord_touch ..) rfl rfl
      exact touch_refl _ _ _
    · refine touch_app ?_ (Mach.mgrRing_touch ..) rfl rfl
      refine touch_app ?_ (Mach.auditWrite_touch ..) rfl rfl
      refine touch_app ?_ (Mach.storeWord_touch ..) rfl rfl
      exact touch_refl _ _ _

end Sys2Proof.Machine
end

