-- ==== Sys2Proof/Laws/Frame/Image.lean ====
section
/-! SUPPORT. The frame of each operation of Image.lean: the parts of the module it can change. -/

namespace Sys2Proof.Machine

theorem Mach.writeBulk_touch (m0 : Mach) (a1 : Src) (a2 : ℕ) (a3 : ℕ) (a4 : ℕ) (a5 : List Byte) : m0.touch 0x320a 0xffffffffffffffffffffffffffffffffffffffffffffffffffffffffffffffff (Mach.writeBulk m0 a1 a2 a3 a4 a5).1 := by
  unfold Mach.writeBulk
  change Mach.touch1 _ _ m0 _
  extract_lets -underBinder -merge -useContext +onlyGivenNames l0
  split
  · exact touch_refl _ _ _
  · split
    · exact touch_refl _ _ _
    · split
      · exact touch_refl _ _ _
      · split
        · exact touch_refl _ _ _
        · split
          · unfold l0
            split
            rename_i p0_0 p0_1 p0_2 he3
            have hp0_2 : m0.touch 0x320a 0xffffffffffffffffffffffffffffffffffffffffffffffffffffffffffffffff p0_2 := by
              refine touch_snd he3 ?_
              refine touch_app ?_ (Mach.drawWord_touch ..) rfl rfl
              exact touch_refl _ _ _
            refine touch_app ?_ (Mach.reject_any ..) rfl rfl
            exact hp0_2
          · split
            · unfold l0
              split
              rename_i p0_0 p0_1 p0_2 he3
              have hp0_2 : m0.touch 0x320a 0xffffffffffffffffffffffffffffffffffffffffffffffffffffffffffffffff p0_2 := by
                refine touch_snd he3 ?_
                refine touch_app ?_ (Mach.drawWord_touch ..) rfl rfl
                exact touch_refl _ _ _
              refine touch_app ?_ (Mach.reject_any ..) rfl rfl
              exact hp0_2
            · split
              · unfold l0
                split
                rename_i p0_0 p0_1 p0_2 he3
                have hp0_2 : m0.touch 0x320a 0xffffffffffffffffffffffffffffffffffffffffffffffffffffffffffffffff p0_2 := by
                  refine touch_snd he3 ?_
                  refine touch_app ?_ (Mach.drawWord_touch ..) rfl rfl
                  exact touch_refl _ _ _
                refine touch_app ?_ (Mach.reject_any ..) rfl rfl
                exact hp0_2
              · extract_lets -underBinder -merge -useContext +onlyGivenNames t0
                have ht0 : m0.touch 0x320a 0xffffffffffffffffffffffffffffffffffffffffffffffffffffffffffffffff t0 := by
                  unfold t0
                  refine touch_app ?_ (touch_bulk _ _ (fun h => memWrite_wf _ _ _ h.1)) rfl rfl
                  exact touch_refl _ _ _
                try clear_value t0
                refine touch_app ?_ (Mach.audit_touch ..) rfl rfl
                exact ht0

theorem Mach.writeWords_touch (m0 : Mach) (a1 : ℕ) (a2 : ℕ) (a3 : List Word) : m0.touch 0x3fffffdba 0xffffffffffffffffffffffffffffffffffffffffffffffffffffffffffffffff (Mach.writeWords m0 a1 a2 a3).1 := by
  induction a3 generalizing m0 a1 a2
  · unfold Mach.writeWords
    change Mach.touch1 _ _ m0 _
    exact touch_refl _ _ _
  · rename_i y r ih
    unfold Mach.writeWords
    change Mach.touch1 _ _ m0 _
    split
    · rename_i p0_0 p0_1 he2
      have hp0_1 : m0.touch 0x3fffffdba 0xffffffffffffffffffffffffffffffffffffffffffffffffffffffffffffffff p0_1 := by
        refine touch_fst he2 ?_
        refine touch_app ?_ (Mach.writeWord_touch ..) rfl rfl
        exact touch_refl _ _ _
      refine touch_app ?_ (ih ..) rfl rfl
      exact hp0_1
    · rename_i p0_0 p0_1 p0_2 he3
      have hp0_1 : m0.touch 0x3fffffdba 0xffffffffffffffffffffffffffffffffffffffffffffffffffffffffffffffff p0_1 := by
        refine touch_fst he3 ?_
        refine touch_app ?_ (Mach.writeWord_touch ..) rfl rfl
        exact touch_refl _ _ _
      exact hp0_1

theorem Mach.writeRecord_touch (m0 : Mach) (a1 : ImageRec) : m0.touch 0x3ffffffba 0xffffffffffffffffffffffffffffffffffffffffffffffffffffffffffffffff (Mach.writeRecord m0 a1).1 := by
  unfold Mach.writeRecord
  change Mach.touch1 _ _ m0 _
  split
  · refine touch_app ?_ (Mach.writeWords_touch ..) rfl rfl
    exact touch_refl _ _ _
  · split
    · split
      · rename_i p0_0 p0_1 he2
        have hp0_1 : m0.touch 0x3ffffffba 0xffffffffffffffffffffffffffffffffffffffffffffffffffffffffffffffff p0_1 := by
          refine touch_fst he2 ?_
          refine touch_app ?_ (Mach.writeBulk_touch ..) rfl rfl
          exact touch_refl _ _ _
        exact hp0_1
      · rename_i p0_0 p0_1 p0_2 p0_3 he4
        have hp0_1 : m0.touch 0x3ffffffba 0xffffffffffffffffffffffffffffffffffffffffffffffffffffffffffffffff p0_1 := by
          refine touch_fst he4 ?_
          refine touch_app ?_ (Mach.writeBulk_touch ..) rfl rfl
          exact touch_refl _ _ _
        exact hp0_1
    · refine touch_app ?_ (Mach.rejectShape_touch ..) rfl rfl
      exact touch_refl _ _ _

/-- The held and in-force bulk objects exchanged for others that keep the form. -/
theorem touch_bulks {A P : Nat} {a b : Mach} (h : a.touch A P b) (hA : 0x610 &&& A = 0x610) (f : KMap Word) (u v : List Host.Cell)
    (hb : a.memOk → b.memOk → Memory.wf u = true ∧ Memory.wf v = true) :
    a.touch A P { b with force := f, bulk := u, bulkF := v } := by
  refine ⟨fun k hk => ?_, fun p o i hp ho h1 h2 => h.2.1 p o i hp ho h1 h2, fun hm => ?_⟩
  · refine same_trans (h.1 k hk) ?_
    have hk' := testBit_sub hA hk
    unfold Mach.same
    split <;> first | (exact absurd hk' (by decide)) | rfl | trivial
  · exact ⟨(hb hm (h.2.2 hm)).1, (hb hm (h.2.2 hm)).2, (h.2.2 hm).2.2⟩

theorem Mach.backPage_touch (a1 m0 : Mach) (a2 : ℕ)
    (h : a1.touch 0x3ffffffba 0xFFFFFFFFFFFFFFFFFFFFFFFFFFFFFFFFFFFFFFFFFFFFFFFFFFFFFFFFFFFFFFFF m0) :
    a1.touch 0x3ffffffba 0xFFFFFFFFFFFFFFFFFFFFFFFFFFFFFFFFFFFFFFFFFFFFFFFFFFFFFFFFFFFFFFFF (Mach.backPage m0 a1 a2) := by
  unfold Mach.backPage
  extract_lets -underBinder -merge -useContext +onlyGivenNames keys on turned old oldBulk keep t1
  have h1 : a1.touch 0x3ffffffba 0xFFFFFFFFFFFFFFFFFFFFFFFFFFFFFFFFFFFFFFFFFFFFFFFFFFFFFFFFFFFFFFFF t1 :=
    touch_each h fun y x hx => touch_app hx (touch_regs_any _ _) rfl rfl
  clear_value t1 keys on turned old oldBulk keep
  extract_lets -underBinder -merge -useContext +onlyGivenNames t2
  have h2 : a1.touch 0x3ffffffba 0xFFFFFFFFFFFFFFFFFFFFFFFFFFFFFFFFFFFFFFFFFFFFFFFFFFFFFFFFFFFFFFFF t2 :=
    touch_app (touch_app h1 (Mach.setFlag_any ..) rfl rfl) (Mach.setFlag_any ..) rfl rfl
  clear_value t2
  extract_lets -underBinder -merge -useContext +onlyGivenNames force t3
  have h3 : a1.touch 0x3ffffffba 0xFFFFFFFFFFFFFFFFFFFFFFFFFFFFFFFFFFFFFFFFFFFFFFFFFFFFFFFFFFFFFFFF t3 :=
    touch_bulks h2 rfl _ _ _ fun ha hb => ⟨takeBulk_wf _ _ _ ha.1 hb.1, takeBulk_wf _ _ _ ha.2.1 hb.2.1⟩
  clear_value t3
  extract_lets -underBinder -merge -useContext +onlyGivenNames t4
  have h4 : a1.touch 0x3ffffffba 0xFFFFFFFFFFFFFFFFFFFFFFFFFFFFFFFFFFFFFFFFFFFFFFFFFFFFFFFFFFFFFFFF t4 :=
    touch_ite (fun _ => touch_app h3 (Mach.enableHook_touch ..) rfl rfl) fun _ => h3
  clear_value t4
  split
  · exact h4
  · exact touch_app h4 (Mach.pageHook_touch ..) rfl rfl


theorem applyRecord_touch (m0 : Mach) (a : Applying) (r : ImageRec)
    (h : m0.touch 0x3ffffffba 0xFFFFFFFFFFFFFFFFFFFFFFFFFFFFFFFFFFFFFFFFFFFFFFFFFFFFFFFFFFFFFFFF a.m) :
    m0.touch 0x3ffffffba 0xFFFFFFFFFFFFFFFFFFFFFFFFFFFFFFFFFFFFFFFFFFFFFFFFFFFFFFFFFFFFFFFF (applyRecord a r).m := by
  unfold applyRecord
  split
  · exact h
  · extract_lets -underBinder -merge -useContext +onlyGivenNames fresh touched
    split
    rename_i b no he
    have hb : m0.touch 0x3ffffffba 0xFFFFFFFFFFFFFFFFFFFFFFFFFFFFFFFFFFFFFFFFFFFFFFFFFFFFFFFFFFFFFFFF b := by
      split at he
      · exact touch_app h (touch_fst he (Mach.writeLock_touch ..)) rfl rfl
      · cases he; exact h
    split
    · exact hb
    · exact touch_app hb (Mach.writeRecord_touch ..) rfl rfl

theorem applyCommit_touch (m0 : Mach) (a : Applying) (p : Nat)
    (h : m0.touch 0x3ffffffba 0xFFFFFFFFFFFFFFFFFFFFFFFFFFFFFFFFFFFFFFFFFFFFFFFFFFFFFFFFFFFFFFFF a.m) :
    m0.touch 0x3ffffffba 0xFFFFFFFFFFFFFFFFFFFFFFFFFFFFFFFFFFFFFFFFFFFFFFFFFFFFFFFFFFFFFFFF (applyCommit a p).m := by
  unfold applyCommit
  split
  · exact h
  · exact touch_app h (Mach.writeLock_touch ..) rfl rfl

theorem foldl_applying {β : Type} (m0 : Mach) (f : Applying → β → Applying)
    (hf : ∀ a r, m0.touch 0x3ffffffba 0xFFFFFFFFFFFFFFFFFFFFFFFFFFFFFFFFFFFFFFFFFFFFFFFFFFFFFFFFFFFFFFFF a.m →
      m0.touch 0x3ffffffba 0xFFFFFFFFFFFFFFFFFFFFFFFFFFFFFFFFFFFFFFFFFFFFFFFFFFFFFFFFFFFFFFFF (f a r).m) (l : List β) :
    ∀ a : Applying, m0.touch 0x3ffffffba 0xFFFFFFFFFFFFFFFFFFFFFFFFFFFFFFFFFFFFFFFFFFFFFFFFFFFFFFFFFFFFFFFF a.m →
      m0.touch 0x3ffffffba 0xFFFFFFFFFFFFFFFFFFFFFFFFFFFFFFFFFFFFFFFFFFFFFFFFFFFFFFFFFFFFFFFF (l.foldl f a).m := by
  induction l with
  | nil => intro a h; exact h
  | cons y r ih => intro a h; exact ih _ (hf a y h)

theorem Mach.applyImage_touch (m0 : Mach) (a1 : List Byte) :
    m0.touch 0x3ffffffba 0xFFFFFFFFFFFFFFFFFFFFFFFFFFFFFFFFFFFFFFFFFFFFFFFFFFFFFFFFFFFFFFFF (Mach.applyImage m0 a1).1 := by
  unfold Mach.applyImage
  extract_lets -underBinder -merge -useContext +onlyGivenNames recs b1
  have h1 := foldl_applying m0 applyRecord (applyRecord_touch m0) recs { m := m0, touched := [], failed := false } (touch_refl _ _ _)
  change m0.touch _ _ b1.m at h1
  clear_value b1
  extract_lets -underBinder -merge -useContext +onlyGivenNames b2
  have h2 := foldl_applying m0 applyCommit (applyCommit_touch m0) b1.touched.mergeSort b1 h1
  change m0.touch _ _ b2.m at h2
  clear_value b2
  split
  rename_i x started he
  have hx : m0.touch 0x3ffffffba 0xFFFFFFFFFFFFFFFFFFFFFFFFFFFFFFFFFFFFFFFFFFFFFFFFFFFFFFFFFFFFFFFF x := by
    split at he
    · cases he; exact h2
    · exact touch_app h2 (touch_fst he (Mach.startRun_touch ..)) rfl rfl
  split
  · exact touch_mono (touch_app hx (touch_set_adm _ _) rfl rfl) rfl rfl
  · exact touch_each hx fun y z hz => Mach.backPage_touch m0 z y hz


theorem Mach.loadImage_touch (m0 : Mach) : m0.touch 0x3ffffffba 0xffffffffffffffffffffffffffffffffffffffffffffffffffffffffffffffff (Mach.loadImage m0).1 := by
  unfold Mach.loadImage
  change Mach.touch1 _ _ m0 _
  extract_lets -underBinder -merge -useContext +onlyGivenNames l0
  try clear_value l0
  split
  · refine touch_app ?_ (Mach.event_touch (P := 0xffffffffffffffffffffffffffffffffffffffffffffffffffffffffffffffff) _ _ _ _ rfl (by decide)) rfl rfl
    refine touch_app ?_ (Mach.setFld_touch (P := 0xffffffffffffffffffffffffffffffffffffffffffffffffffffffffffffffff) _ _ _ _ rfl) rfl rfl
    exact touch_refl _ _ _
  · split
    · refine touch_app ?_ (Mach.event_touch (P := 0xffffffffffffffffffffffffffffffffffffffffffffffffffffffffffffffff) _ _ _ _ rfl (by decide)) rfl rfl
      refine touch_app ?_ (Mach.setFld_touch (P := 0xffffffffffffffffffffffffffffffffffffffffffffffffffffffffffffffff) _ _ _ _ rfl) rfl rfl
      exact touch_refl _ _ _
    · split
      · rename_i p0_0 p0_1 he2
        have hp0_1 : m0.touch 0x3ffffffba 0xffffffffffffffffffffffffffffffffffffffffffffffffffffffffffffffff p0_1 := by
          refine touch_fst he2 ?_
          refine touch_app ?_ (Mach.applyImage_touch ..) rfl rfl
          exact touch_refl _ _ _
        refine touch_app ?_ (Mach.event_touch (P := 0xffffffffffffffffffffffffffffffffffffffffffffffffffffffffffffffff) _ _ _ _ rfl (by decide)) rfl rfl
        refine touch_app ?_ (Mach.setFld_touch (P := 0xffffffffffffffffffffffffffffffffffffffffffffffffffffffffffffffff) _ _ _ _ rfl) rfl rfl
        exact hp0_1
      · rename_i p0_0 p0_1 he2
        have hp0_1 : m0.touch 0x3ffffffba 0xffffffffffffffffffffffffffffffffffffffffffffffffffffffffffffffff p0_1 := by
          refine touch_fst he2 ?_
          refine touch_app ?_ (Mach.applyImage_touch ..) rfl rfl
          exact touch_refl _ _ _
        refine touch_app ?_ (Mach.event_touch (P := 0xffffffffffffffffffffffffffffffffffffffffffffffffffffffffffffffff) _ _ _ _ rfl (by decide)) rfl rfl
        refine touch_app ?_ (Mach.setFld_touch (P := 0xffffffffffffffffffffffffffffffffffffffffffffffffffffffffffffffff) _ _ _ _ rfl) rfl rfl
        exact hp0_1

end Sys2Proof.Machine
end

