-- ==== Sys2Proof/Laws/Frame/Rst.lean ====
section
/-! SUPPORT. The frame of each operation of Rst.lean: the parts of the module it can change. -/

namespace Sys2Proof.Machine

theorem Mach.dropStore_touch (m0 : Mach) : m0.touch 0x100000008 0x10 (Mach.dropStore m0) := by
  unfold Mach.dropStore
  refine touch_ite (fun _ => ?_) (fun _ => ?_)
  · refine touch_each ?_ (fun y x hx => ?_)
    · exact touch_refl _ _ _
    · refine touch_app ?_ (Mach.emptySlot_touch ..) rfl rfl
      exact hx
  · exact touch_refl _ _ _

theorem touch_fresh {m x : Mach} (hf : x.flash = m.flash) (hx : x.memOk) :
    m.touch 0x5ffffffff 0xFFFFFFFFFFFFFFFFFFFFFFFFFFFFFFFFFFFFFFFFFFFFFFFFFFFFFFFFFFFFFFFF x := by
  refine ⟨fun k hk => ?_, fun p o i hp _ h1 _ => ?_, fun _ => hx⟩
  · unfold Mach.same
    split <;> first | (exact absurd hk (by decide)) | exact hf | trivial
  · have h2 : Nat.testBit (2 ^ 256 - 1) p = false := h1
    rw [Nat.testBit_two_pow_sub_one, decide_eq_true hp] at h2; exact absurd h2 (by decide)

theorem Mach.moduleReset_touch (m0 : Mach) (a1 : ℕ) :
    m0.touch 0x5ffffffff 0xFFFFFFFFFFFFFFFFFFFFFFFFFFFFFFFFFFFFFFFFFFFFFFFFFFFFFFFFFFFFFFFF (Mach.moduleReset m0 a1) := by
  unfold Mach.moduleReset
  extract_lets -underBinder -merge -useContext +onlyGivenNames was
  have hw : was.flash = m0.flash := (Mach.dropStore_touch m0).1 33 (by decide)
  clear_value was
  split
  rename_i session x he
  have hx : x.flash = m0.flash := by
    rw [← hw]; exact ((touch_snd he (Mach.drawWord_touch was)).1 33 (by decide))
  extract_lets -underBinder -merge -useContext +onlyGivenNames force pins fresh t1
  have h1 : m0.touch 0x5ffffffff 0xFFFFFFFFFFFFFFFFFFFFFFFFFFFFFFFFFFFFFFFFFFFFFFFFFFFFFFFFFFFFFFFF t1 := by
    refine touch_each (touch_fresh hx ⟨rfl, rfl, rfl⟩) fun y z hz => touch_app hz (touch_regs_any _ _) rfl rfl
  clear_value t1
  refine touch_app ?_ (Mach.emit_touch ..) rfl rfl
  refine touch_app ?_ (Mach.setFld_any ..) rfl rfl
  refine touch_app ?_ (Mach.setFld_any ..) rfl rfl
  refine touch_app ?_ (Mach.setFld_any ..) rfl rfl
  refine touch_app ?_ (Mach.setFlag_any ..) rfl rfl
  exact touch_app h1 (Mach.setFld_any ..) rfl rfl


theorem Mach.setCause_touch (m0 : Mach) (a1 : ℕ) : m0.touch 0x400000000 0x0 (Mach.setCause m0 a1) := by
  unfold Mach.setCause
  refine touch_app ?_ (Mach.onRst_touch ..) rfl rfl
  exact touch_refl _ _ _

theorem Mach.powerFail_touch (m0 : Mach) : m0.touch 0x100007008 0x0 (Mach.powerFail m0) := by
  unfold Mach.powerFail
  refine touch_ite (fun _ => ?_) (fun _ => ?_)
  · exact touch_refl _ _ _
  · extract_lets -underBinder -merge -useContext +onlyGivenNames t0
    have ht0 : m0.touch 0x100007008 0x0 t0 := by
      unfold t0
      refine touch_app ?_ (Mach.emit_touch ..) rfl rfl
      exact touch_refl _ _ _
    try clear_value t0
    extract_lets -underBinder -merge -useContext +onlyGivenNames t1
    have ht1 : m0.touch 0x100007008 0x0 t1 := by
      unfold t1
      refine touch_app ?_ (Mach.openRec_touch ..) rfl rfl
      exact ht0
    try clear_value t1
    extract_lets -underBinder -merge -useContext +onlyGivenNames t2
    have ht2 : m0.touch 0x100007008 0x0 t2 := by
      unfold t2
      refine touch_app ?_ (Mach.onCmd_touch ..) rfl rfl
      refine touch_app ?_ (Mach.onRim_touch ..) rfl rfl
      exact ht1
    try clear_value t2
    refine touch_app ?_ (Mach.onCoil_touch ..) rfl rfl
    exact ht2

theorem Mach.tryRecover_touch (m0 : Mach) : m0.touch 0x5ffffffff 0xffffffffffffffffffffffffffffffffffffffffffffffffffffffffffffffff (Mach.tryRecover m0) := by
  unfold Mach.tryRecover
  refine touch_ite (fun _ => ?_) (fun _ => ?_)
  · refine touch_app ?_ (Mach.moduleReset_touch ..) rfl rfl
    exact touch_refl _ _ _
  · exact touch_refl _ _ _

theorem Mach.flushEnd_touch (m0 : Mach) (a1 : Bool) : m0.touch 0x7ffffffff 0xffffffffffffffffffffffffffffffffffffffffffffffffffffffffffffffff (Mach.flushEnd m0 a1) := by
  unfold Mach.flushEnd
  refine touch_ite (fun _ => ?_) (fun _ => ?_)
  · exact touch_refl _ _ _
  · extract_lets -underBinder -merge -useContext +onlyGivenNames t0
    have ht0 : m0.touch 0x7ffffffff 0xffffffffffffffffffffffffffffffffffffffffffffffffffffffffffffffff t0 := by
      unfold t0
      refine touch_app ?_ (Mach.flushDone_touch ..) rfl rfl
      exact touch_refl _ _ _
    try clear_value t0
    refine touch_ite (fun _ => ?_) (fun _ => ?_)
    · exact ht0
    · refine touch_ite (fun _ => ?_) (fun _ => ?_)
      · refine touch_app ?_ (Mach.tryRecover_touch ..) rfl rfl
        refine touch_app ?_ (Mach.emit_touch ..) rfl rfl
        refine touch_app ?_ (touch_set_powered _ _) rfl rfl
        exact ht0
      · split
        · refine touch_app ?_ (Mach.moduleReset_touch ..) rfl rfl
          exact ht0
        · exact ht0

theorem Mach.resetAfterFlush_touch (m0 : Mach) (a1 : ℕ) : m0.touch 0x500007008 0x0 (Mach.resetAfterFlush m0 a1) := by
  unfold Mach.resetAfterFlush
  refine touch_app ?_ (Mach.powerFail_touch ..) rfl rfl
  refine touch_app ?_ (Mach.setCause_touch ..) rfl rfl
  exact touch_refl _ _ _

theorem Mach.pgRise_touch (m0 : Mach) : m0.touch 0x5ffffffff 0xffffffffffffffffffffffffffffffffffffffffffffffffffffffffffffffff (Mach.pgRise m0) := by
  unfold Mach.pgRise
  extract_lets -underBinder -merge -useContext +onlyGivenNames t0
  have ht0 : m0.touch 0x5ffffffff 0xffffffffffffffffffffffffffffffffffffffffffffffffffffffffffffffff t0 := by
    unfold t0
    refine touch_app ?_ (Mach.onRst_touch ..) rfl rfl
    exact touch_refl _ _ _
  try clear_value t0
  refine touch_ite (fun _ => ?_) (fun _ => ?_)
  · refine touch_app ?_ (Mach.tryRecover_touch ..) rfl rfl
    exact ht0
  · refine touch_ite (fun _ => ?_) (fun _ => ?_)
    · exact ht0
    · refine touch_ite (fun _ => ?_) (fun _ => ?_)
      · refine touch_app ?_ (Mach.setCause_touch ..) rfl rfl
        exact ht0
      · refine touch_app ?_ (Mach.moduleReset_touch ..) rfl rfl
        exact ht0

theorem Mach.rstCommand_touch (m0 : Mach) (a1 : ℕ) : m0.touch 0x7ffffffba 0xffffffffffffffffffffffffffffffffffffffffffffffffffffffffffffffff (Mach.rstCommand m0 a1) := by
  unfold Mach.rstCommand
  refine touch_ite (fun _ => ?_) (fun _ => ?_)
  · refine touch_app ?_ (Mach.resetAfterFlush_touch ..) rfl rfl
    exact touch_refl _ _ _
  · refine touch_app ?_ (Mach.loadImage_touch ..) rfl rfl
    exact touch_refl _ _ _

theorem Mach.fullWrite_touch (m0 : Mach) (a1 : Src) (a2 : ℕ) (a3 : ℕ) (a4 : Word) : m0.touch 0x7ffffffba 0xffffffffffffffffffffffffffffffffffffffffffffffffffffffffffffffff (Mach.fullWrite m0 a1 a2 a3 a4).1 := by
  unfold Mach.fullWrite
  change Mach.touch1 _ _ m0 _
  split
  · rename_i p0_0 p0_1 he2
    have hp0_1 : m0.touch 0x7ffffffba 0xffffffffffffffffffffffffffffffffffffffffffffffffffffffffffffffff p0_1 := by
      refine touch_fst he2 ?_
      refine touch_app ?_ (Mach.writeWord_touch ..) rfl rfl
      exact touch_refl _ _ _
    split
    · refine touch_app ?_ (Mach.rstCommand_touch ..) rfl rfl
      exact hp0_1
    · exact hp0_1
  · rename_i p0_0 p0_1
    refine touch_app ?_ (Mach.writeWord_touch ..) rfl rfl
    exact touch_refl _ _ _

theorem Mach.fullAccess_touch (m0 : Mach) (a1 : Src) (a2 : ℕ) (a3 : ℕ) (a4 : Width) (a5 : BitVec 64) : m0.touch 0x7ffffffba 0xffffffffffffffffffffffffffffffffffffffffffffffffffffffffffffffff (Mach.fullAccess m0 a1 a2 a3 a4 a5) := by
  unfold Mach.fullAccess
  extract_lets -underBinder -merge -useContext +onlyGivenNames l0
  try clear_value l0
  split
  · refine touch_app ?_ (Mach.rejectShape_touch ..) rfl rfl
    exact touch_refl _ _ _
  · refine touch_app ?_ (Mach.rejectShape_touch ..) rfl rfl
    exact touch_refl _ _ _
  · refine touch_ite (fun _ => ?_) (fun _ => ?_)
    · refine touch_app ?_ (Mach.fullWrite_touch ..) rfl rfl
      exact touch_refl _ _ _
    · refine touch_app ?_ (Mach.rejectShape_touch ..) rfl rfl
      exact touch_refl _ _ _
  · refine touch_ite (fun _ => ?_) (fun _ => ?_)
    · refine touch_app ?_ (Mach.fullWrite_touch ..) rfl rfl
      refine touch_app ?_ (Mach.fullWrite_touch ..) rfl rfl
      exact touch_refl _ _ _
    · refine touch_app ?_ (Mach.rejectShape_touch ..) rfl rfl
      exact touch_refl _ _ _

theorem Mach.bootBank_touch (m0 : Mach) (a1 : ℕ) : m0.touch 0x8 0x9 (Mach.bootBank m0 a1) := by
  unfold Mach.bootBank
  extract_lets -underBinder -merge -useContext +onlyGivenNames l0
  try clear_value l0
  extract_lets -underBinder -merge -useContext +onlyGivenNames t0
  have ht0 : m0.touch 0x8 0x9 t0 := by
    unfold t0
    refine touch_app ?_ (Mach.setFld_touch (P := 0x9) _ _ _ _ rfl) rfl rfl
    refine touch_app ?_ (Mach.setFld_touch (P := 0x9) _ _ _ _ rfl) rfl rfl
    exact touch_refl _ _ _
  try clear_value t0
  refine touch_app ?_ (Mach.setFld_touch (P := 0x9) _ _ _ _ rfl) rfl rfl
  refine touch_app ?_ (Mach.setFld_touch (P := 0x9) _ _ _ _ rfl) rfl rfl
  exact ht0

theorem Mach.bootStep_touch (m0 : Mach) (a1 : BootInput) : m0.touch 0x51f9cf90a 0x72ffff00071819 (Mach.bootStep m0 a1).1 := by
  unfold Mach.bootStep
  change Mach.touch1 _ _ m0 _
  extract_lets -underBinder -merge -useContext +onlyGivenNames t0
  have ht0 : m0.touch 0x51f9cf90a 0x72ffff00071819 t0 := by
    unfold t0
    refine touch_app ?_ (Mach.onRim_touch ..) rfl rfl
    exact touch_refl _ _ _
  try clear_value t0
  extract_lets -underBinder -merge -useContext +onlyGivenNames t1
  have ht1 : m0.touch 0x51f9cf90a 0x72ffff00071819 t1 := by
    unfold t1
    refine touch_ite (fun _ => ?_) (fun _ => ?_)
    · refine touch_app ?_ (Mach.advanceGen_touch ..) rfl rfl
      refine touch_app ?_ (Mach.onRim_touch ..) rfl rfl
      exact ht0
    · exact ht0
  try clear_value t1
  extract_lets -underBinder -merge -useContext +onlyGivenNames l0
  try clear_value l0
  extract_lets -underBinder -merge -useContext +onlyGivenNames l1
  try clear_value l1
  extract_lets -underBinder -merge -useContext +onlyGivenNames t2
  have ht2 : m0.touch 0x51f9cf90a 0x72ffff00071819 t2 := by
    unfold t2
    refine touch_app ?_ (Mach.setFld_touch (P := 0x72ffff00071819) _ _ _ _ rfl) rfl rfl
    exact ht1
  try clear_value t2
  extract_lets -underBinder -merge -useContext +onlyGivenNames t3
  have ht3 : m0.touch 0x51f9cf90a 0x72ffff00071819 t3 := by
    unfold t3
    refine touch_ite (fun _ => ?_) (fun _ => ?_)
    · exact ht2
    · refine touch_app ?_ (Mach.violate_touch ..) rfl rfl
      exact ht2
  try clear_value t3
  extract_lets -underBinder -merge -useContext +onlyGivenNames t4
  have ht4 : m0.touch 0x51f9cf90a 0x72ffff00071819 t4 := by
    unfold t4
    refine touch_ite (fun _ => ?_) (fun _ => ?_)
    · exact ht3
    · refine touch_app ?_ (Mach.violate_touch ..) rfl rfl
      exact ht3
  try clear_value t4
  extract_lets -underBinder -merge -useContext +onlyGivenNames l2
  try clear_value l2
  extract_lets -underBinder -merge -useContext +onlyGivenNames l3
  split
  · refine touch_app ?_ (Mach.bootBank_touch ..) rfl rfl
    exact ht4
  · split
    · refine touch_app ?_ (Mach.bootBank_touch ..) rfl rfl
      refine touch_app ?_ (Mach.event_touch (P := 0x72ffff00071819) _ _ _ _ rfl (by decide)) rfl rfl
      refine touch_app ?_ (Mach.setFlag_touch (P := 0x72ffff00071819) _ _ _ _ rfl) rfl rfl
      exact ht4
    · refine touch_app ?_ (Mach.onRst_touch ..) rfl rfl
      exact ht4

theorem Mach.imageStep_touch (m0 : Mach) : m0.touch 0x7ffffffba 0xffffffffffffffffffffffffffffffffffffffffffffffffffffffffffffffff (Mach.imageStep m0) := by
  unfold Mach.imageStep
  extract_lets -underBinder -merge -useContext +onlyGivenNames t0
  have ht0 : m0.touch 0x7ffffffba 0xffffffffffffffffffffffffffffffffffffffffffffffffffffffffffffffff t0 := by
    unfold t0
    refine touch_app ?_ (Mach.setFld_touch (P := 0xffffffffffffffffffffffffffffffffffffffffffffffffffffffffffffffff) _ _ _ _ rfl) rfl rfl
    exact touch_refl _ _ _
  try clear_value t0
  refine touch_ite (fun _ => ?_) (fun _ => ?_)
  · refine touch_app ?_ (Mach.stopStart_touch ..) rfl rfl
    exact ht0
  · split
    · rename_i p0_0 p0_1 he2
      have hp0_1 : m0.touch 0x7ffffffba 0xffffffffffffffffffffffffffffffffffffffffffffffffffffffffffffffff p0_1 := by
        refine touch_fst he2 ?_
        refine touch_app ?_ (Mach.loadImage_touch ..) rfl rfl
        refine touch_app ?_ (Mach.setFld_touch (P := 0xffffffffffffffffffffffffffffffffffffffffffffffffffffffffffffffff) _ _ _ _ rfl) rfl rfl
        exact ht0
      refine touch_app ?_ (Mach.setFld_touch (P := 0xffffffffffffffffffffffffffffffffffffffffffffffffffffffffffffffff) _ _ _ _ rfl) rfl rfl
      exact hp0_1
    · rename_i p0_0 p0_1 he2
      have hp0_1 : m0.touch 0x7ffffffba 0xffffffffffffffffffffffffffffffffffffffffffffffffffffffffffffffff p0_1 := by
        refine touch_fst he2 ?_
        refine touch_app ?_ (Mach.loadImage_touch ..) rfl rfl
        refine touch_app ?_ (Mach.setFld_touch (P := 0xffffffffffffffffffffffffffffffffffffffffffffffffffffffffffffffff) _ _ _ _ rfl) rfl rfl
        exact ht0
      refine touch_app ?_ (Mach.stopStart_touch ..) rfl rfl
      exact hp0_1

theorem Mach.startUp_touch (m0 : Mach) (a1 : BootInput) : m0.touch 0x7ffffffba 0xffffffffffffffffffffffffffffffffffffffffffffffffffffffffffffffff (Mach.startUp m0 a1) := by
  unfold Mach.startUp
  split
  · rename_i p0_0 p0_1 he2
    have hp0_1 : m0.touch 0x7ffffffba 0xffffffffffffffffffffffffffffffffffffffffffffffffffffffffffffffff p0_1 := by
      refine touch_fst he2 ?_
      refine touch_app ?_ (Mach.bootStep_touch ..) rfl rfl
      exact touch_refl _ _ _
    exact hp0_1
  · rename_i p0_0 p0_1 he2
    have hp0_1 : m0.touch 0x7ffffffba 0xffffffffffffffffffffffffffffffffffffffffffffffffffffffffffffffff p0_1 := by
      refine touch_fst he2 ?_
      refine touch_app ?_ (Mach.bootStep_touch ..) rfl rfl
      exact touch_refl _ _ _
    extract_lets -underBinder -merge -useContext +onlyGivenNames t0
    have ht0 : m0.touch 0x7ffffffba 0xffffffffffffffffffffffffffffffffffffffffffffffffffffffffffffffff t0 := by
      unfold t0
      refine touch_app ?_ (Mach.setFld_touch (P := 0xffffffffffffffffffffffffffffffffffffffffffffffffffffffffffffffff) _ _ _ _ rfl) rfl rfl
      exact hp0_1
    try clear_value t0
    refine touch_ite (fun _ => ?_) (fun _ => ?_)
    · refine touch_app ?_ (Mach.onRst_touch ..) rfl rfl
      exact ht0
    · refine touch_app ?_ (Mach.imageStep_touch ..) rfl rfl
      refine touch_app ?_ (Mach.startSelfTest_touch ..) rfl rfl
      refine touch_app ?_ (Mach.presentImage_touch ..) rfl rfl
      exact ht0

theorem Mach.resumeStart_touch (m0 : Mach) : m0.touch 0x7ffffffba 0xffffffffffffffffffffffffffffffffffffffffffffffffffffffffffffffff (Mach.resumeStart m0) := by
  unfold Mach.resumeStart
  split
  · refine touch_ite (fun _ => ?_) (fun _ => ?_)
    · refine touch_app ?_ (Mach.startUp_touch ..) rfl rfl
      refine touch_app ?_ (Mach.onRst_touch ..) rfl rfl
      exact touch_refl _ _ _
    · exact touch_refl _ _ _
  · exact touch_refl _ _ _

theorem Mach.start_touch (m0 : Mach) (a1 : BootInput) : m0.touch 0x7ffffffba 0xffffffffffffffffffffffffffffffffffffffffffffffffffffffffffffffff (Mach.start m0 a1) := by
  unfold Mach.start
  refine touch_app ?_ (Mach.resumeStart_touch ..) rfl rfl
  refine touch_app ?_ (Mach.onRst_touch ..) rfl rfl
  exact touch_refl _ _ _

end Sys2Proof.Machine
end

