-- ==== Sys2Proof/Laws/Frame/Bulk.lean ====
section
/-! SUPPORT. The frame of each operation of Bulk.lean: the parts of the module it can change. -/

namespace Sys2Proof.Machine

theorem Mach.readBulk_touch (m0 : Mach) (a1 : ℕ) (a2 : ℕ) (a3 : ℕ) (a4 : ℕ) : m0.touch 0x40003008 0x4000 (Mach.readBulk m0 a1 a2 a3 a4).1 := by
  unfold Mach.readBulk
  change Mach.touch1 _ _ m0 _
  extract_lets -underBinder -merge -useContext +onlyGivenNames t0
  have ht0 : m0.touch 0x40003008 0x4000 t0 := by
    unfold t0
    refine touch_ite (fun _ => ?_) (fun _ => ?_)
    · refine touch_app ?_ (Mach.latchAll_touch ..) rfl rfl
      exact touch_refl _ _ _
    · exact touch_refl _ _ _
  try clear_value t0
  split
  · exact ht0
  · exact ht0

end Sys2Proof.Machine
end

