-- ==== Sys2Proof/Laws/Frame/Vrelti.lean ====
section
/-! SUPPORT. The frame of each operation of Vrelti.lean: the parts of the module it can change. -/

namespace Sys2Proof.Machine

theorem Mach.acceptFresh_touch (m0 : Mach) (a1 : Transport) (a2 : ℕ) : m0.touch 0x4008 0x40000000000000 (Mach.acceptFresh m0 a1 a2) := by
  unfold Mach.acceptFresh
  extract_lets -underBinder -merge -useContext +onlyGivenNames l0
  try clear_value l0
  extract_lets -underBinder -merge -useContext +onlyGivenNames l1
  try clear_value l1
  refine touch_app ?_ (Mach.onCmd_touch ..) rfl rfl
  refine touch_app ?_ (Mach.setFld_touch (P := 0x40000000000000) _ _ _ _ (by unfold freshFd; first | rfl | exact within_nth _ _ rfl | (split <;> first | rfl | exact within_nth _ _ rfl))) rfl rfl
  exact touch_refl _ _ _

theorem Mach.releaseStored_touch (m0 : Mach) (a1 : Transport) (a2 : Byte) : m0.touch 0x4100 0x0 (Mach.releaseStored m0 a1 a2) := by
  unfold Mach.releaseStored
  refine touch_app ?_ (Mach.onCmd_touch ..) rfl rfl
  refine touch_app ?_ (Mach.disarm_touch ..) rfl rfl
  exact touch_refl _ _ _

theorem Mach.readWords_touch (m0 : Mach) (a1 : Src) (a2 : ℕ) (a3 : ℕ) (a4 : ℕ) : m0.touch 0x43048 0x40 (Mach.readWords m0 a1 a2 a3 a4).2 := by
  induction a4 generalizing m0 a1 a2 a3
  · unfold Mach.readWords
    change Mach.touch2 _ _ m0 _
    exact touch_refl _ _ _
  · rename_i n ih
    unfold Mach.readWords
    change Mach.touch2 _ _ m0 _
    split
    rename_i p0_0 p0_1 p0_2 he3
    have hp0_2 : m0.touch 0x43048 0x40 p0_2 := by
      refine touch_snd he3 ?_
      refine touch_app ?_ (Mach.readAccess_touch ..) rfl rfl
      exact touch_refl _ _ _
    split
    rename_i p0_0 p0_1 p0_2 he3
    have hp0_2 : m0.touch 0x43048 0x40 p0_2 := by
      refine touch_snd he3 ?_
      refine touch_app ?_ (ih ..) rfl rfl
      exact hp0_2
    exact hp0_2

theorem Mach.rejectWords_touch (m0 : Mach) (a1 : Src) (a2 : ℕ) (a3 : ℕ) (a4 : List Word) : m0.touch 0x3008 0xffffffffffffffffffffffffffffffffffffffffffffffffffffffffffffffff (Mach.rejectWords m0 a1 a2 a3 a4) := by
  unfold Mach.rejectWords
  refine touch_each ?_ (fun y x hx => ?_)
  · exact touch_refl _ _ _
  · refine touch_app ?_ (Mach.rejectShape_touch ..) rfl rfl
    exact hx

theorem Mach.putWords_touch (m0 : Mach) (a1 : Src) (a2 : ℕ) (a3 : ℕ) (a4 : List Word) : m0.touch 0x7ffffffba 0xffffffffffffffffffffffffffffffffffffffffffffffffffffffffffffffff (Mach.putWords m0 a1 a2 a3 a4).1 := by
  induction a4 generalizing m0 a1 a2 a3
  · unfold Mach.putWords
    change Mach.touch1 _ _ m0 _
    exact touch_refl _ _ _
  · rename_i y r ih
    unfold Mach.putWords
    change Mach.touch1 _ _ m0 _
    split
    rename_i p0_0 p0_1 p0_2 he3
    have hp0_1 : m0.touch 0x7ffffffba 0xffffffffffffffffffffffffffffffffffffffffffffffffffffffffffffffff p0_1 := by
      refine touch_fst he3 ?_
      refine touch_app ?_ (Mach.fullWrite_touch ..) rfl rfl
      exact touch_refl _ _ _
    split
    rename_i p0_0 p0_1 p0_2 he3
    have hp0_1 : m0.touch 0x7ffffffba 0xffffffffffffffffffffffffffffffffffffffffffffffffffffffffffffffff p0_1 := by
      refine touch_fst he3 ?_
      refine touch_app ?_ (ih ..) rfl rfl
      exact hp0_1
    exact hp0_1

theorem Mach.doRead_touch (m0 : Mach) (a1 : Transport) (a2 : VPacket) : m0.touch 0x43048 0xffffffffffffffffffffffffffffffffffffffffffffffffffffffffffffffff (Mach.doRead m0 a1 a2).1 := by
  unfold Mach.doRead
  change Mach.touch1 _ _ m0 _
  extract_lets -underBinder -merge -useContext +onlyGivenNames l0
  try clear_value l0
  extract_lets -underBinder -merge -useContext +onlyGivenNames l1
  try clear_value l1
  split
  · exact touch_refl _ _ _
  · split
    · refine touch_app ?_ (Mach.rejectWords_touch ..) rfl rfl
      exact touch_refl _ _ _
    · split
      rename_i p0_0 p0_1 p0_2 he3
      have hp0_2 : m0.touch 0x43048 0xffffffffffffffffffffffffffffffffffffffffffffffffffffffffffffffff p0_2 := by
        refine touch_snd he3 ?_
        refine touch_app ?_ (Mach.readWords_touch ..) rfl rfl
        exact touch_refl _ _ _
      exact hp0_2

theorem Mach.doWrite_touch (m0 : Mach) (a1 : Transport) (a2 : VPacket) : m0.touch 0x7ffffffba 0xffffffffffffffffffffffffffffffffffffffffffffffffffffffffffffffff (Mach.doWrite m0 a1 a2).1 := by
  unfold Mach.doWrite
  change Mach.touch1 _ _ m0 _
  extract_lets -underBinder -merge -useContext +onlyGivenNames l0
  try clear_value l0
  extract_lets -underBinder -merge -useContext +onlyGivenNames l1
  try clear_value l1
  split
  · exact touch_refl _ _ _
  · split
    · exact touch_refl _ _ _
    · split
      · refine touch_app ?_ (Mach.rejectWords_touch ..) rfl rfl
        exact touch_refl _ _ _
      · split
        · rename_i p0_0 p0_1 he2
          have hp0_1 : m0.touch 0x7ffffffba 0xffffffffffffffffffffffffffffffffffffffffffffffffffffffffffffffff p0_1 := by
            refine touch_fst he2 ?_
            refine touch_app ?_ (Mach.putWords_touch ..) rfl rfl
            exact touch_refl _ _ _
          exact hp0_1
        · rename_i p0_0 p0_1 p0_2 he3
          have hp0_1 : m0.touch 0x7ffffffba 0xffffffffffffffffffffffffffffffffffffffffffffffffffffffffffffffff p0_1 := by
            refine touch_fst he3 ?_
            refine touch_app ?_ (Mach.putWords_touch ..) rfl rfl
            exact touch_refl _ _ _
          exact hp0_1

theorem Mach.doRmw_touch (m0 : Mach) (a1 : Transport) (a2 : VPacket) : m0.touch 0x7fffffffa 0xffffffffffffffffffffffffffffffffffffffffffffffffffffffffffffffff (Mach.doRmw m0 a1 a2).1 := by
  unfold Mach.doRmw
  change Mach.touch1 _ _ m0 _
  extract_lets -underBinder -merge -useContext +onlyGivenNames l0
  try clear_value l0
  extract_lets -underBinder -merge -useContext +onlyGivenNames l1
  try clear_value l1
  extract_lets -underBinder -merge -useContext +onlyGivenNames l2
  try clear_value l2
  split
  · exact touch_refl _ _ _
  · split
    · refine touch_app ?_ (Mach.rejectWords_touch ..) rfl rfl
      exact touch_refl _ _ _
    · split
      rename_i p0_0 p0_1 p0_2 he3
      have hp0_2 : m0.touch 0x7fffffffa 0xffffffffffffffffffffffffffffffffffffffffffffffffffffffffffffffff p0_2 := by
        refine touch_snd he3 ?_
        refine touch_app ?_ (Mach.readAccess_touch ..) rfl rfl
        exact touch_refl _ _ _
      split
      · rename_i p0_0 p0_1 he2
        have hp0_1 : m0.touch 0x7fffffffa 0xffffffffffffffffffffffffffffffffffffffffffffffffffffffffffffffff p0_1 := by
          refine touch_fst he2 ?_
          refine touch_app ?_ (Mach.fullWrite_touch ..) rfl rfl
          exact hp0_2
        exact hp0_1
      · rename_i p0_0 p0_1 p0_2 he3
        have hp0_1 : m0.touch 0x7fffffffa 0xffffffffffffffffffffffffffffffffffffffffffffffffffffffffffffffff p0_1 := by
          refine touch_fst he3 ?_
          refine touch_app ?_ (Mach.fullWrite_touch ..) rfl rfl
          exact hp0_2
        exact hp0_1

theorem Mach.doLock_touch (m0 : Mach) (a1 : Transport) (a2 : VPacket) (a3 : Word) : m0.touch 0x1fffebd1a 0xffffffffffffffffffffffffffffffffffffffffffffffffffffffffffffffff (Mach.doLock m0 a1 a2 a3).1 := by
  unfold Mach.doLock
  change Mach.touch1 _ _ m0 _
  split
  · exact touch_refl _ _ _
  · split
    · rename_i p0_0 p0_1 he2
      have hp0_1 : m0.touch 0x1fffebd1a 0xffffffffffffffffffffffffffffffffffffffffffffffffffffffffffffffff p0_1 := by
        refine touch_fst he2 ?_
        refine touch_app ?_ (Mach.writeLock_touch ..) rfl rfl
        exact touch_refl _ _ _
      exact hp0_1
    · rename_i p0_0 p0_1 p0_2 he3
      have hp0_1 : m0.touch 0x1fffebd1a 0xffffffffffffffffffffffffffffffffffffffffffffffffffffffffffffffff p0_1 := by
        refine touch_fst he3 ?_
        refine touch_app ?_ (Mach.writeLock_touch ..) rfl rfl
        exact touch_refl _ _ _
      exact hp0_1

theorem Mach.doAdmit_touch (m0 : Mach) (a1 : Transport) (a2 : VPacket) : m0.touch 0x200008 0x100 (Mach.doAdmit m0 a1 a2).1 := by
  unfold Mach.doAdmit
  change Mach.touch1 _ _ m0 _
  split
  · exact touch_refl _ _ _
  · split
    · exact touch_refl _ _ _
    · split
      · rename_i p0_0 p0_1 he2
        have hp0_1 : m0.touch 0x200008 0x100 p0_1 := by
          refine touch_fst he2 ?_
          refine touch_app ?_ (Mach.startRun_touch ..) rfl rfl
          exact touch_refl _ _ _
        exact hp0_1
      · rename_i p0_0 p0_1 he2
        have hp0_1 : m0.touch 0x200008 0x100 p0_1 := by
          refine touch_fst he2 ?_
          refine touch_app ?_ (Mach.startRun_touch ..) rfl rfl
          exact touch_refl _ _ _
        exact hp0_1

theorem Mach.doBulkRead_touch (m0 : Mach) (a1 : VPacket) : m0.touch 0x40003008 0x4000 (Mach.doBulkRead m0 a1).1 := by
  unfold Mach.doBulkRead
  change Mach.touch1 _ _ m0 _
  extract_lets -underBinder -merge -useContext +onlyGivenNames l0
  try clear_value l0
  split
  · exact touch_refl _ _ _
  · split
    · rename_i p0_0 p0_1 p0_2 he3
      have hp0_1 : m0.touch 0x40003008 0x4000 p0_1 := by
        refine touch_fst he3 ?_
        refine touch_app ?_ (Mach.readBulk_touch ..) rfl rfl
        exact touch_refl _ _ _
      exact hp0_1
    · rename_i p0_0 p0_1 he2
      have hp0_1 : m0.touch 0x40003008 0x4000 p0_1 := by
        refine touch_fst he2 ?_
        refine touch_app ?_ (Mach.readBulk_touch ..) rfl rfl
        exact touch_refl _ _ _
      exact hp0_1

theorem Mach.doBulkWrite_touch (m0 : Mach) (a1 : Transport) (a2 : VPacket) : m0.touch 0x320a 0xffffffffffffffffffffffffffffffffffffffffffffffffffffffffffffffff (Mach.doBulkWrite m0 a1 a2).1 := by
  unfold Mach.doBulkWrite
  change Mach.touch1 _ _ m0 _
  split
  · rename_i p0_0 p0_1 he2
    have hp0_1 : m0.touch 0x320a 0xffffffffffffffffffffffffffffffffffffffffffffffffffffffffffffffff p0_1 := by
      refine touch_fst he2 ?_
      refine touch_app ?_ (Mach.writeBulk_touch ..) rfl rfl
      exact touch_refl _ _ _
    exact hp0_1
  · rename_i p0_0 p0_1 p0_2 he3
    have hp0_1 : m0.touch 0x320a 0xffffffffffffffffffffffffffffffffffffffffffffffffffffffffffffffff p0_1 := by
      refine touch_fst he3 ?_
      refine touch_app ?_ (Mach.writeBulk_touch ..) rfl rfl
      exact touch_refl _ _ _
    exact hp0_1
  · rename_i p0_0 p0_1 p0_2 he3
    have hp0_1 : m0.touch 0x320a 0xffffffffffffffffffffffffffffffffffffffffffffffffffffffffffffffff p0_1 := by
      refine touch_fst he3 ?_
      refine touch_app ?_ (Mach.writeBulk_touch ..) rfl rfl
      exact touch_refl _ _ _
    exact hp0_1

theorem Mach.dropLoad_touch (m0 : Mach) (a1 : Byte) : m0.touch 0x4000 0x0 (Mach.dropLoad m0 a1) := by
  unfold Mach.dropLoad
  refine touch_app ?_ (Mach.onCmd_touch ..) rfl rfl
  exact touch_refl _ _ _

theorem Mach.doChunk_touch (m0 : Mach) (a1 : Transport) (a2 : Byte) (a3 : VPacket) (a4 : ℕ) : m0.touch 0x7008 0x0 (Mach.doChunk m0 a1 a2 a3 a4).1 := by
  unfold Mach.doChunk
  change Mach.touch1 _ _ m0 _
  extract_lets -underBinder -merge -useContext +onlyGivenNames l0
  try clear_value l0
  split
  · exact touch_refl _ _ _
  · split
    · refine touch_app ?_ (Mach.onCmd_touch ..) rfl rfl
      refine touch_app ?_ (Mach.dropLoad_touch ..) rfl rfl
      exact touch_refl _ _ _
    · split
      · refine touch_app ?_ (Mach.auditLoad_touch ..) rfl rfl
        refine touch_app ?_ (Mach.dropLoad_touch ..) rfl rfl
        exact touch_refl _ _ _
      · refine touch_app ?_ (Mach.onCmd_touch ..) rfl rfl
        refine touch_app ?_ (Mach.dropLoad_touch ..) rfl rfl
        exact touch_refl _ _ _

theorem Mach.endVerify_touch (m0 : Mach) (a1 : Load) (a2 : Option ℕ) : m0.touch 0x7108 0x0 (Mach.endVerify m0 a1 a2) := by
  unfold Mach.endVerify
  extract_lets -underBinder -merge -useContext +onlyGivenNames t0
  have ht0 : m0.touch 0x7108 0x0 t0 := by
    unfold t0
    refine touch_app ?_ (Mach.onCmd_touch ..) rfl rfl
    exact touch_refl _ _ _
  try clear_value t0
  extract_lets -underBinder -merge -useContext +onlyGivenNames l0
  try clear_value l0
  extract_lets -underBinder -merge -useContext +onlyGivenNames l1
  try clear_value l1
  refine touch_app ?_ (Mach.auditLoad_touch ..) rfl rfl
  refine touch_app ?_ (Mach.finishTag_touch ..) rfl rfl
  exact ht0

theorem Mach.imageVerified_touch (m0 : Mach) : m0.touch 0x200007108 0x2 (Mach.imageVerified m0) := by
  unfold Mach.imageVerified
  split
  · exact touch_refl _ _ _
  · extract_lets -underBinder -merge -useContext +onlyGivenNames l0
    try clear_value l0
    extract_lets -underBinder -merge -useContext +onlyGivenNames t0
    try clear_value t0
    extract_lets -underBinder -merge -useContext +onlyGivenNames t1
    try clear_value t1
    extract_lets -underBinder -merge -useContext +onlyGivenNames t2
    have ht2 : m0.touch 0x200007108 0x2 t2 := by
      unfold t2
      refine touch_app ?_ (touch_set_flash _ _) rfl rfl
      exact touch_refl _ _ _
    try clear_value t2
    extract_lets -underBinder -merge -useContext +onlyGivenNames t3
    have ht3 : m0.touch 0x200007108 0x2 t3 := by
      unfold t3
      refine touch_app ?_ (Mach.setFld_touch (P := 0x2) _ _ _ _ rfl) rfl rfl
      exact ht2
    try clear_value t3
    refine touch_app ?_ (Mach.endVerify_touch ..) rfl rfl
    exact ht3

theorem Mach.firmwareVerified_touch (m0 : Mach) : m0.touch 0x7ffffffff 0xffffffffffffffffffffffffffffffffffffffffffffffffffffffffffffffff (Mach.firmwareVerified m0) := by
  unfold Mach.firmwareVerified
  split
  · exact touch_refl _ _ _
  · extract_lets -underBinder -merge -useContext +onlyGivenNames l0
    try clear_value l0
    extract_lets -underBinder -merge -useContext +onlyGivenNames l1
    try clear_value l1
    extract_lets -underBinder -merge -useContext +onlyGivenNames l2
    try clear_value l2
    extract_lets -underBinder -merge -useContext +onlyGivenNames t0
    try clear_value t0
    extract_lets -underBinder -merge -useContext +onlyGivenNames t1
    try clear_value t1
    extract_lets -underBinder -merge -useContext +onlyGivenNames t2
    have ht2 : m0.touch 0x7ffffffff 0xffffffffffffffffffffffffffffffffffffffffffffffffffffffffffffffff t2 := by
      unfold t2
      refine touch_app ?_ (touch_set_flash _ _) rfl rfl
      exact touch_refl _ _ _
    try clear_value t2
    extract_lets -underBinder -merge -useContext +onlyGivenNames t3
    have ht3 : m0.touch 0x7ffffffff 0xffffffffffffffffffffffffffffffffffffffffffffffffffffffffffffffff t3 := by
      unfold t3
      refine touch_app ?_ (Mach.setFld_touch (P := 0xffffffffffffffffffffffffffffffffffffffffffffffffffffffffffffffff) _ _ _ _ rfl) rfl rfl
      exact ht2
    try clear_value t3
    extract_lets -underBinder -merge -useContext +onlyGivenNames t4
    have ht4 : m0.touch 0x7ffffffff 0xffffffffffffffffffffffffffffffffffffffffffffffffffffffffffffffff t4 := by
      unfold t4
      refine touch_ite (fun _ => ?_) (fun _ => ?_)
      · refine touch_app ?_ (Mach.event_touch (P := 0xffffffffffffffffffffffffffffffffffffffffffffffffffffffffffffffff) _ _ _ _ rfl (by decide)) rfl rfl
        exact ht3
      · refine touch_app ?_ (Mach.violate_touch ..) rfl rfl
        refine touch_app ?_ (Mach.event_touch (P := 0xffffffffffffffffffffffffffffffffffffffffffffffffffffffffffffffff) _ _ _ _ rfl (by decide)) rfl rfl
        exact ht3
    try clear_value t4
    extract_lets -underBinder -merge -useContext +onlyGivenNames t5
    have ht5 : m0.touch 0x7ffffffff 0xffffffffffffffffffffffffffffffffffffffffffffffffffffffffffffffff t5 := by
      unfold t5
      refine touch_app ?_ (Mach.endVerify_touch ..) rfl rfl
      exact ht4
    try clear_value t5
    refine touch_ite (fun _ => ?_) (fun _ => ?_)
    · split
      rename_i p0_0 p0_1 p0_2 he3
      have hp0_2 : m0.touch 0x7ffffffff 0xffffffffffffffffffffffffffffffffffffffffffffffffffffffffffffffff p0_2 := by
        refine touch_snd he3 ?_
        refine touch_app ?_ (Mach.drawWord_touch ..) rfl rfl
        exact ht5
      refine touch_app ?_ (Mach.moduleReset_touch ..) rfl rfl
      exact hp0_2
    · exact ht5

theorem Mach.doKeyLoad_touch (m0 : Mach) (a1 : Transport) (a2 : VPacket) : m0.touch 0x100007108 0x10 (Mach.doKeyLoad m0 a1 a2).1 := by
  unfold Mach.doKeyLoad
  change Mach.touch1 _ _ m0 _
  extract_lets -underBinder -merge -useContext +onlyGivenNames l0
  try clear_value l0
  split
  · refine touch_app ?_ (Mach.auditLoad_touch ..) rfl rfl
    exact touch_refl _ _ _
  · refine touch_app ?_ (Mach.queueLoad_touch ..) rfl rfl
    exact touch_refl _ _ _

theorem Mach.runOpcode_touch (m0 : Mach) (a1 : Transport) (a2 : VCommand) : m0.touch 0x7fffffffa 0xffffffffffffffffffffffffffffffffffffffffffffffffffffffffffffffff (Mach.runOpcode m0 a1 a2).1 := by
  unfold Mach.runOpcode
  change Mach.touch1 _ _ m0 _
  extract_lets -underBinder -merge -useContext +onlyGivenNames l0
  try clear_value l0
  split
  · exact touch_refl _ _ _
  · split
    · refine touch_app ?_ (Mach.doRead_touch ..) rfl rfl
      exact touch_refl _ _ _
    · refine touch_app ?_ (Mach.doWrite_touch ..) rfl rfl
      exact touch_refl _ _ _
    · refine touch_app ?_ (Mach.doRmw_touch ..) rfl rfl
      exact touch_refl _ _ _
    · refine touch_app ?_ (Mach.doLock_touch ..) rfl rfl
      exact touch_refl _ _ _
    · refine touch_app ?_ (Mach.doLock_touch ..) rfl rfl
      exact touch_refl _ _ _
    · refine touch_app ?_ (Mach.doAdmit_touch ..) rfl rfl
      exact touch_refl _ _ _
    · refine touch_app ?_ (Mach.doBulkRead_touch ..) rfl rfl
      exact touch_refl _ _ _
    · refine touch_app ?_ (Mach.doBulkWrite_touch ..) rfl rfl
      exact touch_refl _ _ _
    · refine touch_app ?_ (Mach.doChunk_touch ..) rfl rfl
      exact touch_refl _ _ _
    · refine touch_app ?_ (Mach.doChunk_touch ..) rfl rfl
      exact touch_refl _ _ _
    · refine touch_app ?_ (Mach.doKeyLoad_touch ..) rfl rfl
      exact touch_refl _ _ _
    · exact touch_refl _ _ _

theorem Mach.accept_touch (m0 : Mach) (a1 : Transport) (a2 : Route) (a3 : VCommand) (a4 : ℕ) : m0.touch 0x7fffffffa 0xffffffffffffffffffffffffffffffffffffffffffffffffffffffffffffffff (Mach.accept m0 a1 a2 a3 a4) := by
  unfold Mach.accept
  extract_lets -underBinder -merge -useContext +onlyGivenNames l0
  try clear_value l0
  extract_lets -underBinder -merge -useContext +onlyGivenNames t0
  have ht0 : m0.touch 0x7fffffffa 0xffffffffffffffffffffffffffffffffffffffffffffffffffffffffffffffff t0 := by
    unfold t0
    refine touch_app ?_ (Mach.onCmd_touch ..) rfl rfl
    refine touch_ite (fun _ => ?_) (fun _ => ?_)
    · refine touch_app ?_ (Mach.releaseStored_touch ..) rfl rfl
      exact touch_refl _ _ _
    · exact touch_refl _ _ _
  try clear_value t0
  split
  · rename_i p0_0 p0_1 p0_2 p0_3 he4
    have hp0_1 : m0.touch 0x7fffffffa 0xffffffffffffffffffffffffffffffffffffffffffffffffffffffffffffffff p0_1 := by
      refine touch_fst he4 ?_
      refine touch_app ?_ (Mach.runOpcode_touch ..) rfl rfl
      exact ht0
    refine touch_app ?_ (Mach.finishTag_touch ..) rfl rfl
    exact hp0_1
  · rename_i p0_0 p0_1 he2
    have hp0_1 : m0.touch 0x7fffffffa 0xffffffffffffffffffffffffffffffffffffffffffffffffffffffffffffffff p0_1 := by
      refine touch_fst he2 ?_
      refine touch_app ?_ (Mach.runOpcode_touch ..) rfl rfl
      exact ht0
    exact hp0_1

theorem Mach.takeAgain_touch (m0 : Mach) (a1 : Transport) (a2 : Route) (a3 : VCommand) (a4 : ℕ) : m0.touch 0x7fffffffa 0xffffffffffffffffffffffffffffffffffffffffffffffffffffffffffffffff (Mach.takeAgain m0 a1 a2 a3 a4) := by
  unfold Mach.takeAgain
  split
  · refine touch_app ?_ (Mach.count_touch (P := 0xffffffffffffffffffffffffffffffffffffffffffffffffffffffffffffffff) _ _ _ _ rfl) rfl rfl
    exact touch_refl _ _ _
  · refine touch_ite (fun _ => ?_) (fun _ => ?_)
    · refine touch_app ?_ (Mach.reply_touch ..) rfl rfl
      exact touch_refl _ _ _
    · refine touch_app ?_ (Mach.accept_touch ..) rfl rfl
      exact touch_refl _ _ _
  · refine touch_app ?_ (Mach.accept_touch ..) rfl rfl
    exact touch_refl _ _ _

theorem Mach.checkPage_touch (m0 : Mach) (a1 : Transport) (a2 : Route) (a3 : VCommand) (a4 : Bool) (a5 : ℕ) : m0.touch 0x7fffffffa 0xffffffffffffffffffffffffffffffffffffffffffffffffffffffffffffffff (Mach.checkPage m0 a1 a2 a3 a4 a5) := by
  unfold Mach.checkPage
  refine touch_ite (fun _ => ?_) (fun _ => ?_)
  · refine touch_app ?_ (Mach.refuse_touch ..) rfl rfl
    exact touch_refl _ _ _
  · refine touch_ite (fun _ => ?_) (fun _ => ?_)
    · refine touch_app ?_ (Mach.takeAgain_touch ..) rfl rfl
      exact touch_refl _ _ _
    · refine touch_app ?_ (Mach.accept_touch ..) rfl rfl
      exact touch_refl _ _ _

theorem Mach.checkAuth_touch (m0 : Mach) (a1 : Transport) (a2 : Route) (a3 : VCommand) (a4 : Bool) (a5 : ℕ) : m0.touch 0x7fffffffa 0xffffffffffffffffffffffffffffffffffffffffffffffffffffffffffffffff (Mach.checkAuth m0 a1 a2 a3 a4 a5) := by
  unfold Mach.checkAuth
  split
  · refine touch_app ?_ (Mach.refuse_touch ..) rfl rfl
    refine touch_app ?_ (Mach.event_touch (P := 0xffffffffffffffffffffffffffffffffffffffffffffffffffffffffffffffff) _ _ _ _ rfl (by decide)) rfl rfl
    exact touch_refl _ _ _
  · refine touch_ite (fun _ => ?_) (fun _ => ?_)
    · refine touch_app ?_ (Mach.refuse_touch ..) rfl rfl
      refine touch_app ?_ (Mach.authFailed_touch ..) rfl rfl
      exact touch_refl _ _ _
    · extract_lets -underBinder -merge -useContext +onlyGivenNames t0
      have ht0 : m0.touch 0x7fffffffa 0xffffffffffffffffffffffffffffffffffffffffffffffffffffffffffffffff t0 := by
        unfold t0
        refine touch_app ?_ (Mach.authPassed_touch ..) rfl rfl
        exact touch_refl _ _ _
      try clear_value t0
      refine touch_ite (fun _ => ?_) (fun _ => ?_)
      · refine touch_app ?_ (Mach.checkPage_touch ..) rfl rfl
        exact ht0
      · refine touch_ite (fun _ => ?_) (fun _ => ?_)
        · refine touch_app ?_ (Mach.refuse_touch ..) rfl rfl
          refine touch_app ?_ (Mach.event_touch (P := 0xffffffffffffffffffffffffffffffffffffffffffffffffffffffffffffffff) _ _ _ _ rfl (by decide)) rfl rfl
          exact ht0
        · refine touch_app ?_ (Mach.checkPage_touch ..) rfl rfl
          refine touch_app ?_ (Mach.acceptFresh_touch ..) rfl rfl
          exact ht0

theorem Mach.receive_touch (m0 : Mach) (a1 : Transport) (a2 : Route) (a3 : VCommand) (a4 : ℕ) : m0.touch 0x7fffffffa 0xffffffffffffffffffffffffffffffffffffffffffffffffffffffffffffffff (Mach.receive m0 a1 a2 a3 a4) := by
  unfold Mach.receive
  extract_lets -underBinder -merge -useContext +onlyGivenNames l0
  try clear_value l0
  extract_lets -underBinder -merge -useContext +onlyGivenNames l1
  try clear_value l1
  refine touch_ite (fun _ => ?_) (fun _ => ?_)
  · refine touch_app ?_ (Mach.refuse_touch ..) rfl rfl
    refine touch_app ?_ (Mach.event_touch (P := 0xffffffffffffffffffffffffffffffffffffffffffffffffffffffffffffffff) _ _ _ _ rfl (by decide)) rfl rfl
    refine touch_app ?_ (Mach.count_touch (P := 0xffffffffffffffffffffffffffffffffffffffffffffffffffffffffffffffff) _ _ _ _ rfl) rfl rfl
    exact touch_refl _ _ _
  · refine touch_ite (fun _ => ?_) (fun _ => ?_)
    · refine touch_app ?_ (Mach.refuse_touch ..) rfl rfl
      refine touch_app ?_ (Mach.event_touch (P := 0xffffffffffffffffffffffffffffffffffffffffffffffffffffffffffffffff) _ _ _ _ rfl (by decide)) rfl rfl
      exact touch_refl _ _ _
    · refine touch_ite (fun _ => ?_) (fun _ => ?_)
      · refine touch_app ?_ (Mach.refuse_touch ..) rfl rfl
        refine touch_app ?_ (Mach.event_touch (P := 0xffffffffffffffffffffffffffffffffffffffffffffffffffffffffffffffff) _ _ _ _ rfl (by decide)) rfl rfl
        refine touch_app ?_ (Mach.count_touch (P := 0xffffffffffffffffffffffffffffffffffffffffffffffffffffffffffffffff) _ _ _ _ rfl) rfl rfl
        exact touch_refl _ _ _
      · refine touch_ite (fun _ => ?_) (fun _ => ?_)
        · refine touch_app ?_ (Mach.refuse_touch ..) rfl rfl
          refine touch_app ?_ (Mach.event_touch (P := 0xffffffffffffffffffffffffffffffffffffffffffffffffffffffffffffffff) _ _ _ _ rfl (by decide)) rfl rfl
          refine touch_app ?_ (Mach.count_touch (P := 0xffffffffffffffffffffffffffffffffffffffffffffffffffffffffffffffff) _ _ _ _ rfl) rfl rfl
          exact touch_refl _ _ _
        · refine touch_ite (fun _ => ?_) (fun _ => ?_)
          · refine touch_app ?_ (Mach.refuse_touch ..) rfl rfl
            exact touch_refl _ _ _
          · refine touch_ite (fun _ => ?_) (fun _ => ?_)
            · refine touch_app ?_ (Mach.refuse_touch ..) rfl rfl
              refine touch_app ?_ (Mach.authFailed_touch ..) rfl rfl
              exact touch_refl _ _ _
            · refine touch_ite (fun _ => ?_) (fun _ => ?_)
              · refine touch_app ?_ (Mach.checkAuth_touch ..) rfl rfl
                exact touch_refl _ _ _
              · refine touch_app ?_ (Mach.checkPage_touch ..) rfl rfl
                exact touch_refl _ _ _

theorem Mach.command_touch (m0 : Mach) (a1 : Transport) (a2 : VCommand) : m0.touch 0x7fffffffa 0xffffffffffffffffffffffffffffffffffffffffffffffffffffffffffffffff (Mach.command m0 a1 a2) := by
  unfold Mach.command
  split
  · refine touch_app ?_ (Mach.receive_touch ..) rfl rfl
    refine touch_app ?_ (Mach.onCmd_touch ..) rfl rfl
    exact touch_refl _ _ _
  · refine touch_ite (fun _ => ?_) (fun _ => ?_)
    · exact touch_refl _ _ _
    · refine touch_ite (fun _ => ?_) (fun _ => ?_)
      · refine touch_app ?_ (Mach.onCmd_touch ..) rfl rfl
        exact touch_refl _ _ _
      · refine touch_app ?_ (Mach.receive_touch ..) rfl rfl
        exact touch_refl _ _ _

/-- A command of an opcode that is not defined is answered and changes nothing else. -/
theorem receive_undefined (m0 : Mach) (tr : Transport) (route : Route) (vc : VCommand) (at_ : Nat) (h : opcodes.contains vc.opcode.toNat = false) :
    m0.touch 0x7008 0x40000000000000 (m0.receive tr route vc at_) := by
  unfold Mach.receive
  extract_lets -underBinder -merge -useContext +onlyGivenNames op held
  refine touch_ite (fun _ => ?_) (fun _ => ?_)
  · refine touch_app ?_ (Mach.refuse_touch ..) rfl rfl
    refine touch_app ?_ (Mach.event_touch (P := 0x40000000000000) _ _ _ _ rfl (by decide)) rfl rfl
    exact touch_mono (Mach.count_touch (P := 0x40000000000000) _ _ _ _ rfl) rfl rfl
  · refine touch_ite (fun _ => ?_) (fun _ => ?_)
    · refine touch_app ?_ (Mach.refuse_touch ..) rfl rfl
      exact touch_mono (Mach.event_touch (P := 0x40000000000000) _ _ _ _ rfl (by decide)) rfl rfl
    · refine touch_ite (fun _ => ?_) (fun hc => ?_)
      · refine touch_app ?_ (Mach.refuse_touch ..) rfl rfl
        refine touch_app ?_ (Mach.event_touch (P := 0x40000000000000) _ _ _ _ rfl (by decide)) rfl rfl
        exact touch_mono (Mach.count_touch (P := 0x40000000000000) _ _ _ _ rfl) rfl rfl
      · exact absurd (by simp only [opcodeOk, op, h, Bool.false_and, Bool.not_false]) hc

theorem Mach.arrive_touch (m0 : Mach) (a1 : Transport) (a2 : Route) (a3 : VCommand) : m0.touch 0x7008 0x40000000000000 (Mach.arrive m0 a1 a2 a3) := by
  unfold Mach.arrive
  refine touch_ite (fun _ => ?_) (fun h => ?_)
  · exact touch_mono (Mach.onCmd_touch ..) rfl rfl
  · exact receive_undefined _ _ _ _ _ (Bool.eq_false_iff.mpr h)


theorem Mach.fetch_touch (m0 : Mach) (a1 : ℕ) : m0.touch 0x7008 0x40000000000000 (Mach.fetch m0 a1) := by
  induction a1 generalizing m0
  · unfold Mach.fetch
    exact touch_refl _ _ _
  · rename_i n ih
    unfold Mach.fetch
    split
    · exact touch_refl _ _ _
    · refine touch_ite (fun _ => ?_) (fun _ => ?_)
      · exact touch_refl _ _ _
      · refine touch_app ?_ (ih ..) rfl rfl
        refine touch_app ?_ (Mach.arrive_touch ..) rfl rfl
        refine touch_app ?_ (Mach.onCmd_touch ..) rfl rfl
        exact touch_refl _ _ _

theorem Mach.barWrite_touch (m0 : Mach) (a1 : ℕ) (a2 : Word) : m0.touch 0x7008 0x40000000000000 (Mach.barWrite m0 a1 a2) := by
  unfold Mach.barWrite
  refine touch_ite (fun _ => ?_) (fun _ => ?_)
  · refine touch_app ?_ (Mach.reject_touch (P := 0x40000000000000) _ _ _ _ _ _ rfl (by decide)) rfl rfl
    exact touch_refl _ _ _
  · refine touch_ite (fun _ => ?_) (fun _ => ?_)
    · extract_lets -underBinder -merge -useContext +onlyGivenNames l0
      try clear_value l0
      extract_lets -underBinder -merge -useContext +onlyGivenNames l1
      try clear_value l1
      refine touch_app ?_ (Mach.onCmd_touch ..) rfl rfl
      exact touch_refl _ _ _
    · refine touch_ite (fun _ => ?_) (fun _ => ?_)
      · exact touch_refl _ _ _
      · split
        · refine touch_app ?_ (Mach.onCmd_touch ..) rfl rfl
          exact touch_refl _ _ _
        · refine touch_app ?_ (Mach.onCmd_touch ..) rfl rfl
          exact touch_refl _ _ _
        · refine touch_app ?_ (Mach.onCmd_touch ..) rfl rfl
          exact touch_refl _ _ _
        · refine touch_app ?_ (Mach.onCmd_touch ..) rfl rfl
          exact touch_refl _ _ _
        · exact touch_refl _ _ _

theorem Mach.cmdDoorbell_touch (m0 : Mach) (a1 : ℕ) (a2 : List VCommand) (a3 : List (BitVec 13 × Word)) : m0.touch 0x7008 0x40000000000000 (Mach.cmdDoorbell m0 a1 a2 a3) := by
  unfold Mach.cmdDoorbell
  extract_lets -underBinder -merge -useContext +onlyGivenNames t0
  have ht0 : m0.touch 0x7008 0x40000000000000 t0 := by
    unfold t0
    refine touch_ite (fun _ => ?_) (fun _ => ?_)
    · exact touch_refl _ _ _
    · refine touch_each ?_ (fun y x hx => ?_)
      · exact touch_refl _ _ _
      · refine touch_app ?_ (Mach.barWrite_touch ..) rfl rfl
        exact hx
  try clear_value t0
  refine touch_ite (fun _ => ?_) (fun _ => ?_)
  · exact ht0
  · extract_lets -underBinder -merge -useContext +onlyGivenNames t1
    have ht1 : m0.touch 0x7008 0x40000000000000 t1 := by
      unfold t1
      refine touch_app ?_ (Mach.onCmd_touch ..) rfl rfl
      exact ht0
    try clear_value t1
    refine touch_app ?_ (Mach.fetch_touch ..) rfl rfl
    exact ht1

theorem Mach.consumed_touch (m0 : Mach) (a1 : ℕ) : m0.touch 0x7008 0x40000000000000 (Mach.consumed m0 a1) := by
  unfold Mach.consumed
  refine touch_ite (fun _ => ?_) (fun _ => ?_)
  · exact touch_refl _ _ _
  · extract_lets -underBinder -merge -useContext +onlyGivenNames t0
    have ht0 : m0.touch 0x7008 0x40000000000000 t0 := by
      unfold t0
      refine touch_app ?_ (Mach.onCmd_touch ..) rfl rfl
      exact touch_refl _ _ _
    try clear_value t0
    extract_lets -underBinder -merge -useContext +onlyGivenNames t1
    have ht1 : m0.touch 0x7008 0x40000000000000 t1 := by
      unfold t1
      refine touch_app ?_ (Mach.drainResp_touch ..) rfl rfl
      exact ht0
    try clear_value t1
    refine touch_app ?_ (Mach.fetch_touch ..) rfl rfl
    exact ht1

theorem Mach.dropPart_touch (m0 : Mach) (a1 : Word) (a2 : BitVec 16) (a3 : BitVec 16) : m0.touch 0x4000 0x0 (Mach.dropPart m0 a1 a2 a3) := by
  unfold Mach.dropPart
  refine touch_app ?_ (Mach.onCmd_touch ..) rfl rfl
  exact touch_refl _ _ _

theorem Mach.partTimeout_touch (m0 : Mach) (a1 : Transport) (a2 : Route) (a3 : Option VCommand) : m0.touch 0x7008 0x40000000000000 (Mach.partTimeout m0 a1 a2 a3) := by
  unfold Mach.partTimeout
  extract_lets -underBinder -merge -useContext +onlyGivenNames t0
  have ht0 : m0.touch 0x7008 0x40000000000000 t0 := by
    unfold t0
    refine touch_app ?_ (Mach.event_touch (P := 0x40000000000000) _ _ _ _ rfl (by decide)) rfl rfl
    refine touch_app ?_ (Mach.count_touch (P := 0x40000000000000) _ _ _ _ rfl) rfl rfl
    exact touch_refl _ _ _
  try clear_value t0
  split
  · refine touch_app ?_ (Mach.refuse_touch ..) rfl rfl
    exact ht0
  · exact ht0

theorem Mach.dropLate_touch (m0 : Mach) (a1 : Partial) : m0.touch 0x7008 0x40000000000000 (Mach.dropLate m0 a1) := by
  unfold Mach.dropLate
  refine touch_app ?_ (Mach.partTimeout_touch ..) rfl rfl
  refine touch_app ?_ (Mach.dropPart_touch ..) rfl rfl
  exact touch_refl _ _ _

theorem Mach.assembled_touch (m0 : Mach) (a1 : Partial) (a2 : List Byte) : m0.touch 0x7008 0x40000000000000 (Mach.assembled m0 a1 a2) := by
  unfold Mach.assembled
  extract_lets -underBinder -merge -useContext +onlyGivenNames t0
  have ht0 : m0.touch 0x7008 0x40000000000000 t0 := by
    unfold t0
    refine touch_app ?_ (Mach.dropPart_touch ..) rfl rfl
    exact touch_refl _ _ _
  try clear_value t0
  split
  · refine touch_app ?_ (Mach.arrive_touch ..) rfl rfl
    exact ht0
  · refine touch_app ?_ (Mach.event_touch (P := 0x40000000000000) _ _ _ _ rfl (by decide)) rfl rfl
    refine touch_app ?_ (Mach.count_touch (P := 0x40000000000000) _ _ _ _ rfl) rfl rfl
    exact ht0

theorem Mach.addSegment_touch (m0 : Mach) (a1 : UdpSegment) : m0.touch 0x7008 0x40000000000000 (Mach.addSegment m0 a1) := by
  unfold Mach.addSegment
  extract_lets -underBinder -merge -useContext +onlyGivenNames l0
  try clear_value l0
  extract_lets -underBinder -merge -useContext +onlyGivenNames l1
  try clear_value l1
  split
  · refine touch_ite (fun _ => ?_) (fun _ => ?_)
    · exact touch_refl _ _ _
    · refine touch_app ?_ (Mach.dropPart_touch ..) rfl rfl
      exact touch_refl _ _ _
  · extract_lets -underBinder -merge -useContext +onlyGivenNames l2
    try clear_value l2
    split
    · refine touch_app ?_ (Mach.assembled_touch ..) rfl rfl
      exact touch_refl _ _ _
    · refine touch_app ?_ (Mach.onCmd_touch ..) rfl rfl
      refine touch_app ?_ (Mach.dropPart_touch ..) rfl rfl
      exact touch_refl _ _ _

theorem Mach.segment_touch (m0 : Mach) (a1 : UdpSegment) : m0.touch 0x7008 0x40000000000000 (Mach.segment m0 a1) := by
  unfold Mach.segment
  extract_lets -underBinder -merge -useContext +onlyGivenNames l0
  try clear_value l0
  refine touch_ite (fun _ => ?_) (fun _ => ?_)
  · exact touch_refl _ _ _
  · extract_lets -underBinder -merge -useContext +onlyGivenNames t0
    have ht0 : m0.touch 0x7008 0x40000000000000 t0 := by
      unfold t0
      split
      · refine touch_ite (fun _ => ?_) (fun _ => ?_)
        · refine touch_app ?_ (Mach.dropLate_touch ..) rfl rfl
          exact touch_refl _ _ _
        · exact touch_refl _ _ _
      · exact touch_refl _ _ _
    try clear_value t0
    refine touch_app ?_ (Mach.addSegment_touch ..) rfl rfl
    exact ht0

theorem Mach.partialTimeout_touch (m0 : Mach) (a1 : Transport) (a2 : Byte) (a3 : Option VPacket) (a4 : Word) (a5 : BitVec 16) (a6 : BitVec 16) : m0.touch 0x7008 0x40000000000000 (Mach.partialTimeout m0 a1 a2 a3 a4 a5 a6) := by
  unfold Mach.partialTimeout
  split
  · refine touch_ite (fun _ => ?_) (fun _ => ?_)
    · refine touch_app ?_ (Mach.partTimeout_touch ..) rfl rfl
      exact touch_refl _ _ _
    · exact touch_refl _ _ _
  · split
    · refine touch_ite (fun _ => ?_) (fun _ => ?_)
      · refine touch_app ?_ (Mach.dropLate_touch ..) rfl rfl
        exact touch_refl _ _ _
      · exact touch_refl _ _ _
    · exact touch_refl _ _ _

theorem Mach.interrupt_touch (m0 : Mach) (a1 : OutCmd) : m0.touch 0x100207108 0x110 (Mach.interrupt m0 a1) := by
  unfold Mach.interrupt
  extract_lets -underBinder -merge -useContext +onlyGivenNames l0
  extract_lets -underBinder -merge -useContext +onlyGivenNames t0
  have ht0 : m0.touch 0x100207108 0x110 t0 := by
    unfold t0
    refine touch_app ?_ (Mach.onCmd_touch ..) rfl rfl
    exact touch_refl _ _ _
  try clear_value t0
  extract_lets -underBinder -merge -useContext +onlyGivenNames t1
  have ht1 : m0.touch 0x100207108 0x110 t1 := by
    unfold t1
    split
    · refine touch_ite (fun _ => ?_) (fun _ => ?_)
      · refine touch_app ?_ (Mach.setFld_touch (P := 0x110) _ _ _ _ rfl) rfl rfl
        refine touch_app ?_ (touch_set_adm _ _) rfl rfl
        exact ht0
      · exact ht0
    · exact ht0
  try clear_value t1
  extract_lets -underBinder -merge -useContext +onlyGivenNames l1
  split
  · exact ht1
  · extract_lets -underBinder -merge -useContext +onlyGivenNames l2
    try clear_value l2
    refine touch_ite (fun _ => ?_) (fun _ => ?_)
    · refine touch_app ?_ (Mach.nextLoad_touch ..) rfl rfl
      refine touch_app ?_ (Mach.onRim_touch ..) rfl rfl
      exact ht1
    · refine touch_app ?_ (Mach.onRim_touch ..) rfl rfl
      exact ht1

theorem Mach.cmdTimeout_touch (m0 : Mach) (a1 : Transport) (a2 : Byte) : m0.touch 0x100207108 0x40000000000110 (Mach.cmdTimeout m0 a1 a2) := by
  unfold Mach.cmdTimeout
  split
  · refine touch_ite (fun _ => ?_) (fun _ => ?_)
    · refine touch_app ?_ (Mach.finishTag_touch ..) rfl rfl
      refine touch_app ?_ (Mach.event_touch (P := 0x40000000000110) _ _ _ _ rfl (by decide)) rfl rfl
      refine touch_app ?_ (Mach.interrupt_touch ..) rfl rfl
      exact touch_refl _ _ _
    · exact touch_refl _ _ _
  · exact touch_refl _ _ _

theorem Mach.perst_touch (m0 : Mach) : m0.touch 0x100207108 0x110 (Mach.perst m0) := by
  unfold Mach.perst
  extract_lets -underBinder -merge -useContext +onlyGivenNames l0
  try clear_value l0
  extract_lets -underBinder -merge -useContext +onlyGivenNames t0
  have ht0 : m0.touch 0x100207108 0x110 t0 := by
    unfold t0
    refine touch_each ?_ (fun y x hx => ?_)
    · exact touch_refl _ _ _
    · refine touch_app ?_ (Mach.interrupt_touch ..) rfl rfl
      exact hx
  try clear_value t0
  refine touch_app ?_ (Mach.onCmd_touch ..) rfl rfl
  exact ht0

end Sys2Proof.Machine
end

