-- ==== Sys2Proof/Laws/Frame/Put.lean ====
section
/-! SUPPORT. The frame of a word written to a block register at a known place, in terms of what its write triggers, and of a
command of Vrelti, in terms of what its opcode does. -/

namespace Sys2Proof.Machine

/-! ### A word written -/

theorem storeWord_touch {P : Nat} (m : Mach) (page off idx : Nat) (v : Word) (hP : P.testBit page = true) (hp : page < 256)
    (ho : off < 4096) : m.touch 8 P (m.storeWord page off idx v) := by
  unfold Mach.storeWord
  split
  · exact touch_refl _ _ _
  · exact Mach.setReg_touch _ _ _ _ _ hP hp ho

theorem rejectWord_touch {P : Nat} (m : Mach) (src : Src) (page off r : Nat) (v : Word) (hP : P.testBit page = true) (hp : page < 256) :
    m.touch 0x3028 P (m.rejectWord src page off v r) := by
  unfold Mach.rejectWord
  refine touch_trans ?_ (touch_mono (Mach.reject_touch _ _ _ _ _ _ hP hp) rfl (Nat.and_self P))
  exact touch_mono (touch_set_low _ _) rfl (Nat.zero_and P)

/-- A mask within another, as a premise. -/
abbrev sub (A B : Nat) : Prop := A &&& B = A

theorem up {A P A' P' : Nat} {a b c : Mach} (h : a.touch A P b) (g : b.touch A' P' c) (hA : sub A' A) (hP : sub P' P) :
    a.touch A P c := touch_app h g hA hP

/-- A word written to a block register of one word: its page, the recorder, and what it triggers. -/
theorem touch_put {A P : Nat} {m x : Mach} (hx : m.touch A P x) (src : Src) (page off v : Nat) (hA : sub 0x3028 A)
    (hP : P.testBit page = true) (hp : (mapped page && decide (page < 256) && decide (0x040 ≤ off) && decide (off < 4096)) = true)
    (hl : lowOffsets page off = [])
    (hact : ∀ y i w, m.touch A P y → m.touch A P (y.act src page off i w)) : m.touch A P (x.put src page off v) := by
  simp only [Bool.and_eq_true, decide_eq_true_eq] at hp
  obtain ⟨⟨⟨hm, hp⟩, h40⟩, ho⟩ := hp
  have hP0 : sub P P := Nat.and_self P
  unfold Mach.put Mach.writeWord
  rw [hm]
  have h1 : ¬ off = 0x028 := by omega
  have h2 : ¬ off < 0x040 := by omega
  simp only [Bool.not_true, Bool.false_eq_true, if_false, h1, h2]
  split
  · exact hx
  · split
    · exact up hx (rejectWord_touch _ _ _ _ _ _ hP hp) hA hP0
    · split
      · exact up hx (Mach.auditWrite_touch ..) (sub_trans (B := 0x3028) rfl hA) (Nat.zero_and P)
      · rename_i d _
        show m.touch A P (x.writeBlockReg src page off (word v) d)
        unfold Mach.writeBlockReg
        extract_lets -underBinder -merge -useContext +onlyGivenNames idx
        split
        · exact up hx (touch_set_low _ _) (sub_trans (B := 0x3028) rfl hA) (Nat.zero_and P)
        · extract_lets -underBinder -merge -useContext +onlyGivenNames offs lows t1 t2
          have h3 : lows = [] := by simp [lows, offs, hl]
          have ht1 : m.touch A P t1 := by
            have : t1 = x := by simp [t1, h3, Mach.each]
            rw [this]; exact hx
          have ht2 : m.touch A P t2 := by
            refine hact _ _ _ ?_
            refine up ?_ (touch_set_low _ _) (sub_trans (B := 0x3028) rfl hA) (Nat.zero_and P)
            exact up ht1 (storeWord_touch _ _ _ _ _ hP hp ho) (sub_trans (B := 0x3028) rfl hA) hP0
          split
          · exact ht2
          · refine up ?_ (Mach.auditWrite_touch ..) (sub_trans (B := 0x3028) rfl hA) (Nat.zero_and P)
            exact touch_each ht2 fun y z hz => up hz (Mach.auditWrite_touch ..) (sub_trans (B := 0x3028) rfl hA) (Nat.zero_and P)

/-! ### A command of Vrelti -/

theorem touch_accept {A P : Nat} {m x : Mach} (hx : m.touch A P x) (tr : Transport) (route : Route) (vc : VCommand) (at_ : Nat)
    (hA : sub 0x7100 A) (hrun : ∀ y, m.touch A P y → m.touch A P (y.runOpcode tr vc).1) : m.touch A P (x.accept tr route vc at_) := by
  have hP : sub 0 P := Nat.zero_and P
  unfold Mach.accept
  extract_lets -underBinder -merge -useContext +onlyGivenNames o t1
  have h1 : m.touch A P t1 := by
    refine up ?_ (Mach.onCmd_touch ..) (sub_trans (B := 0x7100) rfl hA) hP
    exact touch_ite (fun _ => up hx (Mach.releaseStored_touch ..) (sub_trans (B := 0x7100) rfl hA) hP) fun _ => hx
  clear_value t1
  split <;> rename_i he
  · exact up (touch_fst he (hrun _ h1)) (Mach.finishTag_touch ..) (sub_trans (B := 0x7100) rfl hA) hP
  · exact touch_fst he (hrun _ h1)

theorem touch_checkPage {A P : Nat} {m x : Mach} (hx : m.touch A P x) (tr : Transport) (route : Route) (vc : VCommand) (b : Bool) (at_ : Nat)
    (hA : sub 0x7108 A) (hP : P.testBit 0x36 = true) (hrun : ∀ y, m.touch A P y → m.touch A P (y.runOpcode tr vc).1) :
    m.touch A P (x.checkPage tr route vc b at_) := by
  have hacc : m.touch A P (x.accept tr route vc at_) := touch_accept hx tr route vc at_ (sub_trans (B := 0x7108) rfl hA) hrun
  have hP0 : sub 0 P := Nat.zero_and P
  have hPP : sub P P := Nat.and_self P
  unfold Mach.checkPage
  refine touch_ite (fun _ => ?_) (fun _ => touch_ite (fun _ => ?_) (fun _ => hacc))
  · exact up hx (Mach.refuse_touch ..) (sub_trans (B := 0x7108) rfl hA) hP0
  · unfold Mach.takeAgain
    split
    · refine up hx (Mach.count_touch (P := P) _ _ _ _ ?_) (sub_trans (B := 0x7108) rfl hA) hPP
      have : CMD_DUP_n.page = 0x36 := rfl
      simp only [Fd.within, this, hP]; rfl
    · exact touch_ite (fun _ => up hx (Mach.reply_touch ..) (sub_trans (B := 0x7108) rfl hA) hP0) (fun _ => hacc)
    · exact hacc

/-- A command received: the checks, the answer, and what its opcode does. -/
theorem touch_receive {A P : Nat} {m x : Mach} (hx : m.touch A P x) (tr : Transport) (route : Route) (vc : VCommand) (at_ : Nat)
    (hA : sub 0x11f9cf90a A) (hP : sub 0x72ffff00071818 P) (hrun : ∀ y, m.touch A P y → m.touch A P (y.runOpcode tr vc).1) :
    m.touch A P (x.receive tr route vc at_) := by
  have s0 : ∀ {B}, sub B 0x11f9cf90a → sub B A := fun h => sub_trans h hA
  have p0 : ∀ {Q}, sub Q 0x72ffff00071818 → sub Q P := fun h => sub_trans h hP
  have hbit : P.testBit 0x36 = true := by
    have h := congrArg (Nat.testBit · 0x36) hP
    simp only [Nat.testBit_and] at h
    have h54 : Nat.testBit 0x72ffff00071818 0x36 = true := by decide
    rw [h54] at h; simpa using h
  have hpage : ∀ {y b}, m.touch A P y → m.touch A P (y.checkPage tr route vc b at_) := fun hy =>
    touch_checkPage hy tr route vc _ _ (s0 rfl) hbit hrun
  have href : ∀ {y b n}, m.touch A P y → m.touch A P (y.refuse tr route vc b n) := fun hy =>
    up hy (Mach.refuse_touch ..) (s0 rfl) (Nat.zero_and P)
  have hev : ∀ {y b}, m.touch A P y → m.touch A P (y.event 0x36 b) := fun hy =>
    up hy (Mach.event_touch (P := 0x72ffff00071818) _ _ _ _ rfl (by decide)) (s0 rfl) (p0 rfl)
  have hcnt : ∀ {y} (f : Fd), Fd.within 0x72ffff00071818 f = true → m.touch A P y → m.touch A P (y.count f) := fun f h hy =>
    up hy (Mach.count_touch (P := 0x72ffff00071818) _ _ _ _ h) (s0 rfl) (p0 rfl)
  have hfail : ∀ {y}, m.touch A P y → m.touch A P y.authFailed := fun hy => up hy (Mach.authFailed_touch _) (s0 rfl) (p0 rfl)
  unfold Mach.receive
  extract_lets -underBinder -merge -useContext +onlyGivenNames op held
  clear_value op held
  refine touch_ite (fun _ => href (hev (hcnt _ rfl hx))) fun _ => ?_
  refine touch_ite (fun _ => href (hev hx)) fun _ => ?_
  refine touch_ite (fun _ => href (hev (hcnt _ rfl hx))) fun _ => ?_
  refine touch_ite (fun _ => href (hev (hcnt _ rfl hx))) fun _ => ?_
  refine touch_ite (fun _ => href hx) fun _ => ?_
  refine touch_ite (fun _ => href (hfail hx)) fun _ => ?_
  refine touch_ite (fun _ => ?_) (fun _ => hpage hx)
  unfold Mach.checkAuth
  split
  · exact href (hev hx)
  · refine touch_ite (fun _ => href (hfail hx)) fun _ => ?_
    have h1 : m.touch A P x.authPassed := up hx (Mach.authPassed_touch _) (s0 rfl) (p0 rfl)
    refine touch_ite (fun _ => hpage h1) fun _ => ?_
    refine touch_ite (fun _ => href (hev h1)) fun _ => ?_
    exact hpage (up h1 (Mach.acceptFresh_touch ..) (s0 rfl) (p0 rfl))

/-- A row's command: what waits under it, or one that arrives now. -/
theorem touch_command {A P : Nat} {m x : Mach} (hx : m.touch A P x) (tr : Transport) (vc : VCommand) (hA : sub 0x11f9cf90a A)
    (hP : sub 0x72ffff00071818 P) (hrun : ∀ y, m.touch A P y → m.touch A P (y.runOpcode tr vc).1) :
    m.touch A P (x.command tr vc) := by
  unfold Mach.command
  split
  · refine touch_receive ?_ _ _ _ _ hA hP hrun
    exact up hx (Mach.onCmd_touch ..) (sub_trans (B := 0x11f9cf90a) rfl hA) (Nat.zero_and P)
  · refine touch_ite (fun _ => hx) fun _ => touch_ite (fun _ => ?_) fun _ => touch_receive hx _ _ _ _ hA hP hrun
    exact up hx (Mach.onCmd_touch ..) (sub_trans (B := 0x11f9cf90a) rfl hA) (Nat.zero_and P)

/-! ### Commands -/

/-- What a command does: it goes on to a next state in which only the module changed, and that within a frame. -/
def Moves (A P : Nat) (s : State) (o : Host.Outcome State Fault Refusal) : Prop :=
  ∃ m', o = .next { s with m := m' } ∧ s.m.touch A P m'

theorem run_moves {A P : Nat} {s : State} {t : Nat} {f : Mach → Mach} (hA : sub 1 A)
    (hf : ∀ m0 x : Mach, m0.touch A P x → m0.touch A P (f x)) : Moves A P s (s.run t f) := by
  refine ⟨_, rfl, ?_⟩
  split
  · exact hf _ _ (touch_mono (Mach.advance_touch _ _) hA (Nat.zero_and P))
  · exact touch_refl _ _ _

theorem runOff_moves {A P : Nat} {s : State} {t : Nat} {f : Mach → Mach} (hA : sub 1 A)
    (hf : ∀ m0 x : Mach, m0.touch A P x → m0.touch A P (f x)) : Moves A P s (s.runOff t f) :=
  ⟨_, rfl, hf _ _ (touch_mono (Mach.advance_touch _ _) hA (Nat.zero_and P))⟩

end Sys2Proof.Machine
end

