-- ==== Sys2Proof/Laws/Frame/HostRows.lean ====
section
/-! SUPPORT. The frame of each command (Access, WriteRows, Vrelti, CoilCmd, Rst, Image, Bulk, AdmRun, Rim, Pace, Coil). -/

namespace Sys2Proof.Machine

theorem execLowWordCaptureRead_moves (a0 : ℕ) (a1 : Src) (a2 : BitVec 8) (a3 : Span) (s : State) : Moves 0x43049 0xffffffffffffffffffffffffffffffffffffffffffffffffffffffffffffffff s (execLowWordCaptureRead a0 a1 a2 a3 s) := by
  unfold execLowWordCaptureRead
  refine run_moves rfl (fun m0 x hx => ?_)
  refine touch_app ?_ (Mach.readOut_touch ..) rfl rfl
  exact hx

theorem execPtpTxs3Read_moves (t : Nat) (src : Src) (s : State) : Moves 0x43049 0x40 s (execPtpTxs3Read t src s) := by
  unfold execPtpTxs3Read
  refine run_moves rfl (fun m0 x hx => ?_)
  unfold Mach.readOut
  refine touch_ite (fun _ => hx) fun _ => ?_
  refine touch_ite (fun h => absurd h (by decide)) fun _ => ?_
  split
  rename_i w y he
  refine touch_ite (fun h => absurd h (by decide)) fun _ => ?_
  exact touch_app (touch_app hx (touch_snd he (Mach.readAccess_touch ..)) rfl rfl) (Mach.emit_touch ..) rfl rfl

theorem touch_putLock {A P : Nat} {m x : Mach} (hx : m.touch A P x) (src : Src) (page v : Nat) (hA : sub 0x1fffebd1a A)
    (hP : sub 0xffffffffffffffffffffffffffffffffffffffffffffffffffffffffffffffff P) : m.touch A P (x.put src page 0x028 v) := by
  unfold Mach.put Mach.writeWord
  have hd : debugIgnored x src page 0x028 = false := by simp [debugIgnored]
  split
  · refine up (up hx (Mach.reject_any ..) (sub_trans (B := 0x1fffebd1a) rfl hA) hP) (Mach.event_any ..) (sub_trans (B := 0x1fffebd1a) rfl hA) hP
  · rw [hd]
    exact up hx (Mach.writeLock_touch ..) hA hP

theorem execPageLockCommit_moves (t : Nat) (src : Src) (page : BitVec 8) (s : State) :
    Moves 0x1fffebd1b 0xffffffffffffffffffffffffffffffffffffffffffffffffffffffffffffffff s (execPageLockCommit t src page s) := by
  unfold execPageLockCommit
  exact run_moves rfl fun m0 x hx => touch_putLock hx _ _ _ rfl rfl

theorem execPageLockUnlock_moves (t : Nat) (src : Src) (page : BitVec 8) (s : State) :
    Moves 0x1fffebd1b 0xffffffffffffffffffffffffffffffffffffffffffffffffffffffffffffffff s (execPageLockUnlock t src page s) := by
  unfold execPageLockUnlock
  exact run_moves rfl fun m0 x hx => touch_putLock hx _ _ _ rfl rfl

theorem execSoftReset_moves (a0 : ℕ) (a1 : Src) (a2 : BitVec 8) (s : State) : Moves 0x3fffffdbb 0xffffffffffffffffffffffffffffffffffffffffffffffffffffffffffffffff s (execSoftReset a0 a1 a2 s) := by
  unfold execSoftReset
  refine run_moves rfl (fun m0 x hx => ?_)
  refine touch_app ?_ (Mach.put_touch ..) rfl rfl
  exact hx

theorem execSoftResetComplete_moves (a0 : ℕ) (a1 : BitVec 8) (s : State) : Moves 0x109 0xffffffffffffffffffffffffffffffffffffffffffffffffffffffffffffffff s (execSoftResetComplete a0 a1 s) := by
  unfold execSoftResetComplete
  refine run_moves rfl (fun m0 x hx => ?_)
  refine touch_app ?_ (Mach.softResetDone_touch ..) rfl rfl
  exact hx

theorem execAdmCtrlAdmit_moves (t : Nat) (src : Src) (s : State) :
    Moves 0x203029 0x100 s (execAdmCtrlAdmit t src s) := by
  unfold execAdmCtrlAdmit
  refine run_moves rfl fun m0 x hx => ?_
  refine touch_put hx _ 0x08 0x040 _ rfl rfl rfl rfl fun y i w hy => ?_
  exact touch_app hy (Mach.admCtrl_touch ..) rfl rfl

theorem execAdmCtrlCheck_moves (t : Nat) (src : Src) (s : State) :
    Moves 0x203029 0x100 s (execAdmCtrlCheck t src s) := by
  unfold execAdmCtrlCheck
  refine run_moves rfl fun m0 x hx => ?_
  refine touch_put hx _ 0x08 0x040 _ rfl rfl rfl rfl fun y i w hy => ?_
  exact touch_app hy (Mach.admCtrl_touch ..) rfl rfl

theorem execPaceClrMinmax_moves (t : Nat) (src : Src) (s : State) :
    Moves 0x3029 0x4 s (execPaceClrMinmax t src s) := by
  unfold execPaceClrMinmax
  refine run_moves rfl fun m0 x hx => ?_
  refine touch_put hx _ 0x02 0x048 _ rfl rfl rfl rfl fun y i w hy => ?_
  exact touch_ite (fun _ => touch_app hy (Mach.clearPace_touch ..) rfl rfl) (fun _ => hy)

theorem execMsrClrExtremes_moves (t : Nat) (src : Src) (s : State) :
    Moves 0x3029 0x800 s (execMsrClrExtremes t src s) := by
  unfold execMsrClrExtremes
  refine run_moves rfl fun m0 x hx => ?_
  refine touch_put hx _ 0x0B 0x04C _ rfl rfl rfl rfl fun y i w hy => ?_
  exact touch_ite (fun _ => touch_app hy (Mach.msrClear_touch ..) rfl rfl) (fun _ => hy)

theorem execPartitionStart_moves (t : Nat) (src : Src) (part : Fin 64) (s : State) :
    Moves 0x3fc4b939 0x3effff00071208 s (execPartitionStart t src part s) := by
  unfold execPartitionStart
  refine run_moves rfl fun m0 x hx => ?_
  refine touch_put hx _ 0x32 0x04C _ rfl rfl rfl rfl fun y i w hy => ?_
  exact touch_app hy (Mach.vrtCommand_touch ..) rfl rfl

theorem execPartitionReset_moves (t : Nat) (src : Src) (part : Fin 64) (s : State) :
    Moves 0x3fc4b939 0x3effff00071208 s (execPartitionReset t src part s) := by
  unfold execPartitionReset
  refine run_moves rfl fun m0 x hx => ?_
  refine touch_put hx _ 0x32 0x04C _ rfl rfl rfl rfl fun y i w hy => ?_
  exact touch_app hy (Mach.vrtCommand_touch ..) rfl rfl

theorem execSlotReset_moves (t : Nat) (src : Src) (slot : Fin 4096) (s : State) :
    Moves 0x3fc4b939 0x3effff00071208 s (execSlotReset t src slot s) := by
  unfold execSlotReset
  refine run_moves rfl fun m0 x hx => ?_
  refine touch_put hx _ 0x32 0x04C _ rfl rfl rfl rfl fun y i w hy => ?_
  exact touch_app hy (Mach.vrtCommand_touch ..) rfl rfl

theorem execFreeze_moves (t : Nat) (src : Src) (s : State) :
    Moves 0x2c0b939 0x3c000000001208 s (execFreeze t src s) := by
  unfold execFreeze
  refine run_moves rfl fun m0 x hx => ?_
  refine touch_put hx _ 0x32 0x054 _ rfl rfl rfl rfl fun y i w hy => ?_
  exact touch_app hy (Mach.migCommand_touch ..) rfl rfl

theorem execThaw_moves (t : Nat) (src : Src) (s : State) :
    Moves 0x2c0b939 0x3c000000001208 s (execThaw t src s) := by
  unfold execThaw
  refine run_moves rfl fun m0 x hx => ?_
  refine touch_put hx _ 0x32 0x054 _ rfl rfl rfl rfl fun y i w hy => ?_
  exact touch_app hy (Mach.migCommand_touch ..) rfl rfl

theorem execMgrRingDoorbell_moves (t : Nat) (src : Src) (prod : BitVec 16) (pks : List RingPacket) (s : State) :
    Moves 0x1f84b929 0x34ffff00070000 s (execMgrRingDoorbell t src prod pks s) := by
  unfold execMgrRingDoorbell
  refine run_moves rfl fun m0 x hx => ?_
  unfold Mach.mgrDoorbell
  refine touch_ite (fun _ => hx) fun _ => ?_
  split
  · exact up hx (rejectWord_touch (P := 0x34ffff00070000) _ _ _ _ _ _ rfl (by decide)) rfl rfl
  · refine touch_app ?_ (Mach.mgrRing_touch ..) rfl rfl
    refine touch_app ?_ (Mach.auditWrite_touch ..) rfl rfl
    exact up hx (storeWord_touch (P := 0x34ffff00070000) _ _ _ _ _ rfl (by decide) (by decide)) rfl rfl


theorem execDrtRearm_moves (t : Nat) (src : Src) (s : State) :
    Moves 0x2003029 0x10000000000000 s (execDrtRearm t src s) := by
  unfold execDrtRearm
  refine run_moves rfl fun m0 x hx => ?_
  refine touch_put hx _ 0x34 0x064 _ rfl rfl rfl rfl fun y i w hy => ?_
  exact touch_ite (fun _ => touch_app hy (Mach.rearm_touch ..) rfl rfl) (fun _ => hy)

theorem execSlotResume_moves (t : Nat) (src : Src) (s : State) :
    Moves 0x403029 0x200 s (execSlotResume t src s) := by
  unfold execSlotResume
  refine run_moves rfl fun m0 x hx => ?_
  refine touch_put hx _ 0x09 0x090 _ rfl rfl rfl rfl fun y i w hy => ?_
  exact touch_app hy (Mach.slotCommand_touch ..) rfl rfl

theorem execSlotClrMax_moves (t : Nat) (src : Src) (s : State) :
    Moves 0x403029 0x200 s (execSlotClrMax t src s) := by
  unfold execSlotClrMax
  refine run_moves rfl fun m0 x hx => ?_
  refine touch_put hx _ 0x09 0x090 _ rfl rfl rfl rfl fun y i w hy => ?_
  exact touch_app hy (Mach.slotCommand_touch ..) rfl rfl

theorem execTwnCmdSwap_moves (t : Nat) (src : Src) (s : State) :
    Moves 0x1fdcb929 0x32ffff00071a00 s (execTwnCmdSwap t src s) := by
  unfold execTwnCmdSwap
  refine run_moves rfl fun m0 x hx => ?_
  refine touch_put hx _ 0x31 0x06C _ rfl rfl rfl rfl fun y i w hy => ?_
  exact touch_app hy (Mach.twnCommand_touch ..) rfl rfl

theorem execTwnCmdLead_moves (t : Nat) (src : Src) (s : State) :
    Moves 0x1fdcb929 0x32ffff00071a00 s (execTwnCmdLead t src s) := by
  unfold execTwnCmdLead
  refine run_moves rfl fun m0 x hx => ?_
  refine touch_put hx _ 0x31 0x06C _ rfl rfl rfl rfl fun y i w hy => ?_
  exact touch_app hy (Mach.twnCommand_touch ..) rfl rfl

theorem execTwnCmdRejoin_moves (t : Nat) (src : Src) (s : State) :
    Moves 0x1fdcb929 0x32ffff00071a00 s (execTwnCmdRejoin t src s) := by
  unfold execTwnCmdRejoin
  refine run_moves rfl fun m0 x hx => ?_
  refine touch_put hx _ 0x31 0x06C _ rfl rfl rfl rfl fun y i w hy => ?_
  exact touch_app hy (Mach.twnCommand_touch ..) rfl rfl

theorem execSwcCmdPairing_moves (t : Nat) (src : Src) (s : State) :
    Moves 0x1f84b929 0x30ffff00050000 s (execSwcCmdPairing t src s) := by
  unfold execSwcCmdPairing
  refine run_moves rfl fun m0 x hx => ?_
  refine touch_put hx _ 0x10 0x044 _ rfl rfl rfl rfl fun y i w hy => ?_
  exact touch_app hy (Mach.swcCommand_touch ..) rfl rfl

theorem execSwcCmdSelftest_moves (t : Nat) (src : Src) (s : State) :
    Moves 0x1f84b929 0x30ffff00050000 s (execSwcCmdSelftest t src s) := by
  unfold execSwcCmdSelftest
  refine run_moves rfl fun m0 x hx => ?_
  refine touch_put hx _ 0x10 0x044 _ rfl rfl rfl rfl fun y i w hy => ?_
  exact touch_app hy (Mach.swcCommand_touch ..) rfl rfl

theorem execSwcCmdRanding_moves (t : Nat) (src : Src) (s : State) :
    Moves 0x1f84b929 0x30ffff00050000 s (execSwcCmdRanding t src s) := by
  unfold execSwcCmdRanding
  refine run_moves rfl fun m0 x hx => ?_
  refine touch_put hx _ 0x10 0x044 _ rfl rfl rfl rfl fun y i w hy => ?_
  exact touch_app hy (Mach.swcCommand_touch ..) rfl rfl

theorem execSwcMemMaxClear_moves (t : Nat) (src : Src) (s : State) :
    Moves 0x3029 0x10000 s (execSwcMemMaxClear t src s) := by
  unfold execSwcMemMaxClear
  refine run_moves rfl fun m0 x hx => ?_
  refine touch_put hx _ 0x10 0x054 _ rfl rfl rfl rfl fun y i w hy => ?_
  exact touch_ite (fun _ => touch_app hy (Mach.setFld_touch (P := 0x10000) _ _ _ _ rfl) rfl rfl) (fun _ => hy)

theorem execAcqManualTrigger_moves (t : Nat) (src : Src) (s : State) :
    Moves 0x20003029 0x2000 s (execAcqManualTrigger t src s) := by
  unfold execAcqManualTrigger
  refine run_moves rfl fun m0 x hx => ?_
  refine touch_put hx _ 0x0D 0x078 _ rfl rfl rfl rfl fun y i w hy => ?_
  exact touch_app hy (Mach.acqCommand_touch ..) rfl rfl

theorem execAcqRelease_moves (t : Nat) (src : Src) (s : State) :
    Moves 0x20003029 0x2000 s (execAcqRelease t src s) := by
  unfold execAcqRelease
  refine run_moves rfl fun m0 x hx => ?_
  refine touch_put hx _ 0x0D 0x078 _ rfl rfl rfl rfl fun y i w hy => ?_
  exact touch_app hy (Mach.acqCommand_touch ..) rfl rfl

theorem execNrgLatch_moves (t : Nat) (src : Src) (s : State) :
    Moves 0x40003029 0x4000 s (execNrgLatch t src s) := by
  unfold execNrgLatch
  refine run_moves rfl fun m0 x hx => ?_
  refine touch_put hx _ 0x0E 0x074 _ rfl rfl rfl rfl fun y i w hy => ?_
  exact touch_app hy (Mach.nrgCommand_touch ..) rfl rfl

theorem execNrgClrPeak_moves (t : Nat) (src : Src) (s : State) :
    Moves 0x40003029 0x4000 s (execNrgClrPeak t src s) := by
  unfold execNrgClrPeak
  refine run_moves rfl fun m0 x hx => ?_
  refine touch_put hx _ 0x0E 0x074 _ rfl rfl rfl rfl fun y i w hy => ?_
  exact touch_app hy (Mach.nrgCommand_touch ..) rfl rfl

theorem execPlsLatch_moves (t : Nat) (src : Src) (s : State) :
    Moves 0x3029 0x8000 s (execPlsLatch t src s) := by
  unfold execPlsLatch
  refine run_moves rfl fun m0 x hx => ?_
  refine touch_put hx _ 0x0F 0x058 _ rfl rfl rfl rfl fun y i w hy => ?_
  exact touch_ite (fun _ => touch_app hy (Mach.plsLatchAll_touch ..) rfl rfl) (fun _ => hy)

theorem execCoilCmdFlush_moves (t : Nat) (src : Src) (s : State) :
    Moves 0x200003029 0x80 s (execCoilCmdFlush t src s) := by
  unfold execCoilCmdFlush
  refine run_moves rfl fun m0 x hx => ?_
  refine touch_put hx _ 0x07 0x058 _ rfl rfl rfl rfl fun y i w hy => ?_
  exact touch_app hy (Mach.coilCommand_touch ..) rfl rfl

theorem execCoilCmdLgClear_moves (t : Nat) (src : Src) (s : State) :
    Moves 0x200003029 0x80 s (execCoilCmdLgClear t src s) := by
  unfold execCoilCmdLgClear
  refine run_moves rfl fun m0 x hx => ?_
  refine touch_put hx _ 0x07 0x058 _ rfl rfl rfl rfl fun y i w hy => ?_
  exact touch_app hy (Mach.coilCommand_touch ..) rfl rfl

theorem execCoilFifoClearMax_moves (t : Nat) (src : Src) (s : State) :
    Moves 0x3029 0x80 s (execCoilFifoClearMax t src s) := by
  unfold execCoilFifoClearMax
  refine run_moves rfl fun m0 x hx => ?_
  refine touch_put hx _ 0x07 0x06C _ rfl rfl rfl rfl fun y i w hy => ?_
  exact touch_ite (fun _ => touch_app hy (Mach.clearFifoMax_touch ..) rfl rfl) (fun _ => hy)

theorem execRstKick_moves (t : Nat) (src : Src) (s : State) :
    Moves 0x3129 0x2 s (execRstKick t src s) := by
  unfold execRstKick
  refine run_moves rfl fun m0 x hx => ?_
  refine touch_put hx _ 0x01 0x050 _ rfl rfl rfl rfl fun y i w hy => ?_
  exact touch_ite (fun _ => touch_app hy (Mach.armWatchdog_touch ..) rfl rfl) (fun _ => hy)

theorem execSvAdvance_moves (t : Nat) (src : Src) (s : State) :
    Moves 0x3029 0x8 s (execSvAdvance t src s) := by
  unfold execSvAdvance
  refine run_moves rfl fun m0 x hx => ?_
  refine touch_put hx _ 0x03 0x058 _ rfl rfl rfl rfl fun y i w hy => ?_
  exact touch_ite (fun _ => touch_app hy (Mach.svAdvance_touch ..) rfl rfl) (fun _ => hy)

theorem execPcieCmdDoorbell_moves (a0 : ℕ) (a1 : BitVec 5) (a2 : HostWrites) (s : State) : Moves 0x7009 0x40000000000000 s (execPcieCmdDoorbell a0 a1 a2 s) := by
  unfold execPcieCmdDoorbell
  refine run_moves rfl (fun m0 x hx => ?_)
  refine touch_app ?_ (Mach.cmdDoorbell_touch ..) rfl rfl
  exact hx

theorem execPcieResponseConsumed_moves (a0 : ℕ) (a1 : BitVec 5) (s : State) : Moves 0x7009 0x40000000000000 s (execPcieResponseConsumed a0 a1 s) := by
  unfold execPcieResponseConsumed
  refine run_moves rfl (fun m0 x hx => ?_)
  refine touch_app ?_ (Mach.consumed_touch ..) rfl rfl
  exact hx

theorem execPciePerst_moves (a0 : ℕ) (s : State) : Moves 0x100207109 0x110 s (execPciePerst a0 s) := by
  unfold execPciePerst
  refine run_moves rfl (fun m0 x hx => ?_)
  refine touch_app ?_ (Mach.perst_touch ..) rfl rfl
  exact hx

theorem execPciePerstRelease_moves (a0 : ℕ) (s : State) : Moves 0x4001 0x0 s (execPciePerstRelease a0 s) := by
  unfold execPciePerstRelease
  refine run_moves rfl (fun m0 x hx => ?_)
  refine touch_app ?_ (Mach.onCmd_touch ..) rfl rfl
  exact hx

theorem execManagementLinkChange_moves (a0 : ℕ) (a1 : Bool) (a2 : Bool) (s : State) : Moves 0x4001 0x0 s (execManagementLinkChange a0 a1 a2 s) := by
  unfold execManagementLinkChange
  refine run_moves rfl (fun m0 x hx => ?_)
  refine touch_app ?_ (Mach.onCmd_touch ..) rfl rfl
  exact hx

theorem execUdpSegment_moves (a0 : ℕ) (a1 : UdpSegment) (s : State) : Moves 0x7009 0x40000000000000 s (execUdpSegment a0 a1 s) := by
  unfold execUdpSegment
  refine run_moves rfl (fun m0 x hx => ?_)
  refine touch_app ?_ (Mach.segment_touch ..) rfl rfl
  exact hx

theorem execPartialPacketTimeout_moves (a0 : ℕ) (a1 : Transport) (a2 : Byte) (a3 : Option VPacket) (a4 : Word) (a5 : BitVec 16) (a6 : BitVec 16) (s : State) : Moves 0x7009 0x40000000000000 s (execPartialPacketTimeout a0 a1 a2 a3 a4 a5 a6 s) := by
  unfold execPartialPacketTimeout
  refine run_moves rfl (fun m0 x hx => ?_)
  refine touch_app ?_ (Mach.partialTimeout_touch ..) rfl rfl
  exact hx

theorem execRegRead_moves (t : Nat) (tr : Transport) (pk : VPacket) (s : State) :
    Moves 0x11f9cf94b 0xffffffffffffffffffffffffffffffffffffffffffffffffffffffffffffffff s (execRegRead t tr pk s) := by
  unfold execRegRead
  refine run_moves rfl fun m0 x hx => touch_command hx _ _ rfl rfl fun y hy => ?_
  unfold Mach.runOpcode
  change Mach.touch1 _ _ m0 _
  extract_lets -underBinder -merge -useContext +onlyGivenNames pk
  split
  · exact hy
  · exact touch_app hy (Mach.doRead_touch ..) rfl rfl

theorem execRegWrite_moves (t : Nat) (tr : Transport) (pk : VPacket) (s : State) :
    Moves 0x7ffffffbb 0xffffffffffffffffffffffffffffffffffffffffffffffffffffffffffffffff s (execRegWrite t tr pk s) := by
  unfold execRegWrite
  refine run_moves rfl fun m0 x hx => touch_command hx _ _ rfl rfl fun y hy => ?_
  unfold Mach.runOpcode
  change Mach.touch1 _ _ m0 _
  extract_lets -underBinder -merge -useContext +onlyGivenNames pk
  split
  · exact hy
  · exact touch_app hy (Mach.doWrite_touch ..) rfl rfl

theorem execRegRmw_moves (t : Nat) (tr : Transport) (pk : VPacket) (s : State) :
    Moves 0x7fffffffb 0xffffffffffffffffffffffffffffffffffffffffffffffffffffffffffffffff s (execRegRmw t tr pk s) := by
  unfold execRegRmw
  refine run_moves rfl fun m0 x hx => touch_command hx _ _ rfl rfl fun y hy => ?_
  unfold Mach.runOpcode
  change Mach.touch1 _ _ m0 _
  extract_lets -underBinder -merge -useContext +onlyGivenNames pk
  split
  · exact hy
  · exact touch_app hy (Mach.doRmw_touch ..) rfl rfl

theorem execVreltiCommit_moves (t : Nat) (tr : Transport) (pk : VPacket) (s : State) :
    Moves 0x1fffefd1b 0xffffffffffffffffffffffffffffffffffffffffffffffffffffffffffffffff s (execVreltiCommit t tr pk s) := by
  unfold execVreltiCommit
  refine run_moves rfl fun m0 x hx => touch_command hx _ _ rfl rfl fun y hy => ?_
  unfold Mach.runOpcode
  change Mach.touch1 _ _ m0 _
  extract_lets -underBinder -merge -useContext +onlyGivenNames pk
  split
  · exact hy
  · exact touch_app hy (Mach.doLock_touch ..) rfl rfl

theorem execVreltiUnlock_moves (t : Nat) (tr : Transport) (pk : VPacket) (s : State) :
    Moves 0x1fffefd1b 0xffffffffffffffffffffffffffffffffffffffffffffffffffffffffffffffff s (execVreltiUnlock t tr pk s) := by
  unfold execVreltiUnlock
  refine run_moves rfl fun m0 x hx => touch_command hx _ _ rfl rfl fun y hy => ?_
  unfold Mach.runOpcode
  change Mach.touch1 _ _ m0 _
  extract_lets -underBinder -merge -useContext +onlyGivenNames pk
  split
  · exact hy
  · exact touch_app hy (Mach.doLock_touch ..) rfl rfl

theorem execVreltiAdmit_moves (t : Nat) (tr : Transport) (pk : VPacket) (s : State) :
    Moves 0x11fbcf90b 0x72ffff00071918 s (execVreltiAdmit t tr pk s) := by
  unfold execVreltiAdmit
  refine run_moves rfl fun m0 x hx => touch_command hx _ _ rfl rfl fun y hy => ?_
  unfold Mach.runOpcode
  change Mach.touch1 _ _ m0 _
  extract_lets -underBinder -merge -useContext +onlyGivenNames pk
  split
  · exact hy
  · exact touch_app hy (Mach.doAdmit_touch ..) rfl rfl

theorem execBulkRead_moves (t : Nat) (tr : Transport) (pk : VPacket) (s : State) :
    Moves 0x15f9cf90b 0x72ffff00075818 s (execBulkRead t tr pk s) := by
  unfold execBulkRead
  refine run_moves rfl fun m0 x hx => touch_command hx _ _ rfl rfl fun y hy => ?_
  unfold Mach.runOpcode
  change Mach.touch1 _ _ m0 _
  extract_lets -underBinder -merge -useContext +onlyGivenNames pk
  split
  · exact hy
  · exact touch_app hy (Mach.doBulkRead_touch ..) rfl rfl

theorem execBulkWrite_moves (t : Nat) (tr : Transport) (pk : VPacket) (s : State) :
    Moves 0x11f9cfb0b 0xffffffffffffffffffffffffffffffffffffffffffffffffffffffffffffffff s (execBulkWrite t tr pk s) := by
  unfold execBulkWrite
  refine run_moves rfl fun m0 x hx => touch_command hx _ _ rfl rfl fun y hy => ?_
  unfold Mach.runOpcode
  change Mach.touch1 _ _ m0 _
  extract_lets -underBinder -merge -useContext +onlyGivenNames pk
  split
  · exact hy
  · exact touch_app hy (Mach.doBulkWrite_touch ..) rfl rfl

theorem execImageLoad_moves (t : Nat) (tr : Transport) (pk : VPacket) (s : State) :
    Moves 0x11f9cf90b 0x72ffff00071818 s (execImageLoad t tr pk s) := by
  unfold execImageLoad
  refine run_moves rfl fun m0 x hx => touch_command hx _ _ rfl rfl fun y hy => ?_
  unfold Mach.runOpcode
  change Mach.touch1 _ _ m0 _
  extract_lets -underBinder -merge -useContext +onlyGivenNames pk
  split
  · exact hy
  · exact touch_app hy (Mach.doChunk_touch ..) rfl rfl

theorem execImageVerifyDone_moves (a0 : ℕ) (s : State) : Moves 0x200007109 0x2 s (execImageVerifyDone a0 s) := by
  unfold execImageVerifyDone
  refine run_moves rfl (fun m0 x hx => ?_)
  refine touch_app ?_ (Mach.imageVerified_touch ..) rfl rfl
  exact hx

theorem execFwLoad_moves (t : Nat) (tr : Transport) (pk : VPacket) (s : State) :
    Moves 0x11f9cf90b 0x72ffff00071818 s (execFwLoad t tr pk s) := by
  unfold execFwLoad
  refine run_moves rfl fun m0 x hx => touch_command hx _ _ rfl rfl fun y hy => ?_
  unfold Mach.runOpcode
  change Mach.touch1 _ _ m0 _
  extract_lets -underBinder -merge -useContext +onlyGivenNames pk
  split
  · exact hy
  · exact touch_app hy (Mach.doChunk_touch ..) rfl rfl

theorem execFwVerifyDone_moves (a0 : ℕ) (s : State) : Moves 0x7ffffffff 0xffffffffffffffffffffffffffffffffffffffffffffffffffffffffffffffff s (execFwVerifyDone a0 s) := by
  unfold execFwVerifyDone
  refine run_moves rfl (fun m0 x hx => ?_)
  refine touch_app ?_ (Mach.firmwareVerified_touch ..) rfl rfl
  exact hx

theorem execKeyLoad_moves (t : Nat) (tr : Transport) (pk : VPacket) (s : State) :
    Moves 0x11f9cf90b 0x72ffff00071818 s (execKeyLoad t tr pk s) := by
  unfold execKeyLoad
  refine run_moves rfl fun m0 x hx => touch_command hx _ _ rfl rfl fun y hy => ?_
  unfold Mach.runOpcode
  change Mach.touch1 _ _ m0 _
  extract_lets -underBinder -merge -useContext +onlyGivenNames pk
  split
  · exact hy
  · exact touch_app hy (Mach.doKeyLoad_touch ..) rfl rfl

theorem execNop_moves (t : Nat) (tr : Transport) (pk : VPacket) (s : State) :
    Moves 0x11f9cf90b 0x72ffff00071818 s (execNop t tr pk s) := by
  unfold execNop
  refine run_moves rfl fun m0 x hx => touch_command hx _ _ rfl rfl fun y hy => ?_
  unfold Mach.runOpcode
  change Mach.touch1 _ _ m0 _
  extract_lets -underBinder -merge -useContext +onlyGivenNames pk
  split
  · exact hy
  · exact hy

theorem execCommandTimeout_moves (a0 : ℕ) (a1 : Transport) (a2 : BitVec 5) (s : State) : Moves 0x100207109 0x40000000000110 s (execCommandTimeout a0 a1 a2 s) := by
  unfold execCommandTimeout
  refine run_moves rfl (fun m0 x hx => ?_)
  refine touch_app ?_ (Mach.cmdTimeout_touch ..) rfl rfl
  exact hx

theorem execStoredResponseExpiry_moves (a0 : ℕ) (a1 : Transport) (a2 : BitVec 5) (s : State) : Moves 0x4101 0x0 s (execStoredResponseExpiry a0 a1 a2 s) := by
  unfold execStoredResponseExpiry
  refine run_moves rfl (fun m0 x hx => ?_)
  refine touch_onExpiry ?_ rfl (fun x hx => ?_)
  · exact hx
  · refine touch_app ?_ (Mach.releaseStored_touch ..) rfl rfl
    exact hx

theorem execRimClear_moves (t : Nat) (tr : Transport) (pk : VPacket) (s : State) :
    Moves 0x7ffffffbb 0xffffffffffffffffffffffffffffffffffffffffffffffffffffffffffffffff s (execRimClear t tr pk s) := by
  unfold execRimClear
  refine run_moves rfl fun m0 x hx => touch_command hx _ _ rfl rfl fun y hy => ?_
  unfold Mach.runOpcode
  change Mach.touch1 _ _ m0 _
  extract_lets -underBinder -merge -useContext +onlyGivenNames pk
  split
  · exact hy
  · exact touch_app hy (Mach.doWrite_touch ..) rfl rfl

theorem execCoilEventIntake_moves (a0 : ℕ) (a1 : CoilEvent) (s : State) : Moves 0x3009 0x0 s (execCoilEventIntake a0 a1 s) := by
  unfold execCoilEventIntake
  refine run_moves rfl (fun m0 x hx => ?_)
  refine touch_app ?_ (Mach.coilTake_touch ..) rfl rfl
  exact hx

theorem execCoilRecordWrite_moves (a0 : ℕ) (s : State) : Moves 0x3009 0x0 s (execCoilRecordWrite a0 s) := by
  unfold execCoilRecordWrite
  refine run_moves rfl (fun m0 x hx => ?_)
  refine touch_app ?_ (Mach.takeHead_touch ..) rfl rfl
  exact hx

theorem execCoilFoldRewrite_moves (a0 : ℕ) (s : State) : Moves 0x3009 0x0 s (execCoilFoldRewrite a0 s) := by
  unfold execCoilFoldRewrite
  refine run_moves rfl (fun m0 x hx => ?_)
  split
  · refine touch_app ?_ (Mach.rewriteRec_touch ..) rfl rfl
    exact hx
  · exact hx

theorem execPaceWindowEnd_moves (a0 : ℕ) (a1 : List (Option (BitVec 16))) (s : State) : Moves 0x7ffffffbb 0xffffffffffffffffffffffffffffffffffffffffffffffffffffffffffffffff s (execPaceWindowEnd a0 a1 s) := by
  unfold execPaceWindowEnd
  refine run_moves rfl (fun m0 x hx => ?_)
  refine touch_app ?_ (Mach.resumeStart_touch ..) rfl rfl
  refine touch_app ?_ (Mach.paceWindow_touch ..) rfl rfl
  exact hx

theorem execHangWatchdogExpiry_moves (a0 : ℕ) (a1 : Stall) (s : State) : Moves 0x1f85b909 0xbcffff00050204 s (execHangWatchdogExpiry a0 a1 s) := by
  unfold execHangWatchdogExpiry
  refine run_moves rfl (fun m0 x hx => ?_)
  refine touch_app ?_ (Mach.hang_touch ..) rfl rfl
  exact hx

theorem execAdmissionComplete_moves (a0 : ℕ) (s : State) : Moves 0x51fbcfb0b 0xffffffffffffffffffffffffffffffffffffffffffffffffffffffffffffffff s (execAdmissionComplete a0 s) := by
  unfold execAdmissionComplete
  refine run_moves rfl (fun m0 x hx => ?_)
  refine touch_app ?_ (Mach.admDone_touch ..) rfl rfl
  exact hx

theorem execShareFrameBoundary_moves (a0 : ℕ) (s : State) : Moves 0x5fffefd1b 0xffffffffffffffffffffffffffffffffffffffffffffffffffffffffffffffff s (execShareFrameBoundary a0 s) := by
  unfold execShareFrameBoundary
  refine run_moves rfl (fun m0 x hx => ?_)
  refine touch_app ?_ (Mach.shareFrame_touch ..) rfl rfl
  exact hx

theorem execRegisterWrite_moves (a0 : ℕ) (a1 : Src) (a2 : BitVec 8) (a3 : BitVec 12) (a4 : Width) (a5 : BitVec 64) (s : State) : Moves 0x7ffffffbb 0xffffffffffffffffffffffffffffffffffffffffffffffffffffffffffffffff s (execRegisterWrite a0 a1 a2 a3 a4 a5 s) := by
  unfold execRegisterWrite
  refine run_moves rfl (fun m0 x hx => ?_)
  refine touch_app ?_ (Mach.fullAccess_touch ..) rfl rfl
  exact hx

theorem execRstCmdModuleReset_moves (a0 : ℕ) (a1 : Src) (s : State) : Moves 0x7ffffffbb 0xffffffffffffffffffffffffffffffffffffffffffffffffffffffffffffffff s (execRstCmdModuleReset a0 a1 s) := by
  unfold execRstCmdModuleReset
  refine run_moves rfl (fun m0 x hx => ?_)
  refine touch_app ?_ (Mach.fullWrite_touch ..) rfl rfl
  exact hx

theorem execRstCmdApplyImage_moves (a0 : ℕ) (a1 : Src) (s : State) : Moves 0x7ffffffbb 0xffffffffffffffffffffffffffffffffffffffffffffffffffffffffffffffff s (execRstCmdApplyImage a0 a1 s) := by
  unfold execRstCmdApplyImage
  refine run_moves rfl (fun m0 x hx => ?_)
  refine touch_app ?_ (Mach.fullWrite_touch ..) rfl rfl
  exact hx

theorem execManagerWatchdogExpiry_moves (a0 : ℕ) (s : State) : Moves 0x500007109 0x2 s (execManagerWatchdogExpiry a0 s) := by
  unfold execManagerWatchdogExpiry
  refine run_moves rfl (fun m0 x hx => ?_)
  refine touch_onExpiry ?_ rfl (fun x hx => ?_)
  · exact hx
  · extract_lets -underBinder -merge -useContext +onlyGivenNames t0
    have ht0 : m0.touch 0x500007109 0x2 t0 := by
      unfold t0
      refine touch_app ?_ (Mach.event_touch (P := 0x2) _ _ _ _ rfl (by decide)) rfl rfl
      refine touch_app ?_ (Mach.count_touch (P := 0x2) _ _ _ _ rfl) rfl rfl
      exact hx
    try clear_value t0
    refine touch_ite (fun _ => ?_) (fun _ => ?_)
    · refine touch_app ?_ (Mach.resetAfterFlush_touch ..) rfl rfl
      exact ht0
    · exact ht0

theorem execLastGaspFlushComplete_moves (a0 : ℕ) (a1 : Bool) (s : State) : Moves 0x7ffffffff 0xffffffffffffffffffffffffffffffffffffffffffffffffffffffffffffffff s (execLastGaspFlushComplete a0 a1 s) := by
  unfold execLastGaspFlushComplete
  refine run_moves rfl (fun m0 x hx => ?_)
  refine touch_app ?_ (Mach.flushEnd_touch ..) rfl rfl
  exact hx

theorem execPgInFall_moves (a0 : ℕ) (s : State) : Moves 0x500007009 0x0 s (execPgInFall a0 s) := by
  unfold execPgInFall
  refine runOff_moves rfl (fun m0 x hx => ?_)
  extract_lets -underBinder -merge -useContext +onlyGivenNames t0
  have ht0 : m0.touch 0x500007009 0x0 t0 := by
    unfold t0
    refine touch_app ?_ (Mach.onRst_touch ..) rfl rfl
    exact hx
  try clear_value t0
  refine touch_ite (fun _ => ?_) (fun _ => ?_)
  · refine touch_app ?_ (Mach.powerFail_touch ..) rfl rfl
    exact ht0
  · exact ht0

theorem execPgInRise_moves (a0 : ℕ) (s : State) : Moves 0x5ffffffff 0xffffffffffffffffffffffffffffffffffffffffffffffffffffffffffffffff s (execPgInRise a0 s) := by
  unfold execPgInRise
  refine runOff_moves rfl (fun m0 x hx => ?_)
  refine touch_app ?_ (Mach.pgRise_touch ..) rfl rfl
  exact hx

theorem execNrstIn_moves (a0 : ℕ) (s : State) : Moves 0x500007009 0x0 s (execNrstIn a0 s) := by
  unfold execNrstIn
  refine run_moves rfl (fun m0 x hx => ?_)
  refine touch_app ?_ (Mach.resetAfterFlush_touch ..) rfl rfl
  exact hx

theorem execPowerOn_moves (a0 : ℕ) (a1 : BootInput) (s : State) : Moves 0x7ffffffff 0xffffffffffffffffffffffffffffffffffffffffffffffffffffffffffffffff s (execPowerOn a0 a1 s) := by
  unfold execPowerOn
  refine runOff_moves rfl (fun m0 x hx => ?_)
  refine touch_app ?_ (Mach.start_touch ..) rfl rfl
  refine touch_app ?_ (Mach.onRst_touch ..) rfl rfl
  refine touch_ite (fun _ => ?_) (fun _ => ?_)
  · exact hx
  · refine touch_app ?_ (Mach.moduleReset_touch ..) rfl rfl
    exact hx

theorem execVinUndervoltage_moves (a0 : ℕ) (s : State) : Moves 0x500007009 0x0 s (execVinUndervoltage a0 s) := by
  unfold execVinUndervoltage
  refine runOff_moves rfl (fun m0 x hx => ?_)
  extract_lets -underBinder -merge -useContext +onlyGivenNames t0
  have ht0 : m0.touch 0x500007009 0x0 t0 := by
    unfold t0
    refine touch_app ?_ (Mach.onRst_touch ..) rfl rfl
    exact hx
  try clear_value t0
  refine touch_ite (fun _ => ?_) (fun _ => ?_)
  · refine touch_app ?_ (Mach.powerFail_touch ..) rfl rfl
    exact ht0
  · exact ht0

theorem execVinOutOfRange_moves (a0 : ℕ) (a1 : BitVec 16) (s : State) : Moves 0x3009 0x1 s (execVinOutOfRange a0 a1 s) := by
  unfold execVinOutOfRange
  refine run_moves rfl (fun m0 x hx => ?_)
  extract_lets -underBinder -merge -useContext +onlyGivenNames t0
  have ht0 : m0.touch 0x3009 0x1 t0 := by
    unfold t0
    refine touch_app ?_ (Mach.setFld_touch (P := 0x1) _ _ _ _ rfl) rfl rfl
    exact hx
  try clear_value t0
  refine touch_ite (fun _ => ?_) (fun _ => ?_)
  · refine touch_app ?_ (Mach.event_touch (P := 0x1) _ _ _ _ rfl (by decide)) rfl rfl
    exact ht0
  · exact ht0

theorem execTjHigh_moves (a0 : ℕ) (a1 : BitVec 16) (s : State) : Moves 0x3009 0x1 s (execTjHigh a0 a1 s) := by
  unfold execTjHigh
  refine run_moves rfl (fun m0 x hx => ?_)
  extract_lets -underBinder -merge -useContext +onlyGivenNames t0
  have ht0 : m0.touch 0x3009 0x1 t0 := by
    unfold t0
    refine touch_app ?_ (Mach.setFld_touch (P := 0x1) _ _ _ _ rfl) rfl rfl
    exact hx
  try clear_value t0
  refine touch_ite (fun _ => ?_) (fun _ => ?_)
  · refine touch_app ?_ (Mach.event_touch (P := 0x1) _ _ _ _ rfl (by decide)) rfl rfl
    exact ht0
  · exact ht0

theorem execThermalTrip_moves (a0 : ℕ) (a1 : BitVec 16) (s : State) : Moves 0x500007009 0x1 s (execThermalTrip a0 a1 s) := by
  unfold execThermalTrip
  refine run_moves rfl (fun m0 x hx => ?_)
  extract_lets -underBinder -merge -useContext +onlyGivenNames t0
  have ht0 : m0.touch 0x500007009 0x1 t0 := by
    unfold t0
    refine touch_app ?_ (Mach.setFld_touch (P := 0x1) _ _ _ _ rfl) rfl rfl
    exact hx
  try clear_value t0
  refine touch_ite (fun _ => ?_) (fun _ => ?_)
  · refine touch_app ?_ (Mach.powerFail_touch ..) rfl rfl
    refine touch_app ?_ (Mach.onRst_touch ..) rfl rfl
    exact ht0
  · exact ht0

theorem execThermalRecovery_moves (a0 : ℕ) (a1 : BitVec 16) (s : State) : Moves 0x5ffffffff 0xffffffffffffffffffffffffffffffffffffffffffffffffffffffffffffffff s (execThermalRecovery a0 a1 s) := by
  unfold execThermalRecovery
  refine runOff_moves rfl (fun m0 x hx => ?_)
  refine touch_app ?_ (Mach.tryRecover_touch ..) rfl rfl
  refine touch_app ?_ (Mach.setFld_touch (P := 0xffffffffffffffffffffffffffffffffffffffffffffffffffffffffffffffff) _ _ _ _ rfl) rfl rfl
  exact hx

theorem execLidSwitchChange_moves (a0 : ℕ) (a1 : Bool) (s : State) : Moves 0x11f9cf90b 0x72ffff00071818 s (execLidSwitchChange a0 a1 s) := by
  unfold execLidSwitchChange
  refine run_moves rfl (fun m0 x hx => ?_)
  extract_lets -underBinder -merge -useContext +onlyGivenNames l0
  try clear_value l0
  extract_lets -underBinder -merge -useContext +onlyGivenNames t0
  have ht0 : m0.touch 0x11f9cf90b 0x72ffff00071818 t0 := by
    unfold t0
    refine touch_app ?_ (Mach.onRim_touch ..) rfl rfl
    exact hx
  try clear_value t0
  refine touch_ite (fun _ => ?_) (fun _ => ?_)
  · refine touch_ite (fun _ => ?_) (fun _ => ?_)
    · exact ht0
    · refine touch_app ?_ (Mach.fire_touch ..) rfl rfl
      exact ht0
  · refine touch_app ?_ (Mach.setActive_touch ..) rfl rfl
    exact ht0

theorem execMeshTest_moves (a0 : ℕ) (a1 : Bool) (s : State) : Moves 0x11f9cf90b 0x72ffff00071818 s (execMeshTest a0 a1 s) := by
  unfold execMeshTest
  refine run_moves rfl (fun m0 x hx => ?_)
  refine touch_ite (fun _ => ?_) (fun _ => ?_)
  · exact hx
  · refine touch_ite (fun _ => ?_) (fun _ => ?_)
    · refine touch_app ?_ (Mach.onRim_touch ..) rfl rfl
      exact hx
    · refine touch_ite (fun _ => ?_) (fun _ => ?_)
      · refine touch_app ?_ (Mach.onRim_touch ..) rfl rfl
        exact hx
      · refine touch_app ?_ (Mach.fire_touch ..) rfl rfl
        refine touch_app ?_ (Mach.onRim_touch ..) rfl rfl
        exact hx

theorem execVoltageGlitch_moves (a0 : ℕ) (a1 : Bool) (s : State) : Moves 0x11f9cf90b 0x72ffff00071818 s (execVoltageGlitch a0 a1 s) := by
  unfold execVoltageGlitch
  refine run_moves rfl (fun m0 x hx => ?_)
  refine touch_ite (fun _ => ?_) (fun _ => ?_)
  · refine touch_ite (fun _ => ?_) (fun _ => ?_)
    · exact hx
    · refine touch_app ?_ (Mach.fire_touch ..) rfl rfl
      exact hx
  · refine touch_app ?_ (Mach.setActive_touch ..) rfl rfl
    exact hx

theorem execKeyStoreEraseComplete_moves (a0 : ℕ) (s : State) : Moves 0x100000009 0x8 s (execKeyStoreEraseComplete a0 s) := by
  unfold execKeyStoreEraseComplete
  refine run_moves rfl (fun m0 x hx => ?_)
  refine touch_ite (fun _ => ?_) (fun _ => ?_)
  · refine touch_app ?_ (Mach.advanceGen_touch ..) rfl rfl
    refine touch_app ?_ (Mach.onRim_touch ..) rfl rfl
    exact hx
  · exact hx

theorem execKeyLoadFlashDone_moves (a0 : ℕ) (a1 : Bool) (s : State) : Moves 0x10000710b 0x40000000000010 s (execKeyLoadFlashDone a0 a1 s) := by
  unfold execKeyLoadFlashDone
  refine run_moves rfl (fun m0 x hx => ?_)
  refine touch_app ?_ (Mach.loadDone_touch ..) rfl rfl
  exact hx

theorem execDebugChallengeRead_moves (a0 : ℕ) (s : State) : Moves 0x100001003 0x0 s (execDebugChallengeRead a0 s) := by
  unfold execDebugChallengeRead
  refine run_moves rfl (fun m0 x hx => ?_)
  refine touch_app ?_ (Mach.debugChallenge_touch ..) rfl rfl
  exact hx

theorem execDebugUnlockResponse_moves (a0 : ℕ) (a1 : Fin 4) (a2 : BitVec 128) (s : State) : Moves 0x11f9cf90b 0x72ffff00071818 s (execDebugUnlockResponse a0 a1 a2 s) := by
  unfold execDebugUnlockResponse
  refine run_moves rfl (fun m0 x hx => ?_)
  refine touch_app ?_ (Mach.debugTry_touch ..) rfl rfl
  exact hx

end Sys2Proof.Machine
end

