-- ==== Sys2Proof/Laws/Frame/MeasureRows.lean ====
section
/-! SUPPORT. The frame of each command (Cdc, Svi, Sets, Msr, Nrg, Pls, Acq, Dsp). -/

namespace Sys2Proof.Machine

theorem execAcqExportFrame_moves (a0 : ℕ) (a1 : Fin 64) (s : State) : Moves 0x3f84b909 0x30ffff00072000 s (execAcqExportFrame a0 a1 s) := by
  unfold execAcqExportFrame
  refine run_moves rfl (fun m0 x hx => ?_)
  refine touch_app ?_ (Mach.exportFrame_touch ..) rfl rfl
  exact hx

theorem execCrossingTransferDone_moves (a0 : ℕ) (a1 : Fin 36) (a2 : XKind) (s : State) : Moves 0x8006b009 0x80000000008040 s (execCrossingTransferDone a0 a1 a2 s) := by
  unfold execCrossingTransferDone
  refine run_moves rfl (fun m0 x hx => ?_)
  refine touch_app ?_ (Mach.crossingDone_touch ..) rfl rfl
  exact hx

theorem execCrossingEventArrival_moves (a0 : ℕ) (a1 : Fin 36) (a2 : Word) (a3 : Word) (s : State) : Moves 0xb009 0x80000000000000 s (execCrossingEventArrival a0 a1 a2 a3 s) := by
  unfold execCrossingEventArrival
  refine run_moves rfl (fun m0 x hx => ?_)
  refine touch_ite (fun _ => ?_) (fun _ => ?_)
  · refine touch_app ?_ (Mach.sendEvent_touch ..) rfl rfl
    exact hx
  · exact hx

theorem execMsrTickSetTake_moves (a0 : ℕ) (s : State) : Moves 0x5983109 0x10c00 s (execMsrTickSetTake a0 s) := by
  unfold execMsrTickSetTake
  refine run_moves rfl (fun m0 x hx => ?_)
  extract_lets -underBinder -merge -useContext +onlyGivenNames t0
  have ht0 : m0.touch 0x5983109 0x10c00 t0 := by
    unfold t0
    refine touch_app ?_ (Mach.msrTake_touch ..) rfl rfl
    exact hx
  try clear_value t0
  refine touch_app ?_ (Mach.sviTake_touch ..) rfl rfl
  exact ht0

theorem execMsrTickSetDone_moves (a0 : ℕ) (s : State) : Moves 0x63d0b90b 0x32000000007a00 s (execMsrTickSetDone a0 s) := by
  unfold execMsrTickSetDone
  refine run_moves rfl (fun m0 x hx => ?_)
  split
  · rename_i p0_0 p0_1 p0_2 he3
    have hp0_1 : m0.touch 0x63d0b90b 0x32000000007a00 p0_1 := by
      refine touch_fst he3 ?_
      refine touch_app ?_ (Mach.msrFinish_touch ..) rfl rfl
      exact hx
    refine touch_app ?_ (Mach.handOut_touch ..) rfl rfl
    exact hp0_1
  · rename_i p0_0 p0_1 he2
    have hp0_1 : m0.touch 0x63d0b90b 0x32000000007a00 p0_1 := by
      refine touch_fst he2 ?_
      refine touch_app ?_ (Mach.msrFinish_touch ..) rfl rfl
      exact hx
    exact hp0_1

theorem execTrackerHoldExpiry_moves (a0 : ℕ) (a1 : Fin 16) (s : State) : Moves 0x100101 0x0 s (execTrackerHoldExpiry a0 a1 s) := by
  unfold execTrackerHoldExpiry
  refine run_moves rfl (fun m0 x hx => ?_)
  refine touch_onExpiry ?_ rfl (fun x hx => ?_)
  · exact hx
  · refine touch_app ?_ (Mach.trackerFallback_touch ..) rfl rfl
    exact hx

theorem execTempSourceHoldExpiry_moves (a0 : ℕ) (a1 : Fin 64) (s : State) : Moves 0x100101 0x0 s (execTempSourceHoldExpiry a0 a1 s) := by
  unfold execTempSourceHoldExpiry
  refine run_moves rfl (fun m0 x hx => ?_)
  refine touch_onExpiry ?_ rfl (fun x hx => ?_)
  · exact hx
  · refine touch_app ?_ (Mach.tempFallback_touch ..) rfl rfl
    exact hx

theorem execResult_moves (a0 : ℕ) (a1 : Fin 64) (a2 : Fin 4096) (a3 : RingPacket) (s : State) : Moves 0x23c0b90b 0x32000000001200 s (execResult a0 a1 a2 a3 s) := by
  unfold execResult
  refine run_moves rfl (fun m0 x hx => ?_)
  refine touch_takeCommand ?_ rfl rfl (fun x hx => ?_)
  · exact hx
  · refine touch_app ?_ (Mach.resultCmd_touch ..) rfl rfl
    exact hx

theorem execYieldJob_moves (a0 : ℕ) (a1 : Fin 64) (a2 : Fin 4096) (a3 : RingPacket) (s : State) : Moves 0x3c0b90b 0x32000000001200 s (execYieldJob a0 a1 a2 a3 s) := by
  unfold execYieldJob
  refine run_moves rfl (fun m0 x hx => ?_)
  refine touch_takeCommand ?_ rfl rfl (fun x hx => ?_)
  · exact hx
  · refine touch_app ?_ (Mach.yieldCmd_touch ..) rfl rfl
    exact hx

theorem execBudgetExhausted_moves (a0 : ℕ) (a1 : Fin 4096) (s : State) : Moves 0x3c0b109 0x22000000001200 s (execBudgetExhausted a0 a1 s) := by
  unfold execBudgetExhausted
  refine run_moves rfl (fun m0 x hx => ?_)
  refine touch_app ?_ (Mach.budgetEnd_touch ..) rfl rfl
  exact hx

theorem execReleaseDeferralExpiry_moves (a0 : ℕ) (a1 : Fin 4096) (s : State) : Moves 0x2c0b909 0x30000000001200 s (execReleaseDeferralExpiry a0 a1 s) := by
  unfold execReleaseDeferralExpiry
  refine run_moves rfl (fun m0 x hx => ?_)
  refine touch_onExpiry ?_ rfl (fun x hx => ?_)
  · exact hx
  · refine touch_app ?_ (Mach.releaseDeferred_touch ..) rfl rfl
    exact hx

theorem execManagerWindowEnd_moves (a0 : ℕ) (s : State) : Moves 0x400001 0x0 s (execManagerWindowEnd a0 s) := by
  unfold execManagerWindowEnd
  refine run_moves rfl (fun m0 x hx => ?_)
  refine touch_ite (fun _ => ?_) (fun _ => ?_)
  · refine touch_app ?_ (Mach.onDsp_touch ..) rfl rfl
    refine touch_app ?_ (Mach.runJobs_touch ..) rfl rfl
    exact hx
  · exact hx

theorem execEnergyIntervalEnd_moves (a0 : ℕ) (s : State) : Moves 0x40003009 0x4000 s (execEnergyIntervalEnd a0 s) := by
  unfold execEnergyIntervalEnd
  refine run_moves rfl (fun m0 x hx => ?_)
  refine touch_ite (fun _ => ?_) (fun _ => ?_)
  · refine touch_app ?_ (Mach.endIntervals_touch ..) rfl rfl
    exact hx
  · exact hx

theorem execOvercurrentTimerExpiry_moves (a0 : ℕ) (a1 : Fin 512) (s : State) : Moves 0x40003109 0x4000 s (execOvercurrentTimerExpiry a0 a1 s) := by
  unfold execOvercurrentTimerExpiry
  refine run_moves rfl (fun m0 x hx => ?_)
  refine touch_onExpiry ?_ rfl (fun x hx => ?_)
  · exact hx
  · refine touch_app ?_ (Mach.overCurrent_touch ..) rfl rfl
    exact hx

theorem execSvFrame_moves (a0 : ℕ) (a1 : Frame) (a2 : Fin 16) (a3 : ℕ) (s : State) : Moves 0x5983109 0x50c00 s (execSvFrame a0 a1 a2 a3 s) := by
  unfold execSvFrame
  refine run_moves rfl (fun m0 x hx => ?_)
  refine touch_app ?_ (Mach.sviRx_touch ..) rfl rfl
  exact hx

theorem execTickWindowExpiry_moves (a0 : ℕ) (a1 : Fin 64) (s : State) : Moves 0x5983109 0x10c00 s (execTickWindowExpiry a0 a1 s) := by
  unfold execTickWindowExpiry
  refine run_moves rfl (fun m0 x hx => ?_)
  extract_lets -underBinder -merge -useContext +onlyGivenNames t0
  have ht0 : m0.touch 0x5983109 0x10c00 t0 := by
    unfold t0
    refine touch_app ?_ (Mach.sviTake_touch ..) rfl rfl
    exact hx
  try clear_value t0
  split
  · refine touch_ite (fun _ => ?_) (fun _ => ?_)
    · refine touch_app ?_ (Mach.closeDue_touch ..) rfl rfl
      exact ht0
    · exact ht0
  · exact ht0

theorem execStreamTimeout_moves (a0 : ℕ) (a1 : Fin 2048) (s : State) : Moves 0x5983109 0x10c00 s (execStreamTimeout a0 a1 s) := by
  unfold execStreamTimeout
  refine run_moves rfl (fun m0 x hx => ?_)
  refine touch_onPast ?_ rfl (fun x hx => ?_)
  · refine touch_app ?_ (Mach.sviTake_touch ..) rfl rfl
    exact hx
  · refine touch_app ?_ (Mach.streamLost_touch ..) rfl rfl
    exact hx

theorem execCombWaitExpiry_moves (a0 : ℕ) (a1 : Fin 64) (s : State) : Moves 0x1183109 0xc00 s (execCombWaitExpiry a0 a1 s) := by
  unfold execCombWaitExpiry
  refine run_moves rfl (fun m0 x hx => ?_)
  refine touch_onExpiry ?_ rfl (fun x hx => ?_)
  · exact hx
  · refine touch_app ?_ (Mach.eqTimers_touch ..) rfl rfl
    refine touch_app ?_ (Mach.combDue_touch ..) rfl rfl
    exact hx

theorem execEqCombTimeout_moves (a0 : ℕ) (a1 : Fin 64) (s : State) : Moves 0x183109 0x2000000000c00 s (execEqCombTimeout a0 a1 s) := by
  unfold execEqCombTimeout
  refine run_moves rfl (fun m0 x hx => ?_)
  refine touch_onExpiry ?_ rfl (fun x hx => ?_)
  · exact hx
  · refine touch_app ?_ (Mach.eqTimeout_touch ..) rfl rfl
    exact hx

theorem execPulseInputEdge_moves (a0 : ℕ) (a1 : Fin 32) (a2 : Bool) (s : State) : Moves 0x8000b109 0x8000 s (execPulseInputEdge a0 a1 a2 s) := by
  unfold execPulseInputEdge
  refine run_moves rfl (fun m0 x hx => ?_)
  refine touch_app ?_ (Mach.plsEdge_touch ..) rfl rfl
  exact hx

theorem execPulseDebounceExpiry_moves (a0 : ℕ) (a1 : Fin 32) (s : State) : Moves 0x8000b109 0x8000 s (execPulseDebounceExpiry a0 a1 s) := by
  unfold execPulseDebounceExpiry
  refine run_moves rfl (fun m0 x hx => ?_)
  refine touch_onExpiry ?_ rfl (fun x hx => ?_)
  · exact hx
  · refine touch_app ?_ (Mach.plsAccept_touch ..) rfl rfl
    exact hx

theorem execPulseMinWidthExpiry_moves (a0 : ℕ) (a1 : Fin 32) (s : State) : Moves 0x8000b109 0x8000 s (execPulseMinWidthExpiry a0 a1 s) := by
  unfold execPulseMinWidthExpiry
  refine run_moves rfl (fun m0 x hx => ?_)
  refine touch_onExpiry ?_ rfl (fun x hx => ?_)
  · exact hx
  · refine touch_app ?_ (Mach.plsWide_touch ..) rfl rfl
    exact hx

theorem execPulseStallExpiry_moves (a0 : ℕ) (a1 : Fin 32) (s : State) : Moves 0x3109 0x8000 s (execPulseStallExpiry a0 a1 s) := by
  unfold execPulseStallExpiry
  refine run_moves rfl (fun m0 x hx => ?_)
  refine touch_onExpiry ?_ rfl (fun x hx => ?_)
  · exact hx
  · refine touch_app ?_ (Mach.plsStall_touch ..) rfl rfl
    exact hx

end Sys2Proof.Machine
end

