-- ==== Sys2Proof/Laws/Frame/NetworkRows.lean ====
section
/-! SUPPORT. The frame of each command (Mac, Switch, Fabric, Pub, Ptp, Time). -/

namespace Sys2Proof.Machine

theorem execTimeTagWrap_moves (a0 : ℕ) (s : State) : Moves 0xb009 0x0 s (execTimeTagWrap a0 s) := by
  unfold execTimeTagWrap
  refine run_moves rfl (fun m0 x hx => ?_)
  extract_lets -underBinder -merge -useContext +onlyGivenNames l0
  try clear_value l0
  extract_lets -underBinder -merge -useContext +onlyGivenNames t0
  have ht0 : m0.touch 0xb009 0x0 t0 := by
    unfold t0
    refine touch_ite (fun _ => ?_) (fun _ => ?_)
    · refine touch_app ?_ (Mach.newSegment_touch ..) rfl rfl
      exact hx
    · exact hx
  try clear_value t0
  refine touch_app ?_ (Mach.sendCount_touch ..) rfl rfl
  exact ht0

theorem execSourceMeasurement_moves (a0 : ℕ) (a1 : Fin 3) (a2 : ℤ) (s : State) : Moves 0x419ab10b 0xc60 s (execSourceMeasurement a0 a1 a2 s) := by
  unfold execSourceMeasurement
  refine run_moves rfl (fun m0 x hx => ?_)
  refine touch_app ?_ (Mach.measure_touch ..) rfl rfl
  refine touch_app ?_ (Mach.timeDue_touch ..) rfl rfl
  exact hx

theorem execSlewComplete_moves (a0 : ℕ) (s : State) : Moves 0x2b10b 0x60 s (execSlewComplete a0 s) := by
  unfold execSlewComplete
  refine run_moves rfl (fun m0 x hx => ?_)
  refine touch_onExpiry ?_ rfl (fun x hx => ?_)
  · refine touch_app ?_ (Mach.timeDue_touch ..) rfl rfl
    exact hx
  · refine touch_app ?_ (Mach.showRate_touch ..) rfl rfl
    refine touch_app ?_ (Mach.onTime_touch ..) rfl rfl
    exact hx

theorem execPrimaryReturnHoldExpiry_moves (a0 : ℕ) (s : State) : Moves 0x2b10b 0x60 s (execPrimaryReturnHoldExpiry a0 s) := by
  unfold execPrimaryReturnHoldExpiry
  refine run_moves rfl (fun m0 x hx => ?_)
  refine touch_onExpiry ?_ rfl (fun x hx => ?_)
  · refine touch_app ?_ (Mach.timeDue_touch ..) rfl rfl
    exact hx
  · refine touch_app ?_ (Mach.follow_touch ..) rfl rfl
    exact hx

theorem execBridgingEntryExpiry_moves (a0 : ℕ) (s : State) : Moves 0x2b10b 0x60 s (execBridgingEntryExpiry a0 s) := by
  unfold execBridgingEntryExpiry
  refine run_moves rfl (fun m0 x hx => ?_)
  refine touch_onExpiry ?_ rfl (fun x hx => ?_)
  · refine touch_app ?_ (Mach.timeDue_touch ..) rfl rfl
    exact hx
  · refine touch_app ?_ (Mach.enterTime_touch ..) rfl rfl
    exact hx

theorem execHoldoverLimitExpiry_moves (a0 : ℕ) (s : State) : Moves 0x2b10b 0x60 s (execHoldoverLimitExpiry a0 s) := by
  unfold execHoldoverLimitExpiry
  refine run_moves rfl (fun m0 x hx => ?_)
  refine touch_onExpiry ?_ rfl (fun x hx => ?_)
  · refine touch_app ?_ (Mach.timeDue_touch ..) rfl rfl
    exact hx
  · refine touch_app ?_ (Mach.enterTime_touch ..) rfl rfl
    exact hx

theorem execPpsInEdge_moves (a0 : ℕ) (a1 : ℕ) (s : State) : Moves 0x2b10b 0x60 s (execPpsInEdge a0 a1 s) := by
  unfold execPpsInEdge
  refine run_moves rfl (fun m0 x hx => ?_)
  refine touch_app ?_ (Mach.ppsEdge_touch ..) rfl rfl
  refine touch_app ?_ (Mach.timeDue_touch ..) rfl rfl
  exact hx

theorem execPpsInTimeout_moves (a0 : ℕ) (s : State) : Moves 0x2b10b 0x60 s (execPpsInTimeout a0 s) := by
  unfold execPpsInTimeout
  refine run_moves rfl (fun m0 x hx => ?_)
  refine touch_onExpiry ?_ rfl (fun x hx => ?_)
  · refine touch_app ?_ (Mach.timeDue_touch ..) rfl rfl
    exact hx
  · refine touch_app ?_ (Mach.ppsLost_touch ..) rfl rfl
    exact hx

theorem execIrigbFrame_moves (a0 : ℕ) (a1 : IrigFrame) (s : State) : Moves 0x2b10b 0x60 s (execIrigbFrame a0 a1 s) := by
  unfold execIrigbFrame
  refine run_moves rfl (fun m0 x hx => ?_)
  refine touch_app ?_ (Mach.irigFrame_touch ..) rfl rfl
  refine touch_app ?_ (Mach.timeDue_touch ..) rfl rfl
  exact hx

theorem execRef10mGateEnd_moves (a0 : ℕ) (a1 : ℤ) (s : State) : Moves 0x2b10b 0x60 s (execRef10mGateEnd a0 a1 s) := by
  unfold execRef10mGateEnd
  refine run_moves rfl (fun m0 x hx => ?_)
  refine touch_app ?_ (Mach.gate10m_touch ..) rfl rfl
  refine touch_app ?_ (Mach.timeDue_touch ..) rfl rfl
  exact hx

theorem execRef10mEdgeLoss_moves (a0 : ℕ) (s : State) : Moves 0x2b10b 0x60 s (execRef10mEdgeLoss a0 s) := by
  unfold execRef10mEdgeLoss
  refine run_moves rfl (fun m0 x hx => ?_)
  refine touch_app ?_ (Mach.lose10m_touch ..) rfl rfl
  refine touch_app ?_ (Mach.timeDue_touch ..) rfl rfl
  exact hx

theorem execStationSecondBoundary_moves (a0 : ℕ) (s : State) : Moves 0x4002b10b 0x4060 s (execStationSecondBoundary a0 s) := by
  unfold execStationSecondBoundary
  refine run_moves rfl (fun m0 x hx => ?_)
  extract_lets -underBinder -merge -useContext +onlyGivenNames t0
  have ht0 : m0.touch 0x4002b10b 0x4060 t0 := by
    unfold t0
    refine touch_app ?_ (Mach.ppsRise_touch ..) rfl rfl
    refine touch_app ?_ (Mach.timeDue_touch ..) rfl rfl
    exact hx
  try clear_value t0
  refine touch_each ?_ (fun y x hx => ?_)
  · exact ht0
  · refine touch_app ?_ (Mach.secondEnd_touch ..) rfl rfl
    exact hx

theorem execPpsOutWidthEnd_moves (a0 : ℕ) (s : State) : Moves 0x21101 0x0 s (execPpsOutWidthEnd a0 s) := by
  unfold execPpsOutWidthEnd
  refine run_moves rfl (fun m0 x hx => ?_)
  refine touch_onExpiry ?_ rfl (fun x hx => ?_)
  · exact hx
  · refine touch_app ?_ (Mach.ppsLow_touch ..) rfl rfl
    exact hx

theorem execResequencingTimeout_moves (a0 : ℕ) (s : State) : Moves 0x1f84b909 0x30ffff00050000 s (execResequencingTimeout a0 s) := by
  unfold execResequencingTimeout
  refine run_moves rfl (fun m0 x hx => ?_)
  refine touch_ite (fun _ => ?_) (fun _ => ?_)
  · exact hx
  · refine touch_app ?_ (Mach.swcFault_touch ..) rfl rfl
    refine touch_app ?_ (Mach.event_touch (P := 0x30ffff00050000) _ _ _ _ rfl (by decide)) rfl rfl
    refine touch_app ?_ (Mach.count_touch (P := 0x30ffff00050000) _ _ _ _ (within_nth _ _ rfl)) rfl rfl
    exact hx

theorem execCellEccError_moves (a0 : ℕ) (s : State) : Moves 0x1f84b909 0x30ffff00050000 s (execCellEccError a0 s) := by
  unfold execCellEccError
  refine run_moves rfl (fun m0 x hx => ?_)
  refine touch_app ?_ (Mach.swcFault_touch ..) rfl rfl
  refine touch_app ?_ (Mach.event_touch (P := 0x30ffff00050000) _ _ _ _ rfl (by decide)) rfl rfl
  refine touch_app ?_ (Mach.count_touch (P := 0x30ffff00050000) _ _ _ _ (within_nth _ _ rfl)) rfl rfl
  exact hx

theorem execCutThroughUnderrun_moves (a0 : ℕ) (a1 : Fin 16) (s : State) : Moves 0x404b109 0xffff00010000 s (execCutThroughUnderrun a0 a1 s) := by
  unfold execCutThroughUnderrun
  refine run_moves rfl (fun m0 x hx => ?_)
  split
  · extract_lets -underBinder -merge -useContext +onlyGivenNames t0
    try clear_value t0
    extract_lets -underBinder -merge -useContext +onlyGivenNames t1
    have ht1 : m0.touch 0x404b109 0xffff00010000 t1 := by
      unfold t1
      refine touch_app ?_ (Mach.emitFrame_touch ..) rfl rfl
      exact hx
    try clear_value t1
    extract_lets -underBinder -merge -useContext +onlyGivenNames t2
    have ht2 : m0.touch 0x404b109 0xffff00010000 t2 := by
      unfold t2
      refine touch_app ?_ (Mach.event_touch (P := 0xffff00010000) _ _ _ _ rfl (by decide)) rfl rfl
      refine touch_app ?_ (Mach.count_touch (P := 0xffff00010000) _ _ _ _ rfl) rfl rfl
      refine touch_app ?_ (Mach.showMem_touch ..) rfl rfl
      refine touch_app ?_ (Mach.onPort_touch ..) rfl rfl
      exact ht1
    try clear_value t2
    refine touch_app ?_ (Mach.kick_touch ..) rfl rfl
    exact ht2
  · exact hx

theorem execSelfTestComplete_moves (a0 : ℕ) (a1 : Bool) (s : State) : Moves 0x10003009 0x10000 s (execSelfTestComplete a0 a1 s) := by
  unfold execSelfTestComplete
  refine run_moves rfl (fun m0 x hx => ?_)
  refine touch_ite (fun _ => ?_) (fun _ => ?_)
  · refine touch_ite (fun _ => ?_) (fun _ => ?_)
    · refine touch_app ?_ (Mach.tryRanding_touch ..) rfl rfl
      refine touch_app ?_ (Mach.onSwc_touch ..) rfl rfl
      refine touch_app ?_ (Mach.setFld_touch (P := 0x10000) _ _ _ _ rfl) rfl rfl
      exact hx
    · refine touch_app ?_ (Mach.event_touch (P := 0x10000) _ _ _ _ rfl (by decide)) rfl rfl
      refine touch_app ?_ (Mach.setFld_touch (P := 0x10000) _ _ _ _ rfl) rfl rfl
      exact hx
  · exact hx

theorem execQuietPeriodExpiry_moves (a0 : ℕ) (s : State) : Moves 0x10000009 0x10000 s (execQuietPeriodExpiry a0 s) := by
  unfold execQuietPeriodExpiry
  refine run_moves rfl (fun m0 x hx => ?_)
  refine touch_app ?_ (Mach.tryRanding_touch ..) rfl rfl
  exact hx

theorem execModeChangeComplete_moves (a0 : ℕ) (s : State) : Moves 0x1f84b909 0x30ffff00050000 s (execModeChangeComplete a0 s) := by
  unfold execModeChangeComplete
  refine run_moves rfl (fun m0 x hx => ?_)
  refine touch_app ?_ (Mach.modeDone_touch ..) rfl rfl
  exact hx

theorem execFwdEntryAgeOut_moves (a0 : ℕ) (a1 : Fin 16384) (s : State) : Moves 0x10003009 0x20000 s (execFwdEntryAgeOut a0 a1 s) := by
  unfold execFwdEntryAgeOut
  refine run_moves rfl (fun m0 x hx => ?_)
  split
  · refine touch_ite (fun _ => ?_) (fun _ => ?_)
    · refine touch_app ?_ (Mach.event_touch (P := 0x20000) _ _ _ _ rfl (by decide)) rfl rfl
      refine touch_app ?_ (Mach.count_touch (P := 0x20000) _ _ _ _ (within_nth _ _ rfl)) rfl rfl
      refine touch_app ?_ (Mach.showLearnt_touch ..) rfl rfl
      refine touch_app ?_ (Mach.onSwc_touch ..) rfl rfl
      exact hx
    · exact hx
  · exact hx

theorem execMacFrameRx_moves (a0 : ℕ) (a1 : Fin 16) (a2 : Frame) (s : State) : Moves 0x1f84b909 0xb0ffff00070000 s (execMacFrameRx a0 a1 a2 s) := by
  unfold execMacFrameRx
  refine run_moves rfl (fun m0 x hx => ?_)
  refine touch_app ?_ (Mach.frameRx_touch ..) rfl rfl
  exact hx

theorem execLinkLockChange_moves (a0 : ℕ) (a1 : Fin 16) (a2 : Bool) (a3 : Bool) (a4 : Bool) (s : State) : Moves 0x4000109 0xffff00000000 s (execLinkLockChange a0 a1 a2 a3 a4 s) := by
  unfold execLinkLockChange
  refine run_moves rfl (fun m0 x hx => ?_)
  refine touch_app ?_ (Mach.lockChange_touch ..) rfl rfl
  exact hx

theorem execUpDebounceExpiry_moves (a0 : ℕ) (a1 : Fin 16) (s : State) : Moves 0x404b109 0xffff00010000 s (execUpDebounceExpiry a0 a1 s) := by
  unfold execUpDebounceExpiry
  refine run_moves rfl (fun m0 x hx => ?_)
  refine touch_onExpiry ?_ rfl (fun x hx => ?_)
  · exact hx
  · refine touch_app ?_ (Mach.enterUp_touch ..) rfl rfl
    exact hx

theorem execDownDebounceExpiry_moves (a0 : ℕ) (a1 : Fin 16) (s : State) : Moves 0x4003109 0xffff00010000 s (execDownDebounceExpiry a0 a1 s) := by
  unfold execDownDebounceExpiry
  refine run_moves rfl (fun m0 x hx => ?_)
  refine touch_onExpiry ?_ rfl (fun x hx => ?_)
  · exact hx
  · refine touch_app ?_ (Mach.leaveUp_touch ..) rfl rfl
    exact hx

theorem execLinkHoldExpiry_moves (a0 : ℕ) (a1 : Fin 16) (s : State) : Moves 0x404b109 0xffff00010000 s (execLinkHoldExpiry a0 a1 s) := by
  unfold execLinkHoldExpiry
  refine run_moves rfl (fun m0 x hx => ?_)
  refine touch_onExpiry ?_ rfl (fun x hx => ?_)
  · exact hx
  · refine touch_ite (fun _ => ?_) (fun _ => ?_)
    · refine touch_app ?_ (Mach.enterUp_touch ..) rfl rfl
      refine touch_app ?_ (Mach.disarm_touch ..) rfl rfl
      exact hx
    · refine touch_app ?_ (Mach.flushPort_touch ..) rfl rfl
      refine touch_app ?_ (Mach.setFld_touch (P := 0xffff00010000) _ _ _ _ (within_onPort _ _ rfl (by decide))) rfl rfl
      exact hx

theorem execPauseExpiry_moves (a0 : ℕ) (a1 : Fin 16) (s : State) : Moves 0x404b109 0xffff00010000 s (execPauseExpiry a0 a1 s) := by
  unfold execPauseExpiry
  refine run_moves rfl (fun m0 x hx => ?_)
  refine touch_onExpiry ?_ rfl (fun x hx => ?_)
  · exact hx
  · refine touch_app ?_ (Mach.kick_touch ..) rfl rfl
    refine touch_app ?_ (Mach.endPause_touch ..) rfl rfl
    exact hx

theorem execEeeIdleExpiry_moves (a0 : ℕ) (a1 : Fin 16) (s : State) : Moves 0x109 0xffff00000000 s (execEeeIdleExpiry a0 a1 s) := by
  unfold execEeeIdleExpiry
  refine run_moves rfl (fun m0 x hx => ?_)
  refine touch_onExpiry ?_ rfl (fun x hx => ?_)
  · exact hx
  · refine touch_app ?_ (Mach.count_touch (P := 0xffff00000000) _ _ _ _ (within_onPort _ _ rfl (by decide))) rfl rfl
    refine touch_app ?_ (Mach.setFlag_touch (P := 0xffff00000000) _ _ _ _ (within_onPort _ _ rfl (by decide))) rfl rfl
    exact hx

theorem execEeeWakeComplete_moves (a0 : ℕ) (a1 : Fin 16) (s : State) : Moves 0x404b109 0xffff00010000 s (execEeeWakeComplete a0 a1 s) := by
  unfold execEeeWakeComplete
  refine run_moves rfl (fun m0 x hx => ?_)
  refine touch_onExpiry ?_ rfl (fun x hx => ?_)
  · exact hx
  · refine touch_app ?_ (Mach.kick_touch ..) rfl rfl
    refine touch_app ?_ (Mach.onPort_touch ..) rfl rfl
    refine touch_app ?_ (Mach.setFlag_touch (P := 0xffff00010000) _ _ _ _ (within_onPort _ _ rfl (by decide))) rfl rfl
    exact hx

theorem execEeeTlvTtlExpiry_moves (a0 : ℕ) (a1 : Fin 16) (s : State) : Moves 0x404b109 0xffff00010000 s (execEeeTlvTtlExpiry a0 a1 s) := by
  unfold execEeeTlvTtlExpiry
  refine run_moves rfl (fun m0 x hx => ?_)
  refine touch_onExpiry ?_ rfl (fun x hx => ?_)
  · exact hx
  · refine touch_app ?_ (Mach.resolveTw_touch ..) rfl rfl
    refine touch_app ?_ (Mach.setFlag_touch (P := 0xffff00010000) _ _ _ _ (within_onPort _ _ rfl (by decide))) rfl rfl
    refine touch_app ?_ (Mach.onPort_touch ..) rfl rfl
    exact hx

theorem execLldpInterval_moves (a0 : ℕ) (a1 : Fin 16) (s : State) : Moves 0x404b109 0xffff00010000 s (execLldpInterval a0 a1 s) := by
  unfold execLldpInterval
  refine run_moves rfl (fun m0 x hx => ?_)
  refine touch_onExpiry ?_ rfl (fun x hx => ?_)
  · exact hx
  · refine touch_app ?_ (Mach.sendLldp_touch ..) rfl rfl
    exact hx

theorem execFrameLifetimeExpiry_moves (a0 : ℕ) (a1 : Fin 16) (a2 : Fin 8) (s : State) : Moves 0x404b109 0xffff00010000 s (execFrameLifetimeExpiry a0 a1 a2 s) := by
  unfold execFrameLifetimeExpiry
  refine run_moves rfl (fun m0 x hx => ?_)
  split
  refine touch_ite (fun _ => ?_) (fun _ => ?_)
  · exact hx
  · refine touch_app ?_ (Mach.kick_touch ..) rfl rfl
    refine touch_app ?_ (Mach.event_touch (P := 0xffff00010000) _ _ _ _ (testBit_macPage rfl _) (macPage_lt _)) rfl rfl
    refine touch_app ?_ (Mach.count_touch (P := 0xffff00010000) _ _ _ _ (within_onPort _ _ rfl (by decide))) rfl rfl
    refine touch_app ?_ (Mach.showMem_touch ..) rfl rfl
    refine touch_app ?_ (Mach.onPort_touch ..) rfl rfl
    exact hx

theorem execTxFrameComplete_moves (a0 : ℕ) (a1 : Fin 16) (s : State) : Moves 0x404b109 0xffff00010000 s (execTxFrameComplete a0 a1 s) := by
  unfold execTxFrameComplete
  refine run_moves rfl (fun m0 x hx => ?_)
  refine touch_app ?_ (Mach.txDone_touch ..) rfl rfl
  exact hx

theorem execDuplicateEntryForget_moves (a0 : ℕ) (a1 : Fin 8) (a2 : Mac) (a3 : BitVec 16) (s : State) : Moves 0x8000001 0x0 s (execDuplicateEntryForget a0 a1 a2 a3 s) := by
  unfold execDuplicateEntryForget
  refine run_moves rfl (fun m0 x hx => ?_)
  extract_lets -underBinder -merge -useContext +onlyGivenNames l0
  try clear_value l0
  refine touch_app ?_ (Mach.onPair_touch ..) rfl rfl
  exact hx

theorem execRedSupervisionInterval_moves (a0 : ℕ) (a1 : Fin 8) (s : State) : Moves 0xd84b109 0xffff00050000 s (execRedSupervisionInterval a0 a1 s) := by
  unfold execRedSupervisionInterval
  refine run_moves rfl (fun m0 x hx => ?_)
  refine touch_onExpiry ?_ rfl (fun x hx => ?_)
  · exact hx
  · refine touch_ite (fun _ => ?_) (fun _ => ?_)
    · exact hx
    · refine touch_app ?_ (Mach.sendSupervision_touch ..) rfl rfl
      exact hx

theorem execPubFrameBuild_moves (a0 : ℕ) (s : State) : Moves 0x3f84b909 0x30ffff00071000 s (execPubFrameBuild a0 s) := by
  unfold execPubFrameBuild
  refine run_moves rfl (fun m0 x hx => ?_)
  refine touch_app ?_ (Mach.pubBuild_touch ..) rfl rfl
  exact hx

theorem execGooseRetransmissionDue_moves (a0 : ℕ) (a1 : Fin 1024) (s : State) : Moves 0x800101 0x0 s (execGooseRetransmissionDue a0 a1 s) := by
  unfold execGooseRetransmissionDue
  refine run_moves rfl (fun m0 x hx => ?_)
  refine touch_ite (fun _ => ?_) (fun _ => ?_)
  · exact hx
  · refine touch_onExpiry ?_ rfl (fun x hx => ?_)
    · exact hx
    · refine touch_app ?_ (Mach.retransDue_touch ..) rfl rfl
      exact hx

theorem execCompareExpiry_moves (a0 : ℕ) (a1 : Fin 1024) (s : State) : Moves 0x1f84b909 0x30ffff00071000 s (execCompareExpiry a0 a1 s) := by
  unfold execCompareExpiry
  refine run_moves rfl (fun m0 x hx => ?_)
  refine touch_onPast ?_ rfl (fun x hx => ?_)
  · exact hx
  · refine touch_app ?_ (Mach.compareOut_touch ..) rfl rfl
    exact hx

theorem execGooseFrameRx_moves (a0 : ℕ) (a1 : Frame) (a2 : Fin 16) (a3 : ℕ) (s : State) : Moves 0x2280b909 0x30000000001000 s (execGooseFrameRx a0 a1 a2 a3 s) := by
  unfold execGooseFrameRx
  refine run_moves rfl (fun m0 x hx => ?_)
  refine touch_app ?_ (Mach.gooseRx_touch ..) rfl rfl
  exact hx

theorem execGooseSubTalExpiry_moves (a0 : ℕ) (a1 : Fin 4096) (s : State) : Moves 0x280b909 0x30000000001000 s (execGooseSubTalExpiry a0 a1 s) := by
  unfold execGooseSubTalExpiry
  refine run_moves rfl (fun m0 x hx => ?_)
  refine touch_ite (fun _ => ?_) (fun _ => ?_)
  · exact hx
  · refine touch_onPast ?_ rfl (fun x hx => ?_)
    · exact hx
    · refine touch_app ?_ (Mach.subExpire_touch ..) rfl rfl
      exact hx

theorem execPtpFrameRx_moves (a0 : ℕ) (a1 : Fin 16) (a2 : Frame) (s : State) : Moves 0x406b10b 0xffff00050060 s (execPtpFrameRx a0 a1 a2 s) := by
  unfold execPtpFrameRx
  refine run_moves rfl (fun m0 x hx => ?_)
  refine touch_app ?_ (Mach.ptpRx_touch ..) rfl rfl
  refine touch_app ?_ (Mach.timeDue_touch ..) rfl rfl
  exact hx

theorem execAnnounceReceiptTimeout_moves (a0 : ℕ) (a1 : Fin 2) (s : State) : Moves 0x6b10b 0x60 s (execAnnounceReceiptTimeout a0 a1 s) := by
  unfold execAnnounceReceiptTimeout
  refine run_moves rfl (fun m0 x hx => ?_)
  refine touch_onExpiry ?_ rfl (fun x hx => ?_)
  · refine touch_app ?_ (Mach.timeDue_touch ..) rfl rfl
    exact hx
  · refine touch_app ?_ (Mach.announceTimeout_touch ..) rfl rfl
    exact hx

theorem execSyncLossBudgetExpiry_moves (a0 : ℕ) (a1 : Fin 2) (s : State) : Moves 0x2b10b 0x60 s (execSyncLossBudgetExpiry a0 a1 s) := by
  unfold execSyncLossBudgetExpiry
  refine run_moves rfl (fun m0 x hx => ?_)
  refine touch_onExpiry ?_ rfl (fun x hx => ?_)
  · refine touch_app ?_ (Mach.timeDue_touch ..) rfl rfl
    exact hx
  · refine touch_app ?_ (Mach.setQualified_touch ..) rfl rfl
    exact hx

theorem execPtpTxIntervalExpiry_moves (a0 : ℕ) (a1 : Fin 2) (a2 : PtpTx) (s : State) : Moves 0x404b109 0xffff00050040 s (execPtpTxIntervalExpiry a0 a1 a2 s) := by
  unfold execPtpTxIntervalExpiry
  refine run_moves rfl (fun m0 x hx => ?_)
  refine touch_onExpiry ?_ rfl (fun x hx => ?_)
  · exact hx
  · refine touch_app ?_ (Mach.ptpInterval_touch ..) rfl rfl
    exact hx

end Sys2Proof.Machine
end

