-- ==== Sys2Proof/Laws/Frame/PairRows.lean ====
section
/-! SUPPORT. The frame of each command (Parts, Port, Ring, Twin, Plait, Copy). -/

namespace Sys2Proof.Machine

theorem execXfer_moves (a0 : ℕ) (a1 : Fin 64) (a2 : RingPacket) (s : State) : Moves 0x201b909 0x3c000000000200 s (execXfer a0 a1 a2 s) := by
  unfold execXfer
  refine run_moves rfl (fun m0 x hx => ?_)
  refine touch_takeCommand ?_ rfl rfl (fun x hx => ?_)
  · exact hx
  · refine touch_app ?_ (Mach.xferCmd_touch ..) rfl rfl
    exact hx

theorem execTransferPieceDone_moves (a0 : ℕ) (a1 : Fin 64) (a2 : Fin 8) (a3 : PieceEnd) (s : State) : Moves 0x201b909 0x3c000000000200 s (execTransferPieceDone a0 a1 a2 a3 s) := by
  unfold execTransferPieceDone
  refine run_moves rfl (fun m0 x hx => ?_)
  refine touch_app ?_ (Mach.pieceDone_touch ..) rfl rfl
  exact hx

theorem execVnicTx_moves (a0 : ℕ) (a1 : Fin 64) (a2 : RingPacket) (s : State) : Moves 0x1f84b909 0x30ffff00070200 s (execVnicTx a0 a1 a2 s) := by
  unfold execVnicTx
  refine run_moves rfl (fun m0 x hx => ?_)
  refine touch_takeCommand ?_ rfl rfl (fun x hx => ?_)
  · exact hx
  · refine touch_app ?_ (Mach.vnicCmd_touch ..) rfl rfl
    exact hx

theorem execPnop_moves (a0 : ℕ) (a1 : Fin 64) (a2 : RingPacket) (s : State) : Moves 0x200b909 0x30000000000200 s (execPnop a0 a1 a2 s) := by
  unfold execPnop
  refine run_moves rfl (fun m0 x hx => ?_)
  refine touch_takeCommand ?_ rfl rfl (fun x hx => ?_)
  · exact hx
  · refine touch_app ?_ (Mach.doneCmd_touch ..) rfl rfl
    exact hx

theorem execPartitionResetComplete_moves (a0 : ℕ) (a1 : Fin 64) (s : State) : Moves 0x2403109 0x2c000000000200 s (execPartitionResetComplete a0 a1 s) := by
  unfold execPartitionResetComplete
  refine run_moves rfl (fun m0 x hx => ?_)
  refine touch_app ?_ (Mach.partResetDone_touch ..) rfl rfl
  exact hx

theorem execFrozenEntry_moves (a0 : ℕ) (a1 : Fin 64) (s : State) : Moves 0x3009 0x4000000000000 s (execFrozenEntry a0 a1 s) := by
  unfold execFrozenEntry
  refine run_moves rfl (fun m0 x hx => ?_)
  refine touch_app ?_ (Mach.enterFrozen_touch ..) rfl rfl
  exact hx

theorem execBlackoutExpiry_moves (a0 : ℕ) (s : State) : Moves 0x2c0b919 0x3c000000001208 s (execBlackoutExpiry a0 s) := by
  unfold execBlackoutExpiry
  refine run_moves rfl (fun m0 x hx => ?_)
  refine touch_onExpiry ?_ rfl (fun x hx => ?_)
  · exact hx
  · refine touch_app ?_ (Mach.endFreeze_touch ..) rfl rfl
    exact hx

theorem execPwinCmdProdWrite_moves (a0 : ℕ) (a1 : Fin 64) (a2 : Word) (s : State) : Moves 0x200b109 0x24000000000000 s (execPwinCmdProdWrite a0 a1 a2 s) := by
  unfold execPwinCmdProdWrite
  refine run_moves rfl (fun m0 x hx => ?_)
  refine touch_app ?_ (Mach.writeCmdProd_touch ..) rfl rfl
  exact hx

theorem execPwinCplConsWrite_moves (a0 : ℕ) (a1 : Fin 64) (a2 : Word) (s : State) : Moves 0x200b909 0x34000000000000 s (execPwinCplConsWrite a0 a1 a2 s) := by
  unfold execPwinCplConsWrite
  refine run_moves rfl (fun m0 x hx => ?_)
  refine touch_app ?_ (Mach.writeCplCons_touch ..) rfl rfl
  exact hx

theorem execPwinMrConsWrite_moves (a0 : ℕ) (a1 : Fin 64) (a2 : Word) (s : State) : Moves 0x200b109 0x24000000000000 s (execPwinMrConsWrite a0 a1 a2 s) := by
  unfold execPwinMrConsWrite
  refine run_moves rfl (fun m0 x hx => ?_)
  refine touch_app ?_ (Mach.writeMrCons_touch ..) rfl rfl
  exact hx

theorem execPwinIrqWrite_moves (a0 : ℕ) (a1 : Fin 64) (a2 : BitVec 16) (a3 : Word) (s : State) : Moves 0x200b109 0x24000000000000 s (execPwinIrqWrite a0 a1 a2 a3 s) := by
  unfold execPwinIrqWrite
  refine run_moves rfl (fun m0 x hx => ?_)
  refine touch_app ?_ (Mach.writeIrq_touch ..) rfl rfl
  exact hx

theorem execPwinConfigWrite_moves (a0 : ℕ) (a1 : Fin 64) (a2 : BitVec 16) (a3 : Word) (s : State) : Moves 0x200b109 0x24000000000000 s (execPwinConfigWrite a0 a1 a2 a3 s) := by
  unfold execPwinConfigWrite
  refine run_moves rfl (fun m0 x hx => ?_)
  refine touch_app ?_ (Mach.writeWindow_touch ..) rfl rfl
  exact hx

theorem execIrqTokenRefill_moves (a0 : ℕ) (a1 : Fin 64) (s : State) : Moves 0x200b109 0x20000000000000 s (execIrqTokenRefill a0 a1 s) := by
  unfold execIrqTokenRefill
  refine run_moves rfl (fun m0 x hx => ?_)
  refine touch_onExpiry ?_ rfl (fun x hx => ?_)
  · exact hx
  · refine touch_app ?_ (Mach.tokenCame_touch ..) rfl rfl
    exact hx

theorem execPlaitLaneLockChange_moves (a0 : ℕ) (a1 : Fin 2) (a2 : Bool) (s : State) : Moves 0x1001109 0x1000000000000 s (execPlaitLaneLockChange a0 a1 a2 s) := by
  unfold execPlaitLaneLockChange
  refine run_moves rfl (fun m0 x hx => ?_)
  extract_lets -underBinder -merge -useContext +onlyGivenNames l0
  try clear_value l0
  extract_lets -underBinder -merge -useContext +onlyGivenNames t0
  have ht0 : m0.touch 0x1001109 0x1000000000000 t0 := by
    unfold t0
    refine touch_app ?_ (Mach.onLane_touch ..) rfl rfl
    exact hx
  try clear_value t0
  refine touch_ite (fun _ => ?_) (fun _ => ?_)
  · refine touch_ite (fun _ => ?_) (fun _ => ?_)
    · extract_lets -underBinder -merge -useContext +onlyGivenNames t1
      have ht1 : m0.touch 0x1001109 0x1000000000000 t1 := by
        unfold t1
        refine touch_app ?_ (Mach.arm_touch ..) rfl rfl
        refine touch_app ?_ (Mach.setLane_touch ..) rfl rfl
        exact ht0
      try clear_value t1
      refine touch_app ?_ (Mach.plaitSendLane_touch ..) rfl rfl
      exact ht1
    · exact ht0
  · refine touch_app ?_ (Mach.disarm_touch ..) rfl rfl
    refine touch_app ?_ (Mach.dropLane_touch ..) rfl rfl
    exact ht0

theorem execPlaitLaneLockHoldExpiry_moves (a0 : ℕ) (a1 : Fin 2) (s : State) : Moves 0x1003109 0x1000000000000 s (execPlaitLaneLockHoldExpiry a0 a1 s) := by
  unfold execPlaitLaneLockHoldExpiry
  refine run_moves rfl (fun m0 x hx => ?_)
  refine touch_onExpiry ?_ rfl (fun x hx => ?_)
  · exact hx
  · extract_lets -underBinder -merge -useContext +onlyGivenNames l0
    try clear_value l0
    refine touch_app ?_ (Mach.helloUp_touch ..) rfl rfl
    refine touch_app ?_ (Mach.laneUp_touch ..) rfl rfl
    refine touch_app ?_ (Mach.onLane_touch ..) rfl rfl
    exact hx

theorem execPlaitReplayExpiry_moves (a0 : ℕ) (a1 : Fin 2) (s : State) : Moves 0x1003109 0x1000000000000 s (execPlaitReplayExpiry a0 a1 s) := by
  unfold execPlaitReplayExpiry
  refine run_moves rfl (fun m0 x hx => ?_)
  refine touch_onExpiry ?_ rfl (fun x hx => ?_)
  · exact hx
  · refine touch_app ?_ (Mach.replay_touch ..) rfl rfl
    exact hx

theorem execPlaitSupervisionExpiry_moves (a0 : ℕ) (s : State) : Moves 0x1fdcb909 0x33ffff00071a00 s (execPlaitSupervisionExpiry a0 s) := by
  unfold execPlaitSupervisionExpiry
  refine run_moves rfl (fun m0 x hx => ?_)
  refine touch_onExpiry ?_ rfl (fun x hx => ?_)
  · exact hx
  · refine touch_app ?_ (Mach.twinEval_touch ..) rfl rfl
    refine touch_app ?_ (Mach.plaitGone_touch ..) rfl rfl
    exact hx

theorem execHelloInterval_moves (a0 : ℕ) (s : State) : Moves 0x1001101 0x0 s (execHelloInterval a0 s) := by
  unfold execHelloInterval
  refine run_moves rfl (fun m0 x hx => ?_)
  refine touch_onExpiry ?_ rfl (fun x hx => ?_)
  · exact hx
  · extract_lets -underBinder -merge -useContext +onlyGivenNames t0
    have ht0 : m0.touch 0x1001101 0x0 t0 := by
      unfold t0
      refine touch_app ?_ (Mach.arm_touch ..) rfl rfl
      exact hx
    try clear_value t0
    extract_lets -underBinder -merge -useContext +onlyGivenNames t1
    have ht1 : m0.touch 0x1001101 0x0 t1 := by
      unfold t1
      refine touch_app ?_ (Mach.plaitSend_touch ..) rfl rfl
      exact ht0
    try clear_value t1
    refine touch_each ?_ (fun y x hx => ?_)
    · exact ht1
    · refine touch_ite (fun _ => ?_) (fun _ => ?_)
      · refine touch_app ?_ (Mach.plaitSendLane_touch ..) rfl rfl
        exact hx
      · exact hx

theorem execKeepIdleExpiry_moves (a0 : ℕ) (a1 : Fin 2) (s : State) : Moves 0x1001101 0x0 s (execKeepIdleExpiry a0 a1 s) := by
  unfold execKeepIdleExpiry
  refine run_moves rfl (fun m0 x hx => ?_)
  refine touch_onExpiry ?_ rfl (fun x hx => ?_)
  · exact hx
  · refine touch_app ?_ (Mach.plaitSendLane_touch ..) rfl rfl
    exact hx

theorem execHello_moves (a0 : ℕ) (a1 : PlaitHdr) (a2 : HelloMsg) (s : State) : Moves 0x5fdcb909 0xb3ffff00071e00 s (execHello a0 a1 a2 s) := by
  unfold execHello
  refine run_moves rfl (fun m0 x hx => ?_)
  refine touch_app ?_ (Mach.plaitFrame_touch ..) rfl rfl
  exact hx

theorem execKeep_moves (a0 : ℕ) (a1 : PlaitHdr) (s : State) : Moves 0x5fdcb909 0xb3ffff00071e00 s (execKeep a0 a1 s) := by
  unfold execKeep
  refine run_moves rfl (fun m0 x hx => ?_)
  refine touch_app ?_ (Mach.plaitFrame_touch ..) rfl rfl
  exact hx

theorem execDesc_moves (a0 : ℕ) (a1 : PlaitHdr) (a2 : DescMsg) (s : State) : Moves 0x5fdcb909 0xb3ffff00071e00 s (execDesc a0 a1 a2 s) := by
  unfold execDesc
  refine run_moves rfl (fun m0 x hx => ?_)
  refine touch_app ?_ (Mach.plaitFrame_touch ..) rfl rfl
  exact hx

theorem execComb_moves (a0 : ℕ) (a1 : PlaitHdr) (a2 : CombMsg) (s : State) : Moves 0x5fdcb909 0xb3ffff00071e00 s (execComb a0 a1 a2 s) := by
  unfold execComb
  refine run_moves rfl (fun m0 x hx => ?_)
  refine touch_app ?_ (Mach.plaitFrame_touch ..) rfl rfl
  exact hx

theorem execSamp_moves (a0 : ℕ) (a1 : PlaitHdr) (a2 : Fin 64) (a3 : BitVec 64) (a4 : StreamSample) (s : State) : Moves 0x5fdcb909 0xb3ffff00071e00 s (execSamp a0 a1 a2 a3 a4 s) := by
  unfold execSamp
  refine run_moves rfl (fun m0 x hx => ?_)
  refine touch_app ?_ (Mach.plaitFrame_touch ..) rfl rfl
  exact hx

theorem execTdig_moves (a0 : ℕ) (a1 : PlaitHdr) (a2 : Fin 64) (a3 : BitVec 64) (a4 : BitVec 64) (s : State) : Moves 0x5fdcb909 0xb3ffff00071e00 s (execTdig a0 a1 a2 a3 a4 s) := by
  unfold execTdig
  refine run_moves rfl (fun m0 x hx => ?_)
  refine touch_app ?_ (Mach.plaitFrame_touch ..) rfl rfl
  exact hx

theorem execRdig_moves (a0 : ℕ) (a1 : PlaitHdr) (a2 : Fin 4096) (a3 : BitVec 64) (a4 : BitVec 64) (s : State) : Moves 0x5fdcb909 0xb3ffff00071e00 s (execRdig a0 a1 a2 a3 a4 s) := by
  unfold execRdig
  refine run_moves rfl (fun m0 x hx => ?_)
  refine touch_app ?_ (Mach.plaitFrame_touch ..) rfl rfl
  exact hx

theorem execFdig_moves (a0 : ℕ) (a1 : PlaitHdr) (a2 : Fin 1024) (a3 : Word) (a4 : Word) (a5 : BitVec 16) (a6 : BitVec 64) (s : State) : Moves 0x5fdcb909 0xb3ffff00071e00 s (execFdig a0 a1 a2 a3 a4 a5 a6 s) := by
  unfold execFdig
  refine run_moves rfl (fun m0 x hx => ?_)
  refine touch_app ?_ (Mach.plaitFrame_touch ..) rfl rfl
  exact hx

theorem execSwap_moves (a0 : ℕ) (a1 : PlaitHdr) (a2 : BitVec 64) (s : State) : Moves 0x5fdcb909 0xb3ffff00071e00 s (execSwap a0 a1 a2 s) := by
  unfold execSwap
  refine run_moves rfl (fun m0 x hx => ?_)
  refine touch_app ?_ (Mach.plaitFrame_touch ..) rfl rfl
  exact hx

theorem execSwapTick_moves (a0 : ℕ) (s : State) : Moves 0x1fdcb909 0x32ffff00071a00 s (execSwapTick a0 s) := by
  unfold execSwapTick
  refine run_moves rfl (fun m0 x hx => ?_)
  refine touch_app ?_ (Mach.swapNow_touch ..) rfl rfl
  exact hx

theorem execFrec_moves (a0 : ℕ) (a1 : PlaitHdr) (a2 : FrecMsg) (s : State) : Moves 0x5fdcb909 0xb3ffff00071e00 s (execFrec a0 a1 a2 s) := by
  unfold execFrec
  refine run_moves rfl (fun m0 x hx => ?_)
  refine touch_app ?_ (Mach.plaitFrame_touch ..) rfl rfl
  exact hx

theorem execCut_moves (a0 : ℕ) (a1 : PlaitHdr) (a2 : CutMsg) (s : State) : Moves 0x5fdcb909 0xb3ffff00071e00 s (execCut a0 a1 a2 s) := by
  unfold execCut
  refine run_moves rfl (fun m0 x hx => ?_)
  refine touch_app ?_ (Mach.plaitFrame_touch ..) rfl rfl
  exact hx

theorem execCend_moves (a0 : ℕ) (a1 : PlaitHdr) (a2 : CendMsg) (s : State) : Moves 0x5fdcb909 0xb3ffff00071e00 s (execCend a0 a1 a2 s) := by
  unfold execCend
  refine run_moves rfl (fun m0 x hx => ?_)
  refine touch_app ?_ (Mach.plaitFrame_touch ..) rfl rfl
  exact hx

theorem execCack_moves (a0 : ℕ) (a1 : PlaitHdr) (a2 : Bool) (s : State) : Moves 0x5fdcb909 0xb3ffff00071e00 s (execCack a0 a1 a2 s) := by
  unfold execCack
  refine run_moves rfl (fun m0 x hx => ?_)
  refine touch_app ?_ (Mach.plaitFrame_touch ..) rfl rfl
  exact hx

theorem execCopySettleTimeout_moves (a0 : ℕ) (s : State) : Moves 0x1003109 0x2000000000000 s (execCopySettleTimeout a0 s) := by
  unfold execCopySettleTimeout
  refine run_moves rfl (fun m0 x hx => ?_)
  refine touch_onExpiry ?_ rfl (fun x hx => ?_)
  · exact hx
  · refine touch_app ?_ (Mach.failCopy_touch ..) rfl rfl
    exact hx

theorem execCopyRetryExpiry_moves (a0 : ℕ) (s : State) : Moves 0x1001109 0x2000000000000 s (execCopyRetryExpiry a0 s) := by
  unfold execCopyRetryExpiry
  refine run_moves rfl (fun m0 x hx => ?_)
  refine touch_onExpiry ?_ rfl (fun x hx => ?_)
  · exact hx
  · refine touch_app ?_ (Mach.offerCopy_touch ..) rfl rfl
    exact hx

theorem execCopyClassInterruption_moves (a0 : ℕ) (s : State) : Moves 0x1003109 0x2000000000000 s (execCopyClassInterruption a0 s) := by
  unfold execCopyClassInterruption
  refine run_moves rfl (fun m0 x hx => ?_)
  refine touch_ite (fun _ => ?_) (fun _ => ?_)
  · refine touch_app ?_ (Mach.failCopy_touch ..) rfl rfl
    exact hx
  · exact hx

theorem execWitnessInterval_moves (a0 : ℕ) (s : State) : Moves 0xd04b109 0x2ffff00050000 s (execWitnessInterval a0 s) := by
  unfold execWitnessInterval
  refine run_moves rfl (fun m0 x hx => ?_)
  refine touch_onExpiry ?_ rfl (fun x hx => ?_)
  · exact hx
  · refine touch_ite (fun _ => ?_) (fun _ => ?_)
    · refine touch_app ?_ (Mach.sendWitness_touch ..) rfl rfl
      refine touch_app ?_ (Mach.arm_touch ..) rfl rfl
      exact hx
    · exact hx

theorem execWitnessFrameRx_moves (a0 : ℕ) (a1 : Fin 16) (a2 : Frame) (s : State) : Moves 0x1fdcb909 0x32ffff00071a00 s (execWitnessFrameRx a0 a1 a2 s) := by
  unfold execWitnessFrameRx
  refine run_moves rfl (fun m0 x hx => ?_)
  refine touch_app ?_ (Mach.witnessRx_touch ..) rfl rfl
  exact hx

theorem execWitnessTimeout_moves (a0 : ℕ) (s : State) : Moves 0x1fdcb909 0x32ffff00071a00 s (execWitnessTimeout a0 s) := by
  unfold execWitnessTimeout
  refine run_moves rfl (fun m0 x hx => ?_)
  refine touch_app ?_ (Mach.twinEval_touch ..) rfl rfl
  refine touch_onExpiry ?_ rfl (fun x hx => ?_)
  · refine touch_onExpiry ?_ rfl (fun x hx => ?_)
    · exact hx
    · refine touch_app ?_ (Mach.decideOut_touch ..) rfl rfl
      exact hx
  · refine touch_app ?_ (Mach.witnessQuiet_touch ..) rfl rfl
    exact hx

theorem execSearchExpiry_moves (a0 : ℕ) (s : State) : Moves 0x1fdcb909 0x32ffff00071a00 s (execSearchExpiry a0 s) := by
  unfold execSearchExpiry
  refine run_moves rfl (fun m0 x hx => ?_)
  refine touch_onExpiry ?_ rfl (fun x hx => ?_)
  · exact hx
  · refine touch_ite (fun _ => ?_) (fun _ => ?_)
    · refine touch_app ?_ (Mach.toLead_touch ..) rfl rfl
      exact hx
    · exact hx

theorem execRevertHoldExpiry_moves (a0 : ℕ) (s : State) : Moves 0x1001101 0x0 s (execRevertHoldExpiry a0 s) := by
  unfold execRevertHoldExpiry
  refine run_moves rfl (fun m0 x hx => ?_)
  refine touch_onExpiry ?_ rfl (fun x hx => ?_)
  · exact hx
  · refine touch_app ?_ (Mach.startSwap_touch ..) rfl rfl
    exact hx

theorem execTickNominalTime_moves (a0 : ℕ) (s : State) : Moves 0x1fdeb90b 0x32ffff00071a60 s (execTickNominalTime a0 s) := by
  unfold execTickNominalTime
  refine run_moves rfl (fun m0 x hx => ?_)
  refine touch_app ?_ (Mach.swapNow_touch ..) rfl rfl
  refine touch_app ?_ (Mach.twinEval_touch ..) rfl rfl
  refine touch_app ?_ (Mach.commitTick_touch ..) rfl rfl
  refine touch_each ?_ (fun y x hx => ?_)
  · refine touch_app ?_ (Mach.timeDue_touch ..) rfl rfl
    exact hx
  · refine touch_app ?_ (Mach.settleStamps_touch ..) rfl rfl
    exact hx

end Sys2Proof.Machine
end

