-- ==== Sys2Proof/Laws/Frame/Reach.lean ====
section
/-! SUPPORT. From the frame of a command, stated by masks, to its reach, stated by the names of the parts and pages. -/

namespace Sys2Proof.Machine

/-- The number of a part: its place in `Mach`. -/
def Piece.place : Piece → Nat
  | p => allPieces.idxOf p

/-- The mask of a list of parts. -/
def maskOf : List Piece → Nat
  | [] => 0
  | p :: l => 2 ^ p.place ||| maskOf l

/-- The mask of a list of pages. -/
def pageMask : List Nat → Nat
  | [] => 0
  | p :: l => 2 ^ p ||| pageMask l

theorem place_inj (p q : Piece) (h : p.place = q.place) : p = q := by
  have hp : allPieces[p.place]? = some p := by cases p <;> rfl
  have hq : allPieces[q.place]? = some q := by cases q <;> rfl
  rw [h, hq] at hp
  exact (Option.some.inj hp).symm

theorem maskOf_not (l : List Piece) (p : Piece) (h : p ∉ l) : (maskOf l).testBit p.place = false := by
  induction l with
  | nil => simp [maskOf]
  | cons q r ih =>
    have h1 : p ≠ q := fun e => h (e ▸ List.mem_cons_self ..)
    have h2 : p ∉ r := fun e => h (List.mem_cons_of_mem _ e)
    have h3 : q.place ≠ p.place := fun e => h1 (place_inj q p e).symm
    simp [maskOf, Nat.testBit_or, ih h2, h3]

theorem pageMask_not (l : List Nat) (p : Nat) (h : p ∉ l) : (pageMask l).testBit p = false := by
  induction l with
  | nil => simp [pageMask]
  | cons q r ih =>
    have h1 : q ≠ p := fun e => h (e ▸ List.mem_cons_self ..)
    have h2 : p ∉ r := fun e => h (List.mem_cons_of_mem _ e)
    simp [pageMask, Nat.testBit_or, ih h2, h1]

theorem pageMask_range (n k : Nat) : (pageMask ((List.range n).map (k + ·))).testBit = fun i => decide (k ≤ i ∧ i < k + n) := by
  funext i
  by_cases h : k ≤ i ∧ i < k + n
  · have hm : i ∈ (List.range n).map (k + ·) := List.mem_map.mpr ⟨i - k, List.mem_range.mpr (by omega), by omega⟩
    have key : ∀ l : List Nat, i ∈ l → (pageMask l).testBit i = true := by
      intro l
      induction l with
      | nil => simp
      | cons q r ih =>
        intro hi
        rcases List.mem_cons.mp hi with rfl | hi
        · simp [pageMask]
        · simp [pageMask, ih hi]
    rw [key _ hm, decide_eq_true h]
  · rw [decide_eq_false h]
    refine pageMask_not _ _ fun hm => h ?_
    obtain ⟨j, hj, rfl⟩ := List.mem_map.mp hm
    have := List.mem_range.mp hj
    omega

/-- The mask of every page. -/
theorem pageMask_every : pageMask everyPage = 0xFFFFFFFFFFFFFFFFFFFFFFFFFFFFFFFFFFFFFFFFFFFFFFFFFFFFFFFFFFFFFFFF := by
  have h : everyPage = (List.range 256).map (0 + ·) := by unfold everyPage; simp
  have h2 : (0xFFFFFFFFFFFFFFFFFFFFFFFFFFFFFFFFFFFFFFFFFFFFFFFFFFFFFFFFFFFFFFFF : Nat) = 2 ^ 256 - 1 := by norm_num
  rw [h, h2]
  refine Nat.eq_of_testBit_eq fun i => ?_
  rw [pageMask_range, Nat.testBit_two_pow_sub_one]
  simp

theorem keeps_of_same (p : Piece) {m m' : Mach} (h : m.same p.place m') : m.keeps m' p := by
  cases p <;> exact h

/-- A command within a frame stays within the reach whose masks these are, and canonical memory stays canonical. -/
theorem reach_of_moves {A P : Nat} {s : State} {o : Host.Outcome State Fault Refusal} (r : Reach) (h : Moves A P s o)
    (hA : maskOf r.pieces = A) (hP : pageMask r.pages = P) :
    ∃ m', o = .next { s with m := m' } ∧ s.m.inReach r m' ∧ (s.m.memOk → m'.memOk) := by
  subst hA hP
  obtain ⟨m', ho, h1, h2, h3⟩ := h
  exact ⟨m', ho, ⟨fun p hp => keeps_of_same p (h1 _ (maskOf_not _ _ hp)),
    fun page off idx hpage hoff hp hr => h2 page off idx hpage hoff (pageMask_not _ _ hp) hr⟩, h3⟩

/-- The same for a command that may write any page. -/
theorem reach_of_moves_every {A : Nat} {s : State} {o : Host.Outcome State Fault Refusal} {r : Reach} {l : List Piece}
    (h : Moves A 0xFFFFFFFFFFFFFFFFFFFFFFFFFFFFFFFFFFFFFFFFFFFFFFFFFFFFFFFFFFFFFFFF s o)
    (hr : r = ⟨l, everyPage⟩) (hA : maskOf l = A) :
    ∃ m', o = .next { s with m := m' } ∧ s.m.inReach r m' ∧ (s.m.memOk → m'.memOk) :=
  by
  subst hr
  exact reach_of_moves ⟨l, everyPage⟩ h hA pageMask_every

end Sys2Proof.Machine
end

