-- ==== Sys2Proof/Laws/Rows.lean ====
section
/-! SUPPORT. What the claims about single commands go through: how a command completes, and how a field reads after each shared
operation. -/

namespace Sys2Proof.Machine

/-! ### Completion -/

theorem completes_run {c : Instr} {s : State} {t : Nat} {f : Mach → Mach} {P : Mach → Prop} (h : exec c s = s.run t f)
    (hp : s.m.powered = true) (hP : P (f (s.m.advance t))) : Completes c s P :=
  ⟨_, h.trans (run_powered s t f hp), hP⟩

theorem completes_runOff {c : Instr} {s : State} {t : Nat} {f : Mach → Mach} {P : Mach → Prop} (h : exec c s = s.runOff t f)
    (hP : P (f (s.m.advance t))) : Completes c s P := ⟨_, h, hP⟩

theorem completes_fires {c : Instr} {s : State} {t : Nat} {tm : Timer} {f : Mach → Mach} {P : Mach → Prop}
    (h : exec c s = s.run t fun m => m.onExpiry tm f) (hf : s.m.fires tm t) (hP : P (f ((s.m.advance t).disarm tm))) :
    Completes c s P :=
  completes_run h hf.1 (by rw [onExpiry_due _ _ _ hf.2]; exact hP)

/-! ### Fields -/

/-- A field within a word of a page, as a check. -/
def Fd.fit (f : Fd) : Bool := decide (f.lo ≤ f.hi) && decide (f.hi < 32) && decide (f.page < 256) && decide (f.off < 4096)

/-- Two fields that share no bit, whatever their instances, as a check. -/
def Fd.clear (f g : Fd) : Bool :=
  Fd.fit f && Fd.fit g && (f.page != g.page || f.off != g.off || decide (f.hi < g.lo) || decide (g.hi < f.lo))

theorem Fd.fits_of_fit {f : Fd} (h : Fd.fit f = true) : Fd.fits f := by
  simp only [Fd.fit, Bool.and_eq_true, decide_eq_true_eq] at h
  exact ⟨h.1.1.1, h.1.1.2, h.1.2, h.2⟩

theorem fld_set (m : Mach) (f : Fd) (i v : Nat) (hf : Fd.fit f = true) : (m.setFld f i v).fld f i = v % 2 ^ (f.hi + 1 - f.lo) :=
  fld_setFld_same m f i v (Fd.fits_of_fit hf)

theorem fld_set_clear (m : Mach) (f g : Fd) (i j v : Nat) (h : Fd.clear f g = true) : (m.setFld f i v).fld g j = m.fld g j := by
  simp only [Fd.clear, Bool.and_eq_true, Bool.or_eq_true, bne_iff_ne, decide_eq_true_eq] at h
  refine fld_setFld_apart m f g i j v (Fd.fits_of_fit h.1.1) (Fd.fits_of_fit h.1.2) ?_
  rcases h.2 with ((h | h) | h) | h
  · exact .inl h
  · exact .inr (.inl h)
  · exact .inr (.inr (.inr (.inl h)))
  · exact .inr (.inr (.inr (.inr h)))

theorem fld_flag_clear (m : Mach) (f g : Fd) (i j : Nat) (b : Bool) (h : Fd.clear f g = true) :
    (m.setFlag f i b).fld g j = m.fld g j := fld_set_clear m f g i j _ h

theorem fld_count_clear (m : Mach) (f g : Fd) (i j n : Nat) (h : Fd.clear f g = true) :
    (m.count f i n).fld g j = m.fld g j := fld_set_clear m f g i j _ h

theorem fld_count (m : Mach) (f : Fd) (i n : Nat) (hf : Fd.fit f = true) :
    (m.count f i n).fld f i = (m.fld f i + n) % 2 ^ (f.hi + 1 - f.lo) := fld_set m f i _ hf

theorem flag_set (m : Mach) (f : Fd) (i : Nat) (b : Bool) (hf : Fd.fit f = true) : (m.setFlag f i b).flag f i = b :=
  flag_setFlag_same m f i b (Fd.fits_of_fit hf)

/-- Is a field clear of the words an event of a page can write, as a check? -/
def Fd.noEvt (q : Nat) (f : Fd) : Bool :=
  Fd.fit f && decide (q < 256) && !(f.page == q && f.off == 0x014)
    && !(f.page == 7 && (f.off == 0x014 || (decide (COIL_CNT_n.off ≤ f.off) && decide (f.off < COIL_CNT_n.off + 32))))

theorem fld_event (m : Mach) (q b : Nat) (a : Attr) (f : Fd) (i : Nat) (h : Fd.noEvt q f = true) :
    (m.event q b a).fld f i = m.fld f i := by
  simp only [Fd.noEvt, Fd.fit, Bool.and_eq_true, decide_eq_true_eq, Bool.not_eq_true', Bool.and_eq_false_iff, Bool.or_eq_false_iff,
    beq_eq_false_iff_ne, decide_eq_false_iff_not] at h
  obtain ⟨⟨⟨h1, h2⟩, h3⟩, h4⟩ := h
  refine within_fld (event_within m q b a h2) f i h1.1.2 h1.2 ?_
  unfold evtOf recPage
  rintro (⟨hp, ho⟩ | ⟨hp, ho⟩)
  · rcases h4 with h4 | ⟨h4, h5⟩
    · exact h4 hp
    · rcases ho with ho | ho
      · exact h4 ho
      · rcases h5 with h5 | h5
        · exact h5 ho.1
        · exact h5 ho.2
  · rcases h3 with h3 | h3
    · exact h3 hp
    · exact h3 ho

theorem evt_event (m : Mach) (q b : Nat) (a : Attr) (h : (decide (q < 256) && decide (b < 32)) = true) :
    (m.event q b a).evt q b = true := by
  simp only [Bool.and_eq_true, decide_eq_true_eq] at h
  exact event_sets m q b a h.1 h.2

/-! ### Writes of command registers -/

/-- A write of `v` to a register of fields that are RO or WO alone, which nothing but its width, its page or its source can
reject, as a check. -/
def plainWord (page off v : Nat) : Bool :=
  mapped page && decide (page < 256) && decide (0x040 ≤ off) && decide (off < 4096) && !(page == 0x03 && off == 0x050)
    && !(page == 0x01 && off == 0x044) && !(page == 0x0C && off == 0x048)
    && match findReg page off with
    | none => false
    | some d => d.hiOff.isNone && (lowOffsets page off).isEmpty && !isSelector page d && !hasRwl d && writable d
        && d.flds.all (fun f => (f.acc == .ro || f.acc == .wo) && (f.acc == .ro || inRange f v))
        && v.land (2 ^ 32 - 1 - accMask d [.ro, .rw, .w1c, .wo, .rwl]) == 0 && accMask d [.rw, .rwl] == 0 && accMask d [.w1c] == 0
        && decide (v < 2 ^ 32)

/-- The same, and no request for an admission run. -/
def plainCmd (page off v : Nat) : Bool := !(page == 0x08 && off == 0x040) && plainWord page off v

theorem kget_kput (k j : Nat) (v : Word) (l : KMap Word) : kget j (kput k v l) = if j = k then some v else kget j l := by
  by_cases h : j = k
  · subst h; simp
  · rw [kget_kput_ne _ _ h, if_neg h]

/-- Held words written back as they were. -/
theorem reg_setReg_self (m : Mach) {p o i p' o' i' : Nat} (hp : p < 256) (ho : o < 4096) (hp' : p' < 256) (ho' : o' < 4096) :
    (m.setReg p o i (m.reg p o i)).reg p' o' i' = m.reg p' o' i' := by
  by_cases h : regKey p' o' i' = regKey p o i
  · obtain ⟨rfl, rfl, rfl⟩ := regKey_inj hp' ho' hp ho h
    simp
  · exact reg_setReg_ne m _ h

theorem put_plain (m : Mach) (src : Src) (page off v : Nat) (h : plainWord page off v = true) (hs : m.mayWrite src)
    (hsr : secondRun m page off v = false) :
    ∃ i k, k = m.setReg page off i (m.reg page off i) ∧ (∀ d, findReg page off = some d → i = selIndex m d)
      ∧ m.put src page off v = (k.act src page off i v).auditWrite page src off (word v) := by
  unfold plainWord at h
  simp only [Bool.and_eq_true, decide_eq_true_eq, Bool.not_eq_true'] at h
  obtain ⟨⟨⟨⟨⟨⟨⟨hm, hp⟩, ho⟩, ho2⟩, h350⟩, h144⟩, hC⟩, hd⟩ := h
  split at hd
  · simp at hd
  rename_i d hfind
  simp only [Bool.and_eq_true, decide_eq_true_eq, Bool.not_eq_true', List.all_eq_true, Bool.or_eq_true, beq_iff_eq] at hd
  obtain ⟨⟨⟨⟨⟨⟨⟨⟨⟨hhi, hlow⟩, hsel⟩, hrwl⟩, hwr⟩, hfl⟩, hmask⟩, hset⟩, hclr⟩, hv⟩ := hd
  have hfl' : ∀ f ∈ d.flds, (f.acc == Acc.rwl) = false ∧ (f.acc == Acc.rw) = false := by
    intro f hf
    rcases (hfl f hf).1 with h | h <;> simp [h]
  have hv2 : (word v).toNat = v := by rw [word_toNat, Nat.mod_eq_of_lt hv]
  have hdbg : debugIgnored m src page off = false := by
    unfold debugIgnored
    cases src <;> simp
    intro h
    have := hs rfl
    omega
  have hcw : configWrite m page off v = false := by
    unfold configWrite
    rw [if_neg (by omega), hfind]
    simp only [List.any_eq_false]
    intro f hf
    have := hfl' f hf
    simp [this.1, this.2]
  have href : wordRefusal m src page off v = none := by
    unfold wordRefusal blockRefusal
    have hin : (d.flds.all fun f => f.acc == .ro || inRange f v) = true := by
      rw [List.all_eq_true]
      intro f hf
      have := (hfl f hf).2
      simpa using this
    have h1 : ¬ (page = 0x03 ∧ off = 0x050) := by
      intro e; simp [e] at h350
    rw [hcw, hsr]
    simp only [Bool.and_false, Bool.or_self, Bool.false_eq_true, if_false, hfind, hrwl, hwr, Bool.not_true, h1, hmask, ne_eq,
      not_true_eq_false, hin]
    rw [if_neg (by omega)]
    unfold specialRefusal
    split
    · simp at h144
    · simp at hC
    · exact absurd hset (by rw [show d = _ from (Option.some.inj hfind).symm]; decide)
    · exact absurd hset (by rw [show d = _ from (Option.some.inj hfind).symm]; decide)
    · rfl
  refine ⟨selIndex m d, _, rfl, fun d' h' => by rw [hfind] at h'; rw [Option.some.inj h'], ?_⟩
  unfold Mach.put Mach.writeWord
  rw [hm, hdbg, hv2, href, hfind]
  simp only [Bool.not_true, Bool.false_eq_true, if_false, if_neg (show ¬ off = 0x028 by omega), if_neg (show ¬ off < 0x040 by omega)]
  unfold Mach.writeBlockReg
  have hstore : m.storeWord page off (selIndex m d) (word v) = m.setReg page off (selIndex m d) (m.reg page off (selIndex m d)) := by
    unfold Mach.storeWord
    rw [hfind]
    have hones : ∀ x : Word, x &&& 4294967295#32 = x := fun x => BitVec.and_allOnes
    simp [hset, hclr, word, hones]
  have hl2 : lowOffsets page off = [] := by simpa using hlow
  have hhi2 : d.hiOff.isSome = false := by simpa using hhi
  simp only [hhi2, Bool.false_eq_true, if_false, hl2, List.filterMap_nil, hsel, hv2]
  simp only [Mach.each, List.foldl_nil, Mach.dropLows, hstore]

/-- The same module but for how its register words are listed. -/
def Mach.alike (m k : Mach) : Prop :=
  k = { m with regs := k.regs } ∧ ∀ p o i, p < 256 → o < 4096 → k.reg p o i = m.reg p o i

theorem alike_fld {m k : Mach} (h : m.alike k) (f : Fd) (i : Nat) (hp : f.page < 256) (ho : f.off < 4096) : k.fld f i = m.fld f i := by
  unfold Mach.fld; rw [h.2 _ _ _ hp ho]

/-- A command that is the write of a command register: what its write triggers. -/
theorem completes_word {c : Instr} {s : State} {t : Nat} {src : Src} {page off v : Nat} {P : Mach → Prop}
    (h : exec c s = s.run t fun m => m.put src page off v) (hp : s.m.powered = true) (hs : s.m.mayWrite src)
    (hc : plainWord page off v = true) (hsr : secondRun s.m page off v = false)
    (hP : ∀ k i, (s.m.advance t).alike k → (∀ d, findReg page off = some d → i = selIndex (s.m.advance t) d) →
      P ((k.act src page off i v).auditWrite page src off (word v))) : Completes c s P := by
  obtain ⟨i, k, hk, hi, he⟩ := put_plain (s.m.advance t) src page off v hc hs hsr
  refine completes_run h hp ?_
  show P ((s.m.advance t).put src page off v)
  rw [he]
  refine hP k i ⟨by rw [hk]; rfl, ?_⟩ hi
  intro p o j hp ho
  have h2 : page < 256 ∧ off < 4096 := by
    unfold plainWord at hc
    simp only [Bool.and_eq_true, decide_eq_true_eq] at hc
    exact ⟨hc.1.1.1.1.1.1.2, hc.1.1.1.1.2⟩
  rw [hk]
  exact reg_setReg_self _ h2.1 h2.2 hp ho

theorem completes_put {c : Instr} {s : State} {t : Nat} {src : Src} {page off v : Nat} {P : Mach → Prop}
    (h : exec c s = s.run t fun m => m.put src page off v) (hp : s.m.powered = true) (hs : s.m.mayWrite src)
    (hc : plainCmd page off v = true)
    (hP : ∀ k i, (s.m.advance t).alike k → (∀ d, findReg page off = some d → i = selIndex (s.m.advance t) d) →
      P ((k.act src page off i v).auditWrite page src off (word v))) : Completes c s P := by
  unfold plainCmd at hc
  simp only [Bool.and_eq_true, Bool.not_eq_true'] at hc
  refine completes_word h hp hs hc.2 ?_ hP
  unfold secondRun
  rw [hc.1]; rfl

/-- A field of a page outside the mask, and clear of the recorder's own words, reads as before. -/
theorem fld_touch {A P : Nat} {m m' : Mach} (h : m.touch A P m') (f : Fd) (i : Nat)
    (hf : (decide (f.page < 256) && decide (f.off < 4096) && !P.testBit f.page
      && !(f.page == 7 && (f.off == 0x014 || (decide (COIL_CNT_n.off ≤ f.off) && decide (f.off < COIL_CNT_n.off + 32))))) = true) :
    m'.fld f i = m.fld f i := by
  simp only [Bool.and_eq_true, decide_eq_true_eq, Bool.not_eq_true', Bool.and_eq_false_iff, Bool.or_eq_false_iff,
    beq_eq_false_iff_ne, decide_eq_false_iff_not] at hf
  obtain ⟨⟨⟨h1, h2⟩, h3⟩, h4⟩ := hf
  unfold Mach.fld
  rw [h.2.1 _ _ _ h1 h2 h3]
  rintro ⟨hp, ho⟩
  rcases h4 with h4 | ⟨h4, h5⟩
  · exact h4 hp
  · rcases ho with ho | ho
    · exact h4 ho
    · rcases h5 with h5 | h5
      · exact h5 ho.1
      · exact h5 ho.2

theorem fld_audit (m : Mach) (p : Nat) (src : Src) (off : Nat) (v : Word) (f : Fd) (i : Nat)
    (hf : (decide (f.page < 256) && decide (f.off < 4096)
      && !(f.page == 7 && (f.off == 0x014 || (decide (COIL_CNT_n.off ≤ f.off) && decide (f.off < COIL_CNT_n.off + 32))))) = true) :
    (m.auditWrite p src off v).fld f i = m.fld f i :=
  fld_touch (P := 0) (Mach.auditWrite_touch m p src off v) f i (by simpa using hf)

theorem evt_touch {A P : Nat} {m m' : Mach} (h : m.touch A P m') (q b : Nat)
    (hq : (decide (q < 256) && !P.testBit q && q != 7) = true) : m'.evt q b = m.evt q b := by
  unfold Mach.evt
  simp only [Bool.and_eq_true, bne_iff_ne, ne_eq, decide_eq_true_eq] at hq
  rw [fld_touch h]
  simp [hEvt, hq.1.1, hq.1.2, hq.2]

theorem same_touch {A P : Nat} {m m' : Mach} (h : m.touch A P m') (k : Nat) (hk : A.testBit k = false) : m.same k m' := h.1 k hk

theorem debugIgnored_false {m : Mach} {src : Src} (hs : m.mayWrite src) (page off : Nat) : debugIgnored m src page off = false := by
  unfold debugIgnored
  cases src <;> simp
  intro h
  have := hs rfl
  omega

theorem evt_audit (m : Mach) (p : Nat) (src : Src) (off : Nat) (v : Word) (q b : Nat) (hq : q < 256) (h7 : q ≠ 7) :
    (m.auditWrite p src off v).evt q b = m.evt q b :=
  evt_touch (P := 0) (Mach.auditWrite_touch m p src off v) q b (by simp [hq, h7])

theorem bit_testBit (v n : Nat) : bit v n = v.testBit n := by
  unfold bit bits
  simp only [show n + 1 - n = 1 by omega, Nat.testBit_eq_decide_div_mod_eq, pow_one]
  by_cases h : v / 2 ^ n % 2 = 1 <;> simp [h]

theorem evt_reg (m : Mach) (q b : Nat) (h : b < 32) : m.evt q b = (m.reg q 0x014 0).getLsbD b := by
  unfold Mach.evt Mach.fld hEvt
  rw [bit_testBit, bits_testBit]
  have : b < 31 + 1 - 0 := by omega
  simp [this, BitVec.getLsbD]

/-- An event that the recorder has room for changes no register but the count of losses. -/
theorem reg_intake_room (m : Mach) (page code sev attr : Nat) (snap : List Word) (cut : Bool) (p o i : Nat)
    (hf : m.coil.fifo.length < 32) (hw : m.now / 2 ^ 32 ≤ m.coil.wrapNo) (hp : p < 256) (ho : o < 4096)
    (hne : ¬ (p = COIL_INTAKE_LOSS.page ∧ o = COIL_INTAKE_LOSS.off)) :
    (m.intake page code sev attr m.tag snap cut).reg p o i = m.reg p o i := by
  unfold Mach.intake
  have hw2 : ¬ m.coil.wrapNo < wrapOfTag m m.tag := by unfold wrapOfTag; simp; omega
  split
  · unfold Mach.count
    rw [reg_setFld_ne]
    intro h
    exact hne ⟨(regKey_inj hp ho (by decide) (by decide) h).1, (regKey_inj hp ho (by decide) (by decide) h).2.1⟩
  · simp only [if_neg hw2]
    split
    · rfl
    · rw [if_pos hf]; rfl

/-! ### What a touch leaves, field by field -/

theorem now_of_touch {A P : Nat} {m m' : Mach} (h : m.touch A P m') (hA : A.testBit 0 = false) : m'.now = m.now := h.1 0 hA

theorem free_of_touch {A P : Nat} {m m' : Mach} (h : m.touch A P m') (hA : A.testBit 1 = false) : m'.free = m.free := h.1 1 hA

theorem powered_of_touch {A P : Nat} {m m' : Mach} (h : m.touch A P m') (hA : A.testBit 2 = false) : m'.powered = m.powered := h.1 2 hA

theorem regs_of_touch {A P : Nat} {m m' : Mach} (h : m.touch A P m') (hA : A.testBit 3 = false) : m'.regs = m.regs := h.1 3 hA

theorem force_of_touch {A P : Nat} {m m' : Mach} (h : m.touch A P m') (hA : A.testBit 4 = false) : m'.force = m.force := h.1 4 hA

theorem low_of_touch {A P : Nat} {m m' : Mach} (h : m.touch A P m') (hA : A.testBit 5 = false) : m'.low = m.low := h.1 5 hA

theorem capt_of_touch {A P : Nat} {m m' : Mach} (h : m.touch A P m') (hA : A.testBit 6 = false) : m'.capt = m.capt := h.1 6 hA

theorem frozen_of_touch {A P : Nat} {m m' : Mach} (h : m.touch A P m') (hA : A.testBit 7 = false) : m'.frozen = m.frozen := h.1 7 hA

theorem timers_of_touch {A P : Nat} {m m' : Mach} (h : m.touch A P m') (hA : A.testBit 8 = false) : m'.timers = m.timers := h.1 8 hA

theorem bulk_of_touch {A P : Nat} {m m' : Mach} (h : m.touch A P m') (hA : A.testBit 9 = false) : m'.bulk = m.bulk := h.1 9 hA

theorem bulkF_of_touch {A P : Nat} {m m' : Mach} (h : m.touch A P m') (hA : A.testBit 10 = false) : m'.bulkF = m.bulkF := h.1 10 hA

theorem mem_of_touch {A P : Nat} {m m' : Mach} (h : m.touch A P m') (hA : A.testBit 11 = false) : m'.mem = m.mem := h.1 11 hA

theorem outs_of_touch {A P : Nat} {m m' : Mach} (h : m.touch A P m') (hA : A.testBit 12 = false) : m'.outs = m.outs := h.1 12 hA

theorem coil_of_touch {A P : Nat} {m m' : Mach} (h : m.touch A P m') (hA : A.testBit 13 = false) : m'.coil = m.coil := h.1 13 hA

theorem cmd_of_touch {A P : Nat} {m m' : Mach} (h : m.touch A P m') (hA : A.testBit 14 = false) : m'.cmd = m.cmd := h.1 14 hA

theorem cdc_of_touch {A P : Nat} {m m' : Mach} (h : m.touch A P m') (hA : A.testBit 15 = false) : m'.cdc = m.cdc := h.1 15 hA

theorem pace_of_touch {A P : Nat} {m m' : Mach} (h : m.touch A P m') (hA : A.testBit 16 = false) : m'.pace = m.pace := h.1 16 hA

theorem time_of_touch {A P : Nat} {m m' : Mach} (h : m.touch A P m') (hA : A.testBit 17 = false) : m'.time = m.time := h.1 17 hA

theorem ptp_of_touch {A P : Nat} {m m' : Mach} (h : m.touch A P m') (hA : A.testBit 18 = false) : m'.ptp = m.ptp := h.1 18 hA

theorem svi_of_touch {A P : Nat} {m m' : Mach} (h : m.touch A P m') (hA : A.testBit 19 = false) : m'.svi = m.svi := h.1 19 hA

theorem msr_of_touch {A P : Nat} {m m' : Mach} (h : m.touch A P m') (hA : A.testBit 20 = false) : m'.msr = m.msr := h.1 20 hA

theorem adm_of_touch {A P : Nat} {m m' : Mach} (h : m.touch A P m') (hA : A.testBit 21 = false) : m'.adm = m.adm := h.1 21 hA

theorem dsp_of_touch {A P : Nat} {m m' : Mach} (h : m.touch A P m') (hA : A.testBit 22 = false) : m'.dsp = m.dsp := h.1 22 hA

theorem pub_of_touch {A P : Nat} {m m' : Mach} (h : m.touch A P m') (hA : A.testBit 23 = false) : m'.pub = m.pub := h.1 23 hA

theorem twn_of_touch {A P : Nat} {m m' : Mach} (h : m.touch A P m') (hA : A.testBit 24 = false) : m'.twn = m.twn := h.1 24 hA

theorem parts_of_touch {A P : Nat} {m m' : Mach} (h : m.touch A P m') (hA : A.testBit 25 = false) : m'.parts = m.parts := h.1 25 hA

theorem ports_of_touch {A P : Nat} {m m' : Mach} (h : m.touch A P m') (hA : A.testBit 26 = false) : m'.ports = m.ports := h.1 26 hA

theorem pairs_of_touch {A P : Nat} {m m' : Mach} (h : m.touch A P m') (hA : A.testBit 27 = false) : m'.pairs = m.pairs := h.1 27 hA

theorem swc_of_touch {A P : Nat} {m m' : Mach} (h : m.touch A P m') (hA : A.testBit 28 = false) : m'.swc = m.swc := h.1 28 hA

theorem acq_of_touch {A P : Nat} {m m' : Mach} (h : m.touch A P m') (hA : A.testBit 29 = false) : m'.acq = m.acq := h.1 29 hA

theorem nrg_of_touch {A P : Nat} {m m' : Mach} (h : m.touch A P m') (hA : A.testBit 30 = false) : m'.nrg = m.nrg := h.1 30 hA

theorem pls_of_touch {A P : Nat} {m m' : Mach} (h : m.touch A P m') (hA : A.testBit 31 = false) : m'.pls = m.pls := h.1 31 hA

theorem rim_of_touch {A P : Nat} {m m' : Mach} (h : m.touch A P m') (hA : A.testBit 32 = false) : m'.rim = m.rim := h.1 32 hA

theorem flash_of_touch {A P : Nat} {m m' : Mach} (h : m.touch A P m') (hA : A.testBit 33 = false) : m'.flash = m.flash := h.1 33 hA

theorem rst_of_touch {A P : Nat} {m m' : Mach} (h : m.touch A P m') (hA : A.testBit 34 = false) : m'.rst = m.rst := h.1 34 hA

end Sys2Proof.Machine
end

