-- ==== Sys2Proof/Laws/Claims.lean ====
section
/-! SUPPORT. More of what the claims about single commands go through: header fields, recorder intake, and how shared operations leave
what a claim reads. -/

set_option maxRecDepth 4000

namespace Sys2Proof.Machine

/-- The first rejection of a page stands in PAGE_ERR_INFO. -/
theorem fld_reject_first (m : Mach) (page : Nat) (src : Src) (off reason : Nat) (v : Word) (hp : decide (page < 256) = true)
    (h : bit (m.fld (hErr page)) 31 = false) :
    (m.reject page src off reason v).fld (hErr page) = (2 ^ 31 + reason * 2 ^ 16 + Src.code src * 2 ^ 12 + off % 2 ^ 12) % 2 ^ 32 := by
  have hp2 : page < 256 := of_decide_eq_true hp
  unfold Mach.reject
  rw [h]
  rw [within_fld (intake_within _ page 0x110 _ 0 _ _ false) (hErr page) 0 hp2 (by decide : (0x020 : Nat) < 4096) (by
    unfold recPage hErr; simp [COIL_CNT_n])]
  simp only [Bool.false_eq_true, if_false]
  have h2 : ∀ (x : Mach) (w : Word), (x.setReg page 0x024 0 w).fld (hErr page) 0 = x.fld (hErr page) 0 := by
    intro x w
    have h3 := reg_setReg_ne x w (show regKey page 0x020 0 ≠ regKey page 0x024 0 by unfold regKey; omega)
    show bits _ 31 0 = bits _ 31 0
    exact congrArg (fun y : Word => bits y.toNat 31 0) h3
  rw [h2]
  exact fld_set m (hErr page) 0 _ (by simp [Fd.fit, hErr, hp2])

theorem fld_set_hdr (m : Mach) (page : Nat) (f g : Fd) (v : Nat) (hf : f.page = page) (hg : g.page = page) (hp : page < 256)
   (h : (decide (f.lo ≤ f.hi) && decide (f.hi < 32) && decide (f.off < 4096) && decide (g.lo ≤ g.hi) && decide (g.hi < 32) && decide (g.off < 4096) && (f.off != g.off || decide (f.hi < g.lo) || decide (g.hi < f.lo))) = true) :
   (m.setFld f 0 v).fld g 0 = m.fld g 0 := by
  refine fld_set_clear m f g 0 0 v ?_
  simp only [Fd.clear, Fd.fit, Bool.and_eq_true, decide_eq_true_eq, hf, hg, hp, bne_self_eq_false, Bool.false_or, true_and, and_true] at *
  tauto

theorem each_keep {α β : Type} (q : Mach → β) (l : List α) (f : α → Mach → Mach) (m : Mach) (h : ∀ a y, q (f a y) = q y) : q (m.each l f) = q m := by
  unfold Mach.each
  induction l generalizing m with
  | nil => rfl
  | cons a r ih => exact (ih (f a m)).trans (h a m)

theorem touch_audit (m : Mach) (page code : Nat) (sn : List Word) : m.touch 0x3008 0 (m.audit page code sn) := Mach.audit_touch m page code sn

theorem fld_audit_hdr (m : Mach) (page p code : Nat) (sn : List Word) (f : Fd) (hf : f.page = page) (hp : page < 256)
    (h : (decide (f.off < 4096) && (f.off != 0x014) && decide (f.off < 0x040)) = true) : (m.audit p code sn).fld f 0 = m.fld f 0 := by
  refine fld_touch (P := 0) (Mach.audit_touch m p code sn) f 0 ?_
  simp only [Bool.and_eq_true, decide_eq_true_eq, bne_iff_ne] at h
  simp only [hf, Bool.and_eq_true, decide_eq_true_eq, Bool.not_eq_true', Bool.and_eq_false_iff, Bool.or_eq_false_iff,
    beq_eq_false_iff_ne, decide_eq_false_iff_not]
  exact ⟨⟨⟨hp, h.1.1⟩, by simp⟩, Or.inr ⟨h.1.2, Or.inl (by have := h.2; show ¬ (0x080 ≤ f.off); omega)⟩⟩

theorem pageHook_plain (m : Mach) (page : Nat) (old : KMap Word) (oldBulk : List Host.Cell) (keep : List Rec) (hm : mapped page = true)
    (ha : admittedPage page = false) : (m.pageHook page old oldBulk keep).force = m.force := by
  have hc : page = 0 ∨ page = 1 ∨ page = 3 ∨ page = 4 ∨ page = 5 ∨ page = 7 ∨ page = 8 ∨ page = 0xD ∨ page = 0xE ∨ page = 0xF ∨
      page = 0x33 ∨ page = 0x34 ∨ page = 0x35 ∨ page = 0x36 ∨ page = 0x37 := by
    have hlt : page < 0x38 := by simp [mapped] at hm; omega
    interval_cases page <;> first | (exact absurd hm (by decide)) | (exact absurd ha (by decide)) | simp
  rcases hc with rfl | rfl | rfl | rfl | rfl | rfl | rfl | rfl | rfl | rfl | rfl | rfl | rfl | rfl | rfl
  · rfl
  · show Mach.force (if _ then _ else _) = _
    split
    · exact (Mach.armWatchdog_touch m).1 4 (by decide)
    · rfl
  · show Mach.force (if _ then _ else _) = _
    split
    · exact (Mach.debugLock_touch m).1 4 (by decide)
    · rfl
  · rfl
  · exact (Mach.timeApply_touch m old).1 4 (by decide)
  · exact (Mach.coilApply_touch m old keep).1 4 (by decide)
  · rfl
  · exact (Mach.acqApply_touch m old).1 4 (by decide)
  · exact (Mach.nrgApply_touch m old).1 4 (by decide)
  · exact (Mach.plsApply_touch m old).1 4 (by decide)
  · rfl
  · exact (Mach.drtApply_touch m old).1 4 (by decide)
  · rfl
  · rfl
  · rfl

theorem softWord_facts (m : Mach) (page : Nat) :
    softWord m page / 8 = 0 ∧ bit (softWord m page) 2 = true ∧ bit (softWord m page) 0 = m.flag (hEnable page) ∧ bit (softWord m page) 1 = m.flag (hFreeze page)
      ∧ (word (softWord m page)).toNat = softWord m page := by
  have h1 : m.fld (hEnable page) < 2 := by unfold Mach.fld hEnable bits; exact Nat.mod_lt _ (by norm_num)
  have h2 : m.fld (hFreeze page) < 2 := by unfold Mach.fld hFreeze bits; exact Nat.mod_lt _ (by norm_num)
  unfold softWord Mach.flag bit bits
  rw [word_toNat]
  refine ⟨by omega, ?_, ?_, ?_, by omega⟩
  · simp; omega
  · simp; omega
  · simp; omega

theorem softReset_shows (m : Mach) (page : Nat) (hp : page < 256) : (m.softReset page).flag (hBusy page) = true ∧ (m.softReset page).fld (hEvt page) = 0
    ∧ (m.softReset page).deadline (.softReset page) = some (m.now + 10000) := by
  unfold Mach.softReset
  extract_lets -underBinder -merge -useContext +onlyGivenNames mac locked y z w
  have hz : w.now = m.now := by
    unfold w z y
    have h2 : ∀ x : Mach, ((x.resetBlock page).setFld (hEvt page) 0 0).now = x.now := fun x => (Mach.resetBlock_touch x page).1 0 (by decide)
    rw [h2]
    unfold Mach.when
    split <;> rfl
  have hw : w.fld (hEvt page) 0 = 0 := fld_set (z.resetBlock page) (hEvt page) 0 0 (by simp [Fd.fit, hEvt, hp])
  have hb : Fd.fit (hBusy page) = true := by simp [Fd.fit, hBusy, hp]
  clear_value w
  have h1 : (w.setFlag (hBusy page) 0 true).fld (hEvt page) 0 = w.fld (hEvt page) 0 :=
      fld_set_hdr w page (hBusy page) (hEvt page) _ rfl rfl hp rfl
  refine ⟨flag_set w _ 0 true hb, ?_, ?_⟩
  · rw [arm_fld, h1, hw]
  · rw [deadline_arm_same]
    show some (w.now + 10000) = _
    rw [hz]

theorem authPassed_touch (m : Mach) : m.touch 8 0x40000000000008 m.authPassed := by
  unfold Mach.authPassed Mach.setActive
  refine touch_app ?_ (Mach.setFld_touch (P := 0x40000000000008) _ _ _ _ rfl) rfl rfl
  exact Mach.setFld_touch (P := 0x40000000000008) _ _ _ _ rfl

theorem acceptFresh_touch (m : Mach) (tr : Transport) (v : Nat) : m.touch 0x4008 0x40000000000008 (m.acceptFresh tr v) := by
  unfold Mach.acceptFresh
  refine touch_app ?_ (Mach.onCmd_touch _ _) rfl (Nat.zero_and _)
  refine touch_mono (Mach.setFld_touch (P := 0x40000000000000) _ _ _ _ ?_) rfl rfl
  cases tr <;> rfl

theorem checked_touch (m : Mach) (tr : Transport) (vc : VCommand) : m.touch 0x4008 0x40000000000008 (m.checked tr vc) := by
  unfold Mach.checked
  split
  · exact touch_trans (touch_mono (authPassed_touch m) rfl rfl) (acceptFresh_touch _ _ _)
  · exact touch_refl _ _ _

theorem checked_cmd (m : Mach) (tr : Transport) (vc : VCommand) : (m.checked tr vc).cmd.out = m.cmd.out ∧ (m.checked tr vc).cmd.stored = m.cmd.stored
    ∧ (m.checked tr vc).cmd.waiting = m.cmd.waiting ∧ (m.checked tr vc).cmd.respProd = m.cmd.respProd ∧ (m.checked tr vc).cmd.respCons = m.cmd.respCons
    ∧ (m.checked tr vc).cmd.session = m.cmd.session := by
  unfold Mach.checked
  split
  · cases tr <;> exact ⟨rfl, rfl, rfl, rfl, rfl, rfl⟩
  · exact ⟨rfl, rfl, rfl, rfl, rfl, rfl⟩

theorem command_passes (m : Mach) (tr : Transport) (vc : VCommand) (h : m.passes tr vc) :
    m.command tr vc = (m.checked tr vc).accept tr (plainRoute m tr) vc m.now := by
  obtain ⟨h1, h2, h2', h3, h4, h5, h6, h7, h8, h9, h10, h11, h12⟩ := h
  unfold Mach.command
  rw [h1, h2]
  have h7' : ¬ 32 ≤ busyCount m tr := by omega
  have hw : (tr == .pcie && !m.cmd.waiting.isEmpty) = false := by
    cases tr
    · rw [h2' rfl]; rfl
    · rfl
  have h8' : tagTaken m tr vc = false := by
    unfold tagTaken
    rw [List.any_eq_false]
    intro o ho hb
    have := List.find?_eq_none.mp h8 o ho
    simp only [Bool.and_eq_true] at hb this
    exact this hb.1
  simp only [hw, if_true, Mach.receive, h3, h4, h5, h6, h7', h8', Bool.not_true, Bool.false_eq_true, if_false,
    Bool.not_false, decide_false, Bool.and_false]
  by_cases ha : hasAuth vc = true
  · obtain ⟨hf, k, hk, hmac⟩ := h10 ha
    have hf2 : freshOk m.authPassed tr vc.pk.fresh.toNat = true := by
      have e1 : m.authPassed.fld (freshFd tr) = m.fld (freshFd tr) := by
        unfold Mach.authPassed Mach.setActive
        rw [fld_set_clear _ _ (freshFd tr) _ _ _ (by cases tr <;> rfl), fld_set_clear _ _ (freshFd tr) _ _ _ (by cases tr <;> rfl)]
      have e2 : seenBy m.authPassed tr = seenBy m tr := by cases tr <;> rfl
      unfold freshOk at hf ⊢
      rw [e1, e2]; exact hf
    have hp : pageOk (m.authPassed.acceptFresh tr vc.pk.fresh.toNat) vc.opcode.toNat vc.pk.page.toNat = true := h11
    simp [ha, Mach.checkAuth, hk, hmac, hf2, Mach.checkPage, hp, Mach.checked]
  · simp only [Bool.not_eq_true] at ha
    simp [ha, h9 ha, Mach.checkPage, h11, Mach.checked]

theorem entered_touch (m : Mach) (tr : Transport) (route : Route) (vc : VCommand) : m.touch 0x4108 0x40000000000008 (m.entered tr route vc) := by
  unfold Mach.entered
  refine touch_app ?_ (Mach.onCmd_touch _ _) rfl (Nat.zero_and _)
  split
  · refine touch_app (touch_mono (checked_touch m tr vc) rfl rfl) (Mach.releaseStored_touch _ _ _) rfl (Nat.zero_and _)
  · exact touch_mono (checked_touch m tr vc) rfl rfl

theorem entered_cmd (m : Mach) (tr : Transport) (route : Route) (vc : VCommand) :
    (m.entered tr route vc).cmd.out = m.cmd.out ++ [{ tr := tr, route := route, vc := vc, auth := hasAuth vc, since := m.now, waiting := false }]
    ∧ (m.entered tr route vc).cmd.waiting = m.cmd.waiting ∧ (m.entered tr route vc).cmd.respProd = m.cmd.respProd
    ∧ (m.entered tr route vc).cmd.respCons = m.cmd.respCons ∧ (m.entered tr route vc).cmd.session = m.cmd.session := by
  obtain ⟨h1, _, h3, h4, h5, h6⟩ := checked_cmd m tr vc
  unfold Mach.entered
  split
  · exact ⟨congrArg (· ++ _) h1, h3, h4, h5, h6⟩
  · exact ⟨congrArg (· ++ _) h1, h3, h4, h5, h6⟩

theorem accept_run (m : Mach) (tr : Transport) (route : Route) (vc : VCommand) :
    (m.checked tr vc).accept tr route vc m.now = match (m.entered tr route vc).runOpcode tr vc with
      | (z, some (st, pl)) => z.finishTag tr vc.pk.tag st pl
      | (z, none) => z := by
  unfold Mach.accept Mach.entered
  dsimp only
  all_goals
    generalize Mach.runOpcode _ tr vc = e
    obtain ⟨z, _ | ⟨st, pl⟩⟩ := e <;> rfl

/-- How an outstanding command is answered while the response ring has room. -/
theorem finish_found (z : Mach) (tr : Transport) (tag : Byte) (st : Nat) (pl : List Byte) (o : OutCmd)
    (hex : executing z tr tag = some o) (hroom : z.ringRoom tr) :
    (z.finishTag tr tag st pl).answers tr tag st pl ∧ z.touch 0x5100 0 (z.finishTag tr tag st pl) := by
  have ho := List.find?_some hex
  simp only [Bool.and_eq_true, beq_iff_eq, Bool.not_eq_true'] at ho
  unfold Mach.finishTag
  rw [hex]
  refine ⟨?_, Mach.finish_touch z o st pl⟩
  unfold Mach.finish
  obtain ⟨⟨h1, h2⟩, h3⟩ := ho
  have key : ∀ k : Mach, k.cmd.waiting = z.cmd.waiting → k.cmd.respProd = z.cmd.respProd → k.cmd.respCons = z.cmd.respCons →
      ∀ r : Resp, r.tr = tr → r.tag = tag → r.status = st → r.payload = pl → (k.sendResp r).answers tr tag st pl := by
    intro k hk1 hk2 hk3 r hr1 hr2 hr3 hr4
    have hno : mustWait k r.tr = false := by
      unfold mustWait
      cases tr with
      | udp => simp [hr1]
      | pcie =>
        obtain ⟨hw, hu⟩ := hroom rfl
        have hu2 : unconsumed k = unconsumed z := by unfold unconsumed; rw [hk2, hk3]
        simp [hk1, hw, hu2]; intro _; omega
    unfold Mach.sendResp
    rw [hno]
    simp only [Bool.false_eq_true, if_false]
    unfold Mach.writeResp
    refine ⟨{ r with segs := r.datagrams }, k.outs, ?_, hr1, hr2, hr3, hr4⟩
    cases tr with
    | udp =>
      simp only [hr1]
      split <;> rfl
    | pcie =>
      simp only [hr1]
      split <;> rfl
  have hmr : ∀ sg held, (makeResp z o.tr o.route o.vc sg st pl held).tr = tr ∧ (makeResp z o.tr o.route o.vc sg st pl held).tag = tag
      ∧ (makeResp z o.tr o.route o.vc sg st pl held).status = st ∧ (makeResp z o.tr o.route o.vc sg st pl held).payload = pl := by
    intro sg held
    unfold makeResp
    dsimp only
    split <;> exact ⟨h1, h2, rfl, rfl⟩
  obtain ⟨g1, g2, g3, g4⟩ := hmr o.auth true
  have hwait : ∀ k : Mach, k.cmd.waiting = z.cmd.waiting → k.cmd.respProd = z.cmd.respProd → k.cmd.respCons = z.cmd.respCons →
      mustWait k o.tr = false := by
    intro k hk1 hk2 hk3
    unfold mustWait
    rw [h1]
    cases tr with
    | udp => rfl
    | pcie =>
      obtain ⟨hw, hu⟩ := hroom rfl
      have hu2 : unconsumed k = unconsumed z := by unfold unconsumed; rw [hk2, hk3]
      simp [hk1, hw, hu2]; omega
  dsimp only
  split
  · rw [Mach.when, hwait (z.storeResp _ _) rfl rfl rfl]
    exact key (z.storeResp _ _) rfl rfl rfl _ g1 g2 g3 g4
  · rw [Mach.when, hwait z rfl rfl rfl]
    exact key z rfl rfl rfl _ g1 g2 g3 g4

/-- How a command completes when its execution leaves it outstanding and the response ring has room. -/
theorem finish_answers (z : Mach) (tr : Transport) (tag : Byte) (st : Nat) (pl : List Byte) (o : OutCmd) (l : List OutCmd)
    (hout : z.cmd.out = l ++ [o]) (ho : o.tr = tr ∧ o.vc.pk.tag = tag ∧ o.waiting = false)
    (hfree : l.find? (fun o => o.tr == tr && o.vc.pk.tag == tag) = none) (hroom : z.ringRoom tr) :
    (z.finishTag tr tag st pl).answers tr tag st pl ∧ z.touch 0x5100 0 (z.finishTag tr tag st pl) := by
  have hex : executing z tr tag = some o := by
    unfold executing
    rw [hout, List.find?_append]
    have : l.find? (fun o => o.tr == tr && o.vc.pk.tag == tag && !o.waiting) = none := by
      rw [List.find?_eq_none] at hfree ⊢
      intro x hx hb
      have := hfree x hx
      simp only [Bool.and_eq_true] at hb this
      exact this hb.1
    rw [this]
    simp [ho]
  exact finish_found z tr tag st pl o hex hroom

/-- A command that passes the checks, and whose execution ends at once and leaves the transports of the command port as they were. -/
theorem command_ends (m z : Mach) (tr : Transport) (vc : VCommand) (st : Nat) (pl : List Byte) (h : m.passes tr vc) (hr : m.ringRoom tr)
    (hrun : (m.entered tr (plainRoute m tr) vc).runOpcode tr vc = (z, some (st, pl)))
    (hz : z.cmd.out = (m.entered tr (plainRoute m tr) vc).cmd.out) (hz2 : z.cmd.waiting = (m.entered tr (plainRoute m tr) vc).cmd.waiting)
    (hz3 : z.cmd.respProd = (m.entered tr (plainRoute m tr) vc).cmd.respProd)
    (hz4 : z.cmd.respCons = (m.entered tr (plainRoute m tr) vc).cmd.respCons) :
    (m.command tr vc).answers tr vc.pk.tag st pl ∧ z.touch 0x5100 0 (m.command tr vc) := by
  rw [command_passes m tr vc h, accept_run, hrun]
  obtain ⟨e1, e2, e3, e4, _⟩ := entered_cmd m tr (plainRoute m tr) vc
  refine finish_answers z tr vc.pk.tag st pl _ m.cmd.out (by rw [hz, e1]) ⟨rfl, rfl, rfl⟩ h.2.2.2.2.2.2.2.2.1 ?_
  intro htr
  obtain ⟨hw, hu⟩ := hr htr
  refine ⟨by rw [hz2, e2]; exact hw, ?_⟩
  unfold unconsumed
  rw [hz3, hz4, e3, e4]; exact hu

/-- The words that the checks of a command write. -/
def checkWord (p o : Nat) : Bool :=
  (p == 0x03 && o == RIM_ACTIVE_src.off) || (p == 0x36 && (o == CMD_AUTH_FAIL_consecutive.off || o == CMD_FRESH_PCIE_fresh.off || o == CMD_FRESH_UDP_fresh.off))

theorem entered_reg (m : Mach) (tr : Transport) (route : Route) (vc : VCommand) (p o i : Nat) (hp : p < 256) (ho : o < 4096)
    (h : checkWord p o = false) : (m.entered tr route vc).reg p o i = m.reg p o i := by
  have hk : ∀ (f : Fd) (j : Nat), f.page < 256 → f.off < 4096 → checkWord f.page f.off = true → regKey p o i ≠ regKey f.page f.off j := by
    intro f j h1 h2 h3 h4
    obtain ⟨e1, e2, _⟩ := regKey_inj hp ho h1 h2 h4
    rw [← e1, ← e2, h] at h3
    exact absurd h3 (by decide)
  have h1 : (m.checked tr vc).reg p o i = m.reg p o i := by
    unfold Mach.checked
    split
    · have e : ∀ y : Mach, (y.acceptFresh tr vc.pk.fresh.toNat).reg p o i = y.reg p o i := by
        intro y
        show (y.setFld (freshFd tr) 0 _).reg p o i = _
        exact reg_setFld_ne _ _ _ _ (hk _ _ (by cases tr <;> decide) (by cases tr <;> decide) (by cases tr <;> decide))
      rw [e]
      unfold Mach.authPassed Mach.setActive
      rw [reg_setFld_ne _ _ _ _ (hk _ _ (by decide) (by decide) (by decide)), reg_setFld_ne _ _ _ _ (hk _ _ (by decide) (by decide) (by decide))]
    · rfl
  have h2 : (m.entered tr route vc).regs = (m.checked tr vc).regs := by
    unfold Mach.entered
    split <;> rfl
  rw [reg_of_regs h2, h1]

theorem entered_fld (m : Mach) (tr : Transport) (route : Route) (vc : VCommand) (f : Fd) (i : Nat) (hp : f.page < 256) (ho : f.off < 4096)
    (h : checkWord f.page f.off = false) : (m.entered tr route vc).fld f i = m.fld f i := by
  unfold Mach.fld; rw [entered_reg m tr route vc _ _ _ hp ho h]

/-- An opcode that KR does not bar is executed. -/
theorem runOpcode_allowed (m : Mach) (tr : Transport) (route : Route) (vc : VCommand) (h : m.passes tr vc) :
    (usesKR (m.entered tr route vc) tr && !krAccepts (m.entered tr route vc) vc.opcode.toNat vc.pk) = false := by
  have h1 : usesKR (m.entered tr route vc) tr = usesKR m tr := by
    have ht := entered_touch m tr route vc
    have e1 : (m.entered tr route vc).rst = m.rst := ht.1 34 (by decide)
    have e2 : (m.entered tr route vc).rim = m.rim := ht.1 32 (by decide)
    have e3 : (m.entered tr route vc).force = m.force := ht.1 4 (by decide)
    have e4 : ∀ i, (m.entered tr route vc).fld KEY_SLOT_usage i = m.fld KEY_SLOT_usage i := fun i => entered_fld m tr route vc _ _ (by decide) (by decide) (by decide)
    have e5 : (m.entered tr route vc).fld RIM_STS_state = m.fld RIM_STS_state := entered_fld m tr route vc _ _ (by decide) (by decide) (by decide)
    have e6 : authSlot (m.entered tr route vc) tr = authSlot m tr := by
      cases tr
      · exact cfg_of_force e3 _ _
      · exact cfg_of_force e3 _ _
    unfold usesKR Mach.keyFor
    rw [e1, e2, e5, e6, e4]
  have h2 : krAccepts (m.entered tr route vc) vc.opcode.toNat vc.pk = krAccepts m vc.opcode.toNat vc.pk := by
    have e1 : (m.entered tr route vc).rst = m.rst := (entered_touch m tr route vc).1 34 (by decide)
    unfold krAccepts; rw [e1]
  rw [h1, h2]
  by_cases hk : usesKR m tr = true
  · rw [h.2.2.2.2.2.2.2.2.2.2.2.2 hk]; simp
  · simp only [Bool.not_eq_true] at hk; rw [hk]; rfl

theorem enable_write (y : Mach) (src : Src) (page : Nat) (v : Word) (hs : src ≠ .debug) (hm : mapped page = true)
    (hr : rimLocked y = false) (hu : underAdmission y page = false) :
    y.fullWrite src page 0x018 v = ((y.setReg page 0x018 0 v).auditWrite page src 0x018 v, none) := by
  have hd : debugIgnored y src page 0x018 = false := debugIgnored_false (fun h => absurd h hs) page 0x018
  simp [Mach.fullWrite, Mach.writeWord, hm, hd, wordRefusal, hr, hu, headerRefusal, secondRun, Mach.writeHeader]

/-- Locked and admission as an execution finds them. -/
theorem entered_rim (m : Mach) (tr : Transport) (route : Route) (vc : VCommand) : rimLocked (m.entered tr route vc) = rimLocked m := by
  unfold rimLocked
  rw [entered_fld m tr route vc RIM_STS_state 0 (by decide) (by decide) (by decide)]

theorem entered_adm (m : Mach) (tr : Transport) (route : Route) (vc : VCommand) (page : Nat) :
    underAdmission (m.entered tr route vc) page = underAdmission m page := by
  have : (m.entered tr route vc).adm = m.adm := (entered_touch m tr route vc).1 21 (by decide)
  unfold underAdmission; rw [this]

theorem entered_hdr (m : Mach) (tr : Transport) (route : Route) (vc : VCommand) (page : Nat) (hp : page < 256) (f : Fd)
    (hf : f.page = page) (h40 : (decide (f.off < 0x040)) = true) : (m.entered tr route vc).fld f 0 = m.fld f 0 := by
  have h := of_decide_eq_true h40
  refine entered_fld m tr route vc f 0 (by omega) (by omega) ?_
  unfold checkWord
  have h1 : (f.off == RIM_ACTIVE_src.off) = false := by simp [RIM_ACTIVE_src]; omega
  have h2 : (f.off == CMD_AUTH_FAIL_consecutive.off) = false := by simp [CMD_AUTH_FAIL_consecutive]; omega
  have h3 : (f.off == CMD_FRESH_PCIE_fresh.off) = false := by simp [CMD_FRESH_PCIE_fresh]; omega
  have h4 : (f.off == CMD_FRESH_UDP_fresh.off) = false := by simp [CMD_FRESH_UDP_fresh]; omega
  rw [h1, h2, h3, h4]; simp

theorem srcOf_ne (tr : Transport) : srcOf tr ≠ .debug := by cases tr <;> decide

theorem runOpcode_is (m : Mach) (tr : Transport) (vc : VCommand) (h : m.passes tr vc) {x : Mach × ExecEnd}
    (hx : (match vc.opcode.toNat with
      | 0x01 => (m.entered tr (plainRoute m tr) vc).doRead tr vc.pk
      | 0x02 => (m.entered tr (plainRoute m tr) vc).doWrite tr vc.pk
      | 0x03 => (m.entered tr (plainRoute m tr) vc).doRmw tr vc.pk
      | 0x10 => (m.entered tr (plainRoute m tr) vc).doLock tr vc.pk 0x5EA10001
      | 0x11 => (m.entered tr (plainRoute m tr) vc).doLock tr vc.pk 0x5EA10002
      | 0x12 => (m.entered tr (plainRoute m tr) vc).doAdmit tr vc.pk
      | 0x20 => (m.entered tr (plainRoute m tr) vc).doBulkRead vc.pk
      | 0x21 => (m.entered tr (plainRoute m tr) vc).doBulkWrite tr vc.pk
      | 0x30 => (m.entered tr (plainRoute m tr) vc).doChunk tr 0x30 vc.pk 0x30
      | 0x31 => (m.entered tr (plainRoute m tr) vc).doChunk tr 0x31 vc.pk 0x28
      | 0x38 => (m.entered tr (plainRoute m tr) vc).doKeyLoad tr vc.pk
      | _ => (m.entered tr (plainRoute m tr) vc, some (0x00, vc.pk.payload))) = x) :
    (m.entered tr (plainRoute m tr) vc).runOpcode tr vc = x := by
  rw [← hx]
  exact if_neg (fun c => Bool.noConfusion ((runOpcode_allowed _ _ _ _ h).symm.trans c))

theorem wordsBE_one (l : List Byte) (h : l.length = 4) : wordsBE l = [word (natBE l)] := by
  match l, h with
  | [a, b, c, d], _ => rfl

theorem natBE_lt (l : List Byte) (h : l.length = 4) : natBE l < 2 ^ 32 := by
  match l, h with
  | [a, b, c, d], _ =>
    have ha := a.isLt; have hb := b.isLt; have hc := c.isLt; have hd := d.isLt
    simp only [natBE, List.foldl]
    omega

theorem cmd_auditWrite (y : Mach) (p : Nat) (src : Src) (off : Nat) (v : Word) : (y.auditWrite p src off v).cmd = y.cmd :=
  (Mach.auditWrite_touch y p src off v).1 14 (by decide)

/-- A command that passes the checks and stays outstanding. -/
theorem command_stays (m z : Mach) (tr : Transport) (vc : VCommand) (h : m.passes tr vc)
    (hrun : (m.entered tr (plainRoute m tr) vc).runOpcode tr vc = (z, none))
    (hz : z.cmd.out = (m.entered tr (plainRoute m tr) vc).cmd.out) :
    m.command tr vc = z ∧ (executing z tr vc.pk.tag).isSome = true := by
  refine ⟨by rw [command_passes m tr vc h, accept_run, hrun], ?_⟩
  obtain ⟨e1, _⟩ := entered_cmd m tr (plainRoute m tr) vc
  unfold executing
  rw [hz, e1]
  simp

theorem entered_loads (m : Mach) (tr : Transport) (route : Route) (vc : VCommand) : (m.entered tr route vc).cmd.loads = m.cmd.loads := by
  unfold Mach.entered Mach.checked
  split
  · cases tr <;> rfl
  · rfl

theorem entered_staged (m : Mach) (tr : Transport) (route : Route) (vc : VCommand) : stagedPages (m.entered tr route vc) = stagedPages m := by
  unfold stagedPages
  refine List.filter_congr fun p hp => ?_
  have hlt : p < 256 := by
    unfold allPages at hp
    have := List.mem_range.mp (List.mem_filter.mp hp).1
    omega
  unfold Mach.flag
  rw [entered_hdr m tr route vc p hlt (hStaged p) rfl rfl]

theorem find_other_none {α : Type} (p : α → Bool) (l : List α) (a : α) (h : p a = true) :
    ((l.filter fun x => !p x) ++ [a]).find? p = some a := by
  rw [List.find?_append, List.find?_eq_none.mpr]
  · simp [h]
  · intro x hx
    have := (List.mem_filter.mp hx).2
    simpa using this

theorem finishTag_loads (z : Mach) (tr : Transport) (tag : Byte) (st : Nat) (pl : List Byte) : (z.finishTag tr tag st pl).cmd.loads = z.cmd.loads := by
  unfold Mach.finishTag
  split
  · unfold Mach.finish
    have h1 : ∀ (k : Mach) (r : Resp), (k.sendResp r).cmd.loads = k.cmd.loads := by
      intro k r
      unfold Mach.sendResp
      split
      · rfl
      · unfold Mach.writeResp
        dsimp only
        split <;> split <;> rfl
    have h2 : ∀ (k : Mach) (b : Bool) (f : List OutCmd → List OutCmd),
        (k.when b fun m => m.onCmd fun c => { c with out := f c.out }).cmd.loads = k.cmd.loads := by
      intro k b f; unfold Mach.when; split <;> rfl
    dsimp only
    rw [h1, h2 _ _ fun l => l.erase _ ++ _]
    split <;> rfl
  · rfl

theorem fetch_all (l : List VCommand) (h : ∀ vc ∈ l, opcodes.contains vc.opcode.toNat = true) : ∀ m : Mach, m.cmd.unfetched = l → m.cmd.waiting = [] →
    (m.fetch l.length).cmd.ready = m.cmd.ready ++ l.map (fun vc => { tr := .pcie, route := .ring, vc := vc, at_ := m.now }) ∧ (m.fetch l.length).cmd.unfetched = []
      ∧ (m.fetch l.length).cmd.prodP = m.cmd.prodP ∧ (m.fetch l.length).cmd.consP % 32 = (m.cmd.consP + l.length) % 32 := by
  induction l with
  | nil => intro m hu hw; simp [Mach.fetch, hu]
  | cons vc rest ih =>
    intro m hu hw
    have hvc := h vc (List.mem_cons_self ..)
    have e : m.fetch (vc :: rest).length = (((m.onCmd fun c => { c with unfetched := rest, consP := (c.consP + 1) % 32 }).arrive .pcie .ring vc).fetch rest.length) := by
      show m.fetch (rest.length + 1) = _
      rw [Mach.fetch]
      simp only [hu, hw]
      rfl
    have e2 : (m.onCmd fun c => { c with unfetched := rest, consP := (c.consP + 1) % 32 }).arrive .pcie .ring vc
        = (m.onCmd fun c => { c with unfetched := rest, consP := (c.consP + 1) % 32 }).onCmd fun c => { c with ready := c.ready ++ [{ tr := .pcie, route := .ring, vc := vc, at_ := m.now }] } := by
      unfold Mach.arrive; rw [if_pos hvc]; rfl
    rw [e, e2]
    obtain ⟨h1, h2, h3, h4⟩ := ih (fun v hv => h v (List.mem_cons_of_mem _ hv)) ((m.onCmd fun c => { c with unfetched := rest, consP := (c.consP + 1) % 32 }).onCmd fun c => { c with ready := c.ready ++ [{ tr := .pcie, route := .ring, vc := vc, at_ := m.now }] }) rfl hw
    refine ⟨?_, h2, h3, ?_⟩
    · rw [h1]; simp [Mach.onCmd]
    · rw [h4]; simp only [Mach.onCmd, List.length_cons]; omega

theorem fetch_waits (n : Nat) (m : Mach) (h : m.cmd.waiting ≠ []) : m.fetch n = m := by
  cases n with
  | zero => rfl
  | succ n =>
    unfold Mach.fetch
    split
    · rfl
    · rw [if_pos]
      cases hw : m.cmd.waiting with
      | nil => exact absurd hw h
      | cons a b => rfl

theorem fetch_empty (y : Mach) (h : y.cmd.unfetched = []) : y.fetch y.cmd.unfetched.length = y := by rw [h]; rfl

theorem refuse_parts (m : Mach) (tr : Transport) (route : Route) (vc : VCommand) (b : Bool) (n : Nat) :
    (m.refuse tr route vc b n).cmd.parts = m.cmd.parts := by
  have h1 : ∀ (k : Mach) (r : Resp), (k.sendResp r).cmd.parts = k.cmd.parts := by
    intro k r
    unfold Mach.sendResp
    split
    · rfl
    · unfold Mach.writeResp
      dsimp only
      split <;> split <;> rfl
  unfold Mach.refuse Mach.reply
  split
  · rw [h1]; rfl
  · rw [h1]

theorem partTimeout_shows (m : Mach) (tr : Transport) (route : Route) (hdr : Option VCommand) :
    (m.partTimeout tr route hdr).evt 0x36 1 = true ∧ (m.partTimeout tr route hdr).fld CMD_DROP_PARTIAL_n = (m.fld CMD_DROP_PARTIAL_n + 1) % 2 ^ 32
      ∧ (m.partTimeout tr route hdr).cmd.parts = m.cmd.parts := by
  have h1 : ((m.count CMD_DROP_PARTIAL_n).event 0x36 1).evt 0x36 1 = true := evt_event _ _ _ _ rfl
  have h2 : ((m.count CMD_DROP_PARTIAL_n).event 0x36 1).fld CMD_DROP_PARTIAL_n = (m.fld CMD_DROP_PARTIAL_n + 1) % 2 ^ 32 := by
    rw [fld_event _ _ _ _ _ _ rfl]; exact fld_count m _ 0 1 rfl
  have h3 : ((m.count CMD_DROP_PARTIAL_n).event 0x36 1).cmd.parts = m.cmd.parts := by rw [Mach.event_cmd _ _ _ _ (by decide)]; rfl
  unfold Mach.partTimeout
  dsimp only
  split
  · rename_i vc
    have ht := Mach.refuse_touch ((m.count CMD_DROP_PARTIAL_n).event 0x36 1) tr route vc false 0x0B
    have hr := ht.1 3 (by decide)
    refine ⟨?_, ?_, ?_⟩
    · unfold Mach.evt; rw [fld_of_regs hr]; exact h1
    · rw [fld_of_regs hr]; exact h2
    · rw [← h3]
      exact refuse_parts _ _ _ _ _ _
  · exact ⟨h1, h2, h3⟩

theorem interrupt_own (m : Mach) (o : OutCmd) (hq : ∀ k ∈ m.rim.queue, k.tr = o.tr ∧ k.tag = o.vc.pk.tag) :
    ((m.interrupt o).cmd.out = m.cmd.out ∧ (m.interrupt o).cmd.waiting = m.cmd.waiting ∧ (m.interrupt o).cmd.respProd = m.cmd.respProd
      ∧ (m.interrupt o).cmd.respCons = m.cmd.respCons)
    ∧ (m.interrupt o).rim.queue = [] ∧ ∀ r, (m.interrupt o).adm.run = some r → r.by_ ≠ .vrelti o.tr o.vc.pk.tag := by
  show (fun w : Mach => (w.cmd.out = m.cmd.out ∧ w.cmd.waiting = m.cmd.waiting ∧ w.cmd.respProd = m.cmd.respProd
      ∧ w.cmd.respCons = m.cmd.respCons) ∧ w.rim.queue = [] ∧ ∀ r, w.adm.run = some r → r.by_ ≠ .vrelti o.tr o.vc.pk.tag) (m.interrupt o)
  unfold Mach.interrupt
  extract_lets -underBinder -merge -useContext +onlyGivenNames mine y z isMine
  have hz : z.cmd = y.cmd ∧ z.rim = m.rim ∧ ∀ r, z.adm.run = some r → r.by_ ≠ .vrelti o.tr o.vc.pk.tag := by
    unfold z
    split
    · split
      · refine ⟨rfl, rfl, fun r h => ?_⟩
        exact absurd h (by show (none : Option AdmRun) ≠ some r; simp)
      · rename_i r0 h0 hne
        refine ⟨rfl, rfl, fun r h => ?_⟩
        rw [h0] at h; rw [← Option.some.inj h]; exact hne
    · rename_i h0
      refine ⟨rfl, rfl, fun r h => ?_⟩
      rw [h0] at h; exact absurd h (by simp)
  have hy : y.cmd.out = m.cmd.out ∧ y.cmd.waiting = m.cmd.waiting ∧ y.cmd.respProd = m.cmd.respProd ∧ y.cmd.respCons = m.cmd.respCons := ⟨rfl, rfl, rfl, rfl⟩
  obtain ⟨z1, z2, z3⟩ := hz
  clear_value z y
  split
  · rename_i h0
    exact ⟨by rw [z1]; exact hy, h0, z3⟩
  · rename_i k rest h0
    rw [z2] at h0
    have hk : isMine k = true := by
      have := hq k (by rw [h0]; exact List.mem_cons_self ..)
      simp [isMine, this]
    have hrest : (rest.filter fun k => !isMine k) = [] := by
      rw [List.filter_eq_nil_iff]
      intro q hqm
      have := hq q (by rw [h0]; exact List.mem_cons_of_mem _ hqm)
      simp [isMine, this]
    simp only [hk, if_true, hrest]
    have : (z.onRim fun r => { r with queue := [] }).nextLoad ([] : List KeyLoad).length.succ = z.onRim fun r => { r with queue := [] } := rfl
    rw [show ([] : List KeyLoad).length + 1 = ([] : List KeyLoad).length.succ from rfl, this]
    exact ⟨by show z.cmd.out = _ ∧ z.cmd.waiting = _ ∧ z.cmd.respProd = _ ∧ z.cmd.respCons = _; rw [z1]; exact hy, rfl, z3⟩

theorem bit_setBit_wide (v n w : Nat) (b : Bool) (h : n < w) : bit (setBits v n n b.toNat % 2 ^ w) n = b := by
  unfold bit
  rw [bits_mod _ _ _ _ h, bits_setBits_same _ _ _ _ (le_refl n)]
  cases b <;> simp [show n + 1 - n = 1 by omega]

theorem nextLoad_empty (m : Mach) (n : Nat) (h : m.rim.queue = []) : m.nextLoad n = m := by
  cases n with
  | zero => rfl
  | succ n => unfold Mach.nextLoad; rw [h]

theorem newSession_keeps (m : Mach) : m.newSession.rim = m.rim := (Mach.newSession_touch m).1 32 (by decide)

theorem imageValid_flash (a b : Mach) (n : Nat) (h : a.flash = b.flash) : imageValid a n = imageValid b n := by
  unfold imageValid imageArea
  rw [h]

theorem installKey_shows (m : Mach) (k : KeyLoad) (hu : keyUsage k.payload ≠ 0) (hu2 : keyUsage k.payload < 8) :
    kget (keySlot k.payload) (m.installKey k).rim.keys = some k.key ∧ (m.installKey k).fld KEY_SLOT_usage (keySlot k.payload) = keyUsage k.payload
      ∧ (m.installKey k).fld KEY_SLOT_VER_ver (keySlot k.payload) = keyVersion k.payload % 2 ^ 32 ∧ (m.installKey k).rim.queue = m.rim.queue := by
  unfold Mach.installKey
  extract_lets -underBinder -merge -useContext +onlyGivenNames slot y0 y z w
  have hy : kget slot y.rim.keys = some k.key ∧ y.fld KEY_SLOT_usage slot = keyUsage k.payload ∧ y.rim.queue = m.rim.queue := by
    unfold y
    rw [if_neg hu]
    refine ⟨?_, ?_, ?_⟩
    · rw [Mach.event_rim _ _ _ _ (by decide)]; exact kget_kput_same _ _ _
    · rw [fld_event _ _ _ _ _ _ rfl, fld_set_clear _ _ KEY_SLOT_usage _ _ _ rfl]
      show (Mach.setFld m KEY_SLOT_usage slot (keyUsage k.payload)).fld KEY_SLOT_usage slot = _
      rw [fld_set _ _ _ _ rfl]
      exact Nat.mod_eq_of_lt hu2
    · rw [Mach.event_rim _ _ _ _ (by decide)]; rfl
  clear_value y
  have hw : kget slot w.rim.keys = some k.key ∧ w.fld KEY_SLOT_usage slot = keyUsage k.payload ∧ w.fld KEY_SLOT_VER_ver slot = keyVersion k.payload % 2 ^ 32 ∧ w.rim.queue = m.rim.queue := by
    refine ⟨hy.1, ?_, ?_, hy.2.2⟩
    · show (Mach.count _ KEY_LOADS_n).fld KEY_SLOT_usage slot = _
      rw [fld_count_clear _ _ KEY_SLOT_usage _ _ _ rfl, fld_set_clear _ _ KEY_SLOT_usage _ _ _ rfl, fld_set_clear _ _ KEY_SLOT_usage _ _ _ rfl]
      exact hy.2.1
    · show (Mach.count _ KEY_LOADS_n).fld KEY_SLOT_VER_ver slot = _
      rw [fld_count_clear _ _ KEY_SLOT_VER_ver _ _ _ rfl, fld_set_clear _ _ KEY_SLOT_VER_ver _ _ _ rfl, fld_set _ _ _ _ rfl]
      rfl
  clear_value w
  show kget slot _ = _ ∧ _
  split
  · have ht := Mach.newSession_touch w
    have hr : w.newSession.rim = w.rim := newSession_keeps w
    refine ⟨by rw [hr]; exact hw.1, ?_, ?_, by rw [hr]; exact hw.2.2.2⟩
    · rw [fld_touch ht _ _ rfl]; exact hw.2.1
    · rw [fld_touch ht _ _ rfl]; exact hw.2.2.1
  · exact hw

theorem firmware_shape (m : Mach) (l : Load) (ok : Bool) (h : verifyingLoad m 0x31 = some l)
    (hok : ok = (match Config.firmware l.data with
      | some (sv, _) => decide (m.fld RIM_BOOT_sv_min ≤ sv.toNat) && !l.data.isEmpty
      | none => false)) :
    ∃ y z : Mach, m.firmwareVerified = z ∧ y.rst = m.rst
      ∧ y.flash = (if loadBank m = 0 then { m.flash with bank0 := { loaded := l.data, bad := !ok } } else { m.flash with bank1 := { loaded := l.data, bad := !ok } })
      ∧ z = (if (ok && (y.endVerify l (if ok = true then none else some 0x29)).rst.recovery) = true then
        ((y.endVerify l (if ok = true then none else some 0x29)).drawWord.2.moduleReset ((y.endVerify l (if ok = true then none else some 0x29)).drawWord.1.toNat % 8))
        else y.endVerify l (if ok = true then none else some 0x29)) := by
  let b : Bank := { loaded := l.data, bad := !ok }
  let x : Mach := { m with flash := if loadBank m = 0 then { m.flash with bank0 := b } else { m.flash with bank1 := b } }
  let w : Mach := x.setFld RIM_BOOT_valid 0 (setBits (x.fld RIM_BOOT_valid) (loadBank m) (loadBank m) ok.toNat)
  refine ⟨if ok then w.event 0x03 4 else (w.event 0x03 5).violate [6], m.firmwareVerified, rfl, ?_, ?_, ?_⟩
  rotate_left 2
  · unfold Mach.firmwareVerified
    rw [h]
    subst hok
    rfl
  · split
    · rw [Mach.event_rst _ _ _ _ (by decide)]; rfl
    · rw [show (Mach.violate _ _).rst = _ from (Mach.violate_touch _ _).1 34 (by decide), Mach.event_rst _ _ _ _ (by decide)]; rfl
  · split
    · rw [Mach.event_flash _ _ _ _ (by decide)]; rfl
    · rw [show (Mach.violate _ _).flash = _ from (Mach.violate_touch _ _).1 33 (by decide), Mach.event_flash _ _ _ _ (by decide)]; rfl

theorem fld_eventAlways (m : Mach) (q b : Nat) (a : Attr) (f : Fd) (i : Nat) (h : Fd.noEvt q f = true) :
    (m.eventAlways q b a).fld f i = m.fld f i := by
  simp only [Fd.noEvt, Fd.fit, Bool.and_eq_true, decide_eq_true_eq, Bool.not_eq_true', Bool.and_eq_false_iff, Bool.or_eq_false_iff,
    beq_eq_false_iff_ne, decide_eq_false_iff_not] at h
  obtain ⟨⟨⟨h1, h2⟩, h3⟩, h4⟩ := h
  refine within_fld (eventAlways_within m q b a h2) f i h1.1.2 h1.2 ?_
  unfold evtOf recPage
  rintro (⟨hp, ho⟩ | ⟨hp, ho⟩)
  · rcases h4 with h4 | ⟨h4, h5⟩
    · exact h4 hp
    · rcases ho with ho | ho
      · exact h4 ho
      · rcases h5 with h5 | h5
        · exact h5 ho.1
        · exact h5 ho.2
  · rcases h3 with h3 | h3
    · exact h3 hp
    · exact h3 ho

theorem evt_latch (m : Mach) (q b : Nat) (h : (decide (q < 256) && decide (b < 32)) = true) : (m.latch q b).evt q b = true := by
  simp only [Bool.and_eq_true, decide_eq_true_eq] at h
  unfold Mach.evt Mach.latch
  rw [fld_set _ _ _ _ (by simp [Fd.fit, hEvt, h.1])]
  exact bit_setBit_wide (m.fld (hEvt q)) b 32 true h.2

theorem evt_eventAlways (m : Mach) (q b : Nat) (a : Attr) (h : (decide (q < 256) && decide (b < 32) && q != 7) = true) :
    (m.eventAlways q b a).evt q b = true := by
  simp only [Bool.and_eq_true, decide_eq_true_eq, bne_iff_ne, ne_eq] at h
  unfold Mach.eventAlways
  rw [evt_touch (touch_of_within (signal_within recPage _ q b)) q b (by simp [h]), evt_touch (touch_of_within (eventRecord_within _ q b a)) q b (by simp [h])]
  exact evt_latch m q b (by simp [h])

theorem fld_logSource (m : Mach) (src : Nat) (f : Fd) (i : Nat) (h : (Fd.clear RIM_LATCH_src f && Fd.clear RIM_VIOL_CNT_n f && Fd.noEvt 3 f) = true) :
    (m.logSource src).fld f i = m.fld f i := by
  simp only [Bool.and_eq_true] at h
  unfold Mach.logSource
  rw [fld_eventAlways _ _ _ _ _ _ h.2, fld_count_clear _ _ _ _ _ _ h.1.2, fld_set_clear _ _ _ _ _ _ h.1.1]

theorem logSource_latched (m : Mach) (src : Nat) (h : src < 7) : bit ((m.logSource src).fld RIM_LATCH_src) src = true := by
  unfold Mach.logSource
  rw [fld_eventAlways _ _ _ _ _ _ rfl, fld_count_clear _ _ _ _ _ _ rfl, fld_set _ _ _ _ rfl]
  exact bit_setBit_wide (m.fld RIM_LATCH_src) src 7 true h

theorem policyOf_force {a b : Mach} (h : a.force = b.force) (src : Nat) : policyOf a src = policyOf b src := by
  unfold policyOf Mach.inForce; rw [h]

theorem logSource_force (m : Mach) (src : Nat) : (m.logSource src).force = m.force := (Mach.logSource_touch m src).1 4 (by decide)

theorem evt_eventAlways_or (m : Mach) (q b c : Nat) (a : Attr) (h : (decide (q < 256) && decide (b < 32) && q != 7) = true) (hc : c < 32)
    (hm : m.evt q c = true) : (m.eventAlways q b a).evt q c = true := by
  simp only [Bool.and_eq_true, decide_eq_true_eq, bne_iff_ne, ne_eq] at h
  unfold Mach.eventAlways
  rw [evt_touch (touch_of_within (signal_within recPage _ q b)) q c (by simp [h]), evt_touch (touch_of_within (eventRecord_within _ q b a)) q c (by simp [h])]
  unfold Mach.evt Mach.latch at *
  rw [fld_set _ _ _ _ (by simp [Fd.fit, hEvt, h.1])]
  unfold bit
  rw [bits_mod _ _ _ _ (by exact hc)]
  have := bit_setBits (m.fld (hEvt q)) b c
  unfold bit at this hm
  rw [this, hm]; simp

theorem evt_logSource (m : Mach) (src c : Nat) (hc : c < 32) (hm : m.evt 3 c = true) : (m.logSource src).evt 3 c = true := by
  unfold Mach.logSource
  refine evt_eventAlways_or _ 3 0 c _ rfl hc ?_
  unfold Mach.evt at *
  rw [fld_count_clear _ _ _ _ _ _ rfl, fld_set_clear _ _ _ _ _ _ rfl]
  exact hm

theorem violate_log (m : Mach) (src : Nat) (h : policyOf m src = 0) : m.violate [src] = m.logSource src := by
  have hp : policyOf (m.logSource src) src = 0 := by rw [policyOf_force (logSource_force m src)]; exact h
  unfold Mach.violate
  simp [Mach.each, hp]

theorem clear_write (y : Mach) (src : Src) (hd : src ≠ .debug) (h : rimClearRefusal y src 0x5EA10003 = none) :
    ∃ k : Mach, (∀ p o i, p < 256 → o < 4096 → k.reg p o i = y.reg p o i) ∧ k = { y with regs := k.regs }
      ∧ y.fullWrite src 3 0x050 0x5EA10003 = (k.rimOpen.auditWrite 3 src 0x050 0x5EA10003, none) := by
  refine ⟨y.setReg 3 0x050 0 (y.reg 3 0x050 0), fun p o i h1 h2 => reg_setReg_self _ (by decide) (by decide) h1 h2, rfl, ?_⟩
  have h1 : debugIgnored y src 3 0x050 = false := debugIgnored_false (fun h => absurd h hd) _ _
  have h2 : wordRefusal y src 3 0x050 (0x5EA10003 : Word).toNat = none := by
    unfold wordRefusal
    rw [show configWrite y 3 0x050 (0x5EA10003 : Word).toNat = false from rfl, show secondRun y 3 0x050 (0x5EA10003 : Word).toNat = false from rfl]
    simp only [Bool.and_false, Bool.or_self, Bool.false_eq_true, if_false]
    rw [if_neg (by decide)]
    unfold blockRefusal
    exact (if_neg (by simp; intro; rfl)).trans h
  obtain ⟨d, hd1, hd2, hd3, hd4, hd5⟩ : ∃ d, findReg 3 0x050 = some d ∧ d.hiOff = none ∧ isSelector 3 d = false
      ∧ accMask d [.rw, .rwl] = 0 ∧ accMask d [.w1c] = 0 := ⟨_, rfl, rfl, rfl, rfl, rfl⟩
  have hidx : selIndex y d = 0 := by
    have : ∃ d', findReg 3 0x050 = some d' ∧ selIndex y d' = 0 := ⟨_, rfl, rfl⟩
    obtain ⟨d', g1, g2⟩ := this
    rw [show d = d' from Option.some.inj (hd1.symm.trans g1)]; exact g2
  have hstore : ∀ v, y.storeWord 3 0x050 0 v = y.setReg 3 0x050 0 (y.reg 3 0x050 0) := by
    intro v
    unfold Mach.storeWord
    rw [hd1]
    have hones : ∀ x : Word, x &&& 4294967295#32 = x := fun x => BitVec.and_allOnes
    simp [hd4, hd5, word, hones]
  have hlow : lowOffsets 3 0x050 = [] := rfl
  have hb : y.writeBlockReg src 3 0x050 0x5EA10003 d = (y.setReg 3 0x050 0 (y.reg 3 0x050 0)).rimOpen.auditWrite 3 src 0x050 0x5EA10003 := by
    unfold Mach.writeBlockReg
    simp only [hd2, hidx, hlow, hd3, hstore, Option.isSome_none, Bool.false_eq_true, if_false, List.filterMap_nil, Mach.each, List.foldl_nil, Mach.dropLows]
    rfl
  unfold Mach.fullWrite Mach.writeWord
  rw [h1, h2, hd1]
  simp only [show mapped 3 = true from rfl, Bool.not_true, Bool.false_eq_true, if_false, hb]
  rfl

/-- The part of the Rim that a violation leaves: its sensors. -/
abbrev sensors (r : Rim) : Bool × Bool × Nat := (r.lidOpen, r.meshCut, r.openReads)

theorem dropLoads_rim (m : Mach) (b : Bool) : sensors (m.dropLoads b).rim = sensors m.rim ∧ (m.dropLoads b).rim.keys = m.rim.keys
    ∧ (m.dropLoads b).rim.erasing = m.rim.erasing := by
  have h : (m.dropLoads b).rim = { m.rim with queue := if b = true then m.rim.queue.take 1 else [] } := by
    unfold Mach.dropLoads
    exact each_keep (fun y : Mach => y.rim) _ _ _ (fun a y => (Mach.endLoad_touch ..).1 32 (by decide))
  rw [h]
  exact ⟨rfl, rfl, rfl⟩

theorem lock_shows (m : Mach) (c : Nat) (hc : c < 7) : (m.lock c).fld RIM_STS_state = 1 ∧ (m.lock c).fld RIM_STS_cause = c
    ∧ (m.lock c).fld RIM_LATCH_src = m.fld RIM_LATCH_src ∧ (m.lock c).rim.keys = m.rim.keys ∧ sensors (m.lock c).rim = sensors m.rim := by
  unfold Mach.lock
  extract_lets -underBinder -merge -useContext +onlyGivenNames y
  have hd := Mach.dropLoads_touch (y.eventAlways 0x03 1).debugLock true
  obtain ⟨g1, g2, g3⟩ := dropLoads_rim (y.eventAlways 0x03 1).debugLock true
  have hb : ∀ f : Fd, Fd.clear RIM_STS_dbg f = true → Fd.noEvt 3 f = true → ((y.eventAlways 0x03 1).debugLock).fld f = y.fld f := by
    intro f h1 h2
    show (Mach.setFld _ RIM_STS_dbg 0 0).fld f = _
    rw [fld_set_clear _ _ _ _ _ _ h1, fld_eventAlways _ _ _ _ _ _ h2]
  have he : (y.eventAlways 0x03 1).rim = m.rim := (Mach.eventAlways_touch y 3 1 .module (P := 8) rfl (by decide)).1 32 (by decide)
  refine ⟨?_, ?_, ?_, ?_, ?_⟩
  · rw [fld_touch hd _ _ rfl, hb _ rfl rfl]
    unfold y
    rw [fld_set_clear _ _ _ _ _ _ rfl, fld_set _ _ _ _ rfl]; rfl
  · rw [fld_touch hd _ _ rfl, hb _ rfl rfl]
    unfold y
    rw [fld_set _ _ _ _ rfl]
    exact Nat.mod_eq_of_lt (by show c < 16; omega)
  · rw [fld_touch hd _ _ rfl, hb _ rfl rfl]
    unfold y
    rw [fld_set_clear _ _ _ _ _ _ rfl, fld_set_clear _ _ _ _ _ _ rfl]
  · rw [g2]
    show (y.eventAlways 0x03 1).rim.keys = _
    rw [he]
  · rw [g1]
    show sensors (y.eventAlways 0x03 1).rim = _
    rw [he]

theorem kdel_all (ks : List Nat) (l : KMap Key) (h : ∀ e ∈ l, e.1 ∈ ks) : ks.foldl (fun l k => kdel k l) l = [] := by
  induction ks generalizing l with
  | nil =>
    cases l with
    | nil => rfl
    | cons e l => exact absurd (h e (List.mem_cons_self ..)) (by simp)
  | cons k ks ih =>
    refine ih _ fun e he => ?_
    have h2 := List.mem_filter.mp he
    rcases List.mem_cons.mp (h e h2.1) with h3 | h3
    · rw [h3] at h2; simp at h2
    · exact h3

theorem each_keys (ks : List Nat) (m : Mach) : (m.each ks fun slot m => m.emptySlot slot).rim.keys = ks.foldl (fun l k => kdel k l) m.rim.keys
    ∧ sensors (m.each ks fun slot m => m.emptySlot slot).rim = sensors m.rim
    ∧ m.touch 0x100000008 0x10 (m.each ks fun slot m => m.emptySlot slot) := by
  induction ks generalizing m with
  | nil => exact ⟨rfl, rfl, touch_refl _ _ _⟩
  | cons k ks ih =>
    obtain ⟨g1, g2, g3⟩ := ih (m.emptySlot k)
    exact ⟨g1.trans rfl, g2.trans rfl, touch_trans (Mach.emptySlot_touch m k) g3⟩

theorem zeroise_shows (m : Mach) (c : Nat) (hc : c < 7) : (m.zeroise c).fld RIM_STS_state = 2 ∧ (m.zeroise c).fld RIM_STS_cause = c
    ∧ (m.zeroise c).fld RIM_LATCH_src = m.fld RIM_LATCH_src ∧ (m.zeroise c).rim.keys = [] ∧ (m.zeroise c).rim.erasing = true
    ∧ sensors (m.zeroise c).rim = sensors m.rim := by
  unfold Mach.zeroise
  extract_lets -underBinder -merge -useContext +onlyGivenNames y0 y1 y2 y3 y4 y5
  have hy0 : y0.rim = m.rim ∧ y0.fld RIM_STS_state = 2 ∧ y0.fld RIM_STS_cause = c ∧ y0.fld RIM_LATCH_src = m.fld RIM_LATCH_src := by
    refine ⟨rfl, ?_, ?_, ?_⟩
    · unfold y0; rw [fld_set_clear _ _ _ _ _ _ rfl, fld_set _ _ _ _ rfl]; rfl
    · unfold y0; rw [fld_set _ _ _ _ rfl]; exact Nat.mod_eq_of_lt (by show c < 16; omega)
    · unfold y0; rw [fld_set_clear _ _ _ _ _ _ rfl, fld_set_clear _ _ _ _ _ _ rfl]
  clear_value y0
  have hy1 : y1.rim.keys = [] ∧ sensors y1.rim = sensors m.rim ∧ y1.fld RIM_STS_state = 2 ∧ y1.fld RIM_STS_cause = c ∧ y1.fld RIM_LATCH_src = m.fld RIM_LATCH_src := by
    obtain ⟨g1, g2, g3⟩ := each_keys (y0.rim.keys.map (·.1)) y0
    refine ⟨g1.trans (kdel_all _ _ fun e he => List.mem_map_of_mem he), g2.trans (by rw [hy0.1]), ?_, ?_, ?_⟩
    · exact (fld_touch g3 _ _ rfl).trans hy0.2.1
    · exact (fld_touch g3 _ _ rfl).trans hy0.2.2.1
    · exact (fld_touch g3 _ _ rfl).trans hy0.2.2.2
  clear_value y1
  have hy3 : y3.rim = y1.rim ∧ ∀ f : Fd, (Fd.clear RIM_ZEROISE_CNT_n f && Fd.noEvt 3 f && Fd.noEvt 4 f) = true → y3.fld f = y1.fld f := by
    constructor
    · have e := (Mach.eventAlways_touch (y2.count RIM_ZEROISE_CNT_n) 3 2 .module (P := 8) rfl (by decide)).1 32 (by decide)
      exact (show y3.rim = (y2.count RIM_ZEROISE_CNT_n).rim from e).trans (Mach.event_rim _ _ _ _ (by decide))
    · intro f hf
      simp only [Bool.and_eq_true] at hf
      unfold y3 y2
      rw [fld_eventAlways _ _ _ _ _ _ hf.1.2, fld_count_clear _ _ _ _ _ _ hf.1.1, fld_event _ _ _ _ _ _ hf.2]
  clear_value y3
  have hy4 : y4.rim = y1.rim ∧ ∀ f : Fd, (Fd.clear RIM_ZEROISE_CNT_n f && Fd.clear RIM_GEN_gen f && Fd.clear RIM_STS_gen_out f && Fd.noEvt 3 f && Fd.noEvt 4 f) = true → y4.fld f = y1.fld f := by
    have e : ∀ z : Mach, z = y4 → z.rim = y3.rim ∧ ∀ f : Fd, (Fd.clear RIM_GEN_gen f && Fd.clear RIM_STS_gen_out f) = true → z.fld f = y3.fld f := by
      intro z hz
      rw [hz]
      unfold y4
      split
      · refine ⟨rfl, fun f hf => ?_⟩
        simp only [Bool.and_eq_true] at hf
        unfold Mach.advanceGen
        rw [fld_flag_clear _ _ _ _ _ _ hf.2, fld_set_clear _ _ _ _ _ _ hf.1]
      · exact ⟨rfl, fun f _ => rfl⟩
    obtain ⟨e1, e2⟩ := e y4 rfl
    refine ⟨e1.trans hy3.1, fun f hf => ?_⟩
    simp only [Bool.and_eq_true] at hf
    rw [e2 f (by simp [hf]), hy3.2 f (by simp [hf])]
  clear_value y4
  have hy5 : y5.rim = { y1.rim with erasing := true } := by rw [← hy4.1]; rfl
  have hy5f : ∀ f : Fd, y5.fld f = y4.fld f := fun f => rfl
  clear_value y5
  have hw := Mach.twnWitness_touch ((y5.debugLock.newSession).dropLoads false)
  have hd := Mach.dropLoads_touch y5.debugLock.newSession false
  have hn := Mach.newSession_touch y5.debugLock
  obtain ⟨d1, d2, d3⟩ := dropLoads_rim y5.debugLock.newSession false
  have hnr : y5.debugLock.newSession.rim = { y5.rim with challenge := none } := hn.1 32 (by decide)
  have hwr := hw.1 32 (by decide)
  have hfin : ∀ f : Fd, (Fd.clear RIM_ZEROISE_CNT_n f && Fd.clear RIM_GEN_gen f && Fd.clear RIM_STS_gen_out f && Fd.noEvt 3 f && Fd.noEvt 4 f && Fd.clear RIM_STS_dbg f && decide (f.page = 3)) = true →
      ((y5.debugLock.newSession).dropLoads false).twnWitness.fld f = y1.fld f := by
    intro f hf
    simp only [Bool.and_eq_true, decide_eq_true_eq] at hf
    obtain ⟨⟨hf1, hf2⟩, hf3⟩ := hf
    have h2 := hf1.2
    have hoff : f.off < 4096 := by
      simp only [Fd.noEvt, Fd.fit, Bool.and_eq_true, decide_eq_true_eq] at h2
      exact h2.1.1.1.2
    rw [fld_touch hw f _ (by simp [hf3, hoff] <;> decide), fld_touch hd f _ (by simp [hf3, hoff] <;> decide), fld_touch hn f _ (by simp [hf3, hoff] <;> decide)]
    show (Mach.setFld y5 RIM_STS_dbg 0 0).fld f = _
    rw [fld_set_clear _ _ _ _ _ _ hf2, hy5f, hy4.2 f (by simp [hf1])]
  refine ⟨?_, ?_, ?_, ?_, ?_, ?_⟩
  · rw [hfin _ rfl]; exact hy1.2.2.1
  · rw [hfin _ rfl]; exact hy1.2.2.2.1
  · rw [hfin _ rfl]; exact hy1.2.2.2.2
  · rw [show (Mach.twnWitness _).rim = _ from hwr, d2, hnr, hy5]; exact hy1.1
  · rw [show (Mach.twnWitness _).rim = _ from hwr, d3, hnr, hy5]
  · rw [show (Mach.twnWitness _).rim = _ from hwr, d1, hnr, hy5]; exact hy1.2.1

theorem violate_one (m : Mach) (src : Nat) (h : src < 7) :
    bit ((m.violate [src]).fld RIM_LATCH_src) src = true ∧ sensors (m.violate [src]).rim = sensors m.rim
      ∧ (policyOf m src = 0 → (m.violate [src]).fld RIM_STS_state = m.fld RIM_STS_state ∧ (m.violate [src]).rim.keys = m.rim.keys)
      ∧ (policyOf m src = 1 → m.fld RIM_STS_state = 0 → (m.violate [src]).fld RIM_STS_state = 1 ∧ (m.violate [src]).fld RIM_STS_cause = src
          ∧ (m.violate [src]).rim.keys = m.rim.keys)
      ∧ (policyOf m src = 2 → (m.violate [src]).fld RIM_STS_state = 2 ∧ (m.violate [src]).fld RIM_STS_cause = src
          ∧ (m.violate [src]).rim.keys = [] ∧ (m.violate [src]).rim.erasing = true) := by
  have hp : policyOf (m.logSource src) src = policyOf m src := policyOf_force (logSource_force m src) src
  have hl := logSource_latched m src h
  have hs : (m.logSource src).fld RIM_STS_state = m.fld RIM_STS_state := fld_logSource _ _ _ _ rfl
  have hr : (m.logSource src).rim = m.rim := (Mach.logSource_touch _ _).1 32 (by decide)
  have he : m.violate [src] = if policyOf m src = 2 then (m.logSource src).zeroise src
      else if policyOf m src = 1 then (if m.fld RIM_STS_state = 0 then (m.logSource src).lock src else m.logSource src) else m.logSource src := by
    unfold Mach.violate
    simp only [Mach.each, List.foldl_cons, List.foldl_nil, List.find?_cons, List.find?_nil, hp, hs]
    by_cases h2 : policyOf m src = 2
    · simp [h2]
    · by_cases h1 : policyOf m src = 1
      · simp [h1]
      · simp [h1, h2]
  rw [he]
  obtain ⟨z1, z2, z3, z4, z5, z6⟩ := zeroise_shows (m.logSource src) src h
  obtain ⟨k1, k2, k3, k4, k5⟩ := lock_shows (m.logSource src) src h
  refine ⟨?_, ?_, fun g => ?_, fun g g2 => ?_, fun g => ?_⟩
  · split
    · rw [z3]; exact hl
    · split
      · split
        · rw [k3]; exact hl
        · exact hl
      · exact hl
  · split
    · rw [z6, hr]
    · split
      · split
        · rw [k5, hr]
        · rw [hr]
      · rw [hr]
  · simp only [g]
    exact ⟨hs, congrArg _ hr⟩
  · simp only [g, g2]
    exact ⟨k1, k2, k4.trans (congrArg _ hr)⟩
  · simp only [g]
    exact ⟨z1, z2, z4, z5⟩

theorem setActive_off (m : Mach) (src : Nat) (h : src < 7) : bit ((m.setActive src false).fld RIM_ACTIVE_src) src = false := by
  unfold Mach.setActive
  rw [fld_set _ _ _ _ rfl]
  exact bit_setBit_wide (m.fld RIM_ACTIVE_src) src 7 false h

theorem fire_one (m : Mach) (src : Nat) (h : src < 7) :
    bit ((m.fire src).fld RIM_LATCH_src) src = true ∧ sensors (m.fire src).rim = sensors m.rim
      ∧ (policyOf m src = 0 → (m.fire src).fld RIM_STS_state = m.fld RIM_STS_state ∧ (m.fire src).rim.keys = m.rim.keys)
      ∧ (policyOf m src = 1 → m.fld RIM_STS_state = 0 → (m.fire src).fld RIM_STS_state = 1 ∧ (m.fire src).fld RIM_STS_cause = src
          ∧ (m.fire src).rim.keys = m.rim.keys)
      ∧ (policyOf m src = 2 → (m.fire src).fld RIM_STS_state = 2 ∧ (m.fire src).fld RIM_STS_cause = src
          ∧ (m.fire src).rim.keys = [] ∧ (m.fire src).rim.erasing = true) := by
  obtain ⟨h1, h2, h3, h4, h5⟩ := violate_one (m.setActive src true) src h
  have hst : (m.setActive src true).fld RIM_STS_state = m.fld RIM_STS_state := fld_set_clear _ _ _ _ _ _ rfl
  have hp : policyOf (m.setActive src true) src = policyOf m src := policyOf_force rfl src
  rw [hp] at h3 h4 h5
  rw [hst] at h3 h4
  exact ⟨h1, h2, h3, h4, h5⟩

theorem alike_staged {m k : Mach} (h : m.alike k) : stagedPages k = stagedPages m := by
  unfold stagedPages
  refine List.filter_congr fun p hp => ?_
  have hp2 : p < 256 := by
    have : ∀ q ∈ allPages, q < 256 := by decide
    exact this p hp
  unfold Mach.flag
  rw [alike_fld h (hStaged p) 0 hp2 (by simp [hStaged])]

theorem showResult_shows (m : Mach) (r : AdmRun) (f : Option AdmFail) :
    (m.showResult r f).fld ADM_STS_state = 0 ∧ (m.showResult r f).fld ADM_STS_code = ((f.map (·.code)).getD 0) % 256 := by
  have h : ∀ (a b c d e : Mach) (v1 v2 v3 v4 v5 : Nat) (b1 : Bool) (g : Fd),
      (Fd.clear ADM_REF_WHERE_detail g && Fd.clear ADM_REF_WHERE_slot_valid g && Fd.clear ADM_REF_WHERE_slot g && Fd.clear ADM_REF_VALUE_v g
        && Fd.clear ADM_REF_LIMIT_v g && Fd.clear ADM_RUN_TIME_us g && Fd.clear ADM_RUNS_n g) = true →
      ((((((((a.setFld ADM_REF_WHERE_detail 0 v1).setFlag ADM_REF_WHERE_slot_valid 0 b1).setFld ADM_REF_WHERE_slot 0 v2).setFld ADM_REF_VALUE_v 0 v3).setFld
        ADM_REF_LIMIT_v 0 v4).setFld ADM_RUN_TIME_us 0 v5)).count ADM_RUNS_n).fld g = a.fld g := by
    intro a b c d e v1 v2 v3 v4 v5 b1 g hg
    simp only [Bool.and_eq_true] at hg
    obtain ⟨⟨⟨⟨⟨⟨g1, g2⟩, g3⟩, g4⟩, g5⟩, g6⟩, g7⟩ := hg
    rw [fld_count_clear _ _ _ _ _ _ g7, fld_set_clear _ _ _ _ _ _ g6, fld_set_clear _ _ _ _ _ _ g5, fld_set_clear _ _ _ _ _ _ g4,
      fld_set_clear _ _ _ _ _ _ g3, fld_flag_clear _ _ _ _ _ _ g2, fld_set_clear _ _ _ _ _ _ g1]
  unfold Mach.showResult
  constructor
  · rw [h _ m m m m _ _ _ _ _ _ ADM_STS_state rfl, fld_set _ _ _ _ rfl]; rfl
  · rw [h _ m m m m _ _ _ _ _ _ ADM_STS_code rfl, fld_set_clear _ _ _ _ _ _ rfl, fld_set _ _ _ _ rfl]
    cases f <;> rfl

/-- The twin without its lanes and its sending. -/
abbrev twnRest (t : Twn) : Twn := { t with lane0 := {}, lane1 := {}, sendQ := [], resendQ := [], linkTx := 0 }

theorem onLane_twn (m : Mach) (l : Nat) (f : Lane → Lane) : twnRest (m.onLane l f).twn = twnRest m.twn := by
  unfold Mach.onLane Mach.onTwn
  dsimp only
  split <;> rfl

theorem sendOn_twn (m : Mach) (l link tries : Nat) (x : PlaitMsg) : twnRest (m.sendOn l link tries x).twn = twnRest m.twn := by
  unfold Mach.sendOn
  extract_lets -underBinder -merge -useContext +onlyGivenNames b y z w
  have h1 : twnRest y.twn = twnRest m.twn := onLane_twn _ _ _
  have h2 : w.twn = z.twn := by unfold w; split <;> rfl
  show twnRest w.twn = _
  rw [h2]; exact h1

theorem nextPlait_twn (m : Mach) : twnRest m.nextPlait.2.twn = twnRest m.twn := by
  unfold Mach.nextPlait
  split
  · rfl
  · split <;> rfl

theorem drainPlait_twn (k : Nat) : ∀ m : Mach, twnRest (m.drainPlait k).twn = twnRest m.twn := by
  induction k with
  | zero => exact fun _ => rfl
  | succ k ih =>
    intro m
    unfold Mach.drainPlait
    split
    · rename_i he
      rw [ih, sendOn_twn, ← nextPlait_twn m, he]
    · rfl

theorem plaitSend_twn (m : Mach) (x : PlaitMsg) : twnRest (m.plaitSend x).twn = twnRest m.twn := by
  unfold Mach.plaitSend
  split
  · rfl
  · unfold Mach.drainAll; rw [drainPlait_twn]; rfl

theorem plaitSend_copy (m : Mach) (x : PlaitMsg) : (m.plaitSend x).twn.copy = m.twn.copy := by
  have h := congrArg Twn.copy (plaitSend_twn m x)
  exact h

theorem second_run (s : State) (t : Nat) (src : Src) (v : Nat) (hv : v = 1 ∨ v = 2) (r : AdmRun) (h : s.m.adm.run = some r) (c : Instr)
    (hc : exec c s = s.run t fun m => m.put src 0x08 0x040 v) : Completes c s fun m' => m'.adm = s.m.adm := by
  refine ⟨if s.m.powered then (s.m.advance t).put src 0x08 0x040 v else s.m, ?_, ?_⟩
  · rw [hc]; rfl
  · split
    · unfold Mach.put Mach.writeWord
      rw [show mapped 0x08 = true from rfl]
      simp only [Bool.not_true, Bool.false_eq_true, if_false]
      rw [if_neg (show ¬ 0x040 = 0x028 by decide)]
      split
      · rfl
      · have hw : ∃ q, wordRefusal (s.m.advance t) src 0x08 0x040 (word v).toNat = some q := by
          have hs : secondRun (s.m.advance t) 0x08 0x040 (word v).toNat = true := by
            unfold secondRun
            rw [show (s.m.advance t).adm.run = some r from h]
            rcases hv with rfl | rfl <;> rfl
          unfold wordRefusal
          rw [hs]
          dsimp only
          by_cases hb : (rimLocked (s.m.advance t) && configWrite (s.m.advance t) 0x08 0x040 (word v).toNat) = true
          · exact ⟨0x05, if_pos hb⟩
          · exact ⟨0x0B, by rw [if_neg hb]; exact if_pos (by simp)⟩
        obtain ⟨q, hq⟩ := hw
        rw [hq]
        unfold Mach.rejectWord
        rw [show (Mach.reject _ 0x08 src 0x040 q (word v)).adm = _ from (Mach.reject_touch _ 0x08 src 0x040 q (word v) (P := 0x100) rfl (by decide)).1 21 (by decide)]
        rfl
    · rfl

theorem fld_endCopy (m : Mach) (f : Fd) (i : Nat) (h : (Fd.clear TWN_COPY_STS_phase f && Fd.clear TWN_COPY_STS_cut f && Fd.clear TWN_COPY_STS_total f
    && Fd.clear TWN_STS_copy_active f) = true) : m.endCopy.fld f i = m.fld f i := by
  simp only [Bool.and_eq_true] at h
  obtain ⟨⟨⟨h1, h2⟩, h3⟩, h4⟩ := h
  unfold Mach.endCopy Mach.showCopy
  extract_lets -underBinder -merge -useContext +onlyGivenNames x y
  rw [fld_flag_clear _ _ _ _ _ _ h4]
  unfold y
  rw [fld_set_clear _ _ _ _ _ _ h3, fld_set_clear _ _ _ _ _ _ h2, fld_set_clear _ _ _ _ _ _ h1]
  exact fld_of_regs (m := m) (m' := (x.disarm .copySettle).disarm .copyRetry) rfl f i

theorem fld_onTwn (m : Mach) (g : Twn → Twn) (f : Fd) (i : Nat) : (m.onTwn g).fld f i = m.fld f i := fld_of_regs rfl _ _

theorem settleSet_refused (m : Mach) (pages : List Nat) (x : AdmFail) : ∃ (b : Bool) (z : Mach),
    z = ((m.count ADM_REFUSALS_n).discardSet pages).event 0x08 1 ∧ m.settleSet pages (some x) = if b then z.event 0x08 3 else z :=
  ⟨_, _, rfl, rfl⟩

theorem settled (y : Mach) (pages : List Nat) (f : Option AdmFail) (hs : y.fld ADM_STS_state = 0)
    (hc : y.fld ADM_STS_code = ((f.map (·.code)).getD 0) % 256) :
    (y.settleSet pages f).adm.run = y.adm.run ∧ (y.settleSet pages f).adm.report = y.adm.report
      ∧ (f = none → (y.settleSet pages f).adm.due = some (y.adm.due.getD [] ++ pages) ∧ (y.settleSet pages f).evt 0x08 0 = true
            ∧ (y.settleSet pages f).fld ADM_STS_state = 0 ∧ (y.settleSet pages f).fld ADM_STS_code = 0)
      ∧ (f ≠ none → (y.settleSet pages f).adm.due = y.adm.due ∧ (y.settleSet pages f).evt 0x08 1 = true) := by
  cases f with
  | none =>
    have e : y.settleSet pages none = ({ y with adm := { y.adm with due := some (y.adm.due.getD [] ++ pages) } } : Mach).event 0x08 0 := rfl
    have ha : (y.settleSet pages none).adm = { y.adm with due := some (y.adm.due.getD [] ++ pages) } := by rw [e, Mach.event_adm _ _ _ _ (by decide)]
    have hf : ∀ g : Fd, Fd.noEvt 8 g = true → (y.settleSet pages none).fld g = y.fld g := fun g hg => by
      rw [e, fld_event _ _ _ _ _ _ hg]; exact fld_of_regs rfl _ _
    exact ⟨by rw [ha], by rw [ha], fun _ => ⟨by rw [ha], by rw [e]; exact evt_event _ _ _ _ rfl, (hf _ rfl).trans hs, (hf _ rfl).trans hc⟩,
      fun h => absurd rfl h⟩
  | some x =>
    obtain ⟨sh, z, hzd, hse⟩ := settleSet_refused y pages x
    have hz : z.adm = y.adm := by
      rw [hzd, Mach.event_adm _ _ _ _ (by decide)]
      exact (Mach.discardSet_touch ..).1 21 (by decide)
    have hz2 : z.evt 0x08 1 = true := by rw [hzd]; exact evt_event _ _ _ _ rfl
    have hfin : (if sh then z.event 0x08 3 else z).adm = y.adm ∧ (if sh then z.event 0x08 3 else z).evt 0x08 1 = true := by
      split
      · refine ⟨by rw [Mach.event_adm _ _ _ _ (by decide)]; exact hz, ?_⟩
        have := event_evt z 8 3 .module (by decide) 1 (by decide)
        unfold Mach.evt at *
        rw [this, hz2]; rfl
      · exact ⟨hz, hz2⟩
    obtain ⟨w1, w2⟩ := hfin
    rw [hse]
    exact ⟨by rw [w1], by rw [w1], fun h => absurd h (by simp), fun _ => ⟨by rw [w1], w2⟩⟩

theorem sensor_fld (m : Mach) (i : Nat) (v : BitVec 16) (f : Fd) (h : (Fd.clear (PACE_SENSOR_stale.nth i) f && Fd.clear (PACE_SENSOR_value.nth i) f) = true) :
    (m.sensor i (some v)).fld f = m.fld f := by
  simp only [Bool.and_eq_true] at h
  unfold Mach.sensor
  dsimp only
  rw [fld_set_clear _ _ _ _ _ _ h.2, fld_flag_clear _ _ _ _ _ _ h.1]
  exact fld_of_regs rfl _ _

theorem sensor_self (m : Mach) (i : Nat) (v : BitVec 16) (hi : i < 16) :
    (m.sensor i (some v)).fld (PACE_SENSOR_value.nth i) = v.toNat ∧ (m.sensor i (some v)).flag (PACE_SENSOR_stale.nth i) = false := by
  have h1 : ∀ i < 16, Fd.fit (PACE_SENSOR_value.nth i) = true ∧ Fd.fit (PACE_SENSOR_stale.nth i) = true
      ∧ Fd.clear (PACE_SENSOR_value.nth i) (PACE_SENSOR_stale.nth i) = true ∧ (PACE_SENSOR_value.nth i).hi + 1 - (PACE_SENSOR_value.nth i).lo = 16 := by decide
  obtain ⟨a, b, c, d⟩ := h1 i hi
  unfold Mach.sensor
  dsimp only
  constructor
  · rw [fld_set _ _ _ _ a, d]; exact Nat.mod_eq_of_lt v.isLt
  · unfold Mach.flag
    rw [fld_set_clear _ _ _ _ _ _ c]
    exact flag_set _ _ _ _ b

theorem sensors_shown (m : Mach) (v : Nat → BitVec 16) (counts : List (Option (BitVec 16))) (hv : ∀ i < 16, nthD counts i none = some (v i)) :
    ∀ n ≤ 16, let y := m.each (List.range n) fun i m => m.sensor i (nthD counts i none)
      (∀ j < n, y.fld (PACE_SENSOR_value.nth j) = (v j).toNat ∧ y.flag (PACE_SENSOR_stale.nth j) = false)
        ∧ y.fld PACE_STATE_state = m.fld PACE_STATE_state ∧ y.force = m.force := by
  intro n
  induction n with
  | zero => exact fun _ => ⟨fun j hj => absurd hj (by omega), rfl, rfl⟩
  | succ n ih =>
    intro hn
    obtain ⟨h1, h2, h3⟩ := ih (by omega)
    have e : m.each (List.range (n + 1)) (fun i m => m.sensor i (nthD counts i none))
        = (m.each (List.range n) fun i m => m.sensor i (nthD counts i none)).sensor n (some (v n)) := by
      unfold Mach.each
      rw [List.range_succ, List.foldl_append]
      show Mach.sensor _ n (nthD counts n none) = _
      rw [hv n (by omega)]
    show (∀ j < n + 1, (m.each (List.range (n + 1)) fun i m => m.sensor i (nthD counts i none)).fld _ = _ ∧ (m.each (List.range (n + 1)) fun i m => m.sensor i (nthD counts i none)).flag _ = _) ∧ (m.each (List.range (n + 1)) fun i m => m.sensor i (nthD counts i none)).fld _ = _ ∧ (m.each (List.range (n + 1)) fun i m => m.sensor i (nthD counts i none)).force = _
    rw [e]
    generalize m.each (List.range n) (fun i m => m.sensor i (nthD counts i none)) = y at h1 h2 h3
    have hd : ∀ i < 16, ∀ j < 16, i ≠ j → (Fd.clear (PACE_SENSOR_stale.nth i) (PACE_SENSOR_value.nth j) && Fd.clear (PACE_SENSOR_value.nth i) (PACE_SENSOR_value.nth j)) = true
        ∧ (Fd.clear (PACE_SENSOR_stale.nth i) (PACE_SENSOR_stale.nth j) && Fd.clear (PACE_SENSOR_value.nth i) (PACE_SENSOR_stale.nth j)) = true := by decide
    have hst : ∀ i < 16, (Fd.clear (PACE_SENSOR_stale.nth i) PACE_STATE_state && Fd.clear (PACE_SENSOR_value.nth i) PACE_STATE_state) = true := by decide
    refine ⟨fun j hj => ?_, ?_, h3⟩
    · by_cases hjn : j = n
      · subst hjn; exact sensor_self y j (v j) (by omega)
      · obtain ⟨a, b⟩ := hd n (by omega) j (by omega) (fun h => hjn h.symm)
        obtain ⟨c, d⟩ := h1 j (by omega)
        unfold Mach.flag at *
        rw [sensor_fld _ _ _ _ a, sensor_fld _ _ _ _ b]
        exact ⟨c, d⟩
    · rw [sensor_fld _ _ _ _ (hst n (by omega)), h2]

theorem lowest_of (f : Nat → Nat) (b : Nat) (hf : ∀ i, f i < b) : ∀ n, 0 < n → ∃ i < n,
    (List.range n).foldl (fun (a : Nat × Nat) i => if f i < a.1 then (f i, i) else a) (b, 0) = (f i, i)
      ∧ ∀ j < n, f i ≤ f j ∧ (f j = f i → i ≤ j) := by
  intro n
  induction n with
  | zero => exact fun h => absurd h (by omega)
  | succ n ih =>
    intro _
    rw [List.range_succ, List.foldl_append]
    simp only [List.foldl_cons, List.foldl_nil]
    by_cases hn : n = 0
    · subst hn
      refine ⟨0, by omega, ?_, fun j hj => ?_⟩
      · simp [hf 0]
      · have : j = 0 := by omega
        subst this; exact ⟨le_refl _, fun _ => le_refl _⟩
    · obtain ⟨i, hi, he, hm⟩ := ih (by omega)
      rw [he]
      dsimp only
      by_cases hlt : f n < f i
      · rw [if_pos hlt]
        refine ⟨n, by omega, rfl, fun j hj => ?_⟩
        by_cases hjn : j = n
        · subst hjn; exact ⟨le_refl _, fun _ => le_refl _⟩
        · have := hm j (by omega)
          exact ⟨by omega, fun h => by omega⟩
      · rw [if_neg hlt]
        refine ⟨i, by omega, rfl, fun j hj => ?_⟩
        by_cases hjn : j = n
        · subst hjn; exact ⟨by omega, fun _ => by omega⟩
        · exact hm j (by omega)

theorem foldl_same {α β : Type} (l : List α) (f g : β → α → β) (b : β) (h : ∀ x ∈ l, ∀ y, f y x = g y x) : l.foldl f b = l.foldl g b := by
  induction l generalizing b with
  | nil => rfl
  | cons x l ih =>
    simp only [List.foldl_cons]
    rw [h x (List.mem_cons_self ..)]
    exact ih _ fun y hy => h y (List.mem_cons_of_mem _ hy)

theorem enterPace_shows (m : Mach) (st : Nat) (h : st < 4) : (m.enterPace st).fld PACE_STATE_state = st
    ∧ ∀ f : Fd, (Fd.noEvt 2 f && Fd.clear PACE_STATE_state f && Fd.clear PACE_STATE_shed_req f && Fd.clear PACE_WARN_CNT_n f && Fd.clear PACE_SHED_CNT_n f
        && Fd.clear PACE_FLOOR_CNT_n f) = true → (m.enterPace st).fld f = m.fld f := by
  have key : ∃ (y : Mach) (c : Bool), m.enterPace st = y.setFlag PACE_STATE_shed_req 0 c ∧ y.fld PACE_STATE_state = st ∧ ∀ f : Fd, (Fd.noEvt 2 f && Fd.clear PACE_STATE_state f && Fd.clear PACE_STATE_shed_req f && Fd.clear PACE_WARN_CNT_n f && Fd.clear PACE_SHED_CNT_n f
        && Fd.clear PACE_FLOOR_CNT_n f) = true → y.fld f = m.fld f := by
    generalize hz : m.enterPace st = z
    unfold Mach.enterPace at hz
    extract_lets -underBinder -merge -useContext +onlyGivenNames old a b y at hz
    refine ⟨y, _, hz.symm, ?_⟩
    unfold y
    split
    · rename_i ho
      exact ⟨ho, fun _ _ => rfl⟩
    · have hb : b.fld PACE_STATE_state = st := by
        unfold b
        rw [fld_set _ _ _ _ rfl]
        exact Nat.mod_eq_of_lt (lt_of_lt_of_le h (by decide))
      have hbf : ∀ f : Fd, (Fd.noEvt 2 f && Fd.clear PACE_STATE_state f) = true → b.fld f = m.fld f := by
        intro f hf
        simp only [Bool.and_eq_true] at hf
        unfold b
        rw [fld_set_clear _ _ _ _ _ _ hf.2]
        unfold a
        split
        · rw [fld_event _ _ _ _ _ _ hf.1]
        · rfl
      clear_value b
      have hc : ∀ (c : Fd) (e : Nat), (Fd.fit c && Fd.clear c PACE_STATE_state) = true → ((b.count c).event 0x02 e).fld PACE_STATE_state = st
          ∧ ∀ f : Fd, (Fd.noEvt 2 f && Fd.clear c f) = true → ((b.count c).event 0x02 e).fld f = b.fld f := by
        intro c e hc
        simp only [Bool.and_eq_true] at hc
        refine ⟨by rw [fld_event _ _ _ _ _ _ rfl, fld_count_clear _ _ _ _ _ _ hc.2, hb], fun f hf => ?_⟩
        simp only [Bool.and_eq_true] at hf
        rw [fld_event _ _ _ _ _ _ hf.1, fld_count_clear _ _ _ _ _ _ hf.2]
      split
      · refine ⟨(hc _ _ rfl).1, fun f hf => ?_⟩
        simp only [Bool.and_eq_true] at hf
        rw [(hc _ _ rfl).2 f (by simp [hf]), hbf f (by simp [hf])]
      · refine ⟨(hc _ _ rfl).1, fun f hf => ?_⟩
        simp only [Bool.and_eq_true] at hf
        rw [(hc _ _ rfl).2 f (by simp [hf]), hbf f (by simp [hf])]
      · refine ⟨(hc _ _ rfl).1, fun f hf => ?_⟩
        simp only [Bool.and_eq_true] at hf
        rw [(hc _ _ rfl).2 f (by simp [hf]), hbf f (by simp [hf])]
      · refine ⟨hb, fun f hf => ?_⟩
        simp only [Bool.and_eq_true] at hf
        rw [hbf f (by simp [hf])]
  obtain ⟨y, c, he, hy⟩ := key
  rw [he]
  refine ⟨?_, fun f hf => ?_⟩
  · rw [fld_flag_clear _ _ _ _ _ _ rfl]; exact hy.1
  · rw [← hy.2 f hf]
    simp only [Bool.and_eq_true] at hf
    rw [fld_flag_clear _ _ _ _ _ _ (by simp [hf])]

theorem glitch_fld (m : Mach) (n : Nat) (f : Fd) (h : (Fd.noEvt 2 f && Fd.clear PACE_GLITCH_CNT_n f && decide (f.page = 2) && Fd.clear RIM_ACTIVE_src f) = true) : (m.glitch n).fld f = m.fld f := by
  simp only [Bool.and_eq_true, decide_eq_true_eq] at h
  obtain ⟨⟨⟨h1, h2⟩, h3⟩, h3f⟩ := h
  have hoff : f.off < 4096 := by
    simp only [Fd.noEvt, Fd.fit, Bool.and_eq_true, decide_eq_true_eq] at h1
    exact h1.1.1.1.2
  unfold Mach.glitch
  extract_lets -underBinder -merge -useContext +onlyGivenNames low fell was y z
  have hy : y.fld f = m.fld f := fld_of_regs rfl _ _
  clear_value y
  have hz : z.fld f = m.fld f := by unfold z; rw [fld_count_clear _ _ _ _ _ _ h2, hy]
  clear_value z
  split
  · split
    · exact hz
    · have hf := Mach.violate_touch ((z.event 0x02 4).setActive 3 true) [3]
      unfold Mach.fire
      rw [fld_touch hf f 0 (by simp [h3, hoff]; decide)]
      unfold Mach.setActive
      rw [fld_set_clear _ _ _ _ _ _ h3f, fld_event _ _ _ _ _ _ h1, hz]
  · unfold Mach.setActive
    rw [fld_set_clear _ _ _ _ _ _ h3f, hy]

theorem expiryOf_shows (m : Mach) (r : Bool) (o p g : Nat) :
    (m.expiryOf r o p g).fld PACE_WDOG_CNT_n = (m.fld PACE_WDOG_CNT_n + 1) % 2 ^ 32 ∧ (m.expiryOf r o p g).evt 0x02 5 = true
      ∧ (m.expiryOf r o p g).reg 0x02 0x0CC 0 = word (r.toNat * 2 ^ 31 + p * 2 ^ 24 + o * 2 ^ 16 + g) := by
  unfold Mach.expiryOf
  extract_lets -underBinder -merge -useContext +onlyGivenNames y z
  generalize (if bit p 6 = true then Attr.part (p % 64) else Attr.module) = a
  refine ⟨?_, evt_eventAlways _ _ _ _ rfl, ?_⟩
  · rw [fld_eventAlways _ _ _ _ _ _ rfl]
    have : z.fld PACE_WDOG_CNT_n = y.fld PACE_WDOG_CNT_n := by
      unfold Mach.fld z
      rw [reg_setReg_ne _ _ (by decide)]
    rw [this]
    exact fld_count _ _ _ _ rfl
  · have h := (eventAlways_within z 0x02 5 a (by decide)).2 0x02 0x0CC 0 (by decide) (by decide) (by simp [evtOf, recPage])
    rw [h]
    exact reg_setReg_same _ _ _ _ _

theorem markCrossing_touch (m : Mach) (x : Nat) : m.touch 8 0x80000000000000 (m.markCrossing CDC_HANG_LO_f CDC_HANG_HI_f x) := by
  unfold Mach.markCrossing
  split
  · exact Mach.setFld_touch (P := 0x80000000000000) _ _ _ _ rfl
  · exact Mach.setFld_touch (P := 0x80000000000000) _ _ _ _ rfl

theorem takeEffect_adm (m : Mach) (pages : List Nat) :
    (m.takeEffect pages).adm = { m.adm with used := pages ++ m.adm.used.filter fun p => !pages.contains p } := by
  unfold Mach.takeEffect
  extract_lets -underBinder -merge -useContext +onlyGivenNames old oldBulk keep src a b c
  have hb : b.adm = a.adm := by
    unfold b
    exact each_keep (fun k : Mach => k.adm) pages _ a fun p y => adm_of_touch (touch_app (touch_mono (Mach.takePage_touch y p) rfl rfl)
      (Mach.count_any ..) rfl rfl : y.touch 0x418 0xFFFFFFFFFFFFFFFFFFFFFFFFFFFFFFFFFFFFFFFFFFFFFFFFFFFFFFFFFFFFFFFF _) rfl
  have hc : c.adm = b.adm := by
    unfold c
    split
    · exact adm_of_touch (Mach.sviApply_touch ..) rfl
    · rfl
  rw [each_keep (fun k : Mach => k.adm) pages _ c fun p y => adm_of_touch (Mach.pageHook_touch ..) rfl, hc, hb]

theorem shareFrame_applies (m : Mach) (pages : List Nat) (h : m.now % 1000000 = 0) (hd : m.adm.due = some pages) :
    m.shareFrame.adm = { m.adm with due := none, used := pages ++ m.adm.used.filter fun p => !pages.contains p }
      ∧ m.shareFrame.fld RST_STS_phase = 4 := by
  unfold Mach.shareFrame
  rw [if_neg (by omega)]
  extract_lets -underBinder -merge -useContext +onlyGivenNames x
  have hx : x.adm = m.adm := rfl
  clear_value x
  rw [hx, hd]
  show (x.applySet pages).adm = _ ∧ (x.applySet pages).fld RST_STS_phase = 4
  obtain ⟨y, z, w, hyd, hzd, hwd, he⟩ : ∃ y z w : Mach, y = { x with adm := { x.adm with due := none } }
      ∧ z = y.each pages (fun p m => m.setFlag (hStaged p) 0 false) ∧ w = ((z.failCopy).takeEffect pages).showSet
      ∧ x.applySet pages = if w.fld RST_STS_phase = 4 then w else w.stepSeven := ⟨_, _, _, rfl, rfl, rfl, rfl⟩
  rw [he]
  have hz : z.adm = { m.adm with due := none } := by
    rw [hzd, each_keep (fun k : Mach => k.adm) pages (fun p m => m.setFlag (hStaged p) 0 false) y (fun _ _ => rfl), hyd, ← hx]
  have hw : w.adm = { m.adm with due := none, used := pages ++ m.adm.used.filter fun p => !pages.contains p } := by
    rw [hwd, adm_of_touch (Mach.showSet_touch _) rfl, takeEffect_adm, adm_of_touch (Mach.failCopy_touch _) rfl, hz]
  by_cases h4 : w.fld RST_STS_phase = 4
  · rw [if_pos h4]
    exact ⟨hw, h4⟩
  · rw [if_neg h4]
    refine ⟨?_, ?_⟩
    · rw [adm_of_touch (Mach.stepSeven_touch _) rfl]; exact hw
    · unfold Mach.stepSeven
      extract_lets -underBinder -merge -useContext +onlyGivenNames a b r c
      rw [fld_touch (Mach.fireStart_touch c) _ _ rfl]
      unfold c
      rw [fld_event _ _ _ _ _ _ rfl]
      show (Mach.setFld _ RST_T_READY_ms 0 _).fld RST_STS_phase = 4
      rw [fld_set_clear _ _ _ _ _ _ rfl]
      show (Mach.setFld _ RST_STS_phase 0 4).fld RST_STS_phase = 4
      rw [fld_set _ _ _ _ rfl]
      rfl

theorem paceWindow_eq (m : Mach) (counts : List (Option (BitVec 16))) (y : Mach) (now who : Nat) (hw : m.pace.windowAt + paceLength m ≤ m.now)
    (hy : y = m.floorTime.each (List.range 16) fun i m => m.sensor i (nthD counts i none)) (h : lowestPace y = (now, who)) :
    ∃ (mn mx : Nat) (p : Pace) (held : Bool), ∃ z : Mach,
      z = { (((y.setFld PACE_NOW_pace 0 now).setFld PACE_NOW_sensor 0 who).setFld PACE_MINMAX_max 0 mx).setFld PACE_MINMAX_min 0 mn with pace := p }
        ∧ m.paceWindow counts = (z.enterPace (nextPace z (z.fld PACE_STATE_state) now held)).glitch now := by
  subst hy
  generalize hv : m.paceWindow counts = v
  unfold Mach.paceWindow at hv
  rw [if_neg (by omega)] at hv
  extract_lets -underBinder -merge -useContext +onlyGivenNames a b at hv
  rw [show lowestPace b = (now, who) from h] at hv
  exact ⟨_, _, _, _, _, rfl, hv.symm⟩

theorem crossing_on (m : Mach) (x : Nat) (f : Crossing → Crossing) : crossing (m.onCrossing x f) x = f (crossing m x) := by
  unfold crossing Mach.onCrossing
  simp [kget_kput_same]
  rfl

theorem crossing_of_cdc {a b : Mach} (h : a.cdc = b.cdc) (x : Nat) : crossing a x = crossing b x := by unfold crossing; rw [h]

theorem crossing_count (m : Mach) (f : Fd) (i n x : Nat) : crossing (m.count f i n) x = crossing m x := rfl

theorem countsArrive_keeps (m : Mach) (v : List Nat) (x : Nat) : (m.countsArrive v).cdc = m.cdc ∧ (m.countsArrive v).fld CDC_XFER_CNT_n x = m.fld CDC_XFER_CNT_n x := by
  have h1 := each_keep (fun k : Mach => k.cdc) (List.range 32) (fun i m => m.setFld PLS_CNT_n i (nthD v i 0)) m (fun _ _ => rfl)
  have h2 := each_keep (fun k : Mach => k.fld CDC_XFER_CNT_n x) (List.range 32) (fun i m => m.setFld PLS_CNT_n i (nthD v i 0)) m
    (fun i k => fld_set_clear k PLS_CNT_n CDC_XFER_CNT_n i x _ rfl)
  unfold Mach.countsArrive
  generalize m.each (List.range 32) (fun i m => m.setFld PLS_CNT_n i (nthD v i 0)) = y at h1 h2
  exact ⟨h1, (fld_of_regs rfl _ _).trans h2⟩

theorem cfg_lt (m : Mach) (f : Fd) (i : Nat) : m.cfg f i < 2 ^ (f.hi + 1 - f.lo) := Nat.mod_lt _ (Nat.two_pow_pos _)
theorem fld_lt (m : Mach) (f : Fd) (i : Nat) : m.fld f i < 2 ^ (f.hi + 1 - f.lo) := Nat.mod_lt _ (Nat.two_pow_pos _)
theorem toWidth_mod (w : Nat) (x : Int) : toWidth w x % 2 ^ w = toWidth w x := by
  refine Nat.mod_eq_of_lt ?_
  unfold toWidth
  have h : (0 : Int) < 2 ^ w := by positivity
  have h1 := Int.emod_lt_of_pos x h
  have h2 := Int.emod_nonneg x (ne_of_gt h)
  zify
  rw [Int.toNat_of_nonneg h2]
  exact h1

theorem evt_event_or (m : Mach) (q b c : Nat) (a : Attr) (h : (decide (q < 256) && decide (c < 32)) = true) (hm : m.evt q c = true) :
    (m.event q b a).evt q c = true := by
  simp only [Bool.and_eq_true, decide_eq_true_eq] at h
  unfold Mach.evt at *
  rw [event_evt m q b a h.1 c h.2, hm]
  simp

/-- The time block but for its runs, its stretches of Locked and its output pin. -/
abbrev timeCore (b : TimeBlk) : TimeBlk := { b with goodRun := 0, badRun := 0, ppsOut := false, lockRates := [], lockedAt := none }

theorem ppsLow_facts (m : Mach) : m.ppsLow.regs = m.regs ∧ m.ppsLow.force = m.force ∧ timeCore m.ppsLow.time = timeCore m.time
    ∧ m.ppsLow.now = m.now ∧ ∀ u, u ≠ .ppsWidth → m.ppsLow.deadline u = m.deadline u := by
  unfold Mach.ppsLow
  split
  · refine ⟨rfl, rfl, rfl, rfl, fun u hu => ?_⟩
    exact deadline_disarm_other (m.onTime fun b => { b with ppsOut := false }) hu
  · exact ⟨rfl, rfl, rfl, rfl, fun _ _ => rfl⟩

theorem enterTime_facts (m : Mach) (st : Nat) (hst : st < 8) :
    (m.enterTime st).fld TIME_QUAL_state = st ∧ (m.enterTime st).force = m.force ∧ timeCore (m.enterTime st).time = timeCore m.time
      ∧ (∀ (f : Fd) i, (Fd.clear TIME_QUAL_state f && Fd.noEvt 5 f) = true → (m.enterTime st).fld f i = m.fld f i)
      ∧ (∀ c, c < 32 → m.evt 5 c = true → (m.enterTime st).evt 5 c = true) ∧ (2 ≤ st → (m.enterTime st).evt 5 (st - 2) = true)
      ∧ (∀ u, u ≠ .ppsWidth → u ≠ .bridging → u ≠ .holdLimit → (m.enterTime st).deadline u = m.deadline u)
      ∧ (st ≠ 4 → (m.enterTime st).deadline .holdLimit = none) := by
  generalize hv : m.enterTime st = v
  unfold Mach.enterTime at hv
  extract_lets -underBinder -merge -useContext +onlyGivenNames a b c d e at hv
  have hb : b.fld TIME_QUAL_state = st ∧ b.force = m.force ∧ timeCore b.time = timeCore m.time
      ∧ (∀ (f : Fd) i, Fd.clear TIME_QUAL_state f = true → b.fld f i = m.fld f i) := by
    have hr : ∀ (f : Fd) i, b.fld f i = (m.setFld TIME_QUAL_state 0 st).fld f i := fun f i => fld_of_regs rfl f i
    refine ⟨?_, rfl, rfl, fun f i hf => ?_⟩
    · rw [hr, fld_set _ _ _ _ rfl]
      exact Nat.mod_eq_of_lt (lt_of_lt_of_le hst (by decide))
    · rw [hr, fld_set_clear _ _ _ _ _ _ hf]
  have hbt : (∀ u, u ≠ .bridging → u ≠ .holdLimit → b.deadline u = m.deadline u) ∧ b.deadline .holdLimit = none := by
    constructor
    · intro u h1 h2
      show (((m.setFld TIME_QUAL_state 0 st).disarm .bridging).disarm .holdLimit).deadline u = _
      rw [deadline_disarm_other _ h2, deadline_disarm_other _ h1]
      rfl
    · show (((m.setFld TIME_QUAL_state 0 st).disarm .bridging).disarm .holdLimit).deadline .holdLimit = _
      exact deadline_disarm_same _ _
  clear_value b
  have hc : c.regs = b.regs ∧ c.force = b.force ∧ c.time = b.time ∧ (∀ u, u ≠ .bridging → u ≠ .holdLimit → c.deadline u = b.deadline u)
      ∧ (st ≠ 4 → c.deadline .holdLimit = b.deadline .holdLimit) := by
    unfold c
    split
    · exact ⟨rfl, rfl, rfl, fun u h1 _ => deadline_arm_other _ _ h1, fun _ => deadline_arm_other _ _ (by decide)⟩
    · exact ⟨rfl, rfl, rfl, fun u _ h2 => deadline_arm_other _ _ h2, fun h => absurd rfl h⟩
    · exact ⟨rfl, rfl, rfl, fun _ _ _ => rfl, fun _ => rfl⟩
  clear_value c
  have hd : d.regs = c.regs ∧ d.force = c.force ∧ timeCore d.time = timeCore c.time ∧ (∀ u, u ≠ .ppsWidth → d.deadline u = c.deadline u) := by
    unfold d
    split
    · exact ⟨rfl, rfl, rfl, fun _ _ => rfl⟩
    · obtain ⟨h1, h2, h3, h4, h5⟩ := ppsLow_facts c
      exact ⟨h1, h2, h3, h5⟩
  clear_value d
  have hdf : ∀ (f : Fd) i, d.fld f i = b.fld f i := fun f i => fld_of_regs (hd.1.trans hc.1) f i
  have he : e.force = d.force ∧ e.time = d.time ∧ (∀ u, e.deadline u = d.deadline u) ∧ (∀ (f : Fd) i, Fd.noEvt 5 f = true → e.fld f i = d.fld f i)
      ∧ (∀ c, c < 32 → d.evt 5 c = true → e.evt 5 c = true) ∧ (2 ≤ st → e.evt 5 (st - 2) = true) := by
    unfold e
    split
    · refine ⟨Mach.event_force _ _ _ _ (by decide), Mach.event_time _ _ _ _ (by decide), fun u => ?_, fun f i hf => fld_event _ _ _ _ _ _ hf,
        fun c hc h => evt_event_or _ _ _ _ _ (by simp [hc]) h, fun _ => evt_event _ _ _ _ (by simp; omega)⟩
      unfold Mach.deadline
      rw [Mach.event_timers _ _ _ _ (by decide)]
    · exact ⟨rfl, rfl, fun _ => rfl, fun _ _ _ => rfl, fun _ _ h => h, fun h => absurd h (by assumption)⟩
  clear_value e
  subst hv
  have hv : ∀ (f : Fd) i, (e.sendValue 32 [st]).fld f i = e.fld f i := fun f i => fld_of_regs rfl f i
  refine ⟨?_, he.1.trans (hd.2.1.trans (hc.2.1.trans hb.2.1)), ?_, ?_, ?_, ?_, ?_, ?_⟩
  · rw [hv, he.2.2.2.1 _ _ rfl, hdf]; exact hb.1
  · show timeCore e.time = _
    rw [he.2.1, hd.2.2.1, hc.2.2.1]; exact hb.2.2.1
  · intro f i hf
    simp only [Bool.and_eq_true] at hf
    rw [hv, he.2.2.2.1 _ _ hf.2, hdf]; exact hb.2.2.2 f i hf.1
  · intro c hc h
    unfold Mach.evt
    rw [hv]
    refine he.2.2.2.2.1 c hc ?_
    unfold Mach.evt at *
    rw [hdf, hb.2.2.2 _ _ rfl]; exact h
  · intro h
    unfold Mach.evt
    rw [hv]
    exact he.2.2.2.2.2 h
  · intro u h1 h2 h3
    show e.deadline u = _
    rw [he.2.2.1, hd.2.2.2 u h1, hc.2.2.2.1 u h2 h3]; exact hbt.1 u h2 h3
  · intro h
    show e.deadline .holdLimit = _
    rw [he.2.2.1, hd.2.2.2 _ (by decide), hc.2.2.2.2 h]; exact hbt.2

theorem evalTime_cases (m : Mach) (meas : Option Int) : m.evalTime meas = m ∨ ∃ st < 8, m.evalTime meas = m.enterTime st := by
  unfold Mach.evalTime
  dsimp only
  split
  · split
    · exact .inr ⟨1, by decide, rfl⟩
    · exact .inl rfl
  · split
    · exact .inr ⟨2, by decide, rfl⟩
    · split
      · exact .inl rfl
      · exact .inr ⟨0, by decide, rfl⟩
  · split
    · exact .inr ⟨1, by decide, rfl⟩
    · split
      · exact .inl rfl
      · exact .inr ⟨3, by decide, rfl⟩
  · split
    · refine .inr ⟨_, ?_, rfl⟩
      split <;> decide
    · exact .inl rfl
  · split
    · exact .inr ⟨1, by decide, rfl⟩
    · exact .inl rfl

theorem evalTime_facts (m : Mach) (meas : Option Int) :
    (m.evalTime meas).force = m.force ∧ timeCore (m.evalTime meas).time = timeCore m.time
      ∧ (∀ (f : Fd) i, (Fd.clear TIME_QUAL_state f && Fd.noEvt 5 f) = true → (m.evalTime meas).fld f i = m.fld f i)
      ∧ (∀ c, c < 32 → m.evt 5 c = true → (m.evalTime meas).evt 5 c = true)
      ∧ (∀ u, u ≠ .ppsWidth → u ≠ .bridging → u ≠ .holdLimit → (m.evalTime meas).deadline u = m.deadline u) := by
  rcases evalTime_cases m meas with h | ⟨st, hst, h⟩
  · rw [h]; exact ⟨rfl, rfl, fun _ _ _ => rfl, fun _ _ h => h, fun _ _ _ _ => rfl⟩
  · rw [h]
    obtain ⟨_, h2, h3, h4, h5, _, h7, _⟩ := enterTime_facts m st hst
    exact ⟨h2, h3, h4, h5, h7⟩

theorem freeRate_facts (m : Mach) : m.freeRate.force = m.force ∧ m.freeRate.time = m.time ∧ m.freeRate.timers = m.timers
    ∧ ∀ (f : Fd) i, (Fd.clear TIME_QUAL_ext10m_used f && Fd.clear TIME_RATE_rate f) = true → m.freeRate.fld f i = m.fld f i := by
  have ht := Mach.freeRate_touch m
  refine ⟨force_of_touch ht rfl, time_of_touch ht rfl, timers_of_touch ht rfl, fun f i hf => ?_⟩
  simp only [Bool.and_eq_true] at hf
  generalize hv : m.freeRate = v
  unfold Mach.freeRate at hv
  extract_lets -underBinder -merge -useContext +onlyGivenNames ext was y at hv
  have hy : y.fld f i = m.fld f i := fld_flag_clear _ _ _ _ _ _ hf.1
  clear_value y
  subst hv
  split
  · exact hy
  · split
    · show (Mach.setFld { y with free := y.free + 1 } TIME_RATE_rate 0 _).fld f i = _
      rw [fld_set_clear _ _ _ _ _ _ hf.2]
      exact (fld_of_regs rfl _ _).trans hy
    · split
      · show (Mach.setFld y TIME_RATE_rate 0 _).fld f i = _
        rw [fld_set_clear _ _ _ _ _ _ hf.2]; exact hy
      · exact hy

theorem follow_facts (m : Mach) (c : Nat) (hc : c < 8) : (m.follow c).fld TIME_QUAL_source = c
    ∧ (m.fld TIME_QUAL_source ≠ c → (m.follow c).evt 5 5 = true ∧ (m.follow c).fld TIME_SRC_CHG_n = (m.fld TIME_SRC_CHG_n + 1) % 2 ^ 32)
    ∧ (m.follow c).force = m.force
    ∧ (∀ u, u ≠ .slewDone → (m.follow c).deadline u = m.deadline u)
    ∧ (∀ (f : Fd) i, (Fd.clear TIME_QUAL_source f && Fd.clear TIME_SRC_CHG_n f && Fd.noEvt 5 f && Fd.clear TIME_QUAL_ext10m_used f && Fd.clear TIME_RATE_rate f
        && Fd.clear PTP_DOM_STS_source f && Fd.clear (PTP_DOM_STS_source.nth 1) f && Fd.clear PTP_DOM_OFS_ns f && Fd.clear (PTP_DOM_OFS_ns.nth 1) f) = true →
        (m.follow c).fld f i = m.fld f i)
    ∧ (c ≠ 0 → (m.follow c).time = m.time)
    ∧ (∀ b, b < 32 → m.evt 5 b = true → (m.follow c).evt 5 b = true) := by
  generalize hv : m.follow c = v
  unfold Mach.follow at hv
  by_cases h0 : m.fld TIME_QUAL_source = c
  · rw [if_pos h0] at hv
    subst hv
    exact ⟨h0, fun h => absurd h0 h, rfl, fun _ _ => rfl, fun _ _ _ => rfl, fun _ => rfl, fun _ _ h => h⟩
  · rw [if_neg h0] at hv
    extract_lets -underBinder -merge -useContext +onlyGivenNames a b at hv
    have ha : a.fld TIME_QUAL_source = c ∧ a.fld TIME_SRC_CHG_n = (m.fld TIME_SRC_CHG_n + 1) % 2 ^ 32 ∧ a.force = m.force ∧ a.timers = m.timers ∧ a.time = m.time
        ∧ (∀ (f : Fd) i, (Fd.clear TIME_QUAL_source f && Fd.clear TIME_SRC_CHG_n f) = true → a.fld f i = m.fld f i) := by
      unfold a
      refine ⟨?_, ?_, rfl, rfl, rfl, fun f i hf => ?_⟩
      · rw [fld_count_clear _ _ _ _ _ _ rfl, fld_set _ _ _ _ rfl]
        exact Nat.mod_eq_of_lt (lt_of_lt_of_le hc (by decide))
      · rw [fld_count _ _ _ _ rfl, fld_set_clear _ _ _ _ _ _ rfl]
        rfl
      · simp only [Bool.and_eq_true] at hf
        rw [fld_count_clear _ _ _ _ _ _ hf.2, fld_set_clear _ _ _ _ _ _ hf.1]
    clear_value a
    have hb : b.force = a.force ∧ b.timers = a.timers ∧ b.time = a.time
        ∧ (∀ (f : Fd) i, (Fd.clear PTP_DOM_STS_source f && Fd.clear (PTP_DOM_STS_source.nth 1) f && Fd.clear PTP_DOM_OFS_ns f && Fd.clear (PTP_DOM_OFS_ns.nth 1) f) = true → b.fld f i = a.fld f i) := by
      have hone : ∀ (y : Mach) (k : Nat) (q : Bool), (if q = true then (y.setFlag (PTP_DOM_STS_source.nth k) 0 (c == k + 1)).setFld (PTP_DOM_OFS_ns.nth k) 0 0 else y.setFlag (PTP_DOM_STS_source.nth k) 0 (c == k + 1)).force = y.force := by
        intro y k q; split <;> rfl
      unfold b
      simp only [Mach.each, List.foldl_cons, List.foldl_nil]
      refine ⟨?_, ?_, ?_, fun f i hf => ?_⟩
      · split <;> split <;> rfl
      · split <;> split <;> rfl
      · split <;> split <;> rfl
      · simp only [Bool.and_eq_true] at hf
        have e1 : Fd.clear (PTP_DOM_STS_source.nth 0) f = true := hf.1.1.1
        have e2 : Fd.clear (PTP_DOM_OFS_ns.nth 0) f = true := hf.1.2
        split <;> split <;> simp only [fld_set_clear _ _ _ _ _ _ e2, fld_flag_clear _ _ _ _ _ _ e1, fld_set_clear _ _ _ _ _ _ hf.2, fld_flag_clear _ _ _ _ _ _ hf.1.1.2]
    clear_value b
    obtain ⟨d, hd, hv⟩ : ∃ d : Mach, (d.force = b.force ∧ (∀ u, u ≠ .slewDone → d.deadline u = b.deadline u) ∧ (c ≠ 0 → d.time = b.time)
        ∧ (∀ (f : Fd) i, Fd.clear TIME_RATE_rate f = true → d.fld f i = b.fld f i)) ∧ d.freeRate.event 0x05 5 = v := by
      by_cases hc0 : c = 0
      · rw [if_pos hc0] at hv
        refine ⟨_, ⟨?_, fun u hu => ?_, fun h => absurd hc0 h, fun f i hf => ?_⟩, hv⟩
        · dsimp only
          cases lastRate (b.lockStretch (b.fld TIME_QUAL_state == 2)).time <;> rfl
        · refine (deadline_disarm_other _ hu).trans ?_
          cases lastRate (b.lockStretch (b.fld TIME_QUAL_state == 2)).time <;> rfl
        · show (Mach.setFld _ TIME_RATE_rate 0 _).fld f i = _
          rw [fld_set_clear _ _ _ _ _ _ hf]
          cases lastRate (b.lockStretch (b.fld TIME_QUAL_state == 2)).time <;> exact fld_of_regs rfl _ _
      · rw [if_neg hc0] at hv
        exact ⟨b, ⟨rfl, fun _ _ => rfl, fun _ => rfl, fun _ _ _ => rfl⟩, hv⟩
    subst hv
    obtain ⟨f1, f2, f3, f4⟩ := freeRate_facts d
    have hall : ∀ (f : Fd) i, (Fd.noEvt 5 f && Fd.clear TIME_QUAL_ext10m_used f && Fd.clear TIME_RATE_rate f
        && Fd.clear PTP_DOM_STS_source f && Fd.clear (PTP_DOM_STS_source.nth 1) f && Fd.clear PTP_DOM_OFS_ns f && Fd.clear (PTP_DOM_OFS_ns.nth 1) f) = true →
        (d.freeRate.event 0x05 5).fld f i = a.fld f i := by
      intro f i hf
      simp only [Bool.and_eq_true] at hf
      rw [fld_event _ _ _ _ _ _ hf.1.1.1.1.1.1, f4 f i (by simp [hf]), hd.2.2.2 f i (by simp [hf]), hb.2.2.2 f i (by simp [hf])]
    refine ⟨?_, fun _ => ⟨evt_event _ _ _ _ rfl, ?_⟩, ?_, ?_, ?_, ?_, ?_⟩
    · rw [hall _ _ rfl]; exact ha.1
    · rw [hall _ _ rfl]; exact ha.2.1
    · rw [Mach.event_force _ _ _ _ (by decide), f1, hd.1, hb.1, ha.2.2.1]
    · intro u hu
      have e1 : (d.freeRate.event 0x05 5).deadline u = d.deadline u := by
        unfold Mach.deadline; rw [Mach.event_timers _ _ _ _ (by decide), f3]
      rw [e1, hd.2.1 u hu]
      unfold Mach.deadline
      rw [hb.2.1, ha.2.2.2.1]
    · intro f i hf
      simp only [Bool.and_eq_true] at hf
      rw [hall f i (by simp [hf]), ha.2.2.2.2.2 f i (by simp [hf])]
    · intro h
      rw [Mach.event_time _ _ _ _ (by decide), f2, hd.2.2.1 h, hb.2.2.1, ha.2.2.2.2.1]
    · intro k hk h
      refine evt_event_or _ _ _ _ _ (by simp [hk]) ?_
      unfold Mach.evt at *
      rw [f4 _ _ rfl, hd.2.2.2 _ _ rfl, hb.2.2.2 _ _ rfl, ha.2.2.2.2.2 _ _ rfl]; exact h

theorem measure_own (m : Mach) (c : Nat) (off : Int) (hs : m.fld TIME_QUAL_source = c) (hq : srcQualified m c = true) :
    ∃ y : Mach, y = m.setFld TIME_OFFSET_ns 0 (toWidth 32 (sat31 (measuredOffset m c off))) ∧ m.measure c off = y.applyOffset (measuredOffset m c off) := by
  refine ⟨_, rfl, ?_⟩
  generalize hv : m.measure c off = v
  unfold Mach.measure at hv
  extract_lets -underBinder -merge -useContext +onlyGivenNames o y pri sec z at hv
  have hyf : y.force = m.force := rfl
  have hyq : ∀ k, srcQualified y k = srcQualified m k := by
    intro k
    unfold srcQualified Mach.flag
    split
    · rw [show y.fld PTP_DOM_STS_qualified = _ from fld_set_clear m TIME_OFFSET_ns PTP_DOM_STS_qualified 0 0 _ rfl]
    · rw [show y.fld (PTP_DOM_STS_qualified.nth 1) = _ from fld_set_clear m TIME_OFFSET_ns (PTP_DOM_STS_qualified.nth 1) 0 0 _ rfl]
    · rw [show y.fld TIME_QUAL_irig_qual = _ from fld_set_clear m TIME_OFFSET_ns TIME_QUAL_irig_qual 0 0 _ rfl]
    · rfl
  have hys : y.fld TIME_QUAL_source = c := (fld_set_clear m TIME_OFFSET_ns TIME_QUAL_source 0 0 _ rfl).trans hs
  have hz : z = y := by
    unfold z
    split
    · unfold Mach.follow
      rw [if_pos hys]
    · rfl
  rw [hz, hys, hyq, hq] at hv
  simp only [if_true] at hv
  exact hv.symm

theorem applied_own (y : Mach) (off : Int) (hd : y.time.discard = false) : ∃ (z : Mach) (r : Int),
    z.regs = y.regs ∧ z.force = y.force
      ∧ z.time = { (if y.fld TIME_QUAL_state = 2 then y.lockStretch true else y).time with rate := r, applied := some y.now, goodRun := if decide (off.natAbs ≤ y.cfg TIME_LOCK_thr) then y.time.goodRun + 1 else 0, badRun := if decide (off.natAbs ≤ y.cfg TIME_LOCK_thr) then 0 else y.time.badRun + 1 }
      ∧ z.now = y.now
      ∧ y.applyOffset off = (if y.cfg TIME_STEP_thr * 1000 < off.natAbs ∧ y.on TIME_CTRL_step_en = true then (z.stepEpoch off).showRate r
          else z.slew off).evalTime (some off) := by
  refine ⟨{ y with free := y.free + 1, time := { (if y.fld TIME_QUAL_state = 2 then y.lockStretch true else y).time with rate := Config.freeInt y.free, applied := some y.now, goodRun := if decide (off.natAbs ≤ y.cfg TIME_LOCK_thr) then y.time.goodRun + 1 else 0, badRun := if decide (off.natAbs ≤ y.cfg TIME_LOCK_thr) then 0 else y.time.badRun + 1 } }, Config.freeInt y.free, rfl, rfl, rfl, rfl, ?_⟩
  unfold Mach.applyOffset
  rw [hd]
  dsimp only
  rw [show (y.drawInt).2.fld TIME_QUAL_state = y.fld TIME_QUAL_state from rfl]
  by_cases h2 : y.fld TIME_QUAL_state = 2
  · rw [if_pos h2, if_pos h2]; rfl
  · rw [if_neg h2, if_neg h2]; rfl

theorem slew_facts (z : Mach) (off : Int) :
    (∀ (f : Fd) i, Fd.clear TIME_RATE_rate f = true → (z.slew off).fld f i = z.fld f i)
      ∧ (z.slew off).time = { z.time with slewLeft := off }
      ∧ (off ≠ 0 → (z.slew off).deadline .slewDone = some (z.now + off.natAbs * 1000000 / z.cfg TIME_LOCK_slew))
      ∧ (z.slew off).force = z.force := by
  generalize hv : z.slew off = v
  unfold Mach.slew at hv
  extract_lets -underBinder -merge -useContext +onlyGivenNames ppm y at hv
  by_cases h0 : off = 0
  · rw [if_pos h0] at hv
    subst hv
    refine ⟨fun f i hf => ?_, rfl, fun h => absurd h0 h, rfl⟩
    unfold Mach.showRate
    rw [fld_set_clear _ _ _ _ _ _ hf]
    exact fld_of_regs rfl _ _
  · rw [if_neg h0] at hv
    subst hv
    refine ⟨fun f i hf => ?_, rfl, fun _ => ?_, rfl⟩
    · unfold Mach.showRate
      rw [fld_set_clear _ _ _ _ _ _ hf]
      exact fld_of_regs rfl _ _
    · exact deadline_arm_same _ _ _

theorem stepEpoch_facts (z : Mach) (off : Int) :
    (∀ (f : Fd) i, (Fd.clear TIME_STEP_CNT_n f && Fd.noEvt 5 f && decide (f.page = 5)) = true → (z.stepEpoch off).fld f i = z.fld f i)
      ∧ (z.stepEpoch off).time = { z.time with epoch := z.time.epoch - off, discard := true, slewLeft := 0 }
      ∧ (z.stepEpoch off).evt 5 4 = true
      ∧ (z.stepEpoch off).fld TIME_STEP_CNT_n = (z.fld TIME_STEP_CNT_n + 1) % 2 ^ 32 := by
  generalize hv : z.stepEpoch off = v
  unfold Mach.stepEpoch at hv
  extract_lets -underBinder -merge -useContext +onlyGivenNames old y new a b at hv
  have hy : ∀ (f : Fd) i, y.fld f i = z.fld f i := fun f i => fld_of_regs rfl f i
  have hyt : y.time = { z.time with epoch := z.time.epoch - off, discard := true, slewLeft := 0 } := rfl
  clear_value y
  have hat : a.time = y.time := rfl
  have haf : ∀ (f : Fd) i, Fd.clear TIME_STEP_CNT_n f = true → a.fld f i = y.fld f i := fun f i hf => fld_count_clear _ _ _ _ _ _ hf
  have hac : a.fld TIME_STEP_CNT_n = (y.fld TIME_STEP_CNT_n + 1) % 2 ^ 32 := fld_count _ _ _ _ rfl
  clear_value a
  have hb : a.touch 0x3008 0 b := touch_of_within (record_within _ _ _ _ _ _)
  clear_value b
  have hs := Mach.sviEpoch_touch (b.event 0x05 4)
  have hn := Mach.nrgEpoch_touch (b.event 0x05 4).sviEpoch
  subst hv
  have hfld : ∀ (f : Fd) i, (Fd.noEvt 5 f && decide (f.page = 5)) = true → ((b.event 0x05 4).sviEpoch).nrgEpoch.fld f i = a.fld f i := by
    intro f i hf
    simp only [Bool.and_eq_true, decide_eq_true_eq] at hf
    have h5 := hf.1
    have hoff : f.off < 4096 := by
      simp only [Fd.noEvt, Fd.fit, Bool.and_eq_true, decide_eq_true_eq] at h5
      exact h5.1.1.1.2
    rw [fld_touch hn f i (by simp [hf.2, hoff]), fld_touch hs f i (by simp [hf.2, hoff]; decide), fld_event _ _ _ _ _ _ hf.1, fld_touch hb f i (by simp [hf.2, hoff])]
  refine ⟨fun f i hf => ?_, ?_, ?_, ?_⟩
  · simp only [Bool.and_eq_true] at hf
    rw [hfld f i (by simp [hf.1.2, hf.2]), haf f i hf.1.1, hy]
  · rw [time_of_touch hn rfl, time_of_touch hs rfl, Mach.event_time _ _ _ _ (by decide), time_of_touch hb rfl, hat, hyt]
  · rw [evt_touch hn 5 4 rfl, evt_touch hs 5 4 rfl]
    exact evt_event _ _ _ _ rfl
  · rw [hfld _ _ rfl, hac, hy]

theorem selectSource_facts (m : Mach) :
    m.selectSource.force = m.force
      ∧ (∀ u, u ≠ .slewDone → u ≠ .primaryReturn → m.selectSource.deadline u = m.deadline u)
      ∧ (∀ (f : Fd) i, (Fd.clear TIME_QUAL_source f && Fd.clear TIME_SRC_CHG_n f && Fd.noEvt 5 f && Fd.clear TIME_QUAL_ext10m_used f && Fd.clear TIME_RATE_rate f
        && Fd.clear PTP_DOM_STS_source f && Fd.clear (PTP_DOM_STS_source.nth 1) f && Fd.clear PTP_DOM_OFS_ns f && Fd.clear (PTP_DOM_OFS_ns.nth 1) f) = true →
        m.selectSource.fld f i = m.fld f i)
      ∧ (∀ b, b < 32 → m.evt 5 b = true → m.selectSource.evt 5 b = true) := by
  generalize hv : m.selectSource = v
  unfold Mach.selectSource at hv
  extract_lets -underBinder -merge -useContext +onlyGivenNames pri sec cur qs back y at hv
  have hy : y.force = m.force ∧ (∀ u, u ≠ .primaryReturn → y.deadline u = m.deadline u) ∧ (∀ (f : Fd) i, y.fld f i = m.fld f i) :=
    ⟨rfl, fun u hu => deadline_disarm_other _ hu, fun f i => fld_of_regs rfl f i⟩
  clear_value y
  have hpri : pri < 8 := cfg_lt m TIME_CTRL_src_pri 0
  have hf : ∀ c, c < 8 → y.follow c = v → v.force = m.force
      ∧ (∀ u, u ≠ .slewDone → u ≠ .primaryReturn → v.deadline u = m.deadline u)
      ∧ (∀ (f : Fd) i, (Fd.clear TIME_QUAL_source f && Fd.clear TIME_SRC_CHG_n f && Fd.noEvt 5 f && Fd.clear TIME_QUAL_ext10m_used f && Fd.clear TIME_RATE_rate f
        && Fd.clear PTP_DOM_STS_source f && Fd.clear (PTP_DOM_STS_source.nth 1) f && Fd.clear PTP_DOM_OFS_ns f && Fd.clear (PTP_DOM_OFS_ns.nth 1) f) = true → v.fld f i = m.fld f i)
      ∧ (∀ b, b < 32 → m.evt 5 b = true → v.evt 5 b = true) := by
    intro c hc he
    obtain ⟨_, _, h3, h4, h5, _, h7⟩ := follow_facts y c hc
    rw [he] at h3 h4 h5 h7
    refine ⟨h3.trans hy.1, fun u h1 h2 => (h4 u h1).trans (hy.2.1 u h2), fun f i hfi => (h5 f i hfi).trans (hy.2.2 f i), fun b hb h => h7 b hb ?_⟩
    unfold Mach.evt at *
    rw [hy.2.2]; exact h
  split at hv
  · split at hv
    · exact hf _ hpri hv
    · subst hv
      refine ⟨hy.1, fun u h1 h2 => (deadline_arm_other _ _ h2).trans (hy.2.1 u h2), fun f i _ => (fld_of_regs rfl f i).trans (hy.2.2 f i), fun b hb h => ?_⟩
      unfold Mach.evt at *
      rw [show (y.arm _ _).fld (hEvt 5) = y.fld (hEvt 5) from fld_of_regs rfl _ _, hy.2.2]; exact h
  · split at hv
    · subst hv
      refine ⟨hy.1, fun u h1 h2 => hy.2.1 u h2, fun f i _ => hy.2.2 f i, fun b hb h => ?_⟩
      unfold Mach.evt at *
      rw [hy.2.2]; exact h
    · exact hf 0 (by decide) hv

/-- The inputs of the time block: what a choice of source leaves. -/
abbrev timeInputs (b : TimeBlk) := (b.ppsLast, b.ppsRun, b.irigLast, b.irigRun, b.irigRej, b.gates, b.epoch, b.pulsed, b.ppsAt)

theorem timeInputs_core {a b : TimeBlk} (h : timeCore a = timeCore b) : timeInputs a = timeInputs b := by
  have h1 := congrArg TimeBlk.ppsLast h; have h2 := congrArg TimeBlk.ppsRun h; have h3 := congrArg TimeBlk.irigLast h
  have h4 := congrArg TimeBlk.irigRun h; have h5 := congrArg TimeBlk.irigRej h; have h6 := congrArg TimeBlk.gates h
  have h7 := congrArg TimeBlk.epoch h; have h8 := congrArg TimeBlk.pulsed h; have h9 := congrArg TimeBlk.ppsAt h
  dsimp only [timeCore] at h1 h2 h3 h4 h5 h6 h7 h8 h9
  unfold timeInputs
  rw [h1, h2, h3, h4, h5, h6, h7, h8, h9]

theorem follow_inputs (m : Mach) (c : Nat) : timeInputs (m.follow c).time = timeInputs m.time := by
  generalize hv : m.follow c = v
  unfold Mach.follow at hv
  by_cases h0 : m.fld TIME_QUAL_source = c
  · rw [if_pos h0] at hv
    rw [hv]
  · rw [if_neg h0] at hv
    extract_lets -underBinder -merge -useContext +onlyGivenNames a b at hv
    have hb : b.time = m.time := by
      unfold b
      simp only [Mach.each, List.foldl_cons, List.foldl_nil]
      split <;> split <;> rfl
    clear_value b
    obtain ⟨d, hd, hv⟩ : ∃ d : Mach, timeInputs d.time = timeInputs b.time ∧ d.freeRate.event 0x05 5 = v := by
      by_cases hc0 : c = 0
      · rw [if_pos hc0] at hv
        refine ⟨_, ?_, hv⟩
        dsimp only
        cases lastRate (b.lockStretch (b.fld TIME_QUAL_state == 2)).time <;> rfl
      · rw [if_neg hc0] at hv
        exact ⟨b, rfl, hv⟩
    rw [← hv, Mach.event_time _ _ _ _ (by decide), (freeRate_facts d).2.1, hd, hb]

theorem selectSource_inputs (m : Mach) : timeInputs m.selectSource.time = timeInputs m.time := by
  unfold Mach.selectSource
  dsimp only
  split
  · split
    · exact follow_inputs _ _
    · rfl
  · split
    · rfl
    · exact follow_inputs _ _

/-- The field that says a source qualified. -/
abbrev qualFd (c : Nat) : Fd := match c with
  | 1 => PTP_DOM_STS_qualified
  | 2 => PTP_DOM_STS_qualified.nth 1
  | _ => TIME_QUAL_irig_qual

theorem setQualified_facts (m : Mach) (c : Nat) (hc : c = 1 ∨ c = 2 ∨ c = 3) (q : Bool) :
    (m.setQualified c q).flag (qualFd c) = q ∧ timeInputs (m.setQualified c q).time = timeInputs m.time
      ∧ (∀ (f : Fd) i, (Fd.clear TIME_QUAL_irig_qual f && Fd.clear PTP_DOM_STS_qualified f && Fd.clear (PTP_DOM_STS_qualified.nth 1) f && Fd.clear TIME_QUAL_source f && Fd.clear TIME_SRC_CHG_n f && Fd.noEvt 5 f && Fd.clear TIME_QUAL_ext10m_used f && Fd.clear TIME_RATE_rate f
        && Fd.clear PTP_DOM_STS_source f && Fd.clear (PTP_DOM_STS_source.nth 1) f && Fd.clear PTP_DOM_OFS_ns f && Fd.clear (PTP_DOM_OFS_ns.nth 1) f) = true →
        (m.setQualified c q).fld f i = m.fld f i)
      ∧ (∀ b, b < 32 → m.evt 5 b = true → (m.setQualified c q).evt 5 b = true)
      ∧ (∀ u, u ≠ .slewDone → u ≠ .primaryReturn → (m.setQualified c q).deadline u = m.deadline u) := by
  have hsq : ∀ y : Mach, srcQualified y c = y.flag (qualFd c) := by
    intro y
    rcases hc with rfl | rfl | rfl <;> rfl
  have hfit : Fd.fit (qualFd c) = true := by rcases hc with rfl | rfl | rfl <;> rfl
  generalize hv : m.setQualified c q = v
  unfold Mach.setQualified at hv
  by_cases h0 : srcQualified m c = q
  · rw [if_pos h0] at hv
    subst hv
    exact ⟨(hsq m).symm.trans h0, rfl, fun _ _ _ => rfl, fun _ _ h => h, fun _ _ _ => rfl⟩
  · rw [if_neg h0] at hv
    extract_lets -underBinder -merge -useContext +onlyGivenNames a b at hv
    have ha : a = m.setFlag (qualFd c) 0 q := by
      unfold a
      rcases hc with rfl | rfl | rfl <;> rfl
    clear_value a
    subst ha
    have hb : (∀ (f : Fd) i, b.fld f i = (m.setFlag (qualFd c) 0 q).fld f i) ∧ timeInputs b.time = timeInputs m.time ∧ b.timers = m.timers := by
      unfold b
      split
      · exact ⟨fun f i => fld_of_regs rfl f i, rfl, rfl⟩
      · exact ⟨fun _ _ => rfl, rfl, rfl⟩
    clear_value b
    obtain ⟨s1, s2, s3, s4⟩ := selectSource_facts b
    rw [hv] at s1 s2 s3 s4
    have hcl : ∀ g : Fd, (Fd.clear TIME_QUAL_irig_qual g && Fd.clear PTP_DOM_STS_qualified g && Fd.clear (PTP_DOM_STS_qualified.nth 1) g) = true → Fd.clear (qualFd c) g = true := by
      intro g hg
      simp only [Bool.and_eq_true] at hg
      rcases hc with rfl | rfl | rfl
      · exact hg.1.2
      · exact hg.2
      · exact hg.1.1
    refine ⟨?_, hv ▸ (selectSource_inputs b).trans hb.2.1, fun f i hf => ?_, fun k hk h => ?_, fun u h1 h2 => ?_⟩
    · have hs := flag_set m (qualFd c) 0 q hfit
      unfold Mach.flag at hs ⊢
      rw [s3 _ _ (by rcases hc with rfl | rfl | rfl <;> rfl), hb.1]
      exact hs
    · simp only [Bool.and_eq_true] at hf
      rw [s3 f i (by simp [hf]), hb.1, fld_flag_clear _ _ _ _ _ _ (hcl f (by simp [hf]))]
    · refine s4 k hk ?_
      unfold Mach.evt at *
      rw [hb.1, fld_flag_clear _ _ _ _ _ _ (hcl _ rfl)]; exact h
    · rw [s2 u h1 h2]
      unfold Mach.deadline
      rw [hb.2.2]

theorem lose10m_facts (m : Mach) (h : m.flag TIME_QUAL_in10m_qual = true) : m.lose10m.flag TIME_QUAL_in10m_qual = false ∧ m.lose10m.time.gates = 0
    ∧ m.lose10m.evt 0x05 8 = true ∧ m.lose10m.fld TIME_10M_LOSS_n = (m.fld TIME_10M_LOSS_n + 1) % 2 ^ 32 := by
  generalize hv : m.lose10m = v
  unfold Mach.lose10m at hv
  extract_lets -underBinder -merge -useContext +onlyGivenNames y at hv
  have hy : (∀ (f : Fd) i, y.fld f i = m.fld f i) ∧ y.time.gates = 0 := ⟨fun f i => fld_of_regs rfl f i, rfl⟩
  clear_value y
  have hq : y.flag TIME_QUAL_in10m_qual = true := by unfold Mach.flag at *; rw [hy.1]; exact h
  rw [if_pos hq] at hv
  obtain ⟨f1, f2, f3, f4⟩ := freeRate_facts (((y.setFlag TIME_QUAL_in10m_qual 0 false).count TIME_10M_LOSS_n).event 0x05 8)
  rw [hv] at f1 f2 f3 f4
  refine ⟨?_, ?_, ?_, ?_⟩
  · unfold Mach.flag
    rw [f4 _ _ rfl, fld_event _ _ _ _ _ _ rfl, fld_count_clear _ _ _ _ _ _ rfl]
    exact flag_set _ _ _ _ rfl
  · rw [f2, Mach.event_time _ _ _ _ (by decide)]
    exact hy.2
  · unfold Mach.evt
    rw [f4 _ _ rfl]
    exact evt_event _ _ _ _ rfl
  · rw [f4 _ _ rfl, fld_event _ _ _ _ _ _ rfl, fld_count _ _ _ _ rfl, fld_flag_clear _ _ _ _ _ _ rfl, hy.1]
    rfl

theorem ppsRise_shows (m : Mach) (k : Int) (ha : ppsAllowed m = true)
    (hat : m.station + asSigned 16 (m.cfg TIME_PPS_OUT_DLY_dly) = 1000000000 * k) (hs : wasPulsed m.time.pulsed k = false)
    (hsoon : ∀ a, m.time.ppsAt = some a → a + 500000000 ≤ m.now) :
    m.ppsRise = ((m.onTime fun b => { b with ppsOut := true, pulsed := addPulse b.pulsed k, ppsAt := some m.now }).arm .ppsWidth
      (m.now + m.cfg TIME_PPS_out_width * 1000000)).emit (.pps true) := by
  generalize hv : m.ppsRise = v
  unfold Mach.ppsRise at hv
  extract_lets -underBinder -merge -useContext +onlyGivenNames at_ soon at hv
  have h1 : at_ % 1000000000 < 4 := by unfold at_; rw [hat]; simp
  have h2 : at_ / 1000000000 = k := by unfold at_; rw [hat]; simp
  have h3 : soon = false := by
    unfold soon
    split
    · rename_i a he
      have := hsoon a he
      simp; omega
    · rfl
  clear_value at_ soon
  rw [h3, h2, if_pos (by simp [ha, h1, hs])] at hv
  exact hv.symm

theorem secondEnds_keep (l : List Nat) (sec : Mach → Int) : ∀ m : Mach, m.touch 0x40000008 0x4000 (m.each l fun p m => m.secondEnd p (sec m)) := by
  induction l with
  | nil => exact fun m => touch_refl _ _ _
  | cons p l ih => exact fun m => touch_trans (Mach.secondEnd_touch m p (sec m)) (ih _)

theorem ptpDom_on (m : Mach) (d : Nat) (f : PtpDom → PtpDom) : ptpDom (m.onDom d f) d = f (ptpDom m d) := by
  unfold ptpDom Mach.onDom
  dsimp only
  split
  · rfl
  · rfl

theorem ptpDom_of_ptp {a b : Mach} (h : a.ptp = b.ptp) (d : Nat) : ptpDom a d = ptpDom b d := by unfold ptpDom; rw [h]

theorem each_inv {α : Type} (P : Mach → Prop) (l : List α) (f : α → Mach → Mach) (m : Mach) (h : ∀ a y, P y → P (f a y)) (hm : P m) : P (m.each l f) := by
  induction l generalizing m with
  | nil => exact hm
  | cons a l ih => exact ih _ (h a m hm)

theorem each_has {α : Type} (l : List α) (f : α → Mach → Mach) (Q : α → Out → Prop) (h : ∀ a y, ∃ o ∈ (f a y).outs, Q a o)
    (hk : ∀ a y o, o ∈ y.outs → o ∈ (f a y).outs) : ∀ (m : Mach), ∀ a ∈ l, ∃ o ∈ (m.each l f).outs, Q a o := by
  induction l with
  | nil => exact fun m a ha => absurd ha (by simp)
  | cons b l ih =>
    intro m a ha
    rcases List.mem_cons.mp ha with rfl | ha
    · obtain ⟨o, ho, hq⟩ := h a m
      refine ⟨o, ?_, hq⟩
      exact each_inv (fun y => o ∈ y.outs) l f (f a m) (fun c y hy => hk c y o hy) ho
    · exact ih (f b m) a ha

/-- Page 6 fields that a choice of master or of source leaves. -/
abbrev ptpApart (f : Fd) : Bool :=
  Fd.clear PTP_DOM_STS_slave_port f && Fd.clear (PTP_DOM_STS_slave_port.nth 1) f && Fd.clear PTP_DOM_STS_gm_class f && Fd.clear (PTP_DOM_STS_gm_class.nth 1) f
    && Fd.clear (PTP_DOM_GM_w.nth 0) f && Fd.clear (PTP_DOM_GM_w.nth 1) f && Fd.clear (PTP_DOM_GM_w.nth 2) f && Fd.clear (PTP_DOM_GM_w.nth 3) f
    && Fd.clear PTP_PSTS_state0 f && Fd.clear PTP_PSTS_state1 f && Fd.clear TIME_QUAL_irig_qual f && Fd.clear PTP_DOM_STS_qualified f
    && Fd.clear (PTP_DOM_STS_qualified.nth 1) f && Fd.clear TIME_QUAL_source f && Fd.clear TIME_SRC_CHG_n f && Fd.noEvt 5 f
    && Fd.clear TIME_QUAL_ext10m_used f && Fd.clear TIME_RATE_rate f && Fd.clear PTP_DOM_STS_source f && Fd.clear (PTP_DOM_STS_source.nth 1) f
    && Fd.clear PTP_DOM_OFS_ns f && Fd.clear (PTP_DOM_OFS_ns.nth 1) f && Fd.clear TIME_QUAL_state f

theorem showMaster_facts (m : Mach) (d : Nat) (hd : d < 2) (sel : Option Foreign) : (m.showMaster d sel).ptp = m.ptp
    ∧ ∀ (f : Fd) i, ptpApart f = true → (m.showMaster d sel).fld f i = m.fld f i := by
  refine ⟨rfl, fun f i hf => ?_⟩
  simp only [ptpApart, Bool.and_eq_true] at hf
  unfold Mach.showMaster
  dsimp only
  have h2 : d = 0 ∨ d = 1 := by omega
  rcases h2 with rfl | rfl
  · have e1 : Fd.clear (PTP_DOM_STS_gm_class.nth 0) f = Fd.clear PTP_DOM_STS_gm_class f := rfl
    have e2 : Fd.clear (PTP_DOM_STS_slave_port.nth 0) f = Fd.clear PTP_DOM_STS_slave_port f := rfl
    rw [fld_set_clear _ (PTP_DOM_GM_w.nth 1) f _ _ _ (by simp only [hf]), fld_set_clear _ (PTP_DOM_GM_w.nth 0) f _ _ _ (by simp only [hf]),
      fld_set_clear _ (PTP_DOM_STS_gm_class.nth 0) f _ _ _ (by rw [e1]; simp only [hf]),
      fld_set_clear _ (PTP_DOM_STS_slave_port.nth 0) f _ _ _ (by rw [e2]; simp only [hf])]
  · rw [fld_set_clear _ (PTP_DOM_GM_w.nth 3) f _ _ _ (by simp only [hf]), fld_set_clear _ (PTP_DOM_GM_w.nth 2) f _ _ _ (by simp only [hf]),
      fld_set_clear _ (PTP_DOM_STS_gm_class.nth 1) f _ _ _ (by simp only [hf]), fld_set_clear _ (PTP_DOM_STS_slave_port.nth 1) f _ _ _ (by simp only [hf])]

theorem portState_foreign (m : Mach) (d steps p st : Nat) : (ptpDom (m.portState d steps p st) d).foreign = (ptpDom m d).foreign := by
  unfold Mach.portState
  split
  · rfl
  · dsimp only
    rw [ptpDom_on]
    show (ptpDom (m.setFld (portStateFd d) p st) d).foreign = _
    exact congrArg PtpDom.foreign (ptpDom_of_ptp (a := m.setFld (portStateFd d) p st) (b := m) rfl d)

theorem portState_apart (m : Mach) (d steps p st : Nat) (f : Fd) (i : Nat) (hf : ptpApart f = true) : (m.portState d steps p st).fld f i = m.fld f i := by
  unfold Mach.portState
  split
  · rfl
  · refine (fld_of_regs rfl f i).trans (fld_set_clear _ _ _ _ _ _ ?_)
    simp only [ptpApart, Bool.and_eq_true] at hf
    unfold portStateFd
    split <;> simp only [hf]

theorem bmca_facts (m : Mach) (d : Nat) (hd : d < 2) : (ptpDom (m.bmca d) d).foreign = (ptpDom m d).foreign
    ∧ (∀ (f : Fd) i, (ptpApart f && Fd.noEvt 6 f) = true → (m.bmca d).fld f i = m.fld f i)
    ∧ (∀ c, c < 32 → m.evt 6 c = true → (m.bmca d).evt 6 c = true) := by
  generalize hv : m.bmca d = v
  unfold Mach.bmca at hv
  extract_lets -underBinder -merge -useContext +onlyGivenNames sel states steps a b who c at hv
  have ha : (ptpDom a d).foreign = (ptpDom m d).foreign ∧ ∀ (f : Fd) i, ptpApart f = true → a.fld f i = m.fld f i := by
    unfold a
    refine ⟨each_keep (fun k : Mach => (ptpDom k d).foreign) _ _ _ (fun e y => portState_foreign y d steps e.1 e.2), fun f i hf => ?_⟩
    exact each_keep (fun k : Mach => k.fld f i) states (fun e m => m.portState d steps e.1 e.2) m (fun e y => portState_apart y d steps e.1 e.2 f i hf)
  clear_value a
  have hb : (ptpDom b d).foreign = (ptpDom m d).foreign ∧ ∀ (f : Fd) i, ptpApart f = true → b.fld f i = m.fld f i := by
    obtain ⟨h1, h2⟩ := showMaster_facts a d hd sel
    exact ⟨(congrArg PtpDom.foreign (ptpDom_of_ptp h1 d)).trans ha.1, fun f i hf => (h2 f i hf).trans (ha.2 f i hf)⟩
  clear_value b
  have hbe : ∀ c, m.evt 6 c = true → b.evt 6 c = true := by
    intro c h
    unfold Mach.evt at *
    rw [hb.2 _ _ rfl]; exact h
  by_cases h0 : (ptpDom b d).master = who
  · rw [if_pos h0] at hv
    subst hv
    refine ⟨hb.1, fun f i hf => ?_, fun c _ h => hbe c h⟩
    rw [Bool.and_eq_true] at hf
    exact hb.2 f i hf.1
  · rw [if_neg h0] at hv
    have hc : (ptpDom c d).foreign = (ptpDom m d).foreign ∧ (∀ (f : Fd) i, (ptpApart f && Fd.noEvt 6 f) = true → c.fld f i = m.fld f i)
        ∧ (∀ k, k < 32 → m.evt 6 k = true → c.evt 6 k = true) := by
      unfold c
      refine ⟨?_, fun f i hf => ?_, fun k hk h => ?_⟩
      · rw [ptpDom_of_ptp (b := b.onDom d fun b => { b with master := who }) (Mach.event_ptp _ _ _ _ (by decide)), ptpDom_on]
        exact hb.1
      · rw [Bool.and_eq_true] at hf
        rw [fld_event _ _ _ _ _ _ hf.2]
        exact (fld_of_regs rfl f i).trans (hb.2 f i hf.1)
      · refine evt_event_or _ _ _ _ _ (by simp [hk]) ?_
        have := hbe k h
        unfold Mach.evt at *
        exact (congrArg (bit · k) (fld_of_regs rfl (hEvt 6) 0)).trans this
    clear_value c
    clear_value sel
    split at hv
    · subst hv
      refine ⟨hc.1, fun f i hf => (fld_of_regs rfl f i).trans (hc.2.1 f i hf), fun k hk h => ?_⟩
      have := hc.2.2 k hk h
      unfold Mach.evt at *
      exact (congrArg (bit · k) (fld_of_regs rfl (hEvt 6) 0)).trans this
    · have ht := Mach.setQualified_touch ((c.disarm (.announce d)).disarm (.syncLoss d)) (d + 1) false
      obtain ⟨_, _, q3, _, _⟩ := setQualified_facts ((c.disarm (.announce d)).disarm (.syncLoss d)) (d + 1) (by omega) false
      rw [hv] at ht q3
      have hf6 : ∀ (f : Fd) i, ptpApart f = true → v.fld f i = c.fld f i := by
        intro f i hf
        simp only [ptpApart, Bool.and_eq_true] at hf
        rw [q3 f i (by simp [hf])]
        exact fld_of_regs rfl f i
      refine ⟨?_, fun f i hf => ?_, fun k hk h => ?_⟩
      · rw [ptpDom_of_ptp (ptp_of_touch ht rfl)]; exact hc.1
      · rw [hf6 f i (by rw [Bool.and_eq_true] at hf; exact hf.1)]; exact hc.2.1 f i hf
      · have := hc.2.2 k hk h
        unfold Mach.evt at *
        rw [hf6 _ _ rfl]; exact this

/-- Page 0x31 fields that a change of the twin's state leaves. -/
abbrev twnApart (f : Fd) : Bool := Fd.clear TWN_STS_state f && Fd.clear TWN_CNT_n f && Fd.clear TWN_LEAD_SINCE_LO_w f
    && Fd.clear TWN_LEAD_SINCE_HI_w f && Fd.clear TWN_STS_in_step f && Fd.noEvt 0x31 f && decide (f.page = 0x31) && decide (f.off < 4096)

/-- Shown of a module that entered a state of the twin. -/
def Mach.inTwn (m : Mach) (st : Nat) (x : Mach) : Prop := twnState x = st ∧ x.evt 0x31 0 = true ∧ x.fld TWN_CNT_n = (m.fld TWN_CNT_n + 1) % 2 ^ 32
  ∧ (∀ c, c < 32 → m.evt 0x31 c = true → x.evt 0x31 c = true) ∧ ∀ (f : Fd) i, twnApart f = true → x.fld f i = m.fld f i

theorem fld_page31 {A P : Nat} {m m' : Mach} (h : m.touch A P m') (hP : P.testBit 0x31 = false) (f : Fd) (i : Nat) (hp : f.page = 0x31) (ho : f.off < 4096) :
    m'.fld f i = m.fld f i := by
  refine fld_touch h f i ?_
  simp [hp, ho, hP]

theorem enterTwn_facts (m : Mach) (st : Nat) (hst : st < 16) : twnState (m.enterTwn st) = st
    ∧ (twnState m ≠ st → (m.enterTwn st).evt 0x31 0 = true ∧ (m.enterTwn st).fld TWN_CNT_n = (m.fld TWN_CNT_n + 1) % 2 ^ 32)
    ∧ (∀ c, c < 32 → m.evt 0x31 c = true → (m.enterTwn st).evt 0x31 c = true)
    ∧ ∀ (f : Fd) i, twnApart f = true → (m.enterTwn st).fld f i = m.fld f i := by
  by_cases h0 : twnState m = st
  · have e : m.enterTwn st = m := by unfold Mach.enterTwn; dsimp only; rw [if_pos h0]
    rw [e]
    exact ⟨h0, fun h => absurd h0 h, fun _ _ h => h, fun _ _ _ => rfl⟩
  · generalize hv : m.enterTwn st = v
    unfold Mach.enterTwn at hv
    extract_lets -underBinder -merge -useContext +onlyGivenNames old a b c d e g h k l at hv
    rw [if_neg h0] at hv
    clear_value old
    have ha : Mach.inTwn m st a := by
      unfold a Mach.stateRecord
      dsimp only
      generalize hx : (m.setFld TWN_STS_state 0 st).count TWN_CNT_n = x
      have hx1 : twnState x = st := by
        rw [← hx]
        show (((m.setFld TWN_STS_state 0 st).count TWN_CNT_n).fld TWN_STS_state) = st
        rw [fld_count_clear _ _ _ _ _ _ rfl, fld_set _ _ _ _ rfl]
        exact Nat.mod_eq_of_lt hst
      have hx2 : x.fld TWN_CNT_n = (m.fld TWN_CNT_n + 1) % 2 ^ 32 := by
        rw [← hx, fld_count _ _ _ _ rfl, fld_set_clear _ _ _ _ _ _ rfl]
        rfl
      have hx3 : ∀ (f : Fd) i, Fd.clear TWN_STS_state f = true → Fd.clear TWN_CNT_n f = true → x.fld f i = m.fld f i := by
        intro f i h1 h2
        rw [← hx, fld_count_clear _ _ _ _ _ _ h2, fld_set_clear _ _ _ _ _ _ h1]
      clear hx
      have ht := Mach.record_touch (x.event 0x31 0) 0x31 0x140 5 .module [word (old * 16 + st), word (latestPair x / 2 ^ 32), word (latestPair x)]
      refine ⟨?_, ?_, ?_, ?_, ?_⟩
      · show Mach.fld _ TWN_STS_state = st
        rw [fld_page31 ht (by decide) _ _ rfl (by decide), fld_event _ _ _ _ _ _ rfl]
        exact hx1
      · rw [evt_touch ht _ _ rfl]; exact evt_event _ _ _ _ rfl
      · rw [fld_page31 ht (by decide) _ _ rfl (by decide), fld_event _ _ _ _ _ _ rfl]
        exact hx2
      · intro c hc h
        rw [evt_touch ht _ _ rfl]
        refine evt_event_or _ _ _ _ _ (by simp [hc]) ?_
        unfold Mach.evt at *
        rw [hx3 _ _ rfl rfl]; exact h
      · intro f i hf
        simp only [twnApart, Bool.and_eq_true, decide_eq_true_eq] at hf
        rw [fld_page31 ht (by decide) _ _ hf.1.2 hf.2, fld_event _ _ _ _ _ _ hf.1.1.2]
        exact hx3 _ _ hf.1.1.1.1.1.1.1 hf.1.1.1.1.1.1.2
    clear_value a
    have step : ∀ x y : Mach, Mach.inTwn m st x →
        (∀ (f : Fd) i, (Fd.clear TWN_LEAD_SINCE_LO_w f && Fd.clear TWN_LEAD_SINCE_HI_w f && Fd.clear TWN_STS_in_step f && decide (f.page = 0x31) && decide (f.off < 4096)) = true → y.fld f i = x.fld f i) →
        Mach.inTwn m st y := by
      intro x y hx hy
      refine ⟨(hy TWN_STS_state 0 rfl).trans hx.1, ?_, (hy TWN_CNT_n 0 rfl).trans hx.2.2.1, ?_, ?_⟩
      · unfold Mach.evt at *; rw [hy _ _ rfl]; exact hx.2.1
      · intro c hc h
        have := hx.2.2.2.1 c hc h
        unfold Mach.evt at *; rw [hy _ _ rfl]; exact this
      · intro f i hf
        refine (hy f i ?_).trans (hx.2.2.2.2 f i hf)
        simp only [twnApart, Bool.and_eq_true] at hf
        simp only [hf, Bool.and_self]
    have page : ∀ {A P : Nat} (x y : Mach), x.touch A P y → P.testBit 0x31 = false → Mach.inTwn m st x →
        Mach.inTwn m st y := by
      intro A P x y ht hP hx
      refine step x y hx fun f i hf => ?_
      simp only [Bool.and_eq_true, decide_eq_true_eq] at hf
      exact fld_page31 ht hP f i hf.1.2 hf.2
    have regs : ∀ x y : Mach, y.regs = x.regs → Mach.inTwn m st x → Mach.inTwn m st y := fun x y hr hx => step x y hx fun f i _ => fld_of_regs hr f i
    have hb : Mach.inTwn m st b := by
      refine step a b ha fun f i hf => ?_
      simp only [Bool.and_eq_true] at hf
      unfold b Mach.show64
      rw [fld_set_clear _ _ _ _ _ _ hf.1.1.1.2, fld_set_clear _ _ _ _ _ _ hf.1.1.1.1]
    have hc : Mach.inTwn m st c := regs b c rfl hb
    have hd : Mach.inTwn m st d := by
      refine regs c d ?_ hc
      unfold d; split <;> rfl
    have he : Mach.inTwn m st e := by
      refine step d e hd fun f i hf => ?_
      simp only [Bool.and_eq_true] at hf
      unfold e Mach.showStep Mach.setFlag
      rw [fld_set_clear _ _ _ _ _ _ hf.1.1.2]
      exact fld_of_regs rfl _ _
    have hg : Mach.inTwn m st g := by
      unfold g; split
      · exact he
      · exact page _ _ (Mach.eqFlush_touch e) (by decide) he
    have hh : Mach.inTwn m st h := by
      unfold h; split
      · exact page _ _ (Mach.advanceNumbers_touch g) (by decide) hg
      · exact hg
    have hk : Mach.inTwn m st k := page _ _ (Mach.setRole_touch h _) (by decide) hh
    have hl : Mach.inTwn m st l := by
      unfold l; split
      · exact page _ _ (Mach.deliverOwn_touch k) (by decide) hk
      · exact hk
    clear_value l k h g e d c b
    have ev : ∀ (x : Mach) n, n < 32 → Mach.inTwn m st x → Mach.inTwn m st (x.event 0x31 n) := by
      intro x n hn hx
      refine ⟨?_, evt_event_or _ _ _ _ _ rfl hx.2.1, ?_, fun c hc h => evt_event_or _ _ _ _ _ (by simp [hc]) (hx.2.2.2.1 c hc h), fun f i hf => ?_⟩
      · show Mach.fld _ TWN_STS_state = st
        rw [fld_event _ _ _ _ _ _ rfl]; exact hx.1
      · rw [fld_event _ _ _ _ _ _ rfl]; exact hx.2.2.1
      · have := hx.2.2.2.2 f i hf
        simp only [twnApart, Bool.and_eq_true] at hf
        rw [fld_event _ _ _ _ _ _ hf.1.1.2]; exact this
    have key : Mach.inTwn m st v := by
      rw [← hv]
      split
      · exact regs _ _ rfl hl
      · split
        · exact ev _ _ (by decide) hl
        · exact hl
      · exact regs _ _ rfl (ev _ _ (by decide) hl)
      · refine ev _ _ (by decide) ?_
        split
        · exact hl
        · exact regs _ _ rfl hl
      · exact ev _ _ (by decide) hl
      · exact hl
    exact ⟨key.1, fun _ => ⟨key.2.1, key.2.2.1⟩, key.2.2.2.1, key.2.2.2.2⟩

theorem closeTick_shows (m : Mach) (grp n : Nat) (c : Cause) : (m.closeTick grp n c).2.group = grp ∧ (m.closeTick grp n c).2.tick = n
    ∧ (m.closeTick grp n c).2.cause = c ∧ (m.closeTick grp n c).2.closedAt = m.now := ⟨rfl, rfl, rfl, rfl⟩

theorem closeDue_first (m : Mach) (grp n : Nat) (hn : nextOpen m grp = some n) (he : expiredAt m n m.now = true) :
    ∃ (y : Mach) (tk : Tick) (rest : List Tick), m.closeDue grp none true = y.handTicks grp (tk :: rest)
      ∧ tk.group = grp ∧ tk.tick = n ∧ tk.cause = .expiry ∧ tk.closedAt = m.now := by
  generalize hv : m.closeDue grp none true = v
  unfold Mach.closeDue at hv
  extract_lets -underBinder -merge -useContext +onlyGivenNames a k at hv
  obtain ⟨j, hj⟩ : ∃ j, k = j + 1 := ⟨(tickNow m + 2 - a) + m.svi.samples.length + 63 + ((none : Option Nat).getD 0 - a), by unfold k; omega⟩
  clear_value k
  subst hj
  have h1 : m.closeLoop grp none true (j + 1) = (((m.closeTick grp n .expiry).1.closeLoop grp none true j).1,
      (m.closeTick grp n .expiry).2 :: ((m.closeTick grp n .expiry).1.closeLoop grp none true j).2) := by
    rw [Mach.closeLoop]
    rw [hn]
    simp only [he, Bool.or_true, Bool.and_self, if_true]
  rw [h1] at hv
  exact ⟨_, _, _, hv.symm, closeTick_shows m grp n .expiry⟩

theorem fld_active (m : Mach) (g : Nat) (f : Fd) (i : Nat) (h : Fd.clear SVI_GRP_STS_active f = true) : (m.showActive g).fld f i = m.fld f i := by
  unfold Mach.showActive; exact fld_set_clear _ _ _ _ _ _ h

theorem setSub_facts (m : Mach) (i st : Nat) (hs : st < 8) : (m.setSub i st).fld SVI_SUB_STS_state i = st
    ∧ (∀ (f : Fd) j, (Fd.clear SVI_SUB_STS_state f && Fd.clear SVI_GRP_STS_active f && Fd.noEvt 0x0A f) = true → (m.setSub i st).fld f j = m.fld f j)
    ∧ (m.setSub i st).force = m.force ∧ (m.setSub i st).bulkF = m.bulkF ∧ (m.setSub i st).svi.gens = m.svi.gens ∧ (m.setSub i st).svi.samples = m.svi.samples
    ∧ (st ≠ 3 → (m.setSub i st).svi = m.svi) := by
  unfold Mach.setSub
  dsimp only
  by_cases h : st = 3
  · subst h
    simp only [if_true]
    refine ⟨?_, fun f j hf => ?_, ?_, ?_, ?_, ?_, fun h => absurd rfl h⟩
    · rw [fld_active _ _ _ _ rfl, fld_event _ _ _ _ _ _ rfl]
      refine (fld_of_regs rfl _ _).trans ?_
      exact fld_set m SVI_SUB_STS_state i 3 rfl
    · simp only [Bool.and_eq_true] at hf
      rw [fld_active _ _ _ _ hf.1.2, fld_event _ _ _ _ _ _ hf.2]
      refine Eq.trans (b := (m.setFld SVI_SUB_STS_state i 3).fld f j) (fld_of_regs rfl _ _) ?_
      exact fld_set_clear _ _ _ _ _ _ hf.1.1
    · exact Mach.event_force _ _ _ _ (by decide)
    · exact Mach.event_bulkF _ _ _ _ (by decide)
    · exact (congrArg Svi.gens (show Mach.svi _ = Mach.svi _ from Mach.event_svi ((m.setFld SVI_SUB_STS_state i 3).onStream i _) 0x0A 1 (.item i) (by decide))).trans rfl
    · exact (congrArg Svi.samples (show Mach.svi _ = Mach.svi _ from Mach.event_svi ((m.setFld SVI_SUB_STS_state i 3).onStream i _) 0x0A 1 (.item i) (by decide))).trans rfl
  · simp only [h, if_false]
    refine ⟨?_, fun f j hf => ?_, rfl, rfl, rfl, rfl, fun _ => rfl⟩
    · rw [fld_active _ _ _ _ rfl, fld_set _ _ _ _ rfl]
      exact Nat.mod_eq_of_lt hs
    · simp only [Bool.and_eq_true] at hf
      rw [fld_active _ _ _ _ hf.1.2]
      exact fld_set_clear _ _ _ _ _ _ hf.1.1

/-- What a valid ASDU leaves of the module. -/
def Mach.asduKept (m : Mach) (i sy : Nat) (x : Mach) : Prop := x.fld SVI_SUB_ASDU_n i = (m.fld SVI_SUB_ASDU_n i + 1) % 2 ^ 32 ∧ x.fld SVI_SUB_STS_smp_synch i = sy
  ∧ x.force = m.force ∧ x.bulkF = m.bulkF ∧ x.svi.gens = m.svi.gens ∧ x.svi.samples = m.svi.samples

theorem asduKept_sub (m x : Mach) (i j sy st : Nat) (hs : st < 8) (h : Mach.asduKept m i sy x) : Mach.asduKept m i sy (x.setSub j st) := by
  obtain ⟨_, f2, f3, f4, f5, f6, _⟩ := setSub_facts x j st hs
  obtain ⟨h1, h2, h3, h4, h5, h6⟩ := h
  exact ⟨(f2 _ _ rfl).trans h1, (f2 _ _ rfl).trans h2, f3.trans h3, f4.trans h4, f5.trans h5, f6.trans h6⟩

theorem asduKept_stream (m x : Mach) (i j sy : Nat) (f : Stream → Stream) (h : Mach.asduKept m i sy x) : Mach.asduKept m i sy (x.onStream j f) :=
  ⟨(fld_of_regs rfl _ _).trans h.1, (fld_of_regs rfl _ _).trans h.2.1, h.2.2.1, h.2.2.2.1, h.2.2.2.2.1, h.2.2.2.2.2⟩

theorem asduKept_run (m x : Mach) (i sy run : Nat) (h : Mach.asduKept m i sy x) : Mach.asduKept m i sy (
    let y := x.onStream i fun s => { s with run := run }
    if primeCount y i ≤ run then y.setSub i 3 else y) := by
  extract_lets y
  have hy : Mach.asduKept m i sy y := asduKept_stream _ _ _ _ _ _ h
  clear_value y
  by_cases hp : primeCount y i ≤ run
  · rw [if_pos hp]; exact asduKept_sub _ _ _ _ _ _ (by decide) hy
  · rw [if_neg hp]; exact hy

theorem validAsdu_facts (m : Mach) (i c sy ar : Nat) (hsy : sy < 256) : Mach.asduKept m i sy (m.validAsdu i c sy ar) := by
  generalize hv : m.validAsdu i c sy ar = v
  unfold Mach.validAsdu at hv
  extract_lets -underBinder -merge -useContext +onlyGivenNames b rate gap x0 x1 x2 x3 st enters x4 at hv
  have h0 : Mach.asduKept m i sy x0 := by
    refine ⟨?_, ?_, rfl, rfl, rfl, rfl⟩
    · unfold x0; rw [fld_set_clear _ _ _ _ _ _ rfl]; exact fld_count _ _ _ _ rfl
    · unfold x0; rw [fld_set _ _ _ _ rfl]; exact Nat.mod_eq_of_lt hsy
  clear_value x0
  have h1 : Mach.asduKept m i sy x1 := by
    unfold x1; split
    · exact ⟨(fld_count_clear _ _ _ _ _ _ rfl).trans h0.1, (fld_count_clear _ _ _ _ _ _ rfl).trans h0.2.1, h0.2.2.1, h0.2.2.2.1, h0.2.2.2.2.1, h0.2.2.2.2.2⟩
    · exact h0
  clear_value x1
  have h2 : Mach.asduKept m i sy x2 := asduKept_stream _ _ _ _ _ _ h1
  clear_value x2
  have h3 : Mach.asduKept m i sy x3 := ⟨(fld_of_regs rfl _ _).trans h2.1, (fld_of_regs rfl _ _).trans h2.2.1, h2.2.2.1, h2.2.2.2.1, h2.2.2.2.2.1, h2.2.2.2.2.2⟩
  clear_value x3 b rate gap
  have h4 : Mach.asduKept m i sy x4 := by
    unfold x4; split
    · exact asduKept_sub _ _ _ _ _ _ (by decide) h3
    · exact h3
  clear_value x4 enters st
  by_cases hs : subState x4 i = 2
  · rw [if_pos hs] at hv
    rw [← hv]
    exact asduKept_run m x4 i sy _ h4
  · rw [if_neg hs] at hv
    rw [← hv]; exact h4

theorem foldl_inv {α β : Type} (P : β → Prop) (f : β → α → β) (h : ∀ b a, P b → P (f b a)) (l : List α) (b : β) (hb : P b) : P (l.foldl f b) := by
  induction l generalizing b with
  | nil => exact hb
  | cons a l ih => exact ih _ (h b a hb)

theorem checkChans_facts (m : Mach) (i : Nat) (sim : Bool) (chans : List (BitVec 32 × BitVec 32)) : (m.checkChans i sim chans).1.svi = m.svi
    ∧ ∀ (f : Fd) j, (Fd.clear (sviCnt 13) f && Fd.clear (sviCnt 14) f && Fd.noEvt 0x0A f) = true → (m.checkChans i sim chans).1.fld f j = m.fld f j := by
  unfold Mach.checkChans
  dsimp only
  refine foldl_inv (fun acc : Mach × List Chan => acc.1.svi = m.svi ∧
      ∀ (f : Fd) j, (Fd.clear (sviCnt 13) f && Fd.clear (sviCnt 14) f && Fd.noEvt 0x0A f) = true → acc.1.fld f j = m.fld f j) _ (fun acc e h => ?_) _ _ ⟨rfl, fun _ _ _ => rfl⟩
  · obtain ⟨y, cs⟩ := acc
    dsimp only at h ⊢
    have hm : ∀ z : Mach, (z.svi = m.svi ∧ ∀ (f : Fd) j, (Fd.clear (sviCnt 13) f && Fd.clear (sviCnt 14) f && Fd.noEvt 0x0A f) = true → z.fld f j = m.fld f j) →
        (((z.count (sviCnt 13)).event 0x0A 11 (.item i)).svi = m.svi ∧ ∀ (f : Fd) j, (Fd.clear (sviCnt 13) f && Fd.clear (sviCnt 14) f && Fd.noEvt 0x0A f) = true →
          ((z.count (sviCnt 13)).event 0x0A 11 (.item i)).fld f j = m.fld f j) := by
      intro z hz
      refine ⟨(Mach.event_svi _ _ _ _ (by decide)).trans hz.1, fun f j hf => ?_⟩
      have := hz.2 f j hf
      simp only [Bool.and_eq_true] at hf
      rw [fld_event _ _ _ _ _ _ hf.2, fld_count_clear _ _ _ _ _ _ hf.1.1]; exact this
    have hc : ∀ z : Mach, (z.svi = m.svi ∧ ∀ (f : Fd) j, (Fd.clear (sviCnt 13) f && Fd.clear (sviCnt 14) f && Fd.noEvt 0x0A f) = true → z.fld f j = m.fld f j) →
        ((z.count (sviCnt 14)).svi = m.svi ∧ ∀ (f : Fd) j, (Fd.clear (sviCnt 13) f && Fd.clear (sviCnt 14) f && Fd.noEvt 0x0A f) = true → (z.count (sviCnt 14)).fld f j = m.fld f j) := by
      intro z hz
      refine ⟨hz.1, fun f j hf => ?_⟩
      have := hz.2 f j hf
      simp only [Bool.and_eq_true] at hf
      rw [fld_count_clear _ _ _ _ _ _ hf.1.2]; exact this
    have hq : ∀ (c : Prop) [Decidable c], ((if c then y.count (sviCnt 14) else y).svi = m.svi ∧
        ∀ (f : Fd) j, (Fd.clear (sviCnt 13) f && Fd.clear (sviCnt 14) f && Fd.noEvt 0x0A f) = true → (if c then y.count (sviCnt 14) else y).fld f j = m.fld f j) := by
      intro c _
      split
      · exact hc _ h
      · exact h
    have hfin : ∀ (c : Prop) [Decidable c] (z : Mach) (p q : List Chan), (z.svi = m.svi ∧
        ∀ (f : Fd) j, (Fd.clear (sviCnt 13) f && Fd.clear (sviCnt 14) f && Fd.noEvt 0x0A f) = true → z.fld f j = m.fld f j) →
        ((if c then ((z.count (sviCnt 13)).event 0x0A 11 (.item i), p) else (z, q)).1.svi = m.svi ∧
        ∀ (f : Fd) j, (Fd.clear (sviCnt 13) f && Fd.clear (sviCnt 14) f && Fd.noEvt 0x0A f) = true →
          (if c then ((z.count (sviCnt 13)).event 0x0A 11 (.item i), p) else (z, q)).1.fld f j = m.fld f j) := by
      intro c _ z p q hz
      split
      · exact hm _ hz
      · exact hz
    exact hfin _ _ _ _ (hq (bits e.1.2.toNat 1 0 = 1 ∨ bits e.1.2.toNat 1 0 = 2))

theorem sviFrame_passes (m : Mach) (fr : Frame) (ar i : Nat) (a : SvApdu) (h : m.svPasses fr a i ar) :
    m.sviFrame fr ar = (m.each a.asdus fun x k => k.sviAsdu i a.sim ar x).closeDue (m.cfg SVI_SUB_CTRL_group i) := by
  obtain ⟨h1, h2, h3, h4, h5, h6, h7, h8, h9, h10, h11, h12, h13, h14, h15⟩ := h
  unfold Mach.sviFrame
  rw [h1, if_neg (by decide)]
  dsimp only
  rw [h2]
  dsimp only
  have c1 : (fr.etype != 0x88BA || fr.tag == .stacked || decide (fr.len < 64) || decide ((if (fr.tag == .untagged) = true then 1518 else 1522) < fr.len)) = false := by
    have e : (fr.tag == Tag.untagged) = decide (fr.tag = .untagged) := by cases fr.tag <;> rfl
    have : ¬ (if fr.tag = .untagged then 1518 else 1522) < fr.len := by omega
    simp only [h3, bne_self_eq_false, Bool.false_or, Bool.or_eq_false_iff, e, decide_eq_true_eq, this, decide_false, and_true]
    exact ⟨by simp [h4], by simp; omega⟩
  rw [c1, if_neg (by decide), h15, h7]
  dsimp only
  have c0 : frameFault m i a = none := by
    unfold frameFault
    dsimp only
    rw [h8, h9, if_neg (by decide)]
    have c2 : (a.sim && !m.on SVI_SUB_CTRL_test_ok i) = false := by
      cases hs : a.sim
      · rfl
      · rw [h10 hs]; rfl
    rw [c2, if_neg (by decide), h11]
    dsimp only
    rw [h12, h13, h14, if_neg (by simp)]
  rw [c0]

theorem sviAsdu_passes (m : Mach) (i ar : Nat) (sim : Bool) (x : Asdu) (h : m.asduPasses i x) (hr : resampled (genNow m) i = false) :
    m.sviAsdu i sim ar x = m.sampleAsdu (m.cfg SVI_SUB_CTRL_group i) i sim x ar ((ar : Int) + m.time.epoch) := by
  obtain ⟨h1, h2, h3, h4, h5, h6, h7, h8, h9⟩ := h
  have c4 : (match x.smpRate with | some r => r == rateHz (m.cfg SVI_SUB_CTRL_rate i) | none => true) = true := by
    cases hx : x.smpRate with
    | none => rfl
    | some r => simp [h4 r hx]
  have c3 : (decide (x.smpCnt < rateHz (m.cfg SVI_SUB_CTRL_rate i)) && (match x.smpRate with | some r => r == rateHz (m.cfg SVI_SUB_CTRL_rate i) | none => true)
      && x.seqBytes == 8 * (m.cfg SVI_SUB_CTRL_n_ch i + 1) && x.chans.length == m.cfg SVI_SUB_CTRL_n_ch i + 1) = true := by
    rw [c4]; simp [h3, h5, h6]
  have c0 : asduFault m i x = none := by
    unfold asduFault
    dsimp only
    rw [if_neg (by simp [h1]), if_neg (by simp [h2]), if_neg (by intro h; rw [Bool.not_eq_true'] at h; exact absurd (h.symm.trans c3) (by decide)),
      if_neg (by simp [h7, h8, h9])]
  unfold Mach.sviAsdu
  rw [c0]
  dsimp only
  rw [hr, if_neg (by decide)]

theorem sampleAsdu_global (m : Mach) (g i n ar : Nat) (sim : Bool) (x : Asdu) (st : Int) (hc : groupClass (genNow m) g = 0)
    (he : -(m.cfg SVI_TICK_early_tol * 1000 * rateHz (m.cfg SVI_SUB_CTRL_rate i) : Int) ≤ (nearest (rateHz (m.cfg SVI_SUB_CTRL_rate i)) st x.smpCnt).2)
    (hn : tickOnGrid m.svi.grids (rateHz (m.cfg SVI_SUB_CTRL_rate i)) (nearest (rateHz (m.cfg SVI_SUB_CTRL_rate i)) st x.smpCnt).1 none = some n) :
    (openFor m g n ar = false → m.sampleAsdu g i sim x ar st = m.lateSample i)
    ∧ (openFor m g n ar = true → (m.svi.samples.any fun e => e.group == g && e.tick == n && e.sub == i) = false → placedIn m n i = true →
        ∃ y z cs, y = m.validAsdu i x.smpCnt x.smpSynch.toNat ar ∧ z = (y.checkChans i sim x.chans).1 ∧
        m.sampleAsdu g i sim x ar st = (z.onSvi fun b => { b with samples := b.samples ++ [{ group := g, tick := n, sub := i, synch := x.smpSynch.toNat, chans := cs }] }).onStream i
          fun s => { s with tstep := false }) := by
  unfold Mach.sampleAsdu
  dsimp only
  rw [hc]
  simp only [if_true]
  have he2 : ¬ (nearest (rateHz (m.cfg SVI_SUB_CTRL_rate i)) st x.smpCnt).2 < -(m.cfg SVI_TICK_early_tol * 1000 * rateHz (m.cfg SVI_SUB_CTRL_rate i) : Int) := not_lt.mpr he
  rw [if_neg he2, hn]
  dsimp only
  refine ⟨fun ho => ?_, fun ho hd hp => ?_⟩
  · rw [ho]; rfl
  · rw [ho, hd]
    have e0 : (0 != 0 && (streamOf m i).ref.isNone) = false := rfl
    simp only [Bool.not_true, Bool.false_eq_true, if_false, e0]
    obtain ⟨_, _, v3, v4, v5, _⟩ := validAsdu_facts m i x.smpCnt x.smpSynch.toNat ar x.smpSynch.isLt
    have hp2 : placedIn (m.validAsdu i x.smpCnt x.smpSynch.toNat ar) n i = true := by
      have : placedIn (m.validAsdu i x.smpCnt x.smpSynch.toNat ar) n i = placedIn m n i := by
        unfold placedIn genOf; rw [v3, v4, v5]
      rw [this]; exact hp
    rw [hp2, if_pos rfl]
    exact ⟨_, _, _, rfl, rfl, rfl⟩

/-! ### Fields beside other parts of the module -/

theorem fld_onAcq (m : Mach) (u : Nat) (g : Machine.AcqUnit → Machine.AcqUnit) (f : Fd) (i : Nat) : (m.onAcq u g).fld f i = m.fld f i := fld_of_regs rfl _ _

theorem evt_onAcq (m : Mach) (u : Nat) (g : Machine.AcqUnit → Machine.AcqUnit) (q b : Nat) : (m.onAcq u g).evt q b = m.evt q b := congrArg (bit · b) (fld_of_regs rfl _ _)

theorem fld_onCrossing (m : Mach) (u : Nat) (g : Machine.Crossing → Machine.Crossing) (f : Fd) (i : Nat) : (m.onCrossing u g).fld f i = m.fld f i := fld_of_regs rfl _ _

theorem evt_onCrossing (m : Mach) (u : Nat) (g : Machine.Crossing → Machine.Crossing) (q b : Nat) : (m.onCrossing u g).evt q b = m.evt q b := congrArg (bit · b) (fld_of_regs rfl _ _)

theorem fld_onCoil (m : Mach) (g : Machine.Coil → Machine.Coil) (f : Fd) (i : Nat) : (m.onCoil g).fld f i = m.fld f i := fld_of_regs rfl _ _

theorem evt_onCoil (m : Mach) (g : Machine.Coil → Machine.Coil) (q b : Nat) : (m.onCoil g).evt q b = m.evt q b := congrArg (bit · b) (fld_of_regs rfl _ _)

theorem fld_onDsp (m : Mach) (g : Machine.Dsp → Machine.Dsp) (f : Fd) (i : Nat) : (m.onDsp g).fld f i = m.fld f i := fld_of_regs rfl _ _

theorem evt_onDsp (m : Mach) (g : Machine.Dsp → Machine.Dsp) (q b : Nat) : (m.onDsp g).evt q b = m.evt q b := congrArg (bit · b) (fld_of_regs rfl _ _)

theorem fld_onPort (m : Mach) (u : Nat) (g : Machine.Port → Machine.Port) (f : Fd) (i : Nat) : (m.onPort u g).fld f i = m.fld f i := fld_of_regs rfl _ _

theorem evt_onPort (m : Mach) (u : Nat) (g : Machine.Port → Machine.Port) (q b : Nat) : (m.onPort u g).evt q b = m.evt q b := congrArg (bit · b) (fld_of_regs rfl _ _)

theorem fld_onPair (m : Mach) (u : Nat) (g : Machine.Pair → Machine.Pair) (f : Fd) (i : Nat) : (m.onPair u g).fld f i = m.fld f i := fld_of_regs rfl _ _

theorem evt_onPair (m : Mach) (u : Nat) (g : Machine.Pair → Machine.Pair) (q b : Nat) : (m.onPair u g).evt q b = m.evt q b := congrArg (bit · b) (fld_of_regs rfl _ _)

theorem fld_onMsr (m : Mach) (g : Machine.Msr → Machine.Msr) (f : Fd) (i : Nat) : (m.onMsr g).fld f i = m.fld f i := fld_of_regs rfl _ _

theorem evt_onMsr (m : Mach) (g : Machine.Msr → Machine.Msr) (q b : Nat) : (m.onMsr g).evt q b = m.evt q b := congrArg (bit · b) (fld_of_regs rfl _ _)

theorem fld_onNrg (m : Mach) (g : Machine.Nrg → Machine.Nrg) (f : Fd) (i : Nat) : (m.onNrg g).fld f i = m.fld f i := fld_of_regs rfl _ _

theorem evt_onNrg (m : Mach) (g : Machine.Nrg → Machine.Nrg) (q b : Nat) : (m.onNrg g).evt q b = m.evt q b := congrArg (bit · b) (fld_of_regs rfl _ _)

theorem fld_onPt (m : Mach) (u : Nat) (g : Machine.Point → Machine.Point) (f : Fd) (i : Nat) : (m.onPt u g).fld f i = m.fld f i := fld_of_regs rfl _ _

theorem evt_onPt (m : Mach) (u : Nat) (g : Machine.Point → Machine.Point) (q b : Nat) : (m.onPt u g).evt q b = m.evt q b := congrArg (bit · b) (fld_of_regs rfl _ _)

theorem fld_onPace (m : Mach) (g : Machine.Pace → Machine.Pace) (f : Fd) (i : Nat) : (m.onPace g).fld f i = m.fld f i := fld_of_regs rfl _ _

theorem evt_onPace (m : Mach) (g : Machine.Pace → Machine.Pace) (q b : Nat) : (m.onPace g).evt q b = m.evt q b := congrArg (bit · b) (fld_of_regs rfl _ _)

theorem fld_onLane (m : Mach) (u : Nat) (g : Machine.Lane → Machine.Lane) (f : Fd) (i : Nat) : (m.onLane u g).fld f i = m.fld f i := fld_of_regs rfl _ _

theorem evt_onLane (m : Mach) (u : Nat) (g : Machine.Lane → Machine.Lane) (q b : Nat) : (m.onLane u g).evt q b = m.evt q b := congrArg (bit · b) (fld_of_regs rfl _ _)

theorem fld_onPin (m : Mach) (u : Nat) (g : Machine.Pin → Machine.Pin) (f : Fd) (i : Nat) : (m.onPin u g).fld f i = m.fld f i := fld_of_regs rfl _ _

theorem evt_onPin (m : Mach) (u : Nat) (g : Machine.Pin → Machine.Pin) (q b : Nat) : (m.onPin u g).evt q b = m.evt q b := congrArg (bit · b) (fld_of_regs rfl _ _)

theorem fld_onCmd (m : Mach) (g : Machine.Cmd → Machine.Cmd) (f : Fd) (i : Nat) : (m.onCmd g).fld f i = m.fld f i := fld_of_regs rfl _ _

theorem evt_onCmd (m : Mach) (g : Machine.Cmd → Machine.Cmd) (q b : Nat) : (m.onCmd g).evt q b = m.evt q b := congrArg (bit · b) (fld_of_regs rfl _ _)

theorem fld_onDom (m : Mach) (u : Nat) (g : Machine.PtpDom → Machine.PtpDom) (f : Fd) (i : Nat) : (m.onDom u g).fld f i = m.fld f i := fld_of_regs rfl _ _

theorem evt_onDom (m : Mach) (u : Nat) (g : Machine.PtpDom → Machine.PtpDom) (q b : Nat) : (m.onDom u g).evt q b = m.evt q b := congrArg (bit · b) (fld_of_regs rfl _ _)

theorem fld_onPub (m : Mach) (g : Machine.Pub → Machine.Pub) (f : Fd) (i : Nat) : (m.onPub g).fld f i = m.fld f i := fld_of_regs rfl _ _

theorem evt_onPub (m : Mach) (g : Machine.Pub → Machine.Pub) (q b : Nat) : (m.onPub g).evt q b = m.evt q b := congrArg (bit · b) (fld_of_regs rfl _ _)

theorem fld_onGcb (m : Mach) (u : Nat) (g : Machine.Gcb → Machine.Gcb) (f : Fd) (i : Nat) : (m.onGcb u g).fld f i = m.fld f i := fld_of_regs rfl _ _

theorem evt_onGcb (m : Mach) (u : Nat) (g : Machine.Gcb → Machine.Gcb) (q b : Nat) : (m.onGcb u g).evt q b = m.evt q b := congrArg (bit · b) (fld_of_regs rfl _ _)

theorem fld_onSub (m : Mach) (u : Nat) (g : Machine.Sub → Machine.Sub) (f : Fd) (i : Nat) : (m.onSub u g).fld f i = m.fld f i := fld_of_regs rfl _ _

theorem evt_onSub (m : Mach) (u : Nat) (g : Machine.Sub → Machine.Sub) (q b : Nat) : (m.onSub u g).evt q b = m.evt q b := congrArg (bit · b) (fld_of_regs rfl _ _)

theorem fld_onRim (m : Mach) (g : Machine.Rim → Machine.Rim) (f : Fd) (i : Nat) : (m.onRim g).fld f i = m.fld f i := fld_of_regs rfl _ _

theorem evt_onRim (m : Mach) (g : Machine.Rim → Machine.Rim) (q b : Nat) : (m.onRim g).evt q b = m.evt q b := congrArg (bit · b) (fld_of_regs rfl _ _)

theorem fld_onPart (m : Mach) (u : Nat) (g : Machine.Part → Machine.Part) (f : Fd) (i : Nat) : (m.onPart u g).fld f i = m.fld f i := fld_of_regs rfl _ _

theorem evt_onPart (m : Mach) (u : Nat) (g : Machine.Part → Machine.Part) (q b : Nat) : (m.onPart u g).evt q b = m.evt q b := congrArg (bit · b) (fld_of_regs rfl _ _)

theorem fld_onRst (m : Mach) (g : Machine.Rst → Machine.Rst) (f : Fd) (i : Nat) : (m.onRst g).fld f i = m.fld f i := fld_of_regs rfl _ _

theorem evt_onRst (m : Mach) (g : Machine.Rst → Machine.Rst) (q b : Nat) : (m.onRst g).evt q b = m.evt q b := congrArg (bit · b) (fld_of_regs rfl _ _)

theorem fld_onSvi (m : Mach) (g : Machine.Svi → Machine.Svi) (f : Fd) (i : Nat) : (m.onSvi g).fld f i = m.fld f i := fld_of_regs rfl _ _

theorem evt_onSvi (m : Mach) (g : Machine.Svi → Machine.Svi) (q b : Nat) : (m.onSvi g).evt q b = m.evt q b := congrArg (bit · b) (fld_of_regs rfl _ _)

theorem fld_onStream (m : Mach) (u : Nat) (g : Machine.Stream → Machine.Stream) (f : Fd) (i : Nat) : (m.onStream u g).fld f i = m.fld f i := fld_of_regs rfl _ _

theorem evt_onStream (m : Mach) (u : Nat) (g : Machine.Stream → Machine.Stream) (q b : Nat) : (m.onStream u g).evt q b = m.evt q b := congrArg (bit · b) (fld_of_regs rfl _ _)

theorem fld_onSwc (m : Mach) (g : Machine.Swc → Machine.Swc) (f : Fd) (i : Nat) : (m.onSwc g).fld f i = m.fld f i := fld_of_regs rfl _ _

theorem evt_onSwc (m : Mach) (g : Machine.Swc → Machine.Swc) (q b : Nat) : (m.onSwc g).evt q b = m.evt q b := congrArg (bit · b) (fld_of_regs rfl _ _)

theorem fld_onTime (m : Mach) (g : Machine.TimeBlk → Machine.TimeBlk) (f : Fd) (i : Nat) : (m.onTime g).fld f i = m.fld f i := fld_of_regs rfl _ _

theorem evt_onTime (m : Mach) (g : Machine.TimeBlk → Machine.TimeBlk) (q b : Nat) : (m.onTime g).evt q b = m.evt q b := congrArg (bit · b) (fld_of_regs rfl _ _)

theorem fld_arm (m : Mach) (t : Timer) (a : Nat) (f : Fd) (i : Nat) : (m.arm t a).fld f i = m.fld f i := fld_of_regs rfl _ _

theorem evt_arm (m : Mach) (t : Timer) (a : Nat) (q b : Nat) : (m.arm t a).evt q b = m.evt q b := congrArg (bit · b) (fld_of_regs rfl _ _)

theorem fld_disarm (m : Mach) (t : Timer) (f : Fd) (i : Nat) : (m.disarm t).fld f i = m.fld f i := fld_of_regs rfl _ _

theorem evt_disarm (m : Mach) (t : Timer) (q b : Nat) : (m.disarm t).evt q b = m.evt q b := congrArg (bit · b) (fld_of_regs rfl _ _)

theorem fld_emit (m : Mach) (o : Machine.Out) (f : Fd) (i : Nat) : (m.emit o).fld f i = m.fld f i := fld_of_regs rfl _ _

theorem evt_emit (m : Mach) (o : Machine.Out) (q b : Nat) : (m.emit o).evt q b = m.evt q b := congrArg (bit · b) (fld_of_regs rfl _ _)

theorem fld_advance (m : Mach) (t : Nat) (f : Fd) (i : Nat) : (m.advance t).fld f i = m.fld f i := fld_of_regs rfl _ _

theorem evt_advance (m : Mach) (t : Nat) (q b : Nat) : (m.advance t).evt q b = m.evt q b := congrArg (bit · b) (fld_of_regs rfl _ _)

theorem evt_set_clear (m : Mach) (f : Fd) (i v q b : Nat) (h : Fd.clear f (hEvt q) = true) : (m.setFld f i v).evt q b = m.evt q b := congrArg (bit · b) (fld_set_clear _ _ _ _ _ _ h)

theorem evt_count_clear (m : Mach) (f : Fd) (i n q b : Nat) (h : Fd.clear f (hEvt q) = true) : (m.count f i n).evt q b = m.evt q b := congrArg (bit · b) (fld_set_clear _ _ _ _ _ _ h)

theorem plaitSend_svi (m : Mach) (x : PlaitMsg) : (m.plaitSend x).svi = m.svi := svi_of_touch (Mach.plaitSend_touch m x) rfl

theorem sendComb_eq (m : Mach) (e : EqTick) : (m.sendComb e).svi.eq = m.svi.eq.map fun x => if x = e then { e with comb := some (formComb e) } else x := by
  unfold Mach.sendComb
  dsimp only
  unfold Mach.sendSamples
  rw [each_keep (fun k : Mach => k.svi.eq)]
  · rw [plaitSend_svi]
    rfl
  · intro i y
    split
    · rw [plaitSend_svi]
    · rfl

theorem eqApply_svi (m : Mach) (e : EqTick) : (m.eqApply e).1.svi = m.svi ∧ (m.eqApply e).2.done = true ∧ (m.eqApply e).2.tk.tick = e.tk.tick ∧ (m.eqApply e).2.comb = e.comb := by
  unfold Mach.eqApply
  split
  · exact ⟨rfl, rfl, rfl, rfl⟩
  · rename_i c hc
    dsimp only
    refine ⟨?_, rfl, rfl, rfl⟩
    split <;> split
    · rfl
    · exact Mach.event_svi _ _ _ _ (by decide)
    · exact (Mach.event_svi _ _ _ _ (by decide)).trans rfl
    · refine (Mach.event_svi _ _ _ _ (by decide)).trans ?_
      exact (Mach.event_svi _ _ _ _ (by decide)).trans rfl

theorem msrTick_out (m : Mach) (tk : Tick) (out : SetOut) : (m.msrTick tk out).2.ticks = out.ticks ++ [tk] ∧ (m.msrTick tk out).2.events = out.events := ⟨rfl, rfl⟩

theorem msrTicks_out (l : List Tick) : ∀ (acc : Mach × SetOut), (l.foldl (fun acc tk => acc.1.msrTick tk acc.2) acc).2.ticks = acc.2.ticks ++ l
    ∧ (l.foldl (fun acc tk => acc.1.msrTick tk acc.2) acc).2.events = acc.2.events := by
  induction l with
  | nil => intro acc; simp
  | cons a l ih =>
    intro acc
    obtain ⟨h1, h2⟩ := ih (acc.1.msrTick a acc.2)
    obtain ⟨k1, k2⟩ := msrTick_out acc.1 a acc.2
    refine ⟨?_, h2.trans k2⟩
    rw [List.foldl_cons, h1, k1]; simp

theorem msrTicks_now (l : List Tick) (acc : Mach × SetOut) : (l.foldl (fun acc tk => acc.1.msrTick tk acc.2) acc).1.now = acc.1.now := by
  refine foldl_inv (fun b : Mach × SetOut => b.1.now = acc.1.now) _ (fun b a h => ?_) l acc rfl
  exact (now_of_touch (Mach.msrTick_touch b.1 a b.2) rfl).trans h

theorem msrTake_shows (m : Mach) (x : TickSet) (rest : List TickSet) (hb : m.msr.busy = none) (hq : m.msr.queue = x :: rest) :
    ∃ out, m.msrTake.msr.busy = some out ∧ out.ticks = x.ticks ∧ out.events = x.events ∧ m.msrTake.msr.takenAt = m.now := by
  unfold Mach.msrTake
  rw [hb, hq]
  dsimp only
  have hn := msrTicks_now x.ticks ((m.onMsr fun b => { b with queue := rest }).showBacklog, { ticks := [], events := x.events, blocks := [], power := [], taps := [] })
  obtain ⟨h1, h2⟩ := msrTicks_out x.ticks ((m.onMsr fun b => { b with queue := rest }).showBacklog, { ticks := [], events := x.events, blocks := [], power := [], taps := [] })
  exact ⟨_, rfl, h1, h2, hn⟩

theorem part_onPart (m : Mach) (p : Nat) (f : Part → Part) : (m.onPart p f).part p = f (m.part p) := by
  show (kget p (kput p _ _)).getD ({} : Part) = _
  rw [kget_kput_same]; rfl

theorem part_of_parts {a b : Mach} (h : a.parts = b.parts) (p : Nat) : a.part p = b.part p := by unfold Mach.part; rw [h]

/-- What interrupts and the dirty log leave of a partition. -/
def ringPart (b : Part) : (Nat × Nat × Nat × Nat × Nat × Nat × Nat × Nat) × KMap MRing × List Xfer × (Nat × Nat × Nat × Nat × Nat) × KMap (List Byte) :=
  ((b.cmdBase, b.cmdLog, b.cmdProd, b.cmdCons, b.cplBase, b.cplLog, b.cplProd, b.cplCons), b.rings, b.xfers, (b.busyXfr, b.busyDsp, b.drop, b.gmerge, b.rej), b.kept)

theorem onPart_ring (m : Mach) (p q : Nat) (f : Part → Part) (h : ∀ b, ringPart (f b) = ringPart b) : ringPart ((m.onPart p f).part q) = ringPart (m.part q) := by
  by_cases hq : q = p
  · subst hq; rw [part_onPart]; exact h _
  · have : (m.onPart p f).part q = m.part q := by
      show (kget q (kput p _ _)).getD ({} : Part) = _
      rw [kget_kput_ne _ _ hq]
      rfl
    rw [this]

theorem ring_of_parts {a b : Mach} (h : a.parts = b.parts) (q : Nat) : ringPart (a.part q) = ringPart (b.part q) := by rw [part_of_parts h]

theorem deliverVec_ring (m : Mach) (p v q : Nat) : ringPart ((m.deliverVec p v).part q) = ringPart (m.part q) := by
  unfold Mach.deliverVec
  split
  · exact ring_of_parts (Mach.event_parts _ _ _ _ (by decide)) q
  dsimp only
  refine (ring_of_parts (parts_of_touch (Mach.sendValue_touch _ _ _) rfl) q).trans ?_
  exact onPart_ring m p q (fun b => { b with irqSent := b.irqSent ||| 2 ^ v }) (fun _ => rfl)

theorem tryVec_ring (m : Mach) (p v q : Nat) : ringPart ((m.tryVec p v).part q) = ringPart (m.part q) := by
  unfold Mach.tryVec
  dsimp only
  split
  · rfl
  · split
    · exact deliverVec_ring m p v q
    · split
      · rw [deliverVec_ring]
        split
        · exact onPart_ring m p q (fun b => { b with tokens := b.tokens - 1 }) (fun _ => rfl)
        · exact onPart_ring m p q (fun b => { b with tokens := b.tokens - 1 }) (fun _ => rfl)
      · refine (ring_of_parts (Mach.event_parts _ _ _ _ (by decide)) q).trans ?_
        exact onPart_ring m p q (fun b => { b with irqWait := b.irqWait ++ [v], irqHeld := (b.irqHeld + 1) % 2 ^ 16 }) (fun _ => rfl)

theorem signalPart_ring (m : Mach) (p src q : Nat) : ringPart ((m.signalPart p src).part q) = ringPart (m.part q) := by
  unfold Mach.signalPart
  dsimp only
  split
  · exact ring_of_parts (Mach.event_parts _ _ _ _ (by decide)) q
  · split
    · rfl
    · split
      · exact ring_of_parts (Mach.event_parts _ _ _ _ (by decide)) q
      · rw [tryVec_ring]
        exact onPart_ring m p q (fun b => { b with
          irqPend := b.irqPend ||| 2 ^ m.cfg IRQ_SRC_vector (src * 64 + p)
          irqFast := if src < 64 then b.irqFast ||| 2 ^ m.cfg IRQ_SRC_vector (src * 64 + p) else b.irqFast }) (fun _ => rfl)

theorem logPage_ring (m : Mach) (p page w q : Nat) : ringPart ((m.logPage p page w).part q) = ringPart (m.part q) := by
  unfold Mach.logPage
  dsimp only
  split
  · rfl
  · split
    · exact ring_of_parts (parts_of_touch (Mach.setBitmap_touch m p page) rfl) q
    · split
      · rfl
      · split
        · exact (ring_of_parts (parts_of_touch (Mach.setBitmap_touch _ p page) rfl) q).trans (ring_of_parts (Mach.event_parts (m.setFlag DRT_STS_bitmap p true) 0x34 0 (.part p) (by decide)) q)
        · split
          · exact ring_of_parts (parts_of_touch (Mach.logFault_touch m p) rfl) q
          exact (onPart_ring _ p q (fun b => { b with recent := (page :: b.recent).take 32 }) (fun _ => rfl)).trans rfl

theorem partWrite_ring (m : Mach) (p a : Nat) (bs : List Byte) (w q : Nat) : ringPart ((m.partWrite p a bs w).1.part q) = ringPart (m.part q) := by
  unfold Mach.partWrite
  split
  · rfl
  · dsimp only
    refine foldl_inv (fun y : Mach => ringPart (y.part q) = ringPart (m.part q)) _ (fun y i h => ?_) _ _ rfl
    exact (logPage_ring y p _ w q).trans h

theorem complete_ring (m : Mach) (p op fl : Nat) (tag : Byte) (st of_ : Nat) (pl : List Byte) (w : Nat) :
    ringPart ((m.complete p op fl tag st of_ pl w).part p) = ringPart { m.part p with cplProd := ((m.part p).cplProd + 1) % 2 ^ 16 } := by
  unfold Mach.complete
  dsimp only
  rw [signalPart_ring, part_onPart]
  have h := partWrite_ring m p ((m.part p).cplBase + (m.part p).cplProd % 2 ^ (m.part p).cplLog * 4096) (packetBytes m op fl tag st of_ pl) w p
  simp only [ringPart, Prod.mk.injEq] at h ⊢
  obtain ⟨⟨h1, h2, h3, h4, h5, h6, h7, h8⟩, h9⟩ := h
  exact ⟨⟨h1, h2, h3, h4, h5, h6, by rw [h7], h8⟩, h9⟩

theorem taken (m : Mach) (p : Nat) (pk : RingPacket) (f : Mach → Mach) (h : m.takes p pk) :
    m.takeCommand p pk true f = f (m.onPart p fun b => { b with cmdCons := (b.cmdCons + 1) % 2 ^ 16 }) := by
  obtain ⟨h1, h2, h3⟩ := h
  unfold Mach.takeCommand
  rw [h1, if_neg (by decide)]
  dsimp only
  rw [h2, if_neg (by decide), if_neg]
  rw [part_onPart]
  exact Nat.not_le.mpr h3

theorem done_ring (m : Mach) (p : Nat) (tag : Byte) (st of_ : Nat) (pl : List Byte) (f : Part → Part)
    (hc : ((f (m.part p)).cmdCons, (f (m.part p)).cplProd, (f (m.part p)).xfers) = (((m.part p).cmdCons + 1) % 2 ^ 16, (m.part p).cplProd, (m.part p).xfers)) :
    (((m.onPart p f).doneCmd p tag st of_ pl).part p).cmdCons = ((m.part p).cmdCons + 1) % 2 ^ 16
    ∧ (((m.onPart p f).doneCmd p tag st of_ pl).part p).cplProd = ((m.part p).cplProd + 1) % 2 ^ 16
    ∧ (((m.onPart p f).doneCmd p tag st of_ pl).part p).xfers = (m.part p).xfers := by
  have h := complete_ring (m.onPart p f) p 0xC1 2 tag st of_ pl 1
  rw [part_onPart] at h
  simp only [Prod.mk.injEq] at hc
  simp only [ringPart, Prod.mk.injEq] at h
  obtain ⟨⟨h1, h2, h3, h4, h5, h6, h7, h8⟩, h9, h10, h11⟩ := h
  exact ⟨h4.trans hc.1, h7.trans (by rw [hc.2.1]), h10.trans hc.2.2⟩

theorem done_xfers (m : Mach) (p : Nat) (tag : Byte) (st of_ : Nat) (pl : List Byte) : ((m.doneCmd p tag st of_ pl).part p).xfers = (m.part p).xfers := by
  have h := complete_ring m p 0xC1 2 tag st of_ pl 1
  simp only [ringPart, Prod.mk.injEq] at h
  exact h.2.2.1

theorem slotOutput_jobs (m : Mach) (s tick : Nat) (q : BitVec 16) (v : List (Nat × BitVec 32)) : (m.slotOutput s tick q v).dsp.jobs = m.dsp.jobs := by
  have hf : ∀ y : Mach, (y.flushOutputs s).dsp.jobs = y.dsp.jobs := by
    intro y
    unfold Mach.flushOutputs
    dsimp only
    rw [each_keep (fun k : Mach => k.dsp.jobs)]
    · rfl
    · intro o k; exact congrArg Dsp.jobs (dsp_of_touch (Mach.pubOutput_touch k o) rfl)
  unfold Mach.slotOutput
  dsimp only
  split
  · rfl
  · rw [hf]; exact congrArg Dsp.jobs (dsp_of_touch (Mach.pubOutput_touch m _) rfl)

theorem accept_facts (m : Mach) (j : Job) (q : BitVec 16) (v : List (Nat × BitVec 32)) (pl : List Byte) :
    (m.acceptResult j q v pl).dsp.jobs = (m.endJob j).dsp.jobs ∧ (m.acceptResult j q v pl).fld DSP_SLOT_STS_consec j.slot = 0 := by
  generalize hv : m.acceptResult j q v pl = w
  unfold Mach.acceptResult at hv
  extract_lets -underBinder -merge -useContext +onlyGivenNames sl q1 q2 late q3 a b c d e f dg g at hv
  have ha : a.dsp.jobs = (m.endJob j).dsp.jobs := rfl
  clear_value a
  have hb : b.dsp.jobs = (m.endJob j).dsp.jobs := by
    unfold b; split
    · rw [dsp_of_touch (Mach.slotEvent_touch _ _ _ _) rfl]; exact ha
    · exact ha
  clear_value b
  have hc : c.dsp.jobs = (m.endJob j).dsp.jobs ∧ c.fld DSP_SLOT_STS_consec j.slot = 0 := ⟨hb, fld_set _ _ _ _ rfl⟩
  clear_value c
  have hd : d.dsp.jobs = (m.endJob j).dsp.jobs ∧ d.fld DSP_SLOT_STS_consec j.slot = 0 := ⟨hc.1, (fld_set_clear _ _ _ _ _ _ rfl).trans hc.2⟩
  clear_value d
  have he : e.dsp.jobs = (m.endJob j).dsp.jobs ∧ e.fld DSP_SLOT_STS_consec j.slot = 0 :=
    ⟨(slotOutput_jobs _ _ _ _ _).trans hd.1, (fld_touch (Mach.slotOutput_touch _ _ _ _ _) _ _ rfl).trans hd.2⟩
  clear_value e
  have hf : f.dsp.jobs = (m.endJob j).dsp.jobs ∧ f.fld DSP_SLOT_STS_consec j.slot = 0 :=
    ⟨(congrArg Dsp.jobs (dsp_of_touch (Mach.acqResult_touch _ _ _ _ _) rfl)).trans he.1, (fld_touch (Mach.acqResult_touch _ _ _ _ _) _ _ rfl).trans he.2⟩
  clear_value f
  have hg : g.dsp.jobs = (m.endJob j).dsp.jobs ∧ g.fld DSP_SLOT_STS_consec j.slot = 0 := by
    unfold g; split
    · refine ⟨?_, ?_⟩
      · rw [dsp_of_touch (Mach.ownResult_touch _ _ _ _) rfl, dsp_of_touch (Mach.plaitSend_touch _ _) rfl]; exact hf.1
      · rw [fld_touch (Mach.ownResult_touch _ _ _ _) _ _ rfl, fld_touch (Mach.plaitSend_touch _ _) _ _ rfl]; exact hf.2
    · exact hf
  clear_value g
  rw [← hv]
  exact ⟨(congrArg Dsp.jobs (dsp_of_touch (Mach.cutAt_touch _ _ _) rfl)).trans hg.1, (fld_touch (Mach.cutAt_touch _ _ _) _ _ rfl).trans hg.2⟩

theorem find_slot {m : Mach} {s : Nat} {j : Job} (h : oldestJob m s = some j) : j.slot = s := by
  unfold oldestJob jobsOf at h
  have := List.mem_of_mem_head? (by rw [h]; exact rfl : j ∈ (m.dsp.jobs.filter fun j => j.slot = s).head?)
  simpa using (List.mem_filter.mp this).2

theorem count_parts (m : Mach) (f : Fd) (i n : Nat) : (m.count f i n).parts = m.parts := rfl

theorem showInflight_parts (m : Mach) (p : Nat) : (m.showInflight p).parts = m.parts := parts_of_touch (Mach.showInflight_touch m p) rfl

theorem dropXfer_xfers (m : Mach) (p : Nat) (x : Xfer) : ((m.dropXfer p x).part p).xfers = (m.part p).xfers.filter (fun y => y.tag != x.tag) := by
  unfold Mach.dropXfer
  rw [part_of_parts (showInflight_parts _ _), part_onPart]

theorem xferFault_facts (m : Mach) (p : Nat) (x : Xfer) (b : Nat) : (((m.dropXfer p x).xferFault p (some b)).part p).xfers = (m.part p).xfers.filter (fun y => y.tag != x.tag)
    ∧ ((m.dropXfer p x).xferFault p (some b)).fld (XFR_CNT_n.nth 3) = (m.fld (XFR_CNT_n.nth 3) + 1) % 2 ^ 32 := by
  unfold Mach.xferFault Mach.partEvent
  dsimp only
  refine ⟨?_, ?_⟩
  · have h := signalPart_ring (((m.dropXfer p x).count (XFR_CNT_n.nth 3)).event 0x33 b (.part p)) p 65 p
    simp only [ringPart, Prod.mk.injEq] at h
    refine h.2.2.1.trans ?_
    rw [part_of_parts (Mach.event_parts _ _ _ _ (by decide))]
    rw [part_of_parts (a := (m.dropXfer p x).count (XFR_CNT_n.nth 3)) (b := m.dropXfer p x) (count_parts _ _ _ _)]
    exact dropXfer_xfers m p x
  · rw [fld_touch (Mach.signalPart_touch _ _ _) _ _ rfl]
    rw [fld_event _ _ _ _ _ _ rfl, fld_count _ _ _ _ rfl]
    refine congrArg (fun n => (n + 1) % 2 ^ 32) ?_
    unfold Mach.dropXfer
    refine Eq.trans ?_ (fld_onPart m p (fun b => { b with xfers := b.xfers.filter fun y => y.tag != x.tag }) _ _)
    unfold Mach.showInflight
    dsimp only
    split
    · rw [fld_flag_clear _ _ _ _ _ _ rfl, fld_set_clear _ _ _ _ _ _ rfl, fld_set_clear _ _ _ _ _ _ rfl, fld_set_clear _ _ _ _ _ _ rfl, fld_set_clear _ _ _ _ _ _ rfl, fld_set_clear _ _ _ _ _ _ rfl]
    · rw [fld_set_clear _ _ _ _ _ _ rfl, fld_set_clear _ _ _ _ _ _ rfl, fld_set_clear _ _ _ _ _ _ rfl, fld_set_clear _ _ _ _ _ _ rfl, fld_set_clear _ _ _ _ _ _ rfl]

end Sys2Proof.Machine
end

