-- ==== Sys2Proof/Laws/Link.lean ====
section
/-! SUPPORT. The link between the twins: a Plait frame that passes is taken, and its message is what it lets through. -/

set_option maxRecDepth 4000

namespace Sys2Proof.Machine

theorem laneOf_onLane (m : Mach) (l k : Nat) (hl : l < 2) (hk : k < 2) (f : Lane → Lane) : laneOf (m.onLane l f) k = if k = l then f (laneOf m l) else laneOf m k := by
  unfold laneOf Mach.onLane Mach.onTwn
  interval_cases l <;> interval_cases k <;> rfl

/-- What a lane's sending leaves: its receive numbers. -/
theorem rx_onLane (m : Mach) (l k : Nat) (f : Lane → Lane) (hf : ∀ b, (f b).rxSeq = b.rxSeq ∧ (f b).rxPn = b.rxPn) :
    (laneOf (m.onLane l f) k).rxSeq = (laneOf m k).rxSeq ∧ (laneOf (m.onLane l f) k).rxPn = (laneOf m k).rxPn := by
  unfold laneOf Mach.onLane Mach.onTwn
  by_cases h1 : l = 0 <;> by_cases h2 : k = 0 <;> simp [h1, h2, hf]

theorem laneOf_of_twn {a b : Mach} (h : a.twn = b.twn) (l : Nat) : laneOf a l = laneOf b l := by unfold laneOf; rw [h]

/-- What sending on the link leaves: the receive numbers of its lanes and every timer but its own two kinds. -/
def Mach.rxSame (m x : Mach) : Prop := (∀ k, (laneOf x k).rxSeq = (laneOf m k).rxSeq ∧ (laneOf x k).rxPn = (laneOf m k).rxPn)
  ∧ ∀ tm, (∀ l, tm ≠ .keepIdle l) → (∀ l, tm ≠ .replay l) → x.deadline tm = m.deadline tm

theorem sendOn_rx (m : Mach) (l link tries : Nat) (x : PlaitMsg) : m.rxSame (m.sendOn l link tries x) := by
  unfold Mach.sendOn
  extract_lets -underBinder -merge -useContext +onlyGivenNames b y z w
  have h2 : w.twn = z.twn := by unfold w; split <;> rfl
  have hy := fun k => rx_onLane m l k (fun b => { b with
    txSeq := (b.txSeq + 1) % 2 ^ 16, txPn := b.txPn + 1
    unacked := b.unacked ++ [{ seq := b.txSeq, link := link, tries := tries, sentAt := m.now, msg := x }] }) (fun _ => ⟨rfl, rfl⟩)
  refine ⟨fun k => ?_, fun tm h3 h4 => ?_⟩
  · rw [laneOf_of_twn (show (Mach.emit w _).twn = y.twn from h2) k]; exact hy k
  · show w.deadline tm = _
    have hz : z.deadline tm = m.deadline tm := deadline_arm_other _ _ (h3 l)
    unfold w
    split
    · exact hz
    · rw [deadline_arm_other _ _ (h4 l)]; exact hz

theorem rxSame_trans {a b c : Mach} (h : a.rxSame b) (g : b.rxSame c) : a.rxSame c :=
  ⟨fun k => ⟨(g.1 k).1.trans (h.1 k).1, (g.1 k).2.trans (h.1 k).2⟩, fun tm h1 h2 => (g.2 tm h1 h2).trans (h.2 tm h1 h2)⟩

theorem nextPlait_rx (m : Mach) : m.rxSame m.nextPlait.2 := by
  unfold Mach.nextPlait
  split
  · exact ⟨fun _ => ⟨rfl, rfl⟩, fun _ _ _ => rfl⟩
  · split
    · exact ⟨fun _ => ⟨rfl, rfl⟩, fun _ _ _ => rfl⟩
    · exact ⟨fun _ => ⟨rfl, rfl⟩, fun _ _ _ => rfl⟩

theorem drainPlait_rx (k : Nat) : ∀ m : Mach, m.rxSame (m.drainPlait k) := by
  induction k with
  | zero => exact fun _ => ⟨fun _ => ⟨rfl, rfl⟩, fun _ _ _ => rfl⟩
  | succ k ih =>
    intro m
    unfold Mach.drainPlait
    split
    · rename_i he
      refine rxSame_trans ?_ (ih _)
      refine rxSame_trans ?_ (sendOn_rx _ _ _ _ _)
      have := nextPlait_rx m
      rwa [he] at this
    · exact ⟨fun _ => ⟨rfl, rfl⟩, fun _ _ _ => rfl⟩

theorem acknowledge_rx (m : Mach) (l ack : Nat) : m.rxSame (m.acknowledge l ack) ∧ twnRest (m.acknowledge l ack).twn = twnRest m.twn := by
  unfold Mach.acknowledge
  dsimp only
  split
  · exact ⟨⟨fun _ => ⟨rfl, rfl⟩, fun _ _ _ => rfl⟩, rfl⟩
  · split
    · refine ⟨⟨fun k => (?_ : _ ∧ _), fun tm h3 h4 => ?_⟩, onLane_twn m l (fun b => { b with unacked := (splitBy (fun u => seqLe u.seq ack) (laneOf m l).unacked).2, txHello := true })⟩
      · exact rx_onLane m l k (fun b => { b with unacked := (splitBy (fun u => seqLe u.seq ack) (laneOf m l).unacked).2, txHello := true }) (fun _ => ⟨rfl, rfl⟩)
      · exact deadline_disarm_other _ (h4 l)
    · refine ⟨⟨fun k => (?_ : _ ∧ _), fun tm h3 h4 => ?_⟩, onLane_twn m l (fun b => { b with unacked := (splitBy (fun u => seqLe u.seq ack) (laneOf m l).unacked).2, txHello := true })⟩
      · exact rx_onLane m l k (fun b => { b with unacked := (splitBy (fun u => seqLe u.seq ack) (laneOf m l).unacked).2, txHello := true }) (fun _ => ⟨rfl, rfl⟩)
      · exact deadline_arm_other _ _ (h4 l)

theorem linkAhead_self (m : Mach) (n : Nat) (h : n = m.twn.linkRx) : linkAhead m n = true := by
  have e : (n + 2 ^ 32 - m.twn.linkRx) % 2 ^ 32 < 2 ^ 31 := by omega
  exact decide_eq_true e

theorem deliverable_one (n : Nat) (x : PlaitMsg) : deliverable (([] : List (Nat × PlaitMsg)).length + 1) n [(n, x)] = ([x], (n + 1) % 2 ^ 32, []) := by
  show deliverable 1 n [(n, x)] = _
  rw [deliverable]
  simp only [List.find?, BEq.rfl, List.filter, bne_self_eq_false, deliverable]

theorem supervise_up (y : Mach) (h2 : plaitUp y = true) : (∀ f i, Fd.clear PLT_LAST_RX_tag f = true → Fd.clear PLT_CNT_n f = true → y.supervise.fld f i = y.fld f i)
    ∧ y.supervise.fld PLT_CNT_n = (y.fld PLT_CNT_n + 1) % 2 ^ 32 ∧ y.supervise.twn = { y.twn with lastTick := pairTick y (tickNow y) }
    ∧ y.supervise.deadline .supervision = some (y.now + y.cfg PLT_SUP_timeout * 1000) := by
  generalize hp : (y.setFld PLT_LAST_RX_tag 0 y.tag.toNat).count PLT_CNT_n = p
  have pf : ∀ f i, Fd.clear PLT_LAST_RX_tag f = true → Fd.clear PLT_CNT_n f = true → p.fld f i = y.fld f i := by
    intro f i g1 g2
    rw [← hp, fld_count_clear _ _ _ _ _ _ g2, fld_set_clear _ _ _ _ _ _ g1]
  have pc : p.fld PLT_CNT_n = (y.fld PLT_CNT_n + 1) % 2 ^ 32 := by
    rw [← hp, fld_count _ _ _ _ rfl, fld_set_clear _ _ _ _ _ _ rfl]; rfl
  have ps : p.svi = y.svi ∧ p.force = y.force ∧ p.now = y.now ∧ p.twn = y.twn := by rw [← hp]; exact ⟨rfl, rfl, rfl, rfl⟩
  obtain ⟨q, hq⟩ : ∃ q, q = p.onTwn fun t => { t with lastTick := pairTick p (tickNow p) } := ⟨_, rfl⟩
  have qs : q.regs = p.regs ∧ q.force = p.force ∧ q.now = p.now ∧ q.twn = { p.twn with lastTick := pairTick p (tickNow p) } := by
    rw [hq]; exact ⟨rfl, rfl, rfl, rfl⟩
  have e : y.supervise = q.arm .supervision (q.now + q.cfg PLT_SUP_timeout * 1000) := by
    unfold Mach.supervise
    extract_lets -underBinder -merge -useContext +onlyGivenNames a b c
    have hb : b = q := by rw [hq, ← hp]
    have hc : c = q.arm .supervision (q.now + q.cfg PLT_SUP_timeout * 1000) := by rw [← hb]
    rw [if_pos]
    · exact hc
    · have h3 : c.fld PLT_STS_up = y.fld PLT_STS_up := by
        rw [hc]
        exact (fld_of_regs qs.1 _ _).trans (pf PLT_STS_up 0 rfl rfl)
      unfold plaitUp Mach.flag at h2 ⊢
      exact (congrArg (· == 1) h3).trans h2
  rw [e]
  clear e hp
  have qf : ∀ f i, (q.arm .supervision (q.now + q.cfg PLT_SUP_timeout * 1000)).fld f i = p.fld f i := fun f i => fld_of_regs qs.1 f i
  refine ⟨fun f i g1 g2 => (qf f i).trans (pf f i g1 g2), (qf _ _).trans pc, ?_, ?_⟩
  · show q.twn = _
    rw [qs.2.2.2]
    have e2 : tickNow p = tickNow y := by unfold tickNow; rw [ps.1, ps.2.2.1]
    unfold pairTick tickOfs fld64
    rw [e2, pf TWN_TICK_OFS_LO_w 0 rfl rfl, pf TWN_TICK_OFS_HI_w 0 rfl rfl, ps.2.2.2]
  · rw [deadline_arm_same, qs.2.2.1, ps.2.2.1, cfg_of_force (qs.2.1.trans ps.2.1)]

/-- A frame that has crossed and passes is taken, and its message is what it lets through. -/
theorem plaitTake_passes (m : Mach) (h : PlaitHdr) (msg : PlaitMsg) (h1 : laneState m h.lane = 2) (h2 : plaitUp m = true) (h3 : plaitSecOk m h = true)
    (h4 : h.laneSeq.toNat = (laneOf m h.lane).rxSeq) (h5 : h.linkSeq.toNat = m.twn.linkRx) (h6 : m.twn.reorder = []) :
    (m.plaitTake h msg).2 = [msg] ∧ (m.plaitTake h msg).1.fld PLT_CNT_n = (m.fld PLT_CNT_n + 1) % 2 ^ 32 ∧ m.touch 0x1003108 0x3000000000000 (m.plaitTake h msg).1
      ∧ (∀ f i, Fd.clear PLT_LAST_RX_tag f = true → Fd.clear PLT_CNT_n f = true → (m.plaitTake h msg).1.fld f i = m.fld f i)
      ∧ twnRest (m.plaitTake h msg).1.twn = twnRest { m.twn with linkRx := (m.twn.linkRx + 1) % 2 ^ 32, lastTick := pairTick m (tickNow m) }
      ∧ (laneOf (m.plaitTake h msg).1 h.lane).rxSeq = ((laneOf m h.lane).rxSeq + 1) % 2 ^ 16 ∧ (laneOf (m.plaitTake h msg).1 h.lane).rxPn = h.sec.pn
      ∧ (m.plaitTake h msg).1.deadline .supervision = some (m.now + m.cfg PLT_SUP_timeout * 1000) := by
  have hl : h.lane.val < 2 := h.lane.isLt
  generalize hv : m.plaitTake h msg = v
  unfold Mach.plaitTake at hv
  extract_lets -underBinder -merge -useContext +onlyGivenNames l at hv
  rw [if_neg (by rw [h3]; decide)] at hv
  extract_lets -underBinder -merge -useContext +onlyGivenNames a at hv
  have ha : laneOf a l = { laneOf m l with rxPn := h.sec.pn } := by
    unfold a; rw [laneOf_onLane _ _ _ hl hl, if_pos rfl]
  rw [if_neg (by rw [ha, h4]; simp [l])] at hv
  extract_lets -underBinder -merge -useContext +onlyGivenNames hello b c d n at hv
  have at_ : twnRest a.twn = twnRest m.twn := onLane_twn _ _ _
  have hb : laneOf b l = { laneOf a l with rxSeq := ((laneOf a l).rxSeq + 1) % 2 ^ 16, rxHello := (laneOf a l).rxHello || hello } := by
    unfold b; rw [laneOf_onLane _ _ _ hl hl, if_pos rfl]
  have bt : twnRest b.twn = twnRest m.twn := (onLane_twn _ _ _).trans at_
  have bst : m.touch 0x1003108 0x1000000000000 b := touch_app (touch_app (touch_refl _ _ m) (Mach.onLane_touch m l _) rfl rfl) (Mach.onLane_touch a l _) rfl rfl
  obtain ⟨k1, k2⟩ := acknowledge_rx b l h.ack.toNat
  have kt : m.touch 0x1003108 0x1000000000000 (b.acknowledge l h.ack.toNat) := touch_app bst (Mach.acknowledge_touch b l _) rfl rfl
  have kr : (b.acknowledge l h.ack.toNat).regs = m.regs := regs_of_touch (touch_app (touch_app (touch_app (touch_refl 0x1000100 0 m)
    (Mach.onLane_touch m l _) rfl rfl) (Mach.onLane_touch a l _) rfl rfl) (Mach.acknowledge_touch b l _) rfl rfl) rfl
  have hc : c = (b.acknowledge l h.ack.toNat).supervise.laneUp l := rfl
  clear_value c
  generalize b.acknowledge l h.ack.toNat = y at k1 k2 kt hc kr
  have e1 : ∀ f i, y.fld f i = m.fld f i := fun f i => fld_of_regs kr f i
  have tt := Mach.supervise_touch y
  have y2 : plaitUp y = true := by
    have := e1 PLT_STS_up 0
    unfold plaitUp Mach.flag at h2 ⊢
    rw [this]; exact h2
  obtain ⟨s1, s2, s3, s4⟩ := supervise_up y y2
  generalize y.supervise = r at hc tt s1 s2 s3 s4
  have pt : ∀ f i, Fd.clear PLT_LAST_RX_tag f = true → Fd.clear PLT_CNT_n f = true → r.fld f i = m.fld f i := fun f i g1 g2 => (s1 f i g1 g2).trans (e1 f i)
  have pc : r.fld PLT_CNT_n = (m.fld PLT_CNT_n + 1) % 2 ^ 32 := by rw [s2, e1]
  have rl : twnRest r.twn = twnRest { m.twn with lastTick := pairTick m (tickNow m) } := by
    have e : pairTick y (tickNow y) = pairTick m (tickNow m) := by
      have e2 : tickNow y = tickNow m := by unfold tickNow; rw [svi_of_touch kt rfl, now_of_touch kt rfl]
      unfold pairTick tickOfs fld64
      rw [e2, e1, e1]
    rw [s3, e]
    have := congrArg (fun t : Twn => twnRest { t with lastTick := pairTick m (tickNow m) }) (k2.trans bt)
    exact this
  have rd : r.deadline .supervision = some (m.now + m.cfg PLT_SUP_timeout * 1000) := by
    rw [s4, now_of_touch kt rfl, cfg_of_force (force_of_touch kt rfl)]
  have rk : ∀ k, laneOf r k = laneOf y k := by
    intro k; unfold laneOf; rw [s3]
  -- lane up already
  have ls : laneState r l = 2 := by
    have : laneState r l = laneState m l := by
      unfold laneState
      split
      · exact pt _ _ rfl rfl
      · exact pt _ _ rfl rfl
    rw [this]; exact h1
  have hc2 : c = r := by
    rw [hc]
    unfold Mach.laneUp
    dsimp only
    rw [ls]; rfl
  have rt : m.touch 0x1003108 0x3000000000000 r := touch_trans (touch_mono kt rfl rfl) tt
  have rx : ∀ k, (laneOf r k).rxSeq = (laneOf b k).rxSeq ∧ (laneOf r k).rxPn = (laneOf b k).rxPn := by
    intro k
    rw [rk]; exact k1.1 k
  clear hc
  subst hc2
  obtain ⟨d1, d2⟩ := drainPlait_rx (c.twn.resendQ.length + c.twn.sendQ.length) c
  have d3 := drainPlait_twn (c.twn.resendQ.length + c.twn.sendQ.length) c
  have d4 := Mach.drainPlait_touch c (c.twn.resendQ.length + c.twn.sendQ.length)
  change twnRest d.twn = _ at d3
  change c.touch _ _ d at d4
  change ∀ k, (laneOf d k).rxSeq = _ ∧ (laneOf d k).rxPn = _ at d1
  change ∀ tm, (∀ l, tm ≠ .keepIdle l) → (∀ l, tm ≠ .replay l) → d.deadline tm = c.deadline tm at d2
  clear_value d
  have dt := d3.trans rl
  have g1 : d.twn.linkRx = m.twn.linkRx := by have := congrArg Twn.linkRx dt; exact this
  have g2 : d.twn.reorder = [] := by have := congrArg Twn.reorder dt; exact this.trans h6
  have g3 : linkAhead d n = true := by
    exact linkAhead_self d n (by rw [g1]; exact h5)
  rw [if_pos g3, g1, g2] at hv
  have hn : n = m.twn.linkRx := h5
  have he : deliverable (([] : List (Nat × PlaitMsg)).length + 1) m.twn.linkRx [(n, msg)] = ([msg], (m.twn.linkRx + 1) % 2 ^ 32, []) := by
    rw [hn]; exact deliverable_one _ _
  rw [he] at hv
  rw [← hv]
  have dl : laneOf d h.lane = laneOf d l := rfl
  refine ⟨rfl, ?_, ?_, ?_, ?_, ?_, ?_, ?_⟩
  · show d.fld PLT_CNT_n = _
    rw [fld_of_regs (regs_of_touch d4 rfl)]; exact pc
  · exact touch_app (touch_app rt d4 rfl rfl) (Mach.onTwn_touch ..) rfl rfl
  · intro f i q1 q2
    show d.fld f i = _
    rw [fld_of_regs (regs_of_touch d4 rfl)]; exact pt f i q1 q2
  · show twnRest { d.twn with linkRx := _, reorder := _ } = _
    have := congrArg (fun t : Twn => twnRest { t with linkRx := (m.twn.linkRx + 1) % 2 ^ 32, reorder := [] }) dt
    refine this.trans ?_
    simp only [h6]
  · show (laneOf d l).rxSeq = _
    rw [(d1 l).1, (rx l).1, hb, ha]
  · show (laneOf d l).rxPn = _
    rw [(d1 l).2, (rx l).2, hb, ha]
  · show d.deadline .supervision = _
    rw [d2 _ (fun _ => by simp) (fun _ => by simp)]; exact rd

/-- A frame that passes is taken, and its message is what it lets through. -/
theorem plaitRx_passes (m : Mach) (h : PlaitHdr) (msg : PlaitMsg) (hp : m.plaitPasses h) :
    (m.plaitRx h msg).2 = [msg] ∧ (m.plaitRx h msg).1.fld PLT_CNT_n = (m.fld PLT_CNT_n + 1) % 2 ^ 32 ∧ m.touch 0x100b108 0x83000000000000 (m.plaitRx h msg).1
      ∧ (∀ f i, Fd.clear PLT_LAST_RX_tag f = true → Fd.clear PLT_CNT_n f = true → (m.plaitRx h msg).1.fld f i = m.fld f i)
      ∧ twnRest (m.plaitRx h msg).1.twn = twnRest { m.twn with linkRx := (m.twn.linkRx + 1) % 2 ^ 32, lastTick := pairTick m (tickNow m) }
      ∧ (laneOf (m.plaitRx h msg).1 h.lane).rxSeq = ((laneOf m h.lane).rxSeq + 1) % 2 ^ 16 ∧ (laneOf (m.plaitRx h msg).1 h.lane).rxPn = h.sec.pn
      ∧ (m.plaitRx h msg).1.deadline .supervision = some (m.now + m.cfg PLT_SUP_timeout * 1000) := by
  obtain ⟨h0, h1, h2, h3, h4, h5, h6, _⟩ := hp
  have e : m.plaitRx h msg = (m.sendBeats (28 + h.lane) (beatsOf h.sec.covered.length)).plaitTake h msg := by
    unfold Mach.plaitRx
    dsimp only
    rw [if_neg (by rw [h1]; simp), h0, if_neg (by decide)]
  obtain ⟨a1, a2, a3, a4, a5, a6, a7, a8⟩ := plaitTake_passes (m.sendBeats (28 + h.lane) (beatsOf h.sec.covered.length)) h msg h1 h2 h3 h4 h5 h6
  rw [e]
  exact ⟨a1, a2, touch_trans (touch_mono (Mach.sendBeats_touch m _ _) rfl rfl) (touch_mono a3 rfl rfl), a4, a5, a6, a7, a8⟩

theorem plaitFrame_passes (m : Mach) (h : PlaitHdr) (msg : PlaitMsg) (hp : m.plaitPasses h) :
    ∃ y : Mach, m.plaitFrame h msg = (y.plaitMsg msg).handled ∧ m.took h y ∧ m.touch 0x100b108 0x83000000000000 y
      ∧ twnRest y.twn = twnRest { m.twn with linkRx := (m.twn.linkRx + 1) % 2 ^ 32, evidence := false, lastTick := pairTick m (tickNow m) }
      ∧ ∀ (f : Fd) i, Fd.clear PLT_LAST_RX_tag f = true → Fd.clear PLT_CNT_n f = true → Fd.clear TWN_STS_in_step f = true → y.fld f i = m.fld f i := by
  obtain ⟨a1, a2, a3, a4, a5, a6, a7, a8⟩ := plaitRx_passes m h msg hp
  obtain ⟨_, h1, h2, h3, h4, h5, h6, h7⟩ := hp
  have e : m.plaitFrame h msg = (fun (w : Mach × List PlaitMsg) => if w.1.fld PLT_CNT_n = m.fld PLT_CNT_n then w.1 else
      (fun x : Mach => (fun y : Mach => ((y.helloUp h.lane.val (laneState m h.lane.val)).each w.2 fun x m => m.plaitMsg x).handled)
        (if twnState x = 2 then (x.setRole (roleOf 2 (plaitUp x))).showStep else x)) (w.1.onTwn fun t => { t with evidence := false })) (m.plaitRx h msg) := rfl
  rw [e]
  generalize m.plaitRx h msg = w at *
  obtain ⟨w, ms⟩ := w
  dsimp only at a1 a2 a3 a4 a5 a6 a7 a8
  subst a1
  have hne : ¬ w.fld PLT_CNT_n = m.fld PLT_CNT_n := by
    rw [a2]
    have := fld_lt m PLT_CNT_n 0
    have e : (2 : Nat) ^ (PLT_CNT_n.hi + 1 - PLT_CNT_n.lo) = 2 ^ 32 := rfl
    rw [e] at this
    omega
  beta_reduce
  rw [if_neg hne]
  generalize hxe : (w.onTwn fun t => { t with evidence := false }) = x
  generalize hye : (if twnState x = 2 then (x.setRole (roleOf 2 (plaitUp x))).showStep else x) = y
  have hx : ∀ f i, x.fld f i = w.fld f i := fun f i => by rw [← hxe]; exact fld_of_regs rfl f i
  have xw : x.twn = { w.twn with evidence := false } := by rw [← hxe]; rfl
  have st : twnState x = twnState m := (hx _ _).trans (a4 TWN_STS_state 0 rfl rfl)
  have role : pubRole x = pubRole m := (hx PUB_STS_role 0).trans (a4 PUB_STS_role 0 rfl rfl)
  have hy : y.twn = x.twn ∧ m.touch 0x100b108 0x83000000000000 y ∧ y.timers = x.timers ∧ ∀ f i, Fd.clear TWN_STS_in_step f = true → y.fld f i = x.fld f i := by
    have xt : m.touch 0x100b108 0x83000000000000 x := by rw [← hxe]; exact touch_app a3 (Mach.onTwn_touch ..) rfl rfl
    rw [← hye]
    split
    · rename_i h0
      have e : x.setRole (roleOf 2 (plaitUp x)) = x := by
        have up : plaitUp x = true := by
          have := (hx PLT_STS_up 0).trans (a4 PLT_STS_up 0 rfl rfl)
          unfold plaitUp Mach.flag at h2 ⊢
          rw [this]; exact h2
        unfold Mach.setRole
        rw [if_pos]
        rw [role, up, h7 (st ▸ h0)]; rfl
      rw [e]
      refine ⟨rfl, touch_app xt (Mach.showStep_touch x) rfl rfl, rfl, ?_⟩
      intro f i hf
      exact fld_flag_clear _ _ _ _ _ _ hf
    · exact ⟨rfl, xt, rfl, fun _ _ _ => rfl⟩
  obtain ⟨y1, y2, y3, y4⟩ := hy
  have hz : y.helloUp h.lane.val (laneState m h.lane.val) = y := by
    unfold Mach.helloUp
    rw [if_neg]
    intro hh; exact hh.2 h1
  rw [hz]
  refine ⟨y, rfl, ⟨?_, ?_, ?_, ?_, ?_, ?_, ?_, ?_, ?_⟩, y2, ?_, ?_⟩
  · rw [y1, xw]; have := congrArg Twn.linkRx a5; exact this
  · rw [laneOf_of_twn y1, ← hxe]; exact a6
  · rw [laneOf_of_twn y1, ← hxe]; exact a7
  · rw [y1, xw]
  · rw [y4 _ _ rfl, hx]; exact a2
  · show (y.timers.find? _).map _ = _
    rw [y3, ← hxe]; exact a8
  · exact (y4 TWN_STS_state 0 rfl).trans st
  · exact force_of_touch y2 rfl
  · exact svi_of_touch y2 rfl
  · rw [y1, xw]
    show twnRest { w.twn with evidence := false } = _
    have := congrArg (fun t : Twn => twnRest { t with evidence := false }) a5
    exact this
  · intro f i q1 q2 q3
    rw [y4 f i q3, hx]; exact a4 f i q1 q2

end Sys2Proof.Machine
end

