-- ==== Sys2Proof/Tests/Slice0.lean ====
section
/-! SUPPORT. For each statement with hypotheses, a state and operands that meet those of its clauses; and a few single commands whose
result is worked out by hand from the manual. Left out are hypotheses on constants that have no body: a key that opens, an image that
verifies. -/

namespace Sys2Proof.Tests
open Sys2Proof Sys2Proof.Machine

/-- The module after reset with fields set, both held and in force: field, instance, value. -/
def fields (l : List (Fd × Nat × Nat)) : Mach :=
  let m := l.foldl (fun (m : Mach) e => m.setFld e.1 e.2.1 e.2.2) {}
  { m with force := m.regs }

/-- A module that is held off (R435). -/
def off : Mach := { (State.reset).m with powered := false }

/-- Reset, with a timer that has run out at instant 0. -/
def ran (tm : Timer) (m : Mach := {}) : Mach := { m with timers := [(tm, 0)] }

/-- A module whose command port is up on both transports, with a command key in slot 0. -/
def port : Mach :=
  let m := fields [(CMD_CTRL_pcie_en, 0, 1), (CMD_CTRL_udp_en, 0, 1), (RST_STS_phase, 0, 5), (KEY_SLOT_usage, 0, 1)]
  { m with cmd := { m.cmd with perst := false, linkUp := true }, rim := { m.rim with keys := [(0, 0)] } }

/-- A whole packet with the payload, its auth trailer made with the key of `port`. -/
def packet (op page : Byte) (off : Word) (payload : List Byte) : VPacket :=
  let pk : VPacket := { flags := 1, page := page, offset := off, length := BitVec.ofNat 16 payload.length, payload := payload, fresh := 1 }
  { pk with trailer := packetMac 0 (commandHeader { opcode := op, pk := pk }) payload port.cmd.session }

theorem hmac_length (k : Key) (l : List Byte) : (Config.hmacSha256 k l).length = 32 := by simp [Config.hmacSha256]

theorem authKey_port : authKey port .udp = some 0 := by decide

theorem test_passes_privileged : (port.advance 1).passes .udp { opcode := 0x02, pk := packet 0x02 0x05 0x018 [0, 0, 0, 1] }
    ∧ (port.advance 1).passes .pcie { opcode := 0x10, pk := packet 0x10 0x05 0 [] } := by
  constructor <;>
  · refine ⟨rfl, by decide, fun _ => rfl, ?_, by decide, by decide, by decide, by decide, by decide, fun h => absurd h (by decide), fun _ => ⟨by decide, 0, by decide, rfl⟩, by decide, fun h => absurd h (by decide)⟩
    simp [sizeOk, packet, packetMac, hmac_length, hasAuth]

theorem test_StepKeepsMemoryCanonical_premises : State.reset.m.memOk := ⟨by decide, by decide, by decide⟩

theorem test_HeldOffModuleStays_premises : State.HeldOff { pending := [.pciePerst 0], m := off } := ⟨by decide, by decide⟩

theorem test_RegisterWriteStores_premises :
    State.reset.m.mayWrite .manager ∧ mapped 0x05 = true ∧ rimLocked State.reset.m = false ∧ underAdmission State.reset.m 0x05 = false
      ∧ State.reset.m.coil.fifo.length < 32 ∧ max State.reset.m.now 1 / 2 ^ 32 ≤ State.reset.m.coil.wrapNo := by decide

theorem test_PageLockCommitsAndUnlocks_premises :
    (fields [(hCommitted 0x05, 0, 1)]).flag (hCommitted 0x05) = true ∧ State.reset.m.flag (hCommitted 0x05) = false
      ∧ admittedPage 0x0D = false ∧ lockRefusal (State.reset.m.advance 1) .manager 0x0D 0x5EA10001 = none
      ∧ admittedPage 0x30 = true ∧ lockRefusal (State.reset.m.advance 1) .manager 0x30 0x5EA10001 = none := by decide

theorem test_UnmappedPage_premises : mapped 0x40 = false ∧ (fields [(RIM_STS_dbg, 0, 1)]).fld RIM_STS_dbg ≠ 0 := by decide

theorem test_SoftReset_premises :
    inUse State.reset.m 0x05 = false ∧ inUse (fields [(hStaged 0x05, 0, 1)]) 0x05 = true ∧ (ran (.softReset 5)).fires (.softReset 5) 0 := by
  simp only [Mach.fires]; decide

theorem test_PcieTransportMoves_premises : transportUp port .pcie = true ∧ port.cmd.unfetched = [] ∧ port.cmd.waiting = []
    ∧ opcodes.contains 0x7F = true := by decide

theorem test_UdpTransport_premises : transportUp port .udp = true
    ∧ ((0 : Word) &&& port.inForce 0x36 0x05C 0) = (port.inForce 0x36 0x058 0 &&& port.inForce 0x36 0x05C 0)
    ∧ (parsePacket (bytesBE 16 (0x7F * 2 ^ 120))).isSome = true ∧ (ran (.stored .udp 0)).due (.stored .udp 0) = true := by decide

theorem test_commandTimeout_premises :
    let o : OutCmd := { tr := .udp, route := .udp 0 0 0, vc := { opcode := 0x12, pk := {} }, auth := true, since := 0, waiting := false }
    let m := { port with cmd := { port.cmd with out := [o] } }
    m.ringRoom .udp ∧ executing m .udp 0 = some o := by
  refine ⟨fun h => absurd h (by decide), by decide⟩

theorem test_VreltiNop_premises : (port.advance 1).passes .udp { opcode := 0x7F, pk := packet 0x7F 0 0 [1, 2] }
    ∧ (port.advance 1).passes .udp { opcode := 0x01, pk := packet 0x01 0x05 0x040 [0, 0, 0, 2] } ∧ port.ringRoom .pcie := by
  refine ⟨?_, ?_, by simp only [Mach.ringRoom]; decide⟩ <;>
  · refine ⟨rfl, by decide, fun _ => rfl, ?_, by decide, by decide, by decide, by decide, by decide, fun h => absurd h (by decide), fun _ => ⟨by decide, 0, by decide, rfl⟩, by decide, fun h => absurd h (by decide)⟩
    simp [sizeOk, packet, packetMac, hmac_length, hasAuth]

theorem test_VreltiWrites_premises : (port.advance 1).passes .udp { opcode := 0x02, pk := packet 0x02 0x05 0x018 [0, 0, 0, 1] }
    ∧ (port.advance 1).passes .pcie { opcode := 0x10, pk := packet 0x10 0x05 0 [] }
    ∧ rimLocked port = false ∧ underAdmission port 0x05 = false ∧ port.flag (hCommitted 0x05) = false := by
  refine ⟨?_, ?_, by decide⟩ <;>
  · refine ⟨rfl, by decide, fun _ => rfl, ?_, by decide, by decide, by decide, by decide, by decide, fun h => absurd h (by decide), fun _ => ⟨by decide, 0, by decide, rfl⟩, by decide, fun h => absurd h (by decide)⟩
    simp [sizeOk, packet, packetMac, hmac_length, hasAuth]

theorem test_VreltiBulkAndLoads_premises : (port.advance 1).passes .udp { opcode := 0x21, pk := packet 0x21 0x0A 0 [7] }
    ∧ (port.advance 1).passes .udp { opcode := 0x30, pk := packet 0x30 0 0 [7] } ∧ bulkSize 0x0A 0 = some 131072
    ∧ openLoad port 0x30 = none ∧ port.adm.run = none := by
  refine ⟨?_, ?_, by decide⟩ <;>
  · refine ⟨rfl, by decide, fun _ => rfl, ?_, by decide, by decide, by decide, by decide, by decide, fun h => absurd h (by decide), fun _ => ⟨by decide, 0, by decide, rfl⟩, by decide, fun h => absurd h (by decide)⟩
    simp [sizeOk, packet, packetMac, hmac_length, hasAuth]

theorem test_LoadsEnd_premises :
    let l : Load := { opcode := 0x30, data := [1], tr := .udp, tag := 0, verifying := true }
    verifyingLoad { port with cmd := { port.cmd with loads := [l] } } 0x30 = some l
      ∧ keyUsage [0, 0, 1] ≠ 0 ∧ keyUsage [0, 0, 1] < 8 := by decide

theorem test_RimClears_premises :
    let m := { port with regs := (port.setFld RIM_STS_state 0 1).regs }
    m.fld RIM_STS_state ≠ 0 ∧ (m.keyFor (authSlot m .udp) 1).isSome = true ∧ m.fld RIM_ACTIVE_src = 0 ∧ policyOf State.reset.m 4 < 4 := by decide

theorem test_debugUnlock_premises :
    let m := fields [(RIM_DBG_allow, 0, 1), (RIM_DBG_slot, 0, 3), (KEY_SLOT_usage, 3, 6)]
    let m := { m with rim := { m.rim with keys := [(3, 0)], challenge := some [] } }
    m.fld RIM_STS_state = 0 ∧ 1 ≤ m.cfg RIM_DBG_allow ∧ m.keyFor (m.cfg RIM_DBG_slot) 6 = some 0 := by decide

theorem test_Tamper_premises : State.reset.m.rim.lidOpen = false ∧ State.reset.m.rim.meshCut = false ∧ State.reset.m.rim.openReads < 2
    ∧ bit (State.reset.m.fld RIM_ACTIVE_src) 2 = false := by decide

theorem test_AdmissionRuns_premises : State.reset.m.adm.run = none
    ∧ plaitUp (fields [(PLT_STS_up, 0, 1)]) = true ∧ (fields [(TWN_STS_state, 0, 3)]).fld TWN_STS_state = 3 := by decide

theorem test_Shares_premises : max State.reset.m.now 1000000 % 1000000 = 0 ∧ State.reset.m.adm.due = none
    ∧ State.reset.m.cfg DSP_CFG_mgr_win * 1000 ≤ 999999 := by decide

theorem test_Crossings_premises : hasKind 8 .event = false ∧ hasKind 0 .event = true
    ∧ (let c := crossing { State.reset.m with cdc := [(32, { fifo := 1, stream := some 0, value := some (0, [1]), count := some (0, [1]), event := some (0, 0, 0) })] } 32;
        c.stream.isSome = true ∧ c.value = some (0, [1]) ∧ c.count = some (0, [1]) ∧ c.event.isSome = true) := by decide

theorem test_TimeSources_premises :
    let m := fields [(TIME_QUAL_source, 0, 3), (TIME_QUAL_irig_qual, 0, 1), (TIME_STEP_thr, 0, 1), (TIME_CTRL_step_en, 0, 1)]
    m.fld TIME_QUAL_source = 2 + 1 ∧ srcQualified m (2 + 1) = true ∧ m.time.discard = false ∧ m.cfg TIME_STEP_thr * 1000 < (2000 : Int).natAbs
      ∧ m.on TIME_CTRL_step_en = true ∧ (ran .bridging).due .bridging = true := by decide

/-- A frame of format B004 with every digit 0: position markers of 8 ms at their places, every other element 2 ms. -/
def irigBlank : IrigFrame := { fmt := 4, widths := 8000000 :: (List.range 99).map (fun i => if (i + 1) % 10 = 9 then 8000000 else 2000000), edgeDist := 0 }

theorem test_TimePins_premises :
    let m := fields [(TIME_CTRL_pps_out_en, 0, 1), (TIME_QUAL_state, 0, 2), (TIME_IRIG_en, 0, 1), (TIME_QUAL_pps_qual, 0, 1), (TIME_QUAL_in10m_qual, 0, 1)]
    ppsPlausible (State.reset.m.advance 5) 1000 = true ∧ ppsPlausible (State.reset.m.advance 5) 999 = false ∧ ppsAllowed m = true
      ∧ (m.advance 1000000000).station = 1000000000 * 1 ∧ m.cfg TIME_PPS_OUT_DLY_dly = 0 ∧ m.flag TIME_QUAL_in10m_qual = true
      ∧ (irigAccepted m irigBlank).isSome = true := by decide

/-- A frame that is neither tagged nor protected. -/
def plainFrame (dst : Mac) (etype : BitVec 16) (body : Payload) : Frame :=
  { dst := dst, src := 0, tag := .untagged, etype := etype, len := 64, fcs := .good, codeErr := false, sec := none, red := .plain, body := body }

theorem test_PtpClock_premises :
    let m := fields [(PTP_DOM_en, 0, 1), (PTP_PCFG_dom, 0, 1)]
    let p : PtpMsg := { version := 2, lenOk := true, domain := BitVec.ofNat 8 (m.cfg PTP_DOM_domain), kind := .sync, twoStep := true, corr := 0, clockId := 0
                        portNum := 0, seqId := 0, logInt := 0, stamp := 0, rxAt := 0, ann := ⟨0, 0, 0, 0, 0, 0, 0, []⟩ }
    (match checkPtp (m.advance 1) 0 (plainFrame ptpAddr 0x88F7 (.ptp p)) with | .ok (q, d) => q.kind == .sync && d == 0 | .error _ => false) = true
      ∧ (match checkPtp (m.advance 1) 0 (plainFrame ptpAddr 0x88F8 (.ptp p)) with | .ok _ => false | .error n => n == 1) = true
      ∧ (ran (.announce 0)).due (.announce 0) = true := by decide

theorem test_Ticks_premises :
    let m := fields [(SVI_GRP_CFG_en, 0, 1)]
    let m := { m with svi := { m.svi with gens := [{ first := 0, force := m.force, bulk := [] }] } }
    twnState (fields [(TWN_STS_state, 0, 4)]) = 4 ∧ nextOpen (m.advance 1) 0 = some 0 ∧ expiredAt (m.advance 1) 0 100000000 = true
      ∧ expiredAt (m.advance 1) 0 0 = false ∧ nextOpen State.reset.m 1 = none := by decide

/-- A module that subscribes to one stream of one ASDU with one channel. -/
def subscribed : Mach :=
  let m := fields [(SVI_SUB_CTRL_en, 0, 1), (SVI_GRP_CFG_en, 0, 1), (SVI_SUB_CTRL_n_asdu, 0, 0), (SVI_SUB_CTRL_rate, 0, 1), (SVI_SUB_DMAC_LO_lo, 0, 9)
    , (SVI_TICK_rate, 0, 1)]
  { m with svi := { m.svi with gens := [{ first := 0, force := m.force, bulk := [] }] } }

def sample : Asdu := { svid := [], confRev := 0, smpCnt := 1, smpRate := none, smpSynch := 2, seqBytes := 8, chans := [(0, 0)] }

def svBody : SvApdu := { appid := 0x4000, lenOk := true, reserved := 0, sim := false, ext := none, decodes := true, noAsdu := 1, asdus := [sample] }

theorem test_SvFrames_premises : subscribed.svPasses (plainFrame 9 0x88BA (.sv svBody)) svBody 0 208333 ∧ subscribed.asduPasses 0 sample
    ∧ resampled (genNow subscribed) 0 = false ∧ groupClass (genNow subscribed) (subscribed.cfg SVI_SUB_CTRL_group 0) = 0
    ∧ tickOnGrid subscribed.svi.grids 4800 (nearest 4800 208333 1).1 none = some 1 ∧ openFor (subscribed.advance 208333) 0 1 208333 = true
    ∧ placedIn subscribed 1 0 = true ∧ backlog subscribed < 256 ∧ subFor State.reset.m 9 0 = none := by
  simp only [Mach.svPasses, Mach.asduPasses]; decide

theorem test_Equalisation_premises : (ran (.combWait 0)).fires (.combWait 0) 0 ∧ (ran (.eqComb 0)).fires (.eqComb 0) 0 := by
  simp only [Mach.fires]; decide

theorem test_Measurands_premises : State.reset.m.msr.busy = none ∧ (fields [(MSR_TRK_STS_state, 0, 3)]).fld MSR_TRK_STS_state 0 = 3
    ∧ (fields [(MSR_TS_STS_state, 0, 1)]).fld MSR_TS_STS_state 0 = 1 ∧ (ran (.tracker 0)).due (.tracker 0) = true := by decide

/-- A module whose partition 0 is Active with a command in its ring, one job pending and one release deferred. -/
def active : Mach :=
  let m := fields [(VRT_PART_STS_state, 0, psActive), (DSP_SLOT_STS_state, 0, 1)]
  { m with
    parts := [(0, { cmdLog := 4, cplLog := 4, cmdProd := 1 })]
    timers := [(.deferral 0, 0)]
    dsp := { m.dsp with
      jobs := [{ slot := 0, tick := 5, released := 0, deadline := 10, core := 0, budget := 4, primed := true }]
      deferred := [{ slot := 0, at_ := 0, block := none, tick := 6 }] } }

theorem test_Slots_premises : active.fires (.deferral 0) 0 ∧ active.partState 0 = psActive ∧ slotState active 0 = 1 ∧ sheds active 0 = false
    ∧ kget 0 active.dsp.lastRel = none ∧ mringRoom active 0 0 = true ∧ (jobsOf active 0).length < 7 ∧ (oldestJob active 0).isSome = true
    ∧ (active.dsp.deferred.find? fun y => decide (y.slot = 0)).isSome = true := by
  simp only [Mach.fires]; decide

theorem test_PartitionCommands_premises : active.takes 0 {} ∧ ringPacketOk { flags := 1 } = false
    ∧ (oldestJob active 0).map (·.tick) = some (natBE [0, 0, 0, 0, 0, 0, 0, 5]) := by
  simp only [Mach.takes]; decide

theorem test_vnicTx_premises : vnicOk (List.replicate 60 0) = true ∧ vnicOk [] = false
    ∧ active.takes 0 { payload := List.replicate 60 0, length := 60 } := by
  simp only [Mach.takes]; decide

theorem test_Windows_premises : ringUsed 2 (active.part 0).cmdCons ≤ 2 ^ (active.part 0).cmdLog ∧ 2 ^ (active.part 0).cmdLog < ringUsed 17 (active.part 0).cmdCons
    ∧ (fields [(VRT_PART_STS_state, 0, psStopped)]).partState 0 = psStopped ∧ active.partState 0 ≠ psStopped := by decide

theorem test_PartitionsStart_premises : startCheck (fields [(VRT_PART_STS_state, 0, psStopped)]) 0 = false ∧ active.partState 0 ≠ 0
    ∧ active.partState 0 ≠ psResetting ∧ (active.part 0).xfers = [] ∧ (fields [(VRT_PART_STS_state, 0, psResetting)]).partState 0 = psResetting := by decide

theorem test_partitionStart_covered :
    startCheck (fields [(XFR_RGN_GPA_en, 0, 1), (XFR_RGN_SIZE_size, 0, 1)]) 0 = true := by decide

theorem test_Freezes_premises :
    let m := fields [(VRT_PART_STS_state, 0, psActive), (VRT_MIG_en, 0, 1), (VRT_MGR_RING_en, 0, 1), (DRT_STS_active, 0, 1)]
    m.on VRT_MIG_en = true ∧ m.partState (m.cfg VRT_MIG_part) = psActive ∧ m.fld TWN_STS_state ≠ 2 ∧ frozenPart m = none
      ∧ frozenPart (fields [(VRT_PART_STS_state, 3, psFrozen)]) = some 3 ∧ m.on VRT_MGR_RING_en = true ∧ (1 : Nat) ≠ m.fld VRT_MGR_IDX_cons
      ∧ m.flag DRT_STS_active (m.fld DRT_SEL_index) = true := by decide

theorem test_Publication_premises :
    let m := fields [(PUB_GCB_STS_state, 0, 1), (PUB_SUB_CTRL_en, 0, 1), (PUB_SUB_DMAC_LO_lo, 0, 9), (PUB_TWIN_MAC_LO_lo, 0, 5)]
    let a : GooseApdu := { appid := 0, lenOk := true, sim := false, ext := none, gocbRef := [], datSet := [], goId := [], confRev := 1, entries := 0, stNum := 1
                           sqNum := 0, utc := 0, quality := 0, tal := 0, members := [] }
    m.fld PUB_GCB_STS_state 0 = 1 ∧ (gcbOf m 0).fresh = true ∧ pubRole m ≠ 5 ∧ subMatches m 0 a = true ∧ (subOf m 0).seen = false
      ∧ (0 : Mac) ≠ macOf m PUB_TWIN_MAC_LO_lo PUB_TWIN_MAC_HI_hi 0
      ∧ ((enabledIn m.force PUB_SUB_CTRL_en).find? fun i => decide (macOf m PUB_SUB_DMAC_LO_lo PUB_SUB_DMAC_HI_hi i = 9) && decide (m.cfg PUB_SUB_APPID_appid i = 0)) = some 0 := by
  decide

theorem test_Commits_premises : State.reset.m.flag (hCommitted 0x02) = false ∧ port.flag (hCommitted 0x12) = false ∧ rimLocked port = false := by decide

theorem test_Supply_premises : State.reset.m.rst.pg = true ∧ State.reset.m.coil.intake = true ∧ asSigned 16 (State.reset.m.fld GLB_TJ_tj) ≤ 950 := by decide

theorem test_Flush_premises : (ran .watchdog).fires .watchdog 0 ∧ imageValid State.reset.m 0 = false
    ∧ bankValid State.reset.m State.reset.m.flash.bank0 false = false := by
  simp only [Mach.fires]; decide

theorem test_Recorder_premises :
    let e : FifoEntry := { page := 5, code := 1, sev := 2, attr := 0, tag := 0, last := 0, rpt := 0, wrapNo := 0, snap := [], cut := false, continued := false }
    wrapOfTag (State.reset.m.advance 1) 0 ≤ State.reset.m.coil.wrapNo ∧ placeFor State.reset.m e.sev = some (0, false) ∧ e.snap.length ≤ 8
      ∧ pendingRec State.reset.m = none := by decide

theorem test_Pulses_premises :
    let m := fields [(PLS_CFG_en, 0, 1)]
    (plsPin m 0).raw ≠ true ∧ m.on PLS_CFG_en 0 = true ∧ (true != m.on PLS_CFG_pol 0) ≠ m.flag PLS_STS_level 0
      ∧ (ran (.debounce 0)).due (.debounce 0) = true ∧ (ran (.minWidth 0)).due (.minWidth 0) = true ∧ (ran (.stall 0)).due (.stall 0) = true := by decide

theorem test_Energy_premises : intervalEnd State.reset.m ≤ (State.reset.m.advance 3600000000000).station ∧ (nrgPoints State.reset.m).Nodup
    ∧ (ran (.overCurrent 0)).due (.overCurrent 0) = true ∧ exportHeld State.reset.m = false := by decide

theorem test_SwitchCore_premises :
    let m := fields [(SWC_STS_mode, 0, 1)]
    let f := fun q : Option Nat => { State.reset.m with swc := { State.reset.m.swc with passed := true, permit := true, changing := q, faultAt := some 0 } }
    m.fld SWC_STS_mode = 1 ∧ (fields [(SWC_STS_mode, 0, 2)]).fld SWC_STS_mode = 2 ∧ State.reset.m.fld SWC_STS_mode = 0 ∧ (fields [(SWC_STS_test, 0, 1)]).fld SWC_STS_test = 1
      ∧ State.reset.m.fld SWC_STS_test ≠ 1 ∧ (f none).fld SWC_STS_mode = 0 ∧ (f none).swc.faultAt = some 0 ∧ 0 + (f none).cfg SWC_CFG_quiet * 1000000 ≤ 2 ^ 60
      ∧ (f (some 1)).swc.changing = some 1 ∧ (fields [(SWC_CFG_auto, 0, 0)]).on SWC_CFG_auto = false ∧ State.reset.m.swc.permit = false := by decide

theorem test_AgeOut_premises :
    let m := { State.reset.m with swc := { State.reset.m.swc with learnt := [(3, { vid := 1, mac := 5, port := 2, hit := 0 })] } }
    (kget 3 m.swc.learnt).isSome = true ∧ 0 + m.cfg FWD_AGE_age * 1000000000 ≤ 2 ^ 60 ∧ kget 4 m.swc.learnt = none := by decide

theorem test_PortLinks_premises :
    linkOf State.reset.m 0 = 0 ∧ linkOf (fields [(MAC_STS_link.onPort 0, 0, 1)]) 0 = 1 ∧ linkOf (fields [(MAC_STS_link.onPort 0, 0, 2)]) 0 = 2
      ∧ linkOf (fields [(MAC_STS_link.onPort 0, 0, 3)]) 0 = 3 ∧ State.reset.m.running (.upDebounce 0) = false ∧ (ran (.upDebounce 0)).due (.upDebounce 0) = true
      ∧ (ran (.downDebounce 15)).due (.downDebounce 15) = true ∧ (ran (.linkHold 0)).due (.linkHold 0) = true ∧ (ran (.linkHold 0)).due (.upDebounce 0) = false
      ∧ (ran (.pause 0)).due (.pause 0) = true ∧ (ran (.eeeIdle 0)).due (.eeeIdle 0) = true ∧ (ran (.eeeWake 0)).due (.eeeWake 0) = true
      ∧ (ran (.eeeTlv 0)).due (.eeeTlv 0) = true ∧ (ran (.lldp 0)).due (.lldp 0) = true
      ∧ (fields [(MAC_EEE_STS_tw_res.onPort 0, 0, 5)]).fld (MAC_EEE_STS_tw_res.onPort 0) ≠ (fields [(MAC_EEE_STS_tw_res.onPort 0, 0, 5)]).cfg (MAC_EEE_tw_def.onPort 0) := by decide

theorem test_PortFrames_premises :
    let m := fields [(MAC_STS_link.onPort 0, 0, 2), (MAC_PAUSE_honour.onPort 0, 0, 1), (MAC_RED_mode.onPort 2, 0, 1)]
    let f : TxFrame := { fr := plainFrame 9 0x88BA (.data []), cls := 3, pcp := 0, vid := 1, entered := 0, src := 16, vnic := none, stamp := none }
    let q := { m with ports := [(0, { m.port 0 with queue := [f], sending := some f })] }
    linkOf m 0 = 2 ∧ linkOf m 1 ≠ 2 ∧ m.on (MAC_PAUSE_honour.onPort 0) = true ∧ linkLocal 9 = false ∧ linkLocal 0x0180C2000003 = true
      ∧ m.on (MAC_MSEC_en.onPort 0) = false ∧ redMode m 0 = 0 ∧ redMode m 1 ≠ 0 ∧ m.on TWN_CFG_en = false ∧ (q.port 0).queue = [f] ∧ (q.port 0).sending = some f
      ∧ expired ({ q with now := 2 ^ 60 }) 0 f = true ∧ (ran (.supRed 1)).due (.supRed 1) = true := by decide

/-- A module of a pair with a lane in service and a live link, its twin in a state. -/
def linked (st : Nat) : Mach :=
  let m := fields [(TWN_CFG_en, 0, 1), (TWN_STS_state, 0, st), (PLT_STS_up, 0, 1), (TWN_STS_partner, 0, 3), (PLT_CTRL_lane_en, 0, 3), (PLT_STS_lane0, 0, 2), (KEY_SLOT_usage, 0, 3)]
  { m with rim := { m.rim with keys := [(0, 0)] } }

theorem test_PlaitLanes_premises :
    let u : Unacked := { seq := 0, link := 0, tries := 1, sentAt := 0, msg := .keep }
    let m := fun (l : Lane) => { linked 2 with twn := { (linked 2).twn with lane0 := l } }
    bit ((linked 2).cfg PLT_CTRL_lane_en) 1 = true ∧ laneState (linked 2) 1 ≠ 1 ∧ laneState (linked 2) 1 ≠ 2 ∧ laneState (linked 2) 0 = 2 ∧ mayPlait (linked 2) = true
      ∧ mayPlait State.reset.m = false ∧ (ran (.laneLock 0)).due (.laneLock 0) = true ∧ laneState (fields [(PLT_STS_lane0, 0, 1)]) 0 = 1
      ∧ (laneOf (m { txHello := true, rxHello := true }) 0).txHello = true ∧ (ran (.replay 0)).due (.replay 0) = true ∧ (laneOf (m { unacked := [u] }) 0).unacked = [u]
      ∧ u.tries < (linked 2).cfg PLT_REPLAY_attempts ∧ (linked 2).cfg PLT_REPLAY_attempts ≤ ({ u with tries := 2 ^ 32 }).tries ∧ (laneOf (linked 2) 0).unacked = []
      ∧ (ran .supervision).due .supervision = true ∧ (linked 2).twn.evidence = false ∧ (ran .helloTx).due .helloTx = true ∧ (linked 2).twn.sendQ = []
      ∧ pickLane (linked 2) = some 0 ∧ (ran (.keepIdle 0)).due (.keepIdle 0) = true := by decide

theorem test_Twin_premises :
    let w : WitnessPdu := { state := 2, unit := true, plaitUp := false, inStep := false, boot := 1, sent := 0, tick := 9, leadSince := 0, config := 0, covered := [], auth := 0 }
    (ran .copySettle).due .copySettle = true ∧ (linked 2).twn.copy = none ∧ (ran .copyRetry).due .copyRetry = true ∧ plaitUp (linked 2) = true
      ∧ (linked 2).fld TWN_STS_partner = 3 ∧ (enabledIn (fields [(DSP_SLOT_CFG_en, 7, 1)]).force DSP_SLOT_CFG_en).filter (· < 4096) = [7] ∧ (ran .witnessTx).due .witnessTx = true
      ∧ (linked 2).on TWN_CFG_en = true ∧ twnState (linked 8) = 8 ∧ ((linked 2).keyFor ((linked 2).cfg TWN_WIT_KEY_slot) 4) = none
      ∧ w.unit ≠ (linked 2).on TWN_CFG_unit ∧ (linked 5).twn.witSeq < w.boot.toNat * 2 ^ 48 + w.sent.toNat ∧ (linked 5).twn.lastTick < w.tick.toNat
      ∧ (ran .witnessDelay).due .witnessDelay = true ∧ (linked 5).flag TWN_STS_unit_clash = false ∧ twnState (linked 3) = 3 ∧ plaitUp State.reset.m = false
      ∧ (fields [(TWN_CFG_policy, 0, 1)]).on TWN_CFG_policy = true ∧ (ran .witnessRx).due .witnessRx = true ∧ (ran .witnessRx).due .witnessDelay = false
      ∧ (ran .search).due .search = true ∧ (ran .revertHold).due .revertHold = true ∧ (fields [(TWN_STS_partner, 0, 4)]).fld TWN_STS_partner = 4
      ∧ (linked 2).twn.swapAt = none ∧ State.reset.m.mayWrite .manager ∧ twinKeys State.reset.m = false
      ∧ 0 ≤ latestPair ((linked 2).advance 1) := by
  simp only [Mach.mayWrite]; decide

/-- The header of a frame that lane 0 of `linked` accepts. -/
def laneHdr : PlaitHdr :=
  { lane := 0, laneSeq := 0, ack := 0, linkSeq := 0, sec := { sci := Config.rxSci 16, pn := 1, covered := [], icv := Config.gcmIcv true 0 (Config.rxSci 16) 1 [] } }

/-- `linked` with the PUB role, digests of its own that wait, and a copy in progress. -/
def busy (st role : Nat) : Mach :=
  let m := { linked st with regs := ((linked st).setFld PUB_STS_role 0 role).regs }
  let c : CutMsg := { slot := 7, tick := 1, state := 1, primed := true, consec := 0, area := [], latchTick := none }
  { m with
    twn := { m.twn with own := [(3, 9, 5)], ownR := [(7, 9, 5)], copy := some { cuts := [c] } }
    svi := { m.svi with gens := [{ first := 0, force := [(regKey SVI_GRP_CFG_en.page SVI_GRP_CFG_en.off 0, 0xFFFFFFFF)], bulk := [] }] } }

theorem busy_passes (st role : Nat) (h : (st = 2 ∧ role = 1) ∨ st = 1 ∨ st = 3 ∨ st = 4 ∨ st = 5 ∨ st = 6 ∨ st = 7) (hr : role < 6) : (busy st role).plaitPasses laneHdr := by
  have sec : plaitSecOk (busy st role) laneHdr = true := by
    have k : (busy st role).keyFor ((busy st role).cfg PLT_SAK_rx) 3 = some 0 := by
      rcases h with ⟨rfl, rfl⟩ | rfl | rfl | rfl | rfl | rfl | rfl <;> first | decide | (interval_cases role <;> decide)
    have p : (laneOf (busy st role) 0).rxPn = 0 := rfl
    simp only [plaitSecOk, laneHdr, k, beq_self_eq_true, Bool.true_or, Bool.and_true]
    exact Bool.and_eq_true _ _ ▸ ⟨beq_self_eq_true _, decide_eq_true (by show (laneOf (busy st role) 0).rxPn < 1; rw [p]; decide)⟩
  rcases h with ⟨rfl, rfl⟩ | rfl | rfl | rfl | rfl | rfl | rfl <;>
    exact ⟨by first | decide | (interval_cases role <;> decide), by first | decide | (interval_cases role <;> decide), by first | decide | (interval_cases role <;> decide), sec, rfl, rfl, rfl, by first | decide | (interval_cases role <;> decide)⟩

theorem test_PlaitMessages_premises :
    let f : Built := { block := 1, stNum := 2, sqNum := 3, pairSeq := 4, digest := 0, fr := plainFrame 9 0x88B8 (.data []) }
    [f].find? (fun f => f.fits 1 2 3 4) = some f ∧ twnState (busy 4 2) = 4 ∧ comparing (busy 4 2) = true ∧ comparing (linked 4) = false ∧ twnState (busy 2 1) = 2 ∧ equalising (busy 2 1) = true
      ∧ nextOpen (busy 2 1) 0 = some 0 ∧ pairTick (busy 2 1) 0 ≤ (1 : BitVec 64).toNat
      ∧ (busy 4 2).twn.own.find? (fun e => decide (e.1 = 3) && decide (e.2.1 = 9)) = some (3, 9, 5) ∧ (busy 4 2).twn.own.find? (fun e => decide (e.1 = 4) && decide (e.2.1 = 9)) = none
      ∧ (busy 4 2).twn.ownR.find? (fun e => decide (e.1 = 7) && decide (e.2.1 = 9)) = some (7, 9, 5) ∧ (busy 4 2).twn.ownR.find? (fun e => decide (e.1 = 4) && decide (e.2.1 = 9)) = none
      ∧ (busy 4 2).pub.held = [] ∧ (busy 4 2).pub.sent = [] ∧ twnState (busy 3 5) = 3 ∧ (busy 3 5).twn.copy.isSome = true ∧ (linked 3).twn.copy = none
      ∧ 2 * rateHz ((busy 4 2).cfg SVI_TICK_rate) * (nominalOf (busy 4 2) 0 - 0).natAbs ≤ 1000000000 ∧ 1000000000 < 2 * rateHz ((busy 4 2).cfg SVI_TICK_rate) * (nominalOf (busy 4 2) 0 - 1000000).natAbs := by
  decide

theorem test_Hello_premises :
    twnState (busy 1 3) = 1 ∧ (busy 1 3).on TWN_CFG_unit = false ∧ (busy 1 3).on TWN_CFG_unit = (busy 1 3).on TWN_CFG_pref ∧ (busy 1 3).svi.eq = []
      ∧ fld64 (busy 2 1) TWN_LEAD_SINCE_LO_w TWN_LEAD_SINCE_HI_w < 1
      ∧ (let m := { busy 1 3 with svi := { (busy 1 3).svi with grids := [{ first := 0, index := 0, rate := 4000, epoch := 0 }] } }; gridMatch (m.advance 0) 0 = some 0)
      ∧ (busy 2 1).on TWN_CFG_unit = (busy 2 1).on TWN_CFG_pref ∧ (fields [(TWN_CFG_pref, 0, 1)]).on TWN_CFG_unit ≠ (fields [(TWN_CFG_pref, 0, 1)]).on TWN_CFG_pref := by
  decide

/-! ### Witnesses of the completion statements, clause by clause -/

/-- Reset, with an admission run in progress. -/
def admitting : Mach := { adm := { run := some { check := false, by_ := .register .manager, since := 0, pages := [] } } }

theorem test_AdmissionCommandsComplete_premises :
    (State.reset.m.powered = true ∧ mapped 0x05 = true ∧ Src.manager ≠ .debug ∧ rimLocked State.reset.m = false ∧ underAdmission State.reset.m 0x05 = false)
    ∧ (State.reset.m.mayWrite .manager ∧ State.reset.m.adm.run = none)
    ∧ (admitting.powered = true ∧ admitting.adm.run = some { check := false, by_ := .register .manager, since := 0, pages := [] })
    ∧ (let m := { linked 2 with twn := { (linked 2).twn with copy := some {} } }
       m.powered = true ∧ plaitUp m = true ∧ m.twn.copy.isSome = true ∧ twnState m = 2) := by
  simp only [Mach.mayWrite]; decide

theorem test_PaceAndCrossingCommandsComplete_premises :
    (let m : Mach := { adm := { due := some [0x05] } }; (m.advance 1000000).now % 1000000 = 0 ∧ m.adm.due = some [0x05])
    ∧ State.reset.m.cfg DSP_CFG_mgr_win * 1000 ≤ (State.reset.m.advance 999996).now % 1000000
    ∧ (let h : WarpHdr := { origin := 1, dest := 2, op := 1, tag := 0x200, part := 0x7F, addr := 0, length := 8, status := 0, time := 0 }
       partTag h = none ∧ stalled (State.reset.m.advance 1000000000) false h 4 = true)
    ∧ (State.reset.m.pace.windowAt + paceLength State.reset.m ≤ (State.reset.m.advance 1000000).now ∧ State.reset.m.rst.boot = none
       ∧ ∀ i < 16, nthD (List.replicate 16 (some 2000)) i none = some (2000 : BitVec 16))
    ∧ (let m : Mach := { cdc := [(0, { event := some (0, 5, 6), evPend := some (7, 8) })] }; (crossing m 0).event.isSome = true)
    ∧ (hasKind 0 .event = true ∧ (crossing State.reset.m 0).event = none)
    ∧ (crossing State.reset.m 32).count = none := by decide

theorem test_TimeCommandsComplete_premises :
    (let m := fields [(TIME_QUAL_source, 0, 1), (PTP_DOM_STS_qualified, 0, 1)]
     let m := { m with time := { m.time with discard := true } }
     (m.timeReached 8).fld TIME_QUAL_source = 0 + 1 ∧ srcQualified (m.timeReached 8) (0 + 1) = true ∧ (m.timeReached 8).time.discard = true)
    ∧ ((ran .slewDone).timeReached 8).due .slewDone = true ∧ ((ran .primaryReturn).timeReached 8).due .primaryReturn = true
    ∧ ((ran .bridging).timeReached 8).due .bridging = true ∧ ((ran .holdLimit).timeReached 8).due .holdLimit = true
    ∧ ppsPlausible (State.reset.m.timeReached 8) 1000 = true
    ∧ (let m : Mach := { timers := [(.ppsIn, 8)] }; (m.timeReached 8).due .ppsIn = true)
    ∧ (let m := fields [(TIME_IRIG_en, 0, 1), (TIME_QUAL_pps_qual, 0, 1)]
       (m.timeReached 8).on TIME_IRIG_en = true ∧ (irigAccepted (m.timeReached 8) irigBlank).isSome = true)
    ∧ (10000000 : Int).natAbs ≤ 10000000
    ∧ ((fields [(TIME_QUAL_in10m_qual, 0, 1)]).timeReached 8).flag TIME_QUAL_in10m_qual = true
    ∧ (let m := fields [(TIME_CTRL_pps_out_en, 0, 1), (TIME_QUAL_state, 0, 2)]
       let k := m.timeReached 1000000000
       ppsAllowed k = true ∧ (k.station + asSigned 16 (k.cfg TIME_PPS_OUT_DLY_dly)) % 1000000000 < 4
         ∧ wasPulsed k.time.pulsed ((k.station + asSigned 16 (k.cfg TIME_PPS_OUT_DLY_dly)) / 1000000000) = false ∧ k.time.ppsAt = none)
    ∧ (let m : Mach := { ran .ppsWidth with time := { ppsOut := true } }; (m.advance 8).due .ppsWidth = true ∧ m.time.ppsOut = true) := by decide

/-- An Announce of another clock. -/
def heard : PtpMsg := { version := 2, lenOk := true, domain := 0, kind := .announce, twoStep := false, corr := 0, clockId := Config.clockId + 1
                        portNum := 1, seqId := 0, logInt := 0, stamp := 0, rxAt := 0, ann := ⟨0, 0, 0, 0, 0, 0, 0, []⟩ }

theorem test_PtpAndTickCommandsComplete_announce_premises :
    checkPtp ((fields [(PTP_DOM_en, 0, 1), (PTP_PCFG_dom, 0, 1)]).timeReached 8) 0 (plainFrame ptpAddr 0x88F7 (.ptp heard)) = .ok (heard, 0) := by
  have h : ¬(255 ≤ heard.ann.stepsRemoved.toNat ∨ heard.clockId = Config.clockId) := by simp [heard]
  exact (show _ = ite _ _ _ from rfl).trans (if_neg h)

theorem test_PtpAndTickCommandsComplete_premises :
    (let m := ran (.announce 0)
       let m := { m with ptp := { m.ptp with dom0 := { m.ptp.dom0 with master := some (0, 1, 1) } } }
       (m.timeReached 8).due (.announce 0) = true ∧ (ptpDom (m.timeReached 8) (0 : Fin 2)).master.isSome = true)
    ∧ ((ran (.syncLoss 1)).timeReached 8).due (.syncLoss 1) = true
    ∧ ((ran (.ptpTx 1 .announce)).advance 8).due (.ptpTx 1 .announce) = true
    ∧ (let m := { linked 3 with twn := { (linked 3).twn with committed := true } }
       m.powered = true ∧ m.twn.committed = true ∧ twnState m = 3 ∧ m.flag TWN_STS_unit_clash = false)
    ∧ (let m := fields [(SVI_GRP_CFG_en, 0, 1)]
       let m := { m with svi := { m.svi with gens := [{ first := 0, force := m.force, bulk := [] }] } }
       nextOpen (m.advance 100000000).sviTake 0 = some 0 ∧ expiredAt (m.advance 100000000).sviTake 0 (m.advance 100000000).sviTake.now = true) := by decide

/-- A tick of group 0 that closed at instant 0. -/
def closedTick : Tick := { group := 0, tick := 1, pair := 1, nominal := 0, closedAt := 0, cause := .expiry, present := [], chans := [] }

/-- MSR with one waiting set of the given ticks. -/
def behind (l : List Tick) : Mach := { msr := { queue := [{ ticks := l, events := [] }] } }

theorem test_SampleAndMeasurandCommandsComplete_held_premises : ∃ l, 256 ≤ backlog (behind l) ∧ heldOf (behind l) 0 < 64 :=
  have h (l : List Tick) : backlog (behind l) = l.length := rfl
  ⟨List.replicate 256 closedTick, by rw [h, List.length_replicate], (by decide : (0 : Nat) < 64)⟩

theorem test_SampleAndMeasurandCommandsComplete_premises :
    (backlog subscribed < 256 ∧ subscribed.svPasses (plainFrame 9 0x88BA (.sv svBody)) svBody 0 208333 ∧ svBody.asdus = [sample] ∧ subscribed.asduPasses 0 sample
      ∧ resampled (genNow subscribed) 0 = false ∧ groupClass (genNow subscribed) (subscribed.cfg SVI_SUB_CTRL_group 0) = 0
      ∧ -(subscribed.cfg SVI_TICK_early_tol * 1000 * rateHz (subscribed.cfg SVI_SUB_CTRL_rate 0) : Int) ≤ (nearest (rateHz (subscribed.cfg SVI_SUB_CTRL_rate 0)) (208333 + subscribed.time.epoch) sample.smpCnt).2
      ∧ tickOnGrid subscribed.svi.grids (rateHz (subscribed.cfg SVI_SUB_CTRL_rate 0)) (nearest (rateHz (subscribed.cfg SVI_SUB_CTRL_rate 0)) (208333 + subscribed.time.epoch) sample.smpCnt).1 none = some 1
      ∧ openFor (subscribed.advance 208336) (subscribed.cfg SVI_SUB_CTRL_group 0) 1 208333 = true ∧ placedIn subscribed 1 0 = true ∧ subscribed.svi.samples = [])
    ∧ (let m := { ran (.stream 0) with regs := (fields [(SVI_SUB_STS_state, 0, 3)]).regs }
       ((m.advance 8).sviTake).past (.stream 0) = true ∧ subState (m.advance 8).sviTake 0 = 3)
    ∧ (let e : EqTick := { tk := closedTick, own := [], led := true, since := 0, desc := none, comb := none, copied := [], done := false }
       let m := { ran (.combWait 0) with svi := { eq := [e] } }
       (m.advance 20000).due (.combWait 0) = true ∧ e ∈ m.svi.eq ∧ e.tk.closedAt + 20000 ≤ (m.advance 20000).now)
    ∧ (let e : EqTick := { tk := closedTick, own := [], led := false, since := 0, desc := none, comb := none, copied := [], done := false }
       let m := { ran (.eqComb 0) with svi := { eq := [e] } }
       (m.advance 40000).due (.eqComb 0) = true ∧ m.svi.eq = [e] ∧ e.tk.closedAt + 40000 ≤ (m.advance 40000).now)
    ∧ (let m : Mach := { msr := { queue := [{ ticks := [closedTick], events := [] }] } }; m.msr.busy = none ∧ m.msr.queue = [{ ticks := [closedTick], events := [] }])
    ∧ (let m : Mach := { msr := { busy := some { ticks := [closedTick], events := [], blocks := [], power := [], taps := [] } } }; m.msr.busy.isSome = true)
    ∧ (let m := { ran (.tracker 15) with regs := (fields [(MSR_TRK_STS_state, 15, 3)]).regs }; (m.advance 8).due (.tracker 15) = true ∧ m.fld MSR_TRK_STS_state 15 = 3)
    ∧ (let m := { ran (.tempSource 63) with regs := (fields [(MSR_TS_STS_state, 63, 1)]).regs, msr := { tsHold := [(63, (5, false))] } }
       (m.advance 8).due (.tempSource 63) = true ∧ m.fld MSR_TS_STS_state 63 = 1 ∧ kget 63 m.msr.tsHold = some (5, false)) := by
  simp only [Mach.svPasses, Mach.asduPasses]; decide

theorem test_DispatchCommandsComplete_premises :
    (active.fires (.deferral 0) 0 ∧ active.dsp.deferred.find? (fun y => decide (y.slot = 0)) = some { slot := 0, at_ := 0, block := none, tick := 6 }
      ∧ active.partState 0 = psActive ∧ slotState active 0 = 1 ∧ sheds active 0 = false ∧ kget 0 active.dsp.lastRel = none ∧ mringRoom active 0 0 = true
      ∧ (jobsOf active 0).length < 7)
    ∧ (let m := { active with dsp := { active.dsp with jobs := active.dsp.jobs.map fun (j : Job) => { j with exec := 4 } } }
       ∃ j, oldestJob ((m.advance 8).runJobs) 0 = some j ∧ j.budget ≤ j.exec)
    ∧ (let m := fields [(DSP_SLOT_STS_state, 0, 3)]; slotState m (m.fld DSP_SLOT_SEL_index) = 3 ∧ m.mayWrite .pcie)
    ∧ (let pk : RingPacket := { payload := [0, 0, 0, 0, 0, 0, 0, 5, 0, 0, 0, 0], length := 12 }
       active.takes 0 pk ∧ (oldestJob active 0).map (·.tick) = some (natBE (pk.payload.take 8)) ∧ natBE ((pk.payload.drop 10).take 2) ≤ 64
         ∧ pk.payload.length = 12 + 8 * natBE ((pk.payload.drop 10).take 2))
    ∧ (let pk : RingPacket := { payload := [0, 0, 0, 0, 0, 0, 0, 5], length := 8 }
       active.takes 0 pk ∧ (oldestJob active 0).map (·.tick) = some (natBE pk.payload) ∧ pk.payload.length = 8) := by
  refine ⟨?_, ⟨_, rfl, by decide⟩, ?_⟩ <;> simp only [Mach.fires, Mach.takes, Mach.mayWrite] <;> decide

theorem test_RingCommandsComplete_premises :
    active.takes 0 {}
    ∧ (let m := { active with force := (fields [(XFR_RGN_GPA_en, 0, 1), (XFR_RGN_SIZE_size, 0, 1)]).force }
       let pk : RingPacket := { payload := [1, 0, 0, 0, 0, 0, 0, 8] ++ List.replicate 16 0, length := 24 }
       m.takes 0 pk ∧ pk.payload.length = 24 ∧ natBE (pk.payload.take 1) = 1 ∧ natBE ((pk.payload.drop 1).take 3) = 0 ∧ natBE ((pk.payload.drop 4).take 4) = 8
         ∧ natBE ((pk.payload.drop 16).take 8) = 0 ∧ covered m 0 0 8 = true ∧ (List.range 8).find? (fun t => !(m.part 0).xfers.any fun x => x.tag = t) = some 0)
    ∧ (let x : Xfer := { tag := 3, cmdTag := 0, kind := 1, length := 8, src := 0, dst := 0, done := 0, first := 0, since := 0 }
       let m := { active with parts := [(0, { cmdLog := 4, cplLog := 4, cmdProd := 1, xfers := [x] })] }
       m.partState 0 ≠ psResetting ∧ (m.part 0).xfers.find? (fun y => decide (y.tag = 3)) = some x ∧ x.length ≤ x.done + pieceLen x)
    ∧ (let m := { active with force := (fields [(QOS_VNIC_cells, 0, 4096)]).force }
       let pk : RingPacket := { payload := List.replicate 60 0, length := 60 }
       m.takes 0 pk ∧ vnicOk pk.payload = true ∧ pk.offset.toNat < 2 ∧ m.vnicRoom 0 pk) := by
  simp only [Mach.takes, Mach.vnicRoom]; decide

/-! ### Single commands -/

/-- What a command leaves of the module, where it completes. -/
def after (c : Instr) (m : Mach) : Option Mach :=
  match exec c { pending := [], m := m } with
  | .next s => some s.m
  | _ => none

/-- R91, R94: at 2 ^ 32 + 4 ns the low word of the timebase reads 4. -/
theorem test_timebaseLow : (after (.lowWordCaptureRead (2 ^ 32 + 4) .manager 0x05 ⟨0x040, .word⟩) {}).map (·.outs) = some [.read .manager 4] := by decide

/-- R33: an unmapped page reads zero. -/
theorem test_unmappedRead : (after (.lowWordCaptureRead 1 .pcie 0x40 ⟨0x040, .word⟩) {}).map (·.outs) = some [.read .pcie 0] := by decide

/-- R440: a write of a word that is no PAGE_LOCK value is rejected with reason 0x02, from the manager, whose code is 0. -/
theorem test_pageLockBadValue :
    (after (.registerWrite 1 .manager 0x0D 0x028 .word 0x12345678) {}).map (fun m => m.fld (hErr 0x0D)) = some (2 ^ 31 + 2 * 2 ^ 16 + 0x028) := by decide

/-- R112: a pulse of 999 ns is too short to qualify. -/
theorem test_ppsShort : (after (.ppsInEdge 5 999) {}).map (fun m => m.fld TIME_PPS_REJ_n) = some 1 := by decide

/-- A queue with nothing waiting leaves the module as it is (log 1). -/
theorem test_idle : step State.reset = .next State.reset := rfl

end Sys2Proof.Tests
end

