-- ==== Sys2Proof/WellFormed.lean ====
section
/-! DEFINITION. Which commands are well formed: the conditions between operands that their types do not state. `exec` is total,
and does not need them. -/

namespace Sys2Proof

/-- The number of bits of an access width (R34). -/
def Width.bits : Width → Nat
  | .byte => 8
  | .half => 16
  | .word => 32
  | .dword => 64

/-- A written value fits the width of its access (R34). -/
def fitsWidth (w : Width) (v : BitVec 64) : Bool := decide (v.toNat < 2 ^ w.bits)

/-- A packet's trailer stands exactly when its auth flag is set, and is 32 bytes (R46). -/
def packetOk (pk : VPacket) : Bool := pk.trailer.length == if pk.flags.getLsbD 0 then 32 else 0

/-- An untagged or tagged frame is at least 64 bytes from destination address to FCS (R295). -/
def frameOk (fr : Frame) : Bool := decide (64 ≤ fr.len)

/-- Does a frame carry a sampled-value message? -/
def carriesSv (fr : Frame) : Bool := match fr.body with | .sv _ => true | _ => false

/-- Does a frame carry a GOOSE message? -/
def carriesGoose (fr : Frame) : Bool := match fr.body with | .goose _ => true | _ => false

/-- Does a frame carry a PTP message? -/
def carriesPtp (fr : Frame) : Bool := match fr.body with | .ptp _ => true | _ => false

/-- Does a frame carry a witness message? -/
def carriesWitness (fr : Frame) : Bool := match fr.body with | .witness _ => true | _ => false

/-- A packet's payload has the length its header states (R46, R261). -/
def ringOk (pk : RingPacket) : Bool := pk.payload.length == pk.length.toNat

/-- The well-formed commands. -/
def wellFormed (i : Instr) : Bool :=
  match i with
  | .registerWrite _ _ _ _ w v => fitsWidth w v
  | .regRead _ _ pk => packetOk pk
  | .regWrite _ _ pk => packetOk pk
  | .regRmw _ _ pk => packetOk pk
  | .vreltiCommit _ _ pk => packetOk pk
  | .vreltiUnlock _ _ pk => packetOk pk
  | .vreltiAdmit _ _ pk => packetOk pk
  | .bulkRead _ _ pk => packetOk pk
  | .bulkWrite _ _ pk => packetOk pk
  | .imageLoad _ _ pk => packetOk pk
  | .fwLoad _ _ pk => packetOk pk
  | .keyLoad _ _ pk => packetOk pk
  | .nop _ _ pk => packetOk pk
  | .rimClear _ _ pk => packetOk pk
  | .pcieCmdDoorbell _ _ w => w.cmds.all fun c => packetOk c.pk
  | .paceWindowEnd _ counts => counts.length == 16
  | .svFrame _ fr _ _ => frameOk fr && carriesSv fr
  | .gooseFrameRx _ fr _ _ => frameOk fr && carriesGoose fr
  | .ptpFrameRx _ _ fr => frameOk fr && carriesPtp fr
  | .witnessFrameRx _ _ fr => frameOk fr && carriesWitness fr
  | .result _ _ _ pk => ringOk pk
  | .yieldJob _ _ _ pk => ringOk pk
  | .xfer _ _ pk => ringOk pk
  | .vnicTx _ _ pk => ringOk pk
  | .pnop _ _ pk => ringOk pk
  | .mgrRingDoorbell _ _ _ pks => pks.all ringOk
  | .coilEventIntake _ ev => decide (ev.snap.length ≤ 32)
  | _ => true

end Sys2Proof
end

/-! # Every command and every step

Each command answers a next state and stays within its reach: the case split of `exec` over the rows of the opcode table, each case
the frame of that row (Laws/Frame) read through the masks of its reach. The statements about `exec` and `step` follow from it. -/

namespace Sys2Proof.Machine

/-- A command goes on to a next state within its reach (R6), and canonical memory stays canonical (log 6). -/
theorem exec_inReach (c : Instr) (s : State) :
    ∃ m', exec c s = .next { s with m := m' } ∧ s.m.inReach (reach c) m' ∧ (s.m.memOk → m'.memOk) := by
  cases c with
  | registerWrite => exact reach_of_moves_every (execRegisterWrite_moves ..) rfl rfl
  | lowWordCaptureRead => exact reach_of_moves_every (execLowWordCaptureRead_moves ..) rfl rfl
  | ptpTxs3Read => exact reach_of_moves _ (execPtpTxs3Read_moves ..) rfl rfl
  | pageLockCommit => exact reach_of_moves_every (execPageLockCommit_moves ..) rfl rfl
  | pageLockUnlock => exact reach_of_moves_every (execPageLockUnlock_moves ..) rfl rfl
  | softReset => exact reach_of_moves_every (execSoftReset_moves ..) rfl rfl
  | softResetComplete => exact reach_of_moves_every (execSoftResetComplete_moves ..) rfl rfl
  | pcieCmdDoorbell => exact reach_of_moves _ (execPcieCmdDoorbell_moves ..) rfl rfl
  | pcieResponseConsumed => exact reach_of_moves _ (execPcieResponseConsumed_moves ..) rfl rfl
  | pciePerst => exact reach_of_moves _ (execPciePerst_moves ..) rfl rfl
  | udpSegment => exact reach_of_moves _ (execUdpSegment_moves ..) rfl rfl
  | partialPacketTimeout => exact reach_of_moves _ (execPartialPacketTimeout_moves ..) rfl rfl
  | regRead => exact reach_of_moves_every (execRegRead_moves ..) rfl rfl
  | regWrite => exact reach_of_moves_every (execRegWrite_moves ..) rfl rfl
  | regRmw => exact reach_of_moves_every (execRegRmw_moves ..) rfl rfl
  | vreltiCommit => exact reach_of_moves_every (execVreltiCommit_moves ..) rfl rfl
  | vreltiUnlock => exact reach_of_moves_every (execVreltiUnlock_moves ..) rfl rfl
  | vreltiAdmit => exact reach_of_moves _ (execVreltiAdmit_moves ..) rfl rfl
  | bulkRead => exact reach_of_moves _ (execBulkRead_moves ..) rfl rfl
  | bulkWrite => exact reach_of_moves_every (execBulkWrite_moves ..) rfl rfl
  | imageLoad => exact reach_of_moves _ (execImageLoad_moves ..) rfl rfl
  | imageVerifyDone => exact reach_of_moves _ (execImageVerifyDone_moves ..) rfl rfl
  | fwLoad => exact reach_of_moves _ (execFwLoad_moves ..) rfl rfl
  | fwVerifyDone => exact reach_of_moves_every (execFwVerifyDone_moves ..) rfl rfl
  | keyLoad => exact reach_of_moves _ (execKeyLoad_moves ..) rfl rfl
  | keyLoadFlashDone => exact reach_of_moves _ (execKeyLoadFlashDone_moves ..) rfl rfl
  | nop => exact reach_of_moves _ (execNop_moves ..) rfl rfl
  | commandTimeout => exact reach_of_moves _ (execCommandTimeout_moves ..) rfl rfl
  | storedResponseExpiry => exact reach_of_moves _ (execStoredResponseExpiry_moves ..) rfl rfl
  | admCtrlAdmit => exact reach_of_moves _ (execAdmCtrlAdmit_moves ..) rfl rfl
  | admCtrlCheck => exact reach_of_moves _ (execAdmCtrlCheck_moves ..) rfl rfl
  | admissionComplete => exact reach_of_moves_every (execAdmissionComplete_moves ..) rfl rfl
  | shareFrameBoundary => exact reach_of_moves_every (execShareFrameBoundary_moves ..) rfl rfl
  | managerWindowEnd => exact reach_of_moves _ (execManagerWindowEnd_moves ..) rfl rfl
  | hangWatchdogExpiry => exact reach_of_moves _ (execHangWatchdogExpiry_moves ..) rfl rfl
  | crossingTransferDone => exact reach_of_moves _ (execCrossingTransferDone_moves ..) rfl rfl
  | crossingEventArrival => exact reach_of_moves _ (execCrossingEventArrival_moves ..) rfl rfl
  | paceWindowEnd => exact reach_of_moves_every (execPaceWindowEnd_moves ..) rfl rfl
  | paceClrMinmax => exact reach_of_moves _ (execPaceClrMinmax_moves ..) rfl rfl
  | timeTagWrap => exact reach_of_moves _ (execTimeTagWrap_moves ..) rfl rfl
  | sourceMeasurement => exact reach_of_moves _ (execSourceMeasurement_moves ..) rfl rfl
  | slewComplete => exact reach_of_moves _ (execSlewComplete_moves ..) rfl rfl
  | primaryReturnHoldExpiry => exact reach_of_moves _ (execPrimaryReturnHoldExpiry_moves ..) rfl rfl
  | bridgingEntryExpiry => exact reach_of_moves _ (execBridgingEntryExpiry_moves ..) rfl rfl
  | holdoverLimitExpiry => exact reach_of_moves _ (execHoldoverLimitExpiry_moves ..) rfl rfl
  | ptpFrameRx => exact reach_of_moves _ (execPtpFrameRx_moves ..) rfl rfl
  | announceReceiptTimeout => exact reach_of_moves _ (execAnnounceReceiptTimeout_moves ..) rfl rfl
  | syncLossBudgetExpiry => exact reach_of_moves _ (execSyncLossBudgetExpiry_moves ..) rfl rfl
  | ptpTxIntervalExpiry => exact reach_of_moves _ (execPtpTxIntervalExpiry_moves ..) rfl rfl
  | ppsInEdge => exact reach_of_moves _ (execPpsInEdge_moves ..) rfl rfl
  | ppsInTimeout => exact reach_of_moves _ (execPpsInTimeout_moves ..) rfl rfl
  | irigbFrame => exact reach_of_moves _ (execIrigbFrame_moves ..) rfl rfl
  | ref10mGateEnd => exact reach_of_moves _ (execRef10mGateEnd_moves ..) rfl rfl
  | ref10mEdgeLoss => exact reach_of_moves _ (execRef10mEdgeLoss_moves ..) rfl rfl
  | stationSecondBoundary => exact reach_of_moves _ (execStationSecondBoundary_moves ..) rfl rfl
  | ppsOutWidthEnd => exact reach_of_moves _ (execPpsOutWidthEnd_moves ..) rfl rfl
  | tickNominalTime => exact reach_of_moves _ (execTickNominalTime_moves ..) rfl rfl
  | svFrame => exact reach_of_moves _ (execSvFrame_moves ..) rfl rfl
  | tickWindowExpiry => exact reach_of_moves _ (execTickWindowExpiry_moves ..) rfl rfl
  | streamTimeout => exact reach_of_moves _ (execStreamTimeout_moves ..) rfl rfl
  | combWaitExpiry => exact reach_of_moves _ (execCombWaitExpiry_moves ..) rfl rfl
  | eqCombTimeout => exact reach_of_moves _ (execEqCombTimeout_moves ..) rfl rfl
  | msrTickSetTake => exact reach_of_moves _ (execMsrTickSetTake_moves ..) rfl rfl
  | msrTickSetDone => exact reach_of_moves _ (execMsrTickSetDone_moves ..) rfl rfl
  | releaseDeferralExpiry => exact reach_of_moves _ (execReleaseDeferralExpiry_moves ..) rfl rfl
  | trackerHoldExpiry => exact reach_of_moves _ (execTrackerHoldExpiry_moves ..) rfl rfl
  | tempSourceHoldExpiry => exact reach_of_moves _ (execTempSourceHoldExpiry_moves ..) rfl rfl
  | msrClrExtremes => exact reach_of_moves _ (execMsrClrExtremes_moves ..) rfl rfl
  | budgetExhausted => exact reach_of_moves _ (execBudgetExhausted_moves ..) rfl rfl
  | pwinCmdProdWrite => exact reach_of_moves _ (execPwinCmdProdWrite_moves ..) rfl rfl
  | pwinCplConsWrite => exact reach_of_moves _ (execPwinCplConsWrite_moves ..) rfl rfl
  | pwinMrConsWrite => exact reach_of_moves _ (execPwinMrConsWrite_moves ..) rfl rfl
  | pwinIrqWrite => exact reach_of_moves _ (execPwinIrqWrite_moves ..) rfl rfl
  | pwinConfigWrite => exact reach_of_moves _ (execPwinConfigWrite_moves ..) rfl rfl
  | result => exact reach_of_moves _ (execResult_moves ..) rfl rfl
  | yieldJob => exact reach_of_moves _ (execYieldJob_moves ..) rfl rfl
  | xfer => exact reach_of_moves _ (execXfer_moves ..) rfl rfl
  | transferPieceDone => exact reach_of_moves _ (execTransferPieceDone_moves ..) rfl rfl
  | vnicTx => exact reach_of_moves _ (execVnicTx_moves ..) rfl rfl
  | pnop => exact reach_of_moves _ (execPnop_moves ..) rfl rfl
  | irqTokenRefill => exact reach_of_moves _ (execIrqTokenRefill_moves ..) rfl rfl
  | partitionStart => exact reach_of_moves _ (execPartitionStart_moves ..) rfl rfl
  | partitionReset => exact reach_of_moves _ (execPartitionReset_moves ..) rfl rfl
  | partitionResetComplete => exact reach_of_moves _ (execPartitionResetComplete_moves ..) rfl rfl
  | slotReset => exact reach_of_moves _ (execSlotReset_moves ..) rfl rfl
  | freeze => exact reach_of_moves _ (execFreeze_moves ..) rfl rfl
  | frozenEntry => exact reach_of_moves _ (execFrozenEntry_moves ..) rfl rfl
  | thaw => exact reach_of_moves _ (execThaw_moves ..) rfl rfl
  | blackoutExpiry => exact reach_of_moves _ (execBlackoutExpiry_moves ..) rfl rfl
  | mgrRingDoorbell => exact reach_of_moves _ (execMgrRingDoorbell_moves ..) rfl rfl
  | drtRearm => exact reach_of_moves _ (execDrtRearm_moves ..) rfl rfl
  | slotResume => exact reach_of_moves _ (execSlotResume_moves ..) rfl rfl
  | slotClrMax => exact reach_of_moves _ (execSlotClrMax_moves ..) rfl rfl
  | pubFrameBuild => exact reach_of_moves _ (execPubFrameBuild_moves ..) rfl rfl
  | gooseRetransmissionDue => exact reach_of_moves _ (execGooseRetransmissionDue_moves ..) rfl rfl
  | compareExpiry => exact reach_of_moves _ (execCompareExpiry_moves ..) rfl rfl
  | gooseFrameRx t fr port arrival => exact reach_of_moves _ (execGooseFrameRx_moves t fr port arrival s) rfl rfl
  | gooseSubTalExpiry => exact reach_of_moves _ (execGooseSubTalExpiry_moves ..) rfl rfl
  | plaitLaneLockChange => exact reach_of_moves _ (execPlaitLaneLockChange_moves ..) rfl rfl
  | plaitLaneLockHoldExpiry => exact reach_of_moves _ (execPlaitLaneLockHoldExpiry_moves ..) rfl rfl
  | plaitReplayExpiry => exact reach_of_moves _ (execPlaitReplayExpiry_moves ..) rfl rfl
  | plaitSupervisionExpiry => exact reach_of_moves _ (execPlaitSupervisionExpiry_moves ..) rfl rfl
  | helloInterval => exact reach_of_moves _ (execHelloInterval_moves ..) rfl rfl
  | keepIdleExpiry => exact reach_of_moves _ (execKeepIdleExpiry_moves ..) rfl rfl
  | hello => exact reach_of_moves _ (execHello_moves ..) rfl rfl
  | keep => exact reach_of_moves _ (execKeep_moves ..) rfl rfl
  | desc => exact reach_of_moves _ (execDesc_moves ..) rfl rfl
  | comb => exact reach_of_moves _ (execComb_moves ..) rfl rfl
  | samp => exact reach_of_moves _ (execSamp_moves ..) rfl rfl
  | tdig => exact reach_of_moves _ (execTdig_moves ..) rfl rfl
  | rdig => exact reach_of_moves _ (execRdig_moves ..) rfl rfl
  | fdig => exact reach_of_moves _ (execFdig_moves ..) rfl rfl
  | swap => exact reach_of_moves _ (execSwap_moves ..) rfl rfl
  | swapTick => exact reach_of_moves _ (execSwapTick_moves ..) rfl rfl
  | frec => exact reach_of_moves _ (execFrec_moves ..) rfl rfl
  | cut => exact reach_of_moves _ (execCut_moves ..) rfl rfl
  | cend => exact reach_of_moves _ (execCend_moves ..) rfl rfl
  | cack => exact reach_of_moves _ (execCack_moves ..) rfl rfl
  | copySettleTimeout => exact reach_of_moves _ (execCopySettleTimeout_moves ..) rfl rfl
  | copyRetryExpiry => exact reach_of_moves _ (execCopyRetryExpiry_moves ..) rfl rfl
  | witnessInterval => exact reach_of_moves _ (execWitnessInterval_moves ..) rfl rfl
  | witnessFrameRx t port fr => exact reach_of_moves _ (execWitnessFrameRx_moves t port fr s) rfl rfl
  | witnessTimeout => exact reach_of_moves _ (execWitnessTimeout_moves ..) rfl rfl
  | searchExpiry => exact reach_of_moves _ (execSearchExpiry_moves ..) rfl rfl
  | revertHoldExpiry => exact reach_of_moves _ (execRevertHoldExpiry_moves ..) rfl rfl
  | twnCmdSwap => exact reach_of_moves _ (execTwnCmdSwap_moves ..) rfl rfl
  | twnCmdLead => exact reach_of_moves _ (execTwnCmdLead_moves ..) rfl rfl
  | twnCmdRejoin => exact reach_of_moves _ (execTwnCmdRejoin_moves ..) rfl rfl
  | macFrameRx => exact reach_of_moves _ (execMacFrameRx_moves ..) rfl rfl
  | linkLockChange => exact reach_of_moves _ (execLinkLockChange_moves ..) rfl rfl
  | upDebounceExpiry => exact reach_of_moves _ (execUpDebounceExpiry_moves ..) rfl rfl
  | downDebounceExpiry => exact reach_of_moves _ (execDownDebounceExpiry_moves ..) rfl rfl
  | linkHoldExpiry => exact reach_of_moves _ (execLinkHoldExpiry_moves ..) rfl rfl
  | pauseExpiry => exact reach_of_moves _ (execPauseExpiry_moves ..) rfl rfl
  | eeeIdleExpiry => exact reach_of_moves _ (execEeeIdleExpiry_moves ..) rfl rfl
  | eeeWakeComplete => exact reach_of_moves _ (execEeeWakeComplete_moves ..) rfl rfl
  | eeeTlvTtlExpiry => exact reach_of_moves _ (execEeeTlvTtlExpiry_moves ..) rfl rfl
  | lldpInterval => exact reach_of_moves _ (execLldpInterval_moves ..) rfl rfl
  | frameLifetimeExpiry => exact reach_of_moves _ (execFrameLifetimeExpiry_moves ..) rfl rfl
  | txFrameComplete => exact reach_of_moves _ (execTxFrameComplete_moves ..) rfl rfl
  | duplicateEntryForget => exact reach_of_moves _ (execDuplicateEntryForget_moves ..) rfl rfl
  | redSupervisionInterval => exact reach_of_moves _ (execRedSupervisionInterval_moves ..) rfl rfl
  | resequencingTimeout => exact reach_of_moves _ (execResequencingTimeout_moves ..) rfl rfl
  | cellEccError => exact reach_of_moves _ (execCellEccError_moves ..) rfl rfl
  | cutThroughUnderrun => exact reach_of_moves _ (execCutThroughUnderrun_moves ..) rfl rfl
  | swcCmdPairing => exact reach_of_moves _ (execSwcCmdPairing_moves ..) rfl rfl
  | swcCmdSelftest => exact reach_of_moves _ (execSwcCmdSelftest_moves ..) rfl rfl
  | swcCmdRanding => exact reach_of_moves _ (execSwcCmdRanding_moves ..) rfl rfl
  | selfTestComplete => exact reach_of_moves _ (execSelfTestComplete_moves ..) rfl rfl
  | quietPeriodExpiry => exact reach_of_moves _ (execQuietPeriodExpiry_moves ..) rfl rfl
  | modeChangeComplete => exact reach_of_moves _ (execModeChangeComplete_moves ..) rfl rfl
  | swcMemMaxClear => exact reach_of_moves _ (execSwcMemMaxClear_moves ..) rfl rfl
  | fwdEntryAgeOut => exact reach_of_moves _ (execFwdEntryAgeOut_moves ..) rfl rfl
  | acqManualTrigger => exact reach_of_moves _ (execAcqManualTrigger_moves ..) rfl rfl
  | acqRelease => exact reach_of_moves _ (execAcqRelease_moves ..) rfl rfl
  | acqExportFrame => exact reach_of_moves _ (execAcqExportFrame_moves ..) rfl rfl
  | energyIntervalEnd => exact reach_of_moves _ (execEnergyIntervalEnd_moves ..) rfl rfl
  | overcurrentTimerExpiry => exact reach_of_moves _ (execOvercurrentTimerExpiry_moves ..) rfl rfl
  | nrgLatch => exact reach_of_moves _ (execNrgLatch_moves ..) rfl rfl
  | nrgClrPeak => exact reach_of_moves _ (execNrgClrPeak_moves ..) rfl rfl
  | pulseInputEdge => exact reach_of_moves _ (execPulseInputEdge_moves ..) rfl rfl
  | pulseDebounceExpiry => exact reach_of_moves _ (execPulseDebounceExpiry_moves ..) rfl rfl
  | pulseMinWidthExpiry => exact reach_of_moves _ (execPulseMinWidthExpiry_moves ..) rfl rfl
  | pulseStallExpiry => exact reach_of_moves _ (execPulseStallExpiry_moves ..) rfl rfl
  | plsLatch => exact reach_of_moves _ (execPlsLatch_moves ..) rfl rfl
  | coilEventIntake => exact reach_of_moves _ (execCoilEventIntake_moves ..) rfl rfl
  | coilRecordWrite => exact reach_of_moves _ (execCoilRecordWrite_moves ..) rfl rfl
  | coilFoldRewrite => exact reach_of_moves _ (execCoilFoldRewrite_moves ..) rfl rfl
  | coilCmdFlush => exact reach_of_moves _ (execCoilCmdFlush_moves ..) rfl rfl
  | coilCmdLgClear => exact reach_of_moves _ (execCoilCmdLgClear_moves ..) rfl rfl
  | coilFifoClearMax => exact reach_of_moves _ (execCoilFifoClearMax_moves ..) rfl rfl
  | lastGaspFlushComplete => exact reach_of_moves_every (execLastGaspFlushComplete_moves ..) rfl rfl
  | pgInFall => exact reach_of_moves _ (execPgInFall_moves ..) rfl rfl
  | pgInRise => exact reach_of_moves_every (execPgInRise_moves ..) rfl rfl
  | nrstIn => exact reach_of_moves _ (execNrstIn_moves ..) rfl rfl
  | rstCmdModuleReset => exact reach_of_moves_every (execRstCmdModuleReset_moves ..) rfl rfl
  | rstCmdApplyImage => exact reach_of_moves_every (execRstCmdApplyImage_moves ..) rfl rfl
  | rstKick => exact reach_of_moves _ (execRstKick_moves ..) rfl rfl
  | managerWatchdogExpiry => exact reach_of_moves _ (execManagerWatchdogExpiry_moves ..) rfl rfl
  | powerOn => exact reach_of_moves_every (execPowerOn_moves ..) rfl rfl
  | vinUndervoltage => exact reach_of_moves _ (execVinUndervoltage_moves ..) rfl rfl
  | vinOutOfRange => exact reach_of_moves _ (execVinOutOfRange_moves ..) rfl rfl
  | tjHigh => exact reach_of_moves _ (execTjHigh_moves ..) rfl rfl
  | thermalTrip => exact reach_of_moves _ (execThermalTrip_moves ..) rfl rfl
  | thermalRecovery => exact reach_of_moves_every (execThermalRecovery_moves ..) rfl rfl
  | lidSwitchChange => exact reach_of_moves _ (execLidSwitchChange_moves ..) rfl rfl
  | keyStoreEraseComplete => exact reach_of_moves _ (execKeyStoreEraseComplete_moves ..) rfl rfl
  | meshTest => exact reach_of_moves _ (execMeshTest_moves ..) rfl rfl
  | voltageGlitch => exact reach_of_moves _ (execVoltageGlitch_moves ..) rfl rfl
  | rimClear => exact reach_of_moves_every (execRimClear_moves ..) rfl rfl
  | svAdvance => exact reach_of_moves _ (execSvAdvance_moves ..) rfl rfl
  | debugChallengeRead => exact reach_of_moves _ (execDebugChallengeRead_moves ..) rfl rfl
  | debugUnlockResponse => exact reach_of_moves _ (execDebugUnlockResponse_moves ..) rfl rfl
  | copyClassInterruption => exact reach_of_moves _ (execCopyClassInterruption_moves ..) rfl rfl
  | managementLinkChange => exact reach_of_moves _ (execManagementLinkChange_moves ..) rfl rfl
  | pciePerstRelease => exact reach_of_moves _ (execPciePerstRelease_moves ..) rfl rfl

/-- Settles O6: the frame of each row, in the terms of its reach. -/
theorem everyCommandKeepsToItsReach : Obligations.EveryCommandKeepsToItsReach := fun c s =>
  have ⟨m', hnext, hreach, _⟩ := exec_inReach c s
  ⟨m', hnext, hreach⟩

/-- Settles O1: both halves are the two cases of `step`. -/
theorem stepRunsFrontCommand : Obligations.StepRunsFrontCommand := by
  refine ⟨fun c s => rfl, fun s hidle => ?_⟩
  unfold step
  rw [hidle]

/-- Settles O7: an idle step answers its own state; any other is the command at the front, run on the queue's rest. -/
theorem everyStepAnswersNext : Obligations.EveryStepAnswersNext := by
  rintro ⟨_ | ⟨c, rest⟩, m⟩
  · exact ⟨_, rfl, rfl⟩
  · obtain ⟨m', hnext, -⟩ := exec_inReach c ⟨rest, m⟩
    exact ⟨_, hnext, rfl⟩

end Sys2Proof.Machine

/-! # Accepted register writes

A word that no reason of R440 rejects (R8, R34): what it leaves in the register written, and the audit record that follows it
(R372). -/

namespace Sys2Proof.Machine

/-! ### The word reaches its register -/

/-- A REGISTER_WRITE of an aligned word, but for RST_CMD, is the write of that word. -/
theorem completes_registerWord {s : State} {t : Nat} {src : Src} {page : BitVec 8} {off : BitVec 12} {v : BitVec 64}
    {o : Nat} {m' : Mach} {P : Mach → Prop} (hp : s.m.powered = true) (hoff : off.toNat = o) (ho : o % 4 = 0)
    (hrst : ¬ (page = 0x01 ∧ off = 0x044))
    (hw : (s.m.advance t).writeWord src page.toNat o (v.setWidth 32) = (m', none)) (hP : P m') :
    Completes (.registerWrite t src page off .word v) s P := by
  subst hoff
  have hexec : exec (.registerWrite t src page off .word v) s
      = s.run t fun m => m.fullAccess src page.toNat off.toNat .word v := rfl
  refine completes_run hexec hp ?_
  have hrst' : ¬ (page.toNat = 0x01 ∧ off.toNat = 0x044 ∧ debugIgnored (s.m.advance t) src page.toNat off.toNat = false) :=
    fun ⟨h1, h2, _⟩ => hrst ⟨BitVec.eq_of_toNat_eq h1, BitVec.eq_of_toNat_eq h2⟩
  unfold Mach.fullAccess Mach.fullWrite
  simp only [if_pos ho, hw, if_neg hrst']
  exact hP

/-- A header word other than PAGE_LOCK that no reason rejects. -/
theorem writeWord_header {m : Mach} {src : Src} {page off : Nat} {v : Word} (hs : m.mayWrite src) (hm : mapped page = true)
    (ho : off < 0x040) (hlock : off ≠ 0x028) (hr : wordRefusal m src page off v.toNat = none) :
    m.writeWord src page off v = (m.writeHeader src page off v, none) := by
  simp [Mach.writeWord, hm, debugIgnored_false hs, hlock, hr, ho]

/-- A word of a block register that no reason rejects. -/
theorem writeWord_block {m : Mach} {src : Src} {page off : Nat} {v : Word} {d : RegDef} (hs : m.mayWrite src)
    (hm : mapped page = true) (ho : 0x040 ≤ off) (hd : findReg page off = some d)
    (hr : wordRefusal m src page off v.toNat = none) : m.writeWord src page off v = (m.writeBlockReg src page off v d, none) := by
  have hlock : off ≠ 0x028 := by omega
  simp [Mach.writeWord, hm, debugIgnored_false hs, hlock, hr, hd, Nat.not_lt.mpr ho]

/-- The audit record leaves every word as it was but the recorder's own. -/
theorem auditWrite_reg (m : Mach) (q : Nat) (src : Src) (o : Nat) (v : Word) {page off : Nat} (i : Nat) (hp : page < 256)
    (ho : off < 4096) (hr : ¬ recPage page off) : (m.auditWrite q src o v).reg page off i = m.reg page off i :=
  (audit_within m q 0x100 _).2 page off i hp ho hr

/-! ### PAGE_EVT and PAGE_EVT_EN -/

/-- Nothing rejects a word written to PAGE_EVT of a mapped page: it is no configuration (R44). -/
theorem wordRefusal_evt (m : Mach) (src : Src) (page v : Nat) : wordRefusal m src page 0x014 v = none := by
  simp [wordRefusal, configWrite, secondRun, headerRefusal]

/-- PAGE_EVT_EN is configuration: a Rim policy or an admission may stand against it, and nothing else (R44). -/
theorem wordRefusal_evtEn (m : Mach) (src : Src) (page v : Nat) (hrim : rimLocked m = false)
    (hadm : underAdmission m page = false) : wordRefusal m src page 0x018 v = none := by
  simp [wordRefusal, hrim, hadm, secondRun, headerRefusal]

/-- The audit record leaves PAGE_EVT of every page, the recorder's own too while the recorder has room for the record. -/
theorem auditWrite_evtWord (m : Mach) (src : Src) (v : Word) {page : Nat} (hp : page < 256)
    (hroom : page = 7 → m.coil.fifo.length < 32 ∧ m.now / 2 ^ 32 ≤ m.coil.wrapNo) :
    (m.auditWrite page src 0x014 v).reg page 0x014 0 = m.reg page 0x014 0 := by
  by_cases h7 : page = 7
  · obtain ⟨hfifo, hwrap⟩ := hroom h7
    exact reg_intake_room m page _ _ _ _ _ _ _ _ hfifo hwrap hp (by decide) (by simp [COIL_INTAKE_LOSS, COIL_CNT_n, Fd.nth])
  · exact auditWrite_reg m page src 0x014 v 0 hp (by decide) fun h => h7 h.1

/-- An accepted write to PAGE_EVT. -/
theorem writeHeader_evtWord (m : Mach) (src : Src) (page : Nat) (v : Word) :
    m.writeHeader src page 0x014 v = (m.setReg page 0x014 0 (m.reg page 0x014 0 &&& ~~~ v)).auditWrite page src 0x014 v := rfl

/-- An accepted write to PAGE_EVT_EN. -/
theorem writeHeader_evtEnWord (m : Mach) (src : Src) (page : Nat) (v : Word) :
    m.writeHeader src page 0x018 v = (m.setReg page 0x018 0 v).auditWrite page src 0x018 v := rfl

/-- A write to PAGE_EVT clears the bits written 1 (R38). -/
theorem writeHeader_evt (m : Mach) (src : Src) (v : Word) {page b : Nat} (hp : page < 256) (hb : b < 32)
    (hroom : page = 7 → m.coil.fifo.length < 32 ∧ m.now / 2 ^ 32 ≤ m.coil.wrapNo) :
    (m.writeHeader src page 0x014 v).evt page b = (m.evt page b && !v.getLsbD b) := by
  have hreg : (m.writeHeader src page 0x014 v).reg page 0x014 0 = m.reg page 0x014 0 &&& ~~~ v := by
    rw [writeHeader_evtWord, auditWrite_evtWord (m.setReg page 0x014 0 _) src v hp hroom, reg_setReg_same]
  rw [evt_reg _ _ _ hb, evt_reg _ _ _ hb, hreg]
  simp [hb]

/-- A write to PAGE_EVT_EN sets it. -/
theorem writeHeader_evtEn (m : Mach) (src : Src) (v : Word) {page : Nat} (hp : page < 256) :
    (m.writeHeader src page 0x018 v).fld (hEvtEn page) = v.toNat := by
  have hreg : (m.writeHeader src page 0x018 v).reg page 0x018 0 = v := by
    rw [writeHeader_evtEnWord, auditWrite_reg _ page src 0x018 v 0 hp (by decide) (by simp [recPage, COIL_CNT_n]), reg_setReg_same]
  show bits ((m.writeHeader src page 0x018 v).reg page 0x018 0).toNat 31 0 = v.toNat
  rw [hreg]
  simpa [bits] using v.isLt

/-! ### Block registers -/

/-- The fields of a word stored: RW and RWL fields take the value written, W1C bits written 1 are cleared (R8). -/
theorem storeWord_reg (m : Mach) {page off : Nat} (i : Nat) (v : Word) {d : RegDef} (hd : findReg page off = some d) :
    (m.storeWord page off i v).reg page off i
      = ((m.reg page off i &&& ~~~ word (accMask d [.rw, .rwl])) ||| (v &&& word (accMask d [.rw, .rwl])))
        &&& ~~~ (v &&& word (accMask d [.w1c])) := by
  unfold Mach.storeWord
  rw [hd]
  exact reg_setReg_same ..

/-- Storing a word leaves the values in force (R43). -/
theorem storeWord_force (m : Mach) (page off i : Nat) (v : Word) : (m.storeWord page off i v).force = m.force := by
  unfold Mach.storeWord
  split <;> rfl

/-- The write of a single-word register with no command behind it is the storing of its fields. -/
theorem writeBlockReg_plain (m : Mach) (src : Src) {page off : Nat} (v : Word) {d : RegDef} (hp : page < 256) (ho : off < 4096)
    (hhi : d.hiOff = none) (hlow : lowOffsets page off = []) (hrec : ¬ recPage page off)
    (hact : ∀ (k : Mach) (i : Nat), k.act src page off i v.toNat = k) :
    (m.writeBlockReg src page off v d).reg page off (selIndex m d)
        = (m.storeWord page off (selIndex m d) v).reg page off (selIndex m d)
      ∧ (m.writeBlockReg src page off v d).force = m.force := by
  have hw : m.writeBlockReg src page off v d = if isSelector page d then m.storeWord page off (selIndex m d) v
      else (m.storeWord page off (selIndex m d) v).auditWrite page src off v := by
    simp [Mach.writeBlockReg, hhi, hlow, hact, Mach.each, Mach.dropLows]
  rw [hw]
  split
  · exact ⟨rfl, storeWord_force ..⟩
  · exact ⟨auditWrite_reg _ page src off v _ hp ho hrec, (within_force (audit_within ..)).trans (storeWord_force ..)⟩

/-- Settles O8: each clause is a word that nothing rejects, and what the write of its register leaves. -/
theorem registerWriteStores : Obligations.RegisterWriteStores := by
  refine ⟨?_, ?_, ?_⟩
  · intro s t src page v hpow hsrc hmap hroom
    refine completes_registerWord (o := 0x014) hpow rfl rfl (by simp)
      (writeWord_header hsrc hmap (by decide) (by decide) (wordRefusal_evt _ _ _ _)) fun b hb => ?_
    rw [writeHeader_evt (s.m.advance t) src _ page.isLt hb fun h => hroom (BitVec.eq_of_toNat_eq h)]
    simp [hb, evt_advance]
  · intro s t src page v hpow hsrc hmap hrim hadm
    refine completes_registerWord (o := 0x018) hpow rfl rfl (by simp)
      (writeWord_header hsrc hmap (by decide) (by decide) (wordRefusal_evtEn _ _ _ _ hrim hadm)) ?_
    rw [writeHeader_evtEn _ src _ page.isLt, BitVec.toNat_setWidth]
  · intro s t src page off v d hpow hsrc hmap ho halign hd hhi hlow hrst hrec href hact
    have hv : (v.setWidth 32 : Word).toNat = v.toNat % 2 ^ 32 := BitVec.toNat_setWidth ..
    rw [← hv] at href
    simp only [← hv] at hact
    obtain ⟨hreg, hforce⟩ := writeBlockReg_plain (s.m.advance t) src _ page.isLt off.isLt hhi hlow hrec hact
    exact completes_registerWord hpow rfl halign hrst (writeWord_block hsrc hmap ho hd href)
      ⟨hreg.trans (storeWord_reg _ _ _ hd), hforce⟩

end Sys2Proof.Machine

/-! # A partition's window

The writes to the window of a partition (R260, R263, R264, R274) and the token that refills its bucket (R275): first what a rejected
write, a vector tried and a token leave, then each write of the window. -/

namespace Sys2Proof.Machine

/-! ### A rejected write -/

/-- Equal rings and counts of two partitions, field by field. -/
theorem ringPart_fields {a b : Part} (h : ringPart a = ringPart b) :
    a.cmdProd = b.cmdProd ∧ a.rej = b.rej
      ∧ (a.cmdBase, a.cmdLog, a.cplBase, a.cplLog, a.rings) = (b.cmdBase, b.cmdLog, b.cplBase, b.cplLog, b.rings) := by
  simp only [ringPart, Prod.mk.injEq] at h
  simp [h]

/-- A rejected write counts in the window and leaves the rings (R260). -/
theorem rejectWindow_ring (m : Mach) (p : Nat) :
    ringPart ((m.rejectWindow p).part p) = ringPart { m.part p with rej := ((m.part p).rej + 1) % 2 ^ 32 } := by
  unfold Mach.rejectWindow
  rw [signalPart_ring, part_of_parts (within_parts (eventAlways_within _ 0x32 6 (.part p) (by decide))),
    part_of_parts (count_parts ..), part_onPart]

/-- A rejected write counts in VRT (R260). -/
theorem rejectWindow_count (m : Mach) (p : Nat) :
    (m.rejectWindow p).fld (VRT_CNT_n.nth 1) = (m.fld (VRT_CNT_n.nth 1) + 1) % 2 ^ 32 := by
  unfold Mach.rejectWindow
  rw [fld_touch (Mach.signalPart_touch ..) _ _ rfl, fld_eventAlways _ _ _ _ _ _ rfl, fld_count _ _ _ _ rfl, fld_onPart]
  rfl

/-- A rejected write sets VRT event 6 (R260). -/
theorem rejectWindow_evt (m : Mach) (p : Nat) : (m.rejectWindow p).evt 0x32 6 = true := by
  unfold Mach.rejectWindow
  rw [evt_touch (Mach.signalPart_touch ..) _ _ rfl]
  exact evt_eventAlways _ _ _ _ rfl

/-! ### Doorbells -/

theorem writeCmdProd_within {m : Mach} {p v : Nat} (h : ringUsed v (m.part p).cmdCons ≤ 2 ^ (m.part p).cmdLog) :
    m.writeCmdProd p v = m.onPart p fun b => { b with cmdProd := v } := by
  simp [Mach.writeCmdProd, Mach.doorbell, h]

theorem writeCmdProd_beyond {m : Mach} {p v : Nat} (h : 2 ^ (m.part p).cmdLog < ringUsed v (m.part p).cmdCons) :
    m.writeCmdProd p v = m.rejectWindow p := by
  simp [Mach.writeCmdProd, Mach.doorbell, Nat.not_le.mpr h]

/-- With no delivery kept, the completion consumer is all that changes (R263). -/
theorem writeCplCons_within {m : Mach} {p v : Nat}
    (h : ringUsed v (m.part p).cplCons ≤ ringUsed (m.part p).cplProd (m.part p).cplCons) (hkept : (m.part p).kept = []) :
    m.writeCplCons p v = m.onPart p fun b => { b with cplCons := v } := by
  simp [Mach.writeCplCons, Mach.doorbell, h, part_onPart, hkept, Mach.deliverKept]

theorem writeMrCons_within {m : Mach} {p f v : Nat} {r : MRing} (hr : kget f (m.part p).rings = some r)
    (h : ringUsed v r.cons ≤ ringUsed r.prod r.cons) : m.writeMrCons p f v = m.onRing p f fun r => { r with cons := v } := by
  simp [Mach.writeMrCons, hr, h]

theorem writeMrCons_beyond {m : Mach} {p f v : Nat} {r : MRing} (hr : kget f (m.part p).rings = some r)
    (h : ringUsed r.prod r.cons < ringUsed v r.cons) : m.writeMrCons p f v = m.rejectWindow p := by
  simp [Mach.writeMrCons, hr, Nat.not_le.mpr h]

/-- An index of a measurand ring changed: that ring, and no other. -/
theorem onRing_rings (m : Mach) (p f : Nat) (g : MRing → MRing) {r : MRing} (hr : kget f (m.part p).rings = some r) :
    kget f ((m.onRing p f g).part p).rings = some (g r)
      ∧ ∀ f', f' ≠ f → kget f' ((m.onRing p f g).part p).rings = kget f' (m.part p).rings := by
  unfold Mach.onRing
  rw [part_onPart]
  refine ⟨?_, fun f' hne => kget_kput_ne _ _ hne⟩
  rw [kget_kput_same, hr]
  rfl

/-! ### Vectors -/

/-- What a partition's interrupt words show: the pending and the masked vectors (R274). -/
def vectors (b : Part) : Nat × Nat := (b.irqPend, b.irqMask)

/-- A delivery outside a reset marks the vector as sent and changes nothing else of the partition (R274, R276). -/
theorem deliverVec_part (m : Mach) (p v : Nat) (h : m.partState p ≠ psResetting) :
    (m.deliverVec p v).part p = { m.part p with irqSent := (m.part p).irqSent ||| 2 ^ v } := by
  unfold Mach.deliverVec
  rw [if_neg h]
  dsimp only
  rw [part_of_parts (parts_of_touch (Mach.sendValue_touch ..) rfl), part_of_parts (count_parts ..), part_onPart]

/-- A delivery outside a reset is counted (R276). -/
theorem deliverVec_count (m : Mach) (p v : Nat) (h : m.partState p ≠ psResetting) :
    (m.deliverVec p v).fld IRQ_CNT_n = (m.fld IRQ_CNT_n + 1) % 2 ^ 32 := by
  unfold Mach.deliverVec
  rw [if_neg h]
  dsimp only
  rw [fld_touch (Mach.sendValue_touch ..) _ _ rfl, fld_count _ _ _ _ rfl, fld_onPart]
  rfl

/-- A delivery leaves the interrupt words, in a reset too. -/
theorem deliverVec_vectors (m : Mach) (p v : Nat) : vectors ((m.deliverVec p v).part p) = vectors (m.part p) := by
  by_cases h : m.partState p = psResetting
  · unfold Mach.deliverVec
    rw [if_pos h, part_of_parts (Mach.event_parts _ _ _ _ (by decide)), part_of_parts (count_parts ..)]
  · rw [deliverVec_part m p v h]
    rfl

/-- A vector tried leaves the interrupt words, whether it goes at once, takes a token or waits for one. -/
theorem tryVec_vectors (m : Mach) (p v : Nat) : vectors ((m.tryVec p v).part p) = vectors (m.part p) := by
  unfold Mach.tryVec
  dsimp only
  split
  · rfl
  split
  · exact deliverVec_vectors m p v
  split
  · rw [deliverVec_vectors]
    have htoken := congrArg vectors (part_onPart m p fun b => { b with tokens := b.tokens - 1 })
    split
    · exact htoken
    · exact htoken
  · rw [part_of_parts (Mach.event_parts _ _ _ _ (by decide)), part_of_parts (count_parts ..),
      part_of_parts (Mach.setFlag_parts ..), part_onPart]
    rfl

/-! ### Interrupt words -/

theorem setHalf_low (x : Nat) {w : Nat} (h : w < 2 ^ 32) : setHalf x false w = x / 2 ^ 32 * 2 ^ 32 + w := by
  simpa [setHalf] using h

theorem setHalf_high (x : Nat) {w : Nat} (h : w < 2 ^ 32) : setHalf x true w = w * 2 ^ 32 + x % 2 ^ 32 := by
  simpa [setHalf] using h

/-- A pending word written: its ones leave the pending vectors; the mask stays. -/
theorem writeIrq_pending (m : Mach) (p off v : Nat) (hi : Bool) (hoff : off = if hi then 0x204 else 0x200) :
    vectors ((m.writeIrq p off v).part p)
      = ((m.part p).irqPend - ((m.part p).irqPend &&& setHalf 0 hi v), (m.part p).irqMask) := by
  subst hoff
  cases hi <;> exact congrArg vectors (part_onPart ..)

/-- A mask word written is that half of the mask; the vectors it lets through stay pending. -/
theorem writeIrq_mask (m : Mach) (p off v : Nat) (hi : Bool) (hoff : off = if hi then 0x20C else 0x208) :
    vectors ((m.writeIrq p off v).part p) = ((m.part p).irqPend, setHalf (m.part p).irqMask hi v) := by
  subst hoff
  have htry : ∀ k : Mach, vectors ((k.each (List.range 64) fun n y => y.tryVec p n).part p) = vectors (k.part p) :=
    fun k => each_keep (fun y => vectors (y.part p)) _ _ k fun n y => tryVec_vectors y p n
  cases hi <;> exact (htry _).trans (congrArg vectors (part_onPart ..))

/-! ### Configuration -/

/-- A field accepted while Stopped (R260). -/
theorem writeWindow_accepted {m : Mach} {p off v : Nat} {b : Part} (hst : m.partState p = psStopped)
    (hb : windowConfig (m.part p) off v = some b) : m.writeWindow p off v = m.onPart p fun _ => b := by
  simp [Mach.writeWindow, hst, hb]

/-- In any other state a configuration write is rejected, and a low word held for it forgotten (R11, R260). -/
theorem writeWindow_rejected {m : Mach} {p off v : Nat} (hst : m.partState p ≠ psStopped) :
    m.writeWindow p off v = (m.onPart p fun b => { b with lows := kdel (off - 4) b.lows }).rejectWindow p := by
  simp [Mach.writeWindow, hst]

theorem windowConfig_cmdBaseLow (b : Part) {v : Nat} (h : v % 4096 = 0) :
    windowConfig b 0x100 v = some { b with lows := kput 0x100 v b.lows } := by
  simp [windowConfig, windowSize, windowBase, h]

theorem windowConfig_cmdBaseHigh (b : Part) {v low : Nat} (hv : v < 2 ^ 32) (hlow : kget 0x100 b.lows = some low) :
    windowConfig b 0x104 v = some { b with lows := kdel 0x100 b.lows, cmdBase := v * 2 ^ 32 + low } := by
  simpa [windowConfig, windowSize, windowBase, hlow] using hv

theorem windowConfig_cmdLog (b : Part) {v : Nat} (h1 : 1 ≤ v) (h2 : v ≤ 8) :
    windowConfig b 0x108 v = some { b with cmdLog := v } := if_pos ⟨h1, h2⟩

theorem windowConfig_cplLog (b : Part) {v : Nat} (h1 : 1 ≤ v) (h2 : v ≤ 10) :
    windowConfig b 0x118 v = some { b with cplLog := v } := if_pos ⟨h1, h2⟩

/-- The low word of a 64-bit window value. -/
theorem halfWord_low (hi low : Nat) : halfWord (hi * 2 ^ 32 + low) false = word low := by
  apply BitVec.eq_of_toNat_eq
  simp [halfWord]

/-- The high word of a 64-bit window value. -/
theorem halfWord_high (v : Word) {low : Nat} (h : low < 2 ^ 32) : halfWord (v.toNat * 2 ^ 32 + low) true = v := by
  apply BitVec.eq_of_toNat_eq
  have hv := v.isLt
  have hdiv : (v.toNat * 2 ^ 32 + low) / 2 ^ 32 = v.toNat := by omega
  simp only [halfWord, if_true, word_toNat, hdiv]
  omega

/-! ### Tokens -/

/-- The end of a token's coming: whether vectors still wait is shown, and the next token follows while the bucket is not full. -/
def Mach.afterToken (m : Mach) (p : Nat) : Mach :=
  let m := m.setFlag IRQ_STS_limited p (!(m.part p).irqWait.isEmpty)
  if (m.part p).tokens < m.cfg IRQ_PART_burst p then m.arm (.irqToken p) (m.now + tokenGap m p) else m

/-- The vectors that wait for a token and can be delivered: still pending and not masked (R275). -/
def liveVecs (b : Part) : List Nat := b.irqWait.filter fun v => bit b.irqPend v && !bit b.irqMask v

theorem tokenCame_delivers {m : Mach} {p v : Nat} {rest : List Nat} (h : liveVecs (m.part p) = v :: rest) :
    m.tokenCame p = ((m.onPart p fun b => { b with irqWait := rest }).deliverVec p v).afterToken p := by
  unfold liveVecs at h
  unfold Mach.tokenCame
  simp only [h]
  rfl

theorem tokenCame_fills {m : Mach} {p : Nat} (h : liveVecs (m.part p) = []) :
    m.tokenCame p = (m.onPart p fun b => { b with irqWait := [], tokens := min (m.cfg IRQ_PART_burst p) (b.tokens + 1) }).afterToken p := by
  unfold liveVecs at h
  unfold Mach.tokenCame
  simp only [h]
  rfl

theorem afterToken_part (m : Mach) (p q : Nat) : (m.afterToken p).part q = m.part q := by
  unfold Mach.afterToken
  dsimp only
  split <;> rfl

theorem afterToken_fld (m : Mach) (p : Nat) (f : Fd) (i : Nat) (h : Fd.clear IRQ_STS_limited f = true) :
    (m.afterToken p).fld f i = m.fld f i := by
  unfold Mach.afterToken
  dsimp only
  split
  · exact (fld_arm ..).trans (fld_flag_clear _ _ _ _ _ _ h)
  · exact fld_flag_clear _ _ _ _ _ _ h

/-- A token that delivers: the vector is sent, those behind it wait on, the bucket stays, and the delivery is counted (R275, R276). -/
theorem tokenCame_sends {m : Mach} {p v : Nat} {rest : List Nat} (hst : m.partState p ≠ psResetting)
    (hlive : liveVecs (m.part p) = v :: rest) :
    (m.tokenCame p).part p = { m.part p with irqWait := rest, irqSent := (m.part p).irqSent ||| 2 ^ v }
      ∧ (m.tokenCame p).fld IRQ_CNT_n = (m.fld IRQ_CNT_n + 1) % 2 ^ 32 := by
  have hst' : (m.onPart p fun b => { b with irqWait := rest }).partState p ≠ psResetting := hst
  rw [tokenCame_delivers hlive, afterToken_part, afterToken_fld _ _ _ _ rfl, deliverVec_part _ _ _ hst',
    deliverVec_count _ _ _ hst', part_onPart, fld_onPart]
  exact ⟨rfl, rfl⟩

/-- A token with no vector to deliver fills the bucket, up to its burst (R275). -/
theorem tokenCame_idle {m : Mach} {p : Nat} (hlive : liveVecs (m.part p) = []) :
    (m.tokenCame p).part p
      = { m.part p with irqWait := [], tokens := min (m.cfg IRQ_PART_burst p) ((m.part p).tokens + 1) } := by
  rw [tokenCame_fills hlive, afterToken_part, part_onPart]

/-! ### The commands -/

section
variable {s : State} {t : Nat} {p : Fin 64} {v : Word} {P : Mach → Prop}

theorem completes_cmdProdWrite (hp : s.m.powered = true) (hP : P ((s.m.advance t).writeCmdProd p (v.toNat % 2 ^ 16))) :
    Completes (.pwinCmdProdWrite t p v) s P :=
  completes_run (f := fun m => m.writeCmdProd p (v.toNat % 2 ^ 16)) rfl hp hP

theorem completes_cplConsWrite (hp : s.m.powered = true) (hP : P ((s.m.advance t).writeCplCons p (v.toNat % 2 ^ 16))) :
    Completes (.pwinCplConsWrite t p v) s P :=
  completes_run (f := fun m => m.writeCplCons p (v.toNat % 2 ^ 16)) rfl hp hP

theorem completes_mrConsWrite (hp : s.m.powered = true)
    (hP : P ((s.m.advance t).writeMrCons p (bits v.toNat 21 16) (bits v.toNat 15 0))) : Completes (.pwinMrConsWrite t p v) s P :=
  completes_run (f := fun m => m.writeMrCons p (bits v.toNat 21 16) (bits v.toNat 15 0)) rfl hp hP

theorem completes_irqWrite {off : BitVec 16} (hp : s.m.powered = true) (hP : P ((s.m.advance t).writeIrq p off.toNat v.toNat)) :
    Completes (.pwinIrqWrite t p off v) s P :=
  completes_run (f := fun m => m.writeIrq p off.toNat v.toNat) rfl hp hP

theorem completes_configWrite {off : BitVec 16} (hp : s.m.powered = true)
    (hP : P ((s.m.advance t).writeWindow p off.toNat v.toNat)) : Completes (.pwinConfigWrite t p off v) s P :=
  completes_run (f := fun m => m.writeWindow p off.toNat v.toNat) rfl hp hP

theorem completes_tokenRefill (hf : s.m.fires (.irqToken p) t)
    (hP : P (((s.m.advance t).disarm (.irqToken p)).tokenCame p)) : Completes (.irqTokenRefill t p) s P :=
  completes_fires (f := fun m => m.tokenCame p) rfl hf hP

/-- An accepted field of the window: the partition with it set. -/
theorem completes_configAccepted {off : BitVec 16} {b : Part} (hp : s.m.powered = true) (hst : s.m.partState p = psStopped)
    (hb : windowConfig (s.m.part p) off.toNat v.toNat = some b) (hP : ∀ m' : Mach, m'.part p = b → P m') :
    Completes (.pwinConfigWrite t p off v) s P := by
  refine completes_configWrite hp (hP _ ?_)
  rw [writeWindow_accepted (m := s.m.advance t) hst hb, part_onPart]

end

/-- Settles O33: clause by clause, what a write of the window or a token leaves of the partition. -/
theorem windowWritesAct : Obligations.WindowWritesAct := by
  refine ⟨?cmdProd, ?cmdProdBeyond, ?cplCons, ?mrCons, ?mrConsBeyond, ?pendLow, ?pendHigh, ?maskLow, ?maskHigh, ?baseLow, ?baseHigh,
    ?cmdLog, ?cplLog, ?running, ?delivers, ?fills⟩
  case cmdProd =>
    intro s t p v hp hcredit
    exact completes_cmdProdWrite hp (writeCmdProd_within (m := s.m.advance t) hcredit)
  case cmdProdBeyond =>
    intro s t p v hp hbeyond
    refine completes_cmdProdWrite hp ?_
    rw [writeCmdProd_beyond (m := s.m.advance t) hbeyond]
    obtain ⟨hprod, hrej, -⟩ := ringPart_fields (rejectWindow_ring (s.m.advance t) p)
    exact ⟨hprod, hrej, rejectWindow_count .., rejectWindow_evt ..⟩
  case cplCons =>
    intro s t p v hp hcredit hkept
    exact completes_cplConsWrite hp (writeCplCons_within (m := s.m.advance t) hcredit hkept)
  case mrCons =>
    intro s t p v r hp hr hcredit
    refine completes_mrConsWrite hp ?_
    rw [writeMrCons_within (m := s.m.advance t) hr hcredit]
    exact onRing_rings (s.m.advance t) p _ _ hr
  case mrConsBeyond =>
    intro s t p v r hp hr hbeyond
    refine completes_mrConsWrite hp ?_
    rw [writeMrCons_beyond (m := s.m.advance t) hr hbeyond]
    obtain ⟨-, hrej, hconf⟩ := ringPart_fields (rejectWindow_ring (s.m.advance t) p)
    simp only [Prod.mk.injEq] at hconf
    obtain ⟨-, -, -, -, hrings⟩ := hconf
    exact ⟨hrings, hrej, rejectWindow_evt ..⟩
  case pendLow =>
    intro s t p v hp
    have hvec := writeIrq_pending (s.m.advance t) p 0x200 v.toNat false rfl
    rw [setHalf_low 0 v.isLt, Nat.zero_div, Nat.zero_mul, Nat.zero_add] at hvec
    exact completes_irqWrite hp (Prod.mk.inj hvec)
  case pendHigh =>
    intro s t p v hp
    have hvec := writeIrq_pending (s.m.advance t) p 0x204 v.toNat true rfl
    rw [setHalf_high 0 v.isLt, Nat.zero_mod, Nat.add_zero] at hvec
    exact completes_irqWrite hp (Prod.mk.inj hvec)
  case maskLow =>
    intro s t p v hp
    have hvec := writeIrq_mask (s.m.advance t) p 0x208 v.toNat false rfl
    rw [setHalf_low _ v.isLt] at hvec
    exact completes_irqWrite hp (Prod.mk.inj hvec).symm
  case maskHigh =>
    intro s t p v hp
    have hvec := writeIrq_mask (s.m.advance t) p 0x20C v.toNat true rfl
    rw [setHalf_high _ v.isLt] at hvec
    exact completes_irqWrite hp (Prod.mk.inj hvec).symm
  case baseLow =>
    intro s t p v hp hst halign
    exact completes_configAccepted hp hst (windowConfig_cmdBaseLow _ halign) fun m' hpart => hpart
  case baseHigh =>
    intro s t p v low hp hst hlow hlt
    refine completes_configAccepted hp hst (windowConfig_cmdBaseHigh _ v.isLt hlow) fun m' hpart => ?_
    have hbase : (m'.part p).cmdBase = v.toNat * 2 ^ 32 + low := congrArg Part.cmdBase hpart
    refine ⟨hbase, ?_, ?_⟩
    · exact (congrArg (halfWord · false) hbase).trans (halfWord_low ..)
    · exact (congrArg (halfWord · true) hbase).trans (halfWord_high v hlt)
  case cmdLog =>
    intro s t p v hp hst h1 h8
    exact completes_configAccepted hp hst (windowConfig_cmdLog _ h1 h8) fun m' hpart => hpart
  case cplLog =>
    intro s t p v hp hst h1 h10
    exact completes_configAccepted hp hst (windowConfig_cplLog _ h1 h10) fun m' hpart => hpart
  case running =>
    intro s t p off v hp hst
    refine completes_configWrite hp ?_
    rw [writeWindow_rejected (m := s.m.advance t) hst]
    obtain ⟨-, hrej, hconf⟩ := ringPart_fields
      (rejectWindow_ring ((s.m.advance t).onPart p fun b => { b with lows := kdel (off.toNat - 4) b.lows }) p)
    rw [part_onPart] at hrej hconf
    exact ⟨hconf, hrej, rejectWindow_count .., rejectWindow_evt ..⟩
  case delivers =>
    intro s t p v rest hf hst hlive
    refine completes_tokenRefill hf ?_
    obtain ⟨hpart, hcount⟩ := tokenCame_sends (m := (s.m.advance t).disarm (.irqToken p)) hst hlive
    rw [hpart]
    exact ⟨rfl, rfl, rfl, hcount⟩
  case fills =>
    intro s t p hf hlive
    refine completes_tokenRefill hf ?_
    rw [tokenCame_idle (m := (s.m.advance t).disarm (.irqToken p)) hlive]
    exact ⟨rfl, rfl⟩

end Sys2Proof.Machine

namespace Sys2Proof.Machine

/-- Settles O4: the frame of each command already says that canonical memories stay canonical. -/
theorem stepKeepsMemoryCanonical : Obligations.StepKeepsMemoryCanonical := by
  rintro ⟨_ | ⟨c, rest⟩, m⟩ s' hok hstep
  · cases hstep
    exact hok
  · obtain ⟨m', hnext, -, hkeeps⟩ := exec_inReach c ⟨rest, m⟩
    have hs' := Host.Outcome.next.inj (hnext.symm.trans hstep)
    exact hs' ▸ hkeeps hok

/-- Settles O3: no memory has a byte listed at reset. -/
theorem resetMemoryCanonical : Obligations.ResetMemoryCanonical := ⟨rfl, rfl, rfl⟩

end Sys2Proof.Machine

/-! # Reads, and accesses to an unmapped page -/

namespace Sys2Proof.Machine

/-- A page outside the map captures nothing and has no pair of words. -/
theorem unmapped_no_capture {page : Nat} (hm : mapped page = false) (off : Nat) :
    capturing page off = false ∧ pairing page off = false := by
  simp only [mapped, Bool.or_eq_false_iff, Bool.and_eq_false_iff, decide_eq_false_iff_not] at hm
  have hblock : blockOf page = page := if_neg (by omega)
  have hpage : page ≠ 0x05 ∧ page ≠ 0x06 ∧ page ≠ 0x0A ∧ page ≠ 0x0E ∧ page ≠ 0x31 ∧ page ≠ 0x20 := by omega
  simp [capturing, pairing, hblock, hpage]

/-- A read of a word of a page outside the map returns zero and changes nothing (R33). -/
theorem readAccess_unmapped (m : Mach) (src : Src) {page : Nat} (off : Nat) (hm : mapped page = false) :
    m.readAccess src page off = (0, m) := by
  have hpage : page ≠ 0x06 := by rintro rfl; exact absurd hm (by decide)
  simp [Mach.readAccess, unmapped_no_capture hm, hpage, readWord, hm]

/-- The debug port reads from level 1 on (R406). -/
theorem readOut_aligned {m : Mach} {src : Src} {page off : Nat} {w : Width} (hsrc : src = .debug → m.fld RIM_STS_dbg ≠ 0)
    (hal : off % Width.bytes w = 0) :
    m.readOut src page off w =
      let (v, m) := m.readAccess src page (off / 4 * 4)
      if w = .dword then
        let (u, m) := m.readAccess src page (off + 4)
        m.emit (.read src (u ++ v))
      else m.emit (.read src (lane w off v)) := by
  unfold Mach.readOut
  rw [if_neg fun h => hsrc h.1 h.2, if_neg (by omega)]

/-- A REGISTER_WRITE of an aligned word of a page outside the map is rejected at GLB (R33). -/
theorem completes_unmappedWord {s : State} {t : Nat} {src : Src} {page : BitVec 8} {off : BitVec 12} {v : BitVec 64}
    {P : Mach → Prop} (hp : s.m.powered = true) (hm : mapped page.toNat = false) (hal : off.toNat % 4 = 0)
    (hP : P (((s.m.advance t).reject 0x00 src off.toNat 0x07 (v.setWidth 32)).event 0x00 0)) :
    Completes (.registerWrite t src page off .word v) s P := by
  have hexec : exec (.registerWrite t src page off .word v) s
      = s.run t fun m => m.fullAccess src page.toNat off.toNat .word v := rfl
  refine completes_run hexec hp ?_
  have hw : (s.m.advance t).writeWord src page.toNat off.toNat (v.setWidth 32)
      = (((s.m.advance t).reject 0x00 src off.toNat 0x07 (v.setWidth 32)).event 0x00 0, some 0x07) := by
    simp [Mach.writeWord, hm]
  unfold Mach.fullAccess Mach.fullWrite
  simpa only [if_pos hal, hw] using hP

/-- Settles O9: a read of such a page finds nothing to take with it, and a write ends at the rejection in GLB's header. -/
theorem unmappedPageReadsZeroAndRejectsWrites : Obligations.UnmappedPageReadsZeroAndRejectsWrites := by
  refine ⟨?_, ?_⟩
  · intro s t src page off w hpow hsrc hm hal
    have hexec : exec (.lowWordCaptureRead t src page ⟨off, w⟩) s = s.run t fun m => m.readOut src page.toNat off.toNat w := rfl
    refine completes_run hexec hpow ?_
    show (Mach.readOut _ _ _ _ _).outs = _
    rw [readOut_aligned (m := s.m.advance t) hsrc hal]
    simp only [readAccess_unmapped _ _ _ hm]
    cases w <;> simp [lane, Mach.advance]
  · intro s t src page off v hpow hm hal
    refine completes_unmappedWord hpow hm hal ⟨evt_event _ _ _ _ rfl, fun herr => ?_, fun p o i hp ho h0 hrec => ?_⟩
    · have hcode : Src.code src ≤ 4 := by cases src <;> decide
      rw [fld_event _ _ _ _ _ _ (by decide), fld_reject_first (s.m.advance t) 0x00 src _ _ _ (by decide) herr]
      omega
    · refine ((event_within _ 0x00 0 _ (by decide)).2 p o i hp ho ?_).trans ((reject_within (s.m.advance t) 0x00 src _ _ _ (by decide)).2 p o i hp ho ?_)
      · exact fun h => h.elim hrec fun h => h0 h.1
      · exact fun h => h.elim hrec fun h => h0 h.1

end Sys2Proof.Machine

namespace Sys2Proof.Machine

/-- A table of which no entry meets a test splits into nothing and all of it. -/
theorem splitBy_none {α : Type} {p : α → Bool} {l : List α} (h : ∀ a ∈ l, p a = false) : splitBy p l = ([], l) := by
  refine Prod.ext (List.filter_eq_nil_iff.mpr fun a ha => ?_) (List.filter_eq_self.mpr fun a ha => ?_) <;> simp [h a ha]

/-- Nothing settles at a port where no stamp waits for room. -/
theorem settleStamps_none {m : Mach} {e : Nat} (h : (m.ptp.late.find? fun l => l.1 == e) = none) : m.settleStamps e = m := by
  have hlate : splitBy (fun l : Nat × Nat × TxStamp => l.1 == e && decide (l.2.1 < m.now)) m.ptp.late = ([], m.ptp.late) :=
    splitBy_none fun l hl => by simp [List.find?_eq_none.mp h l hl]
  simp only [Mach.settleStamps, hlate]
  rfl

/-- With no stamp waiting for room, a read of PTP_TXS3 takes the head of the port's FIFO and nothing else (R111). -/
theorem popStamp_none {m : Mach} {e : Nat} (h : (m.ptp.late.find? fun l => l.1 == e) = none) :
    m.popStamp e = { m with ptp := { m.ptp with txs := kput e ((stampsOf m e).drop 1) m.ptp.txs } } := by
  simp only [Mach.popStamp, settleStamps_none h, h]

/-- A misaligned access to a mapped page is rejected there with reason 0x06, which is held when none is (R34). -/
theorem rejectShape_shows {m : Mach} {src : Src} {page off : Nat} (v : Word) (hm : mapped page = true) (hp : page < 256)
    (ho : off < 4096) (herr : bit (m.fld (hErr page)) 31 = false) :
    (m.rejectShape src page off v).fld (hErr page) = 2 ^ 31 + 0x06 * 2 ^ 16 + Src.code src * 2 ^ 12 + off := by
  have hcode : Src.code src ≤ 4 := by cases src <;> decide
  unfold Mach.rejectShape
  rw [if_pos hm, fld_reject_first m page src off 0x06 v (by simpa using hp) herr]
  omega

/-- A read of at most a word that may be made is that of its word, of which its bytes are driven (R34). -/
theorem readOut_narrow {m : Mach} {src : Src} {page off : Nat} {w : Width} (hsrc : src = .debug → m.fld RIM_STS_dbg ≠ 0)
    (hw : w ≠ .dword) (hal : off % Width.bytes w = 0) :
    m.readOut src page off w = (m.readAccess src page (off / 4 * 4)).2.emit
      (.read src (lane w off (m.readAccess src page (off / 4 * 4)).1)) := by
  rw [readOut_aligned hsrc hal]
  exact if_neg hw

/-- A read of TIME_NOW_LO captures the high word of the same instant for its reader (R94). -/
theorem readAccess_timeLow (m : Mach) (src : Src) :
    m.readAccess src 0x05 0x040
      = (m.tag, { m with capt := kput (captKey src 0x05 0x044) (word (m.now / 2 ^ 32)) m.capt }) := rfl

/-- A read of TIME_NOW_HI drives what its reader has captured (R94). -/
theorem readAccess_timeHigh {m : Mach} {src : Src} {w : Word} (h : kget (captKey src 0x05 0x044) m.capt = some w) :
    m.readAccess src 0x05 0x044 = (w, m) := by
  show ((kget (captKey src 0x05 0x044) m.capt).getD _, m) = _
  rw [h]
  rfl

/-- A word that captures nothing and is captured by nothing is read, outside the PTP page, with no effect. -/
theorem readAccess_plain {m : Mach} {src : Src} {page off : Nat} (hpage : page ≠ 0x06)
    (h : ∀ o ∈ [off, off - 4], capturing page o = false ∧ pairing page o = false) :
    m.readAccess src page off = (readWord m page off, m) := by
  obtain ⟨hc, hp⟩ := h off (by simp)
  obtain ⟨hc', hp'⟩ := h (off - 4) (by simp)
  simp [Mach.readAccess, hpage, hc, hp, hc', hp']

/-- A read of PTP_TXS3 takes the head stamp of the selected port (R111). -/
theorem readAccess_stamp {m : Mach} {src : Src} (h : (m.ptp.late.find? fun l => l.1 == m.fld PTP_PSEL_port) = none) :
    m.readAccess src 0x06 0x0AC = (readWord m 0x06 0x0AC,
      { m with ptp := { m.ptp with
        txs := kput (m.fld PTP_PSEL_port) ((stampsOf m (m.fld PTP_PSEL_port)).drop 1) m.ptp.txs } }) := by
  unfold Mach.readAccess
  rw [if_pos rfl, settleStamps_none h]
  exact congrArg (Prod.mk _) (popStamp_none h)

/-- Settles O11: each clause is what `readAccess` gives for its word, driven out by `readOut`. -/
theorem readsCaptureAndConsume : Obligations.ReadsCaptureAndConsume := by
  refine ⟨?capture, ?plain, ?shape, ?stamp⟩
  case capture =>
    intro s t t2 src hpow hsrc
    have hlow : (s.m.advance t).readOut src 0x05 0x040 .word
        = { s.m.advance t with capt := kput (captKey src 0x05 0x044) (word ((s.m.advance t).now / 2 ^ 32)) s.m.capt }.emit
            (.read src ((s.m.advance t).tag.setWidth 64)) :=
      readOut_narrow (m := s.m.advance t) hsrc (by decide) rfl
    refine completes_run (f := fun m => m.readOut src 0x05 0x040 .word) rfl hpow ⟨congrArg Mach.outs hlow, ?_⟩
    refine completes_run (f := fun m => m.readOut src 0x05 0x044 .word) rfl ?_ ?_
    · exact (congrArg Mach.powered hlow).trans hpow
    · generalize hm : (s.m.advance t).readOut src 0x05 0x040 .word = m' at hlow ⊢
      subst hlow
      rw [readOut_narrow (by exact hsrc) (by decide) rfl, readAccess_timeHigh (kget_kput_same ..)]
      rfl
  case plain =>
    intro s t src page off w hpow hsrc hw hal hpage hno
    refine completes_run (f := fun m => m.readOut src page.toNat off.toNat w) rfl hpow ?_
    have hpage' : page.toNat ≠ 0x06 := fun h => hpage (BitVec.eq_of_toNat_eq h)
    rw [readOut_narrow (m := s.m.advance t) hsrc hw hal, readAccess_plain hpage' hno]
    exact ⟨rfl, rfl⟩
  case shape =>
    intro s t src page off w hpow hsrc hm hal
    refine completes_run (f := fun m => m.readOut src page.toNat off.toNat w) rfl hpow ?_
    have hread : (s.m.advance t).readOut src page.toNat off.toNat w
        = ((s.m.advance t).rejectShape src page.toNat off.toNat 0).emit (.read src 0) := by
      unfold Mach.readOut
      rw [if_neg fun h => hsrc h.1 h.2, if_pos hal]
    rw [hread]
    exact ⟨rfl, rejectShape_shows (m := s.m.advance t) 0 hm page.isLt off.isLt⟩
  case stamp =>
    intro s t src hpow hsrc hlate
    refine completes_run (f := fun m => m.readOut src 0x06 0x0AC .word) rfl hpow ?_
    have hread : (s.m.advance t).readAccess src 0x06 (0x0AC / 4 * 4) = _ := readAccess_stamp (m := s.m.advance t) hlate
    rw [readOut_narrow (m := s.m.advance t) hsrc (by decide) rfl, hread]
    exact ⟨rfl, congrArg (Option.getD · []) (kget_kput_same (s.m.fld PTP_PSEL_port) _ s.m.ptp.txs), fun port hport => kget_kput_ne _ _ hport⟩

end Sys2Proof.Machine


/-! # Soft reset of a page -/

namespace Sys2Proof.Machine

/-- The word that asks for a soft reset is no configuration: only a page in use rejects it (R37, R44). -/
theorem wordRefusal_soft (m : Mach) (src : Src) (page : Nat) :
    wordRefusal m src page 0x00C (softWord m page) = if inUse m page then some 0x08 else none := by
  obtain ⟨hsmall, hreset, henable, -, -⟩ := softWord_facts m page
  have hconfig : configWrite m page 0x00C (softWord m page) = false := by simp [configWrite, henable]
  simp [wordRefusal, hconfig, secondRun, headerRefusal, hsmall, hreset]

/-- The write that asks for a soft reset leaves enable and freeze: what it does is the soft reset, and its audit record. -/
theorem writeCtrl_soft (m : Mach) (src : Src) (page : Nat) :
    ∃ x : Mach, x.now = m.now
      ∧ m.writeCtrl src page (word (softWord m page)) = (x.softReset page).auditWrite page src 0x00C (word (softWord m page)) := by
  obtain ⟨-, hreset, henable, hfreeze, hword⟩ := softWord_facts m page
  unfold Mach.writeCtrl
  simp only [hword, henable, hfreeze, hreset, beq_self_eq_true, if_true, Mach.when]
  refine ⟨_, ?_, rfl⟩
  split <;> rfl

/-- The audit record leaves the soft reset's marks, PAGE_EVT of the recorder's own page apart. -/
theorem softReset_audited (x : Mach) (src : Src) (v : Word) {page : Nat} (hp : page < 256) :
    let m' := (x.softReset page).auditWrite page src 0x00C v
    m'.flag (hBusy page) = true ∧ (page ≠ 0x07 → m'.fld (hEvt page) = 0)
      ∧ m'.deadline (.softReset page) = some (x.now + 10000) := by
  obtain ⟨hbusy, hevt, hdead⟩ := softReset_shows x page hp
  refine ⟨?_, fun h7 => ?_, ?_⟩
  · unfold Mach.flag
    rw [Mach.auditWrite, fld_audit_hdr _ page page _ _ (hBusy page) rfl hp rfl]
    exact hbusy
  · refine Eq.trans ?_ hevt
    exact congrArg (fun w : Word => bits w.toNat 31 0) (auditWrite_reg _ page src _ v 0 hp (by simp [hEvt]) fun h => h7 h.1)
  · unfold Mach.deadline at hdead ⊢
    rw [timers_of_touch (Mach.auditWrite_touch ..) rfl]
    exact hdead

/-- A word other than PAGE_LOCK that a reason rejects. -/
theorem writeWord_refused {m : Mach} {src : Src} {page off reason : Nat} {v : Word} (hsrc : m.mayWrite src)
    (hm : mapped page = true) (hlock : off ≠ 0x028) (hr : wordRefusal m src page off v.toNat = some reason) :
    m.writeWord src page off v = (m.rejectWord src page off v reason, some reason) := by
  simp [Mach.writeWord, hm, debugIgnored_false hsrc, hlock, hr]

/-- On a page not in use the write that asks for a soft reset is done (R37). -/
theorem put_soft_free {m : Mach} {src : Src} {page : Nat} (hsrc : m.mayWrite src) (hm : mapped page = true)
    (huse : inUse m page = false) :
    m.put src page 0x00C (softWord m page) = m.writeCtrl src page (word (softWord m page)) := by
  have hr : wordRefusal m src page 0x00C (word (softWord m page)).toNat = none := by
    rw [(softWord_facts m page).2.2.2.2, wordRefusal_soft, if_neg (ne_true_of_eq_false huse)]
  exact congrArg Prod.fst (writeWord_header hsrc hm (by decide) (by decide) hr)

/-- On a page in use the write that asks for a soft reset is rejected with 0x08 (R37). -/
theorem put_soft_inUse {m : Mach} {src : Src} {page : Nat} (hsrc : m.mayWrite src) (hm : mapped page = true)
    (huse : inUse m page = true) :
    m.put src page 0x00C (softWord m page) = m.rejectWord src page 0x00C (word (softWord m page)) 0x08 := by
  have hr : wordRefusal m src page 0x00C (word (softWord m page)).toNat = some 0x08 := by
    rw [(softWord_facts m page).2.2.2.2, wordRefusal_soft, if_pos huse]
  exact congrArg Prod.fst (writeWord_refused hsrc hm (by decide) hr)

/-- A rejected header word is held in PAGE_ERR_INFO when none is. -/
theorem rejectWord_header {m : Mach} {src : Src} {page off : Nat} (v : Word) {reason : Nat} (hp : page < 256) (ho : off < 4096)
    (hr : reason < 256) (herr : bit (m.fld (hErr page)) 31 = false) :
    (m.rejectWord src page off v reason).fld (hErr page)
      = 2 ^ 31 + reason * 2 ^ 16 + Src.code src * 2 ^ 12 + off := by
  have hcode : Src.code src ≤ 4 := by cases src <;> decide
  refine (fld_reject_first (m.dropLows page _ (lowOffsets page off)) page src off reason v (by simpa using hp) herr).trans ?_
  omega

/-- Settles O12: the soft reset's word is accepted exactly off a page in use, and its completion is its timer's. -/
theorem softResetRunsOrIsRefused : Obligations.SoftResetRunsOrIsRefused := by
  refine ⟨?runs, ?refused, ?ends⟩
  case runs =>
    intro s t src page hpow hsrc hm huse
    refine completes_run (f := fun m => m.put src page.toNat 0x00C (softWord m page.toNat)) rfl hpow ?_
    obtain ⟨x, hnow, hctrl⟩ := writeCtrl_soft (s.m.advance t) src page.toNat
    rw [put_soft_free (m := s.m.advance t) hsrc hm huse, hctrl, ← hnow]
    obtain ⟨hbusy, hevt, hdead⟩ := softReset_audited x src _ page.isLt
    exact ⟨hbusy, fun h7 => hevt fun h => h7 (BitVec.eq_of_toNat_eq h), hdead⟩
  case refused =>
    intro s t src page hpow hsrc hm huse
    refine completes_run (f := fun m => m.put src page.toNat 0x00C (softWord m page.toNat)) rfl hpow fun herr => ?_
    rw [put_soft_inUse (m := s.m.advance t) hsrc hm huse]
    exact rejectWord_header _ page.isLt (by decide) (by decide) herr
  case ends =>
    intro s t page hfires
    exact completes_fires (f := fun m => m.setFlag (hBusy page.toNat) 0 false) rfl hfires
      (flag_set _ _ _ _ (by simp [Fd.fit, hBusy, page.isLt]))

end Sys2Proof.Machine


/-! # The PCIe transport -/

namespace Sys2Proof.Machine

/-- What a doorbell's later effects leave: the rejection held in the CMD page, and the ring bases. -/
def Mach.bases (m : Mach) : Nat × BitVec 64 × BitVec 64 := (m.fld (hErr 0x36), m.cmd.ringCmd, m.cmd.ringResp)

theorem sendResp_bases (m : Mach) (r : Resp) : (m.sendResp r).bases = m.bases := by
  unfold Mach.sendResp Mach.writeResp
  split
  · rfl
  · dsimp only
    split <;> split <;> rfl

theorem refuse_bases (m : Mach) (tr : Transport) (route : Route) (vc : VCommand) (b : Bool) (n : Nat) :
    (m.refuse tr route vc b n).bases = m.bases := by
  unfold Mach.refuse Mach.reply
  split
  · exact sendResp_bases _ _
  · exact sendResp_bases _ _

theorem event_bases (m : Mach) (b : Nat) : (m.event 0x36 b).bases = m.bases := by
  unfold Mach.bases
  rw [fld_event _ _ _ _ _ _ (by decide), Mach.event_cmd _ _ _ _ (by decide)]

theorem count_bases (m : Mach) (f : Fd) (h : Fd.clear f (hErr 0x36) = true) : (m.count f).bases = m.bases := by
  unfold Mach.bases
  rw [fld_count_clear _ _ _ _ _ _ h]
  rfl

/-- A packet of an opcode that is not defined ends at checks 2 to 4 of R47. -/
theorem receive_undefined_bases (m : Mach) (tr : Transport) (route : Route) (vc : VCommand) (at_ : Nat)
    (h : opcodes.contains vc.opcode.toNat = false) : (m.receive tr route vc at_).bases = m.bases := by
  have hop : opcodeOk m vc.opcode.toNat = false := by rw [opcodeOk, h, Bool.false_and]
  unfold Mach.receive
  dsimp only
  rw [hop]
  split
  · rw [refuse_bases, event_bases, count_bases _ _ (by decide)]
  · split
    · rw [refuse_bases, event_bases]
    · exact (refuse_bases ..).trans ((event_bases ..).trans (count_bases _ _ (by decide)))

theorem arrive_bases (m : Mach) (tr : Transport) (route : Route) (vc : VCommand) :
    (m.arrive tr route vc).bases = m.bases := by
  unfold Mach.arrive
  split
  · rfl
  · rename_i h
    exact receive_undefined_bases m tr route vc m.now (by simpa using h)

theorem fetch_bases (n : Nat) (m : Mach) : (m.fetch n).bases = m.bases := by
  induction n generalizing m with
  | zero => rfl
  | succ n ih =>
    unfold Mach.fetch
    split
    · rfl
    · split
      · rfl
      · exact (ih _).trans (arrive_bases ..)

/-- A doorbell without other writes to BAR0, while PCIe is in service: what is up to the producer index is fetched (R55). -/
theorem cmdDoorbell_up {m : Mach} (hup : transportUp m .pcie = true) (prod : Nat) (cmds : List VCommand) :
    m.cmdDoorbell prod cmds []
      = (m.onCmd fun c => { c with prodP := prod, unfetched := c.unfetched ++ cmds }).fetch (m.cmd.unfetched ++ cmds).length := by
  unfold Mach.cmdDoorbell
  simp only [Mach.each, List.foldl_nil, ite_self, hup]
  rfl

/-- A doorbell after a write to the mirror: the fetch that may follow leaves the write's rejection and the ring bases. -/
theorem cmdDoorbell_mirror {m : Mach} (hperst : m.cmd.perst = false) (prod : Nat) (cmds : List VCommand) {off : BitVec 13}
    (v : Word) (hoff : off.toNat < 0x1000) :
    (m.cmdDoorbell prod cmds [(off, v)]).bases = (m.reject 0x36 .pcie (off.toNat / 4 * 4) 0x01 v).bases := by
  have hbar : (m.each [(off, v)] fun e m => m.barWrite (e.1.toNat / 4 * 4) e.2) = m.reject 0x36 .pcie (off.toNat / 4 * 4) 0x01 v := by
    show m.barWrite (off.toNat / 4 * 4) v = _
    unfold Mach.barWrite
    exact if_pos (by omega)
  unfold Mach.cmdDoorbell
  simp only [hperst, Bool.false_eq_true, if_false, hbar]
  split
  · rfl
  · exact fetch_bases _ _

/-- A response that waits is written to the ring once it has room, and its slot is free again (R56). -/
theorem consumed_one {m : Mach} {cons : Nat} {r : Resp} (hup : transportUp m .pcie = true) (hun : m.cmd.unfetched = [])
    (hwait : m.cmd.waiting = [r]) (hroom : (m.cmd.respProd + 32 - cons) % 32 < 31) :
    m.consumed cons = (m.onCmd fun c => { c with respCons := cons, waiting := [] }).writeResp r := by
  have hroom' : ¬ 31 ≤ unconsumed (m.onCmd fun c => { c with respCons := cons }) := Nat.not_le.mpr hroom
  have hdrain : (m.onCmd fun c => { c with respCons := cons }).drainResp [r].length
      = (m.onCmd fun c => { c with respCons := cons, waiting := [] }).writeResp r := by
    unfold Mach.drainResp
    simp only [Mach.onCmd, hwait]
    exact if_neg hroom'
  have hfetch : ((m.onCmd fun c => { c with respCons := cons, waiting := [] }).writeResp r).cmd.unfetched = [] := by
    rw [← hun]
    unfold Mach.writeResp
    dsimp only
    split <;> split <;> rfl
  unfold Mach.consumed
  simp only [hup, Bool.not_true, Bool.false_eq_true, if_false]
  rw [show (m.onCmd fun c => { c with respCons := cons }).cmd.waiting = [r] from hwait, hdrain, fetch_empty _ hfetch]

/-- What a response written to the ring leaves (R55, R56). -/
theorem writeResp_ring (m : Mach) {r : Resp} (hr : r.tr = .pcie) :
    (m.writeResp r).outs = .msix 0 :: .response { r with segs := r.datagrams } :: m.outs
      ∧ (m.writeResp r).cmd.waiting = m.cmd.waiting ∧ (m.writeResp r).cmd.respCons = m.cmd.respCons
      ∧ (m.writeResp r).cmd.respProd = (m.cmd.respProd + 1) % 32 := by
  unfold Mach.writeResp
  simp only [hr]
  split <;> exact ⟨rfl, rfl, rfl, rfl⟩

/-- Settles O13: the ring's clauses are those of `fetch` and of a response written to it, the others what their command sets. -/
theorem pcieTransportMoves : Obligations.PcieTransportMoves := by
  refine ⟨?fetches, ?holds, ?mirror, ?consumed, ?perst, ?released, ?link⟩
  case fetches =>
    intro s t prod cmds hpow hup hun hwait hops
    refine completes_run (f := fun m => m.cmdDoorbell prod.toNat cmds []) rfl hpow ?_
    rw [cmdDoorbell_up (m := s.m.advance t) hup]
    have hall : s.m.cmd.unfetched ++ cmds = cmds := by rw [hun, List.nil_append]
    obtain ⟨hready, hnone, hprod, hcons⟩ := fetch_all cmds hops
      ((s.m.advance t).onCmd fun c => { c with prodP := prod.toNat, unfetched := c.unfetched ++ cmds }) hall hwait
    rw [show (s.m.advance t).cmd.unfetched ++ cmds = cmds from hall]
    exact ⟨hready, hnone, hprod, hcons⟩
  case holds =>
    intro s t prod cmds hpow hup hwait
    refine completes_run (f := fun m => m.cmdDoorbell prod.toNat cmds []) rfl hpow ?_
    have hstill := fetch_waits ((s.m.advance t).cmd.unfetched ++ cmds).length
      ((s.m.advance t).onCmd fun c => { c with prodP := prod.toNat, unfetched := c.unfetched ++ cmds }) hwait
    rw [cmdDoorbell_up (m := s.m.advance t) hup, hstill]
    exact ⟨rfl, rfl, rfl⟩
  case mirror =>
    intro s t prod cmds off v hpow hperst hen hoff
    refine completes_run (f := fun m => m.cmdDoorbell prod.toNat cmds [(off, v)]) rfl hpow ?_
    have hbases := cmdDoorbell_mirror (m := s.m.advance t) hperst prod.toNat cmds v hoff
    have hcmd := within_cmd (reject_within (s.m.advance t) 0x36 .pcie (off.toNat / 4 * 4) 0x01 v (by decide))
    simp only [Mach.bases, Prod.mk.injEq, hcmd] at hbases
    obtain ⟨herr, hring, hresp⟩ := hbases
    refine ⟨fun hfree => ?_, hring, hresp⟩
    rw [herr, fld_reject_first (s.m.advance t) 0x36 .pcie _ _ v (by decide) hfree, Nat.mod_eq_of_lt (b := 2 ^ 12) (by omega)]
    simp only [Src.code]
    omega
  case consumed =>
    intro s t cons r hpow hup hun hwait hr hroom
    refine completes_run (f := fun m => m.consumed cons.toNat) rfl hpow ?_
    rw [consumed_one (m := s.m.advance t) hup hun hwait hroom]
    exact writeResp_ring _ hr
  case perst =>
    intro s t hpow
    refine completes_run (f := Mach.perst) rfl hpow ⟨rfl, rfl, rfl, rfl, rfl, rfl, rfl, fun o ho => ?_, fun r hr => ?_⟩
    · simpa using (List.mem_filter.mp ho).2
    · simpa using (List.mem_filter.mp hr).2
  case released =>
    intro s t hpow
    exact completes_run (f := fun m => m.onCmd fun c => { c with perst := false }) rfl hpow rfl
  case link =>
    intro s t up at1000 hpow
    exact completes_run (f := fun m => m.onCmd fun c => { c with linkUp := up && at1000 }) rfl hpow rfl

end Sys2Proof.Machine


/-! # The UDP transport, and what ends by time -/

namespace Sys2Proof.Machine

/-- A packet of which one segment has come, at an instant (R57). -/
def firstPart (seg : UdpSegment) (now : Nat) : Partial :=
  { ip := seg.ip, port := seg.port, packet := seg.packet, segs := [seg], since := now }

/-- A segment that comes alone and is the last of its packet is the whole packet (R57). -/
theorem wholeBytes_single {seg : UdpSegment} (now : Nat) (hidx : seg.index = 0) (hlast : seg.last = 0x80) :
    wholeBytes (firstPart seg now) = some seg.data := by
  have hfind : ((firstPart seg now).segs.find? fun s => s.last == 0x80#8) = some seg :=
    List.find?_cons_of_pos (beq_iff_eq.mpr hlast)
  have hat : segAt (firstPart seg now) 0 = some seg := List.find?_cons_of_pos (by simp [hidx])
  have hall : (List.range (seg.index.toNat + 1)).filterMap (segAt (firstPart seg now)) = [seg] := by
    rw [hidx]
    show ([0] : List Nat).filterMap _ = [seg]
    simp [hat]
  unfold wholeBytes
  rw [hfind]
  simp only [hall]
  rw [hidx]
  simp

/-- Without a last segment a packet is not whole (R57). -/
theorem wholeBytes_open {seg : UdpSegment} (now : Nat) (hlast : seg.last = 0) : wholeBytes (firstPart seg now) = none := by
  have hfind : ((firstPart seg now).segs.find? fun s => s.last == 0x80#8) = none := by simp [firstPart, hlast]
  unfold wholeBytes
  rw [hfind]

/-- A permitted datagram of R57's form, while no packet is partly received, is a new packet's first segment (R57). -/
theorem segment_first {m : Mach} {seg : UdpSegment} (hup : transportUp m .udp = true) (hlis : listens m seg = true)
    (hidx : seg.index.toNat < 12) (hlast : seg.last.toNat % 128 = 0) (hlen : seg.data.length ≤ 1456) (hparts : m.cmd.parts = []) :
    m.segment seg = match wholeBytes (firstPart seg m.now) with
      | some bs => m.assembled (firstPart seg m.now) bs
      | none => (m.dropPart seg.ip seg.port seg.packet).onCmd fun c => { c with parts := c.parts ++ [firstPart seg m.now] } := by
  unfold Mach.segment Mach.addSegment
  simp only [hup, hlis, hidx, hlast, hlen, hparts, decide_true, Bool.and_self, beq_self_eq_true, Bool.not_true, Bool.or_self,
    Bool.false_eq_true, if_false, List.find?_nil, Option.getD_none, segAt, List.nil_append]
  rfl

/-- A segment whose packet is dropped leaves no partial packet where none was held. -/
theorem dropPart_parts {m : Mach} (ip : Word) (port packet : BitVec 16) (hparts : m.cmd.parts = []) :
    (m.dropPart ip port packet).cmd.parts = [] := by
  show List.filter _ m.cmd.parts = []
  rw [hparts]
  rfl

/-- A packet received whole, of a defined opcode, waits for its row (R57). -/
theorem assembled_waits {m : Mach} (p : Partial) {bs : List Byte} {vc : VCommand} (hparse : parsePacket bs = some vc)
    (hop : opcodes.contains vc.opcode.toNat = true) :
    m.assembled p bs = (m.dropPart p.ip p.port p.packet).onCmd fun c => { c with
      ready := c.ready ++ [{ tr := .udp, route := .udp p.ip p.port p.packet, vc := vc, at_ := m.now }] } := by
  unfold Mach.assembled
  rw [hparse]
  exact if_pos hop

/-- A partial packet that was dropped is no longer held. -/
theorem find_dropPart (m : Mach) (ip : Word) (port packet : BitVec 16) :
    (m.dropPart ip port packet).cmd.parts.find? (samePart ip port packet) = none :=
  List.find?_eq_none.mpr fun p hp => by simpa using (List.mem_filter.mp hp).2

/-- A partial packet that is late is dropped, counted and answered where it can be (R47 check 1). -/
theorem dropLate_shows (m : Mach) {p : Partial} {ip : Word} {port packet : BitVec 16} (hp : samePart ip port packet p = true) :
    (m.dropLate p).evt 0x36 1 = true ∧ (m.dropLate p).fld CMD_DROP_PARTIAL_n = (m.fld CMD_DROP_PARTIAL_n + 1) % 2 ^ 32
      ∧ (m.dropLate p).cmd.parts.find? (samePart ip port packet) = none := by
  simp only [samePart, Bool.and_eq_true, beq_iff_eq] at hp
  obtain ⟨⟨rfl, rfl⟩, rfl⟩ := hp
  obtain ⟨hevt, hcount, hparts⟩ := partTimeout_shows (m.dropPart p.ip p.port p.packet) .udp (.udp p.ip p.port p.packet)
    ((segAt p 0).bind fun s => parsePacket s.data)
  exact ⟨hevt, hcount, (congrArg (List.find? _) hparts).trans (find_dropPart ..)⟩

/-- A command that has executed for CMD_TIMEOUT is interrupted and answered with 0x0D (R60). -/
theorem cmdTimeout_shows {m : Mach} {tr : Transport} {tag : Byte} {o : OutCmd} (hroom : m.ringRoom tr)
    (hex : executing m tr tag = some o) (hlate : o.since + m.cfg CMD_TIMEOUT_timeout * 1000000 ≤ m.now)
    (hown : ∀ k ∈ m.rim.queue, k.tr = tr ∧ k.tag = tag) :
    (m.cmdTimeout tr tag).answers tr tag 0x0D [] ∧ (m.cmdTimeout tr tag).evt 0x36 6 = true ∧ (m.cmdTimeout tr tag).rim.queue = []
      ∧ ∀ r, (m.cmdTimeout tr tag).adm.run = some r → r.by_ ≠ .vrelti tr tag := by
  have hkey := List.find?_some hex
  simp only [Bool.and_eq_true, beq_iff_eq, Bool.not_eq_true'] at hkey
  obtain ⟨⟨rfl, rfl⟩, -⟩ := hkey
  obtain ⟨⟨hout, hwait, hprod, hcons⟩, hqueue, hrun⟩ := interrupt_own m o hown
  have hev := event_within (m.interrupt o) 0x36 6 .module (by decide)
  have hcmd := within_cmd hev
  have hex' : executing ((m.interrupt o).event 0x36 6) o.tr o.vc.pk.tag = some o := by
    unfold executing at hex ⊢
    rw [hcmd, hout, hex]
  have hroom' : ((m.interrupt o).event 0x36 6).ringRoom o.tr := by
    intro htr
    obtain ⟨hw, hu⟩ := hroom htr
    refine ⟨?_, ?_⟩
    · rw [hcmd, hwait, hw]
    · unfold unconsumed at hu ⊢
      rw [hcmd, hprod, hcons]
      exact hu
  obtain ⟨hans, htouch⟩ := finish_found _ o.tr o.vc.pk.tag 0x0D [] o hex' hroom'
  have htimeout : m.cmdTimeout o.tr o.vc.pk.tag
      = ((m.interrupt o).event 0x36 6).finishTag o.tr o.vc.pk.tag 0x0D [] := by
    unfold Mach.cmdTimeout
    rw [hex]
    exact if_pos hlate
  rw [htimeout]
  refine ⟨hans, ?_, ?_, ?_⟩
  · rw [evt_touch htouch 0x36 6 (by decide)]
    exact evt_event _ _ _ _ (by decide)
  · rw [rim_of_touch htouch rfl, within_rim hev, hqueue]
  · rw [adm_of_touch htouch rfl, within_adm hev]
    exact hrun

/-- A stored response that is released is no longer stored, and its timer does not run (R59). -/
theorem releaseStored_shows (m : Mach) (tr : Transport) (tag : Byte) :
    storedFor (m.releaseStored tr tag) tr tag = none ∧ (m.releaseStored tr tag).running (.stored tr tag) = false
      ∧ (m.releaseStored tr tag).regs = m.regs := by
  refine ⟨List.find?_eq_none.mpr fun x hx => ?_, ?_, rfl⟩
  · simpa [imp_iff_not_or] using (List.mem_filter.mp hx).2
  · exact congrArg Option.isSome (deadline_disarm_same m (.stored tr tag))

/-- Settles O14: a datagram of one segment, the lateness of a packet and of a command, and the release of a stored response. -/
theorem udpTransportAndTimeouts : Obligations.UdpTransportAndTimeouts := by
  refine ⟨?whole, ?first, ?late, ?fetch, ?timeout, ?expiry⟩
  case whole =>
    intro s t seg vc hpow hup hlis hidx hlast hlen hparts hparse hop
    refine completes_run (f := fun m => m.segment seg) rfl hpow ?_
    have hidx' : seg.index.toNat < 12 := by rw [hidx]; decide
    have hlast' : seg.last.toNat % 128 = 0 := by rw [hlast]; rfl
    rw [segment_first (m := s.m.advance t) hup hlis hidx' hlast' hlen hparts, wholeBytes_single _ hidx hlast]
    show (Mach.assembled _ _ _).cmd.ready = _ ∧ (Mach.assembled _ _ _).cmd.parts = _
    rw [assembled_waits _ hparse hop]
    exact ⟨rfl, dropPart_parts (m := s.m.advance t) _ _ _ hparts⟩
  case first =>
    intro s t seg hpow hup hlis hidx hlast hlen hparts
    refine completes_run (f := fun m => m.segment seg) rfl hpow ?_
    have hlast' : seg.last.toNat % 128 = 0 := by rw [hlast]; rfl
    rw [segment_first (m := s.m.advance t) hup hlis hidx hlast' hlen hparts, wholeBytes_open _ hlast]
    exact ⟨congrArg (· ++ _) (dropPart_parts (m := s.m.advance t) _ _ _ hparts), rfl⟩
  case late =>
    intro s t op hdr ip port packet p hpow hfind hlate
    refine completes_run (f := fun m => m.partialTimeout .udp op hdr ip port packet) rfl hpow ?_
    have hdrop : (s.m.advance t).partialTimeout .udp op hdr ip port packet = (s.m.advance t).dropLate p := by
      unfold Mach.partialTimeout
      rw [show (s.m.advance t).cmd.parts.find? (samePart ip port packet) = some p from hfind]
      exact if_pos hlate
    rw [hdrop]
    exact dropLate_shows (s.m.advance t) (List.find?_some hfind)
  case fetch =>
    intro s t op hdr ip port packet hpow hup
    refine completes_run (f := fun m => m.partialTimeout .pcie op hdr ip port packet) rfl hpow ?_
    have hpart : (s.m.advance t).partialTimeout .pcie op hdr ip port packet
        = (s.m.advance t).partTimeout .pcie .ring (hdr.map fun pk => { opcode := op, pk := pk }) := if_pos hup
    rw [hpart]
    obtain ⟨hevt, hcount, -⟩ := partTimeout_shows (s.m.advance t) .pcie .ring (hdr.map fun pk => { opcode := op, pk := pk })
    exact ⟨hevt, hcount⟩
  case timeout =>
    intro s t tr tag o hpow hroom hex hlate hown
    exact completes_run (f := fun m => m.cmdTimeout tr (tag.setWidth 8)) rfl hpow
      (cmdTimeout_shows (m := s.m.advance t) hroom hex hlate hown)
  case expiry =>
    intro s t tr tag hfires
    exact completes_fires (f := fun m => m.releaseStored tr (tag.setWidth 8)) rfl hfires (releaseStored_shows ..)

end Sys2Proof.Machine


/-! # A read of the PTP page settles what was late for it

R111: a stamp that found its port's FIFO full is dropped once its moment has passed, which is noted in the PTP page's registers. The
first read of that page after the moment notes it. -/

namespace Sys2Proof.Machine

/-- A stamp whose moment at a full FIFO has passed is dropped, and the drop is noted as event 4 of the PTP page (R111). -/
theorem settleStamps_drops {m : Mach} {e at_ : Nat} {x : TxStamp} (hlate : m.ptp.late = [(e, at_, x)]) (hpast : at_ < m.now) :
    (m.settleStamps e).evt 0x06 4 = true := by
  have hsplit : splitBy (fun l : Nat × Nat × TxStamp => l.1 == e && decide (l.2.1 < m.now)) m.ptp.late = ([(e, at_, x)], []) := by
    simp [hlate, splitBy, hpast]
  simp only [Mach.settleStamps, hsplit, Mach.each, List.foldl_cons, List.foldl_nil, Mach.dropStamp]
  exact evt_event _ _ _ _ (by decide)

/-- REG_READ of PAGE_ID of the PTP page over UDP, without auth. -/
def readPtpId : VPacket := { page := 0x06, length := 4, payload := [0, 0, 0, 1] }

/-- A module with UDP in service, in which one stamp found the FIFO of port 0 full at instant 0. -/
def lateStampMach : Mach where
  force := [(regKey 0x36 0x040 0, 3)]
  cmd := { linkUp := true }
  ptp :=
    let stamp : TxStamp :=
      { gap := false, lostN := 0, source := 0, domain := 0, mgr := false, msgType := 0, seqId := 0, lostSeq := 0, stamp := 0 }
    { txs := [(0, List.replicate 64 stamp)], late := [(0, 0, stamp)] }

theorem lateStampMach_passes : (lateStampMach.advance 4).passes .udp { opcode := 0x01, pk := readPtpId } := by
  refine ⟨rfl, rfl, fun h => absurd h (by decide), rfl, rfl, rfl, rfl, by decide, rfl, fun _ => rfl, fun h => absurd h (by decide), rfl, fun _ => rfl⟩

/-- The read, as its execution finds the module: one word, PAGE_ID. -/
theorem doRead_ptpId (m : Mach) (tr : Transport) :
    ∃ bytes, m.doRead tr readPtpId = (m.settleStamps (m.fld PTP_PSEL_port), some (0x00, bytes)) :=
  ⟨_, rfl⟩

/-- The read finds the late stamp's moment passed, and notes the drop. -/
theorem readPtpId_drops : ((lateStampMach.advance 4).command .udp { opcode := 0x01, pk := readPtpId }).evt 0x06 4 = true := by
  obtain ⟨bytes, hdo⟩ := doRead_ptpId ((lateStampMach.advance 4).entered .udp (plainRoute (lateStampMach.advance 4) .udp)
    { opcode := 0x01, pk := readPtpId }) .udp
  have hrun := runOpcode_is (lateStampMach.advance 4) .udp { opcode := 0x01, pk := readPtpId } lateStampMach_passes hdo
  have hcmd := cmd_of_touch (Mach.settleStamps_touch ((lateStampMach.advance 4).entered .udp
    (plainRoute (lateStampMach.advance 4) .udp) { opcode := 0x01, pk := readPtpId }) 0) rfl
  obtain ⟨-, hends⟩ := command_ends _ _ .udp _ _ _ lateStampMach_passes (fun h => absurd h (by decide)) hrun
    (congrArg Cmd.out hcmd) (congrArg Cmd.waiting hcmd) (congrArg Cmd.respProd hcmd) (congrArg Cmd.respCons hcmd)
  rw [evt_touch hends 0x06 4 (by decide)]
  exact settleStamps_drops rfl (by decide)

/-- Refutes O15: a REG_READ of the PTP page notes the drop of a late transmit stamp in that page's registers. -/
theorem not_vreltiNopAndRegReadAnswer : ¬ Obligations.VreltiNopAndRegReadAnswer := by
  rintro ⟨-, hread⟩
  obtain ⟨m', hexec, -, hkeeps⟩ := hread { pending := [], m := lateStampMach } 4 .udp readPtpId rfl lateStampMach_passes
    (fun h => absurd h (by decide)) rfl (by decide) (by decide) rfl (by decide)
  have hm' : m' = (lateStampMach.advance 4).command .udp { opcode := 0x01, pk := readPtpId } :=
    congrArg State.m (Host.Outcome.next.inj hexec.symm)
  have hevt := hkeeps 0x06 0x014 0 (by decide) (by decide) (by decide) (by decide)
  have hset : m'.evt 0x06 4 = true := by rw [hm']; exact readPtpId_drops
  rw [evt_reg _ _ _ (by decide), hevt] at hset
  exact absurd hset (by decide)

end Sys2Proof.Machine


/-! # The commands of the command port that write a page's header -/

namespace Sys2Proof.Machine

/-- A command that passes the checks, and whose opcode leaves the command port's own state and ends at once: it is answered, and its
answer leaves the registers. -/
theorem command_answers {m z : Mach} {tr : Transport} {vc : VCommand} {st : Nat} {pl : List Byte} (h : m.passes tr vc)
    (hroom : m.ringRoom tr) (hrun : (m.entered tr (plainRoute m tr) vc).runOpcode tr vc = (z, some (st, pl)))
    (hcmd : z.cmd = (m.entered tr (plainRoute m tr) vc).cmd) :
    (m.command tr vc).answers tr vc.pk.tag st pl ∧ z.touch 0x5100 0 (m.command tr vc) :=
  command_ends m z tr vc st pl h hroom hrun (congrArg Cmd.out hcmd) (congrArg Cmd.waiting hcmd) (congrArg Cmd.respProd hcmd)
    (congrArg Cmd.respCons hcmd)

/-- The module as the execution of a command finds it stands as before in the Rim's lock and in the admission of a page. -/
theorem entered_open {m : Mach} (tr : Transport) (route : Route) (vc : VCommand) {page : Nat} (hrim : rimLocked m = false)
    (hadm : underAdmission m page = false) :
    rimLocked (m.entered tr route vc) = false ∧ underAdmission (m.entered tr route vc) page = false :=
  ⟨(entered_rim ..).trans hrim, (entered_adm ..).trans hadm⟩

/-! ### REG_WRITE and REG_RMW -/

theorem writeHeader_evtEn_cmd (m : Mach) (src : Src) (page : Nat) (v : Word) : (m.writeHeader src page 0x018 v).cmd = m.cmd :=
  cmd_auditWrite ..

/-- REG_WRITE of one word to PAGE_EVT_EN (R52). -/
theorem doWrite_evtEn {m : Mach} (tr : Transport) {pk : VPacket} (hm : mapped pk.page.toNat = true) (hrim : rimLocked m = false)
    (hadm : underAdmission m pk.page.toNat = false) (hoff : pk.offset = 0x018) (hlen : pk.payload.length = 4) :
    m.doWrite tr pk = (m.writeHeader (srcOf tr) pk.page.toNat 0x018 (word (natBE pk.payload)), some (0x00, [])) := by
  have hput : m.putWords (srcOf tr) pk.page.toNat 0x018 [word (natBE pk.payload)]
      = (m.writeHeader (srcOf tr) pk.page.toNat 0x018 (word (natBE pk.payload)), none) := by
    simp only [Mach.putWords, enable_write m (srcOf tr) _ _ (srcOf_ne tr) hm hrim hadm]
    rfl
  have hoff' : pk.offset.toNat = 0x018 := congrArg BitVec.toNat hoff
  unfold Mach.doWrite
  simp only [hoff', hlen, wordsBE_one _ hlen, hput]
  rfl

/-- A stamp dropped is counted and raises an event; PAGE_EVT_EN stays (R111). -/
theorem dropStamp_evtEn (m : Mach) (e : Nat) (x : TxStamp) : (m.dropStamp e x).reg 0x06 0x018 0 = m.reg 0x06 0x018 0 := by
  unfold Mach.dropStamp
  refine ((event_within _ 0x06 4 .module (by decide)).2 0x06 0x018 0 (by decide) (by decide) ?_).trans ?_
  · rintro (⟨h, -⟩ | ⟨-, h⟩)
    · exact absurd h (by decide)
    · exact absurd h (by decide)
  · exact reg_setFld_ne _ _ _ _ (by simp only [regKey, PTP_TXS_LOST_n]; omega)

/-- A read of PAGE_EVT_EN of a mapped page shows the word held; on the PTP page it settles what was late, as any read there does. -/
theorem readAccess_evtEn (m : Mach) (src : Src) {page : Nat} (hm : mapped page = true) :
    ∃ k, m.readAccess src page 0x018 = (m.reg page 0x018 0, k) ∧ m.touch 0x43008 0x40 k := by
  have hcap : capturing page 0x018 = false ∧ capturing page 0x014 = false := by simp [capturing]
  have hpair : pairing page 0x018 = false ∧ pairing page 0x014 = false := by simp [pairing]
  have hread : ∀ k : Mach, readWord k page 0x018 = k.reg page 0x018 0 := fun k => by simp [readWord, hm, headerWord]
  have hkept : ∀ p : Nat, (m.settleStamps p).reg 0x06 0x018 0 = m.reg 0x06 0x018 0 :=
    fun p => each_keep (fun y : Mach => y.reg 0x06 0x018 0) _ _ _ fun l y => dropStamp_evtEn y p l.2.2
  by_cases h6 : page = 0x06
  · subst h6
    refine ⟨m.settleStamps (m.fld PTP_PSEL_port), ?_, Mach.settleStamps_touch m _⟩
    rw [← hkept (m.fld PTP_PSEL_port), ← hread]
    rfl
  · refine ⟨m, ?_, touch_refl _ _ _⟩
    simp [Mach.readAccess, h6, hcap, hpair, hread]

/-- REG_RMW of PAGE_EVT_EN: the bits of the mask take those of the value, and the word written is answered (R52). -/
theorem doRmw_evtEn {m : Mach} (tr : Transport) {pk : VPacket} {w : Word} (hm : mapped pk.page.toNat = true)
    (hrim : rimLocked m = false) (hadm : underAdmission m pk.page.toNat = false) (hoff : pk.offset = 0x018)
    (hlen : pk.payload.length = 8)
    (hw : w = (m.reg pk.page.toNat 0x018 0 &&& ~~~ word (natBE (pk.payload.take 4)))
        ||| (word (natBE (pk.payload.drop 4)) &&& word (natBE (pk.payload.take 4)))) :
    ∃ k, m.doRmw tr pk = (k.writeHeader (srcOf tr) pk.page.toNat 0x018 w, some (0x00, bytesBE 4 w.toNat))
      ∧ m.touch 0x43008 0x40 k := by
  obtain ⟨k, hread, htouch⟩ := readAccess_evtEn m (srcOf tr) hm
  have hoff' : pk.offset.toNat = 0x018 := congrArg BitVec.toNat hoff
  have hrim' : rimLocked k = false := by
    unfold rimLocked at hrim ⊢
    rw [fld_touch htouch _ _ rfl]
    exact hrim
  have hadm' : underAdmission k pk.page.toNat = false := by
    unfold underAdmission at hadm ⊢
    rw [adm_of_touch htouch rfl]
    exact hadm
  have hshown : readWord (k.writeHeader (srcOf tr) pk.page.toNat 0x018 w) pk.page.toNat 0x018 = w := by
    have hreg : (k.writeHeader (srcOf tr) pk.page.toNat 0x018 w).reg pk.page.toNat 0x018 0 = w := by
      rw [writeHeader_evtEnWord, auditWrite_reg _ _ _ _ _ 0 pk.page.isLt (by decide) (by simp [recPage, COIL_CNT_n]), reg_setReg_same]
    simpa [readWord, hm, headerWord] using hreg
  refine ⟨k, ?_, htouch⟩
  unfold Mach.doRmw
  simp only [hoff', hlen, hread, ← hw, enable_write k (srcOf tr) _ _ (srcOf_ne tr) hm hrim' hadm', ← writeHeader_evtEnWord, hshown]
  rfl

/-! ### COMMIT and UNLOCK -/

theorem audit_cmd (m : Mach) (page code : Nat) (sn : List Word) : (m.audit page code sn).cmd = m.cmd :=
  cmd_of_touch (Mach.audit_touch m page code sn) rfl

/-- COMMIT of a page that is committed, or of the switch core's page, whose settings nothing relates (R41). -/
theorem writeLock_commit {m : Mach} {src : Src} {page : Nat} (hsrc : src ≠ .debug) (hrim : rimLocked m = false)
    (hpage : m.flag (hCommitted page) = true ∨ page = 0x10) :
    m.writeLock src page 0x5EA10001 = (m.commit src page, none) := by
  have hr : lockRefusal m src page (0x5EA10001 : Word).toNat = none := by
    unfold lockRefusal
    rcases hpage with hc | rfl
    · simp [hsrc, hrim, hc]
    · simp [hsrc, hrim, commitRefusal]
  unfold Mach.writeLock
  rw [hr]
  rfl

/-- UNLOCK of a page that is not under admission (R43). -/
theorem writeLock_unlock {m : Mach} {src : Src} {page : Nat} (hsrc : src ≠ .debug) (hrim : rimLocked m = false)
    (hadm : underAdmission m page = false) : m.writeLock src page 0x5EA10002 = (m.unlock src page, none) := by
  have hr : lockRefusal m src page (0x5EA10002 : Word).toNat = none := by simp [lockRefusal, hsrc, hrim, hadm]
  unfold Mach.writeLock
  rw [hr]
  rfl

/-- What a commit leaves of a committed page, or of the switch core's, which is admitted and so staged (R41, R42). -/
theorem commit_marks {m : Mach} (src : Src) {page : Nat} (hp : page < 256)
    (hpage : m.flag (hCommitted page) = true ∨ page = 0x10) :
    (m.commit src page).flag (hCommitted page) = true
      ∧ (m.commit src page).flag (hStaged page) = (if m.flag (hCommitted page) then m.flag (hStaged page) else true)
      ∧ (m.commit src page).cmd = m.cmd := by
  have haudit : ∀ (x : Mach) (sn : List Word), (x.audit page 0x101 sn).flag (hCommitted page) = x.flag (hCommitted page)
      ∧ (x.audit page 0x101 sn).flag (hStaged page) = x.flag (hStaged page) ∧ (x.audit page 0x101 sn).cmd = x.cmd := by
    intro x sn
    unfold Mach.flag
    rw [fld_audit_hdr x page page _ _ (hCommitted page) rfl hp rfl, fld_audit_hdr x page page _ _ (hStaged page) rfl hp rfl]
    exact ⟨rfl, rfl, audit_cmd ..⟩
  by_cases hc : m.flag (hCommitted page) = true
  · unfold Mach.commit
    simp only [hc, if_true]
    exact ⟨(haudit m _).1.trans hc, (haudit m _).2.1, (haudit m _).2.2⟩
  · obtain rfl := hpage.resolve_left hc
    have hx : m.commit src 0x10 = ((m.setFlag (hCommitted 0x10) 0 true).setFlag (hStaged 0x10) 0 true).audit 0x10 0x101
        [word (Src.code src), ((m.setFlag (hCommitted 0x10) 0 true).setFlag (hStaged 0x10) 0 true).reg 0x10 0x02C 0,
          word (((m.setFlag (hCommitted 0x10) 0 true).setFlag (hStaged 0x10) 0 true).fld (hStaged 0x10))] := by
      unfold Mach.commit
      rw [if_neg hc]
      rfl
    obtain ⟨hcom, hstaged, hcmd⟩ := haudit ((m.setFlag (hCommitted 0x10) 0 true).setFlag (hStaged 0x10) 0 true)
      [word (Src.code src), ((m.setFlag (hCommitted 0x10) 0 true).setFlag (hStaged 0x10) 0 true).reg 0x10 0x02C 0,
        word (((m.setFlag (hCommitted 0x10) 0 true).setFlag (hStaged 0x10) 0 true).fld (hStaged 0x10))]
    rw [hx, hcom, hstaged, hcmd, if_neg hc]
    refine ⟨?_, flag_set _ _ _ _ rfl, rfl⟩
    unfold Mach.flag
    rw [fld_flag_clear _ _ _ _ _ _ rfl]
    exact flag_set m (hCommitted 0x10) 0 true rfl

/-- COMMIT or UNLOCK whose key PAGE_LOCK takes. -/
theorem doLock_done {m k : Mach} {tr : Transport} {pk : VPacket} {key : Word} (hpl : pk.payload = [])
    (h : m.writeLock (srcOf tr) pk.page.toNat key = (k, none)) : m.doLock tr pk key = (k, some (0x00, [])) := by
  unfold Mach.doLock
  rw [hpl, h]
  rfl

/-- The checks of a command leave the commit marks of every page. -/
theorem entered_marks (m : Mach) (tr : Transport) (route : Route) (vc : VCommand) {page : Nat} (hp : page < 256) :
    (m.entered tr route vc).flag (hCommitted page) = m.flag (hCommitted page)
      ∧ (m.entered tr route vc).flag (hStaged page) = m.flag (hStaged page) := by
  unfold Mach.flag
  rw [entered_hdr m tr route vc page hp (hCommitted page) rfl rfl, entered_hdr m tr route vc page hp (hStaged page) rfl rfl]
  exact ⟨rfl, rfl⟩

theorem flag_of_regs {m k : Mach} (h : k.regs = m.regs) (f : Fd) : k.flag f = m.flag f := by
  unfold Mach.flag
  rw [fld_of_regs h]

/-- What an unlock leaves (R43). -/
theorem unlock_marks (m : Mach) (src : Src) {page : Nat} (hp : page < 256) :
    (m.unlock src page).flag (hCommitted page) = false ∧ (m.unlock src page).flag (hStaged page) = false
      ∧ (m.unlock src page).cmd = m.cmd := by
  have hc : Fd.fit (hCommitted page) = true := by simp [Fd.fit, hCommitted, hp]
  have hs : Fd.fit (hStaged page) = true := by simp [Fd.fit, hStaged, hp]
  have hsc : ∀ x : Mach, (x.setFlag (hStaged page) 0 false).fld (hCommitted page) 0 = x.fld (hCommitted page) 0 :=
    fun x => fld_set_hdr x page (hStaged page) (hCommitted page) _ rfl rfl hp rfl
  unfold Mach.unlock Mach.flag
  rw [fld_audit_hdr _ page page _ _ (hCommitted page) rfl hp rfl, fld_audit_hdr _ page page _ _ (hStaged page) rfl hp rfl, hsc]
  exact ⟨flag_set m (hCommitted page) 0 false hc, flag_set _ (hStaged page) 0 false hs, audit_cmd ..⟩

/-- Settles O16: the word written, the word read, changed and written, and the two keys of PAGE_LOCK. -/
theorem vreltiWritesTakeEffect : Obligations.VreltiWritesTakeEffect := by
  refine ⟨?write, ?rmw, ?commit, ?unlock⟩
  case write =>
    intro s t tr pk hpow hpass hroom hm h3 h36 hrim hadm hoff hlen
    refine completes_run (f := fun m => m.command tr { opcode := 0x02, pk := pk }) rfl hpow ?_
    obtain ⟨hrim', hadm'⟩ := entered_open tr (plainRoute (s.m.advance t) tr) { opcode := 0x02, pk := pk } (m := s.m.advance t) hrim hadm
    obtain ⟨hans, htouch⟩ := command_answers hpass hroom (runOpcode_is _ tr _ hpass (doWrite_evtEn tr hm hrim' hadm' hoff hlen))
      (writeHeader_evtEn_cmd ..)
    refine ⟨hans, ?_⟩
    rw [fld_of_regs (regs_of_touch htouch rfl), writeHeader_evtEn _ _ _ pk.page.isLt, word_toNat]
    exact Nat.mod_eq_of_lt (natBE_lt _ hlen)
  case rmw =>
    intro s t tr pk hpow hpass hroom hm h3 h36 hrim hadm hoff hlen w hw
    refine completes_run (f := fun m => m.command tr { opcode := 0x03, pk := pk }) rfl hpow ?_
    obtain ⟨hrim', hadm'⟩ := entered_open tr (plainRoute (s.m.advance t) tr) { opcode := 0x03, pk := pk } (m := s.m.advance t) hrim hadm
    have hreg := entered_reg (s.m.advance t) tr (plainRoute (s.m.advance t) tr) { opcode := 0x03, pk := pk } pk.page.toNat 0x018 0
      pk.page.isLt (by decide) (by simp [checkWord, RIM_ACTIVE_src, CMD_AUTH_FAIL_consecutive, CMD_FRESH_PCIE_fresh, CMD_FRESH_UDP_fresh])
    obtain ⟨k, hdo, hk⟩ := doRmw_evtEn (w := w) tr hm hrim' hadm' hoff hlen (by rw [hreg]; exact hw)
    obtain ⟨hans, htouch⟩ := command_answers hpass hroom (runOpcode_is _ tr _ hpass hdo)
      ((writeHeader_evtEn_cmd ..).trans (cmd_of_touch hk rfl))
    refine ⟨hans, ?_⟩
    rw [fld_of_regs (regs_of_touch htouch rfl), writeHeader_evtEn _ _ _ pk.page.isLt]
  case commit =>
    intro s t tr pk hpow hpass hroom hm h3 h36 hrim hpl hpage
    refine completes_run (f := fun m => m.command tr { opcode := 0x10, pk := pk }) rfl hpow ?_
    have hrim' := (entered_rim (s.m.advance t) tr (plainRoute (s.m.advance t) tr) { opcode := 0x10, pk := pk }).trans hrim
    obtain ⟨hcom, hst⟩ := entered_marks (s.m.advance t) tr (plainRoute (s.m.advance t) tr) { opcode := 0x10, pk := pk } pk.page.isLt
    have hpage' := hpage.imp hcom.trans (congrArg BitVec.toNat)
    obtain ⟨hc, hs, hcmd⟩ := commit_marks (srcOf tr) pk.page.isLt hpage'
    obtain ⟨hans, htouch⟩ := command_answers hpass hroom
      (runOpcode_is _ tr _ hpass (doLock_done hpl (writeLock_commit (srcOf_ne tr) hrim' hpage'))) hcmd
    have hregs := regs_of_touch htouch rfl
    refine ⟨hans, ?_, ?_⟩
    · exact (flag_of_regs hregs _).trans hc
    · rw [flag_of_regs hregs, hs, hcom, hst]
      rfl
  case unlock =>
    intro s t tr pk hpow hpass hroom hm h3 h36 hrim hadm hpl
    refine completes_run (f := fun m => m.command tr { opcode := 0x11, pk := pk }) rfl hpow ?_
    obtain ⟨hrim', hadm'⟩ := entered_open tr (plainRoute (s.m.advance t) tr) { opcode := 0x11, pk := pk } (m := s.m.advance t) hrim hadm
    obtain ⟨hc, hs, hcmd⟩ := unlock_marks ((s.m.advance t).entered tr (plainRoute (s.m.advance t) tr) { opcode := 0x11, pk := pk })
      (srcOf tr) pk.page.isLt
    obtain ⟨hans, htouch⟩ := command_answers hpass hroom
      (runOpcode_is _ tr _ hpass (doLock_done hpl (writeLock_unlock (srcOf_ne tr) hrim' hadm'))) hcmd
    have hregs := regs_of_touch htouch rfl
    exact ⟨hans, (flag_of_regs hregs _).trans hc, (flag_of_regs hregs _).trans hs⟩

end Sys2Proof.Machine


/-! # The opcodes that start a run, move bulk bytes or load -/

namespace Sys2Proof.Machine

/-! ### ADMIT -/

/-- ADMIT starts a run on the staged pages while none is in progress (R179). -/
theorem doAdmit_starts {m : Mach} (tr : Transport) {pk : VPacket} (hrim : rimLocked m = false) (hpl : pk.payload = [])
    (hrun : m.adm.run = none) :
    m.doAdmit tr pk = ({ m with adm := { m.adm with
      run := some { check := false, by_ := .vrelti tr pk.tag, since := m.now, pages := runPages m } } }.setFld ADM_STS_state 0 1, none) := by
  simp [Mach.doAdmit, hpl, hrim, Mach.startRun, hrun]

/-- The checks of a command leave what a run would take. -/
theorem entered_runPages (m : Mach) (tr : Transport) (route : Route) (vc : VCommand) :
    runPages (m.entered tr route vc) = runPages m := by
  unfold runPages
  rw [entered_staged, adm_of_touch (entered_touch m tr route vc) rfl]

/-! ### Bulk objects -/

/-- BULK_WRITE within its object, on a page that is neither committed nor under admission, writes its bytes (R54). -/
theorem doBulkWrite_writes {m : Mach} (tr : Transport) {pk : VPacket} {size : Nat} (hrim : rimLocked m = false)
    (hsize : bulkSize pk.page.toNat (bulkObj pk) = some size) (hpl : pk.payload ≠ [])
    (hend : 16 * bulkPos pk + pk.payload.length ≤ size) (hadm : underAdmission m pk.page.toNat = false)
    (hcom : m.flag (hCommitted pk.page.toNat) = false)
    (hlearnt : pk.page = 0x11 → writesLearnt m (16 * bulkPos pk) pk.payload = false) :
    ∃ sn, m.doBulkWrite tr pk = (({ m with
      bulk := memWrite (bulkKey pk.page.toNat (bulkObj pk) (16 * bulkPos pk)) pk.payload m.bulk } : Mach).audit pk.page.toNat 0x103 sn,
      some (0x00, [])) := by
  have hl : (pk.page.toNat == 0x11 && writesLearnt m (16 * bulkPos pk) pk.payload) = false := by
    by_cases h : pk.page = 0x11
    · rw [hlearnt h, Bool.and_false]
    · have : (pk.page.toNat == 0x11) = false := beq_eq_false_iff_ne.mpr fun e => h (BitVec.eq_of_toNat_eq e)
      rw [this, Bool.false_and]
  have hfits : ¬ size < 16 * bulkPos pk + pk.payload.length := by omega
  unfold Mach.doBulkWrite Mach.writeBulk
  simp only [hsize, hrim, List.isEmpty_iff, hpl, hfits, hadm, hcom, hl, Bool.false_eq_true, if_false]
  exact ⟨_, rfl⟩

/-- BULK_READ of at most 16,384 bytes of an object that can be read (R54). -/
theorem doBulkRead_reads {m : Mach} {pk : VPacket} {bytes : List Byte} (hlen : pk.payload.length = 4) (hn : natBE pk.payload ≤ 16384)
    (hread : (m.readBulk pk.page.toNat (bulkObj pk) (bulkPos pk) (natBE pk.payload)).2 = some bytes) :
    m.doBulkRead pk = ((m.readBulk pk.page.toNat (bulkObj pk) (bulkPos pk) (natBE pk.payload)).1, some (0x00, bytes)) := by
  unfold Mach.doBulkRead
  have hno : ¬ (pk.payload.length ≠ 4 ∨ 16384 < natBE pk.payload) := by omega
  dsimp only
  generalize m.readBulk pk.page.toNat (bulkObj pk) (bulkPos pk) (natBE pk.payload) = x at hread ⊢
  obtain ⟨k, b⟩ := x
  obtain rfl : b = some bytes := hread
  exact if_neg hno

/-! ### Loads -/

/-- The module with the load that chunks of an opcode extend replaced. -/
def Mach.putLoad (m : Mach) (l : Load) : Mach :=
  (m.dropLoad l.opcode).onCmd fun c => { c with loads := c.loads ++ [l] }

/-- A chunk in order extends the open load (R405, R413). -/
theorem doChunk_extends {m : Mach} (tr : Transport) (op : Byte) {pk : VPacket} (code : Nat)
    (hopen : m.rst.recovery = true ∨ rimLocked m = false) (hpl : pk.payload ≠ [])
    (hat : pk.offset.toNat * 16 = (((openLoad m op).map (·.data)).getD []).length) :
    m.doChunk tr op pk code = (m.putLoad {
      opcode := op, data := ((openLoad m op).map (·.data)).getD [] ++ pk.payload, tr := tr, tag := pk.tag, verifying := false }, some (0x00, [])) := by
  have hno : (!m.rst.recovery && rimLocked m) = false := by rcases hopen with h | h <;> simp [h]
  unfold Mach.doChunk
  simp only [hno, List.isEmpty_iff, hpl, hat, ne_eq, not_true_eq_false, Bool.false_eq_true, if_false]
  rfl

/-- A chunk of length 0 starts the verification of the open load (R405, R413). -/
theorem doChunk_verifies {m : Mach} (tr : Transport) (op : Byte) {pk : VPacket} (code : Nat)
    (hopen : m.rst.recovery = true ∨ rimLocked m = false) (hpl : pk.payload = []) :
    m.doChunk tr op pk code = (m.putLoad {
      opcode := op, data := ((openLoad m op).map (·.data)).getD [], tr := tr, tag := pk.tag, verifying := true }, none) := by
  have hno : (!m.rst.recovery && rimLocked m) = false := by rcases hopen with h | h <;> simp [h]
  unfold Mach.doChunk
  simp only [hno, hpl, Bool.false_eq_true, if_false]
  rfl

/-- A load put in place that is not under verification is the open one. -/
theorem openLoad_putLoad (m : Mach) {l : Load} (hl : l.verifying = false) : openLoad (m.putLoad l) l.opcode = some l :=
  find_other_none (fun x : Load => x.opcode == l.opcode && !x.verifying) m.cmd.loads l (by simp [hl])

/-- A load put in place under verification leaves no load open. -/
theorem openLoad_putLoad_verifying (m : Mach) {l : Load} (hl : l.verifying = true) : openLoad (m.putLoad l) l.opcode = none := by
  refine List.find?_eq_none.mpr fun x hx => ?_
  rcases List.mem_append.mp hx with hx | hx
  · simpa [imp_iff_not_or] using (List.mem_filter.mp hx).2
  · obtain rfl := List.mem_singleton.mp hx
    simp [hl]

/-- The load put in place is among the loads. -/
theorem mem_putLoad (m : Mach) (l : Load) : l ∈ (m.putLoad l).cmd.loads := List.mem_append_right _ (List.mem_singleton_self l)

/-- The checks of a command leave the open loads, and whether loads are barred. -/
theorem entered_load (m : Mach) (tr : Transport) (route : Route) (vc : VCommand) (op : Byte) :
    openLoad (m.entered tr route vc) op = openLoad m op
      ∧ ((m.rst.recovery = true ∨ rimLocked m = false) →
        (m.entered tr route vc).rst.recovery = true ∨ rimLocked (m.entered tr route vc) = false) := by
  refine ⟨?_, fun h => ?_⟩
  · unfold openLoad
    rw [entered_loads]
  · rwa [rst_of_touch (entered_touch m tr route vc) rfl, entered_rim]

/-! ### KEY_LOAD -/

/-- The checks of a command leave what the checks of a key load read. -/
theorem entered_keyChecks (m : Mach) (tr : Transport) (route : Route) (vc : VCommand) (p : List Byte) :
    keyChecks (m.entered tr route vc) p = keyChecks m p := by
  have husage := fun i => entered_fld m tr route vc KEY_SLOT_usage i (by decide) (by decide) (by decide)
  have hver := fun i => entered_fld m tr route vc KEY_SLOT_VER_ver i (by decide) (by decide) (by decide)
  have hstate := entered_fld m tr route vc RIM_STS_state 0 (by decide) (by decide) (by decide)
  have hrim := rim_of_touch (entered_touch m tr route vc) rfl
  unfold keyChecks wrapKey Mach.keyFor
  rw [husage, hver, hstate, hrim]

/-- A key load that passes its checks, and before which none waits, waits for its flash copy (R396, R398). -/
theorem doKeyLoad_waits {m : Mach} (tr : Transport) {pk : VPacket} {k : Key}
    (hopen : rimLocked m = false ∨ (m.fld RIM_STS_state = 2 ∧ keyWrap pk.payload = 0)) (hqueue : m.rim.queue = [])
    (hform : keyFormOk pk.payload = true) (hchecks : keyChecks m pk.payload = .ok k) :
    m.doKeyLoad tr pk = (m.onRim fun r => { r with
      queue := { tr := tr, tag := pk.tag, payload := pk.payload, key := k } :: r.queue }, none) := by
  have hno : (rimLocked m && !(m.fld RIM_STS_state == 2 && keyWrap pk.payload == 0)) = false := by
    rcases hopen with h | ⟨h, hw⟩
    · rw [h, Bool.false_and]
    · simp [h, hw]
  unfold Mach.doKeyLoad Mach.queueLoad Mach.startLoad
  simp only [hno, hqueue, hform, hchecks, Bool.false_eq_true, if_false, Bool.not_true, List.isEmpty_nil, if_true]

/-- IMAGE_LOAD and FW_LOAD are the commands of their opcodes. -/
theorem completes_load {t : Nat} {tr : Transport} {pk : VPacket} {op : Byte} {s : State} {P : Mach → Prop}
    (hpow : s.m.powered = true) (hop : op = 0x30 ∨ op = 0x31) (hP : P ((s.m.advance t).command tr { opcode := op, pk := pk })) :
    Completes (if op = 0x30 then .imageLoad t tr pk else .fwLoad t tr pk) s P := by
  rcases hop with rfl | rfl
  · exact completes_run (f := fun m => m.command tr { opcode := 0x30, pk := pk }) rfl hpow hP
  · exact completes_run (f := fun m => m.command tr { opcode := 0x31, pk := pk }) rfl hpow hP

/-- The execution of IMAGE_LOAD or FW_LOAD is a chunk of the load of that opcode. -/
theorem runOpcode_chunk {m : Mach} {tr : Transport} {pk : VPacket} {op : Byte} (hop : op = 0x30 ∨ op = 0x31)
    (h : m.passes tr { opcode := op, pk := pk }) :
    ∃ code, (m.entered tr (plainRoute m tr) { opcode := op, pk := pk }).runOpcode tr { opcode := op, pk := pk }
      = (m.entered tr (plainRoute m tr) { opcode := op, pk := pk }).doChunk tr op pk code := by
  rcases hop with rfl | rfl
  · exact ⟨0x30, runOpcode_is _ tr _ h rfl⟩
  · exact ⟨0x28, runOpcode_is _ tr _ h rfl⟩

/-- Settles O17: each opcode's execution, as its command finds the module. -/
theorem vreltiRunsBulkAndLoads : Obligations.VreltiRunsBulkAndLoads := by
  refine ⟨?admission, ?bulkRead, ?bulkWrite, ?chunk, ?verify, ?keyLoad⟩
  case admission =>
    intro s t tr pk hpow hpass hrim hpl hrun
    refine completes_run (f := fun m => m.command tr { opcode := 0x12, pk := pk }) rfl hpow ?_
    have htouch := entered_touch (s.m.advance t) tr (plainRoute (s.m.advance t) tr) { opcode := 0x12, pk := pk }
    have hadm := adm_of_touch htouch rfl
    obtain ⟨hz, hex⟩ := command_stays _ _ tr _ hpass (runOpcode_is _ tr _ hpass
      (doAdmit_starts tr ((entered_rim ..).trans hrim) hpl ((congrArg Adm.run hadm).trans hrun))) rfl
    rw [hz]
    refine ⟨?_, fld_set _ _ _ _ rfl, hex⟩
    show some _ = some _
    rw [entered_runPages, now_of_touch htouch rfl]
    rfl
  case bulkRead =>
    intro s t tr pk bytes hpow hpass hroom hlen hn hread
    refine completes_run (f := fun m => m.command tr { opcode := 0x20, pk := pk }) rfl hpow ?_
    exact (command_answers hpass hroom (runOpcode_is _ tr _ hpass (doBulkRead_reads hlen hn hread))
      (cmd_of_touch (Mach.readBulk_touch ..) rfl)).1
  case bulkWrite =>
    intro s t tr pk size hpow hpass hroom hrim hsize hpl hend hadm hcom hlearnt
    refine completes_run (f := fun m => m.command tr { opcode := 0x21, pk := pk }) rfl hpow ?_
    have hbulk := bulk_of_touch (entered_touch (s.m.advance t) tr (plainRoute (s.m.advance t) tr) { opcode := 0x21, pk := pk }) rfl
    obtain ⟨hrim', hadm'⟩ := entered_open tr (plainRoute (s.m.advance t) tr) { opcode := 0x21, pk := pk } (m := s.m.advance t) hrim hadm
    have hcom' := (entered_marks (s.m.advance t) tr (plainRoute (s.m.advance t) tr) { opcode := 0x21, pk := pk } pk.page.isLt).1.trans hcom
    obtain ⟨sn, hdo⟩ := doBulkWrite_writes tr hrim' hsize hpl hend hadm' hcom' fun h => by
      unfold writesLearnt
      rw [hbulk]
      exact hlearnt h
    obtain ⟨hans, hends⟩ := command_answers hpass hroom (runOpcode_is _ tr _ hpass hdo) (audit_cmd ..)
    refine ⟨hans, ?_⟩
    rw [bulk_of_touch hends rfl, bulk_of_touch (Mach.audit_touch ..) rfl]
    exact congrArg _ hbulk
  case chunk =>
    intro s t tr pk op hpow hop hpass hroom hopen hpl hat
    refine completes_load hpow hop ?_
    obtain ⟨hload, hbarred⟩ := entered_load (s.m.advance t) tr (plainRoute (s.m.advance t) tr) { opcode := op, pk := pk } op
    obtain ⟨code, hchunk⟩ := runOpcode_chunk hop hpass
    rw [doChunk_extends tr op code (hbarred hopen) hpl (by rw [hload]; exact hat), hload] at hchunk
    obtain ⟨hans, -⟩ := command_ends _ _ tr _ _ _ hpass hroom hchunk rfl rfl rfl rfl
    refine ⟨hans, ?_⟩
    rw [command_passes _ _ _ hpass, accept_run, hchunk]
    show openLoad (Mach.finishTag _ _ _ _ _) op = _
    unfold openLoad
    rw [finishTag_loads]
    exact openLoad_putLoad _ (l := { opcode := op, data := _, tr := tr, tag := pk.tag, verifying := false }) rfl
  case verify =>
    intro s t tr pk op hpow hop hpass hopen hpl
    refine completes_load hpow hop ?_
    obtain ⟨hload, hbarred⟩ := entered_load (s.m.advance t) tr (plainRoute (s.m.advance t) tr) { opcode := op, pk := pk } op
    obtain ⟨code, hchunk⟩ := runOpcode_chunk hop hpass
    rw [doChunk_verifies tr op code (hbarred hopen) hpl, hload] at hchunk
    obtain ⟨hz, hex⟩ := command_stays _ _ tr _ hpass hchunk rfl
    rw [hz]
    exact ⟨mem_putLoad _ _,
      openLoad_putLoad_verifying _ (l := { opcode := op, data := _, tr := tr, tag := pk.tag, verifying := true }) rfl, hex⟩
  case keyLoad =>
    intro s t tr pk k hpow hpass hopen hqueue hform hchecks
    refine completes_run (f := fun m => m.command tr { opcode := 0x38, pk := pk }) rfl hpow ?_
    have hrim := rim_of_touch (entered_touch (s.m.advance t) tr (plainRoute (s.m.advance t) tr) { opcode := 0x38, pk := pk }) rfl
    have hqueue' := (congrArg Rim.queue hrim).trans hqueue
    have hstate := entered_fld (s.m.advance t) tr (plainRoute (s.m.advance t) tr) { opcode := 0x38, pk := pk } RIM_STS_state 0
      (by decide) (by decide) (by decide)
    obtain ⟨hz, hex⟩ := command_stays _ _ tr _ hpass (runOpcode_is _ tr _ hpass (doKeyLoad_waits tr
      (hopen.imp (entered_rim ..).trans fun h => ⟨hstate.trans h.1, h.2⟩) hqueue' hform ((entered_keyChecks ..).trans hchecks))) rfl
    rw [hz]
    exact ⟨congrArg (List.cons _) hqueue', hex⟩

end Sys2Proof.Machine


/-! # Commands with nothing to do -/

namespace Sys2Proof.Machine

/-- REG_WRITE with no payload does nothing (R53). -/
theorem doWrite_empty {m : Mach} (tr : Transport) {pk : VPacket} (hoff : pk.offset.toNat < 4096) (hpl : pk.payload = []) :
    m.doWrite tr pk = (m, some (0x00, [])) := by
  have hno : ¬ 4096 < pk.offset.toNat := by omega
  have hwords : wordsBE [] = [] := rfl
  simp [Mach.doWrite, hpl, hwords, hno]

/-- A register opcode that passes check 3 names an offset within its page (R46). -/
theorem offset_lt_of_headerOk {vc : VCommand} (hreg : [0x01, 0x02, 0x03].contains vc.opcode.toNat = true)
    (h : headerOk vc = true) : vc.pk.offset.toNat < 4096 := by
  simp only [headerOk, hreg, Bool.and_eq_true, Bool.not_eq_true', Bool.true_and, decide_eq_false_iff_not] at h
  omega

/-- BULK_WRITE with no payload to an object does nothing (R53). -/
theorem doBulkWrite_empty {m : Mach} (tr : Transport) {pk : VPacket} (hrim : rimLocked m = false)
    (hsize : (bulkSize pk.page.toNat (bulkObj pk)).isSome = true) (hpl : pk.payload = []) :
    m.doBulkWrite tr pk = (m, some (0x00, [])) := by
  obtain ⟨size, hsize⟩ := Option.isSome_iff_exists.mp hsize
  simp [Mach.doBulkWrite, Mach.writeBulk, hsize, hrim, hpl]

/-- No byte of an object is read. -/
theorem bulkData_zero (m : Mach) (page obj start : Nat) : bulkData m page obj start 0 = [] := by
  unfold bulkData
  split <;> simp [cutEntries, Mach.bulkBytes, memRead]

/-- Which objects can be read does not depend on the module's state. -/
theorem bulkLength_isSome (m k : Mach) (page obj : Nat) :
    (bulkLength m page obj).isSome = (bulkLength k page obj).isSome := by
  unfold bulkLength
  split
  case h_5 => split <;> rfl
  all_goals rfl

/-- A read of no byte of an object answers none (R53). -/
theorem readBulk_zero (m : Mach) {page obj : Nat} (pos : Nat) (h : (bulkLength m page obj).isSome = true) :
    (m.readBulk page obj pos 0).2 = some [] := by
  obtain ⟨len, hlen⟩ := Option.isSome_iff_exists.mp h
  simp [Mach.readBulk, hlen, bulkData_zero]

/-- Settles O40: each opcode with nothing to do leaves the module as its checks left it. -/
theorem zeroLengthCommandsSucceed : Obligations.ZeroLengthCommandsSucceed := by
  refine ⟨?regWrite, ?bulkWrite, ?bulkRead, ?nop⟩
  case regWrite =>
    intro s t tr pk hpow hpass hroom hpl
    refine completes_run (f := fun m => m.command tr { opcode := 0x02, pk := pk }) rfl hpow ?_
    obtain ⟨-, -, -, -, hheader, -⟩ := id hpass
    obtain ⟨hans, hends⟩ := command_answers hpass hroom
      (runOpcode_is _ tr _ hpass (doWrite_empty tr (offset_lt_of_headerOk rfl hheader) hpl)) rfl
    have henters := entered_touch (s.m.advance t) tr (plainRoute (s.m.advance t) tr) { opcode := 0x02, pk := pk }
    have hforce := (force_of_touch hends rfl).trans (force_of_touch henters rfl)
    have hbulk := (bulk_of_touch hends rfl).trans (bulk_of_touch henters rfl)
    refine ⟨hans, hforce, hbulk, fun p o i hp ho h3 h36 => ?_⟩
    · have hplain : checkWord p o = false := by
        simp [checkWord, h3, h36, RIM_ACTIVE_src, CMD_AUTH_FAIL_consecutive, CMD_FRESH_PCIE_fresh, CMD_FRESH_UDP_fresh]
      calc ((s.m.advance t).command tr { opcode := 0x02, pk := pk }).reg p o i
          = ((s.m.advance t).entered tr (plainRoute (s.m.advance t) tr) { opcode := 0x02, pk := pk }).reg p o i :=
            reg_of_regs (regs_of_touch hends rfl) p o i
        _ = s.m.reg p o i := entered_reg _ tr _ _ p o i hp ho hplain
  case bulkWrite =>
    intro s t tr pk hpow hpass hroom hrim hsize hpl
    refine completes_run (f := fun m => m.command tr { opcode := 0x21, pk := pk }) rfl hpow ?_
    have henters := entered_touch (s.m.advance t) tr (plainRoute (s.m.advance t) tr) { opcode := 0x21, pk := pk }
    obtain ⟨hans, hends⟩ := command_answers hpass hroom
      (runOpcode_is _ tr _ hpass (doBulkWrite_empty tr ((entered_rim ..).trans hrim) hsize hpl)) rfl
    have hbulk := (bulk_of_touch hends rfl).trans (bulk_of_touch henters rfl)
    have hbulkF := (bulkF_of_touch hends rfl).trans (bulkF_of_touch henters rfl)
    exact ⟨hans, hbulk, hbulkF⟩
  case bulkRead =>
    intro s t tr pk hpow hpass hroom hsome hlen hzero
    refine completes_run (f := fun m => m.command tr { opcode := 0x20, pk := pk }) rfl hpow ?_
    have hread := readBulk_zero ((s.m.advance t).entered tr (plainRoute (s.m.advance t) tr) { opcode := 0x20, pk := pk })
      (page := pk.page.toNat) (obj := bulkObj pk) (bulkPos pk) ((bulkLength_isSome _ s.m _ _).trans hsome)
    rw [← hzero] at hread
    have hn : natBE pk.payload ≤ 16384 := by omega
    exact (command_answers hpass hroom (runOpcode_is _ tr _ hpass (doBulkRead_reads hlen hn hread))
      (cmd_of_touch (Mach.readBulk_touch ..) rfl)).1
  case nop =>
    intro s t tr pk hpow hpass hroom hpl
    refine completes_run (f := fun m => m.command tr { opcode := 0x7F, pk := pk }) rfl hpow ?_
    have hrun := runOpcode_is (s.m.advance t) tr { opcode := 0x7F, pk := pk } hpass
      (x := ((s.m.advance t).entered tr (plainRoute (s.m.advance t) tr) { opcode := 0x7F, pk := pk }, some (0x00, pk.payload))) rfl
    rw [hpl] at hrun
    exact (command_answers hpass hroom hrun rfl).1

end Sys2Proof.Machine


/-! # The commands of admission -/

namespace Sys2Proof.Machine

/-- What a command that completes leaves, weakened. -/
theorem Completes.mono {c : Instr} {s : State} {P Q : Mach → Prop} (h : Completes c s P) (himp : ∀ m', P m' → Q m') : Completes c s Q :=
  let ⟨m', hexec, hP⟩ := h
  ⟨m', hexec, himp m' hP⟩

/-- A write of the unlock key to PAGE_LOCK of a mapped page that is not under admission unlocks it (R43). -/
theorem put_unlock {m : Mach} {src : Src} {page : Nat} (hm : mapped page = true) (hsrc : src ≠ .debug) (hrim : rimLocked m = false)
    (hadm : underAdmission m page = false) : m.put src page 0x028 0x5EA10002 = m.unlock src page := by
  have hseen : debugIgnored m src page 0x028 = false := by simp [debugIgnored]
  unfold Mach.put Mach.writeWord
  rw [hm, hseen]
  exact congrArg Prod.fst (writeLock_unlock hsrc hrim hadm)

/-- A run of either kind starts while none is in progress (R179). -/
theorem startRun_starts {m : Mach} (check : Bool) (by_ : RunBy) (hrun : m.adm.run = none) :
    (m.startRun check by_).1 = ({ m with adm := { m.adm with
      run := some { check := check, by_ := by_, since := m.now, pages := runPages m } } }).setFld ADM_STS_state 0 (if check then 2 else 1) := by
  unfold Mach.startRun
  rw [hrun]

/-- The requests of ADM_CTRL start a run of their kind while none is in progress (R179). -/
theorem completes_admCtrl {c : Instr} {s : State} {t : Nat} {src : Src} (check : Bool) (hpow : s.m.powered = true)
    (hsrc : s.m.mayWrite src) (hrun : s.m.adm.run = none)
    (hexec : exec c s = s.run t fun m => m.put src 0x08 0x040 (if check then 2 else 1)) :
    Completes c s fun m' => m'.fld ADM_STS_state = (if check then 2 else 1)
      ∧ ∃ r, m'.adm.run = some r ∧ r.check = check ∧ r.since = (s.m.advance t).now := by
  have hfree : secondRun s.m 0x08 0x040 (if check then 2 else 1) = false := by simp [secondRun, hrun]
  have hplain : plainWord 0x08 0x040 (if check then 2 else 1) = true := by cases check <;> decide
  refine completes_word hexec hpow hsrc hplain hfree fun k i hk _ => ?_
  have hkadm : k.adm = s.m.adm := by rw [hk.1]; rfl
  have hknow : k.now = (s.m.advance t).now := by rw [hk.1]
  have hact : k.act src 0x08 0x040 i (if check then 2 else 1) = (k.startRun check (.register src)).1 := by cases check <;> rfl
  rw [hact, startRun_starts check _ ((congrArg Adm.run hkadm).trans hrun)]
  have haudit := Mach.auditWrite_touch (({ k with adm := { k.adm with
      run := some { check := check, by_ := .register src, since := k.now, pages := runPages k } } } : Mach).setFld ADM_STS_state 0
      (if check then 2 else 1)) 0x08 src 0x040 (word (if check then 2 else 1))
  rw [fld_touch haudit _ _ rfl, fld_set _ _ _ _ rfl, adm_of_touch haudit rfl]
  exact ⟨by cases check <;> rfl, _, rfl, rfl, hknow⟩

/-- The end of a run asked for by a register: no run is in progress, and its report is held (R187). -/
theorem admDone_register {m : Mach} {src : Src} {r : AdmRun} (hrun : m.adm.run = some r) (hby : r.by_ = .register src) :
    m.admDone.adm.run = none ∧ m.admDone.adm.report = reportOf m (m.adm.due.getD [] ++ r.pages) := by
  unfold Mach.admDone Mach.answerRun
  rw [hrun]
  simp only [hby]
  generalize hz : ({ m with adm := { m.adm with run := none, report := reportOf m (m.adm.due.getD [] ++ r.pages) } } : Mach) = z
  have hshown : (z.showResult r (verdict m (m.adm.due.getD [] ++ r.pages))).adm = z.adm := adm_of_touch (Mach.showResult_touch ..) rfl
  have hzadm : z.adm = { m.adm with run := none, report := reportOf m (m.adm.due.getD [] ++ r.pages) } := by rw [← hz]
  cases hcheck : r.check with
  | true =>
    rw [if_pos rfl, Mach.event_adm _ _ _ _ (by decide), hshown, hzadm]
    exact ⟨rfl, rfl⟩
  | false =>
    obtain ⟨hstate, hcode⟩ := showResult_shows z r (verdict m (m.adm.due.getD [] ++ r.pages))
    obtain ⟨hr, hreport, -⟩ := settled (z.showResult r (verdict m (m.adm.due.getD [] ++ r.pages))) r.pages
      (verdict m (m.adm.due.getD [] ++ r.pages)) hstate hcode
    rw [if_neg (by decide), hr, hreport, hshown, hzadm]
    exact ⟨rfl, rfl⟩

/-- A copy that fails elsewhere than in a follower ends, and its retry is armed (R245). -/
theorem failCopy_lead {m : Mach} (hcopy : m.twn.copy.isSome = true) (hst : twnState m ≠ 3) :
    m.failCopy.twn.copy = none ∧ m.failCopy.deadline .copyRetry = some (m.now + 100000000) := by
  have hst' : ¬ m.fld TWN_STS_state = 3 := hst
  have hno : m.twn.copy.isNone = false := by simpa [Option.isSome_iff_ne_none] using hcopy
  unfold Mach.failCopy
  rw [hno, if_neg (by decide), if_neg hst']
  exact ⟨rfl, deadline_arm_same ..⟩

/-- Settles O54. -/
theorem admissionCommandsComplete : Obligations.AdmissionCommandsComplete := by
  refine ⟨?unlock, ?admission, ?check, ?complete, ?copy⟩
  case unlock =>
    intro s t src page hpow hm hsrc hrim hadm
    refine completes_run (f := fun m => m.put src page.toNat 0x028 0x5EA10002) rfl hpow ?_
    rw [put_unlock (m := s.m.advance t) hm hsrc hrim hadm]
    obtain ⟨hc, hs, -⟩ := unlock_marks (s.m.advance t) src page.isLt
    have hforce := force_of_touch (Mach.unlock_touch (s.m.advance t) src page.toNat) rfl
    exact ⟨hc, hs, hforce⟩
  case admission =>
    intro s t src hpow hsrc hrun
    exact completes_admCtrl false hpow hsrc hrun rfl
  case check =>
    intro s t src hpow hsrc hrun
    exact completes_admCtrl true hpow hsrc hrun rfl
  case complete =>
    intro s t src r hpow hrun hby
    exact completes_run (f := Mach.admDone) rfl hpow (admDone_register (m := s.m.advance t) hrun hby)
  case copy =>
    intro s t hpow hup hcopy hst
    refine completes_run (f := fun m => if plaitUp m then m.failCopy else m) rfl hpow ?_
    have hup' : plaitUp (s.m.advance t) = true := hup
    have hlead : twnState (s.m.advance t) = 2 := hst
    rw [if_pos hup']
    exact failCopy_lead (m := s.m.advance t) hcopy (by rw [hlead]; decide)

end Sys2Proof.Machine


/-! # Share frames, pace windows and hang watchdogs -/

namespace Sys2Proof.Machine

/-! ### Share frames (R176) -/

/-- A share frame at which no set waits opens the manager window and does nothing else. -/
theorem shareFrame_plain {m : Mach} (hat : m.now % 1000000 = 0) (hdue : m.adm.due = none) :
    m.shareFrame = (m.runJobs).onDsp fun d => { d with mgrOpen := true } := by
  have hdue' : ((m.runJobs).onDsp fun d => { d with mgrOpen := true }).adm.due = none := hdue
  unfold Mach.shareFrame
  rw [if_neg (not_not_intro hat)]
  dsimp only
  rw [hdue']

/-- No share frame begins but at a multiple of 1 ms. -/
theorem shareFrame_elsewhere {m : Mach} (hat : m.now % 1000000 ≠ 0) : m.shareFrame = m := if_pos hat

/-! ### Pace windows (R74, R75) -/

theorem nextPace_lt (m : Mach) (st now : Nat) (held : Bool) : nextPace m st now held < 4 := by
  unfold nextPace
  dsimp only
  repeat' split
  all_goals decide

/-- Under the floor the next state is Below floor. -/
theorem nextPace_floor (m : Mach) (st : Nat) {now : Nat} (held : Bool) (h : now < 1024) : nextPace m st now held = 3 := if_pos h

/-- From Normal the levels alone choose. -/
theorem nextPace_normal (m : Mach) {now : Nat} (held : Bool) (h : 1024 ≤ now) :
    nextPace m 0 now held = if now < m.cfg PACE_SHED_level then 2 else if now < m.cfg PACE_WARN_level then 1 else 0 :=
  if_neg (Nat.not_lt.mpr h)

/-- The lowest pace of sensors that show `v`, and the lowest index that has it. -/
theorem lowestPace_shown {y : Mach} {v : Nat → BitVec 16} (hy : ∀ j < 16, y.fld (PACE_SENSOR_value.nth j) = (v j).toNat) :
    ∃ i < 16, lowestPace y = ((v i).toNat, i) ∧ ∀ j < 16, (v i).toNat ≤ (v j).toNat ∧ (v j = v i → i ≤ j) := by
  obtain ⟨i, hi, hfold, hlow⟩ := lowest_of (fun j => (v j).toNat) (2 ^ 16) (fun j => (v j).isLt) 16 (by decide)
  refine ⟨i, hi, ?_, fun j hj => ⟨(hlow j hj).1, fun h => (hlow j hj).2 (congrArg BitVec.toNat h)⟩⟩
  rw [← hfold]
  refine foldl_same _ _ _ _ fun j hj a => ?_
  rw [sensorValue, hy j (List.mem_range.mp hj)]

/-- A field that neither a state of the pace monitor nor its glitch detector changes. -/
def paceApart (f : Fd) : Bool :=
  Fd.noEvt 2 f && Fd.clear PACE_STATE_shed_req f && Fd.clear PACE_WARN_CNT_n f && Fd.clear PACE_SHED_CNT_n f
    && Fd.clear PACE_FLOOR_CNT_n f && Fd.clear PACE_GLITCH_CNT_n f && decide (f.page = 2) && Fd.clear RIM_ACTIVE_src f

/-- A sensor's fields are apart from what the end of a window writes after the sensors. -/
theorem sensor_apart : ∀ j < 16, ∀ f ∈ [PACE_SENSOR_value.nth j, PACE_SENSOR_stale.nth j],
    (paceApart f && Fd.clear PACE_STATE_state f && Fd.clear PACE_NOW_pace f && Fd.clear PACE_NOW_sensor f
      && Fd.clear PACE_MINMAX_max f && Fd.clear PACE_MINMAX_min f) = true := by decide

/-- The module with the pace of a window, its sensor and the extremes shown, and the pace monitor's memory `p`. -/
def Mach.showPace (y : Mach) (now who mn mx : Nat) (p : Pace) : Mach :=
  { (((y.setFld PACE_NOW_pace 0 now).setFld PACE_NOW_sensor 0 who).setFld PACE_MINMAX_max 0 mx).setFld PACE_MINMAX_min 0 mn with pace := p }

/-- The pace monitor's memory holds no field. -/
theorem fld_withPace (m : Mach) (p : Pace) (f : Fd) : ({ m with pace := p } : Mach).fld f = m.fld f := rfl

/-- Its fields are those of the words written. -/
theorem showPace_words (y : Mach) (now who mn mx : Nat) (p : Pace) (f : Fd) : (y.showPace now who mn mx p).fld f
    = ((((y.setFld PACE_NOW_pace 0 now).setFld PACE_NOW_sensor 0 who).setFld PACE_MINMAX_max 0 mx).setFld PACE_MINMAX_min 0 mn).fld f :=
  fld_withPace _ p f

theorem showPace_fld (y : Mach) (now who mn mx : Nat) (p : Pace) {f : Fd} (hf : (Fd.clear PACE_NOW_pace f && Fd.clear PACE_NOW_sensor f
    && Fd.clear PACE_MINMAX_max f && Fd.clear PACE_MINMAX_min f) = true) : (y.showPace now who mn mx p).fld f = y.fld f := by
  simp only [Bool.and_eq_true] at hf
  obtain ⟨⟨⟨hnow, hwho⟩, hmax⟩, hmin⟩ := hf
  rw [showPace_words, fld_set_clear _ _ _ _ _ _ hmin, fld_set_clear _ _ _ _ _ _ hmax, fld_set_clear _ _ _ _ _ _ hwho,
    fld_set_clear _ _ _ _ _ _ hnow]

/-- The pace shown, and the sensor that has it. -/
theorem showPace_now (y : Mach) {now who : Nat} (mn mx : Nat) (p : Pace) (hnow : now < 2 ^ 16) (hwho : who < 16) :
    (y.showPace now who mn mx p).fld PACE_NOW_pace = now ∧ (y.showPace now who mn mx p).fld PACE_NOW_sensor = who := by
  constructor
  · rw [showPace_words, fld_set_clear _ _ _ _ _ _ rfl, fld_set_clear _ _ _ _ _ _ rfl, fld_set_clear _ _ _ _ _ _ rfl, fld_set _ _ _ _ rfl]
    exact Nat.mod_eq_of_lt hnow
  · rw [showPace_words, fld_set_clear _ _ _ _ _ _ rfl, fld_set_clear _ _ _ _ _ _ rfl, fld_set _ _ _ _ rfl]
    exact Nat.mod_eq_of_lt (lt_of_lt_of_le hwho (by decide))

/-- The state a window leaves, and the fields that neither the state nor the glitch detector changes. -/
theorem enterPace_glitch (z : Mach) {st : Nat} (now : Nat) (hst : st < 4) : ((z.enterPace st).glitch now).fld PACE_STATE_state = st
    ∧ ∀ f : Fd, paceApart f = true → Fd.clear PACE_STATE_state f = true → ((z.enterPace st).glitch now).fld f = z.fld f := by
  obtain ⟨hstate, hkept⟩ := enterPace_shows z st hst
  refine ⟨(glitch_fld _ _ _ rfl).trans hstate, fun f hf hs => ?_⟩
  simp only [paceApart, Bool.and_eq_true] at hf
  obtain ⟨⟨⟨⟨⟨⟨⟨hevt, hshed⟩, hwarn⟩, hcnt⟩, hbelow⟩, hglitch⟩, hpage⟩, hrim⟩ := hf
  rw [glitch_fld _ _ f (by simp [hevt, hglitch, hpage, hrim]), hkept f (by simp [hevt, hs, hshed, hwarn, hcnt, hbelow])]

/-- What the end of a window that has lasted its length leaves, every sensor counted: the sensors, the pace and its sensor, and the
state that follows from them. -/
theorem paceWindow_shows {m : Mach} {counts : List (Option (BitVec 16))} {v : Nat → BitVec 16}
    (hlen : m.pace.windowAt + paceLength m ≤ m.now) (hv : ∀ i < 16, nthD counts i none = some (v i)) :
    ∃ i < 16, (∀ j < 16, (m.paceWindow counts).fld (PACE_SENSOR_value.nth j) = (v j).toNat
        ∧ (m.paceWindow counts).flag (PACE_SENSOR_stale.nth j) = false)
      ∧ (∀ j < 16, (v i).toNat ≤ (v j).toNat ∧ (v j = v i → i ≤ j))
      ∧ (m.paceWindow counts).fld PACE_NOW_pace = (v i).toNat ∧ (m.paceWindow counts).fld PACE_NOW_sensor = i
      ∧ ∃ z held, z.force = m.force
          ∧ (m.paceWindow counts).fld PACE_STATE_state = nextPace z (m.fld PACE_STATE_state) (v i).toNat held := by
  obtain ⟨hshown, hstate, hforce⟩ := sensors_shown m.floorTime v counts hv 16 (le_refl _)
  have hfloor : m.floorTime.fld PACE_STATE_state = m.fld PACE_STATE_state := fld_count_clear m _ _ 0 0 _ rfl
  generalize hyd : m.floorTime.each (List.range 16) (fun i m => m.sensor i (nthD counts i none)) = y at hshown hstate hforce
  obtain ⟨i, hi, hlowest, hlow⟩ := lowestPace_shown fun j hj => (hshown j hj).1
  obtain ⟨mn, mx, p, held, z, hz, hwin⟩ := paceWindow_eq m counts y _ _ hlen hyd.symm hlowest
  obtain rfl : z = y.showPace (v i).toNat i mn mx p := hz
  obtain ⟨hnow, hwho⟩ := showPace_now y mn mx p (v i).isLt hi
  obtain ⟨hends, hkept⟩ := enterPace_glitch (y.showPace (v i).toNat i mn mx p) (v i).toNat
    (nextPace_lt (y.showPace (v i).toNat i mn mx p) ((y.showPace (v i).toNat i mn mx p).fld PACE_STATE_state) (v i).toNat held)
  rw [← hwin] at hends hkept
  refine ⟨i, hi, fun j hj => ?_, hlow, (hkept _ rfl rfl).trans hnow, (hkept _ rfl rfl).trans hwho,
    y.showPace (v i).toNat i mn mx p, held, hforce, ?_⟩
  · have hsensor : ∀ f ∈ [PACE_SENSOR_value.nth j, PACE_SENSOR_stale.nth j], (m.paceWindow counts).fld f = y.fld f := fun f hf => by
      have hclear := sensor_apart j hj f hf
      simp only [Bool.and_eq_true] at hclear
      obtain ⟨⟨⟨⟨⟨hapart, hst⟩, hnow⟩, hwho⟩, hmax⟩, hmin⟩ := hclear
      rw [hkept f hapart hst, showPace_fld _ _ _ _ _ _ (by simp [hnow, hwho, hmax, hmin])]
    obtain ⟨hval, hstale⟩ := hshown j hj
    unfold Mach.flag at hstale ⊢
    rw [hsensor _ (by simp), hsensor _ (by simp)]
    exact ⟨hval, hstale⟩
  · rw [hends, showPace_fld _ _ _ _ _ _ rfl, hstate, hfloor]

/-- The end of a window leaves the reset block and a start that is held. -/
theorem paceWindow_rst (m : Mach) (counts : List (Option (BitVec 16))) : (m.paceWindow counts).rst = m.rst :=
  rst_of_touch (Mach.paceWindow_touch m counts) rfl

/-- Before its length has passed no window ends. -/
theorem paceWindow_early {m : Mach} (counts : List (Option (BitVec 16))) (h : m.now < m.pace.windowAt + paceLength m) :
    m.paceWindow counts = m := if_pos h

theorem resumeStart_free {m : Mach} (h : m.rst.boot = none) : m.resumeStart = m := by
  unfold Mach.resumeStart
  rw [h]

/-- A held start goes on in state 0 or 1, with the recorder taking records, and waits on above state 1 (R79). -/
theorem resumeStart_held {m : Mach} {b : BootInput} (h : m.rst.boot = some b) :
    (m.fld PACE_STATE_state ≤ 1 → m.coil.intake = true → m.resumeStart = (m.onRst fun r => { r with boot := none }).startUp b)
      ∧ (1 < m.fld PACE_STATE_state → m.resumeStart = m) := by
  unfold Mach.resumeStart
  rw [h]
  refine ⟨fun hle hin => ?_, fun hlt => ?_⟩
  · simp [hle, hin]
  · simp [Nat.not_le.mpr hlt]

/-- PACE_CLR clears the extremes (R74). -/
theorem clearPace_shows (m : Mach) : m.clearPace.fld PACE_MINMAX_min = 0xFFFF ∧ m.clearPace.fld PACE_MINMAX_max = 0 := by
  unfold Mach.clearPace
  rw [fld_set_clear _ _ _ _ _ _ rfl, fld_set _ _ _ _ rfl, fld_set _ _ _ _ rfl]
  exact ⟨rfl, rfl⟩

/-! ### Hang watchdogs (R71–R73) -/

/-- What an expiry on a Warp request shows. -/
theorem warpExpiry_shows (m : Mach) (h : WarpHdr) (r : Nat) :
    (m.warpExpiry false h r).fld PACE_WDOG_CNT_n = (m.fld PACE_WDOG_CNT_n + 1) % 2 ^ 32 ∧ (m.warpExpiry false h r).evt 0x02 5 = true
      ∧ (m.warpExpiry false h r).reg 0x02 0x0CC 0 = word (h.part.toNat * 2 ^ 24 + h.origin.toNat * 2 ^ 16 + h.tag.toNat) := by
  obtain ⟨hcount, hevt, hreg⟩ := expiryOf_shows (m.endLane false h r) false h.origin.toNat h.part.toNat h.tag.toNat
  rw [fld_of_regs (regs_of_touch (Mach.endLane_touch m false h r) rfl)] at hcount
  refine ⟨hcount, hevt, hreg.trans ?_⟩
  simp

/-- The watchdog of a request that is in flight and has lasted its limit: the expiry, the answer, and the end of its transfer. -/
theorem hang_request {m : Mach} {h : WarpHdr} {r : Nat} (hst : stalled m false h r = true) :
    m.hang (.request h r) = ((m.warpExpiry false h r).emit (.warp (answerTo m h r 1))).endTransfer h := if_pos hst

/-- The watchdog of a crossing's handshake that has lasted its limit. -/
theorem hang_crossing {m : Mach} {x : Fin 36} {k : XKind} {since : Nat} (h : WarpHdr) (hs : handshake (crossing m x) k = some since)
    (hover : overdue m since = true) :
    m.hang (.crossing x k h) = (m.expiryOf false h.origin.toNat h.part.toNat h.tag.toNat).crossingHang x k := by
  show (match handshake (crossing m x) k with
    | some since => if overdue m since then (m.expiryOf false h.origin.toNat h.part.toNat h.tag.toNat).crossingHang x k else m
    | none => m) = _
  rw [hs]
  exact if_pos hover

/-- No handshake of the kind in flight: the watchdog does nothing. -/
theorem hang_crossing_idle {m : Mach} {x : Fin 36} {k : XKind} (h : WarpHdr) (hs : handshake (crossing m x) k = none) :
    m.hang (.crossing x k h) = m := by
  show (match handshake (crossing m x) k with
    | some since => if overdue m since then (m.expiryOf false h.origin.toNat h.part.toNat h.tag.toNat).crossingHang x k else m
    | none => m) = _
  rw [hs]

/-- A crossing whose handshake the watchdog ended: event 1 of CDC, and the handshake begins anew (R73). -/
theorem crossingHang_shows (m : Mach) (x : Nat) (k : XKind) :
    (m.crossingHang x k).evt 0x37 1 = true ∧ crossing (m.crossingHang x k) x = (crossing m x).resend k m.now := by
  have hcdc : ((m.markCrossing CDC_HANG_LO_f CDC_HANG_HI_f x).event 0x37 1).cdc = m.cdc := by
    rw [Mach.event_cdc _ _ _ _ (by decide)]
    exact cdc_of_touch (markCrossing_touch m x) rfl
  unfold Mach.crossingHang
  rw [crossing_on, crossing_of_cdc hcdc]
  exact ⟨evt_event _ _ _ _ rfl, rfl⟩

/-- Settles O22. -/
theorem sharesPaceAndHangs : Obligations.SharesPaceAndHangs := by
  refine ⟨?frame, ?frameApplies, ?noFrame, ?windowEnd, ?pace, ?early, ?held, ?clear, ?request, ?transfer, ?notStalled, ?crossing, ?idle⟩
  case frame =>
    intro s t hpow hat hdue
    exact completes_run (f := Mach.shareFrame) rfl hpow (shareFrame_plain (m := s.m.advance t) hat hdue)
  case frameApplies =>
    intro s t pages hpow hat hdue
    exact completes_run (f := Mach.shareFrame) rfl hpow (shareFrame_applies (s.m.advance t) pages hat hdue)
  case noFrame =>
    intro s t hpow hat
    exact completes_run (f := Mach.shareFrame) rfl hpow (shareFrame_elsewhere hat)
  case windowEnd =>
    intro s t hpow hat
    refine completes_run (f := fun m => if m.cfg DSP_CFG_mgr_win * 1000 ≤ m.now % 1000000
      then (m.runJobs).onDsp fun d => { d with mgrOpen := false } else m) rfl hpow ?_
    exact if_pos hat
  case pace =>
    intro s t counts v hpow hlen hboot hv
    refine completes_run (f := fun m => (m.paceWindow counts).resumeStart) rfl hpow ?_
    rw [resumeStart_free ((congrArg Rst.boot (paceWindow_rst (s.m.advance t) counts)).trans hboot)]
    obtain ⟨i, hi, hsensors, hlow, hpace, hwho, z, held, hforce, hstate⟩ := paceWindow_shows (m := s.m.advance t) hlen hv
    refine ⟨i, hi, hsensors, hlow, hpace, hwho, fun hfloor => ?_, fun hnormal habove => ?_⟩
    · rw [hstate, nextPace_floor _ _ _ hfloor]
    · have hnormal' : (s.m.advance t).fld PACE_STATE_state = 0 := hnormal
      rw [hstate, hnormal', nextPace_normal _ _ habove, cfg_of_force hforce, cfg_of_force hforce]
      rfl
  case early =>
    intro s t counts hpow hlen hboot
    refine completes_run (f := fun m => (m.paceWindow counts).resumeStart) rfl hpow ?_
    rw [paceWindow_early (m := s.m.advance t) counts hlen]
    exact resumeStart_free hboot
  case held =>
    intro s t counts b k hpow hk hboot
    refine completes_run (f := fun m => (m.paceWindow counts).resumeStart) rfl hpow ?_
    rw [← hk]
    exact resumeStart_held hboot
  case clear =>
    intro s t src hpow hsrc
    refine completes_put (page := 0x02) (off := 0x048) (v := 1) rfl hpow hsrc (by decide) fun k i _ _ => ?_
    have haudit := Mach.auditWrite_touch k.clearPace 0x02 src 0x048 (word 1)
    obtain ⟨hmin, hmax⟩ := clearPace_shows k
    exact ⟨(fld_touch haudit _ _ rfl).trans hmin, (fld_touch haudit _ _ rfl).trans hmax⟩
  case request =>
    intro s t h r hpow hpart hst
    refine completes_run (f := fun m => m.hang (.request h r)) rfl hpow ?_
    obtain ⟨hcount, hevt, hreg⟩ := warpExpiry_shows (s.m.advance t) h r
    have hlane : ∀ y : Mach, y.endTransfer h = y := fun y => by unfold Mach.endTransfer; rw [hpart]
    rw [hang_request hst, hlane]
    exact ⟨hcount, hevt, hreg, rfl⟩
  case transfer =>
    intro s t h r p tag hpow hpart hst
    refine completes_run (f := fun m => m.hang (.request h r)) rfl hpow ?_
    obtain ⟨hcount, hevt, -⟩ := warpExpiry_shows (s.m.advance t) h r
    have hparts := parts_of_touch (Mach.warpExpiry_touch (s.m.advance t) false h r) rfl
    have hpiece : ∀ y : Mach, y.endTransfer h = y.pieceDone p tag .watchdog := fun y => by unfold Mach.endTransfer; rw [hpart]
    exact ⟨_, (hang_request hst).trans (hpiece _), hparts, hcount, hevt, rfl⟩
  case notStalled =>
    intro s t h r hpow hst
    refine completes_run (f := fun m => m.hang (.request h r)) rfl hpow ?_
    exact if_neg (by rw [hst]; decide)
  case crossing =>
    intro s t x k h since hpow hs hover
    refine completes_run (f := fun m => m.hang (.crossing x k h)) rfl hpow ?_
    have hexp := Mach.expiryOf_touch (s.m.advance t) false h.origin.toNat h.part.toNat h.tag.toNat
    obtain ⟨hcount, hevt, -⟩ := expiryOf_shows (s.m.advance t) false h.origin.toNat h.part.toNat h.tag.toNat
    rw [hang_crossing h (m := s.m.advance t) hs (decide_eq_true hover)]
    obtain ⟨hcdc, hresend⟩ := crossingHang_shows ((s.m.advance t).expiryOf false h.origin.toNat h.part.toNat h.tag.toNat) x k
    have htouch := Mach.crossingHang_touch ((s.m.advance t).expiryOf false h.origin.toNat h.part.toNat h.tag.toNat) x k
    refine ⟨(fld_touch htouch _ _ rfl).trans hcount, (evt_touch htouch _ _ rfl).trans hevt, hcdc, ?_⟩
    rw [hresend, now_of_touch hexp rfl, crossing_of_cdc (cdc_of_touch hexp rfl)]
    rfl
  case idle =>
    intro s t x k h hpow hs
    exact completes_run (f := fun m => m.hang (.crossing x k h)) rfl hpow (hang_crossing_idle h hs)

end Sys2Proof.Machine


/-! # The commands of share frames, pace windows and crossings complete -/

namespace Sys2Proof.Machine

/-- The end of an event's transfer: the event that waits goes, and the transfer is counted (R82, R85). -/
theorem crossingDone_event {m : Mach} {x : Nat} (h : (crossing m x).event.isSome = true) :
    (crossing (m.crossingDone x .event) x).event = (crossing m x).evPend.map (fun w => (m.now, w.1, w.2))
      ∧ (m.crossingDone x .event).fld CDC_XFER_CNT_n x = (m.fld CDC_XFER_CNT_n x + 1) % 2 ^ 32 := by
  have hdone : m.crossingDone x .event = (m.onCrossing x fun c => { c with
      event := c.evPend.map fun w => (m.now, w.1, w.2), evPend := none }).count CDC_XFER_CNT_n x := if_pos h
  rw [hdone, crossing_count, crossing_on, fld_count _ _ _ _ rfl]
  exact ⟨rfl, rfl⟩

/-- An event at a crossing with none in flight is sent (R85). -/
theorem sendEvent_sends {m : Mach} {x : Nat} (code tag : Word) (h : (crossing m x).event = none) :
    (crossing (m.sendEvent x code tag) x).event = some (m.now, code, tag) := by
  have hsends : m.sendEvent x code tag = m.onCrossing x fun c => { c with event := some (m.now, code, tag) } :=
    if_pos (by rw [h]; rfl)
  rw [hsends, crossing_on]

/-- Counts presented to a crossing with none in flight are sent (R84). -/
theorem sendCount_sends {m : Mach} {x : Nat} (v : List Nat) (h : (crossing m x).count = none) :
    (crossing (m.sendCount x v) x).count = some (m.now, v) := by
  unfold Mach.sendCount
  rw [crossing_on, h]
  rfl

/-- The module at a wrap of the time tag, once the recorder has begun the segment of the wrap (R92, R380). -/
def Mach.wrapSegment (m : Mach) : Mach := if m.coil.wrapNo < m.now / 2 ^ 32 then m.newSegment (m.now / 2 ^ 32) else m

theorem wrapSegment_touch (m : Mach) : m.touch 0x3008 0 m.wrapSegment :=
  touch_ite (fun _ => Mach.newSegment_touch ..) (fun _ => touch_refl _ _ _)

/-- Settles O55: the first five from what O22 says of their commands, the crossings' from their kinds. -/
theorem paceAndCrossingCommandsComplete : Obligations.PaceAndCrossingCommandsComplete := by
  obtain ⟨-, hframe, -, hwindow, hpace, -, -, hclear, hrequest, -⟩ := sharesPaceAndHangs
  refine ⟨?frame, ?window, ?request, ?pace, hclear, ?done, ?arrival, ?wrap⟩
  case frame =>
    intro s t pages hpow hat hdue
    exact (hframe s t pages hpow hat hdue).mono fun m' ⟨hadm, hphase⟩ => ⟨congrArg Adm.due hadm, hphase⟩
  case window =>
    intro s t hpow hat
    exact (hwindow s t hpow hat).mono fun m' h => by rw [h]; rfl
  case request =>
    intro s t h r hpow hpart hst
    exact (hrequest s t h r hpow hpart hst).mono fun m' ⟨hcount, hevt, _⟩ => ⟨hcount, hevt⟩
  case pace =>
    intro s t v counts hpow hlen hboot hv
    refine (hpace s t counts v hpow hlen hboot hv).mono fun m' ⟨i, _, hsensors, hlow, hnow, _⟩ j hj => ⟨(hsensors j hj).1, ?_⟩
    rw [hnow]
    exact (hlow j hj).1
  case done =>
    intro s t x hpow hevent
    exact completes_run (f := fun m => m.crossingDone x .event) rfl hpow (crossingDone_event (m := s.m.advance t) hevent)
  case arrival =>
    intro s t x code tag hpow hkind hnone
    refine completes_run (f := fun m => if hasKind x .event then m.sendEvent x code tag else m) rfl hpow ?_
    rw [if_pos hkind]
    exact sendEvent_sends (m := s.m.advance t) code tag hnone
  case wrap =>
    intro s t hpow hnone
    refine completes_run (f := fun m => m.wrapSegment.sendCount 32 [m.now / 2 ^ 32 % 2 ^ 16]) rfl hpow ?_
    have htouch := wrapSegment_touch (s.m.advance t)
    have hcount : (crossing (s.m.advance t).wrapSegment 32).count = none := by
      rw [crossing_of_cdc (cdc_of_touch htouch rfl)]
      exact hnone
    rw [sendCount_sends _ hcount, now_of_touch htouch rfl]

end Sys2Proof.Machine


/-! # What a crossing holds after a transfer, an arrival and a wrap -/

namespace Sys2Proof.Machine

/-! ### The end of a transfer -/

/-- A transfer that ends changes its crossing and counts there. -/
theorem transferred_shows (m : Mach) (x : Nat) (f : Crossing → Crossing) :
    crossing ((m.onCrossing x f).count CDC_XFER_CNT_n x) x = f (crossing m x)
      ∧ ((m.onCrossing x f).count CDC_XFER_CNT_n x).fld CDC_XFER_CNT_n x = (m.fld CDC_XFER_CNT_n x + 1) % 2 ^ 32 := by
  rw [crossing_count, crossing_on, fld_count _ _ _ _ rfl]
  exact ⟨rfl, rfl⟩

/-- A beat of a stream's FIFO is transferred (R86). -/
theorem crossingDone_stream {m : Mach} {x : Nat} (h : (crossing m x).stream.isSome = true) :
    m.crossingDone x .stream = (m.onCrossing x fun c => { c with
      fifo := c.fifo - 1, stream := if 1 < c.fifo then some m.now else none }).count CDC_XFER_CNT_n x := if_pos h

/-- A value is transferred: the one that waits goes, and this one arrives (R82). -/
theorem crossingDone_value {m : Mach} {x a : Nat} {v : List Nat} (h : (crossing m x).value = some (a, v)) :
    ∃ y : Mach, m.crossingDone x .value = y.valueArrives x v
      ∧ crossing y x = { crossing m x with value := (crossing m x).valPend.map fun w => (m.now, w), valPend := none }
      ∧ y.fld CDC_XFER_CNT_n x = (m.fld CDC_XFER_CNT_n x + 1) % 2 ^ 32 := by
  refine ⟨_, ?_, transferred_shows m x fun c => { c with value := c.valPend.map fun w => (m.now, w), valPend := none }⟩
  unfold Mach.crossingDone
  dsimp only
  rw [h]

/-- Counts are transferred: those that wait go, and these arrive (R84). -/
theorem crossingDone_count {m : Mach} {x a : Nat} {v : List Nat} (h : (crossing m x).count = some (a, v)) :
    ∃ y : Mach, m.crossingDone x .count = y.countArrives x v
      ∧ crossing y x = { crossing m x with count := (crossing m x).cntPend.map fun w => (m.now, w), cntPend := none }
      ∧ y.fld CDC_XFER_CNT_n x = (m.fld CDC_XFER_CNT_n x + 1) % 2 ^ 32 := by
  refine ⟨_, ?_, transferred_shows m x fun c => { c with count := c.cntPend.map fun w => (m.now, w), cntPend := none }⟩
  unfold Mach.crossingDone
  dsimp only
  rw [h]

/-- An event is transferred: the one that waits goes (R85). -/
theorem crossingDone_eventSent {m : Mach} {x : Nat} (h : (crossing m x).event.isSome = true) :
    m.crossingDone x .event = (m.onCrossing x fun c => { c with
      event := c.evPend.map fun w => (m.now, w.1, w.2), evPend := none }).count CDC_XFER_CNT_n x := if_pos h

/-- What arrives changes no crossing, and no count of transfers. -/
theorem arrival_keeps {A P : Nat} {m m' : Mach} (h : m.touch A P m') (hA : A.testBit 15 = false) (hP : P.testBit 0x37 = false)
    (x : Nat) : crossing m' x = crossing m x ∧ m'.fld CDC_XFER_CNT_n x = m.fld CDC_XFER_CNT_n x :=
  ⟨crossing_of_cdc (cdc_of_touch h hA) x, fld_touch h _ _ (by simp [CDC_XFER_CNT_n, hP])⟩

/-- The value of crossing 32 is the time state its readers see (R102). -/
theorem valueArrives_seen (m : Mach) (v : List Nat) : (m.valueArrives 32 v).time.seen = v.headD 0 := rfl

/-- The count of crossing 32 is the wrap number its readers see (R92). -/
theorem countArrives_wraps (m : Mach) (v : List Nat) : (m.countArrives 32 v).time.wraps = v.headD 0 := rfl

/-- Instances of a field set one after the other. -/
theorem fld_each_setFld (m : Mach) (f : Fd) (v : Nat → Nat) (hf : Fd.fit f = true) (n : Nat) :
    ∀ i < n, (m.each (List.range n) fun i m => m.setFld f i (v i)).fld f i = v i % 2 ^ (f.hi + 1 - f.lo) := by
  induction n with
  | zero => exact fun i hi => absurd hi (Nat.not_lt_zero i)
  | succ n ih =>
    intro i hi
    have hlast : (m.each (List.range (n + 1)) fun i m => m.setFld f i (v i))
        = (m.each (List.range n) fun i m => m.setFld f i (v i)).setFld f n (v n) := by
      unfold Mach.each
      rw [List.range_succ, List.foldl_append]
      rfl
    rw [hlast]
    rcases Nat.lt_succ_iff_lt_or_eq.mp hi with hlt | rfl
    · rw [fld_setFld_apart _ f f n i _ (Fd.fits_of_fit hf) (Fd.fits_of_fit hf) (.inr (.inr (.inl (Nat.ne_of_gt hlt)))), ih i hlt]
    · exact fld_set _ _ _ _ hf

/-- The counts of crossing 33 are those the pulse inputs show (R84, R368). -/
theorem countArrives_pulses (m : Mach) (v : List Nat) : ∀ i < 32, (m.countArrives 33 v).fld PLS_CNT_n i = nthD v i 0 % 2 ^ 32 := by
  intro i hi
  have hshown := fld_each_setFld m PLS_CNT_n (fun i => nthD v i 0) rfl 32 i hi
  unfold Mach.countArrives Mach.countsArrive
  rw [if_pos rfl]
  generalize m.each (List.range 32) (fun i m => m.setFld PLS_CNT_n i (nthD v i 0)) = y at hshown ⊢
  exact (fld_of_regs rfl _ _).trans hshown

/-! ### The arrival of an event -/

/-- An event that finds one in flight and none waiting waits (R85). -/
theorem sendEvent_waits {m : Mach} {x : Nat} (code tag : Word) (h : (crossing m x).event.isNone = false)
    (hw : (crossing m x).evPend.isNone = true) :
    m.sendEvent x code tag = m.onCrossing x fun c => { c with evPend := some (code, tag) } :=
  (if_neg (by simp [h])).trans (if_pos hw)

/-- An event that finds one in flight and one waiting is dropped: the crossing stays, the overrun is counted, with event 0 (R85). -/
theorem sendEvent_overruns {m : Mach} {x : Nat} (code tag : Word) (h : (crossing m x).event.isNone = false)
    (hw : (crossing m x).evPend.isNone = false) : crossing (m.sendEvent x code tag) x = crossing m x
      ∧ (m.sendEvent x code tag).fld CDC_OVR_CNT_n = (m.fld CDC_OVR_CNT_n + 1) % 2 ^ 32 ∧ (m.sendEvent x code tag).evt 0x37 0 = true := by
  have hdrops : m.sendEvent x code tag = (((m.markCrossing CDC_OVR_LO_f CDC_OVR_HI_f x).count CDC_OVR_CNT_n).event 0x37 0 (.item x)).record
      0x37 0x160 5 (.item x) [code, tag] := (if_neg (by simp [h])).trans (if_neg (by simp [hw]))
  have hmark := Mach.markCrossing_touch m CDC_OVR_LO_f CDC_OVR_HI_f x (P := 0x80000000000000) rfl rfl
  have hcount : (m.markCrossing CDC_OVR_LO_f CDC_OVR_HI_f x).fld CDC_OVR_CNT_n = m.fld CDC_OVR_CNT_n := by
    unfold Mach.markCrossing
    split <;> exact fld_set_clear _ _ _ _ _ _ rfl
  have hrecord := fun y : Mach => Mach.record_touch y 0x37 0x160 5 (.item x) [code, tag]
  rw [hdrops, crossing_of_cdc (cdc_of_touch (hrecord _) rfl), crossing_of_cdc (Mach.event_cdc _ _ _ _ (by decide)),
    fld_touch (hrecord _) _ _ rfl, fld_event _ _ _ _ _ _ rfl, fld_count _ _ _ _ rfl, hcount, evt_touch (hrecord _) _ _ rfl]
  exact ⟨crossing_of_cdc (cdc_of_touch hmark rfl) x, rfl, evt_event _ _ _ _ rfl⟩

/-! ### The wrap of the time tag -/

/-- Counts presented to a crossing are sent, or wait while others are in flight (R84). -/
theorem crossing_sendCount (m : Mach) (x : Nat) (v : List Nat) : crossing (m.sendCount x v) x
    = if (crossing m x).count.isSome then { crossing m x with cntPend := some v } else { crossing m x with count := some (m.now, v) } :=
  crossing_on ..

/-- Settles O23: each kind's transfer, then what arrives; the three cases of an arriving event; and the count sent at a wrap. -/
theorem crossingsTransfer : Obligations.CrossingsTransfer := by
  refine ⟨?stream, ?value, ?count, ?event, ?arrival, ?noKind, ?wrap⟩
  case stream =>
    intro s t x hpow hstream
    refine completes_run (f := fun m => m.crossingDone x .stream) rfl hpow ?_
    rw [crossingDone_stream (m := s.m.advance t) hstream]
    exact transferred_shows ..
  case value =>
    intro s t x a v hpow hvalue
    refine completes_run (f := fun m => m.crossingDone x .value) rfl hpow ?_
    obtain ⟨y, hdone, hsends, hcounted⟩ := crossingDone_value (m := s.m.advance t) hvalue
    obtain ⟨hcrossing, hcount⟩ := arrival_keeps (Mach.valueArrives_touch y x v) rfl rfl x
    rw [hdone, hcrossing, hcount]
    exact ⟨hsends, hcounted, fun h => by rw [h]; exact valueArrives_seen y v⟩
  case count =>
    intro s t x a v hpow hcnt
    refine completes_run (f := fun m => m.crossingDone x .count) rfl hpow ?_
    obtain ⟨y, hdone, hsends, hcounted⟩ := crossingDone_count (m := s.m.advance t) hcnt
    obtain ⟨hcrossing, hcount⟩ := arrival_keeps (Mach.countArrives_touch y x v) rfl rfl x
    rw [hdone, hcrossing, hcount]
    exact ⟨hsends, hcounted, fun h => by rw [h]; exact countArrives_wraps y v, fun h => by rw [h]; exact countArrives_pulses y v⟩
  case event =>
    intro s t x hpow hevent
    refine completes_run (f := fun m => m.crossingDone x .event) rfl hpow ?_
    rw [crossingDone_eventSent (m := s.m.advance t) hevent]
    exact transferred_shows ..
  case arrival =>
    intro s t x code tag hpow hkind
    refine completes_run (f := fun m => if hasKind x .event then m.sendEvent x code tag else m) rfl hpow ?_
    rw [if_pos hkind]
    cases hflight : (crossing s.m x).event.isNone with
    | true =>
      have hsends : (s.m.advance t).sendEvent x code tag
          = (s.m.advance t).onCrossing x fun c => { c with event := some ((s.m.advance t).now, code, tag) } := if_pos hflight
      rw [if_pos rfl, hsends]
      exact crossing_on ..
    | false =>
      rw [if_neg (by decide)]
      cases hwait : (crossing s.m x).evPend.isNone with
      | true =>
        rw [if_pos rfl, sendEvent_waits (m := s.m.advance t) code tag hflight hwait]
        exact crossing_on ..
      | false =>
        rw [if_neg (by decide)]
        exact sendEvent_overruns (m := s.m.advance t) code tag hflight hwait
  case noKind =>
    intro s t x code tag hpow hkind
    refine completes_run (f := fun m => if hasKind x .event then m.sendEvent x code tag else m) rfl hpow ?_
    exact if_neg (by rw [hkind]; decide)
  case wrap =>
    intro s t hpow
    refine completes_run (f := fun m => m.wrapSegment.sendCount 32 [m.now / 2 ^ 32 % 2 ^ 16]) rfl hpow ?_
    have htouch := wrapSegment_touch (s.m.advance t)
    rw [crossing_sendCount, crossing_of_cdc (cdc_of_touch htouch rfl), now_of_touch htouch rfl]
    rfl

end Sys2Proof.Machine


/-! # Commits that a consistency check decides -/

namespace Sys2Proof.Machine

/-! ### A commit, passed and failed (R41, R42) -/

/-- The commit of an admitted page whose figures it does not show: the page is committed and staged, and nothing takes effect. -/
theorem commit_stages {m : Mach} (src : Src) {page : Nat} (hp : page < 256) (hcom : m.flag (hCommitted page) = false)
    (hadmitted : admittedPage page = true) (hsizes : page ≠ 0x0C) :
    (m.commit src page).flag (hCommitted page) = true ∧ (m.commit src page).flag (hStaged page) = true
      ∧ (m.commit src page).force = m.force ∧ (m.commit src page).cmd = m.cmd := by
  have hfit : ∀ f : Fd, f = hCommitted page ∨ f = hStaged page → Fd.fit f = true := by
    rintro f (rfl | rfl) <;> simp [Fd.fit, hCommitted, hStaged, hp]
  obtain ⟨sn, hcommit⟩ : ∃ sn, m.commit src page
      = ((m.setFlag (hCommitted page) 0 true).setFlag (hStaged page) 0 true).audit page 0x101 sn := by
    unfold Mach.commit
    rw [hcom, if_neg (by decide), if_pos hadmitted, if_neg hsizes]
    exact ⟨_, rfl⟩
  have haudit : ∀ f : Fd, f.page = page → f.off = 0x010 → (m.commit src page).flag f
      = ((m.setFlag (hCommitted page) 0 true).setFlag (hStaged page) 0 true).flag f := by
    intro f hpage hoff
    unfold Mach.flag
    rw [hcommit, fld_audit_hdr _ page page _ _ f hpage hp (by rw [hoff]; rfl)]
  refine ⟨?_, ?_, ?_, ?_⟩
  · rw [haudit _ rfl rfl]
    unfold Mach.flag Mach.setFlag
    rw [fld_set_hdr _ page (hStaged page) (hCommitted page) _ rfl rfl hp rfl, fld_set _ _ _ _ (hfit _ (.inl rfl))]
    rfl
  · rw [haudit _ rfl rfl, flag_set _ _ _ _ (hfit _ (.inr rfl))]
  · rw [hcommit]
    exact Mach.audit_force ..
  · rw [hcommit]
    exact audit_cmd ..

/-- What a refused commit leaves beside the reason in PAGE_ERR_INFO. -/
theorem refusedCommit_keeps (m : Mach) (src : Src) {page : Nat} (hp : page < 256) (v : Word) :
    (m.reject page src 0x028 0x09 v).fld (hCommitted page) = m.fld (hCommitted page)
      ∧ (m.reject page src 0x028 0x09 v).fld (hStaged page) = m.fld (hStaged page)
      ∧ (m.reject page src 0x028 0x09 v).force = m.force ∧ (m.reject page src 0x028 0x09 v).cmd = m.cmd := by
  have hwithin := reject_within m page src 0x028 0x09 v hp
  have hapart : ¬ errOf page page 0x010 := by simp [errOf, recPage, COIL_CNT_n]
  exact ⟨within_fld hwithin (hCommitted page) 0 hp (by decide : 0x010 < 4096) hapart,
    within_fld hwithin (hStaged page) 0 hp (by decide : 0x010 < 4096) hapart, within_force hwithin, within_cmd hwithin⟩

/-- A commit that the consistency check refuses: reason 0x09, unless an earlier rejection stands (R40, R41). -/
theorem refusedCommit_reason (m : Mach) (src : Src) {page : Nat} (hp : page < 256) (v : Word) (herr : bit (m.fld (hErr page)) 31 = false) :
    (m.reject page src 0x028 0x09 v).fld (hErr page) = 2 ^ 31 + 0x09 * 2 ^ 16 + Src.code src * 2 ^ 12 + 0x028 := by
  rw [fld_reject_first m page src 0x028 0x09 v (decide_eq_true hp) herr]
  cases src <;> rfl

/-- A commit of an uncommitted page by a source that may commit is decided by the page's check (R41, R440). -/
theorem lockRefusal_commit {m : Mach} {src : Src} {page : Nat} (hsrc : src ≠ .debug) (hrim : rimLocked m = false)
    (hcom : m.flag (hCommitted page) = false) : lockRefusal m src page (0x5EA10001 : Word).toNat = commitRefusal m page := by
  simp [lockRefusal, hsrc, hrim, hcom]

/-- A commit that the check passes. -/
theorem writeLock_passed {m : Mach} {src : Src} {page : Nat} (hsrc : src ≠ .debug) (hrim : rimLocked m = false)
    (hcom : m.flag (hCommitted page) = false) (hcheck : commitRefusal m page = none) :
    m.writeLock src page 0x5EA10001 = (m.commit src page, none) := by
  unfold Mach.writeLock
  rw [lockRefusal_commit hsrc hrim hcom, hcheck]
  rfl

/-- A commit that the check refuses. -/
theorem writeLock_failed {m : Mach} {src : Src} {page : Nat} (hsrc : src ≠ .debug) (hrim : rimLocked m = false)
    (hcom : m.flag (hCommitted page) = false) (hcheck : commitRefusal m page = some 0x09) :
    m.writeLock src page 0x5EA10001 = (m.reject page src 0x028 0x09 0x5EA10001, some 0x09) := by
  unfold Mach.writeLock
  rw [lockRefusal_commit hsrc hrim hcom, hcheck]

/-- The commit of an admitted page ends as its check decides; what follows it may change neither the registers nor the values in force. -/
theorem writeLock_commitEnds {m : Mach} {src : Src} {page : Nat} {ok : Prop} (hp : page < 256) (hsrc : src ≠ .debug)
    (hrim : rimLocked m = false) (hcom : m.flag (hCommitted page) = false) (hadmitted : admittedPage page = true) (hsizes : page ≠ 0x0C)
    (hpass : ok → commitRefusal m page = none) (hfail : ¬ ok → commitRefusal m page = some 0x09) {m' : Mach}
    (hregs : m'.regs = (m.writeLock src page 0x5EA10001).1.regs) (hforce : m'.force = (m.writeLock src page 0x5EA10001).1.force) :
    m.commitEnds m' src page ok := by
  have hfld : ∀ f : Fd, m'.fld f = (m.writeLock src page 0x5EA10001).1.fld f := fun f => fld_of_regs hregs f 0
  unfold Mach.commitEnds Mach.flag
  simp only [hfld, hforce]
  refine ⟨fun hok => ?_, fun hno => ?_⟩
  · rw [writeLock_passed hsrc hrim hcom (hpass hok)]
    obtain ⟨hc, hs, hf, -⟩ := commit_stages src hp hcom hadmitted hsizes
    exact ⟨hc, fun _ => ⟨hs, hf⟩, fun hnot => absurd hadmitted (by rw [hnot]; decide)⟩
  · rw [writeLock_failed hsrc hrim hcom (hfail hno)]
    obtain ⟨hc, hs, hf, -⟩ := refusedCommit_keeps m src hp 0x5EA10001
    exact ⟨by rw [hc]; exact hcom, hs, hf, refusedCommit_reason m src hp 0x5EA10001⟩

/-! ### Both ways to commit -/

/-- A write to PAGE_LOCK of a mapped page. -/
theorem put_lock (m : Mach) (src : Src) {page : Nat} (hm : mapped page = true) (v : Nat) :
    m.put src page 0x028 v = (m.writeLock src page (word v)).1 := by
  have hseen : debugIgnored m src page 0x028 = false := by simp [debugIgnored]
  unfold Mach.put Mach.writeWord
  rw [hm, hseen]
  rfl

/-- COMMIT whose check refuses it. -/
theorem doLock_failed {m k : Mach} {tr : Transport} {pk : VPacket} {key : Word} (hpl : pk.payload = [])
    (h : m.writeLock (srcOf tr) pk.page.toNat key = (k, some 0x09)) : m.doLock tr pk key = (k, some (0x05, reasonPayload 0x09)) := by
  unfold Mach.doLock
  rw [hpl, h]
  rfl

/-- Two modules of which a commit's check sees the same: the words but those that the checks of a command write, and the values in force. -/
def Mach.sameSettings (m k : Mach) : Prop :=
  (∀ p o i, p < 256 → o < 4096 → checkWord p o = false → k.reg p o i = m.reg p o i) ∧ k.force = m.force

theorem sameSettings_fld {m k : Mach} (h : m.sameSettings k) (f : Fd) (i : Nat)
    (hf : (decide (f.page < 256) && decide (f.off < 4096) && !checkWord f.page f.off) = true) : k.fld f i = m.fld f i := by
  simp only [Bool.and_eq_true, decide_eq_true_eq, Bool.not_eq_true'] at hf
  unfold Mach.fld
  rw [h.1 _ _ i hf.1.1 hf.1.2 hf.2]

theorem entered_sameSettings (m : Mach) (tr : Transport) (route : Route) (vc : VCommand) : m.sameSettings (m.entered tr route vc) :=
  ⟨fun p o i => entered_reg m tr route vc p o i, force_of_touch (entered_touch m tr route vc) rfl⟩

/-- The commit of an admitted page passes exactly if its relations hold, from each source it can come from, when its check decides
those relations and nothing a command's checks write is in them. -/
theorem commitChecked_of {page : BitVec 8} {ok : Mach → Prop} (hm : mapped page.toNat = true)
    (hadmitted : admittedPage page.toNat = true) (hsizes : page.toNat ≠ 0x0C)
    (hpass : ∀ m, ok m → commitRefusal m page.toNat = none) (hfail : ∀ m, ¬ ok m → commitRefusal m page.toNat = some 0x09)
    (hsame : ∀ m k : Mach, m.sameSettings k → (ok k ↔ ok m)) : CommitChecked page ok := by
  have hnow : ∀ (s : State) (t : Nat), ok (s.m.advance t) ↔ ok s.m := fun s t => hsame _ _ ⟨fun _ _ _ _ _ _ => rfl, rfl⟩
  refine ⟨?register, ?vrelti⟩
  case register =>
    intro s t src hpow hsrc hrim hcom
    refine completes_run (f := fun m => m.put src page.toNat 0x028 0x5EA10001) rfl hpow ?_
    rw [put_lock _ _ hm]
    exact writeLock_commitEnds (m := s.m.advance t) page.isLt hsrc hrim hcom hadmitted hsizes (fun h => hpass _ ((hnow s t).mpr h))
      (fun h => hfail _ fun h' => h ((hnow s t).mp h')) rfl rfl
  case vrelti =>
    intro s t tr pk hpow hpasses hroom hrim hpage hpl hcom
    subst hpage
    refine completes_run (f := fun m => m.command tr { opcode := 0x10, pk := pk }) rfl hpow ?_
    have hok := (hsame _ _ (entered_sameSettings (s.m.advance t) tr (plainRoute s.m tr) { opcode := 0x10, pk := pk })).trans (hnow s t)
    have hrim' := (entered_rim (s.m.advance t) tr (plainRoute s.m tr) { opcode := 0x10, pk := pk }).trans hrim
    have hcom' := (entered_marks (s.m.advance t) tr (plainRoute s.m tr) { opcode := 0x10, pk := pk } pk.page.isLt).1.trans hcom
    have hrun := fun x h => runOpcode_is (s.m.advance t) tr { opcode := 0x10, pk := pk } hpasses (x := x) h
    change ∀ x, ((s.m.advance t).entered tr (plainRoute s.m tr) { opcode := 0x10, pk := pk }).doLock tr pk 0x5EA10001 = x → _ at hrun
    generalize hz : (s.m.advance t).entered tr (plainRoute s.m tr) { opcode := 0x10, pk := pk } = z at hok hrim' hcom' hrun
    by_cases h : ok s.m
    · have hcheck := hpass z (hok.mpr h)
      obtain ⟨-, -, -, hcmd⟩ := commit_stages (srcOf tr) pk.page.isLt hcom' hadmitted hsizes
      have hlock := writeLock_passed (srcOf_ne tr) hrim' hcom' hcheck
      obtain ⟨hans, htouch⟩ := command_answers hpasses hroom (hrun _ (doLock_done hpl hlock)) (hcmd.trans (congrArg Mach.cmd hz.symm))
      have hends := writeLock_commitEnds pk.page.isLt (srcOf_ne tr) hrim' hcom' hadmitted hsizes (ok := ok s.m) (fun _ => hcheck)
        (fun hno => absurd h hno) ((regs_of_touch htouch rfl).trans (by rw [hlock])) ((force_of_touch htouch rfl).trans (by rw [hlock]))
      exact ⟨hends, fun _ => hans, fun hno => absurd h hno⟩
    · have hcheck := hfail z fun h' => h (hok.mp h')
      obtain ⟨-, -, -, hcmd⟩ := refusedCommit_keeps z (srcOf tr) pk.page.isLt 0x5EA10001
      have hlock := writeLock_failed (srcOf_ne tr) hrim' hcom' hcheck
      obtain ⟨hans, htouch⟩ := command_answers hpasses hroom (hrun _ (doLock_failed hpl hlock)) (hcmd.trans (congrArg Mach.cmd hz.symm))
      have hends := writeLock_commitEnds pk.page.isLt (srcOf_ne tr) hrim' hcom' hadmitted hsizes (ok := ok s.m) (fun hyes => absurd hyes h)
        (fun _ => hcheck) ((regs_of_touch htouch rfl).trans (by rw [hlock])) ((force_of_touch htouch rfl).trans (by rw [hlock]))
      exact ⟨hends, fun hyes => absurd hyes h, fun _ => hans⟩

/-! ### PACE and TIME -/

/-- The check of PACE asks the relations of R89. -/
theorem checkPace_iff (m : Mach) : checkPace (heldGen m) = true
    ↔ 1024 ≤ m.fld PACE_SHED_level ∧ m.fld PACE_SHED_level < m.fld PACE_WARN_level
        ∧ m.fld PACE_SHED_level + m.fld PACE_SHED_hys ≤ m.fld PACE_WARN_level ∧ m.fld PACE_GLITCH_level ≤ 1024 := by
  simp only [checkPace, Bool.and_eq_true, decide_eq_true_eq, and_assoc]
  exact Iff.rfl

/-- The check of TIME asks the relations of R116. -/
theorem checkTime_iff (m : Mach) : checkTime (heldGen m) = true
    ↔ (m.fld TIME_CTRL_src_sec = 0 ∨ m.fld TIME_CTRL_src_sec ≠ m.fld TIME_CTRL_src_pri)
        ∧ (m.fld TIME_CTRL_src_pri = 3 ∨ m.fld TIME_CTRL_src_sec = 3 → m.fld TIME_IRIG_en = 1)
        ∧ m.fld TIME_LOCK_thr < m.fld TIME_STEP_thr * 1000 ∧ m.fld TIME_HOLD_entry < m.fld TIME_HOLD_limit * 1000 := by
  simp only [checkTime, Gen.on, Bool.and_eq_true, Bool.or_eq_true, Bool.not_eq_true', Bool.or_eq_false_iff, beq_iff_eq,
    beq_eq_false_iff_ne, bne_iff_ne, decide_eq_true_eq, and_assoc]
  exact and_congr Iff.rfl (and_congr (by rw [imp_iff_not_or, not_or]; exact Iff.rfl) Iff.rfl)

/-- Settles O37: the check of each page asks its relations. -/
theorem paceAndTimeCommitsAreChecked : Obligations.PaceAndTimeCommitsAreChecked := by
  refine ⟨?pace, ?time⟩
  case pace =>
    refine commitChecked_of rfl rfl (by decide) (fun m h => if_pos ((checkPace_iff m).mpr h))
      (fun m h => if_neg fun hc => h ((checkPace_iff m).mp hc)) fun m k h => ?_
    rw [sameSettings_fld h PACE_SHED_level 0 rfl, sameSettings_fld h PACE_WARN_level 0 rfl, sameSettings_fld h PACE_SHED_hys 0 rfl,
      sameSettings_fld h PACE_GLITCH_level 0 rfl]
  case time =>
    refine commitChecked_of rfl rfl (by decide) (fun m h => if_pos ((checkTime_iff m).mpr h))
      (fun m h => if_neg fun hc => h ((checkTime_iff m).mp hc)) fun m k h => ?_
    rw [sameSettings_fld h TIME_CTRL_src_sec 0 rfl, sameSettings_fld h TIME_CTRL_src_pri 0 rfl, sameSettings_fld h TIME_IRIG_en 0 rfl,
      sameSettings_fld h TIME_LOCK_thr 0 rfl, sameSettings_fld h TIME_STEP_thr 0 rfl, sameSettings_fld h TIME_HOLD_entry 0 rfl,
      sameSettings_fld h TIME_HOLD_limit 0 rfl]

end Sys2Proof.Machine


/-! # Pulse inputs -/

namespace Sys2Proof.Machine

/-! ### The state of an input -/

theorem plsPin_onPin (m : Mach) (p : Nat) (f : Pin → Pin) : plsPin (m.onPin p f) p = f (plsPin m p) := by
  simp [plsPin, Mach.onPin]

theorem plsPin_of_pls {a b : Mach} (h : b.pls = a.pls) (p : Nat) : plsPin b p = plsPin a p := by
  simp only [plsPin, h]

/-- An event of PLS shows its bit and leaves the inputs, the timers, and the fields beside PAGE_EVT. -/
theorem plsEvent_shows (m : Mach) (b : Nat) (a : Attr) (hb : b < 32) : (m.event 0x0F b a).evt 0x0F b = true
    ∧ (m.event 0x0F b a).pls = m.pls ∧ (m.event 0x0F b a).timers = m.timers
    ∧ ∀ (f : Fd) (i : Nat), Fd.noEvt 0x0F f = true → (m.event 0x0F b a).fld f i = m.fld f i :=
  ⟨evt_event m 0x0F b a (by simp [hb]), Mach.event_pls _ _ _ _ (by decide), Mach.event_timers _ _ _ _ (by decide),
    fun f i h => fld_event m 0x0F b a f i h⟩

theorem deadline_of_timers {a b : Mach} (h : b.timers = a.timers) (u : Timer) : b.deadline u = a.deadline u := by
  simp only [Mach.deadline, h]

/-! ### An edge (R367 step 1) -/

/-- The module with the raw level of an input changed. -/
def Mach.rawChanged (m : Mach) (p : Nat) (level : Bool) : Mach := m.onPin p fun b => { b with raw := level, rawAt := m.now }

theorem rawChanged_pin (m : Mach) (p : Nat) (level : Bool) :
    plsPin (m.rawChanged p level) p = { plsPin m p with raw := level, rawAt := m.now } := plsPin_onPin ..

theorem plsEdge_same {m : Mach} {p : Nat} {level : Bool} (h : (plsPin m p).raw = level) : m.plsEdge p level = m := if_pos h

/-- An edge of a disabled input. -/
theorem plsEdge_disabled {m : Mach} {p : Nat} {level : Bool} (h : (plsPin m p).raw ≠ level) (hen : m.on PLS_CFG_en p = false) :
    m.plsEdge p level = m.rawChanged p level :=
  (if_neg h).trans (if_pos (by show (!m.on PLS_CFG_en p) = true; rw [hen]; rfl))

/-- An edge away from the debounced level of an enabled input. -/
theorem plsEdge_leaves {m : Mach} {p : Nat} {level : Bool} (h : (plsPin m p).raw ≠ level) (hen : m.on PLS_CFG_en p = true)
    (hlevel : plsActive m p level ≠ m.flag PLS_STS_level p) :
    m.plsEdge p level = (m.rawChanged p level).arm (.debounce p) (m.now + plsDebounce m p) :=
  (if_neg h).trans ((if_neg (by show ¬ (!m.on PLS_CFG_en p) = true; rw [hen]; decide)).trans (if_neg hlevel))

/-- An edge back to the debounced level of an enabled input with no pulse under way. -/
theorem plsEdge_returns {m : Mach} {p : Nat} {level : Bool} (h : (plsPin m p).raw ≠ level) (hen : m.on PLS_CFG_en p = true)
    (hlevel : plsActive m p level = m.flag PLS_STS_level p) (hstarted : (plsPin m p).started = none) :
    m.plsEdge p level = (m.rawChanged p level).disarm (.debounce p) := by
  have hpin : (plsPin ((m.rawChanged p level).disarm (.debounce p)) p).started = none :=
    (congrArg Pin.started (rawChanged_pin m p level)).trans hstarted
  refine (if_neg h).trans ((if_neg (by show ¬ (!m.on PLS_CFG_en p) = true; rw [hen]; decide)).trans ((if_pos hlevel).trans ?_))
  change (match (plsPin ((m.rawChanged p level).disarm (.debounce p)) p).started with
    | some s => _
    | none => (m.rawChanged p level).disarm (.debounce p)) = _
  rw [hpin]

/-! ### A pulse that qualifies (R367 steps 3, 4) -/

/-- The module with no pulse of an input under way. -/
def Mach.pulseEnded (m : Mach) (p : Nat) : Mach := (m.onPin p fun b => { b with started := none }).disarm (.minWidth p)

theorem pulseEnded_pin (m : Mach) (p : Nat) : plsPin (m.pulseEnded p) p = { plsPin m p with started := none } :=
  plsPin_onPin m p fun b => { b with started := none }

theorem pulseEnded_fld (m : Mach) (p : Nat) (f : Fd) (i : Nat) : (m.pulseEnded p).fld f i = m.fld f i := fld_of_regs rfl f i

/-- The input is no longer stalled. -/
def Mach.unstall (m : Mach) (p : Nat) : Mach :=
  if m.flag PLS_STS_stalled p then (m.setFlag PLS_STS_stalled p false).event 0x0F 1 (.item p) else m

/-- The module once a pulse that began at `s` is counted. -/
def Mach.pulseTaken (m : Mach) (p s : Nat) : Mach :=
  (((m.pulseEnded p).onPin p fun b => { b with count := (b.count + 1) % 2 ^ 32, lastAt := some s }).setFld PLS_LAST_tag p (tagOf s).toNat).unstall p

theorem plsQualify_rejected {m : Mach} {p s : Nat} (hs : (plsPin m p).started = some s)
    (hsoon : ∃ l, (plsPin m p).lastAt = some l ∧ s < l + m.cfg PLS_LIM_min_int p * 1000000) :
    m.plsQualify p = ((m.pulseEnded p).count PLS_RATE_REJ_n).event 0x0F 2 (.item p) := by
  obtain ⟨l, hlast, hlt⟩ := hsoon
  unfold Mach.plsQualify
  dsimp only
  rw [hs, hlast]
  exact if_pos (decide_eq_true hlt)

theorem plsQualify_counted {m : Mach} {p s : Nat} (hs : (plsPin m p).started = some s)
    (hlate : ∀ l, (plsPin m p).lastAt = some l → l + m.cfg PLS_LIM_min_int p * 1000000 ≤ s) :
    ∃ v, m.plsQualify p = ((m.pulseTaken p s).armStall p).sendCount 33 v := by
  unfold Mach.plsQualify
  dsimp only
  rw [hs]
  refine ⟨_, if_neg ?_⟩
  cases hlast : (plsPin m p).lastAt with
  | none => exact Bool.false_ne_true
  | some l =>
    refine fun h => absurd (of_decide_eq_true h) (Nat.not_lt.mpr ?_)
    exact hlate l hlast

theorem unstall_shows (m : Mach) (p : Nat) : (m.unstall p).flag PLS_STS_stalled p = false ∧ (m.unstall p).pls = m.pls
    ∧ (m.unstall p).now = m.now ∧ (m.unstall p).force = m.force
    ∧ ∀ (f : Fd) (i : Nat), (Fd.noEvt 0x0F f && Fd.clear PLS_STS_stalled f) = true → (m.unstall p).fld f i = m.fld f i := by
  unfold Mach.unstall
  split
  case isTrue =>
    obtain ⟨-, hpls, -, hfld⟩ := plsEvent_shows (m.setFlag PLS_STS_stalled p false) 1 (.item p) (by decide)
    refine ⟨?_, hpls, Mach.event_now _ _ _ _ (by decide), Mach.event_force _ _ _ _ (by decide), fun f i h => ?_⟩
    · have hflag := flag_set m PLS_STS_stalled p false rfl
      unfold Mach.flag at hflag ⊢
      rw [hfld _ _ rfl, hflag]
    · simp only [Bool.and_eq_true] at h
      rw [hfld f i h.1, fld_flag_clear _ _ _ _ _ _ h.2]
  case isFalse h => exact ⟨Bool.eq_false_iff.mpr h, rfl, rfl, rfl, fun _ _ _ => rfl⟩

theorem armStall_shows (m : Mach) (p : Nat) : (m.armStall p).regs = m.regs ∧ (m.armStall p).pls = m.pls ∧ (m.armStall p).now = m.now
    ∧ (m.armStall p).deadline (.stall p) = if m.cfg PLS_LIM_stall p = 0 then none else some (m.now + m.cfg PLS_LIM_stall p * 1000000000) := by
  unfold Mach.armStall
  split
  · exact ⟨rfl, rfl, rfl, deadline_disarm_same ..⟩
  · exact ⟨rfl, rfl, rfl, deadline_arm_same ..⟩

/-- A pulse that is counted. -/
theorem pulseTaken_shows (m : Mach) (p s : Nat) : plsPin (m.pulseTaken p s) p
      = { plsPin m p with started := none, count := ((plsPin m p).count + 1) % 2 ^ 32, lastAt := some s }
    ∧ (m.pulseTaken p s).fld PLS_LAST_tag p = (tagOf s).toNat ∧ (m.pulseTaken p s).flag PLS_STS_stalled p = false
    ∧ (m.pulseTaken p s).force = m.force ∧ (m.pulseTaken p s).flag PLS_STS_level p = m.flag PLS_STS_level p := by
  unfold Mach.pulseTaken
  obtain ⟨hstalled, hpls, -, hforce, hfld⟩ := unstall_shows
    (((m.pulseEnded p).onPin p fun b => { b with count := (b.count + 1) % 2 ^ 32, lastAt := some s }).setFld PLS_LAST_tag p (tagOf s).toNat) p
  refine ⟨?_, ?_, hstalled, hforce, ?_⟩
  · rw [plsPin_of_pls (hpls.trans (Mach.setFld_pls ..)), plsPin_onPin, pulseEnded_pin]
  · rw [hfld _ _ rfl, fld_set _ _ _ _ rfl]
    exact Nat.mod_eq_of_lt (tagOf s).isLt
  · unfold Mach.flag
    rw [hfld _ _ rfl, fld_set_clear _ _ _ _ _ _ rfl, fld_onPin, pulseEnded_fld]

/-- A pulse that qualifies is counted or turned away, and the debounced level stays. -/
theorem plsQualify_shows {m : Mach} {p s : Nat} (hs : (plsPin m p).started = some s) :
    m.pulseQualifies (m.plsQualify p) p s ∧ (m.plsQualify p).flag PLS_STS_level p = m.flag PLS_STS_level p := by
  have hrejected : (∃ l, (plsPin m p).lastAt = some l ∧ s < l + m.cfg PLS_LIM_min_int p * 1000000) →
      m.pulseRejected (m.plsQualify p) p ∧ (m.plsQualify p).flag PLS_STS_level p = m.flag PLS_STS_level p := by
    intro hsoon
    obtain ⟨hevt, hpls, -, hfld⟩ := plsEvent_shows ((m.pulseEnded p).count PLS_RATE_REJ_n) 2 (.item p) (by decide)
    rw [plsQualify_rejected hs hsoon]
    have hpin := (plsPin_of_pls (hpls.trans (Mach.count_pls ..)) p).trans (pulseEnded_pin m p)
    refine ⟨⟨by rw [hpin], by rw [hpin], by rw [hpin], ?_, hevt⟩, ?_⟩
    · rw [hfld _ _ rfl, fld_count _ _ _ _ rfl, pulseEnded_fld]
      rfl
    · unfold Mach.flag
      rw [hfld _ _ rfl, fld_count_clear _ _ _ _ _ _ rfl, pulseEnded_fld]
  have hcounted : (∀ l, (plsPin m p).lastAt = some l → l + m.cfg PLS_LIM_min_int p * 1000000 ≤ s) →
      m.pulseCounted (m.plsQualify p) p s ∧ (m.plsQualify p).flag PLS_STS_level p = m.flag PLS_STS_level p := by
    intro hlate
    obtain ⟨v, hqualify⟩ := plsQualify_counted hs hlate
    obtain ⟨hpin, htag, hstalled, hforce, hlevel⟩ := pulseTaken_shows m p s
    obtain ⟨hregs, hpls, hnow, hstall⟩ := armStall_shows (m.pulseTaken p s) p
    have hsent := Mach.sendCount_touch ((m.pulseTaken p s).armStall p) 33 v
    have hfld := fun f i => fld_of_regs ((regs_of_touch hsent rfl).trans hregs) f i
    have hpin' := (plsPin_of_pls ((pls_of_touch hsent rfl).trans hpls) p).trans hpin
    rw [cfg_of_force hforce] at hstall
    unfold Mach.pulseCounted Mach.flag at *
    rw [hqualify, hpin', hfld, hfld, hfld, deadline_of_timers (timers_of_touch hsent rfl), hstall, now_of_touch hsent rfl, hnow]
    exact ⟨⟨rfl, rfl, rfl, htag, hstalled, rfl⟩, hlevel⟩
  refine ⟨⟨fun h => (hrejected h).1, fun h => (hcounted h).1⟩, ?_⟩
  by_cases hsoon : ∃ l, (plsPin m p).lastAt = some l ∧ s < l + m.cfg PLS_LIM_min_int p * 1000000
  · exact (hrejected hsoon).2
  · exact (hcounted fun l hl => Nat.not_lt.mp fun hlt => hsoon ⟨l, hl, hlt⟩).2

/-- Whether a pulse qualifies depends on its input's count, its limits and the count of rejections alone. -/
theorem pulseQualifies_of {m k m' : Mach} {p s : Nat} (h : k.pulseQualifies m' p s) (hcount : (plsPin k p).count = (plsPin m p).count)
    (hlast : (plsPin k p).lastAt = (plsPin m p).lastAt) (hforce : k.force = m.force) (hrej : k.fld PLS_RATE_REJ_n = m.fld PLS_RATE_REJ_n) :
    m.pulseQualifies m' p s := by
  unfold Mach.pulseQualifies Mach.pulseRejected Mach.pulseCounted at h ⊢
  rw [hcount, hlast, hrej, cfg_of_force hforce, cfg_of_force hforce] at h
  exact h

/-! ### The end of debounce (R367 steps 1, 2) -/

/-- The module with the debounced level of an input. -/
def Mach.levelTaken (m : Mach) (p : Nat) : Mach := m.setFlag PLS_STS_level p (plsActive m p (plsPin m p).raw)

/-- The debounced level is the one the raw level gives. -/
theorem levelTaken_flag (m : Mach) (p : Nat) : (m.levelTaken p).flag PLS_STS_level p = plsActive m p (plsPin m p).raw :=
  flag_set _ _ _ _ rfl

/-- The module with an input released: it is no longer blocked. -/
def Mach.released (m : Mach) (p : Nat) : Mach := (m.levelTaken p).onPin p fun b => { b with blocked := false }

theorem released_shows (m : Mach) (p : Nat) : plsPin (m.released p) p = { plsPin m p with blocked := false }
    ∧ (m.released p).flag PLS_STS_level p = plsActive m p (plsPin m p).raw
    ∧ ∀ (f : Fd) (i : Nat), Fd.clear PLS_STS_level f = true → (m.released p).fld f i = m.fld f i := by
  refine ⟨plsPin_onPin .., ?_, fun f i h => ?_⟩
  · unfold Mach.released Mach.flag
    rw [fld_onPin]
    exact levelTaken_flag m p
  · unfold Mach.released
    rw [fld_onPin]
    exact fld_flag_clear _ _ _ _ _ _ h

/-- An active level of an input that is not blocked begins a pulse. -/
theorem plsAccept_begins {m : Mach} {p : Nat} (hact : plsActive m p (plsPin m p).raw = true) (hfree : (plsPin m p).blocked = false) :
    m.plsAccept p = ((m.levelTaken p).onPin p fun b => { b with started := some b.rawAt }).arm (.minWidth p)
      (max m.now ((plsPin m p).rawAt + plsWidth m p)) :=
  (if_pos hact).trans (if_neg (by rw [hfree]; decide))

theorem plsAccept_blocked {m : Mach} {p : Nat} (hact : plsActive m p (plsPin m p).raw = true) (hblocked : (plsPin m p).blocked = true) :
    m.plsAccept p = m.levelTaken p := (if_pos hact).trans (if_pos hblocked)

theorem plsAccept_idle {m : Mach} {p : Nat} (hact : plsActive m p (plsPin m p).raw = false) (hstarted : (plsPin m p).started = none) :
    m.plsAccept p = m.released p := by
  unfold Mach.plsAccept
  dsimp only
  rw [if_neg (by rw [hact]; decide), hstarted]
  rfl

/-- The end of a pulse that was too short. -/
theorem plsAccept_short {m : Mach} {p a : Nat} (hact : plsActive m p (plsPin m p).raw = false) (hstarted : (plsPin m p).started = some a)
    (hshort : (plsPin m p).rawAt < a + plsWidth m p) :
    m.plsAccept p = (((m.released p).pulseEnded p).count PLS_SHORT_n).event 0x0F 3 (.item p) := by
  unfold Mach.plsAccept
  dsimp only
  rw [if_neg (by rw [hact]; decide), hstarted]
  exact if_neg (Nat.not_le.mpr hshort)

/-- The end of a pulse that was wide enough. -/
theorem plsAccept_wide {m : Mach} {p a : Nat} (hact : plsActive m p (plsPin m p).raw = false) (hstarted : (plsPin m p).started = some a)
    (hwide : a + plsWidth m p ≤ (plsPin m p).rawAt) : m.plsAccept p = (m.released p).plsQualify p := by
  unfold Mach.plsAccept
  dsimp only
  rw [if_neg (by rw [hact]; decide), hstarted]
  exact if_pos hwide

/-! ### PLS_LATCH (R368) -/

/-- A latch of an input, and a count of one, share no bit. -/
theorem latched_apart : ∀ p < 32, (Fd.fit (PLS_L_CNT_n.nth p) && Fd.clear (PLS_L_CNT_n.nth p) PLS_CNT_n
    && Fd.clear (PLS_L_CNT_n.nth p) PLS_L_TAG_tag && (PLS_L_CNT_n.nth p).off == 0x080 + 4 * p) = true := by decide

/-- The latches of the inputs below `n` hold the counts. -/
theorem latches_show (m : Mach) {n : Nat} (hn : n ≤ 32) :
    let y := m.each (List.range n) fun p m => m.setFld (PLS_L_CNT_n.nth p) 0 (m.fld PLS_CNT_n p)
    (∀ p, y.fld PLS_CNT_n p = m.fld PLS_CNT_n p) ∧ y.fld PLS_L_TAG_tag = m.fld PLS_L_TAG_tag ∧ y.pls = m.pls
      ∧ ∀ p < n, y.fld (PLS_L_CNT_n.nth p) = m.fld PLS_CNT_n p := by
  induction n with
  | zero => exact ⟨fun _ => rfl, rfl, rfl, fun p hp => absurd hp (Nat.not_lt_zero p)⟩
  | succ n ih =>
    obtain ⟨hcnt, htag, hpls, hlatch⟩ := ih (by omega)
    have hlast : (m.each (List.range (n + 1)) fun p m => m.setFld (PLS_L_CNT_n.nth p) 0 (m.fld PLS_CNT_n p))
        = (m.each (List.range n) fun p m => m.setFld (PLS_L_CNT_n.nth p) 0 (m.fld PLS_CNT_n p)).setFld (PLS_L_CNT_n.nth n) 0
          ((m.each (List.range n) fun p m => m.setFld (PLS_L_CNT_n.nth p) 0 (m.fld PLS_CNT_n p)).fld PLS_CNT_n n) := by
      unfold Mach.each
      rw [List.range_succ, List.foldl_append]
      rfl
    have hn' := latched_apart n (by omega)
    simp only [Bool.and_eq_true, beq_iff_eq] at hn'
    obtain ⟨⟨⟨hfit, hclear⟩, hcleartag⟩, hoff⟩ := hn'
    dsimp only
    rw [hlast]
    refine ⟨fun p => ?_, ?_, hpls, fun p hp => ?_⟩
    · rw [fld_set_clear _ _ _ _ _ _ hclear, hcnt]
    · rw [fld_set_clear _ _ _ _ _ _ hcleartag, htag]
    · rcases Nat.lt_succ_iff_lt_or_eq.mp hp with hlt | rfl
      · have hp' := latched_apart p (by omega)
        simp only [Bool.and_eq_true, beq_iff_eq] at hp'
        obtain ⟨⟨⟨hfitp, -⟩, -⟩, hoffp⟩ := hp'
        rw [fld_setFld_apart _ _ _ _ _ _ (Fd.fits_of_fit hfit) (Fd.fits_of_fit hfitp) (.inr (.inl (by omega))), hlatch p hlt]
      · rw [fld_set _ _ _ _ hfit, hcnt]
        exact Nat.mod_eq_of_lt (fld_lt m PLS_CNT_n p)

theorem plsLatchAll_shows (m : Mach) : m.plsLatchAll.fld PLS_L_TAG_tag = m.pls.capTag.toNat ∧ m.plsLatchAll.pls = m.pls
    ∧ ∀ p < 32, m.plsLatchAll.fld (PLS_L_CNT_n.nth p) = m.fld PLS_CNT_n p ∧ m.plsLatchAll.fld PLS_CNT_n p = m.fld PLS_CNT_n p := by
  obtain ⟨hcnt, htag, hpls, hlatch⟩ := latches_show (m.setFld PLS_L_TAG_tag 0 m.pls.capTag.toNat) (n := 32) (le_refl _)
  have hkept : ∀ p, (m.setFld PLS_L_TAG_tag 0 m.pls.capTag.toNat).fld PLS_CNT_n p = m.fld PLS_CNT_n p :=
    fun p => fld_set_clear _ _ _ _ _ _ rfl
  have htag' : (m.setFld PLS_L_TAG_tag 0 m.pls.capTag.toNat).fld PLS_L_TAG_tag = m.pls.capTag.toNat :=
    (fld_set _ _ _ _ rfl).trans (Nat.mod_eq_of_lt m.pls.capTag.isLt)
  exact ⟨htag.trans htag', hpls, fun p hp => ⟨(hlatch p hp).trans (hkept p), (hcnt p).trans (hkept p)⟩⟩

/-- Settles O45: the edges, the ends of debounce, width and stall, and the latch, each by its cases. -/
theorem pulseInputsCount : Obligations.PulseInputsCount := by
  refine ⟨?same, ?disabled, ?leaves, ?returns, ?begins, ?blocked, ?idle, ?short, ?wide, ?minWidth, ?tooEarly, ?stall, ?latch⟩
  case same =>
    intro s t p level hpow hraw
    exact completes_run (f := fun m => m.plsEdge p level) rfl hpow (plsEdge_same (m := s.m.advance t) hraw)
  case disabled =>
    intro s t p level hpow hraw hen
    refine completes_run (f := fun m => m.plsEdge p level) rfl hpow ?_
    rw [plsEdge_disabled (m := s.m.advance t) hraw hen]
    exact ⟨rawChanged_pin .., rfl, rfl⟩
  case leaves =>
    intro s t p level hpow hraw hen hlevel
    refine completes_run (f := fun m => m.plsEdge p level) rfl hpow ?_
    rw [plsEdge_leaves (m := s.m.advance t) hraw hen hlevel]
    exact ⟨rawChanged_pin .., rfl, deadline_arm_same ..⟩
  case returns =>
    intro s t p level hpow hraw hen hlevel hstarted
    refine completes_run (f := fun m => m.plsEdge p level) rfl hpow ?_
    rw [plsEdge_returns (m := s.m.advance t) hraw hen hlevel hstarted]
    exact ⟨rawChanged_pin .., rfl, deadline_disarm_same ..⟩
  case begins =>
    intro s t p hfires hact hfree
    refine completes_fires (f := fun m => m.plsAccept p) rfl hfires ?_
    rw [plsAccept_begins (m := (s.m.advance t).disarm (.debounce p)) hact hfree]
    refine ⟨?_, plsPin_onPin (((s.m.advance t).disarm (.debounce p)).levelTaken p) p fun b => { b with started := some b.rawAt },
      deadline_arm_same ..⟩
    unfold Mach.flag
    rw [fld_arm, fld_onPin]
    exact (levelTaken_flag _ _).trans hact
  case blocked =>
    intro s t p hfires hact hblocked
    refine completes_fires (f := fun m => m.plsAccept p) rfl hfires ?_
    rw [plsAccept_blocked (m := (s.m.advance t).disarm (.debounce p)) hact hblocked]
    exact ⟨(levelTaken_flag _ _).trans hact, rfl⟩
  case idle =>
    intro s t p hfires hact hstarted
    refine completes_fires (f := fun m => m.plsAccept p) rfl hfires ?_
    rw [plsAccept_idle (m := (s.m.advance t).disarm (.debounce p)) hact hstarted]
    obtain ⟨hpin, hlevel, -⟩ := released_shows ((s.m.advance t).disarm (.debounce p)) p
    exact ⟨hlevel.trans hact, hpin⟩
  case short =>
    intro s t p a hfires hact hstarted hshort
    refine completes_fires (f := fun m => m.plsAccept p) rfl hfires ?_
    rw [plsAccept_short (m := (s.m.advance t).disarm (.debounce p)) hact hstarted hshort]
    obtain ⟨hpin, hlevel, hkept⟩ := released_shows ((s.m.advance t).disarm (.debounce p)) p
    generalize hz : ((s.m.advance t).disarm (.debounce p)).released p = z at hpin hlevel hkept
    obtain ⟨hevt, hpls, htimers, hfld⟩ := plsEvent_shows ((z.pulseEnded p).count PLS_SHORT_n) 3 (.item p) (by decide)
    refine ⟨?_, ?_, ?_, hevt, ?_⟩
    · unfold Mach.flag at hlevel ⊢
      rw [hfld _ _ rfl, fld_count_clear _ _ _ _ _ _ rfl, pulseEnded_fld, hlevel]
      exact hact
    · rw [plsPin_of_pls (hpls.trans (Mach.count_pls ..)), pulseEnded_pin, hpin]
      rfl
    · rw [hfld _ _ rfl, fld_count _ _ _ _ rfl, pulseEnded_fld, hkept _ _ rfl]
      rfl
    · rw [deadline_of_timers (htimers.trans (Mach.count_timers ..))]
      exact deadline_disarm_same ..
  case wide =>
    intro s t p a hfires hact hstarted hwide
    refine completes_fires (f := fun m => m.plsAccept p) rfl hfires ?_
    rw [plsAccept_wide (m := (s.m.advance t).disarm (.debounce p)) hact hstarted hwide]
    obtain ⟨hpin, hlevel, hkept⟩ := released_shows ((s.m.advance t).disarm (.debounce p)) p
    obtain ⟨hqualifies, hstays⟩ := plsQualify_shows ((congrArg Pin.started hpin).trans hstarted)
    exact ⟨hstays.trans (hlevel.trans hact), pulseQualifies_of hqualifies (by rw [hpin]; rfl) (by rw [hpin]; rfl) rfl (hkept _ _ rfl)⟩
  case minWidth =>
    intro s t p a hfires hact hstarted
    refine completes_fires (f := fun m => m.plsWide p) rfl hfires ?_
    have hwide : ((s.m.advance t).disarm (.minWidth p)).plsWide p = ((s.m.advance t).disarm (.minWidth p)).plsQualify p := if_pos hact
    rw [hwide]
    exact pulseQualifies_of (plsQualify_shows (m := (s.m.advance t).disarm (.minWidth p)) hstarted).1 rfl rfl rfl rfl
  case tooEarly =>
    intro s t p hfires hact
    refine completes_fires (f := fun m => m.plsWide p) rfl hfires ?_
    have hnot : ((s.m.advance t).disarm (.minWidth p)).plsWide p = (s.m.advance t).disarm (.minWidth p) :=
      if_neg (by show ¬ ((plsPin s.m p).raw != s.m.on PLS_CFG_pol p) = true; rw [hact]; decide)
    rw [hnot]
    exact ⟨rfl, rfl⟩
  case stall =>
    intro s t p hfires
    refine completes_fires (f := fun m => m.plsStall p) rfl hfires ?_
    obtain ⟨hevt, hpls, -, hfld⟩ := plsEvent_shows
      ((((s.m.advance t).disarm (.stall p)).setFlag PLS_STS_stalled p true).count PLS_STALLS_n) 0 (.item p) (by decide)
    unfold Mach.plsStall
    refine ⟨?_, ?_, hevt, hpls⟩
    · unfold Mach.flag
      rw [hfld _ _ rfl, fld_count_clear _ _ _ _ _ _ rfl]
      exact flag_set _ PLS_STS_stalled p true rfl
    · rw [hfld _ _ rfl, fld_count _ _ _ _ rfl, fld_flag_clear _ _ _ _ _ _ rfl]
      rfl
  case latch =>
    intro s t src hpow hsrc
    refine completes_put (page := 0x0F) (off := 0x058) (v := 1) rfl hpow hsrc (by decide) fun k i hk _ => ?_
    have haudit := Mach.auditWrite_touch k.plsLatchAll 0x0F src 0x058 (word 1)
    have hfld : ∀ f : Fd, f.page = 0x0F → f.off < 4096 → (k.plsLatchAll.auditWrite 0x0F src 0x058 (word 1)).fld f = k.plsLatchAll.fld f :=
      fun f hp ho => fld_touch haudit f 0 (by simp [hp, ho])
    have hcnt : ∀ p, k.fld PLS_CNT_n p = s.m.fld PLS_CNT_n p := fun p => alike_fld hk _ _ (by decide) (by decide)
    have hpls : k.pls = s.m.pls := by rw [hk.1]; rfl
    obtain ⟨htag, hkept, hlatch⟩ := plsLatchAll_shows k
    refine ⟨?_, (pls_of_touch haudit rfl).trans (hkept.trans hpls), fun p hp => ?_⟩
    · rw [← hpls]
      exact (hfld _ rfl (by decide)).trans htag
    · obtain ⟨hl, hc⟩ := hlatch p hp
      have hcount : (k.plsLatchAll.auditWrite 0x0F src 0x058 (word 1)).fld PLS_CNT_n p = k.plsLatchAll.fld PLS_CNT_n p :=
        fld_touch haudit _ _ rfl
      rw [← hcnt]
      exact ⟨(hfld _ rfl (Nat.mod_lt _ (by decide))).trans hl, hcount.trans hc⟩

end Sys2Proof.Machine


/-! # Frames at a port -/

namespace Sys2Proof.Machine

/-! ### The fields of a port's page -/

theorem fit_onPort {f : Fd} (e : Nat) (h : Fd.fit f = true) : Fd.fit (f.onPort e) = true := by
  simp only [Fd.fit, Bool.and_eq_true, decide_eq_true_eq] at h ⊢
  obtain ⟨⟨⟨hle, hhi⟩, -⟩, hoff⟩ := h
  exact ⟨⟨⟨hle, hhi⟩, macPage_lt e⟩, hoff⟩

/-- Fields apart in one page are apart on the page of a port. -/
theorem clear_onPort {f g : Fd} (e : Nat) (h : (Fd.clear f g && f.page == g.page) = true) :
    Fd.clear (f.onPort e) (g.onPort e) = true := by
  simp only [Fd.clear, Bool.and_eq_true, Bool.or_eq_true, bne_iff_ne, beq_iff_eq, decide_eq_true_eq] at h ⊢
  obtain ⟨⟨⟨hf, hg⟩, hapart⟩, hpage⟩ := h
  exact ⟨⟨fit_onPort e hf, fit_onPort e hg⟩, hapart.imp_left fun h => h.imp_left fun h => .inr (h.resolve_left (not_not_intro hpage))⟩

/-- A field other than PAGE_EVT of a port's page is clear of the port's events. -/
theorem noEvt_onPort {f : Fd} (e : Nat) (h : (Fd.fit f && f.off != 0x014) = true) : Fd.noEvt (macPage e) (f.onPort e) = true := by
  simp only [Bool.and_eq_true, bne_iff_ne] at h
  have hfit := fit_onPort e h.1
  have hoff : (f.onPort e).off ≠ 0x014 := h.2
  have hpage : (f.onPort e).page ≠ 7 := by show macPage e ≠ 7; unfold macPage; omega
  simp [Fd.noEvt, hfit, macPage_lt e, hoff, hpage]

theorem evt_port {m : Mach} (e b : Nat) (hb : b < 32) (a : Attr) : (m.event (macPage e) b a).evt (macPage e) b = true :=
  evt_event m _ b a (by simp [macPage_lt e, hb])

/-- PAGE_EVT of a port's page is clear of its other fields. -/
theorem clear_portEvt {f : Fd} (e : Nat) (h : (Fd.fit f && f.off != 0x014) = true) : Fd.clear (f.onPort e) (hEvt (macPage e)) = true := by
  simp only [Bool.and_eq_true, bne_iff_ne] at h
  have hevt : Fd.fit (hEvt (macPage e)) = true := by simp [Fd.fit, hEvt, macPage_lt e]
  have hfit := fit_onPort e h.1
  have hoff : (f.onPort e).off ≠ (hEvt (macPage e)).off := h.2
  simp [Fd.clear, hfit, hevt, hoff]

/-- A counter of R317 is apart from the octet counters and the state of its port, and from PAGE_EVT. -/
theorem counter_apart : ∀ n < 26, (Fd.fit (MAC_CNT_n.nth n) && (MAC_CNT_n.nth n).off != 0x014 && (MAC_CNT_n.nth n).page == 0x20
    && Fd.clear MAC_RX_OCT_LO_w (MAC_CNT_n.nth n) && Fd.clear MAC_RX_OCT_HI_w (MAC_CNT_n.nth n)
    && Fd.clear MAC_TX_OCT_LO_w (MAC_CNT_n.nth n) && Fd.clear MAC_TX_OCT_HI_w (MAC_CNT_n.nth n)
    && Fd.clear MAC_STS_paused (MAC_CNT_n.nth n) && Fd.clear (MAC_CNT_n.nth n) MAC_STS_link
    && Fd.clear (MAC_CNT_n.nth n) MAC_STS_speed) = true := by decide

theorem fit_macCnt (e : Nat) {n : Nat} (hn : n < 26) : Fd.fit (macCnt e n) = true := by
  have h := counter_apart n hn
  simp only [Bool.and_eq_true] at h
  obtain ⟨⟨⟨⟨⟨⟨⟨⟨⟨hfit, -⟩, -⟩, -⟩, -⟩, -⟩, -⟩, -⟩, -⟩, -⟩ := h
  exact fit_onPort e hfit

theorem noEvt_macCnt (e : Nat) {n : Nat} (hn : n < 26) : Fd.noEvt (macPage e) (macCnt e n) = true := by
  have h := counter_apart n hn
  simp only [Bool.and_eq_true] at h
  obtain ⟨⟨⟨⟨⟨⟨⟨⟨⟨hfit, hoff⟩, -⟩, -⟩, -⟩, -⟩, -⟩, -⟩, -⟩, -⟩ := h
  exact noEvt_onPort e (by rw [hfit, hoff]; rfl)

/-- A counter of R317 advanced by one. -/
theorem fld_macCnt (m : Mach) (e k : Nat) {n : Nat} (hn : n < 26) :
    (m.count (macCnt e n) 0 k).fld (macCnt e n) = (m.fld (macCnt e n) + k) % 2 ^ 32 := fld_count m _ 0 k (fit_macCnt e hn)

/-! ### The state of a port -/

theorem port_onPort (m : Mach) (e : Nat) (f : Port → Port) : (m.onPort e f).port e = f (m.port e) := by
  simp [Mach.port, Mach.onPort]

theorem port_of_ports {a b : Mach} (h : b.ports = a.ports) (e : Nat) : b.port e = a.port e := by
  simp only [Mach.port, h]

theorem fld_count64_clear (m : Mach) {lo hi f : Fd} (n : Nat) (hlo : Fd.clear lo f = true) (hhi : Fd.clear hi f = true) :
    (m.count64 lo hi 0 n).fld f = m.fld f := by
  unfold Mach.count64
  rw [fld_set_clear _ _ _ _ _ _ hhi, fld_set_clear _ _ _ _ _ _ hlo]

/-! ### Frames received (R295) -/

/-- A frame whose octets are counted and whose beats have entered the receive crossing (R86, R295). -/
def Mach.received (m : Mach) (e : Nat) (fr : Frame) : Mach :=
  (m.count64 (MAC_RX_OCT_LO_w.onPort e) (MAC_RX_OCT_HI_w.onPort e) 0 fr.len).sendBeats (12 + e) (beatsOf fr.len)

theorem received_fld (m : Mach) (e : Nat) (fr : Frame) {f : Fd}
    (h : (Fd.clear MAC_RX_OCT_LO_w f && Fd.clear MAC_RX_OCT_HI_w f && f.page == 0x20) = true) :
    (m.received e fr).fld (f.onPort e) = m.fld (f.onPort e) := by
  simp only [Bool.and_eq_true, beq_iff_eq] at h
  obtain ⟨⟨hlo, hhi⟩, hpage⟩ := h
  unfold Mach.received Mach.sendBeats
  rw [fld_onCrossing]
  exact fld_count64_clear m _ (clear_onPort e (by rw [hlo, hpage]; rfl)) (clear_onPort e (by rw [hhi, hpage]; rfl))

theorem received_macCnt (m : Mach) (e : Nat) (fr : Frame) {n : Nat} (hn : n < 26) :
    (m.received e fr).fld (macCnt e n) = m.fld (macCnt e n) := by
  have h := counter_apart n hn
  simp only [Bool.and_eq_true] at h
  obtain ⟨⟨⟨⟨⟨⟨⟨⟨-, hpage⟩, hlo⟩, hhi⟩, -⟩, -⟩, -⟩, -⟩, -⟩ := h
  exact received_fld m e fr (by rw [hlo, hhi, hpage]; rfl)

/-- A frame that is counted and goes no further. -/
theorem received_counted (m : Mach) (e : Nat) (fr : Frame) {n : Nat} (hn : n < 26) :
    ((m.received e fr).count (macCnt e n)).fld (macCnt e n) = (m.fld (macCnt e n) + 1) % 2 ^ 32 := by
  rw [fld_macCnt _ _ _ hn, received_macCnt _ _ _ hn]

/-- A frame that is counted with an event of its port. -/
theorem countedEvent_shows (m : Mach) (e : Nat) {n b : Nat} (hn : n < 26) (hb : b < 32) :
    ((m.count (macCnt e n)).event (macPage e) b).fld (macCnt e n) = (m.fld (macCnt e n) + 1) % 2 ^ 32
      ∧ ((m.count (macCnt e n)).event (macPage e) b).evt (macPage e) b = true
      ∧ ((m.count (macCnt e n)).event (macPage e) b).ports = m.ports :=
  ⟨(fld_event _ _ _ _ _ _ (noEvt_macCnt e hn)).trans (fld_macCnt _ _ _ hn), evt_port e b hb _, Mach.event_ports _ _ _ _ (macPage_lt e)⟩

/-- A port that is not up takes no frame (log 12). -/
theorem frameRx_down {m : Mach} {e : Nat} (fr : Frame) (hlink : linkOf m e ≠ 2) : m.frameRx e fr = m := if_pos hlink

/-- A frame that the receive crossing has no room for (R86). -/
theorem frameRx_overflows {m : Mach} {e : Nat} {fr : Frame} (hlink : linkOf m e = 2) (hroom : rxRoom m (12 + e) (beatsOf fr.len) = false) :
    m.frameRx e fr = (((m.count64 (MAC_RX_OCT_LO_w.onPort e) (MAC_RX_OCT_HI_w.onPort e) 0 fr.len).count (macCnt e 7)).event
      (macPage e) 5).event 0x37 2 :=
  (if_neg (not_not_intro hlink)).trans (if_pos (by show (!rxRoom m (12 + e) (beatsOf fr.len)) = true; rw [hroom]; rfl))

/-- A MAC control frame of a bad length or code. -/
theorem frameRx_badLength {m : Mach} {e : Nat} {fr : Frame} (hlink : linkOf m e = 2) (hroom : rxRoom m (12 + e) (beatsOf fr.len) = true)
    (hbad : fr.len < 64 ∨ 1560 < fr.len ∨ fr.codeErr = true) (hcontrol : fr.etype = 0x8808) :
    m.frameRx e fr = (m.received e fr).count (macCnt e 4) := by
  have hlen : (!(decide (64 ≤ fr.len ∧ fr.len ≤ 1560)) || fr.codeErr) = true := by
    rcases hbad with h | h | h
    · simp [Nat.not_le.mpr h]
    · simp [Nat.not_le.mpr h]
    · simp [h]
  unfold Mach.received Mach.frameRx
  rw [if_neg (not_not_intro hlink)]
  refine (if_neg (by show ¬ (!rxRoom m (12 + e) (beatsOf fr.len)) = true; rw [hroom]; decide)).trans ?_
  simp only [hlen, hcontrol, Bool.not_true, Bool.false_and, Bool.and_false, Bool.true_or, Bool.false_eq_true, BEq.rfl, if_true, if_false]

/-- A MAC control frame with a bad or stomped FCS. -/
theorem frameRx_badFcs {m : Mach} {e : Nat} {fr : Frame} (hlink : linkOf m e = 2) (hroom : rxRoom m (12 + e) (beatsOf fr.len) = true)
    (hmin : 64 ≤ fr.len) (hmax : fr.len ≤ 1560) (hcode : fr.codeErr = false) (hcontrol : fr.etype = 0x8808) (hfcs : fr.fcs ≠ .good) :
    m.frameRx e fr = ((m.received e fr).count (macCnt e (if fr.fcs = .stomp then 3 else 2))).event (macPage e) 4 := by
  have hlen : decide (64 ≤ fr.len ∧ fr.len ≤ 1560) = true := decide_eq_true ⟨hmin, hmax⟩
  have hplain : secures (m.received e fr) e fr = false := by simp [secures, unsecured, hcontrol]
  have hbad : (fr.fcs != .good) = true := bne_iff_ne.mpr hfcs
  unfold Mach.received at hplain ⊢
  unfold Mach.frameRx
  rw [if_neg (not_not_intro hlink)]
  refine (if_neg (by show ¬ (!rxRoom m (12 + e) (beatsOf fr.len)) = true; rw [hroom]; decide)).trans ?_
  simp only [hlen, hcode, hcontrol, hplain, hbad, Bool.not_true, Bool.not_false, Bool.or_false, Bool.and_false, Bool.false_and,
    Bool.and_true, Bool.or_true, Bool.false_eq_true, BEq.rfl, if_true, if_false]

/-- A frame at a port whose head and tail are in order and which MACsec does not protect (R295). -/
def soundFrame (m : Mach) (e : Nat) (fr : Frame) : Prop :=
  64 ≤ fr.len ∧ fr.len ≤ 1560 ∧ fr.codeErr = false ∧ fr.fcs = .good ∧ secures m e fr = false

/-- What becomes of a sound frame (R295). -/
def Mach.sortFrame (m : Mach) (e : Nat) (fr : Frame) : Mach :=
  if fr.etype == 0x8808 then m.controlRx e fr
  else if linkLocal fr.dst then
    match fr.body, fr.etype == 0x88F7 with
    | _, true => m.emit (.frame e fr)
    | .lldp tw ttl, _ => if m.on (MAC_EEE_en.onPort e) then m.lldpRx e tw ttl.toNat else m.count (macCnt e 11)
    | _, _ => m.count (macCnt e 11)
  else if !filterPasses m e fr.dst then m.count (macCnt e 5)
  else match classify m e fr.tag with
    | none => m.count (macCnt e 6)
    | some (vid, pcp) =>
      if !accepts m e fr.tag then m.count (macCnt e 6)
      else match (if fr.etype = 0x88F7 then 0 else redMode m (e / 2)) with
        | 0 => m.handOver e fr vid pcp false
        | 1 => m.prpRx e fr vid pcp false
        | _ => m.hsrRx e fr vid pcp false

theorem frameRx_sound {m : Mach} {e : Nat} {fr : Frame} (hlink : linkOf m e = 2) (hroom : rxRoom m (12 + e) (beatsOf fr.len) = true)
    (h : soundFrame m e fr) : m.frameRx e fr = (m.received e fr).sortFrame e fr := by
  obtain ⟨hmin, hmax, hcode, hfcs, hsec⟩ := h
  have hplain : secures (m.received e fr) e fr = false := hsec
  have hlen : decide (64 ≤ fr.len ∧ fr.len ≤ 1560) = true := decide_eq_true ⟨hmin, hmax⟩
  unfold Mach.received at hplain ⊢
  unfold Mach.frameRx
  rw [if_neg (not_not_intro hlink)]
  refine (if_neg (by show ¬ (!rxRoom m (12 + e) (beatsOf fr.len)) = true; rw [hroom]; decide)).trans ?_
  simp only [hlen, hcode, hfcs, hplain, Bool.not_true, Bool.not_false, Bool.or_false, Bool.false_and, Bool.and_false, bne_self_eq_false,
    Bool.false_eq_true, if_false]
  rfl

/-- A port without MACsec protects nothing. -/
theorem secures_off {m : Mach} {e : Nat} (fr : Frame) (h : m.on (MAC_MSEC_en.onPort e) = false) : secures m e fr = false := by
  simp [secures, h]

theorem secures_control {fr : Frame} (m : Mach) (e : Nat) (h : fr.etype = 0x8808) : secures m e fr = false := by
  simp [secures, unsecured, h]

theorem secures_linkLocal {fr : Frame} (m : Mach) (e : Nat) (h : linkLocal fr.dst = true) : secures m e fr = false := by
  simp [secures, unsecured, h]

theorem sortFrame_control {fr : Frame} (m : Mach) (e : Nat) (h : fr.etype = 0x8808) : m.sortFrame e fr = m.controlRx e fr :=
  if_pos (beq_iff_eq.mpr h)

/-- A link-local frame that no agent of the port takes. -/
theorem sortFrame_linkLocal {fr : Frame} {b : List Byte} (m : Mach) (e : Nat) (hcontrol : fr.etype ≠ 0x8808) (hptp : fr.etype ≠ 0x88F7)
    (hlocal : linkLocal fr.dst = true) (hbody : fr.body = .data b) : m.sortFrame e fr = m.count (macCnt e 11) := by
  unfold Mach.sortFrame
  rw [if_neg (by simpa using hcontrol), if_pos hlocal, hbody, beq_eq_false_iff_ne.mpr hptp]

/-- A frame that goes on to the address filter (R300). -/
theorem sortFrame_filtered {fr : Frame} {m : Mach} {e : Nat} (hcontrol : fr.etype ≠ 0x8808) (hlocal : linkLocal fr.dst = false)
    (hfilter : filterPasses m e fr.dst = false) : m.sortFrame e fr = m.count (macCnt e 5) := by
  unfold Mach.sortFrame
  rw [if_neg (by simpa using hcontrol), if_neg (by rw [hlocal]; decide), if_pos (by rw [hfilter]; rfl)]

/-- A frame that no VLAN class or no acceptance rule takes (R297, R298). -/
theorem sortFrame_untaken {fr : Frame} {m : Mach} {e : Nat} (hcontrol : fr.etype ≠ 0x8808) (hlocal : linkLocal fr.dst = false)
    (hfilter : filterPasses m e fr.dst = true) (h : classify m e fr.tag = none ∨ accepts m e fr.tag = false) :
    m.sortFrame e fr = m.count (macCnt e 6) := by
  unfold Mach.sortFrame
  rw [if_neg (by simpa using hcontrol), if_neg (by rw [hlocal]; decide), if_neg (by rw [hfilter]; decide)]
  cases hclass : classify m e fr.tag with
  | none => rfl
  | some c => exact if_pos (by rw [h.resolve_left (by rw [hclass]; exact Option.some_ne_none c)]; rfl)

/-- A frame that passes on a port outside a redundant pair (R295, R320). -/
theorem sortFrame_enters {fr : Frame} {m : Mach} {e vid pcp : Nat} (hcontrol : fr.etype ≠ 0x8808) (hlocal : linkLocal fr.dst = false)
    (hfilter : filterPasses m e fr.dst = true) (hclass : classify m e fr.tag = some (vid, pcp)) (haccept : accepts m e fr.tag = true)
    (hred : redMode m (e / 2) = 0) : m.sortFrame e fr = (m.count (macCnt e 0)).inject (ingressOf m e fr vid pcp) := by
  have hmode : (if fr.etype = 0x88F7 then 0 else redMode m (e / 2)) = 0 := by rw [hred, ite_self]
  unfold Mach.sortFrame
  rw [if_neg (by simpa using hcontrol), if_neg (by rw [hlocal]; decide), if_neg (by rw [hfilter]; decide), hclass]
  dsimp only
  rw [if_neg (by rw [haccept]; decide), hmode]
  rfl

/-! ### Pause frames (R301) -/

/-- A pause frame to the port: 64 bytes, untagged. -/
def pauseFor (m : Mach) (e : Nat) (fr : Frame) (q : BitVec 16) : Prop :=
  fr.len = 64 ∧ fr.tag = .untagged ∧ (fr.dst = 0x0180C2000001 ∨ fr.dst = portAddr m e) ∧ fr.body = .pause 1 q

/-- A pause frame on a port that honours none. -/
theorem controlRx_ignored {m : Mach} {e : Nat} {fr : Frame} {q : BitVec 16} (h : pauseFor m e fr q)
    (hoff : m.on (MAC_PAUSE_honour.onPort e) = false) : m.controlRx e fr = (m.count (macCnt e 9)).event (macPage e) 8 := by
  obtain ⟨hlen, htag, hdst, hbody⟩ := h
  unfold Mach.controlRx
  rw [hbody]
  dsimp only
  rw [if_pos ⟨hdst, rfl, by rw [htag, hlen]; rfl⟩, if_pos (by rw [hoff]; rfl)]

/-- A pause frame with a time on a port that honours it. -/
theorem controlRx_honoured {m k : Mach} {e : Nat} {fr : Frame} {q : BitVec 16} (h : pauseFor m e fr q)
    (hon : m.on (MAC_PAUSE_honour.onPort e) = true) (hq : q ≠ 0) (hk : k = (m.count (macCnt e 8)).event (macPage e) 7)
    (hlink : linkOf k e = 2) : m.controlRx e fr =
      if (k.port e).sending.isSome then k.onPort e fun b => { b with pauseNext := some (pauseNs k e q.toNat) }
      else k.beginPause e (pauseNs k e q.toNat) := by
  obtain ⟨hlen, htag, hdst, hbody⟩ := h
  subst hk
  unfold Mach.controlRx
  rw [hbody]
  dsimp only
  rw [if_pos ⟨hdst, rfl, by rw [htag, hlen]; rfl⟩, if_neg (by rw [hon]; decide), if_neg hq, if_neg (not_not_intro hlink)]

theorem beginPause_shows (m : Mach) (e d : Nat) : (m.beginPause e d).port e = { m.port e with pauseUntil := some (m.now + d), pauseNext := none }
    ∧ (m.beginPause e d).flag (MAC_STS_paused.onPort e) = true ∧ (m.beginPause e d).outs = m.outs
    ∧ ∀ f : Fd, Fd.clear (MAC_STS_paused.onPort e) f = true → (m.beginPause e d).fld f = m.fld f := by
  refine ⟨port_onPort m e fun b => { b with pauseUntil := some (m.now + d), pauseNext := none }, ?_, rfl, fun f h => ?_⟩
  · unfold Mach.beginPause Mach.flag
    rw [fld_arm]
    exact flag_set _ (MAC_STS_paused.onPort e) 0 true (fit_onPort e rfl)
  · unfold Mach.beginPause
    rw [fld_arm, fld_flag_clear _ _ _ _ _ _ h]
    exact fld_onPort ..

/-! ### Frames sent (R299, R337) -/

/-- The frame as it is driven out, with the egress tag. -/
theorem emitFrame_shows (m : Mach) (e : Nat) (f : TxFrame) : ∃ (fr : Frame) (n : Nat), (m.emitFrame e f).outs = .frame e fr :: m.outs
    ∧ fr.body = f.fr.body ∧ fr.dst = f.fr.dst ∧ fr.fcs = f.fr.fcs ∧ fr.tag = egressTag m e f
    ∧ (m.emitFrame e f).port e = { m.port e with txPn := n } ∧ (m.emitFrame e f).regs = m.regs ∧ (m.emitFrame e f).now = m.now := by
  unfold Mach.emitFrame
  dsimp only
  split
  · exact ⟨_, _, rfl, rfl, rfl, rfl, rfl, port_onPort m e fun b => { b with txPn := (m.port e).txPn + 1 }, rfl, rfl⟩
  · exact ⟨_, (m.port e).txPn, rfl, rfl, rfl, rfl, rfl, rfl, rfl, rfl⟩

/-- The module with a port's frame gone out and counted. -/
def Mach.frameSent (m : Mach) (e : Nat) (f : TxFrame) : Mach :=
  ((((m.emitFrame e f).count (macCnt e 1)).count64 (MAC_TX_OCT_LO_w.onPort e) (MAC_TX_OCT_HI_w.onPort e) 0 (wireLen m e f)).onPort e fun b =>
    { b with sending := none }).showMem

/-- A pause that waited for the end of the port's frame begins (R301). -/
def Mach.pauseWaiting (m : Mach) (e : Nat) : Mach :=
  match (m.port e).pauseNext with
  | some d => m.beginPause e d
  | none => m

theorem txDone_idle {m : Mach} {e : Nat} (h : (m.port e).sending = none) : m.txDone e = m := by
  unfold Mach.txDone
  rw [h]

theorem txDone_sent {m : Mach} {e : Nat} {f : TxFrame} (h : (m.port e).sending = some f) :
    m.txDone e = ((m.frameSent e f).pauseWaiting e).kick e := by
  unfold Mach.txDone
  rw [h]
  rfl

/-- A field of a port's page beside what showing the output memory writes. -/
theorem showMem_portFld (m : Mach) (f : Fd) (e : Nat) (ho : f.off < 4096) : m.showMem.fld (f.onPort e) = m.fld (f.onPort e) := by
  refine fld_touch (Mach.showMem_touch m) _ _ ?_
  have hnot : (0x10000 : Nat).testBit (macPage e) = false := by
    rw [show (0x10000 : Nat) = 2 ^ 16 from rfl, Nat.testBit_two_pow]
    exact decide_eq_false (by unfold macPage; omega)
  have hseven : macPage e ≠ 7 := by unfold macPage; omega
  simp [Fd.onPort, macPage_lt e, ho, hnot, hseven]

theorem frameSent_shows (m : Mach) (e : Nat) (f : TxFrame) : ∃ (fr : Frame) (n : Nat), (m.frameSent e f).outs = .frame e fr :: m.outs
    ∧ fr.body = f.fr.body ∧ fr.dst = f.fr.dst ∧ fr.fcs = f.fr.fcs ∧ fr.tag = egressTag m e f
    ∧ (m.frameSent e f).port e = { m.port e with sending := none, txPn := n } ∧ (m.frameSent e f).now = m.now
    ∧ (m.frameSent e f).fld (macCnt e 1) = (m.fld (macCnt e 1) + 1) % 2 ^ 32 := by
  obtain ⟨fr, n, houts, hbody, hdst, hfcs, htag, hport, hregs, hnow⟩ := emitFrame_shows m e f
  refine ⟨fr, n, (outs_of_touch (Mach.showMem_touch _) rfl).trans houts, hbody, hdst, hfcs, htag, ?_,
    (now_of_touch (Mach.showMem_touch _) rfl).trans hnow, ?_⟩
  · refine (port_of_ports (ports_of_touch (Mach.showMem_touch _) rfl) e).trans ((port_onPort _ e _).trans ?_)
    exact congrArg (fun b : Port => { b with sending := none }) hport
  · unfold Mach.frameSent
    rw [show macCnt e 1 = (MAC_CNT_n.nth 1).onPort e from rfl, showMem_portFld _ _ _ (by decide), fld_onPort,
      fld_count64_clear _ _ (clear_onPort e rfl) (clear_onPort e rfl)]
    exact (fld_macCnt _ e 1 (n := 1) (by decide)).trans (by rw [fld_of_regs hregs]; rfl)

theorem pauseWaiting_shows (m : Mach) (e : Nat) : (∀ d, (m.port e).pauseNext = some d → ((m.pauseWaiting e).port e).pauseUntil = some (m.now + d))
    ∧ ((m.pauseWaiting e).port e).sending = (m.port e).sending ∧ ((m.pauseWaiting e).port e).queue = (m.port e).queue
    ∧ (m.pauseWaiting e).outs = m.outs ∧ (m.pauseWaiting e).fld (macCnt e 1) = m.fld (macCnt e 1) := by
  unfold Mach.pauseWaiting
  split
  case h_1 d hnext =>
    obtain ⟨hport, -, houts, hfld⟩ := beginPause_shows m e d
    refine ⟨fun d' h => ?_, by rw [hport], by rw [hport], houts, hfld _ (clear_onPort e rfl)⟩
    rw [hport, Option.some.inj (hnext.symm.trans h)]
  case h_2 hnext => exact ⟨fun d h => absurd (hnext.symm.trans h) (Option.some_ne_none d).symm, rfl, rfl, rfl, rfl⟩

/-! ### Frames past their lifetime (R313) -/

/-- A waiting frame of a class has reached its lifetime. -/
def lapsedIn (m : Mach) (e c : Nat) (f : TxFrame) : Bool := f.cls = c && expired m e f

/-- The module without the waiting frames of a class that have reached their lifetime, counted. -/
def Mach.lapsedGone (m : Mach) (e c : Nat) : Mach :=
  (((m.onPort e fun b => { b with queue := (m.port e).queue.filter fun f => !lapsedIn m e c f }).showMem).count (macCnt e 15) 0
    ((m.port e).queue.filter (lapsedIn m e c)).length).event (macPage e) 3

/-- The end of a lifetime of a class. -/
def Mach.ageClass (m : Mach) (e c : Nat) : Mach :=
  if ((m.port e).queue.filter (lapsedIn m e c)).isEmpty then m else (m.lapsedGone e c).kick e

theorem lapsedGone_shows (m : Mach) (e c : Nat) : (m.lapsedGone e c).evt (macPage e) 3 = true
    ∧ ((m.lapsedGone e c).port e).queue = (m.port e).queue.filter (fun f => !lapsedIn m e c f)
    ∧ (m.lapsedGone e c).fld (macCnt e 15) = (m.fld (macCnt e 15) + ((m.port e).queue.filter (lapsedIn m e c)).length) % 2 ^ 32 := by
  unfold Mach.lapsedGone
  refine ⟨evt_port e 3 (by decide) _, ?_, ?_⟩
  · rw [port_of_ports (Mach.event_ports _ _ _ _ (macPage_lt e)), port_of_ports (Mach.count_ports ..),
      port_of_ports (ports_of_touch (Mach.showMem_touch _) rfl), port_onPort]
  · rw [fld_event _ _ _ _ _ _ (noEvt_macCnt e (by decide)), fld_macCnt _ _ _ (by decide)]
    rw [show macCnt e 15 = (MAC_CNT_n.nth 15).onPort e from rfl, showMem_portFld _ _ _ (by decide), fld_onPort]

/-! ### Received frames by their outcome -/

/-- A frame that an up port with room for it receives. -/
theorem completes_frameRx {s : State} {p : Fin 16} {fr : Frame} {P : Mach → Prop} (t : Nat) (hpow : s.m.powered = true)
    (hP : P ((s.m.advance t).frameRx p fr)) : Completes (.macFrameRx t p fr) s P :=
  completes_run (f := fun m => m.frameRx p fr) rfl hpow hP

/-- A sound frame goes on to be sorted by what it is. -/
theorem completes_sorted {s : State} {p : Fin 16} {fr : Frame} {P : Mach → Prop} (t : Nat) (hpow : s.m.powered = true)
    (hlink : linkOf s.m p = 2) (hroom : rxRoom s.m (12 + p) (beatsOf fr.len) = true) (h : soundFrame s.m p fr)
    (hP : P (((s.m.advance t).received p fr).sortFrame p fr)) : Completes (.macFrameRx t p fr) s P := by
  refine completes_frameRx t hpow ?_
  rw [frameRx_sound (m := s.m.advance t) hlink hroom h]
  exact hP

/-- A sound frame that goes no further is only counted. -/
theorem completes_counted {s : State} {p : Fin 16} {fr : Frame} {n : Nat} (t : Nat) (hpow : s.m.powered = true)
    (hlink : linkOf s.m p = 2) (hroom : rxRoom s.m (12 + p) (beatsOf fr.len) = true) (h : soundFrame s.m p fr) (hn : n < 26)
    (hsort : ((s.m.advance t).received p fr).sortFrame p fr = ((s.m.advance t).received p fr).count (macCnt p n)) :
    Completes (.macFrameRx t p fr) s fun m' => m'.fld (macCnt p n) = (s.m.fld (macCnt p n) + 1) % 2 ^ 32 ∧ m'.ports = s.m.ports
      ∧ m'.outs = s.m.outs := by
  refine completes_sorted t hpow hlink hroom h ?_
  rw [hsort]
  exact ⟨received_counted (s.m.advance t) p fr hn, rfl, rfl⟩

/-- A field of a page other than that of an event, and the recorder's, is clear of the event. -/
theorem noEvt_page {f : Fd} {q : Nat} (hfit : Fd.fit f = true) (hq : q < 256) (hne : f.page ≠ q) (hcoil : f.page ≠ 7) :
    Fd.noEvt q f = true := by
  simp [Fd.noEvt, hfit, hq, hne, hcoil]

/-- A frame that the receive crossing has no room for leaves the switch and its crossings as they were. -/
theorem overflow_shows (m : Mach) (e : Nat) (fr : Frame) (hlink : linkOf m e = 2) (hroom : rxRoom m (12 + e) (beatsOf fr.len) = false) :
    (m.frameRx e fr).fld (macCnt e 7) = (m.fld (macCnt e 7) + 1) % 2 ^ 32 ∧ (m.frameRx e fr).evt (macPage e) 5 = true
      ∧ (m.frameRx e fr).evt 0x37 2 = true ∧ (m.frameRx e fr).ports = m.ports ∧ (m.frameRx e fr).cdc = m.cdc
      ∧ (m.frameRx e fr).swc = m.swc := by
  rw [frameRx_overflows hlink hroom]
  have hother : macPage e ≠ 0x37 ∧ macPage e ≠ 7 := by unfold macPage; omega
  have hcnt : Fd.noEvt 0x37 (macCnt e 7) = true := noEvt_page (fit_macCnt e (by decide)) (by decide) hother.1 hother.2
  have hevt : Fd.noEvt 0x37 (hEvt (macPage e)) = true :=
    noEvt_page (by simp [Fd.fit, hEvt, macPage_lt e]) (by decide) hother.1 hother.2
  have hpage := macPage_lt e
  refine ⟨?_, ?_, evt_event _ _ _ _ (by decide), ?_, ?_, ?_⟩
  · rw [fld_event _ _ _ _ _ _ hcnt, fld_event _ _ _ _ _ _ (noEvt_macCnt e (by decide)), fld_macCnt _ _ _ (by decide)]
    rw [show macCnt e 7 = (MAC_CNT_n.nth 7).onPort e from rfl, fld_count64_clear _ _ (clear_onPort e rfl) (clear_onPort e rfl)]
  · exact (congrArg (bit · 5) (fld_event _ _ _ _ _ _ hevt)).trans (evt_port e 5 (by decide) _)
  · exact (Mach.event_ports _ _ _ _ (by decide)).trans (Mach.event_ports _ _ _ _ hpage)
  · exact (Mach.event_cdc _ _ _ _ (by decide)).trans (Mach.event_cdc _ _ _ _ hpage)
  · exact (Mach.event_swc _ _ _ _ (by decide)).trans (Mach.event_swc _ _ _ _ hpage)

/-! ### A pause honoured -/

/-- A pause frame received, counted and reported on a port that honours it (R301). -/
def Mach.pauseTaken (m : Mach) (e : Nat) (fr : Frame) : Mach := ((m.received e fr).count (macCnt e 8)).event (macPage e) 7

/-- What the pause is reckoned by stands as before. -/
theorem pauseTaken_portFld (m : Mach) (e : Nat) (fr : Frame) {f : Fd}
    (h : (Fd.clear MAC_RX_OCT_LO_w f && Fd.clear MAC_RX_OCT_HI_w f && f.page == 0x20 && Fd.clear (MAC_CNT_n.nth 8) f && f.off != 0x014) = true) :
    (m.pauseTaken e fr).fld (f.onPort e) = m.fld (f.onPort e) := by
  simp only [Bool.and_eq_true] at h
  obtain ⟨⟨⟨⟨hlo, hhi⟩, hpage⟩, hcnt⟩, hoff⟩ := h
  have hfit : Fd.fit f = true := by
    simp only [Fd.clear, Bool.and_eq_true] at hlo
    exact hlo.1.2
  have hsame : ((MAC_CNT_n.nth 8).page == f.page) = true := by rw [beq_iff_eq.mp hpage]; decide
  unfold Mach.pauseTaken
  rw [fld_event _ _ _ _ _ _ (noEvt_onPort e (by rw [hfit, hoff]; rfl))]
  exact (fld_count_clear _ _ _ _ _ _ (clear_onPort e (by rw [hcnt, hsame]; rfl))).trans (received_fld m e fr (by rw [hlo, hhi, hpage]; rfl))

theorem pauseTaken_pauseNs (m : Mach) (e : Nat) (fr : Frame) (q : Nat) : pauseNs (m.pauseTaken e fr) e q = pauseNs m e q := by
  unfold pauseNs
  rw [pauseTaken_portFld m e fr rfl]

theorem pauseTaken_shows (m : Mach) (e : Nat) (fr : Frame) : (m.pauseTaken e fr).fld (macCnt e 8) = (m.fld (macCnt e 8) + 1) % 2 ^ 32
    ∧ (m.pauseTaken e fr).evt (macPage e) 7 = true ∧ (m.pauseTaken e fr).port e = m.port e ∧ (m.pauseTaken e fr).now = m.now := by
  obtain ⟨hfld, hevt, hports⟩ := countedEvent_shows (m.received e fr) e (n := 8) (b := 7) (by decide) (by decide)
  exact ⟨hfld.trans (by rw [received_macCnt _ _ _ (by decide)]), hevt, port_of_ports hports e, Mach.event_now _ _ _ _ (macPage_lt e)⟩

/-- A pause frame honoured by an idle port begins the pause, by a sending port waits for the end of its frame. -/
theorem honoured_shows {m : Mach} {e : Nat} {fr : Frame} {q : BitVec 16} (h : pauseFor m e fr q) (hlink : linkOf m e = 2)
    (hon : m.on (MAC_PAUSE_honour.onPort e) = true) (hq : q ≠ 0) :
    ((m.received e fr).controlRx e fr).fld (macCnt e 8) = (m.fld (macCnt e 8) + 1) % 2 ^ 32
      ∧ ((m.received e fr).controlRx e fr).evt (macPage e) 7 = true
      ∧ ((m.port e).sending = none → ((m.received e fr).controlRx e fr).flag (MAC_STS_paused.onPort e) = true
        ∧ ((m.received e fr).controlRx e fr).port e = { m.port e with pauseUntil := some (m.now + pauseNs m e q.toNat), pauseNext := none })
      ∧ ((m.port e).sending.isSome = true →
        ((m.received e fr).controlRx e fr).port e = { m.port e with pauseNext := some (pauseNs m e q.toNat) }) := by
  obtain ⟨hcnt, hevt, hport, hnow⟩ := pauseTaken_shows m e fr
  rw [controlRx_honoured (m := m.received e fr) h hon hq (show m.pauseTaken e fr = _ from rfl)
    ((pauseTaken_portFld m e fr rfl).trans hlink), pauseTaken_pauseNs, hport]
  cases hsend : (m.port e).sending with
  | none =>
    obtain ⟨hport', hpaused, -, hfld⟩ := beginPause_shows (m.pauseTaken e fr) e (pauseNs m e q.toNat)
    rw [if_neg (by decide)]
    refine ⟨(hfld _ (clear_onPort e rfl)).trans hcnt, (congrArg (bit · 7) (hfld _ (clear_portEvt e rfl))).trans hevt,
      fun _ => ⟨hpaused, ?_⟩, fun h => absurd h (by decide)⟩
    rw [hport', hport, hnow]
  | some f =>
    rw [if_pos (show (some f).isSome = true from rfl)]
    refine ⟨(fld_onPort ..).trans hcnt, (congrArg (bit · 7) (fld_onPort ..)).trans hevt, nofun, fun _ => ?_⟩
    rw [port_onPort, hport]

/-! ### Duplicate entries and supervision (R305, R310) -/

theorem pair_onPair (m : Mach) (k : Nat) (f : Pair → Pair) : (m.onPair k f).pair k = f (m.pair k) := by
  simp [Mach.pair, Mach.onPair]

/-- A duplicate entry past its time forgotten (R305). -/
def Mach.forgetDup (m : Mach) (k : Nat) (a : Mac) (q : BitVec 16) : Mach :=
  m.onPair k fun b => { b with dups := b.dups.filter fun d =>
    !(d.mac = a && d.seq = q.toNat && decide (m.cfg (MAC_RED_forget.onPort (2 * k)) * 1000000 ≤ m.now - d.since)) }

theorem mem_forgetDup (m : Mach) (k : Nat) (a : Mac) (q : BitVec 16) (d : DupEntry) : d ∈ ((m.forgetDup k a q).pair k).dups ↔
    d ∈ (m.pair k).dups ∧ ¬ (d.mac = a ∧ d.seq = q.toNat ∧ m.cfg (MAC_RED_forget.onPort (2 * k)) * 1000000 ≤ m.now - d.since) := by
  unfold Mach.forgetDup
  rw [pair_onPair, List.mem_filter]
  simp only [Bool.not_eq_true', ← Bool.not_eq_true, Bool.and_eq_true, decide_eq_true_eq, and_assoc]

/-- The supervision frame of a pair (R310). -/
def supervisionOf (m : Mach) (k : Nat) (src : Mac) : TxFrame where
  fr := { dst := 0x01154E000100, src := src, tag := .untagged, etype := 0x88FB, len := 64, fcs := .good, codeErr := false, sec := none,
          red := .plain, body := .supervision }
  cls := 0
  pcp := 0
  vid := m.cfg (MAC_VLAN_pvid.onPort (2 * k))
  entered := m.now
  src := 2 * k
  vnic := none
  stamp := none

/-- Without a twin the pair sends one supervision frame, for PUB_TWIN_MAC. -/
theorem sendSupervision_alone {m : Mach} {k : Nat} (htwin : m.on TWN_CFG_en = false) :
    m.sendSupervision k = (m.toPort (2 * k) (supervisionOf m k (macOf m PUB_TWIN_MAC_LO_lo PUB_TWIN_MAC_HI_hi 0)) none).arm (.supRed k)
      (m.now + m.cfg (MAC_RED_sup_int.onPort (2 * k)) * 1000000) := by
  have htouch := Mach.toPort_touch m (2 * k) (supervisionOf m k (macOf m PUB_TWIN_MAC_LO_lo PUB_TWIN_MAC_HI_hi 0)) none
  have hforce := force_of_touch htouch rfl
  rw [← now_of_touch htouch rfl, ← cfg_of_force hforce]
  exact congrArg (fun x : Mach => x.arm (.supRed k) (x.now + x.cfg (MAC_RED_sup_int.onPort (2 * k)) * 1000000))
    (if_neg (by rw [Bool.not_eq_true]; exact (on_of_force hforce _ _).trans htwin))

/-! ### Lifetimes -/

theorem lapsedIn_eq (m : Mach) (e c : Nat) : lapsedIn m e c = fun f => f.cls == c && expired m e f := by
  funext f
  unfold lapsedIn
  rw [beq_eq_decide]

/-- Settles O49, outcome by outcome of what a port receives, holds and sends. -/
theorem portFramesAreHandled : Obligations.PortFramesAreHandled := by
  unfold Obligations.PortFramesAreHandled
  refine ⟨?_, ?_, ?_, ?_, ?_, ?_, ?_, ?_, ?_, ?_, ?_, ?_, ?_, ?_, ?_, ?_, ?_⟩
  case refine_1 =>
    intro s t p fr hpow hlink
    exact completes_frameRx t hpow (frameRx_down (m := s.m.advance t) fr hlink)
  case refine_2 =>
    intro s t p fr hpow hlink hroom hbad hcontrol
    refine completes_frameRx t hpow ?_
    rw [frameRx_badLength (m := s.m.advance t) hlink hroom hbad hcontrol]
    exact ⟨received_counted (s.m.advance t) p fr (by decide), rfl, rfl⟩
  case refine_3 =>
    intro s t p fr hpow hlink hroom hmin hmax hcode hcontrol hfcs
    refine completes_frameRx t hpow ?_
    rw [frameRx_badFcs (m := s.m.advance t) hlink hroom hmin hmax hcode hcontrol hfcs]
    have hn : (if fr.fcs = .stomp then 3 else 2) < 26 := by split <;> decide
    obtain ⟨hcnt, hevt, hports⟩ := countedEvent_shows ((s.m.advance t).received p fr) p hn (b := 4) (by decide)
    rw [received_macCnt _ _ _ hn] at hcnt
    refine ⟨hevt, hports, fun h => ?_, fun h => ?_⟩
    · rwa [if_neg (by rw [h]; decide)] at hcnt ⊢
    · rwa [if_pos h] at hcnt ⊢
  case refine_4 =>
    intro s t p fr q hpow hlink hroom hlen hcode hfcs hcontrol htag hdst hbody hoff
    refine completes_sorted t hpow hlink hroom ⟨by omega, by omega, hcode, hfcs, secures_control _ _ hcontrol⟩ ?_
    rw [sortFrame_control _ _ hcontrol, controlRx_ignored (m := (s.m.advance t).received p fr) ⟨hlen, htag, hdst, hbody⟩ hoff]
    obtain ⟨hcnt, hevt, hports⟩ := countedEvent_shows ((s.m.advance t).received p fr) p (n := 9) (b := 8) (by decide) (by decide)
    exact ⟨hcnt.trans (by rw [received_macCnt _ _ _ (by decide)]; rfl), hevt, hports⟩
  case refine_5 =>
    intro s t p fr q hpow hlink hroom hlen hcode hfcs hcontrol htag hdst hbody hon hq
    refine completes_sorted t hpow hlink hroom ⟨by omega, by omega, hcode, hfcs, secures_control _ _ hcontrol⟩ ?_
    rw [sortFrame_control _ _ hcontrol]
    exact honoured_shows (m := s.m.advance t) ⟨hlen, htag, hdst, hbody⟩ hlink hon hq
  case refine_6 =>
    intro s t p fr b hpow hlink hroom hmin hmax hcode hfcs hcontrol hptp hlocal hbody
    exact completes_counted t hpow hlink hroom ⟨hmin, hmax, hcode, hfcs, secures_linkLocal _ _ hlocal⟩ (by decide)
      (sortFrame_linkLocal _ _ hcontrol hptp hlocal hbody)
  case refine_7 =>
    intro s t p fr hpow hlink hroom hmin hmax hcode hfcs hcontrol hlocal hplain hfilter
    exact completes_counted t hpow hlink hroom ⟨hmin, hmax, hcode, hfcs, secures_off _ hplain⟩ (by decide)
      (sortFrame_filtered hcontrol hlocal hfilter)
  case refine_8 =>
    intro s t p fr hpow hlink hroom hmin hmax hcode hfcs hcontrol hlocal hplain hfilter huntaken
    exact completes_counted t hpow hlink hroom ⟨hmin, hmax, hcode, hfcs, secures_off _ hplain⟩ (by decide)
      (sortFrame_untaken hcontrol hlocal hfilter huntaken)
  case refine_9 =>
    intro s t p fr vid pcp hpow hlink hroom hmin hmax hcode hfcs hcontrol hlocal hplain hfilter hclass haccept hred
    refine completes_sorted t hpow hlink hroom ⟨hmin, hmax, hcode, hfcs, secures_off _ hplain⟩ ?_
    rw [sortFrame_enters (m := (s.m.advance t).received p fr) hcontrol hlocal hfilter hclass haccept hred]
    exact ⟨_, rfl, received_counted (s.m.advance t) p fr (by decide), rfl, rfl, rfl, rfl⟩
  case refine_10 =>
    intro s t p fr hpow hlink hroom
    exact completes_frameRx t hpow (overflow_shows (s.m.advance t) p fr hlink hroom)
  case refine_11 =>
    intro s t p c hpow hnone
    refine completes_run (f := fun m => m.ageClass p c) rfl hpow ?_
    have hempty : ((s.m.advance t).port p).queue.filter (lapsedIn (s.m.advance t) p c) = [] := by
      rw [lapsedIn_eq, List.filter_eq_nil_iff]
      intro f hf h
      simp only [Bool.and_eq_true, beq_iff_eq] at h
      exact Bool.false_ne_true ((hnone f hf h.1).symm.trans h.2)
    exact if_pos (by rw [hempty]; rfl)
  case refine_12 =>
    intro s t p c f hpow hf hcls hexp
    refine completes_run (f := fun m => m.ageClass p c) rfl hpow ?_
    have hmem : f ∈ ((s.m.advance t).port p).queue.filter (lapsedIn (s.m.advance t) p c) :=
      List.mem_filter.mpr ⟨hf, by rw [lapsedIn_eq]; simp [hcls, hexp]⟩
    obtain ⟨hevt, hqueue, hcnt⟩ := lapsedGone_shows (s.m.advance t) p c
    rw [lapsedIn_eq] at hqueue hcnt
    exact ⟨_, if_neg (by rw [List.isEmpty_iff]; exact List.ne_nil_of_mem hmem), hevt, hqueue, hcnt⟩
  case refine_13 =>
    intro s t p hpow hsend
    exact completes_run (f := fun m => m.txDone p) rfl hpow (txDone_idle (m := s.m.advance t) hsend)
  case refine_14 =>
    intro s t p f hpow hsend
    refine completes_run (f := fun m => m.txDone p) rfl hpow ?_
    obtain ⟨fr, n, houts, hbody, hdst, hfcs, htag, hport, hnow, hcnt⟩ := frameSent_shows (s.m.advance t) p f
    obtain ⟨hpause, hnone, hqueue, houts', hcnt'⟩ := pauseWaiting_shows ((s.m.advance t).frameSent p f) p
    refine ⟨_, fr, txDone_sent (m := s.m.advance t) hsend, hnone.trans (by rw [hport]), hqueue.trans (by rw [hport]; rfl),
      houts'.trans houts, hbody, hdst, hfcs, htag, hcnt'.trans hcnt, fun d hd => ?_⟩
    rw [hpause d (by rw [hport]; exact hd), hnow]
  case refine_15 =>
    intro s t k a q hpow
    exact completes_run (f := fun m => m.forgetDup k a q) rfl hpow (mem_forgetDup (s.m.advance t) k a q)
  case refine_16 =>
    intro s t k hfires hmode htwin
    refine completes_fires (f := fun m => if redMode m k = 0 then m else m.sendSupervision k) rfl hfires ?_
    rw [if_neg (by exact hmode), sendSupervision_alone (m := (s.m.advance t).disarm (.supRed k)) htwin]
    exact ⟨deadline_arm_same .., (s.m.advance t).disarm (.supRed k), supervisionOf _ k _, rfl, rfl, rfl, rfl, Mach.arm_ports ..⟩
  case refine_17 =>
    intro s t k hfires hmode
    refine completes_fires (f := fun m => if redMode m k = 0 then m else m.sendSupervision k) rfl hfires ?_
    rw [if_pos (by exact hmode)]
    exact ⟨rfl, rfl⟩

end Sys2Proof.Machine


/-! # Power, reset and start -/

namespace Sys2Proof.Machine

/-! ### What the recorder leaves of itself: its intake, and what was driven outward -/

/-- The recorder's intake stands as before, and every output driven is still among the outputs. -/
def Mach.keepsIntake (m m' : Mach) : Prop := m'.coil.intake = m.coil.intake ∧ ∀ o ∈ m.outs, o ∈ m'.outs

theorem keepsIntake_refl (m : Mach) : m.keepsIntake m := ⟨rfl, fun _ h => h⟩

theorem keepsIntake_trans {a b c : Mach} (h : a.keepsIntake b) (g : b.keepsIntake c) : a.keepsIntake c :=
  ⟨g.1.trans h.1, fun o ho => g.2 o (h.2 o ho)⟩

theorem keepsIntake_count (m : Mach) (f : Fd) (i n : Nat) : m.keepsIntake (m.count f i n) := keepsIntake_refl m

theorem keepsIntake_emit (m : Mach) (o : Out) : m.keepsIntake (m.emit o) := ⟨rfl, fun _ h => List.mem_cons_of_mem o h⟩

theorem keepsIntake_onCoil (m : Mach) {f : Coil → Coil} (h : (f m.coil).intake = m.coil.intake) : m.keepsIntake (m.onCoil f) :=
  ⟨h, fun _ ho => ho⟩

theorem keepsIntake_foldl {α : Type} {f : Mach → α → Mach} (h : ∀ (m : Mach) (a : α), m.keepsIntake (f m a)) (l : List α) (m : Mach) :
    m.keepsIntake (l.foldl f m) := by
  induction l generalizing m with
  | nil => exact keepsIntake_refl m
  | cons a l ih => exact keepsIntake_trans (h m a) (ih (f m a))

/-- An interrupt of an event. -/
theorem keepsIntake_irq (m : Mach) (q : Nat) : m.keepsIntake (let x := m.emit (.eventIrq q); if x.on CMD_CTRL_pcie_en then x.emit (.msix 1) else x) := by
  dsimp only
  split
  · exact keepsIntake_trans (keepsIntake_emit m _) (keepsIntake_emit _ _)
  · exact keepsIntake_emit m _

theorem coilEvent_keepsIntake (m : Mach) (b : Nat) : m.keepsIntake (m.coilEvent b) := by
  unfold Mach.coilEvent
  extract_lets x
  split
  · exact keepsIntake_irq x 0x07
  · exact keepsIntake_refl m

theorem foldRec_keepsIntake (m : Mach) (o : OpenRec) : m.keepsIntake (m.foldRec o).1 := by
  unfold Mach.foldRec
  split
  · exact ⟨rfl, fun _ h => h⟩
  · exact keepsIntake_refl m

theorem closeRec_keepsIntake (m : Mach) (o : OpenRec) (k : Bool) : m.keepsIntake (m.closeRec o k) :=
  keepsIntake_trans (foldRec_keepsIntake m o) (keepsIntake_onCoil _ rfl)

theorem openOne_keepsIntake (m : Mach) (e : FifoEntry) (sn : List Word) (a b c : Bool) : m.keepsIntake (m.openOne e sn a b c).1 := by
  unfold Mach.openOne
  split
  · exact coilEvent_keepsIntake (m.count COIL_DROP) 1
  · rename_i slot lost _
    dsimp only
    have hlost : m.keepsIntake (if lost = true then (m.count COIL_OVWR).coilEvent 2 else m) := by
      split
      · exact coilEvent_keepsIntake (m.count COIL_OVWR) 2
      · exact keepsIntake_refl m
    split
    · exact keepsIntake_trans hlost (closeRec_keepsIntake _ _ _)
    · exact hlost

theorem openRest_keepsIntake (e : FifoEntry) (l : List (List Word)) (m : Mach) : m.keepsIntake (m.openRest e l) := by
  induction l generalizing m with
  | nil => exact keepsIntake_refl m
  | cons s l ih =>
    unfold Mach.openRest
    have h := openOne_keepsIntake m e s false (!l.isEmpty) false
    split
    · rename_i x heq; rw [heq] at h; exact keepsIntake_trans h (ih x)
    · rename_i x heq; rw [heq] at h; exact h

theorem openRec_keepsIntake (m : Mach) (e : FifoEntry) : m.keepsIntake (m.openRec e) := by
  unfold Mach.openRec
  extract_lets prior x
  have hx : m.keepsIntake x := keepsIntake_onCoil m rfl
  split
  · exact keepsIntake_trans hx (openOne_keepsIntake x _ _ _ _ _)
  · rename_i s l _
    have h := keepsIntake_trans hx (openOne_keepsIntake x e s true (!l.isEmpty) (prior || e.continued))
    split
    · rename_i y heq; rw [heq] at h; exact keepsIntake_trans h (openRest_keepsIntake e l y)
    · rename_i y heq; rw [heq] at h; exact h

theorem rewriteRec_keepsIntake (m : Mach) (o : OpenRec) : m.keepsIntake (m.rewriteRec o) := by
  unfold Mach.rewriteRec
  have h := foldRec_keepsIntake m o
  split
  rename_i x rest sat heq
  rw [heq] at h
  split
  · have hclosed := keepsIntake_trans h (keepsIntake_trans (closeRec_keepsIntake x { o with pending := [] } true) (coilEvent_keepsIntake _ 3))
    dsimp only
    split
    · exact hclosed
    · exact keepsIntake_trans hclosed (openRec_keepsIntake _ _)
  · exact h

theorem newSegment_keepsIntake (m : Mach) (w : Nat) : m.keepsIntake (m.newSegment w) := by
  unfold Mach.newSegment
  extract_lets folded closed x ep
  have hfolded : m.keepsIntake folded := keepsIntake_foldl rewriteRec_keepsIntake _ m
  have hclosed : folded.keepsIntake closed := keepsIntake_foldl (fun y o => closeRec_keepsIntake y o true) _ _
  exact keepsIntake_trans (keepsIntake_trans hfolded hclosed) (openRec_keepsIntake x _)

/-- An event handed to the recorder. -/
theorem intake_keepsIntake (m : Mach) (p c s a : Nat) (t : Word) (sn : List Word) (cut : Bool) : m.keepsIntake (m.intake p c s a t sn cut) := by
  unfold Mach.intake
  split
  · exact keepsIntake_count ..
  · extract_lets w x
    have hx : m.keepsIntake x := by
      unfold x
      split
      · exact newSegment_keepsIntake m w
      · exact keepsIntake_refl m
    split
    · exact keepsIntake_trans hx (keepsIntake_onCoil x rfl)
    · split
      · exact keepsIntake_trans hx (keepsIntake_onCoil x rfl)
      · exact keepsIntake_trans hx (coilEvent_keepsIntake (x.count COIL_INTAKE_LOSS) 0)

theorem event_keepsIntake (m : Mach) (q b : Nat) (a : Attr) : m.keepsIntake (m.event q b a) := by
  have hsignal : ∀ x : Mach, x.keepsIntake (x.signal q b) := fun x => by
    unfold Mach.signal
    split
    · exact keepsIntake_irq x q
    · exact keepsIntake_refl x
  unfold Mach.event
  extract_lets x y
  refine keepsIntake_trans (b := y) ?_ (hsignal y)
  unfold y
  split
  · exact intake_keepsIntake x ..
  · exact keepsIntake_refl m

/-! ### The flush begins and ends (R382) -/

/-- A power fail, or a reset, that finds the recorder taking events. -/
theorem powerFail_shows {m : Mach} (h : m.coil.intake = true) : m.powerFail.coil.intake = false ∧ m.powerFail.coil.flushing = true
    ∧ m.powerFail.coil.flushAt = m.now ∧ m.powerFail.rim.queue = [] ∧ m.powerFail.cmd.loads = [] ∧ .msix 2 ∈ m.powerFail.outs := by
  unfold Mach.powerFail
  rw [if_neg (by rw [h]; decide)]
  extract_lets x y z
  have hnow : y.now = m.now := within_now (openRec_within x _)
  have hout : .msix 2 ∈ y.outs := (openRec_keepsIntake x _).2 _ (List.mem_cons_self ..)
  clear_value y
  exact ⟨rfl, rfl, hnow, rfl, rfl, hout⟩

theorem powerFail_rst (m : Mach) : m.powerFail.rst = m.rst := rst_of_touch (Mach.powerFail_touch m) rfl

/-- The flush begins at the instant of the command. -/
theorem flushBegun_powerFail {s : State} {t : Nat} {y : Mach} (hnow : y.now = (s.m.advance t).now) (h : y.coil.intake = true) :
    s.m.flushBegun y.powerFail t := by
  obtain ⟨hintake, hflushing, hat, hqueue, hloads, hout⟩ := powerFail_shows h
  exact ⟨hintake, hflushing, hat.trans hnow, hqueue, hloads, hout⟩

theorem powerFail_stopped {m : Mach} (h : m.coil.intake = false) : m.powerFail = m := by
  unfold Mach.powerFail
  rw [h]
  rfl

theorem coilEvent_evt (m : Mach) {b : Nat} (hb : b < 32) : (m.coilEvent b).evt 0x07 b = true := by
  have hlatch : (m.latch 0x07 b).evt 0x07 b = true := evt_latch m 7 b (by simp [hb])
  unfold Mach.coilEvent
  extract_lets x
  split
  · split <;> exact hlatch
  · exact hlatch

theorem coilEvent_fld (m : Mach) (b : Nat) {f : Fd} (h : Fd.clear (hEvt 0x07) f = true) : (m.coilEvent b).fld f = m.fld f := by
  have hset : ∀ v, (m.setFld (hEvt 0x07) 0 v).fld f = m.fld f := fun v => fld_set_clear _ _ _ _ _ _ h
  unfold Mach.coilEvent
  extract_lets x
  split
  · split <;> exact hset _
  · exact hset _

theorem coilEvent_coil (m : Mach) (b : Nat) : (m.coilEvent b).coil = m.coil := by
  unfold Mach.coilEvent
  extract_lets x
  split
  · split <;> rfl
  · rfl

/-- The end of a flush: its image in flash, counted, or a failure noted (R383). -/
theorem flushDone_shows {m : Mach} (ok : Bool) (h : m.coil.flushing = true) :
    (m.flushDone ok).coil = { m.coil with flushing := false } ∧ (m.flushDone ok).rst = m.rst
      ∧ (ok = false → (m.flushDone ok).flash = { m.flash with gaspFailed := true })
      ∧ (ok = true → (m.flushDone ok).flash = (if olderArea m then { m.flash with gasp1 := some (flushImage m), gaspFailed := false }
            else { m.flash with gasp0 := some (flushImage m), gaspFailed := false })
          ∧ (m.flushDone ok).fld (COIL_CNT_n.nth 5) = (m.fld (COIL_CNT_n.nth 5) + 1) % 2 ^ 32 ∧ (m.flushDone ok).evt 0x07 4 = true) := by
  have hrst : (m.flushDone ok).rst = m.rst := rst_of_touch (Mach.flushDone_touch m ok) rfl
  refine ⟨?_, hrst, ?_, ?_⟩ <;> unfold Mach.flushDone <;> rw [if_neg (by rw [h]; decide)]
  · cases ok with
    | true => exact coilEvent_coil ..
    | false => rfl
  · rintro rfl
    rfl
  · rintro rfl
    refine ⟨within_flash (coilEvent_within _ 4), ?_, coilEvent_evt _ (by decide)⟩
    exact (coilEvent_fld _ 4 rfl).trans (fld_count _ _ 0 1 rfl)

/-! ### A module reset (R407, R408) -/

/-- Nothing but the registers changed. -/
def Mach.onlyRegs (m m' : Mach) : Prop := ∃ r, m' = { m with regs := r }

theorem onlyRegs_trans {a b c : Mach} (h : a.onlyRegs b) (g : b.onlyRegs c) : a.onlyRegs c := by
  obtain ⟨r, rfl⟩ := h
  obtain ⟨r', rfl⟩ := g
  exact ⟨r', rfl⟩

theorem onlyRegs_setFld (m : Mach) (f : Fd) (i v : Nat) : m.onlyRegs (m.setFld f i v) := ⟨_, rfl⟩

theorem onlyRegs_setFlag (m : Mach) (f : Fd) (i : Nat) (b : Bool) : m.onlyRegs (m.setFlag f i b) := ⟨_, rfl⟩

theorem onlyRegs_each {α : Type} (l : List α) (f : α → Mach → Mach) (h : ∀ a y, Mach.onlyRegs y (f a y)) (m : Mach) :
    m.onlyRegs (m.each l f) :=
  each_inv (fun y => m.onlyRegs y) l f m (fun a y hy => onlyRegs_trans hy (h a y)) ⟨m.regs, rfl⟩

/-- What precedes the reset leaves the boot count and the state of the Rim. -/
theorem dropStore_fld (m : Mach) {f : Fd} (h : (decide (f.off < 4096) && (f.page == 0x03 || f.page == 0x31)) = true) :
    m.dropStore.drawWord.2.fld f = m.fld f := by
  simp only [Bool.and_eq_true, decide_eq_true_eq, Bool.or_eq_true, beq_iff_eq] at h
  exact fld_touch (Mach.dropStore_touch m) f 0 (by rcases h with ⟨hoff, hpage | hpage⟩ <;> simp [hoff, hpage] <;> decide)

theorem moduleReset_shows (m : Mach) {c : Nat} (hc : c < 8) : m.resetWith (m.moduleReset c) c := by
  have hboot := dropStore_fld m (f := TWN_BOOT_n) rfl
  have hstate := dropStore_fld m (f := RIM_STS_state) rfl
  unfold Mach.moduleReset
  extract_lets was0
  split
  rename_i session was hdraw
  have hwas : was = m.dropStore.drawWord.2 := (congrArg Prod.snd hdraw).symm
  rw [← hwas] at hboot hstate
  extract_lets force pins fresh x y z
  have hz : z.fld RIM_STS_state = was.fld RIM_STS_state := by
    unfold z y
    rw [fld_set_clear _ _ _ _ _ _ rfl, fld_set_clear _ _ _ _ _ _ rfl, fld_flag_clear _ _ _ _ _ _ rfl, fld_set _ _ _ _ rfl]
    exact Nat.mod_eq_of_lt (fld_lt was RIM_STS_state 0)
  have hn : z.fld TWN_BOOT_n = (was.fld TWN_BOOT_n + 1) % 2 ^ 16 := fld_set _ TWN_BOOT_n 0 _ rfl
  have hcause := fld_set z RST_STS_cause 0 c rfl
  have hkeptState := fld_set_clear z RST_STS_cause RIM_STS_state 0 0 c rfl
  have hkeptBoot := fld_set_clear z RST_STS_cause TWN_BOOT_n 0 0 c rfl
  have hregs : fresh.onlyRegs (z.setFld RST_STS_cause 0 c) := by
    have hx : fresh.onlyRegs x := onlyRegs_each force _ (fun _ _ => ⟨_, rfl⟩) fresh
    exact onlyRegs_trans hx (onlyRegs_trans (onlyRegs_trans (onlyRegs_setFld x _ _ _) (onlyRegs_setFlag _ _ _ _))
      (onlyRegs_trans (onlyRegs_trans (onlyRegs_setFld y _ _ _) (onlyRegs_setFld _ _ _ _)) (onlyRegs_setFld z _ _ _)))
  generalize z.setFld RST_STS_cause 0 c = w at hcause hkeptState hkeptBoot hregs ⊢
  obtain ⟨r, rfl⟩ := hregs
  refine ⟨rfl, hcause.trans (Nat.mod_eq_of_lt hc), ?_, rfl, ?_, rfl, rfl, List.mem_cons_self ..⟩
  · rw [← hboot, ← hn]
    exact hkeptBoot
  · rw [← hstate, ← hz]
    exact hkeptState

/-- A reset after something that left the boot count and the state of the Rim. -/
theorem moduleReset_after {m y : Mach} {c : Nat} (hc : c < 8) (hboot : y.fld TWN_BOOT_n = m.fld TWN_BOOT_n)
    (hstate : y.fld RIM_STS_state = m.fld RIM_STS_state) : m.resetWith (y.moduleReset c) c := by
  obtain ⟨hpow, hcause, hn, hrst, hrim, hintake, htimers, hrdy⟩ := moduleReset_shows y hc
  exact ⟨hpow, hcause, by rw [hn, hboot], hrst, hrim.trans hstate, hintake, htimers, hrdy⟩

/-! ### What a violation leaves of the boot word (R387, R404) -/

/-- A field of the Rim's page beside what a violation writes. -/
def beyondViolation (f : Fd) : Bool :=
  Fd.clear RIM_LATCH_src f && Fd.clear RIM_VIOL_CNT_n f && Fd.clear RIM_STS_state f && Fd.clear RIM_STS_cause f && Fd.clear RIM_STS_dbg f
    && Fd.clear RIM_GEN_gen f && Fd.clear RIM_STS_gen_out f && Fd.clear RIM_ZEROISE_CNT_n f && Fd.noEvt 3 f && Fd.noEvt 4 f && f.page == 0x03

/-- A field of the Rim's page reads as before an operation that touches no word of it. -/
theorem rimFld_touch {A P : Nat} {m m' : Mach} {f : Fd} (h : m.touch A P m') (hP : P.testBit 0x03 = false) (hf : beyondViolation f = true) :
    m'.fld f = m.fld f := by
  simp only [beyondViolation, Fd.noEvt, Fd.fit, Bool.and_eq_true, beq_iff_eq, decide_eq_true_eq] at hf
  obtain ⟨⟨-, ⟨⟨⟨-, hoff⟩, -⟩, -⟩, -⟩, hpage⟩ := hf
  exact fld_touch h f 0 (by simp [hpage, hoff, hP])

theorem advanceGen_fld (m : Mach) {f : Fd} (hf : beyondViolation f = true) : m.advanceGen.fld f = m.fld f := by
  simp only [beyondViolation, Bool.and_eq_true] at hf
  unfold Mach.advanceGen
  rw [fld_flag_clear _ _ _ _ _ _ (by simp only [hf]), fld_set_clear _ _ _ _ _ _ (by simp only [hf])]

theorem debugLock_fld (m : Mach) {f : Fd} (hf : beyondViolation f = true) : m.debugLock.fld f = m.fld f := by
  simp only [beyondViolation, Bool.and_eq_true] at hf
  exact fld_set_clear m RIM_STS_dbg f 0 0 0 (by simp only [hf])

theorem lock_fld (m : Mach) (c : Nat) {f : Fd} (hf : beyondViolation f = true) : (m.lock c).fld f = m.fld f := by
  have hclear := hf
  simp only [beyondViolation, Bool.and_eq_true] at hclear
  unfold Mach.lock
  rw [rimFld_touch (Mach.dropLoads_touch ..) rfl hf, debugLock_fld _ hf, fld_eventAlways _ _ _ _ _ _ (by simp only [hclear]),
    fld_set_clear _ _ _ _ _ _ (by simp only [hclear]), fld_set_clear _ _ _ _ _ _ (by simp only [hclear])]

theorem zeroise_fld (m : Mach) (c : Nat) {f : Fd} (hf : beyondViolation f = true) : (m.zeroise c).fld f = m.fld f := by
  have hclear := hf
  simp only [beyondViolation, Bool.and_eq_true] at hclear
  unfold Mach.zeroise
  extract_lets x emptied k4 counted older y
  have hx : x.fld f = m.fld f := by
    unfold x
    rw [fld_set_clear _ _ _ _ _ _ (by simp only [hclear]), fld_set_clear _ _ _ _ _ _ (by simp only [hclear])]
  have hemptied : emptied.fld f = x.fld f := each_keep (fun y => y.fld f) _ _ _ fun a y => rimFld_touch (Mach.emptySlot_touch y a) rfl hf
  have hcounted : counted.fld f = emptied.fld f := by
    unfold counted k4
    rw [fld_eventAlways _ _ _ _ _ _ (by simp only [hclear]), fld_count_clear _ _ _ _ _ _ (by simp only [hclear]),
      fld_event _ _ _ _ _ _ (by simp only [hclear])]
  have holder : older.fld f = counted.fld f := by
    unfold older
    split
    · exact advanceGen_fld _ hf
    · rfl
  rw [rimFld_touch (Mach.twnWitness_touch _) rfl hf, rimFld_touch (Mach.dropLoads_touch ..) rfl hf, rimFld_touch (Mach.newSession_touch _) rfl hf,
    debugLock_fld _ hf, ← hx, ← hemptied, ← hcounted, ← holder]
  rfl

theorem violate_fld (m : Mach) (srcs : List Nat) {f : Fd} (hf : beyondViolation f = true) : (m.violate srcs).fld f = m.fld f := by
  have hclear := hf
  simp only [beyondViolation, Bool.and_eq_true] at hclear
  unfold Mach.violate
  extract_lets x
  have hx : x.fld f = m.fld f := each_keep (fun y => y.fld f) _ _ _ fun s y => fld_logSource y s f 0 (by simp only [hclear, Bool.and_self])
  split
  · exact (zeroise_fld x _ hf).trans hx
  · split
    · split
      · exact (lock_fld x _ hf).trans hx
      · exact hx
    · exact hx

/-! ### The banks at a start (R403, R404) -/

/-- A bank found invalid fires source 6. -/
def Mach.condemn (m : Mach) (valid : Bool) : Mach := if valid then m else m.violate [6]

theorem condemn_fld (m : Mach) (valid : Bool) {f : Fd} (hf : beyondViolation f = true) : (m.condemn valid).fld f = m.fld f := by
  unfold Mach.condemn
  split
  · rfl
  · exact violate_fld m _ hf

theorem condemn_touch (m : Mach) (valid : Bool) : m.touch 0x11f9cf90a 0x72ffff00071818 (m.condemn valid) := by
  unfold Mach.condemn
  split
  · exact touch_refl _ _ _
  · exact Mach.violate_touch ..

/-- The lid and the mesh looked at, and an erasure of keys completed (R392). -/
def Mach.lookedAt (m : Mach) (b : BootInput) : Mach :=
  let m := m.onRim fun r => { r with lidOpen := b.lidOpen, fired := (if b.lidOpen then [0] else []) ++ (if r.meshCut then [1] else []) }
  if m.rim.erasing then (m.onRim fun r => { r with erasing := false }).advanceGen else m

theorem lookedAt_shows (m : Mach) (b : BootInput) : (m.lookedAt b).flash = m.flash ∧ (m.lookedAt b).rst = m.rst
    ∧ (m.lookedAt b).force = m.force ∧ ∀ f, beyondViolation f = true → (m.lookedAt b).fld f = m.fld f := by
  unfold Mach.lookedAt
  extract_lets x
  split
  · exact ⟨rfl, rfl, rfl, fun f hf => advanceGen_fld _ hf⟩
  · exact ⟨rfl, rfl, rfl, fun _ _ => rfl⟩

/-- Is a bank valid at this start? -/
def bankFound (m : Mach) (b : BootInput) (n : Nat) : Bool :=
  if n = 0 then bankValid m m.flash.bank0 b.valid0 else bankValid m m.flash.bank1 b.valid1

/-- The banks verified: what is valid is shown, and each invalid one fires source 6. -/
def Mach.banksVerified (m : Mach) (b : BootInput) : Mach :=
  (((m.lookedAt b).setFld RIM_BOOT_valid 0 ((bankFound (m.lookedAt b) b 1).toNat * 2 + (bankFound (m.lookedAt b) b 0).toNat)).condemn
    (bankFound (m.lookedAt b) b 0)).condemn (bankFound (m.lookedAt b) b 1)

theorem lookedAt_bankFound (m : Mach) (b : BootInput) (n : Nat) : bankFound (m.lookedAt b) b n = bankFound m b n := by
  obtain ⟨hflash, -, -, hfld⟩ := lookedAt_shows m b
  unfold bankFound bankValid
  rw [hflash, hfld RIM_BOOT_sv_min rfl]

theorem banksVerified_shows (m : Mach) (b : BootInput) : (m.banksVerified b).rst = m.rst ∧ (m.banksVerified b).force = m.force
    ∧ (m.banksVerified b).fld RIM_BOOT_sel = m.fld RIM_BOOT_sel
    ∧ (m.banksVerified b).fld RIM_BOOT_valid = (bankFound m b 1).toNat * 2 + (bankFound m b 0).toNat := by
  obtain ⟨-, hrst, hforce, hfld⟩ := lookedAt_shows m b
  unfold Mach.banksVerified
  refine ⟨?_, ?_, ?_, ?_⟩
  · rw [rst_of_touch (condemn_touch ..) rfl, rst_of_touch (condemn_touch ..) rfl]
    exact hrst
  · rw [force_of_touch (condemn_touch ..) rfl, force_of_touch (condemn_touch ..) rfl]
    exact hforce
  · rw [condemn_fld _ _ rfl, condemn_fld _ _ rfl, fld_set_clear _ _ _ _ _ _ rfl, hfld _ rfl]
  · rw [condemn_fld _ _ rfl, condemn_fld _ _ rfl, fld_set _ _ _ _ rfl, lookedAt_bankFound, lookedAt_bankFound]
    exact Nat.mod_eq_of_lt (by cases bankFound m b 0 <;> cases bankFound m b 1 <;> decide)

/-- With no valid bank the start ends in recovery. -/
theorem bootStep_none {m : Mach} {b : BootInput} (h : ∀ n, bankFound m b n = false) :
    m.bootStep b = ((m.banksVerified b).onRst fun r => { r with recovery := true, starting := false }, false) := by
  have hnone : ∀ n, bankFound (m.lookedAt b) b n = false := fun n => (lookedAt_bankFound m b n).trans (h n)
  exact (if_neg (by rw [Bool.not_eq_true]; exact hnone _)).trans (if_neg (by rw [Bool.not_eq_true]; exact hnone _))

/-- The selected bank is booted if it is valid. -/
theorem bootStep_selected {m : Mach} {b : BootInput} (h : bankFound m b (m.fld RIM_BOOT_sel) = true) :
    m.bootStep b = ((m.banksVerified b).bootBank (m.fld RIM_BOOT_sel), true) := by
  obtain ⟨-, -, hsel, -⟩ := banksVerified_shows m b
  refine (if_pos (c := bankFound (m.lookedAt b) b ((m.banksVerified b).fld RIM_BOOT_sel) = true) ?_).trans ?_
  · rw [lookedAt_bankFound, hsel, h]
  · show ((m.banksVerified b).bootBank ((m.banksVerified b).fld RIM_BOOT_sel), true) = _
    rw [hsel]

/-- What a booted bank shows. -/
theorem bootBank_shows (m : Mach) {n : Nat} (hn : n < 2) : (m.bootBank n).fld RIM_STS_bank = n ∧ (m.bootBank n).fld GLB_FW_bank = n
    ∧ (m.bootBank n).rst = m.rst ∧ (m.bootBank n).force = m.force := by
  unfold Mach.bootBank
  refine ⟨?_, ?_, rfl, rfl⟩
  · rw [fld_set_clear _ _ _ _ _ _ rfl, fld_set_clear _ _ _ _ _ _ rfl, fld_set_clear _ _ _ _ _ _ rfl, fld_set _ _ _ _ rfl]
    exact Nat.mod_eq_of_lt hn
  · rw [fld_set_clear _ _ _ _ _ _ rfl, fld_set _ _ _ _ rfl]
    exact Nat.mod_eq_of_lt hn

/-! ### A start (R404, R410, R411) -/

/-- A start begun, with what the boot ROM found, at step 1. -/
def Mach.begun (m : Mach) (b : Option BootInput) : Mach :=
  { m with rst := { m.rst with pg := true, reset := false, starting := true, began := m.now, boot := b } }

/-- A module that has been reset begins its start. -/
theorem powerOn_begins {s : State} {b : BootInput} {P : Mach → Prop} (t : Nat) (hreset : s.m.rst.reset = true)
    (hP : P ((s.m.advance t).begun (some b)).resumeStart) : Completes (.powerOn t b) s P := by
  refine completes_runOff (f := fun m => ((if m.rst.reset then m else m.moduleReset 0).onRst fun r => { r with pg := true }).start b) rfl ?_
  rw [if_pos (by exact hreset)]
  exact hP

/-- A start that the pace does not hold. -/
theorem powerOn_starts {s : State} {b : BootInput} {P : Mach → Prop} (t : Nat) (hreset : s.m.rst.reset = true)
    (hpace : s.m.fld PACE_STATE_state ≤ 1) (hintake : s.m.coil.intake = true) (hP : P (((s.m.advance t).begun none).startUp b)) :
    Completes (.powerOn t b) s P := by
  refine powerOn_begins t hreset ?_
  rw [(resumeStart_held (m := (s.m.advance t).begun (some b)) rfl).1 hpace hintake]
  exact hP

theorem startUp_none {m : Mach} {b : BootInput} (h : ∀ n, bankFound m b n = false) :
    m.startUp b = (m.banksVerified b).onRst fun r => { r with recovery := true, starting := false } := by
  unfold Mach.startUp
  rw [bootStep_none h]

/-- The module with the selected bank booted, in phase 1. -/
def Mach.booted (m : Mach) (b : BootInput) : Mach := ((m.banksVerified b).bootBank (m.fld RIM_BOOT_sel)).setFld RST_STS_phase 0 1

theorem booted_shows (m : Mach) (b : BootInput) : (m.booted b).fld RIM_STS_bank = m.fld RIM_BOOT_sel ∧ (m.booted b).fld GLB_FW_bank = m.fld RIM_BOOT_sel
    ∧ (m.booted b).fld RST_STS_phase = 1 ∧ (m.booted b).force = m.force := by
  obtain ⟨hbank, hfw, -, hforce⟩ := bootBank_shows (m.banksVerified b) (fld_lt m RIM_BOOT_sel 0)
  obtain ⟨-, hforce', -, -⟩ := banksVerified_shows m b
  unfold Mach.booted
  refine ⟨?_, ?_, fld_set _ _ _ _ rfl, hforce.trans hforce'⟩
  · rw [fld_set_clear _ _ _ _ _ _ rfl]
    exact hbank
  · rw [fld_set_clear _ _ _ _ _ _ rfl]
    exact hfw

/-- Memory that cannot be brought up ends the start in phase 1. -/
theorem startUp_memoryFails {m : Mach} {b : BootInput} (h : bankFound m b (m.fld RIM_BOOT_sel) = true) (hmem : b.memoryOk = false) :
    m.startUp b = (m.booted b).onRst fun r => { r with starting := false } := by
  unfold Mach.startUp
  rw [bootStep_selected h]
  exact if_pos (by rw [hmem]; rfl)

theorem startUp_memoryOk {m : Mach} {b : BootInput} (h : bankFound m b (m.fld RIM_BOOT_sel) = true) (hmem : b.memoryOk = true) :
    m.startUp b = ((m.booted b).presentImage.startSelfTest).imageStep := by
  unfold Mach.startUp
  rw [bootStep_selected h]
  exact if_neg (by rw [hmem]; decide)

/-- A start that stops is unconfigured, in phase 5. -/
theorem stopStart_shows (m : Mach) : m.stopStart.fld RST_STS_phase = 5 ∧ m.stopStart.rst.starting = false := by
  unfold Mach.stopStart
  refine ⟨?_, ?_⟩
  · rw [fld_touch (Mach.fireStart_touch _) _ _ rfl, fld_set _ _ _ _ rfl]
    rfl
  · rw [rst_of_touch (Mach.fireStart_touch _) rfl]
    rfl

/-- Without autoload the start stops before the image. -/
theorem imageStep_noAutoload {m : Mach} (h : m.on RST_CTRL_autoload = false) : ∃ y : Mach, m.imageStep = y.stopStart :=
  ⟨_, if_pos (by show (!m.on RST_CTRL_autoload) = true; rw [h]; rfl)⟩

/-! ### RST_CMD (R407, R414) -/

/-- Nothing rejects a key written to RST_CMD: it is no configuration. -/
theorem wordRefusal_rstCmd (m : Mach) (src : Src) {v : Nat} (hv : v = 0x5EA10004 ∨ v = 0x5EA10005) :
    wordRefusal m src 0x01 0x044 v = none := by
  have hconfig : configWrite m 0x01 0x044 v = false := rfl
  have hrun : secondRun m 0x01 0x044 v = false := rfl
  unfold wordRefusal
  simp only [hconfig, hrun, Bool.and_false, Bool.or_self, Bool.false_eq_true, if_false]
  rw [if_neg (by decide)]
  have hspecial : specialRefusal m 0x01 0x044 v 0 = none := if_pos hv
  have hopen : ∀ x : Bool, ¬ (x && false) = true := fun x => by rw [Bool.and_false]; decide
  rcases hv with rfl | rfl <;> exact (if_neg (hopen _)).trans hspecial

/-- A key of RST_CMD written by a source that may write: the write is audited, and the command follows. -/
theorem fullWrite_rstCmd {m : Mach} {src : Src} (hs : m.mayWrite src) {v : Word} (hv : v.toNat = 0x5EA10004 ∨ v.toNat = 0x5EA10005) :
    ∃ k : Mach, m.alike k ∧ (m.fullWrite src 0x01 0x044 v).1 = (k.auditWrite 0x01 src 0x044 v).rstCommand v.toNat := by
  obtain ⟨d, hfind, hhi, hsel, hset, hclr, hone⟩ : ∃ d, findReg 0x01 0x044 = some d ∧ d.hiOff = none ∧ isSelector 0x01 d = false
      ∧ accMask d [.rw, .rwl] = 0 ∧ accMask d [.w1c] = 0 ∧ selIndex m d = 0 := ⟨_, rfl, rfl, rfl, rfl, rfl, rfl⟩
  have hstore : m.storeWord 0x01 0x044 0 v = m.setReg 0x01 0x044 0 (m.reg 0x01 0x044 0) := by
    unfold Mach.storeWord
    rw [hfind]
    have hones : ∀ x : Word, x &&& 4294967295#32 = x := fun x => BitVec.and_allOnes
    simp [hset, hclr, word, hones]
  have hlow : lowOffsets 0x01 0x044 = [] := rfl
  have hblock : m.writeBlockReg src 0x01 0x044 v d = (m.setReg 0x01 0x044 0 (m.reg 0x01 0x044 0)).auditWrite 0x01 src 0x044 v := by
    unfold Mach.writeBlockReg
    simp only [hhi, hone, hlow, hsel, hstore, Option.isSome_none, Bool.false_eq_true, if_false, List.filterMap_nil, Mach.each,
      List.foldl_nil, Mach.dropLows]
    rfl
  have hword := writeWord_block hs (page := 0x01) (off := 0x044) rfl (by decide) hfind (wordRefusal_rstCmd m src hv)
  refine ⟨m.setReg 0x01 0x044 0 (m.reg 0x01 0x044 0), ⟨rfl, fun p o i hp ho => reg_setReg_self m (by decide) (by decide) hp ho⟩, ?_⟩
  unfold Mach.fullWrite
  rw [hword, hblock]
  dsimp only
  rw [if_pos ⟨rfl, rfl, debugIgnored_false hs 0x01 0x044⟩]

/-- What an accepted write of RST_CMD leaves for its command. -/
def Mach.commandSeen (m y : Mach) : Prop :=
  y.now = m.now ∧ y.coil.intake = m.coil.intake ∧ y.rst = m.rst ∧ y.force = m.force ∧ y.adm = m.adm ∧ y.bulk = m.bulk ∧ y.flash = m.flash
    ∧ rimLocked y = rimLocked m

theorem commandSeen_audited {m k : Mach} (h : m.alike k) (src : Src) (v : Word) : m.commandSeen (k.auditWrite 0x01 src 0x044 v) := by
  have hwithin : k.within recPage (k.auditWrite 0x01 src 0x044 v) := audit_within k _ _ _
  have hintake : (k.auditWrite 0x01 src 0x044 v).coil.intake = k.coil.intake := (intake_keepsIntake k ..).1
  have hstate : (k.auditWrite 0x01 src 0x044 v).fld RIM_STS_state = m.fld RIM_STS_state :=
    (within_fld hwithin _ _ (by decide) (by decide) (by simp [recPage, RIM_STS_state])).trans (alike_fld h _ _ (by decide) (by decide))
  have hk := h.1
  refine ⟨(within_now hwithin).trans ?_, hintake.trans ?_, (within_rst hwithin).trans ?_, (within_force hwithin).trans ?_,
    (within_adm hwithin).trans ?_, (within_bulk hwithin).trans ?_, (within_flash hwithin).trans ?_, ?_⟩
  case refine_8 => unfold rimLocked; rw [hstate]
  all_goals rw [hk]

/-- The write of a key of RST_CMD, and the command that follows it. -/
theorem completes_rstCmd {c : Instr} {s : State} {t : Nat} {src : Src} {v : Word} {P : Mach → Prop}
    (h : exec c s = s.run t fun m => (m.fullWrite src 0x01 0x044 v).1) (hpow : s.m.powered = true) (hs : s.m.mayWrite src)
    (hv : v.toNat = 0x5EA10004 ∨ v.toNat = 0x5EA10005) (hP : ∀ y, (s.m.advance t).commandSeen y → P (y.rstCommand v.toNat)) :
    Completes c s P := by
  obtain ⟨k, hk, hwrite⟩ := fullWrite_rstCmd (m := s.m.advance t) hs hv
  refine completes_run h hpow ?_
  rw [hwrite]
  exact hP _ (commandSeen_audited hk src v)

/-! ### The application of an image (R414) -/

/-- The end of an application as RST_STS shows it. -/
theorem imageEnd_shows (m : Mach) {v b : Nat} (hv : v < 4) (hb : b < 32) : ((m.setFld RST_STS_img 0 v).event 0x01 b).fld RST_STS_img = v
    ∧ ((m.setFld RST_STS_img 0 v).event 0x01 b).evt 0x01 b = true ∧ ((m.setFld RST_STS_img 0 v).event 0x01 b).force = m.force
    ∧ ((m.setFld RST_STS_img 0 v).event 0x01 b).adm = m.adm := by
  refine ⟨?_, evt_event _ _ _ _ (by simp [hb]), Mach.event_force _ _ _ _ (by decide), Mach.event_adm _ _ _ _ (by decide)⟩
  rw [fld_event _ _ _ _ _ _ rfl, fld_set _ _ _ _ rfl]
  exact Nat.mod_eq_of_lt hv

theorem loadImage_invalid {m : Mach} (h : imageValid m (m.cfg RST_CTRL_img_sel) = false) :
    m.loadImage.1 = (m.setFld RST_STS_img 0 3).event 0x01 2 :=
  congrArg Prod.fst (if_pos (by rw [h]; rfl))

theorem loadImage_locked {m : Mach} (h : imageValid m (m.cfg RST_CTRL_img_sel) = true) (hlock : rimLocked m = true) :
    m.loadImage.1 = (m.setFld RST_STS_img 0 2).event 0x01 2 :=
  congrArg Prod.fst ((if_neg (by rw [h]; decide)).trans (if_pos hlock))

/-- An image applied, or refused on the way. -/
theorem loadImage_tried {m : Mach} (h : imageValid m (m.cfg RST_CTRL_img_sel) = true) (hlock : rimLocked m = false) :
    m.loadImage.1 = if (m.applyImage (imageArea m (m.cfg RST_CTRL_img_sel))).2
      then ((m.applyImage (imageArea m (m.cfg RST_CTRL_img_sel))).1.setFld RST_STS_img 0 1).event 0x01 1
      else ((m.applyImage (imageArea m (m.cfg RST_CTRL_img_sel))).1.setFld RST_STS_img 0 2).event 0x01 2 := by
  unfold Mach.loadImage
  extract_lets area
  rw [if_neg (by show ¬ (!imageValid m (m.cfg RST_CTRL_img_sel)) = true; rw [h]; decide), if_neg (by rw [hlock]; decide)]
  obtain ⟨y, ok⟩ := m.applyImage (imageArea m (m.cfg RST_CTRL_img_sel))
  cases ok <;> rfl

/-- The image a command of RST_CMD finds is that of the module before the write. -/
theorem commandSeen_image {m y : Mach} (h : m.commandSeen y) : y.cfg RST_CTRL_img_sel = m.cfg RST_CTRL_img_sel
    ∧ imageArea y (m.cfg RST_CTRL_img_sel) = imageArea m (m.cfg RST_CTRL_img_sel)
    ∧ imageValid y (m.cfg RST_CTRL_img_sel) = imageValid m (m.cfg RST_CTRL_img_sel) ∧ rimLocked y = rimLocked m := by
  obtain ⟨-, -, -, hforce, -, -, hflash, hlock⟩ := h
  exact ⟨cfg_of_force hforce _ _, by unfold imageArea; rw [hflash], imageValid_flash _ _ _ hflash, hlock⟩

/-! ### The watchdog (R407) -/

theorem armWatchdog_deadline (m : Mach) : m.armWatchdog.deadline .watchdog
    = if m.cfg RST_WDOG_timeout = 0 then none else some (m.now + m.cfg RST_WDOG_timeout * 1000000) := by
  unfold Mach.armWatchdog
  extract_lets d
  split
  · exact deadline_disarm_same ..
  · exact deadline_arm_same ..

/-- The watchdog's expiry, counted. -/
def Mach.watchdogCounted (m : Mach) : Mach := (m.count RST_WDOG_EXP_n).event 0x01 4

theorem watchdogCounted_shows (m : Mach) : m.watchdogCounted.fld RST_WDOG_EXP_n = (m.fld RST_WDOG_EXP_n + 1) % 2 ^ 32
    ∧ m.watchdogCounted.evt 0x01 4 = true ∧ m.watchdogCounted.rst = m.rst ∧ m.watchdogCounted.coil.intake = m.coil.intake
    ∧ m.watchdogCounted.now = m.now ∧ m.watchdogCounted.on RST_WDOG_act = m.on RST_WDOG_act :=
  ⟨(fld_event _ _ _ _ _ _ rfl).trans (fld_count m RST_WDOG_EXP_n 0 1 rfl), evt_event _ _ _ _ rfl, Mach.event_rst _ _ _ _ (by decide),
    (event_keepsIntake (m.count RST_WDOG_EXP_n) _ _ _).1, Mach.event_now _ _ _ _ (by decide), on_of_force (Mach.event_force _ _ _ _ (by decide)) _ _⟩

/-! ### The pins and the flush -/

/-- PG_IN falls. -/
def Mach.pgFall (m : Mach) : Mach :=
  if m.powered then (m.onRst fun r => { r with pg := false }).powerFail else m.onRst fun r => { r with pg := false }

/-- A further fall, or one of a module that is off, is only noted. -/
theorem pgFall_noted {m : Mach} (h : m.powered = false ∨ m.coil.intake = false) : m.pgFall = m.onRst fun r => { r with pg := false } := by
  unfold Mach.pgFall
  split
  · rename_i hpow
    exact powerFail_stopped (h.resolve_left (by rw [hpow]; decide))
  · rfl

/-- PG_IN rises on a running module (R382). -/
theorem pgRise_running {m : Mach} (hpow : m.powered = true) : m.pgRise = if m.coil.intake then m.onRst fun r => { r with pg := true }
    else if m.coil.flushing then (m.onRst fun r => { r with pg := true }).setCause 4
    else (m.onRst fun r => { r with pg := true }).moduleReset 0 :=
  if_neg (by show ¬ (!m.powered) = true; rw [hpow]; decide)

/-- PG_IN rises on a module that is off and cool enough (R435). -/
theorem pgRise_off {m : Mach} (hpow : m.powered = false) (htj : asSigned 16 (m.fld GLB_TJ_tj) ≤ 950) :
    m.pgRise = (m.onRst fun r => { r with pg := true }).moduleReset 0 :=
  (if_pos (by show (!m.powered) = true; rw [hpow]; rfl)).trans
    (if_pos (by show (!m.powered && true && decide (asSigned 16 (m.fld GLB_TJ_tj) ≤ 950)) = true; rw [hpow, decide_eq_true htj]; rfl))

/-- The end of a flush that a reset does not follow. -/
theorem flushEnd_stays {m : Mach} (ok : Bool) (h : m.coil.flushing = true) (hstay : m.coil.intake = true ∨ (m.rst.trip = false ∧ m.rst.cause = none)) :
    m.flushEnd ok = m.flushDone ok := by
  obtain ⟨hcoil, hrst, -, -⟩ := flushDone_shows ok h
  unfold Mach.flushEnd
  rw [if_neg (by rw [h]; decide)]
  dsimp only
  rw [hcoil, hrst]
  rcases hstay with hin | ⟨htrip, hcause⟩
  · exact if_pos hin
  · split
    · rfl
    · rw [htrip, hcause]
      rfl

/-- The end of a flush with a cause remembered (R407). -/
theorem flushEnd_resets {m : Mach} {c : Nat} (ok : Bool) (h : m.coil.flushing = true) (hin : m.coil.intake = false) (htrip : m.rst.trip = false)
    (hcause : m.rst.cause = some c) : m.flushEnd ok = (m.flushDone ok).moduleReset c := by
  obtain ⟨hcoil, hrst, -, -⟩ := flushDone_shows ok h
  unfold Mach.flushEnd
  rw [if_neg (by rw [h]; decide)]
  dsimp only
  rw [hcoil, hrst, htrip, hcause]
  exact if_neg (by rw [hin]; decide)

theorem flushEnd_idle {m : Mach} (ok : Bool) (h : m.coil.flushing = false) : m.flushEnd ok = m := if_pos (by rw [h]; rfl)

/-- Settles O43: pins and resets by the state of the recorder, RST_CMD by the image it finds, a start by the banks. -/
theorem powerAndResetFollowTheFlush : Obligations.PowerAndResetFollowTheFlush := by
  unfold Obligations.PowerAndResetFollowTheFlush
  refine ⟨?_, ?_, ?_, ?_, ?_, ?_, ?_, ?_, ?_, ?_, ?_, ?_, ?_, ?_, ?_, ?_, ?_, ?_, ?_, ?_⟩
  case refine_1 =>
    intro s t hpow hin
    refine completes_runOff (f := Mach.pgFall) rfl ?_
    rw [show (s.m.advance t).pgFall = _ from if_pos hpow]
    exact ⟨flushBegun_powerFail rfl hin, powerFail_rst _⟩
  case refine_2 =>
    intro s t hstopped
    exact completes_runOff (f := Mach.pgFall) rfl (pgFall_noted (m := s.m.advance t) hstopped)
  case refine_3 =>
    intro s t hpow hin
    exact completes_runOff (f := Mach.pgRise) rfl ((pgRise_running (m := s.m.advance t) hpow).trans (if_pos hin))
  case refine_4 =>
    intro s t hpow hin hflush
    refine completes_runOff (f := Mach.pgRise) rfl ?_
    rw [pgRise_running (m := s.m.advance t) hpow, if_neg (by rw [show (s.m.advance t).coil.intake = false from hin]; decide),
      if_pos (by exact hflush)]
    rfl
  case refine_5 =>
    intro s t hpow hin hflush
    refine completes_runOff (f := Mach.pgRise) rfl ?_
    rw [pgRise_running (m := s.m.advance t) hpow, if_neg (by rw [show (s.m.advance t).coil.intake = false from hin]; decide),
      if_neg (by rw [show (s.m.advance t).coil.flushing = false from hflush]; decide)]
    exact moduleReset_after (by decide) rfl rfl
  case refine_6 =>
    intro s t hpow htj
    refine completes_runOff (f := Mach.pgRise) rfl ?_
    rw [pgRise_off (m := s.m.advance t) hpow htj]
    exact moduleReset_after (by decide) rfl rfl
  case refine_7 =>
    intro s t hpow hin
    refine completes_run (f := fun m => m.resetAfterFlush 1) rfl hpow ?_
    exact ⟨flushBegun_powerFail rfl hin, powerFail_rst _⟩
  case refine_8 =>
    intro s t src hpow hs hin
    refine completes_rstCmd rfl hpow hs (.inl rfl) fun y hy => ?_
    obtain ⟨hnow, hintake, hrst, -⟩ := hy
    refine ⟨flushBegun_powerFail (y := y.setCause 2) hnow (hintake.trans hin), (powerFail_rst _).trans ?_⟩
    show ({ y.rst with cause := some (y.rst.cause.getD 2) } : Rst) = _
    rw [hrst]
    rfl
  case refine_9 =>
    intro s t src hpow hs himage
    refine completes_rstCmd rfl hpow hs (.inr rfl) fun y hy => ?_
    obtain ⟨hsel, -, hvalid, -⟩ := commandSeen_image hy
    obtain ⟨-, -, -, hforce, hadm, -⟩ := hy
    obtain ⟨himg, hevt, hforce', hadm'⟩ := imageEnd_shows y (v := 3) (b := 2) (by decide) (by decide)
    rw [show y.rstCommand _ = y.loadImage.1 from rfl, loadImage_invalid (by rw [hsel, hvalid]; exact himage)]
    exact ⟨himg, hevt, hforce'.trans hforce, hadm'.trans hadm⟩
  case refine_10 =>
    intro s t src hpow hs himage hlock
    refine completes_rstCmd rfl hpow hs (.inr rfl) fun y hy => ?_
    obtain ⟨hsel, -, hvalid, hlocked⟩ := commandSeen_image hy
    obtain ⟨-, -, -, hforce, hadm, -⟩ := hy
    obtain ⟨himg, hevt, hforce', hadm'⟩ := imageEnd_shows y (v := 2) (b := 2) (by decide) (by decide)
    rw [show y.rstCommand _ = y.loadImage.1 from rfl, loadImage_locked (by rw [hsel, hvalid]; exact himage) (by rw [hlocked]; exact hlock)]
    exact ⟨himg, hevt, hforce'.trans hforce, hadm'.trans hadm⟩
  case refine_11 =>
    intro s t src hpow hs himage hlock
    refine completes_rstCmd rfl hpow hs (.inr rfl) fun y hy => ?_
    obtain ⟨hsel, harea, hvalid, hlocked⟩ := commandSeen_image hy
    obtain ⟨-, -, -, hforce, hadm, hbulk, -⟩ := hy
    rw [show y.rstCommand _ = y.loadImage.1 from rfl, loadImage_tried (by rw [hsel, hvalid]; exact himage) (by rw [hlocked]; exact hlock),
      hsel, harea]
    refine ⟨y, hforce, hadm, hbulk, ?_⟩
    cases hok : (y.applyImage (imageArea (s.m.advance t) ((s.m.advance t).cfg RST_CTRL_img_sel))).2 with
    | true =>
      obtain ⟨himg, hevt, hforce', hadm'⟩ := imageEnd_shows (y.applyImage (imageArea (s.m.advance t) ((s.m.advance t).cfg RST_CTRL_img_sel))).1
        (v := 1) (b := 1) (by decide) (by decide)
      rw [if_pos rfl]
      exact ⟨fun _ => ⟨himg, hevt⟩, fun h => absurd (hok.symm.trans h) (by decide), hforce', hadm'⟩
    | false =>
      obtain ⟨himg, hevt, hforce', hadm'⟩ := imageEnd_shows (y.applyImage (imageArea (s.m.advance t) ((s.m.advance t).cfg RST_CTRL_img_sel))).1
        (v := 2) (b := 2) (by decide) (by decide)
      rw [if_neg (by decide)]
      exact ⟨fun h => absurd (hok.symm.trans h) (by decide), fun _ => ⟨himg, hevt⟩, hforce', hadm'⟩
  case refine_12 =>
    intro s t src hpow hs
    refine completes_put rfl hpow hs rfl fun k i hk _ => ?_
    have htouch := Mach.auditWrite_touch k.armWatchdog 0x01 src 0x050 (word 1)
    have hforce : k.force = s.m.force := by rw [hk.1]; rfl
    have hnow : k.now = (s.m.advance t).now := by rw [hk.1]
    have hrst : k.rst = s.m.rst := by rw [hk.1]; rfl
    refine ⟨(deadline_of_timers (timers_of_touch htouch rfl) .watchdog).trans ?_, (rst_of_touch htouch rfl).trans
      ((rst_of_touch (Mach.armWatchdog_touch k) rfl).trans hrst)⟩
    rw [armWatchdog_deadline, cfg_of_force hforce, hnow]
  case refine_13 =>
    intro s t hfires hact
    refine completes_fires (f := fun m => if m.watchdogCounted.on RST_WDOG_act then m.watchdogCounted.resetAfterFlush 3
      else m.watchdogCounted) rfl hfires ?_
    obtain ⟨hcnt, hevt, hrst, hintake, hnow, hon⟩ := watchdogCounted_shows ((s.m.advance t).disarm .watchdog)
    generalize ((s.m.advance t).disarm .watchdog).watchdogCounted = y at hcnt hevt hrst hintake hnow hon ⊢
    have hon' : y.on RST_WDOG_act = s.m.on RST_WDOG_act := hon
    rw [hon']
    cases h : s.m.on RST_WDOG_act with
    | true =>
      have htouch := Mach.powerFail_touch (y.setCause 3)
      rw [if_pos rfl]
      refine ⟨(fld_touch htouch RST_WDOG_EXP_n _ rfl).trans hcnt, (evt_touch htouch 0x01 4 rfl).trans hevt, fun _ => ⟨?_, ?_⟩, nofun⟩
      · exact flushBegun_powerFail (y := y.setCause 3) hnow (hintake.trans (hact h))
      · refine (powerFail_rst _).trans ?_
        show ({ y.rst with cause := some (y.rst.cause.getD 3) } : Rst) = _
        rw [hrst]
        rfl
    | false =>
      rw [if_neg (by decide)]
      exact ⟨hcnt, hevt, nofun, fun _ => ⟨hrst, hintake⟩⟩
  case refine_14 =>
    intro s t ok hpow hflush
    exact completes_run (f := fun m => m.flushEnd ok) rfl hpow (flushEnd_idle (m := s.m.advance t) ok hflush)
  case refine_15 =>
    intro s t ok hpow hflush hstay
    refine completes_run (f := fun m => m.flushEnd ok) rfl hpow ?_
    rw [flushEnd_stays (m := s.m.advance t) ok hflush hstay]
    obtain ⟨hcoil, hrst, hfailed, hdone⟩ := flushDone_shows (m := s.m.advance t) ok hflush
    exact ⟨by rw [hcoil], by rw [hcoil]; rfl, hrst, hfailed, hdone⟩
  case refine_16 =>
    intro s t ok c hpow hflush hin htrip hcause hc
    refine completes_run (f := fun m => m.flushEnd ok) rfl hpow ?_
    rw [flushEnd_resets (m := s.m.advance t) ok hflush hin htrip hcause]
    have htouch := Mach.flushDone_touch (s.m.advance t) ok
    exact moduleReset_after hc (fld_touch htouch TWN_BOOT_n 0 rfl) (fld_touch htouch RIM_STS_state 0 rfl)
  case refine_17 =>
    intro s t b hreset hpace hin hbank0 hbank1
    refine powerOn_starts t hreset hpace hin ?_
    have hnone : ∀ n, bankFound ((s.m.advance t).begun none) b n = false := fun n => by
      unfold bankFound
      split
      · exact hbank0
      · exact hbank1
    obtain ⟨hrst, -, -, hvalid⟩ := banksVerified_shows ((s.m.advance t).begun none) b
    rw [startUp_none hnone]
    rw [hnone, hnone] at hvalid
    generalize ((s.m.advance t).begun none).banksVerified b = y at hrst hvalid ⊢
    refine ⟨rfl, rfl, ?_, hvalid⟩
    show y.rst.pg = true
    rw [hrst]
    rfl
  case refine_18 =>
    intro s t b hreset hpace hin hmem hbank
    refine powerOn_starts t hreset hpace hin ?_
    obtain ⟨hsts, hfw, hphase, -⟩ := booted_shows ((s.m.advance t).begun none) b
    rw [startUp_memoryFails (m := (s.m.advance t).begun none) hbank hmem]
    generalize ((s.m.advance t).begun none).booted b = y at hsts hfw hphase ⊢
    exact ⟨hsts, hfw, hphase, rfl⟩
  case refine_19 =>
    intro s t b hreset hpace hin hmem hauto hbank
    refine powerOn_starts t hreset hpace hin ?_
    obtain ⟨-, -, -, hforce⟩ := booted_shows ((s.m.advance t).begun none) b
    rw [startUp_memoryOk (m := (s.m.advance t).begun none) hbank hmem]
    obtain ⟨y, hy⟩ := imageStep_noAutoload (m := (((s.m.advance t).begun none).booted b).presentImage.startSelfTest) (by
      rw [on_of_force (force_of_touch (Mach.startSelfTest_touch _) rfl), on_of_force (force_of_touch (Mach.presentImage_touch _) rfl),
        on_of_force hforce]
      exact hauto)
    rw [hy]
    exact stopStart_shows y
  case refine_20 =>
    intro s t b hreset hpace
    refine powerOn_begins t hreset ?_
    exact (resumeStart_held (m := (s.m.advance t).begun (some b)) rfl).2 hpace

end Sys2Proof.Machine


/-! # The time block's sources and its states -/

namespace Sys2Proof.Machine

/-! ### Commands of the time block -/

section
variable {c : Instr} {s : State} {t : Nat} {f : Mach → Mach} {P : Mach → Prop}

/-- A command of the time block: what fell due before its instant happens first. -/
theorem completes_timeReached (hexec : exec c s = s.run t fun m => f m.timeDue) (hpow : s.m.powered = true)
    (hP : P (f (s.m.timeReached t))) : Completes c s P :=
  completes_run hexec hpow hP

/-- The end of a timer of the time block. -/
theorem completes_timeExpiry {tm : Timer} (hexec : exec c s = s.run t fun m => m.timeDue.onExpiry tm f) (hpow : s.m.powered = true)
    (hdue : (s.m.timeReached t).due tm = true) (hP : P (f ((s.m.timeReached t).disarm tm))) : Completes c s P := by
  refine completes_run hexec hpow ?_
  show P ((s.m.timeReached t).onExpiry tm f)
  rwa [onExpiry_due _ _ _ hdue]

end

/-! ### Measurements (R99) -/

/-- What an evaluation of the states leaves of the time block, field by field. -/
theorem timeCore_fields {a b : TimeBlk} (h : timeCore a = timeCore b) :
    a.applied = b.applied ∧ a.slewLeft = b.slewLeft ∧ a.epoch = b.epoch ∧ a.discard = b.discard :=
  ⟨(congrArg TimeBlk.applied h :), (congrArg TimeBlk.slewLeft h :), (congrArg TimeBlk.epoch h :), (congrArg TimeBlk.discard h :)⟩

section
variable {k : Mach} {c : Nat} {off d : Int}

/-- A measurement of the source in use is applied: it steps the epoch, or the slew begins, and then the states are evaluated. -/
theorem measure_applies (hsrc : k.fld TIME_QUAL_source = c) (hqual : srcQualified k c = true) (hkeep : k.time.discard = false)
    (hd : d = measuredOffset k c off) :
    ∃ (z : Mach) (r : Int), z.regs = (k.setFld TIME_OFFSET_ns 0 (toWidth 32 (sat31 d))).regs ∧ z.force = k.force ∧ z.now = k.now
      ∧ z.time.applied = some k.now ∧ z.time.epoch = k.time.epoch
      ∧ k.measure c off = (if k.cfg TIME_STEP_thr * 1000 < d.natAbs ∧ k.on TIME_CTRL_step_en = true then (z.stepEpoch d).showRate r
          else z.slew d).evalTime (some d) := by
  obtain ⟨y, hy, hmeasure⟩ := measure_own k c off hsrc hqual
  rw [← hd] at hy hmeasure
  subst hy
  obtain ⟨z, r, hregs, hforce, htime, hnow, happly⟩ := applied_own (k.setFld TIME_OFFSET_ns 0 (toWidth 32 (sat31 d))) d hkeep
  refine ⟨z, r, hregs, hforce, hnow, ?_, ?_, hmeasure.trans happly⟩
  · rw [htime]
    rfl
  · rw [htime]
    split <;> rfl

/-- An offset that steps nothing is slewed away (R99). -/
theorem measure_slews (hsrc : k.fld TIME_QUAL_source = c) (hqual : srcQualified k c = true) (hkeep : k.time.discard = false)
    (hd : d = measuredOffset k c off) (hne : d ≠ 0) (hno : ¬ (k.cfg TIME_STEP_thr * 1000 < d.natAbs ∧ k.on TIME_CTRL_step_en = true)) :
    (k.measure c off).fld TIME_OFFSET_ns = toWidth 32 (sat31 d) ∧ (k.measure c off).time.applied = some k.now
      ∧ (k.measure c off).time.slewLeft = d ∧ (k.measure c off).time.epoch = k.time.epoch
      ∧ (k.measure c off).deadline .slewDone = some (k.now + d.natAbs * 1000000 / k.cfg TIME_LOCK_slew) := by
  obtain ⟨z, r, hregs, hforce, hnow, happlied, hepoch, hmeasure⟩ := measure_applies hsrc hqual hkeep hd
  rw [hmeasure, if_neg hno]
  obtain ⟨hfld, htime, hslew, -⟩ := slew_facts z d
  obtain ⟨-, hcore, heval, -, hdeadline⟩ := evalTime_facts (z.slew d) (some d)
  obtain ⟨ha, hl, he, -⟩ := timeCore_fields hcore
  rw [ha, hl, he, htime, heval _ _ rfl, hfld _ _ rfl, fld_of_regs hregs, fld_set _ _ _ _ rfl,
    hdeadline _ (by decide) (by decide) (by decide), hslew hne, hnow, cfg_of_force hforce]
  exact ⟨toWidth_mod .., happlied, rfl, hepoch, rfl⟩

/-- An offset above the step threshold moves the epoch, where steps are enabled (R99). -/
theorem measure_steps (hsrc : k.fld TIME_QUAL_source = c) (hqual : srcQualified k c = true) (hkeep : k.time.discard = false)
    (hd : d = measuredOffset k c off) (habove : k.cfg TIME_STEP_thr * 1000 < d.natAbs) (hen : k.on TIME_CTRL_step_en = true) :
    (k.measure c off).fld TIME_OFFSET_ns = toWidth 32 (sat31 d) ∧ (k.measure c off).time.applied = some k.now
      ∧ (k.measure c off).time.epoch = k.time.epoch - d ∧ (k.measure c off).time.discard = true
      ∧ (k.measure c off).evt 0x05 4 = true ∧ (k.measure c off).fld TIME_STEP_CNT_n = (k.fld TIME_STEP_CNT_n + 1) % 2 ^ 32 := by
  obtain ⟨z, r, hregs, -, -, happlied, hepoch, hmeasure⟩ := measure_applies hsrc hqual hkeep hd
  rw [hmeasure, if_pos ⟨habove, hen⟩]
  obtain ⟨hfld, htime, hevt, hcount⟩ := stepEpoch_facts z d
  have hrate : ∀ f : Fd, Fd.clear TIME_RATE_rate f = true → ((z.stepEpoch d).showRate r).fld f = (z.stepEpoch d).fld f :=
    fun f hf => fld_set_clear _ _ _ _ _ _ hf
  have htime' : ((z.stepEpoch d).showRate r).time = (z.stepEpoch d).time := rfl
  obtain ⟨-, hcore, heval, hevents, -⟩ := evalTime_facts ((z.stepEpoch d).showRate r) (some d)
  obtain ⟨ha, -, he, hdiscard⟩ := timeCore_fields hcore
  refine ⟨?_, ?_, ?_, ?_, hevents 4 (by decide) ?_, ?_⟩
  · rw [heval _ _ rfl, hrate _ rfl, hfld _ _ rfl, fld_of_regs hregs, fld_set _ _ _ _ rfl]
    exact toWidth_mod ..
  · rw [ha, htime', htime, happlied]
  · rw [he, htime', htime, hepoch]
  · rw [hdiscard, htime', htime]
  · exact (congrArg (bit · 4) (hrate (hEvt 5) rfl)).trans hevt
  · rw [heval _ _ rfl, hrate _ rfl, hcount, fld_of_regs hregs, fld_set_clear _ _ _ _ _ _ rfl]

/-- While the next measurement is to be discarded, it is. -/
theorem applyOffset_discards {y : Mach} (h : y.time.discard = true) :
    y.applyOffset off = y.onTime fun b => { b with discard := false } := if_pos h

/-- The first measurement after a change of the epoch is shown and not applied (R99). -/
theorem measure_discards (hsrc : k.fld TIME_QUAL_source = c) (hqual : srcQualified k c = true) (hdiscard : k.time.discard = true) :
    (k.measure c off).fld TIME_OFFSET_ns = toWidth 32 (sat31 (measuredOffset k c off))
      ∧ (k.measure c off).time = { k.time with discard := false } := by
  obtain ⟨y, hy, hmeasure⟩ := measure_own k c off hsrc hqual
  have hdiscard' : y.time.discard = true := by rw [hy]; exact hdiscard
  rw [hmeasure, applyOffset_discards hdiscard', fld_onTime, hy, fld_set _ _ _ _ rfl]
  exact ⟨toWidth_mod .., rfl⟩

end

/-! ### The ends of a slew, of Bridging and of Holdover (R99, R101) -/

/-- In Holdover the limit counts from the measurement applied last (R101). -/
theorem enterTime_holdover {m : Mach} {a : Nat} (h : m.time.applied = some a) :
    (m.enterTime 4).deadline .holdLimit = some (a + m.cfg TIME_HOLD_limit * 1000000000) := by
  generalize hv : m.enterTime 4 = v
  unfold Mach.enterTime at hv
  extract_lets -underBinder -merge -useContext +onlyGivenNames entered b armed low seen at hv
  have harmed : armed.deadline .holdLimit = some (a + m.cfg TIME_HOLD_limit * 1000000000) := by
    have hb : b.time.applied = some a := h
    unfold armed
    rw [hb]
    exact deadline_arm_same ..
  have hlow : low.deadline .holdLimit = armed.deadline .holdLimit := by
    unfold low
    split
    · rfl
    · exact (ppsLow_facts armed).2.2.2.2 _ (by decide)
  have hseen : seen.timers = low.timers := Mach.event_timers _ _ _ _ (by decide)
  rw [← hv, ← harmed, ← hlow]
  exact deadline_of_timers hseen _

/-- The end of a slew: nothing is left of it, and the rate shown is the disciplined one (R99). -/
theorem slewEnds_shows (m : Mach) :
    ((m.onTime fun b => { b with slewLeft := 0 }).showRate m.time.rate).fld TIME_RATE_rate = toWidth 32 m.time.rate :=
  (fld_set _ _ _ _ rfl).trans (toWidth_mod ..)

/-- Settles O24: clause by clause, what a measurement or the end of a timer leaves of the time block. -/
theorem timeSourcesSteer : Obligations.TimeSourcesSteer := by
  refine ⟨?slews, ?steps, ?discards, ?slewEnds, ?returns, ?bridgingEnds, ?holdoverEnds⟩
  case slews =>
    rintro s t _ c off d hpow rfl hsrc hqual hkeep hd hne hno
    exact completes_timeReached (f := fun m => m.measure (c + 1) off) rfl hpow (measure_slews hsrc hqual hkeep hd hne hno)
  case steps =>
    rintro s t _ c off d hpow rfl hsrc hqual hkeep hd habove hen
    exact completes_timeReached (f := fun m => m.measure (c + 1) off) rfl hpow (measure_steps hsrc hqual hkeep hd habove hen)
  case discards =>
    rintro s t _ c off hpow rfl hsrc hqual hdiscard
    exact completes_timeReached (f := fun m => m.measure (c + 1) off) rfl hpow (measure_discards hsrc hqual hdiscard)
  case slewEnds =>
    rintro s t _ hpow rfl hdue
    exact completes_timeExpiry (f := fun m => (m.onTime fun b => { b with slewLeft := 0 }).showRate m.time.rate) rfl hpow hdue
      ⟨rfl, slewEnds_shows _, deadline_disarm_same ..⟩
  case returns =>
    rintro s t k hpow rfl hdue
    refine completes_timeExpiry (f := fun m => m.follow (m.cfg TIME_CTRL_src_pri)) rfl hpow hdue ?_
    obtain ⟨hsrc, hchange, -, hdeadline, -⟩ := follow_facts ((s.m.timeReached t).disarm .primaryReturn)
      ((s.m.timeReached t).cfg TIME_CTRL_src_pri) (cfg_lt ..)
    exact ⟨hsrc, (hdeadline _ (by decide)).trans (deadline_disarm_same ..), hchange⟩
  case bridgingEnds =>
    rintro s t _ hpow rfl hdue
    refine completes_timeExpiry (f := fun m => m.enterTime 4) rfl hpow hdue ?_
    obtain ⟨hstate, -, -, -, -, hevt, -⟩ := enterTime_facts ((s.m.timeReached t).disarm .bridging) 4 (by decide)
    exact ⟨hstate, hevt (by decide), fun a ha => enterTime_holdover (m := (s.m.timeReached t).disarm .bridging) ha⟩
  case holdoverEnds =>
    rintro s t _ hpow rfl hdue
    refine completes_timeExpiry (f := fun m => m.enterTime 5) rfl hpow hdue ?_
    obtain ⟨hstate, -, -, -, -, hevt, -, hlimit⟩ := enterTime_facts ((s.m.timeReached t).disarm .holdLimit) 5 (by decide)
    exact ⟨hstate, hevt (by decide), hlimit (by decide)⟩

end Sys2Proof.Machine


/-! # The time block's pins -/

namespace Sys2Proof.Machine

/-! ### What a choice of source leaves -/

/-- The time block but for its rates and its slew, and when sources qualified: what a choice of source can change of it (R98, R100). -/
def unsteered (b : TimeBlk) : TimeBlk := { b with rate := 0, slewLeft := 0, lockRates := [], lockedAt := none, qualAt := [] }

/-- The inputs of a time block that a choice of source leaves. -/
theorem unsteered_fields {a b : TimeBlk} (h : unsteered a = unsteered b) :
    a.ppsLast = b.ppsLast ∧ a.irigLast = b.irigLast ∧ a.irigRun = b.irigRun ∧ a.irigRej = b.irigRej ∧ a.irigAt = b.irigAt
      ∧ a.irigTime = b.irigTime :=
  ⟨(congrArg TimeBlk.ppsLast h :), (congrArg TimeBlk.irigLast h :), (congrArg TimeBlk.irigRun h :), (congrArg TimeBlk.irigRej h :),
    (congrArg TimeBlk.irigAt h :), (congrArg TimeBlk.irigTime h :)⟩

theorem follow_unsteered (m : Mach) (c : Nat) : unsteered (m.follow c).time = unsteered m.time := by
  unfold Mach.follow
  split
  · rfl
  · extract_lets -underBinder -merge -useContext +onlyGivenNames shown doms
    have hdoms : doms.time = m.time :=
      each_keep (fun y => y.time) [0, 1] _ shown fun d y => by dsimp only; split <;> rfl
    rw [Mach.event_time _ _ _ _ (by decide), (freeRate_facts _).2.1, ← hdoms]
    clear_value doms
    split
    · dsimp only
      cases lastRate (doms.lockStretch (doms.fld TIME_QUAL_state == 2)).time <;> rfl
    · rfl

theorem selectSource_unsteered (m : Mach) : unsteered m.selectSource.time = unsteered m.time := by
  unfold Mach.selectSource
  extract_lets -underBinder -merge -useContext +onlyGivenNames pri sec cur qs back y
  split
  · split
    · exact follow_unsteered y pri
    · rfl
  · split
    · rfl
    · exact follow_unsteered y 0

theorem setQualified_unsteered (m : Mach) (c : Nat) (q : Bool) : unsteered (m.setQualified c q).time = unsteered m.time := by
  unfold Mach.setQualified
  split
  · rfl
  · extract_lets -underBinder -merge -useContext +onlyGivenNames shown dated
    have hdated : unsteered dated.time = unsteered shown.time := by
      unfold dated
      split <;> rfl
    have hshown : shown.time = m.time := by
      unfold shown
      split <;> rfl
    rw [selectSource_unsteered, hdated, hshown]

/-! ### PPS_IN (R112) -/

section
variable {k : Mach} {highNs : Nat}

/-- A plausible edge is remembered, counts in its run unless it is the first, and restarts the supervision; the third in a row qualifies
the input. -/
theorem ppsEdge_plausible (h : ppsPlausible k highNs = true) :
    (k.ppsEdge highNs).time.ppsLast = some k.now
      ∧ (k.ppsEdge highNs).time.ppsRun = (if k.time.ppsLast.isSome then k.time.ppsRun + 1 else 0)
      ∧ (k.ppsEdge highNs).deadline .ppsIn = some (k.now + 1500000000)
      ∧ (k.ppsEdge highNs).flag TIME_QUAL_pps_qual
          = (decide (3 ≤ (k.ppsEdge highNs).time.ppsRun) || k.flag TIME_QUAL_pps_qual) := by
  have hwide : ¬ highNs < 100 := by
    simp only [ppsPlausible, Bool.and_eq_true, decide_eq_true_eq] at h
    omega
  unfold Mach.ppsEdge
  rw [if_neg hwide, if_pos h]
  extract_lets -underBinder -merge -useContext +onlyGivenNames run y
  have hrun : y.time.ppsRun = run := rfl
  have hdeadline : y.deadline .ppsIn = some (k.now + 1500000000) := deadline_arm_same ..
  split
  · next hthird =>
    refine ⟨rfl, rfl, hdeadline, ?_⟩
    rw [flag_set _ _ _ _ rfl]
    simp [hrun, hthird]
  · next hfew =>
    have hflag : y.flag TIME_QUAL_pps_qual = k.flag TIME_QUAL_pps_qual := flag_of_regs rfl _
    refine ⟨rfl, rfl, hdeadline, ?_⟩
    simp [hflag, hrun, hfew]

/-- Another edge of at least 100 ns is rejected, and ends the run. -/
theorem ppsEdge_rejected (hwide : 100 ≤ highNs) (h : ppsPlausible k highNs = false) :
    (k.ppsEdge highNs).time = { k.time with ppsRun := 0 }
      ∧ (k.ppsEdge highNs).fld TIME_PPS_REJ_n = (k.fld TIME_PPS_REJ_n + 1) % 2 ^ 32 ∧ (k.ppsEdge highNs).evt 0x05 6 = true := by
  unfold Mach.ppsEdge
  rw [if_neg (Nat.not_lt.mpr hwide), if_neg (by simp [h]), Mach.event_time _ _ _ _ (by decide), fld_event _ _ _ _ _ _ rfl,
    fld_count _ _ _ _ rfl, fld_onTime]
  exact ⟨rfl, rfl, evt_event _ _ _ _ rfl⟩

end

/-- Without an edge for 1.5 s PPS_IN, and with it IRIG-B, is unqualified, and the next edge is the first again (R112). -/
theorem ppsLost_shows (m : Mach) : m.ppsLost.flag TIME_QUAL_pps_qual = false ∧ m.ppsLost.flag TIME_QUAL_irig_qual = false
    ∧ m.ppsLost.time.ppsLast = none ∧ m.ppsLost.deadline .ppsIn = m.deadline .ppsIn := by
  unfold Mach.ppsLost
  extract_lets -underBinder -merge -useContext +onlyGivenNames y
  obtain ⟨hirig, -, hfld, -, hdeadline⟩ := setQualified_facts (y.setFlag TIME_QUAL_pps_qual 0 false) 3 (by simp) false
  obtain ⟨hlast, -⟩ := unsteered_fields (setQualified_unsteered (y.setFlag TIME_QUAL_pps_qual 0 false) 3 false)
  refine ⟨?_, hirig, hlast, hdeadline _ (by decide) (by decide)⟩
  unfold Mach.flag
  rw [hfld _ _ rfl]
  exact flag_set _ _ _ _ rfl

/-! ### IRIGB_IN (R113) -/

section
variable {k : Mach} {fr : IrigFrame}

/-- A frame of an input that is not in use does nothing. -/
theorem irigFrame_disabled (hen : k.on TIME_IRIG_en = false) : k.irigFrame fr = k := by
  unfold Mach.irigFrame
  rw [hen]
  rfl

/-- The module with an accepted frame remembered: its second, its place in the run, and its time at the last PPS edge. -/
def Mach.irigTaken (m : Mach) (u : Int) : Mach := m.onTime fun b => { b with
  irigLast := some u, irigRun := b.irigRun + 1, irigRej := 0, irigAt := m.now
  irigTime := b.ppsLast.map fun e => (e, (u + m.cfg TIME_IRIG_tai_utc) * 1000000000) }

theorem irigFrame_accepted {u : Int} (hen : k.on TIME_IRIG_en = true) (h : irigAccepted k fr = some u) :
    k.irigFrame fr = if 2 ≤ k.time.irigRun + 1 then (k.irigTaken u).setQualified 3 true else k.irigTaken u := by
  unfold Mach.irigFrame
  rw [hen, h]
  rfl

/-- The module with a rejected frame counted. -/
def Mach.irigTurnedAway (m : Mach) : Mach :=
  ((m.onTime fun b => { b with irigRun := 0, irigRej := b.irigRej + 1 }).count TIME_IRIG_REJ_n).event 0x05 7

theorem irigTurnedAway_shows (m : Mach) : m.irigTurnedAway.time = { m.time with irigRun := 0, irigRej := m.time.irigRej + 1 }
    ∧ m.irigTurnedAway.evt 0x05 7 = true ∧ m.irigTurnedAway.fld TIME_IRIG_REJ_n = (m.fld TIME_IRIG_REJ_n + 1) % 2 ^ 32
    ∧ m.irigTurnedAway.flag TIME_QUAL_irig_qual = m.flag TIME_QUAL_irig_qual := by
  unfold Mach.irigTurnedAway Mach.flag
  rw [Mach.event_time _ _ _ _ (by decide), fld_event _ _ _ _ _ _ rfl, fld_event _ _ _ _ _ _ rfl, fld_count _ _ _ _ rfl,
    fld_count_clear _ _ _ _ _ _ rfl, fld_onTime, fld_onTime]
  exact ⟨rfl, evt_event _ _ _ _ rfl, rfl, rfl⟩

theorem irigFrame_rejected (hen : k.on TIME_IRIG_en = true) (h : irigAccepted k fr = none) :
    k.irigFrame fr = if 3 ≤ k.irigTurnedAway.time.irigRej
      then (k.irigTurnedAway.onTime fun b => { b with irigLast := none }).setQualified 3 false else k.irigTurnedAway := by
  unfold Mach.irigFrame
  rw [hen, h]
  rfl

/-- An accepted frame is remembered with its time and paired with the last PPS edge; the second in a row qualifies the source. -/
theorem irigFrame_takes {u : Int} (hen : k.on TIME_IRIG_en = true) (h : irigAccepted k fr = some u) :
    (k.irigFrame fr).time.irigLast = some u ∧ (k.irigFrame fr).time.irigRun = k.time.irigRun + 1 ∧ (k.irigFrame fr).time.irigRej = 0
      ∧ (k.irigFrame fr).time.irigAt = k.now
      ∧ (k.irigFrame fr).time.irigTime = k.time.ppsLast.map (fun e => (e, (u + k.cfg TIME_IRIG_tai_utc) * 1000000000))
      ∧ (k.irigFrame fr).flag TIME_QUAL_irig_qual = (decide (1 ≤ k.time.irigRun) || k.flag TIME_QUAL_irig_qual) := by
  rw [irigFrame_accepted hen h]
  split
  · next hsecond =>
    obtain ⟨hqual, -⟩ := setQualified_facts (k.irigTaken u) 3 (by simp) true
    obtain ⟨-, hlast, hrun, hrej, hat, htime⟩ := unsteered_fields (setQualified_unsteered (k.irigTaken u) 3 true)
    refine ⟨hlast, hrun, hrej, hat, htime, hqual.trans ?_⟩
    simp [show 1 ≤ k.time.irigRun by omega]
  · next hfirst =>
    have hqual : (k.irigTaken u).flag TIME_QUAL_irig_qual = k.flag TIME_QUAL_irig_qual := flag_of_regs rfl _
    refine ⟨rfl, rfl, rfl, rfl, rfl, hqual.trans ?_⟩
    simp [show ¬ 1 ≤ k.time.irigRun by omega]

/-- A rejected frame is counted and ends the run; the third in a row unqualifies the source. -/
theorem irigFrame_rejects (hen : k.on TIME_IRIG_en = true) (h : irigAccepted k fr = none) :
    (k.irigFrame fr).time.irigRun = 0 ∧ (k.irigFrame fr).time.irigRej = k.time.irigRej + 1 ∧ (k.irigFrame fr).evt 0x05 7 = true
      ∧ (k.irigFrame fr).fld TIME_IRIG_REJ_n = (k.fld TIME_IRIG_REJ_n + 1) % 2 ^ 32
      ∧ (k.irigFrame fr).flag TIME_QUAL_irig_qual = (decide (k.time.irigRej < 2) && k.flag TIME_QUAL_irig_qual) := by
  obtain ⟨htime, hevt, hcount, hflag⟩ := irigTurnedAway_shows k
  have hrun : k.irigTurnedAway.time.irigRun = 0 := congrArg TimeBlk.irigRun htime
  have hrej : k.irigTurnedAway.time.irigRej = k.time.irigRej + 1 := congrArg TimeBlk.irigRej htime
  rw [irigFrame_rejected hen h]
  split
  · next hthird =>
    obtain ⟨hqual, -, hfld, hevents, -⟩ :=
      setQualified_facts (k.irigTurnedAway.onTime fun b => { b with irigLast := none }) 3 (by simp) false
    obtain ⟨-, -, hrun', hrej', -⟩ :=
      unsteered_fields (setQualified_unsteered (k.irigTurnedAway.onTime fun b => { b with irigLast := none }) 3 false)
    refine ⟨hrun'.trans hrun, hrej'.trans hrej, hevents 7 (by decide) ((evt_onTime ..).trans hevt), ?_, hqual.trans ?_⟩
    · rw [hfld _ _ rfl, fld_onTime, hcount]
    · simp [show ¬ k.time.irigRej < 2 by omega]
  · next hfew =>
    refine ⟨hrun, hrej, hevt, hcount, hflag.trans ?_⟩
    simp [show k.time.irigRej < 2 by omega]

end

/-! ### REF10M_IN (R114) -/

/-- A gate within 10 ppm counts and its deviation is held; the tenth qualifies the input. -/
theorem gate10m_within {k : Mach} {off : Int} (h : off.natAbs ≤ 10000000) :
    (k.gate10m off).time.gates = k.time.gates + 1 ∧ (k.gate10m off).time.gateRate = off
      ∧ (k.gate10m off).flag TIME_QUAL_in10m_qual = (decide (9 ≤ k.time.gates) || k.flag TIME_QUAL_in10m_qual) := by
  unfold Mach.gate10m
  rw [if_neg (Nat.not_lt.mpr h)]
  extract_lets -underBinder -merge -useContext +onlyGivenNames y
  have hgates : y.time.gates = k.time.gates + 1 := rfl
  split
  · next htenth =>
    obtain ⟨-, htime, -, hfld⟩ := freeRate_facts (y.setFlag TIME_QUAL_in10m_qual 0 true)
    have hqual : (y.setFlag TIME_QUAL_in10m_qual 0 true).freeRate.flag TIME_QUAL_in10m_qual = true := by
      unfold Mach.flag
      rw [hfld _ _ rfl]
      exact flag_set _ _ _ _ rfl
    rw [htime, hqual]
    exact ⟨rfl, rfl, by simp [show 9 ≤ k.time.gates by omega]⟩
  · next hfew =>
    have hqual : y.flag TIME_QUAL_in10m_qual = k.flag TIME_QUAL_in10m_qual := flag_of_regs rfl _
    exact ⟨rfl, rfl, by simp [hqual, show ¬ 9 ≤ k.time.gates by omega]⟩

/-- A gate outside 10 ppm is the loss of the input. -/
theorem gate10m_outside {k : Mach} {off : Int} (h : 10000000 < off.natAbs) : k.gate10m off = k.lose10m := if_pos h

/-! ### PPS_OUT (R115) -/

/-- At a second not pulsed yet, with the output allowed and the last pulse 0.5 s ago, the output rises for its width. -/
theorem ppsRise_rises {k : Mach} {a : Int} (hallowed : ppsAllowed k = true) (ha : a = k.station + asSigned 16 (k.cfg TIME_PPS_OUT_DLY_dly))
    (hnear : a % 1000000000 < 4) (hfresh : wasPulsed k.time.pulsed (a / 1000000000) = false)
    (hlast : ∀ b, k.time.ppsAt = some b → b + 500000000 ≤ k.now) :
    k.ppsRise.outs = .pps true :: k.outs
      ∧ k.ppsRise.time = { k.time with ppsOut := true, pulsed := addPulse k.time.pulsed (a / 1000000000), ppsAt := some k.now }
      ∧ k.ppsRise.deadline .ppsWidth = some (k.now + k.cfg TIME_PPS_out_width * 1000000) := by
  unfold Mach.ppsRise
  rw [← ha]
  extract_lets -underBinder -merge -useContext +onlyGivenNames edge soon
  have hsoon : soon = false := by
    unfold soon
    split
    · next b hb => exact decide_eq_false (Nat.not_lt.mpr (hlast b hb))
    · rfl
  rw [if_pos (by simp [edge, hallowed, hnear, hfresh, hsoon])]
  exact ⟨rfl, rfl, deadline_arm_same ..⟩

/-- The output falls (R115). -/
theorem ppsLow_falls {m : Mach} (h : m.time.ppsOut = true) :
    m.ppsLow = ((m.onTime fun b => { b with ppsOut := false }).disarm .ppsWidth).emit (.pps false) := if_pos h

/-- Settles O25: clause by clause, what an edge, a frame, a gate, a second or the end of a pulse leaves. -/
theorem timePinsQualifyAndPulse : Obligations.TimePinsQualifyAndPulse := by
  refine ⟨?plausible, ?rejected, ?glitch, ?ppsLost, ?accepted, ?turnedAway, ?disabled, ?gate, ?lost10m, ?rises, ?falls⟩
  case plausible =>
    rintro s t highNs _ hpow rfl h
    exact completes_timeReached (f := fun m => m.ppsEdge highNs) rfl hpow (ppsEdge_plausible h)
  case rejected =>
    rintro s t highNs _ hpow rfl hwide h
    exact completes_timeReached (f := fun m => m.ppsEdge highNs) rfl hpow (ppsEdge_rejected hwide h)
  case glitch =>
    intro s t highNs hpow hshort
    exact completes_timeReached (f := fun m => m.ppsEdge highNs) rfl hpow (if_pos hshort)
  case ppsLost =>
    rintro s t _ hpow rfl hdue
    refine completes_timeExpiry (f := Mach.ppsLost) rfl hpow hdue ?_
    obtain ⟨hpps, hirig, hlast, hdeadline⟩ := ppsLost_shows ((s.m.timeReached t).disarm .ppsIn)
    exact ⟨hpps, hirig, hlast, hdeadline.trans (deadline_disarm_same ..)⟩
  case accepted =>
    rintro s t _ fr u hpow rfl hen h
    exact completes_timeReached (f := fun m => m.irigFrame fr) rfl hpow (irigFrame_takes hen h)
  case turnedAway =>
    rintro s t _ fr hpow rfl hen h
    exact completes_timeReached (f := fun m => m.irigFrame fr) rfl hpow (irigFrame_rejects hen h)
  case disabled =>
    intro s t fr hpow hen
    exact completes_timeReached (f := fun m => m.irigFrame fr) rfl hpow (irigFrame_disabled hen)
  case gate =>
    rintro s t _ off hpow rfl h
    exact completes_timeReached (f := fun m => m.gate10m off) rfl hpow (gate10m_within h)
  case lost10m =>
    rintro s t _ c hpow rfl hqual (rfl | ⟨off, hoff, rfl⟩)
    · exact completes_timeReached (f := Mach.lose10m) rfl hpow (lose10m_facts _ hqual)
    · refine completes_timeReached (f := fun m => m.gate10m off) rfl hpow ?_
      rw [gate10m_outside hoff]
      exact lose10m_facts _ hqual
  case rises =>
    rintro s t _ a hpow rfl hallowed ha hnear hfresh hlast
    exact completes_timeReached
      (f := fun m => m.ppsRise.each (nrgPoints m.ppsRise) fun p z => z.secondEnd p (z.station / 1000000000)) rfl hpow
      ⟨_, rfl, ppsRise_rises hallowed ha hnear hfresh hlast⟩
  case falls =>
    intro s t hfires hout
    refine completes_fires (f := Mach.ppsLow) rfl hfires ?_
    rw [ppsLow_falls (m := (s.m.advance t).disarm .ppsWidth) hout]
    exact ⟨rfl, rfl, deadline_disarm_same ..⟩

end Sys2Proof.Machine


/-! # The commands of the time block complete -/

namespace Sys2Proof.Machine

/-- Settles O56: each clause is the clause of O24 or O25 about its command, with part of its effect. -/
theorem timeCommandsComplete : Obligations.TimeCommandsComplete := by
  obtain ⟨-, -, hdiscards, hslewEnds, hreturns, hbridgingEnds, hholdoverEnds⟩ := timeSourcesSteer
  obtain ⟨hplausible, -, -, hppsLost, haccepted, -, -, hgate, hlost10m, hrises, hfalls⟩ := timePinsQualifyAndPulse
  refine ⟨?measurement, ?slewEnds, ?returns, ?bridgingEnds, ?holdoverEnds, ?edge, ?ppsLost, ?frame, ?gate, ?lost10m, ?rises, ?falls⟩
  case measurement =>
    intro s t c off hpow hsrc hqual hdiscard
    refine (hdiscards s t _ c off hpow rfl hsrc hqual hdiscard).mono fun m' ⟨hshown, htime⟩ => ⟨hshown, ?_⟩
    rw [htime]
  case slewEnds =>
    intro s t hpow hdue
    refine (hslewEnds s t _ hpow rfl hdue).mono fun m' ⟨htime, hrate, _⟩ => ⟨?_, hrate⟩
    rw [htime]
  case returns =>
    intro s t hpow hdue
    exact (hreturns s t _ hpow rfl hdue).mono fun m' ⟨hsrc, _⟩ => hsrc
  case bridgingEnds =>
    intro s t hpow hdue
    exact (hbridgingEnds s t _ hpow rfl hdue).mono fun m' ⟨hstate, hevt, _⟩ => ⟨hstate, hevt⟩
  case holdoverEnds =>
    intro s t hpow hdue
    exact (hholdoverEnds s t _ hpow rfl hdue).mono fun m' ⟨hstate, hevt, _⟩ => ⟨hstate, hevt⟩
  case edge =>
    intro s t highNs hpow h
    exact (hplausible s t highNs _ hpow rfl h).mono fun m' ⟨hlast, _, hdeadline, _⟩ => ⟨hlast, hdeadline⟩
  case ppsLost =>
    intro s t hpow hdue
    exact (hppsLost s t _ hpow rfl hdue).mono fun m' ⟨hpps, hirig, _⟩ => ⟨hpps, hirig⟩
  case frame =>
    intro s t fr u hpow hen h
    exact (haccepted s t _ fr u hpow rfl hen h).mono fun m' ⟨hlast, hrun, _⟩ => ⟨hlast, hrun⟩
  case gate =>
    intro s t off hpow h
    exact (hgate s t _ off hpow rfl h).mono fun m' ⟨hgates, hrate, _⟩ => ⟨hgates, hrate⟩
  case lost10m =>
    intro s t hpow hqual
    exact (hlost10m s t _ _ hpow rfl hqual (.inl rfl)).mono fun m' ⟨hflag, _, hevt, _⟩ => ⟨hflag, hevt⟩
  case rises =>
    intro s t a hpow hallowed ha hnear hfresh hlast
    refine (hrises s t _ a hpow rfl hallowed ha hnear hfresh hlast).mono fun m' ⟨y, hm', _, htime, _⟩ => ?_
    have hkept := time_of_touch (secondEnds_keep (nrgPoints y) (fun z => z.station / 1000000000) y) rfl
    rw [hm', hkept, htime]
  case falls =>
    intro s t hfires hout
    refine (hfalls s t hfires hout).mono fun m' ⟨htime, houts, _⟩ => ⟨?_, houts⟩
    rw [htime]

end Sys2Proof.Machine


/-! # The PTP boundary clock -/

namespace Sys2Proof.Machine

/-! ### Frames received (R108) -/

/-- The module with a bad frame counted, and a correction out of range signalled (check 5). -/
def Mach.badPtp (m : Mach) (n : Nat) : Mach := if n = 5 then (m.count PTP_RX_BAD_n).event 0x06 5 else m.count PTP_RX_BAD_n

theorem badPtp_shows (m : Mach) (n : Nat) : (m.badPtp n).fld PTP_RX_BAD_n = (m.fld PTP_RX_BAD_n + 1) % 2 ^ 32
    ∧ (n = 5 → (m.badPtp n).evt 0x06 5 = true) ∧ (m.badPtp n).ptp = m.ptp := by
  have hcount : (m.count PTP_RX_BAD_n).fld PTP_RX_BAD_n = (m.fld PTP_RX_BAD_n + 1) % 2 ^ 32 := fld_count _ _ _ _ rfl
  unfold Mach.badPtp
  split
  · exact ⟨(fld_event _ _ _ _ _ _ rfl).trans hcount, fun _ => evt_event _ _ _ _ rfl, Mach.event_ptp _ _ _ _ (by decide)⟩
  · next hn => exact ⟨hcount, fun h5 => absurd h5 hn, rfl⟩

section
variable {k : Mach} {port : Nat} {fr : Frame} {p : PtpMsg} {d : Nat}

theorem ptpRx_bad {n : Nat} (h : checkPtp k port fr = .error n) : k.ptpRx port fr = (k.badPtp n).event 0x06 7 := by
  simp only [Mach.ptpRx, h, Mach.badPtp]

/-- A frame that fails a check of R108 is counted, with its events, and the clock keeps nothing of it. -/
theorem ptpRx_refuses {n : Nat} (h : checkPtp k port fr = .error n) :
    (k.ptpRx port fr).fld PTP_RX_BAD_n = (k.fld PTP_RX_BAD_n + 1) % 2 ^ 32 ∧ (k.ptpRx port fr).evt 0x06 7 = true
      ∧ (n = 5 → (k.ptpRx port fr).evt 0x06 5 = true) ∧ (k.ptpRx port fr).ptp = k.ptp := by
  obtain ⟨hcount, hfive, hptp⟩ := badPtp_shows k n
  rw [ptpRx_bad h, fld_event _ _ _ _ _ _ rfl, Mach.event_ptp _ _ _ _ (by decide)]
  exact ⟨hcount, evt_event _ _ _ _ rfl, fun h5 => evt_event_or _ _ _ _ _ rfl (hfive h5), hptp⟩

/-- A two-step Sync waits for its Follow_Up (R108). -/
theorem ptpRx_sync (h : checkPtp k port fr = .ok (p, d)) (hkind : p.kind = .sync) (htwo : p.twoStep = true) :
    k.ptpRx port fr = k.await d port p := by
  simp only [Mach.ptpRx, h, hkind, htwo, if_true]

theorem ptpRx_announce (h : checkPtp k port fr = .ok (p, d)) (hkind : p.kind = .announce) :
    k.ptpRx port fr = k.announceRx d port p := by
  simp only [Mach.ptpRx, h, hkind]

theorem ptpRx_pdelayReq (h : checkPtp k port fr = .ok (p, d)) (hkind : p.kind = .pdelayReq) :
    k.ptpRx port fr = k.answerPdelay d port p := by
  simp only [Mach.ptpRx, h, hkind]

end

/-- A message that waits does so with its instant and its stamp, and takes the place of none but its own. -/
theorem await_waits (m : Mach) (d port : Nat) (p : PtpMsg) :
    (∃ w ∈ (ptpDom (m.await d port p) d).waits,
      w.port = port ∧ w.kind = p.kind ∧ w.seq = p.seqId.toNat ∧ w.at_ = m.now ∧ w.stamp = ingressStamp m port p)
    ∧ ∀ x ∈ (ptpDom m d).waits, ¬ (x.port = port ∧ x.kind = p.kind ∧ x.seq = p.seqId.toNat) → x ∈ (ptpDom (m.await d port p) d).waits := by
  unfold Mach.await
  rw [ptpDom_on]
  refine ⟨⟨_, List.mem_cons_self, rfl, rfl, rfl, rfl, rfl⟩, fun x hx hother => List.mem_cons_of_mem _ (List.mem_filter.mpr ⟨hx, ?_⟩)⟩
  rw [Bool.not_eq_true', Bool.eq_false_iff]
  exact fun hsame => hother (by simpa [and_assoc] using hsame)

/-- The sender of an Announce is among the foreign masters, heard now (R105). -/
theorem announceRx_heard (m : Mach) {d : Nat} (hd : d < 2) (port : Nat) (p : PtpMsg) :
    ∃ f ∈ (ptpDom (m.announceRx d port p) d).foreign,
      f.port = port ∧ f.clock = p.clockId ∧ f.portNum = p.portNum ∧ f.ann = p.ann ∧ f.heard.head? = some m.now := by
  generalize hv : m.announceRx d port p = v
  unfold Mach.announceRx at hv
  extract_lets -underBinder -merge -useContext +onlyGivenNames same heard f noted chosen at hv
  have hnoted : f ∈ (ptpDom noted d).foreign := by
    unfold noted
    rw [ptpDom_on]
    exact List.mem_cons_self
  have hchosen : f ∈ (ptpDom chosen d).foreign := by rwa [(bmca_facts noted d hd).1]
  refine ⟨f, ?_, rfl, rfl, rfl, rfl, rfl⟩
  rw [← hv]
  split
  · rw [ptpDom_of_ptp (Mach.arm_ptp ..), ptpDom_on]
    exact hchosen
  · exact hchosen

/-! ### Ports that wait to be masters (R105) -/

theorem portStateFd_fit (d : Nat) : Fd.fit (portStateFd d) = true := by
  unfold portStateFd
  split <;> rfl

/-- A port takes the state it is given, and no other port changes its own. -/
theorem portState_fld (m : Mach) (d steps p q : Nat) {st : Nat} (hst : st < 16) :
    (m.portState d steps p st).fld (portStateFd d) q = if q = p then st else m.fld (portStateFd d) q := by
  have hset : (m.setFld (portStateFd d) p st).fld (portStateFd d) q = if q = p then st else m.fld (portStateFd d) q := by
    have hfits := Fd.fits_of_fit (portStateFd_fit d)
    split
    · next hq =>
      rw [hq, fld_set _ _ _ _ (portStateFd_fit d)]
      unfold portStateFd
      split <;> exact Nat.mod_eq_of_lt hst
    · next hq => exact fld_setFld_apart m _ _ _ _ _ hfits hfits (.inr (.inr (.inl (Ne.symm hq))))
  unfold Mach.portState
  by_cases hstays : m.fld (portStateFd d) p = st
  · rw [if_pos hstays]
    split
    · next hq => rw [hq, hstays]
    · rfl
  · rw [if_neg hstays]
    exact (fld_onDom ..).trans hset

/-- Ports that become masters one after another: each of them is one, and no other port changes its state. -/
theorem masters_fld (d : Nat) (l : List (Nat × Nat)) (q : Nat) (m : Mach) :
    (m.each l fun e y => y.portState d 0 e.1 6).fld (portStateFd d) q
      = if q ∈ l.map (·.1) then 6 else m.fld (portStateFd d) q := by
  induction l generalizing m with
  | nil => rfl
  | cons e l ih =>
    show (Mach.each (m.portState d 0 e.1 6) l fun e y => y.portState d 0 e.1 6).fld (portStateFd d) q = _
    rw [ih, portState_fld _ _ _ _ _ (by decide)]
    by_cases hrest : q ∈ l.map (·.1) <;> by_cases hfirst : q = e.1 <;> simp [hrest, hfirst]

/-- The ports whose wait is over become masters, and no other port changes its state (R105). -/
theorem becomeMasters_fld {m : Mach} {d : Nat} (hmaster : m.on (PTP_DOM_slave_only.nth d) = false) (q : Nat) :
    (m.becomeMasters d).fld (portStateFd d) q
      = if q ∈ ((ptpDom m d).toMaster.filter fun e => decide (e.2 ≤ m.now)).map (·.1) then 6 else m.fld (portStateFd d) q := by
  unfold Mach.becomeMasters splitBy
  dsimp only
  rw [if_neg (by simp [hmaster]), masters_fld, fld_onDom]

theorem becomeMasters_annSeq (m : Mach) (d : Nat) : (ptpDom (m.becomeMasters d) d).annSeq = (ptpDom m d).annSeq := by
  have hport : ∀ (y : Mach) p st, (ptpDom (y.portState d 0 p st) d).annSeq = (ptpDom y d).annSeq := fun y p st => by
    unfold Mach.portState
    split
    · rfl
    · dsimp only
      rw [ptpDom_on]
      show (ptpDom (y.setFld (portStateFd d) p st) d).annSeq = _
      exact congrArg PtpDom.annSeq (ptpDom_of_ptp (b := y) rfl d)
  unfold Mach.becomeMasters splitBy
  dsimp only
  split
  · rfl
  · refine (each_keep (fun y : Mach => (ptpDom y d).annSeq) _ (fun (e : Nat × Nat) y => y.portState d 0 e.1 6) _
      fun e y => hport y e.1 6).trans ?_
    rw [ptpDom_on]

/-! ### Timeouts and intervals (R97, R105) -/

/-- The module with an announce receipt timeout counted and signalled. -/
def Mach.announceMissed (m : Mach) (d : Nat) : Mach := (m.count (PTP_ANN_TMO_n.nth d)).event 0x06 (2 + d)

/-- The count of timeouts of a domain is a field of its own, which neither an event nor a choice of master writes. -/
theorem announceCount_apart : ∀ d < 2, Fd.fit (PTP_ANN_TMO_n.nth d) = true ∧ ptpApart (PTP_ANN_TMO_n.nth d) = true
    ∧ Fd.noEvt 6 (PTP_ANN_TMO_n.nth d) = true := by decide

theorem announceMissed_shows (m : Mach) {d : Nat} (hd : d < 2) : (m.announceMissed d).evt 0x06 (2 + d) = true
    ∧ (m.announceMissed d).fld (PTP_ANN_TMO_n.nth d) = (m.fld (PTP_ANN_TMO_n.nth d) + 1) % 2 ^ 32 ∧ (m.announceMissed d).ptp = m.ptp := by
  obtain ⟨hfit, -, hquiet⟩ := announceCount_apart d hd
  exact ⟨evt_event _ _ _ _ (by simp; omega), (fld_event _ _ _ _ _ _ hquiet).trans (fld_count _ _ _ _ hfit),
    Mach.event_ptp _ _ _ _ (by decide)⟩

/-- The announce receipt timeout forgets a master: none of its data is kept, and the timeout is counted (R97). -/
theorem announceTimeout_forgets {m : Mach} {d : Nat} (hd : d < 2) (hmaster : (ptpDom m d).master.isSome = true) :
    (ptpDom (m.announceTimeout d) d).foreign = (ptpDom m d).foreign.filter (fun f => !isMaster (ptpDom m d) f)
      ∧ (m.announceTimeout d).evt 0x06 (2 + d) = true
      ∧ (m.announceTimeout d).fld (PTP_ANN_TMO_n.nth d) = (m.fld (PTP_ANN_TMO_n.nth d) + 1) % 2 ^ 32 := by
  have htimeout : m.announceTimeout d = ((m.announceMissed d).onDom d fun b =>
      { b with foreign := b.foreign.filter fun f => !isMaster (ptpDom m d) f }).bmca d := if_pos hmaster
  obtain ⟨hset, hcount, hptp⟩ := announceMissed_shows m hd
  obtain ⟨-, hapart, hquiet⟩ := announceCount_apart d hd
  generalize m.announceMissed d = missed at *
  obtain ⟨hforeign, hfld, hevt⟩ := bmca_facts (missed.onDom d fun b =>
    { b with foreign := b.foreign.filter fun f => !isMaster (ptpDom m d) f }) d hd
  rw [htimeout]
  refine ⟨?_, hevt (2 + d) (by omega) ((evt_onDom ..).trans hset), ?_⟩
  · rw [hforeign, ptpDom_on, ptpDom_of_ptp hptp]
  · rw [hfld _ _ (by rw [hapart, hquiet]; rfl), fld_onDom, hcount]

/-- Without a master it is the ports that wait which act. -/
theorem announceTimeout_masters {m : Mach} {d : Nat} (hmaster : (ptpDom m d).master = none) : m.announceTimeout d = m.becomeMasters d := by
  have hnone : ¬ (ptpDom m d).master.isSome = true := by simp [hmaster]
  exact if_neg hnone

section
variable (m : Mach) (d : Nat)

/-- An announce interval: the next one begins, the sequence number moves on, and every master port sends an Announce under the old one. -/
theorem ptpInterval_announce : ∃ y : Mach, y.deadline (.ptpTx d .announce) = some (m.now + 1000000000)
    ∧ (ptpDom y d).annSeq = ((ptpDom m d).annSeq + 1) % 2 ^ 16
    ∧ m.ptpInterval d .announce = y.each (sendingPorts y d (some 6)) fun p z => z.sendPtp p
        (ptpOut z d p .announce (ptpDom m d).annSeq false 0 (z.station + domainOffset z d) (announceData z d)) none := by
  have hseq : (ptpDom ((m.arm (.ptpTx d .announce) (m.now + 1000000000)).becomeMasters d) d).annSeq = (ptpDom m d).annSeq :=
    becomeMasters_annSeq ..
  refine ⟨((m.arm (.ptpTx d .announce) (m.now + 1000000000)).becomeMasters d).onDom d fun b =>
    { b with annSeq := ((ptpDom m d).annSeq + 1) % 2 ^ 16 }, ?_, ?_, ?_⟩
  · exact (deadline_of_timers (timers_of_touch (Mach.becomeMasters_touch ..) rfl) _).trans (deadline_arm_same ..)
  · rw [ptpDom_on]
  · unfold Mach.ptpInterval
    dsimp only
    rw [hseq]

/-- A Sync interval likewise. -/
theorem ptpInterval_sync : ∃ y : Mach, y.deadline (.ptpTx d .sync) = some (m.now + 1000000000)
    ∧ (ptpDom y d).syncSeq = ((ptpDom m d).syncSeq + 1) % 2 ^ 16
    ∧ m.ptpInterval d .sync = y.each (sendingPorts y d (some 6)) fun p z => z.sendPtp p
        (ptpOut z d p .sync (ptpDom m d).syncSeq (z.on (PTP_DOM_two_step.nth d)) 0 0 (announceData z d)) (some (65 + d)) := by
  refine ⟨(m.arm (.ptpTx d .sync) (m.now + 1000000000)).onDom d fun b => { b with syncSeq := ((ptpDom m d).syncSeq + 1) % 2 ^ 16 },
    deadline_arm_same .., ?_, rfl⟩
  rw [ptpDom_on]

/-- A request interval likewise, on every port of the domain; no request of an earlier one is answered any more. -/
theorem ptpInterval_pdelayReq : ∃ y : Mach, y.deadline (.ptpTx d .pdelayReq) = some (m.now + 1000000000)
    ∧ (ptpDom y d).pdSeq = ((ptpDom m d).pdSeq + 1) % 2 ^ 16 ∧ (ptpDom y d).reqAt = []
    ∧ m.ptpInterval d .pdelayReq = y.each (sendingPorts y d none) fun p z => z.sendPtp p
        (ptpOut z d p .pdelayReq (ptpDom m d).pdSeq false 0 0 (announceData z d)) (some (65 + d)) := by
  refine ⟨(m.arm (.ptpTx d .pdelayReq) (m.now + 1000000000)).onDom d fun b =>
    { b with pdSeq := ((ptpDom m d).pdSeq + 1) % 2 ^ 16, reqAt := [] }, deadline_arm_same .., ?_, ?_, rfl⟩
  · rw [ptpDom_on]
  · rw [ptpDom_on]

end

/-- Settles O26: clause by clause, what a frame, a timeout or an interval leaves of the clock. -/
theorem ptpClockRuns : Obligations.PtpClockRuns := by
  refine ⟨?bad, ?sync, ?announce, ?pdelayReq, ?masterLost, ?waitEnds, ?syncLost, ?interval⟩
  case bad =>
    rintro s t _ port fr n hpow rfl h
    exact completes_timeReached (f := fun m => m.ptpRx port fr) rfl hpow (ptpRx_refuses h)
  case sync =>
    rintro s t _ port fr p d hpow rfl - h hkind htwo
    refine completes_timeReached (f := fun m => m.ptpRx port fr) rfl hpow ?_
    obtain ⟨⟨w, hmem, hw⟩, hothers⟩ := await_waits (s.m.timeReached t) d port p
    rw [hkind] at hw hothers
    obtain ⟨hport, hsync, hseq, hat, hstamp⟩ := hw
    rw [ptpRx_sync h hkind htwo]
    exact ⟨w, hmem, hport, hsync, hseq, hat, hstamp, hothers⟩
  case announce =>
    rintro s t _ port fr p d hpow rfl hd h hkind
    refine completes_timeReached (f := fun m => m.ptpRx port fr) rfl hpow ?_
    rw [ptpRx_announce h hkind]
    exact announceRx_heard _ hd port p
  case pdelayReq =>
    rintro s t _ port fr p d hpow rfl - h hkind
    refine completes_timeReached (f := fun m => m.ptpRx port fr) rfl hpow ?_
    rw [ptpRx_pdelayReq h hkind]
    exact ⟨_, rfl, BitVec.ofNat_toNat .., rfl, rfl, rfl⟩
  case masterLost =>
    rintro s t _ d hpow rfl hdue hmaster
    exact completes_timeExpiry (f := fun m => m.announceTimeout d) rfl hpow hdue
      (announceTimeout_forgets (m := (s.m.timeReached t).disarm (.announce d)) d.isLt hmaster)
  case waitEnds =>
    rintro s t _ d hpow rfl hdue hmaster hslave
    refine completes_timeExpiry (f := fun m => m.announceTimeout d) rfl hpow hdue ?_
    rw [announceTimeout_masters (m := (s.m.timeReached t).disarm (.announce d)) hmaster]
    have hfld := becomeMasters_fld (m := (s.m.timeReached t).disarm (.announce d)) hslave
    refine ⟨fun e he hover => ?_, fun p hwaits => ?_⟩
    · rw [hfld, if_pos]
      exact List.mem_map_of_mem (List.mem_filter.mpr ⟨he, decide_eq_true hover⟩)
    · rw [hfld, if_neg]
      · rfl
      · intro hp
        obtain ⟨e, he, hep⟩ := List.mem_map.mp hp
        obtain ⟨hmem, hover⟩ := List.mem_filter.mp he
        exact absurd (of_decide_eq_true hover) (Nat.not_le.mpr (hwaits e hmem hep))
  case syncLost =>
    rintro s t _ d hpow rfl hdue
    refine completes_timeExpiry (f := fun m => m.setQualified (d.val + 1) false) rfl hpow hdue ?_
    obtain ⟨hqual, -, -, -, hdeadline⟩ := setQualified_facts ((s.m.timeReached t).disarm (.syncLoss d)) (d.val + 1) (by omega) false
    refine ⟨?_, (hdeadline _ (by simp) (by simp)).trans (deadline_disarm_same ..)⟩
    fin_cases d
    · exact hqual
    · exact hqual
  case interval =>
    intro s t d k hfires
    refine completes_fires (f := fun m => m.ptpInterval d k) rfl hfires ?_
    cases k with
    | announce => exact ptpInterval_announce ((s.m.advance t).disarm (.ptpTx d .announce)) d
    | sync => exact ptpInterval_sync ((s.m.advance t).disarm (.ptpTx d .sync)) d
    | pdelayReq =>
      obtain ⟨y, hdeadline, hseq, hreq, hsent⟩ := ptpInterval_pdelayReq ((s.m.advance t).disarm (.ptpTx d .pdelayReq)) d
      exact ⟨y, hdeadline, hseq, hreq, hsent⟩

end Sys2Proof.Machine


/-! # The nominal time of a tick, and the end of its window -/

namespace Sys2Proof.Machine

/-! ### The module as a tick finds it -/

theorem tickReached_touch (m : Mach) (t : Nat) : (m.advance t).touch 0x6b10a 0x60 (m.tickReached t) :=
  touch_each (touch_mono (Mach.timeDue_touch _) rfl rfl) fun e _ hx => touch_app hx (Mach.settleStamps_touch _ e) rfl rfl

/-- What falls due before a tick leaves the twin as it was. -/
theorem tickReached_twin (m : Mach) (t : Nat) : (m.tickReached t).twn = m.twn ∧ (m.tickReached t).now = (m.advance t).now
    ∧ (m.tickReached t).force = m.force
    ∧ ∀ (f : Fd) i, f.page = 0x31 → f.off < 4096 → (m.tickReached t).fld f i = m.fld f i := by
  have h := tickReached_touch m t
  exact ⟨(twn_of_touch h rfl :), now_of_touch h rfl, (force_of_touch h rfl :), fun f i hp ho => fld_page31 h rfl f i hp ho⟩

theorem tickReached_state (m : Mach) (t : Nat) : twnState (m.tickReached t) = twnState m :=
  (tickReached_twin m t).2.2.2 _ _ rfl (by decide)

theorem tickReached_clash (m : Mach) (t : Nat) : (m.tickReached t).flag TWN_STS_unit_clash = m.flag TWN_STS_unit_clash :=
  congrArg (· == 1) ((tickReached_twin m t).2.2.2 _ _ rfl (by decide))

/-- A tick's nominal time: a committed copy first, then the evaluation of the twin, then a swap (R227, R244, R254). -/
theorem completes_tick {s : State} {t : Nat} {P : Mach → Prop} (hpow : s.m.powered = true)
    (hP : P (s.m.tickReached t).commitTick.twinEval.swapNow) : Completes (.tickNominalTime t) s P :=
  completes_run (f := fun m => ((m.timeDue).each (List.range 16) fun e m => m.settleStamps e).commitTick.twinEval.swapNow) rfl hpow hP

section
variable {m : Mach}

/-! ### A committed copy (R244) -/

theorem commitTick_waits (h : m.twn.committed = false ∨ twnState m ≠ 3) : m.commitTick = m := by
  refine if_neg fun ⟨hcommitted, hstate, _⟩ => ?_
  rcases h with h | h
  · rw [h] at hcommitted
    contradiction
  · exact h hstate

/-- A Joining module with a committed copy, whose unit does not clash, is a Follower: the copy is counted and signalled. -/
theorem commitTick_follows (hcommitted : m.twn.committed = true) (hjoining : twnState m = 3)
    (hclash : m.flag TWN_STS_unit_clash = false) :
    m.commitTick.now = m.now ∧ twnState m.commitTick = 4
      ∧ m.commitTick.fld (TWN_CNT_n.nth 5) = (m.fld (TWN_CNT_n.nth 5) + 1) % 2 ^ 32 ∧ m.commitTick.evt 0x31 5 = true
      ∧ m.commitTick.evt 0x31 0 = true := by
  have hcommit : m.commitTick = ((m.endCopy.enterTwn 4).count (TWN_CNT_n.nth 5)).event 0x31 5 := if_pos ⟨hcommitted, hjoining, hclash⟩
  have hended : twnState m.endCopy = 3 := (fld_endCopy _ _ _ rfl).trans hjoining
  obtain ⟨hstate, hentered, -, hfld⟩ := enterTwn_facts m.endCopy 4 (by decide)
  obtain ⟨hevt, -⟩ := hentered (by rw [hended]; decide)
  have hnow : (m.endCopy.enterTwn 4).now = m.now :=
    (now_of_touch (Mach.enterTwn_touch ..) rfl).trans (now_of_touch (Mach.endCopy_touch m) rfl)
  have hcount : (m.endCopy.enterTwn 4).fld (TWN_CNT_n.nth 5) = m.fld (TWN_CNT_n.nth 5) :=
    (hfld _ _ rfl).trans (fld_endCopy _ _ _ rfl)
  rw [hcommit]
  generalize m.endCopy.enterTwn 4 = y at *
  refine ⟨?_, ?_, ?_, evt_event _ _ _ _ rfl, evt_event_or _ _ _ _ _ rfl ?_⟩
  · rw [Mach.event_now _ _ _ _ (by decide), Mach.count_now, hnow]
  · unfold twnState at hstate ⊢
    rw [fld_event _ _ _ _ _ _ rfl, fld_count_clear _ _ _ _ _ _ rfl, hstate]
  · rw [fld_event _ _ _ _ _ _ rfl, fld_count _ _ _ _ rfl, hcount]
    rfl
  · rw [evt_count_clear _ _ _ _ _ _ rfl, hevt]

/-! ### The evaluation of the twin (R227) and the swap (R254) -/

/-- No transition into Lead waits, or a clash of units still holds it up. -/
def Mach.keptFromLead (m : Mach) : Prop := m.twn.wantLead = true → m.flag TWN_STS_unit_clash = true

theorem leadDue_false (hkept : m.keptFromLead) : (m.twn.wantLead && !m.flag TWN_STS_unit_clash) = false := by
  cases hwant : m.twn.wantLead with
  | false => rfl
  | true =>
    rw [hkept hwant]
    rfl

theorem tickReached_kept (t : Nat) (hkept : m.keptFromLead) : (m.tickReached t).keptFromLead := by
  unfold Mach.keptFromLead
  rw [(tickReached_twin m t).1, tickReached_clash]
  exact hkept

/-- The differences of the last div_span. -/
def recentDiffs (m : Mach) : List Nat := m.twn.diffs.filter fun d => decide (m.now ≤ d + m.cfg TWN_CFG_div_span * 1000000)

theorem twinEval_leads (hwant : m.twn.wantLead = true) (hclash : m.flag TWN_STS_unit_clash = false) (hstate : twnState m.toLead ≠ 4) :
    m.twinEval = m.toLead := by
  unfold Mach.twinEval
  rw [hwant, hclash]
  exact if_neg hstate

theorem twinEval_rests (hkept : m.keptFromLead) (hstate : twnState m ≠ 4) : m.twinEval = m := by
  unfold Mach.twinEval
  rw [leadDue_false hkept]
  exact if_neg hstate

theorem twinEval_follower (hkept : m.keptFromLead) (hstate : twnState m = 4) :
    m.twinEval = if m.cfg TWN_CFG_div_lim ≤ (recentDiffs m).length then (m.onTwn fun t => { t with diffs := recentDiffs m }).diverge
      else m.onTwn fun t => { t with diffs := recentDiffs m } := by
  unfold Mach.twinEval
  rw [leadDue_false hkept]
  exact if_pos hstate

/-- A divergence is counted and signalled, the differences are forgotten, and the module tries to join anew (R238). -/
theorem diverge_rejoins (m : Mach) : ∃ y : Mach, m.diverge = y.tryJoin true ∧ y.twn.diffs = []
    ∧ y.fld (TWN_CNT_n.nth 4) = (m.fld (TWN_CNT_n.nth 4) + 1) % 2 ^ 32 ∧ y.evt 0x31 4 = true := by
  refine ⟨_, rfl, rfl, ?_, ?_⟩
  · rw [fld_onTwn, fld_event _ _ _ _ _ _ rfl, fld_count _ _ _ _ rfl]
    rfl
  · exact (congrArg (bit · 4) (fld_onTwn ..)).trans (evt_event _ _ _ _ rfl)

theorem swapNow_none (h : m.twn.swapAt = none) : m.swapNow = m := by
  unfold Mach.swapNow
  rw [h]

end

/-! ### The end of a window (R125, R126) -/

section
variable {k : Mach} {g : Nat}

/-- What the end of a group's window does once the frames that wait are taken. -/
def Mach.windowEnds (k : Mach) (g : Nat) : Mach :=
  match nextOpen k g with
  | some n => if expiredAt k n k.now then k.closeDue g none true else k
  | none => k

theorem windowEnds_closes {n : Nat} (hopen : nextOpen k g = some n) (hexpired : expiredAt k n k.now = true) :
    k.windowEnds g = k.closeDue g none true := by
  unfold Mach.windowEnds
  rw [hopen]
  exact if_pos hexpired

theorem windowEnds_rests (h : ∀ n, nextOpen k g = some n → expiredAt k n k.now = false) : k.windowEnds g = k := by
  unfold Mach.windowEnds
  split
  · next n hopen => exact if_neg (by rw [h n hopen]; decide)
  · rfl

end

/-- Settles O27: clause by clause, a tick's nominal time and the end of a window. -/
theorem ticksComeAndClose : Obligations.TicksComeAndClose := by
  refine ⟨?commits, ?rests, ?leads, ?follows, ?closes, ?staysOpen⟩
  case commits =>
    intro s t k hpow _ hcommitted hjoining hclash
    obtain ⟨htwn, hnow, -, hfld⟩ := tickReached_twin s.m t
    have hcommitted' : (s.m.tickReached t).twn.committed = true := by rw [htwn, hcommitted]
    obtain ⟨hnow', hstate, hcount, hevt5, hevt0⟩ := commitTick_follows hcommitted' ((tickReached_state ..).trans hjoining)
      ((tickReached_clash ..).trans hclash)
    refine completes_tick hpow ⟨_, rfl, hnow'.trans hnow, hstate, ?_, hevt5, hevt0⟩
    rw [hcount, hfld _ _ rfl (by decide)]
  case rests =>
    intro s t hpow hcommitted hstate hkept hswap
    obtain ⟨htwn, -⟩ := tickReached_twin s.m t
    refine completes_tick hpow ?_
    rw [commitTick_waits (.inl (by rw [htwn, hcommitted])), twinEval_rests (tickReached_kept t hkept) (by rw [tickReached_state]; exact hstate),
      swapNow_none (by rw [htwn, hswap])]
  case leads =>
    intro s t hpow hcommitted hwant hclash
    obtain ⟨htwn, -⟩ := tickReached_twin s.m t
    refine completes_tick hpow ⟨_, rfl, fun hstate => ?_⟩
    rw [commitTick_waits (.inl (by rw [htwn, hcommitted])),
      twinEval_leads (by rw [htwn, hwant]) ((tickReached_clash ..).trans hclash) hstate]
  case follows =>
    intro s t k recent hpow hk hfollower hkept hswap hrecent
    obtain ⟨htwn, hnow, hforce, hfld⟩ := tickReached_twin s.m t
    have hstate := (tickReached_state s.m t).trans hfollower
    have hkept' := tickReached_kept (m := s.m) t hkept
    refine completes_tick hpow ?_
    rw [← hk] at *
    have hrecent' : recentDiffs k = recent := by
      unfold recentDiffs
      rw [htwn, hnow, cfg_of_force hforce, hrecent]
    rw [commitTick_waits (.inr (by rw [hstate]; decide)), twinEval_follower hkept' hstate, hrecent', cfg_of_force hforce]
    refine ⟨fun hfew => ?_, fun hmany => ?_⟩
    · rw [if_neg (Nat.not_le.mpr hfew), swapNow_none (by rw [← hswap, ← htwn]; rfl)]
      exact ⟨hstate, rfl, rfl⟩
    · rw [if_pos hmany]
      obtain ⟨y, hjoins, hdiffs, hcount, hevt⟩ := diverge_rejoins (k.onTwn fun t => { t with diffs := recent })
      rw [fld_onTwn, hfld _ _ rfl (by decide)] at hcount
      rw [hjoins]
      exact ⟨y, rfl, hdiffs, hcount, hevt⟩
  case closes =>
    rintro s t g _ n hpow rfl hopen hexpired
    refine completes_run (f := fun m => m.sviTake.windowEnds g) rfl hpow ?_
    rw [windowEnds_closes hopen hexpired]
    exact closeDue_first _ g n hopen hexpired
  case staysOpen =>
    rintro s t g _ hpow rfl h
    exact completes_run (f := fun m => m.sviTake.windowEnds g) rfl hpow (windowEnds_rests h)

end Sys2Proof.Machine


/-! # The commands of the clock and of ticks complete -/

namespace Sys2Proof.Machine

/-- Settles O57: each clause is the clause of O26 or O27 about its command, with part of its effect. -/
theorem ptpAndTickCommandsComplete : Obligations.PtpAndTickCommandsComplete := by
  obtain ⟨-, -, hannounce, -, hmasterLost, -, hsyncLost, hinterval⟩ := ptpClockRuns
  obtain ⟨hcommits, -, -, -, hcloses, -⟩ := ticksComeAndClose
  refine ⟨?announce, ?masterLost, ?syncLost, ?interval, ?commits, ?closes⟩
  case announce =>
    intro s t port fr p d hpow hd h hkind
    exact (hannounce s t (s.m.timeReached t) port fr p d hpow rfl hd h hkind).mono
      fun m' ⟨f, hf, hport, hclock, _, hann, _⟩ => ⟨f, hf, hport, hclock, hann⟩
  case masterLost =>
    intro s t d hpow hdue hmaster
    exact (hmasterLost s t (s.m.timeReached t) d hpow rfl hdue hmaster).mono fun m' ⟨_, hevt, _⟩ => hevt
  case syncLost =>
    intro s t d hpow hdue
    exact (hsyncLost s t (s.m.timeReached t) d hpow rfl hdue).mono fun m' ⟨hflag, _⟩ => hflag
  case interval =>
    intro s t d hfires
    exact (hinterval s t d .announce hfires).mono fun m' ⟨y, _, hseq, hsent⟩ => ⟨y, hseq, hsent⟩
  case commits =>
    intro s t hpow hcommitted hjoining hclash
    exact (hcommits s t (s.m.tickReached t) hpow rfl hcommitted hjoining hclash).mono
      fun m' ⟨y, hm', _, hstate, hcount, hevt, _⟩ => ⟨y, hm', hstate, hcount, hevt⟩
  case closes =>
    intro s t g n hpow hopen hexpired
    exact (hcloses s t g (s.m.advance t).sviTake n hpow rfl hopen hexpired).mono
      fun m' ⟨y, tk, rest, hm', hgroup, htick, hcause, _⟩ => ⟨y, tk, rest, hm', hgroup, htick, hcause⟩

end Sys2Proof.Machine


/-! # Sampled-value frames -/

namespace Sys2Proof.Machine

/-! ### A frame at SVI's port (R120, R146, R170) -/

/-- A counter of SVI's page with an event beside it: the count, the event, and no other change of SVI. -/
theorem countedEvent_svi (y : Mach) {f : Fd} (i : Nat) {b : Nat} (a : Attr) (hf : Fd.noEvt 0x0A f = true) (hb : b < 32) :
    ((y.count f i).event 0x0A b a).fld f i = (y.fld f i + 1) % 2 ^ (f.hi + 1 - f.lo)
      ∧ ((y.count f i).event 0x0A b a).evt 0x0A b = true ∧ ((y.count f i).event 0x0A b a).svi = y.svi := by
  have hfit : Fd.fit f = true := by
    simp only [Fd.noEvt, Bool.and_eq_true] at hf
    exact hf.1.1.1
  exact ⟨(fld_event _ _ _ _ _ _ hf).trans (fld_count _ _ _ _ hfit), evt_event _ _ _ _ (by simp [hb]),
    Mach.event_svi _ _ _ _ (by decide)⟩

theorem completes_svFrame {s : State} {t : Nat} {fr : Frame} {port : Fin 16} {arrival : Nat} {P : Mach → Prop} (hpow : s.m.powered = true)
    (hP : P ((s.m.advance t).sviRx fr port arrival)) : Completes (.svFrame t fr port arrival) s P :=
  completes_run (f := fun m => m.sviRx fr port arrival) rfl hpow hP

section
variable {m : Mach} {fr : Frame} {arrival : Nat}

theorem sviRx_takes {port : Nat} (h : backlog m < 256) : m.sviRx fr port arrival = m.sviFrame fr arrival := if_neg (Nat.not_le.mpr h)

theorem sviRx_holds {port : Nat} (hfull : 256 ≤ backlog m) (hroom : heldOf m port < 64) :
    m.sviRx fr port arrival = m.onSvi fun b => { b with held := b.held ++ [(fr, port, arrival)] } :=
  (if_pos hfull).trans (if_pos hroom)

theorem sviRx_passesOn {port : Nat} (hfull : 256 ≤ backlog m) (hheld : 64 ≤ heldOf m port) :
    m.sviRx fr port arrival = ((m.count (sviCnt 19)).event 0x0A 10).waitForSvi fr port arrival :=
  (if_pos hfull).trans (if_neg (Nat.not_lt.mpr hheld))

/-- While MSR's queue has room, SVI takes the frame. -/
theorem completes_svTaken {s : State} {t : Nat} {port : Fin 16} {P : Mach → Prop} (hpow : s.m.powered = true) (hroom : backlog s.m < 256)
    (hP : P ((s.m.advance t).sviFrame fr arrival)) : Completes (.svFrame t fr port arrival) s P :=
  completes_svFrame hpow (by rw [sviRx_takes (m := s.m.advance t) hroom]; exact hP)

theorem sviFrame_badFcs (h : fr.fcs ≠ .good) : m.sviFrame fr arrival = m.count (sviCnt 0) := if_pos (bne_iff_ne.mpr h)

theorem sviFrame_otherBody (hfcs : fr.fcs = .good) (hbody : ∀ a, fr.body ≠ .sv a) : m.sviFrame fr arrival = m.frameDrop 1 := by
  unfold Mach.sviFrame
  rw [hfcs, if_neg (by decide)]
  dsimp only
  split
  · next a ha => exact absurd ha (hbody a)
  · rfl

/-- A sampled-value frame in form that no subscription matches fails check 3. -/
theorem sviFrame_unmatched {a : SvApdu} (hfcs : fr.fcs = .good) (hbody : fr.body = .sv a) (htype : fr.etype = 0x88BA)
    (htag : fr.tag = .untagged) (hshort : 64 ≤ fr.len) (hlong : fr.len ≤ 1518) (hsub : subFor m fr.dst a.appid.toNat = none)
    (hold : oldFor m fr.dst a (arrival + m.time.epoch) = none) : m.sviFrame fr arrival = m.count (sviCnt 2) := by
  unfold Mach.sviFrame
  rw [hfcs, if_neg (by decide)]
  dsimp only
  rw [hbody]
  dsimp only
  have hform : ¬ (fr.etype != 0x88BA || fr.tag == .stacked || decide (fr.len < 64)
      || decide ((if (fr.tag == .untagged) = true then 1518 else 1522) < fr.len)) = true := by
    rw [htype, htag]
    simp only [bne_self_eq_false, Bool.false_or, Bool.or_eq_true, decide_eq_true_eq, not_or]
    exact ⟨⟨by decide, by omega⟩, by rw [if_pos (by decide)]; omega⟩
  rw [if_neg hform, hold, hsub]

/-! ### An ASDU that passes checks 8 to 11 of a group of class G at the tick rate -/

/-- A frame with one such ASDU: what the ASDU completes closes after it. -/
theorem sviFrame_single {a : SvApdu} {x : Asdu} {i : Nat} (h : m.svPasses fr a i arrival) (hone : a.asdus = [x]) (hx : m.asduPasses i x)
    (hrate : resampled (genNow m) i = false) :
    m.sviFrame fr arrival = (m.sampleAsdu (m.cfg SVI_SUB_CTRL_group i) i a.sim x arrival (arrival + m.time.epoch)).closeDue
      (m.cfg SVI_SUB_CTRL_group i) := by
  rw [sviFrame_passes m fr arrival i a h, hone, ← sviAsdu_passes m i arrival a.sim x hx hrate]
  rfl

/-- Its sample joins an open tick: the ASDU is counted, its synchronisation shown, and the sample added. -/
theorem sampleAsdu_joins {g i n : Nat} {sim : Bool} {x : Asdu} {st : Int} (hclass : groupClass (genNow m) g = 0)
    (hearly : -(m.cfg SVI_TICK_early_tol * 1000 * rateHz (m.cfg SVI_SUB_CTRL_rate i) : Int) ≤ (nearest (rateHz (m.cfg SVI_SUB_CTRL_rate i)) st x.smpCnt).2)
    (htick : tickOnGrid m.svi.grids (rateHz (m.cfg SVI_SUB_CTRL_rate i)) (nearest (rateHz (m.cfg SVI_SUB_CTRL_rate i)) st x.smpCnt).1 none = some n)
    (hopen : openFor m g n arrival = true) (hplaced : placedIn m n i = true)
    (hfirst : (m.svi.samples.any fun e => e.group == g && e.tick == n && e.sub == i) = false) :
    (m.sampleAsdu g i sim x arrival st).fld SVI_SUB_ASDU_n i = (m.fld SVI_SUB_ASDU_n i + 1) % 2 ^ 32
      ∧ (m.sampleAsdu g i sim x arrival st).fld SVI_SUB_STS_smp_synch i = x.smpSynch.toNat
      ∧ ∃ e, (m.sampleAsdu g i sim x arrival st).svi.samples = m.svi.samples ++ [e] ∧ e.group = g ∧ e.tick = n ∧ e.sub = i
          ∧ e.synch = x.smpSynch.toNat := by
  obtain ⟨-, hjoins⟩ := sampleAsdu_global m g i n arrival sim x st hclass hearly htick
  obtain ⟨y, z, cs, hy, hz, hsample⟩ := hjoins hopen hfirst hplaced
  obtain ⟨hcount, hsynch, -, -, -, hsamples⟩ := validAsdu_facts m i x.smpCnt x.smpSynch.toNat arrival x.smpSynch.isLt
  obtain ⟨hsvi, hfld⟩ := checkChans_facts y i sim x.chans
  rw [← hz] at hsvi hfld
  rw [← hy] at hcount hsynch hsamples
  rw [hsample]
  refine ⟨?_, ?_, { group := g, tick := n, sub := i, synch := x.smpSynch.toNat, chans := cs }, ?_, rfl, rfl, rfl, rfl⟩
  · rw [fld_onStream, fld_onSvi, hfld _ _ rfl, hcount]
  · rw [fld_onStream, fld_onSvi, hfld _ _ rfl, hsynch]
  · rw [← hsamples, ← hsvi]
    rfl

/-- A late sample is counted for SVI and for its subscription, with event 3. -/
theorem lateSample_shows (m : Mach) (i : Nat) : (m.lateSample i).fld SVI_SUB_LATE_n i = (m.fld SVI_SUB_LATE_n i + 1) % 2 ^ 32
    ∧ (m.lateSample i).evt 0x0A 3 = true ∧ (m.lateSample i).svi = m.svi := by
  obtain ⟨hcount, hevt, hsvi⟩ := countedEvent_svi (m.count (sviCnt 11)) (f := SVI_SUB_LATE_n) (b := 3) i (.item i) rfl (by decide)
  rw [fld_count_clear _ _ _ _ _ _ rfl] at hcount
  exact ⟨hcount, hevt, hsvi⟩

end

/-! ### The timeout of a stream (R130) -/

section
variable {s : State} {t : Nat} {i : Fin 2048} {P : Mach → Prop}

theorem completes_streamPast (hpow : s.m.powered = true) (hpast : (s.m.advance t).sviTake.past (.stream i) = true)
    (hP : P (((s.m.advance t).sviTake.disarm (.stream i)).streamLost i)) : Completes (.streamTimeout t i) s P :=
  completes_run (f := fun m => (m.sviTake).onPast (.stream i) fun m => m.streamLost i) rfl hpow (by rw [Mach.onPast, if_pos hpast]; exact hP)

theorem completes_streamKept (hpow : s.m.powered = true) (hpast : (s.m.advance t).sviTake.past (.stream i) = false)
    (hP : P (s.m.advance t).sviTake) : Completes (.streamTimeout t i) s P :=
  completes_run (f := fun m => (m.sviTake).onPast (.stream i) fun m => m.streamLost i) rfl hpow
    (by rw [Mach.onPast, if_neg (by rw [hpast]; decide)]; exact hP)

end

/-- A priming stream waits again. -/
theorem streamLost_priming {m : Mach} {i : Nat} (h : subState m i = 2) : m.streamLost i = m.setSub i 1 := by
  unfold Mach.streamLost
  rw [h]
  rfl

/-- An Active stream is Lost, counted and signalled; then its group's ticks may close. -/
theorem streamLost_active {m : Mach} {i : Nat} (h : subState m i = 3) :
    ∃ y : Mach, m.streamLost i = y.closeDue (m.cfg SVI_SUB_CTRL_group i) ∧ subState y i = 4
      ∧ y.fld SVI_SUB_LOST_n i = (m.fld SVI_SUB_LOST_n i + 1) % 2 ^ 32 ∧ y.evt 0x0A 0 = true := by
  obtain ⟨hstate, hfld, hforce, -⟩ := setSub_facts m i 4 (by decide)
  obtain ⟨hcount, hevt, -⟩ := countedEvent_svi (m.setSub i 4) (f := SVI_SUB_LOST_n) (b := 0) i (.item i) rfl (by decide)
  refine ⟨((m.setSub i 4).count SVI_SUB_LOST_n i).event 0x0A 0 (.item i), ?_, ?_, ?_, hevt⟩
  · unfold Mach.streamLost
    rw [h]
    rfl
  · rw [subState, fld_event _ _ _ _ _ _ rfl, fld_count_clear _ _ _ _ _ _ rfl, hstate]
  · rw [hcount, hfld _ _ rfl]
    rfl

/-- Settles O28: frame by frame what a failed check, a full queue and a sample do, and the cases of a stream's timeout. -/
theorem svFramesAreTaken : Obligations.SvFramesAreTaken := by
  refine ⟨?badFcs, ?otherBody, ?unmatched, ?held, ?passedOn, ?joins, ?late, ?lost, ?waitsAgain, ?stays⟩
  case badFcs =>
    intro s t fr port arrival hpow hroom hfcs
    refine completes_svTaken hpow hroom ?_
    rw [sviFrame_badFcs hfcs]
    exact ⟨fld_count _ _ _ _ rfl, rfl⟩
  case otherBody =>
    intro s t fr port arrival hpow hroom hfcs hbody
    refine completes_svTaken hpow hroom ?_
    rw [sviFrame_otherBody hfcs hbody]
    exact countedEvent_svi (s.m.advance t) (f := sviCnt 1) 0 .module rfl (by decide)
  case unmatched =>
    intro s t fr port arrival a hpow hroom hfcs hbody htype htag hshort hlong hsub hold
    refine completes_svTaken hpow hroom ?_
    rw [sviFrame_unmatched (m := s.m.advance t) hfcs hbody htype htag hshort hlong hsub hold]
    exact ⟨fld_count _ _ _ _ rfl, rfl⟩
  case held =>
    intro s t fr port arrival hpow hfull hroom
    exact completes_svFrame hpow (sviRx_holds hfull hroom)
  case passedOn =>
    intro s t fr port arrival hpow hfull hheld
    obtain ⟨hcount, hevt, hsvi⟩ := countedEvent_svi (s.m.advance t) (f := sviCnt 19) (b := 10) 0 .module rfl (by decide)
    exact completes_svFrame hpow ⟨_, sviRx_passesOn hfull hheld, hsvi, hcount, hevt⟩
  case joins =>
    intro s t fr port arrival i n a x hpow hroom hpasses hone hx hrate hclass hearly htick hopen hplaced hfirst
    refine completes_svTaken hpow hroom ⟨_, ?_, sampleAsdu_joins (m := s.m.advance t) (sim := a.sim) hclass hearly htick hopen hplaced hfirst⟩
    exact sviFrame_single (m := s.m.advance t) hpasses hone hx hrate
  case late =>
    intro s t fr port arrival i n a x hpow hroom hpasses hone hx hrate hclass hearly htick hopen
    obtain ⟨hlate, -⟩ := sampleAsdu_global (s.m.advance t) _ i n arrival a.sim x _ hclass hearly htick
    refine completes_svTaken hpow hroom ⟨_, ?_, lateSample_shows (s.m.advance t) i⟩
    rw [← hlate hopen]
    exact sviFrame_single (m := s.m.advance t) hpasses hone hx hrate
  case lost =>
    rintro s t i _ hpow rfl hpast hactive
    exact completes_streamPast hpow hpast (streamLost_active (m := (s.m.advance t).sviTake.disarm (.stream i)) hactive)
  case waitsAgain =>
    rintro s t i _ hpow rfl hpast hpriming
    obtain ⟨hstate, -, -, -, -, -, hsvi⟩ := setSub_facts ((s.m.advance t).sviTake.disarm (.stream i)) i 1 (by decide)
    refine completes_streamPast hpow hpast ?_
    rw [streamLost_priming (m := (s.m.advance t).sviTake.disarm (.stream i)) hpriming]
    exact ⟨hstate, hsvi (by decide)⟩
  case stays =>
    rintro s t i _ hpow rfl hpast
    exact completes_streamKept hpow hpast rfl

end Sys2Proof.Machine


/-! # The two waits of equalisation -/

namespace Sys2Proof.Machine

/-! ### The lead's wait for a descriptor (R235) -/

/-- A waiting tick with the COMB that the lead forms for it. -/
def EqTick.combined (e : EqTick) : EqTick := { e with comb := some (formComb e) }

/-- What the lead does about the COMB of one waiting tick. -/
def Mach.combFor (k : Mach) (g : Nat) (late : Bool) (e : EqTick) : Mach :=
  if e.led = true ∧ e.tk.group = g ∧ e.done = false ∧ e.comb = none ∧
      (e.desc.isSome = true ∨ (late = true ∧ e.tk.closedAt + 20000 ≤ k.now)) then k.sendComb e else k

theorem combDue_eq (m : Mach) (g : Nat) (late : Bool) : m.combDue g late = (m.each m.svi.eq fun e k => k.combFor g late e).eqAdvance g := rfl

section
variable {k : Mach} {g : Nat} {late : Bool} {e x : EqTick}

theorem mem_sendComb (h : x ∈ k.svi.eq) : (if x = e then e.combined else x) ∈ (k.sendComb e).svi.eq := by
  rw [sendComb_eq]
  exact List.mem_map_of_mem h

theorem combFor_now : (k.combFor g late e).now = k.now := by
  unfold Mach.combFor
  split
  · exact now_of_touch (Mach.sendComb_touch k e) rfl
  · rfl

/-- A tick that has its COMB keeps it. -/
theorem combFor_keeps (hcomb : x.comb ≠ none) (h : x ∈ k.svi.eq) : x ∈ (k.combFor g late e).svi.eq := by
  unfold Mach.combFor
  split
  · next hdue =>
    have hne : x ≠ e := fun hxe => hcomb (hxe ▸ hdue.2.2.2.1)
    have hmem := mem_sendComb (e := e) h
    rwa [if_neg hne] at hmem
  · exact h

/-- Any waiting tick stays as it is, or gets its COMB. -/
theorem combFor_waits (h : x ∈ k.svi.eq) : x ∈ (k.combFor g late e).svi.eq ∨ x.combined ∈ (k.combFor g late e).svi.eq := by
  unfold Mach.combFor
  split
  · have hmem := mem_sendComb (e := e) h
    split at hmem
    · next hxe => exact .inr (hxe ▸ hmem)
    · exact .inl hmem
  · exact .inl h

/-- The tick itself gets its COMB once the lead has waited 20 µs. -/
theorem combFor_self (hled : e.led = true) (hgroup : e.tk.group = g) (hdone : e.done = false) (hcomb : e.comb = none)
    (hlate : e.tk.closedAt + 20000 ≤ k.now) (h : e ∈ k.svi.eq) : e.combined ∈ (k.combFor g true e).svi.eq := by
  unfold Mach.combFor
  rw [if_pos ⟨hled, hgroup, hdone, hcomb, .inr ⟨rfl, hlate⟩⟩]
  have hmem := mem_sendComb (e := e) h
  rwa [if_pos rfl] at hmem

/-- Each of the ticks that have waited 20 µs gets its COMB, whatever the lead does about the others. -/
theorem each_combFor (hled : x.led = true) (hgroup : x.tk.group = g) (hdone : x.done = false) (hcomb : x.comb = none) {l : List EqTick}
    (hl : x ∈ l) (hlate : x.tk.closedAt + 20000 ≤ k.now) (h : x ∈ k.svi.eq ∨ x.combined ∈ k.svi.eq) :
    x.combined ∈ (k.each l fun e k => k.combFor g true e).svi.eq := by
  have hkeeps : ∀ (e : EqTick) (y : Mach), x.combined ∈ y.svi.eq → x.combined ∈ (y.combFor g true e).svi.eq :=
    fun e y => combFor_keeps (by simp [EqTick.combined])
  induction l generalizing k with
  | nil => contradiction
  | cons e l ih =>
    change x.combined ∈ ((k.combFor g true e).each l fun e k => k.combFor g true e).svi.eq
    rcases List.mem_cons.mp hl with rfl | hrest
    · refine each_inv (fun y => x.combined ∈ y.svi.eq) l _ _ hkeeps ?_
      rcases h with h | h
      · exact combFor_self hled hgroup hdone hcomb hlate h
      · exact hkeeps x k h
    · refine ih hrest (hlate.trans_eq combFor_now.symm) ?_
      rcases h with h | h
      · exact combFor_waits h
      · exact .inr (hkeeps e k h)

end

/-! ### The wait for a COMB or for copies (R141, R235) -/

section
variable {m : Mach} {g : Nat} {e : EqTick}

theorem eqApply_none (h : e.comb = none) : m.eqApply e = (m, { e with done := true }) := by
  unfold Mach.eqApply
  rw [h]

theorem eqApply_present {c : CombMsg} (h : e.comb = some c) : (m.eqApply e).2.tk.present = c.streams := by
  unfold Mach.eqApply
  rw [h]

/-- A follower that has waited for a COMB in vain counts it and signals it (R235). -/
def Mach.combMissed (m : Mach) (e : EqTick) : Mach := if e.comb.isNone then (m.count (TWN_CNT_n.nth 1)).event 0x31 10 else m

theorem combMissed_svi : (m.combMissed e).svi = m.svi := by
  unfold Mach.combMissed
  split
  · exact Mach.event_svi _ _ _ _ (by decide)
  · rfl

/-- The only tick in equalisation, its wait over: it is applied, and what is done leaves. -/
theorem eqTimeout_single (heq : m.svi.eq = [e]) (hgroup : e.tk.group = g) (hdone : e.done = false) (hend : eqEnd e ≤ m.now)
    (hdue : e.comb.isSome = true ∨ e.led = false) :
    ∃ y : Mach, m.eqTimeout g = y.eqLeave g ∧ y.svi.eq = [((m.combMissed e).eqApply e).2] ∧ y.regs = ((m.combMissed e).eqApply e).1.regs := by
  refine ⟨((m.combMissed e).eqApply e).1.onSvi fun b =>
    { b with eq := b.eq.map fun x => if x = e then ((m.combMissed e).eqApply e).2 else x }, ?_, ?_, rfl⟩
  · unfold Mach.eqTimeout
    rw [heq]
    exact congrArg (Mach.eqLeave · g) (if_pos ⟨hgroup, hdone, hend, hdue⟩)
  · obtain ⟨hsvi, -⟩ := eqApply_svi (m.combMissed e) e
    change ((m.combMissed e).eqApply e).1.svi.eq.map _ = _
    rw [hsvi, combMissed_svi, heq, List.map_singleton, if_pos rfl]

end

/-- Settles O29: the COMBs of the ticks that waited, and the one tick whose 40 µs end, without a COMB and with one. -/
theorem equalisationWaitsEnd : Obligations.EqualisationWaitsEnd := by
  refine ⟨?leadWaited, ?noComb, ?comb⟩
  case leadWaited =>
    intro s t g hfires
    refine completes_fires (f := fun m => (m.combDue g true).eqTimers g) rfl hfires ⟨_, congrArg (Mach.eqTimers · g) (combDue_eq ..), ?_⟩
    intro e he hled hgroup hdone hcomb hlate
    exact ⟨e.combined, each_combFor (k := (s.m.advance t).disarm (.combWait g)) hled hgroup hdone hcomb he hlate (.inl he), rfl, rfl, rfl⟩
  case noComb =>
    intro s t g e hfires heq hgroup hdone hlate hled hcomb
    obtain ⟨y, hleaves, hsvi, hregs⟩ := eqTimeout_single (m := (s.m.advance t).disarm (.eqComb g)) heq hgroup hdone
      (by unfold eqEnd; rw [hcomb]; exact hlate) (.inr hled)
    rw [eqApply_none hcomb] at hsvi hregs
    have hmissed : ((s.m.advance t).disarm (.eqComb g)).combMissed e
        = (((s.m.advance t).disarm (.eqComb g)).count (TWN_CNT_n.nth 1)).event 0x31 10 := if_pos (by rw [hcomb]; rfl)
    rw [hmissed] at hregs
    refine completes_fires (f := fun m => m.eqTimeout g) rfl hfires ⟨y, hleaves, hsvi, ?_, ?_⟩
    · rw [fld_of_regs hregs, fld_event _ _ _ _ _ _ rfl]
      exact fld_count _ _ _ _ rfl
    · exact (congrArg (bit · 10) (fld_of_regs hregs _ _)).trans (evt_event _ _ _ _ rfl)
  case comb =>
    intro s t g e c hfires heq hgroup hdone hlate hcomb
    obtain ⟨y, hleaves, hsvi, -⟩ := eqTimeout_single (m := (s.m.advance t).disarm (.eqComb g)) heq hgroup hdone
      (by unfold eqEnd; rw [hcomb]; exact hlate) (.inl (by rw [hcomb]; rfl))
    obtain ⟨-, hover, htick, hkept⟩ := eqApply_svi (((s.m.advance t).disarm (.eqComb g)).combMissed e) e
    exact completes_fires (f := fun m => m.eqTimeout g) rfl hfires
      ⟨y, _, hleaves, hsvi, hover, htick, hkept.trans hcomb, eqApply_present hcomb⟩

end Sys2Proof.Machine


/-! # The commands of SVI, of equalisation and of the measurand engine complete -/

namespace Sys2Proof.Machine

/-! ### Sets and holds of the measurand engine (R156, R160, R168) -/

/-- The end of MSR's set: what it has made is handed over. -/
def Mach.msrDone (m : Mach) : Mach :=
  match m.msrFinish with
  | (m, some out) => m.handOut out
  | (m, none) => m

section
variable {m : Mach}

/-- MSR is free again once it has finished the set it is busy with. -/
theorem msrDone_busy {out : SetOut} (h : m.msr.busy = some out) : ∃ y : Mach, m.msrDone = y.handOut out ∧ y.msr.busy = none := by
  unfold Mach.msrDone Mach.msrFinish
  rw [h]
  refine ⟨_, rfl, ?_⟩
  split
  · exact congrArg Msr.busy (Mach.event_msr _ _ _ _ (by decide))
  · rfl

/-- The hold of a tracker in Holding has elapsed: its next tick finds it over. -/
theorem trackerFallback_holding {k : Nat} (h : m.fld MSR_TRK_STS_state k = 3) :
    msrTrk (m.trackerFallback k) k = { msrTrk m k with holdOver := true } := by
  unfold Mach.trackerFallback
  rw [if_pos h]
  exact congrArg (fun o : Option Tracker => o.getD {}) (kget_kput_same ..)

/-- The hold of a temperature source in Holding has elapsed: its next tick finds it over. -/
theorem tempFallback_holding {k : Nat} {a : Int} {b : Bool} (h : m.fld MSR_TS_STS_state k = 1) (hhold : kget k m.msr.tsHold = some (a, b)) :
    kget k (m.tempFallback k).msr.tsHold = some (a, true) := by
  unfold Mach.tempFallback
  rw [if_pos h]
  change kget k (match kget k m.msr.tsHold with | some (at_, _) => kput k (at_, true) m.msr.tsHold | none => m.msr.tsHold) = _
  rw [hhold]
  exact kget_kput_same ..

theorem msrClear_shows (m : Mach) : m.msrClear.fld MSR_MAXTIME_t = 0 ∧ m.msrClear.fld MSR_BACKLOG_max = 0 := by
  unfold Mach.msrClear
  exact ⟨(fld_set_clear _ _ _ _ _ _ rfl).trans (fld_set _ _ _ _ rfl), fld_set _ _ _ _ rfl⟩

end

/-- Settles O58: the samples by O28, the waits of equalisation by O29, and the measurand engine by what its operations do. -/
theorem sampleAndMeasurandCommandsComplete : Obligations.SampleAndMeasurandCommandsComplete := by
  obtain ⟨-, -, -, hheld, -, hjoins, -, hlost, -, -⟩ := svFramesAreTaken
  obtain ⟨hleadWaited, hnoComb, -⟩ := equalisationWaitsEnd
  refine ⟨?held, ?joins, ?lost, ?leadWaited, ?noComb, ?takes, ?finishes, ?tracker, ?tempSource, ?clears⟩
  case held =>
    intro s t fr port arrival hpow hfull hroom
    exact (hheld s t fr port arrival hpow hfull hroom).mono fun m' hm' => by rw [hm']; rfl
  case joins =>
    intro s t fr port arrival i n a x hpow hroom hpasses hone hx hrate hclass hearly htick hopen hplaced hfirst
    exact (hjoins s t fr port arrival i n a x hpow hroom hpasses hone hx hrate hclass hearly htick hopen hplaced hfirst).mono
      fun m' ⟨y, hm', _, _, e, hsamples, _, hn, hi, _⟩ => ⟨y, e, hm', hsamples, hn, hi⟩
  case lost =>
    intro s t i hpow hpast hactive
    exact (hlost s t i _ hpow rfl hpast hactive).mono fun m' ⟨y, hm', hstate, _, hevt⟩ => ⟨y, hm', hstate, hevt⟩
  case leadWaited =>
    intro s t g e hfires he hled hgroup hdone hcomb hlate
    refine (hleadWaited s t g hfires).mono fun m' ⟨y, hm', hsent⟩ => ⟨y, hm', ?_⟩
    obtain ⟨e', he', htk, hcomb', -⟩ := hsent e he hled hgroup hdone hcomb hlate
    exact ⟨e', he', htk, hcomb'⟩
  case noComb =>
    intro s t g e hfires heq hgroup hdone hlate hled hcomb
    exact (hnoComb s t g e hfires heq hgroup hdone hlate hled hcomb).mono fun m' ⟨y, hm', hsvi, _, hevt⟩ => ⟨y, hm', hsvi, hevt⟩
  case takes =>
    intro s t x rest hpow hfree hqueue
    obtain ⟨out, hbusy, hticks, -⟩ := msrTake_shows (s.m.advance t) x rest hfree hqueue
    exact completes_run (f := fun m => m.msrTake.sviTake) rfl hpow ⟨_, out, rfl, hbusy, hticks⟩
  case finishes =>
    intro s t out hpow hbusy
    exact completes_run (f := fun m => m.msrDone) rfl hpow (msrDone_busy (m := s.m.advance t) hbusy)
  case tracker =>
    intro s t k hfires hholding
    exact completes_fires (f := fun m => m.trackerFallback k) rfl hfires
      (trackerFallback_holding (m := (s.m.advance t).disarm (.tracker k)) hholding)
  case tempSource =>
    intro s t k a b hfires hholding hhold
    exact completes_fires (f := fun m => m.tempFallback k) rfl hfires
      (tempFallback_holding (m := (s.m.advance t).disarm (.tempSource k)) hholding hhold)
  case clears =>
    intro s t src hpow hsrc
    refine completes_put (page := 0x0B) (off := 0x04C) (v := 1) rfl hpow hsrc (by decide) fun k i _ _ => ?_
    obtain ⟨hmaxtime, hbacklog⟩ := msrClear_shows k
    exact ⟨(fld_audit _ _ _ _ _ _ _ rfl).trans hmaxtime, (fld_audit _ _ _ _ _ _ _ rfl).trans hbacklog⟩

end Sys2Proof.Machine


/-! # The messages of the link -/

namespace Sys2Proof.Machine

/-! ### What a frame that passes leaves to its message (R229, R230) -/

/-- What the taking of a frame that passes leaves as it was, of what its message meets. -/
structure Mach.meets (m y : Mach) : Prop where
  now : y.now = m.now
  force : y.force = m.force
  svi : y.svi = m.svi
  pub : y.pub = m.pub
  twn : ∃ a l n, twnRest y.twn = twnRest { m.twn with evidence := a, linkRx := l, lastTick := n }
  fld : ∀ (f : Fd) i, Fd.clear PLT_LAST_RX_tag f = true → Fd.clear PLT_CNT_n f = true → Fd.clear TWN_STS_in_step f = true → y.fld f i = m.fld f i

section
variable {s : State} {t : Nat} {hd : PlaitHdr} {x : PlaitMsg} {c : Instr} {P : Mach → Prop}

theorem plaitFrame_meets (m : Mach) (hp : m.plaitPasses hd) : ∃ y, m.plaitFrame hd x = (y.plaitMsg x).handled ∧ m.took hd y ∧ m.meets y := by
  obtain ⟨y, hy, htook, htouch, htwn, hfld⟩ := plaitFrame_passes m hd x hp
  exact ⟨y, hy, htook, now_of_touch htouch rfl, force_of_touch htouch rfl, svi_of_touch htouch rfl, pub_of_touch htouch rfl, ⟨_, _, _, htwn⟩, hfld⟩

theorem completes_delivers (hexec : exec c s = s.run t fun m => m.plaitFrame hd x) (hpow : s.m.powered = true) (hp : s.m.plaitPasses hd)
    (hP : ∀ y, (s.m.advance t).meets y → P (y.plaitMsg x)) : Completes c s ((s.m.advance t).delivers hd x P) := by
  obtain ⟨y, hy, htook, hmeets⟩ := plaitFrame_meets (x := x) (s.m.advance t) hp
  exact completes_run hexec hpow ⟨y, htook, hy, hP y hmeets⟩

theorem completes_discards (hexec : exec c s = s.run t fun m => m.plaitFrame hd x) (hpow : s.m.powered = true) (hp : s.m.plaitPasses hd)
    (hidle : ∀ y, (s.m.advance t).meets y → y.plaitMsg x = y) : Completes c s ((s.m.advance t).discards hd) := by
  obtain ⟨y, hy, htook, hmeets⟩ := plaitFrame_meets (x := x) (s.m.advance t) hp
  exact completes_run hexec hpow ⟨y, htook, by rw [hy, hidle y hmeets]⟩

end

namespace Mach.meets
variable {m y : Mach} (h : m.meets y)
include h

/-- A part of the twin's state that is neither of the link nor set with every frame. -/
theorem twnPart {α : Type} (g : Twn → α) (hrest : ∀ u, g (twnRest u) = g u)
    (hfree : ∀ u a l n, g { u with evidence := a, linkRx := l, lastTick := n } = g u) : g y.twn = g m.twn := by
  obtain ⟨a, l, n, htwn⟩ := h.twn
  calc g y.twn = g (twnRest y.twn) := (hrest _).symm
    _ = g (twnRest { m.twn with evidence := a, linkRx := l, lastTick := n }) := congrArg g htwn
    _ = g m.twn := (hrest _).trans (hfree m.twn a l n)

theorem own : y.twn.own = m.twn.own := h.twnPart Twn.own (fun _ => rfl) fun _ _ _ _ => rfl
theorem theirs : y.twn.theirs = m.twn.theirs := h.twnPart Twn.theirs (fun _ => rfl) fun _ _ _ _ => rfl
theorem ownR : y.twn.ownR = m.twn.ownR := h.twnPart Twn.ownR (fun _ => rfl) fun _ _ _ _ => rfl
theorem theirR : y.twn.theirR = m.twn.theirR := h.twnPart Twn.theirR (fun _ => rfl) fun _ _ _ _ => rfl
theorem skipR : y.twn.skipR = m.twn.skipR := h.twnPart Twn.skipR (fun _ => rfl) fun _ _ _ _ => rfl
theorem diffs : y.twn.diffs = m.twn.diffs := h.twnPart Twn.diffs (fun _ => rfl) fun _ _ _ _ => rfl
theorem copy : y.twn.copy = m.twn.copy := h.twnPart Twn.copy (fun _ => rfl) fun _ _ _ _ => rfl
theorem swapAt : y.twn.swapAt = m.twn.swapAt := h.twnPart Twn.swapAt (fun _ => rfl) fun _ _ _ _ => rfl

theorem cfg (f : Fd) (i : Nat) : y.cfg f i = m.cfg f i := cfg_of_force h.force f i
theorem state : twnState y = twnState m := h.fld TWN_STS_state 0 rfl rfl rfl
theorem role : pubRole y = pubRole m := h.fld PUB_STS_role 0 rfl rfl rfl

theorem plaitUp : Machine.plaitUp y = Machine.plaitUp m := by
  unfold Machine.plaitUp Mach.flag
  rw [h.fld PLT_STS_up 0 rfl rfl rfl]

theorem comparing : Machine.comparing y = Machine.comparing m := by
  unfold Machine.comparing
  rw [h.plaitUp, h.role, on_of_force h.force]

theorem equalising : Machine.equalising y = Machine.equalising m := by
  unfold Machine.equalising
  rw [h.plaitUp, on_of_force h.force, h.fld TWN_STS_state 0 rfl rfl rfl, h.fld TWN_STS_partner 0 rfl rfl rfl]

theorem tickOfs : Machine.tickOfs y = Machine.tickOfs m := by
  unfold Machine.tickOfs fld64
  rw [h.fld TWN_TICK_OFS_HI_w 0 rfl rfl rfl, h.fld TWN_TICK_OFS_LO_w 0 rfl rfl rfl]

theorem pairTick (n : Nat) : Machine.pairTick y n = Machine.pairTick m n := by unfold Machine.pairTick; rw [h.tickOfs]

theorem nominalOf (n : Nat) : Machine.nominalOf y n = Machine.nominalOf m n := by
  unfold Machine.nominalOf gridOf
  rw [h.tickOfs, h.svi]

theorem nextOpen (g : Nat) : Machine.nextOpen y g = Machine.nextOpen m g := by
  unfold Machine.nextOpen genOf
  rw [h.svi]

theorem isCut (k : Nat) : Machine.isCut y k = Machine.isCut m k := by unfold Machine.isCut; rw [h.copy]

theorem slotList : Machine.slotList y = Machine.slotList m := by unfold Machine.slotList; rw [h.force]

theorem eqSeen (d : DescMsg) : Machine.eqSeen y d = Machine.eqSeen m d := by unfold Machine.eqSeen; rw [h.svi, h.now]

end Mach.meets

/-! ### A descriptor (R140, R141, R234, R235, R238) -/

/-- A tick's equalisation counted anew where its descriptor comes for the first time. -/
def Mach.sawDesc (m : Mach) (d : DescMsg) : Mach := m.onSvi fun _ => eqSeen m d

/-- The descriptor added to the waiting tick it belongs to, unless that tick has its COMB. -/
def Svi.withDesc (b : Svi) (d : DescMsg) : Svi := { b with eq := b.eq.map fun e =>
  if e.tk.group = d.group.val ∧ e.tk.pair = d.tick.toNat ∧ e.comb.isNone = true then { e with desc := some d } else e }

/-- The descriptor kept, with the instant it came at. -/
def Svi.withEarly (b : Svi) (now : Nat) (d : DescMsg) : Svi := { b with early := b.early ++ [(now, d)] }

/-- A tick of a descriptor's group and pair tick waits in equalisation. -/
def descWaited (m : Mach) (d : DescMsg) : Prop := ∃ e ∈ m.svi.eq, e.tk.group = d.group.val ∧ e.tk.pair = d.tick.toNat

section
variable {m : Mach} {d : DescMsg}

theorem eqTimers_svi (m : Mach) (g : Nat) : (m.eqTimers g).svi = m.svi := svi_of_touch (Mach.eqTimers_touch m g) rfl

theorem eqTimers_twn (m : Mach) (g : Nat) : (m.eqTimers g).twn = m.twn := twn_of_touch (Mach.eqTimers_touch m g) rfl

theorem eqTimers_fld (m : Mach) (g : Nat) (f : Fd) (i : Nat) : (m.eqTimers g).fld f i = m.fld f i :=
  fld_of_regs (regs_of_touch (Mach.eqTimers_touch m g) rfl) f i

/-- The times of a group's timers do not enter a tick's nominal time. -/
theorem eqTimers_nominalOf (m : Mach) (g n : Nat) : nominalOf (m.eqTimers g) n = nominalOf m n := by
  unfold nominalOf gridOf tickOfs fld64
  rw [eqTimers_svi, eqTimers_fld, eqTimers_fld]

theorem eqTimers_cfg (m : Mach) (g : Nat) (f : Fd) (i : Nat) : (m.eqTimers g).cfg f i = m.cfg f i :=
  cfg_of_force (force_of_touch (Mach.eqTimers_touch m g) rfl) f i

/-- The cases of a descriptor, once first descriptors are marked. -/
theorem descRx_eq : m.descRx d =
    if twnState (m.sawDesc d) = 4 then
      if 1000000000 < 2 * rateHz (((m.sawDesc d).eqTimers d.group).cfg SVI_TICK_rate)
          * (nominalOf ((m.sawDesc d).eqTimers d.group) d.tick.toNat - d.nominal).natAbs then
        ((m.sawDesc d).eqTimers d.group).diverge
      else (m.sawDesc d).eqTimers d.group
    else if (leads (m.sawDesc d) && equalising (m.sawDesc d)) = true then
      if ((m.sawDesc d).svi.eq.any fun e => e.tk.group == d.group.val && e.tk.pair == d.tick.toNat) = true then
        (((m.sawDesc d).onSvi (Svi.withDesc · d)).combDue d.group false).eqTimers d.group
      else if ((nextOpen (m.sawDesc d) d.group).any fun n => pairTick (m.sawDesc d) n ≤ d.tick.toNat) = true then
        (m.sawDesc d).onSvi (Svi.withEarly · (m.sawDesc d).now d)
      else m.sawDesc d
    else m.sawDesc d := rfl

theorem sawDesc_state (m : Mach) (d : DescMsg) : twnState (m.sawDesc d) = twnState m := rfl

theorem sawDesc_equalising (m : Mach) (d : DescMsg) : (leads (m.sawDesc d) && equalising (m.sawDesc d)) = (leads m && equalising m) := rfl

/-- A follower's descriptor: it diverges when the nominal times are more than half a tick apart. -/
theorem descRx_follower (h : twnState m = 4) : m.descRx d =
    if 1000000000 < 2 * rateHz (m.cfg SVI_TICK_rate) * (nominalOf m d.tick.toNat - d.nominal).natAbs then
      ((m.sawDesc d).eqTimers d.group).diverge else (m.sawDesc d).eqTimers d.group := by
  have hcfg : ((m.sawDesc d).eqTimers d.group).cfg SVI_TICK_rate = m.cfg SVI_TICK_rate := eqTimers_cfg ..
  have hnom : nominalOf ((m.sawDesc d).eqTimers d.group) d.tick.toNat = nominalOf m d.tick.toNat := eqTimers_nominalOf ..
  rw [descRx_eq, if_pos (by rw [sawDesc_state, h]), hcfg, hnom]

theorem descRx_agrees (h : twnState m = 4)
    (hnear : 2 * rateHz (m.cfg SVI_TICK_rate) * (nominalOf m d.tick.toNat - d.nominal).natAbs ≤ 1000000000) :
    m.descRx d = (m.sawDesc d).eqTimers d.group := by rw [descRx_follower h, if_neg (Nat.not_lt.mpr hnear)]

theorem descRx_differs (h : twnState m = 4)
    (hfar : 1000000000 < 2 * rateHz (m.cfg SVI_TICK_rate) * (nominalOf m d.tick.toNat - d.nominal).natAbs) :
    m.descRx d = ((m.sawDesc d).eqTimers d.group).diverge := by rw [descRx_follower h, if_pos hfar]

/-- A divergence leaves the twin's state and fixes no swap tick when it tries to join anew. -/
theorem diverge_tries (m : Mach) : ∃ w : Mach, m.diverge = w.tryJoin true ∧ twnState w = twnState m
    ∧ w.fld (TWN_CNT_n.nth 4) = (m.fld (TWN_CNT_n.nth 4) + 1) % 2 ^ 32 ∧ w.evt 0x31 4 = true ∧ w.twn.diffs = [] ∧ w.twn.swapAt = none := by
  refine ⟨((m.count (TWN_CNT_n.nth 4)).event 0x31 4).onTwn fun t => { t with diffs := [], swapAt := none }, rfl, ?_, ?_, ?_, rfl, rfl⟩
  · exact (fld_event _ _ _ _ _ _ rfl).trans (fld_count_clear _ _ TWN_STS_state _ _ _ rfl)
  · exact (fld_event _ _ _ _ _ _ rfl).trans (fld_count _ _ _ _ rfl)
  · exact evt_event _ _ _ _ rfl

/-- Elsewhere than at a follower and an equalising lead a descriptor begins the wait of its tick anew and does no more. -/
theorem descRx_elsewhere (h : twnState m ≠ 4) (hidle : twnState m ≠ 2 ∨ equalising m = false) : m.descRx d = m.sawDesc d := by
  have hlead : ¬ (leads m && equalising m) = true := by
    rw [Bool.and_eq_true, leads, beq_iff_eq]
    rintro ⟨hstate, heq⟩
    exact hidle.elim (· hstate) fun hoff => absurd heq (by rw [hoff]; decide)
  rw [descRx_eq, if_neg (by rw [sawDesc_state]; exact h), sawDesc_equalising, if_neg hlead]

/-- At an equalising lead the descriptor joins the tick that waits for it, or is kept while the tick is open. -/
theorem descRx_lead (h : twnState m = 2) (heq : equalising m = true) : m.descRx d =
    if ((m.sawDesc d).svi.eq.any fun e => e.tk.group == d.group.val && e.tk.pair == d.tick.toNat) = true then
      (((m.sawDesc d).onSvi (Svi.withDesc · d)).combDue d.group false).eqTimers d.group
    else if ((nextOpen (m.sawDesc d) d.group).any fun n => pairTick (m.sawDesc d) n ≤ d.tick.toNat) = true then
      (m.sawDesc d).onSvi (Svi.withEarly · (m.sawDesc d).now d)
    else m.sawDesc d := by
  have h4 : twnState m ≠ 4 := by rw [h]; decide
  have hlead : (leads m && equalising m) = true := by
    rw [heq, Bool.and_true, leads, beq_iff_eq]
    exact h
  rw [descRx_eq, if_neg (by rw [sawDesc_state]; exact h4), sawDesc_equalising, if_pos hlead]

/-- The marking of first descriptors keeps every waiting tick's group and pair tick. -/
theorem sawDesc_awaits : ((m.sawDesc d).svi.eq.any fun e => e.tk.group == d.group.val && e.tk.pair == d.tick.toNat) = true
    ↔ descWaited m d := by
  have hkeep : ∀ e : EqTick, (if e.tk.group = d.group.val ∧ e.tk.pair = d.tick.toNat ∧ e.desc.isNone = true then { e with since := m.now } else e).tk
      = e.tk := fun e => by split <;> rfl
  have hmap : (m.sawDesc d).svi.eq = m.svi.eq.map fun e =>
      if e.tk.group = d.group.val ∧ e.tk.pair = d.tick.toNat ∧ e.desc.isNone = true then { e with since := m.now } else e := rfl
  simp only [hmap, descWaited, List.any_map, List.any_eq_true, Function.comp, hkeep, Bool.and_eq_true, beq_iff_eq]

theorem sawDesc_unawaited (h : ¬ descWaited m d) : m.sawDesc d = m := by
  have hmap : eqSeen m d = m.svi := by
    unfold eqSeen
    rw [(List.map_congr_left fun e he => if_neg fun hm => h ⟨e, he, hm.1, hm.2.1⟩ : _ = m.svi.eq.map fun e => e), List.map_id']
  unfold Mach.sawDesc
  rw [hmap]
  rfl

theorem descRx_waiting (h : twnState m = 2) (heq : equalising m = true) (hwait : descWaited m d) :
    m.descRx d = (((m.sawDesc d).onSvi (Svi.withDesc · d)).combDue d.group false).eqTimers d.group := by
  rw [descRx_lead h heq, if_pos (sawDesc_awaits.mpr hwait)]

theorem descRx_early {n : Nat} (h : twnState m = 2) (heq : equalising m = true) (hwait : ¬ descWaited m d)
    (hopen : nextOpen m d.group = some n) (htick : pairTick m n ≤ d.tick.toNat) :
    m.descRx d = m.onSvi (Svi.withEarly · m.now d) := by
  have hany : ((nextOpen m d.group).any fun n => pairTick m n ≤ d.tick.toNat) = true := by
    rw [hopen, Option.any_some]
    exact decide_eq_true htick
  rw [descRx_lead h heq, if_neg (sawDesc_awaits.not.mpr hwait), sawDesc_unawaited hwait, if_pos hany]

end

/-! ### A combined set and samples (R140, R235) -/

/-- The combined set put to the tick that waits for it. -/
def Svi.withComb (b : Svi) (c : CombMsg) (e : EqTick) : Svi :=
  { b with eq := b.eq.map fun x => if x = e then { e with comb := some c } else x }

/-- Samples of the twin added to their tick, while it waits. -/
def Svi.withCopied (b : Svi) (g tick : Nat) (x : StreamSample) : Svi := { b with eq := b.eq.map fun e =>
  if e.tk.group = g ∧ e.tk.pair = tick ∧ e.done = false then { e with copied := e.copied ++ [x] } else e }

section
variable {m : Mach} {c : CombMsg}

/-- The module has closed the tick of a combined set. -/
def combClosed (m : Mach) (c : CombMsg) : Prop := ∀ k, nextOpen m c.group = some k → ((c.tick.toNat : Int) - tickOfs m).toNat < k

theorem combRx_ignored (h3 : twnState m ≠ 3) (h4 : twnState m ≠ 4) : m.combRx c = m := if_pos ⟨h3, h4⟩

/-- A combined set closes no tick that the module has closed. -/
theorem combClosed_any (h : combClosed m c) :
    ¬ ((nextOpen m c.group).any fun k => k ≤ ((c.tick.toNat : Int) - tickOfs m).toNat) = true := by
  cases hopen : nextOpen m c.group with
  | none => simp
  | some k => simpa using h k hopen

theorem combRx_unawaited (hstate : twnState m = 3 ∨ twnState m = 4) (hclosed : combClosed m c)
    (hnone : (m.svi.eq.find? fun e => e.tk.group == c.group.val && e.tk.pair == c.tick.toNat && !e.done && !e.led) = none) :
    m.combRx c = m.each c.events fun e m => m.mergedEvent c.tick.toNat e := by
  unfold Mach.combRx
  dsimp only
  rw [if_neg (by omega), if_neg (combClosed_any hclosed), hnone]

theorem combRx_awaited {e : EqTick} (hstate : twnState m = 3 ∨ twnState m = 4) (hclosed : combClosed m c)
    (hsome : (m.svi.eq.find? fun e => e.tk.group == c.group.val && e.tk.pair == c.tick.toNat && !e.done && !e.led) = some e) :
    m.combRx c = (((m.onSvi (Svi.withComb · c e)).sendSamples e.tk c.follSend).eqAdvance c.group).eqTimers c.group := by
  unfold Mach.combRx
  dsimp only
  rw [if_neg (by omega), if_neg (combClosed_any hclosed), hsome]
  rfl

theorem sampRx_eq (m : Mach) (g tick : Nat) (x : StreamSample) : m.sampRx g tick x = (m.onSvi (Svi.withCopied · g tick x)).eqAdvance g := rfl

end

/-! ### Tick digests (R237, R244) -/

section
variable {m : Mach} {g tick : Nat} {d : BitVec 64}

theorem theirTick_kept (hnone : (m.twn.own.find? fun e => decide (e.1 = g) && decide (e.2.1 = tick)) = none) :
    m.theirTick g tick d = m.onTwn fun t => { t with theirs := ((g, tick, d) :: t.theirs).take 8192 } := by
  unfold Mach.theirTick
  rw [hnone]

theorem theirTick_compared {e : Nat × Nat × BitVec 64} (hsome : (m.twn.own.find? fun e => decide (e.1 = g) && decide (e.2.1 = tick)) = some e) :
    m.theirTick g tick d = (m.onTwn fun t => { t with own := t.own.erase e }).tickCompared (e.2.2 == d) := by
  unfold Mach.theirTick
  rw [hsome]

theorem tickCompared_own (m : Mach) (same : Bool) : (m.tickCompared same).twn.own = m.twn.own := by cases same <;> rfl

/-- Equal tick digests count toward settling. -/
theorem tickCompared_equal (m : Mach) : (m.tickCompared true).fld (TWN_CNT_n.nth 2) = m.fld (TWN_CNT_n.nth 2)
    ∧ (m.tickCompared true).twn.diffs = m.twn.diffs
    ∧ (m.tickCompared true).twn.copy = m.twn.copy.map fun c => { c with matched := c.matched + 1 } := ⟨rfl, rfl, rfl⟩

/-- A difference is counted with its time. -/
theorem twinDiff_shows (m : Mach) (n : Nat) (hn : Fd.fit (TWN_CNT_n.nth n) = true) :
    (m.twinDiff n).fld (TWN_CNT_n.nth n) = (m.fld (TWN_CNT_n.nth n) + 1) % 2 ^ 32
      ∧ (m.twinDiff n).twn = { m.twn with diffs := m.now :: m.twn.diffs } := ⟨fld_count m _ 0 1 hn, rfl⟩

/-- Different tick digests are a difference, and the count toward settling starts again. -/
theorem tickCompared_different (m : Mach) : (m.tickCompared false).fld (TWN_CNT_n.nth 2) = (m.fld (TWN_CNT_n.nth 2) + 1) % 2 ^ 32
    ∧ (m.tickCompared false).twn.diffs = m.now :: m.twn.diffs
    ∧ (m.tickCompared false).twn.copy = m.twn.copy.map fun c => { c with matched := 0 } :=
  ⟨(twinDiff_shows _ 2 rfl).1, rfl, rfl⟩

end

/-! ### Result digests (R237, R239, R244) -/

section
variable {m : Mach} {slot tick : Nat} {d : BitVec 64}

/-- The slot's results, and its ticks without one, forgotten that come before a tick. -/
def Mach.dropPassed (m : Mach) (slot tick : Nat) : Mach := m.onTwn fun t => { t with
  ownR := t.ownR.filter fun e => !(e.1 == slot && decide (e.2.1 < tick))
  skipR := t.skipR.filter fun e => !(e.1 == slot && decide (e.2 < tick)) }

/-- A result digest difference, counted with its time; one of a cut slot spoils the copy. -/
theorem resultDiff_shows (m : Mach) (slot : Nat) : (m.resultDiff slot).fld (TWN_CNT_n.nth 3) = (m.fld (TWN_CNT_n.nth 3) + 1) % 2 ^ 32
    ∧ (m.resultDiff slot).twn = { m.twn with
        diffs := m.now :: m.twn.diffs
        copy := if isCut m slot then m.twn.copy.map fun c => { c with resDiff := true } else m.twn.copy } := by
  obtain ⟨hcount, htwn⟩ := twinDiff_shows m 3 rfl
  unfold Mach.resultDiff
  dsimp only
  have hcut : isCut (m.twinDiff 3) slot = isCut m slot := rfl
  rw [hcut]
  split
  · exact ⟨hcount, rfl⟩
  · exact ⟨hcount, rfl⟩

theorem passedOver_eq (m : Mach) (slot tick : Nat) : m.passedOver slot tick =
    if twnState m = 3 ∨ twnState m = 4 then
      (m.dropPassed slot tick).each (m.twn.ownR.filter fun e => e.1 == slot && decide (e.2.1 < tick)) fun _ m => m.resultDiff slot
    else m.dropPassed slot tick := rfl

/-- Ticks without a result that come before a digest's are forgotten, not its own. -/
theorem dropPassed_skips (m : Mach) (slot tick : Nat) :
    (m.dropPassed slot tick).twn.skipR.contains (slot, tick) = m.twn.skipR.contains (slot, tick) := by
  have hdrop : (m.dropPassed slot tick).twn.skipR = m.twn.skipR.filter fun e => !(e.1 == slot && decide (e.2 < tick)) := rfl
  rw [hdrop, Bool.eq_iff_iff, List.contains_iff_mem, List.contains_iff_mem, List.mem_filter]
  simp

/-- A digest of no later tick than the own results of its slot passes none over. -/
theorem passedOver_none (h : ∀ x ∈ m.twn.ownR, x.1 = slot → tick ≤ x.2.1) :
    m.passedOver slot tick = m.dropPassed slot tick ∧ (m.dropPassed slot tick).twn.ownR = m.twn.ownR := by
  have hold : ∀ x ∈ m.twn.ownR, (x.1 == slot && decide (x.2.1 < tick)) = false := by
    intro x hx
    by_cases hs : x.1 = slot
    · simp [hs, h x hx hs]
    · simp [hs]
  refine ⟨?_, List.filter_eq_self.mpr fun x hx => by rw [hold x hx]; rfl⟩
  rw [passedOver_eq, List.filter_eq_nil_iff.mpr fun x hx => by rw [hold x hx]; decide]
  exact ite_self ..

/-- At a module that follows, a digest of a later tick than the slot's one own result makes that result a difference. -/
theorem passedOver_one {e : Nat × Nat × BitVec 64} (hstate : twnState m = 3 ∨ twnState m = 4)
    (hone : (m.twn.ownR.filter fun x => x.1 == slot) = [e]) (hlate : e.2.1 < tick) :
    m.passedOver slot tick = (m.dropPassed slot tick).resultDiff slot
      ∧ (m.dropPassed slot tick).twn.ownR = m.twn.ownR.filter fun x => x.1 != slot := by
  have honly : ∀ x ∈ m.twn.ownR, x.1 = slot → x = e := fun x hx hs =>
    List.mem_singleton.mp (hone ▸ List.mem_filter.mpr ⟨hx, beq_iff_eq.mpr hs⟩)
  have hsame : ∀ x ∈ m.twn.ownR, (x.1 == slot && decide (x.2.1 < tick)) = (x.1 == slot) := by
    intro x hx
    by_cases hs : x.1 = slot
    · simp [honly x hx hs, hlate]
    · simp [hs]
  refine ⟨?_, List.filter_congr fun x hx => by rw [hsame x hx]; rfl⟩
  rw [passedOver_eq, if_pos hstate, List.filter_congr hsame, hone]
  rfl

/-- A result digest for a tick that the module has passed over is dropped. -/
theorem theirResult_skipped {y : Mach} (hy : m.passedOver slot tick = y) (hskip : y.twn.skipR.contains (slot, tick) = true) :
    m.theirResult slot tick d = y.onTwn fun t => { t with skipR := t.skipR.erase (slot, tick) } := by
  unfold Mach.theirResult
  rw [hy]
  exact if_pos hskip

/-- A result digest that comes first waits for the module's own. -/
theorem theirResult_kept {y : Mach} (hy : m.passedOver slot tick = y) (hskip : y.twn.skipR.contains (slot, tick) = false)
    (hnone : (y.twn.ownR.find? fun e => decide (e.1 = slot) && decide (e.2.1 = tick)) = none) :
    m.theirResult slot tick d = y.onTwn fun t => { t with theirR := ((slot, tick, d) :: t.theirR).take 8192 } := by
  unfold Mach.theirResult
  rw [hy]
  dsimp only
  rw [if_neg (by rw [hskip]; decide), hnone]

theorem theirResult_compared {y : Mach} {e : Nat × Nat × BitVec 64} (hy : m.passedOver slot tick = y)
    (hskip : y.twn.skipR.contains (slot, tick) = false)
    (hsome : (y.twn.ownR.find? fun e => decide (e.1 = slot) && decide (e.2.1 = tick)) = some e) :
    m.theirResult slot tick d = if e.2.2 = d then y.onTwn fun t => { t with ownR := t.ownR.erase e }
      else (y.onTwn fun t => { t with ownR := t.ownR.erase e }).resultDiff slot := by
  unfold Mach.theirResult
  rw [hy]
  dsimp only
  rw [if_neg (by rw [hskip]; decide), hsome]

/-- A result digest equal to the module's own ends that one's wait. -/
theorem theirResult_equal {e : Nat × Nat × BitVec 64} (hnew : ∀ x ∈ m.twn.ownR, x.1 = slot → tick ≤ x.2.1)
    (hskip : m.twn.skipR.contains (slot, tick) = false)
    (hsome : (m.twn.ownR.find? fun e => decide (e.1 = slot) && decide (e.2.1 = tick)) = some e) (hsame : e.2.2 = d) :
    (m.theirResult slot tick d).twn.ownR = m.twn.ownR.erase e
      ∧ (m.theirResult slot tick d).fld (TWN_CNT_n.nth 3) = m.fld (TWN_CNT_n.nth 3)
      ∧ (m.theirResult slot tick d).twn.diffs = m.twn.diffs ∧ (m.theirResult slot tick d).twn.copy = m.twn.copy := by
  obtain ⟨hpassed, hown⟩ := passedOver_none hnew
  rw [theirResult_compared hpassed ((dropPassed_skips ..).trans hskip) (by rw [hown]; exact hsome), if_pos hsame]
  exact ⟨congrArg (List.erase · e) hown, (fld_onTwn ..).trans (fld_onTwn ..), rfl, rfl⟩

/-- A result digest different from the module's own is a difference. -/
theorem theirResult_different {e : Nat × Nat × BitVec 64} (hnew : ∀ x ∈ m.twn.ownR, x.1 = slot → tick ≤ x.2.1)
    (hskip : m.twn.skipR.contains (slot, tick) = false)
    (hsome : (m.twn.ownR.find? fun e => decide (e.1 = slot) && decide (e.2.1 = tick)) = some e) (hdiff : e.2.2 ≠ d) :
    (m.theirResult slot tick d).twn.ownR = m.twn.ownR.erase e
      ∧ (m.theirResult slot tick d).fld (TWN_CNT_n.nth 3) = (m.fld (TWN_CNT_n.nth 3) + 1) % 2 ^ 32
      ∧ (m.theirResult slot tick d).twn.diffs = m.now :: m.twn.diffs
      ∧ (m.theirResult slot tick d).twn.copy
          = if isCut m slot then m.twn.copy.map fun c => { c with resDiff := true } else m.twn.copy := by
  obtain ⟨hpassed, hown⟩ := passedOver_none hnew
  obtain ⟨hcount, htwn⟩ := resultDiff_shows ((m.dropPassed slot tick).onTwn fun t => { t with ownR := t.ownR.erase e }) slot
  rw [theirResult_compared hpassed ((dropPassed_skips ..).trans hskip) (by rw [hown]; exact hsome), if_neg hdiff, hcount, htwn]
  exact ⟨congrArg (List.erase · e) hown, rfl, rfl, rfl⟩

/-- A result digest of a later tick than the own result that waits: that one is a difference, and the digest is kept. -/
theorem theirResult_late {e : Nat × Nat × BitVec 64} (hstate : twnState m = 3 ∨ twnState m = 4)
    (hone : (m.twn.ownR.filter fun x => x.1 == slot) = [e]) (hlate : e.2.1 < tick) (hskip : m.twn.skipR.contains (slot, tick) = false) :
    (m.theirResult slot tick d).fld (TWN_CNT_n.nth 3) = (m.fld (TWN_CNT_n.nth 3) + 1) % 2 ^ 32
      ∧ (m.theirResult slot tick d).twn.diffs = m.now :: m.twn.diffs
      ∧ (m.theirResult slot tick d).twn.ownR = m.twn.ownR.filter (fun x => x.1 != slot)
      ∧ (m.theirResult slot tick d).twn.theirR = ((slot, tick, d) :: m.twn.theirR).take 8192 := by
  obtain ⟨hpassed, hown⟩ := passedOver_one hstate hone hlate
  obtain ⟨hcount, htwn⟩ := resultDiff_shows (m.dropPassed slot tick) slot
  have hskips : ((m.dropPassed slot tick).resultDiff slot).twn.skipR.contains (slot, tick) = false := by
    rw [htwn]
    exact (dropPassed_skips ..).trans hskip
  have hnone : (((m.dropPassed slot tick).resultDiff slot).twn.ownR.find? fun e => decide (e.1 = slot) && decide (e.2.1 = tick)) = none := by
    rw [htwn, List.find?_eq_none]
    intro x hx
    have hrest : x ∈ m.twn.ownR.filter fun x => x.1 != slot := hown ▸ hx
    have hother : x.1 ≠ slot := bne_iff_ne.mp (List.mem_filter.mp hrest).2
    simp [hother]
  rw [theirResult_kept hpassed hskips hnone]
  have htheirs : ((m.dropPassed slot tick).resultDiff slot).twn.theirR = m.twn.theirR := by rw [htwn]; rfl
  exact ⟨(fld_onTwn ..).trans hcount, congrArg Twn.diffs htwn, (congrArg Twn.ownR htwn).trans hown,
    congrArg (fun l => ((slot, tick, d) :: l).take 8192) htheirs⟩

end

/-! ### Frame digests and the swap tick (R214, R254) -/

section
variable {m : Mach} {b st sq ps : Nat} {d : BitVec 64}

theorem armCompare_pub (m : Mach) (b : Nat) : (m.armCompare b).pub = m.pub := by
  unfold Mach.armCompare
  split
  · rfl
  · rfl

theorem digestCame_decides {f : Built} (hheld : (m.pub.held.find? fun f => f.fits b st sq ps) = some f) :
    ∃ w : Mach, w.pub = { m.pub with held := m.pub.held.erase f }
      ∧ m.digestCame b st sq ps d = if f.digest = d then w.pubSend f else w.cmpDiff := by
  refine ⟨(m.onPub fun p => { p with held := p.held.erase f }).armCompare b, armCompare_pub .., ?_⟩
  unfold Mach.digestCame
  rw [hheld]
  rfl

theorem digestCame_compares {f : Built} (hheld : (m.pub.held.find? fun f => f.fits b st sq ps) = none)
    (hsent : (m.pub.sent.find? fun f => f.fits b st sq ps) = some f) :
    ∃ w : Mach, w.pub = { m.pub with sent := m.pub.sent.erase f } ∧ m.digestCame b st sq ps d = if f.digest = d then w else w.cmpDiff := by
  refine ⟨m.onPub fun p => { p with sent := p.sent.erase f }, rfl, ?_⟩
  unfold Mach.digestCame
  rw [hheld, hsent]

theorem digestCame_waits (hheld : (m.pub.held.find? fun f => f.fits b st sq ps) = none)
    (hsent : (m.pub.sent.find? fun f => f.fits b st sq ps) = none) :
    m.digestCame b st sq ps d = m.onPub fun p => { p with lead := ((b, st, sq, ps, d) :: p.lead).take 1024 } := by
  unfold Mach.digestCame
  rw [hheld, hsent]

theorem swapRx_swapAt (m : Mach) (tick : Nat) : (m.swapRx tick).twn.swapAt = if twnState m = 4 then some tick else m.twn.swapAt := by
  unfold Mach.swapRx
  split
  · rfl
  · rfl

end

/-! ### A FREC applied (R242) -/

section
variable {m : Mach} {r : FrecMsg}

theorem gcbOf_onGcb (m : Mach) (b : Nat) (f : Gcb → Gcb) : gcbOf (m.onGcb b f) b = f (gcbOf m b) := by
  simp [gcbOf, Mach.onGcb, Mach.onPub]

/-- A schedule is the block's due tick and its timer. -/
theorem schedule_shows (m : Mach) (b : Nat) (due : Option Nat) : gcbOf (m.schedule b due) b = { gcbOf m b with due := due }
    ∧ (m.schedule b due).pub.pairSeq = m.pub.pairSeq := by
  refine ⟨?_, ?_⟩
  · have hdue : gcbOf (m.onGcb b fun g => { g with due := due }) b = { gcbOf m b with due := due } := gcbOf_onGcb ..
    unfold Mach.schedule
    split
    · exact hdue
    · exact hdue
  · unfold Mach.schedule
    split
    · rfl
    · rfl

theorem schedule_fld (m : Mach) (b : Nat) (due : Option Nat) (f : Fd) (i : Nat) : (m.schedule b due).fld f i = m.fld f i :=
  fld_of_regs (regs_of_touch (Mach.schedule_touch m b due) rfl) f i

/-- The pair counter and the numbers of a block set as a FREC gives them. -/
def Mach.frecNumbers (m : Mach) (r : FrecMsg) : Mach :=
  let m' := m.onPub fun p => { p with pairSeq := kput (m.cfg PUB_GCB_CTRL_pair r.block) ((r.pairSeq.toNat + 1) % 2 ^ 16) p.pairSeq }
  (m'.setFld PUB_GCB_STNUM_n r.block r.stNum.toNat).setFld PUB_GCB_SQNUM_n r.block r.sqNum.toNat

theorem frecNumbers_shows (m : Mach) (r : FrecMsg) : (m.frecNumbers r).fld PUB_GCB_STNUM_n r.block = r.stNum.toNat
    ∧ (m.frecNumbers r).fld PUB_GCB_SQNUM_n r.block = r.sqNum.toNat
    ∧ (m.frecNumbers r).pub.pairSeq = kput (m.cfg PUB_GCB_CTRL_pair r.block) ((r.pairSeq.toNat + 1) % 2 ^ 16) m.pub.pairSeq
    ∧ gcbOf (m.frecNumbers r) r.block = gcbOf m r.block := by
  refine ⟨?_, ?_, rfl, rfl⟩
  · exact (fld_set_clear _ _ _ _ _ _ rfl).trans ((fld_set _ _ _ _ rfl).trans (Nat.mod_eq_of_lt r.stNum.isLt))
  · exact (fld_set _ _ _ _ rfl).trans (Nat.mod_eq_of_lt r.sqNum.isLt)

/-- The numbers and the pair counter of a FREC stand whatever its frame carries. -/
theorem applyFrec_numbers (m : Mach) (r : FrecMsg) : (∀ f i, (m.applyFrec r).fld f i = (m.frecNumbers r).fld f i)
    ∧ (m.applyFrec r).pub.pairSeq = (m.frecNumbers r).pub.pairSeq := by
  unfold Mach.applyFrec
  dsimp only
  split
  · exact ⟨fun f i => fld_onGcb .., rfl⟩
  · exact ⟨fun f i => (schedule_fld ..).trans (fld_onGcb ..), (schedule_shows ..).2⟩
  · exact ⟨fun _ _ => rfl, rfl⟩

theorem applyFrec_sv {a : SvApdu} (h : r.fr.body = .sv a) :
    gcbOf (m.applyFrec r) r.block = { gcbOf m r.block with asdus := [], last := a.asdus } := by
  unfold Mach.applyFrec
  rw [h]
  exact (gcbOf_onGcb ..).trans rfl

theorem applyFrec_goose {a : GooseApdu} (h : r.fr.body = .goose a) :
    (gcbOf (m.applyFrec r) r.block).members = a.members.map (·.value) ∧ (gcbOf (m.applyFrec r) r.block).fresh = false
      ∧ (gcbOf (m.applyFrec r) r.block).nominal = a.utc ∧ (gcbOf (m.applyFrec r) r.block).quality = a.quality.toNat := by
  unfold Mach.applyFrec
  rw [h]
  dsimp only
  rw [(schedule_shows ..).1, gcbOf_onGcb]
  exact ⟨rfl, rfl, rfl, rfl⟩

end

/-! ### The end of a copy (R244, R245) -/

section
variable {m : Mach}

/-- TWN_COPY_STS as `showCopy` sets it. -/
theorem showCopy_shows (m : Mach) (phase cut total : Nat) : (m.showCopy phase cut total).fld TWN_COPY_STS_phase = phase % 2 ^ 3
    ∧ (m.showCopy phase cut total).fld TWN_COPY_STS_cut = cut % 2 ^ 13
    ∧ (m.showCopy phase cut total).twn = m.twn ∧ twnState (m.showCopy phase cut total) = twnState m := by
  unfold Mach.showCopy
  refine ⟨?_, ?_, rfl, ?_⟩
  · rw [fld_flag_clear _ _ _ _ _ _ rfl, fld_set_clear _ _ _ _ _ _ rfl, fld_set_clear _ _ _ _ _ _ rfl]
    exact fld_set _ _ _ _ rfl
  · rw [fld_flag_clear _ _ _ _ _ _ rfl, fld_set_clear _ _ _ _ _ _ rfl]
    exact fld_set _ _ _ _ rfl
  · unfold twnState
    rw [fld_flag_clear _ _ _ _ _ _ rfl, fld_set_clear _ _ _ _ _ _ rfl, fld_set_clear _ _ _ _ _ _ rfl, fld_set_clear _ _ _ _ _ _ rfl]

theorem showCopy_fld (m : Mach) (phase cut total : Nat) {f : Fd} (i : Nat)
    (h : (Fd.clear TWN_COPY_STS_phase f && Fd.clear TWN_COPY_STS_cut f && Fd.clear TWN_COPY_STS_total f && Fd.clear TWN_STS_copy_active f) = true) :
    (m.showCopy phase cut total).fld f i = m.fld f i := by
  simp only [Bool.and_eq_true] at h
  obtain ⟨⟨⟨hphase, hcut⟩, htotal⟩, hactive⟩ := h
  unfold Mach.showCopy
  rw [fld_flag_clear _ _ _ _ _ _ hactive, fld_set_clear _ _ _ _ _ _ htotal, fld_set_clear _ _ _ _ _ _ hcut, fld_set_clear _ _ _ _ _ _ hphase]

theorem endCopy_shows (m : Mach) : m.endCopy.twn.copy = none ∧ m.endCopy.fld TWN_COPY_STS_phase = 0 :=
  ⟨rfl, (showCopy_shows _ 0 0 0).1⟩

/-- A copy that fails at a joining module: another is awaited, and the failure is counted with event 6. -/
theorem failCopy_joining {c : Copy} (hstate : twnState m = 3) (hcopy : m.twn.copy = some c) :
    m.failCopy.twn.copy = some {} ∧ m.failCopy.fld TWN_COPY_STS_phase = 0 ∧ m.failCopy.evt 0x31 6 = true
      ∧ m.failCopy.fld (TWN_CNT_n.nth 6) = (m.fld (TWN_CNT_n.nth 6) + 1) % 2 ^ 32 := by
  have hthree : m.fld TWN_STS_state = 3 := hstate
  have hfail : m.failCopy = ((((m.endCopy.onTwn fun t => { t with copy := some {} }).plaitSend (.cack false)).count (TWN_CNT_n.nth 6)).event 0x31 6) := by
    unfold Mach.failCopy
    rw [hcopy, Option.isNone_some, if_neg (by decide), if_pos hthree]
  have hsent : ∀ f i, ((m.endCopy.onTwn fun t => { t with copy := some {} }).plaitSend (.cack false)).fld f i = m.endCopy.fld f i := fun f i =>
    (fld_of_regs (regs_of_touch (Mach.plaitSend_touch ..) rfl) f i).trans (fld_onTwn ..)
  rw [hfail]
  refine ⟨?_, ?_, evt_event _ _ _ _ rfl, ?_⟩
  · rw [Mach.event_twn _ _ _ _ (by decide), Mach.count_twn, plaitSend_copy]
    rfl
  · rw [fld_event _ _ _ _ _ _ rfl, fld_count_clear _ _ _ _ _ _ rfl, hsent]
    exact (endCopy_shows m).2
  · rw [fld_event _ _ _ _ _ _ rfl, fld_count _ _ _ _ rfl, hsent, fld_endCopy _ _ _ rfl]
    rfl

theorem failCopy_retries (hstate : twnState m = 2) (hcopy : m.twn.copy.isSome = true) :
    m.failCopy = m.endCopy.arm .copyRetry (m.now + 100000000) := by
  unfold Mach.failCopy
  have htwo : m.fld TWN_STS_state = 2 := hstate
  rw [Option.isNone_eq_false_iff.mpr hcopy, if_neg (by decide), htwo, if_neg (by decide)]

end

/-! ### A CUT (R242) -/

section
variable {m : Mach} {c : CutMsg} {b : Copy}

/-- The slot's ticks that wait for its CUT and come after it. -/
def lateTicks (c : CutMsg) (b : Copy) : List (Nat × Block) :=
  (splitBy (fun q : Nat × Block => q.1 == c.slot.val) b.queued).1.filter fun q => decide (c.tick.toNat < q.2.tick)

/-- The copy with a CUT added: its slot is released, and the slot's ticks wait no longer. -/
def Copy.withCut (b : Copy) (c : CutMsg) : Copy := { b with
  cuts := b.cuts ++ [c], released := c.slot.val :: b.released, queued := (splitBy (fun q : Nat × Block => q.1 == c.slot.val) b.queued).2
  latchTick := match c.latchTick with | some x => some x.toNat | none => b.latchTick }

/-- The module with a CUT taken into its copy, and shown. -/
def Mach.takeCut (m : Mach) (c : CutMsg) (b : Copy) : Mach :=
  (m.onTwn fun t => { t with copy := some (b.withCut c) }).showCopy
    (if (slotList m).length ≤ b.cuts.length + 1 then 2 else 1) (b.cuts.length + 1) (slotList m).length

theorem cutRx_idle (h : twnState m ≠ 3 ∨ m.twn.copy = none) : m.cutRx c = m := by
  unfold Mach.cutRx
  split
  · rfl
  · next b hcopy => exact if_pos (h.resolve_right (by rw [hcopy]; exact Option.some_ne_none b))

theorem cutRx_eq (hstate : twnState m = 3) (hcopy : m.twn.copy = some b) : m.cutRx c =
    if 7 < (lateTicks c b).length then (m.takeCut c b).failCopy
    else ((m.takeCut c b).installSlot c).each (lateTicks c b) fun q m =>
      m.dueSlot c.slot q.2.tick (if q.2.bytes.isEmpty then none else some q.2) := by
  unfold Mach.cutRx
  rw [hcopy]
  exact if_neg (not_not.mpr hstate)

theorem takeCut_shows (m : Mach) (c : CutMsg) (b : Copy) : (m.takeCut c b).twn.copy = some (b.withCut c)
    ∧ (m.takeCut c b).fld TWN_COPY_STS_phase = (if (slotList m).length ≤ b.cuts.length + 1 then 2 else 1)
    ∧ (m.takeCut c b).fld TWN_COPY_STS_cut = (b.cuts.length + 1) % 2 ^ 13 ∧ twnState (m.takeCut c b) = twnState m := by
  obtain ⟨hphase, hcut, htwn, hstate⟩ := showCopy_shows (m.onTwn fun t => { t with copy := some (b.withCut c) })
    (if (slotList m).length ≤ b.cuts.length + 1 then 2 else 1) (b.cuts.length + 1) (slotList m).length
  refine ⟨congrArg Twn.copy htwn, hphase.trans ?_, hcut, hstate⟩
  split
  · rfl
  · rfl

/-- A slot installed has the state, the priming and the count of its CUT. -/
theorem installSlot_shows (m : Mach) (c : CutMsg) : (m.installSlot c).fld DSP_SLOT_STS_state c.slot = c.state
    ∧ (m.installSlot c).flag DSP_SLOT_STS_primed c.slot = c.primed ∧ (m.installSlot c).fld DSP_SLOT_STS_consec c.slot = c.consec.toNat := by
  unfold Mach.installSlot
  dsimp only
  refine ⟨?_, ?_, ?_⟩
  · rw [fld_set_clear _ _ _ _ _ _ rfl, fld_flag_clear _ _ _ _ _ _ rfl, fld_set _ _ _ _ rfl]
    exact Nat.mod_eq_of_lt (lt_of_lt_of_le c.state.isLt (by decide))
  · unfold Mach.flag
    rw [fld_set_clear _ _ _ _ _ _ rfl]
    exact flag_set _ _ _ _ rfl
  · rw [fld_set _ _ _ _ rfl]
    exact Nat.mod_eq_of_lt c.consec.isLt

/-- What becomes due at an installed slot, and the slot itself, leave the twin and its page as they were. -/
theorem dueTicks_touch (m : Mach) (c : CutMsg) (l : List (Nat × Block)) : m.touch 0x2c0b908 0x30000000001200
    ((m.installSlot c).each l fun q m => m.dueSlot c.slot q.2.tick (if q.2.bytes.isEmpty then none else some q.2)) :=
  touch_each (touch_mono (Mach.installSlot_touch m c) rfl rfl) fun _ _ hx => touch_app hx (Mach.dueSlot_touch ..) rfl rfl

/-- A CUT taken whose slot has no more than 7 ticks to release. -/
theorem cutRx_installs (hstate : twnState m = 3) (hcopy : m.twn.copy = some b) (hfew : (lateTicks c b).length ≤ 7) :
    (m.cutRx c).twn.copy = some (b.withCut c)
      ∧ (m.cutRx c).fld TWN_COPY_STS_phase = (if (slotList m).length ≤ b.cuts.length + 1 then 2 else 1)
      ∧ (m.cutRx c).fld TWN_COPY_STS_cut = (b.cuts.length + 1) % 2 ^ 13
      ∧ m.cutRx c = ((m.takeCut c b).installSlot c).each (lateTicks c b) fun q m =>
          m.dueSlot c.slot q.2.tick (if q.2.bytes.isEmpty then none else some q.2) := by
  obtain ⟨htaken, hphase, hcut, -⟩ := takeCut_shows m c b
  have htouch := dueTicks_touch (m.takeCut c b) c (lateTicks c b)
  rw [cutRx_eq hstate hcopy, if_neg (Nat.not_lt.mpr hfew)]
  refine ⟨?_, ?_, ?_, rfl⟩
  · rw [twn_of_touch htouch rfl, htaken]
  · rw [fld_page31 htouch rfl _ _ rfl (by decide), hphase]
  · rw [fld_page31 htouch rfl _ _ rfl (by decide), hcut]

theorem cutRx_fails (hstate : twnState m = 3) (hcopy : m.twn.copy = some b) (hmany : 7 < (lateTicks c b).length) :
    (m.cutRx c).twn.copy = some {} ∧ (m.cutRx c).fld TWN_COPY_STS_phase = 0 ∧ (m.cutRx c).evt 0x31 6 = true
      ∧ (m.cutRx c).fld (TWN_CNT_n.nth 6) = (m.fld (TWN_CNT_n.nth 6) + 1) % 2 ^ 32 := by
  obtain ⟨htaken, -, -, hjoining⟩ := takeCut_shows m c b
  have hcount : (m.takeCut c b).fld (TWN_CNT_n.nth 6) = m.fld (TWN_CNT_n.nth 6) := showCopy_fld _ _ _ _ _ rfl
  rw [cutRx_eq hstate hcopy, if_pos hmany, ← hcount]
  exact failCopy_joining (hjoining.trans hstate) htaken

end

/-! ### CEND and CACK (R244, R245) -/

section
variable {m : Mach} {e : CendMsg} {c : Copy}

/-- The module with a CEND that matches its copy: it settles within 10 s. -/
def Mach.takeCend (m : Mach) (e : CendMsg) (c : Copy) : Mach :=
  let m' := (m.onTwn fun t => { t with copy := some { c with cend := some e } }).showCopy 3 c.cuts.length (slotList m).length
  m'.arm .copySettle (m'.now + 10000000000)

theorem cendRx_idle (h : twnState m ≠ 3) : m.cendRx e = m := by
  unfold Mach.cendRx
  split
  · exact if_neg h
  · exact if_pos h

theorem cendRx_refused (hstate : twnState m = 3) (hcopy : m.twn.copy = none) : m.cendRx e = m.plaitSend (.cack false) := by
  unfold Mach.cendRx
  rw [hcopy]
  exact if_pos hstate

theorem cendRx_fails (hstate : twnState m = 3) (hcopy : m.twn.copy = some c)
    (hwrong : e.count ≠ c.cuts.length ∨ copyDigest c.cuts e.latch ≠ e.digest) : m.cendRx e = m.failCopy := by
  have htest : (e.count != c.cuts.length || copyDigest c.cuts e.latch != e.digest) = true := by
    rw [Bool.or_eq_true, bne_iff_ne, bne_iff_ne]
    exact hwrong
  unfold Mach.cendRx
  rw [hcopy]
  exact (if_neg (not_not.mpr hstate)).trans (if_pos htest)

theorem cendRx_settles (hstate : twnState m = 3) (hcopy : m.twn.copy = some c) (hcount : e.count = c.cuts.length)
    (hdigest : copyDigest c.cuts e.latch = e.digest) : m.cendRx e = (m.takeCend e c).tryCommit := by
  unfold Mach.cendRx
  rw [hcopy]
  dsimp only
  rw [if_neg (not_not.mpr hstate), hcount, hdigest, bne_self_eq_false, bne_self_eq_false, if_neg (by decide)]
  rfl

theorem takeCend_shows (m : Mach) (e : CendMsg) (c : Copy) : (m.takeCend e c).twn.copy = some { c with cend := some e }
    ∧ (m.takeCend e c).fld TWN_COPY_STS_phase = 3 ∧ (m.takeCend e c).deadline .copySettle = some (m.now + 10000000000) := by
  obtain ⟨hphase, -, htwn, -⟩ := showCopy_shows (m.onTwn fun t => { t with copy := some { c with cend := some e } }) 3 c.cuts.length (slotList m).length
  unfold Mach.takeCend
  refine ⟨?_, ?_, ?_⟩
  · rw [Mach.arm_twn, htwn]
    rfl
  · exact (fld_arm ..).trans hphase
  · rw [deadline_arm_same]
    rfl

theorem cackRx_idle {ok : Bool} (h : twnState m ≠ 2 ∨ m.twn.copy = none) : m.cackRx ok = m := by
  refine if_neg ?_
  rintro ⟨hstate, hsome⟩
  rcases h with h | h
  · exact h hstate
  · rw [h] at hsome
    exact absurd hsome (by decide)

/-- The follower's answer ends the copy at the lead; after a failure a new one is due in 100 ms. -/
theorem cackRx_ends {ok : Bool} (hstate : twnState m = 2) (hsome : m.twn.copy.isSome = true) :
    (m.cackRx ok).twn.copy = none ∧ (m.cackRx ok).fld TWN_COPY_STS_phase = 0
      ∧ (ok = false → (m.cackRx ok).deadline .copyRetry = some (m.now + 100000000)) := by
  obtain ⟨hcopy, hphase⟩ := endCopy_shows m
  unfold Mach.cackRx
  rw [if_pos ⟨hstate, hsome⟩]
  cases ok with
  | true => exact ⟨hcopy, hphase, fun h => absurd h (by decide)⟩
  | false =>
    rw [if_neg (by decide), failCopy_retries hstate hsome, Mach.arm_twn, fld_arm]
    exact ⟨hcopy, hphase, fun _ => deadline_arm_same ..⟩

end

/-! ### Where a message of the link acts (R214, R237, R242) -/

section
variable {m : Mach}

theorem tdig_idle {g tick : Nat} {d : BitVec 64} (h : comparing m = false) : m.plaitMsg (.tdig g tick d) = m :=
  if_neg (by rw [h]; decide)

theorem tdig_commits {g tick : Nat} {d : BitVec 64} (h : comparing m = true) :
    m.plaitMsg (.tdig g tick d) = (m.theirTick g tick d).tryCommit := if_pos h

theorem rdig_idle {slot tick : Nat} {d : BitVec 64} (h : comparing m = false) : m.plaitMsg (.rdig slot tick d) = m :=
  if_neg (by rw [h]; decide)

theorem rdig_compares {slot tick : Nat} {d : BitVec 64} (h : comparing m = true) :
    m.plaitMsg (.rdig slot tick d) = m.theirResult slot tick d := if_pos h

theorem fdig_idle {b st sq ps : Nat} {d : BitVec 64} (h4 : twnState m ≠ 4) (h5 : twnState m ≠ 5) : m.plaitMsg (.fdig b st sq ps d) = m :=
  if_neg (not_or.mpr ⟨h4, h5⟩)

theorem fdig_taken {b st sq ps : Nat} {d : BitVec 64} (h : twnState m = 4 ∨ twnState m = 5) :
    m.plaitMsg (.fdig b st sq ps d) = m.digestCame b st sq ps d := if_pos h

theorem frec_idle {r : FrecMsg} (h : twnState m ≠ 3) : m.plaitMsg (.frec r) = m := if_neg h

theorem frec_applied {r : FrecMsg} (h : twnState m = 3) : m.plaitMsg (.frec r) = m.applyFrec r := if_pos h

end

/-! ### The messages act -/

/-- Settles O53: a frame that passes leaves to its message what the clause speaks of (`Mach.meets`), and each clause is the lemma
about its message. -/
theorem plaitMessagesAct : Obligations.PlaitMessagesAct := by
  refine ⟨?keep, ?descAgrees, ?descDiffers, ?descElsewhere, ?descWaiting, ?descEarly, ?combIgnored, ?combUnawaited, ?combAwaited, ?samp,
    ?tdigIgnored, ?tdigKept, ?tdigCompared, ?rdigIgnored, ?rdigKept, ?rdigCompared, ?rdigSkipped, ?rdigLate, ?fdigIgnored, ?fdigDecides,
    ?fdigCompares, ?fdigWaits, ?swap, ?frecIgnored, ?frecApplied, ?cutIgnored, ?cutInstalls, ?cutFails, ?cendIgnored, ?cendRefused,
    ?cendFails, ?cendSettles, ?cackIgnored, ?cackEnds⟩
  case keep =>
    intro s t hd hpow hp
    exact completes_discards rfl hpow hp fun _ _ => rfl
  case descAgrees =>
    intro s t hd d hpow hp hstate hnear
    refine completes_delivers rfl hpow hp fun y hy => ?_
    have h4 : twnState y = 4 := hy.state.trans hstate
    have hnear' : 2 * rateHz (y.cfg SVI_TICK_rate) * (nominalOf y d.tick.toNat - d.nominal).natAbs ≤ 1000000000 := by
      rw [hy.cfg, hy.nominalOf]
      exact hnear
    have hmsg : y.plaitMsg (.desc d) = (y.sawDesc d).eqTimers d.group := descRx_agrees h4 hnear'
    rw [hmsg]
    exact ⟨(eqTimers_svi ..).trans (hy.eqSeen d), (eqTimers_fld ..).trans h4⟩
  case descDiffers =>
    intro s t hd d hpow hp hstate hfar
    refine completes_delivers rfl hpow hp fun y hy => ?_
    have h4 : twnState y = 4 := hy.state.trans hstate
    have hfar' : 1000000000 < 2 * rateHz (y.cfg SVI_TICK_rate) * (nominalOf y d.tick.toNat - d.nominal).natAbs := by
      rw [hy.cfg, hy.nominalOf]
      exact hfar
    have hmsg : y.plaitMsg (.desc d) = ((y.sawDesc d).eqTimers d.group).diverge := descRx_differs h4 hfar'
    have hcount : ((y.sawDesc d).eqTimers d.group).fld (TWN_CNT_n.nth 4) = s.m.fld (TWN_CNT_n.nth 4) :=
      (eqTimers_fld ..).trans (hy.fld _ _ rfl rfl rfl)
    obtain ⟨w, hw, hwstate, hwcount, hrest⟩ := diverge_tries ((y.sawDesc d).eqTimers d.group)
    rw [hmsg]
    exact ⟨w, hw, hwstate.trans ((eqTimers_fld ..).trans h4), hwcount.trans (by rw [hcount]), hrest⟩
  case descElsewhere =>
    intro s t hd d hpow hp hstate hidle
    refine completes_delivers rfl hpow hp fun y hy => ?_
    have hmsg : y.plaitMsg (.desc d) = y.sawDesc d := descRx_elsewhere (hy.state.trans_ne hstate)
      (hidle.imp hy.state.trans_ne hy.equalising.trans)
    rw [hmsg]
    exact ⟨hy.eqSeen d, hy.state⟩
  case descWaiting =>
    intro s t hd d hpow hp hstate heq hwait
    refine completes_delivers rfl hpow hp fun y hy => ⟨(y.sawDesc d).onSvi (Svi.withDesc · d), ?_, ?_⟩
    · exact descRx_waiting (hy.state.trans hstate) (hy.equalising.trans heq) (by unfold descWaited; rw [hy.svi]; exact hwait)
    · exact congrArg (Svi.withDesc · d) (hy.eqSeen d)
  case descEarly =>
    intro s t hd d n hpow hp hstate heq hwait hopen htick
    refine completes_delivers rfl hpow hp fun y hy => ?_
    have hmsg : y.plaitMsg (.desc d) = y.onSvi (Svi.withEarly · y.now d) :=
      descRx_early (hy.state.trans hstate) (hy.equalising.trans heq) (by unfold descWaited; rw [hy.svi]; exact hwait)
        ((hy.nextOpen _).trans hopen) (by rw [hy.pairTick]; exact htick)
    rw [hmsg, ← hy.now]
    exact congrArg (Svi.withEarly · y.now d) hy.svi
  case combIgnored =>
    intro s t hd c hpow hp h3 h4
    exact completes_discards rfl hpow hp fun y hy => combRx_ignored (hy.state.trans_ne h3) (hy.state.trans_ne h4)
  case combUnawaited =>
    intro s t hd c hpow hp hstate hclosed hnone
    refine completes_delivers rfl hpow hp fun y hy => ⟨y, hy.svi, ?_⟩
    exact combRx_unawaited (by rw [hy.state]; exact hstate) (by unfold combClosed; rw [hy.nextOpen, hy.tickOfs]; exact hclosed)
      (by rw [hy.svi]; exact hnone)
  case combAwaited =>
    intro s t hd c e hpow hp hstate hclosed hsome
    refine completes_delivers rfl hpow hp fun y hy => ⟨y.onSvi (Svi.withComb · c e), ?_, ?_⟩
    · exact combRx_awaited (by rw [hy.state]; exact hstate) (by unfold combClosed; rw [hy.nextOpen, hy.tickOfs]; exact hclosed)
        (by rw [hy.svi]; exact hsome)
    · exact congrArg (Svi.withComb · c e) hy.svi
  case samp =>
    intro s t hd g tick x hpow hp
    refine completes_delivers rfl hpow hp fun y hy => ⟨y.onSvi (Svi.withCopied · g tick.toNat x), sampRx_eq .., ?_⟩
    exact congrArg (Svi.withCopied · g.val tick.toNat x) hy.svi
  case tdigIgnored =>
    intro s t hd g tick d hpow hp hoff
    exact completes_discards rfl hpow hp fun y hy => tdig_idle (hy.comparing.trans hoff)
  case tdigKept =>
    intro s t hd g tick d hpow hp hon hnone
    refine completes_delivers rfl hpow hp fun y hy => ⟨_, tdig_commits (hy.comparing.trans hon), ?_⟩
    rw [theirTick_kept (by rw [hy.own]; exact hnone)]
    exact ⟨hy.own, congrArg (fun l => ((g.val, tick.toNat, d) :: l).take 8192) hy.theirs⟩
  case tdigCompared =>
    intro s t hd g tick d e hpow hp hon hsome
    refine completes_delivers rfl hpow hp fun y hy => ⟨_, tdig_commits (hy.comparing.trans hon), ?_⟩
    rw [theirTick_compared (by rw [hy.own]; exact hsome)]
    refine ⟨(tickCompared_own ..).trans (congrArg (List.erase · e) hy.own), fun hsame => ?_, fun hdiff => ?_⟩
    · obtain ⟨hcount, hdiffs, hcopy⟩ := tickCompared_equal (y.onTwn fun u => { u with own := u.own.erase e })
      rw [beq_iff_eq.mpr hsame]
      exact ⟨hcount.trans (hy.fld _ _ rfl rfl rfl), hdiffs.trans hy.diffs, hcopy.trans (congrArg (Option.map _) hy.copy)⟩
    · obtain ⟨hcount, hdiffs, hcopy⟩ := tickCompared_different (y.onTwn fun u => { u with own := u.own.erase e })
      rw [beq_eq_false_iff_ne.mpr hdiff]
      exact ⟨hcount.trans (by rw [fld_onTwn, hy.fld _ _ rfl rfl rfl]; rfl), hdiffs.trans (congrArg₂ List.cons hy.now hy.diffs),
        hcopy.trans (congrArg (Option.map _) hy.copy)⟩
  case rdigIgnored =>
    intro s t hd k tick d hpow hp hoff
    exact completes_discards rfl hpow hp fun y hy => rdig_idle (hy.comparing.trans hoff)
  case rdigKept =>
    intro s t hd k tick d hpow hp hon hnew hskip hnone
    refine completes_delivers rfl hpow hp fun y hy => ?_
    obtain ⟨hpassed, hown⟩ := passedOver_none (m := y) (by rw [hy.ownR]; exact hnew)
    rw [rdig_compares (hy.comparing.trans hon), theirResult_kept hpassed (by rw [dropPassed_skips, hy.skipR]; exact hskip)
      (by rw [hown, hy.ownR]; exact hnone)]
    exact ⟨hown.trans hy.ownR, congrArg (fun l => ((k.val, tick.toNat, d) :: l).take 8192) hy.theirR⟩
  case rdigCompared =>
    intro s t hd k tick d e hpow hp hon hnew hskip hsome
    refine completes_delivers rfl hpow hp fun y hy => ?_
    have hnew' : ∀ x ∈ y.twn.ownR, x.1 = k.val → tick.toNat ≤ x.2.1 := by rw [hy.ownR]; exact hnew
    have hskip' : y.twn.skipR.contains (k.val, tick.toNat) = false := by rw [hy.skipR]; exact hskip
    have hsome' : (y.twn.ownR.find? fun e => decide (e.1 = k.val) && decide (e.2.1 = tick.toNat)) = some e := by rw [hy.ownR]; exact hsome
    have hcount : y.fld (TWN_CNT_n.nth 3) = s.m.fld (TWN_CNT_n.nth 3) := hy.fld _ _ rfl rfl rfl
    rw [rdig_compares (hy.comparing.trans hon)]
    by_cases hsame : e.2.2 = d
    · obtain ⟨hown, hsum, hdiffs, hcopy⟩ := theirResult_equal hnew' hskip' hsome' hsame
      exact ⟨hown.trans (congrArg (List.erase · e) hy.ownR), fun _ => ⟨hsum.trans hcount, hdiffs.trans hy.diffs, hcopy.trans hy.copy⟩,
        fun hdiff => absurd hsame hdiff⟩
    · obtain ⟨hown, hsum, hdiffs, hcopy⟩ := theirResult_different hnew' hskip' hsome' hsame
      rw [hy.isCut, hy.copy] at hcopy
      exact ⟨hown.trans (congrArg (List.erase · e) hy.ownR), fun heq => absurd heq hsame,
        fun _ => ⟨hsum.trans (by rw [hcount]), hdiffs.trans (congrArg₂ List.cons hy.now hy.diffs), hcopy⟩⟩
  case rdigSkipped =>
    intro s t hd k tick d hpow hp hon hnew hskip
    refine completes_delivers rfl hpow hp fun y hy => ?_
    obtain ⟨hpassed, hown⟩ := passedOver_none (m := y) (by rw [hy.ownR]; exact hnew)
    rw [rdig_compares (hy.comparing.trans hon), theirResult_skipped hpassed (by rw [dropPassed_skips, hy.skipR]; exact hskip)]
    exact ⟨hown.trans hy.ownR, hy.theirR, hy.diffs, (fld_onTwn ..).trans ((fld_onTwn ..).trans (hy.fld _ _ rfl rfl rfl))⟩
  case rdigLate =>
    intro s t hd k tick d e hpow hp hon hstate hone hlate hskip
    refine completes_delivers rfl hpow hp fun y hy => ?_
    obtain ⟨hsum, hdiffs, hown, htheirs⟩ := theirResult_late (m := y) (d := d) (hy.state ▸ hstate) (by rw [hy.ownR]; exact hone) hlate
      (by rw [hy.skipR]; exact hskip)
    rw [rdig_compares (hy.comparing.trans hon)]
    exact ⟨hsum.trans (by rw [hy.fld _ _ rfl rfl rfl]; rfl), hdiffs.trans (congrArg₂ List.cons hy.now hy.diffs),
      hown.trans (congrArg (List.filter _) hy.ownR), htheirs.trans (congrArg (fun l => ((k.val, tick.toNat, d) :: l).take 8192) hy.theirR)⟩
  case fdigIgnored =>
    intro s t hd b n q p d hpow hp h4 h5
    exact completes_discards rfl hpow hp fun y hy => fdig_idle (hy.state.trans_ne h4) (hy.state.trans_ne h5)
  case fdigDecides =>
    intro s t hd b n q p d f hpow hp hstate hheld
    refine completes_delivers rfl hpow hp fun y hy => ?_
    rw [fdig_taken (hy.state ▸ hstate), ← show y.pub = s.m.pub from hy.pub]
    exact digestCame_decides (by rw [hy.pub]; exact hheld)
  case fdigCompares =>
    intro s t hd b n q p d f hpow hp hstate hheld hsent
    refine completes_delivers rfl hpow hp fun y hy => ?_
    rw [fdig_taken (hy.state ▸ hstate), ← show y.pub = s.m.pub from hy.pub]
    exact digestCame_compares (by rw [hy.pub]; exact hheld) (by rw [hy.pub]; exact hsent)
  case fdigWaits =>
    intro s t hd b n q p d hpow hp hstate hheld hsent
    refine completes_delivers rfl hpow hp fun y hy => ?_
    rw [fdig_taken (hy.state ▸ hstate), ← show y.pub = s.m.pub from hy.pub, digestCame_waits (by rw [hy.pub]; exact hheld)
      (by rw [hy.pub]; exact hsent)]
    rfl
  case swap =>
    intro s t hd tick hpow hp
    refine completes_delivers rfl hpow hp fun y hy => ?_
    rw [show twnState s.m = twnState y from hy.state.symm, show s.m.twn.swapAt = y.twn.swapAt from hy.swapAt.symm]
    exact swapRx_swapAt ..
  case frecIgnored =>
    intro s t hd r hpow hp hstate
    exact completes_discards rfl hpow hp fun y hy => frec_idle (hy.state.trans_ne hstate)
  case frecApplied =>
    intro s t hd r hpow hp hstate
    refine completes_delivers rfl hpow hp fun y hy => ?_
    obtain ⟨hst, hsq, hseq, hgcb⟩ := frecNumbers_shows y r
    obtain ⟨hfld, hpair⟩ := applyFrec_numbers y r
    rw [frec_applied (hy.state.trans hstate)]
    refine ⟨(hfld ..).trans hst, (hfld ..).trans hsq, hpair.trans (hseq.trans ?_), fun a ha => ?_, fun a ha => applyFrec_goose ha⟩
    · rw [hy.cfg, hy.pub]
      rfl
    · have hsame : gcbOf y r.block = gcbOf s.m r.block := by unfold gcbOf; rw [hy.pub]; rfl
      rw [applyFrec_sv ha, hsame]
  case cutIgnored =>
    intro s t hd c hpow hp hidle
    exact completes_discards rfl hpow hp fun y hy => cutRx_idle (hidle.imp hy.state.trans_ne hy.copy.trans)
  case cutInstalls =>
    intro s t hd c b hpow hp hstate hcopy hfew
    refine completes_delivers rfl hpow hp fun y hy => ?_
    obtain ⟨htaken, hphase, hcut, hmsg⟩ := cutRx_installs (c := c) (hy.state.trans hstate) (hy.copy.trans hcopy) hfew
    rw [hy.slotList] at hphase
    obtain ⟨hst, hprimed, hconsec⟩ := installSlot_shows (y.takeCut c b) c
    exact ⟨htaken, hphase, hcut, _, hst, hprimed, hconsec, hmsg⟩
  case cutFails =>
    intro s t hd c b hpow hp hstate hcopy hmany
    refine completes_delivers rfl hpow hp fun y hy => ?_
    rw [show s.m.fld (TWN_CNT_n.nth 6) = y.fld (TWN_CNT_n.nth 6) from (hy.fld _ _ rfl rfl rfl).symm]
    exact cutRx_fails (hy.state.trans hstate) (hy.copy.trans hcopy) hmany
  case cendIgnored =>
    intro s t hd e hpow hp hstate
    exact completes_discards rfl hpow hp fun y hy => cendRx_idle (hy.state.trans_ne hstate)
  case cendRefused =>
    intro s t hd e hpow hp hstate hcopy
    exact completes_delivers rfl hpow hp fun y hy =>
      ⟨y, cendRx_refused (hy.state.trans hstate) (hy.copy.trans hcopy), hy.copy.trans hcopy, hy.state.trans hstate⟩
  case cendFails =>
    intro s t hd e c hpow hp hstate hcopy hwrong
    refine completes_delivers rfl hpow hp fun y hy => ?_
    rw [show y.plaitMsg (.cend e) = y.failCopy from cendRx_fails (hy.state.trans hstate) (hy.copy.trans hcopy) hwrong,
      show s.m.fld (TWN_CNT_n.nth 6) = y.fld (TWN_CNT_n.nth 6) from (hy.fld _ _ rfl rfl rfl).symm]
    exact failCopy_joining (hy.state.trans hstate) (hy.copy.trans hcopy)
  case cendSettles =>
    intro s t hd e c hpow hp hstate hcopy hcount hdigest
    refine completes_delivers rfl hpow hp fun y hy => ?_
    obtain ⟨htaken, hphase, hdue⟩ := takeCend_shows y e c
    exact ⟨_, cendRx_settles (hy.state.trans hstate) (hy.copy.trans hcopy) hcount hdigest, htaken, hphase, hy.now ▸ hdue⟩
  case cackIgnored =>
    intro s t hd ok hpow hp hidle
    exact completes_discards rfl hpow hp fun y hy => cackRx_idle (hidle.imp hy.state.trans_ne hy.copy.trans)
  case cackEnds =>
    intro s t hd ok hpow hp hstate hsome
    refine completes_delivers rfl hpow hp fun y hy => ?_
    rw [← hy.now]
    exact cackRx_ends (hy.state.trans hstate) (by rw [hy.copy]; exact hsome)

end Sys2Proof.Machine


/-! # The measurand engine -/

namespace Sys2Proof.Machine

section
variable {m : Mach}

/-! ### Tick sets taken and finished (R150, R168, R170) -/

theorem msrTake_busy (h : m.msr.busy.isSome = true) : m.msrTake = m := by
  obtain ⟨out, hbusy⟩ := Option.isSome_iff_exists.mp h
  unfold Mach.msrTake
  rw [hbusy]

theorem msrDone_free (h : m.msr.busy = none) : m.msrDone = m := by
  unfold Mach.msrDone Mach.msrFinish
  rw [h]

/-- MSR free again, MSR_MAXTIME raised to the time its set took. -/
def Mach.msrFreed (m : Mach) : Mach :=
  (m.onMsr fun b => { b with busy := none }).raise MSR_MAXTIME_t 0 (min 65535 (ceilDiv (m.now - m.msr.takenAt) 10))

theorem msrFreed_maxTime (m : Mach) : m.msrFreed.fld MSR_MAXTIME_t
    = max (m.fld MSR_MAXTIME_t) (min 65535 (ceilDiv (m.now - m.msr.takenAt) 10)) % 2 ^ 16 := fld_set _ _ _ _ rfl

theorem msrDone_eq {out : SetOut} (h : m.msr.busy = some out) : m.msrDone
    = (if m.now - m.msr.takenAt > 55000 then (m.msrFreed.count MSR_OVERRUN).event 0x0B 5 else m.msrFreed).handOut out := by
  unfold Mach.msrDone Mach.msrFinish
  rw [h]
  rfl

/-- A set handed over: MSR is free, its time is kept, and one of more than 55 µs is counted with event 5. -/
theorem msrDone_shows {out : SetOut} (h : m.msr.busy = some out) : ∃ y : Mach, m.msrDone = y.handOut out ∧ y.msr.busy = none
    ∧ y.fld MSR_MAXTIME_t = max (m.fld MSR_MAXTIME_t) (min 65535 (ceilDiv (m.now - m.msr.takenAt) 10)) % 2 ^ 16
    ∧ (55000 < m.now - m.msr.takenAt → y.fld MSR_OVERRUN = (m.fld MSR_OVERRUN + 1) % 2 ^ 32 ∧ y.evt 0x0B 5 = true) := by
  refine ⟨_, msrDone_eq h, ?_⟩
  split
  case isTrue hlong =>
    have hfld (f : Fd) (hf : Fd.noEvt 0x0B f = true) :
        ((m.msrFreed.count MSR_OVERRUN).event 0x0B 5).fld f = (m.msrFreed.count MSR_OVERRUN).fld f := fld_event _ _ _ _ _ _ hf
    refine ⟨congrArg Msr.busy (Mach.event_msr _ _ _ _ (by decide)), ?_, fun _ => ⟨?_, evt_event _ _ _ _ rfl⟩⟩
    · rw [hfld _ rfl, fld_count_clear _ _ _ _ _ _ rfl, msrFreed_maxTime]
    · have hfreed : m.msrFreed.fld MSR_OVERRUN = m.fld MSR_OVERRUN := fld_set_clear _ _ _ _ _ _ rfl
      rw [hfld _ rfl, fld_count _ _ _ _ rfl, hfreed]
      rfl
  case isFalse hshort => exact ⟨rfl, msrFreed_maxTime m, fun hlong => absurd hlong hshort⟩

/-! ### The tick that ends a tracker's hold (R151, R156) -/

/-- The state a tracker moves to at a tick. -/
def trackerTo (m : Mach) (g : Gen) (tk : Tick) (trk : Nat) : Nat :=
  let k := msrTrk m trk
  let prim := usable m g tk trk (g.cfg MSR_TRK_CFG_primary trk)
  let back := g.on MSR_TRK_CFG_backup_en trk && usable m g tk trk (g.cfg MSR_TRK_CFG_backup trk)
  trackerNext (m.fld MSR_TRK_STS_state trk) prim back (if prim then k.primRun + 1 else 0) (cycleLen g.rate (fuOf m g trk)) k.oneCycle k.tie
    (k.holdOver && decide (k.holdEnd ≤ tk.nominal))

/-- What a tick shows of a tracker: its frequency and the rate of its change, a clamp, and a new state. -/
def Mach.trackerShow (m : Mach) (trk fu roc : Nat) (clamped : Bool) (st st' at_ : Nat) : Mach :=
  let m := (m.setFld MSR_TRK_FREQ_uhz trk fu).setFld MSR_TRK_ROCOF_v trk roc
  let m := if clamped then (m.count MSR_CLAMP).event 0x0B 1 (.item trk) else m
  if st' = st then m else
    let m := ((m.setFld MSR_TRK_STS_state trk st').count MSR_TRK_CHG).event 0x0B 0 (.item trk)
    if st' = 3 then m.arm (.tracker trk) at_ else m.disarm (.tracker trk)

/-- A tick keeps a tracker's new record and shows it; in Fallback the frequency is the nominal one. -/
theorem trackerTick_shows (m : Mach) (g : Gen) (tk : Tick) (trk : Nat) : ∃ (k : Tracker) (fu roc : Nat) (clamped : Bool) (at_ : Nat),
    m.trackerTick g tk trk = (m.setTrk trk k).trackerShow trk fu roc clamped (m.fld MSR_TRK_STS_state trk) (trackerTo m g tk trk) at_
      ∧ (trackerTo m g tk trk = 4 → fu = g.fNom * 1000000) := by
  refine ⟨_, _, _, _, _, rfl, fun h => ?_⟩
  change (if (trackerTo m g tk trk = 1 ∨ trackerTo m g tk trk = 2) ∧ _ then _ else if trackerTo m g tk trk = 4 ∨ trackerTo m g tk trk = 0 then _ else _) = _
  simp [h]

/-- A tracker in Holding without a usable source, whose hold is over, moves to Fallback. -/
theorem trackerTo_fallback {g : Gen} {tk : Tick} {trk : Nat} (hholding : m.fld MSR_TRK_STS_state trk = 3) (hover : (msrTrk m trk).holdOver = true)
    (hend : (msrTrk m trk).holdEnd ≤ tk.nominal) (hprim : usable m g tk trk (g.cfg MSR_TRK_CFG_primary trk) = false)
    (hback : g.on MSR_TRK_CFG_backup_en trk = true → usable m g tk trk (g.cfg MSR_TRK_CFG_backup trk) = false) :
    trackerTo m g tk trk = 4 := by
  have hnone : (g.on MSR_TRK_CFG_backup_en trk && usable m g tk trk (g.cfg MSR_TRK_CFG_backup trk)) = false := by
    rw [Bool.and_eq_false_imp]
    exact hback
  simp [trackerTo, trackerNext, hholding, hover, hend, hprim, hnone]

/-- A tracker that enters Fallback: its state, the frequency given and event 0. -/
theorem trackerShow_fallback (m : Mach) (trk fu roc : Nat) (clamped : Bool) (st at_ : Nat) (hst : st ≠ 4) :
    (m.trackerShow trk fu roc clamped st 4 at_).fld MSR_TRK_STS_state trk = 4
      ∧ (m.trackerShow trk fu roc clamped st 4 at_).fld MSR_TRK_FREQ_uhz trk = fu % 2 ^ 32
      ∧ (m.trackerShow trk fu roc clamped st 4 at_).evt 0x0B 0 = true := by
  unfold Mach.trackerShow
  extract_lets shown clamp
  have hfreq : clamp.fld MSR_TRK_FREQ_uhz trk = fu % 2 ^ 32 := by
    have hshown : shown.fld MSR_TRK_FREQ_uhz trk = fu % 2 ^ 32 := (fld_set_clear _ _ _ _ _ _ rfl).trans (fld_set _ _ _ _ rfl)
    unfold clamp
    split
    · exact (fld_event _ _ _ _ _ _ rfl).trans ((fld_count_clear _ _ _ _ _ _ rfl).trans hshown)
    · exact hshown
  rw [if_neg (Ne.symm hst), if_neg (by decide)]
  refine ⟨?_, ?_, (evt_disarm ..).trans (evt_event _ _ _ _ rfl)⟩
  · rw [fld_disarm, fld_event _ _ _ _ _ _ rfl, fld_count_clear _ _ _ _ _ _ rfl, fld_set _ _ _ _ rfl]
    rfl
  · rw [fld_disarm, fld_event _ _ _ _ _ _ rfl, fld_count_clear _ _ _ _ _ _ rfl, fld_set_clear _ _ _ _ _ _ rfl, hfreq]

/-- A nominal frequency in µHz fits the register that shows it. -/
theorem fNom_micro_fits (g : Gen) : g.fNom * 1000000 % 2 ^ 32 = g.fNom * 1000000 := by
  unfold Gen.fNom
  split <;> rfl

theorem trackerTick_fallback {g : Gen} {tk : Tick} {trk : Nat} (hholding : m.fld MSR_TRK_STS_state trk = 3) (hto : trackerTo m g tk trk = 4) :
    (m.trackerTick g tk trk).fld MSR_TRK_STS_state trk = 4 ∧ (m.trackerTick g tk trk).fld MSR_TRK_FREQ_uhz trk = g.fNom * 1000000
      ∧ (m.trackerTick g tk trk).evt 0x0B 0 = true := by
  obtain ⟨k, fu, roc, clamped, at_, htick, hfu⟩ := trackerTick_shows m g tk trk
  rw [htick, hto, hholding, ← fNom_micro_fits g, ← hfu hto]
  exact trackerShow_fallback _ trk fu roc clamped 3 at_ (by decide)

/-! ### The tick that ends the hold of a temperature source (R151, R160) -/

theorem tsEnter_fixed {ts : Nat} (h : m.fld MSR_TS_STS_state ts ≠ 2) :
    (m.tsEnter ts 2).fld MSR_TS_STS_state ts = 2 ∧ (m.tsEnter ts 2).evt 0x0B 3 = true := by
  have henter : m.tsEnter ts 2 = ((m.setFld MSR_TS_STS_state ts 2).count MSR_TS_CHG).event 0x0B 3 (.item ts) := by
    simp [Mach.tsEnter, h]
  rw [henter]
  refine ⟨?_, evt_event _ _ _ _ rfl⟩
  rw [fld_event _ _ _ _ _ _ rfl, fld_count_clear _ _ _ _ _ _ rfl, fld_set _ _ _ _ rfl]
  rfl

theorem tsHoldEnd_ends {g : Gen} {tk : Tick} {ts : Nat} {a : Int} (hholding : m.fld MSR_TS_STS_state ts = 1)
    (hhold : kget ts m.msr.tsHold = some (a, true)) (hend : a ≤ tk.nominal) (hgroup : chGroup g (g.cfg MSR_TS_CFG_ch ts) = tk.group) :
    m.tsHoldEnd g tk ts = (m.tsEnter ts 2).tsShow ts (asSigned 16 (g.cfg MSR_TS_FIXED_temp ts) * 10) := by
  unfold Mach.tsHoldEnd
  rw [hhold]
  exact if_pos ⟨hholding, hgroup, hend⟩

theorem tsShow_shows (m : Mach) (ts : Nat) (centi : Int) :
    (m.tsShow ts centi).fld MSR_TS_STS_state ts = m.fld MSR_TS_STS_state ts ∧ (m.tsShow ts centi).evt 0x0B 3 = m.evt 0x0B 3
      ∧ kget ts (m.tsShow ts centi).msr.tsLast = some centi :=
  ⟨(fld_onMsr ..).trans (fld_set_clear _ _ _ _ _ _ rfl), (evt_onMsr ..).trans (evt_set_clear _ _ _ _ _ _ rfl), kget_kput_same ..⟩

end

/-- Settles O30: sets by what MSR takes and finishes, holds by their timers, and their ends by the tick that finds them over. -/
theorem measurandEngineRuns : Obligations.MeasurandEngineRuns := by
  obtain ⟨-, -, -, -, -, -, -, -, -, hclears⟩ := sampleAndMeasurandCommandsComplete
  refine ⟨?takes, ?busy, ?finishes, ?free, ?trackerHold, ?trackerEnds, ?tempHold, ?tempEnds, hclears⟩
  case takes =>
    intro s t x rest hpow hfree hqueue
    obtain ⟨out, htaken⟩ := msrTake_shows (s.m.advance t) x rest hfree hqueue
    exact completes_run (f := fun m => m.msrTake.sviTake) rfl hpow ⟨_, out, rfl, htaken⟩
  case busy =>
    intro s t hpow hbusy
    exact completes_run (f := fun m => m.msrTake.sviTake) rfl hpow (congrArg Mach.sviTake (msrTake_busy (m := s.m.advance t) hbusy))
  case finishes =>
    intro s t out hpow hbusy
    exact completes_run (f := fun m => m.msrDone) rfl hpow (msrDone_shows (m := s.m.advance t) hbusy)
  case free =>
    intro s t hpow hfree
    exact completes_run (f := fun m => m.msrDone) rfl hpow (msrDone_free (m := s.m.advance t) hfree)
  case trackerHold =>
    intro s t k hfires hholding
    have htouch := Mach.trackerFallback_touch ((s.m.advance t).disarm (.tracker k)) k
    exact completes_fires (f := fun m => m.trackerFallback k) rfl hfires ⟨trackerFallback_holding hholding, (regs_of_touch htouch rfl :),
      (deadline_of_timers (timers_of_touch htouch rfl :) _).trans (deadline_disarm_same ..)⟩
  case trackerEnds =>
    intro m g tk k hholding hover hend hprim hback
    exact trackerTick_fallback hholding (trackerTo_fallback hholding hover hend hprim hback)
  case tempHold =>
    intro s t k a b hfires hholding hhold
    have htouch := Mach.tempFallback_touch ((s.m.advance t).disarm (.tempSource k)) k
    exact completes_fires (f := fun m => m.tempFallback k) rfl hfires ⟨tempFallback_holding hholding hhold, (regs_of_touch htouch rfl :),
      (deadline_of_timers (timers_of_touch htouch rfl :) _).trans (deadline_disarm_same ..)⟩
  case tempEnds =>
    intro m g tk k a hholding hhold hend hgroup
    obtain ⟨hstate, hevt⟩ := tsEnter_fixed (m := m) (ts := k) (by rw [hholding]; decide)
    obtain ⟨hshown, hkept, hlast⟩ := tsShow_shows (m.tsEnter k 2) k (asSigned 16 (g.cfg MSR_TS_FIXED_temp k) * 10)
    rw [tsHoldEnd_ends hholding hhold hend hgroup]
    exact ⟨hshown.trans hstate, hkept.trans hevt, hlast⟩

end Sys2Proof.Machine


/-! # Admission runs from their start to their completion -/

namespace Sys2Proof.Machine

/-- A module alike has the same pages to run on. -/
theorem alike_runPages {m k : Mach} (h : m.alike k) : runPages k = runPages m := by
  have hadm : k.adm = m.adm := by rw [h.1]
  unfold runPages
  rw [alike_staged h, hadm]

/-- The word of ADM_CTRL starts the run it asks for, over the pages whose staged set does not wait for its boundary (R179, log 81). -/
theorem completes_runStart {c : Instr} {s : State} {t : Nat} {src : Src} (check : Bool) (hpow : s.m.powered = true)
    (hsrc : s.m.mayWrite src) (hrun : s.m.adm.run = none)
    (hexec : exec c s = s.run t fun m => m.put src 0x08 0x040 (if check then 2 else 1)) :
    Completes c s fun m' => m'.adm.run = some { check := check, by_ := .register src, since := (s.m.advance t).now, pages := runPages s.m }
      ∧ m'.fld ADM_STS_state = if check then 2 else 1 := by
  have hfree : secondRun s.m 0x08 0x040 (if check then 2 else 1) = false := by simp [secondRun, hrun]
  have hplain : plainWord 0x08 0x040 (if check then 2 else 1) = true := by cases check <;> decide
  refine completes_word hexec hpow hsrc hplain hfree fun k i hk _ => ?_
  have hkrun : k.adm.run = none := by rw [hk.1]; exact hrun
  have hknow : k.now = (s.m.advance t).now := by rw [hk.1]
  have hkpages : runPages k = runPages s.m := (alike_runPages hk).trans rfl
  have hact : k.act src 0x08 0x040 i (if check then 2 else 1) = (k.startRun check (.register src)).1 := by cases check <;> rfl
  rw [hact, startRun_starts check _ hkrun, fld_audit _ _ _ _ _ _ _ rfl, fld_set _ _ _ _ rfl, adm_of_touch (Mach.auditWrite_touch ..) rfl,
    ← hknow, ← hkpages]
  exact ⟨rfl, by cases check <;> rfl⟩

section
variable {m : Mach} {src : Src} {r : AdmRun} {whole : List Nat}

/-- The module once a completed run is over: its report is of the pages judged, and its result is shown (R187). -/
def Mach.judged (m : Mach) (r : AdmRun) (whole : List Nat) : Mach :=
  ({ m with adm := { m.adm with run := none, report := reportOf m whole } } : Mach).showResult r (verdict m whole)

theorem judged_adm : (m.judged r whole).adm = { m.adm with run := none, report := reportOf m whole } :=
  adm_of_touch (Mach.showResult_touch ..) rfl

theorem judged_shows : (m.judged r whole).fld ADM_STS_state = 0
    ∧ (m.judged r whole).fld ADM_STS_code = ((verdict m whole).map (·.code)).getD 0 % 256 := showResult_shows ..

/-- A run for admission that a register asked for settles its set. -/
theorem admDone_admits (hrun : m.adm.run = some r) (hby : r.by_ = .register src) (hcheck : r.check = false)
    (hwhole : whole = m.adm.due.getD [] ++ r.pages) : m.admDone = (m.judged r whole).settleSet r.pages (verdict m whole) := by
  unfold Mach.admDone Mach.answerRun
  rw [hrun, hwhole]
  simp only [hby, hcheck]
  rfl

/-- A check run that a register asked for sets event 2. -/
theorem admDone_checks (hrun : m.adm.run = some r) (hby : r.by_ = .register src) (hcheck : r.check = true)
    (hwhole : whole = m.adm.due.getD [] ++ r.pages) : m.admDone = (m.judged r whole).event 0x08 2 := by
  unfold Mach.admDone Mach.answerRun
  rw [hrun, hwhole]
  simp only [hby, hcheck]
  rfl

end

/-- Settles O21: the runs by how they start and what they leave, the copy by its failure at the lead and at the follower. -/
theorem admissionRunsStartAndComplete : Obligations.AdmissionRunsStartAndComplete := by
  refine ⟨?admission, ?check, ?running, ?admitted, ?checked, ?copy⟩
  case admission =>
    intro s t src hpow hsrc hrun
    exact completes_runStart false hpow hsrc hrun rfl
  case check =>
    intro s t src hpow hsrc hrun
    exact completes_runStart true hpow hsrc hrun rfl
  case running =>
    intro s t src r hrun
    exact ⟨second_run s t src 1 (.inl rfl) r hrun _ rfl, second_run s t src 2 (.inr rfl) r hrun _ rfl⟩
  case admitted =>
    intro s t src r whole hpow hrun hby hcheck hwhole
    refine completes_run (f := Mach.admDone) rfl hpow ?_
    rw [admDone_admits (m := s.m.advance t) hrun hby hcheck hwhole]
    obtain ⟨hstate, hcode⟩ := judged_shows (m := s.m.advance t) (r := r) (whole := whole)
    obtain ⟨hover, hreport, hadmitted, hrefused⟩ := settled _ r.pages _ hstate hcode
    rw [judged_adm] at hover hreport hadmitted hrefused
    rw [show ((s.m.advance t).adm.due.getD [] ++ r.pages) = whole from hwhole.symm] at hadmitted
    exact ⟨hover, hreport, hadmitted, hrefused⟩
  case checked =>
    intro s t src r whole hpow hrun hby hcheck hwhole
    refine completes_run (f := Mach.admDone) rfl hpow ?_
    rw [admDone_checks (m := s.m.advance t) hrun hby hcheck hwhole]
    obtain ⟨hstate, hcode⟩ := judged_shows (m := s.m.advance t) (r := r) (whole := whole)
    rw [Mach.event_adm _ _ _ _ (by decide), judged_adm, fld_event _ _ _ _ _ _ rfl, fld_event _ _ _ _ _ _ rfl]
    exact ⟨rfl, rfl, rfl, evt_event _ _ _ _ rfl, hstate, hcode⟩
  case copy =>
    intro s t hpow hup hcopy
    refine completes_run (f := fun m => if plaitUp m then m.failCopy else m) rfl hpow ?_
    obtain ⟨c, hc⟩ := Option.isSome_iff_exists.mp hcopy
    rw [if_pos (show plaitUp (s.m.advance t) = true from hup)]
    refine ⟨fun hlead => failCopy_lead (m := s.m.advance t) hcopy hlead, fun hjoining => ?_⟩
    obtain ⟨hawaits, -, hevt, hcount⟩ := failCopy_joining (m := s.m.advance t) hjoining hc
    exact ⟨hawaits, hevt, hcount⟩

end Sys2Proof.Machine


/-! # Dispatch of function slots -/

namespace Sys2Proof.Machine

/-! ### The cores (R176, R192, R193) -/

/-- Which jobs run is a matter of the partitions' states, of the pending jobs and of the manager window. -/
theorem jobRuns_congr {a b : Mach} (hstate : ∀ p, b.partState p = a.partState p) (hjobs : b.dsp.jobs = a.dsp.jobs)
    (hopen : b.dsp.mgrOpen = a.dsp.mgrOpen) (j : Job) : jobRuns b j = jobRuns a j := by
  unfold jobRuns jobReady jobsOf
  simp only [hstate, hjobs, hopen]

/-- The time that counts for the jobs is a matter of that, of the instant and of when the cores were last looked at. -/
theorem runJobs_congr {a b : Mach} (hnow : b.now = a.now) (hstate : ∀ p, b.partState p = a.partState p) (hjobs : b.dsp.jobs = a.dsp.jobs)
    (hopen : b.dsp.mgrOpen = a.dsp.mgrOpen) (hran : b.dsp.ranAt = a.dsp.ranAt) : b.runJobs.dsp.jobs = a.runJobs.dsp.jobs := by
  unfold Mach.runJobs Mach.onDsp
  simp only [jobRuns_congr hstate hjobs hopen, hjobs, hnow, hran]

/-- At one instant the time of the jobs counts once. -/
theorem runJobs_again (m : Mach) : m.runJobs.runJobs.dsp.jobs = m.runJobs.dsp.jobs := by
  show (m.runJobs.dsp.jobs.map fun j => if jobRuns m.runJobs j then { j with exec := j.exec + (m.now - m.now) } else j) = m.runJobs.dsp.jobs
  simp

/-! ### Fields of the dispatcher's page -/

/-- A field of page 0x09 reads as before where the page is not touched. -/
theorem fld_page09 {A P : Nat} {m m' : Mach} (h : m.touch A P m') (hP : P.testBit 9 = false) {f : Fd} (i : Nat) (hp : f.page = 9)
    (ho : f.off < 4096) : m'.fld f i = m.fld f i :=
  fld_touch h f i (by simp [hp, ho, hP])

/-- The state of a partition stands where page 0x32 is not touched. -/
theorem partState_of_touch {A P : Nat} {m m' : Mach} (h : m.touch A P m') (hP : P.testBit 0x32 = false) (p : Nat) :
    m'.partState p = m.partState p :=
  fld_touch h VRT_PART_STS_state p (by simp [VRT_PART_STS_state, hP])

/-! ### What is driven outward stays in the log -/

/-- Every output driven is still among the outputs. -/
structure Mach.keepsOuts (m m' : Mach) : Prop where
  mem : ∀ o ∈ m.outs, o ∈ m'.outs

theorem Mach.keepsOuts.trans {a b c : Mach} (h : a.keepsOuts b) (g : b.keepsOuts c) : a.keepsOuts c := ⟨fun o ho => g.mem o (h.mem o ho)⟩

theorem keepsOuts_of_eq {m m' : Mach} (h : m'.outs = m.outs) : m.keepsOuts m' := ⟨fun _ ho => h ▸ ho⟩

/-- Before what keeps the outputs, a change that is not one of them. -/
theorem Mach.keepsOuts.since {a b c : Mach} (g : b.keepsOuts c) (h : b.outs = a.outs) : a.keepsOuts c := (keepsOuts_of_eq h).trans g

theorem keepsOuts_refl (m : Mach) : m.keepsOuts m := ⟨fun _ h => h⟩

theorem keepsOuts_event (m : Mach) (q b : Nat) (a : Attr) : m.keepsOuts (m.event q b a) := ⟨(event_keepsIntake m q b a).2⟩

theorem keepsOuts_eventAlways (m : Mach) (q b : Nat) (a : Attr) : m.keepsOuts (m.eventAlways q b a) := by
  have hsignal : ∀ x : Mach, x.keepsOuts (x.signal q b) := fun x => by
    unfold Mach.signal
    split
    · exact ⟨(keepsIntake_irq x q).2⟩
    · exact keepsOuts_refl x
  unfold Mach.eventAlways
  extract_lets x y
  have hrecord : m.keepsOuts y := ⟨(intake_keepsIntake x ..).2⟩
  exact hrecord.trans (hsignal y)

theorem keepsOuts_countedEvent (m : Mach) (f : Fd) (q b : Nat) (a : Attr) : m.keepsOuts ((m.count f).event q b a) :=
  (keepsOuts_event (m.count f) q b a).since rfl

theorem keepsOuts_deliverVec (m : Mach) (p v : Nat) : m.keepsOuts (m.deliverVec p v) := by
  unfold Mach.deliverVec
  split
  · exact keepsOuts_countedEvent m ..
  · exact keepsOuts_of_eq rfl

theorem keepsOuts_tryVec (m : Mach) (p v : Nat) : m.keepsOuts (m.tryVec p v) := by
  unfold Mach.tryVec
  extract_lets b x y z
  split
  · exact keepsOuts_refl m
  · split
    · exact keepsOuts_deliverVec m p v
    · split
      · have hy : y.outs = m.outs := by unfold y; split <;> rfl
        exact (keepsOuts_deliverVec y p v).since hy
      · exact (keepsOuts_countedEvent (z.setFlag IRQ_STS_limited p true) ..).since rfl

theorem keepsOuts_signalPart (m : Mach) (p src : Nat) : m.keepsOuts (m.signalPart p src) := by
  unfold Mach.signalPart
  extract_lets i v x
  split
  · exact keepsOuts_countedEvent m ..
  · split
    · exact keepsOuts_refl m
    · split
      · exact keepsOuts_countedEvent m ..
      · exact (keepsOuts_tryVec x p v).since rfl

theorem keepsOuts_sendOn (m : Mach) (l link tries : Nat) (x : PlaitMsg) : m.keepsOuts (m.sendOn l link tries x) := by
  unfold Mach.sendOn
  extract_lets -underBinder -merge -useContext +onlyGivenNames b y z w
  have hw : w.outs = m.outs := by unfold w; split <;> rfl
  exact (keepsOuts_of_eq hw).trans ⟨fun _ => List.mem_cons_of_mem _⟩

theorem nextPlait_outs (m : Mach) : m.nextPlait.2.outs = m.outs := by
  unfold Mach.nextPlait
  split
  · rfl
  · split <;> rfl

theorem keepsOuts_drainPlait (k : Nat) (m : Mach) : m.keepsOuts (m.drainPlait k) := by
  induction k generalizing m with
  | zero => exact keepsOuts_refl m
  | succ k ih =>
    unfold Mach.drainPlait
    split
    · next heq =>
      have hnext := nextPlait_outs m
      rw [heq] at hnext
      exact ((keepsOuts_sendOn ..).since hnext).trans (ih _)
    · exact keepsOuts_refl m

theorem keepsOuts_plaitSend (m : Mach) (x : PlaitMsg) : m.keepsOuts (m.plaitSend x) := by
  unfold Mach.plaitSend Mach.drainAll
  split
  · exact keepsOuts_refl m
  · exact (keepsOuts_drainPlait _ (m.onTwn fun t => { t with sendQ := t.sendQ ++ [x] })).since rfl

theorem keepsOuts_tryCend (m : Mach) : m.keepsOuts m.tryCend := by
  unfold Mach.tryCend
  split
  · extract_lets named n msg
    split
    · exact (keepsOuts_plaitSend (m.showCopy 3 n n) _).since rfl
    · exact keepsOuts_refl m
  · exact keepsOuts_refl m

theorem keepsOuts_cutAt (m : Mach) (slot tick : Nat) : m.keepsOuts (m.cutAt slot tick) := by
  unfold Mach.cutAt
  split
  · split
    · extract_lets -underBinder -merge -useContext +onlyGivenNames first latch msg left n y z
      have hz : m.keepsOuts z := (keepsOuts_plaitSend y _).since rfl
      split
      · exact hz.trans ((keepsOuts_tryCend (z.showCopy 2 n n)).since rfl)
      · exact hz.trans (keepsOuts_of_eq rfl)
    · exact keepsOuts_refl m
  · exact keepsOuts_refl m

/-! ### A slot's events, its start and its suspension (R196, R197, R273) -/

/-- A field of the dispatcher's page that neither an event nor the start of a slot writes, as a check. -/
def steady (f : Fd) : Bool :=
  Fd.fit f && f.page == 0x09 && f.off != 0x014 && Fd.clear DSP_SLOT_STS_primed f && Fd.clear DSP_SLOT_STS_state f

/-- The jobs, the events of the dispatcher's page, its steady fields and what was driven outward are as before. -/
structure Mach.keepsDsp (m m' : Mach) : Prop where
  jobs : m'.dsp.jobs = m.dsp.jobs
  evt : ∀ c, c < 32 → m.evt 0x09 c = true → m'.evt 0x09 c = true
  fld : ∀ (f : Fd) (i : Nat), steady f = true → m'.fld f i = m.fld f i
  outs : m.keepsOuts m'

theorem Mach.keepsDsp.trans {a b c : Mach} (h : a.keepsDsp b) (g : b.keepsDsp c) : a.keepsDsp c where
  jobs := g.jobs.trans h.jobs
  evt n hn hm := g.evt n hn (h.evt n hn hm)
  fld f i hf := (g.fld f i hf).trans (h.fld f i hf)
  outs := h.outs.trans g.outs

theorem keepsDsp_refl (m : Mach) : m.keepsDsp m := ⟨rfl, fun _ _ h => h, fun _ _ _ => rfl, keepsOuts_refl m⟩

theorem steady_cases {f : Fd} (h : steady f = true) : Fd.noEvt 0x09 f = true ∧ f.page = 0x09 ∧ f.off < 4096
    ∧ Fd.clear DSP_SLOT_STS_primed f = true ∧ Fd.clear DSP_SLOT_STS_state f = true := by
  simp only [steady, Bool.and_eq_true, beq_iff_eq, bne_iff_ne, ne_eq] at h
  obtain ⟨⟨⟨⟨hfit, hpage⟩, hoff⟩, hprimed⟩, hstate⟩ := h
  have hlt : f.off < 4096 := by
    simp only [Fd.fit, Bool.and_eq_true, decide_eq_true_eq] at hfit
    exact hfit.2
  exact ⟨by simp [Fd.noEvt, hfit, hpage, hoff], hpage, hlt, hprimed, hstate⟩

/-- What does not touch the dispatcher's page. -/
theorem keepsDsp_of_touch {A P : Nat} {m m' : Mach} (h : m.touch A P m') (hP : P.testBit 9 = false) (hjobs : m'.dsp.jobs = m.dsp.jobs)
    (houts : m.keepsOuts m') : m.keepsDsp m' where
  jobs := hjobs
  evt c _ hm := (evt_touch h 0x09 c (by simp [hP])).trans hm
  fld f i hf :=
    have ⟨_, hpage, hoff, _⟩ := steady_cases hf
    fld_page09 h hP i hpage hoff
  outs := houts

theorem keepsDsp_setState (m : Mach) (s v : Nat) : m.keepsDsp (m.setFld DSP_SLOT_STS_state s v) where
  jobs := rfl
  evt _ _ hm := (evt_set_clear _ _ _ _ _ _ rfl).trans hm
  fld _ _ hf :=
    have ⟨_, _, _, _, hstate⟩ := steady_cases hf
    fld_set_clear _ _ _ _ _ _ hstate
  outs := keepsOuts_of_eq rfl

theorem keepsDsp_setPrimed (m : Mach) (s : Nat) (b : Bool) : m.keepsDsp (m.setFlag DSP_SLOT_STS_primed s b) where
  jobs := rfl
  evt _ _ hm := (evt_set_clear _ _ _ _ _ _ rfl).trans hm
  fld _ _ hf :=
    have ⟨_, _, _, hprimed, _⟩ := steady_cases hf
    fld_set_clear _ _ _ _ _ _ hprimed
  outs := keepsOuts_of_eq rfl

theorem keepsDsp_event (m : Mach) (b : Nat) (a : Attr) : m.keepsDsp (m.event 0x09 b a) where
  jobs := congrArg Dsp.jobs (Mach.event_dsp _ _ _ _ (by decide))
  evt c hc hm := evt_event_or m 0x09 b c a (by simp [hc]) hm
  fld f i hf := fld_event m 0x09 b a f i (steady_cases hf).1
  outs := keepsOuts_event ..

theorem keepsDsp_eventAlways (m : Mach) {b : Nat} (a : Attr) (hb : b < 32) : m.keepsDsp (m.eventAlways 0x09 b a) where
  jobs := congrArg Dsp.jobs (dsp_of_touch (Mach.eventAlways_touch (P := 0x200) m 0x09 b a rfl (by decide)) rfl)
  evt c hc hm := evt_eventAlways_or m 0x09 b c a (by simp [hb]) hc hm
  fld f i hf := fld_eventAlways m 0x09 b a f i (steady_cases hf).1
  outs := keepsOuts_eventAlways ..

theorem keepsDsp_signalPart (m : Mach) (p src : Nat) : m.keepsDsp (m.signalPart p src) :=
  keepsDsp_of_touch (Mach.signalPart_touch m p src) rfl (congrArg Dsp.jobs (dsp_of_touch (Mach.signalPart_touch m p src) rfl))
    (keepsOuts_signalPart ..)

theorem keepsDsp_slotEvent (m : Mach) {b : Nat} (s : Nat) (always : Bool) (hb : b < 32) : m.keepsDsp (m.slotEvent b s always) := by
  cases always
  · exact (keepsDsp_event m b (.slot s)).trans (keepsDsp_signalPart ..)
  · exact (keepsDsp_eventAlways m (.slot s) hb).trans (keepsDsp_signalPart ..)

theorem slotEvent_evt (m : Mach) {b : Nat} (s : Nat) (always : Bool) (hb : b < 32) : (m.slotEvent b s always).evt 0x09 b = true := by
  cases always
  · exact (evt_touch (Mach.signalPart_touch _ (s / 64) 65) 0x09 b rfl).trans (evt_event m 0x09 b (.slot s) (by simp [hb]))
  · exact (evt_touch (Mach.signalPart_touch _ (s / 64) 65) 0x09 b rfl).trans (evt_eventAlways m 0x09 b (.slot s) (by simp [hb]))

/-- The state of a slot stands when an event about it is set. -/
theorem slotState_slotEvent (m : Mach) {b : Nat} (s : Nat) (always : Bool) : slotState (m.slotEvent b s always) s = slotState m s := by
  have hsignal : ∀ x : Mach, slotState (x.signalPart (s / 64) 65) s = slotState x s := fun x =>
    fld_page09 (Mach.signalPart_touch x ..) rfl s rfl (by decide)
  cases always
  · exact (hsignal _).trans (fld_event m 0x09 b (.slot s) DSP_SLOT_STS_state s rfl)
  · exact (hsignal _).trans (fld_eventAlways m 0x09 b (.slot s) DSP_SLOT_STS_state s rfl)

theorem keepsDsp_slotStart (m : Mach) (s : Nat) : m.keepsDsp (m.slotStart s) := by
  unfold Mach.slotStart
  extract_lets x y
  have hx : m.keepsDsp x := ⟨rfl, fun _ _ h => h, fun _ _ _ => rfl, keepsOuts_of_eq rfl⟩
  have hy : m.keepsDsp y := hx.trans (keepsDsp_setPrimed ..)
  split
  · exact hy.trans (keepsDsp_setState ..)
  · exact hy

theorem slotStart_shows (m : Mach) (s : Nat) : (m.slotStart s).flag DSP_SLOT_STS_primed s = false
    ∧ slotState (m.slotStart s) s = if slotState m s = 2 then 1 else slotState m s := by
  unfold Mach.slotStart
  extract_lets x y
  have hprimed : y.flag DSP_SLOT_STS_primed s = false := flag_set _ _ _ _ rfl
  have hstate : slotState y s = slotState m s := (fld_flag_clear _ _ _ _ _ _ rfl).trans (fld_onDsp ..)
  rw [hstate]
  split
  · refine ⟨?_, fld_set _ _ _ _ rfl⟩
    unfold Mach.flag at hprimed ⊢
    rw [fld_set_clear _ _ _ _ _ _ rfl]
    exact hprimed
  · exact ⟨hprimed, hstate⟩

/-- A slot put into Priming starts there. -/
theorem slotStart_priming (m : Mach) (s : Nat) : slotState ((m.setFld DSP_SLOT_STS_state s 1).slotStart s) s = 1
    ∧ ((m.setFld DSP_SLOT_STS_state s 1).slotStart s).flag DSP_SLOT_STS_primed s = false := by
  obtain ⟨hprimed, hstate⟩ := slotStart_shows (m.setFld DSP_SLOT_STS_state s 1) s
  have hone : slotState (m.setFld DSP_SLOT_STS_state s 1) s = 1 := fld_set _ _ _ _ rfl
  rw [hone] at hstate
  exact ⟨hstate, hprimed⟩

/-- A slot that is neither Priming nor Running is not suspended. -/
theorem suspend_stays {m : Mach} {s : Nat} (replaced : Bool) (h : ¬ (slotState m s = 1 ∨ slotState m s = 2)) : m.suspend s replaced = m :=
  if_neg h

section
variable {m : Mach} {s : Nat} (h : slotState m s = 1 ∨ slotState m s = 2)
include h

theorem suspend_plain : m.suspend s false = (m.setFld DSP_SLOT_STS_state s 3).slotEvent 2 s := if_pos h

/-- Where a newer set has replaced the job's, the slot starts anew (R197). -/
theorem suspend_replaced :
    m.suspend s true = ((((m.setFld DSP_SLOT_STS_state s 3).slotEvent 2 s).setFld DSP_SLOT_STS_state s 1).slotStart s) := if_pos h

theorem suspend_shows (replaced : Bool) :
    slotState (m.suspend s replaced) s = (if replaced then 1 else 3) ∧ (m.suspend s replaced).evt 0x09 2 = true := by
  have hset := slotEvent_evt (m.setFld DSP_SLOT_STS_state s 3) (b := 2) s false (by decide)
  cases replaced
  · rw [suspend_plain h, slotState_slotEvent]
    exact ⟨fld_set _ _ _ _ rfl, hset⟩
  · rw [suspend_replaced h]
    exact ⟨(slotStart_priming _ s).1, ((keepsDsp_setState _ s 1).trans (keepsDsp_slotStart ..)).evt 2 (by decide) hset⟩

end

theorem keepsDsp_suspend (m : Mach) (s : Nat) (replaced : Bool) : m.keepsDsp (m.suspend s replaced) := by
  by_cases h : slotState m s = 1 ∨ slotState m s = 2
  · have hevent : m.keepsDsp ((m.setFld DSP_SLOT_STS_state s 3).slotEvent 2 s) :=
      (keepsDsp_setState m s 3).trans (keepsDsp_slotEvent _ s false (by decide))
    cases replaced
    · exact suspend_plain h ▸ hevent
    · exact suspend_replaced h ▸ (hevent.trans (keepsDsp_setState _ s 1)).trans (keepsDsp_slotStart ..)
  · rw [suspend_stays replaced h]
    exact keepsDsp_refl m

/-! ### An overrun (R193, R197) -/

theorem keepsDsp_cutAt (m : Mach) (s tick : Nat) : m.keepsDsp (m.cutAt s tick) :=
  keepsDsp_of_touch (Mach.cutAt_touch ..) rfl (congrArg Dsp.jobs (dsp_of_touch (Mach.cutAt_touch ..) rfl)) (keepsOuts_cutAt ..)

theorem keepsDsp_slotOutput (m : Mach) (s tick : Nat) (q : BitVec 16) (v : List (Nat × BitVec 32)) : m.keepsDsp (m.slotOutput s tick q v) :=
  keepsDsp_of_touch (Mach.slotOutput_touch ..) rfl (slotOutput_jobs ..) (keepsOuts_of_eq (outs_of_touch (Mach.slotOutput_touch ..) rfl))

theorem keepsDsp_ownOverrun (m : Mach) (s tick : Nat) : m.keepsDsp (m.ownOverrun s tick) :=
  keepsDsp_of_touch (Mach.ownOverrun_touch ..) rfl (congrArg Dsp.jobs (dsp_of_touch (Mach.ownOverrun_touch ..) rfl))
    (keepsOuts_of_eq (outs_of_touch (Mach.ownOverrun_touch ..) rfl))

/-- The end of a job writes one field, the count of its slot's jobs. -/
theorem fld_endJob (m : Mach) (j : Job) {f : Fd} (i : Nat) (h : Fd.clear DSP_SLOT_STS_pending f = true) : (m.endJob j).fld f i = m.fld f i :=
  (fld_set_clear _ _ _ _ _ _ h).trans ((fld_onDsp ..).trans (fld_onDsp ..))

/-- The consecutive overruns of a slot with one more (R193). -/
def overruns (m : Mach) (s : Nat) : Nat := min 255 (m.fld DSP_SLOT_STS_consec s + 1)

/-- A job stopped and its overrun counted, before its output goes. -/
def Mach.countOverrun (m : Mach) (j : Job) : Mach :=
  let stopped := (m.endJob j).emit (.jobStop j.slot)
  (((stopped.count (DSP_CNT_n.nth 3)).count DSP_SLOT_OVR_n j.slot).slotEvent 0 j.slot true).setFld DSP_SLOT_STS_consec j.slot (overruns m j.slot)

section
variable (m : Mach) (j : Job)

/-- A field that the end of a job and the first two counts of an overrun leave. -/
theorem fld_countOverrun {f : Fd} (i : Nat) (h : steady f = true) (hown : Fd.clear DSP_SLOT_STS_pending f = true ∧ Fd.clear (DSP_CNT_n.nth 3) f = true
    ∧ Fd.clear DSP_SLOT_OVR_n f = true) :
    (((((m.endJob j).emit (.jobStop j.slot)).count (DSP_CNT_n.nth 3)).count DSP_SLOT_OVR_n j.slot).slotEvent 0 j.slot true).fld f i = m.fld f i := by
  obtain ⟨hpending, hcount, hovr⟩ := hown
  calc _ = ((((m.endJob j).emit (.jobStop j.slot)).count (DSP_CNT_n.nth 3)).count DSP_SLOT_OVR_n j.slot).fld f i :=
        (keepsDsp_slotEvent _ _ true (by decide)).fld f i h
    _ = (((m.endJob j).emit (.jobStop j.slot)).count (DSP_CNT_n.nth 3)).fld f i := fld_count_clear _ _ _ _ _ _ hovr
    _ = (m.endJob j).fld f i := fld_count_clear _ _ _ _ _ _ hcount
    _ = m.fld f i := fld_endJob m j i hpending

theorem countOverrun_jobs : (m.countOverrun j).dsp.jobs = m.runJobs.dsp.jobs.eraseP fun x => x.slot == j.slot && x.tick == j.tick :=
  (keepsDsp_slotEvent _ _ true (by decide)).jobs

theorem countOverrun_counts : (m.countOverrun j).fld (DSP_CNT_n.nth 3) = (m.fld (DSP_CNT_n.nth 3) + 1) % 2 ^ 32
    ∧ (m.countOverrun j).fld DSP_SLOT_OVR_n j.slot = (m.fld DSP_SLOT_OVR_n j.slot + 1) % 2 ^ 32
    ∧ (m.countOverrun j).fld DSP_SLOT_STS_consec j.slot = overruns m j.slot := by
  have hevent := keepsDsp_slotEvent ((((m.endJob j).emit (.jobStop j.slot)).count (DSP_CNT_n.nth 3)).count DSP_SLOT_OVR_n j.slot)
    (b := 0) j.slot true (by decide)
  refine ⟨?cnt, ?ovr, ?consec⟩
  case cnt =>
    calc _ = _ := fld_set_clear _ _ _ _ _ _ rfl
      _ = _ := hevent.fld _ 0 rfl
      _ = _ := fld_count_clear _ _ _ _ _ _ rfl
      _ = ((m.endJob j).fld (DSP_CNT_n.nth 3) + 1) % 2 ^ 32 := fld_count _ _ _ _ rfl
      _ = _ := by rw [fld_endJob m j 0 rfl]
  case ovr =>
    calc _ = _ := fld_set_clear _ _ _ _ _ _ rfl
      _ = _ := hevent.fld _ _ rfl
      _ = _ := fld_count _ _ _ _ rfl
      _ = ((m.endJob j).fld DSP_SLOT_OVR_n j.slot + 1) % 2 ^ 32 :=
        congrArg (fun n => (n + 1) % 2 ^ 32) (fld_count_clear _ _ _ _ _ _ rfl)
      _ = _ := by rw [fld_endJob m j j.slot rfl]
  case consec =>
    refine (fld_set _ _ _ _ rfl).trans (Nat.mod_eq_of_lt ?_)
    unfold overruns
    simp only [DSP_SLOT_STS_consec]
    omega

theorem countOverrun_evt : (m.countOverrun j).evt 0x09 0 = true :=
  (evt_set_clear _ _ _ _ _ _ rfl).trans (slotEvent_evt _ _ true (by decide))

theorem countOverrun_stops : .jobStop j.slot ∈ (m.countOverrun j).outs :=
  (keepsDsp_slotEvent _ _ true (by decide)).outs.mem _ List.mem_cons_self

theorem countOverrun_state : slotState (m.countOverrun j) j.slot = slotState m j.slot := by
  unfold Mach.countOverrun slotState
  dsimp only
  rw [fld_set_clear _ _ _ _ _ _ rfl]
  refine (slotState_slotEvent _ j.slot true).trans ?_
  exact (fld_count_clear _ _ _ _ _ _ rfl).trans ((fld_count_clear _ _ _ _ _ _ rfl).trans (fld_endJob m j j.slot rfl))

theorem countOverrun_force : (m.countOverrun j).force = m.force := by
  unfold Mach.countOverrun
  dsimp only
  rw [Mach.setFld_force]
  refine (force_of_touch (Mach.slotEvent_touch _ 0 j.slot true) rfl).trans ?_
  rfl

/-- After the count an overrun gives its output, tells the pair, suspends the slot at the limit and goes to the copy. -/
theorem overrun_counted : ∃ k, (m.countOverrun j).keepsDsp k ∧ slotState k j.slot = slotState m j.slot
    ∧ m.overrun j = (if m.cfg DSP_CFG_overrun_lim ≤ overruns m j.slot then k.suspend j.slot j.replaced else k).cutAt j.slot j.tick := by
  generalize hw : m.overrun j = w
  unfold Mach.overrun at hw
  extract_lets -underBinder -merge -useContext +onlyGivenNames s a b n c q d e f at hw
  have hn : n = overruns m j.slot := congrArg (fun v => min 255 (v + 1)) (fld_countOverrun m j _ rfl ⟨rfl, rfl, rfl⟩)
  have hc : c = m.countOverrun j := by unfold c; rw [hn]; rfl
  have he : d.keepsDsp e ∧ slotState e j.slot = slotState d j.slot ∧ e.force = d.force := by
    unfold e
    split
    · exact ⟨keepsDsp_ownOverrun .., fld_page09 (Mach.ownOverrun_touch ..) rfl _ rfl (by decide), force_of_touch (Mach.ownOverrun_touch ..) rfl⟩
    · exact ⟨keepsDsp_refl d, rfl, rfl⟩
  obtain ⟨hkeeps, hstate, hforce⟩ := he
  have hcfg : e.cfg DSP_CFG_overrun_lim = m.cfg DSP_CFG_overrun_lim :=
    cfg_of_force (hforce.trans ((force_of_touch (Mach.slotOutput_touch ..) rfl).trans (hc ▸ countOverrun_force m j))) _ _
  refine ⟨e, hc ▸ (keepsDsp_slotOutput ..).trans hkeeps, ?_, ?_⟩
  · calc slotState e j.slot = slotState d j.slot := hstate
      _ = slotState c j.slot := fld_page09 (Mach.slotOutput_touch ..) rfl _ rfl (by decide)
      _ = slotState m j.slot := hc ▸ countOverrun_state m j
  · rw [← hw, ← hn, ← hcfg]

theorem keepsDsp_overrun : (m.countOverrun j).keepsDsp (m.overrun j) := by
  obtain ⟨k, hkeeps, -, heq⟩ := overrun_counted m j
  rw [heq]
  refine (hkeeps.trans ?_).trans (keepsDsp_cutAt ..)
  split
  · exact keepsDsp_suspend ..
  · exact keepsDsp_refl k

/-- At the limit a slot that is Priming or Running is suspended, or starts anew where its declaration was replaced (R197). -/
theorem overrun_suspends (hlim : m.cfg DSP_CFG_overrun_lim ≤ overruns m j.slot) (hstate : slotState m j.slot = 1 ∨ slotState m j.slot = 2) :
    slotState (m.overrun j) j.slot = (if j.replaced then 1 else 3) ∧ (m.overrun j).evt 0x09 2 = true := by
  obtain ⟨k, -, hk, heq⟩ := overrun_counted m j
  rw [heq, if_pos hlim]
  obtain ⟨hshows, hevt⟩ := suspend_shows (hk ▸ hstate) j.replaced
  exact ⟨(fld_page09 (Mach.cutAt_touch ..) rfl j.slot rfl (by decide)).trans hshows, (keepsDsp_cutAt ..).evt 2 (by decide) hevt⟩

end

/-! ### Releases (R188, R190, R191) -/

/-- A start writes two tables of the dispatcher. -/
theorem startNow_dsp (m : Mach) (s : Nat) : ∃ r l, (m.startNow s).dsp = { m.dsp with relNo := r, starting := l } := by
  have hstart : (m.slotStart s).dsp = { m.dsp with relNo := kput s 0 m.dsp.relNo } := by
    unfold Mach.slotStart
    dsimp only
    split <;> rfl
  unfold Mach.startNow
  split
  · exact ⟨_, _, congrArg (fun d : Dsp => { d with starting := d.starting.filter (· != s) }) hstart⟩
  · exact ⟨_, _, rfl⟩

theorem keepsDsp_startNow (m : Mach) (s : Nat) : m.keepsDsp (m.startNow s) := by
  unfold Mach.startNow
  split
  · exact (keepsDsp_slotStart m s).trans ⟨rfl, fun _ _ h => h, fun _ _ _ => rfl, keepsOuts_of_eq rfl⟩
  · exact keepsDsp_refl m

/-- The job that a release of a slot makes (R190, R193). -/
def releasedJob (m : Mach) (s tick : Nat) (primed : Bool) : Job :=
  { slot := s, tick := tick, released := m.now, deadline := m.now + m.cfg DSP_SLOT_D_d s * 1000, core := coreOf m s,
    budget := m.cfg DSP_SLOT_C_c s * 100, primed := primed }

/-- The job of a release is a matter of the instant and of the settings in force. -/
theorem releasedJob_congr {a b : Mach} (hnow : b.now = a.now) (hforce : b.force = a.force) (s tick : Nat) (primed : Bool) :
    releasedJob b s tick primed = releasedJob a s tick primed := by
  unfold releasedJob coreOf coresPerShare division
  simp only [cfg_of_force hforce, hnow]

/-- The end of a release: its job joins the pending ones, is counted, shown and signalled. -/
def Mach.joinJob (m : Mach) (j : Job) (n : Nat) : Mach :=
  ((((m.onDsp fun d => { d with jobs := d.jobs ++ [j], relNo := kput j.slot (n + 1) d.relNo, lastRel := kput j.slot m.now d.lastRel }).count
    DSP_CNT_n).count DSP_SLOT_REL_n j.slot).showJobs j.slot).signalPart (j.slot / 64) (j.slot % 64)

theorem joinJob_shows (m : Mach) (j : Job) (n : Nat) : (m.joinJob j n).dsp.jobs = m.dsp.jobs ++ [j] ∧ (m.joinJob j n).dsp.deferred = m.dsp.deferred
    ∧ (m.joinJob j n).fld DSP_SLOT_REL_n j.slot = (m.fld DSP_SLOT_REL_n j.slot + 1) % 2 ^ 32 := by
  unfold Mach.joinJob
  rw [dsp_of_touch (Mach.signalPart_touch ..) rfl, fld_page09 (Mach.signalPart_touch ..) rfl j.slot rfl (by decide)]
  refine ⟨rfl, rfl, ?_⟩
  unfold Mach.showJobs
  rw [fld_set_clear _ _ _ _ _ _ rfl, fld_count _ _ _ _ rfl, fld_count_clear _ _ _ _ _ _ rfl, fld_onDsp]
  rfl

section
variable {m : Mach} {s tick : Nat} {block : Option Block}

/-- A slot with room for a job and its block starts, is shown primed or not, gets its block and then its job. -/
theorem releaseSlot_joins (hroom : mringRoom m (s / 64) (s % 64) = true) (hjobs : (jobsOf m s).length < 7) :
    ∃ (c d : Mach) (primed : Bool) (n : Nat), m.keepsDsp c ∧ c.dsp.deferred = m.dsp.deferred ∧ c.runJobs.dsp.jobs = m.runJobs.dsp.jobs
      ∧ m.touch 0x400008 0x200 c ∧ c.runJobs.touch 0x2003808 0x10000000000000 d
      ∧ m.releaseSlot s tick block = d.joinJob (releasedJob d s tick primed) n := by
  have hgo : ¬ ((!mringRoom m (s / 64) (s % 64) || decide (7 ≤ (jobsOf m s).length)) = true) := by
    rw [hroom, decide_eq_false (Nat.not_le.mpr hjobs)]
    decide
  generalize hw : m.releaseSlot s tick block = w
  unfold Mach.releaseSlot at hw
  extract_lets -underBinder -merge -useContext +onlyGivenNames p f a n primed b c d j e g at hw
  rw [if_neg hgo] at hw
  have hc : m.keepsDsp c ∧ c.dsp = a.dsp ∧ m.touch 0x400008 0x200 c := by
    have hb : m.keepsDsp b := (keepsDsp_startNow m s).trans (keepsDsp_setPrimed ..)
    have hbt : m.touch 0x400008 0x200 b := touch_app (Mach.startNow_touch m s) (Mach.setFlag_touch (P := 0x200) _ _ _ _ rfl) rfl rfl
    unfold c
    split
    · exact ⟨hb.trans (keepsDsp_setState ..), rfl, touch_app hbt (Mach.setFld_touch (P := 0x200) _ _ _ _ rfl) rfl rfl⟩
    · exact ⟨hb, rfl, hbt⟩
  obtain ⟨hkeeps, hdsp, htouch⟩ := hc
  obtain ⟨relNo, starting, hstart⟩ := startNow_dsp m s
  have hcdsp : c.dsp = { m.dsp with relNo := relNo, starting := starting } := hdsp.trans hstart
  have hran : c.runJobs.dsp.jobs = m.runJobs.dsp.jobs :=
    runJobs_congr (now_of_touch htouch rfl) (partState_of_touch htouch rfl) hkeeps.jobs (by rw [hcdsp]) (by rw [hcdsp])
  exact ⟨c, d, primed, n, hkeeps, by rw [hcdsp], hran, htouch, Mach.writeBlock_touch .., hw.symm⟩

/-- A slot with room for a job and its block is released. -/
theorem releaseSlot_releases (hroom : mringRoom m (s / 64) (s % 64) = true) (hjobs : (jobsOf m s).length < 7) :
    (∃ primed, (m.releaseSlot s tick block).dsp.jobs = m.runJobs.dsp.jobs ++ [releasedJob m s tick primed])
      ∧ (m.releaseSlot s tick block).dsp.deferred = m.dsp.deferred
      ∧ (m.releaseSlot s tick block).fld DSP_SLOT_REL_n s = (m.fld DSP_SLOT_REL_n s + 1) % 2 ^ 32 := by
  obtain ⟨c, d, primed, n, hkeeps, hdeferred, hran, htouch, hwrite, heq⟩ := releaseSlot_joins (tick := tick) (block := block) hroom hjobs
  have hdsp : d.dsp = c.runJobs.dsp := dsp_of_touch hwrite rfl
  have hstart : c.now = m.now ∧ c.force = m.force := ⟨now_of_touch htouch rfl, force_of_touch htouch rfl⟩
  have hnow : d.now = m.now := (now_of_touch hwrite rfl).trans hstart.1
  have hforce : d.force = m.force := (force_of_touch hwrite rfl).trans hstart.2
  have hrel : d.fld DSP_SLOT_REL_n s = m.fld DSP_SLOT_REL_n s :=
    (fld_page09 hwrite rfl s rfl (by decide)).trans ((fld_onDsp ..).trans (hkeeps.fld _ s rfl))
  obtain ⟨hjoin, hleft, hcount⟩ := joinJob_shows d (releasedJob d s tick primed) n
  rw [heq]
  refine ⟨⟨primed, ?_⟩, ?_, ?_⟩
  · rw [hjoin, hdsp, hran, releasedJob_congr hnow hforce]
  · rw [hleft, hdsp]
    exact hdeferred
  · exact hcount.trans (by rw [← hrel]; rfl)

/-- A slot with seven pending jobs is not released (R191). -/
theorem releaseSlot_full (hjobs : 7 ≤ (jobsOf m s).length) :
    m.releaseSlot s tick block = ((m.count (DSP_CNT_n.nth 6)).slotEvent 6 s true).noRelease s tick := by
  unfold Mach.releaseSlot
  dsimp only
  rw [if_pos (by rw [decide_eq_true hjobs, Bool.or_true])]

theorem keepsDsp_noRelease (m : Mach) (s tick : Nat) : m.keepsDsp (m.noRelease s tick) := keepsDsp_slotOutput ..

theorem releaseSlot_drops (hjobs : 7 ≤ (jobsOf m s).length) : (m.releaseSlot s tick block).dsp.jobs = m.dsp.jobs
    ∧ (m.releaseSlot s tick block).fld (DSP_CNT_n.nth 6) = (m.fld (DSP_CNT_n.nth 6) + 1) % 2 ^ 32
    ∧ (m.releaseSlot s tick block).evt 0x09 6 = true := by
  have hevent := keepsDsp_slotEvent (m.count (DSP_CNT_n.nth 6)) (b := 6) s true (by decide)
  have hkeeps := hevent.trans (keepsDsp_noRelease _ s tick)
  rw [releaseSlot_full hjobs]
  exact ⟨hkeeps.jobs, (hkeeps.fld (DSP_CNT_n.nth 6) 0 rfl).trans (fld_count _ _ _ _ rfl),
    (keepsDsp_noRelease _ s tick).evt 6 (by decide) (slotEvent_evt _ s true (by decide))⟩

/-- A slot that is not Disabled, Suspended or shed, in an Active partition, and not too soon after its last release, is released. -/
theorem dueSlot_releases (hpart : m.partState (s / 64) = psActive) (hstate : slotState m s = 1 ∨ slotState m s = 2) (hshed : sheds m s = false)
    (hsep : ∀ l, kget s m.dsp.lastRel = some l → l + separation m s ≤ m.now) : m.dueSlot s tick block = m.releaseSlot s tick block := by
  have hgo : notReleased m s = false := by
    unfold notReleased
    rcases hstate with h | h <;> simp [hpart, h, psActive, psStopped, psResetting]
  unfold Mach.dueSlot
  extract_lets -underBinder -merge -useContext +onlyGivenNames st again held soon
  have hsoon : soon = none := by
    unfold soon
    cases hlast : kget s m.dsp.lastRel with
    | none => rfl
    | some l => exact if_neg (Nat.not_lt.mpr (hsep l hlast))
  rw [hsoon, if_neg (by rcases hstate with h | h <;> simp [h, psActive, hpart, st]), hgo, if_neg (by decide),
    if_neg (by simp [hpart, psActive, psFreezing, psFrozen, st]), hshed, if_neg (by decide)]

end

/-- A deferral that has run out makes the release that waits. -/
theorem releaseDeferred_releases {m : Mach} {s : Nat} {x : Deferred} (hfind : m.dsp.deferred.find? (fun y => decide (y.slot = s)) = some x)
    (hpart : m.partState (s / 64) = psActive) (hstate : slotState m s = 1 ∨ slotState m s = 2) (hshed : sheds m s = false)
    (hsep : ∀ l, kget s m.dsp.lastRel = some l → l + separation m s ≤ m.now) :
    m.releaseDeferred s = (m.onDsp fun d => { d with deferred := d.deferred.filter fun y => y.slot != s }).releaseSlot s x.tick x.block := by
  unfold Mach.releaseDeferred
  rw [hfind]
  exact dueSlot_releases (m := m.onDsp fun d => { d with deferred := d.deferred.filter fun y => y.slot != s }) hpart hstate hshed hsep

/-! ### The budget of a job (R193) -/

section
variable {m : Mach} {s : Nat} {j : Job}

theorem budgetEnd_over (hoff : oldestJob m.runJobs s = some j) (h : j.budget ≤ j.exec) : m.budgetEnd s = m.runJobs.overrun j := by
  unfold Mach.budgetEnd
  simp only [hoff, if_pos h]

theorem budgetEnd_within (hoff : oldestJob m.runJobs s = some j) (h : j.exec < j.budget) : m.budgetEnd s = m.runJobs := by
  unfold Mach.budgetEnd
  simp only [hoff, if_neg (Nat.not_le.mpr h)]

end

/-- What an overrun shows: the pending jobs without its own, the counts, event 0 and the stop of its core (R193). -/
theorem overrun_shows (m : Mach) (j : Job) :
    (m.overrun j).dsp.jobs = m.runJobs.dsp.jobs.eraseP (fun x => x.slot == j.slot && x.tick == j.tick)
      ∧ (m.overrun j).fld (DSP_CNT_n.nth 3) = (m.fld (DSP_CNT_n.nth 3) + 1) % 2 ^ 32
      ∧ (m.overrun j).fld DSP_SLOT_OVR_n j.slot = (m.fld DSP_SLOT_OVR_n j.slot + 1) % 2 ^ 32
      ∧ (m.overrun j).fld DSP_SLOT_STS_consec j.slot = overruns m j.slot
      ∧ (m.overrun j).evt 0x09 0 = true ∧ .jobStop j.slot ∈ (m.overrun j).outs := by
  have hkeeps := keepsDsp_overrun m j
  obtain ⟨hcnt, hovr, hconsec⟩ := countOverrun_counts m j
  exact ⟨hkeeps.jobs.trans (countOverrun_jobs m j), (hkeeps.fld _ 0 rfl).trans hcnt, (hkeeps.fld _ _ rfl).trans hovr,
    (hkeeps.fld _ _ rfl).trans hconsec, hkeeps.evt 0 (by decide) (countOverrun_evt m j), hkeeps.outs.mem _ (countOverrun_stops m j)⟩

/-! ### The commands of a slot (R197) -/

theorem slotCommand_resumes {m : Mach} {s : Nat} (h : slotState m s = 3) : m.slotCommand s 1 = (m.setFld DSP_SLOT_STS_state s 1).slotStart s := by
  have hgo : (bit 1 0 && slotState m s == 3) = true := by
    rw [h]
    rfl
  exact if_pos hgo

/-- Settles O31: a release by its slot and its job, an overrun by its stages, the commands of a slot by the word written. -/
theorem slotsAreDispatched : Obligations.SlotsAreDispatched := by
  refine ⟨?release, ?full, ?overrun, ?within, ?resume, ?clear⟩
  case release =>
    intro s t slot x hfires hfind hpart hstate hshed hsep hroom hjobs
    refine completes_fires (f := fun m => m.releaseDeferred slot) rfl hfires ?_
    rw [releaseDeferred_releases (m := (s.m.advance t).disarm (.deferral slot)) hfind hpart hstate hshed hsep]
    exact releaseSlot_releases (m := ((s.m.advance t).disarm (.deferral slot)).onDsp _) hroom hjobs
  case full =>
    intro s t slot x hfires hfind hpart hstate hshed hsep hjobs
    refine completes_fires (f := fun m => m.releaseDeferred slot) rfl hfires ?_
    rw [releaseDeferred_releases (m := (s.m.advance t).disarm (.deferral slot)) hfind hpart hstate hshed hsep]
    exact releaseSlot_drops (m := ((s.m.advance t).disarm (.deferral slot)).onDsp _) hjobs
  case overrun =>
    intro s t slot k j hpow hk hoff hover
    refine completes_run (f := fun m => m.budgetEnd slot) rfl hpow ?_
    subst hk
    rw [budgetEnd_over hoff hover, ← find_slot hoff]
    obtain ⟨hjobs, hcnt, hovr, hconsec, hevt, hstop⟩ := overrun_shows (s.m.advance t).runJobs j
    exact ⟨hjobs.trans (by rw [runJobs_again]), hcnt, hovr, hconsec, hevt, hstop, overrun_suspends (s.m.advance t).runJobs j⟩
  case within =>
    intro s t slot k j hpow hk hoff hleft
    refine completes_run (f := fun m => m.budgetEnd slot) rfl hpow ?_
    subst hk
    exact budgetEnd_within hoff hleft
  case resume =>
    intro s t src hpow hsrc hstate
    refine completes_put (page := 0x09) (off := 0x090) (v := 1) rfl hpow hsrc (by decide) fun k i hk hi => ?_
    obtain rfl : i = s.m.fld DSP_SLOT_SEL_index := hi _ rfl
    have hsuspended : slotState k (s.m.fld DSP_SLOT_SEL_index) = 3 := (alike_fld hk _ _ (by decide) (by decide)).trans hstate
    have hact : k.act src 0x09 0x090 (s.m.fld DSP_SLOT_SEL_index) 1
        = (k.setFld DSP_SLOT_STS_state (s.m.fld DSP_SLOT_SEL_index) 1).slotStart (s.m.fld DSP_SLOT_SEL_index) := slotCommand_resumes hsuspended
    rw [hact]
    obtain ⟨hpriming, hprimed⟩ := slotStart_priming k (s.m.fld DSP_SLOT_SEL_index)
    exact ⟨(fld_audit _ _ _ _ _ DSP_SLOT_STS_state _ rfl).trans hpriming,
      (congrArg (· == 1) (fld_audit _ _ _ _ _ DSP_SLOT_STS_primed _ rfl)).trans hprimed⟩
  case clear =>
    intro s t src hpow hsrc
    refine completes_put (page := 0x09) (off := 0x090) (v := 2) rfl hpow hsrc (by decide) fun k i _ hi => ?_
    obtain rfl : i = s.m.fld DSP_SLOT_SEL_index := hi _ rfl
    exact (fld_audit _ _ _ _ _ DSP_SLOT_RESP_MAX_v _ rfl).trans (fld_set _ _ _ _ rfl)

end Sys2Proof.Machine


/-! # Commands of a partition's ring -/

namespace Sys2Proof.Machine

/-! ### Taking a command (R262) -/

/-- The partition's ring with one command less. -/
def Mach.takeOne (m : Mach) (p : Nat) : Mach := m.onPart p fun b => { b with cmdCons := (b.cmdCons + 1) % 2 ^ 16 }

section
variable {m : Mach} {p : Nat} {pk : RingPacket} {form : Bool} {f : Mach → Mach}

theorem takeCommand_runs (h : m.takes p pk) (hform : form = true) : m.takeCommand p pk form f = f (m.takeOne p) := by
  subst hform
  exact taken m p pk f h

theorem takeCommand_malformed (h : canTake m p = true) (hbad : (ringPacketOk pk && form) = false) :
    m.takeCommand p pk form f = (m.takeOne p).doneCmd p pk.tag 0x03 0 [] := by
  have hform : (!ringPacketOk pk || !form) = true := by rw [← Bool.not_and, hbad]; rfl
  unfold Mach.takeCommand
  rw [h]
  simp only [Bool.not_true, Bool.false_eq_true, if_false, hform, if_true]
  rfl

end

/-- A command of a partition's ring that can be taken runs. -/
theorem completes_taken {c : Instr} {s : State} {t p : Nat} {pk : RingPacket} {form : Bool} {f : Mach → Mach} {P : Mach → Prop}
    (h : exec c s = s.run t fun m => m.takeCommand p pk form f) (hpow : s.m.powered = true) (htakes : s.m.takes p pk) (hform : form = true)
    (hP : P (f ((s.m.advance t).takeOne p))) : Completes c s P :=
  completes_run h hpow (by rw [takeCommand_runs (show (s.m.advance t).takes p pk from htakes) hform]; exact hP)

/-- A malformed one is done with status 0x03. -/
theorem completes_malformed {c : Instr} {s : State} {t p : Nat} {pk : RingPacket} {form : Bool} {f : Mach → Mach} {P : Mach → Prop}
    (h : exec c s = s.run t fun m => m.takeCommand p pk form f) (hpow : s.m.powered = true) (hcan : canTake s.m p = true)
    (hbad : (ringPacketOk pk && form) = false) (hP : P (((s.m.advance t).takeOne p).doneCmd p pk.tag 0x03 0 [])) : Completes c s P :=
  completes_run h hpow (by rw [takeCommand_malformed (show canTake (s.m.advance t) p = true from hcan) hbad]; exact hP)

theorem takeOne_xfers (m : Mach) (p : Nat) : ((m.takeOne p).part p).xfers = (m.part p).xfers := by
  unfold Mach.takeOne
  rw [part_onPart]

/-! ### Transfers (R267–R271) -/

/-- A transfer of no bytes is done at once (R269). -/
theorem xferCmd_zero {m : Mach} {p : Nat} {pk : RingPacket} (hlen : pk.payload.length = 24) (hkind : natBE (pk.payload.take 1) ≤ 2)
    (hres : natBE ((pk.payload.drop 1).take 3) = 0) (hn : natBE ((pk.payload.drop 4).take 4) = 0)
    (hdst : natBE ((pk.payload.drop 16).take 8) % 8 = 0) (hdstEnd : natBE ((pk.payload.drop 16).take 8) ≤ 2 ^ 48)
    (hsrc : natBE ((pk.payload.drop 8).take 8) % 8 = 0) (hsrcEnd : natBE ((pk.payload.drop 8).take 8) ≤ 2 ^ 47) :
    ∃ payload, m.xferCmd p pk = (m.count (XFR_CNT_n.nth 2)).doneCmd p pk.tag 0x00 0 payload := by
  generalize hw : m.xferCmd p pk = w
  unfold Mach.xferCmd at hw
  extract_lets -underBinder -merge -useContext +onlyGivenNames b kind n src dst srcAt form now at hw
  have hnone : n = 0 := hn
  have hform : form = true := by
    have hsrcAt : srcAt % 8 = 0 := by
      have h8 : src % 8 = 0 := hsrc
      unfold srcAt bits
      split
      · omega
      · exact h8
    have hover : overlaps src dst n = false := by
      simp only [overlaps, hnone, Bool.and_eq_false_iff, decide_eq_false_iff_not]
      omega
    have hsrcEnd' : src + n ≤ 2 ^ 48 := by
      have : src ≤ 2 ^ 47 := hsrcEnd
      omega
    have hdstEnd' : dst + n ≤ 2 ^ 48 := by rw [hnone]; exact hdstEnd
    simp only [form, hover, Bool.and_eq_true, Bool.or_eq_true, beq_iff_eq, decide_eq_true_eq, Bool.and_false, Bool.not_false]
    exact ⟨⟨⟨⟨⟨⟨⟨⟨⟨hlen, hkind⟩, hres⟩, by omega⟩, hdst⟩, .inr hsrcAt⟩, by omega⟩, trivial⟩, hdstEnd'⟩, .inr hsrcEnd'⟩
  rw [hform, if_neg (by decide), if_pos hnone] at hw
  exact ⟨_, hw.symm⟩

/-- A FILL whose destination lies in the partition's regions takes the lowest free tag (R268, R271). -/
theorem xferCmd_fill {m : Mach} {p tag n src dst : Nat} {pk : RingPacket} (hlen : pk.payload.length = 24) (hkind : natBE (pk.payload.take 1) = 1)
    (hres : natBE ((pk.payload.drop 1).take 3) = 0) (hn : n = natBE ((pk.payload.drop 4).take 4)) (hsrc : src = natBE ((pk.payload.drop 8).take 8))
    (hdst : dst = natBE ((pk.payload.drop 16).take 8)) (hpos : 0 < n) (hmax : n ≤ 16777216) (hn8 : n % 8 = 0) (hdst8 : dst % 8 = 0)
    (hend : dst + n ≤ 2 ^ 48) (hcovered : covered m p dst n = true)
    (hfree : (List.range 8).find? (fun t => !(m.part p).xfers.any fun x => x.tag = t) = some tag) :
    m.xferCmd p pk = ((m.raiseRequest p).onPart p fun b => { b with xfers := b.xfers ++ [{
      tag := tag, cmdTag := pk.tag, kind := 1, length := n, src := src, dst := dst, done := 0, first := m.tag, since := m.now }] }).showInflight p := by
  subst hn hsrc hdst
  generalize hw : m.xferCmd p pk = w
  unfold Mach.xferCmd at hw
  extract_lets -underBinder -merge -useContext +onlyGivenNames b kind n src dst srcAt form now xs at hw
  have hkind' : kind = 1 := hkind
  have hform : form = true := by
    simp only [form, hkind', Bool.and_eq_true, Bool.or_eq_true, beq_iff_eq, decide_eq_true_eq]
    exact ⟨⟨⟨⟨⟨⟨⟨⟨⟨hlen, by omega⟩, hres⟩, hn8⟩, hdst8⟩, .inl trivial⟩, hmax⟩, rfl⟩, hend⟩, .inl rfl⟩
  rw [hform, if_neg (by decide), if_neg (Nat.pos_iff_ne_zero.mp hpos), hkind'] at hw
  simp only [show (List.range 8).find? (fun t => !xs.any fun x => x.tag = t) = some tag from hfree, show covered m p dst n = true from hcovered] at hw
  exact hw.symm

/-- A field of the page of transfers reads as before when a DONE is written. -/
theorem fld_doneCmd (m : Mach) (p : Nat) (tag : Byte) (status offset : Nat) (payload : List Byte) (k : Nat) :
    (m.doneCmd p tag status offset payload).fld (XFR_CNT_n.nth k) = m.fld (XFR_CNT_n.nth k) :=
  fld_touch (Mach.doneCmd_touch ..) _ 0 (by simp [XFR_CNT_n, Fd.nth, Nat.mod_lt, show Nat.testBit 0x30000000000000 51 = false from rfl])

theorem partWrite_xfers (m : Mach) (p a : Nat) (bs : List Byte) (w : Nat) : ((m.partWrite p a bs w).1.part p).xfers = (m.part p).xfers := by
  have hring := partWrite_ring m p a bs w p
  simp only [ringPart, Prod.mk.injEq] at hring
  exact hring.2.2.1

section
variable {m : Mach} {p tag : Nat} {x : Xfer} (hrun : m.partState p ≠ psResetting)
  (hfind : (m.part p).xfers.find? (fun y => decide (y.tag = tag)) = some x)
include hrun hfind

/-- The last good piece ends its transfer (R271). -/
theorem pieceDone_last (hlast : x.length ≤ x.done + pieceLen x) : ∃ payload, m.pieceDone p tag .ok
    = ((((m.partWrite p (x.dst + x.done) (pieceBytes m p x) 0).1.dropXfer p x).count XFR_CNT_n)).doneCmd p x.cmdTag 0x00 tag payload := by
  unfold Mach.pieceDone
  simp only [hfind, if_neg hrun, if_pos hlast]
  exact ⟨_, rfl⟩

/-- A piece that fails drops its transfer (R271). -/
theorem pieceDone_fails {e : PieceEnd} (he : e ≠ .ok) : ∃ b payload, m.pieceDone p tag e
    = ((m.dropXfer p x).xferFault p (some b)).doneCmd p x.cmdTag (if e = .ecc then 0x11 else 0x12) tag payload := by
  unfold Mach.pieceDone
  simp only [hfind, if_neg hrun]
  cases e with
  | ok => exact absurd rfl he
  | ecc => exact ⟨_, _, rfl⟩
  | watchdog => exact ⟨_, _, rfl⟩

end

/-! ### Frames of a partition (R322) -/

theorem vnicCmd_sends {m : Mach} {p : Nat} {pk : RingPacket} (h : m.vnicRoom p pk) :
    m.vnicCmd p pk = (m.inject (vnicIngress m p pk)).doneCmd p pk.tag 0x00 0 [] :=
  if_neg (Nat.not_lt.mpr h)

/-! ### Results (R194) -/

section
variable {m : Mach} {p s : Nat} {pk : RingPacket} {j : Job}

theorem yieldCmd_ends (hoff : oldestJob m s = some j) (hown : s / 64 = p) (hlen : pk.payload.length = 8) (htick : natBE pk.payload = j.tick) :
    m.yieldCmd p s pk = ((m.endJob j).noRelease s j.tick).cutAt s j.tick := by
  unfold Mach.yieldCmd
  simp only [hoff]
  exact if_pos ⟨hown, hlen, htick⟩

theorem yieldCmd_jobs (hoff : oldestJob m s = some j) (hown : s / 64 = p) (hlen : pk.payload.length = 8) (htick : natBE pk.payload = j.tick) :
    (m.yieldCmd p s pk).dsp.jobs = m.runJobs.dsp.jobs.eraseP fun x => x.slot == j.slot && x.tick == j.tick := by
  rw [yieldCmd_ends hoff hown hlen htick]
  exact ((keepsDsp_noRelease _ s j.tick).trans (keepsDsp_cutAt _ s j.tick)).jobs

theorem resultCmd_accepts {n : Nat} (hoff : oldestJob m s = some j) (hown : s / 64 = p) (hn : n = natBE ((pk.payload.drop 10).take 2))
    (hmax : n ≤ 64) (hlen : pk.payload.length = 12 + 8 * n) (htick : natBE (pk.payload.take 8) = j.tick) :
    m.resultCmd p s pk = m.acceptResult j (BitVec.ofNat 16 (natBE ((pk.payload.drop 8).take 2))) (resultValues pk.payload) pk.payload := by
  subst hn
  unfold Mach.resultCmd
  simp only [hoff]
  exact if_pos ⟨⟨hown, hlen, hmax⟩, htick⟩

theorem resultCmd_refuses (h : oldestJob m s = none ∨ s / 64 ≠ p) : m.resultCmd p s pk = m.refuseResult p s pk := by
  unfold Mach.resultCmd
  cases hoff : oldestJob m s with
  | none => rfl
  | some j =>
    have hother : s / 64 ≠ p := h.resolve_left (by rw [hoff]; exact Option.some_ne_none j)
    exact if_neg fun hok => hother hok.1.1

/-- A refused RESULT or YIELD is counted with event 3, and every job stays. -/
theorem refuseResult_shows : (m.refuseResult p s pk).dsp.jobs = m.dsp.jobs
    ∧ (m.refuseResult p s pk).fld (DSP_CNT_n.nth 7) = (m.fld (DSP_CNT_n.nth 7) + 1) % 2 ^ 32 ∧ (m.refuseResult p s pk).evt 0x09 3 = true := by
  have hevent := keepsDsp_slotEvent (m.count (DSP_CNT_n.nth 7)) (b := 3) s false (by decide)
  have hdone := Mach.doneCmd_touch ((m.count (DSP_CNT_n.nth 7)).slotEvent 3 s).drawWord.2 p pk.tag
    (((m.count (DSP_CNT_n.nth 7)).slotEvent 3 s).drawWord.1.toNat % 256) 0 []
  refine ⟨?_, ?_, ?_⟩
  · exact (congrArg Dsp.jobs (dsp_of_touch hdone rfl)).trans hevent.jobs
  · exact (fld_page09 hdone rfl 0 rfl (by decide)).trans ((hevent.fld (DSP_CNT_n.nth 7) 0 rfl).trans (fld_count _ _ _ _ rfl))
  · exact (evt_touch hdone 0x09 3 rfl).trans (slotEvent_evt _ s false (by decide))

end

/-- Settles O32: each command by what it does once it is taken. -/
theorem partitionCommandsRun : Obligations.PartitionCommandsRun := by
  refine ⟨?pnop, ?malformed, ?empty, ?fill, ?vnic, ?last, ?badFrame, ?fails, ?yield, ?accepted, ?refused⟩
  case pnop =>
    intro s t p pk hpow htakes
    refine completes_taken (f := fun m => m.doneCmd p pk.tag 0x00 0 []) rfl hpow htakes rfl ?_
    obtain ⟨hcons, hprod, hxfers⟩ := done_ring (s.m.advance t) p pk.tag 0x00 0 [] (fun b => { b with cmdCons := (b.cmdCons + 1) % 2 ^ 16 }) rfl
    exact ⟨hcons, hprod, hxfers, _, rfl⟩
  case malformed =>
    intro s t p pk hpow hcan hbad
    refine completes_malformed (f := fun m => m.doneCmd p pk.tag 0x00 0 []) rfl hpow hcan (by rw [hbad]; rfl) ?_
    obtain ⟨hcons, -, -⟩ := done_ring (s.m.advance t) p pk.tag 0x03 0 [] (fun b => { b with cmdCons := (b.cmdCons + 1) % 2 ^ 16 }) rfl
    exact ⟨hcons, _, rfl⟩
  case empty =>
    intro s t p pk hpow htakes hlen hkind hres hn hdst hdstEnd hsrc hsrcEnd
    refine completes_taken (f := fun m => m.xferCmd p pk) rfl hpow htakes rfl ?_
    obtain ⟨payload, hzero⟩ := xferCmd_zero (m := (s.m.advance t).takeOne p) (p := p) hlen hkind hres hn hdst hdstEnd hsrc hsrcEnd
    rw [hzero]
    refine ⟨?_, ?_, _, _, rfl⟩
    · exact (done_xfers ..).trans (takeOne_xfers (s.m.advance t) p)
    · exact (fld_doneCmd ..).trans (fld_count _ _ _ _ rfl)
  case fill =>
    intro s t p pk n src dst tag hpow htakes hlen hkind hres hn hsrc hdst hpos hmax hn8 hdst8 hend hcovered hfree
    refine completes_taken (f := fun m => m.xferCmd p pk) rfl hpow htakes rfl ?_
    have hfree' : (List.range 8).find? (fun n => !(((s.m.advance t).takeOne p).part p).xfers.any fun x => x.tag = n) = some tag := by
      rw [takeOne_xfers]
      exact hfree
    rw [xferCmd_fill (m := (s.m.advance t).takeOne p) hlen hkind hres hn hsrc hdst hpos hmax hn8 hdst8 hend hcovered hfree',
      part_of_parts (showInflight_parts ..), part_onPart]
    have hkept : ((((s.m.advance t).takeOne p).raiseRequest p).part p).xfers = (s.m.part p).xfers :=
      (congrArg Part.xfers (part_of_parts (parts_of_touch (Mach.raiseRequest_touch ..) rfl) p)).trans (takeOne_xfers (s.m.advance t) p)
    rw [hkept]
    rfl
  case vnic =>
    intro s t p pk hpow htakes hok hoffset hroom
    refine completes_taken (f := fun m => m.vnicCmd p pk) rfl hpow htakes (by rw [hok, decide_eq_true hoffset]; rfl) ?_
    rw [vnicCmd_sends (m := (s.m.advance t).takeOne p) hroom]
    exact ⟨(s.m.advance t).takeOne p, rfl, rfl, rfl⟩
  case last =>
    intro s t p tag x hpow hrun hfind hlast
    refine completes_run (f := fun m => m.pieceDone p tag .ok) rfl hpow ?_
    obtain ⟨payload, hdone⟩ := pieceDone_last (m := s.m.advance t) hrun hfind hlast
    rw [hdone]
    refine ⟨(done_xfers ..).trans ((congrArg Part.xfers (part_of_parts (count_parts ..) p)).trans ((dropXfer_xfers ..).trans ?_)), _, _, rfl⟩
    rw [partWrite_xfers]
    rfl
  case badFrame =>
    intro s t p pk hpow htakes hbad
    have hform : (vnicOk pk.payload && decide (pk.offset.toNat < 2)) = false := by
      rw [Bool.and_eq_false_iff, decide_eq_false_iff_not, Nat.not_lt]
      exact hbad
    exact completes_malformed (f := fun m => m.vnicCmd p pk) rfl hpow htakes.1 (by rw [hform, Bool.and_false]) ⟨_, rfl⟩
  case fails =>
    intro s t p tag e x hpow hrun hfind he
    refine completes_run (f := fun m => m.pieceDone p tag e) rfl hpow ?_
    obtain ⟨b, payload, hdone⟩ := pieceDone_fails (m := s.m.advance t) hrun hfind he
    obtain ⟨hxfers, hcount⟩ := xferFault_facts (s.m.advance t) p x b
    rw [hdone]
    exact ⟨(done_xfers ..).trans hxfers, (fld_doneCmd ..).trans hcount, _, _, rfl⟩
  case yield =>
    intro s t p slot pk j hpow htakes hoff hown hlen htick
    exact completes_taken (f := fun m => m.yieldCmd p slot pk) rfl hpow htakes rfl
      (yieldCmd_jobs (m := (s.m.advance t).takeOne p) hoff hown hlen htick)
  case accepted =>
    intro s t p slot pk j n hpow htakes hoff hown hn hmax hlen htick
    refine completes_taken (f := fun m => m.resultCmd p slot pk) rfl hpow htakes rfl ?_
    rw [resultCmd_accepts (m := (s.m.advance t).takeOne p) hoff hown hn hmax hlen htick]
    exact accept_facts ((s.m.advance t).takeOne p) j ..
  case refused =>
    intro s t p slot pk hpow htakes h
    refine completes_taken (f := fun m => m.resultCmd p slot pk) rfl hpow htakes rfl ?_
    rw [resultCmd_refuses (m := (s.m.advance t).takeOne p) h]
    exact refuseResult_shows (m := (s.m.advance t).takeOne p)

end Sys2Proof.Machine


/-! # The dispatcher's commands complete -/

namespace Sys2Proof.Machine

/-- Settles O59: each completion from what the same command is shown to do. -/
theorem dispatchCommandsComplete : Obligations.DispatchCommandsComplete := by
  obtain ⟨hrelease, -, hoverrun, -, hresume, hclear⟩ := slotsAreDispatched
  obtain ⟨-, -, -, -, -, -, -, -, hyield, hresult, -⟩ := partitionCommandsRun
  refine ⟨?release, ?overrun, ?resume, ?clear, ?result, ?yield⟩
  case release =>
    intro s t slot x hfires hfind hpart hstate hshed hsep hroom hjobs
    exact (hrelease s t slot x hfires hfind hpart hstate hshed hsep hroom hjobs).mono fun _ h => h.2
  case overrun =>
    intro s t slot j hpow hoff hover
    exact (hoverrun s t slot _ j hpow rfl hoff hover).mono fun _ ⟨_, _, hovr, _, hevt, hstop, _⟩ => ⟨hovr, hevt, hstop⟩
  case resume =>
    intro s t src hpow hsrc hstate
    exact (hresume s t src hpow hsrc hstate).mono fun _ h => h.1
  case clear => exact hclear
  case result =>
    intro s t p slot pk j n hpow htakes hoff hown hn hmax hlen htick
    exact (hresult s t p slot pk j n hpow htakes hoff hown hn hmax hlen htick).mono fun _ h => h.1
  case yield => exact hyield

end Sys2Proof.Machine


/-! # Publication -/

namespace Sys2Proof.Machine

/-! ### The numbers of the blocks (R206) -/

/-- The stNum and the sqNum of every block are as before. -/
structure Mach.keepsNumbers (m m' : Mach) : Prop where
  stNum : ∀ b, m'.fld PUB_GCB_STNUM_n b = m.fld PUB_GCB_STNUM_n b
  sqNum : ∀ b, m'.fld PUB_GCB_SQNUM_n b = m.fld PUB_GCB_SQNUM_n b

theorem Mach.keepsNumbers.trans {a b c : Mach} (h : a.keepsNumbers b) (g : b.keepsNumbers c) : a.keepsNumbers c where
  stNum n := (g.stNum n).trans (h.stNum n)
  sqNum n := (g.sqNum n).trans (h.sqNum n)

theorem keepsNumbers_refl (m : Mach) : m.keepsNumbers m := ⟨fun _ => rfl, fun _ => rfl⟩

theorem keepsNumbers_of_touch {A P : Nat} {m m' : Mach} (h : m.touch A P m') (hP : P.testBit 0x0C = false) : m.keepsNumbers m' where
  stNum n := fld_touch h PUB_GCB_STNUM_n n (by simp [PUB_GCB_STNUM_n, hP])
  sqNum n := fld_touch h PUB_GCB_SQNUM_n n (by simp [PUB_GCB_SQNUM_n, hP])

/-- A field clear of both numbers written. -/
theorem keepsNumbers_set (m : Mach) (f : Fd) (i v : Nat) (h : (Fd.clear f PUB_GCB_STNUM_n && Fd.clear f PUB_GCB_SQNUM_n) = true) :
    m.keepsNumbers (m.setFld f i v) := by
  obtain ⟨hst, hsq⟩ := (Bool.and_eq_true _ _).mp h
  exact ⟨fun _ => fld_set_clear _ _ _ _ _ _ hst, fun _ => fld_set_clear _ _ _ _ _ _ hsq⟩

theorem keepsNumbers_event (m : Mach) (b : Nat) (a : Attr) : m.keepsNumbers (m.event 0x0C b a) :=
  ⟨fun _ => fld_event _ _ _ _ _ _ rfl, fun _ => fld_event _ _ _ _ _ _ rfl⟩

/-- An event of the page beside a count of it. -/
theorem keepsNumbers_counted (m : Mach) (f : Fd) (b : Nat) (a : Attr) (h : (Fd.clear f PUB_GCB_STNUM_n && Fd.clear f PUB_GCB_SQNUM_n) = true) :
    m.keepsNumbers ((m.count f).event 0x0C b a) :=
  (keepsNumbers_set m f 0 _ h).trans (keepsNumbers_event ..)

theorem keepsNumbers_noteKey (m : Mach) (zeroed : Bool) : m.keepsNumbers (m.noteKey zeroed) := by
  unfold Mach.noteKey
  extract_lets x
  have hx : m.keepsNumbers x := keepsNumbers_set m PUB_STS_nokey 0 _ rfl
  split
  · exact hx.trans (keepsNumbers_counted x _ _ _ rfl)
  · exact hx

theorem keepsNumbers_pubSend (m : Mach) (f : Built) : m.keepsNumbers (m.pubSend f) :=
  ((keepsNumbers_set m PUB_CNT_n 0 _ rfl).trans (keepsNumbers_noteKey (m.count PUB_CNT_n) f.zeroed)).trans
    (keepsNumbers_of_touch (Mach.inject_touch ..) rfl)

theorem keepsNumbers_cmpDiff (m : Mach) : m.keepsNumbers m.cmpDiff :=
  (keepsNumbers_counted m (PUB_CNT_n.nth 2) 2 .module rfl).trans (keepsNumbers_of_touch (Mach.onTwn_touch ..) rfl)

theorem keepsNumbers_onPub (m : Mach) (g : Pub → Pub) : m.keepsNumbers (m.onPub g) := keepsNumbers_of_touch (Mach.onPub_touch ..) rfl

theorem keepsNumbers_decide (m : Mach) (f : Built) (d : BitVec 64) : m.keepsNumbers (m.decide_ f d) := by
  unfold Mach.decide_
  split
  · exact keepsNumbers_pubSend m f
  · exact keepsNumbers_cmpDiff m

/-- Whatever the role, a built frame on its way leaves the numbers (R213). -/
theorem keepsNumbers_dispose (m : Mach) (f : Built) (changed : Bool) (tick : Nat) : m.keepsNumbers (m.dispose f changed tick) := by
  have hplait : ∀ (y : Mach) (x : PlaitMsg), y.keepsNumbers (y.plaitSend x) := fun y x => keepsNumbers_of_touch (Mach.plaitSend_touch y x) rfl
  unfold Mach.dispose
  split
  case h_1 => exact keepsNumbers_pubSend m f
  case h_2 =>
    extract_lets x y
    have hy : m.keepsNumbers y := (keepsNumbers_pubSend m f).trans (hplait ..)
    split
    · exact hy.trans (hplait ..)
    · exact hy
  case h_3 =>
    extract_lets -underBinder -merge -useContext +onlyGivenNames got x
    have hx : m.keepsNumbers x := keepsNumbers_onPub ..
    clear_value got
    cases got with
    | some d =>
      dsimp only
      split
      · split
        · exact hx.trans (keepsNumbers_pubSend ..)
        · exact (hx.trans (keepsNumbers_pubSend ..)).trans (keepsNumbers_cmpDiff _)
      · exact hx.trans (keepsNumbers_decide ..)
    | none =>
      dsimp only
      split
      · exact (hx.trans (keepsNumbers_pubSend ..)).trans (keepsNumbers_onPub ..)
      · split
        · exact hx.trans (keepsNumbers_onPub ..)
        · exact (hx.trans (keepsNumbers_onPub ..)).trans (keepsNumbers_of_touch (Mach.arm_touch ..) rfl)
  case h_4 => exact keepsNumbers_set m _ 0 _ rfl

/-! ### Checks 4 to 8 of a received frame (R223, R224) -/

theorem keepsNumbers_subAccept (m : Mach) (i : Nat) (a : GooseApdu) (arrival : Nat) : m.keepsNumbers (m.subAccept i a arrival) := by
  unfold Mach.subAccept
  extract_lets old ms changed x y z
  have hx : m.keepsNumbers x := keepsNumbers_of_touch (Mach.onSub_touch ..) rfl
  have hset : x.keepsNumbers (x.setFld PUB_SUB_STS_state i 2) := keepsNumbers_set x _ i 2 rfl
  have hy : m.keepsNumbers y := (hx.trans hset).trans (keepsNumbers_of_touch (Mach.arm_touch ..) rfl)
  have hz : m.keepsNumbers z := hy.trans (keepsNumbers_of_touch (Mach.acqGoose_touch ..) rfl)
  split
  · exact hz.trans (keepsNumbers_of_touch (Mach.offerEvent_touch ..) rfl)
  · exact hz

theorem keepsNumbers_subCheck (m : Mach) (i : Nat) (a : GooseApdu) (arrival : Nat) : m.keepsNumbers (m.subCheck i a arrival) := by
  unfold Mach.subCheck
  split
  · exact keepsNumbers_set m _ 0 _ rfl
  · split
    · exact keepsNumbers_counted m (PUB_CNT_n.nth 11) 6 (.item i) rfl
    · split
      · exact keepsNumbers_set m _ 0 _ rfl
      · extract_lets old
        split
        · exact keepsNumbers_set m _ 0 _ rfl
        · exact keepsNumbers_subAccept m i a arrival

/-- What a subscription asks of a frame stands in the settings and the bulk objects in force. -/
theorem subMatches_congr {m m' : Mach} (hbulk : m'.bulkF = m.bulkF) (hforce : m'.force = m.force) (i : Nat) (a : GooseApdu) :
    subMatches m' i a = subMatches m i a := by
  unfold subMatches
  simp only [hbulk, cfg_of_force hforce]

section
variable {m : Mach} {i arrival : Nat} {a : GooseApdu}

/-- A frame that passes checks 5 to 8 is accepted. -/
theorem subCheck_accepts (hsim : a.sim = false) (hauth : m.on PUB_SUB_CTRL_auth i = false) (hmatch : subMatches m i a = true)
    (hnew : (subOf m i).seen = false ∨ (subOf m i).stNum ≠ a.stNum.toNat ∨ (subOf m i).sqNum < a.sqNum.toNat) :
    m.subCheck i a arrival = m.subAccept i a arrival := by
  have hfresh : ((subOf m i).seen && decide ((subOf m i).stNum = a.stNum.toNat) && decide (a.sqNum.toNat ≤ (subOf m i).sqNum)) = false := by
    simp only [Bool.and_eq_false_iff, decide_eq_false_iff_not, Nat.not_le]
    tauto
  unfold Mach.subCheck
  simp only [hsim, hauth, hmatch, hfresh, Bool.false_and, Bool.not_true, Bool.false_eq_true, if_false]

/-- An accepted frame makes its subscription Live, with its numbers and members. -/
theorem subAccept_shows : (m.subAccept i a arrival).fld PUB_SUB_STS_state i = 2 ∧ kget i (m.subAccept i a arrival).pub.subs
    = some { stNum := a.stNum.toNat, sqNum := a.sqNum.toNat, seen := true, members := testMembers a.sim a.members } := by
  unfold Mach.subAccept
  extract_lets old ms changed x y z
  have hstate : z.fld PUB_SUB_STS_state i = 2 := (fld_touch (Mach.acqGoose_touch ..) _ i rfl).trans (fld_set x _ _ _ rfl)
  have hsubs : kget i z.pub.subs = some { stNum := a.stNum.toNat, sqNum := a.sqNum.toNat, seen := true, members := ms } :=
    (congrArg (fun b : Pub => kget i b.subs) (pub_of_touch (Mach.acqGoose_touch y ..) rfl)).trans (kget_kput_same ..)
  have hoffer : ∀ e, (z.offerEvent e).pub.subs = z.pub.subs := fun e => by
    unfold Mach.offerEvent
    split
    · rfl
    · exact congrArg Pub.subs (pub_of_touch (Mach.deliverEvent_touch ..) rfl)
  split
  · exact ⟨(fld_touch (Mach.offerEvent_touch ..) _ i rfl).trans hstate, by rw [hoffer]; exact hsubs⟩
  · exact ⟨hstate, hsubs⟩

end

/-! ### Building (R202–R207, R220) -/

/-- A built frame carries its numbers into the block. -/
theorem buildGoose_numbers (m : Mach) (b st sq tal : Nat) (utc : Int) (changed : Bool) (tick : Nat) :
    (m.buildGoose b st sq tal utc changed tick).fld PUB_GCB_STNUM_n b = st % 2 ^ 32
      ∧ (m.buildGoose b st sq tal utc changed tick).fld PUB_GCB_SQNUM_n b = sq % 2 ^ 32 := by
  unfold Mach.buildGoose
  extract_lets -underBinder -merge -useContext +onlyGivenNames values body
  split
  next n k _ =>
  extract_lets -underBinder -merge -useContext +onlyGivenNames fr x f y
  have hst : x.fld PUB_GCB_STNUM_n b = st % 2 ^ 32 := (fld_set_clear _ _ _ _ _ _ rfl).trans (fld_set _ _ _ _ rfl)
  have hsq : x.fld PUB_GCB_SQNUM_n b = sq % 2 ^ 32 := fld_set _ _ _ _ rfl
  have hy : x.keepsNumbers y := by
    unfold y
    split
    · exact each_inv x.keepsNumbers _ _ x (fun i z hz => hz.trans (keepsNumbers_subCheck ..)) (keepsNumbers_refl x)
    · exact keepsNumbers_refl x
  have hsent := hy.trans (keepsNumbers_dispose y f changed tick)
  exact ⟨(hsent.stNum b).trans hst, (hsent.sqNum b).trans hsq⟩

/-- A number read from its register has a next one that fits there. -/
theorem nextNum_fits (m : Mach) (f : Fd) (i : Nat) (h : f.hi + 1 - f.lo = 32) : nextNum (m.fld f i) % 2 ^ 32 = nextNum (m.fld f i) := by
  have hlt : m.fld f i < 2 ^ 32 := h ▸ fld_lt m f i
  unfold nextNum
  split <;> omega

/-- The first output of a block is published with its next stNum and sqNum 0. -/
theorem buildOutput_fresh {m : Mach} {b : Nat} {o : Output} (hfresh : (gcbOf m b).fresh = true) : (m.buildOutput b o).2 = true
    ∧ (m.buildOutput b o).1.fld PUB_GCB_STNUM_n b = nextNum (m.fld PUB_GCB_STNUM_n b) ∧ (m.buildOutput b o).1.fld PUB_GCB_SQNUM_n b = 0 := by
  generalize hw : m.buildOutput b o = w
  unfold Mach.buildOutput at hw
  extract_lets -underBinder -merge -useContext +onlyGivenNames es g values x y z i0 u v at hw
  have hnew : (!g.fresh && values == g.members) = false := by
    rw [show g.fresh = true from hfresh]
    rfl
  rw [hnew, if_neg (by decide)] at hw
  subst hw
  have hx : m.keepsNumbers x := keepsNumbers_set m PUB_GCB_STS_gated b _ rfl
  have hy : m.keepsNumbers y := by
    unfold y
    split
    · exact hx.trans (keepsNumbers_event ..)
    · exact hx
  have hv : m.keepsNumbers v := ((hy.trans (keepsNumbers_of_touch (Mach.onGcb_touch ..) rfl)).trans
    (keepsNumbers_of_touch (Mach.onGcb_touch z ..) rfl)).trans (keepsNumbers_of_touch (Mach.schedule_touch u ..) rfl)
  obtain ⟨hst, hsq⟩ := buildGoose_numbers v b (nextNum (v.fld PUB_GCB_STNUM_n b)) 0 (talOf v i0) o.nominal true o.tick
  refine ⟨rfl, ?_, hsq⟩
  exact hst.trans ((nextNum_fits v PUB_GCB_STNUM_n b rfl).trans (congrArg nextNum (hv.stNum b)))

/-- The retransmission a block waits for is published with its stNum and the next sqNum. -/
theorem buildRetrans_due {m : Mach} {b k : Nat} (hdue : (gcbOf m b).due = some k) : (m.buildRetrans b k).2 = true
    ∧ (m.buildRetrans b k).1.fld PUB_GCB_STNUM_n b = m.fld PUB_GCB_STNUM_n b
    ∧ (m.buildRetrans b k).1.fld PUB_GCB_SQNUM_n b = nextNum (m.fld PUB_GCB_SQNUM_n b) := by
  generalize hw : m.buildRetrans b k = w
  unfold Mach.buildRetrans at hw
  extract_lets -underBinder -merge -useContext +onlyGivenNames g i x y at hw
  rw [if_neg (not_not.mpr hdue)] at hw
  subst hw
  have hy : m.keepsNumbers y := ((keepsNumbers_of_touch (Mach.onGcb_touch ..) rfl).trans
    (keepsNumbers_of_touch (Mach.schedule_touch x ..) rfl)).trans (keepsNumbers_set _ _ 0 _ rfl)
  obtain ⟨hst, hsq⟩ := buildGoose_numbers y b (y.fld PUB_GCB_STNUM_n b) (nextNum (y.fld PUB_GCB_SQNUM_n b)) (talOf y i) g.nominal false k
  refine ⟨rfl, ?_, ?_⟩
  · exact (hst.trans (Nat.mod_eq_of_lt (fld_lt y PUB_GCB_STNUM_n b))).trans (hy.stNum b)
  · exact hsq.trans ((nextNum_fits y PUB_GCB_SQNUM_n b rfl).trans (congrArg nextNum (hy.sqNum b)))

theorem fillBuild_none {m : Mach} (h : m.pub.behind = []) : m.fillBuild = m := by
  unfold Mach.fillBuild Mach.onPub
  dsimp only
  rw [h, List.foldl_nil, ← h]

/-- PUB with an empty build queue. -/
def Mach.dequeued (m : Mach) : Mach := m.onPub fun p => { p with queue := [] }

section
variable {m : Mach} {j : PubJob} (hqueue : m.pub.queue = [j]) (hbehind : m.pub.behind = [])
include hqueue hbehind

/-- The only work queued is the frame built next, where it gives one. -/
theorem pubBuild_one (hbuilt : (m.dequeued.pubWork j).2 = true) :
    m.pubBuild (m.pub.queue.length + m.pub.behind.length) = (m.dequeued.pubWork j).1 := by
  have hnext : nextJob m = some j := by
    unfold nextJob
    rw [hqueue]
    rfl
  have htaken : (m.onPub fun p => { p with queue := p.queue.erase j }).fillBuild = m.dequeued := by
    rw [fillBuild_none (m := m.onPub fun p => { p with queue := p.queue.erase j }) hbehind]
    unfold Mach.dequeued Mach.onPub
    dsimp only
    rw [hqueue, List.erase_cons_head]
  rw [hqueue, hbehind]
  show m.pubBuild (0 + 1) = _
  unfold Mach.pubBuild
  rw [hnext]
  dsimp only
  rw [htaken, if_pos hbuilt]

end

/-! ### The build queue (R202, R222) -/

section
variable {m : Mach} {b k : Nat} (hdue : (gcbOf m b).due = some k)
include hdue

/-- While its slot is due in between, a retransmission waits for the slot's output. -/
theorem retransDue_waits (hslot : dueBetween m (m.cfg PUB_GCB_CTRL_source b) (gcbOf m b).lastTick k = true) :
    m.retransDue b = m.onPub fun p => { p with waiting := p.waiting ++ [{ block := b, work := .retrans k }] } := by
  unfold Mach.retransDue
  rw [hdue]
  exact if_pos hslot

theorem retransDue_queues (hslot : dueBetween m (m.cfg PUB_GCB_CTRL_source b) (gcbOf m b).lastTick k = false) :
    m.retransDue b = m.pubQueue [{ block := b, work := .retrans k }] := by
  unfold Mach.retransDue
  rw [hdue]
  exact if_neg (by rw [hslot]; decide)

end

/-- The only work behind the queue takes an entry, or stays behind where its partition's share is full. -/
theorem fillBuild_one {m : Mach} {j : PubJob} (hbehind : m.pub.behind = [j]) {room : Bool}
    (hroom : decide (buildUse m m.pub.queue (m.cfg PUB_GCB_CTRL_owner j.block) < 2048 / division m) = room) :
    (m.fillBuild.pub.queue, m.fillBuild.pub.behind) = if room then (m.pub.queue ++ [j], []) else (m.pub.queue, [j]) := by
  have hnone : ∀ p, buildUse m [] p = 0 := fun _ => rfl
  unfold Mach.fillBuild Mach.onPub
  simp only [hbehind, List.foldl_cons, List.foldl_nil, hroom, hnone, beq_self_eq_true, Bool.and_true]
  cases room <;> rfl

/-- With no work behind the queue, new work takes an entry of its partition's share, or waits behind the queue (R222). -/
theorem pubQueue_one {m : Mach} (hbehind : m.pub.behind = []) (j : PubJob) {room : Bool}
    (hroom : decide (buildUse m m.pub.queue (m.cfg PUB_GCB_CTRL_owner j.block) < 2048 / division m) = room) :
    ((m.pubQueue [j]).pub.queue, (m.pubQueue [j]).pub.behind) = if room then (m.pub.queue ++ [j], []) else (m.pub.queue, [j]) := by
  have hone : (m.onPub fun b => { b with behind := b.behind ++ [j] }).pub.behind = [j] := congrArg (· ++ [j]) hbehind
  exact fillBuild_one hone hroom

/-- A retransmission that is due changes no register and no timer; it waits for an output that comes first, or is queued (R202, R205). -/
theorem retransDue_shows {m : Mach} {b k : Nat} (hdue : (gcbOf m b).due = some k) :
    (m.retransDue b).regs = m.regs ∧ (m.retransDue b).timers = m.timers
      ∧ if dueBetween m (m.cfg PUB_GCB_CTRL_source b) (gcbOf m b).lastTick k = true
        then (m.retransDue b).pub.waiting = m.pub.waiting ++ [{ block := b, work := .retrans k }] ∧ (m.retransDue b).pub.queue = m.pub.queue
        else (m.retransDue b).pub.waiting = m.pub.waiting ∧ (m.pub.behind = [] →
          (buildUse m m.pub.queue (m.cfg PUB_GCB_CTRL_owner b) < 2048 / division m →
              (m.retransDue b).pub.queue = m.pub.queue ++ [{ block := b, work := .retrans k }] ∧ (m.retransDue b).pub.behind = [])
            ∧ (2048 / division m ≤ buildUse m m.pub.queue (m.cfg PUB_GCB_CTRL_owner b) →
              (m.retransDue b).pub.queue = m.pub.queue ∧ (m.retransDue b).pub.behind = [{ block := b, work := .retrans k }])) := by
  cases hslot : dueBetween m (m.cfg PUB_GCB_CTRL_source b) (gcbOf m b).lastTick k with
  | true =>
    rw [retransDue_waits hdue hslot]
    exact ⟨rfl, rfl, rfl, rfl⟩
  | false =>
    rw [retransDue_queues hdue hslot]
    exact ⟨rfl, rfl, rfl, fun hbehind =>
      ⟨fun hroom => Prod.mk.inj (pubQueue_one hbehind { block := b, work := .retrans k } (decide_eq_true hroom)),
        fun hfull => Prod.mk.inj (pubQueue_one hbehind { block := b, work := .retrans k } (decide_eq_false (Nat.not_lt.mpr hfull)))⟩⟩

/-! ### The compare time (R214) -/

theorem compareOut_one {m : Mach} {f : Built} (hheld : m.pub.held = [f]) (hdue : f.due < m.now) :
    ∃ y : Mach, m.compareOut f.block = y.pubSend f ∧ y.pub.held = [] ∧ y.fld (PUB_CNT_n.nth 3) = (m.fld (PUB_CNT_n.nth 3) + 1) % 2 ^ 32
      ∧ y.evt 0x0C 3 = true ∧ y.deadline (.compare f.block) = none := by
  have hsplit : splitBy (fun g : Built => g.block = f.block && decide (g.due < m.now)) m.pub.held = ([f], []) := by
    simp [splitBy, hheld, hdue]
  unfold Mach.compareOut
  rw [hsplit]
  refine ⟨_, rfl, ?_, ?_, evt_event _ _ _ _ rfl, ?_⟩
  · rw [Mach.event_pub _ _ _ _ (by decide)]
    rfl
  · exact (fld_event _ _ _ _ _ _ rfl).trans (fld_count _ _ _ _ rfl)
  · exact (deadline_of_timers (Mach.event_timers _ _ _ _ (by decide)) _).trans (deadline_disarm_same ..)

/-! ### Checks 1 to 3 of a received frame (R223) -/

section
variable {m : Mach} {fr : Frame} {arrival : Nat}

theorem gooseRx_badFcs (h : fr.fcs ≠ .good) : m.gooseRx fr arrival = m.count (PUB_CNT_n.nth 7) :=
  if_pos (bne_iff_ne.mpr h)

variable {a : GooseApdu} (hfcs : fr.fcs = .good) (hbody : fr.body = .goose a)
include hfcs hbody

theorem gooseRx_badForm (h : fr.etype ≠ 0x88B8 ∨ fr.tag = .stacked ∨ a.lenOk = false ∨ a.ndsCom = true ∨ 0x4000 ≤ a.appid.toNat) :
    m.gooseRx fr arrival = m.count (PUB_CNT_n.nth 7) := by
  have hform : (fr.etype != 0x88B8 || fr.tag == .stacked || !a.lenOk || a.ndsCom || decide (0x4000 ≤ a.appid.toNat)) = true := by
    simp only [Bool.or_eq_true, bne_iff_ne, beq_iff_eq, Bool.not_eq_true', decide_eq_true_eq]
    tauto
  unfold Mach.gooseRx
  rw [hfcs, hbody]
  exact if_pos hform

variable (hetype : fr.etype = 0x88B8) (htag : fr.tag ≠ .stacked) (hlen : a.lenOk = true) (hnds : a.ndsCom = false) (happ : a.appid.toNat < 0x4000)
include hetype htag hlen hnds happ

/-- A frame of the right form is the module's own or goes to the subscriptions. -/
theorem gooseRx_goodForm : m.gooseRx fr arrival = if fr.src = macOf m PUB_TWIN_MAC_LO_lo PUB_TWIN_MAC_HI_hi 0
    then m.count (PUB_CNT_n.nth 8) else m.gooseCheck fr.dst a arrival := by
  have hform : (fr.etype != 0x88B8 || fr.tag == .stacked || !a.lenOk || a.ndsCom || decide (0x4000 ≤ a.appid.toNat)) = false := by
    simp only [Bool.or_eq_false_iff, bne_eq_false_iff_eq, beq_eq_false_iff_ne, Bool.not_eq_false', decide_eq_false_iff_not, Nat.not_le]
    exact ⟨⟨⟨⟨hetype, htag⟩, hlen⟩, hnds⟩, happ⟩
  unfold Mach.gooseRx
  rw [hfcs, hbody]
  exact if_neg (Bool.eq_false_iff.mp hform)

end

theorem gooseCheck_none {m : Mach} {dst : Mac} {a : GooseApdu} (arrival : Nat) (h : subsTo m dst a.appid.toNat = []) :
    m.gooseCheck dst a arrival = m.count (PUB_CNT_n.nth 9) := by
  unfold Mach.gooseCheck
  rw [h]

theorem gooseCheck_one {m : Mach} {dst : Mac} {a : GooseApdu} {i : Nat} (arrival : Nat) (h : subsTo m dst a.appid.toNat = [i]) :
    m.gooseCheck dst a arrival = m.subCheck i a arrival := by
  unfold Mach.gooseCheck
  rw [h]
  rfl

/-! ### The end of a TAL (R224) -/

theorem subExpire_shows (m : Mach) (i : Nat) : (m.subExpire i).fld PUB_SUB_STS_state i = 3
    ∧ (m.subExpire i).fld (PUB_CNT_n.nth 13) = (m.fld (PUB_CNT_n.nth 13) + 1) % 2 ^ 32 ∧ (m.subExpire i).evt 0x0C 5 = true := by
  unfold Mach.subExpire
  extract_lets b x
  have hoffer := fun e => Mach.offerEvent_touch x e
  refine ⟨?state, ?count, ?evt⟩
  case state =>
    exact (fld_touch (hoffer _) _ i rfl).trans ((fld_event _ _ _ _ _ _ rfl).trans ((fld_count_clear _ _ _ _ _ _ rfl).trans (fld_set _ _ _ _ rfl)))
  case count =>
    rw [fld_touch (hoffer _) _ 0 rfl]
    refine (fld_event _ _ _ _ _ _ rfl).trans ((fld_count _ _ _ _ rfl).trans ?_)
    rw [fld_set_clear _ _ _ _ _ _ rfl]
    rfl
  case evt => exact (evt_touch (hoffer _) 0x0C 5 rfl).trans (evt_event _ _ _ _ rfl)

/-- Settles O36: the work of PUB by what building one frame leaves, received frames by the checks they meet. -/
theorem publicationRuns : Obligations.PublicationRuns := by
  refine ⟨?idle, ?output, ?retrans, ?joining, ?due, ?compare, ?badFcs, ?badForm, ?own, ?unsubscribed, ?accepted, ?expires, ?lives⟩
  case idle =>
    intro s t hpow hqueue hbehind
    refine completes_run (f := fun m => m.pubBuild (m.pub.queue.length + m.pub.behind.length)) rfl hpow ?_
    show (s.m.advance t).pubBuild (s.m.pub.queue.length + s.m.pub.behind.length) = _
    rw [hqueue, hbehind]
    rfl
  case output =>
    intro s t j o hpow hqueue hbehind hwork hstate hfresh
    refine completes_run (f := fun m => m.pubBuild (m.pub.queue.length + m.pub.behind.length)) rfl hpow ?_
    have hdone : (s.m.advance t).dequeued.pubWork j = (s.m.advance t).dequeued.buildOutput j.block o := by
      unfold Mach.pubWork
      rw [hwork]
      exact if_neg (not_not.mpr hstate)
    obtain ⟨hbuilt, hnums⟩ := buildOutput_fresh (m := (s.m.advance t).dequeued) (o := o) hfresh
    rw [← hdone] at hbuilt hnums
    rw [pubBuild_one (m := s.m.advance t) hqueue hbehind hbuilt]
    exact hnums
  case retrans =>
    intro s t j k hpow hqueue hbehind hwork hstate hdue
    refine completes_run (f := fun m => m.pubBuild (m.pub.queue.length + m.pub.behind.length)) rfl hpow ?_
    have hdone : (s.m.advance t).dequeued.pubWork j = (s.m.advance t).dequeued.buildRetrans j.block k := by
      unfold Mach.pubWork
      rw [hwork]
      exact if_neg (not_not.mpr hstate)
    obtain ⟨hbuilt, hnums⟩ := buildRetrans_due (m := (s.m.advance t).dequeued) hdue
    rw [← hdone] at hbuilt hnums
    rw [pubBuild_one (m := s.m.advance t) hqueue hbehind hbuilt]
    exact hnums
  case joining =>
    intro s t b hpow hrole
    exact completes_run (f := fun m => if pubRole m = 5 then m else m.onExpiry (.retrans b) fun m => m.retransDue b) rfl hpow (if_pos hrole)
  case due =>
    intro s t b k hfires hrole hdue
    obtain ⟨hpow, hover⟩ := hfires
    refine completes_run (f := fun m => if pubRole m = 5 then m else m.onExpiry (.retrans b) fun m => m.retransDue b) rfl hpow ?_
    have hrun : (if pubRole (s.m.advance t) = 5 then s.m.advance t else (s.m.advance t).onExpiry (.retrans b) fun m => m.retransDue b)
        = ((s.m.advance t).disarm (.retrans b)).retransDue b := (if_neg hrole).trans (onExpiry_due _ _ _ hover)
    rw [hrun]
    obtain ⟨hregs, htimers, hwork⟩ := retransDue_shows (m := (s.m.advance t).disarm (.retrans b)) hdue
    exact ⟨(deadline_of_timers htimers _).trans (deadline_disarm_same ..), hregs, hwork⟩
  case compare =>
    intro s t b f hlapsed hheld hblock hdue
    obtain ⟨hpow, hpast⟩ := hlapsed
    refine completes_run (f := fun m => m.onPast (.compare b) fun m => m.compareOut b) rfl hpow ?_
    rw [Mach.onPast, if_pos hpast, ← hblock]
    exact compareOut_one (m := (s.m.advance t).disarm (.compare f.block)) hheld hdue
  case badFcs =>
    intro s t fr p ar hpow hfcs
    exact completes_run (f := fun m => m.gooseRx fr (min ar m.now)) rfl hpow (gooseRx_badFcs hfcs)
  case badForm =>
    intro s t fr p ar a hpow hfcs hbody hform
    exact completes_run (f := fun m => m.gooseRx fr (min ar m.now)) rfl hpow (gooseRx_badForm hfcs hbody hform)
  case own =>
    intro s t fr p ar a hpow hfcs hbody hetype htag hlen hnds happ hsrc
    refine completes_run (f := fun m => m.gooseRx fr (min ar m.now)) rfl hpow ?_
    exact (gooseRx_goodForm hfcs hbody hetype htag hlen hnds happ).trans (if_pos hsrc)
  case unsubscribed =>
    intro s t fr p ar a hpow hfcs hbody hetype htag hlen hnds happ hsrc hsubs
    refine completes_run (f := fun m => m.gooseRx fr (min ar m.now)) rfl hpow ?_
    exact (gooseRx_goodForm hfcs hbody hetype htag hlen hnds happ).trans ((if_neg hsrc).trans (gooseCheck_none _ hsubs))
  case accepted =>
    intro s t fr p ar i a hpow hfcs hbody hetype htag hlen hnds happ hsrc hsubs hsim hauth hmatch hnew
    refine completes_run (f := fun m => m.gooseRx fr (min ar m.now)) rfl hpow ?_
    have hmatched : subMatches (s.m.advance t) i a = true := (subMatches_congr (m := s.m) (m' := s.m.advance t) rfl rfl i a).trans hmatch
    have haccept : (s.m.advance t).gooseRx fr (min ar (s.m.advance t).now) = (s.m.advance t).subAccept i a (min ar (s.m.advance t).now) :=
      calc (s.m.advance t).gooseRx fr (min ar (s.m.advance t).now)
          = (s.m.advance t).gooseCheck fr.dst a (min ar (s.m.advance t).now) :=
            (gooseRx_goodForm hfcs hbody hetype htag hlen hnds happ).trans (if_neg hsrc)
        _ = (s.m.advance t).subCheck i a (min ar (s.m.advance t).now) := gooseCheck_one _ hsubs
        _ = _ := subCheck_accepts hsim hauth hmatched hnew
    rw [haccept]
    obtain ⟨hlive, hsub⟩ := subAccept_shows (m := s.m.advance t) (i := i) (a := a) (arrival := min ar (s.m.advance t).now)
    rw [hsim] at hsub
    exact ⟨hlive, hsub⟩
  case expires =>
    intro s t i hlapsed hfollower hjoining
    obtain ⟨hpow, hpast⟩ := hlapsed
    refine completes_run (f := fun m => if pubRole m = 2 ∨ pubRole m = 5 then m else m.onPast (.tal i) fun m => m.subExpire i) rfl hpow ?_
    have hrole : ¬ (pubRole (s.m.advance t) = 2 ∨ pubRole (s.m.advance t) = 5) := not_or.mpr ⟨hfollower, hjoining⟩
    rw [if_neg hrole, Mach.onPast, if_pos hpast]
    exact subExpire_shows ((s.m.advance t).disarm (.tal i)) i
  case lives =>
    intro s t i hpow hstays
    refine completes_run (f := fun m => if pubRole m = 2 ∨ pubRole m = 5 then m else m.onPast (.tal i) fun m => m.subExpire i) rfl hpow ?_
    by_cases hrole : pubRole (s.m.advance t) = 2 ∨ pubRole (s.m.advance t) = 5
    · exact if_pos hrole
    · obtain ⟨hfollower, hjoining⟩ := not_or.mp hrole
      have hpast : (s.m.advance t).past (.tal i) = false := (hstays.resolve_left hfollower).resolve_left hjoining
      rw [if_neg hrole, Mach.onPast, hpast, if_neg (by decide)]

end Sys2Proof.Machine


/-! # The life of a partition -/

namespace Sys2Proof.Machine

/-! ### VRT_CMD (R259, R277, R280) -/

/-- The word of VRT_CMD: a slot of the partition, the partition, and what is asked for it. -/
def vrtWord (slot part op : Nat) : Nat := slot * 65536 + part * 256 + op

section
variable {slot part op : Nat} (hslot : slot < 64) (hpart : part < 64) (hop : op < 8)
include hslot hpart hop

/-- The word has no bit outside the fields of VRT_CMD. -/
theorem vrtWord_fields : (vrtWord slot part op).land 0xFFC0C0F8 = 0 := by
  have hword : vrtWord slot part op = 2 ^ 16 * slot + (2 ^ 8 * part + op) := by
    unfold vrtWord
    ring
  have hlow : 2 ^ 8 * part + op < 2 ^ 16 := by omega
  refine Nat.eq_of_testBit_eq fun i => ?_
  show (vrtWord slot part op &&& 0xFFC0C0F8).testBit i = _
  rw [Nat.testBit_and, hword, Nat.testBit_two_pow_mul_add _ hlow, Nat.testBit_two_pow_mul_add _ (by omega : op < 2 ^ 8)]
  have above : ∀ {x w n : Nat}, x < 2 ^ w → w ≤ n → x.testBit n = false := fun hx hn =>
    Nat.testBit_lt_two_pow (hx.trans_le (Nat.pow_le_pow_right (by decide) hn))
  have hin : i < 3 ∨ (8 ≤ i ∧ i < 14) ∨ (16 ≤ i ∧ i < 22) → Nat.testBit 0xFFC0C0F8 i = false := by
    rintro (h | ⟨_, _⟩ | ⟨_, _⟩) <;> interval_cases i <;> rfl
  rw [Nat.zero_testBit, Bool.and_eq_false_iff, or_iff_not_imp_right]
  intro hout
  have hnot := mt hin hout
  split
  · split
    · exact above (w := 3) hop (by omega)
    · exact above (w := 6) hpart (by omega)
  · exact above (w := 6) hslot (by omega)

/-- Nothing but its source can reject the word. -/
theorem plainCmd_vrt : plainCmd 0x32 0x04C (vrtWord slot part op) = true := by
  have hmask := vrtWord_fields hslot hpart hop
  have hlt : vrtWord slot part op < 2 ^ 32 := by
    unfold vrtWord
    omega
  generalize vrtWord slot part op = v at hmask hlt
  -- What the check asks beside these two is of the register's row alone.
  show (true && (true && (true && (v.land 0xFFC0C0F8 == 0) && true && true && decide (v < 2 ^ 32)))) = true
  rw [hmask, decide_eq_true hlt]
  rfl

end

theorem vrtWord_part {slot part op : Nat} (hpart : part < 64) (hop : op < 8) : bits (vrtWord slot part op) 13 8 = part := by
  unfold bits vrtWord
  omega

theorem vrtWord_slot {slot part op : Nat} (hslot : slot < 64) (hpart : part < 64) (hop : op < 8) : bits (vrtWord slot part op) 21 16 = slot := by
  unfold bits vrtWord
  omega

theorem vrtWord_bit (slot part : Nat) {op n : Nat} (hop : op < 8) (hn : n < 8) : bit (vrtWord slot part op) n = bit op n := by
  have hword : vrtWord slot part op = 2 ^ 8 * (2 ^ 8 * slot + part) + op := by
    unfold vrtWord
    ring
  rw [bit_testBit, bit_testBit, hword, Nat.testBit_two_pow_mul_add _ (by omega), if_pos hn]

section
variable (m : Mach) {p f : Nat} (hp : p < 64)
include hp

theorem vrtCommand_reset : m.vrtCommand (vrtWord 0 p 1) = m.partReset p := by
  unfold Mach.vrtCommand
  simp (disch := omega) only [vrtWord_part, vrtWord_bit]
  rfl

theorem vrtCommand_start : m.vrtCommand (vrtWord 0 p 2) = m.partStart p := by
  unfold Mach.vrtCommand
  simp (disch := omega) only [vrtWord_part, vrtWord_bit]
  rfl

theorem vrtCommand_slotReset (hf : f < 64) : m.vrtCommand (vrtWord f p 4) = m.slotReset (p * 64 + f) := by
  unfold Mach.vrtCommand
  simp (disch := omega) only [vrtWord_part, vrtWord_slot, vrtWord_bit]
  rfl

end

section
variable {m k : Mach} (h : m.alike k)
include h

theorem alike_partState (p : Nat) : k.partState p = m.partState p := alike_fld h _ _ (by decide) (by decide)

theorem alike_now : k.now = m.now := (congrArg Mach.now h.1 :)

theorem alike_force : k.force = m.force := (congrArg Mach.force h.1 :)

theorem alike_dsp : k.dsp = m.dsp := (congrArg Mach.dsp h.1 :)

theorem alike_parts : k.parts = m.parts := (congrArg Mach.parts h.1 :)

end

/-- A command that is a write of VRT_CMD, from what the word does to the module as the write finds it and the audit record then leaves. -/
theorem completes_vrtCommand {c : Instr} {s : State} {t : Nat} {src : Src} {slot part op : Nat} {f : Mach → Mach} {P : Mach → Prop}
    (h : exec c s = s.run t fun m => m.put src 0x32 0x04C (vrtWord slot part op)) (hpow : s.m.powered = true) (hsrc : s.m.mayWrite src)
    (hslot : slot < 64) (hpart : part < 64) (hop : op < 8) (hf : ∀ m : Mach, m.vrtCommand (vrtWord slot part op) = f m)
    (hP : ∀ k, (s.m.advance t).alike k → ∀ m', (f k).touch 0x3008 0 m' → P m') : Completes c s P := by
  refine completes_put h hpow hsrc (plainCmd_vrt hslot hpart hop) fun k i hk _ => ?_
  have hact : k.act src 0x32 0x04C i (vrtWord slot part op) = f k := hf k
  rw [hact]
  exact hP k hk _ (Mach.auditWrite_touch ..)

section
variable {s : State} {t : Nat} {src : Src} {P : Mach → Prop} (hpow : s.m.powered = true) (hsrc : s.m.mayWrite src)
include hpow hsrc

theorem completes_partitionStart (p : Fin 64) (hP : ∀ k, (s.m.advance t).alike k → ∀ m', (k.partStart p).touch 0x3008 0 m' → P m') :
    Completes (.partitionStart t src p) s P := by
  have hexec : exec (.partitionStart t src p) s = s.run t fun m => m.put src 0x32 0x04C (vrtWord 0 p 2) := by
    rw [vrtWord, Nat.zero_mul, Nat.zero_add]
    rfl
  exact completes_vrtCommand hexec hpow hsrc (by decide) p.isLt (by decide) (fun m => vrtCommand_start m p.isLt) hP

theorem completes_partitionReset (p : Fin 64) (hP : ∀ k, (s.m.advance t).alike k → ∀ m', (k.partReset p).touch 0x3008 0 m' → P m') :
    Completes (.partitionReset t src p) s P := by
  have hexec : exec (.partitionReset t src p) s = s.run t fun m => m.put src 0x32 0x04C (vrtWord 0 p 1) := by
    rw [vrtWord, Nat.zero_mul, Nat.zero_add]
    rfl
  exact completes_vrtCommand hexec hpow hsrc (by decide) p.isLt (by decide) (fun m => vrtCommand_reset m p.isLt) hP

theorem completes_slotReset (slot : Fin 4096) (hP : ∀ k, (s.m.advance t).alike k → ∀ m', (k.slotReset slot).touch 0x3008 0 m' → P m') :
    Completes (.slotReset t src slot) s P := by
  have hexec : exec (.slotReset t src slot) s = s.run t fun m => m.put src 0x32 0x04C (vrtWord (slot.val % 64) (slot.val / 64) 4) := rfl
  have hslot : slot.val / 64 * 64 + slot.val % 64 = slot := Nat.div_add_mod' ..
  have hword : ∀ m : Mach, m.vrtCommand (vrtWord (slot.val % 64) (slot.val / 64) 4) = m.slotReset slot := fun m => by
    rw [vrtCommand_slotReset m (by omega) (by omega), hslot]
  exact completes_vrtCommand hexec hpow hsrc (by omega) (by omega) (by decide) hword hP

end

/-! ### Start (R256, R259) -/

/-- What the start check asks stands in the settings in force and in the partition's own state. -/
theorem startCheck_congr {a b : Mach} (hforce : b.force = a.force) (hparts : b.parts = a.parts) (p : Nat) : startCheck b p = startCheck a p := by
  unfold startCheck covered regionsOf
  simp only [part_of_parts hparts, cfg_of_force hforce, on_of_force hforce]

section
variable {m : Mach} {p : Nat}

theorem partStart_stays (h : m.partState p ≠ psStopped) : m.partStart p = m := if_pos h

theorem partStart_fails (hstopped : m.partState p = psStopped) (hcheck : startCheck m p = false) :
    m.partStart p = m.eventAlways 0x32 6 (.part p) := by
  unfold Mach.partStart
  rw [if_neg (not_not.mpr hstopped), if_neg (Bool.eq_false_iff.mp hcheck)]

theorem partStart_starts (hstopped : m.partState p = psStopped) (hcheck : startCheck m p = true) :
    (m.partStart p).partState p = psActive ∧ (m.partStart p).fld RIM_STS_dbg = min 1 (m.fld RIM_STS_dbg) := by
  have heq : m.partStart p = (m.enterActive p).each ((List.range 64).map fun f => p * 64 + f) fun s m => m.startLater s := by
    unfold Mach.partStart
    rw [if_neg (not_not.mpr hstopped), if_pos hcheck]
  have hlater : (m.enterActive p).touch 0x400000 0 (m.partStart p) :=
    heq ▸ touch_each (touch_refl ..) fun s _ hx => touch_app hx (Mach.startLater_touch _ s) rfl rfl
  rw [partState_of_touch hlater rfl, fld_touch hlater RIM_STS_dbg 0 rfl]
  refine ⟨(fld_set_clear _ _ _ _ _ _ rfl).trans (fld_set _ _ _ _ rfl), (fld_set _ _ _ _ rfl).trans (Nat.mod_eq_of_lt ?_)⟩
  exact (Nat.min_le_left ..).trans_lt (by decide)

end

/-! ### Reset (R276–R278) -/

section
variable {m : Mach} {p : Nat}

theorem partReset_stays (h : m.partState p = 0 ∨ m.partState p = psResetting) : m.partReset p = m := if_pos h

/-- What the dispatcher counts for its jobs is a matter of what it holds, of the instant and of the partitions' states. -/
theorem runJobs_dsp_congr {a b : Mach} (hnow : b.now = a.now) (hstate : ∀ q, b.partState q = a.partState q) (hdsp : b.dsp = a.dsp) :
    b.runJobs.dsp = a.runJobs.dsp := by
  unfold Mach.runJobs Mach.onDsp
  simp only [jobRuns_congr hstate (congrArg Dsp.jobs hdsp) (congrArg Dsp.mgrOpen hdsp), hdsp, hnow]

/-- The dispatcher without what it holds of a partition. -/
def Dsp.without (d : Dsp) (p : Nat) : Dsp :=
  { d with
    jobs := d.jobs.filter fun j => !(j.slot / 64 == p), deferred := d.deferred.filter fun x => !(x.slot / 64 == p)
    held := d.held.filter fun h => !(h.1 / 64 == p), outQ := d.outQ.filter fun o => !(o.slot / 64 == p)
    lastRel := d.lastRel.filter fun e => !(e.1 / 64 == p) }

/-- A reset fences the partition, counts, and drops what the dispatcher holds of it; final messages and the end of a copy follow. -/
theorem partReset_resets (hon : m.partState p ≠ 0) (hrun : m.partState p ≠ psResetting) :
    (m.partReset p).partState p = psResetting ∧ (m.partReset p).fld VRT_CNT_n = (m.fld VRT_CNT_n + 1) % 2 ^ 32
      ∧ (m.partReset p).evt 0x32 0 = true ∧ (m.partReset p).dsp = m.runJobs.dsp.without p := by
  generalize hw : m.partReset p = w
  unfold Mach.partReset at hw
  extract_lets -underBinder -merge -useContext +onlyGivenNames st frozen x y mine slots late z a b c d at hw
  rw [if_neg (not_or.mpr ⟨hon, hrun⟩)] at hw
  have hx : m.touch 0x118 0x8000000000000 x := by
    unfold x
    split
    · exact touch_app (touch_mono (Mach.restoreMap_touch m p) rfl rfl) (Mach.disarm_touch ..) rfl rfl
    · exact touch_refl ..
  have hdsp : x.runJobs.dsp = m.runJobs.dsp :=
    runJobs_dsp_congr (now_of_touch hx rfl) (partState_of_touch hx rfl) (dsp_of_touch hx rfl)
  have hrest : z.touch 0x3f84b908 0x32ffff00071200 w := by
    have ha : z.touch 0x3f84b908 0x32ffff00071200 a := touch_each (touch_refl ..) fun _ _ hy => touch_app hy (Mach.disarm_touch ..) rfl rfl
    have hb : z.touch 0x3f84b908 0x32ffff00071200 b := touch_each ha fun _ _ hy => touch_app hy (Mach.showJobs_touch ..) rfl rfl
    have hd : z.touch 0x3f84b908 0x32ffff00071200 d := touch_app (touch_app hb (Mach.onPart_touch ..) rfl rfl) (Mach.pubFinal_touch ..) rfl rfl
    exact hw ▸ touch_app hd (Mach.failCopy_touch ..) rfl rfl
  refine ⟨?state, ?count, ?evt, ?drops⟩
  case state =>
    calc w.partState p = y.partState p := (partState_of_touch hrest rfl p).trans (fld_onDsp ..)
      _ = psResetting := (fld_event _ _ _ _ _ _ rfl).trans ((fld_count_clear _ _ _ _ _ _ rfl).trans (fld_set _ _ _ _ rfl))
  case count =>
    calc w.fld VRT_CNT_n = y.fld VRT_CNT_n := (fld_touch hrest _ 0 rfl).trans (fld_onDsp ..)
      _ = ((x.runJobs.setFld VRT_PART_STS_state p psResetting).fld VRT_CNT_n + 1) % 2 ^ 32 := (fld_event _ _ _ _ _ _ rfl).trans (fld_count _ _ _ _ rfl)
      _ = (x.fld VRT_CNT_n + 1) % 2 ^ 32 := by rw [fld_set_clear _ _ _ _ _ _ rfl]; rfl
      _ = (m.fld VRT_CNT_n + 1) % 2 ^ 32 := by rw [fld_touch hx VRT_CNT_n 0 rfl]
  case evt =>
    calc w.evt 0x32 0 = y.evt 0x32 0 := evt_touch hrest 0x32 0 rfl
      _ = true := evt_event _ _ _ _ rfl
  case drops =>
    calc w.dsp = y.dsp.without p := dsp_of_touch hrest rfl
      _ = x.runJobs.dsp.without p := congrArg (Dsp.without · p) (Mach.event_dsp _ _ _ _ (by decide))
      _ = m.runJobs.dsp.without p := by rw [hdsp]

end

/-! ### The end of a reset (R277) -/

theorem showInflight_state (m : Mach) (p q : Nat) : (m.showInflight p).partState q = m.partState q := by
  unfold Mach.showInflight
  extract_lets xs tags x y z
  have hx : x.partState q = m.partState q := (fld_set_clear _ _ _ _ _ _ rfl).trans (fld_set_clear _ _ _ _ _ _ rfl)
  have hz : z.partState q = m.partState q := (fld_set_clear _ _ _ _ _ _ rfl).trans ((fld_set_clear _ _ _ _ _ _ rfl).trans ((fld_set_clear _ _ _ _ _ _ rfl).trans hx))
  split
  · exact (fld_flag_clear _ _ _ _ _ _ rfl).trans hz
  · exact hz

section
variable {m : Mach} {p : Nat}

theorem partResetDone_waits (h : m.partState p ≠ psResetting ∨ (m.part p).xfers ≠ []) : m.partResetDone p = m := by
  refine if_neg fun hdone => ?_
  obtain ⟨hstate, hxfers⟩ := hdone
  exact h.elim (· hstate) (· (List.isEmpty_iff.mp hxfers))

/-- The own state of a partition whose reset ends (R277 step 6, R409). -/
def resetPart (b : Part) (burst : Nat) : Part :=
  { b with
    cmdProd := 0, cmdCons := 0, cplProd := 0, cplCons := 0, irqPend := 0, irqSent := 0, irqFast := 0, irqWait := [], irqHeld := 0
    busyXfr := 0, busyDsp := 0, drop := 0, gmerge := 0, rej := 0, goOff := false, rings := b.rings.map fun r => (r.1, { r.2 with prod := 0, cons := 0 })
    tokens := burst }

theorem partResetDone_ends (hstate : m.partState p = psResetting) (hxfers : (m.part p).xfers = []) :
    (m.partResetDone p).partState p = (if (m.part p).goOff then 0 else psStopped) ∧ (m.partResetDone p).evt 0x32 1 = true
      ∧ (m.partResetDone p).part p = resetPart (m.part p) (m.cfg IRQ_PART_burst p) := by
  generalize hw : m.partResetDone p = w
  unfold Mach.partResetDone at hw
  extract_lets -underBinder -merge -useContext +onlyGivenNames off x y z a b at hw
  rw [if_pos ⟨hstate, List.isEmpty_iff.mpr hxfers⟩] at hw
  subst hw
  have hslots : a.touch 0x400008 0x200 b := touch_each (touch_refl ..) fun s _ hv =>
    touch_app (touch_app hv (Mach.slotCounters_touch _ s) rfl rfl) (Mach.startLater_touch _ s) rfl rfl
  refine ⟨?state, evt_eventAlways _ _ _ _ rfl, ?part⟩
  case state =>
    calc (b.eventAlways 0x32 1 (.part p)).partState p = b.partState p := fld_eventAlways _ _ _ _ _ _ rfl
      _ = a.partState p := partState_of_touch hslots rfl p
      _ = (z.setFld VRT_PART_STS_state p (if off then 0 else psStopped)).partState p := showInflight_state ..
      _ = (if off then 0 else psStopped) := (fld_set _ _ _ _ rfl).trans (by split <;> rfl)
  case part =>
    have hparts : (b.eventAlways 0x32 1 (.part p)).parts = y.parts :=
      (parts_of_touch (Mach.eventAlways_touch (P := 0x4000000000000) b 0x32 1 (.part p) rfl (by decide)) rfl).trans
        ((parts_of_touch hslots rfl).trans (showInflight_parts ..))
    rw [part_of_parts hparts p, part_onPart]
    show { x.part p with tokens := x.cfg IRQ_PART_burst p } = _
    have hx : x.part p = resetPart (m.part p) (m.part p).tokens := part_onPart m p fun b => resetPart b b.tokens
    rw [hx]
    rfl

end

/-! ### The reset of a slot (R280) -/

/-- The jobs of a slot are a list of ticks, which the end of its oldest job shortens by the first. -/
theorem ticks_eraseP {s t : Nat} {ts : List Nat} (l : List Job) (h : (l.filter fun j => decide (j.slot = s)).map Job.tick = t :: ts) :
    ((l.eraseP fun j => j.slot == s && j.tick == t).filter fun j => decide (j.slot = s)).map Job.tick = ts := by
  induction l with
  | nil => simp at h
  | cons j l ih =>
    by_cases hj : j.slot = s
    · rw [List.filter_cons_of_pos (by simp [hj]), List.map_cons, List.cons.injEq] at h
      obtain ⟨htick, hrest⟩ := h
      rw [List.eraseP_cons_of_pos (by simp [hj, htick])]
      exact hrest
    · rw [List.filter_cons_of_neg (by simp [hj])] at h
      rw [List.eraseP_cons_of_neg (by simp [hj]), List.filter_cons_of_neg (by simp [hj])]
      exact ih h

theorem runJobs_ticks (m : Mach) (s : Nat) : (jobsOf m.runJobs s).map Job.tick = (jobsOf m s).map Job.tick := by
  show (((m.dsp.jobs.map _).filter fun j : Job => decide (j.slot = s)).map Job.tick) = ((m.dsp.jobs.filter fun j => decide (j.slot = s)).map Job.tick)
  rw [List.filter_map, List.map_map]
  have hslot : ∀ j : Job, (if jobRuns m j then { j with exec := j.exec + (m.now - m.dsp.ranAt) } else j).slot = j.slot := fun j => by split <;> rfl
  have htick : ∀ j : Job, (if jobRuns m j then { j with exec := j.exec + (m.now - m.dsp.ranAt) } else j).tick = j.tick := fun j => by split <;> rfl
  simp only [Function.comp_def, hslot, htick]

/-- Every job of a slot ended in turn leaves none. -/
theorem jobsOf_each_end {s : Nat} (l : List Job) (m : Mach) (hslot : ∀ j ∈ l, j.slot = s) (hticks : (jobsOf m s).map Job.tick = l.map Job.tick) :
    jobsOf (m.each l fun j m => (m.endJob j).noRelease s j.tick) s = [] := by
  induction l generalizing m with
  | nil => exact List.map_eq_nil_iff.mp hticks
  | cons j l ih =>
    refine ih _ (fun x hx => hslot x (List.mem_cons_of_mem _ hx)) ?_
    have hj : j.slot = s := hslot j List.mem_cons_self
    have hjobs : ((m.endJob j).noRelease s j.tick).dsp.jobs = m.runJobs.dsp.jobs.eraseP fun x => x.slot == s && x.tick == j.tick := by
      rw [(keepsDsp_noRelease (m.endJob j) s j.tick).jobs, ← hj]
      rfl
    unfold jobsOf at hticks ⊢
    rw [hjobs]
    exact ticks_eraseP _ ((runJobs_ticks m s).trans hticks)

theorem dropDeferred_jobs (m : Mach) (s : Nat) : (m.dropDeferred s).dsp.jobs = m.dsp.jobs := by
  unfold Mach.dropDeferred
  split
  · exact (keepsDsp_noRelease ..).jobs
  · rfl

section
variable {m : Mach} {s : Nat}

theorem slotReset_stays (h : m.partState (s / 64) ≠ psActive) : m.slotReset s = m := if_neg h

theorem slotReset_resets (h : m.partState (s / 64) = psActive) :
    jobsOf (m.slotReset s) s = [] ∧ (m.slotReset s).fld DSP_SLOT_STS_consec s = 0 ∧ (m.slotReset s).evt 0x32 2 = true
      ∧ (m.slotReset s).partState (s / 64) = psActive := by
  generalize hw : m.slotReset s = w
  unfold Mach.slotReset at hw
  extract_lets -underBinder -merge -useContext +onlyGivenNames p x y z at hw
  rw [if_pos h] at hw
  subst hw
  have hx : m.touch 0xc00108 0x1200 x := touch_each (touch_refl ..) fun j v hv =>
    touch_app (touch_app hv (Mach.endJob_touch ..) rfl rfl) (Mach.noRelease_touch ..) rfl rfl
  have hz : m.touch 0x2c00108 0x1200 z :=
    touch_app (touch_app (touch_mono hx rfl rfl) (Mach.dropDeferred_touch ..) rfl rfl) (Mach.onRing_touch ..) rfl rfl
  have hk : z.touch 0x400008 0x200 ((z.slotCounters s).startLater s) :=
    touch_app (touch_mono (Mach.slotCounters_touch ..) rfl rfl) (Mach.startLater_touch ..) rfl rfl
  refine ⟨?jobs, ?consec, evt_event _ _ _ _ rfl, ?state⟩
  case jobs =>
    have hjobs : (((z.slotCounters s).startLater s).event 0x32 2 (.slot s)).dsp.jobs = x.dsp.jobs :=
      (congrArg Dsp.jobs (Mach.event_dsp _ _ _ _ (by decide))).trans (dropDeferred_jobs x s)
    have hnone : jobsOf x s = [] := jobsOf_each_end (jobsOf m s) m (fun j hj => by simpa [jobsOf] using (List.mem_filter.mp hj).2) rfl
    unfold jobsOf at hnone ⊢
    rw [hjobs]
    exact hnone
  case consec => exact (fld_event _ _ _ _ _ _ rfl).trans ((fld_onDsp ..).trans (fld_set _ _ _ _ rfl))
  case state =>
    exact (fld_event _ _ _ _ _ _ rfl).trans ((partState_of_touch hk rfl _).trans ((partState_of_touch hz rfl _).trans h))

end

/-- Settles O34: a start, a reset and a slot reset by what VRT_CMD does to the module it finds, the end of a reset by its own stages. -/
theorem partitionsStartAndReset : Obligations.PartitionsStartAndReset := by
  refine ⟨?starts, ?fails, ?otherStart, ?resets, ?otherReset, ?ends, ?waits, ?slot, ?otherSlot⟩
  case starts =>
    intro s t src p hpow hsrc hstopped hcheck
    refine completes_partitionStart hpow hsrc p fun k hk m' hm' => ?_
    obtain ⟨hactive, hdbg⟩ := partStart_starts ((alike_partState hk p).trans hstopped)
      ((startCheck_congr (a := s.m) (alike_force hk :) (alike_parts hk :) p).trans hcheck)
    refine ⟨(partState_of_touch hm' rfl p).trans hactive, ?_, ?_⟩
    · rw [fld_touch hm' RIM_STS_dbg 0 rfl, hdbg, alike_fld hk RIM_STS_dbg 0 (by decide) (by decide)]
      rfl
    · exact (parts_of_touch hm' rfl).trans ((parts_of_touch (Mach.partStart_touch k p) rfl).trans (alike_parts hk :))
  case fails =>
    intro s t src p hpow hsrc hstopped hcheck
    refine completes_partitionStart hpow hsrc p fun k hk m' hm' => ?_
    have hstopped' : k.partState p = psStopped := (alike_partState hk p).trans hstopped
    rw [partStart_fails hstopped' ((startCheck_congr (a := s.m) (alike_force hk :) (alike_parts hk :) p).trans hcheck)] at hm'
    refine ⟨?_, (evt_touch hm' 0x32 6 rfl).trans (evt_eventAlways _ _ _ _ rfl), ?_⟩
    · exact (partState_of_touch hm' rfl p).trans ((fld_eventAlways _ _ _ _ _ _ rfl).trans hstopped')
    · have hevent := Mach.eventAlways_touch (P := 0x4000000000000) k 0x32 6 (.part p) rfl (by decide)
      exact (parts_of_touch hm' rfl).trans ((parts_of_touch hevent rfl).trans (alike_parts hk :))
  case otherStart =>
    intro s t src p hpow hsrc hother
    refine completes_partitionStart hpow hsrc p fun k hk m' hm' => ?_
    rw [partStart_stays (mt (alike_partState hk p).symm.trans hother)] at hm'
    exact ⟨(partState_of_touch hm' rfl p).trans (alike_partState hk p), (parts_of_touch hm' rfl).trans (alike_parts hk :)⟩
  case resets =>
    intro s t src p hpow hsrc hon hrun
    refine completes_partitionReset hpow hsrc p fun k hk m' hm' => ?_
    have hstate : k.partState p = s.m.partState p := alike_partState hk p
    obtain ⟨hresetting, hcount, hevt, hdrops⟩ := partReset_resets (hstate ▸ hon) (hstate ▸ hrun)
    have hdsp : m'.dsp = (s.m.advance t).runJobs.dsp.without p := by
      rw [dsp_of_touch hm' rfl, hdrops, runJobs_dsp_congr (alike_now hk) (alike_partState hk) (alike_dsp hk)]
    refine ⟨(partState_of_touch hm' rfl p).trans hresetting, ?_, (evt_touch hm' 0x32 0 rfl).trans hevt, ?_, ?_, ?_⟩
    · rw [fld_touch hm' VRT_CNT_n 0 rfl, hcount, alike_fld hk VRT_CNT_n 0 (by decide) (by decide)]
      rfl
    · exact congrArg Dsp.jobs hdsp
    · exact congrArg Dsp.deferred hdsp
    · exact congrArg Dsp.held hdsp
  case otherReset =>
    intro s t src p hpow hsrc hother
    refine completes_partitionReset hpow hsrc p fun k hk m' hm' => ?_
    have hstate : k.partState p = s.m.partState p := alike_partState hk p
    rw [partReset_stays (hstate ▸ hother)] at hm'
    exact ⟨(partState_of_touch hm' rfl p).trans hstate, (dsp_of_touch hm' rfl).trans (alike_dsp hk :), (parts_of_touch hm' rfl).trans (alike_parts hk :)⟩
  case ends =>
    intro s t p hpow hstate hxfers
    refine completes_run (f := fun m => m.partResetDone p) rfl hpow ?_
    obtain ⟨hstopped, hevt, hpart⟩ := partResetDone_ends (m := s.m.advance t) hstate hxfers
    rw [hpart]
    exact ⟨hstopped, hevt, rfl, rfl, rfl, rfl, rfl⟩
  case waits =>
    intro s t p hpow hwaits
    exact completes_run (f := fun m => m.partResetDone p) rfl hpow (partResetDone_waits (m := s.m.advance t) hwaits)
  case slot =>
    intro s t src slot hpow hsrc hactive
    refine completes_slotReset hpow hsrc slot fun k hk m' hm' => ?_
    obtain ⟨hjobs, hconsec, hevt, hstate⟩ := slotReset_resets ((alike_partState hk _).trans hactive)
    refine ⟨?_, (fld_touch hm' _ _ rfl).trans hconsec, (evt_touch hm' 0x32 2 rfl).trans hevt, (partState_of_touch hm' rfl _).trans hstate⟩
    unfold jobsOf at hjobs ⊢
    rw [dsp_of_touch hm' rfl]
    exact hjobs
  case otherSlot =>
    intro s t src slot hpow hsrc hother
    refine completes_slotReset hpow hsrc slot fun k hk m' hm' => ?_
    rw [slotReset_stays (mt (alike_partState hk _).symm.trans hother)] at hm'
    exact ⟨(dsp_of_touch hm' rfl).trans (alike_dsp hk :), (parts_of_touch hm' rfl).trans (alike_parts hk :)⟩

end Sys2Proof.Machine

/-! # The lanes of Plait -/

namespace Sys2Proof.Machine

/-! ### A lane and its header (R229, R231) -/

/-- A lane from which a frame has left: its numbers go on, and the frame waits for its acknowledgement. -/
def Lane.sent (b : Lane) (link tries now : Nat) (x : PlaitMsg) : Lane := { b with
  txSeq := (b.txSeq + 1) % 2 ^ 16, txPn := b.txPn + 1
  unacked := b.unacked ++ [{ seq := b.txSeq, link := link, tries := tries, sentAt := now, msg := x }] }

/-- A lane that has stopped: numbers, handshake and unacknowledged frames are gone; lock and packet numbers stay. -/
def Lane.stopped (b : Lane) : Lane :=
  { b with held := false, txHello := false, rxHello := false, txSeq := 0, rxSeq := 0, unacked := [] }

section
variable {m m' : Mach} {l : Nat} {A P : Nat}

theorem laneOf_onLane_same (m : Mach) (hl : l < 2) (f : Lane → Lane) : laneOf (m.onLane l f) l = f (laneOf m l) := by
  rw [laneOf_onLane m l l hl hl, if_pos rfl]

theorem laneOf_onLane_other (m : Mach) {k : Nat} (hl : l < 2) (hk : k < 2) (hkl : k ≠ l) (f : Lane → Lane) :
    laneOf (m.onLane l f) k = laneOf m k := by
  rw [laneOf_onLane m l k hl hk, if_neg hkl]

theorem onLane_congr {f g : Lane → Lane} (h : f (laneOf m l) = g (laneOf m l)) : m.onLane l f = m.onLane l g := by
  unfold Mach.onLane Mach.onTwn
  unfold laneOf at h
  split at h
  · next hl => simp only [hl, if_true, h]
  · next hl => simp only [hl, if_false, h]

theorem laneOf_onTwn (m : Mach) (f : Twn → Twn) (h : ∀ t, (f t).lane0 = t.lane0 ∧ (f t).lane1 = t.lane1) (l : Nat) :
    laneOf (m.onTwn f) l = laneOf m l := by
  unfold laneOf Mach.onTwn
  rw [(h m.twn).1, (h m.twn).2]

theorem laneState_of_regs (h : m'.regs = m.regs) (l : Nat) : laneState m' l = laneState m l := by
  unfold laneState
  rw [fld_of_regs h, fld_of_regs h]

theorem laneState_setLane (m : Mach) (l : Nat) {v : Nat} (hv : v < 8) : laneState (m.setLane l v) l = v := by
  unfold laneState Mach.setLane
  split
  · rw [fld_set _ _ _ _ rfl]
    exact Nat.mod_eq_of_lt hv
  · rw [fld_set _ _ _ _ rfl]
    exact Nat.mod_eq_of_lt hv

theorem setLane_fld (m : Mach) (l v : Nat) {f : Fd} (i : Nat) (h : (Fd.clear PLT_STS_lane0 f && Fd.clear PLT_STS_lane1 f) = true) :
    (m.setLane l v).fld f i = m.fld f i := by
  rw [Bool.and_eq_true] at h
  unfold Mach.setLane
  split
  · exact fld_set_clear _ _ _ _ _ _ h.1
  · exact fld_set_clear _ _ _ _ _ _ h.2

theorem setLane_twn (m : Mach) (l v : Nat) : (m.setLane l v).twn = m.twn := twn_of_touch (Mach.setLane_touch m l v) rfl

theorem keyFor_touch (h : m.touch A P m') (hA : A.testBit 32 = false) (hP : P.testBit 0x04 = false) (slot usage : Nat) :
    m'.keyFor slot usage = m.keyFor slot usage := by
  unfold Mach.keyFor
  rw [rim_of_touch h hA, fld_touch h KEY_SLOT_usage slot (by rw [show KEY_SLOT_usage.page = 0x04 from rfl, hP]; rfl)]

/-- What neither writes the configuration in force nor the keys leaves the permission to send (R255). -/
theorem mayPlait_touch (h : m.touch A P m') (hA : A.testBit 4 = false) (hrim : A.testBit 32 = false) (hP : P.testBit 0x04 = false) :
    mayPlait m' = mayPlait m := by
  unfold mayPlait
  rw [on_of_force (force_of_touch h hA), cfg_of_force (force_of_touch h hA), keyFor_touch h hrim hP]

/-- The header of a frame rests on the lane's receive number and on the transmit key alone. -/
theorem plaitHdr_touch (h : m.touch A P m') (hA : A.testBit 4 = false) (hrim : A.testBit 32 = false) (hP : P.testBit 0x04 = false)
    (hrx : (laneOf m' l).rxSeq = (laneOf m l).rxSeq) : plaitHdr m' l = plaitHdr m l := by
  funext seq link pn x
  unfold plaitHdr
  simp only [cfg_of_force (force_of_touch h hA), keyFor_touch h hrim hP, hrx]

end

/-! ### A message leaves on a lane (R230, R231) -/

/-- A message has left on a lane under the next number of the link: its header is the lane's, it waits for its acknowledgement,
and the lane's idle time runs anew. -/
structure Mach.sentOn (m : Mach) (l : Nat) (x : PlaitMsg) (m' : Mach) : Prop where
  lane : laneOf m' l = (laneOf m l).sent m.twn.linkTx 1 m.now x
  link : m'.twn.linkTx = (m.twn.linkTx + 1) % 2 ^ 32
  outs : m'.outs = .plait (plaitHdr m l (laneOf m l).txSeq m.twn.linkTx ((laneOf m l).txPn + 1) x) x :: m.outs
  idle : m'.deadline (.keepIdle l) = some (m.now + 50000)

section
variable {m m' : Mach} {l k : Nat} {x : PlaitMsg}

theorem sendOn_lane (m : Mach) (hl : l < 2) (link tries : Nat) (x : PlaitMsg) :
    laneOf (m.sendOn l link tries x) l = (laneOf m l).sent link tries m.now x := by
  unfold Mach.sendOn
  extract_lets -underBinder -merge -useContext +onlyGivenNames b y z w
  have hw : w.twn = y.twn := by
    unfold w
    split <;> rfl
  calc laneOf (w.emit _) l = laneOf y l := laneOf_of_twn hw l
    _ = (laneOf m l).sent link tries m.now x := laneOf_onLane_same m hl (fun b => b.sent link tries m.now x)

theorem sendOn_otherLane (m : Mach) (hl : l < 2) (hk : k < 2) (hkl : k ≠ l) (link tries : Nat) (x : PlaitMsg) :
    laneOf (m.sendOn l link tries x) k = laneOf m k := by
  unfold Mach.sendOn
  extract_lets -underBinder -merge -useContext +onlyGivenNames b y z w
  have hw : w.twn = y.twn := by
    unfold w
    split <;> rfl
  calc laneOf (w.emit _) k = laneOf y k := laneOf_of_twn hw k
    _ = laneOf m k := laneOf_onLane_other m hl hk hkl (fun b => b.sent link tries m.now x)

theorem sendOn_outs (m : Mach) (l link tries : Nat) (x : PlaitMsg) :
    (m.sendOn l link tries x).outs = .plait (plaitHdr m l (laneOf m l).txSeq link ((laneOf m l).txPn + 1) x) x :: m.outs := by
  unfold Mach.sendOn
  extract_lets -underBinder -merge -useContext +onlyGivenNames b y z w
  have htouch : m.touch 0x1000100 0 w := by
    have hz : m.touch 0x1000100 0 z :=
      touch_app (touch_mono (Mach.onLane_touch m l _) rfl rfl) (Mach.arm_touch y (.keepIdle l) _) rfl rfl
    exact touch_ite (fun _ => hz) fun _ => touch_app hz (Mach.arm_touch ..) rfl rfl
  have htwn : w.twn = y.twn := by
    unfold w
    split <;> rfl
  have hrx : (laneOf w l).rxSeq = (laneOf m l).rxSeq := by
    rw [laneOf_of_twn htwn]
    exact (rx_onLane m l l (fun b => b.sent link tries m.now x) fun _ => ⟨rfl, rfl⟩).1
  rw [emit_outs, plaitHdr_touch htouch rfl rfl rfl hrx, outs_of_touch htouch rfl]

theorem sendOn_link (m : Mach) (l link tries : Nat) (x : PlaitMsg) : (m.sendOn l link tries x).twn.linkTx = m.twn.linkTx := by
  unfold Mach.sendOn
  extract_lets -underBinder -merge -useContext +onlyGivenNames b y z w
  have hy : y.twn.linkTx = m.twn.linkTx := by
    unfold y Mach.onLane Mach.onTwn
    dsimp only
    split <;> rfl
  have hw : w.twn = y.twn := by
    unfold w
    split <;> rfl
  exact (congrArg Twn.linkTx hw).trans hy

theorem sendOn_idle (m : Mach) (l link tries : Nat) (x : PlaitMsg) :
    (m.sendOn l link tries x).deadline (.keepIdle l) = some (m.now + 50000) := by
  unfold Mach.sendOn
  extract_lets -underBinder -merge -useContext +onlyGivenNames b y z w
  have hz : z.deadline (.keepIdle l) = some (m.now + 50000) := deadline_arm_same ..
  show w.deadline (.keepIdle l) = _
  unfold w
  split
  · exact hz
  · exact (deadline_arm_other _ _ (by simp)).trans hz

/-- The next number of the link taken, and the message sent under it. -/
theorem sendOn_sent (hl : l < 2) (hlane : laneOf m' l = laneOf m l) (hlink : m'.twn.linkTx = (m.twn.linkTx + 1) % 2 ^ 32)
    (houts : m'.outs = m.outs) (hnow : m'.now = m.now) (hhdr : plaitHdr m' l = plaitHdr m l) :
    m.sentOn l x (m'.sendOn l m.twn.linkTx 1 x) where
  lane := by rw [sendOn_lane m' hl, hlane, hnow]
  link := (sendOn_link ..).trans hlink
  outs := by rw [sendOn_outs, hlane, hhdr, houts]
  idle := by rw [sendOn_idle, hnow]

/-- What keeps a lane from a HELLO or a KEEP: no key, a lane out of service, or 256 frames unacknowledged. -/
theorem plaitSendLane_held (h : mayPlait m = false ∨ (laneState m l ≠ 1 ∧ laneState m l ≠ 2) ∨ 256 ≤ (laneOf m l).unacked.length) :
    m.plaitSendLane l x = m := by
  unfold Mach.plaitSendLane
  refine if_pos ?_
  rcases h with h | ⟨h1, h2⟩ | h
  · simp [h]
  · simp [h1, h2]
  · simp [h]

theorem plaitSendLane_sent (hl : l < 2) (hmay : mayPlait m = true) (hstate : laneState m l = 1 ∨ laneState m l = 2)
    (hroom : (laneOf m l).unacked.length < 256) : m.sentOn l x (m.plaitSendLane l x) := by
  have hsend : m.plaitSendLane l x
      = (m.onTwn fun t => { t with linkTx := (t.linkTx + 1) % 2 ^ 32 }).sendOn l m.twn.linkTx 1 x := by
    unfold Mach.plaitSendLane
    refine if_neg ?_
    rcases hstate with h | h <;> simp [hmay, h, hroom]
  rw [hsend]
  exact sendOn_sent hl rfl rfl rfl rfl rfl

theorem plaitSendLane_rx (m : Mach) (l : Nat) (x : PlaitMsg) : m.rxSame (m.plaitSendLane l x) := by
  unfold Mach.plaitSendLane
  split
  · exact ⟨fun _ => ⟨rfl, rfl⟩, fun _ _ _ => rfl⟩
  · exact sendOn_rx (m.onTwn fun t => { t with linkTx := (t.linkTx + 1) % 2 ^ 32 }) l _ 1 x

theorem plaitSendLane_otherLane (m : Mach) (hl : l < 2) (hk : k < 2) (hkl : k ≠ l) (x : PlaitMsg) :
    laneOf (m.plaitSendLane l x) k = laneOf m k := by
  unfold Mach.plaitSendLane
  split
  · rfl
  · exact sendOn_otherLane (m.onTwn fun t => { t with linkTx := (t.linkTx + 1) % 2 ^ 32 }) hl hk hkl ..

/-- A message on a lane leaves the handshake of the lane as it was. -/
theorem plaitSendLane_shake (m : Mach) (hl : l < 2) (x : PlaitMsg) : (laneOf (m.plaitSendLane l x) l).lock = (laneOf m l).lock
    ∧ (laneOf (m.plaitSendLane l x) l).held = (laneOf m l).held := by
  unfold Mach.plaitSendLane
  split
  · exact ⟨rfl, rfl⟩
  · rw [sendOn_lane (m.onTwn fun t => { t with linkTx := (t.linkTx + 1) % 2 ^ 32 }) hl]
    exact ⟨rfl, rfl⟩

theorem plaitSendLane_regs (m : Mach) (l : Nat) (x : PlaitMsg) : (m.plaitSendLane l x).regs = m.regs :=
  regs_of_touch (Mach.plaitSendLane_touch m l x) rfl

theorem keepsOuts_plaitSendLane (m : Mach) (l : Nat) (x : PlaitMsg) : m.keepsOuts (m.plaitSendLane l x) := by
  unfold Mach.plaitSendLane
  split
  · exact keepsOuts_refl m
  · exact (keepsOuts_sendOn (m.onTwn fun t => { t with linkTx := (t.linkTx + 1) % 2 ^ 32 }) l _ 1 x).since rfl

/-! ### Messages that wait (R230) -/

/-- The lane picked for messages is Up and has room. -/
theorem pickLane_some (h : pickLane m = some l) : l < 2 ∧ laneState m l = 2 ∧ (laneOf m l).unacked.length < 256 := by
  unfold pickLane at h
  dsimp only at h
  split at h
  · next h0 h1 =>
    simp only [Bool.and_eq_true, beq_iff_eq, decide_eq_true_eq] at h0 h1
    obtain rfl := Option.some.inj h
    split
    · exact ⟨by decide, h1⟩
    · exact ⟨by decide, h0⟩
  · next h0 _ =>
    simp only [Bool.and_eq_true, beq_iff_eq, decide_eq_true_eq] at h0
    obtain rfl := Option.some.inj h
    exact ⟨by decide, h0⟩
  · next h1 =>
    simp only [Bool.and_eq_true, beq_iff_eq, decide_eq_true_eq] at h1
    obtain rfl := Option.some.inj h
    exact ⟨by decide, h1⟩
  · exact absurd h (by simp)

theorem nextPlait_lane (m : Mach) (k : Nat) : laneOf m.nextPlait.2 k = laneOf m k := by
  unfold Mach.nextPlait
  split
  · rfl
  · split <;> rfl

/-- Waiting messages take lanes that are Up; any other lane is as it was. -/
theorem drainPlait_otherLane (n : Nat) (m : Mach) (hk : k < 2) (hdown : laneState m k ≠ 2) : laneOf (m.drainPlait n) k = laneOf m k := by
  induction n generalizing m with
  | zero => rfl
  | succ n ih =>
    unfold Mach.drainPlait
    split
    · next j link x y hpick hnext =>
      obtain ⟨hj, hup, -⟩ := pickLane_some hpick
      have hy : y = m.nextPlait.2 := by rw [hnext]
      have hkj : k ≠ j := fun h => hdown (h ▸ hup)
      have hregs : (y.sendOn j link 1 x).regs = m.regs :=
        (regs_of_touch (Mach.sendOn_touch ..) rfl).trans (hy ▸ regs_of_touch (Mach.nextPlait_touch m) rfl)
      rw [ih _ (laneState_of_regs hregs k ▸ hdown), sendOn_otherLane y hj hk hkj, hy, nextPlait_lane]
    · rfl

theorem plaitSend_otherLane (m : Mach) (x : PlaitMsg) (hk : k < 2) (hdown : laneState m k ≠ 2) : laneOf (m.plaitSend x) k = laneOf m k := by
  unfold Mach.plaitSend Mach.drainAll
  split
  · rfl
  · exact drainPlait_otherLane _ (m.onTwn fun t => { t with sendQ := t.sendQ ++ [x] }) hk hdown

theorem plaitSend_rx (m : Mach) (x : PlaitMsg) : m.rxSame (m.plaitSend x) := by
  unfold Mach.plaitSend Mach.drainAll
  split
  · exact ⟨fun _ => ⟨rfl, rfl⟩, fun _ _ _ => rfl⟩
  · exact drainPlait_rx _ (m.onTwn fun t => { t with sendQ := t.sendQ ++ [x] })

theorem plaitSend_regs (m : Mach) (x : PlaitMsg) : (m.plaitSend x).regs = m.regs := regs_of_touch (Mach.plaitSend_touch m x) rfl

theorem plaitSend_held (h : mayPlait m = false) : m.plaitSend x = m := by
  unfold Mach.plaitSend
  exact if_pos (by simp [h])

/-- With no other message waiting, a message of the in-step class leaves at once on the lane picked. -/
theorem plaitSend_sent (hmay : mayPlait m = true) (hqueue : m.twn.sendQ = []) (hresend : m.twn.resendQ = []) (hclass : copyClass x = false)
    (hpick : pickLane m = some l) : m.sentOn l x (m.plaitSend x) := by
  obtain ⟨hl, hup, -⟩ := pickLane_some hpick
  have hopen : ¬ ((!mayPlait m || (laneState m 0 != 2 && laneState m 1 != 2)) = true) := by
    have h01 : l = 0 ∨ l = 1 := by omega
    rcases h01 with rfl | rfl <;> simp [hmay, hup]
  have hdrain : m.plaitSend x = (m.onTwn fun t => { t with sendQ := t.sendQ ++ [x] }).drainAll := if_neg hopen
  generalize hy : (m.onTwn fun t => { t with sendQ := t.sendQ ++ [x] }) = y at hdrain
  have hq : y.twn.sendQ = [x] := by rw [← hy]; exact congrArg (· ++ [x]) hqueue
  have hr : y.twn.resendQ = [] := by rw [← hy]; exact hresend
  have hypick : pickLane y = some l := by rw [← hy]; exact hpick
  have hnext : y.nextPlait = (some (y.twn.linkTx, x), y.onTwn fun t => { t with linkTx := (t.linkTx + 1) % 2 ^ 32, sendQ := t.sendQ.erase x }) := by
    unfold Mach.nextPlait
    rw [hr, hq]
    simp [hclass]
  have hone : y.drainAll = (y.onTwn fun t => { t with linkTx := (t.linkTx + 1) % 2 ^ 32, sendQ := t.sendQ.erase x }).sendOn l y.twn.linkTx 1 x := by
    unfold Mach.drainAll
    rw [hr, hq]
    show y.drainPlait 1 = _
    rw [Mach.drainPlait, hypick, hnext]
    rfl
  rw [hdrain, hone, ← hy]
  exact sendOn_sent hl rfl rfl rfl rfl rfl

end

/-! ### A lane goes out of service (R228, R232) -/

/-- A lane stopped, with its frames among those to be sent again in link order. -/
def Mach.laneStopped (m : Mach) (l v : Nat) : Mach :=
  ((((m.setLane l v).disarm (.replay l)).disarm (.keepIdle l)).onLane l Lane.stopped).onTwn fun t =>
    { t with resendQ := (t.resendQ ++ (laneOf m l).unacked.map fun u => (u.link, u.msg)).mergeSort linkBefore }

section
variable {l v : Nat}

theorem dropLane_eq (m : Mach) (l v : Nat) : m.dropLane l v = (m.laneStopped l v).drainAll := rfl

theorem dropLane_regs (m : Mach) (l v : Nat) : (m.dropLane l v).regs = (m.setLane l v).regs := by
  rw [dropLane_eq, regs_of_touch (Mach.drainAll_touch _) rfl]
  rfl

theorem dropLane_state (m : Mach) (l : Nat) (hv : v < 8) : laneState (m.dropLane l v) l = v :=
  (laneState_of_regs (dropLane_regs m l v) l).trans (laneState_setLane m l hv)

/-- Frames of a lane that stops go to the other lane: the lane itself is empty. -/
theorem dropLane_lane (m : Mach) (hl : l < 2) (hv : v < 8) (hdown : v ≠ 2) : laneOf (m.dropLane l v) l = (laneOf m l).stopped := by
  have hregs : (m.laneStopped l v).regs = (m.setLane l v).regs := rfl
  have hstate : laneState (m.laneStopped l v) l = v := (laneState_of_regs hregs l).trans (laneState_setLane m l hv)
  have hdown' : laneState (m.laneStopped l v) l ≠ 2 := by
    rw [hstate]
    exact hdown
  rw [dropLane_eq, Mach.drainAll, drainPlait_otherLane _ (m.laneStopped l v) hl hdown']
  generalize hy : ((m.setLane l v).disarm (.replay l)).disarm (.keepIdle l) = y
  have hytwn : y.twn = m.twn := by
    rw [← hy]
    show (m.setLane l v).twn = m.twn
    exact setLane_twn m l v
  rw [Mach.laneStopped, hy]
  refine (laneOf_onTwn (y.onLane l Lane.stopped) _ (fun _ => ⟨rfl, rfl⟩) l).trans ?_
  rw [laneOf_onLane_same y hl, laneOf_of_twn hytwn]

end

/-! ### Replay (R231, R232) -/

/-- A frame sent again. -/
def Unacked.again (now : Nat) (u : Unacked) : Unacked := { u with tries := u.tries + 1, sentAt := now }

/-- The frames of a lane sent again, each under a new packet number. -/
def Lane.resent (now : Nat) (b : Lane) : Lane :=
  { b with unacked := b.unacked.map (Unacked.again now), txPn := b.txPn + b.unacked.length }

/-- What leaves on lane `l` for its frame number `e.2`, after packet number `pn`. -/
def resentFrame (l pn : Nat) (e : Unacked × Nat) (m : Mach) : Out := .plait (plaitHdr m l e.1.seq e.1.link (pn + e.2 + 1) e.1.msg) e.1.msg

/-- Outputs driven one after another, where what is driven rests on no output before it. -/
theorem each_emit {α : Type} (g : α → Mach → Out) (hg : ∀ a m o, g a (Mach.emit m o) = g a m) (l : List α) (m : Mach) :
    m.each l (fun a k => k.emit (g a k)) = { m with outs := (l.map fun a => g a m).reverse ++ m.outs } := by
  induction l generalizing m with
  | nil => rfl
  | cons a l ih =>
    have hrest : (l.map fun b => g b (m.emit (g a m))) = l.map fun b => g b m := List.map_congr_left fun b _ => hg b m _
    calc m.each (a :: l) _ = (m.emit (g a m)).each l fun a k => k.emit (g a k) := rfl
      _ = _ := by rw [ih, hrest, List.map_cons, List.reverse_cons, List.append_assoc]; rfl

/-- Every unacknowledged frame of a lane leaves again. -/
def Mach.laneResent (m : Mach) (l : Nat) : Mach :=
  let again := (laneOf m l).unacked.map (Unacked.again m.now)
  (m.onLane l fun b => { b with unacked := again, txPn := b.txPn + again.length }).each again.zipIdx fun e k =>
    k.emit (resentFrame l (laneOf m l).txPn e k)

section
variable {m : Mach} {l : Nat} {u : Unacked} {r : List Unacked}

theorem laneResent_eq (m : Mach) (l : Nat) : m.laneResent l = { m.onLane l (Lane.resent m.now) with
    outs := (((laneOf m l).unacked.map (Unacked.again m.now)).zipIdx.map fun e =>
      resentFrame l (laneOf m l).txPn e (m.onLane l (Lane.resent m.now))).reverse ++ m.outs } := by
  unfold Mach.laneResent
  extract_lets again
  have hlane : (m.onLane l fun b => { b with unacked := again, txPn := b.txPn + again.length }) = m.onLane l (Lane.resent m.now) := by
    refine onLane_congr ?_
    unfold again Lane.resent
    rw [List.length_map]
  rw [hlane, each_emit (resentFrame l (laneOf m l).txPn) (fun _ _ _ => rfl)]
  rfl

/-- A frame that waits leaves again as it was, but for its packet number. -/
theorem laneResent_outs (hl : l < 2) {e : Unacked × Nat} (he : e ∈ (laneOf m l).unacked.zipIdx) :
    .plait (plaitHdr m l e.1.seq e.1.link ((laneOf m l).txPn + e.2 + 1) e.1.msg) e.1.msg ∈ (m.laneResent l).outs := by
  have hrx : (laneOf (m.onLane l (Lane.resent m.now)) l).rxSeq = (laneOf m l).rxSeq := by rw [laneOf_onLane_same m hl]; rfl
  have hagain : (Unacked.again m.now e.1, e.2) ∈ ((laneOf m l).unacked.map (Unacked.again m.now)).zipIdx := by
    rw [List.zipIdx_map]
    exact List.mem_map_of_mem (f := Prod.map (Unacked.again m.now) id) he
  rw [laneResent_eq]
  refine List.mem_append_left _ (List.mem_reverse.mpr (List.mem_map.mpr ⟨_, hagain, ?_⟩))
  unfold resentFrame
  rw [plaitHdr_touch (Mach.onLane_touch m l _) rfl rfl rfl hrx]
  rfl

theorem replay_idle (h : (laneOf m l).unacked = []) : m.replay l = m := by
  unfold Mach.replay
  rw [h]

theorem replay_fails (h : (laneOf m l).unacked = u :: r) (htries : m.cfg PLT_REPLAY_attempts ≤ u.tries) :
    m.replay l = ((m.count (PLT_CNT_n.nth 3)).event 0x30 2).dropLane l 3 := by
  unfold Mach.replay
  rw [h]
  exact if_pos htries

theorem replay_resends {x : Mach} (hx : m.laneResent l = x) (h : (laneOf m l).unacked = u :: r) (htries : u.tries < m.cfg PLT_REPLAY_attempts) :
    m.replay l = (((x.arm (.keepIdle l) (x.now + 50000)).arm (.replay l) (x.now + x.cfg PLT_REPLAY_interval * 1000)).count
      (PLT_CNT_n.nth 2)).event 0x30 5 := by
  unfold Mach.laneResent at hx
  unfold Mach.replay
  rw [← hx, h]
  exact if_neg (Nat.not_le.mpr htries)

end

end Sys2Proof.Machine

/-! # Changes of the twin's state -/

namespace Sys2Proof.Machine

/-! ### What frames into the switch core leave of the twin (R306, R310) -/

/-- The twin without the numbers of witness frames on redundant pairs, which any frame under the witness address draws. -/
abbrev twnCore (t : Twn) : Twn := { t with witRed := [] }

theorem drawSeq_core (m : Mach) (k : Nat) (src : Mac) : twnCore (m.drawSeq k src).2.twn = twnCore m.twn := by
  unfold Mach.drawSeq
  split
  · rfl
  · split <;> rfl

theorem toPort_core (m : Mach) (e : Nat) (f : TxFrame) (seq : Option (Nat × Nat)) : twnCore (m.toPort e f seq).twn = twnCore m.twn := by
  unfold Mach.toPort
  extract_lets -underBinder -merge -useContext +onlyGivenNames k mode
  split
  · exact congrArg twnCore (twn_of_touch (Mach.enqueue_touch m e f) rfl)
  · split
    next n y heq =>
    have hy : twnCore y.twn = twnCore m.twn := by
      refine (congrArg (fun p : Nat × Mach => twnCore p.2.twn) heq).symm.trans ?_
      split
      · split
        · rfl
        · exact drawSeq_core ..
      · exact drawSeq_core ..
    extract_lets -underBinder -merge -useContext +onlyGivenNames copy z
    have hz : z.twn = y.twn := by
      unfold z
      split
      · exact twn_of_touch (Mach.openDup_touch ..) rfl
      · rfl
    rw [twn_of_touch (Mach.enqueue_touch ..) rfl, twn_of_touch (Mach.enqueue_touch ..) rfl, hz]
    exact hy

theorem land_core (m : Mach) (p : Passage) (e : Nat) : twnCore (m.land p e).twn = twnCore m.twn := by
  unfold Mach.land
  extract_lets i
  split
  · exact toPort_core ..
  · split
    · exact congrArg twnCore (twn_of_touch (Mach.toVnic_touch ..) rfl)
    · rfl

theorem cross_core (m : Mach) (ps : List Passage) : twnCore (m.cross ps).twn = twnCore m.twn := by
  unfold Mach.cross
  split
  next f d _ =>
  exact each_keep (fun k : Mach => twnCore k.twn) (landings ps d) (fun l k => k.land l.1 l.2) (m.onSwc fun c => { c with fab := f }) fun l k => land_core k l.1 l.2

theorem inject_core (m : Mach) (i : Ingress) : twnCore (m.inject i).twn = twnCore m.twn := by
  unfold Mach.inject Mach.forward
  split
  next es cls hit _ =>
  extract_lets -underBinder -merge -useContext +onlyGivenNames y z p
  have hz : z.twn = m.twn := by
    have hy : y.twn = m.twn := twn_of_touch (Mach.learn_touch ..) rfl
    unfold z
    split
    · exact hy
    · split <;> exact hy
  split
  · exact congrArg twnCore hz
  · exact (cross_core z [p]).trans (congrArg twnCore hz)

theorem pubSend_core (m : Mach) (f : Built) : twnCore (m.pubSend f).twn = twnCore m.twn := by
  have hnoted : ((m.count PUB_CNT_n).noteKey f.zeroed).twn = (m.count PUB_CNT_n).twn := twn_of_touch (Mach.noteKey_touch (m.count PUB_CNT_n) f.zeroed) rfl
  exact (inject_core ((m.count PUB_CNT_n).noteKey f.zeroed) _).trans (congrArg twnCore hnoted)

theorem setRole_core (m : Mach) (role : Nat) : twnCore (m.setRole role).twn = twnCore m.twn := by
  unfold Mach.setRole
  split
  · rfl
  · extract_lets -underBinder -merge -useContext +onlyGivenNames held x y z
    have hx : x.twn = m.twn := Mach.event_twn (m.setFld PUB_STS_role 0 role) _ _ _ (by decide)
    have hy : y.twn = m.twn := (each_keep Mach.twn held (fun f k => k.disarm (.compare f.block)) x fun _ _ => rfl).trans hx
    split
    · exact congrArg twnCore hy
    · split
      · exact (each_keep (fun k : Mach => twnCore k.twn) held (fun f k => k.pubSend f) z fun f k => pubSend_core k f).trans (congrArg twnCore hy)
      · exact congrArg twnCore hy

/-! ### The twin enters a state (R226, R227) -/

section
variable {m x y : Mach} {st : Nat}

theorem enterTwn_core (h : twnState m ≠ st) :
    twnCore (m.enterTwn st).twn = twnCore { m.twn with committed := st == 3 && m.twn.committed, wantLead := false } := by
  generalize hv : m.enterTwn st = v
  unfold Mach.enterTwn at hv
  extract_lets -underBinder -merge -useContext +onlyGivenNames old a b c d e g n k l at hv
  rw [if_neg h] at hv
  have ha : a.twn = ((m.setFld TWN_STS_state 0 st).count TWN_CNT_n).twn := twn_of_touch (Mach.stateRecord_touch _ old st) rfl
  clear_value a
  have hc : c.twn = m.twn := ha
  clear_value c
  have hd : d.twn = { m.twn with committed := st == 3 && m.twn.committed } := by
    unfold d
    split
    · next h3 => rw [hc, h3]; rfl
    · next h3 =>
      rw [beq_false_of_ne h3]
      exact congrArg (fun t : Twn => { t with committed := false }) hc
  have he : e.twn = { m.twn with committed := st == 3 && m.twn.committed, wantLead := false } :=
    congrArg (fun t : Twn => { t with wantLead := false }) hd
  clear_value e
  have hg : g.twn = e.twn := by
    unfold g
    split
    · rfl
    · exact twn_of_touch (Mach.eqFlush_touch e) rfl
  clear_value g
  have hn : n.twn = g.twn := by
    unfold n
    split
    · exact twn_of_touch (Mach.advanceNumbers_touch g) rfl
    · rfl
  clear_value n
  have hk : twnCore k.twn = twnCore e.twn := (setRole_core n _).trans (congrArg twnCore (hn.trans hg))
  clear_value k
  have hl : l.twn = k.twn := by
    unfold l
    split
    · exact twn_of_touch (Mach.deliverOwn_touch k) rfl
    · rfl
  clear_value l
  have hend : v.twn = l.twn := by
    have hevent : ∀ (x : Mach) b, (x.event 0x31 b).twn = x.twn := fun x b => Mach.event_twn x _ _ _ (by decide)
    rw [← hv]
    split
    · rfl
    · split
      · exact hevent ..
      · rfl
    · exact hevent ..
    · refine (hevent ..).trans ?_
      split <;> rfl
    · exact hevent ..
    · rfl
  rw [hend, hl, hk, he]

theorem enterTwn_same (h : twnState m = st) : m.enterTwn st = m := if_pos h

theorem enterTwn_wantLead (h : twnState m ≠ st) : (m.enterTwn st).twn.wantLead = false := congrArg Twn.wantLead (enterTwn_core h)

theorem enterTwn_evidence (h : twnState m ≠ st) : (m.enterTwn st).twn.evidence = m.twn.evidence :=
  (congrArg Twn.evidence (enterTwn_core h) :)

/-- The twin has come from `m` into a state, and no transition into Lead waits any more. -/
structure Mach.comesInto (m : Mach) (st : Nat) (x : Mach) : Prop where
  shown : m.inTwn st x
  settled : x.twn.wantLead = false

theorem enterTwn_comes (h : twnState m ≠ st) (hst : st < 16) : m.comesInto st (m.enterTwn st) := by
  obtain ⟨hstate, hentered, hevts, hfld⟩ := enterTwn_facts m st hst
  obtain ⟨hevt, hcount⟩ := hentered h
  exact ⟨⟨hstate, hevt, hcount, hevts, hfld⟩, enterTwn_wantLead h⟩

namespace Mach.comesInto
variable (h : m.comesInto st x)
include h

theorem state : twnState x = st := h.shown.1

theorem fld {f : Fd} (i : Nat) (hf : twnApart f = true) : x.fld f i = m.fld f i := by
  obtain ⟨-, -, -, -, hfld⟩ := h.shown
  exact hfld f i hf

theorem evt {b : Nat} (hb : b < 32) (hm : m.evt 0x31 b = true) : x.evt 0x31 b = true := by
  obtain ⟨-, -, -, hevts, -⟩ := h.shown
  exact hevts b hb hm

theorem flag {f : Fd} (hf : twnApart f = true) : x.flag f = m.flag f := congrArg (· == 1) (h.fld 0 hf)

/-- The change is one from any module with as many changes counted. -/
theorem enters {k : Mach} (hcount : m.fld TWN_CNT_n = k.fld TWN_CNT_n) : k.entersTwn x st := by
  obtain ⟨⟨hstate, hevt, hcnt, -⟩, -⟩ := h
  exact ⟨hstate, by rw [hcnt, hcount], hevt⟩

/-- What writes neither the twin's page nor its state comes after. -/
theorem touched {A P : Nat} (ht : x.touch A P y) (hA : A.testBit 24 = false) (hP : P.testBit 0x31 = false) : m.comesInto st y := by
  obtain ⟨⟨hstate, hevt, hcnt, hevts, hfld⟩, hsettled⟩ := h
  have hpage : ∀ (f : Fd) i, f.page = 0x31 → f.off < 4096 → y.fld f i = x.fld f i := fld_page31 ht hP
  have hevents : ∀ b, y.evt 0x31 b = x.evt 0x31 b := fun b => congrArg (bit · b) (hpage (hEvt 0x31) 0 rfl (by decide))
  refine ⟨⟨(hpage TWN_STS_state 0 rfl (by decide)).trans hstate, (hevents 0).trans hevt, (hpage TWN_CNT_n 0 rfl (by decide)).trans hcnt,
    fun b hb hm => (hevents b).trans (hevts b hb hm), fun f i hf => ?_⟩, by rw [twn_of_touch ht hA, hsettled]⟩
  have hfit := hf
  simp only [twnApart, Bool.and_eq_true, decide_eq_true_eq] at hfit
  obtain ⟨⟨-, hp⟩, ho⟩ := hfit
  exact (hpage f i hp ho).trans (hfld f i hf)

theorem kept : x.keptFromLead := fun hwant => by
  rw [h.settled] at hwant
  contradiction

/-- No transition waits: the evaluation of the twin finds nothing to do (R227). -/
theorem eval (hst : st ≠ 4) : x.twinEval = x := twinEval_rests h.kept (by rw [h.state]; exact hst)

end Mach.comesInto

/-! ### Into Lead, and the ends of Joining (R225, R246) -/

theorem toLead_clashing (h : m.flag TWN_STS_unit_clash = true) : m.toLead = m.onTwn fun t => { t with wantLead := true } := if_pos h

theorem toLead_comes (hclash : m.flag TWN_STS_unit_clash = false) (h : twnState m ≠ 2) : m.comesInto 2 m.toLead := by
  have hlead : m.toLead = if twnState m = 3 then (m.enterTwn 2).startSlots else m.enterTwn 2 := by
    unfold Mach.toLead
    rw [hclash]
    rfl
  have hcomes := enterTwn_comes h (by decide)
  rw [hlead]
  split
  · exact hcomes.touched (Mach.startSlots_touch _) rfl rfl
  · exact hcomes

theorem endCopy_state (m : Mach) : twnState m.endCopy = twnState m := fld_endCopy _ _ _ rfl

/-- The copy is given up, and the policy decides (R246). -/
theorem leadLost_eq (m : Mach) : m.leadLost = if m.on TWN_CFG_policy then (m.endCopy.enterTwn 7).startSlots else m.endCopy.toLead := by
  rw [← on_of_force (force_of_touch (Mach.endCopy_touch m) rfl) TWN_CFG_policy 0]
  rfl

theorem leadLost_leads (hpolicy : m.on TWN_CFG_policy = false) (hclash : m.flag TWN_STS_unit_clash = false) (h : twnState m ≠ 2) :
    m.endCopy.comesInto 2 m.leadLost := by
  have hclear : m.endCopy.flag TWN_STS_unit_clash = false := (congrArg (· == 1) (fld_endCopy m TWN_STS_unit_clash 0 rfl)).trans hclash
  rw [leadLost_eq, hpolicy]
  exact toLead_comes hclear (by rw [endCopy_state]; exact h)

theorem leadLost_holds (hpolicy : m.on TWN_CFG_policy = true) (h : twnState m ≠ 7) : m.endCopy.comesInto 7 m.leadLost := by
  rw [leadLost_eq, hpolicy]
  exact (enterTwn_comes (by rw [endCopy_state]; exact h) (by decide)).touched (Mach.startSlots_touch _) rfl rfl

theorem isolate_joining (h : twnState m = 3) : m.endCopy.startSlots.comesInto 6 m.isolate := by
  have hisolate : m.isolate = (m.endCopy.startSlots).enterTwn 6 := if_pos h
  have hstate : twnState m.endCopy.startSlots = 3 :=
    (fld_page31 (Mach.startSlots_touch _) rfl TWN_STS_state 0 rfl (by decide)).trans ((endCopy_state m).trans h)
  rw [hisolate]
  exact enterTwn_comes (by rw [hstate]; decide) (by decide)

end

/-! ### The partner's unit and state shown (R225, R226, R254) -/

/-- Fields of the twin's page and of the link's that the partner's state shown leaves. -/
abbrev besidePartner (f : Fd) : Bool :=
  Fd.clear TWN_STS_partner f && Fd.clear TWN_STS_in_step f && (f.page == 0x31 || f.page == 0x30) && decide (f.off < 4096)

section
variable {m : Mach} {st : Nat} {unit : Bool}

theorem twinMismatch_flag (m : Mach) {f : Fd} (hfit : Fd.noEvt 0x31 f = true) : (m.twinMismatch f).flag f = true := by
  unfold Mach.twinMismatch
  split
  · assumption
  · have hf : Fd.fit f = true := by
      simp only [Fd.noEvt, Bool.and_eq_true] at hfit
      obtain ⟨⟨⟨hword, -⟩, -⟩, -⟩ := hfit
      exact hword
    exact (congrArg (· == 1) (fld_event _ 0x31 8 _ f 0 hfit)).trans (flag_set m f 0 true hf)

theorem twinMismatch_fld (m : Mach) {f g : Fd} (i : Nat) (h : (Fd.clear f g && Fd.noEvt 0x31 g) = true) : (m.twinMismatch f).fld g i = m.fld g i := by
  rw [Bool.and_eq_true] at h
  unfold Mach.twinMismatch
  split
  · rfl
  · rw [fld_event _ _ _ _ _ _ h.2, fld_flag_clear _ _ _ _ _ _ h.1]

theorem twinMismatch_evt (m : Mach) {f : Fd} (b : Nat) (h : (Fd.clear f (hEvt 0x31) && decide (b < 32)) = true) (hb : m.evt 0x31 b = true) :
    (m.twinMismatch f).evt 0x31 b = true := by
  rw [Bool.and_eq_true, decide_eq_true_eq] at h
  unfold Mach.twinMismatch
  split
  · exact hb
  · refine evt_event_or _ _ _ _ _ (by simp [h.2]) ?_
    exact (congrArg (bit · b) (fld_flag_clear _ _ _ _ _ _ h.1)).trans hb

theorem checkUnit_clash (m : Mach) (unit : Bool) : (m.checkUnit unit).flag TWN_STS_unit_clash = decide (unit = m.on TWN_CFG_unit) := by
  unfold Mach.checkUnit
  split
  · next h => rw [twinMismatch_flag m rfl, decide_eq_true h]
  · next h => rw [flag_set _ _ _ _ rfl, decide_eq_false h]

theorem checkUnit_fld (m : Mach) (unit : Bool) {f : Fd} (i : Nat) (h : (Fd.clear TWN_STS_unit_clash f && Fd.noEvt 0x31 f) = true) :
    (m.checkUnit unit).fld f i = m.fld f i := by
  unfold Mach.checkUnit
  split
  · exact twinMismatch_fld m i h
  · rw [Bool.and_eq_true] at h
    exact fld_flag_clear _ _ _ _ _ _ h.1

theorem checkUnit_twn (m : Mach) (unit : Bool) : (m.checkUnit unit).twn = m.twn := twn_of_touch (Mach.checkUnit_touch m unit) rfl

theorem showPartner_twn (m : Mach) (st : Nat) : (m.showPartner st).twn = m.twn := twn_of_touch (Mach.showPartner_touch m st) rfl

/-- The partner's state shown, once equalisation that ended with it has been handed on. -/
theorem showPartner_shows (m : Mach) (hst : st < 16) : (m.showPartner st).fld TWN_STS_partner = st
    ∧ (∀ (f : Fd) i, besidePartner f = true → (m.showPartner st).fld f i = m.fld f i)
    ∧ (m.svi.eq = [] → (m.showPartner st).svi = m.svi ∧ ∀ tm, tm ≠ .revertHold → (m.showPartner st).deadline tm = m.deadline tm) := by
  generalize hx : m.showPartner st = x
  unfold Mach.showPartner at hx
  extract_lets -underBinder -merge -useContext +onlyGivenNames old a b at hx
  have ha : a.fld TWN_STS_partner = st ∧ ∀ (f : Fd) i, besidePartner f = true → a.fld f i = m.fld f i := by
    refine ⟨?_, fun f i hf => ?_⟩
    · show ((m.setFld TWN_STS_partner 0 st).showStep).fld TWN_STS_partner = st
      rw [Mach.showStep, fld_flag_clear _ _ _ _ _ _ rfl, fld_set _ _ _ _ rfl]
      exact Nat.mod_eq_of_lt hst
    · simp only [besidePartner, Bool.and_eq_true] at hf
      obtain ⟨⟨⟨hpartner, hstep⟩, -⟩, -⟩ := hf
      show ((m.setFld TWN_STS_partner 0 st).showStep).fld f i = m.fld f i
      rw [Mach.showStep, fld_flag_clear _ _ _ _ _ _ hstep, fld_set_clear _ _ _ _ _ _ hpartner]
  have hidle : a.svi = m.svi ∧ a.timers = m.timers := ⟨rfl, rfl⟩
  clear_value a
  have hb : (∀ (f : Fd) i, (f.page == 0x31 || f.page == 0x30) = true → f.off < 4096 → b.fld f i = a.fld f i) ∧ (m.svi.eq = [] → b = a) := by
    unfold b
    split
    · exact ⟨fun _ _ _ _ => rfl, fun _ => rfl⟩
    · next h =>
      refine ⟨fun f i hp ho => fld_touch (Mach.eqFlush_touch a) f i ?_, fun heq => ?_⟩
      · simp only [Bool.or_eq_true, beq_iff_eq] at hp
        rcases hp with hp | hp <;> · simp only [hp, ho]; rfl
      · rw [hidle.1, heq] at h
        simp at h
  clear_value b
  have hend : ∀ y : Mach, y.regs = b.regs → y.svi = b.svi → (∀ tm, tm ≠ .revertHold → y.deadline tm = b.deadline tm) →
      y.fld TWN_STS_partner = st ∧ (∀ (f : Fd) i, besidePartner f = true → y.fld f i = m.fld f i)
        ∧ (m.svi.eq = [] → y.svi = m.svi ∧ ∀ tm, tm ≠ .revertHold → y.deadline tm = m.deadline tm) := by
    intro y hregs hsvi htimers
    refine ⟨((fld_of_regs hregs _ _).trans (hb.1 _ _ rfl (by decide))).trans ha.1, fun f i hf => ?_, fun heq => ⟨?_, fun tm htm => ?_⟩⟩
    · have hpage := hf
      simp only [besidePartner, Bool.and_eq_true, decide_eq_true_eq] at hpage
      obtain ⟨⟨-, hp⟩, ho⟩ := hpage
      exact ((fld_of_regs hregs f i).trans (hb.1 f i hp ho)).trans (ha.2 f i hf)
    · rw [hsvi, hb.2 heq, hidle.1]
    · rw [htimers tm htm, hb.2 heq, deadline_of_timers hidle.2]
  rw [← hx]
  split
  · split
    · exact hend _ rfl rfl fun tm htm => deadline_arm_other b _ htm
    · exact hend b rfl rfl fun _ _ => rfl
  · exact hend _ rfl rfl fun tm htm => deadline_disarm_other b htm

end

end Sys2Proof.Machine

/-! # HELLO -/

namespace Sys2Proof.Machine

theorem Mach.entersTwn.since {m x y : Mach} {st : Nat} (h : m.entersTwn x st) (hstate : y.fld TWN_STS_state = x.fld TWN_STS_state)
    (hcount : y.fld TWN_CNT_n = x.fld TWN_CNT_n) (hevt : y.fld (hEvt 0x31) = x.fld (hEvt 0x31)) : m.entersTwn y st := by
  obtain ⟨hst, hcnt, hev⟩ := h
  exact ⟨hstate.trans hst, hcount.trans hcnt, (congrArg (bit · 0) hevt).trans hev⟩

/-- A 64-bit value in its two words. -/
theorem show64_shows (m : Mach) (lo hi : Fd) (v : Nat)
    (h : (Fd.clear hi lo && Fd.fit hi && lo.hi + 1 - lo.lo == 32 && hi.hi + 1 - hi.lo == 32) = true) :
    (m.show64 lo hi v).fld lo = v % 2 ^ 32 ∧ (m.show64 lo hi v).fld hi = v / 2 ^ 32 % 2 ^ 32 := by
  simp only [Bool.and_eq_true, beq_iff_eq] at h
  obtain ⟨⟨⟨hclear, hfit⟩, hwlo⟩, hwhi⟩ := h
  have hfitlo : Fd.fit lo = true := by
    simp only [Fd.clear, Bool.and_eq_true] at hclear
    exact hclear.1.2
  unfold Mach.show64
  constructor
  · rw [fld_set_clear _ _ _ _ _ _ hclear, fld_set _ _ _ _ hfitlo, hwlo, Nat.mod_mod]
  · rw [fld_set _ _ _ _ hfit, hwhi, Nat.mod_mod]

theorem show64_fld (m : Mach) (lo hi : Fd) (v : Nat) {f : Fd} (i : Nat) (h : (Fd.clear lo f && Fd.clear hi f) = true) :
    (m.show64 lo hi v).fld f i = m.fld f i := by
  rw [Bool.and_eq_true] at h
  exact (fld_set_clear _ _ _ _ _ _ h.2).trans (fld_set_clear _ _ _ _ _ _ h.1)

/-! ### Joining (R234, R241, R242) -/

/-- No mismatch shown. -/
def Mach.mismatchOver (m : Mach) : Mach := (m.setFlag TWN_STS_cfg_mismatch 0 false).setFlag TWN_STS_grid_mismatch 0 false

theorem mismatchOver_fld (m : Mach) {f : Fd} (h : (Fd.clear TWN_STS_cfg_mismatch f && Fd.clear TWN_STS_grid_mismatch f) = true) :
    m.mismatchOver.fld f = m.fld f := by
  rw [Bool.and_eq_true] at h
  exact (fld_flag_clear _ _ _ _ _ _ h.2).trans (fld_flag_clear _ _ _ _ _ _ h.1)

/-- The module joins with the partner's tick for its own tick `n`: no mismatch is shown, releases have stopped, the offset is set, and a
copy is awaited. -/
def Mach.joins (m : Mach) (g : HelloMsg) (n : Nat) : Mach :=
  let x := m.mismatchOver.enterJoining
  let y := x.show64 TWN_TICK_OFS_LO_w TWN_TICK_OFS_HI_w (toWidth 64 ((g.tick.toNat : Int) - n))
  (y.onTwn fun t => { t with
    copy := some {}, latch := [], own := [], theirs := [], ownR := [], theirR := [], skipR := [], wantLead := false }).showCopy 1 0
    (slotList y).length

section
variable {m : Mach} {g : HelloMsg} {n : Nat} {must : Bool}

theorem tryJoin_differs (hpartner : m.twn.partner = some g) (hconfig : g.config ≠ configDigest m) :
    m.tryJoin must = (m.twinMismatch TWN_STS_cfg_mismatch).enterTwn 6 := by
  unfold Mach.tryJoin
  rw [hpartner]
  exact if_pos (bne_iff_ne.mpr hconfig)

theorem tryJoin_joins (hpartner : m.twn.partner = some g) (hconfig : g.config = configDigest m) (hgrid : gridMatch m g.nominal = some n) :
    m.tryJoin must = m.joins g n := by
  unfold Mach.tryJoin
  rw [hpartner]
  dsimp only
  rw [if_neg (by simp [hconfig]), hgrid]
  rfl

/-- With another configuration the module is isolated, and the mismatch is flagged. -/
theorem tryJoin_isolates (hpartner : m.twn.partner = some g) (hconfig : g.config ≠ configDigest m) (hstate : twnState m ≠ 6) :
    m.entersTwn (m.tryJoin must) 6 ∧ (m.tryJoin must).flag TWN_STS_cfg_mismatch = true
      ∧ ∀ b, b < 32 → m.evt 0x31 b = true → (m.tryJoin must).evt 0x31 b = true := by
  rw [tryJoin_differs hpartner hconfig]
  have hother : twnState (m.twinMismatch TWN_STS_cfg_mismatch) ≠ 6 := by
    rw [twnState, twinMismatch_fld m 0 rfl]
    exact hstate
  have hcomes := enterTwn_comes hother (by decide)
  exact ⟨hcomes.enters (twinMismatch_fld m 0 rfl), (hcomes.flag rfl).trans (twinMismatch_flag m rfl),
    fun b hb hm => hcomes.evt hb (twinMismatch_evt m b (by simp only [hb]; rfl) hm)⟩

theorem enterJoining_comes (h : twnState m ≠ 3) : m.eqFlush.comesInto 3 m.enterJoining := by
  have hstate : twnState m.eqFlush ≠ 3 := by
    rw [show twnState m.eqFlush = twnState m from fld_page31 (Mach.eqFlush_touch m) rfl _ _ rfl (by decide)]
    exact h
  have htail : (m.eqFlush.enterTwn 3).touch 0x400100 0 m.enterJoining :=
    touch_app (touch_each (touch_refl _ _ _) fun s x hx => touch_app hx (Mach.disarm_touch x (.deferral s)) rfl rfl) (Mach.onDsp_touch ..) rfl rfl
  exact (enterTwn_comes hstate (by decide)).touched htail rfl rfl

theorem joins_shows (hstate : twnState m ≠ 3) : m.entersTwn (m.joins g n) 3 ∧ (m.joins g n).twn.copy = some {}
    ∧ (m.joins g n).fld TWN_COPY_STS_phase = 1
    ∧ (m.joins g n).fld TWN_TICK_OFS_LO_w = toWidth 64 ((g.tick.toNat : Int) - n) % 2 ^ 32
    ∧ (m.joins g n).fld TWN_TICK_OFS_HI_w = toWidth 64 ((g.tick.toNat : Int) - n) / 2 ^ 32 % 2 ^ 32
    ∧ (m.joins g n).dsp.deferred = [] := by
  generalize hz : m.joins g n = z
  unfold Mach.joins at hz
  extract_lets x y at hz
  have hother : twnState m.mismatchOver ≠ 3 := by
    rw [twnState, mismatchOver_fld m rfl]
    exact hstate
  have hx : m.entersTwn x 3 := by
    refine (enterJoining_comes hother).enters ?_
    rw [fld_page31 (Mach.eqFlush_touch m.mismatchOver) rfl TWN_CNT_n 0 rfl (by decide), mismatchOver_fld m rfl]
  have hdsp : x.dsp.deferred = [] := rfl
  clear_value x
  obtain ⟨hlo, hhi⟩ := show64_shows x TWN_TICK_OFS_LO_w TWN_TICK_OFS_HI_w (toWidth 64 ((g.tick.toNat : Int) - n)) rfl
  have hshown : ∀ {f : Fd}, (Fd.clear TWN_COPY_STS_phase f && Fd.clear TWN_COPY_STS_cut f && Fd.clear TWN_COPY_STS_total f
      && Fd.clear TWN_STS_copy_active f) = true → z.fld f = y.fld f := fun hf => by
    rw [← hz, showCopy_fld _ _ _ _ _ hf, fld_onTwn]
  have hy : ∀ {f : Fd}, (Fd.clear TWN_TICK_OFS_LO_w f && Fd.clear TWN_TICK_OFS_HI_w f) = true → y.fld f = x.fld f := fun hf => show64_fld _ _ _ _ _ hf
  refine ⟨hx.since ((hshown rfl).trans (hy rfl)) ((hshown rfl).trans (hy rfl)) ((hshown rfl).trans (hy rfl)), ?_, ?_,
    (hshown rfl).trans hlo, (hshown rfl).trans hhi, ?_⟩
  · rw [← hz, (showCopy_shows ..).2.2.1]
    rfl
  · rw [← hz, (showCopy_shows ..).1]
    rfl
  · rw [← hz]
    exact hdsp

end

/-! ### What every HELLO shows (R225, R226) -/

/-- A HELLO kept, with the partner's unit and state shown. -/
def Mach.sawHello (m : Mach) (g : HelloMsg) : Mach :=
  ((m.onTwn fun t => { t with partner := some g }).checkUnit g.unit).showPartner g.state

/-- Fields that neither a frame taken nor a HELLO shown writes. -/
abbrev besideHello (f : Fd) : Bool := besidePartner f && Fd.clear TWN_STS_unit_clash f && Fd.noEvt 0x31 f
  && Fd.clear PLT_LAST_RX_tag f && Fd.clear PLT_CNT_n f

/-- What a module that has heard a HELLO shows, and what it has kept. -/
structure Mach.heard (m : Mach) (g : HelloMsg) (x : Mach) : Prop where
  partner : x.twn.partner = some g
  copy : x.twn.copy = m.twn.copy
  committed : x.twn.committed = m.twn.committed
  shown : x.fld TWN_STS_partner = g.state
  clash : x.flag TWN_STS_unit_clash = decide (g.unit = m.on TWN_CFG_unit)
  fld : ∀ f : Fd, besideHello f = true → x.fld f = m.fld f
  now : x.now = m.now
  force : x.force = m.force
  bulkF : x.bulkF = m.bulkF
  svi : m.svi.eq = [] → x.svi = m.svi

section
variable {m x y : Mach} {g : HelloMsg}

theorem sawHello_heard (h : m.meets y) (hbulk : y.bulkF = m.bulkF) : m.heard g (y.sawHello g) := by
  generalize hk : (y.onTwn fun t => { t with partner := some g }).checkUnit g.unit = k
  have hsaw : y.sawHello g = k.showPartner g.state := by rw [← hk]; rfl
  have hktouch : (y.onTwn fun t => { t with partner := some g }).touch 0x3008 0x2000000000000 k := hk ▸ Mach.checkUnit_touch ..
  have hktwn : k.twn = { y.twn with partner := some g } := twn_of_touch hktouch rfl
  have hkfld : ∀ f : Fd, (Fd.clear TWN_STS_unit_clash f && Fd.noEvt 0x31 f) = true → k.fld f = y.fld f := fun f hf => by
    rw [← hk, checkUnit_fld _ _ _ hf, fld_onTwn]
  have hkclash : k.flag TWN_STS_unit_clash = decide (g.unit = m.on TWN_CFG_unit) := by
    have hunit : (y.onTwn fun t => { t with partner := some g }).on TWN_CFG_unit = m.on TWN_CFG_unit := on_of_force h.force _ _
    rw [← hk, checkUnit_clash, hunit]
  have hksvi : k.svi = m.svi := (svi_of_touch hktouch rfl).trans h.svi
  have htouch := Mach.showPartner_touch k g.state
  have htwn : (k.showPartner g.state).twn = { y.twn with partner := some g } := (showPartner_twn ..).trans hktwn
  obtain ⟨hshown, hfld, hidle⟩ := showPartner_shows k g.state.isLt
  rw [hsaw]
  refine ⟨by rw [htwn], ?_, ?_, hshown, (congrArg (· == 1) (hfld TWN_STS_unit_clash 0 rfl)).trans hkclash, fun f hf => ?_, ?_, ?_, ?_, fun heq => ?_⟩
  · rw [htwn]
    exact h.copy
  · rw [htwn]
    exact h.twnPart Twn.committed (fun _ => rfl) fun _ _ _ _ => rfl
  · simp only [besideHello, Bool.and_eq_true] at hf
    obtain ⟨⟨⟨⟨hpartner, hclash⟩, hevt⟩, htag⟩, hcnt⟩ := hf
    rw [hfld f 0 (by simp only [besidePartner, Bool.and_eq_true]; exact hpartner), hkfld f (by rw [hclash, hevt]; rfl), h.fld f 0 htag hcnt hpartner.1.1.2]
  · exact ((now_of_touch htouch rfl).trans (now_of_touch hktouch rfl)).trans h.now
  · exact ((force_of_touch htouch rfl).trans (force_of_touch hktouch rfl)).trans h.force
  · exact ((bulkF_of_touch htouch rfl).trans (bulkF_of_touch hktouch rfl)).trans hbulk
  · exact (hidle (by rw [hksvi, heq])).1.trans hksvi

namespace Mach.heard
variable (h : m.heard g x)
include h

theorem thereToo : m.heard g x.partnerThere :=
  ⟨h.partner, h.copy, h.committed, h.shown, h.clash, h.fld, h.now, h.force, h.bulkF, h.svi⟩

theorem armed (tm : Timer) (a : Nat) : m.heard g (x.arm tm a) :=
  ⟨h.partner, h.copy, h.committed, h.shown, h.clash, h.fld, h.now, h.force, h.bulkF, h.svi⟩

theorem state : twnState x = twnState m := h.fld _ rfl

theorem digest : configDigest x = configDigest m := by
  unfold configDigest
  rw [h.force, h.bulkF]

theorem on (f : Fd) : x.on f = m.on f := on_of_force h.force f 0

theorem grid (heq : m.svi.eq = []) (nominal : Int) : gridMatch x nominal = gridMatch m nominal := by
  unfold gridMatch tickNow
  rw [h.svi heq, h.now]

/-- A lead heard with another configuration: the module is isolated (R241). -/
theorem isolates {must : Bool} (hconfig : g.config ≠ configDigest m) (hstate : twnState m ≠ 6) :
    m.entersTwn (x.tryJoin must) 6 ∧ (x.tryJoin must).flag TWN_STS_cfg_mismatch = true := by
  obtain ⟨⟨hst, hcnt, hevt⟩, hflag, -⟩ := tryJoin_isolates (must := must) h.partner (by rw [h.digest]; exact hconfig) (by rw [h.state]; exact hstate)
  exact ⟨⟨hst, by rw [hcnt, h.fld _ rfl], hevt⟩, hflag⟩

end Mach.heard

/-! ### A HELLO by the state of the twin (R226) -/

/-- A searching module goes on searching. -/
def Mach.searchesOn (m : Mach) : Mach := m.partnerThere.arm .search (m.now + m.cfg TWN_JOIN_search * 100000000)

/-- What a HELLO does once it is shown, by the state of the twin. -/
def Mach.helloAct (m : Mach) (g : HelloMsg) : Mach :=
  match twnState m with
  | 1 =>
    if g.state.val = 2 then m.searchesOn.tryJoin
    else if g.state.val = 1 then (if m.on TWN_CFG_unit = m.on TWN_CFG_pref then m.searchesOn.toLead else m.searchesOn.tryJoin)
    else m.searchesOn
  | 2 => if g.state.val = 2 then m.dualLead g.leadSince.toNat else m.offerCopy
  | 3 =>
    if m.twn.copy.isNone && !m.twn.committed then (m.partnerThere.disarm .witnessDelay).tryJoin true
    else m.partnerThere.disarm .witnessDelay
  | 6 => m.partnerThere.tryJoin
  | 7 => if g.state.val = 2 then m.tryJoin else m
  | _ => m

theorem helloRx_eq (m : Mach) (g : HelloMsg) : m.helloRx g = (m.sawHello g).helloAct g := rfl

theorem helloAct_rests (h : twnState m = 0 ∨ twnState m = 4 ∨ twnState m = 5 ∨ twnState m = 8) : m.helloAct g = m := by
  unfold Mach.helloAct
  rcases h with h | h | h | h <;> rw [h] <;> rfl

theorem helloAct_searching (h : twnState m = 1) : m.helloAct g =
    if g.state.val = 2 then m.searchesOn.tryJoin
    else if g.state.val = 1 then (if m.on TWN_CFG_unit = m.on TWN_CFG_pref then m.searchesOn.toLead else m.searchesOn.tryJoin)
    else m.searchesOn := by
  unfold Mach.helloAct
  rw [h]
  rfl

theorem helloAct_lead (h : twnState m = 2) : m.helloAct g = if g.state.val = 2 then m.dualLead g.leadSince.toNat else m.offerCopy := by
  unfold Mach.helloAct
  rw [h]
  rfl

theorem helloAct_joining (h : twnState m = 3) : m.helloAct g =
    if (m.twn.copy.isNone && !m.twn.committed) = true then (m.partnerThere.disarm .witnessDelay).tryJoin true
    else m.partnerThere.disarm .witnessDelay := by
  unfold Mach.helloAct
  rw [h]
  rfl

theorem helloAct_isolated (h : twnState m = 6) : m.helloAct g = m.partnerThere.tryJoin := by
  unfold Mach.helloAct
  rw [h]
  rfl

theorem helloAct_holding (h : twnState m = 7) : m.helloAct g = if g.state.val = 2 then m.tryJoin else m := by
  unfold Mach.helloAct
  rw [h]
  rfl

/-- A lead hears a lead that it does not give way to (R253). -/
theorem dualLead_stays {since : Nat}
    (h : ¬ (since < fld64 m TWN_LEAD_SINCE_LO_w TWN_LEAD_SINCE_HI_w
      ∨ (since = fld64 m TWN_LEAD_SINCE_LO_w TWN_LEAD_SINCE_HI_w ∧ m.on TWN_CFG_unit ≠ m.on TWN_CFG_pref))) :
    m.dualLead since = m.event 0x31 7 := by
  have hforce : (m.event 0x31 7).force = m.force := Mach.event_force _ _ _ _ (by decide)
  unfold Mach.dualLead
  extract_lets own x
  rw [on_of_force hforce, on_of_force hforce]
  exact if_neg h

/-- A lead that gives way over a link that is up tries to join (R253). -/
theorem dualLead_leaves {since : Nat} (hup : plaitUp m = true)
    (h : since < fld64 m TWN_LEAD_SINCE_LO_w TWN_LEAD_SINCE_HI_w
      ∨ (since = fld64 m TWN_LEAD_SINCE_LO_w TWN_LEAD_SINCE_HI_w ∧ m.on TWN_CFG_unit ≠ m.on TWN_CFG_pref)) :
    m.dualLead since = (m.event 0x31 7).tryJoin true := by
  have hforce : (m.event 0x31 7).force = m.force := Mach.event_force _ _ _ _ (by decide)
  have hup' : plaitUp (m.event 0x31 7) = true := (congrArg (· == 1) (fld_event m 0x31 7 _ PLT_STS_up 0 rfl)).trans hup
  unfold Mach.dualLead
  extract_lets own x
  rw [on_of_force hforce, on_of_force hforce, if_pos h]
  exact if_pos hup'

end

/-! ### A HELLO in a frame that passes -/

theorem completes_hello {s : State} {t : Nat} {hd : PlaitHdr} {g : HelloMsg} {P : Mach → Prop} (hpow : s.m.powered = true)
    (hp : s.m.plaitPasses hd) (hP : ∀ x, (s.m.advance t).heard g x → P (x.helloAct g)) :
    Completes (.hello t hd g) s ((s.m.advance t).delivers hd (.hello g) P) := by
  obtain ⟨y, hy, htook, htouch, htwn, hfld⟩ := plaitFrame_passes (s.m.advance t) hd (.hello g) hp
  have hmeets : (s.m.advance t).meets y :=
    ⟨now_of_touch htouch rfl, force_of_touch htouch rfl, svi_of_touch htouch rfl, pub_of_touch htouch rfl, ⟨_, _, _, htwn⟩, hfld⟩
  refine completes_run (f := fun m => m.plaitFrame hd (.hello g)) rfl hpow ⟨y, htook, hy, ?_⟩
  rw [show y.plaitMsg (.hello g) = (y.sawHello g).helloAct g from helloRx_eq y g]
  exact hP _ (sawHello_heard hmeets (bulkF_of_touch htouch rfl))

section
variable {m x : Mach} {g : HelloMsg} (h : m.heard g x)
include h

theorem Mach.heard.searching : m.heard g x.searchesOn := h.thereToo.armed ..

theorem Mach.heard.leadSince : fld64 x TWN_LEAD_SINCE_LO_w TWN_LEAD_SINCE_HI_w = fld64 m TWN_LEAD_SINCE_LO_w TWN_LEAD_SINCE_HI_w := by
  unfold fld64
  rw [h.fld _ rfl, h.fld _ rfl]

/-- A lead heard by a module that is searching, isolated or holding: it tries to join. -/
theorem helloAct_tries (hstate : twnState m = 1 ∨ twnState m = 6 ∨ twnState m = 7) (hlead : g.state.val = 2) :
    ∃ y, x.helloAct g = y.tryJoin ∧ m.heard g y := by
  rw [← h.state] at hstate
  rcases hstate with hst | hst | hst
  · rw [helloAct_searching hst, if_pos hlead]
    exact ⟨_, rfl, h.searching⟩
  · rw [helloAct_isolated hst]
    exact ⟨_, rfl, h.thereToo⟩
  · rw [helloAct_holding hst, if_pos hlead]
    exact ⟨_, rfl, h⟩

end

/-- Settles O52, clause by clause from the module that has heard the HELLO. -/
theorem helloMovesTheTwin : Obligations.HelloMovesTheTwin := by
  refine ⟨?shows, ?leads, ?isolates, ?joins, ?stays, ?leaves⟩
  case shows =>
    intro s t hd g hpow hp
    refine completes_hello hpow hp fun x hx => ?_
    have hstate : twnState x = twnState s.m := hx.state
    by_cases hsearching : twnState s.m = 1
    · have hw := hx.thereToo
      refine ⟨x.partnerThere, hw.partner, hw.shown, hw.clash, hw.state, fun h => by omega, fun _ hnot1 hnot2 => ?_, fun h => by omega,
        fun h => by omega, fun h => by omega, fun h => by omega⟩
      rw [helloAct_searching (hstate.trans hsearching), if_neg hnot2, if_neg hnot1, Mach.searchesOn, hx.now, cfg_of_force hx.force]
      rfl
    by_cases hjoining : twnState s.m = 3
    · have hw := hx.thereToo
      have hact := helloAct_joining (g := g) (hstate.trans hjoining)
      rw [hx.copy, hx.committed] at hact
      refine ⟨x.partnerThere, hw.partner, hw.shown, hw.clash, hw.state, fun h => by omega, fun h => by omega, fun h => by omega,
        fun _ hcopy => ?_, fun _ hcopy hcommitted => ?_, fun h => by omega⟩
      · refine hact.trans (if_neg ?_)
        rcases hcopy with hcopy | hcopy
        · simp [Option.isSome_iff_ne_none.mp hcopy]
        · simp [hcopy]
      · refine hact.trans (if_pos ?_)
        simp [hcopy, hcommitted]
    · refine ⟨x, hx.partner, hx.shown, hx.clash, hstate, fun h => helloAct_rests (hstate ▸ h), fun h => by omega, fun h hnot => ?_,
        fun h => by omega, fun h => by omega, fun h hnot => ?_⟩
      · rw [helloAct_lead (hstate.trans h), if_neg hnot]
      · rw [helloAct_holding (hstate.trans h), if_neg hnot]
  case leads =>
    intro s t hd g hpow hp hst hsearching hunit hpref
    refine completes_hello hpow hp fun x hx => ?_
    have hpref' : x.on TWN_CFG_unit = x.on TWN_CFG_pref := by
      rw [hx.on, hx.on]
      exact hpref
    have hclash : x.searchesOn.flag TWN_STS_unit_clash = false := hx.searching.clash.trans (decide_eq_false hunit)
    rw [helloAct_searching (hx.state.trans hst), if_neg (by omega), if_pos hsearching, if_pos hpref']
    have hother : twnState x.searchesOn ≠ 2 := by
      rw [hx.searching.state]
      exact fun h => absurd (hst.symm.trans h) (by decide)
    exact (toLead_comes hclash hother).enters (hx.searching.fld _ rfl)
  case isolates =>
    intro s t hd g hpow hp hst hlead hconfig
    refine completes_hello hpow hp fun x hx => ?_
    obtain ⟨y, hact, hy⟩ := helloAct_tries hx (hst.imp_right .inr) hlead
    rw [hact]
    exact hy.isolates hconfig (fun h => by rcases hst with hst | hst <;> exact absurd (hst.symm.trans h) (by decide))
  case joins =>
    intro s t hd g n hpow hp hst hlead hconfig heq hgrid
    refine completes_hello hpow hp fun x hx => ?_
    obtain ⟨y, hact, hy⟩ := helloAct_tries hx hst hlead
    have hother : twnState y ≠ 3 := fun h => by rcases hst with hst | hst | hst <;> exact absurd (hst.symm.trans (hy.state.symm.trans h)) (by decide)
    rw [hact, tryJoin_joins hy.partner (hconfig.trans hy.digest.symm) ((hy.grid heq _).trans hgrid)]
    obtain ⟨⟨hstate, hcount, hevt⟩, hrest⟩ := joins_shows (g := g) (n := n) hother
    exact ⟨⟨hstate, by rw [hcount, hy.fld _ rfl]; rfl, hevt⟩, hrest⟩
  case stays =>
    intro s t hd g hpow hp hst hlead hsince
    refine completes_hello hpow hp fun x hx => ?_
    have hkeeps : x.dualLead g.leadSince.toNat = x.event 0x31 7 := by
      refine dualLead_stays ?_
      rw [hx.leadSince, hx.on, hx.on]
      rintro (hlt | ⟨heq, hpref⟩)
      · rcases hsince with h | ⟨h, -⟩
        · exact absurd hlt (Nat.not_lt.mpr h.le)
        · exact absurd hlt (Nat.not_lt.mpr (Nat.le_of_eq h.symm))
      · rcases hsince with h | ⟨-, h⟩
        · exact absurd h (Nat.not_lt.mpr (Nat.le_of_eq heq))
        · exact hpref h
    rw [helloAct_lead (hx.state.trans hst), if_pos hlead, hkeeps]
    exact ⟨(fld_event _ _ _ _ _ _ rfl).trans (hx.state.trans hst), evt_event _ _ _ _ rfl,
      ((fld_event _ _ _ _ _ _ rfl).trans hx.shown).trans hlead⟩
  case leaves =>
    intro s t hd g hpow hp hst hlead hconfig hsince
    obtain ⟨-, -, hlinkUp, -⟩ := id hp
    refine completes_hello hpow hp fun x hx => ?_
    have hup : plaitUp x = true := (congrArg (· == 1) (hx.fld PLT_STS_up rfl)).trans hlinkUp
    have hleaves : x.dualLead g.leadSince.toNat = (x.event 0x31 7).tryJoin true := by
      refine dualLead_leaves hup ?_
      rw [hx.leadSince, hx.on, hx.on]
      exact hsince
    have htouch := Mach.event_touch x 0x31 7 .module (P := 0x2000000000000) rfl (by decide)
    have hdigest : configDigest (x.event 0x31 7) = configDigest s.m := by
      unfold configDigest
      rw [force_of_touch htouch rfl, bulkF_of_touch htouch rfl]
      exact hx.digest
    have hfld : ∀ f : Fd, Fd.noEvt 0x31 f = true → (x.event 0x31 7).fld f = x.fld f := fun f hf => fld_event _ _ _ _ _ _ hf
    obtain ⟨⟨hstate, hcount, hevt⟩, hflag, hevts⟩ := tryJoin_isolates (m := x.event 0x31 7) (g := g) (must := true)
      ((congrArg Twn.partner (twn_of_touch htouch rfl)).trans hx.partner) (by rw [hdigest]; exact hconfig)
      (by rw [twnState, hfld _ rfl]; exact fun h => absurd (hst.symm.trans (hx.state.symm.trans h)) (by decide))
    rw [helloAct_lead (hx.state.trans hst), if_pos hlead, hleaves]
    refine ⟨⟨hstate, ?_, hevt⟩, hflag, hevts 7 (by decide) (evt_event _ _ _ _ rfl)⟩
    rw [hcount, hfld _ rfl, hx.fld _ rfl]
    rfl

end Sys2Proof.Machine

/-! # Witness frames -/

namespace Sys2Proof.Machine

/-! ### Witness frames sent (R248) -/

section
variable {m : Mach}

/-- A witness frame is counted. -/
def Mach.witnessCounted (m : Mach) : Mach := (m.onTwn fun t => { t with witTx := t.witTx + 1 }).count (TWN_CNT_n.nth 7)

theorem sendWitness_held (h : m.keyFor (m.cfg TWN_WIT_KEY_slot) 4 = none) : m.sendWitness = m := by
  unfold Mach.sendWitness
  rw [h]

theorem drawWitSeq_core (m : Mach) (k : Nat) : twnCore (m.drawWitSeq k).2.twn = twnCore m.twn := by
  unfold Mach.drawWitSeq
  extract_lets
  rfl

/-- Between a counted witness frame and the frames in their ports: only what ports and pairs hold has changed. -/
def Mach.carries (m x : Mach) : Prop := m.touch 0xd04b108 0xffff00050000 x ∧ twnCore x.twn = twnCore m.twn

theorem carries_enqueue {x : Mach} (h : m.carries x) (e : Nat) (f : TxFrame) : m.carries (x.enqueue e f) :=
  ⟨touch_app h.1 (Mach.enqueue_touch ..) rfl rfl, (congrArg twnCore (twn_of_touch (Mach.enqueue_touch x e f) rfl)).trans h.2⟩

theorem sendWitness_counted {k : Key} (h : m.keyFor (m.cfg TWN_WIT_KEY_slot) 4 = some k) : m.witnessCounted.carries m.sendWitness := by
  generalize hz : m.sendWitness = z
  unfold Mach.sendWitness at hz
  rw [h] at hz
  dsimp -zeta only at hz
  extract_lets -underBinder -merge -useContext +onlyGivenNames dst src w covered vid pcp tagged tag fr f ports x at hz
  have hx : m.witnessCounted.carries x := ⟨touch_refl _ _ _, rfl⟩
  clear_value x
  rw [← hz]
  refine each_inv m.witnessCounted.carries _ _ x (fun k y hy => ?_) hx
  dsimp only
  split
  · exact hy
  · split
    · exact each_inv m.witnessCounted.carries _ _ y (fun e v hv => carries_enqueue hv ..) hy
    · have hdrawn : m.witnessCounted.carries (y.drawWitSeq k).2 :=
        ⟨touch_app hy.1 (Mach.drawWitSeq_touch y k) rfl rfl, (drawWitSeq_core y k).trans hy.2⟩
      refine each_inv m.witnessCounted.carries _ _ _ (fun e u hu => carries_enqueue hu ..) ?_
      split
      · exact ⟨touch_app hdrawn.1 (Mach.openDup_touch ..) rfl rfl, (congrArg twnCore (twn_of_touch (Mach.openDup_touch ..) rfl)).trans hdrawn.2⟩
      · exact hdrawn

/-- With the key a witness frame is sent: it is counted on the page and in the number of the next one. -/
theorem sendWitness_sends (h : (m.keyFor (m.cfg TWN_WIT_KEY_slot) 4).isSome = true) :
    m.sendWitness.fld (TWN_CNT_n.nth 7) = (m.fld (TWN_CNT_n.nth 7) + 1) % 2 ^ 32 ∧ m.sendWitness.twn.witTx = m.twn.witTx + 1 := by
  obtain ⟨k, hk⟩ := Option.isSome_iff_exists.mp h
  obtain ⟨htouch, htwn⟩ := sendWitness_counted hk
  exact ⟨(fld_page31 htouch rfl _ _ rfl (by decide)).trans (fld_count _ _ _ _ rfl), (congrArg Twn.witTx htwn :)⟩

end

/-! ### A witness frame received (R249) -/

section
variable {m x y z : Mach} {fr : Frame} {w : WitnessPdu}

/-- The checks of a witness frame. -/
def witnessOk (m : Mach) (fr : Frame) (w : WitnessPdu) : Bool :=
  m.on TWN_CFG_en && fr.fcs == .good && fr.etype == 0x88B6
    && fr.dst == macOf m TWN_WIT_DMAC_LO_lo TWN_WIT_DMAC_HI_hi 0 && fr.src != macOf m TWN_WIT_SMAC_LO_lo TWN_WIT_SMAC_HI_hi 0
    && (match m.keyFor (m.cfg TWN_WIT_KEY_slot) 4 with
      | some k => witnessAuth k w.covered == w.auth
      | none => false)

/-- A witness frame rejected. -/
def Mach.witnessBad (m : Mach) : Mach := m.count (TWN_CNT_n.nth 9)

theorem witnessOk_iff : witnessOk m fr w = true ↔ m.witnessFits fr w := by
  unfold witnessOk Mach.witnessFits
  cases m.keyFor (m.cfg TWN_WIT_KEY_slot) 4 <;> simp [and_assoc]

/-- The sequence number of a witness frame. -/
abbrev witnessSeq (w : WitnessPdu) : Nat := w.boot.toNat * 2 ^ 48 + w.sent.toNat

/-- A witness frame taken: counted, the partner seen and its state shown, and the wait for the next one begun. -/
def Mach.sawWitness (m : Mach) (w : WitnessPdu) : Mach :=
  let y := (m.onTwn fun t => { t with witSeq := witnessSeq w, evidence := t.evidence || isEvidence m w }).count (TWN_CNT_n.nth 8)
  let z := (y.checkUnit w.unit).setFlag TWN_STS_partner_seen 0 true
  (z.arm .witnessRx (z.now + z.cfg TWN_WIT_timeout * 1000)).showPartner w.state.val

theorem witnessRx_eq (hbody : fr.body = .witness w) : m.witnessRx fr = if (!witnessOk m fr w) = true then m.witnessBad
    else if w.unit = m.on TWN_CFG_unit then (m.checkUnit w.unit).witnessBad
    else if witnessSeq w ≤ m.twn.witSeq then m.witnessBad
    else ((m.sawWitness w).witnessAct w).twinEval := by
  unfold Mach.witnessRx
  rw [hbody]
  rfl

theorem witnessRx_unfit (hbody : fr.body = .witness w) (h : ¬ m.witnessFits fr w) : m.witnessRx fr = m.witnessBad := by
  rw [witnessRx_eq hbody, if_pos (by simpa using mt witnessOk_iff.mp h)]

section
variable (hbody : fr.body = .witness w) (hfits : m.witnessFits fr w)
include hbody hfits

theorem witnessRx_fits : m.witnessRx fr =
    if w.unit = m.on TWN_CFG_unit then (m.checkUnit w.unit).witnessBad
    else if witnessSeq w ≤ m.twn.witSeq then m.witnessBad
    else ((m.sawWitness w).witnessAct w).twinEval := by
  rw [witnessRx_eq hbody, if_neg (by simpa using witnessOk_iff.mpr hfits)]

theorem witnessRx_ownUnit (hunit : w.unit = m.on TWN_CFG_unit) : m.witnessRx fr = (m.checkUnit w.unit).witnessBad := by
  rw [witnessRx_fits hbody hfits, if_pos hunit]

theorem witnessRx_old (hunit : w.unit ≠ m.on TWN_CFG_unit) (hold : witnessSeq w ≤ m.twn.witSeq) : m.witnessRx fr = m.witnessBad := by
  rw [witnessRx_fits hbody hfits, if_neg hunit, if_pos hold]

theorem witnessRx_newer (hunit : w.unit ≠ m.on TWN_CFG_unit) (hnew : m.twn.witSeq < witnessSeq w) :
    m.witnessRx fr = ((m.sawWitness w).witnessAct w).twinEval := by
  rw [witnessRx_fits hbody hfits, if_neg hunit, if_neg (Nat.not_le.mpr hnew)]

end

theorem witnessBad_shows (m : Mach) : m.witnessBad.fld (TWN_CNT_n.nth 9) = (m.fld (TWN_CNT_n.nth 9) + 1) % 2 ^ 32 ∧ m.witnessBad.twn = m.twn
    ∧ twnState m.witnessBad = twnState m :=
  ⟨fld_count _ _ _ _ rfl, rfl, fld_count_clear _ _ _ _ _ _ rfl⟩

/-- What a module that has taken a witness frame shows. -/
structure Mach.witnessed (m : Mach) (w : WitnessPdu) (x : Mach) : Prop where
  counted : x.fld (TWN_CNT_n.nth 8) = (m.fld (TWN_CNT_n.nth 8) + 1) % 2 ^ 32
  seen : x.flag TWN_STS_partner_seen = true
  clash : x.flag TWN_STS_unit_clash = false
  shown : x.fld TWN_STS_partner = w.state

theorem Mach.witnessed.since (h : m.witnessed w x) (hy : ∀ f : Fd, twnApart f = true → y.fld f = x.fld f) : m.witnessed w y :=
  ⟨(hy _ rfl).trans h.counted, (congrArg (· == 1) (hy TWN_STS_partner_seen rfl)).trans h.seen,
    (congrArg (· == 1) (hy TWN_STS_unit_clash rfl)).trans h.clash, (hy _ rfl).trans h.shown⟩

theorem Mach.witnessed.comes {st : Nat} (h : m.witnessed w x) (hy : x.comesInto st y) : m.witnessed w y := h.since fun _ hf => hy.fld 0 hf

/-- The evaluation that follows brings the module into Lead or leaves it (R227). -/
theorem Mach.witnessed.eval (h : m.witnessed w x) (h2 : twnState x ≠ 2) (h4 : twnState x ≠ 4) : m.witnessed w x.twinEval := by
  by_cases hwant : x.twn.wantLead = true
  · have hlead := toLead_comes h.clash h2
    rw [twinEval_leads hwant h.clash (by rw [hlead.state]; decide)]
    exact h.comes hlead
  · rw [twinEval_rests (fun h => absurd h hwant) h4]
    exact h

/-- Fields that a witness frame taken leaves, whatever follows from the partner's state shown. -/
abbrev besideWitness (f : Fd) : Bool := besidePartner f && Fd.clear TWN_STS_unit_clash f && Fd.noEvt 0x31 f
  && Fd.clear TWN_STS_partner_seen f && Fd.clear (TWN_CNT_n.nth 8) f

/-- The module that has taken a witness frame, before it acts on it. -/
structure Mach.saw (m : Mach) (w : WitnessPdu) (x : Mach) : Prop where
  shows : m.witnessed w x
  twn : x.twn = { m.twn with witSeq := witnessSeq w, evidence := m.twn.evidence || isEvidence m w }
  fld : ∀ f : Fd, besideWitness f = true → x.fld f = m.fld f
  now : x.now = m.now
  force : x.force = m.force
  armed : m.svi.eq = [] → x.deadline .witnessRx = some (m.now + m.cfg TWN_WIT_timeout * 1000)

theorem sawWitness_saw (hunit : w.unit ≠ m.on TWN_CFG_unit) : m.saw w (m.sawWitness w) := by
  generalize hz : m.sawWitness w = z
  unfold Mach.sawWitness at hz
  extract_lets y v at hz
  have hytwn : y.twn = { m.twn with witSeq := witnessSeq w, evidence := m.twn.evidence || isEvidence m w } := rfl
  have hyfld : ∀ f : Fd, Fd.clear (TWN_CNT_n.nth 8) f = true → y.fld f = m.fld f := fun f hf => fld_count_clear _ _ _ _ _ _ hf
  have hycount : y.fld (TWN_CNT_n.nth 8) = (m.fld (TWN_CNT_n.nth 8) + 1) % 2 ^ 32 := fld_count _ _ _ _ rfl
  have hybase : y.now = m.now ∧ y.force = m.force ∧ y.svi = m.svi := ⟨rfl, rfl, rfl⟩
  clear_value y
  obtain ⟨hynow, hyforce, hysvi⟩ := hybase
  have hcheck := Mach.checkUnit_touch y w.unit
  have hvflag : v.flag TWN_STS_partner_seen = true := flag_set _ _ _ _ rfl
  have hvfld : ∀ f : Fd, Fd.clear TWN_STS_partner_seen f = true → v.fld f = (y.checkUnit w.unit).fld f := fun f hf => fld_flag_clear _ _ _ _ _ _ hf
  have hvclash : v.flag TWN_STS_unit_clash = false := by
    refine (congrArg (· == 1) (hvfld TWN_STS_unit_clash rfl)).trans ((checkUnit_clash y w.unit).trans (decide_eq_false ?_))
    rw [on_of_force hyforce]
    exact hunit
  have hvtwn : v.twn = y.twn := checkUnit_twn y w.unit
  have hvbase : v.now = (y.checkUnit w.unit).now ∧ v.force = (y.checkUnit w.unit).force ∧ v.svi = (y.checkUnit w.unit).svi := ⟨rfl, rfl, rfl⟩
  rw [now_of_touch hcheck rfl, force_of_touch hcheck rfl, svi_of_touch hcheck rfl, hynow, hyforce, hysvi] at hvbase
  obtain ⟨hvnow, hvforce, hvsvi⟩ := hvbase
  clear_value v
  generalize hu : v.arm .witnessRx (v.now + v.cfg TWN_WIT_timeout * 1000) = u at hz
  have hufld : ∀ f : Fd, u.fld f = v.fld f := fun f => by rw [← hu, fld_arm]
  have hudead : u.deadline .witnessRx = some (m.now + m.cfg TWN_WIT_timeout * 1000) := by
    rw [← hu, deadline_arm_same, hvnow, cfg_of_force hvforce]
  have hubase : u.twn = v.twn ∧ u.now = v.now ∧ u.force = v.force ∧ u.svi = v.svi := by rw [← hu]; exact ⟨rfl, rfl, rfl, rfl⟩
  obtain ⟨hutwn, hunow, huforce, husvi⟩ := hubase
  obtain ⟨hshown, hfld, hidle⟩ := showPartner_shows u w.state.isLt
  have htouch := Mach.showPartner_touch u w.state.val
  rw [hz] at hshown hfld hidle htouch
  have hkept : ∀ f : Fd, besidePartner f = true → z.fld f = v.fld f := fun f hf => (hfld f 0 hf).trans (hufld f)
  refine ⟨⟨?_, ?_, ?_, hshown⟩, ?_, fun f hf => ?_, ?_, ?_, fun heq => ?_⟩
  · rw [hkept _ rfl, hvfld _ rfl, checkUnit_fld _ _ _ rfl, hycount]
  · exact (congrArg (· == 1) (hkept TWN_STS_partner_seen rfl)).trans hvflag
  · exact (congrArg (· == 1) (hkept TWN_STS_unit_clash rfl)).trans hvclash
  · rw [← hz, showPartner_twn, hutwn, hvtwn, hytwn]
  · simp only [besideWitness, Bool.and_eq_true] at hf
    obtain ⟨⟨⟨⟨hpartner, hclash⟩, hevt⟩, hseen⟩, hcnt⟩ := hf
    rw [hkept f (by simp only [besidePartner, Bool.and_eq_true]; exact hpartner), hvfld f hseen, checkUnit_fld _ _ _ (by rw [hclash, hevt]; rfl),
      hyfld f hcnt]
  · rw [now_of_touch htouch rfl, hunow, hvnow]
  · rw [force_of_touch htouch rfl, huforce, hvforce]
  · rw [(hidle (by rw [husvi, hvsvi, heq])).2 _ (by decide), hudead]

/-! ### What a witness frame moves (R226, R250) -/

theorem witnessAct_searching (h : twnState m = 1) : m.witnessAct w =
    if (!plaitUp m && w.state.val == 2) = true then m.searchesOn.enterTwn 6 else m.searchesOn := by
  unfold Mach.witnessAct
  rw [h]
  rfl

theorem witnessAct_deciding (h : twnState m = 5) : m.witnessAct w =
    if isEvidence m w = true then m.enterTwn 6 else if (w.state.val == 2) = true then m else m.toLead := by
  unfold Mach.witnessAct
  rw [h]
  rfl

theorem witnessAct_isolated (h : twnState m = 6) : m.witnessAct w = if (w.state.val == 2) = true then m.partnerThere else m.toLead := by
  unfold Mach.witnessAct
  rw [h]
  rfl

theorem witnessAct_rests (h1 : twnState m ≠ 1) (h2 : twnState m ≠ 2) (h3 : twnState m ≠ 3) (h5 : twnState m ≠ 5) (h6 : twnState m ≠ 6) :
    m.witnessAct w = m := by
  unfold Mach.witnessAct
  split
  · next h => exact absurd h h1
  · next h => exact absurd h h2
  · next h => exact absurd h h3
  · next h => exact absurd h h5
  · next h => exact absurd h h6
  · rfl

theorem partnerThere_eval (h : twnState m ≠ 4) : m.partnerThere.twinEval = m.partnerThere :=
  twinEval_rests (fun hwant => absurd hwant (by simp [Mach.partnerThere, Mach.onTwn])) h

theorem searchesOn_eval (h : twnState m = 1) : m.searchesOn.twinEval = m.searchesOn :=
  twinEval_rests (fun h => absurd h (by simp [Mach.searchesOn, Mach.partnerThere, Mach.onTwn, Mach.arm])) (by
    rw [show twnState m.searchesOn = twnState m from rfl, h]
    decide)

namespace Mach.saw
variable (h : m.saw w x)
include h

theorem state : twnState x = twnState m := h.fld _ rfl

theorem evidence : isEvidence x w = isEvidence m w := by
  unfold isEvidence
  rw [h.twn]

theorem wantLead : x.twn.wantLead = m.twn.wantLead := by rw [h.twn]

theorem enters {st : Nat} (hy : x.comesInto st y) : m.entersTwn y st := hy.enters (h.fld _ rfl)

theorem leads (h2 : twnState m ≠ 2) : x.comesInto 2 x.toLead := toLead_comes h.shows.clash (by rw [h.state]; exact h2)

/-- Evidence, or a lead heard by a deciding or searching module: it is isolated. -/
theorem isolates (h6 : twnState m ≠ 6) : x.comesInto 6 (x.enterTwn 6) := enterTwn_comes (by rw [h.state]; exact h6) (by decide)

/-- Outside the states in which the module has a partner, what follows keeps what the frame has shown. -/
theorem acts (h2 : twnState m ≠ 2) (h3 : twnState m ≠ 3) (h4 : twnState m ≠ 4) : m.witnessed w (x.witnessAct w).twinEval := by
  rw [← h.state] at h2 h3 h4
  by_cases h1 : twnState x = 1
  · rw [witnessAct_searching h1]
    split
    · have hcomes : x.searchesOn.comesInto 6 (x.searchesOn.enterTwn 6) := enterTwn_comes (by rw [show twnState x.searchesOn = 1 from h1]; decide) (by decide)
      rw [hcomes.eval (by decide)]
      exact Mach.witnessed.comes (x := x.searchesOn) (h.shows.since fun _ _ => rfl) hcomes
    · rw [searchesOn_eval h1]
      exact h.shows.since fun _ _ => rfl
  by_cases h5 : twnState x = 5
  · rw [witnessAct_deciding h5]
    split
    · have hcomes := h.isolates (by rw [← h.state, h5]; decide)
      rw [hcomes.eval (by decide)]
      exact h.shows.comes hcomes
    · split
      · exact h.shows.eval h2 h4
      · rw [(toLead_comes h.shows.clash h2).eval (by decide)]
        exact h.shows.comes (toLead_comes h.shows.clash h2)
  by_cases h6 : twnState x = 6
  · rw [witnessAct_isolated h6]
    split
    · rw [partnerThere_eval h4]
      exact h.shows.since fun _ _ => rfl
    · rw [(toLead_comes h.shows.clash h2).eval (by decide)]
      exact h.shows.comes (toLead_comes h.shows.clash h2)
  · rw [witnessAct_rests h1 h2 h3 h5 h6]
    exact h.shows.eval h2 h4

end Mach.saw

end

end Sys2Proof.Machine

/-! # The timers and the commands of the twin -/

namespace Sys2Proof.Machine

section
variable {m k x : Mach} {st : Nat}

/-! ### Copies (R242, R245) -/

theorem failCopy_none (h : m.twn.copy = none) : m.failCopy = m := if_pos (by rw [h]; rfl)

theorem failCopy_elsewhere (hstate : twnState m ≠ 3) (hcopy : m.twn.copy.isSome = true) :
    m.failCopy = m.endCopy.arm .copyRetry (m.now + 100000000) := by
  have hother : m.fld TWN_STS_state ≠ 3 := hstate
  unfold Mach.failCopy
  rw [Option.isNone_eq_false_iff.mpr hcopy, if_neg (by decide), if_neg hother]

/-- A copy of at least one slot starts at the first one. -/
theorem startCopy_shows (hslots : slotList m ≠ []) : m.startCopy.twn.copy = some { nextSlot := (slotList m).headD 0 }
    ∧ m.startCopy.fld TWN_COPY_STS_phase = 1 ∧ m.startCopy.fld TWN_COPY_STS_cut = 0 ∧ m.startCopy.flag TWN_STS_copy_active = true := by
  have hstart : m.startCopy = (m.onTwn fun t => { t with copy := some { nextSlot := (slotList m).headD 0 }, latch := [] }).showCopy 1 0
      (slotList m).length := if_neg (by simpa using hslots)
  generalize hy : (m.onTwn fun t => { t with copy := some { nextSlot := (slotList m).headD 0 }, latch := [] }) = y at hstart
  obtain ⟨hphase, hcut, htwn, -⟩ := showCopy_shows y 1 0 (slotList m).length
  rw [hstart, htwn]
  exact ⟨by rw [← hy]; rfl, hphase, hcut, flag_set _ _ _ _ rfl⟩

/-! ### What follows an expiry (R226, R227) -/

/-- The wait for a witness frame that runs out elsewhere than in Isolated shows the partner unseen, and no more. -/
theorem quiet_rests (m : Mach) (h : twnState m ≠ 6) : (m.onExpiry .witnessRx Mach.witnessQuiet).twn = m.twn
    ∧ ∀ f : Fd, Fd.clear TWN_STS_partner_seen f = true → (m.onExpiry .witnessRx Mach.witnessQuiet).fld f = m.fld f := by
  cases hdue : m.due .witnessRx with
  | false =>
    rw [onExpiry_not_due _ _ _ hdue]
    exact ⟨rfl, fun _ _ => rfl⟩
  | true =>
    have hkept : ∀ f : Fd, Fd.clear TWN_STS_partner_seen f = true →
        ((m.disarm .witnessRx).setFlag TWN_STS_partner_seen 0 false).fld f = m.fld f := fun f hf => fld_flag_clear _ _ _ _ _ _ hf
    have hquiet : (m.disarm .witnessRx).witnessQuiet = (m.disarm .witnessRx).setFlag TWN_STS_partner_seen 0 false :=
      if_neg fun h6 => h ((hkept TWN_STS_state rfl).symm.trans h6)
    rw [onExpiry_due _ _ _ hdue, hquiet]
    exact ⟨rfl, hkept⟩

/-- A module that the loss of the partner has brought into a state stays there, whatever the wait for a witness frame does. -/
theorem Mach.comesInto.quiets (h : m.comesInto st x) (h4 : st ≠ 4) (h6 : st ≠ 6) (hcount : m.fld TWN_CNT_n = k.fld TWN_CNT_n) :
    k.entersTwn (x.onExpiry .witnessRx Mach.witnessQuiet).twinEval st
      ∧ (x.onExpiry .witnessRx Mach.witnessQuiet).twinEval.fld TWN_COPY_STS_phase = m.fld TWN_COPY_STS_phase := by
  obtain ⟨htwn, hfld⟩ := quiet_rests x (by rw [h.state]; exact h6)
  have hstate : twnState (x.onExpiry .witnessRx Mach.witnessQuiet) = st := (hfld TWN_STS_state rfl).trans h.state
  rw [twinEval_rests (by rw [Mach.keptFromLead, htwn]; intro hwant; rw [h.settled] at hwant; contradiction) (by rw [hstate]; exact h4)]
  exact ⟨(h.enters hcount).since (hfld _ rfl) (hfld _ rfl) (hfld _ rfl), (hfld _ rfl).trans (h.fld 0 rfl)⟩

/-! ### Swap (R254) -/

theorem startSwap_names (hlead : twnState m = 2) (hpartner : m.fld TWN_STS_partner = 4) (hup : plaitUp m = true) (hnone : m.twn.swapAt = none) :
    m.startSwap.twn.swapAt = some (swapTickOf m) ∧ m.startSwap.regs = m.regs := by
  have hfree : m.twn.swapAt.isNone = true := by rw [hnone]; rfl
  unfold Mach.startSwap
  rw [if_pos ⟨hlead, hpartner, hup, hfree⟩]
  extract_lets ahead tick
  have htick : tick = swapTickOf m := (Nat.add_assoc ..).symm
  rw [htick]
  exact ⟨(congrArg Twn.swapAt (plaitSend_twn (m.onTwn fun t => { t with swapAt := some (swapTickOf m) }) _) :), plaitSend_regs ..⟩

theorem startSwap_none (h : twnState m ≠ 2 ∨ m.fld TWN_STS_partner ≠ 4 ∨ plaitUp m = false ∨ m.twn.swapAt ≠ none) : m.startSwap = m := by
  refine if_neg ?_
  rintro ⟨hlead, hpartner, hup, hnone⟩
  rcases h with h | h | h | h
  · exact h hlead
  · exact h hpartner
  · rw [hup] at h
    contradiction
  · exact h (Option.isNone_iff_eq_none.mp hnone)

theorem swapNow_clashing (h : m.flag TWN_STS_unit_clash = true) : m.swapNow = m := by
  unfold Mach.swapNow
  split
  · exact if_pos h
  · rfl

theorem swapNow_early {n : Nat} (h : m.twn.swapAt = some n) (hearly : latestPair m < n) : m.swapNow = m := by
  unfold Mach.swapNow
  rw [h]
  dsimp only
  rw [if_neg (Nat.not_le.mpr hearly), ite_self]

/-- The swap tick is reached and named no more. -/
abbrev Mach.swapOver (m : Mach) : Mach := m.onTwn fun t => { t with swapAt := none }

theorem swapNow_reached {n : Nat} (h : m.twn.swapAt = some n) (hreached : n ≤ latestPair m) (hclash : m.flag TWN_STS_unit_clash = false) :
    m.swapNow = if twnState m = 2 then (m.swapOver.setFld TWN_STS_partner 0 2).enterTwn 4
      else if twnState m = 4 then (m.swapOver.setFld TWN_STS_partner 0 4).toLead else m.swapOver := by
  unfold Mach.swapNow
  rw [h]
  dsimp only
  rw [hclash, if_neg (by decide), if_pos hreached]
  rfl

/-- The partner's state as a swap shows it, and the state into which it brings the module. -/
theorem swapped {p : Nat} (h : (m.swapOver.setFld TWN_STS_partner 0 p).comesInto st x) (hp : p < 16) : m.entersTwn x st ∧ x.fld TWN_STS_partner = p :=
  ⟨h.enters (fld_set_clear _ _ _ _ _ _ rfl), (h.fld 0 rfl).trans ((fld_set _ _ _ _ rfl).trans (Nat.mod_eq_of_lt hp))⟩

/-! ### The commands (R246, R254, R255) -/

theorem twnCommand_swap (m : Mach) : m.twnCommand 1 = m.startSwap := by
  unfold Mach.twnCommand
  rw [show bit 1 0 = true from rfl, show bit 1 1 = false from rfl, show bit 1 2 = false from rfl]
  simp only [if_true, Bool.false_and, Bool.false_eq_true, if_false]

theorem twnCommand_lead (m : Mach) : m.twnCommand 2 = if twnState m = 7 then m.toLead else m := by
  unfold Mach.twnCommand
  rw [show bit 2 0 = false from rfl, show bit 2 1 = true from rfl, show bit 2 2 = false from rfl]
  simp only [Bool.true_and, Bool.false_and, Bool.false_eq_true, if_false, beq_iff_eq]

/-- The module searches anew, and both its intervals have begun (R255). -/
def Mach.rejoins (m : Mach) : Mach := ((m.enterTwn 1).arm .helloTx (m.now + 10000000)).arm .witnessTx (m.now + 1000000)

theorem twnCommand_rejoin (m : Mach) : m.twnCommand 4 = if twnState m = 8 ∧ twinKeys m = true then m.rejoins else m := by
  unfold Mach.twnCommand
  rw [show bit 4 0 = false from rfl, show bit 4 1 = false from rfl, show bit 4 2 = true from rfl]
  simp only [Bool.true_and, Bool.false_and, Bool.false_eq_true, if_false, Bool.and_eq_true, beq_iff_eq]
  rfl

end

section
variable {s : State} {t : Nat} {src : Src} {c : Instr} {P : Mach → Prop}

/-- A command that is a write of TWN_CMD, from what its word does to the module as the write finds it. -/
theorem completes_twnCommand {v : Nat} (h : exec c s = s.run t fun m => m.put src 0x31 0x06C v) (hpow : s.m.powered = true)
    (hsrc : s.m.mayWrite src) (hv : plainCmd 0x31 0x06C v = true)
    (hP : ∀ k, (s.m.advance t).alike k → ∀ m', (k.twnCommand v).touch 0x3008 0 m' → P m') : Completes c s P := by
  refine completes_put h hpow hsrc hv fun k i hk _ => ?_
  have hact : k.act src 0x31 0x06C i v = k.twnCommand v := rfl
  rw [hact]
  exact hP k hk _ (Mach.auditWrite_touch ..)

end

section
variable {m k : Mach} (h : m.alike k)
include h

theorem alike_twn : k.twn = m.twn := (congrArg Mach.twn h.1 :)

theorem alike_rim : k.rim = m.rim := (congrArg Mach.rim h.1 :)

theorem alike_svi : k.svi = m.svi := (congrArg Mach.svi h.1 :)

theorem alike_twnState : twnState k = twnState m := alike_fld h _ _ (by decide) (by decide)

theorem alike_flag (f : Fd) (hp : f.page < 256) (ho : f.off < 4096) : k.flag f = m.flag f := congrArg (· == 1) (alike_fld h f 0 hp ho)

theorem alike_keyFor (slot usage : Nat) : k.keyFor slot usage = m.keyFor slot usage := by
  unfold Mach.keyFor
  rw [alike_fld h _ _ (by decide) (by decide), alike_rim h]

theorem alike_twinKeys : twinKeys k = twinKeys m := by
  unfold twinKeys
  simp only [alike_keyFor h, cfg_of_force (alike_force h)]

theorem alike_swapTick : swapTickOf k = swapTickOf m := by
  have htick : tickNow k = tickNow m := by
    unfold tickNow
    rw [alike_now h, alike_svi h]
  have hoffset : tickOfs k = tickOfs m := by
    unfold tickOfs fld64
    rw [alike_fld h _ _ (by decide) (by decide), alike_fld h _ _ (by decide) (by decide)]
  unfold swapTickOf latestPair pairTick
  simp only [htick, hoffset, cfg_of_force (alike_force h)]

end

end Sys2Proof.Machine

/-! # What the timers, the witness frames and the commands of the twin do -/

namespace Sys2Proof.Machine

/-! ### The timers of a copy (R242, R245) -/

section
variable {s : State} {t : Nat}

theorem copySettle_idle (hf : s.m.fires .copySettle t) (hcopy : s.m.twn.copy = none) :
    Completes (.copySettleTimeout t) s fun m' => m'.twn = s.m.twn ∧ m'.regs = s.m.regs := by
  refine completes_fires rfl hf ?_
  rw [failCopy_none (m := (s.m.advance t).disarm .copySettle) hcopy]
  exact ⟨rfl, rfl⟩

theorem copySettle_fails (hf : s.m.fires .copySettle t) (hcopy : s.m.twn.copy.isSome = true) :
    Completes (.copySettleTimeout t) s fun m' => m'.fld TWN_COPY_STS_phase = 0
      ∧ (twnState s.m ≠ 3 → m'.twn.copy = none ∧ m'.deadline .copyRetry = some ((s.m.advance t).now + 100000000))
      ∧ (twnState s.m = 3 → m'.twn.copy = some {} ∧ m'.evt 0x31 6 = true ∧ m'.fld (TWN_CNT_n.nth 6) = (s.m.fld (TWN_CNT_n.nth 6) + 1) % 2 ^ 32) := by
  refine completes_fires rfl hf ?_
  generalize hk : (s.m.advance t).disarm .copySettle = k
  have hbase : k.regs = s.m.regs ∧ k.now = (s.m.advance t).now ∧ k.twn = s.m.twn := by rw [← hk]; exact ⟨rfl, rfl, rfl⟩
  obtain ⟨hregs, hnow, htwn⟩ := hbase
  have hkst : twnState k = twnState s.m := fld_of_regs hregs _ _
  rw [← hkst, ← hnow, ← fld_of_regs hregs (TWN_CNT_n.nth 6)]
  rw [← htwn] at hcopy
  by_cases hstate : twnState k = 3
  · obtain ⟨c, hc⟩ := Option.isSome_iff_exists.mp hcopy
    obtain ⟨hnew, hphase, hevt, hcount⟩ := failCopy_joining hstate hc
    exact ⟨hphase, fun h => absurd hstate h, fun _ => ⟨hnew, hevt, hcount⟩⟩
  · have hphase : k.failCopy.fld TWN_COPY_STS_phase = 0 := by
      rw [failCopy_elsewhere hstate hcopy, fld_arm]
      exact (endCopy_shows k).2
    exact ⟨hphase, fun _ => failCopy_lead hcopy hstate, fun h => absurd h hstate⟩

theorem copyRetry_starts (hf : s.m.fires .copyRetry t) (hlead : twnState s.m = 2) (hup : plaitUp s.m = true) (hpartner : s.m.fld TWN_STS_partner = 3)
    (hcopy : s.m.twn.copy = none) (hslots : slotList s.m ≠ []) :
    Completes (.copyRetryExpiry t) s fun m' => m'.twn.copy = some { nextSlot := (slotList s.m).headD 0 } ∧ m'.fld TWN_COPY_STS_phase = 1
      ∧ m'.fld TWN_COPY_STS_cut = 0 ∧ m'.flag TWN_STS_copy_active = true := by
  have hoffer : ((s.m.advance t).disarm .copyRetry).offerCopy = ((s.m.advance t).disarm .copyRetry).startCopy :=
    if_pos ⟨hlead, hup, hpartner, Option.isNone_iff_eq_none.mpr hcopy, by rw [Mach.running, deadline_disarm_same]; rfl⟩
  refine completes_fires rfl hf ?_
  rw [hoffer]
  exact startCopy_shows (m := (s.m.advance t).disarm .copyRetry) hslots

theorem copyRetry_idle (hf : s.m.fires .copyRetry t)
    (hnot : twnState s.m ≠ 2 ∨ plaitUp s.m = false ∨ s.m.fld TWN_STS_partner ≠ 3 ∨ s.m.twn.copy ≠ none) :
    Completes (.copyRetryExpiry t) s fun m' => m'.twn = s.m.twn ∧ m'.regs = s.m.regs := by
  have hoffer : ((s.m.advance t).disarm .copyRetry).offerCopy = (s.m.advance t).disarm .copyRetry := by
    refine if_neg ?_
    rintro ⟨hlead, hup, hpartner, hcopy, -⟩
    rcases hnot with h | h | h | h
    · exact h hlead
    · exact absurd (h.symm.trans hup) (by decide)
    · exact h hpartner
    · exact h (Option.isNone_iff_eq_none.mp hcopy)
  refine completes_fires rfl hf ?_
  rw [hoffer]
  exact ⟨rfl, rfl⟩

/-! ### The interval of witness frames (R248) -/

theorem witnessInterval_sends (hf : s.m.fires .witnessTx t) (hen : s.m.on TWN_CFG_en = true) (hstate : twnState s.m ≠ 8) :
    Completes (.witnessInterval t) s fun m' => (∃ y : Mach, m' = y.sendWitness ∧ y.deadline .witnessTx = some ((s.m.advance t).now + 1000000))
      ∧ (s.m.keyFor (s.m.cfg TWN_WIT_KEY_slot) 4 = none → m'.regs = s.m.regs ∧ m'.ports = s.m.ports)
      ∧ ((s.m.keyFor (s.m.cfg TWN_WIT_KEY_slot) 4).isSome = true →
          m'.fld (TWN_CNT_n.nth 7) = (s.m.fld (TWN_CNT_n.nth 7) + 1) % 2 ^ 32 ∧ m'.twn.witTx = s.m.twn.witTx + 1) := by
  refine completes_fires rfl hf ?_
  generalize hk : (s.m.advance t).disarm .witnessTx = k
  have hgoes : k.on TWN_CFG_en = true ∧ twnState k ≠ 8 := by rw [← hk]; exact ⟨hen, hstate⟩
  rw [if_pos hgoes]
  generalize hy : k.arm .witnessTx (k.now + 1000000) = y
  have hyregs : y.regs = s.m.regs ∧ y.ports = s.m.ports ∧ y.twn = s.m.twn := by rw [← hy, ← hk]; exact ⟨rfl, rfl, rfl⟩
  have hykey : y.keyFor (y.cfg TWN_WIT_KEY_slot) 4 = s.m.keyFor (s.m.cfg TWN_WIT_KEY_slot) 4 := by rw [← hy, ← hk]; rfl
  obtain ⟨hregs, hports, htwn⟩ := hyregs
  refine ⟨⟨y, rfl, ?_⟩, fun hkey => ?_, fun hkey => ?_⟩
  · rw [← hy, deadline_arm_same, ← hk]
    rfl
  · rw [sendWitness_held (hykey.trans hkey)]
    exact ⟨hregs, hports⟩
  · obtain ⟨hcount, htx⟩ := sendWitness_sends (m := y) (by rw [hykey]; exact hkey)
    exact ⟨by rw [hcount, fld_of_regs hregs], by rw [htx, htwn]⟩

theorem witnessInterval_stops (hf : s.m.fires .witnessTx t) (hnot : s.m.on TWN_CFG_en = false ∨ twnState s.m = 8) :
    Completes (.witnessInterval t) s fun m' => m'.regs = s.m.regs ∧ m'.ports = s.m.ports ∧ m'.deadline .witnessTx = none := by
  refine completes_fires rfl hf ?_
  generalize hk : (s.m.advance t).disarm .witnessTx = k
  have hrests : ¬ (k.on TWN_CFG_en = true ∧ twnState k ≠ 8) := by
    rw [← hk]
    rintro ⟨hen, hstate⟩
    exact hnot.elim (fun h => absurd (h.symm.trans hen) (by decide)) fun h => hstate h
  rw [if_neg hrests, ← hk]
  exact ⟨rfl, rfl, deadline_disarm_same ..⟩

end

/-! ### A witness frame received (R249, R250) -/

section
variable {s : State} {t : Nat} {p : Fin 16} {fr : Frame} {w : WitnessPdu} (hpow : s.m.powered = true) (hbody : fr.body = .witness w)
include hpow hbody

theorem witnessFrame_unfit (hfits : ¬ s.m.witnessFits fr w) :
    Completes (.witnessFrameRx t p fr) s fun m' => m'.fld (TWN_CNT_n.nth 9) = (s.m.fld (TWN_CNT_n.nth 9) + 1) % 2 ^ 32 ∧ m'.twn = s.m.twn
      ∧ twnState m' = twnState s.m := by
  refine completes_run (f := fun m => m.witnessRx fr) rfl hpow ?_
  rw [witnessRx_unfit (m := s.m.advance t) hbody hfits]
  exact witnessBad_shows (s.m.advance t)

variable (hfits : s.m.witnessFits fr w)
include hfits

theorem witnessFrame_ownUnit (hunit : w.unit = s.m.on TWN_CFG_unit) :
    Completes (.witnessFrameRx t p fr) s fun m' => m'.fld (TWN_CNT_n.nth 9) = (s.m.fld (TWN_CNT_n.nth 9) + 1) % 2 ^ 32
      ∧ m'.flag TWN_STS_unit_clash = true ∧ m'.twn = s.m.twn ∧ twnState m' = twnState s.m := by
  refine completes_run (f := fun m => m.witnessRx fr) rfl hpow ?_
  rw [witnessRx_ownUnit (m := s.m.advance t) hbody hfits hunit]
  obtain ⟨hcount, htwn, hstate⟩ := witnessBad_shows ((s.m.advance t).checkUnit w.unit)
  have hclash : ((s.m.advance t).checkUnit w.unit).flag TWN_STS_unit_clash = true :=
    (checkUnit_clash (s.m.advance t) w.unit).trans (decide_eq_true hunit)
  have hkept : ((s.m.advance t).checkUnit w.unit).witnessBad.flag TWN_STS_unit_clash = ((s.m.advance t).checkUnit w.unit).flag TWN_STS_unit_clash :=
    congrArg (· == 1) (fld_count_clear _ _ TWN_STS_unit_clash _ _ _ rfl)
  refine ⟨hcount.trans ?_, hkept.trans hclash, htwn.trans (checkUnit_twn ..), hstate.trans (checkUnit_fld _ _ _ rfl)⟩
  rw [checkUnit_fld _ _ _ rfl]
  rfl

variable (hunit : w.unit ≠ s.m.on TWN_CFG_unit)
include hunit

theorem witnessFrame_old (hold : witnessSeq w ≤ s.m.twn.witSeq) :
    Completes (.witnessFrameRx t p fr) s fun m' => m'.fld (TWN_CNT_n.nth 9) = (s.m.fld (TWN_CNT_n.nth 9) + 1) % 2 ^ 32 ∧ m'.twn = s.m.twn
      ∧ twnState m' = twnState s.m := by
  refine completes_run (f := fun m => m.witnessRx fr) rfl hpow ?_
  rw [witnessRx_old (m := s.m.advance t) hbody hfits hunit hold]
  exact witnessBad_shows (s.m.advance t)

theorem witnessFrame_taken {P : Mach → Prop} (hnew : s.m.twn.witSeq < witnessSeq w)
    (hP : ∀ x, (s.m.advance t).saw w x → P (x.witnessAct w).twinEval) : Completes (.witnessFrameRx t p fr) s P := by
  refine completes_run (f := fun m => m.witnessRx fr) rfl hpow ?_
  rw [witnessRx_newer (m := s.m.advance t) hbody hfits hunit hnew]
  exact hP _ (sawWitness_saw (m := s.m.advance t) hunit)

end

namespace Mach.saw
variable {m x : Mach} {w : WitnessPdu} (h : m.saw w x)
include h

theorem up : plaitUp x = plaitUp m := congrArg (· == 1) (h.fld PLT_STS_up rfl)

theorem rests (hwant : m.twn.wantLead = false) (h4 : twnState m ≠ 4) : x.twinEval = x :=
  twinEval_rests (fun hx => absurd (hx.symm.trans (h.wantLead.trans hwant)) (by decide)) (by rw [h.state]; exact h4)

theorem deciding_evidence (hstate : twnState m = 5) (hlead : w.state.val = 2) (hlast : m.twn.lastTick < w.tick.toNat) :
    m.entersTwn (x.witnessAct w).twinEval 6 := by
  have hev : isEvidence x w = true := by
    rw [h.evidence, isEvidence, hlead]
    exact decide_eq_true hlast
  have hcomes := h.isolates (by rw [hstate]; decide)
  rw [witnessAct_deciding (h.state.trans hstate), if_pos hev, hcomes.eval (by decide)]
  exact h.enters hcomes

theorem deciding_waits (hstate : twnState m = 5) (hlead : w.state.val = 2) (hlast : w.tick.toNat ≤ m.twn.lastTick) (hwant : m.twn.wantLead = false) :
    twnState (x.witnessAct w).twinEval = 5 := by
  have hev : isEvidence x w = false := by
    rw [h.evidence, isEvidence, hlead]
    exact decide_eq_false (Nat.not_lt.mpr hlast)
  rw [witnessAct_deciding (h.state.trans hstate), hev, if_neg (by decide), if_pos (by rw [hlead]; rfl), h.rests hwant (by rw [hstate]; decide)]
  exact h.state.trans hstate

theorem unled (hstate : twnState m = 5 ∨ twnState m = 6) (hlead : w.state.val ≠ 2) : m.entersTwn (x.witnessAct w).twinEval 2 := by
  have hno : (w.state.val == 2) = false := beq_false_of_ne hlead
  have hact : x.witnessAct w = x.toLead := by
    rcases hstate with hst | hst
    · rw [witnessAct_deciding (h.state.trans hst), isEvidence, hno]
      rfl
    · rw [witnessAct_isolated (h.state.trans hst), hno]
      rfl
  have hcomes := h.leads (by rcases hstate with hst | hst <;> · rw [hst]; decide)
  rw [hact, hcomes.eval (by decide)]
  exact h.enters hcomes

theorem isolated_led (hstate : twnState m = 6) (hlead : w.state.val = 2) : twnState (x.witnessAct w).twinEval = 6 := by
  have hst : twnState x = 6 := h.state.trans hstate
  rw [witnessAct_isolated hst, if_pos (by rw [hlead]; rfl), partnerThere_eval (by rw [hst]; decide)]
  exact hst

theorem searching_isolated (hstate : twnState m = 1) (hdown : plaitUp m = false) (hlead : w.state.val = 2) :
    m.entersTwn (x.witnessAct w).twinEval 6 := by
  have hst : twnState x.searchesOn = 1 := h.state.trans hstate
  have hcomes : x.searchesOn.comesInto 6 (x.searchesOn.enterTwn 6) := enterTwn_comes (by rw [hst]; decide) (by decide)
  have hact : x.witnessAct w = x.searchesOn.enterTwn 6 := by
    rw [witnessAct_searching (h.state.trans hstate), h.up, hdown, hlead]
    rfl
  rw [hact, hcomes.eval (by decide)]
  exact hcomes.enters (h.fld TWN_CNT_n rfl)

theorem searching_on (hstate : twnState m = 1) (hno : plaitUp m = true ∨ w.state.val ≠ 2) : twnState (x.witnessAct w).twinEval = 1
    ∧ (x.witnessAct w).twinEval.deadline .search = some (m.now + m.cfg TWN_JOIN_search * 100000000) := by
  have hst : twnState x = 1 := h.state.trans hstate
  have hact : x.witnessAct w = x.searchesOn := by
    rw [witnessAct_searching hst]
    refine if_neg ?_
    rw [h.up]
    rcases hno with hup | hlead
    · rw [hup, Bool.not_true, Bool.false_and]
      decide
    · simp [hlead]
  rw [hact, searchesOn_eval hst]
  refine ⟨hst, (deadline_arm_same ..).trans ?_⟩
  rw [h.now, cfg_of_force h.force]

end Mach.saw

theorem witnessFrame_newer {s : State} {t : Nat} {p : Fin 16} {fr : Frame} {w : WitnessPdu} (hpow : s.m.powered = true) (hbody : fr.body = .witness w)
    (hfits : s.m.witnessFits fr w) (hunit : w.unit ≠ s.m.on TWN_CFG_unit) (hnew : s.m.twn.witSeq < witnessSeq w) (h2 : twnState s.m ≠ 2)
    (h3 : twnState s.m ≠ 3) (h4 : twnState s.m ≠ 4) :
    Completes (.witnessFrameRx t p fr) s fun m' => m'.fld (TWN_CNT_n.nth 8) = (s.m.fld (TWN_CNT_n.nth 8) + 1) % 2 ^ 32
      ∧ m'.flag TWN_STS_partner_seen = true ∧ m'.flag TWN_STS_unit_clash = false ∧ m'.fld TWN_STS_partner = w.state
      ∧ (twnState s.m = 5 → s.m.twn.lastTick < w.tick.toNat → w.state.val = 2 → s.m.entersTwn m' 6)
      ∧ (twnState s.m = 5 → w.tick.toNat ≤ s.m.twn.lastTick → w.state.val = 2 → s.m.twn.wantLead = false → twnState m' = 5)
      ∧ ((twnState s.m = 5 ∨ twnState s.m = 6) → w.state.val ≠ 2 → s.m.entersTwn m' 2)
      ∧ (twnState s.m = 6 → w.state.val = 2 → twnState m' = 6)
      ∧ (twnState s.m = 1 → plaitUp s.m = false → w.state.val = 2 → s.m.entersTwn m' 6)
      ∧ (twnState s.m = 1 → (plaitUp s.m = true ∨ w.state.val ≠ 2) → twnState m' = 1
          ∧ m'.deadline .search = some ((s.m.advance t).now + s.m.cfg TWN_JOIN_search * 100000000))
      ∧ (twnState s.m ≠ 1 → twnState s.m ≠ 5 → twnState s.m ≠ 6 → s.m.twn.wantLead = false → twnState m' = twnState s.m ∧ m'.twn.witSeq = witnessSeq w
          ∧ (s.m.svi.eq = [] → m'.deadline .witnessRx = some ((s.m.advance t).now + s.m.cfg TWN_WIT_timeout * 1000))) := by
  refine witnessFrame_taken hpow hbody hfits hunit hnew fun x hx => ?_
  obtain ⟨hcount, hseen, hclash, hshown⟩ := hx.acts h2 h3 h4
  have hstate : twnState x = twnState s.m := hx.state
  refine ⟨hcount, hseen, hclash, hshown, fun hst hlast hlead => hx.deciding_evidence hst hlead hlast,
    fun hst hlast hlead hwant => hx.deciding_waits hst hlead hlast hwant, fun hst hlead => hx.unled hst hlead, fun hst hlead => hx.isolated_led hst hlead,
    fun hst hdown hlead => hx.searching_isolated hst hdown hlead, fun hst hno => hx.searching_on hst hno, fun h1 h5 h6 hwant => ?_⟩
  rw [witnessAct_rests (by rw [hstate]; exact h1) (by rw [hstate]; exact h2) (by rw [hstate]; exact h3) (by rw [hstate]; exact h5)
    (by rw [hstate]; exact h6), hx.rests hwant h4]
  exact ⟨hstate, by rw [hx.twn], hx.armed⟩

/-! ### The waits for the partner (R226, R250) -/

section
variable {m : Mach}

theorem decideOut_deciding (h : twnState m = 5) : m.decideOut = m.toLead := by
  unfold Mach.decideOut
  rw [h]
  rfl

theorem decideOut_joining (h : twnState m = 3) : m.decideOut = if plaitUp m then m else m.leadLost := by
  unfold Mach.decideOut
  rw [h]
  rfl

/-- The partner is shown unseen. -/
def Mach.partnerUnseen (m : Mach) : Mach := m.setFlag TWN_STS_partner_seen 0 false

theorem partnerUnseen_fld (m : Mach) {f : Fd} (h : Fd.clear TWN_STS_partner_seen f = true) : m.partnerUnseen.fld f = m.fld f :=
  fld_flag_clear _ _ _ _ _ _ h

theorem partnerUnseen_clash (m : Mach) : m.partnerUnseen.flag TWN_STS_unit_clash = m.flag TWN_STS_unit_clash :=
  congrArg (· == 1) (partnerUnseen_fld m (f := TWN_STS_unit_clash) rfl)

theorem witnessQuiet_eq (m : Mach) : m.witnessQuiet = if twnState m = 6 then m.partnerUnseen.toLead else m.partnerUnseen := by
  have hstate : twnState m.partnerUnseen = twnState m := partnerUnseen_fld m rfl
  rw [← hstate]
  rfl

end

section
variable {s : State} {t : Nat} {P : Mach → Prop}

theorem completes_witnessDelay (hf : s.m.fires .witnessDelay t)
    (hP : P ((((s.m.advance t).disarm .witnessDelay).decideOut).onExpiry .witnessRx Mach.witnessQuiet).twinEval) : Completes (.witnessTimeout t) s P := by
  refine completes_run (f := fun m => ((m.onExpiry .witnessDelay fun m => m.decideOut).onExpiry .witnessRx fun m => m.witnessQuiet).twinEval)
    rfl hf.1 ?_
  rw [onExpiry_due _ _ _ hf.2]
  exact hP

theorem completes_witnessQuiet (hf : s.m.fires .witnessRx t) (hdelay : (s.m.advance t).due .witnessDelay = false)
    (hP : P ((s.m.advance t).disarm .witnessRx).witnessQuiet.twinEval) : Completes (.witnessTimeout t) s P := by
  refine completes_run (f := fun m => ((m.onExpiry .witnessDelay fun m => m.decideOut).onExpiry .witnessRx fun m => m.witnessQuiet).twinEval)
    rfl hf.1 ?_
  rw [onExpiry_not_due _ _ _ hdelay, onExpiry_due _ _ _ hf.2]
  exact hP

theorem witnessDelay_leads (hf : s.m.fires .witnessDelay t) (hclash : s.m.flag TWN_STS_unit_clash = false)
    (hstate : twnState s.m = 5 ∨ (twnState s.m = 3 ∧ plaitUp s.m = false ∧ s.m.on TWN_CFG_policy = false)) :
    Completes (.witnessTimeout t) s fun m' => s.m.entersTwn m' 2 := by
  refine completes_witnessDelay hf ?_
  rcases hstate with hst | ⟨hst, hdown, hpolicy⟩
  · have hcomes := toLead_comes (m := (s.m.advance t).disarm .witnessDelay) hclash (fun h => absurd (hst.symm.trans h) (by decide))
    rw [decideOut_deciding (m := (s.m.advance t).disarm .witnessDelay) hst]
    exact (hcomes.quiets (by decide) (by decide) rfl).1
  · have hcomes := leadLost_leads (m := (s.m.advance t).disarm .witnessDelay) hpolicy hclash (fun h => absurd (hst.symm.trans h) (by decide))
    rw [decideOut_joining (m := (s.m.advance t).disarm .witnessDelay) hst, show plaitUp ((s.m.advance t).disarm .witnessDelay) = false from hdown]
    exact (hcomes.quiets (by decide) (by decide) (fld_endCopy _ _ _ rfl)).1

theorem witnessDelay_holds (hf : s.m.fires .witnessDelay t) (hst : twnState s.m = 3) (hdown : plaitUp s.m = false) (hpolicy : s.m.on TWN_CFG_policy = true) :
    Completes (.witnessTimeout t) s fun m' => s.m.entersTwn m' 7 ∧ m'.fld TWN_COPY_STS_phase = 0 := by
  have hcomes := leadLost_holds (m := (s.m.advance t).disarm .witnessDelay) hpolicy (fun h => absurd (hst.symm.trans h) (by decide))
  obtain ⟨henters, hphase⟩ := hcomes.quiets (k := s.m) (by decide) (by decide) (fld_endCopy _ _ _ rfl)
  refine completes_witnessDelay hf ?_
  rw [decideOut_joining (m := (s.m.advance t).disarm .witnessDelay) hst, show plaitUp ((s.m.advance t).disarm .witnessDelay) = false from hdown]
  exact ⟨henters, hphase.trans (endCopy_shows _).2⟩

theorem witnessDelay_stays (hf : s.m.fires .witnessDelay t) (hst : twnState s.m = 3) (hup : plaitUp s.m = true) (hkept : s.m.keptFromLead) :
    Completes (.witnessTimeout t) s fun m' => twnState m' = 3 := by
  refine completes_witnessDelay hf ?_
  rw [decideOut_joining (m := (s.m.advance t).disarm .witnessDelay) hst, show plaitUp ((s.m.advance t).disarm .witnessDelay) = true from hup, if_pos rfl]
  obtain ⟨htwn, hfld⟩ := quiet_rests ((s.m.advance t).disarm .witnessDelay) (fun h => absurd (hst.symm.trans h) (by decide))
  have hstate : twnState (((s.m.advance t).disarm .witnessDelay).onExpiry .witnessRx Mach.witnessQuiet) = 3 := (hfld TWN_STS_state rfl).trans hst
  rw [twinEval_rests ?_ (by rw [hstate]; decide)]
  · exact hstate
  · rw [Mach.keptFromLead, htwn]
    exact fun hwant => (congrArg (· == 1) (hfld TWN_STS_unit_clash rfl)).trans (hkept hwant)

theorem witnessRx_quiet (hf : s.m.fires .witnessRx t) (hdelay : (s.m.advance t).due .witnessDelay = false) (h4 : twnState s.m ≠ 4) (h6 : twnState s.m ≠ 6)
    (hkept : s.m.keptFromLead) :
    Completes (.witnessTimeout t) s fun m' => m'.flag TWN_STS_partner_seen = false ∧ twnState m' = twnState s.m ∧ m'.twn = s.m.twn := by
  have hstate : twnState ((s.m.advance t).disarm .witnessRx).partnerUnseen = twnState s.m := partnerUnseen_fld _ rfl
  refine completes_witnessQuiet hf hdelay ?_
  rw [witnessQuiet_eq, if_neg (show twnState ((s.m.advance t).disarm .witnessRx) ≠ 6 from h6), twinEval_rests ?_ (by rw [hstate]; exact h4)]
  · exact ⟨flag_set _ _ _ _ rfl, hstate, rfl⟩
  · exact fun hwant => (partnerUnseen_clash _).trans (hkept hwant)

theorem witnessRx_quietLeads (hf : s.m.fires .witnessRx t) (hdelay : (s.m.advance t).due .witnessDelay = false) (hst : twnState s.m = 6)
    (hclash : s.m.flag TWN_STS_unit_clash = false) :
    Completes (.witnessTimeout t) s fun m' => m'.flag TWN_STS_partner_seen = false ∧ s.m.entersTwn m' 2 := by
  have hstate : twnState ((s.m.advance t).disarm .witnessRx).partnerUnseen = 6 := (partnerUnseen_fld _ rfl).trans hst
  have hcomes := toLead_comes ((partnerUnseen_clash ((s.m.advance t).disarm .witnessRx)).trans hclash) (by rw [hstate]; decide)
  refine completes_witnessQuiet hf hdelay ?_
  rw [witnessQuiet_eq, if_pos (show twnState ((s.m.advance t).disarm .witnessRx) = 6 from hst), hcomes.eval (by decide)]
  exact ⟨(hcomes.flag rfl).trans (flag_set _ _ _ _ rfl), hcomes.enters (partnerUnseen_fld _ rfl)⟩

/-! ### Search and revert (R226, R254) -/

theorem search_leads (hf : s.m.fires .search t) (hst : twnState s.m = 1) (hclash : s.m.flag TWN_STS_unit_clash = false) :
    Completes (.searchExpiry t) s fun m' => s.m.entersTwn m' 2 := by
  refine completes_fires rfl hf ?_
  rw [if_pos (show twnState ((s.m.advance t).disarm .search) = 1 from hst)]
  exact (toLead_comes (m := (s.m.advance t).disarm .search) hclash (fun h => absurd (hst.symm.trans h) (by decide))).enters rfl

theorem search_idle (hf : s.m.fires .search t) (hst : twnState s.m ≠ 1) :
    Completes (.searchExpiry t) s fun m' => m'.regs = s.m.regs ∧ m'.twn = s.m.twn := by
  refine completes_fires rfl hf ?_
  rw [if_neg (show ¬ twnState ((s.m.advance t).disarm .search) = 1 from hst)]
  exact ⟨rfl, rfl⟩

theorem search_clashing (hf : s.m.fires .search t) (hst : twnState s.m = 1) (hclash : s.m.flag TWN_STS_unit_clash = true) :
    Completes (.searchExpiry t) s fun m' => m'.regs = s.m.regs ∧ m'.twn = { s.m.twn with wantLead := true } := by
  refine completes_fires rfl hf ?_
  rw [if_pos (show twnState ((s.m.advance t).disarm .search) = 1 from hst), toLead_clashing (m := (s.m.advance t).disarm .search) hclash]
  exact ⟨rfl, rfl⟩

theorem revertHold_idle (hf : s.m.fires .revertHold t)
    (hnot : twnState s.m ≠ 2 ∨ s.m.fld TWN_STS_partner ≠ 4 ∨ plaitUp s.m = false ∨ s.m.twn.swapAt ≠ none) :
    Completes (.revertHoldExpiry t) s fun m' => m'.twn = s.m.twn ∧ m'.regs = s.m.regs := by
  refine completes_fires rfl hf ?_
  rw [startSwap_none (m := (s.m.advance t).disarm .revertHold) hnot]
  exact ⟨rfl, rfl⟩

/-! ### The swap tick (R225, R254) -/

theorem swapTick_early (hpow : s.m.powered = true) (hearly : ∀ n, s.m.twn.swapAt = some n → latestPair (s.m.advance t) < n) :
    Completes (.swapTick t) s fun m' => m' = s.m.advance t := by
  refine completes_run (f := Mach.swapNow) rfl hpow ?_
  cases hswap : s.m.twn.swapAt with
  | none => exact swapNow_none hswap
  | some n => exact swapNow_early (m := s.m.advance t) hswap (hearly n hswap)

theorem swapTick_lead {n : Nat} (hpow : s.m.powered = true) (hswap : s.m.twn.swapAt = some n) (hreached : n ≤ latestPair (s.m.advance t))
    (hst : twnState s.m = 2) (hclash : s.m.flag TWN_STS_unit_clash = false) :
    Completes (.swapTick t) s fun m' => s.m.entersTwn m' 4 ∧ m'.fld TWN_STS_partner = 2 := by
  refine completes_run (f := Mach.swapNow) rfl hpow ?_
  rw [swapNow_reached (m := s.m.advance t) hswap hreached hclash, if_pos (show twnState (s.m.advance t) = 2 from hst)]
  refine swapped (m := s.m.advance t) (enterTwn_comes ?_ (by decide)) (by decide)
  rw [twnState, fld_set_clear _ _ _ _ _ _ rfl]
  exact fun h => absurd (hst.symm.trans h) (by decide)

theorem swapTick_follower {n : Nat} (hpow : s.m.powered = true) (hswap : s.m.twn.swapAt = some n) (hreached : n ≤ latestPair (s.m.advance t))
    (hst : twnState s.m = 4) (hclash : s.m.flag TWN_STS_unit_clash = false) :
    Completes (.swapTick t) s fun m' => s.m.entersTwn m' 2 ∧ m'.fld TWN_STS_partner = 4 := by
  have hfour : twnState (s.m.advance t) = 4 := hst
  refine completes_run (f := Mach.swapNow) rfl hpow ?_
  rw [swapNow_reached (m := s.m.advance t) hswap hreached hclash, hfour, if_neg (by decide), if_pos rfl]
  refine swapped (m := s.m.advance t) (toLead_comes ?_ ?_) (by decide)
  · exact (congrArg (· == 1) (fld_set_clear _ _ TWN_STS_unit_clash _ _ _ rfl)).trans hclash
  · rw [twnState, fld_set_clear _ _ _ _ _ _ rfl]
    exact fun h => absurd (hst.symm.trans h) (by decide)

end

/-! ### The commands (R246, R254, R255) -/

/-- A command that has left the module as the write found it. -/
theorem leftAlone {s : State} {t : Nat} {k m' : Mach} (hk : (s.m.advance t).alike k) (hm' : k.touch 0x3008 0 m') : m'.twn = s.m.twn ∧ twnState m' = twnState s.m :=
  ⟨(twn_of_touch hm' rfl).trans (alike_twn hk :), (fld_touch hm' _ _ rfl).trans (alike_twnState hk :)⟩

section
variable {s : State} {t : Nat} {src : Src} (hpow : s.m.powered = true) (hsrc : s.m.mayWrite src)
include hpow hsrc

theorem swapCommand_names (hlead : twnState s.m = 2) (hpartner : s.m.fld TWN_STS_partner = 4) (hup : plaitUp s.m = true) (hnone : s.m.twn.swapAt = none) :
    Completes (.twnCmdSwap t src) s fun m' => m'.twn.swapAt = some (swapTickOf (s.m.advance t)) ∧ twnState m' = 2 := by
  refine completes_twnCommand (v := 1) rfl hpow hsrc (by decide) fun k hk m' hm' => ?_
  rw [twnCommand_swap] at hm'
  have hkst : twnState k = 2 := (alike_twnState hk).trans hlead
  obtain ⟨hswap, hregs⟩ := startSwap_names hkst ((alike_fld hk TWN_STS_partner 0 (by decide) (by decide)).trans hpartner)
    ((alike_flag hk PLT_STS_up (by decide) (by decide)).trans hup) ((congrArg Twn.swapAt (alike_twn hk)).trans hnone)
  refine ⟨?_, (fld_touch hm' _ _ rfl).trans ((fld_of_regs hregs _ _).trans hkst)⟩
  rw [twn_of_touch hm' rfl, hswap, alike_swapTick hk]

theorem swapCommand_idle (hnot : twnState s.m ≠ 2 ∨ s.m.fld TWN_STS_partner ≠ 4 ∨ plaitUp s.m = false ∨ s.m.twn.swapAt ≠ none) :
    Completes (.twnCmdSwap t src) s fun m' => m'.twn = s.m.twn ∧ twnState m' = twnState s.m := by
  refine completes_twnCommand (v := 1) rfl hpow hsrc (by decide) fun k hk m' hm' => ?_
  rw [twnCommand_swap, startSwap_none ?_] at hm'
  · exact leftAlone hk hm'
  · rw [alike_twnState hk, alike_fld hk TWN_STS_partner 0 (by decide) (by decide), plaitUp, alike_flag hk _ (by decide) (by decide), alike_twn hk]
    exact hnot

theorem leadCommand_leads (hst : twnState s.m = 7) (hclash : s.m.flag TWN_STS_unit_clash = false) :
    Completes (.twnCmdLead t src) s fun m' => s.m.entersTwn m' 2 := by
  refine completes_twnCommand (v := 2) rfl hpow hsrc (by decide) fun k hk m' hm' => ?_
  have hkst : twnState k = 7 := (alike_twnState hk).trans hst
  rw [twnCommand_lead, if_pos hkst] at hm'
  have hcomes := toLead_comes ((alike_flag hk TWN_STS_unit_clash (by decide) (by decide)).trans hclash) (by rw [hkst]; decide)
  exact (hcomes.touched hm' rfl rfl).enters (alike_fld hk TWN_CNT_n 0 (by decide) (by decide))

theorem leadCommand_idle (hst : twnState s.m ≠ 7) : Completes (.twnCmdLead t src) s fun m' => m'.twn = s.m.twn ∧ twnState m' = twnState s.m := by
  refine completes_twnCommand (v := 2) rfl hpow hsrc (by decide) fun k hk m' hm' => ?_
  rw [twnCommand_lead, if_neg (by rw [alike_twnState hk]; exact hst)] at hm'
  exact leftAlone hk hm'

theorem leadCommand_clashing (hst : twnState s.m = 7) (hclash : s.m.flag TWN_STS_unit_clash = true) :
    Completes (.twnCmdLead t src) s fun m' => m'.twn = { s.m.twn with wantLead := true } ∧ twnState m' = 7 := by
  refine completes_twnCommand (v := 2) rfl hpow hsrc (by decide) fun k hk m' hm' => ?_
  have hkst : twnState k = 7 := (alike_twnState hk).trans hst
  rw [twnCommand_lead, if_pos hkst, toLead_clashing ((alike_flag hk TWN_STS_unit_clash (by decide) (by decide)).trans hclash)] at hm'
  refine ⟨?_, (fld_touch hm' _ _ rfl).trans ((fld_onTwn ..).trans hkst)⟩
  rw [twn_of_touch hm' rfl]
  exact congrArg (fun t : Twn => { t with wantLead := true }) (alike_twn hk)

theorem rejoinCommand_rejoins (hst : twnState s.m = 8) (hkeys : twinKeys s.m = true) :
    Completes (.twnCmdRejoin t src) s fun m' => s.m.entersTwn m' 1 ∧ m'.deadline .helloTx = some ((s.m.advance t).now + 10000000)
      ∧ m'.deadline .witnessTx = some ((s.m.advance t).now + 1000000) := by
  refine completes_twnCommand (v := 4) rfl hpow hsrc (by decide) fun k hk m' hm' => ?_
  have hkst : twnState k = 8 := (alike_twnState hk).trans hst
  rw [twnCommand_rejoin, if_pos ⟨hkst, (alike_twinKeys hk).trans hkeys⟩] at hm'
  have hcomes : k.comesInto 1 (k.enterTwn 1) := enterTwn_comes (by rw [hkst]; decide) (by decide)
  have harmed : (k.enterTwn 1).touch 0x100 0 k.rejoins :=
    touch_app (touch_app (touch_refl _ _ _) (Mach.arm_touch ..) rfl rfl) (Mach.arm_touch ..) rfl rfl
  have htimers : m'.timers = k.rejoins.timers := timers_of_touch hm' rfl
  refine ⟨((hcomes.touched harmed rfl rfl).touched hm' rfl rfl).enters (alike_fld hk TWN_CNT_n 0 (by decide) (by decide)), ?_, ?_⟩
  · rw [deadline_of_timers htimers, Mach.rejoins, deadline_arm_other _ _ (by decide), deadline_arm_same, alike_now hk]
  · rw [deadline_of_timers htimers, Mach.rejoins, deadline_arm_same, alike_now hk]

theorem rejoinCommand_idle (hnot : twnState s.m ≠ 8 ∨ twinKeys s.m = false) :
    Completes (.twnCmdRejoin t src) s fun m' => m'.twn = s.m.twn ∧ twnState m' = twnState s.m := by
  refine completes_twnCommand (v := 4) rfl hpow hsrc (by decide) fun k hk m' hm' => ?_
  rw [twnCommand_rejoin, if_neg ?_] at hm'
  · exact leftAlone hk hm'
  · rw [alike_twnState hk, alike_twinKeys hk]
    rintro ⟨hst, hkeys⟩
    exact hnot.elim (fun h => h hst) fun h => absurd (h.symm.trans hkeys) (by decide)

end

/-- Settles O51, each clause by its lemma above; the revert hold by the swap it starts, a clash by the swap tick that it holds up. -/
theorem twinFollowsTimersAndCommands : Obligations.TwinFollowsTimersAndCommands :=
  ⟨fun _ _ => copySettle_idle, fun _ _ => copySettle_fails, fun _ _ => copyRetry_starts, fun _ _ => copyRetry_idle,
    fun _ _ => witnessInterval_sends, fun _ _ => witnessInterval_stops,
    fun _ _ _ _ _ => witnessFrame_unfit, fun _ _ _ _ _ => witnessFrame_ownUnit, fun _ _ _ _ _ => witnessFrame_old, fun _ _ _ _ _ => witnessFrame_newer,
    fun _ _ => witnessDelay_leads, fun _ _ => witnessDelay_holds, fun _ _ => witnessDelay_stays, fun _ _ => witnessRx_quiet,
    fun _ _ => witnessRx_quietLeads,
    fun _ _ => search_leads, fun _ _ => search_idle, fun _ _ => search_clashing,
    fun s t hf hlead hpartner hup hnone => completes_fires rfl hf (startSwap_names (m := (s.m.advance t).disarm .revertHold) hlead hpartner hup hnone),
    fun _ _ => revertHold_idle,
    fun _ _ _ => swapCommand_names, fun _ _ _ => swapCommand_idle, fun _ _ _ => leadCommand_leads, fun _ _ _ => leadCommand_idle,
    fun _ _ _ => leadCommand_clashing, fun _ _ _ => rejoinCommand_rejoins, fun _ _ _ => rejoinCommand_idle,
    fun _ _ => swapTick_early, fun _ _ _ => swapTick_lead,
    fun s t hpow hclash => completes_run (f := Mach.swapNow) rfl hpow (swapNow_clashing (m := s.m.advance t) hclash),
    fun _ _ _ => swapTick_follower⟩

end Sys2Proof.Machine

/-! # The loss of Plait -/

namespace Sys2Proof.Machine

section
variable {m d x : Mach}

/-! ### What a witness frame sent leaves (R248) -/

theorem sendWitness_fld (m : Mach) {f : Fd} (h : (Fd.clear (TWN_CNT_n.nth 7) f && (f.page == 0x31 || f.page == 0x30) && decide (f.off < 4096)) = true) :
    m.sendWitness.fld f = m.fld f := by
  simp only [Bool.and_eq_true, Bool.or_eq_true, beq_iff_eq, decide_eq_true_eq] at h
  obtain ⟨⟨hclear, hpage⟩, hoff⟩ := h
  cases hkey : m.keyFor (m.cfg TWN_WIT_KEY_slot) 4 with
  | none => rw [sendWitness_held hkey]
  | some k =>
    have hcounted : m.witnessCounted.fld f = m.fld f := fld_count_clear _ _ _ _ _ _ hclear
    refine (fld_touch (sendWitness_counted hkey).1 f 0 ?_).trans hcounted
    rcases hpage with hpage | hpage <;> · simp only [hpage, hoff]; rfl

theorem sendWitness_twn (m : Mach) : m.sendWitness.twn.evidence = m.twn.evidence ∧ m.sendWitness.twn.wantLead = m.twn.wantLead := by
  cases hkey : m.keyFor (m.cfg TWN_WIT_KEY_slot) 4 with
  | none => rw [sendWitness_held hkey]; exact ⟨rfl, rfl⟩
  | some k =>
    obtain ⟨-, htwn⟩ := sendWitness_counted hkey
    exact ⟨(congrArg Twn.evidence htwn :), (congrArg Twn.wantLead htwn :)⟩

/-! ### Plait declared lost (R233, R250) -/

/-- Fields of the twin's page that the loss of Plait leaves, beside those that show it. -/
abbrev besideLoss (f : Fd) : Bool :=
  Fd.clear PLT_STS_up f && Fd.clear TWN_STS_plait_up f && Fd.clear (PLT_CNT_n.nth 4) f && Fd.noEvt 0x30 f
    && Fd.clear TWN_LOSS_TICK_LO_w f && Fd.clear TWN_LOSS_TICK_HI_w f

/-- What the loss of Plait shows. -/
structure Mach.showsLoss (m x : Mach) : Prop where
  down : plaitUp x = false
  counted : x.fld (PLT_CNT_n.nth 4) = (m.fld (PLT_CNT_n.nth 4) + 1) % 2 ^ 32
  signalled : x.evt 0x30 0 = true

/-- The tick of the last valid frame before the loss. -/
structure Mach.lossTick (m x : Mach) : Prop where
  low : x.fld TWN_LOSS_TICK_LO_w = m.twn.lastTick % 2 ^ 32
  high : x.fld TWN_LOSS_TICK_HI_w = m.twn.lastTick / 2 ^ 32 % 2 ^ 32

theorem Mach.showsLoss.since (h : m.showsLoss x) {y : Mach} (hy : ∀ f : Fd, (f.page == 0x30 && decide (f.off < 4096)) = true → y.fld f = x.fld f) :
    m.showsLoss y :=
  ⟨(congrArg (· == 1) (hy PLT_STS_up rfl)).trans h.down, (hy _ rfl).trans h.counted, (congrArg (bit · 0) (hy (hEvt 0x30) rfl)).trans h.signalled⟩

theorem Mach.lossTick.since (h : m.lossTick x) {y : Mach} (hy : ∀ f : Fd, twnApart f = true → y.fld f = x.fld f) : m.lossTick y :=
  ⟨(hy _ rfl).trans h.low, (hy _ rfl).trans h.high⟩

theorem plaitLost_shows (m : Mach) : m.showsLoss m.plaitLost ∧ m.lossTick m.plaitLost ∧ (∀ f : Fd, besideLoss f = true → m.plaitLost.fld f = m.fld f)
    ∧ m.plaitLost.twn.evidence = m.twn.evidence ∧ m.plaitLost.twn.wantLead = m.twn.wantLead := by
  generalize hz : m.plaitLost = z
  unfold Mach.plaitLost at hz
  extract_lets -underBinder -merge -useContext +onlyGivenNames a b c at hz
  have ha : m.showsLoss a := by
    refine ⟨?_, ?_, evt_event _ _ _ _ rfl⟩
    · refine (congrArg (· == 1) ((fld_event _ _ _ _ PLT_STS_up 0 rfl).trans (fld_count_clear _ _ _ _ _ _ rfl))).trans ?_
      exact (congrArg (· == 1) (fld_flag_clear _ _ PLT_STS_up _ _ _ rfl)).trans (flag_set _ _ _ _ rfl)
    · rw [fld_event _ _ _ _ _ _ rfl, fld_count _ _ _ _ rfl, Mach.setPlaitUp, fld_flag_clear _ _ _ _ _ _ rfl, fld_flag_clear _ _ _ _ _ _ rfl]
      rfl
  have hafld : ∀ f : Fd, besideLoss f = true → a.fld f = m.fld f := fun f hf => by
    simp only [besideLoss, Bool.and_eq_true] at hf
    obtain ⟨⟨⟨⟨⟨hup, hmirror⟩, hcount⟩, hevt⟩, -⟩, -⟩ := hf
    exact ((fld_event _ _ _ _ _ _ hevt).trans (fld_count_clear _ _ _ _ _ _ hcount)).trans
      ((fld_flag_clear _ _ _ _ _ _ hmirror).trans (fld_flag_clear _ _ _ _ _ _ hup))
  have hatwn : a.twn = m.twn := Mach.event_twn _ _ _ _ (by decide)
  clear_value a
  have hloss : b.fld TWN_LOSS_TICK_LO_w = a.twn.lastTick % 2 ^ 32 ∧ b.fld TWN_LOSS_TICK_HI_w = a.twn.lastTick / 2 ^ 32 % 2 ^ 32 := show64_shows a _ _ _ rfl
  have hbfld : ∀ f : Fd, (Fd.clear TWN_LOSS_TICK_LO_w f && Fd.clear TWN_LOSS_TICK_HI_w f) = true → b.fld f = a.fld f := fun f hf => show64_fld a _ _ _ 0 hf
  have hbtwn : b.twn = a.twn := rfl
  clear_value b
  have hregs : z.regs = b.regs := by rw [← hz]; rfl
  have hlanes : z.twn.evidence = c.twn.evidence ∧ z.twn.wantLead = c.twn.wantLead := by rw [← hz]; exact ⟨rfl, rfl⟩
  have hzfld : ∀ f : Fd, z.fld f = b.fld f := fun f => fld_of_regs hregs f 0
  have hctwn : c.twn.evidence = b.twn.evidence ∧ c.twn.wantLead = b.twn.wantLead := ⟨rfl, rfl⟩
  refine ⟨⟨?_, ?_, ?_⟩, ⟨?_, ?_⟩, fun f hf => ?_, ?_, ?_⟩
  · exact (congrArg (· == 1) ((hzfld PLT_STS_up).trans (hbfld _ rfl))).trans ha.down
  · exact ((hzfld _).trans (hbfld _ rfl)).trans ha.counted
  · exact (congrArg (bit · 0) ((hzfld (hEvt 0x30)).trans (hbfld _ rfl))).trans ha.signalled
  · rw [hzfld, hloss.1, hatwn]
  · rw [hzfld, hloss.2, hatwn]
  · have hwords := hf
    simp only [besideLoss, Bool.and_eq_true] at hwords
    obtain ⟨⟨-, hlow⟩, hhigh⟩ := hwords
    rw [hzfld, hbfld f (by rw [hlow, hhigh]; rfl), hafld f hf]
  · rw [hlanes.1, hctwn.1, hbtwn, hatwn]
  · rw [hlanes.2, hctwn.2, hbtwn, hatwn]

/-- Fields of the link's and the twin's page that neither in_step, nor the end of a copy, nor a witness frame sent shows. -/
abbrev besideAftermath (f : Fd) : Bool :=
  Fd.clear TWN_STS_in_step f && Fd.clear TWN_COPY_STS_phase f && Fd.clear TWN_COPY_STS_cut f && Fd.clear TWN_COPY_STS_total f
    && Fd.clear TWN_STS_copy_active f && Fd.clear (TWN_CNT_n.nth 7) f && (f.page == 0x31 || f.page == 0x30) && decide (f.off < 4096)

/-- What comes with the loss of Plait leaves the state of the twin, and what the loss has shown. -/
structure Mach.aftermath (m x : Mach) : Prop where
  fld : ∀ f : Fd, besideAftermath f = true → x.fld f = m.fld f
  evidence : x.twn.evidence = m.twn.evidence
  wantLead : x.twn.wantLead = m.twn.wantLead

theorem Mach.aftermath.trans {y : Mach} (h : m.aftermath x) (g : x.aftermath y) : m.aftermath y :=
  ⟨fun f hf => (g.fld f hf).trans (h.fld f hf), g.evidence.trans h.evidence, g.wantLead.trans h.wantLead⟩

theorem aftermath_showStep (m : Mach) : m.aftermath m.showStep := by
  refine ⟨fun f hf => ?_, rfl, rfl⟩
  simp only [besideAftermath, Bool.and_eq_true] at hf
  obtain ⟨⟨⟨⟨⟨⟨⟨hstep, -⟩, -⟩, -⟩, -⟩, -⟩, -⟩, -⟩ := hf
  exact fld_flag_clear _ _ _ _ _ _ hstep

theorem aftermath_endCopy (m : Mach) : m.aftermath m.endCopy := by
  refine ⟨fun f hf => fld_endCopy m f 0 ?_, rfl, rfl⟩
  simp only [besideAftermath, Bool.and_eq_true] at hf
  obtain ⟨⟨⟨⟨⟨⟨⟨-, hphase⟩, hcut⟩, htotal⟩, hactive⟩, -⟩, -⟩, -⟩ := hf
  rw [hphase, hcut, htotal, hactive]
  rfl

theorem aftermath_eqFlush (m : Mach) : m.aftermath m.eqFlush := by
  have htouch := Mach.eqFlush_touch m
  refine ⟨fun f hf => fld_touch htouch f 0 ?_, congrArg Twn.evidence (twn_of_touch htouch rfl), congrArg Twn.wantLead (twn_of_touch htouch rfl)⟩
  simp only [besideAftermath, Bool.and_eq_true, Bool.or_eq_true, beq_iff_eq, decide_eq_true_eq] at hf
  obtain ⟨⟨-, hpage⟩, hoff⟩ := hf
  rcases hpage with hpage | hpage <;> · simp only [hpage, hoff]; rfl

theorem aftermath_sendWitness (m : Mach) : m.aftermath m.sendWitness := by
  refine ⟨fun f hf => sendWitness_fld m ?_, (sendWitness_twn m).1, (sendWitness_twn m).2⟩
  simp only [besideAftermath, Bool.and_eq_true] at hf ⊢
  obtain ⟨⟨⟨-, hcount⟩, hpage⟩, hoff⟩ := hf
  exact ⟨⟨hcount, hpage⟩, hoff⟩

/-- The module as the loss of Plait leaves it before it acts by its state: nothing waits for the swap, a lead's copy is over, and the
witness has been told. -/
def Mach.plaitDown (m : Mach) : Mach :=
  let a := (m.plaitLost.onTwn fun t => { t with swapAt := none }).showStep
  let b := if twnState a = 2 ∧ a.twn.copy.isSome = true then a.endCopy else a
  let c := if equalising b || b.svi.eq.isEmpty then b else b.eqFlush
  if c.on TWN_CFG_en ∧ twnState c ≠ 8 then c.sendWitness else c

theorem plaitDown_aftermath (m : Mach) : m.plaitLost.aftermath m.plaitDown := by
  have hswap : m.plaitLost.aftermath (m.plaitLost.onTwn fun t => { t with swapAt := none }) := ⟨fun f _ => fld_onTwn _ _ f 0, rfl, rfl⟩
  generalize hz : m.plaitDown = z
  unfold Mach.plaitDown at hz
  extract_lets -underBinder -merge -useContext +onlyGivenNames a b c at hz
  have ha : m.plaitLost.aftermath a := hswap.trans (aftermath_showStep _)
  clear_value a
  have hb : m.plaitLost.aftermath b := by
    unfold b
    split
    · exact ha.trans (aftermath_endCopy a)
    · exact ha
  clear_value b
  have hc : m.plaitLost.aftermath c := by
    unfold c
    split
    · exact hb
    · exact hb.trans (aftermath_eqFlush b)
  rw [← hz]
  split
  · exact hc.trans (aftermath_sendWitness c)
  · exact hc

theorem plaitDown_touch (m : Mach) : m.touch 0x1fdcb908 0x33ffff00071a00 m.plaitDown := by
  unfold Mach.plaitDown
  extract_lets -underBinder -merge -useContext +onlyGivenNames a b c
  have ha : m.touch 0x1fdcb908 0x33ffff00071a00 a :=
    touch_app (touch_app (touch_mono (Mach.plaitLost_touch m) rfl rfl) (Mach.onTwn_touch m.plaitLost _) rfl rfl) (Mach.showStep_touch _) rfl rfl
  clear_value a
  have hb : m.touch 0x1fdcb908 0x33ffff00071a00 b :=
    touch_ite (fun _ => touch_app ha (Mach.endCopy_touch a) rfl rfl) fun _ => ha
  clear_value b
  have hc : m.touch 0x1fdcb908 0x33ffff00071a00 c :=
    touch_ite (fun _ => hb) fun _ => touch_app hb (Mach.eqFlush_touch b) rfl rfl
  exact touch_ite (fun _ => touch_app hc (Mach.sendWitness_touch c) rfl rfl) fun _ => hc

/-- The module once the loss of Plait has been declared, with its state as before. -/
structure Mach.lost (m d : Mach) : Prop where
  shows : m.showsLoss d
  tick : m.lossTick d
  fld : ∀ f : Fd, (besideLoss f && besideAftermath f) = true → d.fld f = m.fld f
  evidence : d.twn.evidence = m.twn.evidence
  wantLead : d.twn.wantLead = m.twn.wantLead
  now : d.now = m.now
  force : d.force = m.force

theorem plaitDown_lost (m : Mach) : m.lost m.plaitDown := by
  obtain ⟨hshows, htick, hfld, hevidence, hwant⟩ := plaitLost_shows m
  obtain ⟨hkept, hevidence', hwant'⟩ := plaitDown_aftermath m
  refine ⟨⟨?_, ?_, ?_⟩, ⟨(hkept _ rfl).trans htick.low, (hkept _ rfl).trans htick.high⟩, fun f hf => ?_, hevidence'.trans hevidence, hwant'.trans hwant,
    now_of_touch (plaitDown_touch m) rfl, force_of_touch (plaitDown_touch m) rfl⟩
  · exact (congrArg (· == 1) (hkept PLT_STS_up rfl)).trans hshows.down
  · exact (hkept _ rfl).trans hshows.counted
  · exact (congrArg (bit · 0) (hkept (hEvt 0x30) rfl)).trans hshows.signalled
  · rw [Bool.and_eq_true] at hf
    exact (hkept f hf.2).trans (hfld f hf.1)

/-! ### What the module does without Plait (R226, R250) -/

/-- What the loss of Plait does to the state. -/
def Mach.plaitActs (m : Mach) : Mach :=
  match twnState m with
  | 2 => m.setRole 0
  | 3 => if m.twn.evidence then m.isolate else m.arm .witnessDelay (m.now + m.cfg TWN_WIT_timeout * 1000)
  | 4 => if (m.enterTwn 5).twn.evidence then (m.enterTwn 5).enterTwn 6 else m.enterTwn 5
  | _ => m

theorem plaitGone_eq (m : Mach) : m.plaitGone = m.plaitDown.plaitActs := rfl

theorem plaitActs_lead (h : twnState m = 2) : m.plaitActs = m.setRole 0 := by
  unfold Mach.plaitActs
  rw [h]
  rfl

theorem plaitActs_joining (h : twnState m = 3) :
    m.plaitActs = if m.twn.evidence then m.isolate else m.arm .witnessDelay (m.now + m.cfg TWN_WIT_timeout * 1000) := by
  unfold Mach.plaitActs
  rw [h]
  rfl

theorem plaitActs_follower (h : twnState m = 4) :
    m.plaitActs = if (m.enterTwn 5).twn.evidence then (m.enterTwn 5).enterTwn 6 else m.enterTwn 5 := by
  unfold Mach.plaitActs
  rw [h]
  rfl

theorem plaitActs_touch (m : Mach) : m.touch 0x1fdcb908 0x32ffff00071a00 m.plaitActs := by
  have hfive : m.touch 0x1fdcb908 0x32ffff00071a00 (m.enterTwn 5) := touch_mono (Mach.enterTwn_touch m 5) rfl rfl
  unfold Mach.plaitActs
  split
  · exact touch_mono (Mach.setRole_touch m 0) rfl rfl
  · exact touch_ite (fun _ => Mach.isolate_touch m) fun _ => touch_mono (Mach.arm_touch m ..) rfl rfl
  · exact touch_ite (fun _ => touch_app hfive (Mach.enterTwn_touch ..) rfl rfl) fun _ => hfive
  · exact touch_refl _ _ _

/-- In Lead the evaluation of the twin finds nothing to do. -/
theorem twinEval_lead (h : twnState m = 2) : m.twinEval = m := by
  cases hwant : m.twn.wantLead with
  | false => exact twinEval_rests (fun hw => absurd (hwant.symm.trans hw) (by decide)) (by rw [h]; decide)
  | true =>
    cases hclash : m.flag TWN_STS_unit_clash with
    | true => exact twinEval_rests (fun _ => hclash) (by rw [h]; decide)
    | false =>
      have hlead : m.toLead = m := by
        unfold Mach.toLead
        rw [hclash, if_neg (by decide), h, if_neg (by decide)]
        exact enterTwn_same h
      rw [twinEval_leads hwant hclash (by rw [hlead, h]; decide), hlead]

namespace Mach.lost
variable (h : m.lost d)
include h

theorem state : twnState d = twnState m := h.fld _ rfl

theorem down : m.showsLoss d.plaitActs.twinEval := by
  have htouch : d.touch 0x1fdcb908 0x32ffff00071a00 d.plaitActs.twinEval := touch_app (plaitActs_touch d) (Mach.twinEval_touch _) rfl rfl
  refine h.shows.since fun f hf => fld_touch htouch f 0 ?_
  simp only [Bool.and_eq_true, beq_iff_eq, decide_eq_true_eq] at hf
  simp only [hf.1, hf.2]
  rfl

theorem leads (hstate : twnState m = 2) : twnState d.plaitActs.twinEval = 2 ∧ m.lossTick d.plaitActs.twinEval := by
  have htouch := Mach.setRole_touch d 0
  have hfld : ∀ f : Fd, f.page = 0x31 → f.off < 4096 → (d.setRole 0).fld f = d.fld f := fun f hp ho => fld_page31 htouch rfl f 0 hp ho
  have hst : twnState (d.setRole 0) = 2 := (hfld TWN_STS_state rfl (by decide)).trans (h.state.trans hstate)
  rw [plaitActs_lead (h.state.trans hstate), twinEval_lead hst]
  exact ⟨hst, ⟨(hfld _ rfl (by decide)).trans h.tick.low, (hfld _ rfl (by decide)).trans h.tick.high⟩⟩

theorem decides (hstate : twnState m = 4) (hevidence : m.twn.evidence = false) :
    m.entersTwn d.plaitActs.twinEval 5 ∧ m.lossTick d.plaitActs.twinEval := by
  have hother : twnState d ≠ 5 := by
    rw [h.state, hstate]
    decide
  have hcomes : d.comesInto 5 (d.enterTwn 5) := enterTwn_comes hother (by decide)
  rw [plaitActs_follower (h.state.trans hstate), enterTwn_evidence hother, h.evidence, hevidence, if_neg (by decide), hcomes.eval (by decide)]
  exact ⟨hcomes.enters (h.fld _ rfl), h.tick.since fun _ hf => hcomes.fld 0 hf⟩

theorem waits (hstate : twnState m = 3) (hevidence : m.twn.evidence = false) (hkept : m.keptFromLead) :
    twnState d.plaitActs.twinEval = 3 ∧ d.plaitActs.twinEval.deadline .witnessDelay = some (m.now + m.cfg TWN_WIT_timeout * 1000) := by
  have hst : twnState d = 3 := h.state.trans hstate
  have hdkept : d.keptFromLead := by
    rw [Mach.keptFromLead, h.wantLead]
    exact fun hwant => (congrArg (· == 1) (h.fld TWN_STS_unit_clash rfl)).trans (hkept hwant)
  have harmed : (d.arm .witnessDelay (d.now + d.cfg TWN_WIT_timeout * 1000)).twinEval = d.arm .witnessDelay (d.now + d.cfg TWN_WIT_timeout * 1000) :=
    twinEval_rests hdkept (fun h4 => absurd (hst.symm.trans h4) (by decide))
  rw [plaitActs_joining hst, h.evidence, hevidence, if_neg (by decide), harmed]
  refine ⟨hst, (deadline_arm_same ..).trans ?_⟩
  rw [h.now, cfg_of_force h.force]

theorem isolates (hstate : twnState m = 3) (hevidence : m.twn.evidence = true) : m.entersTwn d.plaitActs.twinEval 6 := by
  have hst : twnState d = 3 := h.state.trans hstate
  have hcomes := isolate_joining hst
  have hcount : d.endCopy.startSlots.fld TWN_CNT_n = m.fld TWN_CNT_n :=
    (fld_page31 (Mach.startSlots_touch _) rfl TWN_CNT_n 0 rfl (by decide)).trans ((fld_endCopy d TWN_CNT_n 0 rfl).trans (h.fld _ rfl))
  rw [plaitActs_joining hst, h.evidence, hevidence, if_pos rfl, hcomes.eval (by decide)]
  exact hcomes.enters hcount

end Mach.lost

end

end Sys2Proof.Machine

/-! # The lanes of Plait at work -/

namespace Sys2Proof.Machine

/-! ### The next frame of a lane (R229, R231) -/

/-- What a lane drives outward for its next message. -/
abbrev laneFrame (m : Mach) (l : Nat) (y : PlaitMsg) : Out := .plait (plaitHdr m l (laneOf m l).txSeq m.twn.linkTx ((laneOf m l).txPn + 1) y) y

/-- A module whose lane sends as that of `m` does. -/
structure Mach.laneLike (m : Mach) (l : Nat) (x : Mach) : Prop where
  may : mayPlait x = mayPlait m
  frame : ∀ y, laneFrame x l y = laneFrame m l y
  unacked : (laneOf x l).unacked = (laneOf m l).unacked

section
variable {m x : Mach} {l : Nat}

/-- Neither lock nor its hold tells in what a lane sends. -/
theorem laneLike_of_lane {lock held : Bool} (h : m.touch 0x1003108 0x1000000000000 x) (hlink : x.twn.linkTx = m.twn.linkTx)
    (hlane : laneOf x l = { laneOf m l with lock := lock, held := held }) : m.laneLike l x := by
  have hrx : (laneOf x l).rxSeq = (laneOf m l).rxSeq := by rw [hlane]
  refine ⟨mayPlait_touch h rfl rfl rfl, fun y => ?_, by rw [hlane]⟩
  unfold laneFrame
  rw [plaitHdr_touch h rfl rfl rfl hrx, hlane, hlink]

theorem Mach.laneLike.sends (h : m.laneLike l x) (hl : l < 2) (hmay : mayPlait m = true) (hstate : laneState x l = 1 ∨ laneState x l = 2)
    (hroom : (laneOf m l).unacked.length < 256) (y : PlaitMsg) : (x.plaitSendLane l y).outs = laneFrame m l y :: x.outs := by
  rw [← h.frame]
  exact (plaitSendLane_sent hl (h.may.trans hmay) hstate (by rw [h.unacked]; exact hroom)).outs

theorem onLane_link (m : Mach) (l : Nat) (f : Lane → Lane) : (m.onLane l f).twn.linkTx = m.twn.linkTx := by
  unfold Mach.onLane Mach.onTwn
  dsimp only
  split <;> rfl

theorem helloMsg_hello (m : Mach) : ∃ g, helloMsg m = .hello g := ⟨_, rfl⟩

/-! ### Lock and its hold (R228, R230) -/

/-- A lane has lock. -/
def Mach.laneLocked (m : Mach) (l : Nat) : Mach := m.onLane l fun b => { b with lock := true }

/-- A lane begins to train. -/
def Mach.laneTrains (m : Mach) (l : Nat) : Mach := (m.setLane l 1).arm (.laneLock l) (m.now + 10000000)

theorem laneLocked_touch (m : Mach) (l : Nat) : m.touch 0x1000000 0 (m.laneLocked l) := Mach.onLane_touch ..

theorem laneTrains_touch (m : Mach) (l : Nat) : m.touch 0x108 0x1000000000000 (m.laneTrains l) :=
  touch_app (touch_mono (Mach.setLane_touch m l 1) rfl rfl) (Mach.arm_touch ..) rfl rfl

theorem laneTrains_state (m : Mach) (l : Nat) : laneState (m.laneTrains l) l = 1 :=
  (laneState_of_regs (m := m.setLane l 1) rfl l).trans (laneState_setLane m l (by decide))

theorem laneOf_trains (m : Mach) (hl : l < 2) : laneOf ((m.laneLocked l).laneTrains l) l = { laneOf m l with lock := true } :=
  (laneOf_of_twn (twn_of_touch (laneTrains_touch (m.laneLocked l) l) rfl) l).trans (laneOf_onLane_same m hl _)

theorem laneTrains_like (m : Mach) (hl : l < 2) : m.laneLike l ((m.laneLocked l).laneTrains l) := by
  have htwn : ((m.laneLocked l).laneTrains l).twn = (m.laneLocked l).twn := twn_of_touch (laneTrains_touch (m.laneLocked l) l) rfl
  refine laneLike_of_lane (held := (laneOf m l).held) (touch_app (touch_mono (laneLocked_touch m l) rfl rfl) (laneTrains_touch ..) rfl rfl) ?_
    (laneOf_trains m hl)
  rw [htwn]
  exact onLane_link ..

/-- What lock does: a lane in use that is neither training nor Up begins to train, and sends a HELLO. -/
def Mach.lockGained (m : Mach) (l : Nat) : Mach :=
  if bit (m.cfg PLT_CTRL_lane_en) l && laneState (m.laneLocked l) l != 1 && laneState (m.laneLocked l) l != 2 then
    ((m.laneLocked l).laneTrains l).plaitSendLane l (helloMsg ((m.laneLocked l).laneTrains l))
  else m.laneLocked l

theorem lockGained_trains (hen : bit (m.cfg PLT_CTRL_lane_en) l = true) (h1 : laneState m l ≠ 1) (h2 : laneState m l ≠ 2) :
    m.lockGained l = ((m.laneLocked l).laneTrains l).plaitSendLane l (helloMsg ((m.laneLocked l).laneTrains l)) := by
  have hstate : laneState (m.laneLocked l) l = laneState m l := rfl
  exact if_pos (by simp [hen, hstate, h1, h2])

theorem lockGained_noted (h : bit (m.cfg PLT_CTRL_lane_en) l = false ∨ laneState m l = 1 ∨ laneState m l = 2) : m.lockGained l = m.laneLocked l := by
  have hstate : laneState (m.laneLocked l) l = laneState m l := rfl
  refine if_neg ?_
  rcases h with h | h | h <;> simp [hstate, h]

end

section
variable {s : State} {t : Nat} {l : Fin 2}

theorem lock_trains (hpow : s.m.powered = true) (hen : bit (s.m.cfg PLT_CTRL_lane_en) l = true) (h1 : laneState s.m l ≠ 1) (h2 : laneState s.m l ≠ 2)
    (hroom : (laneOf s.m l).unacked.length < 256) :
    Completes (.plaitLaneLockChange t l true) s fun m' => laneState m' l = 1 ∧ (laneOf m' l).lock = true
      ∧ m'.deadline (.laneLock l) = some ((s.m.advance t).now + 10000000)
      ∧ (mayPlait s.m = true → ∃ h, m'.outs
          = .plait (plaitHdr s.m l (laneOf s.m l).txSeq s.m.twn.linkTx ((laneOf s.m l).txPn + 1) (.hello h)) (.hello h) :: s.m.outs) := by
  refine completes_run (f := fun m => m.lockGained l) rfl hpow ?_
  rw [lockGained_trains (m := s.m.advance t) hen h1 h2]
  have hlike := laneTrains_like (s.m.advance t) l.isLt
  have hstate := laneTrains_state ((s.m.advance t).laneLocked l) l
  have hlane := laneOf_trains (s.m.advance t) l.isLt
  have hdead : (((s.m.advance t).laneLocked l).laneTrains l).deadline (.laneLock l) = some ((s.m.advance t).now + 10000000) := by
    rw [Mach.laneTrains, deadline_arm_same, now_of_touch (laneLocked_touch ..) rfl]
  have hlocked : ((s.m.advance t).laneLocked l).outs = (s.m.advance t).outs := outs_of_touch (laneLocked_touch ..) rfl
  have houts : (((s.m.advance t).laneLocked l).laneTrains l).outs = s.m.outs := (outs_of_touch (laneTrains_touch ..) rfl).trans hlocked
  generalize ((s.m.advance t).laneLocked l).laneTrains l = x at *
  refine ⟨(laneState_of_regs (plaitSendLane_regs ..) l).trans hstate, (plaitSendLane_shake x l.isLt _).1.trans (by rw [hlane]),
    ((plaitSendLane_rx x l _).2 _ (fun _ => by simp) fun _ => by simp).trans hdead, fun hmay => ?_⟩
  obtain ⟨g, hg⟩ := helloMsg_hello x
  refine ⟨g, ?_⟩
  rw [hlike.sends l.isLt hmay (.inl hstate) hroom, houts, hg]
  rfl

theorem lock_noted (hpow : s.m.powered = true) (h : bit (s.m.cfg PLT_CTRL_lane_en) l = false ∨ laneState s.m l = 1 ∨ laneState s.m l = 2) :
    Completes (.plaitLaneLockChange t l true) s fun m' => m' = (s.m.advance t).onLane l fun b => { b with lock := true } :=
  completes_run (f := fun m => m.lockGained l) rfl hpow (lockGained_noted (m := s.m.advance t) h)

theorem lock_lost (hpow : s.m.powered = true) :
    Completes (.plaitLaneLockChange t l false) s fun m' => laneState m' l = 0 ∧ m'.deadline (.laneLock l) = none
      ∧ laneOf m' l = { laneOf s.m l with lock := false, held := false, txHello := false, rxHello := false, txSeq := 0, rxSeq := 0, unacked := [] } := by
  refine completes_run (f := fun m => ((m.onLane l fun b => { b with lock := false }).dropLane l 0).disarm (.laneLock l)) rfl hpow ?_
  refine ⟨dropLane_state _ l (by decide), deadline_disarm_same .., ?_⟩
  refine (dropLane_lane ((s.m.advance t).onLane l fun b => { b with lock := false }) l.isLt (by decide) (by decide)).trans ?_
  rw [laneOf_onLane_same (s.m.advance t) l.isLt]
  rfl

end

section
variable {m : Mach} {l : Nat}

/-- A lane has held lock long enough. -/
def Mach.laneHeld (m : Mach) (l : Nat) : Mach := m.onLane l fun b => { b with held := true }

theorem laneOf_held (m : Mach) (hl : l < 2) : laneOf (m.laneHeld l) l = { laneOf m l with held := true } := laneOf_onLane_same m hl _

theorem laneUp_up (hl : l < 2) (hstate : laneState m l = 1) (htx : (laneOf m l).txHello = true) (hrx : (laneOf m l).rxHello = true) :
    (m.laneHeld l).laneUp l = ((m.laneHeld l).setLane l 2).event 0x30 3 := by
  have htraining : laneState (m.laneHeld l) l = 1 := hstate
  unfold Mach.laneUp
  rw [laneOf_held m hl]
  exact if_pos (by simp [htraining, htx, hrx])

theorem laneUp_waits (hl : l < 2) (h : laneState m l ≠ 1 ∨ (laneOf m l).txHello = false ∨ (laneOf m l).rxHello = false) :
    (m.laneHeld l).laneUp l = m.laneHeld l := by
  unfold Mach.laneUp
  rw [laneOf_held m hl]
  refine if_neg ?_
  rcases h with h | h | h
  · have hother : laneState (m.laneHeld l) l ≠ 1 := h
    simp [hother]
  · simp [h]
  · simp [h]

/-- A lane that comes Up. -/
def Mach.laneOpened (m : Mach) (l : Nat) : Mach := (m.setLane l 2).event 0x30 3

theorem laneOpened_touch (m : Mach) (l : Nat) : m.touch 0x3008 0x1000000000000 (m.laneOpened l) :=
  touch_app (touch_mono (Mach.setLane_touch m l 2) rfl rfl) (Mach.event_touch (P := 0x1000000000000) _ _ _ _ rfl (by decide)) rfl rfl

theorem laneOpened_state (m : Mach) (l : Nat) : laneState (m.laneOpened l) l = 2 := by
  have hevent : laneState (m.laneOpened l) l = laneState (m.setLane l 2) l := by
    unfold laneState Mach.laneOpened
    rw [fld_event _ _ _ _ _ _ rfl, fld_event _ _ _ _ _ _ rfl]
  rw [hevent, laneState_setLane m l (by decide)]

theorem laneOf_opened (m : Mach) (hl : l < 2) : laneOf ((m.laneHeld l).laneOpened l) l = { laneOf m l with held := true } :=
  (laneOf_of_twn (twn_of_touch (laneOpened_touch (m.laneHeld l) l) rfl) l).trans (laneOf_held m hl)

theorem laneOpened_like (m : Mach) (hl : l < 2) : m.laneLike l ((m.laneHeld l).laneOpened l) := by
  have htwn : ((m.laneHeld l).laneOpened l).twn = (m.laneHeld l).twn := twn_of_touch (laneOpened_touch (m.laneHeld l) l) rfl
  refine laneLike_of_lane (lock := (laneOf m l).lock) (touch_app (touch_mono (Mach.onLane_touch m l _) rfl rfl) (laneOpened_touch ..) rfl rfl) ?_
    (laneOf_opened m hl)
  rw [htwn]
  exact onLane_link ..

end

section
variable {s : State} {t : Nat} {l : Fin 2}

theorem lockHold_up (hf : s.m.fires (.laneLock l) t) (hstate : laneState s.m l = 1) (htx : (laneOf s.m l).txHello = true)
    (hrx : (laneOf s.m l).rxHello = true) (hroom : (laneOf s.m l).unacked.length < 256) :
    Completes (.plaitLaneLockHoldExpiry t l) s fun m' => laneState m' l = 2 ∧ m'.evt 0x30 3 = true ∧ (laneOf m' l).held = true
      ∧ (mayPlait s.m = true → ∃ h,
          .plait (plaitHdr s.m l (laneOf s.m l).txSeq s.m.twn.linkTx ((laneOf s.m l).txPn + 1) (.hello h)) (.hello h) ∈ m'.outs) := by
  refine completes_fires (f := fun m => ((m.laneHeld l).laneUp l).helloUp l (laneState m l)) rfl hf ?_
  generalize hk : (s.m.advance t).disarm (.laneLock l) = k
  have hkstate : laneState k l = 1 := by rw [← hk]; exact hstate
  have hklane : laneOf k l = laneOf s.m l := by rw [← hk]; rfl
  have hkmay : mayPlait k = mayPlait s.m := by rw [← hk]; rfl
  have hkframe : ∀ y, laneFrame k l y = laneFrame s.m l y := by rw [← hk]; exact fun _ => rfl
  have hlike := laneOpened_like k l.isLt
  have hopen := laneOpened_state (k.laneHeld l) l
  have hlane := laneOf_opened k l.isLt
  have hevt : ((k.laneHeld l).laneOpened l).evt 0x30 3 = true := evt_event _ _ _ _ rfl
  rw [laneUp_up l.isLt hkstate (by rw [hklane]; exact htx) (by rw [hklane]; exact hrx), ← Mach.laneOpened]
  generalize (k.laneHeld l).laneOpened l = z at *
  have hup : z.helloUp l (laneState k l) = z.plaitSendLane l (helloMsg z) := if_pos ⟨hopen, by rw [hkstate]; decide⟩
  have hregs := plaitSendLane_regs z l (helloMsg z)
  rw [hup]
  refine ⟨(laneState_of_regs hregs l).trans hopen, (congrArg (bit · 3) (fld_of_regs hregs (hEvt 0x30) 0)).trans hevt,
    (plaitSendLane_shake z l.isLt _).2.trans (by rw [hlane]), fun hmay => ?_⟩
  obtain ⟨g, hg⟩ := helloMsg_hello z
  refine ⟨g, ?_⟩
  rw [hlike.sends l.isLt (hkmay.trans hmay) (.inr hopen) (by rw [hklane]; exact hroom), hg, hkframe]
  exact List.mem_cons_self

theorem lockHold_noted (hf : s.m.fires (.laneLock l) t)
    (h : laneState s.m l ≠ 1 ∨ (laneOf s.m l).txHello = false ∨ (laneOf s.m l).rxHello = false) :
    Completes (.plaitLaneLockHoldExpiry t l) s fun m' => m'.regs = s.m.regs ∧ m'.outs = s.m.outs ∧ laneOf m' l = { laneOf s.m l with held := true } := by
  refine completes_fires (f := fun m => ((m.laneHeld l).laneUp l).helloUp l (laneState m l)) rfl hf ?_
  generalize hk : (s.m.advance t).disarm (.laneLock l) = k
  have hkept : k.regs = s.m.regs ∧ k.outs = s.m.outs ∧ laneOf k l = laneOf s.m l := by rw [← hk]; exact ⟨rfl, rfl, rfl⟩
  obtain ⟨hregs, houts, hlane⟩ := hkept
  have hwaits : (k.laneHeld l).helloUp l (laneState k l) = k.laneHeld l := if_neg fun h => h.2 h.1
  rw [laneUp_waits l.isLt (by rw [hlane, laneState_of_regs hregs]; exact h), hwaits, laneOf_held k l.isLt, hlane]
  exact ⟨hregs, houts, rfl⟩

/-! ### Replay (R231, R232) -/

theorem replay_nothing (hf : s.m.fires (.replay l) t) (h : (laneOf s.m l).unacked = []) :
    Completes (.plaitReplayExpiry t l) s fun m' => m'.regs = s.m.regs ∧ m'.twn = s.m.twn ∧ m'.outs = s.m.outs := by
  refine completes_fires (f := fun m => m.replay l) rfl hf ?_
  rw [replay_idle (m := (s.m.advance t).disarm (.replay l)) h]
  exact ⟨rfl, rfl, rfl⟩

variable {u : Unacked} {r : List Unacked}

theorem replay_ends (hf : s.m.fires (.replay l) t) (h : (laneOf s.m l).unacked = u :: r) (htries : s.m.cfg PLT_REPLAY_attempts ≤ u.tries) :
    Completes (.plaitReplayExpiry t l) s fun m' => laneState m' l = 3 ∧ m'.fld (PLT_CNT_n.nth 3) = (s.m.fld (PLT_CNT_n.nth 3) + 1) % 2 ^ 32
      ∧ m'.evt 0x30 2 = true
      ∧ laneOf m' l = { laneOf s.m l with held := false, txHello := false, rxHello := false, txSeq := 0, rxSeq := 0, unacked := [] } := by
  refine completes_fires (f := fun m => m.replay l) rfl hf ?_
  rw [replay_fails (m := (s.m.advance t).disarm (.replay l)) h htries]
  generalize hy : (((s.m.advance t).disarm (.replay l)).count (PLT_CNT_n.nth 3)).event 0x30 2 = y
  have hcount : y.fld (PLT_CNT_n.nth 3) = (s.m.fld (PLT_CNT_n.nth 3) + 1) % 2 ^ 32 := by
    rw [← hy, fld_event _ _ _ _ _ _ rfl, fld_count _ _ _ _ rfl]
    rfl
  have hevt : y.evt 0x30 2 = true := by
    rw [← hy]
    exact evt_event _ _ _ _ rfl
  have htwn : y.twn = s.m.twn := by
    rw [← hy]
    exact Mach.event_twn _ _ _ _ (by decide)
  have hfld : ∀ f : Fd, (Fd.clear PLT_STS_lane0 f && Fd.clear PLT_STS_lane1 f) = true → (y.dropLane l 3).fld f = y.fld f := fun f hf =>
    (fld_of_regs (dropLane_regs y l 3) f 0).trans (setLane_fld y l 3 0 hf)
  exact ⟨dropLane_state y l (by decide), (hfld _ rfl).trans hcount, (congrArg (bit · 2) (hfld (hEvt 0x30) rfl)).trans hevt,
    (dropLane_lane y l.isLt (by decide) (by decide)).trans (by rw [laneOf_of_twn htwn]; rfl)⟩

theorem replay_again (hf : s.m.fires (.replay l) t) (h : (laneOf s.m l).unacked = u :: r) (htries : u.tries < s.m.cfg PLT_REPLAY_attempts) :
    Completes (.plaitReplayExpiry t l) s fun m' => laneState m' l = laneState s.m l ∧ m'.fld (PLT_CNT_n.nth 2) = (s.m.fld (PLT_CNT_n.nth 2) + 1) % 2 ^ 32
      ∧ m'.evt 0x30 5 = true
      ∧ laneOf m' l = { laneOf s.m l with
          unacked := (u :: r).map (fun u => { u with tries := u.tries + 1, sentAt := (s.m.advance t).now }), txPn := (laneOf s.m l).txPn + (u :: r).length }
      ∧ (∀ x ∈ (u :: r).zipIdx, .plait (plaitHdr s.m l x.1.seq x.1.link ((laneOf s.m l).txPn + x.2 + 1) x.1.msg) x.1.msg ∈ m'.outs)
      ∧ m'.deadline (.replay l) = some ((s.m.advance t).now + s.m.cfg PLT_REPLAY_interval * 1000)
      ∧ m'.deadline (.keepIdle l) = some ((s.m.advance t).now + 50000) := by
  refine completes_fires (f := fun m => m.replay l) rfl hf ?_
  generalize hk : (s.m.advance t).disarm (.replay l) = k
  have hkept : k.regs = s.m.regs ∧ k.twn = s.m.twn ∧ k.now = (s.m.advance t).now ∧ k.force = s.m.force := by rw [← hk]; exact ⟨rfl, rfl, rfl, rfl⟩
  obtain ⟨hregs, htwn, hnow, hforce⟩ := hkept
  have hhdr : plaitHdr k l = plaitHdr s.m l := by rw [← hk]; rfl
  have hlane : laneOf k l = laneOf s.m l := laneOf_of_twn htwn l
  have hunacked : (laneOf k l).unacked = u :: r := by rw [hlane, h]
  generalize hx : k.laneResent l = x
  have hxregs : x.regs = k.regs := by rw [← hx, laneResent_eq]; rfl
  have hxbase : x.now = k.now ∧ x.force = k.force := by rw [← hx, laneResent_eq]; exact ⟨rfl, rfl⟩
  have hxlane : laneOf x l = Lane.resent k.now (laneOf k l) := by
    rw [← hx, laneResent_eq]
    exact laneOf_onLane_same k l.isLt _
  have hxouts : ∀ e ∈ (u :: r).zipIdx, .plait (plaitHdr s.m l e.1.seq e.1.link ((laneOf s.m l).txPn + e.2 + 1) e.1.msg) e.1.msg ∈ x.outs := by
    intro e he
    rw [← hx, ← hhdr, ← hlane]
    exact laneResent_outs l.isLt (by rw [hunacked]; exact he)
  rw [replay_resends hx hunacked (by rw [cfg_of_force hforce]; exact htries)]
  generalize hy : (x.arm (.keepIdle l) (x.now + 50000)).arm (.replay l) (x.now + x.cfg PLT_REPLAY_interval * 1000) = y
  have hyregs : y.regs = s.m.regs := by rw [← hy]; exact hxregs.trans hregs
  have hytwn : y.twn = x.twn := by rw [← hy]; rfl
  have hyouts : y.outs = x.outs := by rw [← hy]; rfl
  have hyreplay : y.deadline (.replay l) = some ((s.m.advance t).now + s.m.cfg PLT_REPLAY_interval * 1000) := by
    rw [← hy, deadline_arm_same, hxbase.1, hnow, cfg_of_force (hxbase.2.trans hforce)]
  have hyidle : y.deadline (.keepIdle l) = some ((s.m.advance t).now + 50000) := by
    rw [← hy, deadline_arm_other _ _ (by simp), deadline_arm_same, hxbase.1, hnow]
  have hcounted : (y.count (PLT_CNT_n.nth 2)).twn = y.twn ∧ (y.count (PLT_CNT_n.nth 2)).timers = y.timers := ⟨rfl, rfl⟩
  have htimers : ((y.count (PLT_CNT_n.nth 2)).event 0x30 5).timers = y.timers := (Mach.event_timers _ _ _ _ (by decide)).trans hcounted.2
  refine ⟨?_, ?_, evt_event _ _ _ _ rfl, ?_, fun e he => ?_, ?_, ?_⟩
  · have hshown : ∀ f : Fd, (Fd.noEvt 0x30 f && Fd.clear (PLT_CNT_n.nth 2) f) = true → ((y.count (PLT_CNT_n.nth 2)).event 0x30 5).fld f = y.fld f :=
      fun f hf => by
        rw [Bool.and_eq_true] at hf
        exact (fld_event _ _ _ _ _ _ hf.1).trans (fld_count_clear _ _ _ _ _ _ hf.2)
    rw [← laneState_of_regs hyregs]
    unfold laneState
    rw [hshown _ rfl, hshown _ rfl]
  · rw [fld_event _ _ _ _ _ _ rfl, fld_count _ _ _ _ rfl, fld_of_regs hyregs]
    rfl
  · have hend : ((y.count (PLT_CNT_n.nth 2)).event 0x30 5).twn = x.twn := ((Mach.event_twn _ _ _ _ (by decide)).trans hcounted.1).trans hytwn
    rw [laneOf_of_twn hend, hxlane, hlane, hnow, Lane.resent, h]
    rfl
  · refine (keepsOuts_countedEvent y _ 0x30 5 _).mem _ ?_
    rw [hyouts]
    exact hxouts e he
  · rw [deadline_of_timers htimers, hyreplay]
  · rw [deadline_of_timers htimers, hyidle]

/-! ### Supervision (R233, R250) -/

theorem supervision_ends (hf : s.m.fires .supervision t) :
    Completes (.plaitSupervisionExpiry t) s fun m' => plaitUp m' = false ∧ m'.fld (PLT_CNT_n.nth 4) = (s.m.fld (PLT_CNT_n.nth 4) + 1) % 2 ^ 32
      ∧ m'.evt 0x30 0 = true
      ∧ (twnState s.m = 2 → twnState m' = 2 ∧ m'.fld TWN_LOSS_TICK_LO_w = s.m.twn.lastTick % 2 ^ 32
          ∧ m'.fld TWN_LOSS_TICK_HI_w = s.m.twn.lastTick / 2 ^ 32 % 2 ^ 32)
      ∧ (twnState s.m = 4 → s.m.twn.evidence = false → s.m.entersTwn m' 5
          ∧ m'.fld TWN_LOSS_TICK_LO_w = s.m.twn.lastTick % 2 ^ 32 ∧ m'.fld TWN_LOSS_TICK_HI_w = s.m.twn.lastTick / 2 ^ 32 % 2 ^ 32)
      ∧ (twnState s.m = 3 → s.m.twn.evidence = false → s.m.keptFromLead →
          twnState m' = 3 ∧ m'.deadline .witnessDelay = some ((s.m.advance t).now + s.m.cfg TWN_WIT_timeout * 1000))
      ∧ (twnState s.m = 3 → s.m.twn.evidence = true → s.m.entersTwn m' 6) := by
  refine completes_fires (f := fun m => m.plaitGone.twinEval) rfl hf ?_
  rw [plaitGone_eq]
  have hlost := plaitDown_lost ((s.m.advance t).disarm .supervision)
  obtain ⟨hdown, hcounted, hsignalled⟩ := hlost.down
  refine ⟨hdown, hcounted, hsignalled, fun hstate => ?_, fun hstate hevidence => ?_, fun hstate hevidence hkept => hlost.waits hstate hevidence hkept,
    fun hstate hevidence => hlost.isolates hstate hevidence⟩
  · obtain ⟨hst, hlow, hhigh⟩ := hlost.leads hstate
    exact ⟨hst, hlow, hhigh⟩
  · obtain ⟨henters, hlow, hhigh⟩ := hlost.decides hstate hevidence
    exact ⟨henters, hlow, hhigh⟩

end

/-! ### HELLO and KEEP (R230, R231) -/

section
variable {m x : Mach} {l k : Nat}

/-- A HELLO on a lane that trains. -/
def Mach.trainHello (m : Mach) (l : Nat) : Mach := if laneState m l = 1 then m.plaitSendLane l (helloMsg m) else m

theorem keepsOuts_trainHello (m : Mach) (l : Nat) : m.keepsOuts (m.trainHello l) := by
  unfold Mach.trainHello
  split
  · exact keepsOuts_plaitSendLane ..
  · exact keepsOuts_refl m

theorem trainHello_touch (m : Mach) (l : Nat) : m.touch 0x1001100 0 (m.trainHello l) :=
  touch_ite (fun _ => Mach.plaitSendLane_touch ..) fun _ => touch_refl _ _ _

theorem trainHello_deadline (m : Mach) (l : Nat) : (m.trainHello l).deadline .helloTx = m.deadline .helloTx := by
  unfold Mach.trainHello
  split
  · exact (plaitSendLane_rx m l _).2 _ (fun _ => by simp) fun _ => by simp
  · rfl

theorem trainHello_otherLane (m : Mach) (hl : l < 2) (hk : k < 2) (hkl : k ≠ l) : laneOf (m.trainHello l) k = laneOf m k := by
  unfold Mach.trainHello
  split
  · exact plaitSendLane_otherLane m hl hk hkl _
  · rfl

theorem trainHello_sends (hl : l < 2) (hmay : mayPlait m = true) (hstate : laneState m l = 1) (hroom : (laneOf m l).unacked.length < 256) :
    ∃ h, laneFrame m l (.hello h) ∈ (m.trainHello l).outs := by
  obtain ⟨g, hg⟩ := helloMsg_hello m
  refine ⟨g, ?_⟩
  rw [Mach.trainHello, if_pos hstate, hg, (plaitSendLane_sent hl hmay (.inl hstate) hroom).outs]
  exact List.mem_cons_self

/-- Both lanes that train have sent a HELLO. -/
def Mach.trainHellos (m : Mach) : Mach := (m.trainHello 0).trainHello 1

theorem keepsOuts_trainHellos (m : Mach) : m.keepsOuts m.trainHellos := (keepsOuts_trainHello m 0).trans (keepsOuts_trainHello _ 1)

theorem trainHellos_deadline (m : Mach) : m.trainHellos.deadline .helloTx = m.deadline .helloTx :=
  (trainHello_deadline _ 1).trans (trainHello_deadline m 0)

/-- A HELLO numbered by the lane it leaves on. -/
abbrev Mach.hellosOn (x : Mach) (l : Fin 2) (seq : Nat) : Prop :=
  ∃ (k : PlaitHdr) (h : HelloMsg), k.lane = l ∧ k.laneSeq = BitVec.ofNat 16 seq ∧ .plait k (.hello h) ∈ x.outs

theorem trainHellos_sends (hmay : mayPlait m = true) (l : Fin 2) (hstate : laneState m l = 1) (hroom : (laneOf m l).unacked.length < 256) :
    m.trainHellos.hellosOn l (laneOf m l).txSeq := by
  revert l
  refine Fin.forall_fin_two.mpr ⟨fun hstate hroom => ?_, fun hstate hroom => ?_⟩
  · obtain ⟨g, hsent⟩ := trainHello_sends (l := 0) (by decide) hmay hstate hroom
    exact ⟨_, g, rfl, rfl, (keepsOuts_trainHello (m.trainHello 0) 1).mem _ hsent⟩
  · have hlane : laneOf (m.trainHello 0) 1 = laneOf m 1 := trainHello_otherLane m (by decide) (by decide) (by decide)
    have hstate' : laneState (m.trainHello 0) 1 = 1 := (laneState_of_regs (regs_of_touch (trainHello_touch m 0) rfl) 1).trans hstate
    obtain ⟨g, hsent⟩ := trainHello_sends (l := 1) (by decide) ((mayPlait_touch (trainHello_touch m 0) rfl rfl rfl).trans hmay) hstate'
      (by rw [hlane]; exact hroom)
    exact ⟨_, g, rfl, congrArg (fun b : Lane => BitVec.ofNat 16 b.txSeq) hlane, hsent⟩

end

section
variable {s : State} {t : Nat} {l : Fin 2}

theorem completes_helloInterval {P : Mach → Prop} (hf : s.m.fires .helloTx t)
    (hP : ∀ k : Mach, k.deadline .helloTx = some ((s.m.advance t).now + 10000000) → k.twn = s.m.twn → k.outs = s.m.outs → k.regs = s.m.regs →
      s.m.touch 0x101 0 k → P (k.plaitSend (helloMsg k)).trainHellos) : Completes (.helloInterval t) s P := by
  have htouch : s.m.touch 0x101 0 (((s.m.advance t).disarm .helloTx).arm .helloTx (((s.m.advance t).disarm .helloTx).now + 10000000)) :=
    touch_app (touch_app (touch_mono (Mach.advance_touch s.m t) rfl rfl) (Mach.disarm_touch ..) rfl rfl) (Mach.arm_touch ..) rfl rfl
  refine completes_fires rfl hf (hP _ ?_ rfl rfl rfl htouch)
  rw [deadline_arm_same]
  rfl

theorem helloInterval_held (hf : s.m.fires .helloTx t) (hmay : mayPlait s.m = false) :
    Completes (.helloInterval t) s fun m' => m'.deadline .helloTx = some ((s.m.advance t).now + 10000000) ∧ m'.twn = s.m.twn ∧ m'.outs = s.m.outs := by
  refine completes_helloInterval hf fun k hdead htwn houts hregs htouch => ?_
  have hkmay : mayPlait k = false := (mayPlait_touch htouch rfl rfl rfl).trans hmay
  have hnone : ∀ j, k.trainHello j = k := fun j => by
    unfold Mach.trainHello
    rw [plaitSendLane_held (.inl hkmay), ite_self]
  rw [plaitSend_held hkmay, Mach.trainHellos, hnone, hnone]
  exact ⟨hdead, htwn, houts⟩

theorem helloInterval_sends (hf : s.m.fires .helloTx t) (hmay : mayPlait s.m = true) :
    Completes (.helloInterval t) s fun m' => m'.deadline .helloTx = some ((s.m.advance t).now + 10000000)
      ∧ (∀ l : Fin 2, laneState s.m l = 1 → (laneOf s.m l).unacked.length < 256 → m'.hellosOn l (laneOf s.m l).txSeq)
      ∧ (s.m.twn.sendQ = [] → s.m.twn.resendQ = [] → ∀ l, pickLane s.m = some l → ∃ h, laneFrame s.m l (.hello h) ∈ m'.outs) := by
  refine completes_helloInterval hf fun k hdead htwn houts hregs htouch => ?_
  have hkmay : mayPlait k = true := (mayPlait_touch htouch rfl rfl rfl).trans hmay
  have hklane : ∀ j, laneOf k j = laneOf s.m j := laneOf_of_twn htwn
  have hkstate : ∀ j, laneState k j = laneState s.m j := laneState_of_regs hregs
  refine ⟨?_, fun l hstate hroom => ?_, fun hqueue hresend l hpick => ?_⟩
  · rw [trainHellos_deadline]
    exact ((plaitSend_rx k _).2 _ (fun _ => by simp) fun _ => by simp).trans hdead
  · have hsendLane : laneOf (k.plaitSend (helloMsg k)) l = laneOf s.m l :=
      (plaitSend_otherLane k _ l.isLt (by rw [hkstate, hstate]; decide)).trans (hklane l)
    rw [← hsendLane] at hroom ⊢
    exact trainHellos_sends ((mayPlait_touch (Mach.plaitSend_touch k _) rfl rfl rfl).trans hkmay) l
      ((laneState_of_regs (plaitSend_regs ..) l).trans ((hkstate l).trans hstate)) hroom
  · have hkpick : pickLane k = some l := by
      unfold pickLane at hpick ⊢
      simp only [hkstate, hklane]
      exact hpick
    obtain ⟨g, hg⟩ := helloMsg_hello k
    have hsent := plaitSend_sent (x := .hello g) hkmay (by rw [htwn]; exact hqueue) (by rw [htwn]; exact hresend) rfl hkpick
    have hframe : laneFrame k l (.hello g) = laneFrame s.m l (.hello g) := by
      unfold laneFrame
      rw [plaitHdr_touch htouch rfl rfl rfl (by rw [hklane]), hklane, htwn]
    refine ⟨g, (keepsOuts_trainHellos _).mem _ ?_⟩
    rw [hg, hsent.outs, ← hframe]
    exact List.mem_cons_self

theorem keepIdle_sends (hf : s.m.fires (.keepIdle l) t) (hmay : mayPlait s.m = true) (hstate : laneState s.m l = 1 ∨ laneState s.m l = 2)
    (hroom : (laneOf s.m l).unacked.length < 256) :
    Completes (.keepIdleExpiry t l) s fun m' => m'.outs = laneFrame s.m l .keep :: s.m.outs
      ∧ m'.deadline (.keepIdle l) = some ((s.m.advance t).now + 50000)
      ∧ laneOf m' l = { laneOf s.m l with
          txSeq := ((laneOf s.m l).txSeq + 1) % 2 ^ 16, txPn := (laneOf s.m l).txPn + 1
          unacked := (laneOf s.m l).unacked ++
            [{ seq := (laneOf s.m l).txSeq, link := s.m.twn.linkTx, tries := 1, sentAt := (s.m.advance t).now, msg := .keep }] }
      ∧ m'.twn.linkTx = (s.m.twn.linkTx + 1) % 2 ^ 32 := by
  refine completes_fires (f := fun m => m.plaitSendLane l .keep) rfl hf ?_
  obtain ⟨hlane, hlink, houts, hidle⟩ := plaitSendLane_sent (m := (s.m.advance t).disarm (.keepIdle l)) (x := .keep) l.isLt hmay hstate hroom
  exact ⟨houts, hidle, hlane, hlink⟩

theorem keepIdle_held (hf : s.m.fires (.keepIdle l) t)
    (h : mayPlait s.m = false ∨ (laneState s.m l ≠ 1 ∧ laneState s.m l ≠ 2) ∨ 256 ≤ (laneOf s.m l).unacked.length) :
    Completes (.keepIdleExpiry t l) s fun m' => m'.twn = s.m.twn ∧ m'.outs = s.m.outs ∧ m'.deadline (.keepIdle l) = none := by
  refine completes_fires (f := fun m => m.plaitSendLane l .keep) rfl hf ?_
  rw [plaitSendLane_held (m := (s.m.advance t).disarm (.keepIdle l)) h]
  exact ⟨rfl, rfl, deadline_disarm_same ..⟩

end

/-- Settles O50, each clause by its lemma above. -/
theorem plaitLanesRun : Obligations.PlaitLanesRun :=
  ⟨fun _ _ _ => lock_trains, fun _ _ _ => lock_noted, fun _ _ _ => lock_lost, fun _ _ _ => lockHold_up, fun _ _ _ => lockHold_noted,
    fun _ _ _ => replay_nothing, fun _ _ _ _ _ => replay_ends, fun _ _ _ _ _ => replay_again, fun _ _ => supervision_ends,
    fun _ _ => helloInterval_held, fun _ _ => helloInterval_sends, fun _ _ _ => keepIdle_sends, fun _ _ _ => keepIdle_held⟩

end Sys2Proof.Machine

/-! # A partition frozen and thawed, the manager ring, and dirty logging re-armed -/

namespace Sys2Proof.Machine

/-! ### Freeze (R286) -/

section
variable {s : State} {t v : Nat} {src : Src} {c : Instr} {f : Mach → Mach} {P : Mach → Prop}

/-- A command that is a write of VRT_MIG_CMD, from what the word does to the module as the write finds it and the audit record then leaves. -/
theorem completes_migCommand (h : exec c s = s.run t fun m => m.put src 0x32 0x054 v) (hplain : plainCmd 0x32 0x054 v = true)
    (hf : ∀ m : Mach, m.migCommand v = f m) (hpow : s.m.powered = true) (hsrc : s.m.mayWrite src)
    (hP : ∀ k, (s.m.advance t).alike k → ∀ m', (f k).touch 0x3008 0 m' → P m') : Completes c s P := by
  refine completes_put h hpow hsrc hplain fun k i hk _ => ?_
  have hact : k.act src 0x32 0x054 i v = f k := hf k
  rw [hact]
  exact hP k hk _ (Mach.auditWrite_touch ..)

theorem completes_freeze (hpow : s.m.powered = true) (hsrc : s.m.mayWrite src)
    (hP : ∀ k, (s.m.advance t).alike k → ∀ m', k.freezeCmd.touch 0x3008 0 m' → P m') : Completes (.freeze t src) s P :=
  completes_migCommand (f := fun m => m.freezeCmd) rfl (by decide) (fun _ => rfl) hpow hsrc hP

theorem completes_thaw (hpow : s.m.powered = true) (hsrc : s.m.mayWrite src)
    (hP : ∀ k, (s.m.advance t).alike k → ∀ m', (k.endFreeze false).touch 0x3008 0 m' → P m') : Completes (.thaw t src) s P :=
  completes_migCommand (f := fun m => m.endFreeze false) rfl (by decide) (fun _ => rfl) hpow hsrc hP

end

/-- The region map of a partition stands in the settings in force. -/
theorem regionsOf_congr {a b : Mach} (h : b.force = a.force) (p : Nat) : regionsOf b p = regionsOf a p := by
  unfold regionsOf
  simp only [cfg_of_force h, on_of_force h]

/-- A freeze that is refused: it is not armed, its partition is not Active, or the module leads a twin that follows. -/
def freezeBarred (m : Mach) : Prop := m.on VRT_MIG_en = false ∨ m.partState (m.cfg VRT_MIG_part) ≠ psActive
  ∨ (m.fld TWN_STS_state = 2 ∧ m.fld TWN_STS_partner = 4)

theorem alike_freezeBarred {m k : Mach} (h : m.alike k) : freezeBarred k = freezeBarred m := by
  unfold freezeBarred
  rw [on_of_force (alike_force h), cfg_of_force (alike_force h), alike_partState h, alike_fld h _ _ (by decide) (by decide),
    alike_fld h _ _ (by decide) (by decide)]

section
variable {m : Mach}

theorem freezeBarred_iff : (!m.on VRT_MIG_en || m.partState (m.cfg VRT_MIG_part) != psActive
    || (m.fld TWN_STS_state == 2 && m.fld TWN_STS_partner == 4)) = true ↔ freezeBarred m := by
  simp only [freezeBarred, Bool.or_eq_true, Bool.and_eq_true, Bool.not_eq_true', bne_iff_ne, beq_iff_eq, or_assoc]

theorem freezeCmd_refuses (h : freezeBarred m) : m.freezeCmd = m.event 0x32 7 (.part (m.cfg VRT_MIG_part)) :=
  if_pos (freezeBarred_iff.mpr h)

theorem freezeCmd_freezes (h : ¬ freezeBarred m) : m.freezeCmd.partState (m.cfg VRT_MIG_part) = psFreezing
      ∧ m.freezeCmd.fld (VRT_CNT_n.nth 2) = (m.fld (VRT_CNT_n.nth 2) + 1) % 2 ^ 32
      ∧ m.freezeCmd.part (m.cfg VRT_MIG_part)
        = { m.part (m.cfg VRT_MIG_part) with freezeAt := m.now, oldMap := regionsOf m (m.cfg VRT_MIG_part) }
      ∧ m.freezeCmd.deadline .blackout = some (m.now + m.cfg VRT_MIG_blackout * 1000) := by
  generalize hw : m.freezeCmd = w
  unfold Mach.freezeCmd at hw
  extract_lets -underBinder -merge -useContext +onlyGivenNames p map x y at hw
  rw [if_neg (mt freezeBarred_iff.mp h)] at hw
  subst hw
  refine ⟨?state, ?count, part_onPart x p fun b => { b with freezeAt := x.now, oldMap := map }, deadline_arm_same y ..⟩
  case state =>
    show x.partState p = psFreezing
    exact (fld_count_clear _ _ _ _ _ _ rfl).trans (fld_set _ _ _ _ rfl)
  case count =>
    show x.fld (VRT_CNT_n.nth 2) = _
    refine (fld_count _ _ _ _ rfl).trans ?_
    rw [fld_set_clear _ _ _ _ _ _ rfl]
    rfl

/-! ### Frozen (R286) -/

variable {p : Nat}

theorem enterFrozen_enters (hstate : m.partState p = psFreezing) (hxfers : (m.part p).xfers = []) :
    m.enterFrozen p = (m.setFld VRT_PART_STS_state p psFrozen).event 0x32 3 (.part p) :=
  if_pos ⟨hstate, List.isEmpty_iff.mpr hxfers⟩

theorem enterFrozen_waits (h : m.partState p ≠ psFreezing ∨ (m.part p).xfers ≠ []) : m.enterFrozen p = m := by
  refine if_neg fun hends => ?_
  obtain ⟨hstate, hxfers⟩ := hends
  exact h.elim (· hstate) (· (List.isEmpty_iff.mp hxfers))

end

/-! ### The end of a freeze (R287) -/

theorem frozenPart_congr {a b : Mach} (h : ∀ p, b.partState p = a.partState p) : frozenPart b = frozenPart a := by
  unfold frozenPart
  simp only [h]

/-- The module with the freeze of a partition shown as ended. -/
def Mach.freezeShown (m : Mach) (p : Nat) (auto : Bool) : Mach :=
  ((m.disarm .blackout).setFlag VRT_MIG_LAST_auto 0 auto).setFld VRT_MIG_LAST_time 0 (min 65535 ((m.now - (m.part p).freezeAt) / 1000))

/-- The event of that end; the blackout's also restores the region map and counts. -/
def Mach.freezeNoted (m : Mach) (p : Nat) (auto : Bool) : Mach :=
  if auto then ((m.restoreMap p).count (VRT_CNT_n.nth 3)).event 0x32 5 (.part p) else m.event 0x32 4 (.part p)

section
variable {m : Mach} {p : Nat} {auto : Bool}

theorem endFreeze_idle (h : frozenPart m = none) : m.endFreeze auto = m := by
  unfold Mach.endFreeze
  rw [h]

/-- A freeze, whether or not the partition is Frozen yet (log 70), ends in Active; beside the partition's state, page 0x32 is as the end's event left it. -/
theorem endFreeze_ends (h : frozenPart m = some p) : (m.endFreeze auto).partState p = psActive
    ∧ ∀ (f : Fd) (i : Nat), (Fd.clear VRT_PART_STS_state f && Fd.clear RIM_STS_dbg f && f.page == 0x32) = true →
      (m.endFreeze auto).fld f i = ((m.freezeShown p auto).freezeNoted p auto).fld f i := by
  obtain ⟨n, hends⟩ : ∃ n, m.endFreeze auto = ((((m.freezeShown p auto).freezeNoted p auto).enterActive p).releaseHeld p).deliverKept p n := by
    unfold Mach.endFreeze
    rw [h]
    exact ⟨_, rfl⟩
  rw [hends]
  generalize (m.freezeShown p auto).freezeNoted p auto = y
  have hrest : (y.enterActive p).touch 0x2c0b908 0x30000000001200 (((y.enterActive p).releaseHeld p).deliverKept p n) :=
    touch_app (Mach.releaseHeld_touch ..) (Mach.deliverKept_touch ..) rfl rfl
  refine ⟨?_, fun f i hf => ?_⟩
  · exact (partState_of_touch hrest rfl p).trans ((fld_set_clear _ _ _ _ _ _ rfl).trans (fld_set _ _ _ _ rfl))
  · simp only [Bool.and_eq_true, beq_iff_eq] at hf
    obtain ⟨⟨hstate, hdbg⟩, hpage⟩ := hf
    have hoff : f.off < 4096 := by
      simp only [Fd.clear, Fd.fit, Bool.and_eq_true, decide_eq_true_eq] at hstate
      exact hstate.1.2.2
    calc (((y.enterActive p).releaseHeld p).deliverKept p n).fld f i
        = (y.enterActive p).fld f i := fld_touch hrest f i (by simp [hpage, hoff]; decide)
      _ = (y.runJobs.setFld VRT_PART_STS_state p psActive).fld f i := fld_set_clear _ _ _ _ _ _ hdbg
      _ = y.runJobs.fld f i := fld_set_clear _ _ _ _ _ _ hstate
      _ = y.fld f i := fld_onDsp ..

theorem freezeShown_auto (m : Mach) (p : Nat) (auto : Bool) : (m.freezeShown p auto).fld VRT_MIG_LAST_auto = auto.toNat :=
  (fld_set_clear _ _ _ _ _ _ rfl).trans ((fld_set _ _ _ _ rfl).trans (by cases auto <;> rfl))

/-- A thaw (R287). -/
theorem endFreeze_thaws (h : frozenPart m = some p) : (m.endFreeze false).partState p = psActive
    ∧ (m.endFreeze false).fld VRT_MIG_LAST_auto = 0 ∧ (m.endFreeze false).evt 0x32 4 = true := by
  obtain ⟨hactive, hfld⟩ := endFreeze_ends (auto := false) h
  refine ⟨hactive, ?_, ?_⟩
  · exact (hfld _ _ rfl).trans ((fld_event _ _ _ _ _ _ rfl).trans (freezeShown_auto m p false))
  · exact (congrArg (bit · 4) (hfld (hEvt 0x32) 0 rfl)).trans (evt_event (m.freezeShown p false) _ _ _ rfl)

/-- The end of the blackout (R287). -/
theorem endFreeze_expires (h : frozenPart m = some p) : (m.endFreeze true).partState p = psActive
    ∧ (m.endFreeze true).fld VRT_MIG_LAST_auto = 1 ∧ (m.endFreeze true).evt 0x32 5 = true
    ∧ (m.endFreeze true).fld (VRT_CNT_n.nth 3) = (m.fld (VRT_CNT_n.nth 3) + 1) % 2 ^ 32 := by
  obtain ⟨hactive, hfld⟩ := endFreeze_ends (auto := true) h
  have hmap : (m.freezeShown p true).touch 0x18 0x8000000000000 ((m.freezeShown p true).restoreMap p) := Mach.restoreMap_touch ..
  refine ⟨hactive, ?auto, ?evt, ?count⟩
  case auto =>
    calc (m.endFreeze true).fld VRT_MIG_LAST_auto
        = ((m.freezeShown p true).freezeNoted p true).fld VRT_MIG_LAST_auto := hfld _ _ rfl
      _ = ((m.freezeShown p true).restoreMap p).fld VRT_MIG_LAST_auto := (fld_event _ _ _ _ _ _ rfl).trans (fld_count_clear _ _ _ _ _ _ rfl)
      _ = (m.freezeShown p true).fld VRT_MIG_LAST_auto := fld_touch hmap _ _ rfl
      _ = 1 := freezeShown_auto m p true
  case evt => exact (congrArg (bit · 5) (hfld (hEvt 0x32) 0 rfl)).trans (evt_event (((m.freezeShown p true).restoreMap p).count _) _ _ _ rfl)
  case count =>
    calc (m.endFreeze true).fld (VRT_CNT_n.nth 3)
        = ((m.freezeShown p true).freezeNoted p true).fld (VRT_CNT_n.nth 3) := hfld _ _ rfl
      _ = (((m.freezeShown p true).restoreMap p).fld (VRT_CNT_n.nth 3) + 1) % 2 ^ 32 := (fld_event _ _ _ _ _ _ rfl).trans (fld_count _ _ _ _ rfl)
      _ = ((m.freezeShown p true).fld (VRT_CNT_n.nth 3) + 1) % 2 ^ 32 := by rw [fld_touch hmap (VRT_CNT_n.nth 3) 0 rfl]
      _ = (m.fld (VRT_CNT_n.nth 3) + 1) % 2 ^ 32 := by
        rw [Mach.freezeShown, fld_set_clear _ _ _ _ _ _ rfl, fld_flag_clear _ _ _ _ _ _ rfl]
        rfl

end

/-! ### The manager ring's doorbell (R266) -/

/-- A producer within the ring's size is not rejected: the index is no configuration (R44). -/
theorem wordRefusal_mgrIdx (m : Mach) (src : Src) {prod : Nat} (hprod : prod < 2 ^ 16)
    (h : (prod + 2 ^ 16 - m.fld VRT_MGR_IDX_cons) % 2 ^ 16 ≤ 2 ^ m.cfg VRT_MGR_RING_log2) : wordRefusal m src 0x32 0x07C prod = none := by
  obtain ⟨d, hfind, hrwl, hwritable, hmask, hany⟩ : ∃ d, findReg 0x32 0x07C = some d ∧ hasRwl d = false ∧ writable d = true
      ∧ accMask d [.ro, .rw, .w1c, .wo, .rwl] = 2 ^ 32 - 1 ∧ ∀ v, (d.flds.all fun f => f.acc == .ro || inRange f v) = true :=
    ⟨_, rfl, rfl, rfl, rfl, fun _ => rfl⟩
  have hconfig : configWrite m 0x32 0x07C prod = false := rfl
  have hrun : secondRun m 0x32 0x07C prod = false := rfl
  have hspecial : specialRefusal m 0x32 0x07C prod (selIndex m d) = none := by
    refine if_neg (Nat.not_lt.mpr ?_)
    rw [Nat.mod_eq_of_lt hprod]
    exact h
  unfold wordRefusal blockRefusal
  simp only [hconfig, hrun, hfind, hrwl, hwritable, hmask, hany, hspecial, Bool.and_false, Bool.or_self, Bool.false_eq_true, if_false,
    Bool.not_true]
  rw [if_neg (by decide), if_neg (by decide), if_neg (by rw [Nat.sub_self]; simp [Nat.land])]

/-- Of VRT_MGR_IDX software sets the producer alone. -/
theorem storeWord_mgrIdx (m : Mach) (v : Word) : m.storeWord 0x32 0x07C 0 v = m.setFld VRT_MGR_IDX_prod 0 v.toNat := by
  obtain ⟨d, hfind, hset, hclr⟩ : ∃ d, findReg 0x32 0x07C = some d ∧ accMask d [.rw, .rwl] = 2 ^ 16 - 1 ∧ accMask d [.w1c] = 0 :=
    ⟨_, rfl, rfl, rfl⟩
  unfold Mach.storeWord Mach.setFld
  simp only [hfind, hset, hclr]
  refine congrArg (m.setReg 0x32 0x07C 0) (BitVec.eq_of_getLsbD_eq fun i hi => ?_)
  have hword : (word (setBits (m.reg 0x32 0x07C 0).toNat 15 0 v.toNat)).getLsbD i
      = if i ≤ 15 then v.getLsbD i else (m.reg 0x32 0x07C 0).getLsbD i := by
    rw [word, BitVec.getLsbD_ofNat, setBits_testBit _ _ _ _ _ (by decide)]
    simp [hi, BitVec.getLsbD]
  have hlow : (word (2 ^ 16 - 1)).getLsbD i = decide (i ≤ 15) := by
    simp only [word, BitVec.getLsbD_ofNat, Nat.testBit_two_pow_sub_one]
    simp [hi, Nat.lt_succ_iff]
  have hnone : (word 0).getLsbD i = false := by simp [word]
  show _ = (word (setBits (m.reg 0x32 0x07C 0).toNat 15 0 v.toNat)).getLsbD i
  rw [hword]
  simp only [BitVec.getLsbD_and, BitVec.getLsbD_or, BitVec.getLsbD_not, hlow, hnone, hi]
  by_cases h : i ≤ 15 <;> simp [h]

/-- A doorbell within the ring's size sets the producer, and the ring is worked off. -/
theorem completes_mgrDoorbell {s : State} {t : Nat} {src : Src} {prod : BitVec 16} {pks : List RingPacket} {P : Mach → Prop}
    (hpow : s.m.powered = true) (hsrc : s.m.mayWrite src)
    (hfits : (prod.toNat + 2 ^ 16 - s.m.fld VRT_MGR_IDX_cons) % 2 ^ 16 ≤ 2 ^ s.m.cfg VRT_MGR_RING_log2)
    (hP : ∀ k, (s.m.advance t).touch 0x3008 0x4000000000000 k → k.fld VRT_MGR_IDX_prod = prod.toNat →
      k.fld VRT_MGR_IDX_cons = s.m.fld VRT_MGR_IDX_cons → P (k.mgrRing pks)) : Completes (.mgrRingDoorbell t src prod pks) s P := by
  refine completes_run (f := fun m => m.mgrDoorbell src prod.toNat pks) rfl hpow ?_
  have hword : (word prod.toNat).toNat = prod.toNat := by
    rw [word_toNat]
    exact Nat.mod_eq_of_lt (prod.isLt.trans (by decide))
  unfold Mach.mgrDoorbell
  rw [debugIgnored_false (m := s.m.advance t) hsrc, wordRefusal_mgrIdx (s.m.advance t) src prod.isLt hfits, storeWord_mgrIdx, hword]
  refine hP _ ?touch ?prod ?cons
  case touch =>
    exact touch_app (touch_mono (Mach.setFld_touch (P := 0x4000000000000) _ _ _ _ rfl) rfl rfl) (Mach.auditWrite_touch ..) rfl rfl
  case prod => exact (fld_audit _ _ _ _ _ _ _ rfl).trans ((fld_set _ _ _ _ rfl).trans (Nat.mod_eq_of_lt prod.isLt))
  case cons => exact (fld_audit _ _ _ _ _ _ _ rfl).trans (fld_set_clear _ _ _ _ _ _ rfl)

/-! ### An entry of the manager ring (R266) -/

/-- What a well-formed packet of the manager ring sends into the switch core: untagged (log 17), in the ring's priority, capped. -/
def mgrIngress (m : Mach) (pk : RingPacket) : Ingress := {
  fr := frameOf pk.payload .untagged (pk.payload.length + 4), port := 22, vid := 0, pcp := m.cfg VRT_MGR_RING_pcp
  cls := classOf m (m.cfg VRT_MGR_RING_pcp), capped := true, stamp := if pk.offset = 1 then some 64 else none }

theorem mgrIngress_congr {a b : Mach} (h : b.force = a.force) (pk : RingPacket) : mgrIngress b pk = mgrIngress a pk := by
  unfold mgrIngress classOf
  simp only [cfg_of_force h]

/-- Where the entry that the consumer points at stands in memory. -/
def mgrEntryAt (m : Mach) : Nat :=
  cfg64 m VRT_MGR_RING_LO_lo VRT_MGR_RING_HI_hi 0 + m.fld VRT_MGR_IDX_cons % 2 ^ m.cfg VRT_MGR_RING_log2 * 4096

/-- Is a packet of the manager ring well formed? -/
def mgrOk (pk : RingPacket) : Bool := ringPacketOk pk && vnicOk pk.payload && decide (pk.offset.toNat < 2)

section
variable {m : Mach} {pk : RingPacket}

theorem mgrRing_off (hoff : m.on VRT_MGR_RING_en = false) (pks : List RingPacket) : m.mgrRing pks = m := by
  refine each_inv (fun k => k = m) pks _ m (fun pk k hk => ?_) rfl
  subst hk
  exact if_pos (by rw [hoff]; rfl)

variable (hon : m.on VRT_MGR_RING_en = true) (hwaits : m.fld VRT_MGR_IDX_prod ≠ m.fld VRT_MGR_IDX_cons)
include hon hwaits

/-- A well-formed packet is sent and consumed; the rest of its entry's effect is in memory. -/
theorem mgrEntry_sends (hok : mgrOk pk = true) :
    ∃ mem, m.mgrEntry pk = ({ m.inject (mgrIngress m pk) with mem := mem }).setFld VRT_MGR_IDX_cons 0 (m.fld VRT_MGR_IDX_cons + 1) := by
  generalize hw : m.mgrEntry pk = w
  unfold Mach.mgrEntry at hw
  extract_lets -underBinder -merge -useContext +onlyGivenNames cons ok pcp x at_ flags y at hw
  rw [if_neg (by simpa [hon] using hwaits)] at hw
  have hx : x = m.inject (mgrIngress m pk) := if_pos hok
  rw [← hx]
  exact ⟨_, hw.symm⟩

/-- A malformed packet is consumed with status 3 in its entry. -/
theorem mgrEntry_drops (hbad : mgrOk pk = false) :
    m.mgrEntry pk = ({ m with mem := memPut (mgrEntryAt m + 6) 3 (memPut (mgrEntryAt m + 1) (memGet (mgrEntryAt m + 1) m.mem ||| 2#8) m.mem) }).setFld
      VRT_MGR_IDX_cons 0 (m.fld VRT_MGR_IDX_cons + 1) := by
  generalize hw : m.mgrEntry pk = w
  unfold Mach.mgrEntry at hw
  extract_lets -underBinder -merge -useContext +onlyGivenNames cons ok pcp x at_ flags y at hw
  rw [if_neg (by simpa [hon] using hwaits)] at hw
  have hok : ok = false := hbad
  have hx : x = m := if_neg (by rw [hok]; decide)
  clear_value ok
  subst hok
  rw [← hw]
  simp only [y, flags, at_, hx]
  rfl

end

/-! ### Dirty logging re-armed (R283) -/

section
variable {m : Mach} {p : Nat}

theorem rearm_inactive (h : m.flag DRT_STS_active p = false) : m.rearm p = m := if_neg (by rw [h]; decide)

theorem rearm_active (h : m.flag DRT_STS_active p = true) : (m.rearm p).flag DRT_STS_bitmap p = (m.cfg DRT_CTRL_size p == 0)
    ∧ (m.rearm p).fld DRT_PROD_prod p = m.fld DRT_CONS_cons p ∧ (m.rearm p).evt 0x34 1 = true ∧ ((m.rearm p).part p).recent = [] := by
  generalize hw : m.rearm p = w
  unfold Mach.rearm at hw
  extract_lets -underBinder -merge -useContext +onlyGivenNames x at hw
  rw [if_pos h] at hw
  subst hw
  refine ⟨?bitmap, ?prod, evt_event _ _ _ _ rfl, ?recent⟩
  case bitmap =>
    have hfld : ((x.onPart p fun b => { b with recent := [] }).event 0x34 1 (.part p)).fld DRT_STS_bitmap p
        = (m.setFlag DRT_STS_bitmap p (m.cfg DRT_CTRL_size p == 0)).fld DRT_STS_bitmap p :=
      (fld_event _ _ _ _ _ _ rfl).trans ((fld_onPart ..).trans (fld_set_clear _ _ _ _ _ _ rfl))
    exact (congrArg (· == 1) hfld).trans (flag_set _ _ _ _ rfl)
  case prod =>
    have hset : x.fld DRT_PROD_prod p = m.fld DRT_CONS_cons p := (fld_set _ _ _ _ rfl).trans (Nat.mod_eq_of_lt (fld_lt m DRT_CONS_cons p))
    exact (fld_event _ _ _ _ _ _ rfl).trans ((fld_onPart ..).trans hset)
  case recent =>
    rw [part_of_parts (Mach.event_parts _ _ _ _ (by decide)), part_onPart]

end

/-- A DRT_REARM, from what it leaves of the selected partition's logging. -/
theorem completes_drtRearm {s : State} {t : Nat} {src : Src} {P : Mach → Prop} (hpow : s.m.powered = true) (hsrc : s.m.mayWrite src)
    (hP : ∀ k, (s.m.advance t).alike k → ∀ m', (k.rearm (s.m.fld DRT_SEL_index)).touch 0x3008 0 m' → P m') : Completes (.drtRearm t src) s P := by
  refine completes_put (page := 0x34) (off := 0x064) (v := 1) rfl hpow hsrc (by decide) fun k i hk hi => ?_
  have hi' : i = s.m.fld DRT_SEL_index := hi _ rfl
  subst hi'
  exact hP k hk _ (Mach.auditWrite_touch ..)

/-- A flag reads as its field does. -/
theorem flag_of_fld {a b : Mach} {f : Fd} {i : Nat} (h : b.fld f i = a.fld f i) : b.flag f i = a.flag f i := congrArg (· == 1) h

/-! ### The commands -/

section
variable {s : State} {t : Nat} {src : Src}

section
variable (hpow : s.m.powered = true) (hsrc : s.m.mayWrite src)
include hpow hsrc

theorem freeze_freezes (hen : s.m.on VRT_MIG_en = true) {p : Nat} (hp : p = s.m.cfg VRT_MIG_part) (hactive : s.m.partState p = psActive)
    (hlead : ¬ (s.m.fld TWN_STS_state = 2 ∧ s.m.fld TWN_STS_partner = 4)) :
    Completes (.freeze t src) s fun m' => m'.partState p = psFreezing ∧ m'.fld (VRT_CNT_n.nth 2) = (s.m.fld (VRT_CNT_n.nth 2) + 1) % 2 ^ 32
      ∧ (m'.part p).freezeAt = (s.m.advance t).now ∧ (m'.part p).oldMap = regionsOf s.m p
      ∧ m'.deadline .blackout = some ((s.m.advance t).now + s.m.cfg VRT_MIG_blackout * 1000) := by
  subst hp
  refine completes_freeze hpow hsrc fun k hk m' hm' => ?_
  have hforce : k.force = s.m.force := (alike_force hk :)
  have hbarred : ¬ freezeBarred s.m := by
    rintro (hoff | hother | hleads)
    · exact absurd (hen.symm.trans hoff) (by decide)
    · exact hother hactive
    · exact hlead hleads
  obtain ⟨hstate, hcount, hown, htimer⟩ := freezeCmd_freezes (mt (alike_freezeBarred hk).mp hbarred)
  rw [show k.cfg VRT_MIG_part = s.m.cfg VRT_MIG_part from cfg_of_force hforce _ _] at hstate hown
  have hpart := (part_of_parts (parts_of_touch hm' rfl) _).trans hown
  refine ⟨(partState_of_touch hm' rfl _).trans hstate, ?count, ?since, ?map, ?timer⟩
  case count =>
    rw [fld_touch hm' (VRT_CNT_n.nth 2) 0 rfl, hcount, alike_fld hk (VRT_CNT_n.nth 2) 0 (by decide) (by decide)]
    rfl
  case since =>
    rw [hpart]
    exact alike_now hk
  case map =>
    rw [hpart]
    exact regionsOf_congr hforce _
  case timer => rw [deadline_of_timers (timers_of_touch hm' rfl), htimer, alike_now hk, cfg_of_force hforce]

theorem freeze_refused (h : freezeBarred s.m) :
    Completes (.freeze t src) s fun m' => (∀ p, m'.partState p = s.m.partState p) ∧ m'.evt 0x32 7 = true := by
  refine completes_freeze hpow hsrc fun k hk m' hm' => ?_
  rw [freezeCmd_refuses ((alike_freezeBarred hk).mpr h)] at hm'
  refine ⟨fun p => ?_, (evt_touch hm' 0x32 7 rfl).trans (evt_event _ _ _ _ rfl)⟩
  exact (partState_of_touch hm' rfl p).trans ((fld_event _ _ _ _ _ _ rfl).trans (alike_partState hk p))

theorem thaw_thaws {p : Nat} (hfrozen : frozenPart s.m = some p) :
    Completes (.thaw t src) s fun m' => m'.partState p = psActive ∧ m'.fld VRT_MIG_LAST_auto = 0 ∧ m'.evt 0x32 4 = true := by
  refine completes_thaw hpow hsrc fun k hk m' hm' => ?_
  obtain ⟨hactive, hauto, hevt⟩ := endFreeze_thaws ((frozenPart_congr (alike_partState hk)).trans hfrozen)
  exact ⟨(partState_of_touch hm' rfl p).trans hactive, (fld_touch hm' _ _ rfl).trans hauto, (evt_touch hm' 0x32 4 rfl).trans hevt⟩

theorem thaw_idle (hnone : frozenPart s.m = none) :
    Completes (.thaw t src) s fun m' => (∀ p, m'.partState p = s.m.partState p) ∧ m'.parts = s.m.parts := by
  refine completes_thaw hpow hsrc fun k hk m' hm' => ?_
  rw [endFreeze_idle ((frozenPart_congr (alike_partState hk)).trans hnone)] at hm'
  exact ⟨fun p => (partState_of_touch hm' rfl p).trans (alike_partState hk p), (parts_of_touch hm' rfl).trans (alike_parts hk :)⟩

section
variable {prod : BitVec 16} (hfits : (prod.toNat + 2 ^ 16 - s.m.fld VRT_MGR_IDX_cons) % 2 ^ 16 ≤ 2 ^ s.m.cfg VRT_MGR_RING_log2)
include hfits

theorem mgrDoorbell_sends (hon : s.m.on VRT_MGR_RING_en = true) (hwaits : prod.toNat ≠ s.m.fld VRT_MGR_IDX_cons) {pk : RingPacket}
    (hok : mgrOk pk = true) :
    Completes (.mgrRingDoorbell t src prod [pk]) s fun m' => m'.fld VRT_MGR_IDX_prod = prod.toNat
      ∧ m'.fld VRT_MGR_IDX_cons = (s.m.fld VRT_MGR_IDX_cons + 1) % 2 ^ 16
      ∧ ∃ y : Mach, y.ports = s.m.ports ∧ y.swc = s.m.swc ∧ y.force = s.m.force ∧ m'.ports = (y.inject (mgrIngress s.m pk)).ports := by
  refine completes_mgrDoorbell hpow hsrc hfits fun k htouch hprod hcons => ?_
  have hforce : k.force = s.m.force := (force_of_touch htouch rfl :)
  obtain ⟨mem, hsends⟩ := mgrEntry_sends ((on_of_force hforce _ _).trans hon) (by rw [hprod, hcons]; exact hwaits) hok
  rw [show k.mgrRing [pk] = k.mgrEntry pk from rfl, hsends, mgrIngress_congr hforce]
  refine ⟨?prod, ?cons, k, (ports_of_touch htouch rfl :), (swc_of_touch htouch rfl :), hforce, rfl⟩
  case prod => exact (fld_set_clear _ _ _ _ _ _ rfl).trans ((fld_touch (Mach.inject_touch k _) VRT_MGR_IDX_prod 0 rfl).trans hprod)
  case cons => exact (fld_set _ _ _ _ rfl).trans (by rw [hcons]; rfl)

theorem mgrDoorbell_drops (hon : s.m.on VRT_MGR_RING_en = true) (hwf : Memory.wf s.m.mem = true) (hwaits : prod.toNat ≠ s.m.fld VRT_MGR_IDX_cons)
    {pk : RingPacket} (hbad : mgrOk pk = false) :
    Completes (.mgrRingDoorbell t src prod [pk]) s fun m' => m'.fld VRT_MGR_IDX_cons = (s.m.fld VRT_MGR_IDX_cons + 1) % 2 ^ 16
      ∧ m'.ports = s.m.ports ∧ memGet (mgrEntryAt s.m + 6) m'.mem = 3 := by
  refine completes_mgrDoorbell hpow hsrc hfits fun k htouch hprod hcons => ?_
  have hforce : k.force = s.m.force := (force_of_touch htouch rfl :)
  have hmem : k.mem = s.m.mem := (mem_of_touch htouch rfl :)
  have hat : mgrEntryAt k = mgrEntryAt s.m := by
    unfold mgrEntryAt cfg64
    simp only [hcons, cfg_of_force hforce]
  rw [show k.mgrRing [pk] = k.mgrEntry pk from rfl,
    mgrEntry_drops ((on_of_force hforce _ _).trans hon) (by rw [hprod, hcons]; exact hwaits) hbad, hat]
  refine ⟨?cons, (ports_of_touch htouch rfl :), ?status⟩
  case cons => exact (fld_set _ _ _ _ rfl).trans (by rw [hcons]; rfl)
  case status => exact memGet_memPut_same _ _ _ 0 (memPut_wf _ _ _ (by rw [hmem]; exact hwf))

theorem mgrDoorbell_off (hoff : s.m.on VRT_MGR_RING_en = false) {pks : List RingPacket} :
    Completes (.mgrRingDoorbell t src prod pks) s fun m' => m'.fld VRT_MGR_IDX_prod = prod.toNat
      ∧ m'.fld VRT_MGR_IDX_cons = s.m.fld VRT_MGR_IDX_cons ∧ m'.ports = s.m.ports ∧ m'.mem = s.m.mem := by
  refine completes_mgrDoorbell hpow hsrc hfits fun k htouch hprod hcons => ?_
  rw [mgrRing_off ((on_of_force (force_of_touch htouch rfl) _ _).trans hoff)]
  exact ⟨hprod, hcons, (ports_of_touch htouch rfl :), (mem_of_touch htouch rfl :)⟩

end

variable {p : Nat} (hp : p = s.m.fld DRT_SEL_index)
include hp

theorem drtRearm_rearms (hactive : s.m.flag DRT_STS_active p = true) :
    Completes (.drtRearm t src) s fun m' => m'.flag DRT_STS_bitmap p = (s.m.cfg DRT_CTRL_size p == 0)
      ∧ m'.fld DRT_PROD_prod p = s.m.fld DRT_CONS_cons p ∧ m'.evt 0x34 1 = true ∧ (m'.part p).recent = [] := by
  subst hp
  refine completes_drtRearm hpow hsrc fun k hk m' hm' => ?_
  obtain ⟨hbitmap, hprod, hevt, hrecent⟩ := rearm_active ((flag_of_fld (alike_fld hk _ _ (by decide) (by decide))).trans hactive)
  refine ⟨?bitmap, ?prod, (evt_touch hm' 0x34 1 rfl).trans hevt, ?recent⟩
  case bitmap =>
    rw [flag_of_fld (fld_touch hm' DRT_STS_bitmap _ rfl), hbitmap, cfg_of_force (alike_force hk)]
    rfl
  case prod => exact (fld_touch hm' DRT_PROD_prod _ rfl).trans (hprod.trans (alike_fld hk _ _ (by decide) (by decide)))
  case recent => rw [part_of_parts (parts_of_touch hm' rfl), hrecent]

theorem drtRearm_inactive (hinactive : s.m.flag DRT_STS_active p = false) :
    Completes (.drtRearm t src) s fun m' => m'.flag DRT_STS_bitmap p = s.m.flag DRT_STS_bitmap p
      ∧ m'.fld DRT_PROD_prod p = s.m.fld DRT_PROD_prod p ∧ m'.parts = s.m.parts := by
  subst hp
  refine completes_drtRearm hpow hsrc fun k hk m' hm' => ?_
  have hkept : ∀ f : Fd, f.page < 256 → f.off < 4096 → k.fld f (s.m.fld DRT_SEL_index) = s.m.fld f (s.m.fld DRT_SEL_index) :=
    fun f => alike_fld hk f _
  rw [rearm_inactive ((flag_of_fld (hkept _ (by decide) (by decide))).trans hinactive)] at hm'
  refine ⟨flag_of_fld ?bitmap, ?prod, (parts_of_touch hm' rfl).trans (alike_parts hk :)⟩
  case bitmap => exact (fld_touch hm' DRT_STS_bitmap _ rfl).trans (hkept _ (by decide) (by decide))
  case prod => exact (fld_touch hm' DRT_PROD_prod _ rfl).trans (hkept _ (by decide) (by decide))

end

theorem blackout_expires {p : Nat} (hfires : s.m.fires .blackout t) (hfrozen : frozenPart s.m = some p) :
    Completes (.blackoutExpiry t) s fun m' => m'.partState p = psActive ∧ m'.fld VRT_MIG_LAST_auto = 1 ∧ m'.evt 0x32 5 = true
      ∧ m'.fld (VRT_CNT_n.nth 3) = (s.m.fld (VRT_CNT_n.nth 3) + 1) % 2 ^ 32 :=
  completes_fires (f := fun m => m.endFreeze true) rfl hfires (endFreeze_expires (m := (s.m.advance t).disarm .blackout) hfrozen)

theorem frozenEntry_enters {p : Fin 64} (hpow : s.m.powered = true) (hstate : s.m.partState p = psFreezing) (hxfers : (s.m.part p).xfers = []) :
    Completes (.frozenEntry t p) s fun m' => m'.partState p = psFrozen ∧ m'.evt 0x32 3 = true ∧ m'.parts = s.m.parts := by
  refine completes_run (f := fun m => m.enterFrozen p) rfl hpow ?_
  rw [enterFrozen_enters (m := s.m.advance t) hstate hxfers]
  exact ⟨(fld_event _ _ _ _ _ _ rfl).trans (fld_set _ _ _ _ rfl), evt_event _ _ _ _ rfl, Mach.event_parts _ _ _ _ (by decide)⟩

theorem frozenEntry_waits {p : Fin 64} (hpow : s.m.powered = true) (hwaits : s.m.partState p ≠ psFreezing ∨ (s.m.part p).xfers ≠ []) :
    Completes (.frozenEntry t p) s fun m' => m' = s.m.advance t :=
  completes_run (f := fun m => m.enterFrozen p) rfl hpow (enterFrozen_waits (m := s.m.advance t) hwaits)

end

/-- Settles O35, each clause by its lemma above. -/
theorem freezesRingAndLogging : Obligations.FreezesRingAndLogging := by
  refine ⟨?freezes, ?refused, ?frozen, ?waits, ?thaws, ?idle, ?expires, ?sends, ?drops, ?off, ?rearms, ?inactive⟩
  case freezes => exact fun s t src p hpow hsrc hp hen hactive hlead => freeze_freezes hpow hsrc hen hp hactive hlead
  case refused => exact fun s t src hpow hsrc h => freeze_refused hpow hsrc h
  case frozen => exact fun s t p => frozenEntry_enters
  case waits => exact fun s t p => frozenEntry_waits
  case thaws => exact fun s t src p hpow hsrc => thaw_thaws hpow hsrc
  case idle => exact fun s t src hpow hsrc => thaw_idle hpow hsrc
  case expires => exact fun s t p => blackout_expires
  case sends =>
    intro s t src prod pk hpow hsrc hon hwaits hfits hring hvnic hoffset
    exact mgrDoorbell_sends hpow hsrc hfits hon hwaits (by rw [mgrOk, hring, hvnic, decide_eq_true hoffset]; rfl)
  case drops =>
    intro s t src prod pk hpow hsrc hon hwf hwaits hfits hbad
    refine mgrDoorbell_drops hpow hsrc hfits hon hwf hwaits ?_
    simp only [mgrOk, Bool.and_eq_false_iff, decide_eq_false_iff_not, Nat.not_lt, or_assoc]
    exact hbad
  case off => exact fun s t src prod pks hpow hsrc hoff hfits => mgrDoorbell_off hpow hsrc hfits hoff
  case rearms => exact fun s t src p hpow hsrc => drtRearm_rearms hpow hsrc
  case inactive => exact fun s t src p hpow hsrc => drtRearm_inactive hpow hsrc

end Sys2Proof.Machine

/-! # The ring commands complete -/

namespace Sys2Proof.Machine

/-- Settles O60: each completion from what the same command is shown to do. -/
theorem ringCommandsComplete : Obligations.RingCommandsComplete := by
  obtain ⟨hpnop, -, -, hfill, hvnic, hlast, -⟩ := partitionCommandsRun
  refine ⟨?pnop, ?fill, ?last, ?vnic⟩
  case pnop =>
    intro s t p pk hpow htakes
    exact (hpnop s t p pk hpow htakes).mono fun _ ⟨hcons, _, _, y, hdone⟩ => ⟨y, hdone, hcons⟩
  case fill =>
    intro s t p pk n dst tag hpow htakes hlen hkind hres hn hdst hpos hmax hn8 hdst8 hend hcovered hfree
    exact (hfill s t p pk n _ dst tag hpow htakes hlen hkind hres hn rfl hdst hpos hmax hn8 hdst8 hend hcovered hfree).mono
      fun _ hxfers => ⟨_, hxfers, rfl, rfl, rfl, rfl, rfl⟩
  case last => exact hlast
  case vnic =>
    intro s t p pk hpow htakes hok hoffset hroom
    exact (hvnic s t p pk hpow htakes hok hoffset hroom).mono fun _ ⟨y, hsent, _, hports⟩ => ⟨y, hsent, hports⟩

end Sys2Proof.Machine


/-! # Commits of the MAC pages and of NRG -/

namespace Sys2Proof.Machine

/-! ### The check of a MAC page (R316) -/

/-- The first bit on the wire of an address held in a LO and HI register pair is bit 8 of the HI register (R316). -/
theorem isGroup_mac (g : Gen) (lo hi : Fd) (i : Nat) (hlo : g.cfg lo i < 2 ^ 32) : isGroup (g.mac lo hi i) = bit (g.cfg hi i) 8 := by
  unfold isGroup Gen.mac
  rw [BitVec.getLsbD_ofNat, Nat.mul_comm, Nat.testBit_two_pow_mul_add _ hlo, bit_testBit]
  rfl

/-- Two checks of an HSR pair, one at each port, in one: `a` is the pair's mode as either port's page gives it, `c` says that the port is
the pair's first, `b` and `d` are MACsec at the port and at the pair's other one. -/
theorem hsrPair_iff {a a' b c d : Prop} (hmode : c → (a' ↔ a)) :
    ((¬ b ∨ ¬ a) ∧ ((¬ c ∨ ¬ a') ∨ ¬ d)) ↔ (a → ¬ b ∧ (c → ¬ d)) := by
  tauto

/-- The check of a MAC page asks the relations of R316. -/
theorem checkMac_iff (m : Mach) (e : Nat) : checkMac (heldGen m) e = true
    ↔ (m.fld (MAC_CTRL_speed.onPort e) = 0 → m.fld (MAC_CTRL_fec.onPort e) = 0)
        ∧ (m.fld (MAC_CTRL_speed.onPort e) = 1 → m.fld (MAC_CTRL_fec.onPort e) ≠ 2)
        ∧ (m.fld (MAC_CTRL_an.onPort e) = 1 → m.fld (MAC_CTRL_speed.onPort e) = 0 ∧ m.fld (MAC_CTRL_if1g.onPort e) ≠ 1)
        ∧ (m.fld (MAC_RED_mode.onPort (2 * (e / 2))) = 2 →
            m.fld (MAC_MSEC_en.onPort e) ≠ 1 ∧ (e % 2 = 0 → m.fld (MAC_MSEC_en.onPort (e + 1)) ≠ 1))
        ∧ bit (m.fld (MAC_ADDR_HI_hi.onPort e)) 8 = false := by
  have hheld : ∀ f : Fd, (heldGen m).cfg f = m.fld f := fun _ => rfl
  have hpair : e % 2 = 0 → MAC_RED_mode.onPort e = MAC_RED_mode.onPort (2 * (e / 2)) := fun h => by
    rw [show 2 * (e / 2) = e by omega]
  have haddr := isGroup_mac (heldGen m) (MAC_ADDR_LO_lo.onPort e) (MAC_ADDR_HI_hi.onPort e) 0 (fld_lt m (MAC_ADDR_LO_lo.onPort e) 0)
  unfold checkMac Gen.on
  simp only [haddr, hheld, Bool.and_eq_true, Bool.or_eq_true, Bool.not_eq_true', Bool.and_eq_false_iff, beq_iff_eq, beq_eq_false_iff_ne,
    bne_eq_false_iff_eq]
  simp only [and_assoc]
  refine and_congr imp_iff_not_or.symm (and_congr imp_iff_not_or.symm (and_congr imp_iff_not_or.symm ?_))
  rw [← and_assoc]
  exact and_congr_left fun _ => hsrPair_iff fun heven => by rw [hpair heven]

theorem commitRefusal_mac (m : Mach) {e : Nat} (he : e < 16) :
    commitRefusal m (0x20 + e) = if checkMac (heldGen m) e then none else some 0x09 := by
  interval_cases e <;> rfl

/-- A field of a port's page, which the checks of a command leave. -/
theorem sameSettings_portFld {m k : Mach} (h : m.sameSettings k) (f : Fd) (e : Nat) (hf : decide (f.off < 4096) = true) :
    k.fld (f.onPort e) = m.fld (f.onPort e) := by
  have hmac : checkWord (macPage e) f.off = false := by
    have hpage : macPage e ≠ 0x03 ∧ macPage e ≠ 0x36 := by unfold macPage; omega
    simp [checkWord, hpage]
  refine sameSettings_fld h (f.onPort e) 0 ?_
  show (decide (macPage e < 256) && decide (f.off < 4096) && !checkWord (macPage e) f.off) = true
  rw [decide_eq_true (macPage_lt e), hf, hmac]
  rfl

theorem toNat_portPage {e : Nat} (he : e < 16) : (BitVec.ofNat 8 (0x20 + e)).toNat = 0x20 + e := by
  rw [BitVec.toNat_ofNat]
  omega

/-- A commit of a MAC page is decided by the relations of R316. -/
theorem macCommit_checked (e : Fin 16) : CommitChecked (BitVec.ofNat 8 (0x20 + e)) fun m =>
    (m.fld (MAC_CTRL_speed.onPort e) = 0 → m.fld (MAC_CTRL_fec.onPort e) = 0)
      ∧ (m.fld (MAC_CTRL_speed.onPort e) = 1 → m.fld (MAC_CTRL_fec.onPort e) ≠ 2)
      ∧ (m.fld (MAC_CTRL_an.onPort e) = 1 → m.fld (MAC_CTRL_speed.onPort e) = 0 ∧ m.fld (MAC_CTRL_if1g.onPort e) ≠ 1)
      ∧ (m.fld (MAC_RED_mode.onPort (2 * (e / 2))) = 2 →
          m.fld (MAC_MSEC_en.onPort e) ≠ 1 ∧ (e.val % 2 = 0 → m.fld (MAC_MSEC_en.onPort (e + 1)) ≠ 1))
      ∧ bit (m.fld (MAC_ADDR_HI_hi.onPort e)) 8 = false := by
  have hpage := toNat_portPage e.isLt
  have hcheck : ∀ m, commitRefusal m (BitVec.ofNat 8 (0x20 + e)).toNat = if checkMac (heldGen m) e then none else some 0x09 :=
    fun m => by rw [hpage, commitRefusal_mac m e.isLt]
  refine commitChecked_of ?_ ?_ ?_ (fun m h => (hcheck m).trans (if_pos ((checkMac_iff m e).mpr h)))
    (fun m h => (hcheck m).trans (if_neg fun hc => h ((checkMac_iff m e).mp hc))) fun m k h => ?_
  · rw [hpage]; simp [mapped]; omega
  · rw [hpage]; simp [admittedPage]; omega
  · rw [hpage]; omega
  · rw [sameSettings_portFld h MAC_CTRL_speed e rfl, sameSettings_portFld h MAC_CTRL_fec e rfl, sameSettings_portFld h MAC_CTRL_an e rfl,
      sameSettings_portFld h MAC_CTRL_if1g e rfl, sameSettings_portFld h MAC_RED_mode _ rfl, sameSettings_portFld h MAC_MSEC_en e rfl,
      sameSettings_portFld h MAC_MSEC_en (e + 1) rfl, sameSettings_portFld h MAC_ADDR_HI_hi e rfl]


/-! ### A commit of NRG takes effect at once (R359, R365) -/

theorem ptStart_committed (m : Mach) (p : Nat) : (m.ptStart p).fld (hCommitted 0x0E) = m.fld (hCommitted 0x0E) := by
  unfold Mach.ptStart
  rw [fld_set_clear _ _ _ _ _ _ rfl, fld_set_clear _ _ _ _ _ _ rfl, fld_flag_clear _ _ _ _ _ _ rfl, fld_flag_clear _ _ _ _ _ _ rfl,
    fld_set_clear _ _ _ _ _ _ rfl, fld_set_clear _ _ _ _ _ _ rfl, fld_set_clear _ _ _ _ _ _ rfl, fld_set_clear _ _ _ _ _ _ rfl]
  exact fld_of_regs rfl _ _

theorem endPoint_committed (m : Mach) (p : Nat) (stop : Int) (extra next : Nat) :
    (m.endPoint p stop extra next).fld (hCommitted 0x0E) = m.fld (hCommitted 0x0E) := by
  have hclosed : ∀ x : Mach, ((x.setFld NRG_PT_STS_last p ((m.fld NRG_PT_STS_last p + 1) % 16)).count (NRG_CNT_n.nth 3)).fld
      (hCommitted 0x0E) = x.fld (hCommitted 0x0E) := fun x =>
    (fld_count_clear _ _ _ _ _ _ rfl).trans (fld_set_clear _ _ _ _ _ _ rfl)
  unfold Mach.endPoint
  extract_lets b b' slot m1 m2 m3
  have hm3 : m3.fld (hCommitted 0x0E) = m.fld (hCommitted 0x0E) :=
    (fld_of_regs rfl _ _).trans ((hclosed m1).trans (fld_of_regs rfl _ _))
  clear_value m3
  split
  · exact (fld_event _ _ _ _ _ _ rfl).trans hm3
  · exact hm3

theorem nrgApply_committed (m : Mach) (old : KMap Word) : (m.nrgApply old).fld (hCommitted 0x0E) = m.fld (hCommitted 0x0E) := by
  have hends : ∀ stop extra next, (m.endIntervals stop extra next).fld (hCommitted 0x0E) = m.fld (hCommitted 0x0E) :=
    fun stop extra next => (fld_of_regs rfl _ _).trans
      (each_keep (fun x : Mach => x.fld (hCommitted 0x0E)) _ _ _ fun p x => endPoint_committed x p _ _ _)
  have hstart : ∀ x : Mach, (x.each (nrgPoints x) fun p y => if ptKey old p = ptKey y.force p then y else y.ptStart p).fld (hCommitted 0x0E)
      = x.fld (hCommitted 0x0E) := fun x =>
    each_keep (fun x : Mach => x.fld (hCommitted 0x0E)) _ _ _ fun p y => by
      split
      · rfl
      · exact ptStart_committed y p
  unfold Mach.nrgApply
  extract_lets len t
  refine (hstart t).trans ?_
  unfold t
  split
  · exact hends _ _ _
  · rfl

/-- NRG takes effect: its held values are in force, and its commit mark stands (R41, R42). -/
theorem takeEffect_nrg (m : Mach) : (m.takeEffect [0x0E]).fld (hCommitted 0x0E) = m.fld (hCommitted 0x0E)
    ∧ (m.takeEffect [0x0E]).force = takeForce m.regs m.force 0x0E ∧ (m.takeEffect [0x0E]).cmd = m.cmd := by
  obtain ⟨x, hx, heffect⟩ : ∃ x : Mach, x = { m with adm := x.adm }
      ∧ m.takeEffect [0x0E] = ((x.takePage 0x0E).count (hGen 0x0E)).nrgApply m.force :=
    ⟨{ m with adm := { m.adm with used := [0x0E] ++ m.adm.used.filter fun p => !([0x0E] : List Nat).contains p } }, rfl, rfl⟩
  have htouch := Mach.nrgApply_touch ((x.takePage 0x0E).count (hGen 0x0E)) m.force
  rw [heffect, force_of_touch htouch rfl, cmd_of_touch htouch rfl, nrgApply_committed, fld_count_clear _ _ _ _ _ _ rfl, hx]
  exact ⟨fld_of_regs rfl _ _, rfl, rfl⟩

/-- An accepted commit of NRG (R41, R42). -/
theorem commit_nrg {m : Mach} (src : Src) (hcom : m.flag (hCommitted 0x0E) = false) : (m.commit src 0x0E).flag (hCommitted 0x0E) = true
    ∧ (m.commit src 0x0E).force = takeForce (m.setFlag (hCommitted 0x0E) 0 true).regs m.force 0x0E ∧ (m.commit src 0x0E).cmd = m.cmd := by
  obtain ⟨sn, hcommit⟩ : ∃ sn, m.commit src 0x0E = ((m.setFlag (hCommitted 0x0E) 0 true).takeEffect [0x0E]).audit 0x0E 0x101 sn := by
    unfold Mach.commit
    rw [hcom, if_neg (by decide), if_neg (by decide)]
    exact ⟨_, rfl⟩
  obtain ⟨hmark, hforce, hcmd⟩ := takeEffect_nrg (m.setFlag (hCommitted 0x0E) 0 true)
  rw [hcommit, Mach.audit_force, audit_cmd]
  refine ⟨?_, hforce, hcmd⟩
  unfold Mach.flag
  rw [fld_audit_hdr _ 0x0E 0x0E _ _ _ rfl (by decide) rfl, hmark]
  exact flag_set m (hCommitted 0x0E) 0 true rfl

/-- A commit refused with reason 0x09 (R40, R41). -/
theorem commitEnds_refused {m m' : Mach} {src : Src} {page : Nat} {ok : Prop} (hno : ¬ ok) (hp : page < 256)
    (hcom : m.flag (hCommitted page) = false) (hregs : m'.regs = (m.reject page src 0x028 0x09 0x5EA10001).regs)
    (hforce : m'.force = (m.reject page src 0x028 0x09 0x5EA10001).force) : m.commitEnds m' src page ok := by
  have hfld : ∀ f : Fd, m'.fld f = (m.reject page src 0x028 0x09 0x5EA10001).fld f := fun f => fld_of_regs hregs f 0
  obtain ⟨hc, hs, hf, -⟩ := refusedCommit_keeps m src hp 0x5EA10001
  unfold Mach.commitEnds Mach.flag
  simp only [hfld, hforce, hc, hs, hf]
  exact ⟨fun h => absurd h hno, fun _ => ⟨hcom, trivial, trivial, refusedCommit_reason m src hp 0x5EA10001⟩⟩

/-- An accepted commit of NRG, whatever follows that changes neither registers nor values in force. -/
theorem commitEnds_nrg {m m' : Mach} {src : Src} {ok : Prop} (hok : ok) (hcom : m.flag (hCommitted 0x0E) = false)
    (hregs : m'.regs = (m.commit src 0x0E).regs) (hforce : m'.force = (m.commit src 0x0E).force) : m.commitEnds m' src 0x0E ok := by
  obtain ⟨hc, hf, -⟩ := commit_nrg src hcom
  exact ⟨fun _ => ⟨(flag_of_regs hregs _).trans hc, fun h => absurd h (by decide), fun _ => hforce.trans hf⟩, fun hno => absurd hok hno⟩

/-- COMMIT as its check decides it: the response, and the registers and values in force as the write of PAGE_LOCK leaves them. -/
theorem vreltiCommit_answers {m k : Mach} {tr : Transport} {pk : VPacket} {st : Nat} {pl : List Byte}
    (hpass : m.passes tr { opcode := 0x10, pk := pk }) (hroom : m.ringRoom tr)
    (hdo : (m.entered tr (plainRoute m tr) { opcode := 0x10, pk := pk }).doLock tr pk 0x5EA10001 = (k, some (st, pl)))
    (hcmd : k.cmd = (m.entered tr (plainRoute m tr) { opcode := 0x10, pk := pk }).cmd) :
    (m.command tr { opcode := 0x10, pk := pk }).answers tr pk.tag st pl
      ∧ (m.command tr { opcode := 0x10, pk := pk }).regs = k.regs ∧ (m.command tr { opcode := 0x10, pk := pk }).force = k.force := by
  obtain ⟨hans, htouch⟩ := command_answers hpass hroom (runOpcode_is m tr { opcode := 0x10, pk := pk } hpass hdo) hcmd
  exact ⟨hans, regs_of_touch htouch rfl, force_of_touch htouch rfl⟩

/-! ### The check of NRG (R366) -/

/-- Every enabled point names an enabled, linked current group: the points as held, the groups as in force (R366, log 27). -/
def pointsLinked (m : Mach) : Prop := ∀ p ∈ enabledIn m.regs NRG_PT_CFG_en,
  m.on MSR_GRP_CFG_en (m.fld NRG_PT_CFG_group p) = true ∧ m.cfg MSR_GRP_CFG_kind (m.fld NRG_PT_CFG_group p) = 0
    ∧ m.on MSR_GRP_CFG_link_en (m.fld NRG_PT_CFG_group p) = true

theorem checkNrg_iff (m : Mach) : checkNrg (heldGen m) (genNow m) = true ↔ pointsLinked m := by
  unfold checkNrg linkedCurrent pointsLinked
  simp only [List.all_eq_true, Bool.and_eq_true, beq_iff_eq, and_assoc]
  exact Iff.rfl

/-- A word set elsewhere enables nothing under a field of another register. -/
theorem enabledIn_kput (k : Nat) (v : Word) (f : Fd) (hk : k % (256 * 4096) ≠ f.page * 4096 + f.off) (l : KMap Word) :
    enabledIn (kput k v l) f = enabledIn l f := by
  induction l with
  | nil => simp [enabledIn, kput, hk]
  | cons e r ih =>
    obtain ⟨k', v'⟩ := e
    unfold enabledIn at ih ⊢
    unfold kput
    split
    · simp only [List.filterMap_cons, ih]
    · split
      · next _ h => simp [h, hk]
      · simp [List.filterMap_cons, hk]

theorem enabledIn_setFld (m : Mach) (f g : Fd) (i v : Nat) (h : (decide (f.page < 256) && decide (f.off < 4096) && decide (g.off < 4096)
    && (f.page != g.page || f.off != g.off)) = true) : enabledIn (m.setFld f i v).regs g = enabledIn m.regs g := by
  simp only [Bool.and_eq_true, Bool.or_eq_true, decide_eq_true_eq, bne_iff_ne] at h
  refine enabledIn_kput _ _ g ?_ _
  unfold regKey
  omega

/-- The checks of a command enable no point of NRG. -/
theorem entered_points (m : Mach) (tr : Transport) (route : Route) (vc : VCommand) :
    enabledIn (m.entered tr route vc).regs NRG_PT_CFG_en = enabledIn m.regs NRG_PT_CFG_en := by
  have hauth : enabledIn m.authPassed.regs NRG_PT_CFG_en = enabledIn m.regs NRG_PT_CFG_en := by
    unfold Mach.authPassed Mach.setActive
    rw [enabledIn_setFld _ _ _ _ _ rfl, enabledIn_setFld _ _ _ _ _ rfl]
  have hfresh : ∀ x : Mach, enabledIn (x.acceptFresh tr vc.pk.fresh.toNat).regs NRG_PT_CFG_en = enabledIn x.regs NRG_PT_CFG_en := fun x =>
    enabledIn_setFld x (freshFd tr) _ _ _ (by cases tr <;> rfl)
  have hregs : (m.entered tr route vc).regs = (m.checked tr vc).regs := by
    unfold Mach.entered
    split <;> rfl
  rw [hregs]
  unfold Mach.checked
  split
  · exact (hfresh _).trans hauth
  · rfl

theorem entered_pointsLinked (m : Mach) (tr : Transport) (route : Route) (vc : VCommand) :
    pointsLinked (m.entered tr route vc) ↔ pointsLinked m := by
  have hforce := force_of_touch (entered_touch m tr route vc) rfl
  have hgroup : ∀ p, (m.entered tr route vc).fld NRG_PT_CFG_group p = m.fld NRG_PT_CFG_group p := fun p =>
    entered_fld m tr route vc _ p (by decide) (by decide) rfl
  unfold pointsLinked
  simp only [entered_points, hgroup, on_of_force hforce, cfg_of_force hforce]

/-- A commit of NRG is decided by the relation of R366. -/
theorem nrgCommit_checked : CommitChecked 0x0E pointsLinked := by
  have hpass : ∀ {m}, pointsLinked m → commitRefusal m 0x0E = none := fun h => if_pos ((checkNrg_iff _).mpr h)
  have hfail : ∀ {m}, ¬ pointsLinked m → commitRefusal m 0x0E = some 0x09 := fun h => if_neg fun hc => h ((checkNrg_iff _).mp hc)
  refine ⟨?register, ?vrelti⟩
  case register =>
    intro s t src hpow hsrc hrim hcom
    refine completes_run (f := fun m => m.put src 0x0E 0x028 0x5EA10001) rfl hpow ?_
    change s.m.flag (hCommitted 0x0E) = false at hcom
    change (s.m.advance t).commitEnds ((s.m.advance t).put src 0x0E 0x028 0x5EA10001) src 0x0E _
    rw [put_lock _ _ rfl, show word 0x5EA10001 = 0x5EA10001 from rfl]
    by_cases h : pointsLinked s.m
    · rw [writeLock_passed (m := s.m.advance t) hsrc hrim hcom (hpass h)]
      exact commitEnds_nrg h hcom rfl rfl
    · rw [writeLock_failed (m := s.m.advance t) hsrc hrim hcom (hfail h)]
      exact commitEnds_refused h (by decide) hcom rfl rfl
  case vrelti =>
    intro s t tr pk hpow hpasses hroom hrim hpage hpl hcom
    refine completes_run (f := fun m => m.command tr { opcode := 0x10, pk := pk }) rfl hpow ?_
    have hrim' := (entered_rim (s.m.advance t) tr (plainRoute s.m tr) { opcode := 0x10, pk := pk }).trans hrim
    have hcom' := (entered_marks (s.m.advance t) tr (plainRoute s.m tr) { opcode := 0x10, pk := pk } (by decide)).1.trans hcom
    have hok := entered_pointsLinked (s.m.advance t) tr (plainRoute s.m tr) { opcode := 0x10, pk := pk }
    have hlock : pk.page.toNat = 0x0E := congrArg BitVec.toNat hpage
    have hanswers := fun k st pl => vreltiCommit_answers (k := k) (st := st) (pl := pl) hpasses hroom
    by_cases h : pointsLinked s.m
    · have hpassed := writeLock_passed (srcOf_ne tr) hrim' hcom' (hpass (hok.mpr h))
      obtain ⟨hans, hregs, hforce⟩ := hanswers _ _ _ (doLock_done hpl (by rw [hlock]; exact hpassed)) (commit_nrg (srcOf tr) hcom').2.2
      exact ⟨commitEnds_nrg h hcom' hregs hforce, fun _ => hans, fun hno => absurd h hno⟩
    · have hfailed := writeLock_failed (srcOf_ne tr) hrim' hcom' (hfail fun h' => h (hok.mp h'))
      obtain ⟨hans, hregs, hforce⟩ := hanswers _ _ _ (doLock_failed hpl (by rw [hlock]; exact hfailed))
        (refusedCommit_keeps _ (srcOf tr) (by decide) _).2.2.2
      exact ⟨commitEnds_refused h (by decide) hcom' hregs hforce, fun hyes => absurd hyes h, fun _ => hans⟩

/-- Settles O39: the check of each page asks its relations. -/
theorem macAndNrgCommitsAreChecked : Obligations.MacAndNrgCommitsAreChecked :=
  ⟨macCommit_checked, nrgCommit_checked⟩

end Sys2Proof.Machine


/-! # The links of the ports -/

namespace Sys2Proof.Machine

/-! ### Lock and debounce (R293) -/

/-- The module with lock, fault and SGMII speed of a port as its PCS reports them (R292, R293). -/
def Mach.lockShown (m : Mach) (e : Nat) (lock fault sg : Bool) : Mach :=
  (m.setFlag (MAC_STS_lock.onPort e) 0 lock).onPort e fun b => { b with fault := fault, sgmiiOk := sg }

theorem lockShown_lock (m : Mach) (e : Nat) (lock fault sg : Bool) : (m.lockShown e lock fault sg).flag (MAC_STS_lock.onPort e) = lock :=
  flag_set m (MAC_STS_lock.onPort e) 0 lock (fit_onPort e rfl)

theorem lockShown_link (m : Mach) (e : Nat) (lock fault sg : Bool) : linkOf (m.lockShown e lock fault sg) e = linkOf m e :=
  fld_flag_clear m (MAC_STS_lock.onPort e) (MAC_STS_link.onPort e) 0 0 lock (clear_onPort e rfl)

theorem lockShown_port (m : Mach) (e : Nat) (lock fault sg : Bool) :
    (m.lockShown e lock fault sg).port e = { m.port e with fault := fault, sgmiiOk := sg } := port_onPort ..

/-- A lock without a fault, at the speed that SGMII needs, is a good link (R292). -/
theorem linkGood_locked (m : Mach) (e : Nat) : linkGood (m.lockShown e true false true) e = true := by
  unfold linkGood
  rw [lockShown_lock, lockShown_port]
  rfl

/-- No lock, or a fault, is no good link (R292). -/
theorem linkGood_lost (m : Mach) (e : Nat) {lock fault sg : Bool} (h : lock = false ∨ fault = true) :
    linkGood (m.lockShown e lock fault sg) e = false := by
  unfold linkGood
  rw [lockShown_lock, lockShown_port]
  rcases h with rfl | rfl <;> simp

theorem debounceLink_disabled {m : Mach} {e : Nat} (hlink : linkOf m e = 0) : m.debounceLink e = m := by
  unfold Mach.debounceLink
  rw [hlink]
  rfl

theorem debounceLink_upGood {m : Mach} {e : Nat} (hlink : linkOf m e = 2) (hgood : linkGood m e = true) :
    m.debounceLink e = m.disarm (.downDebounce e) := by
  unfold Mach.debounceLink
  rw [hlink, hgood]
  rfl

theorem debounceLink_upLost {m : Mach} {e : Nat} (hlink : linkOf m e = 2) (hlost : linkGood m e = false)
    (hidle : m.running (.downDebounce e) = false) :
    m.debounceLink e = m.arm (.downDebounce e) (m.now + m.cfg (MAC_LINK_down_db.onPort e) * 1000) := by
  unfold Mach.debounceLink
  rw [hlink, hlost, hidle]
  rfl

theorem debounceLink_downGood {m : Mach} {e : Nat} (hlink : linkOf m e = 1 ∨ linkOf m e = 3) (hgood : linkGood m e = true)
    (hidle : m.running (.upDebounce e) = false) :
    m.debounceLink e = m.arm (.upDebounce e) (m.now + m.cfg (MAC_LINK_up_db.onPort e) * 1000000) := by
  unfold Mach.debounceLink
  rw [hgood, hidle]
  rcases hlink with h | h <;> rw [h] <;> rfl

theorem debounceLink_downLost {m : Mach} {e : Nat} (hlink : linkOf m e = 1 ∨ linkOf m e = 3) (hlost : linkGood m e = false) :
    m.debounceLink e = m.disarm (.upDebounce e) := by
  unfold Mach.debounceLink
  rw [hlost]
  rcases hlink with h | h <;> rw [h] <;> rfl

/-- A lock change shows the lock, and then the link's condition moves the debounce of its state. -/
theorem completes_lockChange {s : State} {p : Fin 16} {lock fault sg : Bool} {P : Mach → Prop} (t : Nat) (hpow : s.m.powered = true)
    (hP : P (((s.m.advance t).lockShown p lock fault sg).debounceLink p)) : Completes (.linkLockChange t p lock fault sg) s P :=
  completes_run (f := fun m => m.lockChange p lock fault sg) rfl hpow hP

/-! ### A link that is lost (R293, R314) -/

/-- A field of a port's page other than those that a port's stop writes. -/
def Fd.noStop (f : Fd) : Bool :=
  f.page == 0x20 && Fd.clear MAC_STS_paused f && Fd.clear MAC_EEE_STS_lpi f

theorem endPause_port (m : Mach) (e : Nat) : (m.endPause e).port e = { m.port e with pauseUntil := none, pauseNext := none } :=
  port_onPort m e fun b => { b with pauseUntil := none, pauseNext := none }

theorem endPause_paused (m : Mach) (e : Nat) : (m.endPause e).flag (MAC_STS_paused.onPort e) = false :=
  flag_set (m.onPort e fun b => { b with pauseUntil := none, pauseNext := none }) (MAC_STS_paused.onPort e) 0 false (fit_onPort e rfl)

theorem endPause_fld (m : Mach) (e : Nat) {f : Fd} (h : (Fd.clear MAC_STS_paused f && MAC_STS_paused.page == f.page) = true) :
    (m.endPause e).fld (f.onPort e) = m.fld (f.onPort e) := by
  unfold Mach.endPause
  rw [fld_disarm, fld_flag_clear _ _ _ _ _ _ (clear_onPort e h), fld_onPort]

/-- The frame in transmission is aborted, and counted (R314). -/
def Mach.aborted (m : Mach) (e : Nat) : Mach :=
  if (m.port e).sending.isSome then (m.onPort e fun b => { b with sending := none }).count (macCnt e 14) else m

theorem aborted_shows (m : Mach) (e : Nat) : ((m.aborted e).port e).sending = none ∧ ((m.aborted e).port e).queue = (m.port e).queue
    ∧ ((m.port e).sending.isSome = true → (m.aborted e).fld (macCnt e 14) = (m.fld (macCnt e 14) + 1) % 2 ^ 32)
    ∧ ∀ f : Fd, (f.page == 0x20 && Fd.clear (MAC_CNT_n.nth 14) f) = true → (m.aborted e).fld (f.onPort e) = m.fld (f.onPort e) := by
  unfold Mach.aborted
  split
  case isTrue =>
    have hport := port_onPort m e fun b => { b with sending := none }
    refine ⟨(congrArg Port.sending hport :), (congrArg Port.queue hport :), fun _ => fld_macCnt _ e 1 (by decide), fun f h => ?_⟩
    simp only [Bool.and_eq_true, beq_iff_eq] at h
    exact fld_count_clear _ _ _ _ _ _ (clear_onPort e (by rw [h.1, h.2]; rfl))
  case isFalse hidle =>
    exact ⟨Option.not_isSome_iff_eq_none.mp hidle, rfl, fun h => absurd h hidle, fun _ _ => rfl⟩

/-- The rest of a stop: pause and low-power idle end (R301, R314). -/
theorem stopPort_eq (m : Mach) (e : Nat) : m.stopPort e =
    ((((((m.aborted e).endPause e).disarm (.eeeIdle e)).disarm (.eeeWake e)).setFlag (MAC_EEE_STS_lpi.onPort e) 0 false).onPort e fun b =>
      { b with waking := false }) := by
  unfold Mach.stopPort Mach.aborted
  rfl

theorem stopPort_port (m : Mach) (e : Nat) : ((m.stopPort e).port e).sending = none
    ∧ ((m.stopPort e).port e).queue = (m.port e).queue := by
  obtain ⟨hsending, hqueue, -, -⟩ := aborted_shows m e
  rw [stopPort_eq, port_onPort, port_of_ports (Mach.setFlag_ports ..), port_of_ports (Mach.disarm_ports ..),
    port_of_ports (Mach.disarm_ports ..), endPause_port]
  exact ⟨hsending, hqueue⟩

theorem stopPort_fld (m : Mach) (e : Nat) {f : Fd} (h : Fd.noStop f = true) :
    (m.stopPort e).fld (f.onPort e) = (m.aborted e).fld (f.onPort e) := by
  simp only [Fd.noStop, Bool.and_eq_true, beq_iff_eq] at h
  obtain ⟨⟨hpage, hpaused⟩, hlpi⟩ := h
  rw [stopPort_eq, fld_onPort, fld_flag_clear _ _ _ _ _ _ (clear_onPort e (by rw [hlpi, hpage]; rfl)),
    fld_disarm, fld_disarm, endPause_fld _ e (by rw [hpaused, hpage]; rfl)]

/-- A link lost: the port stops, and the loss is counted and reported (R293). -/
def Mach.linkLost (m : Mach) (e : Nat) : Mach := ((m.stopPort e).count (macCnt e 13)).event (macPage e) 0

/-- A field of the port's counters beside that of the losses, after a loss. -/
theorem linkLost_fld (m : Mach) (e : Nat) {f : Fd}
    (h : (Fd.noStop f && Fd.clear (MAC_CNT_n.nth 13) f && Fd.fit f && f.off != 0x014) = true) :
    (m.linkLost e).fld (f.onPort e) = (m.aborted e).fld (f.onPort e) := by
  simp only [Bool.and_eq_true] at h
  obtain ⟨⟨⟨hstop, hcnt⟩, hfit⟩, hoff⟩ := h
  have hpage : f.page = 0x20 := by
    simp only [Fd.noStop, Bool.and_eq_true, beq_iff_eq] at hstop
    exact hstop.1.1
  unfold Mach.linkLost
  rw [fld_event _ _ _ _ _ _ (noEvt_onPort e (by rw [hfit, hoff]; rfl))]
  exact (fld_count_clear _ _ _ _ _ _ (clear_onPort e (by rw [hcnt, hpage]; rfl))).trans (stopPort_fld m e hstop)

theorem linkLost_shows (m : Mach) (e : Nat) : ((m.linkLost e).port e).sending = none ∧ ((m.linkLost e).port e).queue = (m.port e).queue
    ∧ (m.linkLost e).fld (macCnt e 13) = (m.fld (macCnt e 13) + 1) % 2 ^ 32 ∧ (m.linkLost e).evt (macPage e) 0 = true
    ∧ ((m.port e).sending.isSome = true → (m.linkLost e).fld (macCnt e 14) = (m.fld (macCnt e 14) + 1) % 2 ^ 32)
    ∧ (m.linkLost e).fld (macCnt e 16) = m.fld (macCnt e 16) := by
  obtain ⟨-, -, hcount, hkept⟩ := aborted_shows m e
  obtain ⟨hsending, hqueue⟩ := stopPort_port m e
  obtain ⟨hlosses, hevt, hports⟩ := countedEvent_shows (m.stopPort e) e (n := 13) (b := 0) (by decide) (by decide)
  have hport : (m.linkLost e).port e = (m.stopPort e).port e := port_of_ports hports e
  refine ⟨by rw [hport, hsending], by rw [hport, hqueue], hlosses.trans ?_, hevt, fun h => ?_, ?_⟩
  · exact congrArg (fun x => (x + 1) % 2 ^ 32) ((stopPort_fld m e rfl).trans (hkept (MAC_CNT_n.nth 13) rfl))
  · exact (linkLost_fld m e (f := MAC_CNT_n.nth 14) rfl).trans (hcount h)
  · exact (linkLost_fld m e rfl).trans (hkept (MAC_CNT_n.nth 16) rfl)

theorem linkLost_keeps (m : Mach) (e : Nat) : (m.linkLost e).now = m.now ∧ (m.linkLost e).force = m.force := by
  have htouch := Mach.stopPort_touch m e
  unfold Mach.linkLost
  rw [Mach.event_now _ _ _ _ (macPage_lt e), Mach.event_force _ _ _ _ (macPage_lt e), Mach.count_now, Mach.count_force,
    now_of_touch htouch rfl, force_of_touch htouch rfl]
  exact ⟨rfl, rfl⟩

/-! ### A link taken down, or up (R293, R294, R314) -/

/-- A link down: the queue is dropped, counted (R294, R314). -/
def Mach.linkDown (m : Mach) (e : Nat) : Mach := (m.setFld (MAC_STS_link.onPort e) 0 1).flushPort e

theorem linkDown_fld (m : Mach) (e : Nat) {f : Fd}
    (h : (f.page == 0x20 && Fd.clear (MAC_CNT_n.nth 16) f && Fd.fit f && f.off != 0x014) = true) :
    (m.linkDown e).fld (f.onPort e) = (m.setFld (MAC_STS_link.onPort e) 0 1).fld (f.onPort e) := by
  simp only [Bool.and_eq_true, beq_iff_eq] at h
  obtain ⟨⟨⟨hpage, hcnt⟩, hfit⟩, hoff⟩ := h
  have hlt : f.off < 4096 := by
    simp only [Fd.fit, Bool.and_eq_true, decide_eq_true_eq] at hfit
    exact hfit.2
  unfold Mach.linkDown Mach.flushPort
  rw [fld_event _ _ _ _ _ _ (noEvt_onPort e (by rw [hfit, hoff]; rfl)), showMem_portFld _ _ _ hlt]
  exact (fld_count_clear _ _ _ _ _ _ (clear_onPort e (by rw [hcnt, hpage]; rfl))).trans (fld_onPort ..)

/-- PAGE_EVT of a port's page beside what showing the output memory writes. -/
theorem showMem_portEvt (m : Mach) (e b : Nat) : m.showMem.evt (macPage e) b = m.evt (macPage e) b :=
  congrArg (bit · b) (showMem_portFld m (hEvt 0x20) e (by decide))

theorem linkDown_port (m : Mach) (e : Nat) : (m.linkDown e).port e = { m.port e with queue := [], waking := false } := by
  unfold Mach.linkDown Mach.flushPort
  rw [port_of_ports (Mach.event_ports _ _ _ _ (macPage_lt e)), port_of_ports (ports_of_touch (Mach.showMem_touch _) rfl),
    port_of_ports (Mach.count_ports ..), port_onPort, port_of_ports (Mach.setFld_ports ..)]

/-- What a link down leaves of the port and its counters, and the event of the flush; earlier events stand. -/
theorem linkDown_shows (m : Mach) (e : Nat) : linkOf (m.linkDown e) e = 1 ∧ (m.linkDown e).evt (macPage e) 2 = true
    ∧ (m.linkDown e).fld (macCnt e 16) = (m.fld (macCnt e 16) + (m.port e).queue.length) % 2 ^ 32
    ∧ (m.linkDown e).fld (macCnt e 13) = m.fld (macCnt e 13) ∧ (m.evt (macPage e) 0 = true → (m.linkDown e).evt (macPage e) 0 = true) := by
  refine ⟨?_, evt_port e 2 (by decide) _, ?_, ?_, fun h => ?_⟩
  · exact (linkDown_fld m e (f := MAC_STS_link) rfl).trans (fld_set m (MAC_STS_link.onPort e) 0 1 (fit_onPort e rfl))
  · unfold Mach.linkDown Mach.flushPort
    rw [fld_event _ _ _ _ _ _ (noEvt_macCnt e (by decide)), show macCnt e 16 = (MAC_CNT_n.nth 16).onPort e from rfl,
      showMem_portFld _ _ _ (by decide)]
    refine (fld_macCnt _ e _ (n := 16) (by decide)).trans ?_
    rw [fld_onPort, port_of_ports (Mach.setFld_ports ..)]
    exact congrArg (fun x => (x + _) % 2 ^ 32) (fld_set_clear _ _ _ _ _ _ (clear_onPort e rfl))
  · exact (linkDown_fld m e (f := MAC_CNT_n.nth 13) rfl).trans (fld_set_clear _ _ _ _ _ _ (clear_onPort e rfl))
  · refine evt_event_or _ _ _ _ _ (by simp [macPage_lt e]) ?_
    rw [showMem_portEvt, evt_count_clear _ (macCnt e 16) _ _ _ _ (clear_portEvt (f := MAC_CNT_n.nth 16) e rfl), evt_onPort,
      evt_set_clear _ _ _ _ _ _ (clear_portEvt e rfl), h]

/-- With no hold time the loss takes the link down (R314). -/
theorem leaveUp_down {m : Mach} {e : Nat} (hhold : m.cfg (MAC_HOLD_hold.onPort e) = 0) : m.leaveUp e = (m.linkLost e).linkDown e := by
  have hcfg : (m.linkLost e).cfg (MAC_HOLD_hold.onPort e) = 0 := (cfg_of_force (linkLost_keeps m e).2 _ _).trans hhold
  exact if_pos hcfg

/-- With a hold time the loss holds the link with its queue (R314). -/
theorem leaveUp_held {m : Mach} {e : Nat} (hhold : m.cfg (MAC_HOLD_hold.onPort e) ≠ 0) : m.leaveUp e
    = ((m.linkLost e).setFld (MAC_STS_link.onPort e) 0 3).arm (.linkHold e) (m.now + m.cfg (MAC_HOLD_hold.onPort e) * 1000000) := by
  obtain ⟨hnow, hforce⟩ := linkLost_keeps m e
  have hcfg := cfg_of_force hforce (MAC_HOLD_hold.onPort e) 0
  rw [← hcfg, ← hnow]
  exact if_neg (show (m.linkLost e).cfg (MAC_HOLD_hold.onPort e) ≠ 0 by rw [hcfg]; exact hhold)

/-- A link held, its queue kept, and what the loss left (R314). -/
theorem leaveUp_held_shows (m : Mach) (e : Nat) (hhold : m.cfg (MAC_HOLD_hold.onPort e) ≠ 0) : linkOf (m.leaveUp e) e = 3
    ∧ (m.leaveUp e).deadline (.linkHold e) = some (m.now + m.cfg (MAC_HOLD_hold.onPort e) * 1000000)
    ∧ (m.leaveUp e).fld (macCnt e 13) = (m.fld (macCnt e 13) + 1) % 2 ^ 32 ∧ (m.leaveUp e).evt (macPage e) 0 = true
    ∧ ((m.leaveUp e).port e).sending = none ∧ ((m.leaveUp e).port e).queue = (m.port e).queue
    ∧ ((m.port e).sending.isSome = true → (m.leaveUp e).fld (macCnt e 14) = (m.fld (macCnt e 14) + 1) % 2 ^ 32) := by
  obtain ⟨hsending, hqueue, hlosses, hevt, hcount, -⟩ := linkLost_shows m e
  rw [leaveUp_held hhold]
  refine ⟨fld_set (m.linkLost e) (MAC_STS_link.onPort e) 0 3 (fit_onPort e rfl), deadline_arm_same .., ?_, ?_, hsending, hqueue, fun h => ?_⟩
  · exact (fld_set_clear _ _ _ _ _ _ (clear_onPort e rfl)).trans hlosses
  · rw [evt_arm, evt_set_clear _ _ _ _ _ _ (clear_portEvt e rfl), hevt]
  · exact (fld_set_clear _ _ _ _ _ _ (clear_onPort e rfl)).trans (hcount h)

/-- A link up at the configured speed, its hold over (R293, R314). -/
def Mach.linkUp (m : Mach) (e : Nat) : Mach :=
  (((m.setFld (MAC_STS_link.onPort e) 0 2).setFld (MAC_STS_speed.onPort e) 0 (m.cfg (MAC_CTRL_speed.onPort e))).disarm (.linkHold e)).event
    (macPage e) 1

theorem linkUp_shows (m : Mach) (e : Nat) : linkOf (m.linkUp e) e = 2
    ∧ (m.linkUp e).fld (MAC_STS_speed.onPort e) = m.cfg (MAC_CTRL_speed.onPort e) ∧ (m.linkUp e).evt (macPage e) 1 = true
    ∧ (m.linkUp e).deadline (.linkHold e) = none ∧ (m.linkUp e).ports = m.ports := by
  refine ⟨?_, ?_, evt_port e 1 (by decide) _, ?_, Mach.event_ports _ _ _ _ (macPage_lt e)⟩
  · refine (fld_event _ _ _ _ _ _ (noEvt_onPort e rfl)).trans ?_
    rw [fld_disarm, fld_set_clear _ _ _ _ _ _ (clear_onPort e rfl)]
    exact fld_set m (MAC_STS_link.onPort e) 0 2 (fit_onPort e rfl)
  · refine (fld_event _ _ _ _ _ _ (noEvt_onPort e rfl)).trans ?_
    rw [fld_disarm]
    exact (fld_set _ (MAC_STS_speed.onPort e) 0 _ (fit_onPort e rfl)).trans (Nat.mod_eq_of_lt (cfg_lt m (MAC_CTRL_speed.onPort e) 0))
  · exact (deadline_of_timers (Mach.event_timers _ _ _ _ (macPage_lt e)) _).trans (deadline_disarm_same ..)

/-- Entering Up: the EEE agent sends, and waiting frames leave (R303, R304, R314). -/
theorem enterUp_eq (m : Mach) (e : Nat) :
    m.enterUp e = (if m.on (MAC_EEE_en.onPort e) then (m.linkUp e).sendLldp e else m.linkUp e).kick e := by
  have hforce : (m.linkUp e).force = m.force := Mach.event_force _ _ _ _ (macPage_lt e)
  rw [← on_of_force hforce]
  rfl

/-! ### Energy-efficient Ethernet and LLDP (R303, R304) -/

/-- The EEE LLDPDU of a port (R304); it carries no tag and waits in class 0 (log 12). -/
def lldpFrame (m : Mach) (e : Nat) : TxFrame where
  fr := { dst := lldpAddr, src := portAddr m e, tag := .untagged, etype := 0x88CC, len := 64, fcs := .good, codeErr := false, sec := none,
          red := .plain, body := .lldp (some (BitVec.ofNat 16 (m.cfg (MAC_EEE_tw_def.onPort e)))) 120 }
  cls := 0
  pcp := 0
  vid := m.cfg (MAC_VLAN_pvid.onPort e)
  entered := m.now
  src := e
  vnic := none
  stamp := none

/-- On a port that is down the frame is only counted (R314). -/
theorem sendLldp_down {m : Mach} {e : Nat} (hlink : linkOf m e < 2) :
    m.sendLldp e = (m.count (macCnt e 17)).arm (.lldp e) (m.now + 30000000000) := by
  have hoffer : m.offer e (lldpFrame m e) = m.count (macCnt e 17) := if_pos (by simp [hlink])
  unfold Mach.sendLldp
  exact congrArg (fun x : Mach => x.arm (.lldp e) (x.now + 30000000000)) hoffer

/-- A port with the EEE LLDPDU behind its queue. -/
def Mach.lldpQueued (m : Mach) (e : Nat) : Mach := (m.onPort e fun b => { b with queue := b.queue ++ [lldpFrame m e] }).showMem

/-- On a port that is up or held the frame waits with the others (R314). -/
theorem sendLldp_up {m : Mach} {e : Nat} (hlink : 2 ≤ linkOf m e) (hplain : m.on (MAC_MSEC_en.onPort e) = false) :
    m.sendLldp e = ((m.lldpQueued e).kick e).arm (.lldp e) (m.now + 30000000000) := by
  have hoffer : m.offer e (lldpFrame m e) = (m.lldpQueued e).kick e := if_neg (by simp [hplain]; omega)
  have hnow : ((m.lldpQueued e).kick e).now = m.now := by
    unfold Mach.lldpQueued
    rw [now_of_touch (Mach.kick_touch _ e) rfl, now_of_touch (Mach.showMem_touch _) rfl, Mach.onPort_now]
  rw [← hnow]
  exact congrArg (fun x : Mach => x.arm (.lldp e) (x.now + 30000000000)) hoffer

theorem lldpQueued_port (m : Mach) (e : Nat) :
    (m.lldpQueued e).port e = { m.port e with queue := (m.port e).queue ++ [lldpFrame m e] } := by
  unfold Mach.lldpQueued
  rw [port_of_ports (ports_of_touch (Mach.showMem_touch _) rfl), port_onPort]

/-- A partner's EEE TLV forgotten (R303). -/
def Mach.tlvGone (m : Mach) (e : Nat) : Mach :=
  (m.onPort e fun b => { b with tw := none }).setFlag (MAC_EEE_STS_tlv_rx.onPort e) 0 false

theorem tlvGone_shows (m : Mach) (e : Nat) : (m.tlvGone e).flag (MAC_EEE_STS_tlv_rx.onPort e) = false
    ∧ (m.tlvGone e).fld (MAC_EEE_STS_tw_res.onPort e) = m.fld (MAC_EEE_STS_tw_res.onPort e)
    ∧ (m.tlvGone e).port e = { m.port e with tw := none } :=
  ⟨flag_set (m.onPort e fun b => { b with tw := none }) (MAC_EEE_STS_tlv_rx.onPort e) 0 false (fit_onPort e rfl),
    (fld_flag_clear _ _ _ _ _ _ (clear_onPort e rfl)).trans (fld_onPort ..), port_onPort m e fun b => { b with tw := none }⟩

/-- Without a partner's value the wake time is the default (R303). -/
theorem resolveTw_same {m : Mach} {e : Nat} (hnone : (m.port e).tw = none)
    (hsame : m.fld (MAC_EEE_STS_tw_res.onPort e) = m.cfg (MAC_EEE_tw_def.onPort e)) : m.resolveTw e = m := by
  unfold Mach.resolveTw
  rw [hnone]
  exact if_pos (hsame.trans (Nat.max_zero _).symm)

/-- The default wake time restored, with its event (R303). -/
def Mach.twDefaulted (m : Mach) (e : Nat) : Mach :=
  (m.setFld (MAC_EEE_STS_tw_res.onPort e) 0 (m.cfg (MAC_EEE_tw_def.onPort e))).event (macPage e) 12

/-- Another wake time gives way to the default, which is sent at once (R303, R304). -/
theorem resolveTw_changed {m : Mach} {e : Nat} (hnone : (m.port e).tw = none)
    (hdiff : m.fld (MAC_EEE_STS_tw_res.onPort e) ≠ m.cfg (MAC_EEE_tw_def.onPort e)) : m.resolveTw e = (m.twDefaulted e).sendLldp e := by
  unfold Mach.resolveTw
  rw [hnone, show max (m.cfg (MAC_EEE_tw_def.onPort e)) ((none : Option Nat).getD 0) = m.cfg (MAC_EEE_tw_def.onPort e) from Nat.max_zero _]
  exact if_neg hdiff

theorem twDefaulted_shows (m : Mach) (e : Nat) :
    ((m.tlvGone e).twDefaulted e).flag (MAC_EEE_STS_tlv_rx.onPort e) = false
      ∧ ((m.tlvGone e).twDefaulted e).fld (MAC_EEE_STS_tw_res.onPort e) = m.cfg (MAC_EEE_tw_def.onPort e)
      ∧ ((m.tlvGone e).twDefaulted e).evt (macPage e) 12 = true
      ∧ ((m.tlvGone e).twDefaulted e).port e = { m.port e with tw := none } := by
  obtain ⟨htlv, -, hport⟩ := tlvGone_shows m e
  unfold Mach.twDefaulted
  refine ⟨?_, ?_, evt_port e 12 (by decide) _, ?_⟩
  · unfold Mach.flag
    rw [fld_event _ _ _ _ _ _ (noEvt_onPort e rfl), fld_set_clear _ _ _ _ _ _ (clear_onPort e rfl)]
    exact htlv
  · rw [fld_event _ _ _ _ _ _ (noEvt_onPort e rfl), fld_set _ _ _ _ (fit_onPort e rfl)]
    exact Nat.mod_eq_of_lt (cfg_lt m (MAC_EEE_tw_def.onPort e) 0)
  · rw [port_of_ports (Mach.event_ports _ _ _ _ (macPage_lt e)), port_of_ports (Mach.setFld_ports ..), hport]

/-! ### The links follow lock and timers -/

theorem due_disarm_other (m : Mach) {t u : Timer} (h : u ≠ t) : (m.disarm t).due u = m.due u := by
  unfold Mach.due
  rw [deadline_disarm_other m h]
  rfl

/-- The end of a hold, by whether the up debounce ends with it (R314, R315). -/
theorem completes_holdExpiry {s : State} {t : Nat} {p : Fin 16} {P : Mach → Prop} (hfires : s.m.fires (.linkHold p) t)
    (hP : P (if (s.m.advance t).due (.upDebounce p) then (((s.m.advance t).disarm (.linkHold p)).disarm (.upDebounce p)).enterUp p
      else ((s.m.advance t).disarm (.linkHold p)).linkDown p)) : Completes (.linkHoldExpiry t p) s P := by
  refine completes_fires (f := fun m => if m.due (.upDebounce p) then (m.disarm (.upDebounce p)).enterUp p else m.linkDown p) rfl hfires ?_
  rw [due_disarm_other _ (by simp)]
  exact hP

/-- Settles O48, by the state of the port's link and the timer that has run out. -/
theorem portLinksFollowLockAndTimers : Obligations.PortLinksFollowLockAndTimers := by
  refine ⟨?disabled, ?downLocks, ?downLoses, ?upLoses, ?upLocks, ?up, ?held, ?down, ?holdEnds, ?holdRecovers, ?pause, ?idle, ?wake,
    ?tlvSame, ?tlvChanged, ?lldpDown, ?lldpUp⟩
  case disabled =>
    intro s t p lock fault sg hpow hlink
    refine completes_lockChange t hpow ?_
    rw [debounceLink_disabled (m := (s.m.advance t).lockShown p lock fault sg) ((lockShown_link ..).trans hlink)]
    exact ⟨lockShown_lock .., (lockShown_link ..).trans hlink, rfl, lockShown_port ..⟩
  case downLocks =>
    intro s t p hpow hlink hidle
    refine completes_lockChange t hpow ?_
    have hshown := lockShown_link (s.m.advance t) p true false true
    rw [debounceLink_downGood (m := (s.m.advance t).lockShown p true false true) (by rw [hshown]; exact hlink) (linkGood_locked ..) hidle]
    exact ⟨lockShown_lock (s.m.advance t) p true false true, hshown, deadline_arm_same ..⟩
  case downLoses =>
    intro s t p lock fault sg hpow hlink hlost
    refine completes_lockChange t hpow ?_
    have hshown := lockShown_link (s.m.advance t) p lock fault sg
    rw [debounceLink_downLost (m := (s.m.advance t).lockShown p lock fault sg) (by rw [hshown]; exact hlink) (linkGood_lost _ _ hlost)]
    exact ⟨lockShown_lock (s.m.advance t) p lock fault sg, hshown, deadline_disarm_same ..⟩
  case upLoses =>
    intro s t p lock fault sg hpow hlink hlost hidle
    refine completes_lockChange t hpow ?_
    have hshown := (lockShown_link (s.m.advance t) p lock fault sg).trans hlink
    rw [debounceLink_upLost hshown (linkGood_lost _ _ hlost) hidle]
    exact ⟨lockShown_lock (s.m.advance t) p lock fault sg, hshown, deadline_arm_same ..⟩
  case upLocks =>
    intro s t p hpow hlink
    refine completes_lockChange t hpow ?_
    have hshown := (lockShown_link (s.m.advance t) p true false true).trans hlink
    rw [debounceLink_upGood hshown (linkGood_locked ..)]
    exact ⟨lockShown_lock (s.m.advance t) p true false true, hshown, deadline_disarm_same ..⟩
  case up =>
    intro s t p hfires
    exact completes_fires (f := fun m => m.enterUp p) rfl hfires ⟨_, enterUp_eq .., linkUp_shows ..⟩
  case held =>
    intro s t p hfires hhold
    exact completes_fires (f := fun m => m.leaveUp p) rfl hfires (leaveUp_held_shows ((s.m.advance t).disarm (.downDebounce p)) p hhold)
  case down =>
    intro s t p hfires hhold
    refine completes_fires (f := fun m => m.leaveUp p) rfl hfires ?_
    obtain ⟨hsending, hqueue, hlosses, hevt, -, hflushed⟩ := linkLost_shows ((s.m.advance t).disarm (.downDebounce p)) p
    rw [leaveUp_down (m := (s.m.advance t).disarm (.downDebounce p)) hhold]
    obtain ⟨hlink, hflush, hcount, hkept, hstands⟩ := linkDown_shows (((s.m.advance t).disarm (.downDebounce p)).linkLost p) p
    rw [linkDown_port, hcount, hkept, hflushed, hqueue, hlosses]
    exact ⟨hlink, rfl, rfl, hstands hevt, hflush, hsending, rfl⟩
  case holdEnds =>
    intro s t p hfires hdue
    refine completes_holdExpiry hfires ?_
    rw [hdue]
    obtain ⟨hlink, hflush, hcount, -, -⟩ := linkDown_shows ((s.m.advance t).disarm (.linkHold p)) p
    exact ⟨hlink, congrArg Port.queue (linkDown_port ..), hflush, hcount⟩
  case holdRecovers =>
    intro s t p hfires hdue
    refine completes_holdExpiry hfires ?_
    rw [hdue]
    obtain ⟨hlink, hspeed, hevt, -, hports⟩ := linkUp_shows (((s.m.advance t).disarm (.linkHold p)).disarm (.upDebounce p)) p
    exact ⟨_, enterUp_eq .., hlink, hspeed, hevt, hports⟩
  case pause =>
    intro s t p hfires
    exact completes_fires (f := fun m => (m.endPause p).kick p) rfl hfires ⟨_, rfl, endPause_paused .., endPause_port ..⟩
  case idle =>
    intro s t p hfires
    refine completes_fires (f := fun m => (m.setFlag (MAC_EEE_STS_lpi.onPort p) 0 true).count (macCnt p 12)) rfl hfires ⟨?_, ?_, rfl⟩
    · exact congrArg (· == 1) (fld_count_clear _ _ _ _ _ _ (clear_onPort p rfl)) |>.trans (flag_set _ _ _ _ (fit_onPort p rfl))
    · rw [fld_macCnt _ _ _ (by decide)]
      exact congrArg (fun x => (x + 1) % 2 ^ 32) (fld_flag_clear _ _ _ _ _ _ (clear_onPort p rfl))
  case wake =>
    intro s t p hfires
    refine completes_fires (f := fun m => ((m.setFlag (MAC_EEE_STS_lpi.onPort p) 0 false).onPort p fun b => { b with waking := false }).kick p)
      rfl hfires ⟨_, rfl, ?_, port_onPort ..⟩
    exact flag_set ((s.m.advance t).disarm (.eeeWake p)) (MAC_EEE_STS_lpi.onPort p) 0 false (fit_onPort p rfl)
  case tlvSame =>
    intro s t p hfires hsame
    refine completes_fires (f := fun m => (m.tlvGone p).resolveTw p) rfl hfires ?_
    obtain ⟨htlv, htw, hport⟩ := tlvGone_shows ((s.m.advance t).disarm (.eeeTlv p)) p
    rw [resolveTw_same (congrArg Port.tw hport) (htw.trans hsame)]
    exact ⟨htlv, htw.trans hsame, hport, rfl⟩
  case tlvChanged =>
    intro s t p hfires hdiff
    refine completes_fires (f := fun m => (m.tlvGone p).resolveTw p) rfl hfires ?_
    obtain ⟨-, htw, hport⟩ := tlvGone_shows ((s.m.advance t).disarm (.eeeTlv p)) p
    exact ⟨_, resolveTw_changed (congrArg Port.tw hport) (by rw [htw]; exact hdiff), twDefaulted_shows ..⟩
  case lldpDown =>
    intro s t p hfires hlink
    refine completes_fires (f := fun m => m.sendLldp p) rfl hfires ?_
    rw [sendLldp_down (m := (s.m.advance t).disarm (.lldp p)) hlink]
    exact ⟨fld_macCnt _ p 1 (n := 17) (by decide), rfl, deadline_arm_same ..⟩
  case lldpUp =>
    intro s t p hfires hlink hplain
    refine completes_fires (f := fun m => m.sendLldp p) rfl hfires ?_
    rw [sendLldp_up (m := (s.m.advance t).disarm (.lldp p)) hlink hplain]
    exact ⟨deadline_arm_same .., _, _, rfl, lldpQueued_port .., rfl, rfl, rfl, rfl, rfl⟩

end Sys2Proof.Machine


/-! # A module held off, and a module just reset -/

namespace Sys2Proof.Machine

/-- A module held off takes no notice of a command that cannot bring it back (R435, log 5). -/
theorem exec_heldOff {c : Instr} (h : wakes c = false) {s : State} (hoff : s.m.powered = false) : exec c s = .next s := by
  unfold exec
  cases c with
  | pgInFall | pgInRise | powerOn | vinUndervoltage | thermalRecovery => cases h
  | _ => exact run_off _ _ _ hoff

/-- Settles O5, by the queue: an idle step changes nothing, and no command at its front is noticed. -/
theorem heldOffModuleStays : Obligations.HeldOffModuleStays := by
  rintro ⟨queue, m⟩ ⟨hoff, hquiet⟩
  cases queue with
  | nil => exact ⟨_, rfl, rfl, ⟨hoff, hquiet⟩, rfl⟩
  | cons c rest =>
    rw [List.all_cons, Bool.and_eq_true, Bool.not_eq_true'] at hquiet
    exact ⟨_, exec_heldOff hquiet.1 (s := ⟨rest, m⟩) hoff, rfl, ⟨hoff, hquiet.2⟩, rfl⟩

/-- Settles O2: a table with nothing listed reads reset values, and the words named are those of their tables. -/
theorem resetHoldsResetValues : Obligations.ResetHoldsResetValues := by
  refine ⟨fun page off i => ⟨rfl, rfl⟩, ?cmd, ?timeout, ?pace, ?ptp, ?twin, ?now, rfl, rfl, rfl, rfl, rfl, rfl, rfl, rfl, rfl⟩
  all_goals decide

end Sys2Proof.Machine


/-! # Commits of QOS -/

namespace Sys2Proof.Machine

/-- A mask of 8 bits in the form of R320: its set bits are the highest ones. -/
def highestOnes (v : Nat) : Bool := (List.range 9).any fun n => v == 256 - 2 ^ n

theorem highestOnes_iff {v : Nat} (h : v < 256) : highestOnes v = true ↔ ∀ c < 7, bit v c = true → bit v (c + 1) = true := by
  have hall : ∀ a < 16, ∀ b < 16, highestOnes (16 * a + b) = true
      ↔ ∀ c < 7, bit (16 * a + b) c = true → bit (16 * a + b) (c + 1) = true := by decide
  have hv := hall (v / 16) (by omega) (v % 16) (by omega)
  rwa [Nat.div_add_mod] at hv

/-- The check of QOS asks the form of R320 and the relation of R342. -/
theorem checkQos_iff (m : Mach) : checkQos (heldGen m) = true
    ↔ (∀ c < 7, bit (m.fld QOS_CLASS_deadline) c = true → bit (m.fld QOS_CLASS_deadline) (c + 1) = true)
      ∧ ((List.range 24).map fun e => ((List.range 8).map fun c =>
          m.fld ((if c % 2 = 0 then QOS_RSV_rsv_lo else QOS_RSV_rsv_hi).nth (c / 2)) e).sum).sum + m.fld QOS_VNIC_cells ≤ 262144 := by
  have hreserve : ∀ e c, (heldGen m).reserve e c = m.fld ((if c % 2 = 0 then QOS_RSV_rsv_lo else QOS_RSV_rsv_hi).nth (c / 2)) e := by
    intro e c
    unfold Gen.reserve
    split <;> rfl
  unfold checkQos
  rw [Bool.and_eq_true, decide_eq_true_eq, Nat.add_comm]
  simp only [hreserve]
  exact and_congr_left' (highestOnes_iff (fld_lt m QOS_CLASS_deadline 0))

/-- Settles O38: the check of QOS asks its relations. -/
theorem qosCommitIsChecked : Obligations.QosCommitIsChecked := by
  refine commitChecked_of rfl rfl (by decide) (fun m h => if_pos ((checkQos_iff m).mpr h))
    (fun m h => if_neg fun hc => h ((checkQos_iff m).mp hc)) fun m k h => ?_
  have hreserve : ∀ e c, c < 8 → k.fld ((if c % 2 = 0 then QOS_RSV_rsv_lo else QOS_RSV_rsv_hi).nth (c / 2)) e
      = m.fld ((if c % 2 = 0 then QOS_RSV_rsv_lo else QOS_RSV_rsv_hi).nth (c / 2)) e := fun e c hc => by
    interval_cases c <;> exact sameSettings_fld h _ e rfl
  have hsum : ∀ e, ((List.range 8).map fun c => k.fld ((if c % 2 = 0 then QOS_RSV_rsv_lo else QOS_RSV_rsv_hi).nth (c / 2)) e)
      = (List.range 8).map fun c => m.fld ((if c % 2 = 0 then QOS_RSV_rsv_lo else QOS_RSV_rsv_hi).nth (c / 2)) e := fun e =>
    List.map_congr_left fun c hc => hreserve e c (List.mem_range.mp hc)
  simp only [hsum, sameSettings_fld h QOS_CLASS_deadline 0 rfl, sameSettings_fld h QOS_VNIC_cells 0 rfl]

end Sys2Proof.Machine


/-! # Supply and temperature -/

namespace Sys2Proof.Machine

/-! ### What the opening, folding and closing of records leaves of the recorder -/

/-- The recorder beside its records: what waits at its intake, and its flush. -/
def Coil.desk (c : Coil) : List FifoEntry × Nat × Option Tally × Bool × Bool × Nat × Option LgImage :=
  (c.fifo, c.fifoMax, c.tally, c.intake, c.flushing, c.flushAt, c.shown)

theorem desk_foldl {α : Type} {f : Mach → α → Mach} (h : ∀ (m : Mach) (a : α), (f m a).coil.desk = m.coil.desk) (l : List α) (m : Mach) :
    (l.foldl f m).coil.desk = m.coil.desk :=
  foldl_inv (fun x => x.coil.desk = m.coil.desk) f (fun x a hx => (h x a).trans hx) l m rfl

theorem coilEvent_desk (m : Mach) (b : Nat) : (m.coilEvent b).coil.desk = m.coil.desk := congrArg Coil.desk (coilEvent_coil m b)

theorem foldRec_desk (m : Mach) (o : OpenRec) : (m.foldRec o).1.coil.desk = m.coil.desk := by
  unfold Mach.foldRec
  split <;> rfl

theorem closeRec_desk (m : Mach) (o : OpenRec) (keepId : Bool) : (m.closeRec o keepId).coil.desk = m.coil.desk := foldRec_desk m o

theorem openOne_desk (m : Mach) (e : FifoEntry) (snap : List Word) (first more continued : Bool) :
    (m.openOne e snap first more continued).1.coil.desk = m.coil.desk := by
  unfold Mach.openOne
  split
  · exact coilEvent_desk ..
  · rename_i slot lost _
    dsimp only
    have hlost : (if lost = true then (m.count COIL_OVWR).coilEvent 2 else m).coil.desk = m.coil.desk := by
      split
      · exact coilEvent_desk ..
      · rfl
    split
    · exact (closeRec_desk ..).trans hlost
    · exact hlost

theorem openRest_desk (e : FifoEntry) (l : List (List Word)) (m : Mach) : (m.openRest e l).coil.desk = m.coil.desk := by
  induction l generalizing m with
  | nil => rfl
  | cons s l ih =>
    unfold Mach.openRest
    have h := openOne_desk m e s false (!l.isEmpty) false
    split
    · rename_i x heq; rw [heq] at h; exact (ih x).trans h
    · rename_i x heq; rw [heq] at h; exact h

theorem openRec_desk (m : Mach) (e : FifoEntry) : (m.openRec e).coil.desk = m.coil.desk := by
  unfold Mach.openRec
  extract_lets prior x
  have hx : x.coil.desk = m.coil.desk := rfl
  clear_value x
  split
  · exact (openOne_desk ..).trans hx
  · rename_i s l _
    have h := (openOne_desk x e s true (!l.isEmpty) (prior || e.continued)).trans hx
    split
    · rename_i y heq; rw [heq] at h; exact (openRest_desk e l y).trans h
    · rename_i y heq; rw [heq] at h; exact h

theorem rewriteRec_desk (m : Mach) (o : OpenRec) : (m.rewriteRec o).coil.desk = m.coil.desk := by
  unfold Mach.rewriteRec
  have h := foldRec_desk m o
  split
  rename_i x rest sat heq
  rw [heq] at h
  split
  · have hclosed := (coilEvent_desk (x.closeRec { o with pending := [] } true) 3).trans ((closeRec_desk ..).trans h)
    dsimp only
    split
    · exact hclosed
    · exact (openRec_desk ..).trans hclosed
  · exact h

theorem newSegment_desk (m : Mach) (w : Nat) : (m.newSegment w).coil.desk = m.coil.desk := by
  unfold Mach.newSegment
  extract_lets folded closed x ep
  have hfolded : folded.coil.desk = m.coil.desk := desk_foldl rewriteRec_desk _ m
  have hclosed : closed.coil.desk = folded.coil.desk := desk_foldl (fun y o => closeRec_desk y o true) _ _
  exact (openRec_desk ..).trans (hclosed.trans hfolded)

/-- The recorder beside its records and what waits at its intake. -/
def Coil.standing (c : Coil) : Bool × Bool × Nat × Option LgImage := (c.intake, c.flushing, c.flushAt, c.shown)

/-- An event handed to the recorder stops no intake, begins and ends no flush, and presents no image. -/
theorem intake_standing (m : Mach) (p c s a : Nat) (t : Word) (sn : List Word) (cut : Bool) :
    (m.intake p c s a t sn cut).coil.standing = m.coil.standing := by
  unfold Mach.intake
  split
  · rfl
  · extract_lets w x
    have hx : x.coil.standing = m.coil.standing := by
      unfold x
      split
      · exact congrArg (fun d => d.2.2.2) (newSegment_desk m w)
      · rfl
    clear_value x
    split
    · exact hx
    · split
      · exact hx
      · exact (congrArg Coil.standing (coilEvent_coil (x.count COIL_INTAKE_LOSS) 0)).trans hx

theorem intake_flushing (m : Mach) (p c s a : Nat) (t : Word) (sn : List Word) (cut : Bool) :
    (m.intake p c s a t sn cut).coil.flushing = m.coil.flushing :=
  congrArg (fun d => d.2.1) (intake_standing m p c s a t sn cut)

theorem event_flushing (m : Mach) (q b : Nat) (a : Attr) : (m.event q b a).coil.flushing = m.coil.flushing := by
  have hsignal : ∀ x : Mach, (x.signal q b).coil = x.coil := fun x => by
    unfold Mach.signal
    split
    · dsimp only
      split <;> rfl
    · rfl
  unfold Mach.event
  extract_lets x y
  rw [hsignal]
  unfold y
  split
  · exact intake_flushing ..
  · rfl

/-! ### Supply and temperature (R431, R435) -/

/-- Settles O41, by the range of the input; an undervoltage is the fall of PG_IN. -/
theorem supplyIsMonitored : Obligations.SupplyIsMonitored := by
  unfold Obligations.SupplyIsMonitored
  refine ⟨?outside, ?inside, fun _ _ => rfl, ?undervoltage⟩
  case outside =>
    intro s t mv hpow hpg hrange
    refine completes_run (f := fun m => if m.rst.pg && (decide (mv.toNat < 10800) || decide (13200 < mv.toNat))
      then (m.setFld GLB_VIN_vin 0 mv.toNat).event 0x00 2 else m.setFld GLB_VIN_vin 0 mv.toNat) rfl hpow ?_
    rw [if_pos (by simpa [hpg] using hrange)]
    refine ⟨evt_event _ _ _ _ rfl, ?_, (Mach.event_powered _ _ _ _ (by decide)).trans hpow, Mach.event_rst _ _ _ _ (by decide),
      (event_keepsIntake ..).1, event_flushing ..⟩
    rw [fld_event _ _ _ _ _ _ rfl, fld_set _ _ _ _ rfl]
    exact Nat.mod_eq_of_lt mv.isLt
  case inside =>
    intro s t mv hpow hrange
    refine completes_run (f := fun m => if m.rst.pg && (decide (mv.toNat < 10800) || decide (13200 < mv.toNat))
      then (m.setFld GLB_VIN_vin 0 mv.toNat).event 0x00 2 else m.setFld GLB_VIN_vin 0 mv.toNat) rfl hpow (if_neg ?_)
    rcases hrange with hpg | ⟨hlow, hhigh⟩
    · simp [hpg]
    · simp [Nat.not_lt.mpr hlow, Nat.not_lt.mpr hhigh]
  case undervoltage =>
    intro s t hpow hin
    refine completes_runOff (f := Mach.pgFall) rfl ?_
    rw [show (s.m.advance t).pgFall = _ from if_pos hpow]
    exact ⟨flushBegun_powerFail rfl hin, powerFail_rst _, (powered_of_touch (Mach.powerFail_touch _) rfl).trans hpow⟩

theorem tj_shown (m : Mach) (tj : BitVec 16) : (m.setFld GLB_TJ_tj 0 tj.toNat).fld GLB_TJ_tj = tj.toNat :=
  (fld_set m GLB_TJ_tj 0 _ rfl).trans (Nat.mod_eq_of_lt tj.isLt)

/-- A shown temperature reads as the one measured. -/
theorem asSigned_toNat (tj : BitVec 16) : asSigned 16 tj.toNat = tj.toInt := by
  unfold asSigned BitVec.toInt
  omega

theorem tryRecover_off {m : Mach} (h : m.powered = true ∨ m.rst.pg = false ∨ 950 < asSigned 16 (m.fld GLB_TJ_tj)) : m.tryRecover = m := by
  refine if_neg ?_
  rcases h with h | h | h
  · simp [h]
  · simp [h]
  · simp [Int.not_le.mpr h]

/-- The end of a flush after a trip, while the module may not start anew (R435). -/
theorem flushEnd_tripped {m : Mach} (ok : Bool) (h : m.coil.flushing = true) (hin : m.coil.intake = false) (htrip : m.rst.trip = true)
    (hhot : m.rst.pg = false ∨ 950 < asSigned 16 (m.fld GLB_TJ_tj)) :
    m.flushEnd ok = ({ m.flushDone ok with powered := false } : Mach).emit (.rdy false) := by
  obtain ⟨hcoil, hrst, -, -⟩ := flushDone_shows ok h
  have htj : (m.flushDone ok).fld GLB_TJ_tj = m.fld GLB_TJ_tj := fld_touch (Mach.flushDone_touch m ok) GLB_TJ_tj 0 rfl
  have hin' : (m.flushDone ok).coil.intake = false := (congrArg Coil.intake hcoil).trans hin
  have htrip' : (m.flushDone ok).rst.trip = true := (congrArg Rst.trip hrst).trans htrip
  have hstays := tryRecover_off (m := ({ m.flushDone ok with powered := false } : Mach).emit (.rdy false)) (.inr (by
    rw [← hrst, ← htj] at hhot
    exact hhot))
  unfold Mach.flushEnd
  rw [if_neg (by rw [h]; decide)]
  dsimp only
  rw [if_neg (by rw [hin']; decide), if_pos htrip', hstays]

/-- Settles O42, by the temperature, and by what a module that is off waits for. -/
theorem thermalLimitsAct : Obligations.ThermalLimitsAct := by
  unfold Obligations.ThermalLimitsAct
  refine ⟨?high, ?trip, ?below, ?flushed, ?recovers, ?shown⟩
  case high =>
    intro s t tj hpow
    refine completes_run (f := fun m => if 1000 < tj.toInt then (m.setFld GLB_TJ_tj 0 tj.toNat).event 0x00 1
      else m.setFld GLB_TJ_tj 0 tj.toNat) rfl hpow ?_
    split
    next hhigh =>
      refine ⟨(fld_event _ _ _ _ _ _ rfl).trans (tj_shown _ tj), ?_, (event_keepsIntake ..).1, Mach.event_rst _ _ _ _ (by decide)⟩
      rw [evt_event _ _ _ _ rfl, decide_eq_true hhigh, Bool.or_true]
    next hlow =>
      refine ⟨tj_shown _ tj, ?_, rfl, rfl⟩
      rw [decide_eq_false hlow, Bool.or_false]
      exact evt_set_clear _ _ _ _ _ _ rfl
  case trip =>
    intro s t tj hpow htj hin
    refine completes_run (f := fun m => if 1150 ≤ tj.toInt then ((m.setFld GLB_TJ_tj 0 tj.toNat).onRst fun r => { r with trip := true }).powerFail
      else m.setFld GLB_TJ_tj 0 tj.toNat) rfl hpow ?_
    rw [if_pos htj]
    refine ⟨flushBegun_powerFail rfl hin, powerFail_rst _, ?_⟩
    exact (fld_touch (Mach.powerFail_touch _) GLB_TJ_tj 0 rfl).trans (tj_shown _ tj)
  case below =>
    intro s t tj hpow htj
    exact completes_run (f := fun m => if 1150 ≤ tj.toInt then ((m.setFld GLB_TJ_tj 0 tj.toNat).onRst fun r => { r with trip := true }).powerFail
      else m.setFld GLB_TJ_tj 0 tj.toNat) rfl hpow (if_neg (Int.not_le.mpr htj))
  case flushed =>
    intro s t ok hpow hflush hin htrip hhot
    refine completes_run (f := fun m => m.flushEnd ok) rfl hpow ?_
    rw [flushEnd_tripped (m := s.m.advance t) ok hflush hin htrip hhot]
    exact ⟨rfl, congrArg Coil.flushing (flushDone_shows (m := s.m.advance t) ok hflush).1, List.mem_cons_self ..⟩
  case recovers =>
    intro s t tj hoff hpg htj
    refine completes_runOff (f := fun m => (m.setFld GLB_TJ_tj 0 tj.toNat).tryRecover) rfl ?_
    have hcool : ((s.m.advance t).setFld GLB_TJ_tj 0 tj.toNat).tryRecover = ((s.m.advance t).setFld GLB_TJ_tj 0 tj.toNat).moduleReset 0 := by
      refine if_pos ?_
      rw [tj_shown, asSigned_toNat]
      simp [hoff, hpg, htj]
    rw [hcool]
    exact moduleReset_after (by decide) (fld_set_clear _ _ _ _ _ _ rfl) (fld_set_clear _ _ _ _ _ _ rfl)
  case shown =>
    intro s t tj h
    refine completes_runOff (f := fun m => (m.setFld GLB_TJ_tj 0 tj.toNat).tryRecover) rfl (tryRecover_off ?_)
    rw [tj_shown, asSigned_toNat]
    exact h

end Sys2Proof.Machine


/-! # The tamper sensors (R386–R388, R391, R392) -/

namespace Sys2Proof.Machine

/-- What the state shows after a source fired, by its policy (R387, R388, R391). -/
def Mach.firedAs (m : Mach) (src : Nat) (m' : Mach) : Prop :=
  bit (m'.fld RIM_LATCH_src) src = true
    ∧ (policyOf m src = 0 → m'.fld RIM_STS_state = m.fld RIM_STS_state ∧ m'.rim.keys = m.rim.keys)
    ∧ (policyOf m src = 1 → m.fld RIM_STS_state = 0 →
        m'.fld RIM_STS_state = 1 ∧ m'.fld RIM_STS_cause = src ∧ m'.rim.keys = m.rim.keys)
    ∧ (policyOf m src = 2 →
        m'.fld RIM_STS_state = 2 ∧ m'.fld RIM_STS_cause = src ∧ m'.rim.keys = [] ∧ m'.rim.erasing = true)

theorem fire_firedAs (m : Mach) {src : Nat} (h : src < 7) : m.firedAs src (m.fire src) := by
  obtain ⟨hlatch, -, hlog, hlock, hzeroise⟩ := fire_one m src h
  exact ⟨hlatch, hlog, hlock, hzeroise⟩

theorem fire_sensors (m : Mach) {src : Nat} (h : src < 7) : sensors (m.fire src).rim = sensors m.rim := (fire_one m src h).2.1

theorem setActive_latch (m : Mach) (src : Nat) (b : Bool) : (m.setActive src b).fld RIM_LATCH_src = m.fld RIM_LATCH_src :=
  fld_set_clear _ _ _ _ _ _ rfl

/-- What MESH_TEST does (R386). -/
def Mach.meshRead (m : Mach) (openRead : Bool) : Mach :=
  if m.rim.meshCut then m
  else if !openRead then m.onRim fun r => { r with openReads := 0 }
  else if m.rim.openReads < 2 then m.onRim fun r => { r with openReads := r.openReads + 1 }
  else (m.onRim fun r => { r with openReads := 3, meshCut := true }).fire 1

/-- An open reading of a mesh not yet cut. -/
theorem meshRead_open {m : Mach} (h : m.rim.meshCut = false) : m.meshRead true
    = if m.rim.openReads < 2 then m.onRim fun r => { r with openReads := r.openReads + 1 }
      else (m.onRim fun r => { r with openReads := 3, meshCut := true }).fire 1 := if_neg (by rw [h]; decide)

theorem meshRead_closed {m : Mach} (h : m.rim.meshCut = false) : m.meshRead false = m.onRim fun r => { r with openReads := 0 } :=
  if_neg (by rw [h]; decide)

/-- Settles O20: what fires goes through `fire_one`; the sensors alone tell when. -/
theorem tamperSourcesFire : Obligations.TamperSourcesFire := by
  unfold Obligations.TamperSourcesFire
  refine ⟨?opened, ?closed, ?cut, ?openRead, ?closedRead, ?glitch, ?glitchEnds⟩
  case opened =>
    intro s t hpow hlid
    refine completes_run (f := fun m => if m.rim.lidOpen then m.onRim fun r => { r with lidOpen := true }
      else (m.onRim fun r => { r with lidOpen := true }).fire 0) rfl hpow ?_
    rw [if_neg (by rw [show (s.m.advance t).rim.lidOpen = false from hlid]; decide)]
    exact ⟨congrArg (·.1) (fire_sensors _ (by decide)), fire_firedAs ((s.m.advance t).onRim _) (by decide)⟩
  case closed =>
    intro s t hpow
    refine completes_run (f := fun m => (m.onRim fun r => { r with lidOpen := false }).setActive 0 false) rfl hpow ?_
    exact ⟨rfl, setActive_off _ 0 (by decide), setActive_latch ..⟩
  case cut =>
    intro s t hpow hmesh hreads
    refine completes_run (f := fun m => m.meshRead true) rfl hpow ?_
    rw [meshRead_open (m := s.m.advance t) hmesh, if_neg (by rw [show (s.m.advance t).rim.openReads = 2 from hreads]; decide)]
    exact ⟨congrArg (·.2.1) (fire_sensors _ (by decide)), fire_firedAs ((s.m.advance t).onRim _) (by decide)⟩
  case openRead =>
    intro s t hpow hmesh hreads
    exact completes_run (f := fun m => m.meshRead true) rfl hpow ((meshRead_open (m := s.m.advance t) hmesh).trans (if_pos hreads))
  case closedRead =>
    intro s t hpow hmesh
    exact completes_run (f := fun m => m.meshRead false) rfl hpow (meshRead_closed (m := s.m.advance t) hmesh)
  case glitch =>
    intro s t hpow hoff
    refine completes_run (f := fun m => if bit (m.fld RIM_ACTIVE_src) 2 then m else m.fire 2) rfl hpow ?_
    rw [if_neg (by rw [show bit ((s.m.advance t).fld RIM_ACTIVE_src) 2 = false from hoff]; decide)]
    exact fire_firedAs (s.m.advance t) (by decide)
  case glitchEnds =>
    intro s t hpow
    refine completes_run (f := fun m => m.setActive 2 false) rfl hpow ?_
    exact ⟨setActive_off _ 2 (by decide), setActive_latch .., rfl⟩

end Sys2Proof.Machine


/-! # RIM_CLEAR, sv_advance and the debug port (R390, R405, R406) -/

namespace Sys2Proof.Machine

/-! ### RIM_CLEAR -/

/-- Rim open again, as it shows (R388, R390). -/
theorem rimOpen_shows {m : Mach} (h : m.fld RIM_STS_state ≠ 0) :
    m.rimOpen.fld RIM_STS_state = 0 ∧ m.rimOpen.fld RIM_STS_cause = 15 ∧ m.rimOpen.evt 0x03 3 = true := by
  unfold Mach.rimOpen
  rw [if_neg h]
  refine ⟨?_, ?_, evt_eventAlways _ _ _ _ rfl⟩
  · rw [fld_eventAlways _ _ _ _ _ _ rfl, fld_set_clear _ _ _ _ _ _ rfl]
    exact fld_set _ _ _ _ rfl
  · rw [fld_eventAlways _ _ _ _ _ _ rfl]
    exact fld_set _ _ _ _ rfl

/-- What holds RIM_CLEAR off: an active source whose policy is not LOG (R390). -/
def holdsOff (m : Mach) (src : Nat) : Prop := bit (m.fld RIM_ACTIVE_src) src = true ∧ policyOf m src ≠ 0

/-- The key is taken from a transport with a command key while no source holds it off. -/
theorem rimClearRefusal_none {m : Mach} {tr : Transport} (hcalm : ∀ src < 7, ¬ holdsOff m src)
    (hkey : (m.keyFor (authSlot m tr) 1).isSome = true) : rimClearRefusal m (srcOf tr) 0x5EA10003 = none := by
  have hall : ((List.range 7).all fun s => !bit (m.fld RIM_ACTIVE_src) s || policyOf m s == 0) = true := by
    refine List.all_eq_true.mpr fun src hsrc => ?_
    have := hcalm src (List.mem_range.mp hsrc)
    unfold holdsOff at this
    cases hb : bit (m.fld RIM_ACTIVE_src) src
    · rfl
    · simpa [hb] using this
  cases tr
  · exact if_pos ⟨rfl, hall, hkey⟩
  · exact if_pos ⟨rfl, hall, hkey⟩

/-- With auth the checks end source 5; no other source changes its activity there (R50). -/
theorem entered_active (m : Mach) (tr : Transport) (route : Route) (vc : VCommand) {src : Nat} (hsrc : src < 7) :
    bit ((m.entered tr route vc).fld RIM_ACTIVE_src) src
      = (bit (m.fld RIM_ACTIVE_src) src && !(src == 5 && hasAuth vc)) := by
  have hregs : (m.entered tr route vc).fld RIM_ACTIVE_src = (m.checked tr vc).fld RIM_ACTIVE_src := by
    unfold Mach.entered
    split
    · rfl
    · rfl
  rw [hregs]
  unfold Mach.checked
  cases hauth : hasAuth vc
  · simp
  · rw [if_pos rfl]
    have hfresh : ∀ y : Mach, (y.acceptFresh tr vc.pk.fresh.toNat).fld RIM_ACTIVE_src = y.fld RIM_ACTIVE_src := fun y =>
      fld_set_clear y (freshFd tr) RIM_ACTIVE_src 0 0 _ (by cases tr <;> rfl)
    have hset : (m.authPassed).fld RIM_ACTIVE_src = setBits (m.fld RIM_ACTIVE_src) 5 5 0 % 2 ^ 7 := by
      refine (fld_set _ RIM_ACTIVE_src 0 _ rfl).trans ?_
      rw [fld_set_clear m CMD_AUTH_FAIL_consecutive RIM_ACTIVE_src 0 0 0 rfl]
      rfl
    rw [hfresh, hset]
    unfold bit
    rw [bits_mod _ _ _ _ hsrc]
    by_cases h5 : src = 5
    · subst h5
      rw [bits_setBits_same _ _ _ _ (le_refl 5)]
      simp
    · rw [bits_setBits_apart _ _ _ _ _ _ (le_refl 5) (by omega)]
      simp [h5]

theorem entered_authSlot (m : Mach) (tr : Transport) (route : Route) (vc : VCommand) (tr' : Transport) :
    authSlot (m.entered tr route vc) tr' = authSlot m tr' := by
  have hforce : (m.entered tr route vc).force = m.force := (entered_touch m tr route vc).1 4 (by decide)
  cases tr'
  · exact cfg_of_force hforce _ _
  · exact cfg_of_force hforce _ _

/-- RIM_CLEAR is not refused after the checks of its own command when no source but 5 held it off before, and 5 only without auth. -/
theorem entered_rimClear {m : Mach} {tr : Transport} {route : Route} {vc : VCommand} (hkey : (m.keyFor (authSlot m tr) 1).isSome = true)
    (hcalm : ∀ src < 7, bit (m.fld RIM_ACTIVE_src) src = false ∨ policyOf m src = 0 ∨ (src = 5 ∧ hasAuth vc = true)) :
    rimClearRefusal (m.entered tr route vc) (srcOf tr) 0x5EA10003 = none := by
  have hforce : (m.entered tr route vc).force = m.force := (entered_touch m tr route vc).1 4 (by decide)
  refine rimClearRefusal_none (fun src hsrc => ?_) ?_
  · unfold holdsOff
    rw [entered_active m tr route vc hsrc, policyOf_force hforce]
    rintro ⟨hactive, hpolicy⟩
    rcases hcalm src hsrc with hoff | hlog | ⟨rfl, hauth⟩
    · simp [hoff] at hactive
    · exact hpolicy hlog
    · simp [hauth] at hactive
  · rw [entered_authSlot, keyFor_touch (entered_touch m tr route vc) rfl rfl]
    exact hkey

/-- REG_WRITE of the key to RIM_CMD (R390), as it ends. -/
theorem doWrite_rimClear {y : Mach} {tr : Transport} {pk : VPacket} (hpage : pk.page = 0x03) (hoff : pk.offset = 0x050)
    (hpay : pk.payload = bytesBE 4 0x5EA10003) (h : rimClearRefusal y (srcOf tr) 0x5EA10003 = none) :
    ∃ k : Mach, y.alike k ∧ y.doWrite tr pk = (k.rimOpen.auditWrite 3 (srcOf tr) 0x050 0x5EA10003, some (0x00, [])) := by
  obtain ⟨k, hreg, hk, hwrite⟩ := clear_write y (srcOf tr) (srcOf_ne tr) h
  refine ⟨k, ⟨hk, hreg⟩, ?_⟩
  have hput : y.putWords (srcOf tr) 3 0x050 [0x5EA10003] = (k.rimOpen.auditWrite 3 (srcOf tr) 0x050 0x5EA10003, none) := by
    simp only [Mach.putWords, hwrite]
    rfl
  have hoff' : pk.offset.toNat = 0x050 := congrArg BitVec.toNat hoff
  have hpage' : pk.page.toNat = 3 := congrArg BitVec.toNat hpage
  have hwords : wordsBE (bytesBE 4 0x5EA10003) = [0x5EA10003] := by decide
  have hlen : (bytesBE 4 0x5EA10003).length = 4 := rfl
  unfold Mach.doWrite
  simp only [hoff', hpage', hpay, hwords, hlen, hput]
  rfl

/-! ### The debug port -/

/-- An attempt with the right response, where the level may be unlocked (R406). -/
theorem debugTry_right {m : Mach} {level : Nat} {r : BitVec 128} {k : Key} {c : List Byte} (hopen : m.fld RIM_STS_state = 0)
    (hallow : level ≤ m.cfg RIM_DBG_allow) (hidle : level = 2 → anyActive m = false) (hkey : m.keyFor (m.cfg RIM_DBG_slot) 6 = some k)
    (hchal : m.rim.challenge = some c) (hright : debugAnswer k c level = r) :
    m.debugTry level r
      = (((m.onRim fun r => { r with challenge := none }).setFld RIM_STS_dbg 0 level).event 0x03 8) := by
  unfold Mach.debugTry
  simp only [hkey, hchal, hright, beq_self_eq_true]
  rw [if_pos ⟨⟨hopen, hallow⟩, trivial⟩, if_neg]
  rintro ⟨h2, hactive⟩
  exact absurd ((hidle h2).symm.trans hactive) (by decide)

/-- An attempt without the right response fires source 4 (R406). -/
theorem debugTry_wrong {m : Mach} {level : Nat} {r : BitVec 128}
    (hwrong : ∀ k c, m.keyFor (m.cfg RIM_DBG_slot) 6 = some k → m.rim.challenge = some c → debugAnswer k c level ≠ r) :
    m.debugTry level r = (((m.onRim fun r => { r with challenge := none }).event 0x03 9).violate [4]) := by
  unfold Mach.debugTry
  refine if_neg ?_
  rintro ⟨-, hright⟩
  split at hright
  next k c hkey hchal => exact hwrong k c hkey hchal (beq_iff_eq.mp hright)
  next => exact absurd hright (by decide)

/-- Settles O19: the key taken by `clear_write`, and the two outcomes of an attempt at J5. -/
theorem rimClearsAndDebugPortUnlocks : Obligations.RimClearsAndDebugPortUnlocks := by
  unfold Obligations.RimClearsAndDebugPortUnlocks
  refine ⟨?clear, ?advance, ?challenge, ?right, ?wrong⟩
  case clear =>
    intro s t tr pk hpow hpass hroom hstate hpage hoff hpay hkey hcalm
    refine completes_run (f := fun m => m.command tr { opcode := 0x02, pk := pk }) rfl hpow ?_
    obtain ⟨k, hk, hdo⟩ := doWrite_rimClear (tr := tr) hpage hoff hpay
      (entered_rimClear (m := s.m.advance t) (route := plainRoute (s.m.advance t) tr) (vc := { opcode := 0x02, pk := pk }) hkey hcalm)
    have hcmd : k.rimOpen.cmd = k.cmd := (Mach.rimOpen_touch k).1 14 (by decide)
    obtain ⟨hans, htouch⟩ := command_answers hpass hroom (runOpcode_is _ tr _ hpass hdo)
      ((cmd_auditWrite ..).trans (hcmd.trans (congrArg Mach.cmd hk.1 :)))
    have hstate' : k.fld RIM_STS_state ≠ 0 := by
      rw [alike_fld hk RIM_STS_state 0 (by decide) (by decide),
        entered_fld _ _ _ _ _ _ (by decide) (by decide) (by decide)]
      exact hstate
    obtain ⟨hopen, hcause, hevt⟩ := rimOpen_shows hstate'
    refine ⟨hans, ?_, ?_, ?_⟩
    · rw [fld_touch htouch _ _ rfl, fld_audit _ _ _ _ _ _ _ rfl, hopen]
    · rw [fld_touch htouch _ _ rfl, fld_audit _ _ _ _ _ _ _ rfl, hcause]
    · rw [evt_touch htouch _ _ rfl, evt_audit _ _ _ _ _ _ _ (by decide) (by decide), hevt]
  case advance =>
    intro s t src hpow hsrc
    refine completes_put (page := 0x03) (off := 0x058) (v := 1) rfl hpow hsrc rfl fun k i hk _ => ?_
    rw [fld_audit _ _ _ _ _ _ _ rfl]
    have hmin : k.fld RIM_BOOT_sv_min = s.m.fld RIM_BOOT_sv_min := alike_fld hk _ _ (by decide) (by decide)
    have hsv : k.fld RIM_BOOT_sv = s.m.fld RIM_BOOT_sv := alike_fld hk _ _ (by decide) (by decide)
    refine (fld_set k RIM_BOOT_sv_min 0 _ rfl).trans ?_
    rw [hmin, hsv]
    exact Nat.mod_eq_of_lt (max_lt (fld_lt s.m RIM_BOOT_sv_min 0) (fld_lt s.m RIM_BOOT_sv 0))
  case challenge =>
    intro s t hpow
    refine completes_run (f := fun m => m.debugChallenge) rfl hpow ?_
    exact ⟨_, _, _, _, rfl, rfl, rfl⟩
  case right =>
    intro s t level r k c hpow hopen hallow hlevel hidle hkey hchal hright
    refine completes_run (f := fun m => m.debugTry level r) rfl hpow ?_
    have hidle' : level.val = 2 → anyActive s.m = false := fun h => hidle (Fin.ext h)
    rw [debugTry_right (m := s.m.advance t) hopen hallow hidle' hkey hchal hright]
    refine ⟨?_, evt_event _ _ _ _ rfl, congrArg Rim.challenge (Mach.event_rim _ _ _ _ (by decide))⟩
    rw [fld_event _ _ _ _ _ _ rfl]
    exact (fld_set _ RIM_STS_dbg 0 _ rfl).trans (Nat.mod_eq_of_lt level.isLt)
  case wrong =>
    intro s t level r hpow hlog hwrong
    refine completes_run (f := fun m => m.debugTry level r) rfl hpow ?_
    rw [debugTry_wrong (m := s.m.advance t) hwrong, violate_log _ _ (by rw [policyOf_force (Mach.event_force _ _ _ _ (by decide))]; exact hlog)]
    refine ⟨evt_logSource _ _ _ (by decide) (evt_event _ _ _ _ rfl), logSource_latched _ _ (by decide), ?_⟩
    rw [show (Mach.logSource _ 4).rim = _ from (Mach.logSource_touch _ 4).1 32 (by decide), Mach.event_rim _ _ _ _ (by decide)]
    rfl

end Sys2Proof.Machine


/-! # What the ends of loads leave (R392, R395–R397, R405, R413) -/

namespace Sys2Proof.Machine

theorem cfg_bit (m : Mach) (f : Fd) (hf : f.hi = f.lo) (i : Nat) : m.cfg f i = 0 ∨ m.cfg f i = 1 := by
  have := cfg_lt m f i
  rw [hf, Nat.add_sub_cancel_left] at this
  omega

theorem fld_bit (m : Mach) (f : Fd) (hf : f.hi = f.lo) (i : Nat) : m.fld f i = 0 ∨ m.fld f i = 1 := by
  have := fld_lt m f i
  rw [hf, Nat.add_sub_cancel_left] at this
  omega

/-! ### Images -/

/-- The module as the verification of an image leaves it, before the load ends (R413). -/
def Mach.imageStored (m : Mach) (area : Nat) (data : List Byte) : Mach :=
  let m := { m with flash := if area = 0 then { m.flash with image0 := data } else { m.flash with image1 := data } }
  m.setFld RST_IMG_valid 0 (setBits (m.fld RST_IMG_valid) area area (imageValid m area).toNat)

theorem imageVerified_load {m : Mach} {l : Load} (h : verifyingLoad m 0x30 = some l) :
    m.imageVerified = (m.imageStored (1 - m.cfg RST_CTRL_img_sel) l.data).endVerify l (imageFault l.data) := by
  unfold Mach.imageVerified
  rw [h]
  rfl

/-- RST_IMG.valid of an area shows whether the bytes that stand in it verify (R413). -/
theorem imageStored_valid (m : Mach) {area : Nat} (harea : area < 2) (data : List Byte) :
    bit ((m.imageStored area data).fld RST_IMG_valid) area = imageValid (m.imageStored area data) area := by
  unfold Mach.imageStored
  dsimp only
  rw [fld_set _ RST_IMG_valid 0 _ rfl]
  exact bit_setBit_wide _ area 2 _ harea

/-! ### Firmware -/

/-- Do the bytes of a FW_LOAD verify, with a security version that is not too low (R405)? -/
def firmwareOk (m : Mach) (data : List Byte) : Bool :=
  match Config.firmware data with
  | some (sv, _) => decide (m.fld RIM_BOOT_sv_min ≤ sv.toNat) && !data.isEmpty
  | none => false

/-- Outside recovery mode firmware goes to the bank that is not running, and does not reset the module (R405). -/
theorem firmwareVerified_flash {m : Mach} {l : Load} (hrec : m.rst.recovery = false) (h : verifyingLoad m 0x31 = some l) :
    m.firmwareVerified.flash = if 1 - m.fld RIM_STS_bank = 0
      then { m.flash with bank0 := { loaded := l.data, bad := !firmwareOk m l.data } }
      else { m.flash with bank1 := { loaded := l.data, bad := !firmwareOk m l.data } } := by
  obtain ⟨y, z, hz, hrst, hflash, hshape⟩ := firmware_shape m l (firmwareOk m l.data) h rfl
  have htouch := fun code => Mach.endVerify_touch y l code
  have hbank : loadBank m = 1 - m.fld RIM_STS_bank := if_neg (by rw [hrec]; decide)
  have hstays : ∀ code, (y.endVerify l code).rst.recovery = false := fun code =>
    (congrArg Rst.recovery ((htouch code).1 34 (by decide))).trans ((congrArg Rst.recovery hrst).trans hrec)
  rw [hz, hshape, hstays, Bool.and_false, if_neg (by decide), show (Mach.endVerify y l _).flash = y.flash from (htouch _).1 33 (by decide),
    hflash, hbank]

/-! ### The end of a KEY_LOAD -/

theorem endLoad_rim (m : Mach) (k : KeyLoad) (status : Nat) (pl : List Byte) : (m.endLoad k status pl).rim = m.rim :=
  rim_of_touch (Mach.endLoad_touch m k status pl) rfl

theorem loadDone_written {m : Mach} {k : KeyLoad} (h : m.rim.queue = [k]) :
    m.loadDone true = (((m.onRim fun r => { r with queue := [] }).endLoad k 0x00 []).installKey k).nextLoad 1 := by
  unfold Mach.loadDone
  rw [h]
  rfl

theorem loadDone_failed {m : Mach} {k : KeyLoad} (h : m.rim.queue = [k]) :
    m.loadDone false = ((m.onRim fun r => { r with queue := [] }).refuseLoad k 0x25).nextLoad 1 := by
  unfold Mach.loadDone
  rw [h]
  rfl

/-- A refused load shows its code and leaves the key store and the queue (R396). -/
theorem refuseLoad_shows (m : Mach) (k : KeyLoad) {code : Nat} (hcode : code < 256) :
    (m.refuseLoad k code).fld KEY_LAST_code = code ∧ (m.refuseLoad k code).evt 0x04 2 = true ∧ (m.refuseLoad k code).rim = m.rim := by
  unfold Mach.refuseLoad
  dsimp only
  generalize hcounted : (if code = 0x23 then m.count KEY_TAG_FAIL_n else m) = y
  have hrim : y.rim = m.rim := by
    rw [← hcounted]
    split <;> rfl
  refine ⟨?_, ?_, ?_⟩
  · rw [fld_touch (Mach.endLoad_touch ..) _ _ rfl, fld_event _ _ _ _ _ _ rfl, fld_set_clear _ _ _ _ _ _ rfl, fld_set _ _ _ _ rfl]
    exact Nat.mod_eq_of_lt hcode
  · rw [evt_touch (Mach.endLoad_touch ..) _ _ rfl]
    exact evt_event _ _ _ _ rfl
  · rw [endLoad_rim, Mach.event_rim _ _ _ _ (by decide)]
    exact hrim

/-! ### The store generation -/

theorem advanceGen_shows (m : Mach) : m.advanceGen.fld RIM_GEN_gen = min 1024 (m.fld RIM_GEN_gen + 1)
    ∧ m.advanceGen.flag RIM_STS_gen_out = (m.advanceGen.fld RIM_GEN_gen == 1024) := by
  have hgen : m.advanceGen.fld RIM_GEN_gen = min 1024 (m.fld RIM_GEN_gen + 1) := by
    refine (fld_flag_clear _ RIM_STS_gen_out RIM_GEN_gen 0 0 _ rfl).trans ((fld_set m RIM_GEN_gen 0 _ rfl).trans (Nat.mod_eq_of_lt ?_))
    exact lt_of_le_of_lt (min_le_left ..) (by decide)
  exact ⟨hgen, (flag_set _ RIM_STS_gen_out 0 _ rfl).trans (congrArg (· == 1024) hgen.symm)⟩

/-- Settles O18, an end of a load at a time. -/
theorem loadsEndInFlash : Obligations.LoadsEndInFlash := by
  unfold Obligations.LoadsEndInFlash
  refine ⟨?image, ?firmware, ?key, ?refused, ?erased⟩
  case image =>
    intro s t l hpow hload
    refine completes_run (f := fun m => m.imageVerified) rfl hpow ?_
    rw [imageVerified_load (m := s.m.advance t) hload]
    rw [show (s.m.advance t).cfg RST_CTRL_img_sel = s.m.cfg RST_CTRL_img_sel from rfl]
    have htouch := Mach.endVerify_touch ((s.m.advance t).imageStored (1 - s.m.cfg RST_CTRL_img_sel) l.data) l (imageFault l.data)
    have hflash := htouch.1 33 (by decide)
    refine ⟨?_, ?_⟩
    · rw [show (Mach.endVerify _ l _).flash = _ from hflash]
      rcases cfg_bit s.m RST_CTRL_img_sel rfl 0 with hsel | hsel
      · rw [hsel]; rfl
      · rw [hsel]; rfl
    · exact (congrArg (bit · _) (fld_touch htouch RST_IMG_valid 0 rfl)).trans
        ((imageStored_valid _ (by omega) _).trans (imageValid_flash _ _ _ hflash.symm))
  case firmware =>
    intro s t l hpow hrec hload
    refine completes_run (f := fun m => m.firmwareVerified) rfl hpow ?_
    rw [firmwareVerified_flash (m := s.m.advance t) hrec hload]
    rcases fld_bit s.m RIM_STS_bank rfl 0 with hbank | hbank
    · rw [hbank, show (s.m.advance t).fld RIM_STS_bank = 0 from hbank]; rfl
    · rw [hbank, show (s.m.advance t).fld RIM_STS_bank = 1 from hbank]; rfl
  case key =>
    intro s t k hpow hqueue husage hwide
    refine completes_run (f := fun m => m.loadDone true) rfl hpow ?_
    obtain ⟨hkey, hu, hver, hq⟩ := installKey_shows (((s.m.advance t).onRim fun r => { r with queue := [] }).endLoad k 0x00 []) k husage hwide
    have hempty := hq.trans (congrArg Rim.queue (endLoad_rim ..))
    rw [loadDone_written (m := s.m.advance t) hqueue, nextLoad_empty _ _ hempty]
    exact ⟨hkey, hu, hver, hempty⟩
  case refused =>
    intro s t k hpow hqueue
    refine completes_run (f := fun m => m.loadDone false) rfl hpow ?_
    obtain ⟨hcode, hevt, hrim⟩ := refuseLoad_shows ((s.m.advance t).onRim fun r => { r with queue := [] }) k (code := 0x25) (by decide)
    have hempty := congrArg Rim.queue hrim
    rw [loadDone_failed (m := s.m.advance t) hqueue, nextLoad_empty _ _ hempty]
    exact ⟨hcode, hevt, (congrArg Rim.keys hrim :), hempty⟩
  case erased =>
    intro s t hpow herasing
    refine completes_run (f := fun m => if m.rim.erasing then (m.onRim fun r => { r with erasing := false }).advanceGen else m) rfl hpow ?_
    rw [if_pos (show (s.m.advance t).rim.erasing = true from herasing)]
    exact ⟨rfl, advanceGen_shows ((s.m.advance t).onRim fun r => { r with erasing := false })⟩

end Sys2Proof.Machine


/-! # The switch core's modes, its faults and its ageing (R321, R325–R327, R330–R332, R336) -/

namespace Sys2Proof.Machine

/-! ### SWC_CMD -/

/-- A command that is a write of SWC_CMD, from what it does to the module as the write finds it; the record of the write leaves the
switch core and its page. -/
theorem completes_swcCommand {c : Instr} {s : State} {t : Nat} {src : Src} {v : Nat} {P : Mach → Prop}
    (h : exec c s = s.run t fun m => m.put src 0x10 0x044 v) (hpow : s.m.powered = true) (hsrc : s.m.mayWrite src)
    (hv : plainCmd 0x10 0x044 v = true)
    (hP : ∀ k, (s.m.advance t).alike k → ∀ m', m'.swc = (k.swcCommand v).swc →
      (∀ f : Fd, f.page = 0x10 → f.off < 4096 → m'.fld f = (k.swcCommand v).fld f) → P m') : Completes c s P := by
  refine completes_put (page := 0x10) (off := 0x044) (v := v) h hpow hsrc hv fun k i hk _ => ?_
  refine hP k hk _ (swc_of_touch (Mach.auditWrite_touch ..) rfl) fun f hpage hoff => ?_
  exact fld_audit _ _ _ _ _ f 0 (by simp [hpage, hoff])

/-! ### Towards Pairing (R330) -/

/-- A change to Pairing begun: the core shows its cause and leaves the self-test and the permit behind. -/
def Mach.pairingBegun (m : Mach) (cause : Nat) : Mach :=
  ((m.setFld SWC_STS_cause 0 cause).setFld SWC_STS_mode 0 2).onSwc fun c => { c with changing := some 0, passed := false, permit := false }

section
variable {m : Mach} (cause : Nat)

theorem toPairing_pairing (h : m.fld SWC_STS_mode = 0) : m.toPairing cause = m := by
  unfold Mach.toPairing swcMode
  rw [h]
  rfl

theorem toPairing_randing (h : m.fld SWC_STS_mode = 1) : m.toPairing cause = m.pairingBegun cause := by
  unfold Mach.toPairing swcMode
  rw [h]
  rfl

theorem toPairing_leaving (h : m.fld SWC_STS_mode = 2) (hto : m.swc.changing = some 1) :
    m.toPairing cause = (m.startMode 0).onSwc fun c => { c with permit := false } := by
  unfold Mach.toPairing swcMode
  rw [h, hto]
  rfl

end

theorem pairingBegun_mode (m : Mach) (cause : Nat) : (m.pairingBegun cause).fld SWC_STS_mode = 2 := fld_set _ SWC_STS_mode 0 2 rfl

theorem pairingBegun_cause (m : Mach) {cause : Nat} (h : cause < 256) : (m.pairingBegun cause).fld SWC_STS_cause = cause :=
  (fld_set_clear _ SWC_STS_mode SWC_STS_cause 0 0 2 rfl).trans ((fld_set _ SWC_STS_cause 0 cause rfl).trans (Nat.mod_eq_of_lt h))

theorem pairingBegun_fld (m : Mach) (cause : Nat) {f : Fd} (h : (Fd.clear SWC_STS_mode f && Fd.clear SWC_STS_cause f) = true) :
    (m.pairingBegun cause).fld f = m.fld f := by
  simp only [Bool.and_eq_true] at h
  exact (fld_set_clear _ SWC_STS_mode f 0 0 2 h.1).trans (fld_set_clear _ SWC_STS_cause f 0 0 cause h.2)

/-! ### Towards Randing (R331) -/

/-- The change to Randing begun. -/
def Mach.randingBegun (m : Mach) : Mach := (m.setFld SWC_STS_mode 0 2).onSwc fun c => { c with changing := some 1 }

theorem randingBegun_mode (m : Mach) : m.randingBegun.fld SWC_STS_mode = 2 := fld_set _ SWC_STS_mode 0 2 rfl

theorem mayRand_iff (m : Mach) : mayRand m = true ↔ m.fld SWC_STS_mode = 0 ∧ m.swc.passed = true
    ∧ (m.on SWC_CFG_auto = true ∨ m.swc.permit = true)
    ∧ ∀ f, m.swc.faultAt = some f → f + m.cfg SWC_CFG_quiet * 1000000 ≤ m.now := by
  unfold mayRand swcMode
  cases m.swc.faultAt <;> simp [and_assoc]

theorem tryRanding_may {m : Mach} (h : mayRand m = true) : m.tryRanding = m.randingBegun := if_pos h

theorem tryRanding_not {m : Mach} (h : ¬ mayRand m = true) : m.tryRanding = m := if_neg h

/-- Randing permitted by command, and begun where R331 allows it. -/
theorem swcCommand_randing (m : Mach) : m.swcCommand 1 = (m.onSwc fun c => { c with permit := true }).tryRanding := rfl

/-- A self-test passed, as SWC_STS shows it. -/
def Mach.testPassed (m : Mach) : Mach := (m.setFld SWC_STS_test 0 2).onSwc fun c => { c with passed := true }

/-- What SELF_TEST_COMPLETE does (R331). -/
def Mach.selfTestEnded (m : Mach) (pass : Bool) : Mach :=
  if m.fld SWC_STS_test = 1 then (if pass then m.testPassed.tryRanding else (m.setFld SWC_STS_test 0 3).event 0x10 6) else m

theorem selfTestEnded_pass {m : Mach} (h : m.fld SWC_STS_test = 1) : m.selfTestEnded true = m.testPassed.tryRanding := if_pos h

theorem selfTestEnded_fail {m : Mach} (h : m.fld SWC_STS_test = 1) :
    m.selfTestEnded false = (m.setFld SWC_STS_test 0 3).event 0x10 6 := if_pos h

theorem testPassed_mode (m : Mach) : m.testPassed.fld SWC_STS_mode = m.fld SWC_STS_mode := fld_set_clear m SWC_STS_test SWC_STS_mode 0 0 2 rfl

theorem testPassed_test (m : Mach) : m.testPassed.fld SWC_STS_test = 2 := fld_set m SWC_STS_test 0 2 rfl

/-! ### A mode begins (R332) -/

/-- A mode in force, before the frames that waited go on. -/
def Mach.modeEntered (m : Mach) (mode : Nat) : Mach :=
  (m.setFld SWC_STS_mode 0 mode).onSwc fun c => { c with changing := none, waiting := [], fab := { c.fab with turn := 0 } }

theorem modeEntered_mode (m : Mach) {mode : Nat} (h : mode < 4) : (m.modeEntered mode).fld SWC_STS_mode = mode :=
  (fld_set m SWC_STS_mode 0 mode rfl).trans (Nat.mod_eq_of_lt h)

theorem startMode_enters (m : Mach) (mode : Nat) : m.startMode mode = (m.modeEntered mode).cross m.swc.waiting := rfl

/-- With nothing at the inputs and nothing in the fabric, nothing crosses. -/
theorem cross_nothing {m : Mach} (h : m.swc.fab.empty = true) : m.cross [] = m := by
  have hcarry : ∀ randing, (loaded m []).carry randing = (m.swc.fab, []) := fun randing => by
    show runCells randing (25 * (m.swc.fab.inputs.length + 1)) m.swc.fab [] = _
    rw [show 25 * (m.swc.fab.inputs.length + 1) = 25 * m.swc.fab.inputs.length + 24 + 1 from rfl]
    unfold runCells
    rw [if_pos h]
  unfold Mach.cross
  rw [hcarry]
  rfl

theorem startMode_empty {m : Mach} (mode : Nat) (hwait : m.swc.waiting = []) (hfab : m.swc.fab.empty = true) :
    m.startMode mode = m.modeEntered mode := by
  rw [startMode_enters, hwait]
  exact cross_nothing hfab

theorem modeDone_to {m : Mach} {mode : Nat} (hmode : mode < 2) (h : m.swc.changing = some mode) :
    m.modeDone = (((m.modeEntered mode).cross m.swc.waiting).count (SWC_CNT_n.nth 7)).event 0x10 mode := by
  obtain rfl | rfl : mode = 0 ∨ mode = 1 := by omega
  · unfold Mach.modeDone
    rw [h]
    rfl
  · unfold Mach.modeDone
    rw [h]
    rfl

/-- The end of a mode change while no frame waits and no cell is under way. -/
theorem modeDone_empty {m : Mach} {mode : Nat} (hmode : mode < 2) (h : m.swc.changing = some mode) (hwait : m.swc.waiting = [])
    (hfab : m.swc.fab.empty = true) :
    m.modeDone.fld SWC_STS_mode = mode
      ∧ m.modeDone.swc = { m.swc with changing := none, waiting := [], fab := { m.swc.fab with turn := 0 } }
      ∧ m.modeDone.fld (SWC_CNT_n.nth 7) = (m.fld (SWC_CNT_n.nth 7) + 1) % 2 ^ 32 ∧ m.modeDone.evt 0x10 mode = true := by
  rw [modeDone_to hmode h, hwait, cross_nothing (m := m.modeEntered mode) hfab]
  refine ⟨?_, ?_, ?_, evt_event _ _ _ _ (by simp; omega)⟩
  · rw [fld_event _ _ _ _ _ _ rfl, fld_count_clear _ _ _ _ _ _ rfl]
    exact modeEntered_mode m (by omega)
  · rw [Mach.event_swc _ _ _ _ (by decide)]
    rfl
  · rw [fld_event _ _ _ _ _ _ rfl, fld_count _ _ _ _ rfl]
    exact congrArg (fun n => (n + 1) % 2 ^ 32) (fld_set_clear m SWC_STS_mode (SWC_CNT_n.nth 7) 0 0 mode rfl)

/-! ### Faults of the fabric (R327, R330) -/

/-- A fault counted and recorded, and the quiet time begun anew, before the core turns to Pairing. -/
def Mach.faultNoted (m : Mach) (cnt ev : Nat) : Mach :=
  ((m.count (SWC_CNT_n.nth cnt)).event 0x10 ev).onSwc fun c => { c with faultAt := some m.now }

section
variable (m : Mach) {cnt ev : Nat} (hcnt : cnt = 5 ∨ cnt = 6)

theorem faultNoted_fault (cause : Nat) : ((m.count (SWC_CNT_n.nth cnt)).event 0x10 ev).swcFault cause = (m.faultNoted cnt ev).toPairing cause := by
  unfold Mach.swcFault Mach.faultNoted
  rw [Mach.event_now _ _ _ _ (by decide)]
  rfl

theorem faultNoted_swc : (m.faultNoted cnt ev).swc = { m.swc with faultAt := some m.now } :=
  congrArg (fun c : Swc => { c with faultAt := some m.now }) (Mach.event_swc (m.count (SWC_CNT_n.nth cnt)) 0x10 ev .module (by decide))

theorem faultNoted_ports : (m.faultNoted cnt ev).ports = m.ports :=
  Mach.event_ports (m.count (SWC_CNT_n.nth cnt)) 0x10 ev .module (by decide)

theorem faultNoted_evt (hev : ev < 32) : (m.faultNoted cnt ev).evt 0x10 ev = true :=
  evt_event (m.count (SWC_CNT_n.nth cnt)) 0x10 ev .module (by simp [hev])

include hcnt

theorem faultNoted_count : (m.faultNoted cnt ev).fld (SWC_CNT_n.nth cnt) = (m.fld (SWC_CNT_n.nth cnt) + 1) % 2 ^ 32 := by
  obtain rfl | rfl := hcnt
  · exact (fld_event _ 0x10 ev .module (SWC_CNT_n.nth 5) 0 rfl).trans (fld_count m _ 0 1 rfl)
  · exact (fld_event _ 0x10 ev .module (SWC_CNT_n.nth 6) 0 rfl).trans (fld_count m _ 0 1 rfl)

theorem faultNoted_mode : (m.faultNoted cnt ev).fld SWC_STS_mode = m.fld SWC_STS_mode := by
  obtain rfl | rfl := hcnt
  · exact (fld_event _ 0x10 ev .module SWC_STS_mode 0 rfl).trans (fld_count_clear m (SWC_CNT_n.nth 5) _ 0 0 1 rfl)
  · exact (fld_event _ 0x10 ev .module SWC_STS_mode 0 rfl).trans (fld_count_clear m (SWC_CNT_n.nth 6) _ 0 0 1 rfl)

/-- A fault in Randing begins the change to Pairing. -/
theorem faultNoted_randing {cause : Nat} (hev : ev < 32) (hcause : cause < 256) (h : m.fld SWC_STS_mode = 1) :
    let m' := (m.faultNoted cnt ev).toPairing cause
    m'.fld (SWC_CNT_n.nth cnt) = (m.fld (SWC_CNT_n.nth cnt) + 1) % 2 ^ 32 ∧ m'.evt 0x10 ev = true
      ∧ m'.fld SWC_STS_mode = 2 ∧ m'.fld SWC_STS_cause = cause
      ∧ m'.swc = { m.swc with faultAt := some m.now, changing := some 0, passed := false, permit := false } := by
  dsimp only
  rw [toPairing_randing _ ((faultNoted_mode m hcnt).trans h)]
  refine ⟨?_, ?_, pairingBegun_mode .., pairingBegun_cause _ hcause, ?_⟩
  · rw [pairingBegun_fld _ _ (by obtain rfl | rfl := hcnt <;> rfl), faultNoted_count m hcnt]
  · unfold Mach.evt
    rw [pairingBegun_fld _ _ rfl]
    exact faultNoted_evt m hev
  · exact congrArg (fun c : Swc => { c with changing := some 0, passed := false, permit := false }) (faultNoted_swc m)

/-- A fault while the core leaves for Randing ends that change: Pairing begins at once, and the permit is gone. -/
theorem faultNoted_leaving {cause : Nat} (hev : ev < 32) (h : m.fld SWC_STS_mode = 2) (hto : m.swc.changing = some 1) :
    ∃ y : Mach, (m.faultNoted cnt ev).toPairing cause = (y.cross m.swc.waiting).onSwc (fun c => { c with permit := false })
      ∧ y.fld SWC_STS_mode = 0 ∧ y.ports = m.ports ∧ y.evt 0x10 ev = true
      ∧ y.fld (SWC_CNT_n.nth cnt) = (m.fld (SWC_CNT_n.nth cnt) + 1) % 2 ^ 32
      ∧ y.swc = { m.swc with faultAt := some m.now, changing := none, waiting := [], fab := { m.swc.fab with turn := 0 } } := by
  have hswc := faultNoted_swc m (cnt := cnt) (ev := ev)
  refine ⟨(m.faultNoted cnt ev).modeEntered 0, ?_, modeEntered_mode _ (by decide), faultNoted_ports m, ?_, ?_, ?_⟩
  · rw [toPairing_leaving _ ((faultNoted_mode m hcnt).trans h) ((congrArg Swc.changing hswc).trans hto), startMode_enters, hswc]
  · exact (evt_set_clear _ SWC_STS_mode 0 0 0x10 ev rfl).trans (faultNoted_evt m hev)
  · have hclear : Fd.clear SWC_STS_mode (SWC_CNT_n.nth cnt) = true := by obtain rfl | rfl := hcnt <;> rfl
    exact (fld_set_clear _ SWC_STS_mode (SWC_CNT_n.nth cnt) 0 0 0 hclear).trans (faultNoted_count m hcnt)
  · show { (m.faultNoted cnt ev).swc with changing := none, waiting := [], fab := { (m.faultNoted cnt ev).swc.fab with turn := 0 } } = _
    rw [hswc]

end

/-! ### An underrun (R336) -/

/-- The frame in transmission out and stomped, and the underrun counted, before the port starts its next frame. -/
def Mach.underrun (m : Mach) (port : Nat) (f : TxFrame) : Mach :=
  ((((m.emitFrame port { f with fr := { f.fr with fcs := .stomp } }).onPort port fun b => { b with sending := none }).showMem).count
    SWC_CNT_n).event 0x10 2

theorem underrun_shows (m : Mach) (port : Nat) (f : TxFrame) :
    ((m.underrun port f).port port).sending = none ∧ (m.underrun port f).fld SWC_CNT_n = (m.fld SWC_CNT_n + 1) % 2 ^ 32
      ∧ (m.underrun port f).evt 0x10 2 = true
      ∧ ∃ fr : Frame, fr.fcs = .stomp ∧ fr.body = f.fr.body ∧ .frame port fr ∈ (m.underrun port f).outs := by
  obtain ⟨fr, n, houts, hbody, -, hfcs, -, -, hregs, -⟩ := emitFrame_shows m port { f with fr := { f.fr with fcs := .stomp } }
  unfold Mach.underrun
  generalize m.emitFrame port { f with fr := { f.fr with fcs := .stomp } } = y at houts hregs
  refine ⟨?_, ?_, evt_event _ _ _ _ rfl, fr, hfcs, hbody, ?_⟩
  · unfold Mach.port
    rw [Mach.event_ports _ _ _ _ (by decide)]
    exact congrArg (fun o : Option Port => (o.getD {}).sending) (kget_kput_same port { y.port port with sending := none } y.ports)
  · rw [fld_event _ _ _ _ _ _ rfl, fld_count _ _ _ _ rfl]
    have hshown : (y.onPort port fun b => { b with sending := none }).showMem.fld SWC_CNT_n = y.fld SWC_CNT_n :=
      (fld_set_clear _ SWC_MEM_MAX_max SWC_CNT_n 0 0 _ rfl).trans (fld_set_clear _ SWC_MEM_USE_now SWC_CNT_n 0 0 _ rfl)
    rw [hshown, fld_of_regs hregs]
    rfl
  · exact (event_keepsIntake _ 0x10 2 _).2 _ (houts.symm ▸ List.mem_cons_self ..)

/-! ### Ageing (R325) -/

/-- What FWD_ENTRY_AGE_OUT does (R325). -/
def Mach.ageEntry (m : Mach) (e : Nat) : Mach :=
  match kget e m.swc.learnt with
  | some l =>
    if l.hit + m.cfg FWD_AGE_age * 1000000000 ≤ m.now then
      (((m.onSwc fun c => { c with learnt := kdel e c.learnt }).showLearnt).count (FWD_CNT_n.nth 2)).event 0x11 1
    else m
  | none => m

theorem ageEntry_old {m : Mach} {e : Nat} {l : Learnt} (h : kget e m.swc.learnt = some l)
    (hold : l.hit + m.cfg FWD_AGE_age * 1000000000 ≤ m.now) :
    (m.ageEntry e).swc = { m.swc with learnt := kdel e m.swc.learnt }
      ∧ (m.ageEntry e).fld (FWD_CNT_n.nth 2) = (m.fld (FWD_CNT_n.nth 2) + 1) % 2 ^ 32 ∧ (m.ageEntry e).evt 0x11 1 = true := by
  unfold Mach.ageEntry
  rw [h]
  dsimp only
  rw [if_pos hold]
  refine ⟨Mach.event_swc _ _ _ _ (by decide), ?_, evt_event _ _ _ _ rfl⟩
  rw [fld_event _ _ _ _ _ _ rfl, fld_count _ _ _ _ rfl]
  exact congrArg (fun n => (n + 1) % 2 ^ 32) (fld_set_clear _ FWD_USED_learnt (FWD_CNT_n.nth 2) 0 0 _ rfl)

theorem ageEntry_young {m : Mach} {e : Nat}
    (h : ∀ l, kget e m.swc.learnt = some l → m.now < l.hit + m.cfg FWD_AGE_age * 1000000000) : m.ageEntry e = m := by
  unfold Mach.ageEntry
  split
  next l hl => exact if_neg (Nat.not_le.mpr (h l hl))
  next => rfl

/-! ### SWC_CMD in each mode -/

section
variable {m k : Mach} (hk : m.alike k)
include hk

theorem alike_swc : k.swc = m.swc := (congrArg Mach.swc hk.1 :)

theorem alike_mode : k.fld SWC_STS_mode = m.fld SWC_STS_mode := alike_fld hk _ _ (by decide) (by decide)

/-- What R331 asks of the permit, once the command has given it. -/
theorem alike_mayRand : mayRand (k.onSwc fun c => { c with permit := true }) = true ↔ m.fld SWC_STS_mode = 0 ∧ m.swc.passed = true
    ∧ ∀ f, m.swc.faultAt = some f → f + m.cfg SWC_CFG_quiet * 1000000 ≤ m.now := by
  have hmode : (k.onSwc fun c => { c with permit := true }).fld SWC_STS_mode = m.fld SWC_STS_mode := (alike_mode hk :)
  have hcfg : (k.onSwc fun c => { c with permit := true }).cfg SWC_CFG_quiet = m.cfg SWC_CFG_quiet := (cfg_of_force (alike_force hk) _ _ :)
  rw [mayRand_iff, hmode, hcfg]
  show _ ∧ k.swc.passed = true ∧ (_ ∨ true = true) ∧ (∀ f, k.swc.faultAt = some f → _ ≤ k.now) ↔ _
  rw [alike_swc hk, alike_now hk]
  simp

end

/-- Settles O47: commands, faults, the self-test, the quiet period, mode changes and ageing, each by the mode it finds. -/
theorem switchCoreChangesMode : Obligations.SwitchCoreChangesMode := by
  unfold Obligations.SwitchCoreChangesMode
  refine ⟨?pairing, ?pairingThere, ?testLeaves, ?testAgain, ?randing, ?permit, ?reseq, ?reseqThere, ?ecc, ?eccEmpty, ?eccLeaving, ?eccThere,
    ?underrun, ?underrunNone, ?testFails, ?testBegins, ?testPasses, ?testNone, ?quiet, ?quietHeld, ?toRanding, ?toPairing, ?unchanged,
    ?maxCleared, ?aged, ?young⟩
  case pairing =>
    intro s t src hpow hsrc hmode
    refine completes_swcCommand (v := 4) rfl hpow hsrc rfl fun k hk m' hswc hfld => ?_
    have hdo : k.swcCommand 4 = k.pairingBegun 5 := toPairing_randing 5 ((alike_mode hk).trans hmode)
    rw [hswc, hfld _ rfl (by decide), hfld _ rfl (by decide), hdo]
    exact ⟨pairingBegun_mode .., pairingBegun_cause _ (by decide),
      congrArg (fun c : Swc => { c with changing := some 0, passed := false, permit := false }) (alike_swc hk)⟩
  case pairingThere =>
    intro s t src hpow hsrc hmode
    refine completes_swcCommand (v := 4) rfl hpow hsrc rfl fun k hk m' hswc hfld => ?_
    have hdo : k.swcCommand 4 = k := toPairing_pairing 5 ((alike_mode hk).trans hmode)
    rw [hswc, hfld _ rfl (by decide), hfld _ rfl (by decide), hdo]
    exact ⟨(alike_mode hk).trans hmode, alike_fld hk _ _ (by decide) (by decide), (alike_swc hk :)⟩
  case testLeaves =>
    intro s t src hpow hsrc hmode
    refine completes_swcCommand (v := 2) rfl hpow hsrc rfl fun k hk m' hswc hfld => ?_
    have hdo : k.swcCommand 2 = (k.pairingBegun 1).startSelfTest :=
      congrArg Mach.startSelfTest (toPairing_randing 1 ((alike_mode hk).trans hmode))
    rw [hswc, hfld _ rfl (by decide), hfld _ rfl (by decide), hfld _ rfl (by decide), hdo]
    refine ⟨?_, ?_, fld_set _ SWC_STS_test 0 1 rfl,
      congrArg (fun c : Swc => { c with changing := some 0, passed := false, permit := false }) (alike_swc hk)⟩
    · exact (fld_set_clear _ SWC_STS_test SWC_STS_mode 0 0 1 rfl).trans (pairingBegun_mode ..)
    · exact (fld_set_clear _ SWC_STS_test SWC_STS_cause 0 0 1 rfl).trans (pairingBegun_cause _ (by decide))
  case testAgain =>
    intro s t src hpow hsrc hmode
    refine completes_swcCommand (v := 2) rfl hpow hsrc rfl fun k hk m' hswc hfld => ?_
    have hmode' := (alike_mode hk).trans hmode
    have hdo : k.swcCommand 2 = k.startSelfTest := congrArg Mach.startSelfTest (toPairing_pairing 1 hmode')
    rw [hswc, hfld _ rfl (by decide), hfld _ rfl (by decide), hdo]
    exact ⟨(fld_set_clear _ SWC_STS_test SWC_STS_mode 0 0 1 rfl).trans hmode', fld_set _ SWC_STS_test 0 1 rfl,
      congrArg (fun c : Swc => { c with passed := false }) (alike_swc hk)⟩
  case randing =>
    intro s t src hpow hsrc hmode hpassed hquiet
    refine completes_swcCommand (v := 1) rfl hpow hsrc rfl fun k hk m' hswc hfld => ?_
    rw [hswc, hfld _ rfl (by decide), swcCommand_randing, tryRanding_may ((alike_mayRand hk).mpr ⟨hmode, hpassed, hquiet⟩)]
    exact ⟨randingBegun_mode _, congrArg (fun c : Swc => { c with changing := some 1, permit := true }) (alike_swc hk)⟩
  case permit =>
    intro s t src hpow hsrc hheld
    refine completes_swcCommand (v := 1) rfl hpow hsrc rfl fun k hk m' hswc hfld => ?_
    rw [hswc, hfld _ rfl (by decide), swcCommand_randing, tryRanding_not]
    · exact ⟨(alike_mode hk :), congrArg (fun c : Swc => { c with permit := true }) (alike_swc hk)⟩
    · rw [alike_mayRand hk]
      rintro ⟨hmode, hpassed, hquiet⟩
      rcases hheld with hmode' | hpassed' | ⟨f, hfault, hearly⟩
      · exact hmode' hmode
      · exact Bool.noConfusion (hpassed.symm.trans hpassed')
      · exact absurd (hquiet f hfault) (Nat.not_le.mpr hearly)
  case reseq =>
    intro s t hpow hmode
    refine completes_run (f := fun m => if swcMode m = 0 then m else ((m.count (SWC_CNT_n.nth 5)).event 0x10 4).swcFault 4) rfl hpow ?_
    rw [if_neg (by show s.m.fld SWC_STS_mode ≠ 0; omega), faultNoted_fault]
    exact faultNoted_randing (s.m.advance t) (.inl rfl) (by decide) (by decide) hmode
  case reseqThere =>
    intro s t hpow hmode
    exact completes_run (f := fun m => if swcMode m = 0 then m else ((m.count (SWC_CNT_n.nth 5)).event 0x10 4).swcFault 4) rfl hpow
      (if_pos hmode)
  case ecc =>
    intro s t hpow hmode
    refine completes_run (f := fun m => ((m.count (SWC_CNT_n.nth 6)).event 0x10 5).swcFault 3) rfl hpow ?_
    rw [faultNoted_fault]
    exact faultNoted_randing (s.m.advance t) (.inr rfl) (by decide) (by decide) hmode
  case eccEmpty =>
    intro s t hpow hmode hto hwait hfab
    refine completes_run (f := fun m => ((m.count (SWC_CNT_n.nth 6)).event 0x10 5).swcFault 3) rfl hpow ?_
    obtain ⟨y, hy, hmode', -, hevt, hcnt, hswc⟩ := faultNoted_leaving (s.m.advance t) (cause := 3) (ev := 5) (.inr rfl) (by decide) hmode hto
    have hcross : y.cross (s.m.advance t).swc.waiting = y := by
      rw [show (s.m.advance t).swc.waiting = [] from hwait]
      exact cross_nothing (by rw [hswc]; exact hfab)
    rw [faultNoted_fault, hy, hcross]
    exact ⟨hcnt, hevt, hmode', congrArg (fun c : Swc => { c with permit := false }) hswc⟩
  case eccLeaving =>
    intro s t hpow hmode hto
    refine completes_run (f := fun m => ((m.count (SWC_CNT_n.nth 6)).event 0x10 5).swcFault 3) rfl hpow ?_
    rw [faultNoted_fault]
    exact faultNoted_leaving (s.m.advance t) (.inr rfl) (by decide) hmode hto
  case eccThere =>
    intro s t hpow hmode
    refine completes_run (f := fun m => ((m.count (SWC_CNT_n.nth 6)).event 0x10 5).swcFault 3) rfl hpow ?_
    have hmode' := (faultNoted_mode (s.m.advance t) (ev := 5) (.inr rfl)).trans hmode
    rw [faultNoted_fault, toPairing_pairing _ hmode']
    exact ⟨faultNoted_count _ (.inr rfl), faultNoted_evt _ (by decide), hmode', faultNoted_swc _⟩
  case underrun =>
    intro s t port f hpow hsending
    refine completes_run (f := fun m => match (m.port port).sending with
      | some f => (m.underrun port f).kick port
      | none => m) rfl hpow ?_
    rw [show ((s.m.advance t).port port).sending = some f from hsending]
    exact ⟨_, rfl, underrun_shows (s.m.advance t) port f⟩
  case underrunNone =>
    intro s t port hpow hsending
    refine completes_run (f := fun m => match (m.port port).sending with
      | some f => (m.underrun port f).kick port
      | none => m) rfl hpow ?_
    rw [show ((s.m.advance t).port port).sending = none from hsending]
  case testFails =>
    intro s t hpow htest
    refine completes_run (f := fun m => m.selfTestEnded false) rfl hpow ?_
    rw [selfTestEnded_fail (m := s.m.advance t) htest]
    refine ⟨?_, evt_event _ _ _ _ rfl, ?_, Mach.event_swc _ _ _ _ (by decide)⟩
    · exact (fld_event _ 0x10 6 .module SWC_STS_test 0 rfl).trans (fld_set _ SWC_STS_test 0 3 rfl)
    · exact (fld_event _ 0x10 6 .module SWC_STS_mode 0 rfl).trans (fld_set_clear _ SWC_STS_test SWC_STS_mode 0 0 3 rfl)
  case testBegins =>
    intro s t hpow htest hmode hallowed hfault
    refine completes_run (f := fun m => m.selfTestEnded true) rfl hpow ?_
    have hmay : mayRand (s.m.advance t).testPassed = true :=
      (mayRand_iff _).mpr ⟨(testPassed_mode _).trans hmode, rfl, hallowed, fun f hf => nomatch hf.symm.trans hfault⟩
    rw [selfTestEnded_pass (m := s.m.advance t) htest, tryRanding_may hmay]
    exact ⟨(fld_set_clear _ SWC_STS_mode SWC_STS_test 0 0 2 rfl).trans (testPassed_test _), randingBegun_mode _, rfl⟩
  case testPasses =>
    intro s t hpow htest hauto hpermit
    refine completes_run (f := fun m => m.selfTestEnded true) rfl hpow ?_
    have hnot : ¬ mayRand (s.m.advance t).testPassed = true := by
      rw [mayRand_iff]
      rintro ⟨-, -, hauto' | hpermit', -⟩
      · exact Bool.noConfusion (hauto'.symm.trans hauto)
      · exact Bool.noConfusion (hpermit'.symm.trans hpermit)
    rw [selfTestEnded_pass (m := s.m.advance t) htest, tryRanding_not hnot]
    exact ⟨testPassed_test _, testPassed_mode _, rfl⟩
  case testNone =>
    intro s t pass hpow htest
    exact completes_run (f := fun m => m.selfTestEnded pass) rfl hpow (if_neg htest)
  case quiet =>
    intro s t f hpow hmode hpassed hallowed hfault hquiet
    refine completes_run (f := fun m => m.tryRanding) rfl hpow ?_
    rw [tryRanding_may]
    · exact ⟨randingBegun_mode _, rfl⟩
    · rw [mayRand_iff]
      refine ⟨hmode, hpassed, hallowed, fun g hg => ?_⟩
      rw [← Option.some.inj (hfault.symm.trans hg)]
      exact hquiet
  case quietHeld =>
    intro s t hpow hheld
    refine completes_run (f := fun m => m.tryRanding) rfl hpow (tryRanding_not ?_)
    rw [mayRand_iff]
    rintro ⟨hmode, hpassed, hallowed, -⟩
    rcases hheld with hmode' | hpassed' | ⟨hauto, hpermit⟩
    · exact hmode' hmode
    · exact Bool.noConfusion (hpassed.symm.trans hpassed')
    · rcases hallowed with hauto' | hpermit'
      · exact Bool.noConfusion (hauto'.symm.trans hauto)
      · exact Bool.noConfusion (hpermit'.symm.trans hpermit)
  case toRanding =>
    intro s t hpow hto
    refine completes_run (f := fun m => m.modeDone) rfl hpow ⟨⟨(s.m.advance t).modeEntered 1, ?_, modeEntered_mode _ (by decide), rfl, rfl⟩, ?_⟩
    · exact modeDone_to (m := s.m.advance t) (by decide) hto
    · exact modeDone_empty (m := s.m.advance t) (by decide) hto
  case toPairing =>
    intro s t hpow hto
    refine completes_run (f := fun m => m.modeDone) rfl hpow ⟨⟨(s.m.advance t).modeEntered 0, ?_, modeEntered_mode _ (by decide), rfl, rfl⟩, ?_⟩
    · exact modeDone_to (m := s.m.advance t) (by decide) hto
    · exact modeDone_empty (m := s.m.advance t) (by decide) hto
  case unchanged =>
    intro s t hpow hto
    refine completes_run (f := fun m => m.modeDone) rfl hpow ?_
    unfold Mach.modeDone
    rw [show (s.m.advance t).swc.changing = none from hto]
  case maxCleared =>
    intro s t src hpow hsrc
    refine completes_put (page := 0x10) (off := 0x054) (v := 0x80000000) rfl hpow hsrc rfl fun k i hk _ => ?_
    rw [fld_audit _ _ _ _ _ _ _ rfl, swc_of_touch (Mach.auditWrite_touch ..) rfl]
    exact ⟨fld_set k SWC_MEM_MAX_max 0 0 rfl, (alike_swc hk :)⟩
  case aged =>
    intro s t e l hpow hlearnt hage
    exact completes_run (f := fun m => m.ageEntry e) rfl hpow (ageEntry_old (m := s.m.advance t) hlearnt hage)
  case young =>
    intro s t e hpow hyoung
    exact completes_run (f := fun m => m.ageEntry e) rfl hpow (ageEntry_young (m := s.m.advance t) hyoung)

end Sys2Proof.Machine


/-! # The flight recorder: intake, writing, folding and its commands (R374, R375, R377–R379, R382, R383, R385) -/

namespace Sys2Proof.Machine

/-! ### Intake -/

/-- An event that folds waits on the open record it is identical to (R375). -/
def Coil.waits (c : Coil) (o : OpenRec) (tag : Word) : Coil :=
  { c with opened := c.opened.map fun x => if x.seq = o.seq then { x with pending := x.pending ++ [tag] } else x }

section
variable {m : Mach} {p c s a : Nat} {tag : Word} {sn : List Word} {cut : Bool}

theorem intake_closed (h : m.coil.intake = false) : m.intake p c s a tag sn cut = m.count COIL_INTAKE_LOSS := by
  unfold Mach.intake
  rw [h]
  rfl

section
variable (hin : m.coil.intake = true) (hseg : wrapOfTag m tag ≤ m.coil.wrapNo)
include hin hseg

/-- With intake open, and no newer segment to begin, an event finds the record it is identical to, or the FIFO. -/
theorem intake_present : m.intake p c s a tag sn cut = match m.coil.opened.find? (identical p c s a (wrapOfTag m tag) sn) with
    | some o => m.onCoil fun k => k.waits o tag
    | none =>
      if m.coil.fifo.length < 32 then
        m.onCoil fun k => { k with
          fifo := k.fifo ++ [{
            page := p, code := c, sev := s, attr := a, tag := tag, last := tag, rpt := 0,
            wrapNo := wrapOfTag m tag, snap := sn, cut := cut, continued := false }]
          fifoMax := max k.fifoMax (k.fifo.length + 1) }
      else m.loseEvent p s tag := by
  unfold Mach.intake
  rw [hin]
  dsimp only
  rw [if_neg (Nat.not_lt.mpr hseg)]
  rfl

theorem intake_folds {o : OpenRec} (h : m.coil.opened.find? (identical p c s a (wrapOfTag m tag) sn) = some o) :
    m.intake p c s a tag sn cut = m.onCoil fun k => k.waits o tag := by
  rw [intake_present hin hseg, h]

section
variable (hnew : m.coil.opened.find? (identical p c s a (wrapOfTag m tag) sn) = none)
include hnew

theorem intake_joins (hroom : m.coil.fifo.length < 32) : m.intake p c s a tag sn cut = m.onCoil fun k => { k with
    fifo := k.fifo ++ [{
      page := p, code := c, sev := s, attr := a, tag := tag, last := tag, rpt := 0,
      wrapNo := wrapOfTag m tag, snap := sn, cut := cut, continued := false }]
    fifoMax := max k.fifoMax (k.fifo.length + 1) } := by
  rw [intake_present hin hseg, hnew]
  exact if_pos hroom

theorem intake_loses (hfull : 32 ≤ m.coil.fifo.length) : m.intake p c s a tag sn cut = m.loseEvent p s tag := by
  rw [intake_present hin hseg, hnew]
  exact if_neg (Nat.not_lt.mpr hfull)

end

end

end

/-- An event lost at a full FIFO: counted, shown, and added to the tally (R377). -/
theorem loseEvent_shows (m : Mach) (page sev : Nat) (tag : Word) :
    let m' := m.loseEvent page sev tag
    m'.fld (COIL_CNT_n.nth 2) = (m.fld (COIL_CNT_n.nth 2) + 1) % 2 ^ 32 ∧ m'.evt 0x07 0 = true
      ∧ m'.coil.fifo.length = m.coil.fifo.length ∧ m'.coil.slots = m.coil.slots ∧ m'.coil.opened = m.coil.opened
      ∧ ∃ y, m'.coil.tally = some y ∧ y.last = tag ∧ y.n = (m.coil.tally.map Tally.n).getD 0 + 1
        ∧ y.first = (m.coil.tally.map Tally.first).getD tag ∧ y.sev = max ((m.coil.tally.map Tally.sev).getD 0) sev := by
  dsimp only
  unfold Mach.loseEvent
  dsimp only
  have hcoil : ((m.count COIL_INTAKE_LOSS).coilEvent 0).coil = m.coil := coilEvent_coil ..
  have hcount : ((m.count COIL_INTAKE_LOSS).coilEvent 0).fld (COIL_CNT_n.nth 2) = (m.fld (COIL_CNT_n.nth 2) + 1) % 2 ^ 32 :=
    (coilEvent_fld _ 0 rfl).trans (fld_count m COIL_INTAKE_LOSS 0 1 rfl)
  have hevt : ((m.count COIL_INTAKE_LOSS).coilEvent 0).evt 0x07 0 = true := coilEvent_evt _ (by decide)
  generalize (m.count COIL_INTAKE_LOSS).coilEvent 0 = k at hcoil hcount hevt
  rw [hcoil]
  refine ⟨hcount, hevt, ?_, (congrArg Coil.slots hcoil :), (congrArg Coil.opened hcoil :), _, rfl, ?_⟩
  · exact (List.length_map ..).trans (congrArg (fun c : Coil => c.fifo.length) hcoil)
  · cases m.coil.tally with
    | none => exact ⟨rfl, rfl, rfl, rfl⟩
    | some y => exact ⟨rfl, rfl, rfl, rfl⟩

/-! ### Folding -/

/-- A record rewritten in place stands under the same slot. -/
theorem kget_rewrite (c : Coil) (slot seq i : Nat) (f : Rec → Rec) :
    kget i (c.rewrite slot seq f).slots = (kget i c.slots).map fun r => if i = slot ∧ r.seq = seq then f r else r := by
  show kget i (c.slots.map _) = _
  induction c.slots with
  | nil => rfl
  | cons e l ih =>
    obtain ⟨k, r⟩ := e
    have hhead : (if k = slot ∧ r.seq = seq then (k, f r) else (k, r)) = (k, if k = slot ∧ r.seq = seq then f r else r) := by
      split
      · rfl
      · rfl
    rw [List.map_cons]
    dsimp only
    rw [hhead]
    unfold kget
    by_cases hk : k = i
    · rw [if_pos hk, if_pos hk, hk]
      rfl
    · rw [if_neg hk, if_neg hk]
      exact ih

/-- What folding the repeats of a record leaves: nothing but counts and tags of records, the repeats, and the count of folds changes. -/
structure Mach.foldsOf (m x : Mach) : Prop where
  seq : x.coil.seq = m.coil.seq
  index : x.coil.index = m.coil.index
  slot : ∀ {i : Nat} {r : Rec}, kget i m.coil.slots = some r → ∃ n last, kget i x.coil.slots = some { r with rpt := n, last := last }
  fld : ∀ {f : Fd}, Fd.clear COIL_FOLDS f = true → x.fld f = m.fld f

theorem foldRec_folds (m : Mach) (o : OpenRec) : m.foldsOf (m.foldRec o).1 := by
  unfold Mach.foldRec
  split
  next lastTag r hlast hrec =>
    refine ⟨rfl, rfl, fun {i q} hq => ?_, fun {f} h => fld_count_clear _ COIL_FOLDS f 0 0 _ h⟩
    have hslot := kget_rewrite m.coil o.slot o.seq i fun r' => { r' with
      rpt := r'.rpt + (o.pending.take (65535 - r.rpt)).length
      last := if (o.pending.drop (65535 - r.rpt)).isEmpty then lastTag else ((o.pending.take (65535 - r.rpt)).getLast?).getD r'.last }
    rw [hq, Option.map_some] at hslot
    by_cases hhere : i = o.slot ∧ q.seq = o.seq
    · rw [if_pos hhere] at hslot
      exact ⟨_, _, hslot⟩
    · rw [if_neg hhere] at hslot
      exact ⟨q.rpt, q.last, hslot⟩
  next => exact ⟨rfl, rfl, fun {i q} hq => ⟨q.rpt, q.last, hq⟩, fun _ => rfl⟩

theorem closeRec_folds (m : Mach) (o : OpenRec) (keepId : Bool) : m.foldsOf (m.closeRec o keepId) := by
  obtain ⟨hseq, hindex, hslot, hfld⟩ := foldRec_folds m o
  exact ⟨hseq, hindex, hslot, hfld⟩

/-- The rewrite of a record whose repeats all fit (R375). -/
theorem rewriteRec_fits {m : Mach} {o : OpenRec} {r : Rec} (hpend : o.pending ≠ []) (hrec : kget o.slot m.coil.slots = some r)
    (hfits : r.rpt + o.pending.length < 65535) :
    ∃ lastTag, o.pending.getLast? = some lastTag
      ∧ m.rewriteRec o = ((m.onCoil fun c => c.rewrite o.slot o.seq fun r => { r with rpt := r.rpt + o.pending.length, last := lastTag }).onCoil
        fun c => { c with opened := c.opened.map fun x => if x.seq = o.seq then { x with pending := [] } else x }).count
          COIL_FOLDS 0 o.pending.length := by
  obtain ⟨lastTag, hlast⟩ : ∃ t, o.pending.getLast? = some t := ⟨_, List.getLast?_eq_some_getLast hpend⟩
  have htake : o.pending.take (65535 - r.rpt) = o.pending := List.take_of_length_le (by omega)
  have hdrop : o.pending.drop (65535 - r.rpt) = [] := List.drop_eq_nil_of_le (by omega)
  refine ⟨lastTag, hlast, ?_⟩
  unfold Mach.rewriteRec Mach.foldRec
  rw [hlast, hrec]
  simp only [htake, hdrop, List.isEmpty_nil, if_true]
  rw [if_neg]
  simp only [decide_eq_true_eq]
  omega

/-! ### Writing a record -/

/-- The head of the FIFO taken off. -/
def Mach.headTaken (m : Mach) (l : List FifoEntry) : Mach := m.onCoil fun c => { c with fifo := l }

section
variable {m : Mach} {e : FifoEntry} {l : List FifoEntry}

/-- With nothing tallied, the head of the FIFO waits on the record it is identical to, or opens its own. -/
theorem takeHead_untallied (hfifo : m.coil.fifo = e :: l) (htally : m.coil.tally = none) :
    m.takeHead = match m.coil.opened.find? (identical e.page e.code e.sev e.attr e.wrapNo e.snap) with
      | some o => (m.headTaken l).onCoil fun c => c.waits o e.tag
      | none => (m.headTaken l).openRec e := by
  have htaken : ∀ b : Bool, (m.onCoil fun c => { c with fifo := l, tally := if b then none else c.tally }) = m.headTaken l := fun b => by
    show ({ m with coil := { m.coil with fifo := l, tally := if b then none else m.coil.tally } } : Mach)
      = { m with coil := { m.coil with fifo := l, tally := m.coil.tally } }
    rw [htally, ite_self]
  unfold Mach.takeHead
  rw [hfifo]
  dsimp only
  rw [htaken, show (m.headTaken l).coil.tally = none from htally]
  rfl

/-- An event overwritten by the ring's choice of slot, as it is shown (R378). -/
def Mach.overwrites (m : Mach) (lost : Bool) : Mach := if lost then (m.count COIL_OVWR).coilEvent 2 else m

theorem overwrites_coil (m : Mach) (lost : Bool) : (m.overwrites lost).coil = m.coil := by
  unfold Mach.overwrites
  split
  · exact coilEvent_coil ..
  · rfl

/-- The record an event opens (R370). -/
def firstRec (m : Mach) (e : FifoEntry) (continued : Bool) : Rec :=
  { seq := m.coil.seq, tag := e.tag, last := e.last, wrap := m.coil.wrapNo % 2 ^ 16, era := m.coil.wrapNo / 2 ^ 16, page := e.page,
    sev := e.sev, continued := continued, chained := false, continuation := false, pw := decide (e.wrapNo < m.coil.wrapNo), cut := e.cut,
    code := e.code, attr := e.attr, rpt := e.rpt, snap := e.snap }

/-- How it stands open. -/
def firstOpen (m : Mach) (e : FifoEntry) (slot : Nat) : OpenRec :=
  { slot := slot, seq := m.coil.seq, page := e.page, code := e.code, sev := e.sev, attr := e.attr, wrapNo := e.wrapNo, snap := e.snap,
    pending := [] }

/-- A record written, and the ninth open one closed (R375). -/
def Mach.recWritten (m : Mach) (e : FifoEntry) (slot : Nat) (continued : Bool) : Mach :=
  let y := m.writeRec slot (firstRec m e continued) (firstOpen m e slot)
  match y.coil.opened[8]? with
  | some old => y.closeRec old false
  | none => y

theorem openOne_placed {i : Nat} {lost : Bool} (continued : Bool) (h : placeFor m e.sev = some (i, lost)) :
    m.openOne e e.snap true false continued = ((m.overwrites lost).recWritten e i continued, true) := by
  have hpair : ∀ (y : Mach) (o : Option OpenRec), (match o with
      | some old => (y.closeRec old false, true)
      | none => (y, true)) = ((match o with
      | some old => y.closeRec old false
      | none => y), true) := fun y o => by cases o <;> rfl
  unfold Mach.openOne
  rw [h]
  exact hpair ((m.overwrites lost).writeRec i (firstRec (m.overwrites lost) e continued) (firstOpen (m.overwrites lost) e i)) _

theorem openOne_dropped (continued : Bool) (h : placeFor m e.sev = none) :
    m.openOne e e.snap true false continued = ((m.count COIL_DROP).coilEvent 1, false) := by
  unfold Mach.openOne
  rw [h]

/-- What stands once a record is written: its slot, its place in the index, and the count of records. -/
theorem recWritten_shows (m : Mach) (e : FifoEntry) (slot : Nat) (continued : Bool) :
    let m' := m.recWritten e slot continued
    m'.coil.seq = m.coil.seq + 1 ∧ kget (m.coil.seq % 4096) m'.coil.index = some slot ∧ m'.fld COIL_CNT_n = (m.fld COIL_CNT_n + 1) % 2 ^ 32
      ∧ (∀ {f : Fd}, Fd.clear COIL_CNT_n f = true → Fd.clear COIL_FOLDS f = true → m'.fld f = m.fld f)
      ∧ ∃ n last, kget slot m'.coil.slots = some { firstRec m e continued with rpt := n, last := last } := by
  have hcount : (m.writeRec slot (firstRec m e continued) (firstOpen m e slot)).fld COIL_CNT_n = (m.fld COIL_CNT_n + 1) % 2 ^ 32 :=
    fld_count _ COIL_RECORDS 0 1 rfl
  have hkept : ∀ {f : Fd}, Fd.clear COIL_CNT_n f = true →
      (m.writeRec slot (firstRec m e continued) (firstOpen m e slot)).fld f = m.fld f := fun h => fld_count_clear _ COIL_RECORDS _ 0 0 1 h
  have hindex : kget (m.coil.seq % 4096) (m.writeRec slot (firstRec m e continued) (firstOpen m e slot)).coil.index = some slot :=
    kget_kput_same _ _ _
  have hslot : kget slot (m.writeRec slot (firstRec m e continued) (firstOpen m e slot)).coil.slots = some (firstRec m e continued) :=
    kget_kput_same _ _ _
  have hseq : (m.writeRec slot (firstRec m e continued) (firstOpen m e slot)).coil.seq = m.coil.seq + 1 := rfl
  dsimp only
  unfold Mach.recWritten
  dsimp only
  generalize m.writeRec slot (firstRec m e continued) (firstOpen m e slot) = y at hcount hkept hindex hslot hseq
  split
  next old _ =>
    have hfolds := closeRec_folds y old false
    refine ⟨hfolds.seq.trans hseq, ?_, (hfolds.fld rfl).trans hcount, fun h hfold => (hfolds.fld hfold).trans (hkept h), hfolds.slot hslot⟩
    rw [hfolds.index]
    exact hindex
  next => exact ⟨hseq, hindex, hcount, fun h _ => hkept h, _, _, hslot⟩

/-- A snapshot of one slot is one piece of a chain. -/
theorem chunks_short {sn : List Word} (h : sn.length ≤ 8) : chunks 8 5 sn = if sn = [] then [] else [sn] := by
  cases sn with
  | nil => rfl
  | cons w ws =>
    show (w :: ws).take 8 :: chunks 8 4 ((w :: ws).drop 8) = [w :: ws]
    rw [List.take_of_length_le h, List.drop_eq_nil_of_le h]
    rfl

/-- The identity that a closed record passed on is taken up (R376). -/
def Mach.idTaken (m : Mach) (e : FifoEntry) : Mach :=
  m.onCoil fun c => { c with closedId := c.closedId.filter fun o => !sameSource e.page e.code e.sev e.attr e.snap o }

/-- An event with a snapshot of one slot opens one record. -/
theorem openRec_single (m : Mach) {e : FifoEntry} (h : e.snap.length ≤ 8) : ∃ continued,
    let r := (m.idTaken e).openOne e e.snap true false continued
    m.openRec e = r.1 ∨ (r.2 = false ∧ m.openRec e = r.1.count COIL_DROP 0 0) := by
  refine ⟨m.coil.closedId.any (sameSource e.page e.code e.sev e.attr e.snap) || e.continued, ?_⟩
  generalize hcont : (m.coil.closedId.any (sameSource e.page e.code e.sev e.attr e.snap) || e.continued) = continued
  dsimp only
  by_cases hempty : e.snap = []
  · refine .inl ?_
    have hopen : m.openRec e = ((m.idTaken e).openOne e [] true false continued).1 := by
      unfold Mach.openRec
      rw [chunks_short h, if_pos hempty, ← hcont]
      rfl
    rw [hopen, ← hempty]
  · have hopen : m.openRec e = match (m.idTaken e).openOne e e.snap true false continued with
        | (y, true) => y
        | (y, false) => y.count COIL_DROP 0 0 := by
      unfold Mach.openRec
      rw [chunks_short h, if_neg hempty, ← hcont]
      rfl
    rw [hopen]
    split
    next y heq => rw [heq]; exact .inl rfl
    next y heq => rw [heq]; exact .inr ⟨rfl, rfl⟩

end

theorem overwrites_fld (m : Mach) (lost : Bool) {f : Fd} (hovwr : Fd.clear COIL_OVWR f = true) (hevt : Fd.clear (hEvt 0x07) f = true) :
    (m.overwrites lost).fld f = m.fld f := by
  unfold Mach.overwrites
  split
  · exact (coilEvent_fld _ 2 hevt).trans (fld_count_clear _ COIL_OVWR f 0 0 1 hovwr)
  · rfl

theorem overwrites_counted (m : Mach) : (m.overwrites true).fld (COIL_CNT_n.nth 3) = (m.fld (COIL_CNT_n.nth 3) + 1) % 2 ^ 32
    ∧ (m.overwrites true).evt 0x07 2 = true :=
  ⟨(coilEvent_fld _ 2 rfl).trans (fld_count m COIL_OVWR 0 1 rfl), coilEvent_evt _ (by decide)⟩

section
variable {m : Mach} {e : FifoEntry} (hshort : e.snap.length ≤ 8)
include hshort

theorem openRec_placed {i : Nat} {lost : Bool} (h : placeFor m e.sev = some (i, lost)) :
    ∃ continued, m.openRec e = ((m.idTaken e).overwrites lost).recWritten e i continued := by
  obtain ⟨continued, hopen⟩ := openRec_single m hshort
  have hone := openOne_placed (m := m.idTaken e) continued h
  rw [hone] at hopen
  exact ⟨continued, hopen.resolve_right fun h => Bool.noConfusion h.1⟩

/-- A record that finds a slot (R370, R378). -/
theorem openRec_writes {i : Nat} {lost : Bool} (h : placeFor m e.sev = some (i, lost)) :
    let m' := m.openRec e
    m'.coil.seq = m.coil.seq + 1 ∧ kget (m.coil.seq % 4096) m'.coil.index = some i ∧ m'.fld COIL_CNT_n = (m.fld COIL_CNT_n + 1) % 2 ^ 32
      ∧ (lost = true → m'.fld (COIL_CNT_n.nth 3) = (m.fld (COIL_CNT_n.nth 3) + 1) % 2 ^ 32 ∧ m'.evt 0x07 2 = true)
      ∧ ∃ continued n last, kget i m'.coil.slots = some { firstRec m e continued with rpt := n, last := last } := by
  obtain ⟨continued, hopen⟩ := openRec_placed hshort h
  have hcoil := overwrites_coil (m.idTaken e) lost
  have hfirst : firstRec ((m.idTaken e).overwrites lost) e continued = firstRec m e continued := by
    unfold firstRec
    rw [hcoil]
    rfl
  have hcnt : ((m.idTaken e).overwrites lost).fld COIL_CNT_n = m.fld COIL_CNT_n := overwrites_fld _ lost rfl rfl
  obtain ⟨hseq, hindex, hcount, hfld, hslot⟩ := recWritten_shows ((m.idTaken e).overwrites lost) e i continued
  dsimp only
  rw [hopen]
  rw [hcoil] at hseq hindex
  rw [hcnt] at hcount
  rw [hfirst] at hslot
  refine ⟨hseq, hindex, hcount, ?_, continued, hslot⟩
  rintro rfl
  obtain ⟨hovwr, hevt⟩ := overwrites_counted (m.idTaken e)
  exact ⟨(hfld rfl rfl).trans hovwr, (congrArg (bit · 2) (hfld (f := hEvt 0x07) rfl rfl)).trans hevt⟩

/-- A record that finds no slot is lost (R378). -/
theorem openRec_drops (h : placeFor m e.sev = none) :
    let m' := m.openRec e
    m'.coil = (m.idTaken e).coil ∧ m'.fld (COIL_CNT_n.nth 4) = (m.fld (COIL_CNT_n.nth 4) + 1) % 2 ^ 32 ∧ m'.evt 0x07 1 = true := by
  obtain ⟨continued, hopen⟩ := openRec_single m hshort
  rw [openOne_dropped (m := m.idTaken e) continued h] at hopen
  have hcoil : (((m.idTaken e).count COIL_DROP).coilEvent 1).coil = (m.idTaken e).coil := coilEvent_coil ..
  have hcount : (((m.idTaken e).count COIL_DROP).coilEvent 1).fld COIL_DROP = (m.fld COIL_DROP + 1) % 2 ^ 32 :=
    (coilEvent_fld _ 1 rfl).trans (fld_count (m.idTaken e) COIL_DROP 0 1 rfl)
  have hevt : (((m.idTaken e).count COIL_DROP).coilEvent 1).evt 0x07 1 = true := coilEvent_evt _ (by decide)
  dsimp only
  rcases hopen with hopen | ⟨-, hopen⟩
  · rw [hopen]
    exact ⟨hcoil, hcount, hevt⟩
  · rw [hopen]
    refine ⟨hcoil, ?_, (evt_count_clear _ COIL_DROP 0 0 7 1 rfl).trans hevt⟩
    refine (fld_count _ COIL_DROP 0 0 rfl).trans ?_
    rw [hcount, Nat.add_zero]
    exact Nat.mod_mod ..

end

/-! ### The fold rewrite -/

theorem pendingRec_none {m : Mach} (h : ∀ o ∈ m.coil.opened, o.pending = []) : pendingRec m = none := by
  unfold pendingRec
  rw [List.filter_eq_nil_iff.mpr fun o ho => by simp [h o ho]]
  rfl

theorem pendingRec_waits {m : Mach} {o : OpenRec} (h : pendingRec m = some o) : o.pending ≠ [] := by
  have := (List.mem_filter.mp (List.mem_of_getLast? h)).2
  simpa using this

/-! ### COIL_CMD -/

theorem standing_auditWrite (m : Mach) (page : Nat) (src : Src) (off : Nat) (v : Word) :
    (m.auditWrite page src off v).coil.standing = m.coil.standing := intake_standing ..

/-- A flush begins, unless one is in progress (R382). -/
theorem startFlush_standing (m : Mach) : m.startFlush.coil.standing
    = (m.coil.intake, true, (if m.coil.flushing then m.coil.flushAt else m.now), m.coil.shown) := by
  unfold Mach.startFlush
  by_cases h : m.coil.flushing = true
  · rw [if_pos h, if_pos h, ← h]
    rfl
  · rw [if_neg h, if_neg h]
    rfl

theorem startFlush_flash (m : Mach) : m.startFlush.flash = m.flash := by
  unfold Mach.startFlush
  split
  · rfl
  · rfl

theorem alike_coil {m k : Mach} (h : m.alike k) : k.coil = m.coil := (congrArg Mach.coil h.1 :)

/-- Settles O44: intake by what the event finds, the head of the FIFO by what it finds, the fold, and the commands. -/
theorem recorderRuns : Obligations.RecorderRuns := by
  unfold Obligations.RecorderRuns
  refine ⟨?own, ?closed, ?folds, ?joins, ?loses, ?empty, ?waits, ?written, ?dropped, ?nothing, ?fold, ?flush, ?clear, ?fifoMax⟩
  case own =>
    intro s t e hpow hpage hcode
    refine completes_run (f := fun m => m.coilTake e) rfl hpow ?_
    have htake : (s.m.advance t).coilTake e = (s.m.advance t).coilEvent e.code.toNat := if_pos ⟨hpage, hcode⟩
    rw [htake]
    exact ⟨coilEvent_evt _ hcode, coilEvent_coil ..⟩
  case closed =>
    intro s t e hpow hown hin
    refine completes_run (f := fun m => m.coilTake e) rfl hpow ?_
    exact (if_neg hown).trans (intake_closed (m := s.m.advance t) hin)
  case folds =>
    intro s t e o hpow hown hin hseg hfind
    refine completes_run (f := fun m => m.coilTake e) rfl hpow ?_
    have htake : (s.m.advance t).coilTake e = _ := (if_neg hown).trans (intake_folds (m := s.m.advance t) hin hseg hfind)
    rw [htake]
    exact ⟨rfl, rfl⟩
  case joins =>
    intro s t e hpow hown hin hseg hfind hroom
    refine completes_run (f := fun m => m.coilTake e) rfl hpow ?_
    have htake : (s.m.advance t).coilTake e = _ := (if_neg hown).trans (intake_joins (m := s.m.advance t) hin hseg hfind hroom)
    rw [htake]
    exact ⟨rfl, rfl⟩
  case loses =>
    intro s t e hpow hown hin hseg hfind hfull
    refine completes_run (f := fun m => m.coilTake e) rfl hpow ?_
    have htake : (s.m.advance t).coilTake e = _ := (if_neg hown).trans (intake_loses (m := s.m.advance t) hin hseg hfind hfull)
    rw [htake]
    exact loseEvent_shows (s.m.advance t) ..
  case empty =>
    intro s t hpow hfifo
    refine completes_run (f := fun m => m.takeHead) rfl hpow ?_
    unfold Mach.takeHead
    rw [show (s.m.advance t).coil.fifo = [] from hfifo]
  case waits =>
    intro s t e l o hpow hfifo htally hfind
    refine completes_run (f := fun m => m.takeHead) rfl hpow ?_
    rw [takeHead_untallied (m := s.m.advance t) hfifo htally, show (s.m.advance t).coil.opened.find? _ = some o from hfind]
    exact ⟨rfl, rfl⟩
  case written =>
    intro s t e l i lost hpow hfifo htally hfind hshort hplace
    refine completes_run (f := fun m => m.takeHead) rfl hpow ?_
    rw [takeHead_untallied (m := s.m.advance t) hfifo htally, show (s.m.advance t).coil.opened.find? _ = none from hfind]
    have hdesk := openRec_desk ((s.m.advance t).headTaken l) e
    obtain ⟨hseq, hindex, hcount, hlost, continued, n, last, hslot⟩ := openRec_writes (m := (s.m.advance t).headTaken l) hshort hplace
    exact ⟨congrArg (·.1) hdesk, hseq, hindex, hcount, hlost, _, hslot, rfl, rfl, rfl, rfl, rfl, rfl, rfl, rfl, rfl, rfl, rfl, rfl, rfl⟩
  case dropped =>
    intro s t e l hpow hfifo htally hfind hshort hplace
    refine completes_run (f := fun m => m.takeHead) rfl hpow ?_
    rw [takeHead_untallied (m := s.m.advance t) hfifo htally, show (s.m.advance t).coil.opened.find? _ = none from hfind]
    obtain ⟨hcoil, hcount, hevt⟩ := openRec_drops (m := (s.m.advance t).headTaken l) hshort hplace
    dsimp only
    rw [hcoil]
    exact ⟨rfl, rfl, rfl, hcount, hevt⟩
  case nothing =>
    intro s t hpow hnone
    refine completes_run (f := fun m => match pendingRec m with
      | some o => m.rewriteRec o
      | none => m) rfl hpow ?_
    rw [pendingRec_none (m := s.m.advance t) hnone]
  case fold =>
    intro s t o r hpow hpend hrec hseq hfits
    refine completes_run (f := fun m => match pendingRec m with
      | some o => m.rewriteRec o
      | none => m) rfl hpow ?_
    obtain ⟨lastTag, hlast, hdo⟩ := rewriteRec_fits (m := s.m.advance t) (pendingRec_waits hpend) hrec hfits
    rw [show pendingRec (s.m.advance t) = some o from hpend]
    dsimp only
    rw [hdo, hlast]
    have hslot := kget_rewrite s.m.coil o.slot o.seq o.slot fun r => { r with rpt := r.rpt + o.pending.length, last := lastTag }
    rw [hrec, Option.map_some, if_pos ⟨rfl, hseq⟩] at hslot
    exact ⟨fld_count _ COIL_FOLDS 0 _ rfl, hslot, rfl, rfl, rfl⟩
  case flush =>
    intro s t src hpow hsrc
    refine completes_put (page := 0x07) (off := 0x058) (v := 2) rfl hpow hsrc rfl fun k i hk _ => ?_
    have hdo : k.act src 0x07 0x058 i 2 = k.startFlush := rfl
    have hstanding := (standing_auditWrite k.startFlush 0x07 src 0x058 (word 2)).trans (startFlush_standing k)
    rw [alike_coil hk, alike_now hk] at hstanding
    rw [hdo]
    exact ⟨congrArg (·.2.1) hstanding, congrArg (·.1) hstanding, congrArg (·.2.2.1) hstanding,
      (flash_of_touch (Mach.auditWrite_touch ..) rfl).trans ((startFlush_flash k).trans (congrArg Mach.flash hk.1 :))⟩
  case clear =>
    intro s t src hpow hsrc
    refine completes_put (page := 0x07) (off := 0x058) (v := 1) rfl hpow hsrc rfl fun k i hk _ => ?_
    have hdo : k.act src 0x07 0x058 i 1 = k.clearImages := rfl
    rw [hdo]
    refine ⟨?_, congrArg (·.2.2.2) (standing_auditWrite k.clearImages ..), ?_, ?_⟩
    · refine (flash_of_touch (Mach.auditWrite_touch ..) rfl).trans ?_
      show { k.flash with gasp0 := none, gasp1 := none } = _
      rw [show k.flash = s.m.flash from (congrArg Mach.flash hk.1 :)]
    · rw [fld_audit _ _ _ _ _ _ _ rfl]
      exact (fld_set_clear _ COIL_LG_STS_count COIL_LG_STS_present 0 0 0 rfl).trans (fld_set _ COIL_LG_STS_present 0 0 rfl)
    · rw [fld_audit _ _ _ _ _ _ _ rfl]
      exact fld_set _ COIL_LG_STS_count 0 0 rfl
  case fifoMax =>
    intro s t src hpow hsrc
    refine completes_put (page := 0x07) (off := 0x06C) (v := 0x80000000) rfl hpow hsrc rfl fun k i hk _ => ?_
    exact ⟨k.clearFifoMax, congrArg (fun c : Coil => { c with fifoMax := c.fifo.length }) (alike_coil hk), rfl⟩

end Sys2Proof.Machine


/-! # The energy engine: interval ends, over-current and latches (R359, R360, R362, R363) -/

namespace Sys2Proof.Machine

/-! ### Points -/

theorem nrgPt_of_nrg {m x : Mach} (h : x.nrg = m.nrg) (p : Nat) : nrgPt x p = nrgPt m p := by
  unfold nrgPt
  rw [h]

theorem nrgPt_onPt_same (m : Mach) (p : Nat) (f : Point → Point) : nrgPt (m.onPt p f) p = f (nrgPt m p) :=
  congrArg (fun o : Option Point => o.getD {}) (kget_kput_same p (f (nrgPt m p)) m.nrg.points)

theorem nrgPt_onPt_ne (m : Mach) {p q : Nat} (f : Point → Point) (h : q ≠ p) : nrgPt (m.onPt p f) q = nrgPt m q :=
  congrArg (fun o : Option Point => o.getD {}) (kget_kput_ne (f (nrgPt m p)) m.nrg.points h)

/-! ### Interval ends (R359) -/

/-- The point in the entry an ended interval writes. -/
def endedPt (m : Mach) (p extra : Nat) : Point := { nrgPt m p with flags := (nrgPt m p).flags ||| extra }

/-- A point whose interval has ended: its entry, its place and what begins anew. -/
def Mach.ptEnded (m m' : Mach) (p : Nat) (stop : Int) (extra : Nat) : Prop :=
  m'.fld NRG_PT_STS_last p = (m.fld NRG_PT_STS_last p + 1) % 16
    ∧ kget (p * 16 + (m.fld NRG_PT_STS_last p + 1) % 16) m'.nrg.entries = some (entryBytes stop (endedPt m p extra))
    ∧ nrgPt m' p = { nrgPt m p with gained := [0, 0, 0, 0, 0, 0], flags := 0, revs := 0, missed := 0, dmaxImp := 0, dmaxExp := 0 }

/-- A point left as it was, with its entries. -/
def Mach.ptKept (m m' : Mach) (p : Nat) : Prop :=
  m'.fld NRG_PT_STS_last p = m.fld NRG_PT_STS_last p ∧ nrgPt m' p = nrgPt m p
    ∧ ∀ slot < 16, kget (p * 16 + slot) m'.nrg.entries = kget (p * 16 + slot) m.nrg.entries

section
variable {m x y : Mach} {p : Nat} {stop : Int} {extra : Nat}

theorem Mach.ptKept.trans (h : m.ptKept x p) (h' : x.ptKept y p) : m.ptKept y p :=
  ⟨h'.1.trans h.1, h'.2.1.trans h.2.1, fun slot hs => (h'.2.2 slot hs).trans (h.2.2 slot hs)⟩

theorem Mach.ptEnded.kept (h : m.ptEnded x p stop extra) (h' : x.ptKept y p) : m.ptEnded y p stop extra :=
  ⟨h'.1.trans h.1, (h'.2.2 _ (Nat.mod_lt _ (by decide))).trans h.2.1, h'.2.1.trans h.2.2⟩

theorem Mach.ptKept.ended (h : m.ptKept x p) (h' : x.ptEnded y p stop extra) : m.ptEnded y p stop extra := by
  obtain ⟨hlast, hpt, -⟩ := h
  unfold Mach.ptEnded endedPt at h' ⊢
  rw [hlast, hpt] at h'
  exact h'

end

/-- The place, the entry and the point an interval end leaves, before its event. -/
def Mach.ptClosed (m : Mach) (p : Nat) (stop : Int) (extra : Nat) : Mach :=
  ((((m.onNrg fun n => { n with entries := kput (p * 16 + (m.fld NRG_PT_STS_last p + 1) % 16) (entryBytes stop (endedPt m p extra)) n.entries }).setFld
    NRG_PT_STS_last p ((m.fld NRG_PT_STS_last p + 1) % 16)).count (NRG_CNT_n.nth 3)).onPt p fun x => { x with
      gained := [0, 0, 0, 0, 0, 0], flags := 0, revs := 0, missed := 0, dmaxImp := 0, dmaxExp := 0 })

theorem ptClosed_fld (m : Mach) (p : Nat) (stop : Int) (extra : Nat) (f : Fd) (i : Nat) : (m.ptClosed p stop extra).fld f i
    = ((m.setFld NRG_PT_STS_last p ((m.fld NRG_PT_STS_last p + 1) % 16)).count (NRG_CNT_n.nth 3)).fld f i := fld_of_regs rfl f i

theorem endPoint_closes (m : Mach) (p : Nat) (stop : Int) (extra : Nat) :
    m.endPoint p stop extra 0 = if bit (endedPt m p extra).flags 0 then (m.ptClosed p stop extra).event 0x0E 5 (.item p)
      else m.ptClosed p stop extra := rfl

/-- The event of an interval end leaves fields of the page and the engine as they were. -/
theorem endPoint_nrg (m : Mach) (p : Nat) (stop : Int) (extra : Nat) :
    (m.endPoint p stop extra 0).nrg = (m.ptClosed p stop extra).nrg
      ∧ ∀ (f : Fd) (i : Nat), Fd.noEvt 0x0E f = true → (m.endPoint p stop extra 0).fld f i = (m.ptClosed p stop extra).fld f i := by
  rw [endPoint_closes]
  split
  · exact ⟨Mach.event_nrg _ _ _ _ (by decide), fun f i h => fld_event _ _ _ _ _ _ h⟩
  · exact ⟨rfl, fun _ _ _ => rfl⟩

theorem endPoint_count (m : Mach) (p : Nat) (stop : Int) (extra : Nat) :
    (m.endPoint p stop extra 0).fld (NRG_CNT_n.nth 3) = (m.fld (NRG_CNT_n.nth 3) + 1) % 2 ^ 32 := by
  rw [(endPoint_nrg m p stop extra).2 _ _ rfl, ptClosed_fld, fld_count _ _ _ _ rfl, fld_set_clear _ _ _ _ _ _ rfl]
  rfl

theorem endPoint_ends (m : Mach) (p : Nat) (stop : Int) (extra : Nat) : m.ptEnded (m.endPoint p stop extra 0) p stop extra := by
  obtain ⟨hnrg, hfld⟩ := endPoint_nrg m p stop extra
  unfold Mach.ptEnded
  rw [hfld _ _ rfl, ptClosed_fld, hnrg, nrgPt_of_nrg hnrg]
  refine ⟨?_, kget_kput_same _ _ _, nrgPt_onPt_same _ p _⟩
  rw [fld_count_clear _ _ _ _ _ _ rfl, fld_set _ _ _ _ rfl]
  exact Nat.mod_mod ..

theorem endPoint_keeps (m : Mach) {p q : Nat} (stop : Int) (extra : Nat) (h : q ≠ p) : m.ptKept (m.endPoint p stop extra 0) q := by
  obtain ⟨hnrg, hfld⟩ := endPoint_nrg m p stop extra
  unfold Mach.ptKept
  rw [hfld _ _ rfl, ptClosed_fld, hnrg, nrgPt_of_nrg hnrg]
  refine ⟨?_, nrgPt_onPt_ne _ _ h, fun slot hslot => kget_kput_ne _ _ ?_⟩
  · rw [fld_count_clear _ _ _ _ _ _ rfl]
    exact fld_setFld_apart _ NRG_PT_STS_last NRG_PT_STS_last p q _ (Fd.fits_of_fit rfl) (Fd.fits_of_fit rfl) (.inr (.inr (.inl h.symm)))
  · have := Nat.mod_lt (m.fld NRG_PT_STS_last p + 1) (show 0 < 16 by decide)
    omega

theorem endPoint_shedding (m : Mach) (p : Nat) (stop : Int) (extra next : Nat) : shedding (m.endPoint p stop extra next) = shedding m :=
  congrArg (· == 1) (fld_touch (Mach.endPoint_touch m p stop extra next) PACE_STATE_shed_req 0 rfl)

/-- The shed flag that an interval end adds to the flags of a point. -/
def shedFlag (m : Mach) : Nat := if shedding m then 2 else 0

/-- The intervals of distinct points end, each on its own. -/
theorem endPoints_end (stop : Int) (ps : List Nat) (m : Mach) (hnodup : ps.Nodup) :
    let m' := m.each ps fun p m => m.endPoint p stop (0 ||| shedFlag m) 0
    m'.fld (NRG_CNT_n.nth 3) = (m.fld (NRG_CNT_n.nth 3) + ps.length) % 2 ^ 32
      ∧ (∀ p ∈ ps, m.ptEnded m' p stop (shedFlag m)) ∧ ∀ p ∉ ps, m.ptKept m' p := by
  induction ps generalizing m with
  | nil =>
    refine ⟨?_, fun p hp => absurd hp List.not_mem_nil, fun p _ => ⟨rfl, rfl, fun _ _ => rfl⟩⟩
    exact (Nat.mod_eq_of_lt (fld_lt m (NRG_CNT_n.nth 3) 0)).symm
  | cons p ps ih =>
    obtain ⟨hp, hps⟩ := List.nodup_cons.mp hnodup
    have hfirst := endPoint_ends m p stop (shedFlag m)
    have hcount1 := endPoint_count m p stop (shedFlag m)
    have hothers := fun {q : Nat} (h : q ≠ p) => endPoint_keeps m stop (shedFlag m) h
    have hshed : shedFlag (m.endPoint p stop (shedFlag m) 0) = shedFlag m := by
      unfold shedFlag
      rw [endPoint_shedding]
    have hstep : (m.each (p :: ps) fun p m => m.endPoint p stop (0 ||| shedFlag m) 0)
        = (m.endPoint p stop (shedFlag m) 0).each ps fun p m => m.endPoint p stop (0 ||| shedFlag m) 0 := by
      rw [← Nat.zero_or (shedFlag m)]
      rfl
    dsimp only
    rw [hstep]
    obtain ⟨hcount, hended, hkept⟩ := ih (m.endPoint p stop (shedFlag m) 0) hps
    rw [hshed] at hended
    refine ⟨?_, fun q hq => ?_, fun q hq => ?_⟩
    · rw [hcount, hcount1, List.length_cons]
      omega
    · rcases List.mem_cons.mp hq with rfl | hq
      · exact hfirst.kept (hkept q hp)
      · exact (hothers fun h => hp (h ▸ hq)).ended (hended q hq)
    · obtain ⟨hne, hq⟩ := not_or.mp (fun h => hq (List.mem_cons.mpr h))
      exact (hothers hne).trans (hkept q hq)

/-- Every interval in progress ends (R359). -/
theorem endIntervals_end (m : Mach) (stop : Int) (hnodup : (nrgPoints m).Nodup) :
    (m.endIntervals stop 0 0).nrg.began = stop
      ∧ (m.endIntervals stop 0 0).fld (NRG_CNT_n.nth 3) = (m.fld (NRG_CNT_n.nth 3) + (nrgPoints m).length) % 2 ^ 32
      ∧ ∀ p ∈ nrgPoints m, m.ptEnded (m.endIntervals stop 0 0) p stop (shedFlag m) := by
  have hdo : m.endIntervals stop 0 0 = (m.each (nrgPoints m) fun p m => m.endPoint p stop (0 ||| shedFlag m) 0).onNrg fun b =>
    { b with began := stop } := rfl
  obtain ⟨hcount, hended, -⟩ := endPoints_end stop (nrgPoints m) m hnodup
  rw [hdo]
  generalize (m.each (nrgPoints m) fun p m => m.endPoint p stop (0 ||| shedFlag m) 0) = y at hcount hended
  exact ⟨rfl, hcount, hended⟩

/-! ### Over-current (R363) -/

/-- The marks of a point taken when its over-current time ends. -/
def Mach.marksTaken (m : Mach) (p : Nat) : Mach := m.onPt p fun b => { b with above := false, below := false }

section
variable {m : Mach} {p : Nat}

theorem overCurrent_is (m : Mach) (p : Nat) : m.overCurrent p =
    if !m.flag NRG_PT_STS_oc p && (nrgPt m p).above then
      (((((m.marksTaken p).setFlag NRG_PT_STS_oc p true).onPt p fun b => b.flag 7).count (NRG_CNT_n.nth 1)).eventAlways 0x0E 1 (.item p))
    else if m.flag NRG_PT_STS_oc p && (nrgPt m p).below then ((m.marksTaken p).setFlag NRG_PT_STS_oc p false).event 0x0E 2 (.item p)
    else m.marksTaken p := rfl

theorem overCurrent_asserts (hoc : m.flag NRG_PT_STS_oc p = false) (habove : (nrgPt m p).above = true) :
    m.overCurrent p = (((((m.marksTaken p).setFlag NRG_PT_STS_oc p true).onPt p fun b => b.flag 7).count (NRG_CNT_n.nth 1)).eventAlways
      0x0E 1 (.item p)) := by
  rw [overCurrent_is, hoc, habove]
  rfl

theorem overCurrent_clears (hoc : m.flag NRG_PT_STS_oc p = true) (hbelow : (nrgPt m p).below = true) :
    m.overCurrent p = ((m.marksTaken p).setFlag NRG_PT_STS_oc p false).event 0x0E 2 (.item p) := by
  rw [overCurrent_is, hoc, hbelow]
  rfl

theorem overCurrent_stays (h : (if m.flag NRG_PT_STS_oc p then (nrgPt m p).below else (nrgPt m p).above) = false) :
    m.overCurrent p = m.marksTaken p := by
  rw [overCurrent_is]
  cases hoc : m.flag NRG_PT_STS_oc p
  · rw [hoc, if_neg (by decide)] at h
    rw [h]
    rfl
  · rw [hoc, if_pos rfl] at h
    rw [h]
    rfl

theorem marksTaken_pt (m : Mach) (p : Nat) : nrgPt (m.marksTaken p) p = { nrgPt m p with above := false, below := false } :=
  nrgPt_onPt_same ..

/-- Over-current asserted: shown, counted, marked in the interval, and recorded. -/
theorem overCurrent_asserted (hoc : m.flag NRG_PT_STS_oc p = false) (habove : (nrgPt m p).above = true) :
    (m.overCurrent p).flag NRG_PT_STS_oc p = true ∧ (m.overCurrent p).fld (NRG_CNT_n.nth 1) = (m.fld (NRG_CNT_n.nth 1) + 1) % 2 ^ 32
      ∧ (m.overCurrent p).evt 0x0E 1 = true
      ∧ nrgPt (m.overCurrent p) p = { nrgPt m p with above := false, below := false, flags := (nrgPt m p).flags ||| 2 ^ 7 } := by
  have hpt : nrgPt (((m.marksTaken p).setFlag NRG_PT_STS_oc p true).onPt p fun b => b.flag 7) p
      = { nrgPt m p with above := false, below := false, flags := (nrgPt m p).flags ||| 2 ^ 7 } := by
    rw [nrgPt_onPt_same, show nrgPt ((m.marksTaken p).setFlag NRG_PT_STS_oc p true) p = _ from marksTaken_pt m p]
    rfl
  rw [overCurrent_asserts hoc habove]
  refine ⟨?_, ?_, evt_eventAlways _ _ _ _ rfl, ?_⟩
  · unfold Mach.flag
    rw [fld_eventAlways _ _ _ _ _ _ rfl, fld_count_clear _ _ _ _ _ _ rfl, fld_onPt]
    exact flag_set _ NRG_PT_STS_oc p true rfl
  · rw [fld_eventAlways _ _ _ _ _ _ rfl, fld_count _ _ _ _ rfl, fld_onPt, fld_flag_clear _ _ _ _ _ _ rfl,
      show (m.marksTaken p).fld (NRG_CNT_n.nth 1) = m.fld (NRG_CNT_n.nth 1) from fld_of_regs rfl _ _]
    rfl
  · exact (nrgPt_of_nrg (nrg_of_touch (Mach.eventAlways_any _ 0x0E 1 (.item p)) rfl) p).trans
      ((nrgPt_of_nrg (Mach.count_nrg ..) p).trans hpt)

/-- Over-current cleared. -/
theorem overCurrent_cleared (hoc : m.flag NRG_PT_STS_oc p = true) (hbelow : (nrgPt m p).below = true) :
    (m.overCurrent p).flag NRG_PT_STS_oc p = false ∧ (m.overCurrent p).evt 0x0E 2 = true
      ∧ nrgPt (m.overCurrent p) p = { nrgPt m p with above := false, below := false } := by
  rw [overCurrent_clears hoc hbelow]
  refine ⟨?_, evt_event _ _ _ _ rfl, ?_⟩
  · unfold Mach.flag
    rw [fld_event _ _ _ _ _ _ rfl]
    exact flag_set _ NRG_PT_STS_oc p false rfl
  · rw [nrgPt_of_nrg (Mach.event_nrg _ _ _ _ (by decide))]
    exact marksTaken_pt m p

end

/-! ### Latches (R360) -/

/-- Accumulator `a` of a point in its latch words. -/
def Mach.accLatched (m : Mach) (p : Nat) (b : Point) (a : Nat) : Mach :=
  ((m.setFld (NRG_L_ACC_LO_w.nth a) p (nthD b.accs a 0 % 2 ^ 32)).setFld (NRG_L_ACC_HI_wrap.nth a) p (nthD b.wraps a 0)).setFld
    (NRG_L_ACC_HI_count.nth a) p (nthD b.accs a 0 / 2 ^ 32)

/-- What the latch words of an accumulator show. -/
def Mach.accShown (m : Mach) (p : Nat) (b : Point) (a : Nat) : Prop :=
  m.fld (NRG_L_ACC_LO_w.nth a) p = nthD b.accs a 0 % 2 ^ 32 ∧ m.fld (NRG_L_ACC_HI_count.nth a) p = nthD b.accs a 0 / 2 ^ 32 % 2 ^ 16
    ∧ m.fld (NRG_L_ACC_HI_wrap.nth a) p = nthD b.wraps a 0 % 2 ^ 8

/-- The latch fields of an accumulator. -/
def accFds (a : Nat) : List Fd := [NRG_L_ACC_LO_w.nth a, NRG_L_ACC_HI_wrap.nth a, NRG_L_ACC_HI_count.nth a]

theorem accFds_apart : ∀ a < 6, ∀ b < 6, a ≠ b → ∀ f ∈ accFds a, ∀ g ∈ accFds b, Fd.clear f g = true := by decide

theorem accFds_own : ∀ a < 6, (accFds a).all Fd.fit = true ∧ Fd.clear (NRG_L_ACC_HI_count.nth a) (NRG_L_ACC_HI_wrap.nth a) = true
    ∧ Fd.clear (NRG_L_ACC_HI_count.nth a) (NRG_L_ACC_LO_w.nth a) = true ∧ Fd.clear (NRG_L_ACC_HI_wrap.nth a) (NRG_L_ACC_LO_w.nth a) = true := by
  decide

theorem accLatched_shown (m : Mach) (p : Nat) (b : Point) {a : Nat} (ha : a < 6) : (m.accLatched p b a).accShown p b a := by
  obtain ⟨hfit, hcw, hcl, hwl⟩ := accFds_own a ha
  simp only [accFds, List.all_cons, List.all_nil, Bool.and_true, Bool.and_eq_true] at hfit
  obtain ⟨hlo, hwrap, hcount⟩ := hfit
  unfold Mach.accLatched
  refine ⟨?_, fld_set _ _ _ _ hcount, ?_⟩
  · rw [fld_set_clear _ _ _ _ _ _ hcl, fld_set_clear _ _ _ _ _ _ hwl, fld_set _ _ _ _ hlo]
    exact Nat.mod_mod ..
  · rw [fld_set_clear _ _ _ _ _ _ hcw]
    exact fld_set _ _ _ _ hwrap

theorem accLatched_fld (m : Mach) (p : Nat) (b : Point) {a : Nat} {g : Fd} (j : Nat) (h : ∀ f ∈ accFds a, Fd.clear f g = true) :
    (m.accLatched p b a).fld g j = m.fld g j := by
  simp only [accFds, List.forall_mem_cons, List.not_mem_nil, false_implies, implies_true, and_true] at h
  obtain ⟨hlo, hwrap, hcount⟩ := h
  unfold Mach.accLatched
  rw [fld_set_clear _ _ _ _ _ _ hcount, fld_set_clear _ _ _ _ _ _ hwrap, fld_set_clear _ _ _ _ _ _ hlo]

/-- The accumulators below `n` latched. -/
theorem accsLatched_show (m : Mach) (p : Nat) (b : Point) {n : Nat} (hn : n ≤ 6) :
    let y := m.each (List.range n) fun a m => m.accLatched p b a
    y.nrg = m.nrg ∧ (∀ a < n, y.accShown p b a)
      ∧ ∀ (g : Fd) (j : Nat), (∀ a < 6, ∀ f ∈ accFds a, Fd.clear f g = true) → y.fld g j = m.fld g j := by
  induction n with
  | zero => exact ⟨rfl, fun a ha => absurd ha (Nat.not_lt_zero a), fun _ _ _ => rfl⟩
  | succ n ih =>
    obtain ⟨hnrg, hshown, hkept⟩ := ih (by omega)
    have hstep : (m.each (List.range (n + 1)) fun a m => m.accLatched p b a)
        = (m.each (List.range n) fun a m => m.accLatched p b a).accLatched p b n := by
      unfold Mach.each
      rw [List.range_succ, List.foldl_append]
      rfl
    dsimp only
    rw [hstep]
    generalize (m.each (List.range n) fun a m => m.accLatched p b a) = y at hnrg hshown hkept
    refine ⟨hnrg, fun a ha => ?_, fun g j h => ?_⟩
    · rcases Nat.lt_succ_iff_lt_or_eq.mp ha with hlt | rfl
      · have hstays : ∀ g ∈ accFds a, (y.accLatched p b n).fld g p = y.fld g p := fun g hg =>
          accLatched_fld y p b p fun f hf => accFds_apart n (by omega) a (by omega) (by omega) f hf g hg
        obtain ⟨hlo, hcount, hwrap⟩ := hshown a hlt
        exact ⟨(hstays _ (by simp [accFds])).trans hlo, (hstays _ (by simp [accFds])).trans hcount, (hstays _ (by simp [accFds])).trans hwrap⟩
      · exact accLatched_shown y p b (by omega)
    · exact (accLatched_fld y p b j (h n (by omega))).trans (hkept g j h)

/-- The words of a latch beside its accumulators. -/
def Mach.tickLatched (m : Mach) (p : Nat) : Mach :=
  (((m.setFld NRG_L_TICK_LO_w p ((nrgPt m p).lastTick % 2 ^ 32)).setFld NRG_L_TICK_HI_w p ((nrgPt m p).lastTick / 2 ^ 32)).setFld
    NRG_L_STS_boot p (((m.setFld NRG_L_TICK_LO_w p ((nrgPt m p).lastTick % 2 ^ 32)).setFld NRG_L_TICK_HI_w p
      ((nrgPt m p).lastTick / 2 ^ 32)).fld TWN_BOOT_n)).setFld NRG_L_STS_dwrap p (dwrapOf (nrgPt m p))

theorem latchPoint_marks (m : Mach) (p : Nat) :
    m.latchPoint p = ((m.tickLatched p).each (List.range 6) fun a y => y.accLatched p (nrgPt m p) a).markLatch p := rfl

theorem tickLatched_shows (m : Mach) (p : Nat) :
    (m.tickLatched p).fld NRG_L_TICK_LO_w p = (nrgPt m p).lastTick % 2 ^ 32
      ∧ (m.tickLatched p).fld NRG_L_TICK_HI_w p = (nrgPt m p).lastTick / 2 ^ 32 % 2 ^ 32
      ∧ (m.tickLatched p).fld NRG_L_STS_boot p = m.fld TWN_BOOT_n ∧ (m.tickLatched p).fld NRG_L_STS_dwrap p = dwrapOf (nrgPt m p) % 2 ^ 6 := by
  unfold Mach.tickLatched
  refine ⟨?_, ?_, ?_, fld_set _ _ _ _ rfl⟩
  · rw [fld_set_clear _ _ _ _ _ _ rfl, fld_set_clear _ _ _ _ _ _ rfl, fld_set_clear _ _ _ _ _ _ rfl, fld_set _ _ _ _ rfl]
    exact Nat.mod_mod ..
  · rw [fld_set_clear _ _ _ _ _ _ rfl, fld_set_clear _ _ _ _ _ _ rfl]
    exact fld_set _ _ _ _ rfl
  · rw [fld_set_clear _ _ _ _ _ _ rfl, fld_set _ _ _ _ rfl, fld_set_clear _ _ _ _ _ _ rfl, fld_set_clear _ _ _ _ _ _ rfl]
    exact Nat.mod_eq_of_lt (fld_lt m TWN_BOOT_n 0)

/-- The mark of a latch: the wraps it compares with, and an event where one has gone round twice. -/
theorem markLatch_shows (m : Mach) (p : Nat) : nrgPt (m.markLatch p) p = { nrgPt m p with latched := (nrgPt m p).wraps }
    ∧ (dwrapOf (nrgPt m p) ≠ 0 → (m.markLatch p).evt 0x0E 4 = true)
    ∧ ∀ (f : Fd) (i : Nat), Fd.noEvt 0x0E f = true → (m.markLatch p).fld f i = m.fld f i := by
  unfold Mach.markLatch
  dsimp only
  split
  next h => exact ⟨nrgPt_onPt_same .., fun hno => absurd h hno, fun f i _ => fld_onPt ..⟩
  next h =>
    refine ⟨?_, fun _ => evt_event _ _ _ _ rfl, fun f i hf => (fld_event _ _ _ _ _ _ hf).trans (fld_onPt ..)⟩
    rw [nrgPt_of_nrg (Mach.event_nrg _ _ _ _ (by decide))]
    exact nrgPt_onPt_same ..

/-- What NRG_PT_CMD.latch shows of a point `b` under index `p` (R360), with the boot count at it. -/
def Mach.latchShown (m : Mach) (p : Nat) (b : Point) (boot : Nat) : Prop :=
  m.fld NRG_L_TICK_LO_w p = b.lastTick % 2 ^ 32 ∧ m.fld NRG_L_TICK_HI_w p = b.lastTick / 2 ^ 32 % 2 ^ 32
    ∧ m.fld NRG_L_STS_boot p = boot ∧ m.fld NRG_L_STS_dwrap p = dwrapOf b % 2 ^ 6 ∧ (∀ a < 6, m.accShown p b a)
    ∧ nrgPt m p = { b with latched := b.wraps } ∧ (dwrapOf b ≠ 0 → m.evt 0x0E 4 = true)

theorem latchPoint_shows (m : Mach) (p : Nat) : (m.latchPoint p).latchShown p (nrgPt m p) (m.fld TWN_BOOT_n) := by
  rw [latchPoint_marks]
  obtain ⟨hlo, hhi, hboot, hdwrap⟩ := tickLatched_shows m p
  obtain ⟨hnrg, hshown, hkept⟩ := accsLatched_show (m.tickLatched p) p (nrgPt m p) (n := 6) (le_refl _)
  generalize ((m.tickLatched p).each (List.range 6) fun a y => y.accLatched p (nrgPt m p) a) = y at hnrg hshown hkept
  obtain ⟨hpt, hevt, hfld⟩ := markLatch_shows y p
  have hsame : nrgPt y p = nrgPt m p := nrgPt_of_nrg hnrg p
  rw [hsame] at hpt hevt
  refine ⟨?_, ?_, ?_, ?_, fun a ha => ?_, hpt, hevt⟩
  · rw [hfld _ _ rfl, hkept _ _ (by decide), hlo]
  · rw [hfld _ _ rfl, hkept _ _ (by decide), hhi]
  · rw [hfld _ _ rfl, hkept _ _ (by decide), hboot]
  · rw [hfld _ _ rfl, hkept _ _ (by decide), hdwrap]
  · have hquiet : ∀ a < 6, ∀ f ∈ accFds a, Fd.noEvt 0x0E f = true := by decide
    obtain ⟨h1, h2, h3⟩ := hshown a ha
    exact ⟨(hfld _ _ (hquiet a ha _ (by simp [accFds]))).trans h1, (hfld _ _ (hquiet a ha _ (by simp [accFds]))).trans h2,
      (hfld _ _ (hquiet a ha _ (by simp [accFds]))).trans h3⟩

theorem accFds_audit : ∀ a < 6, ∀ f ∈ accFds a, (decide (f.page < 256) && decide (f.off < 4096)
    && !(f.page == 7 && (f.off == 0x014 || (decide (COIL_CNT_n.off ≤ f.off) && decide (f.off < COIL_CNT_n.off + 32))))) = true := by decide

/-- The audit record of the write leaves what a latch shows. -/
theorem latchShown_audit {m : Mach} {p : Nat} {b : Point} {boot : Nat} {src : Src} (h : m.latchShown p b boot) :
    (m.auditWrite 0x0E src 0x074 (word 1)).latchShown p b boot := by
  obtain ⟨hlo, hhi, hboot, hdwrap, haccs, hpoint, hevt⟩ := h
  have hacc : ∀ a < 6, ∀ f ∈ accFds a, (m.auditWrite 0x0E src 0x074 (word 1)).fld f p = m.fld f p := fun a ha f hf =>
    fld_audit m 0x0E src 0x074 (word 1) f p (accFds_audit a ha f hf)
  refine ⟨?_, ?_, ?_, ?_, fun a ha => ?_, ?_, fun hd => ?_⟩
  · rw [fld_audit _ _ _ _ _ _ _ rfl, hlo]
  · rw [fld_audit _ _ _ _ _ _ _ rfl, hhi]
  · rw [fld_audit _ _ _ _ _ _ _ rfl, hboot]
  · rw [fld_audit _ _ _ _ _ _ _ rfl, hdwrap]
  · obtain ⟨h1, h2, h3⟩ := haccs a ha
    exact ⟨(hacc a ha _ (by simp [accFds])).trans h1, (hacc a ha _ (by simp [accFds])).trans h2, (hacc a ha _ (by simp [accFds])).trans h3⟩
  · rw [nrgPt_of_nrg (nrg_of_touch (Mach.auditWrite_touch ..) rfl), hpoint]
  · rw [evt_audit _ _ _ _ _ _ _ (by decide) (by decide), hevt hd]

/-! ### Peaks (R362) -/

/-- NRG_PT_CMD.clr_peak of a point. -/
theorem clearPeak_shows (m : Mach) (p : Nat) : (m.nrgCommand p 2).fld NRG_PT_PK_IMP_v p = 0 ∧ (m.nrgCommand p 2).fld NRG_PT_PK_EXP_v p = 0
    ∧ (m.nrgCommand p 2).fld NRG_PT_PK_IMP_T_v p = 0 ∧ (m.nrgCommand p 2).fld NRG_PT_PK_EXP_T_v p = 0 ∧ (m.nrgCommand p 2).nrg = m.nrg := by
  have hdo : m.nrgCommand p 2 = (((m.setFld NRG_PT_PK_IMP_v p 0).setFld NRG_PT_PK_EXP_v p 0).setFld NRG_PT_PK_IMP_T_v p 0).setFld
    NRG_PT_PK_EXP_T_v p 0 := rfl
  rw [hdo]
  refine ⟨?_, ?_, ?_, fld_set _ _ _ _ rfl, rfl⟩
  · rw [fld_set_clear _ _ _ _ _ _ rfl, fld_set_clear _ _ _ _ _ _ rfl, fld_set_clear _ _ _ _ _ _ rfl]
    exact fld_set _ _ _ _ rfl
  · rw [fld_set_clear _ _ _ _ _ _ rfl, fld_set_clear _ _ _ _ _ _ rfl]
    exact fld_set _ _ _ _ rfl
  · rw [fld_set_clear _ _ _ _ _ _ rfl]
    exact fld_set _ _ _ _ rfl

end Sys2Proof.Machine


/-! # Acquisition units: trigger, release and the frames of a record (R346, R347, R353) -/

namespace Sys2Proof.Machine

/-! ### Units -/

theorem acqUnit_of_acq {m x : Mach} (h : x.acq = m.acq) (u : Nat) : acqUnit x u = acqUnit m u := by
  unfold acqUnit
  rw [h]

theorem acqUnit_onAcq (m : Mach) (u : Nat) (f : AcqUnit → AcqUnit) : acqUnit (m.onAcq u f) u = f (acqUnit m u) :=
  congrArg (fun o : Option AcqUnit => o.getD {}) (kget_kput_same u (f (acqUnit m u)) m.acq)

/-- A release asked for in state 4 (R346). -/
theorem acqCommand_release (m : Mach) (u : Nat) :
    acqUnit (m.acqCommand u 1) u = { acqUnit m u with release := (acqUnit m u).release || decide (m.fld ACQ_UNIT_STS_state u = 4) }
      ∧ (m.acqCommand u 1).regs = m.regs := by
  have hdo : m.acqCommand u 1 = if acqState m u == 4 then m.onAcq u fun a => { a with release := true } else m := rfl
  rw [hdo]
  unfold acqState
  by_cases h : m.fld ACQ_UNIT_STS_state u = 4
  · rw [if_pos (beq_iff_eq.mpr h), decide_eq_true h, Bool.or_true]
    exact ⟨acqUnit_onAcq .., rfl⟩
  · rw [if_neg (fun hb => h (beq_iff_eq.mp hb)), decide_eq_false h, Bool.or_false]
    exact ⟨rfl, rfl⟩

/-! ### The frames of a record (R353) -/

section
variable {m : Mach} {u ofs : Nat}

theorem exportFrame_none (h : (acqUnit m u).exported = none) : m.exportFrame u = m := by
  unfold Mach.exportFrame
  rw [h]

theorem exportFrame_held (h : (acqUnit m u).exported = some ofs) (hheld : exportHeld m = true) : m.exportFrame u = m.markHeld u := by
  unfold Mach.exportFrame
  rw [h]
  exact if_pos hheld

theorem exportFrame_waits (h : (acqUnit m u).exported = some ofs) (hheld : exportHeld m = false) (hready : exportReady m = false) :
    m.exportFrame u = m := by
  unfold Mach.exportFrame
  rw [h]
  dsimp only
  rw [hheld, hready]
  rfl

/-- A record held back is marked, with an event the first time. -/
theorem markHeld_shows (h : (acqUnit m u).exported = some ofs) (hheld : exportHeld m = true) :
    acqUnit (m.markHeld u) u = { acqUnit m u with heldMark := true } ∧ (m.markHeld u).ports = m.ports
      ∧ ((acqUnit m u).heldMark = false → (m.markHeld u).evt 0x0D 6 = true) := by
  unfold Mach.markHeld
  rw [hheld, h]
  cases hmark : (acqUnit m u).heldMark with
  | true =>
    have hsame : acqUnit m u = { acqUnit m u with heldMark := true } := by rw [← hmark]
    exact ⟨hsame, rfl, fun hno => Bool.noConfusion hno⟩
  | false =>
    refine ⟨?_, Mach.event_ports _ _ _ _ (by decide), fun _ => evt_event _ _ _ _ rfl⟩
    exact (acqUnit_of_acq (Mach.event_acq _ _ _ _ (by decide)) u).trans (acqUnit_onAcq ..)

/-- The bytes of a record's frame, from its offset and the record's number (R353). -/
def exportPayload (m : Mach) (u ofs number : Nat) : List Byte :=
  bytesBE 1 1 ++ bytesBE 1 u ++ bytesBE 2 0 ++ bytesBE 4 number ++ bytesBE 4 ofs
    ++ bytesBE 2 ((decide ((acqObject m u).length ≤ ofs + 1440)).toNat * 2 ^ 15 + (((acqObject m u).drop ofs).take 1440).length)
    ++ ((acqObject m u).drop ofs).take 1440

/-- The number of a unit's record, as its frames carry it. -/
def recNumber (m : Mach) (u : Nat) : Nat :=
  match (acqUnit m u).record with
  | some r => r.number
  | none => 0

theorem recNumber_getD (m : Mach) (u : Nat) : recNumber m u = ((acqUnit m u).record.map (·.number)).getD 0 := by
  unfold recNumber
  cases (acqUnit m u).record <;> rfl

/-- The frame that takes a unit's record on from an offset (R353). -/
def exportFr (m : Mach) (u ofs : Nat) : Frame :=
  { dst := macOf m ACQ_EXP_DMAC_LO_lo ACQ_EXP_DMAC_HI_hi 0, src := macOf m ACQ_EXP_SMAC_LO_lo ACQ_EXP_SMAC_HI_hi 0
    tag := if m.on ACQ_EXP_TAG_tag_en then
        .ctag ⟨m.cfg ACQ_EXP_TAG_vid % 4096, Nat.mod_lt _ (by decide)⟩ ⟨m.cfg ACQ_EXP_TAG_pcp % 8, Nat.mod_lt _ (by decide)⟩
      else .untagged
    etype := 0x88B5, len := max 64 ((exportPayload m u ofs (recNumber m u)).length + 18 + (m.on ACQ_EXP_TAG_tag_en).toNat * 4)
    fcs := .good, codeErr := false, sec := none, red := .plain, body := .data (exportPayload m u ofs (recNumber m u)) }

/-- The switch core's view of such a frame, which enters at port 23. -/
def exportIngress (m : Mach) (fr : Frame) : Ingress :=
  { fr := fr, port := 23, vid := m.cfg ACQ_EXP_TAG_vid, pcp := m.cfg ACQ_EXP_TAG_pcp, cls := classOf m (m.cfg ACQ_EXP_TAG_pcp) }

/-- The module as the frame leaves it, in the switch core and in its unit. -/
def Mach.exported (m : Mach) (u ofs : Nat) (fr : Frame) : Mach :=
  ((m.inject (exportIngress m fr)).count (ACQ_CNT_n.nth 4)).onAcq u fun a => { a with
    sentTill := (m.inject (exportIngress m fr)).now + exportTime (m.inject (exportIngress m fr)) fr.len
    exported := if (acqObject m u).length ≤ ofs + 1440 then none else some (ofs + 1440)
    release := a.release
      || (decide ((acqObject m u).length ≤ ofs + 1440) && (m.inject (exportIngress m fr)).on ACQ_UNIT_CFG_auto u) }

theorem exportFrame_sends (h : (acqUnit m u).exported = some ofs) (hheld : exportHeld m = false) (hready : exportReady m = true) :
    m.exportFrame u = m.exported u ofs (exportFr m u ofs) := by
  unfold Mach.exportFrame
  rw [h]
  dsimp only
  rw [hheld, hready]
  simp only [Bool.false_eq_true, Bool.not_true, if_false, decide_eq_true_eq]
  rfl

/-- What the frame leaves of its unit, of the ports and of the counts. -/
theorem exported_shows (m : Mach) (u ofs : Nat) (fr : Frame) :
    (m.exported u ofs fr).fld (ACQ_CNT_n.nth 4) = (m.fld (ACQ_CNT_n.nth 4) + 1) % 2 ^ 32
      ∧ acqUnit (m.exported u ofs fr) u = { acqUnit m u with
          sentTill := m.now + exportTime m fr.len, exported := if (acqObject m u).length ≤ ofs + 1440 then none else some (ofs + 1440)
          release := (acqUnit m u).release || (decide ((acqObject m u).length ≤ ofs + 1440) && m.on ACQ_UNIT_CFG_auto u) }
      ∧ (m.exported u ofs fr).ports = (m.inject (exportIngress m fr)).ports := by
  have htouch := Mach.inject_touch m (exportIngress m fr)
  have hforce := force_of_touch htouch rfl
  have htime : exportTime (m.inject (exportIngress m fr)) fr.len = exportTime m fr.len := by
    unfold exportTime
    rw [cfg_of_force hforce]
  unfold Mach.exported
  refine ⟨?_, ?_, rfl⟩
  · rw [fld_onAcq, fld_count _ _ _ _ rfl, fld_touch htouch _ _ rfl]
    rfl
  · rw [acqUnit_onAcq, htime, now_of_touch htouch rfl, on_of_force hforce,
      show acqUnit ((m.inject (exportIngress m fr)).count (ACQ_CNT_n.nth 4)) u = acqUnit m u from acqUnit_of_acq (acq_of_touch htouch rfl) u]

end

/-! ### Energy points and acquisition units -/

/-- A command that is a write of a register under a selector: it acts on what the selector names. -/
theorem completes_selected {c : Instr} {s : State} {t : Nat} {src : Src} {page off v : Nat} {sel : Fd} {P : Mach → Prop}
    (h : exec c s = s.run t fun m => m.put src page off v) (hpow : s.m.powered = true) (hsrc : s.m.mayWrite src)
    (hv : plainCmd page off v = true) (hsel : ∃ d, findReg page off = some d ∧ d.sel = .one sel)
    (hP : ∀ k, (s.m.advance t).alike k → P ((k.act src page off (s.m.fld sel) v).auditWrite page src off (word v))) : Completes c s P := by
  refine completes_put h hpow hsrc hv fun k i hk hi => ?_
  obtain ⟨d, hd, hone⟩ := hsel
  have hidx : i = s.m.fld sel := by
    rw [hi d hd]
    unfold selIndex
    rw [hone]
    rfl
  rw [hidx]
  exact hP k hk

theorem alike_pt {m k : Mach} (h : m.alike k) (p : Nat) : nrgPt k p = nrgPt m p := nrgPt_of_nrg (congrArg Mach.nrg h.1 :) p

theorem alike_unit {m k : Mach} (h : m.alike k) (u : Nat) : acqUnit k u = acqUnit m u := acqUnit_of_acq (congrArg Mach.acq h.1 :) u

/-- Settles O46: the interval ends point by point, the over-current time by its marks, the latch word by word, and the frames of
a record by what holds them. -/
theorem energyAndAcquisitionRun : Obligations.EnergyAndAcquisitionRun := by
  unfold Obligations.EnergyAndAcquisitionRun
  refine ⟨?early, ?ends, ?asserts, ?clears, ?stays, ?latch, ?peak, ?trigger, ?release, ?exportNone, ?exportHeld, ?exportSends, ?exportWaits⟩
  case early =>
    intro s t hpow hearly
    exact completes_run (f := fun m => if intervalEnd m ≤ m.station then m.endIntervals (intervalEnd m) 0 0 else m) rfl hpow
      (if_neg (Int.not_le.mpr hearly))
  case ends =>
    intro s t hpow hdue hnodup
    refine completes_run (f := fun m => if intervalEnd m ≤ m.station then m.endIntervals (intervalEnd m) 0 0 else m) rfl hpow ?_
    rw [if_pos (show intervalEnd (s.m.advance t) ≤ (s.m.advance t).station from hdue)]
    exact endIntervals_end (s.m.advance t) (intervalEnd s.m) hnodup
  case asserts =>
    intro s t p hfires hoc habove
    refine completes_fires (f := fun m => m.overCurrent p) rfl hfires ?_
    exact overCurrent_asserted (m := (s.m.advance t).disarm (.overCurrent p)) hoc habove
  case clears =>
    intro s t p hfires hoc hbelow
    refine completes_fires (f := fun m => m.overCurrent p) rfl hfires ?_
    exact overCurrent_cleared (m := (s.m.advance t).disarm (.overCurrent p)) hoc hbelow
  case stays =>
    intro s t p hfires h
    refine completes_fires (f := fun m => m.overCurrent p) rfl hfires ?_
    rw [overCurrent_stays (m := (s.m.advance t).disarm (.overCurrent p)) h]
    exact ⟨rfl, marksTaken_pt ((s.m.advance t).disarm (.overCurrent p)) p⟩
  case latch =>
    rintro s t src p hpow hsrc rfl
    refine completes_selected (page := 0x0E) (off := 0x074) (v := 1) rfl hpow hsrc rfl ⟨_, rfl, rfl⟩ fun k hk => ?_
    have hdo : k.act src 0x0E 0x074 (s.m.fld NRG_PT_SEL_index) 1 = k.latchPoint (s.m.fld NRG_PT_SEL_index) := rfl
    have hshows := latchShown_audit (src := src) (latchPoint_shows k (s.m.fld NRG_PT_SEL_index))
    rw [alike_pt hk, show k.fld TWN_BOOT_n = s.m.fld TWN_BOOT_n from alike_fld hk _ _ (by decide) (by decide)] at hshows
    rw [hdo]
    exact hshows
  case peak =>
    rintro s t src p hpow hsrc rfl
    refine completes_selected (page := 0x0E) (off := 0x074) (v := 2) rfl hpow hsrc rfl ⟨_, rfl, rfl⟩ fun k hk => ?_
    have hdo : k.act src 0x0E 0x074 (s.m.fld NRG_PT_SEL_index) 2 = k.nrgCommand (s.m.fld NRG_PT_SEL_index) 2 := rfl
    obtain ⟨himp, hexp, himpT, hexpT, hnrg⟩ := clearPeak_shows k (s.m.fld NRG_PT_SEL_index)
    rw [hdo, fld_audit _ _ _ _ _ _ _ rfl, fld_audit _ _ _ _ _ _ _ rfl, fld_audit _ _ _ _ _ _ _ rfl, fld_audit _ _ _ _ _ _ _ rfl,
      nrg_of_touch (Mach.auditWrite_touch ..) rfl]
    exact ⟨himp, hexp, himpT, hexpT, hnrg.trans (congrArg Mach.nrg hk.1 :)⟩
  case trigger =>
    rintro s t src u hpow hsrc rfl
    refine completes_selected (page := 0x0D) (off := 0x078) (v := 2) rfl hpow hsrc rfl ⟨_, rfl, rfl⟩ fun k hk => ?_
    have hdo : k.act src 0x0D 0x078 (s.m.fld ACQ_UNIT_SEL_unit) 2 = k.onAcq (s.m.fld ACQ_UNIT_SEL_unit) fun a => { a with manual := true } := rfl
    rw [hdo, acqUnit_of_acq (acq_of_touch (Mach.auditWrite_touch ..) rfl), acqUnit_onAcq, alike_unit hk]
    rfl
  case release =>
    rintro s t src u hpow hsrc rfl
    refine completes_selected (page := 0x0D) (off := 0x078) (v := 1) rfl hpow hsrc rfl ⟨_, rfl, rfl⟩ fun k hk => ?_
    have hstate : k.fld ACQ_UNIT_STS_state (s.m.fld ACQ_UNIT_SEL_unit) = s.m.fld ACQ_UNIT_STS_state (s.m.fld ACQ_UNIT_SEL_unit) :=
      alike_fld hk _ _ (by decide) (by decide)
    obtain ⟨hunit, hregs⟩ := acqCommand_release k (s.m.fld ACQ_UNIT_SEL_unit)
    rw [alike_unit hk, hstate] at hunit
    have hdo : k.act src 0x0D 0x078 (s.m.fld ACQ_UNIT_SEL_unit) 1 = k.acqCommand (s.m.fld ACQ_UNIT_SEL_unit) 1 := rfl
    rw [hdo, acqUnit_of_acq (acq_of_touch (Mach.auditWrite_touch ..) rfl), fld_audit _ _ _ _ _ _ _ rfl]
    exact ⟨hunit, (fld_of_regs hregs _ _).trans hstate⟩
  case exportNone =>
    intro s t u hpow hnone
    exact completes_run (f := fun m => m.exportFrame u) rfl hpow (exportFrame_none (m := s.m.advance t) hnone)
  case exportHeld =>
    intro s t u ofs hpow hexp hheld
    refine completes_run (f := fun m => m.exportFrame u) rfl hpow ?_
    rw [exportFrame_held (m := s.m.advance t) hexp hheld]
    exact markHeld_shows (m := s.m.advance t) hexp hheld
  case exportSends =>
    intro s t u ofs hpow hexp hheld hready
    refine completes_run (f := fun m => m.exportFrame u) rfl hpow ?_
    rw [exportFrame_sends (m := s.m.advance t) hexp hheld hready]
    obtain ⟨hcount, hunit, hports⟩ := exported_shows (s.m.advance t) u ofs (exportFr (s.m.advance t) u ofs)
    exact ⟨hcount, _, rfl, rfl, rfl, hunit, congrArg (fun n => Payload.data (exportPayload s.m u ofs n)) (recNumber_getD s.m u), hports⟩
  case exportWaits =>
    intro s t u ofs hpow hexp hheld hready
    exact completes_run (f := fun m => m.exportFrame u) rfl hpow (exportFrame_waits (m := s.m.advance t) hexp hheld hready)

end Sys2Proof.Machine
